-- ==== Sys2Proof/Word.lean ====
section
/-! DEFINITION. The words of the device: the 32-bit register word (R3), the 128-bit native word of descriptors,
records and granules (R8), the byte, and the time quantum of device time (R9). -/

namespace Sys2Proof

/-- A register word (R3). -/
abbrev Word := BitVec 32

/-- The native word of 128 bits: descriptor words, records, completion entries, granules (R2, R8). -/
abbrev Gran := BitVec 128

/-- A byte of host memory, DRAM or SRAM. -/
abbrev Byte := BitVec 8

/-- Device time counts quanta of 1/256 ns (R9). -/
abbrev Quanta := Nat

/-- Quanta in one nanosecond. -/
def qNs : Nat := 256

/-- Quanta in one microsecond. -/
def qUs : Nat := 256000

/-- Quanta in one millisecond. -/
def qMs : Nat := 256000000

/-- Quanta in one second. -/
def qSec : Nat := 256000000000

end Sys2Proof
end

