-- ==== Sys2Proof/Syntax.lean ====
section
/-! DEFINITION. The commands of the block: one constructor per row of spec/opcode_table.json. Every command carries
`dt`, the device time that has passed since the command before it, in quanta of 1/256 ns. Data that reaches the
device from outside (fetched ring slots, doorbell pages, fabric messages, samples, sensor readings) is an operand. -/

namespace Sys2Proof

/-- The boot configuration (R396, R436, R445): what the two MRAM copies hold. -/
structure BootCfg where
  /-- BOOT_SLOT: 0 slot A, 1 slot B. -/
  bootSlot : Nat := 0
  /-- MIN_SVN of R434. -/
  minSvn : Nat := 0
  /-- Management port address (R445). -/
  i2cAddr : Nat := 0
  /-- Subsystem vendor ID and subsystem ID (R449). -/
  subsysVendor : Nat := 0
  subsysId : Nat := 0
  /-- REQ_ID of FAB_CFG at reset. -/
  reqId : Nat := 0
  /-- Per DRAM channel: PRESENT, DEV, SIZE_GB. -/
  present0 : Bool := true
  present1 : Bool := false
  dev0 : Nat := 0
  dev1 : Nat := 0
  /-- RATE, ORDER and ILV of DRM_CFG (R395, R397, R398). -/
  rate : Nat := 0
  order : Nat := 0
  ilv : Bool := false
  /-- Sensor trims of CAL_SENSOR: OFFSET and GAIN per sensor. -/
  sensorOffset : List Nat := []
  sensorGain : List Nat := []
  deriving DecidableEq, Repr

/-- The commands (spec/opcode_table.json). -/
inductive Instr where

  /-- REGISTER_WRITE (R478). A host write to a register that has no row of its own sets its fields, refusing
  out-of-range values and setting the named CFG_REJ flag. -/
  | registerWrite (dt : Nat) (fn : Fin 8) (bar2 : Bool) (off : Nat) (size : Nat) (be : BitVec 8) (value : BitVec 64)
  /-- SYS_LOCK_SET (R455). Function 0 writes 1 to SYS_LOCK and every RWL field becomes read-only until the next
  power-on or pin reset. -/
  | sysLockSet (dt : Nat)
  /-- SYS_ISL_TOFS_READ (R454). A read of SYS_ISL_TOFS returns the replica offset and clears PEAK. -/
  | sysIslTofsRead (dt : Nat) (n : Fin 49)
  /-- TIM_NOW_NS_READ (R454). A read of TIM_NOW_NS returns the nanoseconds field and snapshots the seconds and
  fraction registers. -/
  | timNowNsRead (dt : Nat)
  /-- ENC_IDX_ERR_READ (R454). A read of ENC_IDX_ERR returns the last index error and clears WORST. -/
  | encIdxErrRead (dt : Nat) (e : Fin 8)
  /-- SYS_ISL_CFG_WRITE (R18). A write of an engine island's clock request is checked against 160 to 250 MHz and
  scheduled for the next layer boundary, or applied at once if the island is out of service. -/
  | sysIslCfgWrite (dt : Nat) (n : Fin 49) (value : Word)
  /-- ISLAND_RELOCK_DONE (R18). An engine island's clock generator finishes relocking after a frequency change
  and RELOCK clears. -/
  | islandRelockDone (dt : Nat) (n : Fin 49)
  /-- DOWEL_PULSE (R27). Each microsecond TIME issues a dowel pulse, and every island measures its replica
  offset and corrects its rate and phase. -/
  | dowelPulse (dt : Nat) (offs : List (Fin 49 × Int))
  /-- HOLDOVER_ENTRY (R30). After 3 µs without a dowel pulse an island enters holdover, sets HOLDOVER and holds
  new starts, frames, moves and triggers. -/
  | holdoverEntry (dt : Nat) (n : Fin 49)
  /-- BRIDGE_ERR (R22). An uncorrectable error in a granule received across a bridge sets BRIDGE_ERR, discards
  the granule and faults the sending island. -/
  | bridgeErr (dt : Nat) (recv : Fin 49) (send : Fin 49)
  /-- SAFE_STOP_ASSERT (R170). SAFE_STOP_n goes low and is acted on: gates are forced low, engines enter
  SAFE_STOP, tiles blank, axes take the emergency ramp and a severity-6 event is recorded. -/
  | safeStopAssert (dt : Nat)
  /-- SAFE_STOP_END (R170). SAFE_STOP_n has been high for 10 ms without a break and the SAFE_STOP state ends. -/
  | safeStopEnd (dt : Nat)
  /-- GAS_OK_LOW (R171). GAS_OK goes low: KERF grants nothing, requesting engines stay HELD with GAS_HOLD, and
  veneer slots are held. -/
  | gasOkLow (dt : Nat)
  /-- GAS_OK_HIGH (R171). GAS_OK returns high and held starts are released at the next KERF grant. -/
  | gasOkHigh (dt : Nat)
  /-- LAYER_OPEN (R44). LAYER_OPEN is taken at the later of its schedule and the previous barrier release, its
  number and masks are checked, the epoch is set and the boundary window begins. -/
  | layerOpen (dt : Nat) (job : Nat)
  /-- EPOCH_SWEEP_DONE (R49). GRAIN finishes the epoch sweep of every cell, and a pending decay table is checked
  and brought into force. -/
  | epochSweepDone (dt : Nat)
  /-- LAYER_MARK (R45). LAYER_MARK assigns its target's unassigned descriptors to phase PHASE and completes when
  they have completed. -/
  | layerMark (dt : Nat) (job : Nat)
  /-- PHASE_END (R41). A work phase ends once every participating resource has taken its mark and, in EXPOSE,
  every engine's gate is low, and the next state begins. -/
  | phaseEnd (dt : Nat)
  /-- EXPOSE_START (R56). EXPOSE begins at the latest of PREHEAT end, the previous EXPOSE end plus MIN_DWELL_US
  and the end of thermal enforcement. -/
  | exposeStart (dt : Nat)
  /-- LAYER_CLOSE (R46). LAYER_CLOSE is taken for the open layer, or refused with 0x0124 if one was already
  taken, and completes at barrier release. -/
  | layerClose (dt : Nat) (job : Nat)
  /-- LAYER_RESUME (R55). LAYER_RESUME acts on a held layer by ACTION: accept the powder, repeat once, or end
  the layer without exposure. -/
  | layerResume (dt : Nat) (job : Nat)
  /-- BARRIER_READY (R57). A barrier-ready message of the device's group is counted, and when GROUP_SIZE members
  are held the release is set to the latest ready instant plus LEAD_US. -/
  | barrierReady (dt : Nat) (dev : Fin 1024) (payload : List Gran)
  /-- BARRIER_RELEASE (R57). The computed release instant arrives, LAYER_CLOSE completes and the device enters
  state 8. -/
  | barrierRelease (dt : Nat)
  /-- BARRIER_WAIT_REMINDER (R59). Every 10 s of barrier wait a severity-3 event is recorded. -/
  | barrierWaitReminder (dt : Nat)
  /-- MID_LAYER_REBASE (R51). 64,000 ms after the epoch with a layer open, engines hold new starts, tiles blank
  and REBASE is set. -/
  | midLayerRebase (dt : Nat)
  /-- REBASE_SWEEP_START (R51). Once every gate is low after a rebase request, the epoch sweep starts with its
  start instant as the new epoch. -/
  | rebaseSweepStart (dt : Nat)
  /-- SQ_ENABLE (R62). Setting ENABLE of a submission ring checks its base and window, then resets its fetch
  index and producer index to 0. -/
  | sqEnable (dt : Nat) (w : Fin 8) (fn : Fin 8) (r : Fin 64) (value : Word)
  /-- SQ_DISABLE (R63). Clearing ENABLE of a submission ring stops fetching while fetched descriptors complete
  normally. -/
  | sqDisable (dt : Nat) (w : Fin 8) (fn : Fin 8) (r : Fin 64)
  /-- CQ_ENABLE (R62). Setting ENABLE of a completion ring checks it, sets its position to 0 and phase to 1, and
  releases waiting entries. -/
  | cqEnable (dt : Nat) (w : Fin 8) (fn : Fin 8) (c : Fin 16) (value : Word)
  /-- CQ_DISABLE (R84). Clearing ENABLE of a completion ring makes its entries wait in HOST holding their
  places. -/
  | cqDisable (dt : Nat) (w : Fin 8) (fn : Fin 8) (c : Fin 16)
  /-- DB_BASE_WRITE (R64). A write of the doorbell page base is applied only while every ring of the function is
  disabled, else sets CFG_REJ. -/
  | dbBaseWrite (dt : Nat) (w : Fin 8) (fn : Fin 8) (hi : Bool) (value : Word)
  /-- POLL_ENABLE (R68). Setting POLL_EN checks the doorbell page's window and starts polling within 1 µs. -/
  | pollEnable (dt : Nat) (w : Fin 8) (fn : Fin 8) (value : Word)
  /-- DOORBELL_POLL (R69). At the poll interval the device writes POLL_TS and issues the read requests for the
  doorbell page. -/
  | doorbellPoll (dt : Nat) (fn : Fin 8)
  /-- POLL_SNAPSHOT (R68). The poll data arrives and is acted on as one snapshot: HOST_STATE, ACK words,
  consumer indices, then producer indices. -/
  | pollSnapshot (dt : Nat) (fn : Fin 8) (page : Option (List Word))
  /-- POLL_FAIL_TIMEOUT (R441). POLL_FAIL_MAX consecutive failed polls of one function take HOST out of service. -/
  | pollFailTimeout (dt : Nat) (fn : Fin 8)
  /-- DESCRIPTOR_FETCH (R79). Rings with work and staging room are fetched in priority order, at most 64 slots
  per turn. -/
  | descriptorFetch (dt : Nat) (fn : Fin 8) (head : Gran)
  /-- SLOTS_STAGED (R100). Fetched slots arrive in DRAM staging, SQ_CI advances and each descriptor's windows,
  ownership and owner checks are made. -/
  | slotsStaged (dt : Nat) (fn : Fin 8) (r : Fin 64) (slots : List Gran)
  /-- PAYLOAD_STAGED (R100). A descriptor's pointed data arrives in staging and, for vector descriptors, every
  record is checked. -/
  | payloadStaged (dt : Nat) (job : Nat) (data : List Gran)
  /-- DESCRIPTOR_DISPATCH (R77). A staged descriptor is dispatched to its target in slot order once a HOST place
  is reserved and any fence allows. -/
  | descriptorDispatch (dt : Nat) (job : Nat)
  /-- DESCRIPTOR_TAKE (R76). A target takes a descriptor no earlier than its SCHEDULE and executes it, refusing
  one already past unless LATE_OK. -/
  | descriptorTake (dt : Nat) (job : Nat)
  /-- COMPLETION_WRITE (R82). A completion entry is written when its ring has room, followed by CQ_PI and any
  interrupt. -/
  | completionWrite (dt : Nat) (fn : Fin 8)
  /-- BUS_MASTER_DISABLE (R91). Clearing Bus Master Enable stops polling, fetching and writing for the function
  while its resources run on staged work. -/
  | busMasterDisable (dt : Nat) (fn : Fin 8)
  /-- BUS_MASTER_ENABLE (R91). Setting Bus Master Enable resumes polling and writes waiting completions and
  events. -/
  | busMasterEnable (dt : Nat) (fn : Fin 8)
  /-- VF_DISABLE (R104). Clearing VF Enable freezes the virtual functions with CAUSE 8. -/
  | vfDisable (dt : Nat)
  /-- WIN_OWN_WRITE (R92). A write to an ownership register that would give a resource to two functions is not
  applied and sets CFG_REJ. -/
  | winOwnWrite (dt : Nat) (fn : Fin 8) (k : Fin 4) (value : Word)
  /-- WIN_CFG_WRITE (R95). Enabling a window whose base is not aligned to its size clears ENABLE and sets
  CFG_REJ. -/
  | winCfgWrite (dt : Nat) (w : Fin 8) (fn : Fin 8) (win : Fin 16) (value : Word)
  /-- WIN_STAGE_WRITE (R99). A staging area write that would overlap another or exceed installed DRAM is not
  applied. -/
  | winStageWrite (dt : Nat) (fn : Fin 8) (value : Word)
  /-- MOVER_START (R102). A free mover takes the pending request with the earliest deadline. -/
  | moverStart (dt : Nat)
  /-- FIFO_REFILL_DONE (R101). A refill block of records reaches an engine FIFO and its staged data is freed. -/
  | fifoRefillDone (dt : Nat) (n : Fin 34)
  /-- FREEZE_GATE_TIMEOUT (R106). 10 µs into a freeze, each owned engine's gate is forced low at any point and
  no new record starts. -/
  | freezeGateTimeout (dt : Nat) (fn : Fin 8)
  /-- FREEZE_SAFE (R106). When all owned resources are safe, SAFE is set, open descriptors complete and the
  freeze event is raised. -/
  | freezeSafe (dt : Nat) (fn : Fin 8)
  /-- UNFREEZE_FUNCTION (R113). WIN_FRZ_CTL with KIND 0b01 releases a frozen function whose SAFE is 1, disabling
  its rings. -/
  | unfreezeFunction (dt : Nat) (fn : Fin 8)
  /-- UNFREEZE_PEER (R112). WIN_FRZ_CTL with KIND 0b10 releases a frozen fabric peer. -/
  | unfreezePeer (dt : Nat) (dev : Fin 1024)
  /-- VEC_BLOCK (R123). VEC_BLOCK supplies micro-vector records read from host memory to an engine. -/
  | vecBlock (dt : Nat) (job : Nat)
  /-- VEC_INLINE (R123). VEC_INLINE supplies micro-vector records carried in the descriptor. -/
  | vecInline (dt : Nat) (job : Nat)
  /-- ENG_PARK (R125). ENG_PARK makes a kerf-exempt laser-off move to the park position once earlier descriptors
  complete. -/
  | engPark (dt : Nat) (job : Nat)
  /-- ENG_LIMITS (R126). ENG_LIMITS sets new planner limits for the records that follow it. -/
  | engLimits (dt : Nat) (job : Nat)
  /-- RECORD_ENTER_LOOKAHEAD (R177). A record enters the look-ahead, is planned and its path is checked against
  the correction field. -/
  | recordEnterLookahead (dt : Nat) (n : Fin 34)
  /-- KERF_REQUEST (R202). An engine presents a record's envelope to KERF, fixing its request instant. -/
  | kerfRequest (dt : Nat) (n : Fin 34)
  /-- RECORD_START (R135). A record starts once its grant is held and the layer state, link and holds allow. -/
  | recordStart (dt : Nat) (n : Fin 34)
  /-- RECORD_END (R124). The planned spot reaches a record's end, its claim ends and its descriptor completes if
  it is the last record. -/
  | recordEnd (dt : Nat) (n : Fin 34)
  /-- PARK_DONE (R125). The spot comes to rest at the park position, the engine enters PARKED and ENG_PARK
  completes. -/
  | parkDone (dt : Nat) (n : Fin 34)
  /-- SETPOINT_FRAME (R136). Every 500 ns CHLINK sends a SETPOINT or HOLD frame on each bound channel from the
  lagged planned path. -/
  | setpointFrame (dt : Nat)
  /-- RETURN_FRAME (R145). A head's return frame is taken, checked for CRC, sequence and channel, and its status
  acted on. -/
  | returnFrame (dt : Nat) (ch : Fin 32) (frame : Gran) (crc : BitVec 16)
  /-- LINK_UP_TIMEOUT (R146). A channel link not up within 10 ms of binding sets LINK_FAULT and faults the
  channel. -/
  | linkUpTimeout (dt : Nat) (ch : Fin 32)
  /-- LINK_LOSS_FAULT (R147). LOSS_FRAMES consecutive slots without a good return frame set LINK_FAULT and fault
  the channel. -/
  | linkLossFault (dt : Nat) (ch : Fin 32)
  /-- GATE_COMPARE_HIT (R160). The compare unit reaches a grid position, places the pulse edge and advances the
  compare by STEP. -/
  | gateCompareHit (dt : Nat) (n : Fin 34)
  /-- GATE_MON_FAULT (R169). The gate read-back differs from the commanded level for more than 20 ns outside an
  edge, raising GATE_MON and a channel fault. -/
  | gateMonFault (dt : Nat) (ch : Fin 32)
  /-- COR_LOAD (R180). COR_LOAD loads a correction image into the shadow bank and schedules a swap by SWAP. -/
  | corLoad (dt : Nat) (job : Nat)
  /-- COR_LOAD_DONE (R175). A loaded image is checked for CRC, ranges and node setpoints and the shadow bank is
  marked valid or not. -/
  | corLoadDone (dt : Nat) (n : Fin 34)
  /-- COR_SWAP (R180). COR_SWAP requests a bank swap at the next swap point in the stream. -/
  | corSwap (dt : Nat) (job : Nat)
  /-- COR_BANK_SWAP (R179). At the swap point the active and shadow banks are exchanged. -/
  | corBankSwap (dt : Nat) (n : Fin 34)
  /-- COR_SAVE (R180). COR_SAVE writes the active bank's image to host memory. -/
  | corSave (dt : Nat) (job : Nat)
  /-- COR_ECC_ERROR (R181). An uncorrectable error in the active bank faults the engine; in the shadow bank it
  marks the bank not valid. -/
  | corEccError (dt : Nat) (n : Fin 34) (active : Bool)
  /-- SCARF_YIELD (R191). A role-B share held for TAKEOVER_US is yielded and a YIELD notice is issued. -/
  | scarfYield (dt : Nat) (n : Fin 34)
  /-- SCARF_NOTICE (R192). An ABSENT or YIELD notice is checked against zone, layer, source and SIG and marks
  the partner absent. -/
  | scarfNotice (dt : Nat) (dev : Fin 1024) (payload : List Gran)
  /-- TAKEOVER_PASS (R194). At the next JUMP or end of phase-3 work an engine runs owed takeover passes in
  ascending VIDX. -/
  | takeoverPass (dt : Nat) (n : Fin 34)
  /-- SCARF_CONTACT_LOSS (R195). No frame from the remote partner for LOSS_US declares contact lost and roles
  alone decide the remaining shares. -/
  | scarfContactLoss (dt : Nat) (n : Fin 34) (z : Fin 64)
  /-- KERF_GRANT (R204). KERF grants a request whose path conflicts with no claim and no pending request ahead
  of it. -/
  | kerfGrant (dt : Nat) (n : Fin 34)
  /-- REQUEST_STARVING (R205). A request whose hold reaches MAX_HOLD_US becomes starving and conflicting engines
  are made to yield. -/
  | requestStarving (dt : Nat) (n : Fin 34)
  /-- REORDER_UNIT (R207). A request held for REORDER_DELAY_US lets the engine run an eligible reorderable unit
  ahead of it. -/
  | reorderUnit (dt : Nat) (n : Fin 34)
  /-- KERF_HALO_SEND (R209). Every 10 µs the device sends each kerf peer a halo set of its band claims and
  requests. -/
  | kerfHaloSend (dt : Nat)
  /-- KERF_HALO (R209). A kerf halo record from a peer is taken, age-checked and applied to the halo paths. -/
  | kerfHalo (dt : Nat) (dev : Fin 1024) (payload : List Gran)
  /-- GRANT_ARMED (R211). A band grant takes effect 20 µs after KERF decided it. -/
  | grantArmed (dt : Nat) (n : Fin 34)
  /-- KERF_PEER_SILENT (R212). No complete halo set from a peer for STALE_US makes it silent and holds local
  band requests. -/
  | kerfPeerSilent (dt : Nat) (k : Fin 8)
  /-- FROZEN_CLAIM_EXPIRE (R212). A frozen peer's claim path is dropped at its request instant plus 10 ms. -/
  | frozenClaimExpire (dt : Nat) (dev : Fin 1024) (eng : Fin 34)
  /-- MELT_POOL_TICK (R220). At each 1 µs loop tick the engine classifies samples, updates the integrator,
  deposits heat and reads the grain map ahead. -/
  | meltPoolTick (dt : Nat) (n : Fin 34) (samples : List (BitVec 16))
  /-- FEEDBACK_LOST (R230). DARK_LIMIT dark or SAT_LIMIT saturated ticks, or an uncovered slice, make feedback
  missing and record a severity-4 event. -/
  | feedbackLost (dt : Nat) (n : Fin 34)
  /-- INT_CLR (R222). Writing INT_CLR clears the six integrators of the bound channel. -/
  | intClr (dt : Nat) (n : Fin 34)
  /-- GRN_GEOM_WRITE (R223). A write to GRN_GEOM or the origin is applied only in layer state 8 and sets every
  cell to 0. -/
  | grnGeomWrite (dt : Nat) (k : Fin 3) (value : Word)
  /-- GRAIN_HALO_SEND (R233). Every 10 µs the device sends each grain peer SET and ADD runs and an END. -/
  | grainHaloSend (dt : Nat)
  /-- GRAIN_HALO (R235). A grain halo run is taken and applied to copied or owned cells, or discarded if late or
  off grid. -/
  | grainHalo (dt : Nat) (dev : Fin 1024) (payload : List Gran)
  /-- GRAIN_PEER_SILENT (R235). A grain peer that sends no END for STALE_US becomes silent. -/
  | grainPeerSilent (dt : Nat) (k : Fin 8)
  /-- GRN_SAVE (R238). GRN_SAVE writes stored grain-map cells to host memory. -/
  | grnSave (dt : Nat) (job : Nat)
  /-- GRN_LOAD (R238). GRN_LOAD reads grain-map cells from host memory in layer state 8. -/
  | grnLoad (dt : Nat) (job : Nat)
  /-- VNR_FRAME (R245). VNR_FRAME queues one veneer frame to be shown for REPEAT slots. -/
  | vnrFrame (dt : Nat) (job : Nat)
  /-- VNR_ATTACH (R250). VNR_ATTACH checks the tile's configuration and starts its slots at a blank slot 0. -/
  | vnrAttach (dt : Nat) (job : Nat)
  /-- VNR_DETACH (R253). VNR_DETACH blanks the tile and detaches it at the end of the slot. -/
  | vnrDetach (dt : Nat) (job : Nat)
  /-- VENEER_SLOT_START (R251). A tile's slot starts, shows its due frame or is blank or held, and completes
  frames whose last slot ended. -/
  | veneerSlotStart (dt : Nat) (t : Fin 16)
  /-- VENEER_LINE_PERIOD (R256). Each line period VENEER tests KERF_PART sites against claims and holds
  conflicting sites dark. -/
  | veneerLinePeriod (dt : Nat) (t : Fin 16)
  /-- FRAME_SEND_DONE (R255). The last line of a slot's data has been sent and its signature is checked by the
  freeze detector. -/
  | frameSendDone (dt : Nat) (t : Fin 16)
  /-- LINE_BUFFER_ECC_ERROR (R258). An uncorrectable line-buffer error blanks the slot, completes the frame with
  0x05A2 and faults the tile. -/
  | lineBufferEccError (dt : Nat) (t : Fin 16)
  /-- TILE_STATUS (R269). A tile STATUS packet is taken and brings the tile link up when its contents match. -/
  | tileStatus (dt : Nat) (t : Fin 16) (packet : List Byte)
  /-- TILE_LINK_FAULT (R269). 20 µs without a good STATUS faults the tile link and detaches the tile. -/
  | tileLinkFault (dt : Nat) (t : Fin 16)
  /-- TILE_ALARM (R270). An ALARM marks the string failed and sends zero on-time for it. -/
  | tileAlarm (dt : Nat) (t : Fin 16) (packet : List Byte)
  /-- TILE_VOLT (R271). A VOLT packet is checked for string voltage deviation, setting VDEV and requesting a
  probe sweep. -/
  | tileVolt (dt : Nat) (t : Fin 16) (packet : List Byte)
  /-- PROBE_SWEEP (R272). In the frame blanking of every 64th slot, or after a VDEV, a PROBE is sent and the
  tile sweeps each string. -/
  | probeSweep (dt : Nat) (t : Fin 16)
  /-- PROBE_RESULT (R273). A PROBE_RESULT is evaluated and emitters suspect in both passes are stopped out. -/
  | probeResult (dt : Nat) (t : Fin 16) (packet : List Byte)
  /-- STOP_LIST_CLEAR (R275). Writing CLEAR empties VDR_STOP while the tile is detached, otherwise sets CFG_REJ. -/
  | stopListClear (dt : Nat) (t : Fin 16)
  /-- VENEER_DEPOSIT (R276). Every DEP_SLOTS shown slots VENEER deposits each site's delivered energy into the
  grain map. -/
  | veneerDeposit (dt : Nat) (t : Fin 16)
  /-- AX_MOVE (R282). AX_MOVE starts a jerk-limited move, or with RETARGET replaces the target of the move in
  progress. -/
  | axMove (dt : Nat) (job : Nat)
  /-- AX_HOME (R292). AX_HOME starts the hard-stop homing sequence. -/
  | axHome (dt : Nat) (job : Nat)
  /-- AX_STOP (R284). AX_STOP replaces the target with the normal stopping point. -/
  | axStop (dt : Nat) (job : Nat)
  /-- AX_LIMITS (R285). AX_LIMITS applies or latches new speed, acceleration and jerk limits. -/
  | axLimits (dt : Nat) (job : Nat)
  /-- AXIS_MOVE_DONE (R281). The profile comes to rest at its target and the move completes. -/
  | axisMoveDone (dt : Nat) (a : Fin 8)
  /-- STALL (R291). STALL_TICKS periods at ceiling current with load angle beyond 90° freeze the command and
  complete the move with 0x05C0. -/
  | stall (dt : Nat) (a : Fin 8)
  /-- COIL_FAULT (R289). A silent modulator or overcurrent brakes the axis, puts it in FAULT and completes the
  move with 0x05C1. -/
  | coilFault (dt : Nat) (a : Fin 8) (overcurrent : Bool)
  /-- HOME_PRESS_DONE (R292). After 20 ms pressed against the stop, the axis backs off, sets HOME_POS and HOMED
  and AX_HOME completes. -/
  | homePressDone (dt : Nat) (a : Fin 8)
  /-- HOME_NO_STOP (R292). No stall within HOME_MAX microsteps stops the axis and completes AX_HOME with 0x03C2. -/
  | homeNoStop (dt : Nat) (a : Fin 8)
  /-- HOLD_DELAY_EXPIRE (R290). After HOLD_DELAY_MS at rest the coil current target falls to I_HOLD. -/
  | holdDelayExpire (dt : Nat) (a : Fin 8)
  /-- AXIS_ENABLE (R289). Setting ENABLE energises the axis and clears its FAULT refusal. -/
  | axisEnable (dt : Nat) (a : Fin 8)
  /-- AXIS_DISABLE (R289). Clearing ENABLE applies the low-side brake and clears HOMED. -/
  | axisDisable (dt : Nat) (a : Fin 8)
  /-- ENCODER_EDGE (R296). An accepted change of A or B moves ENC_COUNT and is tested against the armed compare. -/
  | encoderEdge (dt : Nat) (e : Fin 8) (a : Bool) (b : Bool) (width : Nat)
  /-- ENC_CMP_PULSE_END (R303). CMP_W × 10 ns after the last hit ENCn_CMP returns low. -/
  | encCmpPulseEnd (dt : Nat) (e : Fin 8)
  /-- ENCODER_INDEX (R298). An accepted index edge latches the count and checks it against the previous index. -/
  | encoderIndex (dt : Nat) (e : Fin 8) (a : Bool) (b : Bool)
  /-- ENCODER_STANDSTILL (R299). No accepted change for STILL_MS puts the encoder at standstill and applies any
  pending correction. -/
  | encoderStandstill (dt : Nat) (e : Fin 8)
  /-- FOLLOW_ERROR (R300). Deviation beyond FOLLOW_LIM for FOLLOW_TICKS ticks sets FOLLOW_ERR and may stop the
  axis. -/
  | followError (dt : Nat) (e : Fin 8)
  /-- ENC_CMP (R302). ENC_CMP arms a compare with value, spacing, direction and hit count. -/
  | encCmp (dt : Nat) (job : Nat)
  /-- ENC_CMP_STOP (R302). ENC_CMP_STOP disarms the armed compare. -/
  | encCmpStop (dt : Nat) (job : Nat)
  /-- ENC_SYNC (R302). ENC_SYNC takes the following reference from the present count and axis position. -/
  | encSync (dt : Nat) (job : Nat)
  /-- ENCODER_ENABLE (R298). Setting ENC_CFG.ENABLE starts counting, with the next index stored unchecked. -/
  | encoderEnable (dt : Nat) (e : Fin 8)
  /-- ENCODER_DISABLE (R305). Clearing ENABLE holds the count, disarms the compare and clears PEND. -/
  | encoderDisable (dt : Nat) (e : Fin 8)
  /-- CAM_CAPTURE (R312). CAM_CAPTURE starts a capture of COUNT frames, optionally firing a trigger pulse. -/
  | camCapture (dt : Nat) (job : Nat)
  /-- CAM_REPROC (R311). CAM_REPROC queues reprocessing of a stored buffer. -/
  | camReproc (dt : Nat) (job : Nat)
  /-- CAM_TABLE (R311). CAM_TABLE loads a shading table or defect list for the next Frame Start. -/
  | camTable (dt : Nat) (job : Nat)
  /-- CAM_STOP (R311). CAM_STOP ends the capture after the frame being received. -/
  | camStop (dt : Nat) (job : Nat)
  /-- CAM_TRIGGER (R312). At execution plus TRIG_DELAY_US the trigger pulse fires, or is suppressed in holdover. -/
  | camTrigger (dt : Nat) (x : Fin 16)
  /-- CSI_FRAME_START (R312). A Frame Start packet opens a frame of the active capture or is counted
  unsolicited. -/
  | csiFrameStart (dt : Nat) (p : Fin 8) (vc : Fin 4)
  /-- CSI_LINE (R307). A long packet is checked and stored as a received line or discarded. -/
  | csiLine (dt : Nat) (p : Fin 8) (header : Word) (data : List Byte) (crc : BitVec 16)
  /-- CSI_FRAME_END (R321). A Frame End closes the frame as complete, SHORT or LONG. -/
  | csiFrameEnd (dt : Nat) (p : Fin 8) (vc : Fin 4)
  /-- CAM_FRAME_TIMEOUT (R313). A frame not ended within TIMEOUT_MS is written with TIMEOUT and the capture
  completes with 0x03D0. -/
  | camFrameTimeout (dt : Nat) (x : Fin 16)
  /-- CAM_PORT_RESET (R441). CAM_TMO_MAX consecutive timeouts on a port reset that port alone. -/
  | camPortReset (dt : Nat) (p : Fin 8)
  /-- PIPELINE_ENTRY_START (R316). The pipeline starts the next memory-path frame or reprocessing entry in queue
  order. -/
  | pipelineEntryStart (dt : Nat)
  /-- PIPELINE_FRAME_DONE (R314). A frame finishes processing and its output, statistics, streak metric and
  result block are written. -/
  | pipelineFrameDone (dt : Nat) (x : Fin 16)
  /-- CAM_INLINE_WRITE (R309). A write to CAM_INLINE takes effect once neither port is receiving a frame. -/
  | camInlineWrite (dt : Nat) (value : Word)
  /-- PTP_SYNC (R329). A Sync on the SLAVE port gives the offset for the servo and is relayed on MASTER ports. -/
  | ptpSync (dt : Nat) (p : Fin 4) (msg : List Byte)
  /-- PTP_ANNOUNCE (R330). An Announce is taken into master selection and relayed. -/
  | ptpAnnounce (dt : Nat) (p : Fin 4) (msg : List Byte)
  /-- PTP_PDELAY_REQ (R328). A Pdelay_Req is answered with a one-step Pdelay_Resp. -/
  | ptpPdelayReq (dt : Nat) (p : Fin 4) (msg : List Byte)
  /-- PTP_PDELAY_RESP (R327). A Pdelay_Resp updates the port's meanPathDelay. -/
  | ptpPdelayResp (dt : Nat) (p : Fin 4) (msg : List Byte)
  /-- PTP_SYNC_SEND (R328). As grandmaster the device sends a one-step Sync at its sync interval. -/
  | ptpSyncSend (dt : Nat)
  /-- PTP_ANNOUNCE_SEND (R326). The device sends Announce at its announce interval. -/
  | ptpAnnounceSend (dt : Nat)
  /-- PTP_PDELAY_SEND (R325). The device sends Pdelay_Req at its peer-delay interval. -/
  | ptpPdelaySend (dt : Nat) (p : Fin 4)
  /-- PTP_ANNOUNCE_TIMEOUT (R330). Announce receipt timeout or missing Syncs move the time service to NET_HOLD
  or reselect a master. -/
  | ptpAnnounceTimeout (dt : Nat)
  /-- TIM_PULSE (R332). TIM_PULSE sets an output off, once, periodic or camera-trigger mode. -/
  | timPulse (dt : Nat) (job : Nat)
  /-- TIM_CAPTURE (R332). TIM_CAPTURE arms an input to write COUNT edge stamps to host memory. -/
  | timCapture (dt : Nat) (job : Nat)
  /-- TIM_SET (R335). TIM_SET sets device time at the first dowel pulse after execution plus 2 µs. -/
  | timSet (dt : Nat) (job : Nat)
  /-- TIMEPULSE_RISE (R333). A pulse's target instant arrives and its output rises. -/
  | timepulseRise (dt : Nat) (k : Fin 8)
  /-- TIMEPULSE_FALL (R333). WIDTH_NS after the rise the output falls. -/
  | timepulseFall (dt : Nat) (k : Fin 8)
  /-- TIMECAPTURE_EDGE (R334). An edge on a capture input is stamped and written or counted. -/
  | timecaptureEdge (dt : Nat) (k : Fin 4) (rising : Bool)
  /-- FABRIC_LAUNCH (R336). A queued fabric control frame starts once its launch time has passed, in launch-time
  order. -/
  | fabricLaunch (dt : Nat) (p : Fin 4)
  /-- HELLO (R343). A HELLO is taken, making the neighbour known after three and detecting ID conflicts. -/
  | hello (dt : Nat) (p : Fin 4) (payload : List Gran)
  /-- HELLO_SEND (R343). Every HELLO_US each up port sends a HELLO. -/
  | helloSend (dt : Nat) (p : Fin 4)
  /-- NEIGHBOUR_LOST (R343). KEEP_MISS intervals without a HELLO lose the neighbour and recompute routes. -/
  | neighbourLost (dt : Nat) (p : Fin 4)
  /-- BLOCK_LOCK_LOST (R348). A port loses block lock, its neighbour is lost and RING_HOLD falls for a ring
  port. -/
  | blockLockLost (dt : Nat) (p : Fin 4)
  /-- BLOCK_LOCK_GAINED (R348). A port regains block lock and HELLOs resume. -/
  | blockLockGained (dt : Nat) (p : Fin 4)
  /-- ROUTE (R345). A ROUTE vector is taken and route entries are recomputed. -/
  | route (dt : Nat) (p : Fin 4) (payload : List Gran)
  /-- ROUTE_SEND (R345). Every ROUTE_MS, or within 100 µs of a change, each port sends its ROUTE vector. -/
  | routeSend (dt : Nat)
  /-- JOIN_ENABLE (R344). Setting JOIN_EN starts the join in LISTENING. -/
  | joinEnable (dt : Nat) (value : Word)
  /-- CLAIM_DONE (R344). After CLAIM_MS a free ID is claimed, RING_HOLD raised and JOIN broadcast; otherwise
  CONFLICT or a retry. -/
  | claimDone (dt : Nat)
  /-- BROADCAST_REPEAT (R344). JOIN or LEAVE is rebroadcast at its spacing up to three times. -/
  | broadcastRepeat (dt : Nat)
  /-- JOIN (R351). A JOIN is taken and clears LEFT for its ID. -/
  | join (dt : Nat) (dev : Fin 1024) (payload : List Gran)
  /-- LEAVE (R351). A LEAVE marks the sender's ID as LEFT, reducing barrier counts. -/
  | leave (dt : Nat) (dev : Fin 1024)
  /-- FAB_FORWARD (R346). A transit frame is forwarded by route or broadcast, or discarded for no route, hops or
  duplicate. -/
  | fabForward (dt : Nat) (p : Fin 4) (header : Gran) (payload : List Gran)
  /-- FAB_WRITE (R350). FAB_WRITE sends DRAM data to a peer as BULK_WRITE frames. -/
  | fabWrite (dt : Nat) (job : Nat)
  /-- BULK_WRITE (R350). A BULK_WRITE frame is grant-checked and written to DRAM, with BULK_ACK returned
  periodically. -/
  | bulkWrite (dt : Nat) (header : Gran) (payload : List Gran)
  /-- BULK_ACK (R350). A BULK_ACK advances the transfer and completes FAB_WRITE on the final one. -/
  | bulkAck (dt : Nat) (dev : Fin 1024) (payload : List Gran)
  /-- BULK_RESEND_TIMEOUT (R350). 100 µs without progress resends from the first unacknowledged frame, failing
  after eight resends. -/
  | bulkResendTimeout (dt : Nat) (job : Nat)
  /-- FAB_LEAVE (R351). FAB_LEAVE broadcasts LEAVE and starts the leave. -/
  | fabLeave (dt : Nat) (job : Nat)
  /-- LEAVE_DONE (R351). LEAVE_US after the LEAVE the device drops RING_HOLD, stops transmitting and enters
  DOWN. -/
  | leaveDone (dt : Nat)
  /-- FAB_EVICT (R351). FAB_EVICT marks an unreachable ID as left on this device. -/
  | fabEvict (dt : Nat) (job : Nat)
  /-- FENCE_IN_ASSERT (R354). FENCE_IN_n falls: outputs go safe within 50 ns and the device enters FENCED. -/
  | fenceInAssert (dt : Nat)
  /-- FENCE_IN_RELEASE (R354). FENCE_IN_n returns high and the device leaves FENCED for SYNCING. -/
  | fenceInRelease (dt : Nat)
  /-- HINGE_STARTUP_TIMEOUT (R357). 100 ms without an ACTIVE beat lets a preferred or unopposed device enter
  ACTIVE. -/
  | hingeStartupTimeout (dt : Nat)
  /-- MIRROR_CAPTURE (R359). Each microsecond the active device captures a mirror record and sends it on both
  paths. -/
  | mirrorCapture (dt : Nat)
  /-- HEARTBEAT_SEND (R360). Every 10 µs a HEARTBEAT is sent on path A. -/
  | heartbeatSend (dt : Nat)
  /-- MIRROR (R361). A good mirror record is adopted by the standby as the mark, and a FAILED or FENCED state
  leads to a switchover decision. -/
  | mirror (dt : Nat) (pathB : Bool) (payload : List Gran)
  /-- HEARTBEAT (R360). A HEARTBEAT counts as a path A beat, restoring the path after three. -/
  | heartbeat (dt : Nat) (payload : List Gran)
  /-- HINGE_PATH_LOST (R360). A path without beats for three intervals is lost, setting ALARM, and loss of both
  may trigger switchover. -/
  | hingePathLost (dt : Nat) (pathB : Bool)
  /-- SWITCHOVER_OWN_RAISE (R362). Once OWN_IN is low for 20 ns, or at 300 ns, the new active raises OWN and
  resumes from the mark. -/
  | switchoverOwnRaise (dt : Nat) (ownInLow : Bool)
  /-- TAKEOVER (R363). A TAKEOVER message rewrites the former active's ID in kerf and grain peer entries and
  drops its halo. -/
  | takeover (dt : Nat) (dev : Fin 1024) (payload : List Gran)
  /-- HEALTH_REPORT (R364). Every 100 ms the device writes HNG_HEALTH and sends HEALTH to the partner. -/
  | healthReport (dt : Nat)
  /-- HEALTH (R364). A partner's HEALTH report is shown in HNG_PEER_HEALTH. -/
  | health (dt : Nat) (payload : List Gran)
  /-- STANDBY_BIST_DONE (R364). A standby self-test of an island or scrub finishes and HEALTH_OK is updated. -/
  | standbyBistDone (dt : Nat) (n : Fin 49) (ok : Bool)
  /-- SNAPSHOT (R365). A SNAPSHOT from the active loads integrators, carries, encoder state and stop-out lists. -/
  | snapshot (dt : Nat) (payload : List Gran)
  /-- GRAIN_COPY (R365). GRAIN_COPY cells are written into the syncing partner's map, making it STANDBY when
  complete. -/
  | grainCopy (dt : Nat) (payload : List Gran)
  /-- HNG_HANDOVER (R366). HNG_HANDOVER puts the active into FAILED with REASON 1 at its schedule. -/
  | hngHandover (dt : Nat) (job : Nat)
  /-- HNG_RELEASE (R366). HNG_RELEASE takes FENCE_OUT_n high. -/
  | hngRelease (dt : Nat) (job : Nat)
  /-- VECTOR_ENTRY (R374). A ready eligible vector writes its event records, EVQ_PI and its MSI-X message. -/
  | vectorEntry (dt : Nat) (fn : Fin 8)
  /-- MODERATION_EXPIRE (R373). MIN_INT_US after the last message or first occurrence a pending vector becomes
  ready. -/
  | moderationExpire (dt : Nat) (fn : Fin 8) (v : Fin 64)
  /-- INT_HOLD_WRITE (R378). Setting HOLD stops new entries of the function; clearing it lets ready vectors
  begin. -/
  | intHoldWrite (dt : Nat) (fn : Fin 8) (hold : Bool)
  /-- MSIX_UNMASK (R372). Unmasking a vector or function lets a held vector begin or sends its held message. -/
  | msixUnmask (dt : Nat) (fn : Fin 8) (v : Option (Fin 64))
  /-- EVQ_ENABLE (R376). Enabling the event ring checks its window and resets its position and phase. -/
  | evqEnable (dt : Nat) (w : Fin 8) (fn : Fin 8) (value : Word)
  /-- IRQ_EVENT (R380). An IRQ_EVENT from an enabled, granted peer becomes an occurrence of a forwarded source. -/
  | irqEvent (dt : Nat) (dev : Fin 1024) (payload : List Gran)
  /-- LOG_RECORD_WRITE (R386). A queued event record is written to MRAM, overwriting a victim when full, and
  read back. -/
  | logRecordWrite (dt : Nat) (ok : Bool)
  /-- OPSEC_SAVE (R384). Every 60 s OP_SEC is written to MRAM. -/
  | opsecSave (dt : Nat)
  /-- LOG_SCAN_DONE (R385). The boot scan finishes rebuilding the log index and POWER_ON is written. -/
  | logScanDone (dt : Nat)
  /-- PEER_LOG (R391). A granted PEER_LOG is stored as a peer record when PEER_ACCEPT is set. -/
  | peerLog (dt : Nat) (dev : Fin 1024) (payload : List Gran)
  /-- REC_READ (R392). REC_READ writes log or volatile-ring slots to host memory. -/
  | recRead (dt : Nat) (job : Nat)
  /-- REC_CLEAR (R392). REC_CLEAR invalidates every record of severity MAX_SEV or below and writes LOG_CLEARED. -/
  | recClear (dt : Nat) (job : Nat)
  /-- DRAM_REQUEST (R399). A client request enters a channel's read or write queue, merging with matching
  writes. -/
  | dramRequest (dt : Nat) (c : Fin 2) (write : Bool) (cls : Fin 5) (burst : Nat) (data : List Byte)
  /-- DRAM_REQUEST_SERVED (R400). The scheduler issues the next request by age, class and row hit, checking ECC
  on reads. -/
  | dramRequestServed (dt : Nat) (c : Fin 2) (ecc : Fin 3)
  /-- REFRESH_RATE_READ (R401). Every 1 ms the controller reads each device's refresh-rate code and sets the
  refresh interval. -/
  | refreshRateRead (dt : Nat) (c : Fin 2) (sub : Fin 2) (code : Nat) (outOfRange : Bool) (drift : Nat)
  /-- DRAM_REFRESH (R401). A due refresh is issued per bank, or all-bank at the postponement limit with FALLBACK
  counted. -/
  | dramRefresh (dt : Nat) (c : Fin 2) (sub : Fin 2) (bank : Fin 32)
  /-- PATROL_SCRUB (R403). Patrol scrub reads the next burst at class 4 and writes back corrected data. -/
  | patrolScrub (dt : Nat) (c : Fin 2) (ecc : Fin 3)
  /-- DRAM_RETRAIN_DONE (R405). A channel's retraining finishes, keeping old settings and setting RT_FAIL on
  failure. -/
  | dramRetrainDone (dt : Nat) (c : Fin 2) (ok : Bool)
  /-- DRAM_CMD_TIMEOUT (R441). A request not complete within CMD_US takes the channel out with its queues kept. -/
  | dramCmdTimeout (dt : Nat) (c : Fin 2)
  /-- THERMAL_SAMPLE (R408). All sensors are sampled, island temperatures and T_MAX computed and compensations
  recomputed. -/
  | thermalSample (dt : Nat) (raw : List Int)
  /-- GOVERNOR_STEP (R411). Every 10 ms each island governor moves its level and resets its ceilings. -/
  | governorStep (dt : Nat)
  /-- THERMAL_GRACE_EXPIRE (R412). T_MAX still at 103 °C after GRACE_DS enters ENFORCE. -/
  | thermalGraceExpire (dt : Nat)
  /-- THM_RELEASE (R415). THM_RELEASE ends STOP when T_MAX is below 95 °C. -/
  | thmRelease (dt : Nat) (job : Nat)
  /-- CAL_RUN (R424). CAL_RUN requests a TAPS, BIST, SLICE or LAG calibration of a unit. -/
  | calRun (dt : Nat) (job : Nat)
  /-- CAL_SAVE (R425). CAL_SAVE writes the CAL_ block image with its CRC to host memory. -/
  | calSave (dt : Nat) (job : Nat)
  /-- CAL_LOAD (R425). CAL_LOAD checks an image's CRC and serial and writes its values. -/
  | calLoad (dt : Nat) (job : Nat)
  /-- COVER_COPY_DONE (R422). The copy of the covered engine's registers and banks into the covering engine
  finishes. -/
  | coverCopyDone (dt : Nat) (k : Fin 2) (ok : Bool)
  /-- COVER_BEGIN (R421). At the covered unit's rest the channel is rebound to the cover with its FIFO and
  state. -/
  | coverBegin (dt : Nat) (k : Fin 4)
  /-- CALIBRATION_DONE (R426). A calibration finishes, succeeding or failing and faulting the unit. -/
  | calibrationDone (dt : Nat) (u : Fin 83) (ok : Bool) (measured : List Int)
  /-- COVER_END (R421). At the covering engine's first rest after calibration the channel returns to its engine. -/
  | coverEnd (dt : Nat) (k : Fin 4)
  /-- POWER_ON_RESET (R428). Power is applied or a core supply monitor trips and the whole device resets with
  outputs safe. -/
  | powerOnReset (dt : Nat)
  /-- PIN_RESET (R428). RESET_n low for 1 µs resets the whole device without changing PCYC. -/
  | pinReset (dt : Nat)
  /-- PERST_ASSERT (R431). PERST_n low takes HOST out of service and resets configuration, HIF_ and INT_ state. -/
  | perstAssert (dt : Nat)
  /-- FUNCTION_LEVEL_RESET (R430). An FLR freezes the function with CAUSE 9, then resets its HIF_ and INT_ state
  and releases it. -/
  | functionLevelReset (dt : Nat) (fn : Fin 8)
  /-- UNIT_FAULT (R438). An uncorrectable error, replica, supply or calibration fault takes a unit out, covers
  it and starts its self-test. -/
  | unitFault (dt : Nat) (u : Fin 83) (cause : Nat)
  /-- UNIT_SELF_TEST_DONE (R439). A unit's self-test finishes and it returns to service or stays out with
  TEST_FAIL. -/
  | unitSelfTestDone (dt : Nat) (u : Fin 83) (ok : Bool)
  /-- FETCH_TIMEOUT (R441). A staging request not complete within FETCH_MS completes its descriptor with 0x03FE
  and takes STAGE out. -/
  | fetchTimeout (dt : Nat) (job : Nat)
  /-- ENGINE_PROGRESS_TIMEOUT (R441). An engine not advancing for 1 ms raises a WDOG channel fault and is taken
  out. -/
  | engineProgressTimeout (dt : Nat) (n : Fin 34)
  /-- VENEER_DEADLINE_TIMEOUT (R441). VNR_MISS_MAX consecutive missed slots take VENEER out of service. -/
  | veneerDeadlineTimeout (dt : Nat) (t : Fin 16)
  /-- PCIE_COMPLETION_TIMEOUT (R441). A host read exceeding the completion timeout fails. -/
  | pcieCompletionTimeout (dt : Nat) (job : Nat)
  /-- MGMT_WATCHDOG_EXPIRE (R441). A silent management controller is restarted by the other, or MGMT is taken
  out if both are silent. -/
  | mgmtWatchdogExpire (dt : Nat) (controller : Fin 2) (otherSilent : Bool)
  /-- READ (R445). The management port READ command returns one register. -/
  | read (dt : Nat) (addr : Nat)
  /-- WRITE_BOOTCFG (R445). WRITE_BOOTCFG writes the boot configuration for the next reset. -/
  | writeBootcfg (dt : Nat) (cfg : BootCfg)
  /-- RELEASE_F0 (R444). RELEASE_F0 releases a frozen function 0 whose SAFE is 1. -/
  | releaseF0 (dt : Nat)
  /-- CLEAR_FATAL (R445). CLEAR_FATAL invalidates every severity-7 record. -/
  | clearFatal (dt : Nat)
  /-- DEVICE_RESET (R445). DEVICE_RESET on the management port causes a pin reset. -/
  | deviceReset (dt : Nat)
  /-- SLOT_WRITE (R445). SLOT_WRITE writes 256 bytes to a firmware slot in recovery mode. -/
  | slotWrite (dt : Nat) (slot : Fin 2) (page : Nat) (data : List Byte)
  /-- SLOT_SELECT (R445). SLOT_SELECT selects the boot slot in recovery mode. -/
  | slotSelect (dt : Nat) (slot : Fin 2) (commit : Bool)
  /-- MGT_FW_UPDATE (R435). MGT_FW_UPDATE starts writing an image into the slot not in use. -/
  | mgtFwUpdate (dt : Nat) (job : Nat)
  /-- FW_UPDATE_DONE (R435). The image and header are programmed and verified and MGT_FW_UPDATE completes. -/
  | fwUpdateDone (dt : Nat) (ok : Bool)
  /-- MGT_FW_SELECT (R436). MGT_FW_SELECT writes BOOT_SLOT and optionally raises MIN_SVN in both MRAM copies. -/
  | mgtFwSelect (dt : Nat) (job : Nat)
  /-- MGT_UNIT (R446). MGT_UNIT takes a unit out of service or returns it. -/
  | mgtUnit (dt : Nat) (job : Nat)
  /-- RAIL_UNDERVOLT (R468). A non-core rail below 90 % for 2 µs takes the islands it feeds out as a fault. -/
  | railUndervolt (dt : Nat) (rail : Nat)
  /-- REFCLK_ABSENT (R470). A reference clock with no edge for 1 µs is absent and its dependent blocks reset,
  fault or go out of service. -/
  | refclkAbsent (dt : Nat) (ref : Nat)
  /-- REFCLK_RETURN (R470). An absent reference clock returns and its dependent blocks resume. -/
  | refclkReturn (dt : Nat) (ref : Nat)
  /-- RESET_RELEASE (R432). RESET_n or an internal reset is released, the straps are sampled, and the device
  boots: configuration read, slot verified, islands locked and calibrated, DRAM trained, BOOT_DONE set. -/
  | resetRelease (dt : Nat) (straps : BitVec 3) (cal : List (List Int)) (dowels : List Int) (dramOk : List Bool)
  /-- PERST_RELEASE (R431). PERST_n returns high, PCIe link training starts, and HOST can return to service once
  the host configures the device again. -/
  | perstRelease (dt : Nat)
  /-- AXIS_TICK (R279). At each 10 µs tick the axis profile generator advances position, speed and acceleration,
  and does the following: applies immediate descriptors and limit changes, brings an emergency ramp to rest,
  emits step-and-direction pulses, and computes ENC_DEV for the following check. -/
  | axisTick (dt : Nat)
  /-- COIL_LOOP_PERIOD (R288). Every 20 µs the coil-current loop takes the decimated phase currents, slews the
  current magnitude by R290, runs the PI controllers and sets the PWM duty. -/
  | coilLoopPeriod (dt : Nat) (a : Fin 8) (ia : Int) (ib : Int)
  /-- ATTACH_LINK_TIMEOUT (R250). A VNR_ATTACH whose tile link is not up within 10 ms of execution is refused
  with ATT_ERR 5 and completes with 0x02A2. -/
  | attachLinkTimeout (dt : Nat) (t : Fin 16)
  /-- ROUTE_AGE_OUT (R345). A neighbour's advertised distance not renewed for 3 × ROUTE_MS ages out to 33, and
  the route entries are recomputed. -/
  | routeAgeOut (dt : Nat) (p : Fin 4) (dev : Fin 1024)
  deriving DecidableEq, Repr

end Sys2Proof
end

