-- ==== Sys2Proof/Config.lean ====
section
/-! DEFINITION. What the spec leaves open or an implementation fixes, as constants without a body: no proof can see
their values. -/

namespace Sys2Proof.Config

/-- A value the spec leaves open: fresh at every use, indexed by the model's counter of free values. -/
opaque freeValue : Nat → Nat

/-- Whether the ECDSA P-384 signature in the last argument verifies over header bytes 0 to 59 against the public key of the
identity area (R433, R434). The spec gives no key. -/
opaque signatureVerifies : List Byte → List Byte → Bool

/-- Whether the areas of two islands touch on the die (R31), the lower number first. The spec gives no floor plan; islands
5 and 6 touch by its example. -/
opaque touches : Nat → Nat → Bool

/-- Postponed refreshes at which a bank's subchannel is refreshed as a whole: the limit that the DRAM standard sets for the
refresh mode that a refresh-rate code selects (R401). -/
opaque refreshLimit : Nat → Nat

/-- PREFER of the hinge partner's own HNG_CFG, which no message of the pair carries (R357). -/
opaque partnerPrefers : Bool

end Sys2Proof.Config
end

