-- ==== Sys2Proof/Machine/Bits.lean ====
section
/-! DEFINITION. Bit fields, sign extension, saturation and rounding on numbers, and the sparse tables in canonical
form that registers, units and memories are kept in. -/

namespace Sys2Proof.Machine

/-- Bits `[hi:lo]` of a number. -/
def bitsOf (x hi lo : Nat) : Nat := x / 2 ^ lo % 2 ^ (hi + 1 - lo)

/-- Bit `k` of a number, as 0 or 1. -/
def bitOf (x k : Nat) : Nat := x / 2 ^ k % 2

/-- Whether bit `k` of a number is set. -/
def hasBit (x k : Nat) : Bool := x / 2 ^ k % 2 == 1

/-- A number with bit `k` set. -/
def setBit (x k : Nat) : Nat := if hasBit x k then x else x + 2 ^ k

/-- A number with bit `k` clear. -/
def clearBit (x k : Nat) : Nat := if hasBit x k then x - 2 ^ k else x

/-- A number of `w` bits read as two's complement. -/
def sInt (w x : Nat) : Int := if x % 2 ^ w < 2 ^ (w - 1) then (x % 2 ^ w : Nat) else ((x % 2 ^ w : Nat) : Int) - 2 ^ w

/-- The `w`-bit two's complement pattern of an integer. -/
def uInt (w : Nat) (x : Int) : Nat := (x % (2 ^ w : Nat)).toNat

/-- A sum saturating at the largest `w`-bit number: the counters of the register tables. -/
def satAdd (w a b : Nat) : Nat := min (a + b) (2 ^ w - 1)

/-- An integer clamped to a closed interval. -/
def clampI (lo hi x : Int) : Int := max lo (min hi x)

/-- The `w`-bit pattern of an integer clamped to the signed range. -/
def satS (w : Nat) (x : Int) : Nat := uInt w (clampI (-(2 ^ (w - 1) : Nat)) ((2 ^ (w - 1) : Nat) - 1) x)

/-- Quotient rounded half up (`den > 0`). -/
def roundHalfUp (num : Int) (den : Nat) : Int := (2 * num + den) / (2 * den)

/-- Quotient rounded up (`den > 0`). -/
def ceilDiv (a b : Nat) : Nat := (a + b - 1) / b

/-- The first `n` numbers from `a`. -/
def rangeFrom (a n : Nat) : List Nat := (List.range n).map (· + a)

/-- The numbers below `n` whose bit is set in a mask. -/
def maskList (mask n : Nat) : List Nat := (List.range n).filter (hasBit mask ·)

/-- Fold a device operation over a list of instances. -/
def forAll {σ ι : Type} (l : List ι) (f : σ → ι → σ) (s : σ) : σ := l.foldl f s

/-- The little-endian bytes of a number (R8). -/
def leBytes : Nat → Nat → List (BitVec 8)
  | 0, _ => []
  | n + 1, x => BitVec.ofNat 8 x :: leBytes n (x / 256)

/-- The number that little-endian bytes spell (R8). -/
def ofLeBytes : List (BitVec 8) → Nat
  | [] => 0
  | b :: bs => b.toNat + 256 * ofLeBytes bs

/-- A sparse table: keys strictly rising, no entry equal to what an unlisted key reads as. -/
abbrev Tab (α : Type) := List (Nat × α)

/-- What a table holds at a key; `dflt` is what an unlisted key reads as. -/
def Tab.get {α : Type} (dflt : α) : Tab α → Nat → α
  | [], _ => dflt
  | (k', v) :: t, k => if k' = k then v else Tab.get dflt t k

/-- Insert a pair before the first larger key. -/
def Tab.insert {α : Type} (k : Nat) (v : α) : Tab α → Tab α
  | [] => [(k, v)]
  | (k', v') :: t => if k < k' then (k, v) :: (k', v') :: t else (k', v') :: Tab.insert k v t

/-- Remove every pair of a key. -/
def Tab.erase {α : Type} (k : Nat) (t : Tab α) : Tab α := t.filter (fun p => p.1 != k)

/-- A table with one key set, in canonical form: setting the value an unlisted key reads as removes the entry. -/
def Tab.set {α : Type} [DecidableEq α] (dflt : α) (t : Tab α) (k : Nat) (v : α) : Tab α :=
  if v = dflt then Tab.erase k t else Tab.insert k v (Tab.erase k t)

/-- The canonical form: keys strictly rising and no entry equal to the default. -/
def Tab.wf {α : Type} [DecidableEq α] (dflt : α) : Tab α → Bool
  | [] => true
  | [(_, v)] => decide (v ≠ dflt)
  | (k, v) :: (k', v') :: t => decide (v ≠ dflt) && decide (k < k') && Tab.wf dflt ((k', v') :: t)

/-- A byte memory: a table of bytes, an unlisted byte reading 0. -/
abbrev Bytes := Tab (BitVec 8)

/-- One byte of a memory. -/
def Bytes.read (m : Bytes) (a : Nat) : BitVec 8 := Tab.get 0#8 m a

/-- A memory with one byte written. -/
def Bytes.write (m : Bytes) (a : Nat) (b : BitVec 8) : Bytes := Tab.set 0#8 m a b

/-- A memory with consecutive bytes written from an address. -/
def Bytes.writeList (m : Bytes) (a : Nat) : List (BitVec 8) → Bytes
  | [] => m
  | b :: bs => Bytes.writeList (Bytes.write m a b) (a + 1) bs

/-- `n` consecutive bytes of a memory. -/
def Bytes.readList (m : Bytes) (a n : Nat) : List (BitVec 8) := (rangeFrom a n).map (Bytes.read m)

/-- The canonical form of a byte memory. -/
def Bytes.wf (m : Bytes) : Bool := Tab.wf 0#8 m

end Sys2Proof.Machine
end

