-- ==== Sys2Proof/Machine/RegNames.lean ====
section
/-! DEFINITION. The names of the register map: one constructor of `Reg` per register of the spec
(its instances differ by index), one constructor of `Fld` per named field of a register table.
The names are the spec's own. -/

namespace Sys2Proof.Machine

/-- Every register of the register map (R450), by its name in the spec. -/
inductive Reg where
  -- SYS_ block: 24_register_map.md
  | SYS_ID | SYS_REV | SYS_SERIAL_LO | SYS_SERIAL_HI | SYS_CLKID_LO | SYS_CLKID_HI | SYS_MAC_LO 
  | SYS_MAC_HI | SYS_CAP0 | SYS_CAP1 | SYS_STRAP | SYS_LOCK | SYS_BOOTCFG | SYS_IGN_WR | SYS_ISL_CFG 
  | SYS_ISL_STAT | SYS_ISL_TOFS | SYS_LAYER_CTL | SYS_LAYER_STAT | SYS_LAYER_NUM | SYS_LAYER_EPOCH_LO 
  | SYS_LAYER_EPOCH_HI | SYS_BARRIER_CFG | SYS_BARRIER_STAT 
  -- HIF_ block: 03_job_rings.md
  | HIF_SQ_BASE_LO | HIF_SQ_BASE_HI | HIF_SQ_CFG | HIF_CQ_BASE_LO | HIF_CQ_BASE_HI | HIF_CQ_CFG 
  | HIF_DB_BASE_LO | HIF_DB_BASE_HI | HIF_POLL_CFG | HIF_STAT 
  -- WIN_ block: 04_masters_and_windows.md
  | WIN_BASE_LO | WIN_BASE_HI | WIN_CFG | WIN_OWN_ENG_LO | WIN_OWN_ENG_HI | WIN_OWN_IO | WIN_OWN_CTX 
  | WIN_STAGE | WIN_PREFETCH | WIN_FRZ_STAT | WIN_FRZ_ADDR_LO | WIN_FRZ_ADDR_HI | WIN_FRZ_CTL | WIN_GRANT_ID 
  | WIN_GRANT_CFG | WIN_GRANT_DRAM | WIN_PEER_FRZ | WIN_PEER_CAUSE | WIN_STAT | WIN_MOVER_STAT 
  -- INT_ block: 18_interrupts.md
  | INT_SRC_CFG | INT_SRC_STAT | INT_CTL | INT_EVQ_BASE_LO | INT_EVQ_BASE_HI | INT_EVQ_CFG | INT_STAT 
  | INT_VEC_CFG | INT_VEC_STAT | INT_PEER | INT_FWD_CNT 
  -- ENG_ block: 05_scan_path.md
  | ENG_PLAN_CTL | ENG_LIMITS | ENG_VEL | ENG_LAG_X | ENG_LAG_Y | ENG_LAG_Z | ENG_PARK_X | ENG_PARK_Y 
  | ENG_LINK_CFG | ENG_STAT | ENG_FIFO | ENG_REC_SEQ | ENG_ARC | ENG_POS_X | ENG_POS_Y | ENG_LINK_ERR 
  | ENG_HEAD_STAT | ENG_MARK | ENG_JCT | ENG_GATE_CTL | ENG_GATE_ADV_ON | ENG_GATE_ADV_OFF | ENG_PWR_LEAD 
  | ENG_GATE_STAT | ENG_GATE_SKIP | ENG_GATE_PULSES | ENG_GATE_LAT | ENG_PULSE_SPC | ENG_PULSE_PER 
  | ENG_PULSE_W | ENG_PULSE_FIRST 
  -- COR_ block: 07_field_correction_and_scarf.md
  | COR_STAT | COR_ACT_X0 | COR_ACT_Y0 | COR_ACT_PITCH | COR_ACT_CRC | COR_SHD_CRC 
  -- SCF_ block: 07_field_correction_and_scarf.md
  | SCF_ZONE_REF_X | SCF_ZONE_REF_Y | SCF_ZONE_GEOM | SCF_ZONE_SEED | SCF_ZONE_CFG | SCF_ZONE_PART 
  | SCF_ZONE_TIME | SCF_CNT_A | SCF_CNT_B | SCF_ERR | SCF_CFG 
  -- KRF_ block: 08_kerf_rule.md
  | KRF_CFG | KRF_PLUME | KRF_PLUME_DIM | KRF_REORDER | KRF_HALO_CFG | KRF_INNER_X0 | KRF_INNER_X1 
  | KRF_INNER_Y0 | KRF_INNER_Y1 | KRF_STAT | KRF_PEER | KRF_ENG_STAT | KRF_CNT_A | KRF_CNT_B 
  -- MPL_ block: 09_melt_pool_and_grain_map.md
  | MPL_CFG | MPL_FS | MPL_PD | MPL_PD_LIM | MPL_STAT | MPL_MEAS | MPL_FF | MPL_CNT | MPL_TARGET 
  | MPL_GAIN | MPL_FB_LIM | MPL_PWR_LIM | MPL_INT | MPL_SLICE | MPL_SLICE_STAT 
  -- GRN_ block: 09_melt_pool_and_grain_map.md
  | GRN_CFG | GRN_STEP | GRN_ORIGIN_X | GRN_ORIGIN_Y | GRN_GEOM | GRN_OWN_X0 | GRN_OWN_X1 | GRN_OWN_Y0 
  | GRN_OWN_Y1 | GRN_HALO_CFG | GRN_PEER | GRN_STAT | GRN_CNT | GRN_HALO_CNT | GRN_LOOK | GRN_LOST 
  | GRN_SCALE | GRN_DECAY 
  -- VNR_ block: 10_veneer_raster.md
  | VNR_TILE_CFG | VNR_BAND | VNR_COMPAT_LINE | VNR_COMPAT_FRAME | VNR_COMPAT_SIZE | VNR_ORG_X | VNR_ORG_Y 
  | VNR_PITCH | VNR_FRZ | VNR_STAT | VNR_SIG | VNR_CNT | VNR_SLOT | VNR_DWELL | VNR_BW 
  -- VDR_ block: 11_veneer_drive.md
  | VDR_CFG | VDR_DIM | VDR_VF | VDR_FS | VDR_STAT | VDR_CAP | VDR_PROBE | VDR_CNT | VDR_LINK_ERR 
  | VDR_STOP_CTL | VDR_STOP | VDR_STRFAIL 
  -- AX_ block: 12_axes.md
  | AX_CFG | AX_VMAX | AX_ACCEL | AX_DECEL | AX_JERK | AX_EDEC | AX_EJERK | AX_SOFT_MIN | AX_SOFT_MAX 
  | AX_CUR | AX_CUR2 | AX_LA | AX_LA_VMIN | AX_MOTOR | AX_LOOP | AX_ISCALE | AX_SLEW | AX_HOME_SPD 
  | AX_HOME_POS | AX_HOME_MAX | AX_HOME_BACK | AX_POS | AX_VEL | AX_STAT | AX_ELEC 
  -- ENC_ block: 13_position_feedback.md
  | ENC_CFG | ENC_SCALE | ENC_IDX_CFG | ENC_LIM | ENC_COUNT | ENC_IDX_LATCH | ENC_CMP_VAL | ENC_DEV 
  | ENC_CMP_TS_LO | ENC_CMP_TS_HI | ENC_IDX_ERR | ENC_CORR | ENC_CMP_CNT | ENC_ERR_CNT | ENC_STAT 
  -- CAM_ block: 14_cameras.md
  | CAM_PORT_CFG | CAM_PORT_ERR | CAM_PORT_DROP | CAM_INLINE | CAM_PIPE_STAT | CAM_CTX_SRC | CAM_CTX_SIZE 
  | CAM_CTX_CFG | CAM_CTX_BLACK | CAM_CTX_CCM | CAM_CTX_BUF | CAM_STREAK_X | CAM_STREAK_Y | CAM_STREAK_CFG 
  | CAM_POOL | CAM_POOL_LIM | CAM_CTX_STAT | CAM_CTX_LAST 
  -- TIM_ block: 15_time.md
  | TIM_CTL | TIM_PTP_CFG | TIM_SERVO | TIM_LIMIT | TIM_SLEW | TIM_STAT | TIM_OFFSET | TIM_RATE 
  | TIM_NOW_NS | TIM_NOW_SEC_LO | TIM_NOW_SEC_HI | TIM_PORT_CFG | TIM_PORT_DELAY | TIM_PTP_CNT | TIM_IO_OWN 
  | TIM_IO_OWN2 | TIM_IO_POL | TIM_PULSE_STAT | TIM_CAP_STAT 
  -- FAB_ block: 16_fabric.md
  | FAB_CFG | FAB_GROUP | FAB_TIMER | FAB_SHAPE | FAB_STAT | FAB_PORT_CFG | FAB_PORT_STAT | FAB_PORT_CNT 
  | FAB_PORT_MAC_LO | FAB_PORT_MAC_HI | FAB_DROP | FAB_ROUTE 
  -- HNG_ block: 17_hinge_redundancy.md
  | HNG_CFG | HNG_RESTART | HNG_PATHB_DLY | HNG_STAT | HNG_HEALTH | HNG_PEER_HEALTH | HNG_CNT 
  -- REC_ block: 19_event_recorder.md
  | REC_CFG | REC_STAT | REC_BAD_LO | REC_BAD_HI | REC_OPSEC | REC_PCYC | REC_DROP | REC_PEER_CNT 
  -- DRM_ block: 20_dram.md
  | DRM_CFG | DRM_GEOM | DRM_STAT | DRM_ECC | DRM_ECC_ADDR | DRM_SCHED | DRM_MAINT | DRM_TMO 
  -- THM_ block: 21_thermal.md
  | THM_CFG | THM_STAT | THM_CNT | THM_TEMP | THM_GOV 
  -- CAL_ block: 22_calibration.md
  | CAL_CFG | CAL_STAT | CAL_SERIAL_LO | CAL_SERIAL_HI | CAL_TAP_MAP | CAL_TAP_REF | CAL_GATE_LAT 
  | CAL_ADC_CELL | CAL_ADC_REF | CAL_SENSOR | CAL_DOWEL | CAL_IMG_CRC 
  -- MGT_ block: 23_reset_boot_recovery.md
  | MGT_STAT | MGT_FW | MGT_TMO | MGT_LAST | MGT_UNIT 
  deriving DecidableEq, Repr

/-- Every named field of every register table, as REGISTER_FIELD. -/
inductive Fld where
  -- SYS_ block
  | SYS_ID_DEVICE | SYS_ID_VENDOR | SYS_REV_METAL | SYS_REV_BASE | SYS_REV_MAP_VER | SYS_SERIAL_LO_SERIAL 
  | SYS_SERIAL_HI_SERIAL | SYS_CLKID_LO_CLKID | SYS_CLKID_HI_CLKID | SYS_MAC_LO_MAC | SYS_MAC_HI_MAC 
  | SYS_CAP0_CHANNELS | SYS_CAP0_ENGINES | SYS_CAP0_TILES | SYS_CAP0_AXES | SYS_CAP0_CAMERAS 
  | SYS_CAP0_FAB_PORTS | SYS_CAP0_FUNCTIONS | SYS_CAP1_SRAM_MB | SYS_CAP1_MRAM_MB | SYS_CAP1_ISLANDS 
  | SYS_CAP1_DRAM_GB | SYS_STRAP_REFCLK | SYS_STRAP_RECOV | SYS_STRAP_QSPI | SYS_LOCK_LOCK 
  | SYS_BOOTCFG_I2C_ADDR | SYS_BOOTCFG_COPY | SYS_BOOTCFG_GEN | SYS_IGN_WR_PARTIAL | SYS_IGN_WR_UNMAPPED 
  | SYS_ISL_CFG_FREQ_MHZ | SYS_ISL_STAT_FREQ_MHZ | SYS_ISL_STAT_VOLT | SYS_ISL_STAT_IN_SERVICE 
  | SYS_ISL_STAT_HOLDOVER | SYS_ISL_STAT_REPLICA_ERR | SYS_ISL_STAT_GRADIENT | SYS_ISL_STAT_CFG_REJ 
  | SYS_ISL_STAT_BRIDGE_ERR | SYS_ISL_STAT_RELOCK | SYS_ISL_TOFS_OFFSET | SYS_ISL_TOFS_PEAK 
  | SYS_LAYER_CTL_OWNER_FUNC | SYS_LAYER_STAT_STATE | SYS_LAYER_STAT_REPEATS | SYS_LAYER_STAT_HELD 
  | SYS_LAYER_STAT_REBASE | SYS_LAYER_STAT_BARRIER_LATE | SYS_LAYER_STAT_STREAK_FAIL | SYS_LAYER_STAT_CFG_REJ 
  | SYS_LAYER_NUM_LAYER_NUM | SYS_LAYER_EPOCH_LO_NS | SYS_LAYER_EPOCH_HI_SEC | SYS_BARRIER_CFG_GROUP_SIZE 
  | SYS_BARRIER_CFG_LEAD_US | SYS_BARRIER_STAT_READY_COUNT 
  -- HIF_ block
  | HIF_SQ_BASE_LO_ADDR_LO | HIF_SQ_BASE_HI_ADDR_HI | HIF_SQ_CFG_SIZE_LOG2 | HIF_SQ_CFG_CQ 
  | HIF_SQ_CFG_PRIO | HIF_SQ_CFG_ENABLE | HIF_CQ_BASE_LO_ADDR_LO | HIF_CQ_BASE_HI_ADDR_HI | HIF_CQ_CFG_SIZE_LOG2 
  | HIF_CQ_CFG_ENABLE | HIF_DB_BASE_LO_ADDR_LO | HIF_DB_BASE_HI_ADDR_HI | HIF_POLL_CFG_INTERVAL_US 
  | HIF_POLL_CFG_SLEEP_US | HIF_POLL_CFG_POLL_EN | HIF_STAT_INTERVAL_NOW | HIF_STAT_IN_FLIGHT 
  | HIF_STAT_CFG_REJ | HIF_STAT_CQ_HOLD | HIF_STAT_POLL_ERR | HIF_STAT_STATE_ERR | HIF_STAT_OVERSIZE 
  | HIF_STAT_HOSTQ_USED 
  -- WIN_ block
  | WIN_BASE_LO_ADDR_LO | WIN_BASE_HI_ADDR_HI | WIN_CFG_SIZE_LOG2 | WIN_CFG_R | WIN_CFG_W | WIN_CFG_ENABLE 
  | WIN_OWN_ENG_LO_ENG | WIN_OWN_ENG_HI_ENG | WIN_OWN_IO_TILE | WIN_OWN_IO_AXIS | WIN_OWN_CTX_CTX 
  | WIN_STAGE_BASE_MB | WIN_STAGE_SIZE_MB | WIN_PREFETCH_FIFO_LOW | WIN_PREFETCH_VNR_AHEAD 
  | WIN_FRZ_STAT_FROZEN | WIN_FRZ_STAT_SAFE | WIN_FRZ_STAT_CAUSE | WIN_FRZ_STAT_REPEAT | WIN_FRZ_STAT_IGN_WRITES 
  | WIN_FRZ_ADDR_LO_ADDR | WIN_FRZ_ADDR_HI_ADDR | WIN_FRZ_CTL_FUNC | WIN_FRZ_CTL_PEER_ID | WIN_FRZ_CTL_KIND 
  | WIN_GRANT_ID_ID_LO | WIN_GRANT_ID_ID_HI | WIN_GRANT_CFG_CLASS | WIN_GRANT_CFG_ENABLE | WIN_GRANT_DRAM_BASE_MB 
  | WIN_GRANT_DRAM_SIZE_MB | WIN_PEER_FRZ_FROZEN | WIN_PEER_CAUSE_PEER_ID | WIN_PEER_CAUSE_KIND 
  | WIN_PEER_CAUSE_COUNT | WIN_STAT_CFG_REJ | WIN_MOVER_STAT_BUSY | WIN_MOVER_STAT_UNDERRUN 
  -- INT_ block
  | INT_SRC_CFG_VECTOR | INT_SRC_CFG_EN | INT_SRC_CFG_FWD | INT_SRC_CFG_FWD_SLOT | INT_SRC_STAT_PENDING 
  | INT_SRC_STAT_ACTIVE | INT_SRC_STAT_COUNT | INT_CTL_HOLD | INT_EVQ_BASE_LO_ADDR | INT_EVQ_BASE_HI_ADDR 
  | INT_EVQ_CFG_SIZE_LOG2 | INT_EVQ_CFG_ENABLE | INT_STAT_RUNNING | INT_STAT_EVQ_FULL | INT_STAT_CFG_REJ 
  | INT_STAT_MIRROR_DROP | INT_STAT_STRAY_ACK | INT_VEC_CFG_PRIO | INT_VEC_CFG_MIN_INT_US | INT_VEC_CFG_COUNT_THR 
  | INT_VEC_STAT_PENDING | INT_VEC_STAT_READY | INT_VEC_STAT_ACTIVE | INT_VEC_STAT_ASEQ | INT_PEER_PEER_ID 
  | INT_PEER_ENABLE | INT_FWD_CNT_SENT | INT_FWD_CNT_DROPPED 
  -- ENG_ block
  | ENG_PLAN_CTL_BLEND_DEG | ENG_PLAN_CTL_TENON_EN | ENG_PLAN_CTL_CORNER_TOL_NM | ENG_LIMITS_A_MAX 
  | ENG_LIMITS_J_MAX | ENG_VEL_V_MAX | ENG_VEL_V_JUMP | ENG_LAG_X_LAG | ENG_LAG_Y_LAG | ENG_LAG_Z_LAG 
  | ENG_PARK_X_POS | ENG_PARK_Y_POS | ENG_LINK_CFG_LOSS_FRAMES | ENG_LINK_CFG_FE_LIMIT | ENG_STAT_STATE 
  | ENG_STAT_LINK_UP | ENG_STAT_LINK_FAULT | ENG_STAT_FE_ERR | ENG_STAT_HEAD_FAULT | ENG_STAT_MISWIRE 
  | ENG_STAT_CFG_REJ | ENG_STAT_VCLAMP | ENG_STAT_HORIZON | ENG_STAT_WDOG | ENG_STAT_BOUND_CH 
  | ENG_FIFO_LEVEL | ENG_REC_SEQ_SEQ | ENG_ARC_ARC_NM | ENG_POS_X_POS | ENG_POS_Y_POS | ENG_LINK_ERR_RX_BAD 
  | ENG_LINK_ERR_HEAD_CRC | ENG_HEAD_STAT_STAT | ENG_HEAD_STAT_CODE | ENG_MARK_MARK | ENG_JCT_BLENDED 
  | ENG_JCT_TENONED | ENG_GATE_CTL_MIN_OFF | ENG_GATE_ADV_ON_ADV | ENG_GATE_ADV_OFF_ADV | ENG_PWR_LEAD_LEAD 
  | ENG_GATE_STAT_GATE_NOW | ENG_GATE_STAT_COMPARE_BEHIND | ENG_GATE_STAT_BEHIND_HOLD | ENG_GATE_STAT_SAFE_STOP 
  | ENG_GATE_STAT_SAFE_STOP_SEEN | ENG_GATE_STAT_GAS_HOLD | ENG_GATE_STAT_GATE_MON | ENG_GATE_SKIP_BEHIND 
  | ENG_GATE_SKIP_LAST_OMIT | ENG_GATE_PULSES_RISES | ENG_GATE_LAT_PIN_LAT_PS | ENG_PULSE_SPC_SPACING_NM 
  | ENG_PULSE_PER_PERIOD | ENG_PULSE_W_WIDTH | ENG_PULSE_W_LAST_MODE | ENG_PULSE_W_BEHIND_MODE 
  | ENG_PULSE_FIRST_FIRST 
  -- COR_ block
  | COR_STAT_ACTIVE_BANK | COR_STAT_SHADOW_VALID | COR_STAT_SWAP_PENDING | COR_STAT_OUT_FIELD 
  | COR_STAT_PARK_CLIP | COR_STAT_LOAD_ERR | COR_STAT_ECC_ERR | COR_STAT_ACTIVE_VALID | COR_ACT_X0_ORIGIN 
  | COR_ACT_Y0_ORIGIN | COR_ACT_PITCH_PITCH_X | COR_ACT_PITCH_PITCH_Y | COR_ACT_CRC_CRC | COR_SHD_CRC_CRC 
  -- SCF_ block
  | SCF_ZONE_REF_X_REF | SCF_ZONE_REF_Y_REF | SCF_ZONE_GEOM_ANGLE | SCF_ZONE_GEOM_WIDTH_UM 
  | SCF_ZONE_SEED_SEED | SCF_ZONE_CFG_FEATHER_UM | SCF_ZONE_CFG_SHAPE | SCF_ZONE_CFG_ROLE | SCF_ZONE_CFG_REMOTE 
  | SCF_ZONE_CFG_PART_CH | SCF_ZONE_CFG_PART_ZONE | SCF_ZONE_CFG_ENABLE | SCF_ZONE_PART_PART_DEV 
  | SCF_ZONE_PART_PART_DEV_ALT | SCF_ZONE_TIME_TAKEOVER_US | SCF_ZONE_TIME_SIG | SCF_CNT_A_TAKEN 
  | SCF_CNT_A_YIELDED | SCF_CNT_B_SHORT | SCF_CNT_B_MISS | SCF_ERR_UNCOVERED | SCF_ERR_SIG_ERR 
  | SCF_ERR_NOZONE | SCF_ERR_LOSS | SCF_ERR_CFG_REJ | SCF_CFG_LOSS_US | SCF_CFG_CFG_REJ 
  -- KRF_ block
  | KRF_CFG_KEEPOUT_UM | KRF_CFG_MAX_HOLD_US | KRF_PLUME_FLOW_ANGLE | KRF_PLUME_DIM_PLUME_W_UM 
  | KRF_PLUME_DIM_PLUME_LEN | KRF_REORDER_REORDER_MAX | KRF_REORDER_REORDER_DELAY_US | KRF_HALO_CFG_VMAX_MMS 
  | KRF_HALO_CFG_STALE_US | KRF_INNER_X0_EDGE | KRF_INNER_X1_EDGE | KRF_INNER_Y0_EDGE | KRF_INNER_Y1_EDGE 
  | KRF_STAT_GAS_BLOCK | KRF_STAT_HALO_OVF | KRF_STAT_CFG_REJ | KRF_STAT_STALE | KRF_STAT_STARVING 
  | KRF_STAT_HALO_LATE | KRF_PEER_PEER_ID | KRF_PEER_ENABLE | KRF_ENG_STAT_HOLD_US | KRF_ENG_STAT_STARVING 
  | KRF_ENG_STAT_ARMING | KRF_ENG_STAT_BLOCKER | KRF_CNT_A_HOLDS | KRF_CNT_A_FORCED | KRF_CNT_B_REORDERED 
  | KRF_CNT_B_MAX_HOLD 
  -- MPL_ block
  | MPL_CFG_FB_FAIL | MPL_CFG_BOTH_ACT | MPL_CFG_INT_CLR | MPL_CFG_SPD_MIN | MPL_CFG_FF_FALLBACK 
  | MPL_FS_FS_W | MPL_PD_PD_DELAY | MPL_PD_PD_SETTLE | MPL_PD_MIN_LIT | MPL_PD_LIM_FLOOR | MPL_PD_LIM_DARK_LIMIT 
  | MPL_PD_LIM_SAT_LIMIT | MPL_STAT_FB_LOST | MPL_STAT_FF_LOST | MPL_STAT_DARK | MPL_STAT_SAT 
  | MPL_STAT_CFG_REJ | MPL_STAT_SLICE | MPL_MEAS_Y | MPL_MEAS_S_FB | MPL_FF_H | MPL_FF_S_FF 
  | MPL_CNT_FF_MISS | MPL_CNT_FB_HOLD | MPL_TARGET_TARGET | MPL_TARGET_LOOP_EN | MPL_TARGET_SPD_COMP 
  | MPL_GAIN_KP | MPL_GAIN_KI | MPL_FB_LIM_FB_MIN | MPL_FB_LIM_FB_MAX | MPL_PWR_LIM_P_MIN | MPL_PWR_LIM_P_MAX 
  | MPL_INT_I | MPL_SLICE_SLICE | MPL_SLICE_STAT_IN_SERVICE | MPL_SLICE_STAT_FAULT | MPL_SLICE_STAT_CHANNEL 
  -- GRN_ block
  | GRN_CFG_ENABLE | GRN_CFG_MATERIAL | GRN_CFG_HEAT_LSB_UJ | GRN_STEP_STEP_LOG2 | GRN_ORIGIN_X_ORIGIN 
  | GRN_ORIGIN_Y_ORIGIN | GRN_GEOM_PITCH_UM | GRN_GEOM_COLS_LOG2 | GRN_OWN_X0_EDGE | GRN_OWN_X1_EDGE 
  | GRN_OWN_Y0_EDGE | GRN_OWN_Y1_EDGE | GRN_HALO_CFG_BAND_UM | GRN_HALO_CFG_STALE_US | GRN_PEER_PEER_ID 
  | GRN_PEER_ENABLE | GRN_STAT_SWEEP | GRN_STAT_MATERIAL_NOW | GRN_STAT_TABLE_ERR | GRN_STAT_CFG_REJ 
  | GRN_STAT_OUT_MAP | GRN_STAT_MISALIGN | GRN_STAT_LOST_ANY | GRN_STAT_STALE | GRN_CNT_SATURATED 
  | GRN_CNT_ECC_UNCORR | GRN_HALO_CNT_LATE | GRN_HALO_CNT_DEFER | GRN_LOOK_NEAR | GRN_LOOK_FAR 
  | GRN_LOOK_N_READ | GRN_LOOK_SHIFT | GRN_LOST_TILES | GRN_SCALE_S_LO | GRN_SCALE_S_HI | GRN_DECAY_FACTOR 
  -- VNR_ block
  | VNR_TILE_CFG_MODE | VNR_TILE_CFG_COMPAT | VNR_TILE_CFG_FORMAT | VNR_TILE_CFG_ROT | VNR_TILE_CFG_BANDS 
  | VNR_TILE_CFG_KERF_DEF | VNR_BAND_MAP_A | VNR_BAND_MAP_B | VNR_BAND_MAP_C | VNR_COMPAT_LINE_LSYNC 
  | VNR_COMPAT_LINE_LSETTLE | VNR_COMPAT_FRAME_LACTIVE | VNR_COMPAT_FRAME_MUX | VNR_COMPAT_FRAME_FSYNC 
  | VNR_COMPAT_FRAME_FSETTLE | VNR_COMPAT_SIZE_ACT_W | VNR_COMPAT_SIZE_ACT_H | VNR_ORG_X_ORG 
  | VNR_ORG_Y_ORG | VNR_PITCH_PITCH_X | VNR_PITCH_PITCH_Y | VNR_FRZ_STATIC_MAX | VNR_STAT_STATE 
  | VNR_STAT_FREEZE | VNR_STAT_MISSED_ANY | VNR_STAT_CFG_REJ | VNR_STAT_ATT_ERR | VNR_SIG_SIG 
  | VNR_CNT_MISSED | VNR_CNT_KERF_DARK | VNR_SLOT_SLOT | VNR_DWELL_D_LO | VNR_DWELL_D_HI | VNR_BW_MBPS 
  -- VDR_ block
  | VDR_CFG_STR_LEN | VDR_CFG_PATH | VDR_CFG_GRN_DEP | VDR_CFG_DEP_SLOTS | VDR_DIM_DIM_TICKS 
  | VDR_DIM_CEN_LEAD | VDR_DIM_PWM_BITS | VDR_VF_VF_MIN | VDR_VF_VF_MAX | VDR_VF_VF_RUN | VDR_VF_VTOL 
  | VDR_FS_FS_MW | VDR_STAT_LINK_UP | VDR_STAT_PATH_NOW | VDR_STAT_PROBE_OFF | VDR_STAT_CAP_MISMATCH 
  | VDR_STAT_VDEV | VDR_STAT_STRFAIL_ANY | VDR_STAT_LINK_FAULT | VDR_STAT_CFG_REJ | VDR_STAT_STOPPED 
  | VDR_STAT_DUTY_CEIL | VDR_CAP_STRINGS | VDR_CAP_STR_LEN | VDR_CAP_BANDS | VDR_CAP_PHASE_CAP 
  | VDR_PROBE_STEP | VDR_PROBE_SUSPECT | VDR_CNT_SWEEPS | VDR_CNT_VDEV_CNT | VDR_LINK_ERR_RX_BAD 
  | VDR_LINK_ERR_ALARMS | VDR_STOP_CTL_CLEAR | VDR_STOP_SITE | VDR_STOP_SLOT | VDR_STOP_VALID 
  | VDR_STOP_STRING | VDR_STOP_POSITION | VDR_STRFAIL_FAILED 
  -- AX_ block
  | AX_CFG_ENABLE | AX_CFG_MODE | AX_CFG_REQ_HOMED | AX_CFG_SD_SHIFT | AX_CFG_STEP_W | AX_CFG_DEAD 
  | AX_CFG_STALL_TICKS | AX_VMAX_V_MAX | AX_ACCEL_VALUE | AX_DECEL_VALUE | AX_JERK_VALUE | AX_EDEC_VALUE 
  | AX_EJERK_VALUE | AX_SOFT_MIN_POS | AX_SOFT_MAX_POS | AX_CUR_I_BASE | AX_CUR_I_CEIL | AX_CUR2_I_HOLD 
  | AX_CUR2_I_HOME | AX_LA_LA_LOW | AX_LA_LA_HIGH | AX_LA_HOLD_DELAY_MS | AX_LA_VMIN_LA_VMIN 
  | AX_MOTOR_R_MOHM | AX_MOTOR_L_UH | AX_LOOP_KP | AX_LOOP_KI | AX_ISCALE_FS_MA | AX_ISCALE_I_TRIP 
  | AX_SLEW_I_SLEW | AX_HOME_SPD_HOME_SPEED | AX_HOME_POS_VALUE | AX_HOME_MAX_VALUE | AX_HOME_BACK_BACKOFF 
  | AX_POS_VALUE | AX_VEL_VALUE | AX_STAT_STATE | AX_STAT_HOMED | AX_STAT_STALL | AX_STAT_SD_FAULT 
  | AX_STAT_OVERCUR | AX_STAT_LATCHED | AX_STAT_VCLAMP | AX_STAT_CFG_REJ | AX_STAT_GOV | AX_ELEC_DELTA 
  | AX_ELEC_I_NOW 
  -- ENC_ block
  | ENC_CFG_ENABLE | ENC_CFG_FOLLOW_EN | ENC_CFG_FOLLOW_ACT | ENC_CFG_IDX_CORR | ENC_CFG_BEHIND_WAIT 
  | ENC_CFG_INVERT_DIR | ENC_CFG_GATE | ENC_CFG_EDGE_M1 | ENC_CFG_STILL_MS | ENC_CFG_FOLLOW_TICKS 
  | ENC_SCALE_NUM | ENC_SCALE_DEN | ENC_IDX_CFG_PERIOD | ENC_IDX_CFG_TOL | ENC_LIM_FOLLOW_LIM 
  | ENC_LIM_CMP_W | ENC_COUNT_VALUE | ENC_IDX_LATCH_VALUE | ENC_CMP_VAL_VALUE | ENC_DEV_VALUE 
  | ENC_CMP_TS_LO_TS | ENC_CMP_TS_HI_TS | ENC_IDX_ERR_ERR | ENC_IDX_ERR_WORST | ENC_CORR_PEND 
  | ENC_CORR_SUM | ENC_CMP_CNT_HITS_DONE | ENC_CMP_CNT_BEHIND_SKIP | ENC_ERR_CNT_EDGE_FAULT 
  | ENC_ERR_CNT_QUAD_ERRS | ENC_ERR_CNT_INDEX_MISS | ENC_STAT_ARMED | ENC_STAT_COMPARE_BEHIND 
  | ENC_STAT_INDEX_SLIP | ENC_STAT_QUAD_ERR | ENC_STAT_FOLLOW_ERR | ENC_STAT_REF_VALID | ENC_STAT_STILL 
  | ENC_STAT_CFG_REJ 
  -- CAM_ block
  | CAM_PORT_CFG_LANES_M1 | CAM_PORT_CFG_ENABLE | CAM_PORT_ERR_ECC_FIX | CAM_PORT_ERR_HDR_DROP 
  | CAM_PORT_ERR_CRC_ERR | CAM_PORT_ERR_UNSOLICITED | CAM_PORT_DROP_DT_DROP | CAM_PORT_DROP_OVERRUN 
  | CAM_INLINE_PORT | CAM_INLINE_EN | CAM_PIPE_STAT_SLICES | CAM_PIPE_STAT_QUEUE | CAM_CTX_SRC_PORT 
  | CAM_CTX_SRC_VC | CAM_CTX_SRC_DT | CAM_CTX_SIZE_W | CAM_CTX_SIZE_H | CAM_CTX_CFG_CFA | CAM_CTX_CFG_OUT_FMT 
  | CAM_CTX_CFG_RAW_KEEP | CAM_CTX_CFG_TIMEOUT_MS | CAM_CTX_BLACK_B_LO | CAM_CTX_BLACK_B_HI 
  | CAM_CTX_CCM_C_LO | CAM_CTX_CCM_C_HI | CAM_CTX_BUF_BASE_MB | CAM_CTX_BUF_COUNT | CAM_CTX_BUF_BUF_MB 
  | CAM_STREAK_X_LO | CAM_STREAK_X_HI | CAM_STREAK_Y_LO | CAM_STREAK_Y_HI | CAM_STREAK_CFG_AXIS 
  | CAM_STREAK_CFG_HALF | CAM_STREAK_CFG_STREAK_W | CAM_POOL_POOL_THR | CAM_POOL_LIM_AREA_MIN 
  | CAM_POOL_LIM_AREA_MAX | CAM_CTX_STAT_ACTIVE | CAM_CTX_STAT_SHORT_ANY | CAM_CTX_STAT_LONG_ANY 
  | CAM_CTX_STAT_DROPPED | CAM_CTX_STAT_CFG_REJ | CAM_CTX_STAT_POOL_OUT_CNT | CAM_CTX_LAST_METRIC 
  | CAM_CTX_LAST_LINES 
  -- TIM_ block
  | TIM_CTL_PTP_EN | TIM_CTL_GM_CAPABLE | TIM_CTL_SLAVE_ONLY | TIM_CTL_DOMAIN | TIM_CTL_PRIORITY1 
  | TIM_CTL_PRIORITY2 | TIM_PTP_CFG_LOG_SYNC | TIM_PTP_CFG_LOG_PDELAY | TIM_PTP_CFG_LOG_ANNOUNCE 
  | TIM_PTP_CFG_CLOCK_CLASS | TIM_SERVO_KP | TIM_SERVO_KI | TIM_LIMIT_STEP_NS | TIM_LIMIT_LOCK 
  | TIM_SLEW_SLEW_PPB | TIM_STAT_STATE | TIM_STAT_STEP_PENDING | TIM_STAT_LOST | TIM_STAT_CFG_REJ 
  | TIM_STAT_SLAVE_PORT | TIM_STAT_STEPS_REMOVED | TIM_OFFSET_OFFSET | TIM_RATE_PPB | TIM_NOW_NS_VALUE 
  | TIM_NOW_SEC_LO_VALUE | TIM_NOW_SEC_HI_VALUE | TIM_PORT_CFG_ASYM | TIM_PORT_CFG_PTP_PORT_EN 
  | TIM_PORT_DELAY_MEAN_DELAY | TIM_PORT_DELAY_PORT_STATE | TIM_PTP_CNT_DISCARDED | TIM_PTP_CNT_SYNC_RX 
  | TIM_IO_OWN_FUNC | TIM_IO_OWN2_FUNC | TIM_IO_POL_INVERT | TIM_PULSE_STAT_MODE | TIM_PULSE_STAT_ARMED 
  | TIM_PULSE_STAT_LATE | TIM_PULSE_STAT_SKIP | TIM_CAP_STAT_STAMPS | TIM_CAP_STAT_LOST 
  -- FAB_ block
  | FAB_CFG_REQ_ID | FAB_CFG_AUTO_ID | FAB_CFG_JOIN_EN | FAB_CFG_VID | FAB_GROUP_BARRIER_GRP 
  | FAB_TIMER_HELLO_US | FAB_TIMER_KEEP_MISS | FAB_TIMER_ROUTE_MS | FAB_TIMER_CLAIM_MS | FAB_SHAPE_BULK_PCT 
  | FAB_SHAPE_LEAVE_US | FAB_STAT_ID | FAB_STAT_STATE | FAB_STAT_ID_CONFLICT | FAB_STAT_CFG_REJ 
  | FAB_STAT_MAX_DIST | FAB_PORT_CFG_MODE | FAB_PORT_CFG_SHORT | FAB_PORT_CFG_FEC | FAB_PORT_CFG_AN_EN 
  | FAB_PORT_CFG_TXEQ_PRE | FAB_PORT_CFG_TXEQ_POST | FAB_PORT_CFG_TXEQ_AMP | FAB_PORT_STAT_LINK_UP 
  | FAB_PORT_STAT_RX_LOCK | FAB_PORT_STAT_NBR_KNOWN | FAB_PORT_STAT_HOLD | FAB_PORT_STAT_NBR_LOST 
  | FAB_PORT_STAT_NBR_ID | FAB_PORT_CNT_RX_BAD | FAB_PORT_CNT_RELOCKS | FAB_PORT_MAC_LO_MAC 
  | FAB_PORT_MAC_HI_MAC | FAB_DROP_NOROUTE | FAB_DROP_HOPS_EXC | FAB_DROP_DUPLICATE | FAB_DROP_NOTICE_DISC 
  | FAB_ROUTE_MASK | FAB_ROUTE_DIST | FAB_ROUTE_LEFT 
  -- HNG_ block
  | HNG_CFG_PARTNER_ID | HNG_CFG_PAIR_EN | HNG_CFG_PREFER | HNG_RESTART_TAPER_UM | HNG_PATHB_DLY_DLY 
  | HNG_STAT_STATE | HNG_STAT_ELIGIBLE | HNG_STAT_PATH_A_UP | HNG_STAT_PATH_B_UP | HNG_STAT_ALARM 
  | HNG_STAT_FENCE_IN | HNG_STAT_OWN_IN | HNG_STAT_FENCE_FAIL | HNG_STAT_TIME_ERR | HNG_STAT_REASON 
  | HNG_HEALTH_HEALTH_OK | HNG_HEALTH_BIST_FAIL | HNG_HEALTH_SCRUB_UNCORR | HNG_HEALTH_LINK_FAIL 
  | HNG_HEALTH_TIME_ERR | HNG_HEALTH_LAST_ISLAND | HNG_HEALTH_REPORTS | HNG_PEER_HEALTH_HEALTH_OK 
  | HNG_PEER_HEALTH_BIST_FAIL | HNG_PEER_HEALTH_SCRUB_UNCORR | HNG_PEER_HEALTH_LINK_FAIL | HNG_PEER_HEALTH_TIME_ERR 
  | HNG_PEER_HEALTH_LAST_ISLAND | HNG_PEER_HEALTH_REPORTS | HNG_CNT_MIRROR_MISS | HNG_CNT_SWITCHOVERS 
  | HNG_CNT_GAP_CYC 
  -- REC_ block
  | REC_CFG_PEER_ACCEPT | REC_STAT_LOG_DEGRADED | REC_STAT_FULL | REC_STAT_SCANNING | REC_STAT_BAD_BLOCKS 
  | REC_STAT_QUEUED | REC_BAD_LO_MAP | REC_BAD_HI_MAP | REC_OPSEC_OP_SEC | REC_PCYC_PCYC | REC_PCYC_SUBSEC 
  | REC_DROP_LO | REC_DROP_HI | REC_PEER_CNT_STORED | REC_PEER_CNT_DISCARDED 
  -- DRM_ block
  | DRM_CFG_PRESENT | DRM_CFG_DEV | DRM_CFG_RATE | DRM_CFG_ORDER | DRM_CFG_ILV | DRM_CFG_SIZE_GB 
  | DRM_GEOM_COL_BITS | DRM_GEOM_BG_BITS | DRM_GEOM_BA_BITS | DRM_GEOM_ROW_BITS | DRM_STAT_IN_SERVICE 
  | DRM_STAT_TRAINING | DRM_STAT_DRIFT | DRM_STAT_RT_FAIL | DRM_STAT_DEV_HOT | DRM_STAT_FALLBACK 
  | DRM_ECC_CORR | DRM_ECC_UNCORR | DRM_ECC_ADDR_BURST | DRM_SCHED_WQ_LOW | DRM_SCHED_WQ_HIGH 
  | DRM_SCHED_AGE_NS | DRM_MAINT_SCRUB_H | DRM_MAINT_RETRAIN_DC | DRM_MAINT_RETRAIN_LAYERS 
  | DRM_MAINT_DRIFT_MAX | DRM_TMO_CMD_US 
  -- THM_ block
  | THM_CFG_GRACE_DS | THM_STAT_STATE | THM_STAT_STOP_SEEN | THM_STAT_BROKEN_ANY | THM_STAT_FAST 
  | THM_STAT_CFG_REJ | THM_STAT_T_MAX | THM_CNT_ENFORCES | THM_CNT_STOPS | THM_TEMP_TEMP | THM_TEMP_BROKEN 
  | THM_TEMP_ISLAND | THM_GOV_LEVEL | THM_GOV_FLOOR 
  -- CAL_ block
  | CAL_CFG_AUTO_COPY | CAL_STAT_COVER32 | CAL_STAT_COVER33 | CAL_STAT_QUEUED | CAL_STAT_TC_FAIL 
  | CAL_SERIAL_LO_SERIAL | CAL_SERIAL_HI_SERIAL | CAL_TAP_MAP_TAP | CAL_TAP_REF_T_CAL | CAL_TAP_REF_TC 
  | CAL_GATE_LAT_LAT_PS | CAL_GATE_LAT_SLOPE | CAL_ADC_CELL_CELL0 | CAL_ADC_CELL_USE0 | CAL_ADC_CELL_CELL1 
  | CAL_ADC_CELL_USE1 | CAL_ADC_REF_SEG | CAL_ADC_REF_TC | CAL_SENSOR_OFFSET | CAL_SENSOR_GAIN 
  | CAL_DOWEL_DELAY | CAL_DOWEL_TC | CAL_IMG_CRC_CRC 
  -- MGT_ block
  | MGT_STAT_BOOT_DONE | MGT_STAT_RECOVERY | MGT_STAT_SLOT_NOW | MGT_STAT_BOOT_SLOT | MGT_STAT_FALLBACK 
  | MGT_STAT_UPD_BUSY | MGT_STAT_FETCH_ADJ | MGT_STAT_CFG_REJ | MGT_STAT_HOSTQ_LOST | MGT_STAT_MIN_SVN 
  | MGT_FW_VERSION | MGT_FW_SVN | MGT_FW_VALID | MGT_TMO_FETCH_MS | MGT_TMO_POLL_FAIL_MAX | MGT_TMO_VNR_MISS_MAX 
  | MGT_TMO_CAM_TMO_MAX | MGT_LAST_UNIT | MGT_LAST_KIND | MGT_UNIT_IN_SERVICE | MGT_UNIT_OUT_HOST 
  | MGT_UNIT_TEST_FAIL | MGT_UNIT_COVER | MGT_UNIT_FAULTS 
  deriving DecidableEq, Repr

/-- Access types of a field (R4). -/
inductive Access where
  | ro | rw | rwl | w1c | wo
  deriving DecidableEq, Repr

/-- One row of a register table: the register, the lowest bit, the width, the access type and the reset value
that every instance shares (R4, R6). -/
structure FldInfo where
  reg : Reg
  lo : Nat
  width : Nat
  acc : Access
  reset : Nat
  deriving DecidableEq, Repr

/-- Where the instances of a register lie: the address of the first, and the count and stride of each index (R450). -/
structure RegPlace where
  base : Nat
  n1 : Nat
  s1 : Nat
  n2 : Nat
  s2 : Nat
  deriving DecidableEq, Repr

end Sys2Proof.Machine
end

