-- ==== Sys2Proof/Machine/RegTable.lean ====
section
/-! DEFINITION. The register tables of the spec: for every field its register, place, width, access type, reset
value and permitted range, and for every register its address. Rules R3 to R7, R450, R478 and the register
tables of every chapter. -/

namespace Sys2Proof.Machine

/-- The island of each thermal sensor (R407). -/
def sensorIsland (k : Nat) : Nat :=
  if k ≤ 33 then k else if k ≤ 35 then 34 else if k = 36 then 35 else if k ≤ 38 then 36
  else if k ≤ 40 then 37 else if k ≤ 44 then 38 else if k = 45 then 39 else if k ≤ 49 then 40
  else if k ≤ 51 then 41 else if k ≤ 54 then 42 else if k = 55 then 43 else if k ≤ 58 then 44
  else if k = 59 then 45 else if k ≤ 61 then 46 else if k = 62 then 47 else 48


open Access in
/-- The register tables, field by field. -/
def Fld.info : Fld → FldInfo
  | .SYS_ID_DEVICE => ⟨.SYS_ID, 0, 16, ro, 0x932⟩
  | .SYS_ID_VENDOR => ⟨.SYS_ID, 16, 16, ro, 0x1f7e⟩
  | .SYS_REV_METAL => ⟨.SYS_REV, 0, 4, ro, 1⟩
  | .SYS_REV_BASE => ⟨.SYS_REV, 4, 4, ro, 1⟩
  | .SYS_REV_MAP_VER => ⟨.SYS_REV, 16, 16, ro, 1⟩
  | .SYS_SERIAL_LO_SERIAL => ⟨.SYS_SERIAL_LO, 0, 32, ro, 0⟩
  | .SYS_SERIAL_HI_SERIAL => ⟨.SYS_SERIAL_HI, 0, 32, ro, 0⟩
  | .SYS_CLKID_LO_CLKID => ⟨.SYS_CLKID_LO, 0, 32, ro, 0⟩
  | .SYS_CLKID_HI_CLKID => ⟨.SYS_CLKID_HI, 0, 32, ro, 0⟩
  | .SYS_MAC_LO_MAC => ⟨.SYS_MAC_LO, 0, 32, ro, 0⟩
  | .SYS_MAC_HI_MAC => ⟨.SYS_MAC_HI, 0, 16, ro, 0⟩
  | .SYS_CAP0_CHANNELS => ⟨.SYS_CAP0, 0, 6, ro, 0x20⟩
  | .SYS_CAP0_ENGINES => ⟨.SYS_CAP0, 6, 6, ro, 0x22⟩
  | .SYS_CAP0_TILES => ⟨.SYS_CAP0, 12, 5, ro, 0x10⟩
  | .SYS_CAP0_AXES => ⟨.SYS_CAP0, 17, 4, ro, 8⟩
  | .SYS_CAP0_CAMERAS => ⟨.SYS_CAP0, 21, 4, ro, 8⟩
  | .SYS_CAP0_FAB_PORTS => ⟨.SYS_CAP0, 25, 3, ro, 4⟩
  | .SYS_CAP0_FUNCTIONS => ⟨.SYS_CAP0, 28, 4, ro, 8⟩
  | .SYS_CAP1_SRAM_MB => ⟨.SYS_CAP1, 0, 8, ro, 0x10⟩
  | .SYS_CAP1_MRAM_MB => ⟨.SYS_CAP1, 8, 8, ro, 2⟩
  | .SYS_CAP1_ISLANDS => ⟨.SYS_CAP1, 16, 6, ro, 0x31⟩
  | .SYS_CAP1_DRAM_GB => ⟨.SYS_CAP1, 22, 6, ro, 0x20⟩
  | .SYS_STRAP_REFCLK => ⟨.SYS_STRAP, 0, 1, ro, 0⟩
  | .SYS_STRAP_RECOV => ⟨.SYS_STRAP, 1, 1, ro, 0⟩
  | .SYS_STRAP_QSPI => ⟨.SYS_STRAP, 2, 1, ro, 0⟩
  | .SYS_LOCK_LOCK => ⟨.SYS_LOCK, 0, 1, rwl, 0⟩
  | .SYS_BOOTCFG_I2C_ADDR => ⟨.SYS_BOOTCFG, 0, 7, ro, 0⟩
  | .SYS_BOOTCFG_COPY => ⟨.SYS_BOOTCFG, 7, 1, ro, 0⟩
  | .SYS_BOOTCFG_GEN => ⟨.SYS_BOOTCFG, 8, 8, ro, 0⟩
  | .SYS_IGN_WR_PARTIAL => ⟨.SYS_IGN_WR, 0, 16, ro, 0⟩
  | .SYS_IGN_WR_UNMAPPED => ⟨.SYS_IGN_WR, 16, 16, ro, 0⟩
  | .SYS_ISL_CFG_FREQ_MHZ => ⟨.SYS_ISL_CFG, 0, 8, rw, 0xc8⟩
  | .SYS_ISL_STAT_FREQ_MHZ => ⟨.SYS_ISL_STAT, 0, 8, ro, 0xc8⟩
  | .SYS_ISL_STAT_VOLT => ⟨.SYS_ISL_STAT, 8, 8, ro, 0x96⟩
  | .SYS_ISL_STAT_IN_SERVICE => ⟨.SYS_ISL_STAT, 16, 1, ro, 0⟩
  | .SYS_ISL_STAT_HOLDOVER => ⟨.SYS_ISL_STAT, 17, 1, ro, 0⟩
  | .SYS_ISL_STAT_REPLICA_ERR => ⟨.SYS_ISL_STAT, 18, 1, w1c, 0⟩
  | .SYS_ISL_STAT_GRADIENT => ⟨.SYS_ISL_STAT, 19, 1, w1c, 0⟩
  | .SYS_ISL_STAT_CFG_REJ => ⟨.SYS_ISL_STAT, 20, 1, w1c, 0⟩
  | .SYS_ISL_STAT_BRIDGE_ERR => ⟨.SYS_ISL_STAT, 21, 1, w1c, 0⟩
  | .SYS_ISL_STAT_RELOCK => ⟨.SYS_ISL_STAT, 22, 1, ro, 0⟩
  | .SYS_ISL_TOFS_OFFSET => ⟨.SYS_ISL_TOFS, 0, 16, ro, 0⟩
  | .SYS_ISL_TOFS_PEAK => ⟨.SYS_ISL_TOFS, 16, 8, ro, 0⟩
  | .SYS_LAYER_CTL_OWNER_FUNC => ⟨.SYS_LAYER_CTL, 0, 3, rwl, 0⟩
  | .SYS_LAYER_STAT_STATE => ⟨.SYS_LAYER_STAT, 0, 4, ro, 8⟩
  | .SYS_LAYER_STAT_REPEATS => ⟨.SYS_LAYER_STAT, 4, 3, ro, 0⟩
  | .SYS_LAYER_STAT_HELD => ⟨.SYS_LAYER_STAT, 7, 1, ro, 0⟩
  | .SYS_LAYER_STAT_REBASE => ⟨.SYS_LAYER_STAT, 8, 1, w1c, 0⟩
  | .SYS_LAYER_STAT_BARRIER_LATE => ⟨.SYS_LAYER_STAT, 9, 1, w1c, 0⟩
  | .SYS_LAYER_STAT_STREAK_FAIL => ⟨.SYS_LAYER_STAT, 10, 1, w1c, 0⟩
  | .SYS_LAYER_STAT_CFG_REJ => ⟨.SYS_LAYER_STAT, 11, 1, w1c, 0⟩
  | .SYS_LAYER_NUM_LAYER_NUM => ⟨.SYS_LAYER_NUM, 0, 32, ro, 0⟩
  | .SYS_LAYER_EPOCH_LO_NS => ⟨.SYS_LAYER_EPOCH_LO, 0, 32, ro, 0⟩
  | .SYS_LAYER_EPOCH_HI_SEC => ⟨.SYS_LAYER_EPOCH_HI, 0, 32, ro, 0⟩
  | .SYS_BARRIER_CFG_GROUP_SIZE => ⟨.SYS_BARRIER_CFG, 0, 11, rw, 1⟩
  | .SYS_BARRIER_CFG_LEAD_US => ⟨.SYS_BARRIER_CFG, 16, 16, rw, 0xc8⟩
  | .SYS_BARRIER_STAT_READY_COUNT => ⟨.SYS_BARRIER_STAT, 0, 11, ro, 0⟩
  | .HIF_SQ_BASE_LO_ADDR_LO => ⟨.HIF_SQ_BASE_LO, 12, 20, rw, 0⟩
  | .HIF_SQ_BASE_HI_ADDR_HI => ⟨.HIF_SQ_BASE_HI, 0, 32, rw, 0⟩
  | .HIF_SQ_CFG_SIZE_LOG2 => ⟨.HIF_SQ_CFG, 0, 5, rw, 6⟩
  | .HIF_SQ_CFG_CQ => ⟨.HIF_SQ_CFG, 8, 4, rw, 0⟩
  | .HIF_SQ_CFG_PRIO => ⟨.HIF_SQ_CFG, 12, 2, rw, 0⟩
  | .HIF_SQ_CFG_ENABLE => ⟨.HIF_SQ_CFG, 31, 1, rw, 0⟩
  | .HIF_CQ_BASE_LO_ADDR_LO => ⟨.HIF_CQ_BASE_LO, 12, 20, rw, 0⟩
  | .HIF_CQ_BASE_HI_ADDR_HI => ⟨.HIF_CQ_BASE_HI, 0, 32, rw, 0⟩
  | .HIF_CQ_CFG_SIZE_LOG2 => ⟨.HIF_CQ_CFG, 0, 5, rw, 6⟩
  | .HIF_CQ_CFG_ENABLE => ⟨.HIF_CQ_CFG, 31, 1, rw, 0⟩
  | .HIF_DB_BASE_LO_ADDR_LO => ⟨.HIF_DB_BASE_LO, 12, 20, rw, 0⟩
  | .HIF_DB_BASE_HI_ADDR_HI => ⟨.HIF_DB_BASE_HI, 0, 32, rw, 0⟩
  | .HIF_POLL_CFG_INTERVAL_US => ⟨.HIF_POLL_CFG, 0, 10, rw, 4⟩
  | .HIF_POLL_CFG_SLEEP_US => ⟨.HIF_POLL_CFG, 10, 10, rw, 0x3e8⟩
  | .HIF_POLL_CFG_POLL_EN => ⟨.HIF_POLL_CFG, 31, 1, rw, 0⟩
  | .HIF_STAT_INTERVAL_NOW => ⟨.HIF_STAT, 0, 10, ro, 4⟩
  | .HIF_STAT_IN_FLIGHT => ⟨.HIF_STAT, 10, 1, ro, 0⟩
  | .HIF_STAT_CFG_REJ => ⟨.HIF_STAT, 11, 1, w1c, 0⟩
  | .HIF_STAT_CQ_HOLD => ⟨.HIF_STAT, 12, 1, ro, 0⟩
  | .HIF_STAT_POLL_ERR => ⟨.HIF_STAT, 13, 1, w1c, 0⟩
  | .HIF_STAT_STATE_ERR => ⟨.HIF_STAT, 14, 1, w1c, 0⟩
  | .HIF_STAT_OVERSIZE => ⟨.HIF_STAT, 15, 1, w1c, 0⟩
  | .HIF_STAT_HOSTQ_USED => ⟨.HIF_STAT, 16, 13, ro, 0⟩
  | .WIN_BASE_LO_ADDR_LO => ⟨.WIN_BASE_LO, 12, 20, rwl, 0⟩
  | .WIN_BASE_HI_ADDR_HI => ⟨.WIN_BASE_HI, 0, 32, rwl, 0⟩
  | .WIN_CFG_SIZE_LOG2 => ⟨.WIN_CFG, 0, 6, rwl, 0xc⟩
  | .WIN_CFG_R => ⟨.WIN_CFG, 8, 1, rwl, 0⟩
  | .WIN_CFG_W => ⟨.WIN_CFG, 9, 1, rwl, 0⟩
  | .WIN_CFG_ENABLE => ⟨.WIN_CFG, 31, 1, rwl, 0⟩
  | .WIN_OWN_ENG_LO_ENG => ⟨.WIN_OWN_ENG_LO, 0, 32, rwl, 0⟩
  | .WIN_OWN_ENG_HI_ENG => ⟨.WIN_OWN_ENG_HI, 0, 2, rwl, 0⟩
  | .WIN_OWN_IO_TILE => ⟨.WIN_OWN_IO, 0, 16, rwl, 0⟩
  | .WIN_OWN_IO_AXIS => ⟨.WIN_OWN_IO, 16, 8, rwl, 0⟩
  | .WIN_OWN_CTX_CTX => ⟨.WIN_OWN_CTX, 0, 16, rwl, 0⟩
  | .WIN_STAGE_BASE_MB => ⟨.WIN_STAGE, 0, 16, rwl, 0⟩
  | .WIN_STAGE_SIZE_MB => ⟨.WIN_STAGE, 16, 16, rwl, 0⟩
  | .WIN_PREFETCH_FIFO_LOW => ⟨.WIN_PREFETCH, 0, 12, rw, 0x800⟩
  | .WIN_PREFETCH_VNR_AHEAD => ⟨.WIN_PREFETCH, 16, 4, rw, 4⟩
  | .WIN_FRZ_STAT_FROZEN => ⟨.WIN_FRZ_STAT, 0, 1, ro, 0⟩
  | .WIN_FRZ_STAT_SAFE => ⟨.WIN_FRZ_STAT, 1, 1, ro, 0⟩
  | .WIN_FRZ_STAT_CAUSE => ⟨.WIN_FRZ_STAT, 4, 4, ro, 0⟩
  | .WIN_FRZ_STAT_REPEAT => ⟨.WIN_FRZ_STAT, 8, 8, ro, 0⟩
  | .WIN_FRZ_STAT_IGN_WRITES => ⟨.WIN_FRZ_STAT, 16, 16, ro, 0⟩
  | .WIN_FRZ_ADDR_LO_ADDR => ⟨.WIN_FRZ_ADDR_LO, 0, 32, ro, 0⟩
  | .WIN_FRZ_ADDR_HI_ADDR => ⟨.WIN_FRZ_ADDR_HI, 0, 32, ro, 0⟩
  | .WIN_FRZ_CTL_FUNC => ⟨.WIN_FRZ_CTL, 0, 3, wo, 0⟩
  | .WIN_FRZ_CTL_PEER_ID => ⟨.WIN_FRZ_CTL, 16, 10, wo, 0⟩
  | .WIN_FRZ_CTL_KIND => ⟨.WIN_FRZ_CTL, 30, 2, wo, 0⟩
  | .WIN_GRANT_ID_ID_LO => ⟨.WIN_GRANT_ID, 0, 10, rwl, 0⟩
  | .WIN_GRANT_ID_ID_HI => ⟨.WIN_GRANT_ID, 16, 10, rwl, 0⟩
  | .WIN_GRANT_CFG_CLASS => ⟨.WIN_GRANT_CFG, 0, 8, rwl, 0⟩
  | .WIN_GRANT_CFG_ENABLE => ⟨.WIN_GRANT_CFG, 31, 1, rwl, 0⟩
  | .WIN_GRANT_DRAM_BASE_MB => ⟨.WIN_GRANT_DRAM, 0, 16, rwl, 0⟩
  | .WIN_GRANT_DRAM_SIZE_MB => ⟨.WIN_GRANT_DRAM, 16, 16, rwl, 0⟩
  | .WIN_PEER_FRZ_FROZEN => ⟨.WIN_PEER_FRZ, 0, 32, ro, 0⟩
  | .WIN_PEER_CAUSE_PEER_ID => ⟨.WIN_PEER_CAUSE, 0, 10, ro, 0⟩
  | .WIN_PEER_CAUSE_KIND => ⟨.WIN_PEER_CAUSE, 16, 8, ro, 0⟩
  | .WIN_PEER_CAUSE_COUNT => ⟨.WIN_PEER_CAUSE, 24, 8, ro, 0⟩
  | .WIN_STAT_CFG_REJ => ⟨.WIN_STAT, 0, 1, w1c, 0⟩
  | .WIN_MOVER_STAT_BUSY => ⟨.WIN_MOVER_STAT, 0, 8, ro, 0⟩
  | .WIN_MOVER_STAT_UNDERRUN => ⟨.WIN_MOVER_STAT, 16, 16, ro, 0⟩
  | .INT_SRC_CFG_VECTOR => ⟨.INT_SRC_CFG, 0, 6, rw, 0⟩
  | .INT_SRC_CFG_EN => ⟨.INT_SRC_CFG, 8, 1, rw, 0⟩
  | .INT_SRC_CFG_FWD => ⟨.INT_SRC_CFG, 9, 1, rw, 0⟩
  | .INT_SRC_CFG_FWD_SLOT => ⟨.INT_SRC_CFG, 10, 3, rw, 0⟩
  | .INT_SRC_STAT_PENDING => ⟨.INT_SRC_STAT, 0, 1, ro, 0⟩
  | .INT_SRC_STAT_ACTIVE => ⟨.INT_SRC_STAT, 1, 1, ro, 0⟩
  | .INT_SRC_STAT_COUNT => ⟨.INT_SRC_STAT, 8, 8, ro, 0⟩
  | .INT_CTL_HOLD => ⟨.INT_CTL, 0, 1, rw, 0⟩
  | .INT_EVQ_BASE_LO_ADDR => ⟨.INT_EVQ_BASE_LO, 12, 20, rw, 0⟩
  | .INT_EVQ_BASE_HI_ADDR => ⟨.INT_EVQ_BASE_HI, 0, 32, rw, 0⟩
  | .INT_EVQ_CFG_SIZE_LOG2 => ⟨.INT_EVQ_CFG, 0, 5, rw, 6⟩
  | .INT_EVQ_CFG_ENABLE => ⟨.INT_EVQ_CFG, 31, 1, rw, 0⟩
  | .INT_STAT_RUNNING => ⟨.INT_STAT, 0, 5, ro, 0x10⟩
  | .INT_STAT_EVQ_FULL => ⟨.INT_STAT, 5, 1, ro, 0⟩
  | .INT_STAT_CFG_REJ => ⟨.INT_STAT, 6, 1, w1c, 0⟩
  | .INT_STAT_MIRROR_DROP => ⟨.INT_STAT, 8, 8, ro, 0⟩
  | .INT_STAT_STRAY_ACK => ⟨.INT_STAT, 16, 16, ro, 0⟩
  | .INT_VEC_CFG_PRIO => ⟨.INT_VEC_CFG, 0, 4, rw, 0xf⟩
  | .INT_VEC_CFG_MIN_INT_US => ⟨.INT_VEC_CFG, 4, 10, rw, 0⟩
  | .INT_VEC_CFG_COUNT_THR => ⟨.INT_VEC_CFG, 14, 8, rw, 1⟩
  | .INT_VEC_STAT_PENDING => ⟨.INT_VEC_STAT, 0, 1, ro, 0⟩
  | .INT_VEC_STAT_READY => ⟨.INT_VEC_STAT, 1, 1, ro, 0⟩
  | .INT_VEC_STAT_ACTIVE => ⟨.INT_VEC_STAT, 2, 1, ro, 0⟩
  | .INT_VEC_STAT_ASEQ => ⟨.INT_VEC_STAT, 16, 16, ro, 0⟩
  | .INT_PEER_PEER_ID => ⟨.INT_PEER, 0, 10, rw, 0⟩
  | .INT_PEER_ENABLE => ⟨.INT_PEER, 31, 1, rw, 0⟩
  | .INT_FWD_CNT_SENT => ⟨.INT_FWD_CNT, 0, 16, ro, 0⟩
  | .INT_FWD_CNT_DROPPED => ⟨.INT_FWD_CNT, 16, 16, ro, 0⟩
  | .ENG_PLAN_CTL_BLEND_DEG => ⟨.ENG_PLAN_CTL, 0, 8, rw, 0x1e⟩
  | .ENG_PLAN_CTL_TENON_EN => ⟨.ENG_PLAN_CTL, 8, 1, rw, 1⟩
  | .ENG_PLAN_CTL_CORNER_TOL_NM => ⟨.ENG_PLAN_CTL, 16, 16, rw, 0x7d0⟩
  | .ENG_LIMITS_A_MAX => ⟨.ENG_LIMITS, 0, 16, rw, 0xfa0⟩
  | .ENG_LIMITS_J_MAX => ⟨.ENG_LIMITS, 16, 16, rw, 0xfa0⟩
  | .ENG_VEL_V_MAX => ⟨.ENG_VEL, 0, 16, rw, 0xfa0⟩
  | .ENG_VEL_V_JUMP => ⟨.ENG_VEL, 16, 16, rw, 0x1f40⟩
  | .ENG_LAG_X_LAG => ⟨.ENG_LAG_X, 0, 16, rw, 0⟩
  | .ENG_LAG_Y_LAG => ⟨.ENG_LAG_Y, 0, 16, rw, 0⟩
  | .ENG_LAG_Z_LAG => ⟨.ENG_LAG_Z, 0, 16, rw, 0⟩
  | .ENG_PARK_X_POS => ⟨.ENG_PARK_X, 0, 32, rw, 0⟩
  | .ENG_PARK_Y_POS => ⟨.ENG_PARK_Y, 0, 32, rw, 0⟩
  | .ENG_LINK_CFG_LOSS_FRAMES => ⟨.ENG_LINK_CFG, 0, 4, rw, 4⟩
  | .ENG_LINK_CFG_FE_LIMIT => ⟨.ENG_LINK_CFG, 16, 16, rw, 0⟩
  | .ENG_STAT_STATE => ⟨.ENG_STAT, 0, 4, ro, 0⟩
  | .ENG_STAT_LINK_UP => ⟨.ENG_STAT, 4, 1, ro, 0⟩
  | .ENG_STAT_LINK_FAULT => ⟨.ENG_STAT, 5, 1, w1c, 0⟩
  | .ENG_STAT_FE_ERR => ⟨.ENG_STAT, 6, 1, w1c, 0⟩
  | .ENG_STAT_HEAD_FAULT => ⟨.ENG_STAT, 7, 1, w1c, 0⟩
  | .ENG_STAT_MISWIRE => ⟨.ENG_STAT, 8, 1, w1c, 0⟩
  | .ENG_STAT_CFG_REJ => ⟨.ENG_STAT, 9, 1, w1c, 0⟩
  | .ENG_STAT_VCLAMP => ⟨.ENG_STAT, 10, 1, w1c, 0⟩
  | .ENG_STAT_HORIZON => ⟨.ENG_STAT, 11, 1, w1c, 0⟩
  | .ENG_STAT_WDOG => ⟨.ENG_STAT, 12, 1, w1c, 0⟩
  | .ENG_STAT_BOUND_CH => ⟨.ENG_STAT, 16, 6, ro, 0x3f⟩
  | .ENG_FIFO_LEVEL => ⟨.ENG_FIFO, 0, 12, ro, 0⟩
  | .ENG_REC_SEQ_SEQ => ⟨.ENG_REC_SEQ, 0, 32, ro, 0⟩
  | .ENG_ARC_ARC_NM => ⟨.ENG_ARC, 0, 32, ro, 0⟩
  | .ENG_POS_X_POS => ⟨.ENG_POS_X, 0, 32, ro, 0⟩
  | .ENG_POS_Y_POS => ⟨.ENG_POS_Y, 0, 32, ro, 0⟩
  | .ENG_LINK_ERR_RX_BAD => ⟨.ENG_LINK_ERR, 0, 16, ro, 0⟩
  | .ENG_LINK_ERR_HEAD_CRC => ⟨.ENG_LINK_ERR, 16, 16, ro, 0⟩
  | .ENG_HEAD_STAT_STAT => ⟨.ENG_HEAD_STAT, 0, 16, ro, 0⟩
  | .ENG_HEAD_STAT_CODE => ⟨.ENG_HEAD_STAT, 16, 16, ro, 0⟩
  | .ENG_MARK_MARK => ⟨.ENG_MARK, 0, 32, ro, 0⟩
  | .ENG_JCT_BLENDED => ⟨.ENG_JCT, 0, 16, ro, 0⟩
  | .ENG_JCT_TENONED => ⟨.ENG_JCT, 16, 16, ro, 0⟩
  | .ENG_GATE_CTL_MIN_OFF => ⟨.ENG_GATE_CTL, 0, 16, rw, 0x80⟩
  | .ENG_GATE_ADV_ON_ADV => ⟨.ENG_GATE_ADV_ON, 0, 22, rw, 0⟩
  | .ENG_GATE_ADV_OFF_ADV => ⟨.ENG_GATE_ADV_OFF, 0, 22, rw, 0⟩
  | .ENG_PWR_LEAD_LEAD => ⟨.ENG_PWR_LEAD, 0, 16, rw, 0⟩
  | .ENG_GATE_STAT_GATE_NOW => ⟨.ENG_GATE_STAT, 0, 1, ro, 0⟩
  | .ENG_GATE_STAT_COMPARE_BEHIND => ⟨.ENG_GATE_STAT, 1, 1, w1c, 0⟩
  | .ENG_GATE_STAT_BEHIND_HOLD => ⟨.ENG_GATE_STAT, 2, 1, ro, 0⟩
  | .ENG_GATE_STAT_SAFE_STOP => ⟨.ENG_GATE_STAT, 3, 1, ro, 0⟩
  | .ENG_GATE_STAT_SAFE_STOP_SEEN => ⟨.ENG_GATE_STAT, 4, 1, w1c, 0⟩
  | .ENG_GATE_STAT_GAS_HOLD => ⟨.ENG_GATE_STAT, 5, 1, ro, 0⟩
  | .ENG_GATE_STAT_GATE_MON => ⟨.ENG_GATE_STAT, 6, 1, w1c, 0⟩
  | .ENG_GATE_SKIP_BEHIND => ⟨.ENG_GATE_SKIP, 0, 16, ro, 0⟩
  | .ENG_GATE_SKIP_LAST_OMIT => ⟨.ENG_GATE_SKIP, 16, 16, ro, 0⟩
  | .ENG_GATE_PULSES_RISES => ⟨.ENG_GATE_PULSES, 0, 32, ro, 0⟩
  | .ENG_GATE_LAT_PIN_LAT_PS => ⟨.ENG_GATE_LAT, 0, 11, ro, 0⟩
  | .ENG_PULSE_SPC_SPACING_NM => ⟨.ENG_PULSE_SPC, 0, 32, rw, 0x4e20⟩
  | .ENG_PULSE_PER_PERIOD => ⟨.ENG_PULSE_PER, 0, 24, rw, 0x3200⟩
  | .ENG_PULSE_W_WIDTH => ⟨.ENG_PULSE_W, 0, 24, rw, 0x1900⟩
  | .ENG_PULSE_W_LAST_MODE => ⟨.ENG_PULSE_W, 24, 2, rw, 0⟩
  | .ENG_PULSE_W_BEHIND_MODE => ⟨.ENG_PULSE_W, 26, 1, rw, 0⟩
  | .ENG_PULSE_FIRST_FIRST => ⟨.ENG_PULSE_FIRST, 0, 32, rw, 0⟩
  | .COR_STAT_ACTIVE_BANK => ⟨.COR_STAT, 0, 1, ro, 0⟩
  | .COR_STAT_SHADOW_VALID => ⟨.COR_STAT, 1, 1, ro, 0⟩
  | .COR_STAT_SWAP_PENDING => ⟨.COR_STAT, 2, 1, ro, 0⟩
  | .COR_STAT_OUT_FIELD => ⟨.COR_STAT, 3, 1, w1c, 0⟩
  | .COR_STAT_PARK_CLIP => ⟨.COR_STAT, 4, 1, w1c, 0⟩
  | .COR_STAT_LOAD_ERR => ⟨.COR_STAT, 5, 1, w1c, 0⟩
  | .COR_STAT_ECC_ERR => ⟨.COR_STAT, 6, 1, w1c, 0⟩
  | .COR_STAT_ACTIVE_VALID => ⟨.COR_STAT, 7, 1, ro, 0⟩
  | .COR_ACT_X0_ORIGIN => ⟨.COR_ACT_X0, 0, 32, ro, 0⟩
  | .COR_ACT_Y0_ORIGIN => ⟨.COR_ACT_Y0, 0, 32, ro, 0⟩
  | .COR_ACT_PITCH_PITCH_X => ⟨.COR_ACT_PITCH, 0, 16, ro, 0⟩
  | .COR_ACT_PITCH_PITCH_Y => ⟨.COR_ACT_PITCH, 16, 16, ro, 0⟩
  | .COR_ACT_CRC_CRC => ⟨.COR_ACT_CRC, 0, 32, ro, 0⟩
  | .COR_SHD_CRC_CRC => ⟨.COR_SHD_CRC, 0, 32, ro, 0⟩
  | .SCF_ZONE_REF_X_REF => ⟨.SCF_ZONE_REF_X, 0, 32, rw, 0⟩
  | .SCF_ZONE_REF_Y_REF => ⟨.SCF_ZONE_REF_Y, 0, 32, rw, 0⟩
  | .SCF_ZONE_GEOM_ANGLE => ⟨.SCF_ZONE_GEOM, 0, 16, rw, 0⟩
  | .SCF_ZONE_GEOM_WIDTH_UM => ⟨.SCF_ZONE_GEOM, 16, 16, rw, 0x1f40⟩
  | .SCF_ZONE_SEED_SEED => ⟨.SCF_ZONE_SEED, 0, 32, rw, 0⟩
  | .SCF_ZONE_CFG_FEATHER_UM => ⟨.SCF_ZONE_CFG, 0, 11, rw, 0x3e8⟩
  | .SCF_ZONE_CFG_SHAPE => ⟨.SCF_ZONE_CFG, 11, 1, rw, 0⟩
  | .SCF_ZONE_CFG_ROLE => ⟨.SCF_ZONE_CFG, 12, 1, rw, 0⟩
  | .SCF_ZONE_CFG_REMOTE => ⟨.SCF_ZONE_CFG, 13, 1, rw, 0⟩
  | .SCF_ZONE_CFG_PART_CH => ⟨.SCF_ZONE_CFG, 16, 6, rw, 0⟩
  | .SCF_ZONE_CFG_PART_ZONE => ⟨.SCF_ZONE_CFG, 24, 6, rw, 0⟩
  | .SCF_ZONE_CFG_ENABLE => ⟨.SCF_ZONE_CFG, 31, 1, rw, 0⟩
  | .SCF_ZONE_PART_PART_DEV => ⟨.SCF_ZONE_PART, 0, 10, rw, 0⟩
  | .SCF_ZONE_PART_PART_DEV_ALT => ⟨.SCF_ZONE_PART, 16, 10, rw, 0⟩
  | .SCF_ZONE_TIME_TAKEOVER_US => ⟨.SCF_ZONE_TIME, 0, 16, rw, 0⟩
  | .SCF_ZONE_TIME_SIG => ⟨.SCF_ZONE_TIME, 16, 16, ro, 0⟩
  | .SCF_CNT_A_TAKEN => ⟨.SCF_CNT_A, 0, 16, ro, 0⟩
  | .SCF_CNT_A_YIELDED => ⟨.SCF_CNT_A, 16, 16, ro, 0⟩
  | .SCF_CNT_B_SHORT => ⟨.SCF_CNT_B, 0, 16, ro, 0⟩
  | .SCF_CNT_B_MISS => ⟨.SCF_CNT_B, 16, 16, ro, 0⟩
  | .SCF_ERR_UNCOVERED => ⟨.SCF_ERR, 0, 16, ro, 0⟩
  | .SCF_ERR_SIG_ERR => ⟨.SCF_ERR, 16, 1, w1c, 0⟩
  | .SCF_ERR_NOZONE => ⟨.SCF_ERR, 17, 1, w1c, 0⟩
  | .SCF_ERR_LOSS => ⟨.SCF_ERR, 18, 1, w1c, 0⟩
  | .SCF_ERR_CFG_REJ => ⟨.SCF_ERR, 19, 1, w1c, 0⟩
  | .SCF_CFG_LOSS_US => ⟨.SCF_CFG, 0, 16, rw, 0x3e8⟩
  | .SCF_CFG_CFG_REJ => ⟨.SCF_CFG, 16, 1, w1c, 0⟩
  | .KRF_CFG_KEEPOUT_UM => ⟨.KRF_CFG, 0, 16, rw, 0⟩
  | .KRF_CFG_MAX_HOLD_US => ⟨.KRF_CFG, 16, 14, rw, 0x7d0⟩
  | .KRF_PLUME_FLOW_ANGLE => ⟨.KRF_PLUME, 0, 16, rw, 0⟩
  | .KRF_PLUME_DIM_PLUME_W_UM => ⟨.KRF_PLUME_DIM, 0, 16, rw, 0⟩
  | .KRF_PLUME_DIM_PLUME_LEN => ⟨.KRF_PLUME_DIM, 16, 16, rw, 0⟩
  | .KRF_REORDER_REORDER_MAX => ⟨.KRF_REORDER, 0, 4, rw, 0⟩
  | .KRF_REORDER_REORDER_DELAY_US => ⟨.KRF_REORDER, 16, 16, rw, 0xc8⟩
  | .KRF_HALO_CFG_VMAX_MMS => ⟨.KRF_HALO_CFG, 0, 16, rw, 0xfa0⟩
  | .KRF_HALO_CFG_STALE_US => ⟨.KRF_HALO_CFG, 16, 16, rw, 0x64⟩
  | .KRF_INNER_X0_EDGE => ⟨.KRF_INNER_X0, 0, 32, rw, 0⟩
  | .KRF_INNER_X1_EDGE => ⟨.KRF_INNER_X1, 0, 32, rw, 0⟩
  | .KRF_INNER_Y0_EDGE => ⟨.KRF_INNER_Y0, 0, 32, rw, 0⟩
  | .KRF_INNER_Y1_EDGE => ⟨.KRF_INNER_Y1, 0, 32, rw, 0⟩
  | .KRF_STAT_GAS_BLOCK => ⟨.KRF_STAT, 0, 1, ro, 0⟩
  | .KRF_STAT_HALO_OVF => ⟨.KRF_STAT, 1, 1, w1c, 0⟩
  | .KRF_STAT_CFG_REJ => ⟨.KRF_STAT, 2, 1, w1c, 0⟩
  | .KRF_STAT_STALE => ⟨.KRF_STAT, 8, 8, ro, 0⟩
  | .KRF_STAT_STARVING => ⟨.KRF_STAT, 16, 6, ro, 0⟩
  | .KRF_STAT_HALO_LATE => ⟨.KRF_STAT, 22, 10, ro, 0⟩
  | .KRF_PEER_PEER_ID => ⟨.KRF_PEER, 0, 10, rw, 0⟩
  | .KRF_PEER_ENABLE => ⟨.KRF_PEER, 31, 1, rw, 0⟩
  | .KRF_ENG_STAT_HOLD_US => ⟨.KRF_ENG_STAT, 0, 14, ro, 0⟩
  | .KRF_ENG_STAT_STARVING => ⟨.KRF_ENG_STAT, 14, 1, ro, 0⟩
  | .KRF_ENG_STAT_ARMING => ⟨.KRF_ENG_STAT, 15, 1, ro, 0⟩
  | .KRF_ENG_STAT_BLOCKER => ⟨.KRF_ENG_STAT, 16, 6, ro, 0x3f⟩
  | .KRF_CNT_A_HOLDS => ⟨.KRF_CNT_A, 0, 16, ro, 0⟩
  | .KRF_CNT_A_FORCED => ⟨.KRF_CNT_A, 16, 16, ro, 0⟩
  | .KRF_CNT_B_REORDERED => ⟨.KRF_CNT_B, 0, 16, ro, 0⟩
  | .KRF_CNT_B_MAX_HOLD => ⟨.KRF_CNT_B, 16, 16, ro, 0⟩
  | .MPL_CFG_FB_FAIL => ⟨.MPL_CFG, 0, 1, rw, 0⟩
  | .MPL_CFG_BOTH_ACT => ⟨.MPL_CFG, 1, 1, rw, 0⟩
  | .MPL_CFG_INT_CLR => ⟨.MPL_CFG, 2, 1, wo, 0⟩
  | .MPL_CFG_SPD_MIN => ⟨.MPL_CFG, 8, 8, rw, 0x40⟩
  | .MPL_CFG_FF_FALLBACK => ⟨.MPL_CFG, 16, 16, rw, 0x8000⟩
  | .MPL_FS_FS_W => ⟨.MPL_FS, 0, 16, rw, 0x1f4⟩
  | .MPL_PD_PD_DELAY => ⟨.MPL_PD, 0, 10, rw, 0⟩
  | .MPL_PD_PD_SETTLE => ⟨.MPL_PD, 10, 10, rw, 0x32⟩
  | .MPL_PD_MIN_LIT => ⟨.MPL_PD, 20, 5, rw, 0xa⟩
  | .MPL_PD_LIM_FLOOR => ⟨.MPL_PD_LIM, 0, 15, rw, 0x64⟩
  | .MPL_PD_LIM_DARK_LIMIT => ⟨.MPL_PD_LIM, 16, 8, rw, 0x32⟩
  | .MPL_PD_LIM_SAT_LIMIT => ⟨.MPL_PD_LIM, 24, 8, rw, 0x10⟩
  | .MPL_STAT_FB_LOST => ⟨.MPL_STAT, 0, 1, ro, 0⟩
  | .MPL_STAT_FF_LOST => ⟨.MPL_STAT, 1, 1, ro, 0⟩
  | .MPL_STAT_DARK => ⟨.MPL_STAT, 2, 1, w1c, 0⟩
  | .MPL_STAT_SAT => ⟨.MPL_STAT, 3, 1, w1c, 0⟩
  | .MPL_STAT_CFG_REJ => ⟨.MPL_STAT, 4, 1, w1c, 0⟩
  | .MPL_STAT_SLICE => ⟨.MPL_STAT, 8, 6, ro, 0x3f⟩
  | .MPL_MEAS_Y => ⟨.MPL_MEAS, 0, 16, ro, 0⟩
  | .MPL_MEAS_S_FB => ⟨.MPL_MEAS, 16, 16, ro, 0x8000⟩
  | .MPL_FF_H => ⟨.MPL_FF, 0, 16, ro, 0⟩
  | .MPL_FF_S_FF => ⟨.MPL_FF, 16, 16, ro, 0x8000⟩
  | .MPL_CNT_FF_MISS => ⟨.MPL_CNT, 0, 16, ro, 0⟩
  | .MPL_CNT_FB_HOLD => ⟨.MPL_CNT, 16, 16, ro, 0⟩
  | .MPL_TARGET_TARGET => ⟨.MPL_TARGET, 0, 15, rw, 0x2000⟩
  | .MPL_TARGET_LOOP_EN => ⟨.MPL_TARGET, 16, 1, rw, 0⟩
  | .MPL_TARGET_SPD_COMP => ⟨.MPL_TARGET, 17, 1, rw, 0⟩
  | .MPL_GAIN_KP => ⟨.MPL_GAIN, 0, 16, rw, 0x400⟩
  | .MPL_GAIN_KI => ⟨.MPL_GAIN, 16, 16, rw, 0x666⟩
  | .MPL_FB_LIM_FB_MIN => ⟨.MPL_FB_LIM, 0, 16, rw, 0x6666⟩
  | .MPL_FB_LIM_FB_MAX => ⟨.MPL_FB_LIM, 16, 16, rw, 0x999a⟩
  | .MPL_PWR_LIM_P_MIN => ⟨.MPL_PWR_LIM, 0, 16, rw, 0⟩
  | .MPL_PWR_LIM_P_MAX => ⟨.MPL_PWR_LIM, 16, 16, rw, 0xffff⟩
  | .MPL_INT_I => ⟨.MPL_INT, 0, 32, ro, 0⟩
  | .MPL_SLICE_SLICE => ⟨.MPL_SLICE, 0, 6, ro, 0⟩
  | .MPL_SLICE_STAT_IN_SERVICE => ⟨.MPL_SLICE_STAT, 0, 1, ro, 0⟩
  | .MPL_SLICE_STAT_FAULT => ⟨.MPL_SLICE_STAT, 1, 1, w1c, 0⟩
  | .MPL_SLICE_STAT_CHANNEL => ⟨.MPL_SLICE_STAT, 8, 6, ro, 0⟩
  | .GRN_CFG_ENABLE => ⟨.GRN_CFG, 0, 1, rw, 0⟩
  | .GRN_CFG_MATERIAL => ⟨.GRN_CFG, 1, 2, rw, 0⟩
  | .GRN_CFG_HEAT_LSB_UJ => ⟨.GRN_CFG, 16, 16, rw, 0xa⟩
  | .GRN_STEP_STEP_LOG2 => ⟨.GRN_STEP, 0, 16, rw, 0x2222⟩
  | .GRN_ORIGIN_X_ORIGIN => ⟨.GRN_ORIGIN_X, 0, 32, rw, 0⟩
  | .GRN_ORIGIN_Y_ORIGIN => ⟨.GRN_ORIGIN_Y, 0, 32, rw, 0⟩
  | .GRN_GEOM_PITCH_UM => ⟨.GRN_GEOM, 0, 10, rw, 0x1f4⟩
  | .GRN_GEOM_COLS_LOG2 => ⟨.GRN_GEOM, 16, 4, rw, 0xb⟩
  | .GRN_OWN_X0_EDGE => ⟨.GRN_OWN_X0, 0, 32, rw, 0⟩
  | .GRN_OWN_X1_EDGE => ⟨.GRN_OWN_X1, 0, 32, rw, 0⟩
  | .GRN_OWN_Y0_EDGE => ⟨.GRN_OWN_Y0, 0, 32, rw, 0⟩
  | .GRN_OWN_Y1_EDGE => ⟨.GRN_OWN_Y1, 0, 32, rw, 0⟩
  | .GRN_HALO_CFG_BAND_UM => ⟨.GRN_HALO_CFG, 0, 16, rw, 0x1388⟩
  | .GRN_HALO_CFG_STALE_US => ⟨.GRN_HALO_CFG, 16, 16, rw, 0x64⟩
  | .GRN_PEER_PEER_ID => ⟨.GRN_PEER, 0, 10, rw, 0⟩
  | .GRN_PEER_ENABLE => ⟨.GRN_PEER, 31, 1, rw, 0⟩
  | .GRN_STAT_SWEEP => ⟨.GRN_STAT, 0, 1, ro, 0⟩
  | .GRN_STAT_MATERIAL_NOW => ⟨.GRN_STAT, 1, 2, ro, 0⟩
  | .GRN_STAT_TABLE_ERR => ⟨.GRN_STAT, 3, 1, w1c, 0⟩
  | .GRN_STAT_CFG_REJ => ⟨.GRN_STAT, 4, 1, w1c, 0⟩
  | .GRN_STAT_OUT_MAP => ⟨.GRN_STAT, 5, 1, w1c, 0⟩
  | .GRN_STAT_MISALIGN => ⟨.GRN_STAT, 6, 1, w1c, 0⟩
  | .GRN_STAT_LOST_ANY => ⟨.GRN_STAT, 7, 1, ro, 0⟩
  | .GRN_STAT_STALE => ⟨.GRN_STAT, 8, 8, ro, 0⟩
  | .GRN_CNT_SATURATED => ⟨.GRN_CNT, 0, 16, ro, 0⟩
  | .GRN_CNT_ECC_UNCORR => ⟨.GRN_CNT, 16, 16, ro, 0⟩
  | .GRN_HALO_CNT_LATE => ⟨.GRN_HALO_CNT, 0, 16, ro, 0⟩
  | .GRN_HALO_CNT_DEFER => ⟨.GRN_HALO_CNT, 16, 16, ro, 0⟩
  | .GRN_LOOK_NEAR => ⟨.GRN_LOOK, 0, 9, rw, 0x1e⟩
  | .GRN_LOOK_FAR => ⟨.GRN_LOOK, 9, 9, rw, 0x64⟩
  | .GRN_LOOK_N_READ => ⟨.GRN_LOOK, 18, 2, rw, 1⟩
  | .GRN_LOOK_SHIFT => ⟨.GRN_LOOK, 20, 4, rw, 0xa⟩
  | .GRN_LOST_TILES => ⟨.GRN_LOST, 0, 32, ro, 0⟩
  | .GRN_SCALE_S_LO => ⟨.GRN_SCALE, 0, 16, rw, 0x8000⟩
  | .GRN_SCALE_S_HI => ⟨.GRN_SCALE, 16, 16, rw, 0x8000⟩
  | .GRN_DECAY_FACTOR => ⟨.GRN_DECAY, 0, 17, rw, 0x10000⟩
  | .VNR_TILE_CFG_MODE => ⟨.VNR_TILE_CFG, 0, 4, rw, 0⟩
  | .VNR_TILE_CFG_COMPAT => ⟨.VNR_TILE_CFG, 4, 1, rw, 0⟩
  | .VNR_TILE_CFG_FORMAT => ⟨.VNR_TILE_CFG, 5, 2, rw, 1⟩
  | .VNR_TILE_CFG_ROT => ⟨.VNR_TILE_CFG, 7, 2, rw, 0⟩
  | .VNR_TILE_CFG_BANDS => ⟨.VNR_TILE_CFG, 9, 2, rw, 1⟩
  | .VNR_TILE_CFG_KERF_DEF => ⟨.VNR_TILE_CFG, 11, 1, rw, 0⟩
  | .VNR_BAND_MAP_A => ⟨.VNR_BAND, 0, 2, rw, 1⟩
  | .VNR_BAND_MAP_B => ⟨.VNR_BAND, 2, 2, rw, 0⟩
  | .VNR_BAND_MAP_C => ⟨.VNR_BAND, 4, 2, rw, 0⟩
  | .VNR_COMPAT_LINE_LSYNC => ⟨.VNR_COMPAT_LINE, 0, 11, rw, 8⟩
  | .VNR_COMPAT_LINE_LSETTLE => ⟨.VNR_COMPAT_LINE, 11, 11, rw, 0x20⟩
  | .VNR_COMPAT_FRAME_LACTIVE => ⟨.VNR_COMPAT_FRAME, 0, 14, rw, 0x1cc⟩
  | .VNR_COMPAT_FRAME_MUX => ⟨.VNR_COMPAT_FRAME, 14, 1, rw, 0⟩
  | .VNR_COMPAT_FRAME_FSYNC => ⟨.VNR_COMPAT_FRAME, 16, 8, rw, 2⟩
  | .VNR_COMPAT_FRAME_FSETTLE => ⟨.VNR_COMPAT_FRAME, 24, 8, rw, 0xe⟩
  | .VNR_COMPAT_SIZE_ACT_W => ⟨.VNR_COMPAT_SIZE, 0, 13, rw, 0x40⟩
  | .VNR_COMPAT_SIZE_ACT_H => ⟨.VNR_COMPAT_SIZE, 16, 13, rw, 0x40⟩
  | .VNR_ORG_X_ORG => ⟨.VNR_ORG_X, 0, 32, rw, 0⟩
  | .VNR_ORG_Y_ORG => ⟨.VNR_ORG_Y, 0, 32, rw, 0⟩
  | .VNR_PITCH_PITCH_X => ⟨.VNR_PITCH, 0, 16, rw, 0x1f4⟩
  | .VNR_PITCH_PITCH_Y => ⟨.VNR_PITCH, 16, 16, rw, 0x1f4⟩
  | .VNR_FRZ_STATIC_MAX => ⟨.VNR_FRZ, 0, 16, rw, 0x400⟩
  | .VNR_STAT_STATE => ⟨.VNR_STAT, 0, 3, ro, 0⟩
  | .VNR_STAT_FREEZE => ⟨.VNR_STAT, 3, 1, w1c, 0⟩
  | .VNR_STAT_MISSED_ANY => ⟨.VNR_STAT, 4, 1, w1c, 0⟩
  | .VNR_STAT_CFG_REJ => ⟨.VNR_STAT, 5, 1, w1c, 0⟩
  | .VNR_STAT_ATT_ERR => ⟨.VNR_STAT, 8, 3, ro, 0⟩
  | .VNR_SIG_SIG => ⟨.VNR_SIG, 0, 32, ro, 0⟩
  | .VNR_CNT_MISSED => ⟨.VNR_CNT, 0, 16, ro, 0⟩
  | .VNR_CNT_KERF_DARK => ⟨.VNR_CNT, 16, 16, ro, 0⟩
  | .VNR_SLOT_SLOT => ⟨.VNR_SLOT, 0, 32, ro, 0⟩
  | .VNR_DWELL_D_LO => ⟨.VNR_DWELL, 0, 16, rw, 0x8000⟩
  | .VNR_DWELL_D_HI => ⟨.VNR_DWELL, 16, 16, rw, 0x8000⟩
  | .VNR_BW_MBPS => ⟨.VNR_BW, 0, 13, ro, 0⟩
  | .VDR_CFG_STR_LEN => ⟨.VDR_CFG, 0, 6, rw, 0x30⟩
  | .VDR_CFG_PATH => ⟨.VDR_CFG, 8, 1, rw, 0⟩
  | .VDR_CFG_GRN_DEP => ⟨.VDR_CFG, 10, 1, rw, 0⟩
  | .VDR_CFG_DEP_SLOTS => ⟨.VDR_CFG, 16, 6, rw, 0x14⟩
  | .VDR_DIM_DIM_TICKS => ⟨.VDR_DIM, 0, 14, rw, 0x3e8⟩
  | .VDR_DIM_CEN_LEAD => ⟨.VDR_DIM, 16, 8, rw, 0x14⟩
  | .VDR_DIM_PWM_BITS => ⟨.VDR_DIM, 24, 5, rw, 0x10⟩
  | .VDR_VF_VF_MIN => ⟨.VDR_VF, 0, 8, rw, 0x50⟩
  | .VDR_VF_VF_MAX => ⟨.VDR_VF, 8, 8, rw, 0xa0⟩
  | .VDR_VF_VF_RUN => ⟨.VDR_VF, 16, 8, rw, 0xb4⟩
  | .VDR_VF_VTOL => ⟨.VDR_VF, 24, 8, rw, 0xc⟩
  | .VDR_FS_FS_MW => ⟨.VDR_FS, 0, 16, rw, 0⟩
  | .VDR_STAT_LINK_UP => ⟨.VDR_STAT, 0, 1, ro, 0⟩
  | .VDR_STAT_PATH_NOW => ⟨.VDR_STAT, 1, 1, ro, 0⟩
  | .VDR_STAT_PROBE_OFF => ⟨.VDR_STAT, 2, 1, ro, 0⟩
  | .VDR_STAT_CAP_MISMATCH => ⟨.VDR_STAT, 3, 1, w1c, 0⟩
  | .VDR_STAT_VDEV => ⟨.VDR_STAT, 4, 1, w1c, 0⟩
  | .VDR_STAT_STRFAIL_ANY => ⟨.VDR_STAT, 5, 1, ro, 0⟩
  | .VDR_STAT_LINK_FAULT => ⟨.VDR_STAT, 6, 1, w1c, 0⟩
  | .VDR_STAT_CFG_REJ => ⟨.VDR_STAT, 7, 1, w1c, 0⟩
  | .VDR_STAT_STOPPED => ⟨.VDR_STAT, 8, 7, ro, 0⟩
  | .VDR_STAT_DUTY_CEIL => ⟨.VDR_STAT, 16, 9, ro, 0x100⟩
  | .VDR_CAP_STRINGS => ⟨.VDR_CAP, 0, 10, ro, 0⟩
  | .VDR_CAP_STR_LEN => ⟨.VDR_CAP, 10, 6, ro, 0⟩
  | .VDR_CAP_BANDS => ⟨.VDR_CAP, 16, 2, ro, 0⟩
  | .VDR_CAP_PHASE_CAP => ⟨.VDR_CAP, 18, 1, ro, 0⟩
  | .VDR_PROBE_STEP => ⟨.VDR_PROBE, 0, 16, ro, 0⟩
  | .VDR_PROBE_SUSPECT => ⟨.VDR_PROBE, 16, 16, ro, 0⟩
  | .VDR_CNT_SWEEPS => ⟨.VDR_CNT, 0, 16, ro, 0⟩
  | .VDR_CNT_VDEV_CNT => ⟨.VDR_CNT, 16, 16, ro, 0⟩
  | .VDR_LINK_ERR_RX_BAD => ⟨.VDR_LINK_ERR, 0, 16, ro, 0⟩
  | .VDR_LINK_ERR_ALARMS => ⟨.VDR_LINK_ERR, 16, 16, ro, 0⟩
  | .VDR_STOP_CTL_CLEAR => ⟨.VDR_STOP_CTL, 0, 1, wo, 0⟩
  | .VDR_STOP_SITE => ⟨.VDR_STOP, 0, 12, ro, 0⟩
  | .VDR_STOP_SLOT => ⟨.VDR_STOP, 12, 2, ro, 0⟩
  | .VDR_STOP_VALID => ⟨.VDR_STOP, 15, 1, ro, 0⟩
  | .VDR_STOP_STRING => ⟨.VDR_STOP, 16, 10, ro, 0⟩
  | .VDR_STOP_POSITION => ⟨.VDR_STOP, 26, 6, ro, 0⟩
  | .VDR_STRFAIL_FAILED => ⟨.VDR_STRFAIL, 0, 32, ro, 0⟩
  | .AX_CFG_ENABLE => ⟨.AX_CFG, 0, 1, rw, 0⟩
  | .AX_CFG_MODE => ⟨.AX_CFG, 1, 1, rw, 0⟩
  | .AX_CFG_REQ_HOMED => ⟨.AX_CFG, 2, 1, rw, 0⟩
  | .AX_CFG_SD_SHIFT => ⟨.AX_CFG, 4, 4, rw, 8⟩
  | .AX_CFG_STEP_W => ⟨.AX_CFG, 8, 8, rw, 0xa⟩
  | .AX_CFG_DEAD => ⟨.AX_CFG, 16, 8, rw, 0xa⟩
  | .AX_CFG_STALL_TICKS => ⟨.AX_CFG, 24, 8, rw, 0x10⟩
  | .AX_VMAX_V_MAX => ⟨.AX_VMAX, 0, 24, rw, 0x19000⟩
  | .AX_ACCEL_VALUE => ⟨.AX_ACCEL, 0, 32, rw, 0x100000⟩
  | .AX_DECEL_VALUE => ⟨.AX_DECEL, 0, 32, rw, 0x100000⟩
  | .AX_JERK_VALUE => ⟨.AX_JERK, 0, 32, rw, 0x1000000⟩
  | .AX_EDEC_VALUE => ⟨.AX_EDEC, 0, 32, rw, 0x100000⟩
  | .AX_EJERK_VALUE => ⟨.AX_EJERK, 0, 32, rw, 0x1000000⟩
  | .AX_SOFT_MIN_POS => ⟨.AX_SOFT_MIN, 0, 32, rw, 0x80000000⟩
  | .AX_SOFT_MAX_POS => ⟨.AX_SOFT_MAX, 0, 32, rw, 0x7fffffff⟩
  | .AX_CUR_I_BASE => ⟨.AX_CUR, 0, 16, rw, 0x1f4⟩
  | .AX_CUR_I_CEIL => ⟨.AX_CUR, 16, 16, rw, 0x3e8⟩
  | .AX_CUR2_I_HOLD => ⟨.AX_CUR2, 0, 16, rw, 0xfa⟩
  | .AX_CUR2_I_HOME => ⟨.AX_CUR2, 16, 16, rw, 0x12c⟩
  | .AX_LA_LA_LOW => ⟨.AX_LA, 0, 8, rw, 0x1e⟩
  | .AX_LA_LA_HIGH => ⟨.AX_LA, 8, 8, rw, 0x46⟩
  | .AX_LA_HOLD_DELAY_MS => ⟨.AX_LA, 16, 8, rw, 0x64⟩
  | .AX_LA_VMIN_LA_VMIN => ⟨.AX_LA_VMIN, 0, 24, rw, 0x6400⟩
  | .AX_MOTOR_R_MOHM => ⟨.AX_MOTOR, 0, 16, rw, 0x3e8⟩
  | .AX_MOTOR_L_UH => ⟨.AX_MOTOR, 16, 16, rw, 0xbb8⟩
  | .AX_LOOP_KP => ⟨.AX_LOOP, 0, 16, rw, 0x400⟩
  | .AX_LOOP_KI => ⟨.AX_LOOP, 16, 16, rw, 0x400⟩
  | .AX_ISCALE_FS_MA => ⟨.AX_ISCALE, 0, 16, rw, 0x1388⟩
  | .AX_ISCALE_I_TRIP => ⟨.AX_ISCALE, 16, 16, rw, 0x1194⟩
  | .AX_SLEW_I_SLEW => ⟨.AX_SLEW, 0, 16, rw, 0x32⟩
  | .AX_HOME_SPD_HOME_SPEED => ⟨.AX_HOME_SPD, 0, 24, rw, 0xc800⟩
  | .AX_HOME_POS_VALUE => ⟨.AX_HOME_POS, 0, 32, rw, 0⟩
  | .AX_HOME_MAX_VALUE => ⟨.AX_HOME_MAX, 0, 32, rw, 0⟩
  | .AX_HOME_BACK_BACKOFF => ⟨.AX_HOME_BACK, 0, 24, rw, 0x400⟩
  | .AX_POS_VALUE => ⟨.AX_POS, 0, 32, ro, 0⟩
  | .AX_VEL_VALUE => ⟨.AX_VEL, 0, 32, ro, 0⟩
  | .AX_STAT_STATE => ⟨.AX_STAT, 0, 3, ro, 0⟩
  | .AX_STAT_HOMED => ⟨.AX_STAT, 3, 1, ro, 0⟩
  | .AX_STAT_STALL => ⟨.AX_STAT, 4, 1, w1c, 0⟩
  | .AX_STAT_SD_FAULT => ⟨.AX_STAT, 5, 1, w1c, 0⟩
  | .AX_STAT_OVERCUR => ⟨.AX_STAT, 6, 1, w1c, 0⟩
  | .AX_STAT_LATCHED => ⟨.AX_STAT, 7, 1, ro, 0⟩
  | .AX_STAT_VCLAMP => ⟨.AX_STAT, 8, 1, w1c, 0⟩
  | .AX_STAT_CFG_REJ => ⟨.AX_STAT, 9, 1, w1c, 0⟩
  | .AX_STAT_GOV => ⟨.AX_STAT, 16, 9, ro, 0x100⟩
  | .AX_ELEC_DELTA => ⟨.AX_ELEC, 0, 16, ro, 0⟩
  | .AX_ELEC_I_NOW => ⟨.AX_ELEC, 16, 16, ro, 0⟩
  | .ENC_CFG_ENABLE => ⟨.ENC_CFG, 0, 1, rw, 0⟩
  | .ENC_CFG_FOLLOW_EN => ⟨.ENC_CFG, 1, 1, rw, 0⟩
  | .ENC_CFG_FOLLOW_ACT => ⟨.ENC_CFG, 2, 1, rw, 0⟩
  | .ENC_CFG_IDX_CORR => ⟨.ENC_CFG, 3, 1, rw, 0⟩
  | .ENC_CFG_BEHIND_WAIT => ⟨.ENC_CFG, 4, 1, rw, 0⟩
  | .ENC_CFG_INVERT_DIR => ⟨.ENC_CFG, 5, 1, rw, 0⟩
  | .ENC_CFG_GATE => ⟨.ENC_CFG, 6, 2, rw, 3⟩
  | .ENC_CFG_EDGE_M1 => ⟨.ENC_CFG, 8, 8, rw, 0⟩
  | .ENC_CFG_STILL_MS => ⟨.ENC_CFG, 16, 8, rw, 0xa⟩
  | .ENC_CFG_FOLLOW_TICKS => ⟨.ENC_CFG, 24, 8, rw, 4⟩
  | .ENC_SCALE_NUM => ⟨.ENC_SCALE, 0, 16, rw, 1⟩
  | .ENC_SCALE_DEN => ⟨.ENC_SCALE, 16, 16, rw, 1⟩
  | .ENC_IDX_CFG_PERIOD => ⟨.ENC_IDX_CFG, 0, 24, rw, 0xfa0⟩
  | .ENC_IDX_CFG_TOL => ⟨.ENC_IDX_CFG, 24, 8, rw, 4⟩
  | .ENC_LIM_FOLLOW_LIM => ⟨.ENC_LIM, 0, 16, rw, 0x20⟩
  | .ENC_LIM_CMP_W => ⟨.ENC_LIM, 16, 8, rw, 0xa⟩
  | .ENC_COUNT_VALUE => ⟨.ENC_COUNT, 0, 32, ro, 0⟩
  | .ENC_IDX_LATCH_VALUE => ⟨.ENC_IDX_LATCH, 0, 32, ro, 0⟩
  | .ENC_CMP_VAL_VALUE => ⟨.ENC_CMP_VAL, 0, 32, ro, 0⟩
  | .ENC_DEV_VALUE => ⟨.ENC_DEV, 0, 32, ro, 0⟩
  | .ENC_CMP_TS_LO_TS => ⟨.ENC_CMP_TS_LO, 0, 32, ro, 0⟩
  | .ENC_CMP_TS_HI_TS => ⟨.ENC_CMP_TS_HI, 0, 32, ro, 0⟩
  | .ENC_IDX_ERR_ERR => ⟨.ENC_IDX_ERR, 0, 16, ro, 0⟩
  | .ENC_IDX_ERR_WORST => ⟨.ENC_IDX_ERR, 16, 16, ro, 0⟩
  | .ENC_CORR_PEND => ⟨.ENC_CORR, 0, 16, ro, 0⟩
  | .ENC_CORR_SUM => ⟨.ENC_CORR, 16, 16, ro, 0⟩
  | .ENC_CMP_CNT_HITS_DONE => ⟨.ENC_CMP_CNT, 0, 16, ro, 0⟩
  | .ENC_CMP_CNT_BEHIND_SKIP => ⟨.ENC_CMP_CNT, 16, 16, ro, 0⟩
  | .ENC_ERR_CNT_EDGE_FAULT => ⟨.ENC_ERR_CNT, 0, 16, ro, 0⟩
  | .ENC_ERR_CNT_QUAD_ERRS => ⟨.ENC_ERR_CNT, 16, 8, ro, 0⟩
  | .ENC_ERR_CNT_INDEX_MISS => ⟨.ENC_ERR_CNT, 24, 8, ro, 0⟩
  | .ENC_STAT_ARMED => ⟨.ENC_STAT, 0, 1, ro, 0⟩
  | .ENC_STAT_COMPARE_BEHIND => ⟨.ENC_STAT, 1, 1, w1c, 0⟩
  | .ENC_STAT_INDEX_SLIP => ⟨.ENC_STAT, 2, 1, w1c, 0⟩
  | .ENC_STAT_QUAD_ERR => ⟨.ENC_STAT, 3, 1, w1c, 0⟩
  | .ENC_STAT_FOLLOW_ERR => ⟨.ENC_STAT, 4, 1, w1c, 0⟩
  | .ENC_STAT_REF_VALID => ⟨.ENC_STAT, 5, 1, ro, 0⟩
  | .ENC_STAT_STILL => ⟨.ENC_STAT, 6, 1, ro, 0⟩
  | .ENC_STAT_CFG_REJ => ⟨.ENC_STAT, 7, 1, w1c, 0⟩
  | .CAM_PORT_CFG_LANES_M1 => ⟨.CAM_PORT_CFG, 0, 2, rw, 3⟩
  | .CAM_PORT_CFG_ENABLE => ⟨.CAM_PORT_CFG, 2, 1, rw, 0⟩
  | .CAM_PORT_ERR_ECC_FIX => ⟨.CAM_PORT_ERR, 0, 8, ro, 0⟩
  | .CAM_PORT_ERR_HDR_DROP => ⟨.CAM_PORT_ERR, 8, 8, ro, 0⟩
  | .CAM_PORT_ERR_CRC_ERR => ⟨.CAM_PORT_ERR, 16, 8, ro, 0⟩
  | .CAM_PORT_ERR_UNSOLICITED => ⟨.CAM_PORT_ERR, 24, 8, ro, 0⟩
  | .CAM_PORT_DROP_DT_DROP => ⟨.CAM_PORT_DROP, 0, 16, ro, 0⟩
  | .CAM_PORT_DROP_OVERRUN => ⟨.CAM_PORT_DROP, 16, 16, ro, 0⟩
  | .CAM_INLINE_PORT => ⟨.CAM_INLINE, 0, 3, rw, 0⟩
  | .CAM_INLINE_EN => ⟨.CAM_INLINE, 7, 1, rw, 0⟩
  | .CAM_PIPE_STAT_SLICES => ⟨.CAM_PIPE_STAT, 0, 5, ro, 0x10⟩
  | .CAM_PIPE_STAT_QUEUE => ⟨.CAM_PIPE_STAT, 8, 8, ro, 0⟩
  | .CAM_CTX_SRC_PORT => ⟨.CAM_CTX_SRC, 0, 3, rw, 0⟩
  | .CAM_CTX_SRC_VC => ⟨.CAM_CTX_SRC, 3, 2, rw, 0⟩
  | .CAM_CTX_SRC_DT => ⟨.CAM_CTX_SRC, 8, 6, rw, 0x2c⟩
  | .CAM_CTX_SIZE_W => ⟨.CAM_CTX_SIZE, 0, 14, rw, 0x800⟩
  | .CAM_CTX_SIZE_H => ⟨.CAM_CTX_SIZE, 16, 14, rw, 0x800⟩
  | .CAM_CTX_CFG_CFA => ⟨.CAM_CTX_CFG, 0, 3, rw, 0⟩
  | .CAM_CTX_CFG_OUT_FMT => ⟨.CAM_CTX_CFG, 3, 2, rw, 0⟩
  | .CAM_CTX_CFG_RAW_KEEP => ⟨.CAM_CTX_CFG, 5, 1, rw, 0⟩
  | .CAM_CTX_CFG_TIMEOUT_MS => ⟨.CAM_CTX_CFG, 16, 16, rw, 0x3e8⟩
  | .CAM_CTX_BLACK_B_LO => ⟨.CAM_CTX_BLACK, 0, 16, rw, 0⟩
  | .CAM_CTX_BLACK_B_HI => ⟨.CAM_CTX_BLACK, 16, 16, rw, 0⟩
  | .CAM_CTX_CCM_C_LO => ⟨.CAM_CTX_CCM, 0, 16, rw, 0⟩
  | .CAM_CTX_CCM_C_HI => ⟨.CAM_CTX_CCM, 16, 16, rw, 0⟩
  | .CAM_CTX_BUF_BASE_MB => ⟨.CAM_CTX_BUF, 0, 16, rw, 0⟩
  | .CAM_CTX_BUF_COUNT => ⟨.CAM_CTX_BUF, 16, 8, rw, 4⟩
  | .CAM_CTX_BUF_BUF_MB => ⟨.CAM_CTX_BUF, 24, 8, rw, 0⟩
  | .CAM_STREAK_X_LO => ⟨.CAM_STREAK_X, 0, 14, rw, 0⟩
  | .CAM_STREAK_X_HI => ⟨.CAM_STREAK_X, 16, 14, rw, 0x7ff⟩
  | .CAM_STREAK_Y_LO => ⟨.CAM_STREAK_Y, 0, 14, rw, 0⟩
  | .CAM_STREAK_Y_HI => ⟨.CAM_STREAK_Y, 16, 14, rw, 0x7ff⟩
  | .CAM_STREAK_CFG_AXIS => ⟨.CAM_STREAK_CFG, 0, 1, rw, 0⟩
  | .CAM_STREAK_CFG_HALF => ⟨.CAM_STREAK_CFG, 8, 8, rw, 0x20⟩
  | .CAM_STREAK_CFG_STREAK_W => ⟨.CAM_STREAK_CFG, 16, 5, rw, 4⟩
  | .CAM_POOL_POOL_THR => ⟨.CAM_POOL, 0, 16, rw, 0xffff⟩
  | .CAM_POOL_LIM_AREA_MIN => ⟨.CAM_POOL_LIM, 0, 16, rw, 0⟩
  | .CAM_POOL_LIM_AREA_MAX => ⟨.CAM_POOL_LIM, 16, 16, rw, 0⟩
  | .CAM_CTX_STAT_ACTIVE => ⟨.CAM_CTX_STAT, 0, 1, ro, 0⟩
  | .CAM_CTX_STAT_SHORT_ANY => ⟨.CAM_CTX_STAT, 1, 1, w1c, 0⟩
  | .CAM_CTX_STAT_LONG_ANY => ⟨.CAM_CTX_STAT, 2, 1, w1c, 0⟩
  | .CAM_CTX_STAT_DROPPED => ⟨.CAM_CTX_STAT, 3, 1, w1c, 0⟩
  | .CAM_CTX_STAT_CFG_REJ => ⟨.CAM_CTX_STAT, 4, 1, w1c, 0⟩
  | .CAM_CTX_STAT_POOL_OUT_CNT => ⟨.CAM_CTX_STAT, 16, 16, ro, 0⟩
  | .CAM_CTX_LAST_METRIC => ⟨.CAM_CTX_LAST, 0, 16, ro, 0xffff⟩
  | .CAM_CTX_LAST_LINES => ⟨.CAM_CTX_LAST, 16, 16, ro, 0⟩
  | .TIM_CTL_PTP_EN => ⟨.TIM_CTL, 0, 1, rw, 0⟩
  | .TIM_CTL_GM_CAPABLE => ⟨.TIM_CTL, 1, 1, rw, 0⟩
  | .TIM_CTL_SLAVE_ONLY => ⟨.TIM_CTL, 2, 1, rw, 0⟩
  | .TIM_CTL_DOMAIN => ⟨.TIM_CTL, 8, 7, rw, 0⟩
  | .TIM_CTL_PRIORITY1 => ⟨.TIM_CTL, 16, 8, rw, 0x80⟩
  | .TIM_CTL_PRIORITY2 => ⟨.TIM_CTL, 24, 8, rw, 0x80⟩
  | .TIM_PTP_CFG_LOG_SYNC => ⟨.TIM_PTP_CFG, 0, 4, rw, 9⟩
  | .TIM_PTP_CFG_LOG_PDELAY => ⟨.TIM_PTP_CFG, 4, 4, rw, 0⟩
  | .TIM_PTP_CFG_LOG_ANNOUNCE => ⟨.TIM_PTP_CFG, 8, 4, rw, 0⟩
  | .TIM_PTP_CFG_CLOCK_CLASS => ⟨.TIM_PTP_CFG, 12, 8, rw, 0xf8⟩
  | .TIM_SERVO_KP => ⟨.TIM_SERVO, 0, 16, rw, 0x2000⟩
  | .TIM_SERVO_KI => ⟨.TIM_SERVO, 16, 16, rw, 0x400⟩
  | .TIM_LIMIT_STEP_NS => ⟨.TIM_LIMIT, 0, 16, rw, 0x3e8⟩
  | .TIM_LIMIT_LOCK => ⟨.TIM_LIMIT, 16, 8, rw, 0x10⟩
  | .TIM_SLEW_SLEW_PPB => ⟨.TIM_SLEW, 0, 18, rw, 0x186a0⟩
  | .TIM_STAT_STATE => ⟨.TIM_STAT, 0, 3, ro, 0⟩
  | .TIM_STAT_STEP_PENDING => ⟨.TIM_STAT, 3, 1, ro, 0⟩
  | .TIM_STAT_LOST => ⟨.TIM_STAT, 4, 1, w1c, 0⟩
  | .TIM_STAT_CFG_REJ => ⟨.TIM_STAT, 5, 1, w1c, 0⟩
  | .TIM_STAT_SLAVE_PORT => ⟨.TIM_STAT, 6, 2, ro, 0⟩
  | .TIM_STAT_STEPS_REMOVED => ⟨.TIM_STAT, 8, 8, ro, 0⟩
  | .TIM_OFFSET_OFFSET => ⟨.TIM_OFFSET, 0, 32, ro, 0⟩
  | .TIM_RATE_PPB => ⟨.TIM_RATE, 0, 32, ro, 0⟩
  | .TIM_NOW_NS_VALUE => ⟨.TIM_NOW_NS, 0, 32, ro, 0⟩
  | .TIM_NOW_SEC_LO_VALUE => ⟨.TIM_NOW_SEC_LO, 0, 32, ro, 0⟩
  | .TIM_NOW_SEC_HI_VALUE => ⟨.TIM_NOW_SEC_HI, 0, 24, ro, 0⟩
  | .TIM_PORT_CFG_ASYM => ⟨.TIM_PORT_CFG, 0, 16, rw, 0⟩
  | .TIM_PORT_CFG_PTP_PORT_EN => ⟨.TIM_PORT_CFG, 16, 1, rw, 1⟩
  | .TIM_PORT_DELAY_MEAN_DELAY => ⟨.TIM_PORT_DELAY, 0, 24, ro, 0⟩
  | .TIM_PORT_DELAY_PORT_STATE => ⟨.TIM_PORT_DELAY, 24, 3, ro, 0⟩
  | .TIM_PTP_CNT_DISCARDED => ⟨.TIM_PTP_CNT, 0, 16, ro, 0⟩
  | .TIM_PTP_CNT_SYNC_RX => ⟨.TIM_PTP_CNT, 16, 16, ro, 0⟩
  | .TIM_IO_OWN_FUNC => ⟨.TIM_IO_OWN, 0, 24, rwl, 0⟩
  | .TIM_IO_OWN2_FUNC => ⟨.TIM_IO_OWN2, 0, 12, rwl, 0⟩
  | .TIM_IO_POL_INVERT => ⟨.TIM_IO_POL, 0, 8, rwl, 0⟩
  | .TIM_PULSE_STAT_MODE => ⟨.TIM_PULSE_STAT, 0, 2, ro, 0⟩
  | .TIM_PULSE_STAT_ARMED => ⟨.TIM_PULSE_STAT, 2, 1, ro, 0⟩
  | .TIM_PULSE_STAT_LATE => ⟨.TIM_PULSE_STAT, 3, 1, w1c, 0⟩
  | .TIM_PULSE_STAT_SKIP => ⟨.TIM_PULSE_STAT, 16, 16, ro, 0⟩
  | .TIM_CAP_STAT_STAMPS => ⟨.TIM_CAP_STAT, 0, 16, ro, 0⟩
  | .TIM_CAP_STAT_LOST => ⟨.TIM_CAP_STAT, 16, 16, ro, 0⟩
  | .FAB_CFG_REQ_ID => ⟨.FAB_CFG, 0, 10, rwl, 0⟩
  | .FAB_CFG_AUTO_ID => ⟨.FAB_CFG, 10, 1, rw, 0⟩
  | .FAB_CFG_JOIN_EN => ⟨.FAB_CFG, 11, 1, rw, 0⟩
  | .FAB_CFG_VID => ⟨.FAB_CFG, 16, 12, rwl, 1⟩
  | .FAB_GROUP_BARRIER_GRP => ⟨.FAB_GROUP, 0, 8, rw, 0⟩
  | .FAB_TIMER_HELLO_US => ⟨.FAB_TIMER, 0, 8, rw, 0x64⟩
  | .FAB_TIMER_KEEP_MISS => ⟨.FAB_TIMER, 8, 4, rw, 3⟩
  | .FAB_TIMER_ROUTE_MS => ⟨.FAB_TIMER, 16, 8, rw, 0xa⟩
  | .FAB_TIMER_CLAIM_MS => ⟨.FAB_TIMER, 24, 8, rw, 0x14⟩
  | .FAB_SHAPE_BULK_PCT => ⟨.FAB_SHAPE, 0, 7, rw, 0x14⟩
  | .FAB_SHAPE_LEAVE_US => ⟨.FAB_SHAPE, 16, 16, rw, 0x3e8⟩
  | .FAB_STAT_ID => ⟨.FAB_STAT, 0, 10, ro, 0⟩
  | .FAB_STAT_STATE => ⟨.FAB_STAT, 10, 3, ro, 0⟩
  | .FAB_STAT_ID_CONFLICT => ⟨.FAB_STAT, 13, 1, w1c, 0⟩
  | .FAB_STAT_CFG_REJ => ⟨.FAB_STAT, 14, 1, w1c, 0⟩
  | .FAB_STAT_MAX_DIST => ⟨.FAB_STAT, 16, 6, ro, 0⟩
  | .FAB_PORT_CFG_MODE => ⟨.FAB_PORT_CFG, 0, 2, rw, 0⟩
  | .FAB_PORT_CFG_SHORT => ⟨.FAB_PORT_CFG, 2, 1, rw, 0⟩
  | .FAB_PORT_CFG_FEC => ⟨.FAB_PORT_CFG, 3, 2, rw, 2⟩
  | .FAB_PORT_CFG_AN_EN => ⟨.FAB_PORT_CFG, 5, 1, rw, 0⟩
  | .FAB_PORT_CFG_TXEQ_PRE => ⟨.FAB_PORT_CFG, 16, 5, rw, 0⟩
  | .FAB_PORT_CFG_TXEQ_POST => ⟨.FAB_PORT_CFG, 21, 6, rw, 0⟩
  | .FAB_PORT_CFG_TXEQ_AMP => ⟨.FAB_PORT_CFG, 27, 5, rw, 0⟩
  | .FAB_PORT_STAT_LINK_UP => ⟨.FAB_PORT_STAT, 0, 1, ro, 0⟩
  | .FAB_PORT_STAT_RX_LOCK => ⟨.FAB_PORT_STAT, 1, 1, ro, 0⟩
  | .FAB_PORT_STAT_NBR_KNOWN => ⟨.FAB_PORT_STAT, 2, 1, ro, 0⟩
  | .FAB_PORT_STAT_HOLD => ⟨.FAB_PORT_STAT, 3, 1, ro, 0⟩
  | .FAB_PORT_STAT_NBR_LOST => ⟨.FAB_PORT_STAT, 4, 1, w1c, 0⟩
  | .FAB_PORT_STAT_NBR_ID => ⟨.FAB_PORT_STAT, 16, 10, ro, 0⟩
  | .FAB_PORT_CNT_RX_BAD => ⟨.FAB_PORT_CNT, 0, 16, ro, 0⟩
  | .FAB_PORT_CNT_RELOCKS => ⟨.FAB_PORT_CNT, 16, 16, ro, 0⟩
  | .FAB_PORT_MAC_LO_MAC => ⟨.FAB_PORT_MAC_LO, 0, 32, rwl, 0⟩
  | .FAB_PORT_MAC_HI_MAC => ⟨.FAB_PORT_MAC_HI, 0, 16, rwl, 0⟩
  | .FAB_DROP_NOROUTE => ⟨.FAB_DROP, 0, 8, ro, 0⟩
  | .FAB_DROP_HOPS_EXC => ⟨.FAB_DROP, 8, 8, ro, 0⟩
  | .FAB_DROP_DUPLICATE => ⟨.FAB_DROP, 16, 8, ro, 0⟩
  | .FAB_DROP_NOTICE_DISC => ⟨.FAB_DROP, 24, 8, ro, 0⟩
  | .FAB_ROUTE_MASK => ⟨.FAB_ROUTE, 0, 4, ro, 0⟩
  | .FAB_ROUTE_DIST => ⟨.FAB_ROUTE, 4, 6, ro, 0x21⟩
  | .FAB_ROUTE_LEFT => ⟨.FAB_ROUTE, 10, 1, ro, 0⟩
  | .HNG_CFG_PARTNER_ID => ⟨.HNG_CFG, 0, 10, rwl, 0⟩
  | .HNG_CFG_PAIR_EN => ⟨.HNG_CFG, 16, 1, rwl, 0⟩
  | .HNG_CFG_PREFER => ⟨.HNG_CFG, 17, 1, rwl, 0⟩
  | .HNG_RESTART_TAPER_UM => ⟨.HNG_RESTART, 0, 11, rw, 4⟩
  | .HNG_PATHB_DLY_DLY => ⟨.HNG_PATHB_DLY, 0, 16, rw, 0⟩
  | .HNG_STAT_STATE => ⟨.HNG_STAT, 0, 3, ro, 0⟩
  | .HNG_STAT_ELIGIBLE => ⟨.HNG_STAT, 3, 1, ro, 0⟩
  | .HNG_STAT_PATH_A_UP => ⟨.HNG_STAT, 4, 1, ro, 0⟩
  | .HNG_STAT_PATH_B_UP => ⟨.HNG_STAT, 5, 1, ro, 0⟩
  | .HNG_STAT_ALARM => ⟨.HNG_STAT, 6, 1, w1c, 0⟩
  | .HNG_STAT_FENCE_IN => ⟨.HNG_STAT, 7, 1, ro, 0⟩
  | .HNG_STAT_OWN_IN => ⟨.HNG_STAT, 8, 1, ro, 0⟩
  | .HNG_STAT_FENCE_FAIL => ⟨.HNG_STAT, 9, 1, w1c, 0⟩
  | .HNG_STAT_TIME_ERR => ⟨.HNG_STAT, 10, 1, w1c, 0⟩
  | .HNG_STAT_REASON => ⟨.HNG_STAT, 16, 8, ro, 0⟩
  | .HNG_HEALTH_HEALTH_OK => ⟨.HNG_HEALTH, 0, 1, ro, 0⟩
  | .HNG_HEALTH_BIST_FAIL => ⟨.HNG_HEALTH, 1, 1, ro, 0⟩
  | .HNG_HEALTH_SCRUB_UNCORR => ⟨.HNG_HEALTH, 2, 1, ro, 0⟩
  | .HNG_HEALTH_LINK_FAIL => ⟨.HNG_HEALTH, 3, 1, ro, 0⟩
  | .HNG_HEALTH_TIME_ERR => ⟨.HNG_HEALTH, 4, 1, ro, 0⟩
  | .HNG_HEALTH_LAST_ISLAND => ⟨.HNG_HEALTH, 8, 8, ro, 0⟩
  | .HNG_HEALTH_REPORTS => ⟨.HNG_HEALTH, 16, 16, ro, 0⟩
  | .HNG_PEER_HEALTH_HEALTH_OK => ⟨.HNG_PEER_HEALTH, 0, 1, ro, 0⟩
  | .HNG_PEER_HEALTH_BIST_FAIL => ⟨.HNG_PEER_HEALTH, 1, 1, ro, 0⟩
  | .HNG_PEER_HEALTH_SCRUB_UNCORR => ⟨.HNG_PEER_HEALTH, 2, 1, ro, 0⟩
  | .HNG_PEER_HEALTH_LINK_FAIL => ⟨.HNG_PEER_HEALTH, 3, 1, ro, 0⟩
  | .HNG_PEER_HEALTH_TIME_ERR => ⟨.HNG_PEER_HEALTH, 4, 1, ro, 0⟩
  | .HNG_PEER_HEALTH_LAST_ISLAND => ⟨.HNG_PEER_HEALTH, 8, 8, ro, 0⟩
  | .HNG_PEER_HEALTH_REPORTS => ⟨.HNG_PEER_HEALTH, 16, 16, ro, 0⟩
  | .HNG_CNT_MIRROR_MISS => ⟨.HNG_CNT, 0, 16, ro, 0⟩
  | .HNG_CNT_SWITCHOVERS => ⟨.HNG_CNT, 16, 8, ro, 0⟩
  | .HNG_CNT_GAP_CYC => ⟨.HNG_CNT, 24, 8, ro, 0⟩
  | .REC_CFG_PEER_ACCEPT => ⟨.REC_CFG, 0, 1, rw, 0⟩
  | .REC_STAT_LOG_DEGRADED => ⟨.REC_STAT, 0, 1, ro, 0⟩
  | .REC_STAT_FULL => ⟨.REC_STAT, 1, 1, ro, 0⟩
  | .REC_STAT_SCANNING => ⟨.REC_STAT, 2, 1, ro, 0⟩
  | .REC_STAT_BAD_BLOCKS => ⟨.REC_STAT, 8, 6, ro, 0⟩
  | .REC_STAT_QUEUED => ⟨.REC_STAT, 16, 16, ro, 0⟩
  | .REC_BAD_LO_MAP => ⟨.REC_BAD_LO, 0, 32, ro, 0⟩
  | .REC_BAD_HI_MAP => ⟨.REC_BAD_HI, 0, 16, ro, 0⟩
  | .REC_OPSEC_OP_SEC => ⟨.REC_OPSEC, 0, 32, ro, 0⟩
  | .REC_PCYC_PCYC => ⟨.REC_PCYC, 0, 24, ro, 0⟩
  | .REC_PCYC_SUBSEC => ⟨.REC_PCYC, 24, 8, ro, 0⟩
  | .REC_DROP_LO => ⟨.REC_DROP, 0, 16, ro, 0⟩
  | .REC_DROP_HI => ⟨.REC_DROP, 16, 16, ro, 0⟩
  | .REC_PEER_CNT_STORED => ⟨.REC_PEER_CNT, 0, 16, ro, 0⟩
  | .REC_PEER_CNT_DISCARDED => ⟨.REC_PEER_CNT, 16, 16, ro, 0⟩
  | .DRM_CFG_PRESENT => ⟨.DRM_CFG, 0, 1, ro, 0⟩
  | .DRM_CFG_DEV => ⟨.DRM_CFG, 1, 3, ro, 0⟩
  | .DRM_CFG_RATE => ⟨.DRM_CFG, 6, 2, ro, 0⟩
  | .DRM_CFG_ORDER => ⟨.DRM_CFG, 8, 2, ro, 0⟩
  | .DRM_CFG_ILV => ⟨.DRM_CFG, 10, 1, ro, 0⟩
  | .DRM_CFG_SIZE_GB => ⟨.DRM_CFG, 16, 6, ro, 0⟩
  | .DRM_GEOM_COL_BITS => ⟨.DRM_GEOM, 0, 4, ro, 0⟩
  | .DRM_GEOM_BG_BITS => ⟨.DRM_GEOM, 4, 2, ro, 0⟩
  | .DRM_GEOM_BA_BITS => ⟨.DRM_GEOM, 6, 2, ro, 0⟩
  | .DRM_GEOM_ROW_BITS => ⟨.DRM_GEOM, 8, 5, ro, 0⟩
  | .DRM_STAT_IN_SERVICE => ⟨.DRM_STAT, 0, 1, ro, 0⟩
  | .DRM_STAT_TRAINING => ⟨.DRM_STAT, 1, 1, ro, 0⟩
  | .DRM_STAT_DRIFT => ⟨.DRM_STAT, 2, 1, w1c, 0⟩
  | .DRM_STAT_RT_FAIL => ⟨.DRM_STAT, 3, 1, w1c, 0⟩
  | .DRM_STAT_DEV_HOT => ⟨.DRM_STAT, 4, 1, w1c, 0⟩
  | .DRM_STAT_FALLBACK => ⟨.DRM_STAT, 16, 16, ro, 0⟩
  | .DRM_ECC_CORR => ⟨.DRM_ECC, 0, 16, ro, 0⟩
  | .DRM_ECC_UNCORR => ⟨.DRM_ECC, 16, 16, ro, 0⟩
  | .DRM_ECC_ADDR_BURST => ⟨.DRM_ECC_ADDR, 0, 29, ro, 0⟩
  | .DRM_SCHED_WQ_LOW => ⟨.DRM_SCHED, 0, 6, rw, 0x10⟩
  | .DRM_SCHED_WQ_HIGH => ⟨.DRM_SCHED, 8, 6, rw, 0x30⟩
  | .DRM_SCHED_AGE_NS => ⟨.DRM_SCHED, 16, 16, rw, 0x7d0⟩
  | .DRM_MAINT_SCRUB_H => ⟨.DRM_MAINT, 0, 8, rw, 0x18⟩
  | .DRM_MAINT_RETRAIN_DC => ⟨.DRM_MAINT, 8, 8, rw, 0xa⟩
  | .DRM_MAINT_RETRAIN_LAYERS => ⟨.DRM_MAINT, 16, 8, rw, 0x64⟩
  | .DRM_MAINT_DRIFT_MAX => ⟨.DRM_MAINT, 24, 8, rw, 0x10⟩
  | .DRM_TMO_CMD_US => ⟨.DRM_TMO, 0, 16, rw, 0x64⟩
  | .THM_CFG_GRACE_DS => ⟨.THM_CFG, 0, 7, rw, 0x14⟩
  | .THM_STAT_STATE => ⟨.THM_STAT, 0, 2, ro, 0⟩
  | .THM_STAT_STOP_SEEN => ⟨.THM_STAT, 2, 1, w1c, 0⟩
  | .THM_STAT_BROKEN_ANY => ⟨.THM_STAT, 3, 1, ro, 0⟩
  | .THM_STAT_FAST => ⟨.THM_STAT, 4, 1, ro, 0⟩
  | .THM_STAT_CFG_REJ => ⟨.THM_STAT, 5, 1, w1c, 0⟩
  | .THM_STAT_T_MAX => ⟨.THM_STAT, 16, 16, ro, 0⟩
  | .THM_CNT_ENFORCES => ⟨.THM_CNT, 0, 16, ro, 0⟩
  | .THM_CNT_STOPS => ⟨.THM_CNT, 16, 16, ro, 0⟩
  | .THM_TEMP_TEMP => ⟨.THM_TEMP, 0, 16, ro, 0⟩
  | .THM_TEMP_BROKEN => ⟨.THM_TEMP, 16, 1, w1c, 0⟩
  | .THM_TEMP_ISLAND => ⟨.THM_TEMP, 24, 6, ro, 0⟩
  | .THM_GOV_LEVEL => ⟨.THM_GOV, 0, 5, ro, 0x10⟩
  | .THM_GOV_FLOOR => ⟨.THM_GOV, 8, 9, rw, 0x80⟩
  | .CAL_CFG_AUTO_COPY => ⟨.CAL_CFG, 0, 1, rw, 1⟩
  | .CAL_STAT_COVER32 => ⟨.CAL_STAT, 0, 6, ro, 0x3f⟩
  | .CAL_STAT_COVER33 => ⟨.CAL_STAT, 8, 6, ro, 0x3f⟩
  | .CAL_STAT_QUEUED => ⟨.CAL_STAT, 16, 6, ro, 0⟩
  | .CAL_STAT_TC_FAIL => ⟨.CAL_STAT, 22, 1, w1c, 0⟩
  | .CAL_SERIAL_LO_SERIAL => ⟨.CAL_SERIAL_LO, 0, 32, ro, 0⟩
  | .CAL_SERIAL_HI_SERIAL => ⟨.CAL_SERIAL_HI, 0, 32, ro, 0⟩
  | .CAL_TAP_MAP_TAP => ⟨.CAL_TAP_MAP, 0, 32, rw, 0⟩
  | .CAL_TAP_REF_T_CAL => ⟨.CAL_TAP_REF, 0, 16, rw, 0⟩
  | .CAL_TAP_REF_TC => ⟨.CAL_TAP_REF, 16, 16, rw, 0⟩
  | .CAL_GATE_LAT_LAT_PS => ⟨.CAL_GATE_LAT, 0, 11, rw, 0⟩
  | .CAL_GATE_LAT_SLOPE => ⟨.CAL_GATE_LAT, 16, 16, rw, 0⟩
  | .CAL_ADC_CELL_CELL0 => ⟨.CAL_ADC_CELL, 0, 5, rw, 0⟩
  | .CAL_ADC_CELL_USE0 => ⟨.CAL_ADC_CELL, 5, 1, rw, 0⟩
  | .CAL_ADC_CELL_CELL1 => ⟨.CAL_ADC_CELL, 8, 5, rw, 0⟩
  | .CAL_ADC_CELL_USE1 => ⟨.CAL_ADC_CELL, 13, 1, rw, 0⟩
  | .CAL_ADC_REF_SEG => ⟨.CAL_ADC_REF, 0, 6, rw, 0⟩
  | .CAL_ADC_REF_TC => ⟨.CAL_ADC_REF, 16, 16, rw, 0⟩
  | .CAL_SENSOR_OFFSET => ⟨.CAL_SENSOR, 0, 16, rw, 0⟩
  | .CAL_SENSOR_GAIN => ⟨.CAL_SENSOR, 16, 16, rw, 0⟩
  | .CAL_DOWEL_DELAY => ⟨.CAL_DOWEL, 0, 16, rw, 0⟩
  | .CAL_DOWEL_TC => ⟨.CAL_DOWEL, 16, 16, rw, 0⟩
  | .CAL_IMG_CRC_CRC => ⟨.CAL_IMG_CRC, 0, 32, ro, 0⟩
  | .MGT_STAT_BOOT_DONE => ⟨.MGT_STAT, 0, 1, ro, 0⟩
  | .MGT_STAT_RECOVERY => ⟨.MGT_STAT, 1, 1, ro, 0⟩
  | .MGT_STAT_SLOT_NOW => ⟨.MGT_STAT, 2, 1, ro, 0⟩
  | .MGT_STAT_BOOT_SLOT => ⟨.MGT_STAT, 3, 1, ro, 0⟩
  | .MGT_STAT_FALLBACK => ⟨.MGT_STAT, 4, 1, w1c, 0⟩
  | .MGT_STAT_UPD_BUSY => ⟨.MGT_STAT, 5, 1, ro, 0⟩
  | .MGT_STAT_FETCH_ADJ => ⟨.MGT_STAT, 6, 1, w1c, 0⟩
  | .MGT_STAT_CFG_REJ => ⟨.MGT_STAT, 7, 1, w1c, 0⟩
  | .MGT_STAT_HOSTQ_LOST => ⟨.MGT_STAT, 8, 8, ro, 0⟩
  | .MGT_STAT_MIN_SVN => ⟨.MGT_STAT, 16, 15, ro, 0⟩
  | .MGT_FW_VERSION => ⟨.MGT_FW, 0, 16, ro, 0⟩
  | .MGT_FW_SVN => ⟨.MGT_FW, 16, 15, ro, 0⟩
  | .MGT_FW_VALID => ⟨.MGT_FW, 31, 1, ro, 0⟩
  | .MGT_TMO_FETCH_MS => ⟨.MGT_TMO, 0, 16, rw, 0x64⟩
  | .MGT_TMO_POLL_FAIL_MAX => ⟨.MGT_TMO, 16, 4, rw, 8⟩
  | .MGT_TMO_VNR_MISS_MAX => ⟨.MGT_TMO, 20, 4, rw, 4⟩
  | .MGT_TMO_CAM_TMO_MAX => ⟨.MGT_TMO, 24, 4, rw, 3⟩
  | .MGT_LAST_UNIT => ⟨.MGT_LAST, 0, 7, ro, 0⟩
  | .MGT_LAST_KIND => ⟨.MGT_LAST, 8, 4, ro, 0⟩
  | .MGT_UNIT_IN_SERVICE => ⟨.MGT_UNIT, 0, 1, ro, 0⟩
  | .MGT_UNIT_OUT_HOST => ⟨.MGT_UNIT, 1, 1, ro, 0⟩
  | .MGT_UNIT_TEST_FAIL => ⟨.MGT_UNIT, 2, 1, ro, 0⟩
  | .MGT_UNIT_COVER => ⟨.MGT_UNIT, 8, 8, ro, 0xff⟩
  | .MGT_UNIT_FAULTS => ⟨.MGT_UNIT, 16, 16, ro, 0⟩

/-- The register of a field. -/
def Fld.reg (f : Fld) : Reg := f.info.reg
/-- The lowest bit of a field. -/
def Fld.lo (f : Fld) : Nat := f.info.lo
/-- The width of a field in bits. -/
def Fld.width (f : Fld) : Nat := f.info.width
/-- The access type of a field (R4). -/
def Fld.acc (f : Fld) : Access := f.info.acc

/-- The reset value of a field at instance `i`, `j`, where the Reset column makes it depend on the instance
(R17, R92, R218, R314, R407), and the shared value elsewhere (R6). -/
def Fld.resetAt (f : Fld) (i j : Nat) : Nat :=
  match f with
  | .SYS_ISL_CFG_FREQ_MHZ | .SYS_ISL_STAT_FREQ_MHZ =>
    if i = 34 ∨ i = 35 ∨ i = 38 ∨ i = 39 ∨ i = 45 then 250 else 200
  | .SYS_ISL_STAT_VOLT => if i < 34 then 150 else 160
  | .WIN_OWN_ENG_LO_ENG => if i = 0 then 0xffffffff else 0
  | .WIN_OWN_ENG_HI_ENG => if i = 0 then 3 else 0
  | .WIN_OWN_IO_TILE => if i = 0 then 0xffff else 0
  | .WIN_OWN_IO_AXIS => if i = 0 then 0xff else 0
  | .WIN_OWN_CTX_CTX => if i = 0 then 0xffff else 0
  | .MPL_SLICE_SLICE => i
  | .MPL_SLICE_STAT_CHANNEL => if i < 32 then i else 0x3f
  | .CAM_CTX_CCM_C_LO => if j = 0 ∨ j = 2 ∨ j = 4 then 0x1000 else 0
  | .THM_TEMP_ISLAND => sensorIsland i
  | f => f.info.reset

/-- The range a field's description gives (R478): the least and greatest value that is applied. -/
def Fld.range : Fld → Option (Nat × Nat)
  | .SYS_ISL_CFG_FREQ_MHZ => some (160, 250)
  | .SYS_BARRIER_CFG_GROUP_SIZE => some (1, 1024)
  | .SYS_BARRIER_CFG_LEAD_US => some (10, 65535)
  | .HIF_SQ_CFG_SIZE_LOG2 => some (6, 16)
  | .HIF_CQ_CFG_SIZE_LOG2 => some (6, 16)
  | .HIF_POLL_CFG_INTERVAL_US => some (1, 1000)
  | .HIF_POLL_CFG_SLEEP_US => some (1, 1000)
  | .WIN_CFG_SIZE_LOG2 => some (12, 46)
  | .WIN_PREFETCH_FIFO_LOW => some (512, 3328)
  | .WIN_PREFETCH_VNR_AHEAD => some (2, 15)
  | .INT_EVQ_CFG_SIZE_LOG2 => some (6, 16)
  | .INT_VEC_CFG_COUNT_THR => some (1, 255)
  | .ENG_PLAN_CTL_BLEND_DEG => some (0, 90)
  | .ENG_LIMITS_A_MAX => some (1, 65535)
  | .ENG_LIMITS_J_MAX => some (1, 65535)
  | .ENG_VEL_V_MAX => some (1, 65535)
  | .ENG_VEL_V_JUMP => some (1, 65535)
  | .ENG_LAG_X_LAG => some (0, 50000)
  | .ENG_LAG_Y_LAG => some (0, 50000)
  | .ENG_LAG_Z_LAG => some (0, 50000)
  | .ENG_LINK_CFG_LOSS_FRAMES => some (2, 15)
  | .ENG_GATE_CTL_MIN_OFF => some (128, 65535)
  | .ENG_GATE_ADV_ON_ADV => some (0, 2560000)
  | .ENG_GATE_ADV_OFF_ADV => some (0, 2560000)
  | .ENG_PWR_LEAD_LEAD => some (0, 50000)
  | .ENG_PULSE_SPC_SPACING_NM => some (1000, 10000000)
  | .ENG_PULSE_PER_PERIOD => some (256, 16777215)
  | .ENG_PULSE_W_WIDTH => some (128, 16777215)
  | .ENG_PULSE_W_LAST_MODE => some (0, 1)
  | .SCF_ZONE_GEOM_WIDTH_UM => some (100, 65535)
  | .SCF_ZONE_CFG_FEATHER_UM => some (0, 2000)
  | .SCF_CFG_LOSS_US => some (10, 65535)
  | .KRF_CFG_KEEPOUT_UM => some (0, 50000)
  | .KRF_CFG_MAX_HOLD_US => some (0, 10000)
  | .KRF_HALO_CFG_STALE_US => some (20, 65535)
  | .MPL_FS_FS_W => some (1, 65535)
  | .MPL_PD_PD_DELAY => some (0, 1000)
  | .MPL_PD_PD_SETTLE => some (0, 1000)
  | .MPL_PD_MIN_LIT => some (1, 20)
  | .MPL_PD_LIM_DARK_LIMIT => some (1, 255)
  | .MPL_PD_LIM_SAT_LIMIT => some (1, 255)
  | .MPL_TARGET_TARGET => some (1, 32767)
  | .MPL_FB_LIM_FB_MIN => some (0, 32768)
  | .MPL_FB_LIM_FB_MAX => some (32768, 65535)
  | .GRN_CFG_HEAT_LSB_UJ => some (1, 65535)
  | .GRN_GEOM_PITCH_UM => some (125, 1000)
  | .GRN_GEOM_COLS_LOG2 => some (8, 13)
  | .GRN_HALO_CFG_STALE_US => some (20, 65535)
  | .GRN_LOOK_NEAR => some (10, 500)
  | .GRN_LOOK_FAR => some (0, 500)
  | .GRN_LOOK_SHIFT => some (0, 10)
  | .VNR_TILE_CFG_BANDS => some (1, 3)
  | .VNR_COMPAT_LINE_LSYNC => some (1, 2047)
  | .VNR_COMPAT_FRAME_LACTIVE => some (1, 16383)
  | .VNR_COMPAT_FRAME_FSYNC => some (1, 255)
  | .VNR_COMPAT_SIZE_ACT_W => some (1, 4096)
  | .VNR_COMPAT_SIZE_ACT_H => some (1, 4096)
  | .VNR_PITCH_PITCH_X => some (1, 65535)
  | .VNR_PITCH_PITCH_Y => some (1, 65535)
  | .VDR_CFG_STR_LEN => some (16, 48)
  | .VDR_CFG_DEP_SLOTS => some (1, 63)
  | .VDR_DIM_DIM_TICKS => some (100, 16383)
  | .VDR_DIM_PWM_BITS => some (8, 16)
  | .AX_CFG_SD_SHIFT => some (0, 8)
  | .AX_CFG_STEP_W => some (10, 255)
  | .AX_CFG_DEAD => some (4, 255)
  | .AX_CFG_STALL_TICKS => some (1, 255)
  | .AX_VMAX_V_MAX => some (1, 8388607)
  | .AX_ACCEL_VALUE => some (1, 4294967295)
  | .AX_DECEL_VALUE => some (1, 4294967295)
  | .AX_JERK_VALUE => some (1, 4294967295)
  | .AX_EDEC_VALUE => some (1, 4294967295)
  | .AX_EJERK_VALUE => some (1, 4294967295)
  | .AX_LA_LA_LOW => some (0, 89)
  | .AX_LA_LA_HIGH => some (0, 90)
  | .AX_SLEW_I_SLEW => some (1, 65535)
  | .ENC_CFG_STILL_MS => some (1, 255)
  | .ENC_CFG_FOLLOW_TICKS => some (1, 255)
  | .ENC_SCALE_NUM => some (1, 65535)
  | .ENC_SCALE_DEN => some (1, 65535)
  | .ENC_IDX_CFG_PERIOD => some (1, 16777215)
  | .ENC_LIM_CMP_W => some (1, 255)
  | .CAM_CTX_SRC_DT => some (42, 45)
  | .CAM_CTX_SIZE_W => some (64, 8192)
  | .CAM_CTX_SIZE_H => some (32, 8192)
  | .CAM_CTX_CFG_CFA => some (0, 4)
  | .CAM_CTX_CFG_TIMEOUT_MS => some (1, 65535)
  | .CAM_CTX_BUF_COUNT => some (1, 255)
  | .CAM_STREAK_CFG_HALF => some (1, 255)
  | .CAM_STREAK_CFG_STREAK_W => some (1, 31)
  | .TIM_LIMIT_STEP_NS => some (10, 65535)
  | .TIM_LIMIT_LOCK => some (1, 255)
  | .TIM_SLEW_SLEW_PPB => some (1, 200000)
  | .FAB_CFG_VID => some (1, 4094)
  | .FAB_TIMER_HELLO_US => some (10, 255)
  | .FAB_TIMER_KEEP_MISS => some (2, 15)
  | .FAB_TIMER_ROUTE_MS => some (1, 255)
  | .FAB_TIMER_CLAIM_MS => some (1, 255)
  | .FAB_SHAPE_BULK_PCT => some (1, 100)
  | .FAB_PORT_CFG_MODE => some (0, 2)
  | .FAB_PORT_CFG_FEC => some (0, 2)
  | .FAB_PORT_CFG_TXEQ_PRE => some (0, 16)
  | .FAB_PORT_CFG_TXEQ_POST => some (0, 24)
  | .HNG_RESTART_TAPER_UM => some (0, 2000)
  | .DRM_SCHED_AGE_NS => some (100, 65535)
  | .DRM_MAINT_SCRUB_H => some (1, 255)
  | .DRM_MAINT_RETRAIN_DC => some (1, 255)
  | .DRM_MAINT_RETRAIN_LAYERS => some (1, 255)
  | .DRM_TMO_CMD_US => some (10, 65535)
  | .THM_CFG_GRACE_DS => some (1, 100)
  | .THM_GOV_FLOOR => some (0, 256)
  | .MGT_TMO_FETCH_MS => some (1, 65535)
  | .MGT_TMO_POLL_FAIL_MAX => some (1, 15)
  | .MGT_TMO_VNR_MISS_MAX => some (1, 15)
  | .MGT_TMO_CAM_TMO_MAX => some (1, 15)
  | _ => none

/-- The address of a register's instances (R450). -/
def Reg.place : Reg → RegPlace
  | .SYS_ID => ⟨0x0, 1, 0, 1, 0⟩
  | .SYS_REV => ⟨0x4, 1, 0, 1, 0⟩
  | .SYS_SERIAL_LO => ⟨0x8, 1, 0, 1, 0⟩
  | .SYS_SERIAL_HI => ⟨0xc, 1, 0, 1, 0⟩
  | .SYS_CLKID_LO => ⟨0x10, 1, 0, 1, 0⟩
  | .SYS_CLKID_HI => ⟨0x14, 1, 0, 1, 0⟩
  | .SYS_MAC_LO => ⟨0x18, 1, 0, 1, 0⟩
  | .SYS_MAC_HI => ⟨0x1c, 1, 0, 1, 0⟩
  | .SYS_CAP0 => ⟨0x20, 1, 0, 1, 0⟩
  | .SYS_CAP1 => ⟨0x24, 1, 0, 1, 0⟩
  | .SYS_STRAP => ⟨0x28, 1, 0, 1, 0⟩
  | .SYS_LOCK => ⟨0x30, 1, 0, 1, 0⟩
  | .SYS_BOOTCFG => ⟨0x38, 1, 0, 1, 0⟩
  | .SYS_IGN_WR => ⟨0x40, 8, 4, 1, 0⟩
  | .SYS_ISL_CFG => ⟨0x400, 49, 4, 1, 0⟩
  | .SYS_ISL_STAT => ⟨0x500, 49, 4, 1, 0⟩
  | .SYS_ISL_TOFS => ⟨0x600, 49, 4, 1, 0⟩
  | .SYS_LAYER_CTL => ⟨0x800, 1, 0, 1, 0⟩
  | .SYS_LAYER_STAT => ⟨0x804, 1, 0, 1, 0⟩
  | .SYS_LAYER_NUM => ⟨0x808, 1, 0, 1, 0⟩
  | .SYS_LAYER_EPOCH_LO => ⟨0x80c, 1, 0, 1, 0⟩
  | .SYS_LAYER_EPOCH_HI => ⟨0x810, 1, 0, 1, 0⟩
  | .SYS_BARRIER_CFG => ⟨0x814, 1, 0, 1, 0⟩
  | .SYS_BARRIER_STAT => ⟨0x818, 1, 0, 1, 0⟩
  | .HIF_SQ_BASE_LO => ⟨0x10000, 8, 4096, 64, 16⟩
  | .HIF_SQ_BASE_HI => ⟨0x10004, 8, 4096, 64, 16⟩
  | .HIF_SQ_CFG => ⟨0x10008, 8, 4096, 64, 16⟩
  | .HIF_CQ_BASE_LO => ⟨0x10400, 8, 4096, 16, 16⟩
  | .HIF_CQ_BASE_HI => ⟨0x10404, 8, 4096, 16, 16⟩
  | .HIF_CQ_CFG => ⟨0x10408, 8, 4096, 16, 16⟩
  | .HIF_DB_BASE_LO => ⟨0x10500, 8, 4096, 1, 0⟩
  | .HIF_DB_BASE_HI => ⟨0x10504, 8, 4096, 1, 0⟩
  | .HIF_POLL_CFG => ⟨0x10508, 8, 4096, 1, 0⟩
  | .HIF_STAT => ⟨0x1050c, 8, 4096, 1, 0⟩
  | .WIN_BASE_LO => ⟨0x20000, 8, 256, 16, 16⟩
  | .WIN_BASE_HI => ⟨0x20004, 8, 256, 16, 16⟩
  | .WIN_CFG => ⟨0x20008, 8, 256, 16, 16⟩
  | .WIN_OWN_ENG_LO => ⟨0x20800, 8, 16, 1, 0⟩
  | .WIN_OWN_ENG_HI => ⟨0x20804, 8, 16, 1, 0⟩
  | .WIN_OWN_IO => ⟨0x20808, 8, 16, 1, 0⟩
  | .WIN_OWN_CTX => ⟨0x2080c, 8, 16, 1, 0⟩
  | .WIN_STAGE => ⟨0x20880, 8, 4, 1, 0⟩
  | .WIN_PREFETCH => ⟨0x208a0, 8, 4, 1, 0⟩
  | .WIN_FRZ_STAT => ⟨0x208c0, 8, 4, 1, 0⟩
  | .WIN_FRZ_ADDR_LO => ⟨0x20900, 8, 8, 1, 0⟩
  | .WIN_FRZ_ADDR_HI => ⟨0x20904, 8, 8, 1, 0⟩
  | .WIN_FRZ_CTL => ⟨0x20980, 1, 0, 1, 0⟩
  | .WIN_GRANT_ID => ⟨0x20a00, 32, 16, 1, 0⟩
  | .WIN_GRANT_CFG => ⟨0x20a04, 32, 16, 1, 0⟩
  | .WIN_GRANT_DRAM => ⟨0x20a08, 32, 16, 1, 0⟩
  | .WIN_PEER_FRZ => ⟨0x20c00, 32, 4, 1, 0⟩
  | .WIN_PEER_CAUSE => ⟨0x20c80, 1, 0, 1, 0⟩
  | .WIN_STAT => ⟨0x20c84, 1, 0, 1, 0⟩
  | .WIN_MOVER_STAT => ⟨0x20c88, 1, 0, 1, 0⟩
  | .INT_SRC_CFG => ⟨0x30000, 1024, 4, 1, 0⟩
  | .INT_SRC_STAT => ⟨0x31000, 1024, 4, 1, 0⟩
  | .INT_CTL => ⟨0x32000, 8, 1024, 1, 0⟩
  | .INT_EVQ_BASE_LO => ⟨0x32004, 8, 1024, 1, 0⟩
  | .INT_EVQ_BASE_HI => ⟨0x32008, 8, 1024, 1, 0⟩
  | .INT_EVQ_CFG => ⟨0x3200c, 8, 1024, 1, 0⟩
  | .INT_STAT => ⟨0x32010, 8, 1024, 1, 0⟩
  | .INT_VEC_CFG => ⟨0x32100, 8, 1024, 64, 4⟩
  | .INT_VEC_STAT => ⟨0x32200, 8, 1024, 64, 4⟩
  | .INT_PEER => ⟨0x34000, 8, 4, 1, 0⟩
  | .INT_FWD_CNT => ⟨0x34040, 1, 0, 1, 0⟩
  | .ENG_PLAN_CTL => ⟨0x40000, 34, 256, 1, 0⟩
  | .ENG_LIMITS => ⟨0x40004, 34, 256, 1, 0⟩
  | .ENG_VEL => ⟨0x40008, 34, 256, 1, 0⟩
  | .ENG_LAG_X => ⟨0x4000c, 34, 256, 1, 0⟩
  | .ENG_LAG_Y => ⟨0x40010, 34, 256, 1, 0⟩
  | .ENG_LAG_Z => ⟨0x40014, 34, 256, 1, 0⟩
  | .ENG_PARK_X => ⟨0x40018, 34, 256, 1, 0⟩
  | .ENG_PARK_Y => ⟨0x4001c, 34, 256, 1, 0⟩
  | .ENG_LINK_CFG => ⟨0x40020, 34, 256, 1, 0⟩
  | .ENG_STAT => ⟨0x40024, 34, 256, 1, 0⟩
  | .ENG_FIFO => ⟨0x40028, 34, 256, 1, 0⟩
  | .ENG_REC_SEQ => ⟨0x4002c, 34, 256, 1, 0⟩
  | .ENG_ARC => ⟨0x40030, 34, 256, 1, 0⟩
  | .ENG_POS_X => ⟨0x40034, 34, 256, 1, 0⟩
  | .ENG_POS_Y => ⟨0x40038, 34, 256, 1, 0⟩
  | .ENG_LINK_ERR => ⟨0x4003c, 34, 256, 1, 0⟩
  | .ENG_HEAD_STAT => ⟨0x40040, 34, 256, 1, 0⟩
  | .ENG_MARK => ⟨0x40044, 34, 256, 1, 0⟩
  | .ENG_JCT => ⟨0x40048, 34, 256, 1, 0⟩
  | .ENG_GATE_CTL => ⟨0x40060, 34, 256, 1, 0⟩
  | .ENG_GATE_ADV_ON => ⟨0x40064, 34, 256, 1, 0⟩
  | .ENG_GATE_ADV_OFF => ⟨0x40068, 34, 256, 1, 0⟩
  | .ENG_PWR_LEAD => ⟨0x4006c, 34, 256, 1, 0⟩
  | .ENG_GATE_STAT => ⟨0x40070, 34, 256, 1, 0⟩
  | .ENG_GATE_SKIP => ⟨0x40074, 34, 256, 1, 0⟩
  | .ENG_GATE_PULSES => ⟨0x40078, 34, 256, 1, 0⟩
  | .ENG_GATE_LAT => ⟨0x4007c, 34, 256, 1, 0⟩
  | .ENG_PULSE_SPC => ⟨0x40080, 34, 256, 8, 16⟩
  | .ENG_PULSE_PER => ⟨0x40084, 34, 256, 8, 16⟩
  | .ENG_PULSE_W => ⟨0x40088, 34, 256, 8, 16⟩
  | .ENG_PULSE_FIRST => ⟨0x4008c, 34, 256, 8, 16⟩
  | .COR_STAT => ⟨0x50000, 34, 64, 1, 0⟩
  | .COR_ACT_X0 => ⟨0x50004, 34, 64, 1, 0⟩
  | .COR_ACT_Y0 => ⟨0x50008, 34, 64, 1, 0⟩
  | .COR_ACT_PITCH => ⟨0x5000c, 34, 64, 1, 0⟩
  | .COR_ACT_CRC => ⟨0x50010, 34, 64, 1, 0⟩
  | .COR_SHD_CRC => ⟨0x50014, 34, 64, 1, 0⟩
  | .SCF_ZONE_REF_X => ⟨0x60000, 34, 2048, 64, 32⟩
  | .SCF_ZONE_REF_Y => ⟨0x60004, 34, 2048, 64, 32⟩
  | .SCF_ZONE_GEOM => ⟨0x60008, 34, 2048, 64, 32⟩
  | .SCF_ZONE_SEED => ⟨0x6000c, 34, 2048, 64, 32⟩
  | .SCF_ZONE_CFG => ⟨0x60010, 34, 2048, 64, 32⟩
  | .SCF_ZONE_PART => ⟨0x60014, 34, 2048, 64, 32⟩
  | .SCF_ZONE_TIME => ⟨0x60018, 34, 2048, 64, 32⟩
  | .SCF_CNT_A => ⟨0x71000, 34, 16, 1, 0⟩
  | .SCF_CNT_B => ⟨0x71004, 34, 16, 1, 0⟩
  | .SCF_ERR => ⟨0x71008, 34, 16, 1, 0⟩
  | .SCF_CFG => ⟨0x71400, 1, 0, 1, 0⟩
  | .KRF_CFG => ⟨0x80000, 1, 0, 1, 0⟩
  | .KRF_PLUME => ⟨0x80004, 1, 0, 1, 0⟩
  | .KRF_PLUME_DIM => ⟨0x80008, 1, 0, 1, 0⟩
  | .KRF_REORDER => ⟨0x8000c, 1, 0, 1, 0⟩
  | .KRF_HALO_CFG => ⟨0x80010, 1, 0, 1, 0⟩
  | .KRF_INNER_X0 => ⟨0x80020, 1, 0, 1, 0⟩
  | .KRF_INNER_X1 => ⟨0x80024, 1, 0, 1, 0⟩
  | .KRF_INNER_Y0 => ⟨0x80028, 1, 0, 1, 0⟩
  | .KRF_INNER_Y1 => ⟨0x8002c, 1, 0, 1, 0⟩
  | .KRF_STAT => ⟨0x80040, 1, 0, 1, 0⟩
  | .KRF_PEER => ⟨0x80080, 8, 4, 1, 0⟩
  | .KRF_ENG_STAT => ⟨0x80100, 34, 16, 1, 0⟩
  | .KRF_CNT_A => ⟨0x80104, 34, 16, 1, 0⟩
  | .KRF_CNT_B => ⟨0x80108, 34, 16, 1, 0⟩
  | .MPL_CFG => ⟨0x90000, 34, 256, 1, 0⟩
  | .MPL_FS => ⟨0x90004, 34, 256, 1, 0⟩
  | .MPL_PD => ⟨0x90008, 34, 256, 1, 0⟩
  | .MPL_PD_LIM => ⟨0x9000c, 34, 256, 1, 0⟩
  | .MPL_STAT => ⟨0x90010, 34, 256, 1, 0⟩
  | .MPL_MEAS => ⟨0x90014, 34, 256, 1, 0⟩
  | .MPL_FF => ⟨0x90018, 34, 256, 1, 0⟩
  | .MPL_CNT => ⟨0x9001c, 34, 256, 1, 0⟩
  | .MPL_TARGET => ⟨0x90040, 34, 256, 8, 16⟩
  | .MPL_GAIN => ⟨0x90044, 34, 256, 8, 16⟩
  | .MPL_FB_LIM => ⟨0x90048, 34, 256, 8, 16⟩
  | .MPL_PWR_LIM => ⟨0x9004c, 34, 256, 8, 16⟩
  | .MPL_INT => ⟨0x900c0, 34, 256, 8, 4⟩
  | .MPL_SLICE => ⟨0x93000, 32, 4, 1, 0⟩
  | .MPL_SLICE_STAT => ⟨0x93100, 34, 4, 1, 0⟩
  | .GRN_CFG => ⟨0xa0000, 1, 0, 1, 0⟩
  | .GRN_STEP => ⟨0xa0004, 1, 0, 1, 0⟩
  | .GRN_ORIGIN_X => ⟨0xa0008, 1, 0, 1, 0⟩
  | .GRN_ORIGIN_Y => ⟨0xa000c, 1, 0, 1, 0⟩
  | .GRN_GEOM => ⟨0xa0010, 1, 0, 1, 0⟩
  | .GRN_OWN_X0 => ⟨0xa0020, 1, 0, 1, 0⟩
  | .GRN_OWN_X1 => ⟨0xa0024, 1, 0, 1, 0⟩
  | .GRN_OWN_Y0 => ⟨0xa0028, 1, 0, 1, 0⟩
  | .GRN_OWN_Y1 => ⟨0xa002c, 1, 0, 1, 0⟩
  | .GRN_HALO_CFG => ⟨0xa0030, 1, 0, 1, 0⟩
  | .GRN_PEER => ⟨0xa0040, 8, 4, 1, 0⟩
  | .GRN_STAT => ⟨0xa0060, 1, 0, 1, 0⟩
  | .GRN_CNT => ⟨0xa0064, 1, 0, 1, 0⟩
  | .GRN_HALO_CNT => ⟨0xa0068, 1, 0, 1, 0⟩
  | .GRN_LOOK => ⟨0xa0100, 34, 4, 1, 0⟩
  | .GRN_LOST => ⟨0xa0200, 64, 4, 1, 0⟩
  | .GRN_SCALE => ⟨0xa1000, 34, 128, 32, 4⟩
  | .GRN_DECAY => ⟨0xa4000, 4, 1024, 256, 4⟩
  | .VNR_TILE_CFG => ⟨0xb0000, 16, 256, 1, 0⟩
  | .VNR_BAND => ⟨0xb0004, 16, 256, 1, 0⟩
  | .VNR_COMPAT_LINE => ⟨0xb0008, 16, 256, 1, 0⟩
  | .VNR_COMPAT_FRAME => ⟨0xb000c, 16, 256, 1, 0⟩
  | .VNR_COMPAT_SIZE => ⟨0xb0010, 16, 256, 1, 0⟩
  | .VNR_ORG_X => ⟨0xb0014, 16, 256, 1, 0⟩
  | .VNR_ORG_Y => ⟨0xb0018, 16, 256, 1, 0⟩
  | .VNR_PITCH => ⟨0xb001c, 16, 256, 1, 0⟩
  | .VNR_FRZ => ⟨0xb0020, 16, 256, 1, 0⟩
  | .VNR_STAT => ⟨0xb0024, 16, 256, 1, 0⟩
  | .VNR_SIG => ⟨0xb0028, 16, 256, 1, 0⟩
  | .VNR_CNT => ⟨0xb002c, 16, 256, 1, 0⟩
  | .VNR_SLOT => ⟨0xb0030, 16, 256, 1, 0⟩
  | .VNR_DWELL => ⟨0xb0040, 16, 256, 8, 4⟩
  | .VNR_BW => ⟨0xb1000, 1, 0, 1, 0⟩
  | .VDR_CFG => ⟨0xc0000, 16, 1024, 1, 0⟩
  | .VDR_DIM => ⟨0xc0004, 16, 1024, 1, 0⟩
  | .VDR_VF => ⟨0xc0010, 16, 1024, 3, 4⟩
  | .VDR_FS => ⟨0xc0020, 16, 1024, 3, 4⟩
  | .VDR_STAT => ⟨0xc0030, 16, 1024, 1, 0⟩
  | .VDR_CAP => ⟨0xc0034, 16, 1024, 1, 0⟩
  | .VDR_PROBE => ⟨0xc0038, 16, 1024, 1, 0⟩
  | .VDR_CNT => ⟨0xc003c, 16, 1024, 1, 0⟩
  | .VDR_LINK_ERR => ⟨0xc0040, 16, 1024, 1, 0⟩
  | .VDR_STOP_CTL => ⟨0xc0044, 16, 1024, 1, 0⟩
  | .VDR_STOP => ⟨0xc0100, 16, 1024, 64, 4⟩
  | .VDR_STRFAIL => ⟨0xc0200, 16, 1024, 24, 4⟩
  | .AX_CFG => ⟨0xd0000, 8, 256, 1, 0⟩
  | .AX_VMAX => ⟨0xd0004, 8, 256, 1, 0⟩
  | .AX_ACCEL => ⟨0xd0008, 8, 256, 1, 0⟩
  | .AX_DECEL => ⟨0xd000c, 8, 256, 1, 0⟩
  | .AX_JERK => ⟨0xd0010, 8, 256, 1, 0⟩
  | .AX_EDEC => ⟨0xd0014, 8, 256, 1, 0⟩
  | .AX_EJERK => ⟨0xd0018, 8, 256, 1, 0⟩
  | .AX_SOFT_MIN => ⟨0xd001c, 8, 256, 1, 0⟩
  | .AX_SOFT_MAX => ⟨0xd0020, 8, 256, 1, 0⟩
  | .AX_CUR => ⟨0xd0024, 8, 256, 1, 0⟩
  | .AX_CUR2 => ⟨0xd0028, 8, 256, 1, 0⟩
  | .AX_LA => ⟨0xd002c, 8, 256, 1, 0⟩
  | .AX_LA_VMIN => ⟨0xd0030, 8, 256, 1, 0⟩
  | .AX_MOTOR => ⟨0xd0034, 8, 256, 1, 0⟩
  | .AX_LOOP => ⟨0xd0038, 8, 256, 1, 0⟩
  | .AX_ISCALE => ⟨0xd003c, 8, 256, 1, 0⟩
  | .AX_SLEW => ⟨0xd0040, 8, 256, 1, 0⟩
  | .AX_HOME_SPD => ⟨0xd0044, 8, 256, 1, 0⟩
  | .AX_HOME_POS => ⟨0xd0048, 8, 256, 1, 0⟩
  | .AX_HOME_MAX => ⟨0xd004c, 8, 256, 1, 0⟩
  | .AX_HOME_BACK => ⟨0xd0050, 8, 256, 1, 0⟩
  | .AX_POS => ⟨0xd0054, 8, 256, 1, 0⟩
  | .AX_VEL => ⟨0xd0058, 8, 256, 1, 0⟩
  | .AX_STAT => ⟨0xd005c, 8, 256, 1, 0⟩
  | .AX_ELEC => ⟨0xd0060, 8, 256, 1, 0⟩
  | .ENC_CFG => ⟨0xe0000, 8, 256, 1, 0⟩
  | .ENC_SCALE => ⟨0xe0004, 8, 256, 1, 0⟩
  | .ENC_IDX_CFG => ⟨0xe0008, 8, 256, 1, 0⟩
  | .ENC_LIM => ⟨0xe000c, 8, 256, 1, 0⟩
  | .ENC_COUNT => ⟨0xe0010, 8, 256, 1, 0⟩
  | .ENC_IDX_LATCH => ⟨0xe0014, 8, 256, 1, 0⟩
  | .ENC_CMP_VAL => ⟨0xe0018, 8, 256, 1, 0⟩
  | .ENC_DEV => ⟨0xe001c, 8, 256, 1, 0⟩
  | .ENC_CMP_TS_LO => ⟨0xe0020, 8, 256, 1, 0⟩
  | .ENC_CMP_TS_HI => ⟨0xe0024, 8, 256, 1, 0⟩
  | .ENC_IDX_ERR => ⟨0xe0028, 8, 256, 1, 0⟩
  | .ENC_CORR => ⟨0xe002c, 8, 256, 1, 0⟩
  | .ENC_CMP_CNT => ⟨0xe0030, 8, 256, 1, 0⟩
  | .ENC_ERR_CNT => ⟨0xe0034, 8, 256, 1, 0⟩
  | .ENC_STAT => ⟨0xe0038, 8, 256, 1, 0⟩
  | .CAM_PORT_CFG => ⟨0xf0000, 8, 32, 1, 0⟩
  | .CAM_PORT_ERR => ⟨0xf0004, 8, 32, 1, 0⟩
  | .CAM_PORT_DROP => ⟨0xf0008, 8, 32, 1, 0⟩
  | .CAM_INLINE => ⟨0xf0100, 1, 0, 1, 0⟩
  | .CAM_PIPE_STAT => ⟨0xf0104, 1, 0, 1, 0⟩
  | .CAM_CTX_SRC => ⟨0xf1000, 16, 128, 1, 0⟩
  | .CAM_CTX_SIZE => ⟨0xf1004, 16, 128, 1, 0⟩
  | .CAM_CTX_CFG => ⟨0xf1008, 16, 128, 1, 0⟩
  | .CAM_CTX_BLACK => ⟨0xf100c, 16, 128, 2, 4⟩
  | .CAM_CTX_CCM => ⟨0xf1014, 16, 128, 5, 4⟩
  | .CAM_CTX_BUF => ⟨0xf1028, 16, 128, 1, 0⟩
  | .CAM_STREAK_X => ⟨0xf102c, 16, 128, 1, 0⟩
  | .CAM_STREAK_Y => ⟨0xf1030, 16, 128, 1, 0⟩
  | .CAM_STREAK_CFG => ⟨0xf1034, 16, 128, 1, 0⟩
  | .CAM_POOL => ⟨0xf1038, 16, 128, 1, 0⟩
  | .CAM_POOL_LIM => ⟨0xf103c, 16, 128, 1, 0⟩
  | .CAM_CTX_STAT => ⟨0xf1040, 16, 128, 1, 0⟩
  | .CAM_CTX_LAST => ⟨0xf1044, 16, 128, 1, 0⟩
  | .TIM_CTL => ⟨0x100000, 1, 0, 1, 0⟩
  | .TIM_PTP_CFG => ⟨0x100004, 1, 0, 1, 0⟩
  | .TIM_SERVO => ⟨0x100008, 1, 0, 1, 0⟩
  | .TIM_LIMIT => ⟨0x10000c, 1, 0, 1, 0⟩
  | .TIM_SLEW => ⟨0x100010, 1, 0, 1, 0⟩
  | .TIM_STAT => ⟨0x100014, 1, 0, 1, 0⟩
  | .TIM_OFFSET => ⟨0x100018, 1, 0, 1, 0⟩
  | .TIM_RATE => ⟨0x10001c, 1, 0, 1, 0⟩
  | .TIM_NOW_NS => ⟨0x100020, 1, 0, 1, 0⟩
  | .TIM_NOW_SEC_LO => ⟨0x100024, 1, 0, 1, 0⟩
  | .TIM_NOW_SEC_HI => ⟨0x100028, 1, 0, 1, 0⟩
  | .TIM_PORT_CFG => ⟨0x100040, 4, 8, 1, 0⟩
  | .TIM_PORT_DELAY => ⟨0x100044, 4, 8, 1, 0⟩
  | .TIM_PTP_CNT => ⟨0x100060, 1, 0, 1, 0⟩
  | .TIM_IO_OWN => ⟨0x100080, 1, 0, 1, 0⟩
  | .TIM_IO_OWN2 => ⟨0x100084, 1, 0, 1, 0⟩
  | .TIM_IO_POL => ⟨0x100088, 1, 0, 1, 0⟩
  | .TIM_PULSE_STAT => ⟨0x1000a0, 8, 4, 1, 0⟩
  | .TIM_CAP_STAT => ⟨0x1000c0, 4, 4, 1, 0⟩
  | .FAB_CFG => ⟨0x110000, 1, 0, 1, 0⟩
  | .FAB_GROUP => ⟨0x110004, 1, 0, 1, 0⟩
  | .FAB_TIMER => ⟨0x110008, 1, 0, 1, 0⟩
  | .FAB_SHAPE => ⟨0x11000c, 1, 0, 1, 0⟩
  | .FAB_STAT => ⟨0x110010, 1, 0, 1, 0⟩
  | .FAB_PORT_CFG => ⟨0x110040, 4, 16, 1, 0⟩
  | .FAB_PORT_STAT => ⟨0x110044, 4, 16, 1, 0⟩
  | .FAB_PORT_CNT => ⟨0x110048, 4, 16, 1, 0⟩
  | .FAB_PORT_MAC_LO => ⟨0x11004c, 4, 16, 1, 0⟩
  | .FAB_PORT_MAC_HI => ⟨0x110080, 4, 4, 1, 0⟩
  | .FAB_DROP => ⟨0x1100a0, 1, 0, 1, 0⟩
  | .FAB_ROUTE => ⟨0x111000, 1024, 4, 1, 0⟩
  | .HNG_CFG => ⟨0x120000, 1, 0, 1, 0⟩
  | .HNG_RESTART => ⟨0x120004, 1, 0, 1, 0⟩
  | .HNG_PATHB_DLY => ⟨0x120008, 1, 0, 1, 0⟩
  | .HNG_STAT => ⟨0x12000c, 1, 0, 1, 0⟩
  | .HNG_HEALTH => ⟨0x120010, 1, 0, 1, 0⟩
  | .HNG_PEER_HEALTH => ⟨0x120014, 1, 0, 1, 0⟩
  | .HNG_CNT => ⟨0x120018, 1, 0, 1, 0⟩
  | .REC_CFG => ⟨0x130000, 1, 0, 1, 0⟩
  | .REC_STAT => ⟨0x130004, 1, 0, 1, 0⟩
  | .REC_BAD_LO => ⟨0x130008, 1, 0, 1, 0⟩
  | .REC_BAD_HI => ⟨0x13000c, 1, 0, 1, 0⟩
  | .REC_OPSEC => ⟨0x130010, 1, 0, 1, 0⟩
  | .REC_PCYC => ⟨0x130014, 1, 0, 1, 0⟩
  | .REC_DROP => ⟨0x130020, 4, 4, 1, 0⟩
  | .REC_PEER_CNT => ⟨0x130030, 1, 0, 1, 0⟩
  | .DRM_CFG => ⟨0x140000, 2, 256, 1, 0⟩
  | .DRM_GEOM => ⟨0x140004, 2, 256, 1, 0⟩
  | .DRM_STAT => ⟨0x140010, 2, 256, 1, 0⟩
  | .DRM_ECC => ⟨0x140014, 2, 256, 1, 0⟩
  | .DRM_ECC_ADDR => ⟨0x140018, 2, 256, 1, 0⟩
  | .DRM_SCHED => ⟨0x140200, 1, 0, 1, 0⟩
  | .DRM_MAINT => ⟨0x140204, 1, 0, 1, 0⟩
  | .DRM_TMO => ⟨0x140208, 1, 0, 1, 0⟩
  | .THM_CFG => ⟨0x150000, 1, 0, 1, 0⟩
  | .THM_STAT => ⟨0x150004, 1, 0, 1, 0⟩
  | .THM_CNT => ⟨0x150008, 1, 0, 1, 0⟩
  | .THM_TEMP => ⟨0x150100, 64, 4, 1, 0⟩
  | .THM_GOV => ⟨0x150200, 49, 4, 1, 0⟩
  | .CAL_CFG => ⟨0x160000, 1, 0, 1, 0⟩
  | .CAL_STAT => ⟨0x160004, 1, 0, 1, 0⟩
  | .CAL_SERIAL_LO => ⟨0x160008, 1, 0, 1, 0⟩
  | .CAL_SERIAL_HI => ⟨0x16000c, 1, 0, 1, 0⟩
  | .CAL_TAP_MAP => ⟨0x160100, 34, 64, 16, 4⟩
  | .CAL_TAP_REF => ⟨0x160a00, 34, 8, 1, 0⟩
  | .CAL_GATE_LAT => ⟨0x160a04, 34, 8, 1, 0⟩
  | .CAL_ADC_CELL => ⟨0x161000, 34, 32, 4, 4⟩
  | .CAL_ADC_REF => ⟨0x161010, 34, 32, 1, 0⟩
  | .CAL_SENSOR => ⟨0x161800, 64, 4, 1, 0⟩
  | .CAL_DOWEL => ⟨0x161a00, 49, 4, 1, 0⟩
  | .CAL_IMG_CRC => ⟨0x161ffc, 1, 0, 1, 0⟩
  | .MGT_STAT => ⟨0x170000, 1, 0, 1, 0⟩
  | .MGT_FW => ⟨0x170004, 2, 4, 1, 0⟩
  | .MGT_TMO => ⟨0x17000c, 1, 0, 1, 0⟩
  | .MGT_LAST => ⟨0x170010, 1, 0, 1, 0⟩
  | .MGT_UNIT => ⟨0x170100, 83, 4, 1, 0⟩

/-- The address of instance `i`, `j` of a register in function 0's BAR0 (R450). -/
def Reg.addr (r : Reg) (i j : Nat) : Nat := r.place.base + r.place.s1 * i + r.place.s2 * j

/-- The fields of the SYS_ registers. -/
def fldsSYS : List Fld := [
  .SYS_ID_DEVICE, .SYS_ID_VENDOR, .SYS_REV_METAL, .SYS_REV_BASE, .SYS_REV_MAP_VER, .SYS_SERIAL_LO_SERIAL, 
  .SYS_SERIAL_HI_SERIAL, .SYS_CLKID_LO_CLKID, .SYS_CLKID_HI_CLKID, .SYS_MAC_LO_MAC, .SYS_MAC_HI_MAC, 
  .SYS_CAP0_CHANNELS, .SYS_CAP0_ENGINES, .SYS_CAP0_TILES, .SYS_CAP0_AXES, .SYS_CAP0_CAMERAS, 
  .SYS_CAP0_FAB_PORTS, .SYS_CAP0_FUNCTIONS, .SYS_CAP1_SRAM_MB, .SYS_CAP1_MRAM_MB, .SYS_CAP1_ISLANDS, 
  .SYS_CAP1_DRAM_GB, .SYS_STRAP_REFCLK, .SYS_STRAP_RECOV, .SYS_STRAP_QSPI, .SYS_LOCK_LOCK, 
  .SYS_BOOTCFG_I2C_ADDR, .SYS_BOOTCFG_COPY, .SYS_BOOTCFG_GEN, .SYS_IGN_WR_PARTIAL, .SYS_IGN_WR_UNMAPPED, 
  .SYS_ISL_CFG_FREQ_MHZ, .SYS_ISL_STAT_FREQ_MHZ, .SYS_ISL_STAT_VOLT, .SYS_ISL_STAT_IN_SERVICE, 
  .SYS_ISL_STAT_HOLDOVER, .SYS_ISL_STAT_REPLICA_ERR, .SYS_ISL_STAT_GRADIENT, .SYS_ISL_STAT_CFG_REJ, 
  .SYS_ISL_STAT_BRIDGE_ERR, .SYS_ISL_STAT_RELOCK, .SYS_ISL_TOFS_OFFSET, .SYS_ISL_TOFS_PEAK, 
  .SYS_LAYER_CTL_OWNER_FUNC, .SYS_LAYER_STAT_STATE, .SYS_LAYER_STAT_REPEATS, .SYS_LAYER_STAT_HELD, 
  .SYS_LAYER_STAT_REBASE, .SYS_LAYER_STAT_BARRIER_LATE, .SYS_LAYER_STAT_STREAK_FAIL, .SYS_LAYER_STAT_CFG_REJ, 
  .SYS_LAYER_NUM_LAYER_NUM, .SYS_LAYER_EPOCH_LO_NS, .SYS_LAYER_EPOCH_HI_SEC, .SYS_BARRIER_CFG_GROUP_SIZE, 
  .SYS_BARRIER_CFG_LEAD_US, .SYS_BARRIER_STAT_READY_COUNT]

/-- The registers of the SYS_ block. -/
def regsSYS : List Reg := [
  .SYS_ID, .SYS_REV, .SYS_SERIAL_LO, .SYS_SERIAL_HI, .SYS_CLKID_LO, .SYS_CLKID_HI, .SYS_MAC_LO, 
  .SYS_MAC_HI, .SYS_CAP0, .SYS_CAP1, .SYS_STRAP, .SYS_LOCK, .SYS_BOOTCFG, .SYS_IGN_WR, .SYS_ISL_CFG, 
  .SYS_ISL_STAT, .SYS_ISL_TOFS, .SYS_LAYER_CTL, .SYS_LAYER_STAT, .SYS_LAYER_NUM, .SYS_LAYER_EPOCH_LO, 
  .SYS_LAYER_EPOCH_HI, .SYS_BARRIER_CFG, .SYS_BARRIER_STAT]

/-- The fields of the HIF_ registers. -/
def fldsHIF : List Fld := [
  .HIF_SQ_BASE_LO_ADDR_LO, .HIF_SQ_BASE_HI_ADDR_HI, .HIF_SQ_CFG_SIZE_LOG2, .HIF_SQ_CFG_CQ, 
  .HIF_SQ_CFG_PRIO, .HIF_SQ_CFG_ENABLE, .HIF_CQ_BASE_LO_ADDR_LO, .HIF_CQ_BASE_HI_ADDR_HI, .HIF_CQ_CFG_SIZE_LOG2, 
  .HIF_CQ_CFG_ENABLE, .HIF_DB_BASE_LO_ADDR_LO, .HIF_DB_BASE_HI_ADDR_HI, .HIF_POLL_CFG_INTERVAL_US, 
  .HIF_POLL_CFG_SLEEP_US, .HIF_POLL_CFG_POLL_EN, .HIF_STAT_INTERVAL_NOW, .HIF_STAT_IN_FLIGHT, 
  .HIF_STAT_CFG_REJ, .HIF_STAT_CQ_HOLD, .HIF_STAT_POLL_ERR, .HIF_STAT_STATE_ERR, .HIF_STAT_OVERSIZE, 
  .HIF_STAT_HOSTQ_USED]

/-- The registers of the HIF_ block. -/
def regsHIF : List Reg := [
  .HIF_SQ_BASE_LO, .HIF_SQ_BASE_HI, .HIF_SQ_CFG, .HIF_CQ_BASE_LO, .HIF_CQ_BASE_HI, .HIF_CQ_CFG, 
  .HIF_DB_BASE_LO, .HIF_DB_BASE_HI, .HIF_POLL_CFG, .HIF_STAT]

/-- The fields of the WIN_ registers. -/
def fldsWIN : List Fld := [
  .WIN_BASE_LO_ADDR_LO, .WIN_BASE_HI_ADDR_HI, .WIN_CFG_SIZE_LOG2, .WIN_CFG_R, .WIN_CFG_W, .WIN_CFG_ENABLE, 
  .WIN_OWN_ENG_LO_ENG, .WIN_OWN_ENG_HI_ENG, .WIN_OWN_IO_TILE, .WIN_OWN_IO_AXIS, .WIN_OWN_CTX_CTX, 
  .WIN_STAGE_BASE_MB, .WIN_STAGE_SIZE_MB, .WIN_PREFETCH_FIFO_LOW, .WIN_PREFETCH_VNR_AHEAD, 
  .WIN_FRZ_STAT_FROZEN, .WIN_FRZ_STAT_SAFE, .WIN_FRZ_STAT_CAUSE, .WIN_FRZ_STAT_REPEAT, .WIN_FRZ_STAT_IGN_WRITES, 
  .WIN_FRZ_ADDR_LO_ADDR, .WIN_FRZ_ADDR_HI_ADDR, .WIN_FRZ_CTL_FUNC, .WIN_FRZ_CTL_PEER_ID, .WIN_FRZ_CTL_KIND, 
  .WIN_GRANT_ID_ID_LO, .WIN_GRANT_ID_ID_HI, .WIN_GRANT_CFG_CLASS, .WIN_GRANT_CFG_ENABLE, .WIN_GRANT_DRAM_BASE_MB, 
  .WIN_GRANT_DRAM_SIZE_MB, .WIN_PEER_FRZ_FROZEN, .WIN_PEER_CAUSE_PEER_ID, .WIN_PEER_CAUSE_KIND, 
  .WIN_PEER_CAUSE_COUNT, .WIN_STAT_CFG_REJ, .WIN_MOVER_STAT_BUSY, .WIN_MOVER_STAT_UNDERRUN]

/-- The registers of the WIN_ block. -/
def regsWIN : List Reg := [
  .WIN_BASE_LO, .WIN_BASE_HI, .WIN_CFG, .WIN_OWN_ENG_LO, .WIN_OWN_ENG_HI, .WIN_OWN_IO, .WIN_OWN_CTX, 
  .WIN_STAGE, .WIN_PREFETCH, .WIN_FRZ_STAT, .WIN_FRZ_ADDR_LO, .WIN_FRZ_ADDR_HI, .WIN_FRZ_CTL, 
  .WIN_GRANT_ID, .WIN_GRANT_CFG, .WIN_GRANT_DRAM, .WIN_PEER_FRZ, .WIN_PEER_CAUSE, .WIN_STAT, 
  .WIN_MOVER_STAT]

/-- The fields of the INT_ registers. -/
def fldsINT : List Fld := [
  .INT_SRC_CFG_VECTOR, .INT_SRC_CFG_EN, .INT_SRC_CFG_FWD, .INT_SRC_CFG_FWD_SLOT, .INT_SRC_STAT_PENDING, 
  .INT_SRC_STAT_ACTIVE, .INT_SRC_STAT_COUNT, .INT_CTL_HOLD, .INT_EVQ_BASE_LO_ADDR, .INT_EVQ_BASE_HI_ADDR, 
  .INT_EVQ_CFG_SIZE_LOG2, .INT_EVQ_CFG_ENABLE, .INT_STAT_RUNNING, .INT_STAT_EVQ_FULL, .INT_STAT_CFG_REJ, 
  .INT_STAT_MIRROR_DROP, .INT_STAT_STRAY_ACK, .INT_VEC_CFG_PRIO, .INT_VEC_CFG_MIN_INT_US, .INT_VEC_CFG_COUNT_THR, 
  .INT_VEC_STAT_PENDING, .INT_VEC_STAT_READY, .INT_VEC_STAT_ACTIVE, .INT_VEC_STAT_ASEQ, .INT_PEER_PEER_ID, 
  .INT_PEER_ENABLE, .INT_FWD_CNT_SENT, .INT_FWD_CNT_DROPPED]

/-- The registers of the INT_ block. -/
def regsINT : List Reg := [
  .INT_SRC_CFG, .INT_SRC_STAT, .INT_CTL, .INT_EVQ_BASE_LO, .INT_EVQ_BASE_HI, .INT_EVQ_CFG, 
  .INT_STAT, .INT_VEC_CFG, .INT_VEC_STAT, .INT_PEER, .INT_FWD_CNT]

/-- The fields of the ENG_ registers. -/
def fldsENG : List Fld := [
  .ENG_PLAN_CTL_BLEND_DEG, .ENG_PLAN_CTL_TENON_EN, .ENG_PLAN_CTL_CORNER_TOL_NM, .ENG_LIMITS_A_MAX, 
  .ENG_LIMITS_J_MAX, .ENG_VEL_V_MAX, .ENG_VEL_V_JUMP, .ENG_LAG_X_LAG, .ENG_LAG_Y_LAG, .ENG_LAG_Z_LAG, 
  .ENG_PARK_X_POS, .ENG_PARK_Y_POS, .ENG_LINK_CFG_LOSS_FRAMES, .ENG_LINK_CFG_FE_LIMIT, .ENG_STAT_STATE, 
  .ENG_STAT_LINK_UP, .ENG_STAT_LINK_FAULT, .ENG_STAT_FE_ERR, .ENG_STAT_HEAD_FAULT, .ENG_STAT_MISWIRE, 
  .ENG_STAT_CFG_REJ, .ENG_STAT_VCLAMP, .ENG_STAT_HORIZON, .ENG_STAT_WDOG, .ENG_STAT_BOUND_CH, 
  .ENG_FIFO_LEVEL, .ENG_REC_SEQ_SEQ, .ENG_ARC_ARC_NM, .ENG_POS_X_POS, .ENG_POS_Y_POS, .ENG_LINK_ERR_RX_BAD, 
  .ENG_LINK_ERR_HEAD_CRC, .ENG_HEAD_STAT_STAT, .ENG_HEAD_STAT_CODE, .ENG_MARK_MARK, .ENG_JCT_BLENDED, 
  .ENG_JCT_TENONED, .ENG_GATE_CTL_MIN_OFF, .ENG_GATE_ADV_ON_ADV, .ENG_GATE_ADV_OFF_ADV, .ENG_PWR_LEAD_LEAD, 
  .ENG_GATE_STAT_GATE_NOW, .ENG_GATE_STAT_COMPARE_BEHIND, .ENG_GATE_STAT_BEHIND_HOLD, .ENG_GATE_STAT_SAFE_STOP, 
  .ENG_GATE_STAT_SAFE_STOP_SEEN, .ENG_GATE_STAT_GAS_HOLD, .ENG_GATE_STAT_GATE_MON, .ENG_GATE_SKIP_BEHIND, 
  .ENG_GATE_SKIP_LAST_OMIT, .ENG_GATE_PULSES_RISES, .ENG_GATE_LAT_PIN_LAT_PS, .ENG_PULSE_SPC_SPACING_NM, 
  .ENG_PULSE_PER_PERIOD, .ENG_PULSE_W_WIDTH, .ENG_PULSE_W_LAST_MODE, .ENG_PULSE_W_BEHIND_MODE, 
  .ENG_PULSE_FIRST_FIRST]

/-- The registers of the ENG_ block. -/
def regsENG : List Reg := [
  .ENG_PLAN_CTL, .ENG_LIMITS, .ENG_VEL, .ENG_LAG_X, .ENG_LAG_Y, .ENG_LAG_Z, .ENG_PARK_X, .ENG_PARK_Y, 
  .ENG_LINK_CFG, .ENG_STAT, .ENG_FIFO, .ENG_REC_SEQ, .ENG_ARC, .ENG_POS_X, .ENG_POS_Y, .ENG_LINK_ERR, 
  .ENG_HEAD_STAT, .ENG_MARK, .ENG_JCT, .ENG_GATE_CTL, .ENG_GATE_ADV_ON, .ENG_GATE_ADV_OFF, 
  .ENG_PWR_LEAD, .ENG_GATE_STAT, .ENG_GATE_SKIP, .ENG_GATE_PULSES, .ENG_GATE_LAT, .ENG_PULSE_SPC, 
  .ENG_PULSE_PER, .ENG_PULSE_W, .ENG_PULSE_FIRST]

/-- The fields of the COR_ registers. -/
def fldsCOR : List Fld := [
  .COR_STAT_ACTIVE_BANK, .COR_STAT_SHADOW_VALID, .COR_STAT_SWAP_PENDING, .COR_STAT_OUT_FIELD, 
  .COR_STAT_PARK_CLIP, .COR_STAT_LOAD_ERR, .COR_STAT_ECC_ERR, .COR_STAT_ACTIVE_VALID, .COR_ACT_X0_ORIGIN, 
  .COR_ACT_Y0_ORIGIN, .COR_ACT_PITCH_PITCH_X, .COR_ACT_PITCH_PITCH_Y, .COR_ACT_CRC_CRC, .COR_SHD_CRC_CRC]

/-- The registers of the COR_ block. -/
def regsCOR : List Reg := [
  .COR_STAT, .COR_ACT_X0, .COR_ACT_Y0, .COR_ACT_PITCH, .COR_ACT_CRC, .COR_SHD_CRC]

/-- The fields of the SCF_ registers. -/
def fldsSCF : List Fld := [
  .SCF_ZONE_REF_X_REF, .SCF_ZONE_REF_Y_REF, .SCF_ZONE_GEOM_ANGLE, .SCF_ZONE_GEOM_WIDTH_UM, 
  .SCF_ZONE_SEED_SEED, .SCF_ZONE_CFG_FEATHER_UM, .SCF_ZONE_CFG_SHAPE, .SCF_ZONE_CFG_ROLE, .SCF_ZONE_CFG_REMOTE, 
  .SCF_ZONE_CFG_PART_CH, .SCF_ZONE_CFG_PART_ZONE, .SCF_ZONE_CFG_ENABLE, .SCF_ZONE_PART_PART_DEV, 
  .SCF_ZONE_PART_PART_DEV_ALT, .SCF_ZONE_TIME_TAKEOVER_US, .SCF_ZONE_TIME_SIG, .SCF_CNT_A_TAKEN, 
  .SCF_CNT_A_YIELDED, .SCF_CNT_B_SHORT, .SCF_CNT_B_MISS, .SCF_ERR_UNCOVERED, .SCF_ERR_SIG_ERR, 
  .SCF_ERR_NOZONE, .SCF_ERR_LOSS, .SCF_ERR_CFG_REJ, .SCF_CFG_LOSS_US, .SCF_CFG_CFG_REJ]

/-- The registers of the SCF_ block. -/
def regsSCF : List Reg := [
  .SCF_ZONE_REF_X, .SCF_ZONE_REF_Y, .SCF_ZONE_GEOM, .SCF_ZONE_SEED, .SCF_ZONE_CFG, .SCF_ZONE_PART, 
  .SCF_ZONE_TIME, .SCF_CNT_A, .SCF_CNT_B, .SCF_ERR, .SCF_CFG]

/-- The fields of the KRF_ registers. -/
def fldsKRF : List Fld := [
  .KRF_CFG_KEEPOUT_UM, .KRF_CFG_MAX_HOLD_US, .KRF_PLUME_FLOW_ANGLE, .KRF_PLUME_DIM_PLUME_W_UM, 
  .KRF_PLUME_DIM_PLUME_LEN, .KRF_REORDER_REORDER_MAX, .KRF_REORDER_REORDER_DELAY_US, .KRF_HALO_CFG_VMAX_MMS, 
  .KRF_HALO_CFG_STALE_US, .KRF_INNER_X0_EDGE, .KRF_INNER_X1_EDGE, .KRF_INNER_Y0_EDGE, .KRF_INNER_Y1_EDGE, 
  .KRF_STAT_GAS_BLOCK, .KRF_STAT_HALO_OVF, .KRF_STAT_CFG_REJ, .KRF_STAT_STALE, .KRF_STAT_STARVING, 
  .KRF_STAT_HALO_LATE, .KRF_PEER_PEER_ID, .KRF_PEER_ENABLE, .KRF_ENG_STAT_HOLD_US, .KRF_ENG_STAT_STARVING, 
  .KRF_ENG_STAT_ARMING, .KRF_ENG_STAT_BLOCKER, .KRF_CNT_A_HOLDS, .KRF_CNT_A_FORCED, .KRF_CNT_B_REORDERED, 
  .KRF_CNT_B_MAX_HOLD]

/-- The registers of the KRF_ block. -/
def regsKRF : List Reg := [
  .KRF_CFG, .KRF_PLUME, .KRF_PLUME_DIM, .KRF_REORDER, .KRF_HALO_CFG, .KRF_INNER_X0, .KRF_INNER_X1, 
  .KRF_INNER_Y0, .KRF_INNER_Y1, .KRF_STAT, .KRF_PEER, .KRF_ENG_STAT, .KRF_CNT_A, .KRF_CNT_B]

/-- The fields of the MPL_ registers. -/
def fldsMPL : List Fld := [
  .MPL_CFG_FB_FAIL, .MPL_CFG_BOTH_ACT, .MPL_CFG_INT_CLR, .MPL_CFG_SPD_MIN, .MPL_CFG_FF_FALLBACK, 
  .MPL_FS_FS_W, .MPL_PD_PD_DELAY, .MPL_PD_PD_SETTLE, .MPL_PD_MIN_LIT, .MPL_PD_LIM_FLOOR, .MPL_PD_LIM_DARK_LIMIT, 
  .MPL_PD_LIM_SAT_LIMIT, .MPL_STAT_FB_LOST, .MPL_STAT_FF_LOST, .MPL_STAT_DARK, .MPL_STAT_SAT, 
  .MPL_STAT_CFG_REJ, .MPL_STAT_SLICE, .MPL_MEAS_Y, .MPL_MEAS_S_FB, .MPL_FF_H, .MPL_FF_S_FF, 
  .MPL_CNT_FF_MISS, .MPL_CNT_FB_HOLD, .MPL_TARGET_TARGET, .MPL_TARGET_LOOP_EN, .MPL_TARGET_SPD_COMP, 
  .MPL_GAIN_KP, .MPL_GAIN_KI, .MPL_FB_LIM_FB_MIN, .MPL_FB_LIM_FB_MAX, .MPL_PWR_LIM_P_MIN, .MPL_PWR_LIM_P_MAX, 
  .MPL_INT_I, .MPL_SLICE_SLICE, .MPL_SLICE_STAT_IN_SERVICE, .MPL_SLICE_STAT_FAULT, .MPL_SLICE_STAT_CHANNEL]

/-- The registers of the MPL_ block. -/
def regsMPL : List Reg := [
  .MPL_CFG, .MPL_FS, .MPL_PD, .MPL_PD_LIM, .MPL_STAT, .MPL_MEAS, .MPL_FF, .MPL_CNT, .MPL_TARGET, 
  .MPL_GAIN, .MPL_FB_LIM, .MPL_PWR_LIM, .MPL_INT, .MPL_SLICE, .MPL_SLICE_STAT]

/-- The fields of the GRN_ registers. -/
def fldsGRN : List Fld := [
  .GRN_CFG_ENABLE, .GRN_CFG_MATERIAL, .GRN_CFG_HEAT_LSB_UJ, .GRN_STEP_STEP_LOG2, .GRN_ORIGIN_X_ORIGIN, 
  .GRN_ORIGIN_Y_ORIGIN, .GRN_GEOM_PITCH_UM, .GRN_GEOM_COLS_LOG2, .GRN_OWN_X0_EDGE, .GRN_OWN_X1_EDGE, 
  .GRN_OWN_Y0_EDGE, .GRN_OWN_Y1_EDGE, .GRN_HALO_CFG_BAND_UM, .GRN_HALO_CFG_STALE_US, .GRN_PEER_PEER_ID, 
  .GRN_PEER_ENABLE, .GRN_STAT_SWEEP, .GRN_STAT_MATERIAL_NOW, .GRN_STAT_TABLE_ERR, .GRN_STAT_CFG_REJ, 
  .GRN_STAT_OUT_MAP, .GRN_STAT_MISALIGN, .GRN_STAT_LOST_ANY, .GRN_STAT_STALE, .GRN_CNT_SATURATED, 
  .GRN_CNT_ECC_UNCORR, .GRN_HALO_CNT_LATE, .GRN_HALO_CNT_DEFER, .GRN_LOOK_NEAR, .GRN_LOOK_FAR, 
  .GRN_LOOK_N_READ, .GRN_LOOK_SHIFT, .GRN_LOST_TILES, .GRN_SCALE_S_LO, .GRN_SCALE_S_HI, .GRN_DECAY_FACTOR]

/-- The registers of the GRN_ block. -/
def regsGRN : List Reg := [
  .GRN_CFG, .GRN_STEP, .GRN_ORIGIN_X, .GRN_ORIGIN_Y, .GRN_GEOM, .GRN_OWN_X0, .GRN_OWN_X1, .GRN_OWN_Y0, 
  .GRN_OWN_Y1, .GRN_HALO_CFG, .GRN_PEER, .GRN_STAT, .GRN_CNT, .GRN_HALO_CNT, .GRN_LOOK, .GRN_LOST, 
  .GRN_SCALE, .GRN_DECAY]

/-- The fields of the VNR_ registers. -/
def fldsVNR : List Fld := [
  .VNR_TILE_CFG_MODE, .VNR_TILE_CFG_COMPAT, .VNR_TILE_CFG_FORMAT, .VNR_TILE_CFG_ROT, .VNR_TILE_CFG_BANDS, 
  .VNR_TILE_CFG_KERF_DEF, .VNR_BAND_MAP_A, .VNR_BAND_MAP_B, .VNR_BAND_MAP_C, .VNR_COMPAT_LINE_LSYNC, 
  .VNR_COMPAT_LINE_LSETTLE, .VNR_COMPAT_FRAME_LACTIVE, .VNR_COMPAT_FRAME_MUX, .VNR_COMPAT_FRAME_FSYNC, 
  .VNR_COMPAT_FRAME_FSETTLE, .VNR_COMPAT_SIZE_ACT_W, .VNR_COMPAT_SIZE_ACT_H, .VNR_ORG_X_ORG, 
  .VNR_ORG_Y_ORG, .VNR_PITCH_PITCH_X, .VNR_PITCH_PITCH_Y, .VNR_FRZ_STATIC_MAX, .VNR_STAT_STATE, 
  .VNR_STAT_FREEZE, .VNR_STAT_MISSED_ANY, .VNR_STAT_CFG_REJ, .VNR_STAT_ATT_ERR, .VNR_SIG_SIG, 
  .VNR_CNT_MISSED, .VNR_CNT_KERF_DARK, .VNR_SLOT_SLOT, .VNR_DWELL_D_LO, .VNR_DWELL_D_HI, .VNR_BW_MBPS]

/-- The registers of the VNR_ block. -/
def regsVNR : List Reg := [
  .VNR_TILE_CFG, .VNR_BAND, .VNR_COMPAT_LINE, .VNR_COMPAT_FRAME, .VNR_COMPAT_SIZE, .VNR_ORG_X, 
  .VNR_ORG_Y, .VNR_PITCH, .VNR_FRZ, .VNR_STAT, .VNR_SIG, .VNR_CNT, .VNR_SLOT, .VNR_DWELL, .VNR_BW]

/-- The fields of the VDR_ registers. -/
def fldsVDR : List Fld := [
  .VDR_CFG_STR_LEN, .VDR_CFG_PATH, .VDR_CFG_GRN_DEP, .VDR_CFG_DEP_SLOTS, .VDR_DIM_DIM_TICKS, 
  .VDR_DIM_CEN_LEAD, .VDR_DIM_PWM_BITS, .VDR_VF_VF_MIN, .VDR_VF_VF_MAX, .VDR_VF_VF_RUN, .VDR_VF_VTOL, 
  .VDR_FS_FS_MW, .VDR_STAT_LINK_UP, .VDR_STAT_PATH_NOW, .VDR_STAT_PROBE_OFF, .VDR_STAT_CAP_MISMATCH, 
  .VDR_STAT_VDEV, .VDR_STAT_STRFAIL_ANY, .VDR_STAT_LINK_FAULT, .VDR_STAT_CFG_REJ, .VDR_STAT_STOPPED, 
  .VDR_STAT_DUTY_CEIL, .VDR_CAP_STRINGS, .VDR_CAP_STR_LEN, .VDR_CAP_BANDS, .VDR_CAP_PHASE_CAP, 
  .VDR_PROBE_STEP, .VDR_PROBE_SUSPECT, .VDR_CNT_SWEEPS, .VDR_CNT_VDEV_CNT, .VDR_LINK_ERR_RX_BAD, 
  .VDR_LINK_ERR_ALARMS, .VDR_STOP_CTL_CLEAR, .VDR_STOP_SITE, .VDR_STOP_SLOT, .VDR_STOP_VALID, 
  .VDR_STOP_STRING, .VDR_STOP_POSITION, .VDR_STRFAIL_FAILED]

/-- The registers of the VDR_ block. -/
def regsVDR : List Reg := [
  .VDR_CFG, .VDR_DIM, .VDR_VF, .VDR_FS, .VDR_STAT, .VDR_CAP, .VDR_PROBE, .VDR_CNT, .VDR_LINK_ERR, 
  .VDR_STOP_CTL, .VDR_STOP, .VDR_STRFAIL]

/-- The fields of the AX_ registers. -/
def fldsAX : List Fld := [
  .AX_CFG_ENABLE, .AX_CFG_MODE, .AX_CFG_REQ_HOMED, .AX_CFG_SD_SHIFT, .AX_CFG_STEP_W, .AX_CFG_DEAD, 
  .AX_CFG_STALL_TICKS, .AX_VMAX_V_MAX, .AX_ACCEL_VALUE, .AX_DECEL_VALUE, .AX_JERK_VALUE, .AX_EDEC_VALUE, 
  .AX_EJERK_VALUE, .AX_SOFT_MIN_POS, .AX_SOFT_MAX_POS, .AX_CUR_I_BASE, .AX_CUR_I_CEIL, .AX_CUR2_I_HOLD, 
  .AX_CUR2_I_HOME, .AX_LA_LA_LOW, .AX_LA_LA_HIGH, .AX_LA_HOLD_DELAY_MS, .AX_LA_VMIN_LA_VMIN, 
  .AX_MOTOR_R_MOHM, .AX_MOTOR_L_UH, .AX_LOOP_KP, .AX_LOOP_KI, .AX_ISCALE_FS_MA, .AX_ISCALE_I_TRIP, 
  .AX_SLEW_I_SLEW, .AX_HOME_SPD_HOME_SPEED, .AX_HOME_POS_VALUE, .AX_HOME_MAX_VALUE, .AX_HOME_BACK_BACKOFF, 
  .AX_POS_VALUE, .AX_VEL_VALUE, .AX_STAT_STATE, .AX_STAT_HOMED, .AX_STAT_STALL, .AX_STAT_SD_FAULT, 
  .AX_STAT_OVERCUR, .AX_STAT_LATCHED, .AX_STAT_VCLAMP, .AX_STAT_CFG_REJ, .AX_STAT_GOV, .AX_ELEC_DELTA, 
  .AX_ELEC_I_NOW]

/-- The registers of the AX_ block. -/
def regsAX : List Reg := [
  .AX_CFG, .AX_VMAX, .AX_ACCEL, .AX_DECEL, .AX_JERK, .AX_EDEC, .AX_EJERK, .AX_SOFT_MIN, .AX_SOFT_MAX, 
  .AX_CUR, .AX_CUR2, .AX_LA, .AX_LA_VMIN, .AX_MOTOR, .AX_LOOP, .AX_ISCALE, .AX_SLEW, .AX_HOME_SPD, 
  .AX_HOME_POS, .AX_HOME_MAX, .AX_HOME_BACK, .AX_POS, .AX_VEL, .AX_STAT, .AX_ELEC]

/-- The fields of the ENC_ registers. -/
def fldsENC : List Fld := [
  .ENC_CFG_ENABLE, .ENC_CFG_FOLLOW_EN, .ENC_CFG_FOLLOW_ACT, .ENC_CFG_IDX_CORR, .ENC_CFG_BEHIND_WAIT, 
  .ENC_CFG_INVERT_DIR, .ENC_CFG_GATE, .ENC_CFG_EDGE_M1, .ENC_CFG_STILL_MS, .ENC_CFG_FOLLOW_TICKS, 
  .ENC_SCALE_NUM, .ENC_SCALE_DEN, .ENC_IDX_CFG_PERIOD, .ENC_IDX_CFG_TOL, .ENC_LIM_FOLLOW_LIM, 
  .ENC_LIM_CMP_W, .ENC_COUNT_VALUE, .ENC_IDX_LATCH_VALUE, .ENC_CMP_VAL_VALUE, .ENC_DEV_VALUE, 
  .ENC_CMP_TS_LO_TS, .ENC_CMP_TS_HI_TS, .ENC_IDX_ERR_ERR, .ENC_IDX_ERR_WORST, .ENC_CORR_PEND, 
  .ENC_CORR_SUM, .ENC_CMP_CNT_HITS_DONE, .ENC_CMP_CNT_BEHIND_SKIP, .ENC_ERR_CNT_EDGE_FAULT, 
  .ENC_ERR_CNT_QUAD_ERRS, .ENC_ERR_CNT_INDEX_MISS, .ENC_STAT_ARMED, .ENC_STAT_COMPARE_BEHIND, 
  .ENC_STAT_INDEX_SLIP, .ENC_STAT_QUAD_ERR, .ENC_STAT_FOLLOW_ERR, .ENC_STAT_REF_VALID, .ENC_STAT_STILL, 
  .ENC_STAT_CFG_REJ]

/-- The registers of the ENC_ block. -/
def regsENC : List Reg := [
  .ENC_CFG, .ENC_SCALE, .ENC_IDX_CFG, .ENC_LIM, .ENC_COUNT, .ENC_IDX_LATCH, .ENC_CMP_VAL, .ENC_DEV, 
  .ENC_CMP_TS_LO, .ENC_CMP_TS_HI, .ENC_IDX_ERR, .ENC_CORR, .ENC_CMP_CNT, .ENC_ERR_CNT, .ENC_STAT]

/-- The fields of the CAM_ registers. -/
def fldsCAM : List Fld := [
  .CAM_PORT_CFG_LANES_M1, .CAM_PORT_CFG_ENABLE, .CAM_PORT_ERR_ECC_FIX, .CAM_PORT_ERR_HDR_DROP, 
  .CAM_PORT_ERR_CRC_ERR, .CAM_PORT_ERR_UNSOLICITED, .CAM_PORT_DROP_DT_DROP, .CAM_PORT_DROP_OVERRUN, 
  .CAM_INLINE_PORT, .CAM_INLINE_EN, .CAM_PIPE_STAT_SLICES, .CAM_PIPE_STAT_QUEUE, .CAM_CTX_SRC_PORT, 
  .CAM_CTX_SRC_VC, .CAM_CTX_SRC_DT, .CAM_CTX_SIZE_W, .CAM_CTX_SIZE_H, .CAM_CTX_CFG_CFA, .CAM_CTX_CFG_OUT_FMT, 
  .CAM_CTX_CFG_RAW_KEEP, .CAM_CTX_CFG_TIMEOUT_MS, .CAM_CTX_BLACK_B_LO, .CAM_CTX_BLACK_B_HI, 
  .CAM_CTX_CCM_C_LO, .CAM_CTX_CCM_C_HI, .CAM_CTX_BUF_BASE_MB, .CAM_CTX_BUF_COUNT, .CAM_CTX_BUF_BUF_MB, 
  .CAM_STREAK_X_LO, .CAM_STREAK_X_HI, .CAM_STREAK_Y_LO, .CAM_STREAK_Y_HI, .CAM_STREAK_CFG_AXIS, 
  .CAM_STREAK_CFG_HALF, .CAM_STREAK_CFG_STREAK_W, .CAM_POOL_POOL_THR, .CAM_POOL_LIM_AREA_MIN, 
  .CAM_POOL_LIM_AREA_MAX, .CAM_CTX_STAT_ACTIVE, .CAM_CTX_STAT_SHORT_ANY, .CAM_CTX_STAT_LONG_ANY, 
  .CAM_CTX_STAT_DROPPED, .CAM_CTX_STAT_CFG_REJ, .CAM_CTX_STAT_POOL_OUT_CNT, .CAM_CTX_LAST_METRIC, 
  .CAM_CTX_LAST_LINES]

/-- The registers of the CAM_ block. -/
def regsCAM : List Reg := [
  .CAM_PORT_CFG, .CAM_PORT_ERR, .CAM_PORT_DROP, .CAM_INLINE, .CAM_PIPE_STAT, .CAM_CTX_SRC, 
  .CAM_CTX_SIZE, .CAM_CTX_CFG, .CAM_CTX_BLACK, .CAM_CTX_CCM, .CAM_CTX_BUF, .CAM_STREAK_X, .CAM_STREAK_Y, 
  .CAM_STREAK_CFG, .CAM_POOL, .CAM_POOL_LIM, .CAM_CTX_STAT, .CAM_CTX_LAST]

/-- The fields of the TIM_ registers. -/
def fldsTIM : List Fld := [
  .TIM_CTL_PTP_EN, .TIM_CTL_GM_CAPABLE, .TIM_CTL_SLAVE_ONLY, .TIM_CTL_DOMAIN, .TIM_CTL_PRIORITY1, 
  .TIM_CTL_PRIORITY2, .TIM_PTP_CFG_LOG_SYNC, .TIM_PTP_CFG_LOG_PDELAY, .TIM_PTP_CFG_LOG_ANNOUNCE, 
  .TIM_PTP_CFG_CLOCK_CLASS, .TIM_SERVO_KP, .TIM_SERVO_KI, .TIM_LIMIT_STEP_NS, .TIM_LIMIT_LOCK, 
  .TIM_SLEW_SLEW_PPB, .TIM_STAT_STATE, .TIM_STAT_STEP_PENDING, .TIM_STAT_LOST, .TIM_STAT_CFG_REJ, 
  .TIM_STAT_SLAVE_PORT, .TIM_STAT_STEPS_REMOVED, .TIM_OFFSET_OFFSET, .TIM_RATE_PPB, .TIM_NOW_NS_VALUE, 
  .TIM_NOW_SEC_LO_VALUE, .TIM_NOW_SEC_HI_VALUE, .TIM_PORT_CFG_ASYM, .TIM_PORT_CFG_PTP_PORT_EN, 
  .TIM_PORT_DELAY_MEAN_DELAY, .TIM_PORT_DELAY_PORT_STATE, .TIM_PTP_CNT_DISCARDED, .TIM_PTP_CNT_SYNC_RX, 
  .TIM_IO_OWN_FUNC, .TIM_IO_OWN2_FUNC, .TIM_IO_POL_INVERT, .TIM_PULSE_STAT_MODE, .TIM_PULSE_STAT_ARMED, 
  .TIM_PULSE_STAT_LATE, .TIM_PULSE_STAT_SKIP, .TIM_CAP_STAT_STAMPS, .TIM_CAP_STAT_LOST]

/-- The registers of the TIM_ block. -/
def regsTIM : List Reg := [
  .TIM_CTL, .TIM_PTP_CFG, .TIM_SERVO, .TIM_LIMIT, .TIM_SLEW, .TIM_STAT, .TIM_OFFSET, .TIM_RATE, 
  .TIM_NOW_NS, .TIM_NOW_SEC_LO, .TIM_NOW_SEC_HI, .TIM_PORT_CFG, .TIM_PORT_DELAY, .TIM_PTP_CNT, 
  .TIM_IO_OWN, .TIM_IO_OWN2, .TIM_IO_POL, .TIM_PULSE_STAT, .TIM_CAP_STAT]

/-- The fields of the FAB_ registers. -/
def fldsFAB : List Fld := [
  .FAB_CFG_REQ_ID, .FAB_CFG_AUTO_ID, .FAB_CFG_JOIN_EN, .FAB_CFG_VID, .FAB_GROUP_BARRIER_GRP, 
  .FAB_TIMER_HELLO_US, .FAB_TIMER_KEEP_MISS, .FAB_TIMER_ROUTE_MS, .FAB_TIMER_CLAIM_MS, .FAB_SHAPE_BULK_PCT, 
  .FAB_SHAPE_LEAVE_US, .FAB_STAT_ID, .FAB_STAT_STATE, .FAB_STAT_ID_CONFLICT, .FAB_STAT_CFG_REJ, 
  .FAB_STAT_MAX_DIST, .FAB_PORT_CFG_MODE, .FAB_PORT_CFG_SHORT, .FAB_PORT_CFG_FEC, .FAB_PORT_CFG_AN_EN, 
  .FAB_PORT_CFG_TXEQ_PRE, .FAB_PORT_CFG_TXEQ_POST, .FAB_PORT_CFG_TXEQ_AMP, .FAB_PORT_STAT_LINK_UP, 
  .FAB_PORT_STAT_RX_LOCK, .FAB_PORT_STAT_NBR_KNOWN, .FAB_PORT_STAT_HOLD, .FAB_PORT_STAT_NBR_LOST, 
  .FAB_PORT_STAT_NBR_ID, .FAB_PORT_CNT_RX_BAD, .FAB_PORT_CNT_RELOCKS, .FAB_PORT_MAC_LO_MAC, 
  .FAB_PORT_MAC_HI_MAC, .FAB_DROP_NOROUTE, .FAB_DROP_HOPS_EXC, .FAB_DROP_DUPLICATE, .FAB_DROP_NOTICE_DISC, 
  .FAB_ROUTE_MASK, .FAB_ROUTE_DIST, .FAB_ROUTE_LEFT]

/-- The registers of the FAB_ block. -/
def regsFAB : List Reg := [
  .FAB_CFG, .FAB_GROUP, .FAB_TIMER, .FAB_SHAPE, .FAB_STAT, .FAB_PORT_CFG, .FAB_PORT_STAT, .FAB_PORT_CNT, 
  .FAB_PORT_MAC_LO, .FAB_PORT_MAC_HI, .FAB_DROP, .FAB_ROUTE]

/-- The fields of the HNG_ registers. -/
def fldsHNG : List Fld := [
  .HNG_CFG_PARTNER_ID, .HNG_CFG_PAIR_EN, .HNG_CFG_PREFER, .HNG_RESTART_TAPER_UM, .HNG_PATHB_DLY_DLY, 
  .HNG_STAT_STATE, .HNG_STAT_ELIGIBLE, .HNG_STAT_PATH_A_UP, .HNG_STAT_PATH_B_UP, .HNG_STAT_ALARM, 
  .HNG_STAT_FENCE_IN, .HNG_STAT_OWN_IN, .HNG_STAT_FENCE_FAIL, .HNG_STAT_TIME_ERR, .HNG_STAT_REASON, 
  .HNG_HEALTH_HEALTH_OK, .HNG_HEALTH_BIST_FAIL, .HNG_HEALTH_SCRUB_UNCORR, .HNG_HEALTH_LINK_FAIL, 
  .HNG_HEALTH_TIME_ERR, .HNG_HEALTH_LAST_ISLAND, .HNG_HEALTH_REPORTS, .HNG_PEER_HEALTH_HEALTH_OK, 
  .HNG_PEER_HEALTH_BIST_FAIL, .HNG_PEER_HEALTH_SCRUB_UNCORR, .HNG_PEER_HEALTH_LINK_FAIL, .HNG_PEER_HEALTH_TIME_ERR, 
  .HNG_PEER_HEALTH_LAST_ISLAND, .HNG_PEER_HEALTH_REPORTS, .HNG_CNT_MIRROR_MISS, .HNG_CNT_SWITCHOVERS, 
  .HNG_CNT_GAP_CYC]

/-- The registers of the HNG_ block. -/
def regsHNG : List Reg := [
  .HNG_CFG, .HNG_RESTART, .HNG_PATHB_DLY, .HNG_STAT, .HNG_HEALTH, .HNG_PEER_HEALTH, .HNG_CNT]

/-- The fields of the REC_ registers. -/
def fldsREC : List Fld := [
  .REC_CFG_PEER_ACCEPT, .REC_STAT_LOG_DEGRADED, .REC_STAT_FULL, .REC_STAT_SCANNING, .REC_STAT_BAD_BLOCKS, 
  .REC_STAT_QUEUED, .REC_BAD_LO_MAP, .REC_BAD_HI_MAP, .REC_OPSEC_OP_SEC, .REC_PCYC_PCYC, .REC_PCYC_SUBSEC, 
  .REC_DROP_LO, .REC_DROP_HI, .REC_PEER_CNT_STORED, .REC_PEER_CNT_DISCARDED]

/-- The registers of the REC_ block. -/
def regsREC : List Reg := [
  .REC_CFG, .REC_STAT, .REC_BAD_LO, .REC_BAD_HI, .REC_OPSEC, .REC_PCYC, .REC_DROP, .REC_PEER_CNT]

/-- The fields of the DRM_ registers. -/
def fldsDRM : List Fld := [
  .DRM_CFG_PRESENT, .DRM_CFG_DEV, .DRM_CFG_RATE, .DRM_CFG_ORDER, .DRM_CFG_ILV, .DRM_CFG_SIZE_GB, 
  .DRM_GEOM_COL_BITS, .DRM_GEOM_BG_BITS, .DRM_GEOM_BA_BITS, .DRM_GEOM_ROW_BITS, .DRM_STAT_IN_SERVICE, 
  .DRM_STAT_TRAINING, .DRM_STAT_DRIFT, .DRM_STAT_RT_FAIL, .DRM_STAT_DEV_HOT, .DRM_STAT_FALLBACK, 
  .DRM_ECC_CORR, .DRM_ECC_UNCORR, .DRM_ECC_ADDR_BURST, .DRM_SCHED_WQ_LOW, .DRM_SCHED_WQ_HIGH, 
  .DRM_SCHED_AGE_NS, .DRM_MAINT_SCRUB_H, .DRM_MAINT_RETRAIN_DC, .DRM_MAINT_RETRAIN_LAYERS, 
  .DRM_MAINT_DRIFT_MAX, .DRM_TMO_CMD_US]

/-- The registers of the DRM_ block. -/
def regsDRM : List Reg := [
  .DRM_CFG, .DRM_GEOM, .DRM_STAT, .DRM_ECC, .DRM_ECC_ADDR, .DRM_SCHED, .DRM_MAINT, .DRM_TMO]

/-- The fields of the THM_ registers. -/
def fldsTHM : List Fld := [
  .THM_CFG_GRACE_DS, .THM_STAT_STATE, .THM_STAT_STOP_SEEN, .THM_STAT_BROKEN_ANY, .THM_STAT_FAST, 
  .THM_STAT_CFG_REJ, .THM_STAT_T_MAX, .THM_CNT_ENFORCES, .THM_CNT_STOPS, .THM_TEMP_TEMP, .THM_TEMP_BROKEN, 
  .THM_TEMP_ISLAND, .THM_GOV_LEVEL, .THM_GOV_FLOOR]

/-- The registers of the THM_ block. -/
def regsTHM : List Reg := [
  .THM_CFG, .THM_STAT, .THM_CNT, .THM_TEMP, .THM_GOV]

/-- The fields of the CAL_ registers. -/
def fldsCAL : List Fld := [
  .CAL_CFG_AUTO_COPY, .CAL_STAT_COVER32, .CAL_STAT_COVER33, .CAL_STAT_QUEUED, .CAL_STAT_TC_FAIL, 
  .CAL_SERIAL_LO_SERIAL, .CAL_SERIAL_HI_SERIAL, .CAL_TAP_MAP_TAP, .CAL_TAP_REF_T_CAL, .CAL_TAP_REF_TC, 
  .CAL_GATE_LAT_LAT_PS, .CAL_GATE_LAT_SLOPE, .CAL_ADC_CELL_CELL0, .CAL_ADC_CELL_USE0, .CAL_ADC_CELL_CELL1, 
  .CAL_ADC_CELL_USE1, .CAL_ADC_REF_SEG, .CAL_ADC_REF_TC, .CAL_SENSOR_OFFSET, .CAL_SENSOR_GAIN, 
  .CAL_DOWEL_DELAY, .CAL_DOWEL_TC, .CAL_IMG_CRC_CRC]

/-- The registers of the CAL_ block. -/
def regsCAL : List Reg := [
  .CAL_CFG, .CAL_STAT, .CAL_SERIAL_LO, .CAL_SERIAL_HI, .CAL_TAP_MAP, .CAL_TAP_REF, .CAL_GATE_LAT, 
  .CAL_ADC_CELL, .CAL_ADC_REF, .CAL_SENSOR, .CAL_DOWEL, .CAL_IMG_CRC]

/-- The fields of the MGT_ registers. -/
def fldsMGT : List Fld := [
  .MGT_STAT_BOOT_DONE, .MGT_STAT_RECOVERY, .MGT_STAT_SLOT_NOW, .MGT_STAT_BOOT_SLOT, .MGT_STAT_FALLBACK, 
  .MGT_STAT_UPD_BUSY, .MGT_STAT_FETCH_ADJ, .MGT_STAT_CFG_REJ, .MGT_STAT_HOSTQ_LOST, .MGT_STAT_MIN_SVN, 
  .MGT_FW_VERSION, .MGT_FW_SVN, .MGT_FW_VALID, .MGT_TMO_FETCH_MS, .MGT_TMO_POLL_FAIL_MAX, .MGT_TMO_VNR_MISS_MAX, 
  .MGT_TMO_CAM_TMO_MAX, .MGT_LAST_UNIT, .MGT_LAST_KIND, .MGT_UNIT_IN_SERVICE, .MGT_UNIT_OUT_HOST, 
  .MGT_UNIT_TEST_FAIL, .MGT_UNIT_COVER, .MGT_UNIT_FAULTS]

/-- The registers of the MGT_ block. -/
def regsMGT : List Reg := [
  .MGT_STAT, .MGT_FW, .MGT_TMO, .MGT_LAST, .MGT_UNIT]

/-- The blocks of R450: base, first address past the block, registers, fields. -/
def regBlocks : List (Nat × Nat × List Reg × List Fld) := [
  (0x0, 0x10000, regsSYS, fldsSYS),
  (0x10000, 0x20000, regsHIF, fldsHIF),
  (0x20000, 0x30000, regsWIN, fldsWIN),
  (0x30000, 0x40000, regsINT, fldsINT),
  (0x40000, 0x50000, regsENG, fldsENG),
  (0x50000, 0x60000, regsCOR, fldsCOR),
  (0x60000, 0x80000, regsSCF, fldsSCF),
  (0x80000, 0x90000, regsKRF, fldsKRF),
  (0x90000, 0xa0000, regsMPL, fldsMPL),
  (0xa0000, 0xb0000, regsGRN, fldsGRN),
  (0xb0000, 0xc0000, regsVNR, fldsVNR),
  (0xc0000, 0xd0000, regsVDR, fldsVDR),
  (0xd0000, 0xe0000, regsAX, fldsAX),
  (0xe0000, 0xf0000, regsENC, fldsENC),
  (0xf0000, 0x100000, regsCAM, fldsCAM),
  (0x100000, 0x110000, regsTIM, fldsTIM),
  (0x110000, 0x120000, regsFAB, fldsFAB),
  (0x120000, 0x130000, regsHNG, fldsHNG),
  (0x130000, 0x140000, regsREC, fldsREC),
  (0x140000, 0x150000, regsDRM, fldsDRM),
  (0x150000, 0x160000, regsTHM, fldsTHM),
  (0x160000, 0x170000, regsCAL, fldsCAL),
  (0x170000, 0x180000, regsMGT, fldsMGT)]

end Sys2Proof.Machine
end

