-- ==== Sys2Proof/Machine/State.lean ====
section
/-! DEFINITION. The state of the block: every register field, FIFO, buffer, counter, mode and pin the spec gives it, as
plain data; the queue of waiting commands; the reasons a step can stop; the state after reset. -/

namespace Sys2Proof.Machine

open Sys2Proof

/-! ### Registers -/

/-- One register field instance that holds something other than its reset value. -/
structure RegCell where
  fld : Fld
  i : Nat
  j : Nat
  val : Nat
  deriving DecidableEq, Repr

/-! ### Descriptors in the device -/

/-- Where a staged descriptor stands between its fetch and its completion (R77, R78, R84, R100, R479). -/
inductive JobStatus where
  /-- In DRAM staging, pointed data not yet staged. -/
  | staged
  /-- Dispatched to its target's queue, a place in HOST reserved (R84). -/
  | dispatched
  /-- Taken by its target (R76): its operation may execute. -/
  | taken
  /-- In execution by its target. -/
  | executing
  /-- Completed; kept only for the replay of R53 and R54 (R100). -/
  | replayable
  deriving DecidableEq, Repr

/-- A fetched descriptor (R72 to R75): its words as staged, and how far it has come. -/
structure Job where
  /-- Serial number in fetch order. -/
  id : Nat
  fn : Nat
  ring : Nat
  /-- First slot of the descriptor in its ring. -/
  slot : Nat
  /-- Word 0, the payload words and the unused words of the last slot. -/
  words : List Gran
  /-- Data read from the descriptor's host pointer (R100); none until staged. -/
  data : Option (List Gran) := none
  status : JobStatus := .staged
  /-- Lowest completion code that applies so far (R86). -/
  code : Option Nat := none
  /-- Some part of it has executed (R107). -/
  partly : Bool := false
  /-- Phase that a LAYER_MARK assigned (R45, R479). -/
  phase : Option Nat := none
  /-- Records, frames or slots of it already handed to its target. -/
  progress : Nat := 0
  /-- Device time at which its target started it. -/
  started : Nat := 0
  /-- Its pointed data was asked for, in `run` quanta (R441 kinds 2 and 4). -/
  asked : Nat := 0
  /-- It is a replay of R53 or R54 and writes no completion entry (R480). -/
  replay : Bool := false
  /-- Its function's registers have been reset: its completion is dropped and counted (R431). -/
  orphan : Bool := false
  deriving DecidableEq, Repr

/-- A completion entry waiting in HOST (R80, R83). -/
structure CplEntry where
  /-- Serial number of the descriptor: the slot order within its ring. -/
  id : Nat
  cq : Nat
  ring : Nat
  slot : Nat
  sequence : Nat
  status : Nat
  opcode : Nat
  target : Nat
  irq : Bool
  /-- Completion time, device time in quanta. -/
  time : Nat
  deriving DecidableEq, Repr

/-- One submission ring as HOST holds it (R62, R66). -/
structure SqState where
  /-- Fetch index, shown as SQ_CI. -/
  fetch : Nat := 0
  /-- Producer index as last read. -/
  pi : Nat := 0
  /-- Slots requested and not yet arrived, and when they were asked for, in `run` quanta. -/
  outstanding : Nat := 0
  asked : Nat := 0
  /-- The producer index at which its next descriptor was found to lack slots: its fetching waits for another (R75). -/
  short : Option Nat := none
  deriving DecidableEq, Repr

/-- One completion ring, or the event ring, as HOST holds it (R62, R81, R376). -/
structure CqState where
  /-- Next entry position: CQ_PI or EVQ_PI. -/
  pos : Nat := 0
  phase : Bool := true
  /-- Consumer index as last read. -/
  ci : Nat := 0
  deriving DecidableEq, Repr

/-- What the device holds for one host function beside its registers. -/
structure HostFn where
  /-- Bus Master Enable of the function (R91). -/
  busMaster : Bool := false
  /-- Max_Read_Request_Size in bytes (R68). -/
  maxReadReq : Nat := 512
  sq : Tab SqState := []
  cq : Tab CqState := []
  evq : CqState := {}
  /-- HOST_STATE as last acted on (R67). -/
  hostState : Nat := 0
  /-- ACK words read at the previous poll (R375). -/
  ack : Tab Nat := []
  /-- A poll's read requests are outstanding (R68). -/
  polling : Bool := false
  /-- Start of the last poll, in `run` quanta (R69). -/
  lastPoll : Nat := 0
  /-- Consecutive failed polls (R441 kind 3). -/
  pollFails : Nat := 0
  /-- Ring last served at each priority, for the round robin of R79. -/
  lastRing : Tab Nat := []
  /-- Slots fetched in the present turn of the ring last served (R79). -/
  turn : Nat := 0
  /-- Completion entries waiting in HOST, in completion order (R83). -/
  waiting : List CplEntry := []
  /-- Other writes to host memory waiting in HOST, address and bytes, oldest first (R37, R91). -/
  held : List (Nat × List Byte) := []
  /-- Read requests of the poll under way, address and bytes (R68). -/
  pollReads : List (Nat × Nat) := []
  /-- Start of the freeze in progress, in `run` quanta (R106). -/
  frozenAt : Nat := 0
  /-- The freeze has reached the islands (R106 step 2). -/
  noticed : Bool := false
  /-- 10 µs into the freeze have been acted on (R106 step 3). -/
  gatesForced : Bool := false
  /-- The offending descriptor of the freeze, if one (R107). -/
  offender : Option Nat := none
  /-- A function-level reset waits for SAFE (R430). -/
  flr : Bool := false
  /-- The function was frozen by a violation before a function-level reset (R430). -/
  byViolation : Bool := false
  deriving DecidableEq, Repr

/-! ### Interrupts and records -/

/-- An event source beside its INT_SRC_STAT fields (R369, R370). -/
structure SrcState where
  /-- Instant of the first pending occurrence. -/
  first : Nat := 0
  /-- The same instant in the time that no correction changes, from which moderation counts (R373). -/
  firstRun : Nat := 0
  /-- Vector in force for the source (R369). -/
  vector : Nat := 0
  /-- Occurrences that the entry which made it active delivered. -/
  delivered : Nat := 0
  /-- DETAIL of the first pending occurrence of a forwarded source (R377). -/
  detail : Nat := 0
  /-- Function of the entry that made it active (R375). -/
  taker : Nat := 0
  deriving DecidableEq, Repr

/-- A vector beside its INT_VEC_ fields (R371 to R374). -/
structure VecState where
  /-- Address and data of the MSI-X table entry (R451). -/
  msgAddr : Nat := 0
  msgData : Nat := 0
  /-- MSI-X table entry masked (R372). -/
  masked : Bool := true
  /-- Pending bit of the pending-bit array. -/
  pba : Bool := false
  /-- Instant of the last message, in the time that no correction changes (R373). -/
  lastMsg : Nat := 0
  /-- Messages sent. -/
  messages : Nat := 0
  /-- Its moderation interval has expired (R373). -/
  expired : Bool := false
  /-- INT_VEC_CFG in force: it is latched while the vector is not active (R381). -/
  prio : Nat := 15
  minIntUs : Nat := 0
  countThr : Nat := 1
  deriving DecidableEq, Repr

/-- A recorder record before it is encoded (R382). -/
structure Rec where
  code : Nat
  sev : Nat
  /-- The 13-bit SOURCE field. -/
  source : Nat
  opSec : Nat := 0
  pcyc : Nat := 0
  subsec : Nat := 0
  p0 : Nat := 0
  p1 : Nat := 0
  p2 : Nat := 0
  p3 : Nat := 0
  deriving DecidableEq, Repr

/-- The embedded MRAM: what survives power loss (R2, R384, R389, R436). -/
structure Mram where
  /-- The 49,152 log slots; an unlisted slot is all zero (R383). -/
  log : Tab Nat := []
  /-- The two copies of the bad-block map (R389). -/
  badA : Nat := 0
  badB : Nat := 0
  /-- The two OP_SEC words (R384). -/
  opSecA : Nat := 0
  opSecB : Nat := 0
  pcyc : Nat := 0
  /-- The two boot configuration copies and their generation counts (R436). -/
  boot1 : BootCfg := {}
  boot2 : BootCfg := {}
  gen1 : Nat := 0
  gen2 : Nat := 0
  /-- Identity fixed at manufacture (R458). -/
  serial : Nat := 0
  clkId : Nat := 0
  mac : Nat := 0
  deriving DecidableEq, Repr

/-- The recorder's volatile state (R385 to R391). -/
structure Recorder where
  /-- Slot after the last write (R386). -/
  nextSlot : Nat := 0
  /-- Records waiting for MRAM, oldest first, at most 256 (R387). -/
  queue : List Rec := []
  /-- Mirrored records waiting in HOST, oldest first, at most 64 (R377, R388). -/
  mirror : List Nat := []
  /-- The volatile ring of the last 64 records while degraded (R390). -/
  vring : List Nat := []
  /-- Ring slot of its next record. -/
  vnext : Nat := 0
  /-- Operating time at `run` = 0, in quanta: the larger OP_SEC word plus 60 s (R384). -/
  opBase : Nat := 15360000000000
  /-- Which OP_SEC word the next save writes. -/
  opAlt : Bool := false
  deriving DecidableEq, Repr

/-! ### Islands and units -/

/-- One island beside its SYS_ISL_ registers (R17, R18, R27, R30). -/
structure Island where
  /-- The frequency that the clock generator relocks to, 0 when none; a change is due once that relock ends (R18). -/
  pendingMhz : Nat := 0
  again : Bool := false
  /-- The replica of device time (R25): its reading in quanta at the last correction, the `run` instant of that correction,
  and the rate correction in ppb at which it has advanced since (R27, R30). -/
  replica : Int := 0
  replicaAt : Nat := 0
  replicaRate : Int := 0
  /-- Out of service or returning: the replica has not yet shown an offset within 0.5 ns, and no island sends it work (R38). -/
  resync : Bool := false
  /-- Last dowel pulse received, in `run` quanta (R30). -/
  lastDowel : Nat := 0
  /-- Self-test of the unit in progress (R438). -/
  testing : Bool := false
  /-- A fault is being handled: a second one is counted only (R447). -/
  faulted : Bool := false
  /-- Standby self-test passed last time (R364). -/
  bistOk : Bool := true
  deriving DecidableEq, Repr

/-! ### The layer -/

/-- The open layer as LAYER_OPEN gave it and as it has run (R43 to R59). -/
structure Layer where
  /-- Descriptor of the LAYER_OPEN in its boundary window. -/
  openJob : Option Nat := none
  /-- A layer has been opened since reset (R44). -/
  everOpened : Bool := false
  minDwellUs : Nat := 0
  replayAxes : Nat := 0
  repeatMax : Nat := 0
  streakLimit : Nat := 0
  streakCtx : Nat := 0
  tileMask : Nat := 0
  engineMask : Nat := 0
  axisMask : Nat := 0
  ctxMask : Nat := 0
  /-- Epoch in device-time quanta (R49). -/
  epoch : Nat := 0
  /-- The epoch sweep, the frequency changes and the retraining of the boundary window still running (R49). -/
  sweeping : Bool := false
  retraining : Nat := 0
  /-- Per resource target code, the highest phase whose mark counts as taken plus 1 (R41, R45). -/
  marksTaken : Tab Nat := []
  /-- Per resource target code, the phase of the last mark that reached its queue plus 1 (R45). -/
  marksSet : Tab Nat := []
  /-- LAYER_CLOSE of the layer, once taken (R46). -/
  closeJob : Option Nat := none
  closeTaken : Bool := false
  /-- End of the last EXPOSE, in `run` quanta (R56). -/
  exposeEnd : Nat := 0
  everExposed : Bool := false
  /-- Replays of invalid frames in the present check (R53). -/
  replays : Nat := 0
  /-- The layer ends without exposure (R55). -/
  dark : Bool := false
  /-- OWNER_FUNC was frozen while the layer was open (R109). -/
  ownerFrozen : Bool := false
  /-- Engines whose function was frozen in this layer: they take part again from the next LAYER_OPEN (R113). -/
  outEngines : Nat := 0
  /-- Mid-layer rebase requested, and its sweep running (R51). -/
  rebase : Bool := false
  rebaseSweep : Bool := false
  /-- Barrier-ready messages held: device, layer, ready instant (R57). -/
  ready : List (Nat × Nat × Nat) := []
  /-- Devices that are no members by themselves: heard with another GROUP (R349), or the former half of a pair (R58, R363). -/
  others : List Nat := []
  /-- The former active has sent the pair's ready message for this layer (R363). -/
  readySent : Bool := false
  /-- Entry into the barrier wait and the computed release (R57). -/
  waitSince : Nat := 0
  release : Option Nat := none
  /-- Reminders recorded in the present wait (R59). -/
  reminders : Nat := 0
  /-- Device time of the last barrier release (R44). -/
  released : Nat := 0
  deriving DecidableEq, Repr

/-! ### Messages to other devices -/

/-- A fabric message waiting for its launch (R336, R341, R342). -/
structure FabMsg where
  /-- KIND of R342. -/
  kind : Nat
  /-- Destination device; ignored for a broadcast. -/
  dst : Nat := 0
  bcast : Bool := false
  /-- The one port it leaves by, for the kinds that cross one link. -/
  port : Option Nat := none
  payload : List Gran := []
  /-- Launch time: device time before which it does not start (R336). -/
  launch : Nat := 0
  /-- Device time at which it was queued: its rank when LAUNCH is 0 (R352). -/
  entered : Nat := 0
  /-- SEQ of the frame. -/
  seq : Nat := 0
  /-- Originating device of a transit frame; none for an own frame. -/
  src : Option Nat := none
  /-- HOPS it is sent with, MORE, and its traffic class when it is a transit frame. -/
  hops : Nat := 1
  more : Bool := false
  tc : Option Nat := none
  /-- Ports a broadcast has gone out by, and the one it came in by, as a mask. -/
  gone : Nat := 0
  deriving DecidableEq, Repr

/-! ### DRAM -/

/-- A request in a channel's queue (R399, R400). -/
structure DramReq where
  write : Bool
  cls : Nat
  /-- Channel address divided by 64. -/
  burst : Nat
  data : List Byte := []
  /-- Arrival, in `run` quanta. -/
  at' : Nat := 0
  deriving DecidableEq, Repr

/-- One DRAM channel beside its DRM_ registers (R399 to R405). -/
structure DramChan where
  readQ : List DramReq := []
  writeQ : List DramReq := []
  /-- A batch of writes is draining (R399). -/
  draining : Bool := false
  /-- Open row plus 1, by subchannel × 32 + bank. -/
  openRow : Tab Nat := []
  /-- Refreshes postponed, by subchannel × 32 + bank (R401). -/
  postponed : Tab Nat := []
  /-- Last refresh-rate code of each subchannel. -/
  rateCode : Tab Nat := []
  /-- Next burst of the patrol scrub (R403). -/
  scrub : Nat := 0
  /-- Layers since the last training, and the temperature at it in 1/16 °C (R405). -/
  layers : Nat := 0
  trainTemp : Int := 0
  /-- DQS oscillator drift reached its limit (R405). -/
  drifted : Bool := false
  /-- Consecutive failed retrainings. -/
  failures : Nat := 0
  /-- Last data returned to a client and whether it was poisoned. -/
  lastRead : List Byte := []
  poisoned : Bool := false
  deriving DecidableEq, Repr

/-! ### Temperature -/

/-- One sensor beside THM_TEMP (R408, R409). -/
structure Sensor where
  sampled : Bool := false
  raw : Int := 0
  reading : Int := 0
  /-- Consecutive samples with the same raw code, and the neighbours' readings when that run began. -/
  same : Nat := 0
  base : List Int := []
  /-- In the sample that finds the sensor broken, the reading before it (R409, R416). -/
  last : Option Int := none
  deriving DecidableEq, Repr

/-- Device-level thermal state beside the THM_ registers (R411 to R414). -/
structure Thermal where
  /-- Entry into SLOW_REQ, in `run` quanta. -/
  slowSince : Nat := 0
  /-- Neighbour pairs whose GRADIENT is raised and not yet re-armed (R32). -/
  gradients : List (Nat × Nat) := []
  /-- Islands whose governor has already recorded reaching level 0 (R411). -/
  floored : List Nat := []
  deriving DecidableEq, Repr

/-! ### Calibration -/

/-- What a unit is calibrated for (R424), or a fault or the standby's rotation (R423). -/
inductive CalKind where
  | taps | bist | slice | lag | fault
  deriving DecidableEq, Repr

/-- A request for cover or calibration (R423). -/
structure CalReq where
  kind : CalKind
  /-- Unit of R439: engine n, or 49 + slice. -/
  unit : Nat
  job : Option Nat := none
  /-- 0 fault cover, 1 calibration, 2 standby rotation (R423). -/
  rank : Nat := 1
  deriving DecidableEq, Repr

/-- How far a cover has come (R421, R422). -/
inductive CoverPhase where
  | free | copying | ready | active
  deriving DecidableEq, Repr

/-- A covering shim engine or spare slice: 0 engine 32, 1 engine 33, 2 slice 32, 3 slice 33 (R421). -/
structure Cover where
  phase : CoverPhase := .free
  req : Option CalReq := none
  /-- The channel covered. -/
  ch : Nat := 0
  deriving DecidableEq, Repr

/-- Calibrations waiting, covers, and values waiting for their boundary (R417 to R424). -/
structure Calib where
  waiting : List CalReq := []
  covers : Tab Cover := []
  /-- Calibrations under way. -/
  running : List CalReq := []
  /-- Finished calibrations waiting for their new values or for cover to end. -/
  ending : List CalReq := []
  /-- New values not yet in force (R420). -/
  fresh : List RegCell := []
  /-- Measured tap delays in ps, per engine (R418, R419). -/
  delays : Tab (List Int) := []
  deriving DecidableEq, Repr

/-! ### Host link, management, clocks -/

/-- The request that a mover of STAGE carries (R99 to R102): ring slots of a function, or the pointed data of a descriptor. -/
structure Mover where
  fn : Nat
  ring : Option Nat := none
  job : Nat := 0
  /-- Read requests outstanding, and those it has still to issue (R102). -/
  reads : Nat := 0
  left : Nat := 0
  deriving DecidableEq, Repr

/-- PCI Express state that no register shows (R89, R431, R441). -/
structure Pcie where
  vfEnable : Bool := false
  numVfs : Nat := 0
  /-- Requester ID, counted from function 0's, of the last write to host memory (R90). -/
  requester : Nat := 0
  /-- PERST_n is low. -/
  perst : Bool := false
  /-- The host has configured the device since PERST_n or reset (R431). -/
  configured : Bool := false
  /-- Completion Timeout Value in force, in quanta (R441). -/
  cplTimeout : Nat := 2560000000
  deriving DecidableEq, Repr

/-- The management controllers and the firmware update (R434 to R437, R441, R445). -/
structure Mgmt where
  /-- MGMT_EN input (R445). -/
  mgmtEn : Bool := true
  /-- The device is in reset: RESET_n low or internal reset (R428). -/
  inReset : Bool := true
  /-- Cause of the last reset: 0 power-on, 1 pin. -/
  resetCause : Nat := 0
  /-- Descriptor of the update in progress (R435). -/
  update : Option Nat := none
  /-- Data of the last register read. -/
  readData : Nat := 0
  /-- Seconds and fraction snapshot of TIM_NOW (R331). -/
  timHi : Nat := 0
  timLo : Nat := 0
  /-- Reference clocks absent, and when SYS_REFCLK last returned, in `run` quanta (R470). -/
  absent : List Nat := []
  sysBack : Nat := 0
  deriving DecidableEq, Repr

/-- Levels of the device's input and output pins that other state does not hold. -/
structure Pins where
  /-- SAFE_STOP_n is low, GAS_OK is high, FENCE_IN_n is low, OWN_IN is high. -/
  safeStop : Bool := false
  gasOk : Bool := true
  fenceIn : Bool := false
  ownIn : Bool := false
  /-- FENCE_OUT_n is driven low, OWN is high. -/
  fenceOut : Bool := false
  own : Bool := false
  /-- RING_HOLD_A and RING_HOLD_B. -/
  ringHoldA : Bool := false
  ringHoldB : Bool := false
  deriving DecidableEq, Repr

/-! ### Scan engines (R116 to R138) -/

/-- A point of a path: machine X and Y in nm, focus offset Z in µm (R13, R116). -/
structure Pt where
  x : Int := 0
  y : Int := 0
  z : Int := 0
  deriving DecidableEq, Repr

/-- What the spot does on a piece of its planned path (R128 to R134). -/
inductive PieceKind where
  /-- JUMP, implicit move or park move. -/
  | off
  | leadIn
  /-- Straight exposing motion. -/
  | body
  /-- Half of a blended corner arc. -/
  | arc
  | leadOut
  /-- WAIT, a hold or a rest with the gate low. -/
  | rest
  /-- DWELL. -/
  | dwell
  deriving DecidableEq, Repr

/-- A timed piece of a planned path. Its speed changes from `v0` to `v1` by the profile of R128. -/
structure Piece where
  kind : PieceKind
  /-- Start instant and duration, in quanta. -/
  t0 : Nat
  dur : Nat
  p : Pt
  q : Pt
  /-- Length in nm, and arc position of its start from the record's start point (R155, R156). -/
  len : Nat := 0
  s0 : Int := 0
  /-- Speeds in nm/s, path acceleration in nm/s² and jerk in nm/s³. -/
  v0 : Nat := 0
  v1 : Nat := 0
  acc : Nat := 1
  jerk : Nat := 1
  /-- Centre of an arc and the sense of its turn. -/
  cx : Int := 0
  cy : Int := 0
  left : Bool := false
  /-- Serial number of the record it belongs to. -/
  ser : Nat := 0
  deriving DecidableEq, Repr

/-- Planner limits in force for a record (R126, R128 to R132), in register units. -/
structure Lims where
  amax : Nat := 4000
  jmax : Nat := 4000
  vmax : Nat := 4000
  vjump : Nat := 8000
  blend : Nat := 30
  tol : Nat := 2000
  tenon : Bool := true
  deriving DecidableEq, Repr

/-- A blended junction: speed at which its arc is passed, the distance cut from each segment, and the arc's radius (R130). -/
structure Corner where
  v : Nat
  cut : Nat
  radius : Nat
  deriving DecidableEq, Repr

/-- What stands in an engine FIFO: a record, or the place in the stream of an ENG_LIMITS or of a bank swap. -/
inductive EItem where
  | record (job : Nat) (w : Gran)
  | limits (job : Nat)
  | swap (job : Nat)
  deriving DecidableEq, Repr

/-- The share of a scarf vector that this channel exposes (R186 to R188, R193). -/
structure Share where
  zone : Nat
  vidx : Nat
  /-- Arc range exposed, from the whole vector's start point. -/
  lo : Nat
  hi : Nat
  /-- Length of the whole vector, split point and feather. -/
  len : Nat
  split : Nat
  feather : Nat
  /-- The partner's exposure is covered too (R193), from this arc position on when the partner stopped at a mark. -/
  union : Bool := false
  mark : Option Nat := none
  /-- This channel is the near partner (R187). -/
  near : Bool := true
  /-- It is a takeover pass: the partner's weights alone (R194). -/
  pass : Bool := false
  /-- The vector misses the strip: one partner exposes all of it (R186). -/
  miss : Bool := false
  deriving DecidableEq, Repr

/-- A record in the look-ahead (R116, R131). -/
structure LRec where
  ser : Nat
  job : Nat
  cls : Nat
  /-- Start and end point of the record; of the exposed share for a SCARF_HATCH. -/
  S : Pt
  E : Pt
  power : Nat := 0
  /-- SPEED as written: mm/s, or µs for DWELL and WAIT. -/
  speed : Nat := 0
  gate : Nat := 0
  ff : Bool := false
  reord : Bool := false
  exempt : Bool := false
  eob : Bool := false
  /-- END_X of a MARKER. -/
  marker : Nat := 0
  share : Option Share := none
  /-- Start and end of the whole vector of a SCARF_HATCH. -/
  VS : Pt := {}
  VE : Pt := {}
  /-- Executed with the gate low and power 0: SCARF_HATCH without its zone (R183), or a vector this channel exposes
  nothing of (R186). -/
  dark : Bool := false
  /-- ENG_LIMITS that governs it and has not yet taken effect (R126). -/
  limits : Option Nat := none
  /-- Checked against its correction bank (R177). -/
  checked : Bool := false
  /-- It is the remainder of a record from this arc position on (R164, R363), which is this position of its train. -/
  resume : Option Nat := none
  grid : Nat := 0
  /-- The junction after it is tenoned: the record behind it failed the field check (R177). -/
  ends : Bool := false
  deriving DecidableEq, Repr

/-- A record whose plan is final (R131, R138): the pieces before its body, its body up to the commit point of R135, and
its end for a blended and for a tenoned junction. -/
structure Plan where
  r : LRec
  /-- The limits it is planned with. -/
  lims : Lims := {}
  pre : List Piece := []
  body : List Piece := []
  endBlend : List Piece := []
  endTenon : List Piece := []
  /-- Motion after the record's end: the lead-out. -/
  out : List Piece := []
  /-- Markers and zero-length segments before it (R129). -/
  lead : List LRec := []
  /-- Length cut from its start by a corner, and the speed at which its body starts. -/
  cutIn : Nat := 0
  v0 : Nat := 0
  /-- Start of its motion, of its body, its commit point, in quanta. -/
  tMove : Nat
  tBody : Nat
  tCommit : Nat
  /-- The junction after it: not yet decided, blended, or tenoned; and the corner it is blended by, at the speed of its end. -/
  blended : Option Bool := none
  corner : Option Corner := none
  started : Bool := false
  /-- Its motion begins at rest; a train begins with it (R154). -/
  fromRest : Bool := true
  opens : Bool := false
  /-- The markers before it have been passed; the junction before it has been counted as tenoned at the horizon (R138). -/
  led : Bool := false
  counted : Bool := false
  deriving DecidableEq, Repr

/-- A stretch of the path under one gate mode and one parameter set (R154, R155). -/
structure Train where
  ser : Nat
  mode : Nat
  cls : Nat
  t0 : Nat
  /-- Its pieces so far, in path order. -/
  trace : List Piece := []
  /-- Its end instant, once known. -/
  tEnd : Option Nat := none
  /-- Next grid position (R157, R160): nm, or 78.125 ps. -/
  next : Nat := 0
  step : Nat := 1
  /-- BEHIND_MODE = 1 suppresses the rest (R163). -/
  hold : Bool := false
  /-- Continuous mode: its pin rise has been placed, at this instant. -/
  risen : Bool := false
  pin : Nat := 0
  /-- Advances, MIN_OFF and WIDTH in quanta, LAST_MODE and BEHIND_MODE in force for it (R153). -/
  advOn : Nat := 0
  advOff : Nat := 0
  minOff : Nat := 0
  width : Nat := 0
  omits : Bool := false
  suppress : Bool := false
  deriving DecidableEq, Repr

/-- An optical high interval (R157, R482). -/
structure Light where
  rise : Nat
  fall : Option Nat
  cls : Nat
  /-- The pin rise that starts it. -/
  pin : Nat := 0
  deriving DecidableEq, Repr

/-- The gate of an engine's channel (R150 to R172). -/
structure Gate where
  train : Option Train := none
  /-- Pulsed trains that have ended with grid positions still to compare, oldest first (R160). -/
  olds : List Train := []
  /-- Earliest permitted pin rise (R162), in quanta; and the last pin fall placed. -/
  early : Nat := 0
  lastFall : Nat := 0
  /-- Pin edges placed and still to come, oldest first: instant and level. -/
  edges : List (Nat × Bool) := []
  /-- Recent optical intervals, newest first; an open one has no fall. -/
  light : List Light := []
  /-- A behind pulse has been recorded in this layer (R163). -/
  behindSeen : Bool := false
  /-- Forced low by a case of R151 until the record ends. -/
  forced : Bool := false
  deriving DecidableEq, Repr

/-- A channel link (R136 to R149), by channel. -/
structure ChLink where
  /-- SEQ of the next frame. -/
  seq : Nat := 0
  /-- Consecutive good frames with READY, and consecutive slots without a good one. -/
  good : Nat := 0
  bad : Nat := 0
  /-- A good return frame came in the present slot. -/
  answered : Bool := false
  /-- Setpoints X and Y last sent, newest first (R147). -/
  sent : List (Int × Int) := []
  /-- Consecutive slots with a following error in X and in Y. -/
  feX : Nat := 0
  feY : Nat := 0
  /-- The last outward frame word (R140, R141), and its characters as sent, control characters from 256 on (R139, R143). -/
  last : Nat := 0
  chars : List Nat := []
  /-- Binding or retraining began, in `run` quanta (R146). -/
  since : Nat := 0
  /-- Channel fault in force (R148). -/
  faulted : Bool := false
  deriving DecidableEq, Repr

/-- A correction bank (R174): its image, empty when it holds none. -/
structure Bank where
  image : List Byte := []
  valid : Bool := false
  deriving DecidableEq, Repr

/-- Correction state of an engine (R173 to R181, R481). -/
structure Corr where
  active : Bank := {}
  shadow : Bank := {}
  /-- COR_LOAD loading or checking. -/
  loading : Option Nat := none
  /-- Descriptor whose swap is pending, and whether it is due at the layer boundary. -/
  pending : Option Nat := none
  boundary : Bool := false
  /-- The record after which a swap of the stream stands (R179); none when the stream has not reached it. -/
  after : Option Nat := none
  deriving DecidableEq, Repr

/-- A SCARF_HATCH vector an engine retains (R194). -/
structure ScarfRec where
  zone : Nat
  vidx : Nat
  VS : Pt
  VE : Pt
  power : Nat
  speed : Nat
  gate : Nat
  ff : Bool
  started : Bool := false
  /-- The partner's part is covered: exposed with this channel's share, or owed as a pass. -/
  taken : Bool := false
  deriving DecidableEq, Repr

/-- A partner's absence in a zone (R190). -/
structure Absence where
  /-- Absent for every VIDX from here, with MARK_NM of the first; none when present. -/
  from' : Option Nat := none
  mark : Nat := 0xffffffff
  /-- Yielded vectors. -/
  yields : List Nat := []
  /-- Contact lost (R195); a later ABSENT notice is ignored (R197). -/
  lost : Bool := false
  /-- This channel is absent itself from here (R190, R195). -/
  selfFrom : Option Nat := none
  /-- Both absent has been recorded (R196). -/
  bothNoted : Bool := false
  deriving DecidableEq, Repr

/-- A takeover pass owed (R194). -/
structure Pass where
  zone : Nat
  vidx : Nat
  mark : Nat
  deriving DecidableEq, Repr

/-- The melt-pool loop of an engine (R214 to R231). -/
structure Loop where
  /-- End of the last two ticks with their class, s_fb and s_ff, newest first (R221, R228). -/
  ticks : List (Nat × Nat × Nat × Nat) := []
  /-- Recent frames: start, SP_POWER, class at x and which clamp of R214 acted (0 none, 1 P_MIN, 2 P_MAX; 3 where the power is not
  computed). -/
  frames : List (Nat × Nat × Nat × Nat) := []
  darkRun : Nat := 0
  satRun : Nat := 0
  /-- Cause of missing feedback by the row of R230; 0 when present. -/
  missing : Nat := 0
  /-- A missing feedforward has been recorded in this layer (R229). -/
  ffNoted : Bool := false
  /-- Remainder of the last deposit, in halves (R226), and one more than the `run` instant of the last tick that deposited. -/
  carry : Nat := 0
  deposited : Nat := 0
  /-- Both inputs were missing with BOTH_ACT = 1 (R231): fault at the record's end. -/
  bothFault : Bool := false
  /-- One more than the `run` instant at which the slice that serves it last changed (R237). -/
  changed : Nat := 0
  /-- Bounding box of deposits dropped while GRAIN was out (R232): least and greatest X and Y. -/
  dropBox : Option (Int × Int × Int × Int) := none
  deriving DecidableEq, Repr

/-- One scan engine beside its registers. -/
structure Engine where
  /-- FIFO of records staged (R101) and the stream's other items. -/
  fifo : List EItem := []
  look : List LRec := []
  /-- Descriptors taken whose records are not all in the FIFO, in order of taking (R101). -/
  stream : List Nat := []
  /-- Records whose plan is final, the one in progress first; and the last few that have ended, newest first. -/
  plans : List Plan := []
  past : List Plan := []
  /-- Where the spot rests when nothing is planned, and since when. -/
  spot : Pt := {}
  restAt : Nat := 0
  /-- End point and class of the last record that entered the look-ahead. -/
  tail : Pt := {}
  nextSer : Nat := 1
  /-- Limits of ENG_LIMITS descriptors still to take effect, oldest first, by descriptor (R126). -/
  newLims : List (Nat × Lims) := []
  /-- ENG_PARK or freeze park move in progress, and its descriptor. -/
  parking : Option (Option Nat) := none
  /-- Motion that belongs to no planned record: a lead-out still running, a park move. -/
  moves : List Piece := []
  /-- Descriptors that end with 0x0175 when the spot comes to rest (R177). -/
  outField : List Nat := []
  /-- Latest instant of the plan that an output has used (R138). -/
  horizon : Nat := 0
  /-- Rests of the spot up to this instant have been looked at (R137). -/
  looked : Nat := 0
  /-- The junction after the last record planned has been counted, tenoned at the horizon with no record behind it (R138). -/
  starved : Bool := false
  /-- Underrun of the present dry spell has been counted (R103). -/
  dry : Bool := false
  /-- A completion code to force on the descriptor in execution when its record ends (R170, R231, R353). -/
  endCode : Option Nat := none
  /-- Discard descriptors until the phase-3 mark (R148 step 5): 0x0251. -/
  discard : Bool := false
  /-- A reorderable unit is running (R207): serial of its last record; units run before the held record of a serial. -/
  unitEnd : Option Nat := none
  units : Nat := 0
  unitSer : Nat := 0
  gate : Gate := {}
  corr : Corr := {}
  /-- VIDX per zone (R184), and one more than the first vector per zone that was discarded with the engine's work (R192). -/
  vidx : Tab Nat := []
  cut : Tab Nat := []
  absences : Tab Absence := []
  passes : List Pass := []
  hist : List ScarfRec := []
  loop : Loop := {}
  /-- Device time at which the engine last advanced, in `run` quanta (R441 kind 5). -/
  advanced : Nat := 0
  deriving DecidableEq, Repr

/-! ### The kerf rule (R198 to R213) -/

/-- Where a request stands (R202 to R211). -/
inductive KStatus where
  | pending
  /-- Suspended while a reorderable unit runs (R207). -/
  | suspended
  /-- A band grant takes effect at the instant (R211). -/
  | arming (at' : Nat)
  /-- A claim (R201). -/
  | granted
  deriving DecidableEq, Repr

/-- A request or claim of a local engine. -/
structure KReq where
  eng : Nat
  ser : Nat
  cls : Nat
  x0 : Int
  y0 : Int
  x1 : Int
  y1 : Int
  /-- Request instant (R202), device time in quanta. -/
  inst : Nat
  status : KStatus := .pending
  starving : Bool := false
  /-- It is a takeover pass (R194). -/
  pass : Bool := false
  /-- Hold already counted in HOLDS. -/
  counted : Bool := false
  deriving DecidableEq, Repr

/-- A path received through the halo (R209). -/
structure HPath where
  dev : Nat
  eng : Nat
  cls : Nat
  /-- 0 CLAIM, 1 PENDING. -/
  kind : Nat
  x0 : Int
  y0 : Int
  x1 : Int
  y1 : Int
  /-- TS64 request instant. -/
  inst : Nat
  extra : Nat
  /-- Instant at which it was sent, device time in quanta; and whether it has made the engines here yield (R205, R209). -/
  sent : Nat := 0
  noted : Bool := false
  deriving DecidableEq, Repr

/-- KERF. -/
structure Kerf where
  reqs : List KReq := []
  halo : List HPath := []
  /-- Sets being received, oldest record first. -/
  incoming : List HPath := []
  /-- Last complete set of each peer, in `run` quanta, by peer index. -/
  lastSet : Tab Nat := []
  /-- Device whose set did not fit (R210), by peer index. -/
  overflow : List Nat := []
  /-- Peer frozen by this device: its PENDING paths are dropped (R212). -/
  frozen : List Nat := []
  /-- Last frame heard from each device, in `run` quanta (R195). -/
  heard : Tab Nat := []
  /-- Notices held while KERF is out of service (R37): source device and payload. -/
  notices : List (Nat × Nat) := []
  deriving DecidableEq, Repr

/-! ### The grain map (R223 to R237) -/

/-- GRAIN beside its registers. -/
structure Grain where
  /-- Cells by index: HEAT in [15:0], TICK in [31:16]; an unlisted cell is 0. -/
  cells : Tab Nat := []
  /-- Cells changed since the previous halo set, ascending. -/
  changed : List Nat := []
  /-- Increments outside the own box since the previous set. -/
  adds : Tab Nat := []
  /-- Next band cell of the rotating refresh. -/
  refresh : Nat := 0
  /-- A refusal of the requested table has been flagged (R225). -/
  refused : Bool := false
  /-- Last END of each peer, in `run` quanta, by peer index. -/
  lastEnd : Tab Nat := []
  /-- Cells whose stored word has an uncorrectable error that no reading has found yet (R229, R232). -/
  bad : List Nat := []
  deriving DecidableEq, Repr

/-! ### Veneer (R239 to R277) -/

/-- A slot's data as sent to a tile (R251, R254, R261, R262). -/
structure SlotData where
  job : Nat
  /-- The slot is the first of its frame. -/
  first : Bool := false
  /-- On-time word of every emitter, site after site, band slots in order: t of R261 or n of R262. -/
  words : List Nat := []
  /-- Sites with KERF_PART = 1 and nonzero energy (R256). -/
  parts : List Nat := []
  /-- Some mapped band value is not 0 (R254). -/
  emitting : Bool := false
  sig : Nat := 0
  /-- The rule of R255 that the signature failed; 0 for none; and whether it has been checked. -/
  failed : Nat := 0
  checked : Bool := false
  deriving DecidableEq, Repr

/-- A tile beside its VNR_ and VDR_ registers. -/
structure Tile where
  /-- VNR_ATTACH accepted or waiting for the link; slot 0 has not started. -/
  attachJob : Option Nat := none
  /-- Execution instant of the attach, in `run` quanta. -/
  attachAt : Nat := 0
  /-- VNR_DETACH in progress. -/
  detachJob : Option Nat := none
  /-- Start of slot 0 and of the present slot, in `run` quanta; none while no slot runs. -/
  slot0 : Option Nat := none
  start : Nat := 0
  /-- VENEER is out of service: slots restart at a blank slot 0 on its return (R441). -/
  reattach : Bool := false
  /-- Frames taken, in ring order (R251). -/
  queue : List Nat := []
  /-- Slots the first queued frame still has to be shown in; none while it has not begun. -/
  left : Option Nat := none
  /-- Frames with a slot blank for a missed deadline. -/
  missed : List Nat := []
  missRun : Nat := 0
  /-- The frame due for the next slot was not in the line buffer at its deadline (R251). -/
  late : Option Nat := none
  /-- Shown in the present slot; sent for the next one. -/
  cur : Option SlotData := none
  next : Option SlotData := none
  /-- The present slot is blank from here on (R252, R253, R257). -/
  blank : Bool := false
  /-- Code that the frame in progress takes at the end of its slot. -/
  endCode : Option Nat := none
  /-- Signature of the last emitting slot shown, and its run (R255). -/
  lastSig : Option Nat := none
  sigRun : Nat := 0
  /-- Kerf-dark sites in this line period and from the next line sync (R256). -/
  dark : List Nat := []
  darkNext : List Nat := []
  /-- Line periods of the slot already tested. -/
  line : Nat := 0
  /-- Consecutive good STATUS packets and the last one, in `run` quanta (R269). -/
  good : Nat := 0
  lastStatus : Nat := 0
  /-- Slots since the count of 64 of R272 began; a VDEV asks for a sweep. -/
  sweepCount : Nat := 0
  vdev : Bool := false
  /-- Strings whose results of the sweep in progress are discarded (R277). -/
  sweepSkip : List Nat := []
  sweeping : Bool := false
  /-- A sweep ran in this slot's blanking. -/
  swept : Bool := false
  /-- Open ticks per emitter (4 × site + band slot) since the last deposit, shown slots since then, and the carry (R276). -/
  energy : Tab Nat := []
  shown : Nat := 0
  carry : Nat := 0
  dropBox : Option (Int × Int × Int × Int) := none
  /-- Last packet sent on the outward lane, and the lane's characters since the present line sync: a control character is its byte plus
  256, and K28.1 follows the last (R266). -/
  sent : List Byte := []
  chars : List Nat := []
  deriving DecidableEq, Repr

/-! ### Axes and encoders (R278 to R305) -/

/-- Limits of a profile: microsteps/s, /s² and /s³ (R285). -/
structure AxLims where
  vmax : Nat
  accel : Nat
  decel : Nat
  jerk : Nat
  deriving DecidableEq, Repr

/-- Steps of AX_HOME (R292). -/
inductive HomePhase where
  | none | seeking | pressing | backing | ending
  deriving DecidableEq, Repr

/-- An axis beside its AX_ registers. -/
structure Axis where
  /-- The profile: position in 1/(6 × 10²⁷) microstep, speed in 1/(2 × 10¹⁸) microstep/s and acceleration in 10⁻⁹
  microstep/s² at its start, its start in `run` quanta, its stretches of constant jerk (ns, microsteps/s³), and where its
  final deceleration begins, in ns from its start. -/
  p0 : Int := 0
  v0 : Int := 0
  a0 : Int := 0
  t0 : Nat := 0
  segs : List (Nat × Int) := []
  finalAt : Nat := 0
  /-- Target in microsteps, and the move's speed limit. -/
  target : Int := 0
  vlim : Nat := 0
  /-- Descriptor of the move or homing in execution. -/
  job : Option Nat := none
  /-- Code with which it completes at rest. -/
  endCode : Nat := 0
  home : HomePhase := .none
  /-- DIR of AX_HOME, the position it began at, and when the stop was met, in `run` quanta. -/
  homeUp : Bool := false
  homeFrom : Int := 0
  pressed : Nat := 0
  /-- Immediate descriptors taken, acting at the next tick (R282). -/
  imm : List Nat := []
  /-- AX_STOP that completes at rest. -/
  stopJob : Option Nat := none
  /-- Limits that apply at the next tick, and latched ones (R285). -/
  fresh : Option AxLims := none
  latched : Option AxLims := none
  /-- The emergency ramp runs (R286). -/
  emergency : Bool := false
  /-- Since when the axis rests, in `run` quanta; HOLD_DELAY_MS has passed since (R290). -/
  restSince : Nat := 0
  holding : Bool := false
  /-- Phase-current integrators and duties, in 1/32,767 (R288). -/
  intA : Int := 0
  intB : Int := 0
  dutyA : Int := 0
  dutyB : Int := 0
  /-- Consecutive periods that meet R291, and with a phase current above I_TRIP (R289). -/
  stallRun : Nat := 0
  overRun : Nat := 0
  /-- STEP pulses that the last tick sends, and the level of DIR (R293). -/
  steps : Nat := 0
  dirUp : Bool := true
  deriving DecidableEq, Repr

/-- An armed compare (R302, R303). -/
structure Cmp where
  job : Nat
  value : Int
  spacing : Nat
  /-- DIR is 0: rising counts. -/
  rising : Bool
  /-- Hits still to come; none for unlimited. -/
  hits : Option Nat
  deriving DecidableEq, Repr

/-- An encoder beside its ENC_ registers. -/
structure Enc where
  /-- Accepted levels of A and B. -/
  a : Bool := false
  b : Bool := false
  /-- Instant of the last accepted change, in `run` quanta. -/
  lastChange : Nat := 0
  /-- REF of R298: the previous latch plus corrections since; none before the first index. -/
  ref : Option Int := none
  /-- A quadrature error has been recorded in this layer (R296). -/
  quadNoted : Bool := false
  /-- C_REF and P_REF (R300). -/
  cRef : Int := 0
  pRef : Int := 0
  followRun : Nat := 0
  cmp : Option Cmp := none
  /-- ENCn_CMP is high, until an instant in `run` quanta (R303). -/
  cmpHigh : Bool := false
  cmpUntil : Nat := 0
  deriving DecidableEq, Repr

/-! ### Time (R323 to R337) -/

/-- One TIMEPULSE output beside TIM_PULSE_STAT (R332, R333). -/
structure Pulse where
  job : Option Nat := none
  /-- START in device-time quanta, PERIOD_NS, WIDTH_NS, rises still to come (none: unlimited) and the next k. -/
  start : Int := 0
  period : Nat := 0
  width : Nat := 0
  left : Option Nat := none
  k : Nat := 0
  /-- The output is at its active level, until an instant in `run` quanta. -/
  high : Bool := false
  fallAt : Nat := 0
  deriving DecidableEq, Repr

/-- One TIMECAPTURE input beside TIM_CAP_STAT (R334). -/
structure Capt where
  job : Option Nat := none
  /-- Stamps written for the present descriptor. -/
  written : Nat := 0
  /-- Stamps of the input since reset, and the last stamped edge in `run` quanta. -/
  number : Nat := 0
  last : Option Nat := none
  deriving DecidableEq, Repr

/-- A clock as an Announce shows it (R325, R326). -/
structure Master where
  prio1 : Nat
  cls : Nat
  accuracy : Nat
  variance : Nat
  prio2 : Nat
  gm : Nat
  steps : Nat
  /-- Identity of the port that sent it. -/
  sender : Nat
  deriving DecidableEq, Repr

/-- PTP on a fabric port beside its TIM_PORT_ registers. -/
structure PtpPort where
  /-- Best qualified master heard, the last Announce from it and the one before, in `run` quanta. -/
  heard : Option Master := none
  lastAnn : Nat := 0
  prevAnn : Option Nat := none
  /-- Departure stamp and sequence number of the Pdelay_Req under way. -/
  reqAt : Option Int := none
  reqSeq : Nat := 0
  /-- Last PTP message sent by the port. -/
  sent : List Byte := []
  deriving DecidableEq, Repr

/-- The time service beside its registers (R324 to R330, R335). -/
structure TimeSvc where
  ports : Tab PtpPort := []
  /-- Integral part of the servo, in ppb × 2²⁴ (R329). -/
  integ : Int := 0
  /-- Consecutive Syncs within LOCK, and the last Sync used, in `run` quanta. -/
  good : Nat := 0
  lastSync : Nat := 0
  /-- Entry to NET_HOLD, in `run` quanta. -/
  holdSince : Nat := 0
  /-- Master in use. -/
  master : Option Master := none
  syncSeq : Nat := 0
  annSeq : Nat := 0
  lastSyncSent : Nat := 0
  lastAnnSent : Nat := 0
  /-- A step of device time, in quanta, and a new rate correction in ppb, for the next dowel pulse (R28, R324). -/
  step : Option Int := none
  rate : Option Int := none
  /-- TIM_SET: descriptor, value in quanta, and the `run` instant it waits for (R335). -/
  set : Option (Nat × Nat × Nat) := none
  deriving DecidableEq, Repr

/-! ### Cameras (R306 to R322) -/

/-- The parameters of a context that a frame is processed with (R310, R314). -/
structure CamSet where
  w : Nat
  h : Nat
  dt : Nat
  cfa : Nat
  outFmt : Nat
  rawKeep : Bool
  black : List Nat
  ccm : List Int
  x0 : Nat
  x1 : Nat
  y0 : Nat
  y1 : Nat
  axis : Bool
  half : Nat
  sw : Nat
  thr : Nat
  areaMin : Nat
  areaMax : Nat
  /-- Shading gains and defect words in force. -/
  shading : List Nat
  defects : List Nat
  deriving DecidableEq, Repr

/-- A frame being received, waiting or being processed (R310 to R321). -/
structure CamFrame where
  ctx : Nat
  port : Nat
  vc : Nat := 0
  /-- Frame Start, device time in quanta; the order in the queue. -/
  start : Nat
  number : Nat
  set : CamSet
  /-- Capture it belongs to, and its number in the capture; descriptor of a CAM_REPROC. -/
  job : Option Nat := none
  k : Nat := 0
  reproc : Bool := false
  /-- Lines received as 16-bit pixels, first line first, and lines beyond H. -/
  lines : List (List Nat) := []
  extra : Nat := 0
  /-- DRAM buffer; none for a dropped frame. -/
  buf : Option Nat := none
  inl : Bool := false
  short : Bool := false
  timeout : Bool := false
  dropped : Bool := false
  deriving DecidableEq, Repr

/-- What a DRAM buffer of a context holds (R317). -/
structure BufInfo where
  /-- The frame in it is not yet processed. -/
  busy : Bool := false
  /-- A raw frame is stored; its size, start, number, lines, extra lines and flags. -/
  raw : Bool := false
  set : Option CamSet := none
  start : Nat := 0
  number : Nat := 0
  lines : Nat := 0
  extra : Nat := 0
  flags : Nat := 0
  port : Nat := 0
  deriving DecidableEq, Repr

/-- An active capture (R311 to R313). -/
structure Capture where
  job : Nat
  host : Nat
  count : Nat
  /-- Frames opened, and frames whose result is written. -/
  opened : Nat := 0
  results : Nat := 0
  /-- Trigger still to fire: output and device-time instant. -/
  trig : Option (Nat × Nat) := none
  /-- Frames belong to it from here on. -/
  armed : Bool := false
  /-- Trigger, execution or end of the last frame, in `run` quanta. -/
  since : Nat := 0
  /-- CAM_STOP: the capture ends after the frame being received. -/
  stopping : Bool := false
  code : Option Nat := none
  deriving DecidableEq, Repr

/-- A camera context beside its registers. -/
structure Cam where
  active : Option Capture := none
  /-- Tables in force and tables waiting for the next Frame Start, by descriptor. -/
  shading : List Nat := []
  defects : List Nat := []
  tables : List Nat := []
  nextBuf : Nat := 0
  frameNo : Nat := 0
  bufs : Tab BufInfo := []
  /-- The last closed frame of the present phase-1 check: valid, and its METRIC (R52). -/
  lastValid : Bool := false
  lastMetric : Nat := 0xffff
  deriving DecidableEq, Repr

/-- A CSI-2 port beside its registers. -/
structure CamPort where
  /-- Frames being received, by virtual channel. -/
  frames : List CamFrame := []
  /-- Consecutive frame timeouts (R441). -/
  timeouts : Nat := 0
  deriving DecidableEq, Repr

/-- The image pipeline (R309, R314 to R316). -/
structure Pipeline where
  /-- Memory-path frames and CAM_REPROC work in order (R316). -/
  queue : List CamFrame := []
  busy : Option CamFrame := none
  /-- Closed in-line frames whose result is not yet written. -/
  closed : List CamFrame := []
  /-- A CAM_INLINE value waiting for both ports to be idle. -/
  inlineNew : Option Nat := none
  deriving DecidableEq, Repr

/-! ### The fabric (R338 to R353) -/

/-- A fabric port beside its FAB_PORT_ registers. -/
structure FabPort where
  /-- HELLOs heard from the present neighbour, and the last one in `run` quanta. -/
  hellos : Nat := 0
  lastHello : Nat := 0
  nbrSerial : Nat := 0
  /-- Distances that the neighbour advertises, and when it last did; an unlisted one is 33. -/
  adv : Tab Nat := []
  advAt : Tab Nat := []
  /-- Own vector changed since the last ROUTE; the last ROUTE and HELLO sent. -/
  changed : Bool := false
  lastRoute : Nat := 0
  helloSent : Nat := 0
  /-- The last frame sent: the bytes before its Tvedx header, then header and payload (R340). -/
  eth : List Byte := []
  sent : List Gran := []
  /-- Instant from which the port's share lets the next BULK_WRITE start, in `run` quanta (R350). -/
  bulkFree : Nat := 0
  deriving DecidableEq, Repr

/-- A FAB_WRITE in progress (R350). -/
structure BulkTx where
  job : Nat
  dst : Nat
  loc : Nat
  remote : Nat
  bytes : Nat
  number : Nat
  /-- SEQ of its first frame, frames acknowledged, last progress in `run` quanta, and resends. -/
  first : Nat := 0
  /-- Frames queued so far. -/
  next : Nat := 0
  acked : Nat := 0
  progress : Nat := 0
  resends : Nat := 0
  deriving DecidableEq, Repr

/-- Bulk frames received of one transfer (R350). -/
structure BulkRx where
  /-- Next SEQ in order, and frames since the last acknowledgement. -/
  next : Option Nat := none
  count : Nat := 0
  deriving DecidableEq, Repr

/-- The fabric beside its registers. -/
structure Fabric where
  ports : Tab FabPort := []
  /-- Recent broadcast SEQ values, newest first, by source × 8 + class (R346). -/
  seen : Tab (List Nat) := []
  /-- Start of the claim, whether AUTO_ID has retried, and IDs heard at a finite distance since (R344). -/
  claimAt : Option Nat := none
  claimId : Nat := 0
  retried : Bool := false
  heardIds : List Nat := []
  /-- JOIN or LEAVE broadcasts still to send, their kind, and the last one (R344, R351). -/
  rebcasts : Nat := 0
  rebcastKind : Nat := 3
  rebcastAt : Nat := 0
  /-- LEAVE sent, in `run` quanta (R351). -/
  leaveAt : Nat := 0
  txs : List BulkTx := []
  nextNumber : Nat := 0
  /-- By source device + 1,024 × transfer number. -/
  rxs : Tab BulkRx := []
  /-- IDs whose JOIN came while a layer was open: in relations from the next LAYER_OPEN (R353). -/
  joinedLate : List Nat := []
  deriving DecidableEq, Repr

/-! ### The hinge (R354 to R367) -/

/-- The hinge pair beside its registers. -/
structure Hinge where
  /-- Captures, BEAT, and the last records sent on path A and path B. -/
  mseq : Nat := 0
  beat : Bool := false
  sentA : List Gran := []
  sentB : List Gran := []
  /-- Last beats heard, in `run` quanta, beats since a loss, and BEAT of the last good frame on path B. -/
  lastA : Nat := 0
  lastB : Nat := 0
  beatsA : Nat := 0
  beatsB : Nat := 0
  beatIn : Option Bool := none
  /-- Last beat of an ACTIVE partner, the last beat at all, and the start of SYNCING, in `run` quanta (R357). -/
  heardActive : Option Nat := none
  heardAny : Option Nat := none
  since : Nat := 0
  /-- The last record adopted, and its capture instant (R361). -/
  mark : List Gran := []
  markAt : Nat := 0
  /-- Consecutive records outside 10 ns (R364). -/
  timeBad : Nat := 0
  /-- Switchover under way since, in `run` quanta (R362). -/
  deciding : Option Nat := none
  /-- STATE of the partner's last beat (R356). -/
  peerState : Nat := 0
  /-- HNG_HANDOVER waiting for the partner (R366). -/
  handover : Option Nat := none
  /-- Engine island next in BIST, one in BIST, and since when (R364). -/
  bistNext : Nat := 0
  bist : Option Nat := none
  /-- Last HEALTH report. -/
  reportAt : Nat := 0
  /-- Snapshot applied, cells of the copy received in this RECOAT (R365). -/
  snapped : Bool := false
  copied : Nat := 0
  /-- The active still owes its partner a snapshot and a copy; next cell to send. -/
  syncPeer : Bool := false
  copyNext : Option Nat := none
  /-- Cells written behind the copy, to be sent again (R365). -/
  recopy : List Nat := []
  /-- Stopped in FENCED: the descriptors end with 0x05F0 (R354). -/
  fenced : Bool := false
  deriving DecidableEq, Repr

/-! ### The device -/

/-- Everything the spec gives the device, beside the queue of waiting commands. -/
structure Dev where
  /-- Master device time in quanta of 1/256 ns (R9, R25). -/
  now : Nat := 0
  /-- Time since power-on that no time step changes, in quanta: durations and the always-on oscillator (R384). -/
  run : Nat := 0
  /-- Register fields that hold something other than their reset values, in canonical form. -/
  regs : List RegCell := []
  /-- Fields whose written value takes effect later: the values now in force, in canonical form (R137, R182, R216). -/
  force : List RegCell := []
  /-- The model's own counter of free values (opaque `Config.freeValue`). -/
  free : Nat := 0
  /-- Host memory as the device has written it; a byte it has not written reads 0 here. -/
  host : Bytes := []
  /-- DRAM contents by DRAM address (R397). -/
  dram : Bytes := []
  /-- The QSPI NOR flash (R433). -/
  flash : Bytes := []
  /-- The MRAM. -/
  mram : Mram := {}
  /-- Fetched descriptors not yet completed, in fetch order (R77). -/
  jobs : List Job := []
  /-- Serial number of the next fetched descriptor; 0 names none. -/
  nextJob : Nat := 1
  /-- Per-function host state, functions 0 to 7. -/
  hostFns : Tab HostFn := []
  /-- Movers M0 to M7. -/
  movers : Tab (Option Mover) := []
  /-- Event sources (R370). -/
  srcs : Tab SrcState := []
  /-- Vectors, by function × 64 + vector (R371). -/
  vecs : Tab VecState := []
  /-- Functions whose MSI-X function mask is set, one bit each (R372). -/
  fnMasked : Nat := 0
  /-- The event recorder. -/
  recorder : Recorder := {}
  /-- Islands 0 to 48. -/
  islands : Tab Island := []
  /-- The layer cycle. -/
  layer : Layer := {}
  /-- DRAM channels 0 and 1. -/
  dramCh : Tab DramChan := []
  /-- Thermal sensors 0 to 63. -/
  sensors : Tab Sensor := []
  /-- Device-level thermal state. -/
  therm : Thermal := {}
  /-- Calibration and cover. -/
  cal : Calib := {}
  /-- The host link. -/
  pcie : Pcie := {}
  /-- Management and boot. -/
  mgmt : Mgmt := {}
  /-- Pin levels. -/
  pins : Pins := {}
  /-- Fabric messages queued for launch, oldest first (R336). -/
  fabOut : List FabMsg := []
  /-- Next SEQ per traffic class (R341). -/
  fabSeq : Tab Nat := []
  /-- Scan engines 0 to 33. -/
  engines : Tab Engine := []
  /-- Channel links CH0 to CH31. -/
  links : Tab ChLink := []
  /-- The kerf arbiter. -/
  kerf : Kerf := {}
  /-- The grain map. -/
  grain : Grain := {}
  /-- Tiles T0 to T15. -/
  tiles : Tab Tile := []
  /-- Axes AX0 to AX7. -/
  axes : Tab Axis := []
  /-- Encoders ENC0 to ENC7. -/
  encs : Tab Enc := []
  /-- TIMEPULSE0 to TIMEPULSE7. -/
  pulses : Tab Pulse := []
  /-- TIMECAPTURE0 to TIMECAPTURE3. -/
  capts : Tab Capt := []
  /-- The time service. -/
  time : TimeSvc := {}
  /-- Camera contexts 0 to 15. -/
  cams : Tab Cam := []
  /-- Ports CSI0 to CSI7. -/
  camPorts : Tab CamPort := []
  /-- The image pipeline. -/
  pipe : Pipeline := {}
  /-- The fabric. -/
  fabric : Fabric := {}
  /-- The hinge pair. -/
  hinge : Hinge := {}
  deriving DecidableEq, Repr

/-- The state: the commands waiting, first in first out, and the device. -/
structure State where
  pending : List Instr
  dev : Dev
  deriving DecidableEq, Repr

/-- Reasons the machine stops with a fault: none. No command of this block stops: every event the spec names has an effect.
-/
inductive Fault
  deriving DecidableEq, Repr

/-- Reasons a command is refused. -/
inductive Refusal where
  /-- Raised by `exec` for a command that has no meaning yet; safe. -/
  | notModelled (mnemonic : String)
  deriving DecidableEq, Repr

/-- The state right after power-on reset, before the reset is released and the device boots (R6, R428, R429): every
register field at its reset value, no memory written, no command waiting. -/
def State.reset : State :=
  { pending := [], dev := {} }

end Sys2Proof.Machine
end

