-- ==== Sys2Proof/Machine/Ops.lean ====
section
/-! DEFINITION. The named operations every meaning is written over: register fields, time, units, free values, memory,
and the one way a meaning becomes a step outcome. -/

namespace Sys2Proof.Machine

open Sys2Proof

/-! ### Register fields -/

/-- The place of a field instance in the canonical order. -/
def RegCell.key (c : RegCell) : Nat := Nat.pair c.fld.ctorIdx (Nat.pair c.i c.j)

/-- Whether a cell is instance `i`, `j` of field `f`. -/
def RegCell.isAt (c : RegCell) (f : Fld) (i j : Nat) : Bool := decide (c.fld = f ∧ c.i = i ∧ c.j = j)

/-- What a field instance holds: its cell, or its reset value (R6). -/
def cellsGet : List RegCell → Fld → Nat → Nat → Nat
  | [], f, i, j => f.resetAt i j
  | c :: cs, f, i, j => if c.isAt f i j then c.val else cellsGet cs f i j

/-- Insert a cell in key order. -/
def cellsInsert (c : RegCell) : List RegCell → List RegCell
  | [] => [c]
  | c' :: cs => if c.key < c'.key then c :: c' :: cs else c' :: cellsInsert c cs

/-- Cells without those of one field instance. -/
def cellsErase (f : Fld) (i j : Nat) (cs : List RegCell) : List RegCell := cs.filter (fun c => !c.isAt f i j)

/-- Cells with one field instance set; the value is cut to the field's width. -/
def cellsSet (cs : List RegCell) (f : Fld) (v i j : Nat) : List RegCell :=
  if v % 2 ^ f.width = f.resetAt i j then cellsErase f i j cs
  else cellsInsert ⟨f, i, j, v % 2 ^ f.width⟩ (cellsErase f i j cs)

/-- The canonical form of register cells: keys strictly rising, no cell at its reset value, every value within the
field's width. -/
def cellsWf : List RegCell → Bool
  | [] => true
  | [c] => decide (c.val ≠ c.fld.resetAt c.i c.j) && decide (c.val < 2 ^ c.fld.width)
  | c :: c' :: cs =>
    decide (c.val ≠ c.fld.resetAt c.i c.j) && decide (c.val < 2 ^ c.fld.width) && decide (c.key < c'.key)
      && cellsWf (c' :: cs)

/-- A register field as it reads. -/
def Dev.get (d : Dev) (f : Fld) (i : Nat := 0) (j : Nat := 0) : Nat := cellsGet d.regs f i j

/-- A register field set by the device. -/
def Dev.put (d : Dev) (f : Fld) (v : Nat) (i : Nat := 0) (j : Nat := 0) : Dev :=
  { d with regs := cellsSet d.regs f v i j }

/-- Whether a one-bit field reads 1. -/
def Dev.flag (d : Dev) (f : Fld) (i : Nat := 0) (j : Nat := 0) : Bool := d.get f i j == 1

/-- A field set to 1. -/
def Dev.raise (d : Dev) (f : Fld) (i : Nat := 0) (j : Nat := 0) : Dev := d.put f 1 i j

/-- A field set to 0. -/
def Dev.lower (d : Dev) (f : Fld) (i : Nat := 0) (j : Nat := 0) : Dev := d.put f 0 i j

/-- A one-bit field set from a truth value. -/
def Dev.putB (d : Dev) (f : Fld) (b : Bool) (i : Nat := 0) (j : Nat := 0) : Dev := d.put f b.toNat i j

/-- A counter field raised by `k`, saturating at its largest value. -/
def Dev.bump (d : Dev) (f : Fld) (k : Nat := 1) (i : Nat := 0) (j : Nat := 0) : Dev :=
  d.put f (satAdd f.width (d.get f i j) k) i j

/-- A field read as two's complement. -/
def Dev.gets (d : Dev) (f : Fld) (i : Nat := 0) (j : Nat := 0) : Int := sInt f.width (d.get f i j)

/-- A field set to the two's complement pattern of an integer. -/
def Dev.puts (d : Dev) (f : Fld) (v : Int) (i : Nat := 0) (j : Nat := 0) : Dev := d.put f (uInt f.width v) i j

/-- The value in force of a field whose written value takes effect later. -/
def Dev.eff (d : Dev) (f : Fld) (i : Nat := 0) (j : Nat := 0) : Nat := cellsGet d.force f i j

/-- The value in force, read as two's complement. -/
def Dev.effs (d : Dev) (f : Fld) (i : Nat := 0) (j : Nat := 0) : Int := sInt f.width (d.eff f i j)

/-- Bring the written value of one field instance into force. -/
def Dev.latch (d : Dev) (f : Fld) (i : Nat := 0) (j : Nat := 0) : Dev :=
  { d with force := cellsSet d.force f (d.get f i j) i j }

/-- Bring the written values of every instance that `p` selects into force. -/
def Dev.latchWhere (d : Dev) (p : RegCell → Bool) : Dev :=
  let d := (d.force.filter p).foldl (fun d c => d.latch c.fld c.i c.j) d
  (d.regs.filter p).foldl (fun d c => d.latch c.fld c.i c.j) d

/-- Every instance that `p` selects back to its reset value. -/
def Dev.resetWhere (d : Dev) (p : RegCell → Bool) : Dev :=
  { d with regs := d.regs.filter (fun c => !p c), force := d.force.filter (fun c => !p c) }

/-! ### Whole registers -/

/-- The fields of a register. -/
def Reg.fields (r : Reg) : List Fld :=
  match regBlocks.find? (fun b => b.2.2.1.contains r) with
  | some b => b.2.2.2.filter (fun f => f.reg == r)
  | none => []

/-- A register as a word: its fields in place, write-only and reserved bits 0 (R4, R7). -/
def Dev.word (d : Dev) (r : Reg) (i : Nat := 0) (j : Nat := 0) : Nat :=
  r.fields.foldl (fun w f => if f.acc = .wo then w else w + d.get f i j * 2 ^ f.lo) 0

/-- A field's bits of a written word. -/
def Fld.of (f : Fld) (value : Nat) : Nat := value / 2 ^ f.lo % 2 ^ f.width

/-! ### Time -/

/-- The time that no correction changes while device time runs on by `dt` at the rate correction in force (R28, R324). -/
def Dev.rawTime (d : Dev) (dt : Nat) : Nat :=
  let ppb := d.gets .TIM_RATE_PPB
  if ppb = 0 then dt else dt * 1000000000 / (1000000000 + ppb).toNat

/-- Time passes before every command. -/
def Dev.elapse (d : Dev) (dt : Nat) : Dev := { d with now := d.now + dt, run := d.run + d.rawTime dt }

/-- Seconds of an instant (R9). -/
def secOf (t : Nat) : Nat := t / qSec

/-- Nanoseconds field of an instant (R9). -/
def nsOf (t : Nat) : Nat := t % qSec / qNs

/-- The 1/256 ns fraction of an instant (R9). -/
def fracOf (t : Nat) : Nat := t % qNs

/-- TS64 of an instant (R11). -/
def ts64 (t : Nat) : Nat := secOf t % 2 ^ 32 * 2 ^ 32 + nsOf t

/-- TS80 of an instant (R10). -/
def ts80 (t : Nat) : Nat := secOf t % 2 ^ 48 * 2 ^ 32 + nsOf t

/-- Whether a nanoseconds field is valid (R12). -/
def nsValid (ns : Nat) : Bool := decide (ns < 1000000000)

/-- A TS64 value resolved against present device time, in quanta; below 0 for an instant before device time 0
(R11, R484). -/
def resolveTs64 (now ts : Nat) : Int :=
  let s : Nat := secOf now
  let dlt : Int := sInt 32 (uInt 32 ((ts / 2 ^ 32 % 2 ^ 32 : Nat) - (s % 2 ^ 32 : Nat)))
  ((s : Int) + dlt) * (qSec : Int) + ((ts % 2 ^ 30 * qNs : Nat) : Int)

/-- The instant a TS80 value names. -/
def ofTs80 (ts : Nat) : Nat := ts / 2 ^ 32 % 2 ^ 48 * qSec + ts % 2 ^ 30 * qNs

/-! ### Free values -/

/-- A value the spec leaves open, of `w` bits. -/
def Dev.freeBits (d : Dev) (w : Nat) : Nat := Config.freeValue d.free % 2 ^ w

/-- The counter of free values moved on. -/
def Dev.freeNext (d : Dev) : Dev := { d with free := d.free + 1 }

/-- A register field that takes a value the spec leaves open. -/
def Dev.putFree (d : Dev) (f : Fld) (i : Nat := 0) (j : Nat := 0) : Dev :=
  (d.put f (d.freeBits f.width) i j).freeNext

/-! ### Units -/

def Dev.fn (d : Dev) (f : Nat) : HostFn := Tab.get {} d.hostFns f
def Dev.setFn (d : Dev) (f : Nat) (x : HostFn) : Dev := { d with hostFns := Tab.set {} d.hostFns f x }
def Dev.sq (d : Dev) (f r : Nat) : SqState := Tab.get {} (d.fn f).sq r
def Dev.setSq (d : Dev) (f r : Nat) (x : SqState) : Dev :=
  d.setFn f { d.fn f with sq := Tab.set {} (d.fn f).sq r x }
def Dev.cq (d : Dev) (f c : Nat) : CqState := Tab.get {} (d.fn f).cq c
def Dev.setCq (d : Dev) (f c : Nat) (x : CqState) : Dev :=
  d.setFn f { d.fn f with cq := Tab.set {} (d.fn f).cq c x }
def Dev.src (d : Dev) (s : Nat) : SrcState := Tab.get {} d.srcs s
def Dev.setSrc (d : Dev) (s : Nat) (x : SrcState) : Dev := { d with srcs := Tab.set {} d.srcs s x }
def Dev.vec (d : Dev) (f v : Nat) : VecState := Tab.get {} d.vecs (f * 64 + v)
def Dev.setVec (d : Dev) (f v : Nat) (x : VecState) : Dev := { d with vecs := Tab.set {} d.vecs (f * 64 + v) x }
def Dev.island (d : Dev) (n : Nat) : Island := Tab.get {} d.islands n
def Dev.setIsland (d : Dev) (n : Nat) (x : Island) : Dev := { d with islands := Tab.set {} d.islands n x }

/-- Whether an island is in service and may be sent work (R37, R38). -/
def Dev.inService (d : Dev) (u : Nat) : Bool := d.flag .SYS_ISL_STAT_IN_SERVICE u && !(d.island u).resync

def Dev.chan (d : Dev) (c : Nat) : DramChan := Tab.get {} d.dramCh c
def Dev.setChan (d : Dev) (c : Nat) (x : DramChan) : Dev := { d with dramCh := Tab.set {} d.dramCh c x }
def Dev.sensor (d : Dev) (k : Nat) : Sensor := Tab.get {} d.sensors k
def Dev.setSensor (d : Dev) (k : Nat) (x : Sensor) : Dev := { d with sensors := Tab.set {} d.sensors k x }
def Dev.cover (d : Dev) (s : Nat) : Cover := Tab.get {} d.cal.covers s
def Dev.setCover (d : Dev) (s : Nat) (x : Cover) : Dev :=
  { d with cal := { d.cal with covers := Tab.set {} d.cal.covers s x } }

def Dev.eng (d : Dev) (n : Nat) : Engine := Tab.get {} d.engines n
def Dev.setEng (d : Dev) (n : Nat) (x : Engine) : Dev := { d with engines := Tab.set {} d.engines n x }
def Dev.modEng (d : Dev) (n : Nat) (g : Engine → Engine) : Dev := d.setEng n (g (d.eng n))
def Dev.link (d : Dev) (c : Nat) : ChLink := Tab.get {} d.links c
def Dev.setLink (d : Dev) (c : Nat) (x : ChLink) : Dev := { d with links := Tab.set {} d.links c x }

/-! ### Calibration values (R420) -/

/-- A new calibration value waits for its boundary, replacing one that waits already (R420). -/
def Dev.addFresh (d : Dev) (c : RegCell) : Dev :=
  let rest := d.cal.fresh.filter (fun x => !(x.fld == c.fld && x.i == c.i && x.j == c.j))
  { d with cal := { d.cal with fresh := rest ++ [c] } }

/-- The waiting values that `p` selects come into force (R420). -/
def Dev.bringFresh (d : Dev) (p : RegCell → Bool) : Dev :=
  let now := d.cal.fresh.filter p
  let d := { d with cal := { d.cal with fresh := d.cal.fresh.filter (fun c => !p c) } }
  now.foldl (fun d c => d.put c.fld c.val c.i c.j) d

/-! ### Descriptors held -/

/-- The held descriptor with a serial number. -/
def Dev.job (d : Dev) (id : Nat) : Option Job := d.jobs.find? (fun j => j.id == id)

/-- A change to one held descriptor. -/
def Dev.modJob (d : Dev) (id : Nat) (g : Job → Job) : Dev :=
  { d with jobs := d.jobs.map (fun j => if j.id == id then g j else j) }

/-- A descriptor dropped from the device. -/
def Dev.dropJob (d : Dev) (id : Nat) : Dev := { d with jobs := d.jobs.filter (fun j => j.id != id) }

/-! ### Memory -/

/-- What the SR-IOV capability reports: TotalVFs, InitialVFs, First VF Offset and VF Stride (R89). -/
def totalVfs : Nat := 7
def initialVfs : Nat := 7
def firstVfOffset : Nat := 1
def vfStride : Nat := 1

/-- The Requester ID of a function, counted from function 0's (R89, R90). -/
def requesterOf (f : Nat) : Nat := if f = 0 then 0 else firstVfOffset + (f - 1) * vfStride

/-- Whether a function is there: function 0, or a virtual function that is enabled (R89). -/
def Dev.vfOn (d : Dev) (f : Nat) : Bool := f == 0 || (d.pcie.vfEnable && decide (f ≤ min d.pcie.numVfs totalVfs))

/-- The device writes bytes to host memory on behalf of a function, under its Requester ID (R90). -/
def Dev.hostWrite (d : Dev) (f a : Nat) (bs : List Byte) : Dev :=
  { d with host := d.host.writeList a bs, pcie := { d.pcie with requester := requesterOf f } }

/-- Whether the device may write host memory for a function (R37, R89, R91). -/
def Dev.mayWrite (d : Dev) (f : Nat) : Bool := d.inService 34 && (d.fn f).busMaster && d.vfOn f

/-- A write to host memory on behalf of a function, or one that waits in HOST for it (R37, R91). -/
def Dev.hostOut (d : Dev) (f a : Nat) (bs : List Byte) : Dev :=
  if d.mayWrite f && (d.fn f).held.isEmpty then d.hostWrite f a bs
  else d.setFn f { d.fn f with held := (d.fn f).held ++ [(a, bs)] }

/-- The device writes an `n`-byte little-endian number to host memory (R8). -/
def Dev.hostPut (d : Dev) (f a n v : Nat) : Dev := d.hostWrite f a (leBytes n v)

/-- Bytes written to DRAM. -/
def Dev.dramWrite (d : Dev) (a : Nat) (bs : List Byte) : Dev := { d with dram := d.dram.writeList a bs }

/-- Bytes of granules, lowest address first (R8). -/
def granBytes (gs : List Gran) : List Byte := gs.flatMap (fun g => leBytes 16 g.toNat)

/-! ### Outcomes -/

/-- A meaning as a step outcome: time passes, the device changes, the queue stays. -/
def State.act (s : State) (dt : Nat) (f : Dev → Dev) : Host.Outcome State Fault Refusal :=
  .next { s with dev := f (s.dev.elapse dt) }

/-- The effect of an event whose condition the spec states: none where the condition does not hold. -/
def Dev.when (d : Dev) (c : Bool) (f : Dev → Dev) : Dev := if c then f d else d

end Sys2Proof.Machine
end

