-- ==== Sys2Proof/Machine/Flags.lean ====
section
/-! DEFINITION. The flags and reports the device raises: cyclic redundancy checks, CFG_REJ, ownership, event sources
and vectors (R368 to R381), recorder records and their mirrors (R382 to R391), messages to the fabric. -/

namespace Sys2Proof.Machine

open Sys2Proof

/-! ### Checks -/

/-- One bit of the reflected CRC-32C. -/
def crc32cBit (c : Nat) : Nat := if c % 2 = 1 then Nat.xor (c / 2) 0x82f63b78 else c / 2

/-- One byte of the reflected CRC-32C. -/
def crc32cByte (c : Nat) (b : Byte) : Nat :=
  (List.range 8).foldl (fun c _ => crc32cBit c) (Nat.xor c b.toNat)

/-- CRC-32C: polynomial 0x1EDC6F41, reflected, initial value and final inversion 0xFFFFFFFF (R383). -/
def crc32c (bs : List Byte) : Nat := Nat.xor (bs.foldl crc32cByte 0xffffffff) 0xffffffff

/-- One bit of the CRC-16 of the channel link, most significant bit first (R143). -/
def crc16Bit (c : Nat) : Nat := if c / 2 ^ 15 % 2 = 1 then Nat.xor (c * 2 % 2 ^ 16) 0x1021 else c * 2 % 2 ^ 16

/-- One byte of the CRC-16. -/
def crc16Byte (c : Nat) (b : Byte) : Nat :=
  (List.range 8).foldl (fun c _ => crc16Bit c) (Nat.xor c (b.toNat * 256))

/-- CRC-16 with polynomial 0x1021 and initial value 0xFFFF, no final inversion (R143). -/
def crc16 (bs : List Byte) : Nat := bs.foldl crc16Byte 0xffff

/-! ### CFG_REJ -/

/-- The CFG_REJ flag that the defining chapter names for a register's refusals (R478). -/
def Reg.rejFlag (r : Reg) (i : Nat) : Option (Fld × Nat) :=
  let a := r.place.base
  if r = .SYS_BARRIER_CFG then some (.SYS_LAYER_STAT_CFG_REJ, 0)
  else if a < 0x10000 then some (.SYS_ISL_STAT_CFG_REJ, i)
  else if a < 0x20000 then some (.HIF_STAT_CFG_REJ, i)
  else if a < 0x30000 then some (.WIN_STAT_CFG_REJ, 0)
  else if a < 0x40000 then some (.INT_STAT_CFG_REJ, i)
  else if a < 0x50000 then some (.ENG_STAT_CFG_REJ, i)
  else if a < 0x60000 then none
  else if r = .SCF_CFG then some (.SCF_CFG_CFG_REJ, 0)
  else if a < 0x80000 then some (.SCF_ERR_CFG_REJ, i)
  else if a < 0x90000 then some (.KRF_STAT_CFG_REJ, 0)
  else if a < 0xa0000 then some (.MPL_STAT_CFG_REJ, i)
  else if a < 0xb0000 then some (.GRN_STAT_CFG_REJ, 0)
  else if a < 0xc0000 then some (.VNR_STAT_CFG_REJ, i)
  else if a < 0xd0000 then some (.VDR_STAT_CFG_REJ, i)
  else if a < 0xe0000 then some (.AX_STAT_CFG_REJ, i)
  else if a < 0xf0000 then some (.ENC_STAT_CFG_REJ, i)
  else if a < 0xf1000 then none
  else if a < 0x100000 then some (.CAM_CTX_STAT_CFG_REJ, i)
  else if a < 0x110000 then some (.TIM_STAT_CFG_REJ, 0)
  else if a < 0x120000 then some (.FAB_STAT_CFG_REJ, 0)
  else if a < 0x150000 then none
  else if a < 0x160000 then some (.THM_STAT_CFG_REJ, 0)
  else if a < 0x170000 then none
  else some (.MGT_STAT_CFG_REJ, 0)

/-- A refused write sets the register's CFG_REJ flag (R478). -/
def Dev.reject (d : Dev) (r : Reg) (i : Nat := 0) : Dev :=
  match r.rejFlag i with
  | some (f, k) => d.raise f k
  | none => d

/-! ### Ownership (R92, R94) -/

/-- The engine that a covering shim stands in for, or the engine itself (R94). -/
def Dev.coveredEngine (d : Dev) (e : Nat) : Nat :=
  if e = 32 ∨ e = 33 then
    match (d.cover (e - 32)).phase, (d.cover (e - 32)).req with
    | .active, some r => r.unit
    | _, _ => e
  else e

/-- Whether function `f` owns engine `e` as the registers say. -/
def Dev.ownsEngine (d : Dev) (f e : Nat) : Bool :=
  if e < 32 then hasBit (d.get .WIN_OWN_ENG_LO_ENG f) e else hasBit (d.get .WIN_OWN_ENG_HI_ENG f) (e - 32)

/-- Whether function `f` owns a resource by TARGET code (R74, R92, R94). The system target has no owner. -/
def Dev.ownsTarget (d : Dev) (f t : Nat) : Bool :=
  if t ≤ 0x21 then d.ownsEngine f (d.coveredEngine t)
  else if 0x40 ≤ t ∧ t ≤ 0x4f then hasBit (d.get .WIN_OWN_IO_TILE f) (t - 0x40)
  else if 0x50 ≤ t ∧ t ≤ 0x57 then hasBit (d.get .WIN_OWN_IO_AXIS f) (t - 0x50)
  else if 0x60 ≤ t ∧ t ≤ 0x6f then hasBit (d.get .WIN_OWN_CTX_CTX f) (t - 0x60)
  else decide (t = 0x80)

/-- The function that owns a resource, if one (R92). -/
def Dev.ownerOf (d : Dev) (t : Nat) : Option Nat := (List.range 8).find? (fun f => d.ownsTarget f t)

/-- The function that owns an event source (R368). -/
def Dev.srcOwner (d : Dev) (s : Nat) : Option Nat :=
  if s < 128 then some (s / 16)
  else if s < 136 then some (s - 128)
  else if s < 192 then some 0
  else if s < 260 then d.ownerOf ((s - 192) / 2)
  else if s < 272 then none
  else if s < 304 then d.ownerOf (0x40 + (s - 272) / 2)
  else if s < 320 then none
  else if s < 352 then d.ownerOf (0x50 + (s - 320) / 4)
  else if s < 384 then d.ownerOf (0x60 + (s - 352) / 2)
  else if s < 392 then some (bitsOf (d.get .TIM_IO_OWN_FUNC) (3 * (s - 384) + 2) (3 * (s - 384)))
  else if s < 396 then some (bitsOf (d.get .TIM_IO_OWN2_FUNC) (3 * (s - 392) + 2) (3 * (s - 392)))
  else if s = 396 then some 0
  else if 400 ≤ s ∧ s ≤ 404 then some (d.get .SYS_LAYER_CTL_OWNER_FUNC)
  else if (416 ≤ s ∧ s ≤ 420) ∨ (448 ≤ s ∧ s ≤ 451) ∨ (512 ≤ s ∧ s < 520) then some 0
  else none

/-! ### Windows and freezes (R95 to R98, R104 to R106) -/

/-- Base address of a window. -/
def Dev.winBase (d : Dev) (f w : Nat) : Nat := d.get .WIN_BASE_LO_ADDR_LO f w * 2 ^ 12 + d.get .WIN_BASE_HI_ADDR_HI f w * 2 ^ 32

/-- Whether an enabled window of a function contains a whole range (R96). -/
def Dev.winHas (d : Dev) (f w a n : Nat) : Bool :=
  let b := d.winBase f w
  d.flag .WIN_CFG_ENABLE f w && decide (b ≤ a ∧ a + n ≤ b + 2 ^ d.get .WIN_CFG_SIZE_LOG2 f w)

/-- The CAUSE of a range that fails the window check: 1 in no window, 2 without the permission; none for one that passes (R96,
R97, R104). -/
def Dev.rangeCause (d : Dev) (f a n : Nat) (rd wr : Bool) : Option Nat :=
  let ws := (List.range 16).filter (fun w => d.winHas f w a n)
  if ws.isEmpty then some 1
  else if ws.any (fun w => (!rd || d.flag .WIN_CFG_R f w) && (!wr || d.flag .WIN_CFG_W f w)) then none
  else some 2

/-- The completion code of a failed window check (R97). -/
def causeCode (c : Nat) : Nat := if c = 1 then 0x0403 else 0x0442

/-- What a freeze does to the layer of OWNER_FUNC (R109): a held layer goes on, and no check is made. -/
def Dev.freezeLayer (d : Dev) (f : Nat) : Dev :=
  if d.get .SYS_LAYER_CTL_OWNER_FUNC = f ∧ d.get .SYS_LAYER_STAT_STATE ≠ 8 then
    { d.lower .SYS_LAYER_STAT_HELD with layer := { d.layer with ownerFrozen := true } }
  else d

/-- A violation by a function, or a freeze of causes 8 and 9 (R104, R105, R106 step 1). Of a function frozen already a violation
is counted and changes nothing else; REPEAT and IGN_WRITES count on through a release and a new freeze (DESIGN CHOICE). -/
def Dev.freeze (d : Dev) (f cause addr : Nat) (offender : Option Nat := none) : Dev :=
  if d.flag .WIN_FRZ_STAT_FROZEN f then (if cause ≤ 7 then d.bump .WIN_FRZ_STAT_REPEAT 1 f else d)
  else
    let d := (d.raise .WIN_FRZ_STAT_FROZEN f).put .WIN_FRZ_STAT_CAUSE cause f
    let d := (d.put .WIN_FRZ_ADDR_LO_ADDR (addr % 2 ^ 32) f).put .WIN_FRZ_ADDR_HI_ADDR (addr / 2 ^ 32) f
    let x := d.fn f
    let d := d.setFn f { x with frozenAt := d.run, noticed := false, gatesForced := false, offender := offender, polling := false, pollReads := [],
                                byViolation := decide (cause ≤ 7) }
    d.freezeLayer f

/-- Data written to host memory for a descriptor, checked against the windows in force: one that fails is not written and is a
violation by its function; by a function that is frozen already it brings no code (R97, R98, R105). -/
def Dev.jobWrite (d : Dev) (j : Job) (a : Nat) (bs : List Byte) : Dev :=
  match d.rangeCause j.fn a bs.length false true with
  | none => d.hostOut j.fn a bs
  | some c =>
    let e := d.freeze j.fn c a (some j.id)
    if d.flag .WIN_FRZ_STAT_FROZEN j.fn then e
    else e.modJob j.id (fun x => { x with code := some (min (x.code.getD 0xffff) (causeCode c)) })

/-- The writes that wait in HOST go out in order, each checked against the windows in force (R91, R98). -/
def Dev.flushHeld (d : Dev) (f : Nat) : Dev :=
  if d.mayWrite f then
    (d.fn f).held.foldl (fun d w =>
      match d.rangeCause f w.1 w.2.length false true with
      | none => d.hostWrite f w.1 w.2
      | some c => d.freeze f c w.1) (d.setFn f { d.fn f with held := [] })
  else d

/-! ### Fabric sends (R336, R340 to R342) -/

/-- Traffic class of a message kind (R342). -/
def kindTc (k : Nat) : Nat :=
  if k = 1 ∨ k = 2 then 0 else if 0x20 ≤ k ∧ k ≤ 0x2f then 1
  else if k = 3 ∨ k = 4 ∨ k = 0x10 ∨ k = 0x11 then 2 else if k = 0x12 ∨ k = 0x13 then 3
  else if k = 0x14 ∨ k = 0x15 then 4 else 5

/-- A message queued for launch with the next SEQ of its traffic class. -/
def Dev.fabSend (d : Dev) (m : FabMsg) : Dev :=
  let tc := kindTc m.kind
  let n := Tab.get 0 d.fabSeq tc
  { d with fabOut := d.fabOut ++ [{ m with seq := n, entered := d.now }], fabSeq := Tab.set 0 d.fabSeq tc ((n + 1) % 65536) }

/-- A unicast message. -/
def Dev.fabUnicast (d : Dev) (kind dst : Nat) (payload : List Gran) : Dev :=
  d.fabSend { kind := kind, dst := dst, payload := payload }

/-- A broadcast message. -/
def Dev.fabBcast (d : Dev) (kind : Nat) (payload : List Gran) : Dev :=
  d.fabSend { kind := kind, bcast := true, payload := payload }

/-- Whether a device ID is reachable by the route table (R345). -/
def Dev.reachable (d : Dev) (id : Nat) : Bool := decide (d.get .FAB_ROUTE_DIST id < 33)

/-! ### Event sources and vectors (R368 to R373) -/

/-- The sources now pending, in ascending number. -/
def Dev.pendingSrcs (d : Dev) : List Nat :=
  d.regs.filterMap (fun c => if c.fld = .INT_SRC_STAT_PENDING then some c.i else none)

/-- The pending sources that map to vector `v` of function `f`. -/
def Dev.vecSources (d : Dev) (f v : Nat) : List Nat :=
  d.pendingSrcs.filter (fun s => (d.src s).vector == v && d.srcOwner s == some f)

/-- Moderation is bypassed for a function while its HOST_STATE reads IDLE or SLEEP (R373). -/
def Dev.bypass (d : Dev) (f : Nat) : Bool := (d.fn f).hostState == 1 || (d.fn f).hostState == 2

/-- INT_VEC_CFG of a vector comes into force: at a write while the vector is not active, or at its exit (R381). -/
def Dev.latchVec (d : Dev) (f v : Nat) : Dev :=
  d.setVec f v { d.vec f v with
    prio := d.get .INT_VEC_CFG_PRIO f v, minIntUs := d.get .INT_VEC_CFG_MIN_INT_US f v, countThr := d.get .INT_VEC_CFG_COUNT_THR f v }

/-- Whether a pending vector is ready under moderation (R373). -/
def Dev.vecReady (d : Dev) (f v : Nat) : Bool :=
  let ss := d.vecSources f v
  let count := ss.foldl (fun n s => n + d.get .INT_SRC_STAT_COUNT s) 0
  let first := ss.foldl (fun m s => min m (d.src s).firstRun) d.run
  let x := d.vec f v
  !ss.isEmpty &&
    (d.bypass f || decide (x.countThr ≤ count) || decide (x.minIntUs = 0)
      || decide (max x.lastMsg first + x.minIntUs * qUs ≤ d.run))

/-- PENDING and READY of a vector brought up to date. -/
def Dev.refreshVec (d : Dev) (f v : Nat) : Dev :=
  (d.putB .INT_VEC_STAT_PENDING (!(d.vecSources f v).isEmpty) f v).putB .INT_VEC_STAT_READY (d.vecReady f v) f v

/-- The forward of an occurrence to the peer of its slot (R380). -/
def Dev.forwardSrc (d : Dev) (s : Nat) : Dev :=
  if d.flag .INT_SRC_CFG_FWD s then
    let k := d.get .INT_SRC_CFG_FWD_SLOT s
    let peer := d.get .INT_PEER_PEER_ID k
    if d.flag .INT_PEER_ENABLE k && d.reachable peer then
      (d.fabUnicast 0x15 peer [BitVec.ofNat 128 (s + ts64 d.now * 2 ^ 64)]).bump .INT_FWD_CNT_SENT
    else d.bump .INT_FWD_CNT_DROPPED
  else d

/-- A source becomes pending, or counts one more occurrence (R370). -/
def Dev.pendSrc (d : Dev) (s : Nat) : Dev :=
  if d.flag .INT_SRC_STAT_PENDING s then d.bump .INT_SRC_STAT_COUNT 1 s
  else
    let x := d.src s
    let v := if d.flag .INT_SRC_STAT_ACTIVE s then x.vector else d.get .INT_SRC_CFG_VECTOR s
    ((d.setSrc s { x with first := d.now, firstRun := d.run, vector := v }).raise .INT_SRC_STAT_PENDING s).put .INT_SRC_STAT_COUNT 1 s

/-- Work in flight of a function: slots to fetch, descriptors not completed, and completion entries or event records that wait in
HOST (R69). -/
def Dev.flight (d : Dev) (f : Nat) : Bool :=
  let x := d.fn f
  (List.range 64).any (fun r => d.flag .HIF_SQ_CFG_ENABLE f r && (d.sq f r).pi != (d.sq f r).fetch)
    || d.jobs.any (fun j => j.fn == f && j.status != .replayable)
    || !x.waiting.isEmpty || d.pendingSrcs.any (fun s => d.srcOwner s == some f)

/-- HIF_STAT.IN_FLIGHT brought up to date. -/
def Dev.showFlight (d : Dev) (f : Nat) : Dev := d.putB .HIF_STAT_IN_FLIGHT (d.flight f) f

/-- An occurrence of an event source (R369, R370, R380). -/
def Dev.occur (d : Dev) (s : Nat) : Dev :=
  if d.flag .INT_SRC_CFG_EN s then
    let d := (d.forwardSrc s).pendSrc s
    match d.srcOwner s with
    | some f => (d.refreshVec f (d.src s).vector).showFlight f
    | none => d
  else d

/-! ### Records (R382 to R391) -/

/-- SOURCE of a record of an island and a unit within it; 0x3F for no unit (R382). -/
def recSource (island unit : Nat) : Nat := island * 64 + unit

/-- The 32-byte record as a 256-bit number, CRC included (R382, R383). -/
def Rec.encode (r : Rec) : Nat :=
  let body := r.code % 2 ^ 16 + r.sev % 8 * 2 ^ 16 + r.source % 2 ^ 13 * 2 ^ 19 + r.opSec % 2 ^ 32 * 2 ^ 32
    + r.pcyc % 2 ^ 24 * 2 ^ 64 + r.subsec % 256 * 2 ^ 88 + r.p0 % 2 ^ 32 * 2 ^ 96 + r.p1 % 2 ^ 32 * 2 ^ 128
    + r.p2 % 2 ^ 32 * 2 ^ 160 + r.p3 % 2 ^ 32 * 2 ^ 192
  body + crc32c (leBytes 28 body) * 2 ^ 224

/-- Whether the content of a log slot is a valid record (R383). -/
def recValid (w : Nat) : Bool := crc32c (leBytes 28 w) == w / 2 ^ 224 % 2 ^ 32 && w != 0

/-- Severity of a record in a slot. -/
def recSev (w : Nat) : Nat := bitsOf w 18 16

/-- Operating time in quanta (R384). -/
def Dev.opTime (d : Dev) : Nat := d.recorder.opBase + d.run

/-- The count of a dropped record's severity (R386, R387). -/
def Dev.countDrop (d : Dev) (sev : Nat) : Dev :=
  if sev % 2 = 0 then d.bump .REC_DROP_LO 1 (sev / 2) else d.bump .REC_DROP_HI 1 (sev / 2)

/-- Remove the newest record of severity `sev` from a queue. -/
def dropNewest (sev : Nat) : List Rec → List Rec
  | [] => []
  | r :: rs => if rs.any (fun x => x.sev == sev) then r :: dropNewest sev rs
    else if r.sev == sev then rs else r :: dropNewest sev rs

/-- A record enters the queue of the recorder (R387). -/
def Dev.queueRec (d : Dev) (r : Rec) : Dev :=
  let q := d.recorder.queue
  let d :=
    if q.length < 256 then { d with recorder := { d.recorder with queue := q ++ [r] } }
    else
      let low := q.foldl (fun m x => min m x.sev) 7
      if low < r.sev then
        { d with recorder := { d.recorder with queue := dropNewest low q ++ [r] } }.countDrop low
      else d.countDrop r.sev
  d.put .REC_STAT_QUEUED d.recorder.queue.length

/-- A record is placed in HOST as a waiting mirrored record; a 65th displaces the oldest (R377, R388). -/
def Dev.mirrorRec (d : Dev) (w : Nat) : Dev :=
  let m := d.recorder.mirror
  let d :=
    if m.length < 64 then { d with recorder := { d.recorder with mirror := m ++ [w] } }
    else { d with recorder := { d.recorder with mirror := m.tail ++ [w] } }.bump .INT_STAT_MIRROR_DROP
  d.occur 144

/-- The volatile ring of 64 records takes a record, the oldest giving way (R390). -/
def Dev.vringRec (d : Dev) (w : Nat) : Dev :=
  let x := d.recorder
  { d with recorder := { x with
    vring := if x.vring.length < 64 then x.vring ++ [w] else x.vring.set x.vnext w, vnext := (x.vnext + 1) % 64 } }

/-- A record on the paths of a degraded recorder (R390); one that is mirrored already is not mirrored again. -/
def Dev.degradedRec (d : Dev) (r : Rec) (mirror : Bool := true) : Dev :=
  let w := r.encode
  let d := if mirror then (d.vringRec w).mirrorRec w else d.vringRec w
  if 3 ≤ r.sev then d.fabBcast 0x14 [BitVec.ofNat 128 w, BitVec.ofNat 128 (w / 2 ^ 128)] else d

/-- A record of an event: stamped with operating time, queued for MRAM and mirrored (R382, R384, R387, R388), or on
the degraded paths (R390). -/
def Dev.record (d : Dev) (code sev source : Nat) (p0 : Nat := 0) (p1 : Nat := 0) (p2 : Nat := 0) (p3 : Nat := 0) :
    Dev :=
  let t := d.opTime
  let r : Rec := { code := code, sev := sev, source := source, opSec := t / qSec,
                   pcyc := d.get .REC_PCYC_PCYC, subsec := t % qSec * 256 / qSec,
                   p0 := p0, p1 := p1, p2 := p2, p3 := p3 }
  if d.flag .REC_STAT_LOG_DEGRADED then d.degradedRec r
  else
    let d := d.queueRec r
    if 3 ≤ sev then d.mirrorRec r.encode else d

/-- No healthy block remains, or MGMT is out of service (R390): LOG_DEGRADED and source 145, the LOG_DEGRADED record first, then
the record under way and those that waited for MRAM, on the paths of a degraded recorder. -/
def Dev.degrade (d : Dev) (rs : List Rec) : Dev :=
  if d.flag .REC_STAT_LOG_DEGRADED then d
  else
    let q := rs ++ d.recorder.queue
    let d := { d.raise .REC_STAT_LOG_DEGRADED with recorder := { d.recorder with queue := [] } }
    let d := ((d.put .REC_STAT_QUEUED 0).occur 145).record 0x0003 5 (recSource 48 63)
    q.foldl (fun d r => d.degradedRec r (decide (r.sev < 3))) d

/-- A record whose parameter is a signed number. -/
def p32 (x : Int) : Nat := uInt 32 x

end Sys2Proof.Machine
end

