-- ==== Sys2Proof/Machine/Operands.lean ====
section
/-! DEFINITION. The operands of descriptors: the common header (R72 to R75), every payload form of every opcode, and
the descriptor errors of class 0x01xx that the words alone decide (R7, R12, R15, R86). -/

namespace Sys2Proof.Machine

open Sys2Proof

/-! ### The common header -/

/-- Word `k` of a descriptor as a number; absent words read 0. -/
def Job.w (j : Job) (k : Nat) : Nat := (j.words.getD k 0#128).toNat

/-- Words 0 to 3 as one 512-bit number: descriptor bits 0 to 511 (R8). -/
def Job.desc (j : Job) : Nat := j.w 0 + j.w 1 * 2 ^ 128 + j.w 2 * 2 ^ 256 + j.w 3 * 2 ^ 384

/-- Descriptor bits `[hi:lo]` (R8). -/
def Job.bits (j : Job) (hi lo : Nat) : Nat := bitsOf j.desc hi lo

def Job.opcode (j : Job) : Nat := bitsOf (j.w 0) 7 0
def Job.flags (j : Job) : Nat := bitsOf (j.w 0) 15 8
def Job.sequence (j : Job) : Nat := bitsOf (j.w 0) 31 16
def Job.target (j : Job) : Nat := bitsOf (j.w 0) 39 32
def Job.length (j : Job) : Nat := bitsOf (j.w 0) 47 40
def Job.schedule (j : Job) : Nat := bitsOf (j.w 0) 127 64

/-- FLAGS of R73; descriptor bit numbers. -/
def Job.noCqeOk (j : Job) : Bool := hasBit (j.w 0) 8
def Job.fence (j : Job) : Bool := hasBit (j.w 0) 9
def Job.irq (j : Job) : Bool := hasBit (j.w 0) 10
def Job.lateOk (j : Job) : Bool := hasBit (j.w 0) 11

/-- ADDR of every opcode that points to host memory: descriptor bits [191:128]. -/
def Job.addr (j : Job) : Nat := j.bits 191 128

/-- Slots that a descriptor of a payload length occupies (R75). -/
def slotsFor (len : Nat) : Nat := if len ≤ 3 then 1 else (len + 1 + 3) / 4

/-! ### Targets and opcodes -/

/-- Resource classes of TARGET (R74). -/
inductive TargetClass where
  | engine | tile | axis | context | system
  deriving DecidableEq, Repr

/-- The class and number of a TARGET; none for any other value (R74). -/
def targetOf (t : Nat) : Option (TargetClass × Nat) :=
  if t ≤ 0x21 then some (.engine, t)
  else if 0x40 ≤ t ∧ t ≤ 0x4f then some (.tile, t - 0x40)
  else if 0x50 ≤ t ∧ t ≤ 0x57 then some (.axis, t - 0x50)
  else if 0x60 ≤ t ∧ t ≤ 0x6f then some (.context, t - 0x60)
  else if t = 0x80 then some (.system, 0)
  else none

/-- The classes of target that an opcode belongs to; empty for an opcode not defined (R122, R244, R281, R302, R311 and
the system opcodes of every chapter). -/
def opcodeTargets (op : Nat) : List TargetClass :=
  if op = 0x21 then [.engine, .tile, .axis, .context]
  else if op = 0x20 ∨ op = 0x22 ∨ op = 0x23 then [.system]
  else if 0x30 ≤ op ∧ op ≤ 0x36 then [.engine]
  else if 0x44 ≤ op ∧ op ≤ 0x46 then [.system]
  else if op = 0x48 ∨ op = 0x49 ∨ (0x4c ≤ op ∧ op ≤ 0x4f) then [.system]
  else if 0x50 ≤ op ∧ op ≤ 0x52 then [.tile]
  else if 0x58 ≤ op ∧ op ≤ 0x5e then [.axis]
  else if 0x60 ≤ op ∧ op ≤ 0x63 then [.context]
  else if (0x70 ≤ op ∧ op ≤ 0x72) ∨ (0x78 ≤ op ∧ op ≤ 0x7a) ∨ (0x7c ≤ op ∧ op ≤ 0x7f) then [.system]
  else []

/-- LENGTH values an opcode accepts, least and greatest. -/
def opcodeLength (op : Nat) : Nat × Nat :=
  if op = 0x31 then (1, 255)
  else if op = 0x20 ∨ op = 0x70 ∨ op = 0x78 then (2, 2)
  else if op = 0x22 ∨ op = 0x32 ∨ op = 0x35 ∨ op = 0x4c ∨ op = 0x51 ∨ op = 0x52 ∨ op = 0x5a ∨ op = 0x5d ∨ op = 0x5e
    ∨ op = 0x63 ∨ op = 0x79 ∨ op = 0x7c ∨ op = 0x7d then (0, 0)
  else (1, 1)

/-- The code of a system descriptor that only function 0 may submit (R238, R350, R366, R392, R415, R424, R446). -/
def opcodeF0Code (op : Nat) : Option Nat :=
  if op = 0x48 ∨ op = 0x49 then some 0x0191
  else if 0x78 ≤ op ∧ op ≤ 0x7a then some 0x01e9
  else if op = 0x7c ∨ op = 0x7d then some 0x01f0
  else if op = 0x7e ∨ op = 0x7f then some 0x0104
  else if op = 0x4c then some 0x01fc
  else if 0x4d ≤ op ∧ op ≤ 0x4f then some 0x01f8
  else if 0x44 ≤ op ∧ op ≤ 0x46 then some 0x01fe
  else none

/-- The named payload ranges of an opcode, as descriptor bits (hi, lo); every other payload bit is reserved. -/
def opcodeFields (op : Nat) : List (Nat × Nat) :=
  if op = 0x20 then [(202, 128), (313, 208)]
  else if op = 0x21 then [(130, 128)]
  else if op = 0x23 then [(129, 128)]
  else if op = 0x30 then [(223, 128)]
  else if op = 0x33 then [(216, 128)]
  else if op = 0x34 then [(193, 128)]
  else if op = 0x36 then [(191, 128)]
  else if op = 0x44 then [(223, 128)]
  else if op = 0x45 then [(129, 128)]
  else if op = 0x46 then [(135, 128)]
  else if op = 0x48 ∨ op = 0x49 then [(223, 128)]
  else if op = 0x4d then [(137, 128)]
  else if op = 0x4e ∨ op = 0x4f then [(191, 128)]
  else if op = 0x50 then [(208, 128)]
  else if op = 0x58 then [(184, 128)]
  else if op = 0x59 then [(128, 128)]
  else if op = 0x5b then [(151, 128), (255, 160)]
  else if op = 0x5c then [(207, 128)]
  else if op = 0x60 then [(235, 128)]
  else if op = 0x61 then [(235, 128)]
  else if op = 0x62 then [(192, 128)]
  else if op = 0x70 then [(260, 128), (303, 288)]
  else if op = 0x71 then [(211, 128)]
  else if op = 0x72 then [(205, 128), (215, 208)]
  else if op = 0x78 then [(185, 128), (239, 192), (287, 256)]
  else if op = 0x7a then [(137, 128)]
  else if op = 0x7e then [(224, 128)]
  else if op = 0x7f then [(130, 128)]
  else []

/-- A number with bits `[hi:lo]` cleared. -/
def clearBits (x hi lo : Nat) : Nat := x - bitsOf x hi lo * 2 ^ lo

/-- Whether every reserved bit of a descriptor is 0 (R7, R72, R73, R75). -/
def Job.reservedZero (j : Job) : Bool :=
  bitsOf (j.w 0) 15 12 == 0 && bitsOf (j.w 0) 63 48 == 0 && (j.words.drop (j.length + 1)).all (fun g => g == 0#128) &&
  (if j.opcode = 0x31 then true
   else
     (j.words.drop 4).all (fun g => g == 0#128) &&
     (opcodeFields j.opcode).foldl (fun x r => clearBits x r.1 r.2) (j.desc / 2 ^ 128 * 2 ^ 128) == 0)

/-- Whether every nanoseconds field of a descriptor is valid (R12, R332). -/
def Job.timesValid (j : Job) : Bool :=
  nsValid (j.schedule % 2 ^ 32) &&
  (if j.opcode = 0x70 then
     (if j.bits 260 259 = 1 ∨ j.bits 260 259 = 2 then nsValid (j.bits 159 128) else true)
   else if j.opcode = 0x72 then nsValid (j.bits 205 176) else true)

/-- Whether WIDTH_NS of a TIM_PULSE is in range for its mode (R332). -/
def pulseWidthOk (mode period width : Nat) : Bool :=
  if mode = 0 then true
  else if mode = 2 then decide (100 ≤ period ∧ 10 ≤ width ∧ width + 10 ≤ period)
  else decide (10 ≤ width ∧ width ≤ 1000000000)

/-- Whether every parameter field lies in its stated range: otherwise 0x0107 (R86 and the opcode tables). -/
def Job.paramsOk (j : Job) : Bool :=
  let op := j.opcode
  if op = 0x30 then decide (j.addr % 16 = 0 ∧ 1 ≤ j.bits 223 192 ∧ j.bits 223 192 ≤ 65536)
  else if op = 0x33 then
    decide (1 ≤ j.bits 143 128 ∧ 1 ≤ j.bits 159 144 ∧ 1 ≤ j.bits 175 160 ∧ 1 ≤ j.bits 191 176 ∧ j.bits 199 192 ≤ 90)
  else if op = 0x34 then decide (j.addr % 16 = 0 ∧ j.bits 193 192 ≠ 3)
  else if op = 0x36 then decide (j.addr % 16 = 0)
  else if op = 0x44 then
    decide (j.addr % 16 = 0 ∧ j.bits 223 192 % 4096 = 0 ∧ 8192 ≤ j.bits 223 192 ∧ j.bits 223 192 ≤ 8388608)
  else if op = 0x46 then decide (j.bits 134 128 ≤ 82)
  else if op = 0x48 ∨ op = 0x49 then decide (j.addr % 16 = 0 ∧ 1 ≤ j.bits 223 208)
  else if op = 0x4d then decide (j.bits 131 128 ≤ 3 ∧ j.bits 137 132 ≤ 33)
  else if op = 0x4e ∨ op = 0x4f then decide (j.addr % 64 = 0)
  else if op = 0x50 then decide (j.addr % 64 = 0 ∧ 1 ≤ j.bits 207 192)
  else if op = 0x5b then decide (j.bits 151 128 ≤ 8388607)
  else if op = 0x60 then decide (j.addr % 64 = 0 ∧ 1 ≤ j.bits 207 192)
  else if op = 0x61 ∨ op = 0x62 then decide (j.addr % 64 = 0)
  else if op = 0x70 then pulseWidthOk (j.bits 260 259) (j.bits 223 192) (j.bits 255 224)
  else if op = 0x71 then decide (j.addr % 16 = 0 ∧ 1 ≤ j.bits 207 192 ∧ j.bits 211 210 ≠ 0)
  else if op = 0x7e then
    decide (j.addr % 16 = 0 ∧ 1 ≤ j.bits 223 208 ∧
      j.bits 207 192 + j.bits 223 208 ≤ (if j.bits 224 224 = 1 then 64 else 49152))
  else if op = 0x7f then decide (j.bits 130 128 ≤ 6)
  else true

/-- The lower of two completion codes (R86). -/
def lowCode : Option Nat → Option Nat → Option Nat
  | none, b => b
  | a, none => a
  | some a, some b => some (min a b)

/-- The lowest code of a list whose conditions hold (R86). -/
def lowest (l : List (Bool × Nat)) : Option Nat :=
  l.foldl (fun m p => if p.1 then lowCode m (some p.2) else m) none

/-- The descriptor errors that the words alone decide, lowest first (R7, R12, R74, R86). -/
def Job.wordCode (j : Job) : Option Nat :=
  let op := j.opcode
  let ts := opcodeTargets op
  lowest [
    (ts.isEmpty, 0x0101),
    (!ts.isEmpty && !j.reservedZero, 0x0102),
    ((targetOf j.target).isNone, 0x0103),
    (!ts.isEmpty && ((targetOf j.target).map (fun c => !ts.contains c.1)).getD false, 0x0104),
    (!ts.isEmpty && !(decide ((opcodeLength op).1 ≤ j.length ∧ j.length ≤ (opcodeLength op).2)), 0x0105),
    (!j.timesValid, 0x0106),
    (!j.paramsOk, 0x0107)]

end Sys2Proof.Machine
end

