-- ==== Sys2Proof/Machine/Path.lean ====
section
/-! DEFINITION. The geometry and kinematics of the spot path: fixed-point trigonometry and the unit vectors of R483,
the jerk-limited change of speed of R128, junctions (R129, R130), and the timed pieces a planned path is made of.
Positions are in nm, speeds in nm/s, instants in quanta of 1/256 ns; divisions round as each definition says. -/

namespace Sys2Proof.Machine

open Sys2Proof

/-! ### Integer square root and trigonometry -/

/-- The integer square root, rounded down. -/
def isqrt (n : Nat) : Nat :=
  (List.range 160).foldr (fun k r => if (r + 2 ^ k) * (r + 2 ^ k) ≤ n then r + 2 ^ k else r) 0

/-- The integer square root, rounded to nearest. -/
def isqrtNear (n : Nat) : Nat := (isqrt (4 * n) + 1) / 2

/-- The scale of fixed-point trigonometry. -/
def trigOne : Nat := 2 ^ 160

/-- π at that scale, rounded down. -/
def piFix : Nat := 4591442807048218921384805199743311128454155024418

/-- One more term of an alternating series: sum, term and index. -/
def taylorStep (x2 : Nat) (a : Int × Nat × Nat) : Int × Nat × Nat :=
  let t := a.2.1 * x2 / trigOne / trigOne / ((a.2.2 + 1) * (a.2.2 + 2))
  (if a.2.2 / 2 % 2 = 0 then a.1 - (t : Int) else a.1 + (t : Int), t, a.2.2 + 2)

/-- Cosine of an angle of 0 to 2π. -/
def cosFix (x : Nat) : Int :=
  ((List.range 48).foldl (fun a _ => taylorStep (x * x) a) ((trigOne : Int), trigOne, 0)).1

/-- Sine of an angle of 0 to 2π. -/
def sinFix (x : Nat) : Int :=
  ((List.range 48).foldl (fun a _ => taylorStep (x * x) a) ((x : Int), x, 1)).1

/-- One more term of the arcsine series: sum, term and odd index. -/
def asinStep (x2 : Nat) (a : Nat × Nat × Nat) : Nat × Nat × Nat :=
  let t := a.2.1 * x2 / trigOne * (a.2.2 * a.2.2) / trigOne / ((a.2.2 + 1) * (a.2.2 + 2))
  (a.1 + t, t, a.2.2 + 2)

/-- Arcsine of a number of at most 1/2. -/
def asinFix (x : Nat) : Nat := ((List.range 40).foldl (fun a _ => asinStep (x * x) a) (x, x, 1)).1

/-- Rounding to nearest, halves away from zero (R176, R483). -/
def rndAway (num : Int) (den : Nat) : Int :=
  if 0 ≤ num then (2 * num + den) / (2 * den) else -((2 * (-num) + den) / (2 * den))

/-- The unit vector of an angle field in 1/65,536 turn (R483). -/
def unitOf (a : Nat) : Int × Int :=
  let x := a % 65536 * 2 * piFix / 65536
  (rndAway (cosFix x * 2 ^ 30) trigOne, rndAway (sinFix x * 2 ^ 30) trigOne)

/-- Dot product of plane vectors. -/
def dot (ax ay bx by' : Int) : Int := ax * bx + ay * by'

/-- Cross product of plane vectors. -/
def cross (ax ay bx by' : Int) : Int := ax * by' - ay * bx

/-- Length of a plane vector in nm, rounded to nearest. -/
def lenOf (x y : Int) : Nat := isqrtNear (x * x + y * y).toNat

/-- Distance of two points in X and Y. -/
def Pt.dist (p q : Pt) : Nat := lenOf (q.x - p.x) (q.y - p.y)

/-- The point at a distance along the line from `p` to `q` of a length; X, Y and Z rounded to nearest (R134). -/
def Pt.along (p q : Pt) (len : Nat) (s : Int) : Pt :=
  if len = 0 then p
  else { x := p.x + roundHalfUp ((q.x - p.x) * s) len, y := p.y + roundHalfUp ((q.y - p.y) * s) len,
         z := p.z + roundHalfUp ((q.z - p.z) * s) len }

/-- The point beyond `q` on the line from `p`, with `q`'s Z (R133). -/
def Pt.beyond (p q : Pt) (len d : Nat) : Pt :=
  if len = 0 then q
  else { x := q.x + roundHalfUp ((q.x - p.x) * d) len, y := q.y + roundHalfUp ((q.y - p.y) * d) len, z := q.z }

/-! ### Change of speed (R128) -/

/-- A_MAX in nm/s² and J_MAX in nm/s³. -/
def Lims.acc (l : Lims) : Nat := l.amax * 10000000000
def Lims.jrk (l : Lims) : Nat := l.jmax * 100000000000000

/-- Duration of a change of speed, in quanta. -/
def changeTime (a j v0 v1 : Nat) : Nat :=
  let dv := max v0 v1 - min v0 v1
  if dv * j ≤ a * a then isqrt (4 * dv * qSec * qSec / j) else dv * qSec / a + a * qSec / j

/-- Distance of a change of speed, in nm. -/
def changeDist (a j v0 v1 : Nat) : Nat := (v0 + v1) * changeTime a j v0 v1 / (2 * qSec)

/-- Highest number from `lo` to `hi` that passes a test which holds at `lo` and, once failed, fails above. -/
def highest (lo hi : Nat) (ok : Nat → Bool) : Nat :=
  ((List.range 48).foldl
    (fun b _ => let m := (b.1 + b.2 + 1) / 2; if b.2 ≤ b.1 then b else if ok m then (m, b.2) else (b.1, m - 1))
    (lo, hi)).1

/-- reach(v, d) of R128, at most `cap`. -/
def reach (l : Lims) (v d cap : Nat) : Nat :=
  if cap ≤ v then cap else highest v cap (fun u => decide (changeDist l.acc l.jrk v u ≤ d))

/-- Distance and speed along a change of speed after time `t`, from its start to the end of its first half or first
jerk phase, by the magnitude of the change: (nm, nm/s). -/
def jerkPhase (j t : Nat) : Nat × Nat := (j * t * t * t / (6 * qSec * qSec * qSec), j * t * t / (2 * qSec * qSec))

/-- Distance and speed on a piece after time `t`. -/
def Piece.at' (p : Piece) (t : Nat) : Nat × Nat :=
  let t := min t p.dur
  if p.v0 = p.v1 then (min p.len (p.v0 * t / qSec), p.v0)
  else
    let dv := max p.v0 p.v1 - min p.v0 p.v1
    let tj := if dv * p.jerk ≤ p.acc * p.acc then p.dur / 2 else p.acc * qSec / p.jerk
    let up := p.v0 < p.v1
    if t ≤ tj then
      let r := jerkPhase p.jerk t
      if up then (min p.len (p.v0 * t / qSec + r.1), p.v0 + r.2)
      else (min p.len (p.v0 * t / qSec - r.1), p.v0 - r.2)
    else if p.dur ≤ t + tj then
      let u := p.dur - t
      let r := jerkPhase p.jerk u
      if up then (p.len - (p.v1 * u / qSec - r.1), p.v1 - r.2) else (p.len - (p.v1 * u / qSec + r.1), p.v1 + r.2)
    else
      let r := jerkPhase p.jerk tj
      let u := t - tj
      let g := p.acc * u * u / (2 * qSec * qSec)
      if up then (min p.len (p.v0 * tj / qSec + r.1 + (p.v0 + r.2) * u / qSec + g), p.v0 + r.2 + p.acc * u / qSec)
      else (min p.len (p.v0 * tj / qSec - r.1 + (p.v0 - r.2) * u / qSec - g), p.v0 - r.2 - p.acc * u / qSec)

/-- End instant of a piece. -/
def Piece.t1 (p : Piece) : Nat := p.t0 + p.dur

/-- Whether a piece exposes (R155, R227). -/
def Piece.exposing (p : Piece) : Bool := decide (p.kind = .body ∨ p.kind = .arc ∨ p.kind = .dwell)

/-- The point at a distance on a piece. -/
def Piece.point (p : Piece) (s : Nat) : Pt :=
  if p.kind = .arc then
    let dx := p.p.x - p.cx
    let dy := p.p.y - p.cy
    let r := lenOf dx dy
    if r = 0 then p.p
    else
      let th := s * trigOne / r
      let c := cosFix th
      let sn := if p.left then sinFix th else -(sinFix th)
      { x := p.cx + roundHalfUp (dx * c - dy * sn) trigOne, y := p.cy + roundHalfUp (dx * sn + dy * c) trigOne,
        z := p.p.z + (if p.len = 0 then 0 else roundHalfUp ((p.q.z - p.p.z) * s) p.len) }
  else p.p.along p.q p.len s

/-- Where the spot is on a piece at an instant. -/
def Piece.pos (p : Piece) (t : Nat) : Pt := p.point (p.at' (t - p.t0)).1

/-- The first instant at which a piece has covered a distance. -/
def Piece.when (p : Piece) (s : Nat) : Nat :=
  p.t0 + (p.dur - highest 0 p.dur (fun k => decide (s ≤ (p.at' (p.dur - k)).1)))

/-- The piece that holds an instant. -/
def pieceAt (ps : List Piece) (t : Nat) : Option Piece := ps.find? (fun p => decide (p.t0 ≤ t ∧ t < p.t1))

/-- Where a path is at an instant: on a piece, or at rest at the end of the last piece before it. -/
def posAt (rest : Pt) (ps : List Piece) (t : Nat) : Pt :=
  match pieceAt ps t with
  | some p => p.pos t
  | none => (ps.filter (fun p => decide (p.t1 ≤ t))).foldl (fun _ p => p.q) rest

/-! ### Straight motion -/

/-- A piece of straight motion between two arc positions of a line. -/
def linePiece (l : Lims) (k : PieceKind) (p q : Pt) (len : Nat) (s0 : Int) (ser t a b v0 v1 : Nat) : Piece :=
  { kind := k, t0 := t, p := p.along q len a, q := p.along q len b, len := b - a, s0 := s0 + a, v0 := v0, v1 := v1,
    acc := l.acc, jerk := l.jrk, ser := ser,
    dur := if v0 = v1 then (if v0 = 0 then 0 else (b - a) * qSec / v0) else changeTime l.acc l.jrk v0 v1 }

/-- The lowest speed that `v0` can fall to within a distance (R128). -/
def slowest (l : Lims) (v0 len : Nat) : Nat :=
  v0 - highest 0 v0 (fun k => decide (changeDist l.acc l.jrk v0 (v0 - k) ≤ len))

/-- The speeds a line is run at: its peak, and its end speed, within what can be reached (R128, R131). -/
def lineSpeeds (l : Lims) (len v0 v v1 : Nat) : Nat × Nat :=
  let v1 := min v1 (max v0 (reach l v0 len (max v v0)))
  let v1 := if v1 < v0 then max v1 (slowest l v0 len) else v1
  if changeDist l.acc l.jrk v0 v + changeDist l.acc l.jrk v v1 ≤ len then (v, v1)
  else (highest (max v0 v1) (max v (max v0 v1))
          (fun u => decide (changeDist l.acc l.jrk v0 u + changeDist l.acc l.jrk u v1 ≤ len)), v1)

/-- Straight motion from arc position `lo` to `hi` of the line from `p` to `q`, from speed `v0` to at most `v` and to
`v1` at its end: accelerate, cruise, decelerate (R131). -/
def lineOn (l : Lims) (k : PieceKind) (p q : Pt) (len : Nat) (s0 : Int) (ser t lo hi v0 v v1 : Nat) : List Piece :=
  let n := hi - lo
  let (u, w) := lineSpeeds l n v0 v v1
  let da := min n (changeDist l.acc l.jrk v0 u)
  let dd := min (n - da) (changeDist l.acc l.jrk u w)
  let a := linePiece l k p q len s0 ser t lo (lo + da) v0 u
  let c := linePiece l k p q len s0 ser a.t1 (lo + da) (hi - dd) u u
  let e := linePiece l k p q len s0 ser c.t1 (hi - dd) hi u w
  [a, c, e].filter (fun x => decide (0 < x.dur))

/-- A whole straight line. -/
def line (l : Lims) (k : PieceKind) (p q : Pt) (s0 : Int) (ser t v0 v v1 : Nat) : List Piece :=
  lineOn l k p q (p.dist q) s0 ser t 0 (p.dist q) v0 v v1

/-- End instant of a list of pieces begun at `t`. -/
def endOf (t : Nat) (ps : List Piece) : Nat := ps.foldl (fun _ p => p.t1) t

/-- A laser-off move from rest to rest, at least `least` quanta long with the rest at its end (R121, R134). -/
def offMove (l : Lims) (p q : Pt) (ser t vmax least : Nat) : List Piece :=
  let ps := if p.x = q.x ∧ p.y = q.y then [] else line l .off p q 0 ser t 0 vmax 0
  let e := endOf t ps
  if e < t + least then ps ++ [{ kind := .rest, t0 := e, dur := t + least - e, p := q, q := q, ser := ser }] else ps

/-! ### Records as the planner sees them (R117, R120, R121) -/

/-- Whether a class is a segment (R117). -/
def segClass (c : Nat) : Bool := decide (c = 1 ∨ c = 2 ∨ c = 3 ∨ c = 4 ∨ c = 7)

/-- A segment that exposes. -/
def LRec.seg (r : LRec) : Bool := segClass r.cls

/-- Zero length in X and Y (R120). -/
def LRec.zero (r : LRec) : Bool := r.seg && decide (r.S.x = r.E.x ∧ r.S.y = r.E.y)

/-- Transparent to motion (R129). -/
def LRec.clear (r : LRec) : Bool := decide (r.cls = 6) || r.zero

/-- Length of a record's path. -/
def LRec.len (r : LRec) : Nat := r.S.dist r.E

/-- The planned speed of a segment in nm/s, and whether it was limited (R121). -/
def LRec.segSpeed (r : LRec) (l : Lims) : Nat × Bool :=
  let v := min r.speed l.vmax * 1000000
  let floorV := r.len * qSec / (500 * qNs)
  (min v floorV, decide (l.vmax < r.speed) || decide (floorV < v))

/-- The speed of a JUMP in nm/s, and whether it was limited (R121). -/
def LRec.jumpSpeed (r : LRec) (l : Lims) : Nat × Bool :=
  (if r.speed = 0 then l.vjump * 1000000 else min r.speed l.vjump * 1000000, decide (l.vjump < r.speed))

/-- The lower of two sets of limits, for the junction between them, with the TENON_EN of the first (R126). -/
def Lims.lower (a b : Lims) : Lims :=
  { amax := min a.amax b.amax, jmax := min a.jmax b.jmax, vmax := min a.vmax b.vmax, vjump := min a.vjump b.vjump,
    blend := min a.blend b.blend, tol := min a.tol b.tol, tenon := a.tenon }

/-- The lower limits of a junction with the TENON_EN of the second set: those of its lead-in (R126). -/
def Lims.after (a b : Lims) : Lims := { a.lower b with tenon := b.tenon }

/-- Whether the turning angle between two directions is at most `deg` degrees, exactly (R129). The tangent of a whole
number of degrees is rational only at 0 and 45, so elsewhere the angle never equals it. -/
def turnWithin (ax ay bx by' : Int) (deg : Nat) : Bool :=
  let c := dot ax ay bx by'
  let x := (cross ax ay bx by').natAbs
  if deg = 0 then decide (0 < c ∧ x = 0)
  else if deg = 45 then decide (0 < c ∧ (x : Int) ≤ c)
  else if 90 ≤ deg then decide (0 ≤ c)
  else decide (0 < c ∧ (x : Int) * cosFix (deg * piFix / 180) ≤ c * sinFix (deg * piFix / 180))

/-- The corner between two consecutive records under their limits; none when the junction is tenoned (R129, R130, R177). -/
def cornerOf (a b : LRec) (la lb : Lims) : Option Corner :=
  let l := la.lower lb
  let ax := a.E.x - a.S.x
  let ay := a.E.y - a.S.y
  let bx := b.E.x - b.S.x
  let by' := b.E.y - b.S.y
  if !(a.seg && b.seg) || a.ends || a.cls == 7 || b.cls == 7 || !turnWithin ax ay bx by' l.blend then none
  else
    let va := (a.segSpeed la).1
    let vb := (b.segSpeed lb).1
    let one : Nat := 2 ^ 60
    let lab := a.len * b.len
    let c := (dot ax ay bx by').toNat * one / lab
    let h := isqrt ((one + c) * one / 2)
    if cross ax ay bx by' = 0 ∨ one ≤ h then some ⟨min va vb, 0, 0⟩
    else
      let r0 := l.tol * h / (one - h)
      let k := isqrt (one * one - h * h) * one / h
      let r := if k = 0 then r0 else min r0 (min a.len b.len * one / (2 * k))
      let v := min (min va vb) (isqrt (l.acc * r))
      if v = 0 then none else some ⟨v, r * k / one, r⟩

/-- Half of a corner's arc: the piece from one tangent point to the midpoint, or on from it (R130). -/
def arcHalf (l : Lims) (c : Corner) (a b : LRec) (first : Bool) (s0 : Int) (ser t : Nat) : List Piece :=
  if c.cut = 0 ∨ c.radius = 0 then []
  else
    let left := decide (0 < cross (a.E.x - a.S.x) (a.E.y - a.S.y) (b.E.x - b.S.x) (b.E.y - b.S.y))
    let p := a.S.along a.E a.len ((a.len : Int) - c.cut)
    let q := b.S.along b.E b.len c.cut
    -- the centre lies a radius to the side of the turn from the first tangent point
    let sx : Int := if left then -(a.E.y - a.S.y) else a.E.y - a.S.y
    let sy : Int := if left then a.E.x - a.S.x else -(a.E.x - a.S.x)
    let cx := p.x + roundHalfUp (sx * c.radius) a.len
    let cy := p.y + roundHalfUp (sy * c.radius) a.len
    -- the midpoint lies on the line from the centre to the corner point
    let d := lenOf (b.S.x - cx) (b.S.y - cy)
    let m : Pt := { x := cx + roundHalfUp ((b.S.x - cx) * c.radius) d, y := cy + roundHalfUp ((b.S.y - cy) * c.radius) d,
                    z := b.S.z }
    let p' := if first then p else m
    let q' := if first then m else q
    -- the length of an arc of radius r on a chord: 2 r asin(chord / 2 r)
    let ch := p'.dist q'
    let len := 2 * c.radius * asinFix (ch * trigOne / (2 * c.radius)) / trigOne
    [{ kind := .arc, t0 := t, dur := len * qSec / c.v, p := p', q := q', len := len, s0 := s0, v0 := c.v, v1 := c.v,
       acc := l.acc, jerk := l.jrk, cx := cx, cy := cy, left := left, ser := ser }]

/-! ### The backward pass (R131) -/

/-- The exit limit of a record before a tenoned junction. -/
def exitTenoned (r : LRec) (l : Lims) (next : Option LRec) : Nat :=
  if r.seg && l.tenon && (next.map (fun n => n.cls != 5)).getD true then (r.segSpeed l).1 else 0

/-- The straight length of a record between its cuts. -/
def straightLen (r : LRec) (cutIn cutOut : Nat) : Nat := r.len - cutIn - cutOut

/-- v_end of the first record of a look-ahead, its start cut by `cutIn` (R131, backward pass). Transparent records must
have been taken out. -/
def backward : List (LRec × Lims) → Nat
  | [] => 0
  | [(r, l)] => exitTenoned r l none
  | (r, l) :: (r', l') :: rest =>
    match cornerOf r r' l l' with
    | none => exitTenoned r l (some r')
    | some c =>
      let after := backward ((r', l') :: rest)
      let cutOut := match rest with
        | [] => 0
        | (r2, l2) :: _ => ((cornerOf r' r2 l' l2).map (·.cut)).getD 0
      min c.v (reach l' after (straightLen r' c.cut cutOut) c.v)

end Sys2Proof.Machine
end

