-- ==== Sys2Proof/Machine/Gate.lean ====
section
/-! DEFINITION. Gate trains, pulses, edges and light (R150 to R172, R482): the shared operations of the laser gate. -/

namespace Sys2Proof.Machine

open Sys2Proof

/-- Whether the device drives its outputs: it belongs to no hinge pair, or is the pair's active one past the gap of its
switchover (R356, R358, R362). HNG_STAT.STATE 1 is ACTIVE. -/
def Dev.drives (d : Dev) : Bool :=
  !d.flag .HNG_CFG_PAIR_EN || (d.get .HNG_STAT_STATE == 1 && d.hinge.deciding.isNone)

/-- Whether the device is a hinge partner fenced off (R354, R356). HNG_STAT.STATE 5 is FENCED. -/
def Dev.fenced (d : Dev) : Bool := d.flag .HNG_CFG_PAIR_EN && d.get .HNG_STAT_STATE == 5

/-- Arc position at which the exposed stretch of a record begins (R156, R164). -/
def LRec.startAt (r : LRec) : Nat :=
  match r.resume, r.share with
  | some m, _ => m
  | none, some s => s.lo
  | none, none => 0

/-- Quanta in one count of 78.125 ps. -/
def qTap : Nat := 20

/-- Quanta in 10 ns. -/
def q10ns : Nat := 2560

/-- Gate timing registers in force, in quanta (R137, R153, R158, R162). -/
def Dev.advOn (d : Dev) (n : Nat) : Nat := d.eff .ENG_GATE_ADV_ON_ADV n * qTap
def Dev.advOff (d : Dev) (n : Nat) : Nat := d.eff .ENG_GATE_ADV_OFF_ADV n * qTap
def Dev.minOff (d : Dev) (n : Nat) : Nat := d.eff .ENG_GATE_CTL_MIN_OFF n * qTap
def Dev.pwrLead (d : Dev) (n : Nat) : Nat := d.eff .ENG_PWR_LEAD_LEAD n * q10ns

/-- The instant a pin edge of a target is placed at: its gate tick and nearest tap (R165, R166). -/
def pinEdge (target : Nat) : Nat :=
  let tick := target / (5 * qNs) * (5 * qNs)
  tick + (2 * (target - tick) + qTap) / (2 * qTap) * qTap

/-- A pin target `adv` before an optical instant (R158). -/
def pinTarget (t adv : Nat) : Nat := t - adv

/-- A change to the gate of an engine. -/
def Dev.modGate (d : Dev) (n : Nat) (g : Gate → Gate) : Dev := d.modEng n (fun e => { e with gate := g e.gate })

/-- A pin rise and the light it starts (R157, R158). -/
def Gate.rise (g : Gate) (pin light cls : Nat) : Gate :=
  { g with edges := g.edges ++ [(pin, true)], light := { rise := light, fall := none, cls := cls, pin := pin } :: g.light }

/-- A pin fall, the light it ends, and the earliest next pin rise (R162). -/
def Gate.fall (g : Gate) (pin light minOff : Nat) : Gate :=
  { g with
    edges := g.edges ++ [(pin, false)], lastFall := pin, early := pin + minOff,
    light := match g.light with
      | l :: ls => { l with fall := some light } :: ls
      | [] => [] }

/-- The last pin fall placed is taken back, with the end of its light: the gate stays high (R162). -/
def Gate.unfall (g : Gate) : Gate :=
  { g with
    edges := g.edges.dropLast,
    light := match g.light with
      | l :: ls => { l with fall := none } :: ls
      | [] => [] }

/-- The train whose edges are placed next: the oldest that has ended with positions to compare, else the one in force (R160). -/
def Gate.headTrain (g : Gate) : Option Train :=
  match g.olds with
  | t :: _ => some t
  | [] => g.train

/-- That train changed. -/
def Gate.putTrain (g : Gate) (tr : Train) : Gate :=
  match g.olds with
  | _ :: ts => { g with olds := tr :: ts }
  | [] => { g with train := some tr }

/-- The pin rise of the light now open, or placed last. -/
def Gate.lastRise (g : Gate) : Nat := (g.light.head?.map (·.pin)).getD 0

/-- The pin fall of a train's last light: its target, 10 ns after the pin rise at the earliest (R158; DESIGN CHOICE for continuous
trains), its light ending no earlier than it began. -/
def Gate.endTrain (g : Gate) (tr : Train) (tEnd : Nat) : Gate :=
  g.fall (max (pinEdge (pinTarget tEnd tr.advOff)) (g.lastRise + q10ns)) (max tEnd ((g.light.head?.map (·.rise)).getD 0)) tr.minOff

/-- A continuous train rises at its start, and falls at its end where that is known (R157, R162). -/
def Dev.riseTrain (d : Dev) (n : Nat) (tr : Train) : Dev :=
  let g := (d.eng n).gate
  let pin := pinEdge (pinTarget tr.t0 tr.advOn)
  let toCome := decide (d.now < g.lastFall) && (g.edges.getLast?.map (·.2)).getD true == false && !g.forced
  let g' :=
    if pin < g.early then
      if toCome then g.unfall else g.rise (pinEdge g.early) (g.early + tr.advOn) tr.cls
    else g.rise pin tr.t0 tr.cls
  let g' := match tr.tEnd with
    | some e => g'.endTrain tr e
    | none => g'
  d.modGate n (fun _ => g'.putTrain { tr with risen := true, pin := g'.lastRise })

/-- Pieces renumbered so that they follow each other from an arc position on. -/
def retrace (s : Int) : List Piece → List Piece
  | [] => []
  | p :: ps => { p with s0 := s } :: retrace (s + p.len) ps

/-- Arc position at which a trace ends. -/
def traceEnd (s : Int) (ps : List Piece) : Int := ps.foldl (fun _ p => p.s0 + p.len) s

/-- The train position of the end of the known path: nm, or counts of 78.125 ps. -/
def Train.known (tr : Train) : Nat :=
  if tr.mode = 1 then (traceEnd 0 tr.trace).toNat
  else (match tr.tEnd with | some e => e - tr.t0 | none => endOf tr.t0 tr.trace - tr.t0) / qTap

/-- Grid positions of a train from the next one to its known end. -/
def Train.left (tr : Train) : Nat := if tr.known < tr.next then 0 else (tr.known - tr.next) / tr.step + 1

/-- Whether every edge of a train has been placed: its end is known and no position is left to compare (R160). -/
def Train.done (tr : Train) : Bool :=
  tr.tEnd.isSome && (if tr.mode = 0 then tr.risen else tr.hold || tr.step == 0 || decide (tr.known < tr.next))

/-- Edges are placed in train order: a continuous train rises once the trains before it are done, and a train that has ended goes when
its own are placed (R154, R160). -/
def Dev.turnTrain (d : Dev) (n : Nat) : Dev :=
  match (d.eng n).gate.headTrain with
  | none => d
  | some tr =>
    let d := if tr.mode = 0 ∧ tr.risen = false then d.riseTrain n tr else d
    d.modGate n (fun g => match g.olds with
      | t :: ts => if t.done then { g with olds := ts } else g
      | [] => g)

/-- Every train looked at once. -/
def Dev.turnTrains (d : Dev) (n : Nat) : Dev :=
  (List.range ((d.eng n).gate.olds.length + 1)).foldl (fun d _ => d.turnTrain n) d

/-- A train ends at an instant: its continuous light falls there, and the positions that BEHIND_MODE = 1 has suppressed are counted
(R154, R157, R163). -/
def Dev.closeTrain (d : Dev) (n : Nat) (tEnd : Nat) : Dev :=
  match (d.eng n).gate.train with
  | some tr =>
    if tr.tEnd.isSome then d
    else
      let tr := { tr with tEnd := some tEnd }
      let d := d.modGate n (fun g => { g with train := some tr })
      if tr.mode = 0 then (if tr.risen then d.modGate n (fun g => g.endTrain tr tEnd) else d)
      else if tr.hold then d.bump .ENG_GATE_SKIP_BEHIND tr.left n
      else d
  | none => d

/-- The gate mode and parameter class of a record: a DWELL pulses with set 5 (R152, R159). -/
def LRec.gateCls (r : LRec) : Nat := r.cls

/-- The grid step and first grid position of a class, in the units of its train position (R155, R157). -/
def Dev.gridOf (d : Dev) (n mode c : Nat) : Nat × Nat :=
  let step := if mode = 1 then d.eff .ENG_PULSE_SPC_SPACING_NM n c else d.eff .ENG_PULSE_PER_PERIOD n c
  (step, if step = 0 then 0 else d.eff .ENG_PULSE_FIRST_FIRST n c % step)

/-- The first grid position at or beyond a position (R156, R164). -/
def gridFrom (first step pos : Nat) : Nat := if pos ≤ first then first else first + ceilDiv (pos - first) (max step 1) * step

/-- A new train at a record's body, with the registers in force for it (R153, R154, R156). A train before it whose positions are not
all compared is kept until they are (R160). A remainder goes on at its position of the train (R164). -/
def Dev.openTrain (d : Dev) (n : Nat) (r : LRec) (t0 : Nat) (ps : List Piece) : Dev :=
  let d := d.closeTrain n t0
  let (step, first) := d.gridOf n r.gate r.cls
  let mark := if r.resume.isSome then r.grid else if r.gate = 1 then r.startAt else 0
  let tr : Train :=
    { ser := r.ser, mode := r.gate, cls := r.cls, t0 := if r.gate = 1 then t0 else t0 - mark * qTap,
      trace := retrace mark ps, step := step, next := gridFrom first step mark,
      advOn := d.advOn n, advOff := d.advOff n, minOff := d.minOff n, width := d.eff .ENG_PULSE_W_WIDTH n r.cls * qTap,
      omits := d.eff .ENG_PULSE_W_LAST_MODE n r.cls == 1, suppress := d.eff .ENG_PULSE_W_BEHIND_MODE n r.cls == 1 }
  let d := d.modGate n (fun g =>
    { g with olds := g.olds ++ (g.train.toList.filter (fun t => !t.done)), train := some tr })
  d.turnTrains n

/-- More path for the train in force. -/
def Dev.growTrain (d : Dev) (n : Nat) (ps : List Piece) : Dev :=
  d.modGate n (fun g =>
    match g.train with
    | some tr => { g with train := some { tr with trace := tr.trace ++ retrace (traceEnd 0 tr.trace) ps } }
    | none => g)

/-- Whether a train runs on through a blended junction (R154). -/
def trainGoesOn (a b : LRec) : Bool := a.gate == b.gate && (a.gate == 0 || a.cls == b.cls)

/-- The instant of a train position: t_of of R163. -/
def Train.timeOf (tr : Train) (c : Nat) : Nat :=
  if tr.mode = 1 then
    match tr.trace.find? (fun p => decide (p.s0 ≤ (c : Int) ∧ (c : Int) ≤ p.s0 + p.len)) with
    | some p => p.when ((c : Int) - p.s0).toNat
    | none => tr.t0
  else tr.t0 + c * qTap

/-- The train position at an instant, rounded down: pos of R163. -/
def Train.posOf (tr : Train) (t : Nat) : Nat :=
  if tr.mode = 1 then
    match pieceAt tr.trace t with
    | some p => (p.s0 + ((p.at' (t - p.t0)).1 : Int)).toNat
    | none => tr.known
  else (t - tr.t0) / qTap

/-- Grid positions from the next one that lie before the position at an instant: n of R163. -/
def Train.skips (tr : Train) (t : Nat) : Nat :=
  if tr.tEnd.any (fun e => decide (e < t)) then tr.left
  else
    let k := max 1 (ceilDiv (tr.posOf t - tr.next) tr.step)
    if tr.timeOf (tr.next + k * tr.step) < t then k + 1 else k

/-- The instant from which the next pulse of an engine may be lit: e + ADV_ON of R163. -/
def Gate.lightFrom (g : Gate) (tr : Train) : Nat := g.early + tr.advOn

/-- A behind pulse: flags, the first event of the layer, and the compare re-phased or suppressed (R163). The positions of a train
whose end is not yet known are counted when it is. -/
def Dev.pulseBehind (d : Dev) (n : Nat) (tr : Train) : Dev :=
  let g := (d.eng n).gate
  let where' := if tr.mode = 1 then tr.next else tr.next * qTap / qNs
  let d := d.raise .ENG_GATE_STAT_COMPARE_BEHIND n
  let d := if g.behindSeen then d
    else d.record 0x0302 2 (recSource n 0) (d.get .SYS_LAYER_NUM_LAYER_NUM) (min where' 0xffffffff) tr.mode
  let d := d.modGate n (fun g => { g with behindSeen := true })
  if tr.suppress then
    ((d.bump .ENG_GATE_SKIP_BEHIND (if tr.tEnd.isSome then tr.left else 0) n).raise .ENG_GATE_STAT_BEHIND_HOLD n).modGate n
      (fun g => g.putTrain { tr with hold := true })
  else
    let k := tr.skips (g.lightFrom tr)
    (d.bump .ENG_GATE_SKIP_BEHIND (if tr.tEnd.isSome then min k tr.left else k) n).modGate n
      (fun g => g.putTrain { tr with next := tr.next + k * tr.step })

/-- A pulse at the next grid position, fired, clipped or omitted (R157, R158, R161). -/
def Dev.pulseFire (d : Dev) (n : Nat) (tr : Train) : Dev :=
  let t := tr.timeOf tr.next
  let tooLate := match tr.tEnd with | some e => decide (e < t + tr.width) | none => false
  let lightEnd := match tr.tEnd with | some e => if tooLate then e else t + tr.width | none => t + tr.width
  let rise := pinTarget t tr.advOn
  let fall := pinTarget lightEnd tr.advOff
  let skip := tooLate && (tr.omits || decide (fall < rise + q10ns))
  let tr' := { tr with next := tr.next + tr.step }
  if skip then (d.bump .ENG_GATE_SKIP_LAST_OMIT 1 n).modGate n (fun g => g.putTrain tr')
  else d.modGate n (fun g =>
    ((g.rise (pinEdge rise) t tr.cls).fall (pinEdge (max fall (rise + q10ns))) lightEnd tr.minOff).putTrain tr')

/-- The compare unit takes the next grid position of the train whose turn it is, as far as the path is planned (R160 to
R163). -/
def Dev.compareHit (d : Dev) (n : Nat) : Dev :=
  match (d.eng n).gate.headTrain with
  | some tr =>
    let t := tr.timeOf tr.next
    let g := (d.eng n).gate
    let behind := decide (t < g.lightFrom tr)
    let ahead := if behind then (if tr.suppress then 0 else g.lightFrom tr) else t + tr.width
    let undecided := tr.tEnd.isNone && decide (endOf tr.t0 tr.trace < ahead)
    if tr.mode = 0 ∨ tr.hold = true ∨ tr.step = 0 ∨ tr.known < tr.next ∨ undecided = true then d
    else if behind then (d.pulseBehind n tr).turnTrains n
    else (d.pulseFire n tr).turnTrains n
  | none => d

/-- Whether the gate output cells follow their engines: those of a device that runs dry stay low (R358), and all of them while
CHLINK is out of service (R37). -/
def Dev.cellsLive (d : Dev) : Bool := d.drives && d.inService 40

/-- Whether light is of use yet: it is to come, is open, or has ended within 10 µs. -/
def Light.fresh (l : Light) (now : Nat) : Bool := l.fall.all (fun f => decide (now < f + 10 * qUs))

/-- Pin edges that have come by: GATE_NOW and RISES (R150). Of the light before the last 10 µs the newest is kept. -/
def Dev.flushGate (d : Dev) (n : Nat) : Dev :=
  let g := (d.eng n).gate
  let past := g.edges.filter (fun e => decide (e.1 ≤ d.now))
  let d := d.modGate n (fun g =>
    { g with
      edges := g.edges.filter (fun e => decide (d.now < e.1)),
      light := g.light.filter (fun l => l.fresh d.now) ++ (g.light.filter (fun l => !l.fresh d.now)).take 1 })
  let rises := if d.cellsLive then (past.filter (·.2)).length else 0
  let d := if rises = 0 then d else d.bump .ENG_GATE_PULSES_RISES rises n
  match past.getLast? with
  | some e => d.putB .ENG_GATE_STAT_GATE_NOW (e.2 && d.cellsLive) n
  | none => d

/-- Light cut at an instant (R482). -/
def Light.cut (l : Light) (t : Nat) : Light :=
  { l with fall := some (match l.fall with | some f => min f t | none => t) }

/-- The gate goes low at once: planned edges fall away, those of a rise in the same gate tick with them, and the light of a rise that
the pin has made ends ADV_OFF later (R151, R172, R482). -/
def Dev.forceGate (d : Dev) (n : Nat) : Dev :=
  let tick := d.now / (5 * qNs) * (5 * qNs)
  let gone := (d.eng n).gate.edges.filter (fun e => e.2 && decide (tick ≤ e.1))
  let d := (d.modGate n (fun g => { g with edges := g.edges.filter (fun e => !gone.contains e) })).flushGate n
  let fallen := d.now + d.advOff n
  (d.modGate n (fun g =>
    { g with
      edges := [], train := none, olds := [], forced := true, early := d.now + d.minOff n, lastFall := d.now,
      light := (g.light.filter (fun l => !gone.contains (l.pin, true) && decide (l.rise < fallen))).map (·.cut fallen) })).lower
    .ENG_GATE_STAT_GATE_NOW n

/-- Whether an engine's channel is optically high at an instant (R219). -/
def Gate.litAt (g : Gate) (t : Nat) : Option Light :=
  g.light.find? (fun l => decide (l.rise ≤ t) && (match l.fall with | some f => decide (t ≤ f) | none => true))

/-- Optical high time within an interval (R226). -/
def Gate.onTime (g : Gate) (a b : Nat) : Nat :=
  g.light.foldl (fun s l =>
    let lo := max a l.rise
    let hi := min b (l.fall.getD b)
    if lo < hi then s + (hi - lo) else s) 0

end Sys2Proof.Machine
end

