-- ==== Sys2Proof/Machine/Kerf.lean ====
section
/-! DEFINITION. The kerf arbiter's shared operations: exposing paths, conflicts computed exactly (R198 to R200), the
total order (R203), grants, claims and the halo (R201 to R211). -/

namespace Sys2Proof.Machine

open Sys2Proof

/-- The engine bound to a channel (R23, R24). -/
def Dev.engineOf (d : Dev) (ch : Nat) : Option Nat :=
  (List.range 34).find? (fun n => d.get .ENG_STAT_BOUND_CH n == ch)

/-! ### Exact distances (R199, R200) -/

/-- A point in the plane. -/
abbrev XY := Int × Int

/-- Whether the squared distance of a point from a segment is below a bound, exactly. -/
def ptSegBelow (p a b : XY) (bound2 : Int) : Bool :=
  let dx := b.1 - a.1
  let dy := b.2 - a.2
  let t := dot (p.1 - a.1) (p.2 - a.2) dx dy
  let l2 := dx * dx + dy * dy
  if t ≤ 0 ∨ l2 = 0 then decide ((p.1 - a.1) * (p.1 - a.1) + (p.2 - a.2) * (p.2 - a.2) < bound2)
  else if l2 ≤ t then decide ((p.1 - b.1) * (p.1 - b.1) + (p.2 - b.2) * (p.2 - b.2) < bound2)
  else
    let c := cross (p.1 - a.1) (p.2 - a.2) dx dy
    decide (c * c < bound2 * l2)

/-- Which side of a line a point lies on: −1, 0 or 1. -/
def sideOf (a b p : XY) : Int := (cross (b.1 - a.1) (b.2 - a.2) (p.1 - a.1) (p.2 - a.2)).sign

/-- Whether two segments cross at inner points. -/
def segCross (a b p q : XY) : Bool :=
  decide (sideOf a b p * sideOf a b q < 0 ∧ sideOf p q a * sideOf p q b < 0)

/-- Whether two segments are nearer than the root of a bound (exactly). -/
def segBelow (a b p q : XY) (bound2 : Int) : Bool :=
  (decide (0 < bound2) && segCross a b p q) || ptSegBelow a p q bound2 || ptSegBelow b p q bound2
    || ptSegBelow p a b bound2 || ptSegBelow q a b bound2

/-- Whether a point lies in a convex polygon given in counter-clockwise order. -/
def inPoly (v : List XY) (p : XY) : Bool :=
  ((v.zip (v.drop 1 ++ v.take 1)).all (fun e => decide (0 ≤ sideOf e.1 e.2 p)))

/-- Whether a segment is nearer to a convex polygon than the root of a bound. -/
def segPolyBelow (v : List XY) (p q : XY) (bound2 : Int) : Bool :=
  inPoly v p || inPoly v q || (v.zip (v.drop 1 ++ v.take 1)).any (fun e => segBelow e.1 e.2 p q bound2)

/-- The gas-flow unit vector (R200, R483). -/
def Dev.flow (d : Dev) : Int × Int := unitOf (d.eff .KRF_PLUME_FLOW_ANGLE)

/-- |g|² of the flow vector's integer components: the scale that makes corridor corners integers. -/
def flowScale (g : Int × Int) : Int := g.1 * g.1 + g.2 * g.2

/-- The corner of the corridor rectangle at `along` and `across` nm from a point, all coordinates multiplied by
|g|² (R200). -/
def corrCorner (g : Int × Int) (p : XY) (along across : Int) : XY :=
  let k : Int := 2 ^ 30
  (flowScale g * p.1 + (along * g.1 - across * g.2) * k, flowScale g * p.2 + (along * g.2 + across * g.1) * k)

/-- The corridor of a path: the hull of the rectangles at its two ends, as two rectangles and the two quadrilaterals
between them, each a convex polygon (R200). -/
def corridor (g : Int × Int) (len w2 : Int) (a b : XY) : List (List XY) :=
  let rect (p : XY) : List XY :=
    [corrCorner g p 0 (-w2), corrCorner g p len (-w2), corrCorner g p len w2, corrCorner g p 0 w2]
  let ra := rect a
  let rb := rect b
  -- a side of one rectangle swept to the same side of the other, turned counter-clockwise; a sweep along the side
  -- itself adds nothing
  let quad (e : (XY × XY) × (XY × XY)) : Option (List XY) :=
    let v := [e.1.1, e.1.2, e.2.2, e.2.1]
    let c := cross (e.1.2.1 - e.1.1.1) (e.1.2.2 - e.1.1.2) (e.2.1.1 - e.1.1.1) (e.2.1.2 - e.1.1.2)
    if c = 0 then none else if 0 < c then some v else some v.reverse
  [ra, rb] ++ ((ra.zip (ra.drop 1 ++ ra.take 1)).zip (rb.zip (rb.drop 1 ++ rb.take 1))).filterMap quad

/-- Whether a path is nearer to the corridor of another than `thr` whole nm, rounding down (R199): distance below
`thr` + 1. -/
def nearCorridor (g : Int × Int) (len w2 : Int) (a b p q : XY) (thr : Int) : Bool :=
  let s := flowScale g
  let up (x : XY) : XY := (s * x.1, s * x.2)
  (corridor g len w2 a b).any (fun v => segPolyBelow v (up p) (up q) ((thr + 1) * (thr + 1) * s * s))

/-- Whether two exposing paths conflict, with the sum of their tolerances and margins in nm (R199, R208). -/
def Dev.pathsConflict (d : Dev) (a b p q : XY) (tol : Int) : Bool :=
  let k : Int := (d.eff .KRF_CFG_KEEPOUT_UM : Int) * 1000
  let w := d.eff .KRF_PLUME_DIM_PLUME_W_UM
  let len := d.eff .KRF_PLUME_DIM_PLUME_LEN
  (decide (k ≠ 0) && segBelow a b p q ((k + tol) * (k + tol))) ||
  (decide (w ≠ 0 ∧ len ≠ 0) &&
    (nearCorridor d.flow (len * 100000) (w * 500) a b p q tol
      || nearCorridor d.flow (len * 100000) (w * 500) p q a b tol))

/-! ### Requests and claims -/

def KReq.a (r : KReq) : XY := (r.x0, r.y0)
def KReq.b (r : KReq) : XY := (r.x1, r.y1)
def HPath.a (r : HPath) : XY := (r.x0, r.y0)
def HPath.b (r : HPath) : XY := (r.x1, r.y1)

/-- The corner tolerance of an engine, in nm (R199). -/
def Dev.tolOf (d : Dev) (n : Nat) : Nat := d.eff .ENG_PLAN_CTL_CORNER_TOL_NM n

/-- HALO_MARGIN: VMAX_MMS × 20 µs, in nm (R208). -/
def Dev.haloMargin (d : Dev) : Nat := d.eff .KRF_HALO_CFG_VMAX_MMS * 20

/-- Two local paths conflict; paths of one engine never do (R199). -/
def Dev.reqsConflict (d : Dev) (r s : KReq) : Bool :=
  r.eng != s.eng && d.pathsConflict r.a r.b s.a s.b ((d.tolOf r.eng + d.tolOf s.eng : Nat) : Int)

/-- A local path and a halo path conflict (R208). -/
def Dev.haloConflict (d : Dev) (r : KReq) (h : HPath) : Bool :=
  d.pathsConflict r.a r.b h.a h.b ((d.tolOf r.eng + h.extra * 1000 + d.haloMargin : Nat) : Int)

/-- Class rank of R203. -/
def classRank (c : Nat) : Nat := if c = 1 then 0 else if c = 2 then 1 else if c = 4 then 3 else 2

/-- The hold of a request in quanta (R202). -/
def Dev.holdOf (d : Dev) (inst : Nat) : Nat := d.now - inst

/-- Whether the hold of a request instant makes its request starving (R203). A peer's instant may lie before 0 (R484). -/
def Dev.isStarving (d : Dev) (inst : Int) : Bool := decide (inst + (d.eff .KRF_CFG_MAX_HOLD_US * qUs : Nat) ≤ (d.now : Int))

/-- The order of R203 on (starving, class, instant, device, engine): whether the first goes before the second. -/
def orderBefore (a b : Bool × Nat × Int × Nat × Nat) : Bool :=
  if a.1 != b.1 then a.1
  else if !a.1 && classRank a.2.1 != classRank b.2.1 then decide (classRank a.2.1 < classRank b.2.1)
  else if a.2.2.1 ≠ b.2.2.1 then decide (a.2.2.1 < b.2.2.1)
  else if a.2.2.2.1 ≠ b.2.2.2.1 then decide (a.2.2.2.1 < b.2.2.2.1)
  else decide (a.2.2.2.2 < b.2.2.2.2)

/-- This device's ID (R344). -/
def Dev.ownId (d : Dev) : Nat := d.get .FAB_STAT_ID

/-- Place of a local request in the order. -/
def Dev.keyOf (d : Dev) (r : KReq) : Bool × Nat × Int × Nat × Nat :=
  (d.isStarving r.inst, r.cls, r.inst, d.ownId, r.eng)

/-- Place of a halo request in the order; its TS64 instant is resolved against device time. -/
def Dev.keyOfHalo (d : Dev) (h : HPath) : Bool × Nat × Int × Nat × Nat :=
  let t := resolveTs64 d.now h.inst
  (d.isStarving t, h.cls, t, h.dev, h.eng)

/-- Whether a request holds its path as a claim: from its grant on, while that arms too (R201, R211). -/
def KReq.claim (r : KReq) : Bool :=
  match r.status with
  | .granted => true
  | .arming _ => true
  | _ => false

/-- Whether a request's grant is held: it has been granted and does not arm (R211). -/
def KReq.held (r : KReq) : Bool := decide (r.status = .granted)

/-- Whether a request waits and reserves its path (R204, R207, R211). -/
def KReq.waits (r : KReq) : Bool :=
  match r.status with
  | .pending => true
  | .arming _ => true
  | _ => false

/-- The request of an engine for a record. -/
def Dev.reqOf (d : Dev) (n ser : Nat) : Option KReq := d.kerf.reqs.find? (fun r => r.eng == n && r.ser == ser)

/-- Whether a record's grant is held (R135). -/
def Dev.granted (d : Dev) (n ser : Nat) : Bool := ((d.reqOf n ser).map KReq.held).getD false

/-- The first request of an engine that waits. -/
def Dev.waitingReq (d : Dev) (n : Nat) : Option KReq := d.kerf.reqs.find? (fun r => r.eng == n && r.waits)

def Dev.setReqs (d : Dev) (l : List KReq) : Dev := { d with kerf := { d.kerf with reqs := l } }

/-- A change to one request. -/
def Dev.modReq (d : Dev) (n ser : Nat) (g : KReq → KReq) : Dev :=
  d.setReqs (d.kerf.reqs.map (fun r => if r.eng == n && r.ser == ser then g r else r))

/-- What blocks a request: the engine of the first claim, else of the first request ahead of it, that conflicts with
it (R204); a halo path blocks as engine 62. -/
def Dev.blocker (d : Dev) (r : KReq) : Option Nat :=
  match d.kerf.reqs.find? (fun s => s.claim && d.reqsConflict r s) with
  | some s => some s.eng
  | none =>
    match d.kerf.halo.find? (fun h => h.kind == 0 && d.haloConflict r h) with
    | some _ => some 62
    | none =>
      match d.kerf.reqs.find? (fun s => s.waits && orderBefore (d.keyOf s) (d.keyOf r) && d.reqsConflict r s) with
      | some s => some s.eng
      | none =>
        (d.kerf.halo.find? (fun h => h.kind == 1 && orderBefore (d.keyOfHalo h) (d.keyOf r) && d.haloConflict r h)).map
          (fun _ => 62)

/-- GAS_HOLD of an engine: set while a request of it waits with GAS_OK low, kept until the grant, clear with none waiting (R171). -/
def Dev.showGas (d : Dev) (n : Nat) : Dev :=
  if (d.waitingReq n).isNone then d.lower .ENG_GATE_STAT_GAS_HOLD n
  else if d.pins.gasOk then d
  else d.raise .ENG_GATE_STAT_GAS_HOLD n

/-- KRF_ENG_STAT of an engine, GAS_HOLD and the count of starving requests brought up to date. -/
def Dev.showKerf (d : Dev) (n : Nat) : Dev :=
  let d := (d.put .KRF_STAT_STARVING (d.kerf.reqs.filter (fun r => r.starving && r.waits)).length).showGas n
  match d.waitingReq n with
  | some r =>
    let us := d.holdOf r.inst / qUs
    let d := (d.put .KRF_ENG_STAT_HOLD_US (min us 0x3fff) n).putB .KRF_ENG_STAT_STARVING r.starving n
    let d := d.putB .KRF_ENG_STAT_ARMING (match r.status with | .arming _ => true | _ => false) n
    let d := d.put .KRF_ENG_STAT_BLOCKER ((d.blocker r).getD 63) n
    d.put .KRF_CNT_B_MAX_HOLD (max (d.get .KRF_CNT_B_MAX_HOLD n) (min us 0xffff)) n
  | none =>
    (((d.put .KRF_ENG_STAT_HOLD_US 0 n).lower .KRF_ENG_STAT_STARVING n).lower .KRF_ENG_STAT_ARMING n).put
      .KRF_ENG_STAT_BLOCKER 63 n

/-! ### The halo band (R208, R209) -/

/-- Whether a point widened by `w`, or moved by a vector, reaches outside the inner box; all in units of 2^-30 nm (R208, R483). -/
def Dev.outsideInner (d : Dev) (p : XY) (w : Int) (v : XY) : Bool :=
  let k : Int := 2 ^ 30
  let x := k * p.1 + v.1
  let y := k * p.2 + v.2
  decide (x - w < k * d.effs .KRF_INNER_X0_EDGE ∨ k * d.effs .KRF_INNER_X1_EDGE < x + w
    ∨ y - w < k * d.effs .KRF_INNER_Y0_EDGE ∨ k * d.effs .KRF_INNER_Y1_EDGE < y + w)

/-- Whether a request lies in the halo band (R208). -/
def Dev.inBand (d : Dev) (r : KReq) : Bool :=
  let w : Int := ((d.eff .KRF_CFG_KEEPOUT_UM * 1000 + d.haloMargin + d.eff .KRF_PLUME_DIM_PLUME_W_UM * 500 : Nat) : Int)
  let len : Int := ((d.eff .KRF_PLUME_DIM_PLUME_LEN * 100000 : Nat) : Int)
  let down : XY := (len * d.flow.1, len * d.flow.2)
  [r.a, r.b].any (fun p => d.outsideInner p (w * 2 ^ 30) (0, 0) || d.outsideInner p 0 down)

/-- The enabled kerf peers. -/
def Dev.kerfPeers (d : Dev) : List Nat :=
  ((List.range 8).filter (fun k => d.flag .KRF_PEER_ENABLE k)).map (fun k => d.get .KRF_PEER_PEER_ID k)

/-- Whether the device sends halo: a lone device, or the active one of a hinge pair (R209). HNG_STAT.STATE 1 is
ACTIVE (R356). -/
def Dev.sendsHalo (d : Dev) : Bool := d.drives

/-- A kerf halo record of kind 0 CLAIM, 1 PENDING or 2 RELEASE (R209). -/
def Dev.haloRecord (d : Dev) (kind : Nat) (r : KReq) : List Gran :=
  if kind = 2 then
    [0#128, BitVec.ofNat 128 (ts64 r.inst + nsOf d.now * 2 ^ 64 + r.eng * 2 ^ 96 + 2 * 2 ^ 106)]
  else
    [BitVec.ofNat 128 (uInt 32 r.x0 + uInt 32 r.y0 * 2 ^ 32 + uInt 32 r.x1 * 2 ^ 64 + uInt 32 r.y1 * 2 ^ 96),
     BitVec.ofNat 128 (ts64 r.inst + nsOf d.now * 2 ^ 64 + r.eng * 2 ^ 96 + r.cls * 2 ^ 102 + kind * 2 ^ 106
       + ceilDiv (d.tolOf r.eng) 1000 * 2 ^ 108)]

/-- A halo record sent at once to every enabled peer (R209). -/
def Dev.haloNow (d : Dev) (kind : Nat) (r : KReq) : Dev :=
  if d.sendsHalo && d.inBand r then
    d.kerfPeers.foldl (fun d p => d.fabSend { kind := 0x12, dst := p, payload := d.haloRecord kind r }) d
  else d

/-- A claim ends or a grant is withdrawn from a band: a RELEASE goes out (R201, R209). -/
def Dev.releaseReq (d : Dev) (r : KReq) : Dev :=
  match r.status with
  | .granted => d.haloNow 2 r
  | .arming _ => d.haloNow 2 r
  | _ => d

/-- A record's claim or request ends (R201). -/
def Dev.endClaim (d : Dev) (n ser : Nat) : Dev :=
  match d.reqOf n ser with
  | some r =>
    ((d.releaseReq r).setReqs ((d.kerf.reqs.filter (fun s => !(s.eng == n && s.ser == ser))))).showKerf n
  | none => d

/-- All claims and requests of an engine end (R148, R201). -/
def Dev.endClaims (d : Dev) (n : Nat) : Dev :=
  let mine := d.kerf.reqs.filter (fun r => r.eng == n)
  ((mine.foldl Dev.releaseReq d).setReqs (d.kerf.reqs.filter (fun r => r.eng != n))).showKerf n

/-- A grant is withdrawn: its request waits again with its request instant (R205, R211). -/
def Dev.withdraw (d : Dev) (n ser : Nat) : Dev :=
  match d.reqOf n ser with
  | some r => ((d.releaseReq r).modReq n ser (fun r => { r with status := .pending })).showKerf n
  | none => d

end Sys2Proof.Machine
end

