-- ==== Sys2Proof/Machine/Tiles.lean ====
section
/-! DEFINITION. Veneer tiles: sites and frame formats (R239 to R243), slot timing (R247 to R250), signatures (R254),
strings and on-times (R259 to R263), the tile link's packets (R266). -/

namespace Sys2Proof.Machine

open Sys2Proof

def Dev.tile (d : Dev) (t : Nat) : Tile := Tab.get {} d.tiles t
def Dev.setTile (d : Dev) (t : Nat) (x : Tile) : Dev := { d with tiles := Tab.set {} d.tiles t x }
def Dev.modTile (d : Dev) (t : Nat) (g : Tile → Tile) : Dev := d.setTile t (g (d.tile t))

/-- Quanta in a 5 ns tick. -/
def qTick : Nat := 1280

/-- Whether a tile is attached: its slots run, or its attach has been accepted and waits for slot 0. -/
def Dev.attached (d : Dev) (t : Nat) : Bool := d.get .VNR_STAT_STATE t != 0

/-! ### Timing (R247 to R249) -/

/-- The timing and array of a tile. -/
structure TileTiming where
  w : Nat
  h : Nat
  mux : Bool
  lsync : Nat
  lsettle : Nat
  lactive : Nat
  fsync : Nat
  fsettle : Nat
  deriving DecidableEq, Repr

/-- The native modes of R248. -/
def nativeMode (m : Nat) : TileTiming :=
  if m = 0 then ⟨64, 64, false, 8, 13, 104, 2, 14⟩
  else if m = 1 then ⟨64, 64, false, 8, 26, 216, 2, 14⟩
  else if m = 2 then ⟨64, 64, false, 8, 52, 440, 2, 14⟩
  else if m = 3 then ⟨128, 32, false, 8, 26, 216, 2, 6⟩
  else if m = 4 then ⟨128, 32, false, 8, 52, 440, 2, 6⟩
  else if m = 5 then ⟨32, 32, false, 8, 26, 216, 2, 6⟩
  else if m = 6 then ⟨256, 16, false, 8, 52, 440, 2, 2⟩
  else if m = 7 then ⟨16, 16, false, 8, 52, 440, 2, 2⟩
  else if m = 8 then ⟨64, 64, true, 8, 32, 460, 2, 14⟩
  else if m = 9 then ⟨64, 64, true, 20, 80, 1150, 2, 14⟩
  else if m = 10 then ⟨128, 32, true, 8, 32, 460, 2, 6⟩
  else if m = 11 then ⟨128, 32, true, 20, 80, 1150, 2, 6⟩
  else if m = 12 then ⟨256, 16, true, 8, 32, 460, 2, 2⟩
  else if m = 13 then ⟨256, 16, true, 40, 160, 1800, 2, 2⟩
  else if m = 14 then ⟨512, 8, true, 8, 32, 960, 1, 1⟩
  else ⟨512, 8, true, 40, 160, 1800, 1, 1⟩

/-- The timing in force of a tile: its mode's, or that of the compatibility registers (R248, R249). -/
def Dev.timing (d : Dev) (t : Nat) : TileTiming :=
  if d.flag .VNR_TILE_CFG_COMPAT t then
    { w := d.get .VNR_COMPAT_SIZE_ACT_W t, h := d.get .VNR_COMPAT_SIZE_ACT_H t, mux := d.flag .VNR_COMPAT_FRAME_MUX t,
      lsync := d.get .VNR_COMPAT_LINE_LSYNC t, lsettle := d.get .VNR_COMPAT_LINE_LSETTLE t,
      lactive := d.get .VNR_COMPAT_FRAME_LACTIVE t, fsync := d.get .VNR_COMPAT_FRAME_FSYNC t,
      fsettle := d.get .VNR_COMPAT_FRAME_FSETTLE t }
  else nativeMode (d.get .VNR_TILE_CFG_MODE t)

/-- Line period, frame blanking and slot period, in ticks (R247). -/
def TileTiming.line (x : TileTiming) : Nat := x.lsync + x.lsettle + x.lactive
def TileTiming.blanking (x : TileTiming) : Nat := (x.fsync + x.fsettle) * x.line
def TileTiming.period (x : TileTiming) : Nat := x.blanking + x.h * x.line
def TileTiming.sites (x : TileTiming) : Nat := x.w * x.h

/-- Whether a compatibility timing is accepted (R249). -/
def TileTiming.compatOk (x : TileTiming) : Bool :=
  decide (1 ≤ x.sites ∧ x.sites ≤ 4096 ∧ ceilDiv x.w 4 ≤ x.lactive ∧ 10000 ≤ x.period ∧ x.period ≤ 2000000
    ∧ (x.mux = true → 40 ≤ x.lsync + x.lsettle ∧ x.lsync + x.lsettle ≤ 2000))

/-! ### Frames (R240 to R243) -/

/-- Bytes per site of a format (R240). -/
def siteBytes (fmt : Nat) : Nat := if fmt = 0 then 2 else if fmt = 1 then 3 else 4

/-- STRIDE and size of a tile's frame in bytes (R243). -/
def Dev.stride (d : Dev) (t : Nat) : Nat := ceilDiv ((d.timing t).w * siteBytes (d.get .VNR_TILE_CFG_FORMAT t)) 64 * 64
def Dev.frameBytes (d : Dev) (t : Nat) : Nat := (d.timing t).h * d.stride t

/-- The band slot plus 1 of format band 0 to 2 (R242). -/
def Dev.bandMap (d : Dev) (t b : Nat) : Nat :=
  if b = 0 then d.get .VNR_BAND_MAP_A t else if b = 1 then d.get .VNR_BAND_MAP_B t else d.get .VNR_BAND_MAP_C t

/-- The format band that a band slot shows, if one (R242). -/
def Dev.bandOfSlot (d : Dev) (t slot : Nat) : Option Nat := [0, 1, 2].find? (fun b => d.bandMap t b == slot + 1)

/-- Whether a band map is permitted (R242). -/
def Dev.bandsOk (d : Dev) (t : Nat) : Bool :=
  let ms := ([0, 1, 2].map (d.bandMap t)).filter (· != 0)
  !ms.isEmpty && ms.all (fun m => decide (m ≤ d.get .VNR_TILE_CFG_BANDS t)) && decide (ms.eraseDups.length = ms.length)

/-- One site of a frame: A8, B8, C8, DWELL_CLASS and KERF_PART (R240, R241). -/
def Dev.siteValue (d : Dev) (t : Nat) (w : Nat) : Nat × Nat × Nat × Nat × Bool :=
  let fmt := d.get .VNR_TILE_CFG_FORMAT t
  if fmt = 0 then
    let a := bitsOf w 4 0
    let b := bitsOf w 10 5
    let c := bitsOf w 15 11
    (a * 8 + a / 4, b * 4 + b / 16, c * 8 + c / 4, 0, d.flag .VNR_TILE_CFG_KERF_DEF t)
  else if fmt = 1 then (bitsOf w 7 0, bitsOf w 15 8, bitsOf w 23 16, 0, d.flag .VNR_TILE_CFG_KERF_DEF t)
  else (bitsOf w 7 0, bitsOf w 15 8, bitsOf w 23 16, bitsOf w 27 24, hasBit w 28)

/-- The sites of a frame in site order (R243). -/
def Dev.siteWords (d : Dev) (t : Nat) (data : List Byte) : List Nat :=
  let x := d.timing t
  let n := siteBytes (d.get .VNR_TILE_CFG_FORMAT t)
  let st := d.stride t
  (List.range x.h).flatMap (fun l =>
    let row := data.drop (l * st)
    (List.range x.w).map (fun c => ofLeBytes ((row.drop (c * n)).take n)))

/-- The dwell entry of a class (R241). -/
def Dev.dwellOf (d : Dev) (t cls : Nat) : Nat :=
  if cls % 2 = 0 then d.get .VNR_DWELL_D_LO t (cls / 2) else d.get .VNR_DWELL_D_HI t (cls / 2)

/-- The energy value of an 8-bit band value (R241). -/
def siteEnergy (v8 dwell : Nat) : Nat := min (v8 * 257 * dwell / 32768) 65535

/-- Format band value of a site. -/
def siteBand (s : Nat × Nat × Nat × Nat × Bool) (b : Nat) : Nat :=
  if b = 0 then s.1 else if b = 1 then s.2.1 else s.2.2.1

/-! ### Strings and on-times (R259 to R263) -/

/-- Strings per band slot (R259). -/
def Dev.spb (d : Dev) (t : Nat) : Nat := ceilDiv (d.timing t).sites (d.get .VDR_CFG_STR_LEN t)

/-- String and position of emitter (i, b) (R259). -/
def Dev.stringOf (d : Dev) (t i b : Nat) : Nat × Nat :=
  let n := d.get .VDR_CFG_STR_LEN t
  (b * d.spb t + i / n, i % n)

/-- Site and band slot of a position of a string; none beyond a short string's end. -/
def Dev.emitterAt (d : Dev) (t s q : Nat) : Option (Nat × Nat) :=
  let k := d.spb t
  let i := s % k * d.get .VDR_CFG_STR_LEN t + q
  if k = 0 ∨ d.get .VNR_TILE_CFG_BANDS t ≤ s / k ∨ (d.timing t).sites ≤ i ∨ d.get .VDR_CFG_STR_LEN t ≤ q then none
  else some (i, s / k)

/-- Whether a string is failed (R270). -/
def Dev.strFailed (d : Dev) (t s : Nat) : Bool := hasBit (d.get .VDR_STRFAIL_FAILED t (s / 32)) (s % 32)

/-- Whether an emitter is stopped out (R273). -/
def Dev.stopped (d : Dev) (t s q : Nat) : Bool :=
  (List.range 64).any (fun k => d.flag .VDR_STOP_VALID t k && d.get .VDR_STOP_STRING t k == s
    && d.get .VDR_STOP_POSITION t k == q)

/-- The strings that carry a mapped band, ascending; their number is N of R261. -/
def Dev.liveStrings (d : Dev) (t : Nat) : List Nat :=
  (List.range (d.get .VNR_TILE_CFG_BANDS t)).flatMap (fun b =>
    if (d.bandOfSlot t b).isSome then rangeFrom (b * d.spb t) (d.spb t) else [])

/-- The phase offset of a string (R261). -/
def Dev.phaseOf (d : Dev) (t s : Nat) : Nat :=
  let l := d.liveStrings t
  l.idxOf s * d.get .VDR_DIM_DIM_TICKS t / max l.length 1

/-- Shortfall of the porch before a window against CEN_LEAD, and the window W, in ticks (R260). -/
def Dev.windowOf (d : Dev) (t : Nat) : Nat × Nat :=
  let x := d.timing t
  let porch := if x.mux then x.lsettle else x.fsettle * x.line
  let short := d.get .VDR_DIM_CEN_LEAD t - porch
  (short, (if x.mux then x.lactive else x.h * x.line) - short)

/-- Dimming cycles K of a window (R261). -/
def Dev.cyclesOf (d : Dev) (t : Nat) : Nat := (d.windowOf t).2 / max (d.get .VDR_DIM_DIM_TICKS t) 1

/-- Whether the PWM path is used, as fixed at attach (R263). -/
def Dev.pwmWanted (d : Dev) (t : Nat) : Bool :=
  d.flag .VDR_CFG_PATH t || !d.flag .VDR_CAP_PHASE_CAP t || d.cyclesOf t == 0

/-- t of R261 for an energy value. -/
def Dev.phaseWord (d : Dev) (t e : Nat) : Nat :=
  let room := d.get .VDR_DIM_DIM_TICKS t - d.get .VDR_DIM_CEN_LEAD t
  min ((e * room + 32767) / 65535) (d.get .VDR_STAT_DUTY_CEIL t * room / 256)

/-- n of R262 for an energy value. -/
def Dev.pwmWord (d : Dev) (t e : Nat) : Nat :=
  let b := d.get .VDR_DIM_PWM_BITS t
  min (e / 2 ^ (16 - b)) (d.get .VDR_STAT_DUTY_CEIL t * 2 ^ b / 256)

/-- The on-time word of an emitter: 0 for a stopped-out one or a failed string (R261, R262, R270, R273). -/
def Dev.emitterWord (d : Dev) (t i b e : Nat) : Nat :=
  let sq := d.stringOf t i b
  if d.strFailed t sq.1 || d.stopped t sq.1 sq.2 then 0
  else if d.flag .VDR_STAT_PATH_NOW t then d.pwmWord t e else d.phaseWord t e

/-- Ticks that an emitter is open in the first `x` ticks of a window on the phase path: open over [φ, φ + t) of each
cycle, taken modulo the cycle (R261). -/
def phaseOpen (dim k phi t x : Nat) : Nat :=
  let x := min x (k * dim)
  let inCycle (r : Nat) : Nat :=
    (min r (min (phi + t) dim) - min r phi) + min r (phi + t - dim)
  x / dim * t + inCycle (x % dim)

/-- Ticks that an emitter with an on-time word is open in ticks `a` to `b` of its window (R261, R262). -/
def Dev.openTicks (d : Dev) (t s word a b : Nat) : Nat :=
  if d.flag .VDR_STAT_PATH_NOW t then
    let on := word * (d.windowOf t).2 / 2 ^ d.get .VDR_DIM_PWM_BITS t
    min b on - min a on
  else
    let dim := max (d.get .VDR_DIM_DIM_TICKS t) 1
    let k := d.cyclesOf t
    let phi := d.phaseOf t s
    phaseOpen dim k phi word b - phaseOpen dim k phi word a

/-! ### Geometry (R239) -/

/-- Centre of a site in machine coordinates, nm. -/
def Dev.siteAt (d : Dev) (t i : Nat) : Int × Int :=
  let x := d.timing t
  let c : Int := ((i % x.w * d.get .VNR_PITCH_PITCH_X t * 1000 : Nat) : Int)
  let l : Int := ((i / x.w * d.get .VNR_PITCH_PITCH_Y t * 1000 : Nat) : Int)
  let r := d.get .VNR_TILE_CFG_ROT t
  let ox := d.gets .VNR_ORG_X_ORG t
  let oy := d.gets .VNR_ORG_Y_ORG t
  if r = 0 then (ox + c, oy + l) else if r = 1 then (ox - l, oy + c)
  else if r = 2 then (ox - c, oy - l) else (ox + l, oy - c)

/-! ### Signatures and packets (R254, R266) -/

/-- One bit of the reflected CRC-32. -/
def crc32Bit (c : Nat) : Nat := if c % 2 = 1 then Nat.xor (c / 2) 0xedb88320 else c / 2

/-- One byte of the CRC-32. -/
def crc32Byte (c : Nat) (b : Nat) : Nat := (List.range 8).foldl (fun c _ => crc32Bit c) (Nat.xor c b)

/-- CRC-32: polynomial 0x04C11DB7, reflected, initial value and final inversion 0xFFFFFFFF (R254). -/
def crc32 (bs : List Nat) : Nat := Nat.xor (bs.foldl crc32Byte 0xffffffff) 0xffffffff

/-- The four bytes of a site in the signature (R254). -/
def Dev.sigBytes (d : Dev) (t : Nat) (s : Nat × Nat × Nat × Nat × Bool) : List Nat :=
  ([0, 1, 2].map (fun b => if d.bandMap t b = 0 then 0 else siteBand s b)) ++ [s.2.2.2.1 + (if s.2.2.2.2 then 16 else 0)]

/-- The slot data of a frame as it is sent now (R241, R251, R254, R261, R262). -/
def Dev.slotData (d : Dev) (t job : Nat) (first : Bool) (data : List Byte) : SlotData :=
  let ss := (d.siteWords t data).map (d.siteValue t)
  let bands := List.range (d.get .VNR_TILE_CFG_BANDS t)
  let energies (s : Nat × Nat × Nat × Nat × Bool) : List Nat := bands.map (fun b =>
    match d.bandOfSlot t b with
    | some f => siteEnergy (siteBand s f) (d.dwellOf t s.2.2.2.1)
    | none => 0)
  let ix := ss.zip (List.range ss.length)
  { job := job, first := first,
    words := ix.flatMap (fun s => ((energies s.1).zip bands).map (fun e => d.emitterWord t s.2 e.2 e.1)),
    parts := (ix.filter (fun s => s.1.2.2.2.2 && (energies s.1).any (· != 0))).map (·.2),
    emitting := ss.any (fun s => [0, 1, 2].any (fun b => d.bandMap t b != 0 && siteBand s b != 0)),
    sig := crc32 (ss.flatMap (d.sigBytes t)) }

/-- The on-time word of emitter (i, b) in slot data. -/
def Dev.wordOf (d : Dev) (t : Nat) (s : SlotData) (i b : Nat) : Nat := s.words.getD (i * d.get .VNR_TILE_CFG_BANDS t + b) 0

/-- A packet of the outward lane: header, payload words and CRC (R266). -/
def tilePacket (typ slot line str pos tile : Nat) (path : Bool) (words : List Nat) : List Byte :=
  let h := typ + slot % 256 * 2 ^ 4 + line % 4096 * 2 ^ 12 + words.length % 65536 * 2 ^ 24 + str % 1024 * 2 ^ 40
    + pos % 64 * 2 ^ 50 + tile % 16 * 2 ^ 56 + path.toNat * 2 ^ 61
  let body := leBytes 16 h ++ words.flatMap (fun w => leBytes 2 w)
  body ++ leBytes 4 (crc32 (body.map (·.toNat)))

/-- A packet sent to a tile, for the present slot or one a number of slots ahead, between K27.7 and K29.7 (R266). -/
def Dev.sendTile (d : Dev) (t typ line str pos : Nat) (words : List Nat) (ahead : Nat := 0) : Dev :=
  let p := tilePacket typ (d.get .VNR_SLOT_SLOT t + ahead) line str pos t (d.flag .VDR_STAT_PATH_NOW t) words
  d.modTile t (fun x => { x with sent := p, chars := x.chars ++ [0x1fb] ++ p.map (·.toNat) ++ [0x1fd] })

/-- The words of LINE_DATA of a line: by band slot, then by column; 0 for a string failed or an emitter stopped out by now (R266, R270,
R273). -/
def Dev.lineWords (d : Dev) (t : Nat) (sd : SlotData) (l : Nat) : List Nat :=
  let w := (d.timing t).w
  (List.range (d.get .VNR_TILE_CFG_BANDS t)).flatMap (fun b => (rangeFrom (l * w) w).map (fun i =>
    let sq := d.stringOf t i b
    if d.strFailed t sq.1 || d.stopped t sq.1 sq.2 then 0 else d.wordOf t sd i b))

/-- LINE_SYNC, and behind it the LINE_DATA of a line of the next slot's frame while lines are left (R246, R266). -/
def Dev.lineSync (d : Dev) (t l : Nat) : Dev :=
  let d := d.modTile t (fun x => { x with chars := (if l = 0 then x.chars else []) ++ [0x1bc, 0x3c] })
  match (d.tile t).next with
  | some sd => if l < (d.timing t).h then d.sendTile t 1 l 0 0 (d.lineWords t sd l) (ahead := 1) else d
  | none => d

/-- A packet of the back lane, when its CRC is good and its length is that of its COUNT: header and payload bytes
(R268). -/
def backPacket (p : List Byte) : Option (Nat × List Byte) :=
  let h := ofLeBytes (p.take 16)
  let n := p.length - 4
  if 20 ≤ p.length ∧ crc32 ((p.take n).map (·.toNat)) = ofLeBytes (p.drop n) then some (h, (p.take n).drop 16) else none

/-! ### Blanking -/

/-- A tile blanks from the next line period: nothing more of its present slot is shown (R252, R253, R257). -/
def Dev.blankTile (d : Dev) (t : Nat) : Dev := d.modTile t (fun x => { x with blank := true })

/-- Every tile blanks. -/
def Dev.blankTiles (d : Dev) : Dev := (List.range 16).foldl (fun d t => d.blankTile t) d

/-- The frame in progress of a tile: the one it shows or has begun. -/
def Dev.frameNow (d : Dev) (t : Nat) : Option Nat :=
  let x := d.tile t
  match x.cur with
  | some s => some s.job
  | none => if x.left.isSome then x.queue.head? else none

/-- DRAM demand of tiles in B/s, as an exact fraction (R250). -/
def Dev.demandOf (d : Dev) (ts : List Nat) : Nat × Nat :=
  ts.foldl (fun q t =>
    let p := max ((d.timing t).period * 5) 1
    (q.1 * p + d.frameBytes t * 1000000000 * q.2, q.2 * p)) (0, 1)

/-- VNR_BW brought up to date (R250). -/
def Dev.showBw (d : Dev) : Dev :=
  let q := d.demandOf ((List.range 16).filter d.attached)
  d.put .VNR_BW_MBPS (ceilDiv q.1 (q.2 * 1000000))

/-- A tile's slots stop: it is detached, and counts as having taken every mark of the open layer (R253). Its stop-out list
and link stay. -/
def Dev.detachTile (d : Dev) (t : Nat) : Dev :=
  let d := d.modTile t (fun x => { x with
    attachJob := none, slot0 := none, queue := [], left := none, missed := [], cur := none, next := none, blank := true,
    endCode := none, dark := [], darkNext := [], sweeping := false, reattach := false, late := none, detachJob := none })
  let d := { d with layer := { d.layer with marksTaken := Tab.set 0 d.layer.marksTaken (0x40 + t) 8 } }
  (d.put .VNR_STAT_STATE 0 t).showBw

end Sys2Proof.Machine
end

