-- ==== Sys2Proof/Machine/Axes.lean ====
section
/-! DEFINITION. Axis profiles (R278 to R286): exact motion under stretches of constant jerk, the plan to a target, the
normal stop, the emergency ramp, and limit changes. Durations of stretches are whole nanoseconds, rounded down; what that
leaves is removed at the end of the profile, where the axis rests exactly at its target. -/

namespace Sys2Proof.Machine

open Sys2Proof

def Dev.axis (d : Dev) (a : Nat) : Axis := Tab.get {} d.axes a
def Dev.setAxis (d : Dev) (a : Nat) (x : Axis) : Dev := { d with axes := Tab.set {} d.axes a x }
def Dev.modAxis (d : Dev) (a : Nat) (g : Axis → Axis) : Dev := d.setAxis a (g (d.axis a))
def Dev.enc (d : Dev) (e : Nat) : Enc := Tab.get {} d.encs e
def Dev.setEnc (d : Dev) (e : Nat) (x : Enc) : Dev := { d with encs := Tab.set {} d.encs e x }
def Dev.modEnc (d : Dev) (e : Nat) (g : Enc → Enc) : Dev := d.setEnc e (g (d.enc e))

/-! ### Motion under constant jerk -/

/-- Position, speed and acceleration in the fine units of `Axis`. -/
structure Kin where
  p : Int
  v : Int
  a : Int
  deriving DecidableEq, Repr

/-- Fine units in a microstep, in a microstep/s and in a microstep/s². -/
def fineP : Int := 6000000000000000000000000000
def fineV : Int := 2000000000000000000
def fineA : Int := 1000000000

/-- The state after `n` ns at a jerk, exactly. -/
def Kin.move (k : Kin) (n : Nat) (j : Int) : Kin :=
  let n : Int := n
  { p := k.p + 3 * k.v * n + 3 * k.a * n * n + j * n * n * n, v := k.v + 2 * k.a * n + j * n * n, a := k.a + j * n }

/-- The state at the end of stretches. -/
def Kin.run (k : Kin) (segs : List (Nat × Int)) : Kin := segs.foldl (fun k s => k.move s.1 s.2) k

/-- The state `t` ns into stretches. -/
def Kin.after (k : Kin) : List (Nat × Int) → Nat → Kin
  | [], _ => k
  | (n, j) :: rest, t => if t ≤ n then k.move t j else (k.move n j).after rest (t - n)

/-- Duration of stretches in ns. -/
def segsTime (segs : List (Nat × Int)) : Nat := segs.foldl (fun n s => n + s.1) 0

/-- The state seen in the opposite sense of travel. -/
def Kin.flip (k : Kin) : Kin := { p := -k.p, v := -k.v, a := -k.a }

/-- Stretches seen in the opposite sense. -/
def flipSegs (segs : List (Nat × Int)) : List (Nat × Int) := segs.map (fun s => (s.1, -s.2))

/-- Duration of a ramp of acceleration, ns. -/
def rampTime (dA : Int) (j : Nat) : Nat := dA.natAbs / max j 1

/-- A change of speed in one sense: from `v`, `a` to `v1` with acceleration 0, `sg` 1 for a gain and −1 for a loss,
acceleration at most `lim` and jerk `j` (R128, R280). -/
def changeSegs (sg : Int) (lim j : Nat) (v a v1 : Int) : List (Nat × Int) :=
  let a' := sg * a
  let dv := sg * (v1 - v)
  let top : Int := lim * fineA
  let jj : Int := (max j 1 : Nat)
  let pk : Int := isqrt (jj * dv / 2 + a' * a' / 2).toNat
  if pk ≤ top then [(rampTime (pk - a') j, sg * j), (rampTime pk j, -(sg * j))]
  else
    let up : Int := if a' ≤ top then 1 else -1
    let ramp := up * (top * top - a' * a') / jj
    let hold := ((dv - ramp - top * top / jj) / (2 * max top 1)).toNat
    [(rampTime (top - a') j, up * sg * j), (hold, 0), (rampTime top j, -(sg * j))]

/-- The stretches that bring a state to a speed (at least 0, in the sense of travel) with acceleration 0. -/
def speedSegs (l : AxLims) (k : Kin) (v1 : Int) : List (Nat × Int) :=
  let vz := k.v + k.a * k.a.natAbs / (max l.jerk 1 : Nat)
  if vz ≤ v1 then changeSegs 1 l.accel l.jerk k.v k.a v1 else changeSegs (-1) l.decel l.jerk k.v k.a v1

/-- Way covered by a run to a cruising speed and from it to rest. -/
def cruiseWay (l : AxLims) (k : Kin) (u : Nat) : Int :=
  let k1 := k.run (speedSegs l k (u * fineV))
  (k1.run (speedSegs l k1 0)).p - k.p

/-- A run to rest at `way` ahead, when it lies beyond the stopping distance: its stretches and the start of the final
deceleration (R284). -/
def aheadPlan (l : AxLims) (k : Kin) (way : Int) (vlim : Nat) : Option (List (Nat × Int) × Nat) :=
  let stop := speedSegs l k 0
  if way < (k.run stop).p - k.p then none
  else
    let u := highest 0 vlim (fun u => u == 0 || decide (cruiseWay l k u ≤ way))
    if u = 0 then some (stop, 0)
    else
      let s1 := speedSegs l k (u * fineV)
      let k1 := k.run s1
      let s2 := speedSegs l k1 0
      let n := ((way - cruiseWay l k u) / (3 * max k1.v 1)).toNat
      some (s1 ++ [(n, 0)] ++ s2, segsTime s1 + n)

/-- The plan from a state, in the sense of its travel, to rest at `way` ahead: onward, or a normal stop and back
(R284). -/
def planAhead (l : AxLims) (k : Kin) (way : Int) (vlim : Nat) : List (Nat × Int) × Nat :=
  match aheadPlan l k way vlim with
  | some r => r
  | none =>
    let stop := speedSegs l k 0
    let far := (k.run stop).p - k.p
    match aheadPlan l { p := 0, v := 0, a := 0 } (far - way) vlim with
    | some r => (stop ++ flipSegs r.1, segsTime stop + r.2)
    | none => (stop, 0)

/-- The plan from any state to rest at a position. -/
def planTo (l : AxLims) (k : Kin) (target : Int) (vlim : Nat) : List (Nat × Int) × Nat :=
  let way := target - k.p
  let back := if k.v ≠ 0 then decide (k.v < 0) else if k.a ≠ 0 then decide (k.a < 0) else decide (way < 0)
  if back then
    let r := planAhead l k.flip (-way) vlim
    (flipSegs r.1, r.2)
  else planAhead l k way vlim

/-- A stop from any state: in the sense of its travel (R284, R286). -/
def stopSegs (l : AxLims) (k : Kin) : List (Nat × Int) :=
  if k.v < 0 ∨ (k.v = 0 ∧ k.a < 0) then flipSegs (speedSegs l k.flip 0) else speedSegs l k 0

/-! ### The axis now -/

/-- Nanoseconds into the profile of an axis. -/
def Dev.axisTime (d : Dev) (a : Nat) : Nat := (d.run - (d.axis a).t0) / qNs

/-- The commanded state of an axis now: on its profile, or at rest at its target once the profile has ended. -/
def Dev.axisKin (d : Dev) (a : Nat) : Kin :=
  let x := d.axis a
  let t := d.axisTime a
  if segsTime x.segs ≤ t then { p := (if x.segs.isEmpty then x.p0 else x.target * fineP), v := 0, a := 0 }
  else ({ p := x.p0, v := x.v0, a := x.a0 } : Kin).after x.segs t

/-- Whether the profile of an axis has come to rest. -/
def Dev.axisRests (d : Dev) (a : Nat) : Bool := decide (segsTime (d.axis a).segs ≤ d.axisTime a)

/-- Microsteps of a fine position, to the nearest. -/
def microsteps (p : Int) : Int := roundHalfUp p fineP.toNat

/-- The limits in force (R285). -/
def Dev.axLims (d : Dev) (a : Nat) : AxLims :=
  { vmax := d.get .AX_VMAX_V_MAX a, accel := d.get .AX_ACCEL_VALUE a, decel := d.get .AX_DECEL_VALUE a,
    jerk := d.get .AX_JERK_VALUE a }

/-- The limits of the emergency ramp (R286). -/
def Dev.emergencyLims (d : Dev) (a : Nat) : AxLims :=
  { vmax := d.get .AX_VMAX_V_MAX a, accel := d.get .AX_EDEC_VALUE a, decel := d.get .AX_EDEC_VALUE a,
    jerk := d.get .AX_EJERK_VALUE a }

/-- The speed limit of the step rate in step-and-direction mode (R293). -/
def Dev.stepLimit (d : Dev) (a : Nat) : Nat :=
  2 ^ d.get .AX_CFG_SD_SHIFT a * 1000000000 / (2 * max (d.get .AX_CFG_STEP_W a) 1 * 10)

/-- The speed limit of a move, and whether the step rate limits it (R280, R293). -/
def Dev.moveSpeed (d : Dev) (a vlim : Nat) : Nat × Bool :=
  let v := if vlim = 0 then d.get .AX_VMAX_V_MAX a else min vlim (d.get .AX_VMAX_V_MAX a)
  if d.flag .AX_CFG_MODE a ∧ d.stepLimit a < v then (d.stepLimit a, true) else (v, false)

/-- A profile from the present state. -/
def Dev.setProfile (d : Dev) (a : Nat) (segs : List (Nat × Int)) (finalAt : Nat) (target : Int) : Dev :=
  let k := d.axisKin a
  d.modAxis a (fun x => { x with
    p0 := k.p, v0 := k.v, a0 := k.a, t0 := d.run, segs := segs, finalAt := finalAt, target := target, holding := false })

/-- A run to a target from the present state under the limits in force (R280, R284). -/
def Dev.runTo (d : Dev) (a : Nat) (target : Int) (vlim : Nat) : Dev :=
  let v := d.moveSpeed a vlim
  let d := if v.2 then d.raise .AX_STAT_VCLAMP a else d
  let r := planTo (d.axLims a) (d.axisKin a) (target * fineP) v.1
  (d.setProfile a r.1 r.2 target).modAxis a (fun x => { x with vlim := vlim })

/-- A normal stop from the present state: the target is where it comes to rest (R284). -/
def Dev.runStop (d : Dev) (a : Nat) : Dev :=
  let k := d.axisKin a
  let segs := stopSegs (d.axLims a) k
  d.setProfile a segs 0 (microsteps (k.run segs).p)

/-- The commanded position freezes at once (R289, R291). -/
def Dev.axisFreeze (d : Dev) (a : Nat) : Dev :=
  let p := microsteps (d.axisKin a).p
  let d := d.modAxis a (fun x => { x with
    p0 := p * fineP, v0 := 0, a0 := 0, t0 := d.run, segs := [], target := p, restSince := d.run, holding := true,
    emergency := false })
  (d.puts .AX_POS_VALUE p a).put .AX_VEL_VALUE 0 a

/-- HOMED clears, and with it the following reference (R300). -/
def Dev.unhome (d : Dev) (a : Nat) : Dev := (d.lower .AX_STAT_HOMED a).lower .ENC_STAT_REF_VALID a

/-- The emergency ramp of an axis begins from its present state (R286); an axis without power does not move. -/
def Dev.emergencyRamp (d : Dev) (a : Nat) : Dev :=
  let st := d.get .AX_STAT_STATE a
  if st = 0 ∨ st = 6 ∨ (d.axis a).emergency = true then d
  else
    let k := d.axisKin a
    let segs := stopSegs (d.emergencyLims a) k
    let d := d.setProfile a segs 0 (microsteps (k.run segs).p)
    let d := d.modAxis a (fun x => { x with emergency := true, home := .none })
    d.put .AX_STAT_STATE 4 a

/-- The low-side brake: the axis is held without current, and HOMED clears (R289). -/
def Dev.brake (d : Dev) (a state : Nat) : Dev :=
  let d := (d.axisFreeze a).unhome a
  let d := d.modAxis a (fun x => { x with
    home := .none, intA := 0, intB := 0, dutyA := 0, dutyB := 0, stallRun := 0, overRun := 0 })
  (d.put .AX_STAT_STATE state a).put .AX_ELEC_I_NOW 0 a

end Sys2Proof.Machine
end

