-- ==== Sys2Proof/Machine/Cameras.lean ====
section
/-! DEFINITION. Cameras: parameter sets (R310), the stages of the image pipeline (R314), statistics, the streak metric and
the pool measurement (R318 to R320), DRAM buffers and result blocks (R317, R318), CSI-2 packets (R306, R307). -/

namespace Sys2Proof.Machine

open Sys2Proof

def Dev.cam (d : Dev) (x : Nat) : Cam := Tab.get {} d.cams x
def Dev.setCam (d : Dev) (x : Nat) (c : Cam) : Dev := { d with cams := Tab.set {} d.cams x c }
def Dev.modCam (d : Dev) (x : Nat) (g : Cam → Cam) : Dev := d.setCam x (g (d.cam x))
def Dev.camPort (d : Dev) (p : Nat) : CamPort := Tab.get {} d.camPorts p
def Dev.setCamPort (d : Dev) (p : Nat) (c : CamPort) : Dev := { d with camPorts := Tab.set {} d.camPorts p c }
def Dev.modCamPort (d : Dev) (p : Nat) (g : CamPort → CamPort) : Dev := d.setCamPort p (g (d.camPort p))
def Dev.modPipe (d : Dev) (g : Pipeline → Pipeline) : Dev := { d with pipe := g d.pipe }

/-! ### Parameter sets (R310) -/

/-- The parameter registers of a context come into force. -/
def Dev.latchCam (d : Dev) (x : Nat) : Dev :=
  d.latchWhere (fun c => c.i == x && [Reg.CAM_CTX_SRC, .CAM_CTX_SIZE, .CAM_CTX_CFG, .CAM_CTX_BLACK, .CAM_CTX_CCM, .CAM_CTX_BUF,
    .CAM_STREAK_X, .CAM_STREAK_Y, .CAM_STREAK_CFG, .CAM_POOL, .CAM_POOL_LIM].contains c.fld.reg)

/-- The set in force of a context. -/
def Dev.camSet (d : Dev) (x : Nat) : CamSet :=
  { w := d.eff .CAM_CTX_SIZE_W x, h := d.eff .CAM_CTX_SIZE_H x, dt := d.eff .CAM_CTX_SRC_DT x, cfa := d.eff .CAM_CTX_CFG_CFA x,
    outFmt := d.eff .CAM_CTX_CFG_OUT_FMT x, rawKeep := d.eff .CAM_CTX_CFG_RAW_KEEP x == 1,
    black := [d.eff .CAM_CTX_BLACK_B_LO x 0, d.eff .CAM_CTX_BLACK_B_HI x 0, d.eff .CAM_CTX_BLACK_B_LO x 1,
      d.eff .CAM_CTX_BLACK_B_HI x 1],
    ccm := (List.range 9).map (fun k => if k % 2 = 0 then d.effs .CAM_CTX_CCM_C_LO x (k / 2) else d.effs .CAM_CTX_CCM_C_HI x (k / 2)),
    x0 := d.eff .CAM_STREAK_X_LO x, x1 := d.eff .CAM_STREAK_X_HI x, y0 := d.eff .CAM_STREAK_Y_LO x, y1 := d.eff .CAM_STREAK_Y_HI x,
    axis := d.eff .CAM_STREAK_CFG_AXIS x == 1, half := d.eff .CAM_STREAK_CFG_HALF x, sw := d.eff .CAM_STREAK_CFG_STREAK_W x,
    thr := d.eff .CAM_POOL_POOL_THR x, areaMin := d.eff .CAM_POOL_LIM_AREA_MIN x, areaMax := d.eff .CAM_POOL_LIM_AREA_MAX x,
    shading := (d.cam x).shading, defects := (d.cam x).defects }

/-! ### Stages (R314) -/

/-- An image: rows of 16-bit values. -/
abbrev Image := List (List Nat)

/-- One value of an image. -/
def Image.at' (im : Image) (c r : Nat) : Nat := (im.getD r []).getD c 0

/-- A value clamped to 16 bits. -/
def clamp16 (x : Int) : Nat := (clampI 0 65535 x).toNat

/-- An image made point by point. -/
def Image.mk' (w h : Nat) (f : Nat → Nat → Nat) : Image := (List.range h).map (fun r => (List.range w).map (fun c => f c r))

/-- CFA position of a pixel: 0 to 3, row by row. -/
def cfaPos (c r : Nat) : Nat := r % 2 * 2 + c % 2

/-- Stage 1. -/
def CamSet.stage1 (s : CamSet) (im : Image) : Image :=
  Image.mk' s.w im.length (fun c r => im.at' c r - s.black.getD (cfaPos c r) 0)

/-- Stage 2: a listed pixel becomes the mean of its same-colour neighbours left and right, or the one at an edge. -/
def CamSet.stage2 (s : CamSet) (im : Image) : Image :=
  let n := if s.cfa = 0 then 1 else 2
  let listed (c r : Nat) : Bool := s.defects.any (fun d => hasBit d 31 && bitsOf d 13 0 == c && bitsOf d 29 16 == r)
  Image.mk' s.w im.length (fun c r =>
    if listed c r then
      if c < n then (if c + n < s.w then im.at' (c + n) r else im.at' c r)
      else if s.w ≤ c + n then im.at' (c - n) r
      else (im.at' (c - n) r + im.at' (c + n) r) / 2
    else im.at' c r)

/-- The gain of stage 3 at a pixel: bilinear on the grid that spans the frame corners. -/
def CamSet.gain (s : CamSet) (c r : Nat) : Nat :=
  if s.shading.isEmpty then 4096
  else
    let p := cfaPos c r * 1089
    let dx := max (s.w - 1) 1
    let dy := max (s.h - 1) 1
    let i := min (c * 32 / dx) 31
    let j := min (r * 32 / dy) 31
    let fx := c * 32 - i * dx
    let fy := r * 32 - j * dy
    let g (i j : Nat) : Nat := s.shading.getD (p + j * 33 + i) 0
    ((g i j * (dx - fx) + g (i + 1) j * fx) * (dy - fy) + (g i (j + 1) * (dx - fx) + g (i + 1) (j + 1) * fx) * fy) / (dx * dy)

/-- Stage 3. -/
def CamSet.stage3 (s : CamSet) (im : Image) : Image :=
  Image.mk' s.w im.length (fun c r => min (im.at' c r * s.gain c r / 4096) 65535)

/-- Colour of a pixel: 0 red, 1 green, 2 blue (R314 stage 4). -/
def cfaColour (cfa c r : Nat) : Nat :=
  let p := cfaPos c r
  let row := if cfa = 1 then [0, 1, 1, 2] else if cfa = 2 then [1, 0, 2, 1] else if cfa = 3 then [1, 2, 0, 1] else [2, 1, 1, 0]
  row.getD p 0

/-- Stage 4 for one colour: the pixel itself, or the mean of same-colour pixels in its 3 × 3 window. -/
def CamSet.stage4 (s : CamSet) (im : Image) (k c r : Nat) : Nat :=
  if s.cfa = 0 ∨ cfaColour s.cfa c r = k then im.at' c r
  else
    let near := (rangeFrom (r - 1) (if r = 0 then 2 else 3)).flatMap (fun r' =>
      (rangeFrom (c - 1) (if c = 0 then 2 else 3)).filterMap (fun c' =>
        if r' < im.length ∧ c' < s.w ∧ cfaColour s.cfa c' r' = k then some (im.at' c' r') else none))
    near.foldl (· + ·) 0 / max near.length 1

/-- Stage 5 for one row of the matrix. -/
def CamSet.stage5 (s : CamSet) (k : Nat) (rgb : Nat × Nat × Nat) : Nat :=
  clamp16 ((s.ccm.getD (3 * k) 0 * rgb.1 + s.ccm.getD (3 * k + 1) 0 * rgb.2.1 + s.ccm.getD (3 * k + 2) 0 * rgb.2.2) / 4096)

/-- What stages 1 to 5 give: the stage-3 image and R′, G′, B′ and Y. -/
structure Processed where
  raw : Image
  red : Image
  green : Image
  blue : Image
  luma : Image
  deriving DecidableEq, Repr

/-- Stages 1 to 5 (R314). -/
def CamSet.process (s : CamSet) (im : Image) : Processed :=
  let raw := s.stage3 (s.stage2 (s.stage1 im))
  let n := im.length
  let plane (k : Nat) : Image := Image.mk' s.w n (fun c r =>
    s.stage5 k (s.stage4 raw 0 c r, s.stage4 raw 1 c r, s.stage4 raw 2 c r))
  let r := plane 0
  let g := plane 1
  let b := plane 2
  { raw := raw, red := r, green := g, blue := b,
    luma := Image.mk' s.w n (fun c l => min ((19595 * r.at' c l + 38470 * g.at' c l + 7471 * b.at' c l) / 65536) 65535) }

/-- Bytes per pixel of an output format (R314 stage 7). -/
def outBytes (fmt : Nat) : Nat := if fmt = 0 then 0 else if fmt = 2 then 6 else 2

/-- The output image (R314 stage 7). -/
def CamSet.output (s : CamSet) (p : Processed) : List Byte :=
  if s.outFmt = 0 then []
  else if s.outFmt = 1 then p.luma.flatMap (fun r => r.flatMap (leBytes 2))
  else if s.outFmt = 3 then p.raw.flatMap (fun r => r.flatMap (leBytes 2))
  else (List.range p.red.length).flatMap (fun r => (List.range s.w).flatMap (fun c =>
    leBytes 2 (p.red.at' c r) ++ leBytes 2 (p.green.at' c r) ++ leBytes 2 (p.blue.at' c r)))

/-! ### Statistics (R318 to R320) -/

/-- A histogram of 256 bins. -/
def histogram (im : Image) : List Byte :=
  let vs := im.flatMap (fun r => r.map (· / 256))
  (List.range 256).flatMap (fun b => leBytes 4 (vs.count b))

/-- Mean of an image over columns and rows, truncated. -/
def Image.mean (im : Image) (c0 c1 r0 r1 : Nat) : Nat :=
  let vs := ((im.drop r0).take (r1 - r0)).flatMap (fun r => (r.drop c0).take (c1 - c0))
  vs.foldl (· + ·) 0 / max vs.length 1

/-- The 1,024 zones: 32 × 32, the last column and row taking the remainder (R318). -/
def CamSet.zones (s : CamSet) (p : Processed) : List Byte :=
  let zw := s.w / 32
  let zh := s.h / 32
  (List.range 32).flatMap (fun j => (List.range 32).flatMap (fun i =>
    let c1 := if i = 31 then s.w else (i + 1) * zw
    let r1 := if j = 31 then s.h else (j + 1) * zh
    [p.red, p.green, p.blue, p.luma].flatMap (fun im => leBytes 2 (im.mean (i * zw) c1 (j * zh) r1))))

/-- Median of an odd number of values. -/
def medianOf (l : List Nat) : Nat := (l.mergeSort (fun a b => decide (a ≤ b))).getD (l.length / 2) 0

/-- The streak metric and its position, for a whole frame (R319); the ROI is cut to the frame, and 0xFFFF is answered where
nothing of it is left. -/
def CamSet.streak (s : CamSet) (y : Image) : Nat × Nat :=
  let n := y.length
  let len := if s.axis then n else s.w
  let a0 := if s.axis then s.y0 else s.x0
  let a1 := min (if s.axis then s.y1 else s.x1) (len - 1)
  let prof := (rangeFrom a0 (a1 + 1 - a0)).map (fun c =>
    if s.axis then y.mean s.x0 (min (s.x1 + 1) s.w) c (c + 1) else y.mean c (c + 1) s.y0 (min (s.y1 + 1) n))
  let med (k : Nat) : Nat := medianOf ((prof.drop (k - s.half)).take (2 * s.half + 1))
  let res (k : Nat) : Int := (prof.getD k 0 : Int) - med k
  let count := prof.length - (2 * s.half + s.sw - 1)
  let ms := (List.range count).map (fun i =>
    let c := i + s.half
    let a := ((List.range s.sw).foldl (fun t q => t + res (c + q)) 0).tdiv (max s.sw 1 : Nat)
    (a.natAbs * 1000 / max (med c) 1, a0 + c))
  match ms with
  | [] => (0xffff, 0)
  | m :: rest =>
    let b := rest.foldl (fun b x => if b.1 < x.1 then x else b) m
    (min b.1 65534, b.2)

/-- POOL_AREA and POOL_MEAN (R320). -/
def CamSet.pool (s : CamSet) (y : Image) : Nat × Nat :=
  let vs := ((y.drop s.y0).take (s.y1 + 1 - s.y0)).flatMap (fun r => ((r.drop s.x0).take (s.x1 + 1 - s.x0)).filter (fun v => decide (s.thr ≤ v)))
  (vs.length, vs.foldl (· + ·) 0 / max vs.length 1)

/-- Size of a result block (R318). -/
def resultLen : Nat := 12352

/-- A result block's numbers. -/
structure Result where
  lines : Nat
  flags : Nat
  metric : Nat := 0xffff
  pos : Nat := 0
  area : Nat := 0
  mean : Nat := 0
  deriving DecidableEq, Repr

/-- The header of a result block: bytes 0 to 63 (R318). -/
def CamFrame.header (f : CamFrame) (r : Result) : List Byte :=
  leBytes 8 (ts64 f.start) ++ leBytes 4 f.number ++ leBytes 2 r.lines ++ leBytes 2 f.extra ++ leBytes 1 r.flags
    ++ leBytes 1 f.ctx ++ leBytes 1 f.port ++ leBytes 1 0 ++ leBytes 2 r.metric ++ leBytes 2 r.pos ++ leBytes 4 r.area
    ++ leBytes 2 r.mean ++ leBytes 34 0

/-- A result block without statistics: a frame that did not arrive or was dropped (R313, R317). -/
def CamFrame.emptyBlock (f : CamFrame) (flags : Nat) : List Byte :=
  f.header { lines := 0, flags := flags } ++ leBytes (resultLen - 64) 0

/-- Flags of a frame: SHORT, LONG, PARTIAL, TIMEOUT, DROPPED, REPROC (R318, R321). -/
def CamFrame.flags (f : CamFrame) (part : Bool) : Nat :=
  f.short.toNat + (if 0 < f.extra then 2 else 0) + (if f.short || part then 4 else 0) + (if f.timeout then 8 else 0)
    + (if f.dropped then 16 else 0) + (if f.reproc then 32 else 0)

/-- POOL_OUT of a frame (R320). -/
def CamFrame.poolOut (f : CamFrame) (area : Nat) : Bool :=
  f.set.areaMax != 0 && !(decide (f.set.areaMin ≤ area ∧ area ≤ f.set.areaMax))

/-- The result of a processed frame (R318 to R320). -/
def CamFrame.result (f : CamFrame) (p : Processed) (part : Bool) : Result :=
  let m := if f.short then (0xffff, 0) else f.set.streak p.luma
  let a := f.set.pool p.luma
  { lines := f.lines.length, flags := f.flags part + (if f.poolOut a.1 then 64 else 0), metric := m.1, pos := m.2,
    area := a.1, mean := a.2 }

/-- The result block of a processed frame (R318). -/
def CamFrame.block (f : CamFrame) (p : Processed) (r : Result) : List Byte :=
  f.header r ++ histogram p.red ++ histogram p.green ++ histogram p.blue ++ histogram p.luma ++ f.set.zones p

/-! ### Buffers (R317) -/

/-- A size rounded up to 64. -/
def up64 (n : Nat) : Nat := ceilDiv n 64 * 64

/-- Sizes of the raw frame and of the output image in a buffer. -/
def CamSet.rawBytes (s : CamSet) (stored : Bool) : Nat := if stored then up64 (s.w * s.h * 2) else 0
def CamSet.imageBytes (s : CamSet) : Nat := s.w * s.h * outBytes s.outFmt

/-- Bytes that a frame's buffer takes. -/
def CamSet.bufBytes (s : CamSet) (stored : Bool) : Nat := s.rawBytes stored + up64 s.imageBytes + resultLen

/-- DRAM address of a context's buffer. -/
def Dev.bufBase (d : Dev) (x k : Nat) : Nat := (d.eff .CAM_CTX_BUF_BASE_MB x + k * d.eff .CAM_CTX_BUF_BUF_MB x) * 2 ^ 20

/-- Whether a port's frames run in-line (R309). -/
def Dev.isInline (d : Dev) (p : Nat) : Bool := d.flag .CAM_INLINE_EN && d.get .CAM_INLINE_PORT == p

/-- A frame's raw lines are stored in its buffer: on the memory path, or with RAW_KEEP (R309). -/
def CamFrame.stored (f : CamFrame) : Bool := !f.inl || f.set.rawKeep

/-- A frame's block goes to DRAM after its image, and its record to the buffer's description; the buffer is free. -/
def Dev.storeResult (d : Dev) (f : CamFrame) (image block : List Byte) (r : Result) : Dev :=
  match f.buf with
  | none => d
  | some k =>
    let a := d.bufBase f.ctx k + f.set.rawBytes f.stored
    let d := (d.dramWrite a image).dramWrite (a + up64 f.set.imageBytes) block
    let b : BufInfo := {
      busy := false, raw := f.stored, set := some f.set, start := f.start, number := f.number, lines := r.lines,
      extra := f.extra, flags := r.flags, port := f.port }
    d.modCam f.ctx (fun c => { c with bufs := Tab.set {} c.bufs k b })

/-- Registers, records and events of a result (R318, R320). -/
def Dev.noteResult (d : Dev) (f : CamFrame) (r : Result) : Dev :=
  let x := f.ctx
  let d := if hasBit r.flags 0 then d.raise .CAM_CTX_STAT_SHORT_ANY x else d
  let d := if hasBit r.flags 1 then d.raise .CAM_CTX_STAT_LONG_ANY x else d
  let d := if hasBit r.flags 4 then d.raise .CAM_CTX_STAT_DROPPED x else d
  let d := if hasBit r.flags 6 then
      ((d.bump .CAM_CTX_STAT_POOL_OUT_CNT 1 x).record 0x0801 3 (recSource 44 x) x r.area).occur (353 + 2 * x) else d
  let d := if r.flags % 32 ≠ 0 ∧ (r.flags % 32 ≠ 4) then d.occur (352 + 2 * x) else d
  if f.reproc then d
  else
    let bad := hasBit r.flags 0 || hasBit r.flags 3 || hasBit r.flags 4
    let d := (d.put .CAM_CTX_LAST_METRIC r.metric x).put .CAM_CTX_LAST_LINES r.lines x
    if d.get .SYS_LAYER_STAT_STATE = 1 then d.modCam x (fun c => { c with lastValid := !bad, lastMetric := r.metric }) else d

/-- A frame's result is written to host memory for its descriptor (R311). -/
def Dev.hostResult (d : Dev) (f : CamFrame) (image block : List Byte) : Dev :=
  match f.job.bind d.job with
  | some j =>
    if f.reproc then (d.jobWrite j j.addr block).jobWrite j (j.addr + resultLen) image
    else if j.addr = 0 then d
    else d.jobWrite j (j.addr + f.k * resultLen) block
  | none => d

/-- A frame is processed and its results written (R314, R317, R318). `part` marks it PARTIAL (R322). -/
def Dev.processFrame (d : Dev) (f : CamFrame) (part : Bool) : Dev :=
  if f.dropped then
    let r : Result := { lines := 0, flags := f.flags part }
    (d.hostResult f [] (f.emptyBlock r.flags)).noteResult f r
  else
    let p := f.set.process f.lines
    let r := f.result p part
    let image := f.set.output p
    let block := f.block p r
    ((d.storeResult f image block r).hostResult f image block).noteResult f r

/-! ### CSI-2 packets (R306, R307) -/

/-- The syndromes of the 26 protected bits of a packet header. -/
def eccCodes : List Nat :=
  [0x07, 0x0b, 0x0d, 0x0e, 0x13, 0x15, 0x16, 0x19, 0x1a, 0x1c, 0x23, 0x25, 0x26] ++
  [0x29, 0x2a, 0x2c, 0x31, 0x32, 0x34, 0x38, 0x1f, 0x2f, 0x37, 0x3b, 0x3d, 0x3e]

/-- The check bits of a header's 26 bits. -/
def eccOf (h : Nat) : Nat := (List.range 26).foldl (fun e k => if hasBit h k then Nat.xor e (eccCodes.getD k 0) else e) 0

/-- A header after error correction, and whether one bit was corrected; none for a multi-bit error. -/
def eccCheck (h : Nat) : Option (Nat × Bool) :=
  let body := h % 2 ^ 26
  let syn := Nat.xor (eccOf body) (bitsOf h 31 26)
  if syn = 0 then some (body, false)
  else if [1, 2, 4, 8, 16, 32].contains syn then some (body, true)
  else if eccCodes.contains syn then
    let k := eccCodes.idxOf syn
    some (if hasBit body k then body - 2 ^ k else body + 2 ^ k, true)
  else none

/-- One byte of the payload CRC: polynomial 0x1021 reflected. -/
def csiCrcByte (c : Nat) (b : Byte) : Nat :=
  (List.range 8).foldl (fun c _ => if c % 2 = 1 then Nat.xor (c / 2) 0x8408 else c / 2) (Nat.xor c b.toNat)

/-- The CRC of a long packet's payload. -/
def csiCrc (bs : List Byte) : Nat := bs.foldl csiCrcByte 0xffff

/-- Pixels of a RAW8 payload, shifted to 16 bits (R307). -/
def raw8 (bs : List Byte) : List Nat := bs.map (fun b => b.toNat * 256)

/-- Pixels of a RAW10 payload: four pixels in five bytes. -/
def raw10 : List Byte → List Nat
  | a :: b :: c :: e :: l :: rest =>
    let x (v : Byte) (k : Nat) : Nat := (v.toNat * 4 + l.toNat / 4 ^ k % 4) * 64
    x a 0 :: x b 1 :: x c 2 :: x e 3 :: raw10 rest
  | _ => []

/-- Pixels of a RAW12 payload: two pixels in three bytes. -/
def raw12 : List Byte → List Nat
  | a :: b :: l :: rest => (a.toNat * 16 + l.toNat % 16) * 16 :: (b.toNat * 16 + l.toNat / 16) * 16 :: raw12 rest
  | _ => []

/-- Pixels of a RAW14 payload: four pixels in seven bytes. -/
def raw14 : List Byte → List Nat
  | a :: b :: c :: e :: l :: m :: n :: rest =>
    let low := l.toNat + m.toNat * 256 + n.toNat * 65536
    let x (v : Byte) (k : Nat) : Nat := (v.toNat * 64 + low / 64 ^ k % 64) * 4
    x a 0 :: x b 1 :: x c 2 :: x e 3 :: raw14 rest
  | _ => []

/-- Pixels of a payload of a data type, 16 bits each (R306, R307). -/
def pixelsOf (dt : Nat) (bs : List Byte) : List Nat :=
  if dt = 0x2a then raw8 bs else if dt = 0x2b then raw10 bs else if dt = 0x2c then raw12 bs else raw14 bs

end Sys2Proof.Machine
end

