-- ==== Sys2Proof/Machine/Scarf.lean ====
section
/-! DEFINITION. Scarf zones (R182 to R197): dither, split and shares, weights, signatures, notices, absence, takeover
passes. -/

namespace Sys2Proof.Machine

open Sys2Proof

/-- Whether a zone of an engine is enabled, as in force. -/
def Dev.zoneOn (d : Dev) (n z : Nat) : Bool := d.eff .SCF_ZONE_CFG_ENABLE n z == 1

/-- The signature of the shared fields of a zone (R192 and SCF_ZONE_TIME.SIG). -/
def Dev.zoneSig (d : Dev) (n z : Nat) : Nat :=
  crc16 (leBytes 4 (d.eff .SCF_ZONE_REF_X_REF n z) ++ leBytes 4 (d.eff .SCF_ZONE_REF_Y_REF n z) ++
    leBytes 4 (d.eff .SCF_ZONE_GEOM_ANGLE n z + d.eff .SCF_ZONE_GEOM_WIDTH_UM n z * 2 ^ 16) ++
    leBytes 4 (d.eff .SCF_ZONE_SEED_SEED n z) ++
    leBytes 2 (d.eff .SCF_ZONE_CFG_FEATHER_UM n z + d.eff .SCF_ZONE_CFG_SHAPE n z * 2 ^ 11))

/-- The dither value of a vector in a layer (R185). -/
def dither (seed layer vidx : Nat) : Nat :=
  (seed % 65536 + 40503 * (layer % 65536) + 25033 * vidx + seed / 65536 % 65536 * vidx * vidx % 65536) % 65536

/-- The split of a scarf vector (R186): its length, split point, feather, whether role A is near, and the SHORT and
MISS cases with the role that takes a missed vector. -/
structure Split where
  len : Nat
  mid : Nat
  feather : Nat
  nearA : Bool
  short : Bool := false
  miss : Bool := false
  /-- On MISS, role A exposes the whole vector. -/
  missA : Bool := false
  deriving DecidableEq, Repr

/-- The split computation of R186 from across coordinates, half width, feather and dither. -/
def splitOf (len : Nat) (aS aE h : Int) (f u : Nat) : Split :=
  let base : Split := { len := len, mid := 0, feather := 0, nearA := decide (aS < aE) }
  let missed : Split := { base with miss := true, missA := decide (aS + aE < 0) }
  let cut (s1 s2 : Int) : Split :=
    if s2 - s1 ≤ f then { base with feather := (s2 - s1).toNat, mid := ((s1 + s2) / 2).toNat, short := true }
    else { base with feather := f, mid := (s1 + (f / 2 : Nat) + (u * (s2 - s1 - f)) / 65536).toNat }
  if aE = aS then (if aS.natAbs ≤ h.natAbs then cut 0 len else missed)
  else
    let t1 := ((len : Int) * (-h - aS)).tdiv (aE - aS)
    let t2 := ((len : Int) * (h - aS)).tdiv (aE - aS)
    let s1 := max (min t1 t2) 0
    let s2 := min (max t1 t2) len
    if s2 ≤ s1 then missed else cut s1 s2

/-- The split of a vector in a zone of an engine in the open layer (R183, R185, R186). -/
def Dev.zoneSplit (d : Dev) (n z vidx : Nat) (vs ve : Pt) : Split :=
  let u := unitOf (d.eff .SCF_ZONE_GEOM_ANGLE n z)
  let across (p : Pt) : Int :=
    rndAway (dot (p.x - d.effs .SCF_ZONE_REF_X_REF n z) (p.y - d.effs .SCF_ZONE_REF_Y_REF n z) u.1 u.2) (2 ^ 30)
  splitOf (vs.dist ve) (across vs) (across ve) ((d.eff .SCF_ZONE_GEOM_WIDTH_UM n z * 500 : Nat) : Int)
    (d.eff .SCF_ZONE_CFG_FEATHER_UM n z * 1000)
    (dither (d.eff .SCF_ZONE_SEED_SEED n z) (d.get .SYS_LAYER_NUM_LAYER_NUM) vidx)

/-- Whether an engine's role in a zone is the near one for a split (R187). -/
def Dev.isNear (d : Dev) (n z : Nat) (s : Split) : Bool := (d.eff .SCF_ZONE_CFG_ROLE n z == 0) == s.nearA

/-- The arc range of the near or the far share (R186, R187); nothing, or everything, of a missed vector. -/
def Split.range (s : Split) (roleA near : Bool) : Nat × Nat :=
  if s.miss then (if s.missA == roleA then (0, s.len) else (0, 0))
  else if near then (0, s.mid + s.feather / 2) else (s.mid - s.feather / 2, s.len)

/-- An engine's own share of a vector (R187). -/
def Dev.shareOf (d : Dev) (n z vidx : Nat) (vs ve : Pt) : Share :=
  let s := d.zoneSplit n z vidx vs ve
  let near := d.isNear n z s
  let r := s.range (d.eff .SCF_ZONE_CFG_ROLE n z == 0) near
  { zone := z, vidx := vidx, lo := r.1, hi := r.2, len := s.len, split := s.mid, feather := if s.miss then 0 else s.feather,
    near := near, miss := s.miss }

/-- The partner's share of the same vector. -/
def Share.partnerRange (s : Share) : Nat × Nat :=
  if s.miss then (if s.hi = s.lo then (0, s.len) else (0, 0))
  else if s.near then (s.split - s.feather / 2, s.len) else (0, s.split + s.feather / 2)

/-- The part of the partner's share that it has not exposed: all of it, or from its mark on (R193). -/
def Share.owedRange (s : Share) (mark : Nat) : Nat × Nat :=
  let r := s.partnerRange
  if mark = 0xffffffff then r else (max r.1 (min mark r.2), r.2)

/-- The mark at which the partner stopped within its part, for the restart taper (R193). -/
def Share.markOf (s : Share) (mark : Nat) : Option Nat :=
  let o := s.owedRange mark
  if mark = 0xffffffff ∨ o.1 = o.2 then none else some mark

/-- The union of a share and the partner's unexposed part (R193). -/
def Share.united (s : Share) (mark : Nat) : Share :=
  let o := s.owedRange mark
  let r := if o.1 = o.2 then (s.lo, s.hi) else if s.lo = s.hi then o else (min s.lo o.1, max s.hi o.2)
  { s with lo := r.1, hi := r.2, union := true, mark := s.markOf mark }

/-- The takeover pass over a vector: the partner's unexposed part with the partner's weights (R194). -/
def Share.passOf (s : Share) (mark : Nat) : Share :=
  let o := s.owedRange mark
  { s with lo := o.1, hi := o.2, near := !s.near, pass := true, mark := s.markOf mark }

/-- A weight from 0 to 1: numerator and denominator (R188). -/
abbrev Weight := Nat × Nat

/-- The weights 0 and 1. -/
def wNone : Weight := (0, 1)
def wAll : Weight := (1, 1)

/-- The product of two weights, and their sum, at most 1. -/
def wMul (a b : Weight) : Weight := (a.1 * b.1, a.2 * b.2)
def wAdd (a b : Weight) : Weight := (min (a.1 * b.2 + b.1 * a.2) (a.2 * b.2), a.2 * b.2)

/-- Whether a weight is below 1 (R189). -/
def wBelow (a : Weight) : Bool := decide (a.1 < a.2)

/-- The weight of the far share within the feather, and of the near share: 1 less that (R188). Linear weights are exact; the cosine of
a raised one is cut to 160 bits. -/
def weightAt (split f s : Nat) (near shape : Bool) : Weight :=
  let lo := split - f / 2
  if f = 0 then (if (if near then s ≤ split else split ≤ s) then wAll else wNone)
  else
    let far : Weight := if s ≤ lo then wNone else if lo + f ≤ s then wAll
      else if shape then ((((trigOne : Int) - cosFix ((s - lo) * piFix / f))).toNat, 2 * trigOne)
      else (s - lo, f)
    if near then (far.2 - far.1, far.2) else far

/-- The restart taper after a mark: rises linearly from 0 to 1 over TAPER_UM (R193, R363). -/
def taperAt (mark s taper : Nat) : Weight :=
  if s < mark then wNone else if taper ≤ s - mark then wAll else (s - mark, taper)

/-- The weight of a share at an arc position of the whole vector: the sum over the shares it covers, the partner's with the restart
taper where that stopped at a mark (R188, R193, R194). -/
def Dev.shareWeight (d : Dev) (n : Nat) (sh : Share) (s : Nat) : Weight :=
  let shape := d.eff .SCF_ZONE_CFG_SHAPE n sh.zone == 1
  let tapered (w : Weight) : Weight := match sh.mark with
    | some m => wMul w (taperAt m s (d.get .HNG_RESTART_TAPER_UM * 1000))
    | none => w
  if sh.miss then tapered wAll
  else
    let own := if sh.pass then wNone else
      let lo := if sh.near then 0 else sh.split - sh.feather / 2
      let hi := if sh.near then sh.split + sh.feather / 2 else sh.len
      if lo ≤ s ∧ s ≤ hi then weightAt sh.split sh.feather s sh.near shape else wNone
    if sh.union || sh.pass then wAdd own (tapered (weightAt sh.split sh.feather s (sh.pass == sh.near) shape)) else own

/-! ### Absence (R190, R195, R196) -/

def Dev.absence (d : Dev) (n z : Nat) : Absence := Tab.get {} (d.eng n).absences z
def Dev.setAbsence (d : Dev) (n z : Nat) (a : Absence) : Dev :=
  d.modEng n (fun e => { e with absences := Tab.set {} e.absences z a })

/-- Whether the partner is absent for a vector, with the mark where it stopped (R190). -/
def Absence.of (a : Absence) (vidx : Nat) : Option Nat :=
  if a.yields.contains vidx then some 0xffffffff
  else match a.from' with
    | some k => if k = vidx then some a.mark else if k < vidx then some 0xffffffff else none
    | none => none

/-- Whether this channel is absent itself for a vector (R190, R195). -/
def Absence.self (a : Absence) (vidx : Nat) : Bool :=
  match a.selfFrom with
  | some k => decide (k ≤ vidx)
  | none => false

/-- Next vector index of a zone (R184). -/
def Dev.vidxOf (d : Dev) (n z : Nat) : Nat := Tab.get 0 (d.eng n).vidx z

/-- The share an engine exposes of a vector: its own, or the union with an absent partner's part; nothing where its channel is absent
itself (R193, R195). -/
def Dev.shareNow (d : Dev) (n z vidx : Nat) (vs ve : Pt) : Share :=
  let a := d.absence n z
  let s := d.shareOf n z vidx vs ve
  if a.self vidx then { s with lo := 0, hi := 0 }
  else match a.of vidx with
    | some m => s.united m
    | none => s

/-- A record planned over a share: its start and end lie on the whole vector (R187). -/
def LRec.over' (r : LRec) (s : Share) : LRec :=
  { r with share := some s, S := r.VS.along r.VE s.len s.lo, E := r.VS.along r.VE s.len s.hi, dark := r.dark }

/-- A pass that is not run: counted, recorded and raised (R194). -/
def Dev.uncovered (d : Dev) (n : Nat) (p : Pass) : Dev :=
  ((d.bump .SCF_ERR_UNCOVERED 1 n).record 0x0311 4 (recSource n 0) (d.get .SYS_LAYER_NUM_LAYER_NUM) p.zone p.vidx 3).occur
    (193 + 2 * n)

/-- Whether a plan's motion has begun, a laser-off move and a lead-in included. -/
def Plan.begun (p : Plan) (t : Nat) : Bool := p.started || decide (p.tMove ≤ t)

/-- What an engine retains of a vector (R194). -/
def Dev.histOf (d : Dev) (n z k : Nat) : Option ScarfRec := (d.eng n).hist.find? (fun h => h.zone == z && h.vidx == k)

/-- A change to it. -/
def Dev.modHist (d : Dev) (n z k : Nat) (g : ScarfRec → ScarfRec) : Dev :=
  d.modEng n (fun e => { e with hist := e.hist.map (fun h => if h.zone == z && h.vidx == k then g h else h) })

/-- The takeover pass over a retained vector. -/
def Dev.passShare (d : Dev) (n : Nat) (p : Pass) (h : ScarfRec) : Share := (d.shareOf n p.zone p.vidx h.VS h.VE).passOf p.mark

/-- An engine owes a takeover pass for a vector that its partner has a part of (R194), in ascending VIDX. -/
def Dev.owePass (d : Dev) (n : Nat) (p : Pass) (h : ScarfRec) : Dev :=
  let sh := d.passShare n p h
  let d := d.modHist n p.zone p.vidx (fun h => { h with taken := true })
  if sh.lo = sh.hi then d
  else
    let ps := (d.eng n).passes
    d.modEng n (fun e => { e with
      passes := ps.filter (fun q => decide (q.vidx ≤ p.vidx)) ++ [p] ++ ps.filter (fun q => decide (p.vidx < q.vidx)) })

/-- Owed passes dropped, those not yet run to their end among them: each counted and recorded (R194, R197). One whose motion has begun
goes on where the record in progress keeps its light. -/
def Dev.dropPasses (d : Dev) (n : Nat) (lit : Bool) : Dev :=
  let e := d.eng n
  let ps := e.plans.filter (fun p => !p.r.dark && !(lit && p.begun d.now))
  let begun := (ps.map (·.r) ++ e.look).filterMap (fun r => (r.share.filter (·.pass)).map (fun s =>
    ({ zone := s.zone, vidx := s.vidx, mark := 0xffffffff } : Pass)))
  ((begun ++ e.passes).foldl (fun d p => d.uncovered n p) d).modEng n (fun e =>
    { e with passes := [], look := e.look.filter (fun r => !r.share.any (·.pass)) })

/-- Both partners of a zone are absent: recorded once, with the VIDX at which that began (R196). -/
def Dev.noteBoth (d : Dev) (n z : Nat) : Dev :=
  let a := d.absence n z
  match a.from', a.selfFrom with
  | some j, some k =>
    if a.bothNoted then d
    else
      (d.setAbsence n z { a with bothNoted := true }).record 0x0311 4 (recSource n 0) (d.get .SYS_LAYER_NUM_LAYER_NUM) z
        (max j k) 2
  | _, _ => d

/-- Whether a record is this channel's own share of a vector, or its union. -/
def LRec.isShare (r : LRec) (z k : Nat) : Bool := r.share.any (fun s => s.zone == z && s.vidx == k && !s.pass)

/-- A share that has not started is planned again as the union, its request keeping its instant (R193, R194). -/
def Dev.redoShare (d : Dev) (n : Nat) (r : LRec) (sh : Share) : Dev :=
  let r' := r.over' (d.shareNow n sh.zone sh.vidx r.VS r.VE)
  let d := d.modEng n (fun e => { e with look := e.look.map (fun x => if x.ser == r.ser then r' else x) })
  match d.reqOf n r.ser with
  | some q =>
    (((d.releaseReq q).modReq n r.ser (fun q =>
        { q with x0 := r'.S.x, y0 := r'.S.y, x1 := r'.E.x, y1 := r'.E.y, status := .pending })).bump .SCF_CNT_A_TAKEN 1 n).record
      0x0310 2 (recSource n 0) (d.get .SYS_LAYER_NUM_LAYER_NUM) sh.zone sh.vidx
  | none => d

/-- What an engine does about a vector whose partner has become absent: a share not started is planned again, a started one owes a
pass, and one no longer retained is uncovered (R193, R194). A share whose plan is final has started, as its plan cannot change
(R138; DESIGN CHOICE). -/
def Dev.coverVector (d : Dev) (n z k mark : Nat) : Dev :=
  let e := d.eng n
  let p : Pass := { zone := z, vidx := k, mark := mark }
  match e.look.find? (fun r => r.isShare z k) with
  | some r => match r.share with
    | some sh => if sh.union then d else d.redoShare n r sh
    | none => d
  | none =>
    match d.histOf n z k with
    | some h => if (h.started || e.plans.any (fun q => q.r.isShare z k && !q.r.share.any (·.union))) && !h.taken then d.owePass n p h else d
    | none => if k < d.vidxOf n z then d.uncovered n p else d

/-- A partner becomes absent in a zone from a vector on, or for one vector (R190, R193, R194, R196). -/
def Dev.partnerAbsent (d : Dev) (n z vidx mark : Nat) (one : Bool) : Dev :=
  let a := d.absence n z
  if a.from'.any (fun k => decide (k ≤ vidx)) then d
  else
    let d := d.setAbsence n z (if one then { a with yields := a.yields ++ [vidx] } else { a with from' := some vidx, mark := mark })
    let d := if one then d else d.noteBoth n z
    let upTo := match a.from' with
      | some k => min k (d.vidxOf n z)
      | none => d.vidxOf n z
    (if one then [vidx] else rangeFrom vidx (upTo - vidx)).foldl
      (fun d k => d.coverVector n z k (if k = vidx then mark else 0xffffffff)) d

/-! ### Notices (R191, R192) -/

/-- A notice granule (R192). An engine out of service without cover names the channel it has lost, its own. -/
def Dev.notice (d : Dev) (n z kind vidx mark : Nat) : Nat :=
  let ch := d.get .ENG_STAT_BOUND_CH n
  d.get .SYS_LAYER_NUM_LAYER_NUM + kind * 2 ^ 32 + (if ch = 63 then n else ch) * 2 ^ 36 + z * 2 ^ 42
    + d.eff .SCF_ZONE_CFG_PART_CH n z * 2 ^ 48 + d.eff .SCF_ZONE_CFG_PART_ZONE n z * 2 ^ 54 + vidx % 65536 * 2 ^ 64
    + mark * 2 ^ 80 + d.zoneSig n z * 2 ^ 112

/-- A notice is taken by the zone it names, after the checks of R192. -/
def Dev.takeNotice (d : Dev) (src g : Nat) : Dev :=
  let discard (d : Dev) : Dev := d.bump .FAB_DROP_NOTICE_DISC
  match d.engineOf (bitsOf g 53 48) with
  | none => discard d
  | some n =>
    let z := bitsOf g 59 54
    let remote := d.eff .SCF_ZONE_CFG_REMOTE n z == 1
    let okSrc := if remote then src == d.eff .SCF_ZONE_PART_PART_DEV n z || src == d.eff .SCF_ZONE_PART_PART_DEV_ALT n z
      else src == d.ownId
    if !d.zoneOn n z || d.eff .SCF_ZONE_CFG_PART_CH n z != bitsOf g 41 36
      || d.eff .SCF_ZONE_CFG_PART_ZONE n z != bitsOf g 47 42 || bitsOf g 31 0 != d.get .SYS_LAYER_NUM_LAYER_NUM
      || d.get .SYS_LAYER_STAT_STATE == 8 || !okSrc then discard d
    else if bitsOf g 127 112 ≠ d.zoneSig n z then discard (d.raise .SCF_ERR_SIG_ERR n)
    else if (d.absence n z).lost then
      -- recorded and ignored (R197)
      d.record 0x0311 4 (recSource n 0) (d.get .SYS_LAYER_NUM_LAYER_NUM) z (bitsOf g 79 64) 1
    else if bitsOf g 35 32 = 1 then d.partnerAbsent n z (bitsOf g 79 64) (bitsOf g 111 80) false
    else if bitsOf g 35 32 = 2 then d.partnerAbsent n z (bitsOf g 79 64) 0xffffffff true
    else d

/-- A notice at KERF: held while KERF is out of service (R37). -/
def Dev.kerfNotice (d : Dev) (src g : Nat) : Dev :=
  if d.inService 39 then d.takeNotice src g
  else { d with kerf := { d.kerf with notices := d.kerf.notices ++ [(src, g)] } }

/-- A notice is issued to a zone's partner (R191). -/
def Dev.sendNotice (d : Dev) (n z kind vidx mark : Nat) : Dev :=
  let g := d.notice n z kind vidx mark
  if d.eff .SCF_ZONE_CFG_REMOTE n z = 1 then
    let a := d.eff .SCF_ZONE_PART_PART_DEV n z
    let b := d.eff .SCF_ZONE_PART_PART_DEV_ALT n z
    let d := d.fabSend { kind := 0x11, dst := a, payload := [BitVec.ofNat 128 g] }
    if b = a then d else d.fabSend { kind := 0x11, dst := b, payload := [BitVec.ofNat 128 g] }
  else d.kerfNotice d.ownId g

/-- The planned spot where the light of a record in progress stopped (R192, R482): the start of the share where none was lit. -/
def Dev.lightMark (d : Dev) (n : Nat) (p : Plan) (s : Share) : Nat :=
  match ((d.eng n).gate.light.find? (fun l => decide (p.tBody ≤ l.rise))).bind (·.fall) with
  | none => s.lo
  | some t =>
    match pieceAt (p.body ++ (if p.blended = some true then p.endBlend else p.endTenon)) t with
    | some q => (q.s0 + ((q.at' (t - q.t0)).1 : Int)).toNat
    | none => s.hi

/-- The first vector of a zone that a channel has not completed, and how far its light went in it (R192). -/
def Dev.progressOf (d : Dev) (n z : Nat) : Nat × Nat :=
  let e := d.eng n
  let mine (r : LRec) : Option Share := r.share.filter (fun s => s.zone == z && !s.pass)
  match e.plans.find? (fun p => (mine p.r).isSome) with
  | some p =>
    (match mine p.r with
    | some s => (s.vidx, if p.begun d.now then d.lightMark n p s else 0xffffffff)
    | none => (d.vidxOf n z, 0xffffffff))
  | none =>
    match e.look.findSome? mine, Tab.get 0 e.cut z with
    | some s, _ => (s.vidx, 0xffffffff)
    | none, k + 1 => (k, 0xffffffff)
    | none, 0 => (d.vidxOf n z, 0xffffffff)

/-- A channel is absent in a zone itself from a vector on: it exposes nothing more there in the layer (R190, R196). -/
def Dev.selfAbsent (d : Dev) (n z k : Nat) : Dev :=
  let a := d.absence n z
  (d.setAbsence n z { a with selfFrom := some (match a.selfFrom with | some j => min j k | none => k) }).noteBoth n z

/-- An engine's channel becomes absent to its scarf partners for the open layer: an ABSENT notice for each enabled zone (R190, R191). -/
def Dev.goAbsent (d : Dev) (n : Nat) : Dev :=
  if d.get .SYS_LAYER_STAT_STATE = 8 then d
  else ((List.range 64).filter (fun z => d.zoneOn n z)).foldl
    (fun d z => let p := d.progressOf n z; (d.selfAbsent n z p.1).sendNotice n z 1 p.1 p.2) d

/-- The owed passes of an engine that faults or is stopped are dropped, before its own absence is told (R197). -/
def Dev.leaveZones (d : Dev) (n : Nat) : Dev := (d.goAbsent n).dropPasses n false

end Sys2Proof.Machine
end

