-- ==== Sys2Proof/Machine/Plan.lean ====
section
/-! DEFINITION. The look-ahead planner (R121, R126, R128 to R138): the plan of a record, the path an engine follows, and
how far it is final. -/

namespace Sys2Proof.Machine

open Sys2Proof

/-! ### Limits -/

/-- The limits in the registers of an engine, as in force (R137). -/
def Dev.regLims (d : Dev) (n : Nat) : Lims :=
  { amax := d.eff .ENG_LIMITS_A_MAX n, jmax := d.eff .ENG_LIMITS_J_MAX n, vmax := d.eff .ENG_VEL_V_MAX n,
    vjump := d.eff .ENG_VEL_V_JUMP n, blend := d.eff .ENG_PLAN_CTL_BLEND_DEG n,
    tol := d.eff .ENG_PLAN_CTL_CORNER_TOL_NM n, tenon := d.eff .ENG_PLAN_CTL_TENON_EN n == 1 }

/-- The limits of a record: those of the ENG_LIMITS before it until it has taken effect, else the ones its stretch of the stream
is planned with (R126). -/
def Dev.limsFrom (d : Dev) (n : Nat) (base : Lims) (r : LRec) : Lims :=
  match r.limits with
  | some j => (((d.eng n).newLims.find? (fun x => x.1 == j)).map (·.2)).getD base
  | none => base

/-- The limits that govern a record planned from a rest (R126, R137). -/
def Dev.limsOf (d : Dev) (n : Nat) (r : LRec) : Lims := d.limsFrom n (d.regLims n) r

/-- ENG_ registers of R137 and R153: those that wait for an engine rest. -/
def restFlds : List Fld :=
  [.ENG_PLAN_CTL_BLEND_DEG, .ENG_PLAN_CTL_TENON_EN, .ENG_PLAN_CTL_CORNER_TOL_NM, .ENG_LIMITS_A_MAX, .ENG_LIMITS_J_MAX,
   .ENG_VEL_V_MAX, .ENG_VEL_V_JUMP, .ENG_LAG_X_LAG, .ENG_LAG_Y_LAG, .ENG_LAG_Z_LAG, .ENG_GATE_CTL_MIN_OFF,
   .ENG_GATE_ADV_ON_ADV, .ENG_GATE_ADV_OFF_ADV, .ENG_PWR_LEAD_LEAD, .ENG_PULSE_SPC_SPACING_NM, .ENG_PULSE_PER_PERIOD,
   .ENG_PULSE_W_WIDTH, .ENG_PULSE_W_LAST_MODE, .ENG_PULSE_W_BEHIND_MODE, .ENG_PULSE_FIRST_FIRST, .MPL_CFG_FB_FAIL,
   .MPL_CFG_BOTH_ACT, .MPL_CFG_SPD_MIN, .MPL_CFG_FF_FALLBACK, .MPL_FS_FS_W, .MPL_PD_PD_DELAY, .MPL_PD_PD_SETTLE,
   .MPL_PD_MIN_LIT, .MPL_PD_LIM_FLOOR, .MPL_PD_LIM_DARK_LIMIT, .MPL_PD_LIM_SAT_LIMIT, .MPL_TARGET_TARGET,
   .MPL_TARGET_LOOP_EN, .MPL_TARGET_SPD_COMP, .MPL_GAIN_KP, .MPL_GAIN_KI, .MPL_FB_LIM_FB_MIN, .MPL_FB_LIM_FB_MAX,
   .MPL_PWR_LIM_P_MIN, .MPL_PWR_LIM_P_MAX]

/-! ### One record's plan -/

/-- Where the path stands when a record is planned: at rest at a point, or at a corner's midpoint coming from a
segment. -/
structure Entry where
  t : Nat
  pt : Pt
  corner : Option (Corner × LRec × Lims) := none
  /-- The record before was a DWELL (R132). -/
  dwelt : Bool := false
  /-- The limits of the record before, where an ENG_LIMITS stands between the two (R126). -/
  prev : Option Lims := none
  deriving DecidableEq, Repr

/-- The limits of the approach to a record: the lower of both sides where an ENG_LIMITS stands before it (R126). -/
def Entry.lims (e : Entry) (l : Lims) : Lims := (e.prev.map (fun a => a.after l)).getD l

/-- The point a lead-in starts from, planned with limits `lj`, to a record with limits `l` (R126, R132). -/
def leadInPoint (r : LRec) (l lj : Lims) : Pt :=
  r.E.beyond r.S r.len (changeDist lj.acc lj.jrk 0 (r.segSpeed l).1)

/-- Where a laser-off move before a record ends: at its lead-in, or at its start point (R133). -/
def approach (r : LRec) (l lj : Lims) (dwelt : Bool) : Pt :=
  if r.seg && !r.zero && l.tenon && !dwelt then leadInPoint r l lj else r.S

/-- The motion before a segment's straight part: the rest of a corner's arc, or an implicit move and a lead-in. Pieces,
the length cut, the speed and the instant at which the body starts (R130, R132, R133). -/
def segEntry (l : Lims) (e : Entry) (r : LRec) : List Piece × List Piece × Nat × Nat × Nat :=
  match e.corner with
  | some (c, a, la) =>
    let arc := arcHalf (la.lower l) c a r false 0 r.ser e.t
    ([], arc, c.cut, c.v, endOf e.t arc)
  | none =>
    let lj := e.lims l
    let q := approach r l lj e.dwelt
    let mv := offMove lj e.pt q r.ser e.t (lj.vjump * 1000000) 0
    let t := endOf e.t mv
    if l.tenon && !e.dwelt then
      let v := (r.segSpeed l).1
      let ld : Piece := { linePiece lj .leadIn q r.S (q.dist r.S) 0 r.ser t 0 (q.dist r.S) 0 v with q := r.S }
      (mv ++ [ld], [], 0, v, ld.t1)
    else (mv, [], 0, 0, t)

/-- Arc position of a record's start point: within the whole vector for a share (R156). -/
def LRec.s0 (r : LRec) : Int := r.startAt

/-- The corner at which a segment can blend into the next one: none where its speed cannot fall to the junction's within the
record as planned (R128, R130, R131; DESIGN CHOICE: such a junction is tenoned). -/
def cornerFrom (p : Plan) (l : Lims) (rest : List (LRec × Lims)) : Option Corner :=
  match rest.head?.bind (fun x => cornerOf p.r x.1 l x.2) with
  | none => none
  | some c =>
    let vB := min c.v (backward ((p.r, l) :: rest))
    let n := p.r.len - c.cut - p.cutIn
    let w := (lineSpeeds l n p.v0 (p.r.segSpeed l).1 vB).2
    if 0 < w ∧ w ≤ vB then some { c with v := w } else none

/-- The body and the two possible ends of a segment whose straight part starts at `t` with speed `v0`, `cutIn` from its
start point (R126, R130 to R132, R135). -/
def segBody (p : Plan) (l : Lims) (rest : List (LRec × Lims)) : Plan :=
  let r := p.r
  let L := r.len
  let v := (r.segSpeed l).1
  let t := endOf p.tBody p.body
  let next := rest.head?
  let lo := (next.map (fun x => l.lower x.2)).getD l
  let out (v1 te : Nat) : List Piece :=
    if v1 = 0 then [] else
      let dd := changeDist lo.acc lo.jrk v1 0
      [{ linePiece lo .leadOut r.E (r.S.beyond r.E L dd) dd 0 r.ser te 0 dd v1 0 with q := r.S.beyond r.E L dd }]
  let vT := exitTenoned r l (next.map (·.1))
  match cornerFrom p l rest with
  | none =>
    if rest.isEmpty then
      -- the record after it has not entered: as tenoned, decided when its end must begin (R131)
      let ps := lineOn l .body r.S r.E L r.s0 r.ser t p.cutIn L p.v0 v v
      let u := ps.foldl (fun m x => max m (max x.v0 x.v1)) p.v0
      let acc := ps.filter (fun x => decide (x.v0 < x.v1))
      let sAcc := p.cutIn + acc.foldl (fun s x => s + x.len) 0
      let sC := if l.tenon then L else max sAcc (L - changeDist l.acc l.jrk u 0)
      let tA := endOf t acc
      let cruise := linePiece l .body r.S r.E L r.s0 r.ser tA sAcc sC u u
      let before := (acc ++ [cruise]).filter (fun x => decide (0 < x.dur))
      let tC := endOf t before
      let tail := if sC = L then [] else lineOn l .body r.S r.E L r.s0 r.ser tC sC L u u 0
      let w := if sC = L then u else (tail.getLast?.map (·.v1)).getD 0
      { p with body := p.body ++ before, tCommit := tC, blended := none, corner := none, endBlend := [], endTenon := tail,
               out := out w (endOf tC tail) }
    else
    let ps := lineOn l .body r.S r.E L r.s0 r.ser t p.cutIn L p.v0 v vT
    let w := (ps.getLast?.map (·.v1)).getD 0
    { p with endTenon := ps, out := out w (endOf t ps), tCommit := t, blended := some false, corner := none, endBlend := [] }
  | some c =>
    let hi := L - c.cut
    let ps := lineOn l .body r.S r.E L r.s0 r.ser t p.cutIn hi p.v0 v c.v
    let u := ps.foldl (fun m x => max m (max x.v0 x.v1)) p.v0
    let dec := ps.filter (fun x => decide (x.v1 < x.v0))
    let sDec := hi - dec.foldl (fun s x => s + x.len) 0
    -- without tenons the stop for a tenoned junction begins earlier (R132)
    let sAcc := p.cutIn + (ps.filter (fun x => decide (x.v0 < x.v1))).foldl (fun s x => s + x.len) 0
    let sC := if l.tenon then sDec else max sAcc (min sDec (L - changeDist l.acc l.jrk u 0))
    let acc := ps.filter (fun x => decide (x.v0 < x.v1))
    let tA := endOf t acc
    let cruise := linePiece l .body r.S r.E L r.s0 r.ser tA sAcc sC u u
    let before := (acc ++ [cruise]).filter (fun x => decide (0 < x.dur))
    let tC := endOf t before
    let cruise2 := linePiece l .body r.S r.E L r.s0 r.ser tC sC sDec u u
    let decB := lineOn l .body r.S r.E L r.s0 r.ser cruise2.t1 sDec hi u u c.v
    let arc := match next with
      | some x => arcHalf lo c r x.1 true (r.s0 + hi) r.ser (endOf cruise2.t1 decB)
      | none => []
    let tail := lineOn l .body r.S r.E L r.s0 r.ser tC sC L u (if l.tenon then v else u) vT
    let w := (tail.getLast?.map (·.v1)).getD 0
    { p with
      body := p.body ++ before, tCommit := tC, blended := none, corner := some c,
      endBlend := (cruise2 :: decB ++ arc).filter (fun x => decide (0 < x.dur)),
      endTenon := tail, out := out w (endOf tC tail) }

/-- The plan of a record from an entry, with the records after it, transparent ones taken out (R131 to R134). -/
def planRec (e : Entry) (r : LRec) (l : Lims) (lead : List LRec) (rest : List (LRec × Lims)) : Plan :=
  let base (tBody tCommit : Nat) : Plan :=
    { r := r, lims := l, lead := lead, tMove := e.t, tBody := tBody, tCommit := tCommit, fromRest := e.corner.isNone }
  if r.seg then
    let (pre, arc, cut, v0, t) := segEntry l e r
    segBody { base (endOf e.t pre) t with pre := pre, body := arc, cutIn := cut, v0 := v0 } l rest
  else if r.cls = 0 then
    let q := match rest.head? with
      | some x => if x.1.seg then approach x.1 x.2 (l.after x.2) false else r.E
      | none => r.E
    let mv := offMove (e.lims l) e.pt q r.ser e.t (r.jumpSpeed l).1 (500 * qNs)
    { base e.t (endOf e.t mv) with body := mv, blended := some false }
  else
    -- DWELL, at its start point, and WAIT, where the spot is
    let q := if r.cls = 5 then r.S else e.pt
    let mv := offMove (e.lims l) e.pt q r.ser e.t (l.vjump * 1000000) 0
    let t := endOf e.t mv
    let w : Piece := { kind := if r.cls = 5 then .dwell else .rest, t0 := t, dur := max (r.speed * qUs) (500 * qNs),
                       p := q, q := q, ser := r.ser }
    { base t w.t1 with pre := mv, body := [w], blended := some false }

/-- Whether a plan ends at a blended junction; an undecided one is taken as blended where it can be. -/
def Plan.blends (p : Plan) : Bool := p.blended == some true || (p.blended.isNone && p.corner.isSome)

/-- The end pieces of a plan. -/
def Plan.endPieces (p : Plan) : List Piece := if p.blends then p.endBlend else p.endTenon ++ p.out

/-- All pieces of a plan in path order. -/
def Plan.pieces (p : Plan) : List Piece := p.pre ++ p.body ++ p.endPieces

/-- The instant at which a plan's record ends: its end point, or the arc's midpoint (R130). -/
def Plan.tEnd (p : Plan) : Nat :=
  endOf (endOf p.tBody p.body) (if p.blends then p.endBlend else p.endTenon)

/-- The instant at which its motion ends, lead-out included. -/
def Plan.tDone (p : Plan) : Nat := endOf p.tMove p.pieces

/-- Where a plan leaves the spot, for the record after it. -/
def Plan.exit (p : Plan) : Entry :=
  let pt := posAt p.r.S p.pieces p.tDone
  match (if p.blends then p.corner else none) with
  | some c => { t := p.tEnd, pt := pt, corner := some (c, p.r, p.lims) }
  | none => { t := p.tDone, pt := pt, dwelt := p.r.cls == 5 }

/-! ### The engine's path -/

/-- All pieces of an engine's planned path. -/
def Engine.path (e : Engine) : List Piece := e.moves ++ e.plans.flatMap Plan.pieces

/-- The planned spot p(t) of an engine (R136). -/
def Dev.spotAt (d : Dev) (n t : Nat) : Pt := posAt (d.eng n).spot (d.eng n).path t

/-- The plan of the record in progress: the first, once its motion has begun. -/
def Engine.current (e : Engine) (t : Nat) : Option Plan := e.plans.head?.filter (fun p => p.begun t)

/-- Records with their limits, the ones transparent to motion left out. -/
def Dev.solids (d : Dev) (n : Nat) (base : Lims) (rs : List LRec) : List (LRec × Lims) :=
  (rs.filter (fun r => !r.clear)).map (fun r => (r, d.limsFrom n base r))

/-- The entry of a record behind a plan, with the limits before it where an ENG_LIMITS stands between (R126). -/
def Dev.entryAfter (d : Dev) (n : Nat) (p : Plan) (r : LRec) : Entry :=
  let fresh := r.limits.any (fun j => p.r.limits != some j && (d.eng n).newLims.any (fun x => x.1 == j))
  { p.exit with prev := if fresh then some p.lims else none }

/-- Whether a record is a takeover pass, which stands outside the order of the stream (R194). -/
def LRec.isPass (r : LRec) : Bool := r.share.any (·.pass)

/-- Whether a record of the stream before a swap point still stands in a list. -/
def beforeSwap (k : Nat) (rs : List LRec) : Bool := rs.any (fun r => !r.isPass && decide (r.ser ≤ k))

/-- The plans from the last record of the stream before a swap point on. -/
def afterSwap (k : Nat) : List Plan → List Plan
  | [] => []
  | p :: ps => if beforeSwap k (ps.map (·.r)) then afterSwap k ps else p :: ps

/-- The instant of the swap point of a swap asked for in the stream, once planned: the first rest at or after the end of the last
record before it (R179). -/
def Dev.swapTime (d : Dev) (n : Nat) : Option Nat :=
  let e := d.eng n
  match (if e.corr.pending.isSome && !e.corr.boundary then e.corr.after else none) with
  | none => none
  | some k =>
    if beforeSwap k e.look then none
    else
      match afterSwap k e.plans with
      | [] => some (max e.restAt (endOf 0 e.moves))
      | p :: ps =>
        if p.fromRest && !beforeSwap k [p.r] then some p.tMove
        else ((p :: ps).find? (fun p => p.blended == some false)).map (fun p =>
          ((p.out.find? (fun x => x.kind != .leadOut)).map (·.t0)).getD p.tDone)

/-- Whether the bank that a swap waits for is loaded and valid. -/
def Corr.ready (c : Corr) : Bool := c.loading.isNone && c.shadow.valid

/-- Whether a record that starts from rest lies behind a swap point whose bank is not loaded: the spot waits there (R179). -/
def Dev.swapBlocks (d : Dev) (n : Nat) (r : LRec) (rest : List LRec) : Bool :=
  let c := (d.eng n).corr
  c.pending.isSome && !c.boundary && !c.ready && (match c.after with | some k => !beforeSwap k (r :: rest) | none => false)

/-- Whether a record may be planned: its own grant, or for a JUMP the grant of the exposure record it leads into, and no takeover
pass owed before it (R135, R194, R202). JUMPs in a row are all granted with the exposure record behind them (DESIGN CHOICE). -/
def Dev.mayPlan (d : Dev) (n : Nat) (r : LRec) (rest : List LRec) : Bool :=
  if d.swapBlocks n r rest then false
  else if r.cls = 8 then true
  else if r.cls = 0 then
    (d.eng n).passes.isEmpty && (r.exempt || (match rest.find? (fun x => x.seg || x.cls == 5) with
      | some x => d.granted n x.ser || (x.seg && x.dark)
      | none => (d.eng n).fifo.isEmpty))
  else (r.seg && r.dark) || d.granted n r.ser

/-- Whether an engine may start records now: EXPOSE of an open layer, its link up, nothing holding starts (R40, R50,
R51, R106, R141, R146, R170, R30, R37). -/
def Dev.mayStart (d : Dev) (n : Nat) : Bool :=
  let ch := d.get .ENG_STAT_BOUND_CH n
  d.get .SYS_LAYER_STAT_STATE == 3 && !d.layer.rebase && !d.layer.rebaseSweep
    && decide (ch < 32) && d.flag .ENG_STAT_LINK_UP n && d.inService n && d.inService 40 && d.inService 39
    && !d.flag .SYS_ISL_STAT_HOLDOVER n && !d.flag .ENG_GATE_STAT_SAFE_STOP n
    && decide (d.get .ENG_STAT_STATE n ≠ 6 ∧ d.get .ENG_STAT_STATE n ≠ 4)
    && (match d.ownerOf n with | some f => !d.flag .WIN_FRZ_STAT_FROZEN f | none => true)
    && (d.eng n).parking.isNone && d.get .THM_STAT_STATE != 3

/-- Whether the train before a plan runs on into it (R154). -/
def Dev.runsOn (d : Dev) (n : Nat) (prev : Option Plan) (p : Plan) : Bool :=
  match prev with
  | some q => q.blended == some true && trainGoesOn q.r p.r && (d.eng n).gate.train.isSome && !q.r.dark
  | none => false

/-- Whether a plan's record exposes. -/
def LRec.lit (r : LRec) : Bool := (r.seg || r.cls == 5) && !r.dark

/-- A plan's gate: a new train at its body, or the train before it running on (R154). -/
def Dev.gateOfPlan (d : Dev) (n : Nat) (on : Bool) (p : Plan) : Dev :=
  let ps := p.body ++ (if p.blended = some false then p.endTenon else [])
  let d :=
    if p.r.lit then
      if on then d.growTrain n ps
      else d.openTrain n p.r (match p.body.head? with | some b => b.t0 | none => p.tBody) ps
    else d
  if p.r.lit && p.blended = some false then d.closeTrain n p.tEnd else d

/-- A junction counts as tenoned at the horizon: it has come to the end of the look-ahead with no record behind (R138). -/
def Dev.starve (d : Dev) (n : Nat) : Dev :=
  if (d.eng n).starved then d
  else ((d.raise .ENG_STAT_HORIZON n).bump .ENG_JCT_TENONED 1 n).modEng n (fun e => { e with starved := true })

/-- Planner and gate registers: those that take effect at the rest a plan starts from (R137, R153). -/
def planFlds : List Fld :=
  [.ENG_PLAN_CTL_BLEND_DEG, .ENG_PLAN_CTL_TENON_EN, .ENG_PLAN_CTL_CORNER_TOL_NM, .ENG_LIMITS_A_MAX, .ENG_LIMITS_J_MAX,
   .ENG_VEL_V_MAX, .ENG_VEL_V_JUMP, .ENG_GATE_CTL_MIN_OFF, .ENG_GATE_ADV_ON_ADV, .ENG_GATE_ADV_OFF_ADV,
   .ENG_PULSE_SPC_SPACING_NM, .ENG_PULSE_PER_PERIOD, .ENG_PULSE_W_WIDTH, .ENG_PULSE_W_LAST_MODE,
   .ENG_PULSE_W_BEHIND_MODE, .ENG_PULSE_FIRST_FIRST]

/-- Written planner and gate registers come into force for the path planned on from a rest (R137, R153). A value written after that
rest has been planned from waits for the next one (DESIGN CHOICE). -/
def Dev.latchPlan (d : Dev) (n : Nat) : Dev := d.latchWhere (fun c => c.i == n && planFlds.contains c.fld)

/-- The first record of the look-ahead that is not transparent joins the final plan (R131). One that starts from rest starts no
earlier than the horizon, up to which outputs have used the rest (R138). -/
def Dev.adopt (d : Dev) (n : Nat) : Dev :=
  let prev := (d.eng n).plans.getLast?
  let blended := prev.any (fun p => p.blended == some true)
  let d := if blended then d else d.latchPlan n
  let eng := d.eng n
  let base := match prev with
    | some p => if blended then p.lims else d.regLims n
    | none => d.regLims n
  match eng.look.dropWhile LRec.clear with
  | [] => d
  | r :: rest =>
    let e : Entry := match prev with
      | some p => d.entryAfter n p r
      | none => { t := endOf 0 eng.moves, pt := posAt eng.spot eng.moves (endOf 0 eng.moves),
                  dwelt := eng.past.head?.any (fun p => p.r.cls == 5),
                  prev := (eng.past.head?.bind (fun p => (d.entryAfter n p r).prev)) }
    let e := if e.corner.isNone then { e with t := max e.t (max d.now eng.horizon) } else e
    let on := d.runsOn n prev
    let p := planRec e r (d.limsFrom n base r) (eng.look.takeWhile LRec.clear) (d.solids n base rest)
    let p := { p with opens := p.r.lit && !on p, counted := eng.starved }
    (d.modEng n (fun x => { x with look := rest, plans := x.plans ++ [p], starved := false })).gateOfPlan n (on p) p

/-- The junction after the last final record is decided (R135): blended when the next record's grant is held. With no
next record the end is tenoned (R138), and before one whose bank is still loading (R177; DESIGN CHOICE). -/
def Dev.decide' (d : Dev) (n : Nat) (p : Plan) : Dev :=
  let next := (d.eng n).look.find? (fun r => !r.clear)
  let ok := p.corner.isSome && (match next with
    | some r => (cornerOf p.r r p.lims (d.limsFrom n p.lims r)).isSome && d.granted n r.ser && d.mayStart n && r.checked
    | none => false)
  let p' := { p with blended := some ok }
  let d := d.modEng n (fun e => { e with plans := e.plans.dropLast ++ [p'] })
  let d := if next.isNone && !p.r.ends then d.starve n else d
  if p.r.dark then d
  else
    let d := d.growTrain n (if ok then p.endBlend else p.endTenon)
    if ok then d else d.closeTrain n p'.tEnd

/-- One round of making the path final up to an instant. Nothing is planned on past the end of a descriptor that the field has cut short
until the spot rests there (R177). -/
def Dev.extend1 (d : Dev) (n t : Nat) : Dev :=
  let eng := d.eng n
  match eng.plans.getLast? with
  | some p =>
    if p.blended = none then (if p.tCommit ≤ t then d.decide' n p else d)
    else
      match eng.look.dropWhile LRec.clear with
      | r :: rest =>
        if p.tDone ≤ t ∧ p.r.ends = false ∧ (p.blended = some true ∨ (d.mayPlan n r rest = true ∧ d.mayStart n = true)) then
          d.adopt n
        else d
      | [] => if p.tEnd ≤ t ∧ p.r.ends = false then d.starve n else d
  | none =>
    match eng.look.dropWhile LRec.clear with
    | r :: rest => if d.mayPlan n r rest && d.mayStart n && decide (endOf 0 eng.moves ≤ t) then d.adopt n else d
    | [] => d

/-- The path of an engine final up to an instant (R138): at most the whole look-ahead. -/
def Dev.extendTo (d : Dev) (n t : Nat) : Dev :=
  (List.range (2 * (d.eng n).look.length + 2)).foldl (fun d _ => d.extend1 n t) d

/-- The lead the planner keeps ahead of the spot (R137, R160). -/
def Dev.leadOf (d : Dev) (n : Nat) : Nat :=
  max (max (max (d.eff .ENG_LAG_X_LAG n) (d.eff .ENG_LAG_Y_LAG n)) (d.eff .ENG_LAG_Z_LAG n) * q10ns)
    (max (max (d.advOn n) (d.advOff n)) (d.pwrLead n) + qUs)

/-- The trace of a train with one record's pieces replaced. -/
def Train.redo (tr : Train) (ser : Nat) (ps : List Piece) : Train :=
  let kept := tr.trace.filter (fun x => x.ser != ser)
  let first : Int := (tr.trace.head?.map (·.s0)).getD 0
  { tr with trace := kept ++ retrace (traceEnd first kept) ps }

/-- The plan of the last final record redone when a record has entered the look-ahead and its end has not begun: for the record
before the new one always, for a longer look-ahead while it has not begun. What outputs have used stays as it is (R131,
R138). -/
def Dev.replan (d : Dev) (n : Nat) : Dev :=
  let eng := d.eng n
  match eng.plans.getLast? with
  | some p =>
    let solid := d.solids n p.lims eng.look
    let seen := max d.now eng.horizon
    if p.r.seg && p.blended.isNone && ((p.corner.isNone && decide (solid.length = 1)) || decide (seen < p.tBody))
      && decide (seen < p.tCommit) then
      let arc := p.body.filter (fun x => decide (x.kind = .arc))
      let p' := segBody { p with body := arc, blended := none, corner := none, endTenon := [], endBlend := [], out := [] } p.lims solid
      let same := decide ((p.body.filter (fun x => decide (x.v0 < x.v1))) = p'.body.filter (fun x => decide (x.v0 < x.v1)))
      if seen ≤ p'.tCommit ∧ (same = true ∨ seen ≤ p.tBody) then
        let d := d.modEng n (fun e => { e with plans := e.plans.dropLast ++ [p'] })
        if p'.r.lit then
          let d := d.modGate n (fun g => { g with train := g.train.map (fun t =>
            t.redo p.r.ser (p'.body ++ (if p'.blended = some false then p'.endTenon else []))) })
          if p'.blended = some false then d.closeTrain n p'.tEnd else d
        else d
      else d
    else d
  | none => d

/-- Whether an engine rests with its gate low now, with nothing planned (R137). -/
def Dev.atRest (d : Dev) (n : Nat) : Bool :=
  let eng := d.eng n
  eng.plans.isEmpty && decide (endOf 0 eng.moves ≤ d.now)

/-- Whether the spot rests with the gate low on a piece at an instant after `a`, up to `b`: at the ends of laser-off moves, before
lead-ins, after lead-outs and in a WAIT (R137). -/
def Piece.restsIn (p : Piece) (a b : Nat) : Bool :=
  let at' (t : Nat) : Bool := decide (a < t ∧ t ≤ b)
  match p.kind with
  | .off => at' p.t0 || at' p.t1
  | .leadIn => at' p.t0
  | .leadOut => at' p.t1
  | .rest => decide (p.t0 ≤ b ∧ a < max p.t1 (p.t0 + 1))
  | _ => false

/-- The calibration elements of an engine that come into force at its rest: tap map and insertion delay (R420). -/
def tapElement (n : Nat) (c : RegCell) : Bool :=
  c.i == n && [.CAL_TAP_MAP_TAP, .CAL_TAP_REF_T_CAL, .CAL_TAP_REF_TC, .CAL_GATE_LAT_LAT_PS, .CAL_GATE_LAT_SLOPE,
    .ENG_GATE_LAT_PIN_LAT_PS].contains c.fld

/-- The calibration elements of a slice: replaced cells and reference code (R420). -/
def sliceElement (s : Nat) (c : RegCell) : Bool :=
  c.i == s && [.CAL_ADC_CELL_CELL0, .CAL_ADC_CELL_USE0, .CAL_ADC_CELL_CELL1, .CAL_ADC_CELL_USE1, .CAL_ADC_REF_SEG,
    .CAL_ADC_REF_TC].contains c.fld

/-- The slice that serves an engine's channel has changed: the tick that spans this is dark, and feedback missing for want of a slice is
back once one in service serves (R230, R237, R420). -/
def Dev.sliceChanged (d : Dev) (n : Nat) : Dev :=
  let ch := d.get .ENG_STAT_BOUND_CH n
  let back := (d.eng n).loop.missing == 1 && decide (ch < 32) && d.flag .MPL_SLICE_STAT_IN_SERVICE (d.get .MPL_SLICE_SLICE ch)
  let d := if back then d.lower .MPL_STAT_FB_LOST n else d
  d.modEng n (fun e => { e with loop := { e.loop with changed := d.run + 1, missing := if back then 0 else e.loop.missing } })

/-- A slice serves its channel again. -/
def Dev.sliceServes (d : Dev) (u : Nat) : Dev :=
  match d.engineOf (d.get .MPL_SLICE_STAT_CHANNEL (u - 49)) with
  | some n => d.sliceChanged n
  | none => d

/-- New values of the slice that serves an engine's channel come into force at its rest (R420). -/
def Dev.restSlice (d : Dev) (n : Nat) : Dev :=
  let ch := d.get .ENG_STAT_BOUND_CH n
  let s := d.get .MPL_SLICE_SLICE ch
  if ch < 32 ∧ d.cal.fresh.any (sliceElement s) = true then (d.bringFresh (sliceElement s)).sliceChanged n else d

/-- The path an engine has had lately and has ahead. -/
def Engine.longPath (e : Engine) : List Piece := e.past.reverse.flatMap Plan.pieces ++ e.path

/-- Written registers and new calibration values come into force at an engine rest: all of them where nothing is planned, those the
plan does not hold where the spot passes a rest of its path (R137, R153, R216, R420). Rests are looked at whenever a frame, a start or
an end is worked out. -/
def Dev.restLatch (d : Dev) (n : Nat) : Dev :=
  let e := d.eng n
  let still := d.atRest n
  let passed := e.longPath.any (fun p => p.restsIn e.looked d.now)
  let d := d.modEng n (fun e => { e with looked := max e.looked d.now })
  if still || passed then
    ((d.latchWhere (fun c => c.i == n && restFlds.contains c.fld && (still || !planFlds.contains c.fld))).bringFresh
      (tapElement n)).restSlice n
  else d

/-- ENG_POS and ENG_ARC as outputs use them. -/
def Dev.showPos (d : Dev) (n t : Nat) : Dev :=
  let p := d.spotAt n t
  let d := (d.puts .ENG_POS_X_POS p.x n).puts .ENG_POS_Y_POS p.y n
  match pieceAt (d.eng n).path t with
  | some q => d.put .ENG_ARC_ARC_NM (if q.exposing then ((q.s0 + ((q.at' (t - q.t0)).1 : Int)).toNat) else 0) n
  | none => d

end Sys2Proof.Machine
end

