-- ==== Sys2Proof/Machine/Faults.lean ====
section
/-! DEFINITION. What ends work early: completion of descriptors (R80 to R86, R100), freezes (R104 to R109), channel
faults (R148, R149), unit faults (R438 to R441) and peer violations (R114, R115). -/

namespace Sys2Proof.Machine

open Sys2Proof

/-! ### Completions -/

/-- Whether a descriptor's slots are kept for the replays of R53 and R54: a phase-0 axis or phase-1 camera descriptor of
a layer that has not left POWDER_CHECK (R100). -/
def Dev.replayKept (d : Dev) (j : Job) : Bool :=
  let st := d.get .SYS_LAYER_STAT_STATE
  (st == 0 || st == 1 || st == 9) &&
    ((j.phase == some 0 && decide (0x50 ≤ j.target ∧ j.target ≤ 0x57))
      || (j.phase == some 1 && decide (0x60 ≤ j.target ∧ j.target ≤ 0x6f)))

/-- The poll interval of a function's present state (R69). -/
def Dev.pollUs (d : Dev) (f : Nat) : Nat :=
  if d.flight f then 1
  else if (d.fn f).hostState = 2 then d.get .HIF_POLL_CFG_SLEEP_US f
  else d.get .HIF_POLL_CFG_INTERVAL_US f

def Dev.cqSize (d : Dev) (f c : Nat) : Nat := 2 ^ d.get .HIF_CQ_CFG_SIZE_LOG2 f c

/-- A completion ring is full: one more entry would make CQ_PI equal to CQ_CI as last read. An index beyond the ring's size counts
modulo the size (R84; DESIGN CHOICE). -/
def Dev.cqFull (d : Dev) (f c : Nat) : Bool := ((d.cq f c).pos + 1) % d.cqSize f c == (d.cq f c).ci % d.cqSize f c

/-- Entries for a completion ring wait: it is full or disabled (R84). -/
def Dev.cqBlocked (d : Dev) (f c : Nat) : Bool := !d.flag .HIF_CQ_CFG_ENABLE f c || d.cqFull f c

/-- HIF_STAT.CQ_HOLD: an enabled ring is full, or an entry waits for a disabled one (R84). -/
def Dev.showHoldCq (d : Dev) (f : Nat) : Dev :=
  d.putB .HIF_STAT_CQ_HOLD ((List.range 16).any (fun c =>
    if d.flag .HIF_CQ_CFG_ENABLE f c then d.cqFull f c else (d.fn f).waiting.any (fun e => e.cq == c))) f

/-- A place in HOST for a completion entry, taken or freed (R84). -/
def Dev.takePlace (d : Dev) (f : Nat) : Dev := d.put .HIF_STAT_HOSTQ_USED (min (d.get .HIF_STAT_HOSTQ_USED f + 1) 4096) f
def Dev.freePlace (d : Dev) (f : Nat) : Dev := d.put .HIF_STAT_HOSTQ_USED (d.get .HIF_STAT_HOSTQ_USED f - 1) f

/-- The completion entry of a descriptor (R80). It goes to the ring that its submission ring is bound to at its completion (R60;
DESIGN CHOICE). -/
def Dev.entryOf (d : Dev) (j : Job) (code time : Nat) : CplEntry :=
  { id := j.id, cq := d.get .HIF_SQ_CFG_CQ j.fn j.ring, ring := j.ring, slot := j.slot, sequence := j.sequence, status := code,
    opcode := j.opcode, target := j.target, irq := j.irq, time := time }

/-- An entry in its place among those waiting: by completion time, then ring, then slot order (R83). -/
def insertEntry (e : CplEntry) : List CplEntry → List CplEntry
  | [] => [e]
  | x :: xs =>
    if e.time < x.time ∨ (e.time = x.time ∧ (e.ring < x.ring ∨ (e.ring = x.ring ∧ e.id < x.id))) then e :: x :: xs else x :: insertEntry e xs

/-- A descriptor completes: with the lowest code that applies to it (R86). A success whose entry is suppressed frees its
place (R73, R84); a replay writes no entry (R480). -/
def Dev.finishJob (d : Dev) (id code : Nat) (time : Nat) : Dev :=
  match d.job id with
  | none => d
  | some j =>
    let code := (lowCode j.code (if code = 0 then none else some code)).getD 0
    let kept := d.replayKept j
    let d :=
      if j.replay then d
      else if j.orphan then d.bump .MGT_STAT_HOSTQ_LOST
      else
        let d := if j.status = .staged then d.takePlace j.fn else d
        if code = 0 ∧ j.noCqeOk = true then d.freePlace j.fn
        else (d.setFn j.fn { d.fn j.fn with waiting := insertEntry (d.entryOf j code time) (d.fn j.fn).waiting }).showHoldCq j.fn
    let d := if kept then d.modJob id (fun j => { j with status := .replayable, replay := false, code := none })
      else d.dropJob id
    d.showFlight j.fn

/-- Whether a descriptor before a LAYER_MARK is still open on its target: one that it or an earlier mark has assigned (R41, R45). -/
def Dev.markedOpen (d : Dev) (m : Job) : Bool :=
  d.jobs.any (fun j => j.target == m.target && j.id != m.id && j.status != .replayable && j.opcode != 0x21
    && j.phase.any (fun p => decide (p ≤ m.bits 130 128)))

/-- Marks whose descriptors are complete are taken: LAYER_MARK completes, and its resource counts as having taken the
phase (R41, R45, R479). -/
def Dev.settleMarks (d : Dev) (time : Nat) : Dev :=
  let ms := d.jobs.filter (fun j => j.opcode == 0x21 && j.status == .executing)
  ms.foldl (fun d m =>
    if d.markedOpen m then d
    else
      let p := m.bits 130 128
      let taken := Tab.set 0 d.layer.marksTaken m.target (max (Tab.get 0 d.layer.marksTaken m.target) (p + 1))
      let d := { d with layer := { d.layer with marksTaken := taken } }
      d.finishJob m.id 0 time) d

/-- A descriptor completes at an instant, and marks behind it are looked at. -/
def Dev.completeAt (d : Dev) (id code time : Nat) : Dev := (d.finishJob id code time).settleMarks time

/-- A descriptor completes now. -/
def Dev.complete (d : Dev) (id code : Nat) : Dev := d.completeAt id code d.now

/-! ### The layer's gating (R40, R45, R479) -/

/-- Whether a layer is open (R39). -/
def Dev.layerOpen (d : Dev) : Bool := d.get .SYS_LAYER_STAT_STATE != 8

/-- Whether a resource takes part in the open layer, by TARGET code (R43). -/
def Dev.participates (d : Dev) (t : Nat) : Bool :=
  d.layerOpen && (match targetOf t with
    | some (.engine, n) => hasBit d.layer.engineMask n
    | some (.tile, n) => hasBit d.layer.tileMask n
    | some (.axis, n) => hasBit d.layer.axisMask n
    | some (.context, n) => hasBit d.layer.ctxMask n
    | _ => false)

/-- The opcodes that wait for a mark (R479). -/
def Job.phaseGated (j : Job) : Bool :=
  decide (j.opcode = 0x30 ∨ j.opcode = 0x31 ∨ j.opcode = 0x50 ∨ (j.opcode = 0x58 ∧ j.bits 184 184 = 0)
    ∨ j.opcode = 0x59 ∨ j.opcode = 0x60)

/-- Whether the layer keeps a descriptor from executing: unmarked, or marked for a phase not in force (R479), or to an engine that a
freeze has taken out of the layer (R113). A replay of R53 and R54 executes in the state that asked for it. -/
def Dev.gatedOff (d : Dev) (j : Job) : Bool :=
  j.phaseGated && d.participates j.target && !j.replay
    && (j.phase != some (d.get .SYS_LAYER_STAT_STATE) || (decide (j.target ≤ 0x21) && hasBit d.layer.outEngines j.target))

/-! ### Vector descriptors of an engine -/

/-- The engine that executes a descriptor addressed to an engine: a shim engine that covers its channel, or itself
(R94, R127). -/
def Dev.execEngine (d : Dev) (t : Nat) : Nat :=
  match [0, 1].find? (fun s => (d.cover s).phase == .active && ((d.cover s).req.map (·.unit)) == some t) with
  | some s => 32 + s
  | none => t

/-- Whether a function is frozen. -/
def Dev.frozen (d : Dev) (f : Nat) : Bool := d.flag .WIN_FRZ_STAT_FROZEN f

/-- Whether every earlier descriptor of the same ring to the same target has completed (R125, R253). -/
def Dev.earlierDone (d : Dev) (j : Job) : Bool :=
  !d.jobs.any (fun k => k.fn == j.fn && k.ring == j.ring && k.target == j.target && decide (k.id < j.id)
    && k.status != .replayable)

/-- An operation on a descriptor that its target has taken: nothing for any other, and nothing for one of a frozen function, which
R107 completes (R76, R77, R106). -/
def Dev.withJob (d : Dev) (id : Nat) (op : Nat) (f : Dev → Job → Dev) : Dev :=
  match d.job id with
  | some j => if j.opcode = op ∧ j.status = .taken ∧ d.frozen j.fn = false then f d j else d
  | none => d

/-- A taken descriptor begins its execution. -/
def Dev.begin' (d : Dev) (j : Job) : Dev := d.modJob j.id (fun j => { j with status := .executing, started := d.now })

/-- The descriptors that an engine has taken and not completed, in fetch order. -/
def Dev.engJobs (d : Dev) (n : Nat) : List Job :=
  d.jobs.filter (fun j => j.status == .executing && decide (j.target ≤ 0x21) && d.execEngine j.target == n)

/-- Whether a descriptor is a vector descriptor. -/
def Job.vector (j : Job) : Bool := decide (j.opcode = 0x30 ∨ j.opcode = 0x31)

/-- The records of a vector descriptor, in order (R123). -/
def Job.records (j : Job) : List Gran :=
  if j.opcode = 0x31 then (j.words.drop 1).take j.length else (j.data.getD []).take (j.bits 223 192)

/-- A SCARF_HATCH record taken without entering the look-ahead counts in its zone's VIDX (R184). -/
def Dev.countScarf (d : Dev) (n : Nat) (g : Gran) : Dev :=
  let z := bitsOf g.toNat 125 120
  if bitsOf g.toNat 115 112 = 7 then d.modEng n (fun e => { e with vidx := Tab.set 0 e.vidx z (Tab.get 0 e.vidx z + 1) }) else d

/-- The records of some descriptors that have not entered an engine's look-ahead, in its FIFO and still to come to it. -/
def Dev.recsAhead (d : Dev) (n : Nat) (which : Nat → Bool) : List Gran :=
  let e := d.eng n
  e.fifo.filterMap (fun x => match x with | .record j g => if which j then some g else none | _ => none)
    ++ (e.stream.filter which).flatMap (fun id => match d.job id with
        | some j => if j.vector then j.records.drop j.progress else []
        | none => [])

/-- The records of some descriptors that have not entered the look-ahead are discarded, counted in VIDX (R177, R184). -/
def Dev.discardRecs (d : Dev) (n : Nat) (which : Nat → Bool) : Dev :=
  let d := (d.recsAhead n which).foldl (fun d g => d.countScarf n g) d
  d.modEng n (fun e =>
    { e with fifo := e.fifo.filter (fun x => match x with | .record j _ => !which j | _ => true),
             stream := e.stream.filter (fun id => !which id) })

/-- Every stream item of an engine goes: its FIFO, look-ahead and plans (R106 step 4, R148). The spot rests where it is. -/
def Dev.clearStream (d : Dev) (n : Nat) : Dev :=
  let p := d.spotAt n d.now
  (d.modEng n (fun e =>
    { e with fifo := [], stream := [], look := [], plans := [], moves := [], spot := p, restAt := d.now, tail := p,
             newLims := [], unitEnd := none, outField := [], starved := false })).put .ENG_FIFO_LEVEL 0 n

/-- The vector descriptor in execution ends with one code and each other one the engine has taken with another. -/
def Dev.endVectors (d : Dev) (n first others : Nat) : Dev :=
  let js := d.engJobs n
  let cur := ((d.eng n).current d.now).map (·.r.job)
  js.foldl (fun d j =>
    if j.vector then d.complete j.id (if cur = some j.id ∨ (cur = none ∧ (js.find? Job.vector).map (·.id) = some j.id ∧ j.partly = true)
      then first else others)
    else if j.opcode = 0x32 ∨ j.opcode = 0x33 then d.complete j.id others else d) d

/-! ### Channel faults (R148, R149) -/

/-- The flag bits of a channel fault's code (R149). -/
def Dev.faultFlag (d : Dev) (n code : Nat) : Dev :=
  if code = 1 then d.raise .ENG_STAT_LINK_FAULT n
  else if code = 2 then (d.raise .ENG_STAT_MISWIRE n).raise .ENG_STAT_LINK_FAULT n
  else if code = 3 then d.raise .ENG_STAT_HEAD_FAULT n
  else if code = 4 then d.raise .ENG_STAT_FE_ERR n
  else if code = 5 then d.raise .ENG_GATE_STAT_GATE_MON n
  else if code = 6 then d.raise .ENG_STAT_WDOG n
  else d

/-- A channel fault with the flag code of R149 and the code of the descriptor in execution (R148). -/
def Dev.channelFault (d : Dev) (n code status : Nat) : Dev :=
  let ch := d.get .ENG_STAT_BOUND_CH n
  let l := d.link ch
  let d := d.faultFlag n code
  let d := (d.forceGate n).leaveZones n
  let d := (d.endClaims n).put .ENG_STAT_STATE 6 n
  let d := (d.discardRecs n (fun _ => true)).endVectors n ((lowCode (d.eng n).endCode (some status)).getD status) 0x0251
  let d := (d.clearStream n).modEng n (fun e => { e with discard := true, endCode := none })
  let d := d.record 0x0301 4 (recSource n 0) code l.seq (d.get .ENG_HEAD_STAT_CODE n)
  let d := d.occur (193 + 2 * n)
  (d.setLink ch { d.link ch with faulted := true, good := 0, bad := 0, since := d.run }).lower .ENG_STAT_LINK_UP n

/-! ### Freezes (R104 to R109) -/

/-- A register write by a function: a virtual function that is not enabled makes none (R89), and one of a frozen function is
ignored and counted (R106, R454). -/
def Dev.byFn (d : Dev) (f : Nat) (g : Dev → Dev) : Dev :=
  if d.vfOn f = false then d
  else if d.frozen f then d.bump .WIN_FRZ_STAT_IGN_WRITES 1 f else g d

/-- Whether a fabric peer is frozen by this device (R111, R115). -/
def Dev.peerFrozen (d : Dev) (p : Nat) : Bool := hasBit (d.get .WIN_PEER_FRZ_FROZEN (p / 32)) (p % 32)

/-- A peer that has been frozen or has left is silent no longer (R212, R235). -/
def Dev.notSilent (d : Dev) (p : Nat) : Dev :=
  (List.range 8).foldl (fun d k =>
    let d := if d.flag .KRF_PEER_ENABLE k ∧ d.get .KRF_PEER_PEER_ID k = p then
        { d.put .KRF_STAT_STALE (clearBit (d.get .KRF_STAT_STALE) k) with
          kerf := { d.kerf with overflow := d.kerf.overflow.filter (· != k) } }
      else d
    if d.flag .GRN_PEER_ENABLE k ∧ d.get .GRN_PEER_PEER_ID k = p then
      d.put .GRN_STAT_STALE (clearBit (d.get .GRN_STAT_STALE) k)
    else d) d

/-- A violation by a peer (R115): its bit, the cause and count, its kerf paths by R212, and its engines absent
(R111). -/
def Dev.freezePeer (d : Dev) (p cls : Nat) : Dev :=
  let first := !d.peerFrozen p
  let d := d.put .WIN_PEER_FRZ_FROZEN (setBit (d.get .WIN_PEER_FRZ_FROZEN (p / 32)) (p % 32)) (p / 32)
  let d := ((d.put .WIN_PEER_CAUSE_PEER_ID p).put .WIN_PEER_CAUSE_KIND cls).bump .WIN_PEER_CAUSE_COUNT
  if first then
    let d := d.record 0x0210 5 (recSource 35 63) p 7
    let d := { d with kerf := { d.kerf with
      halo := d.kerf.halo.filter (fun h => !(h.dev == p && h.kind == 1)),
      incoming := d.kerf.incoming.filter (fun h => h.dev != p) } }.notSilent p
    (List.range 34).foldl (fun d n =>
      ((List.range 64).filter (fun z => d.zoneOn n z && d.eff .SCF_ZONE_CFG_REMOTE n z == 1
          && (d.eff .SCF_ZONE_PART_PART_DEV n z == p || d.eff .SCF_ZONE_PART_PART_DEV_ALT n z == p))).foldl
        (fun d z => d.partnerAbsent n z (d.vidxOf n z) 0xffffffff false) d) d
  else d

/-- Whether a grant covers a source and a kind, and a bulk write's DRAM range (R114, R115). -/
def Dev.grantOk (d : Dev) (p cls : Nat) (range : Option (Nat × Nat)) : Bool :=
  (List.range 32).any (fun g =>
    d.flag .WIN_GRANT_CFG_ENABLE g && hasBit (d.get .WIN_GRANT_CFG_CLASS g) cls
      && decide (d.get .WIN_GRANT_ID_ID_LO g ≤ p ∧ p ≤ d.get .WIN_GRANT_ID_ID_HI g)
      && (match range with
        | some (a, n) =>
          let lo := d.get .WIN_GRANT_DRAM_BASE_MB g * 2 ^ 20
          decide (lo ≤ a ∧ a + n ≤ lo + d.get .WIN_GRANT_DRAM_SIZE_MB g * 2 ^ 20)
        | none => true))

/-- A frame from a device has arrived (R195). -/
def Dev.hear (d : Dev) (p : Nat) : Dev := { d with kerf := { d.kerf with heard := Tab.set 0 d.kerf.heard p d.run } }

/-- A frame from the neighbour on a port has arrived (R195). -/
def Dev.hearPort (d : Dev) (p : Nat) : Dev := if d.flag .FAB_PORT_STAT_NBR_KNOWN p then d.hear (d.get .FAB_PORT_STAT_NBR_ID p) else d

/-- What a frame brings: nothing while FABRIC is out of service (R37). -/
def Dev.fabricIn (d : Dev) (f : Dev → Dev) : Dev := if d.inService 46 then f d else d

/-- A message of a granted kind: discarded from a frozen peer but for barrier-ready (R111), a violation outside every
grant (R115), else taken. What a frozen peer sends outside its grants is discarded uncounted (DESIGN CHOICE). -/
def Dev.granting (d : Dev) (p cls : Nat) (range : Option (Nat × Nat)) (f : Dev → Dev) : Dev :=
  d.fabricIn (fun d =>
    let d := d.hear p
    if d.peerFrozen p && cls != 3 then d
    else if d.grantOk p cls range then f d
    else d.freezePeer p cls)

/-- Data written to host memory for a descriptor, which then completes; one outside the windows in force freezes the function and
the descriptor completes as R107 states (R97, R98). Until the device may write for the function, the descriptor waits (R37,
R91). -/
def Dev.saveTo (d : Dev) (j : Job) (a : Nat) (bs : List Byte) (code : Nat) : Dev :=
  match d.rangeCause j.fn a bs.length false true with
  | none => if d.mayWrite j.fn then (d.jobWrite j a bs).complete j.id code else d
  | some _ => d.jobWrite j a bs

/-! ### Unit faults (R438 to R442) -/

/-- Whether a unit of R439 has an engine or slice cover free or serving it. -/
def unitCovered (u : Nat) : Bool := decide (u < 34 ∨ 49 ≤ u)

/-- Supply of an engine island at a clock, in units of 5 mV (R17). -/
def supplyOf (mhz : Nat) : Nat := if mhz < 180 then 140 else if mhz < 210 then 150 else if mhz < 230 then 160 else 170

/-- A requested change of clock begins to relock, the supply rising first; one that finds the generator relocking follows that
relock (R18). -/
def Dev.startRelock (d : Dev) (n : Nat) : Dev :=
  let new := d.get .SYS_ISL_CFG_FREQ_MHZ n
  if d.flag .SYS_ISL_STAT_RELOCK n then d.setIsland n { d.island n with again := true }
  else if new = d.get .SYS_ISL_STAT_FREQ_MHZ n then d
  else
    let d := d.put .SYS_ISL_STAT_VOLT (max (d.get .SYS_ISL_STAT_VOLT n) (supplyOf new)) n
    (d.setIsland n { d.island n with pendingMhz := new }).raise .SYS_ISL_STAT_RELOCK n

/-- A unit out of service or back in it, in the registers that show it (R439). An island that goes out resynchronises its
replica before it has work again (R38), and an engine's requested clock takes effect at once (R18). The movers' reads and polls
in flight end with HOST or STAGE and are asked for again on return. -/
def Dev.setService (d : Dev) (u : Nat) (on : Bool) : Dev :=
  let d := d.putB .MGT_UNIT_IN_SERVICE on u
  if u < 49 then
    let d := d.putB .SYS_ISL_STAT_IN_SERVICE on u
    let d := if on then d else d.setIsland u { d.island u with resync := true }
    if u < 34 ∧ on = false then (d.put .ENG_STAT_STATE 0 u).startRelock u
    else if u = 36 ∨ u = 37 then d.putB .DRM_STAT_IN_SERVICE on (u - 36)
    else if (u = 34 ∨ u = 35) ∧ on = false then
      let d := { d.put .WIN_MOVER_STAT_BUSY 0 with movers := [] }
      if u = 34 then (List.range 8).foldl (fun d f => d.setFn f { d.fn f with polling := false, pollReads := [] }) d else d
    else d
  else d.putB .MPL_SLICE_STAT_IN_SERVICE on (u - 49)

/-- A MGT_UNIT that returns a unit completes once the unit is in service (R446). -/
def Dev.settleUnit (d : Dev) (u : Nat) : Dev :=
  if d.flag .MGT_UNIT_IN_SERVICE u then
    (d.jobs.filter (fun j => j.opcode == 0x46 && j.status == .executing && j.bits 134 128 == u)).foldl
      (fun d j => d.complete j.id 0) d
  else d

/-- Targets whose executions run in a unit. -/
def targetUnit (t : Nat) : Nat :=
  if t ≤ 0x21 then t else if t ≤ 0x4f then 42 else if t ≤ 0x57 then 43 else if t ≤ 0x6f then 44 else 48

/-- Planned records as they stood in the look-ahead, with the markers before them that have not been passed. -/
def unplanned (ps : List Plan) : List LRec := ps.flatMap (fun p => (if p.led then [] else p.lead) ++ [p.r])

/-- Every record of a descriptor leaves an engine; the spot rests where it is, and other records planned go back to the look-ahead. -/
def Dev.dropRecs (d : Dev) (n id : Nat) : Dev :=
  let p := d.spotAt n d.now
  (d.discardRecs n (· == id)).modEng n (fun e =>
    { e with look := (unplanned (e.plans.filter (fun p => !p.started)) ++ e.look).filter (fun r => r.job != id),
             plans := [], moves := [], spot := p, restAt := d.now, starved := false, unitEnd := none })

/-- A tile whose VENEER unit goes out: its frame in progress, attach or detach ends, its queue stays, and its slots
restart at a blank slot 0 on the unit's return (R438, R441). -/
def Dev.outTile (d : Dev) (t code : Nat) : Dev :=
  let x := d.tile t
  let ended := (d.frameNow t).toList ++ x.attachJob.toList ++ x.detachJob.toList
  let d := ended.foldl (fun d id => d.complete id code) d
  let d := d.modTile t (fun x => { x with
    attachJob := none, detachJob := none, slot0 := none, left := none, cur := none, next := none, blank := true,
    endCode := none, late := none, queue := x.queue.filter (fun id => !ended.contains id), sweeping := false })
  if d.attached t then (d.modTile t (fun x => { x with reattach := true })).put .VNR_STAT_STATE 1 t else d

/-- An axis that loses its unit: the move ends and the bridge brakes (R289, R438). -/
def Dev.outAxis (d : Dev) (a code : Nat) : Dev :=
  let x := d.axis a
  let cmp := ((d.enc a).cmp.map (·.job)).toList
  let d := (x.job.toList ++ x.imm ++ x.stopJob.toList ++ cmp).foldl (fun d id => d.complete id code) d
  let d := d.modAxis a (fun x => { x with job := none, imm := [], stopJob := none, fresh := none })
  let d := (d.modEnc a (fun e => { e with cmp := none, cmpHigh := false })).lower .ENC_STAT_ARMED a
  d.brake a (if d.get .AX_STAT_STATE a = 6 then 6 else 0)

/-- CAMERA goes out: every frame in it is closed or dropped and every capture ends with a code; on a camera-buffer error
(code 0x05D0) the frames' results are written and marked PARTIAL (R322, R438). -/
def Dev.outCameras (d : Dev) (code : Nat) : Dev :=
  let opened := (List.range 8).flatMap (fun p => (d.camPort p).frames)
  let fs := opened ++ d.pipe.closed ++ d.pipe.busy.toList ++ d.pipe.queue
  let d := if code = 0x05d0 then fs.foldl (fun d f => d.processFrame { f with short := f.short || f.lines.length < f.set.h } true) d
    else d
  let d := { d with pipe := { d.pipe with queue := [], busy := none, closed := [] }, camPorts := [] }
  let d := (List.range 16).foldl (fun d x =>
    let c := d.cam x
    let d := d.modCam x (fun y => { y with
      active := none, bufs := c.bufs.foldl (fun t b => Tab.set {} t b.1 { b.2 with busy := false }) c.bufs })
    let d := d.lower .CAM_CTX_STAT_ACTIVE x
    match c.active with
    | some a => d.complete a.job ((lowCode a.code (some code)).getD code)
    | none => d) d
  (fs.filter (·.reproc)).foldl (fun d f => (f.job.toList).foldl (fun d id => d.complete id code) d) (d.put .CAM_PIPE_STAT_QUEUE 0)

/-- The execution in progress in a unit ends with a code (R438). -/
def Dev.endUnitJobs (d : Dev) (u code : Nat) : Dev :=
  if u = 42 then (List.range 16).foldl (fun d t => d.outTile t code) d
  else if u = 43 then (List.range 8).foldl (fun d a => d.outAxis a code) d
  else if u = 44 then d.outCameras code
  else if u < 34 then
    let d := (d.engJobs u).foldl (fun d j =>
      if j.partly || (d.eng u).parking == some (some j.id) then (d.dropRecs u j.id).complete j.id code else d) d
    (d.dropRecs u 0).modEng u (fun e => { e with parking := none })
  else
    (d.jobs.filter (fun j => j.status == .executing && j.opcode != 0x21 && targetUnit j.target == u && u != 48)).foldl
      (fun d j => d.complete j.id code) d

/-- A free cover for a unit, if one (R421): shims 0 and 1 for engines, spare slices 2 and 3. -/
def Dev.freeCover (d : Dev) (u : Nat) : Option Nat :=
  let cs := if u < 34 then [0, 1] else [2, 3]
  cs.find? (fun s => (d.cover s).phase == .free &&
    (if u < 34 then d.inService (32 + s) && u != 32 + s else d.flag .MPL_SLICE_STAT_IN_SERVICE (30 + s) && u != 49 + 30 + s))

/-- A request for cover or calibration enters the queue by rank, then arrival (R423). -/
def Dev.askCover (d : Dev) (r : CalReq) : Dev :=
  let q := d.cal.waiting
  let q := q.filter (fun x => decide (x.rank ≤ r.rank)) ++ [r] ++ q.filter (fun x => decide (r.rank < x.rank))
  { d with cal := { d.cal with waiting := q } }

/-- Granule 0 of a mirror record (R359): capture count, state, BEAT, READY_SENT, REASON and capture instant. -/
def Dev.beatGran (d : Dev) : Gran :=
  let st := d.get .HNG_STAT_STATE
  let reason := if st = 4 ∨ st = 5 then d.get .HNG_STAT_REASON else 0
  BitVec.ofNat 128 (d.hinge.mseq % 2 ^ 32 + st * 2 ^ 32 + d.hinge.beat.toNat * 2 ^ 36
    + (d.get .SYS_LAYER_STAT_STATE == 10).toNat * 2 ^ 37 + reason * 2 ^ 40 + ts64 d.now * 2 ^ 64)

/-- A record sent on both paths (R359, R360): the next capture count, BEAT inverted. -/
def Dev.sendRecord (d : Dev) (rest : List Gran) : Dev :=
  let d := { d with hinge := { d.hinge with mseq := (d.hinge.mseq + 1) % 2 ^ 32, beat := !d.hinge.beat } }
  let gs := d.beatGran :: rest
  let d := { d with hinge := { d.hinge with sentA := gs, sentB := gs } }
  d.fabUnicast 0x21 (d.get .HNG_CFG_PARTNER_ID) gs

/-- Every output goes safe: gates low, their claims ended, tiles blank, bridges on the low-side brake (R201, R354, R361). The moves of
the axes end with a code. -/
def Dev.outputsSafe (d : Dev) (code : Nat) : Dev :=
  let d := (List.range 34).foldl (fun d n => (d.forceGate n).endClaims n) d
  let d := (List.range 8).foldl (fun d a => d.outAxis a code) d.blankTiles
  { d with pins := { d.pins with own := false } }

/-- An ACTIVE device fails: every output safe, OWN dropped, then FAILED sent on both paths (R361). HNG_STAT.STATE 4 is
FAILED. -/
def Dev.hingeFail (d : Dev) (reason : Nat) : Dev :=
  if d.flag .HNG_CFG_PAIR_EN && d.get .HNG_STAT_STATE == 1 then
    (((d.outputsSafe 0x02c1).put .HNG_STAT_STATE 4).put .HNG_STAT_REASON reason).sendRecord []
  else d

/-- HEALTH_OK as it stands, and what depends on it; STOP takes it from a STANDBY (R364, R368, R416). -/
def Dev.showHealth (d : Dev) : Dev :=
  let st := d.get .HNG_STAT_STATE
  let ok := !d.flag .HNG_HEALTH_BIST_FAIL && !d.flag .HNG_HEALTH_SCRUB_UNCORR && !d.flag .HNG_STAT_TIME_ERR
    && !(st == 2 && d.get .THM_STAT_STATE == 3)
  let fell := d.flag .HNG_HEALTH_HEALTH_OK && !ok
  let d := (d.putB .HNG_HEALTH_HEALTH_OK ok).put .HNG_HEALTH_TIME_ERR (d.get .HNG_STAT_TIME_ERR)
  let d := d.putB .HNG_STAT_ELIGIBLE (ok && st == 2)
  if fell then d.occur 420 else d

/-! ### Covers (R421 to R427) -/

/-- Registers of an engine that cover copies (R422): the written fields of ENG_, MPL_, GRN_LOOK, GRN_SCALE and SCF_ZONE_ that
are indexed by engine. -/
def Fld.copied (f : Fld) : Bool :=
  let p := f.reg.place
  f.acc == .rw && p.n1 == 34 && decide ((0x40000 ≤ p.base ∧ p.base < 0x50000) ∨ (0x60000 ≤ p.base ∧ p.base < 0x80000)
    ∨ (0x90000 ≤ p.base ∧ p.base < 0xb0000))

/-- The registers of engine `a`, written and in force, and its correction banks copied into engine `b` (R422). -/
def Dev.copyEngine (d : Dev) (a b : Nat) : Dev :=
  let mine (n : Nat) (c : RegCell) : Bool := c.i == n && c.fld.copied
  let rs := d.regs.filter (mine a)
  let fs := d.force.filter (mine a)
  let d := d.resetWhere (mine b)
  let d := rs.foldl (fun d c => d.put c.fld c.val b c.j) d
  let d := fs.foldl (fun d c => { d with force := cellsSet d.force c.fld c.val b c.j }) d
  let k := (d.eng a).corr
  d.modEng b (fun e => { e with corr := { active := k.active, shadow := k.shadow } })

/-- The classes that have an integrator (R222). -/
def intClasses : List Nat := [1, 2, 3, 4, 5, 7]

/-- The requests of an engine move with its channel and keep their instants; grants among them are asked for anew (R213). -/
def Dev.moveReqs (d : Dev) (a b : Nat) : Dev :=
  let mine := d.kerf.reqs.filter (fun r => r.eng == a)
  let d := mine.foldl Dev.releaseReq d
  ((d.setReqs (d.kerf.reqs.map (fun r => if r.eng == a then { r with eng := b, status := .pending } else r))).showKerf a).showKerf b

/-- A channel moves from engine `a` to engine `b` as one change, with the stream, the scarf and loop state that belong to
the channel and the spot where it rests (R23, R184, R222, R226, R421). -/
def Dev.moveChannel (d : Dev) (a b : Nat) : Dev :=
  let ch := d.get .ENG_STAT_BOUND_CH a
  let p := d.spotAt a d.now
  let x := d.eng a
  let y := d.eng b
  let d := d.moveReqs a b
  let d := d.setEng b { y with
    fifo := x.fifo, look := x.look, stream := x.stream, tail := x.tail, nextSer := x.nextSer, spot := p, restAt := d.now,
    plans := [], past := [], moves := [], newLims := x.newLims, parking := none, outField := x.outField,
    horizon := x.horizon, looked := x.looked, starved := false, dry := x.dry, endCode := x.endCode, discard := x.discard,
    unitEnd := none, units := x.units, unitSer := x.unitSer, vidx := x.vidx, cut := x.cut, absences := x.absences,
    passes := x.passes, hist := x.hist, loop := x.loop, gate := { behindSeen := y.gate.behindSeen } }
  let d := d.setEng a { y with
    fifo := [], look := [], stream := [], newLims := [], plans := [], past := [], moves := [], spot := {}, tail := {},
    restAt := d.now, parking := none, outField := [], endCode := none, discard := false, unitEnd := none, units := 0,
    vidx := [], cut := [], absences := [], passes := [], hist := [], loop := {}, gate := { behindSeen := x.gate.behindSeen },
    corr := x.corr }
  let d := intClasses.foldl (fun d c => (d.put .MPL_INT_I (d.get .MPL_INT_I a c) b c).put .MPL_INT_I 0 a c) d
  let d := (d.put .ENG_STAT_BOUND_CH 63 a).put .ENG_STAT_BOUND_CH ch b
  let d := (d.put .ENG_FIFO_LEVEL (d.get .ENG_FIFO_LEVEL a) b).put .ENG_FIFO_LEVEL 0 a
  let d := (d.put .ENG_STAT_LINK_UP (d.get .ENG_STAT_LINK_UP a) b).lower .ENG_STAT_LINK_UP a
  d.put .ENG_STAT_STATE (if d.flag .MGT_UNIT_IN_SERVICE b then 1 else 0) b

/-- CAL_STAT.QUEUED brought up to date. -/
def Dev.showCal (d : Dev) : Dev := d.put .CAL_STAT_QUEUED (min d.cal.waiting.length 63)

/-- The channel of a cover returns to the covered unit, and the cover is free (R421). -/
def Dev.endCover (d : Dev) (s : Nat) : Dev :=
  let c := d.cover s
  match c.req with
  | none => d.setCover s {}
  | some r =>
    let d :=
      if c.phase ≠ .active then d
      else
        let d := d.put .MGT_UNIT_COVER 0xff r.unit
        if s < 2 then
          (d.moveChannel (32 + s) r.unit).put (if s = 0 then .CAL_STAT_COVER32 else .CAL_STAT_COVER33) 63
        else
          ((d.put .MPL_SLICE_SLICE (r.unit - 49) c.ch).put .MPL_SLICE_STAT_CHANNEL c.ch (r.unit - 49)).put
            .MPL_SLICE_STAT_CHANNEL 63 (30 + s)
    d.setCover s {}

/-- A calibration leaves the lists of those under way and finished. -/
def Dev.dropCal (d : Dev) (u : Nat) : Dev :=
  let c := { d.cal with running := d.cal.running.filter (fun r => r.unit != u), ending := d.cal.ending.filter (fun r => r.unit != u) }
  { d with cal := c }

/-- Every calibration of a unit ends with a code. -/
def Dev.endCals (d : Dev) (u code : Nat) : Dev :=
  let rs := (d.cal.running ++ d.cal.ending).filter (fun r => r.unit == u)
  (rs.flatMap (fun r => r.job.toList)).foldl (fun d id => d.complete id code) (d.dropCal u)

/-- A unit taken out by a fault: its own calibration ends with 0x03F8 (R426); the calibration it covers ends with 0x03F8 and
the covered unit takes its channel back (R427), a slice once the engine it serves rests (R218); a faulted unit it covers is without
cover again. -/
def Dev.calFault (d : Dev) (u : Nat) : Dev :=
  let d := d.endCals u 0x03f8
  let s := if u = 32 then some 0 else if u = 33 then some 1 else if u = 81 then some 2 else if u = 82 then some 3 else none
  match s with
  | none => d
  | some s =>
    let c := d.cover s
    match c.req with
    | none => d
    | some r =>
      let rests := s < 2 || ((d.engineOf c.ch).map d.atRest).getD true
      if r.kind ≠ .fault ∧ rests = false then
        let d := d.endCals r.unit 0x03f8
        { d with cal := { d.cal with ending := d.cal.ending ++ [{ r with job := none }] } }
      else
      let d := d.endCover s
      if r.kind ≠ .fault then
        let d := d.endCals r.unit 0x03f8
        if c.phase = .active then
          let d := d.setService r.unit true
          if r.unit < 34 then d.put .ENG_STAT_STATE 1 r.unit else d.sliceServes r.unit
        else d
      else
        let d := if r.unit < 34 then d.put .ENG_STAT_BOUND_CH 63 r.unit else d
        d.askCover { kind := .fault, unit := r.unit, rank := 0 }

/-! ### Requests for cover (R421 to R423) -/

/-- Whether the engine that a unit serves has taken its phase-3 mark in the open layer (R423). -/
def Dev.exposureOver (d : Dev) (u : Nat) : Bool :=
  let n := if u < 34 then some u else (List.range 34).find? (fun n =>
    let ch := d.get .ENG_STAT_BOUND_CH n
    ch != 63 && d.get .MPL_SLICE_SLICE ch == u - 49)
  d.layerOpen && (match n with | some n => decide (4 ≤ Tab.get 0 d.layer.marksTaken n) | none => false)

/-- Whether a unit serves a channel: an engine bound to one, or faulted and so unbound; a slice bound to one. -/
def Dev.serves (d : Dev) (u : Nat) (k : CalKind) : Bool :=
  if u < 34 then d.get .ENG_STAT_BOUND_CH u != 63 || (k == .fault && decide (u < 32))
  else d.get .MPL_SLICE_STAT_CHANNEL (u - 49) != 63

/-- An engine's channel is unbound and absent to its scarf partners (R24, R190). -/
def Dev.unbind (d : Dev) (u : Nat) : Dev :=
  if u < 34 ∧ d.get .ENG_STAT_BOUND_CH u ≠ 63 then (d.goAbsent u).put .ENG_STAT_BOUND_CH 63 u else d

/-- A calibration runs with its unit out of service; an engine that no shim covers leaves its channel unbound (R24, R421,
R423). -/
def Dev.startCal (d : Dev) (r : CalReq) : Dev :=
  let d := (d.unbind r.unit).setService r.unit false
  { d with cal := { d.cal with running := d.cal.running ++ [r] } }

/-- One waiting request: a free cover takes it; a unit that serves no channel, or whose engine has finished its exposure,
needs none (R421 to R423). A request that still waits stays in the queue. -/
def Dev.serveReq (d : Dev) (r : CalReq) : Dev :=
  let drop : Dev := { d with cal := { d.cal with waiting := d.cal.waiting.erase r } }
  if d.serves r.unit r.kind = false then (if r.kind = .fault then drop else drop.startCal r)
  else
    match d.freeCover r.unit with
    | some s =>
      let ch := if r.unit < 34 then (if d.get .ENG_STAT_BOUND_CH r.unit = 63 then r.unit else d.get .ENG_STAT_BOUND_CH r.unit)
        else d.get .MPL_SLICE_STAT_CHANNEL (r.unit - 49)
      drop.setCover s { phase := if s < 2 ∧ d.flag .CAL_CFG_AUTO_COPY = true then .copying else .ready, req := some r, ch := ch }
    | none => if r.kind ≠ .fault ∧ d.exposureOver r.unit = true then drop.startCal r else d

/-- The waiting requests in order (R423). -/
def Dev.pumpCal (d : Dev) : Dev := (d.cal.waiting.foldl (fun d r => d.serveReq r) d).showCal

/-- The cover that serves a unit, if one. -/
def Dev.coverOf (d : Dev) (u : Nat) : Option Nat :=
  (List.range 4).find? (fun s => (d.cover s).req.any (fun r => r.unit == u))

/-- The cover of a faulted unit: one that has it already keeps it for the fault; else one is asked for (R421, R438). -/
def Dev.coverFault (d : Dev) (u : Nat) : Dev :=
  let r : CalReq := { kind := .fault, unit := u, rank := 0 }
  match d.coverOf u with
  | some s =>
    let ids := ((d.cover s).req.bind (·.job)).toList
    ids.foldl (fun d id => d.complete id 0x03f8) (d.setCover s { d.cover s with req := some r })
  | none =>
    let ids := (d.cal.waiting.filter (fun r => r.unit == u)).flatMap (·.job.toList)
    let d := { d with cal := { d.cal with waiting := d.cal.waiting.filter (fun r => r.unit != u) } }
    (ids.foldl (fun d id => d.complete id 0x03f8) d).askCover r |>.pumpCal

/-- Whether a unit has a cover, or one is free for it; a covering shim that fails has none. -/
def Dev.hasCover (d : Dev) (u : Nat) : Bool :=
  (d.coverOf u).isSome || (d.freeCover (if u = 32 ∨ u = 33 then (((d.cover (u - 32)).req.map (·.unit)).getD u) else u)).any
    (fun s => u != 32 + s)

/-- A unit goes out of service: an engine's gate is low, its owed passes are dropped and, with no cover for it, its partners are
told; the executions in the unit end with a code, and cover is asked for (R37, R190, R197, R438, R439). -/
def Dev.unitOut (d : Dev) (u status : Nat) (testing : Bool) : Dev :=
  let d := if u < 34 then
      let d := d.forceGate u
      let d := if d.hasCover u || d.get .ENG_STAT_BOUND_CH u == 63 then d else d.goAbsent u
      (d.dropPasses u false).endClaims u
    else if u = 40 then (List.range 34).foldl (fun d n => d.forceGate n) d
    else d
  let d := (d.setService u false).endUnitJobs u status
  let d := d.setIsland u { d.island u with faulted := true, testing := testing, bistOk := true }
  let d := d.calFault u
  let d := if unitCovered u then d.coverFault u else d
  if u < 34 ∧ (d.coverOf u).isNone = true then d.put .ENG_STAT_BOUND_CH 63 u else d

/-- A unit's fault (R438): out of service, counted, recorded as a fault or as a timeout of a kind of R441, its
executions ended, cover asked for, the self-test begun. -/
def Dev.unitFault (d : Dev) (u cause kind : Nat) (status : Nat := 0x0503) : Dev :=
  let x := d.island u
  let d := d.bump .MGT_UNIT_FAULTS 1 u
  if x.faulted then d.setIsland u { x with bistOk := if x.testing then false else x.bistOk }
  else
    let d := (d.put .MGT_LAST_UNIT u).put .MGT_LAST_KIND kind
    let d := if kind = 0 then d.record 0x0d01 4 (recSource 48 63) u cause else d.record 0x0d02 4 (recSource 48 63) u kind
    let d := d.occur 451
    let covered := unitCovered u && (d.freeCover u).isSome
    let d := d.unitOut u status true
    let d := if 49 ≤ u then d.raise .MPL_SLICE_STAT_FAULT (u - 49) else d
    let d := if u = 48 then d.degrade [] else d
    if covered || (d.coverOf u).isSome then d else d.hingeFail (if kind = 9 then 4 else 3)

end Sys2Proof.Machine
end

