-- ==== Sys2Proof/Machine/Layer.lean ====
section
/-! DEFINITION. The layer's states (R39 to R59): entering one, the end of the boundary window, the barrier's count. -/

namespace Sys2Proof.Machine

open Sys2Proof

def Dev.modLayer (d : Dev) (g : Layer → Layer) : Dev := { d with layer := g d.layer }

/-- The state in force, by the code of R39. -/
def Dev.layerState (d : Dev) : Nat := d.get .SYS_LAYER_STAT_STATE

/-- A state begins (R39); source 400 (R368). -/
def Dev.enterState (d : Dev) (st : Nat) : Dev := (d.put .SYS_LAYER_STAT_STATE st).occur 400

/-- Whether a correction due in this boundary window has still to be loaded or swapped (R49, R179). -/
def Dev.correctionDue (d : Dev) : Bool :=
  (List.range 34).any (fun n =>
    let c := (d.eng n).corr
    c.boundary && (match c.pending with
      | some id => ((d.job id).map (fun j => decide (j.started ≤ d.layer.epoch))).getD false
      | none => false))

/-- Whether an engine island that serves a channel is relocking (R18). -/
def Dev.relocking (d : Dev) : Bool :=
  (List.range 34).any (fun n => d.flag .SYS_ISL_STAT_RELOCK n && d.get .ENG_STAT_BOUND_CH n != 63)

/-- A channel whose retraining has failed twice running goes out of service at the end of the window (R405, R440). -/
def Dev.failedChannel (d : Dev) (c : Nat) : Dev :=
  if 2 ≤ (d.chan c).failures ∧ d.inService (36 + c) = true then (d.setService (36 + c) false).raise .MGT_UNIT_TEST_FAIL (36 + c)
  else d

/-- The boundary window ends when the sweep, the frequency changes, the corrections and the retraining are done: LAYER_OPEN
completes and RECOAT begins (R44, R49). -/
def Dev.windowEnd (d : Dev) : Dev :=
  if d.layerState = 9 ∧ d.layer.sweeping = false ∧ d.layer.retraining = 0 ∧ d.relocking = false ∧ d.correctionDue = false then
    let d := match d.layer.openJob with
      | some id => (d.modLayer (fun l => { l with openJob := none })).complete id 0
      | none => d
    ([0, 1].foldl (fun d c => d.failedChannel c) d).enterState 0
  else d

/-! ### The barrier (R57 to R59) -/

/-- Whether a device has left this one's relations (R351); one whose JOIN came while the layer was open is out of them until
the next LAYER_OPEN (R353). -/
def Dev.left (d : Dev) (id : Nat) : Bool := d.flag .FAB_ROUTE_LEFT id || d.fabric.joinedLate.contains id

/-- Whether a device counts as a member of the barrier group by itself: not one of another group, nor the other half of a pair,
which is one member (R58, R59, R349). -/
def Dev.memberAlone (d : Dev) (id : Nat) : Bool :=
  !d.layer.others.contains id && !(d.flag .HNG_CFG_PAIR_EN && d.get .HNG_CFG_PARTNER_ID == id)

/-- The members that have left, as this device marks them (R59, R351). -/
def Dev.leftCount (d : Dev) : Nat :=
  ((d.regs.filterMap (fun c => if c.fld = .FAB_ROUTE_LEFT ∧ c.val = 1 then some c.i else none)
    ++ d.fabric.joinedLate).filter d.memberAlone).length

/-- The ready messages that count for a layer: one per device, none from one that has left (R57, R351). -/
def Dev.readyFor (d : Dev) (num : Nat) : List (Nat × Nat × Nat) :=
  d.layer.ready.filter (fun r => r.2.1 == num && !d.left r.1)

/-- Ready messages needed: GROUP_SIZE less the members that have left (R57, R59). -/
def Dev.readyNeeded (d : Dev) : Nat := max 1 (d.get .SYS_BARRIER_CFG_GROUP_SIZE - d.leftCount)

/-- READY_COUNT brought up to date. -/
def Dev.showReady (d : Dev) : Dev :=
  d.put .SYS_BARRIER_STAT_READY_COUNT (d.readyFor (d.get .SYS_LAYER_NUM_LAYER_NUM)).length

/-- A ready message held, the first of a device for a layer (R57, R349). -/
def Dev.holdReady (d : Dev) (dev num inst : Nat) : Dev :=
  d.modLayer (fun l =>
    if l.ready.any (fun r => r.1 == dev && r.2.1 == num) then l else { l with ready := l.ready ++ [(dev, num, inst)] })

/-- A device that is, or is not, a member of the barrier group by itself (R58, R349). -/
def Dev.setMember (d : Dev) (dev : Nat) (member : Bool) : Dev :=
  let rest := d.layer.others.filter (· != dev)
  d.modLayer (fun l => { l with others := if member then rest else rest ++ [dev] })

end Sys2Proof.Machine
end

