-- ==== Sys2Proof/Machine/Correct.lean ====
section
/-! DEFINITION. The correction image of an engine (R174), its checks (R175), the setpoints it gives (R176, R178, R481)
and the field check of a record's path (R177). -/

namespace Sys2Proof.Machine

open Sys2Proof

/-- Length of a correction image in bytes (R174). -/
def imageLen : Nat := 25456

/-- Bits `[hi:lo]` of an image's header (R174). -/
def Bank.hdr (b : Bank) (hi lo : Nat) : Nat := bitsOf (ofLeBytes (b.image.take 64)) hi lo

/-- A signed 32-bit header field at bit `lo`. -/
def Bank.hdrS (b : Bank) (lo : Nat) : Int := sInt 32 (b.hdr (lo + 31) lo)

def Bank.x0 (b : Bank) : Int := b.hdrS 0
def Bank.y0 (b : Bank) : Int := b.hdrS 32
def Bank.pitchX (b : Bank) : Nat := b.hdr 79 64
def Bank.pitchY (b : Bank) : Nat := b.hdr 95 80
def Bank.crc (b : Bank) : Nat := b.hdr 511 480

/-- Residual table `k` (0 TX, 1 TY, 2 TZ) at row `j`, column `i` (R174). -/
def Bank.entry (b : Bank) (k j i : Nat) : Int :=
  sInt 16 (ofLeBytes ((b.image.drop (64 + 8464 * k + 2 * (65 * j + i))).take 2))

/-- The interpolated residual times 2^32 (R176). -/
def Bank.res (b : Bank) (k j i fx fy : Nat) : Int :=
  ((65536 - fx) * (65536 - fy) * b.entry k j i + fx * (65536 - fy) * b.entry k j (i + 1)
    + (65536 - fx) * fy * b.entry k (j + 1) i + fx * fy * b.entry k (j + 1) (i + 1)) * 2 ^ b.hdr 97 96

/-- Grid coordinate of a position: cell and fraction, clamped to the grid (R176, R178). -/
def gridAt (x x0 : Int) (pitch : Nat) : Nat × Nat :=
  let g := clampI 0 4194304 (((x - x0) * 65536).tdiv ((pitch * 1000 : Nat) : Int))
  let i := min (g.toNat / 65536) 63
  (i, g.toNat - i * 65536)

/-- The three setpoints of a point, unclipped (R176). -/
def Bank.setpoint (b : Bank) (p : Pt) : Int × Int × Int :=
  let (i, fx) := gridAt p.x b.x0 b.pitchX
  let (j, fy) := gridAt p.y b.y0 b.pitchY
  let ex := p.x - b.hdrS 256
  let ey := p.y - b.hdrS 288
  (rndAway ((b.hdrS 128 * ex + b.hdrS 160 * ey) * 65536 + b.res 0 j i fx fy * 1000) (1000 * 2 ^ 32),
   rndAway ((b.hdrS 192 * ex + b.hdrS 224 * ey) * 65536 + b.res 1 j i fx fy * 1000) (1000 * 2 ^ 32),
   rndAway (b.hdrS 320 * p.z * 65536 + b.res 2 j i fx fy) (2 ^ 32))

/-- Full deflection (R140). -/
def fullDefl : Int := 8388607

/-- Whether a setpoint lies within full deflection. -/
def inDefl (v : Int) : Bool := decide (-fullDefl ≤ v ∧ v ≤ fullDefl)

/-- A point inside the grid rectangle (R174). -/
def Bank.inRect (b : Bank) (p : Pt) : Bool :=
  decide (b.x0 ≤ p.x ∧ p.x ≤ b.x0 + (64 * b.pitchX * 1000 : Nat) ∧ b.y0 ≤ p.y ∧ p.y ≤ b.y0 + (64 * b.pitchY * 1000 : Nat))

/-- The header checks of R175: every field in range and every reserved bit and byte 0. -/
def Bank.headerOk (b : Bank) : Bool :=
  decide (100 ≤ b.pitchX ∧ 100 ≤ b.pitchY) && b.hdr 127 98 == 0 && b.hdr 479 352 == 0
    && (List.range 3).all (fun k => (b.image.drop (64 + 8464 * k + 8450)).take 14 == List.replicate 14 0#8)

/-- The grid node of row `j`, column `i`, at zero focus offset. -/
def Bank.node (b : Bank) (j i : Nat) : Pt :=
  { x := b.x0 + (i * b.pitchX * 1000 : Nat), y := b.y0 + (j * b.pitchY * 1000 : Nat), z := 0 }

/-- The node check of R175. -/
def Bank.nodesOk (b : Bank) : Bool :=
  (List.range 65).all (fun j => (List.range 65).all (fun i =>
    let s := b.setpoint (b.node j i)
    inDefl s.1 && inDefl s.2.1 && inDefl s.2.2))

/-- The code of a loaded image: lowest failing check of R175; none when it passes. -/
def Bank.check (b : Bank) : Option Nat :=
  if b.image.length ≠ imageLen ∨ crc32c (b.image.take 60 ++ b.image.drop 64) ≠ b.crc then some 0x0171
  else if !b.headerOk then some 0x0172
  else if !b.nodesOk then some 0x0173
  else none

/-! ### Setpoints (R173, R178, R481) -/

/-- The setpoints of a point through a bank: 0 while it is not valid, clipped outside the grid (R178, R481). -/
def Bank.frame (b : Bank) (p : Pt) : Int × Int × Int :=
  if b.valid then
    let s := b.setpoint p
    (clampI (-fullDefl) fullDefl s.1, clampI (-fullDefl) fullDefl s.2.1, clampI (-fullDefl) fullDefl s.2.2)
  else (0, 0, 0)

/-- Whether a point's setpoints are clamped: outside the grid, or clipped (R178). -/
def Bank.clips (b : Bank) (p : Pt) : Bool :=
  b.valid && (!b.inRect p || (let s := b.setpoint p; !(inDefl s.1 && inDefl s.2.1 && inDefl s.2.2)))

/-! ### The field check (R177) -/

/-- The largest magnitude of any SP_Z residual, in setpoint units, rounded up: no point's SP_Z exceeds the focus term by
more. -/
def Bank.zBound (b : Bank) : Nat :=
  ((List.range 65).foldl (fun m j => (List.range 65).foldl (fun m i => max m (b.entry 2 j i).natAbs) m) 0) * 2 ^ b.hdr 97 96 + 1

/-- Whether every point of a straight stretch passes: its ends in the grid rectangle, which is convex, and SP_Z within
full deflection at every point (R177). Where the focus term and the largest residual leave room, no point can fail;
elsewhere every nanometre of it is tried. -/
def Bank.lineOk (b : Bank) (p q : Pt) : Bool :=
  let z := max p.z.natAbs q.z.natAbs
  b.valid && b.inRect p && b.inRect q &&
  (decide ((b.hdrS 320).natAbs * z / 65536 + 1 + b.zBound ≤ fullDefl.toNat)
    || (List.range (p.dist q + 1)).all (fun k => inDefl (b.setpoint (p.along q (p.dist q) k)).2.2))

/-- Whether every stretch between consecutive points passes. -/
def Bank.polyOk (b : Bank) : List Pt → Bool
  | [] => b.valid
  | [p] => b.lineOk p p
  | p :: q :: rest => b.lineOk p q && b.polyOk (q :: rest)

/-- The corners of a record's path: from where the spot was, through the laser-off move and lead-in, along the record
and its lead-out (R177). -/
def recordPath (prev : Pt) (r : LRec) (l : Lims) : List Pt :=
  if r.clear then []
  else if r.seg then
    let v := (r.segSpeed l).1
    let dd := changeDist l.acc l.jrk v 0
    if l.tenon then [prev, r.E.beyond r.S r.len dd, r.S, r.E, r.S.beyond r.E r.len dd] else [prev, r.S, r.E]
  else if r.cls = 0 then [prev, r.E]
  else [r.S]

/-- The first corner of a path that fails. -/
def Bank.badPoint (b : Bank) (ps : List Pt) : Pt :=
  ((ps.find? (fun p => !b.lineOk p p)).getD (ps.getLast?.getD {}))

end Sys2Proof.Machine
end

