-- ==== Sys2Proof/Machine/Grain.lean ====
section
/-! DEFINITION. The grain map (R223 to R238): cells, lazy decay, deposits, reads, lost tiles and halo runs. -/

namespace Sys2Proof.Machine

open Sys2Proof

/-! ### Geometry (R223, R232) -/

def Dev.grnCols (d : Dev) : Nat := 2 ^ d.get .GRN_GEOM_COLS_LOG2
def Dev.grnRows (d : Dev) : Nat := 2 ^ (21 - d.get .GRN_GEOM_COLS_LOG2)
def Dev.grnPitch (d : Dev) : Nat := d.get .GRN_GEOM_PITCH_UM * 1000

/-- Column and row of a point, possibly outside the map (R223). -/
def Dev.colRow (d : Dev) (x y : Int) : Int × Int :=
  ((x - d.gets .GRN_ORIGIN_X_ORIGIN).fdiv d.grnPitch, (y - d.gets .GRN_ORIGIN_Y_ORIGIN).fdiv d.grnPitch)

/-- Index of the cell of a point; none outside the map (R223). -/
def Dev.cellOf (d : Dev) (x y : Int) : Option Nat :=
  let c := d.colRow x y
  if 0 ≤ c.1 ∧ c.1 < d.grnCols ∧ 0 ≤ c.2 ∧ c.2 < d.grnRows then some (c.2.toNat * d.grnCols + c.1.toNat) else none

/-- Lower corner of a cell in machine coordinates. -/
def Dev.cellCorner (d : Dev) (k : Nat) : Int × Int :=
  (d.gets .GRN_ORIGIN_X_ORIGIN + (k % d.grnCols * d.grnPitch : Nat),
   d.gets .GRN_ORIGIN_Y_ORIGIN + (k / d.grnCols * d.grnPitch : Nat))

/-- Whether a cell's lower corner lies in the own box (R233). -/
def Dev.inOwn (d : Dev) (k : Nat) : Bool :=
  let c := d.cellCorner k
  decide (d.effs .GRN_OWN_X0_EDGE ≤ c.1 ∧ c.1 < d.effs .GRN_OWN_X1_EDGE ∧
    d.effs .GRN_OWN_Y0_EDGE ≤ c.2 ∧ c.2 < d.effs .GRN_OWN_Y1_EDGE)

/-- Whether a cell lies in the own box within BAND_UM of its edge (R233). -/
def Dev.inOwnBand (d : Dev) (k : Nat) : Bool :=
  let c := d.cellCorner k
  let b : Int := ((d.get .GRN_HALO_CFG_BAND_UM * 1000 : Nat) : Int)
  d.inOwn k && !decide (d.effs .GRN_OWN_X0_EDGE + b ≤ c.1 ∧ c.1 + b < d.effs .GRN_OWN_X1_EDGE ∧
    d.effs .GRN_OWN_Y0_EDGE + b ≤ c.2 ∧ c.2 + b < d.effs .GRN_OWN_Y1_EDGE)

/-- GRN_LOST register and bit of a cell's tile (R232). -/
def Dev.tileBit (d : Dev) (k : Nat) : Nat × Nat :=
  let tx := k % d.grnCols * 64 / d.grnCols
  let ty := k / d.grnCols * 32 / d.grnRows
  (2 * ty + tx / 32, tx % 32)

/-- Whether a cell lies in a lost tile. -/
def Dev.isLost (d : Dev) (k : Nat) : Bool :=
  let b := d.tileBit k
  hasBit (d.get .GRN_LOST_TILES b.1) b.2

/-- A cell's tile becomes lost (R232). -/
def Dev.loseTile (d : Dev) (k : Nat) : Dev :=
  let b := d.tileBit k
  (d.put .GRN_LOST_TILES (setBit (d.get .GRN_LOST_TILES b.1) b.2) b.1).raise .GRN_STAT_LOST_ANY

/-! ### Cells and decay (R224, R225) -/

def Dev.cell (d : Dev) (k : Nat) : Nat := Tab.get 0 d.grain.cells k

/-- A cell written, which ends an error of its word; one behind a copy under way is sent to the partner again (R365). -/
def Dev.setCell (d : Dev) (k v : Nat) : Dev :=
  let h := d.hinge
  let again := match h.copyNext with | some c => decide (k < c) && !h.recopy.contains k | none => false
  { d with
    grain := { d.grain with cells := Tab.set 0 d.grain.cells k v, bad := d.grain.bad.filter (· != k) },
    hinge := if again then { h with recopy := h.recopy ++ [k] } else h }

def heatOf (w : Nat) : Nat := w % 65536
def tickOf (w : Nat) : Nat := w / 65536 % 65536
def cellWord (heat tick : Nat) : Nat := heat % 65536 + tick % 65536 * 65536

/-- The tick of an instant in the layer's epoch, saturating (R224). -/
def Dev.grnTick (d : Dev) (t : Nat) : Nat := min ((t - d.layer.epoch) / qMs) 65535

/-- One decay step of R225 with the table's entry, its successor, and steps. -/
def decayFactor (e0 e1 r s : Nat) : Nat := e0 - (e0 - e1) * r / s

/-- decay(h, Δ) by the table in force (R225). -/
def Dev.decay (d : Dev) (h : Nat) (delta : Int) : Nat :=
  if delta ≤ 0 then h
  else
    let m := d.get .GRN_STAT_MATERIAL_NOW
    let s := 2 ^ bitsOf (d.get .GRN_STEP_STEP_LOG2) (4 * m + 3) (4 * m)
    let k := delta.toNat / s
    let f := if 255 ≤ k then d.get .GRN_DECAY_FACTOR m 255
      else decayFactor (d.get .GRN_DECAY_FACTOR m k) (d.get .GRN_DECAY_FACTOR m (k + 1)) (delta.toNat - k * s) s
    h * f / 65536

/-- The heat of a cell at a tick (R225). -/
def Dev.heatAt (d : Dev) (k tick : Nat) : Nat :=
  let w := d.cell k
  d.decay (heatOf w) ((tick : Int) - tickOf w)

/-- An index in ascending order in a list, once. -/
def insertOnce (k : Nat) : List Nat → List Nat
  | [] => [k]
  | x :: xs => if k < x then k :: x :: xs else if k = x then x :: xs else x :: insertOnce k xs

/-- A cell has changed: noted for the next halo set (R233). -/
def Dev.noteCell (d : Dev) (k : Nat) : Dev :=
  if d.inOwnBand k then { d with grain := { d.grain with changed := insertOnce k d.grain.changed } } else d

/-- A cell returns an uncorrectable error: its tile is lost and it becomes HEAT 0 at the present tick (R232), a change like any other
(R233). -/
def Dev.cellError (d : Dev) (k : Nat) : Dev :=
  (((d.loseTile k).bump .GRN_CNT_ECC_UNCORR).setCell k (cellWord 0 (d.grnTick d.now))).noteCell k

/-- The errors that a reading of the cells that `p` selects finds (R232). -/
def Dev.cellErrors (d : Dev) (p : Nat → Bool) : Dev := (d.grain.bad.filter p).foldl (fun d k => d.cellError k) d

/-- A deposit of an increment into a cell at the present tick (R226, R232). -/
def Dev.depositCell (d : Dev) (k inc : Nat) : Dev :=
  let d := d.cellErrors (· == k)
  let now := d.grnTick d.now
  let h := d.heatAt k now + inc
  let d := if 65535 < h then d.bump .GRN_CNT_SATURATED else d
  (d.setCell k (cellWord (min h 65535) now)).noteCell k

/-- A local deposit at a point: into its cell, and to the owner of a cell outside the own box; one outside the map is
dropped and flagged (R226, R233). -/
def Dev.depositAt (d : Dev) (x y : Int) (inc : Nat) : Dev :=
  match d.cellOf x y with
  | none => d.raise .GRN_STAT_OUT_MAP
  | some k =>
    let d := d.depositCell k inc
    if d.inOwn k then d
    else { d with grain := { d.grain with adds := Tab.set 0 d.grain.adds k (Tab.get 0 d.grain.adds k + inc) } }

/-- A cell read (R227, R229). -/
structure CellRead where
  /-- Its heat at the tick; none outside the map. -/
  heat : Option Nat
  /-- Feedforward is missing by it. -/
  missing : Bool
  deriving DecidableEq, Repr

/-- Whether an enabled grain peer is silent. -/
def Dev.grainSilent (d : Dev) : Bool := (List.range 8).any (fun p => d.flag .GRN_PEER_ENABLE p && hasBit (d.get .GRN_STAT_STALE) p)

/-- The cell of a point read at a tick (R227, R229). -/
def Dev.readCell (d : Dev) (x y : Int) (tick : Nat) : CellRead × Dev :=
  match d.cellOf x y with
  | none => (⟨none, true⟩, d)
  | some k =>
    let bad := d.grain.bad.contains k
    let d := d.cellErrors (· == k)
    (⟨some (d.heatAt k tick), bad || d.isLost k || (!d.inOwn k && d.grainSilent)⟩, d)

/-- Tiles that meet a box of dropped deposits are lost (R232): every cell column and row of the box is tried at the
tiles' grain. -/
def Dev.loseBox (d : Dev) (b : Int × Int × Int × Int) : Dev :=
  let lo := d.colRow b.1 b.2.2.1
  let hi := d.colRow b.2.1 b.2.2.2
  (List.range 32).foldl (fun d ty => (List.range 64).foldl (fun d tx =>
    let c0 : Int := ((tx * d.grnCols / 64 : Nat) : Int)
    let c1 : Int := (((tx + 1) * d.grnCols / 64 : Nat) : Int)
    let r0 : Int := ((ty * d.grnRows / 32 : Nat) : Int)
    let r1 : Int := (((ty + 1) * d.grnRows / 32 : Nat) : Int)
    if lo.1 < c1 ∧ c0 ≤ hi.1 ∧ lo.2 < r1 ∧ r0 ≤ hi.2 then
      (d.put .GRN_LOST_TILES (setBit (d.get .GRN_LOST_TILES (2 * ty + tx / 32)) (tx % 32)) (2 * ty + tx / 32)).raise
        .GRN_STAT_LOST_ANY
    else d) d) d

/-- The epoch sweep: every cell decayed to the new epoch, its time set to 0 (R49, R51, R225). -/
def Dev.sweepCells (d : Dev) (epoch : Nat) : Dev :=
  let now := d.grnTick epoch
  let cells := d.grain.cells.filterMap (fun c =>
    let h := d.decay (heatOf c.2) ((now : Int) - tickOf c.2)
    if h = 0 then none else some (c.1, cellWord h 0))
  { d with grain := { d.grain with cells := cells } }

/-- Whether a decay table is acceptable (R225). -/
def Dev.tableOk (d : Dev) (m : Nat) : Bool :=
  d.get .GRN_DECAY_FACTOR m 0 == 65536
    && (List.range 255).all (fun k => decide (d.get .GRN_DECAY_FACTOR m (k + 1) ≤ d.get .GRN_DECAY_FACTOR m k))

/-- The check of the requested table at the end of a boundary window's sweep (R225). -/
def Dev.checkTable (d : Dev) : Dev :=
  let m := d.get .GRN_CFG_MATERIAL
  if m = d.get .GRN_STAT_MATERIAL_NOW then d
  else if d.tableOk m then { d.put .GRN_STAT_MATERIAL_NOW m with grain := { d.grain with refused := false } }
  else if d.grain.refused then d
  else
    let d := ((d.raise .GRN_STAT_TABLE_ERR).raise .GRN_STAT_CFG_REJ).record 0x0503 3 (recSource 38 63)
      (d.get .SYS_LAYER_NUM_LAYER_NUM) m
    { d with grain := { d.grain with refused := true } }

/-! ### Halo runs (R233 to R235) -/

/-- The words of a run in granules of four (R234). -/
def runGranules : List Nat → List Gran
  | [] => []
  | [a] => [BitVec.ofNat 128 a]
  | [a, b] => [BitVec.ofNat 128 (a + b * 2 ^ 32)]
  | [a, b, c] => [BitVec.ofNat 128 (a + b * 2 ^ 32 + c * 2 ^ 64)]
  | a :: b :: c :: e :: rest => BitVec.ofNat 128 (a + b * 2 ^ 32 + c * 2 ^ 64 + e * 2 ^ 96) :: runGranules rest

/-- Consecutive cells of one row grouped into runs of at most 255: first cell and values. -/
def groupRuns (cols : Nat) : List (Nat × Nat) → List (Nat × List Nat)
  | [] => []
  | (k, v) :: rest =>
    match groupRuns cols rest with
    | (k', vs) :: more =>
      if k' = k + 1 ∧ k / cols = k' / cols ∧ vs.length < 255 then (k, v :: vs) :: more else (k, [v]) :: (k', vs) :: more
    | [] => [(k, [v])]

/-- A run's granules: header and words; kind 0 SET, 1 ADD, 2 END (R234). -/
def Dev.runOf (d : Dev) (kind k : Nat) (vs : List Nat) : List Gran :=
  let c := if kind = 2 then (0, 0) else d.cellCorner k
  BitVec.ofNat 128 (uInt 32 c.1 + uInt 32 c.2 * 2 ^ 32 + vs.length * 2 ^ 64 + kind * 2 ^ 72 + nsOf d.now * 2 ^ 96)
    :: runGranules vs

/-- Words of a run's payload, four to a granule. -/
def runWords (gs : List Gran) : List Nat :=
  gs.flatMap (fun g => [bitsOf g.toNat 31 0, bitsOf g.toNat 63 32, bitsOf g.toNat 95 64, bitsOf g.toNat 127 96])

/-- The instant a nanoseconds field names, in the second nearest to device time (R209, R234). -/
def nearestNs (now ns : Nat) : Nat :=
  let base := now / qSec * qSec + ns * qNs
  if base + qSec / 2 < now then base + qSec
  else if now + qSec / 2 < base then base - qSec else base

end Sys2Proof.Machine
end

