-- ==== Sys2Proof/Machine/MeltPool.lean ====
section
/-! DEFINITION. The power path and the melt-pool loop (R214 to R231): the power of a point, ticks, deposits and reads
ahead, and the meanings of MELT_POOL_TICK, FEEDBACK_LOST and INT_CLR. -/

namespace Sys2Proof.Machine

open Sys2Proof

/-- 1.0 in Q15. -/
def q15 : Nat := 32768

/-! ### Records and pieces under the spot -/

/-- The plan of the record that a serial number names, of those lately ended too. -/
def Engine.planOf (e : Engine) (ser : Nat) : Option Plan := (e.plans ++ e.past).find? (fun p => p.r.ser == ser)

/-- The record that a serial number names, among plans, ended records and the look-ahead. -/
def Engine.recOf (e : Engine) (ser : Nat) : Option LRec :=
  match e.planOf ser with
  | some p => some p.r
  | none => e.look.find? (fun r => r.ser == ser)

/-- The exposing piece under the spot at an instant, and its record. -/
def Engine.under (e : Engine) (t : Nat) : Option (Piece × LRec) :=
  match pieceAt e.longPath t with
  | some p => if p.exposing then (e.recOf p.ser).map (fun r => (p, r)) else none
  | none => none

/-- The scarf weight of a point of a record (R188, R193), times the restart taper of a resumed record (R363). -/
def Dev.weightUnder (d : Dev) (n : Nat) (p : Piece) (r : LRec) (t : Nat) : Weight :=
  let s := (p.s0 + ((p.at' (t - p.t0)).1 : Int)).toNat
  let w := match r.share with
    | some x => if r.dark then wAll else d.shareWeight n x s
    | none => wAll
  match r.resume with
  | some m => if r.seg then wMul w (taperAt m s (d.get .HNG_RESTART_TAPER_UM * 1000)) else w
  | none => w

/-! ### The power of a point (R214, R215) -/

/-- s_spd of a point (R215). -/
def Dev.sSpd (d : Dev) (n : Nat) (p : Piece) (r : LRec) (t : Nat) : Nat :=
  if d.eff .MPL_TARGET_SPD_COMP n r.cls = 1 ∧ r.seg = true ∧ (r.gate = 0 ∨ r.gate = 2) then
    let v := (p.at' (t - p.t0)).2
    let vr := (r.segSpeed ((((d.eng n).planOf r.ser).map (·.lims)).getD (d.limsOf n r))).1
    max (if vr = 0 then 0 else v * q15 / vr) (d.eff .MPL_CFG_SPD_MIN n * 128)
  else q15

/-- The class of a set used by a record: a DWELL uses set 5 (R152, R216). -/
def LRec.set (r : LRec) : Nat := r.cls

/-- lim(32,768 + I[c]) of R220. -/
def Dev.limFb (d : Dev) (n c : Nat) (v : Int) : Nat :=
  (min (max v (d.eff .MPL_FB_LIM_FB_MIN n c : Int)) (d.eff .MPL_FB_LIM_FB_MAX n c : Int)).toNat

def Dev.integ (d : Dev) (n c : Nat) : Int := d.gets .MPL_INT_I n c

/-- The last tick that ended at least 500 ns before a frame (R221, R228). -/
def Engine.tickFor (e : Engine) (t : Nat) : Option (Nat × Nat × Nat × Nat) :=
  e.loop.ticks.find? (fun k => decide (k.1 + 500 * qNs ≤ t))

/-- s_fb of the frame that starts at an instant for a class (R221). -/
def Dev.sFb (d : Dev) (n c t : Nat) : Nat :=
  match (d.eng n).tickFor t with
  | some k => if k.2.1 = c then k.2.2.1 else d.limFb n c (q15 + d.integ n c)
  | none => d.limFb n c (q15 + d.integ n c)

/-- Whether feedforward is in use for a record (R228). -/
def Dev.ffUsed (d : Dev) (r : LRec) : Bool := d.flag .GRN_CFG_ENABLE && r.ff

/-- s_ff of the frame that starts at an instant (R228). -/
def Dev.sFf (d : Dev) (n : Nat) (r : LRec) (t : Nat) : Nat :=
  if d.ffUsed r then
    match (d.eng n).tickFor t with
    | some k => k.2.2.2
    | none => q15
  else q15

/-- Whether a case of R151 holds an engine's gate low. -/
def Dev.cut (d : Dev) (n : Nat) : Bool :=
  (d.eng n).gate.forced || d.flag .ENG_GATE_STAT_SAFE_STOP n || d.get .THM_STAT_STATE == 3

/-- SP_POWER from POWER, the scales, limits and weight, and the clamp that acted: 0 none, 1 P_MIN, 2 P_MAX. The product is exact and
rounded once (R214). -/
def powerOf (power sSpd sFf sFb pMin pMax : Nat) (w : Weight) : Nat × Nat :=
  let num := power * sSpd * sFf * sFb
  let den := q15 * q15 * q15
  let low := num < pMin * den
  let high := pMax * den < max num (pMin * den)
  let (num, den) := if high then (pMax, 1) else if low then (pMin, 1) else (num, den)
  ((rndAway ((num * w.1 : Nat) : Int) (den * w.2)).toNat, if high then 2 else if low then 1 else 0)

/-- The power of the frame that starts at `t`: SP_POWER, class at x, and clamp, 3 where the power is not computed (R168, R214). -/
def Dev.framePower (d : Dev) (n t : Nat) : Nat × Nat × Nat :=
  let tx := t + d.pwrLead n
  match (d.eng n).under tx with
  | some (p, r) =>
    let c := r.set
    if r.dark ∨ r.power = 0 ∨ d.cut n = true then (0, c, 3)
    else
      let x := powerOf r.power (d.sSpd n p r tx) (d.sFf n r t) (d.sFb n c t) (d.eff .MPL_PWR_LIM_P_MIN n c)
        (d.eff .MPL_PWR_LIM_P_MAX n c) (d.weightUnder n p r tx)
      (x.1, c, x.2)
  | none => (0, 0, 3)

/-! ### The read ahead (R227, R228) -/

/-- The planned path with every record of the look-ahead planned on, as if granted. -/
def Dev.forecast (d : Dev) (n : Nat) : List Piece :=
  let e := d.eng n
  let last := e.plans.getLast?
  let solid := d.solids n ((last.map (·.lims)).getD (d.regLims n)) e.look
  let start (r : LRec) : Entry := match last with
    | some p => d.entryAfter n p r
    | none => { t := max d.now (endOf 0 e.moves), pt := posAt e.spot e.moves (endOf 0 e.moves) }
  let step (a : List Piece × Option Plan × List (LRec × Lims)) (x : LRec × Lims) :
      List Piece × Option Plan × List (LRec × Lims) :=
    let rest := a.2.2.drop 1
    let p := planRec (match a.2.1 with | some q => d.entryAfter n q x.1 | none => start x.1) x.1 x.2 [] rest
    (a.1 ++ p.pieces, some p, rest)
  e.longPath ++ (solid.foldl step ([], none, solid)).1

/-- The point a distance ahead along exposing pieces from an instant on, with the instant of reaching it; the last point
when the path ends before (R227). -/
def aheadOf (t : Nat) (ps : List Piece) (dist : Nat) : Pt × Nat :=
  let start : Nat × Option (Pt × Nat) × (Pt × Nat) := (dist, none, ({}, t))
  let r := ps.foldl (fun a p =>
    match a.2.1 with
    | some _ => a
    | none =>
      let s := if p.t0 < t then (p.at' (t - p.t0)).1 else 0
      if a.1 ≤ p.len - s then (0, some (p.point (s + a.1), p.when (s + a.1)), a.2.2)
      else (a.1 - (p.len - s), none, (p.q, p.t1))) start
  r.2.1.getD r.2.2

/-- The reads ahead of an engine: mean heat, none where a point has no cell, and whether a read makes feedforward missing (R227,
R229). -/
def Dev.readAhead (d : Dev) (n : Nat) (ps : List Piece) (t : Nat) : CellRead × Dev :=
  let near := d.eff .GRN_LOOK_NEAR n
  let far := d.eff .GRN_LOOK_FAR n
  let k := d.eff .GRN_LOOK_N_READ n + 1
  let r := (List.range k).foldl (fun (a : CellRead × Dev) i =>
    let di := (if k = 1 then near else near + i * (far - near) / (k - 1)) * 10000
    let q := aheadOf t ps di
    let x := a.2.readCell q.1.x q.1.y (a.2.grnTick q.2)
    (⟨match a.1.heat, x.1.heat with | some s, some h => some (s + h) | _, _ => none, a.1.missing || x.1.missing⟩, x.2))
    (⟨some 0, false⟩, d)
  (⟨r.1.heat.map (· / k), r.1.missing⟩, r.2)

/-- Table entry `k` of an engine's power-scale table in force (R228). -/
def Dev.scaleEntry (d : Dev) (n k : Nat) : Nat :=
  if k % 2 = 0 then d.eff .GRN_SCALE_S_LO n (k / 2) else d.eff .GRN_SCALE_S_HI n (k / 2)

/-- s_ff from the mean heat (R228). -/
def Dev.scaleOf (d : Dev) (n h : Nat) : Nat :=
  let sh := d.eff .GRN_LOOK_SHIFT n
  let j := h / 2 ^ sh
  if 63 ≤ j then d.scaleEntry n 63
  else
    let a : Int := (d.scaleEntry n j : Nat)
    let b : Int := (d.scaleEntry n (j + 1) : Nat)
    (a - ((a - b) * (h - j * 2 ^ sh : Nat)).tdiv ((2 ^ sh : Nat) : Int)).toNat

/-- The feedforward of a tick: H, s_ff and whether it is missing (R227 to R229). The reads are made and H is formed whenever an
exposing part lies ahead; H is a free value where a point has no cell to read or GRAIN is out of service. -/
def Dev.tickFf (d : Dev) (n : Nat) : (Nat × Nat × Bool) × Dev :=
  let tx := d.now + 500 * qNs + d.pwrLead n
  let all := d.forecast n
  let ps := all.filter (fun p => p.exposing && decide (tx < p.t1))
  let used := match ps.head? with
    | some p => ((d.eng n).recOf p.ser).any (fun r => d.ffUsed r)
    | none => false
  if ps.isEmpty then ((0, q15, false), d)
  else
    let r := if d.inService 38 then d.readAhead n ps tx else (⟨none, true⟩, d)
    let h := r.1.heat.getD (r.2.freeBits 16)
    let d := if r.1.heat.isSome then r.2 else r.2.freeNext
    ((h, if !used then q15 else if r.1.missing then d.eff .MPL_CFG_FF_FALLBACK n else d.scaleOf n h, used && r.1.missing), d)

/-- Feedforward missing at a tick: flag, count, and the first event of the layer (R229). -/
def Dev.noteFf (d : Dev) (n : Nat) (missing : Bool) : Dev :=
  if missing then
    let d := if d.flag .MPL_STAT_FF_LOST n then d else d.occur (193 + 2 * n)
    let d := (d.raise .MPL_STAT_FF_LOST n).bump .MPL_CNT_FF_MISS 1 n
    if (d.eng n).loop.ffNoted then d
    else
      (d.record 0x0501 3 (recSource n 0) (d.get .SYS_LAYER_NUM_LAYER_NUM)).modEng n
        (fun e => { e with loop := { e.loop with ffNoted := true } })
  else d.lower .MPL_STAT_FF_LOST n

/-! ### The tick (R219 to R221, R226, R230) -/

/-- How a tick is classified, with y_k and the lit samples (R219). -/
structure TickClass where
  saturated : Bool
  valid : Bool
  y : Int
  /-- Instant of the last lit sample minus PD_DELAY. -/
  last : Option Nat
  deriving DecidableEq, Repr

/-- The lit samples of a tick that ends now: code and instant minus PD_DELAY (R217, R219). -/
def Dev.litSamples (d : Dev) (n : Nat) (samples : List (BitVec 16)) : List (Int × Nat) :=
  let g := (d.eng n).gate
  let settle := d.eff .MPL_PD_PD_SETTLE n * qNs
  (samples.take 20).zipIdx.filterMap (fun s =>
    let inst := d.now + s.2 * (50 * qNs) - qUs - d.eff .MPL_PD_PD_DELAY n * qNs
    match g.litAt inst with
    | some l => if l.rise + settle ≤ inst then some (s.1.toInt, inst) else none
    | none => none)

/-- The classification of a tick (R219): dark where the last lit sample's spot point has scarf weight below 1 (R189). -/
def Dev.classify (d : Dev) (n : Nat) (samples : List (BitVec 16)) : TickClass :=
  let lit := d.litSamples n samples
  let last := (lit.getLast?).map (·.2)
  let feather := match last with
    | some t => match (d.eng n).under t with
      | some (p, r) => wBelow (d.weightUnder n p r t)
      | none => false
    | none => false
  let sat := lit.any (fun s => s.1 == 32767 || s.1 == -32768)
  let enough := decide (d.eff .MPL_PD_MIN_LIT n ≤ lit.length ∧ 0 < lit.length)
  { saturated := sat && !feather, valid := !sat && enough && !feather,
    y := if lit.isEmpty then 0 else (lit.foldl (fun (a : Int) (x : Int × Nat) => a + x.1) 0).tdiv lit.length, last := last }

/-- The class of the record a tick updates: under the last lit sample, else under the tick's end (R220). -/
def Dev.tickClass (d : Dev) (n : Nat) (k : TickClass) : Option Nat :=
  let t := k.last.getD (d.now - 1 - d.eff .MPL_PD_PD_DELAY n * qNs)
  ((d.eng n).under t).map (fun x => x.2.set)

/-- The integrator update of a valid tick with feedback present (R220): new I, and s_fb. -/
def fbStep (i target y kp ki : Int) (fbMin fbMax : Nat) (clampMin clampMax : Bool) : Int × Nat :=
  let e := ((target - y) * 32768).tdiv target
  let iNew := i + (ki * e).tdiv 65536
  let raw := 32768 + (kp * e).tdiv 4096 + iNew
  let out := (min (max raw (fbMin : Int)) (fbMax : Int)).toNat
  let held := decide (((fbMax : Int) < raw ∧ 0 < e) ∨ (raw < (fbMin : Int) ∧ e < 0)) || (clampMax && decide (0 < e))
    || (clampMin && decide (e < 0))
  (if held then i else min (max iNew ((fbMin : Int) - 32768)) ((fbMax : Int) - 32768), out)

/-- s_fb of a tick and the integrator after it (R220). -/
def Dev.tickFb (d : Dev) (n c : Nat) (k : TickClass) : Nat × Int :=
  let i := d.integ n c
  let lp := (d.eng n).loop
  if lp.missing ≠ 0 then
    (if d.eff .MPL_CFG_FB_FAIL n = 0 then d.limFb n c (q15 + i) else q15, i)
  else if d.eff .MPL_TARGET_LOOP_EN n c = 0 then (q15, i)
  else if !k.valid then (d.limFb n c (q15 + i), i)
  else
    let f := lp.frames.find? (fun f => decide (f.1 < d.now) && f.2.2.1 == c && f.2.2.2 != 3)
    let clamp := (f.map (fun f => f.2.2.2)).getD 0
    let r := fbStep i (d.eff .MPL_TARGET_TARGET n c : Nat) k.y (d.eff .MPL_GAIN_KP n c : Nat) (d.eff .MPL_GAIN_KI n c : Nat)
      (d.eff .MPL_FB_LIM_FB_MIN n c) (d.eff .MPL_FB_LIM_FB_MAX n c) (clamp == 1) (clamp == 2)
    (r.2, r.1)

/-- The deposit of a tick (R226). The carry counts halves, so that the mean of two frames stays exact. Where fewer than two frames have
their point in the tick, the mean is of those (DESIGN CHOICE). -/
def Dev.tickDeposit (d : Dev) (n : Nat) : Dev :=
  let e := d.eng n
  let ton := e.gate.onTime (d.now - qUs) d.now
  if ton = 0 ∨ d.flag .GRN_CFG_ENABLE = false then d
  else
    let fs := e.loop.frames.filter (fun f => decide (d.now - qUs ≤ f.1 + d.pwrLead n ∧ f.1 + d.pwrLead n < d.now))
    let twice := match fs with
      | [] => 0
      | [f] => 2 * f.2.1
      | f :: g :: _ => f.2.1 + g.2.1
    let p := posAt e.spot e.longPath (d.now - qUs / 2)
    if d.inService 38 then
      let num := twice * d.eff .MPL_FS_FS_W n * ton + e.loop.carry
      let den := 2 * (65535 * d.get .GRN_CFG_HEAT_LSB_UJ * 256000)
      let d := d.modEng n (fun e => { e with loop := { e.loop with carry := num % den } })
      d.depositAt p.x p.y (num / den)
    else
      let box := match e.loop.dropBox with
        | some b => (min b.1 p.x, max b.2.1 p.x, min b.2.2.1 p.y, max b.2.2.2 p.y)
        | none => (p.x, p.x, p.y, p.y)
      d.modEng n (fun e => { e with loop := { e.loop with dropBox := some box } })

/-- The deposits of a tick end, of every engine with a channel in ascending number, each once: at the first command of the instant
that reads cells or writes them by halo (R36, R226). -/
def Dev.depositAll (d : Dev) : Dev :=
  forAll (List.range 34) (fun d n =>
    if d.get .ENG_STAT_BOUND_CH n < 32 ∧ (d.eng n).loop.deposited ≠ d.run + 1 then
      (d.tickDeposit n).modEng n (fun e => { e with loop := { e.loop with deposited := d.run + 1 } })
    else d) d

/-- Runs of dark and of saturated ticks (R230). Only a valid tick has a y_k, so only such a tick counts as dark (R219). -/
def Dev.tickRuns (d : Dev) (n : Nat) (k : TickClass) : Dev :=
  let e := d.eng n
  let whole := decide (e.gate.onTime (d.now - qUs) d.now = qUs)
  let dark := whole && k.valid && decide (k.y < (d.eff .MPL_PD_LIM_FLOOR n : Nat))
  d.modEng n (fun e => { e with loop := { e.loop with
    darkRun := if dark then e.loop.darkRun + 1 else 0, satRun := if k.saturated then e.loop.satRun + 1 else 0 } })

/-- The feedback part of a tick (R220): registers, integrator and FB_HOLD, which counts an integrator that has its old value at the tick's
end, for whatever cause (DESIGN CHOICE where a computed step is 0). -/
def Dev.tickFeedback (d : Dev) (n : Nat) (k : TickClass) : Nat × Nat × Dev :=
  match d.tickClass n k with
  | none => (0, q15, d)
  | some c =>
    let r := d.tickFb n c k
    let kept := decide (r.2 = d.integ n c)
    let lit := decide (0 < (d.eng n).gate.onTime (d.now - qUs) d.now)
    let d := d.puts .MPL_INT_I r.2 n c
    let d := if k.valid then d.puts .MPL_MEAS_Y k.y n else d
    let d := d.put .MPL_MEAS_S_FB r.1 n
    let d := if kept && lit && d.eff .MPL_TARGET_LOOP_EN n c == 1 then d.bump .MPL_CNT_FB_HOLD 1 n else d
    (c, r.1, d)

/-- The whole tick of an engine whose channel is bound. -/
def Dev.meltTick (d : Dev) (n : Nat) (samples : List (BitVec 16)) : Dev :=
  let d := (d.extendTo n (d.now + d.leadOf n)).flushGate n
  let k := d.classify n samples
  let d := d.tickRuns n k
  let fb := d.tickFeedback n k
  let d := fb.2.2.depositAll
  let r := d.tickFf n
  let ff := r.1
  let d := r.2.noteFf n ff.2.2
  let d := (d.put .MPL_FF_H ff.1 n).put .MPL_FF_S_FF ff.2.1 n
  let both := ff.2.2 && decide ((d.eng n).loop.missing ≠ 0) && d.eff .MPL_CFG_BOTH_ACT n == 1
  d.modEng n (fun e => { e with loop := { e.loop with
    ticks := (d.now, fb.1, fb.2.1, ff.2.1) :: e.loop.ticks.take 3, bothFault := e.loop.bothFault || both } })

/-- Whether the tick that ends now spans a change of the engine's slice (R237). -/
def Dev.sliceSpans (d : Dev) (n : Nat) : Bool :=
  let c := (d.eng n).loop.changed
  decide (0 < c ∧ d.run + 1 < c + qUs)

/-- At each 1 µs loop tick the engine classifies its samples, updates the integrator, deposits heat and reads the grain
map ahead (R219 to R228); a tick that spans a change of slice is dark (R237). A command at any other instant, or for an unbound engine, passes time only. -/
def execMeltPoolTick (dt : Nat) (n : Fin 34) (samples : List (BitVec 16)) (s : State) : Host.Outcome State Fault Refusal :=
  s.act dt (fun d =>
    d.when (d.now % qUs == 0 && decide (d.get .ENG_STAT_BOUND_CH n < 32)) (fun d =>
      d.meltTick n (if d.sliceSpans n then [] else samples)))

/-- The slice that serves an engine is out of service (R230). -/
def Dev.sliceOut (d : Dev) (n : Nat) : Bool :=
  let ch := d.get .ENG_STAT_BOUND_CH n
  decide (ch < 32) && !d.flag .MPL_SLICE_STAT_IN_SERVICE (d.get .MPL_SLICE_SLICE ch)

/-- The cause by which feedback goes missing, by the row of R230; 0 for none. -/
def Dev.fbCause (d : Dev) (n : Nat) : Nat :=
  let lp := (d.eng n).loop
  if d.sliceOut n then 1
  else if d.eff .MPL_PD_LIM_DARK_LIMIT n ≤ lp.darkRun ∧ 0 < lp.darkRun then 2
  else if d.eff .MPL_PD_LIM_SAT_LIMIT n ≤ lp.satRun ∧ 0 < lp.satRun then 3
  else 0

/-- Feedback goes missing (R230). -/
def Dev.loseFeedback (d : Dev) (n cause : Nat) : Dev :=
  let d := d.raise .MPL_STAT_FB_LOST n
  let d := if cause = 2 then d.raise .MPL_STAT_DARK n else if cause = 3 then d.raise .MPL_STAT_SAT n else d
  let d := (d.record 0x0502 4 (recSource n 0) (d.get .SYS_LAYER_NUM_LAYER_NUM) cause).occur (193 + 2 * n)
  d.modEng n (fun e => { e with loop := { e.loop with missing := cause } })

/-- DARK_LIMIT dark or SAT_LIMIT saturated ticks, or an uncovered slice, make feedback missing and record an event of
severity 4 (R230). -/
def execFeedbackLost (dt : Nat) (n : Fin 34) (s : State) : Host.Outcome State Fault Refusal :=
  s.act dt (fun d =>
    d.when (decide ((d.eng n).loop.missing = 0 ∧ d.fbCause n ≠ 0)) (fun d => d.loseFeedback n (d.fbCause n)))

/-- The six integrators of a channel are cleared (R222). -/
def Dev.clearIntegrators (d : Dev) (n : Nat) : Dev := [1, 2, 3, 4, 5, 7].foldl (fun d c => d.put .MPL_INT_I 0 n c) d

/-- A write of 1 to MPL_CFG[n].INT_CLR by the host clears the six integrators of the channel bound to the engine
(R222). -/
def execIntClr (dt : Nat) (n : Fin 34) (s : State) : Host.Outcome State Fault Refusal :=
  s.act dt (fun d => d.byFn 0 (fun d => d.clearIntegrators n))

end Sys2Proof.Machine
end

