-- ==== Sys2Proof/Machine/Scan.lean ====
section
/-! DEFINITION. Vector descriptors, the record stream and the spot (R101, R116 to R135): the meanings of VEC_BLOCK,
VEC_INLINE, ENG_PARK, ENG_LIMITS, FIFO_REFILL_DONE, RECORD_ENTER_LOOKAHEAD, KERF_REQUEST, RECORD_START, RECORD_END and
PARK_DONE. -/

namespace Sys2Proof.Machine

open Sys2Proof

/-! ### Records of a descriptor -/

def recCls (w : Nat) : Nat := bitsOf w 115 112
def recEob (w : Nat) : Bool := hasBit w 127

/-- Whether a record uses only the fields its class uses (R118). -/
def recFieldsOk (w : Nat) : Bool :=
  let c := recCls w
  let point := c == 5 || c == 8 || c == 6
  let gate := bitsOf w 118 117
  (if c == 6 then bitsOf w 63 32 == 0 else if point then bitsOf w 63 0 == 0 else true) &&
  (if point then bitsOf w 79 64 == 0 else true) &&
  (if segClass c || c == 5 then true else bitsOf w 95 80 == 0) &&
  (if c == 6 then bitsOf w 111 96 == 0 else true) &&
  (c == 0 || bitsOf w 116 116 == 0) &&
  (if segClass c then gate != 3 else if c == 5 then gate == 0 || gate == 2 else gate == 0) &&
  (if segClass c || c == 5 then true else bitsOf w 119 119 == 0) &&
  (c == 7 || bitsOf w 125 120 == 0) && (c == 0 || bitsOf w 126 126 == 0)

/-- The code of R120 for the records of a descriptor; none when they pass. -/
def recordsCode (rs : List Gran) : Option Nat :=
  let ws := rs.map BitVec.toNat
  lowest [
    (ws.any (fun w => decide (8 < recCls w)), 0x0151),
    (ws.dropLast.any recEob || !(ws.getLast?.map recEob).getD false, 0x0152),
    (ws.any (fun w => decide (recCls w ≤ 8) && !recFieldsOk w), 0x0153),
    (ws.any (fun w => (segClass (recCls w) || recCls w == 5 || recCls w == 8) && bitsOf w 111 96 == 0), 0x0154)]

/-- Whether every SCARF_HATCH follows a JUMP, markers apart, within the descriptor (R183). -/
def scarfJumps (rs : List Gran) : Bool :=
  (rs.foldl (fun (a : Bool × Nat) g =>
    let c := recCls g.toNat
    if c = 6 then a else (a.1 && !(c == 7 && a.2 != 0), c)) (true, 9)).1

/-! ### Refill (R101) -/

/-- Records in an engine FIFO. -/
def fifoLevel (l : List EItem) : Nat :=
  (l.filter (fun x => match x with | .record _ _ => true | _ => false)).length

/-- Items that the head of an engine's stream gives to its FIFO within a block's room, and the stream after it. -/
def Dev.refillStep (d : Dev) (n : Nat) (room : Nat) : Nat × Dev :=
  match (d.eng n).stream with
  | [] => (room, d)
  | id :: rest =>
    match d.job id with
    | none => (room, d.modEng n (fun e => { e with stream := rest }))
    | some j =>
      if j.vector then
        let rs := j.records
        let more := (rs.drop j.progress).take room
        let d := d.modEng n (fun e => { e with fifo := e.fifo ++ more.map (.record id) })
        if j.progress + more.length = rs.length then
          (room - more.length,
            (d.modEng n (fun e => { e with stream := rest })).modJob id
              (fun j => { j with progress := rs.length, data := j.data.map (fun _ => []) }))
        else (0, d.modJob id (fun j => { j with progress := j.progress + more.length }))
      else
        let item : EItem := if j.opcode = 0x33 then .limits id else .swap id
        (room, d.modEng n (fun e => { e with fifo := e.fifo ++ [item], stream := rest }))

/-- One refill block: 512 records, never past 3,840 (R101). -/
def Dev.refill (d : Dev) (n : Nat) : Dev :=
  let room := min 512 (3840 - fifoLevel (d.eng n).fifo)
  let d := ((List.range ((d.eng n).stream.length + 1)).foldl
    (fun (a : Nat × Dev) _ => if a.1 = 0 then a else a.2.refillStep n a.1) (room, d)).2
  (d.put .ENG_FIFO_LEVEL (fifoLevel (d.eng n).fifo) n).modEng n (fun e => { e with dry := false })

/-- The refill threshold of an engine: WIN_PREFETCH of its owner (R101). -/
def Dev.fifoLow (d : Dev) (n : Nat) : Nat :=
  match d.ownerOf (d.coveredEngine n) with
  | some f => d.get .WIN_PREFETCH_FIFO_LOW f
  | none => 0

/-- A refill block reaches an engine FIFO while it holds fewer records than FIFO_LOW and STAGE is in service (R37,
R101). -/
def execFifoRefillDone (dt : Nat) (n : Fin 34) (s : State) : Host.Outcome State Fault Refusal :=
  s.act dt (fun d =>
    d.when (d.inService 35 && decide (fifoLevel (d.eng n).fifo < d.fifoLow n) && !(d.eng n).stream.isEmpty)
      (fun d => d.refill n))

/-- The code with which an engine ends a descriptor that it has taken and not begun: discarded after a channel fault (R148 step 5), or
a vector descriptor in the SAFE_STOP state (R170). -/
def Dev.stopCode (d : Dev) (j : Job) : Option Nat :=
  let n := d.execEngine j.target
  if (d.eng n).discard then some 0x0251
  else if j.vector && d.flag .ENG_GATE_STAT_SAFE_STOP n then some 0x0260 else none

/-- A descriptor that an engine has taken begins, unless the engine has stopped meanwhile (R148, R170). -/
def Dev.engJob (d : Dev) (j : Job) (f : Dev → Dev) : Dev :=
  match d.stopCode j with
  | some c => d.complete j.id c
  | none => f d

/-- A taken descriptor joins its engine's stream. -/
def Dev.joinStream (d : Dev) (j : Job) : Dev :=
  (d.begin' j).modEng (d.execEngine j.target) (fun e => { e with stream := e.stream ++ [j.id] })

/-- VEC_BLOCK: its records, read from host memory and staged, become the engine's next (R123, R124). -/
def execVecBlock (dt : Nat) (job : Nat) (s : State) : Host.Outcome State Fault Refusal :=
  s.act dt (fun d => d.withJob job 0x30 (fun d j => d.engJob j (fun d => d.joinStream j)))

/-- VEC_INLINE: the records the descriptor carries become the engine's next (R123, R124). -/
def execVecInline (dt : Nat) (job : Nat) (s : State) : Host.Outcome State Fault Refusal :=
  s.act dt (fun d => d.withJob job 0x31 (fun d j => d.engJob j (fun d => d.joinStream j)))

/-- ENG_LIMITS: new limits from its place in the stream on (R126). -/
def execEngLimits (dt : Nat) (job : Nat) (s : State) : Host.Outcome State Fault Refusal :=
  s.act dt (fun d => d.withJob job 0x33 (fun d j => d.engJob j (fun d => d.joinStream j)))

/-! ### Rest -/

/-- Limits of an ENG_LIMITS descriptor (R126). -/
def Job.lims (j : Job) : Lims :=
  { amax := j.bits 143 128, jmax := j.bits 159 144, vmax := j.bits 175 160, vjump := j.bits 191 176,
    blend := j.bits 199 192, tol := j.bits 215 200, tenon := j.bits 216 216 == 1 }

/-- New limits are written into the registers, at once in force (R126). -/
def Dev.writeLims (d : Dev) (n : Nat) (l : Lims) : Dev :=
  let d := ((d.put .ENG_LIMITS_A_MAX l.amax n).put .ENG_LIMITS_J_MAX l.jmax n).put .ENG_VEL_V_MAX l.vmax n
  let d := ((d.put .ENG_VEL_V_JUMP l.vjump n).put .ENG_PLAN_CTL_BLEND_DEG l.blend n).put .ENG_PLAN_CTL_CORNER_TOL_NM l.tol n
  let d := d.putB .ENG_PLAN_CTL_TENON_EN l.tenon n
  [Fld.ENG_LIMITS_A_MAX, .ENG_LIMITS_J_MAX, .ENG_VEL_V_MAX, .ENG_VEL_V_JUMP, .ENG_PLAN_CTL_BLEND_DEG,
   .ENG_PLAN_CTL_CORNER_TOL_NM, .ENG_PLAN_CTL_TENON_EN].foldl (fun d f => d.latch f n) d

/-- The ENG_LIMITS descriptors up to one take effect and complete (R126). -/
def Dev.applyLims (d : Dev) (n id : Nat) : Dev :=
  let ls := (d.eng n).newLims
  let k := (ls.takeWhile (fun x => x.1 != id)).length + 1
  let done := ls.take k
  let d := d.modEng n (fun e =>
    { e with newLims := e.newLims.drop k,
             look := e.look.map (fun r => if done.any (fun x => r.limits == some x.1) then { r with limits := none } else r) })
  done.foldl (fun d x => (d.writeLims n x.2).complete x.1 0) d

/-- Descriptors that the field has cut short and whose last record before the failing one has run end, at the instant `t` from which
the spot rests; the record behind starts from there (R177). -/
def Dev.endCut (d : Dev) (n t : Nat) : Dev :=
  let e := d.eng n
  let over' (j : Nat) : Bool := e.look.all (fun r => !(r.ends && decide (r.job ≤ j)))
  let js := e.outField.filter over'
  if js.isEmpty then d
  else
    let p := posAt e.spot e.moves (endOf 0 e.moves)
    let head := e.look.find? (fun r => !r.clear && !r.share.isSome)
    let d := d.modEng n (fun e =>
      { e with outField := e.outField.filter (fun j => !over' j), tail := if e.look.any (fun r => !r.clear) then e.tail else p,
               look := e.look.map (fun r => if head.any (fun h => h.ser == r.ser) then { r with S := p, VS := p } else r) })
    js.foldl (fun d j => d.completeAt j 0x0175 t) d

/-- What happens when the spot is at rest with the gate low: registers come into force (R137), descriptors cut short by
the field end (R177), and limits with no record behind them stand. -/
def Dev.restActs (d : Dev) (n : Nat) : Dev :=
  if d.atRest n then
    let d := d.restLatch n
    let d := d.endCut n (max (d.eng n).restAt (endOf 0 (d.eng n).moves))
    if (d.eng n).look.isEmpty && (d.eng n).fifo.isEmpty then
      match (d.eng n).newLims.getLast? with
      | some x => d.applyLims n x.1
      | none => d
    else d
  else d

/-- STATE of an engine that is neither out of service, faulted nor parked: RUN, HELD or IDLE. -/
def Dev.showState (d : Dev) (n : Nat) : Dev :=
  let e := d.eng n
  let st := d.get .ENG_STAT_STATE n
  if st = 0 ∨ st = 6 ∨ st = 4 then d
  else if (e.current d.now).isSome then d.put .ENG_STAT_STATE 2 n
  else if e.parking.isSome then d.put .ENG_STAT_STATE 4 n
  else if !e.look.isEmpty && d.get .SYS_LAYER_STAT_STATE == 3 then d.put .ENG_STAT_STATE 3 n
  else if st = 5 then d
  else d.put .ENG_STAT_STATE 1 n

/-! ### Entering the look-ahead (R177, R183, R184, R186) -/

/-- A record as parsed, from the point where the one before left the spot (R116). -/
def Dev.parseRec (d : Dev) (n job w : Nat) : LRec :=
  let e := d.eng n
  let c := recCls w
  let pos : Pt := { x := sInt 32 (bitsOf w 31 0), y := sInt 32 (bitsOf w 63 32), z := sInt 16 (bitsOf w 79 64) }
  let moves := segClass c || c == 0
  let still := segClass c && pos.x == e.tail.x && pos.y == e.tail.y
  { ser := e.nextSer, job := job, cls := c, S := e.tail, E := if moves && !still then pos else e.tail,
    power := bitsOf w 95 80, speed := bitsOf w 111 96, gate := bitsOf w 118 117, ff := hasBit w 119,
    reord := hasBit w 116, exempt := hasBit w 126, eob := recEob w, marker := bitsOf w 31 0,
    VS := e.tail, VE := if moves && !still then pos else e.tail, limits := e.newLims.getLast?.map (·.1) }

/-- A SCARF_HATCH takes its zone's next VIDX and its share; without its zone it runs dark (R183 to R187). -/
def Dev.scarfRec (d : Dev) (n z : Nat) (r : LRec) : LRec × Dev :=
  let k := d.vidxOf n z
  let d := d.modEng n (fun e => { e with vidx := Tab.set 0 e.vidx z (k + 1) })
  if d.zoneOn n z then
    let sp := d.zoneSplit n z k r.VS r.VE
    let d := if sp.miss then d.bump .SCF_CNT_B_MISS 1 n else if sp.short then d.bump .SCF_CNT_B_SHORT 1 n else d
    let h : ScarfRec := { zone := z, vidx := k, VS := r.VS, VE := r.VE, power := r.power, speed := r.speed, gate := r.gate,
                          ff := r.ff }
    let d := d.modEng n (fun e => { e with hist := (e.hist ++ [h]).drop (e.hist.length + 1 - 64) })
    (r.over' (d.shareNow n z k r.VS r.VE), d)
  else
    let d := (d.raise .SCF_ERR_NOZONE n).modJob r.job (fun j => { j with code := lowCode j.code (some 0x0270) })
    ({ r with dark := true }, d)

/-- The bank that will be in force for the next record: after a swap of the stream still to come, the shadow bank once
it is loaded (R177, R179). -/
def Dev.bankFor (d : Dev) (n : Nat) : Option Bank :=
  let c := (d.eng n).corr
  if c.pending.isSome && !c.boundary && c.after.isSome then
    (if c.loading.isSome then none else some c.shadow)
  else some c.active

/-- The rest of a descriptor is discarded: nothing more of it is taken from the FIFO or the stream (R177). -/
def Dev.discardRest (d : Dev) (n job : Nat) : Dev :=
  let d := (d.discardRecs n (· == job)).modEng n (fun e => { e with outField := insertOnce job e.outField })
  d.put .ENG_FIFO_LEVEL (fifoLevel (d.eng n).fifo) n

/-- The last record that has motion before a failing one ends at a tenoned junction (R177): the last of a look-ahead, or the last
whose plan is final, where its end is open. -/
def Engine.endsHere (e : Engine) (before : LRec → Bool) : Engine :=
  match (e.look.filter (fun r => !r.clear && before r)).getLast? with
  | some x => { e with look := e.look.map (fun r => if r.ser == x.ser then { r with ends := true } else r) }
  | none =>
    match e.plans.getLast? with
    | some p => { e with plans := e.plans.dropLast ++
        [if p.blended.isNone then { p with r := { p.r with ends := true }, corner := none, endBlend := [] }
         else { p with r := { p.r with ends := true } }] }
    | none => e

/-- A record fails the field check (R177). -/
def Dev.outOfField (d : Dev) (n : Nat) (r : LRec) (p : Pt) : Dev :=
  let d := (d.raise .COR_STAT_OUT_FIELD n).record 0x0304 4 (recSource n 0) 0 (p32 p.x) (p32 p.y)
  let d := d.modEng n (fun e => e.endsHere (fun x => decide (x.ser < r.ser)))
  let d := d.discardRest n r.job
  if d.atRest n then (d.endCut n d.now).restActs n else d

/-- A record joins the look-ahead (R131, R177). -/
def Dev.enterRecord (d : Dev) (n job : Nat) (g : Gran) : Dev :=
  let w := g.toNat
  let r := d.parseRec n job w
  let prev := (d.eng n).tail
  let shared := if r.cls = 7 ∧ ¬ (r.S.x = r.E.x ∧ r.S.y = r.E.y) then d.scarfRec n (bitsOf w 125 120) r else (r, d.countScarf n g)
  let r := shared.1
  let d1 := shared.2
  let whole := { r with S := r.VS, E := r.VE }
  let path := recordPath prev whole (d.limsOf n r)
  let bank := d.bankFor n
  if bank.any (fun b => !b.polyOk path) then
    d1.outOfField n r ((bank.map (fun b => b.badPoint path)).getD {})
  else
    let d := d1.modEng n (fun e =>
      { e with look := e.look ++ [{ r with checked := bank.isSome }], nextSer := e.nextSer + 1, tail := whole.E })
    d.replan n

/-- The next item of an engine's FIFO is taken into the look-ahead (R119, R126, R177, R179). -/
def Dev.enterNext (d : Dev) (n : Nat) : Dev :=
  match (d.eng n).fifo with
  | [] => d
  | x :: rest =>
    let d := d.modEng n (fun e => { e with fifo := rest })
    let d := d.put .ENG_FIFO_LEVEL (fifoLevel rest) n
    match x with
    | .record job g => d.enterRecord n job g
    | .limits job =>
      (match d.job job with
      | some j => d.modEng n (fun e => { e with newLims := e.newLims ++ [(job, j.lims)] })
      | none => d)
    | .swap job =>
      d.modEng n (fun e =>
        if e.corr.pending = some job then { e with corr := { e.corr with after := some (e.nextSer - 1) } } else e)

/-- A record enters the look-ahead of 512, is planned, and its path is checked against its correction bank (R131,
R177). -/
def execRecordEnterLookahead (dt : Nat) (n : Fin 34) (s : State) : Host.Outcome State Fault Refusal :=
  s.act dt (fun d =>
    d.when (decide ((d.eng n).look.length < 512)) (fun d => (((d.restActs n).enterNext n).restActs n).showState n))

/-! ### Requests (R135, R202) -/

/-- The exposure record an engine requests next, once the record before it has started: the first of its look-ahead, or the first
behind a JUMP that waits for its grant (R135, R202). A WAIT and an exempt JUMP run first; JUMPs and WAITs that follow a JUMP are
presented with it (DESIGN CHOICE). A record that runs dark is not presented. -/
def Dev.toRequest (d : Dev) (n : Nat) : Option LRec :=
  let e := d.eng n
  let off (r : LRec) : Bool := r.clear || r.cls == 0 || r.cls == 8
  match (if e.plans.all (·.started) then e.look.dropWhile LRec.clear else []) with
  | [] => none
  | x :: rest =>
    let head := if x.cls = 0 ∧ x.exempt = false then rest.find? (fun r => !off r) else if off x then none else some x
    head.filter (fun r => !(r.seg && r.dark) && (d.reqOf n r.ser).isNone)

/-- A request for a record enters KERF (R202); a share whose partner is absent is planned as the union (R193). -/
def Dev.makeRequest (d : Dev) (n : Nat) (r : LRec) : Dev :=
  let r' := match r.share with
    | some s => if s.pass || r.resume.isSome then r else r.over' (d.shareNow n s.zone s.vidx r.VS r.VE)
    | none => r
  let d := d.modEng n (fun e => { e with look := e.look.map (fun x => if x.ser == r.ser then r' else x) })
  let d := match r'.share with
    | some s => if s.union then
        (d.bump .SCF_CNT_A_TAKEN 1 n).record 0x0310 2 (recSource n 0) (d.get .SYS_LAYER_NUM_LAYER_NUM) s.zone s.vidx
      else d
    | none => d
  if r'.clear then d
  else
    let q : KReq := { eng := n, ser := r.ser, cls := r.cls, x0 := r'.S.x, y0 := r'.S.y, x1 := r'.E.x, y1 := r'.E.y,
                      inst := d.now, pass := (r'.share.map (·.pass)).getD false }
    ((d.setReqs (d.kerf.reqs ++ [q])).showKerf n).showState n

/-- An engine presents its next exposure record to KERF in EXPOSE, fixing the request instant (R135, R202). -/
def execKerfRequest (dt : Nat) (n : Fin 34) (s : State) : Host.Outcome State Fault Refusal :=
  s.act dt (fun d =>
    match d.toRequest n with
    | some r => d.when (d.get .SYS_LAYER_STAT_STATE == 3 && decide (d.get .ENG_STAT_STATE n ≠ 0 ∧ d.get .ENG_STAT_STATE n ≠ 6))
        (fun d => d.makeRequest n r)
    | none => d)

/-! ### Starts and ends -/

/-- A marker or zero-length segment is passed: it counts as started, a marker shows and raises its event, and its
descriptor completes when it is the last record (R120, R129). -/
def Dev.passClear (d : Dev) (n : Nat) (r : LRec) (t : Nat) : Dev :=
  let d := d.put .ENG_REC_SEQ_SEQ (d.get .ENG_REC_SEQ_SEQ n + 1) n
  let d := if r.cls = 6 then (d.put .ENG_MARK_MARK r.marker n).occur (192 + 2 * n) else d
  let d := match r.limits with
    | some j => if (d.eng n).newLims.any (fun x => x.1 == j) then d.applyLims n j else d
    | none => d
  if r.eob then d.completeAt r.job ((d.eng n).endCode.getD 0) t else d

/-- The junction before a starting record is counted, where it has not been at the horizon (R129, R130, R138). -/
def Dev.countJunction (d : Dev) (n : Nat) (p : Plan) : Dev :=
  let first := (d.eng n).past.isEmpty && (d.eng n).plans.head?.any (fun q => q.r.ser == p.r.ser)
  if first || p.counted then d
  else if p.fromRest then d.bump .ENG_JCT_TENONED 1 n
  else d.bump .ENG_JCT_BLENDED 1 n

/-- A retained SCARF_HATCH has started, as this channel's share or as the union with its partner's part (R193, R194). -/
def Dev.markScarf (d : Dev) (n : Nat) (r : LRec) : Dev :=
  match r.share with
  | some s => if s.pass then d
    else d.modHist n s.zone s.vidx (fun h => { h with started := true, taken := h.taken || s.union })
  | none => d

/-- The markers before a plan's record are passed, once (R129). -/
def Dev.passLead (d : Dev) (n : Nat) (p : Plan) (t : Nat) : Dev :=
  if p.led then d
  else
    let d := p.lead.foldl (fun d r => d.passClear n r t) d
    d.modEng n (fun e => { e with plans := e.plans.map (fun q => if q.r.ser == p.r.ser then { q with led := true } else q) })

/-- A planned record starts (R129, R135). -/
def Dev.startPlan (d : Dev) (n : Nat) (p : Plan) : Dev :=
  let d := (d.passLead n p p.tMove).countJunction n p
  let d := d.put .ENG_REC_SEQ_SEQ (d.get .ENG_REC_SEQ_SEQ n + 1) n
  let clamped := if p.r.seg then (p.r.segSpeed p.lims).2 else p.r.cls == 0 && (p.r.jumpSpeed p.lims).2
  let d := if clamped then d.raise .ENG_STAT_VCLAMP n else d
  let d := match p.r.limits with
    | some j => if (d.eng n).newLims.any (fun x => x.1 == j) then d.applyLims n j else d
    | none => d
  let d := (d.markScarf n p.r).modJob p.r.job (fun j => { j with partly := true })
  let d := d.modEng n (fun e =>
    { e with plans := e.plans.map (fun q => if q.r.ser == p.r.ser then { q with started := true } else q),
             advanced := d.run, gate := { e.gate with forced := false } })
  let d := if p.opens then d.lower .ENG_GATE_STAT_BEHIND_HOLD n else d
  d.put .ENG_STAT_STATE 2 n

/-- Markers that no record with motion precedes in the look-ahead are passed where the spot is (R120, R129). -/
def Dev.passHead (d : Dev) (n t : Nat) : Dev :=
  let ms := (d.eng n).look.takeWhile LRec.clear
  if ms.isEmpty || !d.mayStart n then d
  else ms.foldl (fun d r => d.passClear n r t) (d.modEng n (fun e => { e with look := e.look.dropWhile LRec.clear }))

/-- The next record of an engine starts, when the spot is there for it and everything allows: a segment once its lead-in has brought
the spot to its start point (R129, R135). -/
def Dev.startNext (d : Dev) (n : Nat) : Dev :=
  let d := d.restActs n
  let d := if d.atRest n then (d.passHead n d.now).restActs n else d
  let d := d.extendTo n d.now
  match (d.eng n).plans.find? (fun p => !p.started) with
  | some p => if p.tBody ≤ d.now then d.startPlan n p else d
  | none => d

/-- A record starts once its grant is held and the layer state, link and holds allow; markers with no record behind them
are passed at rest (R120, R129, R135). -/
def execRecordStart (dt : Nat) (n : Fin 34) (s : State) : Host.Outcome State Fault Refusal :=
  s.act dt (fun d => ((d.startNext n).flushGate n).showState n)

/-- An engine FIFO has emptied with records still to be staged (R103). -/
def Dev.underrun (d : Dev) (n : Nat) : Dev :=
  let e := d.eng n
  if e.fifo.isEmpty && e.look.isEmpty && !e.stream.isEmpty && !e.dry then
    ((d.bump .WIN_MOVER_STAT_UNDERRUN).record 0x0211 3 (recSource n 0) n).modEng n (fun e => { e with dry := true })
  else d

/-- A reorderable unit ends: its held request is pending again (R207). -/
def Dev.endUnit (d : Dev) (n ser : Nat) : Dev :=
  if (d.eng n).unitEnd = some ser then
    (d.modEng n (fun e => { e with unitEnd := none })).setReqs
      (d.kerf.reqs.map (fun r => if r.eng == n && r.status == .suspended then { r with status := .pending } else r))
  else d

/-- The record in progress of an engine ends at its planned instant (R124, R201). -/
def Dev.endPlan (d : Dev) (n : Nat) (p : Plan) : Dev :=
  let t := p.tEnd
  let d := d.modEng n (fun e =>
    { e with plans := e.plans.drop 1, past := p :: e.past.take 7, moves := if p.blends then [] else p.out,
             spot := posAt p.r.S p.pieces p.tDone, restAt := p.tDone, advanced := d.run })
  let d := (d.endClaim n p.r.ser).endUnit n p.r.ser
  let d := (d.underrun n).modEng n (fun e => { e with gate := { e.gate with forced := false } })
  let code := ((d.eng n).endCode).getD 0
  let d := if p.r.eob then d.completeAt p.r.job code t else d
  let d := match (d.eng n).plans with
    | q :: _ => d.passLead n q t
    | [] => d.passHead n t
  if (d.eng n).loop.bothFault && !p.blends then
    (d.modEng n (fun e => { e with loop := { e.loop with bothFault := false } })).channelFault n 7 0x0590
  else d

/-- The planned spot reaches a record's end, its claim ends and its descriptor completes if it is the last record
(R124, R201). -/
def execRecordEnd (dt : Nat) (n : Fin 34) (s : State) : Host.Outcome State Fault Refusal :=
  s.act dt (fun d =>
    let d := (d.extendTo n d.now).flushGate n
    match (d.eng n).plans.head? with
    | some p =>
      if p.started ∧ p.blended.isSome ∧ p.tEnd ≤ d.now then ((d.endPlan n p).restActs n).showState n else d
    | none => d)

/-! ### Parking (R125) -/

/-- The park move begins from where the spot rests (R125, R134). The record after an ENG_PARK starts, as any does, where the record
before it left the spot (R116); after a stop, whose records are gone, at the park position (DESIGN CHOICE). -/
def Dev.beginPark (d : Dev) (n : Nat) (job : Option Nat) : Dev :=
  let e := d.eng n
  let t := max (max d.now e.horizon) (endOf 0 e.moves)
  let from' := posAt e.spot e.moves (endOf 0 e.moves)
  let l := d.regLims n
  let dest : Pt := { x := d.gets .ENG_PARK_X_POS n, y := d.gets .ENG_PARK_Y_POS n, z := 0 }
  let mv := offMove l from' dest e.nextSer t (l.vjump * 1000000) 0
  let mv := if mv.isEmpty then [{ kind := .rest, t0 := t, dur := 0, p := dest, q := dest }] else mv
  (d.modEng n (fun e =>
    { e with parking := some job, moves := e.moves ++ mv, tail := if job.isNone then dest else e.tail })).put .ENG_STAT_STATE 4 n

/-- ENG_PARK: a kerf-exempt laser-off move to the park position, once every earlier descriptor from its ring to the
engine has completed (R125). -/
def execEngPark (dt : Nat) (job : Nat) (s : State) : Host.Outcome State Fault Refusal :=
  s.act dt (fun d => d.withJob job 0x32 (fun d j => d.engJob j (fun d =>
    let n := d.execEngine j.target
    if d.earlierDone j && d.atRest n && (d.eng n).parking.isNone then ((d.restActs n).begin' j).beginPark n (some j.id)
    else d)))

/-- The spot comes to rest at the park position: PARKED, and ENG_PARK completes (R125). -/
def Dev.parked (d : Dev) (n : Nat) (job : Option Nat) : Dev :=
  let e := d.eng n
  let t := endOf 0 e.moves
  let p := (e.moves.getLast?.map (·.q)).getD e.spot
  let d := d.modEng n (fun e => { e with parking := none, moves := [], spot := p, restAt := t })
  let d := if d.get .ENG_STAT_STATE n = 4 then d.put .ENG_STAT_STATE 5 n else d
  let d := match job with
    | some j => d.completeAt j 0 t
    | none => d
  d.restActs n

/-- The park move of an engine is done (R125). -/
def execParkDone (dt : Nat) (n : Fin 34) (s : State) : Host.Outcome State Fault Refusal :=
  s.act dt (fun d =>
    match (d.eng n).parking with
    | some job => if endOf 0 (d.eng n).moves ≤ d.now ∧ (d.eng n).plans.isEmpty = true then d.parked n job else d
    | none => d)

end Sys2Proof.Machine
end

