-- ==== Sys2Proof/Machine/Correction.lean ====
section
/-! DEFINITION. Correction descriptors and bank swaps (R175, R179 to R181, R481): the meanings of COR_LOAD,
COR_LOAD_DONE, COR_SWAP, COR_BANK_SWAP, COR_SAVE and COR_ECC_ERROR. -/

namespace Sys2Proof.Machine

open Sys2Proof

def Dev.modCorr (d : Dev) (n : Nat) (g : Corr → Corr) : Dev := d.modEng n (fun e => { e with corr := g e.corr })

/-- The COR_ registers of an engine's banks (R481). -/
def Dev.showCorr (d : Dev) (n : Nat) : Dev :=
  let c := (d.eng n).corr
  let d := (d.putB .COR_STAT_SHADOW_VALID c.shadow.valid n).putB .COR_STAT_ACTIVE_VALID c.active.valid n
  let d := d.putB .COR_STAT_SWAP_PENDING c.pending.isSome n
  let d := d.put .COR_SHD_CRC_CRC (if c.shadow.valid then c.shadow.crc else 0) n
  let a := c.active
  if a.valid then
    let d := (d.puts .COR_ACT_X0_ORIGIN a.x0 n).puts .COR_ACT_Y0_ORIGIN a.y0 n
    ((d.put .COR_ACT_PITCH_PITCH_X a.pitchX n).put .COR_ACT_PITCH_PITCH_Y a.pitchY n).put .COR_ACT_CRC_CRC a.crc n
  else
    let d := (d.put .COR_ACT_X0_ORIGIN 0 n).put .COR_ACT_Y0_ORIGIN 0 n
    ((d.put .COR_ACT_PITCH_PITCH_X 0 n).put .COR_ACT_PITCH_PITCH_Y 0 n).put .COR_ACT_CRC_CRC 0 n

/-- Whether a COR_LOAD or COR_SWAP must wait: a swap is pending or a load is under way (R180). -/
def Dev.corBusy (d : Dev) (n : Nat) : Bool :=
  let c := (d.eng n).corr
  c.pending.isSome || c.loading.isSome

/-- COR_LOAD begins to load the shadow bank; its swap, by SWAP, is pending (R179, R180). -/
def execCorLoad (dt : Nat) (job : Nat) (s : State) : Host.Outcome State Fault Refusal :=
  s.act dt (fun d => d.withJob job 0x34 (fun d j => d.engJob j (fun d =>
    let n := d.execEngine j.target
    if d.corBusy n then d
    else
      let sw := j.bits 193 192
      let d := d.begin' j
      let d := d.modCorr n (fun c =>
        { c with shadow := {}, loading := some j.id, pending := if sw = 2 then none else some j.id, boundary := sw == 1,
                 after := none })
      let d := if sw = 0 then d.modEng n (fun e => { e with stream := e.stream ++ [j.id] }) else d
      d.showCorr n)))

/-- The first of some records of the look-ahead that fails the check against a bank ends its descriptor there (R177): it and the
descriptor's records behind it leave, with their requests. -/
def Dev.recheck1 (d : Dev) (n : Nat) (b : Bank) (which : LRec → Bool) : Dev :=
  let e := d.eng n
  let start := (e.plans.getLast?.map (·.r.VE)).getD e.spot
  let pathOf (x : LRec × Pt) : List Pt := recordPath x.2 { x.1 with S := x.1.VS, E := x.1.VE } (d.limsOf n x.1)
  match (e.look.zip (start :: e.look.map (·.VE))).find? (fun x => which x.1 && !b.polyOk (pathOf x)) with
  | some x =>
    let gone (y : LRec) : Bool := y.job == x.1.job && decide (x.1.ser ≤ y.ser)
    let d := (e.look.filter gone).foldl (fun d y => d.endClaim n y.ser) d
    let d := d.modEng n (fun e => { e with
      look := e.look.filter (fun y => !gone y), tail := if e.look.getLast?.any gone then x.1.VS else e.tail })
    d.outOfField n x.1 (b.badPoint (pathOf x))
  | none => d

/-- Records of the look-ahead checked against the bank that will be in force for them after all (R177, R481). -/
def Dev.recheck (d : Dev) (n : Nat) (b : Bank) (which : LRec → Bool) : Dev :=
  let d := (d.eng n).look.foldl (fun d _ => d.recheck1 n b which) d
  d.modEng n (fun e => { e with look := e.look.map (fun r => if which r then { r with checked := true } else r) })

/-- The records that entered behind a swap whose bank was not yet known, checked against a bank (R177). -/
def Dev.checkWaiting (d : Dev) (n : Nat) (b : Bank) : Dev := d.recheck n b (fun r => !r.checked)

/-- The loaded image is checked (R175): the shadow bank is valid or not, and a failed or load-only descriptor
completes. Records that wait for the bank are checked against it, or against the active bank when the load fails (R177). -/
def Dev.loadDone (d : Dev) (n id : Nat) : Dev :=
  match d.job id with
  | none => d.modCorr n (fun c => { c with loading := none })
  | some j =>
    let b : Bank := { image := (granBytes (j.data.getD [])).take imageLen, valid := true }
    match b.check with
    | some code =>
      let d := d.modCorr n (fun c => { c with shadow := { b with valid := false }, loading := none, pending := none, after := none })
      (((d.raise .COR_STAT_LOAD_ERR n).showCorr n).complete id code).checkWaiting n (d.eng n).corr.active
    | none =>
      let d := (d.modCorr n (fun c => { c with shadow := b, loading := none })).showCorr n
      if j.bits 193 192 = 2 then d.complete id 0 else d.checkWaiting n b

/-- A loaded image is checked for CRC, ranges and node setpoints, and the shadow bank is marked valid or not (R175). -/
def execCorLoadDone (dt : Nat) (n : Fin 34) (s : State) : Host.Outcome State Fault Refusal :=
  s.act dt (fun d =>
    match (d.eng n).corr.loading with
    | some id => (d.loadDone n id).windowEnd
    | none => d)

/-- COR_SWAP asks for a swap at the next swap point of the stream, or does nothing with no valid shadow bank (R180). -/
def execCorSwap (dt : Nat) (job : Nat) (s : State) : Host.Outcome State Fault Refusal :=
  s.act dt (fun d => d.withJob job 0x35 (fun d j => d.engJob j (fun d =>
    let n := d.execEngine j.target
    if d.corBusy n then d
    else if (d.eng n).corr.shadow.valid then
      let d := d.joinStream j
      (d.modCorr n (fun c => { c with pending := some j.id, boundary := false, after := none })).showCorr n
    else d.complete j.id 0x0271)))

/-- Whether a pending swap's point has come: in the boundary window for one that reached its engine before it, or at rest
at the swap point of one in the stream (R179). -/
def Dev.swapDue (d : Dev) (n : Nat) : Bool :=
  let e := d.eng n
  let c := e.corr
  match c.pending with
  | none => false
  | some id =>
    c.ready &&
    (if c.boundary then
       d.get .SYS_LAYER_STAT_STATE == 9 && ((d.job id).map (fun j => decide (j.started ≤ d.layer.epoch))).getD true
     else (d.swapTime n).any (fun t => decide (t ≤ d.now)))

/-- The active and shadow banks are exchanged (R179). -/
def Dev.swapBanks (d : Dev) (n : Nat) : Dev :=
  let id := (d.eng n).corr.pending
  let d := d.modCorr n (fun c => { c with active := c.shadow, shadow := c.active, pending := none, after := none, boundary := false })
  let d := (d.put .COR_STAT_ACTIVE_BANK (1 - d.get .COR_STAT_ACTIVE_BANK n) n).showCorr n
  let d := match id with
    | some j => d.complete j 0
    | none => d
  d.recheck n (d.eng n).corr.active (fun _ => true)

/-- At the swap point the active and shadow banks are exchanged, and the descriptor that asked for it completes (R179,
R180). -/
def execCorBankSwap (dt : Nat) (n : Fin 34) (s : State) : Host.Outcome State Fault Refusal :=
  s.act dt (fun d => d.when (d.swapDue n) (fun d => (d.swapBanks n).windowEnd))

/-- COR_SAVE writes the active bank's image, its CRC with it, to host memory; with no valid active bank it writes
nothing (R180, R481). -/
def execCorSave (dt : Nat) (job : Nat) (s : State) : Host.Outcome State Fault Refusal :=
  s.act dt (fun d => d.withJob job 0x36 (fun d j => d.engJob j (fun d =>
    let b := (d.eng (d.execEngine j.target)).corr.active
    if b.valid then d.saveTo j j.addr b.image 0 else d.complete j.id 0x0272)))

/-- An uncorrectable error in the active bank faults the engine as a unit, its vector descriptor in execution ending with
0x0570; in the shadow bank it makes the bank not valid (R181). -/
def execCorEccError (dt : Nat) (n : Fin 34) (active : Bool) (s : State) : Host.Outcome State Fault Refusal :=
  s.act dt (fun d =>
    if active then d.unitFault n 1 0 0x0570
    else
      let c := (d.eng n).corr
      let d := (d.modCorr n (fun c => { c with shadow := { c.shadow with valid := false } })).raise .COR_STAT_ECC_ERR n
      match (if c.loading.isNone then c.pending else none) with
      | some id =>
        -- the swap that waits finds no valid shadow bank (R180)
        let d := (d.modCorr n (fun c => { c with pending := none, after := none, boundary := false })).showCorr n
        (d.complete id 0x0271).recheck n c.active (fun _ => true)
      | none => d.showCorr n)

end Sys2Proof.Machine
end

