-- ==== Sys2Proof/Machine/ScarfCmds.lean ====
section
/-! DEFINITION. The meanings of the scarf commands (R191 to R196): SCARF_YIELD, SCARF_NOTICE, TAKEOVER_PASS and
SCARF_CONTACT_LOSS. -/

namespace Sys2Proof.Machine

open Sys2Proof

/-- The record of a waiting request of an engine. -/
def Dev.waitingRec (d : Dev) (n : Nat) : Option (KReq × LRec) :=
  match d.waitingReq n with
  | some q => ((d.eng n).look.find? (fun r => r.ser == q.ser)).map (fun r => (q, r))
  | none => none

/-- A share is yielded: its request is withdrawn, it is not exposed, and the partner is told (R191). -/
def Dev.yieldShare (d : Dev) (n : Nat) (q : KReq) (r : LRec) (sh : Share) : Dev :=
  let d := d.endClaim n q.ser
  let d := d.modEng n (fun e =>
    { e with look := e.look.map (fun x => if x.ser == r.ser then { x with S := x.VE, E := x.VE, share := none } else x) })
  let d := d.bump .SCF_CNT_A_YIELDED 1 n
  (d.sendNotice n sh.zone 2 sh.vidx 0xffffffff).showState n

/-- A role-B share held for TAKEOVER_US is yielded and a YIELD notice is issued; role A never yields (R191), nor does a union, whose
partner is absent (DESIGN CHOICE). -/
def execScarfYield (dt : Nat) (n : Fin 34) (s : State) : Host.Outcome State Fault Refusal :=
  s.act dt (fun d =>
    match d.waitingRec n with
    | some (q, r) =>
      match r.share with
      | some sh =>
        let t := d.eff .SCF_ZONE_TIME_TAKEOVER_US n sh.zone
        d.when (d.eff .SCF_ZONE_CFG_ROLE n sh.zone == 1 && t != 0 && !sh.pass && !sh.union && decide (t * qUs ≤ d.holdOf q.inst))
          (fun d => d.yieldShare n q r sh)
      | none => d
    | none => d)

/-- An ABSENT or YIELD notice from a device: granted traffic of class bit 2, then checked against zone, layer, source and
SIG (R114, R192). -/
def execScarfNotice (dt : Nat) (dev : Fin 1024) (payload : List Gran) (s : State) : Host.Outcome State Fault Refusal :=
  s.act dt (fun d => d.granting dev 2 none (fun d =>
    match payload with
    | g :: _ => d.kerfNotice dev g.toNat
    | [] => d))

/-- A takeover pass joins the front of the look-ahead as a segment with the partner's weights (R194). -/
def Dev.startPass (d : Dev) (n : Nat) (p : Pass) (h : ScarfRec) : Dev :=
  let e := d.eng n
  let sh := d.passShare n p h
  let base : LRec := { ser := e.nextSer, job := 0, cls := 7, S := h.VS, E := h.VE, power := h.power, speed := h.speed,
                       gate := h.gate, ff := h.ff, VS := h.VS, VE := h.VE, checked := true }
  let r := base.over' sh
  let d := d.modEng n (fun e => { e with passes := e.passes.drop 1, nextSer := e.nextSer + 1, look := r :: e.look })
  d.bump .SCF_CNT_A_TAKEN 1 n

/-- Whether an engine stands before a JUMP or at the end of its phase-3 work: no record is left in it and no vector descriptor waits
for it (R194). -/
def Dev.passPoint (d : Dev) (n : Nat) : Bool :=
  let e := d.eng n
  e.plans.isEmpty && d.get .SYS_LAYER_STAT_STATE == 3 &&
    (match (e.look.dropWhile LRec.clear).head? with
      | some r => r.cls == 0
      | none => e.fifo.isEmpty && e.stream.isEmpty
          && !d.jobs.any (fun j => j.vector && j.phase == some 3 && d.execEngine j.target == n))

/-- At the next JUMP or the end of phase-3 work an engine runs the owed takeover pass of lowest VIDX; one whose vector is
no longer retained is uncovered (R194). -/
def execTakeoverPass (dt : Nat) (n : Fin 34) (s : State) : Host.Outcome State Fault Refusal :=
  s.act dt (fun d =>
    d.when (d.passPoint n) (fun d =>
      match (d.eng n).passes with
      | [] => d
      | p :: _ =>
        match d.histOf n p.zone p.vidx with
        | some h => d.startPass n p h
        | none => (d.modEng n (fun e => { e with passes := e.passes.drop 1 })).uncovered n p))

/-- Whether a device has been silent for LOSS_US, or has left the fabric (R195). -/
def Dev.lostDevice (d : Dev) (p : Nat) : Bool :=
  d.flag .FAB_ROUTE_LEFT p || decide (Tab.get 0 d.kerf.heard p + d.get .SCF_CFG_LOSS_US * qUs ≤ d.run)

/-- Contact with the remote partner of a zone is lost (R195, R196). -/
def Dev.loseContact (d : Dev) (n z : Nat) : Dev :=
  let k := d.vidxOf n z
  let roleA := d.eff .SCF_ZONE_CFG_ROLE n z == 0
  let d := (d.raise .SCF_ERR_LOSS n).record 0x0311 4 (recSource n 0) (d.get .SYS_LAYER_NUM_LAYER_NUM) z k 1
  let d := d.occur (193 + 2 * n)
  let d := d.setAbsence n z { d.absence n z with lost := true }
  if roleA then d.partnerAbsent n z k 0xffffffff false else d.selfAbsent n z k

/-- No frame from the remote partner of a zone for LOSS_US, or its leaving, declares contact lost, and the roles alone
decide the remaining shares (R195). -/
def execScarfContactLoss (dt : Nat) (n : Fin 34) (z : Fin 64) (s : State) : Host.Outcome State Fault Refusal :=
  s.act dt (fun d =>
    let a := d.eff .SCF_ZONE_PART_PART_DEV n z
    let b := d.eff .SCF_ZONE_PART_PART_DEV_ALT n z
    d.when (d.zoneOn n z && d.eff .SCF_ZONE_CFG_REMOTE n z == 1 && d.get .SYS_LAYER_STAT_STATE != 8
        && !(d.absence n z).lost && d.lostDevice a && d.lostDevice b)
      (fun d => d.loseContact n z))

end Sys2Proof.Machine
end

