-- ==== Sys2Proof/Machine/KerfCmds.lean ====
section
/-! DEFINITION. The meanings of the kerf commands (R204 to R212): KERF_GRANT, REQUEST_STARVING, REORDER_UNIT,
KERF_HALO_SEND, KERF_HALO, GRANT_ARMED, KERF_PEER_SILENT and FROZEN_CLAIM_EXPIRE. -/

namespace Sys2Proof.Machine

open Sys2Proof

/-- A request is granted: a band record arms for 20 µs and its CLAIM goes out (R204, R209, R211). The hold by GAS_OK ends (R171). -/
def Dev.grantReq (d : Dev) (q : KReq) : Dev :=
  let n := q.eng
  let band := d.inBand q
  let st : KStatus := if band then .arming (d.now + 20 * qUs) else .granted
  let d := if 200 * qNs < d.holdOf q.inst ∧ q.counted = false then d.bump .KRF_CNT_A_HOLDS 1 n else d
  let d := d.put .KRF_CNT_B_MAX_HOLD (max (d.get .KRF_CNT_B_MAX_HOLD n) (min (d.holdOf q.inst / qUs) 0xffff)) n
  let d := d.modReq n q.ser (fun r => { r with status := st, counted := true })
  let d := if band then d.haloNow 0 q else d
  ((d.lower .ENG_GATE_STAT_GAS_HOLD n).showKerf n).showState n

/-- KERF grants an engine's pending request whose path conflicts with no claim and no pending request ahead of it; none
while GAS_OK is low or KERF is out of service, and none in the band while a peer is silent (R35, R37, R204, R212). -/
def execKerfGrant (dt : Nat) (n : Fin 34) (s : State) : Host.Outcome State Fault Refusal :=
  s.act dt (fun d =>
    match d.waitingReq n with
    | some q =>
      if q.status = .pending ∧ d.pins.gasOk = true ∧ d.inService 39 = true ∧ d.blocker q = none ∧
          ¬ (d.inBand q = true ∧ d.get .KRF_STAT_STALE ≠ 0) then d.grantReq q
      else d.showKerf n
    | none => d)

/-- Whether a grant of an engine can still be withdrawn: its record has no final plan, and no blended junction leads into it (R135,
R138, R205). -/
def Dev.uncommitted (d : Dev) (q : KReq) : Bool :=
  let e := d.eng q.eng
  !e.plans.any (fun p => p.r.ser == q.ser)
    && !(e.plans.getLast?.any (fun p => p.blended == some true) && (e.look.find? (fun r => !r.clear)).any (fun r => r.ser == q.ser))

/-- An engine is made to yield to a starving request: its uncommitted grants are withdrawn (R205). -/
def Dev.forceYield (d : Dev) (n starver dev : Nat) : Dev :=
  let qs := d.kerf.reqs.filter (fun q => q.eng == n && q.claim && d.uncommitted q)
  let d := qs.foldl (fun d q => d.withdraw n q.ser) d
  (d.bump .KRF_CNT_A_FORCED 1 n).record 0x0401 2 (recSource 39 63) (d.get .SYS_LAYER_NUM_LAYER_NUM) n starver dev

/-- A request whose hold reaches MAX_HOLD_US becomes starving, and each engine that holds a conflicting claim or grant is
made to yield (R205). -/
def execRequestStarving (dt : Nat) (n : Fin 34) (s : State) : Host.Outcome State Fault Refusal :=
  s.act dt (fun d =>
    match d.waitingReq n with
    | some q =>
      if q.starving = false ∧ d.isStarving q.inst = true then
        let d := d.modReq n q.ser (fun r => { r with starving := true })
        let es := (List.range 34).filter (fun m => d.kerf.reqs.any (fun r => r.eng == m && r.claim && d.reqsConflict q r))
        (es.foldl (fun d m => d.forceYield m n d.ownId) d).showKerf n
      else d
    | none => d)

/-! ### Reordering (R119, R207) -/

/-- The reorderable unit that begins at the head of a list: its records, when it is eligible (R119): all of it and the
JUMP after it are in the look-ahead, in one descriptor, with no SCARF_HATCH. -/
def unitAt : List LRec → Option (List LRec)
  | [] => none
  | j :: rest =>
    if j.cls = 0 ∧ j.reord = true then
      let body := rest.takeWhile (fun r => r.cls != 0)
      let upToEob := body.takeWhile (fun r => !r.eob) ++ (body.dropWhile (fun r => !r.eob)).take 1
      let u := j :: upToEob
      match rest.drop upToEob.length with
      | nxt :: _ => if nxt.cls = 0 ∧ u.all (fun r => r.job == j.job && r.cls != 7) = true then some u else none
      | [] => none
    else none

/-- The eligible units of a look-ahead after its head, in stream order. -/
def unitsOf : List LRec → List (List LRec)
  | [] => []
  | r :: rest => (match unitAt (r :: rest) with | some u => [u] | none => []) ++ unitsOf rest

/-- The first exposure record of a unit as a request now. -/
def Dev.unitReq (d : Dev) (n : Nat) (u : List LRec) : Option KReq :=
  (u.find? (fun r => (r.seg && !r.clear) || r.cls == 5)).map (fun r =>
    { eng := n, ser := r.ser, cls := r.cls, x0 := r.S.x, y0 := r.S.y, x1 := r.E.x, y1 := r.E.y, inst := d.now })

/-- Units that have run ahead of the held record of a serial number (R207). -/
def Engine.unitsOf (e : Engine) (ser : Nat) : Nat := if e.unitSer = ser then e.units else 0

/-- A unit runs ahead of the held record: its records go first, behind markers that stand before the JUMP, and the held request is
suspended (R207). -/
def Dev.runUnit (d : Dev) (n : Nat) (held : KReq) (u : List LRec) (q : KReq) : Dev :=
  let sers := u.map (·.ser)
  let d := d.modReq n held.ser (fun r => { r with status := .suspended })
  let d := d.modEng n (fun e =>
    { e with
      look := e.look.takeWhile LRec.clear ++ u ++ (e.look.dropWhile LRec.clear).filter (fun r => !sers.contains r.ser),
      unitEnd := sers.getLast?, units := e.unitsOf held.ser + 1, unitSer := held.ser })
  let d := d.setReqs (d.kerf.reqs ++ [q])
  (d.bump .KRF_CNT_B_REORDERED 1 n).grantReq q

/-- A request held for REORDER_DELAY_US lets its engine run an eligible unit of the same descriptor whose first exposure
record can be granted at once (R207). -/
def execReorderUnit (dt : Nat) (n : Fin 34) (s : State) : Host.Outcome State Fault Refusal :=
  s.act dt (fun d =>
    match d.waitingReq n with
    | some q =>
      let e := d.eng n
      let look := e.look.filter (fun r => !r.clear)
      let held := e.look.find? (fun r => r.ser == q.ser)
      let afterJump := match look with
        | a :: b :: _ => a.cls == 0 && b.ser == q.ser
        | _ => false
      if afterJump = true ∧ q.status = KStatus.pending ∧ d.isStarving q.inst = false ∧ e.unitEnd.isNone = true ∧
          d.get .KRF_REORDER_REORDER_DELAY_US * qUs ≤ d.holdOf q.inst ∧ e.unitsOf q.ser < d.get .KRF_REORDER_REORDER_MAX ∧
          d.pins.gasOk = true ∧ d.inService 39 = true then
        let us := unitsOf ((e.look.dropWhile (fun r => r.ser != q.ser)).drop 1)
        let mine := us.filter (fun u => (u.head?.map (·.job)) == held.map (·.job))
        let sus := d.modReq n q.ser (fun r => { r with status := .suspended })
        match mine.findSome? (fun u => match d.unitReq n u with
            | some x => if (sus.blocker x).isNone && !(d.inBand x && d.get .KRF_STAT_STALE != 0) then some (u, x) else none
            | none => none) with
        | some (u, x) => d.runUnit n q u x
        | none => d
      else d
    | none => d)

/-! ### Halo (R209 to R212) -/

/-- The halo set of this device: a CLAIM for each band claim, a PENDING for each band request, and END_SET (R209). -/
def Dev.haloSet (d : Dev) : List (List Gran) :=
  let band := d.kerf.reqs.filter (fun q => d.inBand q)
  (band.filter KReq.claim).map (d.haloRecord 0)
    ++ (band.filter (fun q => decide (q.status = .pending))).map (d.haloRecord 1)
    ++ [[0#128, BitVec.ofNat 128 (nsOf d.now * 2 ^ 64 + 3 * 2 ^ 106)]]

/-- At each device-time instant whose nanoseconds field is a multiple of 10,000, each enabled kerf peer is sent the halo
set (R209). -/
def execKerfHaloSend (dt : Nat) (s : State) : Host.Outcome State Fault Refusal :=
  s.act dt (fun d =>
    d.when (d.now % (10 * qUs) == 0 && d.sendsHalo) (fun d =>
      d.kerfPeers.foldl (fun d p => d.haloSet.foldl (fun d g => d.fabSend { kind := 0x12, dst := p, payload := g }) d) d))

/-- The index of an enabled kerf peer. -/
def Dev.kerfPeerIx (d : Dev) (p : Nat) : Option Nat :=
  (List.range 8).find? (fun k => d.flag .KRF_PEER_ENABLE k && d.get .KRF_PEER_PEER_ID k == p)

/-- A peer's complete set, that of one send instant, replaces its previous one, within 256 halo paths; a path sent since stays
(R209, R210). -/
def Dev.closeSet (d : Dev) (p k sent : Nat) : Dev :=
  let mine := d.kerf.incoming.filter (fun h => h.dev == p && h.sent == sent)
  let since := d.kerf.halo.filter (fun h => h.dev == p && decide (sent < h.sent))
  let mine := mine.filter (fun h => !since.any (fun x => x.eng == h.eng && x.inst == h.inst)) ++ since
  let rest := d.kerf.halo.filter (fun h => h.dev != p)
  let d := { d with kerf := { d.kerf with incoming := d.kerf.incoming.filter (fun h => h.dev != p || decide (sent < h.sent)) } }
  if rest.length + mine.length ≤ 256 then
    let d := { d with kerf := { d.kerf with halo := rest ++ mine, lastSet := Tab.set 0 d.kerf.lastSet k d.run,
                                            overflow := d.kerf.overflow.filter (· != k) } }
    d.put .KRF_STAT_STALE (clearBit (d.get .KRF_STAT_STALE) k)
  else
    { d with kerf := { d.kerf with overflow := insertOnce k d.kerf.overflow } }.raise .KRF_STAT_HALO_OVF

/-- A CLAIM or PENDING that goes before an arming grant and conflicts with it withdraws the grant (R211). -/
def Dev.challenge (d : Dev) (h : HPath) : Dev :=
  let qs := d.kerf.reqs.filter (fun q => q.claim && !q.held && d.haloConflict q h && orderBefore (d.keyOfHalo h) (d.keyOf q))
  qs.foldl (fun d q => d.withdraw q.eng q.ser) d

/-- A halo path replaces that of the same engine and request. -/
def putPath (h : HPath) (l : List HPath) : List HPath :=
  l.filter (fun x => !(x.dev == h.dev && x.eng == h.eng && x.inst == h.inst)) ++ [h]

/-- Whether a halo record came within 10 µs of its SENT_NS (R209). -/
def Dev.haloFresh (d : Dev) (sent : Nat) : Bool := decide (d.now ≤ nearestNs d.now sent + 10 * qUs)

/-- The path or request that a halo record of peer `p`, sent at an instant, carries (R209). -/
def haloPathOf (p g0 g1 sent : Nat) : HPath :=
  { dev := p, eng := bitsOf g1 101 96, cls := bitsOf g1 105 102, kind := bitsOf g1 107 106,
    x0 := sInt 32 (bitsOf g0 31 0), y0 := sInt 32 (bitsOf g0 63 32), x1 := sInt 32 (bitsOf g0 95 64),
    y1 := sInt 32 (bitsOf g0 127 96), inst := bitsOf g1 63 0, extra := bitsOf g1 117 108, sent := sent }

/-- A claim (kind 0) of a peer is in force at once, a request (kind 1) with its set; beyond 256 paths it is lost and shown (R209,
R210). -/
def Dev.haloJoin (d : Dev) (k : Nat) (h : HPath) : Dev :=
  let l := putPath h d.kerf.halo
  if h.kind ≠ 0 then d
  else if l.length ≤ 256 then { d with kerf := { d.kerf with halo := l } }
  else { d with kerf := { d.kerf with overflow := insertOnce k d.kerf.overflow } }.raise .KRF_STAT_HALO_OVF

/-- Local engines whose claims a peer's request conflicts with. -/
def Dev.yielders (d : Dev) (h : HPath) : List Nat :=
  (List.range 34).filter (fun m => d.kerf.reqs.any (fun r => r.eng == m && r.claim && d.haloConflict r h))

/-- Whether the engines here have been made to yield to a peer's request already (R205). -/
def Kerf.noted (k : Kerf) (h : HPath) : Bool :=
  (k.halo ++ k.incoming).any (fun x => x.noted && x.dev == h.dev && x.eng == h.eng && x.inst == h.inst)

/-- A halo path or request taken: it may challenge arming grants, and a request of a peer found starving makes local engines yield,
once (R205, R209, R211). -/
def Dev.haloAdd (d : Dev) (p k : Nat) (h : HPath) : Dev :=
  let seen := d.kerf.noted h
  let starves := h.kind == 1 && d.isStarving (resolveTs64 d.now h.inst)
  let h := { h with noted := seen || starves }
  let d := ({ d with kerf := { d.kerf with incoming := putPath h d.kerf.incoming } }.haloJoin k h).challenge h
  d.when (starves && !seen) (fun d => (d.yielders h).foldl (fun d m => d.forceYield m h.eng p) d)

/-- One halo record from a peer (R209). -/
def Dev.haloRec (d : Dev) (p k g0 g1 : Nat) : Dev :=
  let kind := bitsOf g1 107 106
  let sent := nearestNs d.now (bitsOf g1 95 64)
  if !d.haloFresh (bitsOf g1 95 64) then d.bump .KRF_STAT_HALO_LATE
  else if kind = 3 then d.closeSet p k sent
  else if kind = 2 then
    let drop (l : List HPath) : List HPath :=
      l.filter (fun h => !(h.dev == p && h.eng == bitsOf g1 101 96 && h.inst == bitsOf g1 63 0 && decide (h.sent ≤ sent)))
    { d with kerf := { d.kerf with halo := drop d.kerf.halo, incoming := drop d.kerf.incoming } }
  else
    d.haloAdd p k (haloPathOf p g0 g1 sent)

/-- Halo records of a payload, two granules each (R209). -/
def Dev.haloRecs (d : Dev) (p k : Nat) : List Gran → Dev
  | g0 :: g1 :: rest => (d.haloRec p k g0.toNat g1.toNat).haloRecs p k rest
  | _ => d

/-- A kerf halo message from a device: granted traffic of class bit 1 from an enabled peer, age-checked and applied to
the halo paths (R114, R209 to R211). -/
def execKerfHalo (dt : Nat) (dev : Fin 1024) (payload : List Gran) (s : State) : Host.Outcome State Fault Refusal :=
  s.act dt (fun d => d.granting dev 1 none (fun d =>
    match d.kerfPeerIx dev with
    | some k => d.haloRecs dev k payload
    | none => d))

/-- A band grant takes effect 20 µs after KERF decided it (R211). -/
def execGrantArmed (dt : Nat) (n : Fin 34) (s : State) : Host.Outcome State Fault Refusal :=
  s.act dt (fun d =>
    match d.waitingReq n with
    | some q =>
      match q.status with
      | .arming t => if t ≤ d.now then (d.modReq n q.ser (fun r => { r with status := .granted })).showKerf n else d
      | _ => d
    | none => d)

/-- No complete halo set from an enabled peer for STALE_US, or one that did not fit, makes the peer silent and holds
local band requests; a frozen or left peer is not silent (R210, R212). -/
def execKerfPeerSilent (dt : Nat) (k : Fin 8) (s : State) : Host.Outcome State Fault Refusal :=
  s.act dt (fun d =>
    let p := d.get .KRF_PEER_PEER_ID k
    let silent := decide (Tab.get 0 d.kerf.lastSet k + d.eff .KRF_HALO_CFG_STALE_US * qUs ≤ d.run) || d.kerf.overflow.contains k
    d.when (d.flag .KRF_PEER_ENABLE k && silent && !d.peerFrozen p && !d.flag .FAB_ROUTE_LEFT p
        && !hasBit (d.get .KRF_STAT_STALE) k)
      (fun d => (d.put .KRF_STAT_STALE (setBit (d.get .KRF_STAT_STALE) k)).record 0x0402 4 (recSource 39 63)
        (d.get .SYS_LAYER_NUM_LAYER_NUM) p))

/-- A frozen peer's claim path is dropped at its request instant plus 10 ms (R212). -/
def execFrozenClaimExpire (dt : Nat) (dev : Fin 1024) (eng : Fin 34) (s : State) : Host.Outcome State Fault Refusal :=
  s.act dt (fun d =>
    d.when (d.peerFrozen dev) (fun d =>
      { d with kerf := { d.kerf with halo := d.kerf.halo.filter (fun h =>
          !(h.dev == dev.val && h.eng == eng.val &&
            decide (resolveTs64 d.now h.inst + (10 * qMs : Nat) ≤ (d.now : Int)))) } }))

end Sys2Proof.Machine
end

