-- ==== Sys2Proof/Machine/RegWrite.lean ====
section
/-! DEFINITION. Writing a register field by field (R4, R7, R478): ranges, write-one-to-clear bits and the lock of
R455. -/

namespace Sys2Proof.Machine

open Sys2Proof

/-- The instance of a register that starts at an address of the map, if one (R450). -/
def Reg.hit (r : Reg) (a : Nat) : Option (Nat × Nat) :=
  let p := r.place
  if a < p.base then none
  else
    let off := a - p.base
    let i := if p.n1 = 1 then 0 else off / p.s1
    let rest := off - p.s1 * i
    let j := if p.n2 = 1 then 0 else rest / p.s2
    if i < p.n1 ∧ j < p.n2 ∧ rest = p.s2 * j then some (i, j) else none

/-- The register and instance at an address of the map (R450). -/
def regAt (a : Nat) : Option (Reg × Nat × Nat) :=
  match regBlocks.find? (fun b => decide (b.1 ≤ a ∧ a < b.2.1)) with
  | some b => b.2.2.1.findSome? (fun r => (r.hit a).map (fun x => (r, x)))
  | none => none

/-- A register as it reads at an address; an address with no register reads 0 (R454). -/
def Dev.wordAt (d : Dev) (a : Nat) : Nat :=
  match regAt a with
  | some (r, i, j) => d.word r i j
  | none => 0

/-- Whether a value lies in the range of a field's description (R478). -/
def Fld.inRange (f : Fld) (v : Nat) : Bool :=
  match f.range with
  | some (lo, hi) => decide (lo ≤ v ∧ v ≤ hi)
  | none => true

/-- Whether set-up is locked (R455). -/
def Dev.locked (d : Dev) : Bool := d.flag .SYS_LOCK_LOCK

/-- The bits of a field that are reserved in some instances of its register and so keep nothing (R7, R114): CLASS bit 7, and the
upper half of the last coefficient word of a camera context. -/
def Fld.keeps (f : Fld) (j v : Nat) : Nat :=
  if f = .WIN_GRANT_CFG_CLASS then v % 2 ^ 7
  else if f = .CAM_CTX_CCM_C_HI ∧ j = 4 then 0
  else v

/-- One field of a register write (R4, R456, R478). A write-only field keeps nothing: its effect is a command's. -/
def Dev.writeField (d : Dev) (f : Fld) (value i j : Nat) : Dev :=
  let v := f.keeps j (f.of value)
  let set (d : Dev) : Dev := if f.inRange v then d.put f v i j else d.reject f.reg i
  match f.acc with
  | .ro => d
  | .wo => d
  | .w1c => d.put f (d.get f i j - Nat.land (d.get f i j) v) i j
  | .rw => set d
  | .rwl => if d.locked then d else set d

/-- A whole register write. -/
def Dev.writeReg (d : Dev) (r : Reg) (i j value : Nat) : Dev :=
  r.fields.foldl (fun d f => d.writeField f value i j) d

/-- Whether a write would change a locked field (R456). -/
def Dev.breaksLock (d : Dev) (r : Reg) (i j value : Nat) : Bool :=
  d.locked && r.fields.any (fun f => f.acc == .rwl && f.inRange (f.of value) && f.of value != d.get f i j)

end Sys2Proof.Machine
end

