-- ==== Sys2Proof/Machine/GrainCmds.lean ====
section
/-! DEFINITION. The meanings of the grain-map commands (R223, R233 to R238): GRN_GEOM_WRITE, GRAIN_HALO_SEND,
GRAIN_HALO, GRAIN_PEER_SILENT, GRN_SAVE and GRN_LOAD. -/

namespace Sys2Proof.Machine

open Sys2Proof

/-- The register of GRN_GEOM_WRITE: 0 GRN_GEOM, 1 GRN_ORIGIN_X, 2 GRN_ORIGIN_Y. -/
def grnGeomReg (k : Nat) : Reg := if k = 0 then .GRN_GEOM else if k = 1 then .GRN_ORIGIN_X else .GRN_ORIGIN_Y

/-- A write to the map's geometry: only in layer state 8, and then every cell becomes 0 (R223). What waited for the next halo set named
cells of the map before, and goes with them (DESIGN CHOICE). -/
def Dev.writeGeom (d : Dev) (r : Reg) (value : Nat) : Dev :=
  if d.get .SYS_LAYER_STAT_STATE ≠ 8 then d.reject r
  else
    let d' := d.writeReg r 0 0 value
    if r.fields.any (fun f => f.inRange (f.of value)) then
      { d' with grain := { d'.grain with cells := [], bad := [], changed := [], adds := [] } }
    else d'

/-- A host write to GRN_GEOM or an origin (R223). -/
def execGrnGeomWrite (dt : Nat) (k : Fin 3) (value : Word) (s : State) : Host.Outcome State Fault Refusal :=
  s.act dt (fun d => d.byFn 0 (fun d => d.writeGeom (grnGeomReg k) value.toNat))

/-! ### Halo (R233 to R235) -/

/-- The band cells of one row, ascending. -/
def Dev.bandRow (d : Dev) (row : Nat) : List Nat :=
  let y := d.gets .GRN_ORIGIN_Y_ORIGIN + (row * d.grnPitch : Nat)
  if d.effs .GRN_OWN_Y0_EDGE ≤ y ∧ y < d.effs .GRN_OWN_Y1_EDGE then
    (rangeFrom (row * d.grnCols) d.grnCols).filter d.inOwnBand
  else []

/-- The next band cells from an index on, row by row and round the map, at most `need` of them. -/
def Dev.bandFrom (d : Dev) : Nat → Nat → Nat → List Nat
  | 0, _, _ => []
  | fuel + 1, k, need =>
    if need = 0 then []
    else
      let row := k / d.grnCols
      let here := ((d.bandRow row).filter (fun c => decide (k ≤ c))).take need
      here ++ d.bandFrom fuel ((row + 1) % d.grnRows * d.grnCols) (need - here.length)

/-- The cells of the rotating refresh (R233). -/
def Dev.refreshCells (d : Dev) : List Nat :=
  (d.bandFrom (d.grnRows + 1) (d.grain.refresh % 2 ^ 21) 64).foldl (fun l k => insertOnce k l) []

/-- The enabled grain peers. -/
def Dev.grainPeers (d : Dev) : List Nat :=
  ((List.range 8).filter (fun k => d.flag .GRN_PEER_ENABLE k)).map (fun k => d.get .GRN_PEER_PEER_ID k)

/-- The runs of a halo set and the device after it: at most 1,024 cells, the rest waiting for the next set (R232, R233). -/
def Dev.grainSet (d : Dev) : List (List Gran) × Dev :=
  let changed := d.grain.changed.take 1024
  let fresh := (d.refreshCells.filter (fun k => !changed.contains k)).take (1024 - changed.length)
  let e := d.cellErrors (fun k => changed.contains k || fresh.contains k)
  let word (k : Nat) : Nat × Nat := (k, e.heatAt k (d.grnTick d.now))
  let adds := d.grain.adds.take (1024 - changed.length - fresh.length)
  let lateCells := (d.grain.changed.length - changed.length) + (d.grain.adds.length - adds.length)
  let runs (kind : Nat) (l : List (Nat × Nat)) : List (List Gran) :=
    (groupRuns d.grnCols l).map (fun r => d.runOf kind r.1 r.2)
  let out := runs 0 (changed.map word) ++ runs 0 (fresh.map word) ++ runs 1 (adds.map (fun a => (a.1, a.2 % 65536)))
    ++ [d.runOf 2 0 []]
  let next := match fresh.getLast? with
    | some k => (k + 1) % 2 ^ 21
    | none => d.grain.refresh
  let g := { e.grain with changed := d.grain.changed.drop 1024, adds := d.grain.adds.drop adds.length, refresh := next }
  (out, { e with grain := g }.bump .GRN_HALO_CNT_DEFER lateCells)

/-- At each device-time instant whose nanoseconds field is a multiple of 10,000, each enabled grain peer is sent the halo
set: SET runs, ADD runs and END (R233). -/
def execGrainHaloSend (dt : Nat) (s : State) : Host.Outcome State Fault Refusal :=
  s.act dt (fun d =>
    d.when (d.now % (10 * qUs) == 0 && d.sendsHalo && d.inService 38 && !d.grainPeers.isEmpty) (fun d =>
      let peers := d.grainPeers
      let set := d.grainSet
      peers.foldl (fun d p => set.1.foldl (fun d g => d.fabSend { kind := 0x13, dst := p, payload := g }) d) set.2))

/-- One cell of a received run (R235). -/
def Dev.haloCell (d : Dev) (kind : Nat) (col row : Int) (v tick : Nat) : Dev :=
  if 0 ≤ col ∧ col < d.grnCols ∧ 0 ≤ row ∧ row < d.grnRows then
    let k := row.toNat * d.grnCols + col.toNat
    if kind = 0 ∧ d.inOwn k = false then d.setCell k (cellWord v tick)
    else if kind = 1 ∧ d.inOwn k = true ∧ d.flag .GRN_CFG_ENABLE = true then d.depositCell k v
    else d
  else d

/-- The cells of a received run, along +X. -/
def Dev.haloCells (d : Dev) (kind : Nat) (row : Int) (tick : Nat) : Int → List Nat → Dev
  | _, [] => d
  | col, v :: vs => (d.haloCell kind col row (v % 65536) tick).haloCells kind row tick (col + 1) vs

/-- One run from the grain peer of an index, or its END (R235). -/
def Dev.haloRun (d : Dev) (ix h : Nat) (words : List Nat) : Dev :=
  let sent := nearestNs d.now (bitsOf h 127 96)
  let kind := bitsOf h 73 72
  if sent + 10 * qUs < d.now then d.bump .GRN_HALO_CNT_LATE
  else if kind = 2 then
    ({ d with grain := { d.grain with lastEnd := Tab.set 0 d.grain.lastEnd ix d.run } }).put .GRN_STAT_STALE
      (clearBit (d.get .GRN_STAT_STALE) ix)
  else
    let x := sInt 32 (bitsOf h 31 0) - d.gets .GRN_ORIGIN_X_ORIGIN
    let y := sInt 32 (bitsOf h 63 32) - d.gets .GRN_ORIGIN_Y_ORIGIN
    let p : Int := (d.grnPitch : Nat)
    if x % p ≠ 0 ∨ y % p ≠ 0 then d.raise .GRN_STAT_MISALIGN
    else d.haloCells kind (y / p) (d.grnTick sent) (x / p) (words.take (bitsOf h 71 64))

/-- The runs of a payload: a header granule and four cell words in each granule after it (R234). -/
def Dev.haloRuns (d : Dev) (ix : Nat) : Nat → List Gran → Dev
  | 0, _ => d
  | _, [] => d
  | fuel + 1, g :: rest =>
    let n := ceilDiv (bitsOf g.toNat 71 64) 4
    (d.haloRun ix g.toNat (runWords (rest.take n))).haloRuns ix fuel (rest.drop n)

/-- A grain halo message from a device: granted traffic of class bit 0 from an enabled grain peer; deposits of the same instant come
first (R36, R114, R235). -/
def execGrainHalo (dt : Nat) (dev : Fin 1024) (payload : List Gran) (s : State) : Host.Outcome State Fault Refusal :=
  s.act dt (fun d => d.granting dev 0 none (fun d =>
    match (List.range 8).find? (fun k => d.flag .GRN_PEER_ENABLE k && d.get .GRN_PEER_PEER_ID k == dev.val) with
    | some ix => d.when (d.inService 38) (fun d =>
        (if d.now % qUs = 0 then d.depositAll else d).haloRuns ix (payload.length + 1) payload)
    | none => d))

/-- A grain peer that sends no END for STALE_US becomes silent; a frozen or left peer does not (R235). -/
def execGrainPeerSilent (dt : Nat) (k : Fin 8) (s : State) : Host.Outcome State Fault Refusal :=
  s.act dt (fun d =>
    let p := d.get .GRN_PEER_PEER_ID k
    d.when (d.flag .GRN_PEER_ENABLE k && !d.peerFrozen p && !d.flag .FAB_ROUTE_LEFT p
        && decide (Tab.get 0 d.grain.lastEnd k + d.get .GRN_HALO_CFG_STALE_US * qUs ≤ d.run))
      (fun d => d.put .GRN_STAT_STALE (setBit (d.get .GRN_STAT_STALE) k)))

/-! ### Grain-map descriptors (R238) -/

/-- The cells a grain-map descriptor names, when its rows lie in the map and GRAIN is in service; else its code. -/
def Dev.grnRange (d : Dev) (j : Job) : Except Nat (Nat × Nat) :=
  let row0 := j.bits 207 192
  let rows := j.bits 223 208
  if d.grnRows < row0 + rows then .error 0x0190
  else if d.inService 38 = false then .error 0x0290
  else .ok (row0 * d.grnCols, rows * d.grnCols)

/-- Stored words of cells as bytes; a word with an uncorrectable error is written as 0 (R238). -/
def Dev.savedCells (d : Dev) (k0 n : Nat) : List Byte :=
  (rangeFrom k0 n).flatMap (fun k => leBytes 4 (if d.grain.bad.contains k then 0 else d.cell k))

/-- GRN_SAVE writes the stored words of its rows to host memory, without decay (R238). -/
def execGrnSave (dt : Nat) (job : Nat) (s : State) : Host.Outcome State Fault Refusal :=
  s.act dt (fun d => d.withJob job 0x48 (fun d j =>
    match d.grnRange j with
    | .error code => d.complete j.id code
    | .ok (k0, n) =>
      let saved (k : Nat) : Bool := decide (k0 ≤ k ∧ k < k0 + n)
      let bs := d.savedCells k0 n
      (d.cellErrors saved).saveTo j j.addr bs (if d.grain.bad.any saved then 0x0591 else 0)))

/-- GRN_LOAD reads words from host memory into the cells of its rows, in layer state 8 only (R238). -/
def execGrnLoad (dt : Nat) (job : Nat) (s : State) : Host.Outcome State Fault Refusal :=
  s.act dt (fun d => d.withJob job 0x49 (fun d j =>
    match d.grnRange j with
    | .error code => d.complete j.id code
    | .ok (k0, n) =>
      if d.get .SYS_LAYER_STAT_STATE ≠ 8 then d.complete j.id 0x0390
      else
        let ws := runWords (j.data.getD [])
        let d := (rangeFrom k0 n).foldl (fun d k => (d.setCell k (ws.getD (k - k0) 0)).noteCell k) d
        d.complete j.id 0))

end Sys2Proof.Machine
end

