-- ==== Sys2Proof/Machine/VeneerCmds.lean ====
section
/-! DEFINITION. The meanings of the veneer commands: tile descriptors and slots (R244 to R258), and the tile link, string
failures, probes, stop-outs and deposits of the drive (R264 to R277). -/

namespace Sys2Proof.Machine

open Sys2Proof

/-! ### Small parts -/

/-- A record of VENEER about a tile. -/
def Dev.tileRecord (d : Dev) (t code sev : Nat) (p1 : Nat := 0) (p2 : Nat := 0) (p3 : Nat := 0) : Dev :=
  d.record code sev (recSource 42 t) t p1 p2 p3

/-- The SAFE_STOP state (R170): every engine shows it. -/
def Dev.inSafeStop (d : Dev) : Bool := d.flag .ENG_GATE_STAT_SAFE_STOP 0

/-- No light for a safety stop or a thermal stop (R257, R414). -/
def Dev.tilesStopped (d : Dev) : Bool := d.inSafeStop || d.get .THM_STAT_STATE == 3

/-- Device time of an instant given in `run` quanta. -/
def Dev.atRun (d : Dev) (r : Nat) : Int := (d.now : Int) + r - d.run

/-- Quanta of a tile's slot and line. -/
def Dev.slotQ (d : Dev) (t : Nat) : Nat := (d.timing t).period * qTick
def Dev.lineQ (d : Dev) (t : Nat) : Nat := (d.timing t).line * qTick

/-- A slot of a tile is running. -/
def Dev.slotRuns (d : Dev) (t : Nat) : Bool :=
  (d.tile t).slot0.isSome && d.attached t && (d.tile t).attachJob.isNone

/-- Every frame of a tile's queue completes: the one in progress with a code if one is given, a frame with a missed slot
with 0x03A0, the others with 0x0202 (R86, R245, R251, R258). -/
def Dev.endFrames (d : Dev) (t : Nat) (code : Option Nat) : Dev :=
  let x := d.tile t
  let cur := d.frameNow t
  let d := d.modTile t (fun x => { x with queue := [], left := none, missed := [] })
  x.queue.foldl (fun d id =>
    d.complete id ((lowCode (if cur = some id then code else none)
      (if x.missed.contains id then some 0x03a0 else none)).getD 0x0202)) d

/-- A tile is detached: its frames and its detach end (R253, R269, R275). -/
def Dev.dropTile (d : Dev) (t : Nat) (code : Option Nat) : Dev :=
  let x := d.tile t
  let d := d.endFrames t code
  let d := match x.detachJob with
    | some id => d.complete id 0
    | none => d
  d.detachTile t

/-! ### VNR_FRAME, VNR_ATTACH, VNR_DETACH -/

/-- The code of a frame that a tile takes but does not queue (R245, R255, R257, R414). -/
def Dev.frameCode (d : Dev) (t : Nat) : Option Nat :=
  lowest [
    (!d.attached t, 0x0202), (d.get .VNR_STAT_STATE t == 4, 0x02a1), (d.inSafeStop, 0x02a3),
    (d.get .THM_STAT_STATE == 3, 0x02fc)]

/-- The cause for which VNR_ATTACH refuses a tile, lowest first (R242, R243, R249, R250). -/
def Dev.attachErr (d : Dev) (t : Nat) : Nat :=
  let st := d.get .VNR_STAT_STATE t
  let q := d.demandOf ((List.range 16).filter (fun u => u == t || d.attached u))
  if d.flag .VNR_TILE_CFG_COMPAT t && !(d.timing t).compatOk then 1
  else if d.get .VNR_TILE_CFG_FORMAT t == 3 || !d.bandsOk t then 2
  else if 32768 < d.frameBytes t then 3
  else if 5300000000 * q.2 < q.1 then 4
  else if (st ≠ 0 ∧ st ≠ 4) ∨ (d.tile t).attachJob.isSome = true then 6
  else 0

/-- The probe step of a tile in ticks (R272). -/
def Dev.probeStep (d : Dev) (t : Nat) : Nat := (d.timing t).blanking / (2 * d.get .VDR_CFG_STR_LEN t + 2)

/-- The words of CONFIG: W, K, DIM_TICKS, CEN_LEAD, PWM_BITS, the phase of each string and the stop-out list (R266). -/
def Dev.configWords (d : Dev) (t : Nat) : List Nat :=
  [(d.windowOf t).2, d.cyclesOf t, d.get .VDR_DIM_DIM_TICKS t, d.get .VDR_DIM_CEN_LEAD t, d.get .VDR_DIM_PWM_BITS t]
    ++ (List.range (d.get .VNR_TILE_CFG_BANDS t * d.spb t)).map (d.phaseOf t)
    ++ ((List.range 64).filter (d.flag .VDR_STOP_VALID t ·)).flatMap (fun k =>
        [d.get .VDR_STOP_STRING t k, d.get .VDR_STOP_POSITION t k])

/-- An accepted attach whose link is up: the path is fixed, the counts since attach cleared, CONFIG sent, and slot 0 placed
at the next tick (R246, R263, R270, R272). -/
def Dev.attachNow (d : Dev) (t : Nat) : Dev :=
  let d := (List.range 24).foldl (fun d k => d.put .VDR_STRFAIL_FAILED 0 t k) d
  let d := (d.lower .VDR_STAT_STRFAIL_ANY t).putB .VDR_STAT_PATH_NOW (d.pwmWanted t) t
  let step := d.probeStep t
  let d := ((d.put .VDR_PROBE_STEP step t).putB .VDR_STAT_PROBE_OFF (decide (step < 20)) t).put .VDR_PROBE_SUSPECT 0 t
  let d := (((d.put .VDR_CNT_SWEEPS 0 t).put .VDR_CNT_VDEV_CNT 0 t).put .VNR_SLOT_SLOT 0 t).put .VNR_STAT_ATT_ERR 0 t
  let d := if step < 20 then d.tileRecord t 0x0605 3 else d
  let wait := (qTick - d.now % qTick) % qTick
  let d := d.modTile t (fun x => { x with slot0 := some (d.run + wait) })
  d.sendTile t 5 0 0 0 (d.configWords t)

/-- VNR_ATTACH (R246, R250). -/
def execVnrAttach (dt : Nat) (job : Nat) (s : State) : Host.Outcome State Fault Refusal :=
  s.act dt (fun d => d.withJob job 0x51 (fun d j =>
    let t := j.target - 0x40
    let err := d.attachErr t
    if err ≠ 0 then
      let d := d.put .VNR_STAT_ATT_ERR err t
      let d := if err ≠ 6 ∧ d.attached t = true then d.dropTile t none else d
      d.complete job 0x02a2
    else
      let d := d.begin' j
      let d := d.modTile t (fun x => { x with
        attachJob := some job, attachAt := d.run, slot0 := none, queue := [], left := none, missed := [], cur := none,
        next := none, blank := true, endCode := none, lastSig := none, sigRun := 0, missRun := 0, late := none, dark := [],
        darkNext := [], sweepCount := 0, vdev := false, sweeping := false, swept := false })
      if d.flag .VDR_STAT_LINK_UP t then d.attachNow t else d))

/-- 10 ms after an attach without a link (R250). -/
def execAttachLinkTimeout (dt : Nat) (t : Fin 16) (s : State) : Host.Outcome State Fault Refusal :=
  s.act dt (fun d =>
    let x := d.tile t.val
    match x.attachJob with
    | some id =>
      if x.slot0.isNone ∧ d.flag .VDR_STAT_LINK_UP t.val = false ∧ x.attachAt + 10 * qMs ≤ d.run then
        let d := (d.put .VNR_STAT_ATT_ERR 5 t.val).dropTile t.val none
        d.complete id 0x02a2
      else d
    | none => d)

/-- VNR_DETACH: once every earlier descriptor of its ring to the tile has completed, the tile blanks, and is detached at the end of its
slot (R253). -/
def execVnrDetach (dt : Nat) (job : Nat) (s : State) : Host.Outcome State Fault Refusal :=
  s.act dt (fun d => d.withJob job 0x52 (fun d j =>
    let t := j.target - 0x40
    d.when (d.earlierDone j) (fun d =>
      let d := ((d.begin' j).blankTile t).modTile t (fun x => { x with detachJob := some job })
      if d.slotRuns t then d else d.dropTile t none)))

/-! ### Slots (R246, R251, R252, R255) -/

/-- Whether a frame's first slot may start at an instant of device time (R251). -/
def Dev.frameDue (d : Dev) (id : Nat) (start : Int) : Bool :=
  match d.job id with
  | some j => j.schedule == 0 || decide (resolveTs64 d.now j.schedule ≤ start)
  | none => false

/-- Whether a frame waits for its phase (R252, R479). -/
def Dev.frameWaits (d : Dev) (id : Nat) : Bool :=
  match d.job id with
  | some j => d.gatedOff j
  | none => false

/-- Whether a slot's LINE_DATA fits in the active line periods of the slot before it: 6.25 characters in a tick, 22 about
each packet's words and 2 for the line sync (R266). -/
def Dev.lineFits (d : Dev) (t : Nat) : Bool :=
  decide (4 * (24 + 2 * d.get .VNR_TILE_CFG_BANDS t * (d.timing t).w) ≤ 25 * (d.timing t).line)

/-- The frame for the slot after the one that starts now: the one that goes on, or the next of the queue that is due; with
whether that slot is its first (R251). -/
def Dev.frameFor (d : Dev) (t : Nat) : Option (Nat × Bool) :=
  let x := d.tile t
  let due := d.atRun x.start + d.slotQ t
  let first (q : List Nat) : Option (Nat × Bool) :=
    match q.head? with
    | some id => if d.frameDue id due then some (id, true) else none
    | none => none
  match x.left with
  | some n => if x.cur.isSome ∧ n ≤ 1 then first x.queue.tail else x.queue.head?.map (fun id => (id, false))
  | none => first x.queue

/-- The deadline of the next slot: its frame is sent, or is late (R246, R251). -/
def Dev.chooseNext (d : Dev) (t : Nat) : Dev :=
  match d.frameFor t with
  | none => d.modTile t (fun x => { x with next := none, late := none })
  | some (id, first) =>
    match (d.job id).bind (·.data) with
    | some gs =>
      if d.lineFits t then
        let sd := d.slotData t id first (granBytes gs)
        d.modTile t (fun x => { x with next := some sd, late := none })
      else d.modTile t (fun x => { x with next := none, late := some id })
    | none => d.modTile t (fun x => { x with next := none, late := some id })

/-- VNR_FRAME: the frame joins the tile's queue; one that comes in the instant in which a slot starts meets that deadline (R244, R245,
R246, R251). -/
def execVnrFrame (dt : Nat) (job : Nat) (s : State) : Host.Outcome State Fault Refusal :=
  s.act dt (fun d => d.withJob job 0x50 (fun d j =>
    let t := j.target - 0x40
    match d.frameCode t with
    | some c => d.complete job c
    | none =>
      let d := (d.begin' j).modTile t (fun x => { x with queue := x.queue ++ [job] })
      let x := d.tile t
      if d.slotRuns t && x.start == d.run && x.next.isNone && x.late.isNone then d.chooseNext t else d))

/-- The check of a signature when the last line has been sent (R254, R255). -/
def Dev.sendDone (d : Dev) (t : Nat) : Dev :=
  let x := d.tile t
  match x.next with
  | none => d
  | some sd =>
    if sd.checked then d
    else
      let changing := ((d.job sd.job).map (fun j => j.bits 208 208)).getD 0
      let same := x.lastSig == some sd.sig
      let max := d.get .VNR_FRZ_STATIC_MAX t
      let rule :=
        if sd.first && changing == 1 && same then 1
        else if max ≠ 0 ∧ sd.emitting = true ∧ max < (if same then x.sigRun + 1 else 1) then 2 else 0
      let d := (d.put .VNR_SIG_SIG sd.sig t).modTile t (fun x => { x with next := some { sd with checked := true, failed := rule } })
      if rule = 0 ∨ d.get .VNR_STAT_STATE t = 4 then d
      else (((d.put .VNR_STAT_STATE 4 t).raise .VNR_STAT_FREEZE t).tileRecord t 0x0602 4 rule sd.sig).occur (272 + 2 * t)

/-- The last line of a slot's data has been sent: ACT_H line periods into the slot before it (R246, R255). -/
def execFrameSendDone (dt : Nat) (t : Fin 16) (s : State) : Host.Outcome State Fault Refusal :=
  s.act dt (fun d =>
    d.when (d.slotRuns t.val && decide ((d.tile t.val).start + (d.timing t.val).h * d.lineQ t.val ≤ d.run))
      (fun d => d.sendDone t.val))

/-- The end of a slot: a shown slot counts toward REPEAT and the deposits, and a frame whose last slot or whose time has
ended completes (R251, R257). -/
def Dev.slotEnd (d : Dev) (t : Nat) : Dev :=
  let x := d.tile t
  let left := if x.cur.isSome then x.left.map (· - 1) else x.left
  let ends := x.left.isSome && (left == some 0 || x.endCode.isSome)
  let d := d.modTile t (fun y => { y with
    left := if ends then none else left, endCode := none, cur := none,
    queue := if ends then x.queue.tail else x.queue, shown := if x.cur.isSome then x.shown + 1 else x.shown })
  if ends then
    match x.queue.head? with
    | some id =>
      let c := lowCode x.endCode (if x.missed.contains id then some 0x03a0 else none)
      (d.modTile t (fun y => { y with missed := y.missed.filter (· != id) })).complete id (c.getD 0)
    | none => d
  else d

/-- Whether a slot that starts now is held (R51, R252). -/
def Dev.slotHeld (d : Dev) (t : Nat) : Bool :=
  let st := d.get .SYS_LAYER_STAT_STATE
  st == 9 || st == 10 || d.layer.rebase || d.layer.rebaseSweep || d.flag .SYS_ISL_STAT_HOLDOVER 42 || d.get .THM_STAT_STATE == 2 || !d.pins.gasOk
    || (match (d.tile t).queue.head? with
        | some id => d.frameWaits id
        | none => false)

/-- Frames that are due and may run in the present state complete unexecuted, in queue order. -/
def Dev.flushFrames (d : Dev) (t code : Nat) : List Nat → Dev
  | [] => d
  | id :: rest =>
    if d.frameWaits id || !d.frameDue id (d.atRun (d.tile t).start) then d
    else Dev.flushFrames ((d.modTile t (fun x => { x with queue := x.queue.filter (· != id), left := none })).complete id code)
      t code rest

/-- Every frame of a frozen raster completes: the failing one with 0x05A1, or the lower code of a stop, the others with 0x02A1 (R255,
R258). -/
def Dev.flushFroze (d : Dev) (t : Nat) : Dev :=
  let x := d.tile t
  let bad := match x.next with
    | some sd => if sd.failed = 0 then none else some sd.job
    | none => none
  let d := d.modTile t (fun x => { x with queue := [], left := none, missed := [], next := none, late := none })
  let code := if d.inSafeStop then 0x03a1 else if d.tilesStopped then 0x03fc else 0x05a1
  x.queue.foldl (fun d id => d.complete id (if bad = some id then code else 0x02a1)) d

/-- A slot whose frame missed its deadline is blank (R251). -/
def Dev.missSlot (d : Dev) (t id : Nat) : Dev :=
  let waiting := ((d.job id).bind (·.data)).isNone
  let d := d.modTile t (fun x => { x with
    missed := insertOnce id x.missed, missRun := if waiting then x.missRun else x.missRun + 1 })
  let d := ((d.put .VNR_STAT_STATE 1 t).bump .VNR_CNT_MISSED 1 t).raise .VNR_STAT_MISSED_ANY t
  (d.tileRecord t 0x0601 3 (d.get .VNR_SLOT_SLOT t)).occur (272 + 2 * t)

/-- The frame sent for this slot is shown (R251). -/
def Dev.showSlot (d : Dev) (t : Nat) (sd : SlotData) : Dev :=
  let rep := ((d.job sd.job).map (fun j => j.bits 207 192)).getD 1
  let d := d.modTile t (fun x => { x with
    cur := some sd, left := if sd.first then some rep else x.left, missRun := 0,
    sigRun := if sd.emitting then (if x.lastSig = some sd.sig then x.sigRun + 1 else 1) else x.sigRun,
    lastSig := if sd.emitting then some sd.sig else x.lastSig })
  (d.modJob sd.job (fun j => { j with partly := true, progress := j.progress + 1 })).put .VNR_STAT_STATE 2 t

/-- What the slot that starts now shows. -/
def Dev.slotBody (d : Dev) (t : Nat) : Dev :=
  let d := d.sendDone t
  let x := d.tile t
  if d.get .VNR_STAT_STATE t = 4 then d.flushFroze t
  else if d.tilesStopped then
    (d.put .VNR_STAT_STATE 5 t).flushFrames t (if d.inSafeStop then 0x02a3 else 0x02fc) x.queue
  else if d.slotHeld t then d.put .VNR_STAT_STATE 3 t
  else
    match x.next, x.late, x.queue.head? with
    | some sd, _, _ => d.showSlot t sd
    | none, some id, _ => d.missSlot t id
    | none, none, some id =>
      if d.frameDue id (d.atRun x.start) && ((d.job id).map (·.schedule)).getD 0 != 0 then d.missSlot t id
      else (d.put .VNR_STAT_STATE 1 t).modTile t (fun x => { x with missRun := 0 })
    | none, none, none => (d.put .VNR_STAT_STATE 1 t).modTile t (fun x => { x with missRun := 0 })

/-- The state of a slot at its start: FRAME_SYNC goes out, and the tile's kerf-dark sites stay as DARK packets have set them (R256,
R266). -/
def Dev.freshSlot (d : Dev) (t start : Nat) : Dev :=
  d.modTile t (fun x => { x with start := start, line := 0, blank := false, swept := false, chars := [0x1bc, 0x1c] })

/-- A slot of a tile starts (R246, R251). -/
def Dev.slotStart (d : Dev) (t : Nat) : Dev :=
  let x := d.tile t
  match x.attachJob, x.slot0 with
  | some id, some s0 =>
    if s0 ≤ d.run then
      let d := (d.freshSlot t s0).modTile t (fun x => { x with attachJob := none, sweepCount := 0 })
      ((d.put .VNR_STAT_STATE 1 t).showBw.complete id 0).chooseNext t
    else d
  | none, some _ =>
    let start := x.start + d.slotQ t
    if start ≤ d.run then
      let d := d.slotEnd t
      if x.detachJob.isSome then
        let d := match x.late with
          | some id => d.missSlot t id
          | none => d
        d.dropTile t none
      else
        let d := (d.freshSlot t start).put .VNR_SLOT_SLOT ((d.get .VNR_SLOT_SLOT t + 1) % 2 ^ 32) t
        let d := d.modTile t (fun x => { x with sweepCount := x.sweepCount + 1 })
        (d.slotBody t).chooseNext t
    else d
  | _, none => d

/-- VENEER_SLOT_START (R251). -/
def execVeneerSlotStart (dt : Nat) (t : Fin 16) (s : State) : Host.Outcome State Fault Refusal :=
  s.act dt (fun d => d.slotStart t.val)

/-- A tile attached through an outage of VENEER restarts at a blank slot 0 (R441). -/
def Dev.restartTile (d : Dev) (t : Nat) : Dev :=
  if (d.tile t).reattach then
    let wait := (qTick - d.now % qTick) % qTick
    let d := d.freshSlot t (d.run + wait)
    let d := d.modTile t (fun x => { x with
      reattach := false, slot0 := some (d.run + wait), sweepCount := 0, lastSig := none, sigRun := 0, missRun := 0,
      dark := [], darkNext := [] })
    ((d.put .VNR_SLOT_SLOT 0 t).sendTile t 5 0 0 0 (d.configWords t)).chooseNext t
  else d

/-- Every attached tile blanks for a stop of all light; its frame in progress ends with a code at the end of its slot
(R257, R414). -/
def Dev.stopTiles (d : Dev) (code : Nat) : Dev :=
  (List.range 16).foldl (fun d t =>
    if d.slotRuns t then
      let d := (d.blankTile t).modTile t (fun x => { x with
        endCode := if (d.frameNow t).isSome then lowCode x.endCode (some code) else x.endCode, sweeping := false })
      if d.get .VNR_STAT_STATE t = 4 then d else d.put .VNR_STAT_STATE 5 t
    else d) d

/-- A tile of a frozen function blanks and takes no further frame: it is left detached, its descriptors to the freeze, and its
deposits stop (R106, R258, R277). -/
def Dev.freezeTile (d : Dev) (t : Nat) : Dev := (d.modTile t (fun x => { x with shown := 0, energy := [] })).detachTile t

/-! ### Line periods (R256) and energy (R276) -/

/-- Sites with KERF_PART whose zero-length path conflicts with a claim in force (R256). -/
def Dev.kerfDark (d : Dev) (t : Nat) (parts : List Nat) : List Nat :=
  let tol := max (d.get .VNR_PITCH_PITCH_X t) (d.get .VNR_PITCH_PITCH_Y t) * 1000
  parts.filter (fun i =>
    let p := d.siteAt t i
    d.kerf.reqs.any (fun r => r.claim && d.pathsConflict p p r.a r.b ((tol + d.tolOf r.eng : Nat) : Int))
      || d.kerf.halo.any (fun h => h.kind == 0
          && d.pathsConflict p p h.a h.b ((tol + h.extra * 1000 + d.haloMargin : Nat) : Int)))

/-- Open ticks of a line period of the shown slot, added per emitter (R276). -/
def Dev.addEnergy (d : Dev) (t : Nat) (sd : SlotData) (line : Nat) : Dev :=
  let x := d.timing t
  let w := d.windowOf t
  let sites := if x.mux then rangeFrom (line * x.w) x.w else List.range x.sites
  let lo := if x.mux then 0 else line * x.line - w.1
  let hi := if x.mux then w.2 else min ((line + 1) * x.line - w.1) w.2
  let dark := (d.tile t).dark
  let bands := List.range (d.get .VNR_TILE_CFG_BANDS t)
  let add := sites.flatMap (fun i => if dark.contains i then [] else
    bands.filterMap (fun b =>
      let sq := d.stringOf t i b
      let word := d.wordOf t sd i b
      if word = 0 ∨ d.strFailed t sq.1 = true ∨ d.stopped t sq.1 sq.2 = true then none
      else
        let n := d.openTicks t sq.1 word lo hi
        if n = 0 then none else some (4 * i + b, n)))
  d.modTile t (fun y => { y with energy := add.foldl (fun e a => Tab.set 0 e a.1 (Tab.get 0 e a.1 + a.2)) y.energy })

/-- One line period of a slot starts (R256); in the boundary window and the barrier wait a slot that runs blanks from it (R50,
R252). -/
def Dev.linePeriod (d : Dev) (t : Nat) : Dev :=
  let st := d.get .SYS_LAYER_STAT_STATE
  let y := d.timing t
  let l := (d.tile t).line
  if y.fsync + y.fsettle + y.h ≤ l ∨ d.run < (d.tile t).start + l * d.lineQ t then d
  else
    let d := d.modTile t (fun x => { x with line := l + 1, blank := x.blank || st == 9 || st == 10 })
    let d := d.lineSync t l
    let x := d.tile t
    match x.cur with
    | none => d
    | some sd =>
      if x.blank then d
      else
        let dark := x.darkNext
        let next := d.kerfDark t sd.parts
        let moved := next.filter (fun i => !dark.contains i) ++ dark.filter (fun i => !next.contains i)
        let d := d.modTile t (fun x => { x with dark := dark, darkNext := next })
        let d := if moved.isEmpty then d else d.sendTile t 2 0 0 0 moved
        let d := if dark.isEmpty then d else d.bump .VNR_CNT_KERF_DARK 1 t
        if y.fsync + y.fsettle ≤ l ∧ d.flag .VDR_CFG_GRN_DEP t = true then d.addEnergy t sd (l - y.fsync - y.fsettle) else d

/-- VENEER_LINE_PERIOD (R256). -/
def execVeneerLinePeriod (dt : Nat) (t : Fin 16) (s : State) : Host.Outcome State Fault Refusal :=
  s.act dt (fun d => d.when (d.slotRuns t.val) (fun d => d.linePeriod t.val))

/-- The deposit of one site: its energy with the carry, in steps of HEAT_LSB (R276). -/
def Dev.siteDeposit (d : Dev) (t i : Nat) (ticks : Tab Nat) : Dev :=
  let e := (List.range 3).foldl (fun n b => n + d.get .VDR_FS_FS_MW t b * 5 * Tab.get 0 ticks (4 * i + b)) 0
  if e = 0 then d
  else
    let p := d.siteAt t i
    if d.inService 38 then
      let num := e + (d.tile t).carry
      let den := max (d.get .GRN_CFG_HEAT_LSB_UJ * 1000000) 1
      let d := d.modTile t (fun x => { x with carry := num % den })
      d.depositAt p.1 p.2 (num / den)
    else
      d.modTile t (fun x => { x with dropBox := some (match x.dropBox with
        | some b => (min b.1 p.1, max b.2.1 p.1, min b.2.2.1 p.2, max b.2.2.2 p.2)
        | none => (p.1, p.1, p.2, p.2)) })

/-- The sites of an energy table, ascending. -/
def energySites (e : Tab Nat) : List Nat := (e.map (fun p => p.1 / 4)).eraseDups

/-- VENEER_DEPOSIT: every DEP_SLOTS shown slots, behind the engines' deposits of the same instant (R36, R276). -/
def execVeneerDeposit (dt : Nat) (t : Fin 16) (s : State) : Host.Outcome State Fault Refusal :=
  s.act dt (fun d =>
    let x := d.tile t.val
    d.when (d.flag .VDR_CFG_GRN_DEP t.val && d.flag .GRN_CFG_ENABLE && decide (d.get .VDR_CFG_DEP_SLOTS t.val ≤ x.shown)
        && !d.tilesStopped)
      (fun d =>
        let d := (if d.now % qUs = 0 then d.depositAll else d).modTile t.val (fun x => { x with shown := 0, energy := [] })
        (energySites x.energy).foldl (fun d i => d.siteDeposit t.val i x.energy) d))

/-! ### Faults of a tile -/

/-- LINE_BUFFER_ECC_ERROR: the slot is blank, the frame ends with 0x05A2, and VENEER's fault handling begins
(R258, R438). -/
def execLineBufferEccError (dt : Nat) (t : Fin 16) (s : State) : Host.Outcome State Fault Refusal :=
  s.act dt (fun d =>
    let x := d.tile t.val
    let hit := match d.frameNow t.val, x.next with
      | some id, _ => some id
      | none, some sd => some sd.job
      | none, none => none
    let d := d.blankTile t.val
    let d := match hit with
      | some id => (d.modTile t.val (fun x => { x with
          queue := x.queue.filter (· != id), left := none, cur := none, next := none,
          missed := x.missed.filter (· != id) })).complete id 0x05a2
      | none => d
    d.unitFault 42 1 0)

/-- A tile's link faults (R269). -/
def Dev.loseTileLink (d : Dev) (t : Nat) : Dev :=
  let d := (d.lower .VDR_STAT_LINK_UP t).raise .VDR_STAT_LINK_FAULT t
  let d := d.modTile t (fun x => { x with good := 0, sent := [], chars := [] })
  let d := (d.tileRecord t 0x0603 4).occur (273 + 2 * t)
  if d.attached t then d.dropTile t (some 0x05b1) else d

/-- 20 µs without a good STATUS (R269). -/
def execTileLinkFault (dt : Nat) (t : Fin 16) (s : State) : Host.Outcome State Fault Refusal :=
  s.act dt (fun d =>
    d.when (d.flag .VDR_STAT_LINK_UP t.val && decide ((d.tile t.val).lastStatus + 20 * qUs ≤ d.run)) (fun d => d.loseTileLink t))

/-! ### The back lane (R268 to R273) -/

/-- A packet of the back lane: a bad one is counted, and breaks a run of good STATUS packets (R268, R269). -/
def Dev.onPacket (d : Dev) (t typ : Nat) (packet : List Byte) (f : Dev → Nat → List Byte → Dev) : Dev :=
  match backPacket packet with
  | none => (d.bump .VDR_LINK_ERR_RX_BAD 1 t).modTile t (fun x => { x with good := 0 })
  | some (h, payload) => if h % 16 = typ then f d h payload else d

/-- Whether a STATUS shows the tile's geometry (R269). -/
def Dev.statusFits (d : Dev) (t h : Nat) : Bool :=
  decide (bitsOf h 15 6 = d.get .VNR_TILE_CFG_BANDS t * d.spb t ∧ bitsOf h 21 16 = d.get .VDR_CFG_STR_LEN t
    ∧ bitsOf h 23 22 = d.get .VNR_TILE_CFG_BANDS t)

/-- A good STATUS (R269). -/
def Dev.goodStatus (d : Dev) (t h : Nat) : Dev :=
  let d := ((d.put .VDR_CAP_STRINGS (bitsOf h 15 6) t).put .VDR_CAP_STR_LEN (bitsOf h 21 16) t).put .VDR_CAP_BANDS
    (bitsOf h 23 22) t
  let d := d.put .VDR_CAP_PHASE_CAP (bitOf h 5) t
  let fits := d.statusFits t h
  let ok := fits && hasBit h 4 && bitsOf h 27 24 == t
  let d := d.modTile t (fun x => { x with lastStatus := d.run, good := if ok then x.good + 1 else 0 })
  let d := if fits then d else
    let d := d.raise .VDR_STAT_CAP_MISMATCH t
    if d.attached t then d else d.lower .VDR_STAT_LINK_UP t
  if !d.flag .VDR_STAT_LINK_UP t && decide (16 ≤ (d.tile t).good) then
    let d := d.raise .VDR_STAT_LINK_UP t
    if (d.tile t).attachJob.isSome ∧ (d.tile t).slot0.isNone = true then d.attachNow t else d
  else d

/-- TILE_STATUS (R268, R269). -/
def execTileStatus (dt : Nat) (t : Fin 16) (packet : List Byte) (s : State) : Host.Outcome State Fault Refusal :=
  s.act dt (fun d => d.onPacket t.val 1 packet (fun d h _ => d.goodStatus t.val h))

/-- TILE_ALARM: the string is failed (R270). -/
def execTileAlarm (dt : Nat) (t : Fin 16) (packet : List Byte) (s : State) : Host.Outcome State Fault Refusal :=
  s.act dt (fun d => d.onPacket t.val 2 packet (fun d h _ =>
    let s := bitsOf h 49 40
    let d := d.bump .VDR_LINK_ERR_ALARMS 1 t.val
    let d := d.put .VDR_STRFAIL_FAILED (setBit (d.get .VDR_STRFAIL_FAILED t.val (s / 32)) (s % 32)) t.val (s / 32)
    let d := d.modTile t.val (fun x => if x.sweeping then { x with sweepSkip := insertOnce s x.sweepSkip } else x)
    ((d.raise .VDR_STAT_STRFAIL_ANY t.val).tileRecord t.val 0x0603 4 s).occur (273 + 2 * t.val)))

/-- 16-bit words of a payload. -/
def words16 : List Byte → List Nat
  | a :: b :: rest => (a.toNat + 256 * b.toNat) :: words16 rest
  | _ => []

/-- On-times in ticks of the emitters of a string that are open in the present window (R271). -/
def Dev.openNow (d : Dev) (t s : Nat) : List Nat :=
  match (d.tile t).cur with
  | none => []
  | some sd =>
    let y := d.timing t
    let line := (d.tile t).line - 1 - y.fsync - y.fsettle
    let ts := (List.range (d.get .VDR_CFG_STR_LEN t)).filterMap (fun q =>
      match d.emitterAt t s q with
      | none => none
      | some (i, b) =>
        if (d.tile t).dark.contains i ∨ d.stopped t s q = true ∨ (y.mux = true ∧ i / max y.w 1 ≠ line) then none
        else
          let w := d.wordOf t sd i b
          some (if d.flag .VDR_STAT_PATH_NOW t then w * (d.windowOf t).2 / 2 ^ d.get .VDR_DIM_PWM_BITS t else w))
    ts.filter (· != 0)

/-- The in-line check of one sampled string (R271). -/
def Dev.checkVolt (d : Dev) (t s lead on : Nat) : Dev :=
  let ts := d.openNow t s
  let n : Int := ts.length
  let b := s / max (d.spb t) 1
  let dev := ((on : Int) - lead - n * d.eff .VDR_VF_VF_RUN t b).natAbs
  if ts ≠ [] ∧ ts.all (fun x => decide (80 ≤ x)) = true ∧ n * d.eff .VDR_VF_VTOL t b < dev then
    let d := ((d.raise .VDR_STAT_VDEV t).bump .VDR_CNT_VDEV_CNT 1 t).tileRecord t 0x0605 3 s
    d.modTile t (fun x => { x with vdev := true })
  else d

/-- The strings of a VOLT packet. -/
def Dev.checkVolts (d : Dev) (t : Nat) : List Nat → Dev
  | s :: lead :: on :: rest => Dev.checkVolts (d.checkVolt t s lead on) t rest
  | _ => d

/-- TILE_VOLT (R268, R271). -/
def execTileVolt (dt : Nat) (t : Fin 16) (packet : List Byte) (s : State) : Host.Outcome State Fault Refusal :=
  s.act dt (fun d => d.onPacket t.val 3 packet (fun d _ payload => d.checkVolts t.val (words16 payload)))

/-- Whether a probe sweep is due in this slot's blanking (R272). -/
def Dev.sweepDue (d : Dev) (t : Nat) : Bool :=
  let x := d.tile t
  d.slotRuns t && !x.swept && !d.flag .VDR_STAT_PROBE_OFF t && !d.tilesStopped
    && (x.vdev || x.sweepCount % 64 == 0) && decide (d.run < x.start + (d.timing t).blanking * qTick)

/-- PROBE_SWEEP: a PROBE is sent (R266, R272). Emitter voltages written since the last sweep take effect. -/
def execProbeSweep (dt : Nat) (t : Fin 16) (s : State) : Host.Outcome State Fault Refusal :=
  s.act dt (fun d => d.when (d.sweepDue t.val) (fun d =>
    let d := d.latchWhere (fun c => c.fld.reg == .VDR_VF && c.i == t.val)
    let d := d.bump .VDR_CNT_SWEEPS 1 t.val
    let d := d.modTile t.val (fun x => { x with
      sweepCount := if x.vdev then 0 else x.sweepCount, vdev := false, sweeping := true, swept := true, sweepSkip := [] })
    d.sendTile t.val 4 0 0 0 [d.get .VDR_PROBE_STEP t.val]))

/-- A confirmed emitter is stopped out; the 65th faults the tile (R273, R275). -/
def Dev.stopOut (d : Dev) (t s q i b c1 c2 : Nat) : Dev :=
  let k := d.get .VDR_STAT_STOPPED t
  if k = 64 then
    let d := d.tileRecord t 0x0604 5
    if d.attached t then d.dropTile t (some 0x05b0) else d
  else
    let d := ((d.put .VDR_STOP_SITE i t k).put .VDR_STOP_SLOT b t k).raise .VDR_STOP_VALID t k
    let d := ((d.put .VDR_STOP_STRING s t k).put .VDR_STOP_POSITION q t k).put .VDR_STAT_STOPPED (k + 1) t
    ((d.sendTile t 3 0 s q []).tileRecord t 0x0603 4 s q (c1 + c2 * 256)).occur (273 + 2 * t)

/-- Whether a Δ code is outside the limits; 0xFF was not measured (R268, R273). -/
def Dev.suspectCode (d : Dev) (t b c : Nat) : Bool :=
  c != 0xff && (decide (c < d.eff .VDR_VF_VF_MIN t b) || decide (d.eff .VDR_VF_VF_MAX t b < c))

/-- One position of a probed string (R273). -/
def Dev.probePos (d : Dev) (t s q c1 c2 : Nat) : Dev :=
  match d.emitterAt t s q with
  | none => d
  | some (i, b) =>
    if !d.attached t || d.stopped t s q then d
    else
      let a := d.suspectCode t b c1
      let c := d.suspectCode t b c2
      if a && c then d.stopOut t s q i b c1 c2
      else if a || c then d.bump .VDR_PROBE_SUSPECT 1 t
      else d

/-- The strings of a PROBE_RESULT: a word and two passes of codes each (R268). `n` bounds the strings. -/
def Dev.probeStrings (d : Dev) (t : Nat) (payload : List Byte) : Nat → Dev
  | 0 => d
  | n + 1 =>
    let len := d.get .VDR_CFG_STR_LEN t
    if payload.length < 2 + 2 * len then d
    else
      let s := ofLeBytes (payload.take 2)
      let cs := ((payload.drop 2).take (2 * len)).map (·.toNat)
      let d :=
        if (d.tile t).sweepSkip.contains s || d.strFailed t s then d
        else (List.range len).foldl (fun d q => d.probePos t s q (cs.getD q 255) (cs.getD (len + q) 255)) d
      Dev.probeStrings d t (payload.drop (2 + 2 * len)) n

/-- PROBE_RESULT (R268, R273, R277). -/
def execProbeResult (dt : Nat) (t : Fin 16) (packet : List Byte) (s : State) : Host.Outcome State Fault Refusal :=
  s.act dt (fun d => d.onPacket t.val 4 packet (fun d _ payload =>
    d.when (d.tile t.val).sweeping (fun d =>
      (d.probeStrings t.val payload 768).modTile t.val (fun x => { x with sweeping := false, sweepSkip := [] }))))

/-- CLEAR of VDR_STOP_CTL: empties the list of a detached tile (R275). -/
def Dev.clearStops (d : Dev) (t : Nat) : Dev :=
  if d.attached t then d.raise .VDR_STAT_CFG_REJ t
  else (d.resetWhere (fun c => c.fld.reg == .VDR_STOP && c.i == t)).put .VDR_STAT_STOPPED 0 t

/-- STOP_LIST_CLEAR (R275). -/
def execStopListClear (dt : Nat) (t : Fin 16) (s : State) : Host.Outcome State Fault Refusal :=
  s.act dt (fun d => d.byFn 0 (fun d => d.clearStops t.val))

end Sys2Proof.Machine
end

