-- ==== Sys2Proof/Machine/AxisCmds.lean ====
section
/-! DEFINITION. The meanings of the axis commands (R278 to R294): moves, homing, stops, limits, ticks, the coil loop, stalls
and coil faults. -/

namespace Sys2Proof.Machine

open Sys2Proof

/-! ### Taking (R282, R283, R286, R292, R302) -/

/-- The axis is energised and not in FAULT (R283, R289). -/
def Dev.axisReady (d : Dev) (a : Nat) : Bool := d.flag .AX_CFG_ENABLE a && d.get .AX_STAT_STATE a != 6

/-- Whether an opcode is one of the encoder's (R302). -/
def encOp (op : Nat) : Bool := decide (0x5c ≤ op ∧ op ≤ 0x5e)

/-- Whether a descriptor is an immediate one (R282, R302). -/
def Job.immediate (j : Job) : Bool :=
  encOp j.opcode || decide (j.opcode = 0x5a ∨ j.opcode = 0x5b ∨ (j.opcode = 0x58 ∧ j.bits 184 184 = 1))

/-- Whether the limits of an AX_LIMITS lie in their ranges beside the values in force (R285, R286). -/
def Dev.limitsOk (d : Dev) (a : Nat) (l : AxLims) : Bool :=
  decide (1 ≤ l.vmax ∧ l.vmax ≤ 8388607 ∧ 1 ≤ l.accel ∧ 1 ≤ l.decel ∧ 1 ≤ l.jerk ∧ l.decel ≤ d.get .AX_EDEC_VALUE a
    ∧ l.jerk ≤ d.get .AX_EJERK_VALUE a)

/-- The limits that next come into force, or those in force. -/
def Dev.nextLims (d : Dev) (a : Nat) : AxLims :=
  match (d.axis a).fresh, (d.axis a).latched with
  | some l, _ => l
  | none, some l => l
  | none, none => d.axLims a

/-- The limits of an AX_LIMITS; a field of 0 keeps the value in force (R281). -/
def Dev.limitsOf (d : Dev) (a : Nat) (j : Job) : AxLims :=
  let l := d.nextLims a
  let keep (x y : Nat) : Nat := if x = 0 then y else x
  { vmax := keep (j.bits 151 128) l.vmax, accel := keep (j.bits 191 160) l.accel, decel := keep (j.bits 223 192) l.decel,
    jerk := keep (j.bits 255 224) l.jerk }

/-- The codes with which an axis or its encoder turns a descriptor away; the lowest applies (R86, R283, R286, R292, R302,
R414). -/
def Dev.axisCode (d : Dev) (j : Job) : Option Nat :=
  let a := j.target - 0x50
  let op := j.opcode
  let t := sInt 32 (j.bits 159 128)
  lowest [
    (op == 0x58 && !(decide (d.gets .AX_SOFT_MIN_POS a ≤ t ∧ t ≤ d.gets .AX_SOFT_MAX_POS a)), 0x01c0),
    (op == 0x58 && d.flag .AX_CFG_REQ_HOMED a && !d.flag .AX_STAT_HOMED a, 0x02c0),
    (op == 0x59 && (d.flag .AX_CFG_MODE a || decide (d.get .AX_HOME_SPD_HOME_SPEED a < d.get .AX_LA_VMIN_LA_VMIN a)), 0x01c1),
    (op == 0x5b && !d.limitsOk a (d.limitsOf a j), 0x0107),
    (!encOp op && !d.axisReady a, 0x02c1),
    (!encOp op && d.inSafeStop, 0x02c2),
    (d.get .THM_STAT_STATE == 3, 0x02fc),
    (encOp op && !d.flag .ENC_CFG_ENABLE a, 0x02c8),
    (op == 0x5e && !d.flag .AX_CFG_ENABLE a, 0x02c9)]

/-- A descriptor that an axis takes: turned away with its code, or executed. -/
def Dev.axisJob (d : Dev) (job op : Nat) (f : Dev → Job → Nat → Dev) : Dev :=
  d.withJob job op (fun d j =>
    match d.axisCode j with
    | some c => d.complete job c
    | none => f d j (j.target - 0x50))

/-- A new move is held: the AXIS island is in holdover (R30). -/
def Dev.moveHeld (d : Dev) (j : Job) : Bool := j.opcode == 0x58 && d.flag .SYS_ISL_STAT_HOLDOVER 43

/-- Whether a descriptor changes the motion. -/
def Job.motion (j : Job) : Bool := decide (j.opcode = 0x58 ∨ j.opcode = 0x5a)

/-- An immediate descriptor waits for the next tick; during homing only AX_STOP is taken (R282), in holdover no move (R30), and on the
emergency ramp, which overrides every move, neither (R286). -/
def Dev.takeImm (d : Dev) (j : Job) (a : Nat) : Dev :=
  if ((d.axis a).home ≠ .none ∧ j.opcode ≠ 0x5a) ∨ d.moveHeld j = true ∨ ((d.axis a).emergency = true ∧ j.motion = true) then d
  else (d.begin' j).modAxis a (fun x => { x with imm := x.imm ++ [j.id] })

/-- Whether the axis may take a move or a homing: none is in execution, no emergency ramp runs, and its island is not in holdover (R30,
R282, R286). -/
def Dev.moveFree (d : Dev) (a : Nat) : Bool :=
  (d.axis a).job.isNone && (d.axis a).stopJob.isNone && (d.axis a).home == .none && !(d.axis a).emergency
    && !d.flag .SYS_ISL_STAT_HOLDOVER 43 && d.inService 43

/-- Limits written to the registers that show the values in force (R285). -/
def Dev.putLims (d : Dev) (a : Nat) (l : AxLims) : Dev :=
  (((d.put .AX_VMAX_V_MAX l.vmax a).put .AX_ACCEL_VALUE l.accel a).put .AX_DECEL_VALUE l.decel a).put .AX_JERK_VALUE l.jerk a

/-- Latched limits apply at the start of a move (R285). -/
def Dev.unlatch (d : Dev) (a : Nat) : Dev :=
  match (d.axis a).latched with
  | some l => ((d.putLims a l).modAxis a (fun x => { x with latched := none })).lower .AX_STAT_LATCHED a
  | none => d

/-- AX_MOVE: a move starts, or a retarget waits for the next tick (R281 to R284). -/
def execAxMove (dt : Nat) (job : Nat) (s : State) : Host.Outcome State Fault Refusal :=
  s.act dt (fun d => d.axisJob job 0x58 (fun d j a =>
    if j.bits 184 184 = 1 then d.takeImm j a
    else if d.moveFree a then
      let d := (d.begin' j).unlatch a
      let d := d.runTo a (sInt 32 (j.bits 159 128)) (j.bits 183 160)
      (d.modAxis a (fun x => { x with job := some job, endCode := 0 })).put .AX_STAT_STATE 2 a
    else d))

/-- AX_HOME: toward the stop at HOME_SPEED (R292). -/
def execAxHome (dt : Nat) (job : Nat) (s : State) : Host.Outcome State Fault Refusal :=
  s.act dt (fun d => d.axisJob job 0x59 (fun d j a =>
    if d.moveFree a then
      let up := j.bits 128 128 == 1
      let d := ((d.begin' j).unlatch a).unhome a
      let p := microsteps (d.axisKin a).p
      let way : Int := 2 ^ 40
      let d := d.runTo a (if up then p + way else p - way) (d.get .AX_HOME_SPD_HOME_SPEED a)
      (d.modAxis a (fun x => { x with
        job := some job, endCode := 0, home := .seeking, homeUp := up, homeFrom := p, stallRun := 0 })).put .AX_STAT_STATE 3 a
    else d))

/-- AX_STOP (R281, R284). -/
def execAxStop (dt : Nat) (job : Nat) (s : State) : Host.Outcome State Fault Refusal :=
  s.act dt (fun d => d.axisJob job 0x5a (fun d j a => d.takeImm j a))

/-- AX_LIMITS (R281, R285). -/
def execAxLimits (dt : Nat) (job : Nat) (s : State) : Host.Outcome State Fault Refusal :=
  s.act dt (fun d => d.axisJob job 0x5b (fun d j a => d.takeImm j a))

/-- ENC_CMP, ENC_CMP_STOP and ENC_SYNC are immediate (R302). -/
def execEncCmp (dt : Nat) (job : Nat) (s : State) : Host.Outcome State Fault Refusal :=
  s.act dt (fun d => d.axisJob job 0x5c (fun d j a => d.takeImm j a))

def execEncCmpStop (dt : Nat) (job : Nat) (s : State) : Host.Outcome State Fault Refusal :=
  s.act dt (fun d => d.axisJob job 0x5d (fun d j a => d.takeImm j a))

def execEncSync (dt : Nat) (job : Nat) (s : State) : Host.Outcome State Fault Refusal :=
  s.act dt (fun d => d.axisJob job 0x5e (fun d j a => d.takeImm j a))

/-! ### The compare (R302 to R304) -/

/-- An armed compare ends with a code. -/
def Dev.endCompare (d : Dev) (e code : Nat) : Dev :=
  match (d.enc e).cmp with
  | some c => ((d.modEnc e (fun x => { x with cmp := none })).lower .ENC_STAT_ARMED e).complete c.job code
  | none => d

/-- ENC_CMP acts: a compare is armed (R302). -/
def Dev.armCompare (d : Dev) (e : Nat) (j : Job) : Dev :=
  let d := d.endCompare e 0x03c8
  let hits := j.bits 207 192
  let spacing := j.bits 190 160
  let c : Cmp := { job := j.id, value := sInt 32 (j.bits 159 128), spacing := spacing, rising := j.bits 191 191 == 0,
                   hits := if spacing = 0 then some 1 else if hits = 0 then none else some hits }
  let d := ((d.modEnc e (fun x => { x with cmp := some c })).raise .ENC_STAT_ARMED e).puts .ENC_CMP_VAL_VALUE c.value e
  (d.put .ENC_CMP_CNT_HITS_DONE 0 e).put .ENC_CMP_CNT_BEHIND_SKIP 0 e

/-- The following reference is taken (R300). -/
def Dev.takeRef (d : Dev) (a : Nat) : Dev :=
  (d.modEnc a (fun x => { x with cRef := d.gets .ENC_COUNT_VALUE a, pRef := d.gets .AX_POS_VALUE a, followRun := 0 })).raise
    .ENC_STAT_REF_VALID a

/-! ### The tick (R279, R282, R284, R285) -/

/-- The move, homing or stop in execution is replaced (R284, R292). -/
def Dev.replaceMove (d : Dev) (a : Nat) : Dev :=
  let x := d.axis a
  let d := d.modAxis a (fun x => { x with job := none, stopJob := none, home := .none, endCode := 0 })
  (x.job.toList ++ x.stopJob.toList).foldl (fun d id => d.complete id 0x03c0) d

/-- A retarget or a stop acts (R284). -/
def Dev.actMotion (d : Dev) (a : Nat) (j : Job) : Dev :=
  let d := d.replaceMove a
  let d :=
    if j.opcode = 0x5a then (d.runStop a).modAxis a (fun x => { x with stopJob := some j.id })
    else (d.runTo a (sInt 32 (j.bits 159 128)) (j.bits 183 160)).modAxis a (fun x => { x with job := some j.id })
  d.put .AX_STAT_STATE 2 a

/-- One immediate descriptor acts; `last` says that no later one of the same tick changes the motion (R282, R294). -/
def Dev.actImm (d : Dev) (a : Nat) (last : Bool) (j : Job) : Dev :=
  if j.opcode = 0x5c then d.armCompare a j
  else if j.opcode = 0x5d then (d.endCompare a 0x03c8).complete j.id 0
  else if j.opcode = 0x5e then (d.takeRef a).complete j.id 0
  else if j.opcode = 0x5b then
    let l := d.limitsOf a j
    (d.modAxis a (fun x => { x with fresh := some l })).complete j.id 0
  else if last then d.actMotion a j else d.complete j.id 0x03c0

/-- The immediate descriptors of an axis act in the order in which it took them. -/
def Dev.actImms (d : Dev) (a : Nat) : List Job → Dev
  | [] => d
  | j :: rest => Dev.actImms (d.actImm a (!rest.any Job.motion) j) a rest

/-- New limits at a tick: applied, or latched in the final deceleration, or where they would put a target now beyond the stopping
distance within it (R285). An axis that runs past its target or away from it takes them at once (DESIGN CHOICE). -/
def Dev.newAxisLims (d : Dev) (a : Nat) : Dev :=
  let x := d.axis a
  match x.fresh with
  | none => d
  | some l =>
    let d := d.modAxis a (fun x => { x with fresh := none })
    let t := d.axisTime a
    let k := d.axisKin a
    let way := x.target * fineP - k.p
    let stop := ((k.run (stopSegs l k)).p - k.p)
    let now := ((k.run (stopSegs (d.axLims a) k)).p - k.p)
    if x.segs = [] ∨ d.axisRests a = true then d.putLims a l
    else if x.finalAt ≤ t then
      (d.modAxis a (fun x => { x with latched := some l })).raise .AX_STAT_LATCHED a
    else if 0 ≤ way * stop ∧ now.natAbs ≤ way.natAbs ∧ way.natAbs < stop.natAbs then
      (d.modAxis a (fun x => { x with latched := some l, finalAt := t })).raise .AX_STAT_LATCHED a
    else (d.putLims a l).runTo a x.target x.vlim

/-- Commanded position and speed as registers show them at a tick; STEP pulses of step-and-direction mode (R278, R279,
R293). -/
def Dev.showAxis (d : Dev) (a : Nat) : Dev :=
  let k := d.axisKin a
  let old := d.gets .AX_POS_VALUE a
  let p := microsteps k.p
  let d := (d.puts .AX_POS_VALUE p a).puts .AX_VEL_VALUE (roundHalfUp k.v fineV.toNat) a
  if d.flag .AX_CFG_MODE a then
    let sh : Int := 2 ^ d.get .AX_CFG_SD_SHIFT a
    let n := p / sh - old / sh
    d.modAxis a (fun x => { x with steps := n.natAbs, dirUp := if n = 0 then x.dirUp else decide (0 < n) })
  else d

/-- The following check of a tick (R300). -/
def Dev.followTick (d : Dev) (a : Nat) : Dev :=
  if d.flag .ENC_STAT_REF_VALID a && d.flag .ENC_CFG_FOLLOW_EN a then
    let x := d.enc a
    let way := sInt 32 (uInt 32 (d.gets .AX_POS_VALUE a - x.pRef))
    let dev := d.gets .ENC_COUNT_VALUE a - (x.cRef + (way * d.get .ENC_SCALE_NUM a).tdiv (d.get .ENC_SCALE_DEN a))
    let dev := sInt 32 (uInt 32 dev)
    let over' := decide (d.get .ENC_LIM_FOLLOW_LIM a < dev.natAbs)
    (d.puts .ENC_DEV_VALUE dev a).modEnc a (fun x => { x with followRun := if over' then x.followRun + 1 else 0 })
  else d

/-- One axis at a tick. -/
def Dev.tickAxis (d : Dev) (a : Nat) : Dev :=
  let js := (d.axis a).imm.filterMap d.job
  let d := d.modAxis a (fun x => { x with imm := (js.filter d.moveHeld).map (·.id) })
  let d := d.actImms a (js.filter (fun j => !d.moveHeld j))
  let d := (d.newAxisLims a).showAxis a
  let d :=
    if d.get .AX_STAT_STATE a = 4 ∧ d.axisRests a = true then
      (d.modAxis a (fun x => { x with emergency := false, restSince := d.run, holding := true })).put .AX_STAT_STATE 1 a
    else d
  d.followTick a

/-- Whether now is a tick of a period in ns of device time. -/
def Dev.atTick (d : Dev) (ns : Nat) : Bool := d.now % (ns * qNs) == 0

/-- AXIS_TICK: every axis, at each instant whose nanoseconds are a multiple of 10,000 (R279). -/
def execAxisTick (dt : Nat) (s : State) : Host.Outcome State Fault Refusal :=
  s.act dt (fun d => d.when (d.atTick 10000 && d.inService 43) (fun d => (List.range 8).foldl (fun d a => d.tickAxis a) d))

/-! ### Moves and homing end (R281, R292) -/

/-- The axis rests: standstill begins (R290). -/
def Dev.standstill (d : Dev) (a : Nat) : Dev :=
  let p := microsteps (d.axisKin a).p
  let d := d.modAxis a (fun x => { x with
    p0 := p * fineP, v0 := 0, a0 := 0, t0 := d.run, segs := [], target := p, restSince := d.run, holding := false,
    home := .none, job := none, stopJob := none, endCode := 0 })
  ((d.puts .AX_POS_VALUE p a).put .AX_VEL_VALUE 0 a).put .AX_STAT_STATE 1 a

/-- The position becomes HOME_POS, and the axis is homed (R292, R300). -/
def Dev.homed (d : Dev) (a : Nat) : Dev :=
  let p := d.gets .AX_HOME_POS_VALUE a
  let d := d.modAxis a (fun x => { x with p0 := p * fineP, target := p })
  ((d.puts .AX_POS_VALUE p a).raise .AX_STAT_HOMED a).takeRef a

/-- A move, stop or homing that has come to rest completes (R281, R292). -/
def Dev.moveDone (d : Dev) (a : Nat) : Dev :=
  let x := d.axis a
  let st := d.get .AX_STAT_STATE a
  if d.axisRests a = false then d
  else if st = 2 then
    let d := d.standstill a
    let d := match x.stopJob with
      | some id => d.complete id 0
      | none => d
    match x.job with
    | some id => d.complete id x.endCode
    | none => d
  else if st = 3 ∧ (x.home = .backing ∨ x.home = .ending) then
    let d := d.standstill a
    let d := if x.home = .backing then d.homed a else d
    match x.job with
    | some id => d.complete id (if x.home = .backing then 0 else 0x03c2)
    | none => d
  else d

/-- AXIS_MOVE_DONE, at a tick (R281). -/
def execAxisMoveDone (dt : Nat) (a : Fin 8) (s : State) : Host.Outcome State Fault Refusal :=
  s.act dt (fun d => d.when (d.atTick 10000) (fun d => d.moveDone a.val))

/-- 20 ms against the stop: back off (R292). -/
def execHomePressDone (dt : Nat) (a : Fin 8) (s : State) : Host.Outcome State Fault Refusal :=
  s.act dt (fun d =>
    let x := d.axis a.val
    d.when (decide (x.home = .pressing ∧ x.pressed + 20 * qMs ≤ d.run)) (fun d =>
      let p := microsteps (d.axisKin a.val).p
      let back : Int := d.get .AX_HOME_BACK_BACKOFF a.val
      (d.runTo a.val (if x.homeUp then p - back else p + back) (d.get .AX_HOME_SPD_HOME_SPEED a.val)).modAxis a.val
        (fun x => { x with home := .backing })))

/-- No stop within HOME_MAX: a normal stop (R292). -/
def execHomeNoStop (dt : Nat) (a : Fin 8) (s : State) : Host.Outcome State Fault Refusal :=
  s.act dt (fun d =>
    let x := d.axis a.val
    let max := d.get .AX_HOME_MAX_VALUE a.val
    let way := (d.axisKin a.val).p - x.homeFrom * fineP
    d.when (decide (x.home = .seeking ∧ max ≠ 0 ∧ max * fineP.toNat ≤ way.natAbs)) (fun d =>
      (d.runStop a.val).modAxis a.val (fun x => { x with home := .ending })))

/-- HOLD_DELAY_MS at rest: the standstill current (R290). -/
def execHoldDelayExpire (dt : Nat) (a : Fin 8) (s : State) : Host.Outcome State Fault Refusal :=
  s.act dt (fun d =>
    let x := d.axis a.val
    d.when (d.axisRests a.val && decide (x.restSince + d.get .AX_LA_HOLD_DELAY_MS a.val * qMs ≤ d.run))
      (fun d => d.modAxis a.val (fun x => { x with holding := true })))

/-! ### Stops of the axis (R286, R289, R291, R301) -/

/-- The move, homing and stop in execution end with a code, and immediate descriptors taken with another. -/
def Dev.endMoves (d : Dev) (a code imm : Nat) : Dev :=
  let x := d.axis a
  let d := d.modAxis a (fun x => { x with job := none, stopJob := none, imm := [], home := .none, endCode := 0 })
  let d := (x.job.toList ++ x.stopJob.toList).foldl (fun d id => d.complete id code) d
  x.imm.foldl (fun d id => d.complete id imm) d

/-- The effects of a stall outside homing (R291, R301); retargets acting at the tick end with it (R294). -/
def Dev.stallEffects (d : Dev) (a code : Nat) : Dev :=
  let x := d.axis a
  let isMove (id : Nat) : Bool := ((d.job id).map (fun j => j.opcode == 0x58)).getD false
  let d := (d.axisFreeze a).unhome a
  let d := (d.modAxis a (fun x => { x with
    job := none, stopJob := none, endCode := 0, home := .none, stallRun := 0, imm := x.imm.filter (fun id => !isMove id) })).put
    .AX_STAT_STATE 5 a
  (x.job.toList ++ x.stopJob.toList ++ x.imm.filter isMove).foldl (fun d id => d.complete id code) d

/-- A record of the axis: position, angle or deviation, kind. -/
def Dev.axisRecord (d : Dev) (a : Nat) (what : Int) (kind : Nat) : Dev :=
  d.record 0x0701 4 (recSource 43 a) (d.get .AX_POS_VALUE a) (p32 what) kind

/-- STALL (R291, R292): STALL_TICKS periods that meet the rule. -/
def execStall (dt : Nat) (a : Fin 8) (s : State) : Host.Outcome State Fault Refusal :=
  s.act dt (fun d =>
    let x := d.axis a.val
    let st := d.get .AX_STAT_STATE a.val
    d.when (decide (d.get .AX_CFG_STALL_TICKS a.val ≤ x.stallRun)) (fun d =>
      if st = 3 ∧ x.home = .seeking then
        (d.axisFreeze a.val).modAxis a.val (fun x => { x with home := .pressing, pressed := d.run, stallRun := 0 })
      else if st = 2 ∨ st = 4 then
        let delta := d.gets .AX_ELEC_DELTA a.val
        let d := (d.stallEffects a.val 0x05c0).raise .AX_STAT_STALL a.val
        (d.axisRecord a.val delta 1).occur (320 + 4 * a.val)
      else d))

/-- COIL_FAULT: a modulator input lost, or a phase current above I_TRIP in two consecutive periods (R289); a
device that runs dry evaluates no coil fault (R358). -/
def execCoilFault (dt : Nat) (a : Fin 8) (overcurrent : Bool) (s : State) : Host.Outcome State Fault Refusal :=
  s.act dt (fun d =>
    let st := d.get .AX_STAT_STATE a.val
    d.when (d.drives && st != 0 && st != 6 && !d.flag .AX_CFG_MODE a.val && (!overcurrent || decide (2 ≤ (d.axis a.val).overRun)))
      (fun d =>
        let d := d.raise (if overcurrent then .AX_STAT_OVERCUR else .AX_STAT_SD_FAULT) a.val
        let d := (d.endMoves a.val 0x05c1 0x02c1).brake a.val 6
        (d.axisRecord a.val 0 2).occur (320 + 4 * a.val)))

/-- The emergency ramp of every axis that has power (R286): moves and homings end with a code. -/
def Dev.emergencyStop (d : Dev) (code : Nat) : Dev :=
  (List.range 8).foldl (fun d a =>
    let st := d.get .AX_STAT_STATE a
    if st = 0 ∨ st = 6 then d
    else ((d.emergencyRamp a).endMoves a code code).occur (320 + 4 * a)) d

/-- An axis of a frozen function stops on its normal ramp; an emergency ramp goes on; its compare disarms
(R106, R294, R305). -/
def Dev.freezeAxis (d : Dev) (a : Nat) : Dev :=
  let st := d.get .AX_STAT_STATE a
  let d := (d.modEnc a (fun e => { e with cmp := none })).lower .ENC_STAT_ARMED a
  let d := if st = 2 ∨ st = 3 then (d.runStop a).put .AX_STAT_STATE 2 a else d
  d.modAxis a (fun x => { x with job := none, stopJob := none, imm := [], home := .none, endCode := 0 })

/-- AXIS_ENABLE: a host write of ENABLE 1; the axis rests where it is (R283, R289). -/
def Dev.axisEnable (d : Dev) (a : Nat) : Dev :=
  if d.flag .AX_CFG_ENABLE a then d
  else
    let d := (d.raise .AX_CFG_ENABLE a).put .AX_STAT_STATE 1 a
    d.modAxis a (fun x => { x with restSince := d.run, holding := false })

/-- AXIS_DISABLE: ENABLE 0; the brake holds, HOMED clears, and what is in execution ends as a descriptor to a disabled axis
(R283, R289). -/
def Dev.axisDisable (d : Dev) (a : Nat) : Dev :=
  ((d.lower .AX_CFG_ENABLE a).endMoves a 0x02c1 0x02c1).brake a 0

def execAxisEnable (dt : Nat) (a : Fin 8) (s : State) : Host.Outcome State Fault Refusal :=
  s.act dt (fun d => d.byFn 0 (fun d => d.axisEnable a.val))

def execAxisDisable (dt : Nat) (a : Fin 8) (s : State) : Host.Outcome State Fault Refusal :=
  s.act dt (fun d => d.byFn 0 (fun d => d.axisDisable a.val))

/-! ### The coil loop (R287, R288, R290, R291) -/

/-- The effective ceiling c, in mA (R290). -/
def Dev.ceiling (d : Dev) (a : Nat) : Nat := d.get .AX_CUR_I_CEIL a * d.get .AX_STAT_GOV a / 256

/-- The current target of a period, with the load angle in 1/128 degree (R290). -/
def Dev.currentTarget (d : Dev) (a : Nat) (delta : Int) (fast : Bool) : Nat :=
  let x := d.axis a
  let c := d.ceiling a
  let base := min (d.get .AX_CUR_I_BASE a) c
  let low : Int := d.get .AX_LA_LA_LOW a * 128
  let span : Int := (d.get .AX_LA_LA_HIGH a - d.get .AX_LA_LA_LOW a : Nat) * 128
  let moving := !d.axisRests a
  if x.home ≠ .none then min (d.get .AX_CUR2_I_HOME a) c
  else if moving && fast then
    let r := clampI 0 span (delta - low)
    base + ((c - base : Nat) * r / (max span 1)).toNat
  else if moving || !x.holding then base
  else min (d.get .AX_CUR2_I_HOLD a) c

/-- Sine and cosine of the commanded electrical angle at the middle of the period, at the scale 2³⁰ (R278, R279). -/
def Dev.electricAngle (d : Dev) (a : Nat) : Int × Int :=
  let k := d.axisKin a
  let mid := k.p + 3 * k.v * 10000
  let x := (mid % (1024 * fineP)).toNat * 2 * piFix / (1024 * fineP).toNat
  (rndAway (cosFix x * 2 ^ 30) trigOne, rndAway (sinFix x * 2 ^ 30) trigOne)

/-- One PI controller: setpoint and sample in 1/32,767 of FS_MA, integrator; answers integrator and duty (R288). -/
def Dev.phasePi (d : Dev) (a : Nat) (set sample integ : Int) : Int × Int :=
  let err := set - sample
  let p := d.get .AX_LOOP_KP a * err
  let out (i : Int) : Int := p / 4096 + i / 65536
  let i' := integ + d.get .AX_LOOP_KI a * err
  if -32767 < out i' ∧ out i' < 32767 then (i', out i') else (integ, clampI (-32767) 32767 (out integ))

/-- One period of a coil loop with the two phase samples (R287 to R291). The load angle rests on the phase voltage, which
the spec ties to no supply: it is a free value from −180° to 180°. -/
def Dev.coilPeriod (d : Dev) (a : Nat) (ia ib : Int) : Dev :=
  let fs := d.get .AX_ISCALE_FS_MA a
  let trip := decide (d.get .AX_ISCALE_I_TRIP a * 32767 < max ia.natAbs ib.natAbs * fs)
  let v := d.gets .AX_VEL_VALUE a
  let fast := decide (d.get .AX_LA_VMIN_LA_VMIN a ≤ v.natAbs)
  let delta : Int := (d.freeBits 16 % 46081 : Nat) - 23040
  let d := d.freeNext
  let d := if fast then d.puts .AX_ELEC_DELTA delta a else d.put .AX_ELEC_DELTA 0x8000 a
  let tgt : Int := d.currentTarget a delta fast
  let i := (d.get .AX_ELEC_I_NOW a : Int)
  let slew : Int := d.get .AX_SLEW_I_SLEW a
  let i := (i + clampI (-slew) slew (tgt - i)).toNat
  let d := d.put .AX_ELEC_I_NOW i a
  let ang := d.electricAngle a
  let x := d.axis a
  let set (c : Int) : Int := (i * c * 32767) / (2 ^ 30 * (max fs 1 : Nat))
  let pa := d.phasePi a (set ang.1) ia x.intA
  let pb := d.phasePi a (set ang.2) ib x.intB
  let top := if x.home ≠ .none then min (d.get .AX_CUR2_I_HOME a) (d.ceiling a) else d.ceiling a
  let stalls := fast && decide (i = top) && decide (90 * 128 < (if v < 0 then -delta else delta))
  d.modAxis a (fun x => { x with
    intA := pa.1, dutyA := pa.2, intB := pb.1, dutyB := pb.2,
    overRun := if trip then x.overRun + 1 else 0, stallRun := if stalls then x.stallRun + 1 else 0 })

/-- COIL_LOOP_PERIOD, at each instant whose nanoseconds are a multiple of 20,000 (R279); the loops of a device that runs
dry do not run (R358). -/
def execCoilLoopPeriod (dt : Nat) (a : Fin 8) (ia ib : Int) (s : State) : Host.Outcome State Fault Refusal :=
  s.act dt (fun d =>
    let st := d.get .AX_STAT_STATE a.val
    d.when (d.drives && d.atTick 20000 && d.inService 43 && st != 0 && st != 6 && !d.flag .AX_CFG_MODE a.val)
      (fun d => d.coilPeriod a.val ia ib))

end Sys2Proof.Machine
end

