-- ==== Sys2Proof/Machine/EncCmds.lean ====
section
/-! DEFINITION. The meanings of the encoder commands (R295 to R305): edges, index, standstill, following errors, the compare
output. -/

namespace Sys2Proof.Machine

open Sys2Proof

/-! ### Edges and the compare (R295, R296, R303, R304) -/

/-- Position of a pair of levels in the quadrature sequence in which A leads B. -/
def quadPhase (a b : Bool) : Nat := if a then (if b then 2 else 1) else (if b then 3 else 0)

/-- The compare value as the register shows it. -/
def Dev.showCompare (d : Dev) (e : Nat) (c : Cmp) : Dev :=
  (d.modEnc e (fun x => { x with cmp := some c })).puts .ENC_CMP_VAL_VALUE c.value e

/-- A value moved on by a number of spacings in the direction of the compare. -/
def Cmp.ahead (c : Cmp) (m : Nat) : Cmp :=
  let way : Int := ((m * c.spacing : Nat) : Int)
  { c with value := sInt 32 (uInt 32 (if c.rising then c.value + way else c.value - way)) }

/-- A hit (R303). -/
def Dev.compareAt (d : Dev) (e : Nat) (c : Cmp) : Dev :=
  let d := d.modEnc e (fun x => { x with cmpHigh := true, cmpUntil := d.run + d.get .ENC_LIM_CMP_W e * 2560 })
  let ts := ts64 d.now
  let d := (d.put .ENC_CMP_TS_LO_TS (ts % 2 ^ 32) e).put .ENC_CMP_TS_HI_TS (ts / 2 ^ 32) e
  let d := (d.bump .ENC_CMP_CNT_HITS_DONE 1 e).occur (321 + 4 * e)
  match c.hits with
  | some 1 => (d.showCompare e (c.ahead 1)).endCompare e 0
  | some n => d.showCompare e { c.ahead 1 with hits := some (n - 1) }
  | none => d.showCompare e (c.ahead 1)

/-- How far the count lies past the compare value in its direction: 0 at the value, negative before it (R304). -/
def Dev.pastBy (d : Dev) (e : Nat) (c : Cmp) : Int :=
  let x := sInt 32 (uInt 32 (d.gets .ENC_COUNT_VALUE e - c.value))
  if c.rising then x else -x

/-- The value is behind (R304). -/
def Dev.compareLate (d : Dev) (e : Nat) (c : Cmp) : Dev :=
  let d := d.raise .ENC_STAT_COMPARE_BEHIND e
  if d.flag .ENC_CFG_BEHIND_WAIT e then d
  else if c.spacing = 0 then d.endCompare e 0x03c9
  else
    let m := (d.pastBy e c).toNat / c.spacing + 1
    (d.bump .ENC_CMP_CNT_BEHIND_SKIP m e).showCompare e (c.ahead m)

/-- The compare after an accepted change in a direction (R303, R304). -/
def Dev.compareTest (d : Dev) (e : Nat) (up : Bool) : Dev :=
  match (d.enc e).cmp with
  | none => d
  | some c =>
    if c.rising != up then d
    else
      let p := d.pastBy e c
      if p = 0 then d.compareAt e c else if 0 < p then d.compareLate e c else d

/-- A and B changed at one sample (R296). -/
def Dev.quadError (d : Dev) (e : Nat) : Dev :=
  let d := (d.raise .ENC_STAT_QUAD_ERR e).bump .ENC_ERR_CNT_QUAD_ERRS 1 e
  if (d.enc e).quadNoted then d
  else (d.record 0x0702 3 (recSource 43 e) (d.get .ENC_COUNT_VALUE e)).modEnc e (fun x => { x with quadNoted := true })

/-- An accepted change of A or B (R295, R296). -/
def Dev.encEdge (d : Dev) (e : Nat) (a b : Bool) : Dev :=
  let x := d.enc e
  if x.a == a && x.b == b then d
  else
    let d := (d.modEnc e (fun x => { x with a := a, b := b, lastChange := d.run })).lower .ENC_STAT_STILL e
    if d.flag .ENC_CFG_ENABLE e = false then d
    else if x.a != a && x.b != b then d.quadError e
    else
      let up := ((quadPhase x.a x.b + 1) % 4 == quadPhase a b) != d.flag .ENC_CFG_INVERT_DIR e
      let n := d.gets .ENC_COUNT_VALUE e
      (d.puts .ENC_COUNT_VALUE (if up then n + 1 else n - 1) e).compareTest e up

/-- The time an input must hold a level, in ns (R295). -/
def Dev.minEdge (d : Dev) (e : Nat) : Nat := (d.get .ENC_CFG_EDGE_M1 e + 1) * 10

/-- ENCODER_EDGE: new levels of A and B held for `width` ns: accepted, or a fault edge (R295). -/
def execEncoderEdge (dt : Nat) (e : Fin 8) (a b : Bool) (width : Nat) (s : State) : Host.Outcome State Fault Refusal :=
  s.act dt (fun d => d.when (d.inService 43) (fun d =>
    if width < d.minEdge e.val then d.bump .ENC_ERR_CNT_EDGE_FAULT 1 e.val else d.encEdge e.val a b))

/-- The compare output falls (R303). -/
def execEncCmpPulseEnd (dt : Nat) (e : Fin 8) (s : State) : Host.Outcome State Fault Refusal :=
  s.act dt (fun d =>
    let x := d.enc e.val
    d.when (x.cmpHigh && decide (x.cmpUntil ≤ d.run)) (fun d => d.modEnc e.val (fun x => { x with cmpHigh := false })))

/-! ### Index and standstill (R297 to R299) -/

/-- Pending correction changed by a number, saturating at ±32,767 (R298). -/
def Dev.addPend (d : Dev) (e : Nat) (x : Int) : Dev :=
  d.puts .ENC_CORR_PEND (clampI (-32767) 32767 (d.gets .ENC_CORR_PEND e + x)) e

/-- The check of an index against the previous one (R298). -/
def Dev.indexCheck (d : Dev) (e : Nat) (latch ref : Int) : Dev :=
  let per : Int := d.get .ENC_IDX_CFG_PERIOD e
  let dd := sInt 32 (uInt 32 (latch - ref))
  let k := rndAway dd per.toNat
  let err := dd - k * per
  let d := if 1 < k.natAbs then d.bump .ENC_ERR_CNT_INDEX_MISS 1 e else d
  let d :=
    if d.get .ENC_IDX_CFG_TOL e < err.natAbs then
      let d := (d.raise .ENC_STAT_INDEX_SLIP e).addPend e (-err)
      (d.record 0x0702 3 (recSource 43 e) (d.get .ENC_COUNT_VALUE e) (p32 err) (p32 k)).occur (322 + 4 * e)
    else d
  let d := d.put .ENC_IDX_ERR_ERR (satS 16 err) e
  d.put .ENC_IDX_ERR_WORST (max (d.get .ENC_IDX_ERR_WORST e) (min err.natAbs 65535)) e

/-- ENCODER_INDEX: an accepted rising edge of I with A and B at these levels (R297). -/
def execEncoderIndex (dt : Nat) (e : Fin 8) (a b : Bool) (s : State) : Host.Outcome State Fault Refusal :=
  s.act dt (fun d =>
    let gate := d.get .ENC_CFG_GATE e.val
    d.when (d.inService 43 && d.flag .ENC_CFG_ENABLE e.val && hasBit gate 0 == a && hasBit gate 1 == b) (fun d =>
      let latch := d.gets .ENC_COUNT_VALUE e.val
      let d := d.puts .ENC_IDX_LATCH_VALUE latch e.val
      let d := match (d.enc e.val).ref with
        | some ref => d.indexCheck e.val latch ref
        | none => d
      d.modEnc e.val (fun x => { x with ref := some latch })))

/-- A correction at standstill (R299). -/
def Dev.applyPend (d : Dev) (e : Nat) : Dev :=
  let p := d.gets .ENC_CORR_PEND e
  if p = 0 ∨ d.flag .ENC_CFG_IDX_CORR e = false then d
  else
    let d := (d.puts .ENC_COUNT_VALUE (d.gets .ENC_COUNT_VALUE e + p) e).put .ENC_CORR_PEND 0 e
    let d := d.put .ENC_CORR_SUM (satS 16 (d.gets .ENC_CORR_SUM e + p)) e
    let d := d.modEnc e (fun x => { x with ref := x.ref.map (fun r => sInt 32 (uInt 32 (r + p))) })
    d.record 0x0703 2 (recSource 43 e) (p32 p)

/-- ENCODER_STANDSTILL (R299). -/
def execEncoderStandstill (dt : Nat) (e : Fin 8) (s : State) : Host.Outcome State Fault Refusal :=
  s.act dt (fun d =>
    let x := d.enc e.val
    d.when (decide (x.lastChange + d.get .ENC_CFG_STILL_MS e.val * qMs ≤ d.run)
        && (!d.flag .AX_CFG_ENABLE e.val || d.get .AX_STAT_STATE e.val == 1))
      (fun d => (d.raise .ENC_STAT_STILL e.val).applyPend e.val))

/-! ### Following errors (R300, R301) -/

/-- FOLLOW_ERROR: the deviation has been over FOLLOW_LIM for FOLLOW_TICKS ticks; once in each excursion. -/
def execFollowError (dt : Nat) (e : Fin 8) (s : State) : Host.Outcome State Fault Refusal :=
  s.act dt (fun d =>
    let x := d.enc e.val
    d.when (d.flag .ENC_STAT_REF_VALID e.val && d.flag .ENC_CFG_FOLLOW_EN e.val
        && decide (d.get .ENC_CFG_FOLLOW_TICKS e.val ≤ x.followRun ∧ x.followRun < 1000)) (fun d =>
      let dev := d.gets .ENC_DEV_VALUE e.val
      let d := (d.raise .ENC_STAT_FOLLOW_ERR e.val).modEnc e.val (fun x => { x with followRun := 1000 })
      let d := (d.axisRecord e.val dev 3).occur (323 + 4 * e.val)
      if d.flag .ENC_CFG_FOLLOW_ACT e.val then d.stallEffects e.val 0x05c8 else d))

/-! ### Enable (R296, R298, R305) -/

/-- ENABLE written 1: the first index is stored unchecked (R298). -/
def Dev.encEnable (d : Dev) (e : Nat) : Dev :=
  if d.flag .ENC_CFG_ENABLE e then d else (d.raise .ENC_CFG_ENABLE e).modEnc e (fun x => { x with ref := none })

/-- ENABLE cleared: the count holds, the compare disarms, PEND clears and the output goes low (R305). -/
def Dev.encDisable (d : Dev) (e : Nat) : Dev :=
  let d := ((d.lower .ENC_CFG_ENABLE e).endCompare e 0x03c8).put .ENC_CORR_PEND 0 e
  let isEnc (id : Nat) : Bool := ((d.job id).map (fun j => encOp j.opcode)).getD false
  let late := (d.axis e).imm.filter isEnc
  let d := d.modAxis e (fun x => { x with imm := x.imm.filter (fun id => !isEnc id) })
  late.foldl (fun d id => d.complete id 0x02c8) (d.modEnc e (fun x => { x with cmpHigh := false, ref := none }))

def execEncoderEnable (dt : Nat) (e : Fin 8) (s : State) : Host.Outcome State Fault Refusal :=
  s.act dt (fun d => d.byFn 0 (fun d => d.encEnable e.val))

def execEncoderDisable (dt : Nat) (e : Fin 8) (s : State) : Host.Outcome State Fault Refusal :=
  s.act dt (fun d => d.byFn 0 (fun d => d.encDisable e.val))

end Sys2Proof.Machine
end

