-- ==== Sys2Proof/Machine/TimeCmds.lean ====
section
/-! DEFINITION. The meanings of the commands of TIME (R323 to R337): timed pulses, captures, TIM_SET, steps, and the PTP
time service of IEEE 1588-2019. -/

namespace Sys2Proof.Machine

open Sys2Proof

def Dev.pulse (d : Dev) (k : Nat) : Pulse := Tab.get {} d.pulses k
def Dev.setPulse (d : Dev) (k : Nat) (x : Pulse) : Dev := { d with pulses := Tab.set {} d.pulses k x }
def Dev.modPulse (d : Dev) (k : Nat) (g : Pulse → Pulse) : Dev := d.setPulse k (g (d.pulse k))
def Dev.capt (d : Dev) (i : Nat) : Capt := Tab.get {} d.capts i
def Dev.setCapt (d : Dev) (i : Nat) (x : Capt) : Dev := { d with capts := Tab.set {} d.capts i x }
def Dev.modCapt (d : Dev) (i : Nat) (g : Capt → Capt) : Dev := d.setCapt i (g (d.capt i))
def Dev.modTime (d : Dev) (g : TimeSvc → TimeSvc) : Dev := { d with time := g d.time }
def Dev.ptp (d : Dev) (p : Nat) : PtpPort := Tab.get {} d.time.ports p
def Dev.modPtp (d : Dev) (p : Nat) (g : PtpPort → PtpPort) : Dev :=
  d.modTime (fun x => { x with ports := Tab.set {} x.ports p (g (Tab.get {} x.ports p)) })

/-! ### Pulses (R332, R333) -/

/-- Instant of the grid position k of an output: START for once mode. -/
def Pulse.target (x : Pulse) : Int := x.start + ((x.k * x.period * qNs : Nat) : Int)

/-- The level of an output's pin: high while it is active, or the other way where INVERT is set (R333). -/
def Dev.pulsePin (d : Dev) (k : Nat) : Bool := (d.pulse k).high != hasBit (d.get .TIM_IO_POL_INVERT) k

/-- The output is driven to its active level for its width; a rise while it is high extends the pulse (R333). -/
def Dev.firePulse (d : Dev) (k : Nat) : Dev :=
  (d.modPulse k (fun x => { x with high := true, fallAt := d.run + x.width * qNs })).occur (384 + k)

/-- The descriptor before a new one on an output ends (R332). -/
def Dev.supersedePulse (d : Dev) (k : Nat) : Dev :=
  match (d.pulse k).job with
  | some id => (d.modPulse k (fun x => { x with job := none })).complete id 0x03e3
  | none => d

/-- Grid instants of a periodic output before an instant of device time are passed over and counted (R333). -/
def Dev.skipPulse (d : Dev) (k : Nat) (t : Int) : Dev :=
  let x := d.pulse k
  let n := if x.target < t then ((t - x.target - 1) / ((max (x.period * qNs) 1 : Nat) : Int)).toNat + 1 else 0
  if n = 0 then d else (d.modPulse k (fun x => { x with k := x.k + n })).bump .TIM_PULSE_STAT_SKIP n k

/-- TIM_PULSE (R332, R333). -/
def execTimPulse (dt : Nat) (job : Nat) (s : State) : Host.Outcome State Fault Refusal :=
  s.act dt (fun d => d.withJob job 0x70 (fun d j =>
    let k := j.bits 258 256
    let mode := j.bits 260 259
    let d := (d.supersedePulse k).put .TIM_PULSE_STAT_MODE mode k
    let start := resolveTs64 d.now (j.bits 191 128)
    let width := j.bits 255 224
    if mode = 0 then ((d.setPulse k {}).lower .TIM_PULSE_STAT_ARMED k).complete job 0
    else if mode = 3 then
      ((d.modPulse k (fun x => { x with width := width })).lower .TIM_PULSE_STAT_ARMED k).complete job 0
    else if mode = 1 ∧ start < d.now then (d.lower .TIM_PULSE_STAT_ARMED k).complete job 0x03e1
    else
      let d := d.begin' j
      let count := j.bits 303 288
      let d := d.modPulse k (fun x => { x with
        job := some job, start := start, period := if mode = 2 then j.bits 223 192 else 0, width := width, k := 0,
        left := if mode = 1 then some 1 else if count = 0 then none else some count })
      let d := d.raise .TIM_PULSE_STAT_ARMED k
      if mode = 2 then d.skipPulse k d.now else d))

/-- TIMEPULSE_RISE: the target instant of a once or periodic output (R332, R333). -/
def execTimepulseRise (dt : Nat) (k : Fin 8) (s : State) : Host.Outcome State Fault Refusal :=
  s.act dt (fun d =>
    let x := d.pulse k.val
    d.when (d.flag .TIM_PULSE_STAT_ARMED k.val && decide (x.target ≤ d.now) && d.inService 45) (fun d =>
      let d := d.firePulse k.val
      let d := d.modPulse k.val (fun x => { x with k := x.k + 1, left := x.left.map (· - 1) })
      if x.left = some 1 then
        let d := (d.modPulse k.val (fun x => { x with job := none, left := none })).lower .TIM_PULSE_STAT_ARMED k.val
        match x.job with
        | some id => d.complete id 0
        | none => d
      else d))

/-- TIMEPULSE_FALL (R333). -/
def execTimepulseFall (dt : Nat) (k : Fin 8) (s : State) : Host.Outcome State Fault Refusal :=
  s.act dt (fun d =>
    let x := d.pulse k.val
    d.when (x.high && decide (x.fallAt ≤ d.run)) (fun d => d.modPulse k.val (fun x => { x with high := false })))

/-! ### Captures (R332, R334) -/

/-- TIM_CAPTURE arms an input (R332). -/
def execTimCapture (dt : Nat) (job : Nat) (s : State) : Host.Outcome State Fault Refusal :=
  s.act dt (fun d => d.withJob job 0x71 (fun d j =>
    let i := j.bits 209 208
    let d := match (d.capt i).job with
      | some id => (d.modCapt i (fun x => { x with job := none })).complete id 0x03e3
      | none => d
    (d.begin' j).modCapt i (fun x => { x with job := some job, written := 0 })))

/-- The 16 bytes of a stamp (R334). -/
def stampBytes (t level input number : Nat) : List Byte :=
  leBytes 8 (ts64 t) ++ leBytes 1 (fracOf t) ++ leBytes 1 level ++ leBytes 1 input ++ leBytes 1 0 ++ leBytes 4 number

/-- TIMECAPTURE_EDGE (R334). -/
def execTimecaptureEdge (dt : Nat) (i : Fin 4) (rising : Bool) (s : State) : Host.Outcome State Fault Refusal :=
  s.act dt (fun d =>
    let x := d.capt i.val
    let j := x.job.bind d.job
    let wanted := match j with
      | some j => hasBit (j.bits 211 210) (if rising then 0 else 1)
      | none => true
    d.when (wanted && d.inService 45) (fun d =>
      if x.last.any (fun l => decide (d.run < l + 20 * qNs)) then d.bump .TIM_CAP_STAT_LOST 1 i.val
      else
        let d := (d.bump .TIM_CAP_STAT_STAMPS 1 i.val).modCapt i.val (fun x => { x with number := x.number + 1, last := some d.run })
        let d := d.occur (392 + i.val)
        match j with
        | none => d
        | some j =>
          let d := d.jobWrite j (j.addr + 16 * x.written) (stampBytes d.now rising.toNat i.val (x.number % 2 ^ 32))
          let d := d.modCapt i.val (fun x => { x with written := x.written + 1 })
          if x.written + 1 = j.bits 207 192 then
            (d.modCapt i.val (fun x => { x with job := none })).complete j.id 0
          else d))

/-! ### Setting and stepping device time (R324, R335, R337) -/

/-- TIM_SET (R335). -/
def execTimSet (dt : Nat) (job : Nat) (s : State) : Host.Outcome State Fault Refusal :=
  s.act dt (fun d => d.withJob job 0x72 (fun d j =>
    match lowest [(decide (2 ≤ d.get .TIM_STAT_STATE), 0x02e1), (d.layerOpen, 0x03e0)] with
    | some c => d.complete job c
    | none =>
      if d.time.set.isSome then d
      else
        let v := j.bits 175 128 * qSec + j.bits 205 176 * qNs + j.bits 215 208
        (d.begin' j).modTime (fun x => { x with set := some (job, v, d.run + 2 * qUs) })))

/-- Device time moves to a new value at a dowel pulse (R28, R324). A once-mode START passed over is late; grid instants
passed over are skipped (R333, R337). -/
def Dev.moveTime (d : Dev) (new : Nat) : Dev :=
  let old := d.now
  (List.range 8).foldl (fun d k =>
    if d.flag .TIM_PULSE_STAT_ARMED k then
      let x := d.pulse k
      if d.get .TIM_PULSE_STAT_MODE k = 1 then
        if (old : Int) < x.target ∧ x.target ≤ new then d.raise .TIM_PULSE_STAT_LATE k else d
      else d.skipPulse k (new + 1)
    else d) { d with now := new }

/-- What a dowel pulse does to device time: a change of rate, a step of the time service, or a TIM_SET whose time has come (R28,
R324, R335). -/
def Dev.timeDowel (d : Dev) : Dev :=
  let d := match d.time.rate with
    | some r => (d.modTime (fun t => { t with rate := none })).puts .TIM_RATE_PPB r
    | none => d
  let d := match d.time.step with
    | some x => (d.modTime (fun t => { t with step := none })).moveTime ((d.now : Int) + x).toNat
    | none => d
  match d.time.set with
  | some (id, v, after) =>
    if after ≤ d.run then ((d.modTime (fun t => { t with set := none })).moveTime v).complete id 0 else d
  | none => d

/-- Entry to layer state 8: a pending step is made if the offset still exceeds STEP_NS (R324). -/
def Dev.timeIdle (d : Dev) : Dev :=
  if d.flag .TIM_STAT_STEP_PENDING then
    let d := d.lower .TIM_STAT_STEP_PENDING
    let x := d.gets .TIM_OFFSET_OFFSET
    if d.get .TIM_LIMIT_STEP_NS * qNs < x.natAbs then d.modTime (fun t => { t with step := some (-x) }) else d
  else d

/-- The outputs of a frozen function go inactive and its captures end (R337). -/
def Dev.freezeTime (d : Dev) (f : Nat) : Dev :=
  let d := (List.range 8).foldl (fun d k =>
    if d.srcOwner (384 + k) = some f then ((d.setPulse k {}).put .TIM_PULSE_STAT_MODE 0 k).lower .TIM_PULSE_STAT_ARMED k
    else d) d
  (List.range 4).foldl (fun d i =>
    if d.srcOwner (392 + i) = some f then d.modCapt i (fun x => { x with job := none }) else d) d

/-! ### PTP messages (R325, R327, R328) -/

/-- A big-endian number. -/
def beNat (bs : List Byte) : Nat := bs.foldl (fun n b => n * 256 + b.toNat) 0

/-- The big-endian bytes of a number. -/
def beBytes (n x : Nat) : List Byte := (leBytes n x).reverse

/-- Bytes `[at, at + n)` of a message, big-endian. -/
def msgAt (m : List Byte) (at' n : Nat) : Nat := beNat ((m.drop at').take n)

/-- correctionField, in 2⁻¹⁶ ns. -/
def msgCorr (m : List Byte) : Int := sInt 64 (msgAt m 8 8)

/-- A message with another correctionField. -/
def withCorr (m : List Byte) (x : Int) : List Byte := m.take 8 ++ beBytes 8 (uInt 64 x) ++ m.drop 16

/-- originTimestamp in quanta. -/
def msgOrigin (m : List Byte) : Int := ((msgAt m 34 6 * qSec + msgAt m 40 4 * qNs : Nat) : Int)

/-- The clockIdentity of this device. -/
def Dev.clockId (d : Dev) : Nat := d.get .SYS_CLKID_HI_CLKID * 2 ^ 32 + d.get .SYS_CLKID_LO_CLKID

/-- The port identity of a fabric port (R325). -/
def Dev.portId (d : Dev) (p : Nat) : Nat := d.clockId * 65536 + p + 1

/-- PTP runs on a port. -/
def Dev.ptpOn (d : Dev) (p : Nat) : Bool := d.flag .TIM_CTL_PTP_EN && d.flag .TIM_PORT_CFG_PTP_PORT_EN p

/-- A PTP header of 34 bytes. -/
def Dev.ptpHeader (d : Dev) (p typ len seq : Nat) (corr log : Int) : List Byte :=
  beBytes 1 typ ++ beBytes 1 2 ++ beBytes 2 len ++ beBytes 1 (d.get .TIM_CTL_DOMAIN) ++ beBytes 1 0 ++ beBytes 2 0
    ++ beBytes 8 (uInt 64 corr) ++ beBytes 4 0 ++ beBytes 10 (d.portId p) ++ beBytes 2 seq ++ beBytes 1 0
    ++ beBytes 1 (uInt 8 log)

/-- The 10 bytes of a timestamp. -/
def tsBytes (t : Nat) : List Byte := beBytes 6 (secOf t) ++ beBytes 4 (nsOf t)

/-- A message leaves by a port. -/
def Dev.ptpSend (d : Dev) (p : Nat) (m : List Byte) : Dev := d.modPtp p (fun x => { x with sent := m })

/-- Whether a message is of a type and long enough, of version 2 and the domain, and sent by one step (R325). -/
def ptpGood (m : List Byte) (typ len domain : Nat) : Bool :=
  decide (len ≤ m.length) && msgAt m 0 1 == typ && msgAt m 1 1 % 16 == 2 && msgAt m 4 1 == domain && msgAt m 5 1 == 0
    && !hasBit (msgAt m 6 1) 1

/-- A received message of a type is used on a port that runs PTP, or discarded and counted (R325). -/
def Dev.ptpTake (d : Dev) (p typ len : Nat) (m : List Byte) (f : Dev → Dev) : Dev :=
  d.fabricIn (fun d =>
    let d := d.hearPort p
    if d.ptpOn p = false then d
    else if ptpGood m typ len (d.get .TIM_CTL_DOMAIN) then f d
    else d.bump .TIM_PTP_CNT_DISCARDED)

/-- A stamp at a port's pins now: device time plus ASYM (R327). -/
def Dev.stamp (d : Dev) (p : Nat) : Int := (d.now : Int) + d.gets .TIM_PORT_CFG_ASYM p

/-- An interval of 2 to a signed power of seconds, in quanta. -/
def logQuanta (x : Int) : Nat := if 0 ≤ x then qSec * 2 ^ x.toNat else qSec / 2 ^ x.natAbs

def Dev.syncInterval (d : Dev) : Nat := logQuanta (d.gets .TIM_PTP_CFG_LOG_SYNC)
def Dev.annInterval (d : Dev) : Nat := logQuanta (d.gets .TIM_PTP_CFG_LOG_ANNOUNCE)

/-! ### Master selection (R325, R326, R330) -/

/-- Order of the best master clock algorithm among clocks of different grandmasters. -/
def Master.rank (m : Master) : List Nat := [m.prio1, m.cls, m.accuracy, m.variance, m.prio2, m.gm]

/-- Lexicographic order. -/
def lexLt : List Nat → List Nat → Bool
  | [], [] => false
  | [], _ :: _ => true
  | _ :: _, [] => false
  | a :: as, b :: bs => if a = b then lexLt as bs else decide (a < b)

/-- Whether one clock is better than another: by its data, or for one grandmaster by steps and sender (IEEE 1588). -/
def Master.better (a b : Master) : Bool :=
  if a.gm = b.gm then lexLt [a.steps, a.sender] [b.steps, b.sender] else lexLt a.rank b.rank

/-- Whether `b` is worse than `a` by topology alone, as heard on a port of this device: the same grandmaster, at most one
step further, and sent from behind this device's own port. -/
def Master.byTopology (a b : Master) (receiver : Nat) : Bool :=
  decide (a.gm = b.gm) && (decide (a.steps = b.steps) || (decide (b.steps = a.steps + 1) && decide (b.sender < receiver)))

/-- This device as a clock. Accuracy and variance are the values of IEEE 1588 for an unknown one. -/
def Dev.ownClock (d : Dev) : Master :=
  { prio1 := d.get .TIM_CTL_PRIORITY1, cls := if d.flag .TIM_CTL_SLAVE_ONLY then 255 else d.get .TIM_PTP_CFG_CLOCK_CLASS,
    accuracy := 0xfe, variance := 0xffff, prio2 := d.get .TIM_CTL_PRIORITY2, gm := d.clockId, steps := 0,
    sender := d.clockId * 65536 }

/-- The qualified master of a port: two Announces within four intervals, the last within three. -/
def Dev.qualified (d : Dev) (p : Nat) : Option Master :=
  let x := d.ptp p
  let w := d.annInterval
  match x.heard, x.prevAnn with
  | some m, some a => if d.ptpOn p ∧ d.run < x.lastAnn + 3 * w ∧ x.lastAnn ≤ a + 4 * w then some m else none
  | _, _ => none

/-- The best master heard, and its port. -/
def Dev.bestMaster (d : Dev) : Option (Nat × Master) :=
  (List.range 4).foldl (fun b p =>
    match d.qualified p, b with
    | some m, some (q, n) => if m.better n then some (p, m) else some (q, n)
    | some m, none => some (p, m)
    | none, b => b) none

/-- The device may be grandmaster. -/
def Dev.gmAble (d : Dev) : Bool := d.flag .TIM_CTL_GM_CAPABLE && !d.flag .TIM_CTL_SLAVE_ONLY

/-- Port states beside the SLAVE port: MASTER, or PASSIVE where another path to the same master is nearer. -/
def Dev.sidePort (d : Dev) (p : Nat) (best : Master) : Nat :=
  match d.qualified p with
  | none => 2
  | some m =>
    if d.ownClock.cls < 128 then (if d.ownClock.better m then 2 else 4)
    else if best.byTopology m (d.portId p) then 4 else 2

/-- Every port's PORT_STATE. -/
def Dev.showPorts (d : Dev) (slave : Option (Nat × Master)) : Dev :=
  (List.range 4).foldl (fun d p =>
    d.put .TIM_PORT_DELAY_PORT_STATE
      (if d.ptpOn p = false then 0
       else match slave with
        | some (q, m) => if p = q then 3 else d.sidePort p m
        | none => if d.get .TIM_STAT_STATE = 1 then 2 else 1) p) d

/-- The time service's state; a change is an occurrence of source 396 (R330, R368). -/
def Dev.setTimeState (d : Dev) (st : Nat) : Dev :=
  if d.get .TIM_STAT_STATE = st then d else (d.put .TIM_STAT_STATE st).occur 396

/-- The service follows no master: grandmaster if it may be, else free-running; a held service waits (R330). -/
def Dev.noMaster (d : Dev) : Dev :=
  let held := d.get .TIM_STAT_STATE == 4 && decide (d.run < d.time.holdSince + 3 * d.annInterval)
  let d := d.modTime (fun t => { t with master := none, good := 0 })
  let d := if held && d.flag .TIM_CTL_PTP_EN then d else d.setTimeState (if d.gmAble && d.flag .TIM_CTL_PTP_EN then 1 else 0)
  let d := if d.get .TIM_STAT_STATE = 4 then d else d.modTime (fun t => { t with integ := 0, rate := some 0 })
  d.showPorts none

/-- Master selection (R325, R330). -/
def Dev.selectMaster (d : Dev) : Dev :=
  if d.flag .TIM_CTL_PTP_EN = false then d.noMaster
  else
    match d.bestMaster with
    | none => d.noMaster
    | some (p, m) =>
      if d.gmAble && d.ownClock.better m then d.noMaster
      else
        let st := d.get .TIM_STAT_STATE
        let fresh := !(decide (2 ≤ st ∧ st ≤ 3)) || (d.time.master.map (fun x => (x.gm, x.sender))) != some (m.gm, m.sender)
        let d := d.modTime (fun t => { t with master := some m, good := if fresh then 0 else t.good,
                                              lastSync := if fresh then d.run else t.lastSync })
        let d := if fresh then d.setTimeState 2 else d
        ((d.put .TIM_STAT_SLAVE_PORT p).put .TIM_STAT_STEPS_REMOVED m.steps).showPorts (some (p, m))

/-- Ports in MASTER state. -/
def Dev.masterPorts (d : Dev) : List Nat := (List.range 4).filter (fun p => d.get .TIM_PORT_DELAY_PORT_STATE p == 2)

/-- The clock that an Announce shows. -/
def announceOf (m : List Byte) : Master :=
  { prio1 := msgAt m 47 1, cls := msgAt m 48 1, accuracy := msgAt m 49 1, variance := msgAt m 50 2, prio2 := msgAt m 52 1,
    gm := msgAt m 53 8, steps := msgAt m 61 2, sender := msgAt m 20 10 }

/-- An Announce enters the port's record: from the clock it holds, or a better one (R325). -/
def Dev.hearAnnounce (d : Dev) (p : Nat) (m : Master) : Dev :=
  let x := d.ptp p
  let old := match x.heard with
    | some h => if d.run < x.lastAnn + 4 * d.annInterval then some h else none
    | none => none
  match old with
  | some h =>
    if h.sender = m.sender then d.modPtp p (fun x => { x with heard := some m, prevAnn := some x.lastAnn, lastAnn := d.run })
    else if m.better h then d.modPtp p (fun x => { x with heard := some m, prevAnn := none, lastAnn := d.run })
    else d
  | none => d.modPtp p (fun x => { x with heard := some m, prevAnn := none, lastAnn := d.run })

/-- PTP_ANNOUNCE (R325, R326, R330): master selection, and the relay from the SLAVE port with stepsRemoved plus 1. -/
def execPtpAnnounce (dt : Nat) (p : Fin 4) (msg : List Byte) (s : State) : Host.Outcome State Fault Refusal :=
  s.act dt (fun d => d.ptpTake p.val 11 64 msg (fun d =>
    let m := announceOf msg
    if m.sender / 65536 = d.clockId then d
    else
      let d := if m.steps < 32 then (d.hearAnnounce p.val m).selectMaster else d
      if d.get .TIM_PORT_DELAY_PORT_STATE p.val = 3 then
        d.masterPorts.foldl (fun d q => d.ptpSend q (msg.take 61 ++ beBytes 2 (m.steps + 1) ++ msg.drop 63)) d
      else d))

/-! ### Syncs and the servo (R324, R326, R328, R329) -/

/-- The rate correction in ppb for an offset (R324, R329). -/
def Dev.servoRate (d : Dev) (off integ : Int) : Int :=
  let big := decide (d.get .TIM_LIMIT_STEP_NS * qNs < off.natAbs)
  let slew : Int := d.get .TIM_SLEW_SLEW_PPB
  let p := -((d.get .TIM_SERVO_KP * off) / 65536)
  let p := if big then clampI (-slew) slew p else p
  clampI (-200000) 200000 (p - integ / 2 ^ 24)

/-- The servo acts on an offset in 1/256 ns (R324, R329, R330). -/
def Dev.servo (d : Dev) (off : Int) : Dev :=
  let big := decide (d.get .TIM_LIMIT_STEP_NS * qNs < off.natAbs)
  let d :=
    if big && d.layerOpen then
      if d.flag .TIM_STAT_STEP_PENDING then d
      else (d.raise .TIM_STAT_STEP_PENDING).record 0x0901 3 (recSource 45 63) (d.get .TIM_STAT_STATE) (p32 off)
    else d.lower .TIM_STAT_STEP_PENDING
  if big && !d.layerOpen then d.modTime (fun t => { t with step := some (-off), good := 0 })
  else
    let lim : Int := 200000 * 2 ^ 24
    let integ := clampI (-lim) lim (d.time.integ + d.get .TIM_SERVO_KI * off)
    let good := if off.natAbs ≤ d.get .TIM_LIMIT_LOCK * 16 then d.time.good + 1 else 0
    let rate := d.servoRate off integ
    let d := d.modTime (fun t => { t with integ := integ, good := good, rate := some rate })
    if d.get .TIM_STAT_STATE = 2 ∧ 64 ≤ good then
      (d.setTimeState 3).record 0x0901 2 (recSource 45 63) 3 (p32 off)
    else d

/-- A Sync relayed by a port: its residence is a free value (R326, R328). -/
def Dev.relaySync (d : Dev) (p : Nat) (msg : List Byte) (q : Nat) : Dev :=
  let x : Int := ((d.get .TIM_PORT_DELAY_MEAN_DELAY p + d.freeBits 32 : Nat) : Int)
  (d.ptpSend q (withCorr msg (msgCorr msg + x * 256))).freeNext

/-- PTP_SYNC: offset, servo and relay on the SLAVE port; discarded on any other (R326, R329). -/
def execPtpSync (dt : Nat) (p : Fin 4) (msg : List Byte) (s : State) : Host.Outcome State Fault Refusal :=
  s.act dt (fun d => d.ptpTake p.val 0 44 msg (fun d =>
    if d.get .TIM_PORT_DELAY_PORT_STATE p.val = 3 ∧ d.time.master.map (·.sender) = some (msgAt msg 20 10) then
      let off := d.stamp p.val - msgOrigin msg - msgCorr msg / 256 - (d.get .TIM_PORT_DELAY_MEAN_DELAY p.val : Nat)
      let d := ((d.put .TIM_OFFSET_OFFSET (satS 32 off)).bump .TIM_PTP_CNT_SYNC_RX).modTime (fun t => { t with lastSync := d.run })
      let d := d.servo off
      d.masterPorts.foldl (fun d q => d.relaySync p.val msg q) d
    else d))

/-- PTP_SYNC_SEND: the grandmaster's one-step Sync on every MASTER port (R328). -/
def execPtpSyncSend (dt : Nat) (s : State) : Host.Outcome State Fault Refusal :=
  s.act dt (fun d => d.when (d.get .TIM_STAT_STATE == 1 && decide (d.time.lastSyncSent + d.syncInterval ≤ d.run)) (fun d =>
    let seq := d.time.syncSeq
    let d := d.modTime (fun t => { t with syncSeq := (seq + 1) % 65536, lastSyncSent := d.run })
    d.masterPorts.foldl (fun d q =>
      let t := (d.stamp q).toNat
      d.ptpSend q (d.ptpHeader q 0 44 seq ((fracOf t * 256 : Nat) : Int) (d.gets .TIM_PTP_CFG_LOG_SYNC) ++ tsBytes t)) d))

/-- PTP_ANNOUNCE_SEND: the grandmaster announces itself on every MASTER port (R326). -/
def execPtpAnnounceSend (dt : Nat) (s : State) : Host.Outcome State Fault Refusal :=
  s.act dt (fun d => d.when (d.get .TIM_STAT_STATE == 1 && decide (d.time.lastAnnSent + d.annInterval ≤ d.run)) (fun d =>
    let seq := d.time.annSeq
    let c := d.ownClock
    let d := d.modTime (fun t => { t with annSeq := (seq + 1) % 65536, lastAnnSent := d.run })
    d.masterPorts.foldl (fun d q =>
      d.ptpSend q (d.ptpHeader q 11 64 seq 0 (d.gets .TIM_PTP_CFG_LOG_ANNOUNCE) ++ tsBytes d.now ++ beBytes 2 0 ++ beBytes 1 0
        ++ beBytes 1 c.prio1 ++ beBytes 1 c.cls ++ beBytes 1 c.accuracy ++ beBytes 2 c.variance ++ beBytes 1 c.prio2
        ++ beBytes 8 c.gm ++ beBytes 2 0 ++ beBytes 1 0xa0)) d))

/-! ### Peer delay (R327, R328) -/

/-- PTP_PDELAY_SEND (R325). -/
def execPtpPdelaySend (dt : Nat) (p : Fin 4) (s : State) : Host.Outcome State Fault Refusal :=
  s.act dt (fun d => d.when (d.ptpOn p.val) (fun d =>
    let seq := ((d.ptp p.val).reqSeq + 1) % 65536
    let d := d.modPtp p.val (fun x => { x with reqSeq := seq, reqAt := some (d.stamp p.val) })
    d.ptpSend p.val (d.ptpHeader p.val 2 54 seq 0 (d.gets .TIM_PTP_CFG_LOG_PDELAY) ++ beBytes 20 0)))

/-- PTP_PDELAY_REQ: a one-step Pdelay_Resp whose turnaround is a free value (R328). -/
def execPtpPdelayReq (dt : Nat) (p : Fin 4) (msg : List Byte) (s : State) : Host.Outcome State Fault Refusal :=
  s.act dt (fun d => d.ptpTake p.val 2 54 msg (fun d =>
    let turn : Int := ((d.freeBits 32 * 256 : Nat) : Int)
    (d.ptpSend p.val (d.ptpHeader p.val 3 54 (msgAt msg 30 2) (msgCorr msg + turn) 0x7f ++ beBytes 10 0
      ++ (msg.drop 20).take 10)).freeNext))

/-- PTP_PDELAY_RESP: the port's meanPathDelay (R327). -/
def execPtpPdelayResp (dt : Nat) (p : Fin 4) (msg : List Byte) (s : State) : Host.Outcome State Fault Refusal :=
  s.act dt (fun d => d.ptpTake p.val 3 54 msg (fun d =>
    match (d.ptp p.val).reqAt with
    | some t1 =>
      if msgAt msg 30 2 = (d.ptp p.val).reqSeq ∧ msgAt msg 44 10 = d.portId p.val then
        let mean := (d.stamp p.val - t1 - msgCorr msg / 256) / 2
        (d.modPtp p.val (fun x => { x with reqAt := none })).put .TIM_PORT_DELAY_MEAN_DELAY
          (min mean.toNat 16777215) p.val
      else d
    | none => d))

/-- PTP_ANNOUNCE_TIMEOUT: no Announce for three intervals or no Sync for sixteen; and the end of NET_HOLD (R330). -/
def execPtpAnnounceTimeout (dt : Nat) (s : State) : Host.Outcome State Fault Refusal :=
  s.act dt (fun d => d.when (d.flag .TIM_CTL_PTP_EN) (fun d =>
    let st := d.get .TIM_STAT_STATE
    let p := d.get .TIM_STAT_SLAVE_PORT
    let silent := decide ((d.ptp p).lastAnn + 3 * d.annInterval ≤ d.run)
    let dry := decide (d.time.lastSync + 16 * d.syncInterval ≤ d.run)
    if st = 3 ∧ (silent || dry) = true then
      let d := d.modPtp p (fun x => { x with heard := none, prevAnn := none })
      let d := (d.setTimeState 4).raise .TIM_STAT_LOST
      let d := d.modTime (fun t => { t with master := none, good := 0, holdSince := d.run })
      (d.showPorts none).record 0x0901 4 (recSource 45 63) 4 (d.get .TIM_OFFSET_OFFSET)
    else if st = 2 ∧ silent = true then
      (d.modPtp p (fun x => { x with heard := none, prevAnn := none })).selectMaster
    else if st = 4 then d.selectMaster
    else d))

end Sys2Proof.Machine
end

