-- ==== Sys2Proof/Machine/CamCmds.lean ====
section
/-! DEFINITION. The meanings of the camera commands (R306 to R322): context descriptors, triggers, CSI-2 packets, timeouts,
the pipeline. -/

namespace Sys2Proof.Machine

open Sys2Proof

/-! ### Captures (R308, R311 to R313) -/

/-- A change to a context's active capture. -/
def Dev.modCapture (d : Dev) (x : Nat) (g : Capture → Capture) : Dev :=
  d.modCam x (fun c => { c with active := c.active.map g })

/-- A frame of a context is being received. -/
def Dev.receiving (d : Dev) (x : Nat) : Bool := (List.range 8).any (fun p => (d.camPort p).frames.any (fun f => f.ctx == x))

/-- A capture whose frames are all written completes with the lowest code of its frames (R311, R317). -/
def Dev.captureDone (d : Dev) (x : Nat) : Dev :=
  match (d.cam x).active with
  | some a =>
    if a.count ≤ a.results ∧ d.receiving x = false then
      ((d.modCam x (fun c => { c with active := none })).lower .CAM_CTX_STAT_ACTIVE x).complete a.job (a.code.getD 0)
    else d
  | none => d

/-- One more result of a capture is written. -/
def Dev.resultDone (d : Dev) (x : Nat) (code : Option Nat) : Dev :=
  (d.modCapture x (fun a => { a with results := a.results + 1, code := lowCode a.code code })).captureDone x

/-- A capture takes no more frames, and ends with a code (R311, R313). -/
def Dev.stopCapture (d : Dev) (x code : Nat) : Dev :=
  (d.modCapture x (fun a => { a with stopping := true, count := a.opened, code := lowCode a.code (some code) })).captureDone x

/-- Another context has an active capture on a port and virtual channel (R308). -/
def Dev.portTaken (d : Dev) (x : Nat) : Bool :=
  (List.range 16).any (fun y => y != x && (d.cam y).active.isSome
    && d.get .CAM_CTX_SRC_PORT y == d.get .CAM_CTX_SRC_PORT x && d.get .CAM_CTX_SRC_VC y == d.get .CAM_CTX_SRC_VC x)

/-- A frame of a context as its registers stand needs more than BUF_MB (R311, R317). -/
def Dev.bufSmall (d : Dev) (x : Nat) : Bool :=
  let inl := d.isInline (d.get .CAM_CTX_SRC_PORT x)
  let px := d.get .CAM_CTX_SIZE_W x * d.get .CAM_CTX_SIZE_H x
  let raw := if !inl || d.flag .CAM_CTX_CFG_RAW_KEEP x then up64 (px * 2) else 0
  decide (d.get .CAM_CTX_BUF_BUF_MB x * 2 ^ 20 < raw + up64 (px * outBytes (d.get .CAM_CTX_CFG_OUT_FMT x)) + resultLen)

/-- The codes with which CAM_CAPTURE is not executed (R311, R312). -/
def Dev.captureCode (d : Dev) (j : Job) : Option Nat :=
  let x := j.target - 0x60
  lowest [(j.bits 211 211 == 1 && d.get .TIM_PULSE_STAT_MODE (j.bits 210 208) != 3, 0x02d1), (d.bufSmall x, 0x02d2)]

/-- CAM_CAPTURE (R311, R312). -/
def execCamCapture (dt : Nat) (job : Nat) (s : State) : Host.Outcome State Fault Refusal :=
  s.act dt (fun d => d.withJob job 0x60 (fun d j =>
    let x := j.target - 0x60
    match d.captureCode j with
    | some c => d.complete job c
    | none =>
      if (d.cam x).active.isSome ∨ d.portTaken x = true ∨ d.inService 44 = false then d
      else
        let d := d.begin' j
        let trig := j.bits 211 211 == 1
        let a : Capture := {
          job := job, host := j.addr, count := j.bits 207 192, armed := !trig, since := d.run,
          trig := if trig then some (j.bits 210 208, d.now + j.bits 235 212 * qUs) else none }
        (d.modCam x (fun c => { c with active := some a })).raise .CAM_CTX_STAT_ACTIVE x))

/-- CAM_TRIGGER: the trigger fires, or is suppressed in holdover (R312). -/
def execCamTrigger (dt : Nat) (x : Fin 16) (s : State) : Host.Outcome State Fault Refusal :=
  s.act dt (fun d =>
    match (d.cam x.val).active.bind (·.trig) with
    | some (k, t) =>
      if d.now < t ∨ d.inService 44 = false then d
      else if d.flag .SYS_ISL_STAT_HOLDOVER 44 then
        (d.modCapture x.val (fun a => { a with trig := none })).stopCapture x.val 0x03d1
      else
        let d := if d.get .TIM_PULSE_STAT_MODE k = 3 then d.firePulse k else d
        d.modCapture x.val (fun a => { a with trig := none, armed := true, since := d.run })
    | none => d)

/-- CAM_STOP: the capture ends after the frame being received (R311). -/
def execCamStop (dt : Nat) (job : Nat) (s : State) : Host.Outcome State Fault Refusal :=
  s.act dt (fun d => d.withJob job 0x63 (fun d j =>
    let x := j.target - 0x60
    (d.modCapture x (fun a => { a with trig := none })).stopCapture x 0x03d3 |>.complete job 0))

/-- CAM_TABLE waits for the context's next Frame Start (R310, R311). -/
def execCamTable (dt : Nat) (job : Nat) (s : State) : Host.Outcome State Fault Refusal :=
  s.act dt (fun d => d.withJob job 0x62 (fun d j =>
    (d.begin' j).modCam (j.target - 0x60) (fun c => { c with tables := c.tables ++ [job] })))

/-- Numbers of `n` bytes in a payload. -/
def wordsLe (n : Nat) (bs : List Byte) (count : Nat) : List Nat := (List.range count).map (fun k => ofLeBytes ((bs.drop (k * n)).take n))

/-- One table comes into force. -/
def Dev.loadTable (d : Dev) (x id : Nat) : Dev :=
  match d.job id with
  | some j =>
    let bs := granBytes (j.data.getD [])
    let d := if j.bits 192 192 = 0 then d.modCam x (fun c => { c with shading := wordsLe 2 bs 4356 })
      else d.modCam x (fun c => { c with defects := wordsLe 4 bs 2048 })
    d.complete id 0
  | none => d

/-- The tables of a context take effect (R310, R311). -/
def Dev.loadTables (d : Dev) (x : Nat) : Dev :=
  let ids := (d.cam x).tables
  ids.foldl (fun d id => d.loadTable x id) (d.modCam x (fun c => { c with tables := [] }))

/-! ### Frames (R307, R310, R312, R317, R321) -/

/-- The order of the queue: Frame Start or execution instant, then port, CAM_REPROC last (R316). -/
def CamFrame.before (a b : CamFrame) : Bool :=
  if a.start ≠ b.start then decide (a.start < b.start)
  else if a.reproc ≠ b.reproc then b.reproc
  else decide (a.port < b.port)

/-- A frame in its place in the queue. -/
def queueFrame (f : CamFrame) : List CamFrame → List CamFrame
  | [] => [f]
  | g :: rest => if f.before g then f :: g :: rest else g :: queueFrame f rest

/-- QUEUE of CAM_PIPE_STAT. -/
def Dev.showQueue (d : Dev) : Dev := d.put .CAM_PIPE_STAT_QUEUE (min d.pipe.queue.length 255)

/-- The pixel slices in use: the ceiling that CAMERA's governor gives, never below 8 while a port runs in-line (R315, R411). -/
def Dev.camSlices (d : Dev) : Nat :=
  let f := d.get .THM_GOV_FLOOR 44
  let n := ceilDiv (16 * (f + (256 - f) * d.get .THM_GOV_LEVEL 44 / 16)) 256
  if d.flag .CAM_INLINE_EN then max n 8 else n

/-- A waiting CAM_INLINE value takes effect once neither port receives a frame (R309); so do port settings. -/
def Dev.settlePorts (d : Dev) : Dev :=
  let idle (p : Nat) : Bool := (d.camPort p).frames.isEmpty
  let d := d.latchWhere (fun c => c.fld.reg == .CAM_PORT_CFG && (d.camPort c.i).frames.isEmpty)
  match d.pipe.inlineNew with
  | some v =>
    if idle (d.get .CAM_INLINE_PORT) ∧ idle (v % 8) = true then
      let d := ((d.put .CAM_INLINE_PORT (v % 8)).put .CAM_INLINE_EN (bitOf v 7)).modPipe (fun q => { q with inlineNew := none })
      d.put .CAM_PIPE_STAT_SLICES d.camSlices
    else d
  | none => d

/-- A frame closes at its end, SHORT with lines missing or when cut off by a Frame Start or a timeout (R313, R321): a dropped one has its result written at once, an in-line one goes to the pipeline's
end, another to the queue. -/
def Dev.closeFrame (d : Dev) (f : CamFrame) : Dev :=
  let short := !f.dropped && (f.short || decide (f.lines.length < f.set.h))
  let f := { f with short := short }
  let code := lowCode (if short ∨ f.timeout = true then some 0x03d0 else none) (if f.dropped then some 0x03d2 else none)
  let d := d.modCapture f.ctx (fun a => { a with since := d.run, code := lowCode a.code code })
  let d :=
    if f.dropped then (d.processFrame f false).resultDone f.ctx none
    else if f.inl then d.modPipe (fun q => { q with closed := q.closed ++ [f] })
    else (d.modPipe (fun q => { q with queue := queueFrame f q.queue })).showQueue
  d.settlePorts

/-- The open frame of a port and virtual channel closes, at its end or cut off. -/
def Dev.closeAt (d : Dev) (p vc : Nat) (cut : Bool) : Dev :=
  match (d.camPort p).frames.find? (fun f => f.vc == vc) with
  | some f => (d.modCamPort p (fun c => { c with frames := c.frames.filter (fun g => g.vc != vc), timeouts := 0 })).closeFrame
      { f with short := cut }
  | none => d

/-- The context whose capture takes a frame that starts on a port and virtual channel (R308, R312). -/
def Dev.frameTaker (d : Dev) (p vc : Nat) : Option Nat :=
  (List.range 16).find? (fun x =>
    d.get .CAM_CTX_SRC_PORT x == p && d.get .CAM_CTX_SRC_VC x == vc
      && (match (d.cam x).active with
          | some a => a.armed && decide (a.opened < a.count)
          | none => false))

/-- A frame of a context starts (R310, R317). -/
def Dev.openFrame (d : Dev) (x p vc : Nat) : Dev :=
  let d := (d.latchCam x).loadTables x
  let c := d.cam x
  let n := max (d.eff .CAM_CTX_BUF_COUNT x) 1
  let k := c.nextBuf % n
  let full := (Tab.get {} c.bufs k).busy
  let a := c.active
  let f : CamFrame := {
    ctx := x, port := p, vc := vc, start := d.now, number := c.frameNo, set := d.camSet x, job := a.map (·.job),
    k := (a.map (·.opened)).getD 0, buf := if full then none else some k, inl := d.isInline p, dropped := full }
  let d := d.modCam x (fun c => { c with
    frameNo := (c.frameNo + 1) % 2 ^ 32, nextBuf := if full then c.nextBuf else (k + 1) % n,
    bufs := if full then c.bufs else Tab.set {} c.bufs k { busy := true, port := p } })
  let d := d.modCapture x (fun a => { a with opened := a.opened + 1 })
  let d := if full then d.bump .CAM_PORT_DROP_OVERRUN 1 p else d
  d.modCamPort p (fun c => { c with frames := c.frames ++ [f] })

/-- CSI_FRAME_START (R312, R321). -/
def execCsiFrameStart (dt : Nat) (p : Fin 8) (vc : Fin 4) (s : State) : Host.Outcome State Fault Refusal :=
  s.act dt (fun d => d.when (d.eff .CAM_PORT_CFG_ENABLE p.val == 1 && d.inService 44) (fun d =>
    let d := d.closeAt p.val vc.val true
    match d.frameTaker p.val vc.val with
    | some x => d.openFrame x p.val vc.val
    | none => d.bump .CAM_PORT_ERR_UNSOLICITED 1 p.val))

/-- A good long packet of a virtual channel (R307, R321). -/
def Dev.takeLine (d : Dev) (p vc dt : Nat) (data : List Byte) : Dev :=
  match (d.camPort p).frames.find? (fun f => f.vc == vc) with
  | none => d
  | some f =>
    let px := pixelsOf dt data
    if f.dropped ∨ dt ≠ f.set.dt ∨ px.length < f.set.w then d
    else
      let put (d : Dev) (g : CamFrame) : Dev :=
        d.modCamPort p (fun c => { c with frames := c.frames.map (fun h => if h.vc == vc then g else h) })
      if f.set.h ≤ f.lines.length then put d { f with extra := f.extra + 1 }
      else
        let line := px.take f.set.w
        let d := match f.buf with
          | some k => if f.stored then
              d.dramWrite (d.bufBase f.ctx k + f.lines.length * f.set.w * 2) (line.flatMap (leBytes 2)) else d
          | none => d
        put d { f with lines := f.lines ++ [line] }

/-- CSI_LINE: a packet other than Frame Start and Frame End (R306, R307). -/
def execCsiLine (dt : Nat) (p : Fin 8) (header : Word) (data : List Byte) (crc : BitVec 16) (s : State) :
    Host.Outcome State Fault Refusal :=
  s.act dt (fun d => d.when (d.eff .CAM_PORT_CFG_ENABLE p.val == 1 && d.inService 44) (fun d =>
    match eccCheck header.toNat with
    | none => d.bump .CAM_PORT_ERR_HDR_DROP 1 p.val
    | some (h, fixed) =>
      let d := if fixed then d.bump .CAM_PORT_ERR_ECC_FIX 1 p.val else d
      let typ := bitsOf h 5 0
      if bitsOf h 25 24 ≠ 0 then d.bump .CAM_PORT_ERR_HDR_DROP 1 p.val
      else if typ < 0x10 then d
      else if typ < 0x2a ∨ 0x2d < typ then d.bump .CAM_PORT_DROP_DT_DROP 1 p.val
      else if csiCrc data ≠ crc.toNat then d.bump .CAM_PORT_ERR_CRC_ERR 1 p.val
      else d.takeLine p.val (bitsOf h 7 6) typ (data.take (bitsOf h 23 8))))

/-- CSI_FRAME_END (R321). -/
def execCsiFrameEnd (dt : Nat) (p : Fin 8) (vc : Fin 4) (s : State) : Host.Outcome State Fault Refusal :=
  s.act dt (fun d => d.when (d.eff .CAM_PORT_CFG_ENABLE p.val == 1 && d.inService 44) (fun d => d.closeAt p.val vc.val false))

/-! ### Timeouts (R313, R441) -/

/-- The result block of a frame that did not start in time (R313). -/
def Dev.lateBlock (d : Dev) (x : Nat) (a : Capture) : Dev :=
  let f : CamFrame := {
    ctx := x, port := d.get .CAM_CTX_SRC_PORT x, start := 0, number := (d.cam x).frameNo, set := d.camSet x,
    job := some a.job, k := a.opened, timeout := true }
  let r : Result := { lines := 0, flags := 8 }
  (d.hostResult f [] (f.emptyBlock 8)).noteResult f r

/-- The timeout of a capture's frame (R313). -/
def Dev.frameTimeout (d : Dev) (x : Nat) (a : Capture) : Dev :=
  let p := d.get .CAM_CTX_SRC_PORT x
  let d := d.modCamPort p (fun c => { c with timeouts := c.timeouts + 1 })
  match (d.camPort p).frames.find? (fun f => f.ctx == x) with
  | some f =>
    let d := d.modCamPort p (fun c => { c with frames := c.frames.filter (fun g => g.ctx != x) })
    (d.closeFrame { f with timeout := true, short := true }).stopCapture x 0x03d0
  | none => (d.lateBlock x a).stopCapture x 0x03d0

/-- CAM_FRAME_TIMEOUT (R313). -/
def execCamFrameTimeout (dt : Nat) (x : Fin 16) (s : State) : Host.Outcome State Fault Refusal :=
  s.act dt (fun d =>
    match (d.cam x.val).active with
    | some a =>
      if a.armed = true ∧ (a.opened < a.count ∨ d.receiving x.val = true)
          ∧ a.since + d.get .CAM_CTX_CFG_TIMEOUT_MS x.val * qMs ≤ d.run then d.frameTimeout x.val a else d
    | none => d)

/-- CAM_PORT_RESET: CAM_TMO_MAX consecutive timeouts reset the port alone, counted and reported as R438 says (R441 kind 7). A frame being
received on it is closed as it stands. -/
def execCamPortReset (dt : Nat) (p : Fin 8) (s : State) : Host.Outcome State Fault Refusal :=
  s.act dt (fun d => d.when (decide (d.get .MGT_TMO_CAM_TMO_MAX ≤ (d.camPort p.val).timeouts)) (fun d =>
    let fs := (d.camPort p.val).frames
    let d := d.setCamPort p.val {}
    let d := fs.foldl (fun d f => d.closeFrame f) d
    let d := ((d.put .MGT_LAST_UNIT 44).put .MGT_LAST_KIND 7).bump .MGT_UNIT_FAULTS 1 44
    (d.record 0x0d02 4 (recSource 48 63) 44 7).occur 451))

/-! ### The pipeline (R309, R311, R314, R316) -/

/-- The raw lines of a buffer (R317). -/
def Dev.bufLines (d : Dev) (x k : Nat) (s : CamSet) (n : Nat) : Image :=
  (List.range n).map (fun r => wordsLe 2 (d.dram.readList (d.bufBase x k + r * s.w * 2) (s.w * 2)) s.w)

/-- The set-up of a re-processing: the target context's, with the geometry of the buffer's frame (R311). -/
def Dev.reprocSet (d : Dev) (j : Job) : CamSet :=
  let mine := d.camSet (j.target - 0x60)
  match (Tab.get {} (d.cam (j.bits 235 232)).bufs (j.bits 231 224)).set with
  | some g => { mine with w := g.w, h := g.h, dt := g.dt }
  | none => mine

/-- Why a re-processing cannot run: no raw frame in the buffer, or a result buffer too small (R311). -/
def Dev.reprocCode (d : Dev) (j : Job) : Option Nat :=
  lowest [(!(Tab.get {} (d.cam (j.bits 235 232)).bufs (j.bits 231 224)).raw, 0x02d0),
    (decide (j.bits 223 192 < resultLen + (d.reprocSet j).imageBytes), 0x01d0)]

/-- The frame of a re-processing joins the pipeline's queue (R316). -/
def Dev.queueReproc (d : Dev) (j : Job) (set : CamSet) : Dev :=
  let b := Tab.get {} (d.cam (j.bits 235 232)).bufs (j.bits 231 224)
  let f : CamFrame := {
    ctx := j.bits 235 232, port := b.port, start := d.now, number := b.number, set := set, job := some j.id, reproc := true,
    buf := some (j.bits 231 224) }
  (d.modPipe (fun q => { q with queue := queueFrame f q.queue })).showQueue

/-- CAM_REPROC waits in the queue by its execution instant (R310, R311, R316, R322). -/
def execCamReproc (dt : Nat) (job : Nat) (s : State) : Host.Outcome State Fault Refusal :=
  s.act dt (fun d => d.withJob job 0x61 (fun d j =>
    match d.reprocCode j with
    | some c => d.complete j.id c
    | none => (d.begin' j).queueReproc j (d.reprocSet j)))

/-- PIPELINE_ENTRY_START: the next entry of the queue (R316). -/
def execPipelineEntryStart (dt : Nat) (s : State) : Host.Outcome State Fault Refusal :=
  s.act dt (fun d => d.when (d.pipe.busy.isNone && d.inService 44) (fun d =>
    match d.pipe.queue with
    | f :: rest => (d.modPipe (fun q => { q with queue := rest, busy := some f })).showQueue
    | [] => d))

/-- A reprocessed buffer: its present content, with the Frame Start it holds (R322). -/
def Dev.reprocess (d : Dev) (f : CamFrame) : Dev :=
  let b := Tab.get {} (d.cam f.ctx).bufs (f.buf.getD 0)
  let f := { f with
    start := b.start, number := b.number, extra := b.extra, short := hasBit b.flags 0,
    lines := d.bufLines f.ctx (f.buf.getD 0) f.set b.lines }
  let d := d.processFrame f false
  match f.job with
  | some id => d.complete id 0
  | none => d

/-- PIPELINE_FRAME_DONE: the closed in-line frame of a context, or the entry in progress, has been processed
(R314, R316). -/
def execPipelineFrameDone (dt : Nat) (x : Fin 16) (s : State) : Host.Outcome State Fault Refusal :=
  s.act dt (fun d => d.when (d.inService 44) (fun d =>
    match d.pipe.closed.find? (fun f => f.ctx == x.val), d.pipe.busy with
    | some f, _ =>
      let d := d.modPipe (fun q => { q with closed := q.closed.erase f })
      (d.processFrame f false).resultDone x.val none
    | none, some f =>
      if f.ctx ≠ x.val then d
      else
        let d := d.modPipe (fun q => { q with busy := none })
        if f.reproc then d.reprocess f else (d.processFrame f false).resultDone x.val none
    | none, none => d))

/-- A write to CAM_INLINE (R309). -/
def Dev.writeInline (d : Dev) (value : Nat) : Dev := (d.modPipe (fun q => { q with inlineNew := some (value % 256) })).settlePorts

/-- CAM_INLINE_WRITE (R309). -/
def execCamInlineWrite (dt : Nat) (value : Word) (s : State) : Host.Outcome State Fault Refusal :=
  s.act dt (fun d => d.byFn 0 (fun d => d.writeInline value.toNat))

/-- A context of a frozen function takes no frame from its next frame start; frames in progress go to DRAM only
(R106). -/
def Dev.freezeContext (d : Dev) (x : Nat) : Dev :=
  let drop (f : CamFrame) : CamFrame := if f.ctx = x then { f with job := none } else f
  let d := (d.modCam x (fun c => { c with active := none, tables := [] })).lower .CAM_CTX_STAT_ACTIVE x
  let d := (List.range 8).foldl (fun d p => d.modCamPort p (fun c => { c with frames := c.frames.map drop })) d
  (d.modPipe (fun q => { q with
    queue := (q.queue.filter (fun f => !(f.reproc && (f.job.bind d.job).any (fun j => j.target == 0x60 + x)))).map drop, busy := q.busy.map drop,
    closed := q.closed.map drop })).showQueue

end Sys2Proof.Machine
end

