-- ==== Sys2Proof/Machine/Islands.lean ====
section
/-! DEFINITION. Islands (R16 to R38): clock requests, dowel pulses and holdover, bridge errors. The meanings of
SYS_ISL_CFG_WRITE, ISLAND_RELOCK_DONE, DOWEL_PULSE, HOLDOVER_ENTRY, BRIDGE_ERR and SYS_ISL_TOFS_READ. -/

namespace Sys2Proof.Machine

open Sys2Proof

/-! ### Clock and supply (R17, R18) -/

/-- A request for an engine island's clock: in range it is kept for the layer boundary, or acts at once on an island out
of service; islands 34 to 48 ignore it (R17, R18). -/
def Dev.requestClock (d : Dev) (n value : Nat) : Dev :=
  let f := value % 256
  if 34 ≤ n then d
  else if f < 160 ∨ 250 < f then d.reject .SYS_ISL_CFG n
  else
    let d := d.put .SYS_ISL_CFG_FREQ_MHZ f n
    if d.flag .SYS_ISL_STAT_IN_SERVICE n then d else d.startRelock n

/-- A write of an engine island's clock request (R17, R18). -/
def execSysIslCfgWrite (dt : Nat) (n : Fin 49) (value : Word) (s : State) : Host.Outcome State Fault Refusal :=
  s.act dt (fun d => d.byFn 0 (fun d => d.requestClock n value.toNat))

/-- An island's relock ends: the new clock is in force, and the supply is lowered last; a change that came due meanwhile begins
(R18). -/
def execIslandRelockDone (dt : Nat) (n : Fin 49) (s : State) : Host.Outcome State Fault Refusal :=
  s.act dt (fun d =>
    d.when (d.flag .SYS_ISL_STAT_RELOCK n) (fun d =>
      let f := (d.island n).pendingMhz
      let d := (d.put .SYS_ISL_STAT_FREQ_MHZ f n).put .SYS_ISL_STAT_VOLT (supplyOf f) n
      let x := d.island n
      let d := (d.setIsland n { x with pendingMhz := 0, again := false }).lower .SYS_ISL_STAT_RELOCK n
      (if x.again then d.startRelock n else d).windowEnd))

/-! ### Device time (R25 to R30) -/

/-- Half a nanosecond in units of 1/256 ns (R27, R29). -/
def halfNs : Nat := 128

/-- A dowel delay on its way to a new value moves at most 8/256 ns at a pulse (R420). -/
def Dev.trimDowel (d : Dev) : Dev :=
  let mine := d.cal.fresh.filter (fun c => c.fld == .CAL_DOWEL_DELAY || c.fld == .CAL_DOWEL_TC)
  mine.foldl (fun d c =>
    let cur := d.gets c.fld c.i
    let new := sInt 16 c.val
    let next := if c.fld = .CAL_DOWEL_DELAY then cur + clampI (-8) 8 (new - cur) else new
    let d := d.puts c.fld next c.i
    if next = new then { d with cal := { d.cal with fresh := d.cal.fresh.filter (fun x => x != c) } } else d) d

/-- What an island's replica of device time reads: it free-runs from its last correction at its last corrected rate (R25,
R30). -/
def Dev.replicaTime (d : Dev) (n : Nat) : Int :=
  let x := d.island n
  let t : Int := ((d.run - x.replicaAt : Nat) : Int)
  x.replica + t + t * x.replicaRate / 1000000000

/-- A replica takes the phase of a dowel pulse; the rate its servo settles on is a free value (R27). -/
def Dev.correctReplica (d : Dev) (n : Nat) : Dev :=
  (d.setIsland n { d.island n with
    lastDowel := d.run, replica := (d.now : Int), replicaAt := d.run, replicaRate := sInt 32 (d.freeBits 32) }).freeNext

/-- The pulse reaches an island: its offset is measured and its replica corrected (R27). One within 0.5 ns ends holdover and
lets a returning island have work (R30, R38); one beyond faults the island (R29), unless it is still resynchronising (R38). -/
def Dev.takeDowel (d : Dev) (n : Nat) (off : Int) : Dev :=
  let d := d.put .SYS_ISL_TOFS_OFFSET (satS 16 off) n
  let d := d.put .SYS_ISL_TOFS_PEAK (max (d.get .SYS_ISL_TOFS_PEAK n) (min off.natAbs 255)) n
  let d := d.correctReplica n
  let x := d.island n
  if off.natAbs ≤ halfNs then
    (d.setIsland n { x with resync := x.resync && !d.flag .SYS_ISL_STAT_IN_SERVICE n }).lower .SYS_ISL_STAT_HOLDOVER n
  else if x.resync then d
  else (d.raise .SYS_ISL_STAT_REPLICA_ERR n).unitFault n 3 0

/-! ### The freeze of a function (R105 to R109) -/

/-- A planned record with the records its path runs on into through blended corners. -/
def chainOf : List Plan → List Plan
  | [] => []
  | p :: ps => p :: (if p.blended = some true then chainOf ps else [])

/-- The end of a plan decided: blended stays, an open end is tenoned. -/
def Plan.ended (p : Plan) : Plan := if p.blended.isNone then { p with blended := some false } else p

/-- A plan executed with its gate low. -/
def Plan.darkened (p : Plan) : Plan := { p with r := { p.r with dark := true } }

/-- The move to the park position from a point and an instant (R125, R134). -/
def Dev.parkMove (d : Dev) (n : Nat) (p : Pt) (t : Nat) : List Piece :=
  let l := d.regLims n
  let dest : Pt := { x := d.gets .ENG_PARK_X_POS n, y := d.gets .ENG_PARK_Y_POS n, z := 0 }
  let mv := offMove l p dest (d.eng n).nextSer t (l.vjump * 1000000) 0
  if mv.isEmpty then [{ kind := .rest, t0 := t, dur := 0, p := dest, q := dest }] else mv

/-- The first vectors per zone among some records that go unexposed, for the engine's own notices (R192). -/
def cutOf (cut : Tab Nat) (rs : List LRec) : Tab Nat :=
  rs.foldl (fun t r => match r.share with
    | some s => if s.pass || Tab.get 0 t s.zone != 0 then t else Tab.set 0 t s.zone (s.vidx + 1)
    | none => t) cut

/-- The limits that an engine's stream has still to bring into its look-ahead. -/
def Dev.limsAhead (d : Dev) (n : Nat) : List (Nat × Lims) :=
  let e := d.eng n
  (e.fifo.filterMap (fun x => match x with | .limits j => some j | _ => none) ++ e.stream).filterMap (fun id =>
    ((d.job id).filter (fun j => j.opcode == 0x33)).map (fun j => (id, j.lims)))

/-- The rest of an engine's work discarded: its FIFO, its look-ahead, its plans but for those kept, and the requests of all but the
record that keeps its light. Limits and a swap point of the stream that it had still to reach come at the rest. -/
def Dev.discardWork (d : Dev) (n : Nat) (kept : List Plan) (lit : List Nat) : Dev :=
  let ws := d.kerf.reqs.filter (fun r => r.eng == n && !lit.contains r.ser)
  let d := (ws.foldl (fun d r => d.endClaim n r.ser) d).discardRecs n (fun id => (d.job id).any Job.vector)
  (d.modEng n (fun e => { e with
    plans := kept, fifo := [], stream := [], look := [], newLims := e.newLims ++ d.limsAhead n, outField := [], starved := false, unitEnd := none,
    cut := cutOf e.cut ((e.plans.filter (fun p => !kept.any (fun q => q.r.ser == p.r.ser && !q.r.dark))).map (·.r) ++ e.look),
    corr := if e.corr.pending.isSome && !e.corr.boundary then { e.corr with after := some (e.nextSer - 1) } else e.corr })).put
      .ENG_FIFO_LEVEL 0 n

/-- An engine stops its stream: the record in progress completes its motion, with the gate forced low when `dark`, and the
engine parks (R106, R125, R170, R414). A gate forced low ends its claims (R201), and passes still owed are dropped (R194). -/
def Dev.stopEngine (d : Dev) (n : Nat) (dark : Bool) : Dev :=
  let st := d.get .ENG_STAT_STATE n
  let d := if dark then (d.forceGate n).endClaims n else d
  let d := d.dropPasses n !dark
  if st = 0 ∨ st = 6 then ((d.endClaims n).discardRecs n (fun _ => true)).clearStream n
  else if (d.eng n).parking.isSome then d
  else
    match (d.eng n).plans with
    | h :: t =>
      if h.begun d.now then
        let lit := !dark && !h.r.dark
        let d := if lit then
            (if h.blended.isNone then d.growTrain n h.endTenon else d).closeTrain n h.ended.tEnd
          else d
        let kept := (if dark then h.darkened else h) ::
          (if h.blended = some true then chainOf t else []).map (fun p => p.darkened)
        let kept := kept.map Plan.ended
        let dest : Pt := { x := d.gets .ENG_PARK_X_POS n, y := d.gets .ENG_PARK_Y_POS n, z := 0 }
        let kept := match kept.getLast? with
          | some p => kept.dropLast ++
            [{ p with out := p.out ++ d.parkMove n (posAt p.r.S p.pieces p.tDone) (max p.tDone (d.eng n).horizon) }]
          | none => kept
        (d.discardWork n kept (if lit then [h.r.ser] else [])).modEng n (fun e => { e with parking := some none, tail := dest })
      else (d.discardWork n [] []).beginPark n none
    | [] =>
      let d := d.discardWork n [] []
      if st = 5 then d else d.beginPark n none

/-- The engines, tiles, axes and contexts that a function owns. -/
def Dev.enginesOf (d : Dev) (f : Nat) : List Nat := (List.range 34).filter (fun n => d.ownsEngine f (d.coveredEngine n))
def Dev.tilesOf (d : Dev) (f : Nat) : List Nat := maskList (d.get .WIN_OWN_IO_TILE f) 16
def Dev.axesOf (d : Dev) (f : Nat) : List Nat := maskList (d.get .WIN_OWN_IO_AXIS f) 8
def Dev.contextsOf (d : Dev) (f : Nat) : List Nat := maskList (d.get .WIN_OWN_CTX_CTX f) 16

/-- A frozen resource counts as having taken every mark of the open layer (R109). -/
def Dev.marksWaived (d : Dev) (t : Nat) : Dev :=
  { d with layer := { d.layer with marksTaken := Tab.set 0 d.layer.marksTaken t 8 } }

/-- An engine whose function is frozen stops at the end of its record in progress and parks; it is in no layer again until the next
LAYER_OPEN (R106 steps 3 and 4, R109, R113). -/
def Dev.freezeEngine (d : Dev) (n : Nat) : Dev :=
  let d := { d with layer := { d.layer with outEngines := setBit d.layer.outEngines n } }
  (d.marksWaived n).stopEngine n false

/-- The freeze notice reaches the islands that hold a function's resources (R106 steps 2 and 5 to 7, R109, R337). -/
def Dev.noticeFreeze (d : Dev) (f : Nat) : Dev :=
  if (d.fn f).noticed then d
  else
    let d := d.setFn f { d.fn f with noticed := true }
    let d := (d.enginesOf f).foldl (fun d n => d.freezeEngine n) d
    let d := (d.tilesOf f).foldl (fun d t => d.freezeTile t) d
    let d := (d.axesOf f).foldl (fun d a => (d.freezeAxis a).marksWaived (0x50 + a)) d
    let d := (d.contextsOf f).foldl (fun d x => (d.freezeContext x).marksWaived (0x60 + x)) d
    d.freezeTime f

/-- A violation, VF Enable cleared or a function-level reset freezes a function: its first freeze reaches the islands that
hold its resources (R105, R106 steps 1, 2, 5 to 7, R109, R337). -/
def Dev.freezeFn (d : Dev) (f cause addr : Nat) (offender : Option Nat := none) : Dev :=
  if d.frozen f then d.freeze f cause addr offender else (d.freeze f cause addr offender).noticeFreeze f

/-! ### The dowel pulse (R26 to R30) -/

/-- TIME's dowel pulse, once per microsecond: adjustments of master time take effect, and every island that receives it
corrects its replica (R26 to R30). An island that `offs` does not name misses the pulse. A freeze whose notice has not gone out yet
reaches the islands by it, within a microsecond (R106 step 2). -/
def execDowelPulse (dt : Nat) (offs : List (Fin 49 × Int)) (s : State) : Host.Outcome State Fault Refusal :=
  s.act dt (fun d =>
    d.when (d.now % qUs == 0 && d.flag .SYS_ISL_STAT_IN_SERVICE 45) (fun d =>
      let d := (List.range 8).foldl (fun d f => if d.frozen f then d.noticeFreeze f else d) d
      offs.foldl (fun d o => d.takeDowel o.1 o.2) d.timeDowel.trimDowel))

/-- Three microseconds without a dowel pulse, or TIME out of service, put an island into holdover (R30, R37). -/
def execHoldoverEntry (dt : Nat) (n : Fin 49) (s : State) : Host.Outcome State Fault Refusal :=
  s.act dt (fun d =>
    d.when (decide ((d.island n).lastDowel + 3 * qUs ≤ d.run) || !d.flag .SYS_ISL_STAT_IN_SERVICE 45) (fun d => d.raise .SYS_ISL_STAT_HOLDOVER n))

/-- A read of SYS_ISL_TOFS clears PEAK; the value read is kept as the data of the last register read. -/
def execSysIslTofsRead (dt : Nat) (n : Fin 49) (s : State) : Host.Outcome State Fault Refusal :=
  s.act dt (fun d =>
    { d.put .SYS_ISL_TOFS_PEAK 0 n with mgmt := { d.mgmt with readData := d.word .SYS_ISL_TOFS n } })

/-! ### Bridges (R22) -/

/-- An uncorrectable error in a granule that crosses from one island to another: BRIDGE_ERR at the receiver, the granule is
not used, the sender is a faulted unit (R22). -/
def execBridgeErr (dt : Nat) (recv send : Fin 49) (s : State) : Host.Outcome State Fault Refusal :=
  s.act dt (fun d => (d.raise .SYS_ISL_STAT_BRIDGE_ERR recv).unitFault send 2 0)

end Sys2Proof.Machine
end

