-- ==== Sys2Proof/Machine/Stops.lean ====
section
/-! DEFINITION. Stops of everything that exposes or moves: the safety inputs (R35, R170, R171, R286), and the freeze of a
function and its release (R104 to R113, R430). The meanings of SAFE_STOP_ASSERT, SAFE_STOP_END, GAS_OK_LOW, GAS_OK_HIGH,
FREEZE_GATE_TIMEOUT, FREEZE_SAFE, UNFREEZE_FUNCTION and UNFREEZE_PEER. -/

namespace Sys2Proof.Machine

open Sys2Proof

/-! ### Engines -/

/-- Every vector descriptor that an engine has in execution ends with a code. -/
def Dev.endVecs (d : Dev) (n code : Nat) : Dev :=
  ((d.engJobs n).filter Job.vector).foldl (fun d j => d.complete j.id code) d

/-- All light of the engines stops: gates low, motion completed, vector descriptors in execution ended (R170, R414). -/
def Dev.stopEngines (d : Dev) (code : Nat) : Dev :=
  (List.range 34).foldl (fun d n => (d.stopEngine n true).endVecs n code) d

/-! ### Safety inputs -/

/-- A channel fault in the same gate tick: its descriptor takes the lower code (R172). -/
def Dev.tickStop (d : Dev) : Dev :=
  let tick := d.now / (5 * qNs) * (5 * qNs)
  (List.range 8).foldl (fun d f => d.setFn f { d.fn f with
    waiting := (d.fn f).waiting.map (fun e => if e.status = 0x0550 ∧ tick ≤ e.time then { e with status := 0x0360 } else e) }) d

/-- The channels bound to engines become absent to their partners, their gates low (R170, R190, R191). -/
def Dev.absentEngines (d : Dev) (ns : List Nat) : Dev :=
  (ns.filter (fun n => d.get .ENG_STAT_BOUND_CH n != 63)).foldl (fun d n => (d.forceGate n).goAbsent n) d

/-- SAFE_STOP_n goes low and is acted on: gates, engines, tiles and axes stop, every engine's error source occurs, and one event
of severity 6 is recorded (R35, R170, R190, R257, R286, R368). -/
def execSafeStopAssert (dt : Nat) (s : State) : Host.Outcome State Fault Refusal :=
  s.act dt (fun d =>
    d.when (!d.pins.safeStop) (fun d =>
      let d := { d with pins := { d.pins with safeStop := true } }
      let d := ((d.absentEngines (List.range 34)).stopEngines 0x0360).tickStop
      let d := (List.range 34).foldl (fun d n => ((d.raise .ENG_GATE_STAT_SAFE_STOP n).raise .ENG_GATE_STAT_SAFE_STOP_SEEN n).occur (193 + 2 * n)) d
      ((d.stopTiles 0x03a1).emergencyStop 0x03c1).record 0x0303 6 (recSource 40 63)))

/-- SAFE_STOP_n has been high for 10 ms without a break: the SAFE_STOP state ends (R170). -/
def execSafeStopEnd (dt : Nat) (s : State) : Host.Outcome State Fault Refusal :=
  s.act dt (fun d =>
    (List.range 34).foldl (fun d n => d.lower .ENG_GATE_STAT_SAFE_STOP n) { d with pins := { d.pins with safeStop := false } })

/-- GAS_OK at a level: KRF_STAT.GAS_BLOCK shows it low (R35). -/
def Dev.setGas (d : Dev) (ok : Bool) : Dev := { d with pins := { d.pins with gasOk := ok } }.putB .KRF_STAT_GAS_BLOCK !ok

/-- GAS_OK goes low: KERF grants no start, and engines that request one are held for it (R35, R171). -/
def execGasOkLow (dt : Nat) (s : State) : Host.Outcome State Fault Refusal :=
  s.act dt (fun d =>
    let d := d.setGas false
    (d.kerf.reqs.filter KReq.waits).foldl (fun d r => (d.showKerf r.eng).showState r.eng) d)

/-- GAS_OK returns high: the hold ends at KERF's next grant (R171). -/
def execGasOkHigh (dt : Nat) (s : State) : Host.Outcome State Fault Refusal := s.act dt (fun d => d.setGas true)

/-! ### The lock (R105, R456) -/

/-- A write by a function, checked against the lock: one that would change a locked field freezes its master with CAUSE 6
and leaves those fields (R5, R105, R456). -/
def Dev.lockChecked (d : Dev) (fn : Nat) (r : Reg) (i j value : Nat) (g : Dev → Dev) : Dev :=
  if d.breaksLock r i j value then (g d).freezeFn fn 6 (r.addr i j) else g d

/-- Ten microseconds into a freeze: gates low at any point, no new record, and every owned engine jumps to its park position
(R106 steps 3 and 4). -/
def execFreezeGateTimeout (dt : Nat) (fn : Fin 8) (s : State) : Host.Outcome State Fault Refusal :=
  s.act dt (fun d =>
    let x := d.fn fn
    d.when (d.frozen fn && !d.flag .WIN_FRZ_STAT_SAFE fn && !x.gatesForced && decide (x.frozenAt + 10 * qUs ≤ d.run)) (fun d =>
      let d := ((d.setFn fn { x with gatesForced := true }).noticeFreeze fn).absentEngines (d.enginesOf fn)
      (d.enginesOf fn).foldl (fun d n => d.stopEngine n true) d))

/-- Whether every resource of a frozen function is safe (R106 step 8). -/
def Dev.allSafe (d : Dev) (f : Nat) : Bool :=
  (d.enginesOf f).all (fun n =>
      let st := d.get .ENG_STAT_STATE n
      let e := d.eng n
      (st == 0 || st == 5 || st == 6 || d.get .ENG_STAT_BOUND_CH n == 63) && e.plans.isEmpty && e.look.isEmpty && e.fifo.isEmpty
        && e.stream.isEmpty)
    && (d.tilesOf f).all (fun t => !d.attached t)
    && (d.axesOf f).all (fun a => d.axisRests a)
    && (d.contextsOf f).all (fun x => !d.receiving x && d.pipe.busy.all (fun b => b.ctx != x))

/-- Whether any part of a descriptor has executed (R107). -/
def Job.begun (j : Job) : Bool := j.partly || (j.status == .executing && !j.vector && j.opcode != 0x21)

/-- The completions of a frozen function's open descriptors (R107). One that carries a lower code already completes with that (R86;
DESIGN CHOICE for a descriptor other than the offending one). -/
def Dev.endFrozen (d : Dev) (f : Nat) : Dev :=
  let cause := d.get .WIN_FRZ_STAT_CAUSE f
  let off := (d.fn f).offender
  let js := d.jobs.filter (fun j => j.fn == f)
  js.foldl (fun d j =>
    if j.status = .replayable then d.dropJob j.id
    else if cause = 8 ∨ cause = 9 then d.complete j.id 0x0441
    else if off = some j.id then d.complete j.id 0
    else d.complete j.id (if j.begun then 0x0440 else 0x0401)) d

/-- Waiting completion entries of a function are dropped and counted (R431). -/
def Dev.dropEntries (d : Dev) (f : Nat) : Dev :=
  (d.bump .MGT_STAT_HOSTQ_LOST (d.fn f).waiting.length).setFn f { d.fn f with waiting := [] }

/-- The HIF_ and INT_ registers of a function, its rings, event ring and ACK state at reset: the completions of descriptors
that are still open are dropped when they come (R430, R431). -/
def Dev.resetHost (d : Dev) (f : Nat) : Dev :=
  let d := d.dropEntries f
  let d := d.resetWhere (fun c =>
    let b := c.fld.reg.place.base
    c.i == f && (decide (0x10000 ≤ b ∧ b < 0x20000) || decide (0x32000 ≤ b ∧ b < 0x34000)))
  let d := { d with jobs := d.jobs.map (fun (j : Job) => if j.fn == f then { j with orphan := true } else j) }
  let x := d.fn f
  let d := d.setFn f { x with
    held := [], sq := [], cq := [], evq := {}, hostState := 0, ack := [], polling := false, pollReads := [], lastPoll := 0, pollFails := 0,
    lastRing := [], waiting := [] }
  let d := { d with vecs := d.vecs.filter (fun v => v.1 / 64 != f) }
  d.showFlight f

/-- The vectors of a function leave the active state: their sources are pending if they have occurred since, else idle (R113,
R379). -/
def Dev.leaveActive (d : Dev) (f : Nat) : Dev :=
  let ss := d.regs.filterMap (fun c => if c.fld = .INT_SRC_STAT_ACTIVE ∧ (d.src c.i).taker = f then some c.i else none)
  let d := ss.foldl (fun d s => d.lower .INT_SRC_STAT_ACTIVE s) d
  let d := (List.range 64).foldl (fun d v => if d.flag .INT_VEC_STAT_ACTIVE f v then (d.lower .INT_VEC_STAT_ACTIVE f v).latchVec f v
    else d) d
  (List.range 64).foldl (fun d v => d.refreshVec f v) (d.put .INT_STAT_RUNNING 16 f)

/-- A function is released: its rings are disabled and its resources wait for a new descriptor (R113). -/
def Dev.unfreeze (d : Dev) (f : Nat) : Dev :=
  let d := (d.lower .WIN_FRZ_STAT_FROZEN f).lower .WIN_FRZ_STAT_SAFE f
  let d := d.put .WIN_FRZ_STAT_CAUSE 0 f
  let d := (List.range 64).foldl (fun d r => (d.lower .HIF_SQ_CFG_ENABLE f r).setSq f r { d.sq f r with outstanding := 0 }) d
  let d := (List.range 16).foldl (fun d c => d.lower .HIF_CQ_CFG_ENABLE f c) d
  let d := (d.lower .INT_EVQ_CFG_ENABLE f).leaveActive f
  (d.setFn f { d.fn f with offender := none, gatesForced := false, byViolation := false }).showFlight f

/-- Every source, peer slot and forwarding count of the interrupt controller at reset: the events that wait are dropped and
counted (R431). -/
def Dev.resetSources (d : Dev) : Dev :=
  let d := d.bump .MGT_STAT_HOSTQ_LOST ((d.pendingSrcs.filter (fun s => s != 144)).length + d.recorder.mirror.length)
  let d := { d with recorder := { d.recorder with mirror := [] } }
  { d.resetWhere (fun c =>
      let b := c.fld.reg.place.base
      decide (0x30000 ≤ b ∧ b < 0x32000) || decide (0x34000 ≤ b ∧ b < 0x40000)) with srcs := [] }

/-- A function-level reset completes once the function is safe (R430). -/
def Dev.finishFlr (d : Dev) (f : Nat) : Dev :=
  let x := d.fn f
  if x.flr then
    let d := (d.setFn f { x with flr := false, busMaster := false }).resetHost f
    let d := if f = 0 then d.resetSources else d
    if x.byViolation then d else d.unfreeze f
  else d

/-- Every resource of a frozen function is safe: SAFE, the completions, the event and the source (R106 step 8, R107, R368). -/
def execFreezeSafe (dt : Nat) (fn : Fin 8) (s : State) : Host.Outcome State Fault Refusal :=
  s.act dt (fun d =>
    let d := if d.frozen fn then d.noticeFreeze fn else d
    d.when (d.frozen fn && !d.flag .WIN_FRZ_STAT_SAFE fn && d.allSafe fn) (fun d =>
      let d := if (d.fn fn).gatesForced then d else d.absentEngines (d.enginesOf fn)
      let cause := d.get .WIN_FRZ_STAT_CAUSE fn
      let d := (d.raise .WIN_FRZ_STAT_SAFE fn).endFrozen fn
      let d := d.record 0x0210 (if cause = 8 ∨ cause = 9 then 2 else 5) (recSource 35 63) fn.val cause
        (d.get .WIN_FRZ_ADDR_LO_ADDR fn) (d.get .WIN_FRZ_ADDR_HI_ADDR fn)
      ((d.occur (128 + fn.val)).occur (136 + fn.val)).finishFlr fn))

/-- The unfreeze of a function 1 to 7 that is safe; any other is not applied (R112). -/
def Dev.releaseFn (d : Dev) (f : Nat) : Dev :=
  if f ≠ 0 ∧ d.flag .WIN_FRZ_STAT_SAFE f = true then d.unfreeze f else d.reject .WIN_FRZ_CTL

/-- A write of WIN_FRZ_CTL by function 0 with KIND 0b01: a frozen function 1 to 7 that is safe is released; one that is not
safe, or function 0, sets CFG_REJ (R112, R113). -/
def execUnfreezeFunction (dt : Nat) (fn : Fin 8) (s : State) : Host.Outcome State Fault Refusal :=
  s.act dt (fun d => d.byFn 0 (fun d => d.releaseFn fn))

/-- A write of WIN_FRZ_CTL by function 0 with KIND 0b10: a frozen peer is released (R112). -/
def execUnfreezePeer (dt : Nat) (dev : Fin 1024) (s : State) : Host.Outcome State Fault Refusal :=
  s.act dt (fun d => d.byFn 0 (fun d =>
    d.put .WIN_PEER_FRZ_FROZEN (clearBit (d.get .WIN_PEER_FRZ_FROZEN (dev / 32)) (dev % 32)) (dev / 32)))

end Sys2Proof.Machine
end

