-- ==== Sys2Proof/Machine/Thermal.lean ====
section
/-! DEFINITION. Temperature (R32, R407 to R416, R419): sensors, governors, slow-down, enforcement and thermal stop. The
meanings of THERMAL_SAMPLE, GOVERNOR_STEP, THERMAL_GRACE_EXPIRE and THM_RELEASE. -/

namespace Sys2Proof.Machine

open Sys2Proof

/-! ### Neighbours (R31) -/

/-- Whether a bridge joins two different islands: the paths of R33, HOST and MGMT reached from every island. -/
def bridged (a b : Nat) : Bool :=
  let one (x y : Nat) : Bool :=
    x == 34 || x == 48
      || (decide (x < 34) && [35, 38, 39, 40, 41, 47].contains y)
      || (x == 35 && [36, 37, 38, 42, 43, 44].contains y)
      || ((x == 36 || x == 37) && [38, 42, 44, 46].contains y)
      || (x == 38 && [42, 46].contains y)
      || (x == 39 && [42, 46, 47].contains y)
      || (x == 42 && y == 47) || (x == 43 && y == 47) || (x == 45 && y == 47) || (x == 46 && y == 47)
  a != b && (one a b || one b a)

/-- Whether two islands are neighbours: joined by a bridge or touching on the die (R31). -/
def neighbours (a b : Nat) : Bool :=
  bridged a b || (min a b == 5 && max a b == 6) || (a != b && Config.touches (min a b) (max a b))

/-! ### Readings (R407 to R409) -/

/-- A sensor's reading in 1/16 °C: its last one, or, in the sample that finds it broken, the one before that. -/
def Dev.reading (d : Dev) (k : Nat) : Int := (d.sensor k).last.getD (d.gets .THM_TEMP_TEMP k)

/-- A sensor that has been sampled and is not left out: one found broken is left out from the next sample on (R416). Until then the
reading before the broken one stands (DESIGN CHOICE). -/
def Dev.sensorOk (d : Dev) (k : Nat) : Bool :=
  (d.sensor k).sampled && (!d.flag .THM_TEMP_BROKEN k || (d.sensor k).last.isSome)

/-- The highest of a list of readings. -/
def highestOf : List Int → Option Int
  | [] => none
  | x :: xs => match highestOf xs with | some y => some (max x y) | none => some x

/-- The highest valid reading among the sensors that `p` selects. -/
def Dev.hottest (d : Dev) (p : Nat → Bool) : Option Int :=
  highestOf (((List.range 64).filter (fun k => p k && d.sensorOk k)).map d.reading)

/-- The highest valid reading on the device (R408). -/
def Dev.tMax (d : Dev) : Int := (d.hottest (fun _ => true)).getD (d.gets .THM_STAT_T_MAX)

/-- An island's temperature: its own highest valid reading, else the highest valid reading among its sensors' neighbours,
else T_MAX (R408, R409). -/
def Dev.islandTemp (d : Dev) (n : Nat) : Int :=
  match d.hottest (fun k => sensorIsland k == n) with
  | some t => t
  | none => (d.hottest (fun k => neighbours (sensorIsland k) n)).getD d.tMax

/-- Whether two different sensors are neighbours (R409). -/
def sensorNear (a b : Nat) : Bool :=
  a != b && (sensorIsland a == sensorIsland b || neighbours (sensorIsland a) (sensorIsland b))

/-- A raw code with the sensor's trim: gain about 0, then offset. -/
def Dev.trimmed (d : Dev) (k : Nat) (raw : Int) : Int :=
  roundHalfUp (raw * (d.get .CAL_SENSOR_GAIN k : Int)) 32768 + d.gets .CAL_SENSOR_OFFSET k

/-- What makes a reading broken (R409): 1 outside −55 to +150 °C, 2 a jump of more than 5 °C, 3 stuck for 256 samples while a
neighbour has moved by 1 °C; 0 for a good one. -/
def Dev.brokenCause (d : Dev) (k : Nat) (s : Sensor) (new : Int) (all : List Int) : Nat :=
  if new < -880 ∨ 2400 < new then 1
  else if s.sampled ∧ 80 < (new - s.reading).natAbs then 2
  else if 256 ≤ s.same ∧ (List.range 64).any (fun j =>
      sensorNear k j && !d.flag .THM_TEMP_BROKEN j && decide (16 ≤ (all.getD j 0 - s.base.getD j 0).natAbs)) = true then 3
  else 0

/-- One sensor takes its sample; `all` holds the new readings of every sensor (R408, R409). -/
def Dev.takeSample (d : Dev) (k : Nat) (raw : Int) (all : List Int) : Dev :=
  let x := d.sensor k
  let new := all.getD k 0
  let run := x.sampled && x.raw == raw
  let s : Sensor := { x with same := if run then x.same + 1 else 1, base := if run then x.base else all }
  let cause := if d.flag .THM_TEMP_BROKEN k then 0 else d.brokenCause k s new all
  let d := d.setSensor k { s with
    sampled := true, raw := raw, reading := new, last := if cause ≠ 0 ∧ x.sampled then some x.reading else none }
  let d := d.put .THM_TEMP_TEMP (satS 16 new) k
  if cause = 0 then d else (d.raise .THM_TEMP_BROKEN k).record 0x0c04 3 (recSource 48 63) k cause

/-- THM_STAT's view of the sensors. -/
def Dev.showThermal (d : Dev) : Dev :=
  let t := d.tMax
  let d := d.putB .THM_STAT_BROKEN_ANY ((List.range 64).any (fun k => d.flag .THM_TEMP_BROKEN k))
  let hot := (d.hottest (fun _ => true)).any (fun t => decide (1440 ≤ t))
  (d.putB .THM_STAT_FAST hot).put .THM_STAT_T_MAX (satS 16 t)

/-- The comparison of two neighbouring islands: GRADIENT above 35 °C in the hotter one, armed again below 33 °C (R32).
DESIGN CHOICE: the flag itself, like its event, is not set again by later samples until the difference has fallen below 33 °C. -/
def Dev.compareIslands (d : Dev) (a b : Nat) (ta tb : Int) : Dev :=
  let diff := (ta - tb).natAbs
  let seen := d.therm.gradients.contains (a, b)
  if 560 < diff ∧ seen = false then
    let hot := if tb < ta then a else b
    let d := { d with therm := { d.therm with gradients := d.therm.gradients ++ [(a, b)] } }
    ((d.raise .SYS_ISL_STAT_GRADIENT hot).record 0x0101 3 (recSource hot 63) a b diff).occur 450
  else if diff < 528 ∧ seen = true then
    { d with therm := { d.therm with gradients := d.therm.gradients.filter (fun p => p != (a, b)) } }
  else d

/-- Every pair of neighbouring islands compared (R32). -/
def Dev.compareAll (d : Dev) : Dev :=
  let temps := (List.range 49).map d.islandTemp
  (List.range 49).foldl (fun d a =>
    ((List.range 49).filter (fun b => decide (a < b) && neighbours a b)).foldl
      (fun d b => d.compareIslands a b (temps.getD a 0) (temps.getD b 0)) d) d

/-! ### Compensation (R410, R418, R419) -/

/-- Target delay of a logical tap and a delay, compared in units of 1/64 ps: 78.125 ps is 5,000 of them. -/
def tapTarget (j : Nat) : Int := 5000 * (j : Int)

/-- The usable physical taps: each step from the tap before lies in 40 to 120 ps. Delays in 1/64 ps (R418). -/
def usableTaps (ds : List Int) : List Nat :=
  0 :: (rangeFrom 1 71).filter (fun p =>
    let s := ds.getD p 0 - ds.getD (p - 1) 0
    decide (40 * 64 ≤ s ∧ s ≤ 120 * 64))

/-- The tap of a list nearest to a target, the lower on a tie. -/
def nearestTap (ds : List Int) (target : Int) : List Nat → Option Nat
  | [] => none
  | p :: ps =>
    match nearestTap ds target ps with
    | some q => if (ds.getD p 0 - target).natAbs ≤ (ds.getD q 0 - target).natAbs then some p else some q
    | none => some p

/-- The tap map of R418 from the logical tap `j` on, with `n` taps to go and usable taps left; none when it fails. -/
def tapMapFrom (ds : List Int) (usable : List Nat) (j : Nat) : Nat → Option (List Nat)
  | 0 => some []
  | n + 1 =>
    match nearestTap ds (tapTarget j) usable with
    | none => none
    | some p =>
      if 60 * 64 < (ds.getD p 0 - tapTarget j).natAbs then none
      else (tapMapFrom ds (usable.filter (fun q => decide (p < q))) (j + 1) n).map (p :: ·)

/-- The tap map of R418 for delays in 1/64 ps. -/
def tapMap (ds : List Int) : Option (List Nat) := tapMapFrom ds (usableTaps ds) 0 64

/-- The words of a tap map, four taps each (CAL_TAP_MAP). -/
def tapWord (m : List Nat) (k : Nat) : Nat :=
  m.getD (4 * k) 0 + m.getD (4 * k + 1) 0 * 2 ^ 8 + m.getD (4 * k + 2) 0 * 2 ^ 16 + m.getD (4 * k + 3) 0 * 2 ^ 24

/-- The tap map and the insertion delay of an engine recomputed for a temperature (R419). -/
def Dev.compensate (d : Dev) (n : Nat) (temp : Int) : Dev :=
  let ds := Tab.get [] d.cal.delays n
  if ds.isEmpty then d
  else
    let dt := temp - d.gets .CAL_TAP_REF_T_CAL n
    let tc := d.gets .CAL_TAP_REF_TC n
    let scaled := ds.map (fun x => roundHalfUp (x * 64 * (16000000 + tc * dt)) 16000000)
    let lat := (d.get .CAL_GATE_LAT_LAT_PS n : Int) + roundHalfUp (d.gets .CAL_GATE_LAT_SLOPE n * dt) 16000
    let d := d.addFresh ⟨.ENG_GATE_LAT_PIN_LAT_PS, n, 0, (clampI 0 2047 lat).toNat⟩
    match tapMap scaled with
    | some m => (List.range 16).foldl (fun d k =>
        if d.get .CAL_TAP_MAP_TAP n k = tapWord m k then d else d.addFresh ⟨.CAL_TAP_MAP_TAP, n, k, tapWord m k⟩) d
    | none => (d.raise .CAL_STAT_TC_FAIL).record 0x0c42 3 (recSource n 63) n

/-! ### Device level (R412 to R414) -/

/-- Entry to STOP: every output safe; a STANDBY is not healthy (R414, R416). -/
def Dev.thermalStop (d : Dev) (k : Nat) : Dev :=
  let d := (d.put .THM_STAT_STATE 3).raise .THM_STAT_STOP_SEEN
  let d := ((d.bump .THM_CNT_STOPS).occur 449).record 0x0c03 5 (recSource 48 63) k (p32 (d.reading k))
  let d := ((d.stopEngines 0x03fc).stopTiles 0x03fc).emergencyStop 0x03fc |>.hingeFail 2
  if d.flag .HNG_CFG_PAIR_EN then d.showHealth else d

/-- What the readings do to the device's thermal state (R412 to R414). -/
def Dev.thermalState (d : Dev) : Dev :=
  let st := d.get .THM_STAT_STATE
  let t := d.gets .THM_STAT_T_MAX
  if st = 3 then d
  else
    match (List.range 64).find? (fun k => d.sensorOk k && decide (1840 ≤ d.reading k)) with
    | some k => d.thermalStop k
    | none =>
      if st = 0 then
        if 1648 ≤ t then
          let d := (d.put .THM_STAT_STATE 1).occur 448
          { d.record 0x0c01 3 (recSource 48 63) (p32 t) with therm := { d.therm with slowSince := d.run } }
        else d
      else if t < 1600 then d.put .THM_STAT_STATE 0 else d

/-- All sensors are sampled together: readings, broken sensors, comparisons, compensation and the device's state (R32,
R408 to R414, R419). -/
def execThermalSample (dt : Nat) (raw : List Int) (s : State) : Host.Outcome State Fault Refusal :=
  s.act dt (fun d =>
    let d := d.bringFresh (fun c => c.fld == .CAL_SENSOR_OFFSET || c.fld == .CAL_SENSOR_GAIN)
    let raws := (List.range 64).map (fun k => raw.getD k (d.sensor k).raw)
    let all := (List.range 64).map (fun k => d.trimmed k (raws.getD k 0))
    let d := (List.range 64).foldl (fun d k => d.takeSample k (raws.getD k 0) all) d
    let d := d.showThermal.compareAll
    let d := (List.range 34).foldl (fun d n => d.compensate n (d.islandTemp n)) d
    d.thermalState)

/-- T_MAX still at 103 °C after the grace: ENFORCE (R412). -/
def execThermalGraceExpire (dt : Nat) (s : State) : Host.Outcome State Fault Refusal :=
  s.act dt (fun d =>
    d.when (d.get .THM_STAT_STATE == 1 && decide (1648 ≤ d.gets .THM_STAT_T_MAX)
        && decide (d.therm.slowSince + d.get .THM_CFG_GRACE_DS * 100 * qMs ≤ d.run)) (fun d =>
      ((d.put .THM_STAT_STATE 2).bump .THM_CNT_ENFORCES).record 0x0c02 4 (recSource 48 63) (p32 (d.gets .THM_STAT_T_MAX))))

/-- THM_RELEASE ends STOP when T_MAX is below 95 °C (R415). -/
def execThmRelease (dt : Nat) (job : Nat) (s : State) : Host.Outcome State Fault Refusal :=
  s.act dt (fun d => d.withJob job 0x4c (fun d j =>
    if 1520 ≤ d.gets .THM_STAT_T_MAX then d.complete j.id 0x02fd
    else if d.get .THM_STAT_STATE = 3 then
      ((d.put .THM_STAT_STATE 0).record 0x0c05 2 (recSource 48 63)).complete j.id 0
    else d.complete j.id 0))

/-! ### Island governors (R411) -/

/-- The islands that own a ceiling. -/
def governed : List Nat := [34, 40, 42, 43, 44, 46, 47]

/-- The ceiling of an island, 256 = 1.0 (R411). -/
def Dev.ceilingOf (d : Dev) (i : Nat) : Nat :=
  let f := d.get .THM_GOV_FLOOR i
  f + (256 - f) * d.get .THM_GOV_LEVEL i / 16

/-- Transmit swing of a fabric port in mV (R411 and the TXEQ fields). -/
def Dev.fabSwing (d : Dev) (p : Nat) : Nat := 400 + 25 * d.get .FAB_PORT_CFG_TXEQ_AMP p * d.ceilingOf 46 / 256

/-- The ceilings of an island brought into force (R411, R315). -/
def Dev.applyCeiling (d : Dev) (i : Nat) : Dev :=
  let c := d.ceilingOf i
  if i = 43 then (List.range 8).foldl (fun d a => d.put .AX_STAT_GOV c a) d
  else if i = 42 then (List.range 16).foldl (fun d t => d.put .VDR_STAT_DUTY_CEIL c t) d
  else if i = 44 then
    d.put .CAM_PIPE_STAT_SLICES d.camSlices
  else d

/-- One governor moves its level (R411). -/
def Dev.governor (d : Dev) (i : Nat) : Dev :=
  let t := d.islandTemp i
  let l := d.get .THM_GOV_LEVEL i
  let l' := if 1600 < t then l - 1 else if t < 1552 then min (l + 1) 16 else l
  let d := (d.put .THM_GOV_LEVEL l' i).applyCeiling i
  if l' = 0 ∧ d.therm.floored.contains i = false then
    { d.record 0x0c06 3 (recSource i 63) i with therm := { d.therm with floored := d.therm.floored ++ [i] } }
  else d

/-- Every 10 ms the governors move and reset their ceilings (R411). -/
def execGovernorStep (dt : Nat) (s : State) : Host.Outcome State Fault Refusal :=
  s.act dt (fun d => governed.foldl (fun d i => d.governor i) d)

end Sys2Proof.Machine
end

