-- ==== Sys2Proof/Machine/Dram.lean ====
section
/-! DEFINITION. The DRAM controller (R395 to R406): queues, scheduling, refresh, error correction and retraining. The
meanings of DRAM_REQUEST, DRAM_REQUEST_SERVED, REFRESH_RATE_READ, DRAM_REFRESH, PATROL_SCRUB, DRAM_RETRAIN_DONE and
DRAM_CMD_TIMEOUT. -/

namespace Sys2Proof.Machine

open Sys2Proof

def Dev.modChan (d : Dev) (c : Nat) (g : DramChan → DramChan) : Dev := d.setChan c (g (d.chan c))

/-- A channel that is trained and serves requests. -/
def Dev.chanServes (d : Dev) (c : Nat) : Bool := d.flag .DRM_STAT_IN_SERVICE c && d.inService (36 + c)

/-! ### Addresses (R397, R398) -/

/-- Bytes of a channel. -/
def Dev.chanBytes (d : Dev) (c : Nat) : Nat := if d.flag .DRM_CFG_PRESENT c then d.get .DRM_CFG_SIZE_GB c * 2 ^ 30 else 0

/-- Whether the channels alternate in 4 KB blocks (R397). -/
def Dev.interleaved (d : Dev) : Bool :=
  d.flag .DRM_CFG_ILV 0 && d.flag .DRM_CFG_PRESENT 1 && d.chanBytes 0 == d.chanBytes 1

/-- The DRAM address of a channel address (R397). -/
def Dev.dramAddr (d : Dev) (c a : Nat) : Nat :=
  if d.interleaved then a % 4096 + c * 4096 + a / 4096 * 8192 else a + (if c = 1 then d.chanBytes 0 else 0)

/-- Channel and channel address of a DRAM address (R397). -/
def Dev.chanAddr (d : Dev) (a : Nat) : Nat × Nat :=
  if d.interleaved then (a / 4096 % 2, a % 4096 + a / 8192 * 4096)
  else if a < d.chanBytes 0 then (0, a) else (1, a - d.chanBytes 0)

/-- Subchannel, bank (bank address above bank group) and row of a channel address (R398). -/
def Dev.rowOf (d : Dev) (c a : Nat) : Nat × Nat × Nat :=
  let cb := d.get .DRM_GEOM_COL_BITS c
  let gb := d.get .DRM_GEOM_BG_BITS c
  let bb := d.get .DRM_GEOM_BA_BITS c
  let rb := d.get .DRM_GEOM_ROW_BITS c
  let sub := bitOf a 6
  let x := a / 2 ^ (7 + cb)
  if d.get .DRM_CFG_ORDER c = 1 then
    let row := x % 2 ^ rb
    let y := x / 2 ^ rb
    (sub, y % 2 ^ gb + y / 2 ^ gb % 2 ^ bb * 2 ^ gb, row)
  else
    let bg := x % 2 ^ gb
    let ba := x / 2 ^ gb % 2 ^ bb
    let row := x / 2 ^ (gb + bb) % 2 ^ rb
    if d.get .DRM_CFG_ORDER c = 2 then
      (sub, Nat.xor bg (row % 2 ^ gb) + Nat.xor ba (row / 2 ^ gb % 2 ^ bb) * 2 ^ gb, row)
    else (sub, bg + ba * 2 ^ gb, row)

/-- Index of a bank among a channel's banks. -/
def bankIx (sub bank : Nat) : Nat := sub * 32 + bank

/-- Whether a request hits the open row of its bank. -/
def Dev.rowHit (d : Dev) (c : Nat) (r : DramReq) : Bool :=
  let x := d.rowOf c (r.burst * 64)
  Tab.get 0 (d.chan c).openRow (bankIx x.1 x.2.1) == x.2.2 + 1

/-! ### Queues (R399, R400) -/

/-- A request of a client enters a channel's queue: a write replaces a queued write of its burst, a read of a burst with a
queued write is served from it (R399). A full queue, or a channel out of service, leaves the request with its client. -/
def Dev.dramEnter (d : Dev) (c : Nat) (r : DramReq) : Dev :=
  let x := d.chan c
  let old := x.writeQ.find? (fun w => w.burst == r.burst)
  if d.chanServes c = false then d
  else if r.write then
    if old.isSome then
      d.modChan c (fun x => { x with writeQ := x.writeQ.map (fun w => if w.burst = r.burst then { w with data := r.data } else w) })
    else if x.writeQ.length < 64 then
      d.modChan c (fun x => { x with writeQ := x.writeQ ++ [r],
                                     draining := x.draining || decide (d.get .DRM_SCHED_WQ_HIGH ≤ x.writeQ.length + 1) })
    else d
  else
    match old with
    | some w => d.modChan c (fun x => { x with lastRead := w.data, poisoned := false })
    | none => if x.readQ.length < 64 then d.modChan c (fun x => { x with readQ := x.readQ ++ [r] }) else d

/-- A client's request for one burst (R399). -/
def execDramRequest (dt : Nat) (c : Fin 2) (write : Bool) (cls : Fin 5) (burst : Nat) (data : List Byte) (s : State) :
    Host.Outcome State Fault Refusal :=
  s.act dt (fun d => d.dramEnter c { write := write, cls := cls, burst := burst, data := data.take 64, at' := d.run })

/-- Whether a request has been queued for more than AGE_NS (R400). -/
def Dev.aged (d : Dev) (r : DramReq) : Bool := decide (r.at' + d.get .DRM_SCHED_AGE_NS * qNs < d.run)

/-- The tests of R400 in turn: age, class for reads, row hit. Lower goes first. -/
def Dev.reqKey (d : Dev) (c : Nat) (r : DramReq) : Nat :=
  (if d.aged r then 0 else 100) + (if r.write then 0 else 10 * r.cls) + (if d.rowHit c r then 0 else 1)

/-- The first request of a queue with the least key: the older goes first (R400). -/
def Dev.firstReq (d : Dev) (c : Nat) : List DramReq → Option DramReq
  | [] => none
  | r :: rs => match d.firstReq c rs with
    | some q => if d.reqKey c r ≤ d.reqKey c q then some r else some q
    | none => some r

/-- A queue without its first occurrence of a request. -/
def dropReq (r : DramReq) (l : List DramReq) : List DramReq := l.erase r

/-- Whether the next request is a write: in a drain with no aged read waiting, or when no read is queued (R399, R406). -/
def Dev.servesWrite (d : Dev) (c : Nat) : Bool :=
  let x := d.chan c
  x.readQ.isEmpty || (x.draining && !x.readQ.any d.aged)

/-- An error found in a burst: 1 corrected, 2 uncorrectable (R402). -/
def Dev.eccFound (d : Dev) (c burst ecc : Nat) : Dev :=
  if ecc = 1 then d.bump .DRM_ECC_CORR 1 c
  else if ecc = 2 then
    ((d.bump .DRM_ECC_UNCORR 1 c).put .DRM_ECC_ADDR_BURST burst c).record 0x0d01 4 (recSource (36 + c) 63) (36 + c) 6
  else d

/-- The scheduler issues the next request of a channel (R399, R400, R402). -/
def Dev.dramServe (d : Dev) (c ecc : Nat) : Dev :=
  let x := d.chan c
  let q := if d.servesWrite c then x.writeQ else x.readQ
  match d.firstReq c q with
  | none => d
  | some r =>
    let a := d.dramAddr c (r.burst * 64)
    let row := d.rowOf c (r.burst * 64)
    let d := d.modChan c (fun x => { x with openRow := Tab.set 0 x.openRow (bankIx row.1 row.2.1) (row.2.2 + 1) })
    if r.write then
      (d.dramWrite a r.data).modChan c (fun x =>
        let w := dropReq r x.writeQ
        { x with writeQ := w, draining := x.draining && decide (d.get .DRM_SCHED_WQ_LOW < w.length) })
    else
      let data := d.dram.readList a 64
      (d.modChan c (fun x => { x with readQ := dropReq r x.readQ, lastRead := data, poisoned := ecc == 2 })).eccFound c r.burst ecc

/-- DRAM_REQUEST_SERVED; `ecc` is what the check of the read data finds: 0 good, 1 corrected, 2 uncorrectable. -/
def execDramRequestServed (dt : Nat) (c : Fin 2) (ecc : Fin 3) (s : State) : Host.Outcome State Fault Refusal :=
  s.act dt (fun d => d.when (d.chanServes c) (fun d => d.dramServe c ecc))

/-! ### Refresh (R401) and scrub (R403) -/

/-- Every 1 ms the controller reads a device's refresh-rate code, and its oscillator's drift (R401, R405). -/
def execRefreshRateRead (dt : Nat) (c sub : Fin 2) (code : Nat) (outOfRange : Bool) (drift : Nat) (s : State) :
    Host.Outcome State Fault Refusal :=
  s.act dt (fun d =>
    let d := d.modChan c (fun x => { x with rateCode := Tab.set 0 x.rateCode sub code })
    let d := if d.get .DRM_MAINT_DRIFT_MAX < drift then (d.raise .DRM_STAT_DRIFT c).modChan c (fun x => { x with drifted := true }) else d
    if outOfRange then (d.raise .DRM_STAT_DEV_HOT c).record 0x0c20 4 (recSource (36 + c) 63) c.val sub.val code else d)

/-- Whether a queued request goes to a bank. -/
def Dev.bankBusy (d : Dev) (c sub bank : Nat) : Bool :=
  ((d.chan c).readQ ++ (d.chan c).writeQ).any (fun r =>
    let x := d.rowOf c (r.burst * 64)
    x.1 == sub && x.2.1 == bank)

/-- Every bank of a subchannel refreshed (R401). -/
def Dev.refreshAll (d : Dev) (c sub : Nat) : Dev :=
  let keep {α : Type} (t : Tab α) : Tab α := t.filter (fun p => p.1 / 32 != sub)
  (d.modChan c (fun x => { x with openRow := keep x.openRow, postponed := keep x.postponed })).bump .DRM_STAT_FALLBACK 1 c

/-- A due refresh of a bank: issued to an idle bank, postponed for a busy one, and at the postponement limit the whole
subchannel is refreshed (R401). -/
def execDramRefresh (dt : Nat) (c sub : Fin 2) (bank : Fin 32) (s : State) : Host.Outcome State Fault Refusal :=
  s.act dt (fun d =>
    let k := bankIx sub bank
    let p := Tab.get 0 (d.chan c).postponed k
    if d.bankBusy c sub bank then
      if max (Config.refreshLimit (Tab.get 0 (d.chan c).rateCode sub)) 1 ≤ p + 1 then d.refreshAll c sub
      else d.modChan c (fun x => { x with postponed := Tab.set 0 x.postponed k (p + 1) })
    else d.modChan c (fun x => { x with openRow := Tab.erase k x.openRow, postponed := Tab.set 0 x.postponed k (p - 1) }))

/-- Patrol scrub reads the next burst, behind every client's read and a drain, and writes corrected data back (R399, R400,
R403). -/
def execPatrolScrub (dt : Nat) (c : Fin 2) (ecc : Fin 3) (s : State) : Host.Outcome State Fault Refusal :=
  s.act dt (fun d =>
    let x := d.chan c
    d.when (d.chanServes c && x.readQ.isEmpty && !x.draining) (fun d =>
      let n := d.chanBytes c / 64
      (d.modChan c (fun x => { x with scrub := if x.scrub + 1 < n then x.scrub + 1 else 0 })).eccFound c x.scrub ecc))

/-! ### Training (R404, R405) -/

/-- Whether a channel is due for retraining (R405). -/
def Dev.retrainDue (d : Dev) (c : Nat) : Bool :=
  let x := d.chan c
  d.flag .DRM_CFG_PRESENT c && d.inService (36 + c) &&
    (x.drifted || decide (16 * d.get .DRM_MAINT_RETRAIN_DC < (d.islandTemp (36 + c) - x.trainTemp).natAbs)
      || decide (d.get .DRM_MAINT_RETRAIN_LAYERS ≤ x.layers))

/-- A channel begins to retrain. -/
def Dev.startRetrain (d : Dev) (c : Nat) : Dev := (d.raise .DRM_STAT_TRAINING c).lower .DRM_STAT_IN_SERVICE c

/-- The retraining of a boundary window begins: channel 0 first (R49, R405). -/
def Dev.beginRetrain (d : Dev) : Dev :=
  let d := [0, 1].foldl (fun d c => d.modChan c (fun x => { x with layers := x.layers + 1 })) d
  let mask := (if d.retrainDue 0 then 1 else 0) + (if d.retrainDue 1 then 2 else 0)
  let d := d.modLayer (fun l => { l with retraining := mask })
  if hasBit mask 0 then d.startRetrain 0 else if hasBit mask 1 then d.startRetrain 1 else d

/-- A channel trained: settings from now, requests it kept are issued again (R405, R441). -/
def Dev.trained (d : Dev) (c : Nat) : Dev :=
  let t := d.islandTemp (36 + c)
  let again (l : List DramReq) : List DramReq := l.map (fun r => { r with at' := d.run })
  (d.lower .DRM_STAT_TRAINING c).modChan c (fun x =>
    { x with failures := 0, layers := 0, trainTemp := t, drifted := false, openRow := [], postponed := [],
             readQ := again x.readQ, writeQ := again x.writeQ })

/-- A retraining fails: the previous settings stay (R405). -/
def Dev.trainFailed (d : Dev) (c : Nat) : Dev :=
  let k := (d.chan c).failures + 1
  let d := (d.lower .DRM_STAT_TRAINING c).modChan c (fun x => { x with failures := k })
  (d.raise .DRM_STAT_RT_FAIL c).record 0x0c22 4 (recSource (36 + c) 63) c k

/-- A channel's retraining of the boundary window ends; channel 1 follows channel 0 (R49, R405). -/
def Dev.retrainDone (d : Dev) (c : Nat) (ok : Bool) : Dev :=
  let d := if ok then d.trained c else d.trainFailed c
  let d := d.raise .DRM_STAT_IN_SERVICE c
  let d := d.modLayer (fun l => { l with retraining := clearBit l.retraining c })
  if hasBit d.layer.retraining 1 ∧ c = 0 then d.startRetrain 1 else d.windowEnd

/-- A DRAM channel that is out of service returns when trained, in any layer state; a failed training leaves it out (R439,
R440). -/
def Dev.dramReturn (d : Dev) (c : Nat) (ok : Bool) : Dev :=
  let u := 36 + c
  let d := d.setIsland u { d.island u with testing := false, faulted := !ok }
  if ok && !d.flag .MGT_UNIT_OUT_HOST u then
    ((((d.trained c).setService u true).lower .MGT_UNIT_TEST_FAIL u).record 0x0d03 2 (recSource 48 63) u).settleUnit u
  else if ok then (d.trained c).lower .MGT_UNIT_TEST_FAIL u
  else ((d.trainFailed c).raise .MGT_UNIT_TEST_FAIL u).record 0x0d04 4 (recSource 48 63) u

/-- DRAM_RETRAIN_DONE: the end of a retraining of the boundary window, or of the recovery of a channel (R405, R439). -/
def execDramRetrainDone (dt : Nat) (c : Fin 2) (ok : Bool) (s : State) : Host.Outcome State Fault Refusal :=
  s.act dt (fun d =>
    if hasBit d.layer.retraining c && d.flag .DRM_STAT_TRAINING c then d.retrainDone c ok
    else if (d.island (36 + c)).testing then d.dramReturn c ok
    else d)

/-- A request not complete within CMD_US takes the channel out with its queues kept (R400, R441). -/
def execDramCmdTimeout (dt : Nat) (c : Fin 2) (s : State) : Host.Outcome State Fault Refusal :=
  s.act dt (fun d =>
    let late (r : DramReq) : Bool := decide (r.at' + d.get .DRM_TMO_CMD_US * qUs ≤ d.run)
    d.when (d.chanServes c && ((d.chan c).readQ ++ (d.chan c).writeQ).any late) (fun d =>
      (d.unitFault (36 + c) 0 1).raise .DRM_STAT_TRAINING c))

end Sys2Proof.Machine
end

