-- ==== Sys2Proof/Machine/Calib.lean ====
section
/-! DEFINITION. Calibration, cover and trimming (R417 to R427). The meanings of CAL_RUN, CAL_SAVE, CAL_LOAD,
COVER_COPY_DONE, COVER_BEGIN, CALIBRATION_DONE and COVER_END. -/

namespace Sys2Proof.Machine

open Sys2Proof

/-! ### Descriptors (R424, R425) -/

/-- Kind and unit of a CAL_RUN: units by R439, slices from 49 on. -/
def Job.calReq (j : Job) : CalReq :=
  let k := j.bits 131 128
  let n := j.bits 137 132
  { kind := if k = 0 then .taps else if k = 1 then .bist else if k = 2 then .slice else .lag,
    unit := if k = 2 then 49 + n else n, job := some j.id, rank := 1 }

/-- KIND of CAL_RUN as its events name it. -/
def CalKind.code : CalKind → Nat
  | .taps => 0
  | .bist => 1
  | .slice => 2
  | .lag => 3
  | .fault => 4

/-- UNIT of CAL_RUN: the number of the engine or slice. -/
def CalReq.number (r : CalReq) : Nat := if r.unit < 49 then r.unit else r.unit - 49

/-- CAL_RUN: a calibration of an engine or slice is requested; LAG runs at once, in layer state 8 on a bound engine only
(R423, R424). -/
def execCalRun (dt : Nat) (job : Nat) (s : State) : Host.Outcome State Fault Refusal :=
  s.act dt (fun d => d.withJob job 0x4d (fun d j =>
    let r := j.calReq
    if r.kind = .lag then
      if d.layerOpen || d.get .ENG_STAT_BOUND_CH r.unit == 63 then d.complete j.id 0x02f8
      else
        let d := d.begin' j
        { d with cal := { d.cal with running := d.cal.running ++ [r] } }
    else ((d.begin' j).askCover r).pumpCal))

/-- The bytes of the CAL_ block as read, CAL_IMG_CRC computed (R425). -/
def Dev.calImage (d : Dev) : List Byte :=
  let body := (List.range 2047).flatMap (fun k => leBytes 4 (d.wordAt (0x160000 + 4 * k)))
  body ++ leBytes 4 (crc32c body)

/-- CAL_SAVE writes the CAL_ block to host memory (R424, R425). -/
def execCalSave (dt : Nat) (job : Nat) (s : State) : Host.Outcome State Fault Refusal :=
  s.act dt (fun d => d.withJob job 0x4e (fun d j => d.saveTo j j.addr d.calImage 0))

/-- The unit that a calibration element belongs to (R420). -/
def calUnit (f : Fld) (i : Nat) : Option Nat :=
  if [.CAL_TAP_MAP_TAP, .CAL_TAP_REF_T_CAL, .CAL_TAP_REF_TC, .CAL_GATE_LAT_LAT_PS, .CAL_GATE_LAT_SLOPE].contains f then some i
  else if [.CAL_ADC_CELL_CELL0, .CAL_ADC_CELL_USE0, .CAL_ADC_CELL_CELL1, .CAL_ADC_CELL_USE1, .CAL_ADC_REF_SEG,
      .CAL_ADC_REF_TC].contains f then some (49 + i)
  else if f = .CAL_DOWEL_DELAY ∨ f = .CAL_DOWEL_TC then some i
  else none

/-- A new value of a calibration element: it waits for its boundary, or is in force at once for a unit out of service
(R420). -/
def Dev.newCal (d : Dev) (f : Fld) (v i j : Nat) : Dev :=
  match calUnit f i with
  | some u => if d.flag .MGT_UNIT_IN_SERVICE u then d.addFresh ⟨f, i, j, v⟩ else d.put f v i j
  | none => d.addFresh ⟨f, i, j, v⟩

/-- Word `k` of an image. -/
def imageWord (bs : List Byte) (k : Nat) : Nat := ofLeBytes ((bs.drop (4 * k)).take 4)

/-- Every field of the CAL_ block that an image sets: value and instance (R425). -/
def calFields (bs : List Byte) : List (Fld × Nat × Nat × Nat) :=
  fldsCAL.flatMap (fun f =>
    if f.acc ≠ .rw then []
    else
      let p := f.reg.place
      (List.range p.n1).flatMap (fun i => (List.range p.n2).map (fun j =>
        (f, f.of (imageWord bs ((f.reg.addr i j - 0x160000) / 4)), i, j))))

/-- CAL_LOAD checks an image's CRC and serial and writes its values (R425). -/
def execCalLoad (dt : Nat) (job : Nat) (s : State) : Host.Outcome State Fault Refusal :=
  s.act dt (fun d => d.withJob job 0x4f (fun d j =>
    let bs := (granBytes (j.data.getD [])).take 8192
    if crc32c (bs.take 8188) ≠ imageWord bs 2047 then d.complete j.id 0x01f9
    else if imageWord bs 2 ≠ d.get .CAL_SERIAL_LO_SERIAL ∨ imageWord bs 3 ≠ d.get .CAL_SERIAL_HI_SERIAL then d.complete j.id 0x02f9
    else
      let d := (calFields bs).foldl (fun d x =>
        if x.1 = .CAL_CFG_AUTO_COPY then d.put x.1 x.2.1 else d.newCal x.1 x.2.1 x.2.2.1 x.2.2.2) d
      d.complete j.id 0))

/-! ### Cover (R421 to R423) -/

/-- The copy into a covering engine finishes; an uncorrectable error abandons the cover and the request waits (R422). -/
def execCoverCopyDone (dt : Nat) (s' : Fin 2) (ok : Bool) (s : State) : Host.Outcome State Fault Refusal :=
  s.act dt (fun d =>
    let c := d.cover s'
    match c.phase, c.req with
    | .copying, some r =>
      if ok then (d.copyEngine r.unit (32 + s'.val)).setCover s' { c with phase := .ready }
      else ((d.setCover s' {}).askCover r).showCal
    | _, _ => d)

/-- The engine that a channel is bound to rests, or the channel is unbound (R23). -/
def Dev.channelRests (d : Dev) (ch : Nat) : Bool :=
  match d.engineOf ch with
  | some n => d.atRest n
  | none => true

/-- The channel is rebound to its cover as one change (R421); the calibration of the covered unit begins. -/
def Dev.beginCover (d : Dev) (s : Nat) (c : Cover) (r : CalReq) : Dev :=
  let u := r.unit
  let d :=
    if s < 2 then
      let d := if d.get .ENG_STAT_BOUND_CH u = 63 then d.put .ENG_STAT_BOUND_CH c.ch u else d
      (d.moveChannel u (32 + s)).put (if s = 0 then .CAL_STAT_COVER32 else .CAL_STAT_COVER33) c.ch
    else
      let d := (d.put .MPL_SLICE_SLICE (30 + s) c.ch).put .MPL_SLICE_STAT_CHANNEL c.ch (30 + s)
      let d := d.put .MPL_SLICE_STAT_CHANNEL 63 (u - 49)
      match d.engineOf c.ch with
      | some n => d.sliceChanged n
      | none => d
  let d := (d.put .MGT_UNIT_COVER (if s < 2 then 32 + s else 30 + s) u).setCover s { c with phase := .active }
  if r.kind = .fault then d else d.startCal r

/-- COVER_BEGIN: cover of an engine (0, 1) or a slice (2, 3) begins at the rest of the channel it serves (R421). -/
def execCoverBegin (dt : Nat) (s' : Fin 4) (s : State) : Host.Outcome State Fault Refusal :=
  s.act dt (fun d =>
    let c := d.cover s'
    match c.phase, c.req with
    | .ready, some r => if d.channelRests c.ch then d.beginCover s' c r else d
    | _, _ => d)

/-- Whether the work that a cover was for is done: a calibration finished, or a faulted unit tested good and not held out
(R421, R439, R440). -/
def Dev.coverOver (d : Dev) (r : CalReq) : Bool :=
  if r.kind = .fault then
    !(d.island r.unit).testing && !d.flag .MGT_UNIT_TEST_FAIL r.unit && !d.flag .MGT_UNIT_OUT_HOST r.unit
  else d.cal.ending.any (fun x => x.unit == r.unit)

/-- A unit is back in service after a fault (R438). -/
def Dev.faultOver (d : Dev) (u : Nat) : Dev :=
  let q := d.cal.waiting.filter (fun r => !(r.unit == u && r.kind == .fault))
  let d := { d with cal := { d.cal with waiting := q } }.showCal
  ((d.setIsland u { d.island u with faulted := false, testing := false }).record 0x0d03 2 (recSource 48 63) u).settleUnit u

/-- Cover ends: the unit is in service again and the channel returns to it; its calibration completes (R421, R424). -/
def Dev.coverDone (d : Dev) (s : Nat) (r : CalReq) : Dev :=
  let d := (d.setService r.unit true).endCover s
  let d := if r.unit < 49 then d else d.sliceServes r.unit
  let d := if r.kind = .fault then d.faultOver r.unit else d.endCals r.unit 0
  d.pumpCal

/-- COVER_END: at the covering engine's first rest after the calibration the channel returns (R421). -/
def execCoverEnd (dt : Nat) (s' : Fin 4) (s : State) : Host.Outcome State Fault Refusal :=
  s.act dt (fun d =>
    let c := d.cover s'
    match c.phase, c.req with
    | .active, some r => if d.coverOver r && d.channelRests c.ch then d.coverDone s' r else d
    | _, _ => d)

/-! ### Results (R418, R424, R426) -/

/-- The cells of a sub-converter to replace, worst first: offset above half an LSB, offsets in 1/256 LSB (R418). -/
def badCells (offs : List Int) : List Nat :=
  let bad := (List.range 32).filter (fun c => decide (128 < (offs.getD c 0).natAbs))
  bad.mergeSort (fun a b => decide ((offs.getD b 0).natAbs ≤ (offs.getD a 0).natAbs))

/-- A TAPS result with tap map `t`: delays in ps of the 72 taps, then TC, LAT_PS and SLOPE where measured (R418). -/
def Dev.tapsResult (d : Dev) (n : Nat) (t : List Nat) (m : List Int) : Dev :=
  let temp := d.islandTemp n
  let d := { d with cal := { d.cal with delays := Tab.set [] d.cal.delays n (m.take 72) } }
  let d := (List.range 16).foldl (fun d k => d.put .CAL_TAP_MAP_TAP (tapWord t k) n k) d
  let d := d.puts .CAL_TAP_REF_T_CAL temp n
  let d := d.puts .CAL_TAP_REF_TC (m.getD 72 (d.gets .CAL_TAP_REF_TC n)) n
  let lat := (m.getD 73 (d.get .CAL_GATE_LAT_LAT_PS n : Nat)).toNat
  let d := (d.put .CAL_GATE_LAT_LAT_PS lat n).puts .CAL_GATE_LAT_SLOPE (m.getD 74 (d.gets .CAL_GATE_LAT_SLOPE n)) n
  d.put .ENG_GATE_LAT_PIN_LAT_PS lat n

/-- The bad cells of the four sub-converters of a slice. -/
def badSubs (m : List Int) : List (List Nat) := (List.range 4).map (fun k => badCells ((m.drop (32 * k)).take 32))

/-- A SLICE result: offsets of the 32 cells of four sub-converters in 1/256 LSB, then the segment code and its coefficient
(R418). -/
def Dev.sliceResult (d : Dev) (s : Nat) (m : List Int) : Dev :=
  let subs := badSubs m
  let d := (List.range 4).foldl (fun d k =>
    let b := subs.getD k []
    let d := (d.put .CAL_ADC_CELL_CELL0 (b.getD 0 0) s k).putB .CAL_ADC_CELL_USE0 (decide (1 ≤ b.length)) s k
    (d.put .CAL_ADC_CELL_CELL1 (b.getD 1 0) s k).putB .CAL_ADC_CELL_USE1 (decide (2 ≤ b.length)) s k) d
  let d := d.put .CAL_ADC_REF_SEG (m.getD 128 (d.get .CAL_ADC_REF_SEG s : Nat)).toNat s
  d.puts .CAL_ADC_REF_TC (m.getD 129 (d.gets .CAL_ADC_REF_TC s)) s

/-- A LAG result: the lags in X, Y and Z in quanta, written in units of 10 ns (R424). -/
def Dev.lagResult (d : Dev) (n : Nat) (m : List Int) : Dev :=
  let v (k : Nat) : Nat := (clampI 0 50000 (roundHalfUp (m.getD k 0) q10ns)).toNat
  ((d.put .ENG_LAG_X_LAG (v 0) n).put .ENG_LAG_Y_LAG (v 1) n).put .ENG_LAG_Z_LAG (v 2) n

/-- Whether a calibration that has run passed: its tap map exists, or no sub-converter has more than two bad cells (R418,
R426). -/
def CalReq.passed (r : CalReq) (ok : Bool) (m : List Int) : Bool :=
  ok && (match r.kind with
    | .taps => (tapMap ((m.take 72).map (· * 64))).isSome
    | .slice => !(badSubs m).any (fun b => decide (2 < b.length))
    | .lag | .bist | .fault => true)

/-- What a calibration of a kind measures brought into the unit's registers (R418, R424, R426). -/
def Dev.calResult (d : Dev) (r : CalReq) (m : List Int) : Dev :=
  match r.kind with
  | .taps => d.tapsResult r.unit ((tapMap ((m.take 72).map (· * 64))).getD []) m
  | .slice => d.sliceResult (r.unit - 49) m
  | .lag => d.lagResult r.unit m
  | .bist => d
  | .fault => d

/-- An engine back in service takes its unbound channel again: its own, or the one that it covers as a shim engine (R23, R24). -/
def Dev.rebind (d : Dev) (u : Nat) : Dev :=
  let ch := if u < 32 then u else if (d.cover (u - 32)).phase = .active then (d.cover (u - 32)).ch else 63
  if ch ≠ 63 ∧ (d.engineOf ch).isNone = true then
    (d.put .ENG_STAT_BOUND_CH ch u).setLink ch { d.link ch with since := d.run, good := 0, bad := 0, faulted := false }
  else d

/-- A calibration that has run ends (R424, R426). -/
def Dev.calDone (d : Dev) (r : CalReq) (ok : Bool) (m : List Int) : Dev :=
  let source := if r.unit < 49 then recSource r.unit 63 else recSource 41 (r.unit - 49)
  if r.passed ok m = false then
    let d := (d.endCals r.unit 0x05f8).record 0x0c41 4 source r.kind.code r.number
    if r.kind = .lag then d else d.unitFault r.unit 5 0
  else
    let d := (d.calResult r m).record 0x0c40 1 source r.kind.code r.number
    if r.kind = .lag then d.endCals r.unit 0
    else if (d.coverOf r.unit).isSome then
      let run := d.cal.running.filter (fun x => x.unit != r.unit)
      { d with cal := { d.cal with running := run, ending := d.cal.ending ++ [r] } }
    else
      let d := d.setService r.unit true
      let d := if r.unit < 34 then (d.put .ENG_STAT_STATE 1 r.unit).rebind r.unit else d.sliceServes r.unit
      (d.endCals r.unit 0).pumpCal

/-- CALIBRATION_DONE: the calibration of a unit finishes (R418, R424, R426). A request still waiting for cover runs
uncovered once its engine has finished its exposure (R423). -/
def execCalibrationDone (dt : Nat) (u : Fin 83) (ok : Bool) (measured : List Int) (s : State) :
    Host.Outcome State Fault Refusal :=
  s.act dt (fun d =>
    let d := d.pumpCal
    match d.cal.running.find? (fun r => r.unit == u.val) with
    | some r => d.calDone r ok measured
    | none => d)

end Sys2Proof.Machine
end

