-- ==== Sys2Proof/Machine/Hinge.lean ====
section
/-! DEFINITION. The hinge pair's operations (R354 to R367): what a standby adopts from a mirror record, how the new active
resumes, what the active sends a partner that synchronises, how a device is fenced. -/

namespace Sys2Proof.Machine

open Sys2Proof

/-- HNG_STAT.STATE (R356): 0 ALONE, 1 ACTIVE, 2 STANDBY, 3 SYNCING, 4 FAILED, 5 FENCED. -/
def Dev.hngState (d : Dev) : Nat := d.get .HNG_STAT_STATE

def Dev.paired (d : Dev) : Bool := d.flag .HNG_CFG_PAIR_EN

def Dev.partner (d : Dev) : Nat := d.get .HNG_CFG_PARTNER_ID

def Dev.modHinge (d : Dev) (g : Hinge → Hinge) : Dev := { d with hinge := g d.hinge }

/-- Whether the device is a STANDBY or SYNCING partner, which runs dry (R358). -/
def Dev.dry (d : Dev) : Bool := d.paired && (d.hngState == 2 || d.hngState == 3)

/-- Whether the device has preference of its pair at start (R357): PREFER of exactly one device decides, else the lower
device ID. The partner's PREFER is its own register, which no message carries: a constant left open. -/
def Dev.prefers (d : Dev) : Bool :=
  if d.flag .HNG_CFG_PREFER == Config.partnerPrefers then decide (d.ownId < d.partner) else d.flag .HNG_CFG_PREFER

/-- A granule of 32-bit words, lowest first. -/
def granWords (ws : List Nat) : Gran := BitVec.ofNat 128 (ws.foldr (fun w acc => w % 2 ^ 32 + acc * 2 ^ 32) 0)

/-- Granules of 32-bit words, four in each. -/
def wordGrans (n : Nat) (f : Nat → Nat) : List Gran :=
  (List.range n).map (fun g => granWords [f (4 * g), f (4 * g + 1), f (4 * g + 2), f (4 * g + 3)])

/-- Word `k` of a list of granules. -/
def granWord (gs : List Gran) (k : Nat) : Nat := bitsOf (gs.getD (k / 4) 0#128).toNat (32 * (k % 4) + 31) (32 * (k % 4))

/-! ### The mirror record (R359) -/

/-- Class of the last tick of an engine; 0 before its first. -/
def Dev.lastClass (d : Dev) (n : Nat) : Nat := ((d.eng n).loop.ticks.head?.map (·.2.1)).getD 0

/-- The word of a channel: integrator and class of the last tick. -/
def Dev.mirrorChannel (d : Dev) (ch : Nat) : Nat :=
  match d.engineOf ch with
  | some n => let c := d.lastClass n; d.get .MPL_INT_I n c + c * 2 ^ 16
  | none => 0

/-- The word of a tile: SEQUENCE of the frame shown and its slots shown. -/
def Dev.mirrorTile (d : Dev) (t : Nat) : Nat :=
  match (d.frameNow t).bind d.job with
  | some j => j.sequence + j.progress % 2 ^ 16 * 2 ^ 16
  | none => 0

/-- The halfword of an engine: hold of its request, STARVING, and whether its grant is held. -/
def Dev.mirrorHold (d : Dev) (n : Nat) : Nat :=
  let granted := d.kerf.reqs.any (fun r => r.eng == n && r.held)
  d.get .KRF_ENG_STAT_HOLD_US n + d.get .KRF_ENG_STAT_STARVING n * 2 ^ 14 + granted.toNat * 2 ^ 15

/-- Granules 1 to 36 of a mirror record. -/
def Dev.mirrorRest (d : Dev) : List Gran :=
  wordGrans 17 (fun k => if k % 2 = 0 then d.get .ENG_REC_SEQ_SEQ (k / 2) else d.get .ENG_ARC_ARC_NM (k / 2))
    ++ wordGrans 8 d.mirrorChannel ++ wordGrans 2 (fun a => d.get .AX_POS_VALUE a) ++ wordGrans 4 d.mirrorTile
    ++ wordGrans 5 (fun k => (if 2 * k < 34 then d.mirrorHold (2 * k) else 0)
        + (if 2 * k + 1 < 34 then d.mirrorHold (2 * k + 1) else 0) * 2 ^ 16)

/-- What the last record adopted says (R361): REC_SEQ, ARC and hold of an engine, word of a tile. -/
def Dev.markSeq (d : Dev) (n : Nat) : Nat := granWord (d.hinge.mark.drop 1) (2 * n)
def Dev.markArc (d : Dev) (n : Nat) : Nat := granWord (d.hinge.mark.drop 1) (2 * n + 1)
def Dev.markHold (d : Dev) (n : Nat) : Nat :=
  bitsOf (granWord (d.hinge.mark.drop 32) (n / 2)) (16 * (n % 2) + 15) (16 * (n % 2))
def Dev.markTile (d : Dev) (t : Nat) : Nat := granWord (d.hinge.mark.drop 28) t

/-- The characters of the frame that path B carries in the present slot, K28.1 after them: K28.5, the record, the CRC of R254 over it,
K29.7; a control character is its byte plus 256 (R360). -/
def Hinge.pathBChars (h : Hinge) : List Nat :=
  let bs := (h.sentB.flatMap (fun g => leBytes 16 g.toNat)).map (·.toNat)
  0x1bc :: bs ++ (leBytes 4 (crc32 bs)).map (·.toNat) ++ [0x1fd]

/-! ### Adoption (R361) -/

/-- An instant moved by a signed time. -/
def shiftT (t : Nat) (x : Int) : Nat := ((t : Int) + x).toNat

def Piece.shift (x : Int) (p : Piece) : Piece := { p with t0 := shiftT p.t0 x }

def Plan.shift (x : Int) (p : Plan) : Plan :=
  { p with
    pre := p.pre.map (Piece.shift x), body := p.body.map (Piece.shift x), endBlend := p.endBlend.map (Piece.shift x),
    endTenon := p.endTenon.map (Piece.shift x), out := p.out.map (Piece.shift x), tMove := shiftT p.tMove x,
    tBody := shiftT p.tBody x, tCommit := shiftT p.tCommit x }

def Train.shift (x : Int) (t : Train) : Train :=
  { t with t0 := shiftT t.t0 x, trace := t.trace.map (Piece.shift x), tEnd := t.tEnd.map (shiftT · x), pin := shiftT t.pin x }

/-- An instant still to come, moved; a past one stays. -/
def shiftFuture (now : Nat) (x : Int) (t : Nat) : Nat := if now < t then shiftT t x else t

def Light.shift (now : Nat) (x : Int) (l : Light) : Light :=
  { l with rise := shiftFuture now x l.rise, fall := l.fall.map (shiftFuture now x), pin := shiftFuture now x l.pin }

/-- The gate of a path moved in time: what is to come moves with it. -/
def Gate.shift (now : Nat) (x : Int) (g : Gate) : Gate :=
  { g with
    train := g.train.map (Train.shift x), olds := g.olds.map (Train.shift x), edges := g.edges.map (fun e => (shiftT e.1 x, e.2)),
    light := g.light.map (Light.shift now x), early := shiftFuture now x g.early, lastFall := shiftFuture now x g.lastFall }

/-- The planned path of an engine, and its gate with it, moved in time. -/
def Engine.shift (now : Nat) (x : Int) (e : Engine) : Engine :=
  { e with
    plans := e.plans.map (Plan.shift x), moves := e.moves.map (Piece.shift x), restAt := shiftT e.restAt x,
    gate := e.gate.shift now x }

/-- The records by which an engine's count is behind the mirrored one end, and the next ones start (R361). -/
def Dev.catchUp (d : Dev) (n seq : Nat) : Nat → Dev
  | 0 => d
  | k + 1 =>
    if d.get .ENG_REC_SEQ_SEQ n < seq then
      match (d.eng n).plans with
      | p :: q :: _ => if p.started then ((d.endPlan n p).startPlan n q).catchUp n seq k else (d.startPlan n p).catchUp n seq k
      | [p] => if p.started then d else d.startPlan n p
      | [] => d
    else d

/-- The records by which an engine's count is ahead of the mirrored one are in progress or to come again (R361). -/
def Dev.fallBack (d : Dev) (n seq : Nat) : Nat → Dev
  | 0 => d
  | k + 1 =>
    let own := d.get .ENG_REC_SEQ_SEQ n
    match (d.eng n).past, (d.eng n).plans with
    | q :: rest, ps =>
      if seq < own then
        let undone := match ps.head? with
          | some p => (if p.led then p.lead.length else 0) + p.started.toNat
          | none => 0
        let ps := match ps with
          | p :: tail => { p with started := false, led := false } :: tail
          | [] => []
        ((d.modEng n (fun e => { e with plans := q :: ps, past := rest, moves := [] })).put .ENG_REC_SEQ_SEQ (own - undone) n).fallBack
          n seq k
      else d
    | [], _ => d

/-- The planned spot of an engine set to the mirrored record and arc at the capture instant (R361). -/
def Dev.adoptEngine (d : Dev) (n at' : Nat) : Dev :=
  let seq := d.markSeq n
  let arc := d.markArc n
  let d := (d.catchUp n seq 8).fallBack n seq 8
  match (d.eng n).plans.head? with
  | some p =>
    if d.get .ENG_REC_SEQ_SEQ n = seq ∧ p.started = true ∧ arc ≠ 0 then
      match p.pieces.find? (fun c => c.exposing && decide (c.s0 ≤ (arc : Int) ∧ (arc : Int) ≤ c.s0 + c.len)) with
      | some c => d.modEng n (Engine.shift d.now ((at' : Int) - (c.when ((arc : Int) - c.s0).toNat : Nat)))
      | none => d
    else d
  | none => d

/-- An axis set to its mirrored position at the capture instant, `ago` quanta before now (R361). -/
def Dev.adoptAxis (d : Dev) (a ago : Nat) : Dev :=
  let x := d.axis a
  let t := d.axisTime a - ago / qNs
  let k : Kin := if segsTime x.segs ≤ t then d.axisKin a else ({ p := x.p0, v := x.v0, a := x.a0 } : Kin).after x.segs t
  let err := sInt 32 (granWord (d.hinge.mark.drop 26) a) - microsteps k.p
  let d := d.modAxis a (fun x => { x with
    p0 := x.p0 + err * fineP, target := if d.axisRests a then x.target + err else x.target })
  d.puts .AX_POS_VALUE (d.gets .AX_POS_VALUE a + err) a

/-- A standby adopts a good record: it becomes the mark (R361). -/
def Dev.adoptRecord (d : Dev) (gs : List Gran) (at' : Nat) : Dev :=
  let d := d.modHinge (fun h => { h with mark := gs, markAt := at' })
  let d := forAll (List.range 34) (fun d n => d.adoptEngine n at') d
  let d := forAll (List.range 34) (fun d n =>
    let w := d.markHold n
    if hasBit w 15 then d
    else d.setReqs (d.kerf.reqs.map (fun r =>
      if r.eng == n && !r.held then { r with inst := at' - w % 2 ^ 14 * qUs, starving := hasBit w 14 } else r))) d
  let d := forAll (List.range 32) (fun d ch =>
    let w := granWord (gs.drop 18) ch
    match d.engineOf ch with
    | some n => if intClasses.contains (bitsOf w 18 16) then d.put .MPL_INT_I (w % 2 ^ 16) n (bitsOf w 18 16) else d
    | none => d) d
  forAll (List.range 8) (fun d a => if d.get .AX_STAT_STATE a = 0 then d else d.adoptAxis a (d.now - at')) d

/-! ### Resumption (R164, R363) -/

/-- The lead-out from an engine's present planned state to rest. -/
def Dev.leadOutNow (d : Dev) (l : Lims) (p : Plan) : List Piece :=
  match pieceAt p.pieces d.now with
  | some c =>
    let k := c.at' (d.now - c.t0)
    let pt := c.point k.1
    let tip := if pt.x = c.q.x ∧ pt.y = c.q.y then c.p else pt
    let dest := (tip.beyond c.q (tip.dist c.q) (changeDist l.acc l.jrk k.2 0 - pt.dist c.q))
    let dest := if pt.dist c.q ≤ changeDist l.acc l.jrk k.2 0 then dest
      else pt.along c.q (pt.dist c.q) (changeDist l.acc l.jrk k.2 0)
    if k.2 = 0 then [{ kind := .rest, t0 := d.now, dur := 0, p := pt, q := pt }] else line l .leadOut pt dest 0 p.r.ser d.now k.2 k.2 0
  | none => []

/-- The position in its train at an instant of the record in progress (R155, R164). -/
def Gate.markPos (g : Gate) (t : Nat) : Nat :=
  (((g.olds ++ g.train.toList).filter (fun tr => decide (tr.t0 ≤ t))).getLast?.map (fun tr => tr.posOf t)).getD 0

/-- The remainder of a record from the mark: of a segment from the arc position, of a DWELL its remaining time. It goes on at the mark's
position in its train (R164). -/
def restOfRecord (p : Plan) (arc markAt pos : Nat) : LRec :=
  let r := { p.r with grid := pos }
  if r.cls = 5 then
    { r with speed := ceilDiv (endOf p.tBody p.body - markAt) qUs, resume := some 0 }
  else { r with S := r.S.along r.E r.len ((arc : Int) - r.startAt), resume := some arc }

/-- An engine whose mark lies inside an exposure record takes its gate low, leads out, and runs the remainder from the mark
under a new grant with the mirrored request instant; any other continues (R363). -/
def Dev.resumeEngine (d : Dev) (n : Nat) : Dev :=
  let e := d.eng n
  let at' := d.hinge.markAt
  match e.plans with
  | p :: rest =>
    if !p.begun d.now || p.r.dark || !((pieceAt p.pieces at').any Piece.exposing) then d
    else
      let pos := e.gate.markPos at'
      let d := d.forceGate n
      let outs := d.leadOutNow p.lims p
      let spot := d.spotAt n d.now
      let r := restOfRecord p (d.markArc n) at' pos
      let back := unplanned rest
      let d := d.modEng n (fun e => { e with
        plans := [], moves := outs, spot := spot, restAt := endOf d.now outs, look := r :: (back ++ e.look), starved := false })
      let d := if p.started then d.put .ENG_REC_SEQ_SEQ (d.get .ENG_REC_SEQ_SEQ n + 2 ^ 32 - 1) n else d
      let inst := at' - d.markHold n % 2 ^ 14 * qUs
      let d := d.modReq n r.ser (fun q => { q with status := .pending, inst := inst })
      (d.showKerf n).showState n
  | [] => d

/-- A tile's slot in progress counts as shown, and its frame and count are the mirrored ones (R363). -/
def Dev.resumeTile (d : Dev) (t : Nat) : Dev :=
  let w := d.markTile t
  let seqOf (id : Nat) : Nat := ((d.job id).map Job.sequence).getD 0
  let q := (d.tile t).queue
  if d.slotRuns t && q.any (fun id => seqOf id == w % 2 ^ 16) && w != 0 then
    let before := q.takeWhile (fun id => seqOf id != w % 2 ^ 16)
    let d := d.modTile t (fun x => { x with queue := x.queue.drop before.length })
    let d := before.foldl (fun d id => d.complete id 0) d
    match (d.tile t).queue.head?.bind d.job with
    | some j =>
      (d.modTile t (fun x => { x with
        left := some (j.bits 207 192 + x.cur.isSome.toNat - bitsOf w 31 16), blank := true })).modJob j.id (fun j => { j with progress := bitsOf w 31 16 })
    | none => d
  else d

/-- An axis replans from its mirrored position to its present target; no emergency ramp (R284, R363). -/
def Dev.resumeAxis (d : Dev) (a : Nat) : Dev :=
  if d.get .AX_STAT_STATE a = 0 ∨ d.axisRests a = true then d else d.runTo a (d.axis a).target (d.axis a).vlim

/-- Devices of the enabled kerf and grain peer entries, and of the zones in use (R363). -/
def Dev.relations (d : Dev) : List Nat :=
  let peers := (List.range 8).flatMap (fun k =>
    (if d.flag .KRF_PEER_ENABLE k then [d.get .KRF_PEER_PEER_ID k] else [])
      ++ (if d.flag .GRN_PEER_ENABLE k then [d.get .GRN_PEER_PEER_ID k] else []))
  let zones := (List.range 34).flatMap (fun n => (List.range 64).filterMap (fun z =>
    if d.zoneOn n z && d.eff .SCF_ZONE_CFG_REMOTE n z == 1 then some (d.eff .SCF_ZONE_PART_PART_DEV n z) else none))
  (peers ++ zones).eraseDups

/-- The former active's ID replaced in the peer entries, and its halo dropped (R363, R212). -/
def Dev.replacePeer (d : Dev) (former new : Nat) : Dev :=
  let d := forAll (List.range 8) (fun d k =>
    let d := if d.flag .KRF_PEER_ENABLE k ∧ d.get .KRF_PEER_PEER_ID k = former then d.put .KRF_PEER_PEER_ID new k else d
    if d.flag .GRN_PEER_ENABLE k ∧ d.get .GRN_PEER_PEER_ID k = former then d.put .GRN_PEER_PEER_ID new k else d) d
  let drop (l : List HPath) : List HPath := l.filter (fun h => h.dev != former)
  { d with kerf := { d.kerf with halo := drop d.kerf.halo, incoming := drop d.kerf.incoming } }

/-! ### Fencing (R354) -/

/-- FENCE_IN_n forces the device safe: every output safe, every descriptor in execution ends with 0x05F0 (R354). -/
def Dev.enterFenced (d : Dev) : Dev :=
  let d := d.outputsSafe 0x05f0
  let d := forAll (List.range 34) (fun d n => (d.discardRecs n (fun _ => true)).clearStream n) d
  let d := forAll (List.range 16) (fun d x => d.freezeContext x) d
  let js := d.jobs.filter (fun j => j.status == .executing && j.opcode != 0x21)
  let d := js.foldl (fun d j => d.complete j.id 0x05f0) d
  let d := forAll (List.range 16) (fun d t => d.modTile t (fun x =>
    { x with queue := [], left := none, missed := [], cur := none, next := none, late := none })) d
  let d := d.modHinge (fun h => { h with fenced := true, deciding := none, handover := none })
  (((d.put .HNG_STAT_STATE 5).put .HNG_STAT_REASON 6).lower .HNG_STAT_ELIGIBLE).sendRecord []

/-! ### Resynchronisation (R365) -/

/-- The first part of a snapshot: integrators of each channel, of each axis its encoder's count and following reference, HOMED and the
reference's validity, then the deposit carries, two channels to a granule. -/
def Dev.snapCore (d : Dev) : List Gran :=
  let chan (ch : Nat) : Gran := match d.engineOf ch with
    | some n =>
      BitVec.ofNat 128 ((List.range 6).foldl (fun w k => w + d.get .MPL_INT_I n (intClasses.getD k 1) * 2 ^ (16 * k)) 0)
    | none => 0#128
  let carry (ch : Nat) : Nat := ((d.engineOf ch).map (fun n => (d.eng n).loop.carry)).getD 0 % 2 ^ 64
  let axis (a : Nat) : Gran := granWords [d.get .ENC_COUNT_VALUE a, uInt 32 (d.enc a).cRef, uInt 32 (d.enc a).pRef,
    d.get .AX_STAT_HOMED a + d.get .ENC_STAT_REF_VALID a * 2]
  [0#128] ++ (List.range 32).map chan ++ (List.range 8).map axis
    ++ (List.range 16).map (fun g => BitVec.ofNat 128 (carry (2 * g) + carry (2 * g + 1) * 2 ^ 64))

/-- The part of a snapshot for a tile: its deposit carry and its stop-out list (R275). -/
def Dev.snapTile (d : Dev) (t : Nat) : List Gran :=
  [BitVec.ofNat 128 (1 + t), BitVec.ofNat 128 ((d.tile t).carry % 2 ^ 64)] ++ wordGrans 16 (fun k => d.word .VDR_STOP t k)

/-- One frame of the snapshot to the partner. -/
def Dev.sendState (d : Dev) (gs : List Gran) (more : Bool) : Dev :=
  d.fabSend { kind := 0x22, dst := d.partner, payload := gs, launch := d.now, more := more }

/-- SNAPSHOT frames to a partner that synchronises (R365 step 3). -/
def Dev.sendSnapshot (d : Dev) : Dev :=
  if d.paired && d.hngState == 1 && d.hinge.syncPeer then
    forAll (List.range 16) (fun d t => d.sendState (d.snapTile t) (t != 15)) (d.sendState d.snapCore true)
  else d

/-- A part of a snapshot applied by the synchronising partner. -/
def Dev.takeSnapshot (d : Dev) (gs : List Gran) : Dev :=
  let part := bitsOf (gs.getD 0 0#128).toNat 7 0
  if part = 0 then
    let d := forAll (List.range 32) (fun d ch =>
      let w := (gs.getD (1 + ch) 0#128).toNat
      match d.engineOf ch with
      | some n =>
        let d := forAll (List.range 6) (fun d k => d.put .MPL_INT_I (bitsOf w (16 * k + 15) (16 * k)) n (intClasses.getD k 1)) d
        let c := 64 * (ch % 2)
        d.modEng n (fun e => { e with loop := { e.loop with
          carry := bitsOf (gs.getD (41 + ch / 2) 0#128).toNat (c + 63) c } })
      | none => d) d
    forAll (List.range 8) (fun d a =>
      let w := (gs.getD (33 + a) 0#128).toNat
      let d := (d.put .ENC_COUNT_VALUE (bitsOf w 31 0) a).modEnc a (fun e =>
        { e with cRef := sInt 32 (bitsOf w 63 32), pRef := sInt 32 (bitsOf w 95 64) })
      (d.put .AX_STAT_HOMED (bitsOf w 96 96) a).put .ENC_STAT_REF_VALID (bitsOf w 97 97) a) d
  else if part ≤ 16 then
    let t := part - 1
    let d := d.modTile t (fun x => { x with carry := bitsOf (gs.getD 1 0#128).toNat 63 0 })
    let d := d.resetWhere (fun c => c.fld.reg == .VDR_STOP && c.i == t)
    let d := forAll (List.range 64) (fun d k =>
      let w := granWord (gs.drop 2) k
      (Reg.fields .VDR_STOP).foldl (fun d f => d.put f (f.of w) t k) d) d
    let n := ((List.range 64).filter (fun k => d.flag .VDR_STOP_VALID t k)).length
    let d := d.put .VDR_STAT_STOPPED n t
    if part = 16 then d.modHinge (fun h => { h with snapped := true }) else d
  else d

/-- Cells of one GRAIN_COPY frame: 91 granules of four cells. -/
def copyCells : Nat := 364

/-- A GRAIN_COPY frame of `n` cells from `k` on: first cell, count, whether it repeats cells, whether it is the last. -/
def Dev.copyFrame (d : Dev) (k n : Nat) (again last : Bool) : FabMsg :=
  let head := BitVec.ofNat 128 (k + n * 2 ^ 32 + again.toNat * 2 ^ 48 + last.toNat * 2 ^ 49)
  { kind := 0x23, dst := d.partner, payload := head :: wordGrans (ceilDiv n 4) (fun i => if i < n then d.cell (k + i) else 0),
    launch := d.now + 32 * copyCells / 5 * qNs, more := !last }

/-- The next frame of a copy under way, paced to 5 Gb/s; the first pass over, cells written behind it go again (R365). -/
def Dev.copyOn (d : Dev) : Dev :=
  match d.hinge.copyNext with
  | none => d
  | some k =>
    let size := 2 ^ 21
    let over' (d : Dev) : Dev := d.modHinge (fun h => { h with copyNext := none, recopy := [], copied := 1 })
    if k < size then
      let n := min copyCells (size - k)
      let d := d.cellErrors (fun x => decide (k ≤ x) && decide (x < k + n))
      let last := decide (k + n = size) && d.hinge.recopy.isEmpty
      let d := (d.fabSend (d.copyFrame k n false last)).modHinge (fun h => { h with copyNext := some (k + n) })
      if last then over' d else d
    else
      match d.hinge.recopy with
      | [] => over' d
      | c :: _ =>
        let n := min copyCells (size - c)
        let d := d.cellErrors (fun x => decide (c ≤ x) && decide (x < c + n))
        let left := d.hinge.recopy.filter (fun x => !(decide (c ≤ x) && decide (x < c + n)))
        let d := (d.fabSend (d.copyFrame c n true left.isEmpty)).modHinge (fun h => { h with recopy := left })
        if left.isEmpty then over' d else d

/-- A copy begins in RECOAT for a partner that synchronises, once in a layer (R365 step 4). -/
def Dev.startCopy (d : Dev) : Dev :=
  if d.paired && d.hngState == 1 && d.layerState == 0 && d.hinge.syncPeer && d.hinge.copyNext.isNone && d.hinge.copied == 0 then
    (d.modHinge (fun h => { h with copyNext := some 0, recopy := [] })).copyOn
  else d

/-- A copy not complete when EXPOSE begins is abandoned, on both sides (R365). -/
def Dev.abandonCopy (d : Dev) : Dev :=
  let d := if d.hinge.copyNext.isSome then { d with fabOut := d.fabOut.filter (fun m => m.kind != 0x23) } else d
  d.modHinge (fun h => { h with copyNext := none, recopy := [], copied := 0 })

/-- The next engine island of a standby's self-test asks for cover at a boundary (R364, R423). -/
def Dev.askBist (d : Dev) : Dev :=
  if d.paired && d.hngState == 2 && d.hinge.bist.isNone && decide (d.hinge.bistNext < 34) && d.inService d.hinge.bistNext then
    (d.modHinge (fun h => { h with bist := some h.bistNext })).askCover { kind := .bist, unit := d.hinge.bistNext, rank := 2 }
  else d

end Sys2Proof.Machine
end

