-- ==== Sys2Proof/Machine/LayerCmds.lean ====
section
/-! DEFINITION. The layer cycle (R39 to R59, R479, R480): the meanings of LAYER_OPEN, LAYER_MARK, LAYER_CLOSE, LAYER_RESUME,
EPOCH_SWEEP_DONE, PHASE_END, EXPOSE_START, BARRIER_READY, BARRIER_RELEASE, BARRIER_WAIT_REMINDER, MID_LAYER_REBASE and
REBASE_SWEEP_START. -/

namespace Sys2Proof.Machine

open Sys2Proof

/-! ### The barrier (R57 to R59) -/

/-- The barrier releases at an instant: LAYER_CLOSE completes, no layer is open, a pending time step is made (R46, R57, R324). -/
def Dev.releaseLayer (d : Dev) (t : Nat) : Dev :=
  let num := d.get .SYS_LAYER_NUM_LAYER_NUM
  let id := d.layer.closeJob
  let d := d.modLayer (fun l => { l with
    closeJob := none, release := none, released := t, ownerFrozen := false, rebase := false, readySent := false,
    marksSet := [], ready := l.ready.filter (fun r => r.2.1 != num) })
  let d := match id with
    | some j => d.completeAt j 0 t
    | none => d
  (d.enterState 8).timeIdle

/-- A release that has passed already: at once, with BARRIER_LATE and an event of severity 3 (R58). -/
def Dev.lateRelease (d : Dev) : Dev :=
  let n := d.get .SYS_BARRIER_STAT_READY_COUNT
  let d := (d.raise .SYS_LAYER_STAT_BARRIER_LATE).record 0x0113 3 (recSource 35 63) (d.get .SYS_LAYER_NUM_LAYER_NUM) n
  (d.occur 403).releaseLayer d.now

/-- The count of ready messages looked at again: with all members' the release is the latest ready instant plus LEAD_US; a
device in the barrier wait whose release has passed releases at once (R57, R58). -/
def Dev.recheckBarrier (d : Dev) : Dev :=
  let d := d.showReady
  let rs := d.readyFor (d.get .SYS_LAYER_NUM_LAYER_NUM)
  if d.layerState = 10 ∧ d.layer.release = none ∧ d.readyNeeded ≤ rs.length then
    let t := rs.foldl (fun m r => max m r.2.2) 0 + d.get .SYS_BARRIER_CFG_LEAD_US * qUs
    if t < d.now then d.lateRelease else d.modLayer (fun l => { l with release := some t })
  else d

/-- Entry to the barrier wait: the ready message is broadcast and counted, but for a partner that runs dry, and but for a pair
whose former active has sent it (R57, R58, R349, R363). -/
def Dev.enterBarrier (d : Dev) : Dev :=
  let num := d.get .SYS_LAYER_NUM_LAYER_NUM
  let d := (d.modLayer (fun l => { l with waitSince := d.now, reminders := 0, release := none })).enterState 10
  let d :=
    if d.drives && !d.layer.readySent then
      let g := BitVec.ofNat 128 (num + ts64 d.now * 2 ^ 32 + d.get .FAB_GROUP_BARRIER_GRP * 2 ^ 96)
      (d.fabBcast 0x10 [g]).holdReady d.ownId num d.now
    else d
  d.recheckBarrier

/-- BARRIER_READY: a message of the device's own group is counted, once per sender and layer (R57, R349). -/
def execBarrierReady (dt : Nat) (dev : Fin 1024) (payload : List Gran) (s : State) : Host.Outcome State Fault Refusal :=
  s.act dt (fun d => d.granting dev 3 none (fun d =>
    match payload with
    | g :: _ =>
      let w := g.toNat
      if bitsOf w 103 96 = d.get .FAB_GROUP_BARRIER_GRP then
        ((d.setMember dev true).holdReady dev (bitsOf w 31 0) (resolveTs64 d.now (bitsOf w 95 32)).toNat).recheckBarrier
      else (d.setMember dev false).recheckBarrier
    | [] => d))

/-- BARRIER_RELEASE: the computed release instant arrives in the barrier wait (R57). -/
def execBarrierRelease (dt : Nat) (s : State) : Host.Outcome State Fault Refusal :=
  s.act dt (fun d =>
    match d.layer.release with
    | some t => if d.layerState = 10 ∧ t ≤ d.now then d.releaseLayer t else d
    | none => d)

/-- BARRIER_WAIT_REMINDER: an event of severity 3 after every 10 s of barrier wait (R59). -/
def execBarrierWaitReminder (dt : Nat) (s : State) : Host.Outcome State Fault Refusal :=
  s.act dt (fun d =>
    d.when (d.layerState == 10 && decide (d.layer.waitSince + (d.layer.reminders + 1) * 10 * qSec ≤ d.now)) (fun d =>
      (d.modLayer (fun l => { l with reminders := l.reminders + 1 })).record 0x0113 3 (recSource 35 63)
        (d.get .SYS_LAYER_NUM_LAYER_NUM) (d.get .SYS_BARRIER_STAT_READY_COUNT)))

/-! ### LAYER_OPEN (R43, R44, R49) -/

/-- Registers whose written values take effect in the boundary window: zones, kerf, own box, scale and look-ahead tables (R182
and the register lists of chapters 8 and 9). -/
def boundaryRegs : List Reg :=
  [.SCF_ZONE_CFG, .SCF_ZONE_PART, .SCF_ZONE_REF_X, .SCF_ZONE_REF_Y, .SCF_ZONE_GEOM, .SCF_ZONE_SEED, .SCF_ZONE_TIME, .KRF_CFG,
   .KRF_PLUME, .KRF_PLUME_DIM, .KRF_HALO_CFG, .KRF_INNER_X0, .KRF_INNER_X1, .KRF_INNER_Y0, .KRF_INNER_Y1, .GRN_OWN_X0,
   .GRN_OWN_X1, .GRN_OWN_Y0, .GRN_OWN_Y1, .GRN_SCALE, .GRN_LOOK]

/-- Registers that count for one layer, cleared when LAYER_OPEN is taken. -/
def layerCounts : List Reg :=
  [.ENG_JCT, .ENG_GATE_SKIP, .ENG_GATE_PULSES, .SCF_CNT_A, .SCF_CNT_B, .KRF_CNT_A, .KRF_CNT_B, .MPL_CNT, .VNR_CNT, .GRN_LOST]

/-- What an engine keeps for one layer only starts anew (R163, R184, R190, R194, R196, R226, R229, R230). Feedback lost to
darkness or saturation is in use again. -/
def Dev.layerEngine (d : Dev) (n : Nat) : Dev :=
  let lp := (d.eng n).loop
  let back := lp.missing == 2 || lp.missing == 3
  let d := if back then d.lower .MPL_STAT_FB_LOST n else d
  d.modEng n (fun e => { e with
    vidx := [], cut := [], absences := [], passes := [], hist := [], gate := { e.gate with behindSeen := false },
    loop := { e.loop with
      ffNoted := false, carry := 0, missing := if back then 0 else lp.missing,
      darkRun := if back then 0 else lp.darkRun, satRun := if back then 0 else lp.satRun } })

/-- A faulted channel whose link is up again returns to service; one still faulted goes on discarding (R148). -/
def Dev.returnChannel (d : Dev) (n : Nat) : Dev :=
  if d.get .ENG_STAT_STATE n ≠ 6 then d.modEng n (fun e => { e with discard := false })
  else if d.flag .ENG_STAT_LINK_UP n then
    let ch := d.get .ENG_STAT_BOUND_CH n
    ((d.setLink ch { d.link ch with faulted := false }).put .ENG_STAT_STATE 1 n).modEng n (fun e => { e with discard := false })
  else d.modEng n (fun e => { e with discard := true })

/-- A faulted engine without cover whose self-test has passed returns at the layer boundary, with its own channel (R24, R439). -/
def Dev.returnEngine (d : Dev) (u : Nat) : Dev :=
  let x := d.island u
  if x.faulted && !x.testing && !d.flag .MGT_UNIT_TEST_FAIL u && !d.flag .MGT_UNIT_OUT_HOST u && (d.coverOf u).isNone then
    (((d.setService u true).put .ENG_STAT_STATE 1 u).rebind u).faultOver u
  else d

/-- An uncovered slice that has passed its self-test returns (R420, R439). -/
def Dev.returnSlice (d : Dev) (u : Nat) : Dev :=
  let x := d.island u
  if x.faulted && !x.testing && !d.flag .MGT_UNIT_TEST_FAIL u && !d.flag .MGT_UNIT_OUT_HOST u && (d.coverOf u).isNone then
    ((d.setService u true).sliceServes u).faultOver u
  else d

/-- A unit whose last test failed is tested again in the boundary window (R440). -/
def Dev.retest (d : Dev) (u : Nat) : Dev :=
  if d.flag .MGT_UNIT_TEST_FAIL u then d.setIsland u { d.island u with testing := true } else d

/-- Whether an engine's channel is absent to its partners still: faulted, in the SAFE_STOP state, its owner frozen, or out of service
with no cover (R190). -/
def Dev.stillAbsent (d : Dev) (n : Nat) : Bool :=
  if d.get .ENG_STAT_BOUND_CH n = 63 then decide (n < 32) && (d.engineOf n).isNone && !d.inService n
  else d.get .ENG_STAT_STATE n == 6 || d.flag .ENG_GATE_STAT_SAFE_STOP n || (d.ownerOf n).any d.frozen
    || (!d.inService n && (d.coverOf n).isNone)

/-- At LAYER_OPEN the partners of channels that it does not find in service are told again, as the new layer knows of none (R196; DESIGN
CHOICE). -/
def Dev.tellAbsent (d : Dev) : Dev :=
  forAll ((List.range 34).filter (fun n => d.stillAbsent n)) (fun d n => d.goAbsent n) d

/-- The boundary window's work begins, side by side (R49): the epoch sweep with the old epoch, frequency changes, returns and
rebindings, retraining, and what the hinge pair sends then. -/
def Dev.openWindow (d : Dev) : Dev :=
  let d := (d.sweepCells d.now).putB .GRN_STAT_SWEEP (d.inService 38)
  let d := d.modLayer (fun l => { l with epoch := d.now, sweeping := d.inService 38 })
  let d := (d.put .SYS_LAYER_EPOCH_LO_NS (nsOf d.now)).put .SYS_LAYER_EPOCH_HI_SEC (secOf d.now % 2 ^ 32)
  let d := d.latchWhere (fun c => boundaryRegs.contains c.fld.reg)
  let d := (d.resetWhere (fun c => layerCounts.contains c.fld.reg)).lower .GRN_STAT_LOST_ANY
  let d := d.when (d.inService 38) (fun d => d.cellErrors (fun _ => true))
  let d := forAll (List.range 34) (fun d n => ((d.layerEngine n).returnChannel n).returnEngine n) d
  let d := forAll (rangeFrom 49 34) (fun d u => d.returnSlice u) d
  let d := forAll (List.range 16) (fun d t => d.modTile t (fun x => { x with carry := 0 })) d
  let d := forAll (List.range 8) (fun d e => d.modEnc e (fun x => { x with quadNoted := false })) d
  let d := forAll (List.range 83) (fun d u => d.retest u) d
  let d := forAll (List.range 34) (fun d n => d.startRelock n) d
  (((d.beginRetrain.askBist).pumpCal.sendSnapshot).enterState 9).tellAbsent

/-- The fields of a LAYER_OPEN (R43). -/
def Job.layer (j : Job) (l : Layer) : Layer :=
  { epoch := l.epoch, ready := l.ready, others := l.others, released := l.released, exposeEnd := l.exposeEnd, everExposed := l.everExposed,
    openJob := some j.id, everOpened := true, minDwellUs := j.bits 191 160, replayAxes := j.bits 199 192,
    repeatMax := j.bits 202 200, streakLimit := j.bits 223 208, streakCtx := j.bits 239 224, tileMask := j.bits 255 240,
    engineMask := j.bits 289 256, axisMask := j.bits 297 290, ctxMask := j.bits 313 298 }

/-- The code of a LAYER_OPEN that is not executed, lowest first (R44, R48). One that meets an open layer waits for its release
once that layer has taken its LAYER_CLOSE (DESIGN CHOICE), and completes with 0x0120 before that. -/
def Dev.openCode (d : Dev) (j : Job) : Option Nat :=
  let num := j.bits 159 128
  let last := d.get .SYS_LAYER_NUM_LAYER_NUM
  lowest [
    (d.layerOpen && !d.layer.closeTaken, 0x0120),
    (d.layer.everOpened && num != (last + 1) % 2 ^ 32, 0x0121),
    (j.bits 239 224 != Nat.land (j.bits 239 224) (j.bits 313 298), 0x0123)]

/-- LAYER_OPEN: the layer's masks and limits are taken, its start is the epoch, and the boundary window begins (R43, R44,
R49). -/
def execLayerOpen (dt : Nat) (job : Nat) (s : State) : Host.Outcome State Fault Refusal :=
  s.act dt (fun d => d.withJob job 0x20 (fun d j =>
    match d.openCode j with
    | some c => d.complete j.id c
    | none => if d.layerOpen then d else
      let d := ((d.begin' j).put .SYS_LAYER_NUM_LAYER_NUM (j.bits 159 128)).modLayer j.layer
      let d := (d.put .SYS_LAYER_STAT_REPEATS 0).lower .SYS_LAYER_STAT_HELD
      let d := { d with fabric := { d.fabric with joinedLate := [] } }
      d.openWindow.showReady.windowEnd))

/-- EPOCH_SWEEP_DONE: the sweep's end; in the boundary window a requested decay table is checked there (R49, R51, R225). The
sweep takes 2.097152 ms. -/
def execEpochSweepDone (dt : Nat) (s : State) : Host.Outcome State Fault Refusal :=
  s.act dt (fun d =>
    d.when (decide (d.layer.epoch + 2097152 * qNs ≤ d.now) && (d.layer.sweeping || d.layer.rebaseSweep)) (fun d =>
      let window := d.layer.sweeping
      let d := (d.modLayer (fun l => { l with sweeping := false, rebaseSweep := false })).lower .GRN_STAT_SWEEP
      if window then d.checkTable.windowEnd else d))

/-! ### LAYER_MARK, LAYER_CLOSE, LAYER_RESUME -/

/-- Work that a layer ended without exposure discards: frames of phases 2 to 4 on its tiles and vector descriptors of phase 3
on its engines (R55). -/
def Dev.darkWork (d : Dev) (j : Job) : Bool :=
  d.layer.dark && d.participates j.target && j.status != .staged &&
    ((j.opcode == 0x50 && (j.phase == some 2 || j.phase == some 3 || j.phase == some 4)) || (j.vector && j.phase == some 3))

/-- Such work leaves its queue and completes with 0x0330 (R55). -/
def Dev.discardDark (d : Dev) : Dev :=
  (d.jobs.filter (fun j => d.darkWork j)).foldl (fun d j =>
    let d :=
      if j.opcode = 0x50 then
        let t := j.target - 0x40
        d.modTile t (fun x => { x with queue := x.queue.filter (· != j.id), left := if x.queue.head? = some j.id then none else x.left })
      else d.dropRecs (d.execEngine j.target) j.id
    d.complete j.id 0x0330) d

/-- LAYER_MARK: every unassigned descriptor on the target's queue before it is assigned to PHASE; the mark completes when
they have (R45, R48, R479). Of other rings' descriptors to the target it assigns those fetched before it (DESIGN CHOICE). A faulted channel's engine discards up to its phase-3 mark (R148). -/
def execLayerMark (dt : Nat) (job : Nat) (s : State) : Host.Outcome State Fault Refusal :=
  s.act dt (fun d => d.withJob job 0x21 (fun d m =>
    let p := m.bits 130 128
    match lowest [(decide (4 < p) || decide (p + 1 ≤ Tab.get 0 d.layer.marksSet m.target), 0x0122), (!d.layerOpen, 0x0124)] with
    | some c => d.complete m.id c
    | none =>
      let d := d.begin' m
      let takes (j : Job) : Bool := j.target == m.target && decide (j.id < m.id) && j.opcode != 0x21 && j.phase.isNone
        && (j.status == .dispatched || j.status == .taken || j.status == .executing)
      let d := { d with jobs := d.jobs.map (fun j => if takes j then { j with phase := some p } else j) }
      let d := d.modLayer (fun l => { l with marksSet := Tab.set 0 l.marksSet m.target (p + 1) })
      let d := if m.target ≤ 0x21 ∧ 3 ≤ p then d.modEng (d.execEngine m.target) (fun e => { e with discard := false }) else d
      ((d.discardDark).settleMarks d.now).pumpCal))

/-- LAYER_CLOSE is taken for the open layer, once; it completes at the barrier's release (R46). -/
def execLayerClose (dt : Nat) (job : Nat) (s : State) : Host.Outcome State Fault Refusal :=
  s.act dt (fun d => d.withJob job 0x22 (fun d j =>
    if d.layerOpen = false ∨ d.layer.closeTaken = true then d.complete j.id 0x0124
    else (d.begin' j).modLayer (fun l => { l with closeTaken := true, closeJob := some j.id })))

/-- The kept descriptors of a phase on targets that `p` selects are executed again, in order (R53, R54, R480). -/
def Dev.replay (d : Dev) (phase : Nat) (p : Nat → Bool) : Dev :=
  { d with jobs := d.jobs.map (fun j =>
      if j.status == .replayable && j.phase == some phase && p j.target then
        { j with status := .dispatched, replay := true, code := none, partly := false, progress := 0 }
      else j) }

/-- The checks of phase 1 begin anew: what the contexts captured before no longer counts (R52). -/
def Dev.forgetFrames (d : Dev) : Dev :=
  forAll (maskList d.layer.ctxMask 16) (fun d x => d.modCam x (fun c => { c with lastValid := false, lastMetric := 0xffff })) d

/-- A recoat repeat: RECOAT again, with the phase-0 descriptors of the axes in REPLAY_AXES only (R54). -/
def Dev.repeatRecoat (d : Dev) : Dev :=
  let axes := d.layer.replayAxes
  let d := (d.bump .SYS_LAYER_STAT_REPEATS).modLayer (fun l => { l with replays := 0 })
  (d.replay 0 (fun t => decide (0x50 ≤ t) && hasBit axes (t - 0x50))).enterState 0

/-- POWDER_CHECK is left for PREHEAT: the descriptors kept for a replay go (R54, R100). -/
def Dev.leaveCheck (d : Dev) : Dev :=
  ({ d.lower .SYS_LAYER_STAT_HELD with jobs := d.jobs.filter (fun j => j.status != JobStatus.replayable) }).enterState 2

/-- LAYER_RESUME: accept the powder, repeat once more, or end the layer without exposure (R47, R48, R55). -/
def execLayerResume (dt : Nat) (job : Nat) (s : State) : Host.Outcome State Fault Refusal :=
  s.act dt (fun d => d.withJob job 0x23 (fun d j =>
    let action := j.bits 129 128
    if d.flag .SYS_LAYER_STAT_HELD = false ∨ action = 3 then d.complete j.id 0x0125
    else
      let d := d.lower .SYS_LAYER_STAT_HELD
      let d :=
        if action = 1 then d.repeatRecoat
        else if action = 2 then (d.modLayer (fun l => { l with dark := true })).leaveCheck.discardDark
        else d.leaveCheck
      d.complete j.id 0))

/-! ### The end of a phase (R41, R52 to R57) -/

/-- Targets that take part in the open layer (R43). -/
def Dev.participants (d : Dev) : List Nat :=
  maskList d.layer.engineMask 34 ++ (maskList d.layer.tileMask 16).map (· + 0x40) ++ (maskList d.layer.axisMask 8).map (· + 0x50)
    ++ (maskList d.layer.ctxMask 16).map (· + 0x60)

/-- Whether a resource has taken its mark for a phase or a later one; a tile that is not attached counts as having taken every
mark (R41, R253). -/
def Dev.markTaken (d : Dev) (t p : Nat) : Bool :=
  decide (p + 1 ≤ Tab.get 0 d.layer.marksTaken t)
    || (decide (0x40 ≤ t ∧ t ≤ 0x4f) && (!d.attached (t - 0x40) || (d.tile (t - 0x40)).attachJob.isSome))

/-- Whether an engine can run the takeover passes it owes (R194). -/
def Dev.runsPasses (d : Dev) (n : Nat) : Bool :=
  d.inService n && decide (d.get .ENG_STAT_STATE n ≠ 0 ∧ d.get .ENG_STAT_STATE n ≠ 6) && !d.flag .ENG_GATE_STAT_SAFE_STOP n
    && d.get .THM_STAT_STATE != 3 && !d.layer.dark && decide (d.get .ENG_STAT_BOUND_CH n < 32)
    && (match d.ownerOf n with | some f => !d.frozen f | none => true)

/-- Whether the gate of an engine, or of the shim that covers it, is low at the end of its last record, with no pass left that it can
run (R41, R94, R194). -/
def Dev.exposureDone (d : Dev) (n : Nat) : Bool :=
  let x := d.eng (d.execEngine n)
  x.plans.isEmpty && x.gate.edges.all (fun e => decide (e.1 ≤ d.now))
    && ((x.passes.isEmpty && !x.look.any LRec.isPass) || !d.runsPasses (d.execEngine n))

/-- Whether a work phase has ended (R41). -/
def Dev.phaseOver (d : Dev) (p : Nat) : Bool :=
  d.participants.all (fun t => d.markTaken t p) && !d.jobs.any (·.replay)
    && (p != 3 || (maskList d.layer.engineMask 34).all (fun n => d.exposureDone n))

/-- The first context of STREAK_CTX whose last frame fails, and whether that is for want of a valid frame (R52). -/
def Dev.checkFails (d : Dev) : Option (Nat × Bool) :=
  let cs := maskList d.layer.streakCtx 16
  match cs.find? (fun x => !(d.cam x).lastValid) with
  | some x => some (x, true)
  | none => (cs.find? (fun x => decide (d.layer.streakLimit < (d.cam x).lastMetric))).map (fun x => (x, false))

/-- The streak check at the end of phase 1 (R52 to R54); none is made for a layer whose owner is frozen (R109). -/
def Dev.powderCheck (d : Dev) : Dev :=
  let num := d.get .SYS_LAYER_NUM_LAYER_NUM
  match (if d.layer.ownerFrozen then none else d.checkFails) with
  | none => d.leaveCheck
  | some (x, invalid) =>
    if invalid = true ∧ d.layer.replays < 2 then
      (d.forgetFrames.modLayer (fun l => { l with replays := l.replays + 1 })).replay 1 (fun t => d.participates t)
    else
      let metric := (d.cam x).lastMetric
      let d := ((d.raise .SYS_LAYER_STAT_STREAK_FAIL).record 0x0111 3 (recSource 35 63) num x metric).occur 401
      if d.get .SYS_LAYER_STAT_REPEATS < d.layer.repeatMax then d.repeatRecoat
      else ((d.raise .SYS_LAYER_STAT_HELD).record 0x0112 4 (recSource 35 63) num).occur 402

/-- The end of a work phase, and what follows it. -/
def Dev.endPhase (d : Dev) : Dev :=
  let st := d.layerState
  if st = 0 then
    let d := d.forgetFrames
    let d := if d.get .SYS_LAYER_STAT_REPEATS = 0 then d else d.replay 1 (fun t => d.participates t)
    (d.modLayer (fun l => { l with replays := 0 })).enterState 1
  else if st = 1 then (if d.flag .SYS_LAYER_STAT_HELD ∧ d.layer.ownerFrozen = false then d else d.powderCheck)
  else if st = 3 then
    let d := forAll (List.range 34) (fun d n => d.dropPasses n false) d
    (d.modLayer (fun l => { l with exposeEnd := d.run, everExposed := true })).enterState 4
  else if st = 4 then (if d.layer.closeTaken ∨ d.layer.ownerFrozen = true then d.enterBarrier else d)
  else d

/-- PHASE_END: the phase in force ends once its marks are taken and, in EXPOSE, its gates are low (R41). PREHEAT ends in
EXPOSE_START. -/
def execPhaseEnd (dt : Nat) (s : State) : Host.Outcome State Fault Refusal :=
  s.act dt (fun d =>
    let st := d.layerState
    d.when ((st == 0 || st == 1 || st == 3 || st == 4) && d.phaseOver st) (fun d => d.endPhase))

/-- EXPOSE_START: the latest of the end of PREHEAT, the end of the last EXPOSE plus MIN_DWELL_US and the end of thermal
enforcement (R56). A hinge copy that is not complete is abandoned (R365). -/
def execExposeStart (dt : Nat) (s : State) : Host.Outcome State Fault Refusal :=
  s.act dt (fun d =>
    d.when (d.layerState == 2 && d.phaseOver 2 && d.get .THM_STAT_STATE != 2
        && (!d.layer.everExposed || decide (d.layer.exposeEnd + d.layer.minDwellUs * qUs ≤ d.run)))
      (fun d => (d.enterState 3).abandonCopy))

/-! ### The mid-layer rebase (R51) -/

/-- MID_LAYER_REBASE: 64,000 ms after the epoch of an open layer, starts are held and tiles blank until the sweep is done (R51). -/
def execMidLayerRebase (dt : Nat) (s : State) : Host.Outcome State Fault Refusal :=
  s.act dt (fun d =>
    d.when (d.layerOpen && d.layerState != 9 && !d.layer.rebase && !d.layer.rebaseSweep
        && decide (d.layer.epoch + 64000 * qMs ≤ d.now)) (fun d =>
      let d := (d.modLayer (fun l => { l with rebase := true })).raise .SYS_LAYER_STAT_REBASE
      (d.record 0x0110 2 (recSource 35 63) (d.get .SYS_LAYER_NUM_LAYER_NUM)).occur 404))

/-- REBASE_SWEEP_START: once every gate is low, the sweep runs with its start as the new epoch (R51). -/
def execRebaseSweepStart (dt : Nat) (s : State) : Host.Outcome State Fault Refusal :=
  s.act dt (fun d =>
    d.when (d.layer.rebase && (List.range 34).all (fun n =>
        ((d.eng n).current d.now).isNone && (d.eng n).gate.edges.all (fun e => decide (e.1 ≤ d.now)))) (fun d =>
      let d := (d.when (d.inService 38) (fun d => d.cellErrors (fun _ => true))).sweepCells d.now
      let d := d.raise .GRN_STAT_SWEEP
      let d := d.modLayer (fun l => { l with rebase := false, rebaseSweep := true, epoch := d.now })
      (d.put .SYS_LAYER_EPOCH_LO_NS (nsOf d.now)).put .SYS_LAYER_EPOCH_HI_SEC (secOf d.now % 2 ^ 32)))

end Sys2Proof.Machine
end

