-- ==== Sys2Proof/Machine/HingeCmds.lean ====
section
/-! DEFINITION. The hinge pair's events (R354 to R367): the meanings of FENCE_IN_ASSERT, FENCE_IN_RELEASE,
HINGE_STARTUP_TIMEOUT, MIRROR_CAPTURE, HEARTBEAT_SEND, MIRROR, HEARTBEAT, HINGE_PATH_LOST, SWITCHOVER_OWN_RAISE, TAKEOVER,
HEALTH_REPORT, HEALTH, STANDBY_BIST_DONE, SNAPSHOT, GRAIN_COPY, HNG_HANDOVER and HNG_RELEASE. -/

namespace Sys2Proof.Machine

open Sys2Proof

/-! ### The fence (R354) -/

/-- FENCE_IN_n falls: a device of a pair is FENCED at once (R354, R367). -/
def execFenceInAssert (dt : Nat) (s : State) : Host.Outcome State Fault Refusal :=
  s.act dt (fun d =>
    let d := { d.lower .HNG_STAT_FENCE_IN with pins := { d.pins with fenceIn := true } }
    if d.paired && d.hngState != 5 then d.enterFenced else d)

/-- FENCE_IN_n returns high: the device leaves FENCED for SYNCING (R354). -/
def execFenceInRelease (dt : Nat) (s : State) : Host.Outcome State Fault Refusal :=
  s.act dt (fun d =>
    let d := { d.raise .HNG_STAT_FENCE_IN with pins := { d.pins with fenceIn := false } }
    if d.fenced then
      (d.put .HNG_STAT_STATE 3).modHinge (fun h => { h with fenced := false, since := d.run, snapped := false, copied := 0 })
    else d)

/-! ### Roles (R357) -/

/-- HINGE_STARTUP_TIMEOUT: 100 ms in SYNCING with no ACTIVE beat heard and FENCE_IN_n high let the preferred device, or one
whose partner was silent throughout, enter ACTIVE (R357). -/
def execHingeStartupTimeout (dt : Nat) (s : State) : Host.Outcome State Fault Refusal :=
  s.act dt (fun d =>
    let quiet (x : Option Nat) : Bool := x.all (fun t => decide (t + 100 * qMs ≤ d.run))
    d.when (d.paired && d.hngState == 3 && !d.pins.fenceIn && decide (d.hinge.since + 100 * qMs ≤ d.run)
        && quiet d.hinge.heardActive && (d.prefers || quiet d.hinge.heardAny)) (fun d =>
      { d.put .HNG_STAT_STATE 1 with pins := { d.pins with own := true } }))

/-! ### The decision (R361, R362, R364) -/

/-- A standby that may take over decides: ACTIVE internally, FENCE_OUT_n low, and the gap begins; one that may not, or a device
that synchronises, records it and takes over nothing (R361, R362). A self-test under way is abandoned (R367). -/
def Dev.switchOver (d : Dev) : Dev :=
  if d.hngState = 2 ∧ d.flag .HNG_STAT_ELIGIBLE = true then
    let d := { d.put .HNG_STAT_STATE 1 with pins := { d.pins with fenceOut := true } }
    let bist := (d.cal.running.filter (fun r => r.rank == 2)).map (·.unit)
    let d := bist.foldl (fun d u =>
      let rs := d.cal.running.filter (fun r => r.unit == u)
      { d with cal := { d.cal with running := d.cal.running.filter (fun r => r.unit != u), ending := d.cal.ending ++ rs } }) d
    (d.lower .HNG_STAT_ELIGIBLE).modHinge (fun h => { h with deciding := some d.run, bist := none })
  else if d.hngState = 2 ∨ d.hngState = 3 then d.record 0x0b02 6 (recSource 47 63) (d.get .HNG_STAT_REASON)
  else d

/-- What a beat says of the partner (R357, R360, R361, R366, R367). A standby decides on any frame that carries FAILED or FENCED;
one that may not take over records it once for each entry into such a state (DESIGN CHOICE: R361 does not say how often). -/
def Dev.hearState (d : Dev) (g : Nat) : Dev :=
  let st := bitsOf g 35 32
  let was := d.hinge.peerState
  let d := d.modHinge (fun h => { h with
    heardAny := some d.run, heardActive := if st = 1 then some d.run else h.heardActive, peerState := st,
    syncPeer := st == 3 })
  let d := if st = 4 ∨ st = 5 then d.put .HNG_STAT_REASON (bitsOf g 47 40) else d
  let d := match d.hinge.handover with
    | some id => if st = 1 then (d.modHinge (fun h => { h with handover := none })).complete id 0 else d
    | none => d
  if st = 1 ∧ d.hngState = 1 ∧ d.hinge.deciding = none ∧ d.prefers = false then d.hingeFail 7
  else if (st = 4 ∨ st = 5) ∧ (st ≠ was ∨ (d.hngState = 2 ∧ d.flag .HNG_STAT_ELIGIBLE = true)) then d.switchOver
  else d

/-- A beat heard on path A or B; the path is restored by three in a row (R360). -/
def Dev.beatA (d : Dev) : Dev :=
  let d := d.modHinge (fun h => { h with lastA := d.run, beatsA := min (h.beatsA + 1) 3 })
  if 3 ≤ d.hinge.beatsA then d.raise .HNG_STAT_PATH_A_UP else d

def Dev.beatB (d : Dev) : Dev :=
  let d := d.modHinge (fun h => { h with lastB := d.run, beatsB := min (h.beatsB + 1) 3 })
  if 3 ≤ d.hinge.beatsB then d.raise .HNG_STAT_PATH_B_UP else d

/-- The time offset of path B: 16 records in a row beyond 10 ns set TIME_ERR (R364). -/
def Dev.checkPathB (d : Dev) (capture : Int) : Dev :=
  let off := (d.now : Int) - capture - (d.get .HNG_PATHB_DLY_DLY : Nat)
  let bad := if off.natAbs ≤ 10 * qNs then 0 else d.hinge.timeBad + 1
  let d := d.modHinge (fun h => { h with timeBad := bad })
  if 16 ≤ bad ∧ d.flag .HNG_STAT_TIME_ERR = false then (d.raise .HNG_STAT_TIME_ERR).record 0x0b01 4 (recSource 47 63) 4 else d

/-- What the pair's frames bring: nothing while HINGE is out of service, nor on path A while FABRIC is (R37). -/
def Dev.pairIn (d : Dev) (pathB : Bool) (f : Dev → Dev) : Dev := d.when (d.paired && d.inService 47 && (pathB || d.inService 46)) f

/-- MIRROR: a good record of the partner (R359 to R361, R364). On path B a changed BEAT is a beat; a standby adopts an ACTIVE
device's whole record. -/
def execMirror (dt : Nat) (pathB : Bool) (payload : List Gran) (s : State) : Host.Outcome State Fault Refusal :=
  s.act dt (fun d =>
    match payload with
    | g :: rest =>
      d.pairIn pathB (fun d =>
        let d := if pathB then d else d.hear d.partner
        let w := g.toNat
        let capture := resolveTs64 d.now (bitsOf w 127 64)
        let beat := hasBit w 36
        let fresh := d.hinge.beatIn != some beat
        let d := if pathB then
            let d := if fresh then d.beatB else d
            let d := d.modHinge (fun h => { h with beatIn := some beat })
            if d.hngState = 2 then d.checkPathB capture else d
          else d
        let d := if d.hngState = 2 ∧ bitsOf w 35 32 = 1 ∧ rest.length = 36 then d.adoptRecord payload capture.toNat else d
        d.hearState w)
    | [] => d)

/-- HEARTBEAT: a path A beat (R360). -/
def execHeartbeat (dt : Nat) (payload : List Gran) (s : State) : Host.Outcome State Fault Refusal :=
  s.act dt (fun d =>
    match payload with
    | g :: _ => d.pairIn false (fun d => ((d.hear d.partner).beatA).hearState g.toNat)
    | [] => d)

/-- A path of the hinge pair is lost: the alarm, and with both lost a record of the active or the standby's decision (R360 to
R362). -/
def Dev.losePath (d : Dev) (pathB : Bool) : Dev :=
  let d := if pathB then (d.lower .HNG_STAT_PATH_B_UP).modHinge (fun h => { h with beatsB := 0 })
    else (d.lower .HNG_STAT_PATH_A_UP).modHinge (fun h => { h with beatsA := 0 })
  let d := ((d.raise .HNG_STAT_ALARM).record 0x0b01 4 (recSource 47 63) (if pathB then 2 else 1)).occur 418
  if d.flag .HNG_STAT_PATH_A_UP ∨ d.flag .HNG_STAT_PATH_B_UP = true then d
  else if d.hngState = 1 then d.record 0x0b01 4 (recSource 47 63) 3
  else d.switchOver

/-- HINGE_PATH_LOST: no beat for three intervals, 30 µs on path A and 3 µs on path B, with ALARM and an event of severity 4;
with both lost a standby decides and an active device stays active (R360, R361). P0 of 0x0B01 is the model's number: 1 path
A, 2 path B, 3 both while active, 4 health. -/
def execHingePathLost (dt : Nat) (pathB : Bool) (s : State) : Host.Outcome State Fault Refusal :=
  s.act dt (fun d =>
    let up := if pathB then d.flag .HNG_STAT_PATH_B_UP else d.flag .HNG_STAT_PATH_A_UP
    let since := if pathB then d.hinge.lastB + 3 * qUs else d.hinge.lastA + 30 * qUs
    d.when (d.paired && up && decide (since < d.run)) (fun d => d.losePath pathB))

/-! ### The end of the gap (R362, R363) -/

/-- The new active resumes from the mark: axes, tiles, engines, then the fabric (R363). -/
def Dev.resumeAll (d : Dev) : Dev :=
  let d := forAll (List.range 8) (fun d a => d.resumeAxis a) d
  let d := if d.hinge.mark.isEmpty then d else
    let d := forAll (List.range 16) (fun d t => d.resumeTile t) d
    forAll (List.range 34) (fun d n => d.resumeEngine n) d
  let g := BitVec.ofNat 128 (d.partner + d.ownId * 2 ^ 16)
  let d := d.relations.foldl (fun d p => d.fabUnicast 0x25 p [g]) d
  let sent := hasBit ((d.hinge.mark.head?.map (·.toNat)).getD 0) 37
  if d.layerState = 10 ∧ sent = false then
    let num := d.get .SYS_LAYER_NUM_LAYER_NUM
    let r := BitVec.ofNat 128 (num + ts64 d.layer.waitSince * 2 ^ 32 + d.get .FAB_GROUP_BARRIER_GRP * 2 ^ 96)
    ((d.fabBcast 0x10 [r]).holdReady d.ownId num d.layer.waitSince).recheckBarrier
  else d.modLayer (fun l => { l with readySent := sent })

/-- SWITCHOVER_OWN_RAISE: OWN goes high once OWN_IN has been low for 20 ns, or 300 ns after the decision with FENCE_FAIL; the
gap ends and the device resumes (R362, R363). -/
def execSwitchoverOwnRaise (dt : Nat) (ownInLow : Bool) (s : State) : Host.Outcome State Fault Refusal :=
  s.act dt (fun d =>
    match d.hinge.deciding with
    | some t =>
      d.when (ownInLow || decide (t + 300 * qNs ≤ d.run)) (fun d =>
        let d := { d with pins := { d.pins with own := true, ownIn := !ownInLow } }
        let d := d.putB .HNG_STAT_OWN_IN (!ownInLow)
        let d := if ownInLow then d else d.raise .HNG_STAT_FENCE_FAIL
        let gap := ceilDiv (d.run - t) (5 * qNs)
        let d := (d.put .HNG_CNT_GAP_CYC (min gap 255)).bump .HNG_CNT_SWITCHOVERS
        let d := (d.record 0x0b02 6 (recSource 47 63) (d.get .HNG_STAT_REASON) gap).occur 419
        (d.modHinge (fun h => { h with deciding := none })).resumeAll)
    | none => d)

/-- TAKEOVER: the former active's ID becomes the new one in the peer entries, and its halo paths go (R363). -/
def execTakeover (dt : Nat) (dev : Fin 1024) (payload : List Gran) (s : State) : Host.Outcome State Fault Refusal :=
  s.act dt (fun d => d.fabricIn (fun d =>
    let d := d.hear dev
    match payload with
    | g :: _ => (d.replacePeer (bitsOf g.toNat 9 0) (bitsOf g.toNat 25 16)).setMember (bitsOf g.toNat 9 0) false
    | [] => d))

/-! ### Records and beats sent (R359, R360) -/

/-- MIRROR_CAPTURE: each microsecond an ACTIVE device captures a record and sends it on both paths, any other device of a pair
granule 0 alone (R359). An active whose partner synchronises begins its copy in RECOAT (R365). -/
def execMirrorCapture (dt : Nat) (s : State) : Host.Outcome State Fault Refusal :=
  s.act dt (fun d =>
    d.when (d.paired && d.now % qUs == 0 && d.inService 47) (fun d =>
      let d := if d.hinge.lastB + qUs < d.run then d.bump .HNG_CNT_MIRROR_MISS else d
      (d.sendRecord (if d.hngState = 1 then d.mirrorRest else [])).startCopy))

/-- HEARTBEAT_SEND: granule 0 on path A every 10 µs (R360). -/
def execHeartbeatSend (dt : Nat) (s : State) : Host.Outcome State Fault Refusal :=
  s.act dt (fun d =>
    d.when (d.paired && d.now % (10 * qUs) == 0 && d.inService 47) (fun d =>
      d.fabUnicast 0x20 d.partner [d.beatGran]))

/-! ### Health (R364) -/

/-- Whether a channel or tile link is down. -/
def Dev.linkFail (d : Dev) : Bool :=
  (List.range 34).any (fun n => decide (d.get .ENG_STAT_BOUND_CH n < 32) && !d.flag .ENG_STAT_LINK_UP n)
    || (List.range 16).any (fun t => d.attached t && !d.flag .VDR_STAT_LINK_UP t)

/-- Both paths are lost: neither has had a beat for more than three intervals (R360). -/
def Dev.pathsLost (d : Dev) : Bool :=
  !d.flag .HNG_STAT_PATH_A_UP && !d.flag .HNG_STAT_PATH_B_UP
    && decide (d.hinge.lastA + 30 * qUs < d.run ∧ d.hinge.lastB + 3 * qUs < d.run)

/-- HEALTH_REPORT: every 100 ms HNG_HEALTH is written and sent to the partner; a standby that it makes ELIGIBLE with both paths
lost decides (R361, R364). -/
def execHealthReport (dt : Nat) (s : State) : Host.Outcome State Fault Refusal :=
  s.act dt (fun d =>
    d.when (d.paired && d.inService 47 && decide (d.hinge.reportAt + 100 * qMs ≤ d.run)) (fun d =>
      let d := (d.modHinge (fun h => { h with reportAt := d.run })).showHealth
      let d := d.putB .HNG_HEALTH_LINK_FAIL d.linkFail
      let d := d.put .HNG_HEALTH_REPORTS ((d.get .HNG_HEALTH_REPORTS + 1) % 2 ^ 16)
      let d := d.fabUnicast 0x24 d.partner [BitVec.ofNat 128 (d.word .HNG_HEALTH)]
      if d.flag .HNG_STAT_ELIGIBLE ∧ d.pathsLost = true then d.switchOver else d))

/-- HEALTH: the partner's report is shown in HNG_PEER_HEALTH (R364). -/
def execHealth (dt : Nat) (payload : List Gran) (s : State) : Host.Outcome State Fault Refusal :=
  s.act dt (fun d =>
    match payload with
    | g :: _ => d.fabricIn (fun d =>
        (Reg.fields .HNG_PEER_HEALTH).foldl (fun d f => d.put f (f.of g.toNat)) (d.hear d.partner))
    | [] => d)

/-- STANDBY_BIST_DONE: the self-test of an engine island, or the scrub of another island's SRAM, has ended on a standby. A
failure without cover, or an uncorrectable scrub error, ends HEALTH_OK with an event of severity 4 (R364). -/
def execStandbyBistDone (dt : Nat) (n : Fin 49) (ok : Bool) (s : State) : Host.Outcome State Fault Refusal :=
  s.act dt (fun d =>
    d.when (d.paired && d.hngState == 2) (fun d =>
      let d := d.put .HNG_HEALTH_LAST_ISLAND n
      if decide (n.val < 34) then
        if d.hinge.bist = some n.val then
          let d := d.modHinge (fun h => { h with bist := none, bistNext := if n.val = 33 then 0 else n.val + 1 })
          let d := d.setIsland n { d.island n with bistOk := ok }
          let d := match d.cal.running.find? (fun r => r.unit == n.val) with
            | some r => d.calDone r ok []
            | none => if ok then d else d.unitFault n 5 0
          let d := if !ok && (d.coverOf n).isNone then (d.raise .HNG_HEALTH_BIST_FAIL).record 0x0b01 4 (recSource 47 63) 4
            else if ok && (List.range 34).all (fun k => (d.island k).bistOk) then d.lower .HNG_HEALTH_BIST_FAIL else d
          d.showHealth
        else d
      else if ok then d
      else ((d.raise .HNG_HEALTH_SCRUB_UNCORR).record 0x0b01 4 (recSource 47 63) 4).showHealth))

/-! ### Resynchronisation (R365) -/

/-- SNAPSHOT: a part of the active's snapshot is applied by a partner that synchronises (R365). -/
def execSnapshot (dt : Nat) (payload : List Gran) (s : State) : Host.Outcome State Fault Refusal :=
  s.act dt (fun d => d.pairIn false (fun d => d.when (d.hngState == 3) (fun d => (d.hear d.partner).takeSnapshot payload)))

/-- The cells of a copy frame written from `k` on. -/
def Dev.copyIn (d : Dev) (k : Nat) (gs : List Gran) : Nat → Dev
  | 0 => d
  | n + 1 => (d.copyIn k gs n).setCell (k + n) (granWord gs n)

/-- GRAIN_COPY: cells of the active's map are written; with the copy and the snapshot applied the partner is STANDBY, and
ELIGIBLE once it is healthy (R365). -/
def execGrainCopy (dt : Nat) (payload : List Gran) (s : State) : Host.Outcome State Fault Refusal :=
  s.act dt (fun d =>
    match payload with
    | g :: gs =>
      d.when (d.paired && d.inService 47 && d.inService 46 && d.hngState == 3 && d.layerState == 0) (fun d =>
        let d := d.hear d.partner
        let w := g.toNat
        let n := min (bitsOf w 47 32) copyCells
        let d := d.copyIn (bitsOf w 31 0) gs n
        let d := d.modHinge (fun h => { h with copied := if hasBit w 48 then h.copied else h.copied + n })
        if hasBit w 49 ∧ d.hinge.snapped ∧ 2 ^ 21 ≤ d.hinge.copied then
          (d.put .HNG_STAT_STATE 2).modHinge (fun h => { h with copied := 0, snapped := false })
        else d)
    | [] => d)

/-! ### HNG_HANDOVER, HNG_RELEASE (R366) -/

/-- HNG_HANDOVER: the ACTIVE device fails with REASON 1; the descriptor completes when the partner beats ACTIVE (R366). -/
def execHngHandover (dt : Nat) (job : Nat) (s : State) : Host.Outcome State Fault Refusal :=
  s.act dt (fun d => d.withJob job 0x7c (fun d j =>
    match lowest [(d.hinge.peerState != 2 || !d.flag .HNG_PEER_HEALTH_HEALTH_OK, 0x02f0),
        (!d.paired || d.hngState != 1, 0x02f1)] with
    | some c => d.complete j.id c
    | none => ((d.begin' j).modHinge (fun h => { h with handover := some j.id })).hingeFail 1))

/-- HNG_RELEASE: FENCE_OUT_n goes high (R366). -/
def execHngRelease (dt : Nat) (job : Nat) (s : State) : Host.Outcome State Fault Refusal :=
  s.act dt (fun d => d.withJob job 0x7d (fun d j =>
    if d.paired ∧ d.hngState = 1 then
      { d with pins := { d.pins with fenceOut := false } }.complete j.id 0
    else d.complete j.id 0x02f1))

end Sys2Proof.Machine
end

