-- ==== Sys2Proof/Machine/Fabric.lean ====
section
/-! DEFINITION. The fabric's operations (R338 to R353): headers, the egress order, the route table, joining and leaving, bulk
transfers. -/

namespace Sys2Proof.Machine

open Sys2Proof

/-- FAB_STAT.STATE: 0 DOWN, 1 LISTENING, 2 JOINED, 3 LEAVING, 4 CONFLICT. -/
def Dev.fabState (d : Dev) : Nat := d.get .FAB_STAT_STATE

def Dev.port (d : Dev) (p : Nat) : FabPort := Tab.get {} d.fabric.ports p

def Dev.modFabric (d : Dev) (g : Fabric → Fabric) : Dev := { d with fabric := g d.fabric }

def Dev.modPort (d : Dev) (p : Nat) (g : FabPort → FabPort) : Dev :=
  d.modFabric (fun f => { f with ports := Tab.set {} f.ports p (g (d.port p)) })

def Dev.portUp (d : Dev) (p : Nat) : Bool := d.flag .FAB_PORT_STAT_LINK_UP p

/-! ### Frames (R340 to R342) -/

/-- Traffic class of a frame: its own when it is in transit (R342). -/
def FabMsg.class' (m : FabMsg) : Nat := m.tc.getD (kindTc m.kind)

/-- The Tvedx header of a frame (R341). -/
def Dev.fabHeader (d : Dev) (m : FabMsg) : Nat :=
  let w := m.dst % 2 ^ 10 + m.src.getD d.ownId % 2 ^ 10 * 2 ^ 10 + m.class' * 2 ^ 20 + m.hops % 64 * 2 ^ 24 + m.seq % 2 ^ 16 * 2 ^ 32
    + m.kind % 256 * 2 ^ 48 + m.bcast.toNat * 2 ^ 56 + m.more.toNat * 2 ^ 57 + m.payload.length % 256 * 2 ^ 64
  w + crc16 (leBytes 14 w) * 2 ^ 112

/-- Whether a KIND is one of R342. -/
def kindKnown (k : Nat) : Bool := decide ((1 ≤ k ∧ k ≤ 4) ∨ (0x10 ≤ k ∧ k ≤ 0x17) ∨ (0x20 ≤ k ∧ k ≤ 0x2f))

/-- Whether a header is accepted: HCRC, reserved bits and KIND (R341). -/
def headerOk (h : Nat) : Bool :=
  crc16 (leBytes 14 h) == bitsOf h 127 112 && !hasBit h 23 && bitsOf h 31 30 == 0 && bitsOf h 63 58 == 0
    && bitsOf h 111 72 == 0 && kindKnown (bitsOf h 55 48)

/-- The bytes of a frame before its Tvedx header: the group address, the port's own address, the tag with PCP 7 less the class,
and the EtherType (R340). -/
def Dev.fabEth (d : Dev) (p tc : Nat) : List Byte :=
  let tag := (7 - tc) * 2 ^ 13 + d.get .FAB_CFG_VID
  [0x03#8, 0x54#8, 0x56#8, 0#8, 0#8, 0#8] ++ leBytes 2 (d.get .FAB_PORT_MAC_HI_MAC p) ++ leBytes 4 (d.get .FAB_PORT_MAC_LO_MAC p)
    ++ [0x81#8, 0#8, BitVec.ofNat 8 (tag / 256), BitVec.ofNat 8 tag, 0x88#8, 0xb5#8]

/-- The last frame that a port sent, whole: padded to the 64-byte minimum, its FCS the CRC-32 of IEEE 802.3 (R340). -/
def FabPort.frame (x : FabPort) : List Byte :=
  let bs := x.eth ++ x.sent.flatMap (fun g => leBytes 16 g.toNat)
  let bs := bs ++ List.replicate (60 - bs.length) 0#8
  bs ++ leBytes 4 (crc32 (bs.map (·.toNat)))

/-! ### Egress (R336, R346, R352) -/

/-- The port of a unicast frame: the lowest of the destination's MASK (R346). -/
def Dev.routePort (d : Dev) (dst : Nat) : Option Nat := (maskList (d.get .FAB_ROUTE_MASK dst) 4).head?

/-- Whether a port may send a frame in the device's state: JOINED and LEAVING any; LISTENING leaves the ring ports silent and
sends HELLO and ROUTE on the others; CONFLICT only HELLO (R344, R347, R351). -/
def Dev.maySend (d : Dev) (p : Nat) (m : FabMsg) : Bool :=
  let st := d.fabState
  d.portUp p && (st == 2 || st == 3 || (st == 1 && decide (2 ≤ p) && decide (m.kind ≤ 2)) || (st == 4 && m.kind == 1))

/-- Ports by which a queued frame has still to go. -/
def Dev.egress (d : Dev) (m : FabMsg) : List Nat :=
  match m.port with
  | some p => if d.maySend p m then [p] else []
  | none =>
    if m.bcast then (List.range 4).filter (fun p => !hasBit m.gone p && d.maySend p m)
    else ((d.routePort m.dst).toList).filter (fun p => d.maySend p m)

/-- The instant by which a frame ranks (R336, R352). -/
def FabMsg.rank (m : FabMsg) : Nat := if m.launch = 0 then m.entered else m.launch

/-- Whether a frame may start: its launch time has come, and while TIME is out of service timed launches are held (R336, R37);
a BULK_WRITE waits for its share of the port (R350). -/
def Dev.mayLaunch (d : Dev) (p : Nat) (m : FabMsg) : Bool :=
  (m.launch == 0 || (decide (m.launch ≤ d.now) && d.inService 45))
    && (m.kind != 0x16 || decide ((d.port p).bulkFree ≤ d.run))

/-- Whether a frame goes before another: earlier rank, then lower class (R336). -/
def FabMsg.before (a b : FabMsg) : Bool := decide (a.rank < b.rank ∨ (a.rank = b.rank ∧ a.class' < b.class'))

/-- The frame that leaves next among those given, the first queued of equals. -/
def firstOut : List FabMsg → Option FabMsg
  | [] => none
  | m :: ms => match firstOut ms with
    | some x => if x.before m then some x else some m
    | none => some m

/-- Frames that no port can take go: a unicast one with an empty MASK is counted in NOROUTE (R346). -/
def Dev.dropStuck (d : Dev) : Dev :=
  let lost := d.fabOut.filter (fun m => (m.launch == 0 || decide (m.launch ≤ d.now)) && (d.egress m).isEmpty)
  let noRoute := (lost.filter (fun m => m.port.isNone && !m.bcast && (d.routePort m.dst).isNone)).length
  { d with fabOut := d.fabOut.filter (fun m => !lost.contains m) }.bump .FAB_DROP_NOROUTE noRoute

/-- A frame leaves by a port. -/
def Dev.sendFrame (d : Dev) (p : Nat) (m : FabMsg) : Dev :=
  let rest := d.fabOut.erase m
  let m' := { m with gone := setBit m.gone p }
  let again := m.bcast && !(d.egress m').isEmpty
  let d := { d with fabOut := if again then d.fabOut.map (fun x => if x = m then m' else x) else rest }
  let bits := (78 + 16 * m.payload.length) * 8
  let share := ceilDiv (bits * qNs * 100) (25 * max 1 (d.get .FAB_SHAPE_BULK_PCT))
  d.modPort p (fun x => { x with
    eth := d.fabEth p m.class', sent := BitVec.ofNat 128 (d.fabHeader m) :: m.payload,
    bulkFree := if m.kind = 0x16 then d.run + share else x.bulkFree })

/-! ### Routes (R345) -/

/-- The distance a neighbour advertises for an ID. -/
def Dev.adv (d : Dev) (p id : Nat) : Nat := Tab.get 33 (d.port p).adv id

/-- Whether a port takes part in the route table. -/
def Dev.known (d : Dev) (p : Nat) : Bool := d.portUp p && d.flag .FAB_PORT_STAT_NBR_KNOWN p

/-- Whether an ID is this device's own, in force. -/
def Dev.ownIs (d : Dev) (id : Nat) : Bool := (d.fabState == 2 || d.fabState == 3) && d.ownId == id

/-- The entry of one ID from what the neighbours advertise (R345). -/
def Dev.routeOf (d : Dev) (id : Nat) : Nat × Nat :=
  if d.ownIs id then (0, 0)
  else
    (List.range 4).foldl (fun b p =>
      if d.known p then
        let x := min (d.adv p id + 1) 33
        if x < b.1 then (x, 2 ^ p) else if x = b.1 ∧ b.1 < 33 then (b.1, b.2 + 2 ^ p) else b
      else b) (33, 0)

/-- The entry of one ID recomputed; a change is due on every port. -/
def Dev.reroute (d : Dev) (id : Nat) : Dev :=
  let r := d.routeOf id
  if d.get .FAB_ROUTE_DIST id = r.1 ∧ d.get .FAB_ROUTE_MASK id = r.2 then d
  else
    forAll (List.range 4) (fun d p => d.modPort p (fun x => { x with changed := true }))
      ((d.put .FAB_ROUTE_DIST r.1 id).put .FAB_ROUTE_MASK r.2 id)

/-- The IDs with an entry or an advertisement. -/
def Dev.routeIds (d : Dev) : List Nat :=
  let mine := (d.regs.filter (fun c => c.fld == .FAB_ROUTE_DIST || c.fld == .FAB_ROUTE_MASK)).map (·.i)
  ([d.ownId] ++ mine ++ (List.range 4).flatMap (fun p => (d.port p).adv.map (·.1))).eraseDups

/-- MAX_DIST brought up to date. -/
def Dev.showDist (d : Dev) : Dev :=
  d.put .FAB_STAT_MAX_DIST (((d.regs.filter (fun c => c.fld == .FAB_ROUTE_DIST && decide (c.val < 33))).map (·.val)).foldl max 0)

/-- The route table recomputed (R345). -/
def Dev.recompute (d : Dev) : Dev := (forAll d.routeIds (fun d id => d.reroute id) d).showDist

/-- The entries of a ROUTE payload's granules: ID and distance (R345). -/
def routeEntries (gs : List Gran) : List (Nat × Nat) :=
  match gs with
  | [] => []
  | g :: rest =>
    (List.range (min (bitsOf g.toNat 15 0) (8 * rest.length))).map (fun k =>
      let w := bitsOf (rest.getD (k / 8) 0#128).toNat (16 * (k % 8) + 15) (16 * (k % 8))
      (bitsOf w 9 0, min (bitsOf w 15 10) 33))

/-- What the device advertises by a port for an ID: 33 for every ID reached through it (R345). -/
def Dev.advertised (d : Dev) (p id : Nat) : Nat := if hasBit (d.get .FAB_ROUTE_MASK id) p then 33 else d.get .FAB_ROUTE_DIST id

/-- A ROUTE frame's payload: IDs `a` to `a + n - 1`. -/
def Dev.routeGrans (d : Dev) (p a n : Nat) : List Gran :=
  BitVec.ofNat 128 n :: (List.range (ceilDiv n 8)).map (fun g =>
    BitVec.ofNat 128 ((List.range 8).foldl (fun w k =>
      let id := a + 8 * g + k
      if 8 * g + k < n then w + (id % 1024 + d.advertised p id * 2 ^ 10) * 2 ^ (16 * k) else w) 0))

/-- The vector of every ID, 0 to 1023, sent on a port in two frames, MORE set on the first (R345). -/
def Dev.sendRoute (d : Dev) (p : Nat) : Dev :=
  let d := d.fabSend { kind := 2, port := some p, payload := d.routeGrans p 0 728, more := true }
  let d := d.fabSend { kind := 2, port := some p, payload := d.routeGrans p 728 296 }
  d.modPort p (fun x => { x with changed := false, lastRoute := d.run })

/-! ### Neighbours, the bypass, joining (R343, R344, R347, R348) -/

/-- The granule of HELLO, JOIN and LEAVE as sent by a port (R343). -/
def Dev.helloGran (d : Dev) (p : Nat) : Gran :=
  let id := if d.fabState = 1 then d.fabric.claimId else d.ownId
  BitVec.ofNat 128 (id + p * 2 ^ 10 + (d.fabState == 2).toNat * 2 ^ 12 + d.mram.serial % 2 ^ 64 * 2 ^ 64)

/-- RING_HOLD_A and RING_HOLD_B as they stand: one level, high while the device holds its place in the ring and both ring ports
have receive lock (R348, R351). -/
def Dev.showHold (d : Dev) : Dev :=
  let high := (d.fabState == 2 || d.fabState == 3) && d.flag .FAB_PORT_STAT_RX_LOCK 0 && d.flag .FAB_PORT_STAT_RX_LOCK 1
  let d := { d with pins := { d.pins with ringHoldA := high, ringHoldB := high } }
  (d.putB .FAB_PORT_STAT_HOLD high 0).putB .FAB_PORT_STAT_HOLD high 1

/-- The device listens for its claim (R344 steps 1 to 3). -/
def Dev.listen (d : Dev) : Dev :=
  let d := (d.put .FAB_STAT_STATE 1).modFabric (fun f => { f with
    claimAt := some d.run, claimId := d.get .FAB_CFG_REQ_ID, retried := false, heardIds := [], rebcasts := 0 })
  d.showHold.recompute

/-- A broadcast sent three times, the first at once (R344, R351). -/
def Dev.announce (d : Dev) (kind : Nat) : Dev :=
  (d.fabBcast kind [d.helloGran 0]).modFabric (fun f => { f with rebcasts := 2, rebcastKind := kind, rebcastAt := d.run })

/-- The claimed ID comes into force: JOINED, pins up, JOIN broadcast (R344 steps 4 and 5). -/
def Dev.joined (d : Dev) : Dev :=
  let d := (d.put .FAB_STAT_STATE 2).put .FAB_STAT_ID d.fabric.claimId
  let d := d.modFabric (fun f => { f with claimAt := none })
  (d.showHold.recompute).announce 3

/-- An ID in conflict: CONFLICT, ID_CONFLICT, pins low, an event of severity 5 and source 416 (R347, R368). -/
def Dev.conflict (d : Dev) (id : Nat) : Dev :=
  let d := ((d.put .FAB_STAT_STATE 4).raise .FAB_STAT_ID_CONFLICT).modFabric (fun f => { f with claimAt := none, rebcasts := 0 })
  ((d.showHold.recompute).record 0x0a01 5 (recSource 46 63) id).occur 416

/-- Another joined device with this device's ID: the lower serial number keeps it (R347). -/
def Dev.sameId (d : Dev) (id serial : Nat) : Dev :=
  if d.fabState = 2 ∧ id = d.ownId ∧ serial < d.mram.serial % 2 ^ 64 then d.conflict id else d

/-- A neighbour lost (R343, R368). -/
def Dev.loseNeighbour (d : Dev) (p : Nat) : Dev :=
  let d := d.modPort p (fun x => { x with hellos := 0, adv := [], advAt := [] })
  if d.flag .FAB_PORT_STAT_NBR_KNOWN p then
    (((d.lower .FAB_PORT_STAT_NBR_KNOWN p).raise .FAB_PORT_STAT_NBR_LOST p).occur 417).recompute
  else d

/-- A member leaves, as this device marks it: its ready messages no longer count, its halo paths are dropped, and band work held
for its silence goes on (R212, R235, R351). -/
def Dev.memberLeft (d : Dev) (id : Nat) : Dev :=
  let d := (d.raise .FAB_ROUTE_LEFT id).modFabric (fun f => { f with joinedLate := f.joinedLate.filter (· != id) })
  let d := { d with kerf := { d.kerf with
    halo := d.kerf.halo.filter (fun h => h.dev != id), incoming := d.kerf.incoming.filter (fun h => h.dev != id) } }
  (d.notSilent id).recheckBarrier

/-! ### Bulk transfers (R350) -/

/-- Data bytes of a BULK_WRITE frame: 91 granules. -/
def bulkBytes : Nat := 1456

/-- Frames of a transfer. -/
def BulkTx.frames (t : BulkTx) : Nat := ceilDiv t.bytes bulkBytes

/-- Frame `k` of a transfer. -/
def Dev.bulkFrame (d : Dev) (t : BulkTx) (k : Nat) : FabMsg :=
  let n := min bulkBytes (t.bytes - k * bulkBytes)
  let head := BitVec.ofNat 128 ((t.remote + k * bulkBytes) % 2 ^ 48 + t.number % 2 ^ 16 * 2 ^ 64)
  let gran (g : Nat) : Gran := BitVec.ofNat 128 (ofLeBytes (d.dram.readList (t.loc + k * bulkBytes + 16 * g) 16))
  { kind := 0x16, dst := t.dst, payload := head :: (List.range (n / 16)).map gran, seq := (t.first + k) % 65536,
    more := decide (k + 1 < t.frames), entered := d.now }

/-- Own BULK_WRITE frames queued for a port. -/
def Dev.bulkQueued (d : Dev) (p : Option Nat) : Nat :=
  (d.fabOut.filter (fun m => m.kind == 0x16 && d.routePort m.dst == p)).length

/-- One more frame of a transfer is queued, while its port holds fewer than two (R350). -/
def Dev.bulkStep (d : Dev) (t : BulkTx) : Dev :=
  if t.next < t.frames ∧ d.bulkQueued (d.routePort t.dst) < 2 then
    let d := { d with fabOut := d.fabOut ++ [d.bulkFrame t t.next] }
    d.modFabric (fun f => { f with txs := f.txs.map (fun x => if x.job = t.job then { x with next := x.next + 1 } else x) })
  else d

/-- Every transfer under way keeps its port's two places filled. -/
def Dev.pumpBulk (d : Dev) : Dev :=
  forAll [0, 1] (fun d _ => d.fabric.txs.foldl (fun d t => d.bulkStep t) d) d

/-- A transfer ends. -/
def Dev.endBulk (d : Dev) (t : BulkTx) (code : Nat) : Dev :=
  let d := d.modFabric (fun f => { f with txs := f.txs.filter (fun x => x.job != t.job) })
  let mine (m : FabMsg) : Bool := m.kind == 0x16 && m.src.isNone && m.dst == t.dst
    && (m.payload.head?.map (fun g => bitsOf g.toNat 79 64)) == some (t.number % 2 ^ 16)
  ({ d with fabOut := d.fabOut.filter (fun m => !mine m) }.complete t.job code).pumpBulk

/-- Bytes of DRAM installed. -/
def Dev.dramBytes (d : Dev) : Nat := d.chanBytes 0 + d.chanBytes 1

end Sys2Proof.Machine
end

