-- ==== Sys2Proof/Machine/FabCmds.lean ====
section
/-! DEFINITION. The Tvedx fabric (R336 to R353): the meanings of FABRIC_LAUNCH, HELLO, HELLO_SEND, NEIGHBOUR_LOST,
BLOCK_LOCK_LOST, BLOCK_LOCK_GAINED, ROUTE, ROUTE_SEND, ROUTE_AGE_OUT, JOIN_ENABLE, CLAIM_DONE, BROADCAST_REPEAT, JOIN, LEAVE,
FAB_FORWARD, FAB_WRITE, BULK_WRITE, BULK_ACK, BULK_RESEND_TIMEOUT, FAB_LEAVE, LEAVE_DONE and FAB_EVICT. -/

namespace Sys2Proof.Machine

open Sys2Proof

/-! ### Egress (R336, R346, R352) -/

/-- FABRIC_LAUNCH: the frame that is first in order on a port starts, by the route in force (R336, R352, R353). -/
def execFabricLaunch (dt : Nat) (p : Fin 4) (s : State) : Host.Outcome State Fault Refusal :=
  s.act dt (fun d =>
    d.when (d.inService 46 && d.portUp p) (fun d =>
      let d := d.dropStuck
      match firstOut (d.fabOut.filter (fun m => (d.egress m).contains p.val && d.mayLaunch p m)) with
      | some m =>
        let d := d.sendFrame p m
        if m.kind = 0x23 ∧ m.src.isNone = true then d.copyOn
        else if m.kind = 0x16 ∧ m.src.isNone = true then d.pumpBulk
        else d
      | none => d))

/-! ### Neighbours (R343, R347, R348) -/

/-- HELLO: the neighbour is known after three, and one that carries this device's ID is judged by its serial number (R343,
R347). -/
def execHello (dt : Nat) (p : Fin 4) (payload : List Gran) (s : State) : Host.Outcome State Fault Refusal :=
  s.act dt (fun d => d.fabricIn (fun d =>
    match payload with
    | g :: _ =>
      let w := g.toNat
      let serial := bitsOf w 127 64
      let d := d.modPort p (fun x => { x with hellos := min (x.hellos + 1) 3, lastHello := d.run, nbrSerial := serial })
      let d := (d.put .FAB_PORT_STAT_NBR_ID (bitsOf w 9 0) p).hear (bitsOf w 9 0)
      let d := if 3 ≤ (d.port p).hellos ∧ d.flag .FAB_PORT_STAT_NBR_KNOWN p = false then (d.raise .FAB_PORT_STAT_NBR_KNOWN p).recompute
        else d
      if hasBit w 12 then d.sameId (bitsOf w 9 0) serial else d
    | [] => d))

/-- HELLO_SEND: a port whose link is up sends a HELLO every HELLO_US (R343). -/
def execHelloSend (dt : Nat) (p : Fin 4) (s : State) : Host.Outcome State Fault Refusal :=
  s.act dt (fun d =>
    d.when (d.portUp p && decide ((d.port p).helloSent + d.get .FAB_TIMER_HELLO_US * qUs ≤ d.run)) (fun d =>
      (d.modPort p (fun x => { x with helloSent := d.run })).fabSend { kind := 1, port := some p, payload := [d.helloGran p] }))

/-- NEIGHBOUR_LOST: KEEP_MISS intervals without a HELLO (R343). -/
def execNeighbourLost (dt : Nat) (p : Fin 4) (s : State) : Host.Outcome State Fault Refusal :=
  s.act dt (fun d =>
    d.when (d.flag .FAB_PORT_STAT_NBR_KNOWN p
        && decide ((d.port p).lastHello + d.get .FAB_TIMER_KEEP_MISS * d.get .FAB_TIMER_HELLO_US * qUs ≤ d.run))
      (fun d => d.loseNeighbour p))

/-- BLOCK_LOCK_LOST: the port is down, its neighbour is lost at once, its new configuration takes effect, and the pins fall for
a ring port; a device joined only through the ring rejoins from LISTENING (R343, R345, R348, R353). -/
def execBlockLockLost (dt : Nat) (p : Fin 4) (s : State) : Host.Outcome State Fault Refusal :=
  s.act dt (fun d =>
    d.when (d.flag .FAB_PORT_STAT_RX_LOCK p) (fun d =>
      let d := ((d.lower .FAB_PORT_STAT_RX_LOCK p).lower .FAB_PORT_STAT_LINK_UP p).bump .FAB_PORT_CNT_RELOCKS 1 p
      let d := (d.latchWhere (fun c => c.fld.reg == .FAB_PORT_CFG && c.i == p.val)).loseNeighbour p
      let d := d.recompute.showHold
      if d.fabState = 2 ∧ p.val < 2 ∧ d.portUp 2 = false ∧ d.portUp 3 = false then d.listen else d))

/-- BLOCK_LOCK_GAINED: a configured port has lock and its link is up; a claim under way listens from the lock on (R338, R343,
R344). -/
def execBlockLockGained (dt : Nat) (p : Fin 4) (s : State) : Host.Outcome State Fault Refusal :=
  s.act dt (fun d =>
    let d := if d.portUp p then d else d.latchWhere (fun c => c.fld.reg == .FAB_PORT_CFG && c.i == p.val)
    d.when (d.eff .FAB_PORT_CFG_MODE p != 0 && d.inService 46) (fun d =>
      let d := (d.raise .FAB_PORT_STAT_RX_LOCK p).raise .FAB_PORT_STAT_LINK_UP p
      let d := if d.fabState = 1 ∧ d.fabric.retried = false then d.modFabric (fun f => { f with claimAt := some d.run }) else d
      d.showHold))

/-! ### Routes (R345) -/

/-- ROUTE: the neighbour's vector is taken and the entries recomputed; a claimant notes every ID at a finite distance (R344,
R345). -/
def execRoute (dt : Nat) (p : Fin 4) (payload : List Gran) (s : State) : Host.Outcome State Fault Refusal :=
  s.act dt (fun d => d.fabricIn (fun d =>
    let es := routeEntries payload
    let d := (d.hearPort p).modPort p (fun x => { x with
      adv := es.foldl (fun t e => Tab.set 33 t e.1 e.2) x.adv, advAt := es.foldl (fun t e => Tab.set 0 t e.1 d.run) x.advAt })
    let heard := (es.filter (fun e => decide (e.2 < 33))).map (·.1)
    let d := if d.fabState = 1 then d.modFabric (fun f => { f with heardIds := (f.heardIds ++ heard).eraseDups }) else d
    d.recompute))

/-- ROUTE_SEND: every port sends its vector every ROUTE_MS, and on a change (R345). -/
def execRouteSend (dt : Nat) (s : State) : Host.Outcome State Fault Refusal :=
  s.act dt (fun d =>
    forAll (List.range 4) (fun d p =>
      d.when (d.portUp p && ((d.port p).changed || decide ((d.port p).lastRoute + d.get .FAB_TIMER_ROUTE_MS * qMs ≤ d.run)))
        (fun d => d.sendRoute p)) d)

/-- ROUTE_AGE_OUT: an advertised distance not renewed for 3 × ROUTE_MS is 33 (R345). -/
def execRouteAgeOut (dt : Nat) (p : Fin 4) (dev : Fin 1024) (s : State) : Host.Outcome State Fault Refusal :=
  s.act dt (fun d =>
    d.when (decide (d.adv p dev < 33) && decide (Tab.get 0 (d.port p).advAt dev + 3 * d.get .FAB_TIMER_ROUTE_MS * qMs ≤ d.run))
      (fun d => (d.modPort p (fun x => { x with adv := Tab.set 33 x.adv dev 33 })).recompute))

/-! ### Joining (R344, R347) -/

/-- A write of FAB_CFG: JOIN_EN set starts joining; cleared before the ID is claimed, it ends the attempt (R344). -/
def Dev.writeFabCfg (d : Dev) (fn value : Nat) : Dev :=
  let was := d.flag .FAB_CFG_JOIN_EN
  let d := d.lockChecked fn .FAB_CFG 0 0 value (fun d => d.writeReg .FAB_CFG 0 0 value)
  let now := d.flag .FAB_CFG_JOIN_EN
  if now && !was && (d.fabState == 0 || d.fabState == 4) then d.listen
  else if was && !now && d.fabState == 1 then
    ((d.put .FAB_STAT_STATE 0).modFabric (fun f => { f with claimAt := none })).showHold
  else d

/-- JOIN_ENABLE: a write of FAB_CFG by function 0 (R344). -/
def execJoinEnable (dt : Nat) (value : Word) (s : State) : Host.Outcome State Fault Refusal :=
  s.act dt (fun d => d.byFn 0 (fun d => d.writeFabCfg 0 value.toNat))

/-- CLAIM_DONE: CLAIM_MS of listening are over. An ID that no vector showed is claimed; otherwise AUTO_ID retries once with the
lowest ID never heard, or the device is in CONFLICT (R344, R347). -/
def execClaimDone (dt : Nat) (s : State) : Host.Outcome State Fault Refusal :=
  s.act dt (fun d =>
    match d.fabric.claimAt with
    | some t =>
      d.when (d.fabState == 1 && d.flag .FAB_CFG_JOIN_EN && decide (t + d.get .FAB_TIMER_CLAIM_MS * qMs ≤ d.run)) (fun d =>
        let heard := d.fabric.heardIds
        if heard.contains d.fabric.claimId then
          match (List.range 1024).find? (fun id => !heard.contains id) with
          | some id =>
            if d.flag .FAB_CFG_AUTO_ID ∧ d.fabric.retried = false then
              d.modFabric (fun f => { f with retried := true, claimId := id, claimAt := some d.run })
            else d.conflict d.fabric.claimId
          | none => d.conflict d.fabric.claimId
        else d.joined)
    | none => d)

/-- BROADCAST_REPEAT: JOIN goes three times at 1 ms spacing, LEAVE three times at 100 µs spacing (R344, R351). -/
def execBroadcastRepeat (dt : Nat) (s : State) : Host.Outcome State Fault Refusal :=
  s.act dt (fun d =>
    let gap := if d.fabric.rebcastKind = 3 then qMs else 100 * qUs
    d.when (decide (0 < d.fabric.rebcasts) && decide (d.fabric.rebcastAt + gap ≤ d.run)) (fun d =>
      (d.fabBcast d.fabric.rebcastKind [d.helloGran 0]).modFabric (fun f => { f with
        rebcasts := f.rebcasts - 1, rebcastAt := d.run })))

/-- JOIN: LEFT clears; while a layer is open the device is in relations only from the next LAYER_OPEN. One with this device's
own ID is its own broadcast come back, or another device with one ID (R346, R347, R351, R353). -/
def execJoin (dt : Nat) (dev : Fin 1024) (payload : List Gran) (s : State) : Host.Outcome State Fault Refusal :=
  s.act dt (fun d => d.fabricIn (fun d =>
    match payload with
    | g :: _ =>
      let serial := bitsOf g.toNat 127 64
      let d := d.hear dev
      if d.ownIs dev && serial == d.mram.serial % 2 ^ 64 then d.bump .FAB_DROP_DUPLICATE
      else
        let d := d.sameId dev serial
        if d.flag .FAB_ROUTE_LEFT dev then
          let d := d.lower .FAB_ROUTE_LEFT dev
          let d := if d.layerOpen then d.modFabric (fun f => { f with joinedLate := f.joinedLate ++ [dev.val] }) else d
          d.showReady
        else d
    | [] => d))

/-- LEAVE: the sender's ID is LEFT (R351). -/
def execLeave (dt : Nat) (dev : Fin 1024) (s : State) : Host.Outcome State Fault Refusal :=
  s.act dt (fun d => d.fabricIn (fun d =>
    if d.ownIs dev then d.bump .FAB_DROP_DUPLICATE else (d.hear dev).memberLeft dev))

/-! ### Transit (R341, R346) -/

/-- A broadcast heard: the last 64 SEQ values of its source and class are kept (R346). -/
def Dev.noteSeq (d : Dev) (src tc seq : Nat) : Dev :=
  let k := src * 8 + tc
  d.modFabric (fun f => { f with seen := Tab.set [] f.seen k ((seq :: Tab.get [] f.seen k).take 64) })

/-- FAB_FORWARD: a frame from another device that arrives by a port is forwarded by route or broadcast, with HOPS raised, or
discarded and counted (R341, R346). A bulk frame that finds two of them queued for its port is not held (R350). -/
def execFabForward (dt : Nat) (p : Fin 4) (header : Gran) (payload : List Gran) (s : State) :
    Host.Outcome State Fault Refusal :=
  s.act dt (fun d => d.fabricIn (fun d =>
    let h := header.toNat
    let src := bitsOf h 19 10
    let tc := bitsOf h 22 20
    let hops := bitsOf h 29 24
    let seq := bitsOf h 47 32
    let kind := bitsOf h 55 48
    let m : FabMsg := {
      kind := kind, dst := bitsOf h 9 0, bcast := hasBit h 56, payload := payload, seq := seq, src := some src,
      hops := hops + 1, more := hasBit h 57, tc := some tc, entered := d.now, gone := 2 ^ p.val }
    let put (d : Dev) : Dev := if 32 < hops + 1 then d.bump .FAB_DROP_HOPS_EXC else { d with fabOut := d.fabOut ++ [m] }
    if !headerOk h || bitsOf h 71 64 != payload.length || decide (92 < payload.length) then d.bump .FAB_PORT_CNT_RX_BAD 1 p
    else if d.ownIs src then d.bump .FAB_DROP_DUPLICATE
    else
    let d := d.hear src
    if kind = 1 ∨ kind = 2 then d
    else if m.bcast then
      if hasBit (d.get .FAB_ROUTE_MASK src) p = false then d
      else if (Tab.get [] d.fabric.seen (src * 8 + tc)).contains seq then d.bump .FAB_DROP_DUPLICATE
      else put (d.noteSeq src tc seq)
    else if d.ownIs m.dst then d
    else
      match d.routePort m.dst with
      | none => d.bump .FAB_DROP_NOROUTE
      | some q => if kind = 0x16 ∧ 2 ≤ d.bulkQueued (some q) then d else put d))

/-! ### Bulk transfers (R350) -/

/-- FAB_WRITE: DRAM data is sent to a peer as BULK_WRITE frames (R350). -/
def execFabWrite (dt : Nat) (job : Nat) (s : State) : Host.Outcome State Fault Refusal :=
  s.act dt (fun d => d.withJob job 0x78 (fun d j =>
    let loc := j.bits 175 128
    let dst := j.bits 185 176
    let remote := j.bits 239 192
    let bytes := j.bits 287 256
    let bad := decide (loc % 16 ≠ 0 ∨ remote % 16 ≠ 0 ∨ bytes % 16 ≠ 0 ∨ bytes < 16 ∨ d.dramBytes < loc + bytes) || d.ownIs dst
    match lowest [(bad, 0x01e8), (!d.reachable dst || d.flag .FAB_ROUTE_LEFT dst, 0x02e8)] with
    | some c => d.complete j.id c
    | none =>
      let first := Tab.get 0 d.fabSeq 5
      let t : BulkTx := {
        job := j.id, dst := dst, loc := loc, remote := remote, bytes := bytes, number := d.fabric.nextNumber,
        first := first, progress := d.run }
      let d := d.begin' j
      let d := { d with fabSeq := Tab.set 0 d.fabSeq 5 ((first + t.frames) % 65536) }
      (d.modFabric (fun f => { f with txs := f.txs ++ [t], nextNumber := (f.nextNumber + 1) % 65536 })).pumpBulk))

/-- The acknowledgement of a transfer: the highest SEQ held in order (R350). -/
def Dev.bulkAck (d : Dev) (dev seq : Nat) : Dev := d.fabUnicast 0x17 dev [BitVec.ofNat 128 seq]

/-- BULK_WRITE: a granted frame's data is written to DRAM; every sixteenth frame in order, and the one with MORE clear, is
acknowledged (R114, R115, R350). -/
def execBulkWrite (dt : Nat) (header : Gran) (payload : List Gran) (s : State) : Host.Outcome State Fault Refusal :=
  s.act dt (fun d =>
    let h := header.toNat
    let dev := bitsOf h 19 10
    let seq := bitsOf h 47 32
    match payload with
    | g :: data =>
      let remote := bitsOf g.toNat 47 0
      d.granting dev 5 (some (remote, 16 * data.length)) (fun d =>
        let d := if remote + 16 * data.length ≤ d.dramBytes then d.dramWrite remote (granBytes data) else d
        let k := dev + 1024 * bitsOf g.toNat 79 64
        let x := Tab.get {} d.fabric.rxs k
        let setRx (d : Dev) (x : BulkRx) : Dev := d.modFabric (fun f => { f with rxs := Tab.set {} f.rxs k x })
        if x.next.all (fun n => n == seq) then
          if hasBit h 57 = false then (setRx d {}).bulkAck dev seq
          else if x.count + 1 = 16 then (setRx d { next := some ((seq + 1) % 65536) }).bulkAck dev seq
          else setRx d { next := some ((seq + 1) % 65536), count := x.count + 1 }
        else match x.next with
          | some n => if hasBit h 57 then d else d.bulkAck dev ((n + 65535) % 65536)
          | none => d)
    | [] => d)

/-- BULK_ACK: a transfer advances, and completes on the final one (R350). -/
def execBulkAck (dt : Nat) (dev : Fin 1024) (payload : List Gran) (s : State) : Host.Outcome State Fault Refusal :=
  s.act dt (fun d => d.fabricIn (fun d =>
    let d := d.hear dev
    match payload with
    | g :: _ =>
      let seq := bitsOf g.toNat 15 0
      let gain (t : BulkTx) : Nat := (seq + 65536 - (t.first + t.acked) % 65536) % 65536 + 1
      match d.fabric.txs.find? (fun t => t.dst == dev.val && decide (t.acked + gain t ≤ t.next)) with
      | some t =>
        let acked := t.acked + gain t
        if acked = t.frames then d.endBulk t 0
        else
          (d.modFabric (fun f => { f with txs := f.txs.map (fun x => if x.job = t.job then
            { x with acked := acked, progress := d.run, resends := 0 } else x) })).pumpBulk
      | none => d
    | [] => d))

/-- BULK_RESEND_TIMEOUT: 100 µs without progress resend from the first frame not acknowledged; after eight resends the transfer
ends with 0x03E8 (R350). -/
def execBulkResendTimeout (dt : Nat) (job : Nat) (s : State) : Host.Outcome State Fault Refusal :=
  s.act dt (fun d =>
    match d.fabric.txs.find? (fun t => t.job == job) with
    | some t =>
      d.when (decide (t.progress + 100 * qUs ≤ d.run)) (fun d =>
        if 8 ≤ t.resends then d.endBulk t 0x03e8
        else
          let mine (m : FabMsg) : Bool := m.kind == 0x16 && m.src.isNone && m.dst == t.dst
            && (m.payload.head?.map (fun g => bitsOf g.toNat 79 64)) == some (t.number % 2 ^ 16)
          let d := { d with fabOut := d.fabOut.filter (fun m => !mine m) }
          (d.modFabric (fun f => { f with txs := f.txs.map (fun x => if x.job = t.job then
            { x with next := x.acked, progress := d.run, resends := x.resends + 1 } else x) })).pumpBulk)
    | none => d)

/-! ### Leaving (R350, R351) -/

/-- FAB_LEAVE: LEAVE is broadcast and the device leaves; one that holds no place in the ring has nothing to leave (R350,
R351). -/
def execFabLeave (dt : Nat) (job : Nat) (s : State) : Host.Outcome State Fault Refusal :=
  s.act dt (fun d => d.withJob job 0x79 (fun d j =>
    let d := d.begin' j
    if d.fabState = 2 then
      ((d.put .FAB_STAT_STATE 3).modFabric (fun f => { f with leaveAt := d.run })).announce 4
    else if d.fabState = 3 then d
    else
      let d := ((d.put .FAB_STAT_STATE 0).lower .FAB_CFG_JOIN_EN).modFabric (fun f => { f with claimAt := none })
      d.showHold.complete j.id 0))

/-- LEAVE_DONE: LEAVE_US after the LEAVE the pins fall, every port is silent and the device is DOWN (R351). -/
def execLeaveDone (dt : Nat) (s : State) : Host.Outcome State Fault Refusal :=
  s.act dt (fun d =>
    d.when (d.fabState == 3 && decide (d.fabric.leaveAt + d.get .FAB_SHAPE_LEAVE_US * qUs ≤ d.run)) (fun d =>
      let d := (d.put .FAB_STAT_STATE 0).lower .FAB_CFG_JOIN_EN
      let d := { d with fabOut := [] }.modFabric (fun f => { f with rebcasts := 0 })
      let js := d.jobs.filter (fun j => j.opcode == 0x79 && j.status == .executing)
      js.foldl (fun d j => d.complete j.id 0) (d.showHold.recompute)))

/-- FAB_EVICT: an unreachable ID is LEFT on this device alone (R351). -/
def execFabEvict (dt : Nat) (job : Nat) (s : State) : Host.Outcome State Fault Refusal :=
  s.act dt (fun d => d.withJob job 0x7a (fun d j =>
    let id := j.bits 137 128
    if d.reachable id then d.complete j.id 0x02e9 else (d.memberLeft id).complete j.id 0))

end Sys2Proof.Machine
end

