-- ==== Sys2Proof/Machine/Windows.lean ====
section
/-! DEFINITION. Windows, ownership, staging areas and movers (R92 to R102): the meanings of WIN_OWN_WRITE, WIN_CFG_WRITE,
WIN_STAGE_WRITE and MOVER_START. -/

namespace Sys2Proof.Machine

open Sys2Proof

/-! ### Writers (R98, R450, R452, R454) -/

/-- A write by function `w` to a register that function 0 and function `fn` reach: any other function's own map does not hold
it, and its write is counted. -/
def Dev.ownWrite (d : Dev) (w fn : Nat) (g : Dev → Dev) : Dev :=
  d.byFn w (fun d => if w = 0 ∨ w = fn then g d else d.bump .SYS_IGN_WR_UNMAPPED 1 w)

/-! ### Ownership (R92) -/

/-- The ownership field of a kind: engines 0 to 31, shim engines, tiles, axes, contexts. -/
def ownFields : List Fld := [.WIN_OWN_ENG_LO_ENG, .WIN_OWN_ENG_HI_ENG, .WIN_OWN_IO_TILE, .WIN_OWN_IO_AXIS, .WIN_OWN_CTX_CTX]

/-- The ownership registers, in address order. -/
def ownReg (k : Nat) : Reg :=
  if k = 0 then .WIN_OWN_ENG_LO else if k = 1 then .WIN_OWN_ENG_HI else if k = 2 then .WIN_OWN_IO else .WIN_OWN_CTX

/-- Whether a written ownership register would give a resource to two functions (R92). -/
def Dev.ownClash (d : Dev) (f k value : Nat) : Bool :=
  ((ownReg k).fields.filter (fun x => ownFields.contains x)).any (fun x =>
    (List.range 8).any (fun g => g != f && Nat.land (x.of value) (d.get x g) != 0))

/-- A write of an ownership register by a function (R92). -/
def Dev.writeOwn (d : Dev) (fn f k value : Nat) : Dev :=
  let r := ownReg k
  if d.ownClash f k value then d.reject r f else d.lockChecked fn r f 0 value (fun d => d.writeReg r f 0 value)

/-- WIN_OWN_WRITE: by function 0; not applied where it would give one resource to two functions (R92). -/
def execWinOwnWrite (dt : Nat) (fn : Fin 8) (k : Fin 4) (value : Word) (s : State) : Host.Outcome State Fault Refusal :=
  s.act dt (fun d => d.byFn 0 (fun d => d.writeOwn 0 fn k value.toNat))

/-! ### Windows (R95, R98) -/

/-- An enabled window whose base is not aligned to its size is disabled (R95). -/
def Dev.settleWindow (d : Dev) (f w : Nat) : Dev :=
  if d.flag .WIN_CFG_ENABLE f w ∧ d.winBase f w % 2 ^ d.get .WIN_CFG_SIZE_LOG2 f w ≠ 0 then
    (d.lower .WIN_CFG_ENABLE f w).reject .WIN_CFG f
  else d

/-- A write of a window register, then the check of its alignment; under the lock nothing of a window changes (R95, R98,
R455). -/
def Dev.writeWindow (d : Dev) (fn : Nat) (r : Reg) (f w value : Nat) : Dev :=
  (d.lockChecked fn r f w value (fun d => d.writeReg r f w value)).when (!d.locked) (fun d => d.settleWindow f w)

/-- WIN_CFG_WRITE: by function 0 or the window's own function (R95, R98). -/
def execWinCfgWrite (dt : Nat) (w : Fin 8) (fn : Fin 8) (win : Fin 16) (value : Word) (s : State) :
    Host.Outcome State Fault Refusal :=
  s.act dt (fun d => d.ownWrite w fn (fun d => d.writeWindow w .WIN_CFG fn win value.toNat))

/-! ### Staging areas (R99) -/

/-- Start and end of a function's staging area in bytes. -/
def Dev.stageLo (d : Dev) (f : Nat) : Nat := d.get .WIN_STAGE_BASE_MB f * 2 ^ 20
def Dev.stageSize (d : Dev) (f : Nat) : Nat := d.get .WIN_STAGE_SIZE_MB f * 2 ^ 20

/-- Whether a written staging area would overlap another function's or extend beyond installed DRAM (R99). -/
def Dev.stageBad (d : Dev) (f value : Nat) : Bool :=
  let lo := Fld.of .WIN_STAGE_BASE_MB value * 2 ^ 20
  let n := Fld.of .WIN_STAGE_SIZE_MB value * 2 ^ 20
  n != 0 && (decide (d.dramBytes < lo + n) || (List.range 8).any (fun g => g != f && d.stageSize g != 0
    && decide (lo < d.stageLo g + d.stageSize g ∧ d.stageLo g < lo + n)))

/-- A write of a staging area by a function (R99). -/
def Dev.writeStage (d : Dev) (fn f value : Nat) : Dev :=
  if d.stageBad f value then d.reject .WIN_STAGE f
  else d.lockChecked fn .WIN_STAGE f 0 value (fun d => d.writeReg .WIN_STAGE f 0 value)

/-- WIN_STAGE_WRITE: by function 0 (R99). -/
def execWinStageWrite (dt : Nat) (fn : Fin 8) (value : Word) (s : State) : Host.Outcome State Fault Refusal :=
  s.act dt (fun d => d.byFn 0 (fun d => d.writeStage 0 fn value.toNat))

/-- The host range a descriptor points to: address, bytes, and whether the device reads it (R96). -/
def Dev.hostRange (d : Dev) (j : Job) : Option (Nat × Nat × Bool) :=
  let op := j.opcode
  if op = 0x30 then some (j.addr, 16 * j.bits 223 192, true)
  else if op = 0x34 then some (j.addr, imageLen, true)
  else if op = 0x36 then some (j.addr, imageLen, false)
  else if op = 0x44 then some (j.addr, j.bits 223 192, true)
  else if op = 0x48 then some (j.addr, 4 * d.grnCols * j.bits 223 208, false)
  else if op = 0x49 then some (j.addr, 4 * d.grnCols * j.bits 223 208, true)
  else if op = 0x4e then some (j.addr, 8192, false)
  else if op = 0x4f then some (j.addr, 8192, true)
  else if op = 0x50 then some (j.addr, d.frameBytes (j.target - 0x40), true)
  else if op = 0x60 then (if j.addr = 0 then none else some (j.addr, j.bits 207 192 * resultLen, false))
  else if op = 0x61 then some (j.addr, j.bits 223 192, false)
  else if op = 0x62 then some (j.addr, if j.bits 192 192 = 0 then 8712 else 8192, true)
  else if op = 0x71 then some (j.addr, 16 * j.bits 207 192, false)
  else if op = 0x7e then some (j.addr, 32 * j.bits 223 208, false)
  else none

/-- Whether a descriptor waits for pointed data (R100). -/
def Dev.wantsData (d : Dev) (j : Job) : Bool :=
  j.data.isNone && j.code.isNone && j.status != .replayable && (match d.hostRange j with
    | some (_, _, reads) => reads
    | none => false)

/-- Bytes of a function's staging area in use: slots staged or asked for, and pointed data not yet taken (R100). -/
def Dev.stageUsed (d : Dev) (f : Nat) : Nat :=
  let slots := (d.jobs.filter (fun j => j.fn == f)).foldl (fun n j => n + 16 * j.words.length + 16 * (j.data.getD []).length) 0
  let asked := (List.range 64).foldl (fun n r => n + 64 * (d.sq f r).outstanding) 0
  let moving := d.movers.foldl (fun n m => match m.2 with
    | some x => if x.fn = f ∧ x.ring.isNone = true then n + (((d.job x.job).bind d.hostRange).map (·.2.1)).getD 0 else n
    | none => n) 0
  slots + asked + moving

/-! ### Movers (R99 to R102) -/

def Dev.mover (d : Dev) (m : Nat) : Option Mover := Tab.get none d.movers m

/-- A mover takes a request, or is free again; BUSY shows it. -/
def Dev.setMover (d : Dev) (m : Nat) (x : Option Mover) : Dev :=
  let b := d.get .WIN_MOVER_STAT_BUSY
  { d.put .WIN_MOVER_STAT_BUSY (if x.isSome then setBit b m else clearBit b m) with movers := Tab.set none d.movers m x }

/-- Whether two movers carry one request. -/
def Mover.same (x y : Mover) : Bool := x.fn == y.fn && x.ring == y.ring && x.job == y.job

/-- The mover that carries a request. -/
def Dev.moverOf (d : Dev) (x : Mover) : Option Nat := (List.range 8).find? (fun m => (d.mover m).any (fun y => y.same x))

/-- The instant at which an engine FIFO would empty at its present rate, one record in the time of the record in progress, in
`run` quanta (R102). -/
def Dev.fifoEmpty (d : Dev) (n : Nat) : Nat :=
  let e := d.eng n
  let each := match e.plans with
    | p :: _ => p.tDone - p.tBody
    | [] => 0
  d.run + each * (e.look.length + fifoLevel e.fifo)

/-- The deadline of a frame less one frame period, in `run` quanta (R102, R251). -/
def Dev.frameDeadline (d : Dev) (j : Job) : Int :=
  let t := j.target - 0x40
  let ahead := (d.jobs.filter (fun x => x.opcode == 0x50 && x.target == j.target && decide (x.id < j.id) && x.status != .replayable)).foldl
    (fun n x => n + (x.bits 207 192 - x.progress)) 0
  let start : Int := if j.schedule = 0 then ((d.tile t).start + d.slotQ t * (1 + ahead) : Nat)
    else resolveTs64 d.now j.schedule + (d.run : Int) - d.now
  start - 2 * (d.slotQ t : Nat)

/-- The deadline of a request, in `run` quanta (R102). -/
def Dev.deadline (d : Dev) (x : Mover) : Int :=
  match x.ring with
  | some r => (((d.sq x.fn r).asked + qMs : Nat) : Int)
  | none =>
    match d.job x.job with
    | some j => if j.opcode = 0x30 then (d.fifoEmpty (d.execEngine j.target) : Int)
      else if j.opcode = 0x50 then d.frameDeadline j else ((j.asked + qMs : Nat) : Int)
    | none => 0

/-- Whether the device may read host memory for a function: HOST and STAGE in service, the function enabled, bus mastering on,
not frozen (R37, R89, R91, R106). -/
def Dev.hostOpen (d : Dev) (f : Nat) : Bool :=
  d.inService 34 && (d.fn f).busMaster && !d.frozen f && d.vfOn f

/-- The requests that no mover carries yet: ring slots asked for, and of each function the first pointed data still to be
fetched, in ring order, while its area has room (R99, R100). -/
def Dev.requests (d : Dev) : List Mover :=
  ((List.range 8).filter (fun f => d.hostOpen f)).flatMap (fun f =>
    let rings := ((List.range 64).filter (fun r => d.flag .HIF_SQ_CFG_ENABLE f r && decide (0 < (d.sq f r).outstanding))).map (fun r => ({ fn := f, ring := some r } : Mover))
    let wants := d.jobs.filter (fun j => j.fn == f && d.wantsData j && (d.moverOf { fn := f, job := j.id }).isNone)
    let next := (wants.filter (fun j =>
      !wants.any (fun x => x.ring == j.ring && decide (x.id < j.id))
        && decide (d.stageUsed f + ((d.hostRange j).map (·.2.1)).getD 0 ≤ d.stageSize f))).map
      (fun j => ({ fn := f, job := j.id } : Mover))
    (rings ++ next).filter (fun x => (d.moverOf x).isNone))

/-- The request with the earliest deadline; of equals the lowest function's, which stands first (R102). -/
def Dev.earliest (d : Dev) : List Mover → Option Mover
  | [] => none
  | x :: xs => match d.earliest xs with
    | some y => if d.deadline y < d.deadline x then some y else some x
    | none => some x

/-- The host range that a request reads: address and bytes. -/
def Dev.requestRange (d : Dev) (x : Mover) : Nat × Nat :=
  match x.ring with
  | some r => (d.get .HIF_SQ_BASE_LO_ADDR_LO x.fn r * 2 ^ 12 + d.get .HIF_SQ_BASE_HI_ADDR_HI x.fn r * 2 ^ 32,
      64 * 2 ^ d.get .HIF_SQ_CFG_SIZE_LOG2 x.fn r)
  | none => match (d.job x.job).bind d.hostRange with
    | some (a, n, _) => (a, n)
    | none => (0, 0)

/-- A mover's read requests: pieces no larger than Max_Read_Request_Size, at most 32 outstanding (R102). -/
def Dev.issueReads (d : Dev) (x : Mover) : Mover :=
  let bytes := match x.ring with
    | some r => 64 * (d.sq x.fn r).outstanding
    | none => (d.requestRange x).2
  let n := ceilDiv bytes (max (d.fn x.fn).maxReadReq 1)
  { x with reads := min n 32, left := n - 32 }

/-- A request whose range no longer passes the windows in force is not issued: a violation, with its code for the descriptor it
reads for (R97, R98). -/
def Dev.refuseRead (d : Dev) (x : Mover) (c : Nat) : Dev :=
  let a := (d.requestRange x).1
  match x.ring with
  | some _ => d.freezeFn x.fn c a
  | none => (d.modJob x.job (fun j => { j with code := lowCode j.code (some (causeCode c)) })).freezeFn x.fn c a (some x.job)

/-- MOVER_START: the lowest free mover takes the pending request with the earliest deadline, its range checked against the windows
in force (R97, R98, R102). -/
def execMoverStart (dt : Nat) (s : State) : Host.Outcome State Fault Refusal :=
  s.act dt (fun d =>
    d.when (d.inService 35) (fun d =>
      match (List.range 8).find? (fun m => (d.mover m).isNone), d.earliest d.requests with
      | some m, some x =>
        match d.rangeCause x.fn (d.requestRange x).1 (d.requestRange x).2 true false with
        | none => d.setMover m (some (d.issueReads x))
        | some c => d.refuseRead x c
      | _, _ => d))

/-- A request's data has arrived: its mover is free. -/
def Dev.freeMover (d : Dev) (x : Mover) : Dev :=
  match d.moverOf x with
  | some m => d.setMover m none
  | none => d

end Sys2Proof.Machine
end

