-- ==== Sys2Proof/Machine/Rings.lean ====
section
/-! DEFINITION. Job rings, doorbell pages and completions (R60 to R86, R91, R97 to R100): the meanings of SQ_ENABLE, SQ_DISABLE,
CQ_ENABLE, CQ_DISABLE, DB_BASE_WRITE, POLL_ENABLE, DOORBELL_POLL, POLL_FAIL_TIMEOUT, DESCRIPTOR_FETCH, SLOTS_STAGED,
PAYLOAD_STAGED, DESCRIPTOR_DISPATCH, DESCRIPTOR_TAKE, COMPLETION_WRITE, BUS_MASTER_DISABLE, BUS_MASTER_ENABLE and VF_DISABLE. -/

namespace Sys2Proof.Machine

open Sys2Proof

/-! ### Places in host memory -/

def Dev.sqBase (d : Dev) (f r : Nat) : Nat := d.get .HIF_SQ_BASE_LO_ADDR_LO f r * 2 ^ 12 + d.get .HIF_SQ_BASE_HI_ADDR_HI f r * 2 ^ 32
def Dev.cqBase (d : Dev) (f c : Nat) : Nat := d.get .HIF_CQ_BASE_LO_ADDR_LO f c * 2 ^ 12 + d.get .HIF_CQ_BASE_HI_ADDR_HI f c * 2 ^ 32
def Dev.dbBase (d : Dev) (f : Nat) : Nat := d.get .HIF_DB_BASE_LO_ADDR_LO f * 2 ^ 12 + d.get .HIF_DB_BASE_HI_ADDR_HI f * 2 ^ 32
def Dev.evqBase (d : Dev) (f : Nat) : Nat := d.get .INT_EVQ_BASE_LO_ADDR f * 2 ^ 12 + d.get .INT_EVQ_BASE_HI_ADDR f * 2 ^ 32
def Dev.sqSize (d : Dev) (f r : Nat) : Nat := 2 ^ d.get .HIF_SQ_CFG_SIZE_LOG2 f r
def Dev.evqSize (d : Dev) (f : Nat) : Nat := 2 ^ d.get .INT_EVQ_CFG_SIZE_LOG2 f

/-- A word of a function's doorbell page written by the device; a page that does not pass R96 is not written (R64, R96, R97). -/
def Dev.dbPut (d : Dev) (f off v : Nat) : Dev :=
  match d.rangeCause f (d.dbBase f) 4096 true true with
  | none => d.hostOut f (d.dbBase f + off) (leBytes 4 v)
  | some _ => d

/-- Whether a whole range lies inside one enabled window of a function (R61). -/
def Dev.inWindow (d : Dev) (f a n : Nat) : Bool := (List.range 16).any (fun w => d.winHas f w a n)

/-! ### Rings (R60 to R63, R376) -/

/-- A write of a ring's CFG register. While ENABLE is 1 only ENABLE takes a new value; ENABLE rises only for a ring that lies
inside one window; rising, `start` prepares the ring (R61, R62, R478). -/
def Dev.ringCfg (d : Dev) (r : Reg) (en : Fld) (f i value : Nat) (fits : Dev → Bool) (start : Dev → Dev) : Dev :=
  let others := r.fields.filter (fun x => x != en)
  let want := en.of value == 1
  if d.flag en f i then
    let d := if others.any (fun x => x.acc == .rw && x.of value != d.get x f i) then d.reject r f else d
    if want then d else d.lower en f i
  else
    let d := others.foldl (fun d x => d.writeField x value f i) d
    if want then (if fits d then start (d.raise en f i) else d.reject r f) else d

/-- Fetching from a disabled ring has stopped: slots asked for and not yet staged are let go (R63). -/
def Dev.stopFetch (d : Dev) (f r : Nat) : Dev :=
  if d.flag .HIF_SQ_CFG_ENABLE f r then d
  else (d.setSq f r { d.sq f r with outstanding := 0 }).freeMover { fn := f, ring := some r }

/-- A write of HIF_SQ_CFG (R61 to R63). -/
def Dev.writeSqCfg (d : Dev) (f r value : Nat) : Dev :=
  ((d.ringCfg .HIF_SQ_CFG .HIF_SQ_CFG_ENABLE f r value (fun d => d.inWindow f (d.sqBase f r) (64 * d.sqSize f r))
    (fun d => d.setSq f r {})).stopFetch f r).showFlight f

/-- A write of HIF_CQ_CFG (R61, R62, R84). -/
def Dev.writeCqCfg (d : Dev) (f c value : Nat) : Dev :=
  (d.ringCfg .HIF_CQ_CFG .HIF_CQ_CFG_ENABLE f c value (fun d => d.inWindow f (d.cqBase f c) (16 * d.cqSize f c))
    (fun d => d.setCq f c {})).showHoldCq f

/-- A write of INT_EVQ_CFG (R376). -/
def Dev.writeEvqCfg (d : Dev) (f value : Nat) : Dev :=
  d.ringCfg .INT_EVQ_CFG .INT_EVQ_CFG_ENABLE f 0 value (fun d => d.inWindow f (d.evqBase f) (64 * d.evqSize f))
    (fun d => d.setFn f { d.fn f with evq := {} })

/-- A write of a ring's base register: ignored, with CFG_REJ, while the ring is enabled (R62). -/
def Dev.writeRingBase (d : Dev) (r : Reg) (en : Fld) (f i value : Nat) : Dev :=
  if d.flag en f i then d.reject r f else d.writeReg r f i value

/-- SQ_ENABLE and SQ_DISABLE, CQ_ENABLE and CQ_DISABLE, EVQ_ENABLE: writes of the rings' CFG registers by function 0 or the
ring's own (R61 to R63, R376, R452). -/
def execSqEnable (dt : Nat) (w : Fin 8) (fn : Fin 8) (r : Fin 64) (value : Word) (s : State) : Host.Outcome State Fault Refusal :=
  s.act dt (fun d => d.ownWrite w fn (fun d => d.writeSqCfg fn r (value.toNat % 2 ^ 31 + 2 ^ 31)))

def execSqDisable (dt : Nat) (w : Fin 8) (fn : Fin 8) (r : Fin 64) (s : State) : Host.Outcome State Fault Refusal :=
  s.act dt (fun d => d.ownWrite w fn (fun d => d.writeSqCfg fn r (d.word .HIF_SQ_CFG fn r % 2 ^ 31)))

def execCqEnable (dt : Nat) (w : Fin 8) (fn : Fin 8) (c : Fin 16) (value : Word) (s : State) : Host.Outcome State Fault Refusal :=
  s.act dt (fun d => d.ownWrite w fn (fun d => d.writeCqCfg fn c (value.toNat % 2 ^ 31 + 2 ^ 31)))

def execCqDisable (dt : Nat) (w : Fin 8) (fn : Fin 8) (c : Fin 16) (s : State) : Host.Outcome State Fault Refusal :=
  s.act dt (fun d => d.ownWrite w fn (fun d => d.writeCqCfg fn c (d.word .HIF_CQ_CFG fn c % 2 ^ 31)))

def execEvqEnable (dt : Nat) (w : Fin 8) (fn : Fin 8) (value : Word) (s : State) : Host.Outcome State Fault Refusal :=
  s.act dt (fun d => d.ownWrite w fn (fun d => d.writeEvqCfg fn (value.toNat % 2 ^ 31 + 2 ^ 31)))

/-! ### The doorbell page (R64, R68) -/

/-- A write of the doorbell page's base: only while every ring of the function is disabled (R64). -/
def Dev.writeDbBase (d : Dev) (f : Nat) (hi : Bool) (value : Nat) : Dev :=
  let r : Reg := if hi then .HIF_DB_BASE_HI else .HIF_DB_BASE_LO
  if (List.range 64).any (fun i => d.flag .HIF_SQ_CFG_ENABLE f i) || (List.range 16).any (fun i => d.flag .HIF_CQ_CFG_ENABLE f i)
      || d.flag .INT_EVQ_CFG_ENABLE f then d.reject r f
  else d.writeReg r f 0 value

/-- DB_BASE_WRITE (R64). -/
def execDbBaseWrite (dt : Nat) (w : Fin 8) (fn : Fin 8) (hi : Bool) (value : Word) (s : State) :
    Host.Outcome State Fault Refusal :=
  s.act dt (fun d => d.ownWrite w fn (fun d => d.writeDbBase fn hi value.toNat))

/-- A write of HIF_POLL_CFG: not applied with an interval out of range; POLL_EN rises only for a page inside one window with
both permissions (R68). Set again with a page that no longer passes, it keeps its 1 with CFG_REJ (R478; DESIGN CHOICE). -/
def Dev.writePoll (d : Dev) (f value : Nat) : Dev :=
  let a := Fld.of .HIF_POLL_CFG_INTERVAL_US value
  let b := Fld.of .HIF_POLL_CFG_SLEEP_US value
  if a < 1 ∨ 1000 < a ∨ b < 1 ∨ 1000 < b then d.reject .HIF_POLL_CFG f
  else
    let was := d.flag .HIF_POLL_CFG_POLL_EN f
    let d := (d.put .HIF_POLL_CFG_INTERVAL_US a f).put .HIF_POLL_CFG_SLEEP_US b f
    let d :=
      if Fld.of .HIF_POLL_CFG_POLL_EN value = 0 then d.lower .HIF_POLL_CFG_POLL_EN f
      else if (d.rangeCause f (d.dbBase f) 4096 true true).isSome then d.reject .HIF_POLL_CFG f
      else if was then d
      else (d.raise .HIF_POLL_CFG_POLL_EN f).setFn f { d.fn f with lastPoll := 0 }
    d.showFlight f

/-- POLL_ENABLE (R68). -/
def execPollEnable (dt : Nat) (w : Fin 8) (fn : Fin 8) (value : Word) (s : State) : Host.Outcome State Fault Refusal :=
  s.act dt (fun d => d.ownWrite w fn (fun d => d.writePoll fn (value.toNat % 2 ^ 31 + 2 ^ 31)))

/-- The read requests of a poll: offsets 0x000 to 0x2FF in pieces of Max_Read_Request_Size, one from 1,024 bytes on (R68). -/
def pollPieces (base size : Nat) : List (Nat × Nat) :=
  if 1024 ≤ size then [(base, 0x300)]
  else (List.range (ceilDiv 0x300 (max size 128))).map (fun k => (base + k * max size 128, min (max size 128) (0x300 - k * max size 128)))

/-- DOORBELL_POLL: at the interval in force the page is checked, POLL_TS is written and the read requests go out; the interval to
the next poll is that of the state now (R64, R68, R69). A page that no longer passes is a violation and is not read. -/
def execDoorbellPoll (dt : Nat) (fn : Fin 8) (s : State) : Host.Outcome State Fault Refusal :=
  s.act dt (fun d =>
    let x := d.fn fn
    d.when (d.hostOpen fn && d.flag .HIF_POLL_CFG_POLL_EN fn && !x.polling
        && (x.lastPoll == 0 || decide (x.lastPoll + d.get .HIF_STAT_INTERVAL_NOW fn * qUs ≤ d.run))) (fun d =>
      match d.rangeCause fn (d.dbBase fn) 4096 true true with
      | some c => d.freezeFn fn c (d.dbBase fn)
      | none =>
        let d := (d.flushHeld fn).hostPut fn (d.dbBase fn + 0xd48) 8 (ts64 d.now)
        (d.setFn fn { d.fn fn with
          polling := true, lastPoll := d.run, pollReads := pollPieces (d.dbBase fn) (d.fn fn).maxReadReq }).put
            .HIF_STAT_INTERVAL_NOW (d.pollUs fn) fn))

/-- POLL_FAIL_TIMEOUT: POLL_FAIL_MAX failed polls running take HOST out (R441 kind 3). -/
def execPollFailTimeout (dt : Nat) (fn : Fin 8) (s : State) : Host.Outcome State Fault Refusal :=
  s.act dt (fun d =>
    d.when (decide (d.get .MGT_TMO_POLL_FAIL_MAX ≤ (d.fn fn).pollFails)) (fun d =>
      (d.setFn fn { d.fn fn with pollFails := 0, polling := false, pollReads := [] }).unitFault 34 0 3))

/-! ### Fetching (R66, R75, R79, R100) -/

/-- Slots of a ring that hold work not yet asked for: enabled, its next slot, and how many the producer index covers. A ring whose
next descriptor lacks slots waits for another producer index (R75). -/
def Dev.ringNext (d : Dev) (f r : Nat) : Nat := ((d.sq f r).fetch + (d.sq f r).outstanding) % d.sqSize f r
def Dev.ringWork (d : Dev) (f r : Nat) : Nat :=
  if d.flag .HIF_SQ_CFG_ENABLE f r ∧ (d.sq f r).short ≠ some (d.sq f r).pi then ((d.sq f r).pi + d.sqSize f r - d.ringNext f r) % d.sqSize f r else 0

/-- The ring whose turn it is: the lowest PRIO with work, and among its rings the present one until 64 slots, else the next
round-robin (R79). -/
def Dev.ringTurn (d : Dev) (f : Nat) : Option Nat :=
  let work := (List.range 64).filter (fun r => decide (0 < d.ringWork f r))
  match (List.range 4).find? (fun p => work.any (fun r => d.get .HIF_SQ_CFG_PRIO f r == p)) with
  | none => none
  | some p =>
    let rs := work.filter (fun r => d.get .HIF_SQ_CFG_PRIO f r == p)
    let last := Tab.get 63 (d.fn f).lastRing p
    if rs.contains last ∧ (d.fn f).turn < 64 then some last
    else (rangeFrom (last + 1) 64).map (· % 64) |>.find? (fun r => rs.contains r)

/-- A turn goes on, or another ring's begins. -/
def Dev.noteTurn (d : Dev) (f r slots : Nat) : Dev :=
  let p := d.get .HIF_SQ_CFG_PRIO f r
  let same := Tab.get 63 (d.fn f).lastRing p == r
  d.setFn f { d.fn f with
    lastRing := Tab.set 63 (d.fn f).lastRing p r, turn := if same && decide ((d.fn f).turn < 64) then (d.fn f).turn + slots else slots }

/-- DESCRIPTOR_FETCH: word 0 of the ring whose turn it is has been read; its slots are asked for once the producer index covers
them all and the staging area has room. A descriptor its ring can never hold completes with 0x0108, or a lower code that its word 0
shows, once HOST has a place, and disables the ring (R75, R79, R84, R86, R98, R99, R100). -/
def execDescriptorFetch (dt : Nat) (fn : Fin 8) (head : Gran) (s : State) : Host.Outcome State Fault Refusal :=
  s.act dt (fun d =>
    d.when (d.hostOpen fn && d.inService 35 && d.stageSize fn != 0) (fun d =>
      match d.ringTurn fn with
      | none => d
      | some r =>
        let x := d.sq fn r
        let n := slotsFor (bitsOf head.toNat 47 40)
        match d.rangeCause fn (d.sqBase fn r) (64 * d.sqSize fn r) true false with
        | some c => d.freezeFn fn c (d.sqBase fn r)
        | none =>
          if d.sqSize fn r - 1 < n then
            if x.outstanding = 0 ∧ d.get .HIF_STAT_HOSTQ_USED fn < 4096 then
              let j : Job := { id := d.nextJob, fn := fn, ring := r, slot := x.fetch, words := [head], asked := d.run }
              let d := { d with jobs := d.jobs ++ [j], nextJob := d.nextJob + 1 }
              let d := d.complete j.id ((lowCode j.wordCode (some 0x0108)).getD 0x0108)
              ((d.lower .HIF_SQ_CFG_ENABLE fn r).raise .HIF_STAT_OVERSIZE fn).showFlight fn
            else d
          else if d.ringWork fn r < n then d.setSq fn r { x with short := some x.pi }
          else if 64 < (if Tab.get 63 (d.fn fn).lastRing (d.get .HIF_SQ_CFG_PRIO fn r) = r
              then (d.fn fn).turn % 64 else 0) + n then d.noteTurn fn r 64
          else if d.stageSize fn < d.stageUsed fn + 64 * n then d
          else
            let d := d.setSq fn r { x with outstanding := x.outstanding + n, asked := if x.outstanding = 0 then d.run else x.asked }
            (d.noteTurn fn r n).showFlight fn))

/-! ### Staging checks (R42, R93, R96, R97, R99, R104) -/

/-- Whether opcode, target and length name a descriptor's fields, so that its ranges and masks can be checked. -/
def Job.readable (j : Job) : Bool :=
  let ts := opcodeTargets j.opcode
  ((targetOf j.target).map (fun c => ts.contains c.1)).getD false
    && decide ((opcodeLength j.opcode).1 ≤ j.length ∧ j.length ≤ (opcodeLength j.opcode).2)

/-- Whether a descriptor names a resource that its function does not own: its target, a participation mask, an output or input
of the time service, a source context (R42, R93, R332, R334, R317). -/
def Dev.notOwned (d : Dev) (j : Job) : Bool :=
  let op := j.opcode
  let ioOwn (f : Fld) (k : Nat) : Bool := bitsOf (d.get f) (3 * k + 2) (3 * k) == j.fn
  ((targetOf j.target).isSome && !d.ownsTarget j.fn j.target)
    || (j.readable && (
      (op == 0x20 && ((maskList (j.bits 289 256) 34).any (fun n => !d.ownsTarget j.fn n)
        || (maskList (j.bits 255 240) 16).any (fun t => !d.ownsTarget j.fn (0x40 + t))
        || (maskList (j.bits 297 290) 8).any (fun a => !d.ownsTarget j.fn (0x50 + a))
        || (maskList (j.bits 313 298) 16).any (fun x => !d.ownsTarget j.fn (0x60 + x))))
      || (op == 0x70 && !ioOwn .TIM_IO_OWN_FUNC (j.bits 258 256))
      || (op == 0x60 && j.bits 211 211 == 1 && !ioOwn .TIM_IO_OWN_FUNC (j.bits 210 208))
      || (op == 0x71 && !ioOwn .TIM_IO_OWN2_FUNC (j.bits 209 208))
      || (op == 0x61 && !d.ownsTarget j.fn (0x60 + j.bits 235 232))))

/-- The codes and the violation of a descriptor at staging: the lowest code, and CAUSE and address of a violation (R86, R97, R104).
Of several violations the first is recorded in the order ownership, layer, range (DESIGN CHOICE). One by a function that is frozen
already brings no code (R105). -/
def Dev.stageCheck (d : Dev) (j : Job) : Option Nat × Option (Nat × Nat) :=
  let layer := (j.opcode == 0x20 || j.opcode == 0x22 || j.opcode == 0x23)
    && j.fn != d.get .SYS_LAYER_CTL_OWNER_FUNC
  let range := if j.readable then d.hostRange j else none
  let bad := range.bind (fun r => (d.rangeCause j.fn r.1 r.2.1 r.2.2 (!r.2.2)).map (fun c => (c, r.1)))
  let f0 := if j.fn ≠ 0 ∧ j.readable = true then opcodeF0Code j.opcode else none
  let recs := if j.opcode = 0x31 ∧ j.wordCode = none then
      lowCode (recordsCode j.records) (if scarfJumps j.records then none else some 0x0174) else none
  let big := match range with
    | some (_, n, true) => decide (d.stageSize j.fn < n)
    | _ => false
  let other := lowCode (lowCode j.wordCode f0) (lowCode recs (if big then some 0x0240 else none))
  let with' (c : Nat) : Option Nat := if d.frozen j.fn then other else lowCode other (some c)
  if d.notOwned j then (with' 0x0402, some (4, j.slot))
  else if layer then (with' 0x0404, some (5, j.slot))
  else match bad with
    | some (c, a) => (with' (causeCode c), some (c, a))
    | none => (other, none)

/-- A staged descriptor is checked; a violation freezes its function. -/
def Dev.checkJob (d : Dev) (j : Job) : Dev :=
  let k := d.stageCheck j
  let d := d.modJob j.id (fun x => { x with code := lowCode x.code k.1 })
  match k.2 with
  | some (c, a) => d.freezeFn j.fn c a (some j.id)
  | none => d

/-- The descriptors in slots that have arrived, in slot order. -/
def Dev.parseSlots (d : Dev) (f r : Nat) : Nat → List Gran → Dev
  | 0, _ => d
  | n + 1, gs =>
    match gs with
    | [] => d
    | h :: _ =>
      let k := slotsFor (bitsOf h.toNat 47 40)
      let x := d.sq f r
      if gs.length < 4 * k ∨ x.outstanding < k then d
      else
        let j : Job := { id := d.nextJob, fn := f, ring := r, slot := x.fetch, words := gs.take (4 * k), asked := d.run }
        let d := { d with jobs := d.jobs ++ [j], nextJob := d.nextJob + 1 }
        let d := d.setSq f r { x with fetch := (x.fetch + k) % d.sqSize f r, outstanding := x.outstanding - k }
        (d.checkJob j).parseSlots f r n (gs.drop (4 * k))

/-- SLOTS_STAGED: the slots a mover carried are in DRAM; SQ_CI advances and every descriptor is checked (R100, R104). Those of a
function frozen meanwhile are discarded (R106). -/
def execSlotsStaged (dt : Nat) (fn : Fin 8) (r : Fin 64) (slots : List Gran) (s : State) : Host.Outcome State Fault Refusal :=
  s.act dt (fun d =>
    let m : Mover := { fn := fn, ring := some r.val }
    d.when (d.moverOf m).isSome (fun d =>
      let d := d.freeMover m
      if d.frozen fn then d.setSq fn r { d.sq fn r with outstanding := 0 }
      else
        let d := d.parseSlots fn r (slots.length + 1) slots
        let d := d.dbPut fn (0xc00 + 4 * r.val) (d.sq fn r).fetch
        d.showFlight fn))

/-- PAYLOAD_STAGED: the pointed data a mover carried is in DRAM; every record of a vector block is checked (R100, R120). -/
def execPayloadStaged (dt : Nat) (job : Nat) (data : List Gran) (s : State) : Host.Outcome State Fault Refusal :=
  s.act dt (fun d =>
    match d.job job with
    | none => d
    | some j =>
      let m : Mover := { fn := j.fn, job := j.id }
      let n := ceilDiv (((d.hostRange j).map (·.2.1)).getD 0) 16
      d.when ((d.moverOf m).isSome && decide (n ≤ data.length)) (fun d =>
        let gs := data.take n
        let code := if j.opcode = 0x30 then lowCode (recordsCode gs) (if scarfJumps gs then none else some 0x0174) else none
        (d.freeMover m).modJob job (fun j => { j with data := some gs, code := lowCode j.code code })))

/-! ### Dispatch and taking (R76 to R78, R84) -/

/-- The codes of R76 at this instant. -/
def Dev.lateCode (d : Dev) (j : Job) : Option Nat :=
  if j.schedule = 0 then none
  else
    let t := resolveTs64 d.now j.schedule
    if (d.now : Int) + 86400 * (qSec : Int) < t then some 0x0302
    else if t < d.now ∧ j.lateOk = false then some 0x0301 else none

/-- DESCRIPTOR_DISPATCH: in slot order, once its pointed data is staged, a fence allows it and HOST has a place; a descriptor
with an error completes there and is not executed. LAYER_OPEN is tested for lateness here (R44, R77, R78, R84). -/
def execDescriptorDispatch (dt : Nat) (job : Nat) (s : State) : Host.Outcome State Fault Refusal :=
  s.act dt (fun d =>
    match d.job job with
    | none => d
    | some j =>
      let before (p : Job → Bool) : Bool := d.jobs.any (fun x => x.fn == j.fn && x.ring == j.ring && decide (x.id < j.id) && p x)
      let waits := before (fun x => x.status == .staged) || (d.wantsData j && j.opcode != 0x50)
        || (j.fence && before (fun x => x.status != .replayable && !x.replay))
      d.when (j.status == .staged && !d.frozen j.fn && !waits && decide (d.get .HIF_STAT_HOSTQ_USED j.fn < 4096)) (fun d =>
        let late := if j.opcode = 0x20 then (d.lateCode j).bind (fun c => lowCode (some c) (d.openCode j)) else none
        match lowCode j.code late with
        | some c => d.complete job c
        | none => (d.takePlace j.fn).modJob job (fun x => { x with status := .dispatched })))

/-- The immediate descriptors of axes, encoders and contexts (R282, R302, R311). -/
def Job.atOnce (j : Job) : Bool := j.immediate || j.opcode == 0x63

/-- Whether an earlier descriptor of its ring holds a dispatched one: one to the same target that waits, or for an immediate one
any that has not started. A mark waits for none but earlier marks (R77, R282, R479). -/
def Dev.heldBack (d : Dev) (j : Job) : Bool :=
  d.jobs.any (fun x => x.fn == j.fn && x.ring == j.ring && decide (x.id < j.id)
    && (x.status == .dispatched || x.status == .taken || (j.atOnce && x.status == .staged))
    && (if j.opcode = 0x21 then x.opcode == 0x21 && x.target == j.target
        else (j.atOnce || x.target == j.target) && x.opcode != 0x21))

/-- Whether an engine is out of service for a calibration without cover: its work waits for the end (R423; the hold has no other end,
DESIGN CHOICE). -/
def Dev.calHolds (d : Dev) (n : Nat) : Bool :=
  d.cal.running.any (fun r => r.unit == n && r.kind != .lag) && (d.coverOf n).isNone && !(d.island n).faulted

/-- The codes with which a resource turns a descriptor away (R86, R127, R148, R170, R354, R414, R423). -/
def Dev.resourceCode (d : Dev) (j : Job) : Option Nat :=
  let t := j.target
  let n := d.execEngine t
  let stop := d.get .THM_STAT_STATE == 3
  let mark := j.opcode == 0x21
  let own :=
    if mark then (if 32 ≤ t ∧ t ≤ 0x21 ∧ (d.cover (t - 32)).phase ≠ .active then some 0x0250 else none)
    else if t ≤ 0x21 then lowest [
        (decide (32 ≤ t) && (d.cover (t - 32)).phase != .active, 0x0250), (!d.inService n && !d.calHolds n, 0x0201),
        ((d.eng n).discard, 0x0251), (j.vector && d.inSafeStop, 0x0260), (stop, 0x02fc)]
    else if t ≤ 0x4f then
      lowCode (lowest [(!d.inService 42, 0x0201), (stop, 0x02fc)]) (if j.opcode = 0x50 then d.frameCode (t - 0x40) else none)
    else if t ≤ 0x57 then lowCode (if d.inService 43 then none else some 0x0201) (d.axisCode j)
    else if t ≤ 0x6f then
      lowCode (if d.inService 44 then none else some 0x0201) (if j.opcode = 0x60 then d.captureCode j else none)
    else if j.opcode = 0x20 then d.openCode j else none
  lowCode own (if d.fenced then some 0x02f2 else none)

/-- Whether an axis is not free for a descriptor yet: a move or a homing waits for the one in execution, in a homing an immediate one
other than AX_STOP waits for its end (R282), and what moves waits for the end of the emergency ramp (R286). -/
def Dev.axisWaits (d : Dev) (j : Job) : Bool :=
  let x := d.axis (j.target - 0x50)
  decide (0x50 ≤ j.target ∧ j.target ≤ 0x57)
    && ((x.emergency && (j.motion || j.opcode == 0x59) && !d.inSafeStop && d.get .THM_STAT_STATE != 3) || if j.immediate then x.home != .none && j.opcode != 0x5a else x.job.isSome || x.stopJob.isSome || x.home != .none)

/-- Whether a tile's descriptor waits behind the VNR_ATTACH of its ring, which executes until slot 0 starts (R77, R244). -/
def Dev.tileWaits (d : Dev) (j : Job) : Bool :=
  decide (0x40 ≤ j.target ∧ j.target ≤ 0x4f) && j.opcode != 0x21
    && ((d.tile (j.target - 0x40)).attachJob.bind d.job).any (fun a => a.fn == j.fn && a.ring == j.ring && decide (a.id < j.id))

/-- Whether a descriptor's schedule or the layer keeps its target from taking it: SCHEDULE still to come, but for a frame; a
phase not in force, but for a frame and for what its target turns away anyhow; in the SAFE_STOP state a vector descriptor still waits
for its phase (R170); LAYER_OPEN behind a layer that has taken its LAYER_CLOSE; an axis in motion; a tile that attaches (R44, R76, R251, R282, R479). The first
LAYER_OPEN after reset waits for its SCHEDULE too (DESIGN CHOICE). -/
def Dev.notYet (d : Dev) (j : Job) : Bool :=
  let t := resolveTs64 d.now j.schedule
  (j.opcode != 0x50 && j.schedule != 0 && !j.replay && decide ((d.now : Int) < t ∧ t ≤ (d.now : Int) + 86400 * (qSec : Int)))
    || (j.opcode != 0x50 && d.gatedOff j && (d.resourceCode j).all (· == 0x0260))
    || (j.opcode == 0x20 && d.layerOpen && d.layer.closeTaken) || d.axisWaits j
    || d.tileWaits j

/-- DESCRIPTOR_TAKE: the target takes a dispatched descriptor whose turn has come, or turns it away with the lowest code that
applies (R76, R77, R86). -/
def execDescriptorTake (dt : Nat) (job : Nat) (s : State) : Host.Outcome State Fault Refusal :=
  s.act dt (fun d =>
    match d.job job with
    | none => d
    | some j =>
      d.when (j.status == .dispatched && !d.frozen j.fn && !d.heldBack j && !d.notYet j) (fun d =>
        let late := if j.replay ∨ j.opcode = 0x20 then none else d.lateCode j
        match lowCode late (d.resourceCode j) with
        | some c => d.complete job c
        | none => d.modJob job (fun x => { x with status := .taken })))

/-! ### Completions (R80 to R84) -/

/-- The 16 bytes of a completion entry (R80, R81). -/
def CplEntry.encode (e : CplEntry) (phase : Bool) : Nat :=
  e.sequence % 2 ^ 16 + e.status % 2 ^ 16 * 2 ^ 16 + e.opcode % 2 ^ 8 * 2 ^ 32 + e.target % 2 ^ 8 * 2 ^ 40 + e.ring % 2 ^ 6 * 2 ^ 48
    + phase.toNat * 2 ^ 63 + ts64 e.time * 2 ^ 64

/-- COMPLETION_WRITE: the first waiting entry whose ring has room is written, then CQ_PI; its place is free, and IRQ raises the
ring's source (R80 to R84, R368). -/
def execCompletionWrite (dt : Nat) (fn : Fin 8) (s : State) : Host.Outcome State Fault Refusal :=
  s.act dt (fun d =>
    d.when (d.mayWrite fn) (fun d =>
      let d := d.flushHeld fn
      match (d.fn fn).waiting.find? (fun e => !d.cqBlocked fn e.cq) with
      | none => d.showHoldCq fn
      | some e =>
        let c := e.cq
        let x := d.cq fn c
        let n := d.cqSize fn c
        match d.rangeCause fn (d.cqBase fn c) (16 * n) false true with
        | some k => if d.frozen fn then d else d.freezeFn fn k (d.cqBase fn c)
        | none =>
          let pos := (x.pos + 1) % n
          let d := d.setFn fn { d.fn fn with waiting := (d.fn fn).waiting.erase e }
          let d := d.hostPut fn (d.cqBase fn c + 16 * x.pos) 16 (e.encode x.phase)
          let d := d.dbPut fn (0xd00 + 4 * c) pos
          let d := d.setCq fn c { x with pos := pos, phase := if pos = 0 then !x.phase else x.phase }
          let d := (d.freePlace fn).showHoldCq fn
          let d := d.showFlight fn
          if e.irq then d.occur (16 * fn.val + c) else d))

/-! ### Bus mastering and virtual functions (R89, R91, R431) -/

/-- BUS_MASTER_DISABLE: polling, fetching and writing stop for the function (R91). -/
def execBusMasterDisable (dt : Nat) (fn : Fin 8) (s : State) : Host.Outcome State Fault Refusal :=
  s.act dt (fun d => d.setFn fn { d.fn fn with busMaster := false, polling := false, pollReads := [] })

/-- BUS_MASTER_ENABLE: they resume, and what waits in HOST is written. Set for a virtual function it shows that VF Enable is set
with a NumVFs that reaches it (DESIGN CHOICE); set for function 0 it ends the configuration after PERST_n, and HOST returns to
service (R89, R91, R431). -/
def execBusMasterEnable (dt : Nat) (fn : Fin 8) (s : State) : Host.Outcome State Fault Refusal :=
  s.act dt (fun d =>
    d.when (!d.pcie.perst && !d.mgmt.inReset) (fun d =>
      let back := fn.val == 0 && !d.pcie.configured && !(d.island 34).faulted && !d.flag .MGT_UNIT_OUT_HOST 34
      let d := { d with pcie := { d.pcie with
        vfEnable := d.pcie.vfEnable || fn.val != 0, configured := d.pcie.configured || fn.val == 0,
        numVfs := if d.pcie.vfEnable then max d.pcie.numVfs fn else fn } }
      let d := d.setFn fn { d.fn fn with busMaster := true }
      (if back then d.setService 34 true else d).flushHeld fn))

/-- VF_DISABLE: clearing VF Enable freezes every virtual function with CAUSE 8 (R91, R104). -/
def Dev.vfDisable (d : Dev) : Dev :=
  if d.pcie.vfEnable then
    let d := { d with pcie := { d.pcie with vfEnable := false } }
    (rangeFrom 1 (min totalVfs d.pcie.numVfs)).foldl (fun d f => (d.setFn f { d.fn f with busMaster := false }).freezeFn f 8 0) d
  else d

def execVfDisable (dt : Nat) (s : State) : Host.Outcome State Fault Refusal := s.act dt Dev.vfDisable

end Sys2Proof.Machine
end

