-- ==== Sys2Proof/Machine/Interrupts.lean ====
section
/-! DEFINITION. The interrupt controller (R64 to R71, R368 to R381): entries and exits of vectors, event records, polls. The
meanings of VECTOR_ENTRY, MODERATION_EXPIRE, INT_HOLD_WRITE, MSIX_UNMASK, IRQ_EVENT and POLL_SNAPSHOT. -/

namespace Sys2Proof.Machine

open Sys2Proof

/-! ### Which vector may begin (R371, R372, R373, R379) -/

/-- INT_STAT.RUNNING: the highest priority among a function's active vectors, 0x10 for none (R371). -/
def Dev.showRunning (d : Dev) (f : Nat) : Dev :=
  let act := (List.range 64).filter (fun v => d.flag .INT_VEC_STAT_ACTIVE f v)
  d.put .INT_STAT_RUNNING (act.foldl (fun m v => min m (d.vec f v).prio) 16) f

/-- The sources that an entry of a vector would deliver; of a frozen function source 128 + f alone, once the completions that can
be written have been (R107, R379). -/
def Dev.entrySources (d : Dev) (f v : Nat) : List Nat :=
  let ss := d.vecSources f v
  if d.frozen f then
    (if (d.fn f).waiting.all (fun e => d.cqBlocked f e.cq) then ss.filter (fun s => s == 128 + f) else [])
  else ss

/-- The event records of a source's delivery: one, or for source 144 one per mirrored record waiting (R377). -/
def Dev.recordsOf (d : Dev) (s : Nat) : Nat := if s = 144 then d.recorder.mirror.length else 1

/-- Whether a pending vector passes every condition of R372 but the mask and the room in the ring. -/
def Dev.eligible (d : Dev) (f v : Nat) : Bool :=
  !(d.entrySources f v).isEmpty && !d.flag .INT_VEC_STAT_ACTIVE f v && decide ((d.vec f v).prio < d.get .INT_STAT_RUNNING f)
    && (d.frozen f || d.vecReady f v)

/-- Whether a vector's message may not be sent (R372). -/
def Dev.vecMasked (d : Dev) (f v : Nat) : Bool := (d.vec f v).masked || hasBit d.fnMasked f

/-- The place of a vector in the order of R372: priority, then number. -/
def Dev.vecRank (d : Dev) (f v : Nat) : Nat := (d.vec f v).prio * 64 + v

/-- The first of some vectors in the order of R372. -/
def Dev.firstVec (d : Dev) (f : Nat) : List Nat → Option Nat
  | [] => none
  | v :: vs => match d.firstVec f vs with
    | some w => if d.vecRank f w < d.vecRank f v then some w else some v
    | none => some v

/-- Whether the event ring has room for `n` records (R376). -/
def Dev.evqRoom (d : Dev) (f n : Nat) : Bool :=
  let k := d.evqSize f
  let q := (d.fn f).evq
  d.flag .INT_EVQ_CFG_ENABLE f && decide ((q.pos + k - q.ci % k) % k + n < k)

/-! ### Entry (R374, R377) -/

/-- One event record into the event ring, with the phase of its position (R81, R376, R377). -/
def Dev.writeEvent (d : Dev) (f : Nat) (w : Nat) : Dev :=
  let q := (d.fn f).evq
  let pos := (q.pos + 1) % d.evqSize f
  let d := d.hostPut f (d.evqBase f + 64 * q.pos) 64 (w + q.phase.toNat * 2 ^ 63)
  d.setFn f { d.fn f with evq := { q with pos := pos, phase := if pos = 0 then !q.phase else q.phase } }

/-- An event record without its phase: word 0, DETAIL, and the recorder record of KIND 0b01 (R377). -/
def Dev.eventWord (d : Dev) (f v aseq s : Nat) (mirrored : Option Nat) : Nat :=
  let kind := if 512 ≤ s then 2 else if mirrored.isSome then 1 else 0
  let detail := if s < 128 then (d.cq (s / 16) (s % 16)).pos else if 512 ≤ s then (d.src s).detail else 0
  s + v * 2 ^ 10 + (d.vec f v).prio * 2 ^ 16 + kind * 2 ^ 20 + d.get .INT_SRC_STAT_COUNT s * 2 ^ 24 + aseq * 2 ^ 32
    + ts64 (d.src s).first * 2 ^ 64 + detail * 2 ^ 128 + mirrored.getD 0 * 2 ^ 256

/-- A pending source becomes active, and its record or records are written (R370, R374, R377). -/
def Dev.deliver (d : Dev) (f v aseq s : Nat) : Dev :=
  let ws := if s = 144 then d.recorder.mirror.map (fun m => d.eventWord f v aseq s (some m)) else [d.eventWord f v aseq s none]
  let d := ws.foldl (fun d w => d.writeEvent f w) d
  let d := if s = 144 then { d with recorder := { d.recorder with mirror := [] } } else d
  let d := d.setSrc s { d.src s with delivered := d.get .INT_SRC_STAT_COUNT s, taker := f }
  ((d.lower .INT_SRC_STAT_PENDING s).put .INT_SRC_STAT_COUNT 0 s).raise .INT_SRC_STAT_ACTIVE s

/-- The entry of a vector: its records in ascending source number, EVQ_PI, then its message (R374). -/
def Dev.enterVec (d : Dev) (f v : Nat) : Dev :=
  let aseq := (d.get .INT_VEC_STAT_ASEQ f v + 1) % 2 ^ 16
  let d := (d.entrySources f v).foldl (fun d s => d.deliver f v aseq s) d
  let d := (d.put .INT_VEC_STAT_ASEQ aseq f v).raise .INT_VEC_STAT_ACTIVE f v
  let d := d.dbPut f 0xd40 (d.fn f).evq.pos
  let x := d.vec f v
  let d := d.setVec f v { x with pba := false, messages := x.messages + 1, lastMsg := d.run }
  ((d.showRunning f).refreshVec f v).showFlight f

/-- VECTOR_ENTRY: the first vector in the order of R372 that may begin runs its entry. A masked one before it has its pending
bit set; a ring without room for it holds every vector (R372, R376, R381). -/
def execVectorEntry (dt : Nat) (fn : Fin 8) (s : State) : Host.Outcome State Fault Refusal :=
  s.act dt (fun d =>
    d.when (d.mayWrite fn && !d.flag .INT_CTL_HOLD fn) (fun d =>
      let d := d.flushHeld fn
      let vs := (List.range 64).filter (fun v => d.eligible fn v)
      let best := d.firstVec fn (vs.filter (fun v => !d.vecMasked fn v))
      let held := vs.filter (fun v => d.vecMasked fn v && (match best with
        | some w => decide (d.vecRank fn v < d.vecRank fn w)
        | none => true))
      let d := held.foldl (fun d v => d.setVec fn v { d.vec fn v with pba := true }) d
      match best with
      | none => d.lower .INT_STAT_EVQ_FULL fn
      | some v =>
        let n := (d.entrySources fn v).foldl (fun n s => n + d.recordsOf s) 0
        if d.evqRoom fn n = false then d.raise .INT_STAT_EVQ_FULL fn
        else
          match d.rangeCause fn (d.evqBase fn) (64 * d.evqSize fn) false true with
          | some k => if d.frozen fn then d else d.freezeFn fn k (d.evqBase fn)
          | none => (d.lower .INT_STAT_EVQ_FULL fn).enterVec fn v))

/-- MODERATION_EXPIRE: a pending vector becomes ready once its interval has passed (R373). -/
def execModerationExpire (dt : Nat) (fn : Fin 8) (v : Fin 64) (s : State) : Host.Outcome State Fault Refusal :=
  s.act dt (fun d => d.refreshVec fn v)

/-- INT_HOLD_WRITE: HOLD of a function set or cleared by function 0 (R378). -/
def execIntHoldWrite (dt : Nat) (fn : Fin 8) (hold : Bool) (s : State) : Host.Outcome State Fault Refusal :=
  s.act dt (fun d => d.byFn 0 (fun d => d.putB .INT_CTL_HOLD hold fn))

/-- MSIX_UNMASK: a vector's table entry, or the function as a whole, is unmasked; a vector held by the mask may begin (R372). -/
def execMsixUnmask (dt : Nat) (fn : Fin 8) (v : Option (Fin 64)) (s : State) : Host.Outcome State Fault Refusal :=
  s.act dt (fun d =>
    match v with
    | some v => d.byFn fn (fun d => d.setVec fn v { d.vec fn v with masked := false })
    | none => { d with fnMasked := clearBit d.fnMasked fn })

/-! ### Forwarded events (R380) -/

/-- IRQ_EVENT: a granted event of a peer enabled in a slot is an occurrence of that slot's source; DETAIL of the first pending
one is kept (R114, R115, R377, R380). -/
def execIrqEvent (dt : Nat) (dev : Fin 1024) (payload : List Gran) (s : State) : Host.Outcome State Fault Refusal :=
  s.act dt (fun d =>
    d.granting dev 6 none (fun d =>
      match (List.range 8).find? (fun k => d.flag .INT_PEER_ENABLE k && d.get .INT_PEER_PEER_ID k == dev.val) with
      | none => d
      | some k =>
        let s := 512 + k
        let detail := dev.val + (payload.headD 0#128).toNat % 1024 * 2 ^ 16
        let d := if d.flag .INT_SRC_STAT_PENDING s then d else d.setSrc s { d.src s with detail := detail }
        d.occur s))

/-! ### Polls (R66 to R71, R375) -/

/-- The exit of a vector: the sources of its entry are idle, or stay pending; the vector is no longer active (R375, R381). -/
def Dev.exitVec (d : Dev) (f v : Nat) : Dev :=
  let ss := d.regs.filterMap (fun c =>
    if c.fld = .INT_SRC_STAT_ACTIVE ∧ (d.src c.i).taker = f ∧ (d.src c.i).vector = v then some c.i else none)
  let d := ss.foldl (fun d s => d.lower .INT_SRC_STAT_ACTIVE s) d
  (((d.lower .INT_VEC_STAT_ACTIVE f v).latchVec f v).showRunning f).refreshVec f v

/-- ACK of a vector as a poll reads it: acted on only where it differs from the previous poll's value (R375). -/
def Dev.takeAck (d : Dev) (f v w : Nat) : Dev :=
  if w = Tab.get 0 (d.fn f).ack v then d
  else
    let d := d.setFn f { d.fn f with ack := Tab.set 0 (d.fn f).ack v w }
    if d.flag .INT_VEC_STAT_ACTIVE f v ∧ w = d.get .INT_VEC_STAT_ASEQ f v then d.exitVec f v
    else d.bump .INT_STAT_STRAY_ACK 1 f

/-- HOST_STATE as a poll reads it (R67). -/
def Dev.takeHostState (d : Dev) (f w : Nat) : Dev :=
  let d := if 3 ≤ w then d.raise .HIF_STAT_STATE_ERR f else d
  d.setFn f { d.fn f with hostState := if w % 4 = 3 then 0 else w % 4 }

/-- SQ_PI of a ring as a poll reads it: one equal to or greater than the ring's size is a violation (R65, R66, R104). -/
def Dev.takePi (d : Dev) (f r w : Nat) : Dev :=
  let pi := w % 2 ^ 16
  if d.flag .HIF_SQ_CFG_ENABLE f r = false ∨ d.frozen f = true then d
  else if d.sqSize f r ≤ pi then d.freezeFn f 3 r
  else d.setSq f r { d.sq f r with pi := pi }

/-- One poll's snapshot of offsets 0x000 to 0x2FF: HOST_STATE, ACK words, consumer indices, producer indices (R68). -/
def Dev.takePage (d : Dev) (f : Nat) (ws : List Word) : Dev :=
  let at' (k : Nat) : Nat := (ws.getD k 0#32).toNat
  let d := d.takeHostState f (at' 81)
  let d := (List.range 64).foldl (fun d v => d.takeAck f v (at' (128 + v))) d
  let d := (List.range 16).foldl (fun d c => d.setCq f c { d.cq f c with ci := at' (64 + c) % 2 ^ 16 }) d
  let d := d.setFn f { d.fn f with evq := { (d.fn f).evq with ci := at' 80 % 2 ^ 16 } }
  let d := (List.range 64).foldl (fun d r => d.takePi f r (at' r)) d
  let d := d.setFn f { d.fn f with turn := 64 }
  let d := (List.range 64).foldl (fun d v => if d.flag .INT_VEC_STAT_PENDING f v then d.refreshVec f v else d) d
  (d.showHoldCq f).showFlight f

/-- POLL_SNAPSHOT: the data of a poll's reads is acted on as one snapshot; a failed poll sets POLL_ERR and is recorded (R68, R71,
R441 kind 3). -/
def execPollSnapshot (dt : Nat) (fn : Fin 8) (page : Option (List Word)) (s : State) : Host.Outcome State Fault Refusal :=
  s.act dt (fun d =>
    d.when (d.fn fn).polling (fun d =>
      let x := d.fn fn
      match page with
      | none =>
        let d := d.setFn fn { x with polling := false, pollReads := [], pollFails := x.pollFails + 1 }
        (d.raise .HIF_STAT_POLL_ERR fn).record 0x0201 3 (recSource 34 63) fn
      | some ws => (d.setFn fn { x with polling := false, pollReads := [], pollFails := 0 }).takePage fn ws))

end Sys2Proof.Machine
end

