-- ==== Sys2Proof/Machine/Recorder.lean ====
section
/-! DEFINITION. The event recorder's memory (R384 to R393): where a record is placed, read-back failures and bad blocks, peer
records, reading and clearing. The meanings of LOG_RECORD_WRITE, OPSEC_SAVE, LOG_SCAN_DONE, PEER_LOG, REC_READ and REC_CLEAR. -/

namespace Sys2Proof.Machine

open Sys2Proof

/-- Log slots, and slots of a block (R385). -/
def logSlots : Nat := 49152
def blockSlots : Nat := 1024

/-! ### Blocks and slots (R383, R386, R389) -/

/-- Whether a block is bad: either copy of the map says so (R389). -/
def Mram.bad (m : Mram) (b : Nat) : Bool := hasBit m.badA b || hasBit m.badB b

/-- Whether a slot holds a valid record of a healthy block. -/
def Mram.used (m : Mram) (k : Nat) : Bool := recValid (Tab.get 0 m.log k)

/-- Whether a slot takes a new record: a healthy block's without a valid record (R383, R386). -/
def Mram.freeSlot (m : Mram) (k : Nat) : Bool := !m.bad (k / blockSlots) && !m.used k

/-- The first free slot of a healthy block from a slot upward, wrapping (R386). -/
def Mram.findFree (m : Mram) : Nat → Nat → Option Nat
  | 0, _ => none
  | n + 1, k => if m.freeSlot (k % logSlots) then some (k % logSlots) else m.findFree n (k + 1)

/-- The age of a record: PCYC, OP_SEC, SUBSEC, slot (R385). -/
def recAge (slot w : Nat) : Nat := ((bitsOf w 87 64 * 2 ^ 32 + bitsOf w 63 32) * 256 + bitsOf w 95 88) * 2 ^ 16 + slot

/-- The oldest of some slots. -/
def oldestSlot : List (Nat × Nat) → Option (Nat × Nat)
  | [] => none
  | x :: xs => match oldestSlot xs with
    | some y => if recAge y.1 y.2 < recAge x.1 x.2 then some y else some x
    | none => some x

/-- The valid records of healthy blocks, which a new record may overwrite. -/
def Mram.records (m : Mram) : List (Nat × Nat) := m.log.filter (fun p => recValid p.2 && !m.bad (p.1 / blockSlots))

/-- The record that gives way to a new one of severity `s` when no slot is free (R386). -/
def Mram.victim (m : Mram) (s : Nat) : Option Nat :=
  let rs := m.records
  match (List.range s).find? (fun l => rs.any (fun p => recSev p.2 == l)) with
  | some l => (oldestSlot (rs.filter (fun p => recSev p.2 == l))).map (·.1)
  | none => if 4 ≤ s then (oldestSlot (rs.filter (fun p => recSev p.2 == s))).map (·.1) else none

/-- The slot that a new record of severity `s` is written to; none when it is dropped (R386). -/
def Dev.placeFor (d : Dev) (s : Nat) : Option Nat :=
  match d.mram.findFree logSlots d.recorder.nextSlot with
  | some k => some k
  | none => d.mram.victim s

/-- REC_STAT and the bad-block map brought up to date. -/
def Dev.showLog (d : Dev) : Dev :=
  let m := d.mram
  let bad := (List.range 48).filter m.bad
  let d := d.putB .REC_STAT_FULL (decide (m.records.length = blockSlots * (48 - bad.length)))
  let d := d.put .REC_STAT_BAD_BLOCKS bad.length
  let map := Nat.lor m.badA m.badB
  ((d.put .REC_BAD_LO_MAP (map % 2 ^ 32)).put .REC_BAD_HI_MAP (map / 2 ^ 32)).put .REC_STAT_QUEUED d.recorder.queue.length

/-- A slot's content. -/
def Dev.setSlot (d : Dev) (k w : Nat) : Dev := { d with mram := { d.mram with log := Tab.set 0 d.mram.log k w } }

/-- A record written to its slot and read back (R386). -/
def Dev.storeRec (d : Dev) (k w : Nat) : Dev :=
  let d := d.setSlot k w
  { d with recorder := { d.recorder with nextSlot := (k + 1) % logSlots } }

/-- REC_CLEAR completes once LOG_CLEARED has left the queue (R392). -/
def Dev.settleClear (d : Dev) : Dev :=
  if d.recorder.queue.any (fun r => r.code == 0x0004) then d
  else (d.jobs.filter (fun j => j.opcode == 0x7f && j.status == .executing)).foldl (fun d j => d.complete j.id 0) d

/-- A write that failed its read-back, or was refused: the block is bad in both copies, the slot holds what the failed write left,
and the record stays first in the queue, for the next healthy block, LOG_BLOCK_BAD after it; with no healthy block left the
recorder is degraded (R389, R390, R393). -/
def Dev.blockFails (d : Dev) (k : Nat) (r : Rec) : Dev :=
  let b := k / blockSlots
  let d := (d.setSlot k (d.freeBits 256)).freeNext
  let m := d.mram
  let d := { d with mram := { m with badA := setBit m.badA b, badB := setBit m.badB b } }
  if (List.range 48).all d.mram.bad then (d.degrade [r]).record 0x0002 4 (recSource 48 63) b
  else
    let d := { d with recorder := { d.recorder with queue := r :: d.recorder.queue } }
    d.record 0x0002 4 (recSource 48 63) b

/-- The first record of the queue goes to MRAM, over a victim when the log is full, or is dropped (R386, R387, R389). -/
def Dev.writeFirst (d : Dev) (ok : Bool) : Dev :=
  match d.recorder.queue with
  | [] => d
  | r :: q =>
    let d := { d with recorder := { d.recorder with queue := q } }
    match d.placeFor r.sev with
    | none => d.countDrop r.sev
    | some k => if ok then d.storeRec k r.encode else d.blockFails k r

/-- LOG_RECORD_WRITE: the first waiting record is written and read back; `ok` says whether the read-back passed (R386 to R389). -/
def execLogRecordWrite (dt : Nat) (ok : Bool) (s : State) : Host.Outcome State Fault Refusal :=
  s.act dt (fun d =>
    (d.when (d.inService 48 && !d.flag .REC_STAT_SCANNING && !d.flag .REC_STAT_LOG_DEGRADED)
      (fun d => (d.writeFirst ok).showLog)).settleClear)

/-- OPSEC_SAVE: OP_SEC is written to the one of its two words that is older (R384). -/
def execOpsecSave (dt : Nat) (s : State) : Host.Outcome State Fault Refusal :=
  s.act dt (fun d =>
    let t := d.opTime / qSec
    let m := if d.recorder.opAlt then { d.mram with opSecB := t } else { d.mram with opSecA := t }
    { d with mram := m, recorder := { d.recorder with opAlt := !d.recorder.opAlt } })

/-- LOG_SCAN_DONE: the index is rebuilt; with a healthy block POWER_ON, the first record waiting, is written, else the recorder is
degraded (R385, R390, R391). -/
def execLogScanDone (dt : Nat) (s : State) : Host.Outcome State Fault Refusal :=
  s.act dt (fun d =>
    d.when (d.flag .REC_STAT_SCANNING) (fun d =>
      let d := d.lower .REC_STAT_SCANNING
      if (List.range 48).all d.mram.bad then (d.degrade []).showLog else (d.writeFirst true).showLog))

/-! ### Peer records (R391) -/

/-- A peer's record as a record of this recorder (R382, R391). -/
def recOfPeer (dev w : Nat) : Rec :=
  { code := bitsOf w 15 0, sev := bitsOf w 18 16, source := 0x1000 + dev, opSec := bitsOf w 63 32, pcyc := bitsOf w 87 64,
    subsec := bitsOf w 95 88, p0 := bitsOf w 127 96, p1 := bitsOf w 159 128, p2 := bitsOf w 191 160, p3 := bitsOf w 223 192 }

/-- PEER_LOG: a granted peer record is stored by R386 where PEER_ACCEPT is set and the recorder is not degraded; each other one
is discarded and counted (R114, R115, R391). While the boot scan runs it waits in the queue behind POWER_ON, and is counted stored
as it enters, discarded where a full queue turns it away (R385, R387). -/
def execPeerLog (dt : Nat) (dev : Fin 1024) (payload : List Gran) (s : State) : Host.Outcome State Fault Refusal :=
  s.act dt (fun d =>
    d.granting dev 4 none (fun d =>
      let w := (payload.headD 0#128).toNat + ((payload.drop 1).headD 0#128).toNat * 2 ^ 128
      let takes := d.flag .REC_CFG_PEER_ACCEPT && d.inService 48 && !d.flag .REC_STAT_LOG_DEGRADED
      let r := recOfPeer dev w
      if takes && d.flag .REC_STAT_SCANNING then
        let enters := decide (d.recorder.queue.length < 256) || d.recorder.queue.any (fun x => decide (x.sev < r.sev))
        let d := d.queueRec r
        (if enters then d.bump .REC_PEER_CNT_STORED else d.bump .REC_PEER_CNT_DISCARDED).showLog
      else
      match (if takes then d.placeFor (recSev w) else none) with
      | some k => ((d.storeRec k r.encode).bump .REC_PEER_CNT_STORED).showLog
      | none =>
        let d := d.bump .REC_PEER_CNT_DISCARDED
        if takes then d.countDrop (recSev w) else d))

/-! ### Reading and clearing (R392, R393, R445) -/

/-- What a REC_READ copies: log slots, or slots of the volatile ring, as stored. -/
def Dev.recImage (d : Dev) (ring : Bool) (first count : Nat) : List Byte :=
  (rangeFrom first count).flatMap (fun k => leBytes 32 (if ring then d.recorder.vring.getD k 0 else Tab.get 0 d.mram.log k))

/-- REC_READ (R392). -/
def execRecRead (dt : Nat) (job : Nat) (s : State) : Host.Outcome State Fault Refusal :=
  s.act dt (fun d => d.withJob job 0x7e (fun d j =>
    d.saveTo j j.addr (d.recImage (j.bits 224 224 == 1) (j.bits 207 192) (j.bits 223 208)) 0))

/-- Every valid record that `p` selects by severity becomes invalid; how many there were (R392). -/
def Dev.clearRecs (d : Dev) (p : Nat → Bool) : Dev × Nat :=
  let hit (x : Nat × Nat) : Bool := recValid x.2 && p (recSev x.2)
  let n := (d.mram.log.filter hit).length
  ({ d with mram := { d.mram with log := d.mram.log.filter (fun x => !hit x) } }.showLog, n)

/-- REC_CLEAR: records of severity MAX_SEV or below become invalid and LOG_CLEARED is raised; it completes when that record is
written or dropped (R392). -/
def execRecClear (dt : Nat) (job : Nat) (s : State) : Host.Outcome State Fault Refusal :=
  s.act dt (fun d => d.withJob job 0x7f (fun d j =>
    let m := j.bits 130 128
    let c := d.clearRecs (fun sev => decide (sev ≤ m))
    ((c.1.begin' j).record 0x0004 2 (recSource 48 63) m c.2).settleClear))

end Sys2Proof.Machine
end

