-- ==== Sys2Proof/Machine/Boot.lean ====
section
/-! DEFINITION. Resets of the whole device and of the host link, and boot (R428 to R434, R396, R404, R457, R458): the meanings of
POWER_ON_RESET, PIN_RESET, DEVICE_RESET, PERST_ASSERT, PERST_RELEASE, FUNCTION_LEVEL_RESET and RESET_RELEASE. -/

namespace Sys2Proof.Machine

open Sys2Proof

/-! ### Power-on and pin reset (R428, R429, R384) -/

/-- The whole device in reset: memories that survive, the always-on oscillator, the levels of input pins and the absent clocks
stay; everything else takes its reset value. Cause 0 is power-on: PCYC rises and operating time resumes 60 s past the larger
stored word (R384, R428, R429). -/
def Dev.wholeReset (d : Dev) (cause : Nat) : Dev :=
  let cold := cause == 0
  { free := d.free
    host := d.host
    flash := d.flash
    run := if cold then 0 else d.run
    mram := if cold then { d.mram with pcyc := satAdd 24 d.mram.pcyc 1 } else d.mram
    recorder := {
      opBase := if cold then (max d.mram.opSecA d.mram.opSecB + 60) * qSec else d.recorder.opBase
      opAlt := d.recorder.opAlt }
    pcie := { perst := d.pcie.perst }
    mgmt := { mgmtEn := d.mgmt.mgmtEn, resetCause := cause, absent := d.mgmt.absent, sysBack := if cold then 0 else d.mgmt.sysBack }
    pins := { safeStop := d.pins.safeStop, gasOk := d.pins.gasOk, fenceIn := d.pins.fenceIn, ownIn := d.pins.ownIn } }

/-- POWER_ON_RESET (R428, R429). -/
def execPowerOnReset (dt : Nat) (s : State) : Host.Outcome State Fault Refusal := s.act dt (fun d => d.wholeReset 0)

/-- PIN_RESET (R428, R429). -/
def execPinReset (dt : Nat) (s : State) : Host.Outcome State Fault Refusal := s.act dt (fun d => d.wholeReset 1)

/-- DEVICE_RESET: a pin reset from the management port, while MGMT_EN is high (R428, R445, R470). -/
def execDeviceReset (dt : Nat) (s : State) : Host.Outcome State Fault Refusal :=
  s.act dt (fun d => d.when d.mgmt.mgmtEn (fun d => d.wholeReset 2))

/-! ### The host link (R428, R430, R431) -/

/-- PERST_ASSERT: HOST is out of service, configuration space and the HIF_ and INT_ registers of every function are reset; nothing
is frozen and no layer state changes (R428, R431). -/
def execPerstAssert (dt : Nat) (s : State) : Host.Outcome State Fault Refusal :=
  s.act dt (fun d =>
    let d := { d.setService 34 false with pcie := { perst := true }, fnMasked := 0 }
    let d := (List.range 8).foldl (fun d f =>
      (d.setFn f { d.fn f with busMaster := false, maxReadReq := 512 }).resetHost f) d
    d.resetSources)

/-- PERST_RELEASE: the link trains; HOST returns once the host has configured the device (R431). -/
def execPerstRelease (dt : Nat) (s : State) : Host.Outcome State Fault Refusal :=
  s.act dt (fun d => { d with pcie := { d.pcie with perst := false } })

/-- A function-level reset of one function: the freeze with a cause, then at SAFE the reset (R430). -/
def Dev.flrOne (d : Dev) (f cause : Nat) : Dev :=
  let d := d.setFn f { d.fn f with flr := true }
  if d.frozen f = false then d.freezeFn f cause 0
  else if d.flag .WIN_FRZ_STAT_SAFE f then d.finishFlr f
  else d

/-- FUNCTION_LEVEL_RESET: with CAUSE 9; of function 0 it clears VF Enable too, and functions 1 to 7 are reset with it, with
CAUSE 8 (R91, R104, R430). -/
def execFunctionLevelReset (dt : Nat) (fn : Fin 8) (s : State) : Host.Outcome State Fault Refusal :=
  s.act dt (fun d =>
    let d := d.flrOne fn 9
    if fn.val = 0 then
      let d := { d with pcie := { d.pcie with vfEnable := false } }
      (rangeFrom 1 7).foldl (fun d f => (d.setFn f { d.fn f with busMaster := false }).flrOne f 8) d
    else d)

/-! ### Firmware slots (R433, R434) -/

/-- First byte of a slot. -/
def slotBase (k : Nat) : Nat := k * 0x800000

/-- The number in some bytes of a header. -/
def hdrNum (h : List Byte) (a n : Nat) : Nat := ofLeBytes ((h.drop a).take n)

/-- MAGIC and LENGTH of a header are in range (R433, R446). -/
def headerFits (h : List Byte) : Bool :=
  let n := hdrNum h 8 4
  decide (hdrNum h 0 4 = 0x53465649) && decide (n % 4096 = 0 ∧ 0 < n ∧ n ≤ 8384512)

/-- Whether a header and an image form a valid slot (R434). -/
def imageValid (h image : List Byte) (minSvn : Nat) : Bool :=
  headerFits h && decide (hdrNum h 6 2 ≤ 32767 ∧ minSvn ≤ hdrNum h 6 2)
    && decide (crc32c (h.take 60) = hdrNum h 60 4)
    && decide (sha384 (image.take (hdrNum h 8 4)) = (h.drop 12).take 48)
    && Config.signatureVerifies (h.take 60) ((h.drop 64).take 96)

/-- The header of a slot. -/
def Dev.slotHeader (d : Dev) (k : Nat) : List Byte := d.flash.readList (slotBase k) 160

/-- Whether a slot is valid (R434). -/
def Dev.slotValid (d : Dev) (k minSvn : Nat) : Bool :=
  let h := d.slotHeader k
  headerFits h && imageValid h (d.flash.readList (slotBase k + 4096) (hdrNum h 8 4)) minSvn

/-- MGT_FW of a slot brought up to date. -/
def Dev.showSlotFw (d : Dev) (k : Nat) : Dev :=
  let h := d.slotHeader k
  ((d.put .MGT_FW_VERSION (hdrNum h 4 2) k).put .MGT_FW_SVN (hdrNum h 6 2) k).putB .MGT_FW_VALID
    (d.slotValid k (d.get .MGT_STAT_MIN_SVN)) k

/-! ### Boot (R432) -/

/-- The boot configuration copy in use: the one of the higher generation, copy 1 of equals (R436). -/
def Mram.copy2 (m : Mram) : Bool := decide (m.gen1 < m.gen2)
def Mram.bootCfg (m : Mram) : BootCfg := if m.copy2 then m.boot2 else m.boot1

/-- Identity, straps, boot configuration and counters in their registers (R432 steps 1 and 2, R457, R458). -/
def Dev.bootIdentity (d : Dev) (straps : BitVec 3) : Dev :=
  let m := d.mram
  let c := m.bootCfg
  let d := (d.put .SYS_SERIAL_LO_SERIAL (m.serial % 2 ^ 32)).put .SYS_SERIAL_HI_SERIAL (m.serial / 2 ^ 32)
  let d := (d.put .SYS_CLKID_LO_CLKID (m.clkId % 2 ^ 32)).put .SYS_CLKID_HI_CLKID (m.clkId / 2 ^ 32)
  let d := (d.put .SYS_MAC_LO_MAC (m.mac / 2 ^ 16)).put .SYS_MAC_HI_MAC (m.mac % 2 ^ 16)
  let d := (List.range 4).foldl (fun d p =>
    (d.put .FAB_PORT_MAC_LO_MAC (m.mac / 2 ^ 16 + p * 2 ^ 24) p).put .FAB_PORT_MAC_HI_MAC (m.mac % 2 ^ 16) p) d
  let s := straps.toNat
  let d := ((d.put .SYS_STRAP_REFCLK (bitOf s 0)).put .SYS_STRAP_RECOV (bitOf s 1)).put .SYS_STRAP_QSPI (bitOf s 2)
  let d := (d.put .SYS_BOOTCFG_I2C_ADDR c.i2cAddr).putB .SYS_BOOTCFG_COPY m.copy2
  let d := d.put .SYS_BOOTCFG_GEN (if m.copy2 then m.gen2 else m.gen1)
  let d := (d.put .FAB_CFG_REQ_ID c.reqId).put .REC_PCYC_PCYC m.pcyc
  (d.put .MGT_STAT_BOOT_SLOT c.bootSlot).put .MGT_STAT_MIN_SVN c.minSvn

/-- Capacity in GB and the field widths of a row of R395: column, bank group, bank and row bits (R395, R398). -/
def dramSize (dev : Nat) : Nat := if dev = 0 then 16 else if dev = 1 then 32 else if dev = 2 then 8 else if dev = 3 then 16 else 32
def dramGroupBits (dev : Nat) : Nat := if dev < 2 then 3 else 2
def dramRowBits (dev : Nat) : Nat := if dev = 0 ∨ dev = 2 then 16 else if dev = 4 then 18 else 17

/-- DRM_CFG and DRM_GEOM of a channel from the boot configuration (R395, R396). -/
def Dev.bootGeom (d : Dev) (c : Nat) (here : Bool) (dev : Nat) : Dev :=
  let b := d.mram.bootCfg
  let d := (d.putB .DRM_CFG_PRESENT here c).put .DRM_CFG_DEV dev c
  let d := ((d.put .DRM_CFG_RATE b.rate c).put .DRM_CFG_ORDER b.order c).putB .DRM_CFG_ILV b.ilv c
  let d := (d.put .DRM_CFG_SIZE_GB (if here then dramSize dev else 0) c).put .DRM_GEOM_COL_BITS 6 c
  ((d.put .DRM_GEOM_BG_BITS (dramGroupBits dev) c).put .DRM_GEOM_BA_BITS 2 c).put .DRM_GEOM_ROW_BITS (dramRowBits dev) c

/-- A populated channel is trained; one that fails stays out, with a record of severity 5 whose training step the spec does not
number (R404). -/
def Dev.bootTrain (d : Dev) (c : Nat) (ok : Bool) : Dev :=
  if d.flag .DRM_CFG_PRESENT c = false then d
  else if ok then (d.trained c).setService (36 + c) true
  else
    let d := (d.record 0x0c21 5 (recSource (36 + c) 63) c (d.freeBits 32)).freeNext
    (d.setIsland (36 + c) { d.island (36 + c) with faulted := true }).raise .MGT_UNIT_TEST_FAIL (36 + c)

/-- Islands and slices in service, with dowel delays and calibrations as measured (R417, R432 step 6). Engine n takes entry n of
`cal`, slice s entry 34 + s. -/
def Dev.bootUnits (d : Dev) (cal : List (List Int)) (dowels : List Int) : Dev :=
  let b := d.mram.bootCfg
  let d := (List.range 64).foldl (fun d k =>
    (d.put .CAL_SENSOR_OFFSET (b.sensorOffset.getD k 0) k).put .CAL_SENSOR_GAIN (b.sensorGain.getD k 32768) k) d
  let d := (List.range 49).foldl (fun d n =>
    let d := d.setIsland n { d.island n with lastDowel := d.run, replica := (d.now : Int), replicaAt := d.run }
    let d := d.puts .CAL_DOWEL_DELAY (dowels.getD n 0) n
    d.when (!(n == 36 || n == 37 || (n == 34 && d.pcie.perst))) (fun d => d.setService n true)) d
  let d := (List.range 34).foldl (fun d n =>
    let d := if n < 32 then (d.put .ENG_STAT_BOUND_CH n n).setLink n { d.link n with since := d.run } else d
    let d := if d.pins.safeStop then (d.raise .ENG_GATE_STAT_SAFE_STOP n).raise .ENG_GATE_STAT_SAFE_STOP_SEEN n else d
    (d.put .ENG_STAT_STATE 1 n).setService (49 + n) true) d
  (List.range 34).foldl (fun d n =>
    (d.calDone { kind := .taps, unit := n } true (cal.getD n [])).calDone { kind := .slice, unit := 49 + n } true
      (cal.getD (34 + n) [])) d

/-- The slot to boot: BOOT_SLOT if valid, else the other; none when neither is (R434). -/
def Dev.pickSlot (d : Dev) : Option Nat :=
  let b := d.get .MGT_STAT_BOOT_SLOT
  let m := d.get .MGT_STAT_MIN_SVN
  if d.slotValid b m then some b else if d.slotValid (1 - b) m then some (1 - b) else none

/-- Recovery mode (R437). -/
def Dev.enterRecovery (d : Dev) : Dev := (d.raise .MGT_STAT_RECOVERY).record 0x0d0b 7 (recSource 48 63)

/-- The boot from slot `k`: units with their calibrations, devices of the two channels, and the fallback shown (R434 to R436). -/
def Dev.bootFrom (d : Dev) (k : Nat) (cal : List (List Int)) (dowels : List Int) (dramOk : List Bool) : Dev :=
  let d := d.put .MGT_STAT_SLOT_NOW k
  let d := if k = d.get .MGT_STAT_BOOT_SLOT then d
    else (d.raise .MGT_STAT_FALLBACK).record 0x0d05 5 (recSource 48 63) k
  let c := d.mram.bootCfg
  let d := (d.bootGeom 0 c.present0 c.dev0).bootGeom 1 c.present1 c.dev1
  let d := (d.bootUnits cal dowels).bringFresh (fun c => fldsCAL.contains c.fld)
  let d := (d.bootTrain 0 (dramOk.getD 0 true)).bootTrain 1 (dramOk.getD 1 true)
  d.raise .MGT_STAT_BOOT_DONE

/-- The boot of R432, POWER_ON first among its records (R385, R470). -/
def Dev.boot (d : Dev) (straps : BitVec 3) (cal : List (List Int)) (dowels : List Int) (dramOk : List Bool) : Dev :=
  let d := { d with mgmt := { d.mgmt with inReset := false }, pcie := { d.pcie with configured := !d.pcie.perst } }
  let d := ((d.bootIdentity straps).setService 48 true).raise .REC_STAT_SCANNING
  let d := d.showLog
  let pick := d.pickSlot
  let d := d.record 0x0001 1 (recSource 48 63) d.mgmt.resetCause (pick.getD (d.get .MGT_STAT_BOOT_SLOT))
  let d := (d.showSlotFw 0).showSlotFw 1
  match (if hasBit straps.toNat 1 then none else pick) with
  | none => d.enterRecovery
  | some k => d.bootFrom k cal dowels dramOk

/-- RESET_RELEASE: the straps are sampled and the device boots; SYS_REFCLK absent holds the reset until 1 ms after its return (R432,
R457, R470). -/
def execResetRelease (dt : Nat) (straps : BitVec 3) (cal : List (List Int)) (dowels : List Int) (dramOk : List Bool)
    (s : State) : Host.Outcome State Fault Refusal :=
  s.act dt (fun d =>
    d.when (d.mgmt.inReset && !d.mgmt.absent.contains 0 && (d.mgmt.resetCause != 3 || decide (d.mgmt.sysBack + qMs ≤ d.run)))
      (fun d => d.boot straps cal dowels dramOk))

end Sys2Proof.Machine
end

