-- ==== Sys2Proof/Machine/Recovery.lean ====
section
/-! DEFINITION. Faults and recovery (R438 to R443), supplies and reference clocks (R467 to R470): the meanings of UNIT_FAULT,
UNIT_SELF_TEST_DONE, FETCH_TIMEOUT, VENEER_DEADLINE_TIMEOUT, PCIE_COMPLETION_TIMEOUT, MGMT_WATCHDOG_EXPIRE, MGT_UNIT, RAIL_UNDERVOLT,
REFCLK_ABSENT and REFCLK_RETURN. -/

namespace Sys2Proof.Machine

open Sys2Proof

/-! ### Faults and self-tests (R438 to R440) -/

/-- A unit's fault of a cause, with what goes with it: a camera-buffer error's code, a DRAM channel's retraining (R322, R438,
R439). -/
def Dev.faultUnit (d : Dev) (u cause : Nat) : Dev :=
  let d := d.unitFault u cause 0 (if u = 44 ∧ cause = 1 then 0x05d0 else 0x0503)
  if u = 36 ∨ u = 37 then d.raise .DRM_STAT_TRAINING (u - 36) else d

/-- UNIT_FAULT (R438). -/
def execUnitFault (dt : Nat) (u : Fin 83) (cause : Nat) (s : State) : Host.Outcome State Fault Refusal :=
  s.act dt (fun d => d.when (!d.mgmt.inReset) (fun d => d.faultUnit u cause))

/-- Whether nothing but its test keeps an island out: for HOST the host's configuration and PCIE_REFCLK, for FABRIC FAB_REFCLK
(R431, R470). -/
def Dev.mayServe (d : Dev) (u : Nat) : Bool :=
  !d.flag .MGT_UNIT_OUT_HOST u
    && (u != 34 || (!d.pcie.perst && d.pcie.configured && !d.mgmt.absent.contains 3))
    && (u != 46 || !d.mgmt.absent.contains 1)

/-- The notices that KERF held are delivered in order (R37). -/
def Dev.drainNotices (d : Dev) : Dev :=
  let ns := d.kerf.notices
  ns.foldl (fun d n => d.takeNotice n.1 n.2) { d with kerf := { d.kerf with notices := [] } }

/-- The tiles that meet the boxes of deposits dropped while GRAIN was out are lost (R232). -/
def Dev.loseBoxes (d : Dev) : Dev :=
  let d := (List.range 34).foldl (fun d n => match (d.eng n).loop.dropBox with
    | some b => (d.loseBox b).modEng n (fun e => { e with loop := { e.loop with dropBox := none } })
    | none => d) d
  (List.range 16).foldl (fun d t => match (d.tile t).dropBox with
    | some b => (d.loseBox b).modTile t (fun x => { x with dropBox := none })
    | none => d) d

/-- An island back in service after its test, and what waited for it (R37, R38, R232, R439, R441). -/
def Dev.islandBack (d : Dev) (u : Nat) : Dev :=
  let d := d.setService u true
  let d :=
    if u = 38 then d.loseBoxes
    else if u = 39 then d.drainNotices
    else if u = 42 then (List.range 16).foldl (fun d t => d.restartTile t) d
    else if u = 43 then (List.range 8).foldl (fun d a =>
      if d.flag .AX_CFG_ENABLE a && d.get .AX_STAT_STATE a == 0 then d.put .AX_STAT_STATE 1 a else d) d
    else d
  d.faultOver u

/-- Whether the engine that a slice serves rests, or the slice serves none (R420). -/
def Dev.sliceRests (d : Dev) (u : Nat) : Bool :=
  let ch := d.get .MPL_SLICE_STAT_CHANNEL (u - 49)
  ch == 63 || d.channelRests ch

/-- A unit that has passed its test returns where R439 says: an engine or slice under cover with its cover, an uncovered engine at
the layer boundary, any other island at once. -/
def Dev.passed (d : Dev) (u : Nat) : Dev :=
  let d := d.lower .MGT_UNIT_TEST_FAIL u
  if d.mayServe u = false ∨ u < 34 then d
  else if 49 ≤ u then (if (d.coverOf u).isNone && d.sliceRests u then d.returnSlice u else d)
  else d.islandBack u

/-- UNIT_SELF_TEST_DONE: a unit whose test fails stays out with TEST_FAIL; a fault during the test fails it (R439, R440, R447). -/
def execUnitSelfTestDone (dt : Nat) (u : Fin 83) (ok : Bool) (s : State) : Host.Outcome State Fault Refusal :=
  s.act dt (fun d =>
    let x := d.island u
    d.when x.testing (fun d =>
      let pass := ok && x.bistOk
      if u.val = 36 ∨ u.val = 37 then d.dramReturn (u - 36) pass
      else
        let d := d.setIsland u { x with testing := false, bistOk := pass }
        if pass then d.passed u else (d.raise .MGT_UNIT_TEST_FAIL u).record 0x0d04 4 (recSource 48 63) u))

/-! ### Timeouts (R441 to R443) -/

/-- FETCH_MS in force: at least twice the completion timeout plus 1 ms (R443), in quanta. -/
def Dev.fetchLimit (d : Dev) : Nat := max (d.get .MGT_TMO_FETCH_MS * qMs) (2 * d.pcie.cplTimeout + qMs)

/-- FETCH_ADJ while the register holds less than the minimum (R443). -/
def Dev.showFetch (d : Dev) : Dev :=
  if d.get .MGT_TMO_FETCH_MS * qMs < 2 * d.pcie.cplTimeout + qMs then d.raise .MGT_STAT_FETCH_ADJ else d

/-- FETCH_TIMEOUT: the descriptor completes with 0x03FE, and STAGE is taken out (R441 kind 4). Time while HOST is out does not
count (R442). -/
def execFetchTimeout (dt : Nat) (job : Nat) (s : State) : Host.Outcome State Fault Refusal :=
  s.act dt (fun d =>
    match d.job job with
    | none => d
    | some j =>
      let d := d.showFetch
      d.when (d.wantsData j && d.inService 35 && d.hostOpen j.fn && decide (j.asked + d.fetchLimit ≤ d.run)) (fun d =>
        (d.complete job 0x03fe).unitFault 35 0 4))

/-- VENEER_DEADLINE_TIMEOUT: VNR_MISS_MAX consecutive missed slots of a tile take VENEER out (R441 kind 6). -/
def execVeneerDeadlineTimeout (dt : Nat) (t : Fin 16) (s : State) : Host.Outcome State Fault Refusal :=
  s.act dt (fun d =>
    d.when (d.inService 42 && decide (d.get .MGT_TMO_VNR_MISS_MAX ≤ (d.tile t).missRun)) (fun d => d.unitFault 42 0 6))

/-- PCIE_COMPLETION_TIMEOUT: the read that a mover makes for a descriptor fails; no unit is taken out (R441 kind 2). -/
def execPcieCompletionTimeout (dt : Nat) (job : Nat) (s : State) : Host.Outcome State Fault Refusal :=
  s.act dt (fun d =>
    match d.job job with
    | none => d
    | some j =>
      let m : Mover := { fn := j.fn, job := j.id }
      d.when (d.moverOf m).isSome (fun d => (d.freeMover m).complete job 0x0502))

/-- A firmware update ends with a code; the descriptor may be gone already (R435, R447). -/
def Dev.endUpdate (d : Dev) (code : Nat) : Dev :=
  match d.mgmt.update with
  | none => d
  | some id => { d.lower .MGT_STAT_UPD_BUSY with mgmt := { d.mgmt with update := none } }.complete id code

/-- MGMT_WATCHDOG_EXPIRE: the other controller restarts a silent one; with both silent MGMT is taken out, and an ACTIVE device fails.
An update in progress ends with 0x0503 (R361, R441 kind 9, R447). -/
def execMgmtWatchdogExpire (dt : Nat) (controller : Fin 2) (otherSilent : Bool) (s : State) : Host.Outcome State Fault Refusal :=
  s.act dt (fun d =>
    let d := d.endUpdate 0x0503
    if otherSilent then (d.record 0x0d08 5 (recSource 48 63)).unitFault 48 0 9
    else d.record 0x0d07 3 (recSource 48 63) controller)

/-! ### MGT_UNIT (R440, R446) -/

/-- A unit is taken out by MGT_UNIT: as at a fault, but nothing is counted or tested (R37, R440, R446). -/
def Dev.takeOut (d : Dev) (u : Nat) : Dev :=
  let d := d.raise .MGT_UNIT_OUT_HOST u
  if (d.island u).faulted then d else d.unitOut u 0x0503 false

/-- A unit is given back by MGT_UNIT: it returns as a unit that has passed its test does, or waits for its test (R440, R446). -/
def Dev.giveBack (d : Dev) (u : Nat) : Dev :=
  let d := d.lower .MGT_UNIT_OUT_HOST u
  let x := d.island u
  let d :=
    if x.faulted && !x.testing && !d.flag .MGT_UNIT_TEST_FAIL u then
      (if u = 36 ∨ u = 37 then d.dramReturn (u - 36) true else d.passed u)
    else d
  d.settleUnit u

/-- MGT_UNIT (R446). -/
def execMgtUnit (dt : Nat) (job : Nat) (s : State) : Host.Outcome State Fault Refusal :=
  s.act dt (fun d => d.withJob job 0x46 (fun d j =>
    let u := j.bits 134 128
    if u = 48 then d.complete j.id 0x02fe
    else if j.bits 135 135 = 0 then (d.takeOut u).complete j.id 0
    else (d.begin' j).giveBack u))

/-! ### Supplies and reference clocks (R467, R468, R470) -/

/-- The islands that a rail of R467 feeds, by its row in the table, for the rails whose loss is a fault. -/
def railIslands (rail : Nat) : List Nat :=
  match rail with
  | 2 => [36, 37]
  | 3 => [34, 40, 42, 46, 47]
  | 4 => [34, 40, 42, 46, 47]
  | 5 => [44]
  | 6 => List.range 48
  | 7 => [41]
  | 8 => [40]
  | 9 => [43, 45]
  | _ => []

/-- RAIL_UNDERVOLT: a core or always-on rail causes a power-on reset, any other takes its islands out as a fault (R31, R428, R438,
R468). -/
def execRailUndervolt (dt : Nat) (rail : Nat) (s : State) : Host.Outcome State Fault Refusal :=
  s.act dt (fun d =>
    if rail = 0 ∨ rail = 1 ∨ rail = 10 then d.wholeReset 0
    else d.when (!d.mgmt.inReset) (fun d => (railIslands rail).foldl (fun d u => d.faultUnit u 4) d))

/-- REFCLK_ABSENT: SYS_REFCLK (0), FAB_REFCLK (1), LINK_REFCLK (2) or PCIE_REFCLK (3) without an edge for 1 µs (R470). -/
def execRefclkAbsent (dt : Nat) (ref : Nat) (s : State) : Host.Outcome State Fault Refusal :=
  s.act dt (fun d =>
    d.when (decide (ref < 4) && !d.mgmt.absent.contains ref) (fun d =>
      let d := { d with mgmt := { d.mgmt with absent := d.mgmt.absent ++ [ref] } }
      if ref = 0 then d.wholeReset 3
      else if ref = 1 then d.setService 46 false
      else if ref = 3 then d.setService 34 false
      else
        let d := (List.range 34).foldl (fun d n => if d.get .ENG_STAT_BOUND_CH n < 32 then d.channelFault n 1 0x0550 else d) d
        let d := (List.range 16).foldl (fun d t => if d.flag .VDR_STAT_LINK_UP t then d.loseTileLink t else d) d
        if d.paired && d.flag .HNG_STAT_PATH_B_UP then d.losePath true else d))

/-- REFCLK_RETURN: FABRIC and HOST return with their clocks; links come up again by their own rules (R37, R470). -/
def execRefclkReturn (dt : Nat) (ref : Nat) (s : State) : Host.Outcome State Fault Refusal :=
  s.act dt (fun d =>
    let d := { d with mgmt := { d.mgmt with
      absent := d.mgmt.absent.filter (fun r => r != ref), sysBack := if ref = 0 then d.run else d.mgmt.sysBack } }
    let u := if ref = 1 then 46 else 34
    d.when (decide (ref = 1 ∨ ref = 3) && !d.mgmt.inReset && d.mayServe u && !(d.island u).faulted && d.flag .MGT_STAT_BOOT_DONE)
      (fun d => d.setService u true))

end Sys2Proof.Machine
end

