-- ==== Sys2Proof/Machine/Firmware.lean ====
section
/-! DEFINITION. Firmware slots, boot configuration and the management port's commands (R433 to R437, R444 to R447): the meanings of
MGT_FW_UPDATE, FW_UPDATE_DONE, MGT_FW_SELECT, WRITE_BOOTCFG, RELEASE_F0, CLEAR_FATAL, SLOT_WRITE and SLOT_SELECT. -/

namespace Sys2Proof.Machine

open Sys2Proof

/-- Bytes written to the flash. -/
def Dev.flashWrite (d : Dev) (a : Nat) (bs : List Byte) : Dev := { d with flash := d.flash.writeList a bs }

/-! ### Update (R435) -/

/-- The bytes that a MGT_FW_UPDATE carries: header sector and image. -/
def Job.fwBytes (j : Job) : List Byte := granBytes (j.data.getD [])

/-- MGT_FW_UPDATE: an update that may start erases the header sector of the slot not booted (R435, R446). -/
def execMgtFwUpdate (dt : Nat) (job : Nat) (s : State) : Host.Outcome State Fault Refusal :=
  s.act dt (fun d => d.withJob job 0x44 (fun d j =>
    let h := j.fwBytes.take 160
    let code := lowest [
      (!headerFits h || decide (j.bits 223 192 < 4096 + hdrNum h 8 4), 0x01ff), (d.mgmt.update.isSome, 0x02fe)]
    match code with
    | some c => d.complete j.id c
    | none =>
      let k := 1 - d.get .MGT_STAT_SLOT_NOW
      let d := { (d.begin' j).raise .MGT_STAT_UPD_BUSY with mgmt := { d.mgmt with update := some j.id } }
      (d.flashWrite (slotBase k) (List.replicate 4096 0xff#8)).showSlotFw k))

/-- FW_UPDATE_DONE: the image is programmed and read back, checked against R434, then its header; `ok` says whether every read-back
matched (R435). A slot whose update fails keeps an erased header. -/
def execFwUpdateDone (dt : Nat) (ok : Bool) (s : State) : Host.Outcome State Fault Refusal :=
  s.act dt (fun d =>
    match d.mgmt.update.bind d.job with
    | none => d.endUpdate 0x0503
    | some j =>
      let bs := j.fwBytes
      let h := bs.take 160
      let image := (bs.drop 4096).take (hdrNum h 8 4)
      let k := 1 - d.get .MGT_STAT_SLOT_NOW
      if ok = false then d.endUpdate 0x05fe
      else
        let d := d.flashWrite (slotBase k + 4096) image
        if imageValid h image (d.get .MGT_STAT_MIN_SVN) = false then (d.endUpdate 0x02ff).showSlotFw k
        else
          let d := (d.flashWrite (slotBase k) (bs.take 4096)).showSlotFw k
          (d.record 0x0d06 2 (recSource 48 63) k (hdrNum h 4 2)).endUpdate 0)

/-! ### Boot configuration (R436) -/

/-- Both copies of the boot configuration take a new value, each with the next generation count (R436). -/
def Dev.writeBoot (d : Dev) (c : BootCfg) : Dev :=
  let g := max d.mram.gen1 d.mram.gen2 + 1
  { d with mram := { d.mram with boot1 := c, boot2 := c, gen1 := g, gen2 := g } }

/-- Whether a slot may be selected (R435, R436). -/
def Dev.selectable (d : Dev) (k : Nat) : Bool := d.slotValid k (d.get .MGT_STAT_MIN_SVN)

/-- A select of a valid slot: BOOT_SLOT, and MIN_SVN raised to the slot's SVN on request (R436). -/
def Dev.selectSlot (d : Dev) (k : Nat) (commit : Bool) : Dev :=
  let c := d.mram.bootCfg
  let svn := if commit then max (d.get .MGT_STAT_MIN_SVN) (hdrNum (d.slotHeader k) 6 2) else d.get .MGT_STAT_MIN_SVN
  let d := (d.writeBoot { c with bootSlot := k, minSvn := svn }).put .MGT_STAT_BOOT_SLOT k
  ((d.put .MGT_STAT_MIN_SVN svn).showSlotFw 0).showSlotFw 1

/-- MGT_FW_SELECT (R436, R446). -/
def execMgtFwSelect (dt : Nat) (job : Nat) (s : State) : Host.Outcome State Fault Refusal :=
  s.act dt (fun d => d.withJob job 0x45 (fun d j =>
    if d.selectable (j.bits 128 128) then (d.selectSlot (j.bits 128 128) (j.bits 129 129 == 1)).complete j.id 0
    else d.complete j.id 0x02ff))

/-! ### The management port (R444, R445) -/

/-- A command of the management port that acts only while MGMT_EN is high (R445). -/
def Dev.byPort (d : Dev) (g : Dev → Dev) : Dev := if d.mgmt.mgmtEn && d.inService 48 then g d else d

/-- WRITE_BOOTCFG: takes effect at the next reset (R436, R445). -/
def execWriteBootcfg (dt : Nat) (cfg : BootCfg) (s : State) : Host.Outcome State Fault Refusal :=
  s.act dt (fun d => d.byPort (fun d => d.writeBoot cfg))

/-- RELEASE_F0: a frozen function 0 that is safe is released as R113 states, and the release is recorded (R444). -/
def execReleaseF0 (dt : Nat) (s : State) : Host.Outcome State Fault Refusal :=
  s.act dt (fun d => d.byPort (fun d =>
    d.when (d.frozen 0 && d.flag .WIN_FRZ_STAT_SAFE 0) (fun d => (d.unfreeze 0).record 0x0d0a 5 (recSource 48 63))))

/-- CLEAR_FATAL: every record of severity 7 becomes invalid (R392, R445). -/
def execClearFatal (dt : Nat) (s : State) : Host.Outcome State Fault Refusal :=
  s.act dt (fun d => d.byPort (fun d => (d.clearRecs (fun sev => sev == 7)).1))

/-- SLOT_WRITE: 256 bytes of a slot, in recovery mode only (R437, R445). -/
def execSlotWrite (dt : Nat) (slot : Fin 2) (page : Nat) (data : List Byte) (s : State) : Host.Outcome State Fault Refusal :=
  s.act dt (fun d => d.byPort (fun d =>
    d.when (d.flag .MGT_STAT_RECOVERY) (fun d =>
      (d.flashWrite (slotBase slot + 256 * (page % 32768)) (data.take 256)).showSlotFw slot)))

/-- SLOT_SELECT: as MGT_FW_SELECT, in recovery mode only; one that is not valid changes nothing (R436, R437, R445). -/
def execSlotSelect (dt : Nat) (slot : Fin 2) (commit : Bool) (s : State) : Host.Outcome State Fault Refusal :=
  s.act dt (fun d => d.byPort (fun d =>
    d.when (d.flag .MGT_STAT_RECOVERY && d.selectable slot) (fun d => d.selectSlot slot commit)))

end Sys2Proof.Machine
end

