-- ==== Sys2Proof/Machine/Links.lean ====
section
/-! DEFINITION. The channel links and the gate (R136 to R149, R160 to R169): the meanings of SETPOINT_FRAME,
RETURN_FRAME, LINK_UP_TIMEOUT, LINK_LOSS_FAULT, GATE_COMPARE_HIT, GATE_MON_FAULT and ENGINE_PROGRESS_TIMEOUT. -/

namespace Sys2Proof.Machine

open Sys2Proof

/-! ### Outward frames (R136, R139 to R141) -/

/-- Lag of an axis in quanta: 0 X, 1 Y, 2 Z (R136). -/
def Dev.lagOf (d : Dev) (n a : Nat) : Nat :=
  d.eff (if a = 0 then .ENG_LAG_X_LAG else if a = 1 then .ENG_LAG_Y_LAG else .ENG_LAG_Z_LAG) n * q10ns

/-- Whether a channel gets HOLD frames (R141). -/
def Dev.holds (d : Dev) (ch : Nat) : Bool :=
  match d.engineOf ch with
  | none => true
  | some n => !d.inService n || d.get .ENG_STAT_STATE n == 6 || !d.flag .ENG_STAT_LINK_UP n

/-- Whether the planned gate level is high at any instant of the slot (R140). -/
def Dev.gatePlanned (d : Dev) (n : Nat) : Bool :=
  d.flag .ENG_GATE_STAT_GATE_NOW n || (d.eng n).gate.edges.any (fun e => e.2 && decide (e.1 < d.now + 500 * qNs))

/-- The low fields of an outward frame: setpoints (R140). -/
def spWord (x y z : Int) : Nat := uInt 24 x + uInt 24 y * 2 ^ 24 + uInt 24 z * 2 ^ 48

/-- The frame word's type, sequence, channel and device (R140). -/
def Dev.frameTail (d : Dev) (ch type seq : Nat) : Nat :=
  seq * 2 ^ 96 + type * 2 ^ 104 + ch * 2 ^ 112 + d.ownId * 2 ^ 118

/-- A slot ends without a good return frame (R145, R147). -/
def Dev.closeSlot (d : Dev) (ch n : Nat) : Dev :=
  let l := d.link ch
  if l.answered then d.setLink ch { l with answered := false }
  else (d.setLink ch { l with bad := l.bad + 1, good := 0, feX := 0, feY := 0 }).bump .ENG_LINK_ERR_RX_BAD 1 n

/-- The characters of a frame: K28.5, its 16 bytes from byte 0 on, the CRC with its high byte first, K29.7 (R139, R143). A control
character is its byte plus 256. -/
def frameChars (w : Nat) : List Nat :=
  let bs := leBytes 16 w
  let c := crc16 bs
  0x1bc :: bs.map (·.toNat) ++ [c / 256, c % 256, 0x1fd]

/-- The character of a channel's link at a place of the present slot: K28.1 outside the frame (R139, R141). -/
def ChLink.charAt (l : ChLink) (k : Nat) : Nat := (l.chars[k]?).getD 0x13c

/-- A frame of a channel goes out, of a type with a power, setpoints and gate level (R139, R140). PARKED and JUMPING are those of the
engine bound to the channel. -/
def Dev.linkFrame (d : Dev) (ch type power : Nat) (x y z : Int) (high : Bool) : Dev :=
  let n := d.engineOf ch
  let parked := n.any (fun n => d.get .ENG_STAT_STATE n == 5)
  let jumping := (n.bind (fun n => pieceAt (d.eng n).path d.now)).any (fun p =>
    decide (p.kind = PieceKind.off ∨ p.kind = PieceKind.leadIn ∨ p.kind = PieceKind.leadOut))
  let l := d.link ch
  let w := spWord x y z + power * 2 ^ 72 + high.toNat * 2 ^ 88 + parked.toNat * 2 ^ 89 + jumping.toNat * 2 ^ 90
    + d.frameTail ch type l.seq
  d.setLink ch { l with seq := (l.seq + 1) % 256, sent := (x, y) :: l.sent.take 1001, last := w, chars := frameChars w }

/-- The bank that a path point takes its setpoints from: the new one from a swap point of the stream on (R179). -/
def Dev.bankAt (d : Dev) (n t : Nat) : Bank :=
  let c := (d.eng n).corr
  if (d.swapTime n).any (fun s => decide (s ≤ t)) && c.ready then c.shadow else c.active

/-- A SETPOINT frame of a bound channel: each axis at its own lag point, through the bank of that point (R136, R140, R168, R179). -/
def Dev.setpointFrame (d : Dev) (ch n : Nat) : Dev :=
  let t := d.now
  let d := d.restLatch n
  let d := (d.extendTo n (t + d.leadOf n)).flushGate n
  let d := d.modEng n (fun e => { e with horizon := max e.horizon (t + d.leadOf n) })
  let at' (a : Nat) : Pt := d.spotAt n (t + d.lagOf n a)
  let bank (a : Nat) : Bank := d.bankAt n (t + d.lagOf n a)
  let d := if (d.eng n).parking.isSome && [0, 1, 2].any (fun a => (bank a).clips (at' a)) then d.raise .COR_STAT_PARK_CLIP n
    else d
  let pw := d.framePower n t
  let d := d.linkFrame ch 1 pw.1 ((bank 0).frame (at' 0)).1 ((bank 1).frame (at' 1)).2.1 ((bank 2).frame (at' 2)).2.2
    (d.gatePlanned n)
  let d := d.modEng n (fun e => { e with loop := { e.loop with frames := (t, pw.1, pw.2.1, pw.2.2) :: e.loop.frames.take 1004 } })
  d.showPos n t

/-- A HOLD frame: the setpoint fields of the last SETPOINT frame with SP_POWER 0 (R141). -/
def Dev.holdFrame (d : Dev) (ch : Nat) : Dev :=
  let w := (d.link ch).last
  d.linkFrame ch 2 0 (sInt 24 (bitsOf w 23 0)) (sInt 24 (bitsOf w 47 24)) (sInt 24 (bitsOf w 71 48))
    ((d.engineOf ch).any d.gatePlanned)

/-- The frame of one channel. -/
def Dev.slotFrame (d : Dev) (ch : Nat) : Dev :=
  let d := match d.engineOf ch with | some n => d.closeSlot ch n | none => d
  match d.engineOf ch with
  | some n => if d.holds ch then d.holdFrame ch else d.setpointFrame ch n
  | none => d.holdFrame ch

/-- No frame goes out in the slot: the links carry K28.1 (R139, R354). -/
def Dev.silentSlot (d : Dev) : Dev :=
  forAll (List.range 32) (fun d ch => d.setLink ch { d.link ch with chars := [] }) d

/-- At each device-time instant whose nanoseconds field is a multiple of 500, CHLINK sends a SETPOINT or HOLD frame on
every channel, while it is in service (R37, R136, R141); while the device is FENCED the links carry no frames (R354). -/
def execSetpointFrame (dt : Nat) (s : State) : Host.Outcome State Fault Refusal :=
  s.act dt (fun d =>
    d.when (d.now % (500 * qNs) == 0) (fun d =>
      if d.inService 40 && !d.fenced then forAll (List.range 32) (fun d ch => d.slotFrame ch) d else d.silentSlot))

/-! ### Return frames (R142, R145 to R147) -/

/-- Slots that an axis lags by: LAG / 500 ns, rounded to nearest (R147). -/
def Dev.lagSlots (d : Dev) (n a : Nat) : Nat :=
  (d.eff (if a = 0 then .ENG_LAG_X_LAG else .ENG_LAG_Y_LAG) n + 25) / 50

/-- Whether the following errors of a good frame in X and in Y exceed their limit (R147). -/
def Dev.followErr (d : Dev) (ch n w : Nat) : Bool × Bool :=
  let lim := d.get .ENG_LINK_CFG_FE_LIMIT n
  let sent := (d.link ch).sent
  let off (act sp : Int) : Bool := decide (lim ≠ 0 ∧ lim < (act - sp).natAbs)
  ((sent[d.lagSlots n 0]?).any (fun s => off (sInt 24 (bitsOf w 23 0)) s.1),
   (sent[d.lagSlots n 1]?).any (fun s => off (sInt 24 (bitsOf w 47 24)) s.2))

/-- A good return frame: head report, link-up count, and the faults of R147; of two the higher code is recorded (R149). -/
def Dev.goodFrame (d : Dev) (ch n w : Nat) : Dev :=
  let l := d.link ch
  let d := (d.put .ENG_HEAD_STAT_STAT (bitsOf w 95 80) n).put .ENG_HEAD_STAT_CODE (bitsOf w 127 112) n
  let good := if hasBit w 80 then l.good + 1 else 0
  let err := d.followErr ch n w
  let feX := if err.1 then l.feX + 1 else 0
  let feY := if err.2 then l.feY + 1 else 0
  let d := d.setLink ch { l with answered := true, bad := 0, good := good, feX := feX, feY := feY }
  if d.flag .ENG_STAT_LINK_UP n then
    let head := hasBit w 85 || !hasBit w 81
    if (4 ≤ feX ∨ 4 ≤ feY) ∧ d.drives = true then (if head then d.raise .ENG_STAT_HEAD_FAULT n else d).channelFault n 4 0x0550
    else if head then d.channelFault n 3 0x0550
    else d
  else if 16 ≤ good then d.raise .ENG_STAT_LINK_UP n
  else d

/-- A return frame of a bound channel: one whose CH_ECHO differs sets MISWIRE, be its CRC good or not (R145, R147). -/
def Dev.takeReturn (d : Dev) (ch n w crc : Nat) : Dev :=
  let l := d.link ch
  let good := decide (crc16 (leBytes 16 w) = crc)
  let d := if good && hasBit w 83 then d.bump .ENG_LINK_ERR_HEAD_CRC 1 n else d
  if bitsOf w 101 96 ≠ ch then
    if d.flag .ENG_STAT_LINK_UP n then d.channelFault n 2 0x0550 else d.raise .ENG_STAT_MISWIRE n
  else if good = false ∨ bitsOf w 79 72 ≠ (l.seq + 255) % 256 then d
  else d.goodFrame ch n w

/-- A head's return frame is taken, checked for CRC, sequence and channel, and its status acted on (R145 to R147). -/
def execReturnFrame (dt : Nat) (ch : Fin 32) (frame : Gran) (crc : BitVec 16) (s : State) :
    Host.Outcome State Fault Refusal :=
  s.act dt (fun d =>
    match d.engineOf ch with
    | some n => d.takeReturn ch n frame.toNat crc.toNat
    | none => d)

/-- A channel's link not up within 10 ms of being bound sets LINK_FAULT and faults the channel (R146). -/
def execLinkUpTimeout (dt : Nat) (ch : Fin 32) (s : State) : Host.Outcome State Fault Refusal :=
  s.act dt (fun d =>
    match d.engineOf ch with
    | some n =>
      d.when (!d.flag .ENG_STAT_LINK_UP n && !(d.link ch).faulted && decide ((d.link ch).since + 10 * qMs ≤ d.run))
        (fun d => d.channelFault n 1 0x0550)
    | none => d)

/-- LOSS_FRAMES consecutive slots without a good return frame set LINK_FAULT and fault the channel (R147). -/
def execLinkLossFault (dt : Nat) (ch : Fin 32) (s : State) : Host.Outcome State Fault Refusal :=
  s.act dt (fun d =>
    match d.engineOf ch with
    | some n =>
      d.when (d.flag .ENG_STAT_LINK_UP n && decide (d.get .ENG_LINK_CFG_LOSS_FRAMES n ≤ (d.link ch).bad))
        (fun d => d.channelFault n 1 0x0550)
    | none => d)

/-! ### The gate -/

/-- The compare unit takes the next grid position of the train in force, places its pulse or finds it behind, and
advances by STEP (R160 to R163). -/
def execGateCompareHit (dt : Nat) (n : Fin 34) (s : State) : Host.Outcome State Fault Refusal :=
  s.act dt (fun d => ((d.extendTo n (d.now + d.leadOf n)).compareHit n).flushGate n)

/-- The gate read-back of a channel differs from the level commanded for more than 20 ns outside an edge (R169). -/
def execGateMonFault (dt : Nat) (ch : Fin 32) (s : State) : Host.Outcome State Fault Refusal :=
  s.act dt (fun d =>
    match d.engineOf ch with
    | some n => d.channelFault n 5 0x0550
    | none => d)

/-- Whether an engine has every input it needs to advance: a record in progress, and no hold (R442). -/
def Dev.advancing (d : Dev) (n : Nat) : Bool := ((d.eng n).current d.now).isSome && d.mayStart n

/-- An engine that does not advance for 1 ms has its channel faulted with flag WDOG, and is taken out (R441 kind 5,
R149). -/
def execEngineProgressTimeout (dt : Nat) (n : Fin 34) (s : State) : Host.Outcome State Fault Refusal :=
  s.act dt (fun d =>
    d.when (d.advancing n && decide ((d.eng n).advanced + qMs ≤ d.run))
      (fun d => (d.channelFault n 6 0x0550).unitFault n 0 5))

end Sys2Proof.Machine
end

