-- ==== Sys2Proof/Machine/SysRegs.lean ====
section
/-! DEFINITION. The register map as hosts and the management port reach it (R3 to R5, R448 to R458, R478): the meanings of
REGISTER_WRITE, SYS_LOCK_SET, TIM_NOW_NS_READ, ENC_IDX_ERR_READ and READ. -/

namespace Sys2Proof.Machine

open Sys2Proof

/-! ### Values refused for a reason beyond their own range -/

/-- The value a field would have after a write: the written one where it is in range (R478). -/
def Dev.wouldBe (d : Dev) (f : Fld) (i j value : Nat) : Nat :=
  if f.inRange (f.of value) then f.of value else d.get f i j

/-- Fields whose range names another field of the same register, and whether a write leaves that range (R288, R260, R290, R399,
R228, the MPL_PWR_LIM table). -/
def Dev.crossBad (d : Dev) (r : Reg) (i j value : Nat) : List Fld :=
  let v (f : Fld) : Nat := d.wouldBe f i j value
  let bad (f : Fld) (c : Bool) : List Fld := if c then [f] else []
  match r with
  | .MPL_PWR_LIM => bad .MPL_PWR_LIM_P_MIN (decide (v .MPL_PWR_LIM_P_MAX < v .MPL_PWR_LIM_P_MIN))
  | .GRN_LOOK => bad .GRN_LOOK_FAR (decide (v .GRN_LOOK_FAR < v .GRN_LOOK_NEAR))
  | .VDR_DIM => bad .VDR_DIM_CEN_LEAD (decide (v .VDR_DIM_DIM_TICKS ≤ 2 * v .VDR_DIM_CEN_LEAD))
  | .AX_CUR => bad .AX_CUR_I_CEIL (decide (v .AX_CUR_I_CEIL < v .AX_CUR_I_BASE))
  | .AX_LA => bad .AX_LA_LA_HIGH (decide (v .AX_LA_LA_HIGH ≤ v .AX_LA_LA_LOW))
  | .DRM_SCHED =>
    let c := decide (v .DRM_SCHED_WQ_HIGH ≤ v .DRM_SCHED_WQ_LOW)
    bad .DRM_SCHED_WQ_LOW c ++ bad .DRM_SCHED_WQ_HIGH c
  | .TIM_PTP_CFG =>
    let s (f : Fld) : Int := sInt 4 (f.of value)
    bad .TIM_PTP_CFG_LOG_SYNC (decide (s .TIM_PTP_CFG_LOG_SYNC < -7 ∨ -3 < s .TIM_PTP_CFG_LOG_SYNC))
      ++ bad .TIM_PTP_CFG_LOG_PDELAY (decide (s .TIM_PTP_CFG_LOG_PDELAY < -3 ∨ 2 < s .TIM_PTP_CFG_LOG_PDELAY))
      ++ bad .TIM_PTP_CFG_LOG_ANNOUNCE (decide (s .TIM_PTP_CFG_LOG_ANNOUNCE < -3 ∨ 1 < s .TIM_PTP_CFG_LOG_ANNOUNCE))
  | .CAL_TAP_MAP => bad .CAL_TAP_MAP_TAP ((List.range 4).any (fun k => decide (71 < bitsOf value (8 * k + 7) (8 * k))))
  | _ => []

/-- A write of a register field by field, but for the fields of `crossBad` and of `skip`. -/
def Dev.writeFields (d : Dev) (r : Reg) (i j value : Nat) (skip : List Fld := []) : Dev :=
  let bad := d.crossBad r i j value
  r.fields.foldl (fun d f => if skip.contains f then d else if bad.contains f then d.reject r i else d.writeField f value i j) d

/-! ### Writes with an effect of their own -/

/-- Registers with a set for each class, whose sets 0 and 6 read 0 and ignore writes (R152, R216). -/
def classRegs : List Reg :=
  [.ENG_PULSE_SPC, .ENG_PULSE_PER, .ENG_PULSE_W, .ENG_PULSE_FIRST, .MPL_TARGET, .MPL_GAIN, .MPL_FB_LIM, .MPL_PWR_LIM, .MPL_INT]

def unusedSet (r : Reg) (j : Nat) : Bool := classRegs.contains r && (j == 0 || j == 6)

/-- Registers of a tile that take no write while it is attached (R253 and the VDR_ block). -/
def tileSetup : List Reg :=
  [.VNR_TILE_CFG, .VNR_BAND, .VNR_COMPAT_LINE, .VNR_COMPAT_FRAME, .VNR_COMPAT_SIZE, .VNR_ORG_X, .VNR_ORG_Y, .VNR_PITCH, .VDR_CFG,
   .VDR_DIM]

/-- Registers of a context that take no write while a capture is active. -/
def captureSetup : List Reg := [.CAM_CTX_SRC, .CAM_CTX_SIZE, .CAM_CTX_BUF, .CAM_STREAK_X, .CAM_STREAK_Y]

/-- Whether a write would leave the streak ROI narrower than R319 asks. -/
def Dev.roiBad (d : Dev) (r : Reg) (x value : Nat) : Bool :=
  let v (f : Fld) : Nat := if f.reg = r then d.wouldBe f x 0 value else d.get f x
  let w (lo hi : Fld) : Bool := decide ((v hi : Int) - v lo < 2 * v .CAM_STREAK_CFG_HALF + v .CAM_STREAK_CFG_STREAK_W - 1)
  [Reg.CAM_STREAK_X, .CAM_STREAK_Y, .CAM_STREAK_CFG].contains r
    && (if v .CAM_STREAK_CFG_AXIS = 0 then w .CAM_STREAK_X_LO .CAM_STREAK_X_HI else w .CAM_STREAK_Y_LO .CAM_STREAK_Y_HI)

/-- A write of V_MAX, ACCEL, DECEL or JERK: new limits for the next tick (R285). -/
def Dev.writeLimit (d : Dev) (r : Reg) (a value : Nat) : Dev :=
  let l := d.nextLims a
  let l : AxLims := match r with
    | .AX_VMAX => { l with vmax := Fld.of .AX_VMAX_V_MAX value }
    | .AX_ACCEL => { l with accel := value }
    | .AX_DECEL => { l with decel := value }
    | _ => { l with jerk := value }
  if d.limitsOk a l then d.modAxis a (fun x => { x with fresh := some l }) else d.reject r a

/-- A write of AX_CFG: ENABLE energises the axis or lets it go (R289). -/
def Dev.writeAxCfg (d : Dev) (a value : Nat) : Dev :=
  let d := d.writeFields .AX_CFG a 0 value [.AX_CFG_ENABLE]
  if Fld.of .AX_CFG_ENABLE value = d.get .AX_CFG_ENABLE a then d
  else if d.flag .AX_CFG_ENABLE a then d.axisDisable a else d.axisEnable a

/-- A write of ENC_CFG: ENABLE starts or stops counting (R296, R305). -/
def Dev.writeEncCfg (d : Dev) (e value : Nat) : Dev :=
  let d := d.writeFields .ENC_CFG e 0 value [.ENC_CFG_ENABLE]
  if Fld.of .ENC_CFG_ENABLE value = d.get .ENC_CFG_ENABLE e then d
  else if d.flag .ENC_CFG_ENABLE e then d.encDisable e else d.encEnable e

/-- A write of GRN_STEP: four fields of four bits, each 0 to 8. -/
def Dev.writeGrnStep (d : Dev) (value : Nat) : Dev :=
  (List.range 4).foldl (fun d m =>
    let v := bitsOf value (4 * m + 3) (4 * m)
    let w := d.get .GRN_STEP_STEP_LOG2
    if 8 < v then d.reject .GRN_STEP
    else d.put .GRN_STEP_STEP_LOG2 (w - bitsOf w (4 * m + 3) (4 * m) * 2 ^ (4 * m) + v * 2 ^ (4 * m))) d

/-- A write of HNG_CFG: PAIR_EN set starts the pair member in SYNCING; cleared, the device is unpaired (R354, R356, R357). -/
def Dev.writeHngCfg (d : Dev) (fn value : Nat) : Dev :=
  let was := d.paired
  let d := d.lockChecked fn .HNG_CFG 0 0 value (fun d => d.writeFields .HNG_CFG 0 0 value)
  if d.paired = was then d
  else if was then d.put .HNG_STAT_STATE 0
  else (d.put .HNG_STAT_STATE 3).modHinge (fun h => { h with since := d.run })

/-- A write of FAB_PORT_CFG: refused as a whole with a swing that R466 forbids; in force at once on a port that is down (R338). -/
def Dev.writePortCfg (d : Dev) (p value : Nat) : Dev :=
  let pre := Fld.of .FAB_PORT_CFG_TXEQ_PRE value
  let post := Fld.of .FAB_PORT_CFG_TXEQ_POST value
  if 16 < pre ∨ 24 < post ∨ 24 < pre + post then d.reject .FAB_PORT_CFG p
  else
    let d := d.writeFields .FAB_PORT_CFG p 0 value
    if d.portUp p then d else d.latchWhere (fun c => c.fld.reg == .FAB_PORT_CFG && c.i == p)

/-- BROKEN cleared by writing 1: the sensor is tested again from its next sample (R409). -/
def Dev.writeTemp (d : Dev) (k value : Nat) : Dev :=
  if d.flag .THM_TEMP_BROKEN k ∧ Fld.of .THM_TEMP_BROKEN value = 1 then
    ((d.lower .THM_TEMP_BROKEN k).setSensor k { d.sensor k with sampled := false, same := 0, base := [] }).showThermal
  else d

/-- A write of a CAL_ register: AUTO_COPY at once, every element as a new value (R420). -/
def Dev.writeCal (d : Dev) (r : Reg) (i j value : Nat) : Dev :=
  let bad := d.crossBad r i j value
  r.fields.foldl (fun d f =>
    if f.acc = .rw ∧ r ≠ .CAL_CFG then (if bad.contains f then d else d.newCal f (f.of value) i j)
    else d.writeField f value i j) d

/-- A write of WIN_FRZ_CTL: an unfreeze of a function or of a peer (R112). -/
def Dev.writeFrzCtl (d : Dev) (value : Nat) : Dev :=
  let f := Fld.of .WIN_FRZ_CTL_FUNC value
  let p := Fld.of .WIN_FRZ_CTL_PEER_ID value
  let k := Fld.of .WIN_FRZ_CTL_KIND value
  if k = 1 then d.releaseFn f
  else if k = 2 then d.put .WIN_PEER_FRZ_FROZEN (clearBit (d.get .WIN_PEER_FRZ_FROZEN (p / 32)) (p % 32)) (p / 32)
  else d

/-- A write of INT_VEC_CFG: in force at once while the vector is not active (R381). -/
def Dev.writeVecCfg (d : Dev) (f v value : Nat) : Dev :=
  let d := d.writeFields .INT_VEC_CFG f v value
  (if d.flag .INT_VEC_STAT_ACTIVE f v then d else d.latchVec f v).refreshVec f v

/-- The lock set by function 0; a write after that is ignored and is no violation (R455). -/
def Dev.setLock (d : Dev) : Dev := d.raise .SYS_LOCK_LOCK

/-! ### One register written -/

/-- A write to a register without an operation of its own: tile and capture set-up only while detached or idle, registers that
wait for an engine's rest, calibration registers, and the others at once (R4, R137, R153, R216, R291, R420). -/
def Dev.storePlain (d : Dev) (fn : Nat) (r : Reg) (i j value : Nat) : Dev :=
  if unusedSet r j then d
  else if tileSetup.contains r then (if d.attached i then d.reject r i else d.writeFields r i j value)
  else if captureSetup.contains r then
    (if d.flag .CAM_CTX_STAT_ACTIVE i ∨ d.roiBad r i value = true then d.reject r i else d.writeFields r i j value)
  else if 0x40000 ≤ r.place.base ∧ r.place.base < 0x50000 ∨ 0x90000 ≤ r.place.base ∧ r.place.base < 0xa0000 then
    (d.writeFields r i j value).restLatch i
  else if 0x160000 ≤ r.place.base ∧ r.place.base < 0x170000 then d.writeCal r i j value
  else d.lockChecked fn r i j value (fun d => d.writeFields r i j value)

/-- A write to a register of the camera, time, fabric, hinge, thermal or management block. -/
def Dev.storeSite (d : Dev) (fn : Nat) (r : Reg) (i j value : Nat) : Dev :=
  match r with
  | .CAM_INLINE => d.writeInline value
  | .CAM_PORT_CFG => (d.writeFields r i j value).settlePorts
  | .CAM_STREAK_CFG => if d.roiBad r i value then d.reject r i else d.writeFields r i j value
  | .TIM_CTL | .TIM_PORT_CFG => (d.writeFields r i j value).selectMaster
  | .FAB_CFG => d.writeFabCfg fn value
  | .FAB_PORT_CFG => d.writePortCfg i value
  | .HNG_CFG => d.writeHngCfg fn value
  | .THM_TEMP => d.writeTemp i value
  | .THM_GOV => if governed.contains i then d.writeFields r i j value else d
  | .MGT_TMO => (d.writeFields r i j value).showFetch
  | _ => d.storePlain fn r i j value

/-- A write to a register of the melt-pool, grain, tile, axis or encoder block. -/
def Dev.storeWork (d : Dev) (fn : Nat) (r : Reg) (i j value : Nat) : Dev :=
  match r with
  | .MPL_CFG =>
    let d := (d.writeFields r i j value).restLatch i
    if Fld.of .MPL_CFG_INT_CLR value = 1 then d.clearIntegrators i else d
  | .GRN_GEOM | .GRN_ORIGIN_X | .GRN_ORIGIN_Y => d.writeGeom r value
  | .GRN_CFG => let d := d.writeFields r i j value; { d with grain := { d.grain with refused := false } }
  | .GRN_STEP => d.writeGrnStep value
  | .GRN_DECAY => if i = d.get .GRN_STAT_MATERIAL_NOW then d.reject r else d.writeFields r i j value
  | .VDR_STOP_CTL => if value % 2 = 1 then d.clearStops i else d
  | .AX_CFG => d.writeAxCfg i value
  | .AX_VMAX | .AX_ACCEL | .AX_DECEL | .AX_JERK => d.writeLimit r i value
  | .AX_EDEC => if value < (d.nextLims i).decel then d.reject r i else d.writeFields r i j value
  | .AX_EJERK => if value < (d.nextLims i).jerk then d.reject r i else d.writeFields r i j value
  | .ENC_CFG => d.writeEncCfg i value
  | _ => d.storeSite fn r i j value

/-- A 32-bit write by function `fn` to instance `i`, `j` of a register (R4, R456, R478 and the rules of every chapter). -/
def Dev.storeReg (d : Dev) (fn : Nat) (r : Reg) (i j value : Nat) : Dev :=
  match r with
  | .SYS_LOCK => if value % 2 = 1 then d.setLock else d
  | .SYS_ISL_CFG => d.requestClock i value
  | .HIF_SQ_BASE_LO | .HIF_SQ_BASE_HI => d.writeRingBase r .HIF_SQ_CFG_ENABLE i j value
  | .HIF_CQ_BASE_LO | .HIF_CQ_BASE_HI => d.writeRingBase r .HIF_CQ_CFG_ENABLE i j value
  | .INT_EVQ_BASE_LO | .INT_EVQ_BASE_HI => d.writeRingBase r .INT_EVQ_CFG_ENABLE i 0 value
  | .HIF_SQ_CFG => d.writeSqCfg i j value
  | .HIF_CQ_CFG => d.writeCqCfg i j value
  | .INT_EVQ_CFG => d.writeEvqCfg i value
  | .HIF_DB_BASE_LO => d.writeDbBase i false value
  | .HIF_DB_BASE_HI => d.writeDbBase i true value
  | .HIF_POLL_CFG => d.writePoll i value
  | .WIN_BASE_LO | .WIN_BASE_HI | .WIN_CFG => d.writeWindow fn r i j value
  | .WIN_OWN_ENG_LO => d.writeOwn fn i 0 value
  | .WIN_OWN_ENG_HI => d.writeOwn fn i 1 value
  | .WIN_OWN_IO => d.writeOwn fn i 2 value
  | .WIN_OWN_CTX => d.writeOwn fn i 3 value
  | .WIN_STAGE => d.writeStage fn i value
  | .WIN_FRZ_CTL => d.writeFrzCtl value
  | .INT_VEC_CFG => d.writeVecCfg i j value
  | .SYS_BARRIER_CFG => (d.storePlain fn r i j value).recheckBarrier
  | _ => d.storeWork fn r i j value

/-! ### Where a function's access lands (R448 to R454) -/

/-- The address in function 0's map of an offset of a virtual function's BAR0, where its map holds one (R452). -/
def vfAddr (k off : Nat) : Option Nat :=
  if off ≤ 0x50f then some (0x10000 + 0x1000 * k + off)
  else if 0x1000 ≤ off ∧ off ≤ 0x10ff then some (0x20000 + 0x100 * k + (off - 0x1000))
  else if 0x2004 ≤ off ∧ off ≤ 0x200f then some (0x30000 + 0x400 * k + off)
  else if 0x2100 ≤ off ∧ off ≤ 0x22ff then some (0x30000 + 0x400 * k + off)
  else if 0xf000 ≤ off ∧ off ≤ 0xf00f then some (off - 0xf000)
  else none

/-- The address in function 0's map that a function reaches at an offset of its BAR0. -/
def barAddr (fn off : Nat) : Option Nat := if fn = 0 then some off else vfAddr fn off

/-- A write to the MSI-X table of a function: address, data and mask of a vector (R371, R451). The pending-bit array is
read-only; a write elsewhere in BAR2 is counted. -/
def Dev.writeTable (d : Dev) (fn off value : Nat) : Dev :=
  if off < 0x400 then
    let v := off / 16
    let x := d.vec fn v
    let k := off % 16 / 4
    d.setVec fn v (
      if k = 0 then { x with msgAddr := x.msgAddr / 2 ^ 32 * 2 ^ 32 + value }
      else if k = 1 then { x with msgAddr := x.msgAddr % 2 ^ 32 + value * 2 ^ 32 }
      else if k = 2 then { x with msgData := value }
      else { x with masked := value % 2 == 1 })
  else if 0x1000 ≤ off ∧ off < 0x1008 then d
  else d.bump .SYS_IGN_WR_UNMAPPED 1 fn

/-- One 32-bit write of a function (R3, R106, R453, R454). -/
def Dev.write32 (d : Dev) (fn : Nat) (bar2 : Bool) (off be value : Nat) : Dev :=
  d.byFn fn (fun d =>
    if be % 16 ≠ 15 ∨ off % 4 ≠ 0 then d.bump .SYS_IGN_WR_PARTIAL 1 fn
    else if bar2 then d.writeTable fn off value
    else match (barAddr fn off).bind regAt with
      | some (r, i, j) => d.storeReg fn r i j value
      | none => d.bump .SYS_IGN_WR_UNMAPPED 1 fn)

/-- REGISTER_WRITE: a request of a function to its BAR0 or BAR2, with its size and byte enables. Eight bytes are two 32-bit
accesses, the lower address first; more are aborted and counted (R3, R453). In recovery mode nothing takes a write (R437). -/
def execRegisterWrite (dt : Nat) (fn : Fin 8) (bar2 : Bool) (off : Nat) (size : Nat) (be : BitVec 8) (value : BitVec 64) (s : State) :
    Host.Outcome State Fault Refusal :=
  s.act dt (fun d =>
    d.when (!d.flag .MGT_STAT_RECOVERY) (fun d =>
      if 8 < size then d.byFn fn (fun d => d.bump .SYS_IGN_WR_PARTIAL 1 fn)
      else
        let lo := value.toNat % 2 ^ 32
        let hi := value.toNat / 2 ^ 32
        let d := d.write32 fn bar2 off (be.toNat % 16) lo
        if size = 8 then d.write32 fn bar2 (off + 4) (be.toNat / 16) hi else d))

/-- SYS_LOCK_SET: function 0 writes 1 to SYS_LOCK (R455). -/
def execSysLockSet (dt : Nat) (s : State) : Host.Outcome State Fault Refusal :=
  s.act dt (fun d => d.byFn 0 Dev.setLock)

/-! ### Reads (R331, R454) -/

/-- TIM_NOW: a read of the nanoseconds keeps seconds and fraction of the same instant (R331). -/
def Dev.snapNow (d : Dev) : Dev :=
  { d with mgmt := { d.mgmt with
    timLo := secOf d.now % 2 ^ 32, timHi := secOf d.now / 2 ^ 32 % 2 ^ 16 + fracOf d.now * 2 ^ 16 } }

/-- The slice that serves an engine's channel, 63 where it has none (R218). -/
def Dev.boundSlice (d : Dev) (n : Nat) : Nat :=
  let ch := d.get .ENG_STAT_BOUND_CH n
  if ch < 32 then d.get .MPL_SLICE_SLICE ch else 63

/-- A register as it reads, and what the read does (R331, R384, R425, R454). SIG of a zone and SLICE of an engine are worked out at the
read (R182, R218). -/
def Dev.readReg (d : Dev) (a : Nat) : Nat × Dev :=
  match regAt a with
  | none => (0, d)
  | some (r, i, j) =>
    match r with
    | .SYS_ISL_TOFS => (d.word r i j, d.put .SYS_ISL_TOFS_PEAK 0 i)
    | .TIM_NOW_NS => (nsOf d.now, d.snapNow)
    | .TIM_NOW_SEC_LO => (d.mgmt.timLo, d)
    | .TIM_NOW_SEC_HI => (d.mgmt.timHi, d)
    | .ENC_IDX_ERR => (d.word r i j, d.put .ENC_IDX_ERR_WORST 0 i)
    | .REC_OPSEC => (d.opTime / qSec % 2 ^ 32, d)
    | .REC_PCYC => (d.get .REC_PCYC_PCYC + d.opTime % qSec * 256 / qSec * 2 ^ 24, d)
    | .CAL_IMG_CRC => (crc32c (d.calImage.take 8188), d)
    | .SCF_ZONE_TIME => ((d.put .SCF_ZONE_TIME_SIG (d.zoneSig i j) i j).word r i j, d)
    | .MPL_STAT => ((d.put .MPL_STAT_SLICE (d.boundSlice i) i).word r i j, d)
    | .THM_GOV => (if governed.contains i then d.word r i j else d.get .THM_GOV_LEVEL i, d)
    | _ => (if unusedSet r j then 0 else d.word r i j, d)

/-- A read whose answer is kept as the data of the last register read. -/
def Dev.readAt (d : Dev) (a : Nat) : Dev :=
  let x := d.readReg a
  { x.2 with mgmt := { x.2.mgmt with readData := x.1 } }

/-- TIM_NOW_NS_READ (R331). -/
def execTimNowNsRead (dt : Nat) (s : State) : Host.Outcome State Fault Refusal :=
  s.act dt (fun d => d.readAt (Reg.addr .TIM_NOW_NS 0 0))

/-- ENC_IDX_ERR_READ: the read clears WORST. -/
def execEncIdxErrRead (dt : Nat) (e : Fin 8) (s : State) : Host.Outcome State Fault Refusal :=
  s.act dt (fun d => d.readAt (Reg.addr .ENC_IDX_ERR e 0))

/-- READ: the management port's read of one register of any block; it does not need MGMT_EN (R445). -/
def execRead (dt : Nat) (addr : Nat) (s : State) : Host.Outcome State Fault Refusal :=
  s.act dt (fun d => d.readAt addr)

end Sys2Proof.Machine
end

