-- ==== Sys2Proof/Machine/Dispatch.lean ====
section
/-! DEFINITION. One arm per command: a direct call of its meaning. -/

namespace Sys2Proof.Machine

open Sys2Proof

def exec (i : Instr) (s : State) : Host.Outcome State Fault Refusal :=
  match i with
  | .registerWrite dt fn bar2 off size be value => Sys2Proof.Machine.execRegisterWrite dt fn bar2 off size be value s
  | .sysLockSet dt => Sys2Proof.Machine.execSysLockSet dt s
  | .sysIslTofsRead dt n => Sys2Proof.Machine.execSysIslTofsRead dt n s
  | .timNowNsRead dt => Sys2Proof.Machine.execTimNowNsRead dt s
  | .encIdxErrRead dt e => Sys2Proof.Machine.execEncIdxErrRead dt e s
  | .sysIslCfgWrite dt n value => Sys2Proof.Machine.execSysIslCfgWrite dt n value s
  | .islandRelockDone dt n => Sys2Proof.Machine.execIslandRelockDone dt n s
  | .dowelPulse dt offs => Sys2Proof.Machine.execDowelPulse dt offs s
  | .holdoverEntry dt n => Sys2Proof.Machine.execHoldoverEntry dt n s
  | .bridgeErr dt recv send => Sys2Proof.Machine.execBridgeErr dt recv send s
  | .safeStopAssert dt => Sys2Proof.Machine.execSafeStopAssert dt s
  | .safeStopEnd dt => Sys2Proof.Machine.execSafeStopEnd dt s
  | .gasOkLow dt => Sys2Proof.Machine.execGasOkLow dt s
  | .gasOkHigh dt => Sys2Proof.Machine.execGasOkHigh dt s
  | .layerOpen dt job => Sys2Proof.Machine.execLayerOpen dt job s
  | .epochSweepDone dt => Sys2Proof.Machine.execEpochSweepDone dt s
  | .layerMark dt job => Sys2Proof.Machine.execLayerMark dt job s
  | .phaseEnd dt => Sys2Proof.Machine.execPhaseEnd dt s
  | .exposeStart dt => Sys2Proof.Machine.execExposeStart dt s
  | .layerClose dt job => Sys2Proof.Machine.execLayerClose dt job s
  | .layerResume dt job => Sys2Proof.Machine.execLayerResume dt job s
  | .barrierReady dt dev payload => Sys2Proof.Machine.execBarrierReady dt dev payload s
  | .barrierRelease dt => Sys2Proof.Machine.execBarrierRelease dt s
  | .barrierWaitReminder dt => Sys2Proof.Machine.execBarrierWaitReminder dt s
  | .midLayerRebase dt => Sys2Proof.Machine.execMidLayerRebase dt s
  | .rebaseSweepStart dt => Sys2Proof.Machine.execRebaseSweepStart dt s
  | .sqEnable dt w fn r value => Sys2Proof.Machine.execSqEnable dt w fn r value s
  | .sqDisable dt w fn r => Sys2Proof.Machine.execSqDisable dt w fn r s
  | .cqEnable dt w fn c value => Sys2Proof.Machine.execCqEnable dt w fn c value s
  | .cqDisable dt w fn c => Sys2Proof.Machine.execCqDisable dt w fn c s
  | .dbBaseWrite dt w fn hi value => Sys2Proof.Machine.execDbBaseWrite dt w fn hi value s
  | .pollEnable dt w fn value => Sys2Proof.Machine.execPollEnable dt w fn value s
  | .doorbellPoll dt fn => Sys2Proof.Machine.execDoorbellPoll dt fn s
  | .pollSnapshot dt fn page => Sys2Proof.Machine.execPollSnapshot dt fn page s
  | .pollFailTimeout dt fn => Sys2Proof.Machine.execPollFailTimeout dt fn s
  | .descriptorFetch dt fn head => Sys2Proof.Machine.execDescriptorFetch dt fn head s
  | .slotsStaged dt fn r slots => Sys2Proof.Machine.execSlotsStaged dt fn r slots s
  | .payloadStaged dt job data => Sys2Proof.Machine.execPayloadStaged dt job data s
  | .descriptorDispatch dt job => Sys2Proof.Machine.execDescriptorDispatch dt job s
  | .descriptorTake dt job => Sys2Proof.Machine.execDescriptorTake dt job s
  | .completionWrite dt fn => Sys2Proof.Machine.execCompletionWrite dt fn s
  | .busMasterDisable dt fn => Sys2Proof.Machine.execBusMasterDisable dt fn s
  | .busMasterEnable dt fn => Sys2Proof.Machine.execBusMasterEnable dt fn s
  | .vfDisable dt => Sys2Proof.Machine.execVfDisable dt s
  | .winOwnWrite dt fn k value => Sys2Proof.Machine.execWinOwnWrite dt fn k value s
  | .winCfgWrite dt w fn win value => Sys2Proof.Machine.execWinCfgWrite dt w fn win value s
  | .winStageWrite dt fn value => Sys2Proof.Machine.execWinStageWrite dt fn value s
  | .moverStart dt => Sys2Proof.Machine.execMoverStart dt s
  | .fifoRefillDone dt n => Sys2Proof.Machine.execFifoRefillDone dt n s
  | .freezeGateTimeout dt fn => Sys2Proof.Machine.execFreezeGateTimeout dt fn s
  | .freezeSafe dt fn => Sys2Proof.Machine.execFreezeSafe dt fn s
  | .unfreezeFunction dt fn => Sys2Proof.Machine.execUnfreezeFunction dt fn s
  | .unfreezePeer dt dev => Sys2Proof.Machine.execUnfreezePeer dt dev s
  | .vecBlock dt job => Sys2Proof.Machine.execVecBlock dt job s
  | .vecInline dt job => Sys2Proof.Machine.execVecInline dt job s
  | .engPark dt job => Sys2Proof.Machine.execEngPark dt job s
  | .engLimits dt job => Sys2Proof.Machine.execEngLimits dt job s
  | .recordEnterLookahead dt n => Sys2Proof.Machine.execRecordEnterLookahead dt n s
  | .kerfRequest dt n => Sys2Proof.Machine.execKerfRequest dt n s
  | .recordStart dt n => Sys2Proof.Machine.execRecordStart dt n s
  | .recordEnd dt n => Sys2Proof.Machine.execRecordEnd dt n s
  | .parkDone dt n => Sys2Proof.Machine.execParkDone dt n s
  | .setpointFrame dt => Sys2Proof.Machine.execSetpointFrame dt s
  | .returnFrame dt ch frame crc => Sys2Proof.Machine.execReturnFrame dt ch frame crc s
  | .linkUpTimeout dt ch => Sys2Proof.Machine.execLinkUpTimeout dt ch s
  | .linkLossFault dt ch => Sys2Proof.Machine.execLinkLossFault dt ch s
  | .gateCompareHit dt n => Sys2Proof.Machine.execGateCompareHit dt n s
  | .gateMonFault dt ch => Sys2Proof.Machine.execGateMonFault dt ch s
  | .corLoad dt job => Sys2Proof.Machine.execCorLoad dt job s
  | .corLoadDone dt n => Sys2Proof.Machine.execCorLoadDone dt n s
  | .corSwap dt job => Sys2Proof.Machine.execCorSwap dt job s
  | .corBankSwap dt n => Sys2Proof.Machine.execCorBankSwap dt n s
  | .corSave dt job => Sys2Proof.Machine.execCorSave dt job s
  | .corEccError dt n active => Sys2Proof.Machine.execCorEccError dt n active s
  | .scarfYield dt n => Sys2Proof.Machine.execScarfYield dt n s
  | .scarfNotice dt dev payload => Sys2Proof.Machine.execScarfNotice dt dev payload s
  | .takeoverPass dt n => Sys2Proof.Machine.execTakeoverPass dt n s
  | .scarfContactLoss dt n z => Sys2Proof.Machine.execScarfContactLoss dt n z s
  | .kerfGrant dt n => Sys2Proof.Machine.execKerfGrant dt n s
  | .requestStarving dt n => Sys2Proof.Machine.execRequestStarving dt n s
  | .reorderUnit dt n => Sys2Proof.Machine.execReorderUnit dt n s
  | .kerfHaloSend dt => Sys2Proof.Machine.execKerfHaloSend dt s
  | .kerfHalo dt dev payload => Sys2Proof.Machine.execKerfHalo dt dev payload s
  | .grantArmed dt n => Sys2Proof.Machine.execGrantArmed dt n s
  | .kerfPeerSilent dt k => Sys2Proof.Machine.execKerfPeerSilent dt k s
  | .frozenClaimExpire dt dev eng => Sys2Proof.Machine.execFrozenClaimExpire dt dev eng s
  | .meltPoolTick dt n samples => Sys2Proof.Machine.execMeltPoolTick dt n samples s
  | .feedbackLost dt n => Sys2Proof.Machine.execFeedbackLost dt n s
  | .intClr dt n => Sys2Proof.Machine.execIntClr dt n s
  | .grnGeomWrite dt k value => Sys2Proof.Machine.execGrnGeomWrite dt k value s
  | .grainHaloSend dt => Sys2Proof.Machine.execGrainHaloSend dt s
  | .grainHalo dt dev payload => Sys2Proof.Machine.execGrainHalo dt dev payload s
  | .grainPeerSilent dt k => Sys2Proof.Machine.execGrainPeerSilent dt k s
  | .grnSave dt job => Sys2Proof.Machine.execGrnSave dt job s
  | .grnLoad dt job => Sys2Proof.Machine.execGrnLoad dt job s
  | .vnrFrame dt job => Sys2Proof.Machine.execVnrFrame dt job s
  | .vnrAttach dt job => Sys2Proof.Machine.execVnrAttach dt job s
  | .vnrDetach dt job => Sys2Proof.Machine.execVnrDetach dt job s
  | .veneerSlotStart dt t => Sys2Proof.Machine.execVeneerSlotStart dt t s
  | .veneerLinePeriod dt t => Sys2Proof.Machine.execVeneerLinePeriod dt t s
  | .frameSendDone dt t => Sys2Proof.Machine.execFrameSendDone dt t s
  | .lineBufferEccError dt t => Sys2Proof.Machine.execLineBufferEccError dt t s
  | .tileStatus dt t packet => Sys2Proof.Machine.execTileStatus dt t packet s
  | .tileLinkFault dt t => Sys2Proof.Machine.execTileLinkFault dt t s
  | .tileAlarm dt t packet => Sys2Proof.Machine.execTileAlarm dt t packet s
  | .tileVolt dt t packet => Sys2Proof.Machine.execTileVolt dt t packet s
  | .probeSweep dt t => Sys2Proof.Machine.execProbeSweep dt t s
  | .probeResult dt t packet => Sys2Proof.Machine.execProbeResult dt t packet s
  | .stopListClear dt t => Sys2Proof.Machine.execStopListClear dt t s
  | .veneerDeposit dt t => Sys2Proof.Machine.execVeneerDeposit dt t s
  | .axMove dt job => Sys2Proof.Machine.execAxMove dt job s
  | .axHome dt job => Sys2Proof.Machine.execAxHome dt job s
  | .axStop dt job => Sys2Proof.Machine.execAxStop dt job s
  | .axLimits dt job => Sys2Proof.Machine.execAxLimits dt job s
  | .axisMoveDone dt a => Sys2Proof.Machine.execAxisMoveDone dt a s
  | .stall dt a => Sys2Proof.Machine.execStall dt a s
  | .coilFault dt a overcurrent => Sys2Proof.Machine.execCoilFault dt a overcurrent s
  | .homePressDone dt a => Sys2Proof.Machine.execHomePressDone dt a s
  | .homeNoStop dt a => Sys2Proof.Machine.execHomeNoStop dt a s
  | .holdDelayExpire dt a => Sys2Proof.Machine.execHoldDelayExpire dt a s
  | .axisEnable dt a => Sys2Proof.Machine.execAxisEnable dt a s
  | .axisDisable dt a => Sys2Proof.Machine.execAxisDisable dt a s
  | .encoderEdge dt e a b width => Sys2Proof.Machine.execEncoderEdge dt e a b width s
  | .encCmpPulseEnd dt e => Sys2Proof.Machine.execEncCmpPulseEnd dt e s
  | .encoderIndex dt e a b => Sys2Proof.Machine.execEncoderIndex dt e a b s
  | .encoderStandstill dt e => Sys2Proof.Machine.execEncoderStandstill dt e s
  | .followError dt e => Sys2Proof.Machine.execFollowError dt e s
  | .encCmp dt job => Sys2Proof.Machine.execEncCmp dt job s
  | .encCmpStop dt job => Sys2Proof.Machine.execEncCmpStop dt job s
  | .encSync dt job => Sys2Proof.Machine.execEncSync dt job s
  | .encoderEnable dt e => Sys2Proof.Machine.execEncoderEnable dt e s
  | .encoderDisable dt e => Sys2Proof.Machine.execEncoderDisable dt e s
  | .camCapture dt job => Sys2Proof.Machine.execCamCapture dt job s
  | .camReproc dt job => Sys2Proof.Machine.execCamReproc dt job s
  | .camTable dt job => Sys2Proof.Machine.execCamTable dt job s
  | .camStop dt job => Sys2Proof.Machine.execCamStop dt job s
  | .camTrigger dt x => Sys2Proof.Machine.execCamTrigger dt x s
  | .csiFrameStart dt p vc => Sys2Proof.Machine.execCsiFrameStart dt p vc s
  | .csiLine dt p header data crc => Sys2Proof.Machine.execCsiLine dt p header data crc s
  | .csiFrameEnd dt p vc => Sys2Proof.Machine.execCsiFrameEnd dt p vc s
  | .camFrameTimeout dt x => Sys2Proof.Machine.execCamFrameTimeout dt x s
  | .camPortReset dt p => Sys2Proof.Machine.execCamPortReset dt p s
  | .pipelineEntryStart dt => Sys2Proof.Machine.execPipelineEntryStart dt s
  | .pipelineFrameDone dt x => Sys2Proof.Machine.execPipelineFrameDone dt x s
  | .camInlineWrite dt value => Sys2Proof.Machine.execCamInlineWrite dt value s
  | .ptpSync dt p msg => Sys2Proof.Machine.execPtpSync dt p msg s
  | .ptpAnnounce dt p msg => Sys2Proof.Machine.execPtpAnnounce dt p msg s
  | .ptpPdelayReq dt p msg => Sys2Proof.Machine.execPtpPdelayReq dt p msg s
  | .ptpPdelayResp dt p msg => Sys2Proof.Machine.execPtpPdelayResp dt p msg s
  | .ptpSyncSend dt => Sys2Proof.Machine.execPtpSyncSend dt s
  | .ptpAnnounceSend dt => Sys2Proof.Machine.execPtpAnnounceSend dt s
  | .ptpPdelaySend dt p => Sys2Proof.Machine.execPtpPdelaySend dt p s
  | .ptpAnnounceTimeout dt => Sys2Proof.Machine.execPtpAnnounceTimeout dt s
  | .timPulse dt job => Sys2Proof.Machine.execTimPulse dt job s
  | .timCapture dt job => Sys2Proof.Machine.execTimCapture dt job s
  | .timSet dt job => Sys2Proof.Machine.execTimSet dt job s
  | .timepulseRise dt k => Sys2Proof.Machine.execTimepulseRise dt k s
  | .timepulseFall dt k => Sys2Proof.Machine.execTimepulseFall dt k s
  | .timecaptureEdge dt k rising => Sys2Proof.Machine.execTimecaptureEdge dt k rising s
  | .fabricLaunch dt p => Sys2Proof.Machine.execFabricLaunch dt p s
  | .hello dt p payload => Sys2Proof.Machine.execHello dt p payload s
  | .helloSend dt p => Sys2Proof.Machine.execHelloSend dt p s
  | .neighbourLost dt p => Sys2Proof.Machine.execNeighbourLost dt p s
  | .blockLockLost dt p => Sys2Proof.Machine.execBlockLockLost dt p s
  | .blockLockGained dt p => Sys2Proof.Machine.execBlockLockGained dt p s
  | .route dt p payload => Sys2Proof.Machine.execRoute dt p payload s
  | .routeSend dt => Sys2Proof.Machine.execRouteSend dt s
  | .joinEnable dt value => Sys2Proof.Machine.execJoinEnable dt value s
  | .claimDone dt => Sys2Proof.Machine.execClaimDone dt s
  | .broadcastRepeat dt => Sys2Proof.Machine.execBroadcastRepeat dt s
  | .join dt dev payload => Sys2Proof.Machine.execJoin dt dev payload s
  | .leave dt dev => Sys2Proof.Machine.execLeave dt dev s
  | .fabForward dt p header payload => Sys2Proof.Machine.execFabForward dt p header payload s
  | .fabWrite dt job => Sys2Proof.Machine.execFabWrite dt job s
  | .bulkWrite dt header payload => Sys2Proof.Machine.execBulkWrite dt header payload s
  | .bulkAck dt dev payload => Sys2Proof.Machine.execBulkAck dt dev payload s
  | .bulkResendTimeout dt job => Sys2Proof.Machine.execBulkResendTimeout dt job s
  | .fabLeave dt job => Sys2Proof.Machine.execFabLeave dt job s
  | .leaveDone dt => Sys2Proof.Machine.execLeaveDone dt s
  | .fabEvict dt job => Sys2Proof.Machine.execFabEvict dt job s
  | .fenceInAssert dt => Sys2Proof.Machine.execFenceInAssert dt s
  | .fenceInRelease dt => Sys2Proof.Machine.execFenceInRelease dt s
  | .hingeStartupTimeout dt => Sys2Proof.Machine.execHingeStartupTimeout dt s
  | .mirrorCapture dt => Sys2Proof.Machine.execMirrorCapture dt s
  | .heartbeatSend dt => Sys2Proof.Machine.execHeartbeatSend dt s
  | .mirror dt pathB payload => Sys2Proof.Machine.execMirror dt pathB payload s
  | .heartbeat dt payload => Sys2Proof.Machine.execHeartbeat dt payload s
  | .hingePathLost dt pathB => Sys2Proof.Machine.execHingePathLost dt pathB s
  | .switchoverOwnRaise dt ownInLow => Sys2Proof.Machine.execSwitchoverOwnRaise dt ownInLow s
  | .takeover dt dev payload => Sys2Proof.Machine.execTakeover dt dev payload s
  | .healthReport dt => Sys2Proof.Machine.execHealthReport dt s
  | .health dt payload => Sys2Proof.Machine.execHealth dt payload s
  | .standbyBistDone dt n ok => Sys2Proof.Machine.execStandbyBistDone dt n ok s
  | .snapshot dt payload => Sys2Proof.Machine.execSnapshot dt payload s
  | .grainCopy dt payload => Sys2Proof.Machine.execGrainCopy dt payload s
  | .hngHandover dt job => Sys2Proof.Machine.execHngHandover dt job s
  | .hngRelease dt job => Sys2Proof.Machine.execHngRelease dt job s
  | .vectorEntry dt fn => Sys2Proof.Machine.execVectorEntry dt fn s
  | .moderationExpire dt fn v => Sys2Proof.Machine.execModerationExpire dt fn v s
  | .intHoldWrite dt fn hold => Sys2Proof.Machine.execIntHoldWrite dt fn hold s
  | .msixUnmask dt fn v => Sys2Proof.Machine.execMsixUnmask dt fn v s
  | .evqEnable dt w fn value => Sys2Proof.Machine.execEvqEnable dt w fn value s
  | .irqEvent dt dev payload => Sys2Proof.Machine.execIrqEvent dt dev payload s
  | .logRecordWrite dt ok => Sys2Proof.Machine.execLogRecordWrite dt ok s
  | .opsecSave dt => Sys2Proof.Machine.execOpsecSave dt s
  | .logScanDone dt => Sys2Proof.Machine.execLogScanDone dt s
  | .peerLog dt dev payload => Sys2Proof.Machine.execPeerLog dt dev payload s
  | .recRead dt job => Sys2Proof.Machine.execRecRead dt job s
  | .recClear dt job => Sys2Proof.Machine.execRecClear dt job s
  | .dramRequest dt c write cls burst data => Sys2Proof.Machine.execDramRequest dt c write cls burst data s
  | .dramRequestServed dt c ecc => Sys2Proof.Machine.execDramRequestServed dt c ecc s
  | .refreshRateRead dt c sub code outOfRange drift => Sys2Proof.Machine.execRefreshRateRead dt c sub code outOfRange drift s
  | .dramRefresh dt c sub bank => Sys2Proof.Machine.execDramRefresh dt c sub bank s
  | .patrolScrub dt c ecc => Sys2Proof.Machine.execPatrolScrub dt c ecc s
  | .dramRetrainDone dt c ok => Sys2Proof.Machine.execDramRetrainDone dt c ok s
  | .dramCmdTimeout dt c => Sys2Proof.Machine.execDramCmdTimeout dt c s
  | .thermalSample dt raw => Sys2Proof.Machine.execThermalSample dt raw s
  | .governorStep dt => Sys2Proof.Machine.execGovernorStep dt s
  | .thermalGraceExpire dt => Sys2Proof.Machine.execThermalGraceExpire dt s
  | .thmRelease dt job => Sys2Proof.Machine.execThmRelease dt job s
  | .calRun dt job => Sys2Proof.Machine.execCalRun dt job s
  | .calSave dt job => Sys2Proof.Machine.execCalSave dt job s
  | .calLoad dt job => Sys2Proof.Machine.execCalLoad dt job s
  | .coverCopyDone dt k ok => Sys2Proof.Machine.execCoverCopyDone dt k ok s
  | .coverBegin dt k => Sys2Proof.Machine.execCoverBegin dt k s
  | .calibrationDone dt u ok measured => Sys2Proof.Machine.execCalibrationDone dt u ok measured s
  | .coverEnd dt k => Sys2Proof.Machine.execCoverEnd dt k s
  | .powerOnReset dt => Sys2Proof.Machine.execPowerOnReset dt s
  | .pinReset dt => Sys2Proof.Machine.execPinReset dt s
  | .perstAssert dt => Sys2Proof.Machine.execPerstAssert dt s
  | .functionLevelReset dt fn => Sys2Proof.Machine.execFunctionLevelReset dt fn s
  | .unitFault dt u cause => Sys2Proof.Machine.execUnitFault dt u cause s
  | .unitSelfTestDone dt u ok => Sys2Proof.Machine.execUnitSelfTestDone dt u ok s
  | .fetchTimeout dt job => Sys2Proof.Machine.execFetchTimeout dt job s
  | .engineProgressTimeout dt n => Sys2Proof.Machine.execEngineProgressTimeout dt n s
  | .veneerDeadlineTimeout dt t => Sys2Proof.Machine.execVeneerDeadlineTimeout dt t s
  | .pcieCompletionTimeout dt job => Sys2Proof.Machine.execPcieCompletionTimeout dt job s
  | .mgmtWatchdogExpire dt controller otherSilent => Sys2Proof.Machine.execMgmtWatchdogExpire dt controller otherSilent s
  | .read dt addr => Sys2Proof.Machine.execRead dt addr s
  | .writeBootcfg dt cfg => Sys2Proof.Machine.execWriteBootcfg dt cfg s
  | .releaseF0 dt => Sys2Proof.Machine.execReleaseF0 dt s
  | .clearFatal dt => Sys2Proof.Machine.execClearFatal dt s
  | .deviceReset dt => Sys2Proof.Machine.execDeviceReset dt s
  | .slotWrite dt slot page data => Sys2Proof.Machine.execSlotWrite dt slot page data s
  | .slotSelect dt slot commit => Sys2Proof.Machine.execSlotSelect dt slot commit s
  | .mgtFwUpdate dt job => Sys2Proof.Machine.execMgtFwUpdate dt job s
  | .fwUpdateDone dt ok => Sys2Proof.Machine.execFwUpdateDone dt ok s
  | .mgtFwSelect dt job => Sys2Proof.Machine.execMgtFwSelect dt job s
  | .mgtUnit dt job => Sys2Proof.Machine.execMgtUnit dt job s
  | .railUndervolt dt rail => Sys2Proof.Machine.execRailUndervolt dt rail s
  | .refclkAbsent dt ref => Sys2Proof.Machine.execRefclkAbsent dt ref s
  | .refclkReturn dt ref => Sys2Proof.Machine.execRefclkReturn dt ref s
  | .resetRelease dt straps cal dowels dramOk => Sys2Proof.Machine.execResetRelease dt straps cal dowels dramOk s
  | .perstRelease dt => Sys2Proof.Machine.execPerstRelease dt s
  | .axisTick dt => Sys2Proof.Machine.execAxisTick dt s
  | .coilLoopPeriod dt a ia ib => Sys2Proof.Machine.execCoilLoopPeriod dt a ia ib s
  | .attachLinkTimeout dt t => Sys2Proof.Machine.execAttachLinkTimeout dt t s
  | .routeAgeOut dt p dev => Sys2Proof.Machine.execRouteAgeOut dt p dev s

end Sys2Proof.Machine
end

