-- ==== Sys2Proof/Machine/Step.lean ====
section
/-! DEFINITION. One step of the block: the command at the front of the queue is executed with the queue's rest; an
empty queue idles. -/

namespace Sys2Proof.Machine

open Sys2Proof

/-- One step: the front command executed on the state with the queue's rest; with no command waiting the block idles
and the state stays (DESIGN CHOICE, log entry 1: time passes only with commands, each of which carries it). -/
def step (s : State) : Host.Outcome State Fault Refusal :=
  match s.pending with
  | [] => .next s
  | c :: rest => exec c { s with pending := rest }

/-- No row of the opcode table has bits, so no word spells a command and the queue stays. -/
def State.withFetchWord (s : State) (nbits w : Nat) : State :=
  match decodeTableWord nbits w with
  | some c => { s with pending := c :: s.pending }
  | none => s

end Sys2Proof.Machine
end

