-- ==== Sys2Proof/Safety.lean ====
section
/-! DEFINITION. What a safe run is: every step goes on, and every table of the state stays in its canonical form. And the words
that the statements are written in. -/

namespace Sys2Proof.Machine

open Sys2Proof

/-- Every table of the device is in its canonical form: keys strictly rising and no entry equal to what an unlisted key reads
as; a register cell also within its field's width. Equal contents are then equal data. -/
structure Dev.canonical (d : Dev) : Prop where
  regs : cellsWf d.regs = true
  force : cellsWf d.force = true
  host : Bytes.wf d.host = true
  dram : Bytes.wf d.dram = true
  flash : Bytes.wf d.flash = true
  hostFns : Tab.wf {} d.hostFns = true
  movers : Tab.wf none d.movers = true
  srcs : Tab.wf {} d.srcs = true
  vecs : Tab.wf {} d.vecs = true
  islands : Tab.wf {} d.islands = true
  dramCh : Tab.wf {} d.dramCh = true
  sensors : Tab.wf {} d.sensors = true
  fabSeq : Tab.wf 0 d.fabSeq = true
  engines : Tab.wf {} d.engines = true
  links : Tab.wf {} d.links = true
  tiles : Tab.wf {} d.tiles = true
  axes : Tab.wf {} d.axes = true
  encs : Tab.wf {} d.encs = true
  pulses : Tab.wf {} d.pulses = true
  capts : Tab.wf {} d.capts = true
  cams : Tab.wf {} d.cams = true
  camPorts : Tab.wf {} d.camPorts = true

/-- A state whose device is in canonical form. -/
def State.canonical (s : State) : Prop := s.dev.canonical

/-- A step goes on: the block has no fault and no refusal of its own. -/
def Goes (s : State) : Prop := ∃ s', step s = .next s'

/-! ### The words of the statements -/

/-- A command answers a next state whose device meets `P`, with the queue of waiting commands as it was. -/
def Answers (c : Instr) (s : State) (P : Dev → Prop) : Prop :=
  ∃ t, exec c s = .next t ∧ t.pending = s.pending ∧ P t.dev

/-- No register field instance but the named ones reads differently. -/
def Dev.OnlyAt (d d' : Dev) (fs : List (Fld × Nat × Nat)) : Prop := ∀ f i j, (f, i, j) ∉ fs → d'.get f i j = d.get f i j

/-- No field of a register other than the named ones reads differently. -/
def Dev.OnlyIn (d d' : Dev) (rs : List Reg) : Prop := ∀ f i j, f.reg ∉ rs → d'.get f i j = d.get f i j

/-- Every byte of host memory, of DRAM and of the firmware flash reads as before. -/
def Dev.SameMem (d d' : Dev) : Prop :=
  ∀ a, d'.host.read a = d.host.read a ∧ d'.dram.read a = d.dram.read a ∧ d'.flash.read a = d.flash.read a

/-- A descriptor that its target has taken and that ends with a completion entry of its own: it has that opcode, no code stands
against it, it is no replay, its function has been neither reset nor frozen, its entry is not suppressed, and its slots are not
kept for a replay (R73, R76, R86, R100, R107). -/
structure Dev.Takes (d : Dev) (id op : Nat) (j : Job) : Prop where
  held : d.job id = some j
  opcode : j.opcode = op
  taken : j.status = .taken
  code : j.code = none
  replay : j.replay = false
  orphan : j.orphan = false
  entry : j.noCqeOk = false
  kept : d.replayKept j = false
  live : d.frozen j.fn = false

/-- A descriptor has completed with a code: the device holds it no longer, and its completion entry waits in HOST with its ring,
slot, sequence number, opcode and target (R80). -/
structure Dev.Done (d : Dev) (j : Job) (code : Nat) : Prop where
  gone : d.job j.id = none
  entry : ∃ e ∈ (d.fn j.fn).waiting, e.ring = j.ring ∧ e.slot = j.slot ∧ e.sequence = j.sequence ∧ e.status = code
    ∧ e.opcode = j.opcode ∧ e.target = j.target

/-- A taken descriptor is in execution since an instant. -/
def Dev.Begun (d : Dev) (j : Job) (t : Nat) : Prop := d.job j.id = some { j with status := .executing, started := t }

/-- No two functions own one engine, tile, axis or camera context (R92). -/
def Dev.ownedOnce (d : Dev) : Prop :=
  ∀ F ∈ ownFields, ∀ f g n, f < 8 → g < 8 → hasBit (d.get F f) n = true → hasBit (d.get F g) n = true → f = g

/-- A recorder record of a code and severity waits for MRAM (R387). -/
def Dev.Recorded (d : Dev) (code sev : Nat) : Prop := ∃ r ∈ d.recorder.queue, r.code = code ∧ r.sev = sev

end Sys2Proof.Machine
end

