-- ==== Sys2Proof/WellFormed.lean ====
section
/-! DEFINITION. When the operands of a command are ones that the outside world can present: the checks the meanings take for
granted, one Bool per command. Commands that carry only indices of units are well formed by their types. -/

namespace Sys2Proof

/-- A function writes its own registers or function 0 writes them (R98, R450, R452). -/
def writerOk (w fn : Fin 8) : Bool := w == 0 || w == fn

/-- A Tvedx payload holds at most 92 granules (R340). -/
def payloadOk (p : List Gran) : Bool := decide (p.length ≤ 92)

/-- The boot configuration's fields fit their places (R436). -/
def BootCfg.wellFormed (c : BootCfg) : Bool :=
  decide (c.bootSlot < 2 ∧ c.i2cAddr < 128 ∧ c.subsysVendor < 65536 ∧ c.subsysId < 65536 ∧ c.reqId < 1024 ∧ c.dev0 ≤ 4 ∧ c.dev1 ≤ 4
    ∧ c.rate ≤ 2 ∧ c.order < 4 ∧ c.sensorOffset.length ≤ 64 ∧ c.sensorGain.length ≤ 64)

/-- The extent of a BAR: 16 MB and 8 KB of function 0, 64 KB and 8 KB of a virtual function (R448). -/
def barBytes (fn : Fin 8) (bar2 : Bool) : Nat := if bar2 then 8192 else if fn = 0 then 2 ^ 24 else 2 ^ 16

/-- Whether a command's operands are ones the outside world can present. -/
def Instr.wellFormed : Instr → Bool
  | .registerWrite _ fn bar2 off size be _ =>
    decide (0 < size ∧ off + size ≤ barBytes fn bar2) && (decide (4 < size) || decide (be.toNat < 16))
  | .dowelPulse _ offs => decide (offs.map Prod.fst).Nodup
  | .barrierReady _ _ p | .scarfNotice _ _ p | .kerfHalo _ _ p | .grainHalo _ _ p | .hello _ _ p | .route _ _ p | .join _ _ p
  | .bulkAck _ _ p | .takeover _ _ p | .irqEvent _ _ p | .peerLog _ _ p | .heartbeat _ p | .health _ p | .snapshot _ p
  | .grainCopy _ p | .mirror _ _ p | .fabForward _ _ _ p | .bulkWrite _ _ p => payloadOk p
  | .sqEnable _ w fn _ _ | .sqDisable _ w fn _ | .cqEnable _ w fn _ _ | .cqDisable _ w fn _ | .dbBaseWrite _ w fn _ _
  | .pollEnable _ w fn _ | .winCfgWrite _ w fn _ _ | .evqEnable _ w fn _ => writerOk w fn
  | .pollSnapshot _ _ page => page.all (fun ws => ws.length == 192)
  | .slotsStaged _ _ _ slots => slots.length % 4 == 0
  | .meltPoolTick _ _ samples => samples.length == 20
  | .dramRequest _ _ write _ burst data => data.length == (if write then 64 else 0) && decide (burst < 2 ^ 29)
  | .thermalSample _ raw => raw.length == 64
  | .slotWrite _ _ page data => decide (page < 32768) && data.length == 256
  | .writeBootcfg _ cfg => cfg.wellFormed
  | .railUndervolt _ rail => decide (rail < 11)
  | .refclkAbsent _ ref | .refclkReturn _ ref => decide (ref < 4)
  | .resetRelease _ _ cal dowels dramOk => cal.length == 68 && dowels.length == 49 && dramOk.length == 2
  | .read _ addr => decide (addr < 2 ^ 24) && addr % 4 == 0
  | .unitFault _ _ cause => decide (1 ≤ cause ∧ cause ≤ 6)
  | _ => true

end Sys2Proof
end

