-- ==== Sys2Proof/Certificates/Slice0/Obligations.lean ====
section
/-! DEFINITION. The statements for the provers, one Prop each. The words they are written in stand in Sys2Proof/Safety.lean. -/

namespace Sys2Proof

/-! ### Sets of commands that statements name -/

/-- The commands that reset the device, and the release of its reset. -/
def Instr.resets : Instr → Bool
  | .powerOnReset _ | .pinReset _ | .deviceReset _ | .railUndervolt .. | .refclkAbsent .. | .resetRelease .. => true
  | _ => false

/-- The commands that write the firmware flash: the update of R435 and the port's slot write. -/
def Instr.writesFlash : Instr → Bool
  | .mgtFwUpdate .. | .fwUpdateDone .. | .slotWrite .. => true
  | _ => false

/-- The commands that write the embedded MRAM: the recorder's, those of the boot configuration, and a power-on reset, which counts. -/
def Instr.writesMram : Instr → Bool
  | .logRecordWrite .. | .opsecSave _ | .logScanDone _ | .peerLog .. | .recClear .. | .clearFatal _ | .mgtFwSelect .. | .slotSelect ..
  | .writeBootcfg .. | .powerOnReset _ | .railUndervolt .. => true
  | _ => false

/-- The commands that take a unit out of service, or can. -/
def Instr.faults : Instr → Bool
  | .unitFault .. | .engineProgressTimeout .. | .corEccError .. | .lineBufferEccError .. | .dowelPulse .. | .bridgeErr .. | .dramCmdTimeout ..
  | .calibrationDone .. | .standbyBistDone .. | .pollFailTimeout .. | .fetchTimeout .. | .veneerDeadlineTimeout .. | .mgmtWatchdogExpire ..
  | .mgtUnit .. => true
  | _ => false

/-- The commands that write host memory: doorbell pages, completion and event entries, stamps, images and results, and the setting of
Bus Master Enable, which lets the writes held by it go (R91). A fault of a unit may end a camera frame, whose result is written. -/
def Instr.writesHost : Instr → Bool
  | .busMasterEnable .. | .doorbellPoll .. | .slotsStaged .. | .completionWrite .. | .vectorEntry .. | .timecaptureEdge .. | .corSave .. | .grnSave .. | .calSave ..
  | .recRead .. | .csiFrameStart .. | .csiFrameEnd .. | .camFrameTimeout .. | .camPortReset .. | .pipelineFrameDone .. => true
  | c => c.faults || c.resets

/-- The commands that write DRAM: bursts served, camera lines and frames, and peers' bulk data; a reset clears it. -/
def Instr.writesDram : Instr → Bool
  | .dramRequestServed .. | .csiLine .. | .csiFrameStart .. | .csiFrameEnd .. | .camFrameTimeout .. | .camPortReset .. | .pipelineFrameDone ..
  | .bulkWrite .. => true
  | c => c.faults || c.resets

namespace Machine

/-- A memory is another one with bytes written from an address on, and no other byte changed. -/
def Bytes.Wrote (m' m : Bytes) (a : Nat) (bs : List Byte) : Prop :=
  ∀ x, m'.read x = if a ≤ x ∧ x < a + bs.length then bs.getD (x - a) 0#8 else m.read x

/-- A memory is another one with two stores made, the first one's bytes first, and no other byte changed. -/
def Bytes.Wrote2 (m' m : Bytes) (a : Nat) (as : List Byte) (b : Nat) (bs : List Byte) : Prop :=
  ∀ x, m'.read x = if b ≤ x ∧ x < b + bs.length then bs.getD (x - b) 0#8
    else if a ≤ x ∧ x < a + as.length then as.getD (x - a) 0#8 else m.read x

/-- A unit has been taken out of service by a fault: it is out and in its self-test, its count is one more, and it stands as the last
unit with the kind of R441 (R438). -/
def Dev.FaultTaken (d e : Dev) (u kind : Nat) : Prop :=
  e.get .MGT_UNIT_IN_SERVICE u = 0 ∧ (e.island u).faulted = true ∧ (e.island u).testing = true
    ∧ e.get .MGT_UNIT_FAULTS u = min (d.get .MGT_UNIT_FAULTS u + 1) (2 ^ Fld.width .MGT_UNIT_FAULTS - 1)
    ∧ e.get .MGT_LAST_UNIT = u ∧ e.get .MGT_LAST_KIND = kind

/-- A unit that a fault can take out: it is not out by a fault already, and it covers no other unit (R421, R447). -/
def Dev.mayFault (d : Dev) (u : Nat) : Prop := (d.island u).faulted = false ∧ u ≠ 32 ∧ u ≠ 33 ∧ u ≠ 81 ∧ u ≠ 82

/-- Every register field of every instance reads its reset value. -/
def Dev.atReset (d : Dev) : Prop := ∀ f i j, d.get f i j = f.resetAt i j

/-- A write by function `w` to a register of function `fn` is acted on: `w` is there, is not frozen and is function 0 or `fn` (R89, R106, R452). -/
def Dev.writesFor (d : Dev) (w fn : Nat) : Prop :=
  d.vfOn w = true ∧ d.frozen w = false ∧ (w = 0 ∨ w = fn)

/-- The recorder takes a record into its queue: the log is not degraded and the queue has room (R387, R390). -/
def Dev.logs (d : Dev) : Prop := d.get .REC_STAT_LOG_DEGRADED = 0 ∧ d.recorder.queue.length < 256

/-- A channel fault has been taken by an engine: it is in FAULT with its link down, it discards descriptors, its plans, look-ahead, FIFO
and stream are empty, and the fault is recorded, an engine that shares no zone and owes no pass making no other record (R148). -/
def Dev.ChannelFaulted (d e : Dev) (n : Nat) : Prop :=
  e.get .ENG_STAT_STATE n = 6 ∧ e.get .ENG_STAT_LINK_UP n = 0 ∧ (e.eng n).discard = true ∧ (e.eng n).plans = []
    ∧ (e.eng n).look = [] ∧ (e.eng n).fifo = [] ∧ (e.eng n).stream = [] ∧ e.get .ENG_FIFO_LEVEL n = 0
    ∧ (d.logs → (d.eng n).passes = [] → (∀ z < 64, d.zoneOn n z = false) → e.Recorded 0x0301 4)

end Machine

end Sys2Proof

open Sys2Proof Sys2Proof.Machine

/-! ### The step and the queue -/

/-- A step runs the command at the front of the queue on the state with the queue's rest; with no command waiting the block idles and stays
as it is (the idle step is the model's choice, log entry 1). -/
def Obligations.StepRunsFront : Prop :=
  (∀ (c : Instr) (rest : List Instr) (s : State), s.pending = c :: rest → step s = exec c { s with pending := rest })
    ∧ ∀ s : State, s.pending = [] → step s = .next s

/-- Every command answers a next state and leaves the queue of waiting commands alone: no fault and no refusal. -/
def Obligations.EveryCommandAnswers : Prop := ∀ (c : Instr) (s : State), Answers c s (fun _ => True)

/-- No word of bits spells a command of this block, and none changes its queue (the opcode table gives no row bits). -/
def Obligations.NoWordSpellsACommand : Prop :=
  ∀ (nbits w : Nat) (s : State), decodeTableWord nbits w = none ∧ s.withFetchWord nbits w = s

/-! ### Reset -/

/-- After reset no command waits, every register field of every instance reads its reset value, which is also the value in force, and
the device is held in reset. That every byte of host memory, DRAM and flash reads 0 there is the model's choice (log entry 3). -/
def Obligations.ResetState : Prop :=
  State.reset.pending = [] ∧ (∀ f i j, State.reset.dev.get f i j = f.resetAt i j ∧ State.reset.dev.eff f i j = f.resetAt i j)
    ∧ (∀ a, State.reset.dev.host.read a = 0#8 ∧ State.reset.dev.dram.read a = 0#8 ∧ State.reset.dev.flash.read a = 0#8)
    ∧ State.reset.dev.mgmt.inReset = true

/-- The state after reset is in canonical form. -/
def Obligations.ResetCanonical : Prop := State.reset.canonical

/-- After reset function 0 owns every engine, tile, axis and camera context, and functions 1 to 7 own none (R92): no resource has two
owners. -/
def Obligations.ResetOwners : Prop :=
  State.reset.dev.ownedOnce ∧
  (∀ t, t ≤ 0x21 ∨ (0x40 ≤ t ∧ t ≤ 0x4f) ∨ (0x50 ≤ t ∧ t ≤ 0x57) ∨ (0x60 ≤ t ∧ t ≤ 0x6f) → State.reset.dev.ownerOf t = some 0)
    ∧ ∀ f t, 1 ≤ f → f < 8 → t < 0x80 → State.reset.dev.ownsTarget f t = false

/-! ### Promises of the whole machine -/

/-- Every step keeps every table of the device in canonical form: no key twice, none at what an unlisted key reads as, every register
cell within its field's width. -/
def Obligations.StepKeepsCanonical : Prop := ∀ s t : State, s.canonical → step s = .next t → t.canonical

/-- No step gives an engine, tile, axis or context that one function owns to a second one (R92). -/
def Obligations.StepKeepsOwnersApart : Prop := ∀ s t : State, s.dev.ownedOnce → step s = .next t → t.dev.ownedOnce

/-- SYS_LOCK. LOCK starts at 0 and returns to it at power-on and pin reset; a write of 1 by function 0 sets it; set, it changes no register when
it is written again; and while it is set, every step but a reset of the device leaves every RWL field, LOCK among them, as it is: a PCIe
fundamental reset and a function-level reset too (R455). -/
def Obligations.LockHolds : Prop :=
  State.reset.dev.get .SYS_LOCK_LOCK = 0
    ∧ (∀ s dt, Answers (.powerOnReset dt) s (fun e => e.get .SYS_LOCK_LOCK = 0) ∧ Answers (.pinReset dt) s (fun e => e.get .SYS_LOCK_LOCK = 0))
    ∧ (∀ s dt, s.dev.frozen 0 = false → Answers (.sysLockSet dt) s (fun e => e.get .SYS_LOCK_LOCK = 1 ∧ s.dev.OnlyAt e [(.SYS_LOCK_LOCK, 0, 0)]))
    ∧ (∀ s dt, s.dev.frozen 0 = false → s.dev.get .SYS_LOCK_LOCK = 1 → Answers (.sysLockSet dt) s (fun e => s.dev.OnlyAt e []))
    ∧ ∀ s t : State, s.dev.get .SYS_LOCK_LOCK = 1 → (∀ c ∈ s.pending.head?, c.resets = false) → step s = .next t →
        ∀ f i j, f.acc = .rwl → t.dev.get f i j = s.dev.get f i j

/-- The memories. The firmware flash changes only by MGT_FW_UPDATE, FW_UPDATE_DONE and SLOT_WRITE, and the embedded MRAM only by the
recorder's commands, those of the boot configuration and a power-on reset. Host memory changes only by the commands that poll,
complete, stamp, raise events, save images and deliver camera results, and DRAM only by bursts served, camera data and peers'
bulk data; a fault of a unit may end a camera frame, and a reset clears DRAM. Under any other command every byte reads as before. -/
def Obligations.MemoriesKept : Prop :=
  ∀ s t : State, step s = .next t →
    ((∀ c ∈ s.pending.head?, c.writesFlash = false) → t.dev.flash = s.dev.flash)
      ∧ ((∀ c ∈ s.pending.head?, c.writesMram = false) → t.dev.mram = s.dev.mram)
      ∧ ((∀ c ∈ s.pending.head?, c.writesHost = false) → ∀ a, t.dev.host.read a = s.dev.host.read a)
      ∧ ((∀ c ∈ s.pending.head?, c.writesDram = false) → ∀ a, t.dev.dram.read a = s.dev.dram.read a)

/-! ### Register reads and writes -/

/-- Registers whose read does more than return the register's bits. -/
def specialReads : List Reg :=
  [.SYS_ISL_TOFS, .TIM_NOW_NS, .TIM_NOW_SEC_LO, .TIM_NOW_SEC_HI, .ENC_IDX_ERR, .REC_OPSEC, .REC_PCYC, .CAL_IMG_CRC, .SCF_ZONE_TIME,
    .MPL_STAT, .THM_GOV]

/-- Reads through the management port and by hosts. A read of SYS_ISL_TOFS returns the register and clears PEAK; a read of ENC_IDX_ERR
returns it and clears WORST; a read of TIM_NOW_NS returns the nanoseconds of device time and keeps the seconds and the fraction of the same
instant; SIG of SCF_ZONE_TIME reads the signature of the zone (R182), and SLICE of MPL_STAT the slice that serves the engine's
channel (R218); a read of an address with no register returns 0; a read of the seconds word returns what was kept; a read of
any register without an effect of its own returns its fields in place. None changes any other register
or any byte of memory. -/
def Obligations.Reads : Prop :=
  (∀ s dt (n : Fin 49), Answers (.sysIslTofsRead dt n) s (fun e => e.mgmt.readData = s.dev.word .SYS_ISL_TOFS n
      ∧ e.get .SYS_ISL_TOFS_PEAK n = 0 ∧ s.dev.OnlyAt e [(.SYS_ISL_TOFS_PEAK, n, 0)] ∧ s.dev.SameMem e))
    ∧ (∀ s dt (n : Fin 8), Answers (.encIdxErrRead dt n) s (fun e => e.mgmt.readData = s.dev.word .ENC_IDX_ERR n
      ∧ e.get .ENC_IDX_ERR_WORST n = 0 ∧ s.dev.OnlyAt e [(.ENC_IDX_ERR_WORST, n, 0)] ∧ s.dev.SameMem e))
    ∧ (∀ s dt, Answers (.timNowNsRead dt) s (fun e => e.mgmt.readData = nsOf (s.dev.now + dt)
      ∧ e.mgmt.timLo = secOf (s.dev.now + dt) % 2 ^ 32
      ∧ e.mgmt.timHi = secOf (s.dev.now + dt) / 2 ^ 32 % 2 ^ 16 + fracOf (s.dev.now + dt) * 2 ^ 16 ∧ s.dev.OnlyAt e [] ∧ s.dev.SameMem e))
    ∧ (∀ s dt a, regAt a = none → Answers (.read dt a) s (fun e => e.mgmt.readData = 0 ∧ s.dev.OnlyAt e [] ∧ s.dev.SameMem e))
    ∧ (∀ s dt a, regAt a = some (.TIM_NOW_SEC_LO, 0, 0) → Answers (.read dt a) s (fun e => e.mgmt.readData = s.dev.mgmt.timLo ∧ s.dev.OnlyAt e []))
    ∧ (∀ s dt a (i j : Nat), regAt a = some (.SCF_ZONE_TIME, i, j) → Answers (.read dt a) s (fun e =>
      e.mgmt.readData = (s.dev.put .SCF_ZONE_TIME_SIG (s.dev.zoneSig i j) i j).word .SCF_ZONE_TIME i j ∧ s.dev.OnlyAt e [] ∧ s.dev.SameMem e))
    ∧ (∀ s dt a (i j : Nat), regAt a = some (.MPL_STAT, i, j) → Answers (.read dt a) s (fun e =>
      e.mgmt.readData = (s.dev.put .MPL_STAT_SLICE (s.dev.boundSlice i) i).word .MPL_STAT i j ∧ s.dev.OnlyAt e [] ∧ s.dev.SameMem e))
    ∧ (∀ s dt a (r : Reg) (i j : Nat), regAt a = some (r, i, j) → r ∉ specialReads → unusedSet r j = false →
      Answers (.read dt a) s (fun e => e.mgmt.readData = s.dev.word r i j ∧ s.dev.OnlyAt e [] ∧ s.dev.SameMem e))

/-- Registers whose RW fields take a write at once and have no other effect. -/
def plainRegs : List Reg := [.KRF_CFG, .KRF_PLUME_DIM, .ENC_LIM, .THM_CFG, .FAB_TIMER]

/-- REGISTER_WRITE. A write of a virtual function that is not enabled changes nothing (R89). A frozen function's write is ignored and counted in IGN_WRITES; one that is partial, misaligned or of more than eight
bytes is ignored and counted in PARTIAL; one that finds no register is counted in UNMAPPED; nothing takes a write in recovery mode;
a write of function 0 to one of these registers sets each RW field whose value is in range and leaves one out of range as it was, with
the CFG_REJ flag of the register's chapter where it has one. -/
def Obligations.RegisterWrites : Prop :=
  (∀ s dt (fn : Fin 8) (bar2 : Bool) off size (be : BitVec 8) (value : BitVec 64), s.dev.vfOn fn = false →
      Answers (.registerWrite dt fn bar2 off size be value) s (fun e => s.dev.OnlyAt e [] ∧ s.dev.SameMem e))
    ∧ (∀ s dt (fn : Fin 8) (bar2 : Bool) off (be : BitVec 8) (value : BitVec 64), s.dev.flag .MGT_STAT_RECOVERY = false →
      s.dev.vfOn fn = true → s.dev.frozen fn = true →
      Answers (.registerWrite dt fn bar2 off 4 be value) s (fun e =>
        e.get .WIN_FRZ_STAT_IGN_WRITES fn = min (s.dev.get .WIN_FRZ_STAT_IGN_WRITES fn + 1) (2 ^ Fld.width .WIN_FRZ_STAT_IGN_WRITES - 1)
          ∧ s.dev.OnlyAt e [(.WIN_FRZ_STAT_IGN_WRITES, fn, 0)] ∧ s.dev.SameMem e))
    ∧ (∀ s dt (fn : Fin 8) (bar2 : Bool) off size (be : BitVec 8) (value : BitVec 64), s.dev.flag .MGT_STAT_RECOVERY = false →
      s.dev.vfOn fn = true → s.dev.frozen fn = false →
      (size ≠ 8 ∧ (be.toNat % 16 ≠ 15 ∨ off % 4 ≠ 0) ∨ 8 < size) →
      Answers (.registerWrite dt fn bar2 off size be value) s (fun e =>
        e.get .SYS_IGN_WR_PARTIAL fn = min (s.dev.get .SYS_IGN_WR_PARTIAL fn + 1) (2 ^ 16 - 1)
          ∧ s.dev.OnlyAt e [(.SYS_IGN_WR_PARTIAL, fn, 0)] ∧ s.dev.SameMem e))
    ∧ (∀ s dt (fn : Fin 8) off (value : BitVec 64), s.dev.flag .MGT_STAT_RECOVERY = false →
      s.dev.vfOn fn = true → s.dev.frozen fn = false → off % 4 = 0 →
      (barAddr fn off).bind regAt = none →
      Answers (.registerWrite dt fn false off 4 15#8 value) s (fun e =>
        e.get .SYS_IGN_WR_UNMAPPED fn = min (s.dev.get .SYS_IGN_WR_UNMAPPED fn + 1) (2 ^ 16 - 1)
          ∧ s.dev.OnlyAt e [(.SYS_IGN_WR_UNMAPPED, fn, 0)] ∧ s.dev.SameMem e))
    ∧ (∀ s dt (fn : Fin 8) (bar2 : Bool) off size (be : BitVec 8) (value : BitVec 64), s.dev.flag .MGT_STAT_RECOVERY = true →
      Answers (.registerWrite dt fn bar2 off size be value) s (fun e => s.dev.OnlyAt e [] ∧ s.dev.SameMem e))
    ∧ (∀ s dt off (value : BitVec 64) (r : Reg) (i j : Nat), s.dev.flag .MGT_STAT_RECOVERY = false → s.dev.frozen 0 = false → off % 4 = 0 →
      regAt off = some (r, i, j) → r ∈ plainRegs →
      Answers (.registerWrite dt 0 false off 4 15#8 value) s (fun e =>
        (∀ f ∈ r.fields, f.acc = .rw → e.get f i j
            = if f.inRange (f.of (value.toNat % 2 ^ 32)) then f.of (value.toNat % 2 ^ 32) else s.dev.get f i j)
          ∧ ((∃ f ∈ r.fields, f.acc = .rw ∧ f.inRange (f.of (value.toNat % 2 ^ 32)) = false) → ∀ x, r.rejFlag i = some x → e.get x.1 x.2 = 1)
          ∧ s.dev.SameMem e))

/-! ### Host rings (R60 to R84, R376) -/

/-- Enabling and disabling a ring. A ring that is disabled and lies inside one window is enabled: its fields take the written values, a
submission ring starts with fetch index and producer index 0, a completion ring and the event ring with position 0 and phase 1;
one outside every window stays disabled and CFG_REJ is set. Disabling a ring clears ENABLE, lets go
of the slots asked for and not yet staged, and leaves the descriptors fetched from it and the ring's indices as they are (R61 to R63, R84, R376). -/
def Obligations.RingsStartAndStop : Prop :=
  (∀ s dt (w fn : Fin 8) (r : Fin 64) (value : Word), s.dev.writesFor w fn → s.dev.get .HIF_SQ_CFG_ENABLE fn r = 0 →
      6 ≤ Fld.of .HIF_SQ_CFG_SIZE_LOG2 value.toNat → Fld.of .HIF_SQ_CFG_SIZE_LOG2 value.toNat ≤ 16 →
      s.dev.inWindow fn (s.dev.sqBase fn r) (64 * 2 ^ Fld.of .HIF_SQ_CFG_SIZE_LOG2 value.toNat) = true →
      Answers (.sqEnable dt w fn r value) s (fun e => e.get .HIF_SQ_CFG_ENABLE fn r = 1
        ∧ e.get .HIF_SQ_CFG_SIZE_LOG2 fn r = Fld.of .HIF_SQ_CFG_SIZE_LOG2 value.toNat
        ∧ e.get .HIF_SQ_CFG_CQ fn r = Fld.of .HIF_SQ_CFG_CQ value.toNat ∧ e.get .HIF_SQ_CFG_PRIO fn r = Fld.of .HIF_SQ_CFG_PRIO value.toNat
        ∧ e.sq fn r = { fetch := 0, pi := 0 } ∧ e.jobs = s.dev.jobs ∧ s.dev.OnlyIn e [.HIF_SQ_CFG, .HIF_STAT] ∧ s.dev.SameMem e))
    ∧ (∀ s dt (w fn : Fin 8) (r : Fin 64) (value : Word), s.dev.writesFor w fn → s.dev.get .HIF_SQ_CFG_ENABLE fn r = 0 →
      6 ≤ Fld.of .HIF_SQ_CFG_SIZE_LOG2 value.toNat → Fld.of .HIF_SQ_CFG_SIZE_LOG2 value.toNat ≤ 16 →
      s.dev.inWindow fn (s.dev.sqBase fn r) (64 * 2 ^ Fld.of .HIF_SQ_CFG_SIZE_LOG2 value.toNat) = false →
      Answers (.sqEnable dt w fn r value) s (fun e => e.get .HIF_SQ_CFG_ENABLE fn r = 0 ∧ e.get .HIF_STAT_CFG_REJ fn = 1
        ∧ e.sq fn r = { s.dev.sq fn r with outstanding := 0 } ∧ s.dev.OnlyIn e [.HIF_SQ_CFG, .HIF_STAT, .WIN_MOVER_STAT] ∧ s.dev.SameMem e))
    ∧ (∀ s dt (w fn : Fin 8) (r : Fin 64), s.canonical → s.dev.writesFor w fn → s.dev.get .HIF_SQ_CFG_ENABLE fn r = 1 →
      Answers (.sqDisable dt w fn r) s (fun e => e.get .HIF_SQ_CFG_ENABLE fn r = 0 ∧ e.jobs = s.dev.jobs
        ∧ e.sq fn r = { s.dev.sq fn r with outstanding := 0 }
        ∧ s.dev.OnlyAt e [(.HIF_SQ_CFG_ENABLE, fn, r), (.HIF_STAT_IN_FLIGHT, fn, 0), (.WIN_MOVER_STAT_BUSY, 0, 0)] ∧ s.dev.SameMem e))
    ∧ (∀ s dt (w fn : Fin 8) (c : Fin 16) (value : Word), s.dev.writesFor w fn → s.dev.get .HIF_CQ_CFG_ENABLE fn c = 0 →
      6 ≤ Fld.of .HIF_CQ_CFG_SIZE_LOG2 value.toNat → Fld.of .HIF_CQ_CFG_SIZE_LOG2 value.toNat ≤ 16 →
      s.dev.inWindow fn (s.dev.cqBase fn c) (16 * 2 ^ Fld.of .HIF_CQ_CFG_SIZE_LOG2 value.toNat) = true →
      Answers (.cqEnable dt w fn c value) s (fun e => e.get .HIF_CQ_CFG_ENABLE fn c = 1
        ∧ e.get .HIF_CQ_CFG_SIZE_LOG2 fn c = Fld.of .HIF_CQ_CFG_SIZE_LOG2 value.toNat ∧ (e.cq fn c).pos = 0 ∧ (e.cq fn c).phase = true
        ∧ (e.fn fn).waiting = (s.dev.fn fn).waiting ∧ s.dev.OnlyIn e [.HIF_CQ_CFG, .HIF_STAT] ∧ s.dev.SameMem e))
    ∧ (∀ s dt (w fn : Fin 8) (c : Fin 16), s.canonical → s.dev.writesFor w fn → s.dev.get .HIF_CQ_CFG_ENABLE fn c = 1 →
      Answers (.cqDisable dt w fn c) s (fun e => e.get .HIF_CQ_CFG_ENABLE fn c = 0 ∧ e.cq fn c = s.dev.cq fn c
        ∧ (e.fn fn).waiting = (s.dev.fn fn).waiting
        ∧ s.dev.OnlyAt e [(.HIF_CQ_CFG_ENABLE, fn, c), (.HIF_STAT_CQ_HOLD, fn, 0)] ∧ s.dev.SameMem e))
    ∧ (∀ s dt (w fn : Fin 8) (value : Word), s.dev.writesFor w fn → s.dev.get .INT_EVQ_CFG_ENABLE fn = 0 →
      6 ≤ Fld.of .INT_EVQ_CFG_SIZE_LOG2 value.toNat → Fld.of .INT_EVQ_CFG_SIZE_LOG2 value.toNat ≤ 16 →
      s.dev.inWindow fn (s.dev.evqBase fn) (64 * 2 ^ Fld.of .INT_EVQ_CFG_SIZE_LOG2 value.toNat) = true →
      Answers (.evqEnable dt w fn value) s (fun e => e.get .INT_EVQ_CFG_ENABLE fn = 1
        ∧ e.get .INT_EVQ_CFG_SIZE_LOG2 fn = Fld.of .INT_EVQ_CFG_SIZE_LOG2 value.toNat ∧ (e.fn fn).evq.pos = 0 ∧ (e.fn fn).evq.phase = true
        ∧ s.dev.OnlyIn e [.INT_EVQ_CFG] ∧ s.dev.SameMem e))

/-- The doorbell page. Its base takes a write only while every ring of the function is disabled, else CFG_REJ is set; polling is enabled
for a page inside a window that the device may read and write; a poll stamps POLL_TS, eight bytes at offset 0xD48, and no
other byte, issues the read requests of the page, and settles the interval to the next poll by the state now (R69); the data of a poll ends it, and a failed poll sets POLL_ERR and counts (R64, R68, R69, R71, R441). -/
def Obligations.DoorbellPage : Prop :=
  (∀ s dt (w fn : Fin 8) (hi : Bool) (value : Word), s.dev.writesFor w fn →
      (∀ r < 64, s.dev.get .HIF_SQ_CFG_ENABLE fn r = 0) → (∀ c < 16, s.dev.get .HIF_CQ_CFG_ENABLE fn c = 0) →
      s.dev.get .INT_EVQ_CFG_ENABLE fn = 0 →
      Answers (.dbBaseWrite dt w fn hi value) s (fun e =>
        (if hi then e.get .HIF_DB_BASE_HI_ADDR_HI fn = value.toNat else e.get .HIF_DB_BASE_LO_ADDR_LO fn = value.toNat / 2 ^ 12)
          ∧ s.dev.OnlyAt e [(if hi then .HIF_DB_BASE_HI_ADDR_HI else .HIF_DB_BASE_LO_ADDR_LO, fn, 0)] ∧ s.dev.SameMem e))
    ∧ (∀ s dt (w fn : Fin 8) (hi : Bool) (value : Word), s.dev.writesFor w fn →
      ((∃ r < 64, s.dev.get .HIF_SQ_CFG_ENABLE fn r = 1) ∨ (∃ c < 16, s.dev.get .HIF_CQ_CFG_ENABLE fn c = 1)
        ∨ s.dev.get .INT_EVQ_CFG_ENABLE fn = 1) →
      Answers (.dbBaseWrite dt w fn hi value) s (fun e => e.get .HIF_STAT_CFG_REJ fn = 1 ∧ s.dev.OnlyAt e [(.HIF_STAT_CFG_REJ, fn, 0)]
        ∧ s.dev.SameMem e))
    ∧ (∀ s dt (w fn : Fin 8) (value : Word), s.dev.writesFor w fn →
      1 ≤ Fld.of .HIF_POLL_CFG_INTERVAL_US value.toNat → Fld.of .HIF_POLL_CFG_INTERVAL_US value.toNat ≤ 1000 →
      1 ≤ Fld.of .HIF_POLL_CFG_SLEEP_US value.toNat → Fld.of .HIF_POLL_CFG_SLEEP_US value.toNat ≤ 1000 →
      s.dev.rangeCause fn (s.dev.dbBase fn) 4096 true true = none →
      Answers (.pollEnable dt w fn value) s (fun e => e.get .HIF_POLL_CFG_POLL_EN fn = 1
        ∧ e.get .HIF_POLL_CFG_INTERVAL_US fn = Fld.of .HIF_POLL_CFG_INTERVAL_US value.toNat
        ∧ e.get .HIF_POLL_CFG_SLEEP_US fn = Fld.of .HIF_POLL_CFG_SLEEP_US value.toNat
        ∧ s.dev.OnlyIn e [.HIF_POLL_CFG, .HIF_STAT] ∧ s.dev.SameMem e))
    ∧ (∀ s dt (fn : Fin 8), s.dev.hostOpen fn = true → s.dev.get .HIF_POLL_CFG_POLL_EN fn = 1 → (s.dev.fn fn).polling = false →
      ((s.dev.fn fn).lastPoll = 0 ∨ (s.dev.fn fn).lastPoll + s.dev.get .HIF_STAT_INTERVAL_NOW fn * qUs ≤ (s.dev.elapse dt).run) →
      s.dev.rangeCause fn (s.dev.dbBase fn) 4096 true true = none → (s.dev.fn fn).held = [] →
      Answers (.doorbellPoll dt fn) s (fun e =>
        e.host.Wrote s.dev.host (s.dev.dbBase fn + 0xd48) (leBytes 8 (ts64 (s.dev.now + dt))) ∧ e.dram = s.dev.dram
          ∧ (e.fn fn).polling = true ∧ (e.fn fn).lastPoll = (s.dev.elapse dt).run
          ∧ (e.fn fn).pollReads = pollPieces (s.dev.dbBase fn) (s.dev.fn fn).maxReadReq
          ∧ e.get .HIF_STAT_INTERVAL_NOW fn = s.dev.pollUs fn % 2 ^ Fld.width .HIF_STAT_INTERVAL_NOW
          ∧ s.dev.OnlyAt e [(.HIF_STAT_INTERVAL_NOW, fn, 0)]))
    ∧ (∀ s dt (fn : Fin 8), (s.dev.fn fn).polling = true → s.dev.logs →
      Answers (.pollSnapshot dt fn none) s (fun e => e.get .HIF_STAT_POLL_ERR fn = 1 ∧ (e.fn fn).polling = false
        ∧ (e.fn fn).pollFails = (s.dev.fn fn).pollFails + 1 ∧ e.Recorded 0x0201 3 ∧ s.dev.SameMem e))
    ∧ (∀ s dt (fn : Fin 8) (ws : List Word), (s.dev.fn fn).polling = true → s.dev.frozen fn = false →
      (∀ r < 64, s.dev.get .HIF_SQ_CFG_ENABLE fn r = 1 → (ws.getD r 0#32).toNat % 2 ^ 16 < s.dev.sqSize fn r) →
      Answers (.pollSnapshot dt fn (some ws)) s (fun e => (e.fn fn).polling = false ∧ (e.fn fn).pollFails = 0
        ∧ (∀ r < 64, s.dev.get .HIF_SQ_CFG_ENABLE fn r = 1 → (e.sq fn r).pi = (ws.getD r 0#32).toNat % 2 ^ 16)
        ∧ (∀ c < 16, (e.cq fn c).ci = (ws.getD (64 + c) 0#32).toNat % 2 ^ 16) ∧ s.dev.SameMem e))

/-- Descriptors on their way in. The slots of the ring whose turn it is are asked for; slots that arrive become a staged descriptor,
and the ring's fetch index moves past them; pointed data that arrives belongs to its descriptor; a staged descriptor without an
error is dispatched with a place in HOST, one with an error completes with its code; a target takes a dispatched descriptor
whose turn has come (R76 to R79, R84, R86, R100). -/
def Obligations.DescriptorsComeIn : Prop :=
  (∀ s dt (fn : Fin 8) (head : Gran) r, s.dev.hostOpen fn = true → s.dev.inService 35 = true → s.dev.stageSize fn ≠ 0 →
      s.dev.ringTurn fn = some r → s.dev.rangeCause fn (s.dev.sqBase fn r) (64 * s.dev.sqSize fn r) true false = none →
      slotsFor (bitsOf head.toNat 47 40) < s.dev.sqSize fn r → slotsFor (bitsOf head.toNat 47 40) ≤ s.dev.ringWork fn r →
      (s.dev.fn fn).turn % 64 + slotsFor (bitsOf head.toNat 47 40) ≤ 64 →
      s.dev.stageUsed fn + 64 * slotsFor (bitsOf head.toNat 47 40) ≤ s.dev.stageSize fn →
      Answers (.descriptorFetch dt fn head) s (fun e =>
        (e.sq fn r).outstanding = (s.dev.sq fn r).outstanding + slotsFor (bitsOf head.toNat 47 40)
          ∧ (e.sq fn r).fetch = (s.dev.sq fn r).fetch ∧ e.jobs = s.dev.jobs ∧ s.dev.OnlyIn e [.HIF_STAT] ∧ s.dev.SameMem e))
    ∧ (∀ s dt (fn : Fin 8) (r : Fin 64) (slots : List Gran), (s.dev.moverOf { fn := fn, ring := some r.val }).isSome = true →
      s.dev.frozen fn = false → slots.length = 4 → bitsOf (slots.headD 0#128).toNat 47 40 ≤ 3 → 1 ≤ (s.dev.sq fn r).outstanding →
      (s.dev.stageCheck { id := s.dev.nextJob, fn := fn, ring := r, slot := (s.dev.sq fn r).fetch, words := slots, asked := (s.dev.elapse dt).run }).2 = none →
      s.dev.rangeCause fn (s.dev.dbBase fn) 4096 true true = none → s.dev.mayWrite fn = true → (s.dev.fn fn).held = [] →
      Answers (.slotsStaged dt fn r slots) s (fun e =>
        (∃ j ∈ e.jobs, j.id = s.dev.nextJob ∧ j.fn = fn ∧ j.ring = r ∧ j.slot = (s.dev.sq fn r).fetch ∧ j.words = slots ∧ j.status = .staged)
          ∧ e.nextJob = s.dev.nextJob + 1 ∧ (e.sq fn r).fetch = ((s.dev.sq fn r).fetch + 1) % s.dev.sqSize fn r
          ∧ (e.sq fn r).outstanding = (s.dev.sq fn r).outstanding - 1 ∧ s.dev.OnlyIn e [.WIN_MOVER_STAT, .HIF_STAT]
          ∧ e.host.Wrote s.dev.host (s.dev.dbBase fn + (0xc00 + 4 * r)) (leBytes 4 (((s.dev.sq fn r).fetch + 1) % s.dev.sqSize fn r))))
    ∧ (∀ s dt job (data : List Gran) j, s.dev.job job = some j → (s.dev.moverOf { fn := j.fn, job := j.id }).isSome = true →
      ceilDiv (((s.dev.hostRange j).map (·.2.1)).getD 0) 16 = data.length → j.opcode ≠ 0x30 →
      Answers (.payloadStaged dt job data) s (fun e => e.job job = some { j with data := some data } ∧ s.dev.OnlyIn e [.WIN_MOVER_STAT]
        ∧ s.dev.SameMem e))
    ∧ (∀ s dt job j, s.dev.job job = some j → j.status = .staged → j.code = none → j.opcode ≠ 0x20 → j.fence = false →
      s.dev.frozen j.fn = false → (∀ x ∈ s.dev.jobs, x.fn = j.fn → x.ring = j.ring → x.id < j.id → x.status ≠ .staged) →
      (s.dev.wantsData j = false ∨ j.opcode = 0x50) → s.dev.get .HIF_STAT_HOSTQ_USED j.fn < 4096 →
      Answers (.descriptorDispatch dt job) s (fun e => e.job job = some { j with status := .dispatched }
        ∧ e.get .HIF_STAT_HOSTQ_USED j.fn = s.dev.get .HIF_STAT_HOSTQ_USED j.fn + 1 ∧ s.dev.OnlyAt e [(.HIF_STAT_HOSTQ_USED, j.fn, 0)]
        ∧ s.dev.SameMem e))
    ∧ (∀ s dt job j c, s.dev.job job = some j → j.status = .staged → j.code = some c → c ≠ 0 → j.opcode ≠ 0x20 → j.fence = false →
      s.dev.frozen j.fn = false → (∀ x ∈ s.dev.jobs, x.fn = j.fn → x.ring = j.ring → x.id < j.id → x.status ≠ .staged) →
      s.dev.get .HIF_STAT_HOSTQ_USED j.fn < 4096 → j.replay = false → j.orphan = false → s.dev.replayKept j = false →
      Answers (.descriptorDispatch dt job) s (fun e => e.Done j c ∧ s.dev.SameMem e))
    ∧ (∀ s dt job j, s.dev.job job = some j → j.status = .dispatched → s.dev.frozen j.fn = false → s.dev.heldBack j = false →
      j.schedule = 0 → (s.dev.elapse dt).notYet j = false → (s.dev.elapse dt).resourceCode j = none →
      Answers (.descriptorTake dt job) s (fun e => e.job job = some { j with status := .taken } ∧ s.dev.OnlyAt e [] ∧ s.dev.SameMem e))

/-- COMPLETION_WRITE. The first waiting entry whose ring has room is written: sixteen bytes at the ring's position, then the position in
CQ_PI, and no other byte of host memory; the position advances, the phase changes when it wraps, and the place in HOST is free
(R80 to R84). -/
def Obligations.CompletionIsWritten : Prop :=
  ∀ s dt (fn : Fin 8) (n : CplEntry), s.dev.mayWrite fn = true → (s.dev.fn fn).waiting.find? (fun e => !s.dev.cqBlocked fn e.cq) = some n →
    n.irq = false → 1 ≤ s.dev.get .HIF_STAT_HOSTQ_USED fn → s.dev.get .HIF_STAT_HOSTQ_USED fn ≤ 4096 →
    s.dev.rangeCause fn (s.dev.cqBase fn n.cq) (16 * s.dev.cqSize fn n.cq) false true = none →
    s.dev.rangeCause fn (s.dev.dbBase fn) 4096 true true = none → (s.dev.fn fn).held = [] →
    Answers (.completionWrite dt fn) s (fun e =>
      e.host.Wrote2 s.dev.host (s.dev.cqBase fn n.cq + 16 * (s.dev.cq fn n.cq).pos) (leBytes 16 (n.encode (s.dev.cq fn n.cq).phase))
          (s.dev.dbBase fn + (0xd00 + 4 * n.cq)) (leBytes 4 (((s.dev.cq fn n.cq).pos + 1) % s.dev.cqSize fn n.cq))
        ∧ (e.cq fn n.cq).pos = ((s.dev.cq fn n.cq).pos + 1) % s.dev.cqSize fn n.cq
        ∧ (e.cq fn n.cq).phase = (if ((s.dev.cq fn n.cq).pos + 1) % s.dev.cqSize fn n.cq = 0 then !(s.dev.cq fn n.cq).phase
            else (s.dev.cq fn n.cq).phase)
        ∧ (e.fn fn).waiting = (s.dev.fn fn).waiting.erase n
        ∧ e.get .HIF_STAT_HOSTQ_USED fn = s.dev.get .HIF_STAT_HOSTQ_USED fn - 1
        ∧ e.dram = s.dev.dram ∧ e.jobs = s.dev.jobs ∧ s.dev.OnlyIn e [.HIF_STAT])

/-- Bus mastering. Clearing Bus Master Enable stops polling and writing for the function and changes nothing else; setting it resumes
them, and for function 0 after a reset of the link HOST returns to service; clearing VF Enable freezes the virtual
functions with CAUSE 8 (R89, R91, R104, R431). -/
def Obligations.BusMastering : Prop :=
  (∀ s dt (fn : Fin 8), Answers (.busMasterDisable dt fn) s (fun e => (e.fn fn).busMaster = false ∧ (e.fn fn).polling = false
      ∧ e.jobs = s.dev.jobs ∧ (e.fn fn).waiting = (s.dev.fn fn).waiting ∧ s.dev.OnlyAt e [] ∧ s.dev.SameMem e))
    ∧ (∀ s dt (fn : Fin 8), s.dev.pcie.perst = false → s.dev.mgmt.inReset = false → (fn.val ≠ 0 ∨ s.dev.pcie.configured = true) →
      (s.dev.fn fn).held = [] →
      Answers (.busMasterEnable dt fn) s (fun e => (e.fn fn).busMaster = true ∧ e.pcie.configured = (s.dev.pcie.configured || fn.val == 0)
        ∧ s.dev.OnlyAt e [] ∧ s.dev.SameMem e))
    ∧ (∀ s dt, s.dev.pcie.perst = false → s.dev.mgmt.inReset = false → s.dev.pcie.configured = false →
      (s.dev.island 34).faulted = false → s.dev.get .MGT_UNIT_OUT_HOST 34 = 0 → (s.dev.fn 0).held = [] →
      Answers (.busMasterEnable dt 0) s (fun e => (e.fn 0).busMaster = true ∧ e.pcie.configured = true
        ∧ e.get .SYS_ISL_STAT_IN_SERVICE 34 = 1 ∧ e.get .MGT_UNIT_IN_SERVICE 34 = 1
        ∧ s.dev.OnlyAt e [(.SYS_ISL_STAT_IN_SERVICE, 34, 0), (.MGT_UNIT_IN_SERVICE, 34, 0)] ∧ s.dev.SameMem e))
    ∧ (∀ s dt, s.dev.pcie.vfEnable = true → s.dev.pcie.numVfs ≤ 7 →
      Answers (.vfDisable dt) s (fun e => e.pcie.vfEnable = false
        ∧ (∀ f, 1 ≤ f → f ≤ s.dev.pcie.numVfs → (e.fn f).busMaster = false ∧ e.get .WIN_FRZ_STAT_FROZEN f = 1
          ∧ (s.dev.get .WIN_FRZ_STAT_FROZEN f = 0 → e.get .WIN_FRZ_STAT_CAUSE f = 8))))

/-! ### Windows, ownership, staging, movers and freezes (R92 to R113) -/

/-- Ownership, windows and staging areas. Function 0's write of an ownership register, with the lock clear, takes effect unless it gives
one resource to two functions; a write of WIN_CFG by function 0 or the window's own, with a size in range, takes effect unless it
enables a window whose base is off its size, which stays disabled with CFG_REJ; a size out of range keeps the old one; function 0's
write of a staging area takes effect unless the area overlaps another function's or exceeds the installed DRAM. A write refused so
sets CFG_REJ and changes nothing else. Under the lock a write that would change a field leaves every field and freezes its writer
with CAUSE 6, and one that would change none does nothing (R92, R95, R98, R99, R105, R456). -/
def Obligations.SetUpOfFunctions : Prop :=
  (∀ s dt (fn : Fin 8) (k : Fin 4) (value : Word), s.dev.frozen 0 = false → s.dev.get .SYS_LOCK_LOCK = 0 →
      (∀ f ∈ (ownReg k).fields, ∀ g < 8, g ≠ fn.val → Nat.land (f.of value.toNat) (s.dev.get f g) = 0) →
      Answers (.winOwnWrite dt fn k value) s (fun e => (∀ f ∈ (ownReg k).fields, e.get f fn = f.of value.toNat)
        ∧ s.dev.OnlyAt e ((ownReg k).fields.map (fun f => (f, fn.val, 0))) ∧ s.dev.SameMem e))
    ∧ (∀ s dt (fn : Fin 8) (k : Fin 4) (value : Word), s.dev.frozen 0 = false →
      (∃ f ∈ (ownReg k).fields, ∃ g < 8, g ≠ fn.val ∧ Nat.land (f.of value.toNat) (s.dev.get f g) ≠ 0) →
      Answers (.winOwnWrite dt fn k value) s (fun e => e.get .WIN_STAT_CFG_REJ = 1 ∧ s.dev.OnlyAt e [(.WIN_STAT_CFG_REJ, 0, 0)]
        ∧ s.dev.SameMem e))
    ∧ (∀ s dt (fn : Fin 8) (k : Fin 4) (value : Word), s.dev.frozen 0 = false → s.dev.get .SYS_LOCK_LOCK = 1 →
      (∀ f ∈ (ownReg k).fields, ∀ g < 8, g ≠ fn.val → Nat.land (f.of value.toNat) (s.dev.get f g) = 0) →
      (∃ f ∈ (ownReg k).fields, f.of value.toNat ≠ s.dev.get f fn) →
      Answers (.winOwnWrite dt fn k value) s (fun e => (∀ f ∈ (ownReg k).fields, e.get f fn = s.dev.get f fn)
        ∧ e.get .WIN_FRZ_STAT_FROZEN 0 = 1 ∧ e.get .WIN_FRZ_STAT_CAUSE 0 = 6))
    ∧ (∀ s dt (fn : Fin 8) (k : Fin 4) (value : Word), s.dev.frozen 0 = false → s.dev.get .SYS_LOCK_LOCK = 1 →
      (∀ f ∈ (ownReg k).fields, ∀ g < 8, g ≠ fn.val → Nat.land (f.of value.toNat) (s.dev.get f g) = 0) →
      (∀ f ∈ (ownReg k).fields, f.of value.toNat = s.dev.get f fn) →
      Answers (.winOwnWrite dt fn k value) s (fun e => s.dev.OnlyAt e [] ∧ s.dev.SameMem e))
    ∧ (∀ s dt (w fn : Fin 8) (win : Fin 16) (value : Word), s.dev.writesFor w fn → s.dev.get .SYS_LOCK_LOCK = 0 →
      12 ≤ Fld.of .WIN_CFG_SIZE_LOG2 value.toNat → Fld.of .WIN_CFG_SIZE_LOG2 value.toNat ≤ 46 →
      (s.dev.winBase fn win % 2 ^ Fld.of .WIN_CFG_SIZE_LOG2 value.toNat = 0 ∨ Fld.of .WIN_CFG_ENABLE value.toNat = 0) →
      Answers (.winCfgWrite dt w fn win value) s (fun e => (∀ f ∈ Reg.fields .WIN_CFG, e.get f fn win = f.of value.toNat)
        ∧ s.dev.OnlyAt e ((Reg.fields .WIN_CFG).map (fun f => (f, fn.val, win.val))) ∧ s.dev.SameMem e))
    ∧ (∀ s dt (w fn : Fin 8) (win : Fin 16) (value : Word), s.dev.writesFor w fn → s.dev.get .SYS_LOCK_LOCK = 0 →
      12 ≤ Fld.of .WIN_CFG_SIZE_LOG2 value.toNat → Fld.of .WIN_CFG_SIZE_LOG2 value.toNat ≤ 46 →
      s.dev.winBase fn win % 2 ^ Fld.of .WIN_CFG_SIZE_LOG2 value.toNat ≠ 0 → Fld.of .WIN_CFG_ENABLE value.toNat = 1 →
      Answers (.winCfgWrite dt w fn win value) s (fun e => e.get .WIN_CFG_ENABLE fn win = 0 ∧ e.get .WIN_STAT_CFG_REJ = 1
        ∧ s.dev.OnlyAt e ((.WIN_STAT_CFG_REJ, 0, 0) :: (Reg.fields .WIN_CFG).map (fun f => (f, fn.val, win.val))) ∧ s.dev.SameMem e))
    ∧ (∀ s dt (w fn : Fin 8) (win : Fin 16) (value : Word), s.dev.writesFor w fn → s.dev.get .SYS_LOCK_LOCK = 0 →
      (Fld.of .WIN_CFG_SIZE_LOG2 value.toNat < 12 ∨ 46 < Fld.of .WIN_CFG_SIZE_LOG2 value.toNat) →
      Answers (.winCfgWrite dt w fn win value) s (fun e =>
        e.get .WIN_CFG_SIZE_LOG2 fn win = s.dev.get .WIN_CFG_SIZE_LOG2 fn win ∧ e.get .WIN_STAT_CFG_REJ = 1
        ∧ s.dev.OnlyAt e ((.WIN_STAT_CFG_REJ, 0, 0) :: (Reg.fields .WIN_CFG).map (fun f => (f, fn.val, win.val))) ∧ s.dev.SameMem e))
    ∧ (∀ s dt (w fn : Fin 8) (win : Fin 16) (value : Word), s.dev.writesFor w fn → s.dev.get .SYS_LOCK_LOCK = 1 →
      12 ≤ Fld.of .WIN_CFG_SIZE_LOG2 value.toNat → Fld.of .WIN_CFG_SIZE_LOG2 value.toNat ≤ 46 →
      (∃ f ∈ Reg.fields .WIN_CFG, f.of value.toNat ≠ s.dev.get f fn win) →
      Answers (.winCfgWrite dt w fn win value) s (fun e => (∀ f ∈ Reg.fields .WIN_CFG, e.get f fn win = s.dev.get f fn win)
        ∧ e.get .WIN_FRZ_STAT_FROZEN w = 1 ∧ e.get .WIN_FRZ_STAT_CAUSE w = 6))
    ∧ (∀ s dt (fn : Fin 8) (value : Word), s.dev.frozen 0 = false → s.dev.get .SYS_LOCK_LOCK = 0 →
      (Fld.of .WIN_STAGE_SIZE_MB value.toNat = 0
        ∨ ((Fld.of .WIN_STAGE_BASE_MB value.toNat + Fld.of .WIN_STAGE_SIZE_MB value.toNat) * 2 ^ 20 ≤ s.dev.dramBytes
          ∧ ∀ g < 8, g ≠ fn.val → s.dev.get .WIN_STAGE_SIZE_MB g = 0
            ∨ s.dev.get .WIN_STAGE_BASE_MB g + s.dev.get .WIN_STAGE_SIZE_MB g ≤ Fld.of .WIN_STAGE_BASE_MB value.toNat
            ∨ Fld.of .WIN_STAGE_BASE_MB value.toNat + Fld.of .WIN_STAGE_SIZE_MB value.toNat ≤ s.dev.get .WIN_STAGE_BASE_MB g)) →
      Answers (.winStageWrite dt fn value) s (fun e => (∀ f ∈ Reg.fields .WIN_STAGE, e.get f fn = f.of value.toNat)
        ∧ s.dev.OnlyAt e ((Reg.fields .WIN_STAGE).map (fun f => (f, fn.val, 0))) ∧ s.dev.SameMem e))
    ∧ (∀ s dt (fn : Fin 8) (value : Word), s.dev.frozen 0 = false → Fld.of .WIN_STAGE_SIZE_MB value.toNat ≠ 0 →
      (s.dev.dramBytes < (Fld.of .WIN_STAGE_BASE_MB value.toNat + Fld.of .WIN_STAGE_SIZE_MB value.toNat) * 2 ^ 20
        ∨ ∃ g < 8, g ≠ fn.val ∧ s.dev.get .WIN_STAGE_SIZE_MB g ≠ 0
          ∧ Fld.of .WIN_STAGE_BASE_MB value.toNat < s.dev.get .WIN_STAGE_BASE_MB g + s.dev.get .WIN_STAGE_SIZE_MB g
          ∧ s.dev.get .WIN_STAGE_BASE_MB g < Fld.of .WIN_STAGE_BASE_MB value.toNat + Fld.of .WIN_STAGE_SIZE_MB value.toNat) →
      Answers (.winStageWrite dt fn value) s (fun e => e.get .WIN_STAT_CFG_REJ = 1 ∧ s.dev.OnlyAt e [(.WIN_STAT_CFG_REJ, 0, 0)]
        ∧ s.dev.SameMem e))

/-- MOVER_START: the lowest free mover takes the pending request with the earliest deadline, issues its reads and shows in BUSY; a request
whose range no longer passes the windows in force is not issued and freezes its function (R97, R98, R102). -/
def Obligations.MoverTakesEarliest : Prop :=
  (∀ s dt m (x : Mover), s.dev.inService 35 = true → (List.range 8).find? (fun m => (s.dev.mover m).isNone) = some m →
    (s.dev.elapse dt).earliest s.dev.requests = some x →
    s.dev.rangeCause x.fn (s.dev.requestRange x).1 (s.dev.requestRange x).2 true false = none →
    Answers (.moverStart dt) s (fun e => e.mover m = some (s.dev.issueReads x) ∧ (∀ k < 8, k ≠ m → e.mover k = s.dev.mover k)
      ∧ hasBit (e.get .WIN_MOVER_STAT_BUSY) m = true ∧ e.jobs = s.dev.jobs ∧ s.dev.OnlyAt e [(.WIN_MOVER_STAT_BUSY, 0, 0)] ∧ s.dev.SameMem e))
    ∧ (∀ s dt m c (x : Mover), s.dev.inService 35 = true → (List.range 8).find? (fun m => (s.dev.mover m).isNone) = some m →
      (s.dev.elapse dt).earliest s.dev.requests = some x → s.dev.frozen x.fn = false →
      s.dev.rangeCause x.fn (s.dev.requestRange x).1 (s.dev.requestRange x).2 true false = some c →
      Answers (.moverStart dt) s (fun e => e.get .WIN_FRZ_STAT_FROZEN x.fn = 1 ∧ e.get .WIN_FRZ_STAT_CAUSE x.fn = c ∧ e.movers = s.dev.movers
        ∧ s.dev.SameMem e))

/-- A freeze and its end. Ten microseconds into a freeze the gate of every engine the function owns is low; once every owned resource is
safe SAFE is set and the event is recorded; a write of WIN_FRZ_CTL by function 0 then releases the function with its rings
disabled, one for function 0 or for a function that is not safe sets CFG_REJ, and one with KIND 0b10 releases a peer (R106, R112, R113). -/
def Obligations.FreezeAndRelease : Prop :=
  (∀ s dt (fn : Fin 8), s.dev.get .WIN_FRZ_STAT_FROZEN fn = 1 → s.dev.get .WIN_FRZ_STAT_SAFE fn = 0 → (s.dev.fn fn).gatesForced = false →
      (s.dev.fn fn).noticed = true → (s.dev.fn fn).frozenAt + 10 * qUs ≤ (s.dev.elapse dt).run →
      Answers (.freezeGateTimeout dt fn) s (fun e => (e.fn fn).gatesForced = true
        ∧ (∀ n ∈ s.dev.enginesOf fn, (e.eng n).gate.forced = true ∧ (e.eng n).gate.edges = [] ∧ e.get .ENG_GATE_STAT_GATE_NOW n = 0)
        ∧ e.jobs = s.dev.jobs ∧ s.dev.SameMem e))
    ∧ (∀ s dt (fn : Fin 8), s.dev.get .WIN_FRZ_STAT_FROZEN fn = 1 → s.dev.get .WIN_FRZ_STAT_SAFE fn = 0 → (s.dev.fn fn).noticed = true →
      s.dev.allSafe fn = true → (s.dev.fn fn).flr = false → s.dev.logs →
      ((s.dev.fn fn).gatesForced = true ∨ s.dev.get .SYS_LAYER_STAT_STATE = 8) →
      Answers (.freezeSafe dt fn) s (fun e => e.get .WIN_FRZ_STAT_SAFE fn = 1 ∧ e.get .WIN_FRZ_STAT_FROZEN fn = 1
        ∧ e.Recorded 0x0210 (if s.dev.get .WIN_FRZ_STAT_CAUSE fn = 8 ∨ s.dev.get .WIN_FRZ_STAT_CAUSE fn = 9 then 2 else 5) ∧ s.dev.SameMem e))
    ∧ (∀ s dt (fn : Fin 8), s.dev.frozen 0 = false → fn ≠ 0 → s.dev.get .WIN_FRZ_STAT_FROZEN fn = 1 → s.dev.get .WIN_FRZ_STAT_SAFE fn = 1 →
      Answers (.unfreezeFunction dt fn) s (fun e => e.get .WIN_FRZ_STAT_FROZEN fn = 0 ∧ e.get .WIN_FRZ_STAT_SAFE fn = 0
        ∧ (∀ r < 64, e.get .HIF_SQ_CFG_ENABLE fn r = 0) ∧ (∀ c < 16, e.get .HIF_CQ_CFG_ENABLE fn c = 0)
        ∧ e.get .INT_EVQ_CFG_ENABLE fn = 0
        ∧ s.dev.OnlyIn e [.WIN_FRZ_STAT, .HIF_SQ_CFG, .HIF_CQ_CFG, .HIF_STAT, .INT_EVQ_CFG, .INT_SRC_STAT, .INT_VEC_STAT, .INT_STAT]
        ∧ e.jobs = s.dev.jobs ∧ s.dev.SameMem e))
    ∧ (∀ s dt (fn : Fin 8), s.dev.frozen 0 = false → (fn = 0 ∨ s.dev.get .WIN_FRZ_STAT_SAFE fn = 0) →
      Answers (.unfreezeFunction dt fn) s (fun e => e.get .WIN_STAT_CFG_REJ = 1 ∧ s.dev.OnlyAt e [(.WIN_STAT_CFG_REJ, 0, 0)]))
    ∧ (∀ s dt (dev : Fin 1024), s.dev.frozen 0 = false →
      Answers (.unfreezePeer dt dev) s (fun e => e.peerFrozen dev = false ∧ s.dev.OnlyAt e [(.WIN_PEER_FRZ_FROZEN, dev / 32, 0)]
        ∧ s.dev.SameMem e))

/-! ### Interrupts (R368 to R381) -/

/-- VECTOR_ENTRY. The best vector that may begin becomes active with the next ASEQ, its sources go from pending to active and the message
is sent at that instant; an entry of one source writes its event record of 64 bytes, then EVQ_PI, and no other byte of
host memory (R370, R372, R374, R376, R377). -/
def Obligations.VectorEnters : Prop :=
  (∀ s dt (fn : Fin 8) v, s.dev.mayWrite fn = true → s.dev.get .INT_CTL_HOLD fn = 0 → (s.dev.fn fn).held = [] →
      (s.dev.elapse dt).firstVec fn (((List.range 64).filter (fun v => (s.dev.elapse dt).eligible fn v)).filter
        (fun v => !s.dev.vecMasked fn v)) = some v →
      s.dev.evqRoom fn ((s.dev.entrySources fn v).foldl (fun n k => n + s.dev.recordsOf k) 0) = true →
      s.dev.rangeCause fn (s.dev.evqBase fn) (64 * s.dev.evqSize fn) false true = none →
      Answers (.vectorEntry dt fn) s (fun e => e.get .INT_VEC_STAT_ASEQ fn v = (s.dev.get .INT_VEC_STAT_ASEQ fn v + 1) % 2 ^ 16
        ∧ e.get .INT_VEC_STAT_ACTIVE fn v = 1 ∧ e.get .INT_STAT_EVQ_FULL fn = 0
        ∧ (e.vec fn v).messages = (s.dev.vec fn v).messages + 1 ∧ (e.vec fn v).lastMsg = (s.dev.elapse dt).run
        ∧ (∀ k ∈ s.dev.entrySources fn v, e.get .INT_SRC_STAT_PENDING k = 0 ∧ e.get .INT_SRC_STAT_COUNT k = 0
          ∧ e.get .INT_SRC_STAT_ACTIVE k = 1)
        ∧ e.dram = s.dev.dram ∧ s.dev.OnlyIn e [.INT_VEC_STAT, .INT_STAT, .INT_SRC_STAT, .HIF_STAT]))
    ∧ (∀ s dt (fn : Fin 8) v k, s.dev.mayWrite fn = true → s.dev.get .INT_CTL_HOLD fn = 0 → (s.dev.fn fn).held = [] →
      (s.dev.elapse dt).firstVec fn (((List.range 64).filter (fun v => (s.dev.elapse dt).eligible fn v)).filter
        (fun v => !s.dev.vecMasked fn v)) = some v →
      s.dev.entrySources fn v = [k] → k ≠ 144 → s.dev.evqRoom fn 1 = true →
      s.dev.rangeCause fn (s.dev.evqBase fn) (64 * s.dev.evqSize fn) false true = none →
      s.dev.rangeCause fn (s.dev.dbBase fn) 4096 true true = none →
      Answers (.vectorEntry dt fn) s (fun e => e.host.Wrote2 s.dev.host
          (s.dev.evqBase fn + 64 * (s.dev.fn fn).evq.pos)
          (leBytes 64 (s.dev.eventWord fn v ((s.dev.get .INT_VEC_STAT_ASEQ fn v + 1) % 2 ^ 16) k none + (s.dev.fn fn).evq.phase.toNat * 2 ^ 63))
          (s.dev.dbBase fn + 0xd40) (leBytes 4 (((s.dev.fn fn).evq.pos + 1) % s.dev.evqSize fn))
        ∧ (e.fn fn).evq.pos = ((s.dev.fn fn).evq.pos + 1) % s.dev.evqSize fn))

/-- Moderation, masks and holds. A vector whose sources have waited its interval is ready; HOLD takes the value function 0 writes;
unmasking a vector or a function clears that mask alone (R372, R373, R378). -/
def Obligations.VectorsAreHeldBack : Prop :=
  (∀ s dt (fn : Fin 8) (v : Fin 64) k, k ∈ s.dev.vecSources fn v →
      (s.dev.src k).firstRun + (s.dev.vec fn v).minIntUs * qUs ≤ (s.dev.elapse dt).run →
      (s.dev.vec fn v).lastMsg + (s.dev.vec fn v).minIntUs * qUs ≤ (s.dev.elapse dt).run →
      Answers (.moderationExpire dt fn v) s (fun e => e.get .INT_VEC_STAT_PENDING fn v = 1 ∧ e.get .INT_VEC_STAT_READY fn v = 1
        ∧ s.dev.OnlyAt e [(.INT_VEC_STAT_PENDING, fn, v), (.INT_VEC_STAT_READY, fn, v)] ∧ s.dev.SameMem e))
    ∧ (∀ s dt (fn : Fin 8) (hold : Bool), s.dev.frozen 0 = false →
      Answers (.intHoldWrite dt fn hold) s (fun e => e.get .INT_CTL_HOLD fn = hold.toNat ∧ s.dev.OnlyAt e [(.INT_CTL_HOLD, fn, 0)]
        ∧ s.dev.SameMem e))
    ∧ (∀ s dt (fn : Fin 8) (v : Fin 64), s.dev.vfOn fn = true → s.dev.frozen fn = false →
      Answers (.msixUnmask dt fn (some v)) s (fun e => e.vec fn v = { s.dev.vec fn v with masked := false }
        ∧ e.fnMasked = s.dev.fnMasked ∧ s.dev.OnlyAt e [] ∧ s.dev.SameMem e))
    ∧ (∀ s dt (fn : Fin 8), Answers (.msixUnmask dt fn none) s (fun e => hasBit e.fnMasked fn = false
        ∧ (∀ k < 8, k ≠ fn.val → hasBit e.fnMasked k = hasBit s.dev.fnMasked k) ∧ e.vecs = s.dev.vecs ∧ s.dev.OnlyAt e [] ∧ s.dev.SameMem e))

/-- IRQ_EVENT. An event of a granted peer that a slot enables makes that slot's source pending at that instant, with the peer and its
source in DETAIL; one of a peer outside every grant freezes the peer; while FABRIC is out of service it changes nothing (R37, R114, R115, R377,
R380). -/
def Obligations.PeerEventArrives : Prop :=
  (∀ s dt (dev : Fin 1024) payload k, s.dev.inService 46 = true → s.dev.peerFrozen dev = false → s.dev.grantOk dev 6 none = true → k < 8 →
      s.dev.get .INT_PEER_ENABLE k = 1 → s.dev.get .INT_PEER_PEER_ID k = dev.val →
      (∀ i < k, s.dev.get .INT_PEER_ENABLE i = 0 ∨ s.dev.get .INT_PEER_PEER_ID i ≠ dev.val) →
      s.dev.get .INT_SRC_CFG_EN (512 + k) = 1 → s.dev.get .INT_SRC_STAT_PENDING (512 + k) = 0 →
      Answers (.irqEvent dt dev payload) s (fun e => e.get .INT_SRC_STAT_PENDING (512 + k) = 1 ∧ e.get .INT_SRC_STAT_COUNT (512 + k) = 1
        ∧ (e.src (512 + k)).first = s.dev.now + dt ∧ (e.src (512 + k)).detail = dev.val + (payload.headD 0#128).toNat % 1024 * 2 ^ 16
        ∧ s.dev.OnlyIn e [.INT_SRC_STAT, .INT_VEC_STAT, .INT_FWD_CNT, .HIF_STAT] ∧ s.dev.SameMem e))
    ∧ (∀ s dt (dev : Fin 1024) payload, s.dev.inService 46 = true → s.dev.peerFrozen dev = false → s.dev.grantOk dev 6 none = false →
      Answers (.irqEvent dt dev payload) s (fun e => e.peerFrozen dev = true ∧ e.get .WIN_PEER_CAUSE_PEER_ID = dev.val
        ∧ e.get .WIN_PEER_CAUSE_KIND = 6 ∧ s.dev.SameMem e))
    ∧ (∀ s dt (dev : Fin 1024) payload, s.dev.inService 46 = false →
      Answers (.irqEvent dt dev payload) s (fun e => s.dev.OnlyAt e [] ∧ s.dev.SameMem e))

/-! ### Islands, device time, faults and safety inputs (R16 to R38, R170, R171, R438 to R447, R467 to R470) -/

/-- Clock requests. A request from 160 to 250 MHz for an engine island is kept, and an island out of service begins to relock at once;
one out of range sets CFG_REJ; when the relock ends the new clock and its supply are in force, and a change that came due meanwhile begins its own
relock (R17, R18). -/
def Obligations.ClockRequests : Prop :=
  (∀ s dt (n : Fin 49) (value : Word), s.dev.frozen 0 = false → n.val < 34 → 160 ≤ value.toNat % 256 → value.toNat % 256 ≤ 250 →
      s.dev.get .SYS_ISL_STAT_IN_SERVICE n = 1 →
      Answers (.sysIslCfgWrite dt n value) s (fun e => e.get .SYS_ISL_CFG_FREQ_MHZ n = value.toNat % 256
        ∧ s.dev.OnlyAt e [(.SYS_ISL_CFG_FREQ_MHZ, n, 0)] ∧ e.islands = s.dev.islands ∧ s.dev.SameMem e))
    ∧ (∀ s dt (n : Fin 49) (value : Word), s.dev.frozen 0 = false → n.val < 34 → 160 ≤ value.toNat % 256 → value.toNat % 256 ≤ 250 →
      s.dev.get .SYS_ISL_STAT_IN_SERVICE n = 0 → s.dev.get .SYS_ISL_STAT_FREQ_MHZ n ≠ value.toNat % 256 →
      s.dev.get .SYS_ISL_STAT_RELOCK n = 0 →
      Answers (.sysIslCfgWrite dt n value) s (fun e => e.get .SYS_ISL_CFG_FREQ_MHZ n = value.toNat % 256
        ∧ e.get .SYS_ISL_STAT_RELOCK n = 1 ∧ (e.island n).pendingMhz = value.toNat % 256
        ∧ s.dev.OnlyIn e [.SYS_ISL_CFG, .SYS_ISL_STAT] ∧ s.dev.SameMem e))
    ∧ (∀ s dt (n : Fin 49) (value : Word), s.dev.frozen 0 = false → n.val < 34 → (value.toNat % 256 < 160 ∨ 250 < value.toNat % 256) →
      Answers (.sysIslCfgWrite dt n value) s (fun e => e.get .SYS_ISL_STAT_CFG_REJ n = 1
        ∧ s.dev.OnlyAt e [(.SYS_ISL_STAT_CFG_REJ, n, 0)] ∧ s.dev.SameMem e))
    ∧ (∀ s dt (n : Fin 49), s.dev.get .SYS_ISL_STAT_RELOCK n = 1 → (s.dev.island n).pendingMhz < 256 →
      s.dev.get .SYS_LAYER_STAT_STATE ≠ 9 → (s.dev.island n).again = false →
      Answers (.islandRelockDone dt n) s (fun e => e.get .SYS_ISL_STAT_FREQ_MHZ n = (s.dev.island n).pendingMhz
        ∧ e.get .SYS_ISL_STAT_VOLT n = (if (s.dev.island n).pendingMhz < 180 then 140 else if (s.dev.island n).pendingMhz < 210 then 150
            else if (s.dev.island n).pendingMhz < 230 then 160 else 170)
        ∧ e.get .SYS_ISL_STAT_RELOCK n = 0 ∧ s.dev.OnlyIn e [.SYS_ISL_STAT] ∧ s.dev.SameMem e))
    ∧ (∀ s dt (n : Fin 49), s.dev.get .SYS_ISL_STAT_RELOCK n = 1 → (s.dev.island n).pendingMhz < 256 →
      s.dev.get .SYS_LAYER_STAT_STATE ≠ 9 → (s.dev.island n).again = true →
      s.dev.get .SYS_ISL_CFG_FREQ_MHZ n ≠ (s.dev.island n).pendingMhz →
      Answers (.islandRelockDone dt n) s (fun e => e.get .SYS_ISL_STAT_FREQ_MHZ n = (s.dev.island n).pendingMhz
        ∧ e.get .SYS_ISL_STAT_RELOCK n = 1 ∧ (e.island n).pendingMhz = s.dev.get .SYS_ISL_CFG_FREQ_MHZ n ∧ (e.island n).again = false
        ∧ s.dev.OnlyIn e [.SYS_ISL_STAT] ∧ s.dev.SameMem e))

/-- Replicas of device time. A dowel pulse that finds an island within half a nanosecond shows its offset, ends holdover, and
ends the resynchronisation of one in service; one that finds an island farther off sets REPLICA_ERR and faults it, unless the island is
still resynchronising (R38; log entry 101); three microseconds without a pulse, or TIME out of service, put an island into
holdover; an uncorrectable bridge error faults the sender (R22, R27, R29, R30, R37, R38). -/
def Obligations.DowelsAndBridges : Prop :=
  (∀ s dt (n : Fin 49) (off : Int), (s.dev.now + dt) % qUs = 0 → s.dev.get .SYS_ISL_STAT_IN_SERVICE 45 = 1 → -128 ≤ off → off ≤ 128 →
      Answers (.dowelPulse dt [(n, off)]) s (fun e => e.gets .SYS_ISL_TOFS_OFFSET n = off ∧ e.get .SYS_ISL_STAT_HOLDOVER n = 0
        ∧ e.get .SYS_ISL_TOFS_PEAK n = max (s.dev.get .SYS_ISL_TOFS_PEAK n) off.natAbs % 256
        ∧ (e.island n).lastDowel = (s.dev.elapse dt).run ∧ (s.dev.get .SYS_ISL_STAT_IN_SERVICE n = 1 → (e.island n).resync = false)
        ∧ s.dev.SameMem e))
    ∧ (∀ s dt (n : Fin 49) (off : Int), (s.dev.now + dt) % qUs = 0 → s.dev.get .SYS_ISL_STAT_IN_SERVICE 45 = 1 → 128 < off.natAbs →
      (s.dev.island n).resync = false → s.dev.mayFault n →
      Answers (.dowelPulse dt [(n, off)]) s (fun e => e.get .SYS_ISL_STAT_REPLICA_ERR n = 1 ∧ s.dev.FaultTaken e n 0))
    ∧ (∀ s dt (n : Fin 49), ((s.dev.island n).lastDowel + 3 * qUs ≤ (s.dev.elapse dt).run ∨ s.dev.get .SYS_ISL_STAT_IN_SERVICE 45 = 0) →
      Answers (.holdoverEntry dt n) s (fun e => e.get .SYS_ISL_STAT_HOLDOVER n = 1 ∧ s.dev.OnlyAt e [(.SYS_ISL_STAT_HOLDOVER, n, 0)]
        ∧ s.dev.SameMem e))
    ∧ (∀ s dt (recv send : Fin 49), s.dev.mayFault send →
      Answers (.bridgeErr dt recv send) s (fun e => e.get .SYS_ISL_STAT_BRIDGE_ERR recv = 1 ∧ s.dev.FaultTaken e send 0))

/-- What takes a unit out of service: a reported fault, with a record of it; a memory error of an active correction bank or of a line
buffer; and the watchdogs, each with its kind of R441: a DRAM request (1), polls (3), a staging request, whose descriptor completes
with 0x03FE (4), an engine that does not advance (5), veneer slots (6), both management controllers (9) (R181, R438, R439, R441). -/
def Obligations.FaultsTakeUnitsOut : Prop :=
  (∀ s dt (u : Fin 83) cause, s.dev.mgmt.inReset = false → s.dev.mayFault u →
      Answers (.unitFault dt u cause) s (fun e => s.dev.FaultTaken e u 0
        ∧ (s.dev.logs → 35 ≤ u.val → u.val < 42 → e.Recorded 0x0d01 4)))
    ∧ (∀ s dt (n : Fin 34), s.dev.mayFault n → Answers (.corEccError dt n true) s (fun e => s.dev.FaultTaken e n 0))
    ∧ (∀ s dt (t : Fin 16), s.dev.mayFault 42 → Answers (.lineBufferEccError dt t) s (fun e => s.dev.FaultTaken e 42 0))
    ∧ (∀ s dt (c : Fin 2), s.dev.mayFault (36 + c) → s.dev.chanServes c = true →
      (∃ r ∈ (s.dev.chan c).readQ ++ (s.dev.chan c).writeQ, r.at' + s.dev.get .DRM_TMO_CMD_US * qUs ≤ (s.dev.elapse dt).run) →
      Answers (.dramCmdTimeout dt c) s (fun e => s.dev.FaultTaken e (36 + c) 1 ∧ e.get .DRM_STAT_TRAINING c = 1
        ∧ e.dramCh = s.dev.dramCh))
    ∧ (∀ s dt (fn : Fin 8), s.dev.mayFault 34 → s.dev.get .MGT_TMO_POLL_FAIL_MAX ≤ (s.dev.fn fn).pollFails →
      Answers (.pollFailTimeout dt fn) s (fun e => s.dev.FaultTaken e 34 3 ∧ (e.fn fn).pollFails = 0))
    ∧ (∀ s dt job j, s.dev.job job = some j → s.dev.mayFault 35 → s.dev.wantsData j = true → s.dev.inService 35 = true →
      s.dev.hostOpen j.fn = true → j.asked + s.dev.fetchLimit ≤ (s.dev.elapse dt).run → j.replay = false → j.orphan = false →
      s.dev.replayKept j = false →
      Answers (.fetchTimeout dt job) s (fun e => s.dev.FaultTaken e 35 4 ∧ e.Done j 0x03fe))
    ∧ (∀ s dt (n : Fin 34), s.dev.mayFault n → (s.dev.elapse dt).advancing n = true → (s.dev.eng n).advanced + qMs ≤ (s.dev.elapse dt).run →
      Answers (.engineProgressTimeout dt n) s (fun e => s.dev.FaultTaken e n 5 ∧ e.get .ENG_STAT_WDOG n = 1))
    ∧ (∀ s dt (t : Fin 16), s.dev.mayFault 42 → s.dev.inService 42 = true → s.dev.get .MGT_TMO_VNR_MISS_MAX ≤ (s.dev.tile t).missRun →
      Answers (.veneerDeadlineTimeout dt t) s (fun e => s.dev.FaultTaken e 42 6))
    ∧ (∀ s dt (c : Fin 2), s.dev.mayFault 48 → Answers (.mgmtWatchdogExpire dt c true) s (fun e => s.dev.FaultTaken e 48 9))

/-- What leaves units in service: a read for a descriptor that fails completes it with 0x0502; one silent management controller is
restarted by the other with a record; an error in a shadow correction bank makes it not valid (R181, R441). -/
def Obligations.ErrorsWithoutAFault : Prop :=
  (∀ s dt job j, s.dev.job job = some j → (s.dev.moverOf { fn := j.fn, job := j.id }).isSome = true → j.code = none → j.replay = false →
      j.orphan = false → s.dev.replayKept j = false →
      Answers (.pcieCompletionTimeout dt job) s (fun e => e.Done j 0x0502 ∧ s.dev.OnlyIn e [.WIN_MOVER_STAT, .HIF_STAT, .MGT_STAT]
        ∧ s.dev.SameMem e))
    ∧ (∀ s dt (c : Fin 2), s.dev.logs → Answers (.mgmtWatchdogExpire dt c false) s (fun e => e.Recorded 0x0d07 3 ∧ e.mgmt.update = none
        ∧ (∀ u < 83, e.get .MGT_UNIT_IN_SERVICE u = s.dev.get .MGT_UNIT_IN_SERVICE u) ∧ s.dev.SameMem e))
    ∧ (∀ s dt (n : Fin 34), Answers (.corEccError dt n false) s (fun e => (e.eng n).corr.shadow.valid = false
        ∧ (e.eng n).corr.active = (s.dev.eng n).corr.active ∧ e.get .COR_STAT_ECC_ERR n = 1
        ∧ (∀ u < 83, e.get .MGT_UNIT_IN_SERVICE u = s.dev.get .MGT_UNIT_IN_SERVICE u) ∧ s.dev.SameMem e))

/-- Self-tests and MGT_UNIT. An island whose test passes and that nothing else keeps out returns to service; one whose test fails stays
out with TEST_FAIL and a record. MGT_UNIT takes a unit out and holds it out, or gives it back and completes when it is in
service; MGMT itself it does not act on (R439, R440, R446). -/
def Obligations.UnitsComeBack : Prop :=
  (∀ s dt (u : Fin 83), 35 ≤ u.val → u.val < 49 → u.val ≠ 36 → u.val ≠ 37 → (s.dev.island u).testing = true →
      (s.dev.island u).bistOk = true → s.dev.mayServe u = true →
      Answers (.unitSelfTestDone dt u true) s (fun e => e.get .MGT_UNIT_IN_SERVICE u = 1 ∧ e.get .SYS_ISL_STAT_IN_SERVICE u = 1
        ∧ e.get .MGT_UNIT_TEST_FAIL u = 0 ∧ (e.island u).faulted = false ∧ (e.island u).testing = false))
    ∧ (∀ s dt (u : Fin 83), u.val ≠ 36 → u.val ≠ 37 → (s.dev.island u).testing = true → s.dev.logs →
      Answers (.unitSelfTestDone dt u false) s (fun e => e.get .MGT_UNIT_TEST_FAIL u = 1 ∧ (e.island u).testing = false
        ∧ (e.island u).faulted = (s.dev.island u).faulted ∧ e.Recorded 0x0d04 4
        ∧ e.get .MGT_UNIT_IN_SERVICE u = s.dev.get .MGT_UNIT_IN_SERVICE u ∧ s.dev.SameMem e))
    ∧ (∀ s dt job j, s.dev.Takes job 0x46 j → j.bits 134 128 = 48 →
      Answers (.mgtUnit dt job) s (fun e => e.Done j 0x02fe ∧ s.dev.SameMem e))
    ∧ (∀ s dt job j u, s.dev.Takes job 0x46 j → u = j.bits 134 128 → u < 83 → u ≠ 48 → j.bits 135 135 = 0 → s.dev.mayFault u →
      Answers (.mgtUnit dt job) s (fun e => e.get .MGT_UNIT_OUT_HOST u = 1 ∧ e.get .MGT_UNIT_IN_SERVICE u = 0
        ∧ (e.island u).faulted = true ∧ e.get .MGT_UNIT_FAULTS u = s.dev.get .MGT_UNIT_FAULTS u ∧ e.job job = none))
    ∧ (∀ s dt job j u, s.dev.Takes job 0x46 j → u = j.bits 134 128 → 38 ≤ u → u < 48 → (u = 46 → 1 ∉ s.dev.mgmt.absent) →
      j.bits 135 135 = 1 → (s.dev.island u).faulted = true → (s.dev.island u).testing = false → s.dev.get .MGT_UNIT_TEST_FAIL u = 0 →
      Answers (.mgtUnit dt job) s (fun e => e.get .MGT_UNIT_OUT_HOST u = 0 ∧ e.get .MGT_UNIT_IN_SERVICE u = 1
        ∧ (e.island u).faulted = false ∧ e.job job = none))

/-- Supplies and reference clocks. A core or always-on rail that fails resets the device, any other takes out the islands it feeds;
without SYS_REFCLK the device is in reset, without FAB_REFCLK FABRIC and without PCIE_REFCLK HOST is out of service, without
LINK_REFCLK every bound channel faults; FABRIC returns with its clock (R428, R467, R468, R470). -/
def Obligations.SuppliesAndClocks : Prop :=
  (∀ s dt rail, rail = 0 ∨ rail = 1 ∨ rail = 10 →
      Answers (.railUndervolt dt rail) s (fun e => e.mgmt.inReset = true ∧ e.jobs = [] ∧ e.atReset))
    ∧ (∀ s dt rail u, rail ≠ 0 → rail ≠ 1 → rail ≠ 10 → s.dev.mgmt.inReset = false → u ∈ railIslands rail → 34 ≤ u →
      (s.dev.island u).faulted = false →
      Answers (.railUndervolt dt rail) s (fun e => e.get .MGT_UNIT_IN_SERVICE u = 0 ∧ (e.island u).faulted = true
        ∧ e.get .MGT_UNIT_FAULTS u = min (s.dev.get .MGT_UNIT_FAULTS u + 1) (2 ^ Fld.width .MGT_UNIT_FAULTS - 1)))
    ∧ (∀ s dt, 0 ∉ s.dev.mgmt.absent →
      Answers (.refclkAbsent dt 0) s (fun e => e.mgmt.inReset = true ∧ e.jobs = [] ∧ 0 ∈ e.mgmt.absent ∧ e.atReset))
    ∧ (∀ s dt, 1 ∉ s.dev.mgmt.absent →
      Answers (.refclkAbsent dt 1) s (fun e => e.get .SYS_ISL_STAT_IN_SERVICE 46 = 0 ∧ e.get .MGT_UNIT_IN_SERVICE 46 = 0
        ∧ 1 ∈ e.mgmt.absent ∧ s.dev.OnlyIn e [.SYS_ISL_STAT, .MGT_UNIT] ∧ s.dev.SameMem e))
    ∧ (∀ s dt, 2 ∉ s.dev.mgmt.absent →
      Answers (.refclkAbsent dt 2) s (fun e => 2 ∈ e.mgmt.absent
        ∧ ∀ n < 34, s.dev.get .ENG_STAT_BOUND_CH n < 32 → e.get .ENG_STAT_LINK_FAULT n = 1 ∧ e.get .ENG_STAT_STATE n = 6))
    ∧ (∀ s dt, 3 ∉ s.dev.mgmt.absent →
      Answers (.refclkAbsent dt 3) s (fun e => e.get .SYS_ISL_STAT_IN_SERVICE 34 = 0 ∧ e.get .MGT_UNIT_IN_SERVICE 34 = 0
        ∧ 3 ∈ e.mgmt.absent ∧ s.dev.SameMem e))
    ∧ (∀ s dt, s.dev.mgmt.inReset = false → s.dev.get .MGT_STAT_BOOT_DONE = 1 → s.dev.get .MGT_UNIT_OUT_HOST 46 = 0 →
      (s.dev.island 46).faulted = false →
      Answers (.refclkReturn dt 1) s (fun e => e.get .SYS_ISL_STAT_IN_SERVICE 46 = 1 ∧ e.get .MGT_UNIT_IN_SERVICE 46 = 1
        ∧ 1 ∉ e.mgmt.absent ∧ s.dev.OnlyAt e [(.SYS_ISL_STAT_IN_SERVICE, 46, 0), (.MGT_UNIT_IN_SERVICE, 46, 0)] ∧ s.dev.SameMem e))

/-- The safety inputs. SAFE_STOP_n low forces every gate low, shows on every engine and is recorded with severity 6; its end clears the
state; GAS_OK low holds the engines that wait for a grant, and GAS_OK high lets KERF grant again (R35, R170, R171). -/
def Obligations.SafetyInputs : Prop :=
  (∀ s dt, s.dev.pins.safeStop = false → s.dev.logs →
      Answers (.safeStopAssert dt) s (fun e => e.pins.safeStop = true ∧ e.Recorded 0x0303 6
        ∧ (∀ n < 34, e.get .ENG_GATE_STAT_SAFE_STOP n = 1 ∧ e.get .ENG_GATE_STAT_SAFE_STOP_SEEN n = 1
          ∧ e.get .ENG_GATE_STAT_GATE_NOW n = 0 ∧ (e.eng n).gate.forced = true ∧ (e.eng n).gate.edges = []) ∧ s.dev.SameMem e))
    ∧ (∀ s dt, Answers (.safeStopEnd dt) s (fun e => e.pins.safeStop = false ∧ (∀ n < 34, e.get .ENG_GATE_STAT_SAFE_STOP n = 0)
        ∧ s.dev.OnlyIn e [.ENG_GATE_STAT] ∧ e.engines = s.dev.engines ∧ s.dev.SameMem e))
    ∧ (∀ s dt, Answers (.gasOkLow dt) s (fun e => e.pins.gasOk = false
        ∧ (∀ r ∈ s.dev.kerf.reqs, r.waits = true → e.get .ENG_GATE_STAT_GAS_HOLD r.eng = 1)
        ∧ e.get .KRF_STAT_GAS_BLOCK = 1 ∧ s.dev.OnlyIn e [.ENG_GATE_STAT, .ENG_STAT, .KRF_STAT, .KRF_ENG_STAT, .KRF_CNT_B] ∧ e.kerf = s.dev.kerf ∧ s.dev.SameMem e))
    ∧ (∀ s dt, Answers (.gasOkHigh dt) s (fun e => e.pins = { s.dev.pins with gasOk := true } ∧ e.get .KRF_STAT_GAS_BLOCK = 0
        ∧ s.dev.OnlyAt e [(.KRF_STAT_GAS_BLOCK, 0, 0)] ∧ s.dev.SameMem e))

/-! ### The layer cycle (R39 to R59, R479, R480) -/

/-- LAYER_OPEN. One that no error stands against takes its number and masks, makes the present instant the epoch and begins the boundary
window, which waits for the epoch sweep; one with a code completes with it and changes no layer state; one that meets an open
layer which has taken its LAYER_CLOSE waits (the model's choice of R44 and R48, log entry 189); the sweep's end ends the
window, LAYER_OPEN completes and RECOAT begins (R43, R44, R48, R49). -/
def Obligations.LayerOpens : Prop :=
  (∀ s dt job j, s.dev.Takes job 0x20 j → s.dev.openCode j = none → s.dev.layerOpen = false → s.dev.inService 38 = true →
      Answers (.layerOpen dt job) s (fun e => e.get .SYS_LAYER_STAT_STATE = 9 ∧ e.get .SYS_LAYER_NUM_LAYER_NUM = j.bits 159 128
        ∧ e.get .SYS_LAYER_EPOCH_LO_NS = nsOf (s.dev.now + dt) ∧ e.get .SYS_LAYER_EPOCH_HI_SEC = secOf (s.dev.now + dt) % 2 ^ 32
        ∧ e.layer.epoch = s.dev.now + dt ∧ e.layer.sweeping = true ∧ e.layer.openJob = some job
        ∧ e.layer.minDwellUs = j.bits 191 160 ∧ e.layer.replayAxes = j.bits 199 192 ∧ e.layer.repeatMax = j.bits 202 200
        ∧ e.layer.streakLimit = j.bits 223 208 ∧ e.layer.streakCtx = j.bits 239 224 ∧ e.layer.tileMask = j.bits 255 240
        ∧ e.layer.engineMask = j.bits 289 256 ∧ e.layer.axisMask = j.bits 297 290 ∧ e.layer.ctxMask = j.bits 313 298
        ∧ e.get .SYS_LAYER_STAT_REPEATS = 0 ∧ e.get .SYS_LAYER_STAT_HELD = 0 ∧ e.get .GRN_STAT_SWEEP = 1 ∧ s.dev.SameMem e))
    ∧ (∀ s dt job j c, s.dev.Takes job 0x20 j → s.dev.openCode j = some c →
      Answers (.layerOpen dt job) s (fun e => e.Done j c ∧ e.get .SYS_LAYER_STAT_STATE = s.dev.get .SYS_LAYER_STAT_STATE
        ∧ e.get .SYS_LAYER_NUM_LAYER_NUM = s.dev.get .SYS_LAYER_NUM_LAYER_NUM ∧ s.dev.SameMem e))
    ∧ (∀ s dt job j, s.dev.Takes job 0x20 j → s.dev.openCode j = none → s.dev.layerOpen = true →
      Answers (.layerOpen dt job) s (fun e => e.job job = some j ∧ e.layer = s.dev.layer ∧ s.dev.OnlyAt e [] ∧ s.dev.SameMem e))
    ∧ (∀ s dt id j, s.dev.layer.sweeping = true → s.dev.get .SYS_LAYER_STAT_STATE = 9 → s.dev.layer.epoch + 2097152 * qNs ≤ s.dev.now + dt →
      s.dev.layer.retraining = 0 → s.dev.relocking = false → s.dev.correctionDue = false → s.dev.layer.openJob = some id →
      s.dev.job id = some j → j.code = none → j.replay = false → j.orphan = false → j.noCqeOk = false → s.dev.replayKept j = false →
      Answers (.epochSweepDone dt) s (fun e => e.get .SYS_LAYER_STAT_STATE = 0 ∧ e.layer.sweeping = false ∧ e.layer.openJob = none
        ∧ e.get .GRN_STAT_SWEEP = 0 ∧ e.Done j 0 ∧ s.dev.SameMem e))
    ∧ (∀ s dt, s.dev.layer.sweeping = false → s.dev.layer.rebaseSweep = true → s.dev.layer.epoch + 2097152 * qNs ≤ s.dev.now + dt →
      Answers (.epochSweepDone dt) s (fun e => e.layer.rebaseSweep = false ∧ e.get .GRN_STAT_SWEEP = 0
        ∧ s.dev.OnlyAt e [(.GRN_STAT_SWEEP, 0, 0)] ∧ s.dev.SameMem e))

/-- LAYER_MARK. It gives PHASE to the unassigned descriptors before it on its target and waits for them; with none before it, it
completes at once and its phase counts as taken; a phase above 4 or not above the last one set completes with 0x0122, a mark
with no layer open with 0x0124 (R45, R48, R479). -/
def Obligations.MarksAssign : Prop :=
  (∀ s dt job (m x : Job), s.dev.Takes job 0x21 m → m.bits 130 128 ≤ 4 → Tab.get 0 s.dev.layer.marksSet m.target ≤ m.bits 130 128 →
      s.dev.layerOpen = true → s.dev.layer.dark = false → s.dev.job x.id = some x → x.target = m.target → x.id < m.id → x.opcode ≠ 0x21 →
      x.phase = none → (x.status = .dispatched ∨ x.status = .taken ∨ x.status = .executing) →
      Answers (.layerMark dt job) s (fun e => e.job x.id = some { x with phase := some (m.bits 130 128) } ∧ e.Begun m (s.dev.now + dt)
        ∧ Tab.get 0 e.layer.marksSet m.target = m.bits 130 128 + 1 ∧ e.get .SYS_LAYER_STAT_STATE = s.dev.get .SYS_LAYER_STAT_STATE
        ∧ s.dev.SameMem e))
    ∧ (∀ s dt job (m : Job), s.dev.Takes job 0x21 m → m.bits 130 128 ≤ 4 → Tab.get 0 s.dev.layer.marksSet m.target ≤ m.bits 130 128 →
      s.dev.layerOpen = true → s.dev.layer.dark = false →
      (∀ x ∈ s.dev.jobs, x.target = m.target → x.id ≠ m.id → x.status = .replayable ∨ x.opcode = 0x21) →
      Answers (.layerMark dt job) s (fun e => e.Done m 0 ∧ m.bits 130 128 + 1 ≤ Tab.get 0 e.layer.marksTaken m.target ∧ s.dev.SameMem e))
    ∧ (∀ s dt job (m : Job), s.dev.Takes job 0x21 m → (4 < m.bits 130 128 ∨ m.bits 130 128 < Tab.get 0 s.dev.layer.marksSet m.target) →
      Answers (.layerMark dt job) s (fun e => e.Done m 0x0122 ∧ e.layer.marksSet = s.dev.layer.marksSet ∧ s.dev.SameMem e))
    ∧ (∀ s dt job (m : Job), s.dev.Takes job 0x21 m → m.bits 130 128 ≤ 4 → Tab.get 0 s.dev.layer.marksSet m.target ≤ m.bits 130 128 →
      s.dev.layerOpen = false →
      Answers (.layerMark dt job) s (fun e => e.Done m 0x0124 ∧ e.layer.marksSet = s.dev.layer.marksSet ∧ s.dev.SameMem e))

/-- The phases. RECOAT ends in POWDER_CHECK, a check that no context fails in PREHEAT, EXPOSE in POST_IMAGE, and POST_IMAGE in the
barrier wait with a broadcast of the ready message; EXPOSE begins once PREHEAT, the dwell and thermal enforcement are over (R41,
R52, R56, R57). -/
def Obligations.PhasesFollow : Prop :=
  (∀ s dt, s.dev.get .SYS_LAYER_STAT_STATE = 0 → (s.dev.elapse dt).phaseOver 0 = true →
      Answers (.phaseEnd dt) s (fun e => e.get .SYS_LAYER_STAT_STATE = 1 ∧ s.dev.SameMem e))
    ∧ (∀ s dt, s.dev.get .SYS_LAYER_STAT_STATE = 1 → (s.dev.elapse dt).phaseOver 1 = true → s.dev.get .SYS_LAYER_STAT_HELD = 0 →
      s.dev.checkFails = none →
      Answers (.phaseEnd dt) s (fun e => e.get .SYS_LAYER_STAT_STATE = 2 ∧ (∀ j ∈ e.jobs, j.status ≠ .replayable) ∧ s.dev.SameMem e))
    ∧ (∀ s dt, s.dev.get .SYS_LAYER_STAT_STATE = 3 → (s.dev.elapse dt).phaseOver 3 = true →
      Answers (.phaseEnd dt) s (fun e => e.get .SYS_LAYER_STAT_STATE = 4 ∧ e.layer.exposeEnd = (s.dev.elapse dt).run
        ∧ e.layer.everExposed = true ∧ s.dev.SameMem e))
    ∧ (∀ s dt, s.dev.get .SYS_LAYER_STAT_STATE = 4 → (s.dev.elapse dt).phaseOver 4 = true → s.dev.layer.closeTaken = true →
      s.dev.drives = true → s.dev.layer.readySent = false → s.dev.left s.dev.ownId = false →
      (∀ r ∈ s.dev.layer.ready, r.1 = s.dev.ownId → r.2.1 ≠ s.dev.get .SYS_LAYER_NUM_LAYER_NUM) →
      Answers (.phaseEnd dt) s (fun e => e.get .SYS_LAYER_STAT_STATE = 10 ∧ e.layer.waitSince = s.dev.now + dt
        ∧ (s.dev.ownId, s.dev.get .SYS_LAYER_NUM_LAYER_NUM, s.dev.now + dt) ∈ e.layer.ready
        ∧ (∃ m ∈ e.fabOut, m.kind = 0x10 ∧ m.bcast = true) ∧ s.dev.SameMem e))
    ∧ (∀ s dt, s.dev.get .SYS_LAYER_STAT_STATE = 2 → (s.dev.elapse dt).phaseOver 2 = true → s.dev.get .THM_STAT_STATE ≠ 2 →
      (s.dev.layer.everExposed = false ∨ s.dev.layer.exposeEnd + s.dev.layer.minDwellUs * qUs ≤ (s.dev.elapse dt).run) →
      Answers (.exposeStart dt) s (fun e => e.get .SYS_LAYER_STAT_STATE = 3 ∧ e.jobs = s.dev.jobs ∧ s.dev.SameMem e))

/-- LAYER_CLOSE is taken once for the open layer and waits for the release; a second completes with 0x0124. LAYER_RESUME of a held
layer goes on to PREHEAT, repeats the recoat, or ends the layer dark; of one not held it completes with 0x0125 (R46 to R48,
R54, R55). -/
def Obligations.CloseAndResume : Prop :=
  (∀ s dt job j, s.dev.Takes job 0x22 j → s.dev.layerOpen = true → s.dev.layer.closeTaken = false →
      Answers (.layerClose dt job) s (fun e => e.Begun j (s.dev.now + dt)
        ∧ e.layer = { s.dev.layer with closeTaken := true, closeJob := some job } ∧ s.dev.OnlyAt e [] ∧ s.dev.SameMem e))
    ∧ (∀ s dt job j, s.dev.Takes job 0x22 j → s.dev.layerOpen = false ∨ s.dev.layer.closeTaken = true →
      Answers (.layerClose dt job) s (fun e => e.Done j 0x0124 ∧ e.layer.closeJob = s.dev.layer.closeJob ∧ s.dev.SameMem e))
    ∧ (∀ s dt job j, s.dev.Takes job 0x23 j → s.dev.get .SYS_LAYER_STAT_HELD = 1 → j.bits 129 128 = 0 →
      Answers (.layerResume dt job) s (fun e => e.get .SYS_LAYER_STAT_STATE = 2 ∧ e.get .SYS_LAYER_STAT_HELD = 0 ∧ e.Done j 0
        ∧ e.layer.dark = s.dev.layer.dark ∧ s.dev.SameMem e))
    ∧ (∀ s dt job j, s.dev.Takes job 0x23 j → s.dev.get .SYS_LAYER_STAT_HELD = 1 → j.bits 129 128 = 1 → j.phase = none →
      s.dev.get .SYS_LAYER_STAT_REPEATS < 7 →
      Answers (.layerResume dt job) s (fun e => e.get .SYS_LAYER_STAT_STATE = 0 ∧ e.get .SYS_LAYER_STAT_HELD = 0
        ∧ e.get .SYS_LAYER_STAT_REPEATS = s.dev.get .SYS_LAYER_STAT_REPEATS + 1 ∧ e.Done j 0 ∧ s.dev.SameMem e))
    ∧ (∀ s dt job j, s.dev.Takes job 0x23 j → s.dev.get .SYS_LAYER_STAT_HELD = 1 → j.bits 129 128 = 2 →
      Answers (.layerResume dt job) s (fun e => e.get .SYS_LAYER_STAT_STATE = 2 ∧ e.get .SYS_LAYER_STAT_HELD = 0 ∧ e.layer.dark = true
        ∧ e.Done j 0 ∧ s.dev.SameMem e))
    ∧ (∀ s dt job j, s.dev.Takes job 0x23 j → s.dev.get .SYS_LAYER_STAT_HELD = 0 ∨ j.bits 129 128 = 3 →
      Answers (.layerResume dt job) s (fun e => e.Done j 0x0125 ∧ e.get .SYS_LAYER_STAT_STATE = s.dev.get .SYS_LAYER_STAT_STATE
        ∧ s.dev.SameMem e))

/-- The barrier. A granted ready message of the device's group is held; the last one sets the release to the latest ready instant
plus LEAD_US; at the release LAYER_CLOSE completes and no layer is open; every ten seconds of waiting are recorded (R57, R59). -/
def Obligations.BarrierReleases : Prop :=
  (∀ s dt (dev : Fin 1024) (g : Gran), s.dev.inService 46 = true → s.dev.grantOk dev 3 none = true → bitsOf g.toNat 103 96 = s.dev.get .FAB_GROUP_BARRIER_GRP →
      s.dev.get .SYS_LAYER_STAT_STATE ≠ 10 → (∀ r ∈ s.dev.layer.ready, r.1 = dev.val → r.2.1 ≠ bitsOf g.toNat 31 0) →
      Answers (.barrierReady dt dev [g]) s (fun e =>
        (dev.val, bitsOf g.toNat 31 0, (resolveTs64 (s.dev.now + dt) (bitsOf g.toNat 95 32)).toNat) ∈ e.layer.ready
          ∧ s.dev.OnlyIn e [.SYS_BARRIER_STAT] ∧ s.dev.SameMem e))
    ∧ (∀ s dt (dev : Fin 1024) (g : Gran) (r : Nat × Nat × Nat) n, s.dev.inService 46 = true → s.dev.grantOk dev 3 none = true →
      bitsOf g.toNat 103 96 = s.dev.get .FAB_GROUP_BARRIER_GRP →
      s.dev.get .SYS_LAYER_STAT_STATE = 10 → s.dev.layer.release = none → bitsOf g.toNat 31 0 = s.dev.get .SYS_LAYER_NUM_LAYER_NUM →
      s.dev.readyFor (s.dev.get .SYS_LAYER_NUM_LAYER_NUM) = [r] → s.dev.readyNeeded = 2 → s.dev.left dev = false →
      (∀ x ∈ s.dev.layer.ready, x.1 = dev.val → x.2.1 ≠ bitsOf g.toNat 31 0) →
      n = max r.2.2 (resolveTs64 (s.dev.now + dt) (bitsOf g.toNat 95 32)).toNat + s.dev.get .SYS_BARRIER_CFG_LEAD_US * qUs →
      s.dev.now + dt ≤ n →
      Answers (.barrierReady dt dev [g]) s (fun e => e.layer.release = some n ∧ e.get .SYS_BARRIER_STAT_READY_COUNT = 2
        ∧ s.dev.OnlyAt e [(.SYS_BARRIER_STAT_READY_COUNT, 0, 0)] ∧ s.dev.SameMem e))
    ∧ (∀ s dt id j (t : Nat), s.dev.get .SYS_LAYER_STAT_STATE = 10 → s.dev.layer.release = some t → t ≤ s.dev.now + dt →
      s.dev.layer.closeJob = some id → s.dev.job id = some j → j.code = none → j.replay = false → j.orphan = false → j.noCqeOk = false →
      s.dev.replayKept j = false →
      Answers (.barrierRelease dt) s (fun e => e.get .SYS_LAYER_STAT_STATE = 8 ∧ e.layer.closeJob = none ∧ e.layer.release = none
        ∧ e.layer.released = t ∧ e.Done j 0 ∧ s.dev.SameMem e))
    ∧ (∀ s dt, s.dev.get .SYS_LAYER_STAT_STATE = 10 → s.dev.logs →
      s.dev.layer.waitSince + (s.dev.layer.reminders + 1) * 10 * qSec ≤ s.dev.now + dt →
      Answers (.barrierWaitReminder dt) s (fun e => e.layer.reminders = s.dev.layer.reminders + 1 ∧ e.Recorded 0x0113 3
        ∧ e.get .SYS_LAYER_STAT_STATE = 10 ∧ s.dev.SameMem e))

/-- The mid-layer rebase. 64,000 ms after the epoch of an open layer REBASE is set and recorded; once every gate is low the sweep starts
with its own start as the epoch (R51). -/
def Obligations.LayerRebases : Prop :=
  (∀ s dt, s.dev.layerOpen = true → s.dev.get .SYS_LAYER_STAT_STATE ≠ 9 → s.dev.layer.rebase = false → s.dev.layer.rebaseSweep = false →
      s.dev.layer.epoch + 64000 * qMs ≤ s.dev.now + dt → s.dev.logs →
      Answers (.midLayerRebase dt) s (fun e => e.get .SYS_LAYER_STAT_REBASE = 1 ∧ e.layer = { s.dev.layer with rebase := true }
        ∧ e.Recorded 0x0110 2 ∧ s.dev.SameMem e))
    ∧ (∀ s dt, s.dev.layer.rebase = true → (∀ n < 34, (s.dev.eng n).plans = [] ∧ (s.dev.eng n).gate.edges = []) →
      Answers (.rebaseSweepStart dt) s (fun e => e.get .GRN_STAT_SWEEP = 1 ∧ e.layer.rebase = false ∧ e.layer.rebaseSweep = true
        ∧ e.layer.epoch = s.dev.now + dt ∧ e.get .SYS_LAYER_EPOCH_LO_NS = nsOf (s.dev.now + dt)
        ∧ e.get .SYS_LAYER_EPOCH_HI_SEC = secOf (s.dev.now + dt) % 2 ^ 32
        ∧ s.dev.OnlyIn e [.GRN_STAT, .GRN_CNT, .GRN_LOST, .SYS_LAYER_EPOCH_LO, .SYS_LAYER_EPOCH_HI] ∧ (s.dev.grain.bad = [] →
          s.dev.OnlyAt e [(.GRN_STAT_SWEEP, 0, 0), (.SYS_LAYER_EPOCH_LO_NS, 0, 0), (.SYS_LAYER_EPOCH_HI_SEC, 0, 0)]) ∧ s.dev.SameMem e))

/-! ### Scan engines and channel links (R101, R116 to R172) -/

/-- An engine's stream. Vector blocks, inline vectors and new limits join the stream of the engine that executes for the target, but
one that discards after a channel fault or is in the SAFE_STOP state ends them; staged records go on into the FIFO; a record enters the look-ahead, new limits wait behind it, and one that its correction bank cannot
place is not executed; a park order moves the spot and completes at rest (R101, R123 to R126, R131, R177). -/
def Obligations.EngineStreams : Prop :=
  (∀ s dt job j, s.dev.Takes job 0x30 j → (s.dev.eng (s.dev.execEngine j.target)).discard = false →
      s.dev.get .ENG_GATE_STAT_SAFE_STOP (s.dev.execEngine j.target) = 0 →
      Answers (.vecBlock dt job) s (fun e => (e.eng (s.dev.execEngine j.target)).stream = (s.dev.eng (s.dev.execEngine j.target)).stream ++ [job]
        ∧ e.Begun j (s.dev.now + dt) ∧ s.dev.OnlyAt e [] ∧ s.dev.SameMem e))
    ∧ (∀ s dt job j, s.dev.Takes job 0x31 j → (s.dev.eng (s.dev.execEngine j.target)).discard = false →
      s.dev.get .ENG_GATE_STAT_SAFE_STOP (s.dev.execEngine j.target) = 0 →
      Answers (.vecInline dt job) s (fun e => (e.eng (s.dev.execEngine j.target)).stream = (s.dev.eng (s.dev.execEngine j.target)).stream ++ [job]
        ∧ e.Begun j (s.dev.now + dt) ∧ s.dev.OnlyAt e [] ∧ s.dev.SameMem e))
    ∧ (∀ s dt job j, s.dev.Takes job 0x33 j → (s.dev.eng (s.dev.execEngine j.target)).discard = false →
      Answers (.engLimits dt job) s (fun e => (e.eng (s.dev.execEngine j.target)).stream = (s.dev.eng (s.dev.execEngine j.target)).stream ++ [job]
        ∧ e.Begun j (s.dev.now + dt) ∧ s.dev.OnlyAt e [] ∧ s.dev.SameMem e))
    ∧ (∀ s dt job j, s.dev.Takes job 0x30 j → (s.dev.eng (s.dev.execEngine j.target)).discard = true →
      Answers (.vecBlock dt job) s (fun e => e.Done j 0x0251 ∧ e.engines = s.dev.engines ∧ s.dev.SameMem e))
    ∧ (∀ s dt job j, s.dev.Takes job 0x31 j → (s.dev.eng (s.dev.execEngine j.target)).discard = false →
      s.dev.get .ENG_GATE_STAT_SAFE_STOP (s.dev.execEngine j.target) = 1 →
      Answers (.vecInline dt job) s (fun e => e.Done j 0x0260 ∧ e.engines = s.dev.engines ∧ s.dev.SameMem e))
    ∧ (∀ s dt (n : Fin 34) id j, s.dev.inService 35 = true → (s.dev.eng n).stream = [id] → s.dev.job id = some j → j.vector = true →
      fifoLevel (s.dev.eng n).fifo < s.dev.fifoLow n → j.progress < j.records.length →
      j.records.length - j.progress ≤ min 512 (3840 - fifoLevel (s.dev.eng n).fifo) →
      Answers (.fifoRefillDone dt n) s (fun e =>
        (e.eng n).fifo = (s.dev.eng n).fifo ++ (j.records.drop j.progress).map (EItem.record id) ∧ (e.eng n).stream = []
          ∧ e.get .ENG_FIFO_LEVEL n = fifoLevel (s.dev.eng n).fifo + (j.records.length - j.progress)
          ∧ s.dev.OnlyAt e [(.ENG_FIFO_LEVEL, n, 0)] ∧ s.dev.SameMem e))
    ∧ (∀ s dt (n : Fin 34) id (g : Gran) (rest : List EItem), (s.dev.eng n).fifo = .record id g :: rest → recCls g.toNat = 6 →
      (s.dev.eng n).plans ≠ [] → (s.dev.eng n).look.length < 512 → (∀ b, s.dev.bankFor n = some b → b.valid = true) →
      Answers (.recordEnterLookahead dt n) s (fun e => (e.eng n).fifo = rest ∧ e.get .ENG_FIFO_LEVEL n = fifoLevel rest % 4096
        ∧ (e.eng n).look.map (·.ser) = (s.dev.eng n).look.map (·.ser) ++ [(s.dev.eng n).nextSer]
        ∧ (e.eng n).nextSer = (s.dev.eng n).nextSer + 1 ∧ s.dev.SameMem e))
    ∧ (∀ s dt (n : Fin 34) id (j : Job) (rest : List EItem), (s.dev.eng n).fifo = .limits id :: rest → s.dev.job id = some j →
      (s.dev.eng n).plans ≠ [] → (s.dev.eng n).look.length < 512 →
      Answers (.recordEnterLookahead dt n) s (fun e => (e.eng n).fifo = rest ∧ (e.eng n).newLims = (s.dev.eng n).newLims ++ [(id, j.lims)]
        ∧ (e.eng n).look = (s.dev.eng n).look ∧ s.dev.SameMem e))
    ∧ (∀ s dt (n : Fin 34) id (g : Gran) (rest : List EItem) (b : Bank), (s.dev.eng n).fifo = .record id g :: rest → recCls g.toNat ≠ 6 →
      recCls g.toNat ≠ 7 → (s.dev.eng n).plans ≠ [] → (s.dev.eng n).look.length < 512 → s.dev.bankFor n = some b →
      b.valid = false → s.dev.logs →
      Answers (.recordEnterLookahead dt n) s (fun e => e.get .COR_STAT_OUT_FIELD n = 1 ∧ e.Recorded 0x0304 4 ∧ id ∈ (e.eng n).outField
        ∧ (e.eng n).look.map (·.ser) = (s.dev.eng n).look.map (·.ser)
        ∧ (e.eng n).fifo = rest.filter (fun x => match x with | .record k _ => k != id | _ => true) ∧ s.dev.SameMem e))
    ∧ (∀ s dt job j n, s.dev.Takes job 0x32 j → s.dev.execEngine j.target = n → n < 34 → s.dev.earlierDone j = true →
      (s.dev.elapse dt).atRest n = true → (s.dev.eng n).parking = none → (s.dev.eng n).newLims = [] → (s.dev.eng n).outField = [] →
      (s.dev.eng n).discard = false →
      Answers (.engPark dt job) s (fun e => e.get .ENG_STAT_STATE n = 4 ∧ (e.eng n).parking = some (some job) ∧ e.Begun j (s.dev.now + dt)
        ∧ (e.eng n).look = (s.dev.eng n).look ∧ (e.eng n).tail = (s.dev.eng n).tail ∧ s.dev.SameMem e))
    ∧ (∀ s dt (n : Fin 34) job j, (s.dev.eng n).parking = some (some job) → (s.dev.eng n).plans = [] →
      endOf 0 (s.dev.eng n).moves ≤ s.dev.now + dt → s.dev.get .ENG_STAT_STATE n = 4 → s.dev.job job = some j → j.code = none →
      j.replay = false → j.orphan = false → j.noCqeOk = false → s.dev.replayKept j = false →
      Answers (.parkDone dt n) s (fun e => e.get .ENG_STAT_STATE n = 5 ∧ (e.eng n).parking = none ∧ (e.eng n).moves = [] ∧ e.Done j 0
        ∧ s.dev.SameMem e))

/-- Exposure. A record is presented to KERF with the present instant as its request instant; a planned record whose instant has come
starts and counts; at its end its claim is released, and the last record of a descriptor completes it; the gate's compare unit
fires a pulse of the train's width, or finds the position behind and suppresses the rest of the train or moves on to a position
that is not behind (R124, R129, R135, R160 to R163, R201, R202). -/
def Obligations.RecordsPlay : Prop :=
  (∀ s dt (n : Fin 34) (r : LRec), s.dev.toRequest n = some r → r.share = none → r.clear = false → s.dev.get .SYS_LAYER_STAT_STATE = 3 →
      s.dev.get .ENG_STAT_STATE n ≠ 0 → s.dev.get .ENG_STAT_STATE n ≠ 6 →
      Answers (.kerfRequest dt n) s (fun e =>
        ({ eng := n, ser := r.ser, cls := r.cls, x0 := r.S.x, y0 := r.S.y, x1 := r.E.x, y1 := r.E.y, inst := s.dev.now + dt } : KReq)
          ∈ e.kerf.reqs
          ∧ (s.dev.pins.gasOk = false → e.get .ENG_GATE_STAT_GAS_HOLD n = 1) ∧ s.dev.SameMem e))
    ∧ (∀ s dt (n : Fin 34) (d : Dev) (p : Plan), d = (if ((s.dev.elapse dt).restActs n).atRest n then (((s.dev.elapse dt).restActs n).passHead n (s.dev.now + dt)).restActs n
        else (s.dev.elapse dt).restActs n).extendTo n (s.dev.now + dt) →
      (d.eng n).plans.find? (fun q => !q.started) = some p → p.tBody ≤ s.dev.now + dt → p.lead = [] →
      Answers (.recordStart dt n) s (fun e => e.get .ENG_STAT_STATE n = 2
        ∧ e.get .ENG_REC_SEQ_SEQ n = (d.get .ENG_REC_SEQ_SEQ n + 1) % 2 ^ 32
        ∧ (∃ q ∈ (e.eng n).plans, q.r.ser = p.r.ser ∧ q.started = true) ∧ (e.eng n).advanced = (s.dev.elapse dt).run
        ∧ s.dev.SameMem e))
    ∧ (∀ s dt (n : Fin 34) (d : Dev) (p : Plan) j, d = ((s.dev.elapse dt).extendTo n (s.dev.now + dt)).flushGate n →
      (d.eng n).plans.head? = some p → p.started = true → p.blended.isSome = true → p.tEnd ≤ s.dev.now + dt →
      (d.eng n).loop.bothFault = false → p.r.eob = true → d.job p.r.job = some j → j.code = none → j.replay = false → j.orphan = false →
      j.noCqeOk = false → d.replayKept j = false →
      Answers (.recordEnd dt n) s (fun e => (e.eng n).plans.map (·.r.ser) = ((d.eng n).plans.drop 1).map (·.r.ser)
        ∧ (∀ r ∈ e.kerf.reqs, r.eng = n.val → r.ser ≠ p.r.ser) ∧ e.Done j ((d.eng n).endCode.getD 0)
        ∧ (e.eng n).spot = posAt p.r.S p.pieces p.tDone ∧ s.dev.SameMem e))
    ∧ (∀ s dt (n : Fin 34) (d : Dev) (tr : Train), d = (s.dev.elapse dt).extendTo n (s.dev.now + dt + s.dev.leadOf n) →
      (d.eng n).gate.train = some tr → (d.eng n).gate.olds = [] → tr.mode ≠ 0 → tr.hold = false → tr.step ≠ 0 → tr.next ≤ tr.known →
      tr.tEnd = none → tr.timeOf tr.next + tr.width ≤ endOf tr.t0 tr.trace → (d.eng n).gate.early + tr.advOn ≤ tr.timeOf tr.next →
      Answers (.gateCompareHit dt n) s (fun e =>
        (∃ l ∈ (e.eng n).gate.light, l.rise = tr.timeOf tr.next ∧ l.fall = some (tr.timeOf tr.next + tr.width) ∧ l.cls = tr.cls)
          ∧ (e.eng n).gate.train = some { tr with next := tr.next + tr.step } ∧ s.dev.SameMem e))
    ∧ (∀ s dt (n : Fin 34) (d : Dev) (tr : Train), d = (s.dev.elapse dt).extendTo n (s.dev.now + dt + s.dev.leadOf n) →
      (d.eng n).gate.train = some tr → (d.eng n).gate.olds = [] → tr.mode ≠ 0 → tr.hold = false → tr.step ≠ 0 → tr.next ≤ tr.known →
      tr.timeOf tr.next < (d.eng n).gate.early + tr.advOn → tr.suppress = true →
      Answers (.gateCompareHit dt n) s (fun e => e.get .ENG_GATE_STAT_COMPARE_BEHIND n = 1 ∧ e.get .ENG_GATE_STAT_BEHIND_HOLD n = 1
        ∧ e.get .ENG_GATE_SKIP_BEHIND n
            = min (d.get .ENG_GATE_SKIP_BEHIND n + (if tr.tEnd.isSome then tr.left else 0)) (2 ^ Fld.width .ENG_GATE_SKIP_BEHIND - 1)
        ∧ (∀ l ∈ (e.eng n).gate.light, l ∈ (d.eng n).gate.light) ∧ (e.eng n).gate.train = some { tr with hold := true } ∧ s.dev.SameMem e))
    ∧ (∀ s dt (n : Fin 34) (d : Dev) (tr : Train), d = (s.dev.elapse dt).extendTo n (s.dev.now + dt + s.dev.leadOf n) →
      (d.eng n).gate.train = some tr → (d.eng n).gate.olds = [] → tr.mode ≠ 0 → tr.hold = false → tr.step ≠ 0 → tr.next ≤ tr.known →
      tr.tEnd = none → tr.timeOf tr.next < (d.eng n).gate.early + tr.advOn → tr.suppress = false →
      (d.eng n).gate.early + tr.advOn ≤ endOf tr.t0 tr.trace →
      Answers (.gateCompareHit dt n) s (fun e => e.get .ENG_GATE_STAT_COMPARE_BEHIND n = 1
        ∧ e.get .ENG_GATE_SKIP_BEHIND n
            = min (d.get .ENG_GATE_SKIP_BEHIND n + tr.skips ((d.eng n).gate.early + tr.advOn)) (2 ^ Fld.width .ENG_GATE_SKIP_BEHIND - 1)
        ∧ (∀ l ∈ (e.eng n).gate.light, l ∈ (d.eng n).gate.light)
        ∧ (e.eng n).gate.train = some { tr with next := tr.next + tr.skips ((d.eng n).gate.early + tr.advOn) * tr.step }
        ∧ s.dev.SameMem e))

/-- Channel links. Every channel gets a frame at each multiple of 500 ns, an unbound one the last setpoints with power 0; a good return
frame reports the head, and sixteen in a row with READY bring the link up; a frame whose CRC is wrong is no frame, but
one that shows another channel, be its CRC right or not, a link that does not come up, one that is lost and a wrong gate level fault the channel (R136, R141, R145 to R149,
R169). -/
def Obligations.ChannelLinks : Prop :=
  (∀ s dt, (s.dev.now + dt) % (500 * qNs) = 0 → s.dev.inService 40 = true → s.dev.fenced = false →
      Answers (.setpointFrame dt) s (fun e => (∀ ch < 32, (e.link ch).seq = ((s.dev.link ch).seq + 1) % 256)
        ∧ (∀ ch < 32, s.dev.engineOf ch = none → (e.link ch).last = (s.dev.link ch).last % 2 ^ 72 + s.dev.frameTail ch 2 (s.dev.link ch).seq)
        ∧ s.dev.OnlyIn e [.ENG_STAT, .ENG_ARC, .ENG_POS_X, .ENG_POS_Y, .ENG_LINK_ERR, .ENG_JCT, .ENG_GATE_STAT, .ENG_GATE_SKIP, .ENG_GATE_PULSES,
          .ENG_GATE_LAT, .COR_STAT, .MPL_STAT, .CAL_TAP_MAP, .CAL_TAP_REF, .CAL_GATE_LAT, .CAL_ADC_CELL, .CAL_ADC_REF] ∧ s.dev.SameMem e))
    ∧ (∀ s dt (ch : Fin 32) (frame : Gran) (crc : BitVec 16) n, s.dev.engineOf ch = some n → crc16 (leBytes 16 frame.toNat) = crc.toNat →
      bitsOf frame.toNat 101 96 = ch → bitsOf frame.toNat 79 72 = ((s.dev.link ch).seq + 255) % 256 → hasBit frame.toNat 83 = false →
      hasBit frame.toNat 80 = true → s.dev.get .ENG_STAT_LINK_UP n = 0 → 15 ≤ (s.dev.link ch).good →
      Answers (.returnFrame dt ch frame crc) s (fun e => e.get .ENG_STAT_LINK_UP n = 1
        ∧ e.get .ENG_HEAD_STAT_STAT n = bitsOf frame.toNat 95 80 ∧ e.get .ENG_HEAD_STAT_CODE n = bitsOf frame.toNat 127 112
        ∧ (e.link ch).bad = 0 ∧ (e.link ch).answered = true
        ∧ s.dev.OnlyAt e [(.ENG_STAT_LINK_UP, n, 0), (.ENG_HEAD_STAT_STAT, n, 0), (.ENG_HEAD_STAT_CODE, n, 0)] ∧ s.dev.SameMem e))
    ∧ (∀ s dt (ch : Fin 32) (frame : Gran) (crc : BitVec 16), crc16 (leBytes 16 frame.toNat) ≠ crc.toNat →
      bitsOf frame.toNat 101 96 = ch →
      Answers (.returnFrame dt ch frame crc) s (fun e => e.links = s.dev.links ∧ s.dev.OnlyAt e [] ∧ s.dev.SameMem e))
    ∧ (∀ s dt (ch : Fin 32) (frame : Gran) (crc : BitVec 16) n, s.dev.engineOf ch = some n →
      bitsOf frame.toNat 101 96 ≠ ch → s.dev.get .ENG_STAT_LINK_UP n = 1 →
      Answers (.returnFrame dt ch frame crc) s (fun e => s.dev.ChannelFaulted e n ∧ e.get .ENG_STAT_MISWIRE n = 1
        ∧ e.get .ENG_STAT_LINK_FAULT n = 1 ∧ (e.link ch).faulted = true ∧ s.dev.SameMem e))
    ∧ (∀ s dt (ch : Fin 32) n, s.dev.engineOf ch = some n → s.dev.get .ENG_STAT_LINK_UP n = 0 → (s.dev.link ch).faulted = false →
      (s.dev.link ch).since + 10 * qMs ≤ (s.dev.elapse dt).run →
      Answers (.linkUpTimeout dt ch) s (fun e => s.dev.ChannelFaulted e n ∧ e.get .ENG_STAT_LINK_FAULT n = 1 ∧ s.dev.SameMem e))
    ∧ (∀ s dt (ch : Fin 32) n, s.dev.engineOf ch = some n → s.dev.get .ENG_STAT_LINK_UP n = 1 →
      s.dev.get .ENG_LINK_CFG_LOSS_FRAMES n ≤ (s.dev.link ch).bad →
      Answers (.linkLossFault dt ch) s (fun e => s.dev.ChannelFaulted e n ∧ e.get .ENG_STAT_LINK_FAULT n = 1 ∧ s.dev.SameMem e))
    ∧ (∀ s dt (ch : Fin 32) n, s.dev.engineOf ch = some n →
      Answers (.gateMonFault dt ch) s (fun e => s.dev.ChannelFaulted e n ∧ e.get .ENG_GATE_STAT_GATE_MON n = 1
        ∧ e.get .ENG_GATE_STAT_GATE_NOW n = 0 ∧ (e.eng n).gate.edges = [] ∧ s.dev.SameMem e))

/-! ### Correction banks, scarf zones and the kerf arbiter (R173 to R212, R481) -/

/-- Correction banks. A load takes the shadow bank and waits while another or a swap is under way; an image that passes every check makes
the shadow bank valid, one that fails ends its descriptor with the check's code; a swap with no valid shadow bank completes with
0x0271, one at its point exchanges the banks and completes; a save writes the active bank's image to host memory; an error of the
shadow bank makes it not valid (R175, R179 to R181, R481). On an engine that a channel fault has stopped each of the three descriptors
ends with 0x0251 (R148). -/
def Obligations.CorrectionBanks : Prop :=
  (∀ s dt job j n, s.dev.Takes job 0x34 j → s.dev.execEngine j.target = n → n < 34 → (s.dev.eng n).discard = false → s.dev.corBusy n = false →
      Answers (.corLoad dt job) s (fun e => (e.eng n).corr.loading = some job ∧ (e.eng n).corr.shadow = {}
        ∧ (e.eng n).corr.active = (s.dev.eng n).corr.active ∧ e.get .COR_STAT_SHADOW_VALID n = 0
        ∧ e.get .COR_STAT_SWAP_PENDING n = (if j.bits 193 192 = 2 then 0 else 1)
        ∧ (e.eng n).stream = (s.dev.eng n).stream ++ (if j.bits 193 192 = 0 then [job] else []) ∧ e.Begun j (s.dev.now + dt)
        ∧ s.dev.OnlyIn e [.COR_STAT, .COR_SHD_CRC, .COR_ACT_X0, .COR_ACT_Y0, .COR_ACT_PITCH, .COR_ACT_CRC] ∧ s.dev.SameMem e))
    ∧ (∀ s dt job j, s.dev.Takes job 0x34 j → (s.dev.eng (s.dev.execEngine j.target)).discard = false → 
      s.dev.corBusy (s.dev.execEngine j.target) = true →
      Answers (.corLoad dt job) s (fun e => e.jobs = s.dev.jobs ∧ e.engines = s.dev.engines ∧ s.dev.OnlyAt e [] ∧ s.dev.SameMem e))
    ∧ (∀ s dt (n : Fin 34) id j (b : Bank), (s.dev.eng n).corr.loading = some id → s.dev.job id = some j →
      b = { image := (granBytes (j.data.getD [])).take imageLen, valid := true } → b.check = none → j.bits 193 192 = 2 → j.code = none →
      j.replay = false → j.orphan = false → j.noCqeOk = false → s.dev.replayKept j = false →
      Answers (.corLoadDone dt n) s (fun e => (e.eng n).corr.shadow = b ∧ (e.eng n).corr.loading = none
        ∧ e.get .COR_STAT_SHADOW_VALID n = 1 ∧ e.get .COR_SHD_CRC_CRC n = b.crc ∧ e.Done j 0 ∧ s.dev.SameMem e))
    ∧ (∀ s dt (n : Fin 34) id j c, (s.dev.eng n).corr.loading = some id → s.dev.job id = some j →
      Bank.check { image := (granBytes (j.data.getD [])).take imageLen, valid := true } = some c → j.code = none → j.replay = false →
      j.orphan = false → j.noCqeOk = false → s.dev.replayKept j = false →
      Answers (.corLoadDone dt n) s (fun e => e.get .COR_STAT_LOAD_ERR n = 1 ∧ e.get .COR_STAT_SHADOW_VALID n = 0
        ∧ (e.eng n).corr.loading = none ∧ e.Done j c ∧ s.dev.SameMem e))
    ∧ (∀ s dt job j n, s.dev.Takes job 0x35 j → s.dev.execEngine j.target = n → n < 34 → (s.dev.eng n).discard = false → s.dev.corBusy n = false →
      (s.dev.eng n).corr.shadow.valid = true →
      Answers (.corSwap dt job) s (fun e => (e.eng n).corr.pending = some job ∧ (e.eng n).stream = (s.dev.eng n).stream ++ [job]
        ∧ e.get .COR_STAT_SWAP_PENDING n = 1 ∧ e.Begun j (s.dev.now + dt) ∧ s.dev.SameMem e))
    ∧ (∀ s dt job j n, s.dev.Takes job 0x35 j → s.dev.execEngine j.target = n → (s.dev.eng n).discard = false → s.dev.corBusy n = false →
      (s.dev.eng n).corr.shadow.valid = false →
      Answers (.corSwap dt job) s (fun e => e.Done j 0x0271 ∧ e.engines = s.dev.engines ∧ s.dev.SameMem e))
    ∧ (∀ s dt (n : Fin 34) id j, (s.dev.elapse dt).swapDue n = true → (s.dev.eng n).corr.pending = some id → s.dev.job id = some j →
      j.code = none → j.replay = false → j.orphan = false → j.noCqeOk = false → s.dev.replayKept j = false →
      Answers (.corBankSwap dt n) s (fun e => (e.eng n).corr.active = (s.dev.eng n).corr.shadow
        ∧ (e.eng n).corr.shadow = (s.dev.eng n).corr.active ∧ (e.eng n).corr.pending = none ∧ e.get .COR_STAT_SWAP_PENDING n = 0
        ∧ e.get .COR_STAT_ACTIVE_BANK n = 1 - s.dev.get .COR_STAT_ACTIVE_BANK n ∧ e.Done j 0 ∧ s.dev.SameMem e))
    ∧ (∀ s dt job j (b : Bank), s.dev.Takes job 0x36 j → (s.dev.eng (s.dev.execEngine j.target)).discard = false → 
      (s.dev.eng (s.dev.execEngine j.target)).corr.active = b → b.valid = true →
      s.dev.rangeCause j.fn j.addr b.image.length false true = none → s.dev.mayWrite j.fn = true → (s.dev.fn j.fn).held = [] →
      Answers (.corSave dt job) s (fun e => e.host.Wrote s.dev.host j.addr b.image ∧ e.Done j 0 ∧ e.dram = s.dev.dram ∧ e.flash = s.dev.flash))
    ∧ (∀ s dt job j, s.dev.Takes job 0x36 j → (s.dev.eng (s.dev.execEngine j.target)).discard = false → 
      (s.dev.eng (s.dev.execEngine j.target)).corr.active.valid = false →
      Answers (.corSave dt job) s (fun e => e.Done j 0x0272 ∧ s.dev.SameMem e))
    ∧ (∀ s dt job j op, op ∈ [0x34, 0x35, 0x36] → s.dev.Takes job op j →
      (s.dev.eng (s.dev.execEngine j.target)).discard = true →
      Answers (if op = 0x34 then .corLoad dt job else if op = 0x35 then .corSwap dt job else .corSave dt job) s
        (fun e => e.Done j 0x0251 ∧ e.engines = s.dev.engines ∧ s.dev.SameMem e))
    ∧ (∀ s dt (n : Fin 34), (s.dev.eng n).corr.pending = none →
      Answers (.corEccError dt n false) s (fun e => (e.eng n).corr.shadow.valid = false ∧ e.get .COR_STAT_ECC_ERR n = 1
        ∧ e.get .COR_STAT_SHADOW_VALID n = 0 ∧ (e.eng n).corr.active = (s.dev.eng n).corr.active ∧ s.dev.SameMem e))

/-- Scarf zones. A role-B share held for TAKEOVER_US is yielded; a valid ABSENT notice makes the partner absent from its vector on, one
with a wrong signature sets SIG_ERR and changes no engine; an owed takeover pass goes to the front of the look-ahead; a remote partner that falls silent is
lost, and role A takes its vectors from there on (R191 to R195). -/
def Obligations.ScarfShares : Prop :=
  (∀ s dt (n : Fin 34) (q : KReq) (r : LRec) (h : Share), s.dev.waitingRec n = some (q, r) → r.share = some h → h.pass = false → h.union = false →
      s.dev.eff .SCF_ZONE_CFG_ROLE n h.zone = 1 → s.dev.eff .SCF_ZONE_TIME_TAKEOVER_US n h.zone ≠ 0 →
      s.dev.eff .SCF_ZONE_TIME_TAKEOVER_US n h.zone * qUs ≤ s.dev.now + dt - q.inst → s.dev.eff .SCF_ZONE_CFG_REMOTE n h.zone = 1 →
      Answers (.scarfYield dt n) s (fun e => (∀ x ∈ e.kerf.reqs, x.eng = n.val → x.ser ≠ q.ser)
        ∧ (∀ x ∈ (e.eng n).look, x.ser = r.ser → x.share = none ∧ x.S = x.E)
        ∧ e.get .SCF_CNT_A_YIELDED n = min (s.dev.get .SCF_CNT_A_YIELDED n + 1) (2 ^ Fld.width .SCF_CNT_A_YIELDED - 1) ∧ s.dev.SameMem e))
    ∧ (∀ s dt (dev : Fin 1024) (g : Gran) n z, s.dev.peerFrozen dev = false → s.dev.grantOk dev 2 none = true → s.dev.inService 39 = true →
      s.dev.engineOf (bitsOf g.toNat 53 48) = some n → bitsOf g.toNat 59 54 = z → s.dev.zoneOn n z = true →
      s.dev.eff .SCF_ZONE_CFG_REMOTE n z = 1 → s.dev.eff .SCF_ZONE_PART_PART_DEV n z = dev.val →
      s.dev.eff .SCF_ZONE_CFG_PART_CH n z = bitsOf g.toNat 41 36 → s.dev.eff .SCF_ZONE_CFG_PART_ZONE n z = bitsOf g.toNat 47 42 →
      bitsOf g.toNat 31 0 = s.dev.get .SYS_LAYER_NUM_LAYER_NUM → s.dev.get .SYS_LAYER_STAT_STATE ≠ 8 →
      bitsOf g.toNat 127 112 = s.dev.zoneSig n z → (s.dev.absence n z).lost = false → bitsOf g.toNat 35 32 = 1 →
      s.dev.inService 46 = true → (s.dev.absence n z).from'.all (fun k => decide (bitsOf g.toNat 79 64 < k)) = true →
      Answers (.scarfNotice dt dev [g]) s (fun e => (e.absence n z).from' = some (bitsOf g.toNat 79 64)
        ∧ (e.absence n z).mark = bitsOf g.toNat 111 80 ∧ s.dev.SameMem e))
    ∧ (∀ s dt (dev : Fin 1024) (g : Gran) n z, s.dev.peerFrozen dev = false → s.dev.grantOk dev 2 none = true → s.dev.inService 39 = true →
      s.dev.engineOf (bitsOf g.toNat 53 48) = some n → bitsOf g.toNat 59 54 = z → s.dev.zoneOn n z = true →
      s.dev.eff .SCF_ZONE_CFG_REMOTE n z = 1 → s.dev.eff .SCF_ZONE_PART_PART_DEV n z = dev.val →
      s.dev.eff .SCF_ZONE_CFG_PART_CH n z = bitsOf g.toNat 41 36 → s.dev.eff .SCF_ZONE_CFG_PART_ZONE n z = bitsOf g.toNat 47 42 →
      bitsOf g.toNat 31 0 = s.dev.get .SYS_LAYER_NUM_LAYER_NUM → s.dev.get .SYS_LAYER_STAT_STATE ≠ 8 →
      bitsOf g.toNat 127 112 ≠ s.dev.zoneSig n z → s.dev.inService 46 = true →
      Answers (.scarfNotice dt dev [g]) s (fun e => e.get .SCF_ERR_SIG_ERR n = 1 ∧ e.engines = s.dev.engines
        ∧ s.dev.OnlyAt e [(.SCF_ERR_SIG_ERR, n, 0), (.FAB_DROP_NOTICE_DISC, 0, 0)] ∧ s.dev.SameMem e))
    ∧ (∀ s dt (n : Fin 34) (p : Pass) (ps : List Pass) (h : ScarfRec), s.dev.passPoint n = true → (s.dev.eng n).passes = p :: ps →
      (s.dev.eng n).hist.find? (fun x => x.zone == p.zone && x.vidx == p.vidx) = some h →
      Answers (.takeoverPass dt n) s (fun e => (e.eng n).passes = ps ∧ (e.eng n).look.drop 1 = (s.dev.eng n).look
        ∧ (∃ r ∈ (e.eng n).look.head?, r.cls = 7 ∧ r.power = h.power ∧ r.speed = h.speed
            ∧ r.share = some ((s.dev.shareOf n p.zone p.vidx h.VS h.VE).passOf p.mark))
        ∧ s.dev.OnlyAt e [(.SCF_CNT_A_TAKEN, n, 0)] ∧ s.dev.SameMem e))
    ∧ (∀ s dt (n : Fin 34) (z : Fin 64), s.dev.zoneOn n z = true → s.dev.eff .SCF_ZONE_CFG_REMOTE n z = 1 →
      s.dev.get .SYS_LAYER_STAT_STATE ≠ 8 → (s.dev.absence n z).lost = false → s.dev.eff .SCF_ZONE_CFG_ROLE n z = 0 →
      (s.dev.absence n z).from' = none → s.dev.logs →
      (s.dev.elapse dt).lostDevice (s.dev.eff .SCF_ZONE_PART_PART_DEV n z) = true →
      (s.dev.elapse dt).lostDevice (s.dev.eff .SCF_ZONE_PART_PART_DEV_ALT n z) = true →
      Answers (.scarfContactLoss dt n z) s (fun e => e.get .SCF_ERR_LOSS n = 1 ∧ (e.absence n z).lost = true ∧ e.Recorded 0x0311 4
        ∧ (e.absence n z).from' = some (s.dev.vidxOf n z) ∧ s.dev.SameMem e))

/-- The kerf arbiter. A request that nothing blocks is granted at once outside the halo band, and 20 µs later inside it; a hold of
MAX_HOLD_US makes it starving; a reorderable unit runs ahead of a held record; the halo set goes to every peer each 10 µs, and a
peer's complete set replaces its previous one; a silent peer is stale and recorded; a frozen peer's claims end 10 ms after their
request (R204, R205, R207, R209 to R212). -/
def Obligations.KerfArbiter : Prop :=
  (∀ s dt (n : Fin 34) (q : KReq), s.dev.waitingReq n = some q → q.status = .pending → s.dev.pins.gasOk = true → s.dev.inService 39 = true →
      (s.dev.elapse dt).blocker q = none → s.dev.inBand q = false →
      Answers (.kerfGrant dt n) s (fun e => e.granted n q.ser = true ∧ e.get .ENG_GATE_STAT_GAS_HOLD n = 0 ∧ s.dev.SameMem e))
    ∧ (∀ s dt (n : Fin 34) (q : KReq), s.dev.waitingReq n = some q → q.status = .pending → s.dev.pins.gasOk = true → s.dev.inService 39 = true →
      (s.dev.elapse dt).blocker q = none → s.dev.inBand q = true → s.dev.get .KRF_STAT_STALE = 0 →
      Answers (.kerfGrant dt n) s (fun e => (e.reqOf n q.ser).map (·.status) = some (.arming (s.dev.now + dt + 20 * qUs)) ∧ s.dev.SameMem e))
    ∧ (∀ s dt (n : Fin 34) (q : KReq), s.dev.waitingReq n = some q → (q.status = .pending → s.dev.pins.gasOk = false) →
      Answers (.kerfGrant dt n) s (fun e => e.kerf = s.dev.kerf
        ∧ s.dev.OnlyIn e [.KRF_STAT, .KRF_ENG_STAT, .KRF_CNT_B, .ENG_GATE_STAT] ∧ s.dev.SameMem e))
    ∧ (∀ s dt (n : Fin 34) (q : KReq) (t : Nat), s.dev.waitingReq n = some q → q.status = .arming t → t ≤ s.dev.now + dt →
      Answers (.grantArmed dt n) s (fun e => e.granted n q.ser = true
        ∧ s.dev.OnlyIn e [.KRF_STAT, .KRF_ENG_STAT, .KRF_CNT_B, .ENG_GATE_STAT] ∧ s.dev.SameMem e))
    ∧ (∀ s dt (n : Fin 34) (q : KReq), s.dev.waitingReq n = some q → q.starving = false →
      q.inst + s.dev.eff .KRF_CFG_MAX_HOLD_US * qUs ≤ s.dev.now + dt →
      Answers (.requestStarving dt n) s (fun e => (e.reqOf n q.ser).map (·.starving) = some true ∧ e.engines = s.dev.engines ∧ s.dev.SameMem e))
    ∧ (∀ s dt (n : Fin 34) (q x : KReq) (a h nx : LRec) (u rest : List LRec), s.dev.waitingReq n = some q → q.status = .pending →
      s.dev.now + dt < q.inst + s.dev.eff .KRF_CFG_MAX_HOLD_US * qUs → (s.dev.eng n).look = a :: h :: u ++ nx :: rest → a.cls = 0 →
      a.clear = false → h.clear = false → h.ser = q.ser → a.ser ≠ q.ser →
      unitAt (u ++ nx :: rest) = some u → (u.head?.map (·.job)) = some h.job → (s.dev.eng n).unitEnd = none →
      s.dev.get .KRF_REORDER_REORDER_DELAY_US * qUs ≤ s.dev.now + dt - q.inst → (s.dev.eng n).unitsOf q.ser < s.dev.get .KRF_REORDER_REORDER_MAX →
      s.dev.pins.gasOk = true → s.dev.inService 39 = true → (s.dev.elapse dt).unitReq n u = some x →
      ((s.dev.elapse dt).modReq n q.ser (fun r => { r with status := .suspended })).blocker x = none → s.dev.inBand x = false →
      x.ser ≠ q.ser → s.dev.reqOf n x.ser = none →
      Answers (.reorderUnit dt n) s (fun e => (e.eng n).look.take u.length = u ∧ (e.reqOf n q.ser).map (·.status) = some .suspended
        ∧ e.granted n x.ser = true ∧ (e.eng n).unitsOf q.ser = (s.dev.eng n).unitsOf q.ser + 1
        ∧ e.get .KRF_CNT_B_REORDERED n = min (s.dev.get .KRF_CNT_B_REORDERED n + 1) (2 ^ Fld.width .KRF_CNT_B_REORDERED - 1) ∧ s.dev.SameMem e))
    ∧ (∀ s dt, (s.dev.now + dt) % (10 * qUs) = 0 → s.dev.drives = true →
      Answers (.kerfHaloSend dt) s (fun e => (∀ p ∈ s.dev.kerfPeers, ∃ m ∈ e.fabOut, m.kind = 0x12 ∧ m.dst = p
        ∧ m.payload = [0#128, BitVec.ofNat 128 (nsOf (s.dev.now + dt) * 2 ^ 64 + 3 * 2 ^ 106)])
        ∧ (∀ p ∈ s.dev.kerfPeers, ∀ q ∈ s.dev.kerf.reqs, s.dev.inBand q = true → (q.claim = true ∨ q.status = .pending) →
          ∃ m ∈ e.fabOut, m.kind = 0x12 ∧ m.dst = p ∧ m.payload = (s.dev.elapse dt).haloRecord (if q.claim then 0 else 1) q)
        ∧ e.kerf = s.dev.kerf
        ∧ s.dev.OnlyAt e [] ∧ s.dev.SameMem e))
    ∧ (∀ s dt (dev : Fin 1024) (a b : Gran) k sent (since l : List HPath), s.dev.peerFrozen dev = false → s.dev.grantOk dev 1 none = true →
      s.dev.inService 46 = true → s.dev.kerfPeerIx dev = some k → nearestNs (s.dev.now + dt) (bitsOf b.toNat 95 64) = sent →
      s.dev.now + dt ≤ sent + 10 * qUs → bitsOf b.toNat 107 106 = 3 →
      s.dev.kerf.halo.filter (fun h => h.dev == dev.val && decide (sent < h.sent)) = since →
      s.dev.kerf.halo.filter (fun h => h.dev != dev.val) ++ ((s.dev.kerf.incoming.filter (fun h => h.dev == dev.val && h.sent == sent)).filter
        (fun h => !since.any (fun x => x.eng == h.eng && x.inst == h.inst)) ++ since) = l → l.length ≤ 256 →
      Answers (.kerfHalo dt dev [a, b]) s (fun e => e.kerf.halo = l ∧ hasBit (e.get .KRF_STAT_STALE) k = false
        ∧ Tab.get 0 e.kerf.lastSet k = (s.dev.elapse dt).run
        ∧ s.dev.OnlyAt e [(.KRF_STAT_STALE, 0, 0)] ∧ s.dev.SameMem e))
    ∧ (∀ s dt (dev : Fin 1024) (a b : Gran) k (p : HPath), s.dev.peerFrozen dev = false → s.dev.grantOk dev 1 none = true →
      s.dev.inService 46 = true → s.dev.kerfPeerIx dev = some k →
      s.dev.now + dt ≤ nearestNs (s.dev.now + dt) (bitsOf b.toNat 95 64) + 10 * qUs → bitsOf b.toNat 107 106 = 0 →
      haloPathOf dev a.toNat b.toNat (nearestNs (s.dev.now + dt) (bitsOf b.toNat 95 64)) = p → (putPath p s.dev.kerf.halo).length ≤ 256 →
      Answers (.kerfHalo dt dev [a, b]) s (fun e => { p with noted := s.dev.kerf.noted p } ∈ e.kerf.halo
        ∧ { p with noted := s.dev.kerf.noted p } ∈ e.kerf.incoming ∧ s.dev.SameMem e))
    ∧ (∀ s dt (k : Fin 8), s.dev.get .KRF_PEER_ENABLE k = 1 → s.dev.peerFrozen (s.dev.get .KRF_PEER_PEER_ID k) = false →
      s.dev.get .FAB_ROUTE_LEFT (s.dev.get .KRF_PEER_PEER_ID k) = 0 → hasBit (s.dev.get .KRF_STAT_STALE) k = false →
      Tab.get 0 s.dev.kerf.lastSet k + s.dev.eff .KRF_HALO_CFG_STALE_US * qUs ≤ (s.dev.elapse dt).run → s.dev.logs →
      Answers (.kerfPeerSilent dt k) s (fun e => hasBit (e.get .KRF_STAT_STALE) k = true ∧ e.Recorded 0x0402 4 ∧ e.kerf = s.dev.kerf
        ∧ s.dev.SameMem e))
    ∧ (∀ s dt (dev : Fin 1024) (n : Fin 34), s.dev.peerFrozen dev = true →
      Answers (.frozenClaimExpire dt dev n) s (fun e => (∀ h ∈ e.kerf.halo, h ∈ s.dev.kerf.halo ∧ (h.dev = dev.val → h.eng = n.val →
          ((s.dev.now + dt : Nat) : Int) < resolveTs64 (s.dev.now + dt) h.inst + (10 * qMs : Nat)))
        ∧ s.dev.OnlyAt e [] ∧ s.dev.SameMem e))

/-! ### The melt-pool loop and the grain map (R214 to R238) -/

/-- The melt-pool tick. A valid tick under the record that is lit updates the class's integrator and s_fb by R220 from the mean of its
samples and the clamp of its last frame; with nothing planned a tick leaves every integrator and uses no feedforward; feedback that goes missing is shown and recorded
with its cause; a clear sets all six integrators to 0 (R219 to R222, R228, R230). -/
def Obligations.MeltPoolTicks : Prop :=
  (∀ s dt (n : Fin 34) samples (d : Dev) (k : TickClass) c cl (r : Int × Nat), (s.dev.now + dt) % qUs = 0 →
      s.dev.get .ENG_STAT_BOUND_CH n < 32 → (s.dev.eng n).loop.changed = 0 →
      d = ((s.dev.elapse dt).extendTo n (s.dev.now + dt + s.dev.leadOf n)).flushGate n → k = d.classify n samples → k.valid = true →
      d.tickClass n k = some c → c ∈ [1, 2, 3, 4, 5, 7] → (d.eng n).loop.missing = 0 →
      (((d.eng n).loop.frames.find? (fun f => decide (f.1 < s.dev.now + dt) && f.2.2.1 == c && f.2.2.2 != 3)).map (·.2.2.2)).getD 0 = cl →
      d.eff .MPL_TARGET_LOOP_EN n c = 1 → d.eff .MPL_FB_LIM_FB_MIN n c ≤ 32768 → 32768 ≤ d.eff .MPL_FB_LIM_FB_MAX n c →
      d.eff .MPL_FB_LIM_FB_MAX n c ≤ 65535 →
      r = fbStep (d.gets .MPL_INT_I n c) (d.eff .MPL_TARGET_TARGET n c : Nat) k.y (d.eff .MPL_GAIN_KP n c : Nat) (d.eff .MPL_GAIN_KI n c : Nat)
        (d.eff .MPL_FB_LIM_FB_MIN n c) (d.eff .MPL_FB_LIM_FB_MAX n c) (cl == 1) (cl == 2) →
      Answers (.meltPoolTick dt n samples) s (fun e => e.gets .MPL_INT_I n c = r.1 ∧ e.get .MPL_MEAS_S_FB n = r.2 % 2 ^ 16
        ∧ e.gets .MPL_MEAS_Y n = sInt 16 (uInt 16 k.y) ∧ (e.eng n).loop.ticks.head?.map (fun x => (x.1, x.2.1, x.2.2.1)) = some (s.dev.now + dt, c, r.2)
        ∧ (∀ x ∈ [1, 2, 3, 4, 5, 7], x ≠ c → e.get .MPL_INT_I n x = s.dev.get .MPL_INT_I n x) ∧ s.dev.SameMem e))
    ∧ (∀ s dt (n : Fin 34) samples, (s.dev.now + dt) % qUs = 0 → s.dev.get .ENG_STAT_BOUND_CH n < 32 →
      (s.dev.eng n).plans = [] → (s.dev.eng n).past = [] → (s.dev.eng n).look = [] → (s.dev.eng n).moves = [] →
      Answers (.meltPoolTick dt n samples) s (fun e => e.get .MPL_FF_H n = 0 ∧ e.get .MPL_FF_S_FF n = 32768 ∧ e.get .MPL_STAT_FF_LOST n = 0
        ∧ (e.eng n).loop.ticks = (s.dev.now + dt, 0, 32768, 32768) :: (s.dev.eng n).loop.ticks.take 3
        ∧ (∀ x < 8, e.get .MPL_INT_I n x = s.dev.get .MPL_INT_I n x) ∧ s.dev.SameMem e))
    ∧ (∀ s dt (n : Fin 34) c, (s.dev.eng n).loop.missing = 0 → s.dev.fbCause n = c → c ≠ 0 →
      Answers (.feedbackLost dt n) s (fun e => e.get .MPL_STAT_FB_LOST n = 1 ∧ (e.eng n).loop.missing = c
        ∧ (c = 2 → e.get .MPL_STAT_DARK n = 1) ∧ (c = 3 → e.get .MPL_STAT_SAT n = 1) ∧ (s.dev.logs → e.Recorded 0x0502 4) ∧ s.dev.SameMem e))
    ∧ (∀ s dt (n : Fin 34), s.dev.frozen 0 = false →
      Answers (.intClr dt n) s (fun e => (∀ c ∈ [1, 2, 3, 4, 5, 7], e.get .MPL_INT_I n c = 0) ∧ s.dev.OnlyIn e [.MPL_INT] ∧ s.dev.SameMem e))

/-- The grain map. With no layer open a write to its geometry clears every cell, in any other layer state it sets CFG_REJ; the halo
ends with an END run to every peer; a peer's SET run sets the cells outside the own box, its END ends its silence, after the deposits of the same instant; a silent peer is
stale; a save writes the stored words of its rows to host memory, a word with an uncorrectable error as 0, whose cell is then HEAT 0 in a
lost tile; and a load reads them from there with no layer open, else it completes
with 0x0390 (R36, R223, R232 to R235, R238). -/
def Obligations.GrainMap : Prop :=
  (∀ s dt (k : Fin 3) (value : Word), s.dev.frozen 0 = false → s.dev.get .SYS_LOCK_LOCK = 0 → s.dev.get .SYS_LAYER_STAT_STATE = 8 →
      (∀ f ∈ (grnGeomReg k).fields, f.inRange (f.of value.toNat) = true) →
      Answers (.grnGeomWrite dt k value) s (fun e => (∀ f ∈ (grnGeomReg k).fields, e.get f = f.of value.toNat) ∧ e.grain.cells = []
        ∧ s.dev.OnlyIn e [grnGeomReg k] ∧ s.dev.SameMem e))
    ∧ (∀ s dt (k : Fin 3) (value : Word), s.dev.frozen 0 = false → s.dev.get .SYS_LAYER_STAT_STATE ≠ 8 →
      Answers (.grnGeomWrite dt k value) s (fun e => e.get .GRN_STAT_CFG_REJ = 1 ∧ e.grain = s.dev.grain
        ∧ s.dev.OnlyAt e [(.GRN_STAT_CFG_REJ, 0, 0)] ∧ s.dev.SameMem e))
    ∧ (∀ s dt, (s.dev.now + dt) % (10 * qUs) = 0 → s.dev.drives = true → s.dev.inService 38 = true →
      Answers (.grainHaloSend dt) s (fun e => (∀ p ∈ s.dev.grainPeers, ∃ m ∈ e.fabOut, m.kind = 0x13 ∧ m.dst = p
        ∧ m.payload = [BitVec.ofNat 128 (2 * 2 ^ 72 + nsOf (s.dev.now + dt) * 2 ^ 96)]) ∧ (s.dev.grain.bad = [] → e.grain.cells = s.dev.grain.cells
          ∧ s.dev.OnlyAt e [(.GRN_HALO_CNT_DEFER, 0, 0)]) ∧ s.dev.OnlyIn e [.GRN_HALO_CNT, .GRN_STAT, .GRN_CNT, .GRN_LOST] ∧ s.dev.SameMem e))
    ∧ (∀ s dt (dev : Fin 1024) (h g : Gran) ix col row (d : Dev), d = (if (s.dev.now + dt) % qUs = 0 then ((s.dev.elapse dt).hear dev).depositAll else (s.dev.elapse dt).hear dev) →
      s.dev.inService 46 = true → s.dev.peerFrozen dev = false → s.dev.grantOk dev 0 none = true →
      (List.range 8).find? (fun k => s.dev.flag .GRN_PEER_ENABLE k && s.dev.get .GRN_PEER_PEER_ID k == dev.val) = some ix →
      s.dev.inService 38 = true → s.dev.now + dt ≤ nearestNs (s.dev.now + dt) (bitsOf h.toNat 127 96) + 10 * qUs → bitsOf h.toNat 73 72 = 0 →
      bitsOf h.toNat 71 64 = 1 → sInt 32 (bitsOf h.toNat 31 0) = s.dev.gets .GRN_ORIGIN_X_ORIGIN + (col * s.dev.grnPitch : Nat) →
      sInt 32 (bitsOf h.toNat 63 32) = s.dev.gets .GRN_ORIGIN_Y_ORIGIN + (row * s.dev.grnPitch : Nat) → s.dev.grnPitch ≠ 0 →
      col < s.dev.grnCols → row < s.dev.grnRows → s.dev.inOwn (row * s.dev.grnCols + col) = false →
      Answers (.grainHalo dt dev [h, g]) s (fun e =>
        e.cell (row * s.dev.grnCols + col) = cellWord (bitsOf g.toNat 31 0) (s.dev.grnTick (nearestNs (s.dev.now + dt) (bitsOf h.toNat 127 96)))
          ∧ (∀ k, k ≠ row * s.dev.grnCols + col → e.cell k = d.cell k)
          ∧ d.OnlyAt e [] ∧ s.dev.SameMem e))
    ∧ (∀ s dt (dev : Fin 1024) (h : Gran) ix (d : Dev), d = (if (s.dev.now + dt) % qUs = 0 then ((s.dev.elapse dt).hear dev).depositAll else (s.dev.elapse dt).hear dev) →
      s.dev.inService 46 = true → s.dev.peerFrozen dev = false → s.dev.grantOk dev 0 none = true →
      (List.range 8).find? (fun k => s.dev.flag .GRN_PEER_ENABLE k && s.dev.get .GRN_PEER_PEER_ID k == dev.val) = some ix →
      s.dev.inService 38 = true → s.dev.now + dt ≤ nearestNs (s.dev.now + dt) (bitsOf h.toNat 127 96) + 10 * qUs → bitsOf h.toNat 73 72 = 2 →
      bitsOf h.toNat 71 64 = 0 →
      Answers (.grainHalo dt dev [h]) s (fun e => hasBit (e.get .GRN_STAT_STALE) ix = false ∧ Tab.get 0 e.grain.lastEnd ix = (s.dev.elapse dt).run
        ∧ e.grain.cells = d.grain.cells ∧ d.OnlyAt e [(.GRN_STAT_STALE, 0, 0)] ∧ s.dev.SameMem e))
    ∧ (∀ s dt (k : Fin 8), s.dev.get .GRN_PEER_ENABLE k = 1 → s.dev.peerFrozen (s.dev.get .GRN_PEER_PEER_ID k) = false →
      s.dev.get .FAB_ROUTE_LEFT (s.dev.get .GRN_PEER_PEER_ID k) = 0 →
      Tab.get 0 s.dev.grain.lastEnd k + s.dev.get .GRN_HALO_CFG_STALE_US * qUs ≤ (s.dev.elapse dt).run →
      Answers (.grainPeerSilent dt k) s (fun e => hasBit (e.get .GRN_STAT_STALE) k = true ∧ s.dev.OnlyAt e [(.GRN_STAT_STALE, 0, 0)]
        ∧ s.dev.SameMem e))
    ∧ (∀ s dt job j k n, s.dev.Takes job 0x48 j → s.dev.grnRange j = .ok (k, n) → s.dev.grain.bad = [] →
      s.dev.rangeCause j.fn j.addr (s.dev.savedCells k n).length false true = none → s.dev.mayWrite j.fn = true →
      (s.dev.fn j.fn).held = [] →
      Answers (.grnSave dt job) s (fun e => e.host.Wrote s.dev.host j.addr (s.dev.savedCells k n) ∧ e.Done j 0
        ∧ e.grain.cells = s.dev.grain.cells ∧ e.dram = s.dev.dram ∧ e.flash = s.dev.flash))
    ∧ (∀ s dt job j k n c, s.dev.Takes job 0x48 j → s.dev.grnRange j = .ok (k, n) → c ∈ s.dev.grain.bad → k ≤ c → c < k + n →
      s.dev.rangeCause j.fn j.addr (s.dev.savedCells k n).length false true = none → s.dev.mayWrite j.fn = true →
      (s.dev.fn j.fn).held = [] →
      Answers (.grnSave dt job) s (fun e => e.host.Wrote s.dev.host j.addr (s.dev.savedCells k n) ∧ e.Done j 0x0591
        ∧ e.cell c = cellWord 0 (s.dev.grnTick (s.dev.now + dt)) ∧ e.isLost c = true ∧ c ∉ e.grain.bad
        ∧ e.dram = s.dev.dram ∧ e.flash = s.dev.flash))
    ∧ (∀ s dt job j k n, s.dev.Takes job 0x49 j → s.dev.grnRange j = .ok (k, n) → s.dev.get .SYS_LAYER_STAT_STATE = 8 →
      Answers (.grnLoad dt job) s (fun e => (∀ i < n, e.cell (k + i) = (runWords (j.data.getD [])).getD i 0) ∧ e.Done j 0 ∧ s.dev.SameMem e))
    ∧ (∀ s dt job j k n, s.dev.Takes job 0x49 j → s.dev.grnRange j = .ok (k, n) → s.dev.get .SYS_LAYER_STAT_STATE ≠ 8 →
      Answers (.grnLoad dt job) s (fun e => e.Done j 0x0390 ∧ e.grain = s.dev.grain ∧ s.dev.SameMem e))

/-! ### Veneer tiles (R239 to R277) -/

/-- Frames, attaches and slots. A frame of an attached tile joins its queue, another completes with its code; an attach is taken or refused
with its cause; slot 0 completes it; the frame sent for a slot is shown in it, and a slot with none is blank; a static frame that claims
to change freezes the raster; a detach waits for the earlier descriptors of its ring and completes once no slot runs; a deposit starts its table anew (R244 to R258, R276). -/
def Obligations.TileSlots : Prop :=
  (∀ s dt job j, s.dev.Takes job 0x50 j → s.dev.frameCode (j.target - 0x40) = none →
      Answers (.vnrFrame dt job) s (fun e => (e.tile (j.target - 0x40)).queue = (s.dev.tile (j.target - 0x40)).queue ++ [job]
        ∧ e.Begun j (s.dev.now + dt) ∧ s.dev.OnlyAt e [] ∧ s.dev.SameMem e))
    ∧ (∀ s dt job j c, s.dev.Takes job 0x50 j → s.dev.frameCode (j.target - 0x40) = some c →
      Answers (.vnrFrame dt job) s (fun e => e.Done j c ∧ e.tiles = s.dev.tiles ∧ s.dev.SameMem e))
    ∧ (∀ s dt job j t, s.dev.Takes job 0x51 j → j.target = 0x40 + t → t < 16 → s.dev.attachErr t = 0 → s.dev.get .VDR_STAT_LINK_UP t = 1 →
      (s.dev.now + dt) % qTick = 0 →
      Answers (.vnrAttach dt job) s (fun e => (e.tile t).attachJob = some job ∧ (e.tile t).slot0 = some ((s.dev.elapse dt).run)
        ∧ (e.tile t).queue = [] ∧ e.get .VNR_SLOT_SLOT t = 0 ∧ e.get .VNR_STAT_ATT_ERR t = 0 ∧ e.get .VDR_STAT_STRFAIL_ANY t = 0
        ∧ e.get .VDR_CNT_SWEEPS t = 0 ∧ e.Begun j (s.dev.now + dt) ∧ s.dev.SameMem e))
    ∧ (∀ s dt job j t c, s.dev.Takes job 0x51 j → j.target = 0x40 + t → t < 16 → s.dev.attachErr t = c → c ≠ 0 → c < 8 → s.dev.attached t = false →
      Answers (.vnrAttach dt job) s (fun e => e.get .VNR_STAT_ATT_ERR t = c ∧ e.Done j 0x02a2 ∧ e.tiles = s.dev.tiles ∧ s.dev.SameMem e))
    ∧ (∀ s dt (t : Fin 16) id j, (s.dev.tile t).attachJob = some id → (s.dev.tile t).slot0 = none → s.dev.get .VDR_STAT_LINK_UP t = 0 →
      (s.dev.tile t).attachAt + 10 * qMs ≤ (s.dev.elapse dt).run → (s.dev.tile t).queue = [] → (s.dev.tile t).detachJob = none →
      s.dev.job id = some j → j.code = none → j.replay = false → j.orphan = false → j.noCqeOk = false → s.dev.replayKept j = false →
      Answers (.attachLinkTimeout dt t) s (fun e => e.get .VNR_STAT_ATT_ERR t = 5 ∧ e.get .VNR_STAT_STATE t = 0 ∧ (e.tile t).attachJob = none
        ∧ e.Done j 0x02a2 ∧ s.dev.SameMem e))
    ∧ (∀ s dt (t : Fin 16) id j t0, (s.dev.tile t).attachJob = some id → (s.dev.tile t).slot0 = some t0 → t0 ≤ (s.dev.elapse dt).run →
      s.dev.job id = some j → j.code = none → j.replay = false → j.orphan = false → j.noCqeOk = false → s.dev.replayKept j = false →
      Answers (.veneerSlotStart dt t) s (fun e => e.get .VNR_STAT_STATE t = 1 ∧ (e.tile t).start = t0 ∧ (e.tile t).attachJob = none
        ∧ e.Done j 0 ∧ s.dev.SameMem e))
    ∧ (∀ s dt (t : Fin 16) t0 (x : SlotData), (s.dev.tile t).attachJob = none → (s.dev.tile t).slot0 = some t0 →
      (s.dev.tile t).start + s.dev.slotQ t ≤ (s.dev.elapse dt).run → (s.dev.tile t).detachJob = none → (s.dev.tile t).next = some x →
      x.checked = true → (s.dev.tile t).left = none → s.dev.get .VNR_STAT_STATE t ≠ 4 → s.dev.tilesStopped = false →
      s.dev.slotHeld t = false →
      Answers (.veneerSlotStart dt t) s (fun e => e.get .VNR_STAT_STATE t = 2 ∧ (e.tile t).cur = some x
        ∧ (e.tile t).start = (s.dev.tile t).start + s.dev.slotQ t ∧ (e.tile t).missRun = 0
        ∧ e.get .VNR_SLOT_SLOT t = (s.dev.get .VNR_SLOT_SLOT t + 1) % 2 ^ 32 ∧ s.dev.SameMem e))
    ∧ (∀ s dt (t : Fin 16) t0, (s.dev.tile t).attachJob = none → (s.dev.tile t).slot0 = some t0 →
      (s.dev.tile t).start + s.dev.slotQ t ≤ (s.dev.elapse dt).run → (s.dev.tile t).detachJob = none → (s.dev.tile t).next = none →
      (s.dev.tile t).late = none → (s.dev.tile t).queue = [] → (s.dev.tile t).left = none → s.dev.get .VNR_STAT_STATE t ≠ 4 →
      s.dev.tilesStopped = false → s.dev.slotHeld t = false →
      Answers (.veneerSlotStart dt t) s (fun e => e.get .VNR_STAT_STATE t = 1 ∧ (e.tile t).cur = none
        ∧ e.get .VNR_SLOT_SLOT t = (s.dev.get .VNR_SLOT_SLOT t + 1) % 2 ^ 32 ∧ s.dev.SameMem e))
    ∧ (∀ s dt (t : Fin 16), s.dev.slotRuns t = true → (s.dev.tile t).cur = none →
      (s.dev.tile t).line < (s.dev.timing t).fsync + (s.dev.timing t).fsettle + (s.dev.timing t).h →
      (s.dev.tile t).start + (s.dev.tile t).line * s.dev.lineQ t ≤ (s.dev.elapse dt).run →
      Answers (.veneerLinePeriod dt t) s (fun e => (e.tile t).line = (s.dev.tile t).line + 1 ∧ s.dev.OnlyAt e [] ∧ s.dev.SameMem e))
    ∧ (∀ s dt (t : Fin 16) (x : SlotData), s.dev.slotRuns t = true → (s.dev.tile t).next = some x → x.checked = false →
      (s.dev.tile t).start + (s.dev.timing t).h * s.dev.lineQ t ≤ (s.dev.elapse dt).run → (s.dev.tile t).lastSig = none →
      s.dev.get .VNR_FRZ_STATIC_MAX t = 0 → x.sig < 2 ^ 32 →
      Answers (.frameSendDone dt t) s (fun e => e.get .VNR_SIG_SIG t = x.sig ∧ (e.tile t).next = some { x with checked := true, failed := 0 }
        ∧ s.dev.OnlyAt e [(.VNR_SIG_SIG, t, 0)] ∧ s.dev.SameMem e))
    ∧ (∀ s dt (t : Fin 16) (x : SlotData) j, s.dev.slotRuns t = true → (s.dev.tile t).next = some x → x.checked = false →
      (s.dev.tile t).start + (s.dev.timing t).h * s.dev.lineQ t ≤ (s.dev.elapse dt).run → (s.dev.tile t).lastSig = some x.sig → x.first = true →
      s.dev.job x.job = some j → j.bits 208 208 = 1 → s.dev.get .VNR_STAT_STATE t ≠ 4 → s.dev.logs →
      Answers (.frameSendDone dt t) s (fun e => e.get .VNR_STAT_STATE t = 4 ∧ e.get .VNR_STAT_FREEZE t = 1 ∧ e.Recorded 0x0602 4
        ∧ (e.tile t).next = some { x with checked := true, failed := 1 } ∧ s.dev.SameMem e))
    ∧ (∀ s dt job j t, s.dev.Takes job 0x52 j → j.target = 0x40 + t → t < 16 → s.dev.earlierDone j = true → s.dev.slotRuns t = false → (s.dev.tile t).queue = [] →
      Answers (.vnrDetach dt job) s (fun e => e.get .VNR_STAT_STATE t = 0 ∧ (e.tile t).slot0 = none ∧ (e.tile t).detachJob = none
        ∧ e.Done j 0 ∧ s.dev.SameMem e))
    ∧ (∀ s dt job j t, s.dev.Takes job 0x52 j → j.target = 0x40 + t → s.dev.earlierDone j = true → s.dev.slotRuns t = true →
      Answers (.vnrDetach dt job) s (fun e => (e.tile t).blank = true ∧ (e.tile t).detachJob = some job ∧ e.Begun j (s.dev.now + dt)
        ∧ s.dev.OnlyAt e [] ∧ s.dev.SameMem e))
    ∧ (∀ s dt job j, s.dev.Takes job 0x52 j → s.dev.earlierDone j = false →
      Answers (.vnrDetach dt job) s (fun e => e.jobs = s.dev.jobs ∧ e.tiles = s.dev.tiles ∧ s.dev.OnlyAt e [] ∧ s.dev.SameMem e))
    ∧ (∀ s dt (t : Fin 16), s.dev.get .VDR_CFG_GRN_DEP t = 1 → s.dev.get .GRN_CFG_ENABLE = 1 →
      s.dev.get .VDR_CFG_DEP_SLOTS t ≤ (s.dev.tile t).shown → s.dev.tilesStopped = false →
      Answers (.veneerDeposit dt t) s (fun e => (e.tile t).shown = 0 ∧ (e.tile t).energy = [] ∧ s.dev.OnlyIn e [.GRN_STAT, .GRN_CNT, .GRN_LOST]
        ∧ s.dev.SameMem e))

/-- The tile link and its strings. The sixteenth good STATUS in a row brings the link up, a bad packet is counted and breaks the run, and 20 µs without a
STATUS take the link down and detach the tile; an alarm marks a failed string; a voltage off its limit is a deviation; a sweep sends
its probe and latches new limits; an emitter outside its limits in both passes is stopped out; the stop-out list is cleared only of a
detached tile (R268 to R275). -/
def Obligations.TileLinks : Prop :=
  (∀ s dt (t : Fin 16) (packet : List Byte) h (p : List Byte), backPacket packet = some (h, p) → h % 16 = 1 → s.dev.statusFits t h = true →
      hasBit h 4 = true → bitsOf h 27 24 = t → s.dev.get .VDR_STAT_LINK_UP t = 0 → 15 ≤ (s.dev.tile t).good → (s.dev.tile t).attachJob = none →
      Answers (.tileStatus dt t packet) s (fun e => e.get .VDR_STAT_LINK_UP t = 1 ∧ e.get .VDR_CAP_STRINGS t = bitsOf h 15 6
        ∧ e.get .VDR_CAP_STR_LEN t = bitsOf h 21 16 ∧ e.get .VDR_CAP_BANDS t = bitsOf h 23 22 ∧ e.get .VDR_CAP_PHASE_CAP t = bitsOf h 5 5
        ∧ (e.tile t).lastStatus = (s.dev.elapse dt).run ∧ s.dev.OnlyIn e [.VDR_STAT, .VDR_CAP] ∧ s.dev.SameMem e))
    ∧ (∀ s dt (t : Fin 16) (packet : List Byte), backPacket packet = none →
      Answers (.tileStatus dt t packet) s (fun e => e.get .VDR_LINK_ERR_RX_BAD t = min (s.dev.get .VDR_LINK_ERR_RX_BAD t + 1) 0xffff
        ∧ (∀ u < 16, e.tile u = if u = t.val then { s.dev.tile u with good := 0 } else s.dev.tile u)
        ∧ s.dev.OnlyAt e [(.VDR_LINK_ERR_RX_BAD, t, 0)] ∧ s.dev.SameMem e))
    ∧ (∀ s dt (t : Fin 16), s.dev.get .VDR_STAT_LINK_UP t = 1 → (s.dev.tile t).lastStatus + 20 * qUs ≤ (s.dev.elapse dt).run → s.dev.logs →
      Answers (.tileLinkFault dt t) s (fun e => e.get .VDR_STAT_LINK_UP t = 0 ∧ e.get .VDR_STAT_LINK_FAULT t = 1 ∧ e.Recorded 0x0603 4
        ∧ e.get .VNR_STAT_STATE t = 0 ∧ s.dev.SameMem e))
    ∧ (∀ s dt (t : Fin 16) (packet : List Byte) h (p : List Byte), backPacket packet = some (h, p) → h % 16 = 2 → bitsOf h 49 40 < 768 → s.dev.logs →
      Answers (.tileAlarm dt t packet) s (fun e => e.strFailed t (bitsOf h 49 40) = true ∧ e.get .VDR_STAT_STRFAIL_ANY t = 1
        ∧ e.get .VDR_LINK_ERR_ALARMS t = min (s.dev.get .VDR_LINK_ERR_ALARMS t + 1) 0xffff ∧ e.Recorded 0x0603 4 ∧ s.dev.SameMem e))
    ∧ (∀ s dt (t : Fin 16) (packet : List Byte) h (p : List Byte) str lead on, backPacket packet = some (h, p) → h % 16 = 3 →
      words16 p = [str, lead, on] → s.dev.openNow t str ≠ [] → (∀ x ∈ s.dev.openNow t str, 80 ≤ x) →
      (s.dev.openNow t str).length * s.dev.eff .VDR_VF_VTOL t (str / max (s.dev.spb t) 1)
        < ((on : Int) - lead - (s.dev.openNow t str).length * s.dev.eff .VDR_VF_VF_RUN t (str / max (s.dev.spb t) 1)).natAbs → s.dev.logs →
      Answers (.tileVolt dt t packet) s (fun e => e.get .VDR_STAT_VDEV t = 1 ∧ (e.tile t).vdev = true ∧ e.Recorded 0x0605 3 ∧ s.dev.SameMem e))
    ∧ (∀ s dt (t : Fin 16), (s.dev.elapse dt).sweepDue t = true →
      Answers (.probeSweep dt t) s (fun e => e.get .VDR_CNT_SWEEPS t = min (s.dev.get .VDR_CNT_SWEEPS t + 1) (2 ^ Fld.width .VDR_CNT_SWEEPS - 1)
        ∧ (e.tile t).sweeping = true ∧ (e.tile t).swept = true ∧ (e.tile t).vdev = false
        ∧ (∀ b < 3, e.eff .VDR_VF_VF_RUN t b = s.dev.get .VDR_VF_VF_RUN t b ∧ e.eff .VDR_VF_VTOL t b = s.dev.get .VDR_VF_VTOL t b)
        ∧ s.dev.OnlyAt e [(.VDR_CNT_SWEEPS, t, 0)] ∧ s.dev.SameMem e))
    ∧ (∀ s dt (t : Fin 16) (packet : List Byte) h (p : List Byte) str q i b (c : Byte) k, backPacket packet = some (h, p) → h % 16 = 4 →
      (s.dev.tile t).sweeping = true → str < 1024 → q < s.dev.get .VDR_CFG_STR_LEN t →
      p = leBytes 2 str ++ (List.range (2 * s.dev.get .VDR_CFG_STR_LEN t)).map
        (fun x => if x = q ∨ x = s.dev.get .VDR_CFG_STR_LEN t + q then c else 255#8) →
      s.dev.emitterAt t str q = some (i, b) → s.dev.attached t = true → s.dev.stopped t str q = false → s.dev.strFailed t str = false →
      (s.dev.tile t).sweepSkip.contains str = false → s.dev.suspectCode t b c.toNat = true → s.dev.get .VDR_STAT_STOPPED t = k → k < 64 → s.dev.logs →
      Answers (.probeResult dt t packet) s (fun e => e.get .VDR_STOP_VALID t k = 1 ∧ e.get .VDR_STOP_STRING t k = str
        ∧ e.get .VDR_STOP_POSITION t k = q ∧ e.get .VDR_STAT_STOPPED t = k + 1 ∧ (e.tile t).sweeping = false ∧ e.Recorded 0x0603 4
        ∧ s.dev.SameMem e))
    ∧ (∀ s dt (t : Fin 16), s.dev.frozen 0 = false → s.dev.attached t = false →
      Answers (.stopListClear dt t) s (fun e => e.get .VDR_STAT_STOPPED t = 0 ∧ (∀ k < 64, e.get .VDR_STOP_VALID t k = 0)
        ∧ s.dev.OnlyIn e [.VDR_STOP, .VDR_STAT] ∧ s.dev.SameMem e))
    ∧ (∀ s dt (t : Fin 16), s.dev.frozen 0 = false → s.dev.attached t = true →
      Answers (.stopListClear dt t) s (fun e => e.get .VDR_STAT_CFG_REJ t = 1 ∧ s.dev.OnlyAt e [(.VDR_STAT_CFG_REJ, t, 0)] ∧ s.dev.SameMem e))

/-! ### Axes and encoders (R278 to R305) -/

/-- Axes. A move, a homing, a stop and new limits are taken or turned away with their code, a move waits while its island is in holdover and a stop while an emergency ramp runs (R30, and R286
as log entry 204 reads it); at a tick every axis shows its commanded
position, and new limits of an axis at rest come into force; a move that has come to rest completes, a homing with its home position; a
stall, a coil fault and a disable end what is in execution; the coil current follows its target by at most I_SLEW (R279 to R292). -/
def Obligations.AxesMove : Prop :=
  (∀ s dt job j a, s.dev.Takes job 0x58 j → j.target = 0x50 + a → a < 8 → s.dev.axisCode j = none → j.bits 184 184 = 0 → s.dev.moveFree a = true →
      Answers (.axMove dt job) s (fun e => e.get .AX_STAT_STATE a = 2 ∧ (e.axis a).job = some job ∧ (e.axis a).target = sInt 32 (j.bits 159 128)
        ∧ (e.axis a).t0 = (s.dev.elapse dt).run ∧ e.Begun j (s.dev.now + dt) ∧ s.dev.SameMem e))
    ∧ (∀ s dt job j c, s.dev.Takes job 0x58 j → s.dev.axisCode j = some c →
      Answers (.axMove dt job) s (fun e => e.Done j c ∧ e.axes = s.dev.axes ∧ s.dev.SameMem e))
    ∧ (∀ s dt job j a, s.dev.Takes job 0x59 j → j.target = 0x50 + a → a < 8 → s.dev.axisCode j = none → s.dev.moveFree a = true →
      Answers (.axHome dt job) s (fun e => e.get .AX_STAT_STATE a = 3 ∧ e.get .AX_STAT_HOMED a = 0 ∧ (e.axis a).home = .seeking
        ∧ (e.axis a).job = some job ∧ (e.axis a).homeUp = (j.bits 128 128 == 1) ∧ e.Begun j (s.dev.now + dt) ∧ s.dev.SameMem e))
    ∧ (∀ s dt job j a, s.dev.Takes job 0x5a j → j.target = 0x50 + a → s.dev.axisCode j = none → (s.dev.axis a).emergency = false →
      Answers (.axStop dt job) s (fun e => (e.axis a).imm = (s.dev.axis a).imm ++ [job] ∧ e.Begun j (s.dev.now + dt) ∧ s.dev.OnlyAt e []
        ∧ s.dev.SameMem e))
    ∧ (∀ s dt job j a, s.dev.Takes job 0x5a j → j.target = 0x50 + a → s.dev.axisCode j = none → (s.dev.axis a).emergency = true →
      Answers (.axStop dt job) s (fun e => e.jobs = s.dev.jobs ∧ e.axes = s.dev.axes ∧ s.dev.OnlyAt e [] ∧ s.dev.SameMem e))
    ∧ (∀ s dt job j a, s.dev.Takes job 0x58 j → j.target = 0x50 + a → s.dev.axisCode j = none → j.bits 184 184 = 1 →
      (s.dev.axis a).emergency = false → (s.dev.axis a).home = .none → s.dev.get .SYS_ISL_STAT_HOLDOVER 43 = 0 →
      Answers (.axMove dt job) s (fun e => (e.axis a).imm = (s.dev.axis a).imm ++ [job] ∧ e.Begun j (s.dev.now + dt) ∧ s.dev.OnlyAt e []
        ∧ s.dev.SameMem e))
    ∧ (∀ s dt job j, s.dev.Takes job 0x58 j → s.dev.axisCode j = none → s.dev.get .SYS_ISL_STAT_HOLDOVER 43 = 1 →
      Answers (.axMove dt job) s (fun e => e.jobs = s.dev.jobs ∧ e.axes = s.dev.axes ∧ s.dev.OnlyAt e [] ∧ s.dev.SameMem e))
    ∧ (∀ s dt job j a, s.dev.Takes job 0x5b j → j.target = 0x50 + a → s.dev.axisCode j = none → (s.dev.axis a).home = .none →
      Answers (.axLimits dt job) s (fun e => (e.axis a).imm = (s.dev.axis a).imm ++ [job] ∧ e.Begun j (s.dev.now + dt) ∧ s.dev.OnlyAt e []
        ∧ s.dev.SameMem e))
    ∧ (∀ s dt, (s.dev.now + dt) % (10000 * qNs) = 0 → s.dev.inService 43 = true → (∀ a < 8, (s.dev.axis a).imm = [] ∧ (s.dev.axis a).fresh = none) →
      Answers (.axisTick dt) s (fun e => (∀ a < 8, e.gets .AX_POS_VALUE a = sInt 32 (uInt 32 (microsteps ((s.dev.elapse dt).axisKin a).p)))
        ∧ (∀ a < 8, s.dev.get .AX_STAT_STATE a ≠ 4 → e.get .AX_STAT_STATE a = s.dev.get .AX_STAT_STATE a) ∧ e.jobs = s.dev.jobs
        ∧ s.dev.OnlyIn e [.AX_POS, .AX_VEL, .AX_STAT, .ENC_DEV] ∧ s.dev.SameMem e))
    ∧ (∀ s dt (a : Fin 8) id j, (s.dev.now + dt) % (10000 * qNs) = 0 → s.dev.inService 43 = true → (s.dev.axis a).imm = [id] →
      (∀ b < 8, b ≠ a.val → (s.dev.axis b).imm = []) → s.dev.job id = some j → j.opcode = 0x5b → (s.dev.axis a).segs = [] → j.code = none →
      j.replay = false → j.orphan = false → j.noCqeOk = false → s.dev.replayKept j = false →
      Answers (.axisTick dt) s (fun e => e.get .AX_VMAX_V_MAX a = (s.dev.limitsOf a j).vmax % 2 ^ Fld.width .AX_VMAX_V_MAX
        ∧ e.get .AX_ACCEL_VALUE a = (s.dev.limitsOf a j).accel % 2 ^ 32 ∧ e.get .AX_DECEL_VALUE a = (s.dev.limitsOf a j).decel % 2 ^ 32
        ∧ e.get .AX_JERK_VALUE a = (s.dev.limitsOf a j).jerk % 2 ^ 32
        ∧ e.Done j 0 ∧ (e.axis a).imm = [] ∧ s.dev.SameMem e))
    ∧ (∀ s dt (a : Fin 8) id j, (s.dev.now + dt) % (10000 * qNs) = 0 → (s.dev.elapse dt).axisRests a = true → s.dev.get .AX_STAT_STATE a = 2 →
      (s.dev.axis a).job = some id → (s.dev.axis a).stopJob = none → (s.dev.axis a).endCode = 0 → s.dev.job id = some j → j.code = none →
      j.replay = false → j.orphan = false → j.noCqeOk = false → s.dev.replayKept j = false →
      Answers (.axisMoveDone dt a) s (fun e => e.get .AX_STAT_STATE a = 1 ∧ e.get .AX_VEL_VALUE a = 0 ∧ (e.axis a).job = none ∧ e.Done j 0
        ∧ (e.axis a).restSince = (s.dev.elapse dt).run ∧ s.dev.SameMem e))
    ∧ (∀ s dt (a : Fin 8) id j, (s.dev.now + dt) % (10000 * qNs) = 0 → (s.dev.elapse dt).axisRests a = true → s.dev.get .AX_STAT_STATE a = 3 →
      (s.dev.axis a).home = .backing → (s.dev.axis a).job = some id → s.dev.job id = some j → j.code = none →
      j.replay = false → j.orphan = false → j.noCqeOk = false → s.dev.replayKept j = false →
      Answers (.axisMoveDone dt a) s (fun e => e.get .AX_STAT_STATE a = 1 ∧ e.get .AX_STAT_HOMED a = 1
        ∧ e.get .AX_POS_VALUE a = s.dev.get .AX_HOME_POS_VALUE a % 2 ^ 32 ∧ e.get .ENC_STAT_REF_VALID a = 1 ∧ e.Done j 0 ∧ s.dev.SameMem e))
    ∧ (∀ s dt (a : Fin 8) id j, s.dev.get .AX_CFG_STALL_TICKS a ≤ (s.dev.axis a).stallRun → s.dev.get .AX_STAT_STATE a = 2 →
      (s.dev.axis a).job = some id → (s.dev.axis a).stopJob = none → (s.dev.axis a).imm = [] → s.dev.job id = some j → j.code = none →
      j.replay = false → j.orphan = false → j.noCqeOk = false → s.dev.replayKept j = false → s.dev.logs →
      Answers (.stall dt a) s (fun e => e.get .AX_STAT_STATE a = 5 ∧ e.get .AX_STAT_STALL a = 1 ∧ e.get .AX_STAT_HOMED a = 0
        ∧ e.get .AX_VEL_VALUE a = 0 ∧ e.Done j 0x05c0 ∧ e.Recorded 0x0701 4 ∧ s.dev.SameMem e))
    ∧ (∀ s dt (a : Fin 8), s.dev.get .AX_CFG_STALL_TICKS a ≤ (s.dev.axis a).stallRun → s.dev.get .AX_STAT_STATE a = 3 →
      (s.dev.axis a).home = .seeking →
      Answers (.stall dt a) s (fun e => (e.axis a).home = .pressing ∧ (e.axis a).pressed = (s.dev.elapse dt).run ∧ e.get .AX_STAT_STATE a = 3
        ∧ s.dev.OnlyIn e [.AX_POS, .AX_VEL] ∧ s.dev.SameMem e))
    ∧ (∀ s dt (a : Fin 8), (s.dev.axis a).home = .pressing → (s.dev.axis a).pressed + 20 * qMs ≤ (s.dev.elapse dt).run →
      Answers (.homePressDone dt a) s (fun e => (e.axis a).home = .backing ∧ (e.axis a).target = microsteps ((s.dev.elapse dt).axisKin a).p
          + (if (s.dev.axis a).homeUp = true then -(s.dev.get .AX_HOME_BACK_BACKOFF a : Int) else s.dev.get .AX_HOME_BACK_BACKOFF a)
        ∧ s.dev.OnlyIn e [.AX_STAT] ∧ s.dev.SameMem e))
    ∧ (∀ s dt (a : Fin 8), (s.dev.axis a).home = .seeking → s.dev.get .AX_HOME_MAX_VALUE a ≠ 0 →
      s.dev.get .AX_HOME_MAX_VALUE a * fineP.toNat ≤ (((s.dev.elapse dt).axisKin a).p - (s.dev.axis a).homeFrom * fineP).natAbs →
      Answers (.homeNoStop dt a) s (fun e => (e.axis a).home = .ending ∧ s.dev.OnlyAt e [] ∧ s.dev.SameMem e))
    ∧ (∀ s dt (a : Fin 8), (s.dev.elapse dt).axisRests a = true →
      (s.dev.axis a).restSince + s.dev.get .AX_LA_HOLD_DELAY_MS a * qMs ≤ (s.dev.elapse dt).run →
      Answers (.holdDelayExpire dt a) s (fun e => (e.axis a).holding = true ∧ s.dev.OnlyAt e [] ∧ s.dev.SameMem e))
    ∧ (∀ s dt (a : Fin 8), s.dev.frozen 0 = false → s.dev.get .AX_CFG_ENABLE a = 0 →
      Answers (.axisEnable dt a) s (fun e => e.get .AX_CFG_ENABLE a = 1 ∧ e.get .AX_STAT_STATE a = 1 ∧ (e.axis a).restSince = (s.dev.elapse dt).run
        ∧ s.dev.OnlyAt e [(.AX_CFG_ENABLE, a, 0), (.AX_STAT_STATE, a, 0)] ∧ s.dev.SameMem e))
    ∧ (∀ s dt (a : Fin 8), s.dev.frozen 0 = false →
      Answers (.axisDisable dt a) s (fun e => e.get .AX_CFG_ENABLE a = 0 ∧ e.get .AX_STAT_STATE a = 0 ∧ e.get .AX_STAT_HOMED a = 0
        ∧ e.get .AX_ELEC_I_NOW a = 0 ∧ (e.axis a).job = none ∧ (e.axis a).imm = [] ∧ s.dev.SameMem e))
    ∧ (∀ s dt (a : Fin 8) (o : Bool), s.dev.drives = true → s.dev.get .AX_STAT_STATE a ≠ 0 → s.dev.get .AX_STAT_STATE a ≠ 6 →
      s.dev.get .AX_CFG_MODE a = 0 → (o = true → 2 ≤ (s.dev.axis a).overRun) → s.dev.logs →
      Answers (.coilFault dt a o) s (fun e => e.get .AX_STAT_STATE a = 6 ∧ e.get (if o then .AX_STAT_OVERCUR else .AX_STAT_SD_FAULT) a = 1
        ∧ e.get .AX_STAT_HOMED a = 0 ∧ e.get .AX_ELEC_I_NOW a = 0 ∧ (e.axis a).dutyA = 0 ∧ (e.axis a).job = none ∧ e.Recorded 0x0701 4
        ∧ s.dev.SameMem e))
    ∧ (∀ s dt (a : Fin 8) (ia ib : Int), s.dev.drives = true → (s.dev.now + dt) % (20000 * qNs) = 0 → s.dev.inService 43 = true →
      s.dev.get .AX_STAT_STATE a ≠ 0 → s.dev.get .AX_STAT_STATE a ≠ 6 → s.dev.get .AX_CFG_MODE a = 0 →
      (s.dev.gets .AX_VEL_VALUE a).natAbs < s.dev.get .AX_LA_VMIN_LA_VMIN a →
      Answers (.coilLoopPeriod dt a ia ib) s (fun e => e.get .AX_ELEC_DELTA a = 0x8000
        ∧ e.get .AX_ELEC_I_NOW a = ((s.dev.get .AX_ELEC_I_NOW a : Int) + clampI (-(s.dev.get .AX_SLEW_I_SLEW a : Int)) (s.dev.get .AX_SLEW_I_SLEW a)
            ((s.dev.elapse dt).currentTarget a 0 false - s.dev.get .AX_ELEC_I_NOW a)).toNat % 2 ^ Fld.width .AX_ELEC_I_NOW
        ∧ s.dev.OnlyAt e [(.AX_ELEC_DELTA, a, 0), (.AX_ELEC_I_NOW, a, 0)] ∧ s.dev.SameMem e))
    ∧ (∀ s dt (a : Fin 8) (ia ib : Int), s.dev.drives = true → (s.dev.now + dt) % (20000 * qNs) = 0 → s.dev.inService 43 = true →
      s.dev.get .AX_STAT_STATE a ≠ 0 → s.dev.get .AX_STAT_STATE a ≠ 6 → s.dev.get .AX_CFG_MODE a = 0 →
      s.dev.get .AX_LA_VMIN_LA_VMIN a ≤ (s.dev.gets .AX_VEL_VALUE a).natAbs →
      Answers (.coilLoopPeriod dt a ia ib) s (fun e => -23040 ≤ e.gets .AX_ELEC_DELTA a ∧ e.gets .AX_ELEC_DELTA a ≤ 23040
        ∧ s.dev.OnlyAt e [(.AX_ELEC_DELTA, a, 0), (.AX_ELEC_I_NOW, a, 0)] ∧ s.dev.SameMem e))

/-- Encoders. An accepted edge of one input counts by one in its direction, one of both is a quadrature error, a short one a fault edge; an
edge that brings the count to an armed compare is a hit and ends a compare with no hits to come; the first index is latched; at
standstill the pending correction goes into the count; a following error is shown and recorded; a disable disarms (R295 to R305). -/
def Obligations.EncodersCount : Prop :=
  (∀ s dt job j a, s.dev.Takes job 0x5c j → j.target = 0x50 + a → s.dev.axisCode j = none → (s.dev.axis a).home = .none →
      Answers (.encCmp dt job) s (fun e => (e.axis a).imm = (s.dev.axis a).imm ++ [job] ∧ e.Begun j (s.dev.now + dt) ∧ s.dev.OnlyAt e []
        ∧ s.dev.SameMem e))
    ∧ (∀ s dt job j a, s.dev.Takes job 0x5d j → j.target = 0x50 + a → s.dev.axisCode j = none → (s.dev.axis a).home = .none →
      Answers (.encCmpStop dt job) s (fun e => (e.axis a).imm = (s.dev.axis a).imm ++ [job] ∧ e.Begun j (s.dev.now + dt) ∧ s.dev.OnlyAt e []
        ∧ s.dev.SameMem e))
    ∧ (∀ s dt job j a, s.dev.Takes job 0x5e j → j.target = 0x50 + a → s.dev.axisCode j = none → (s.dev.axis a).home = .none →
      Answers (.encSync dt job) s (fun e => (e.axis a).imm = (s.dev.axis a).imm ++ [job] ∧ e.Begun j (s.dev.now + dt) ∧ s.dev.OnlyAt e []
        ∧ s.dev.SameMem e))
    ∧ (∀ s dt (n : Fin 8) (a b : Bool) width, s.dev.inService 43 = true → s.dev.minEdge n ≤ width → s.dev.get .ENC_CFG_ENABLE n = 1 →
      ((s.dev.enc n).a = a ∧ (s.dev.enc n).b ≠ b ∨ (s.dev.enc n).a ≠ a ∧ (s.dev.enc n).b = b) → (s.dev.enc n).cmp = none →
      Answers (.encoderEdge dt n a b width) s (fun e => e.gets .ENC_COUNT_VALUE n = sInt 32 (uInt 32 (s.dev.gets .ENC_COUNT_VALUE n
          + (if ((quadPhase (s.dev.enc n).a (s.dev.enc n).b + 1) % 4 == quadPhase a b) != s.dev.flag .ENC_CFG_INVERT_DIR n then 1 else -1)))
        ∧ (e.enc n).a = a ∧ (e.enc n).b = b ∧ e.get .ENC_STAT_STILL n = 0
        ∧ s.dev.OnlyAt e [(.ENC_COUNT_VALUE, n, 0), (.ENC_STAT_STILL, n, 0)] ∧ s.dev.SameMem e))
    ∧ (∀ s dt (n : Fin 8) (a b : Bool) width id j (c : Cmp), s.dev.inService 43 = true → s.dev.minEdge n ≤ width → s.dev.get .ENC_CFG_ENABLE n = 1 →
      s.dev.get .ENC_CFG_INVERT_DIR n = 0 → (s.dev.enc n).a = a → (s.dev.enc n).b ≠ b → (quadPhase a (s.dev.enc n).b + 1) % 4 = quadPhase a b →
      (s.dev.enc n).cmp = some c → c.rising = true → c.value = sInt 32 (uInt 32 (s.dev.gets .ENC_COUNT_VALUE n + 1)) → c.hits = some 1 →
      c.job = id → s.dev.job id = some j → j.code = none → j.replay = false → j.orphan = false → j.noCqeOk = false → s.dev.replayKept j = false →
      Answers (.encoderEdge dt n a b width) s (fun e => (e.enc n).cmp = none ∧ (e.enc n).cmpHigh = true ∧ e.get .ENC_STAT_ARMED n = 0 ∧ e.Done j 0
        ∧ e.get .ENC_CMP_CNT_HITS_DONE n = min (s.dev.get .ENC_CMP_CNT_HITS_DONE n + 1) (2 ^ Fld.width .ENC_CMP_CNT_HITS_DONE - 1) ∧ s.dev.SameMem e))
    ∧ (∀ s dt (n : Fin 8) (a b : Bool) width, s.dev.inService 43 = true → s.dev.minEdge n ≤ width → s.dev.get .ENC_CFG_ENABLE n = 1 →
      (s.dev.enc n).a ≠ a → (s.dev.enc n).b ≠ b →
      Answers (.encoderEdge dt n a b width) s (fun e => e.get .ENC_STAT_QUAD_ERR n = 1 ∧ e.get .ENC_COUNT_VALUE n = s.dev.get .ENC_COUNT_VALUE n
        ∧ e.get .ENC_ERR_CNT_QUAD_ERRS n = min (s.dev.get .ENC_ERR_CNT_QUAD_ERRS n + 1) (2 ^ Fld.width .ENC_ERR_CNT_QUAD_ERRS - 1) ∧ s.dev.SameMem e))
    ∧ (∀ s dt (n : Fin 8) (a b : Bool) width, s.dev.inService 43 = true → width < s.dev.minEdge n →
      Answers (.encoderEdge dt n a b width) s (fun e => e.get .ENC_ERR_CNT_EDGE_FAULT n
          = min (s.dev.get .ENC_ERR_CNT_EDGE_FAULT n + 1) (2 ^ Fld.width .ENC_ERR_CNT_EDGE_FAULT - 1)
        ∧ s.dev.OnlyAt e [(.ENC_ERR_CNT_EDGE_FAULT, n, 0)] ∧ e.encs = s.dev.encs ∧ s.dev.SameMem e))
    ∧ (∀ s dt (n : Fin 8), (s.dev.enc n).cmpHigh = true → (s.dev.enc n).cmpUntil ≤ (s.dev.elapse dt).run →
      Answers (.encCmpPulseEnd dt n) s (fun e => (e.enc n).cmpHigh = false ∧ s.dev.OnlyAt e [] ∧ s.dev.SameMem e))
    ∧ (∀ s dt (n : Fin 8) (a b : Bool), s.dev.inService 43 = true → s.dev.get .ENC_CFG_ENABLE n = 1 → hasBit (s.dev.get .ENC_CFG_GATE n) 0 = a →
      hasBit (s.dev.get .ENC_CFG_GATE n) 1 = b → (s.dev.enc n).ref = none →
      Answers (.encoderIndex dt n a b) s (fun e => e.get .ENC_IDX_LATCH_VALUE n = s.dev.get .ENC_COUNT_VALUE n % 2 ^ 32
        ∧ (e.enc n).ref = some (s.dev.gets .ENC_COUNT_VALUE n) ∧ s.dev.OnlyAt e [(.ENC_IDX_LATCH_VALUE, n, 0)] ∧ s.dev.SameMem e))
    ∧ (∀ s dt (n : Fin 8) (p : Int), (s.dev.enc n).lastChange + s.dev.get .ENC_CFG_STILL_MS n * qMs ≤ (s.dev.elapse dt).run →
      s.dev.get .AX_CFG_ENABLE n = 0 → s.dev.get .ENC_CFG_IDX_CORR n = 1 → s.dev.gets .ENC_CORR_PEND n = p → p ≠ 0 →
      Answers (.encoderStandstill dt n) s (fun e => e.get .ENC_STAT_STILL n = 1 ∧ e.get .ENC_CORR_PEND n = 0
        ∧ e.gets .ENC_COUNT_VALUE n = sInt 32 (uInt 32 (s.dev.gets .ENC_COUNT_VALUE n + p)) ∧ s.dev.SameMem e))
    ∧ (∀ s dt (n : Fin 8), (s.dev.enc n).lastChange + s.dev.get .ENC_CFG_STILL_MS n * qMs ≤ (s.dev.elapse dt).run →
      s.dev.get .AX_STAT_STATE n = 1 → s.dev.get .ENC_CORR_PEND n = 0 →
      Answers (.encoderStandstill dt n) s (fun e => e.get .ENC_STAT_STILL n = 1 ∧ s.dev.OnlyAt e [(.ENC_STAT_STILL, n, 0)] ∧ s.dev.SameMem e))
    ∧ (∀ s dt (n : Fin 8), s.dev.get .ENC_STAT_REF_VALID n = 1 → s.dev.get .ENC_CFG_FOLLOW_EN n = 1 →
      s.dev.get .ENC_CFG_FOLLOW_TICKS n ≤ (s.dev.enc n).followRun → (s.dev.enc n).followRun < 1000 → s.dev.get .ENC_CFG_FOLLOW_ACT n = 0 → s.dev.logs →
      Answers (.followError dt n) s (fun e => e.get .ENC_STAT_FOLLOW_ERR n = 1 ∧ e.Recorded 0x0701 4 ∧ e.axes = s.dev.axes
        ∧ e.get .AX_STAT_STATE n = s.dev.get .AX_STAT_STATE n ∧ s.dev.SameMem e))
    ∧ (∀ s dt (n : Fin 8), s.dev.frozen 0 = false → s.dev.get .ENC_CFG_ENABLE n = 0 →
      Answers (.encoderEnable dt n) s (fun e => e.get .ENC_CFG_ENABLE n = 1 ∧ (e.enc n).ref = none ∧ s.dev.OnlyAt e [(.ENC_CFG_ENABLE, n, 0)]
        ∧ s.dev.SameMem e))
    ∧ (∀ s dt (n : Fin 8) id j (c : Cmp), s.dev.frozen 0 = false → (s.dev.enc n).cmp = some c → c.job = id → s.dev.job id = some j → j.code = none →
      j.replay = false → j.orphan = false → j.noCqeOk = false → s.dev.replayKept j = false →
      Answers (.encoderDisable dt n) s (fun e => e.get .ENC_CFG_ENABLE n = 0 ∧ e.get .ENC_STAT_ARMED n = 0 ∧ e.get .ENC_CORR_PEND n = 0
        ∧ (e.enc n).cmp = none ∧ (e.enc n).cmpHigh = false ∧ e.Done j 0x03c8 ∧ s.dev.SameMem e))

/-! ### TIME and the cameras (R306 to R337) -/

/-- TIME. A pulse is armed for its START, completes at once in the off mode and late with 0x03E1; its output rises at the target and falls
after its width; a stamp goes to host memory at 16 bytes each; on the SLAVE port the master's Sync gives the offset; an Announce enters the port's record; Pdelay, Sync and Announce messages go
out with their sequence numbers; a lost master leaves the service in NET_HOLD (R324 to R330, R332 to R334). -/
def Obligations.TimeService : Prop :=
  (∀ s dt job j k, s.dev.Takes job 0x70 j → j.bits 258 256 = k → j.bits 260 259 = 1 → (s.dev.pulse k).job = none →
      ((s.dev.now + dt : Nat) : Int) ≤ resolveTs64 (s.dev.now + dt) (j.bits 191 128) →
      Answers (.timPulse dt job) s (fun e => e.get .TIM_PULSE_STAT_ARMED k = 1 ∧ e.get .TIM_PULSE_STAT_MODE k = 1 ∧ (e.pulse k).job = some job
        ∧ (e.pulse k).start = resolveTs64 (s.dev.now + dt) (j.bits 191 128) ∧ (e.pulse k).width = j.bits 255 224 ∧ (e.pulse k).left = some 1
        ∧ e.Begun j (s.dev.now + dt) ∧ s.dev.OnlyAt e [(.TIM_PULSE_STAT_ARMED, k, 0), (.TIM_PULSE_STAT_MODE, k, 0)] ∧ s.dev.SameMem e))
    ∧ (∀ s dt job j k, s.dev.Takes job 0x70 j → j.bits 258 256 = k → j.bits 260 259 = 0 → (s.dev.pulse k).job = none →
      Answers (.timPulse dt job) s (fun e => e.get .TIM_PULSE_STAT_ARMED k = 0 ∧ e.get .TIM_PULSE_STAT_MODE k = 0 ∧ e.pulse k = {} ∧ e.Done j 0
        ∧ s.dev.SameMem e))
    ∧ (∀ s dt job j k, s.dev.Takes job 0x70 j → j.bits 258 256 = k → j.bits 260 259 = 1 → (s.dev.pulse k).job = none →
      resolveTs64 (s.dev.now + dt) (j.bits 191 128) < ((s.dev.now + dt : Nat) : Int) →
      Answers (.timPulse dt job) s (fun e => e.get .TIM_PULSE_STAT_ARMED k = 0 ∧ e.Done j 0x03e1 ∧ s.dev.SameMem e))
    ∧ (∀ s dt (k : Fin 8) id j, s.dev.get .TIM_PULSE_STAT_ARMED k = 1 → (s.dev.pulse k).target ≤ ((s.dev.now + dt : Nat) : Int) →
      s.dev.inService 45 = true → (s.dev.pulse k).left = some 1 → (s.dev.pulse k).job = some id → s.dev.job id = some j → j.code = none →
      j.replay = false → j.orphan = false → j.noCqeOk = false → s.dev.replayKept j = false →
      Answers (.timepulseRise dt k) s (fun e => (e.pulse k).high = true ∧ (e.pulse k).fallAt = (s.dev.elapse dt).run + (s.dev.pulse k).width * qNs
        ∧ (e.pulse k).job = none ∧ e.get .TIM_PULSE_STAT_ARMED k = 0 ∧ e.Done j 0 ∧ s.dev.SameMem e))
    ∧ (∀ s dt (k : Fin 8), (s.dev.pulse k).high = true → (s.dev.pulse k).fallAt ≤ (s.dev.elapse dt).run →
      Answers (.timepulseFall dt k) s (fun e => (e.pulse k).high = false ∧ s.dev.OnlyAt e [] ∧ s.dev.SameMem e))
    ∧ (∀ s dt job j, s.dev.Takes job 0x71 j → (s.dev.capt (j.bits 209 208)).job = none →
      Answers (.timCapture dt job) s (fun e => (e.capt (j.bits 209 208)).job = some job ∧ (e.capt (j.bits 209 208)).written = 0
        ∧ e.Begun j (s.dev.now + dt) ∧ s.dev.OnlyAt e [] ∧ s.dev.SameMem e))
    ∧ (∀ s dt (i : Fin 4) (r : Bool) id j, (s.dev.capt i).job = some id → s.dev.job id = some j → hasBit (j.bits 211 210) (if r then 0 else 1) = true →
      s.dev.inService 45 = true → (s.dev.capt i).last = none → (s.dev.capt i).written + 1 = j.bits 207 192 →
      s.dev.rangeCause j.fn (j.addr + 16 * (s.dev.capt i).written) 16 false true = none → s.dev.mayWrite j.fn = true → (s.dev.fn j.fn).held = [] →
      j.code = none → j.replay = false → j.orphan = false → j.noCqeOk = false → s.dev.replayKept j = false →
      Answers (.timecaptureEdge dt i r) s (fun e => e.host.Wrote s.dev.host (j.addr + 16 * (s.dev.capt i).written)
          (stampBytes (s.dev.now + dt) r.toNat i ((s.dev.capt i).number % 2 ^ 32)) ∧ (e.capt i).job = none
        ∧ e.get .TIM_CAP_STAT_STAMPS i = min (s.dev.get .TIM_CAP_STAT_STAMPS i + 1) (2 ^ Fld.width .TIM_CAP_STAT_STAMPS - 1)
        ∧ e.Done j 0 ∧ e.dram = s.dev.dram ∧ e.flash = s.dev.flash))
    ∧ (∀ s dt (i : Fin 4) (r : Bool) t0, (s.dev.capt i).job = none → s.dev.inService 45 = true → (s.dev.capt i).last = some t0 →
      (s.dev.elapse dt).run < t0 + 20 * qNs →
      Answers (.timecaptureEdge dt i r) s (fun e => e.get .TIM_CAP_STAT_LOST i
          = min (s.dev.get .TIM_CAP_STAT_LOST i + 1) (2 ^ Fld.width .TIM_CAP_STAT_LOST - 1)
        ∧ s.dev.OnlyAt e [(.TIM_CAP_STAT_LOST, i, 0)] ∧ s.dev.SameMem e))
    ∧ (∀ s dt (p : Fin 4) (msg : List Byte), s.dev.inService 46 = true → s.dev.ptpOn p = true → ptpGood msg 0 44 (s.dev.get .TIM_CTL_DOMAIN) = true →
      s.dev.get .TIM_PORT_DELAY_PORT_STATE p = 3 → s.dev.time.master.map (·.sender) = some (msgAt msg 20 10) →
      Answers (.ptpSync dt p msg) s (fun e => e.get .TIM_OFFSET_OFFSET
          = satS 32 (((s.dev.now + dt : Nat) : Int) + s.dev.gets .TIM_PORT_CFG_ASYM p - msgOrigin msg - msgCorr msg / 256
              - (s.dev.get .TIM_PORT_DELAY_MEAN_DELAY p : Nat)) % 2 ^ 32
        ∧ e.get .TIM_PTP_CNT_SYNC_RX = min (s.dev.get .TIM_PTP_CNT_SYNC_RX + 1) (2 ^ Fld.width .TIM_PTP_CNT_SYNC_RX - 1)
        ∧ e.time.lastSync = (s.dev.elapse dt).run ∧ s.dev.SameMem e))
    ∧ (∀ s dt (p : Fin 4) (msg : List Byte), s.dev.inService 46 = true → s.dev.ptpOn p = true → ptpGood msg 0 44 (s.dev.get .TIM_CTL_DOMAIN) = false →
      Answers (.ptpSync dt p msg) s (fun e => e.get .TIM_PTP_CNT_DISCARDED
          = min (s.dev.get .TIM_PTP_CNT_DISCARDED + 1) (2 ^ Fld.width .TIM_PTP_CNT_DISCARDED - 1)
        ∧ e.time = s.dev.time ∧ s.dev.OnlyAt e [(.TIM_PTP_CNT_DISCARDED, 0, 0)] ∧ s.dev.SameMem e))
    ∧ (∀ s dt (p : Fin 4) (msg : List Byte), s.dev.inService 46 = true → s.dev.ptpOn p = true → ptpGood msg 11 64 (s.dev.get .TIM_CTL_DOMAIN) = true →
      (announceOf msg).sender / 65536 ≠ s.dev.clockId → (announceOf msg).steps < 32 → (s.dev.ptp p).heard = none →
      Answers (.ptpAnnounce dt p msg) s (fun e => (e.ptp p).heard = some (announceOf msg) ∧ (e.ptp p).lastAnn = (s.dev.elapse dt).run
        ∧ (e.ptp p).prevAnn = none ∧ s.dev.SameMem e))
    ∧ (∀ s dt (p : Fin 4) (msg : List Byte), s.dev.inService 46 = true → s.dev.ptpOn p = true → ptpGood msg 2 54 (s.dev.get .TIM_CTL_DOMAIN) = true →
      Answers (.ptpPdelayReq dt p msg) s (fun e => (e.ptp p).sent.length = 54 ∧ msgAt (e.ptp p).sent 0 1 = 3
        ∧ msgAt (e.ptp p).sent 30 2 = msgAt msg 30 2 ∧ (e.ptp p).sent.drop 44 = (msg.drop 20).take 10 ∧ s.dev.OnlyAt e [] ∧ s.dev.SameMem e))
    ∧ (∀ s dt (p : Fin 4) (msg : List Byte) (t1 : Int), s.dev.inService 46 = true → s.dev.ptpOn p = true → ptpGood msg 3 54 (s.dev.get .TIM_CTL_DOMAIN) = true →
      (s.dev.ptp p).reqAt = some t1 → msgAt msg 30 2 = (s.dev.ptp p).reqSeq → msgAt msg 44 10 = s.dev.portId p →
      Answers (.ptpPdelayResp dt p msg) s (fun e => e.get .TIM_PORT_DELAY_MEAN_DELAY p
          = min ((((s.dev.now + dt : Nat) : Int) + s.dev.gets .TIM_PORT_CFG_ASYM p - t1 - msgCorr msg / 256) / 2).toNat 16777215
        ∧ (e.ptp p).reqAt = none ∧ s.dev.OnlyAt e [(.TIM_PORT_DELAY_MEAN_DELAY, p, 0)] ∧ s.dev.SameMem e))
    ∧ (∀ s dt, s.dev.get .TIM_STAT_STATE = 1 → s.dev.time.lastSyncSent + s.dev.syncInterval ≤ (s.dev.elapse dt).run →
      Answers (.ptpSyncSend dt) s (fun e => (∀ q ∈ s.dev.masterPorts, msgAt (e.ptp q).sent 0 1 = 0 ∧ msgAt (e.ptp q).sent 30 2 = s.dev.time.syncSeq % 65536)
        ∧ e.time.syncSeq = (s.dev.time.syncSeq + 1) % 65536 ∧ e.time.lastSyncSent = (s.dev.elapse dt).run ∧ s.dev.OnlyAt e [] ∧ s.dev.SameMem e))
    ∧ (∀ s dt, s.dev.get .TIM_STAT_STATE = 1 → s.dev.time.lastAnnSent + s.dev.annInterval ≤ (s.dev.elapse dt).run →
      Answers (.ptpAnnounceSend dt) s (fun e => (∀ q ∈ s.dev.masterPorts, msgAt (e.ptp q).sent 0 1 = 11 ∧ msgAt (e.ptp q).sent 30 2 = s.dev.time.annSeq % 65536
          ∧ msgAt (e.ptp q).sent 53 8 = s.dev.clockId % 2 ^ 64 ∧ msgAt (e.ptp q).sent 61 2 = 0)
        ∧ e.time.annSeq = (s.dev.time.annSeq + 1) % 65536 ∧ e.time.lastAnnSent = (s.dev.elapse dt).run ∧ s.dev.OnlyAt e [] ∧ s.dev.SameMem e))
    ∧ (∀ s dt (p : Fin 4), s.dev.ptpOn p = true →
      Answers (.ptpPdelaySend dt p) s (fun e => msgAt (e.ptp p).sent 0 1 = 2 ∧ (e.ptp p).reqSeq = ((s.dev.ptp p).reqSeq + 1) % 65536
        ∧ msgAt (e.ptp p).sent 30 2 = (e.ptp p).reqSeq ∧ (e.ptp p).reqAt = some (((s.dev.now + dt : Nat) : Int) + s.dev.gets .TIM_PORT_CFG_ASYM p)
        ∧ s.dev.OnlyAt e [] ∧ s.dev.SameMem e))
    ∧ (∀ s dt, s.dev.get .TIM_CTL_PTP_EN = 1 → s.dev.get .TIM_STAT_STATE = 3 → s.dev.time.lastSync + 16 * s.dev.syncInterval ≤ (s.dev.elapse dt).run →
      s.dev.logs →
      Answers (.ptpAnnounceTimeout dt) s (fun e => e.get .TIM_STAT_STATE = 4 ∧ e.get .TIM_STAT_LOST = 1 ∧ e.Recorded 0x0901 4
        ∧ e.time.holdSince = (s.dev.elapse dt).run ∧ e.time.master = none ∧ s.dev.SameMem e))

/-- TIM_SET. It takes effect only with no layer open (layer state 8) and the time service in FREE_RUN or GRANDMASTER; with a layer open it
completes with 0x03E0, and in ACQUIRING, LOCKED or NET_HOLD with 0x02E1, changing no time; the value applies, and the descriptor completes,
at the first dowel pulse 2 µs or more after it executes, and at none before (R335). -/
def Obligations.TimSetApplies : Prop :=
  (∀ s dt job j, s.dev.Takes job 0x72 j → s.dev.get .TIM_STAT_STATE < 2 → s.dev.get .SYS_LAYER_STAT_STATE = 8 → s.dev.time.set = none →
      Answers (.timSet dt job) s (fun e => e.time.set = some (job, j.bits 175 128 * qSec + j.bits 205 176 * qNs + j.bits 215 208, (s.dev.elapse dt).run + 2 * qUs)
        ∧ e.now = s.dev.now + dt ∧ e.Begun j (s.dev.now + dt) ∧ s.dev.OnlyAt e [] ∧ s.dev.SameMem e))
    ∧ (∀ s dt job j, s.dev.Takes job 0x72 j → s.dev.get .TIM_STAT_STATE < 2 → s.dev.get .SYS_LAYER_STAT_STATE ≠ 8 →
      Answers (.timSet dt job) s (fun e => e.Done j 0x03e0 ∧ e.time = s.dev.time ∧ e.now = s.dev.now + dt ∧ s.dev.SameMem e))
    ∧ (∀ s dt job j, s.dev.Takes job 0x72 j → 2 ≤ s.dev.get .TIM_STAT_STATE →
      Answers (.timSet dt job) s (fun e => e.Done j 0x02e1 ∧ e.time = s.dev.time ∧ e.now = s.dev.now + dt ∧ s.dev.SameMem e))
    ∧ (∀ s dt id v due j, s.dev.time.set = some (id, v, due) → (s.dev.now + dt) % qUs = 0 → s.dev.inService 45 = true → due ≤ (s.dev.elapse dt).run →
      s.dev.job id = some j → j.code = none → j.replay = false → j.orphan = false → j.noCqeOk = false → s.dev.replayKept j = false →
      Answers (.dowelPulse dt []) s (fun e => e.now = v ∧ e.time.set = none ∧ e.Done j 0 ∧ s.dev.SameMem e))
    ∧ (∀ s dt id v due, s.dev.time.set = some (id, v, due) → s.dev.time.step = none → (s.dev.elapse dt).run < due →
      Answers (.dowelPulse dt []) s (fun e => e.now = s.dev.now + dt ∧ e.time.set = s.dev.time.set ∧ e.jobs = s.dev.jobs ∧ s.dev.SameMem e))

/-- Cameras. A capture becomes the context's active one, or waits; its trigger arms it; a frame of an armed capture opens at Frame Start
with the context's present registers, its good lines are stored at its buffer, and at Frame End it waits for the pipeline; a
frame that does not come ends the capture with 0x03D0 and a result block; the pipeline takes entries in order and writes each image and
block (R306 to R318, R321, R441). -/
def Obligations.CamerasCapture : Prop :=
  (∀ s dt job j x, s.dev.Takes job 0x60 j → j.target - 0x60 = x → x < 16 → s.dev.captureCode j = none → (s.dev.cam x).active = none →
      s.dev.portTaken x = false → s.dev.inService 44 = true → j.bits 211 211 = 0 →
      Answers (.camCapture dt job) s (fun e => e.get .CAM_CTX_STAT_ACTIVE x = 1 ∧ e.Begun j (s.dev.now + dt)
        ∧ (∃ a ∈ (e.cam x).active, a.job = job ∧ a.host = j.addr ∧ a.count = j.bits 207 192 ∧ a.armed = true ∧ a.opened = 0 ∧ a.trig = none)
        ∧ s.dev.OnlyAt e [(.CAM_CTX_STAT_ACTIVE, x, 0)] ∧ s.dev.SameMem e))
    ∧ (∀ s dt job j c, s.dev.Takes job 0x60 j → s.dev.captureCode j = some c →
      Answers (.camCapture dt job) s (fun e => e.Done j c ∧ e.cams = s.dev.cams ∧ s.dev.SameMem e))
    ∧ (∀ s dt (x : Fin 16) (a : Capture) k t0, (s.dev.cam x).active = some a → a.trig = some (k, t0) → t0 ≤ s.dev.now + dt →
      s.dev.inService 44 = true → s.dev.get .SYS_ISL_STAT_HOLDOVER 44 = 0 →
      Answers (.camTrigger dt x) s (fun e => (e.cam x).active = some { a with trig := none, armed := true, since := (s.dev.elapse dt).run } ∧ s.dev.SameMem e))
    ∧ (∀ s dt job j, s.dev.Takes job 0x63 j → (s.dev.cam (j.target - 0x60)).active.map (·.job) ≠ some job →
      Answers (.camStop dt job) s (fun e => e.Done j 0 ∧ (∀ a ∈ (e.cam (j.target - 0x60)).active, a.stopping = true ∧ a.trig = none ∧ a.count = a.opened)
        ∧ s.dev.SameMem e))
    ∧ (∀ s dt job j, s.dev.Takes job 0x62 j →
      Answers (.camTable dt job) s (fun e => (e.cam (j.target - 0x60)).tables = (s.dev.cam (j.target - 0x60)).tables ++ [job]
        ∧ e.Begun j (s.dev.now + dt) ∧ s.dev.OnlyAt e [] ∧ s.dev.SameMem e))
    ∧ (∀ s dt job j, s.dev.Takes job 0x61 j → s.dev.reprocCode j = none →
      Answers (.camReproc dt job) s (fun e => e.pipe.queue.length = s.dev.pipe.queue.length + 1 ∧ e.Begun j (s.dev.now + dt)
        ∧ (∃ f ∈ e.pipe.queue, f.job = some job ∧ f.reproc = true ∧ f.ctx = j.bits 235 232 ∧ f.buf = some (j.bits 231 224))
        ∧ s.dev.OnlyAt e [(.CAM_PIPE_STAT_QUEUE, 0, 0)] ∧ s.dev.SameMem e))
    ∧ (∀ s dt job j c, s.dev.Takes job 0x61 j → s.dev.reprocCode j = some c →
      Answers (.camReproc dt job) s (fun e => e.Done j c ∧ e.pipe = s.dev.pipe ∧ s.dev.SameMem e))
    ∧ (∀ s dt (p : Fin 8) (vc : Fin 4) x (a : Capture), s.dev.eff .CAM_PORT_CFG_ENABLE p = 1 → s.dev.inService 44 = true →
      (s.dev.camPort p).frames.find? (fun f => f.vc == vc.val) = none → s.dev.frameTaker p vc = some x → (s.dev.cam x).tables = [] →
      (s.dev.cam x).active = some a → (∀ k < 256, (Tab.get {} (s.dev.cam x).bufs k).busy = false) →
      Answers (.csiFrameStart dt p vc) s (fun e => (∃ f ∈ (e.camPort p).frames, f.ctx = x ∧ f.vc = vc ∧ f.start = s.dev.now + dt ∧ f.lines = [] ∧ f.dropped = false
          ∧ f.number = (s.dev.cam x).frameNo ∧ f.job = some a.job ∧ f.set.w = s.dev.get .CAM_CTX_SIZE_W x ∧ f.set.h = s.dev.get .CAM_CTX_SIZE_H x)
        ∧ (e.cam x).active = some { a with opened := a.opened + 1 } ∧ s.dev.OnlyAt e [] ∧ s.dev.SameMem e))
    ∧ (∀ s dt (p : Fin 8) (vc : Fin 4), s.dev.eff .CAM_PORT_CFG_ENABLE p = 1 → s.dev.inService 44 = true →
      (s.dev.camPort p).frames.find? (fun f => f.vc == vc.val) = none → s.dev.frameTaker p vc = none →
      Answers (.csiFrameStart dt p vc) s (fun e => e.get .CAM_PORT_ERR_UNSOLICITED p
          = min (s.dev.get .CAM_PORT_ERR_UNSOLICITED p + 1) (2 ^ Fld.width .CAM_PORT_ERR_UNSOLICITED - 1)
        ∧ e.camPorts = s.dev.camPorts ∧ s.dev.OnlyAt e [(.CAM_PORT_ERR_UNSOLICITED, p, 0)] ∧ s.dev.SameMem e))
    ∧ (∀ s dt (p : Fin 8) (hd : Word) (bs : List Byte) (crc : BitVec 16) h (f : CamFrame) k (line : List Nat), s.dev.eff .CAM_PORT_CFG_ENABLE p = 1 →
      s.dev.inService 44 = true → eccCheck hd.toNat = some (h, false) → bitsOf h 25 24 = 0 → 0x2a ≤ bitsOf h 5 0 → bitsOf h 5 0 ≤ 0x2d →
      csiCrc bs = crc.toNat → (s.dev.camPort p).frames.find? (fun f => f.vc == bitsOf h 7 6) = some f → f.dropped = false →
      f.set.dt = bitsOf h 5 0 → line = (pixelsOf (bitsOf h 5 0) (bs.take (bitsOf h 23 8))).take f.set.w → line.length = f.set.w →
      f.lines.length < f.set.h → f.buf = some k → f.stored = true →
      Answers (.csiLine dt p hd bs crc) s (fun e =>
        e.dram.Wrote s.dev.dram (s.dev.bufBase f.ctx k + f.lines.length * f.set.w * 2) (line.flatMap (leBytes 2))
          ∧ (e.camPort p).frames.find? (fun f => f.vc == bitsOf h 7 6) = some { f with lines := f.lines ++ [line] }
          ∧ s.dev.OnlyAt e [] ∧ e.host = s.dev.host ∧ e.flash = s.dev.flash))
    ∧ (∀ s dt (p : Fin 8) (hd : Word) (bs : List Byte) (crc : BitVec 16), s.dev.eff .CAM_PORT_CFG_ENABLE p = 1 → s.dev.inService 44 = true →
      eccCheck hd.toNat = none →
      Answers (.csiLine dt p hd bs crc) s (fun e => e.get .CAM_PORT_ERR_HDR_DROP p
          = min (s.dev.get .CAM_PORT_ERR_HDR_DROP p + 1) (2 ^ Fld.width .CAM_PORT_ERR_HDR_DROP - 1)
        ∧ e.camPorts = s.dev.camPorts ∧ s.dev.OnlyAt e [(.CAM_PORT_ERR_HDR_DROP, p, 0)] ∧ s.dev.SameMem e))
    ∧ (∀ s dt (p : Fin 8) (vc : Fin 4) (f : CamFrame), s.dev.eff .CAM_PORT_CFG_ENABLE p = 1 → s.dev.inService 44 = true →
      (s.dev.camPort p).frames.find? (fun f => f.vc == vc.val) = some f → f.dropped = false → f.inl = false →
      Answers (.csiFrameEnd dt p vc) s (fun e => (e.camPort p).frames = (s.dev.camPort p).frames.filter (fun g => g.vc != vc.val)
        ∧ { f with short := decide (f.lines.length < f.set.h) } ∈ e.pipe.queue ∧ (e.camPort p).timeouts = 0 ∧ s.dev.SameMem e))
    ∧ (∀ s dt (x : Fin 16) (a : Capture) j (f : CamFrame), (s.dev.cam x).active = some a → a.armed = true → a.opened = 0 → a.results = 0 → 0 < a.count →
      a.code = none → s.dev.receiving x = false → a.since + s.dev.get .CAM_CTX_CFG_TIMEOUT_MS x * qMs ≤ (s.dev.elapse dt).run → s.dev.job a.job = some j →
      j.code = none → j.replay = false → j.orphan = false → j.noCqeOk = false → s.dev.replayKept j = false → j.addr ≠ 0 →
      f = ({ ctx := x, port := s.dev.get .CAM_CTX_SRC_PORT x, start := 0, number := (s.dev.cam x).frameNo, set := s.dev.camSet x, job := some a.job, timeout := true } : CamFrame) →
      s.dev.rangeCause j.fn j.addr (f.emptyBlock 8).length false true = none → s.dev.mayWrite j.fn = true → (s.dev.fn j.fn).held = [] →
      Answers (.camFrameTimeout dt x) s (fun e => e.host.Wrote s.dev.host j.addr (f.emptyBlock 8) ∧ e.Done j 0x03d0 ∧ (e.cam x).active = none
        ∧ e.get .CAM_CTX_STAT_ACTIVE x = 0 ∧ (e.camPort (s.dev.get .CAM_CTX_SRC_PORT x)).timeouts = (s.dev.camPort (s.dev.get .CAM_CTX_SRC_PORT x)).timeouts + 1
        ∧ e.dram = s.dev.dram ∧ e.flash = s.dev.flash))
    ∧ (∀ s dt (p : Fin 8), s.dev.get .MGT_TMO_CAM_TMO_MAX ≤ (s.dev.camPort p).timeouts → (s.dev.camPort p).frames = [] → s.dev.logs →
      Answers (.camPortReset dt p) s (fun e => e.camPort p = {} ∧ e.get .MGT_LAST_UNIT = 44 ∧ e.get .MGT_LAST_KIND = 7 ∧ e.Recorded 0x0d02 4
        ∧ e.get .MGT_UNIT_FAULTS 44 = min (s.dev.get .MGT_UNIT_FAULTS 44 + 1) (2 ^ Fld.width .MGT_UNIT_FAULTS - 1)
        ∧ e.get .MGT_UNIT_IN_SERVICE 44 = s.dev.get .MGT_UNIT_IN_SERVICE 44 ∧ s.dev.SameMem e))
    ∧ (∀ s dt (f : CamFrame) (rest : List CamFrame), s.dev.pipe.busy = none → s.dev.inService 44 = true → s.dev.pipe.queue = f :: rest →
      Answers (.pipelineEntryStart dt) s (fun e => e.pipe.busy = some f ∧ e.pipe.queue = rest ∧ e.get .CAM_PIPE_STAT_QUEUE = min rest.length 255
        ∧ s.dev.OnlyAt e [(.CAM_PIPE_STAT_QUEUE, 0, 0)] ∧ s.dev.SameMem e))
    ∧ (∀ s dt (x : Fin 16) (f : CamFrame) k (p : Processed) (r : Result), s.dev.inService 44 = true →
      s.dev.pipe.closed.find? (fun f => f.ctx == x.val) = none → s.dev.pipe.busy = some f → f.ctx = x.val → f.reproc = false → f.dropped = false →
      f.job = none → f.buf = some k → p = f.set.process f.lines → r = f.result p false →
      Answers (.pipelineFrameDone dt x) s (fun e => e.pipe.busy = none ∧ e.get .CAM_CTX_LAST_METRIC x = r.metric % 2 ^ 16
        ∧ e.dram.Wrote2 s.dev.dram (s.dev.bufBase x k + f.set.rawBytes f.stored) (f.set.output p)
            (s.dev.bufBase x k + f.set.rawBytes f.stored + up64 f.set.imageBytes) (f.block p r)
        ∧ (Tab.get {} (e.cam x).bufs k).busy = false ∧ (Tab.get {} (e.cam x).bufs k).raw = f.stored ∧ e.host = s.dev.host ∧ e.flash = s.dev.flash))
    ∧ (∀ s dt (value : Word), s.dev.frozen 0 = false → (s.dev.camPort (s.dev.get .CAM_INLINE_PORT)).frames = [] →
      (s.dev.camPort (value.toNat % 8)).frames = [] →
      Answers (.camInlineWrite dt value) s (fun e => e.get .CAM_INLINE_PORT = value.toNat % 8 ∧ e.get .CAM_INLINE_EN = bitsOf value.toNat 7 7
        ∧ e.pipe.inlineNew = none ∧ s.dev.OnlyAt e [(.CAM_INLINE_PORT, 0, 0), (.CAM_INLINE_EN, 0, 0)] ∧ s.dev.SameMem e))

/-! ### The Tvedx fabric (R114, R336 to R353) -/

/-- The fabric. A queued frame leaves by its port with its header, and not before its launch time; the third HELLO makes a neighbour
known, and one with this device's ID and a lower serial number takes it; a silent neighbour and a lost block lock are seen in
FAB_PORT_STAT; routes are the neighbours' distances plus one; JOIN_EN starts the claim, which ends JOINED or in CONFLICT; JOIN
and LEAVE clear and set LEFT; frames of others are forwarded with HOPS raised; bulk data is written under a grant, acknowledged, resent,
and given up after eight resends; FAB_LEAVE and FAB_EVICT end membership (R336 to R353, R114, R115). -/
def Obligations.FabricMembers : Prop :=
  (∀ s dt (p : Fin 4) (m : FabMsg), s.dev.inService 46 = true → s.dev.portUp p = true → s.dev.fabState = 2 → s.dev.fabOut = [m] →
      m.port = some p.val → m.bcast = false → m.launch = 0 → m.kind < 0x10 →
      Answers (.fabricLaunch dt p) s (fun e => e.fabOut = [] ∧ (e.port p).sent = BitVec.ofNat 128 (s.dev.fabHeader m) :: m.payload
        ∧ (e.port p).eth = s.dev.fabEth p m.class' ∧ s.dev.SameMem e))
    ∧ (∀ s dt (p : Fin 4) (m : FabMsg), s.dev.fabOut = [m] → s.dev.now + dt < m.launch →
      Answers (.fabricLaunch dt p) s (fun e => e.fabOut = [m] ∧ (e.port p).sent = (s.dev.port p).sent ∧ s.dev.SameMem e))
    ∧ (∀ s dt (p : Fin 4) (g : Gran) (rest : List Gran), s.dev.inService 46 = true → (s.dev.port p).hellos = 2 → hasBit g.toNat 12 = false →
      Answers (.hello dt p (g :: rest)) s (fun e => e.get .FAB_PORT_STAT_NBR_KNOWN p = 1 ∧ e.get .FAB_PORT_STAT_NBR_ID p = bitsOf g.toNat 9 0
        ∧ (e.port p).nbrSerial = bitsOf g.toNat 127 64 ∧ (e.port p).lastHello = (s.dev.elapse dt).run
        ∧ e.get .FAB_STAT_STATE = s.dev.get .FAB_STAT_STATE ∧ s.dev.SameMem e))
    ∧ (∀ s dt (p : Fin 4) (g : Gran) (rest : List Gran), s.dev.inService 46 = true → s.dev.fabState = 2 → hasBit g.toNat 12 = true → bitsOf g.toNat 9 0 = s.dev.ownId →
      bitsOf g.toNat 127 64 < s.dev.mram.serial % 2 ^ 64 → s.dev.logs →
      Answers (.hello dt p (g :: rest)) s (fun e => e.get .FAB_STAT_STATE = 4 ∧ e.get .FAB_STAT_ID_CONFLICT = 1 ∧ e.pins.ringHoldA = false
        ∧ e.pins.ringHoldB = false ∧ e.Recorded 0x0a01 5 ∧ s.dev.SameMem e))
    ∧ (∀ s dt (p : Fin 4), s.dev.portUp p = true → (s.dev.port p).helloSent + s.dev.get .FAB_TIMER_HELLO_US * qUs ≤ (s.dev.elapse dt).run →
      Answers (.helloSend dt p) s (fun e => (e.port p).helloSent = (s.dev.elapse dt).run ∧ e.fabOut.length = s.dev.fabOut.length + 1
        ∧ (∃ m ∈ e.fabOut, m.kind = 1 ∧ m.port = some p.val ∧ m.payload = [s.dev.helloGran p]) ∧ s.dev.OnlyAt e [] ∧ s.dev.SameMem e))
    ∧ (∀ s dt (p : Fin 4), s.dev.get .FAB_PORT_STAT_NBR_KNOWN p = 1 →
      (s.dev.port p).lastHello + s.dev.get .FAB_TIMER_KEEP_MISS * s.dev.get .FAB_TIMER_HELLO_US * qUs ≤ (s.dev.elapse dt).run →
      Answers (.neighbourLost dt p) s (fun e => e.get .FAB_PORT_STAT_NBR_KNOWN p = 0 ∧ e.get .FAB_PORT_STAT_NBR_LOST p = 1
        ∧ (e.port p).adv = [] ∧ (e.port p).hellos = 0 ∧ s.dev.SameMem e))
    ∧ (∀ s dt (p : Fin 4), s.dev.get .FAB_PORT_STAT_RX_LOCK p = 1 → s.dev.fabState = 2 →
      Answers (.blockLockLost dt p) s (fun e => e.get .FAB_PORT_STAT_RX_LOCK p = 0 ∧ e.get .FAB_PORT_STAT_LINK_UP p = 0
        ∧ e.get .FAB_PORT_CNT_RELOCKS p = min (s.dev.get .FAB_PORT_CNT_RELOCKS p + 1) (2 ^ Fld.width .FAB_PORT_CNT_RELOCKS - 1)
        ∧ (e.port p).adv = [] ∧ (p.val < 2 → e.pins.ringHoldA = false ∧ e.pins.ringHoldB = false)
        ∧ e.get .FAB_STAT_STATE = (if p.val < 2 ∧ s.dev.portUp 2 = false ∧ s.dev.portUp 3 = false then 1 else 2) ∧ s.dev.SameMem e))
    ∧ (∀ s dt (p : Fin 4), s.dev.eff .FAB_PORT_CFG_MODE p ≠ 0 → s.dev.get .FAB_PORT_CFG_MODE p ≠ 0 → s.dev.inService 46 = true →
      Answers (.blockLockGained dt p) s (fun e => e.get .FAB_PORT_STAT_RX_LOCK p = 1 ∧ e.get .FAB_PORT_STAT_LINK_UP p = 1
        ∧ (s.dev.fabState = 1 → s.dev.fabric.retried = false → e.fabric.claimAt = some ((s.dev.elapse dt).run)) ∧ s.dev.SameMem e))
    ∧ (∀ s dt (p : Fin 4) payload id dist, s.dev.inService 46 = true → routeEntries payload = [(id, dist)] → dist < 32 → s.dev.known p = true →
      (∀ q < 4, q ≠ p.val → s.dev.known q = false) → s.dev.ownIs id = false →
      Answers (.route dt p payload) s (fun e => e.get .FAB_ROUTE_DIST id = dist + 1 ∧ e.get .FAB_ROUTE_MASK id = 2 ^ p.val
        ∧ (e.port p).adv = Tab.set 33 (s.dev.port p).adv id dist ∧ (s.dev.fabState = 1 → id ∈ e.fabric.heardIds) ∧ s.dev.SameMem e))
    ∧ (∀ s dt (p : Fin 4), s.dev.portUp p = true → (s.dev.port p).lastRoute + s.dev.get .FAB_TIMER_ROUTE_MS * qMs ≤ (s.dev.elapse dt).run →
      Answers (.routeSend dt) s (fun e => (e.port p).lastRoute = (s.dev.elapse dt).run ∧ (e.port p).changed = false
        ∧ (∃ m ∈ e.fabOut, m.kind = 2 ∧ m.port = some p.val ∧ m.more = true ∧ m.payload = s.dev.routeGrans p 0 728)
        ∧ (∃ m ∈ e.fabOut, m.kind = 2 ∧ m.port = some p.val ∧ m.more = false ∧ m.payload = s.dev.routeGrans p 728 296)
        ∧ s.dev.OnlyAt e [] ∧ s.dev.SameMem e))
    ∧ (∀ s dt (p : Fin 4) (dev : Fin 1024), s.dev.adv p dev < 33 →
      Tab.get 0 (s.dev.port p).advAt dev + 3 * s.dev.get .FAB_TIMER_ROUTE_MS * qMs ≤ (s.dev.elapse dt).run → (∀ q < 4, q ≠ p.val → s.dev.known q = false) →
      s.dev.ownIs dev = false → (s.dev.get .FAB_ROUTE_DIST dev < 33 ∨ s.dev.get .FAB_ROUTE_MASK dev ≠ 0) →
      Answers (.routeAgeOut dt p dev) s (fun e => e.adv p dev = 33 ∧ e.get .FAB_ROUTE_DIST dev = 33 ∧ e.get .FAB_ROUTE_MASK dev = 0
        ∧ s.dev.SameMem e))
    ∧ (∀ s dt (value : Word), s.dev.frozen 0 = false → s.dev.get .SYS_LOCK_LOCK = 0 → s.dev.fabState = 0 → s.dev.get .FAB_CFG_JOIN_EN = 0 →
      bitsOf value.toNat 11 11 = 1 → 1 ≤ bitsOf value.toNat 27 16 → bitsOf value.toNat 27 16 ≤ 4094 →
      Answers (.joinEnable dt value) s (fun e => e.get .FAB_STAT_STATE = 1 ∧ e.get .FAB_CFG_JOIN_EN = 1 ∧ e.get .FAB_CFG_REQ_ID = bitsOf value.toNat 9 0
        ∧ e.fabric.claimId = bitsOf value.toNat 9 0 ∧ e.fabric.claimAt = some ((s.dev.elapse dt).run) ∧ e.fabric.heardIds = [] ∧ s.dev.SameMem e))
    ∧ (∀ s dt t0, s.dev.fabState = 1 → s.dev.get .FAB_CFG_JOIN_EN = 1 → s.dev.fabric.claimAt = some t0 →
      t0 + s.dev.get .FAB_TIMER_CLAIM_MS * qMs ≤ (s.dev.elapse dt).run → s.dev.fabric.claimId ∉ s.dev.fabric.heardIds → s.dev.fabric.claimId < 1024 →
      Answers (.claimDone dt) s (fun e => e.get .FAB_STAT_STATE = 2 ∧ e.get .FAB_STAT_ID = s.dev.fabric.claimId ∧ e.fabric.claimAt = none
        ∧ e.fabric.rebcasts = 2 ∧ e.fabric.rebcastKind = 3 ∧ (∃ m ∈ e.fabOut, m.kind = 3 ∧ m.bcast = true) ∧ s.dev.SameMem e))
    ∧ (∀ s dt t0, s.dev.fabState = 1 → s.dev.get .FAB_CFG_JOIN_EN = 1 → s.dev.fabric.claimAt = some t0 →
      t0 + s.dev.get .FAB_TIMER_CLAIM_MS * qMs ≤ (s.dev.elapse dt).run → s.dev.fabric.claimId ∈ s.dev.fabric.heardIds → s.dev.fabric.retried = true →
      s.dev.logs →
      Answers (.claimDone dt) s (fun e => e.get .FAB_STAT_STATE = 4 ∧ e.get .FAB_STAT_ID_CONFLICT = 1 ∧ e.Recorded 0x0a01 5 ∧ s.dev.SameMem e))
    ∧ (∀ s dt, 0 < s.dev.fabric.rebcasts → s.dev.fabric.rebcastAt + qMs ≤ (s.dev.elapse dt).run →
      Answers (.broadcastRepeat dt) s (fun e => e.fabric.rebcasts = s.dev.fabric.rebcasts - 1 ∧ e.fabric.rebcastAt = (s.dev.elapse dt).run
        ∧ (∃ m ∈ e.fabOut, m.kind = s.dev.fabric.rebcastKind ∧ m.bcast = true ∧ m.payload = [s.dev.helloGran 0])
        ∧ s.dev.OnlyAt e [] ∧ s.dev.SameMem e))
    ∧ (∀ s dt (dev : Fin 1024) (g : Gran) (rest : List Gran), s.dev.inService 46 = true → s.dev.ownIs dev = false →
      s.dev.get .FAB_ROUTE_LEFT dev = 1 →
      Answers (.join dt dev (g :: rest)) s (fun e => e.get .FAB_ROUTE_LEFT dev = 0 ∧ (s.dev.layerOpen = true → dev.val ∈ e.fabric.joinedLate)
        ∧ s.dev.OnlyAt e [(.FAB_ROUTE_LEFT, dev, 0), (.SYS_BARRIER_STAT_READY_COUNT, 0, 0)] ∧ s.dev.SameMem e))
    ∧ (∀ s dt (dev : Fin 1024), s.dev.inService 46 = true → s.dev.ownIs dev = false → s.dev.layerState ≠ 10 →
      Answers (.leave dt dev) s (fun e => e.get .FAB_ROUTE_LEFT dev = 1 ∧ (∀ h ∈ e.kerf.halo, h.dev ≠ dev.val) ∧ (∀ h ∈ e.kerf.incoming, h.dev ≠ dev.val)))
    ∧ (∀ s dt (p : Fin 4) (header : Gran) payload q, s.dev.inService 46 = true → headerOk header.toNat = true → bitsOf header.toNat 71 64 = payload.length →
      payload.length ≤ 92 → s.dev.ownIs (bitsOf header.toNat 19 10) = false → 3 ≤ bitsOf header.toNat 55 48 → bitsOf header.toNat 55 48 ≠ 0x16 →
      hasBit header.toNat 56 = false → s.dev.ownIs (bitsOf header.toNat 9 0) = false → s.dev.routePort (bitsOf header.toNat 9 0) = some q →
      Answers (.fabForward dt p header payload) s (fun e => (bitsOf header.toNat 29 24 < 32 → e.fabOut.length = s.dev.fabOut.length + 1
          ∧ (∃ m ∈ e.fabOut, m.src = some (bitsOf header.toNat 19 10) ∧ m.dst = bitsOf header.toNat 9 0 ∧ m.hops = bitsOf header.toNat 29 24 + 1
              ∧ m.seq = bitsOf header.toNat 47 32 ∧ m.tc = some (bitsOf header.toNat 22 20) ∧ m.kind = bitsOf header.toNat 55 48 ∧ m.payload = payload)
          ∧ s.dev.OnlyAt e [])
        ∧ (32 ≤ bitsOf header.toNat 29 24 → e.fabOut = s.dev.fabOut
          ∧ e.get .FAB_DROP_HOPS_EXC = min (s.dev.get .FAB_DROP_HOPS_EXC + 1) (2 ^ Fld.width .FAB_DROP_HOPS_EXC - 1)) ∧ s.dev.SameMem e))
    ∧ (∀ s dt (p : Fin 4) (header : Gran) payload, s.dev.inService 46 = true → headerOk header.toNat = false →
      Answers (.fabForward dt p header payload) s (fun e => e.fabOut = s.dev.fabOut
        ∧ e.get .FAB_PORT_CNT_RX_BAD p = min (s.dev.get .FAB_PORT_CNT_RX_BAD p + 1) (2 ^ Fld.width .FAB_PORT_CNT_RX_BAD - 1)
        ∧ s.dev.OnlyAt e [(.FAB_PORT_CNT_RX_BAD, p, 0)] ∧ s.dev.SameMem e))
    ∧ (∀ s dt job j, s.dev.Takes job 0x78 j → j.bits 175 128 % 16 = 0 → j.bits 239 192 % 16 = 0 → j.bits 287 256 % 16 = 0 → 16 ≤ j.bits 287 256 →
      j.bits 175 128 + j.bits 287 256 ≤ s.dev.dramBytes → s.dev.ownIs (j.bits 185 176) = false → s.dev.reachable (j.bits 185 176) = true →
      s.dev.get .FAB_ROUTE_LEFT (j.bits 185 176) = 0 →
      Answers (.fabWrite dt job) s (fun e => e.Begun j (s.dev.now + dt) ∧ (∃ x ∈ e.fabric.txs, x.job = job ∧ x.dst = j.bits 185 176
          ∧ x.loc = j.bits 175 128 ∧ x.remote = j.bits 239 192 ∧ x.bytes = j.bits 287 256 ∧ x.acked = 0)
        ∧ e.fabric.txs.length = s.dev.fabric.txs.length + 1 ∧ s.dev.OnlyAt e [] ∧ s.dev.SameMem e))
    ∧ (∀ s dt job j, s.dev.Takes job 0x78 j → j.bits 175 128 % 16 ≠ 0 →
      Answers (.fabWrite dt job) s (fun e => e.Done j 0x01e8 ∧ e.fabric = s.dev.fabric ∧ s.dev.SameMem e))
    ∧ (∀ s dt (header g : Gran) data, s.dev.inService 46 = true → s.dev.peerFrozen (bitsOf header.toNat 19 10) = false →
      s.dev.grantOk (bitsOf header.toNat 19 10) 5 (some (bitsOf g.toNat 47 0, 16 * data.length)) = true →
      bitsOf g.toNat 47 0 + 16 * data.length ≤ s.dev.dramBytes →
      Answers (.bulkWrite dt header (g :: data)) s (fun e => e.dram.Wrote s.dev.dram (bitsOf g.toNat 47 0) (granBytes data)
        ∧ ((Tab.get {} s.dev.fabric.rxs (bitsOf header.toNat 19 10 + 1024 * bitsOf g.toNat 79 64)).next = some (bitsOf header.toNat 47 32) →
            hasBit header.toNat 57 = false → ∃ m ∈ e.fabOut, m.kind = 0x17 ∧ m.dst = bitsOf header.toNat 19 10
              ∧ m.payload = [BitVec.ofNat 128 (bitsOf header.toNat 47 32)])
        ∧ s.dev.OnlyAt e [] ∧ e.host = s.dev.host ∧ e.flash = s.dev.flash))
    ∧ (∀ s dt (dev : Fin 1024) (g : Gran) (rest : List Gran) (x : BulkTx) j, s.dev.inService 46 = true → s.dev.fabric.txs = [x] → x.dst = dev → x.next = x.frames → x.acked < x.frames →
      bitsOf g.toNat 15 0 = (x.first + x.frames - 1) % 65536 → x.frames - x.acked ≤ 65536 → s.dev.job x.job = some j → j.code = none → j.replay = false →
      j.orphan = false → j.noCqeOk = false → s.dev.replayKept j = false →
      Answers (.bulkAck dt dev (g :: rest)) s (fun e => e.Done j 0 ∧ e.fabric.txs = [] ∧ s.dev.SameMem e))
    ∧ (∀ s dt (x : BulkTx), s.dev.fabric.txs = [x] → x.resends < 8 → x.progress + 100 * qUs ≤ (s.dev.elapse dt).run →
      Answers (.bulkResendTimeout dt x.job) s (fun e => e.fabric.txs.length = 1 ∧ (∀ y ∈ e.fabric.txs, y.job = x.job ∧ y.resends = x.resends + 1
        ∧ y.progress = (s.dev.elapse dt).run ∧ y.acked = x.acked ∧ y.next ≤ x.acked + 2) ∧ s.dev.OnlyAt e [] ∧ s.dev.SameMem e))
    ∧ (∀ s dt (x : BulkTx) j, s.dev.fabric.txs = [x] → 8 ≤ x.resends → x.progress + 100 * qUs ≤ (s.dev.elapse dt).run → s.dev.job x.job = some j →
      j.code = none → j.replay = false → j.orphan = false → j.noCqeOk = false → s.dev.replayKept j = false →
      Answers (.bulkResendTimeout dt x.job) s (fun e => e.Done j 0x03e8 ∧ e.fabric.txs = [] ∧ s.dev.SameMem e))
    ∧ (∀ s dt job j, s.dev.Takes job 0x79 j → s.dev.fabState = 2 →
      Answers (.fabLeave dt job) s (fun e => e.get .FAB_STAT_STATE = 3 ∧ e.Begun j (s.dev.now + dt) ∧ e.fabric.leaveAt = (s.dev.elapse dt).run
        ∧ e.fabric.rebcasts = 2 ∧ e.fabric.rebcastKind = 4 ∧ (∃ m ∈ e.fabOut, m.kind = 4 ∧ m.bcast = true)
        ∧ s.dev.OnlyAt e [(.FAB_STAT_STATE, 0, 0)] ∧ s.dev.SameMem e))
    ∧ (∀ s dt j, s.dev.fabState = 3 → s.dev.fabric.leaveAt + s.dev.get .FAB_SHAPE_LEAVE_US * qUs ≤ (s.dev.elapse dt).run → s.dev.jobs = [j] →
      j.opcode = 0x79 → j.status = .executing → j.code = none → j.replay = false → j.orphan = false → j.noCqeOk = false → s.dev.replayKept j = false →
      Answers (.leaveDone dt) s (fun e => e.get .FAB_STAT_STATE = 0 ∧ e.get .FAB_CFG_JOIN_EN = 0 ∧ e.fabOut = [] ∧ e.fabric.rebcasts = 0
        ∧ e.pins.ringHoldA = false ∧ e.pins.ringHoldB = false ∧ e.Done j 0 ∧ s.dev.SameMem e))
    ∧ (∀ s dt job j, s.dev.Takes job 0x7a j → s.dev.reachable (j.bits 137 128) = true →
      Answers (.fabEvict dt job) s (fun e => e.Done j 0x02e9 ∧ e.fabric = s.dev.fabric ∧ s.dev.SameMem e))
    ∧ (∀ s dt job j, s.dev.Takes job 0x7a j → s.dev.reachable (j.bits 137 128) = false → s.dev.layerState ≠ 10 →
      Answers (.fabEvict dt job) s (fun e => e.get .FAB_ROUTE_LEFT (j.bits 137 128) = 1 ∧ e.Done j 0 ∧ s.dev.SameMem e))

/-! ### The hinge pair (R354 to R367) -/

/-- The hinge pair. FENCE_IN fences a paired device at once and lets it synchronise when it rises; an unopposed device becomes ACTIVE; a
record goes out each microsecond and a beat every 10; a standby adopts an active's record and takes over when its partner fails or both
paths are lost, OWN rising after the partner's has fallen; two actives yield one; health is judged and reported; a partner is brought
up by snapshot and copy; handover and release are commanded (R354 to R367). -/
def Obligations.HingePair : Prop :=
  (∀ s dt, s.dev.paired = true → s.dev.hngState ≠ 5 →
      Answers (.fenceInAssert dt) s (fun e => e.get .HNG_STAT_STATE = 5 ∧ e.get .HNG_STAT_REASON = 6 ∧ e.get .HNG_STAT_ELIGIBLE = 0
        ∧ e.get .HNG_STAT_FENCE_IN = 0 ∧ e.pins.fenceIn = true ∧ e.pins.own = false ∧ e.hinge.deciding = none ∧ e.hinge.handover = none
        ∧ e.hinge.sentA.length = 1 ∧ s.dev.SameMem e))
    ∧ (∀ s dt, s.dev.paired = true → s.dev.hngState = 5 →
      Answers (.fenceInRelease dt) s (fun e => e.get .HNG_STAT_STATE = 3 ∧ e.get .HNG_STAT_FENCE_IN = 1 ∧ e.pins.fenceIn = false
        ∧ e.hinge.fenced = false ∧ e.hinge.since = (s.dev.elapse dt).run
        ∧ s.dev.OnlyAt e [(.HNG_STAT_STATE, 0, 0), (.HNG_STAT_FENCE_IN, 0, 0)] ∧ s.dev.SameMem e))
    ∧ (∀ s dt, s.dev.paired = true → s.dev.hngState = 3 → s.dev.pins.fenceIn = false → s.dev.hinge.since + 100 * qMs ≤ (s.dev.elapse dt).run →
      s.dev.hinge.heardActive = none → s.dev.hinge.heardAny = none →
      Answers (.hingeStartupTimeout dt) s (fun e => e.get .HNG_STAT_STATE = 1 ∧ e.pins.own = true
        ∧ s.dev.OnlyAt e [(.HNG_STAT_STATE, 0, 0)] ∧ s.dev.SameMem e))
    ∧ (∀ s dt, s.dev.paired = true → (s.dev.now + dt) % qUs = 0 → s.dev.inService 47 = true → s.dev.hinge.syncPeer = false →
      Answers (.mirrorCapture dt) s (fun e => e.hinge.mseq = (s.dev.hinge.mseq + 1) % 2 ^ 32 ∧ e.hinge.beat = !s.dev.hinge.beat
        ∧ e.hinge.sentA = e.hinge.sentB ∧ (s.dev.hngState = 1 → e.hinge.sentB.length = 37 ∧ e.hinge.sentB.drop 1 = (s.dev.elapse dt).mirrorRest)
        ∧ (s.dev.hngState ≠ 1 → e.hinge.sentB.length = 1) ∧ e.hinge.sentB.head? = some e.beatGran
        ∧ (∃ m ∈ e.fabOut, m.kind = 0x21 ∧ m.dst = s.dev.partner ∧ m.payload = e.hinge.sentB)
        ∧ s.dev.OnlyAt e [(.HNG_CNT_MIRROR_MISS, 0, 0)] ∧ s.dev.SameMem e))
    ∧ (∀ s dt, s.dev.paired = true → (s.dev.now + dt) % (10 * qUs) = 0 → s.dev.inService 47 = true →
      Answers (.heartbeatSend dt) s (fun e => e.fabOut.length = s.dev.fabOut.length + 1
        ∧ (∃ m ∈ e.fabOut, m.kind = 0x20 ∧ m.dst = s.dev.partner ∧ m.payload = [(s.dev.elapse dt).beatGran])
        ∧ e.hinge = s.dev.hinge ∧ s.dev.OnlyAt e [] ∧ s.dev.SameMem e))
    ∧ (∀ s dt (g : Gran) (rest : List Gran), s.dev.paired = true → s.dev.inService 46 = true → s.dev.inService 47 = true → s.dev.hngState = 2 → bitsOf g.toNat 35 32 = 1 → rest.length = 36 →
      Answers (.mirror dt false (g :: rest)) s (fun e => e.hinge.mark = g :: rest ∧ e.hinge.peerState = 1 ∧ e.hinge.heardActive = some ((s.dev.elapse dt).run)
        ∧ e.hinge.markAt = (resolveTs64 (s.dev.now + dt) (bitsOf g.toNat 127 64)).toNat ∧ e.get .HNG_STAT_STATE = 2 ∧ s.dev.SameMem e))
    ∧ (∀ s dt (g : Gran) (rest : List Gran), s.dev.paired = true → s.dev.inService 47 = true → s.dev.hngState ≠ 2 → bitsOf g.toNat 35 32 = 3 → s.dev.hinge.beatsB = 2 →
      s.dev.hinge.beatIn ≠ some (hasBit g.toNat 36) → s.dev.hinge.handover = none →
      Answers (.mirror dt true (g :: rest)) s (fun e => e.get .HNG_STAT_PATH_B_UP = 1 ∧ e.hinge.lastB = (s.dev.elapse dt).run ∧ e.hinge.syncPeer = true
        ∧ e.hinge.beatIn = some (hasBit g.toNat 36) ∧ s.dev.OnlyAt e [(.HNG_STAT_PATH_B_UP, 0, 0)] ∧ s.dev.SameMem e))
    ∧ (∀ s dt (g : Gran) (rest : List Gran), s.dev.paired = true → s.dev.inService 46 = true → s.dev.inService 47 = true → s.dev.hngState = 2 →
      s.dev.get .HNG_STAT_ELIGIBLE = 1 → bitsOf g.toNat 35 32 = 4 →
      Answers (.mirror dt false (g :: rest)) s (fun e => e.get .HNG_STAT_STATE = 1 ∧ e.get .HNG_STAT_REASON = bitsOf g.toNat 47 40
        ∧ e.get .HNG_STAT_ELIGIBLE = 0 ∧ e.pins.fenceOut = true ∧ e.hinge.deciding = some ((s.dev.elapse dt).run) ∧ s.dev.SameMem e))
    ∧ (∀ s dt (g : Gran) (rest : List Gran), s.dev.paired = true → s.dev.inService 46 = true → s.dev.inService 47 = true → bitsOf g.toNat 35 32 = 2 → s.dev.hinge.beatsA = 2 → s.dev.hinge.handover = none →
      Answers (.heartbeat dt (g :: rest)) s (fun e => e.get .HNG_STAT_PATH_A_UP = 1 ∧ e.hinge.lastA = (s.dev.elapse dt).run ∧ e.hinge.peerState = 2
        ∧ e.hinge.heardAny = some ((s.dev.elapse dt).run) ∧ s.dev.OnlyAt e [(.HNG_STAT_PATH_A_UP, 0, 0)] ∧ s.dev.SameMem e))
    ∧ (∀ s dt (g : Gran) (rest : List Gran), s.dev.paired = true → s.dev.inService 46 = true → s.dev.inService 47 = true → s.dev.hngState = 1 → bitsOf g.toNat 35 32 = 1 → s.dev.hinge.deciding = none →
      s.dev.prefers = false →
      Answers (.heartbeat dt (g :: rest)) s (fun e => e.get .HNG_STAT_STATE = 4 ∧ e.get .HNG_STAT_REASON = 7 ∧ e.pins.own = false ∧ s.dev.SameMem e))
    ∧ (∀ s dt (pathB : Bool), s.dev.paired = true → s.dev.get (if pathB then .HNG_STAT_PATH_B_UP else .HNG_STAT_PATH_A_UP) = 1 →
      s.dev.get (if pathB then .HNG_STAT_PATH_A_UP else .HNG_STAT_PATH_B_UP) = 1 →
      (if pathB then s.dev.hinge.lastB + 3 * qUs else s.dev.hinge.lastA + 30 * qUs) < (s.dev.elapse dt).run → s.dev.logs →
      Answers (.hingePathLost dt pathB) s (fun e => e.get (if pathB then .HNG_STAT_PATH_B_UP else .HNG_STAT_PATH_A_UP) = 0
        ∧ e.get .HNG_STAT_ALARM = 1 ∧ e.Recorded 0x0b01 4 ∧ e.get .HNG_STAT_STATE = s.dev.get .HNG_STAT_STATE ∧ s.dev.SameMem e))
    ∧ (∀ s dt, s.dev.paired = true → s.dev.get .HNG_STAT_PATH_B_UP = 1 → s.dev.get .HNG_STAT_PATH_A_UP = 0 →
      s.dev.hinge.lastB + 3 * qUs < (s.dev.elapse dt).run → s.dev.hngState = 2 → s.dev.get .HNG_STAT_ELIGIBLE = 1 →
      Answers (.hingePathLost dt true) s (fun e => e.get .HNG_STAT_PATH_B_UP = 0 ∧ e.get .HNG_STAT_STATE = 1 ∧ e.pins.fenceOut = true
        ∧ e.hinge.deciding = some ((s.dev.elapse dt).run) ∧ s.dev.SameMem e))
    ∧ (∀ s dt (ownInLow : Bool) t0, s.dev.hinge.deciding = some t0 → (ownInLow = true ∨ t0 + 300 * qNs ≤ (s.dev.elapse dt).run) → s.dev.logs →
      Answers (.switchoverOwnRaise dt ownInLow) s (fun e => e.pins.own = true ∧ e.hinge.deciding = none ∧ (ownInLow = false → e.get .HNG_STAT_FENCE_FAIL = 1)
        ∧ e.get .HNG_CNT_GAP_CYC = min (ceilDiv ((s.dev.elapse dt).run - t0) (5 * qNs)) 255
        ∧ e.get .HNG_CNT_SWITCHOVERS = min (s.dev.get .HNG_CNT_SWITCHOVERS + 1) (2 ^ Fld.width .HNG_CNT_SWITCHOVERS - 1) ∧ e.Recorded 0x0b02 6
        ∧ (∀ p ∈ s.dev.relations, ∃ m ∈ e.fabOut, m.kind = 0x25 ∧ m.dst = p
            ∧ m.payload = [BitVec.ofNat 128 (s.dev.partner + s.dev.ownId * 2 ^ 16)]) ∧ s.dev.SameMem e))
    ∧ (∀ s dt (dev : Fin 1024) (g : Gran) (rest : List Gran), s.dev.inService 46 = true →
      Answers (.takeover dt dev (g :: rest)) s (fun e => (∀ k < 8, e.get .KRF_PEER_PEER_ID k =
          (if s.dev.get .KRF_PEER_ENABLE k = 1 ∧ s.dev.get .KRF_PEER_PEER_ID k = bitsOf g.toNat 9 0 then bitsOf g.toNat 25 16
            else s.dev.get .KRF_PEER_PEER_ID k))
        ∧ (∀ k < 8, e.get .GRN_PEER_PEER_ID k =
          (if s.dev.get .GRN_PEER_ENABLE k = 1 ∧ s.dev.get .GRN_PEER_PEER_ID k = bitsOf g.toNat 9 0 then bitsOf g.toNat 25 16
            else s.dev.get .GRN_PEER_PEER_ID k))
        ∧ e.kerf.halo = s.dev.kerf.halo.filter (fun h => h.dev != bitsOf g.toNat 9 0) ∧ s.dev.OnlyIn e [.KRF_PEER, .GRN_PEER] ∧ s.dev.SameMem e))
    ∧ (∀ s dt, s.dev.paired = true → s.dev.inService 47 = true → (s.dev.elapse dt).pathsLost = false → s.dev.hinge.reportAt + 100 * qMs ≤ (s.dev.elapse dt).run →
      Answers (.healthReport dt) s (fun e => e.hinge.reportAt = (s.dev.elapse dt).run
        ∧ e.get .HNG_HEALTH_REPORTS = (s.dev.get .HNG_HEALTH_REPORTS + 1) % 2 ^ 16
        ∧ e.get .HNG_HEALTH_HEALTH_OK = (!s.dev.flag .HNG_HEALTH_BIST_FAIL && !s.dev.flag .HNG_HEALTH_SCRUB_UNCORR && !s.dev.flag .HNG_STAT_TIME_ERR
          && !(s.dev.hngState == 2 && s.dev.get .THM_STAT_STATE == 3)).toNat
        ∧ e.get .HNG_STAT_ELIGIBLE = (e.flag .HNG_HEALTH_HEALTH_OK && s.dev.hngState == 2).toNat
        ∧ e.get .HNG_HEALTH_LINK_FAIL = s.dev.linkFail.toNat
        ∧ (∃ m ∈ e.fabOut, m.kind = 0x24 ∧ m.dst = s.dev.partner ∧ m.payload = [BitVec.ofNat 128 (e.word .HNG_HEALTH)]) ∧ s.dev.SameMem e))
    ∧ (∀ s dt (g : Gran) (rest : List Gran), s.dev.inService 46 = true →
      Answers (.health dt (g :: rest)) s (fun e => (∀ f ∈ Reg.fields .HNG_PEER_HEALTH, e.get f = f.of g.toNat)
        ∧ s.dev.OnlyIn e [.HNG_PEER_HEALTH] ∧ s.dev.SameMem e))
    ∧ (∀ s dt (n : Fin 49), s.dev.paired = true → s.dev.hngState = 2 → 34 ≤ n.val → s.dev.logs →
      Answers (.standbyBistDone dt n false) s (fun e => e.get .HNG_HEALTH_LAST_ISLAND = n ∧ e.get .HNG_HEALTH_SCRUB_UNCORR = 1
        ∧ e.get .HNG_HEALTH_HEALTH_OK = 0 ∧ e.get .HNG_STAT_ELIGIBLE = 0 ∧ e.Recorded 0x0b01 4 ∧ s.dev.SameMem e))
    ∧ (∀ s dt (n : Fin 49), s.dev.paired = true → s.dev.hngState = 2 → n.val < 34 → s.dev.hinge.bist = some n.val →
      s.dev.cal.running.find? (fun r => r.unit == n.val) = none →
      Answers (.standbyBistDone dt n true) s (fun e => e.get .HNG_HEALTH_LAST_ISLAND = n ∧ (e.island n).bistOk = true ∧ e.hinge.bist = none
        ∧ e.hinge.bistNext = (if n.val = 33 then 0 else n.val + 1) ∧ s.dev.SameMem e))
    ∧ (∀ s dt (g : Gran) (rest : List Gran), s.dev.paired = true → s.dev.inService 46 = true → s.dev.inService 47 = true → s.dev.hngState = 3 → bitsOf g.toNat 7 0 = 0 →
      Answers (.snapshot dt (g :: rest)) s (fun e => (∀ a < 8, e.get .ENC_COUNT_VALUE a = bitsOf (rest.getD (32 + a) 0#128).toNat 31 0
          ∧ (e.enc a).cRef = sInt 32 (bitsOf (rest.getD (32 + a) 0#128).toNat 63 32)
          ∧ (e.enc a).pRef = sInt 32 (bitsOf (rest.getD (32 + a) 0#128).toNat 95 64)
          ∧ e.get .ENC_STAT_REF_VALID a = bitsOf (rest.getD (32 + a) 0#128).toNat 97 97
          ∧ e.get .AX_STAT_HOMED a = bitsOf (rest.getD (32 + a) 0#128).toNat 96 96)
        ∧ (∀ ch < 32, ∀ n ∈ s.dev.engineOf ch, e.get .MPL_INT_I n 1 = bitsOf (rest.getD ch 0#128).toNat 15 0
          ∧ (e.eng n).loop.carry = bitsOf (rest.getD (40 + ch / 2) 0#128).toNat (64 * (ch % 2) + 63) (64 * (ch % 2))) ∧ s.dev.SameMem e))
    ∧ (∀ s dt (g : Gran) (rest : List Gran) part, s.dev.paired = true → s.dev.inService 46 = true → s.dev.inService 47 = true → s.dev.hngState = 3 → part = bitsOf g.toNat 7 0 → 1 ≤ part → part ≤ 16 →
      Answers (.snapshot dt (g :: rest)) s (fun e => (e.tile (part - 1)).carry = bitsOf (rest.getD 0 0#128).toNat 63 0
        ∧ (∀ k < 64, ∀ f ∈ Reg.fields .VDR_STOP, e.get f (part - 1) k = f.of (granWord (rest.drop 1) k))
        ∧ e.hinge.snapped = (decide (part = 16) || s.dev.hinge.snapped) ∧ s.dev.SameMem e))
    ∧ (∀ s dt (g : Gran) (gs : List Gran) n, s.dev.paired = true → s.dev.inService 46 = true → s.dev.inService 47 = true → s.dev.hngState = 3 → s.dev.layerState = 0 → n = min (bitsOf g.toNat 47 32) 364 →
      Answers (.grainCopy dt (g :: gs)) s (fun e => (∀ k < n, e.cell (bitsOf g.toNat 31 0 + k) = granWord gs k)
        ∧ (hasBit g.toNat 49 = true → hasBit g.toNat 48 = false → s.dev.hinge.snapped = true → 2 ^ 21 ≤ s.dev.hinge.copied + n → e.get .HNG_STAT_STATE = 2)
        ∧ (hasBit g.toNat 49 = false → e.get .HNG_STAT_STATE = 3) ∧ s.dev.OnlyAt e [(.HNG_STAT_STATE, 0, 0)] ∧ s.dev.SameMem e))
    ∧ (∀ s dt job j, s.dev.Takes job 0x7c j → s.dev.paired = true → s.dev.hngState = 1 → s.dev.hinge.peerState = 2 →
      s.dev.get .HNG_PEER_HEALTH_HEALTH_OK = 1 →
      Answers (.hngHandover dt job) s (fun e => e.get .HNG_STAT_STATE = 4 ∧ e.get .HNG_STAT_REASON = 1 ∧ e.pins.own = false
        ∧ e.hinge.handover = some job ∧ s.dev.SameMem e))
    ∧ (∀ s dt job j, s.dev.Takes job 0x7c j → s.dev.hinge.peerState ≠ 2 →
      Answers (.hngHandover dt job) s (fun e => e.Done j 0x02f0 ∧ e.hinge = s.dev.hinge ∧ e.pins = s.dev.pins ∧ s.dev.SameMem e))
    ∧ (∀ s dt job j, s.dev.Takes job 0x7d j →
      Answers (.hngRelease dt job) s (fun e => (s.dev.paired = true → s.dev.hngState = 1 → e.pins.fenceOut = false ∧ e.Done j 0)
        ∧ (s.dev.paired = false ∨ s.dev.hngState ≠ 1 → e.pins = s.dev.pins ∧ e.Done j 0x02f1) ∧ s.dev.SameMem e))
    ∧ (∀ s dt, s.dev.paired = true → s.dev.inService 47 = true → (s.dev.elapse dt).pathsLost = true → s.dev.hngState = 2 →
      s.dev.flag .HNG_HEALTH_BIST_FAIL = false → s.dev.flag .HNG_HEALTH_SCRUB_UNCORR = false → s.dev.flag .HNG_STAT_TIME_ERR = false →
      s.dev.get .THM_STAT_STATE ≠ 3 → s.dev.hinge.reportAt + 100 * qMs ≤ (s.dev.elapse dt).run →
      Answers (.healthReport dt) s (fun e => e.get .HNG_STAT_STATE = 1 ∧ e.get .HNG_STAT_ELIGIBLE = 0 ∧ e.pins.fenceOut = true
        ∧ e.hinge.deciding = some (s.dev.elapse dt).run ∧ s.dev.SameMem e))

/-! ### The event recorder and DRAM (R384 to R393, R395 to R405) -/

/-- The recorder. The first waiting record goes to the slot R386 gives it, or is dropped; a failed read-back marks the block bad and keeps
the record; OP_SEC goes to its two words in turn; the scan ends with POWER_ON written, or degraded with every block bad; a peer's
accepted record is stored under this device's SOURCE; records are read to host memory and cleared by severity (R384 to R392). -/
def Obligations.RecorderLog : Prop :=
  (∀ s dt (r : Rec) (q : List Rec) k, s.dev.inService 48 = true → s.dev.get .REC_STAT_SCANNING = 0 → s.dev.get .REC_STAT_LOG_DEGRADED = 0 →
      s.dev.recorder.queue = r :: q → s.dev.placeFor r.sev = some k →
      Answers (.logRecordWrite dt true) s (fun e => e.mram.log = Tab.set 0 s.dev.mram.log k r.encode ∧ e.recorder.queue = q
        ∧ e.recorder.nextSlot = (k + 1) % 49152 ∧ e.mram.badA = s.dev.mram.badA ∧ e.mram.badB = s.dev.mram.badB ∧ s.dev.SameMem e))
    ∧ (∀ s dt (ok : Bool) (r : Rec) (q : List Rec), s.dev.inService 48 = true → s.dev.get .REC_STAT_SCANNING = 0 → s.dev.get .REC_STAT_LOG_DEGRADED = 0 →
      s.dev.recorder.queue = r :: q → s.dev.placeFor r.sev = none →
      Answers (.logRecordWrite dt ok) s (fun e => e.mram = s.dev.mram ∧ e.recorder.queue = q ∧ s.dev.SameMem e))
    ∧ (∀ s dt (r : Rec) (q : List Rec) k, s.dev.inService 48 = true → s.dev.get .REC_STAT_SCANNING = 0 → s.dev.get .REC_STAT_LOG_DEGRADED = 0 →
      s.dev.recorder.queue = r :: q → s.dev.placeFor r.sev = some k → q.length < 255 → s.dev.mram.badA = 0 → s.dev.mram.badB = 0 → k < 49152 →
      Answers (.logRecordWrite dt false) s (fun e => hasBit e.mram.badA (k / 1024) = true ∧ hasBit e.mram.badB (k / 1024) = true
        ∧ e.recorder.queue.head? = some r ∧ e.Recorded 0x0002 4 ∧ s.dev.SameMem e))
    ∧ (∀ s dt, Answers (.opsecSave dt) s (fun e =>
        e.mram = (if s.dev.recorder.opAlt then { s.dev.mram with opSecB := (s.dev.elapse dt).opTime / qSec } else { s.dev.mram with opSecA := (s.dev.elapse dt).opTime / qSec })
          ∧ e.recorder.opAlt = !s.dev.recorder.opAlt ∧ s.dev.OnlyAt e [] ∧ s.dev.SameMem e))
    ∧ (∀ s dt (r : Rec) (q : List Rec) k, s.dev.get .REC_STAT_SCANNING = 1 → s.dev.mram.bad 7 = false → s.dev.recorder.queue = r :: q →
      s.dev.placeFor r.sev = some k →
      Answers (.logScanDone dt) s (fun e => e.get .REC_STAT_SCANNING = 0 ∧ e.mram.log = Tab.set 0 s.dev.mram.log k r.encode
        ∧ e.recorder.queue = q ∧ s.dev.SameMem e))
    ∧ (∀ s dt, s.dev.get .REC_STAT_SCANNING = 1 → s.dev.get .REC_STAT_LOG_DEGRADED = 0 → (∀ b < 48, s.dev.mram.bad b = true) → 
      Answers (.logScanDone dt) s (fun e => e.get .REC_STAT_SCANNING = 0 ∧ e.get .REC_STAT_LOG_DEGRADED = 1 ∧ s.dev.SameMem e))
    ∧ (∀ s dt (dev : Fin 1024) (g h : Gran) k, s.dev.inService 46 = true → s.dev.peerFrozen dev = false → s.dev.grantOk dev 4 none = true → s.dev.get .REC_CFG_PEER_ACCEPT = 1 →
      s.dev.inService 48 = true → s.dev.get .REC_STAT_LOG_DEGRADED = 0 → s.dev.get .REC_STAT_SCANNING = 0 →
      s.dev.placeFor (recSev (g.toNat + h.toNat * 2 ^ 128)) = some k →
      Answers (.peerLog dt dev [g, h]) s (fun e => e.mram.log = Tab.set 0 s.dev.mram.log k (recOfPeer dev (g.toNat + h.toNat * 2 ^ 128)).encode
        ∧ e.get .REC_PEER_CNT_STORED = min (s.dev.get .REC_PEER_CNT_STORED + 1) (2 ^ Fld.width .REC_PEER_CNT_STORED - 1) ∧ s.dev.SameMem e))
    ∧ (∀ s dt (dev : Fin 1024) payload, s.dev.inService 46 = true → s.dev.peerFrozen dev = false → s.dev.grantOk dev 4 none = true → s.dev.get .REC_CFG_PEER_ACCEPT = 0 →
      Answers (.peerLog dt dev payload) s (fun e => e.mram = s.dev.mram
        ∧ e.get .REC_PEER_CNT_DISCARDED = min (s.dev.get .REC_PEER_CNT_DISCARDED + 1) (2 ^ Fld.width .REC_PEER_CNT_DISCARDED - 1)
        ∧ s.dev.OnlyAt e [(.REC_PEER_CNT_DISCARDED, 0, 0)] ∧ s.dev.SameMem e))
    ∧ (∀ s dt job j (bs : List Byte), s.dev.Takes job 0x7e j → bs = s.dev.recImage (j.bits 224 224 == 1) (j.bits 207 192) (j.bits 223 208) →
      s.dev.rangeCause j.fn j.addr bs.length false true = none → s.dev.mayWrite j.fn = true → (s.dev.fn j.fn).held = [] →
      Answers (.recRead dt job) s (fun e => e.host.Wrote s.dev.host j.addr bs ∧ e.Done j 0 ∧ e.mram = s.dev.mram ∧ e.dram = s.dev.dram
        ∧ e.flash = s.dev.flash))
    ∧ (∀ s dt job j, s.dev.Takes job 0x7f j → s.dev.logs →
      Answers (.recClear dt job) s (fun e => e.mram.log = s.dev.mram.log.filter (fun x => !(recValid x.2 && decide (recSev x.2 ≤ j.bits 130 128)))
        ∧ e.Begun j (s.dev.now + dt) ∧ e.Recorded 0x0004 2 ∧ s.dev.SameMem e))

/-- DRAM. A request enters its channel's queue, or a read is served from a queued write of its burst; the scheduler's choice is read or
written and checked; refresh codes, oscillator drift and temperature alarms are noted; a due refresh closes an idle bank's row, is
postponed for a busy one, and at the limit refreshes the whole subchannel; scrub goes on burst by burst; retraining ends
well or in RT_FAIL, channel 1 after channel 0, and a recovered channel returns (R397 to R405, R439). -/
def Obligations.DramChannels : Prop :=
  (∀ s dt (c : Fin 2) (write : Bool) (cls : Fin 5) burst (bs : List Byte), s.dev.chanServes c = true →
      (s.dev.chan c).writeQ.find? (fun w => w.burst == burst) = none → (s.dev.chan c).writeQ.length < 64 → (s.dev.chan c).readQ.length < 64 →
      Answers (.dramRequest dt c write cls burst bs) s (fun e =>
        (if write then (e.chan c).writeQ = (s.dev.chan c).writeQ ++ [{ write := true, cls := cls, burst := burst, data := bs.take 64, at' := (s.dev.elapse dt).run }]
            ∧ (e.chan c).readQ = (s.dev.chan c).readQ
          else (e.chan c).readQ = (s.dev.chan c).readQ ++ [{ write := false, cls := cls, burst := burst, data := bs.take 64, at' := (s.dev.elapse dt).run }]
            ∧ (e.chan c).writeQ = (s.dev.chan c).writeQ)
          ∧ s.dev.OnlyAt e [] ∧ s.dev.SameMem e))
    ∧ (∀ s dt (c : Fin 2) (cls : Fin 5) burst (bs : List Byte) (w : DramReq), s.dev.chanServes c = true →
      (s.dev.chan c).writeQ.find? (fun w => w.burst == burst) = some w →
      Answers (.dramRequest dt c false cls burst bs) s (fun e => (e.chan c).lastRead = w.data ∧ (e.chan c).poisoned = false
        ∧ (e.chan c).readQ = (s.dev.chan c).readQ ∧ (e.chan c).writeQ = (s.dev.chan c).writeQ ∧ s.dev.OnlyAt e [] ∧ s.dev.SameMem e))
    ∧ (∀ s dt (c : Fin 2) (ecc : Fin 3) (r : DramReq), s.dev.chanServes c = true → (s.dev.elapse dt).servesWrite c = false →
      (s.dev.elapse dt).firstReq c (s.dev.chan c).readQ = some r → r.write = false → s.dev.logs →
      Answers (.dramRequestServed dt c ecc) s (fun e => (e.chan c).lastRead = s.dev.dram.readList (s.dev.dramAddr c (r.burst * 64)) 64
        ∧ (e.chan c).readQ = dropReq r (s.dev.chan c).readQ ∧ (e.chan c).poisoned = decide (ecc.val = 2)
        ∧ (ecc.val = 1 → e.get .DRM_ECC_CORR c = min (s.dev.get .DRM_ECC_CORR c + 1) (2 ^ Fld.width .DRM_ECC_CORR - 1))
        ∧ (ecc.val = 2 → e.get .DRM_ECC_UNCORR c = min (s.dev.get .DRM_ECC_UNCORR c + 1) (2 ^ Fld.width .DRM_ECC_UNCORR - 1)
            ∧ e.get .DRM_ECC_ADDR_BURST c = r.burst % 2 ^ Fld.width .DRM_ECC_ADDR_BURST ∧ e.Recorded 0x0d01 4) ∧ s.dev.SameMem e))
    ∧ (∀ s dt (c : Fin 2) (ecc : Fin 3) (r : DramReq), s.dev.chanServes c = true → (s.dev.elapse dt).servesWrite c = true →
      (s.dev.elapse dt).firstReq c (s.dev.chan c).writeQ = some r → r.write = true →
      Answers (.dramRequestServed dt c ecc) s (fun e => e.dram.Wrote s.dev.dram (s.dev.dramAddr c (r.burst * 64)) r.data
        ∧ (e.chan c).writeQ = dropReq r (s.dev.chan c).writeQ ∧ (e.chan c).readQ = (s.dev.chan c).readQ ∧ s.dev.OnlyAt e []
        ∧ e.host = s.dev.host ∧ e.flash = s.dev.flash))
    ∧ (∀ s dt (c sub : Fin 2) code (out : Bool) drift, s.dev.logs →
      Answers (.refreshRateRead dt c sub code out drift) s (fun e => Tab.get 0 (e.chan c).rateCode sub = code
        ∧ (s.dev.get .DRM_MAINT_DRIFT_MAX < drift → e.get .DRM_STAT_DRIFT c = 1 ∧ (e.chan c).drifted = true)
        ∧ (out = true → e.get .DRM_STAT_DEV_HOT c = 1 ∧ e.Recorded 0x0c20 4) ∧ s.dev.SameMem e))
    ∧ (∀ s dt (c sub : Fin 2) (bank : Fin 32) p, p = Tab.get 0 (s.dev.chan c).postponed (bankIx sub bank) → s.dev.bankBusy c sub bank = false →
      Answers (.dramRefresh dt c sub bank) s (fun e => Tab.get 0 (e.chan c).openRow (bankIx sub bank) = 0
        ∧ Tab.get 0 (e.chan c).postponed (bankIx sub bank) = p - 1 ∧ s.dev.OnlyAt e [] ∧ s.dev.SameMem e))
    ∧ (∀ s dt (c sub : Fin 2) (bank : Fin 32) p, p = Tab.get 0 (s.dev.chan c).postponed (bankIx sub bank) → s.dev.bankBusy c sub bank = true →
      Answers (.dramRefresh dt c sub bank) s (fun e =>
        (p + 1 < Config.refreshLimit (Tab.get 0 (s.dev.chan c).rateCode sub) → Tab.get 0 (e.chan c).postponed (bankIx sub bank) = p + 1 ∧ s.dev.OnlyAt e [])
        ∧ (Config.refreshLimit (Tab.get 0 (s.dev.chan c).rateCode sub) ≤ p + 1 → (∀ b < 32, Tab.get 0 (e.chan c).openRow (bankIx sub b) = 0)
            ∧ e.get .DRM_STAT_FALLBACK c = min (s.dev.get .DRM_STAT_FALLBACK c + 1) (2 ^ Fld.width .DRM_STAT_FALLBACK - 1)) ∧ s.dev.SameMem e))
    ∧ (∀ s dt (c : Fin 2) (ecc : Fin 3), s.dev.chanServes c = true → (s.dev.chan c).readQ = [] → (s.dev.chan c).draining = false →
      Answers (.patrolScrub dt c ecc) s (fun e =>
        (e.chan c).scrub = (if (s.dev.chan c).scrub + 1 < s.dev.chanBytes c / 64 then (s.dev.chan c).scrub + 1 else 0)
          ∧ (ecc.val = 1 → e.get .DRM_ECC_CORR c = min (s.dev.get .DRM_ECC_CORR c + 1) (2 ^ Fld.width .DRM_ECC_CORR - 1))
          ∧ (ecc.val = 0 → s.dev.OnlyAt e []) ∧ s.dev.SameMem e))
    ∧ (∀ s dt (ok : Bool), s.dev.layer.retraining = 3 → s.dev.get .DRM_STAT_TRAINING 0 = 1 → s.dev.logs →
      Answers (.dramRetrainDone dt 0 ok) s (fun e => e.get .DRM_STAT_TRAINING 0 = 0 ∧ e.get .DRM_STAT_IN_SERVICE 0 = 1 ∧ e.get .DRM_STAT_TRAINING 1 = 1
        ∧ e.get .DRM_STAT_IN_SERVICE 1 = 0 ∧ e.layer.retraining = 2
        ∧ (if ok then (e.chan 0).failures = 0 ∧ (e.chan 0).layers = 0 ∧ (e.chan 0).drifted = false ∧ (e.chan 0).openRow = []
            else (e.chan 0).failures = (s.dev.chan 0).failures + 1 ∧ e.get .DRM_STAT_RT_FAIL 0 = 1 ∧ e.Recorded 0x0c22 4) ∧ s.dev.SameMem e))
    ∧ (∀ s dt (c : Fin 2), s.dev.layer.retraining = 0 → (s.dev.island (36 + c)).testing = true → s.dev.get .MGT_UNIT_OUT_HOST (36 + c) = 0 → s.dev.logs →
      Answers (.dramRetrainDone dt c true) s (fun e => e.get .MGT_UNIT_IN_SERVICE (36 + c) = 1 ∧ e.get .SYS_ISL_STAT_IN_SERVICE (36 + c) = 1
        ∧ e.get .DRM_STAT_IN_SERVICE c = 1 ∧ e.get .DRM_STAT_TRAINING c = 0 ∧ (e.island (36 + c)).testing = false ∧ (e.island (36 + c)).faulted = false
        ∧ e.Recorded 0x0d03 2 ∧ s.dev.SameMem e))
    ∧ (∀ s dt (c : Fin 2), s.dev.layer.retraining = 0 → (s.dev.island (36 + c)).testing = true → s.dev.logs →
      Answers (.dramRetrainDone dt c false) s (fun e => e.get .MGT_UNIT_TEST_FAIL (36 + c) = 1 ∧ e.get .DRM_STAT_RT_FAIL c = 1
        ∧ (e.island (36 + c)).faulted = true ∧ (e.chan c).failures = (s.dev.chan c).failures + 1 ∧ e.Recorded 0x0c22 4 ∧ s.dev.SameMem e))

/-! ### Temperature and calibration (R407 to R427) -/

/-- Temperature. A sample brings each sensor's trimmed reading, breaks a sensor outside −55 to +150 °C, and stops the device at 115 °C;
each governor moves its level by its island's temperature; a slow-down not cured in its grace is enforced; THM_RELEASE ends a stop
below 95 °C (R408, R409, R411 to R415). -/
def Obligations.ThermalControl : Prop :=
  (∀ s dt (raw : List Int) (d : Dev), raw.length = 64 → d = (s.dev.elapse dt).bringFresh (fun c => c.fld == .CAL_SENSOR_OFFSET || c.fld == .CAL_SENSOR_GAIN) →
      Answers (.thermalSample dt raw) s (fun e => (∀ k < 64, e.get .THM_TEMP_TEMP k = satS 16 (d.trimmed k (raw.getD k 0)) % 2 ^ 16 ∧ (e.sensor k).raw = raw.getD k 0
          ∧ (e.sensor k).sampled = true)
        ∧ (∀ k < 64, d.trimmed k (raw.getD k 0) < -880 ∨ 2400 < d.trimmed k (raw.getD k 0) → e.get .THM_TEMP_BROKEN k = 1 ∧ e.get .THM_STAT_BROKEN_ANY = 1)
        ∧ s.dev.SameMem e))
    ∧ (∀ s dt (raw : List Int) (d : Dev) (t : Int) (k : Fin 64), raw.length = 64 →
      d = (s.dev.elapse dt).bringFresh (fun c => c.fld == .CAL_SENSOR_OFFSET || c.fld == .CAL_SENSOR_GAIN) → t = d.trimmed k (raw.getD k 0) →
      1840 ≤ t → t ≤ 2400 → s.dev.get .THM_TEMP_BROKEN k = 0 → (t - (s.dev.sensor k).reading).natAbs ≤ 80 → (s.dev.sensor k).same < 255 →
      s.dev.get .THM_STAT_STATE ≠ 3 →
      Answers (.thermalSample dt raw) s (fun e => e.get .THM_STAT_STATE = 3 ∧ e.get .THM_STAT_STOP_SEEN = 1
        ∧ e.get .THM_CNT_STOPS = min (s.dev.get .THM_CNT_STOPS + 1) (2 ^ Fld.width .THM_CNT_STOPS - 1) ∧ s.dev.SameMem e))
    ∧ (∀ s dt, (∀ i ∈ governed, s.dev.get .THM_GOV_LEVEL i ≤ 16) → s.dev.get .THM_GOV_FLOOR 43 ≤ 256 →
      Answers (.governorStep dt) s (fun e => (∀ i ∈ governed, e.get .THM_GOV_LEVEL i =
          (if 1600 < s.dev.islandTemp i then s.dev.get .THM_GOV_LEVEL i - 1
            else if s.dev.islandTemp i < 1552 then min (s.dev.get .THM_GOV_LEVEL i + 1) 16 else s.dev.get .THM_GOV_LEVEL i))
        ∧ (∀ a < 8, e.get .AX_STAT_GOV a = e.ceilingOf 43) ∧ s.dev.SameMem e))
    ∧ (∀ s dt, s.dev.get .THM_STAT_STATE = 1 → 1648 ≤ s.dev.gets .THM_STAT_T_MAX →
      s.dev.therm.slowSince + s.dev.get .THM_CFG_GRACE_DS * 100 * qMs ≤ (s.dev.elapse dt).run → s.dev.logs →
      Answers (.thermalGraceExpire dt) s (fun e => e.get .THM_STAT_STATE = 2 ∧ e.Recorded 0x0c02 4
        ∧ e.get .THM_CNT_ENFORCES = min (s.dev.get .THM_CNT_ENFORCES + 1) (2 ^ Fld.width .THM_CNT_ENFORCES - 1) ∧ s.dev.SameMem e))
    ∧ (∀ s dt job j, s.dev.Takes job 0x4c j → 1520 ≤ s.dev.gets .THM_STAT_T_MAX →
      Answers (.thmRelease dt job) s (fun e => e.Done j 0x02fd ∧ e.get .THM_STAT_STATE = s.dev.get .THM_STAT_STATE ∧ s.dev.SameMem e))
    ∧ (∀ s dt job j, s.dev.Takes job 0x4c j → s.dev.gets .THM_STAT_T_MAX < 1520 → s.dev.get .THM_STAT_STATE = 3 → s.dev.logs →
      Answers (.thmRelease dt job) s (fun e => e.Done j 0 ∧ e.get .THM_STAT_STATE = 0 ∧ e.Recorded 0x0c05 2 ∧ s.dev.SameMem e))

/-- Calibration. A TAPS, BIST or SLICE request waits for cover, or runs uncovered for a unit that serves no channel; LAG runs only on a
bound engine with no layer open; the CAL_ block is saved and loaded with its CRC and serial number checked; the cover copies the engine,
takes the channel over at rest, and gives it back once the calibration has ended; the result is recorded, a failure with 0x05F8
(R418, R421 to R426). -/
def Obligations.CalibrationCover : Prop :=
  (∀ s dt job j, s.dev.Takes job 0x4d j → j.calReq.kind = .lag → (s.dev.layerOpen = true ∨ s.dev.get .ENG_STAT_BOUND_CH j.calReq.unit = 63) →
      Answers (.calRun dt job) s (fun e => e.Done j 0x02f8 ∧ e.cal = s.dev.cal ∧ s.dev.SameMem e))
    ∧ (∀ s dt job j, s.dev.Takes job 0x4d j → j.calReq.kind = .lag → s.dev.layerOpen = false → s.dev.get .ENG_STAT_BOUND_CH j.calReq.unit ≠ 63 →
      Answers (.calRun dt job) s (fun e => e.Begun j (s.dev.now + dt) ∧ e.cal.running = s.dev.cal.running ++ [j.calReq] ∧ s.dev.OnlyAt e [] ∧ s.dev.SameMem e))
    ∧ (∀ s dt job j, s.dev.Takes job 0x4d j → j.calReq.kind ≠ .lag → s.dev.cal.waiting = [] → s.dev.serves j.calReq.unit j.calReq.kind = false →
      Answers (.calRun dt job) s (fun e => e.Begun j (s.dev.now + dt) ∧ e.get .MGT_UNIT_IN_SERVICE j.calReq.unit = 0
        ∧ e.cal.running = s.dev.cal.running ++ [j.calReq] ∧ e.cal.waiting = [] ∧ s.dev.SameMem e))
    ∧ (∀ s dt job j k, s.dev.Takes job 0x4d j → j.calReq.kind ≠ .lag → s.dev.cal.waiting = [] → s.dev.serves j.calReq.unit j.calReq.kind = true →
      s.dev.freeCover j.calReq.unit = some k →
      Answers (.calRun dt job) s (fun e => e.Begun j (s.dev.now + dt) ∧ (e.cover k).req = some j.calReq
        ∧ (e.cover k).phase = (if k < 2 ∧ s.dev.get .CAL_CFG_AUTO_COPY = 1 then .copying else .ready) ∧ e.cal.waiting = []
        ∧ s.dev.OnlyAt e [(.CAL_STAT_QUEUED, 0, 0)] ∧ s.dev.SameMem e))
    ∧ (∀ s dt job j, s.dev.Takes job 0x4e j → s.dev.rangeCause j.fn j.addr (s.dev.elapse dt).calImage.length false true = none →
      s.dev.mayWrite j.fn = true → (s.dev.fn j.fn).held = [] →
      Answers (.calSave dt job) s (fun e => e.host.Wrote s.dev.host j.addr (s.dev.elapse dt).calImage ∧ e.Done j 0 ∧ e.dram = s.dev.dram
        ∧ e.flash = s.dev.flash))
    ∧ (∀ s dt job j (bs : List Byte), s.dev.Takes job 0x4f j → bs = (granBytes (j.data.getD [])).take 8192 → crc32c (bs.take 8188) ≠ imageWord bs 2047 →
      Answers (.calLoad dt job) s (fun e => e.Done j 0x01f9 ∧ e.cal = s.dev.cal ∧ s.dev.SameMem e))
    ∧ (∀ s dt job j (bs : List Byte), s.dev.Takes job 0x4f j → bs = (granBytes (j.data.getD [])).take 8192 → crc32c (bs.take 8188) = imageWord bs 2047 →
      imageWord bs 2 = s.dev.get .CAL_SERIAL_LO_SERIAL → imageWord bs 3 = s.dev.get .CAL_SERIAL_HI_SERIAL →
      Answers (.calLoad dt job) s (fun e => e.Done j 0 ∧ (∀ n < 34, s.dev.get .MGT_UNIT_IN_SERVICE n = 0 →
          e.get .CAL_GATE_LAT_LAT_PS n = Fld.of .CAL_GATE_LAT_LAT_PS (imageWord bs ((Reg.addr .CAL_GATE_LAT n 0 - 0x160000) / 4)))
        ∧ (∀ n < 34, s.dev.get .MGT_UNIT_IN_SERVICE n = 1 → e.get .CAL_GATE_LAT_LAT_PS n = s.dev.get .CAL_GATE_LAT_LAT_PS n
          ∧ ⟨.CAL_GATE_LAT_LAT_PS, n, 0, Fld.of .CAL_GATE_LAT_LAT_PS (imageWord bs ((Reg.addr .CAL_GATE_LAT n 0 - 0x160000) / 4))⟩ ∈ e.cal.fresh)
        ∧ s.dev.SameMem e))
    ∧ (∀ s dt (k : Fin 2) (r : CalReq), (s.dev.cover k).phase = .copying → (s.dev.cover k).req = some r →
      Answers (.coverCopyDone dt k true) s (fun e => (e.cover k).phase = .ready ∧ (e.cover k).req = some r ∧ (e.cover k).ch = (s.dev.cover k).ch
        ∧ (e.eng (32 + k)).corr.active = (s.dev.eng r.unit).corr.active ∧ (e.eng (32 + k)).corr.shadow = (s.dev.eng r.unit).corr.shadow ∧ s.dev.SameMem e))
    ∧ (∀ s dt (k : Fin 2) (r : CalReq), (s.dev.cover k).phase = .copying → (s.dev.cover k).req = some r →
      Answers (.coverCopyDone dt k false) s (fun e => (e.cover k).phase = .free ∧ (e.cover k).req = none ∧ r ∈ e.cal.waiting
        ∧ s.dev.OnlyAt e [(.CAL_STAT_QUEUED, 0, 0)] ∧ s.dev.SameMem e))
    ∧ (∀ s dt (r : CalReq), (s.dev.cover 0).phase = .ready → (s.dev.cover 0).req = some r → (s.dev.elapse dt).channelRests (s.dev.cover 0).ch = true →
      r.kind ≠ .fault → r.unit < 32 → s.dev.get .ENG_STAT_BOUND_CH r.unit = (s.dev.cover 0).ch → (s.dev.cover 0).ch < 32 →
      Answers (.coverBegin dt 0) s (fun e => e.get .ENG_STAT_BOUND_CH 32 = (s.dev.cover 0).ch ∧ e.get .ENG_STAT_BOUND_CH r.unit = 63
        ∧ e.get .CAL_STAT_COVER32 = (s.dev.cover 0).ch ∧ e.get .MGT_UNIT_COVER r.unit = 32 ∧ e.get .MGT_UNIT_IN_SERVICE r.unit = 0
        ∧ (e.cover 0).phase = .active ∧ r ∈ e.cal.running ∧ (e.eng 32).fifo = (s.dev.eng r.unit).fifo ∧ s.dev.SameMem e))
    ∧ (∀ s dt (u : Fin 83) (r : CalReq), s.dev.cal.waiting = [] → s.dev.cal.running = [r] → r.unit = u → r.kind = .bist → s.dev.coverOf u = none → s.dev.logs →
      Answers (.calibrationDone dt u true []) s (fun e => e.get .MGT_UNIT_IN_SERVICE u = 1 ∧ e.cal.running = [] ∧ e.Recorded 0x0c40 1 ∧ s.dev.SameMem e))
    ∧ (∀ s dt (u : Fin 83) (ms : List Int) (r : CalReq) id j, s.dev.cal.waiting = [] → s.dev.cal.running = [r] → s.dev.cal.ending = [] → r.unit = u → r.kind = .lag →
      r.job = some id → s.dev.job id = some j → j.code = none → j.replay = false → j.orphan = false → j.noCqeOk = false → s.dev.replayKept j = false → s.dev.logs →
      Answers (.calibrationDone dt u true ms) s (fun e => e.get .ENG_LAG_X_LAG u = (clampI 0 50000 (roundHalfUp (ms.getD 0 0) q10ns)).toNat
        ∧ e.get .ENG_LAG_Y_LAG u = (clampI 0 50000 (roundHalfUp (ms.getD 1 0) q10ns)).toNat
        ∧ e.get .ENG_LAG_Z_LAG u = (clampI 0 50000 (roundHalfUp (ms.getD 2 0) q10ns)).toNat ∧ e.cal.running = [] ∧ e.Done j 0 ∧ e.Recorded 0x0c40 1 ∧ s.dev.SameMem e))
    ∧ (∀ s dt (u : Fin 83) (ms : List Int) (r : CalReq) id j, s.dev.cal.waiting = [] → s.dev.cal.running = [r] → s.dev.cal.ending = [] → r.unit = u → r.kind = .lag →
      r.job = some id → s.dev.job id = some j → j.code = none → j.replay = false → j.orphan = false → j.noCqeOk = false → s.dev.replayKept j = false → s.dev.logs →
      Answers (.calibrationDone dt u false ms) s (fun e => e.get .ENG_LAG_X_LAG u = s.dev.get .ENG_LAG_X_LAG u ∧ e.Done j 0x05f8 ∧ e.Recorded 0x0c41 4 ∧ s.dev.SameMem e))
    ∧ (∀ s dt (r : CalReq), (s.dev.cover 0).phase = .active → (s.dev.cover 0).req = some r → r.kind ≠ .fault → r.unit < 32 → s.dev.cal.waiting = [] →
      (∃ x ∈ s.dev.cal.ending, x.unit = r.unit) → (s.dev.elapse dt).channelRests (s.dev.cover 0).ch = true → s.dev.get .ENG_STAT_BOUND_CH 32 < 32 →
      Answers (.coverEnd dt 0) s (fun e => e.get .MGT_UNIT_IN_SERVICE r.unit = 1 ∧ e.get .ENG_STAT_BOUND_CH r.unit = s.dev.get .ENG_STAT_BOUND_CH 32
        ∧ e.get .ENG_STAT_BOUND_CH 32 = 63 ∧ e.get .CAL_STAT_COVER32 = 63 ∧ e.cover 0 = {} ∧ (e.eng r.unit).fifo = (s.dev.eng 32).fifo ∧ s.dev.SameMem e))

/-! ### Resets, the host link, firmware and the management port (R428 to R437, R444 to R446) -/

/-- Resets and firmware. Power-on, pin and port resets bring every register to its reset value and keep flash and MRAM, power-on counting
in PCYC; PERST takes HOST out and freezes nothing; a function-level reset freezes, and ends once safe; release of reset boots from the
slot R434 picks, or enters recovery; updates and selects of slots write flash and MRAM as R435 and R436 say; the port's commands
act while MGMT_EN is high (R428 to R437, R444 to R446). -/
def Obligations.ResetsAndFirmware : Prop :=
  (∀ s dt, Answers (.powerOnReset dt) s (fun e => e.atReset ∧ e.now = 0 ∧ e.run = 0 ∧ e.dram = [] ∧ e.jobs = [] ∧ e.mgmt.inReset = true ∧ e.mgmt.resetCause = 0
      ∧ e.mram = { s.dev.mram with pcyc := min (s.dev.mram.pcyc + 1) (2 ^ 24 - 1) } ∧ e.flash = s.dev.flash ∧ e.host = s.dev.host
      ∧ e.recorder.opBase = (max s.dev.mram.opSecA s.dev.mram.opSecB + 60) * qSec))
    ∧ (∀ s dt, Answers (.pinReset dt) s (fun e => e.atReset ∧ e.now = 0 ∧ e.run = (s.dev.elapse dt).run ∧ e.dram = [] ∧ e.jobs = [] ∧ e.mgmt.inReset = true
      ∧ e.mgmt.resetCause = 1 ∧ e.mram = s.dev.mram ∧ e.flash = s.dev.flash ∧ e.host = s.dev.host ∧ e.recorder.opBase = s.dev.recorder.opBase))
    ∧ (∀ s dt, s.dev.mgmt.mgmtEn = true → Answers (.deviceReset dt) s (fun e => e.atReset ∧ e.dram = [] ∧ e.jobs = [] ∧ e.mgmt.inReset = true
      ∧ e.mgmt.resetCause = 2 ∧ e.mram = s.dev.mram ∧ e.flash = s.dev.flash ∧ e.host = s.dev.host))
    ∧ (∀ s dt, Answers (.perstAssert dt) s (fun e => e.pcie.perst = true ∧ e.pcie.configured = false ∧ e.get .MGT_UNIT_IN_SERVICE 34 = 0
      ∧ e.get .SYS_ISL_STAT_IN_SERVICE 34 = 0 ∧ (∀ f < 8, (e.fn f).busMaster = false ∧ (e.fn f).waiting = []
        ∧ e.get .WIN_FRZ_STAT_FROZEN f = s.dev.get .WIN_FRZ_STAT_FROZEN f ∧ ∀ r < 64, e.get .HIF_SQ_CFG_ENABLE f r = 0)
      ∧ e.get .SYS_LAYER_STAT_STATE = s.dev.get .SYS_LAYER_STAT_STATE ∧ s.dev.SameMem e))
    ∧ (∀ s dt, Answers (.perstRelease dt) s (fun e => e.pcie = { s.dev.pcie with perst := false } ∧ s.dev.OnlyAt e [] ∧ s.dev.SameMem e))
    ∧ (∀ s dt (fn : Fin 8), fn.val ≠ 0 → s.dev.frozen fn = false →
      Answers (.functionLevelReset dt fn) s (fun e => e.get .WIN_FRZ_STAT_FROZEN fn = 1 ∧ e.get .WIN_FRZ_STAT_CAUSE fn = 9 ∧ (e.fn fn).flr = true
        ∧ (∀ g < 8, g ≠ fn.val → e.get .WIN_FRZ_STAT_FROZEN g = s.dev.get .WIN_FRZ_STAT_FROZEN g) ∧ s.dev.SameMem e))
    ∧ (∀ s dt, (∀ f < 8, s.dev.frozen f = false) →
      Answers (.functionLevelReset dt 0) s (fun e => (∀ f < 8, e.get .WIN_FRZ_STAT_FROZEN f = 1 ∧ (e.fn f).flr = true
        ∧ e.get .WIN_FRZ_STAT_CAUSE f = (if f = 0 then 9 else 8)) ∧ e.pcie.vfEnable = false ∧ s.dev.SameMem e))
    ∧ (∀ s dt (fn : Fin 8), fn.val ≠ 0 → s.dev.frozen fn = true → s.dev.get .WIN_FRZ_STAT_SAFE fn = 1 → (s.dev.fn fn).byViolation = false →
      Answers (.functionLevelReset dt fn) s (fun e => e.get .WIN_FRZ_STAT_FROZEN fn = 0 ∧ e.get .WIN_FRZ_STAT_SAFE fn = 0 ∧ (e.fn fn).flr = false
        ∧ (e.fn fn).busMaster = false ∧ (∀ r < 64, e.get .HIF_SQ_CFG_ENABLE fn r = 0) ∧ s.dev.SameMem e))
    ∧ (∀ s dt (straps : BitVec 3) (cal : List (List Int)) (dowels : List Int) (dramOk : List Bool), s.dev.mgmt.inReset = true → 0 ∉ s.dev.mgmt.absent →
      (s.dev.mgmt.resetCause ≠ 3 ∨ s.dev.mgmt.sysBack + qMs ≤ (s.dev.elapse dt).run) → hasBit straps.toNat 1 = true → s.dev.logs →
      s.dev.recorder.queue.length < 255 →
      Answers (.resetRelease dt straps cal dowels dramOk) s (fun e => e.mgmt.inReset = false ∧ e.get .MGT_STAT_RECOVERY = 1 ∧ e.get .REC_STAT_SCANNING = 1
        ∧ e.get .SYS_STRAP_RECOV = 1 ∧ e.Recorded 0x0001 1 ∧ e.Recorded 0x0d0b 7 ∧ e.flash = s.dev.flash ∧ e.mram = s.dev.mram))
    ∧ (∀ s dt (straps : BitVec 3) (cal : List (List Int)) (dowels : List Int) (dramOk : List Bool), s.dev.mgmt.inReset = true → 0 ∉ s.dev.mgmt.absent →
      (s.dev.mgmt.resetCause ≠ 3 ∨ s.dev.mgmt.sysBack + qMs ≤ (s.dev.elapse dt).run) → hasBit straps.toNat 1 = false →
      Answers (.resetRelease dt straps cal dowels dramOk) s (fun e => e.mgmt.inReset = false ∧ e.get .MGT_STAT_BOOT_SLOT = s.dev.mram.bootCfg.bootSlot % 2
        ∧ e.get .MGT_STAT_MIN_SVN = s.dev.mram.bootCfg.minSvn % 2 ^ 15 ∧ (e.pickSlot = none → e.get .MGT_STAT_RECOVERY = 1)
        ∧ (∀ k ∈ e.pickSlot, e.get .MGT_STAT_SLOT_NOW = k ∧ e.get .MGT_STAT_BOOT_DONE = 1 ∧ (k ≠ e.get .MGT_STAT_BOOT_SLOT → e.get .MGT_STAT_FALLBACK = 1)
            ∧ e.get .DRM_CFG_PRESENT 0 = s.dev.mram.bootCfg.present0.toNat) ∧ e.flash = s.dev.flash ∧ e.mram = s.dev.mram))
    ∧ (∀ s dt (cfg : BootCfg), s.dev.mgmt.mgmtEn = true → s.dev.inService 48 = true →
      Answers (.writeBootcfg dt cfg) s (fun e => e.mram = { s.dev.mram with boot1 := cfg, boot2 := cfg, gen1 := max s.dev.mram.gen1 s.dev.mram.gen2 + 1, gen2 := max s.dev.mram.gen1 s.dev.mram.gen2 + 1 }
        ∧ s.dev.OnlyAt e [] ∧ s.dev.SameMem e))
    ∧ (∀ s dt, s.dev.mgmt.mgmtEn = true → s.dev.inService 48 = true → s.dev.frozen 0 = true → s.dev.get .WIN_FRZ_STAT_SAFE 0 = 1 → s.dev.logs →
      Answers (.releaseF0 dt) s (fun e => e.get .WIN_FRZ_STAT_FROZEN 0 = 0 ∧ e.get .WIN_FRZ_STAT_SAFE 0 = 0 ∧ e.get .WIN_FRZ_STAT_CAUSE 0 = 0
        ∧ (∀ r < 64, e.get .HIF_SQ_CFG_ENABLE 0 r = 0) ∧ e.Recorded 0x0d0a 5 ∧ s.dev.SameMem e))
    ∧ (∀ s dt, s.dev.mgmt.mgmtEn = true → s.dev.inService 48 = true →
      Answers (.clearFatal dt) s (fun e => e.mram.log = s.dev.mram.log.filter (fun x => !(recValid x.2 && recSev x.2 == 7)) ∧ s.dev.SameMem e))
    ∧ (∀ s dt (slot : Fin 2) page (bs : List Byte), s.dev.mgmt.mgmtEn = true → s.dev.inService 48 = true → s.dev.get .MGT_STAT_RECOVERY = 1 → page < 32768 →
      bs.length = 256 →
      Answers (.slotWrite dt slot page bs) s (fun e => e.flash.Wrote s.dev.flash (slot * 0x800000 + 256 * page) bs ∧ e.mram = s.dev.mram
        ∧ e.host = s.dev.host ∧ e.dram = s.dev.dram))
    ∧ (∀ s dt (slot : Fin 2) page (bs : List Byte), s.dev.get .MGT_STAT_RECOVERY = 0 →
      Answers (.slotWrite dt slot page bs) s (fun e => e.flash = s.dev.flash ∧ s.dev.OnlyAt e []))
    ∧ (∀ s dt (slot : Fin 2) (commit : Bool), s.dev.mgmt.mgmtEn = true → s.dev.inService 48 = true → s.dev.get .MGT_STAT_RECOVERY = 1 →
      Answers (.slotSelect dt slot commit) s (fun e => if s.dev.selectable slot then e.get .MGT_STAT_BOOT_SLOT = slot ∧ e.mram.boot1.bootSlot = slot
          ∧ e.mram.boot2 = e.mram.boot1 ∧ e.mram.gen1 = max s.dev.mram.gen1 s.dev.mram.gen2 + 1 else e.mram = s.dev.mram ∧ s.dev.OnlyAt e []))
    ∧ (∀ s dt job j k, s.dev.Takes job 0x44 j → headerFits (j.fwBytes.take 160) = true → 4096 + hdrNum (j.fwBytes.take 160) 8 4 ≤ j.bits 223 192 →
      s.dev.mgmt.update = none → k = 1 - s.dev.get .MGT_STAT_SLOT_NOW →
      Answers (.mgtFwUpdate dt job) s (fun e => e.Begun j (s.dev.now + dt) ∧ e.get .MGT_STAT_UPD_BUSY = 1 ∧ e.mgmt.update = some job
        ∧ e.flash.Wrote s.dev.flash (k * 0x800000) (List.replicate 4096 0xff#8) ∧ e.host = s.dev.host ∧ e.dram = s.dev.dram))
    ∧ (∀ s dt job j, s.dev.Takes job 0x44 j → headerFits (j.fwBytes.take 160) = false →
      Answers (.mgtFwUpdate dt job) s (fun e => e.Done j 0x01ff ∧ e.mgmt = s.dev.mgmt ∧ s.dev.SameMem e))
    ∧ (∀ s dt id j, s.dev.mgmt.update = some id → s.dev.job id = some j → j.code = none → j.replay = false → j.orphan = false → j.noCqeOk = false →
      s.dev.replayKept j = false →
      Answers (.fwUpdateDone dt false) s (fun e => e.Done j 0x05fe ∧ e.get .MGT_STAT_UPD_BUSY = 0 ∧ e.mgmt.update = none ∧ s.dev.SameMem e))
    ∧ (∀ s dt id j (h image : List Byte) k, s.dev.mgmt.update = some id → s.dev.job id = some j → j.code = none → j.replay = false → j.orphan = false →
      j.noCqeOk = false → s.dev.replayKept j = false → h = j.fwBytes.take 160 → image = (j.fwBytes.drop 4096).take (hdrNum h 8 4) →
      k = 1 - s.dev.get .MGT_STAT_SLOT_NOW →
      Answers (.fwUpdateDone dt true) s (fun e => e.get .MGT_STAT_UPD_BUSY = 0 ∧ e.mgmt.update = none
        ∧ (if imageValid h image (s.dev.get .MGT_STAT_MIN_SVN) then e.Done j 0
              ∧ e.flash.Wrote2 s.dev.flash (k * 0x800000 + 4096) image (k * 0x800000) (j.fwBytes.take 4096)
            else e.Done j 0x02ff ∧ e.flash.Wrote s.dev.flash (k * 0x800000 + 4096) image)))
    ∧ (∀ s dt job j, s.dev.Takes job 0x45 j →
      Answers (.mgtFwSelect dt job) s (fun e => (if s.dev.selectable (j.bits 128 128) then e.Done j 0 ∧ e.get .MGT_STAT_BOOT_SLOT = j.bits 128 128
            ∧ e.mram.boot1.bootSlot = j.bits 128 128 ∧ e.mram.boot2 = e.mram.boot1 ∧ e.mram.gen1 = max s.dev.mram.gen1 s.dev.mram.gen2 + 1
            ∧ (j.bits 129 129 = 0 → e.get .MGT_STAT_MIN_SVN = s.dev.get .MGT_STAT_MIN_SVN % 2 ^ 15)
          else e.Done j 0x02ff ∧ e.mram = s.dev.mram) ∧ s.dev.SameMem e))

/-! ### Frames: what a command leaves as it is -/

namespace Sys2Proof

namespace Machine

/-- The parts of the device beside its registers, device time and run time. -/
inductive Part where
  | force | free | host | dram | flash | mram | jobs | nextJob | hostFns | movers | srcs | vecs | fnMasked | recorder | islands | layer | dramCh | sensors | therm | cal
  | pcie | mgmt | pins | fabOut | fabSeq | engines | links | kerf | grain | tiles | axes | encs | pulses | capts | time | cams | camPorts | pipe | fabric | hinge
  deriving DecidableEq, Repr

/-- A part reads as before. -/
def Part.same (d d' : Dev) : Part → Prop
  | .force => d'.force = d.force
  | .free => d'.free = d.free
  | .host => d'.host = d.host
  | .dram => d'.dram = d.dram
  | .flash => d'.flash = d.flash
  | .mram => d'.mram = d.mram
  | .jobs => d'.jobs = d.jobs
  | .nextJob => d'.nextJob = d.nextJob
  | .hostFns => d'.hostFns = d.hostFns
  | .movers => d'.movers = d.movers
  | .srcs => d'.srcs = d.srcs
  | .vecs => d'.vecs = d.vecs
  | .fnMasked => d'.fnMasked = d.fnMasked
  | .recorder => d'.recorder = d.recorder
  | .islands => d'.islands = d.islands
  | .layer => d'.layer = d.layer
  | .dramCh => d'.dramCh = d.dramCh
  | .sensors => d'.sensors = d.sensors
  | .therm => d'.therm = d.therm
  | .cal => d'.cal = d.cal
  | .pcie => d'.pcie = d.pcie
  | .mgmt => d'.mgmt = d.mgmt
  | .pins => d'.pins = d.pins
  | .fabOut => d'.fabOut = d.fabOut
  | .fabSeq => d'.fabSeq = d.fabSeq
  | .engines => d'.engines = d.engines
  | .links => d'.links = d.links
  | .kerf => d'.kerf = d.kerf
  | .grain => d'.grain = d.grain
  | .tiles => d'.tiles = d.tiles
  | .axes => d'.axes = d.axes
  | .encs => d'.encs = d.encs
  | .pulses => d'.pulses = d.pulses
  | .capts => d'.capts = d.capts
  | .time => d'.time = d.time
  | .cams => d'.cams = d.cams
  | .camPorts => d'.camPorts = d.camPorts
  | .pipe => d'.pipe = d.pipe
  | .fabric => d'.fabric = d.fabric
  | .hinge => d'.hinge = d.hinge

/-- Registers that a unit taken out of service, or stopped, can change. -/
def unitOutRegs : List Reg := [.AX_ELEC, .AX_POS, .AX_STAT, .AX_VEL, .CAL_STAT, .CAM_CTX_LAST, .CAM_CTX_STAT, .CAM_PIPE_STAT, .DRM_STAT, .ENC_STAT,
    .ENG_FIFO, .ENG_GATE_PULSES, .ENG_GATE_STAT, .ENG_STAT, .FAB_DROP, .HIF_STAT, .HNG_STAT, .INT_FWD_CNT, .INT_SRC_STAT, .INT_STAT, .INT_VEC_STAT,
    .KRF_CNT_B, .KRF_ENG_STAT, .KRF_STAT, .MGT_LAST, .MGT_STAT, .MGT_UNIT, .MPL_INT, .MPL_SLICE, .MPL_SLICE_STAT, .MPL_STAT, .REC_DROP,
    .REC_STAT, .SCF_CNT_A, .SCF_ERR, .SYS_ISL_STAT, .SYS_LAYER_STAT, .VNR_STAT, .WIN_FRZ_ADDR_HI, .WIN_FRZ_ADDR_LO, .WIN_FRZ_STAT,
    .WIN_MOVER_STAT]

/-- Registers that a record of the event recorder can change, its mirror and its interrupt among them. -/
def recordRegs : List Reg := [.HIF_STAT, .INT_FWD_CNT, .INT_SRC_STAT, .INT_STAT, .INT_VEC_STAT, .REC_DROP, .REC_STAT]

/-- Registers that an occurrence of an interrupt source can change. -/
def eventRegs : List Reg := [.INT_FWD_CNT, .INT_SRC_STAT, .INT_VEC_STAT]

/-- Registers that a violation can change. -/
def freezeRegs : List Reg := [.SYS_LAYER_STAT, .WIN_FRZ_ADDR_HI, .WIN_FRZ_ADDR_LO, .WIN_FRZ_STAT]

/-- Registers that a completion can change. -/
def completionRegs : List Reg := [.HIF_STAT, .MGT_STAT]

/-- Parts that a unit taken out of service can change. -/
def unitOutParts : List Part := [.host, .dram, .jobs, .hostFns, .movers, .srcs, .recorder, .islands, .layer, .cal, .pcie, .pins, .fabOut, .fabSeq,
    .engines, .kerf, .tiles, .axes, .encs, .cams, .camPorts, .pipe, .hinge]

/-- Parts that a record of the event recorder can change. -/
def recordParts : List Part := [.srcs, .recorder, .fabOut, .fabSeq]

/-- Parts that an occurrence of an interrupt source can change. -/
def eventParts : List Part := [.srcs, .fabOut, .fabSeq]

/-- Parts that a completion can change. -/
def completionParts : List Part := [.jobs, .hostFns, .layer]

end Machine

open Machine

/-- The commands that can change any register: a register write, and the resets and boots of the whole device. -/
def Instr.anyRegister : Instr → Bool
  | .registerWrite .. | .powerOnReset .. | .pinReset .. | .deviceReset .. | .railUndervolt .. | .refclkAbsent .. | .resetRelease .. => true
  | _ => false

/-- The registers that each command can change. -/
def Instr.changes : Instr → List Reg
  | .registerWrite .. => []
  | .sysLockSet .. => [.SYS_LOCK, .WIN_FRZ_STAT]
  | .sysIslTofsRead .. => [.SYS_ISL_TOFS]
  | .timNowNsRead .. => [.ENC_IDX_ERR, .SYS_ISL_TOFS]
  | .encIdxErrRead .. => [.ENC_IDX_ERR, .SYS_ISL_TOFS]
  | .sysIslCfgWrite .. => [.SYS_ISL_CFG, .SYS_ISL_STAT, .WIN_FRZ_STAT]
  | .islandRelockDone .. => eventRegs ++ completionRegs ++ [.DRM_STAT, .ENG_STAT, .MGT_UNIT, .MPL_SLICE_STAT, .SYS_ISL_STAT, .SYS_LAYER_STAT,
    .WIN_MOVER_STAT]
  | .dowelPulse .. => unitOutRegs ++ [.CAL_DOWEL, .ENG_GATE_SKIP, .SYS_ISL_TOFS, .TIM_PULSE_STAT, .TIM_RATE, .VNR_BW]
  | .holdoverEntry .. => [.SYS_ISL_STAT]
  | .bridgeErr .. => unitOutRegs
  | .safeStopAssert .. => recordRegs ++ [.AX_STAT, .ENG_FIFO, .ENG_GATE_PULSES, .ENG_GATE_SKIP, .ENG_GATE_STAT, .ENG_STAT, .FAB_DROP, .KRF_CNT_B,
    .KRF_ENG_STAT, .KRF_STAT, .MGT_STAT, .SCF_CNT_A, .SCF_ERR, .VNR_STAT]
  | .safeStopEnd .. => [.ENG_GATE_STAT]
  | .gasOkLow .. => [.ENG_GATE_STAT, .ENG_STAT, .KRF_CNT_B, .KRF_ENG_STAT, .KRF_STAT]
  | .gasOkHigh .. => [.KRF_STAT]
  | .layerOpen .. => recordRegs ++ [.CAL_STAT, .DRM_STAT, .ENG_GATE_PULSES, .ENG_GATE_SKIP, .ENG_JCT, .ENG_STAT, .FAB_DROP, .GRN_CNT, .GRN_LOST,
    .GRN_STAT, .KRF_CNT_A, .KRF_CNT_B, .MGT_STAT, .MGT_UNIT, .MPL_CNT, .MPL_SLICE_STAT, .MPL_STAT, .SCF_CNT_A, .SCF_CNT_B, .SCF_ERR,
    .SYS_BARRIER_STAT, .SYS_ISL_STAT, .SYS_LAYER_EPOCH_HI, .SYS_LAYER_EPOCH_LO, .SYS_LAYER_NUM, .SYS_LAYER_STAT, .VNR_CNT, .WIN_MOVER_STAT]
  | .epochSweepDone .. => recordRegs ++ [.DRM_STAT, .ENG_STAT, .GRN_STAT, .MGT_STAT, .MGT_UNIT, .MPL_SLICE_STAT, .SYS_ISL_STAT, .SYS_LAYER_STAT,
    .WIN_MOVER_STAT]
  | .layerMark .. => recordRegs ++ [.CAL_STAT, .DRM_STAT, .ENG_STAT, .FAB_DROP, .MGT_STAT, .MGT_UNIT, .MPL_SLICE_STAT, .SCF_CNT_A, .SCF_ERR,
    .SYS_ISL_STAT, .WIN_MOVER_STAT]
  | .phaseEnd .. => recordRegs ++ [.MGT_STAT, .SCF_ERR, .SYS_BARRIER_STAT, .SYS_LAYER_STAT, .TIM_STAT]
  | .exposeStart .. => eventRegs ++ [.HIF_STAT, .SYS_LAYER_STAT]
  | .layerClose .. => completionRegs
  | .layerResume .. => eventRegs ++ completionRegs ++ [.SYS_LAYER_STAT]
  | .barrierReady .. => recordRegs ++ [.GRN_STAT, .KRF_STAT, .MGT_STAT, .SCF_CNT_A, .SCF_ERR, .SYS_BARRIER_STAT, .SYS_LAYER_STAT, .TIM_STAT,
    .WIN_PEER_CAUSE, .WIN_PEER_FRZ]
  | .barrierRelease .. => eventRegs ++ completionRegs ++ [.SYS_LAYER_STAT, .TIM_STAT]
  | .barrierWaitReminder .. => recordRegs
  | .midLayerRebase .. => recordRegs ++ [.SYS_LAYER_STAT]
  | .rebaseSweepStart .. => [.GRN_CNT, .GRN_LOST, .GRN_STAT, .SYS_LAYER_EPOCH_HI, .SYS_LAYER_EPOCH_LO]
  | .sqEnable .. => [.HIF_SQ_CFG, .HIF_STAT, .SYS_IGN_WR, .WIN_FRZ_STAT, .WIN_MOVER_STAT]
  | .sqDisable .. => [.HIF_SQ_CFG, .HIF_STAT, .SYS_IGN_WR, .WIN_FRZ_STAT, .WIN_MOVER_STAT]
  | .cqEnable .. => [.HIF_CQ_CFG, .HIF_STAT, .SYS_IGN_WR, .WIN_FRZ_STAT]
  | .cqDisable .. => [.HIF_CQ_CFG, .HIF_STAT, .SYS_IGN_WR, .WIN_FRZ_STAT]
  | .dbBaseWrite .. => [.HIF_DB_BASE_HI, .HIF_DB_BASE_LO, .HIF_STAT, .SYS_IGN_WR, .WIN_FRZ_STAT]
  | .pollEnable .. => [.HIF_POLL_CFG, .HIF_STAT, .SYS_IGN_WR, .WIN_FRZ_STAT]
  | .doorbellPoll .. => recordRegs ++ freezeRegs ++ [.AX_STAT, .CAM_CTX_STAT, .CAM_PIPE_STAT, .ENC_STAT, .ENG_FIFO, .ENG_GATE_PULSES,
    .ENG_GATE_SKIP, .ENG_GATE_STAT, .ENG_STAT, .KRF_CNT_B, .KRF_ENG_STAT, .KRF_STAT, .SCF_ERR, .TIM_PULSE_STAT, .VNR_BW, .VNR_STAT]
  | .pollSnapshot .. => recordRegs ++ freezeRegs ++ [.AX_STAT, .CAM_CTX_STAT, .CAM_PIPE_STAT, .ENC_STAT, .ENG_FIFO, .ENG_GATE_PULSES,
    .ENG_GATE_SKIP, .ENG_GATE_STAT, .ENG_STAT, .KRF_CNT_B, .KRF_ENG_STAT, .KRF_STAT, .SCF_ERR, .TIM_PULSE_STAT, .VNR_BW, .VNR_STAT]
  | .pollFailTimeout .. => unitOutRegs
  | .descriptorFetch .. => recordRegs ++ freezeRegs ++ [.AX_STAT, .CAM_CTX_STAT, .CAM_PIPE_STAT, .ENC_STAT, .ENG_FIFO, .ENG_GATE_PULSES,
    .ENG_GATE_SKIP, .ENG_GATE_STAT, .ENG_STAT, .HIF_SQ_CFG, .KRF_CNT_B, .KRF_ENG_STAT, .KRF_STAT, .MGT_STAT, .SCF_ERR, .TIM_PULSE_STAT, .VNR_BW,
    .VNR_STAT]
  | .slotsStaged .. => recordRegs ++ freezeRegs ++ [.AX_STAT, .CAM_CTX_STAT, .CAM_PIPE_STAT, .ENC_STAT, .ENG_FIFO, .ENG_GATE_PULSES,
    .ENG_GATE_SKIP, .ENG_GATE_STAT, .ENG_STAT, .KRF_CNT_B, .KRF_ENG_STAT, .KRF_STAT, .SCF_ERR, .TIM_PULSE_STAT, .VNR_BW, .VNR_STAT, .WIN_MOVER_STAT]
  | .payloadStaged .. => [.WIN_MOVER_STAT]
  | .descriptorDispatch .. => completionRegs
  | .descriptorTake .. => completionRegs
  | .completionWrite .. => recordRegs ++ freezeRegs ++ [.AX_STAT, .CAM_CTX_STAT, .CAM_PIPE_STAT, .ENC_STAT, .ENG_FIFO, .ENG_GATE_PULSES,
    .ENG_GATE_SKIP, .ENG_GATE_STAT, .ENG_STAT, .KRF_CNT_B, .KRF_ENG_STAT, .KRF_STAT, .SCF_ERR, .TIM_PULSE_STAT, .VNR_BW, .VNR_STAT]
  | .busMasterDisable .. => []
  | .busMasterEnable .. => freezeRegs ++ [.DRM_STAT, .ENG_STAT, .MGT_UNIT, .MPL_SLICE_STAT, .SYS_ISL_STAT, .WIN_MOVER_STAT]
  | .vfDisable .. => recordRegs ++ freezeRegs ++ [.AX_STAT, .CAM_CTX_STAT, .CAM_PIPE_STAT, .ENC_STAT, .ENG_FIFO, .ENG_GATE_PULSES, .ENG_GATE_SKIP,
    .ENG_GATE_STAT, .ENG_STAT, .KRF_CNT_B, .KRF_ENG_STAT, .KRF_STAT, .SCF_ERR, .TIM_PULSE_STAT, .VNR_BW, .VNR_STAT]
  | .winOwnWrite .. => recordRegs ++ freezeRegs ++ [.AX_STAT, .CAM_CTX_STAT, .CAM_PIPE_STAT, .ENC_STAT, .ENG_FIFO, .ENG_GATE_PULSES,
    .ENG_GATE_SKIP, .ENG_GATE_STAT, .ENG_STAT, .KRF_CNT_B, .KRF_ENG_STAT, .KRF_STAT, .SCF_ERR, .TIM_PULSE_STAT, .VNR_BW, .VNR_STAT, .WIN_OWN_CTX,
    .WIN_OWN_ENG_HI, .WIN_OWN_ENG_LO, .WIN_OWN_IO, .WIN_STAT]
  | .winCfgWrite .. => recordRegs ++ freezeRegs ++ [.AX_STAT, .CAM_CTX_STAT, .CAM_PIPE_STAT, .ENC_STAT, .ENG_FIFO, .ENG_GATE_PULSES,
    .ENG_GATE_SKIP, .ENG_GATE_STAT, .ENG_STAT, .KRF_CNT_B, .KRF_ENG_STAT, .KRF_STAT, .SCF_ERR, .SYS_IGN_WR, .TIM_PULSE_STAT, .VNR_BW, .VNR_STAT,
    .WIN_CFG, .WIN_STAT]
  | .winStageWrite .. => recordRegs ++ freezeRegs ++ [.AX_STAT, .CAM_CTX_STAT, .CAM_PIPE_STAT, .ENC_STAT, .ENG_FIFO, .ENG_GATE_PULSES,
    .ENG_GATE_SKIP, .ENG_GATE_STAT, .ENG_STAT, .KRF_CNT_B, .KRF_ENG_STAT, .KRF_STAT, .SCF_ERR, .TIM_PULSE_STAT, .VNR_BW, .VNR_STAT, .WIN_STAGE,
    .WIN_STAT]
  | .moverStart .. => recordRegs ++ freezeRegs ++ [.AX_STAT, .CAM_CTX_STAT, .CAM_PIPE_STAT, .ENC_STAT, .ENG_FIFO, .ENG_GATE_PULSES, .ENG_GATE_SKIP,
    .ENG_GATE_STAT, .ENG_STAT, .KRF_CNT_B, .KRF_ENG_STAT, .KRF_STAT, .SCF_ERR, .TIM_PULSE_STAT, .VNR_BW, .VNR_STAT, .WIN_MOVER_STAT]
  | .fifoRefillDone .. => [.ENG_FIFO]
  | .freezeGateTimeout .. => recordRegs ++ [.AX_STAT, .CAM_CTX_STAT, .CAM_PIPE_STAT, .ENC_STAT, .ENG_FIFO, .ENG_GATE_PULSES, .ENG_GATE_SKIP,
    .ENG_GATE_STAT, .ENG_STAT, .FAB_DROP, .KRF_CNT_B, .KRF_ENG_STAT, .KRF_STAT, .SCF_CNT_A, .SCF_ERR, .TIM_PULSE_STAT, .VNR_BW, .VNR_STAT]
  | .freezeSafe .. => recordRegs ++ [.AX_STAT, .CAM_CTX_STAT, .CAM_PIPE_STAT, .ENC_STAT, .ENG_FIFO, .ENG_GATE_PULSES, .ENG_GATE_SKIP,
    .ENG_GATE_STAT, .ENG_STAT, .FAB_DROP, .HIF_CQ_BASE_HI, .HIF_CQ_BASE_LO, .HIF_CQ_CFG, .HIF_DB_BASE_HI, .HIF_DB_BASE_LO, .HIF_POLL_CFG,
    .HIF_SQ_BASE_HI, .HIF_SQ_BASE_LO, .HIF_SQ_CFG, .INT_CTL, .INT_EVQ_BASE_HI, .INT_EVQ_BASE_LO, .INT_EVQ_CFG, .INT_PEER, .INT_SRC_CFG,
    .INT_VEC_CFG, .KRF_CNT_B, .KRF_ENG_STAT, .KRF_STAT, .MGT_STAT, .SCF_CNT_A, .SCF_ERR, .TIM_PULSE_STAT, .VNR_BW, .VNR_STAT, .WIN_FRZ_STAT]
  | .unfreezeFunction .. => [.HIF_CQ_CFG, .HIF_SQ_CFG, .HIF_STAT, .INT_EVQ_CFG, .INT_SRC_STAT, .INT_STAT, .INT_VEC_STAT, .WIN_FRZ_CTL,
    .WIN_FRZ_STAT, .WIN_STAT]
  | .unfreezePeer .. => [.WIN_FRZ_STAT, .WIN_PEER_FRZ]
  | .vecBlock .. => completionRegs
  | .vecInline .. => completionRegs
  | .engPark .. => completionRegs ++ [.CAL_ADC_CELL, .CAL_ADC_REF, .CAL_GATE_LAT, .CAL_TAP_MAP, .CAL_TAP_REF, .ENG_GATE_LAT, .ENG_LIMITS,
    .ENG_PLAN_CTL, .ENG_STAT, .ENG_VEL, .MPL_STAT]
  | .engLimits .. => completionRegs
  | .recordEnterLookahead .. => recordRegs ++ [.CAL_ADC_CELL, .CAL_ADC_REF, .CAL_GATE_LAT, .CAL_TAP_MAP, .CAL_TAP_REF, .COR_STAT, .ENG_FIFO,
    .ENG_GATE_LAT, .ENG_GATE_SKIP, .ENG_LIMITS, .ENG_PLAN_CTL, .ENG_STAT, .ENG_VEL, .MGT_STAT, .MPL_STAT, .SCF_CNT_B, .SCF_ERR]
  | .kerfRequest .. => recordRegs ++ [.ENG_GATE_STAT, .ENG_STAT, .KRF_CNT_B, .KRF_ENG_STAT, .KRF_STAT, .SCF_CNT_A]
  | .recordStart .. => eventRegs ++ completionRegs ++ [.CAL_ADC_CELL, .CAL_ADC_REF, .CAL_GATE_LAT, .CAL_TAP_MAP, .CAL_TAP_REF, .ENG_GATE_LAT,
    .ENG_GATE_PULSES, .ENG_GATE_SKIP, .ENG_GATE_STAT, .ENG_JCT, .ENG_LIMITS, .ENG_MARK, .ENG_PLAN_CTL, .ENG_REC_SEQ, .ENG_STAT, .ENG_VEL, .MPL_STAT]
  | .recordEnd .. => recordRegs ++ [.CAL_ADC_CELL, .CAL_ADC_REF, .CAL_GATE_LAT, .CAL_TAP_MAP, .CAL_TAP_REF, .ENG_FIFO, .ENG_GATE_LAT,
    .ENG_GATE_PULSES, .ENG_GATE_SKIP, .ENG_GATE_STAT, .ENG_JCT, .ENG_LIMITS, .ENG_MARK, .ENG_PLAN_CTL, .ENG_REC_SEQ, .ENG_STAT, .ENG_VEL,
    .FAB_DROP, .KRF_CNT_B, .KRF_ENG_STAT, .KRF_STAT, .MGT_STAT, .MPL_STAT, .SCF_CNT_A, .SCF_ERR, .WIN_MOVER_STAT]
  | .parkDone .. => completionRegs ++ [.CAL_ADC_CELL, .CAL_ADC_REF, .CAL_GATE_LAT, .CAL_TAP_MAP, .CAL_TAP_REF, .ENG_GATE_LAT, .ENG_LIMITS,
    .ENG_PLAN_CTL, .ENG_STAT, .ENG_VEL, .MPL_STAT]
  | .setpointFrame .. => [.CAL_ADC_CELL, .CAL_ADC_REF, .CAL_GATE_LAT, .CAL_TAP_MAP, .CAL_TAP_REF, .COR_STAT, .ENG_ARC, .ENG_GATE_LAT,
    .ENG_GATE_PULSES, .ENG_GATE_SKIP, .ENG_GATE_STAT, .ENG_JCT, .ENG_LINK_ERR, .ENG_POS_X, .ENG_POS_Y, .ENG_STAT, .MPL_STAT]
  | .returnFrame .. => recordRegs ++ [.ENG_FIFO, .ENG_GATE_PULSES, .ENG_GATE_STAT, .ENG_HEAD_STAT, .ENG_LINK_ERR, .ENG_STAT, .FAB_DROP, .KRF_CNT_B,
    .KRF_ENG_STAT, .KRF_STAT, .MGT_STAT, .SCF_CNT_A, .SCF_ERR]
  | .linkUpTimeout .. => recordRegs ++ [.ENG_FIFO, .ENG_GATE_PULSES, .ENG_GATE_STAT, .ENG_STAT, .FAB_DROP, .KRF_CNT_B, .KRF_ENG_STAT, .KRF_STAT,
    .MGT_STAT, .SCF_CNT_A, .SCF_ERR]
  | .linkLossFault .. => recordRegs ++ [.ENG_FIFO, .ENG_GATE_PULSES, .ENG_GATE_STAT, .ENG_STAT, .FAB_DROP, .KRF_CNT_B, .KRF_ENG_STAT, .KRF_STAT,
    .MGT_STAT, .SCF_CNT_A, .SCF_ERR]
  | .gateCompareHit .. => recordRegs ++ [.ENG_GATE_PULSES, .ENG_GATE_SKIP, .ENG_GATE_STAT, .ENG_JCT, .ENG_STAT]
  | .gateMonFault .. => recordRegs ++ [.ENG_FIFO, .ENG_GATE_PULSES, .ENG_GATE_STAT, .ENG_STAT, .FAB_DROP, .KRF_CNT_B, .KRF_ENG_STAT, .KRF_STAT,
    .MGT_STAT, .SCF_CNT_A, .SCF_ERR]
  | .corLoad .. => completionRegs ++ [.COR_ACT_CRC, .COR_ACT_PITCH, .COR_ACT_X0, .COR_ACT_Y0, .COR_SHD_CRC, .COR_STAT]
  | .corLoadDone .. => recordRegs ++ [.CAL_ADC_CELL, .CAL_ADC_REF, .CAL_GATE_LAT, .CAL_TAP_MAP, .CAL_TAP_REF, .COR_ACT_CRC, .COR_ACT_PITCH,
    .COR_ACT_X0, .COR_ACT_Y0, .COR_SHD_CRC, .COR_STAT, .DRM_STAT, .ENG_FIFO, .ENG_GATE_LAT, .ENG_GATE_STAT, .ENG_LIMITS, .ENG_PLAN_CTL, .ENG_STAT,
    .ENG_VEL, .KRF_CNT_B, .KRF_ENG_STAT, .KRF_STAT, .MGT_STAT, .MGT_UNIT, .MPL_SLICE_STAT, .MPL_STAT, .SYS_ISL_STAT, .SYS_LAYER_STAT,
    .WIN_MOVER_STAT]
  | .corSwap .. => completionRegs ++ [.COR_ACT_CRC, .COR_ACT_PITCH, .COR_ACT_X0, .COR_ACT_Y0, .COR_SHD_CRC, .COR_STAT]
  | .corBankSwap .. => recordRegs ++ [.CAL_ADC_CELL, .CAL_ADC_REF, .CAL_GATE_LAT, .CAL_TAP_MAP, .CAL_TAP_REF, .COR_ACT_CRC, .COR_ACT_PITCH,
    .COR_ACT_X0, .COR_ACT_Y0, .COR_SHD_CRC, .COR_STAT, .DRM_STAT, .ENG_FIFO, .ENG_GATE_LAT, .ENG_GATE_STAT, .ENG_LIMITS, .ENG_PLAN_CTL, .ENG_STAT,
    .ENG_VEL, .KRF_CNT_B, .KRF_ENG_STAT, .KRF_STAT, .MGT_STAT, .MGT_UNIT, .MPL_SLICE_STAT, .MPL_STAT, .SYS_ISL_STAT, .SYS_LAYER_STAT,
    .WIN_MOVER_STAT]
  | .corSave .. => freezeRegs ++ completionRegs
  | .corEccError .. => unitOutRegs ++ [.CAL_ADC_CELL, .CAL_ADC_REF, .CAL_GATE_LAT, .CAL_TAP_MAP, .CAL_TAP_REF, .COR_ACT_CRC, .COR_ACT_PITCH,
    .COR_ACT_X0, .COR_ACT_Y0, .COR_SHD_CRC, .COR_STAT, .ENG_GATE_LAT, .ENG_LIMITS, .ENG_PLAN_CTL, .ENG_VEL]
  | .scarfYield .. => recordRegs ++ [.ENG_GATE_STAT, .ENG_STAT, .FAB_DROP, .KRF_CNT_B, .KRF_ENG_STAT, .KRF_STAT, .SCF_CNT_A, .SCF_ERR]
  | .scarfNotice .. => recordRegs ++ [.FAB_DROP, .GRN_STAT, .KRF_STAT, .SCF_CNT_A, .SCF_ERR, .WIN_PEER_CAUSE, .WIN_PEER_FRZ]
  | .takeoverPass .. => recordRegs ++ [.SCF_CNT_A, .SCF_ERR]
  | .scarfContactLoss .. => recordRegs ++ [.SCF_CNT_A, .SCF_ERR]
  | .kerfGrant .. => [.ENG_GATE_STAT, .ENG_STAT, .KRF_CNT_A, .KRF_CNT_B, .KRF_ENG_STAT, .KRF_STAT]
  | .requestStarving .. => recordRegs ++ [.ENG_GATE_STAT, .KRF_CNT_A, .KRF_CNT_B, .KRF_ENG_STAT, .KRF_STAT]
  | .reorderUnit .. => [.ENG_GATE_STAT, .ENG_STAT, .KRF_CNT_A, .KRF_CNT_B, .KRF_ENG_STAT, .KRF_STAT]
  | .kerfHaloSend .. => []
  | .kerfHalo .. => recordRegs ++ [.ENG_GATE_STAT, .GRN_STAT, .KRF_CNT_A, .KRF_CNT_B, .KRF_ENG_STAT, .KRF_STAT, .SCF_CNT_A, .SCF_ERR,
    .WIN_PEER_CAUSE, .WIN_PEER_FRZ]
  | .grantArmed .. => [.ENG_GATE_STAT, .KRF_CNT_B, .KRF_ENG_STAT, .KRF_STAT]
  | .kerfPeerSilent .. => recordRegs ++ [.KRF_STAT]
  | .frozenClaimExpire .. => []
  | .meltPoolTick .. => recordRegs ++ [.ENG_GATE_PULSES, .ENG_GATE_SKIP, .ENG_GATE_STAT, .ENG_JCT, .ENG_STAT, .GRN_CNT, .GRN_LOST, .GRN_STAT,
    .MPL_CNT, .MPL_FF, .MPL_INT, .MPL_MEAS, .MPL_STAT]
  | .feedbackLost .. => recordRegs ++ [.MPL_STAT]
  | .intClr .. => [.MPL_INT, .WIN_FRZ_STAT]
  | .grnGeomWrite .. => [.GRN_GEOM, .GRN_ORIGIN_X, .GRN_ORIGIN_Y, .GRN_STAT, .WIN_FRZ_STAT]
  | .grainHaloSend .. => [.GRN_CNT, .GRN_HALO_CNT, .GRN_LOST, .GRN_STAT]
  | .grainHalo .. => recordRegs ++ [.GRN_CNT, .GRN_HALO_CNT, .GRN_LOST, .GRN_STAT, .KRF_STAT, .SCF_CNT_A, .SCF_ERR, .WIN_PEER_CAUSE, .WIN_PEER_FRZ]
  | .grainPeerSilent .. => [.GRN_STAT]
  | .grnSave .. => freezeRegs ++ completionRegs ++ [.GRN_CNT, .GRN_LOST, .GRN_STAT]
  | .grnLoad .. => completionRegs
  | .vnrFrame .. => completionRegs
  | .vnrAttach .. => recordRegs ++ [.MGT_STAT, .VDR_CNT, .VDR_PROBE, .VDR_STAT, .VDR_STRFAIL, .VNR_BW, .VNR_SLOT, .VNR_STAT]
  | .vnrDetach .. => completionRegs ++ [.VNR_BW, .VNR_STAT]
  | .veneerSlotStart .. => recordRegs ++ [.MGT_STAT, .VNR_BW, .VNR_CNT, .VNR_SIG, .VNR_SLOT, .VNR_STAT]
  | .veneerLinePeriod .. => [.VNR_CNT]
  | .frameSendDone .. => recordRegs ++ [.VNR_SIG, .VNR_STAT]
  | .lineBufferEccError .. => unitOutRegs
  | .tileStatus .. => recordRegs ++ [.VDR_CAP, .VDR_CNT, .VDR_LINK_ERR, .VDR_PROBE, .VDR_STAT, .VDR_STRFAIL, .VNR_SLOT, .VNR_STAT]
  | .tileLinkFault .. => recordRegs ++ [.MGT_STAT, .VDR_STAT, .VNR_BW, .VNR_STAT]
  | .tileAlarm .. => recordRegs ++ [.VDR_LINK_ERR, .VDR_STAT, .VDR_STRFAIL]
  | .tileVolt .. => recordRegs ++ [.VDR_CNT, .VDR_LINK_ERR, .VDR_STAT]
  | .probeSweep .. => [.VDR_CNT]
  | .probeResult .. => recordRegs ++ [.MGT_STAT, .VDR_LINK_ERR, .VDR_PROBE, .VDR_STAT, .VDR_STOP, .VNR_BW, .VNR_STAT]
  | .stopListClear .. => [.VDR_STAT, .VDR_STOP, .WIN_FRZ_STAT]
  | .veneerDeposit .. => [.GRN_CNT, .GRN_LOST, .GRN_STAT]
  | .axMove .. => completionRegs ++ [.AX_ACCEL, .AX_DECEL, .AX_JERK, .AX_STAT, .AX_VMAX]
  | .axHome .. => completionRegs ++ [.AX_ACCEL, .AX_DECEL, .AX_JERK, .AX_STAT, .AX_VMAX, .ENC_STAT]
  | .axStop .. => completionRegs
  | .axLimits .. => completionRegs
  | .axisMoveDone .. => completionRegs ++ [.AX_POS, .AX_STAT, .AX_VEL, .ENC_STAT]
  | .stall .. => recordRegs ++ [.AX_POS, .AX_STAT, .AX_VEL, .ENC_STAT, .MGT_STAT]
  | .coilFault .. => recordRegs ++ [.AX_ELEC, .AX_POS, .AX_STAT, .AX_VEL, .ENC_STAT, .MGT_STAT]
  | .homePressDone .. => [.AX_STAT]
  | .homeNoStop .. => []
  | .holdDelayExpire .. => []
  | .axisEnable .. => [.AX_CFG, .AX_STAT, .WIN_FRZ_STAT]
  | .axisDisable .. => completionRegs ++ [.AX_CFG, .AX_ELEC, .AX_POS, .AX_STAT, .AX_VEL, .ENC_STAT, .WIN_FRZ_STAT]
  | .encoderEdge .. => recordRegs ++ [.ENC_CMP_CNT, .ENC_CMP_TS_HI, .ENC_CMP_TS_LO, .ENC_CMP_VAL, .ENC_COUNT, .ENC_ERR_CNT, .ENC_STAT, .MGT_STAT]
  | .encCmpPulseEnd .. => []
  | .encoderIndex .. => recordRegs ++ [.ENC_CORR, .ENC_ERR_CNT, .ENC_IDX_ERR, .ENC_IDX_LATCH, .ENC_STAT]
  | .encoderStandstill .. => recordRegs ++ [.ENC_CORR, .ENC_COUNT, .ENC_STAT]
  | .followError .. => recordRegs ++ [.AX_POS, .AX_STAT, .AX_VEL, .ENC_STAT, .MGT_STAT]
  | .encCmp .. => completionRegs
  | .encCmpStop .. => completionRegs
  | .encSync .. => completionRegs
  | .encoderEnable .. => [.ENC_CFG, .WIN_FRZ_STAT]
  | .encoderDisable .. => completionRegs ++ [.ENC_CFG, .ENC_CORR, .ENC_STAT, .WIN_FRZ_STAT]
  | .camCapture .. => completionRegs ++ [.CAM_CTX_STAT]
  | .camReproc .. => completionRegs ++ [.CAM_PIPE_STAT]
  | .camTable .. => []
  | .camStop .. => completionRegs ++ [.CAM_CTX_STAT]
  | .camTrigger .. => eventRegs ++ completionRegs ++ [.CAM_CTX_STAT]
  | .csiFrameStart .. => recordRegs ++ freezeRegs ++ [.CAM_CTX_LAST, .CAM_CTX_STAT, .CAM_INLINE, .CAM_PIPE_STAT, .CAM_PORT_DROP, .CAM_PORT_ERR,
    .MGT_STAT]
  | .csiLine .. => [.CAM_PORT_DROP, .CAM_PORT_ERR]
  | .csiFrameEnd .. => recordRegs ++ freezeRegs ++ [.CAM_CTX_LAST, .CAM_CTX_STAT, .CAM_INLINE, .CAM_PIPE_STAT, .MGT_STAT]
  | .camFrameTimeout .. => recordRegs ++ freezeRegs ++ [.CAM_CTX_LAST, .CAM_CTX_STAT, .CAM_INLINE, .CAM_PIPE_STAT, .MGT_STAT]
  | .camPortReset .. => recordRegs ++ freezeRegs ++ [.CAM_CTX_LAST, .CAM_CTX_STAT, .CAM_INLINE, .CAM_PIPE_STAT, .MGT_LAST, .MGT_STAT, .MGT_UNIT]
  | .pipelineEntryStart .. => [.CAM_PIPE_STAT]
  | .pipelineFrameDone .. => recordRegs ++ freezeRegs ++ [.CAM_CTX_LAST, .CAM_CTX_STAT, .MGT_STAT]
  | .camInlineWrite .. => [.CAM_INLINE, .CAM_PIPE_STAT, .WIN_FRZ_STAT]
  | .ptpSync .. => recordRegs ++ [.TIM_OFFSET, .TIM_PTP_CNT, .TIM_STAT]
  | .ptpAnnounce .. => eventRegs ++ [.HIF_STAT, .TIM_PORT_DELAY, .TIM_PTP_CNT, .TIM_STAT]
  | .ptpPdelayReq .. => [.TIM_PTP_CNT]
  | .ptpPdelayResp .. => [.TIM_PORT_DELAY, .TIM_PTP_CNT]
  | .ptpSyncSend .. => []
  | .ptpAnnounceSend .. => []
  | .ptpPdelaySend .. => []
  | .ptpAnnounceTimeout .. => recordRegs ++ [.TIM_PORT_DELAY, .TIM_STAT]
  | .timPulse .. => completionRegs ++ [.TIM_PULSE_STAT]
  | .timCapture .. => completionRegs
  | .timSet .. => completionRegs
  | .timepulseRise .. => eventRegs ++ completionRegs ++ [.TIM_PULSE_STAT]
  | .timepulseFall .. => []
  | .timecaptureEdge .. => eventRegs ++ freezeRegs ++ completionRegs ++ [.TIM_CAP_STAT]
  | .fabricLaunch .. => [.FAB_DROP, .GRN_CNT, .GRN_LOST, .GRN_STAT]
  | .hello .. => recordRegs ++ [.FAB_PORT_STAT, .FAB_ROUTE, .FAB_STAT]
  | .helloSend .. => []
  | .neighbourLost .. => eventRegs ++ [.FAB_PORT_STAT, .FAB_ROUTE, .FAB_STAT, .HIF_STAT]
  | .blockLockLost .. => eventRegs ++ [.FAB_PORT_CNT, .FAB_PORT_STAT, .FAB_ROUTE, .FAB_STAT, .HIF_STAT]
  | .blockLockGained .. => [.FAB_PORT_STAT]
  | .route .. => [.FAB_ROUTE, .FAB_STAT]
  | .routeSend .. => []
  | .joinEnable .. => recordRegs ++ freezeRegs ++ [.AX_STAT, .CAM_CTX_STAT, .CAM_PIPE_STAT, .ENC_STAT, .ENG_FIFO, .ENG_GATE_PULSES, .ENG_GATE_SKIP,
    .ENG_GATE_STAT, .ENG_STAT, .FAB_CFG, .FAB_PORT_STAT, .FAB_ROUTE, .FAB_STAT, .KRF_CNT_B, .KRF_ENG_STAT, .KRF_STAT, .SCF_ERR, .TIM_PULSE_STAT,
    .VNR_BW, .VNR_STAT]
  | .claimDone .. => recordRegs ++ [.FAB_PORT_STAT, .FAB_ROUTE, .FAB_STAT]
  | .broadcastRepeat .. => []
  | .join .. => recordRegs ++ [.FAB_DROP, .FAB_PORT_STAT, .FAB_ROUTE, .FAB_STAT, .SYS_BARRIER_STAT]
  | .leave .. => recordRegs ++ [.FAB_DROP, .FAB_ROUTE, .GRN_STAT, .KRF_STAT, .MGT_STAT, .SYS_BARRIER_STAT, .SYS_LAYER_STAT, .TIM_STAT]
  | .fabForward .. => [.FAB_DROP, .FAB_PORT_CNT]
  | .fabWrite .. => completionRegs
  | .bulkWrite .. => recordRegs ++ [.GRN_STAT, .KRF_STAT, .SCF_CNT_A, .SCF_ERR, .WIN_PEER_CAUSE, .WIN_PEER_FRZ]
  | .bulkAck .. => completionRegs
  | .bulkResendTimeout .. => completionRegs
  | .fabLeave .. => completionRegs ++ [.FAB_CFG, .FAB_PORT_STAT, .FAB_STAT]
  | .leaveDone .. => completionRegs ++ [.FAB_CFG, .FAB_PORT_STAT, .FAB_ROUTE, .FAB_STAT]
  | .fabEvict .. => recordRegs ++ [.FAB_ROUTE, .GRN_STAT, .KRF_STAT, .MGT_STAT, .SYS_BARRIER_STAT, .SYS_LAYER_STAT, .TIM_STAT]
  | .fenceInAssert .. => completionRegs ++ [.AX_ELEC, .AX_POS, .AX_STAT, .AX_VEL, .CAM_CTX_STAT, .CAM_PIPE_STAT, .ENC_STAT, .ENG_FIFO,
    .ENG_GATE_PULSES, .ENG_GATE_STAT, .HNG_STAT, .KRF_CNT_B, .KRF_ENG_STAT, .KRF_STAT]
  | .fenceInRelease .. => [.HNG_STAT]
  | .hingeStartupTimeout .. => [.HNG_STAT]
  | .mirrorCapture .. => [.GRN_CNT, .GRN_LOST, .GRN_STAT, .HNG_CNT]
  | .heartbeatSend .. => []
  | .mirror .. => recordRegs ++ [.AX_ELEC, .AX_POS, .AX_STAT, .AX_VEL, .ENC_STAT, .ENG_FIFO, .ENG_GATE_PULSES, .ENG_GATE_STAT, .ENG_JCT,
    .ENG_LIMITS, .ENG_MARK, .ENG_PLAN_CTL, .ENG_REC_SEQ, .ENG_STAT, .ENG_VEL, .FAB_DROP, .HNG_STAT, .KRF_CNT_B, .KRF_ENG_STAT, .KRF_STAT,
    .MGT_STAT, .MPL_INT, .SCF_CNT_A, .SCF_ERR, .WIN_MOVER_STAT]
  | .heartbeat .. => recordRegs ++ [.AX_ELEC, .AX_POS, .AX_STAT, .AX_VEL, .ENC_STAT, .ENG_GATE_PULSES, .ENG_GATE_STAT, .HNG_STAT, .KRF_CNT_B,
    .KRF_ENG_STAT, .KRF_STAT, .MGT_STAT]
  | .hingePathLost .. => recordRegs ++ [.HNG_STAT]
  | .switchoverOwnRaise .. => recordRegs ++ [.AX_STAT, .ENG_GATE_PULSES, .ENG_GATE_STAT, .ENG_REC_SEQ, .ENG_STAT, .HNG_CNT, .HNG_STAT, .KRF_CNT_B,
    .KRF_ENG_STAT, .KRF_STAT, .MGT_STAT, .SYS_BARRIER_STAT, .SYS_LAYER_STAT, .TIM_STAT]
  | .takeover .. => [.GRN_PEER, .KRF_PEER]
  | .healthReport .. => recordRegs ++ [.HNG_HEALTH, .HNG_STAT]
  | .health .. => [.HNG_PEER_HEALTH]
  | .standbyBistDone .. => unitOutRegs ++ [.CAL_ADC_CELL, .CAL_ADC_REF, .CAL_GATE_LAT, .CAL_TAP_MAP, .CAL_TAP_REF, .ENG_GATE_LAT, .ENG_LAG_X,
    .ENG_LAG_Y, .ENG_LAG_Z, .HNG_HEALTH]
  | .snapshot .. => [.AX_STAT, .ENC_COUNT, .ENC_STAT, .MPL_INT, .VDR_STAT, .VDR_STOP]
  | .grainCopy .. => [.HNG_STAT]
  | .hngHandover .. => completionRegs ++ [.AX_ELEC, .AX_POS, .AX_STAT, .AX_VEL, .ENC_STAT, .ENG_GATE_PULSES, .ENG_GATE_STAT, .HNG_STAT, .KRF_CNT_B,
    .KRF_ENG_STAT, .KRF_STAT]
  | .hngRelease .. => completionRegs
  | .vectorEntry .. => recordRegs ++ freezeRegs ++ [.AX_STAT, .CAM_CTX_STAT, .CAM_PIPE_STAT, .ENC_STAT, .ENG_FIFO, .ENG_GATE_PULSES,
    .ENG_GATE_SKIP, .ENG_GATE_STAT, .ENG_STAT, .KRF_CNT_B, .KRF_ENG_STAT, .KRF_STAT, .SCF_ERR, .TIM_PULSE_STAT, .VNR_BW, .VNR_STAT]
  | .moderationExpire .. => [.INT_VEC_STAT]
  | .intHoldWrite .. => [.INT_CTL, .WIN_FRZ_STAT]
  | .msixUnmask .. => [.WIN_FRZ_STAT]
  | .evqEnable .. => [.INT_EVQ_CFG, .INT_STAT, .SYS_IGN_WR, .WIN_FRZ_STAT]
  | .irqEvent .. => recordRegs ++ [.GRN_STAT, .KRF_STAT, .SCF_CNT_A, .SCF_ERR, .WIN_PEER_CAUSE, .WIN_PEER_FRZ]
  | .logRecordWrite .. => recordRegs ++ [.MGT_STAT, .REC_BAD_HI, .REC_BAD_LO]
  | .opsecSave .. => []
  | .logScanDone .. => recordRegs ++ [.REC_BAD_HI, .REC_BAD_LO]
  | .peerLog .. => recordRegs ++ [.GRN_STAT, .KRF_STAT, .REC_BAD_HI, .REC_BAD_LO, .REC_PEER_CNT, .SCF_CNT_A, .SCF_ERR, .WIN_PEER_CAUSE,
    .WIN_PEER_FRZ]
  | .recRead .. => freezeRegs ++ completionRegs
  | .recClear .. => recordRegs ++ [.MGT_STAT, .REC_BAD_HI, .REC_BAD_LO]
  | .dramRequest .. => []
  | .dramRequestServed .. => recordRegs ++ [.DRM_ECC, .DRM_ECC_ADDR]
  | .refreshRateRead .. => recordRegs ++ [.DRM_STAT]
  | .dramRefresh .. => [.DRM_STAT]
  | .patrolScrub .. => recordRegs ++ [.DRM_ECC, .DRM_ECC_ADDR]
  | .dramRetrainDone .. => recordRegs ++ [.DRM_STAT, .ENG_STAT, .MGT_STAT, .MGT_UNIT, .MPL_SLICE_STAT, .SYS_ISL_STAT, .SYS_LAYER_STAT,
    .WIN_MOVER_STAT]
  | .dramCmdTimeout .. => unitOutRegs
  | .thermalSample .. => recordRegs ++ [.AX_ELEC, .AX_POS, .AX_STAT, .AX_VEL, .CAL_SENSOR, .CAL_STAT, .ENC_STAT, .ENG_FIFO, .ENG_GATE_PULSES,
    .ENG_GATE_SKIP, .ENG_GATE_STAT, .ENG_STAT, .HNG_HEALTH, .HNG_STAT, .KRF_CNT_B, .KRF_ENG_STAT, .KRF_STAT, .MGT_STAT, .SCF_ERR, .SYS_ISL_STAT,
    .THM_CNT, .THM_STAT, .THM_TEMP, .VNR_STAT]
  | .governorStep .. => recordRegs ++ [.AX_STAT, .CAM_PIPE_STAT, .THM_GOV, .VDR_STAT]
  | .thermalGraceExpire .. => recordRegs ++ [.THM_CNT, .THM_STAT]
  | .thmRelease .. => recordRegs ++ [.MGT_STAT, .THM_STAT]
  | .calRun .. => recordRegs ++ [.CAL_STAT, .DRM_STAT, .ENG_STAT, .FAB_DROP, .MGT_STAT, .MGT_UNIT, .MPL_SLICE_STAT, .SCF_CNT_A, .SCF_ERR,
    .SYS_ISL_STAT, .WIN_MOVER_STAT]
  | .calSave .. => freezeRegs ++ completionRegs
  | .calLoad .. => completionRegs ++ [.CAL_ADC_CELL, .CAL_ADC_REF, .CAL_CFG, .CAL_DOWEL, .CAL_GATE_LAT, .CAL_SENSOR, .CAL_TAP_MAP, .CAL_TAP_REF]
  | .coverCopyDone .. => [.CAL_STAT, .ENG_GATE_ADV_OFF, .ENG_GATE_ADV_ON, .ENG_GATE_CTL, .ENG_LAG_X, .ENG_LAG_Y, .ENG_LAG_Z, .ENG_LIMITS,
    .ENG_LINK_CFG, .ENG_PARK_X, .ENG_PARK_Y, .ENG_PLAN_CTL, .ENG_PULSE_FIRST, .ENG_PULSE_PER, .ENG_PULSE_SPC, .ENG_PULSE_W, .ENG_PWR_LEAD,
    .ENG_VEL, .GRN_LOOK, .GRN_SCALE, .MPL_CFG, .MPL_FB_LIM, .MPL_FS, .MPL_GAIN, .MPL_PD, .MPL_PD_LIM, .MPL_PWR_LIM, .MPL_TARGET, .SCF_ZONE_CFG,
    .SCF_ZONE_GEOM, .SCF_ZONE_PART, .SCF_ZONE_REF_X, .SCF_ZONE_REF_Y, .SCF_ZONE_SEED, .SCF_ZONE_TIME]
  | .coverBegin .. => recordRegs ++ [.CAL_STAT, .DRM_STAT, .ENG_FIFO, .ENG_GATE_STAT, .ENG_STAT, .FAB_DROP, .KRF_CNT_B, .KRF_ENG_STAT, .KRF_STAT,
    .MGT_UNIT, .MPL_INT, .MPL_SLICE, .MPL_SLICE_STAT, .MPL_STAT, .SCF_CNT_A, .SCF_ERR, .SYS_ISL_STAT, .WIN_MOVER_STAT]
  | .calibrationDone .. => unitOutRegs ++ [.CAL_ADC_CELL, .CAL_ADC_REF, .CAL_GATE_LAT, .CAL_TAP_MAP, .CAL_TAP_REF, .ENG_GATE_LAT, .ENG_LAG_X,
    .ENG_LAG_Y, .ENG_LAG_Z]
  | .coverEnd .. => recordRegs ++ [.CAL_STAT, .DRM_STAT, .ENG_FIFO, .ENG_GATE_STAT, .ENG_STAT, .FAB_DROP, .KRF_CNT_B, .KRF_ENG_STAT, .KRF_STAT,
    .MGT_STAT, .MGT_UNIT, .MPL_INT, .MPL_SLICE, .MPL_SLICE_STAT, .MPL_STAT, .SCF_CNT_A, .SCF_ERR, .SYS_ISL_STAT, .WIN_MOVER_STAT]
  | .powerOnReset .. => []
  | .pinReset .. => []
  | .perstAssert .. => eventRegs ++ completionRegs ++ [.DRM_STAT, .ENG_STAT, .HIF_CQ_BASE_HI, .HIF_CQ_BASE_LO, .HIF_CQ_CFG, .HIF_DB_BASE_HI,
    .HIF_DB_BASE_LO, .HIF_POLL_CFG, .HIF_SQ_BASE_HI, .HIF_SQ_BASE_LO, .HIF_SQ_CFG, .INT_CTL, .INT_EVQ_BASE_HI, .INT_EVQ_BASE_LO, .INT_EVQ_CFG,
    .INT_PEER, .INT_SRC_CFG, .INT_STAT, .INT_VEC_CFG, .MGT_UNIT, .MPL_SLICE_STAT, .SYS_ISL_STAT, .WIN_MOVER_STAT]
  | .functionLevelReset .. => recordRegs ++ freezeRegs ++ [.AX_STAT, .CAM_CTX_STAT, .CAM_PIPE_STAT, .ENC_STAT, .ENG_FIFO, .ENG_GATE_PULSES,
    .ENG_GATE_SKIP, .ENG_GATE_STAT, .ENG_STAT, .HIF_CQ_BASE_HI, .HIF_CQ_BASE_LO, .HIF_CQ_CFG, .HIF_DB_BASE_HI, .HIF_DB_BASE_LO, .HIF_POLL_CFG,
    .HIF_SQ_BASE_HI, .HIF_SQ_BASE_LO, .HIF_SQ_CFG, .INT_CTL, .INT_EVQ_BASE_HI, .INT_EVQ_BASE_LO, .INT_EVQ_CFG, .INT_PEER, .INT_SRC_CFG,
    .INT_VEC_CFG, .KRF_CNT_B, .KRF_ENG_STAT, .KRF_STAT, .MGT_STAT, .SCF_ERR, .TIM_PULSE_STAT, .VNR_BW, .VNR_STAT]
  | .unitFault .. => unitOutRegs
  | .unitSelfTestDone .. => recordRegs ++ [.AX_STAT, .CAL_STAT, .DRM_STAT, .ENG_STAT, .FAB_DROP, .GRN_LOST, .GRN_STAT, .MGT_STAT, .MGT_UNIT,
    .MPL_SLICE_STAT, .MPL_STAT, .SCF_CNT_A, .SCF_ERR, .SYS_ISL_STAT, .VNR_SLOT, .WIN_MOVER_STAT]
  | .fetchTimeout .. => unitOutRegs
  | .engineProgressTimeout .. => unitOutRegs
  | .veneerDeadlineTimeout .. => unitOutRegs
  | .pcieCompletionTimeout .. => completionRegs ++ [.WIN_MOVER_STAT]
  | .mgmtWatchdogExpire .. => unitOutRegs
  | .read .. => [.ENC_IDX_ERR, .SYS_ISL_TOFS]
  | .writeBootcfg .. => []
  | .releaseF0 .. => recordRegs ++ [.HIF_CQ_CFG, .HIF_SQ_CFG, .INT_EVQ_CFG, .WIN_FRZ_STAT]
  | .clearFatal .. => [.REC_BAD_HI, .REC_BAD_LO, .REC_STAT]
  | .deviceReset .. => []
  | .slotWrite .. => [.MGT_FW]
  | .slotSelect .. => [.MGT_FW, .MGT_STAT]
  | .mgtFwUpdate .. => completionRegs ++ [.MGT_FW]
  | .fwUpdateDone .. => recordRegs ++ [.MGT_FW, .MGT_STAT]
  | .mgtFwSelect .. => completionRegs ++ [.MGT_FW]
  | .mgtUnit .. => recordRegs ++ freezeRegs ++ [.AX_ELEC, .AX_POS, .AX_STAT, .AX_VEL, .CAL_STAT, .CAM_CTX_LAST, .CAM_CTX_STAT, .CAM_PIPE_STAT,
    .DRM_STAT, .ENC_STAT, .ENG_FIFO, .ENG_GATE_PULSES, .ENG_GATE_STAT, .ENG_STAT, .FAB_DROP, .GRN_LOST, .GRN_STAT, .KRF_CNT_B, .KRF_ENG_STAT,
    .KRF_STAT, .MGT_STAT, .MGT_UNIT, .MPL_INT, .MPL_SLICE, .MPL_SLICE_STAT, .MPL_STAT, .SCF_CNT_A, .SCF_ERR, .SYS_ISL_STAT, .VNR_SLOT,
    .VNR_STAT, .WIN_MOVER_STAT]
  | .railUndervolt .. => []
  | .refclkAbsent .. => []
  | .refclkReturn .. => [.DRM_STAT, .ENG_STAT, .MGT_UNIT, .MPL_SLICE_STAT, .SYS_ISL_STAT, .WIN_MOVER_STAT]
  | .resetRelease .. => []
  | .perstRelease .. => []
  | .axisTick .. => completionRegs ++ [.AX_ACCEL, .AX_DECEL, .AX_JERK, .AX_POS, .AX_STAT, .AX_VEL, .AX_VMAX, .ENC_CMP_CNT, .ENC_CMP_VAL, .ENC_DEV,
    .ENC_STAT]
  | .coilLoopPeriod .. => [.AX_ELEC]
  | .attachLinkTimeout .. => completionRegs ++ [.VNR_BW, .VNR_STAT]
  | .routeAgeOut .. => [.FAB_ROUTE, .FAB_STAT]

/-- The parts that each command can change. -/
def Instr.moves : Instr → List Part
  | .registerWrite .. => recordParts ++ completionParts ++ [.force, .movers, .vecs, .islands, .sensors, .cal, .pins, .engines, .kerf, .grain,
    .tiles, .axes, .encs, .pulses, .capts, .time, .cams, .camPorts, .pipe, .fabric, .hinge]
  | .sysLockSet .. => []
  | .sysIslTofsRead .. => [.mgmt]
  | .timNowNsRead .. => [.mgmt]
  | .encIdxErrRead .. => [.mgmt]
  | .sysIslCfgWrite .. => [.islands]
  | .islandRelockDone .. => eventParts ++ completionParts ++ [.movers, .islands]
  | .dowelPulse .. => unitOutParts ++ [.free, .pulses, .capts, .time]
  | .holdoverEntry .. => []
  | .bridgeErr .. => unitOutParts
  | .safeStopAssert .. => recordParts ++ completionParts ++ [.pins, .engines, .kerf, .tiles, .axes]
  | .safeStopEnd .. => [.pins]
  | .gasOkLow .. => [.pins]
  | .gasOkHigh .. => [.pins]
  | .layerOpen .. => recordParts ++ completionParts ++ [.force, .movers, .islands, .dramCh, .cal, .engines, .links, .kerf, .grain, .tiles, .encs,
    .fabric, .hinge]
  | .epochSweepDone .. => recordParts ++ completionParts ++ [.movers, .islands, .grain]
  | .layerMark .. => recordParts ++ completionParts ++ [.movers, .islands, .cal, .engines, .kerf, .tiles]
  | .phaseEnd .. => recordParts ++ completionParts ++ [.engines, .time, .cams]
  | .exposeStart .. => eventParts ++ [.hinge]
  | .layerClose .. => completionParts
  | .layerResume .. => eventParts ++ completionParts ++ [.engines, .tiles]
  | .barrierReady .. => recordParts ++ completionParts ++ [.engines, .kerf, .time]
  | .barrierRelease .. => eventParts ++ completionParts ++ [.time]
  | .barrierWaitReminder .. => recordParts ++ [.layer]
  | .midLayerRebase .. => recordParts ++ [.layer]
  | .rebaseSweepStart .. => [.layer, .grain, .hinge]
  | .sqEnable .. => [.hostFns, .movers]
  | .sqDisable .. => [.hostFns, .movers]
  | .cqEnable .. => [.hostFns]
  | .cqDisable .. => [.hostFns]
  | .dbBaseWrite .. => []
  | .pollEnable .. => [.hostFns]
  | .doorbellPoll .. => recordParts ++ [.host, .hostFns, .layer, .pcie, .engines, .kerf, .tiles, .axes, .encs, .pulses, .capts, .cams, .camPorts,
    .pipe]
  | .pollSnapshot .. => recordParts ++ [.hostFns, .vecs, .layer, .engines, .kerf, .tiles, .axes, .encs, .pulses, .capts, .cams, .camPorts, .pipe]
  | .pollFailTimeout .. => unitOutParts
  | .descriptorFetch .. => recordParts ++ completionParts ++ [.nextJob, .engines, .kerf, .tiles, .axes, .encs, .pulses, .capts, .cams, .camPorts,
    .pipe]
  | .slotsStaged .. => recordParts ++ completionParts ++ [.host, .nextJob, .movers, .pcie, .engines, .kerf, .tiles, .axes, .encs, .pulses, .capts,
    .cams, .camPorts, .pipe]
  | .payloadStaged .. => [.jobs, .movers]
  | .descriptorDispatch .. => completionParts
  | .descriptorTake .. => completionParts
  | .completionWrite .. => recordParts ++ [.host, .hostFns, .layer, .pcie, .engines, .kerf, .tiles, .axes, .encs, .pulses, .capts, .cams,
    .camPorts, .pipe]
  | .busMasterDisable .. => [.hostFns]
  | .busMasterEnable .. => [.host, .hostFns, .movers, .islands, .layer, .pcie]
  | .vfDisable .. => recordParts ++ [.hostFns, .layer, .pcie, .engines, .kerf, .tiles, .axes, .encs, .pulses, .capts, .cams, .camPorts, .pipe]
  | .winOwnWrite .. => recordParts ++ [.hostFns, .layer, .engines, .kerf, .tiles, .axes, .encs, .pulses, .capts, .cams, .camPorts, .pipe]
  | .winCfgWrite .. => recordParts ++ [.hostFns, .layer, .engines, .kerf, .tiles, .axes, .encs, .pulses, .capts, .cams, .camPorts, .pipe]
  | .winStageWrite .. => recordParts ++ [.hostFns, .layer, .engines, .kerf, .tiles, .axes, .encs, .pulses, .capts, .cams, .camPorts, .pipe]
  | .moverStart .. => recordParts ++ completionParts ++ [.movers, .engines, .kerf, .tiles, .axes, .encs, .pulses, .capts, .cams, .camPorts, .pipe]
  | .fifoRefillDone .. => [.jobs, .engines]
  | .freezeGateTimeout .. => recordParts ++ [.hostFns, .layer, .engines, .kerf, .tiles, .axes, .encs, .pulses, .capts, .cams, .camPorts, .pipe]
  | .freezeSafe .. => recordParts ++ completionParts ++ [.force, .vecs, .engines, .kerf, .tiles, .axes, .encs, .pulses, .capts, .cams, .camPorts,
    .pipe]
  | .unfreezeFunction .. => [.hostFns, .vecs]
  | .unfreezePeer .. => []
  | .vecBlock .. => completionParts ++ [.engines]
  | .vecInline .. => completionParts ++ [.engines]
  | .engPark .. => completionParts ++ [.force, .cal, .engines]
  | .engLimits .. => completionParts ++ [.engines]
  | .recordEnterLookahead .. => recordParts ++ completionParts ++ [.force, .cal, .engines]
  | .kerfRequest .. => recordParts ++ [.engines, .kerf]
  | .recordStart .. => eventParts ++ completionParts ++ [.force, .cal, .engines]
  | .recordEnd .. => recordParts ++ completionParts ++ [.force, .cal, .engines, .links, .kerf]
  | .parkDone .. => completionParts ++ [.force, .cal, .engines]
  | .setpointFrame .. => [.force, .cal, .engines, .links]
  | .returnFrame .. => recordParts ++ completionParts ++ [.engines, .links, .kerf]
  | .linkUpTimeout .. => recordParts ++ completionParts ++ [.engines, .links, .kerf]
  | .linkLossFault .. => recordParts ++ completionParts ++ [.engines, .links, .kerf]
  | .gateCompareHit .. => recordParts ++ [.force, .engines]
  | .gateMonFault .. => recordParts ++ completionParts ++ [.engines, .links, .kerf]
  | .corLoad .. => completionParts ++ [.engines]
  | .corLoadDone .. => recordParts ++ completionParts ++ [.force, .movers, .islands, .cal, .engines, .kerf]
  | .corSwap .. => completionParts ++ [.engines]
  | .corBankSwap .. => recordParts ++ completionParts ++ [.force, .movers, .islands, .cal, .engines, .kerf]
  | .corSave .. => completionParts ++ [.host, .pcie]
  | .corEccError .. => unitOutParts ++ [.force]
  | .scarfYield .. => recordParts ++ [.engines, .kerf]
  | .scarfNotice .. => recordParts ++ [.engines, .kerf]
  | .takeoverPass .. => recordParts ++ [.engines]
  | .scarfContactLoss .. => recordParts ++ [.engines, .kerf]
  | .kerfGrant .. => [.fabOut, .fabSeq, .kerf]
  | .requestStarving .. => recordParts ++ [.kerf]
  | .reorderUnit .. => [.fabOut, .fabSeq, .engines, .kerf]
  | .kerfHaloSend .. => [.fabOut, .fabSeq]
  | .kerfHalo .. => recordParts ++ [.engines, .kerf]
  | .grantArmed .. => [.kerf]
  | .kerfPeerSilent .. => recordParts
  | .frozenClaimExpire .. => [.kerf]
  | .meltPoolTick .. => recordParts ++ [.force, .free, .engines, .grain, .hinge]
  | .feedbackLost .. => recordParts ++ [.engines]
  | .intClr .. => []
  | .grnGeomWrite .. => [.grain]
  | .grainHaloSend .. => [.fabOut, .fabSeq, .grain, .hinge]
  | .grainHalo .. => recordParts ++ [.engines, .kerf, .grain, .hinge]
  | .grainPeerSilent .. => []
  | .grnSave .. => completionParts ++ [.host, .pcie, .grain, .hinge]
  | .grnLoad .. => completionParts ++ [.grain, .hinge]
  | .vnrFrame .. => completionParts ++ [.tiles]
  | .vnrAttach .. => recordParts ++ completionParts ++ [.tiles]
  | .vnrDetach .. => completionParts ++ [.tiles]
  | .veneerSlotStart .. => recordParts ++ completionParts ++ [.tiles]
  | .veneerLinePeriod .. => [.tiles]
  | .frameSendDone .. => recordParts ++ [.tiles]
  | .lineBufferEccError .. => unitOutParts
  | .tileStatus .. => recordParts ++ [.tiles]
  | .tileLinkFault .. => recordParts ++ completionParts ++ [.tiles]
  | .tileAlarm .. => recordParts ++ [.tiles]
  | .tileVolt .. => recordParts ++ [.tiles]
  | .probeSweep .. => [.force, .tiles]
  | .probeResult .. => recordParts ++ completionParts ++ [.tiles]
  | .stopListClear .. => [.force]
  | .veneerDeposit .. => [.engines, .grain, .tiles, .hinge]
  | .axMove .. => completionParts ++ [.axes]
  | .axHome .. => completionParts ++ [.axes]
  | .axStop .. => completionParts ++ [.axes]
  | .axLimits .. => completionParts ++ [.axes]
  | .axisMoveDone .. => completionParts ++ [.axes, .encs]
  | .stall .. => recordParts ++ completionParts ++ [.axes]
  | .coilFault .. => recordParts ++ completionParts ++ [.axes]
  | .homePressDone .. => [.axes]
  | .homeNoStop .. => [.axes]
  | .holdDelayExpire .. => [.axes]
  | .axisEnable .. => [.axes]
  | .axisDisable .. => completionParts ++ [.axes]
  | .encoderEdge .. => recordParts ++ completionParts ++ [.encs]
  | .encCmpPulseEnd .. => [.encs]
  | .encoderIndex .. => recordParts ++ [.encs]
  | .encoderStandstill .. => recordParts ++ [.encs]
  | .followError .. => recordParts ++ completionParts ++ [.axes, .encs]
  | .encCmp .. => completionParts ++ [.axes]
  | .encCmpStop .. => completionParts ++ [.axes]
  | .encSync .. => completionParts ++ [.axes]
  | .encoderEnable .. => [.encs]
  | .encoderDisable .. => completionParts ++ [.axes, .encs]
  | .camCapture .. => completionParts ++ [.cams]
  | .camReproc .. => completionParts ++ [.pipe]
  | .camTable .. => [.jobs, .cams]
  | .camStop .. => completionParts ++ [.cams]
  | .camTrigger .. => eventParts ++ completionParts ++ [.pulses, .cams]
  | .csiFrameStart .. => recordParts ++ completionParts ++ [.force, .host, .dram, .pcie, .cams, .camPorts, .pipe]
  | .csiLine .. => [.dram, .camPorts]
  | .csiFrameEnd .. => recordParts ++ completionParts ++ [.force, .host, .dram, .pcie, .cams, .camPorts, .pipe]
  | .camFrameTimeout .. => recordParts ++ completionParts ++ [.force, .host, .dram, .pcie, .cams, .camPorts, .pipe]
  | .camPortReset .. => recordParts ++ completionParts ++ [.force, .host, .dram, .pcie, .cams, .camPorts, .pipe]
  | .pipelineEntryStart .. => [.pipe]
  | .pipelineFrameDone .. => recordParts ++ completionParts ++ [.host, .dram, .pcie, .cams, .pipe]
  | .camInlineWrite .. => [.force, .pipe]
  | .ptpSync .. => recordParts ++ [.free, .kerf, .time]
  | .ptpAnnounce .. => eventParts ++ [.kerf, .time]
  | .ptpPdelayReq .. => [.free, .kerf, .time]
  | .ptpPdelayResp .. => [.kerf, .time]
  | .ptpSyncSend .. => [.time]
  | .ptpAnnounceSend .. => [.time]
  | .ptpPdelaySend .. => [.time]
  | .ptpAnnounceTimeout .. => recordParts ++ [.time]
  | .timPulse .. => completionParts ++ [.pulses]
  | .timCapture .. => completionParts ++ [.capts]
  | .timSet .. => completionParts ++ [.time]
  | .timepulseRise .. => eventParts ++ completionParts ++ [.pulses]
  | .timepulseFall .. => [.pulses]
  | .timecaptureEdge .. => eventParts ++ completionParts ++ [.host, .pcie, .capts]
  | .fabricLaunch .. => [.fabOut, .fabSeq, .grain, .fabric, .hinge]
  | .hello .. => recordParts ++ [.pins, .kerf, .fabric]
  | .helloSend .. => [.fabOut, .fabSeq, .fabric]
  | .neighbourLost .. => eventParts ++ [.fabric]
  | .blockLockLost .. => eventParts ++ [.force, .pins, .fabric]
  | .blockLockGained .. => [.force, .pins, .fabric]
  | .route .. => [.kerf, .fabric]
  | .routeSend .. => [.fabOut, .fabSeq, .fabric]
  | .joinEnable .. => recordParts ++ [.hostFns, .layer, .pins, .engines, .kerf, .tiles, .axes, .encs, .pulses, .capts, .cams, .camPorts, .pipe,
    .fabric]
  | .claimDone .. => recordParts ++ [.pins, .fabric]
  | .broadcastRepeat .. => [.fabOut, .fabSeq, .fabric]
  | .join .. => recordParts ++ [.pins, .kerf, .fabric]
  | .leave .. => recordParts ++ completionParts ++ [.kerf, .time, .fabric]
  | .fabForward .. => [.fabOut, .kerf, .fabric]
  | .fabWrite .. => completionParts ++ [.fabOut, .fabSeq, .fabric]
  | .bulkWrite .. => recordParts ++ [.dram, .engines, .kerf, .fabric]
  | .bulkAck .. => completionParts ++ [.fabOut, .kerf, .fabric]
  | .bulkResendTimeout .. => completionParts ++ [.fabOut, .fabric]
  | .fabLeave .. => completionParts ++ [.pins, .fabOut, .fabSeq, .fabric]
  | .leaveDone .. => completionParts ++ [.pins, .fabOut, .fabric]
  | .fabEvict .. => recordParts ++ completionParts ++ [.kerf, .time, .fabric]
  | .fenceInAssert .. => completionParts ++ [.pins, .fabOut, .fabSeq, .engines, .kerf, .tiles, .axes, .encs, .cams, .camPorts, .pipe, .hinge]
  | .fenceInRelease .. => [.pins, .hinge]
  | .hingeStartupTimeout .. => [.pins]
  | .mirrorCapture .. => [.fabOut, .fabSeq, .grain, .hinge]
  | .heartbeatSend .. => [.fabOut, .fabSeq]
  | .mirror .. => recordParts ++ completionParts ++ [.force, .cal, .pins, .engines, .links, .kerf, .tiles, .axes, .encs, .hinge]
  | .heartbeat .. => recordParts ++ completionParts ++ [.cal, .pins, .engines, .kerf, .tiles, .axes, .encs, .hinge]
  | .hingePathLost .. => recordParts ++ [.cal, .pins, .hinge]
  | .switchoverOwnRaise .. => recordParts ++ completionParts ++ [.pins, .engines, .kerf, .tiles, .axes, .time, .hinge]
  | .takeover .. => [.layer, .kerf]
  | .healthReport .. => recordParts ++ [.cal, .pins, .hinge]
  | .health .. => [.kerf]
  | .standbyBistDone .. => unitOutParts ++ [.links]
  | .snapshot .. => [.force, .engines, .kerf, .tiles, .encs, .hinge]
  | .grainCopy .. => [.kerf, .grain, .hinge]
  | .hngHandover .. => completionParts ++ [.pins, .fabOut, .fabSeq, .engines, .kerf, .tiles, .axes, .encs, .hinge]
  | .hngRelease .. => completionParts ++ [.pins]
  | .vectorEntry .. => recordParts ++ [.host, .hostFns, .vecs, .layer, .pcie, .engines, .kerf, .tiles, .axes, .encs, .pulses, .capts, .cams,
    .camPorts, .pipe]
  | .moderationExpire .. => []
  | .intHoldWrite .. => []
  | .msixUnmask .. => [.vecs, .fnMasked]
  | .evqEnable .. => [.hostFns]
  | .irqEvent .. => recordParts ++ [.engines, .kerf]
  | .logRecordWrite .. => recordParts ++ completionParts ++ [.free, .mram]
  | .opsecSave .. => [.mram, .recorder]
  | .logScanDone .. => recordParts ++ [.free, .mram]
  | .peerLog .. => recordParts ++ [.mram, .engines, .kerf]
  | .recRead .. => completionParts ++ [.host, .pcie]
  | .recClear .. => recordParts ++ completionParts ++ [.mram]
  | .dramRequest .. => [.dramCh]
  | .dramRequestServed .. => recordParts ++ [.dram, .dramCh]
  | .refreshRateRead .. => recordParts ++ [.dramCh]
  | .dramRefresh .. => [.dramCh]
  | .patrolScrub .. => recordParts ++ [.dramCh]
  | .dramRetrainDone .. => recordParts ++ completionParts ++ [.movers, .islands, .dramCh]
  | .dramCmdTimeout .. => unitOutParts
  | .thermalSample .. => recordParts ++ completionParts ++ [.sensors, .therm, .cal, .pins, .engines, .kerf, .tiles, .axes, .encs, .hinge]
  | .governorStep .. => recordParts ++ [.therm]
  | .thermalGraceExpire .. => recordParts
  | .thmRelease .. => recordParts ++ completionParts
  | .calRun .. => recordParts ++ completionParts ++ [.movers, .islands, .cal, .engines, .kerf]
  | .calSave .. => completionParts ++ [.host, .pcie]
  | .calLoad .. => completionParts ++ [.cal]
  | .coverCopyDone .. => [.force, .cal, .engines]
  | .coverBegin .. => recordParts ++ [.hostFns, .movers, .islands, .cal, .engines, .kerf]
  | .calibrationDone .. => unitOutParts ++ [.links]
  | .coverEnd .. => recordParts ++ completionParts ++ [.movers, .islands, .cal, .engines, .kerf]
  | .powerOnReset .. => unitOutParts ++ [.force, .free, .flash, .mram, .nextJob, .vecs, .fnMasked, .dramCh, .sensors, .therm, .mgmt, .links,
    .grain, .pulses, .capts, .time, .fabric]
  | .pinReset .. => unitOutParts ++ [.force, .free, .flash, .mram, .nextJob, .vecs, .fnMasked, .dramCh, .sensors, .therm, .mgmt, .links, .grain,
    .pulses, .capts, .time, .fabric]
  | .perstAssert .. => [.force, .jobs, .hostFns, .movers, .srcs, .vecs, .fnMasked, .recorder, .islands, .pcie]
  | .functionLevelReset .. => recordParts ++ completionParts ++ [.force, .vecs, .pcie, .engines, .kerf, .tiles, .axes, .encs, .pulses, .capts,
    .cams, .camPorts, .pipe]
  | .unitFault .. => unitOutParts
  | .unitSelfTestDone .. => recordParts ++ completionParts ++ [.movers, .islands, .dramCh, .cal, .engines, .kerf, .tiles]
  | .fetchTimeout .. => unitOutParts
  | .engineProgressTimeout .. => unitOutParts ++ [.links]
  | .veneerDeadlineTimeout .. => unitOutParts
  | .pcieCompletionTimeout .. => completionParts ++ [.movers]
  | .mgmtWatchdogExpire .. => unitOutParts ++ [.mgmt]
  | .read .. => [.mgmt]
  | .writeBootcfg .. => [.mram]
  | .releaseF0 .. => recordParts ++ [.hostFns, .vecs]
  | .clearFatal .. => [.mram]
  | .deviceReset .. => unitOutParts ++ [.force, .free, .flash, .mram, .nextJob, .vecs, .fnMasked, .dramCh, .sensors, .therm, .mgmt, .links, .grain,
    .pulses, .capts, .time, .fabric]
  | .slotWrite .. => [.flash]
  | .slotSelect .. => [.mram]
  | .mgtFwUpdate .. => completionParts ++ [.flash, .mgmt]
  | .fwUpdateDone .. => recordParts ++ completionParts ++ [.flash, .mgmt]
  | .mgtFwSelect .. => completionParts ++ [.mram]
  | .mgtUnit .. => recordParts ++ completionParts ++ [.host, .dram, .movers, .islands, .dramCh, .cal, .pcie, .engines, .kerf, .tiles, .axes, .encs,
    .cams, .camPorts, .pipe]
  | .railUndervolt .. => unitOutParts ++ [.force, .free, .flash, .mram, .nextJob, .vecs, .fnMasked, .dramCh, .sensors, .therm, .mgmt, .links,
    .grain, .pulses, .capts, .time, .fabric]
  | .refclkAbsent .. => unitOutParts ++ [.force, .free, .flash, .mram, .nextJob, .vecs, .fnMasked, .dramCh, .sensors, .therm, .mgmt, .links,
    .grain, .pulses, .capts, .time, .fabric]
  | .refclkReturn .. => [.hostFns, .movers, .islands, .mgmt]
  | .resetRelease .. => unitOutParts ++ [.free, .dramCh, .mgmt, .links]
  | .perstRelease .. => [.pcie]
  | .axisTick .. => completionParts ++ [.axes, .encs]
  | .coilLoopPeriod .. => [.free, .axes]
  | .attachLinkTimeout .. => completionParts ++ [.tiles]
  | .routeAgeOut .. => [.fabric]

end Sys2Proof

/-- A command leaves every field of every instance of every register as it is, but for the registers named for it. -/
def Obligations.RegistersKept : Prop :=
  ∀ (c : Instr) (rest : List Instr) (s t : State), s.pending = c :: rest → step s = .next t → c.anyRegister = false →
    ∀ (f : Fld) (i j : Nat), f.reg ∉ c.changes → t.dev.get f i j = s.dev.get f i j

/-- A command leaves every part of the device beside its registers as it is, but for the parts named for it: the values in force, the
descriptors, the rings, the recorder, every engine, tile, axis, encoder, camera and fabric port, the memories and the pins. -/
def Obligations.PartsKept : Prop :=
  ∀ (c : Instr) (rest : List Instr) (s t : State), s.pending = c :: rest → step s = .next t →
    ∀ p : Part, p ∉ c.moves → p.same s.dev t.dev
end

