-- ==== Sys2Proof/Laws/Tables.lean ====
section
/-! SUPPORT. Laws of the sparse tables, byte memories and register cells: what a read gives after a write, and that every
write keeps the canonical form. -/

namespace Sys2Proof.Machine

/-! ### Sparse tables -/

theorem Tab.get_insert_self {α : Type} (e : α) (t : Tab α) (k : Nat) (v : α) (h : ∀ p ∈ t, p.1 ≠ k) :
    Tab.get e (Tab.insert k v t) k = v := by
  induction t with
  | nil => simp [Tab.insert, Tab.get]
  | cons p t ih =>
    obtain ⟨k', v'⟩ := p
    have hk : k' ≠ k := h (k', v') (by simp)
    simp only [Tab.insert]
    split
    · simp [Tab.get]
    · simp [Tab.get, hk, ih (fun q hq => h q (by simp [hq]))]

theorem Tab.get_insert_ne {α : Type} (e : α) (t : Tab α) (k k' : Nat) (v : α) (h : k' ≠ k) :
    Tab.get e (Tab.insert k v t) k' = Tab.get e t k' := by
  induction t with
  | nil => simp [Tab.insert, Tab.get, Ne.symm h]
  | cons p t ih =>
    obtain ⟨k₁, v₁⟩ := p
    simp only [Tab.insert]
    split
    · simp [Tab.get, Ne.symm h]
    · simp [Tab.get, ih]

theorem Tab.get_filter_ne {α : Type} (e : α) (t : Tab α) (k k' : Nat) (h : k' ≠ k) :
    Tab.get e (Tab.erase k t) k' = Tab.get e t k' := by
  induction t with
  | nil => simp [Tab.erase, Tab.get]
  | cons p t ih =>
    obtain ⟨k₁, v₁⟩ := p
    by_cases hk : k₁ = k
    · subst hk
      simp only [Tab.erase, List.filter_cons, bne_self_eq_false, Bool.false_eq_true, if_false] at ih ⊢
      simpa [Tab.get, Ne.symm h] using ih
    · simp only [Tab.erase, List.filter_cons, bne_iff_ne, ne_eq, hk, not_false_eq_true, if_true] at ih ⊢
      simp [Tab.get, ih]

theorem Tab.erase_no_key {α : Type} (t : Tab α) (k : Nat) : ∀ p ∈ Tab.erase k t, p.1 ≠ k := by
  intro p hp
  simpa [Tab.erase] using (List.mem_filter.mp hp).2

theorem Tab.get_absent {α : Type} (e : α) (t : Tab α) (k : Nat) (h : ∀ p ∈ t, p.1 ≠ k) : Tab.get e t k = e := by
  induction t with
  | nil => rfl
  | cons p t ih =>
    obtain ⟨k₁, v₁⟩ := p
    have hk : k₁ ≠ k := h (k₁, v₁) (by simp)
    simp [Tab.get, hk, ih (fun q hq => h q (by simp [hq]))]

/-- A table read where it was set. -/
@[simp] theorem Tab.get_set_self {α : Type} [DecidableEq α] (e : α) (t : Tab α) (k : Nat) (v : α) :
    Tab.get e (Tab.set e t k v) k = v := by
  unfold Tab.set
  split
  · rename_i h
    rw [Tab.get_absent _ _ _ (Tab.erase_no_key t k), h]
  · exact Tab.get_insert_self e _ k v (Tab.erase_no_key t k)

/-- A table read elsewhere. -/
@[simp] theorem Tab.get_set_ne {α : Type} [DecidableEq α] (e : α) (t : Tab α) (k k' : Nat) (v : α) (h : k' ≠ k) :
    Tab.get e (Tab.set e t k v) k' = Tab.get e t k' := by
  unfold Tab.set
  split
  · exact Tab.get_filter_ne e t k k' h
  · rw [Tab.get_insert_ne e _ k k' v h, Tab.get_filter_ne e t k k' h]

/-- The canonical form as a statement about the list: keys strictly rising, no entry at the default. -/
theorem Tab.wf_iff {α : Type} [DecidableEq α] (e : α) (t : Tab α) :
    Tab.wf e t = true ↔ t.Pairwise (fun a b => a.1 < b.1) ∧ ∀ p ∈ t, p.2 ≠ e := by
  induction t with
  | nil => simp [Tab.wf]
  | cons p t ih =>
    obtain ⟨k, v⟩ := p
    cases t with
    | nil => simp [Tab.wf]
    | cons q t =>
      obtain ⟨k', v'⟩ := q
      simp only [Tab.wf, Bool.and_eq_true, decide_eq_true_eq, ih, List.pairwise_cons, List.mem_cons, forall_eq_or_imp]
      constructor
      · rintro ⟨⟨h1, h2⟩, ⟨h3, h4⟩, h5, h6⟩
        exact ⟨⟨⟨h2, fun a ha => Nat.lt_trans h2 (h3 a ha)⟩, h3, h4⟩, h1, h5, h6⟩
      · rintro ⟨⟨⟨h2, _⟩, h3, h4⟩, h1, h5, h6⟩
        exact ⟨⟨h1, h2⟩, ⟨h3, h4⟩, h5, h6⟩

theorem Tab.wf_filter {α : Type} [DecidableEq α] (e : α) (t : Tab α) (p : Nat × α → Bool) (h : Tab.wf e t = true) :
    Tab.wf e (t.filter p) = true := by
  rw [Tab.wf_iff] at h ⊢
  exact ⟨h.1.filter _, fun q hq => h.2 q (List.mem_filter.mp hq).1⟩

theorem Tab.mem_insert {α : Type} (t : Tab α) (k : Nat) (v : α) (p : Nat × α) :
    p ∈ Tab.insert k v t ↔ p = (k, v) ∨ p ∈ t := by
  induction t with
  | nil => simp [Tab.insert]
  | cons q t ih =>
    simp only [Tab.insert]
    split
    · simp
    · simp only [List.mem_cons, ih]
      tauto

/-- Setting a key keeps the canonical form. -/
theorem Tab.wf_set {α : Type} [DecidableEq α] (e : α) (t : Tab α) (k : Nat) (v : α) (h : Tab.wf e t = true) :
    Tab.wf e (Tab.set e t k v) = true := by
  unfold Tab.set
  split
  · exact Tab.wf_filter e t _ h
  · rename_i hv
    have hw := (Tab.wf_iff e _).mp (Tab.wf_filter e t (fun p => p.1 != k) h)
    have hk := Tab.erase_no_key t k
    rw [Tab.wf_iff]
    refine ⟨?_, fun q hq => ?_⟩
    · change (Tab.insert k v (Tab.erase k t)).Pairwise _
      revert hk hw
      change (Tab.erase k t).Pairwise _ ∧ _ → _
      generalize Tab.erase k t = u
      intro hw hk
      have hp := hw.1
      clear hw
      induction u with
      | nil => simp [Tab.insert]
      | cons q u ih =>
        obtain ⟨k', v'⟩ := q
        have hk' : k' ≠ k := hk (k', v') (by simp)
        obtain ⟨h1, h2⟩ := List.pairwise_cons.mp hp
        simp only [Tab.insert]
        split
        · rename_i hlt
          exact List.pairwise_cons.mpr ⟨fun a ha => (List.mem_cons.mp ha).elim (fun x => by rw [x]; exact hlt)
            (fun x => Nat.lt_trans hlt (h1 a x)), hp⟩
        · rename_i hlt
          refine List.pairwise_cons.mpr ⟨fun a ha => ?_, ih (fun p hp => hk p (by simp [hp])) h2⟩
          rcases (Tab.mem_insert u k v a).mp ha with rfl | ha
          · simp only
            omega
          · exact h1 a ha
    · rcases (Tab.mem_insert _ k v q).mp hq with rfl | hq
      · exact hv
      · exact hw.2 q hq

/-! ### Byte memories -/

/-- A byte read where it was written. -/
@[simp] theorem Bytes.read_write_self (m : Bytes) (a : Nat) (b : BitVec 8) : Bytes.read (Bytes.write m a b) a = b := by
  simp [Bytes.read, Bytes.write]

/-- A byte read elsewhere. -/
@[simp] theorem Bytes.read_write_ne (m : Bytes) (a c : Nat) (b : BitVec 8) (h : c ≠ a) :
    Bytes.read (Bytes.write m a b) c = Bytes.read m c := by
  simp [Bytes.read, Bytes.write, h]

/-- A byte outside the bytes written. -/
theorem Bytes.read_writeList_out (m : Bytes) (a c : Nat) (bs : List (BitVec 8)) (h : c < a ∨ a + bs.length ≤ c) :
    Bytes.read (Bytes.writeList m a bs) c = Bytes.read m c := by
  induction bs generalizing m a with
  | nil => rfl
  | cons b bs ih =>
    simp only [Bytes.writeList, List.length_cons] at h ⊢
    rw [ih _ _ (by omega), Bytes.read_write_ne _ _ _ _ (by omega)]

/-- A byte among the bytes written. -/
theorem Bytes.read_writeList_in (m : Bytes) (a k : Nat) (bs : List (BitVec 8)) (h : k < bs.length) :
    Bytes.read (Bytes.writeList m a bs) (a + k) = bs.getD k 0#8 := by
  induction bs generalizing m a k with
  | nil => simp at h
  | cons b bs ih =>
    simp only [Bytes.writeList]
    cases k with
    | zero => rw [Bytes.read_writeList_out _ _ _ _ (by omega)]; simp
    | succ k =>
      rw [show a + (k + 1) = a + 1 + k by omega, ih _ _ _ (by simpa using h)]
      simp

theorem Bytes.wf_write (m : Bytes) (a : Nat) (b : BitVec 8) (h : Bytes.wf m = true) : Bytes.wf (Bytes.write m a b) = true :=
  Tab.wf_set _ _ _ _ h

/-- Writing bytes keeps the canonical form. -/
theorem Bytes.wf_writeList (m : Bytes) (a : Nat) (bs : List (BitVec 8)) (h : Bytes.wf m = true) :
    Bytes.wf (Bytes.writeList m a bs) = true := by
  induction bs generalizing m a with
  | nil => exact h
  | cons b bs ih => exact ih _ _ (Bytes.wf_write m a b h)

/-! ### Register cells -/

theorem RegCell.isAt_iff (c : RegCell) (f : Fld) (i j : Nat) : c.isAt f i j = true ↔ c.fld = f ∧ c.i = i ∧ c.j = j := by
  simp [RegCell.isAt]

theorem cellsGet_erase_self (cs : List RegCell) (f : Fld) (i j : Nat) : cellsGet (cellsErase f i j cs) f i j = f.resetAt i j := by
  induction cs with
  | nil => rfl
  | cons c cs ih =>
    by_cases h : c.isAt f i j = true
    · simpa [cellsErase, h] using ih
    · simp only [cellsErase, List.filter_cons] at ih ⊢
      simp only [h, Bool.not_false, if_true, cellsGet, Bool.false_eq_true, if_false]
      exact ih

theorem cellsGet_erase_ne (cs : List RegCell) (f g : Fld) (i j k l : Nat) (h : ¬ (g = f ∧ k = i ∧ l = j)) :
    cellsGet (cellsErase f i j cs) g k l = cellsGet cs g k l := by
  induction cs with
  | nil => rfl
  | cons c cs ih =>
    by_cases hc : c.isAt f i j = true
    · have hg : c.isAt g k l = false := by
        rw [RegCell.isAt_iff] at hc
        rw [Bool.eq_false_iff, ne_eq, RegCell.isAt_iff]
        rintro ⟨h1, h2, h3⟩
        exact h ⟨h1.symm.trans hc.1, h2.symm.trans hc.2.1, h3.symm.trans hc.2.2⟩
      simp only [cellsErase, List.filter_cons] at ih ⊢
      simp only [hc, Bool.not_true, Bool.false_eq_true, if_false, cellsGet, hg]
      exact ih
    · simp only [cellsErase, List.filter_cons] at ih ⊢
      simp only [hc, Bool.not_false, if_true, cellsGet]
      rw [ih]

theorem cellsGet_insert (c : RegCell) (cs : List RegCell) (g : Fld) (k l : Nat)
    (h : ∀ x ∈ cs, ¬ (x.fld = c.fld ∧ x.i = c.i ∧ x.j = c.j)) :
    cellsGet (cellsInsert c cs) g k l = if c.isAt g k l then c.val else cellsGet cs g k l := by
  induction cs with
  | nil => rfl
  | cons x cs ih =>
    simp only [cellsInsert]
    split
    · rfl
    · simp only [cellsGet, ih (fun y hy => h y (by simp [hy]))]
      by_cases hx : x.isAt g k l = true
      · have hc : c.isAt g k l = false := by
          rw [RegCell.isAt_iff] at hx
          rw [Bool.eq_false_iff, ne_eq, RegCell.isAt_iff]
          rintro ⟨h1, h2, h3⟩
          exact h x (by simp) ⟨hx.1.trans h1.symm, hx.2.1.trans h2.symm, hx.2.2.trans h3.symm⟩
        simp [hx, hc]
      · simp [hx]

theorem cellsErase_no (cs : List RegCell) (f : Fld) (i j : Nat) :
    ∀ x ∈ cellsErase f i j cs, ¬ (x.fld = f ∧ x.i = i ∧ x.j = j) := by
  intro x hx h
  have := (List.mem_filter.mp hx).2
  rw [(RegCell.isAt_iff x f i j).mpr h] at this
  simp at this

/-- A field instance read where it was set: the value cut to the field's width. -/
theorem cellsGet_set_self (cs : List RegCell) (f : Fld) (v i j : Nat) : cellsGet (cellsSet cs f v i j) f i j = v % 2 ^ f.width := by
  unfold cellsSet
  split
  · rename_i h
    rw [cellsGet_erase_self, h]
  · rw [cellsGet_insert _ _ _ _ _ (cellsErase_no cs f i j)]
    simp [RegCell.isAt]

/-- Another field instance read after a set. -/
theorem cellsGet_set_ne (cs : List RegCell) (f g : Fld) (v i j k l : Nat) (h : ¬ (g = f ∧ k = i ∧ l = j)) :
    cellsGet (cellsSet cs f v i j) g k l = cellsGet cs g k l := by
  unfold cellsSet
  split
  · exact cellsGet_erase_ne cs f g i j k l h
  · rw [cellsGet_insert _ _ _ _ _ (cellsErase_no cs f i j), cellsGet_erase_ne cs f g i j k l h]
    have : (RegCell.mk f i j (v % 2 ^ f.width)).isAt g k l = false := by
      rw [Bool.eq_false_iff, ne_eq, RegCell.isAt_iff]
      rintro ⟨h1, h2, h3⟩
      exact h ⟨h1.symm, h2.symm, h3.symm⟩
    simp [this]

/-- A cell is in canonical form by itself: not at its reset value, within its width. -/
def RegCell.ok (c : RegCell) : Prop := c.val ≠ c.fld.resetAt c.i c.j ∧ c.val < 2 ^ c.fld.width

theorem cellsWf_iff (cs : List RegCell) : cellsWf cs = true ↔ cs.Pairwise (fun a b => a.key < b.key) ∧ ∀ c ∈ cs, c.ok := by
  induction cs with
  | nil => simp [cellsWf]
  | cons c cs ih =>
    cases cs with
    | nil => simp [cellsWf, RegCell.ok]
    | cons c' cs =>
      simp only [cellsWf, Bool.and_eq_true, decide_eq_true_eq, ih, List.pairwise_cons, List.mem_cons, forall_eq_or_imp,
        RegCell.ok]
      constructor
      · rintro ⟨⟨⟨h1, h2⟩, h3⟩, ⟨h4, h5⟩, h6, h7⟩
        exact ⟨⟨⟨h3, fun a ha => Nat.lt_trans h3 (h4 a ha)⟩, h4, h5⟩, ⟨h1, h2⟩, h6, h7⟩
      · rintro ⟨⟨⟨h3, _⟩, h4, h5⟩, ⟨h1, h2⟩, h6, h7⟩
        exact ⟨⟨⟨h1, h2⟩, h3⟩, ⟨h4, h5⟩, h6, h7⟩

theorem cellsWf_filter (cs : List RegCell) (p : RegCell → Bool) (h : cellsWf cs = true) : cellsWf (cs.filter p) = true := by
  rw [cellsWf_iff] at h ⊢
  exact ⟨h.1.filter _, fun c hc => h.2 c (List.mem_filter.mp hc).1⟩

/-- Different field instances have different keys. -/
theorem RegCell.key_inj (a b : RegCell) (h : a.key = b.key) : a.fld = b.fld ∧ a.i = b.i ∧ a.j = b.j := by
  obtain ⟨h1, h2⟩ := Nat.pair_eq_pair.mp h
  obtain ⟨h3, h4⟩ := Nat.pair_eq_pair.mp h2
  refine ⟨?_, h3, h4⟩
  have := congrArg Fld.ofNat h1
  simpa [Fld.ofNat_ctorIdx] using this

theorem cellsInsert_mem (c x : RegCell) (cs : List RegCell) : x ∈ cellsInsert c cs ↔ x = c ∨ x ∈ cs := by
  induction cs with
  | nil => simp [cellsInsert]
  | cons y cs ih =>
    simp only [cellsInsert]
    split
    · simp
    · simp only [List.mem_cons, ih]
      tauto

/-- Setting a field instance keeps the canonical form. -/
theorem cellsWf_set (cs : List RegCell) (f : Fld) (v i j : Nat) (h : cellsWf cs = true) : cellsWf (cellsSet cs f v i j) = true := by
  unfold cellsSet
  split
  · exact cellsWf_filter cs _ h
  · rename_i hv
    have hw := (cellsWf_iff _).mp (cellsWf_filter cs (fun c => !c.isAt f i j) h)
    have hn := cellsErase_no cs f i j
    rw [cellsWf_iff]
    change (cellsErase f i j cs).Pairwise _ ∧ (∀ c ∈ cellsErase f i j cs, c.ok) at hw
    generalize cellsErase f i j cs = u at hw hn
    refine ⟨?_, fun c hc => ?_⟩
    · have hp := hw.1
      clear hw
      induction u with
      | nil => simp [cellsInsert]
      | cons q u ih =>
        obtain ⟨h1, h2⟩ := List.pairwise_cons.mp hp
        simp only [cellsInsert]
        split
        · rename_i hlt
          exact List.pairwise_cons.mpr ⟨fun a ha => (List.mem_cons.mp ha).elim (fun x => by rw [x]; exact hlt)
            (fun x => Nat.lt_trans hlt (h1 a x)), hp⟩
        · rename_i hlt
          refine List.pairwise_cons.mpr ⟨fun a ha => ?_, ih (fun p hp => hn p (by simp [hp])) h2⟩
          rcases (cellsInsert_mem _ a u).mp ha with rfl | ha
          · have hne : q.key ≠ (RegCell.mk f i j (v % 2 ^ f.width)).key :=
              fun he => hn q (by simp) (RegCell.key_inj _ _ he)
            omega
          · exact h1 a ha
    · rcases (cellsInsert_mem _ c u).mp hc with rfl | hc
      · exact ⟨hv, Nat.mod_lt _ (Nat.two_pow_pos _)⟩
      · exact hw.2 c hc

end Sys2Proof.Machine
end

