-- ==== Sys2Proof/Laws/Frame.lean ====
section
/-! SUPPORT. Frames: a relation between a device before and after an operation that says which parts and register fields the
operation leaves alone, and that it keeps every table in canonical form. One lemma per way to build an operation. -/

namespace Sys2Proof.Machine

/-- `Frame w d d'`: bits 0 to 63 of `w` name parts of the device, bit 64 + n the n-th register field. Whatever `w` does not name
is the same before and after, and a device in canonical form stays in canonical form. -/
structure Frame (w : Nat) (d d' : Dev) : Prop where
  /-- Register fields. -/
  get : ∀ (f : Fld) (i j : Nat), w.testBit (64 + f.ctorIdx) = false → d'.get f i j = d.get f i j
  /-- The canonical form. -/
  canon : d.canonical → d'.canonical
  now : w.testBit 0 = false → d'.now = d.now
  run : w.testBit 1 = false → d'.run = d.run
  force : w.testBit 2 = false → d'.force = d.force
  free : w.testBit 3 = false → d'.free = d.free
  host : w.testBit 4 = false → d'.host = d.host
  dram : w.testBit 5 = false → d'.dram = d.dram
  flash : w.testBit 6 = false → d'.flash = d.flash
  mram : w.testBit 7 = false → d'.mram = d.mram
  jobs : w.testBit 8 = false → d'.jobs = d.jobs
  nextJob : w.testBit 9 = false → d'.nextJob = d.nextJob
  hostFns : w.testBit 10 = false → d'.hostFns = d.hostFns
  movers : w.testBit 11 = false → d'.movers = d.movers
  srcs : w.testBit 12 = false → d'.srcs = d.srcs
  vecs : w.testBit 13 = false → d'.vecs = d.vecs
  fnMasked : w.testBit 14 = false → d'.fnMasked = d.fnMasked
  recorder : w.testBit 15 = false → d'.recorder = d.recorder
  islands : w.testBit 16 = false → d'.islands = d.islands
  layer : w.testBit 17 = false → d'.layer = d.layer
  dramCh : w.testBit 18 = false → d'.dramCh = d.dramCh
  sensors : w.testBit 19 = false → d'.sensors = d.sensors
  therm : w.testBit 20 = false → d'.therm = d.therm
  cal : w.testBit 21 = false → d'.cal = d.cal
  pcie : w.testBit 22 = false → d'.pcie = d.pcie
  mgmt : w.testBit 23 = false → d'.mgmt = d.mgmt
  pins : w.testBit 24 = false → d'.pins = d.pins
  fabOut : w.testBit 25 = false → d'.fabOut = d.fabOut
  fabSeq : w.testBit 26 = false → d'.fabSeq = d.fabSeq
  engines : w.testBit 27 = false → d'.engines = d.engines
  links : w.testBit 28 = false → d'.links = d.links
  kerf : w.testBit 29 = false → d'.kerf = d.kerf
  grain : w.testBit 30 = false → d'.grain = d.grain
  tiles : w.testBit 31 = false → d'.tiles = d.tiles
  axes : w.testBit 32 = false → d'.axes = d.axes
  encs : w.testBit 33 = false → d'.encs = d.encs
  pulses : w.testBit 34 = false → d'.pulses = d.pulses
  capts : w.testBit 35 = false → d'.capts = d.capts
  time : w.testBit 36 = false → d'.time = d.time
  cams : w.testBit 37 = false → d'.cams = d.cams
  camPorts : w.testBit 38 = false → d'.camPorts = d.camPorts
  pipe : w.testBit 39 = false → d'.pipe = d.pipe
  fabric : w.testBit 40 = false → d'.fabric = d.fabric
  hinge : w.testBit 41 = false → d'.hinge = d.hinge

/-- One mask within another. -/
abbrev Within (a b : Nat) : Prop := a ||| b = b

theorem Within.testBit {a b : Nat} (h : Within a b) {k : Nat} (hb : b.testBit k = false) : a.testBit k = false := by
  have := congrArg (fun x => x.testBit k) h
  simpa [Nat.testBit_or, hb] using this

theorem Frame.refl {w : Nat} {d : Dev} : Frame w d d := by
  constructor <;> intros <;> first | rfl | assumption

theorem Frame.trans {w : Nat} {d e f : Dev} (h : Frame w d e) (k : Frame w e f) : Frame w d f where
  get g i j hw := (k.get g i j hw).trans (h.get g i j hw)
  canon hc := k.canon (h.canon hc)
  now hw := (k.now hw).trans (h.now hw)
  run hw := (k.run hw).trans (h.run hw)
  force hw := (k.force hw).trans (h.force hw)
  free hw := (k.free hw).trans (h.free hw)
  host hw := (k.host hw).trans (h.host hw)
  dram hw := (k.dram hw).trans (h.dram hw)
  flash hw := (k.flash hw).trans (h.flash hw)
  mram hw := (k.mram hw).trans (h.mram hw)
  jobs hw := (k.jobs hw).trans (h.jobs hw)
  nextJob hw := (k.nextJob hw).trans (h.nextJob hw)
  hostFns hw := (k.hostFns hw).trans (h.hostFns hw)
  movers hw := (k.movers hw).trans (h.movers hw)
  srcs hw := (k.srcs hw).trans (h.srcs hw)
  vecs hw := (k.vecs hw).trans (h.vecs hw)
  fnMasked hw := (k.fnMasked hw).trans (h.fnMasked hw)
  recorder hw := (k.recorder hw).trans (h.recorder hw)
  islands hw := (k.islands hw).trans (h.islands hw)
  layer hw := (k.layer hw).trans (h.layer hw)
  dramCh hw := (k.dramCh hw).trans (h.dramCh hw)
  sensors hw := (k.sensors hw).trans (h.sensors hw)
  therm hw := (k.therm hw).trans (h.therm hw)
  cal hw := (k.cal hw).trans (h.cal hw)
  pcie hw := (k.pcie hw).trans (h.pcie hw)
  mgmt hw := (k.mgmt hw).trans (h.mgmt hw)
  pins hw := (k.pins hw).trans (h.pins hw)
  fabOut hw := (k.fabOut hw).trans (h.fabOut hw)
  fabSeq hw := (k.fabSeq hw).trans (h.fabSeq hw)
  engines hw := (k.engines hw).trans (h.engines hw)
  links hw := (k.links hw).trans (h.links hw)
  kerf hw := (k.kerf hw).trans (h.kerf hw)
  grain hw := (k.grain hw).trans (h.grain hw)
  tiles hw := (k.tiles hw).trans (h.tiles hw)
  axes hw := (k.axes hw).trans (h.axes hw)
  encs hw := (k.encs hw).trans (h.encs hw)
  pulses hw := (k.pulses hw).trans (h.pulses hw)
  capts hw := (k.capts hw).trans (h.capts hw)
  time hw := (k.time hw).trans (h.time hw)
  cams hw := (k.cams hw).trans (h.cams hw)
  camPorts hw := (k.camPorts hw).trans (h.camPorts hw)
  pipe hw := (k.pipe hw).trans (h.pipe hw)
  fabric hw := (k.fabric hw).trans (h.fabric hw)
  hinge hw := (k.hinge hw).trans (h.hinge hw)

theorem Frame.mono {v w : Nat} {d e : Dev} (h : Frame v d e) (hw : Within v w) : Frame w d e where
  get g i j hb := h.get g i j (hw.testBit hb)
  canon := h.canon
  now hb := h.now (hw.testBit hb)
  run hb := h.run (hw.testBit hb)
  force hb := h.force (hw.testBit hb)
  free hb := h.free (hw.testBit hb)
  host hb := h.host (hw.testBit hb)
  dram hb := h.dram (hw.testBit hb)
  flash hb := h.flash (hw.testBit hb)
  mram hb := h.mram (hw.testBit hb)
  jobs hb := h.jobs (hw.testBit hb)
  nextJob hb := h.nextJob (hw.testBit hb)
  hostFns hb := h.hostFns (hw.testBit hb)
  movers hb := h.movers (hw.testBit hb)
  srcs hb := h.srcs (hw.testBit hb)
  vecs hb := h.vecs (hw.testBit hb)
  fnMasked hb := h.fnMasked (hw.testBit hb)
  recorder hb := h.recorder (hw.testBit hb)
  islands hb := h.islands (hw.testBit hb)
  layer hb := h.layer (hw.testBit hb)
  dramCh hb := h.dramCh (hw.testBit hb)
  sensors hb := h.sensors (hw.testBit hb)
  therm hb := h.therm (hw.testBit hb)
  cal hb := h.cal (hw.testBit hb)
  pcie hb := h.pcie (hw.testBit hb)
  mgmt hb := h.mgmt (hw.testBit hb)
  pins hb := h.pins (hw.testBit hb)
  fabOut hb := h.fabOut (hw.testBit hb)
  fabSeq hb := h.fabSeq (hw.testBit hb)
  engines hb := h.engines (hw.testBit hb)
  links hb := h.links (hw.testBit hb)
  kerf hb := h.kerf (hw.testBit hb)
  grain hb := h.grain (hw.testBit hb)
  tiles hb := h.tiles (hw.testBit hb)
  axes hb := h.axes (hw.testBit hb)
  encs hb := h.encs (hw.testBit hb)
  pulses hb := h.pulses (hw.testBit hb)
  capts hb := h.capts (hw.testBit hb)
  time hb := h.time (hw.testBit hb)
  cams hb := h.cams (hw.testBit hb)
  camPorts hb := h.camPorts (hw.testBit hb)
  pipe hb := h.pipe (hw.testBit hb)
  fabric hb := h.fabric (hw.testBit hb)
  hinge hb := h.hinge (hw.testBit hb)

/-- An operation after others. -/
theorem Frame.step {v w : Nat} {d e f : Dev} (k : Frame v e f) (hw : Within v w) (h : Frame w d e) : Frame w d f :=
  h.trans (k.mono hw)

theorem Frame.step' {v w : Nat} {d e f : Dev} (h : Frame w d e) (k : Frame v e f) (hw : Within v w) : Frame w d f :=
  h.trans (k.mono hw)

/-- A device named on the way. -/
theorem Frame.cut {w : Nat} {d e : Dev} (x : Dev) (hx : Frame w d x) (k : Frame w d x → Frame w d e) : Frame w d e := k hx

theorem Frame.ite {w : Nat} {d e f : Dev} {c : Prop} [Decidable c] (h : Frame w d e) (k : Frame w d f) :
    Frame w d (if c then e else f) := by split <;> assumption

theorem Frame.foldl {ι : Type} {w : Nat} {d e : Dev} {l : List ι} {g : Dev → ι → Dev} (h : Frame w d e)
    (hg : ∀ x a, Frame w d x → Frame w d (g x a)) : Frame w d (l.foldl g e) := by
  induction l generalizing e with
  | nil => exact h
  | cons a l ih => exact ih (hg e a h)

theorem Frame.now_of {w : Nat} {d e : Dev} {x : Nat} (hw : w.testBit 0 = true) (h : Frame w d e) :
    Frame w d { e with now := x } := by
  refine h.trans ?_
  constructor
  case canon => exact fun hc => { hc with }
  case now => exact fun hn => absurd hw (by simp [hn])
  all_goals (intros; rfl)

theorem Frame.run_of {w : Nat} {d e : Dev} {x : Nat} (hw : w.testBit 1 = true) (h : Frame w d e) :
    Frame w d { e with run := x } := by
  refine h.trans ?_
  constructor
  case canon => exact fun hc => { hc with }
  case run => exact fun hn => absurd hw (by simp [hn])
  all_goals (intros; rfl)

theorem Frame.force_of {w : Nat} {d e : Dev} {x : List RegCell} (hw : w.testBit 2 = true) (hx : e.canonical → cellsWf x = true) (h : Frame w d e) :
    Frame w d { e with force := x } := by
  refine h.trans ?_
  constructor
  case canon => exact fun hc => { hc with force := hx hc }
  case force => exact fun hn => absurd hw (by simp [hn])
  all_goals (intros; rfl)

theorem Frame.free_of {w : Nat} {d e : Dev} {x : Nat} (hw : w.testBit 3 = true) (h : Frame w d e) :
    Frame w d { e with free := x } := by
  refine h.trans ?_
  constructor
  case canon => exact fun hc => { hc with }
  case free => exact fun hn => absurd hw (by simp [hn])
  all_goals (intros; rfl)

theorem Frame.host_of {w : Nat} {d e : Dev} {x : Bytes} (hw : w.testBit 4 = true) (hx : e.canonical → Bytes.wf x = true) (h : Frame w d e) :
    Frame w d { e with host := x } := by
  refine h.trans ?_
  constructor
  case canon => exact fun hc => { hc with host := hx hc }
  case host => exact fun hn => absurd hw (by simp [hn])
  all_goals (intros; rfl)

theorem Frame.dram_of {w : Nat} {d e : Dev} {x : Bytes} (hw : w.testBit 5 = true) (hx : e.canonical → Bytes.wf x = true) (h : Frame w d e) :
    Frame w d { e with dram := x } := by
  refine h.trans ?_
  constructor
  case canon => exact fun hc => { hc with dram := hx hc }
  case dram => exact fun hn => absurd hw (by simp [hn])
  all_goals (intros; rfl)

theorem Frame.flash_of {w : Nat} {d e : Dev} {x : Bytes} (hw : w.testBit 6 = true) (hx : e.canonical → Bytes.wf x = true) (h : Frame w d e) :
    Frame w d { e with flash := x } := by
  refine h.trans ?_
  constructor
  case canon => exact fun hc => { hc with flash := hx hc }
  case flash => exact fun hn => absurd hw (by simp [hn])
  all_goals (intros; rfl)

theorem Frame.mram_of {w : Nat} {d e : Dev} {x : Mram} (hw : w.testBit 7 = true) (h : Frame w d e) :
    Frame w d { e with mram := x } := by
  refine h.trans ?_
  constructor
  case canon => exact fun hc => { hc with }
  case mram => exact fun hn => absurd hw (by simp [hn])
  all_goals (intros; rfl)

theorem Frame.jobs_of {w : Nat} {d e : Dev} {x : List Job} (hw : w.testBit 8 = true) (h : Frame w d e) :
    Frame w d { e with jobs := x } := by
  refine h.trans ?_
  constructor
  case canon => exact fun hc => { hc with }
  case jobs => exact fun hn => absurd hw (by simp [hn])
  all_goals (intros; rfl)

theorem Frame.nextJob_of {w : Nat} {d e : Dev} {x : Nat} (hw : w.testBit 9 = true) (h : Frame w d e) :
    Frame w d { e with nextJob := x } := by
  refine h.trans ?_
  constructor
  case canon => exact fun hc => { hc with }
  case nextJob => exact fun hn => absurd hw (by simp [hn])
  all_goals (intros; rfl)

theorem Frame.hostFns_of {w : Nat} {d e : Dev} {x : Tab HostFn} (hw : w.testBit 10 = true) (hx : e.canonical → Tab.wf {} x = true) (h : Frame w d e) :
    Frame w d { e with hostFns := x } := by
  refine h.trans ?_
  constructor
  case canon => exact fun hc => { hc with hostFns := hx hc }
  case hostFns => exact fun hn => absurd hw (by simp [hn])
  all_goals (intros; rfl)

theorem Frame.movers_of {w : Nat} {d e : Dev} {x : Tab (Option Mover)} (hw : w.testBit 11 = true) (hx : e.canonical → Tab.wf none x = true) (h : Frame w d e) :
    Frame w d { e with movers := x } := by
  refine h.trans ?_
  constructor
  case canon => exact fun hc => { hc with movers := hx hc }
  case movers => exact fun hn => absurd hw (by simp [hn])
  all_goals (intros; rfl)

theorem Frame.srcs_of {w : Nat} {d e : Dev} {x : Tab SrcState} (hw : w.testBit 12 = true) (hx : e.canonical → Tab.wf {} x = true) (h : Frame w d e) :
    Frame w d { e with srcs := x } := by
  refine h.trans ?_
  constructor
  case canon => exact fun hc => { hc with srcs := hx hc }
  case srcs => exact fun hn => absurd hw (by simp [hn])
  all_goals (intros; rfl)

theorem Frame.vecs_of {w : Nat} {d e : Dev} {x : Tab VecState} (hw : w.testBit 13 = true) (hx : e.canonical → Tab.wf {} x = true) (h : Frame w d e) :
    Frame w d { e with vecs := x } := by
  refine h.trans ?_
  constructor
  case canon => exact fun hc => { hc with vecs := hx hc }
  case vecs => exact fun hn => absurd hw (by simp [hn])
  all_goals (intros; rfl)

theorem Frame.fnMasked_of {w : Nat} {d e : Dev} {x : Nat} (hw : w.testBit 14 = true) (h : Frame w d e) :
    Frame w d { e with fnMasked := x } := by
  refine h.trans ?_
  constructor
  case canon => exact fun hc => { hc with }
  case fnMasked => exact fun hn => absurd hw (by simp [hn])
  all_goals (intros; rfl)

theorem Frame.recorder_of {w : Nat} {d e : Dev} {x : Recorder} (hw : w.testBit 15 = true) (h : Frame w d e) :
    Frame w d { e with recorder := x } := by
  refine h.trans ?_
  constructor
  case canon => exact fun hc => { hc with }
  case recorder => exact fun hn => absurd hw (by simp [hn])
  all_goals (intros; rfl)

theorem Frame.islands_of {w : Nat} {d e : Dev} {x : Tab Island} (hw : w.testBit 16 = true) (hx : e.canonical → Tab.wf {} x = true) (h : Frame w d e) :
    Frame w d { e with islands := x } := by
  refine h.trans ?_
  constructor
  case canon => exact fun hc => { hc with islands := hx hc }
  case islands => exact fun hn => absurd hw (by simp [hn])
  all_goals (intros; rfl)

theorem Frame.layer_of {w : Nat} {d e : Dev} {x : Layer} (hw : w.testBit 17 = true) (h : Frame w d e) :
    Frame w d { e with layer := x } := by
  refine h.trans ?_
  constructor
  case canon => exact fun hc => { hc with }
  case layer => exact fun hn => absurd hw (by simp [hn])
  all_goals (intros; rfl)

theorem Frame.dramCh_of {w : Nat} {d e : Dev} {x : Tab DramChan} (hw : w.testBit 18 = true) (hx : e.canonical → Tab.wf {} x = true) (h : Frame w d e) :
    Frame w d { e with dramCh := x } := by
  refine h.trans ?_
  constructor
  case canon => exact fun hc => { hc with dramCh := hx hc }
  case dramCh => exact fun hn => absurd hw (by simp [hn])
  all_goals (intros; rfl)

theorem Frame.sensors_of {w : Nat} {d e : Dev} {x : Tab Sensor} (hw : w.testBit 19 = true) (hx : e.canonical → Tab.wf {} x = true) (h : Frame w d e) :
    Frame w d { e with sensors := x } := by
  refine h.trans ?_
  constructor
  case canon => exact fun hc => { hc with sensors := hx hc }
  case sensors => exact fun hn => absurd hw (by simp [hn])
  all_goals (intros; rfl)

theorem Frame.therm_of {w : Nat} {d e : Dev} {x : Thermal} (hw : w.testBit 20 = true) (h : Frame w d e) :
    Frame w d { e with therm := x } := by
  refine h.trans ?_
  constructor
  case canon => exact fun hc => { hc with }
  case therm => exact fun hn => absurd hw (by simp [hn])
  all_goals (intros; rfl)

theorem Frame.cal_of {w : Nat} {d e : Dev} {x : Calib} (hw : w.testBit 21 = true) (h : Frame w d e) :
    Frame w d { e with cal := x } := by
  refine h.trans ?_
  constructor
  case canon => exact fun hc => { hc with }
  case cal => exact fun hn => absurd hw (by simp [hn])
  all_goals (intros; rfl)

theorem Frame.pcie_of {w : Nat} {d e : Dev} {x : Pcie} (hw : w.testBit 22 = true) (h : Frame w d e) :
    Frame w d { e with pcie := x } := by
  refine h.trans ?_
  constructor
  case canon => exact fun hc => { hc with }
  case pcie => exact fun hn => absurd hw (by simp [hn])
  all_goals (intros; rfl)

theorem Frame.mgmt_of {w : Nat} {d e : Dev} {x : Mgmt} (hw : w.testBit 23 = true) (h : Frame w d e) :
    Frame w d { e with mgmt := x } := by
  refine h.trans ?_
  constructor
  case canon => exact fun hc => { hc with }
  case mgmt => exact fun hn => absurd hw (by simp [hn])
  all_goals (intros; rfl)

theorem Frame.pins_of {w : Nat} {d e : Dev} {x : Pins} (hw : w.testBit 24 = true) (h : Frame w d e) :
    Frame w d { e with pins := x } := by
  refine h.trans ?_
  constructor
  case canon => exact fun hc => { hc with }
  case pins => exact fun hn => absurd hw (by simp [hn])
  all_goals (intros; rfl)

theorem Frame.fabOut_of {w : Nat} {d e : Dev} {x : List FabMsg} (hw : w.testBit 25 = true) (h : Frame w d e) :
    Frame w d { e with fabOut := x } := by
  refine h.trans ?_
  constructor
  case canon => exact fun hc => { hc with }
  case fabOut => exact fun hn => absurd hw (by simp [hn])
  all_goals (intros; rfl)

theorem Frame.fabSeq_of {w : Nat} {d e : Dev} {x : Tab Nat} (hw : w.testBit 26 = true) (hx : e.canonical → Tab.wf 0 x = true) (h : Frame w d e) :
    Frame w d { e with fabSeq := x } := by
  refine h.trans ?_
  constructor
  case canon => exact fun hc => { hc with fabSeq := hx hc }
  case fabSeq => exact fun hn => absurd hw (by simp [hn])
  all_goals (intros; rfl)

theorem Frame.engines_of {w : Nat} {d e : Dev} {x : Tab Engine} (hw : w.testBit 27 = true) (hx : e.canonical → Tab.wf {} x = true) (h : Frame w d e) :
    Frame w d { e with engines := x } := by
  refine h.trans ?_
  constructor
  case canon => exact fun hc => { hc with engines := hx hc }
  case engines => exact fun hn => absurd hw (by simp [hn])
  all_goals (intros; rfl)

theorem Frame.links_of {w : Nat} {d e : Dev} {x : Tab ChLink} (hw : w.testBit 28 = true) (hx : e.canonical → Tab.wf {} x = true) (h : Frame w d e) :
    Frame w d { e with links := x } := by
  refine h.trans ?_
  constructor
  case canon => exact fun hc => { hc with links := hx hc }
  case links => exact fun hn => absurd hw (by simp [hn])
  all_goals (intros; rfl)

theorem Frame.kerf_of {w : Nat} {d e : Dev} {x : Kerf} (hw : w.testBit 29 = true) (h : Frame w d e) :
    Frame w d { e with kerf := x } := by
  refine h.trans ?_
  constructor
  case canon => exact fun hc => { hc with }
  case kerf => exact fun hn => absurd hw (by simp [hn])
  all_goals (intros; rfl)

theorem Frame.grain_of {w : Nat} {d e : Dev} {x : Grain} (hw : w.testBit 30 = true) (h : Frame w d e) :
    Frame w d { e with grain := x } := by
  refine h.trans ?_
  constructor
  case canon => exact fun hc => { hc with }
  case grain => exact fun hn => absurd hw (by simp [hn])
  all_goals (intros; rfl)

theorem Frame.tiles_of {w : Nat} {d e : Dev} {x : Tab Tile} (hw : w.testBit 31 = true) (hx : e.canonical → Tab.wf {} x = true) (h : Frame w d e) :
    Frame w d { e with tiles := x } := by
  refine h.trans ?_
  constructor
  case canon => exact fun hc => { hc with tiles := hx hc }
  case tiles => exact fun hn => absurd hw (by simp [hn])
  all_goals (intros; rfl)

theorem Frame.axes_of {w : Nat} {d e : Dev} {x : Tab Axis} (hw : w.testBit 32 = true) (hx : e.canonical → Tab.wf {} x = true) (h : Frame w d e) :
    Frame w d { e with axes := x } := by
  refine h.trans ?_
  constructor
  case canon => exact fun hc => { hc with axes := hx hc }
  case axes => exact fun hn => absurd hw (by simp [hn])
  all_goals (intros; rfl)

theorem Frame.encs_of {w : Nat} {d e : Dev} {x : Tab Enc} (hw : w.testBit 33 = true) (hx : e.canonical → Tab.wf {} x = true) (h : Frame w d e) :
    Frame w d { e with encs := x } := by
  refine h.trans ?_
  constructor
  case canon => exact fun hc => { hc with encs := hx hc }
  case encs => exact fun hn => absurd hw (by simp [hn])
  all_goals (intros; rfl)

theorem Frame.pulses_of {w : Nat} {d e : Dev} {x : Tab Pulse} (hw : w.testBit 34 = true) (hx : e.canonical → Tab.wf {} x = true) (h : Frame w d e) :
    Frame w d { e with pulses := x } := by
  refine h.trans ?_
  constructor
  case canon => exact fun hc => { hc with pulses := hx hc }
  case pulses => exact fun hn => absurd hw (by simp [hn])
  all_goals (intros; rfl)

theorem Frame.capts_of {w : Nat} {d e : Dev} {x : Tab Capt} (hw : w.testBit 35 = true) (hx : e.canonical → Tab.wf {} x = true) (h : Frame w d e) :
    Frame w d { e with capts := x } := by
  refine h.trans ?_
  constructor
  case canon => exact fun hc => { hc with capts := hx hc }
  case capts => exact fun hn => absurd hw (by simp [hn])
  all_goals (intros; rfl)

theorem Frame.time_of {w : Nat} {d e : Dev} {x : TimeSvc} (hw : w.testBit 36 = true) (h : Frame w d e) :
    Frame w d { e with time := x } := by
  refine h.trans ?_
  constructor
  case canon => exact fun hc => { hc with }
  case time => exact fun hn => absurd hw (by simp [hn])
  all_goals (intros; rfl)

theorem Frame.cams_of {w : Nat} {d e : Dev} {x : Tab Cam} (hw : w.testBit 37 = true) (hx : e.canonical → Tab.wf {} x = true) (h : Frame w d e) :
    Frame w d { e with cams := x } := by
  refine h.trans ?_
  constructor
  case canon => exact fun hc => { hc with cams := hx hc }
  case cams => exact fun hn => absurd hw (by simp [hn])
  all_goals (intros; rfl)

theorem Frame.camPorts_of {w : Nat} {d e : Dev} {x : Tab CamPort} (hw : w.testBit 38 = true) (hx : e.canonical → Tab.wf {} x = true) (h : Frame w d e) :
    Frame w d { e with camPorts := x } := by
  refine h.trans ?_
  constructor
  case canon => exact fun hc => { hc with camPorts := hx hc }
  case camPorts => exact fun hn => absurd hw (by simp [hn])
  all_goals (intros; rfl)

theorem Frame.pipe_of {w : Nat} {d e : Dev} {x : Pipeline} (hw : w.testBit 39 = true) (h : Frame w d e) :
    Frame w d { e with pipe := x } := by
  refine h.trans ?_
  constructor
  case canon => exact fun hc => { hc with }
  case pipe => exact fun hn => absurd hw (by simp [hn])
  all_goals (intros; rfl)

theorem Frame.fabric_of {w : Nat} {d e : Dev} {x : Fabric} (hw : w.testBit 40 = true) (h : Frame w d e) :
    Frame w d { e with fabric := x } := by
  refine h.trans ?_
  constructor
  case canon => exact fun hc => { hc with }
  case fabric => exact fun hn => absurd hw (by simp [hn])
  all_goals (intros; rfl)

theorem Frame.hinge_of {w : Nat} {d e : Dev} {x : Hinge} (hw : w.testBit 41 = true) (h : Frame w d e) :
    Frame w d { e with hinge := x } := by
  refine h.trans ?_
  constructor
  case canon => exact fun hc => { hc with }
  case hinge => exact fun hn => absurd hw (by simp [hn])
  all_goals (intros; rfl)

theorem Frame.now_run_of {w : Nat} {d e : Dev} {x_now : Nat} {x_run : Nat} (hw_now : w.testBit 0 = true) (hw_run : w.testBit 1 = true) (h : Frame w d e) :
    Frame w d { e with now := x_now, run := x_run } := by
  refine h.trans ?_
  constructor
  case canon => exact fun hc => { hc with  }
  case now => exact fun hn => absurd hw_now (by simp [hn])
  case run => exact fun hn => absurd hw_run (by simp [hn])
  all_goals (intros; rfl)

theorem Frame.fabOut_fabSeq_of {w : Nat} {d e : Dev} {x_fabOut : List FabMsg} {x_fabSeq : Tab Nat} (hw_fabOut : w.testBit 25 = true) (hw_fabSeq : w.testBit 26 = true) (hx_fabSeq : e.canonical → Tab.wf 0 x_fabSeq = true) (h : Frame w d e) :
    Frame w d { e with fabOut := x_fabOut, fabSeq := x_fabSeq } := by
  refine h.trans ?_
  constructor
  case canon => exact fun hc => { hc with fabSeq := hx_fabSeq hc }
  case fabOut => exact fun hn => absurd hw_fabOut (by simp [hn])
  case fabSeq => exact fun hn => absurd hw_fabSeq (by simp [hn])
  all_goals (intros; rfl)

theorem Frame.camPorts_pipe_of {w : Nat} {d e : Dev} {x_camPorts : Tab CamPort} {x_pipe : Pipeline} (hw_camPorts : w.testBit 38 = true) (hx_camPorts : e.canonical → Tab.wf {} x_camPorts = true) (hw_pipe : w.testBit 39 = true) (h : Frame w d e) :
    Frame w d { e with camPorts := x_camPorts, pipe := x_pipe } := by
  refine h.trans ?_
  constructor
  case canon => exact fun hc => { hc with camPorts := hx_camPorts hc }
  case camPorts => exact fun hn => absurd hw_camPorts (by simp [hn])
  case pipe => exact fun hn => absurd hw_pipe (by simp [hn])
  all_goals (intros; rfl)

theorem Frame.grain_hinge_of {w : Nat} {d e : Dev} {x_grain : Grain} {x_hinge : Hinge} (hw_grain : w.testBit 30 = true) (hw_hinge : w.testBit 41 = true) (h : Frame w d e) :
    Frame w d { e with grain := x_grain, hinge := x_hinge } := by
  refine h.trans ?_
  constructor
  case canon => exact fun hc => { hc with  }
  case grain => exact fun hn => absurd hw_grain (by simp [hn])
  case hinge => exact fun hn => absurd hw_hinge (by simp [hn])
  all_goals (intros; rfl)

theorem Frame.pcie_mgmt_of {w : Nat} {d e : Dev} {x_pcie : Pcie} {x_mgmt : Mgmt} (hw_pcie : w.testBit 22 = true) (hw_mgmt : w.testBit 23 = true) (h : Frame w d e) :
    Frame w d { e with pcie := x_pcie, mgmt := x_mgmt } := by
  refine h.trans ?_
  constructor
  case canon => exact fun hc => { hc with  }
  case pcie => exact fun hn => absurd hw_pcie (by simp [hn])
  case mgmt => exact fun hn => absurd hw_mgmt (by simp [hn])
  all_goals (intros; rfl)

theorem Frame.jobs_nextJob_of {w : Nat} {d e : Dev} {x_jobs : List Job} {x_nextJob : Nat} (hw_jobs : w.testBit 8 = true) (hw_nextJob : w.testBit 9 = true) (h : Frame w d e) :
    Frame w d { e with jobs := x_jobs, nextJob := x_nextJob } := by
  refine h.trans ?_
  constructor
  case canon => exact fun hc => { hc with  }
  case jobs => exact fun hn => absurd hw_jobs (by simp [hn])
  case nextJob => exact fun hn => absurd hw_nextJob (by simp [hn])
  all_goals (intros; rfl)

theorem Frame.mram_recorder_of {w : Nat} {d e : Dev} {x_mram : Mram} {x_recorder : Recorder} (hw_mram : w.testBit 7 = true) (hw_recorder : w.testBit 15 = true) (h : Frame w d e) :
    Frame w d { e with mram := x_mram, recorder := x_recorder } := by
  refine h.trans ?_
  constructor
  case canon => exact fun hc => { hc with  }
  case mram => exact fun hn => absurd hw_mram (by simp [hn])
  case recorder => exact fun hn => absurd hw_recorder (by simp [hn])
  all_goals (intros; rfl)

theorem Frame.fnMasked_pcie_of {w : Nat} {d e : Dev} {x_fnMasked : Nat} {x_pcie : Pcie} (hw_fnMasked : w.testBit 14 = true) (hw_pcie : w.testBit 22 = true) (h : Frame w d e) :
    Frame w d { e with fnMasked := x_fnMasked, pcie := x_pcie } := by
  refine h.trans ?_
  constructor
  case canon => exact fun hc => { hc with  }
  case fnMasked => exact fun hn => absurd hw_fnMasked (by simp [hn])
  case pcie => exact fun hn => absurd hw_pcie (by simp [hn])
  all_goals (intros; rfl)

theorem Frame.host_pcie_of {w : Nat} {d e : Dev} {x_host : Bytes} {x_pcie : Pcie} (hw_host : w.testBit 4 = true) (hx_host : e.canonical → Bytes.wf x_host = true) (hw_pcie : w.testBit 22 = true) (h : Frame w d e) :
    Frame w d { e with host := x_host, pcie := x_pcie } := by
  refine h.trans ?_
  constructor
  case canon => exact fun hc => { hc with host := hx_host hc }
  case host => exact fun hn => absurd hw_host (by simp [hn])
  case pcie => exact fun hn => absurd hw_pcie (by simp [hn])
  all_goals (intros; rfl)

end Sys2Proof.Machine
end

