-- ==== Sys2Proof/Laws/Base.lean ====
section
/-! SUPPORT. What the primitive operations do: the register field they set, and the frame of everything else. -/

namespace Sys2Proof.Machine

/-- The bit of a register field in a frame's mask. -/
abbrev Fld.bit (f : Fld) : Nat := 2 ^ (64 + f.ctorIdx)

/-- The bits of the fields that a write of a register, or its refusal, can change. -/
def Reg.mask (r : Reg) : Nat :=
  r.fields.foldl (fun m f => m ||| f.bit) ((r.rejFlag 0).elim 0 (fun x => x.1.bit))

theorem Fld.ctorIdx_inj {f g : Fld} (h : f.ctorIdx = g.ctorIdx) : f = g := by
  have := congrArg Fld.ofNat h
  simpa [Fld.ofNat_ctorIdx] using this

/-! ### Register fields -/

/-- A register field reads as it was set, cut to its width. -/
@[simp] theorem Dev.get_put_self (d : Dev) (f : Fld) (v i j : Nat) : (d.put f v i j).get f i j = v % 2 ^ f.width :=
  cellsGet_set_self _ _ _ _ _

/-- Setting one field instance leaves every other. -/
theorem Dev.get_put_of_ne (d : Dev) (f g : Fld) (v i j k l : Nat) (h : ¬ (g = f ∧ k = i ∧ l = j)) :
    (d.put f v i j).get g k l = d.get g k l :=
  cellsGet_set_ne _ _ _ _ _ _ _ _ h

/-- Setting one field leaves every other field. -/
@[simp] theorem Dev.get_put_ne (d : Dev) (f g : Fld) (v i j k l : Nat) (h : g ≠ f) : (d.put f v i j).get g k l = d.get g k l :=
  d.get_put_of_ne f g v i j k l (fun x => h x.1)

theorem Dev.put_frame (d : Dev) (f : Fld) (v i j : Nat) : Frame f.bit d (d.put f v i j) := by
  constructor
  case get =>
    intro g k l hw
    refine d.get_put_ne f g v i j k l (fun hg => ?_)
    subst hg
    simp at hw
  case canon => exact fun hc => { hc with regs := cellsWf_set _ _ _ _ _ hc.regs }
  all_goals (intros; rfl)

theorem Dev.latch_frame (d : Dev) (f : Fld) (i j : Nat) : Frame 0x4 d (d.latch f i j) :=
  Frame.force_of rfl (fun hc => cellsWf_set _ _ _ _ _ hc.force) Frame.refl

theorem Dev.latchWhere_frame (d : Dev) (p : RegCell → Bool) : Frame 0x4 d (d.latchWhere p) :=
  Frame.foldl (Frame.foldl Frame.refl (fun _ _ h => h.trans (Dev.latch_frame ..))) (fun _ _ h => h.trans (Dev.latch_frame ..))

theorem cellsGet_filter_ne (cs : List RegCell) (p : RegCell → Bool) (f : Fld) (i j : Nat)
    (h : ∀ c, c.fld = f → p c = true) : cellsGet (cs.filter p) f i j = cellsGet cs f i j := by
  induction cs with
  | nil => rfl
  | cons c cs ih =>
    by_cases hc : p c = true
    · simp [hc, cellsGet, ih]
    · have : c.isAt f i j = false := by
        rw [Bool.eq_false_iff, ne_eq, RegCell.isAt_iff]
        exact fun x => hc (h c x.1)
      simp [hc, cellsGet, ih, this]

/-- Fields put back to their reset values. -/
theorem Frame.resetWhere {w : Nat} {d e : Dev} {p : RegCell → Bool} (hw : w.testBit 2 = true)
    (hp : ∀ c, p c = true → w.testBit (64 + c.fld.ctorIdx) = true) (h : Frame w d e) : Frame w d (e.resetWhere p) := by
  refine h.trans ?_
  constructor
  case get =>
    intro g k l hb
    refine cellsGet_filter_ne _ _ _ _ _ (fun c hc => ?_)
    by_contra hn
    have := hp c (by simpa using hn)
    rw [hc, hb] at this
    exact absurd this (by simp)
  case canon => exact fun hc => { hc with regs := cellsWf_filter _ _ hc.regs, force := cellsWf_filter _ _ hc.force }
  case force => exact fun hn => absurd hw (by simp [hn])
  all_goals (intros; rfl)

theorem Dev.addFresh_frame (d : Dev) (c : RegCell) : Frame 0x200000 d (d.addFresh c) := Frame.cal_of rfl Frame.refl

/-- New calibration values come into force. -/
theorem Frame.bringFresh {w : Nat} {d e : Dev} {p : RegCell → Bool} (hw : w.testBit 21 = true)
    (hp : ∀ c, p c = true → w.testBit (64 + c.fld.ctorIdx) = true) (h : Frame w d e) : Frame w d (e.bringFresh p) := by
  unfold Dev.bringFresh
  extract_lets now k x
  have hx : Frame w d x := Frame.cal_of hw h
  have hn : ∀ c ∈ now, w.testBit (64 + c.fld.ctorIdx) = true := fun c hc => hp c (List.mem_filter.mp hc).2
  clear_value now k x
  induction now generalizing x with
  | nil => exact hx
  | cons c cs ih =>
    refine ih _ (hx.step' (Dev.put_frame ..) ?_) (fun c hc => hn c (by simp [hc]))
    apply Nat.eq_of_testBit_eq
    intro k
    by_cases hk : k = 64 + c.fld.ctorIdx
    · subst hk; simp [Nat.testBit_or, hn c (by simp)]
    · simp [Nat.testBit_or, Nat.testBit_two_pow, Ne.symm hk]

/-! ### Combinators -/

theorem Frame.when {w : Nat} {d e : Dev} {c : Bool} {g : Dev → Dev} (hg : ∀ x, Frame w d x → Frame w d (g x)) (h : Frame w d e) :
    Frame w d (e.when c g) := by
  unfold Dev.when
  split
  · exact hg _ h
  · exact h

theorem Reg.rejFlag_fld (r : Reg) (i : Nat) : (r.rejFlag i).map Prod.fst = (r.rejFlag 0).map Prod.fst := by
  simp only [Reg.rejFlag, apply_ite (Option.map Prod.fst), Option.map_some, Option.map_none]

theorem Within.or_left {a b c : Nat} (h : Within a b) : Within a (b ||| c) := by
  unfold Within at *
  rw [← Nat.lor_assoc, h]

theorem Within.or_right {a b c : Nat} (h : Within a c) : Within a (b ||| c) := by
  unfold Within at *
  rw [Nat.lor_comm b c, ← Nat.lor_assoc, h]

theorem Within.or {a b c : Nat} (h : Within a c) (k : Within b c) : Within (a ||| b) c := by
  unfold Within at *
  rw [Nat.lor_assoc, k, h]

theorem Within.refl {a : Nat} : Within a a := Nat.or_self a

theorem Within.trans {a b c : Nat} (h : Within a b) (k : Within b c) : Within a c := by
  unfold Within at *
  rw [← k, ← Nat.lor_assoc, h]

theorem Reg.mask_foldl (l : List Fld) (m : Nat) : Within m (l.foldl (fun m f => m ||| f.bit) m) := by
  induction l generalizing m with
  | nil => exact Within.refl
  | cons f l ih => exact Within.trans (Within.or_left Within.refl) (ih _)

theorem Reg.mask_mem (l : List Fld) (m : Nat) (f : Fld) (hf : f ∈ l) : Within f.bit (l.foldl (fun m f => m ||| f.bit) m) := by
  induction l generalizing m with
  | nil => simp at hf
  | cons g l ih =>
    rcases List.mem_cons.mp hf with rfl | hf
    · exact Within.trans (Within.or_right Within.refl) (Reg.mask_foldl l _)
    · exact ih _ hf

theorem Dev.reject_frame (d : Dev) (r : Reg) (i : Nat) : Frame r.mask d (d.reject r i) := by
  unfold Dev.reject
  have h := r.rejFlag_fld i
  split
  · rename_i f k hf
    refine (Dev.put_frame ..).mono (Within.trans ?_ (Reg.mask_foldl r.fields _))
    rw [hf] at h
    cases h0 : r.rejFlag 0 with
    | none => rw [h0] at h; simp at h
    | some x =>
      rw [h0] at h
      simp only [Option.map_some, Option.some.injEq] at h
      subst h
      exact Within.refl
  · exact Frame.refl

/-- A field of a register lies in the register's fields. -/
theorem Dev.writeField_frame (d : Dev) (f : Fld) (value i j : Nat) (hf : f ∈ f.reg.fields) :
    Frame f.reg.mask d (d.writeField f value i j) := by
  unfold Dev.writeField
  extract_lets v set
  have hset : ∀ x, Frame f.reg.mask x (set x) := by
    intro x
    change Frame _ x (if _ then _ else _)
    split
    · exact (Dev.put_frame ..).mono (Reg.mask_mem _ _ _ hf)
    · exact Dev.reject_frame ..
  clear_value set
  split
  · exact Frame.refl
  · exact Frame.refl
  · exact (Dev.put_frame ..).mono (Reg.mask_mem _ _ _ hf)
  · exact hset d
  · split
    · exact Frame.refl
    · exact hset d

theorem Reg.fields_reg (r : Reg) (f : Fld) (hf : f ∈ r.fields) : f.reg = r := by
  unfold Reg.fields at hf
  split at hf
  · simpa using (List.mem_filter.mp hf).2
  · simp at hf

theorem Dev.writeField_of_mem (d : Dev) (r : Reg) (f : Fld) (value i j : Nat) (hf : f ∈ r.fields) :
    Frame r.mask d (d.writeField f value i j) := by
  have := r.fields_reg f hf
  subst this
  exact Dev.writeField_frame d f value i j hf

/-- An operation folded over the fields of a register. -/
theorem Frame.foldl_mem {ι : Type} {w : Nat} {d e : Dev} {l : List ι} {g : Dev → ι → Dev} (h : Frame w d e)
    (hg : ∀ x, ∀ a ∈ l, Frame w d x → Frame w d (g x a)) : Frame w d (l.foldl g e) := by
  induction l generalizing e with
  | nil => exact h
  | cons a l ih => exact ih (hg e a (by simp) h) (fun x b hb => hg x b (by simp [hb]))

theorem Dev.writeReg_frame (d : Dev) (r : Reg) (i j value : Nat) : Frame r.mask d (d.writeReg r i j value) :=
  Frame.foldl_mem Frame.refl (fun _ f hf h => h.trans (Dev.writeField_of_mem _ r f value i j hf))

theorem Frame.foldlPair {ι α : Type} {w : Nat} {d : Dev} {l : List ι} {g : α × Dev → ι → α × Dev} {a : α × Dev}
    (hg : ∀ a i, Frame w d a.2 → Frame w d (g a i).2) (h : Frame w d a.2) : Frame w d (l.foldl g a).2 := by
  induction l generalizing a with
  | nil => exact h
  | cons i l ih => exact ih (hg _ _ h)

theorem Within.bit {a w k : Nat} (h : Within a w) (hk : a.testBit k = true) : w.testBit k = true := by
  have := congrArg (fun x => x.testBit k) h
  simpa [Nat.testBit_or, hk] using this.symm

/-- Operations named on the way. -/
theorem Frame.cutFn {w : Nat} {d e : Dev} (g : Dev → Dev) (hg : ∀ y, Frame w d y → Frame w d (g y))
    (k : (∀ y, Frame w d y → Frame w d (g y)) → Frame w d e) : Frame w d e := k hg

theorem Frame.cutFnR {α : Type} {w : Nat} {d e : Dev} (g : Dev → α → Dev) (hg : ∀ y a, Frame w d y → Frame w d (g y a))
    (k : (∀ y a, Frame w d y → Frame w d (g y a)) → Frame w d e) : Frame w d e := k hg

theorem Frame.cutFnL {α : Type} {w : Nat} {d e : Dev} (g : α → Dev → Dev) (hg : ∀ a y, Frame w d y → Frame w d (g a y))
    (k : (∀ a y, Frame w d y → Frame w d (g a y)) → Frame w d e) : Frame w d e := k hg

theorem Frame.forAll {ι : Type} {w : Nat} {d e : Dev} {l : List ι} {g : Dev → ι → Dev} (hg : ∀ x a, Frame w d x → Frame w d (g x a))
    (h : Frame w d e) : Frame w d (forAll l g e) := Frame.foldl h hg

/-! ### Sets of fields given by a test -/

/-- Whether a mask names every field that a test selects. -/
def Fld.covers (q : Fld → Bool) (w : Nat) : Bool :=
  (List.range 769).all (fun n => !q (Fld.ofNat n) || w.testBit (64 + n))

theorem Fld.lt (f : Fld) : f.ctorIdx < 769 := by cases f <;> decide

theorem Fld.covers_spec {q : Fld → Bool} {w : Nat} (h : Fld.covers q w = true) (f : Fld) (hf : q f = true) :
    w.testBit (64 + f.ctorIdx) = true := by
  have := List.all_eq_true.mp h f.ctorIdx (List.mem_range.mpr f.lt)
  simpa [Fld.ofNat_ctorIdx, hf] using this

theorem Fld.within_of_testBit {f : Fld} {w : Nat} (h : w.testBit (64 + f.ctorIdx) = true) : Within f.bit w := by
  apply Nat.eq_of_testBit_eq
  intro k
  by_cases hk : k = 64 + f.ctorIdx
  · subst hk; simp [Nat.testBit_or, h]
  · simp [Nat.testBit_or, Ne.symm hk]

theorem Fld.within {q : Fld → Bool} {w : Nat} (h : Fld.covers q w = true) (f : Fld) (hf : q f = true) : Within f.bit w :=
  Fld.within_of_testBit (Fld.covers_spec h f hf)

theorem Frame.resetFlds {w : Nat} {d e : Dev} {p : RegCell → Bool} (q : Fld → Bool) (hp : ∀ c, p c = true → q c.fld = true)
    (hq : Fld.covers q w = true) (hw : w.testBit 2 = true) (h : Frame w d e) : Frame w d (e.resetWhere p) :=
  Frame.resetWhere hw (fun c hc => Fld.covers_spec hq _ (hp c hc)) h

theorem Frame.bringFlds {w : Nat} {d e : Dev} {p : RegCell → Bool} (q : Fld → Bool) (hp : ∀ c, p c = true → q c.fld = true)
    (hq : Fld.covers q w = true) (hw : w.testBit 21 = true) (h : Frame w d e) : Frame w d (e.bringFresh p) :=
  Frame.bringFresh hw (fun c hc => Fld.covers_spec hq _ (hp c hc)) h

theorem Within.foldl {ι : Type} {l : List ι} {g : ι → Nat} {m w : Nat} (hm : Within m w) (h : ∀ a ∈ l, Within (g a) w) :
    Within (l.foldl (fun m a => m ||| g a) m) w := by
  induction l generalizing m with
  | nil => exact hm
  | cons a l ih => exact ih (Within.or hm (h a (by simp))) (fun b hb => h b (by simp [hb]))

/-- A mask that names every register field names those of a register. -/
theorem Reg.mask_within {w : Nat} (h : Fld.covers (fun _ => true) w = true) (r : Reg) : Within r.mask w := by
  refine Within.foldl ?_ (fun f _ => Fld.within h f rfl)
  cases r.rejFlag 0 with
  | none => exact Nat.zero_or _
  | some x => exact Fld.within h x.1 rfl

/-- A meaning answers a next state with the queue as it was, within a frame that its operations keep. -/
theorem State.act_frame {w : Nat} {s : State} {dt : Nat} {f : Dev → Dev} (hw : Within 0x3 w)
    (h : ∀ d, Frame w s.dev d → Frame w s.dev (f d)) : ∃ e, s.act dt f = .next { s with dev := e } ∧ Frame w s.dev e :=
  ⟨_, rfl, h _ (Frame.now_run_of (hw.bit rfl) (hw.bit rfl) Frame.refl)⟩

theorem Tab.wf_nil {α : Type} [DecidableEq α] (e : α) : Tab.wf e [] = true := rfl

end Sys2Proof.Machine
end

