-- ==== Sys2Proof/Laws/FramesShared.lean ====
section
/-! SUPPORT. Frames of the operations shared by the families: registers, completions, events, engines, kerf, grain, tiles, axes and cameras.
One lemma each; the mask of a frame names the parts and register fields that may change (Laws/Frame.lean). -/

namespace Sys2Proof.Machine

open Sys2Proof

set_option Elab.async false

/-! ### Ops.lean -/

theorem Dev.raise_frame (d : Dev) (f : Fld) (i : Nat) (j : Nat) :
    Frame f.bit d (Dev.raise d f i j) := by
  unfold Dev.raise
  repeat' first
    | (with_reducible assumption)
    | (with_reducible exact Frame.refl)
    | ((with_reducible refine Frame.foldl ?_ (fun _ _ _ => ?_)))
    | ((with_reducible apply Frame.step (Dev.put_frame ..)); case hw => first | decide +kernel | exact Within.refl)

theorem Dev.lower_frame (d : Dev) (f : Fld) (i : Nat) (j : Nat) :
    Frame f.bit d (Dev.lower d f i j) := by
  unfold Dev.lower
  repeat' first
    | (with_reducible assumption)
    | (with_reducible exact Frame.refl)
    | ((with_reducible refine Frame.foldl ?_ (fun _ _ _ => ?_)))
    | ((with_reducible apply Frame.step (Dev.put_frame ..)); case hw => first | decide +kernel | exact Within.refl)

theorem Dev.putB_frame (d : Dev) (f : Fld) (b : Bool) (i : Nat) (j : Nat) :
    Frame f.bit d (Dev.putB d f b i j) := by
  unfold Dev.putB
  repeat' first
    | (with_reducible assumption)
    | (with_reducible exact Frame.refl)
    | ((with_reducible refine Frame.foldl ?_ (fun _ _ _ => ?_)))
    | ((with_reducible apply Frame.step (Dev.put_frame ..)); case hw => first | decide +kernel | exact Within.refl)

theorem Dev.bump_frame (d : Dev) (f : Fld) (k : Nat) (i : Nat) (j : Nat) :
    Frame f.bit d (Dev.bump d f k i j) := by
  unfold Dev.bump
  repeat' first
    | (with_reducible assumption)
    | (with_reducible exact Frame.refl)
    | ((with_reducible refine Frame.foldl ?_ (fun _ _ _ => ?_)))
    | ((with_reducible apply Frame.step (Dev.put_frame ..)); case hw => first | decide +kernel | exact Within.refl)

theorem Dev.puts_frame (d : Dev) (f : Fld) (v : Int) (i : Nat) (j : Nat) :
    Frame f.bit d (Dev.puts d f v i j) := by
  unfold Dev.puts
  repeat' first
    | (with_reducible assumption)
    | (with_reducible exact Frame.refl)
    | ((with_reducible refine Frame.foldl ?_ (fun _ _ _ => ?_)))
    | ((with_reducible apply Frame.step (Dev.put_frame ..)); case hw => first | decide +kernel | exact Within.refl)

theorem Dev.elapse_frame (d : Dev) (dt : Nat) :
    Frame 0x3 d (Dev.elapse d dt) := by
  unfold Dev.elapse
  repeat' first
    | (with_reducible assumption)
    | (with_reducible exact Frame.refl)
    | ((with_reducible refine Frame.foldl ?_ (fun _ _ _ => ?_)))
    | split
    | refine Frame.now_run_of rfl rfl ?_

theorem Dev.freeNext_frame (d : Dev) :
    Frame 0x8 d (Dev.freeNext d) := by
  unfold Dev.freeNext
  repeat' first
    | (with_reducible assumption)
    | (with_reducible exact Frame.refl)
    | ((with_reducible refine Frame.foldl ?_ (fun _ _ _ => ?_)))
    | split
    | ((with_reducible refine Frame.free_of ?hw ?_); case hw => rfl)

theorem Dev.putFree_frame (d : Dev) (f : Fld) (i : Nat) (j : Nat) :
    Frame (0x8 ||| f.bit) d (Dev.putFree d f i j) := by
  unfold Dev.putFree
  repeat' first
    | (with_reducible assumption)
    | (with_reducible exact Frame.refl)
    | ((with_reducible refine Frame.foldl ?_ (fun _ _ _ => ?_)))
    | ((with_reducible apply Frame.step (Dev.freeNext_frame ..)); case hw => first | decide +kernel | exact Within.refl | assumption | exact Reg.mask_within (by decide +kernel) _ | (repeat' first | exact Within.refl | decide +kernel | exact Reg.mask_within (by decide +kernel) _ | exact Within.or_right Within.refl | refine Within.or ?_ ?_ | exact Within.or_left (by decide +kernel) | exact Within.or_right (by decide +kernel)))
    | ((with_reducible apply Frame.step (Dev.put_frame ..)); case hw => first | decide +kernel | exact Within.refl | assumption | exact Reg.mask_within (by decide +kernel) _ | (repeat' first | exact Within.refl | decide +kernel | exact Reg.mask_within (by decide +kernel) _ | exact Within.or_right Within.refl | refine Within.or ?_ ?_ | exact Within.or_left (by decide +kernel) | exact Within.or_right (by decide +kernel)))

theorem Dev.setFn_frame (d : Dev) (f : Nat) (x : HostFn) :
    Frame 0x400 d (Dev.setFn d f x) := by
  unfold Dev.setFn
  repeat' first
    | (with_reducible assumption)
    | (with_reducible exact Frame.refl)
    | ((with_reducible refine Frame.foldl ?_ (fun _ _ _ => ?_)))
    | split
    | ((with_reducible refine Frame.hostFns_of ?hw ?hx ?_); (case hw => (first | rfl | (simp))); (case hx => (intro hc; first | exact Tab.wf_set _ _ _ _ hc.hostFns | exact Tab.wf_filter _ _ _ hc.hostFns | exact Tab.wf_nil _)))

theorem Dev.setSq_frame (d : Dev) (f : Nat) (r : Nat) (x : SqState) :
    Frame 0x400 d (Dev.setSq d f r x) := by
  unfold Dev.setSq
  repeat' first
    | (with_reducible assumption)
    | (with_reducible exact Frame.refl)
    | (extract_lets +onlyGivenNames x; clear_value x; revert x; intro _)
    | ((with_reducible refine Frame.foldl ?_ (fun _ _ _ => ?_)))
    | ((with_reducible apply Frame.step (Dev.setFn_frame ..)); case hw => rfl)

theorem Dev.setCq_frame (d : Dev) (f : Nat) (c : Nat) (x : CqState) :
    Frame 0x400 d (Dev.setCq d f c x) := by
  unfold Dev.setCq
  repeat' first
    | (with_reducible assumption)
    | (with_reducible exact Frame.refl)
    | (extract_lets +onlyGivenNames x; clear_value x; revert x; intro _)
    | ((with_reducible refine Frame.foldl ?_ (fun _ _ _ => ?_)))
    | ((with_reducible apply Frame.step (Dev.setFn_frame ..)); case hw => rfl)

theorem Dev.setSrc_frame (d : Dev) (s : Nat) (x : SrcState) :
    Frame 0x1000 d (Dev.setSrc d s x) := by
  unfold Dev.setSrc
  repeat' first
    | (with_reducible assumption)
    | (with_reducible exact Frame.refl)
    | ((with_reducible refine Frame.foldl ?_ (fun _ _ _ => ?_)))
    | split
    | ((with_reducible refine Frame.srcs_of ?hw ?hx ?_); (case hw => (first | rfl | (simp))); (case hx => (intro hc; first | exact Tab.wf_set _ _ _ _ hc.srcs | exact Tab.wf_filter _ _ _ hc.srcs | exact Tab.wf_nil _)))

theorem Dev.setVec_frame (d : Dev) (f : Nat) (v : Nat) (x : VecState) :
    Frame 0x2000 d (Dev.setVec d f v x) := by
  unfold Dev.setVec
  repeat' first
    | (with_reducible assumption)
    | (with_reducible exact Frame.refl)
    | ((with_reducible refine Frame.foldl ?_ (fun _ _ _ => ?_)))
    | split
    | ((with_reducible refine Frame.vecs_of ?hw ?hx ?_); (case hw => (first | rfl | (simp))); (case hx => (intro hc; first | exact Tab.wf_set _ _ _ _ hc.vecs | exact Tab.wf_filter _ _ _ hc.vecs | exact Tab.wf_nil _)))

theorem Dev.setIsland_frame (d : Dev) (n : Nat) (x : Island) :
    Frame 0x10000 d (Dev.setIsland d n x) := by
  unfold Dev.setIsland
  repeat' first
    | (with_reducible assumption)
    | (with_reducible exact Frame.refl)
    | ((with_reducible refine Frame.foldl ?_ (fun _ _ _ => ?_)))
    | split
    | ((with_reducible refine Frame.islands_of ?hw ?hx ?_); (case hw => (first | rfl | (simp))); (case hx => (intro hc; first | exact Tab.wf_set _ _ _ _ hc.islands | exact Tab.wf_filter _ _ _ hc.islands | exact Tab.wf_nil _)))

theorem Dev.setChan_frame (d : Dev) (c : Nat) (x : DramChan) :
    Frame 0x40000 d (Dev.setChan d c x) := by
  unfold Dev.setChan
  repeat' first
    | (with_reducible assumption)
    | (with_reducible exact Frame.refl)
    | ((with_reducible refine Frame.foldl ?_ (fun _ _ _ => ?_)))
    | split
    | ((with_reducible refine Frame.dramCh_of ?hw ?hx ?_); (case hw => (first | rfl | (simp))); (case hx => (intro hc; first | exact Tab.wf_set _ _ _ _ hc.dramCh | exact Tab.wf_filter _ _ _ hc.dramCh | exact Tab.wf_nil _)))

theorem Dev.setSensor_frame (d : Dev) (k : Nat) (x : Sensor) :
    Frame 0x80000 d (Dev.setSensor d k x) := by
  unfold Dev.setSensor
  repeat' first
    | (with_reducible assumption)
    | (with_reducible exact Frame.refl)
    | ((with_reducible refine Frame.foldl ?_ (fun _ _ _ => ?_)))
    | split
    | ((with_reducible refine Frame.sensors_of ?hw ?hx ?_); (case hw => (first | rfl | (simp))); (case hx => (intro hc; first | exact Tab.wf_set _ _ _ _ hc.sensors | exact Tab.wf_filter _ _ _ hc.sensors | exact Tab.wf_nil _)))

theorem Dev.setCover_frame (d : Dev) (s : Nat) (x : Cover) :
    Frame 0x200000 d (Dev.setCover d s x) := by
  unfold Dev.setCover
  repeat' first
    | (with_reducible assumption)
    | (with_reducible exact Frame.refl)
    | (extract_lets +onlyGivenNames x; clear_value x; revert x; intro _)
    | ((with_reducible refine Frame.foldl ?_ (fun _ _ _ => ?_)))
    | split
    | ((with_reducible refine Frame.cal_of ?hw ?_); case hw => rfl)

theorem Dev.setEng_frame (d : Dev) (n : Nat) (x : Engine) :
    Frame 0x8000000 d (Dev.setEng d n x) := by
  unfold Dev.setEng
  repeat' first
    | (with_reducible assumption)
    | (with_reducible exact Frame.refl)
    | ((with_reducible refine Frame.foldl ?_ (fun _ _ _ => ?_)))
    | split
    | ((with_reducible refine Frame.engines_of ?hw ?hx ?_); (case hw => (first | rfl | (simp))); (case hx => (intro hc; first | exact Tab.wf_set _ _ _ _ hc.engines | exact Tab.wf_filter _ _ _ hc.engines | exact Tab.wf_nil _)))

theorem Dev.modEng_frame (d : Dev) (n : Nat) (g : Engine → Engine) :
    Frame 0x8000000 d (Dev.modEng d n g) := by
  unfold Dev.modEng
  repeat' first
    | (with_reducible assumption)
    | (with_reducible exact Frame.refl)
    | ((with_reducible refine Frame.foldl ?_ (fun _ _ _ => ?_)))
    | ((with_reducible apply Frame.step (Dev.setEng_frame ..)); case hw => rfl)

theorem Dev.setLink_frame (d : Dev) (c : Nat) (x : ChLink) :
    Frame 0x10000000 d (Dev.setLink d c x) := by
  unfold Dev.setLink
  repeat' first
    | (with_reducible assumption)
    | (with_reducible exact Frame.refl)
    | ((with_reducible refine Frame.foldl ?_ (fun _ _ _ => ?_)))
    | split
    | ((with_reducible refine Frame.links_of ?hw ?hx ?_); (case hw => (first | rfl | (simp))); (case hx => (intro hc; first | exact Tab.wf_set _ _ _ _ hc.links | exact Tab.wf_filter _ _ _ hc.links | exact Tab.wf_nil _)))

theorem Dev.modJob_frame (d : Dev) (id : Nat) (g : Job → Job) :
    Frame 0x100 d (Dev.modJob d id g) := by
  unfold Dev.modJob
  repeat' first
    | (with_reducible assumption)
    | (with_reducible exact Frame.refl)
    | ((with_reducible refine Frame.foldl ?_ (fun _ _ _ => ?_)))
    | split
    | ((with_reducible refine Frame.jobs_of ?hw ?_); case hw => rfl)

theorem Dev.dropJob_frame (d : Dev) (id : Nat) :
    Frame 0x100 d (Dev.dropJob d id) := by
  unfold Dev.dropJob
  repeat' first
    | (with_reducible assumption)
    | (with_reducible exact Frame.refl)
    | ((with_reducible refine Frame.foldl ?_ (fun _ _ _ => ?_)))
    | split
    | ((with_reducible refine Frame.jobs_of ?hw ?_); case hw => rfl)

theorem Dev.hostWrite_frame (d : Dev) (f : Nat) (a : Nat) (bs : List Byte) :
    Frame 0x400010 d (Dev.hostWrite d f a bs) := by
  unfold Dev.hostWrite
  repeat' first
    | (with_reducible assumption)
    | (with_reducible exact Frame.refl)
    | (extract_lets +onlyGivenNames x; clear_value x; revert x; intro _)
    | ((with_reducible refine Frame.foldl ?_ (fun _ _ _ => ?_)))
    | split
    | refine Frame.host_pcie_of rfl (by intro hc; exact Bytes.wf_writeList _ _ _ hc.host) rfl ?_

theorem Dev.hostOut_frame (d : Dev) (f : Nat) (a : Nat) (bs : List Byte) :
    Frame 0x400410 d (Dev.hostOut d f a bs) := by
  unfold Dev.hostOut
  repeat' first
    | (with_reducible assumption)
    | (with_reducible exact Frame.refl)
    | (extract_lets +onlyGivenNames x; clear_value x; revert x; intro _)
    | ((with_reducible refine Frame.foldl ?_ (fun _ _ _ => ?_)))
    | ((with_reducible apply Frame.step (Dev.hostWrite_frame ..)); case hw => rfl)
    | ((with_reducible apply Frame.step (Dev.setFn_frame ..)); case hw => rfl)
    | split

theorem Dev.hostPut_frame (d : Dev) (f : Nat) (a : Nat) (n : Nat) (v : Nat) :
    Frame 0x400010 d (Dev.hostPut d f a n v) := by
  unfold Dev.hostPut
  repeat' first
    | (with_reducible assumption)
    | (with_reducible exact Frame.refl)
    | ((with_reducible refine Frame.foldl ?_ (fun _ _ _ => ?_)))
    | ((with_reducible apply Frame.step (Dev.hostWrite_frame ..)); case hw => rfl)

theorem Dev.dramWrite_frame (d : Dev) (a : Nat) (bs : List Byte) :
    Frame 0x20 d (Dev.dramWrite d a bs) := by
  unfold Dev.dramWrite
  repeat' first
    | (with_reducible assumption)
    | (with_reducible exact Frame.refl)
    | ((with_reducible refine Frame.foldl ?_ (fun _ _ _ => ?_)))
    | split
    | ((with_reducible refine Frame.dram_of ?hw ?hx ?_); (case hw => (first | rfl | (simp))); (case hx => (intro hc; exact Bytes.wf_writeList _ _ _ hc.dram)))

/-! ### Flags.lean -/

theorem Dev.freezeLayer_frame (d : Dev) (f : Nat) :
    Frame 0x4000000000000000000000020000 d (Dev.freezeLayer d f) := by
  unfold Dev.freezeLayer
  repeat' first
    | (with_reducible assumption)
    | (with_reducible exact Frame.refl)
    | (extract_lets +onlyGivenNames x; first | (refine Frame.cut x ?_ (fun _ => ?_); rotate_left; clear_value x; revert x; intro _ _; rotate_left; subst x) | (clear_value x; revert x; intro _))
    | ((with_reducible refine Frame.foldl ?_ (fun _ _ _ => ?_)))
    | ((with_reducible apply Frame.step (Dev.lower_frame ..)); case hw => decide +kernel)
    | split
    | ((with_reducible refine Frame.layer_of ?hw ?_); case hw => rfl)

theorem Dev.freeze_frame (d : Dev) (f : Nat) (cause : Nat) (addr : Nat) (offender : (Option Nat)) :
    Frame 0x368000000000004000000000000000000000020400 d (Dev.freeze d f cause addr offender) := by
  unfold Dev.freeze
  repeat' first
    | (with_reducible assumption)
    | (with_reducible exact Frame.refl)
    | (extract_lets +onlyGivenNames x; first | (refine Frame.cut x ?_ (fun _ => ?_); rotate_left; clear_value x; revert x; intro _ _; rotate_left; subst x) | (clear_value x; revert x; intro _) | (subst x))
    | ((with_reducible refine Frame.foldl ?_ (fun _ _ _ => ?_)))
    | ((with_reducible apply Frame.step (Dev.bump_frame ..)); case hw => decide +kernel)
    | ((with_reducible apply Frame.step (Dev.put_frame ..)); case hw => decide +kernel)
    | ((with_reducible apply Frame.step (Dev.raise_frame ..)); case hw => decide +kernel)
    | ((with_reducible apply Frame.step (Dev.setFn_frame ..)); case hw => decide +kernel)
    | ((with_reducible apply Frame.step (Dev.freezeLayer_frame ..)); case hw => decide +kernel)
    | split

theorem Dev.jobWrite_frame (d : Dev) (j : Job) (a : Nat) (bs : List Byte) :
    Frame 0x368000000000004000000000000000000000420510 d (Dev.jobWrite d j a bs) := by
  unfold Dev.jobWrite
  repeat' first
    | (with_reducible assumption)
    | (with_reducible exact Frame.refl)
    | (extract_lets +onlyGivenNames x; refine Frame.cut x ?_ (fun _ => ?_); rotate_left; clear_value x; revert x; intro _ _; rotate_left; subst x)
    | ((with_reducible refine Frame.foldl ?_ (fun _ _ _ => ?_)))
    | ((with_reducible apply Frame.step (Dev.hostOut_frame ..)); case hw => rfl)
    | ((with_reducible apply Frame.step (Dev.freeze_frame ..)); case hw => rfl)
    | ((with_reducible apply Frame.step (Dev.modJob_frame ..)); case hw => rfl)
    | split

theorem Dev.flushHeld_frame (d : Dev) (f : Nat) :
    Frame 0x368000000000004000000000000000000000420410 d (Dev.flushHeld d f) := by
  unfold Dev.flushHeld
  repeat' first
    | (with_reducible assumption)
    | (with_reducible exact Frame.refl)
    | (extract_lets +onlyGivenNames x; first | (clear_value x; revert x; intro _) | (subst x))
    | ((with_reducible refine Frame.foldl ?_ (fun _ _ _ => ?_)))
    | ((with_reducible apply Frame.step (Dev.hostWrite_frame ..)); case hw => rfl)
    | ((with_reducible apply Frame.step (Dev.freeze_frame ..)); case hw => rfl)
    | ((with_reducible apply Frame.step (Dev.setFn_frame ..)); case hw => rfl)
    | split

theorem Dev.fabSend_frame (d : Dev) (m : FabMsg) :
    Frame 0x6000000 d (Dev.fabSend d m) := by
  unfold Dev.fabSend
  repeat' first
    | (with_reducible assumption)
    | (with_reducible exact Frame.refl)
    | (extract_lets +onlyGivenNames x; clear_value x; revert x; intro _)
    | ((with_reducible refine Frame.foldl ?_ (fun _ _ _ => ?_)))
    | split
    | refine Frame.fabOut_fabSeq_of rfl rfl (by intro hc; first | exact Tab.wf_set _ _ _ _ hc.fabSeq | exact Tab.wf_filter _ _ _ hc.fabSeq | exact Tab.wf_nil _) ?_

theorem Dev.fabUnicast_frame (d : Dev) (kind : Nat) (dst : Nat) (payload : List Gran) :
    Frame 0x6000000 d (Dev.fabUnicast d kind dst payload) := by
  unfold Dev.fabUnicast
  repeat' first
    | (with_reducible assumption)
    | (with_reducible exact Frame.refl)
    | ((with_reducible refine Frame.foldl ?_ (fun _ _ _ => ?_)))
    | ((with_reducible apply Frame.step (Dev.fabSend_frame ..)); case hw => rfl)

theorem Dev.fabBcast_frame (d : Dev) (kind : Nat) (payload : List Gran) :
    Frame 0x6000000 d (Dev.fabBcast d kind payload) := by
  unfold Dev.fabBcast
  repeat' first
    | (with_reducible assumption)
    | (with_reducible exact Frame.refl)
    | ((with_reducible refine Frame.foldl ?_ (fun _ _ _ => ?_)))
    | ((with_reducible apply Frame.step (Dev.fabSend_frame ..)); case hw => rfl)

theorem Dev.latchVec_frame (d : Dev) (f : Nat) (v : Nat) :
    Frame 0x2000 d (Dev.latchVec d f v) := by
  unfold Dev.latchVec
  repeat' first
    | (with_reducible assumption)
    | (with_reducible exact Frame.refl)
    | (extract_lets +onlyGivenNames x; clear_value x; revert x; intro _)
    | ((with_reducible refine Frame.foldl ?_ (fun _ _ _ => ?_)))
    | ((with_reducible apply Frame.step (Dev.setVec_frame ..)); case hw => rfl)

theorem Dev.refreshVec_frame (d : Dev) (f : Nat) (v : Nat) :
    Frame 0xc00000000000000000000000000000000000000000000000000 d (Dev.refreshVec d f v) := by
  unfold Dev.refreshVec
  repeat' first
    | (with_reducible assumption)
    | (with_reducible exact Frame.refl)
    | ((with_reducible refine Frame.foldl ?_ (fun _ _ _ => ?_)))
    | ((with_reducible apply Frame.step (Dev.putB_frame ..)); case hw => decide +kernel)

theorem Dev.forwardSrc_frame (d : Dev) (s : Nat) :
    Frame 0x30000000000000000000000000000000000000000000006000000 d (Dev.forwardSrc d s) := by
  unfold Dev.forwardSrc
  repeat' first
    | (with_reducible assumption)
    | (with_reducible exact Frame.refl)
    | (extract_lets +onlyGivenNames x; first | (clear_value x; revert x; intro _) | (subst x))
    | ((with_reducible refine Frame.foldl ?_ (fun _ _ _ => ?_)))
    | ((with_reducible apply Frame.step (Dev.bump_frame ..)); case hw => decide +kernel)
    | ((with_reducible apply Frame.step (Dev.fabUnicast_frame ..)); case hw => decide +kernel)
    | split

theorem Dev.pendSrc_frame (d : Dev) (s : Nat) :
    Frame 0x140000000000000000000000000000000000000000001000 d (Dev.pendSrc d s) := by
  unfold Dev.pendSrc
  repeat' first
    | (with_reducible assumption)
    | (with_reducible exact Frame.refl)
    | (extract_lets +onlyGivenNames x; first | (clear_value x; revert x; intro _) | (subst x))
    | ((with_reducible refine Frame.foldl ?_ (fun _ _ _ => ?_)))
    | ((with_reducible apply Frame.step (Dev.bump_frame ..)); case hw => decide +kernel)
    | ((with_reducible apply Frame.step (Dev.put_frame ..)); case hw => decide +kernel)
    | ((with_reducible apply Frame.step (Dev.raise_frame ..)); case hw => decide +kernel)
    | ((with_reducible apply Frame.step (Dev.setSrc_frame ..)); case hw => decide +kernel)
    | split

theorem Dev.showFlight_frame (d : Dev) (f : Nat) :
    Frame 0x20000000000000000000000000000000000 d (Dev.showFlight d f) := by
  unfold Dev.showFlight
  repeat' first
    | (with_reducible assumption)
    | (with_reducible exact Frame.refl)
    | ((with_reducible refine Frame.foldl ?_ (fun _ _ _ => ?_)))
    | ((with_reducible apply Frame.step (Dev.putB_frame ..)); case hw => decide +kernel)

theorem Dev.occur_frame (d : Dev) (s : Nat) :
    Frame 0x30c00140000000000020000000000000000000000000006001000 d (Dev.occur d s) := by
  unfold Dev.occur
  repeat' first
    | (with_reducible assumption)
    | (with_reducible exact Frame.refl)
    | (extract_lets +onlyGivenNames x; first | (refine Frame.cut x ?_ (fun _ => ?_); rotate_left; clear_value x; revert x; intro _ _; rotate_left; subst x) | (subst x))
    | ((with_reducible refine Frame.foldl ?_ (fun _ _ _ => ?_)))
    | ((with_reducible apply Frame.step (Dev.pendSrc_frame ..)); case hw => rfl)
    | ((with_reducible apply Frame.step (Dev.forwardSrc_frame ..)); case hw => rfl)
    | ((with_reducible apply Frame.step (Dev.showFlight_frame ..)); case hw => rfl)
    | ((with_reducible apply Frame.step (Dev.refreshVec_frame ..)); case hw => rfl)
    | split

theorem Dev.countDrop_frame (d : Dev) (sev : Nat) :
    Frame 0x600000000000000000000000000000000000000000000000000000000000000000000000000000000000000000000000000000000000000000000000000000000000000000000000000000000000000000000000000000000000000000 d (Dev.countDrop d sev) := by
  unfold Dev.countDrop
  repeat' first
    | (with_reducible assumption)
    | (with_reducible exact Frame.refl)
    | ((with_reducible refine Frame.foldl ?_ (fun _ _ _ => ?_)))
    | ((with_reducible apply Frame.step (Dev.bump_frame ..)); case hw => decide +kernel)
    | split

theorem Dev.queueRec_frame (d : Dev) (r : Rec) :
    Frame 0x608000000000000000000000000000000000000000000000000000000000000000000000000000000000000000000000000000000000000000000000000000000000000000000000000000000000000000000000000000000000008000 d (Dev.queueRec d r) := by
  unfold Dev.queueRec
  repeat' first
    | (with_reducible assumption)
    | (with_reducible exact Frame.refl)
    | (extract_lets +onlyGivenNames x; first | (refine Frame.cut x ?_ (fun _ => ?_); rotate_left; clear_value x; revert x; intro _ _; rotate_left; subst x) | (clear_value x; revert x; intro _) | (subst x))
    | ((with_reducible refine Frame.foldl ?_ (fun _ _ _ => ?_)))
    | ((with_reducible apply Frame.step (Dev.countDrop_frame ..)); case hw => decide +kernel)
    | ((with_reducible apply Frame.step (Dev.put_frame ..)); case hw => decide +kernel)
    | split
    | ((with_reducible refine Frame.recorder_of ?hw ?_); case hw => rfl)

theorem Dev.mirrorRec_frame (d : Dev) (w : Nat) :
    Frame 0x30c20140000000000020000000000000000000000000006009000 d (Dev.mirrorRec d w) := by
  unfold Dev.mirrorRec
  repeat' first
    | (with_reducible assumption)
    | (with_reducible exact Frame.refl)
    | (extract_lets +onlyGivenNames x; first | (refine Frame.cut x ?_ (fun _ => ?_); rotate_left; clear_value x; revert x; intro _ _; rotate_left; subst x) | (clear_value x; revert x; intro _) | (subst x))
    | ((with_reducible refine Frame.foldl ?_ (fun _ _ _ => ?_)))
    | ((with_reducible apply Frame.step (Dev.bump_frame ..)); case hw => decide +kernel)
    | ((with_reducible apply Frame.step (Dev.occur_frame ..)); case hw => decide +kernel)
    | split
    | ((with_reducible refine Frame.recorder_of ?hw ?_); case hw => rfl)

theorem Dev.vringRec_frame (d : Dev) (w : Nat) :
    Frame 0x8000 d (Dev.vringRec d w) := by
  unfold Dev.vringRec
  repeat' first
    | (with_reducible assumption)
    | (with_reducible exact Frame.refl)
    | (extract_lets +onlyGivenNames x; clear_value x; revert x; intro _)
    | ((with_reducible refine Frame.foldl ?_ (fun _ _ _ => ?_)))
    | split
    | ((with_reducible refine Frame.recorder_of ?hw ?_); case hw => rfl)

theorem Dev.degradedRec_frame (d : Dev) (r : Rec) (mirror : Bool) :
    Frame 0x30c20140000000000020000000000000000000000000006009000 d (Dev.degradedRec d r mirror) := by
  unfold Dev.degradedRec
  repeat' first
    | (with_reducible assumption)
    | (with_reducible exact Frame.refl)
    | (extract_lets +onlyGivenNames x; first | (refine Frame.cut x ?_ (fun _ => ?_); rotate_left; clear_value x; revert x; intro _ _; rotate_left; subst x) | (clear_value x; revert x; intro _) | (subst x))
    | ((with_reducible refine Frame.foldl ?_ (fun _ _ _ => ?_)))
    | ((with_reducible apply Frame.step (Dev.mirrorRec_frame ..)); case hw => rfl)
    | ((with_reducible apply Frame.step (Dev.vringRec_frame ..)); case hw => rfl)
    | ((with_reducible apply Frame.step (Dev.fabBcast_frame ..)); case hw => rfl)
    | split

theorem Dev.record_frame (d : Dev) (code : Nat) (sev : Nat) (source : Nat) (p0 : Nat) (p1 : Nat) (p2 : Nat) (p3 : Nat) :
    Frame 0x608000000000000000000000000000000000000000000000000000000000000000000000000000000000000000000000000000000000000000000000000000000000030c20140000000000020000000000000000000000000006009000 d (Dev.record d code sev source p0 p1 p2 p3) := by
  unfold Dev.record
  repeat' first
    | (with_reducible assumption)
    | (with_reducible exact Frame.refl)
    | (extract_lets +onlyGivenNames x; first | (refine Frame.cut x ?_ (fun _ => ?_); rotate_left; clear_value x; revert x; intro _ _; rotate_left; subst x) | (clear_value x; revert x; intro _))
    | ((with_reducible refine Frame.foldl ?_ (fun _ _ _ => ?_)))
    | ((with_reducible apply Frame.step (Dev.degradedRec_frame ..)); case hw => rfl)
    | ((with_reducible apply Frame.step (Dev.queueRec_frame ..)); case hw => rfl)
    | ((with_reducible apply Frame.step (Dev.mirrorRec_frame ..)); case hw => rfl)
    | split

theorem Dev.degrade_frame (d : Dev) (rs : List Rec) :
    Frame 0x608800000000000000000000000000000000000000000000000000000000000000000000000000000000000000000000000000000000000000000000000000000000030c20140000000000020000000000000000000000000006009000 d (Dev.degrade d rs) := by
  unfold Dev.degrade
  repeat' first
    | (with_reducible assumption)
    | (with_reducible exact Frame.refl)
    | (extract_lets +onlyGivenNames x; first | (refine Frame.cut x ?_ (fun _ => ?_); rotate_left; clear_value x; revert x; intro _ _; rotate_left; subst x) | (clear_value x; revert x; intro _) | (subst x))
    | ((with_reducible refine Frame.foldl ?_ (fun _ _ _ => ?_)))
    | ((with_reducible apply Frame.step (Dev.raise_frame ..)); case hw => decide +kernel)
    | ((with_reducible apply Frame.step (Dev.record_frame ..)); case hw => decide +kernel)
    | ((with_reducible apply Frame.step (Dev.occur_frame ..)); case hw => decide +kernel)
    | ((with_reducible apply Frame.step (Dev.put_frame ..)); case hw => decide +kernel)
    | ((with_reducible apply Frame.step (Dev.degradedRec_frame ..)); case hw => decide +kernel)
    | split
    | ((with_reducible refine Frame.recorder_of ?hw ?_); case hw => rfl)

/-! ### Gate.lean -/

theorem Dev.modGate_frame (d : Dev) (n : Nat) (g : Gate → Gate) :
    Frame 0x8000000 d (Dev.modGate d n g) := by
  unfold Dev.modGate
  repeat' first
    | (with_reducible assumption)
    | (with_reducible exact Frame.refl)
    | ((with_reducible refine Frame.foldl ?_ (fun _ _ _ => ?_)))
    | ((with_reducible apply Frame.step (Dev.modEng_frame ..)); case hw => rfl)

theorem Dev.riseTrain_frame (d : Dev) (n : Nat) (tr : Train) :
    Frame 0x8000000 d (Dev.riseTrain d n tr) := by
  unfold Dev.riseTrain
  repeat' first
    | (with_reducible assumption)
    | (with_reducible exact Frame.refl)
    | (extract_lets +onlyGivenNames x; clear_value x; revert x; intro _)
    | ((with_reducible refine Frame.foldl ?_ (fun _ _ _ => ?_)))
    | ((with_reducible apply Frame.step (Dev.modGate_frame ..)); case hw => rfl)

theorem Dev.turnTrain_frame (d : Dev) (n : Nat) :
    Frame 0x8000000 d (Dev.turnTrain d n) := by
  unfold Dev.turnTrain
  repeat' first
    | (with_reducible assumption)
    | (with_reducible exact Frame.refl)
    | (extract_lets +onlyGivenNames x; refine Frame.cut x ?_ (fun _ => ?_); rotate_left; clear_value x; revert x; intro _ _; rotate_left; subst x)
    | ((with_reducible refine Frame.foldl ?_ (fun _ _ _ => ?_)))
    | ((with_reducible apply Frame.step (Dev.riseTrain_frame ..)); case hw => rfl)
    | ((with_reducible apply Frame.step (Dev.modGate_frame ..)); case hw => rfl)
    | split

theorem Dev.turnTrains_frame (d : Dev) (n : Nat) :
    Frame 0x8000000 d (Dev.turnTrains d n) := by
  unfold Dev.turnTrains
  repeat' first
    | (with_reducible assumption)
    | (with_reducible exact Frame.refl)
    | ((with_reducible refine Frame.foldl ?_ (fun _ _ _ => ?_)))
    | ((with_reducible apply Frame.step (Dev.turnTrain_frame ..)); case hw => rfl)

theorem Dev.closeTrain_frame (d : Dev) (n : Nat) (tEnd : Nat) :
    Frame 0x40000000000000000000000000000000000000000000000000000000008000000 d (Dev.closeTrain d n tEnd) := by
  unfold Dev.closeTrain
  repeat' first
    | (with_reducible assumption)
    | (with_reducible exact Frame.refl)
    | (extract_lets +onlyGivenNames x; first | (refine Frame.cut x ?_ (fun _ => ?_); rotate_left; clear_value x; revert x; intro _ _; rotate_left; subst x) | (clear_value x; revert x; intro _))
    | ((with_reducible refine Frame.foldl ?_ (fun _ _ _ => ?_)))
    | ((with_reducible apply Frame.step (Dev.modGate_frame ..)); case hw => decide +kernel)
    | ((with_reducible apply Frame.step (Dev.bump_frame ..)); case hw => decide +kernel)
    | split

theorem Dev.openTrain_frame (d : Dev) (n : Nat) (r : LRec) (t0 : Nat) (ps : List Piece) :
    Frame 0x40000000000000000000000000000000000000000000000000000000008000000 d (Dev.openTrain d n r t0 ps) := by
  unfold Dev.openTrain
  repeat' first
    | (with_reducible assumption)
    | (with_reducible exact Frame.refl)
    | (extract_lets +onlyGivenNames x; first | (refine Frame.cut x ?_ (fun _ => ?_); rotate_left; clear_value x; revert x; intro _ _; rotate_left; subst x) | (clear_value x; revert x; intro _) | (subst x))
    | ((with_reducible refine Frame.foldl ?_ (fun _ _ _ => ?_)))
    | ((with_reducible apply Frame.step (Dev.closeTrain_frame ..)); case hw => rfl)
    | ((with_reducible apply Frame.step (Dev.modGate_frame ..)); case hw => rfl)
    | ((with_reducible apply Frame.step (Dev.turnTrains_frame ..)); case hw => rfl)

theorem Dev.growTrain_frame (d : Dev) (n : Nat) (ps : List Piece) :
    Frame 0x8000000 d (Dev.growTrain d n ps) := by
  unfold Dev.growTrain
  repeat' first
    | (with_reducible assumption)
    | (with_reducible exact Frame.refl)
    | ((with_reducible refine Frame.foldl ?_ (fun _ _ _ => ?_)))
    | ((with_reducible apply Frame.step (Dev.modGate_frame ..)); case hw => rfl)

theorem Dev.pulseBehind_frame (d : Dev) (n : Nat) (tr : Train) :
    Frame 0x608000000000000000000000000000000000000000000000000000000000000000000000000000000000000000000000000000000000000000000000043000000000030c2014000000000002000000000000000000000000000e009000 d (Dev.pulseBehind d n tr) := by
  unfold Dev.pulseBehind
  repeat' first
    | (with_reducible assumption)
    | (with_reducible exact Frame.refl)
    | (extract_lets +onlyGivenNames x; first | (refine Frame.cut x ?_ (fun _ => ?_); rotate_left; clear_value x; revert x; intro _ _; rotate_left; subst x) | (clear_value x; revert x; intro _) | (subst x))
    | ((with_reducible refine Frame.foldl ?_ (fun _ _ _ => ?_)))
    | ((with_reducible apply Frame.step (Dev.raise_frame ..)); case hw => decide +kernel)
    | ((with_reducible apply Frame.step (Dev.record_frame ..)); case hw => decide +kernel)
    | ((with_reducible apply Frame.step (Dev.modGate_frame ..)); case hw => decide +kernel)
    | ((with_reducible apply Frame.step (Dev.bump_frame ..)); case hw => decide +kernel)
    | split

theorem Dev.pulseFire_frame (d : Dev) (n : Nat) (tr : Train) :
    Frame 0x80000000000000000000000000000000000000000000000000000000008000000 d (Dev.pulseFire d n tr) := by
  unfold Dev.pulseFire
  repeat' first
    | (with_reducible assumption)
    | (with_reducible exact Frame.refl)
    | (extract_lets +onlyGivenNames x; first | (clear_value x; revert x; intro _) | (subst x))
    | ((with_reducible refine Frame.foldl ?_ (fun _ _ _ => ?_)))
    | ((with_reducible apply Frame.step (Dev.modGate_frame ..)); case hw => decide +kernel)
    | ((with_reducible apply Frame.step (Dev.bump_frame ..)); case hw => decide +kernel)
    | split

theorem Dev.compareHit_frame (d : Dev) (n : Nat) :
    Frame 0x6080000000000000000000000000000000000000000000000000000000000000000000000000000000000000000000000000000000000000000000000c3000000000030c2014000000000002000000000000000000000000000e009000 d (Dev.compareHit d n) := by
  unfold Dev.compareHit
  repeat' first
    | (with_reducible assumption)
    | (with_reducible exact Frame.refl)
    | (extract_lets +onlyGivenNames x; first | (clear_value x; revert x; intro _) | (subst x))
    | ((with_reducible refine Frame.foldl ?_ (fun _ _ _ => ?_)))
    | ((with_reducible apply Frame.step (Dev.turnTrains_frame ..)); case hw => rfl)
    | ((with_reducible apply Frame.step (Dev.pulseBehind_frame ..)); case hw => rfl)
    | ((with_reducible apply Frame.step (Dev.pulseFire_frame ..)); case hw => rfl)
    | split

theorem Dev.flushGate_frame (d : Dev) (n : Nat) :
    Frame 0x100800000000000000000000000000000000000000000000000000000008000000 d (Dev.flushGate d n) := by
  unfold Dev.flushGate
  repeat' first
    | (with_reducible assumption)
    | (with_reducible exact Frame.refl)
    | (extract_lets +onlyGivenNames x; first | (refine Frame.cut x ?_ (fun _ => ?_); rotate_left; clear_value x; revert x; intro _ _; rotate_left; subst x) | (clear_value x; revert x; intro _))
    | ((with_reducible refine Frame.foldl ?_ (fun _ _ _ => ?_)))
    | ((with_reducible apply Frame.step (Dev.modGate_frame ..)); case hw => decide +kernel)
    | ((with_reducible apply Frame.step (Dev.bump_frame ..)); case hw => decide +kernel)
    | ((with_reducible apply Frame.step (Dev.putB_frame ..)); case hw => decide +kernel)
    | split

theorem Dev.forceGate_frame (d : Dev) (n : Nat) :
    Frame 0x100800000000000000000000000000000000000000000000000000000008000000 d (Dev.forceGate d n) := by
  unfold Dev.forceGate
  repeat' first
    | (with_reducible assumption)
    | (with_reducible exact Frame.refl)
    | (extract_lets +onlyGivenNames x; first | (refine Frame.cut x ?_ (fun _ => ?_); rotate_left; clear_value x; revert x; intro _ _; rotate_left; subst x) | (clear_value x; revert x; intro _) | (subst x))
    | ((with_reducible refine Frame.foldl ?_ (fun _ _ _ => ?_)))
    | ((with_reducible apply Frame.step (Dev.flushGate_frame ..)); case hw => decide +kernel)
    | ((with_reducible apply Frame.step (Dev.modGate_frame ..)); case hw => decide +kernel)
    | ((with_reducible apply Frame.step (Dev.lower_frame ..)); case hw => decide +kernel)

/-! ### Kerf.lean -/

theorem Dev.setReqs_frame (d : Dev) (l : List KReq) :
    Frame 0x20000000 d (Dev.setReqs d l) := by
  unfold Dev.setReqs
  repeat' first
    | (with_reducible assumption)
    | (with_reducible exact Frame.refl)
    | (extract_lets +onlyGivenNames x; clear_value x; revert x; intro _)
    | ((with_reducible refine Frame.foldl ?_ (fun _ _ _ => ?_)))
    | split
    | ((with_reducible refine Frame.kerf_of ?hw ?_); case hw => rfl)

theorem Dev.modReq_frame (d : Dev) (n : Nat) (ser : Nat) (g : KReq → KReq) :
    Frame 0x20000000 d (Dev.modReq d n ser g) := by
  unfold Dev.modReq
  repeat' first
    | (with_reducible assumption)
    | (with_reducible exact Frame.refl)
    | ((with_reducible refine Frame.foldl ?_ (fun _ _ _ => ?_)))
    | ((with_reducible apply Frame.step (Dev.setReqs_frame ..)); case hw => rfl)

theorem Dev.showGas_frame (d : Dev) (n : Nat) :
    Frame 0x10000000000000000000000000000000000000000000000000000000000000000 d (Dev.showGas d n) := by
  unfold Dev.showGas
  repeat' first
    | (with_reducible assumption)
    | (with_reducible exact Frame.refl)
    | ((with_reducible refine Frame.foldl ?_ (fun _ _ _ => ?_)))
    | ((with_reducible apply Frame.step (Dev.lower_frame ..)); case hw => decide +kernel)
    | ((with_reducible apply Frame.step (Dev.raise_frame ..)); case hw => decide +kernel)
    | split

theorem Dev.showKerf_frame (d : Dev) (n : Nat) :
    Frame 0x23c4000000000000000010000000000000000000000000000000000000000000000000000000000000000 d (Dev.showKerf d n) := by
  unfold Dev.showKerf
  repeat' first
    | (with_reducible assumption)
    | (with_reducible exact Frame.refl)
    | (extract_lets +onlyGivenNames x; first | (refine Frame.cut x ?_ (fun _ => ?_); rotate_left; clear_value x; revert x; intro _ _; rotate_left; subst x) | (clear_value x; revert x; intro _) | (subst x))
    | ((with_reducible refine Frame.foldl ?_ (fun _ _ _ => ?_)))
    | ((with_reducible apply Frame.step (Dev.showGas_frame ..)); case hw => decide +kernel)
    | ((with_reducible apply Frame.step (Dev.put_frame ..)); case hw => decide +kernel)
    | ((with_reducible apply Frame.step (Dev.putB_frame ..)); case hw => decide +kernel)
    | ((with_reducible apply Frame.step (Dev.lower_frame ..)); case hw => decide +kernel)
    | split

theorem Dev.haloNow_frame (d : Dev) (kind : Nat) (r : KReq) :
    Frame 0x6000000 d (Dev.haloNow d kind r) := by
  unfold Dev.haloNow
  repeat' first
    | (with_reducible assumption)
    | (with_reducible exact Frame.refl)
    | ((with_reducible refine Frame.foldl ?_ (fun _ _ _ => ?_)))
    | ((with_reducible apply Frame.step (Dev.fabSend_frame ..)); case hw => rfl)
    | split

theorem Dev.releaseReq_frame (d : Dev) (r : KReq) :
    Frame 0x6000000 d (Dev.releaseReq d r) := by
  unfold Dev.releaseReq
  repeat' first
    | (with_reducible assumption)
    | (with_reducible exact Frame.refl)
    | ((with_reducible refine Frame.foldl ?_ (fun _ _ _ => ?_)))
    | ((with_reducible apply Frame.step (Dev.haloNow_frame ..)); case hw => rfl)
    | split

theorem Dev.endClaim_frame (d : Dev) (n : Nat) (ser : Nat) :
    Frame 0x23c4000000000000000010000000000000000000000000000000000000000000000000000000026000000 d (Dev.endClaim d n ser) := by
  unfold Dev.endClaim
  repeat' first
    | (with_reducible assumption)
    | (with_reducible exact Frame.refl)
    | ((with_reducible refine Frame.foldl ?_ (fun _ _ _ => ?_)))
    | ((with_reducible apply Frame.step (Dev.showKerf_frame ..)); case hw => rfl)
    | ((with_reducible apply Frame.step (Dev.setReqs_frame ..)); case hw => rfl)
    | ((with_reducible apply Frame.step (Dev.releaseReq_frame ..)); case hw => rfl)
    | split

theorem Dev.endClaims_frame (d : Dev) (n : Nat) :
    Frame 0x23c4000000000000000010000000000000000000000000000000000000000000000000000000026000000 d (Dev.endClaims d n) := by
  unfold Dev.endClaims
  repeat' first
    | (with_reducible assumption)
    | (with_reducible exact Frame.refl)
    | (extract_lets +onlyGivenNames x; first | (clear_value x; revert x; intro _) | (subst x))
    | ((with_reducible refine Frame.foldl ?_ (fun _ _ _ => ?_)))
    | ((with_reducible apply Frame.step (Dev.showKerf_frame ..)); case hw => rfl)
    | ((with_reducible apply Frame.step (Dev.setReqs_frame ..)); case hw => rfl)
    | ((with_reducible apply Frame.step (Dev.releaseReq_frame ..)); case hw => rfl)

theorem Dev.withdraw_frame (d : Dev) (n : Nat) (ser : Nat) :
    Frame 0x23c4000000000000000010000000000000000000000000000000000000000000000000000000026000000 d (Dev.withdraw d n ser) := by
  unfold Dev.withdraw
  repeat' first
    | (with_reducible assumption)
    | (with_reducible exact Frame.refl)
    | ((with_reducible refine Frame.foldl ?_ (fun _ _ _ => ?_)))
    | ((with_reducible apply Frame.step (Dev.showKerf_frame ..)); case hw => rfl)
    | ((with_reducible apply Frame.step (Dev.modReq_frame ..)); case hw => rfl)
    | ((with_reducible apply Frame.step (Dev.releaseReq_frame ..)); case hw => rfl)
    | split

/-! ### Scarf.lean -/

theorem Dev.setAbsence_frame (d : Dev) (n : Nat) (z : Nat) (a : Absence) :
    Frame 0x8000000 d (Dev.setAbsence d n z a) := by
  unfold Dev.setAbsence
  repeat' first
    | (with_reducible assumption)
    | (with_reducible exact Frame.refl)
    | ((with_reducible refine Frame.foldl ?_ (fun _ _ _ => ?_)))
    | ((with_reducible apply Frame.step (Dev.modEng_frame ..)); case hw => rfl)

theorem Dev.uncovered_frame (d : Dev) (n : Nat) (p : Pass) :
    Frame 0x608000000000000000000000000000000000000000000000000000000000000000000000000000000000000000000000000000000000004000000000000000000000030c20140000000000020000000000000000000000000006009000 d (Dev.uncovered d n p) := by
  unfold Dev.uncovered
  repeat' first
    | (with_reducible assumption)
    | (with_reducible exact Frame.refl)
    | ((with_reducible refine Frame.foldl ?_ (fun _ _ _ => ?_)))
    | ((with_reducible apply Frame.step (Dev.occur_frame ..)); case hw => decide +kernel)
    | ((with_reducible apply Frame.step (Dev.record_frame ..)); case hw => decide +kernel)
    | ((with_reducible apply Frame.step (Dev.bump_frame ..)); case hw => decide +kernel)

theorem Dev.modHist_frame (d : Dev) (n : Nat) (z : Nat) (k : Nat) (g : ScarfRec → ScarfRec) :
    Frame 0x8000000 d (Dev.modHist d n z k g) := by
  unfold Dev.modHist
  repeat' first
    | (with_reducible assumption)
    | (with_reducible exact Frame.refl)
    | ((with_reducible refine Frame.foldl ?_ (fun _ _ _ => ?_)))
    | ((with_reducible apply Frame.step (Dev.modEng_frame ..)); case hw => rfl)

theorem Dev.owePass_frame (d : Dev) (n : Nat) (p : Pass) (h : ScarfRec) :
    Frame 0x8000000 d (Dev.owePass d n p h) := by
  unfold Dev.owePass
  repeat' first
    | (with_reducible assumption)
    | (with_reducible exact Frame.refl)
    | (extract_lets +onlyGivenNames x; first | (refine Frame.cut x ?_ (fun _ => ?_); rotate_left; clear_value x; revert x; intro _ _; rotate_left; subst x) | (clear_value x; revert x; intro _))
    | ((with_reducible refine Frame.foldl ?_ (fun _ _ _ => ?_)))
    | ((with_reducible apply Frame.step (Dev.modHist_frame ..)); case hw => rfl)
    | ((with_reducible apply Frame.step (Dev.modEng_frame ..)); case hw => rfl)
    | split

theorem Dev.dropPasses_frame (d : Dev) (n : Nat) (lit : Bool) :
    Frame 0x608000000000000000000000000000000000000000000000000000000000000000000000000000000000000000000000000000000000004000000000000000000000030c2014000000000002000000000000000000000000000e009000 d (Dev.dropPasses d n lit) := by
  unfold Dev.dropPasses
  repeat' first
    | (with_reducible assumption)
    | (with_reducible exact Frame.refl)
    | (extract_lets +onlyGivenNames x; first | (clear_value x; revert x; intro _) | (subst x))
    | ((with_reducible refine Frame.foldl ?_ (fun _ _ _ => ?_)))
    | ((with_reducible apply Frame.step (Dev.modEng_frame ..)); case hw => rfl)
    | ((with_reducible apply Frame.step (Dev.uncovered_frame ..)); case hw => rfl)

theorem Dev.noteBoth_frame (d : Dev) (n : Nat) (z : Nat) :
    Frame 0x608000000000000000000000000000000000000000000000000000000000000000000000000000000000000000000000000000000000000000000000000000000000030c2014000000000002000000000000000000000000000e009000 d (Dev.noteBoth d n z) := by
  unfold Dev.noteBoth
  repeat' first
    | (with_reducible assumption)
    | (with_reducible exact Frame.refl)
    | (extract_lets +onlyGivenNames x; first | (clear_value x; revert x; intro _) | (subst x))
    | ((with_reducible refine Frame.foldl ?_ (fun _ _ _ => ?_)))
    | ((with_reducible apply Frame.step (Dev.record_frame ..)); case hw => rfl)
    | ((with_reducible apply Frame.step (Dev.setAbsence_frame ..)); case hw => rfl)
    | split

theorem Dev.redoShare_frame (d : Dev) (n : Nat) (r : LRec) (sh : Share) :
    Frame 0x608000000000000000000000000000000000000000000000000000000000000000000000000000000000000000000000000000000000000400000000000000000000030c2014000000000002000000000000000000000000002e009000 d (Dev.redoShare d n r sh) := by
  unfold Dev.redoShare
  repeat' first
    | (with_reducible assumption)
    | (with_reducible exact Frame.refl)
    | (extract_lets +onlyGivenNames x; first | (refine Frame.cut x ?_ (fun _ => ?_); rotate_left; clear_value x; revert x; intro _ _; rotate_left; subst x) | (clear_value x; revert x; intro _) | (subst x))
    | ((with_reducible refine Frame.foldl ?_ (fun _ _ _ => ?_)))
    | ((with_reducible apply Frame.step (Dev.modEng_frame ..)); case hw => decide +kernel)
    | ((with_reducible apply Frame.step (Dev.record_frame ..)); case hw => decide +kernel)
    | ((with_reducible apply Frame.step (Dev.bump_frame ..)); case hw => decide +kernel)
    | ((with_reducible apply Frame.step (Dev.modReq_frame ..)); case hw => decide +kernel)
    | ((with_reducible apply Frame.step (Dev.releaseReq_frame ..)); case hw => decide +kernel)
    | split

theorem Dev.coverVector_frame (d : Dev) (n : Nat) (z : Nat) (k : Nat) (mark : Nat) :
    Frame 0x608000000000000000000000000000000000000000000000000000000000000000000000000000000000000000000000000000000000004400000000000000000000030c2014000000000002000000000000000000000000002e009000 d (Dev.coverVector d n z k mark) := by
  unfold Dev.coverVector
  repeat' first
    | (with_reducible assumption)
    | (with_reducible exact Frame.refl)
    | (extract_lets +onlyGivenNames x; clear_value x; revert x; intro _)
    | ((with_reducible refine Frame.foldl ?_ (fun _ _ _ => ?_)))
    | ((with_reducible apply Frame.step (Dev.redoShare_frame ..)); case hw => rfl)
    | ((with_reducible apply Frame.step (Dev.owePass_frame ..)); case hw => rfl)
    | ((with_reducible apply Frame.step (Dev.uncovered_frame ..)); case hw => rfl)
    | split

theorem Dev.partnerAbsent_frame (d : Dev) (n : Nat) (z : Nat) (vidx : Nat) (mark : Nat) (one : Bool) :
    Frame 0x608000000000000000000000000000000000000000000000000000000000000000000000000000000000000000000000000000000000004400000000000000000000030c2014000000000002000000000000000000000000002e009000 d (Dev.partnerAbsent d n z vidx mark one) := by
  unfold Dev.partnerAbsent
  repeat' first
    | (with_reducible assumption)
    | (with_reducible exact Frame.refl)
    | (extract_lets +onlyGivenNames x; first | (refine Frame.cut x ?_ (fun _ => ?_); rotate_left; clear_value x; revert x; intro _ _; rotate_left; subst x) | (clear_value x; revert x; intro _) | (subst x))
    | ((with_reducible refine Frame.foldl ?_ (fun _ _ _ => ?_)))
    | ((with_reducible apply Frame.step (Dev.setAbsence_frame ..)); case hw => rfl)
    | ((with_reducible apply Frame.step (Dev.noteBoth_frame ..)); case hw => rfl)
    | ((with_reducible apply Frame.step (Dev.coverVector_frame ..)); case hw => rfl)
    | split

theorem Dev.takeNotice_frame (d : Dev) (src : Nat) (g : Nat) :
    Frame 0x60800000000040000000000000000000000000000000000000000000000000000000000000000000000000000000000000000000000000c400000000000000000000030c2014000000000002000000000000000000000000002e009000 d (Dev.takeNotice d src g) := by
  unfold Dev.takeNotice
  repeat' first
    | (with_reducible assumption)
    | (with_reducible exact Frame.refl)
    | (extract_lets +onlyGivenNames x; first | (refine Frame.cutFn x (fun _ _ => ?_) (fun _ => ?_); rotate_left; clear_value x; revert x; intro _ _; rotate_left; subst x) | (clear_value x; revert x; intro _) | (subst x))
    | ((with_reducible refine Frame.foldl ?_ (fun _ _ _ => ?_)))
    | ((with_reducible apply Frame.step (Dev.bump_frame ..)); case hw => decide +kernel)
    | ((with_reducible apply Frame.step (Dev.raise_frame ..)); case hw => decide +kernel)
    | ((with_reducible apply Frame.step (Dev.record_frame ..)); case hw => decide +kernel)
    | ((with_reducible apply Frame.step (Dev.partnerAbsent_frame ..)); case hw => decide +kernel)
    | (with_reducible apply_assumption -exfalso -symm)
    | split

theorem Dev.kerfNotice_frame (d : Dev) (src : Nat) (g : Nat) :
    Frame 0x60800000000040000000000000000000000000000000000000000000000000000000000000000000000000000000000000000000000000c400000000000000000000030c2014000000000002000000000000000000000000002e009000 d (Dev.kerfNotice d src g) := by
  unfold Dev.kerfNotice
  repeat' first
    | (with_reducible assumption)
    | (with_reducible exact Frame.refl)
    | (extract_lets +onlyGivenNames x; clear_value x; revert x; intro _)
    | ((with_reducible refine Frame.foldl ?_ (fun _ _ _ => ?_)))
    | ((with_reducible apply Frame.step (Dev.takeNotice_frame ..)); case hw => rfl)
    | split
    | ((with_reducible refine Frame.kerf_of ?hw ?_); case hw => rfl)

theorem Dev.sendNotice_frame (d : Dev) (n : Nat) (z : Nat) (kind : Nat) (vidx : Nat) (mark : Nat) :
    Frame 0x60800000000040000000000000000000000000000000000000000000000000000000000000000000000000000000000000000000000000c400000000000000000000030c2014000000000002000000000000000000000000002e009000 d (Dev.sendNotice d n z kind vidx mark) := by
  unfold Dev.sendNotice
  repeat' first
    | (with_reducible assumption)
    | (with_reducible exact Frame.refl)
    | (extract_lets +onlyGivenNames x; first | (refine Frame.cut x ?_ (fun _ => ?_); rotate_left; clear_value x; revert x; intro _ _; rotate_left; subst x) | (clear_value x; revert x; intro _))
    | ((with_reducible refine Frame.foldl ?_ (fun _ _ _ => ?_)))
    | ((with_reducible apply Frame.step (Dev.fabSend_frame ..)); case hw => rfl)
    | ((with_reducible apply Frame.step (Dev.kerfNotice_frame ..)); case hw => rfl)
    | split

theorem Dev.selfAbsent_frame (d : Dev) (n : Nat) (z : Nat) (k : Nat) :
    Frame 0x608000000000000000000000000000000000000000000000000000000000000000000000000000000000000000000000000000000000000000000000000000000000030c2014000000000002000000000000000000000000000e009000 d (Dev.selfAbsent d n z k) := by
  unfold Dev.selfAbsent
  repeat' first
    | (with_reducible assumption)
    | (with_reducible exact Frame.refl)
    | (extract_lets +onlyGivenNames x; first | (clear_value x; revert x; intro _) | (subst x))
    | ((with_reducible refine Frame.foldl ?_ (fun _ _ _ => ?_)))
    | ((with_reducible apply Frame.step (Dev.noteBoth_frame ..)); case hw => rfl)
    | ((with_reducible apply Frame.step (Dev.setAbsence_frame ..)); case hw => rfl)

theorem Dev.goAbsent_frame (d : Dev) (n : Nat) :
    Frame 0x60800000000040000000000000000000000000000000000000000000000000000000000000000000000000000000000000000000000000c400000000000000000000030c2014000000000002000000000000000000000000002e009000 d (Dev.goAbsent d n) := by
  unfold Dev.goAbsent
  repeat' first
    | (with_reducible assumption)
    | (with_reducible exact Frame.refl)
    | (extract_lets +onlyGivenNames x; first | (clear_value x; revert x; intro _) | (subst x))
    | ((with_reducible refine Frame.foldl ?_ (fun _ _ _ => ?_)))
    | ((with_reducible apply Frame.step (Dev.sendNotice_frame ..)); case hw => rfl)
    | ((with_reducible apply Frame.step (Dev.selfAbsent_frame ..)); case hw => rfl)
    | split

theorem Dev.leaveZones_frame (d : Dev) (n : Nat) :
    Frame 0x60800000000040000000000000000000000000000000000000000000000000000000000000000000000000000000000000000000000000c400000000000000000000030c2014000000000002000000000000000000000000002e009000 d (Dev.leaveZones d n) := by
  unfold Dev.leaveZones
  repeat' first
    | (with_reducible assumption)
    | (with_reducible exact Frame.refl)
    | ((with_reducible refine Frame.foldl ?_ (fun _ _ _ => ?_)))
    | ((with_reducible apply Frame.step (Dev.dropPasses_frame ..)); case hw => rfl)
    | ((with_reducible apply Frame.step (Dev.goAbsent_frame ..)); case hw => rfl)

/-! ### Plan.lean -/

theorem Dev.gateOfPlan_frame (d : Dev) (n : Nat) (on : Bool) (p : Plan) :
    Frame 0x40000000000000000000000000000000000000000000000000000000008000000 d (Dev.gateOfPlan d n on p) := by
  unfold Dev.gateOfPlan
  repeat' first
    | (with_reducible assumption)
    | (with_reducible exact Frame.refl)
    | (extract_lets +onlyGivenNames x; first | (refine Frame.cut x ?_ (fun _ => ?_); rotate_left; clear_value x; revert x; intro _ _; rotate_left; subst x) | (clear_value x; revert x; intro _))
    | ((with_reducible refine Frame.foldl ?_ (fun _ _ _ => ?_)))
    | ((with_reducible apply Frame.step (Dev.growTrain_frame ..)); case hw => rfl)
    | ((with_reducible apply Frame.step (Dev.openTrain_frame ..)); case hw => rfl)
    | ((with_reducible apply Frame.step (Dev.closeTrain_frame ..)); case hw => rfl)
    | split

theorem Dev.starve_frame (d : Dev) (n : Nat) :
    Frame 0x40010000000000000000000000000000000000000000000000000008000000 d (Dev.starve d n) := by
  unfold Dev.starve
  repeat' first
    | (with_reducible assumption)
    | (with_reducible exact Frame.refl)
    | ((with_reducible refine Frame.foldl ?_ (fun _ _ _ => ?_)))
    | ((with_reducible apply Frame.step (Dev.modEng_frame ..)); case hw => decide +kernel)
    | ((with_reducible apply Frame.step (Dev.bump_frame ..)); case hw => decide +kernel)
    | ((with_reducible apply Frame.step (Dev.raise_frame ..)); case hw => decide +kernel)
    | split

theorem Dev.latchPlan_frame (d : Dev) (n : Nat) :
    Frame 0x4 d (Dev.latchPlan d n) := by
  unfold Dev.latchPlan
  repeat' first
    | (with_reducible assumption)
    | (with_reducible exact Frame.refl)
    | ((with_reducible refine Frame.foldl ?_ (fun _ _ _ => ?_)))
    | ((with_reducible apply Frame.step (Dev.latchWhere_frame ..)); case hw => rfl)

theorem Dev.adopt_frame (d : Dev) (n : Nat) :
    Frame 0x40000000000000000000000000000000000000000000000000000000008000004 d (Dev.adopt d n) := by
  unfold Dev.adopt
  repeat' first
    | (with_reducible assumption)
    | (with_reducible exact Frame.refl)
    | (extract_lets +onlyGivenNames x; first | (refine Frame.cut x ?_ (fun _ => ?_); rotate_left; clear_value x; revert x; intro _ _; rotate_left; subst x) | (clear_value x; revert x; intro _) | (subst x))
    | ((with_reducible refine Frame.foldl ?_ (fun _ _ _ => ?_)))
    | ((with_reducible apply Frame.step (Dev.latchPlan_frame ..)); case hw => rfl)
    | ((with_reducible apply Frame.step (Dev.gateOfPlan_frame ..)); case hw => rfl)
    | ((with_reducible apply Frame.step (Dev.modEng_frame ..)); case hw => rfl)
    | split

theorem Dev.decide'_frame (d : Dev) (n : Nat) (p : Plan) :
    Frame 0x40040010000000000000000000000000000000000000000000000000008000000 d (Dev.decide' d n p) := by
  unfold Dev.decide'
  repeat' first
    | (with_reducible assumption)
    | (with_reducible exact Frame.refl)
    | (extract_lets +onlyGivenNames x; first | (refine Frame.cut x ?_ (fun _ => ?_); rotate_left; clear_value x; revert x; intro _ _; rotate_left; subst x) | (clear_value x; revert x; intro _))
    | ((with_reducible refine Frame.foldl ?_ (fun _ _ _ => ?_)))
    | ((with_reducible apply Frame.step (Dev.modEng_frame ..)); case hw => rfl)
    | ((with_reducible apply Frame.step (Dev.starve_frame ..)); case hw => rfl)
    | ((with_reducible apply Frame.step (Dev.growTrain_frame ..)); case hw => rfl)
    | ((with_reducible apply Frame.step (Dev.closeTrain_frame ..)); case hw => rfl)
    | split

theorem Dev.extend1_frame (d : Dev) (n : Nat) (t : Nat) :
    Frame 0x40040010000000000000000000000000000000000000000000000000008000004 d (Dev.extend1 d n t) := by
  unfold Dev.extend1
  repeat' first
    | (with_reducible assumption)
    | (with_reducible exact Frame.refl)
    | (extract_lets +onlyGivenNames x; clear_value x; revert x; intro _)
    | ((with_reducible refine Frame.foldl ?_ (fun _ _ _ => ?_)))
    | ((with_reducible apply Frame.step (Dev.decide'_frame ..)); case hw => rfl)
    | ((with_reducible apply Frame.step (Dev.adopt_frame ..)); case hw => rfl)
    | ((with_reducible apply Frame.step (Dev.starve_frame ..)); case hw => rfl)
    | split

theorem Dev.extendTo_frame (d : Dev) (n : Nat) (t : Nat) :
    Frame 0x40040010000000000000000000000000000000000000000000000000008000004 d (Dev.extendTo d n t) := by
  unfold Dev.extendTo
  repeat' first
    | (with_reducible assumption)
    | (with_reducible exact Frame.refl)
    | ((with_reducible refine Frame.foldl ?_ (fun _ _ _ => ?_)))
    | ((with_reducible apply Frame.step (Dev.extend1_frame ..)); case hw => rfl)

theorem Dev.replan_frame (d : Dev) (n : Nat) :
    Frame 0x40000000000000000000000000000000000000000000000000000000008000000 d (Dev.replan d n) := by
  unfold Dev.replan
  repeat' first
    | (with_reducible assumption)
    | (with_reducible exact Frame.refl)
    | (extract_lets +onlyGivenNames x; first | (refine Frame.cut x ?_ (fun _ => ?_); rotate_left; clear_value x; revert x; intro _ _; rotate_left; subst x) | (clear_value x; revert x; intro _))
    | ((with_reducible refine Frame.foldl ?_ (fun _ _ _ => ?_)))
    | ((with_reducible apply Frame.step (Dev.modEng_frame ..)); case hw => rfl)
    | ((with_reducible apply Frame.step (Dev.modGate_frame ..)); case hw => rfl)
    | ((with_reducible apply Frame.step (Dev.closeTrain_frame ..)); case hw => rfl)
    | split

theorem Dev.sliceChanged_frame (d : Dev) (n : Nat) :
    Frame 0x4000000000000000000000000000000000000000000000000000000000000000000000000000000008000000 d (Dev.sliceChanged d n) := by
  unfold Dev.sliceChanged
  repeat' first
    | (with_reducible assumption)
    | (with_reducible exact Frame.refl)
    | (extract_lets +onlyGivenNames x; first | (refine Frame.cut x ?_ (fun _ => ?_); rotate_left; clear_value x; revert x; intro _ _; rotate_left; subst x) | (clear_value x; revert x; intro _))
    | ((with_reducible refine Frame.foldl ?_ (fun _ _ _ => ?_)))
    | ((with_reducible apply Frame.step (Dev.lower_frame ..)); case hw => decide +kernel)
    | ((with_reducible apply Frame.step (Dev.modEng_frame ..)); case hw => decide +kernel)
    | split

theorem Dev.sliceServes_frame (d : Dev) (u : Nat) :
    Frame 0x4000000000000000000000000000000000000000000000000000000000000000000000000000000008000000 d (Dev.sliceServes d u) := by
  unfold Dev.sliceServes
  repeat' first
    | (with_reducible assumption)
    | (with_reducible exact Frame.refl)
    | ((with_reducible refine Frame.foldl ?_ (fun _ _ _ => ?_)))
    | ((with_reducible apply Frame.step (Dev.sliceChanged_frame ..)); case hw => rfl)
    | split

theorem Dev.restSlice_frame (d : Dev) (n : Nat) :
    Frame 0xfc0000000000000000000000000000000000000000000000000000000000000000000000000000000000000000000000000000000000000004000000000000000000000000000000000000000000000000000000000000000000000000000000008200000 d (Dev.restSlice d n) := by
  unfold Dev.restSlice
  repeat' first
    | (with_reducible assumption)
    | (with_reducible exact Frame.refl)
    | (extract_lets +onlyGivenNames x; first | (clear_value x; revert x; intro _) | (subst x))
    | (refine Frame.bringFlds (fun f => [.CAL_ADC_CELL_CELL0, .CAL_ADC_CELL_USE0, .CAL_ADC_CELL_CELL1, .CAL_ADC_CELL_USE1, .CAL_ADC_REF_SEG,
      .CAL_ADC_REF_TC].contains f) (fun _ hc => (Bool.and_eq_true_iff.mp hc).2) (by decide +kernel) rfl ?_)
    | ((with_reducible refine Frame.foldl ?_ (fun _ _ _ => ?_)))
    | ((with_reducible apply Frame.step (Dev.sliceChanged_frame ..)); case hw => rfl)
    | split

theorem Dev.restLatch_frame (d : Dev) (n : Nat) :
    Frame 0xffe000000000000000000000000000000000000000000000000000000000000000000000000000000000000000000000000000000000000004000000000000000000000200000000000000000000000000000000000000000000000000000000008200004 d (Dev.restLatch d n) := by
  unfold Dev.restLatch
  repeat' first
    | (with_reducible assumption)
    | (with_reducible exact Frame.refl)
    | (extract_lets +onlyGivenNames x; first | (refine Frame.cut x ?_ (fun _ => ?_); rotate_left; clear_value x; revert x; intro _ _; rotate_left; subst x) | (clear_value x; revert x; intro _) | (subst x))
    | (refine Frame.bringFlds (fun f => [.CAL_TAP_MAP_TAP, .CAL_TAP_REF_T_CAL, .CAL_TAP_REF_TC, .CAL_GATE_LAT_LAT_PS, .CAL_GATE_LAT_SLOPE,
      .ENG_GATE_LAT_PIN_LAT_PS].contains f) (fun _ hc => (Bool.and_eq_true_iff.mp hc).2) (by decide +kernel) rfl ?_)
    | ((with_reducible refine Frame.foldl ?_ (fun _ _ _ => ?_)))
    | ((with_reducible apply Frame.step (Dev.modEng_frame ..)); case hw => rfl)
    | ((with_reducible apply Frame.step (Dev.restSlice_frame ..)); case hw => rfl)
    | ((with_reducible apply Frame.step (Dev.latchWhere_frame ..)); case hw => rfl)
    | split

theorem Dev.showPos_frame (d : Dev) (n : Nat) (t : Nat) :
    Frame 0xe00000000000000000000000000000000000000000000000000000000000 d (Dev.showPos d n t) := by
  unfold Dev.showPos
  repeat' first
    | (with_reducible assumption)
    | (with_reducible exact Frame.refl)
    | (extract_lets +onlyGivenNames x; first | (refine Frame.cut x ?_ (fun _ => ?_); rotate_left; clear_value x; revert x; intro _ _; rotate_left; subst x) | (clear_value x; revert x; intro _) | (subst x))
    | ((with_reducible refine Frame.foldl ?_ (fun _ _ _ => ?_)))
    | ((with_reducible apply Frame.step (Dev.puts_frame ..)); case hw => decide +kernel)
    | ((with_reducible apply Frame.step (Dev.put_frame ..)); case hw => decide +kernel)
    | split

/-! ### Tiles.lean -/

theorem Dev.setTile_frame (d : Dev) (t : Nat) (x : Tile) :
    Frame 0x80000000 d (Dev.setTile d t x) := by
  unfold Dev.setTile
  repeat' first
    | (with_reducible assumption)
    | (with_reducible exact Frame.refl)
    | ((with_reducible refine Frame.foldl ?_ (fun _ _ _ => ?_)))
    | split
    | ((with_reducible refine Frame.tiles_of ?hw ?hx ?_); (case hw => (first | rfl | (simp))); (case hx => (intro hc; first | exact Tab.wf_set _ _ _ _ hc.tiles | exact Tab.wf_filter _ _ _ hc.tiles | exact Tab.wf_nil _)))

theorem Dev.modTile_frame (d : Dev) (t : Nat) (g : Tile → Tile) :
    Frame 0x80000000 d (Dev.modTile d t g) := by
  unfold Dev.modTile
  repeat' first
    | (with_reducible assumption)
    | (with_reducible exact Frame.refl)
    | ((with_reducible refine Frame.foldl ?_ (fun _ _ _ => ?_)))
    | ((with_reducible apply Frame.step (Dev.setTile_frame ..)); case hw => rfl)

theorem Dev.sendTile_frame (d : Dev) (t : Nat) (typ : Nat) (line : Nat) (str : Nat) (pos : Nat) (words : List Nat) (ahead : Nat) :
    Frame 0x80000000 d (Dev.sendTile d t typ line str pos words ahead) := by
  unfold Dev.sendTile
  repeat' first
    | (with_reducible assumption)
    | (with_reducible exact Frame.refl)
    | (extract_lets +onlyGivenNames x; clear_value x; revert x; intro _)
    | ((with_reducible refine Frame.foldl ?_ (fun _ _ _ => ?_)))
    | ((with_reducible apply Frame.step (Dev.modTile_frame ..)); case hw => rfl)

theorem Dev.lineSync_frame (d : Dev) (t : Nat) (l : Nat) :
    Frame 0x80000000 d (Dev.lineSync d t l) := by
  unfold Dev.lineSync
  repeat' first
    | (with_reducible assumption)
    | (with_reducible exact Frame.refl)
    | (extract_lets +onlyGivenNames x; refine Frame.cut x ?_ (fun _ => ?_); rotate_left; clear_value x; revert x; intro _ _; rotate_left; subst x)
    | ((with_reducible refine Frame.foldl ?_ (fun _ _ _ => ?_)))
    | ((with_reducible apply Frame.step (Dev.modTile_frame ..)); case hw => rfl)
    | ((with_reducible apply Frame.step (Dev.sendTile_frame ..)); case hw => rfl)
    | split

theorem Dev.blankTile_frame (d : Dev) (t : Nat) :
    Frame 0x80000000 d (Dev.blankTile d t) := by
  unfold Dev.blankTile
  repeat' first
    | (with_reducible assumption)
    | (with_reducible exact Frame.refl)
    | ((with_reducible refine Frame.foldl ?_ (fun _ _ _ => ?_)))
    | ((with_reducible apply Frame.step (Dev.modTile_frame ..)); case hw => rfl)

theorem Dev.blankTiles_frame (d : Dev) :
    Frame 0x80000000 d (Dev.blankTiles d) := by
  unfold Dev.blankTiles
  repeat' first
    | (with_reducible assumption)
    | (with_reducible exact Frame.refl)
    | ((with_reducible refine Frame.foldl ?_ (fun _ _ _ => ?_)))
    | ((with_reducible apply Frame.step (Dev.blankTile_frame ..)); case hw => rfl)

theorem Dev.showBw_frame (d : Dev) :
    Frame 0x2000000000000000000000000000000000000000000000000000000000000000000000000000000000000000000000000000000000000000 d (Dev.showBw d) := by
  unfold Dev.showBw
  repeat' first
    | (with_reducible assumption)
    | (with_reducible exact Frame.refl)
    | (extract_lets +onlyGivenNames x; clear_value x; revert x; intro _)
    | ((with_reducible refine Frame.foldl ?_ (fun _ _ _ => ?_)))
    | ((with_reducible apply Frame.step (Dev.put_frame ..)); case hw => decide +kernel)

theorem Dev.detachTile_frame (d : Dev) (t : Nat) :
    Frame 0x2004000000000000000000000000000000000000000000000000000000000000000000000000000000000000000000000000000080020000 d (Dev.detachTile d t) := by
  unfold Dev.detachTile
  repeat' first
    | (with_reducible assumption)
    | (with_reducible exact Frame.refl)
    | (extract_lets +onlyGivenNames x; first | (refine Frame.cut x ?_ (fun _ => ?_); rotate_left; clear_value x; revert x; intro _ _; rotate_left; subst x) | (clear_value x; revert x; intro _) | (subst x))
    | ((with_reducible refine Frame.foldl ?_ (fun _ _ _ => ?_)))
    | ((with_reducible apply Frame.step (Dev.modTile_frame ..)); case hw => decide +kernel)
    | ((with_reducible apply Frame.step (Dev.showBw_frame ..)); case hw => decide +kernel)
    | ((with_reducible apply Frame.step (Dev.put_frame ..)); case hw => decide +kernel)
    | split
    | ((with_reducible refine Frame.layer_of ?hw ?_); case hw => rfl)

/-! ### Axes.lean -/

theorem Dev.setAxis_frame (d : Dev) (a : Nat) (x : Axis) :
    Frame 0x100000000 d (Dev.setAxis d a x) := by
  unfold Dev.setAxis
  repeat' first
    | (with_reducible assumption)
    | (with_reducible exact Frame.refl)
    | ((with_reducible refine Frame.foldl ?_ (fun _ _ _ => ?_)))
    | split
    | ((with_reducible refine Frame.axes_of ?hw ?hx ?_); (case hw => (first | rfl | (simp))); (case hx => (intro hc; first | exact Tab.wf_set _ _ _ _ hc.axes | exact Tab.wf_filter _ _ _ hc.axes | exact Tab.wf_nil _)))

theorem Dev.modAxis_frame (d : Dev) (a : Nat) (g : Axis → Axis) :
    Frame 0x100000000 d (Dev.modAxis d a g) := by
  unfold Dev.modAxis
  repeat' first
    | (with_reducible assumption)
    | (with_reducible exact Frame.refl)
    | ((with_reducible refine Frame.foldl ?_ (fun _ _ _ => ?_)))
    | ((with_reducible apply Frame.step (Dev.setAxis_frame ..)); case hw => rfl)

theorem Dev.setEnc_frame (d : Dev) (e : Nat) (x : Enc) :
    Frame 0x200000000 d (Dev.setEnc d e x) := by
  unfold Dev.setEnc
  repeat' first
    | (with_reducible assumption)
    | (with_reducible exact Frame.refl)
    | ((with_reducible refine Frame.foldl ?_ (fun _ _ _ => ?_)))
    | split
    | ((with_reducible refine Frame.encs_of ?hw ?hx ?_); (case hw => (first | rfl | (simp))); (case hx => (intro hc; first | exact Tab.wf_set _ _ _ _ hc.encs | exact Tab.wf_filter _ _ _ hc.encs | exact Tab.wf_nil _)))

theorem Dev.modEnc_frame (d : Dev) (e : Nat) (g : Enc → Enc) :
    Frame 0x200000000 d (Dev.modEnc d e g) := by
  unfold Dev.modEnc
  repeat' first
    | (with_reducible assumption)
    | (with_reducible exact Frame.refl)
    | ((with_reducible refine Frame.foldl ?_ (fun _ _ _ => ?_)))
    | ((with_reducible apply Frame.step (Dev.setEnc_frame ..)); case hw => rfl)

theorem Dev.setProfile_frame (d : Dev) (a : Nat) (segs : List (Nat × Int)) (finalAt : Nat) (target : Int) :
    Frame 0x100000000 d (Dev.setProfile d a segs finalAt target) := by
  unfold Dev.setProfile
  repeat' first
    | (with_reducible assumption)
    | (with_reducible exact Frame.refl)
    | (extract_lets +onlyGivenNames x; clear_value x; revert x; intro _)
    | ((with_reducible refine Frame.foldl ?_ (fun _ _ _ => ?_)))
    | ((with_reducible apply Frame.step (Dev.modAxis_frame ..)); case hw => rfl)

theorem Dev.runTo_frame (d : Dev) (a : Nat) (target : Int) (vlim : Nat) :
    Frame 0x800000000000000000000000000000000000000000000000000000000000000000000000000000000000000000000000000000000000000000000000000100000000 d (Dev.runTo d a target vlim) := by
  unfold Dev.runTo
  repeat' first
    | (with_reducible assumption)
    | (with_reducible exact Frame.refl)
    | (extract_lets +onlyGivenNames x; first | (refine Frame.cut x ?_ (fun _ => ?_); rotate_left; clear_value x; revert x; intro _ _; rotate_left; subst x) | (clear_value x; revert x; intro _) | (subst x))
    | ((with_reducible refine Frame.foldl ?_ (fun _ _ _ => ?_)))
    | ((with_reducible apply Frame.step (Dev.raise_frame ..)); case hw => decide +kernel)
    | ((with_reducible apply Frame.step (Dev.modAxis_frame ..)); case hw => decide +kernel)
    | ((with_reducible apply Frame.step (Dev.setProfile_frame ..)); case hw => decide +kernel)
    | split

theorem Dev.runStop_frame (d : Dev) (a : Nat) :
    Frame 0x100000000 d (Dev.runStop d a) := by
  unfold Dev.runStop
  repeat' first
    | (with_reducible assumption)
    | (with_reducible exact Frame.refl)
    | (extract_lets +onlyGivenNames x; clear_value x; revert x; intro _)
    | ((with_reducible refine Frame.foldl ?_ (fun _ _ _ => ?_)))
    | ((with_reducible apply Frame.step (Dev.setProfile_frame ..)); case hw => rfl)

theorem Dev.axisFreeze_frame (d : Dev) (a : Nat) :
    Frame 0x18000000000000000000000000000000000000000000000000000000000000000000000000000000000000000000000000000000000000000000000000100000000 d (Dev.axisFreeze d a) := by
  unfold Dev.axisFreeze
  repeat' first
    | (with_reducible assumption)
    | (with_reducible exact Frame.refl)
    | (extract_lets +onlyGivenNames x; first | (refine Frame.cut x ?_ (fun _ => ?_); rotate_left; clear_value x; revert x; intro _ _; rotate_left; subst x) | (clear_value x; revert x; intro _) | (subst x))
    | ((with_reducible refine Frame.foldl ?_ (fun _ _ _ => ?_)))
    | ((with_reducible apply Frame.step (Dev.modAxis_frame ..)); case hw => decide +kernel)
    | ((with_reducible apply Frame.step (Dev.put_frame ..)); case hw => decide +kernel)
    | ((with_reducible apply Frame.step (Dev.puts_frame ..)); case hw => decide +kernel)

theorem Dev.unhome_frame (d : Dev) (a : Nat) :
    Frame 0x10000000000040000000000000000000000000000000000000000000000000000000000000000000000000000000000000000000000000000000000000000000000000000000000 d (Dev.unhome d a) := by
  unfold Dev.unhome
  repeat' first
    | (with_reducible assumption)
    | (with_reducible exact Frame.refl)
    | ((with_reducible refine Frame.foldl ?_ (fun _ _ _ => ?_)))
    | ((with_reducible apply Frame.step (Dev.lower_frame ..)); case hw => decide +kernel)

theorem Dev.emergencyRamp_frame (d : Dev) (a : Nat) :
    Frame 0x20000000000000000000000000000000000000000000000000000000000000000000000000000000000000000000000000000000000000000000000000100000000 d (Dev.emergencyRamp d a) := by
  unfold Dev.emergencyRamp
  repeat' first
    | (with_reducible assumption)
    | (with_reducible exact Frame.refl)
    | (extract_lets +onlyGivenNames x; first | (refine Frame.cut x ?_ (fun _ => ?_); rotate_left; clear_value x; revert x; intro _ _; rotate_left; subst x) | (clear_value x; revert x; intro _))
    | ((with_reducible refine Frame.foldl ?_ (fun _ _ _ => ?_)))
    | ((with_reducible apply Frame.step (Dev.setProfile_frame ..)); case hw => decide +kernel)
    | ((with_reducible apply Frame.step (Dev.modAxis_frame ..)); case hw => decide +kernel)
    | ((with_reducible apply Frame.step (Dev.put_frame ..)); case hw => decide +kernel)
    | split

theorem Dev.brake_frame (d : Dev) (a : Nat) (state : Nat) :
    Frame 0x10000000008078000000000000000000000000000000000000000000000000000000000000000000000000000000000000000000000000000000000000000000000000100000000 d (Dev.brake d a state) := by
  unfold Dev.brake
  repeat' first
    | (with_reducible assumption)
    | (with_reducible exact Frame.refl)
    | (extract_lets +onlyGivenNames x; first | (refine Frame.cut x ?_ (fun _ => ?_); rotate_left; clear_value x; revert x; intro _ _; rotate_left; subst x) | (subst x))
    | ((with_reducible refine Frame.foldl ?_ (fun _ _ _ => ?_)))
    | ((with_reducible apply Frame.step (Dev.unhome_frame ..)); case hw => decide +kernel)
    | ((with_reducible apply Frame.step (Dev.axisFreeze_frame ..)); case hw => decide +kernel)
    | ((with_reducible apply Frame.step (Dev.modAxis_frame ..)); case hw => decide +kernel)
    | ((with_reducible apply Frame.step (Dev.put_frame ..)); case hw => decide +kernel)

/-! ### Cameras.lean -/

theorem Dev.setCam_frame (d : Dev) (x : Nat) (c : Cam) :
    Frame 0x2000000000 d (Dev.setCam d x c) := by
  unfold Dev.setCam
  repeat' first
    | (with_reducible assumption)
    | (with_reducible exact Frame.refl)
    | ((with_reducible refine Frame.foldl ?_ (fun _ _ _ => ?_)))
    | split
    | ((with_reducible refine Frame.cams_of ?hw ?hx ?_); (case hw => (first | rfl | (simp))); (case hx => (intro hc; first | exact Tab.wf_set _ _ _ _ hc.cams | exact Tab.wf_filter _ _ _ hc.cams | exact Tab.wf_nil _)))

theorem Dev.modCam_frame (d : Dev) (x : Nat) (g : Cam → Cam) :
    Frame 0x2000000000 d (Dev.modCam d x g) := by
  unfold Dev.modCam
  repeat' first
    | (with_reducible assumption)
    | (with_reducible exact Frame.refl)
    | ((with_reducible refine Frame.foldl ?_ (fun _ _ _ => ?_)))
    | ((with_reducible apply Frame.step (Dev.setCam_frame ..)); case hw => rfl)

theorem Dev.setCamPort_frame (d : Dev) (p : Nat) (c : CamPort) :
    Frame 0x4000000000 d (Dev.setCamPort d p c) := by
  unfold Dev.setCamPort
  repeat' first
    | (with_reducible assumption)
    | (with_reducible exact Frame.refl)
    | ((with_reducible refine Frame.foldl ?_ (fun _ _ _ => ?_)))
    | split
    | ((with_reducible refine Frame.camPorts_of ?hw ?hx ?_); (case hw => (first | rfl | (simp))); (case hx => (intro hc; first | exact Tab.wf_set _ _ _ _ hc.camPorts | exact Tab.wf_filter _ _ _ hc.camPorts | exact Tab.wf_nil _)))

theorem Dev.modCamPort_frame (d : Dev) (p : Nat) (g : CamPort → CamPort) :
    Frame 0x4000000000 d (Dev.modCamPort d p g) := by
  unfold Dev.modCamPort
  repeat' first
    | (with_reducible assumption)
    | (with_reducible exact Frame.refl)
    | ((with_reducible refine Frame.foldl ?_ (fun _ _ _ => ?_)))
    | ((with_reducible apply Frame.step (Dev.setCamPort_frame ..)); case hw => rfl)

theorem Dev.modPipe_frame (d : Dev) (g : Pipeline → Pipeline) :
    Frame 0x8000000000 d (Dev.modPipe d g) := by
  unfold Dev.modPipe
  repeat' first
    | (with_reducible assumption)
    | (with_reducible exact Frame.refl)
    | ((with_reducible refine Frame.foldl ?_ (fun _ _ _ => ?_)))
    | split
    | ((with_reducible refine Frame.pipe_of ?hw ?_); case hw => rfl)

theorem Dev.latchCam_frame (d : Dev) (x : Nat) :
    Frame 0x4 d (Dev.latchCam d x) := by
  unfold Dev.latchCam
  repeat' first
    | (with_reducible assumption)
    | (with_reducible exact Frame.refl)
    | ((with_reducible refine Frame.foldl ?_ (fun _ _ _ => ?_)))
    | ((with_reducible apply Frame.step (Dev.latchWhere_frame ..)); case hw => rfl)

theorem Dev.storeResult_frame (d : Dev) (f : CamFrame) (image : List Byte) (block : List Byte) (r : Result) :
    Frame 0x2000000020 d (Dev.storeResult d f image block r) := by
  unfold Dev.storeResult
  repeat' first
    | (with_reducible assumption)
    | (with_reducible exact Frame.refl)
    | (extract_lets +onlyGivenNames x; first | (refine Frame.cut x ?_ (fun _ => ?_); rotate_left; clear_value x; revert x; intro _ _; rotate_left; subst x) | (clear_value x; revert x; intro _) | (subst x))
    | ((with_reducible refine Frame.foldl ?_ (fun _ _ _ => ?_)))
    | ((with_reducible apply Frame.step (Dev.dramWrite_frame ..)); case hw => rfl)
    | ((with_reducible apply Frame.step (Dev.modCam_frame ..)); case hw => rfl)
    | split

theorem Dev.noteResult_frame (d : Dev) (f : CamFrame) (r : Result) :
    Frame 0x60800000000000000000000000000001dc00000000000000000000000000000000000000000000000000000000000000000000000000000000000000000000000000030c20140000000000020000000000000000000000002006009000 d (Dev.noteResult d f r) := by
  unfold Dev.noteResult
  repeat' first
    | (with_reducible assumption)
    | (with_reducible exact Frame.refl)
    | (extract_lets +onlyGivenNames x; first | (refine Frame.cut x ?_ (fun _ => ?_); rotate_left; clear_value x; revert x; intro _ _; rotate_left; subst x) | (clear_value x; revert x; intro _) | (subst x))
    | ((with_reducible refine Frame.foldl ?_ (fun _ _ _ => ?_)))
    | ((with_reducible apply Frame.step (Dev.raise_frame ..)); case hw => decide +kernel)
    | ((with_reducible apply Frame.step (Dev.occur_frame ..)); case hw => decide +kernel)
    | ((with_reducible apply Frame.step (Dev.record_frame ..)); case hw => decide +kernel)
    | ((with_reducible apply Frame.step (Dev.bump_frame ..)); case hw => decide +kernel)
    | ((with_reducible apply Frame.step (Dev.put_frame ..)); case hw => decide +kernel)
    | ((with_reducible apply Frame.step (Dev.modCam_frame ..)); case hw => decide +kernel)
    | split

theorem Dev.hostResult_frame (d : Dev) (f : CamFrame) (image : List Byte) (block : List Byte) :
    Frame 0x368000000000004000000000000000000000420510 d (Dev.hostResult d f image block) := by
  unfold Dev.hostResult
  repeat' first
    | (with_reducible assumption)
    | (with_reducible exact Frame.refl)
    | ((with_reducible refine Frame.foldl ?_ (fun _ _ _ => ?_)))
    | ((with_reducible apply Frame.step (Dev.jobWrite_frame ..)); case hw => rfl)
    | split

theorem Dev.processFrame_frame (d : Dev) (f : CamFrame) (part : Bool) :
    Frame 0x60800000000000000000000000000001dc00000000000000000000000000000000000000000000000000000000000000000000000000000000000000000000000000030c20140000368000020000004000000000000000002006429530 d (Dev.processFrame d f part) := by
  unfold Dev.processFrame
  repeat' first
    | (with_reducible assumption)
    | (with_reducible exact Frame.refl)
    | (extract_lets +onlyGivenNames x; first | (clear_value x; revert x; intro _) | (subst x))
    | ((with_reducible refine Frame.foldl ?_ (fun _ _ _ => ?_)))
    | ((with_reducible apply Frame.step (Dev.noteResult_frame ..)); case hw => rfl)
    | ((with_reducible apply Frame.step (Dev.hostResult_frame ..)); case hw => rfl)
    | ((with_reducible apply Frame.step (Dev.storeResult_frame ..)); case hw => rfl)
    | split

/-! ### Faults.lean -/

theorem Dev.showHoldCq_frame (d : Dev) (f : Nat) :
    Frame 0x80000000000000000000000000000000000 d (Dev.showHoldCq d f) := by
  unfold Dev.showHoldCq
  repeat' first
    | (with_reducible assumption)
    | (with_reducible exact Frame.refl)
    | ((with_reducible refine Frame.foldl ?_ (fun _ _ _ => ?_)))
    | ((with_reducible apply Frame.step (Dev.putB_frame ..)); case hw => decide +kernel)

theorem Dev.takePlace_frame (d : Dev) (f : Nat) :
    Frame 0x800000000000000000000000000000000000 d (Dev.takePlace d f) := by
  unfold Dev.takePlace
  repeat' first
    | (with_reducible assumption)
    | (with_reducible exact Frame.refl)
    | ((with_reducible refine Frame.foldl ?_ (fun _ _ _ => ?_)))
    | ((with_reducible apply Frame.step (Dev.put_frame ..)); case hw => decide +kernel)

theorem Dev.freePlace_frame (d : Dev) (f : Nat) :
    Frame 0x800000000000000000000000000000000000 d (Dev.freePlace d f) := by
  unfold Dev.freePlace
  repeat' first
    | (with_reducible assumption)
    | (with_reducible exact Frame.refl)
    | ((with_reducible refine Frame.foldl ?_ (fun _ _ _ => ?_)))
    | ((with_reducible apply Frame.step (Dev.put_frame ..)); case hw => decide +kernel)

theorem Dev.finishJob_frame (d : Dev) (id : Nat) (code : Nat) (time : Nat) :
    Frame 0x20000000000000000000000000000000000000000000000000000000000000000000000000000000000000000000000000000000000000000000000000000000000000000000000000000000000000000000000008a0000000000000000000000000000000500 d (Dev.finishJob d id code time) := by
  unfold Dev.finishJob
  repeat' first
    | (with_reducible assumption)
    | (with_reducible exact Frame.refl)
    | (extract_lets +onlyGivenNames x; first | (refine Frame.cut x ?_ (fun _ => ?_); rotate_left; clear_value x; revert x; intro _ _; rotate_left; subst x) | (clear_value x; revert x; intro _) | (subst x))
    | ((with_reducible refine Frame.foldl ?_ (fun _ _ _ => ?_)))
    | ((with_reducible apply Frame.step (Dev.bump_frame ..)); case hw => decide +kernel)
    | ((with_reducible apply Frame.step (Dev.takePlace_frame ..)); case hw => decide +kernel)
    | ((with_reducible apply Frame.step (Dev.freePlace_frame ..)); case hw => decide +kernel)
    | ((with_reducible apply Frame.step (Dev.showHoldCq_frame ..)); case hw => decide +kernel)
    | ((with_reducible apply Frame.step (Dev.setFn_frame ..)); case hw => decide +kernel)
    | ((with_reducible apply Frame.step (Dev.modJob_frame ..)); case hw => decide +kernel)
    | ((with_reducible apply Frame.step (Dev.dropJob_frame ..)); case hw => decide +kernel)
    | ((with_reducible apply Frame.step (Dev.showFlight_frame ..)); case hw => decide +kernel)
    | split

theorem Dev.settleMarks_frame (d : Dev) (time : Nat) :
    Frame 0x20000000000000000000000000000000000000000000000000000000000000000000000000000000000000000000000000000000000000000000000000000000000000000000000000000000000000000000000008a0000000000000000000000000000020500 d (Dev.settleMarks d time) := by
  unfold Dev.settleMarks
  repeat' first
    | (with_reducible assumption)
    | (with_reducible exact Frame.refl)
    | (extract_lets +onlyGivenNames x; first | (refine Frame.cut x ?_ (fun _ => ?_); rotate_left; clear_value x; revert x; intro _ _; rotate_left; subst x) | (clear_value x; revert x; intro _))
    | ((with_reducible refine Frame.foldl ?_ (fun _ _ _ => ?_)))
    | ((with_reducible apply Frame.step (Dev.finishJob_frame ..)); case hw => rfl)
    | split
    | ((with_reducible refine Frame.layer_of ?hw ?_); case hw => rfl)

theorem Dev.completeAt_frame (d : Dev) (id : Nat) (code : Nat) (time : Nat) :
    Frame 0x20000000000000000000000000000000000000000000000000000000000000000000000000000000000000000000000000000000000000000000000000000000000000000000000000000000000000000000000008a0000000000000000000000000000020500 d (Dev.completeAt d id code time) := by
  unfold Dev.completeAt
  repeat' first
    | (with_reducible assumption)
    | (with_reducible exact Frame.refl)
    | ((with_reducible refine Frame.foldl ?_ (fun _ _ _ => ?_)))
    | ((with_reducible apply Frame.step (Dev.settleMarks_frame ..)); case hw => rfl)
    | ((with_reducible apply Frame.step (Dev.finishJob_frame ..)); case hw => rfl)

theorem Dev.complete_frame (d : Dev) (id : Nat) (code : Nat) :
    Frame 0x20000000000000000000000000000000000000000000000000000000000000000000000000000000000000000000000000000000000000000000000000000000000000000000000000000000000000000000000008a0000000000000000000000000000020500 d (Dev.complete d id code) := by
  unfold Dev.complete
  repeat' first
    | (with_reducible assumption)
    | (with_reducible exact Frame.refl)
    | ((with_reducible refine Frame.foldl ?_ (fun _ _ _ => ?_)))
    | ((with_reducible apply Frame.step (Dev.completeAt_frame ..)); case hw => rfl)

theorem Frame.withJob {w : Nat} {dev0 : Dev} {d : Dev} {id : Nat} {op : Nat} {f : Dev → Job → Dev} (hw : Within 0x0 w)
    (f_h : ∀ x y0, Frame w dev0 x → Frame w dev0 (f x y0)) (h : Frame w dev0 d) :
    Frame w dev0 (Dev.withJob d id op f) := by
  unfold Dev.withJob
  repeat' first
    | (with_reducible assumption)
    | (with_reducible exact Frame.refl)
    | (with_reducible refine f_h _ _ ?_)
    | ((with_reducible refine Frame.foldl ?_ (fun _ _ _ => ?_)))
    | (with_reducible apply_assumption -exfalso -symm)
    | split

theorem Dev.begin'_frame (d : Dev) (j : Job) :
    Frame 0x100 d (Dev.begin' d j) := by
  unfold Dev.begin'
  repeat' first
    | (with_reducible assumption)
    | (with_reducible exact Frame.refl)
    | ((with_reducible refine Frame.foldl ?_ (fun _ _ _ => ?_)))
    | ((with_reducible apply Frame.step (Dev.modJob_frame ..)); case hw => rfl)

theorem Dev.countScarf_frame (d : Dev) (n : Nat) (g : Gran) :
    Frame 0x8000000 d (Dev.countScarf d n g) := by
  unfold Dev.countScarf
  repeat' first
    | (with_reducible assumption)
    | (with_reducible exact Frame.refl)
    | (extract_lets +onlyGivenNames x; clear_value x; revert x; intro _)
    | ((with_reducible refine Frame.foldl ?_ (fun _ _ _ => ?_)))
    | ((with_reducible apply Frame.step (Dev.modEng_frame ..)); case hw => rfl)
    | split

theorem Dev.discardRecs_frame (d : Dev) (n : Nat) (which : Nat → Bool) :
    Frame 0x8000000 d (Dev.discardRecs d n which) := by
  unfold Dev.discardRecs
  repeat' first
    | (with_reducible assumption)
    | (with_reducible exact Frame.refl)
    | (extract_lets +onlyGivenNames x; first | (refine Frame.cut x ?_ (fun _ => ?_); rotate_left; clear_value x; revert x; intro _ _; rotate_left; subst x) | (subst x))
    | ((with_reducible refine Frame.foldl ?_ (fun _ _ _ => ?_)))
    | ((with_reducible apply Frame.step (Dev.countScarf_frame ..)); case hw => rfl)
    | ((with_reducible apply Frame.step (Dev.modEng_frame ..)); case hw => rfl)

theorem Dev.clearStream_frame (d : Dev) (n : Nat) :
    Frame 0x80000000000000000000000000000000000000000000000000008000000 d (Dev.clearStream d n) := by
  unfold Dev.clearStream
  repeat' first
    | (with_reducible assumption)
    | (with_reducible exact Frame.refl)
    | (extract_lets +onlyGivenNames x; first | (clear_value x; revert x; intro _) | (subst x))
    | ((with_reducible refine Frame.foldl ?_ (fun _ _ _ => ?_)))
    | ((with_reducible apply Frame.step (Dev.put_frame ..)); case hw => decide +kernel)
    | ((with_reducible apply Frame.step (Dev.modEng_frame ..)); case hw => decide +kernel)

theorem Dev.endVectors_frame (d : Dev) (n : Nat) (first : Nat) (others : Nat) :
    Frame 0x20000000000000000000000000000000000000000000000000000000000000000000000000000000000000000000000000000000000000000000000000000000000000000000000000000000000000000000000008a0000000000000000000000000000020500 d (Dev.endVectors d n first others) := by
  unfold Dev.endVectors
  repeat' first
    | (with_reducible assumption)
    | (with_reducible exact Frame.refl)
    | (extract_lets +onlyGivenNames x; first | (clear_value x; revert x; intro _) | (subst x))
    | ((with_reducible refine Frame.foldl ?_ (fun _ _ _ => ?_)))
    | ((with_reducible apply Frame.step (Dev.complete_frame ..)); case hw => rfl)
    | split

theorem Dev.faultFlag_frame (d : Dev) (n : Nat) (code : Nat) :
    Frame 0x20000023c00000000000000000000000000000000000000000000000000000000 d (Dev.faultFlag d n code) := by
  unfold Dev.faultFlag
  repeat' first
    | (with_reducible assumption)
    | (with_reducible exact Frame.refl)
    | ((with_reducible refine Frame.foldl ?_ (fun _ _ _ => ?_)))
    | ((with_reducible apply Frame.step (Dev.raise_frame ..)); case hw => decide +kernel)
    | split

theorem Dev.channelFault_frame (d : Dev) (n : Nat) (code : Nat) (status : Nat) :
    Frame 0x20000000000000000006080000000004000000000000000000000000000000000000000000000000000000000000000000000000000000000000000023c400000c4000000001308000a3f00030c201400000000008a000000000000000000000000003e029500 d (Dev.channelFault d n code status) := by
  unfold Dev.channelFault
  repeat' first
    | (with_reducible assumption)
    | (with_reducible exact Frame.refl)
    | (extract_lets +onlyGivenNames x; first | (refine Frame.cut x ?_ (fun _ => ?_); rotate_left; clear_value x; revert x; intro _ _; rotate_left; subst x) | (clear_value x; revert x; intro _) | (subst x))
    | ((with_reducible refine Frame.foldl ?_ (fun _ _ _ => ?_)))
    | ((with_reducible apply Frame.step (Dev.faultFlag_frame ..)); case hw => decide +kernel)
    | ((with_reducible apply Frame.step (Dev.leaveZones_frame ..)); case hw => decide +kernel)
    | ((with_reducible apply Frame.step (Dev.forceGate_frame ..)); case hw => decide +kernel)
    | ((with_reducible apply Frame.step (Dev.put_frame ..)); case hw => decide +kernel)
    | ((with_reducible apply Frame.step (Dev.endClaims_frame ..)); case hw => decide +kernel)
    | ((with_reducible apply Frame.step (Dev.endVectors_frame ..)); case hw => decide +kernel)
    | ((with_reducible apply Frame.step (Dev.discardRecs_frame ..)); case hw => decide +kernel)
    | ((with_reducible apply Frame.step (Dev.modEng_frame ..)); case hw => decide +kernel)
    | ((with_reducible apply Frame.step (Dev.clearStream_frame ..)); case hw => decide +kernel)
    | ((with_reducible apply Frame.step (Dev.record_frame ..)); case hw => decide +kernel)
    | ((with_reducible apply Frame.step (Dev.occur_frame ..)); case hw => decide +kernel)
    | ((with_reducible apply Frame.step (Dev.lower_frame ..)); case hw => decide +kernel)
    | ((with_reducible apply Frame.step (Dev.setLink_frame ..)); case hw => decide +kernel)

theorem Frame.byFn {w : Nat} {dev0 : Dev} {d : Dev} {f : Nat} {g : Dev → Dev} (hw : Within 0x80000000000000000000000000000000000000000 w)
    (g_h : ∀ x , Frame w dev0 x → Frame w dev0 (g x )) (h : Frame w dev0 d) :
    Frame w dev0 (Dev.byFn d f g) := by
  unfold Dev.byFn
  repeat' first
    | (with_reducible assumption)
    | (with_reducible exact Frame.refl)
    | (with_reducible refine g_h _ ?_)
    | ((with_reducible refine Frame.foldl ?_ (fun _ _ _ => ?_)))
    | ((with_reducible apply Frame.step (Dev.bump_frame ..)); case hw => exact Within.trans (b := 0x80000000000000000000000000000000000000000) rfl hw)
    | (with_reducible apply_assumption -exfalso -symm)
    | split

theorem Dev.notSilent_frame (d : Dev) (p : Nat) :
    Frame 0x8000000000000000002000000000000000000000000000000000000000000000000000000000000000000000000020000000 d (Dev.notSilent d p) := by
  unfold Dev.notSilent
  repeat' first
    | (with_reducible assumption)
    | (with_reducible exact Frame.refl)
    | (extract_lets +onlyGivenNames x; first | (refine Frame.cut x ?_ (fun _ => ?_); rotate_left; clear_value x; revert x; intro _ _; rotate_left; subst x) | (clear_value x; revert x; intro _))
    | ((with_reducible refine Frame.foldl ?_ (fun _ _ _ => ?_)))
    | ((with_reducible apply Frame.step (Dev.put_frame ..)); case hw => decide +kernel)
    | split
    | ((with_reducible refine Frame.kerf_of ?hw ?_); case hw => rfl)

theorem Dev.freezePeer_frame (d : Dev) (p : Nat) (cls : Nat) :
    Frame 0x608000000000000000000000000000000000000000000000000000000000000000000000000000000000008000000000000000002000004400000000000000000000030c2014078000000002000000000000000000000000002e009000 d (Dev.freezePeer d p cls) := by
  unfold Dev.freezePeer
  repeat' first
    | (with_reducible assumption)
    | (with_reducible exact Frame.refl)
    | (extract_lets +onlyGivenNames x; first | (refine Frame.cut x ?_ (fun _ => ?_); rotate_left; clear_value x; revert x; intro _ _; rotate_left; subst x) | (clear_value x; revert x; intro _) | (subst x))
    | ((with_reducible refine Frame.foldl ?_ (fun _ _ _ => ?_)))
    | ((with_reducible apply Frame.step (Dev.put_frame ..)); case hw => decide +kernel)
    | ((with_reducible apply Frame.step (Dev.bump_frame ..)); case hw => decide +kernel)
    | ((with_reducible apply Frame.step (Dev.record_frame ..)); case hw => decide +kernel)
    | ((with_reducible apply Frame.step (Dev.notSilent_frame ..)); case hw => decide +kernel)
    | ((with_reducible apply Frame.step (Dev.partnerAbsent_frame ..)); case hw => decide +kernel)
    | split
    | ((with_reducible refine Frame.kerf_of ?hw ?_); case hw => rfl)

theorem Dev.hear_frame (d : Dev) (p : Nat) :
    Frame 0x20000000 d (Dev.hear d p) := by
  unfold Dev.hear
  repeat' first
    | (with_reducible assumption)
    | (with_reducible exact Frame.refl)
    | (extract_lets +onlyGivenNames x; clear_value x; revert x; intro _)
    | ((with_reducible refine Frame.foldl ?_ (fun _ _ _ => ?_)))
    | split
    | ((with_reducible refine Frame.kerf_of ?hw ?_); case hw => rfl)

theorem Dev.hearPort_frame (d : Dev) (p : Nat) :
    Frame 0x20000000 d (Dev.hearPort d p) := by
  unfold Dev.hearPort
  repeat' first
    | (with_reducible assumption)
    | (with_reducible exact Frame.refl)
    | ((with_reducible refine Frame.foldl ?_ (fun _ _ _ => ?_)))
    | ((with_reducible apply Frame.step (Dev.hear_frame ..)); case hw => rfl)
    | split

theorem Frame.fabricIn {w : Nat} {dev0 : Dev} {d : Dev} {f : Dev → Dev} (hw : Within 0x0 w)
    (f_h : ∀ x , Frame w dev0 x → Frame w dev0 (f x )) (h : Frame w dev0 d) :
    Frame w dev0 (Dev.fabricIn d f) := by
  unfold Dev.fabricIn
  repeat' first
    | (with_reducible assumption)
    | (with_reducible exact Frame.refl)
    | (with_reducible refine f_h _ ?_)
    | ((with_reducible refine Frame.foldl ?_ (fun _ _ _ => ?_)))
    | (with_reducible apply_assumption -exfalso -symm)
    | split

theorem Frame.granting {w : Nat} {dev0 : Dev} {d : Dev} {p : Nat} {cls : Nat} {range : Option (Nat × Nat)} {f : Dev → Dev} (hw : Within 0x608000000000000000000000000000000000000000000000000000000000000000000000000000000000008000000000000000002000004400000000000000000000030c2014078000000002000000000000000000000000002e009000 w)
    (f_h : ∀ x , Frame w dev0 x → Frame w dev0 (f x )) (h : Frame w dev0 d) :
    Frame w dev0 (Dev.granting d p cls range f) := by
  unfold Dev.granting
  repeat' first
    | (with_reducible assumption)
    | (with_reducible exact Frame.refl)
    | (extract_lets +onlyGivenNames x; refine Frame.cut x ?_ (fun _ => ?_); rotate_left; clear_value x; revert x; intro _ _; rotate_left; subst x)
    | (with_reducible refine f_h _ ?_)
    | ((with_reducible refine Frame.foldl ?_ (fun _ _ _ => ?_)))
    | ((with_reducible refine Frame.fabricIn ?hw (fun _ _ => ?_) ?_); case hw => exact Within.trans (b := 0x608000000000000000000000000000000000000000000000000000000000000000000000000000000000008000000000000000002000004400000000000000000000030c2014078000000002000000000000000000000000002e009000) rfl hw)
    | ((with_reducible apply Frame.step (Dev.hear_frame ..)); case hw => exact Within.trans (b := 0x608000000000000000000000000000000000000000000000000000000000000000000000000000000000008000000000000000002000004400000000000000000000030c2014078000000002000000000000000000000000002e009000) rfl hw)
    | ((with_reducible apply Frame.step (Dev.freezePeer_frame ..)); case hw => exact Within.trans (b := 0x608000000000000000000000000000000000000000000000000000000000000000000000000000000000008000000000000000002000004400000000000000000000030c2014078000000002000000000000000000000000002e009000) rfl hw)
    | (with_reducible apply_assumption -exfalso -symm)
    | split

theorem Dev.saveTo_frame (d : Dev) (j : Job) (a : Nat) (bs : List Byte) (code : Nat) :
    Frame 0x20000000000000000000000000000000000000000000000000000000000000000000000000000000000000000000000000000000000000000000000000000000000000000000000000000000000000000003680008a0000004000000000000000000000420510 d (Dev.saveTo d j a bs code) := by
  unfold Dev.saveTo
  repeat' first
    | (with_reducible assumption)
    | (with_reducible exact Frame.refl)
    | ((with_reducible refine Frame.foldl ?_ (fun _ _ _ => ?_)))
    | ((with_reducible apply Frame.step (Dev.complete_frame ..)); case hw => rfl)
    | ((with_reducible apply Frame.step (Dev.jobWrite_frame ..)); case hw => rfl)
    | split

theorem Dev.startRelock_frame (d : Dev) (n : Nat) :
    Frame 0x102000000000000000000010000 d (Dev.startRelock d n) := by
  unfold Dev.startRelock
  repeat' first
    | (with_reducible assumption)
    | (with_reducible exact Frame.refl)
    | (extract_lets +onlyGivenNames x; first | (refine Frame.cut x ?_ (fun _ => ?_); rotate_left; clear_value x; revert x; intro _ _; rotate_left; subst x) | (clear_value x; revert x; intro _) | (subst x))
    | ((with_reducible refine Frame.foldl ?_ (fun _ _ _ => ?_)))
    | ((with_reducible apply Frame.step (Dev.setIsland_frame ..)); case hw => decide +kernel)
    | ((with_reducible apply Frame.step (Dev.put_frame ..)); case hw => decide +kernel)
    | ((with_reducible apply Frame.step (Dev.raise_frame ..)); case hw => decide +kernel)
    | split

theorem Dev.setService_frame (d : Dev) (u : Nat) (on : Bool) :
    Frame 0x1000000000000000000800000000000000000000000000000000000000000000000000000000000000000000000000000000000000000000002000000000000000000000000000000000000100000000001000000000000000000106000000000000000000010c00 d (Dev.setService d u on) := by
  unfold Dev.setService
  repeat' first
    | (with_reducible assumption)
    | (with_reducible exact Frame.refl)
    | (extract_lets +onlyGivenNames x; first | (refine Frame.cut x ?_ (fun _ => ?_); rotate_left; clear_value x; revert x; intro _ _; rotate_left; subst x) | (clear_value x; revert x; intro _) | (subst x))
    | ((with_reducible refine Frame.foldl ?_ (fun _ _ _ => ?_)))
    | ((with_reducible apply Frame.step (Dev.putB_frame ..)); case hw => decide +kernel)
    | ((with_reducible apply Frame.step (Dev.setIsland_frame ..)); case hw => decide +kernel)
    | ((with_reducible apply Frame.step (Dev.startRelock_frame ..)); case hw => decide +kernel)
    | ((with_reducible apply Frame.step (Dev.put_frame ..)); case hw => decide +kernel)
    | ((with_reducible apply Frame.step (Dev.setFn_frame ..)); case hw => decide +kernel)
    | split
    | ((with_reducible refine Frame.movers_of ?hw ?hx ?_); (case hw => (first | rfl | (simp))); (case hx => (intro hc; first | exact Tab.wf_set _ _ _ _ hc.movers | exact Tab.wf_filter _ _ _ hc.movers | exact Tab.wf_nil _)))

theorem Dev.settleUnit_frame (d : Dev) (u : Nat) :
    Frame 0x20000000000000000000000000000000000000000000000000000000000000000000000000000000000000000000000000000000000000000000000000000000000000000000000000000000000000000000000008a0000000000000000000000000000020500 d (Dev.settleUnit d u) := by
  unfold Dev.settleUnit
  repeat' first
    | (with_reducible assumption)
    | (with_reducible exact Frame.refl)
    | ((with_reducible refine Frame.foldl ?_ (fun _ _ _ => ?_)))
    | ((with_reducible apply Frame.step (Dev.complete_frame ..)); case hw => rfl)
    | split

theorem Dev.dropRecs_frame (d : Dev) (n : Nat) (id : Nat) :
    Frame 0x8000000 d (Dev.dropRecs d n id) := by
  unfold Dev.dropRecs
  repeat' first
    | (with_reducible assumption)
    | (with_reducible exact Frame.refl)
    | (extract_lets +onlyGivenNames x; first | (clear_value x; revert x; intro _) | (subst x))
    | ((with_reducible refine Frame.foldl ?_ (fun _ _ _ => ?_)))
    | ((with_reducible apply Frame.step (Dev.modEng_frame ..)); case hw => rfl)
    | ((with_reducible apply Frame.step (Dev.discardRecs_frame ..)); case hw => rfl)

theorem Dev.outTile_frame (d : Dev) (t : Nat) (code : Nat) :
    Frame 0x20000000000000000000000000000000000000000000000000000000000000000000000000000000000000000000000040000000000000000000000000000000000000000000000000000000000000000000000008a0000000000000000000000000080020500 d (Dev.outTile d t code) := by
  unfold Dev.outTile
  repeat' first
    | (with_reducible assumption)
    | (with_reducible exact Frame.refl)
    | (extract_lets +onlyGivenNames x; first | (refine Frame.cut x ?_ (fun _ => ?_); rotate_left; clear_value x; revert x; intro _ _; rotate_left; subst x) | (clear_value x; revert x; intro _) | (subst x))
    | ((with_reducible refine Frame.foldl ?_ (fun _ _ _ => ?_)))
    | ((with_reducible apply Frame.step (Dev.complete_frame ..)); case hw => decide +kernel)
    | ((with_reducible apply Frame.step (Dev.modTile_frame ..)); case hw => decide +kernel)
    | ((with_reducible apply Frame.step (Dev.put_frame ..)); case hw => decide +kernel)
    | split

theorem Dev.outAxis_frame (d : Dev) (a : Nat) (code : Nat) :
    Frame 0x20000000000000000000000000000000000000000000000000000000000000108000000080780000000000000000000000000000000000000000000000000000000000000000000000000000000000000000000008a0000000000000000000000000300020500 d (Dev.outAxis d a code) := by
  unfold Dev.outAxis
  repeat' first
    | (with_reducible assumption)
    | (with_reducible exact Frame.refl)
    | (extract_lets +onlyGivenNames x; first | (refine Frame.cut x ?_ (fun _ => ?_); rotate_left; clear_value x; revert x; intro _ _; rotate_left; subst x) | (clear_value x; revert x; intro _) | (subst x))
    | ((with_reducible refine Frame.foldl ?_ (fun _ _ _ => ?_)))
    | ((with_reducible apply Frame.step (Dev.complete_frame ..)); case hw => decide +kernel)
    | ((with_reducible apply Frame.step (Dev.modAxis_frame ..)); case hw => decide +kernel)
    | ((with_reducible apply Frame.step (Dev.lower_frame ..)); case hw => decide +kernel)
    | ((with_reducible apply Frame.step (Dev.modEnc_frame ..)); case hw => decide +kernel)
    | ((with_reducible apply Frame.step (Dev.brake_frame ..)); case hw => decide +kernel)

theorem Dev.outCameras_frame (d : Dev) (code : Nat) :
    Frame 0x200000000000000000060800000000000000000000000000001de00000040000000000000000000000000000000000000000000000000000000000000000000000000000000000000000000030c201400003680008a000000400000000000000000e006429530 d (Dev.outCameras d code) := by
  unfold Dev.outCameras
  repeat' first
    | (with_reducible assumption)
    | (with_reducible exact Frame.refl)
    | (extract_lets +onlyGivenNames x; first | (refine Frame.cut x ?_ (fun _ => ?_); rotate_left; clear_value x; revert x; intro _ _; rotate_left; subst x) | (clear_value x; revert x; intro _) | (subst x))
    | ((with_reducible refine Frame.foldl ?_ (fun _ _ _ => ?_)))
    | ((with_reducible apply Frame.step (Dev.processFrame_frame ..)); case hw => decide +kernel)
    | ((with_reducible apply Frame.step (Dev.modCam_frame ..)); case hw => decide +kernel)
    | ((with_reducible apply Frame.step (Dev.lower_frame ..)); case hw => decide +kernel)
    | ((with_reducible apply Frame.step (Dev.complete_frame ..)); case hw => decide +kernel)
    | ((with_reducible apply Frame.step (Dev.put_frame ..)); case hw => decide +kernel)
    | split
    | refine Frame.camPorts_pipe_of rfl (by intro hc; first | exact Tab.wf_set _ _ _ _ hc.camPorts | exact Tab.wf_filter _ _ _ hc.camPorts | exact Tab.wf_nil _) rfl ?_

theorem Dev.endUnitJobs_frame (d : Dev) (u : Nat) (code : Nat) :
    Frame 0x200000000000000000060800000000000000000000000000001de00000040010800000008078000000000000000000004000000000000000000000000000000000000000000000000000000030c201400003680008a000000400000000000000000e38e429530 d (Dev.endUnitJobs d u code) := by
  unfold Dev.endUnitJobs
  repeat' first
    | (with_reducible assumption)
    | (with_reducible exact Frame.refl)
    | (extract_lets +onlyGivenNames x; first | (refine Frame.cut x ?_ (fun _ => ?_); rotate_left; clear_value x; revert x; intro _ _; rotate_left; subst x) | (subst x))
    | ((with_reducible refine Frame.foldl ?_ (fun _ _ _ => ?_)))
    | ((with_reducible apply Frame.step (Dev.outTile_frame ..)); case hw => rfl)
    | ((with_reducible apply Frame.step (Dev.outAxis_frame ..)); case hw => rfl)
    | ((with_reducible apply Frame.step (Dev.outCameras_frame ..)); case hw => rfl)
    | ((with_reducible apply Frame.step (Dev.complete_frame ..)); case hw => rfl)
    | ((with_reducible apply Frame.step (Dev.dropRecs_frame ..)); case hw => rfl)
    | ((with_reducible apply Frame.step (Dev.modEng_frame ..)); case hw => rfl)
    | split

theorem Dev.askCover_frame (d : Dev) (r : CalReq) :
    Frame 0x200000 d (Dev.askCover d r) := by
  unfold Dev.askCover
  repeat' first
    | (with_reducible assumption)
    | (with_reducible exact Frame.refl)
    | (extract_lets +onlyGivenNames x; clear_value x; revert x; intro _)
    | ((with_reducible refine Frame.foldl ?_ (fun _ _ _ => ?_)))
    | split
    | ((with_reducible refine Frame.cal_of ?hw ?_); case hw => rfl)

theorem Dev.sendRecord_frame (d : Dev) (rest : List Gran) :
    Frame 0x20006000000 d (Dev.sendRecord d rest) := by
  unfold Dev.sendRecord
  repeat' first
    | (with_reducible assumption)
    | (with_reducible exact Frame.refl)
    | (extract_lets +onlyGivenNames x; first | (refine Frame.cut x ?_ (fun _ => ?_); rotate_left; clear_value x; revert x; intro _ _; rotate_left; subst x) | (clear_value x; revert x; intro _))
    | ((with_reducible refine Frame.foldl ?_ (fun _ _ _ => ?_)))
    | ((with_reducible apply Frame.step (Dev.fabUnicast_frame ..)); case hw => rfl)
    | split
    | ((with_reducible refine Frame.hinge_of ?hw ?_); case hw => rfl)

theorem Dev.outputsSafe_frame (d : Dev) (code : Nat) :
    Frame 0x20000000000000000000000000000000000000000000000000000000000000108000000080780000000000000000000000000000000000000000000023c40000000000000001108000000000000000000000000008a00000000000000000000000003af020500 d (Dev.outputsSafe d code) := by
  unfold Dev.outputsSafe
  repeat' first
    | (with_reducible assumption)
    | (with_reducible exact Frame.refl)
    | (extract_lets +onlyGivenNames x; first | (refine Frame.cut x ?_ (fun _ => ?_); rotate_left; clear_value x; revert x; intro _ _; rotate_left; subst x) | (clear_value x; revert x; intro _) | (subst x))
    | ((with_reducible refine Frame.foldl ?_ (fun _ _ _ => ?_)))
    | ((with_reducible apply Frame.step (Dev.endClaims_frame ..)); case hw => rfl)
    | ((with_reducible apply Frame.step (Dev.forceGate_frame ..)); case hw => rfl)
    | ((with_reducible apply Frame.step (Dev.outAxis_frame ..)); case hw => rfl)
    | ((with_reducible apply Frame.step (Dev.blankTiles_frame ..)); case hw => rfl)
    | split
    | ((with_reducible refine Frame.pins_of ?hw ?_); case hw => rfl)

theorem Dev.hingeFail_frame (d : Dev) (reason : Nat) :
    Frame 0x20000000000000000000000000100800000000000000000000000000000000108000000080780000000000000000000000000000000000000000000023c40000000000000001108000000000000000000000000008a00000000000000000000000203af020500 d (Dev.hingeFail d reason) := by
  unfold Dev.hingeFail
  repeat' first
    | (with_reducible assumption)
    | (with_reducible exact Frame.refl)
    | ((with_reducible refine Frame.foldl ?_ (fun _ _ _ => ?_)))
    | ((with_reducible apply Frame.step (Dev.sendRecord_frame ..)); case hw => decide +kernel)
    | ((with_reducible apply Frame.step (Dev.put_frame ..)); case hw => decide +kernel)
    | ((with_reducible apply Frame.step (Dev.outputsSafe_frame ..)); case hw => decide +kernel)
    | split

theorem Dev.showHealth_frame (d : Dev) :
    Frame 0x220100000000000000000000000000000000000000000000000000000000000000000000000000000000000000000000000000000000000000000000000000030c00140000000000020000000000000000000000000006001000 d (Dev.showHealth d) := by
  unfold Dev.showHealth
  repeat' first
    | (with_reducible assumption)
    | (with_reducible exact Frame.refl)
    | (extract_lets +onlyGivenNames x; first | (refine Frame.cut x ?_ (fun _ => ?_); rotate_left; clear_value x; revert x; intro _ _; rotate_left; subst x) | (clear_value x; revert x; intro _) | (subst x))
    | ((with_reducible refine Frame.foldl ?_ (fun _ _ _ => ?_)))
    | ((with_reducible apply Frame.step (Dev.put_frame ..)); case hw => decide +kernel)
    | ((with_reducible apply Frame.step (Dev.putB_frame ..)); case hw => decide +kernel)
    | ((with_reducible apply Frame.step (Dev.occur_frame ..)); case hw => decide +kernel)
    | split

theorem Dev.copyEngine_frame (d : Dev) (a b : Nat) : Frame 0x6f000000007fc003fec0000000001fffc000fc007800000fffc0000000000000000000000000000000000000000000008000004 d (Dev.copyEngine d a b) := by
  have hcov : Fld.covers Fld.copied 0x6f000000007fc003fec0000000001fffc000fc007800000fffc0000000000000000000000000000000000000000000008000004 = true := by decide +kernel
  unfold Dev.copyEngine
  extract_lets mine rs fs d1 d2 d3 k
  refine Frame.step (Dev.modEng_frame ..) (by decide +kernel) ?_
  refine Frame.foldl ?_ (fun x c h => Frame.force_of rfl (fun hc => cellsWf_set _ _ _ _ _ hc.force) h)
  refine Frame.foldl_mem ?_ (fun x c hc h => h.step' (Dev.put_frame ..) (Fld.within hcov _ ?_))
  · exact Frame.resetFlds Fld.copied (fun _ hc => (Bool.and_eq_true_iff.mp hc).2) hcov rfl Frame.refl
  · exact (Bool.and_eq_true_iff.mp (List.mem_filter.mp hc).2).2

theorem Dev.moveReqs_frame (d : Dev) (a : Nat) (b : Nat) :
    Frame 0x23c4000000000000000010000000000000000000000000000000000000000000000000000000026000000 d (Dev.moveReqs d a b) := by
  unfold Dev.moveReqs
  repeat' first
    | (with_reducible assumption)
    | (with_reducible exact Frame.refl)
    | (extract_lets +onlyGivenNames x; first | (refine Frame.cut x ?_ (fun _ => ?_); rotate_left; clear_value x; revert x; intro _ _; rotate_left; subst x) | (clear_value x; revert x; intro _) | (subst x))
    | ((with_reducible refine Frame.foldl ?_ (fun _ _ _ => ?_)))
    | ((with_reducible apply Frame.step (Dev.releaseReq_frame ..)); case hw => rfl)
    | ((with_reducible apply Frame.step (Dev.showKerf_frame ..)); case hw => rfl)
    | ((with_reducible apply Frame.step (Dev.setReqs_frame ..)); case hw => rfl)

theorem Dev.moveChannel_frame (d : Dev) (a : Nat) (b : Nat) :
    Frame 0x8000000023c40000000000000000100000c030000000000000000000000000000000000000000000000002e000000 d (Dev.moveChannel d a b) := by
  unfold Dev.moveChannel
  repeat' first
    | (with_reducible assumption)
    | (with_reducible exact Frame.refl)
    | (extract_lets +onlyGivenNames x; first | (refine Frame.cut x ?_ (fun _ => ?_); rotate_left; clear_value x; revert x; intro _ _; rotate_left; subst x) | (clear_value x; revert x; intro _) | (subst x))
    | ((with_reducible refine Frame.foldl ?_ (fun _ _ _ => ?_)))
    | ((with_reducible apply Frame.step (Dev.moveReqs_frame ..)); case hw => decide +kernel)
    | ((with_reducible apply Frame.step (Dev.setEng_frame ..)); case hw => decide +kernel)
    | ((with_reducible apply Frame.step (Dev.put_frame ..)); case hw => decide +kernel)
    | ((with_reducible apply Frame.step (Dev.lower_frame ..)); case hw => decide +kernel)

theorem Dev.showCal_frame (d : Dev) :
    Frame 0x200000000000000000000000000000000000000000000000000000000000000000000000000000000000000000000000000000000000000000000000000000000000000000000000000000000000000000000000000000000000000000000000000000 d (Dev.showCal d) := by
  unfold Dev.showCal
  repeat' first
    | (with_reducible assumption)
    | (with_reducible exact Frame.refl)
    | ((with_reducible refine Frame.foldl ?_ (fun _ _ _ => ?_)))
    | ((with_reducible apply Frame.step (Dev.put_frame ..)); case hw => decide +kernel)

theorem Dev.endCover_frame (d : Dev) (s : Nat) :
    Frame 0x80000000001800000000000000000000000000000000000000000000000000000000000000000000000000000000000000000000000000000098000000023c40000000000000000100000c030000000000000000000000000000000000000000000000002e200000 d (Dev.endCover d s) := by
  unfold Dev.endCover
  repeat' first
    | (with_reducible assumption)
    | (with_reducible exact Frame.refl)
    | (extract_lets +onlyGivenNames x; first | (refine Frame.cut x ?_ (fun _ => ?_); rotate_left; clear_value x; revert x; intro _ _; rotate_left; subst x) | (clear_value x; revert x; intro _) | (subst x))
    | ((with_reducible refine Frame.foldl ?_ (fun _ _ _ => ?_)))
    | ((with_reducible apply Frame.step (Dev.setCover_frame ..)); case hw => decide +kernel)
    | ((with_reducible apply Frame.step (Dev.put_frame ..)); case hw => first | decide +kernel | exact Within.refl | assumption | exact Reg.mask_within (by decide +kernel) _ | (repeat' first | exact Within.refl | decide +kernel | exact Reg.mask_within (by decide +kernel) _ | exact Within.or_right Within.refl | refine Within.or ?_ ?_ | exact Within.or_left (by decide +kernel) | exact Within.or_right (by decide +kernel)))
    | ((with_reducible apply Frame.step (Dev.moveChannel_frame ..)); case hw => decide +kernel)
    | split

theorem Dev.dropCal_frame (d : Dev) (u : Nat) :
    Frame 0x200000 d (Dev.dropCal d u) := by
  unfold Dev.dropCal
  repeat' first
    | (with_reducible assumption)
    | (with_reducible exact Frame.refl)
    | (extract_lets +onlyGivenNames x; clear_value x; revert x; intro _)
    | ((with_reducible refine Frame.foldl ?_ (fun _ _ _ => ?_)))
    | split
    | ((with_reducible refine Frame.cal_of ?hw ?_); case hw => rfl)

theorem Dev.endCals_frame (d : Dev) (u : Nat) (code : Nat) :
    Frame 0x20000000000000000000000000000000000000000000000000000000000000000000000000000000000000000000000000000000000000000000000000000000000000000000000000000000000000000000000008a0000000000000000000000000000220500 d (Dev.endCals d u code) := by
  unfold Dev.endCals
  repeat' first
    | (with_reducible assumption)
    | (with_reducible exact Frame.refl)
    | (extract_lets +onlyGivenNames x; first | (clear_value x; revert x; intro _) | (subst x))
    | ((with_reducible refine Frame.foldl ?_ (fun _ _ _ => ?_)))
    | ((with_reducible apply Frame.step (Dev.complete_frame ..)); case hw => rfl)
    | ((with_reducible apply Frame.step (Dev.dropCal_frame ..)); case hw => rfl)

theorem Dev.calFault_frame (d : Dev) (u : Nat) :
    Frame 0x900200000018000000080000000000000000000000000000000000000000000000000000000000000000000000000000000000000000000000b8000040023c40000000000000000100000c03000000000010000000008a000000010600000000000000002e230d00 d (Dev.calFault d u) := by
  unfold Dev.calFault
  repeat' first
    | (with_reducible assumption)
    | (with_reducible exact Frame.refl)
    | (extract_lets +onlyGivenNames x; first | (refine Frame.cut x ?_ (fun _ => ?_); rotate_left; clear_value x; revert x; intro _ _; rotate_left; subst x) | (clear_value x; revert x; intro _))
    | ((with_reducible refine Frame.foldl ?_ (fun _ _ _ => ?_)))
    | ((with_reducible apply Frame.step (Dev.endCals_frame ..)); case hw => decide +kernel)
    | ((with_reducible apply Frame.step (Dev.endCover_frame ..)); case hw => decide +kernel)
    | ((with_reducible apply Frame.step (Dev.setService_frame ..)); case hw => decide +kernel)
    | ((with_reducible apply Frame.step (Dev.put_frame ..)); case hw => decide +kernel)
    | ((with_reducible apply Frame.step (Dev.sliceServes_frame ..)); case hw => decide +kernel)
    | ((with_reducible apply Frame.step (Dev.askCover_frame ..)); case hw => decide +kernel)
    | split
    | ((with_reducible refine Frame.cal_of ?hw ?_); case hw => rfl)

theorem Dev.unbind_frame (d : Dev) (u : Nat) :
    Frame 0x60800000000040000000000000000000000000000000000000000000000000000000000000000000000000000000000000000000000000c400000000000000040000030c2014000000000002000000000000000000000000002e009000 d (Dev.unbind d u) := by
  unfold Dev.unbind
  repeat' first
    | (with_reducible assumption)
    | (with_reducible exact Frame.refl)
    | ((with_reducible refine Frame.foldl ?_ (fun _ _ _ => ?_)))
    | ((with_reducible apply Frame.step (Dev.put_frame ..)); case hw => decide +kernel)
    | ((with_reducible apply Frame.step (Dev.goAbsent_frame ..)); case hw => decide +kernel)
    | split

theorem Dev.startCal_frame (d : Dev) (r : CalReq) :
    Frame 0x100000000000000000080060800000000040000000000000000000000000000000000000000000000000000000000000000000000000000000200000000000000000c400000000000000040100030c2014100000000002000000010600000000000000002e219c00 d (Dev.startCal d r) := by
  unfold Dev.startCal
  repeat' first
    | (with_reducible assumption)
    | (with_reducible exact Frame.refl)
    | (extract_lets +onlyGivenNames x; first | (refine Frame.cut x ?_ (fun _ => ?_); rotate_left; clear_value x; revert x; intro _ _; rotate_left; subst x) | (clear_value x; revert x; intro _) | (subst x))
    | ((with_reducible refine Frame.foldl ?_ (fun _ _ _ => ?_)))
    | ((with_reducible apply Frame.step (Dev.setService_frame ..)); case hw => rfl)
    | ((with_reducible apply Frame.step (Dev.unbind_frame ..)); case hw => rfl)
    | split
    | ((with_reducible refine Frame.cal_of ?hw ?_); case hw => rfl)

theorem Dev.serveReq_frame (d : Dev) (r : CalReq) :
    Frame 0x100000000000000000080060800000000040000000000000000000000000000000000000000000000000000000000000000000000000000000200000000000000000c400000000000000040100030c2014100000000002000000010600000000000000002e219c00 d (Dev.serveReq d r) := by
  unfold Dev.serveReq
  repeat' first
    | (with_reducible assumption)
    | (with_reducible exact Frame.refl)
    | (extract_lets +onlyGivenNames x; first | (refine Frame.cut x ?_ (fun _ => ?_); rotate_left; clear_value x; revert x; intro _ _; rotate_left; subst x) | (clear_value x; revert x; intro _))
    | ((with_reducible refine Frame.foldl ?_ (fun _ _ _ => ?_)))
    | ((with_reducible apply Frame.step (Dev.startCal_frame ..)); case hw => rfl)
    | ((with_reducible apply Frame.step (Dev.setCover_frame ..)); case hw => rfl)
    | split
    | ((with_reducible refine Frame.cal_of ?hw ?_); case hw => rfl)

theorem Dev.pumpCal_frame (d : Dev) :
    Frame 0x100000000020000000080060800000000040000000000000000000000000000000000000000000000000000000000000000000000000000000200000000000000000c400000000000000040100030c2014100000000002000000010600000000000000002e219c00 d (Dev.pumpCal d) := by
  unfold Dev.pumpCal
  repeat' first
    | (with_reducible assumption)
    | (with_reducible exact Frame.refl)
    | ((with_reducible refine Frame.foldl ?_ (fun _ _ _ => ?_)))
    | ((with_reducible apply Frame.step (Dev.showCal_frame ..)); case hw => rfl)
    | ((with_reducible apply Frame.step (Dev.serveReq_frame ..)); case hw => rfl)

theorem Dev.coverFault_frame (d : Dev) (u : Nat) :
    Frame 0x100200000020000000080060800000000040000000000000000000000000000000000000000000000000000000000000000000000000000000200000000000000000c400000000000000040100030c201410000000008a000000010600000000000000002e239d00 d (Dev.coverFault d u) := by
  unfold Dev.coverFault
  repeat' first
    | (with_reducible assumption)
    | (with_reducible exact Frame.refl)
    | (extract_lets +onlyGivenNames x; first | (refine Frame.cut x ?_ (fun _ => ?_); rotate_left; clear_value x; revert x; intro _ _; rotate_left; subst x) | (clear_value x; revert x; intro _) | (subst x))
    | ((with_reducible refine Frame.foldl ?_ (fun _ _ _ => ?_)))
    | ((with_reducible apply Frame.step (Dev.complete_frame ..)); case hw => rfl)
    | ((with_reducible apply Frame.step (Dev.setCover_frame ..)); case hw => rfl)
    | ((with_reducible apply Frame.step (Dev.pumpCal_frame ..)); case hw => rfl)
    | ((with_reducible apply Frame.step (Dev.askCover_frame ..)); case hw => rfl)
    | split
    | ((with_reducible refine Frame.cal_of ?hw ?_); case hw => rfl)

theorem Dev.unitOut_frame (d : Dev) (u : Nat) (status : Nat) (testing : Bool) :
    Frame 0x900200000038000000080060800000000040000000000000000001de0000004001080000000807800000000000000000000400000000000000b8000040023c400000c4000000001108000c0300030c201410003680008a000000410600000000000000e3ae639d30 d (Dev.unitOut d u status testing) := by
  unfold Dev.unitOut
  repeat' first
    | (with_reducible assumption)
    | (with_reducible exact Frame.refl)
    | (extract_lets +onlyGivenNames x; first | (refine Frame.cut x ?_ (fun _ => ?_); rotate_left; clear_value x; revert x; intro _ _; rotate_left; subst x) | (clear_value x; revert x; intro _) | (subst x))
    | ((with_reducible refine Frame.foldl ?_ (fun _ _ _ => ?_)))
    | ((with_reducible apply Frame.step (Dev.forceGate_frame ..)); case hw => decide +kernel)
    | ((with_reducible apply Frame.step (Dev.goAbsent_frame ..)); case hw => decide +kernel)
    | ((with_reducible apply Frame.step (Dev.endClaims_frame ..)); case hw => decide +kernel)
    | ((with_reducible apply Frame.step (Dev.dropPasses_frame ..)); case hw => decide +kernel)
    | ((with_reducible apply Frame.step (Dev.endUnitJobs_frame ..)); case hw => decide +kernel)
    | ((with_reducible apply Frame.step (Dev.setService_frame ..)); case hw => decide +kernel)
    | ((with_reducible apply Frame.step (Dev.setIsland_frame ..)); case hw => decide +kernel)
    | ((with_reducible apply Frame.step (Dev.calFault_frame ..)); case hw => decide +kernel)
    | ((with_reducible apply Frame.step (Dev.coverFault_frame ..)); case hw => decide +kernel)
    | ((with_reducible apply Frame.step (Dev.put_frame ..)); case hw => decide +kernel)
    | split

theorem Dev.unitFault_frame (d : Dev) (u : Nat) (cause : Nat) (kind : Nat) (status : Nat) :
    Frame 0x19c0200000038000000080060880001008040000000000000000001de0000004001080000000807800000000000000000000400000000000000f8000040023c400000c4000000001108000c0300030c201410003680008a000000410600000000000002e3af639d30 d (Dev.unitFault d u cause kind status) := by
  unfold Dev.unitFault
  repeat' first
    | (with_reducible assumption)
    | (with_reducible exact Frame.refl)
    | (extract_lets +onlyGivenNames x; first | (refine Frame.cut x ?_ (fun _ => ?_); rotate_left; clear_value x; revert x; intro _ _; rotate_left; subst x) | (clear_value x; revert x; intro _) | (subst x))
    | ((with_reducible refine Frame.foldl ?_ (fun _ _ _ => ?_)))
    | ((with_reducible apply Frame.step (Dev.bump_frame ..)); case hw => decide +kernel)
    | ((with_reducible apply Frame.step (Dev.setIsland_frame ..)); case hw => decide +kernel)
    | ((with_reducible apply Frame.step (Dev.put_frame ..)); case hw => decide +kernel)
    | ((with_reducible apply Frame.step (Dev.record_frame ..)); case hw => decide +kernel)
    | ((with_reducible apply Frame.step (Dev.occur_frame ..)); case hw => decide +kernel)
    | ((with_reducible apply Frame.step (Dev.unitOut_frame ..)); case hw => decide +kernel)
    | ((with_reducible apply Frame.step (Dev.raise_frame ..)); case hw => decide +kernel)
    | ((with_reducible apply Frame.step (Dev.degrade_frame ..)); case hw => decide +kernel)
    | ((with_reducible apply Frame.step (Dev.hingeFail_frame ..)); case hw => decide +kernel)
    | split

/-! ### Grain.lean -/

theorem Dev.loseTile_frame (d : Dev) (k : Nat) :
    Frame 0x1004000000000000000000000000000000000000000000000000000000000000000000000000000000000000000000000000000 d (Dev.loseTile d k) := by
  unfold Dev.loseTile
  repeat' first
    | (with_reducible assumption)
    | (with_reducible exact Frame.refl)
    | (extract_lets +onlyGivenNames x; first | (clear_value x; revert x; intro _) | (subst x))
    | ((with_reducible refine Frame.foldl ?_ (fun _ _ _ => ?_)))
    | ((with_reducible apply Frame.step (Dev.raise_frame ..)); case hw => decide +kernel)
    | ((with_reducible apply Frame.step (Dev.put_frame ..)); case hw => decide +kernel)

theorem Dev.setCell_frame (d : Dev) (k : Nat) (v : Nat) :
    Frame 0x20040000000 d (Dev.setCell d k v) := by
  unfold Dev.setCell
  repeat' first
    | (with_reducible assumption)
    | (with_reducible exact Frame.refl)
    | (extract_lets +onlyGivenNames x; clear_value x; revert x; intro _)
    | ((with_reducible refine Frame.foldl ?_ (fun _ _ _ => ?_)))
    | split
    | refine Frame.grain_hinge_of rfl rfl ?_

theorem Dev.noteCell_frame (d : Dev) (k : Nat) :
    Frame 0x40000000 d (Dev.noteCell d k) := by
  unfold Dev.noteCell
  repeat' first
    | (with_reducible assumption)
    | (with_reducible exact Frame.refl)
    | (extract_lets +onlyGivenNames x; clear_value x; revert x; intro _)
    | ((with_reducible refine Frame.foldl ?_ (fun _ _ _ => ?_)))
    | split
    | ((with_reducible refine Frame.grain_of ?hw ?_); case hw => rfl)

theorem Dev.cellError_frame (d : Dev) (k : Nat) :
    Frame 0x1024000000000000000000000000000000000000000000000000000000000000000000000000000000000000000020040000000 d (Dev.cellError d k) := by
  unfold Dev.cellError
  repeat' first
    | (with_reducible assumption)
    | (with_reducible exact Frame.refl)
    | ((with_reducible refine Frame.foldl ?_ (fun _ _ _ => ?_)))
    | ((with_reducible apply Frame.step (Dev.noteCell_frame ..)); case hw => decide +kernel)
    | ((with_reducible apply Frame.step (Dev.setCell_frame ..)); case hw => decide +kernel)
    | ((with_reducible apply Frame.step (Dev.bump_frame ..)); case hw => decide +kernel)
    | ((with_reducible apply Frame.step (Dev.loseTile_frame ..)); case hw => decide +kernel)

theorem Dev.cellErrors_frame (d : Dev) (p : Nat → Bool) :
    Frame 0x1024000000000000000000000000000000000000000000000000000000000000000000000000000000000000000020040000000 d (Dev.cellErrors d p) := by
  unfold Dev.cellErrors
  repeat' first
    | (with_reducible assumption)
    | (with_reducible exact Frame.refl)
    | ((with_reducible refine Frame.foldl ?_ (fun _ _ _ => ?_)))
    | ((with_reducible apply Frame.step (Dev.cellError_frame ..)); case hw => rfl)

theorem Dev.depositCell_frame (d : Dev) (k : Nat) (inc : Nat) :
    Frame 0x1034000000000000000000000000000000000000000000000000000000000000000000000000000000000000000020040000000 d (Dev.depositCell d k inc) := by
  unfold Dev.depositCell
  repeat' first
    | (with_reducible assumption)
    | (with_reducible exact Frame.refl)
    | (extract_lets +onlyGivenNames x; first | (refine Frame.cut x ?_ (fun _ => ?_); rotate_left; clear_value x; revert x; intro _ _; rotate_left; subst x) | (clear_value x; revert x; intro _) | (subst x))
    | ((with_reducible refine Frame.foldl ?_ (fun _ _ _ => ?_)))
    | ((with_reducible apply Frame.step (Dev.cellErrors_frame ..)); case hw => decide +kernel)
    | ((with_reducible apply Frame.step (Dev.bump_frame ..)); case hw => decide +kernel)
    | ((with_reducible apply Frame.step (Dev.noteCell_frame ..)); case hw => decide +kernel)
    | ((with_reducible apply Frame.step (Dev.setCell_frame ..)); case hw => decide +kernel)
    | split

theorem Dev.depositAt_frame (d : Dev) (x : Int) (y : Int) (inc : Nat) :
    Frame 0x1035000000000000000000000000000000000000000000000000000000000000000000000000000000000000000020040000000 d (Dev.depositAt d x y inc) := by
  unfold Dev.depositAt
  repeat' first
    | (with_reducible assumption)
    | (with_reducible exact Frame.refl)
    | (extract_lets +onlyGivenNames x; first | (refine Frame.cut x ?_ (fun _ => ?_); rotate_left; clear_value x; revert x; intro _ _; rotate_left; subst x) | (clear_value x; revert x; intro _))
    | ((with_reducible refine Frame.foldl ?_ (fun _ _ _ => ?_)))
    | ((with_reducible apply Frame.step (Dev.raise_frame ..)); case hw => decide +kernel)
    | ((with_reducible apply Frame.step (Dev.depositCell_frame ..)); case hw => decide +kernel)
    | split
    | ((with_reducible refine Frame.grain_of ?hw ?_); case hw => rfl)

theorem Dev.readCell_frame (d : Dev) (x y : Int) (tick : Nat) : Frame 0x1024000000000000000000000000000000000000000000000000000000000000000000000000000000000000000020040000000 d (Dev.readCell d x y tick).2 := by
  unfold Dev.readCell
  split
  · exact Frame.refl
  · exact Dev.cellErrors_frame ..

theorem Dev.loseBox_frame (d : Dev) (b : Int × Int × Int × Int) :
    Frame 0x1004000000000000000000000000000000000000000000000000000000000000000000000000000000000000000000000000000 d (Dev.loseBox d b) := by
  unfold Dev.loseBox
  repeat' first
    | (with_reducible assumption)
    | (with_reducible exact Frame.refl)
    | (extract_lets +onlyGivenNames x; first | (clear_value x; revert x; intro _) | (subst x))
    | ((with_reducible refine Frame.foldl ?_ (fun _ _ _ => ?_)))
    | ((with_reducible apply Frame.step (Dev.raise_frame ..)); case hw => decide +kernel)
    | ((with_reducible apply Frame.step (Dev.put_frame ..)); case hw => decide +kernel)
    | split

theorem Dev.sweepCells_frame (d : Dev) (epoch : Nat) :
    Frame 0x40000000 d (Dev.sweepCells d epoch) := by
  unfold Dev.sweepCells
  repeat' first
    | (with_reducible assumption)
    | (with_reducible exact Frame.refl)
    | (extract_lets +onlyGivenNames x; clear_value x; revert x; intro _)
    | ((with_reducible refine Frame.foldl ?_ (fun _ _ _ => ?_)))
    | split
    | ((with_reducible refine Frame.grain_of ?hw ?_); case hw => rfl)

theorem Dev.checkTable_frame (d : Dev) :
    Frame 0x608000000000000000000000000000000000000000000000000000000000000000000000000000000000000e00000000000000000000000000000000000000000000030c20140000000000020000000000000000000000000046009000 d (Dev.checkTable d) := by
  unfold Dev.checkTable
  repeat' first
    | (with_reducible assumption)
    | (with_reducible exact Frame.refl)
    | (extract_lets +onlyGivenNames x; first | (refine Frame.cut x ?_ (fun _ => ?_); rotate_left; clear_value x; revert x; intro _ _; rotate_left; subst x) | (clear_value x; revert x; intro _) | (subst x))
    | ((with_reducible refine Frame.foldl ?_ (fun _ _ _ => ?_)))
    | ((with_reducible apply Frame.step (Dev.put_frame ..)); case hw => decide +kernel)
    | ((with_reducible apply Frame.step (Dev.record_frame ..)); case hw => decide +kernel)
    | ((with_reducible apply Frame.step (Dev.raise_frame ..)); case hw => decide +kernel)
    | split
    | ((with_reducible refine Frame.grain_of ?hw ?_); case hw => rfl)

/-! ### MeltPool.lean -/

theorem Dev.readAhead_frame (d : Dev) (n : Nat) (ps : List Piece) (t : Nat) : Frame 0x1024000000000000000000000000000000000000000000000000000000000000000000000000000000000000000020040000000 d (Dev.readAhead d n ps t).2 := by
  unfold Dev.readAhead
  dsimp only
  exact Frame.foldlPair (fun a _ h => h.trans (Dev.readCell_frame ..)) Frame.refl

theorem Dev.tickFf_frame (d : Dev) (n : Nat) : Frame 0x1024000000000000000000000000000000000000000000000000000000000000000000000000000000000000000020040000008 d (Dev.tickFf d n).2 := by
  unfold Dev.tickFf
  extract_lets tx all ps used
  clear_value used
  split
  · exact Frame.refl
  · rename_i r h d1 hne
    have hr : Frame 0x1024000000000000000000000000000000000000000000000000000000000000000000000000000000000000000020040000008 d r.2 := by
      change Frame _ d (if d.inService 38 = true then d.readAhead n ps tx else (⟨none, true⟩, d)).2
      split
      · exact (Dev.readAhead_frame ..).mono (by decide +kernel)
      · exact Frame.refl
    change Frame _ d (if r.1.heat.isSome = true then r.2 else r.2.freeNext)
    clear_value d1 h r
    split
    · exact hr
    · exact hr.step' (Dev.freeNext_frame ..) (by decide +kernel)

theorem Dev.noteFf_frame (d : Dev) (n : Nat) (missing : Bool) :
    Frame 0x608000000000000000000000000000000000000000000000000000000000000000000000000000000000000000000001008000000000000000000000000000000000030c2014000000000002000000000000000000000000000e009000 d (Dev.noteFf d n missing) := by
  unfold Dev.noteFf
  repeat' first
    | (with_reducible assumption)
    | (with_reducible exact Frame.refl)
    | (extract_lets +onlyGivenNames x; first | (refine Frame.cut x ?_ (fun _ => ?_); rotate_left; clear_value x; revert x; intro _ _; rotate_left; subst x) | (subst x))
    | ((with_reducible refine Frame.foldl ?_ (fun _ _ _ => ?_)))
    | ((with_reducible apply Frame.step (Dev.occur_frame ..)); case hw => decide +kernel)
    | ((with_reducible apply Frame.step (Dev.bump_frame ..)); case hw => decide +kernel)
    | ((with_reducible apply Frame.step (Dev.raise_frame ..)); case hw => decide +kernel)
    | ((with_reducible apply Frame.step (Dev.modEng_frame ..)); case hw => decide +kernel)
    | ((with_reducible apply Frame.step (Dev.record_frame ..)); case hw => decide +kernel)
    | ((with_reducible apply Frame.step (Dev.lower_frame ..)); case hw => decide +kernel)
    | split

theorem Dev.tickDeposit_frame (d : Dev) (n : Nat) :
    Frame 0x1035000000000000000000000000000000000000000000000000000000000000000000000000000000000000000020048000000 d (Dev.tickDeposit d n) := by
  unfold Dev.tickDeposit
  repeat' first
    | (with_reducible assumption)
    | (with_reducible exact Frame.refl)
    | (extract_lets +onlyGivenNames x; first | (refine Frame.cut x ?_ (fun _ => ?_); rotate_left; clear_value x; revert x; intro _ _; rotate_left; subst x) | (clear_value x; revert x; intro _))
    | ((with_reducible refine Frame.foldl ?_ (fun _ _ _ => ?_)))
    | ((with_reducible apply Frame.step (Dev.modEng_frame ..)); case hw => rfl)
    | ((with_reducible apply Frame.step (Dev.depositAt_frame ..)); case hw => rfl)
    | split

theorem Dev.depositAll_frame (d : Dev) :
    Frame 0x1035000000000000000000000000000000000000000000000000000000000000000000000000000000000000000020048000000 d (Dev.depositAll d) := by
  unfold Dev.depositAll
  repeat' first
    | (with_reducible assumption)
    | (with_reducible exact Frame.refl)
    | ((with_reducible refine Frame.forAll (fun _ _ _ => ?_) ?_))
    | ((with_reducible refine Frame.foldl ?_ (fun _ _ _ => ?_)))
    | ((with_reducible apply Frame.step (Dev.modEng_frame ..)); case hw => rfl)
    | ((with_reducible apply Frame.step (Dev.tickDeposit_frame ..)); case hw => rfl)
    | split

theorem Dev.tickRuns_frame (d : Dev) (n : Nat) (k : TickClass) :
    Frame 0x8000000 d (Dev.tickRuns d n k) := by
  unfold Dev.tickRuns
  repeat' first
    | (with_reducible assumption)
    | (with_reducible exact Frame.refl)
    | (extract_lets +onlyGivenNames x; clear_value x; revert x; intro _)
    | ((with_reducible refine Frame.foldl ?_ (fun _ _ _ => ?_)))
    | ((with_reducible apply Frame.step (Dev.modEng_frame ..)); case hw => rfl)

theorem Dev.tickFeedback_frame (d : Dev) (n : Nat) (k : TickClass) : Frame 0x802300000000000000000000000000000000000000000000000000000000000000000000000000000000000000000 d (Dev.tickFeedback d n k).2.2 := by
  unfold Dev.tickFeedback
  split
  · exact Frame.refl
  · extract_lets r kept lit d1 d2 d3 d4
    have h1 : Frame 0x802300000000000000000000000000000000000000000000000000000000000000000000000000000000000000000 d d1 := (Dev.puts_frame ..).mono (by decide +kernel)
    have h2 : Frame 0x802300000000000000000000000000000000000000000000000000000000000000000000000000000000000000000 d d2 := by
      change Frame _ d (if _ then _ else _)
      split
      · exact h1.step' (Dev.puts_frame ..) (by decide +kernel)
      · exact h1
    have h3 : Frame 0x802300000000000000000000000000000000000000000000000000000000000000000000000000000000000000000 d d3 := h2.step' (Dev.put_frame ..) (by decide +kernel)
    change Frame _ d (if _ then _ else _)
    split
    · exact h3.step' (Dev.bump_frame ..) (by decide +kernel)
    · exact h3

theorem Dev.meltTick_frame (d : Dev) (n : Nat) (samples : List (BitVec 16)) :
    Frame 0x608000000000000000000000000000000000000000000000000000000000000000000000000000000001035000000803f08000000000000000000000140840010000030c2014000000000002000000000000000000000002004e00900c d (Dev.meltTick d n samples) := by
  unfold Dev.meltTick
  repeat' first
    | (with_reducible assumption)
    | (with_reducible exact Frame.refl)
    | (extract_lets +onlyGivenNames x; first | (refine Frame.cut x ?_ (fun _ => ?_); rotate_left; clear_value x; revert x; intro _ _; rotate_left; subst x) | (refine Frame.cut x.2 ?_ (fun _ => ?_); rotate_left; clear_value x; revert x; intro _ _; rotate_left; subst x) | (refine Frame.cut x.2.2 ?_ (fun _ => ?_); rotate_left; clear_value x; revert x; intro _ _; rotate_left; subst x) | (clear_value x; revert x; intro _) | (subst x))
    | ((with_reducible refine Frame.foldl ?_ (fun _ _ _ => ?_)))
    | ((with_reducible apply Frame.step (Dev.flushGate_frame ..)); case hw => decide +kernel)
    | ((with_reducible apply Frame.step (Dev.extendTo_frame ..)); case hw => decide +kernel)
    | ((with_reducible apply Frame.step (Dev.tickRuns_frame ..)); case hw => decide +kernel)
    | ((with_reducible apply Frame.step (Dev.tickFeedback_frame ..)); case hw => decide +kernel)
    | ((with_reducible apply Frame.step (Dev.depositAll_frame ..)); case hw => decide +kernel)
    | ((with_reducible apply Frame.step (Dev.tickFf_frame ..)); case hw => decide +kernel)
    | ((with_reducible apply Frame.step (Dev.noteFf_frame ..)); case hw => decide +kernel)
    | ((with_reducible apply Frame.step (Dev.put_frame ..)); case hw => decide +kernel)
    | ((with_reducible apply Frame.step (Dev.modEng_frame ..)); case hw => decide +kernel)

theorem Dev.loseFeedback_frame (d : Dev) (n : Nat) (cause : Nat) :
    Frame 0x608000000000000000000000000000000000000000000000000000000000000000000000000000000000000000000000034000000000000000000000000000000000030c2014000000000002000000000000000000000000000e009000 d (Dev.loseFeedback d n cause) := by
  unfold Dev.loseFeedback
  repeat' first
    | (with_reducible assumption)
    | (with_reducible exact Frame.refl)
    | (extract_lets +onlyGivenNames x; first | (refine Frame.cut x ?_ (fun _ => ?_); rotate_left; clear_value x; revert x; intro _ _; rotate_left; subst x) | (subst x))
    | ((with_reducible refine Frame.foldl ?_ (fun _ _ _ => ?_)))
    | ((with_reducible apply Frame.step (Dev.raise_frame ..)); case hw => decide +kernel)
    | ((with_reducible apply Frame.step (Dev.occur_frame ..)); case hw => decide +kernel)
    | ((with_reducible apply Frame.step (Dev.record_frame ..)); case hw => decide +kernel)
    | ((with_reducible apply Frame.step (Dev.modEng_frame ..)); case hw => decide +kernel)
    | split

theorem Dev.clearIntegrators_frame (d : Dev) (n : Nat) :
    Frame 0x800000000000000000000000000000000000000000000000000000000000000000000000000000000000000000000 d (Dev.clearIntegrators d n) := by
  unfold Dev.clearIntegrators
  repeat' first
    | (with_reducible assumption)
    | (with_reducible exact Frame.refl)
    | ((with_reducible refine Frame.foldl ?_ (fun _ _ _ => ?_)))
    | ((with_reducible apply Frame.step (Dev.put_frame ..)); case hw => decide +kernel)

/-! ### Scan.lean -/

theorem Dev.refillStep_frame (d : Dev) (n room : Nat) : Frame 0x8000100 d (Dev.refillStep d n room).2 := by
  unfold Dev.refillStep
  split
  · exact Frame.refl
  · split
    · dsimp only
      exact Frame.mono (v := 0x8000000) (Dev.modEng_frame ..) (by decide +kernel)
    · dsimp only
      split
      · split
        · exact Frame.step (Dev.modJob_frame ..) (by decide +kernel) (Frame.step (Dev.modEng_frame ..) (by decide +kernel) (Frame.step (Dev.modEng_frame ..) (by decide +kernel) Frame.refl))
        · exact Frame.step (Dev.modJob_frame ..) (by decide +kernel) (Frame.step (Dev.modEng_frame ..) (by decide +kernel) Frame.refl)
      · dsimp only
        exact Frame.mono (v := 0x8000000) (Dev.modEng_frame ..) (by decide +kernel)

theorem Dev.refill_frame (d : Dev) (n : Nat) : Frame 0x80000000000000000000000000000000000000000000000000008000100 d (Dev.refill d n) := by
  unfold Dev.refill
  refine Frame.step (Dev.modEng_frame ..) (by decide +kernel) (Frame.step (Dev.put_frame ..) (by decide +kernel) ?_)
  refine Frame.foldlPair (fun a _ h => ?_) Frame.refl
  split
  · exact h
  · exact h.step' (Dev.refillStep_frame ..) (by decide +kernel)

theorem Frame.engJob {w : Nat} {dev0 : Dev} {d : Dev} {j : Job} {f : Dev → Dev} (hw : Within 0x20000000000000000000000000000000000000000000000000000000000000000000000000000000000000000000000000000000000000000000000000000000000000000000000000000000000000000000000008a0000000000000000000000000000020500 w)
    (f_h : ∀ x , Frame w dev0 x → Frame w dev0 (f x )) (h : Frame w dev0 d) :
    Frame w dev0 (Dev.engJob d j f) := by
  unfold Dev.engJob
  repeat' first
    | (with_reducible assumption)
    | (with_reducible exact Frame.refl)
    | (with_reducible refine f_h _ ?_)
    | ((with_reducible refine Frame.foldl ?_ (fun _ _ _ => ?_)))
    | ((with_reducible apply Frame.step (Dev.complete_frame ..)); case hw => exact Within.trans (b := 0x20000000000000000000000000000000000000000000000000000000000000000000000000000000000000000000000000000000000000000000000000000000000000000000000000000000000000000000000008a0000000000000000000000000000020500) rfl hw)
    | (with_reducible apply_assumption -exfalso -symm)
    | split

theorem Dev.joinStream_frame (d : Dev) (j : Job) :
    Frame 0x8000100 d (Dev.joinStream d j) := by
  unfold Dev.joinStream
  repeat' first
    | (with_reducible assumption)
    | (with_reducible exact Frame.refl)
    | ((with_reducible refine Frame.foldl ?_ (fun _ _ _ => ?_)))
    | ((with_reducible apply Frame.step (Dev.modEng_frame ..)); case hw => rfl)
    | ((with_reducible apply Frame.step (Dev.begin'_frame ..)); case hw => rfl)

theorem Dev.writeLims_frame (d : Dev) (n : Nat) (l : Lims) : Frame 0x1fc0000000000000000000000000000000000000000000000000004 d (Dev.writeLims d n l) := by
  unfold Dev.writeLims
  refine Frame.foldl ?_ (fun _ _ h => h.step' (Dev.latch_frame ..) (by decide +kernel))
  refine Frame.step (Dev.putB_frame ..) (by decide +kernel) ?_
  iterate 6 (refine Frame.step (Dev.put_frame ..) (by decide +kernel) ?_)
  exact Frame.refl

theorem Dev.applyLims_frame (d : Dev) (n : Nat) (id : Nat) :
    Frame 0x2000000000000000000000000000000000000000000000000000000000000000000000000000000000000000000000000000000000000000000000000000000000000000000000000000001fc00000000000000008a0000000000000000000000000008020504 d (Dev.applyLims d n id) := by
  unfold Dev.applyLims
  repeat' first
    | (with_reducible assumption)
    | (with_reducible exact Frame.refl)
    | (extract_lets +onlyGivenNames x; first | (refine Frame.cut x ?_ (fun _ => ?_); rotate_left; clear_value x; revert x; intro _ _; rotate_left; subst x) | (clear_value x; revert x; intro _) | (subst x))
    | ((with_reducible refine Frame.foldl ?_ (fun _ _ _ => ?_)))
    | ((with_reducible apply Frame.step (Dev.modEng_frame ..)); case hw => rfl)
    | ((with_reducible apply Frame.step (Dev.complete_frame ..)); case hw => rfl)
    | ((with_reducible apply Frame.step (Dev.writeLims_frame ..)); case hw => rfl)

theorem Dev.endCut_frame (d : Dev) (n : Nat) (t : Nat) :
    Frame 0x20000000000000000000000000000000000000000000000000000000000000000000000000000000000000000000000000000000000000000000000000000000000000000000000000000000000000000000000008a0000000000000000000000000008020500 d (Dev.endCut d n t) := by
  unfold Dev.endCut
  repeat' first
    | (with_reducible assumption)
    | (with_reducible exact Frame.refl)
    | (extract_lets +onlyGivenNames x; first | (refine Frame.cut x ?_ (fun _ => ?_); rotate_left; clear_value x; revert x; intro _ _; rotate_left; subst x) | (clear_value x; revert x; intro _) | (subst x))
    | ((with_reducible refine Frame.foldl ?_ (fun _ _ _ => ?_)))
    | ((with_reducible apply Frame.step (Dev.modEng_frame ..)); case hw => rfl)
    | ((with_reducible apply Frame.step (Dev.completeAt_frame ..)); case hw => rfl)
    | split

theorem Dev.restActs_frame (d : Dev) (n : Nat) :
    Frame 0x2000ffe000000000000000000000000000000000000000000000000000000000000000000000000000000000000000000000000000000000000004000000000000000000000200000000001fc00000000000000008a0000000000000000000000000008220504 d (Dev.restActs d n) := by
  unfold Dev.restActs
  repeat' first
    | (with_reducible assumption)
    | (with_reducible exact Frame.refl)
    | (extract_lets +onlyGivenNames x; refine Frame.cut x ?_ (fun _ => ?_); rotate_left; clear_value x; revert x; intro _ _; rotate_left; subst x)
    | ((with_reducible refine Frame.foldl ?_ (fun _ _ _ => ?_)))
    | ((with_reducible apply Frame.step (Dev.restLatch_frame ..)); case hw => rfl)
    | ((with_reducible apply Frame.step (Dev.endCut_frame ..)); case hw => rfl)
    | ((with_reducible apply Frame.step (Dev.applyLims_frame ..)); case hw => rfl)
    | split

theorem Dev.showState_frame (d : Dev) (n : Nat) :
    Frame 0x100000000000000000000000000000000000000000000000000000000 d (Dev.showState d n) := by
  unfold Dev.showState
  repeat' first
    | (with_reducible assumption)
    | (with_reducible exact Frame.refl)
    | (extract_lets +onlyGivenNames x; clear_value x; revert x; intro _)
    | ((with_reducible refine Frame.foldl ?_ (fun _ _ _ => ?_)))
    | ((with_reducible apply Frame.step (Dev.put_frame ..)); case hw => decide +kernel)
    | split

theorem Dev.scarfRec_frame (d : Dev) (n : Nat) (z : Nat) (r : LRec) :
    Frame 0x13000000000000000000000000000000000000000000000000000000000000000000008000100 d (Dev.scarfRec d n z r).2 := by
  unfold Dev.scarfRec
  repeat' first
    | (with_reducible assumption)
    | (with_reducible exact Frame.refl)
    | (extract_lets +onlyGivenNames x; first | (refine Frame.cut x ?_ (fun _ => ?_); rotate_left; clear_value x; revert x; intro _ _; rotate_left; subst x) | (clear_value x; revert x; intro _) | (subst x))
    | ((with_reducible refine Frame.foldl ?_ (fun _ _ _ => ?_)))
    | ((with_reducible apply Frame.step (Dev.modEng_frame ..)); case hw => decide +kernel)
    | ((with_reducible apply Frame.step (Dev.bump_frame ..)); case hw => decide +kernel)
    | ((with_reducible apply Frame.step (Dev.modJob_frame ..)); case hw => decide +kernel)
    | ((with_reducible apply Frame.step (Dev.raise_frame ..)); case hw => decide +kernel)
    | split

theorem Dev.discardRest_frame (d : Dev) (n : Nat) (job : Nat) :
    Frame 0x80000000000000000000000000000000000000000000000000008000000 d (Dev.discardRest d n job) := by
  unfold Dev.discardRest
  repeat' first
    | (with_reducible assumption)
    | (with_reducible exact Frame.refl)
    | (extract_lets +onlyGivenNames x; first | (refine Frame.cut x ?_ (fun _ => ?_); rotate_left; clear_value x; revert x; intro _ _; rotate_left; subst x) | (subst x))
    | ((with_reducible refine Frame.foldl ?_ (fun _ _ _ => ?_)))
    | ((with_reducible apply Frame.step (Dev.modEng_frame ..)); case hw => decide +kernel)
    | ((with_reducible apply Frame.step (Dev.discardRecs_frame ..)); case hw => decide +kernel)
    | ((with_reducible apply Frame.step (Dev.put_frame ..)); case hw => decide +kernel)

theorem Dev.outOfField_frame (d : Dev) (n : Nat) (r : LRec) (p : Pt) :
    Frame 0x2000ffe000000000000608000000000000000000000000000000000000000000000000000000000000000000000000000000000000000000000004000000000000000000080200000080001ff0c201400000000008a000000000000000000000000000e229504 d (Dev.outOfField d n r p) := by
  unfold Dev.outOfField
  repeat' first
    | (with_reducible assumption)
    | (with_reducible exact Frame.refl)
    | (extract_lets +onlyGivenNames x; first | (refine Frame.cut x ?_ (fun _ => ?_); rotate_left; clear_value x; revert x; intro _ _; rotate_left; subst x) | (subst x))
    | ((with_reducible refine Frame.foldl ?_ (fun _ _ _ => ?_)))
    | ((with_reducible apply Frame.step (Dev.record_frame ..)); case hw => decide +kernel)
    | ((with_reducible apply Frame.step (Dev.raise_frame ..)); case hw => decide +kernel)
    | ((with_reducible apply Frame.step (Dev.modEng_frame ..)); case hw => decide +kernel)
    | ((with_reducible apply Frame.step (Dev.discardRest_frame ..)); case hw => decide +kernel)
    | ((with_reducible apply Frame.step (Dev.restActs_frame ..)); case hw => decide +kernel)
    | ((with_reducible apply Frame.step (Dev.endCut_frame ..)); case hw => decide +kernel)
    | split

theorem Dev.enterRecord_frame (d : Dev) (n : Nat) (job : Nat) (g : Gran) :
    Frame 0x2000ffe000000000000608000000000000000000000000000000000000000000000000000000000000000000000000000000000000000000000004000000000013000000080240000080001ff0c201400000000008a000000000000000000000000000e229504 d (Dev.enterRecord d n job g) := by
  unfold Dev.enterRecord
  repeat' first
    | (with_reducible assumption)
    | (with_reducible exact Frame.refl)
    | (extract_lets +onlyGivenNames x; first | (refine Frame.cut x ?_ (fun _ => ?_); rotate_left; clear_value x; revert x; intro _ _; rotate_left; subst x) | (refine Frame.cut x.2 ?_ (fun _ => ?_); rotate_left; clear_value x; revert x; intro _ _; rotate_left; subst x) | (clear_value x; revert x; intro _))
    | ((with_reducible refine Frame.foldl ?_ (fun _ _ _ => ?_)))
    | ((with_reducible apply Frame.step (Dev.scarfRec_frame ..)); case hw => rfl)
    | ((with_reducible apply Frame.step (Dev.countScarf_frame ..)); case hw => rfl)
    | ((with_reducible apply Frame.step (Dev.outOfField_frame ..)); case hw => rfl)
    | ((with_reducible apply Frame.step (Dev.modEng_frame ..)); case hw => rfl)
    | ((with_reducible apply Frame.step (Dev.replan_frame ..)); case hw => rfl)
    | split

theorem Dev.enterNext_frame (d : Dev) (n : Nat) :
    Frame 0x2000ffe000000000000608000000000000000000000000000000000000000000000000000000000000000000000000000000000000000000000004000000000013000000080240000080001ff0c201400000000008a000000000000000000000000000e229504 d (Dev.enterNext d n) := by
  unfold Dev.enterNext
  repeat' first
    | (with_reducible assumption)
    | (with_reducible exact Frame.refl)
    | (extract_lets +onlyGivenNames x; refine Frame.cut x ?_ (fun _ => ?_); rotate_left; clear_value x; revert x; intro _ _; rotate_left; subst x)
    | ((with_reducible refine Frame.foldl ?_ (fun _ _ _ => ?_)))
    | ((with_reducible apply Frame.step (Dev.modEng_frame ..)); case hw => decide +kernel)
    | ((with_reducible apply Frame.step (Dev.put_frame ..)); case hw => decide +kernel)
    | ((with_reducible apply Frame.step (Dev.enterRecord_frame ..)); case hw => decide +kernel)
    | split

theorem Dev.makeRequest_frame (d : Dev) (n : Nat) (r : LRec) :
    Frame 0x6080000000000000000000000000000000000000000000000000000000000000000000000000000000000000000000000000023c4000000400000000010000000100030c2014000000000002000000000000000000000000002e009000 d (Dev.makeRequest d n r) := by
  unfold Dev.makeRequest
  repeat' first
    | (with_reducible assumption)
    | (with_reducible exact Frame.refl)
    | (extract_lets +onlyGivenNames x; first | (refine Frame.cut x ?_ (fun _ => ?_); rotate_left; clear_value x; revert x; intro _ _; rotate_left; subst x) | (clear_value x; revert x; intro _) | (subst x))
    | ((with_reducible refine Frame.foldl ?_ (fun _ _ _ => ?_)))
    | ((with_reducible apply Frame.step (Dev.modEng_frame ..)); case hw => decide +kernel)
    | ((with_reducible apply Frame.step (Dev.record_frame ..)); case hw => decide +kernel)
    | ((with_reducible apply Frame.step (Dev.bump_frame ..)); case hw => decide +kernel)
    | ((with_reducible apply Frame.step (Dev.showState_frame ..)); case hw => decide +kernel)
    | ((with_reducible apply Frame.step (Dev.showKerf_frame ..)); case hw => decide +kernel)
    | ((with_reducible apply Frame.step (Dev.setReqs_frame ..)); case hw => decide +kernel)
    | split

theorem Dev.passClear_frame (d : Dev) (n : Nat) (r : LRec) (t : Nat) :
    Frame 0x2000000000000000000000000000000000000000000000000000000000000000000000000000000000000000000000000000000000000000000000000000000000000000000000010100001ff0c001400000000008a000000000000000000000000000e021504 d (Dev.passClear d n r t) := by
  unfold Dev.passClear
  repeat' first
    | (with_reducible assumption)
    | (with_reducible exact Frame.refl)
    | (extract_lets +onlyGivenNames x; first | (refine Frame.cut x ?_ (fun _ => ?_); rotate_left; clear_value x; revert x; intro _ _; rotate_left; subst x) | (subst x))
    | ((with_reducible refine Frame.foldl ?_ (fun _ _ _ => ?_)))
    | ((with_reducible apply Frame.step (Dev.put_frame ..)); case hw => decide +kernel)
    | ((with_reducible apply Frame.step (Dev.occur_frame ..)); case hw => decide +kernel)
    | ((with_reducible apply Frame.step (Dev.applyLims_frame ..)); case hw => decide +kernel)
    | ((with_reducible apply Frame.step (Dev.completeAt_frame ..)); case hw => decide +kernel)
    | split

theorem Dev.countJunction_frame (d : Dev) (n : Nat) (p : Plan) :
    Frame 0x60000000000000000000000000000000000000000000000000000000000000 d (Dev.countJunction d n p) := by
  unfold Dev.countJunction
  repeat' first
    | (with_reducible assumption)
    | (with_reducible exact Frame.refl)
    | (extract_lets +onlyGivenNames x; clear_value x; revert x; intro _)
    | ((with_reducible refine Frame.foldl ?_ (fun _ _ _ => ?_)))
    | ((with_reducible apply Frame.step (Dev.bump_frame ..)); case hw => decide +kernel)
    | split

theorem Dev.markScarf_frame (d : Dev) (n : Nat) (r : LRec) :
    Frame 0x8000000 d (Dev.markScarf d n r) := by
  unfold Dev.markScarf
  repeat' first
    | (with_reducible assumption)
    | (with_reducible exact Frame.refl)
    | ((with_reducible refine Frame.foldl ?_ (fun _ _ _ => ?_)))
    | ((with_reducible apply Frame.step (Dev.modHist_frame ..)); case hw => rfl)
    | split

theorem Dev.passLead_frame (d : Dev) (n : Nat) (p : Plan) (t : Nat) :
    Frame 0x2000000000000000000000000000000000000000000000000000000000000000000000000000000000000000000000000000000000000000000000000000000000000000000000010100001ff0c001400000000008a000000000000000000000000000e021504 d (Dev.passLead d n p t) := by
  unfold Dev.passLead
  repeat' first
    | (with_reducible assumption)
    | (with_reducible exact Frame.refl)
    | (extract_lets +onlyGivenNames x; first | (refine Frame.cut x ?_ (fun _ => ?_); rotate_left; clear_value x; revert x; intro _ _; rotate_left; subst x) | (subst x))
    | ((with_reducible refine Frame.foldl ?_ (fun _ _ _ => ?_)))
    | ((with_reducible apply Frame.step (Dev.passClear_frame ..)); case hw => rfl)
    | ((with_reducible apply Frame.step (Dev.modEng_frame ..)); case hw => rfl)
    | split

theorem Dev.startPlan_frame (d : Dev) (n : Nat) (p : Plan) :
    Frame 0x2000000000000000000000000000000000000000000000000000000000000000000000000000000000000000000000000000000000000000000000000000000000000000000002070108101ff0c001400000000008a000000000000000000000000000e021504 d (Dev.startPlan d n p) := by
  unfold Dev.startPlan
  repeat' first
    | (with_reducible assumption)
    | (with_reducible exact Frame.refl)
    | (extract_lets +onlyGivenNames x; first | (refine Frame.cut x ?_ (fun _ => ?_); rotate_left; clear_value x; revert x; intro _ _; rotate_left; subst x) | (clear_value x; revert x; intro _) | (subst x))
    | ((with_reducible refine Frame.foldl ?_ (fun _ _ _ => ?_)))
    | ((with_reducible apply Frame.step (Dev.countJunction_frame ..)); case hw => decide +kernel)
    | ((with_reducible apply Frame.step (Dev.passLead_frame ..)); case hw => decide +kernel)
    | ((with_reducible apply Frame.step (Dev.put_frame ..)); case hw => decide +kernel)
    | ((with_reducible apply Frame.step (Dev.raise_frame ..)); case hw => decide +kernel)
    | ((with_reducible apply Frame.step (Dev.applyLims_frame ..)); case hw => decide +kernel)
    | ((with_reducible apply Frame.step (Dev.modJob_frame ..)); case hw => decide +kernel)
    | ((with_reducible apply Frame.step (Dev.markScarf_frame ..)); case hw => decide +kernel)
    | ((with_reducible apply Frame.step (Dev.modEng_frame ..)); case hw => decide +kernel)
    | ((with_reducible apply Frame.step (Dev.lower_frame ..)); case hw => decide +kernel)
    | split

theorem Dev.passHead_frame (d : Dev) (n : Nat) (t : Nat) :
    Frame 0x2000000000000000000000000000000000000000000000000000000000000000000000000000000000000000000000000000000000000000000000000000000000000000000000010100001ff0c001400000000008a000000000000000000000000000e021504 d (Dev.passHead d n t) := by
  unfold Dev.passHead
  repeat' first
    | (with_reducible assumption)
    | (with_reducible exact Frame.refl)
    | (extract_lets +onlyGivenNames x; first | (clear_value x; revert x; intro _) | (subst x))
    | ((with_reducible refine Frame.foldl ?_ (fun _ _ _ => ?_)))
    | ((with_reducible apply Frame.step (Dev.passClear_frame ..)); case hw => rfl)
    | ((with_reducible apply Frame.step (Dev.modEng_frame ..)); case hw => rfl)
    | split

theorem Dev.startNext_frame (d : Dev) (n : Nat) :
    Frame 0x2000ffe000000000000000000000000000000000000000000000000000000000000000000000000000000000000000000000000000000000000004000000000000000000000242070118101ff0c001400000000008a000000000000000000000000000e221504 d (Dev.startNext d n) := by
  unfold Dev.startNext
  repeat' first
    | (with_reducible assumption)
    | (with_reducible exact Frame.refl)
    | (extract_lets +onlyGivenNames x; first | (refine Frame.cut x ?_ (fun _ => ?_); rotate_left; clear_value x; revert x; intro _ _; rotate_left; subst x) | (subst x))
    | ((with_reducible refine Frame.foldl ?_ (fun _ _ _ => ?_)))
    | ((with_reducible apply Frame.step (Dev.restActs_frame ..)); case hw => rfl)
    | ((with_reducible apply Frame.step (Dev.passHead_frame ..)); case hw => rfl)
    | ((with_reducible apply Frame.step (Dev.extendTo_frame ..)); case hw => rfl)
    | ((with_reducible apply Frame.step (Dev.startPlan_frame ..)); case hw => rfl)
    | split

theorem Dev.underrun_frame (d : Dev) (n : Nat) :
    Frame 0x608000000000000000000000000000000000000000000000000000000000000000000000000000000000000000000000000000000000000000000000000000000000030c2014200000000002000000000000000000000000000e009000 d (Dev.underrun d n) := by
  unfold Dev.underrun
  repeat' first
    | (with_reducible assumption)
    | (with_reducible exact Frame.refl)
    | (extract_lets +onlyGivenNames x; first | (clear_value x; revert x; intro _) | (subst x))
    | ((with_reducible refine Frame.foldl ?_ (fun _ _ _ => ?_)))
    | ((with_reducible apply Frame.step (Dev.modEng_frame ..)); case hw => decide +kernel)
    | ((with_reducible apply Frame.step (Dev.record_frame ..)); case hw => decide +kernel)
    | ((with_reducible apply Frame.step (Dev.bump_frame ..)); case hw => decide +kernel)
    | split

theorem Dev.endUnit_frame (d : Dev) (n : Nat) (ser : Nat) :
    Frame 0x28000000 d (Dev.endUnit d n ser) := by
  unfold Dev.endUnit
  repeat' first
    | (with_reducible assumption)
    | (with_reducible exact Frame.refl)
    | ((with_reducible refine Frame.foldl ?_ (fun _ _ _ => ?_)))
    | ((with_reducible apply Frame.step (Dev.setReqs_frame ..)); case hw => rfl)
    | ((with_reducible apply Frame.step (Dev.modEng_frame ..)); case hw => rfl)
    | split

theorem Dev.endPlan_frame (d : Dev) (n : Nat) (p : Plan) :
    Frame 0x20000000000000000006080000000004000000000000000000000000000000000000000000000000000000000000000000000000000000000000000023c400000c4000000001308101a3f01ff0c201420000000008a000000000000000000000000003e029504 d (Dev.endPlan d n p) := by
  unfold Dev.endPlan
  repeat' first
    | (with_reducible assumption)
    | (with_reducible exact Frame.refl)
    | (extract_lets +onlyGivenNames x; first | (refine Frame.cut x ?_ (fun _ => ?_); rotate_left; clear_value x; revert x; intro _ _; rotate_left; subst x) | (clear_value x; revert x; intro _) | (subst x))
    | ((with_reducible refine Frame.foldl ?_ (fun _ _ _ => ?_)))
    | ((with_reducible apply Frame.step (Dev.modEng_frame ..)); case hw => rfl)
    | ((with_reducible apply Frame.step (Dev.endUnit_frame ..)); case hw => rfl)
    | ((with_reducible apply Frame.step (Dev.endClaim_frame ..)); case hw => rfl)
    | ((with_reducible apply Frame.step (Dev.underrun_frame ..)); case hw => rfl)
    | ((with_reducible apply Frame.step (Dev.completeAt_frame ..)); case hw => rfl)
    | ((with_reducible apply Frame.step (Dev.passLead_frame ..)); case hw => rfl)
    | ((with_reducible apply Frame.step (Dev.passHead_frame ..)); case hw => rfl)
    | ((with_reducible apply Frame.step (Dev.channelFault_frame ..)); case hw => rfl)
    | split

theorem Dev.beginPark_frame (d : Dev) (n : Nat) (job : Option Nat) :
    Frame 0x100000000000000000000000000000000000000000000000008000000 d (Dev.beginPark d n job) := by
  unfold Dev.beginPark
  repeat' first
    | (with_reducible assumption)
    | (with_reducible exact Frame.refl)
    | (extract_lets +onlyGivenNames x; first | (clear_value x; revert x; intro _) | (subst x))
    | ((with_reducible refine Frame.foldl ?_ (fun _ _ _ => ?_)))
    | ((with_reducible apply Frame.step (Dev.put_frame ..)); case hw => decide +kernel)
    | ((with_reducible apply Frame.step (Dev.modEng_frame ..)); case hw => decide +kernel)

theorem Dev.parked_frame (d : Dev) (n : Nat) (job : Option Nat) :
    Frame 0x2000ffe000000000000000000000000000000000000000000000000000000000000000000000000000000000000000000000000000000000000004000000000000000000000200000000101fc00000000000000008a0000000000000000000000000008220504 d (Dev.parked d n job) := by
  unfold Dev.parked
  repeat' first
    | (with_reducible assumption)
    | (with_reducible exact Frame.refl)
    | (extract_lets +onlyGivenNames x; first | (refine Frame.cut x ?_ (fun _ => ?_); rotate_left; clear_value x; revert x; intro _ _; rotate_left; subst x) | (clear_value x; revert x; intro _))
    | ((with_reducible refine Frame.foldl ?_ (fun _ _ _ => ?_)))
    | ((with_reducible apply Frame.step (Dev.modEng_frame ..)); case hw => decide +kernel)
    | ((with_reducible apply Frame.step (Dev.put_frame ..)); case hw => decide +kernel)
    | ((with_reducible apply Frame.step (Dev.completeAt_frame ..)); case hw => decide +kernel)
    | ((with_reducible apply Frame.step (Dev.restActs_frame ..)); case hw => decide +kernel)
    | split

/-! ### Links.lean -/

theorem Dev.closeSlot_frame (d : Dev) (ch : Nat) (n : Nat) :
    Frame 0x1000000000000000000000000000000000000000000000000000010000000 d (Dev.closeSlot d ch n) := by
  unfold Dev.closeSlot
  repeat' first
    | (with_reducible assumption)
    | (with_reducible exact Frame.refl)
    | (extract_lets +onlyGivenNames x; first | (clear_value x; revert x; intro _) | (subst x))
    | ((with_reducible refine Frame.foldl ?_ (fun _ _ _ => ?_)))
    | ((with_reducible apply Frame.step (Dev.setLink_frame ..)); case hw => decide +kernel)
    | ((with_reducible apply Frame.step (Dev.bump_frame ..)); case hw => decide +kernel)
    | split

theorem Dev.linkFrame_frame (d : Dev) (ch : Nat) (type : Nat) (power : Nat) (x : Int) (y : Int) (z : Int) (high : Bool) :
    Frame 0x10000000 d (Dev.linkFrame d ch type power x y z high) := by
  unfold Dev.linkFrame
  repeat' first
    | (with_reducible assumption)
    | (with_reducible exact Frame.refl)
    | (extract_lets +onlyGivenNames x; clear_value x; revert x; intro _)
    | ((with_reducible refine Frame.foldl ?_ (fun _ _ _ => ?_)))
    | ((with_reducible apply Frame.step (Dev.setLink_frame ..)); case hw => rfl)

theorem Dev.setpointFrame_frame (d : Dev) (ch : Nat) (n : Nat) :
    Frame 0xffe000000000000000000000000000000000000000000000000000000000000000000000000000000000000000000000000000000000000004000000000000000000100340840e10000000000000000000000000000000000000000000000000018200004 d (Dev.setpointFrame d ch n) := by
  unfold Dev.setpointFrame
  repeat' first
    | (with_reducible assumption)
    | (with_reducible exact Frame.refl)
    | (extract_lets +onlyGivenNames x; first | (refine Frame.cut x ?_ (fun _ => ?_); rotate_left; clear_value x; revert x; intro _ _; rotate_left; subst x) | (clear_value x; revert x; intro _) | (subst x))
    | ((with_reducible refine Frame.foldl ?_ (fun _ _ _ => ?_)))
    | ((with_reducible apply Frame.step (Dev.restLatch_frame ..)); case hw => decide +kernel)
    | ((with_reducible apply Frame.step (Dev.flushGate_frame ..)); case hw => decide +kernel)
    | ((with_reducible apply Frame.step (Dev.extendTo_frame ..)); case hw => decide +kernel)
    | ((with_reducible apply Frame.step (Dev.modEng_frame ..)); case hw => decide +kernel)
    | ((with_reducible apply Frame.step (Dev.raise_frame ..)); case hw => decide +kernel)
    | ((with_reducible apply Frame.step (Dev.linkFrame_frame ..)); case hw => decide +kernel)
    | ((with_reducible apply Frame.step (Dev.showPos_frame ..)); case hw => decide +kernel)
    | split

theorem Dev.holdFrame_frame (d : Dev) (ch : Nat) :
    Frame 0x10000000 d (Dev.holdFrame d ch) := by
  unfold Dev.holdFrame
  repeat' first
    | (with_reducible assumption)
    | (with_reducible exact Frame.refl)
    | (extract_lets +onlyGivenNames x; clear_value x; revert x; intro _)
    | ((with_reducible refine Frame.foldl ?_ (fun _ _ _ => ?_)))
    | ((with_reducible apply Frame.step (Dev.linkFrame_frame ..)); case hw => rfl)

theorem Dev.slotFrame_frame (d : Dev) (ch : Nat) :
    Frame 0xffe000000000000000000000000000000000000000000000000000000000000000000000000000000000000000000000000000000000000004000000000000000000100340841e10000000000000000000000000000000000000000000000000018200004 d (Dev.slotFrame d ch) := by
  unfold Dev.slotFrame
  repeat' first
    | (with_reducible assumption)
    | (with_reducible exact Frame.refl)
    | (extract_lets +onlyGivenNames x; refine Frame.cut x ?_ (fun _ => ?_); rotate_left; clear_value x; revert x; intro _ _; rotate_left; subst x)
    | ((with_reducible refine Frame.foldl ?_ (fun _ _ _ => ?_)))
    | ((with_reducible apply Frame.step (Dev.closeSlot_frame ..)); case hw => rfl)
    | ((with_reducible apply Frame.step (Dev.holdFrame_frame ..)); case hw => rfl)
    | ((with_reducible apply Frame.step (Dev.setpointFrame_frame ..)); case hw => rfl)
    | split

theorem Dev.silentSlot_frame (d : Dev) :
    Frame 0x10000000 d (Dev.silentSlot d) := by
  unfold Dev.silentSlot
  repeat' first
    | (with_reducible assumption)
    | (with_reducible exact Frame.refl)
    | (extract_lets +onlyGivenNames x; clear_value x; revert x; intro _)
    | ((with_reducible refine Frame.forAll (fun _ _ _ => ?_) ?_))
    | ((with_reducible refine Frame.foldl ?_ (fun _ _ _ => ?_)))
    | ((with_reducible apply Frame.step (Dev.setLink_frame ..)); case hw => rfl)

theorem Dev.goodFrame_frame (d : Dev) (ch : Nat) (n : Nat) (w : Nat) :
    Frame 0x20000000000000000006080000000004000000000000000000000000000000000000000000000000000000000000000000000000000000000000000023c400000c40000000013080c0a3f00030c201400000000008a000000000000000000000000003e029500 d (Dev.goodFrame d ch n w) := by
  unfold Dev.goodFrame
  repeat' first
    | (with_reducible assumption)
    | (with_reducible exact Frame.refl)
    | (extract_lets +onlyGivenNames x; first | (refine Frame.cut x ?_ (fun _ => ?_); rotate_left; clear_value x; revert x; intro _ _; rotate_left; subst x) | (clear_value x; revert x; intro _) | (subst x))
    | ((with_reducible refine Frame.foldl ?_ (fun _ _ _ => ?_)))
    | ((with_reducible apply Frame.step (Dev.put_frame ..)); case hw => decide +kernel)
    | ((with_reducible apply Frame.step (Dev.setLink_frame ..)); case hw => decide +kernel)
    | ((with_reducible apply Frame.step (Dev.channelFault_frame ..)); case hw => decide +kernel)
    | ((with_reducible apply Frame.step (Dev.raise_frame ..)); case hw => decide +kernel)
    | split

theorem Dev.takeReturn_frame (d : Dev) (ch : Nat) (n : Nat) (w : Nat) (crc : Nat) :
    Frame 0x20000000000000000006080000000004000000000000000000000000000000000000000000000000000000000000000000000000000000000000000023c400000c40000000013080e0a3f00030c201400000000008a000000000000000000000000003e029500 d (Dev.takeReturn d ch n w crc) := by
  unfold Dev.takeReturn
  repeat' first
    | (with_reducible assumption)
    | (with_reducible exact Frame.refl)
    | (extract_lets +onlyGivenNames x; first | (refine Frame.cut x ?_ (fun _ => ?_); rotate_left; clear_value x; revert x; intro _ _; rotate_left; subst x) | (clear_value x; revert x; intro _))
    | ((with_reducible refine Frame.foldl ?_ (fun _ _ _ => ?_)))
    | ((with_reducible apply Frame.step (Dev.bump_frame ..)); case hw => decide +kernel)
    | ((with_reducible apply Frame.step (Dev.channelFault_frame ..)); case hw => decide +kernel)
    | ((with_reducible apply Frame.step (Dev.raise_frame ..)); case hw => decide +kernel)
    | ((with_reducible apply Frame.step (Dev.goodFrame_frame ..)); case hw => decide +kernel)
    | split

end Sys2Proof.Machine
end

