-- ==== Sys2Proof/Laws/FramesFamilies.lean ====
section
/-! SUPPORT. Frames of the operations of the scan, scarf, kerf, grain, veneer, axis, encoder, time and camera families.
One lemma each; the mask of a frame names the parts and register fields that may change (Laws/Frame.lean). -/

namespace Sys2Proof.Machine

open Sys2Proof

set_option Elab.async false

/-! ### Layer.lean -/

theorem Dev.modLayer_frame (d : Dev) (g : Layer → Layer) :
    Frame 0x20000 d (Dev.modLayer d g) := by
  unfold Dev.modLayer
  repeat' first
    | (with_reducible assumption)
    | (with_reducible exact Frame.refl)
    | ((with_reducible refine Frame.foldl ?_ (fun _ _ _ => ?_)))
    | split
    | ((with_reducible refine Frame.layer_of ?hw ?_); case hw => rfl)

theorem Dev.enterState_frame (d : Dev) (st : Nat) :
    Frame 0x30c00140000000000020000001000000000000000000006001000 d (Dev.enterState d st) := by
  unfold Dev.enterState
  repeat' first
    | (with_reducible assumption)
    | (with_reducible exact Frame.refl)
    | ((with_reducible refine Frame.foldl ?_ (fun _ _ _ => ?_)))
    | ((with_reducible apply Frame.step (Dev.occur_frame ..)); case hw => decide +kernel)
    | ((with_reducible apply Frame.step (Dev.put_frame ..)); case hw => decide +kernel)

theorem Dev.failedChannel_frame (d : Dev) (c : Nat) :
    Frame 0x5000000000000000000800000000000000000000000000000000000000000000000000000000000000000000000000000000000000000000002000000000000000000000000000000000000100000000001000000000000000000106000000000000000000010c00 d (Dev.failedChannel d c) := by
  unfold Dev.failedChannel
  repeat' first
    | (with_reducible assumption)
    | (with_reducible exact Frame.refl)
    | ((with_reducible refine Frame.foldl ?_ (fun _ _ _ => ?_)))
    | ((with_reducible apply Frame.step (Dev.raise_frame ..)); case hw => decide +kernel)
    | ((with_reducible apply Frame.step (Dev.setService_frame ..)); case hw => decide +kernel)
    | split

theorem Dev.windowEnd_frame (d : Dev) :
    Frame 0x5002000000000000000800000000000000000000000000000000000000000000000000000000000000000000000000000000000000000000002000000000000000000000000000000000000100030c001410000000008a0000001106000000000000000006031d00 d (Dev.windowEnd d) := by
  unfold Dev.windowEnd
  repeat' first
    | (with_reducible assumption)
    | (with_reducible exact Frame.refl)
    | (extract_lets +onlyGivenNames x; first | (refine Frame.cut x ?_ (fun _ => ?_); rotate_left; clear_value x; revert x; intro _ _; rotate_left; subst x) | (subst x))
    | ((with_reducible refine Frame.foldl ?_ (fun _ _ _ => ?_)))
    | ((with_reducible apply Frame.step (Dev.complete_frame ..)); case hw => rfl)
    | ((with_reducible apply Frame.step (Dev.modLayer_frame ..)); case hw => rfl)
    | ((with_reducible apply Frame.step (Dev.enterState_frame ..)); case hw => rfl)
    | ((with_reducible apply Frame.step (Dev.failedChannel_frame ..)); case hw => rfl)
    | split

theorem Dev.showReady_frame (d : Dev) :
    Frame 0x1000000000000000000000000000000 d (Dev.showReady d) := by
  unfold Dev.showReady
  repeat' first
    | (with_reducible assumption)
    | (with_reducible exact Frame.refl)
    | ((with_reducible refine Frame.foldl ?_ (fun _ _ _ => ?_)))
    | ((with_reducible apply Frame.step (Dev.put_frame ..)); case hw => decide +kernel)

theorem Dev.holdReady_frame (d : Dev) (dev : Nat) (num : Nat) (inst : Nat) :
    Frame 0x20000 d (Dev.holdReady d dev num inst) := by
  unfold Dev.holdReady
  repeat' first
    | (with_reducible assumption)
    | (with_reducible exact Frame.refl)
    | ((with_reducible refine Frame.foldl ?_ (fun _ _ _ => ?_)))
    | ((with_reducible apply Frame.step (Dev.modLayer_frame ..)); case hw => rfl)

theorem Dev.setMember_frame (d : Dev) (dev : Nat) (member : Bool) :
    Frame 0x20000 d (Dev.setMember d dev member) := by
  unfold Dev.setMember
  repeat' first
    | (with_reducible assumption)
    | (with_reducible exact Frame.refl)
    | (extract_lets +onlyGivenNames x; clear_value x; revert x; intro _)
    | ((with_reducible refine Frame.foldl ?_ (fun _ _ _ => ?_)))
    | ((with_reducible apply Frame.step (Dev.modLayer_frame ..)); case hw => rfl)

/-! ### Correction.lean -/

theorem Dev.modCorr_frame (d : Dev) (n : Nat) (g : Corr → Corr) :
    Frame 0x8000000 d (Dev.modCorr d n g) := by
  unfold Dev.modCorr
  repeat' first
    | (with_reducible assumption)
    | (with_reducible exact Frame.refl)
    | ((with_reducible refine Frame.foldl ?_ (fun _ _ _ => ?_)))
    | ((with_reducible apply Frame.step (Dev.modEng_frame ..)); case hw => rfl)

theorem Dev.showCorr_frame (d : Dev) (n : Nat) :
    Frame 0x3f860000000000000000000000000000000000000000000000000000000000000000000 d (Dev.showCorr d n) := by
  unfold Dev.showCorr
  repeat' first
    | (with_reducible assumption)
    | (with_reducible exact Frame.refl)
    | (extract_lets +onlyGivenNames x; first | (refine Frame.cut x ?_ (fun _ => ?_); rotate_left; clear_value x; revert x; intro _ _; rotate_left; subst x) | (clear_value x; revert x; intro _) | (subst x))
    | ((with_reducible refine Frame.foldl ?_ (fun _ _ _ => ?_)))
    | ((with_reducible apply Frame.step (Dev.putB_frame ..)); case hw => decide +kernel)
    | ((with_reducible apply Frame.step (Dev.put_frame ..)); case hw => decide +kernel)
    | ((with_reducible apply Frame.step (Dev.puts_frame ..)); case hw => decide +kernel)
    | split

theorem Dev.recheck1_frame (d : Dev) (n : Nat) (b : Bank) (which : LRec → Bool) :
    Frame 0x2000ffe0000000000006080000000000000000000000000000000000000000000000000000000000000000000000000000000000000000000000040023c4000000000000080210000080001ff0c201400000000008a000000000000000000000000002e229504 d (Dev.recheck1 d n b which) := by
  unfold Dev.recheck1
  repeat' first
    | (with_reducible assumption)
    | (with_reducible exact Frame.refl)
    | (extract_lets +onlyGivenNames x; first | (refine Frame.cut x ?_ (fun _ => ?_); rotate_left; clear_value x; revert x; intro _ _; rotate_left; subst x) | (clear_value x; revert x; intro _) | (subst x))
    | ((with_reducible refine Frame.foldl ?_ (fun _ _ _ => ?_)))
    | ((with_reducible apply Frame.step (Dev.endClaim_frame ..)); case hw => rfl)
    | ((with_reducible apply Frame.step (Dev.modEng_frame ..)); case hw => rfl)
    | ((with_reducible apply Frame.step (Dev.outOfField_frame ..)); case hw => rfl)
    | split

theorem Dev.recheck_frame (d : Dev) (n : Nat) (b : Bank) (which : LRec → Bool) :
    Frame 0x2000ffe0000000000006080000000000000000000000000000000000000000000000000000000000000000000000000000000000000000000000040023c4000000000000080210000080001ff0c201400000000008a000000000000000000000000002e229504 d (Dev.recheck d n b which) := by
  unfold Dev.recheck
  repeat' first
    | (with_reducible assumption)
    | (with_reducible exact Frame.refl)
    | (extract_lets +onlyGivenNames x; first | (refine Frame.cut x ?_ (fun _ => ?_); rotate_left; clear_value x; revert x; intro _ _; rotate_left; subst x) | (subst x))
    | ((with_reducible refine Frame.foldl ?_ (fun _ _ _ => ?_)))
    | ((with_reducible apply Frame.step (Dev.recheck1_frame ..)); case hw => rfl)
    | ((with_reducible apply Frame.step (Dev.modEng_frame ..)); case hw => rfl)

theorem Dev.checkWaiting_frame (d : Dev) (n : Nat) (b : Bank) :
    Frame 0x2000ffe0000000000006080000000000000000000000000000000000000000000000000000000000000000000000000000000000000000000000040023c4000000000000080210000080001ff0c201400000000008a000000000000000000000000002e229504 d (Dev.checkWaiting d n b) := by
  unfold Dev.checkWaiting
  repeat' first
    | (with_reducible assumption)
    | (with_reducible exact Frame.refl)
    | ((with_reducible refine Frame.foldl ?_ (fun _ _ _ => ?_)))
    | ((with_reducible apply Frame.step (Dev.recheck_frame ..)); case hw => rfl)

theorem Dev.loadDone_frame (d : Dev) (n : Nat) (id : Nat) :
    Frame 0x2000ffe0000000000006080000000000000000000000000000000000000000000000000000000000000000000000000000000000000000000000040023c400000000003fae0210000080001ff0c201400000000008a000000000000000000000000002e229504 d (Dev.loadDone d n id) := by
  unfold Dev.loadDone
  repeat' first
    | (with_reducible assumption)
    | (with_reducible exact Frame.refl)
    | (extract_lets +onlyGivenNames x; first | (refine Frame.cut x ?_ (fun _ => ?_); rotate_left; clear_value x; revert x; intro _ _; rotate_left; subst x) | (clear_value x; revert x; intro _) | (subst x))
    | ((with_reducible refine Frame.foldl ?_ (fun _ _ _ => ?_)))
    | ((with_reducible apply Frame.step (Dev.modCorr_frame ..)); case hw => decide +kernel)
    | ((with_reducible apply Frame.step (Dev.checkWaiting_frame ..)); case hw => decide +kernel)
    | ((with_reducible apply Frame.step (Dev.complete_frame ..)); case hw => decide +kernel)
    | ((with_reducible apply Frame.step (Dev.showCorr_frame ..)); case hw => decide +kernel)
    | ((with_reducible apply Frame.step (Dev.raise_frame ..)); case hw => decide +kernel)
    | split

theorem Dev.swapBanks_frame (d : Dev) (n : Nat) :
    Frame 0x2000ffe0000000000006080000000000000000000000000000000000000000000000000000000000000000000000000000000000000000000000040023c400000000003f8f0210000080001ff0c201400000000008a000000000000000000000000002e229504 d (Dev.swapBanks d n) := by
  unfold Dev.swapBanks
  repeat' first
    | (with_reducible assumption)
    | (with_reducible exact Frame.refl)
    | (extract_lets +onlyGivenNames x; first | (refine Frame.cut x ?_ (fun _ => ?_); rotate_left; clear_value x; revert x; intro _ _; rotate_left; subst x) | (clear_value x; revert x; intro _) | (subst x))
    | ((with_reducible refine Frame.foldl ?_ (fun _ _ _ => ?_)))
    | ((with_reducible apply Frame.step (Dev.modCorr_frame ..)); case hw => decide +kernel)
    | ((with_reducible apply Frame.step (Dev.showCorr_frame ..)); case hw => decide +kernel)
    | ((with_reducible apply Frame.step (Dev.put_frame ..)); case hw => decide +kernel)
    | ((with_reducible apply Frame.step (Dev.complete_frame ..)); case hw => decide +kernel)
    | ((with_reducible apply Frame.step (Dev.recheck_frame ..)); case hw => decide +kernel)
    | split

/-! ### ScarfCmds.lean -/

theorem Dev.yieldShare_frame (d : Dev) (n : Nat) (q : KReq) (r : LRec) (sh : Share) :
    Frame 0x6080000000004000000000000000000000000000000000000000000000000000000000000000000000000000000000000000023c400000cc00000000010000000100030c2014000000000002000000000000000000000000002e009000 d (Dev.yieldShare d n q r sh) := by
  unfold Dev.yieldShare
  repeat' first
    | (with_reducible assumption)
    | (with_reducible exact Frame.refl)
    | (extract_lets +onlyGivenNames x; first | (refine Frame.cut x ?_ (fun _ => ?_); rotate_left; clear_value x; revert x; intro _ _; rotate_left; subst x) | (subst x))
    | ((with_reducible refine Frame.foldl ?_ (fun _ _ _ => ?_)))
    | ((with_reducible apply Frame.step (Dev.endClaim_frame ..)); case hw => decide +kernel)
    | ((with_reducible apply Frame.step (Dev.modEng_frame ..)); case hw => decide +kernel)
    | ((with_reducible apply Frame.step (Dev.bump_frame ..)); case hw => decide +kernel)
    | ((with_reducible apply Frame.step (Dev.showState_frame ..)); case hw => decide +kernel)
    | ((with_reducible apply Frame.step (Dev.sendNotice_frame ..)); case hw => decide +kernel)

theorem Dev.startPass_frame (d : Dev) (n : Nat) (p : Pass) (h : ScarfRec) :
    Frame 0x400000000000000000000000000000000000000000000000000000000000000000008000000 d (Dev.startPass d n p h) := by
  unfold Dev.startPass
  repeat' first
    | (with_reducible assumption)
    | (with_reducible exact Frame.refl)
    | (extract_lets +onlyGivenNames x; first | (refine Frame.cut x ?_ (fun _ => ?_); rotate_left; clear_value x; revert x; intro _ _; rotate_left; subst x) | (clear_value x; revert x; intro _))
    | ((with_reducible refine Frame.foldl ?_ (fun _ _ _ => ?_)))
    | ((with_reducible apply Frame.step (Dev.modEng_frame ..)); case hw => decide +kernel)
    | ((with_reducible apply Frame.step (Dev.bump_frame ..)); case hw => decide +kernel)

theorem Dev.loseContact_frame (d : Dev) (n : Nat) (z : Nat) :
    Frame 0x608000000000000000000000000000000000000000000000000000000000000000000000000000000000000000000000000000000000024400000000000000000000030c2014000000000002000000000000000000000000002e009000 d (Dev.loseContact d n z) := by
  unfold Dev.loseContact
  repeat' first
    | (with_reducible assumption)
    | (with_reducible exact Frame.refl)
    | (extract_lets +onlyGivenNames x; first | (refine Frame.cut x ?_ (fun _ => ?_); rotate_left; clear_value x; revert x; intro _ _; rotate_left; subst x) | (clear_value x; revert x; intro _) | (subst x))
    | ((with_reducible refine Frame.foldl ?_ (fun _ _ _ => ?_)))
    | ((with_reducible apply Frame.step (Dev.record_frame ..)); case hw => decide +kernel)
    | ((with_reducible apply Frame.step (Dev.raise_frame ..)); case hw => decide +kernel)
    | ((with_reducible apply Frame.step (Dev.occur_frame ..)); case hw => decide +kernel)
    | ((with_reducible apply Frame.step (Dev.setAbsence_frame ..)); case hw => decide +kernel)
    | ((with_reducible apply Frame.step (Dev.partnerAbsent_frame ..)); case hw => decide +kernel)
    | ((with_reducible apply Frame.step (Dev.selfAbsent_frame ..)); case hw => decide +kernel)
    | split

/-! ### KerfCmds.lean -/

theorem Dev.grantReq_frame (d : Dev) (q : KReq) :
    Frame 0x27c4000000000000000010000000100000000000000000000000000000000000000000000000026000000 d (Dev.grantReq d q) := by
  unfold Dev.grantReq
  repeat' first
    | (with_reducible assumption)
    | (with_reducible exact Frame.refl)
    | (extract_lets +onlyGivenNames x; first | (refine Frame.cut x ?_ (fun _ => ?_); rotate_left; clear_value x; revert x; intro _ _; rotate_left; subst x) | (clear_value x; revert x; intro _) | (subst x))
    | ((with_reducible refine Frame.foldl ?_ (fun _ _ _ => ?_)))
    | ((with_reducible apply Frame.step (Dev.bump_frame ..)); case hw => decide +kernel)
    | ((with_reducible apply Frame.step (Dev.put_frame ..)); case hw => decide +kernel)
    | ((with_reducible apply Frame.step (Dev.modReq_frame ..)); case hw => decide +kernel)
    | ((with_reducible apply Frame.step (Dev.haloNow_frame ..)); case hw => decide +kernel)
    | ((with_reducible apply Frame.step (Dev.showState_frame ..)); case hw => decide +kernel)
    | ((with_reducible apply Frame.step (Dev.showKerf_frame ..)); case hw => decide +kernel)
    | ((with_reducible apply Frame.step (Dev.lower_frame ..)); case hw => decide +kernel)
    | split

theorem Dev.forceYield_frame (d : Dev) (n : Nat) (starver : Nat) (dev : Nat) :
    Frame 0x608000000000000000000000000000000000000000000000000000000000000000000000000000000000000000000000000002bc4000000000000000010000000000030c20140000000000020000000000000000000000000026009000 d (Dev.forceYield d n starver dev) := by
  unfold Dev.forceYield
  repeat' first
    | (with_reducible assumption)
    | (with_reducible exact Frame.refl)
    | (extract_lets +onlyGivenNames x; first | (refine Frame.cut x ?_ (fun _ => ?_); rotate_left; clear_value x; revert x; intro _ _; rotate_left; subst x) | (clear_value x; revert x; intro _) | (subst x))
    | ((with_reducible refine Frame.foldl ?_ (fun _ _ _ => ?_)))
    | ((with_reducible apply Frame.step (Dev.withdraw_frame ..)); case hw => decide +kernel)
    | ((with_reducible apply Frame.step (Dev.record_frame ..)); case hw => decide +kernel)
    | ((with_reducible apply Frame.step (Dev.bump_frame ..)); case hw => decide +kernel)

theorem Dev.runUnit_frame (d : Dev) (n : Nat) (held : KReq) (u : List LRec) (q : KReq) :
    Frame 0x37c400000000000000001000000010000000000000000000000000000000000000000000000002e000000 d (Dev.runUnit d n held u q) := by
  unfold Dev.runUnit
  repeat' first
    | (with_reducible assumption)
    | (with_reducible exact Frame.refl)
    | (extract_lets +onlyGivenNames x; first | (refine Frame.cut x ?_ (fun _ => ?_); rotate_left; clear_value x; revert x; intro _ _; rotate_left; subst x) | (clear_value x; revert x; intro _) | (subst x))
    | ((with_reducible refine Frame.foldl ?_ (fun _ _ _ => ?_)))
    | ((with_reducible apply Frame.step (Dev.modReq_frame ..)); case hw => decide +kernel)
    | ((with_reducible apply Frame.step (Dev.modEng_frame ..)); case hw => decide +kernel)
    | ((with_reducible apply Frame.step (Dev.setReqs_frame ..)); case hw => decide +kernel)
    | ((with_reducible apply Frame.step (Dev.grantReq_frame ..)); case hw => decide +kernel)
    | ((with_reducible apply Frame.step (Dev.bump_frame ..)); case hw => decide +kernel)

theorem Dev.closeSet_frame (d : Dev) (p : Nat) (k : Nat) (sent : Nat) :
    Frame 0x2800000000000000000000000000000000000000000000000000000000000000000000000020000000 d (Dev.closeSet d p k sent) := by
  unfold Dev.closeSet
  repeat' first
    | (with_reducible assumption)
    | (with_reducible exact Frame.refl)
    | (extract_lets +onlyGivenNames x; first | (refine Frame.cut x ?_ (fun _ => ?_); rotate_left; clear_value x; revert x; intro _ _; rotate_left; subst x) | (clear_value x; revert x; intro _) | (subst x))
    | ((with_reducible refine Frame.foldl ?_ (fun _ _ _ => ?_)))
    | ((with_reducible apply Frame.step (Dev.put_frame ..)); case hw => decide +kernel)
    | ((with_reducible apply Frame.step (Dev.raise_frame ..)); case hw => decide +kernel)
    | split
    | ((with_reducible refine Frame.kerf_of ?hw ?_); case hw => rfl)

theorem Dev.challenge_frame (d : Dev) (h : HPath) :
    Frame 0x23c4000000000000000010000000000000000000000000000000000000000000000000000000026000000 d (Dev.challenge d h) := by
  unfold Dev.challenge
  repeat' first
    | (with_reducible assumption)
    | (with_reducible exact Frame.refl)
    | (extract_lets +onlyGivenNames x; first | (clear_value x; revert x; intro _) | (subst x))
    | ((with_reducible refine Frame.foldl ?_ (fun _ _ _ => ?_)))
    | ((with_reducible apply Frame.step (Dev.withdraw_frame ..)); case hw => rfl)

theorem Dev.haloJoin_frame (d : Dev) (k : Nat) (h : HPath) :
    Frame 0x800000000000000000000000000000000000000000000000000000000000000000000000020000000 d (Dev.haloJoin d k h) := by
  unfold Dev.haloJoin
  repeat' first
    | (with_reducible assumption)
    | (with_reducible exact Frame.refl)
    | (extract_lets +onlyGivenNames x; first | (clear_value x; revert x; intro _) | (subst x))
    | ((with_reducible refine Frame.foldl ?_ (fun _ _ _ => ?_)))
    | ((with_reducible apply Frame.step (Dev.raise_frame ..)); case hw => decide +kernel)
    | split
    | ((with_reducible refine Frame.kerf_of ?hw ?_); case hw => rfl)

theorem Dev.haloAdd_frame (d : Dev) (p : Nat) (k : Nat) (h : HPath) :
    Frame 0x608000000000000000000000000000000000000000000000000000000000000000000000000000000000000000000000000002bc4800000000000000010000000000030c20140000000000020000000000000000000000000026009000 d (Dev.haloAdd d p k h) := by
  unfold Dev.haloAdd
  repeat' first
    | (with_reducible assumption)
    | (with_reducible exact Frame.refl)
    | (extract_lets +onlyGivenNames x; first | (refine Frame.cut x ?_ (fun _ => ?_); rotate_left; clear_value x; revert x; intro _ _; rotate_left; subst x) | (clear_value x; revert x; intro _) | (subst x))
    | ((with_reducible refine Frame.foldl ?_ (fun _ _ _ => ?_)))
    | ((with_reducible apply Frame.step (Dev.challenge_frame ..)); case hw => rfl)
    | ((with_reducible apply Frame.step (Dev.haloJoin_frame ..)); case hw => rfl)
    | ((with_reducible refine Frame.when (fun _ _ => ?_) ?_))
    | ((with_reducible apply Frame.step (Dev.forceYield_frame ..)); case hw => rfl)
    | split
    | ((with_reducible refine Frame.kerf_of ?hw ?_); case hw => rfl)

theorem Dev.haloRec_frame (d : Dev) (p : Nat) (k : Nat) (g0 : Nat) (g1 : Nat) :
    Frame 0x608000000000000000000000000000000000000000000000000000000000000000000000000000000000000000000000000002bce800000000000000010000000000030c20140000000000020000000000000000000000000026009000 d (Dev.haloRec d p k g0 g1) := by
  unfold Dev.haloRec
  repeat' first
    | (with_reducible assumption)
    | (with_reducible exact Frame.refl)
    | (extract_lets +onlyGivenNames x; clear_value x; revert x; intro _)
    | ((with_reducible refine Frame.foldl ?_ (fun _ _ _ => ?_)))
    | ((with_reducible apply Frame.step (Dev.bump_frame ..)); case hw => decide +kernel)
    | ((with_reducible apply Frame.step (Dev.closeSet_frame ..)); case hw => decide +kernel)
    | ((with_reducible apply Frame.step (Dev.haloAdd_frame ..)); case hw => decide +kernel)
    | split
    | ((with_reducible refine Frame.kerf_of ?hw ?_); case hw => rfl)

theorem Dev.haloRecs_frame (p k : Nat) (gs : List Gran) (d : Dev) : Frame 0x608000000000000000000000000000000000000000000000000000000000000000000000000000000000000000000000000002bce800000000000000010000000000030c20140000000000020000000000000000000000000026009000 d (Dev.haloRecs d p k gs) := by
  induction gs using List.twoStepInduction generalizing d with
  | nil => exact Frame.refl
  | singleton => exact Frame.refl
  | cons_cons g0 g1 rest ih _ => exact (Dev.haloRec_frame d p k _ _).trans (ih _)

/-! ### GrainCmds.lean -/

theorem Dev.writeGeom_frame (d : Dev) (r : Reg) (value : Nat) :
    Frame (0x40000000 ||| r.mask) d (Dev.writeGeom d r value) := by
  unfold Dev.writeGeom
  repeat' first
    | (with_reducible assumption)
    | (with_reducible exact Frame.refl)
    | (extract_lets +onlyGivenNames x; first | (refine Frame.cut x ?_ (fun _ => ?_); rotate_left; clear_value x; revert x; intro _ _; rotate_left; subst x) | (clear_value x; revert x; intro _))
    | ((with_reducible refine Frame.foldl ?_ (fun _ _ _ => ?_)))
    | ((with_reducible apply Frame.step (Dev.reject_frame ..)); case hw => first | decide +kernel | exact Within.refl | assumption | exact Reg.mask_within (by decide +kernel) _ | (repeat' first | exact Within.refl | decide +kernel | exact Reg.mask_within (by decide +kernel) _ | exact Within.or_right Within.refl | refine Within.or ?_ ?_ | exact Within.or_left (by decide +kernel) | exact Within.or_right (by decide +kernel)))
    | ((with_reducible apply Frame.step (Dev.writeReg_frame ..)); case hw => first | decide +kernel | exact Within.refl | assumption | exact Reg.mask_within (by decide +kernel) _ | (repeat' first | exact Within.refl | decide +kernel | exact Reg.mask_within (by decide +kernel) _ | exact Within.or_right Within.refl | refine Within.or ?_ ?_ | exact Within.or_left (by decide +kernel) | exact Within.or_right (by decide +kernel)))
    | split
    | ((with_reducible refine Frame.grain_of ?hw ?_); case hw => exact Within.bit (Within.or_left Within.refl) rfl)

theorem Dev.grainSet_frame (d : Dev) : Frame 0x10a4000000000000000000000000000000000000000000000000000000000000000000000000000000000000000020040000000 d (Dev.grainSet d).2 := by
  unfold Dev.grainSet
  exact Frame.step (Dev.bump_frame ..) (by decide +kernel) (Frame.grain_of rfl (Frame.step (Dev.cellErrors_frame ..) (by decide +kernel) Frame.refl))

theorem Dev.haloCell_frame (d : Dev) (kind : Nat) (col : Int) (row : Int) (v : Nat) (tick : Nat) :
    Frame 0x1034000000000000000000000000000000000000000000000000000000000000000000000000000000000000000020040000000 d (Dev.haloCell d kind col row v tick) := by
  unfold Dev.haloCell
  repeat' first
    | (with_reducible assumption)
    | (with_reducible exact Frame.refl)
    | (extract_lets +onlyGivenNames x; clear_value x; revert x; intro _)
    | ((with_reducible refine Frame.foldl ?_ (fun _ _ _ => ?_)))
    | ((with_reducible apply Frame.step (Dev.setCell_frame ..)); case hw => rfl)
    | ((with_reducible apply Frame.step (Dev.depositCell_frame ..)); case hw => rfl)
    | split

theorem Dev.haloCells_frame (d : Dev) (kind : Nat) (row : Int) (tick : Nat) (col : Int) (vs : List Nat) : Frame 0x1034000000000000000000000000000000000000000000000000000000000000000000000000000000000000000020040000000 d (Dev.haloCells d kind row tick col vs) := by
  induction vs generalizing d col with
  | nil => exact Frame.refl
  | cons v vs ih => exact (Dev.haloCell_frame ..).trans (ih _ _)

theorem Dev.haloRun_frame (d : Dev) (ix : Nat) (h : Nat) (words : List Nat) :
    Frame 0x107e000000000000000000000000000000000000000000000000000000000000000000000000000000000000000020040000000 d (Dev.haloRun d ix h words) := by
  unfold Dev.haloRun
  repeat' first
    | (with_reducible assumption)
    | (with_reducible exact Frame.refl)
    | (extract_lets +onlyGivenNames x; first | (clear_value x; revert x; intro _) | (subst x))
    | ((with_reducible refine Frame.foldl ?_ (fun _ _ _ => ?_)))
    | ((with_reducible apply Frame.step (Dev.bump_frame ..)); case hw => decide +kernel)
    | ((with_reducible apply Frame.step (Dev.put_frame ..)); case hw => decide +kernel)
    | ((with_reducible apply Frame.step (Dev.raise_frame ..)); case hw => decide +kernel)
    | ((with_reducible apply Frame.step (Dev.haloCells_frame ..)); case hw => decide +kernel)
    | split
    | ((with_reducible refine Frame.grain_of ?hw ?_); case hw => rfl)

theorem Dev.haloRuns_frame (d : Dev) (ix fuel : Nat) (gs : List Gran) : Frame 0x107e000000000000000000000000000000000000000000000000000000000000000000000000000000000000000020040000000 d (Dev.haloRuns d ix fuel gs) := by
  induction fuel generalizing d gs with
  | zero => exact Frame.refl
  | succ fuel ih =>
    cases gs with
    | nil => exact Frame.refl
    | cons g rest => exact (Dev.haloRun_frame ..).trans (ih _ _)

/-! ### VeneerCmds.lean -/

theorem Dev.tileRecord_frame (d : Dev) (t : Nat) (code : Nat) (sev : Nat) (p1 : Nat) (p2 : Nat) (p3 : Nat) :
    Frame 0x608000000000000000000000000000000000000000000000000000000000000000000000000000000000000000000000000000000000000000000000000000000000030c20140000000000020000000000000000000000000006009000 d (Dev.tileRecord d t code sev p1 p2 p3) := by
  unfold Dev.tileRecord
  repeat' first
    | (with_reducible assumption)
    | (with_reducible exact Frame.refl)
    | ((with_reducible refine Frame.foldl ?_ (fun _ _ _ => ?_)))
    | ((with_reducible apply Frame.step (Dev.record_frame ..)); case hw => rfl)

theorem Dev.endFrames_frame (d : Dev) (t : Nat) (code : Option Nat) :
    Frame 0x20000000000000000000000000000000000000000000000000000000000000000000000000000000000000000000000000000000000000000000000000000000000000000000000000000000000000000000000008a0000000000000000000000000080020500 d (Dev.endFrames d t code) := by
  unfold Dev.endFrames
  repeat' first
    | (with_reducible assumption)
    | (with_reducible exact Frame.refl)
    | (extract_lets +onlyGivenNames x; first | (refine Frame.cut x ?_ (fun _ => ?_); rotate_left; clear_value x; revert x; intro _ _; rotate_left; subst x) | (clear_value x; revert x; intro _) | (subst x))
    | ((with_reducible refine Frame.foldl ?_ (fun _ _ _ => ?_)))
    | ((with_reducible apply Frame.step (Dev.modTile_frame ..)); case hw => rfl)
    | ((with_reducible apply Frame.step (Dev.complete_frame ..)); case hw => rfl)

theorem Dev.dropTile_frame (d : Dev) (t : Nat) (code : Option Nat) :
    Frame 0x20000000000000000000000000000000000000000000000000000000000000000000000000000000000000000000020040000000000000000000000000000000000000000000000000000000000000000000000008a0000000000000000000000000080020500 d (Dev.dropTile d t code) := by
  unfold Dev.dropTile
  repeat' first
    | (with_reducible assumption)
    | (with_reducible exact Frame.refl)
    | (extract_lets +onlyGivenNames x; first | (refine Frame.cut x ?_ (fun _ => ?_); rotate_left; clear_value x; revert x; intro _ _; rotate_left; subst x) | (clear_value x; revert x; intro _))
    | ((with_reducible refine Frame.foldl ?_ (fun _ _ _ => ?_)))
    | ((with_reducible apply Frame.step (Dev.endFrames_frame ..)); case hw => rfl)
    | ((with_reducible apply Frame.step (Dev.complete_frame ..)); case hw => rfl)
    | ((with_reducible apply Frame.step (Dev.detachTile_frame ..)); case hw => rfl)
    | split

theorem Dev.attachNow_frame (d : Dev) (t : Nat) :
    Frame 0x6080000000000000000000000000000000000000000000000000000000000000100f0098000440000000000000000000000000000000000000000000000000000000030c20140000000000020000000000000000000000000086009000 d (Dev.attachNow d t) := by
  unfold Dev.attachNow
  repeat' first
    | (with_reducible assumption)
    | (with_reducible exact Frame.refl)
    | (extract_lets +onlyGivenNames x; first | (refine Frame.cut x ?_ (fun _ => ?_); rotate_left; clear_value x; revert x; intro _ _; rotate_left; subst x) | (clear_value x; revert x; intro _) | (subst x))
    | ((with_reducible refine Frame.foldl ?_ (fun _ _ _ => ?_)))
    | ((with_reducible apply Frame.step (Dev.put_frame ..)); case hw => decide +kernel)
    | ((with_reducible apply Frame.step (Dev.putB_frame ..)); case hw => decide +kernel)
    | ((with_reducible apply Frame.step (Dev.lower_frame ..)); case hw => decide +kernel)
    | ((with_reducible apply Frame.step (Dev.tileRecord_frame ..)); case hw => decide +kernel)
    | ((with_reducible apply Frame.step (Dev.modTile_frame ..)); case hw => decide +kernel)
    | ((with_reducible apply Frame.step (Dev.sendTile_frame ..)); case hw => decide +kernel)
    | split

theorem Dev.chooseNext_frame (d : Dev) (t : Nat) :
    Frame 0x80000000 d (Dev.chooseNext d t) := by
  unfold Dev.chooseNext
  repeat' first
    | (with_reducible assumption)
    | (with_reducible exact Frame.refl)
    | (extract_lets +onlyGivenNames x; clear_value x; revert x; intro _)
    | ((with_reducible refine Frame.foldl ?_ (fun _ _ _ => ?_)))
    | ((with_reducible apply Frame.step (Dev.modTile_frame ..)); case hw => rfl)
    | split

theorem Dev.sendDone_frame (d : Dev) (t : Nat) :
    Frame 0x60800000000000000000000000000000000000000000000000000000000000000000000000008c000000000000000000000000000000000000000000000000000000030c20140000000000020000000000000000000000000086009000 d (Dev.sendDone d t) := by
  unfold Dev.sendDone
  repeat' first
    | (with_reducible assumption)
    | (with_reducible exact Frame.refl)
    | (extract_lets +onlyGivenNames x; first | (refine Frame.cut x ?_ (fun _ => ?_); rotate_left; clear_value x; revert x; intro _ _; rotate_left; subst x) | (clear_value x; revert x; intro _) | (subst x))
    | ((with_reducible refine Frame.foldl ?_ (fun _ _ _ => ?_)))
    | ((with_reducible apply Frame.step (Dev.modTile_frame ..)); case hw => decide +kernel)
    | ((with_reducible apply Frame.step (Dev.put_frame ..)); case hw => decide +kernel)
    | ((with_reducible apply Frame.step (Dev.occur_frame ..)); case hw => decide +kernel)
    | ((with_reducible apply Frame.step (Dev.tileRecord_frame ..)); case hw => decide +kernel)
    | ((with_reducible apply Frame.step (Dev.raise_frame ..)); case hw => decide +kernel)
    | split

theorem Dev.slotEnd_frame (d : Dev) (t : Nat) :
    Frame 0x20000000000000000000000000000000000000000000000000000000000000000000000000000000000000000000000000000000000000000000000000000000000000000000000000000000000000000000000008a0000000000000000000000000080020500 d (Dev.slotEnd d t) := by
  unfold Dev.slotEnd
  repeat' first
    | (with_reducible assumption)
    | (with_reducible exact Frame.refl)
    | (extract_lets +onlyGivenNames x; first | (refine Frame.cut x ?_ (fun _ => ?_); rotate_left; clear_value x; revert x; intro _ _; rotate_left; subst x) | (clear_value x; revert x; intro _) | (subst x))
    | ((with_reducible refine Frame.foldl ?_ (fun _ _ _ => ?_)))
    | ((with_reducible apply Frame.step (Dev.modTile_frame ..)); case hw => rfl)
    | ((with_reducible apply Frame.step (Dev.complete_frame ..)); case hw => rfl)
    | split

theorem Dev.flushFrames_frame (d : Dev) (t code : Nat) (l : List Nat) : Frame 0x20000000000000000000000000000000000000000000000000000000000000000000000000000000000000000000000000000000000000000000000000000000000000000000000000000000000000000000000008a0000000000000000000000000080020500 d (Dev.flushFrames d t code l) := by
  induction l generalizing d with
  | nil => exact Frame.refl
  | cons id rest ih =>
    unfold Dev.flushFrames
    split
    · exact Frame.refl
    · refine Frame.trans ?_ (ih _)
      exact Frame.step (Dev.complete_frame ..) (by decide +kernel) (Frame.step (Dev.modTile_frame ..) (by decide +kernel) Frame.refl)

theorem Dev.flushFroze_frame (d : Dev) (t : Nat) :
    Frame 0x20000000000000000000000000000000000000000000000000000000000000000000000000000000000000000000000000000000000000000000000000000000000000000000000000000000000000000000000008a0000000000000000000000000080020500 d (Dev.flushFroze d t) := by
  unfold Dev.flushFroze
  repeat' first
    | (with_reducible assumption)
    | (with_reducible exact Frame.refl)
    | (extract_lets +onlyGivenNames x; first | (refine Frame.cut x ?_ (fun _ => ?_); rotate_left; clear_value x; revert x; intro _ _; rotate_left; subst x) | (clear_value x; revert x; intro _) | (subst x))
    | ((with_reducible refine Frame.foldl ?_ (fun _ _ _ => ?_)))
    | ((with_reducible apply Frame.step (Dev.modTile_frame ..)); case hw => rfl)
    | ((with_reducible apply Frame.step (Dev.complete_frame ..)); case hw => rfl)

theorem Dev.missSlot_frame (d : Dev) (t : Nat) (id : Nat) :
    Frame 0x608000000000000000000000000000000000000000000000000000000000000000000000000114000000000000000000000000000000000000000000000000000000030c20140000000000020000000000000000000000000086009000 d (Dev.missSlot d t id) := by
  unfold Dev.missSlot
  repeat' first
    | (with_reducible assumption)
    | (with_reducible exact Frame.refl)
    | (extract_lets +onlyGivenNames x; first | (refine Frame.cut x ?_ (fun _ => ?_); rotate_left; clear_value x; revert x; intro _ _; rotate_left; subst x) | (clear_value x; revert x; intro _) | (subst x))
    | ((with_reducible refine Frame.foldl ?_ (fun _ _ _ => ?_)))
    | ((with_reducible apply Frame.step (Dev.modTile_frame ..)); case hw => decide +kernel)
    | ((with_reducible apply Frame.step (Dev.raise_frame ..)); case hw => decide +kernel)
    | ((with_reducible apply Frame.step (Dev.bump_frame ..)); case hw => decide +kernel)
    | ((with_reducible apply Frame.step (Dev.put_frame ..)); case hw => decide +kernel)
    | ((with_reducible apply Frame.step (Dev.occur_frame ..)); case hw => decide +kernel)
    | ((with_reducible apply Frame.step (Dev.tileRecord_frame ..)); case hw => decide +kernel)

theorem Dev.showSlot_frame (d : Dev) (t : Nat) (sd : SlotData) :
    Frame 0x4000000000000000000000000000000000000000000000000000000000000000000000000000000000000000000000000000080000100 d (Dev.showSlot d t sd) := by
  unfold Dev.showSlot
  repeat' first
    | (with_reducible assumption)
    | (with_reducible exact Frame.refl)
    | (extract_lets +onlyGivenNames x; first | (refine Frame.cut x ?_ (fun _ => ?_); rotate_left; clear_value x; revert x; intro _ _; rotate_left; subst x) | (clear_value x; revert x; intro _) | (subst x))
    | ((with_reducible refine Frame.foldl ?_ (fun _ _ _ => ?_)))
    | ((with_reducible apply Frame.step (Dev.modTile_frame ..)); case hw => decide +kernel)
    | ((with_reducible apply Frame.step (Dev.put_frame ..)); case hw => decide +kernel)
    | ((with_reducible apply Frame.step (Dev.modJob_frame ..)); case hw => decide +kernel)

theorem Dev.slotBody_frame (d : Dev) (t : Nat) :
    Frame 0x200000000000000000060800000000000000000000000000000000000000000000000000000000000000000000000019c000000000000000000000000000000000000000000000000000000030c201400000000008a0000000000000000000000000086029500 d (Dev.slotBody d t) := by
  unfold Dev.slotBody
  repeat' first
    | (with_reducible assumption)
    | (with_reducible exact Frame.refl)
    | (extract_lets +onlyGivenNames x; first | (refine Frame.cut x ?_ (fun _ => ?_); rotate_left; clear_value x; revert x; intro _ _; rotate_left; subst x) | (clear_value x; revert x; intro _) | (subst x))
    | ((with_reducible refine Frame.foldl ?_ (fun _ _ _ => ?_)))
    | ((with_reducible apply Frame.step (Dev.sendDone_frame ..)); case hw => decide +kernel)
    | ((with_reducible apply Frame.step (Dev.flushFroze_frame ..)); case hw => decide +kernel)
    | ((with_reducible apply Frame.step (Dev.flushFrames_frame ..)); case hw => decide +kernel)
    | ((with_reducible apply Frame.step (Dev.put_frame ..)); case hw => decide +kernel)
    | ((with_reducible apply Frame.step (Dev.showSlot_frame ..)); case hw => decide +kernel)
    | ((with_reducible apply Frame.step (Dev.missSlot_frame ..)); case hw => decide +kernel)
    | ((with_reducible apply Frame.step (Dev.modTile_frame ..)); case hw => decide +kernel)
    | split

theorem Dev.freshSlot_frame (d : Dev) (t : Nat) (start : Nat) :
    Frame 0x80000000 d (Dev.freshSlot d t start) := by
  unfold Dev.freshSlot
  repeat' first
    | (with_reducible assumption)
    | (with_reducible exact Frame.refl)
    | ((with_reducible refine Frame.foldl ?_ (fun _ _ _ => ?_)))
    | ((with_reducible apply Frame.step (Dev.modTile_frame ..)); case hw => rfl)

theorem Dev.slotStart_frame (d : Dev) (t : Nat) :
    Frame 0x200000000000000000060800000000000000000000000000000000000000000000000000000000000000000000000259c000000000000000000000000000000000000000000000000000000030c201400000000008a0000000000000000000000000086029500 d (Dev.slotStart d t) := by
  unfold Dev.slotStart
  repeat' first
    | (with_reducible assumption)
    | (with_reducible exact Frame.refl)
    | (extract_lets +onlyGivenNames x; first | (refine Frame.cut x ?_ (fun _ => ?_); rotate_left; clear_value x; revert x; intro _ _; rotate_left; subst x) | (clear_value x; revert x; intro _) | (subst x))
    | ((with_reducible refine Frame.foldl ?_ (fun _ _ _ => ?_)))
    | ((with_reducible apply Frame.step (Dev.modTile_frame ..)); case hw => decide +kernel)
    | ((with_reducible apply Frame.step (Dev.freshSlot_frame ..)); case hw => decide +kernel)
    | ((with_reducible apply Frame.step (Dev.chooseNext_frame ..)); case hw => decide +kernel)
    | ((with_reducible apply Frame.step (Dev.complete_frame ..)); case hw => decide +kernel)
    | ((with_reducible apply Frame.step (Dev.showBw_frame ..)); case hw => decide +kernel)
    | ((with_reducible apply Frame.step (Dev.put_frame ..)); case hw => decide +kernel)
    | ((with_reducible apply Frame.step (Dev.slotEnd_frame ..)); case hw => decide +kernel)
    | ((with_reducible apply Frame.step (Dev.missSlot_frame ..)); case hw => decide +kernel)
    | ((with_reducible apply Frame.step (Dev.dropTile_frame ..)); case hw => decide +kernel)
    | ((with_reducible apply Frame.step (Dev.slotBody_frame ..)); case hw => decide +kernel)
    | split

theorem Dev.restartTile_frame (d : Dev) (t : Nat) :
    Frame 0x400000000000000000000000000000000000000000000000000000000000000000000000000000000000000000000000000000080000000 d (Dev.restartTile d t) := by
  unfold Dev.restartTile
  repeat' first
    | (with_reducible assumption)
    | (with_reducible exact Frame.refl)
    | (extract_lets +onlyGivenNames x; first | (refine Frame.cut x ?_ (fun _ => ?_); rotate_left; clear_value x; revert x; intro _ _; rotate_left; subst x) | (clear_value x; revert x; intro _) | (subst x))
    | ((with_reducible refine Frame.foldl ?_ (fun _ _ _ => ?_)))
    | ((with_reducible apply Frame.step (Dev.freshSlot_frame ..)); case hw => decide +kernel)
    | ((with_reducible apply Frame.step (Dev.modTile_frame ..)); case hw => decide +kernel)
    | ((with_reducible apply Frame.step (Dev.chooseNext_frame ..)); case hw => decide +kernel)
    | ((with_reducible apply Frame.step (Dev.sendTile_frame ..)); case hw => decide +kernel)
    | ((with_reducible apply Frame.step (Dev.put_frame ..)); case hw => decide +kernel)
    | split

theorem Dev.stopTiles_frame (d : Dev) (code : Nat) :
    Frame 0x4000000000000000000000000000000000000000000000000000000000000000000000000000000000000000000000000000080000000 d (Dev.stopTiles d code) := by
  unfold Dev.stopTiles
  repeat' first
    | (with_reducible assumption)
    | (with_reducible exact Frame.refl)
    | (extract_lets +onlyGivenNames x; first | (refine Frame.cut x ?_ (fun _ => ?_); rotate_left; clear_value x; revert x; intro _ _; rotate_left; subst x) | (subst x))
    | ((with_reducible refine Frame.foldl ?_ (fun _ _ _ => ?_)))
    | ((with_reducible apply Frame.step (Dev.modTile_frame ..)); case hw => decide +kernel)
    | ((with_reducible apply Frame.step (Dev.blankTile_frame ..)); case hw => decide +kernel)
    | ((with_reducible apply Frame.step (Dev.put_frame ..)); case hw => decide +kernel)
    | split

theorem Dev.freezeTile_frame (d : Dev) (t : Nat) :
    Frame 0x2004000000000000000000000000000000000000000000000000000000000000000000000000000000000000000000000000000080020000 d (Dev.freezeTile d t) := by
  unfold Dev.freezeTile
  repeat' first
    | (with_reducible assumption)
    | (with_reducible exact Frame.refl)
    | ((with_reducible refine Frame.foldl ?_ (fun _ _ _ => ?_)))
    | ((with_reducible apply Frame.step (Dev.detachTile_frame ..)); case hw => rfl)
    | ((with_reducible apply Frame.step (Dev.modTile_frame ..)); case hw => rfl)

theorem Dev.addEnergy_frame (d : Dev) (t : Nat) (sd : SlotData) (line : Nat) :
    Frame 0x80000000 d (Dev.addEnergy d t sd line) := by
  unfold Dev.addEnergy
  repeat' first
    | (with_reducible assumption)
    | (with_reducible exact Frame.refl)
    | (extract_lets +onlyGivenNames x; clear_value x; revert x; intro _)
    | ((with_reducible refine Frame.foldl ?_ (fun _ _ _ => ?_)))
    | ((with_reducible apply Frame.step (Dev.modTile_frame ..)); case hw => rfl)

theorem Dev.linePeriod_frame (d : Dev) (t : Nat) :
    Frame 0x200000000000000000000000000000000000000000000000000000000000000000000000000000000000000000000000000000080000000 d (Dev.linePeriod d t) := by
  unfold Dev.linePeriod
  repeat' first
    | (with_reducible assumption)
    | (with_reducible exact Frame.refl)
    | (extract_lets +onlyGivenNames x; first | (refine Frame.cut x ?_ (fun _ => ?_); rotate_left; clear_value x; revert x; intro _ _; rotate_left; subst x) | (clear_value x; revert x; intro _))
    | ((with_reducible refine Frame.foldl ?_ (fun _ _ _ => ?_)))
    | ((with_reducible apply Frame.step (Dev.modTile_frame ..)); case hw => decide +kernel)
    | ((with_reducible apply Frame.step (Dev.lineSync_frame ..)); case hw => decide +kernel)
    | ((with_reducible apply Frame.step (Dev.sendTile_frame ..)); case hw => decide +kernel)
    | ((with_reducible apply Frame.step (Dev.bump_frame ..)); case hw => decide +kernel)
    | ((with_reducible apply Frame.step (Dev.addEnergy_frame ..)); case hw => decide +kernel)
    | split

theorem Dev.siteDeposit_frame (d : Dev) (t : Nat) (i : Nat) (ticks : Tab Nat) :
    Frame 0x10350000000000000000000000000000000000000000000000000000000000000000000000000000000000000000200c0000000 d (Dev.siteDeposit d t i ticks) := by
  unfold Dev.siteDeposit
  repeat' first
    | (with_reducible assumption)
    | (with_reducible exact Frame.refl)
    | (extract_lets +onlyGivenNames x; first | (refine Frame.cut x ?_ (fun _ => ?_); rotate_left; clear_value x; revert x; intro _ _; rotate_left; subst x) | (clear_value x; revert x; intro _))
    | ((with_reducible refine Frame.foldl ?_ (fun _ _ _ => ?_)))
    | ((with_reducible apply Frame.step (Dev.modTile_frame ..)); case hw => rfl)
    | ((with_reducible apply Frame.step (Dev.depositAt_frame ..)); case hw => rfl)
    | split

theorem Dev.loseTileLink_frame (d : Dev) (t : Nat) :
    Frame 0x2000000000000000000608000000000000000000000000000000000000000000000000000000000000000000104002004000000000000000000000000000000000000000000000000000000030c201400000000008a0000000000000000000000000086029500 d (Dev.loseTileLink d t) := by
  unfold Dev.loseTileLink
  repeat' first
    | (with_reducible assumption)
    | (with_reducible exact Frame.refl)
    | (extract_lets +onlyGivenNames x; first | (refine Frame.cut x ?_ (fun _ => ?_); rotate_left; clear_value x; revert x; intro _ _; rotate_left; subst x) | (subst x))
    | ((with_reducible refine Frame.foldl ?_ (fun _ _ _ => ?_)))
    | ((with_reducible apply Frame.step (Dev.raise_frame ..)); case hw => decide +kernel)
    | ((with_reducible apply Frame.step (Dev.lower_frame ..)); case hw => decide +kernel)
    | ((with_reducible apply Frame.step (Dev.modTile_frame ..)); case hw => decide +kernel)
    | ((with_reducible apply Frame.step (Dev.occur_frame ..)); case hw => decide +kernel)
    | ((with_reducible apply Frame.step (Dev.tileRecord_frame ..)); case hw => decide +kernel)
    | ((with_reducible apply Frame.step (Dev.dropTile_frame ..)); case hw => decide +kernel)
    | split

theorem Frame.onPacket {w : Nat} {dev0 : Dev} {d : Dev} {t : Nat} {typ : Nat} {packet : List Byte} {f : Dev → Nat → List Byte → Dev} (hw : Within 0x100000000000000000000000000000000000000000000000000000000000000000000000000000000000000000000000000000000000000080000000 w)
    (f_h : ∀ x y0 y1, Frame w dev0 x → Frame w dev0 (f x y0 y1)) (h : Frame w dev0 d) :
    Frame w dev0 (Dev.onPacket d t typ packet f) := by
  unfold Dev.onPacket
  repeat' first
    | (with_reducible assumption)
    | (with_reducible exact Frame.refl)
    | (with_reducible refine f_h _ _ _ ?_)
    | ((with_reducible refine Frame.foldl ?_ (fun _ _ _ => ?_)))
    | ((with_reducible apply Frame.step (Dev.modTile_frame ..)); case hw => exact Within.trans (b := 0x100000000000000000000000000000000000000000000000000000000000000000000000000000000000000000000000000000000000000080000000) rfl hw)
    | ((with_reducible apply Frame.step (Dev.bump_frame ..)); case hw => exact Within.trans (b := 0x100000000000000000000000000000000000000000000000000000000000000000000000000000000000000000000000000000000000000080000000) rfl hw)
    | (with_reducible apply_assumption -exfalso -symm)
    | split

theorem Dev.goodStatus_frame (d : Dev) (t : Nat) (h : Nat) :
    Frame 0x6080000000000000000000000000000000000000000000000000000000000000100ff0bc000440000000000000000000000000000000000000000000000000000000030c20140000000000020000000000000000000000000086009000 d (Dev.goodStatus d t h) := by
  unfold Dev.goodStatus
  repeat' first
    | (with_reducible assumption)
    | (with_reducible exact Frame.refl)
    | (extract_lets +onlyGivenNames x; first | (refine Frame.cut x ?_ (fun _ => ?_); rotate_left; clear_value x; revert x; intro _ _; rotate_left; subst x) | (clear_value x; revert x; intro _) | (subst x))
    | ((with_reducible refine Frame.foldl ?_ (fun _ _ _ => ?_)))
    | ((with_reducible apply Frame.step (Dev.put_frame ..)); case hw => decide +kernel)
    | ((with_reducible apply Frame.step (Dev.modTile_frame ..)); case hw => decide +kernel)
    | ((with_reducible apply Frame.step (Dev.raise_frame ..)); case hw => decide +kernel)
    | ((with_reducible apply Frame.step (Dev.lower_frame ..)); case hw => decide +kernel)
    | ((with_reducible apply Frame.step (Dev.attachNow_frame ..)); case hw => decide +kernel)
    | split

theorem Dev.checkVolt_frame (d : Dev) (t : Nat) (s : Nat) (lead : Nat) (on : Nat) :
    Frame 0x608000000000000000000000000000000000000000000000000000000000000000080040000000000000000000000000000000000000000000000000000000000000030c20140000000000020000000000000000000000000086009000 d (Dev.checkVolt d t s lead on) := by
  unfold Dev.checkVolt
  repeat' first
    | (with_reducible assumption)
    | (with_reducible exact Frame.refl)
    | (extract_lets +onlyGivenNames x; first | (refine Frame.cut x ?_ (fun _ => ?_); rotate_left; clear_value x; revert x; intro _ _; rotate_left; subst x) | (clear_value x; revert x; intro _) | (subst x))
    | ((with_reducible refine Frame.foldl ?_ (fun _ _ _ => ?_)))
    | ((with_reducible apply Frame.step (Dev.tileRecord_frame ..)); case hw => decide +kernel)
    | ((with_reducible apply Frame.step (Dev.bump_frame ..)); case hw => decide +kernel)
    | ((with_reducible apply Frame.step (Dev.raise_frame ..)); case hw => decide +kernel)
    | ((with_reducible apply Frame.step (Dev.modTile_frame ..)); case hw => decide +kernel)
    | split

theorem Dev.checkVolts_frame (d : Dev) (t : Nat) (l : List Nat) : Frame 0x608000000000000000000000000000000000000000000000000000000000000000080040000000000000000000000000000000000000000000000000000000000000030c20140000000000020000000000000000000000000086009000 d (Dev.checkVolts d t l) := by
  fun_induction Dev.checkVolts d t l with
  | case1 d s lead on rest ih => exact (Dev.checkVolt_frame d t s lead on).trans ih
  | case2 => exact Frame.refl

theorem Dev.stopOut_frame (d : Dev) (t : Nat) (s : Nat) (q : Nat) (i : Nat) (b : Nat) (c1 : Nat) (c2 : Nat) :
    Frame 0x200000000000000000060800000000000000000000000000000000000000000000000000000000000000f800400002004000000000000000000000000000000000000000000000000000000030c201400000000008a0000000000000000000000000086029500 d (Dev.stopOut d t s q i b c1 c2) := by
  unfold Dev.stopOut
  repeat' first
    | (with_reducible assumption)
    | (with_reducible exact Frame.refl)
    | (extract_lets +onlyGivenNames x; first | (refine Frame.cut x ?_ (fun _ => ?_); rotate_left; clear_value x; revert x; intro _ _; rotate_left; subst x) | (clear_value x; revert x; intro _) | (subst x))
    | ((with_reducible refine Frame.foldl ?_ (fun _ _ _ => ?_)))
    | ((with_reducible apply Frame.step (Dev.tileRecord_frame ..)); case hw => decide +kernel)
    | ((with_reducible apply Frame.step (Dev.dropTile_frame ..)); case hw => decide +kernel)
    | ((with_reducible apply Frame.step (Dev.raise_frame ..)); case hw => decide +kernel)
    | ((with_reducible apply Frame.step (Dev.put_frame ..)); case hw => decide +kernel)
    | ((with_reducible apply Frame.step (Dev.occur_frame ..)); case hw => decide +kernel)
    | ((with_reducible apply Frame.step (Dev.sendTile_frame ..)); case hw => decide +kernel)
    | split

theorem Dev.probePos_frame (d : Dev) (t : Nat) (s : Nat) (q : Nat) (c1 : Nat) (c2 : Nat) :
    Frame 0x200000000000000000060800000000000000000000000000000000000000000000000000000000000000f820400002004000000000000000000000000000000000000000000000000000000030c201400000000008a0000000000000000000000000086029500 d (Dev.probePos d t s q c1 c2) := by
  unfold Dev.probePos
  repeat' first
    | (with_reducible assumption)
    | (with_reducible exact Frame.refl)
    | (extract_lets +onlyGivenNames x; clear_value x; revert x; intro _)
    | ((with_reducible refine Frame.foldl ?_ (fun _ _ _ => ?_)))
    | ((with_reducible apply Frame.step (Dev.stopOut_frame ..)); case hw => decide +kernel)
    | ((with_reducible apply Frame.step (Dev.bump_frame ..)); case hw => decide +kernel)
    | split

theorem Dev.probeStrings_frame (d : Dev) (t : Nat) (payload : List Byte) (n : Nat) : Frame 0x200000000000000000060800000000000000000000000000000000000000000000000000000000000000f820400002004000000000000000000000000000000000000000000000000000000030c201400000000008a0000000000000000000000000086029500 d (Dev.probeStrings d t payload n) := by
  induction n generalizing d payload with
  | zero => exact Frame.refl
  | succ n ih =>
    unfold Dev.probeStrings
    dsimp only
    split
    · exact Frame.refl
    · refine Frame.trans ?_ (ih _ _)
      split
      · exact Frame.refl
      · exact Frame.foldl Frame.refl (fun _ _ h => h.trans (Dev.probePos_frame ..))

theorem Dev.clearStops_frame (d : Dev) (t : Nat) :
    Frame 0xf800600000000000000000000000000000000000000000000000000000000000000000000000000000000000000000000000000000000000000000004 d (Dev.clearStops d t) := by
  unfold Dev.clearStops
  repeat' first
    | (with_reducible assumption)
    | (with_reducible exact Frame.refl)
    | (refine Frame.resetFlds (fun f => f.reg == .VDR_STOP) (fun _ hc => (Bool.and_eq_true_iff.mp hc).1) (by decide +kernel) rfl ?_)
    | ((with_reducible refine Frame.foldl ?_ (fun _ _ _ => ?_)))
    | ((with_reducible apply Frame.step (Dev.raise_frame ..)); case hw => decide +kernel)
    | ((with_reducible apply Frame.step (Dev.put_frame ..)); case hw => decide +kernel)
    | split

/-! ### AxisCmds.lean -/

theorem Frame.axisJob {w : Nat} {dev0 : Dev} {d : Dev} {job : Nat} {op : Nat} {f : Dev → Job → Nat → Dev} (hw : Within 0x20000000000000000000000000000000000000000000000000000000000000000000000000000000000000000000000000000000000000000000000000000000000000000000000000000000000000000000000008a0000000000000000000000000000020500 w)
    (f_h : ∀ x y0 y1, Frame w dev0 x → Frame w dev0 (f x y0 y1)) (h : Frame w dev0 d) :
    Frame w dev0 (Dev.axisJob d job op f) := by
  unfold Dev.axisJob
  repeat' first
    | (with_reducible assumption)
    | (with_reducible exact Frame.refl)
    | (with_reducible refine f_h _ _ _ ?_)
    | ((with_reducible refine Frame.foldl ?_ (fun _ _ _ => ?_)))
    | ((with_reducible refine Frame.withJob ?hw (fun _ _ _ => ?_) ?_); case hw => exact Within.trans (b := 0x20000000000000000000000000000000000000000000000000000000000000000000000000000000000000000000000000000000000000000000000000000000000000000000000000000000000000000000000008a0000000000000000000000000000020500) rfl hw)
    | ((with_reducible apply Frame.step (Dev.complete_frame ..)); case hw => exact Within.trans (b := 0x20000000000000000000000000000000000000000000000000000000000000000000000000000000000000000000000000000000000000000000000000000000000000000000000000000000000000000000000008a0000000000000000000000000000020500) rfl hw)
    | (with_reducible apply_assumption -exfalso -symm)
    | split

theorem Dev.takeImm_frame (d : Dev) (j : Job) (a : Nat) :
    Frame 0x100000100 d (Dev.takeImm d j a) := by
  unfold Dev.takeImm
  repeat' first
    | (with_reducible assumption)
    | (with_reducible exact Frame.refl)
    | ((with_reducible refine Frame.foldl ?_ (fun _ _ _ => ?_)))
    | ((with_reducible apply Frame.step (Dev.modAxis_frame ..)); case hw => rfl)
    | ((with_reducible apply Frame.step (Dev.begin'_frame ..)); case hw => rfl)
    | split

theorem Dev.putLims_frame (d : Dev) (a : Nat) (l : AxLims) :
    Frame 0xf000000000000000000000000000000000000000000000000000000000000000000000000000000000000000000000000000000000000000000000000000 d (Dev.putLims d a l) := by
  unfold Dev.putLims
  repeat' first
    | (with_reducible assumption)
    | (with_reducible exact Frame.refl)
    | ((with_reducible refine Frame.foldl ?_ (fun _ _ _ => ?_)))
    | ((with_reducible apply Frame.step (Dev.put_frame ..)); case hw => decide +kernel)

theorem Dev.unlatch_frame (d : Dev) (a : Nat) :
    Frame 0x40000000f000000000000000000000000000000000000000000000000000000000000000000000000000000000000000000000000000000000000000000100000000 d (Dev.unlatch d a) := by
  unfold Dev.unlatch
  repeat' first
    | (with_reducible assumption)
    | (with_reducible exact Frame.refl)
    | ((with_reducible refine Frame.foldl ?_ (fun _ _ _ => ?_)))
    | ((with_reducible apply Frame.step (Dev.lower_frame ..)); case hw => decide +kernel)
    | ((with_reducible apply Frame.step (Dev.modAxis_frame ..)); case hw => decide +kernel)
    | ((with_reducible apply Frame.step (Dev.putLims_frame ..)); case hw => decide +kernel)
    | split

theorem Dev.endCompare_frame (d : Dev) (e : Nat) (code : Nat) :
    Frame 0x20000000000000000000000000000000000000000000000000000000000000008000000000000000000000000000000000000000000000000000000000000000000000000000000000000000000000000000000008a0000000000000000000000000200020500 d (Dev.endCompare d e code) := by
  unfold Dev.endCompare
  repeat' first
    | (with_reducible assumption)
    | (with_reducible exact Frame.refl)
    | ((with_reducible refine Frame.foldl ?_ (fun _ _ _ => ?_)))
    | ((with_reducible apply Frame.step (Dev.complete_frame ..)); case hw => decide +kernel)
    | ((with_reducible apply Frame.step (Dev.lower_frame ..)); case hw => decide +kernel)
    | ((with_reducible apply Frame.step (Dev.modEnc_frame ..)); case hw => decide +kernel)
    | split

theorem Dev.armCompare_frame (d : Dev) (e : Nat) (j : Job) :
    Frame 0x20000000000000000000000000000000000000000000000000000000000000008c04000000000000000000000000000000000000000000000000000000000000000000000000000000000000000000000000000008a0000000000000000000000000200020500 d (Dev.armCompare d e j) := by
  unfold Dev.armCompare
  repeat' first
    | (with_reducible assumption)
    | (with_reducible exact Frame.refl)
    | (extract_lets +onlyGivenNames x; first | (refine Frame.cut x ?_ (fun _ => ?_); rotate_left; clear_value x; revert x; intro _ _; rotate_left; subst x) | (clear_value x; revert x; intro _) | (subst x))
    | ((with_reducible refine Frame.foldl ?_ (fun _ _ _ => ?_)))
    | ((with_reducible apply Frame.step (Dev.endCompare_frame ..)); case hw => decide +kernel)
    | ((with_reducible apply Frame.step (Dev.puts_frame ..)); case hw => decide +kernel)
    | ((with_reducible apply Frame.step (Dev.raise_frame ..)); case hw => decide +kernel)
    | ((with_reducible apply Frame.step (Dev.modEnc_frame ..)); case hw => decide +kernel)
    | ((with_reducible apply Frame.step (Dev.put_frame ..)); case hw => decide +kernel)

theorem Dev.takeRef_frame (d : Dev) (a : Nat) :
    Frame 0x10000000000000000000000000000000000000000000000000000000000000000000000000000000000000000000000000000000000000000000000000000000000000200000000 d (Dev.takeRef d a) := by
  unfold Dev.takeRef
  repeat' first
    | (with_reducible assumption)
    | (with_reducible exact Frame.refl)
    | ((with_reducible refine Frame.foldl ?_ (fun _ _ _ => ?_)))
    | ((with_reducible apply Frame.step (Dev.raise_frame ..)); case hw => decide +kernel)
    | ((with_reducible apply Frame.step (Dev.modEnc_frame ..)); case hw => decide +kernel)

theorem Dev.replaceMove_frame (d : Dev) (a : Nat) :
    Frame 0x20000000000000000000000000000000000000000000000000000000000000000000000000000000000000000000000000000000000000000000000000000000000000000000000000000000000000000000000008a0000000000000000000000000100020500 d (Dev.replaceMove d a) := by
  unfold Dev.replaceMove
  repeat' first
    | (with_reducible assumption)
    | (with_reducible exact Frame.refl)
    | (extract_lets +onlyGivenNames x; first | (refine Frame.cut x ?_ (fun _ => ?_); rotate_left; clear_value x; revert x; intro _ _; rotate_left; subst x) | (clear_value x; revert x; intro _) | (subst x))
    | ((with_reducible refine Frame.foldl ?_ (fun _ _ _ => ?_)))
    | ((with_reducible apply Frame.step (Dev.modAxis_frame ..)); case hw => rfl)
    | ((with_reducible apply Frame.step (Dev.complete_frame ..)); case hw => rfl)

theorem Dev.actMotion_frame (d : Dev) (a : Nat) (j : Job) :
    Frame 0x20000000000000000000000000000000000000000000000000000000000000000000000008200000000000000000000000000000000000000000000000000000000000000000000000000000000000000000000008a0000000000000000000000000100020500 d (Dev.actMotion d a j) := by
  unfold Dev.actMotion
  repeat' first
    | (with_reducible assumption)
    | (with_reducible exact Frame.refl)
    | (extract_lets +onlyGivenNames x; first | (refine Frame.cut x ?_ (fun _ => ?_); rotate_left; clear_value x; revert x; intro _ _; rotate_left; subst x) | (subst x))
    | ((with_reducible refine Frame.foldl ?_ (fun _ _ _ => ?_)))
    | ((with_reducible apply Frame.step (Dev.replaceMove_frame ..)); case hw => decide +kernel)
    | ((with_reducible apply Frame.step (Dev.modAxis_frame ..)); case hw => decide +kernel)
    | ((with_reducible apply Frame.step (Dev.runStop_frame ..)); case hw => decide +kernel)
    | ((with_reducible apply Frame.step (Dev.runTo_frame ..)); case hw => decide +kernel)
    | ((with_reducible apply Frame.step (Dev.put_frame ..)); case hw => decide +kernel)
    | split

theorem Dev.actImm_frame (d : Dev) (a : Nat) (last : Bool) (j : Job) :
    Frame 0x20000000000000000000000000000000000000000000000000000000000000108c04000008200000000000000000000000000000000000000000000000000000000000000000000000000000000000000000000008a0000000000000000000000000300020500 d (Dev.actImm d a last j) := by
  unfold Dev.actImm
  repeat' first
    | (with_reducible assumption)
    | (with_reducible exact Frame.refl)
    | (extract_lets +onlyGivenNames x; first | (clear_value x; revert x; intro _) | (subst x))
    | ((with_reducible refine Frame.foldl ?_ (fun _ _ _ => ?_)))
    | ((with_reducible apply Frame.step (Dev.armCompare_frame ..)); case hw => rfl)
    | ((with_reducible apply Frame.step (Dev.complete_frame ..)); case hw => rfl)
    | ((with_reducible apply Frame.step (Dev.endCompare_frame ..)); case hw => rfl)
    | ((with_reducible apply Frame.step (Dev.takeRef_frame ..)); case hw => rfl)
    | ((with_reducible apply Frame.step (Dev.modAxis_frame ..)); case hw => rfl)
    | ((with_reducible apply Frame.step (Dev.actMotion_frame ..)); case hw => rfl)
    | split

theorem Dev.actImms_frame (d : Dev) (a : Nat) (l : List Job) : Frame 0x20000000000000000000000000000000000000000000000000000000000000108c04000008200000000000000000000000000000000000000000000000000000000000000000000000000000000000000000000008a0000000000000000000000000300020500 d (Dev.actImms d a l) := by
  induction l generalizing d with
  | nil => exact Frame.refl
  | cons j rest ih => exact (Dev.actImm_frame ..).trans (ih _)

theorem Dev.newAxisLims_frame (d : Dev) (a : Nat) :
    Frame 0xc0000000f000000000000000000000000000000000000000000000000000000000000000000000000000000000000000000000000000000000000000000100000000 d (Dev.newAxisLims d a) := by
  unfold Dev.newAxisLims
  repeat' first
    | (with_reducible assumption)
    | (with_reducible exact Frame.refl)
    | (extract_lets +onlyGivenNames x; first | (refine Frame.cut x ?_ (fun _ => ?_); rotate_left; clear_value x; revert x; intro _ _; rotate_left; subst x) | (clear_value x; revert x; intro _) | (subst x))
    | ((with_reducible refine Frame.foldl ?_ (fun _ _ _ => ?_)))
    | ((with_reducible apply Frame.step (Dev.modAxis_frame ..)); case hw => decide +kernel)
    | ((with_reducible apply Frame.step (Dev.putLims_frame ..)); case hw => decide +kernel)
    | ((with_reducible apply Frame.step (Dev.raise_frame ..)); case hw => decide +kernel)
    | ((with_reducible apply Frame.step (Dev.runTo_frame ..)); case hw => decide +kernel)
    | split

theorem Dev.showAxis_frame (d : Dev) (a : Nat) :
    Frame 0x18000000000000000000000000000000000000000000000000000000000000000000000000000000000000000000000000000000000000000000000000100000000 d (Dev.showAxis d a) := by
  unfold Dev.showAxis
  repeat' first
    | (with_reducible assumption)
    | (with_reducible exact Frame.refl)
    | (extract_lets +onlyGivenNames x; first | (refine Frame.cut x ?_ (fun _ => ?_); rotate_left; clear_value x; revert x; intro _ _; rotate_left; subst x) | (clear_value x; revert x; intro _) | (subst x))
    | ((with_reducible refine Frame.foldl ?_ (fun _ _ _ => ?_)))
    | ((with_reducible apply Frame.step (Dev.puts_frame ..)); case hw => decide +kernel)
    | ((with_reducible apply Frame.step (Dev.modAxis_frame ..)); case hw => decide +kernel)
    | split

theorem Dev.followTick_frame (d : Dev) (a : Nat) :
    Frame 0x800000000000000000000000000000000000000000000000000000000000000000000000000000000000000000000000000000000000000000000000000000000200000000 d (Dev.followTick d a) := by
  unfold Dev.followTick
  repeat' first
    | (with_reducible assumption)
    | (with_reducible exact Frame.refl)
    | (extract_lets +onlyGivenNames x; first | (clear_value x; revert x; intro _) | (subst x))
    | ((with_reducible refine Frame.foldl ?_ (fun _ _ _ => ?_)))
    | ((with_reducible apply Frame.step (Dev.modEnc_frame ..)); case hw => decide +kernel)
    | ((with_reducible apply Frame.step (Dev.puts_frame ..)); case hw => decide +kernel)
    | split

theorem Dev.tickAxis_frame (d : Dev) (a : Nat) :
    Frame 0x20000000000000000000000000000000000000000000000000000000000000108c0c00000c3800000f0000000000000000000000000000000000000000000000000000000000000000000000000000000000000008a0000000000000000000000000300020500 d (Dev.tickAxis d a) := by
  unfold Dev.tickAxis
  repeat' first
    | (with_reducible assumption)
    | (with_reducible exact Frame.refl)
    | (extract_lets +onlyGivenNames x; first | (refine Frame.cut x ?_ (fun _ => ?_); rotate_left; clear_value x; revert x; intro _ _; rotate_left; subst x) | (clear_value x; revert x; intro _) | (subst x))
    | ((with_reducible refine Frame.foldl ?_ (fun _ _ _ => ?_)))
    | ((with_reducible apply Frame.step (Dev.modAxis_frame ..)); case hw => decide +kernel)
    | ((with_reducible apply Frame.step (Dev.actImms_frame ..)); case hw => decide +kernel)
    | ((with_reducible apply Frame.step (Dev.showAxis_frame ..)); case hw => decide +kernel)
    | ((with_reducible apply Frame.step (Dev.newAxisLims_frame ..)); case hw => decide +kernel)
    | ((with_reducible apply Frame.step (Dev.put_frame ..)); case hw => decide +kernel)
    | ((with_reducible apply Frame.step (Dev.followTick_frame ..)); case hw => decide +kernel)
    | split

theorem Dev.standstill_frame (d : Dev) (a : Nat) :
    Frame 0x38000000000000000000000000000000000000000000000000000000000000000000000000000000000000000000000000000000000000000000000000100000000 d (Dev.standstill d a) := by
  unfold Dev.standstill
  repeat' first
    | (with_reducible assumption)
    | (with_reducible exact Frame.refl)
    | (extract_lets +onlyGivenNames x; first | (refine Frame.cut x ?_ (fun _ => ?_); rotate_left; clear_value x; revert x; intro _ _; rotate_left; subst x) | (clear_value x; revert x; intro _) | (subst x))
    | ((with_reducible refine Frame.foldl ?_ (fun _ _ _ => ?_)))
    | ((with_reducible apply Frame.step (Dev.modAxis_frame ..)); case hw => decide +kernel)
    | ((with_reducible apply Frame.step (Dev.put_frame ..)); case hw => decide +kernel)
    | ((with_reducible apply Frame.step (Dev.puts_frame ..)); case hw => decide +kernel)

theorem Dev.homed_frame (d : Dev) (a : Nat) :
    Frame 0x10000000000048000000000000000000000000000000000000000000000000000000000000000000000000000000000000000000000000000000000000000000000000300000000 d (Dev.homed d a) := by
  unfold Dev.homed
  repeat' first
    | (with_reducible assumption)
    | (with_reducible exact Frame.refl)
    | (extract_lets +onlyGivenNames x; first | (refine Frame.cut x ?_ (fun _ => ?_); rotate_left; clear_value x; revert x; intro _ _; rotate_left; subst x) | (clear_value x; revert x; intro _) | (subst x))
    | ((with_reducible refine Frame.foldl ?_ (fun _ _ _ => ?_)))
    | ((with_reducible apply Frame.step (Dev.modAxis_frame ..)); case hw => decide +kernel)
    | ((with_reducible apply Frame.step (Dev.takeRef_frame ..)); case hw => decide +kernel)
    | ((with_reducible apply Frame.step (Dev.raise_frame ..)); case hw => decide +kernel)
    | ((with_reducible apply Frame.step (Dev.puts_frame ..)); case hw => decide +kernel)

theorem Dev.moveDone_frame (d : Dev) (a : Nat) :
    Frame 0x20000000000000000000000000000000000000000000000000000000000000100000000000780000000000000000000000000000000000000000000000000000000000000000000000000000000000000000000008a0000000000000000000000000300020500 d (Dev.moveDone d a) := by
  unfold Dev.moveDone
  repeat' first
    | (with_reducible assumption)
    | (with_reducible exact Frame.refl)
    | (extract_lets +onlyGivenNames x; first | (refine Frame.cut x ?_ (fun _ => ?_); rotate_left; clear_value x; revert x; intro _ _; rotate_left; subst x) | (clear_value x; revert x; intro _))
    | ((with_reducible refine Frame.foldl ?_ (fun _ _ _ => ?_)))
    | ((with_reducible apply Frame.step (Dev.standstill_frame ..)); case hw => rfl)
    | ((with_reducible apply Frame.step (Dev.complete_frame ..)); case hw => rfl)
    | ((with_reducible apply Frame.step (Dev.homed_frame ..)); case hw => rfl)
    | split

theorem Dev.endMoves_frame (d : Dev) (a : Nat) (code : Nat) (imm : Nat) :
    Frame 0x20000000000000000000000000000000000000000000000000000000000000000000000000000000000000000000000000000000000000000000000000000000000000000000000000000000000000000000000008a0000000000000000000000000100020500 d (Dev.endMoves d a code imm) := by
  unfold Dev.endMoves
  repeat' first
    | (with_reducible assumption)
    | (with_reducible exact Frame.refl)
    | (extract_lets +onlyGivenNames x; first | (refine Frame.cut x ?_ (fun _ => ?_); rotate_left; clear_value x; revert x; intro _ _; rotate_left; subst x) | (clear_value x; revert x; intro _) | (subst x))
    | ((with_reducible refine Frame.foldl ?_ (fun _ _ _ => ?_)))
    | ((with_reducible apply Frame.step (Dev.modAxis_frame ..)); case hw => rfl)
    | ((with_reducible apply Frame.step (Dev.complete_frame ..)); case hw => rfl)

theorem Dev.stallEffects_frame (d : Dev) (a : Nat) (code : Nat) :
    Frame 0x20000000000000000000000000000000000000000000000000000000000000100000000000780000000000000000000000000000000000000000000000000000000000000000000000000000000000000000000008a0000000000000000000000000100020500 d (Dev.stallEffects d a code) := by
  unfold Dev.stallEffects
  repeat' first
    | (with_reducible assumption)
    | (with_reducible exact Frame.refl)
    | (extract_lets +onlyGivenNames x; first | (refine Frame.cut x ?_ (fun _ => ?_); rotate_left; clear_value x; revert x; intro _ _; rotate_left; subst x) | (clear_value x; revert x; intro _) | (subst x))
    | ((with_reducible refine Frame.foldl ?_ (fun _ _ _ => ?_)))
    | ((with_reducible apply Frame.step (Dev.unhome_frame ..)); case hw => decide +kernel)
    | ((with_reducible apply Frame.step (Dev.axisFreeze_frame ..)); case hw => decide +kernel)
    | ((with_reducible apply Frame.step (Dev.put_frame ..)); case hw => decide +kernel)
    | ((with_reducible apply Frame.step (Dev.modAxis_frame ..)); case hw => decide +kernel)
    | ((with_reducible apply Frame.step (Dev.complete_frame ..)); case hw => decide +kernel)

theorem Dev.axisRecord_frame (d : Dev) (a : Nat) (what : Int) (kind : Nat) :
    Frame 0x608000000000000000000000000000000000000000000000000000000000000000000000000000000000000000000000000000000000000000000000000000000000030c20140000000000020000000000000000000000000006009000 d (Dev.axisRecord d a what kind) := by
  unfold Dev.axisRecord
  repeat' first
    | (with_reducible assumption)
    | (with_reducible exact Frame.refl)
    | ((with_reducible refine Frame.foldl ?_ (fun _ _ _ => ?_)))
    | ((with_reducible apply Frame.step (Dev.record_frame ..)); case hw => rfl)

theorem Dev.emergencyStop_frame (d : Dev) (code : Nat) :
    Frame 0x2000000000000000000000000000000000000000000000000000000000000000000000000020000000000000000000000000000000000000000000000000000000000000000000000000000030c001400000000008a0000000000000000000000000106021500 d (Dev.emergencyStop d code) := by
  unfold Dev.emergencyStop
  repeat' first
    | (with_reducible assumption)
    | (with_reducible exact Frame.refl)
    | (extract_lets +onlyGivenNames x; first | (clear_value x; revert x; intro _) | (subst x))
    | ((with_reducible refine Frame.foldl ?_ (fun _ _ _ => ?_)))
    | ((with_reducible apply Frame.step (Dev.occur_frame ..)); case hw => rfl)
    | ((with_reducible apply Frame.step (Dev.endMoves_frame ..)); case hw => rfl)
    | ((with_reducible apply Frame.step (Dev.emergencyRamp_frame ..)); case hw => rfl)
    | split

theorem Dev.freezeAxis_frame (d : Dev) (a : Nat) :
    Frame 0x800000000020000000000000000000000000000000000000000000000000000000000000000000000000000000000000000000000000000000000000000000000000300000000 d (Dev.freezeAxis d a) := by
  unfold Dev.freezeAxis
  repeat' first
    | (with_reducible assumption)
    | (with_reducible exact Frame.refl)
    | (extract_lets +onlyGivenNames x; first | (refine Frame.cut x ?_ (fun _ => ?_); rotate_left; clear_value x; revert x; intro _ _; rotate_left; subst x) | (clear_value x; revert x; intro _) | (subst x))
    | ((with_reducible refine Frame.foldl ?_ (fun _ _ _ => ?_)))
    | ((with_reducible apply Frame.step (Dev.lower_frame ..)); case hw => decide +kernel)
    | ((with_reducible apply Frame.step (Dev.modEnc_frame ..)); case hw => decide +kernel)
    | ((with_reducible apply Frame.step (Dev.put_frame ..)); case hw => decide +kernel)
    | ((with_reducible apply Frame.step (Dev.runStop_frame ..)); case hw => decide +kernel)
    | ((with_reducible apply Frame.step (Dev.modAxis_frame ..)); case hw => decide +kernel)
    | split

theorem Dev.axisEnable_frame (d : Dev) (a : Nat) :
    Frame 0x20000000020000000000000000000000000000000000000000000000000000000000000000000000000000000000000000000000000000000000000000100000000 d (Dev.axisEnable d a) := by
  unfold Dev.axisEnable
  repeat' first
    | (with_reducible assumption)
    | (with_reducible exact Frame.refl)
    | (extract_lets +onlyGivenNames x; first | (refine Frame.cut x ?_ (fun _ => ?_); rotate_left; clear_value x; revert x; intro _ _; rotate_left; subst x) | (subst x))
    | ((with_reducible refine Frame.foldl ?_ (fun _ _ _ => ?_)))
    | ((with_reducible apply Frame.step (Dev.put_frame ..)); case hw => decide +kernel)
    | ((with_reducible apply Frame.step (Dev.raise_frame ..)); case hw => decide +kernel)
    | ((with_reducible apply Frame.step (Dev.modAxis_frame ..)); case hw => decide +kernel)
    | split

theorem Dev.axisDisable_frame (d : Dev) (a : Nat) :
    Frame 0x20000000000000000000000000000000000000000000000000000000000000100000000080780000000200000000000000000000000000000000000000000000000000000000000000000000000000000000000008a0000000000000000000000000100020500 d (Dev.axisDisable d a) := by
  unfold Dev.axisDisable
  repeat' first
    | (with_reducible assumption)
    | (with_reducible exact Frame.refl)
    | ((with_reducible refine Frame.foldl ?_ (fun _ _ _ => ?_)))
    | ((with_reducible apply Frame.step (Dev.brake_frame ..)); case hw => decide +kernel)
    | ((with_reducible apply Frame.step (Dev.endMoves_frame ..)); case hw => decide +kernel)
    | ((with_reducible apply Frame.step (Dev.lower_frame ..)); case hw => decide +kernel)

theorem Dev.coilPeriod_frame (d : Dev) (a : Nat) (ia : Int) (ib : Int) :
    Frame 0xc000000000000000000000000000000000000000000000000000000000000000000000000000000000000000000000000000000000000000000000000000100000008 d (Dev.coilPeriod d a ia ib) := by
  unfold Dev.coilPeriod
  repeat' first
    | (with_reducible assumption)
    | (with_reducible exact Frame.refl)
    | (extract_lets +onlyGivenNames x; first | (refine Frame.cut x ?_ (fun _ => ?_); rotate_left; clear_value x; revert x; intro _ _; rotate_left; subst x) | (clear_value x; revert x; intro _))
    | ((with_reducible refine Frame.foldl ?_ (fun _ _ _ => ?_)))
    | ((with_reducible apply Frame.step (Dev.freeNext_frame ..)); case hw => decide +kernel)
    | ((with_reducible apply Frame.step (Dev.puts_frame ..)); case hw => decide +kernel)
    | ((with_reducible apply Frame.step (Dev.put_frame ..)); case hw => decide +kernel)
    | ((with_reducible apply Frame.step (Dev.modAxis_frame ..)); case hw => decide +kernel)
    | split

/-! ### EncCmds.lean -/

theorem Dev.showCompare_frame (d : Dev) (e : Nat) (c : Cmp) :
    Frame 0x400000000000000000000000000000000000000000000000000000000000000000000000000000000000000000000000000000000000000000000000000000000200000000 d (Dev.showCompare d e c) := by
  unfold Dev.showCompare
  repeat' first
    | (with_reducible assumption)
    | (with_reducible exact Frame.refl)
    | ((with_reducible refine Frame.foldl ?_ (fun _ _ _ => ?_)))
    | ((with_reducible apply Frame.step (Dev.puts_frame ..)); case hw => decide +kernel)
    | ((with_reducible apply Frame.step (Dev.modEnc_frame ..)); case hw => decide +kernel)

theorem Dev.compareAt_frame (d : Dev) (e : Nat) (c : Cmp) :
    Frame 0x2000000000000000000000000000000000000000000000000000000000000000843400000000000000000000000000000000000000000000000000000000000000000000000000000000000030c001400000000008a0000000000000000000000000206021500 d (Dev.compareAt d e c) := by
  unfold Dev.compareAt
  repeat' first
    | (with_reducible assumption)
    | (with_reducible exact Frame.refl)
    | (extract_lets +onlyGivenNames x; first | (refine Frame.cut x ?_ (fun _ => ?_); rotate_left; clear_value x; revert x; intro _ _; rotate_left; subst x) | (clear_value x; revert x; intro _) | (subst x))
    | ((with_reducible refine Frame.foldl ?_ (fun _ _ _ => ?_)))
    | ((with_reducible apply Frame.step (Dev.modEnc_frame ..)); case hw => decide +kernel)
    | ((with_reducible apply Frame.step (Dev.put_frame ..)); case hw => decide +kernel)
    | ((with_reducible apply Frame.step (Dev.occur_frame ..)); case hw => decide +kernel)
    | ((with_reducible apply Frame.step (Dev.bump_frame ..)); case hw => decide +kernel)
    | ((with_reducible apply Frame.step (Dev.endCompare_frame ..)); case hw => decide +kernel)
    | ((with_reducible apply Frame.step (Dev.showCompare_frame ..)); case hw => decide +kernel)
    | split

theorem Dev.compareLate_frame (d : Dev) (e : Nat) (c : Cmp) :
    Frame 0x20000000000000000000000000000000000000000000000000000000000000018804000000000000000000000000000000000000000000000000000000000000000000000000000000000000000000000000000008a0000000000000000000000000200020500 d (Dev.compareLate d e c) := by
  unfold Dev.compareLate
  repeat' first
    | (with_reducible assumption)
    | (with_reducible exact Frame.refl)
    | (extract_lets +onlyGivenNames x; first | (refine Frame.cut x ?_ (fun _ => ?_); rotate_left; clear_value x; revert x; intro _ _; rotate_left; subst x) | (clear_value x; revert x; intro _) | (subst x))
    | ((with_reducible refine Frame.foldl ?_ (fun _ _ _ => ?_)))
    | ((with_reducible apply Frame.step (Dev.raise_frame ..)); case hw => decide +kernel)
    | ((with_reducible apply Frame.step (Dev.endCompare_frame ..)); case hw => decide +kernel)
    | ((with_reducible apply Frame.step (Dev.showCompare_frame ..)); case hw => decide +kernel)
    | ((with_reducible apply Frame.step (Dev.bump_frame ..)); case hw => decide +kernel)
    | split

theorem Dev.compareTest_frame (d : Dev) (e : Nat) (up : Bool) :
    Frame 0x20000000000000000000000000000000000000000000000000000000000000018c3400000000000000000000000000000000000000000000000000000000000000000000000000000000000030c001400000000008a0000000000000000000000000206021500 d (Dev.compareTest d e up) := by
  unfold Dev.compareTest
  repeat' first
    | (with_reducible assumption)
    | (with_reducible exact Frame.refl)
    | (extract_lets +onlyGivenNames x; clear_value x; revert x; intro _)
    | ((with_reducible refine Frame.foldl ?_ (fun _ _ _ => ?_)))
    | ((with_reducible apply Frame.step (Dev.compareAt_frame ..)); case hw => rfl)
    | ((with_reducible apply Frame.step (Dev.compareLate_frame ..)); case hw => rfl)
    | split

theorem Dev.quadError_frame (d : Dev) (e : Nat) :
    Frame 0x608000000000000000000000000000000000000000004200000000000000000000000000000000000000000000000000000000000000000000000000000000000000030c20140000000000020000000000000000000000000206009000 d (Dev.quadError d e) := by
  unfold Dev.quadError
  repeat' first
    | (with_reducible assumption)
    | (with_reducible exact Frame.refl)
    | (extract_lets +onlyGivenNames x; first | (refine Frame.cut x ?_ (fun _ => ?_); rotate_left; clear_value x; revert x; intro _ _; rotate_left; subst x) | (subst x))
    | ((with_reducible refine Frame.foldl ?_ (fun _ _ _ => ?_)))
    | ((with_reducible apply Frame.step (Dev.bump_frame ..)); case hw => decide +kernel)
    | ((with_reducible apply Frame.step (Dev.raise_frame ..)); case hw => decide +kernel)
    | ((with_reducible apply Frame.step (Dev.modEnc_frame ..)); case hw => decide +kernel)
    | ((with_reducible apply Frame.step (Dev.record_frame ..)); case hw => decide +kernel)
    | split

theorem Dev.encEdge_frame (d : Dev) (e : Nat) (a : Bool) (b : Bool) :
    Frame 0x2000000000000000000608000000000000000000000000000000000000000025ac3500000000000000000000000000000000000000000000000000000000000000000000000000000000000030c201400000000008a0000000000000000000000000206029500 d (Dev.encEdge d e a b) := by
  unfold Dev.encEdge
  repeat' first
    | (with_reducible assumption)
    | (with_reducible exact Frame.refl)
    | (extract_lets +onlyGivenNames x; first | (refine Frame.cut x ?_ (fun _ => ?_); rotate_left; clear_value x; revert x; intro _ _; rotate_left; subst x) | (clear_value x; revert x; intro _) | (subst x))
    | ((with_reducible refine Frame.foldl ?_ (fun _ _ _ => ?_)))
    | ((with_reducible apply Frame.step (Dev.lower_frame ..)); case hw => decide +kernel)
    | ((with_reducible apply Frame.step (Dev.modEnc_frame ..)); case hw => decide +kernel)
    | ((with_reducible apply Frame.step (Dev.quadError_frame ..)); case hw => decide +kernel)
    | ((with_reducible apply Frame.step (Dev.compareTest_frame ..)); case hw => decide +kernel)
    | ((with_reducible apply Frame.step (Dev.puts_frame ..)); case hw => decide +kernel)
    | split

theorem Dev.addPend_frame (d : Dev) (e : Nat) (x : Int) :
    Frame 0x10000000000000000000000000000000000000000000000000000000000000000000000000000000000000000000000000000000000000000000000000000000000000000000 d (Dev.addPend d e x) := by
  unfold Dev.addPend
  repeat' first
    | (with_reducible assumption)
    | (with_reducible exact Frame.refl)
    | ((with_reducible refine Frame.foldl ?_ (fun _ _ _ => ?_)))
    | ((with_reducible apply Frame.step (Dev.puts_frame ..)); case hw => decide +kernel)

theorem Dev.indexCheck_frame (d : Dev) (e : Nat) (latch : Int) (ref : Int) :
    Frame 0x60800000000000000000000000000000000000000000241c000000000000000000000000000000000000000000000000000000000000000000000000000000000000030c20140000000000020000000000000000000000000006009000 d (Dev.indexCheck d e latch ref) := by
  unfold Dev.indexCheck
  repeat' first
    | (with_reducible assumption)
    | (with_reducible exact Frame.refl)
    | (extract_lets +onlyGivenNames x; first | (refine Frame.cut x ?_ (fun _ => ?_); rotate_left; clear_value x; revert x; intro _ _; rotate_left; subst x) | (clear_value x; revert x; intro _) | (subst x))
    | ((with_reducible refine Frame.foldl ?_ (fun _ _ _ => ?_)))
    | ((with_reducible apply Frame.step (Dev.bump_frame ..)); case hw => decide +kernel)
    | ((with_reducible apply Frame.step (Dev.addPend_frame ..)); case hw => decide +kernel)
    | ((with_reducible apply Frame.step (Dev.raise_frame ..)); case hw => decide +kernel)
    | ((with_reducible apply Frame.step (Dev.occur_frame ..)); case hw => decide +kernel)
    | ((with_reducible apply Frame.step (Dev.record_frame ..)); case hw => decide +kernel)
    | ((with_reducible apply Frame.step (Dev.put_frame ..)); case hw => decide +kernel)
    | split

theorem Dev.applyPend_frame (d : Dev) (e : Nat) :
    Frame 0x608000000000000000000000000000000000000000000030100000000000000000000000000000000000000000000000000000000000000000000000000000000000030c20140000000000020000000000000000000000000206009000 d (Dev.applyPend d e) := by
  unfold Dev.applyPend
  repeat' first
    | (with_reducible assumption)
    | (with_reducible exact Frame.refl)
    | (extract_lets +onlyGivenNames x; first | (refine Frame.cut x ?_ (fun _ => ?_); rotate_left; clear_value x; revert x; intro _ _; rotate_left; subst x) | (clear_value x; revert x; intro _) | (subst x))
    | ((with_reducible refine Frame.foldl ?_ (fun _ _ _ => ?_)))
    | ((with_reducible apply Frame.step (Dev.put_frame ..)); case hw => decide +kernel)
    | ((with_reducible apply Frame.step (Dev.puts_frame ..)); case hw => decide +kernel)
    | ((with_reducible apply Frame.step (Dev.modEnc_frame ..)); case hw => decide +kernel)
    | ((with_reducible apply Frame.step (Dev.record_frame ..)); case hw => decide +kernel)
    | split

theorem Dev.encEnable_frame (d : Dev) (e : Nat) :
    Frame 0x10000000000000000000000000000000000000000000000000000000000000000000000000000000000000000000000000000000000000000000000000000200000000 d (Dev.encEnable d e) := by
  unfold Dev.encEnable
  repeat' first
    | (with_reducible assumption)
    | (with_reducible exact Frame.refl)
    | ((with_reducible refine Frame.foldl ?_ (fun _ _ _ => ?_)))
    | ((with_reducible apply Frame.step (Dev.modEnc_frame ..)); case hw => decide +kernel)
    | ((with_reducible apply Frame.step (Dev.raise_frame ..)); case hw => decide +kernel)
    | split

theorem Dev.encDisable_frame (d : Dev) (e : Nat) :
    Frame 0x20000000000000000000000000000000000000000000000000000000000000008100000100000000000000000000000000000000000000000000000000000000000000000000000000000000000000000000000008a0000000000000000000000000300020500 d (Dev.encDisable d e) := by
  unfold Dev.encDisable
  repeat' first
    | (with_reducible assumption)
    | (with_reducible exact Frame.refl)
    | (extract_lets +onlyGivenNames x; first | (refine Frame.cut x ?_ (fun _ => ?_); rotate_left; clear_value x; revert x; intro _ _; rotate_left; subst x) | (clear_value x; revert x; intro _) | (subst x))
    | ((with_reducible refine Frame.foldl ?_ (fun _ _ _ => ?_)))
    | ((with_reducible apply Frame.step (Dev.put_frame ..)); case hw => decide +kernel)
    | ((with_reducible apply Frame.step (Dev.endCompare_frame ..)); case hw => decide +kernel)
    | ((with_reducible apply Frame.step (Dev.lower_frame ..)); case hw => decide +kernel)
    | ((with_reducible apply Frame.step (Dev.modAxis_frame ..)); case hw => decide +kernel)
    | ((with_reducible apply Frame.step (Dev.complete_frame ..)); case hw => decide +kernel)
    | ((with_reducible apply Frame.step (Dev.modEnc_frame ..)); case hw => decide +kernel)

/-! ### TimeCmds.lean -/

theorem Dev.setPulse_frame (d : Dev) (k : Nat) (x : Pulse) :
    Frame 0x400000000 d (Dev.setPulse d k x) := by
  unfold Dev.setPulse
  repeat' first
    | (with_reducible assumption)
    | (with_reducible exact Frame.refl)
    | ((with_reducible refine Frame.foldl ?_ (fun _ _ _ => ?_)))
    | split
    | ((with_reducible refine Frame.pulses_of ?hw ?hx ?_); (case hw => (first | rfl | (simp))); (case hx => (intro hc; first | exact Tab.wf_set _ _ _ _ hc.pulses | exact Tab.wf_filter _ _ _ hc.pulses | exact Tab.wf_nil _)))

theorem Dev.modPulse_frame (d : Dev) (k : Nat) (g : Pulse → Pulse) :
    Frame 0x400000000 d (Dev.modPulse d k g) := by
  unfold Dev.modPulse
  repeat' first
    | (with_reducible assumption)
    | (with_reducible exact Frame.refl)
    | ((with_reducible refine Frame.foldl ?_ (fun _ _ _ => ?_)))
    | ((with_reducible apply Frame.step (Dev.setPulse_frame ..)); case hw => rfl)

theorem Dev.setCapt_frame (d : Dev) (i : Nat) (x : Capt) :
    Frame 0x800000000 d (Dev.setCapt d i x) := by
  unfold Dev.setCapt
  repeat' first
    | (with_reducible assumption)
    | (with_reducible exact Frame.refl)
    | ((with_reducible refine Frame.foldl ?_ (fun _ _ _ => ?_)))
    | split
    | ((with_reducible refine Frame.capts_of ?hw ?hx ?_); (case hw => (first | rfl | (simp))); (case hx => (intro hc; first | exact Tab.wf_set _ _ _ _ hc.capts | exact Tab.wf_filter _ _ _ hc.capts | exact Tab.wf_nil _)))

theorem Dev.modCapt_frame (d : Dev) (i : Nat) (g : Capt → Capt) :
    Frame 0x800000000 d (Dev.modCapt d i g) := by
  unfold Dev.modCapt
  repeat' first
    | (with_reducible assumption)
    | (with_reducible exact Frame.refl)
    | ((with_reducible refine Frame.foldl ?_ (fun _ _ _ => ?_)))
    | ((with_reducible apply Frame.step (Dev.setCapt_frame ..)); case hw => rfl)

theorem Dev.modTime_frame (d : Dev) (g : TimeSvc → TimeSvc) :
    Frame 0x1000000000 d (Dev.modTime d g) := by
  unfold Dev.modTime
  repeat' first
    | (with_reducible assumption)
    | (with_reducible exact Frame.refl)
    | ((with_reducible refine Frame.foldl ?_ (fun _ _ _ => ?_)))
    | split
    | ((with_reducible refine Frame.time_of ?hw ?_); case hw => rfl)

theorem Dev.modPtp_frame (d : Dev) (p : Nat) (g : PtpPort → PtpPort) :
    Frame 0x1000000000 d (Dev.modPtp d p g) := by
  unfold Dev.modPtp
  repeat' first
    | (with_reducible assumption)
    | (with_reducible exact Frame.refl)
    | ((with_reducible refine Frame.foldl ?_ (fun _ _ _ => ?_)))
    | ((with_reducible apply Frame.step (Dev.modTime_frame ..)); case hw => rfl)

theorem Dev.firePulse_frame (d : Dev) (k : Nat) :
    Frame 0x30c00140000000000020000000000000000000000000406001000 d (Dev.firePulse d k) := by
  unfold Dev.firePulse
  repeat' first
    | (with_reducible assumption)
    | (with_reducible exact Frame.refl)
    | ((with_reducible refine Frame.foldl ?_ (fun _ _ _ => ?_)))
    | ((with_reducible apply Frame.step (Dev.occur_frame ..)); case hw => rfl)
    | ((with_reducible apply Frame.step (Dev.modPulse_frame ..)); case hw => rfl)

theorem Dev.supersedePulse_frame (d : Dev) (k : Nat) :
    Frame 0x20000000000000000000000000000000000000000000000000000000000000000000000000000000000000000000000000000000000000000000000000000000000000000000000000000000000000000000000008a0000000000000000000000000400020500 d (Dev.supersedePulse d k) := by
  unfold Dev.supersedePulse
  repeat' first
    | (with_reducible assumption)
    | (with_reducible exact Frame.refl)
    | ((with_reducible refine Frame.foldl ?_ (fun _ _ _ => ?_)))
    | ((with_reducible apply Frame.step (Dev.complete_frame ..)); case hw => rfl)
    | ((with_reducible apply Frame.step (Dev.modPulse_frame ..)); case hw => rfl)
    | split

theorem Dev.skipPulse_frame (d : Dev) (k : Nat) (t : Int) :
    Frame 0x80000000000000000000000000000000000000000000000000000000000000000000000000000000000000000000000000000000000000000000000000000000000000000000000000000000000400000000 d (Dev.skipPulse d k t) := by
  unfold Dev.skipPulse
  repeat' first
    | (with_reducible assumption)
    | (with_reducible exact Frame.refl)
    | (extract_lets +onlyGivenNames x; first | (clear_value x; revert x; intro _) | (subst x))
    | ((with_reducible refine Frame.foldl ?_ (fun _ _ _ => ?_)))
    | ((with_reducible apply Frame.step (Dev.bump_frame ..)); case hw => decide +kernel)
    | ((with_reducible apply Frame.step (Dev.modPulse_frame ..)); case hw => decide +kernel)
    | split

theorem Dev.moveTime_frame (d : Dev) (new : Nat) :
    Frame 0xc0000000000000000000000000000000000000000000000000000000000000000000000000000000000000000000000000000000000000000000000000000000000000000000000000000000000400000001 d (Dev.moveTime d new) := by
  unfold Dev.moveTime
  repeat' first
    | (with_reducible assumption)
    | (with_reducible exact Frame.refl)
    | (extract_lets +onlyGivenNames x; first | (clear_value x; revert x; intro _) | (subst x))
    | ((with_reducible refine Frame.foldl ?_ (fun _ _ _ => ?_)))
    | ((with_reducible apply Frame.step (Dev.raise_frame ..)); case hw => decide +kernel)
    | ((with_reducible apply Frame.step (Dev.skipPulse_frame ..)); case hw => decide +kernel)
    | split
    | ((with_reducible refine Frame.now_of ?hw ?_); case hw => rfl)

theorem Dev.timeDowel_frame (d : Dev) :
    Frame 0x20000000000000000000000000000000000000000c00080000000000000000000000000000000000000000000000000000000000000000000000000000000000000000000000000000000000000000000000000008a0000000000000000000000001400020501 d (Dev.timeDowel d) := by
  unfold Dev.timeDowel
  repeat' first
    | (with_reducible assumption)
    | (with_reducible exact Frame.refl)
    | (extract_lets +onlyGivenNames x; first | (refine Frame.cut x ?_ (fun _ => ?_); rotate_left; clear_value x; revert x; intro _ _; rotate_left; subst x) | (subst x))
    | ((with_reducible refine Frame.foldl ?_ (fun _ _ _ => ?_)))
    | ((with_reducible apply Frame.step (Dev.puts_frame ..)); case hw => decide +kernel)
    | ((with_reducible apply Frame.step (Dev.modTime_frame ..)); case hw => decide +kernel)
    | ((with_reducible apply Frame.step (Dev.moveTime_frame ..)); case hw => decide +kernel)
    | ((with_reducible apply Frame.step (Dev.complete_frame ..)); case hw => decide +kernel)
    | split

theorem Dev.timeIdle_frame (d : Dev) :
    Frame 0x200000000000000000000000000000000000000000000000000000000000000000000000000000000000000000000000000000000000000000000000000000000000000000000000000001000000000 d (Dev.timeIdle d) := by
  unfold Dev.timeIdle
  repeat' first
    | (with_reducible assumption)
    | (with_reducible exact Frame.refl)
    | (extract_lets +onlyGivenNames x; first | (refine Frame.cut x ?_ (fun _ => ?_); rotate_left; clear_value x; revert x; intro _ _; rotate_left; subst x) | (clear_value x; revert x; intro _))
    | ((with_reducible refine Frame.foldl ?_ (fun _ _ _ => ?_)))
    | ((with_reducible apply Frame.step (Dev.lower_frame ..)); case hw => decide +kernel)
    | ((with_reducible apply Frame.step (Dev.modTime_frame ..)); case hw => decide +kernel)
    | split

theorem Dev.freezeTime_frame (d : Dev) (f : Nat) :
    Frame 0x30000000000000000000000000000000000000000000000000000000000000000000000000000000000000000000000000000000000000000000000000000000000000000000000000000000000c00000000 d (Dev.freezeTime d f) := by
  unfold Dev.freezeTime
  repeat' first
    | (with_reducible assumption)
    | (with_reducible exact Frame.refl)
    | (extract_lets +onlyGivenNames x; first | (refine Frame.cut x ?_ (fun _ => ?_); rotate_left; clear_value x; revert x; intro _ _; rotate_left; subst x) | (subst x))
    | ((with_reducible refine Frame.foldl ?_ (fun _ _ _ => ?_)))
    | ((with_reducible apply Frame.step (Dev.lower_frame ..)); case hw => decide +kernel)
    | ((with_reducible apply Frame.step (Dev.put_frame ..)); case hw => decide +kernel)
    | ((with_reducible apply Frame.step (Dev.setPulse_frame ..)); case hw => decide +kernel)
    | ((with_reducible apply Frame.step (Dev.modCapt_frame ..)); case hw => decide +kernel)
    | split

theorem Dev.ptpSend_frame (d : Dev) (p : Nat) (m : List Byte) :
    Frame 0x1000000000 d (Dev.ptpSend d p m) := by
  unfold Dev.ptpSend
  repeat' first
    | (with_reducible assumption)
    | (with_reducible exact Frame.refl)
    | ((with_reducible refine Frame.foldl ?_ (fun _ _ _ => ?_)))
    | ((with_reducible apply Frame.step (Dev.modPtp_frame ..)); case hw => rfl)

theorem Frame.ptpTake {w : Nat} {dev0 d : Dev} {p typ len : Nat} {m : List Byte} {f : Dev → Dev} (hw : Within 0x800000000000000000000000000000000000000000000000000000000000000000000000000000000000000000000000000000000000000000000000000000000000000000000000000000000020000000 w)
    (hf : ∀ x, Frame w dev0 x → Frame w dev0 (f x)) (h : Frame w dev0 d) : Frame w dev0 (Dev.ptpTake d p typ len m f) := by
  unfold Dev.ptpTake
  refine Frame.fabricIn (Within.trans (by decide +kernel) hw) (fun y hy => ?_) h
  have h1 : Frame w dev0 (y.hearPort p) := hy.step' (Dev.hearPort_frame ..) (Within.trans (by decide +kernel) hw)
  dsimp only
  split
  · exact h1
  · split
    · exact hf _ h1
    · exact h1.step' (Dev.bump_frame ..) (Within.trans (by decide +kernel) hw)

theorem Dev.showPorts_frame (d : Dev) (slave : Option (Nat × Master)) :
    Frame 0x400000000000000000000000000000000000000000000000000000000000000000000000000000000000000000000000000000000000000000000000000000000000000000000000000000000000000000 d (Dev.showPorts d slave) := by
  unfold Dev.showPorts
  repeat' first
    | (with_reducible assumption)
    | (with_reducible exact Frame.refl)
    | ((with_reducible refine Frame.foldl ?_ (fun _ _ _ => ?_)))
    | ((with_reducible apply Frame.step (Dev.put_frame ..)); case hw => decide +kernel)

theorem Dev.setTimeState_frame (d : Dev) (st : Nat) :
    Frame 0x100000000000000000000000000000000000000000000000000000000000000000000000000000000000000000000000000000000030c00140000000000020000000000000000000000000006001000 d (Dev.setTimeState d st) := by
  unfold Dev.setTimeState
  repeat' first
    | (with_reducible assumption)
    | (with_reducible exact Frame.refl)
    | ((with_reducible refine Frame.foldl ?_ (fun _ _ _ => ?_)))
    | ((with_reducible apply Frame.step (Dev.occur_frame ..)); case hw => decide +kernel)
    | ((with_reducible apply Frame.step (Dev.put_frame ..)); case hw => decide +kernel)
    | split

theorem Dev.noMaster_frame (d : Dev) :
    Frame 0x400100000000000000000000000000000000000000000000000000000000000000000000000000000000000000000000000000000000030c00140000000000020000000000000000000000001006001000 d (Dev.noMaster d) := by
  unfold Dev.noMaster
  repeat' first
    | (with_reducible assumption)
    | (with_reducible exact Frame.refl)
    | (extract_lets +onlyGivenNames x; first | (refine Frame.cut x ?_ (fun _ => ?_); rotate_left; clear_value x; revert x; intro _ _; rotate_left; subst x) | (clear_value x; revert x; intro _))
    | ((with_reducible refine Frame.foldl ?_ (fun _ _ _ => ?_)))
    | ((with_reducible apply Frame.step (Dev.modTime_frame ..)); case hw => rfl)
    | ((with_reducible apply Frame.step (Dev.setTimeState_frame ..)); case hw => rfl)
    | ((with_reducible apply Frame.step (Dev.showPorts_frame ..)); case hw => rfl)
    | split

theorem Dev.selectMaster_frame (d : Dev) :
    Frame 0x403100000000000000000000000000000000000000000000000000000000000000000000000000000000000000000000000000000000030c00140000000000020000000000000000000000001006001000 d (Dev.selectMaster d) := by
  unfold Dev.selectMaster
  repeat' first
    | (with_reducible assumption)
    | (with_reducible exact Frame.refl)
    | (extract_lets +onlyGivenNames x; first | (refine Frame.cut x ?_ (fun _ => ?_); rotate_left; clear_value x; revert x; intro _ _; rotate_left; subst x) | (clear_value x; revert x; intro _) | (subst x))
    | ((with_reducible refine Frame.foldl ?_ (fun _ _ _ => ?_)))
    | ((with_reducible apply Frame.step (Dev.noMaster_frame ..)); case hw => decide +kernel)
    | ((with_reducible apply Frame.step (Dev.modTime_frame ..)); case hw => decide +kernel)
    | ((with_reducible apply Frame.step (Dev.setTimeState_frame ..)); case hw => decide +kernel)
    | ((with_reducible apply Frame.step (Dev.showPorts_frame ..)); case hw => decide +kernel)
    | ((with_reducible apply Frame.step (Dev.put_frame ..)); case hw => decide +kernel)
    | split

theorem Dev.hearAnnounce_frame (d : Dev) (p : Nat) (m : Master) :
    Frame 0x1000000000 d (Dev.hearAnnounce d p m) := by
  unfold Dev.hearAnnounce
  repeat' first
    | (with_reducible assumption)
    | (with_reducible exact Frame.refl)
    | (extract_lets +onlyGivenNames x; clear_value x; revert x; intro _)
    | ((with_reducible refine Frame.foldl ?_ (fun _ _ _ => ?_)))
    | ((with_reducible apply Frame.step (Dev.modPtp_frame ..)); case hw => rfl)
    | split

theorem Dev.servo_frame (d : Dev) (off : Int) :
    Frame 0x608000000000000000000000000300000000000000000000000000000000000000000000000000000000000000000000000000000000000000000000000000000000030c20140000000000020000000000000000000000001006009000 d (Dev.servo d off) := by
  unfold Dev.servo
  repeat' first
    | (with_reducible assumption)
    | (with_reducible exact Frame.refl)
    | (extract_lets +onlyGivenNames x; first | (refine Frame.cut x ?_ (fun _ => ?_); rotate_left; clear_value x; revert x; intro _ _; rotate_left; subst x) | (clear_value x; revert x; intro _) | (subst x))
    | ((with_reducible refine Frame.foldl ?_ (fun _ _ _ => ?_)))
    | ((with_reducible apply Frame.step (Dev.record_frame ..)); case hw => decide +kernel)
    | ((with_reducible apply Frame.step (Dev.raise_frame ..)); case hw => decide +kernel)
    | ((with_reducible apply Frame.step (Dev.lower_frame ..)); case hw => decide +kernel)
    | ((with_reducible apply Frame.step (Dev.modTime_frame ..)); case hw => decide +kernel)
    | ((with_reducible apply Frame.step (Dev.setTimeState_frame ..)); case hw => decide +kernel)
    | split

theorem Dev.relaySync_frame (d : Dev) (p : Nat) (msg : List Byte) (q : Nat) :
    Frame 0x1000000008 d (Dev.relaySync d p msg q) := by
  unfold Dev.relaySync
  repeat' first
    | (with_reducible assumption)
    | (with_reducible exact Frame.refl)
    | (extract_lets +onlyGivenNames x; first | (clear_value x; revert x; intro _) | (subst x))
    | ((with_reducible refine Frame.foldl ?_ (fun _ _ _ => ?_)))
    | ((with_reducible apply Frame.step (Dev.freeNext_frame ..)); case hw => rfl)
    | ((with_reducible apply Frame.step (Dev.ptpSend_frame ..)); case hw => rfl)

/-! ### CamCmds.lean -/

theorem Dev.modCapture_frame (d : Dev) (x : Nat) (g : Capture → Capture) :
    Frame 0x2000000000 d (Dev.modCapture d x g) := by
  unfold Dev.modCapture
  repeat' first
    | (with_reducible assumption)
    | (with_reducible exact Frame.refl)
    | ((with_reducible refine Frame.foldl ?_ (fun _ _ _ => ?_)))
    | ((with_reducible apply Frame.step (Dev.modCam_frame ..)); case hw => rfl)

theorem Dev.captureDone_frame (d : Dev) (x : Nat) :
    Frame 0x20000000000000000000000000000000000000000000000000002000000000000000000000000000000000000000000000000000000000000000000000000000000000000000000000000000000000000000000008a0000000000000000000000002000020500 d (Dev.captureDone d x) := by
  unfold Dev.captureDone
  repeat' first
    | (with_reducible assumption)
    | (with_reducible exact Frame.refl)
    | ((with_reducible refine Frame.foldl ?_ (fun _ _ _ => ?_)))
    | ((with_reducible apply Frame.step (Dev.complete_frame ..)); case hw => decide +kernel)
    | ((with_reducible apply Frame.step (Dev.lower_frame ..)); case hw => decide +kernel)
    | ((with_reducible apply Frame.step (Dev.modCam_frame ..)); case hw => decide +kernel)
    | split

theorem Dev.resultDone_frame (d : Dev) (x : Nat) (code : Option Nat) :
    Frame 0x20000000000000000000000000000000000000000000000000002000000000000000000000000000000000000000000000000000000000000000000000000000000000000000000000000000000000000000000008a0000000000000000000000002000020500 d (Dev.resultDone d x code) := by
  unfold Dev.resultDone
  repeat' first
    | (with_reducible assumption)
    | (with_reducible exact Frame.refl)
    | ((with_reducible refine Frame.foldl ?_ (fun _ _ _ => ?_)))
    | ((with_reducible apply Frame.step (Dev.captureDone_frame ..)); case hw => rfl)
    | ((with_reducible apply Frame.step (Dev.modCapture_frame ..)); case hw => rfl)

theorem Dev.stopCapture_frame (d : Dev) (x : Nat) (code : Nat) :
    Frame 0x20000000000000000000000000000000000000000000000000002000000000000000000000000000000000000000000000000000000000000000000000000000000000000000000000000000000000000000000008a0000000000000000000000002000020500 d (Dev.stopCapture d x code) := by
  unfold Dev.stopCapture
  repeat' first
    | (with_reducible assumption)
    | (with_reducible exact Frame.refl)
    | ((with_reducible refine Frame.foldl ?_ (fun _ _ _ => ?_)))
    | ((with_reducible apply Frame.step (Dev.captureDone_frame ..)); case hw => rfl)
    | ((with_reducible apply Frame.step (Dev.modCapture_frame ..)); case hw => rfl)

theorem Dev.loadTable_frame (d : Dev) (x : Nat) (id : Nat) :
    Frame 0x20000000000000000000000000000000000000000000000000000000000000000000000000000000000000000000000000000000000000000000000000000000000000000000000000000000000000000000000008a0000000000000000000000002000020500 d (Dev.loadTable d x id) := by
  unfold Dev.loadTable
  repeat' first
    | (with_reducible assumption)
    | (with_reducible exact Frame.refl)
    | (extract_lets +onlyGivenNames x; first | (refine Frame.cut x ?_ (fun _ => ?_); rotate_left; clear_value x; revert x; intro _ _; rotate_left; subst x) | (clear_value x; revert x; intro _))
    | ((with_reducible refine Frame.foldl ?_ (fun _ _ _ => ?_)))
    | ((with_reducible apply Frame.step (Dev.modCam_frame ..)); case hw => rfl)
    | ((with_reducible apply Frame.step (Dev.complete_frame ..)); case hw => rfl)
    | split

theorem Dev.loadTables_frame (d : Dev) (x : Nat) :
    Frame 0x20000000000000000000000000000000000000000000000000000000000000000000000000000000000000000000000000000000000000000000000000000000000000000000000000000000000000000000000008a0000000000000000000000002000020500 d (Dev.loadTables d x) := by
  unfold Dev.loadTables
  repeat' first
    | (with_reducible assumption)
    | (with_reducible exact Frame.refl)
    | (extract_lets +onlyGivenNames x; first | (clear_value x; revert x; intro _) | (subst x))
    | ((with_reducible refine Frame.foldl ?_ (fun _ _ _ => ?_)))
    | ((with_reducible apply Frame.step (Dev.loadTable_frame ..)); case hw => rfl)
    | ((with_reducible apply Frame.step (Dev.modCam_frame ..)); case hw => rfl)

theorem Dev.showQueue_frame (d : Dev) :
    Frame 0x40000000000000000000000000000000000000000000000000000000000000000000000000000000000000000000000000000000000000000000000000000000000000000000000000 d (Dev.showQueue d) := by
  unfold Dev.showQueue
  repeat' first
    | (with_reducible assumption)
    | (with_reducible exact Frame.refl)
    | ((with_reducible refine Frame.foldl ?_ (fun _ _ _ => ?_)))
    | ((with_reducible apply Frame.step (Dev.put_frame ..)); case hw => decide +kernel)

theorem Dev.settlePorts_frame (d : Dev) :
    Frame 0x38000000000000000000000000000000000000000000000000000000000000000000000000000000000000000000000000000000000000000000000000000000000000008000000004 d (Dev.settlePorts d) := by
  unfold Dev.settlePorts
  repeat' first
    | (with_reducible assumption)
    | (with_reducible exact Frame.refl)
    | (extract_lets +onlyGivenNames x; first | (refine Frame.cut x ?_ (fun _ => ?_); rotate_left; clear_value x; revert x; intro _ _; rotate_left; subst x) | (clear_value x; revert x; intro _) | (subst x))
    | ((with_reducible refine Frame.foldl ?_ (fun _ _ _ => ?_)))
    | ((with_reducible apply Frame.step (Dev.latchWhere_frame ..)); case hw => decide +kernel)
    | ((with_reducible apply Frame.step (Dev.modPipe_frame ..)); case hw => decide +kernel)
    | ((with_reducible apply Frame.step (Dev.put_frame ..)); case hw => decide +kernel)
    | split

theorem Dev.closeFrame_frame (d : Dev) (f : CamFrame) :
    Frame 0x200000000000000000060800000000000000000000000000001de00000078000000000000000000000000000000000000000000000000000000000000000000000000000000000000000000030c201400003680008a000000400000000000000000a006429534 d (Dev.closeFrame d f) := by
  unfold Dev.closeFrame
  repeat' first
    | (with_reducible assumption)
    | (with_reducible exact Frame.refl)
    | (extract_lets +onlyGivenNames x; first | (refine Frame.cut x ?_ (fun _ => ?_); rotate_left; clear_value x; revert x; intro _ _; rotate_left; subst x) | (clear_value x; revert x; intro _) | (subst x))
    | ((with_reducible refine Frame.foldl ?_ (fun _ _ _ => ?_)))
    | ((with_reducible apply Frame.step (Dev.modCapture_frame ..)); case hw => rfl)
    | ((with_reducible apply Frame.step (Dev.resultDone_frame ..)); case hw => rfl)
    | ((with_reducible apply Frame.step (Dev.processFrame_frame ..)); case hw => rfl)
    | ((with_reducible apply Frame.step (Dev.modPipe_frame ..)); case hw => rfl)
    | ((with_reducible apply Frame.step (Dev.showQueue_frame ..)); case hw => rfl)
    | ((with_reducible apply Frame.step (Dev.settlePorts_frame ..)); case hw => rfl)
    | split

theorem Dev.closeAt_frame (d : Dev) (p : Nat) (vc : Nat) (cut : Bool) :
    Frame 0x200000000000000000060800000000000000000000000000001de00000078000000000000000000000000000000000000000000000000000000000000000000000000000000000000000000030c201400003680008a000000400000000000000000e006429534 d (Dev.closeAt d p vc cut) := by
  unfold Dev.closeAt
  repeat' first
    | (with_reducible assumption)
    | (with_reducible exact Frame.refl)
    | ((with_reducible refine Frame.foldl ?_ (fun _ _ _ => ?_)))
    | ((with_reducible apply Frame.step (Dev.closeFrame_frame ..)); case hw => rfl)
    | ((with_reducible apply Frame.step (Dev.modCamPort_frame ..)); case hw => rfl)
    | split

theorem Dev.openFrame_frame (d : Dev) (x : Nat) (p : Nat) (vc : Nat) :
    Frame 0x20000000000000000000000000000000000000000000000000000000000040000000000000000000000000000000000000000000000000000000000000000000000000000000000000000000000000000000000008a0000000000000000000000006000020504 d (Dev.openFrame d x p vc) := by
  unfold Dev.openFrame
  repeat' first
    | (with_reducible assumption)
    | (with_reducible exact Frame.refl)
    | (extract_lets +onlyGivenNames x; first | (refine Frame.cut x ?_ (fun _ => ?_); rotate_left; clear_value x; revert x; intro _ _; rotate_left; subst x) | (clear_value x; revert x; intro _) | (subst x))
    | ((with_reducible refine Frame.foldl ?_ (fun _ _ _ => ?_)))
    | ((with_reducible apply Frame.step (Dev.loadTables_frame ..)); case hw => decide +kernel)
    | ((with_reducible apply Frame.step (Dev.latchCam_frame ..)); case hw => decide +kernel)
    | ((with_reducible apply Frame.step (Dev.modCam_frame ..)); case hw => decide +kernel)
    | ((with_reducible apply Frame.step (Dev.modCapture_frame ..)); case hw => decide +kernel)
    | ((with_reducible apply Frame.step (Dev.bump_frame ..)); case hw => decide +kernel)
    | ((with_reducible apply Frame.step (Dev.modCamPort_frame ..)); case hw => decide +kernel)
    | split

theorem Dev.takeLine_frame (d : Dev) (p : Nat) (vc : Nat) (dt : Nat) (data : List Byte) :
    Frame 0x4000000020 d (Dev.takeLine d p vc dt data) := by
  unfold Dev.takeLine
  repeat' first
    | (with_reducible assumption)
    | (with_reducible exact Frame.refl)
    | (extract_lets +onlyGivenNames x; first | (refine Frame.cut x ?_ (fun _ => ?_); rotate_left; clear_value x; revert x; intro _ _; rotate_left; subst x) | (refine Frame.cutFnR x (fun _ _ _ => ?_) (fun _ => ?_); rotate_left; clear_value x; revert x; intro _ _; rotate_left; subst x) | (clear_value x; revert x; intro _))
    | ((with_reducible refine Frame.foldl ?_ (fun _ _ _ => ?_)))
    | ((with_reducible apply Frame.step (Dev.modCamPort_frame ..)); case hw => rfl)
    | ((with_reducible apply Frame.step (Dev.dramWrite_frame ..)); case hw => rfl)
    | (with_reducible apply_assumption -exfalso -symm)
    | split

theorem Dev.lateBlock_frame (d : Dev) (x : Nat) (a : Capture) :
    Frame 0x60800000000000000000000000000001dc00000000000000000000000000000000000000000000000000000000000000000000000000000000000000000000000000030c20140000368000020000004000000000000000002006429510 d (Dev.lateBlock d x a) := by
  unfold Dev.lateBlock
  repeat' first
    | (with_reducible assumption)
    | (with_reducible exact Frame.refl)
    | (extract_lets +onlyGivenNames x; first | (clear_value x; revert x; intro _) | (subst x))
    | ((with_reducible refine Frame.foldl ?_ (fun _ _ _ => ?_)))
    | ((with_reducible apply Frame.step (Dev.noteResult_frame ..)); case hw => rfl)
    | ((with_reducible apply Frame.step (Dev.hostResult_frame ..)); case hw => rfl)

theorem Dev.frameTimeout_frame (d : Dev) (x : Nat) (a : Capture) :
    Frame 0x200000000000000000060800000000000000000000000000001de00000078000000000000000000000000000000000000000000000000000000000000000000000000000000000000000000030c201400003680008a000000400000000000000000e006429534 d (Dev.frameTimeout d x a) := by
  unfold Dev.frameTimeout
  repeat' first
    | (with_reducible assumption)
    | (with_reducible exact Frame.refl)
    | (extract_lets +onlyGivenNames x; first | (refine Frame.cut x ?_ (fun _ => ?_); rotate_left; clear_value x; revert x; intro _ _; rotate_left; subst x) | (clear_value x; revert x; intro _) | (subst x))
    | ((with_reducible refine Frame.foldl ?_ (fun _ _ _ => ?_)))
    | ((with_reducible apply Frame.step (Dev.modCamPort_frame ..)); case hw => rfl)
    | ((with_reducible apply Frame.step (Dev.stopCapture_frame ..)); case hw => rfl)
    | ((with_reducible apply Frame.step (Dev.closeFrame_frame ..)); case hw => rfl)
    | ((with_reducible apply Frame.step (Dev.lateBlock_frame ..)); case hw => rfl)
    | split

theorem Dev.queueReproc_frame (d : Dev) (j : Job) (set : CamSet) :
    Frame 0x40000000000000000000000000000000000000000000000000000000000000000000000000000000000000000000000000000000000000000000000000000000000000008000000000 d (Dev.queueReproc d j set) := by
  unfold Dev.queueReproc
  repeat' first
    | (with_reducible assumption)
    | (with_reducible exact Frame.refl)
    | (extract_lets +onlyGivenNames x; first | (clear_value x; revert x; intro _) | (subst x))
    | ((with_reducible refine Frame.foldl ?_ (fun _ _ _ => ?_)))
    | ((with_reducible apply Frame.step (Dev.showQueue_frame ..)); case hw => rfl)
    | ((with_reducible apply Frame.step (Dev.modPipe_frame ..)); case hw => rfl)

theorem Dev.reprocess_frame (d : Dev) (f : CamFrame) :
    Frame 0x200000000000000000060800000000000000000000000000001dc00000000000000000000000000000000000000000000000000000000000000000000000000000000000000000000000000030c201400003680008a0000004000000000000000002006429530 d (Dev.reprocess d f) := by
  unfold Dev.reprocess
  repeat' first
    | (with_reducible assumption)
    | (with_reducible exact Frame.refl)
    | (extract_lets +onlyGivenNames x; first | (refine Frame.cut x ?_ (fun _ => ?_); rotate_left; clear_value x; revert x; intro _ _; rotate_left; subst x) | (clear_value x; revert x; intro _))
    | ((with_reducible refine Frame.foldl ?_ (fun _ _ _ => ?_)))
    | ((with_reducible apply Frame.step (Dev.processFrame_frame ..)); case hw => rfl)
    | ((with_reducible apply Frame.step (Dev.complete_frame ..)); case hw => rfl)
    | split

theorem Dev.writeInline_frame (d : Dev) (value : Nat) :
    Frame 0x38000000000000000000000000000000000000000000000000000000000000000000000000000000000000000000000000000000000000000000000000000000000000008000000004 d (Dev.writeInline d value) := by
  unfold Dev.writeInline
  repeat' first
    | (with_reducible assumption)
    | (with_reducible exact Frame.refl)
    | ((with_reducible refine Frame.foldl ?_ (fun _ _ _ => ?_)))
    | ((with_reducible apply Frame.step (Dev.settlePorts_frame ..)); case hw => rfl)
    | ((with_reducible apply Frame.step (Dev.modPipe_frame ..)); case hw => rfl)

theorem Dev.freezeContext_frame (d : Dev) (x : Nat) :
    Frame 0x20000004000000000000000000000000000000000000000000000000000000000000000000000000000000000000000000000000000000000000000000000000000000000000000e000000000 d (Dev.freezeContext d x) := by
  unfold Dev.freezeContext
  repeat' first
    | (with_reducible assumption)
    | (with_reducible exact Frame.refl)
    | (extract_lets +onlyGivenNames x; first | (refine Frame.cut x ?_ (fun _ => ?_); rotate_left; clear_value x; revert x; intro _ _; rotate_left; subst x) | (clear_value x; revert x; intro _) | (subst x))
    | ((with_reducible refine Frame.foldl ?_ (fun _ _ _ => ?_)))
    | ((with_reducible apply Frame.step (Dev.lower_frame ..)); case hw => decide +kernel)
    | ((with_reducible apply Frame.step (Dev.modCam_frame ..)); case hw => decide +kernel)
    | ((with_reducible apply Frame.step (Dev.modCamPort_frame ..)); case hw => decide +kernel)
    | ((with_reducible apply Frame.step (Dev.showQueue_frame ..)); case hw => decide +kernel)
    | ((with_reducible apply Frame.step (Dev.modPipe_frame ..)); case hw => decide +kernel)

end Sys2Proof.Machine
end

