-- ==== Sys2Proof/Laws/FramesSystem.lean ====
section
/-! SUPPORT. Frames of the operations of the islands, stops, thermal, memory, calibration, pair, fabric, host and management families.
One lemma each; the mask of a frame names the parts and register fields that may change (Laws/Frame.lean). -/

namespace Sys2Proof.Machine

open Sys2Proof

set_option Elab.async false

/-! ### Islands.lean -/

theorem Dev.requestClock_frame (d : Dev) (n : Nat) (value : Nat) :
    Frame 0x142800000000000000000010000 d (Dev.requestClock d n value) := by
  unfold Dev.requestClock
  repeat' first
    | (with_reducible assumption)
    | (with_reducible exact Frame.refl)
    | (extract_lets +onlyGivenNames x; first | (refine Frame.cut x ?_ (fun _ => ?_); rotate_left; clear_value x; revert x; intro _ _; rotate_left; subst x) | (clear_value x; revert x; intro _))
    | ((with_reducible refine Frame.foldl ?_ (fun _ _ _ => ?_)))
    | ((with_reducible apply Frame.step (Dev.reject_frame ..)); case hw => decide +kernel)
    | ((with_reducible apply Frame.step (Dev.put_frame ..)); case hw => decide +kernel)
    | ((with_reducible apply Frame.step (Dev.startRelock_frame ..)); case hw => decide +kernel)
    | split

theorem Dev.trimDowel_frame (d : Dev) : Frame 0xc000000000000000000000000000000000000000000000000000000000000000000000000000000000000000000000000000000000000000000000000000000000000000000000000000000000000000000000000000000000000000000000000000200000 d (Dev.trimDowel d) := by
  have hcov : Fld.covers (fun f => f == .CAL_DOWEL_DELAY || f == .CAL_DOWEL_TC) 0xc000000000000000000000000000000000000000000000000000000000000000000000000000000000000000000000000000000000000000000000000000000000000000000000000000000000000000000000000000000000000000000000000000200000 = true := by decide +kernel
  unfold Dev.trimDowel
  refine Frame.foldl_mem Frame.refl (fun x c hc h => ?_)
  have hx : ∀ v, Frame 0xc000000000000000000000000000000000000000000000000000000000000000000000000000000000000000000000000000000000000000000000000000000000000000000000000000000000000000000000000000000000000000000000000000200000 d (x.puts c.fld v c.i) :=
    fun v => h.step' (Dev.puts_frame ..) (Fld.within hcov _ (List.mem_filter.mp hc).2)
  extract_lets cur new next y
  have hy : Frame 0xc000000000000000000000000000000000000000000000000000000000000000000000000000000000000000000000000000000000000000000000000000000000000000000000000000000000000000000000000000000000000000000000000000200000 d y := hx next
  clear_value y
  split
  · exact Frame.cal_of rfl hy
  · exact hy

theorem Dev.correctReplica_frame (d : Dev) (n : Nat) :
    Frame 0x10008 d (Dev.correctReplica d n) := by
  unfold Dev.correctReplica
  repeat' first
    | (with_reducible assumption)
    | (with_reducible exact Frame.refl)
    | (extract_lets +onlyGivenNames x; first | (clear_value x; revert x; intro _) | (subst x))
    | ((with_reducible refine Frame.foldl ?_ (fun _ _ _ => ?_)))
    | ((with_reducible apply Frame.step (Dev.freeNext_frame ..)); case hw => rfl)
    | ((with_reducible apply Frame.step (Dev.setIsland_frame ..)); case hw => rfl)

theorem Dev.takeDowel_frame (d : Dev) (n : Nat) (off : Int) :
    Frame 0x19c0200000038000000080060880001008040000000000000000001de0000004001080000000807800000000000000000000400000000000000f8000040023c400000c4000000001108000c0300030c201410003680008a000000471e00000000000002e3af639d38 d (Dev.takeDowel d n off) := by
  unfold Dev.takeDowel
  repeat' first
    | (with_reducible assumption)
    | (with_reducible exact Frame.refl)
    | (extract_lets +onlyGivenNames x; first | (refine Frame.cut x ?_ (fun _ => ?_); rotate_left; clear_value x; revert x; intro _ _; rotate_left; subst x) | (clear_value x; revert x; intro _) | (subst x))
    | ((with_reducible refine Frame.foldl ?_ (fun _ _ _ => ?_)))
    | ((with_reducible apply Frame.step (Dev.put_frame ..)); case hw => decide +kernel)
    | ((with_reducible apply Frame.step (Dev.correctReplica_frame ..)); case hw => decide +kernel)
    | ((with_reducible apply Frame.step (Dev.lower_frame ..)); case hw => decide +kernel)
    | ((with_reducible apply Frame.step (Dev.setIsland_frame ..)); case hw => decide +kernel)
    | ((with_reducible apply Frame.step (Dev.unitFault_frame ..)); case hw => decide +kernel)
    | ((with_reducible apply Frame.step (Dev.raise_frame ..)); case hw => decide +kernel)
    | split

theorem Dev.discardWork_frame (d : Dev) (n : Nat) (kept : List Plan) (lit : List Nat) :
    Frame 0x23c400000000000000001000008000000000000000000000000000000000000000000000000002e000000 d (Dev.discardWork d n kept lit) := by
  unfold Dev.discardWork
  repeat' first
    | (with_reducible assumption)
    | (with_reducible exact Frame.refl)
    | (extract_lets +onlyGivenNames x; first | (refine Frame.cut x ?_ (fun _ => ?_); rotate_left; clear_value x; revert x; intro _ _; rotate_left; subst x) | (clear_value x; revert x; intro _) | (subst x))
    | ((with_reducible refine Frame.foldl ?_ (fun _ _ _ => ?_)))
    | ((with_reducible apply Frame.step (Dev.discardRecs_frame ..)); case hw => decide +kernel)
    | ((with_reducible apply Frame.step (Dev.endClaim_frame ..)); case hw => decide +kernel)
    | ((with_reducible apply Frame.step (Dev.put_frame ..)); case hw => decide +kernel)
    | ((with_reducible apply Frame.step (Dev.modEng_frame ..)); case hw => decide +kernel)

theorem Dev.stopEngine_frame (d : Dev) (n : Nat) (dark : Bool) :
    Frame 0x6080000000000000000000000000000000000000000000000000000000000000000000000000000000000000000000000000023c4000004000000000150800080100030c2014000000000002000000000000000000000000002e009000 d (Dev.stopEngine d n dark) := by
  unfold Dev.stopEngine
  repeat' first
    | (with_reducible assumption)
    | (with_reducible exact Frame.refl)
    | (extract_lets +onlyGivenNames x; first | (refine Frame.cut x ?_ (fun _ => ?_); rotate_left; clear_value x; revert x; intro _ _; rotate_left; subst x) | (clear_value x; revert x; intro _) | (subst x))
    | ((with_reducible refine Frame.foldl ?_ (fun _ _ _ => ?_)))
    | ((with_reducible apply Frame.step (Dev.endClaims_frame ..)); case hw => rfl)
    | ((with_reducible apply Frame.step (Dev.forceGate_frame ..)); case hw => rfl)
    | ((with_reducible apply Frame.step (Dev.dropPasses_frame ..)); case hw => rfl)
    | ((with_reducible apply Frame.step (Dev.clearStream_frame ..)); case hw => rfl)
    | ((with_reducible apply Frame.step (Dev.discardRecs_frame ..)); case hw => rfl)
    | ((with_reducible apply Frame.step (Dev.closeTrain_frame ..)); case hw => rfl)
    | ((with_reducible apply Frame.step (Dev.growTrain_frame ..)); case hw => rfl)
    | ((with_reducible apply Frame.step (Dev.modEng_frame ..)); case hw => rfl)
    | ((with_reducible apply Frame.step (Dev.discardWork_frame ..)); case hw => rfl)
    | ((with_reducible apply Frame.step (Dev.beginPark_frame ..)); case hw => rfl)
    | split

theorem Dev.marksWaived_frame (d : Dev) (t : Nat) :
    Frame 0x20000 d (Dev.marksWaived d t) := by
  unfold Dev.marksWaived
  repeat' first
    | (with_reducible assumption)
    | (with_reducible exact Frame.refl)
    | (extract_lets +onlyGivenNames x; clear_value x; revert x; intro _)
    | ((with_reducible refine Frame.foldl ?_ (fun _ _ _ => ?_)))
    | split
    | ((with_reducible refine Frame.layer_of ?hw ?_); case hw => rfl)

theorem Dev.freezeEngine_frame (d : Dev) (n : Nat) :
    Frame 0x6080000000000000000000000000000000000000000000000000000000000000000000000000000000000000000000000000023c4000004000000000150800080100030c2014000000000002000000000000000000000000002e029000 d (Dev.freezeEngine d n) := by
  unfold Dev.freezeEngine
  repeat' first
    | (with_reducible assumption)
    | (with_reducible exact Frame.refl)
    | (extract_lets +onlyGivenNames x; first | (refine Frame.cut x ?_ (fun _ => ?_); rotate_left; clear_value x; revert x; intro _ _; rotate_left; subst x) | (clear_value x; revert x; intro _) | (subst x))
    | ((with_reducible refine Frame.foldl ?_ (fun _ _ _ => ?_)))
    | ((with_reducible apply Frame.step (Dev.stopEngine_frame ..)); case hw => rfl)
    | ((with_reducible apply Frame.step (Dev.marksWaived_frame ..)); case hw => rfl)
    | split
    | ((with_reducible refine Frame.layer_of ?hw ?_); case hw => rfl)

theorem Dev.noticeFreeze_frame (d : Dev) (f : Nat) :
    Frame 0x6080000000000000000000300000000002000000400008000000000200000000000000000020040000000000000000000000023c4000004000000000150800080100030c2014000000000002000000000000000000000000efae029400 d (Dev.noticeFreeze d f) := by
  unfold Dev.noticeFreeze
  repeat' first
    | (with_reducible assumption)
    | (with_reducible exact Frame.refl)
    | (extract_lets +onlyGivenNames x; first | (refine Frame.cut x ?_ (fun _ => ?_); rotate_left; clear_value x; revert x; intro _ _; rotate_left; subst x) | (clear_value x; revert x; intro _) | (subst x))
    | ((with_reducible refine Frame.foldl ?_ (fun _ _ _ => ?_)))
    | ((with_reducible apply Frame.step (Dev.setFn_frame ..)); case hw => rfl)
    | ((with_reducible apply Frame.step (Dev.freezeEngine_frame ..)); case hw => rfl)
    | ((with_reducible apply Frame.step (Dev.freezeTile_frame ..)); case hw => rfl)
    | ((with_reducible apply Frame.step (Dev.marksWaived_frame ..)); case hw => rfl)
    | ((with_reducible apply Frame.step (Dev.freezeAxis_frame ..)); case hw => rfl)
    | ((with_reducible apply Frame.step (Dev.freezeContext_frame ..)); case hw => rfl)
    | ((with_reducible apply Frame.step (Dev.freezeTime_frame ..)); case hw => rfl)
    | split

theorem Dev.freezeFn_frame (d : Dev) (f : Nat) (cause : Nat) (addr : Nat) (offender : (Option Nat)) :
    Frame 0x6080000000000000000000300000000002000000400008000000000200000000000000000020040000000000000000000000023c4000004000000000150800080100030c2014000036800002000000400000000000000000efae029400 d (Dev.freezeFn d f cause addr offender) := by
  unfold Dev.freezeFn
  repeat' first
    | (with_reducible assumption)
    | (with_reducible exact Frame.refl)
    | ((with_reducible refine Frame.foldl ?_ (fun _ _ _ => ?_)))
    | ((with_reducible apply Frame.step (Dev.freeze_frame ..)); case hw => rfl)
    | ((with_reducible apply Frame.step (Dev.noticeFreeze_frame ..)); case hw => rfl)
    | split

/-! ### Stops.lean -/

theorem Dev.endVecs_frame (d : Dev) (n : Nat) (code : Nat) :
    Frame 0x20000000000000000000000000000000000000000000000000000000000000000000000000000000000000000000000000000000000000000000000000000000000000000000000000000000000000000000000008a0000000000000000000000000000020500 d (Dev.endVecs d n code) := by
  unfold Dev.endVecs
  repeat' first
    | (with_reducible assumption)
    | (with_reducible exact Frame.refl)
    | ((with_reducible refine Frame.foldl ?_ (fun _ _ _ => ?_)))
    | ((with_reducible apply Frame.step (Dev.complete_frame ..)); case hw => rfl)

theorem Dev.stopEngines_frame (d : Dev) (code : Nat) :
    Frame 0x20000000000000000006080000000000000000000000000000000000000000000000000000000000000000000000000000000000000000000000000023c4000004000000000150800080100030c201400000000008a000000000000000000000000002e029500 d (Dev.stopEngines d code) := by
  unfold Dev.stopEngines
  repeat' first
    | (with_reducible assumption)
    | (with_reducible exact Frame.refl)
    | ((with_reducible refine Frame.foldl ?_ (fun _ _ _ => ?_)))
    | ((with_reducible apply Frame.step (Dev.endVecs_frame ..)); case hw => rfl)
    | ((with_reducible apply Frame.step (Dev.stopEngine_frame ..)); case hw => rfl)

theorem Dev.tickStop_frame (d : Dev) :
    Frame 0x400 d (Dev.tickStop d) := by
  unfold Dev.tickStop
  repeat' first
    | (with_reducible assumption)
    | (with_reducible exact Frame.refl)
    | (extract_lets +onlyGivenNames x; clear_value x; revert x; intro _)
    | ((with_reducible refine Frame.foldl ?_ (fun _ _ _ => ?_)))
    | ((with_reducible apply Frame.step (Dev.setFn_frame ..)); case hw => rfl)

theorem Dev.absentEngines_frame (d : Dev) (ns : List Nat) :
    Frame 0x60800000000040000000000000000000000000000000000000000000000000000000000000000000000000000000000000000000000000c400000000100800000000030c2014000000000002000000000000000000000000002e009000 d (Dev.absentEngines d ns) := by
  unfold Dev.absentEngines
  repeat' first
    | (with_reducible assumption)
    | (with_reducible exact Frame.refl)
    | ((with_reducible refine Frame.foldl ?_ (fun _ _ _ => ?_)))
    | ((with_reducible apply Frame.step (Dev.goAbsent_frame ..)); case hw => rfl)
    | ((with_reducible apply Frame.step (Dev.forceGate_frame ..)); case hw => rfl)

theorem Dev.setGas_frame (d : Dev) (ok : Bool) :
    Frame 0x400000000000000000000000000000000000000000000000000000000000000000000000001000000 d (Dev.setGas d ok) := by
  unfold Dev.setGas
  repeat' first
    | (with_reducible assumption)
    | (with_reducible exact Frame.refl)
    | (extract_lets +onlyGivenNames x; first | (clear_value x; revert x; intro _) | (subst x))
    | ((with_reducible refine Frame.foldl ?_ (fun _ _ _ => ?_)))
    | ((with_reducible apply Frame.step (Dev.putB_frame ..)); case hw => decide +kernel)
    | split
    | ((with_reducible refine Frame.pins_of ?hw ?_); case hw => rfl)

theorem Frame.lockChecked {w : Nat} {dev0 : Dev} {d : Dev} {fn : Nat} {r : Reg} {i : Nat} {j : Nat} {value : Nat} {g : Dev → Dev} (hw : Within 0x6080000000000000000000300000000002000000400008000000000200000000000000000020040000000000000000000000023c4000004000000000150800080100030c2014000036800002000000400000000000000000efae029400 w)
    (g_h : ∀ x , Frame w dev0 x → Frame w dev0 (g x )) (h : Frame w dev0 d) :
    Frame w dev0 (Dev.lockChecked d fn r i j value g) := by
  unfold Dev.lockChecked
  repeat' first
    | (with_reducible assumption)
    | (with_reducible exact Frame.refl)
    | (with_reducible refine g_h _ ?_)
    | ((with_reducible refine Frame.foldl ?_ (fun _ _ _ => ?_)))
    | ((with_reducible apply Frame.step (Dev.freezeFn_frame ..)); case hw => exact Within.trans (b := 0x6080000000000000000000300000000002000000400008000000000200000000000000000020040000000000000000000000023c4000004000000000150800080100030c2014000036800002000000400000000000000000efae029400) rfl hw)
    | (with_reducible apply_assumption -exfalso -symm)
    | split

theorem Dev.endFrozen_frame (d : Dev) (f : Nat) :
    Frame 0x20000000000000000000000000000000000000000000000000000000000000000000000000000000000000000000000000000000000000000000000000000000000000000000000000000000000000000000000008a0000000000000000000000000000020500 d (Dev.endFrozen d f) := by
  unfold Dev.endFrozen
  repeat' first
    | (with_reducible assumption)
    | (with_reducible exact Frame.refl)
    | (extract_lets +onlyGivenNames x; first | (clear_value x; revert x; intro _) | (subst x))
    | ((with_reducible refine Frame.foldl ?_ (fun _ _ _ => ?_)))
    | ((with_reducible apply Frame.step (Dev.dropJob_frame ..)); case hw => rfl)
    | ((with_reducible apply Frame.step (Dev.complete_frame ..)); case hw => rfl)
    | split

theorem Dev.dropEntries_frame (d : Dev) (f : Nat) :
    Frame 0x2000000000000000000000000000000000000000000000000000000000000000000000000000000000000000000000000000000000000000000000000000000000000000000000000000000000000000000000000000000000000000000000000000000000400 d (Dev.dropEntries d f) := by
  unfold Dev.dropEntries
  repeat' first
    | (with_reducible assumption)
    | (with_reducible exact Frame.refl)
    | (extract_lets +onlyGivenNames x; first | (clear_value x; revert x; intro _) | (subst x))
    | ((with_reducible refine Frame.foldl ?_ (fun _ _ _ => ?_)))
    | ((with_reducible apply Frame.step (Dev.setFn_frame ..)); case hw => decide +kernel)
    | ((with_reducible apply Frame.step (Dev.bump_frame ..)); case hw => decide +kernel)

theorem Dev.resetHost_frame (d : Dev) (f : Nat) :
    Frame 0x2000000000000000000000000000000000000000000000000000000000000000000000000000000000000000000000000000000000000000000000000000000000000000000000000000000003fffe00000000000fffffe000000000000000000000000002504 d (Dev.resetHost d f) := by
  unfold Dev.resetHost
  repeat' first
    | (with_reducible assumption)
    | (with_reducible exact Frame.refl)
    | (extract_lets +onlyGivenNames x; first | (refine Frame.cut x ?_ (fun _ => ?_); rotate_left; clear_value x; revert x; intro _ _; rotate_left; subst x) | (clear_value x; revert x; intro _))
    | (refine Frame.resetFlds (fun f => decide (0x10000 ≤ f.reg.place.base ∧ f.reg.place.base < 0x20000) || decide (0x32000 ≤ f.reg.place.base ∧ f.reg.place.base < 0x34000)) (fun _ hc => (Bool.and_eq_true_iff.mp hc).2) (by decide +kernel) rfl ?_)
    | ((with_reducible refine Frame.foldl ?_ (fun _ _ _ => ?_)))
    | ((with_reducible apply Frame.step (Dev.dropEntries_frame ..)); case hw => rfl)
    | ((with_reducible apply Frame.step (Dev.setFn_frame ..)); case hw => rfl)
    | ((with_reducible apply Frame.step (Dev.showFlight_frame ..)); case hw => rfl)
    | split
    | ((with_reducible refine Frame.jobs_of ?hw ?_); case hw => rfl)
    | ((with_reducible refine Frame.vecs_of ?hw ?hx ?_); (case hw => (first | rfl | (simp))); (case hx => (intro hc; first | exact Tab.wf_set _ _ _ _ hc.vecs | exact Tab.wf_filter _ _ _ hc.vecs | exact Tab.wf_nil _)))

theorem Dev.leaveActive_frame (d : Dev) (f : Nat) :
    Frame 0x1c04080000000000000000000000000000000000000000002000 d (Dev.leaveActive d f) := by
  unfold Dev.leaveActive
  repeat' first
    | (with_reducible assumption)
    | (with_reducible exact Frame.refl)
    | (extract_lets +onlyGivenNames x; first | (refine Frame.cut x ?_ (fun _ => ?_); rotate_left; clear_value x; revert x; intro _ _; rotate_left; subst x) | (clear_value x; revert x; intro _) | (subst x))
    | ((with_reducible refine Frame.foldl ?_ (fun _ _ _ => ?_)))
    | ((with_reducible apply Frame.step (Dev.lower_frame ..)); case hw => decide +kernel)
    | ((with_reducible apply Frame.step (Dev.latchVec_frame ..)); case hw => decide +kernel)
    | ((with_reducible apply Frame.step (Dev.refreshVec_frame ..)); case hw => decide +kernel)
    | ((with_reducible apply Frame.step (Dev.put_frame ..)); case hw => decide +kernel)
    | split

theorem Dev.unfreeze_frame (d : Dev) (f : Nat) :
    Frame 0x1c06080000038000020440000000000000000000000000002400 d (Dev.unfreeze d f) := by
  unfold Dev.unfreeze
  repeat' first
    | (with_reducible assumption)
    | (with_reducible exact Frame.refl)
    | (extract_lets +onlyGivenNames x; first | (refine Frame.cut x ?_ (fun _ => ?_); rotate_left; clear_value x; revert x; intro _ _; rotate_left; subst x) | (clear_value x; revert x; intro _) | (subst x))
    | ((with_reducible refine Frame.foldl ?_ (fun _ _ _ => ?_)))
    | ((with_reducible apply Frame.step (Dev.lower_frame ..)); case hw => decide +kernel)
    | ((with_reducible apply Frame.step (Dev.put_frame ..)); case hw => decide +kernel)
    | ((with_reducible apply Frame.step (Dev.setSq_frame ..)); case hw => decide +kernel)
    | ((with_reducible apply Frame.step (Dev.leaveActive_frame ..)); case hw => decide +kernel)
    | ((with_reducible apply Frame.step (Dev.showFlight_frame ..)); case hw => decide +kernel)
    | ((with_reducible apply Frame.step (Dev.setFn_frame ..)); case hw => decide +kernel)

theorem Dev.resetSources_frame (d : Dev) :
    Frame 0x200000000000000000000000000000000000000000000000000000000000000000000000000000000000000000000000000000000000000000000000000000000000000000000000000000003c0001fc000000000000000000000000000000000000000009004 d (Dev.resetSources d) := by
  unfold Dev.resetSources
  repeat' first
    | (with_reducible assumption)
    | (with_reducible exact Frame.refl)
    | (extract_lets +onlyGivenNames x; first | (refine Frame.cut x ?_ (fun _ => ?_); rotate_left; clear_value x; revert x; intro _ _; rotate_left; subst x) | (clear_value x; revert x; intro _))
    | (refine Frame.resetFlds (fun f => decide (0x30000 ≤ f.reg.place.base ∧ f.reg.place.base < 0x32000) || decide (0x34000 ≤ f.reg.place.base ∧ f.reg.place.base < 0x40000)) (fun _ hc => hc) (by decide +kernel) rfl ?_)
    | ((with_reducible refine Frame.foldl ?_ (fun _ _ _ => ?_)))
    | ((with_reducible apply Frame.step (Dev.bump_frame ..)); case hw => decide +kernel)
    | split
    | ((with_reducible refine Frame.recorder_of ?hw ?_); case hw => rfl)
    | ((with_reducible refine Frame.srcs_of ?hw ?hx ?_); (case hw => (first | rfl | (simp))); (case hx => (intro hc; first | exact Tab.wf_set _ _ _ _ hc.srcs | exact Tab.wf_filter _ _ _ hc.srcs | exact Tab.wf_nil _)))

theorem Dev.finishFlr_frame (d : Dev) (f : Nat) :
    Frame 0x200000000000000000000000000000000000000000000000000000000000000000000000000000000000000000000000000000000000000000000000000000000000000000000000000000003ffffffc000038000fffffe00000000000000000000000000b504 d (Dev.finishFlr d f) := by
  unfold Dev.finishFlr
  repeat' first
    | (with_reducible assumption)
    | (with_reducible exact Frame.refl)
    | (extract_lets +onlyGivenNames x; first | (refine Frame.cut x ?_ (fun _ => ?_); rotate_left; clear_value x; revert x; intro _ _; rotate_left; subst x) | (clear_value x; revert x; intro _) | (subst x))
    | ((with_reducible refine Frame.foldl ?_ (fun _ _ _ => ?_)))
    | ((with_reducible apply Frame.step (Dev.resetHost_frame ..)); case hw => rfl)
    | ((with_reducible apply Frame.step (Dev.setFn_frame ..)); case hw => rfl)
    | ((with_reducible apply Frame.step (Dev.resetSources_frame ..)); case hw => rfl)
    | ((with_reducible apply Frame.step (Dev.unfreeze_frame ..)); case hw => rfl)
    | split

theorem Dev.releaseFn_frame (d : Dev) (f : Nat) :
    Frame 0x1c06080801c38000020440000000000000000000000000002400 d (Dev.releaseFn d f) := by
  unfold Dev.releaseFn
  repeat' first
    | (with_reducible assumption)
    | (with_reducible exact Frame.refl)
    | ((with_reducible refine Frame.foldl ?_ (fun _ _ _ => ?_)))
    | ((with_reducible apply Frame.step (Dev.unfreeze_frame ..)); case hw => decide +kernel)
    | ((with_reducible apply Frame.step (Dev.reject_frame ..)); case hw => decide +kernel)
    | split

/-! ### Thermal.lean -/

theorem Dev.takeSample_frame (d : Dev) (k : Nat) (raw : Int) (all : List Int) :
    Frame 0x6000000000608000000000000000000000000000000000000000000000000000000000000000000000000000000000000000000000000000000000000000000000000000000000030c20140000000000020000000000000000000000000006089000 d (Dev.takeSample d k raw all) := by
  unfold Dev.takeSample
  repeat' first
    | (with_reducible assumption)
    | (with_reducible exact Frame.refl)
    | (extract_lets +onlyGivenNames x; first | (refine Frame.cut x ?_ (fun _ => ?_); rotate_left; clear_value x; revert x; intro _ _; rotate_left; subst x) | (clear_value x; revert x; intro _) | (subst x))
    | ((with_reducible refine Frame.foldl ?_ (fun _ _ _ => ?_)))
    | ((with_reducible apply Frame.step (Dev.setSensor_frame ..)); case hw => decide +kernel)
    | ((with_reducible apply Frame.step (Dev.put_frame ..)); case hw => decide +kernel)
    | ((with_reducible apply Frame.step (Dev.record_frame ..)); case hw => decide +kernel)
    | ((with_reducible apply Frame.step (Dev.raise_frame ..)); case hw => decide +kernel)
    | split

theorem Dev.showThermal_frame (d : Dev) :
    Frame 0x580000000000000000000000000000000000000000000000000000000000000000000000000000000000000000000000000000000000000000000000000000000000000000000000000000000000000000000000000000000000000000000000000 d (Dev.showThermal d) := by
  unfold Dev.showThermal
  repeat' first
    | (with_reducible assumption)
    | (with_reducible exact Frame.refl)
    | (extract_lets +onlyGivenNames x; first | (refine Frame.cut x ?_ (fun _ => ?_); rotate_left; clear_value x; revert x; intro _ _; rotate_left; subst x) | (clear_value x; revert x; intro _) | (subst x))
    | ((with_reducible refine Frame.foldl ?_ (fun _ _ _ => ?_)))
    | ((with_reducible apply Frame.step (Dev.putB_frame ..)); case hw => decide +kernel)
    | ((with_reducible apply Frame.step (Dev.put_frame ..)); case hw => decide +kernel)

theorem Dev.compareIslands_frame (d : Dev) (a : Nat) (b : Nat) (ta : Int) (tb : Int) :
    Frame 0x608000000000000000000000000000000000000000000000000000000000000000000000000000000000000000000000000000000000000000000000000000000000030c20140000000000020000000020000000000000000006109000 d (Dev.compareIslands d a b ta tb) := by
  unfold Dev.compareIslands
  repeat' first
    | (with_reducible assumption)
    | (with_reducible exact Frame.refl)
    | (extract_lets +onlyGivenNames x; first | (refine Frame.cut x ?_ (fun _ => ?_); rotate_left; clear_value x; revert x; intro _ _; rotate_left; subst x) | (clear_value x; revert x; intro _) | (subst x))
    | ((with_reducible refine Frame.foldl ?_ (fun _ _ _ => ?_)))
    | ((with_reducible apply Frame.step (Dev.occur_frame ..)); case hw => decide +kernel)
    | ((with_reducible apply Frame.step (Dev.record_frame ..)); case hw => decide +kernel)
    | ((with_reducible apply Frame.step (Dev.raise_frame ..)); case hw => decide +kernel)
    | split
    | ((with_reducible refine Frame.therm_of ?hw ?_); case hw => rfl)

theorem Dev.compareAll_frame (d : Dev) :
    Frame 0x608000000000000000000000000000000000000000000000000000000000000000000000000000000000000000000000000000000000000000000000000000000000030c20140000000000020000000020000000000000000006109000 d (Dev.compareAll d) := by
  unfold Dev.compareAll
  repeat' first
    | (with_reducible assumption)
    | (with_reducible exact Frame.refl)
    | (extract_lets +onlyGivenNames x; first | (clear_value x; revert x; intro _) | (subst x))
    | ((with_reducible refine Frame.foldl ?_ (fun _ _ _ => ?_)))
    | ((with_reducible apply Frame.step (Dev.compareIslands_frame ..)); case hw => rfl)

theorem Dev.compensate_frame (d : Dev) (n : Nat) (temp : Int) :
    Frame 0x400000000000608000000000000000000000000000000000000000000000000000000000000000000000000000000000000000000000000000000000000000000000000000000000030c20140000000000020000000000000000000000000006209000 d (Dev.compensate d n temp) := by
  unfold Dev.compensate
  repeat' first
    | (with_reducible assumption)
    | (with_reducible exact Frame.refl)
    | (extract_lets +onlyGivenNames x; first | (refine Frame.cut x ?_ (fun _ => ?_); rotate_left; clear_value x; revert x; intro _ _; rotate_left; subst x) | (clear_value x; revert x; intro _) | (subst x))
    | ((with_reducible refine Frame.foldl ?_ (fun _ _ _ => ?_)))
    | ((with_reducible apply Frame.step (Dev.addFresh_frame ..)); case hw => decide +kernel)
    | ((with_reducible apply Frame.step (Dev.record_frame ..)); case hw => decide +kernel)
    | ((with_reducible apply Frame.step (Dev.raise_frame ..)); case hw => decide +kernel)
    | split

theorem Dev.thermalStop_frame (d : Dev) (k : Nat) :
    Frame 0x20000000010600000006080002301800000000000000000000000000000000108000000080780000000000000000000040000000000000000000000023c4000004000000000150800080100030c201400000000008a00000000000000000000000203af029500 d (Dev.thermalStop d k) := by
  unfold Dev.thermalStop
  repeat' first
    | (with_reducible assumption)
    | (with_reducible exact Frame.refl)
    | (extract_lets +onlyGivenNames x; first | (refine Frame.cut x ?_ (fun _ => ?_); rotate_left; clear_value x; revert x; intro _ _; rotate_left; subst x) | (subst x))
    | ((with_reducible refine Frame.foldl ?_ (fun _ _ _ => ?_)))
    | ((with_reducible apply Frame.step (Dev.raise_frame ..)); case hw => decide +kernel)
    | ((with_reducible apply Frame.step (Dev.put_frame ..)); case hw => decide +kernel)
    | ((with_reducible apply Frame.step (Dev.record_frame ..)); case hw => decide +kernel)
    | ((with_reducible apply Frame.step (Dev.occur_frame ..)); case hw => decide +kernel)
    | ((with_reducible apply Frame.step (Dev.bump_frame ..)); case hw => decide +kernel)
    | ((with_reducible apply Frame.step (Dev.hingeFail_frame ..)); case hw => decide +kernel)
    | ((with_reducible apply Frame.step (Dev.emergencyStop_frame ..)); case hw => decide +kernel)
    | ((with_reducible apply Frame.step (Dev.stopTiles_frame ..)); case hw => decide +kernel)
    | ((with_reducible apply Frame.step (Dev.stopEngines_frame ..)); case hw => decide +kernel)
    | ((with_reducible apply Frame.step (Dev.showHealth_frame ..)); case hw => decide +kernel)
    | split

theorem Dev.thermalState_frame (d : Dev) :
    Frame 0x20000000010600000006080002301800000000000000000000000000000000108000000080780000000000000000000040000000000000000000000023c4000004000000000150800080100030c201400000000008a00000000000000000000000203af129500 d (Dev.thermalState d) := by
  unfold Dev.thermalState
  repeat' first
    | (with_reducible assumption)
    | (with_reducible exact Frame.refl)
    | (extract_lets +onlyGivenNames x; first | (refine Frame.cut x ?_ (fun _ => ?_); rotate_left; clear_value x; revert x; intro _ _; rotate_left; subst x) | (clear_value x; revert x; intro _) | (subst x))
    | ((with_reducible refine Frame.foldl ?_ (fun _ _ _ => ?_)))
    | ((with_reducible apply Frame.step (Dev.thermalStop_frame ..)); case hw => decide +kernel)
    | ((with_reducible apply Frame.step (Dev.occur_frame ..)); case hw => decide +kernel)
    | ((with_reducible apply Frame.step (Dev.put_frame ..)); case hw => decide +kernel)
    | ((with_reducible apply Frame.step (Dev.record_frame ..)); case hw => decide +kernel)
    | split
    | ((with_reducible refine Frame.therm_of ?hw ?_); case hw => rfl)

theorem Dev.applyCeiling_frame (d : Dev) (i : Nat) :
    Frame 0x20000000000002000000000000000800000000000000000000000000000000000000000000000000000000000000000000000000000000000000000000000000000000000000000000 d (Dev.applyCeiling d i) := by
  unfold Dev.applyCeiling
  repeat' first
    | (with_reducible assumption)
    | (with_reducible exact Frame.refl)
    | (extract_lets +onlyGivenNames x; first | (clear_value x; revert x; intro _) | (subst x))
    | ((with_reducible refine Frame.foldl ?_ (fun _ _ _ => ?_)))
    | ((with_reducible apply Frame.step (Dev.put_frame ..)); case hw => decide +kernel)
    | split

theorem Dev.governor_frame (d : Dev) (i : Nat) :
    Frame 0x10000000000608000000000000000000000000000000000000020000000000002000000000000000800000000000000000000000000000000000000000000000000000000000000030c20140000000000020000000000000000000000000006109000 d (Dev.governor d i) := by
  unfold Dev.governor
  repeat' first
    | (with_reducible assumption)
    | (with_reducible exact Frame.refl)
    | (extract_lets +onlyGivenNames x; first | (refine Frame.cut x ?_ (fun _ => ?_); rotate_left; clear_value x; revert x; intro _ _; rotate_left; subst x) | (clear_value x; revert x; intro _) | (subst x))
    | ((with_reducible refine Frame.foldl ?_ (fun _ _ _ => ?_)))
    | ((with_reducible apply Frame.step (Dev.applyCeiling_frame ..)); case hw => decide +kernel)
    | ((with_reducible apply Frame.step (Dev.put_frame ..)); case hw => decide +kernel)
    | ((with_reducible apply Frame.step (Dev.record_frame ..)); case hw => decide +kernel)
    | split
    | ((with_reducible refine Frame.therm_of ?hw ?_); case hw => rfl)

/-! ### Dram.lean -/

theorem Dev.modChan_frame (d : Dev) (c : Nat) (g : DramChan → DramChan) :
    Frame 0x40000 d (Dev.modChan d c g) := by
  unfold Dev.modChan
  repeat' first
    | (with_reducible assumption)
    | (with_reducible exact Frame.refl)
    | ((with_reducible refine Frame.foldl ?_ (fun _ _ _ => ?_)))
    | ((with_reducible apply Frame.step (Dev.setChan_frame ..)); case hw => rfl)

theorem Dev.dramEnter_frame (d : Dev) (c : Nat) (r : DramReq) :
    Frame 0x40000 d (Dev.dramEnter d c r) := by
  unfold Dev.dramEnter
  repeat' first
    | (with_reducible assumption)
    | (with_reducible exact Frame.refl)
    | (extract_lets +onlyGivenNames x; clear_value x; revert x; intro _)
    | ((with_reducible refine Frame.foldl ?_ (fun _ _ _ => ?_)))
    | ((with_reducible apply Frame.step (Dev.modChan_frame ..)); case hw => rfl)
    | split

theorem Dev.eccFound_frame (d : Dev) (c : Nat) (burst : Nat) (ecc : Nat) :
    Frame 0xe0000608000000000000000000000000000000000000000000000000000000000000000000000000000000000000000000000000000000000000000000000000000000000030c20140000000000020000000000000000000000000006009000 d (Dev.eccFound d c burst ecc) := by
  unfold Dev.eccFound
  repeat' first
    | (with_reducible assumption)
    | (with_reducible exact Frame.refl)
    | ((with_reducible refine Frame.foldl ?_ (fun _ _ _ => ?_)))
    | ((with_reducible apply Frame.step (Dev.bump_frame ..)); case hw => decide +kernel)
    | ((with_reducible apply Frame.step (Dev.record_frame ..)); case hw => decide +kernel)
    | ((with_reducible apply Frame.step (Dev.put_frame ..)); case hw => decide +kernel)
    | split

theorem Dev.dramServe_frame (d : Dev) (c : Nat) (ecc : Nat) :
    Frame 0xe0000608000000000000000000000000000000000000000000000000000000000000000000000000000000000000000000000000000000000000000000000000000000000030c20140000000000020000000000000000000000000006049020 d (Dev.dramServe d c ecc) := by
  unfold Dev.dramServe
  repeat' first
    | (with_reducible assumption)
    | (with_reducible exact Frame.refl)
    | (extract_lets +onlyGivenNames x; first | (refine Frame.cut x ?_ (fun _ => ?_); rotate_left; clear_value x; revert x; intro _ _; rotate_left; subst x) | (clear_value x; revert x; intro _) | (subst x))
    | ((with_reducible refine Frame.foldl ?_ (fun _ _ _ => ?_)))
    | ((with_reducible apply Frame.step (Dev.modChan_frame ..)); case hw => rfl)
    | ((with_reducible apply Frame.step (Dev.dramWrite_frame ..)); case hw => rfl)
    | ((with_reducible apply Frame.step (Dev.eccFound_frame ..)); case hw => rfl)
    | split

theorem Dev.refreshAll_frame (d : Dev) (c : Nat) (sub : Nat) :
    Frame 0x10000000000000000000000000000000000000000000000000000000000000000000000000000000000000000000000000000000000000000000000000000000000000000000000000000000000000000000000000000000000000000040000 d (Dev.refreshAll d c sub) := by
  unfold Dev.refreshAll
  repeat' first
    | (with_reducible assumption)
    | (with_reducible exact Frame.refl)
    | (extract_lets +onlyGivenNames x; first | (clear_value x; revert x; intro _) | (subst x))
    | ((with_reducible refine Frame.foldl ?_ (fun _ _ _ => ?_)))
    | ((with_reducible apply Frame.step (Dev.bump_frame ..)); case hw => decide +kernel)
    | ((with_reducible apply Frame.step (Dev.modChan_frame ..)); case hw => decide +kernel)

theorem Dev.startRetrain_frame (d : Dev) (c : Nat) :
    Frame 0x1800000000000000000000000000000000000000000000000000000000000000000000000000000000000000000000000000000000000000000000000000000000000000000000000000000000000000000000000000000000000000000000 d (Dev.startRetrain d c) := by
  unfold Dev.startRetrain
  repeat' first
    | (with_reducible assumption)
    | (with_reducible exact Frame.refl)
    | ((with_reducible refine Frame.foldl ?_ (fun _ _ _ => ?_)))
    | ((with_reducible apply Frame.step (Dev.lower_frame ..)); case hw => decide +kernel)
    | ((with_reducible apply Frame.step (Dev.raise_frame ..)); case hw => decide +kernel)

theorem Dev.beginRetrain_frame (d : Dev) :
    Frame 0x1800000000000000000000000000000000000000000000000000000000000000000000000000000000000000000000000000000000000000000000000000000000000000000000000000000000000000000000000000000000000000060000 d (Dev.beginRetrain d) := by
  unfold Dev.beginRetrain
  repeat' first
    | (with_reducible assumption)
    | (with_reducible exact Frame.refl)
    | (extract_lets +onlyGivenNames x; first | (refine Frame.cut x ?_ (fun _ => ?_); rotate_left; clear_value x; revert x; intro _ _; rotate_left; subst x) | (clear_value x; revert x; intro _) | (subst x))
    | ((with_reducible refine Frame.foldl ?_ (fun _ _ _ => ?_)))
    | ((with_reducible apply Frame.step (Dev.modChan_frame ..)); case hw => rfl)
    | ((with_reducible apply Frame.step (Dev.modLayer_frame ..)); case hw => rfl)
    | ((with_reducible apply Frame.step (Dev.startRetrain_frame ..)); case hw => rfl)
    | split

theorem Dev.trained_frame (d : Dev) (c : Nat) :
    Frame 0x1000000000000000000000000000000000000000000000000000000000000000000000000000000000000000000000000000000000000000000000000000000000000000000000000000000000000000000000000000000000000000040000 d (Dev.trained d c) := by
  unfold Dev.trained
  repeat' first
    | (with_reducible assumption)
    | (with_reducible exact Frame.refl)
    | (extract_lets +onlyGivenNames x; first | (clear_value x; revert x; intro _) | (subst x))
    | ((with_reducible refine Frame.foldl ?_ (fun _ _ _ => ?_)))
    | ((with_reducible apply Frame.step (Dev.modChan_frame ..)); case hw => decide +kernel)
    | ((with_reducible apply Frame.step (Dev.lower_frame ..)); case hw => decide +kernel)

theorem Dev.trainFailed_frame (d : Dev) (c : Nat) :
    Frame 0x5000608000000000000000000000000000000000000000000000000000000000000000000000000000000000000000000000000000000000000000000000000000000000030c20140000000000020000000000000000000000000006049000 d (Dev.trainFailed d c) := by
  unfold Dev.trainFailed
  repeat' first
    | (with_reducible assumption)
    | (with_reducible exact Frame.refl)
    | (extract_lets +onlyGivenNames x; first | (refine Frame.cut x ?_ (fun _ => ?_); rotate_left; clear_value x; revert x; intro _ _; rotate_left; subst x) | (clear_value x; revert x; intro _) | (subst x))
    | ((with_reducible refine Frame.foldl ?_ (fun _ _ _ => ?_)))
    | ((with_reducible apply Frame.step (Dev.modChan_frame ..)); case hw => decide +kernel)
    | ((with_reducible apply Frame.step (Dev.lower_frame ..)); case hw => decide +kernel)
    | ((with_reducible apply Frame.step (Dev.record_frame ..)); case hw => decide +kernel)
    | ((with_reducible apply Frame.step (Dev.raise_frame ..)); case hw => decide +kernel)

theorem Dev.retrainDone_frame (d : Dev) (c : Nat) (ok : Bool) :
    Frame 0x5002000000000000005800608000000000000000000000000000000000000000000000000000000000000000000000000000000000000000002000000000000000000000000000000000000100030c201410000000008a0000001106000000000000000006079d00 d (Dev.retrainDone d c ok) := by
  unfold Dev.retrainDone
  repeat' first
    | (with_reducible assumption)
    | (with_reducible exact Frame.refl)
    | (extract_lets +onlyGivenNames x; refine Frame.cut x ?_ (fun _ => ?_); rotate_left; clear_value x; revert x; intro _ _; rotate_left; subst x)
    | ((with_reducible refine Frame.foldl ?_ (fun _ _ _ => ?_)))
    | ((with_reducible apply Frame.step (Dev.trained_frame ..)); case hw => decide +kernel)
    | ((with_reducible apply Frame.step (Dev.trainFailed_frame ..)); case hw => decide +kernel)
    | ((with_reducible apply Frame.step (Dev.raise_frame ..)); case hw => decide +kernel)
    | ((with_reducible apply Frame.step (Dev.modLayer_frame ..)); case hw => decide +kernel)
    | ((with_reducible apply Frame.step (Dev.startRetrain_frame ..)); case hw => decide +kernel)
    | ((with_reducible apply Frame.step (Dev.windowEnd_frame ..)); case hw => decide +kernel)
    | split

theorem Dev.dramReturn_frame (d : Dev) (c : Nat) (ok : Bool) :
    Frame 0x5002000000000000005800608000000000000000000000000000000000000000000000000000000000000000000000000000000000000000002000000000000000000000000000000000000100030c201410000000008a0000000106000000000000000006079d00 d (Dev.dramReturn d c ok) := by
  unfold Dev.dramReturn
  repeat' first
    | (with_reducible assumption)
    | (with_reducible exact Frame.refl)
    | (extract_lets +onlyGivenNames x; first | (refine Frame.cut x ?_ (fun _ => ?_); rotate_left; clear_value x; revert x; intro _ _; rotate_left; subst x) | (clear_value x; revert x; intro _) | (subst x))
    | ((with_reducible refine Frame.foldl ?_ (fun _ _ _ => ?_)))
    | ((with_reducible apply Frame.step (Dev.setIsland_frame ..)); case hw => decide +kernel)
    | ((with_reducible apply Frame.step (Dev.settleUnit_frame ..)); case hw => decide +kernel)
    | ((with_reducible apply Frame.step (Dev.record_frame ..)); case hw => decide +kernel)
    | ((with_reducible apply Frame.step (Dev.lower_frame ..)); case hw => decide +kernel)
    | ((with_reducible apply Frame.step (Dev.setService_frame ..)); case hw => decide +kernel)
    | ((with_reducible apply Frame.step (Dev.trained_frame ..)); case hw => decide +kernel)
    | ((with_reducible apply Frame.step (Dev.raise_frame ..)); case hw => decide +kernel)
    | ((with_reducible apply Frame.step (Dev.trainFailed_frame ..)); case hw => decide +kernel)
    | split

/-! ### Calib.lean -/

theorem Dev.newCal_frame (d : Dev) (f : Fld) (v : Nat) (i : Nat) (j : Nat) :
    Frame (0x200000 ||| f.bit) d (Dev.newCal d f v i j) := by
  unfold Dev.newCal
  repeat' first
    | (with_reducible assumption)
    | (with_reducible exact Frame.refl)
    | ((with_reducible refine Frame.foldl ?_ (fun _ _ _ => ?_)))
    | ((with_reducible apply Frame.step (Dev.addFresh_frame ..)); case hw => first | decide +kernel | exact Within.refl | assumption | exact Reg.mask_within (by decide +kernel) _ | (repeat' first | exact Within.refl | decide +kernel | exact Reg.mask_within (by decide +kernel) _ | exact Within.or_right Within.refl | refine Within.or ?_ ?_ | exact Within.or_left (by decide +kernel) | exact Within.or_right (by decide +kernel)))
    | ((with_reducible apply Frame.step (Dev.put_frame ..)); case hw => first | decide +kernel | exact Within.refl | assumption | exact Reg.mask_within (by decide +kernel) _ | (repeat' first | exact Within.refl | decide +kernel | exact Reg.mask_within (by decide +kernel) _ | exact Within.or_right Within.refl | refine Within.or ?_ ?_ | exact Within.or_left (by decide +kernel) | exact Within.or_right (by decide +kernel)))
    | split

theorem Dev.beginCover_frame (d : Dev) (s : Nat) (c : Cover) (r : CalReq) :
    Frame 0x900000000018000000080060800000000040000000000000000000000000000000000000000000000000000000000000000000000000000000b8000040023c400000c4000000000100000c0300030c2014100000000002000000010600000000000000002e219c00 d (Dev.beginCover d s c r) := by
  unfold Dev.beginCover
  repeat' first
    | (with_reducible assumption)
    | (with_reducible exact Frame.refl)
    | (extract_lets +onlyGivenNames x; first | (refine Frame.cut x ?_ (fun _ => ?_); rotate_left; clear_value x; revert x; intro _ _; rotate_left; subst x) | (clear_value x; revert x; intro _) | (subst x))
    | ((with_reducible refine Frame.foldl ?_ (fun _ _ _ => ?_)))
    | ((with_reducible apply Frame.step (Dev.put_frame ..)); case hw => first | decide +kernel | exact Within.refl | assumption | exact Reg.mask_within (by decide +kernel) _ | (repeat' first | exact Within.refl | decide +kernel | exact Reg.mask_within (by decide +kernel) _ | exact Within.or_right Within.refl | refine Within.or ?_ ?_ | exact Within.or_left (by decide +kernel) | exact Within.or_right (by decide +kernel)))
    | ((with_reducible apply Frame.step (Dev.moveChannel_frame ..)); case hw => decide +kernel)
    | ((with_reducible apply Frame.step (Dev.sliceChanged_frame ..)); case hw => decide +kernel)
    | ((with_reducible apply Frame.step (Dev.setCover_frame ..)); case hw => decide +kernel)
    | ((with_reducible apply Frame.step (Dev.startCal_frame ..)); case hw => decide +kernel)
    | split

theorem Dev.faultOver_frame (d : Dev) (u : Nat) :
    Frame 0x2000000200000000000608000000000000000000000000000000000000000000000000000000000000000000000000000000000000000000000000000000000000000000000000000000000030c201400000000008a0000000000000000000000000006239500 d (Dev.faultOver d u) := by
  unfold Dev.faultOver
  repeat' first
    | (with_reducible assumption)
    | (with_reducible exact Frame.refl)
    | (extract_lets +onlyGivenNames x; first | (refine Frame.cut x ?_ (fun _ => ?_); rotate_left; clear_value x; revert x; intro _ _; rotate_left; subst x) | (clear_value x; revert x; intro _) | (subst x))
    | ((with_reducible refine Frame.foldl ?_ (fun _ _ _ => ?_)))
    | ((with_reducible apply Frame.step (Dev.showCal_frame ..)); case hw => rfl)
    | ((with_reducible apply Frame.step (Dev.settleUnit_frame ..)); case hw => rfl)
    | ((with_reducible apply Frame.step (Dev.record_frame ..)); case hw => rfl)
    | ((with_reducible apply Frame.step (Dev.setIsland_frame ..)); case hw => rfl)
    | split
    | ((with_reducible refine Frame.cal_of ?hw ?_); case hw => rfl)

theorem Dev.coverDone_frame (d : Dev) (s : Nat) (r : CalReq) :
    Frame 0x900200000038000000080060800000000040000000000000000000000000000000000000000000000000000000000000000000000000000000b8000040023c400000c4000000000100000c0300030c201410000000008a000000010600000000000000002e239d00 d (Dev.coverDone d s r) := by
  unfold Dev.coverDone
  repeat' first
    | (with_reducible assumption)
    | (with_reducible exact Frame.refl)
    | (extract_lets +onlyGivenNames x; first | (refine Frame.cut x ?_ (fun _ => ?_); rotate_left; clear_value x; revert x; intro _ _; rotate_left; subst x) | (subst x))
    | ((with_reducible refine Frame.foldl ?_ (fun _ _ _ => ?_)))
    | ((with_reducible apply Frame.step (Dev.endCover_frame ..)); case hw => rfl)
    | ((with_reducible apply Frame.step (Dev.setService_frame ..)); case hw => rfl)
    | ((with_reducible apply Frame.step (Dev.sliceServes_frame ..)); case hw => rfl)
    | ((with_reducible apply Frame.step (Dev.faultOver_frame ..)); case hw => rfl)
    | ((with_reducible apply Frame.step (Dev.endCals_frame ..)); case hw => rfl)
    | ((with_reducible apply Frame.step (Dev.pumpCal_frame ..)); case hw => rfl)
    | split

theorem Dev.tapsResult_frame (d : Dev) (n : Nat) (t : List Nat) (m : List Int) :
    Frame 0x3e000000000000000000000000000000000000000000000000000000000000000000000000000000000000000000000000000000000000000000000000000000000000200000000000000000000000000000000000000000000000000000000000200000 d (Dev.tapsResult d n t m) := by
  unfold Dev.tapsResult
  repeat' first
    | (with_reducible assumption)
    | (with_reducible exact Frame.refl)
    | (extract_lets +onlyGivenNames x; first | (refine Frame.cut x ?_ (fun _ => ?_); rotate_left; clear_value x; revert x; intro _ _; rotate_left; subst x) | (clear_value x; revert x; intro _) | (subst x))
    | ((with_reducible refine Frame.foldl ?_ (fun _ _ _ => ?_)))
    | ((with_reducible apply Frame.step (Dev.put_frame ..)); case hw => decide +kernel)
    | ((with_reducible apply Frame.step (Dev.puts_frame ..)); case hw => decide +kernel)
    | split
    | ((with_reducible refine Frame.cal_of ?hw ?_); case hw => rfl)

theorem Dev.sliceResult_frame (d : Dev) (s : Nat) (m : List Int) :
    Frame 0xfc0000000000000000000000000000000000000000000000000000000000000000000000000000000000000000000000000000000000000000000000000000000000000000000000000000000000000000000000000000000000000000000000000000000 d (Dev.sliceResult d s m) := by
  unfold Dev.sliceResult
  repeat' first
    | (with_reducible assumption)
    | (with_reducible exact Frame.refl)
    | (extract_lets +onlyGivenNames x; first | (refine Frame.cut x ?_ (fun _ => ?_); rotate_left; clear_value x; revert x; intro _ _; rotate_left; subst x) | (clear_value x; revert x; intro _) | (subst x))
    | ((with_reducible refine Frame.foldl ?_ (fun _ _ _ => ?_)))
    | ((with_reducible apply Frame.step (Dev.putB_frame ..)); case hw => decide +kernel)
    | ((with_reducible apply Frame.step (Dev.put_frame ..)); case hw => decide +kernel)
    | ((with_reducible apply Frame.step (Dev.puts_frame ..)); case hw => decide +kernel)

theorem Dev.lagResult_frame (d : Dev) (n : Nat) (m : List Int) :
    Frame 0xe000000000000000000000000000000000000000000000000000000 d (Dev.lagResult d n m) := by
  unfold Dev.lagResult
  repeat' first
    | (with_reducible assumption)
    | (with_reducible exact Frame.refl)
    | (extract_lets +onlyGivenNames x; first | (clear_value x; revert x; intro _) | (subst x))
    | ((with_reducible refine Frame.foldl ?_ (fun _ _ _ => ?_)))
    | ((with_reducible apply Frame.step (Dev.put_frame ..)); case hw => decide +kernel)

theorem Dev.calResult_frame (d : Dev) (r : CalReq) (m : List Int) :
    Frame 0xffe00000000000000000000000000000000000000000000000000000000000000000000000000000000000000000000000000000000000000000000000000000000000020000000000e000000000000000000000000000000000000000000000000200000 d (Dev.calResult d r m) := by
  unfold Dev.calResult
  repeat' first
    | (with_reducible assumption)
    | (with_reducible exact Frame.refl)
    | ((with_reducible refine Frame.foldl ?_ (fun _ _ _ => ?_)))
    | ((with_reducible apply Frame.step (Dev.tapsResult_frame ..)); case hw => rfl)
    | ((with_reducible apply Frame.step (Dev.sliceResult_frame ..)); case hw => rfl)
    | ((with_reducible apply Frame.step (Dev.lagResult_frame ..)); case hw => rfl)
    | split

theorem Dev.rebind_frame (d : Dev) (u : Nat) :
    Frame 0x40000000000000000000000000000000000000000000000000010000000 d (Dev.rebind d u) := by
  unfold Dev.rebind
  repeat' first
    | (with_reducible assumption)
    | (with_reducible exact Frame.refl)
    | (extract_lets +onlyGivenNames x; first | (clear_value x; revert x; intro _) | (subst x))
    | ((with_reducible refine Frame.foldl ?_ (fun _ _ _ => ?_)))
    | ((with_reducible apply Frame.step (Dev.setLink_frame ..)); case hw => decide +kernel)
    | ((with_reducible apply Frame.step (Dev.put_frame ..)); case hw => decide +kernel)
    | split

theorem Dev.calDone_frame (d : Dev) (r : CalReq) (ok : Bool) (m : List Int) :
    Frame 0x19c02000ffe38000000080060880001008040000000000000000001de0000004001080000000807800000000000000000000400000000000000f8000040023c400000c4000000003108000c030e030c201410003680008a000000410600000000000002e3bf639d30 d (Dev.calDone d r ok m) := by
  unfold Dev.calDone
  repeat' first
    | (with_reducible assumption)
    | (with_reducible exact Frame.refl)
    | (extract_lets +onlyGivenNames x; first | (refine Frame.cut x ?_ (fun _ => ?_); rotate_left; clear_value x; revert x; intro _ _; rotate_left; subst x) | (clear_value x; revert x; intro _) | (subst x))
    | ((with_reducible refine Frame.foldl ?_ (fun _ _ _ => ?_)))
    | ((with_reducible apply Frame.step (Dev.record_frame ..)); case hw => decide +kernel)
    | ((with_reducible apply Frame.step (Dev.endCals_frame ..)); case hw => decide +kernel)
    | ((with_reducible apply Frame.step (Dev.unitFault_frame ..)); case hw => decide +kernel)
    | ((with_reducible apply Frame.step (Dev.calResult_frame ..)); case hw => decide +kernel)
    | ((with_reducible apply Frame.step (Dev.setService_frame ..)); case hw => decide +kernel)
    | ((with_reducible apply Frame.step (Dev.rebind_frame ..)); case hw => decide +kernel)
    | ((with_reducible apply Frame.step (Dev.put_frame ..)); case hw => decide +kernel)
    | ((with_reducible apply Frame.step (Dev.sliceServes_frame ..)); case hw => decide +kernel)
    | ((with_reducible apply Frame.step (Dev.pumpCal_frame ..)); case hw => decide +kernel)
    | split
    | ((with_reducible refine Frame.cal_of ?hw ?_); case hw => rfl)

/-! ### Hinge.lean -/

theorem Dev.modHinge_frame (d : Dev) (g : Hinge → Hinge) :
    Frame 0x20000000000 d (Dev.modHinge d g) := by
  unfold Dev.modHinge
  repeat' first
    | (with_reducible assumption)
    | (with_reducible exact Frame.refl)
    | ((with_reducible refine Frame.foldl ?_ (fun _ _ _ => ?_)))
    | split
    | ((with_reducible refine Frame.hinge_of ?hw ?_); case hw => rfl)

theorem Dev.catchUp_frame (d : Dev) (n seq k : Nat) : Frame 0x20000000000000000006080000000004000000000000000000000000000000000000000000000000000000000000000000000000000000000000000023c400000c4000000001328701abf01ff0c201420000000008a000000000000000000000000003e029504 d (Dev.catchUp d n seq k) := by
  induction k generalizing d with
  | zero => exact Frame.refl
  | succ k ih =>
    unfold Dev.catchUp
    repeat' split
    · refine Frame.trans ?_ (ih _)
      exact Frame.step (Dev.startPlan_frame ..) (by decide +kernel) (Frame.step (Dev.endPlan_frame ..) (by decide +kernel) Frame.refl)
    · exact Frame.trans (Frame.step (Dev.startPlan_frame ..) (by decide +kernel) Frame.refl) (ih _)
    · exact Frame.refl
    · exact Frame.step (Dev.startPlan_frame ..) (by decide +kernel) Frame.refl
    · exact Frame.refl
    · exact Frame.refl

theorem Dev.fallBack_frame (d : Dev) (n seq k : Nat) : Frame 0x100000000000000000000000000000000000000000000000000008000000 d (Dev.fallBack d n seq k) := by
  induction k generalizing d with
  | zero => exact Frame.refl
  | succ k ih =>
    unfold Dev.fallBack
    dsimp only
    split
    · split
      · exact Frame.trans (Frame.step (Dev.put_frame ..) (by decide +kernel) (Frame.step (Dev.modEng_frame ..) (by decide +kernel) Frame.refl)) (ih _)
      · exact Frame.refl
    · exact Frame.refl

theorem Dev.adoptEngine_frame (d : Dev) (n : Nat) (at' : Nat) :
    Frame 0x20000000000000000006080000000004000000000000000000000000000000000000000000000000000000000000000000000000000000000000000023c400000c4000000001328701abf01ff0c201420000000008a000000000000000000000000003e029504 d (Dev.adoptEngine d n at') := by
  unfold Dev.adoptEngine
  repeat' first
    | (with_reducible assumption)
    | (with_reducible exact Frame.refl)
    | (extract_lets +onlyGivenNames x; first | (refine Frame.cut x ?_ (fun _ => ?_); rotate_left; clear_value x; revert x; intro _ _; rotate_left; subst x) | (clear_value x; revert x; intro _) | (subst x))
    | ((with_reducible refine Frame.foldl ?_ (fun _ _ _ => ?_)))
    | ((with_reducible apply Frame.step (Dev.fallBack_frame ..)); case hw => rfl)
    | ((with_reducible apply Frame.step (Dev.catchUp_frame ..)); case hw => rfl)
    | ((with_reducible apply Frame.step (Dev.modEng_frame ..)); case hw => rfl)
    | split

theorem Dev.adoptAxis_frame (d : Dev) (a : Nat) (ago : Nat) :
    Frame 0x8000000000000000000000000000000000000000000000000000000000000000000000000000000000000000000000000000000000000000000000000100000000 d (Dev.adoptAxis d a ago) := by
  unfold Dev.adoptAxis
  repeat' first
    | (with_reducible assumption)
    | (with_reducible exact Frame.refl)
    | (extract_lets +onlyGivenNames x; first | (refine Frame.cut x ?_ (fun _ => ?_); rotate_left; clear_value x; revert x; intro _ _; rotate_left; subst x) | (clear_value x; revert x; intro _))
    | ((with_reducible refine Frame.foldl ?_ (fun _ _ _ => ?_)))
    | ((with_reducible apply Frame.step (Dev.modAxis_frame ..)); case hw => decide +kernel)
    | ((with_reducible apply Frame.step (Dev.puts_frame ..)); case hw => decide +kernel)

theorem Dev.adoptRecord_frame (d : Dev) (gs : List Gran) (at' : Nat) :
    Frame 0x20000000000000000006080000000004000000000000000000000000000000000000000000080000000000000000000000000000000000008000000023c400000c4000000001328701abf01ff0c201420000000008a000000000000000000000002013e029504 d (Dev.adoptRecord d gs at') := by
  unfold Dev.adoptRecord
  repeat' first
    | (with_reducible assumption)
    | (with_reducible exact Frame.refl)
    | (extract_lets +onlyGivenNames x; first | (refine Frame.cut x ?_ (fun _ => ?_); rotate_left; clear_value x; revert x; intro _ _; rotate_left; subst x) | (clear_value x; revert x; intro _) | (subst x))
    | ((with_reducible refine Frame.forAll (fun _ _ _ => ?_) ?_))
    | ((with_reducible refine Frame.foldl ?_ (fun _ _ _ => ?_)))
    | ((with_reducible apply Frame.step (Dev.modHinge_frame ..)); case hw => decide +kernel)
    | ((with_reducible apply Frame.step (Dev.adoptEngine_frame ..)); case hw => decide +kernel)
    | ((with_reducible apply Frame.step (Dev.setReqs_frame ..)); case hw => decide +kernel)
    | ((with_reducible apply Frame.step (Dev.put_frame ..)); case hw => decide +kernel)
    | ((with_reducible apply Frame.step (Dev.adoptAxis_frame ..)); case hw => decide +kernel)
    | split

theorem Dev.resumeEngine_frame (d : Dev) (n : Nat) :
    Frame 0x23c4000000000000000110800100100000000000000000000000000000000000000000000000028000000 d (Dev.resumeEngine d n) := by
  unfold Dev.resumeEngine
  repeat' first
    | (with_reducible assumption)
    | (with_reducible exact Frame.refl)
    | (extract_lets +onlyGivenNames x; first | (refine Frame.cut x ?_ (fun _ => ?_); rotate_left; clear_value x; revert x; intro _ _; rotate_left; subst x) | (clear_value x; revert x; intro _) | (subst x))
    | ((with_reducible refine Frame.foldl ?_ (fun _ _ _ => ?_)))
    | ((with_reducible apply Frame.step (Dev.forceGate_frame ..)); case hw => decide +kernel)
    | ((with_reducible apply Frame.step (Dev.modEng_frame ..)); case hw => decide +kernel)
    | ((with_reducible apply Frame.step (Dev.put_frame ..)); case hw => decide +kernel)
    | ((with_reducible apply Frame.step (Dev.modReq_frame ..)); case hw => decide +kernel)
    | ((with_reducible apply Frame.step (Dev.showState_frame ..)); case hw => decide +kernel)
    | ((with_reducible apply Frame.step (Dev.showKerf_frame ..)); case hw => decide +kernel)
    | split

theorem Dev.resumeTile_frame (d : Dev) (t : Nat) :
    Frame 0x20000000000000000000000000000000000000000000000000000000000000000000000000000000000000000000000000000000000000000000000000000000000000000000000000000000000000000000000008a0000000000000000000000000080020500 d (Dev.resumeTile d t) := by
  unfold Dev.resumeTile
  repeat' first
    | (with_reducible assumption)
    | (with_reducible exact Frame.refl)
    | (extract_lets +onlyGivenNames x; first | (refine Frame.cut x ?_ (fun _ => ?_); rotate_left; clear_value x; revert x; intro _ _; rotate_left; subst x) | (clear_value x; revert x; intro _) | (subst x))
    | ((with_reducible refine Frame.foldl ?_ (fun _ _ _ => ?_)))
    | ((with_reducible apply Frame.step (Dev.modTile_frame ..)); case hw => rfl)
    | ((with_reducible apply Frame.step (Dev.complete_frame ..)); case hw => rfl)
    | ((with_reducible apply Frame.step (Dev.modJob_frame ..)); case hw => rfl)
    | split

theorem Dev.resumeAxis_frame (d : Dev) (a : Nat) :
    Frame 0x800000000000000000000000000000000000000000000000000000000000000000000000000000000000000000000000000000000000000000000000000100000000 d (Dev.resumeAxis d a) := by
  unfold Dev.resumeAxis
  repeat' first
    | (with_reducible assumption)
    | (with_reducible exact Frame.refl)
    | ((with_reducible refine Frame.foldl ?_ (fun _ _ _ => ?_)))
    | ((with_reducible apply Frame.step (Dev.runTo_frame ..)); case hw => rfl)
    | split

theorem Dev.replacePeer_frame (d : Dev) (former : Nat) (new : Nat) :
    Frame 0x40000000000000010000000000000000000000000000000000000000000000000000000000000000000000000020000000 d (Dev.replacePeer d former new) := by
  unfold Dev.replacePeer
  repeat' first
    | (with_reducible assumption)
    | (with_reducible exact Frame.refl)
    | (extract_lets +onlyGivenNames x; first | (refine Frame.cut x ?_ (fun _ => ?_); rotate_left; clear_value x; revert x; intro _ _; rotate_left; subst x) | (clear_value x; revert x; intro _) | (subst x))
    | ((with_reducible refine Frame.forAll (fun _ _ _ => ?_) ?_))
    | ((with_reducible refine Frame.foldl ?_ (fun _ _ _ => ?_)))
    | ((with_reducible apply Frame.step (Dev.put_frame ..)); case hw => decide +kernel)
    | split
    | ((with_reducible refine Frame.kerf_of ?hw ?_); case hw => rfl)

theorem Dev.enterFenced_frame (d : Dev) :
    Frame 0x20000000000000000000000000101800000000000000000000002000000400108000000080780000000000000000000000000000000000000000000023c40000000000000001108000800000000000000000000008a000000000000000000000002e3af020500 d (Dev.enterFenced d) := by
  unfold Dev.enterFenced
  repeat' first
    | (with_reducible assumption)
    | (with_reducible exact Frame.refl)
    | (extract_lets +onlyGivenNames x; first | (refine Frame.cut x ?_ (fun _ => ?_); rotate_left; clear_value x; revert x; intro _ _; rotate_left; subst x) | (clear_value x; revert x; intro _) | (subst x))
    | ((with_reducible refine Frame.forAll (fun _ _ _ => ?_) ?_))
    | ((with_reducible refine Frame.foldl ?_ (fun _ _ _ => ?_)))
    | ((with_reducible apply Frame.step (Dev.outputsSafe_frame ..)); case hw => decide +kernel)
    | ((with_reducible apply Frame.step (Dev.clearStream_frame ..)); case hw => decide +kernel)
    | ((with_reducible apply Frame.step (Dev.discardRecs_frame ..)); case hw => decide +kernel)
    | ((with_reducible apply Frame.step (Dev.freezeContext_frame ..)); case hw => decide +kernel)
    | ((with_reducible apply Frame.step (Dev.complete_frame ..)); case hw => decide +kernel)
    | ((with_reducible apply Frame.step (Dev.modTile_frame ..)); case hw => decide +kernel)
    | ((with_reducible apply Frame.step (Dev.modHinge_frame ..)); case hw => decide +kernel)
    | ((with_reducible apply Frame.step (Dev.sendRecord_frame ..)); case hw => decide +kernel)
    | ((with_reducible apply Frame.step (Dev.lower_frame ..)); case hw => decide +kernel)
    | ((with_reducible apply Frame.step (Dev.put_frame ..)); case hw => decide +kernel)

theorem Dev.sendState_frame (d : Dev) (gs : List Gran) (more : Bool) :
    Frame 0x6000000 d (Dev.sendState d gs more) := by
  unfold Dev.sendState
  repeat' first
    | (with_reducible assumption)
    | (with_reducible exact Frame.refl)
    | ((with_reducible refine Frame.foldl ?_ (fun _ _ _ => ?_)))
    | ((with_reducible apply Frame.step (Dev.fabSend_frame ..)); case hw => rfl)

theorem Dev.sendSnapshot_frame (d : Dev) :
    Frame 0x6000000 d (Dev.sendSnapshot d) := by
  unfold Dev.sendSnapshot
  repeat' first
    | (with_reducible assumption)
    | (with_reducible exact Frame.refl)
    | ((with_reducible refine Frame.forAll (fun _ _ _ => ?_) ?_))
    | ((with_reducible refine Frame.foldl ?_ (fun _ _ _ => ?_)))
    | ((with_reducible apply Frame.step (Dev.sendState_frame ..)); case hw => rfl)
    | split

theorem Dev.takeSnapshot_frame (d : Dev) (gs : List Gran) : Frame 0x1000010000004000000000f800400000000000000000000000800000000000000000000000000000000000000000000000000000000000000000000000000000000020288000004 d (Dev.takeSnapshot d gs) := by
  have hcov : Fld.covers (fun f => f.reg == .VDR_STOP) 0x1000010000004000000000f800400000000000000000000000800000000000000000000000000000000000000000000000000000000000000000000000000000000020288000004 = true := by decide +kernel
  have hcov' : Fld.covers (fun f => (Reg.fields .VDR_STOP).contains f) 0x1000010000004000000000f800400000000000000000000000800000000000000000000000000000000000000000000000000000000000000000000000000000000020288000004 = true := by decide +kernel
  unfold Dev.takeSnapshot
  extract_lets +onlyGivenNames part
  split
  · refine Frame.forAll (fun x a h => ?_) (Frame.forAll (fun x ch h => ?_) Frame.refl)
    · refine Frame.step (Dev.put_frame ..) (by decide +kernel) (Frame.step (Dev.put_frame ..) (by decide +kernel) ?_)
      exact Frame.step (Dev.modEnc_frame ..) (by decide +kernel) (Frame.step (Dev.put_frame ..) (by decide +kernel) h)
    · dsimp only
      split
      · refine Frame.step (Dev.modEng_frame ..) (by decide +kernel) (Frame.forAll (fun _ _ h => ?_) h)
        exact Frame.step (Dev.put_frame ..) (by decide +kernel) h
      · exact h
  · split
    · extract_lets t d1 d2 d3 n d4
      have h2 : Frame 0x1000010000004000000000f800400000000000000000000000800000000000000000000000000000000000000000000000000000000000000000000000000000000020288000004 d d2 := Frame.resetFlds (fun f => f.reg == .VDR_STOP) (fun _ hc => (Bool.and_eq_true_iff.mp hc).1) hcov rfl
        (Frame.step (Dev.modTile_frame ..) (by decide +kernel) Frame.refl)
      have h3 : Frame 0x1000010000004000000000f800400000000000000000000000800000000000000000000000000000000000000000000000000000000000000000000000000000000020288000004 d d3 := Frame.forAll (fun x k h => Frame.foldl_mem h (fun y f hf hy =>
        hy.step' (Dev.put_frame ..) (Fld.within hcov' f (by simpa using hf)))) h2
      have h4 : Frame 0x1000010000004000000000f800400000000000000000000000800000000000000000000000000000000000000000000000000000000000000000000000000000000020288000004 d d4 := Frame.step (Dev.put_frame ..) (by decide +kernel) h3
      clear_value d4
      split
      · exact Frame.step (Dev.modHinge_frame ..) (by decide +kernel) h4
      · exact h4
    · exact Frame.refl

theorem Dev.copyOn_frame (d : Dev) :
    Frame 0x1024000000000000000000000000000000000000000000000000000000000000000000000000000000000000000020046000000 d (Dev.copyOn d) := by
  unfold Dev.copyOn
  repeat' first
    | (with_reducible assumption)
    | (with_reducible exact Frame.refl)
    | (extract_lets +onlyGivenNames x; first | (refine Frame.cut x ?_ (fun _ => ?_); rotate_left; clear_value x; revert x; intro _ _; rotate_left; subst x) | (refine Frame.cutFn x (fun _ _ => ?_) (fun _ => ?_); rotate_left; clear_value x; revert x; intro _ _; rotate_left; subst x) | (clear_value x; revert x; intro _) | (subst x))
    | ((with_reducible refine Frame.foldl ?_ (fun _ _ _ => ?_)))
    | ((with_reducible apply Frame.step (Dev.modHinge_frame ..)); case hw => rfl)
    | ((with_reducible apply Frame.step (Dev.cellErrors_frame ..)); case hw => rfl)
    | ((with_reducible apply Frame.step (Dev.fabSend_frame ..)); case hw => rfl)
    | (with_reducible apply_assumption -exfalso -symm)
    | split

theorem Dev.startCopy_frame (d : Dev) :
    Frame 0x1024000000000000000000000000000000000000000000000000000000000000000000000000000000000000000020046000000 d (Dev.startCopy d) := by
  unfold Dev.startCopy
  repeat' first
    | (with_reducible assumption)
    | (with_reducible exact Frame.refl)
    | ((with_reducible refine Frame.foldl ?_ (fun _ _ _ => ?_)))
    | ((with_reducible apply Frame.step (Dev.copyOn_frame ..)); case hw => rfl)
    | ((with_reducible apply Frame.step (Dev.modHinge_frame ..)); case hw => rfl)
    | split

theorem Dev.abandonCopy_frame (d : Dev) :
    Frame 0x20002000000 d (Dev.abandonCopy d) := by
  unfold Dev.abandonCopy
  repeat' first
    | (with_reducible assumption)
    | (with_reducible exact Frame.refl)
    | (extract_lets +onlyGivenNames x; refine Frame.cut x ?_ (fun _ => ?_); rotate_left; clear_value x; revert x; intro _ _; rotate_left; subst x)
    | ((with_reducible refine Frame.foldl ?_ (fun _ _ _ => ?_)))
    | ((with_reducible apply Frame.step (Dev.modHinge_frame ..)); case hw => rfl)
    | split
    | ((with_reducible refine Frame.fabOut_of ?hw ?_); case hw => rfl)

theorem Dev.askBist_frame (d : Dev) :
    Frame 0x20000200000 d (Dev.askBist d) := by
  unfold Dev.askBist
  repeat' first
    | (with_reducible assumption)
    | (with_reducible exact Frame.refl)
    | ((with_reducible refine Frame.foldl ?_ (fun _ _ _ => ?_)))
    | ((with_reducible apply Frame.step (Dev.askCover_frame ..)); case hw => rfl)
    | ((with_reducible apply Frame.step (Dev.modHinge_frame ..)); case hw => rfl)
    | split

/-! ### LayerCmds.lean -/

theorem Dev.releaseLayer_frame (d : Dev) (t : Nat) :
    Frame 0x2000000000000000000000000000000000000000000000200000000000000000000000000000000000000000000000000000000000000000000000000000000000000000000000000000000030c001400000000008a0000001000000000000000001006021500 d (Dev.releaseLayer d t) := by
  unfold Dev.releaseLayer
  repeat' first
    | (with_reducible assumption)
    | (with_reducible exact Frame.refl)
    | (extract_lets +onlyGivenNames x; first | (refine Frame.cut x ?_ (fun _ => ?_); rotate_left; clear_value x; revert x; intro _ _; rotate_left; subst x) | (clear_value x; revert x; intro _) | (subst x))
    | ((with_reducible refine Frame.foldl ?_ (fun _ _ _ => ?_)))
    | ((with_reducible apply Frame.step (Dev.modLayer_frame ..)); case hw => rfl)
    | ((with_reducible apply Frame.step (Dev.completeAt_frame ..)); case hw => rfl)
    | ((with_reducible apply Frame.step (Dev.timeIdle_frame ..)); case hw => rfl)
    | ((with_reducible apply Frame.step (Dev.enterState_frame ..)); case hw => rfl)
    | split

theorem Dev.lateRelease_frame (d : Dev) :
    Frame 0x2000000000000000000608000000000000000000000000200000000000000000000000000000000000000000000000000000000000000000000000000000000000000000000000000000000030c201400000000008a0000011000000000000000001006029500 d (Dev.lateRelease d) := by
  unfold Dev.lateRelease
  repeat' first
    | (with_reducible assumption)
    | (with_reducible exact Frame.refl)
    | (extract_lets +onlyGivenNames x; first | (refine Frame.cut x ?_ (fun _ => ?_); rotate_left; clear_value x; revert x; intro _ _; rotate_left; subst x) | (clear_value x; revert x; intro _) | (subst x))
    | ((with_reducible refine Frame.foldl ?_ (fun _ _ _ => ?_)))
    | ((with_reducible apply Frame.step (Dev.record_frame ..)); case hw => decide +kernel)
    | ((with_reducible apply Frame.step (Dev.raise_frame ..)); case hw => decide +kernel)
    | ((with_reducible apply Frame.step (Dev.releaseLayer_frame ..)); case hw => decide +kernel)
    | ((with_reducible apply Frame.step (Dev.occur_frame ..)); case hw => decide +kernel)

theorem Dev.recheckBarrier_frame (d : Dev) :
    Frame 0x2000000000000000000608000000000000000000000000200000000000000000000000000000000000000000000000000000000000000000000000000000000000000000000000000000000030c201400000000008a0001011000000000000000001006029500 d (Dev.recheckBarrier d) := by
  unfold Dev.recheckBarrier
  repeat' first
    | (with_reducible assumption)
    | (with_reducible exact Frame.refl)
    | (extract_lets +onlyGivenNames x; first | (refine Frame.cut x ?_ (fun _ => ?_); rotate_left; clear_value x; revert x; intro _ _; rotate_left; subst x) | (clear_value x; revert x; intro _))
    | ((with_reducible refine Frame.foldl ?_ (fun _ _ _ => ?_)))
    | ((with_reducible apply Frame.step (Dev.showReady_frame ..)); case hw => rfl)
    | ((with_reducible apply Frame.step (Dev.lateRelease_frame ..)); case hw => rfl)
    | ((with_reducible apply Frame.step (Dev.modLayer_frame ..)); case hw => rfl)
    | split

theorem Dev.enterBarrier_frame (d : Dev) :
    Frame 0x2000000000000000000608000000000000000000000000200000000000000000000000000000000000000000000000000000000000000000000000000000000000000000000000000000000030c201400000000008a0001011000000000000000001006029500 d (Dev.enterBarrier d) := by
  unfold Dev.enterBarrier
  repeat' first
    | (with_reducible assumption)
    | (with_reducible exact Frame.refl)
    | (extract_lets +onlyGivenNames x; first | (refine Frame.cut x ?_ (fun _ => ?_); rotate_left; clear_value x; revert x; intro _ _; rotate_left; subst x) | (clear_value x; revert x; intro _) | (subst x))
    | ((with_reducible refine Frame.foldl ?_ (fun _ _ _ => ?_)))
    | ((with_reducible apply Frame.step (Dev.enterState_frame ..)); case hw => rfl)
    | ((with_reducible apply Frame.step (Dev.modLayer_frame ..)); case hw => rfl)
    | ((with_reducible apply Frame.step (Dev.holdReady_frame ..)); case hw => rfl)
    | ((with_reducible apply Frame.step (Dev.fabBcast_frame ..)); case hw => rfl)
    | ((with_reducible apply Frame.step (Dev.recheckBarrier_frame ..)); case hw => rfl)
    | split

theorem Dev.layerEngine_frame (d : Dev) (n : Nat) :
    Frame 0x4000000000000000000000000000000000000000000000000000000000000000000000000000000008000000 d (Dev.layerEngine d n) := by
  unfold Dev.layerEngine
  repeat' first
    | (with_reducible assumption)
    | (with_reducible exact Frame.refl)
    | (extract_lets +onlyGivenNames x; first | (refine Frame.cut x ?_ (fun _ => ?_); rotate_left; clear_value x; revert x; intro _ _; rotate_left; subst x) | (clear_value x; revert x; intro _))
    | ((with_reducible refine Frame.foldl ?_ (fun _ _ _ => ?_)))
    | ((with_reducible apply Frame.step (Dev.lower_frame ..)); case hw => decide +kernel)
    | ((with_reducible apply Frame.step (Dev.modEng_frame ..)); case hw => decide +kernel)
    | split

theorem Dev.returnChannel_frame (d : Dev) (n : Nat) :
    Frame 0x100000000000000000000000000000000000000000000000018000000 d (Dev.returnChannel d n) := by
  unfold Dev.returnChannel
  repeat' first
    | (with_reducible assumption)
    | (with_reducible exact Frame.refl)
    | (extract_lets +onlyGivenNames x; first | (clear_value x; revert x; intro _) | (subst x))
    | ((with_reducible refine Frame.foldl ?_ (fun _ _ _ => ?_)))
    | ((with_reducible apply Frame.step (Dev.modEng_frame ..)); case hw => decide +kernel)
    | ((with_reducible apply Frame.step (Dev.put_frame ..)); case hw => decide +kernel)
    | ((with_reducible apply Frame.step (Dev.setLink_frame ..)); case hw => decide +kernel)
    | split

theorem Dev.returnEngine_frame (d : Dev) (u : Nat) :
    Frame 0x1002000000200000000800608000000000000000000000000000000000000000000000000000000000000000000000000000000000000000002000000000000000000000000000000000040100030c201410000000008a0000000106000000000000000016239d00 d (Dev.returnEngine d u) := by
  unfold Dev.returnEngine
  repeat' first
    | (with_reducible assumption)
    | (with_reducible exact Frame.refl)
    | (extract_lets +onlyGivenNames x; first | (clear_value x; revert x; intro _) | (subst x))
    | ((with_reducible refine Frame.foldl ?_ (fun _ _ _ => ?_)))
    | ((with_reducible apply Frame.step (Dev.faultOver_frame ..)); case hw => decide +kernel)
    | ((with_reducible apply Frame.step (Dev.rebind_frame ..)); case hw => decide +kernel)
    | ((with_reducible apply Frame.step (Dev.put_frame ..)); case hw => decide +kernel)
    | ((with_reducible apply Frame.step (Dev.setService_frame ..)); case hw => decide +kernel)
    | split

theorem Dev.returnSlice_frame (d : Dev) (u : Nat) :
    Frame 0x1002000000200000000800608000000000000000000000000000000000000000000000000000000000000000000000000000000000000000002000004000000000000000000000000000000100030c201410000000008a000000010600000000000000000e239d00 d (Dev.returnSlice d u) := by
  unfold Dev.returnSlice
  repeat' first
    | (with_reducible assumption)
    | (with_reducible exact Frame.refl)
    | (extract_lets +onlyGivenNames x; first | (clear_value x; revert x; intro _) | (subst x))
    | ((with_reducible refine Frame.foldl ?_ (fun _ _ _ => ?_)))
    | ((with_reducible apply Frame.step (Dev.faultOver_frame ..)); case hw => rfl)
    | ((with_reducible apply Frame.step (Dev.sliceServes_frame ..)); case hw => rfl)
    | ((with_reducible apply Frame.step (Dev.setService_frame ..)); case hw => rfl)
    | split

theorem Dev.retest_frame (d : Dev) (u : Nat) :
    Frame 0x10000 d (Dev.retest d u) := by
  unfold Dev.retest
  repeat' first
    | (with_reducible assumption)
    | (with_reducible exact Frame.refl)
    | (extract_lets +onlyGivenNames x; clear_value x; revert x; intro _)
    | ((with_reducible refine Frame.foldl ?_ (fun _ _ _ => ?_)))
    | ((with_reducible apply Frame.step (Dev.setIsland_frame ..)); case hw => rfl)
    | split

theorem Dev.tellAbsent_frame (d : Dev) :
    Frame 0x60800000000040000000000000000000000000000000000000000000000000000000000000000000000000000000000000000000000000c400000000000000000000030c2014000000000002000000000000000000000000002e009000 d (Dev.tellAbsent d) := by
  unfold Dev.tellAbsent
  repeat' first
    | (with_reducible assumption)
    | (with_reducible exact Frame.refl)
    | ((with_reducible refine Frame.forAll (fun _ _ _ => ?_) ?_))
    | ((with_reducible refine Frame.foldl ?_ (fun _ _ _ => ?_)))
    | ((with_reducible apply Frame.step (Dev.goAbsent_frame ..)); case hw => rfl)

theorem Dev.openWindow_frame (d : Dev) : Frame 0x1002000000200000001800608000000000400000000000000000000000000000000000000000000000000000000000000300000001024100002003004003c0000000fc000000001c0060040100030c201410000000008a00003011060000000000000202fe279d04 d (Dev.openWindow d) := by
  have hcov : Fld.covers (fun f => layerCounts.contains f.reg) 0x1002000000200000001800608000000000400000000000000000000000000000000000000000000000000000000000000300000001024100002003004003c0000000fc000000001c0060040100030c201410000000008a00003011060000000000000202fe279d04 = true := by decide +kernel
  unfold Dev.openWindow
  extract_lets d1 d2 d3 d4 d5 d5' d6 d7 d8 d9 d10 d11
  have h2 : Frame 0x1002000000200000001800608000000000400000000000000000000000000000000000000000000000000000000000000300000001024100002003004003c0000000fc000000001c0060040100030c201410000000008a00003011060000000000000202fe279d04 d d2 := Frame.step (Dev.modLayer_frame ..) (by decide +kernel)
    (Frame.step (Dev.putB_frame ..) (by decide +kernel) (Frame.step (Dev.sweepCells_frame ..) (by decide +kernel) Frame.refl))
  have h4 : Frame 0x1002000000200000001800608000000000400000000000000000000000000000000000000000000000000000000000000300000001024100002003004003c0000000fc000000001c0060040100030c201410000000008a00003011060000000000000202fe279d04 d d4 := Frame.step (Dev.latchWhere_frame ..) (by decide +kernel)
    (Frame.step (Dev.put_frame ..) (by decide +kernel) (Frame.step (Dev.put_frame ..) (by decide +kernel) h2))
  have h5 : Frame 0x1002000000200000001800608000000000400000000000000000000000000000000000000000000000000000000000000300000001024100002003004003c0000000fc000000001c0060040100030c201410000000008a00003011060000000000000202fe279d04 d d5 := Frame.step (Dev.lower_frame ..) (by decide +kernel)
    (Frame.resetFlds (fun f => layerCounts.contains f.reg) (fun _ hc => hc) hcov rfl h4)
  have h5' : Frame 0x1002000000200000001800608000000000400000000000000000000000000000000000000000000000000000000000000300000001024100002003004003c0000000fc000000001c0060040100030c201410000000008a00003011060000000000000202fe279d04 d d5' := Frame.when (fun _ h => Frame.step (Dev.cellErrors_frame ..) (by decide +kernel) h) h5
  have h6 : Frame 0x1002000000200000001800608000000000400000000000000000000000000000000000000000000000000000000000000300000001024100002003004003c0000000fc000000001c0060040100030c201410000000008a00003011060000000000000202fe279d04 d d6 := Frame.forAll (fun _ _ h => Frame.step (Dev.returnEngine_frame ..) (by decide +kernel)
    (Frame.step (Dev.returnChannel_frame ..) (by decide +kernel) (Frame.step (Dev.layerEngine_frame ..) (by decide +kernel) h))) h5'
  have h7 : Frame 0x1002000000200000001800608000000000400000000000000000000000000000000000000000000000000000000000000300000001024100002003004003c0000000fc000000001c0060040100030c201410000000008a00003011060000000000000202fe279d04 d d7 := Frame.forAll (fun _ _ h => Frame.step (Dev.returnSlice_frame ..) (by decide +kernel) h) h6
  have h8 : Frame 0x1002000000200000001800608000000000400000000000000000000000000000000000000000000000000000000000000300000001024100002003004003c0000000fc000000001c0060040100030c201410000000008a00003011060000000000000202fe279d04 d d8 := Frame.forAll (fun _ _ h => Frame.step (Dev.modTile_frame ..) (by decide +kernel) h) h7
  have h9 : Frame 0x1002000000200000001800608000000000400000000000000000000000000000000000000000000000000000000000000300000001024100002003004003c0000000fc000000001c0060040100030c201410000000008a00003011060000000000000202fe279d04 d d9 := Frame.forAll (fun _ _ h => Frame.step (Dev.modEnc_frame ..) (by decide +kernel) h) h8
  have h10 : Frame 0x1002000000200000001800608000000000400000000000000000000000000000000000000000000000000000000000000300000001024100002003004003c0000000fc000000001c0060040100030c201410000000008a00003011060000000000000202fe279d04 d d10 := Frame.forAll (fun _ _ h => Frame.step (Dev.retest_frame ..) (by decide +kernel) h) h9
  have h11 : Frame 0x1002000000200000001800608000000000400000000000000000000000000000000000000000000000000000000000000300000001024100002003004003c0000000fc000000001c0060040100030c201410000000008a00003011060000000000000202fe279d04 d d11 := Frame.forAll (fun _ _ h => Frame.step (Dev.startRelock_frame ..) (by decide +kernel) h) h10
  exact Frame.step (Dev.tellAbsent_frame ..) (by decide +kernel) (Frame.step (Dev.enterState_frame ..) (by decide +kernel)
    (Frame.step (Dev.sendSnapshot_frame ..) (by decide +kernel) (Frame.step (Dev.pumpCal_frame ..) (by decide +kernel)
    (Frame.step (Dev.askBist_frame ..) (by decide +kernel) (Frame.step (Dev.beginRetrain_frame ..) (by decide +kernel) h11)))))

theorem Dev.discardDark_frame (d : Dev) :
    Frame 0x20000000000000000000000000000000000000000000000000000000000000000000000000000000000000000000000000000000000000000000000000000000000000000000000000000000000000000000000008a0000000000000000000000000088020500 d (Dev.discardDark d) := by
  unfold Dev.discardDark
  repeat' first
    | (with_reducible assumption)
    | (with_reducible exact Frame.refl)
    | (extract_lets +onlyGivenNames x; first | (refine Frame.cut x ?_ (fun _ => ?_); rotate_left; clear_value x; revert x; intro _ _; rotate_left; subst x) | (clear_value x; revert x; intro _))
    | ((with_reducible refine Frame.foldl ?_ (fun _ _ _ => ?_)))
    | ((with_reducible apply Frame.step (Dev.modTile_frame ..)); case hw => rfl)
    | ((with_reducible apply Frame.step (Dev.dropRecs_frame ..)); case hw => rfl)
    | ((with_reducible apply Frame.step (Dev.complete_frame ..)); case hw => rfl)
    | split

theorem Dev.replay_frame (d : Dev) (phase : Nat) (p : Nat → Bool) :
    Frame 0x100 d (Dev.replay d phase p) := by
  unfold Dev.replay
  repeat' first
    | (with_reducible assumption)
    | (with_reducible exact Frame.refl)
    | ((with_reducible refine Frame.foldl ?_ (fun _ _ _ => ?_)))
    | split
    | ((with_reducible refine Frame.jobs_of ?hw ?_); case hw => rfl)

theorem Dev.forgetFrames_frame (d : Dev) :
    Frame 0x2000000000 d (Dev.forgetFrames d) := by
  unfold Dev.forgetFrames
  repeat' first
    | (with_reducible assumption)
    | (with_reducible exact Frame.refl)
    | ((with_reducible refine Frame.forAll (fun _ _ _ => ?_) ?_))
    | ((with_reducible refine Frame.foldl ?_ (fun _ _ _ => ?_)))
    | ((with_reducible apply Frame.step (Dev.modCam_frame ..)); case hw => rfl)

theorem Dev.repeatRecoat_frame (d : Dev) :
    Frame 0x30c00140000000000020000003000000000000000000006021100 d (Dev.repeatRecoat d) := by
  unfold Dev.repeatRecoat
  repeat' first
    | (with_reducible assumption)
    | (with_reducible exact Frame.refl)
    | (extract_lets +onlyGivenNames x; first | (refine Frame.cut x ?_ (fun _ => ?_); rotate_left; clear_value x; revert x; intro _ _; rotate_left; subst x) | (clear_value x; revert x; intro _) | (subst x))
    | ((with_reducible refine Frame.foldl ?_ (fun _ _ _ => ?_)))
    | ((with_reducible apply Frame.step (Dev.modLayer_frame ..)); case hw => decide +kernel)
    | ((with_reducible apply Frame.step (Dev.bump_frame ..)); case hw => decide +kernel)
    | ((with_reducible apply Frame.step (Dev.enterState_frame ..)); case hw => decide +kernel)
    | ((with_reducible apply Frame.step (Dev.replay_frame ..)); case hw => decide +kernel)

theorem Dev.leaveCheck_frame (d : Dev) :
    Frame 0x30c00140000000000020000005000000000000000000006001100 d (Dev.leaveCheck d) := by
  unfold Dev.leaveCheck
  repeat' first
    | (with_reducible assumption)
    | (with_reducible exact Frame.refl)
    | (extract_lets +onlyGivenNames x; first | (refine Frame.cut x ?_ (fun _ => ?_); rotate_left; clear_value x; revert x; intro _ _; rotate_left; subst x) | (subst x))
    | ((with_reducible refine Frame.foldl ?_ (fun _ _ _ => ?_)))
    | ((with_reducible apply Frame.step (Dev.enterState_frame ..)); case hw => decide +kernel)
    | ((with_reducible apply Frame.step (Dev.lower_frame ..)); case hw => decide +kernel)
    | split
    | ((with_reducible refine Frame.jobs_of ?hw ?_); case hw => rfl)

theorem Dev.powderCheck_frame (d : Dev) :
    Frame 0x608000000000000000000000000000000000000000000000000000000000000000000000000000000000000000000000000000000000000000000000000000000000030c20140000000000020000027000000000000000002006029100 d (Dev.powderCheck d) := by
  unfold Dev.powderCheck
  repeat' first
    | (with_reducible assumption)
    | (with_reducible exact Frame.refl)
    | (extract_lets +onlyGivenNames x; first | (refine Frame.cut x ?_ (fun _ => ?_); rotate_left; clear_value x; revert x; intro _ _; rotate_left; subst x) | (clear_value x; revert x; intro _) | (subst x))
    | ((with_reducible refine Frame.foldl ?_ (fun _ _ _ => ?_)))
    | ((with_reducible apply Frame.step (Dev.leaveCheck_frame ..)); case hw => decide +kernel)
    | ((with_reducible apply Frame.step (Dev.replay_frame ..)); case hw => decide +kernel)
    | ((with_reducible apply Frame.step (Dev.modLayer_frame ..)); case hw => decide +kernel)
    | ((with_reducible apply Frame.step (Dev.forgetFrames_frame ..)); case hw => decide +kernel)
    | ((with_reducible apply Frame.step (Dev.occur_frame ..)); case hw => decide +kernel)
    | ((with_reducible apply Frame.step (Dev.record_frame ..)); case hw => decide +kernel)
    | ((with_reducible apply Frame.step (Dev.raise_frame ..)); case hw => decide +kernel)
    | ((with_reducible apply Frame.step (Dev.repeatRecoat_frame ..)); case hw => decide +kernel)
    | split

theorem Dev.endPhase_frame (d : Dev) :
    Frame 0x2000000000000000000608000000000000000000000000200000000000000000000000000000000000000000000000000000000000000000000000000000000004000000000000000000000030c201400000000008a000103700000000000000000300e029500 d (Dev.endPhase d) := by
  unfold Dev.endPhase
  repeat' first
    | (with_reducible assumption)
    | (with_reducible exact Frame.refl)
    | (extract_lets +onlyGivenNames x; first | (refine Frame.cut x ?_ (fun _ => ?_); rotate_left; clear_value x; revert x; intro _ _; rotate_left; subst x) | (clear_value x; revert x; intro _) | (subst x))
    | ((with_reducible refine Frame.forAll (fun _ _ _ => ?_) ?_))
    | ((with_reducible refine Frame.foldl ?_ (fun _ _ _ => ?_)))
    | ((with_reducible apply Frame.step (Dev.forgetFrames_frame ..)); case hw => rfl)
    | ((with_reducible apply Frame.step (Dev.replay_frame ..)); case hw => rfl)
    | ((with_reducible apply Frame.step (Dev.enterState_frame ..)); case hw => rfl)
    | ((with_reducible apply Frame.step (Dev.modLayer_frame ..)); case hw => rfl)
    | ((with_reducible apply Frame.step (Dev.powderCheck_frame ..)); case hw => rfl)
    | ((with_reducible apply Frame.step (Dev.dropPasses_frame ..)); case hw => rfl)
    | ((with_reducible apply Frame.step (Dev.enterBarrier_frame ..)); case hw => rfl)
    | split

/-! ### HingeCmds.lean -/

theorem Dev.switchOver_frame (d : Dev) :
    Frame 0x608000000180000000000000000000000000000000000000000000000000000000000000000000000000000000000000000000000000000000000000000000000000030c20140000000000020000000000000000000000020007209000 d (Dev.switchOver d) := by
  unfold Dev.switchOver
  repeat' first
    | (with_reducible assumption)
    | (with_reducible exact Frame.refl)
    | (extract_lets +onlyGivenNames x; first | (refine Frame.cut x ?_ (fun _ => ?_); rotate_left; clear_value x; revert x; intro _ _; rotate_left; subst x) | (clear_value x; revert x; intro _) | (subst x))
    | ((with_reducible refine Frame.foldl ?_ (fun _ _ _ => ?_)))
    | ((with_reducible apply Frame.step (Dev.put_frame ..)); case hw => decide +kernel)
    | ((with_reducible apply Frame.step (Dev.modHinge_frame ..)); case hw => decide +kernel)
    | ((with_reducible apply Frame.step (Dev.lower_frame ..)); case hw => decide +kernel)
    | ((with_reducible apply Frame.step (Dev.record_frame ..)); case hw => decide +kernel)
    | split
    | ((with_reducible refine Frame.pins_of ?hw ?_); case hw => rfl)
    | ((with_reducible refine Frame.cal_of ?hw ?_); case hw => rfl)

theorem Dev.hearState_frame (d : Dev) (g : Nat) :
    Frame 0x20000000000000000006080000101800000000000000000000000000000000108000000080780000000000000000000000000000000000000000000023c4000000000000000110800000000030c201400000000008a00000000000000000000000203af229500 d (Dev.hearState d g) := by
  unfold Dev.hearState
  repeat' first
    | (with_reducible assumption)
    | (with_reducible exact Frame.refl)
    | (extract_lets +onlyGivenNames x; subst x)
    | ((with_reducible refine Frame.foldl ?_ (fun _ _ _ => ?_)))
    | ((with_reducible apply Frame.step (Dev.modHinge_frame ..)); case hw => decide +kernel)
    | ((with_reducible apply Frame.step (Dev.put_frame ..)); case hw => decide +kernel)
    | ((with_reducible apply Frame.step (Dev.complete_frame ..)); case hw => decide +kernel)
    | ((with_reducible apply Frame.step (Dev.hingeFail_frame ..)); case hw => decide +kernel)
    | ((with_reducible apply Frame.step (Dev.switchOver_frame ..)); case hw => decide +kernel)
    | split

theorem Dev.beatA_frame (d : Dev) :
    Frame 0x200000000000000000000000000000000000000000000000000000000000000000000000000000000000000000000000000000000000000000000000000000000000000000000000000000000000000000000020000000000 d (Dev.beatA d) := by
  unfold Dev.beatA
  repeat' first
    | (with_reducible assumption)
    | (with_reducible exact Frame.refl)
    | (extract_lets +onlyGivenNames x; refine Frame.cut x ?_ (fun _ => ?_); rotate_left; clear_value x; revert x; intro _ _; rotate_left; subst x)
    | ((with_reducible refine Frame.foldl ?_ (fun _ _ _ => ?_)))
    | ((with_reducible apply Frame.step (Dev.modHinge_frame ..)); case hw => decide +kernel)
    | ((with_reducible apply Frame.step (Dev.raise_frame ..)); case hw => decide +kernel)
    | split

theorem Dev.beatB_frame (d : Dev) :
    Frame 0x400000000000000000000000000000000000000000000000000000000000000000000000000000000000000000000000000000000000000000000000000000000000000000000000000000000000000000000020000000000 d (Dev.beatB d) := by
  unfold Dev.beatB
  repeat' first
    | (with_reducible assumption)
    | (with_reducible exact Frame.refl)
    | (extract_lets +onlyGivenNames x; refine Frame.cut x ?_ (fun _ => ?_); rotate_left; clear_value x; revert x; intro _ _; rotate_left; subst x)
    | ((with_reducible refine Frame.foldl ?_ (fun _ _ _ => ?_)))
    | ((with_reducible apply Frame.step (Dev.modHinge_frame ..)); case hw => decide +kernel)
    | ((with_reducible apply Frame.step (Dev.raise_frame ..)); case hw => decide +kernel)
    | split

theorem Dev.checkPathB_frame (d : Dev) (capture : Int) :
    Frame 0x608000008000000000000000000000000000000000000000000000000000000000000000000000000000000000000000000000000000000000000000000000000000030c20140000000000020000000000000000000000020006009000 d (Dev.checkPathB d capture) := by
  unfold Dev.checkPathB
  repeat' first
    | (with_reducible assumption)
    | (with_reducible exact Frame.refl)
    | (extract_lets +onlyGivenNames x; first | (refine Frame.cut x ?_ (fun _ => ?_); rotate_left; clear_value x; revert x; intro _ _; rotate_left; subst x) | (clear_value x; revert x; intro _) | (subst x))
    | ((with_reducible refine Frame.foldl ?_ (fun _ _ _ => ?_)))
    | ((with_reducible apply Frame.step (Dev.modHinge_frame ..)); case hw => decide +kernel)
    | ((with_reducible apply Frame.step (Dev.record_frame ..)); case hw => decide +kernel)
    | ((with_reducible apply Frame.step (Dev.raise_frame ..)); case hw => decide +kernel)
    | split

theorem Frame.pairIn {w : Nat} {dev0 : Dev} {d : Dev} {pathB : Bool} {f : Dev → Dev} (hw : Within 0x0 w)
    (f_h : ∀ x , Frame w dev0 x → Frame w dev0 (f x )) (h : Frame w dev0 d) :
    Frame w dev0 (Dev.pairIn d pathB f) := by
  unfold Dev.pairIn
  repeat' first
    | (with_reducible assumption)
    | (with_reducible exact Frame.refl)
    | (with_reducible refine f_h _ ?_)
    | ((with_reducible refine Frame.foldl ?_ (fun _ _ _ => ?_)))
    | ((with_reducible refine Frame.when (fun _ _ => ?_) ?_))

theorem Dev.losePath_frame (d : Dev) (pathB : Bool) :
    Frame 0x608000000f80000000000000000000000000000000000000000000000000000000000000000000000000000000000000000000000000000000000000000000000000030c20140000000000020000000000000000000000020007209000 d (Dev.losePath d pathB) := by
  unfold Dev.losePath
  repeat' first
    | (with_reducible assumption)
    | (with_reducible exact Frame.refl)
    | (extract_lets +onlyGivenNames x; first | (refine Frame.cut x ?_ (fun _ => ?_); rotate_left; clear_value x; revert x; intro _ _; rotate_left; subst x) | (subst x))
    | ((with_reducible refine Frame.foldl ?_ (fun _ _ _ => ?_)))
    | ((with_reducible apply Frame.step (Dev.modHinge_frame ..)); case hw => decide +kernel)
    | ((with_reducible apply Frame.step (Dev.lower_frame ..)); case hw => decide +kernel)
    | ((with_reducible apply Frame.step (Dev.occur_frame ..)); case hw => decide +kernel)
    | ((with_reducible apply Frame.step (Dev.record_frame ..)); case hw => decide +kernel)
    | ((with_reducible apply Frame.step (Dev.raise_frame ..)); case hw => decide +kernel)
    | ((with_reducible apply Frame.step (Dev.switchOver_frame ..)); case hw => decide +kernel)
    | split

theorem Dev.resumeAll_frame (d : Dev) :
    Frame 0x20000000000000000006080000000000000000000000002000000000000000000000000008000000000000000000000000000000000000000000000023c4000000000000000110800100100030c201400000000008a00010110000000000000000011ae029500 d (Dev.resumeAll d) := by
  unfold Dev.resumeAll
  repeat' first
    | (with_reducible assumption)
    | (with_reducible exact Frame.refl)
    | (extract_lets +onlyGivenNames x; first | (refine Frame.cut x ?_ (fun _ => ?_); rotate_left; clear_value x; revert x; intro _ _; rotate_left; subst x) | (clear_value x; revert x; intro _) | (subst x))
    | ((with_reducible refine Frame.forAll (fun _ _ _ => ?_) ?_))
    | ((with_reducible refine Frame.foldl ?_ (fun _ _ _ => ?_)))
    | ((with_reducible apply Frame.step (Dev.resumeAxis_frame ..)); case hw => rfl)
    | ((with_reducible apply Frame.step (Dev.resumeTile_frame ..)); case hw => rfl)
    | ((with_reducible apply Frame.step (Dev.resumeEngine_frame ..)); case hw => rfl)
    | ((with_reducible apply Frame.step (Dev.fabUnicast_frame ..)); case hw => rfl)
    | ((with_reducible apply Frame.step (Dev.recheckBarrier_frame ..)); case hw => rfl)
    | ((with_reducible apply Frame.step (Dev.holdReady_frame ..)); case hw => rfl)
    | ((with_reducible apply Frame.step (Dev.fabBcast_frame ..)); case hw => rfl)
    | ((with_reducible apply Frame.step (Dev.modLayer_frame ..)); case hw => rfl)
    | split

theorem Dev.copyIn_frame (d : Dev) (k : Nat) (gs : List Gran) (n : Nat) : Frame 0x20040000000 d (Dev.copyIn d k gs n) := by
  induction n with
  | zero => exact Frame.refl
  | succ n ih => exact ih.trans (Dev.setCell_frame ..)

/-! ### Fabric.lean -/

theorem Dev.modFabric_frame (d : Dev) (g : Fabric → Fabric) :
    Frame 0x10000000000 d (Dev.modFabric d g) := by
  unfold Dev.modFabric
  repeat' first
    | (with_reducible assumption)
    | (with_reducible exact Frame.refl)
    | ((with_reducible refine Frame.foldl ?_ (fun _ _ _ => ?_)))
    | split
    | ((with_reducible refine Frame.fabric_of ?hw ?_); case hw => rfl)

theorem Dev.modPort_frame (d : Dev) (p : Nat) (g : FabPort → FabPort) :
    Frame 0x10000000000 d (Dev.modPort d p g) := by
  unfold Dev.modPort
  repeat' first
    | (with_reducible assumption)
    | (with_reducible exact Frame.refl)
    | ((with_reducible refine Frame.foldl ?_ (fun _ _ _ => ?_)))
    | ((with_reducible apply Frame.step (Dev.modFabric_frame ..)); case hw => rfl)

theorem Dev.dropStuck_frame (d : Dev) :
    Frame 0x80000000000000000000000000000000000000000000000000000000000000000000000000000000000000000000000000000000000000000000000000000000000000000000000000000000000000000000002000000 d (Dev.dropStuck d) := by
  unfold Dev.dropStuck
  repeat' first
    | (with_reducible assumption)
    | (with_reducible exact Frame.refl)
    | (extract_lets +onlyGivenNames x; first | (clear_value x; revert x; intro _) | (subst x))
    | ((with_reducible refine Frame.foldl ?_ (fun _ _ _ => ?_)))
    | ((with_reducible apply Frame.step (Dev.bump_frame ..)); case hw => decide +kernel)
    | split
    | ((with_reducible refine Frame.fabOut_of ?hw ?_); case hw => rfl)

theorem Dev.sendFrame_frame (d : Dev) (p : Nat) (m : FabMsg) :
    Frame 0x10002000000 d (Dev.sendFrame d p m) := by
  unfold Dev.sendFrame
  repeat' first
    | (with_reducible assumption)
    | (with_reducible exact Frame.refl)
    | (extract_lets +onlyGivenNames x; first | (refine Frame.cut x ?_ (fun _ => ?_); rotate_left; clear_value x; revert x; intro _ _; rotate_left; subst x) | (clear_value x; revert x; intro _))
    | ((with_reducible refine Frame.foldl ?_ (fun _ _ _ => ?_)))
    | ((with_reducible apply Frame.step (Dev.modPort_frame ..)); case hw => rfl)
    | split
    | ((with_reducible refine Frame.fabOut_of ?hw ?_); case hw => rfl)

theorem Dev.reroute_frame (d : Dev) (id : Nat) :
    Frame 0x1800000000000000000000000000000000000000000000000000000000000000000000000000000000000000000000000000000000000000000000000000000000000000000000000000000000000000000010000000000 d (Dev.reroute d id) := by
  unfold Dev.reroute
  repeat' first
    | (with_reducible assumption)
    | (with_reducible exact Frame.refl)
    | (extract_lets +onlyGivenNames x; first | (clear_value x; revert x; intro _) | (subst x))
    | ((with_reducible refine Frame.forAll (fun _ _ _ => ?_) ?_))
    | ((with_reducible refine Frame.foldl ?_ (fun _ _ _ => ?_)))
    | ((with_reducible apply Frame.step (Dev.modPort_frame ..)); case hw => decide +kernel)
    | ((with_reducible apply Frame.step (Dev.put_frame ..)); case hw => decide +kernel)
    | split

theorem Dev.showDist_frame (d : Dev) :
    Frame 0x2000000000000000000000000000000000000000000000000000000000000000000000000000000000000000000000000000000000000000000000000000000000000000000000000000000000000000000000000 d (Dev.showDist d) := by
  unfold Dev.showDist
  repeat' first
    | (with_reducible assumption)
    | (with_reducible exact Frame.refl)
    | ((with_reducible refine Frame.foldl ?_ (fun _ _ _ => ?_)))
    | ((with_reducible apply Frame.step (Dev.put_frame ..)); case hw => decide +kernel)

theorem Dev.recompute_frame (d : Dev) :
    Frame 0x1800002000000000000000000000000000000000000000000000000000000000000000000000000000000000000000000000000000000000000000000000000000000000000000000000000000000000000010000000000 d (Dev.recompute d) := by
  unfold Dev.recompute
  repeat' first
    | (with_reducible assumption)
    | (with_reducible exact Frame.refl)
    | ((with_reducible refine Frame.forAll (fun _ _ _ => ?_) ?_))
    | ((with_reducible refine Frame.foldl ?_ (fun _ _ _ => ?_)))
    | ((with_reducible apply Frame.step (Dev.showDist_frame ..)); case hw => rfl)
    | ((with_reducible apply Frame.step (Dev.reroute_frame ..)); case hw => rfl)

theorem Dev.sendRoute_frame (d : Dev) (p : Nat) :
    Frame 0x10006000000 d (Dev.sendRoute d p) := by
  unfold Dev.sendRoute
  repeat' first
    | (with_reducible assumption)
    | (with_reducible exact Frame.refl)
    | (extract_lets +onlyGivenNames x; refine Frame.cut x ?_ (fun _ => ?_); rotate_left; clear_value x; revert x; intro _ _; rotate_left; subst x)
    | ((with_reducible refine Frame.foldl ?_ (fun _ _ _ => ?_)))
    | ((with_reducible apply Frame.step (Dev.fabSend_frame ..)); case hw => rfl)
    | ((with_reducible apply Frame.step (Dev.modPort_frame ..)); case hw => rfl)

theorem Dev.showHold_frame (d : Dev) :
    Frame 0x1000000000000000000000000000000000000000000000000000000000000000000000000000000000000000000000000000000000000000000000000000000000000000000000000000000000000000000001000000 d (Dev.showHold d) := by
  unfold Dev.showHold
  repeat' first
    | (with_reducible assumption)
    | (with_reducible exact Frame.refl)
    | (extract_lets +onlyGivenNames x; first | (refine Frame.cut x ?_ (fun _ => ?_); rotate_left; clear_value x; revert x; intro _ _; rotate_left; subst x) | (clear_value x; revert x; intro _) | (subst x))
    | ((with_reducible refine Frame.foldl ?_ (fun _ _ _ => ?_)))
    | ((with_reducible apply Frame.step (Dev.putB_frame ..)); case hw => decide +kernel)
    | split
    | ((with_reducible refine Frame.pins_of ?hw ?_); case hw => rfl)

theorem Dev.listen_frame (d : Dev) :
    Frame 0x1801002400000000000000000000000000000000000000000000000000000000000000000000000000000000000000000000000000000000000000000000000000000000000000000000000000000000000010001000000 d (Dev.listen d) := by
  unfold Dev.listen
  repeat' first
    | (with_reducible assumption)
    | (with_reducible exact Frame.refl)
    | (extract_lets +onlyGivenNames x; first | (refine Frame.cut x ?_ (fun _ => ?_); rotate_left; clear_value x; revert x; intro _ _; rotate_left; subst x) | (subst x))
    | ((with_reducible refine Frame.foldl ?_ (fun _ _ _ => ?_)))
    | ((with_reducible apply Frame.step (Dev.modFabric_frame ..)); case hw => decide +kernel)
    | ((with_reducible apply Frame.step (Dev.put_frame ..)); case hw => decide +kernel)
    | ((with_reducible apply Frame.step (Dev.recompute_frame ..)); case hw => decide +kernel)
    | ((with_reducible apply Frame.step (Dev.showHold_frame ..)); case hw => decide +kernel)

theorem Dev.announce_frame (d : Dev) (kind : Nat) :
    Frame 0x10006000000 d (Dev.announce d kind) := by
  unfold Dev.announce
  repeat' first
    | (with_reducible assumption)
    | (with_reducible exact Frame.refl)
    | ((with_reducible refine Frame.foldl ?_ (fun _ _ _ => ?_)))
    | ((with_reducible apply Frame.step (Dev.modFabric_frame ..)); case hw => rfl)
    | ((with_reducible apply Frame.step (Dev.fabBcast_frame ..)); case hw => rfl)

theorem Dev.joined_frame (d : Dev) :
    Frame 0x1801002600000000000000000000000000000000000000000000000000000000000000000000000000000000000000000000000000000000000000000000000000000000000000000000000000000000000010007000000 d (Dev.joined d) := by
  unfold Dev.joined
  repeat' first
    | (with_reducible assumption)
    | (with_reducible exact Frame.refl)
    | (extract_lets +onlyGivenNames x; first | (refine Frame.cut x ?_ (fun _ => ?_); rotate_left; clear_value x; revert x; intro _ _; rotate_left; subst x) | (subst x))
    | ((with_reducible refine Frame.foldl ?_ (fun _ _ _ => ?_)))
    | ((with_reducible apply Frame.step (Dev.put_frame ..)); case hw => decide +kernel)
    | ((with_reducible apply Frame.step (Dev.modFabric_frame ..)); case hw => decide +kernel)
    | ((with_reducible apply Frame.step (Dev.announce_frame ..)); case hw => decide +kernel)
    | ((with_reducible apply Frame.step (Dev.recompute_frame ..)); case hw => decide +kernel)
    | ((with_reducible apply Frame.step (Dev.showHold_frame ..)); case hw => decide +kernel)

theorem Dev.conflict_frame (d : Dev) (id : Nat) :
    Frame 0x608000000001801002c00000000000000000000000000000000000000000000000000000000000000000000000000000000000000000000000000000000000000000030c20140000000000020000000000000000000000010007009000 d (Dev.conflict d id) := by
  unfold Dev.conflict
  repeat' first
    | (with_reducible assumption)
    | (with_reducible exact Frame.refl)
    | (extract_lets +onlyGivenNames x; first | (refine Frame.cut x ?_ (fun _ => ?_); rotate_left; clear_value x; revert x; intro _ _; rotate_left; subst x) | (subst x))
    | ((with_reducible refine Frame.foldl ?_ (fun _ _ _ => ?_)))
    | ((with_reducible apply Frame.step (Dev.modFabric_frame ..)); case hw => decide +kernel)
    | ((with_reducible apply Frame.step (Dev.raise_frame ..)); case hw => decide +kernel)
    | ((with_reducible apply Frame.step (Dev.put_frame ..)); case hw => decide +kernel)
    | ((with_reducible apply Frame.step (Dev.occur_frame ..)); case hw => decide +kernel)
    | ((with_reducible apply Frame.step (Dev.record_frame ..)); case hw => decide +kernel)
    | ((with_reducible apply Frame.step (Dev.recompute_frame ..)); case hw => decide +kernel)
    | ((with_reducible apply Frame.step (Dev.showHold_frame ..)); case hw => decide +kernel)

theorem Dev.sameId_frame (d : Dev) (id : Nat) (serial : Nat) :
    Frame 0x608000000001801002c00000000000000000000000000000000000000000000000000000000000000000000000000000000000000000000000000000000000000000030c20140000000000020000000000000000000000010007009000 d (Dev.sameId d id serial) := by
  unfold Dev.sameId
  repeat' first
    | (with_reducible assumption)
    | (with_reducible exact Frame.refl)
    | ((with_reducible refine Frame.foldl ?_ (fun _ _ _ => ?_)))
    | ((with_reducible apply Frame.step (Dev.conflict_frame ..)); case hw => rfl)
    | split

theorem Dev.loseNeighbour_frame (d : Dev) (p : Nat) :
    Frame 0x1802802000000000000000000000000000000000000000000000000000000000000000000000000000000000000000000000000000000000000000000030c00140000000000020000000000000000000000010006001000 d (Dev.loseNeighbour d p) := by
  unfold Dev.loseNeighbour
  repeat' first
    | (with_reducible assumption)
    | (with_reducible exact Frame.refl)
    | (extract_lets +onlyGivenNames x; first | (refine Frame.cut x ?_ (fun _ => ?_); rotate_left; clear_value x; revert x; intro _ _; rotate_left; subst x) | (subst x))
    | ((with_reducible refine Frame.foldl ?_ (fun _ _ _ => ?_)))
    | ((with_reducible apply Frame.step (Dev.modPort_frame ..)); case hw => decide +kernel)
    | ((with_reducible apply Frame.step (Dev.recompute_frame ..)); case hw => decide +kernel)
    | ((with_reducible apply Frame.step (Dev.occur_frame ..)); case hw => decide +kernel)
    | ((with_reducible apply Frame.step (Dev.raise_frame ..)); case hw => decide +kernel)
    | ((with_reducible apply Frame.step (Dev.lower_frame ..)); case hw => decide +kernel)
    | split

theorem Dev.memberLeft_frame (d : Dev) (id : Nat) :
    Frame 0x2000000000000000000608000000002000000000000000200000000000000000000000000000000000000000000000000000000008000000000000000002000000000000000000000000000030c201400000000008a0001011000000000000000011026029500 d (Dev.memberLeft d id) := by
  unfold Dev.memberLeft
  repeat' first
    | (with_reducible assumption)
    | (with_reducible exact Frame.refl)
    | (extract_lets +onlyGivenNames x; first | (refine Frame.cut x ?_ (fun _ => ?_); rotate_left; clear_value x; revert x; intro _ _; rotate_left; subst x) | (clear_value x; revert x; intro _) | (subst x))
    | ((with_reducible refine Frame.foldl ?_ (fun _ _ _ => ?_)))
    | ((with_reducible apply Frame.step (Dev.modFabric_frame ..)); case hw => decide +kernel)
    | ((with_reducible apply Frame.step (Dev.raise_frame ..)); case hw => decide +kernel)
    | ((with_reducible apply Frame.step (Dev.recheckBarrier_frame ..)); case hw => decide +kernel)
    | ((with_reducible apply Frame.step (Dev.notSilent_frame ..)); case hw => decide +kernel)
    | split
    | ((with_reducible refine Frame.kerf_of ?hw ?_); case hw => rfl)

theorem Dev.bulkStep_frame (d : Dev) (t : BulkTx) :
    Frame 0x10002000000 d (Dev.bulkStep d t) := by
  unfold Dev.bulkStep
  repeat' first
    | (with_reducible assumption)
    | (with_reducible exact Frame.refl)
    | (extract_lets +onlyGivenNames x; refine Frame.cut x ?_ (fun _ => ?_); rotate_left; clear_value x; revert x; intro _ _; rotate_left; subst x)
    | ((with_reducible refine Frame.foldl ?_ (fun _ _ _ => ?_)))
    | ((with_reducible apply Frame.step (Dev.modFabric_frame ..)); case hw => rfl)
    | split
    | ((with_reducible refine Frame.fabOut_of ?hw ?_); case hw => rfl)

theorem Dev.pumpBulk_frame (d : Dev) :
    Frame 0x10002000000 d (Dev.pumpBulk d) := by
  unfold Dev.pumpBulk
  repeat' first
    | (with_reducible assumption)
    | (with_reducible exact Frame.refl)
    | ((with_reducible refine Frame.forAll (fun _ _ _ => ?_) ?_))
    | ((with_reducible refine Frame.foldl ?_ (fun _ _ _ => ?_)))
    | ((with_reducible apply Frame.step (Dev.bulkStep_frame ..)); case hw => rfl)

theorem Dev.endBulk_frame (d : Dev) (t : BulkTx) (code : Nat) :
    Frame 0x20000000000000000000000000000000000000000000000000000000000000000000000000000000000000000000000000000000000000000000000000000000000000000000000000000000000000000000000008a0000000000000000000000010002020500 d (Dev.endBulk d t code) := by
  unfold Dev.endBulk
  repeat' first
    | (with_reducible assumption)
    | (with_reducible exact Frame.refl)
    | (extract_lets +onlyGivenNames x; first | (refine Frame.cut x ?_ (fun _ => ?_); rotate_left; clear_value x; revert x; intro _ _; rotate_left; subst x) | (clear_value x; revert x; intro _) | (subst x))
    | ((with_reducible refine Frame.foldl ?_ (fun _ _ _ => ?_)))
    | ((with_reducible apply Frame.step (Dev.modFabric_frame ..)); case hw => rfl)
    | ((with_reducible apply Frame.step (Dev.pumpBulk_frame ..)); case hw => rfl)
    | ((with_reducible apply Frame.step (Dev.complete_frame ..)); case hw => rfl)
    | split
    | ((with_reducible refine Frame.fabOut_of ?hw ?_); case hw => rfl)

/-! ### FabCmds.lean -/

theorem Dev.writeFabCfg_frame (d : Dev) (fn : Nat) (value : Nat) :
    Frame 0x608000000001801003403c300000000002000000400008000000000200000000000000000020040000000000000000000000023c4000004000000000150800080100030c2014000036800002000000400000000000000001efaf029400 d (Dev.writeFabCfg d fn value) := by
  unfold Dev.writeFabCfg
  repeat' first
    | (with_reducible assumption)
    | (with_reducible exact Frame.refl)
    | (extract_lets +onlyGivenNames x; first | (refine Frame.cut x ?_ (fun _ => ?_); rotate_left; clear_value x; revert x; intro _ _; rotate_left; subst x) | (clear_value x; revert x; intro _) | (subst x))
    | ((with_reducible refine Frame.foldl ?_ (fun _ _ _ => ?_)))
    | ((with_reducible refine Frame.lockChecked ?hw (fun _ _ => ?_) ?_); case hw => decide +kernel)
    | ((with_reducible apply Frame.step (Dev.writeReg_frame ..)); case hw => decide +kernel)
    | ((with_reducible apply Frame.step (Dev.listen_frame ..)); case hw => decide +kernel)
    | ((with_reducible apply Frame.step (Dev.showHold_frame ..)); case hw => decide +kernel)
    | ((with_reducible apply Frame.step (Dev.modFabric_frame ..)); case hw => decide +kernel)
    | ((with_reducible apply Frame.step (Dev.put_frame ..)); case hw => decide +kernel)
    | split

theorem Dev.noteSeq_frame (d : Dev) (src : Nat) (tc : Nat) (seq : Nat) :
    Frame 0x10000000000 d (Dev.noteSeq d src tc seq) := by
  unfold Dev.noteSeq
  repeat' first
    | (with_reducible assumption)
    | (with_reducible exact Frame.refl)
    | (extract_lets +onlyGivenNames x; clear_value x; revert x; intro _)
    | ((with_reducible refine Frame.foldl ?_ (fun _ _ _ => ?_)))
    | ((with_reducible apply Frame.step (Dev.modFabric_frame ..)); case hw => rfl)

theorem Dev.bulkAck_frame (d : Dev) (dev : Nat) (seq : Nat) :
    Frame 0x6000000 d (Dev.bulkAck d dev seq) := by
  unfold Dev.bulkAck
  repeat' first
    | (with_reducible assumption)
    | (with_reducible exact Frame.refl)
    | ((with_reducible refine Frame.foldl ?_ (fun _ _ _ => ?_)))
    | ((with_reducible apply Frame.step (Dev.fabUnicast_frame ..)); case hw => rfl)

/-! ### Windows.lean -/

theorem Frame.ownWrite {w : Nat} {dev0 : Dev} {d : Dev} {w₁ : Nat} {fn : Nat} {g : Dev → Dev} (hw : Within 0x80000000000000000400000000000000000000000 w)
    (g_h : ∀ x , Frame w dev0 x → Frame w dev0 (g x )) (h : Frame w dev0 d) :
    Frame w dev0 (Dev.ownWrite d w₁ fn g) := by
  unfold Dev.ownWrite
  repeat' first
    | (with_reducible assumption)
    | (with_reducible exact Frame.refl)
    | (with_reducible refine g_h _ ?_)
    | ((with_reducible refine Frame.foldl ?_ (fun _ _ _ => ?_)))
    | ((with_reducible refine Frame.byFn ?hw (fun _ _ => ?_) ?_); case hw => exact Within.trans (b := 0x80000000000000000400000000000000000000000) rfl hw)
    | ((with_reducible apply Frame.step (Dev.bump_frame ..)); case hw => exact Within.trans (b := 0x80000000000000000400000000000000000000000) rfl hw)
    | (with_reducible apply_assumption -exfalso -symm)
    | split

theorem Dev.writeOwn_frame (d : Dev) (fn f k value : Nat) : Frame 0x6080000000000000000000300000000002000000400008000000000200000000000000000020040000000000000000000000023c4000004000000000150800080100030c201408003687c002000000400000000000000000efae029400 d (Dev.writeOwn d fn f k value) := by
  have hr : Within (ownReg k).mask 0x6080000000000000000000300000000002000000400008000000000200000000000000000020040000000000000000000000023c4000004000000000150800080100030c201408003687c002000000400000000000000000efae029400 := by
    unfold ownReg
    repeat' split
    all_goals decide +kernel
  unfold Dev.writeOwn
  dsimp only
  split
  · exact (Dev.reject_frame ..).mono hr
  · exact Frame.lockChecked (by decide +kernel) (fun _ h => h.step' (Dev.writeReg_frame ..) hr) Frame.refl

theorem Dev.settleWindow_frame (d : Dev) (f : Nat) (w : Nat) :
    Frame 0x80000003c000000000000000000000000000000000000 d (Dev.settleWindow d f w) := by
  unfold Dev.settleWindow
  repeat' first
    | (with_reducible assumption)
    | (with_reducible exact Frame.refl)
    | ((with_reducible refine Frame.foldl ?_ (fun _ _ _ => ?_)))
    | ((with_reducible apply Frame.step (Dev.reject_frame ..)); case hw => decide +kernel)
    | ((with_reducible apply Frame.step (Dev.lower_frame ..)); case hw => decide +kernel)
    | split

theorem Dev.writeWindow_frame (d : Dev) (fn : Nat) (r : Reg) (f : Nat) (w : Nat) (value : Nat) :
    Frame (0x6080000000000000000000300000000002000000400008000000000200000000000000000020040000000000000000000000023c4000004000000000150800080100030c2014080036803c02000000400000000000000000efae029400 ||| r.mask) d (Dev.writeWindow d fn r f w value) := by
  unfold Dev.writeWindow
  repeat' first
    | (with_reducible assumption)
    | (with_reducible exact Frame.refl)
    | ((with_reducible refine Frame.foldl ?_ (fun _ _ _ => ?_)))
    | ((with_reducible refine Frame.when (fun _ _ => ?_) ?_))
    | ((with_reducible refine Frame.lockChecked ?hw (fun _ _ => ?_) ?_); case hw => first | decide +kernel | exact Within.refl | assumption | exact Reg.mask_within (by decide +kernel) _ | (repeat' first | exact Within.refl | decide +kernel | exact Reg.mask_within (by decide +kernel) _ | exact Within.or_right Within.refl | refine Within.or ?_ ?_ | exact Within.or_left (by decide +kernel) | exact Within.or_right (by decide +kernel)))
    | ((with_reducible apply Frame.step (Dev.writeReg_frame ..)); case hw => first | decide +kernel | exact Within.refl | assumption | exact Reg.mask_within (by decide +kernel) _ | (repeat' first | exact Within.refl | decide +kernel | exact Reg.mask_within (by decide +kernel) _ | exact Within.or_right Within.refl | refine Within.or ?_ ?_ | exact Within.or_left (by decide +kernel) | exact Within.or_right (by decide +kernel)))
    | ((with_reducible apply Frame.step (Dev.settleWindow_frame ..)); case hw => first | decide +kernel | exact Within.refl | assumption | exact Reg.mask_within (by decide +kernel) _ | (repeat' first | exact Within.refl | decide +kernel | exact Reg.mask_within (by decide +kernel) _ | exact Within.or_right Within.refl | refine Within.or ?_ ?_ | exact Within.or_left (by decide +kernel) | exact Within.or_right (by decide +kernel)))

theorem Dev.writeStage_frame (d : Dev) (fn : Nat) (f : Nat) (value : Nat) :
    Frame 0x6080000000000000000000300000000002000000400008000000000200000000000000000020040000000000000000000000023c4000004000000000150800080100030c2014080036980002000000400000000000000000efae029400 d (Dev.writeStage d fn f value) := by
  unfold Dev.writeStage
  repeat' first
    | (with_reducible assumption)
    | (with_reducible exact Frame.refl)
    | ((with_reducible refine Frame.foldl ?_ (fun _ _ _ => ?_)))
    | ((with_reducible apply Frame.step (Dev.reject_frame ..)); case hw => decide +kernel)
    | ((with_reducible refine Frame.lockChecked ?hw (fun _ _ => ?_) ?_); case hw => decide +kernel)
    | ((with_reducible apply Frame.step (Dev.writeReg_frame ..)); case hw => decide +kernel)
    | split

theorem Dev.setMover_frame (d : Dev) (m : Nat) (x : Option Mover) : Frame 0x1000000000000000000000000000000000000000000800 d (Dev.setMover d m x) := by
  have h : Frame 0x1000000000000000000000000000000000000000000800 d (d.put .WIN_MOVER_STAT_BUSY (if x.isSome then setBit (d.get .WIN_MOVER_STAT_BUSY) m
      else clearBit (d.get .WIN_MOVER_STAT_BUSY) m)) := (Dev.put_frame ..).mono (by decide +kernel)
  exact Frame.movers_of rfl (fun hc => Tab.wf_set none _ m x hc.movers) h

theorem Dev.refuseRead_frame (d : Dev) (x : Mover) (c : Nat) :
    Frame 0x6080000000000000000000300000000002000000400008000000000200000000000000000020040000000000000000000000023c4000004000000000150800080100030c2014000036800002000000400000000000000000efae029500 d (Dev.refuseRead d x c) := by
  unfold Dev.refuseRead
  repeat' first
    | (with_reducible assumption)
    | (with_reducible exact Frame.refl)
    | (extract_lets +onlyGivenNames x; first | (clear_value x; revert x; intro _) | (subst x))
    | ((with_reducible refine Frame.foldl ?_ (fun _ _ _ => ?_)))
    | ((with_reducible apply Frame.step (Dev.freezeFn_frame ..)); case hw => rfl)
    | ((with_reducible apply Frame.step (Dev.modJob_frame ..)); case hw => rfl)
    | split

theorem Dev.freeMover_frame (d : Dev) (x : Mover) :
    Frame 0x1000000000000000000000000000000000000000000800 d (Dev.freeMover d x) := by
  unfold Dev.freeMover
  repeat' first
    | (with_reducible assumption)
    | (with_reducible exact Frame.refl)
    | ((with_reducible refine Frame.foldl ?_ (fun _ _ _ => ?_)))
    | ((with_reducible apply Frame.step (Dev.setMover_frame ..)); case hw => rfl)
    | split

/-! ### Rings.lean -/

theorem Dev.dbPut_frame (d : Dev) (f : Nat) (off : Nat) (v : Nat) :
    Frame 0x400410 d (Dev.dbPut d f off v) := by
  unfold Dev.dbPut
  repeat' first
    | (with_reducible assumption)
    | (with_reducible exact Frame.refl)
    | ((with_reducible refine Frame.foldl ?_ (fun _ _ _ => ?_)))
    | ((with_reducible apply Frame.step (Dev.hostOut_frame ..)); case hw => rfl)
    | split

theorem Frame.ringCfg {w : Nat} {d e : Dev} {r : Reg} {en : Fld} {f i value : Nat} {fits : Dev → Bool} {start : Dev → Dev}
    (hr : Within r.mask w) (he : Within en.bit w) (hg : ∀ x, Frame w d x → Frame w d (start x)) (h : Frame w d e) :
    Frame w d (e.ringCfg r en f i value fits start) := by
  unfold Dev.ringCfg
  extract_lets others want d1 d2
  have h1 : Frame w d d1 := by
    change Frame _ d (if _ then _ else _)
    split
    · exact h.step' (Dev.reject_frame ..) hr
    · exact h
  have h2 : Frame w d d2 := Frame.foldl_mem h (fun x f hf hx => hx.step' (Dev.writeField_of_mem _ r f _ _ _ (List.mem_filter.mp hf).1) hr)
  clear_value d1 d2
  repeat' split
  · exact h1
  · exact h1.step' (Dev.lower_frame ..) he
  · exact hg _ (h2.step' (Dev.raise_frame ..) he)
  · exact h2.step' (Dev.reject_frame ..) hr
  · exact h2

theorem Dev.stopFetch_frame (d : Dev) (f : Nat) (r : Nat) :
    Frame 0x1000000000000000000000000000000000000000000c00 d (Dev.stopFetch d f r) := by
  unfold Dev.stopFetch
  repeat' first
    | (with_reducible assumption)
    | (with_reducible exact Frame.refl)
    | (extract_lets +onlyGivenNames x; first | (clear_value x; revert x; intro _) | (subst x))
    | ((with_reducible refine Frame.foldl ?_ (fun _ _ _ => ?_)))
    | ((with_reducible apply Frame.step (Dev.freeMover_frame ..)); case hw => rfl)
    | ((with_reducible apply Frame.step (Dev.setSq_frame ..)); case hw => rfl)
    | split

theorem Dev.writeSqCfg_frame (d : Dev) (f : Nat) (r : Nat) (value : Nat) :
    Frame 0x1000000000060078000000000000000000000000000c00 d (Dev.writeSqCfg d f r value) := by
  unfold Dev.writeSqCfg
  repeat' first
    | (with_reducible assumption)
    | (with_reducible exact Frame.refl)
    | ((with_reducible refine Frame.foldl ?_ (fun _ _ _ => ?_)))
    | ((with_reducible apply Frame.step (Dev.showFlight_frame ..)); case hw => decide +kernel)
    | ((with_reducible apply Frame.step (Dev.stopFetch_frame ..)); case hw => decide +kernel)
    | ((with_reducible refine Frame.ringCfg ?hw ?hv (fun _ _ => ?_) ?_); (case hw => (first | decide +kernel | exact Within.refl | assumption | exact Reg.mask_within (by decide +kernel) _ | (repeat' first | exact Within.refl | decide +kernel | exact Reg.mask_within (by decide +kernel) _ | exact Within.or_right Within.refl | refine Within.or ?_ ?_ | exact Within.or_left (by decide +kernel) | exact Within.or_right (by decide +kernel)))); (case hv => (first | decide +kernel | exact Within.refl | assumption | exact Reg.mask_within (by decide +kernel) _ | (repeat' first | exact Within.refl | decide +kernel | exact Reg.mask_within (by decide +kernel) _ | exact Within.or_right Within.refl | refine Within.or ?_ ?_ | exact Within.or_left (by decide +kernel) | exact Within.or_right (by decide +kernel)))))
    | ((with_reducible apply Frame.step (Dev.setSq_frame ..)); case hw => decide +kernel)

theorem Dev.writeCqCfg_frame (d : Dev) (f : Nat) (c : Nat) (value : Nat) :
    Frame 0xc0600000000000000000000000000000400 d (Dev.writeCqCfg d f c value) := by
  unfold Dev.writeCqCfg
  repeat' first
    | (with_reducible assumption)
    | (with_reducible exact Frame.refl)
    | ((with_reducible refine Frame.foldl ?_ (fun _ _ _ => ?_)))
    | ((with_reducible apply Frame.step (Dev.showHoldCq_frame ..)); case hw => decide +kernel)
    | ((with_reducible refine Frame.ringCfg ?hw ?hv (fun _ _ => ?_) ?_); (case hw => (first | decide +kernel | exact Within.refl | assumption | exact Reg.mask_within (by decide +kernel) _ | (repeat' first | exact Within.refl | decide +kernel | exact Reg.mask_within (by decide +kernel) _ | exact Within.or_right Within.refl | refine Within.or ?_ ?_ | exact Within.or_left (by decide +kernel) | exact Within.or_right (by decide +kernel)))); (case hv => (first | decide +kernel | exact Within.refl | assumption | exact Reg.mask_within (by decide +kernel) _ | (repeat' first | exact Within.refl | decide +kernel | exact Reg.mask_within (by decide +kernel) _ | exact Within.or_right Within.refl | refine Within.or ?_ ?_ | exact Within.or_left (by decide +kernel) | exact Within.or_right (by decide +kernel)))))
    | ((with_reducible apply Frame.step (Dev.setCq_frame ..)); case hw => decide +kernel)

theorem Dev.writeEvqCfg_frame (d : Dev) (f : Nat) (value : Nat) :
    Frame 0x13000000000000000000000000000000000000000000000400 d (Dev.writeEvqCfg d f value) := by
  unfold Dev.writeEvqCfg
  repeat' first
    | (with_reducible assumption)
    | (with_reducible exact Frame.refl)
    | (extract_lets +onlyGivenNames x; clear_value x; revert x; intro _)
    | ((with_reducible refine Frame.foldl ?_ (fun _ _ _ => ?_)))
    | ((with_reducible refine Frame.ringCfg ?hw ?hv (fun _ _ => ?_) ?_); (case hw => (first | decide +kernel | exact Within.refl | assumption | exact Reg.mask_within (by decide +kernel) _ | (repeat' first | exact Within.refl | decide +kernel | exact Reg.mask_within (by decide +kernel) _ | exact Within.or_right Within.refl | refine Within.or ?_ ?_ | exact Within.or_left (by decide +kernel) | exact Within.or_right (by decide +kernel)))); (case hv => (first | decide +kernel | exact Within.refl | assumption | exact Reg.mask_within (by decide +kernel) _ | (repeat' first | exact Within.refl | decide +kernel | exact Reg.mask_within (by decide +kernel) _ | exact Within.or_right Within.refl | refine Within.or ?_ ?_ | exact Within.or_left (by decide +kernel) | exact Within.or_right (by decide +kernel)))))
    | ((with_reducible apply Frame.step (Dev.setFn_frame ..)); case hw => decide +kernel)

theorem Dev.writeRingBase_frame (d : Dev) (r : Reg) (en : Fld) (f : Nat) (i : Nat) (value : Nat) :
    Frame r.mask d (Dev.writeRingBase d r en f i value) := by
  unfold Dev.writeRingBase
  repeat' first
    | (with_reducible assumption)
    | (with_reducible exact Frame.refl)
    | ((with_reducible refine Frame.foldl ?_ (fun _ _ _ => ?_)))
    | ((with_reducible apply Frame.step (Dev.reject_frame ..)); case hw => first | decide +kernel | exact Within.refl)
    | ((with_reducible apply Frame.step (Dev.writeReg_frame ..)); case hw => first | decide +kernel | exact Within.refl)
    | split

theorem Dev.writeDbBase_frame (d : Dev) (f : Nat) (hi : Bool) (value : Nat) : Frame 0x41800000000000000000000000000000000 d (Dev.writeDbBase d f hi value) := by
  have hr : Within (if hi then Reg.HIF_DB_BASE_HI else Reg.HIF_DB_BASE_LO).mask 0x41800000000000000000000000000000000 := by
    cases hi <;> decide +kernel
  unfold Dev.writeDbBase
  dsimp only
  split
  · exact (Dev.reject_frame ..).mono hr
  · exact (Dev.writeReg_frame ..).mono hr

theorem Dev.writePoll_frame (d : Dev) (f : Nat) (value : Nat) :
    Frame 0x6e000000000000000000000000000000400 d (Dev.writePoll d f value) := by
  unfold Dev.writePoll
  repeat' first
    | (with_reducible assumption)
    | (with_reducible exact Frame.refl)
    | (extract_lets +onlyGivenNames x; first | (refine Frame.cut x ?_ (fun _ => ?_); rotate_left; clear_value x; revert x; intro _ _; rotate_left; subst x) | (clear_value x; revert x; intro _) | (subst x))
    | ((with_reducible refine Frame.foldl ?_ (fun _ _ _ => ?_)))
    | ((with_reducible apply Frame.step (Dev.reject_frame ..)); case hw => decide +kernel)
    | ((with_reducible apply Frame.step (Dev.put_frame ..)); case hw => decide +kernel)
    | ((with_reducible apply Frame.step (Dev.lower_frame ..)); case hw => decide +kernel)
    | ((with_reducible apply Frame.step (Dev.setFn_frame ..)); case hw => decide +kernel)
    | ((with_reducible apply Frame.step (Dev.raise_frame ..)); case hw => decide +kernel)
    | ((with_reducible apply Frame.step (Dev.showFlight_frame ..)); case hw => decide +kernel)
    | split

theorem Dev.noteTurn_frame (d : Dev) (f : Nat) (r : Nat) (slots : Nat) :
    Frame 0x400 d (Dev.noteTurn d f r slots) := by
  unfold Dev.noteTurn
  repeat' first
    | (with_reducible assumption)
    | (with_reducible exact Frame.refl)
    | (extract_lets +onlyGivenNames x; clear_value x; revert x; intro _)
    | ((with_reducible refine Frame.foldl ?_ (fun _ _ _ => ?_)))
    | ((with_reducible apply Frame.step (Dev.setFn_frame ..)); case hw => rfl)

theorem Dev.checkJob_frame (d : Dev) (j : Job) :
    Frame 0x6080000000000000000000300000000002000000400008000000000200000000000000000020040000000000000000000000023c4000004000000000150800080100030c2014000036800002000000400000000000000000efae029500 d (Dev.checkJob d j) := by
  unfold Dev.checkJob
  repeat' first
    | (with_reducible assumption)
    | (with_reducible exact Frame.refl)
    | (extract_lets +onlyGivenNames x; first | (refine Frame.cut x ?_ (fun _ => ?_); rotate_left; clear_value x; revert x; intro _ _; rotate_left; subst x) | (clear_value x; revert x; intro _))
    | ((with_reducible refine Frame.foldl ?_ (fun _ _ _ => ?_)))
    | ((with_reducible apply Frame.step (Dev.modJob_frame ..)); case hw => rfl)
    | ((with_reducible apply Frame.step (Dev.freezeFn_frame ..)); case hw => rfl)
    | split

theorem Dev.parseSlots_frame (d : Dev) (f r n : Nat) (gs : List Gran) : Frame 0x6080000000000000000000300000000002000000400008000000000200000000000000000020040000000000000000000000023c4000004000000000150800080100030c2014000036800002000000400000000000000000efae029700 d (Dev.parseSlots d f r n gs) := by
  induction n generalizing d gs with
  | zero => exact Frame.refl
  | succ n ih =>
    unfold Dev.parseSlots
    dsimp only
    split
    · exact Frame.refl
    · split
      · exact Frame.refl
      · refine Frame.trans ?_ (ih _ _)
        refine Frame.step (Dev.checkJob_frame ..) (by decide +kernel) (Frame.step (Dev.setSq_frame ..) (by decide +kernel) ?_)
        exact Frame.jobs_nextJob_of rfl rfl Frame.refl

theorem Dev.vfDisable_frame (d : Dev) :
    Frame 0x6080000000000000000000300000000002000000400008000000000200000000000000000020040000000000000000000000023c4000004000000000150800080100030c2014000036800002000000400000000000000000efae429400 d (Dev.vfDisable d) := by
  unfold Dev.vfDisable
  repeat' first
    | (with_reducible assumption)
    | (with_reducible exact Frame.refl)
    | (extract_lets +onlyGivenNames x; first | (refine Frame.cut x ?_ (fun _ => ?_); rotate_left; clear_value x; revert x; intro _ _; rotate_left; subst x) | (clear_value x; revert x; intro _) | (subst x))
    | ((with_reducible refine Frame.foldl ?_ (fun _ _ _ => ?_)))
    | ((with_reducible apply Frame.step (Dev.freezeFn_frame ..)); case hw => rfl)
    | ((with_reducible apply Frame.step (Dev.setFn_frame ..)); case hw => rfl)
    | split
    | ((with_reducible refine Frame.pcie_of ?hw ?_); case hw => rfl)

/-! ### Interrupts.lean -/

theorem Dev.showRunning_frame (d : Dev) (f : Nat) :
    Frame 0x4000000000000000000000000000000000000000000000000 d (Dev.showRunning d f) := by
  unfold Dev.showRunning
  repeat' first
    | (with_reducible assumption)
    | (with_reducible exact Frame.refl)
    | (extract_lets +onlyGivenNames x; clear_value x; revert x; intro _)
    | ((with_reducible refine Frame.foldl ?_ (fun _ _ _ => ?_)))
    | ((with_reducible apply Frame.step (Dev.put_frame ..)); case hw => decide +kernel)

theorem Dev.writeEvent_frame (d : Dev) (f : Nat) (w : Nat) :
    Frame 0x400410 d (Dev.writeEvent d f w) := by
  unfold Dev.writeEvent
  repeat' first
    | (with_reducible assumption)
    | (with_reducible exact Frame.refl)
    | (extract_lets +onlyGivenNames x; first | (refine Frame.cut x ?_ (fun _ => ?_); rotate_left; clear_value x; revert x; intro _ _; rotate_left; subst x) | (clear_value x; revert x; intro _))
    | ((with_reducible refine Frame.foldl ?_ (fun _ _ _ => ?_)))
    | ((with_reducible apply Frame.step (Dev.hostPut_frame ..)); case hw => rfl)
    | ((with_reducible apply Frame.step (Dev.setFn_frame ..)); case hw => rfl)

theorem Dev.deliver_frame (d : Dev) (f : Nat) (v : Nat) (aseq : Nat) (s : Nat) :
    Frame 0x1c0000000000000000000000000000000000000000409410 d (Dev.deliver d f v aseq s) := by
  unfold Dev.deliver
  repeat' first
    | (with_reducible assumption)
    | (with_reducible exact Frame.refl)
    | (extract_lets +onlyGivenNames x; first | (refine Frame.cut x ?_ (fun _ => ?_); rotate_left; clear_value x; revert x; intro _ _; rotate_left; subst x) | (clear_value x; revert x; intro _) | (subst x))
    | ((with_reducible refine Frame.foldl ?_ (fun _ _ _ => ?_)))
    | ((with_reducible apply Frame.step (Dev.writeEvent_frame ..)); case hw => decide +kernel)
    | ((with_reducible apply Frame.step (Dev.setSrc_frame ..)); case hw => decide +kernel)
    | ((with_reducible apply Frame.step (Dev.raise_frame ..)); case hw => decide +kernel)
    | ((with_reducible apply Frame.step (Dev.put_frame ..)); case hw => decide +kernel)
    | ((with_reducible apply Frame.step (Dev.lower_frame ..)); case hw => decide +kernel)
    | split
    | ((with_reducible refine Frame.recorder_of ?hw ?_); case hw => rfl)

theorem Dev.enterVec_frame (d : Dev) (f : Nat) (v : Nat) :
    Frame 0x3c041c000000000002000000000000000000000000000040b410 d (Dev.enterVec d f v) := by
  unfold Dev.enterVec
  repeat' first
    | (with_reducible assumption)
    | (with_reducible exact Frame.refl)
    | (extract_lets +onlyGivenNames x; first | (refine Frame.cut x ?_ (fun _ => ?_); rotate_left; clear_value x; revert x; intro _ _; rotate_left; subst x) | (clear_value x; revert x; intro _) | (subst x))
    | ((with_reducible refine Frame.foldl ?_ (fun _ _ _ => ?_)))
    | ((with_reducible apply Frame.step (Dev.deliver_frame ..)); case hw => decide +kernel)
    | ((with_reducible apply Frame.step (Dev.raise_frame ..)); case hw => decide +kernel)
    | ((with_reducible apply Frame.step (Dev.put_frame ..)); case hw => decide +kernel)
    | ((with_reducible apply Frame.step (Dev.dbPut_frame ..)); case hw => decide +kernel)
    | ((with_reducible apply Frame.step (Dev.setVec_frame ..)); case hw => decide +kernel)
    | ((with_reducible apply Frame.step (Dev.showFlight_frame ..)); case hw => decide +kernel)
    | ((with_reducible apply Frame.step (Dev.refreshVec_frame ..)); case hw => decide +kernel)
    | ((with_reducible apply Frame.step (Dev.showRunning_frame ..)); case hw => decide +kernel)

theorem Dev.exitVec_frame (d : Dev) (f : Nat) (v : Nat) :
    Frame 0x1c04080000000000000000000000000000000000000000002000 d (Dev.exitVec d f v) := by
  unfold Dev.exitVec
  repeat' first
    | (with_reducible assumption)
    | (with_reducible exact Frame.refl)
    | (extract_lets +onlyGivenNames x; first | (refine Frame.cut x ?_ (fun _ => ?_); rotate_left; clear_value x; revert x; intro _ _; rotate_left; subst x) | (clear_value x; revert x; intro _) | (subst x))
    | ((with_reducible refine Frame.foldl ?_ (fun _ _ _ => ?_)))
    | ((with_reducible apply Frame.step (Dev.lower_frame ..)); case hw => decide +kernel)
    | ((with_reducible apply Frame.step (Dev.refreshVec_frame ..)); case hw => decide +kernel)
    | ((with_reducible apply Frame.step (Dev.showRunning_frame ..)); case hw => decide +kernel)
    | ((with_reducible apply Frame.step (Dev.latchVec_frame ..)); case hw => decide +kernel)

theorem Dev.takeAck_frame (d : Dev) (f : Nat) (v : Nat) (w : Nat) :
    Frame 0x1c44080000000000000000000000000000000000000000002400 d (Dev.takeAck d f v w) := by
  unfold Dev.takeAck
  repeat' first
    | (with_reducible assumption)
    | (with_reducible exact Frame.refl)
    | (extract_lets +onlyGivenNames x; first | (refine Frame.cut x ?_ (fun _ => ?_); rotate_left; clear_value x; revert x; intro _ _; rotate_left; subst x) | (clear_value x; revert x; intro _))
    | ((with_reducible refine Frame.foldl ?_ (fun _ _ _ => ?_)))
    | ((with_reducible apply Frame.step (Dev.setFn_frame ..)); case hw => decide +kernel)
    | ((with_reducible apply Frame.step (Dev.exitVec_frame ..)); case hw => decide +kernel)
    | ((with_reducible apply Frame.step (Dev.bump_frame ..)); case hw => decide +kernel)
    | split

theorem Dev.takeHostState_frame (d : Dev) (f : Nat) (w : Nat) :
    Frame 0x200000000000000000000000000000000400 d (Dev.takeHostState d f w) := by
  unfold Dev.takeHostState
  repeat' first
    | (with_reducible assumption)
    | (with_reducible exact Frame.refl)
    | (extract_lets +onlyGivenNames x; first | (refine Frame.cut x ?_ (fun _ => ?_); rotate_left; clear_value x; revert x; intro _ _; rotate_left; subst x) | (clear_value x; revert x; intro _))
    | ((with_reducible refine Frame.foldl ?_ (fun _ _ _ => ?_)))
    | ((with_reducible apply Frame.step (Dev.raise_frame ..)); case hw => decide +kernel)
    | ((with_reducible apply Frame.step (Dev.setFn_frame ..)); case hw => decide +kernel)
    | split

theorem Dev.takePi_frame (d : Dev) (f : Nat) (r : Nat) (w : Nat) :
    Frame 0x6080000000000000000000300000000002000000400008000000000200000000000000000020040000000000000000000000023c4000004000000000150800080100030c2014000036800002000000400000000000000000efae029400 d (Dev.takePi d f r w) := by
  unfold Dev.takePi
  repeat' first
    | (with_reducible assumption)
    | (with_reducible exact Frame.refl)
    | (extract_lets +onlyGivenNames x; clear_value x; revert x; intro _)
    | ((with_reducible refine Frame.foldl ?_ (fun _ _ _ => ?_)))
    | ((with_reducible apply Frame.step (Dev.freezeFn_frame ..)); case hw => rfl)
    | ((with_reducible apply Frame.step (Dev.setSq_frame ..)); case hw => rfl)
    | split

theorem Dev.takePage_frame (d : Dev) (f : Nat) (ws : List Word) :
    Frame 0x6080000000000000000000300000000002000000400008000000000200000000000000000020040000000000000000000000023c4000004000000000150800080100031c641c00003680002a000000400000000000000000efae02b400 d (Dev.takePage d f ws) := by
  unfold Dev.takePage
  repeat' first
    | (with_reducible assumption)
    | (with_reducible exact Frame.refl)
    | (extract_lets +onlyGivenNames x; first | (refine Frame.cut x ?_ (fun _ => ?_); rotate_left; clear_value x; revert x; intro _ _; rotate_left; subst x) | (clear_value x; revert x; intro _) | (subst x))
    | ((with_reducible refine Frame.foldl ?_ (fun _ _ _ => ?_)))
    | ((with_reducible apply Frame.step (Dev.takeHostState_frame ..)); case hw => rfl)
    | ((with_reducible apply Frame.step (Dev.takeAck_frame ..)); case hw => rfl)
    | ((with_reducible apply Frame.step (Dev.setCq_frame ..)); case hw => rfl)
    | ((with_reducible apply Frame.step (Dev.setFn_frame ..)); case hw => rfl)
    | ((with_reducible apply Frame.step (Dev.takePi_frame ..)); case hw => rfl)
    | ((with_reducible apply Frame.step (Dev.refreshVec_frame ..)); case hw => rfl)
    | ((with_reducible apply Frame.step (Dev.showFlight_frame ..)); case hw => rfl)
    | ((with_reducible apply Frame.step (Dev.showHoldCq_frame ..)); case hw => rfl)
    | split

/-! ### Recorder.lean -/

theorem Dev.showLog_frame (d : Dev) :
    Frame 0x3d000000000000000000000000000000000000000000000000000000000000000000000000000000000000000000000000000000000000000000000000000000000000000000000000000000000000000000000000000000000000000 d (Dev.showLog d) := by
  unfold Dev.showLog
  repeat' first
    | (with_reducible assumption)
    | (with_reducible exact Frame.refl)
    | (extract_lets +onlyGivenNames x; first | (refine Frame.cut x ?_ (fun _ => ?_); rotate_left; clear_value x; revert x; intro _ _; rotate_left; subst x) | (clear_value x; revert x; intro _) | (subst x))
    | ((with_reducible refine Frame.foldl ?_ (fun _ _ _ => ?_)))
    | ((with_reducible apply Frame.step (Dev.putB_frame ..)); case hw => decide +kernel)
    | ((with_reducible apply Frame.step (Dev.put_frame ..)); case hw => decide +kernel)

theorem Dev.setSlot_frame (d : Dev) (k : Nat) (w : Nat) :
    Frame 0x80 d (Dev.setSlot d k w) := by
  unfold Dev.setSlot
  repeat' first
    | (with_reducible assumption)
    | (with_reducible exact Frame.refl)
    | (extract_lets +onlyGivenNames x; clear_value x; revert x; intro _)
    | ((with_reducible refine Frame.foldl ?_ (fun _ _ _ => ?_)))
    | split
    | ((with_reducible refine Frame.mram_of ?hw ?_); case hw => rfl)

theorem Dev.storeRec_frame (d : Dev) (k : Nat) (w : Nat) :
    Frame 0x8080 d (Dev.storeRec d k w) := by
  unfold Dev.storeRec
  repeat' first
    | (with_reducible assumption)
    | (with_reducible exact Frame.refl)
    | (extract_lets +onlyGivenNames x; first | (refine Frame.cut x ?_ (fun _ => ?_); rotate_left; clear_value x; revert x; intro _ _; rotate_left; subst x) | (clear_value x; revert x; intro _))
    | ((with_reducible refine Frame.foldl ?_ (fun _ _ _ => ?_)))
    | ((with_reducible apply Frame.step (Dev.setSlot_frame ..)); case hw => rfl)
    | split
    | ((with_reducible refine Frame.recorder_of ?hw ?_); case hw => rfl)

theorem Dev.settleClear_frame (d : Dev) :
    Frame 0x20000000000000000000000000000000000000000000000000000000000000000000000000000000000000000000000000000000000000000000000000000000000000000000000000000000000000000000000008a0000000000000000000000000000020500 d (Dev.settleClear d) := by
  unfold Dev.settleClear
  repeat' first
    | (with_reducible assumption)
    | (with_reducible exact Frame.refl)
    | ((with_reducible refine Frame.foldl ?_ (fun _ _ _ => ?_)))
    | ((with_reducible apply Frame.step (Dev.complete_frame ..)); case hw => rfl)
    | split

theorem Dev.blockFails_frame (d : Dev) (k : Nat) (r : Rec) :
    Frame 0x608800000000000000000000000000000000000000000000000000000000000000000000000000000000000000000000000000000000000000000000000000000000030c20140000000000020000000000000000000000000006009088 d (Dev.blockFails d k r) := by
  unfold Dev.blockFails
  repeat' first
    | (with_reducible assumption)
    | (with_reducible exact Frame.refl)
    | (extract_lets +onlyGivenNames x; first | (refine Frame.cut x ?_ (fun _ => ?_); rotate_left; clear_value x; revert x; intro _ _; rotate_left; subst x) | (clear_value x; revert x; intro _) | (subst x))
    | ((with_reducible refine Frame.foldl ?_ (fun _ _ _ => ?_)))
    | ((with_reducible apply Frame.step (Dev.freeNext_frame ..)); case hw => rfl)
    | ((with_reducible apply Frame.step (Dev.setSlot_frame ..)); case hw => rfl)
    | ((with_reducible apply Frame.step (Dev.record_frame ..)); case hw => rfl)
    | ((with_reducible apply Frame.step (Dev.degrade_frame ..)); case hw => rfl)
    | split
    | ((with_reducible refine Frame.mram_of ?hw ?_); case hw => rfl)
    | ((with_reducible refine Frame.recorder_of ?hw ?_); case hw => rfl)

theorem Dev.writeFirst_frame (d : Dev) (ok : Bool) :
    Frame 0x608800000000000000000000000000000000000000000000000000000000000000000000000000000000000000000000000000000000000000000000000000000000030c20140000000000020000000000000000000000000006009088 d (Dev.writeFirst d ok) := by
  unfold Dev.writeFirst
  repeat' first
    | (with_reducible assumption)
    | (with_reducible exact Frame.refl)
    | (extract_lets +onlyGivenNames x; first | (refine Frame.cut x ?_ (fun _ => ?_); rotate_left; clear_value x; revert x; intro _ _; rotate_left; subst x) | (clear_value x; revert x; intro _))
    | ((with_reducible refine Frame.foldl ?_ (fun _ _ _ => ?_)))
    | ((with_reducible apply Frame.step (Dev.countDrop_frame ..)); case hw => rfl)
    | ((with_reducible apply Frame.step (Dev.storeRec_frame ..)); case hw => rfl)
    | ((with_reducible apply Frame.step (Dev.blockFails_frame ..)); case hw => rfl)
    | split
    | ((with_reducible refine Frame.recorder_of ?hw ?_); case hw => rfl)

theorem Dev.clearRecs_frame (d : Dev) (p : Nat → Bool) : Frame 0x3d000000000000000000000000000000000000000000000000000000000000000000000000000000000000000000000000000000000000000000000000000000000000000000000000000000000000000000000000000000000000080 d (Dev.clearRecs d p).1 := by
  unfold Dev.clearRecs
  exact Frame.step (Dev.showLog_frame ..) (by decide +kernel) (Frame.mram_of rfl Frame.refl)

/-! ### Boot.lean -/

theorem Dev.wholeReset_frame (d : Dev) (cause : Nat) : Frame 0x1ffffffffffffffffffffffffffffffffffffffffffffffffffffffffffffffffffffffffffffffffffffffffffffffffffffffffffffffffffffffffffffffffffffffffffffffffffffffffffffffffffffffffffffffffffffffffffffffff000003ffffffffff d (Dev.wholeReset d cause) := by
  constructor
  case get =>
    intro f i j h
    rw [Fld.covers_spec (q := fun _ => true) (by decide +kernel) f rfl] at h
    exact absurd h (by simp)
  case canon =>
    exact fun hc => { host := hc.host, flash := hc.flash, regs := rfl, force := rfl, dram := rfl, hostFns := rfl, movers := rfl, srcs := rfl, vecs := rfl, islands := rfl, dramCh := rfl, sensors := rfl, fabSeq := rfl, engines := rfl, links := rfl, tiles := rfl, axes := rfl, encs := rfl, pulses := rfl, capts := rfl, cams := rfl, camPorts := rfl }
  all_goals exact fun h => absurd h (by decide +kernel)

theorem Dev.flrOne_frame (d : Dev) (f : Nat) (cause : Nat) :
    Frame 0x20000000000000000006080000000000000000000300000000002000000400008000000000200000000000000000020040000000000000000000000023c400000400000000015080008010003ffffffc000378000fffffe00400000000000000000efae02b504 d (Dev.flrOne d f cause) := by
  unfold Dev.flrOne
  repeat' first
    | (with_reducible assumption)
    | (with_reducible exact Frame.refl)
    | (extract_lets +onlyGivenNames x; first | (refine Frame.cut x ?_ (fun _ => ?_); rotate_left; clear_value x; revert x; intro _ _; rotate_left; subst x) | (clear_value x; revert x; intro _))
    | ((with_reducible refine Frame.foldl ?_ (fun _ _ _ => ?_)))
    | ((with_reducible apply Frame.step (Dev.setFn_frame ..)); case hw => rfl)
    | ((with_reducible apply Frame.step (Dev.freezeFn_frame ..)); case hw => rfl)
    | ((with_reducible apply Frame.step (Dev.finishFlr_frame ..)); case hw => rfl)
    | split

theorem Dev.showSlotFw_frame (d : Dev) (k : Nat) :
    Frame 0x38000000000000000000000000000000000000000000000000000000000000000000000000000000000000000000000000000000000000000000000000000000000000000000000000000000000000000000000000000000000000000000000000000000000000 d (Dev.showSlotFw d k) := by
  unfold Dev.showSlotFw
  repeat' first
    | (with_reducible assumption)
    | (with_reducible exact Frame.refl)
    | (extract_lets +onlyGivenNames x; first | (clear_value x; revert x; intro _) | (subst x))
    | ((with_reducible refine Frame.foldl ?_ (fun _ _ _ => ?_)))
    | ((with_reducible apply Frame.step (Dev.putB_frame ..)); case hw => decide +kernel)
    | ((with_reducible apply Frame.step (Dev.put_frame ..)); case hw => decide +kernel)

theorem Dev.bootIdentity_frame (d : Dev) (straps : BitVec 3) :
    Frame 0x41000000000000000000800000000000600000004000000000000000000000000000000000000000000000000000000000000000000000000000000000000000000000000000000000000000000000000000000000000000000001dc007e00000000000000000 d (Dev.bootIdentity d straps) := by
  unfold Dev.bootIdentity
  repeat' first
    | (with_reducible assumption)
    | (with_reducible exact Frame.refl)
    | (extract_lets +onlyGivenNames x; first | (refine Frame.cut x ?_ (fun _ => ?_); rotate_left; clear_value x; revert x; intro _ _; rotate_left; subst x) | (clear_value x; revert x; intro _) | (subst x))
    | ((with_reducible refine Frame.foldl ?_ (fun _ _ _ => ?_)))
    | ((with_reducible apply Frame.step (Dev.put_frame ..)); case hw => decide +kernel)
    | ((with_reducible apply Frame.step (Dev.putB_frame ..)); case hw => decide +kernel)

theorem Dev.bootGeom_frame (d : Dev) (c : Nat) (here : Bool) (dev : Nat) :
    Frame 0x7fe000000000000000000000000000000000000000000000000000000000000000000000000000000000000000000000000000000000000000000000000000000000000000000000000000000000000000000000000000000000000000000 d (Dev.bootGeom d c here dev) := by
  unfold Dev.bootGeom
  repeat' first
    | (with_reducible assumption)
    | (with_reducible exact Frame.refl)
    | (extract_lets +onlyGivenNames x; first | (refine Frame.cut x ?_ (fun _ => ?_); rotate_left; clear_value x; revert x; intro _ _; rotate_left; subst x) | (clear_value x; revert x; intro _) | (subst x))
    | ((with_reducible refine Frame.foldl ?_ (fun _ _ _ => ?_)))
    | ((with_reducible apply Frame.step (Dev.put_frame ..)); case hw => decide +kernel)
    | ((with_reducible apply Frame.step (Dev.putB_frame ..)); case hw => decide +kernel)

theorem Dev.bootTrain_frame (d : Dev) (c : Nat) (ok : Bool) :
    Frame 0x5000000000000000001800608000000000000000000000000000000000000000000000000000000000000000000000000000000000000000002000000000000000000000000000000000000100030c20141000000000020000000106000000000000000006059c08 d (Dev.bootTrain d c ok) := by
  unfold Dev.bootTrain
  repeat' first
    | (with_reducible assumption)
    | (with_reducible exact Frame.refl)
    | (extract_lets +onlyGivenNames x; first | (refine Frame.cut x ?_ (fun _ => ?_); rotate_left; clear_value x; revert x; intro _ _; rotate_left; subst x) | (clear_value x; revert x; intro _) | (subst x))
    | ((with_reducible refine Frame.foldl ?_ (fun _ _ _ => ?_)))
    | ((with_reducible apply Frame.step (Dev.setService_frame ..)); case hw => decide +kernel)
    | ((with_reducible apply Frame.step (Dev.trained_frame ..)); case hw => decide +kernel)
    | ((with_reducible apply Frame.step (Dev.freeNext_frame ..)); case hw => decide +kernel)
    | ((with_reducible apply Frame.step (Dev.record_frame ..)); case hw => decide +kernel)
    | ((with_reducible apply Frame.step (Dev.raise_frame ..)); case hw => decide +kernel)
    | ((with_reducible apply Frame.step (Dev.setIsland_frame ..)); case hw => decide +kernel)
    | split

theorem Dev.bootUnits_frame (d : Dev) (cal : List (List Int)) (dowels : List Int) :
    Frame 0x19c02007ffe38000000080060880001008040000000000000000001de0000004001080000000807800000000000000000000400000000000000f8000040023c400000c40000000031c8000c030e030c201410003680008a000000410600000000000002e3bf639d30 d (Dev.bootUnits d cal dowels) := by
  unfold Dev.bootUnits
  repeat' first
    | (with_reducible assumption)
    | (with_reducible exact Frame.refl)
    | (extract_lets +onlyGivenNames x; first | (refine Frame.cut x ?_ (fun _ => ?_); rotate_left; clear_value x; revert x; intro _ _; rotate_left; subst x) | (clear_value x; revert x; intro _) | (subst x))
    | ((with_reducible refine Frame.foldl ?_ (fun _ _ _ => ?_)))
    | ((with_reducible apply Frame.step (Dev.put_frame ..)); case hw => decide +kernel)
    | ((with_reducible apply Frame.step (Dev.setIsland_frame ..)); case hw => decide +kernel)
    | ((with_reducible apply Frame.step (Dev.puts_frame ..)); case hw => decide +kernel)
    | ((with_reducible refine Frame.when (fun _ _ => ?_) ?_))
    | ((with_reducible apply Frame.step (Dev.setService_frame ..)); case hw => decide +kernel)
    | ((with_reducible apply Frame.step (Dev.setLink_frame ..)); case hw => decide +kernel)
    | ((with_reducible apply Frame.step (Dev.raise_frame ..)); case hw => decide +kernel)
    | ((with_reducible apply Frame.step (Dev.calDone_frame ..)); case hw => decide +kernel)
    | split

theorem Dev.enterRecovery_frame (d : Dev) :
    Frame 0x40000000000000000608000000000000000000000000000000000000000000000000000000000000000000000000000000000000000000000000000000000000000000000000000000000030c20140000000000020000000000000000000000000006009000 d (Dev.enterRecovery d) := by
  unfold Dev.enterRecovery
  repeat' first
    | (with_reducible assumption)
    | (with_reducible exact Frame.refl)
    | ((with_reducible refine Frame.foldl ?_ (fun _ _ _ => ?_)))
    | ((with_reducible apply Frame.step (Dev.record_frame ..)); case hw => decide +kernel)
    | ((with_reducible apply Frame.step (Dev.raise_frame ..)); case hw => decide +kernel)

theorem Dev.bootFrom_frame (d : Dev) (k : Nat) (cal : List (List Int)) (dowels : List Int) (dramOk : List Bool) :
    Frame 0x1ffffffffffffffffffffffffffffffffffffffffffffffffffffffffffffffffffffffffffffffffffffffffffffffffffffffffffffffffffffffffffffffffffffffffffffffffffffffffffffffffffffffffffffffffffffffffffffffff000002e3bf679d38 d (Dev.bootFrom d k cal dowels dramOk) := by
  have hcov : Fld.covers (fun _ => true) 0x1ffffffffffffffffffffffffffffffffffffffffffffffffffffffffffffffffffffffffffffffffffffffffffffffffffffffffffffffffffffffffffffffffffffffffffffffffffffffffffffffffffffffffffffffffffffffffffffffff000002e3bf679d38 = true := by decide +kernel
  unfold Dev.bootFrom
  extract_lets d1 d2 c d3 d4 d5
  have h1 : Frame 0x1ffffffffffffffffffffffffffffffffffffffffffffffffffffffffffffffffffffffffffffffffffffffffffffffffffffffffffffffffffffffffffffffffffffffffffffffffffffffffffffffffffffffffffffffffffffffffffffffff000002e3bf679d38 d d1 := Frame.step (Dev.put_frame ..) (by decide +kernel) Frame.refl
  have h2 : Frame 0x1ffffffffffffffffffffffffffffffffffffffffffffffffffffffffffffffffffffffffffffffffffffffffffffffffffffffffffffffffffffffffffffffffffffffffffffffffffffffffffffffffffffffffffffffffffffffffffffffff000002e3bf679d38 d d2 := by
    change Frame _ d (if _ then _ else _)
    split
    · exact h1
    · exact Frame.step (Dev.record_frame ..) (by decide +kernel) (Frame.step (Dev.raise_frame ..) (by decide +kernel) h1)
  have h3 : Frame 0x1ffffffffffffffffffffffffffffffffffffffffffffffffffffffffffffffffffffffffffffffffffffffffffffffffffffffffffffffffffffffffffffffffffffffffffffffffffffffffffffffffffffffffffffffffffffffffffffffff000002e3bf679d38 d d3 := Frame.step (Dev.bootGeom_frame ..) (by decide +kernel) (Frame.step (Dev.bootGeom_frame ..) (by decide +kernel) h2)
  have h4 : Frame 0x1ffffffffffffffffffffffffffffffffffffffffffffffffffffffffffffffffffffffffffffffffffffffffffffffffffffffffffffffffffffffffffffffffffffffffffffffffffffffffffffffffffffffffffffffffffffffffffffffff000002e3bf679d38 d d4 := Frame.bringFlds (fun _ => true) (fun _ _ => rfl) hcov rfl (Frame.step (Dev.bootUnits_frame ..) (by decide +kernel) h3)
  have h5 : Frame 0x1ffffffffffffffffffffffffffffffffffffffffffffffffffffffffffffffffffffffffffffffffffffffffffffffffffffffffffffffffffffffffffffffffffffffffffffffffffffffffffffffffffffffffffffffffffffffffffffffff000002e3bf679d38 d d5 := Frame.step (Dev.bootTrain_frame ..) (by decide +kernel) (Frame.step (Dev.bootTrain_frame ..) (by decide +kernel) h4)
  exact Frame.step (Dev.raise_frame ..) (by decide +kernel) h5

theorem Dev.boot_frame (d : Dev) (straps : BitVec 3) (cal : List (List Int)) (dowels : List Int) (dramOk : List Bool) :
    Frame 0x1ffffffffffffffffffffffffffffffffffffffffffffffffffffffffffffffffffffffffffffffffffffffffffffffffffffffffffffffffffffffffffffffffffffffffffffffffffffffffffffffffffffffffffffffffffffffffffffffff000002e3bfe79d38 d (Dev.boot d straps cal dowels dramOk) := by
  unfold Dev.boot
  repeat' first
    | (with_reducible assumption)
    | (with_reducible exact Frame.refl)
    | (extract_lets +onlyGivenNames x; first | (refine Frame.cut x ?_ (fun _ => ?_); rotate_left; clear_value x; revert x; intro _ _; rotate_left; subst x) | (clear_value x; revert x; intro _) | (subst x))
    | ((with_reducible refine Frame.foldl ?_ (fun _ _ _ => ?_)))
    | ((with_reducible apply Frame.step (Dev.raise_frame ..)); case hw => decide +kernel)
    | ((with_reducible apply Frame.step (Dev.setService_frame ..)); case hw => decide +kernel)
    | ((with_reducible apply Frame.step (Dev.bootIdentity_frame ..)); case hw => decide +kernel)
    | ((with_reducible apply Frame.step (Dev.showLog_frame ..)); case hw => decide +kernel)
    | ((with_reducible apply Frame.step (Dev.record_frame ..)); case hw => decide +kernel)
    | ((with_reducible apply Frame.step (Dev.showSlotFw_frame ..)); case hw => decide +kernel)
    | ((with_reducible apply Frame.step (Dev.enterRecovery_frame ..)); case hw => decide +kernel)
    | ((with_reducible apply Frame.step (Dev.bootFrom_frame ..)); case hw => decide +kernel)
    | split
    | refine Frame.pcie_mgmt_of rfl rfl ?_

/-! ### Recovery.lean -/

theorem Dev.faultUnit_frame (d : Dev) (u : Nat) (cause : Nat) :
    Frame 0x19c0200000038000000180060880001008040000000000000000001de0000004001080000000807800000000000000000000400000000000000f8000040023c400000c4000000001108000c0300030c201410003680008a000000410600000000000002e3af639d30 d (Dev.faultUnit d u cause) := by
  unfold Dev.faultUnit
  repeat' first
    | (with_reducible assumption)
    | (with_reducible exact Frame.refl)
    | (extract_lets +onlyGivenNames x; refine Frame.cut x ?_ (fun _ => ?_); rotate_left; clear_value x; revert x; intro _ _; rotate_left; subst x)
    | ((with_reducible refine Frame.foldl ?_ (fun _ _ _ => ?_)))
    | ((with_reducible apply Frame.step (Dev.unitFault_frame ..)); case hw => decide +kernel)
    | ((with_reducible apply Frame.step (Dev.raise_frame ..)); case hw => decide +kernel)
    | split

theorem Dev.drainNotices_frame (d : Dev) :
    Frame 0x60800000000040000000000000000000000000000000000000000000000000000000000000000000000000000000000000000000000000c400000000000000000000030c2014000000000002000000000000000000000000002e009000 d (Dev.drainNotices d) := by
  unfold Dev.drainNotices
  repeat' first
    | (with_reducible assumption)
    | (with_reducible exact Frame.refl)
    | (extract_lets +onlyGivenNames x; first | (clear_value x; revert x; intro _) | (subst x))
    | ((with_reducible refine Frame.foldl ?_ (fun _ _ _ => ?_)))
    | ((with_reducible apply Frame.step (Dev.takeNotice_frame ..)); case hw => rfl)
    | split
    | ((with_reducible refine Frame.kerf_of ?hw ?_); case hw => rfl)

theorem Dev.loseBoxes_frame (d : Dev) :
    Frame 0x1004000000000000000000000000000000000000000000000000000000000000000000000000000000000000000000088000000 d (Dev.loseBoxes d) := by
  unfold Dev.loseBoxes
  repeat' first
    | (with_reducible assumption)
    | (with_reducible exact Frame.refl)
    | (extract_lets +onlyGivenNames x; first | (refine Frame.cut x ?_ (fun _ => ?_); rotate_left; clear_value x; revert x; intro _ _; rotate_left; subst x) | (subst x))
    | ((with_reducible refine Frame.foldl ?_ (fun _ _ _ => ?_)))
    | ((with_reducible apply Frame.step (Dev.modEng_frame ..)); case hw => rfl)
    | ((with_reducible apply Frame.step (Dev.loseBox_frame ..)); case hw => rfl)
    | ((with_reducible apply Frame.step (Dev.modTile_frame ..)); case hw => rfl)
    | split

theorem Dev.islandBack_frame (d : Dev) (u : Nat) :
    Frame 0x100200000020000000080060800000000040000000000000000000000000000000000000000002000000000000000000040000000100400000200000000000000000c400000000000000000100030c201410000000008a00000001060000000000000000ae239d00 d (Dev.islandBack d u) := by
  unfold Dev.islandBack
  repeat' first
    | (with_reducible assumption)
    | (with_reducible exact Frame.refl)
    | (extract_lets +onlyGivenNames x; first | (refine Frame.cut x ?_ (fun _ => ?_); rotate_left; clear_value x; revert x; intro _ _; rotate_left; subst x) | (subst x))
    | ((with_reducible refine Frame.foldl ?_ (fun _ _ _ => ?_)))
    | ((with_reducible apply Frame.step (Dev.setService_frame ..)); case hw => decide +kernel)
    | ((with_reducible apply Frame.step (Dev.loseBoxes_frame ..)); case hw => decide +kernel)
    | ((with_reducible apply Frame.step (Dev.drainNotices_frame ..)); case hw => decide +kernel)
    | ((with_reducible apply Frame.step (Dev.restartTile_frame ..)); case hw => decide +kernel)
    | ((with_reducible apply Frame.step (Dev.put_frame ..)); case hw => decide +kernel)
    | ((with_reducible apply Frame.step (Dev.faultOver_frame ..)); case hw => decide +kernel)
    | split

theorem Dev.passed_frame (d : Dev) (u : Nat) :
    Frame 0x500200000020000000080060800000000040000000000000000000000000000000000000000002000000000000000000040000000100400000200000400000000000c400000000000000000100030c201410000000008a00000001060000000000000000ae239d00 d (Dev.passed d u) := by
  unfold Dev.passed
  repeat' first
    | (with_reducible assumption)
    | (with_reducible exact Frame.refl)
    | (extract_lets +onlyGivenNames x; refine Frame.cut x ?_ (fun _ => ?_); rotate_left; clear_value x; revert x; intro _ _; rotate_left; subst x)
    | ((with_reducible refine Frame.foldl ?_ (fun _ _ _ => ?_)))
    | ((with_reducible apply Frame.step (Dev.lower_frame ..)); case hw => decide +kernel)
    | ((with_reducible apply Frame.step (Dev.returnSlice_frame ..)); case hw => decide +kernel)
    | ((with_reducible apply Frame.step (Dev.islandBack_frame ..)); case hw => decide +kernel)
    | split

theorem Dev.showFetch_frame (d : Dev) :
    Frame 0x800000000000000000000000000000000000000000000000000000000000000000000000000000000000000000000000000000000000000000000000000000000000000000000000000000000000000000000000000000000000000000000000000000000000 d (Dev.showFetch d) := by
  unfold Dev.showFetch
  repeat' first
    | (with_reducible assumption)
    | (with_reducible exact Frame.refl)
    | ((with_reducible refine Frame.foldl ?_ (fun _ _ _ => ?_)))
    | ((with_reducible apply Frame.step (Dev.raise_frame ..)); case hw => decide +kernel)
    | split

theorem Dev.endUpdate_frame (d : Dev) (code : Nat) :
    Frame 0x24000000000000000000000000000000000000000000000000000000000000000000000000000000000000000000000000000000000000000000000000000000000000000000000000000000000000000000000008a0000000000000000000000000000820500 d (Dev.endUpdate d code) := by
  unfold Dev.endUpdate
  repeat' first
    | (with_reducible assumption)
    | (with_reducible exact Frame.refl)
    | (extract_lets +onlyGivenNames x; first | (refine Frame.cut x ?_ (fun _ => ?_); rotate_left; clear_value x; revert x; intro _ _; rotate_left; subst x) | (clear_value x; revert x; intro _) | (subst x))
    | ((with_reducible refine Frame.foldl ?_ (fun _ _ _ => ?_)))
    | ((with_reducible apply Frame.step (Dev.complete_frame ..)); case hw => decide +kernel)
    | ((with_reducible apply Frame.step (Dev.lower_frame ..)); case hw => decide +kernel)
    | split
    | ((with_reducible refine Frame.mgmt_of ?hw ?_); case hw => rfl)

theorem Dev.takeOut_frame (d : Dev) (u : Nat) :
    Frame 0xb00200000038000000080060800000000040000000000000000001de0000004001080000000807800000000000000000000400000000000000b8000040023c400000c4000000001108000c0300030c201410003680008a000000410600000000000000e3ae639d30 d (Dev.takeOut d u) := by
  unfold Dev.takeOut
  repeat' first
    | (with_reducible assumption)
    | (with_reducible exact Frame.refl)
    | (extract_lets +onlyGivenNames x; refine Frame.cut x ?_ (fun _ => ?_); rotate_left; clear_value x; revert x; intro _ _; rotate_left; subst x)
    | ((with_reducible refine Frame.foldl ?_ (fun _ _ _ => ?_)))
    | ((with_reducible apply Frame.step (Dev.raise_frame ..)); case hw => decide +kernel)
    | ((with_reducible apply Frame.step (Dev.unitOut_frame ..)); case hw => decide +kernel)
    | split

theorem Dev.giveBack_frame (d : Dev) (u : Nat) :
    Frame 0x700200000020000000580060800000000040000000000000000000000000000000000000000002000000000000000000040000000100400000200000400000000000c400000000000000000100030c201410000000008a00000001060000000000000000ae279d00 d (Dev.giveBack d u) := by
  unfold Dev.giveBack
  repeat' first
    | (with_reducible assumption)
    | (with_reducible exact Frame.refl)
    | (extract_lets +onlyGivenNames x; first | (refine Frame.cut x ?_ (fun _ => ?_); rotate_left; clear_value x; revert x; intro _ _; rotate_left; subst x) | (clear_value x; revert x; intro _))
    | ((with_reducible refine Frame.foldl ?_ (fun _ _ _ => ?_)))
    | ((with_reducible apply Frame.step (Dev.lower_frame ..)); case hw => decide +kernel)
    | ((with_reducible apply Frame.step (Dev.dramReturn_frame ..)); case hw => decide +kernel)
    | ((with_reducible apply Frame.step (Dev.passed_frame ..)); case hw => decide +kernel)
    | ((with_reducible apply Frame.step (Dev.settleUnit_frame ..)); case hw => decide +kernel)
    | split

/-! ### Firmware.lean -/

theorem Dev.flashWrite_frame (d : Dev) (a : Nat) (bs : List Byte) :
    Frame 0x40 d (Dev.flashWrite d a bs) := by
  unfold Dev.flashWrite
  repeat' first
    | (with_reducible assumption)
    | (with_reducible exact Frame.refl)
    | ((with_reducible refine Frame.foldl ?_ (fun _ _ _ => ?_)))
    | split
    | ((with_reducible refine Frame.flash_of ?hw ?hx ?_); (case hw => (first | rfl | (simp))); (case hx => (intro hc; exact Bytes.wf_writeList _ _ _ hc.flash)))

theorem Dev.writeBoot_frame (d : Dev) (c : BootCfg) :
    Frame 0x80 d (Dev.writeBoot d c) := by
  unfold Dev.writeBoot
  repeat' first
    | (with_reducible assumption)
    | (with_reducible exact Frame.refl)
    | (extract_lets +onlyGivenNames x; clear_value x; revert x; intro _)
    | ((with_reducible refine Frame.foldl ?_ (fun _ _ _ => ?_)))
    | split
    | ((with_reducible refine Frame.mram_of ?hw ?_); case hw => rfl)

theorem Dev.selectSlot_frame (d : Dev) (k : Nat) (commit : Bool) :
    Frame 0x3c100000000000000000000000000000000000000000000000000000000000000000000000000000000000000000000000000000000000000000000000000000000000000000000000000000000000000000000000000000000000000000000000000000000080 d (Dev.selectSlot d k commit) := by
  unfold Dev.selectSlot
  repeat' first
    | (with_reducible assumption)
    | (with_reducible exact Frame.refl)
    | (extract_lets +onlyGivenNames x; first | (refine Frame.cut x ?_ (fun _ => ?_); rotate_left; clear_value x; revert x; intro _ _; rotate_left; subst x) | (clear_value x; revert x; intro _) | (subst x))
    | ((with_reducible refine Frame.foldl ?_ (fun _ _ _ => ?_)))
    | ((with_reducible apply Frame.step (Dev.put_frame ..)); case hw => decide +kernel)
    | ((with_reducible apply Frame.step (Dev.writeBoot_frame ..)); case hw => decide +kernel)
    | ((with_reducible apply Frame.step (Dev.showSlotFw_frame ..)); case hw => decide +kernel)

theorem Frame.byPort {w : Nat} {dev0 : Dev} {d : Dev} {g : Dev → Dev} (hw : Within 0x0 w)
    (g_h : ∀ x , Frame w dev0 x → Frame w dev0 (g x )) (h : Frame w dev0 d) :
    Frame w dev0 (Dev.byPort d g) := by
  unfold Dev.byPort
  repeat' first
    | (with_reducible assumption)
    | (with_reducible exact Frame.refl)
    | (with_reducible refine g_h _ ?_)
    | ((with_reducible refine Frame.foldl ?_ (fun _ _ _ => ?_)))
    | (with_reducible apply_assumption -exfalso -symm)
    | split

/-! ### SysRegs.lean -/

theorem Dev.writeFields_frame (d : Dev) (r : Reg) (i j value : Nat) (skip : List Fld) : Frame r.mask d (Dev.writeFields d r i j value skip) := by
  unfold Dev.writeFields
  refine Frame.foldl_mem Frame.refl (fun x f hf h => ?_)
  split
  · exact h
  · split
    · exact h.trans (Dev.reject_frame ..)
    · exact h.trans (Dev.writeField_of_mem _ r f value i j hf)

theorem Dev.writeLimit_frame (d : Dev) (r : Reg) (a : Nat) (value : Nat) :
    Frame (0x100000000 ||| r.mask) d (Dev.writeLimit d r a value) := by
  unfold Dev.writeLimit
  repeat' first
    | (with_reducible assumption)
    | (with_reducible exact Frame.refl)
    | (extract_lets +onlyGivenNames x; clear_value x; revert x; intro _)
    | ((with_reducible refine Frame.foldl ?_ (fun _ _ _ => ?_)))
    | ((with_reducible apply Frame.step (Dev.modAxis_frame ..)); case hw => first | decide +kernel | exact Within.refl | assumption | exact Reg.mask_within (by decide +kernel) _ | (repeat' first | exact Within.refl | decide +kernel | exact Reg.mask_within (by decide +kernel) _ | exact Within.or_right Within.refl | refine Within.or ?_ ?_ | exact Within.or_left (by decide +kernel) | exact Within.or_right (by decide +kernel)))
    | ((with_reducible apply Frame.step (Dev.reject_frame ..)); case hw => first | decide +kernel | exact Within.refl | assumption | exact Reg.mask_within (by decide +kernel) _ | (repeat' first | exact Within.refl | decide +kernel | exact Reg.mask_within (by decide +kernel) _ | exact Within.or_right Within.refl | refine Within.or ?_ ?_ | exact Within.or_left (by decide +kernel) | exact Within.or_right (by decide +kernel)))
    | split

theorem Dev.writeAxCfg_frame (d : Dev) (a : Nat) (value : Nat) :
    Frame 0x2000000000000000000000000000000000000000000000000000000000000010000000009078000000fe00000000000000000000000000000000000000000000000000000000000000000000000000000000000008a0000000000000000000000000100020500 d (Dev.writeAxCfg d a value) := by
  unfold Dev.writeAxCfg
  repeat' first
    | (with_reducible assumption)
    | (with_reducible exact Frame.refl)
    | (extract_lets +onlyGivenNames x; refine Frame.cut x ?_ (fun _ => ?_); rotate_left; clear_value x; revert x; intro _ _; rotate_left; subst x)
    | ((with_reducible refine Frame.foldl ?_ (fun _ _ _ => ?_)))
    | ((with_reducible apply Frame.step (Dev.writeFields_frame ..)); case hw => decide +kernel)
    | ((with_reducible apply Frame.step (Dev.axisDisable_frame ..)); case hw => decide +kernel)
    | ((with_reducible apply Frame.step (Dev.axisEnable_frame ..)); case hw => decide +kernel)
    | split

theorem Dev.writeEncCfg_frame (d : Dev) (e : Nat) (value : Nat) :
    Frame 0x2000000000000000000000000000000000000000000000000000000000000040810003ff00000000000000000000000000000000000000000000000000000000000000000000000000000000000000000000000008a0000000000000000000000000300020500 d (Dev.writeEncCfg d e value) := by
  unfold Dev.writeEncCfg
  repeat' first
    | (with_reducible assumption)
    | (with_reducible exact Frame.refl)
    | (extract_lets +onlyGivenNames x; refine Frame.cut x ?_ (fun _ => ?_); rotate_left; clear_value x; revert x; intro _ _; rotate_left; subst x)
    | ((with_reducible refine Frame.foldl ?_ (fun _ _ _ => ?_)))
    | ((with_reducible apply Frame.step (Dev.writeFields_frame ..)); case hw => decide +kernel)
    | ((with_reducible apply Frame.step (Dev.encDisable_frame ..)); case hw => decide +kernel)
    | ((with_reducible apply Frame.step (Dev.encEnable_frame ..)); case hw => decide +kernel)
    | split

theorem Dev.writeGrnStep_frame (d : Dev) (value : Nat) :
    Frame 0x800080000000000000000000000000000000000000000000000000000000000000000000000000000000000000000000000 d (Dev.writeGrnStep d value) := by
  unfold Dev.writeGrnStep
  repeat' first
    | (with_reducible assumption)
    | (with_reducible exact Frame.refl)
    | (extract_lets +onlyGivenNames x; clear_value x; revert x; intro _)
    | ((with_reducible refine Frame.foldl ?_ (fun _ _ _ => ?_)))
    | ((with_reducible apply Frame.step (Dev.reject_frame ..)); case hw => decide +kernel)
    | ((with_reducible apply Frame.step (Dev.put_frame ..)); case hw => decide +kernel)
    | split

theorem Dev.writeHngCfg_frame (d : Dev) (fn : Nat) (value : Nat) :
    Frame 0x60800000009c0000000000300000000002000000400008000000000200000000000000000020040000000000000000000000023c4000004000000000150800080100030c2014000036800002000000400000000000000002efae029400 d (Dev.writeHngCfg d fn value) := by
  unfold Dev.writeHngCfg
  repeat' first
    | (with_reducible assumption)
    | (with_reducible exact Frame.refl)
    | (extract_lets +onlyGivenNames x; first | (refine Frame.cut x ?_ (fun _ => ?_); rotate_left; clear_value x; revert x; intro _ _; rotate_left; subst x) | (clear_value x; revert x; intro _) | (subst x))
    | ((with_reducible refine Frame.foldl ?_ (fun _ _ _ => ?_)))
    | ((with_reducible refine Frame.lockChecked ?hw (fun _ _ => ?_) ?_); case hw => decide +kernel)
    | ((with_reducible apply Frame.step (Dev.writeFields_frame ..)); case hw => decide +kernel)
    | ((with_reducible apply Frame.step (Dev.put_frame ..)); case hw => decide +kernel)
    | ((with_reducible apply Frame.step (Dev.modHinge_frame ..)); case hw => decide +kernel)
    | split

theorem Dev.writePortCfg_frame (d : Dev) (p : Nat) (value : Nat) :
    Frame 0x1fd000000000000000000000000000000000000000000000000000000000000000000000000000000000000000000000000000000000000000000000000000000000000000000000000000000000000000000000004 d (Dev.writePortCfg d p value) := by
  unfold Dev.writePortCfg
  repeat' first
    | (with_reducible assumption)
    | (with_reducible exact Frame.refl)
    | (extract_lets +onlyGivenNames x; first | (refine Frame.cut x ?_ (fun _ => ?_); rotate_left; clear_value x; revert x; intro _ _; rotate_left; subst x) | (clear_value x; revert x; intro _))
    | ((with_reducible refine Frame.foldl ?_ (fun _ _ _ => ?_)))
    | ((with_reducible apply Frame.step (Dev.reject_frame ..)); case hw => decide +kernel)
    | ((with_reducible apply Frame.step (Dev.writeFields_frame ..)); case hw => decide +kernel)
    | ((with_reducible apply Frame.step (Dev.latchWhere_frame ..)); case hw => decide +kernel)
    | split

theorem Dev.writeTemp_frame (d : Dev) (k : Nat) (value : Nat) :
    Frame 0x4580000000000000000000000000000000000000000000000000000000000000000000000000000000000000000000000000000000000000000000000000000000000000000000000000000000000000000000000000000000000000000000080000 d (Dev.writeTemp d k value) := by
  unfold Dev.writeTemp
  repeat' first
    | (with_reducible assumption)
    | (with_reducible exact Frame.refl)
    | (extract_lets +onlyGivenNames x; first | (clear_value x; revert x; intro _) | (subst x))
    | ((with_reducible refine Frame.foldl ?_ (fun _ _ _ => ?_)))
    | ((with_reducible apply Frame.step (Dev.showThermal_frame ..)); case hw => decide +kernel)
    | ((with_reducible apply Frame.step (Dev.setSensor_frame ..)); case hw => decide +kernel)
    | ((with_reducible apply Frame.step (Dev.lower_frame ..)); case hw => decide +kernel)
    | split

theorem Dev.writeCal_frame (d : Dev) (r : Reg) (i j value : Nat) : Frame (0x200000 ||| r.mask) d (Dev.writeCal d r i j value) := by
  unfold Dev.writeCal
  refine Frame.foldl_mem Frame.refl (fun x f hf h => ?_)
  split
  · split
    · exact h
    · refine h.trans ((Dev.newCal_frame ..).mono (Within.or (Within.or_left rfl) (Within.or_right (Reg.mask_mem _ _ _ hf))))
  · exact h.step' (Dev.writeField_of_mem _ r f value i j hf) (Within.or_right Within.refl)

theorem Dev.writeFrzCtl_frame (d : Dev) (value : Nat) :
    Frame 0x1c06080881c38000020440000000000000000000000000002400 d (Dev.writeFrzCtl d value) := by
  unfold Dev.writeFrzCtl
  repeat' first
    | (with_reducible assumption)
    | (with_reducible exact Frame.refl)
    | (extract_lets +onlyGivenNames x; clear_value x; revert x; intro _)
    | ((with_reducible refine Frame.foldl ?_ (fun _ _ _ => ?_)))
    | ((with_reducible apply Frame.step (Dev.releaseFn_frame ..)); case hw => decide +kernel)
    | ((with_reducible apply Frame.step (Dev.put_frame ..)); case hw => decide +kernel)
    | split

theorem Dev.writeVecCfg_frame (d : Dev) (f : Nat) (v : Nat) (value : Nat) :
    Frame 0xf90000000000000000000000000000000000000000000002000 d (Dev.writeVecCfg d f v value) := by
  unfold Dev.writeVecCfg
  repeat' first
    | (with_reducible assumption)
    | (with_reducible exact Frame.refl)
    | (extract_lets +onlyGivenNames x; first | (refine Frame.cut x ?_ (fun _ => ?_); rotate_left; clear_value x; revert x; intro _ _; rotate_left; subst x) | (subst x))
    | ((with_reducible refine Frame.foldl ?_ (fun _ _ _ => ?_)))
    | ((with_reducible apply Frame.step (Dev.writeFields_frame ..)); case hw => decide +kernel)
    | ((with_reducible apply Frame.step (Dev.refreshVec_frame ..)); case hw => decide +kernel)
    | ((with_reducible apply Frame.step (Dev.latchVec_frame ..)); case hw => decide +kernel)
    | split

theorem Dev.setLock_frame (d : Dev) :
    Frame 0x20000000000000000000000 d (Dev.setLock d) := by
  unfold Dev.setLock
  repeat' first
    | (with_reducible assumption)
    | (with_reducible exact Frame.refl)
    | ((with_reducible refine Frame.foldl ?_ (fun _ _ _ => ?_)))
    | ((with_reducible apply Frame.step (Dev.raise_frame ..)); case hw => decide +kernel)

theorem Dev.storePlain_frame (d : Dev) (fn : Nat) (r : Reg) (i : Nat) (j : Nat) (value : Nat) :
    Frame 0x1ffffffffffffffffffffffffffffffffffffffffffffffffffffffffffffffffffffffffffffffffffffffffffffffffffffffffffffffffffffffffffffffffffffffffffffffffffffffffffffffffffffffffffffffffffffffffffffffff000000efae229404 d (Dev.storePlain d fn r i j value) := by
  unfold Dev.storePlain
  repeat' first
    | (with_reducible assumption)
    | (with_reducible exact Frame.refl)
    | ((with_reducible refine Frame.foldl ?_ (fun _ _ _ => ?_)))
    | ((with_reducible apply Frame.step (Dev.reject_frame ..)); case hw => first | decide +kernel | exact Within.refl | assumption | exact Reg.mask_within (by decide +kernel) _)
    | ((with_reducible apply Frame.step (Dev.writeFields_frame ..)); case hw => first | decide +kernel | exact Within.refl | assumption | exact Reg.mask_within (by decide +kernel) _)
    | ((with_reducible apply Frame.step (Dev.restLatch_frame ..)); case hw => decide +kernel)
    | ((with_reducible apply Frame.step (Dev.writeCal_frame ..)); case hw => first | decide +kernel | exact Within.refl | assumption | exact Reg.mask_within (by decide +kernel) _ | (repeat' first | exact Within.refl | decide +kernel | exact Reg.mask_within (by decide +kernel) _ | exact Within.or_right Within.refl | refine Within.or ?_ ?_ | exact Within.or_left (by decide +kernel) | exact Within.or_right (by decide +kernel)))
    | ((with_reducible refine Frame.lockChecked ?hw (fun _ _ => ?_) ?_); case hw => decide +kernel)
    | split

theorem Dev.storeSite_frame (d : Dev) (fn : Nat) (r : Reg) (i : Nat) (j : Nat) (value : Nat) :
    Frame 0x1ffffffffffffffffffffffffffffffffffffffffffffffffffffffffffffffffffffffffffffffffffffffffffffffffffffffffffffffffffffffffffffffffffffffffffffffffffffffffffffffffffffffffffffffffffffffffffffffff000003ffaf2a9404 d (Dev.storeSite d fn r i j value) := by
  unfold Dev.storeSite
  repeat' first
    | (with_reducible assumption)
    | (with_reducible exact Frame.refl)
    | ((with_reducible refine Frame.foldl ?_ (fun _ _ _ => ?_)))
    | ((with_reducible apply Frame.step (Dev.writeInline_frame ..)); case hw => decide +kernel)
    | ((with_reducible apply Frame.step (Dev.settlePorts_frame ..)); case hw => decide +kernel)
    | ((with_reducible apply Frame.step (Dev.writeFields_frame ..)); case hw => decide +kernel)
    | ((with_reducible apply Frame.step (Dev.reject_frame ..)); case hw => decide +kernel)
    | ((with_reducible apply Frame.step (Dev.selectMaster_frame ..)); case hw => decide +kernel)
    | ((with_reducible apply Frame.step (Dev.writeFabCfg_frame ..)); case hw => decide +kernel)
    | ((with_reducible apply Frame.step (Dev.writePortCfg_frame ..)); case hw => decide +kernel)
    | ((with_reducible apply Frame.step (Dev.writeHngCfg_frame ..)); case hw => decide +kernel)
    | ((with_reducible apply Frame.step (Dev.writeTemp_frame ..)); case hw => decide +kernel)
    | ((with_reducible apply Frame.step (Dev.showFetch_frame ..)); case hw => decide +kernel)
    | ((with_reducible apply Frame.step (Dev.storePlain_frame ..)); case hw => decide +kernel)
    | split

theorem Dev.storeWork_frame (d : Dev) (fn : Nat) (r : Reg) (i : Nat) (j : Nat) (value : Nat) :
    Frame 0x1ffffffffffffffffffffffffffffffffffffffffffffffffffffffffffffffffffffffffffffffffffffffffffffffffffffffffffffffffffffffffffffffffffffffffffffffffffffffffffffffffffffffffffffffffffffffffffffffff000003ffef2a9504 d (Dev.storeWork d fn r i j value) := by
  unfold Dev.storeWork
  repeat' first
    | (with_reducible assumption)
    | (with_reducible exact Frame.refl)
    | (extract_lets +onlyGivenNames x; first | (refine Frame.cut x ?_ (fun _ => ?_); rotate_left; clear_value x; revert x; intro _ _; rotate_left; subst x) | (clear_value x; revert x; intro _) | (subst x))
    | ((with_reducible refine Frame.foldl ?_ (fun _ _ _ => ?_)))
    | ((with_reducible apply Frame.step (Dev.restLatch_frame ..)); case hw => decide +kernel)
    | ((with_reducible apply Frame.step (Dev.writeFields_frame ..)); case hw => first | decide +kernel | exact Within.refl | assumption | exact Reg.mask_within (by decide +kernel) _)
    | ((with_reducible apply Frame.step (Dev.clearIntegrators_frame ..)); case hw => decide +kernel)
    | ((with_reducible apply Frame.step (Dev.writeGeom_frame ..)); case hw => decide +kernel)
    | ((with_reducible apply Frame.step (Dev.writeGrnStep_frame ..)); case hw => decide +kernel)
    | ((with_reducible apply Frame.step (Dev.reject_frame ..)); case hw => decide +kernel)
    | ((with_reducible apply Frame.step (Dev.clearStops_frame ..)); case hw => decide +kernel)
    | ((with_reducible apply Frame.step (Dev.writeAxCfg_frame ..)); case hw => decide +kernel)
    | ((with_reducible apply Frame.step (Dev.writeLimit_frame ..)); case hw => decide +kernel)
    | ((with_reducible apply Frame.step (Dev.writeEncCfg_frame ..)); case hw => decide +kernel)
    | ((with_reducible apply Frame.step (Dev.storeSite_frame ..)); case hw => decide +kernel)
    | split
    | ((with_reducible refine Frame.grain_of ?hw ?_); case hw => rfl)

theorem Dev.storeReg_frame (d : Dev) (fn : Nat) (r : Reg) (i : Nat) (j : Nat) (value : Nat) :
    Frame 0x1ffffffffffffffffffffffffffffffffffffffffffffffffffffffffffffffffffffffffffffffffffffffffffffffffffffffffffffffffffffffffffffffffffffffffffffffffffffffffffffffffffffffffffffffffffffffffffffffff000003ffef2bbd04 d (Dev.storeReg d fn r i j value) := by
  unfold Dev.storeReg
  repeat' first
    | (with_reducible assumption)
    | (with_reducible exact Frame.refl)
    | ((with_reducible refine Frame.foldl ?_ (fun _ _ _ => ?_)))
    | ((with_reducible apply Frame.step (Dev.setLock_frame ..)); case hw => decide +kernel)
    | ((with_reducible apply Frame.step (Dev.requestClock_frame ..)); case hw => decide +kernel)
    | ((with_reducible apply Frame.step (Dev.writeRingBase_frame ..)); case hw => decide +kernel)
    | ((with_reducible apply Frame.step (Dev.writeSqCfg_frame ..)); case hw => decide +kernel)
    | ((with_reducible apply Frame.step (Dev.writeCqCfg_frame ..)); case hw => decide +kernel)
    | ((with_reducible apply Frame.step (Dev.writeEvqCfg_frame ..)); case hw => decide +kernel)
    | ((with_reducible apply Frame.step (Dev.writeDbBase_frame ..)); case hw => decide +kernel)
    | ((with_reducible apply Frame.step (Dev.writePoll_frame ..)); case hw => decide +kernel)
    | ((with_reducible apply Frame.step (Dev.writeWindow_frame ..)); case hw => decide +kernel)
    | ((with_reducible apply Frame.step (Dev.writeOwn_frame ..)); case hw => decide +kernel)
    | ((with_reducible apply Frame.step (Dev.writeStage_frame ..)); case hw => decide +kernel)
    | ((with_reducible apply Frame.step (Dev.writeFrzCtl_frame ..)); case hw => decide +kernel)
    | ((with_reducible apply Frame.step (Dev.writeVecCfg_frame ..)); case hw => decide +kernel)
    | ((with_reducible apply Frame.step (Dev.recheckBarrier_frame ..)); case hw => decide +kernel)
    | ((with_reducible apply Frame.step (Dev.storePlain_frame ..)); case hw => decide +kernel)
    | ((with_reducible apply Frame.step (Dev.storeWork_frame ..)); case hw => decide +kernel)
    | split

theorem Dev.writeTable_frame (d : Dev) (fn : Nat) (off : Nat) (value : Nat) :
    Frame 0x400000000000000000002000 d (Dev.writeTable d fn off value) := by
  unfold Dev.writeTable
  repeat' first
    | (with_reducible assumption)
    | (with_reducible exact Frame.refl)
    | (extract_lets +onlyGivenNames x; clear_value x; revert x; intro _)
    | ((with_reducible refine Frame.foldl ?_ (fun _ _ _ => ?_)))
    | ((with_reducible apply Frame.step (Dev.setVec_frame ..)); case hw => decide +kernel)
    | ((with_reducible apply Frame.step (Dev.bump_frame ..)); case hw => decide +kernel)
    | split

theorem Dev.write32_frame (d : Dev) (fn : Nat) (bar2 : Bool) (off : Nat) (be : Nat) (value : Nat) :
    Frame 0x1ffffffffffffffffffffffffffffffffffffffffffffffffffffffffffffffffffffffffffffffffffffffffffffffffffffffffffffffffffffffffffffffffffffffffffffffffffffffffffffffffffffffffffffffffffffffffffffffff000003ffef2bbd04 d (Dev.write32 d fn bar2 off be value) := by
  unfold Dev.write32
  repeat' first
    | (with_reducible assumption)
    | (with_reducible exact Frame.refl)
    | ((with_reducible refine Frame.foldl ?_ (fun _ _ _ => ?_)))
    | ((with_reducible refine Frame.byFn ?hw (fun _ _ => ?_) ?_); case hw => decide +kernel)
    | ((with_reducible apply Frame.step (Dev.bump_frame ..)); case hw => decide +kernel)
    | ((with_reducible apply Frame.step (Dev.writeTable_frame ..)); case hw => decide +kernel)
    | ((with_reducible apply Frame.step (Dev.storeReg_frame ..)); case hw => decide +kernel)
    | split

theorem Dev.snapNow_frame (d : Dev) :
    Frame 0x800000 d (Dev.snapNow d) := by
  unfold Dev.snapNow
  repeat' first
    | (with_reducible assumption)
    | (with_reducible exact Frame.refl)
    | (extract_lets +onlyGivenNames x; clear_value x; revert x; intro _)
    | ((with_reducible refine Frame.foldl ?_ (fun _ _ _ => ?_)))
    | split
    | ((with_reducible refine Frame.mgmt_of ?hw ?_); case hw => rfl)

theorem Dev.readReg_frame (d : Dev) (a : Nat) : Frame 0x8000000000000000000000000000000000000000000000000000000000000000000000000000000000000000000000000000000000000000400000000000000000000800000 d (Dev.readReg d a).2 := by
  unfold Dev.readReg
  split
  · exact Frame.refl
  · split
    all_goals first | exact Frame.refl | exact (Dev.put_frame ..).mono (by decide +kernel) | exact (Dev.snapNow_frame ..).mono (by decide +kernel)

theorem Dev.readAt_frame (d : Dev) (a : Nat) :
    Frame 0x8000000000000000000000000000000000000000000000000000000000000000000000000000000000000000000000000000000000000000400000000000000000000800000 d (Dev.readAt d a) := by
  unfold Dev.readAt
  repeat' first
    | (with_reducible assumption)
    | (with_reducible exact Frame.refl)
    | (extract_lets +onlyGivenNames x; first | (refine Frame.cut x ?_ (fun _ => ?_); rotate_left; clear_value x; revert x; intro _ _; rotate_left; subst x) | (refine Frame.cut x.2 ?_ (fun _ => ?_); rotate_left; clear_value x; revert x; intro _ _; rotate_left; subst x) | (clear_value x; revert x; intro _))
    | ((with_reducible refine Frame.foldl ?_ (fun _ _ _ => ?_)))
    | ((with_reducible apply Frame.step (Dev.readReg_frame ..)); case hw => rfl)
    | split
    | ((with_reducible refine Frame.mgmt_of ?hw ?_); case hw => rfl)

end Sys2Proof.Machine
end

