-- ==== Sys2Proof/Laws/Commands.lean ====
section
/-! SUPPORT. Frames of every command: it answers a next state with the queue as it was, and what it can change.
One lemma each; the mask of a frame names the parts and register fields that may change (Laws/Frame.lean). -/

namespace Sys2Proof.Machine

open Sys2Proof

set_option Elab.async false

/-! ### MeltPool.lean -/

theorem execMeltPoolTick_frame (dt : Nat) (n : Fin 34) (samples : List (BitVec 16)) (s : State) :
    ∃ dev₁, execMeltPoolTick dt n samples s = .next { s with dev := dev₁ } ∧ Frame 0x608000000000000000000000000000000000000000000000000000000000000000000000000000000001035000000803f08000000000000000000000140840010000030c2014000000000002000000000000000000000002004e00900f s.dev dev₁ := by
  unfold execMeltPoolTick
  refine State.act_frame rfl (fun d h => ?_)
  repeat' first
    | (with_reducible assumption)
    | ((with_reducible refine Frame.when (fun _ _ => ?_) ?_))
    | ((with_reducible apply Frame.step (Dev.meltTick_frame ..)); case hw => rfl)

theorem execFeedbackLost_frame (dt : Nat) (n : Fin 34) (s : State) :
    ∃ dev₁, execFeedbackLost dt n s = .next { s with dev := dev₁ } ∧ Frame 0x608000000000000000000000000000000000000000000000000000000000000000000000000000000000000000000000034000000000000000000000000000000000030c2014000000000002000000000000000000000000000e009003 s.dev dev₁ := by
  unfold execFeedbackLost
  refine State.act_frame rfl (fun d h => ?_)
  repeat' first
    | (with_reducible assumption)
    | ((with_reducible refine Frame.when (fun _ _ => ?_) ?_))
    | ((with_reducible apply Frame.step (Dev.loseFeedback_frame ..)); case hw => rfl)

theorem execIntClr_frame (dt : Nat) (n : Fin 34) (s : State) :
    ∃ dev₁, execIntClr dt n s = .next { s with dev := dev₁ } ∧ Frame 0x800000000000000000000000000000000000000000000000000080000000000000000000000000000000000000003 s.dev dev₁ := by
  unfold execIntClr
  refine State.act_frame rfl (fun d h => ?_)
  repeat' first
    | (with_reducible assumption)
    | ((with_reducible refine Frame.byFn ?hw (fun _ _ => ?_) ?_); case hw => rfl)
    | ((with_reducible apply Frame.step (Dev.clearIntegrators_frame ..)); case hw => rfl)

/-! ### Scan.lean -/

theorem execFifoRefillDone_frame (dt : Nat) (n : Fin 34) (s : State) :
    ∃ dev₁, execFifoRefillDone dt n s = .next { s with dev := dev₁ } ∧ Frame 0x80000000000000000000000000000000000000000000000000008000103 s.dev dev₁ := by
  unfold execFifoRefillDone
  refine State.act_frame rfl (fun d h => ?_)
  repeat' first
    | (with_reducible assumption)
    | ((with_reducible refine Frame.when (fun _ _ => ?_) ?_))
    | ((with_reducible apply Frame.step (Dev.refill_frame ..)); case hw => rfl)

theorem execVecBlock_frame (dt : Nat) (job : Nat) (s : State) :
    ∃ dev₁, execVecBlock dt job s = .next { s with dev := dev₁ } ∧ Frame 0x20000000000000000000000000000000000000000000000000000000000000000000000000000000000000000000000000000000000000000000000000000000000000000000000000000000000000000000000008a0000000000000000000000000008020503 s.dev dev₁ := by
  unfold execVecBlock
  refine State.act_frame rfl (fun d h => ?_)
  repeat' first
    | (with_reducible assumption)
    | ((with_reducible refine Frame.withJob ?hw (fun _ _ _ => ?_) ?_); case hw => rfl)
    | ((with_reducible refine Frame.engJob ?hw (fun _ _ => ?_) ?_); case hw => rfl)
    | ((with_reducible apply Frame.step (Dev.joinStream_frame ..)); case hw => rfl)

theorem execVecInline_frame (dt : Nat) (job : Nat) (s : State) :
    ∃ dev₁, execVecInline dt job s = .next { s with dev := dev₁ } ∧ Frame 0x20000000000000000000000000000000000000000000000000000000000000000000000000000000000000000000000000000000000000000000000000000000000000000000000000000000000000000000000008a0000000000000000000000000008020503 s.dev dev₁ := by
  unfold execVecInline
  refine State.act_frame rfl (fun d h => ?_)
  repeat' first
    | (with_reducible assumption)
    | ((with_reducible refine Frame.withJob ?hw (fun _ _ _ => ?_) ?_); case hw => rfl)
    | ((with_reducible refine Frame.engJob ?hw (fun _ _ => ?_) ?_); case hw => rfl)
    | ((with_reducible apply Frame.step (Dev.joinStream_frame ..)); case hw => rfl)

theorem execEngLimits_frame (dt : Nat) (job : Nat) (s : State) :
    ∃ dev₁, execEngLimits dt job s = .next { s with dev := dev₁ } ∧ Frame 0x20000000000000000000000000000000000000000000000000000000000000000000000000000000000000000000000000000000000000000000000000000000000000000000000000000000000000000000000008a0000000000000000000000000008020503 s.dev dev₁ := by
  unfold execEngLimits
  refine State.act_frame rfl (fun d h => ?_)
  repeat' first
    | (with_reducible assumption)
    | ((with_reducible refine Frame.withJob ?hw (fun _ _ _ => ?_) ?_); case hw => rfl)
    | ((with_reducible refine Frame.engJob ?hw (fun _ _ => ?_) ?_); case hw => rfl)
    | ((with_reducible apply Frame.step (Dev.joinStream_frame ..)); case hw => rfl)

theorem execRecordEnterLookahead_frame (dt : Nat) (n : Fin 34) (s : State) :
    ∃ dev₁, execRecordEnterLookahead dt n s = .next { s with dev := dev₁ } ∧ Frame 0x2000ffe000000000000608000000000000000000000000000000000000000000000000000000000000000000000000000000000000000000000004000000000013000000080240000080101ff0c201400000000008a000000000000000000000000000e229507 s.dev dev₁ := by
  unfold execRecordEnterLookahead
  refine State.act_frame rfl (fun d h => ?_)
  repeat' first
    | (with_reducible assumption)
    | ((with_reducible refine Frame.when (fun _ _ => ?_) ?_))
    | ((with_reducible apply Frame.step (Dev.showState_frame ..)); case hw => rfl)
    | ((with_reducible apply Frame.step (Dev.restActs_frame ..)); case hw => rfl)
    | ((with_reducible apply Frame.step (Dev.enterNext_frame ..)); case hw => rfl)

theorem execKerfRequest_frame (dt : Nat) (n : Fin 34) (s : State) :
    ∃ dev₁, execKerfRequest dt n s = .next { s with dev := dev₁ } ∧ Frame 0x6080000000000000000000000000000000000000000000000000000000000000000000000000000000000000000000000000023c4000000400000000010000000100030c2014000000000002000000000000000000000000002e009003 s.dev dev₁ := by
  unfold execKerfRequest
  refine State.act_frame rfl (fun d h => ?_)
  repeat' first
    | (with_reducible assumption)
    | ((with_reducible refine Frame.when (fun _ _ => ?_) ?_))
    | ((with_reducible apply Frame.step (Dev.makeRequest_frame ..)); case hw => rfl)
    | split

theorem execRecordStart_frame (dt : Nat) (n : Fin 34) (s : State) :
    ∃ dev₁, execRecordStart dt n s = .next { s with dev := dev₁ } ∧ Frame 0x2000ffe000000000000000000000000000000000000000000000000000000000000000000000000000000000000000000000000000000000000004000000000000000000000342870118101ff0c001400000000008a000000000000000000000000000e221507 s.dev dev₁ := by
  unfold execRecordStart
  refine State.act_frame rfl (fun d h => ?_)
  repeat' first
    | (with_reducible assumption)
    | ((with_reducible apply Frame.step (Dev.showState_frame ..)); case hw => rfl)
    | ((with_reducible apply Frame.step (Dev.flushGate_frame ..)); case hw => rfl)
    | ((with_reducible apply Frame.step (Dev.startNext_frame ..)); case hw => rfl)

theorem execRecordEnd_frame (dt : Nat) (n : Fin 34) (s : State) :
    ∃ dev₁, execRecordEnd dt n s = .next { s with dev := dev₁ } ∧ Frame 0x2000ffe0000000000006080000000004000000000000000000000000000000000000000000000000000000000000000000000000000000000000040023c400000c4000000003708501b3f01ff0c201420000000008a000000000000000000000000003e229507 s.dev dev₁ := by
  unfold execRecordEnd
  refine State.act_frame rfl (fun d h => ?_)
  repeat' first
    | (with_reducible assumption)
    | (extract_lets +onlyGivenNames x; first | (refine Frame.cut x ?_ (fun _ => ?_); rotate_left; clear_value x; revert x; intro _ _; rotate_left; subst x) | (subst x))
    | ((with_reducible apply Frame.step (Dev.flushGate_frame ..)); case hw => rfl)
    | ((with_reducible apply Frame.step (Dev.extendTo_frame ..)); case hw => rfl)
    | ((with_reducible apply Frame.step (Dev.showState_frame ..)); case hw => rfl)
    | ((with_reducible apply Frame.step (Dev.restActs_frame ..)); case hw => rfl)
    | ((with_reducible apply Frame.step (Dev.endPlan_frame ..)); case hw => rfl)
    | split

theorem execEngPark_frame (dt : Nat) (job : Nat) (s : State) :
    ∃ dev₁, execEngPark dt job s = .next { s with dev := dev₁ } ∧ Frame 0x2000ffe000000000000000000000000000000000000000000000000000000000000000000000000000000000000000000000000000000000000004000000000000000000000200000000101fc00000000000000008a0000000000000000000000000008220507 s.dev dev₁ := by
  unfold execEngPark
  refine State.act_frame rfl (fun d h => ?_)
  repeat' first
    | (with_reducible assumption)
    | (extract_lets +onlyGivenNames x; first | (clear_value x; revert x; intro _) | (subst x))
    | ((with_reducible refine Frame.withJob ?hw (fun _ _ _ => ?_) ?_); case hw => rfl)
    | ((with_reducible refine Frame.engJob ?hw (fun _ _ => ?_) ?_); case hw => rfl)
    | ((with_reducible apply Frame.step (Dev.beginPark_frame ..)); case hw => rfl)
    | ((with_reducible apply Frame.step (Dev.begin'_frame ..)); case hw => rfl)
    | ((with_reducible apply Frame.step (Dev.restActs_frame ..)); case hw => rfl)
    | split

theorem execParkDone_frame (dt : Nat) (n : Fin 34) (s : State) :
    ∃ dev₁, execParkDone dt n s = .next { s with dev := dev₁ } ∧ Frame 0x2000ffe000000000000000000000000000000000000000000000000000000000000000000000000000000000000000000000000000000000000004000000000000000000000200000000101fc00000000000000008a0000000000000000000000000008220507 s.dev dev₁ := by
  unfold execParkDone
  refine State.act_frame rfl (fun d h => ?_)
  repeat' first
    | (with_reducible assumption)
    | ((with_reducible apply Frame.step (Dev.parked_frame ..)); case hw => rfl)
    | split

/-! ### Links.lean -/

theorem execSetpointFrame_frame (dt : Nat) (s : State) :
    ∃ dev₁, execSetpointFrame dt s = .next { s with dev := dev₁ } ∧ Frame 0xffe000000000000000000000000000000000000000000000000000000000000000000000000000000000000000000000000000000000000004000000000000000000100340841e10000000000000000000000000000000000000000000000000018200007 s.dev dev₁ := by
  unfold execSetpointFrame
  refine State.act_frame rfl (fun d h => ?_)
  repeat' first
    | (with_reducible assumption)
    | ((with_reducible refine Frame.forAll (fun _ _ _ => ?_) ?_))
    | ((with_reducible refine Frame.when (fun _ _ => ?_) ?_))
    | ((with_reducible apply Frame.step (Dev.slotFrame_frame ..)); case hw => rfl)
    | ((with_reducible apply Frame.step (Dev.silentSlot_frame ..)); case hw => rfl)
    | split

theorem execReturnFrame_frame (dt : Nat) (ch : Fin 32) (frame : Gran) (crc : BitVec 16) (s : State) :
    ∃ dev₁, execReturnFrame dt ch frame crc s = .next { s with dev := dev₁ } ∧ Frame 0x20000000000000000006080000000004000000000000000000000000000000000000000000000000000000000000000000000000000000000000000023c400000c40000000013080e0a3f00030c201400000000008a000000000000000000000000003e029503 s.dev dev₁ := by
  unfold execReturnFrame
  refine State.act_frame rfl (fun d h => ?_)
  repeat' first
    | (with_reducible assumption)
    | ((with_reducible apply Frame.step (Dev.takeReturn_frame ..)); case hw => rfl)
    | split

theorem execLinkUpTimeout_frame (dt : Nat) (ch : Fin 32) (s : State) :
    ∃ dev₁, execLinkUpTimeout dt ch s = .next { s with dev := dev₁ } ∧ Frame 0x20000000000000000006080000000004000000000000000000000000000000000000000000000000000000000000000000000000000000000000000023c400000c4000000001308000a3f00030c201400000000008a000000000000000000000000003e029503 s.dev dev₁ := by
  unfold execLinkUpTimeout
  refine State.act_frame rfl (fun d h => ?_)
  repeat' first
    | (with_reducible assumption)
    | ((with_reducible refine Frame.when (fun _ _ => ?_) ?_))
    | ((with_reducible apply Frame.step (Dev.channelFault_frame ..)); case hw => rfl)
    | split

theorem execLinkLossFault_frame (dt : Nat) (ch : Fin 32) (s : State) :
    ∃ dev₁, execLinkLossFault dt ch s = .next { s with dev := dev₁ } ∧ Frame 0x20000000000000000006080000000004000000000000000000000000000000000000000000000000000000000000000000000000000000000000000023c400000c4000000001308000a3f00030c201400000000008a000000000000000000000000003e029503 s.dev dev₁ := by
  unfold execLinkLossFault
  refine State.act_frame rfl (fun d h => ?_)
  repeat' first
    | (with_reducible assumption)
    | ((with_reducible refine Frame.when (fun _ _ => ?_) ?_))
    | ((with_reducible apply Frame.step (Dev.channelFault_frame ..)); case hw => rfl)
    | split

theorem execGateCompareHit_frame (dt : Nat) (n : Fin 34) (s : State) :
    ∃ dev₁, execGateCompareHit dt n s = .next { s with dev := dev₁ } ∧ Frame 0x6080000000000000000000000000000000000000000000000000000000000000000000000000000000000000000000000000000000000000000000001c3840010000030c2014000000000002000000000000000000000000000e009007 s.dev dev₁ := by
  unfold execGateCompareHit
  refine State.act_frame rfl (fun d h => ?_)
  repeat' first
    | (with_reducible assumption)
    | ((with_reducible apply Frame.step (Dev.flushGate_frame ..)); case hw => rfl)
    | ((with_reducible apply Frame.step (Dev.compareHit_frame ..)); case hw => rfl)
    | ((with_reducible apply Frame.step (Dev.extendTo_frame ..)); case hw => rfl)

theorem execGateMonFault_frame (dt : Nat) (ch : Fin 32) (s : State) :
    ∃ dev₁, execGateMonFault dt ch s = .next { s with dev := dev₁ } ∧ Frame 0x20000000000000000006080000000004000000000000000000000000000000000000000000000000000000000000000000000000000000000000000023c400000c4000000001308000a3f00030c201400000000008a000000000000000000000000003e029503 s.dev dev₁ := by
  unfold execGateMonFault
  refine State.act_frame rfl (fun d h => ?_)
  repeat' first
    | (with_reducible assumption)
    | ((with_reducible apply Frame.step (Dev.channelFault_frame ..)); case hw => rfl)
    | split

theorem execEngineProgressTimeout_frame (dt : Nat) (n : Fin 34) (s : State) :
    ∃ dev₁, execEngineProgressTimeout dt n s = .next { s with dev := dev₁ } ∧ Frame 0x19c0200000038000000080060880001008040000000000000000001de0000004001080000000807800000000000000000000400000000000000f8000040023c400000c4000000001308000e3f00030c201410003680008a000000410600000000000002e3bf639d33 s.dev dev₁ := by
  unfold execEngineProgressTimeout
  refine State.act_frame rfl (fun d h => ?_)
  repeat' first
    | (with_reducible assumption)
    | ((with_reducible refine Frame.when (fun _ _ => ?_) ?_))
    | ((with_reducible apply Frame.step (Dev.unitFault_frame ..)); case hw => rfl)
    | ((with_reducible apply Frame.step (Dev.channelFault_frame ..)); case hw => rfl)

/-! ### Correction.lean -/

theorem execCorLoad_frame (dt : Nat) (job : Nat) (s : State) :
    ∃ dev₁, execCorLoad dt job s = .next { s with dev := dev₁ } ∧ Frame 0x200000000000000000000000000000000000000000000000000000000000000000000000000000000000000000000000000000000000000000000000000000000000003f8600000000000000000000000000000008a0000000000000000000000000008020503 s.dev dev₁ := by
  unfold execCorLoad
  refine State.act_frame rfl (fun d h => ?_)
  repeat' first
    | (with_reducible assumption)
    | (extract_lets +onlyGivenNames x; first | (refine Frame.cut x ?_ (fun _ => ?_); rotate_left; clear_value x; revert x; intro _ _; rotate_left; subst x) | (clear_value x; revert x; intro _) | (subst x))
    | ((with_reducible refine Frame.withJob ?hw (fun _ _ _ => ?_) ?_); case hw => rfl)
    | ((with_reducible refine Frame.engJob ?hw (fun _ _ => ?_) ?_); case hw => rfl)
    | ((with_reducible apply Frame.step (Dev.begin'_frame ..)); case hw => rfl)
    | ((with_reducible apply Frame.step (Dev.modCorr_frame ..)); case hw => rfl)
    | ((with_reducible apply Frame.step (Dev.modEng_frame ..)); case hw => rfl)
    | ((with_reducible apply Frame.step (Dev.showCorr_frame ..)); case hw => rfl)
    | split

theorem execCorLoadDone_frame (dt : Nat) (n : Fin 34) (s : State) :
    ∃ dev₁, execCorLoadDone dt n s = .next { s with dev := dev₁ } ∧ Frame 0x5002000ffe0000000008006080000000000000000000000000000000000000000000000000000000000000000000000000000000000000000020000040023c400000000003fae0210000080101ff0c201410000000008a000000110600000000000000002e239d07 s.dev dev₁ := by
  unfold execCorLoadDone
  refine State.act_frame rfl (fun d h => ?_)
  repeat' first
    | (with_reducible assumption)
    | ((with_reducible apply Frame.step (Dev.windowEnd_frame ..)); case hw => rfl)
    | ((with_reducible apply Frame.step (Dev.loadDone_frame ..)); case hw => rfl)
    | split

theorem execCorSwap_frame (dt : Nat) (job : Nat) (s : State) :
    ∃ dev₁, execCorSwap dt job s = .next { s with dev := dev₁ } ∧ Frame 0x200000000000000000000000000000000000000000000000000000000000000000000000000000000000000000000000000000000000000000000000000000000000003f8600000000000000000000000000000008a0000000000000000000000000008020503 s.dev dev₁ := by
  unfold execCorSwap
  refine State.act_frame rfl (fun d h => ?_)
  repeat' first
    | (with_reducible assumption)
    | (extract_lets +onlyGivenNames x; first | (refine Frame.cut x ?_ (fun _ => ?_); rotate_left; clear_value x; revert x; intro _ _; rotate_left; subst x) | (clear_value x; revert x; intro _) | (subst x))
    | ((with_reducible refine Frame.withJob ?hw (fun _ _ _ => ?_) ?_); case hw => rfl)
    | ((with_reducible refine Frame.engJob ?hw (fun _ _ => ?_) ?_); case hw => rfl)
    | ((with_reducible apply Frame.step (Dev.joinStream_frame ..)); case hw => rfl)
    | ((with_reducible apply Frame.step (Dev.showCorr_frame ..)); case hw => rfl)
    | ((with_reducible apply Frame.step (Dev.modCorr_frame ..)); case hw => rfl)
    | ((with_reducible apply Frame.step (Dev.complete_frame ..)); case hw => rfl)
    | split

theorem execCorBankSwap_frame (dt : Nat) (n : Fin 34) (s : State) :
    ∃ dev₁, execCorBankSwap dt n s = .next { s with dev := dev₁ } ∧ Frame 0x5002000ffe0000000008006080000000000000000000000000000000000000000000000000000000000000000000000000000000000000000020000040023c400000000003f8f0210000080101ff0c201410000000008a000000110600000000000000002e239d07 s.dev dev₁ := by
  unfold execCorBankSwap
  refine State.act_frame rfl (fun d h => ?_)
  repeat' first
    | (with_reducible assumption)
    | ((with_reducible refine Frame.when (fun _ _ => ?_) ?_))
    | ((with_reducible apply Frame.step (Dev.windowEnd_frame ..)); case hw => rfl)
    | ((with_reducible apply Frame.step (Dev.swapBanks_frame ..)); case hw => rfl)

theorem execCorSave_frame (dt : Nat) (job : Nat) (s : State) :
    ∃ dev₁, execCorSave dt job s = .next { s with dev := dev₁ } ∧ Frame 0x20000000000000000000000000000000000000000000000000000000000000000000000000000000000000000000000000000000000000000000000000000000000000000000000000000000000000000003680008a0000004000000000000000000000420513 s.dev dev₁ := by
  unfold execCorSave
  refine State.act_frame rfl (fun d h => ?_)
  repeat' first
    | (with_reducible assumption)
    | (extract_lets +onlyGivenNames x; first | (clear_value x; revert x; intro _) | (subst x))
    | ((with_reducible refine Frame.withJob ?hw (fun _ _ _ => ?_) ?_); case hw => rfl)
    | ((with_reducible refine Frame.engJob ?hw (fun _ _ => ?_) ?_); case hw => rfl)
    | ((with_reducible apply Frame.step (Dev.saveTo_frame ..)); case hw => rfl)
    | ((with_reducible apply Frame.step (Dev.complete_frame ..)); case hw => rfl)
    | split

theorem execCorEccError_frame (dt : Nat) (n : Fin 34) (active : Bool) (s : State) :
    ∃ dev₁, execCorEccError dt n active s = .next { s with dev := dev₁ } ∧ Frame 0x19c02000ffe38000000080060880001008040000000000000000001de0000004001080000000807800000000000000000000400000000000000f8000040023c400000c40003fce03108000c0301ff0c201410003680008a000000410600000000000002e3af639d37 s.dev dev₁ := by
  unfold execCorEccError
  refine State.act_frame rfl (fun d h => ?_)
  repeat' first
    | (with_reducible assumption)
    | (extract_lets +onlyGivenNames x; first | (refine Frame.cut x ?_ (fun _ => ?_); rotate_left; clear_value x; revert x; intro _ _; rotate_left; subst x) | (clear_value x; revert x; intro _) | (subst x))
    | ((with_reducible apply Frame.step (Dev.unitFault_frame ..)); case hw => decide +kernel)
    | ((with_reducible apply Frame.step (Dev.raise_frame ..)); case hw => decide +kernel)
    | ((with_reducible apply Frame.step (Dev.modCorr_frame ..)); case hw => decide +kernel)
    | ((with_reducible apply Frame.step (Dev.showCorr_frame ..)); case hw => decide +kernel)
    | ((with_reducible apply Frame.step (Dev.recheck_frame ..)); case hw => decide +kernel)
    | ((with_reducible apply Frame.step (Dev.complete_frame ..)); case hw => decide +kernel)
    | split

/-! ### ScarfCmds.lean -/

theorem execScarfYield_frame (dt : Nat) (n : Fin 34) (s : State) :
    ∃ dev₁, execScarfYield dt n s = .next { s with dev := dev₁ } ∧ Frame 0x6080000000004000000000000000000000000000000000000000000000000000000000000000000000000000000000000000023c400000cc00000000010000000100030c2014000000000002000000000000000000000000002e009003 s.dev dev₁ := by
  unfold execScarfYield
  refine State.act_frame rfl (fun d h => ?_)
  repeat' first
    | (with_reducible assumption)
    | (extract_lets +onlyGivenNames x; first | (clear_value x; revert x; intro _) | (subst x))
    | ((with_reducible refine Frame.when (fun _ _ => ?_) ?_))
    | ((with_reducible apply Frame.step (Dev.yieldShare_frame ..)); case hw => rfl)
    | split

theorem execScarfNotice_frame (dt : Nat) (dev : Fin 1024) (payload : List Gran) (s : State) :
    ∃ dev₁, execScarfNotice dt dev payload s = .next { s with dev := dev₁ } ∧ Frame 0x60800000000040000000000000000000000000000000000000000000000000000000000000000000000000800000000000000000200000c400000000000000000000030c2014078000000002000000000000000000000000002e009003 s.dev dev₁ := by
  unfold execScarfNotice
  refine State.act_frame rfl (fun d h => ?_)
  repeat' first
    | (with_reducible assumption)
    | ((with_reducible refine Frame.granting ?hw (fun _ _ => ?_) ?_); case hw => rfl)
    | ((with_reducible apply Frame.step (Dev.kerfNotice_frame ..)); case hw => rfl)
    | split

theorem execTakeoverPass_frame (dt : Nat) (n : Fin 34) (s : State) :
    ∃ dev₁, execTakeoverPass dt n s = .next { s with dev := dev₁ } ∧ Frame 0x608000000000000000000000000000000000000000000000000000000000000000000000000000000000000000000000000000000000004400000000000000000000030c2014000000000002000000000000000000000000000e009003 s.dev dev₁ := by
  unfold execTakeoverPass
  refine State.act_frame rfl (fun d h => ?_)
  repeat' first
    | (with_reducible assumption)
    | ((with_reducible refine Frame.when (fun _ _ => ?_) ?_))
    | ((with_reducible apply Frame.step (Dev.startPass_frame ..)); case hw => rfl)
    | ((with_reducible apply Frame.step (Dev.uncovered_frame ..)); case hw => rfl)
    | ((with_reducible apply Frame.step (Dev.modEng_frame ..)); case hw => rfl)
    | split

theorem execScarfContactLoss_frame (dt : Nat) (n : Fin 34) (z : Fin 64) (s : State) :
    ∃ dev₁, execScarfContactLoss dt n z s = .next { s with dev := dev₁ } ∧ Frame 0x608000000000000000000000000000000000000000000000000000000000000000000000000000000000000000000000000000000000024400000000000000000000030c2014000000000002000000000000000000000000002e009003 s.dev dev₁ := by
  unfold execScarfContactLoss
  refine State.act_frame rfl (fun d h => ?_)
  repeat' first
    | (with_reducible assumption)
    | (extract_lets +onlyGivenNames x; first | (clear_value x; revert x; intro _) | (subst x))
    | ((with_reducible refine Frame.when (fun _ _ => ?_) ?_))
    | ((with_reducible apply Frame.step (Dev.loseContact_frame ..)); case hw => rfl)

/-! ### KerfCmds.lean -/

theorem execKerfGrant_frame (dt : Nat) (n : Fin 34) (s : State) :
    ∃ dev₁, execKerfGrant dt n s = .next { s with dev := dev₁ } ∧ Frame 0x27c4000000000000000010000000100000000000000000000000000000000000000000000000026000003 s.dev dev₁ := by
  unfold execKerfGrant
  refine State.act_frame rfl (fun d h => ?_)
  repeat' first
    | (with_reducible assumption)
    | ((with_reducible apply Frame.step (Dev.grantReq_frame ..)); case hw => rfl)
    | ((with_reducible apply Frame.step (Dev.showKerf_frame ..)); case hw => rfl)
    | split

theorem execRequestStarving_frame (dt : Nat) (n : Fin 34) (s : State) :
    ∃ dev₁, execRequestStarving dt n s = .next { s with dev := dev₁ } ∧ Frame 0x608000000000000000000000000000000000000000000000000000000000000000000000000000000000000000000000000002bc4000000000000000010000000000030c20140000000000020000000000000000000000000026009003 s.dev dev₁ := by
  unfold execRequestStarving
  refine State.act_frame rfl (fun d h => ?_)
  repeat' first
    | (with_reducible assumption)
    | (extract_lets +onlyGivenNames x; first | (refine Frame.cut x ?_ (fun _ => ?_); rotate_left; clear_value x; revert x; intro _ _; rotate_left; subst x) | (clear_value x; revert x; intro _) | (subst x))
    | ((with_reducible refine Frame.foldl ?_ (fun _ _ _ => ?_)))
    | ((with_reducible apply Frame.step (Dev.modReq_frame ..)); case hw => rfl)
    | ((with_reducible apply Frame.step (Dev.showKerf_frame ..)); case hw => rfl)
    | ((with_reducible apply Frame.step (Dev.forceYield_frame ..)); case hw => rfl)
    | split

theorem execReorderUnit_frame (dt : Nat) (n : Fin 34) (s : State) :
    ∃ dev₁, execReorderUnit dt n s = .next { s with dev := dev₁ } ∧ Frame 0x37c400000000000000001000000010000000000000000000000000000000000000000000000002e000003 s.dev dev₁ := by
  unfold execReorderUnit
  refine State.act_frame rfl (fun d h => ?_)
  repeat' first
    | (with_reducible assumption)
    | (extract_lets +onlyGivenNames x; first | (refine Frame.cut x ?_ (fun _ => ?_); rotate_left; clear_value x; revert x; intro _ _; rotate_left; subst x) | (clear_value x; revert x; intro _))
    | ((with_reducible apply Frame.step (Dev.modReq_frame ..)); case hw => rfl)
    | ((with_reducible apply Frame.step (Dev.runUnit_frame ..)); case hw => rfl)
    | split

theorem execKerfHaloSend_frame (dt : Nat) (s : State) :
    ∃ dev₁, execKerfHaloSend dt s = .next { s with dev := dev₁ } ∧ Frame 0x6000003 s.dev dev₁ := by
  unfold execKerfHaloSend
  refine State.act_frame rfl (fun d h => ?_)
  repeat' first
    | (with_reducible assumption)
    | ((with_reducible refine Frame.foldl ?_ (fun _ _ _ => ?_)))
    | ((with_reducible refine Frame.when (fun _ _ => ?_) ?_))
    | ((with_reducible apply Frame.step (Dev.fabSend_frame ..)); case hw => rfl)

theorem execKerfHalo_frame (dt : Nat) (dev : Fin 1024) (payload : List Gran) (s : State) :
    ∃ dev₁, execKerfHalo dt dev payload s = .next { s with dev := dev₁ } ∧ Frame 0x608000000000000000000000000000000000000000000000000000000000000000000000000000000000008000000000000002bce800004400000000010000000000030c2014078000000002000000000000000000000000002e009003 s.dev dev₁ := by
  unfold execKerfHalo
  refine State.act_frame rfl (fun d h => ?_)
  repeat' first
    | (with_reducible assumption)
    | ((with_reducible refine Frame.granting ?hw (fun _ _ => ?_) ?_); case hw => rfl)
    | ((with_reducible apply Frame.step (Dev.haloRecs_frame ..)); case hw => rfl)
    | split

theorem execGrantArmed_frame (dt : Nat) (n : Fin 34) (s : State) :
    ∃ dev₁, execGrantArmed dt n s = .next { s with dev := dev₁ } ∧ Frame 0x23c4000000000000000010000000000000000000000000000000000000000000000000000000020000003 s.dev dev₁ := by
  unfold execGrantArmed
  refine State.act_frame rfl (fun d h => ?_)
  repeat' first
    | (with_reducible assumption)
    | ((with_reducible apply Frame.step (Dev.showKerf_frame ..)); case hw => rfl)
    | ((with_reducible apply Frame.step (Dev.modReq_frame ..)); case hw => rfl)
    | split

theorem execKerfPeerSilent_frame (dt : Nat) (k : Fin 8) (s : State) :
    ∃ dev₁, execKerfPeerSilent dt k s = .next { s with dev := dev₁ } ∧ Frame 0x608000000000000000000000000000000000000000000000000000000000000000000000000000000000000000000000000000002000000000000000000000000000030c20140000000000020000000000000000000000000006009003 s.dev dev₁ := by
  unfold execKerfPeerSilent
  refine State.act_frame rfl (fun d h => ?_)
  repeat' first
    | (with_reducible assumption)
    | (extract_lets +onlyGivenNames x; first | (clear_value x; revert x; intro _) | (subst x))
    | ((with_reducible refine Frame.when (fun _ _ => ?_) ?_))
    | ((with_reducible apply Frame.step (Dev.record_frame ..)); case hw => decide +kernel)
    | ((with_reducible apply Frame.step (Dev.put_frame ..)); case hw => decide +kernel)

theorem execFrozenClaimExpire_frame (dt : Nat) (dev : Fin 1024) (eng : Fin 34) (s : State) :
    ∃ dev₁, execFrozenClaimExpire dt dev eng s = .next { s with dev := dev₁ } ∧ Frame 0x20000003 s.dev dev₁ := by
  unfold execFrozenClaimExpire
  refine State.act_frame rfl (fun d h => ?_)
  repeat' first
    | (with_reducible assumption)
    | (extract_lets +onlyGivenNames x; first | (clear_value x; revert x; intro _) | (subst x))
    | ((with_reducible refine Frame.when (fun _ _ => ?_) ?_))
    | split
    | ((with_reducible refine Frame.kerf_of ?hw ?_); case hw => rfl)

/-! ### GrainCmds.lean -/

theorem execGrnGeomWrite_frame (dt : Nat) (k : Fin 3) (value : Word) (s : State) :
    ∃ dev₁, execGrnGeomWrite dt k value s = .next { s with dev := dev₁ } ∧ Frame 0x800f00000000000000000000000000000000000000000000000000000080000000000000000000000000000000040000003 s.dev dev₁ := by
  unfold execGrnGeomWrite
  have hr : Within (grnGeomReg k).mask 0x800f00000000000000000000000000000000000000000000000000000080000000000000000000000000000000040000003 := by
    unfold grnGeomReg
    repeat' split
    all_goals decide +kernel
  refine State.act_frame (by decide +kernel) (fun d h => ?_)
  exact Frame.byFn (by decide +kernel) (fun _ h => Frame.step (Dev.writeGeom_frame ..) (Within.or (by decide +kernel) hr) h) h

theorem execGrainHaloSend_frame (dt : Nat) (s : State) :
    ∃ dev₁, execGrainHaloSend dt s = .next { s with dev := dev₁ } ∧ Frame 0x10a4000000000000000000000000000000000000000000000000000000000000000000000000000000000000000020046000003 s.dev dev₁ := by
  unfold execGrainHaloSend
  refine State.act_frame rfl (fun d h => ?_)
  repeat' first
    | (with_reducible assumption)
    | (extract_lets +onlyGivenNames x; first | (refine Frame.cut x.2 ?_ (fun _ => ?_); rotate_left; clear_value x; revert x; intro _ _; rotate_left; subst x) | (clear_value x; revert x; intro _) | (subst x))
    | ((with_reducible refine Frame.foldl ?_ (fun _ _ _ => ?_)))
    | ((with_reducible refine Frame.when (fun _ _ => ?_) ?_))
    | ((with_reducible apply Frame.step (Dev.grainSet_frame ..)); case hw => rfl)
    | ((with_reducible apply Frame.step (Dev.fabSend_frame ..)); case hw => rfl)

theorem execGrainHalo_frame (dt : Nat) (dev : Fin 1024) (payload : List Gran) (s : State) :
    ∃ dev₁, execGrainHalo dt dev payload s = .next { s with dev := dev₁ } ∧ Frame 0x60800000000000000000000000000000000000000000000000000000000000000000000000000000000107f000000000000000002000004400000000000000000000030c2014078000000002000000000000000000000002006e009003 s.dev dev₁ := by
  unfold execGrainHalo
  refine State.act_frame rfl (fun d h => ?_)
  repeat' first
    | (with_reducible assumption)
    | ((with_reducible refine Frame.granting ?hw (fun _ _ => ?_) ?_); case hw => rfl)
    | ((with_reducible refine Frame.when (fun _ _ => ?_) ?_))
    | ((with_reducible apply Frame.step (Dev.haloRuns_frame ..)); case hw => rfl)
    | ((with_reducible apply Frame.step (Dev.depositAll_frame ..)); case hw => rfl)
    | split

theorem execGrainPeerSilent_frame (dt : Nat) (k : Fin 8) (s : State) :
    ∃ dev₁, execGrainPeerSilent dt k s = .next { s with dev := dev₁ } ∧ Frame 0x8000000000000000000000000000000000000000000000000000000000000000000000000000000000000000000000000003 s.dev dev₁ := by
  unfold execGrainPeerSilent
  refine State.act_frame rfl (fun d h => ?_)
  repeat' first
    | (with_reducible assumption)
    | (extract_lets +onlyGivenNames x; first | (clear_value x; revert x; intro _) | (subst x))
    | ((with_reducible refine Frame.when (fun _ _ => ?_) ?_))
    | ((with_reducible apply Frame.step (Dev.put_frame ..)); case hw => decide +kernel)

theorem execGrnSave_frame (dt : Nat) (job : Nat) (s : State) :
    ∃ dev₁, execGrnSave dt job s = .next { s with dev := dev₁ } ∧ Frame 0x20000000000000000000000000000000000000000000000000000000000000000000000000000000000000000000000000000010240000000000000000000000000000000000000000000000000000000003680008a0000004000000000000000020040420513 s.dev dev₁ := by
  unfold execGrnSave
  refine State.act_frame rfl (fun d h => ?_)
  repeat' first
    | (with_reducible assumption)
    | (extract_lets +onlyGivenNames x; first | (clear_value x; revert x; intro _) | (subst x))
    | ((with_reducible refine Frame.withJob ?hw (fun _ _ _ => ?_) ?_); case hw => rfl)
    | ((with_reducible apply Frame.step (Dev.complete_frame ..)); case hw => rfl)
    | ((with_reducible apply Frame.step (Dev.saveTo_frame ..)); case hw => rfl)
    | ((with_reducible apply Frame.step (Dev.cellErrors_frame ..)); case hw => rfl)
    | split

theorem execGrnLoad_frame (dt : Nat) (job : Nat) (s : State) :
    ∃ dev₁, execGrnLoad dt job s = .next { s with dev := dev₁ } ∧ Frame 0x20000000000000000000000000000000000000000000000000000000000000000000000000000000000000000000000000000000000000000000000000000000000000000000000000000000000000000000000008a0000000000000000000000020040020503 s.dev dev₁ := by
  unfold execGrnLoad
  refine State.act_frame (by decide +kernel) (fun d h => ?_)
  refine Frame.withJob (by decide +kernel) (fun d j h => ?_) h
  cases hr : d.grnRange j with
  | error code => exact Frame.step (Dev.complete_frame ..) (by decide +kernel) h
  | ok r =>
    dsimp only
    split
    · exact Frame.step (Dev.complete_frame ..) (by decide +kernel) h
    · refine Frame.step (Dev.complete_frame ..) (by decide +kernel) (Frame.foldl h (fun _ _ h => ?_))
      exact Frame.step (Dev.noteCell_frame ..) (by decide +kernel) (Frame.step (Dev.setCell_frame ..) (by decide +kernel) h)

/-! ### VeneerCmds.lean -/

theorem execVnrAttach_frame (dt : Nat) (job : Nat) (s : State) :
    ∃ dev₁, execVnrAttach dt job s = .next { s with dev := dev₁ } ∧ Frame 0x20000000000000000006080000000000000000000000000000000000000000000000000000000000000100f0098002444000000000000000000000000000000000000000000000000000000030c201400000000008a0000000000000000000000000086029503 s.dev dev₁ := by
  unfold execVnrAttach
  refine State.act_frame rfl (fun d h => ?_)
  repeat' first
    | (with_reducible assumption)
    | (extract_lets +onlyGivenNames x; first | (refine Frame.cut x ?_ (fun _ => ?_); rotate_left; clear_value x; revert x; intro _ _; rotate_left; subst x) | (clear_value x; revert x; intro _) | (subst x))
    | ((with_reducible refine Frame.withJob ?hw (fun _ _ _ => ?_) ?_); case hw => decide +kernel)
    | ((with_reducible apply Frame.step (Dev.put_frame ..)); case hw => decide +kernel)
    | ((with_reducible apply Frame.step (Dev.dropTile_frame ..)); case hw => decide +kernel)
    | ((with_reducible apply Frame.step (Dev.complete_frame ..)); case hw => decide +kernel)
    | ((with_reducible apply Frame.step (Dev.begin'_frame ..)); case hw => decide +kernel)
    | ((with_reducible apply Frame.step (Dev.modTile_frame ..)); case hw => decide +kernel)
    | ((with_reducible apply Frame.step (Dev.attachNow_frame ..)); case hw => decide +kernel)
    | split

theorem execAttachLinkTimeout_frame (dt : Nat) (t : Fin 16) (s : State) :
    ∃ dev₁, execAttachLinkTimeout dt t s = .next { s with dev := dev₁ } ∧ Frame 0x20000000000000000000000000000000000000000000000000000000000000000000000000000000000000000000020440000000000000000000000000000000000000000000000000000000000000000000000008a0000000000000000000000000080020503 s.dev dev₁ := by
  unfold execAttachLinkTimeout
  refine State.act_frame rfl (fun d h => ?_)
  repeat' first
    | (with_reducible assumption)
    | (extract_lets +onlyGivenNames x; first | (refine Frame.cut x ?_ (fun _ => ?_); rotate_left; clear_value x; revert x; intro _ _; rotate_left; subst x) | (clear_value x; revert x; intro _) | (subst x))
    | ((with_reducible apply Frame.step (Dev.dropTile_frame ..)); case hw => decide +kernel)
    | ((with_reducible apply Frame.step (Dev.put_frame ..)); case hw => decide +kernel)
    | ((with_reducible apply Frame.step (Dev.complete_frame ..)); case hw => decide +kernel)
    | split

theorem execVnrDetach_frame (dt : Nat) (job : Nat) (s : State) :
    ∃ dev₁, execVnrDetach dt job s = .next { s with dev := dev₁ } ∧ Frame 0x20000000000000000000000000000000000000000000000000000000000000000000000000000000000000000000020040000000000000000000000000000000000000000000000000000000000000000000000008a0000000000000000000000000080020503 s.dev dev₁ := by
  unfold execVnrDetach
  refine State.act_frame rfl (fun d h => ?_)
  repeat' first
    | (with_reducible assumption)
    | (extract_lets +onlyGivenNames x; first | (refine Frame.cut x ?_ (fun _ => ?_); rotate_left; clear_value x; revert x; intro _ _; rotate_left; subst x) | (clear_value x; revert x; intro _) | (subst x))
    | ((with_reducible refine Frame.withJob ?hw (fun _ _ _ => ?_) ?_); case hw => rfl)
    | ((with_reducible refine Frame.when (fun _ _ => ?_) ?_))
    | ((with_reducible apply Frame.step (Dev.modTile_frame ..)); case hw => rfl)
    | ((with_reducible apply Frame.step (Dev.blankTile_frame ..)); case hw => rfl)
    | ((with_reducible apply Frame.step (Dev.begin'_frame ..)); case hw => rfl)
    | ((with_reducible apply Frame.step (Dev.dropTile_frame ..)); case hw => rfl)
    | split

theorem execVnrFrame_frame (dt : Nat) (job : Nat) (s : State) :
    ∃ dev₁, execVnrFrame dt job s = .next { s with dev := dev₁ } ∧ Frame 0x20000000000000000000000000000000000000000000000000000000000000000000000000000000000000000000000000000000000000000000000000000000000000000000000000000000000000000000000008a0000000000000000000000000080020503 s.dev dev₁ := by
  unfold execVnrFrame
  refine State.act_frame rfl (fun d h => ?_)
  repeat' first
    | (with_reducible assumption)
    | (extract_lets +onlyGivenNames x; first | (refine Frame.cut x ?_ (fun _ => ?_); rotate_left; clear_value x; revert x; intro _ _; rotate_left; subst x) | (clear_value x; revert x; intro _) | (subst x))
    | ((with_reducible refine Frame.withJob ?hw (fun _ _ _ => ?_) ?_); case hw => rfl)
    | ((with_reducible apply Frame.step (Dev.complete_frame ..)); case hw => rfl)
    | ((with_reducible apply Frame.step (Dev.modTile_frame ..)); case hw => rfl)
    | ((with_reducible apply Frame.step (Dev.begin'_frame ..)); case hw => rfl)
    | ((with_reducible apply Frame.step (Dev.chooseNext_frame ..)); case hw => rfl)
    | split

theorem execFrameSendDone_frame (dt : Nat) (t : Fin 16) (s : State) :
    ∃ dev₁, execFrameSendDone dt t s = .next { s with dev := dev₁ } ∧ Frame 0x60800000000000000000000000000000000000000000000000000000000000000000000000008c000000000000000000000000000000000000000000000000000000030c20140000000000020000000000000000000000000086009003 s.dev dev₁ := by
  unfold execFrameSendDone
  refine State.act_frame rfl (fun d h => ?_)
  repeat' first
    | (with_reducible assumption)
    | ((with_reducible refine Frame.when (fun _ _ => ?_) ?_))
    | ((with_reducible apply Frame.step (Dev.sendDone_frame ..)); case hw => rfl)

theorem execVeneerSlotStart_frame (dt : Nat) (t : Fin 16) (s : State) :
    ∃ dev₁, execVeneerSlotStart dt t s = .next { s with dev := dev₁ } ∧ Frame 0x200000000000000000060800000000000000000000000000000000000000000000000000000000000000000000000259c000000000000000000000000000000000000000000000000000000030c201400000000008a0000000000000000000000000086029503 s.dev dev₁ := by
  unfold execVeneerSlotStart
  refine State.act_frame rfl (fun d h => ?_)
  repeat' first
    | (with_reducible assumption)
    | ((with_reducible apply Frame.step (Dev.slotStart_frame ..)); case hw => rfl)

theorem execVeneerLinePeriod_frame (dt : Nat) (t : Fin 16) (s : State) :
    ∃ dev₁, execVeneerLinePeriod dt t s = .next { s with dev := dev₁ } ∧ Frame 0x200000000000000000000000000000000000000000000000000000000000000000000000000000000000000000000000000000080000003 s.dev dev₁ := by
  unfold execVeneerLinePeriod
  refine State.act_frame rfl (fun d h => ?_)
  repeat' first
    | (with_reducible assumption)
    | ((with_reducible refine Frame.when (fun _ _ => ?_) ?_))
    | ((with_reducible apply Frame.step (Dev.linePeriod_frame ..)); case hw => rfl)

theorem execVeneerDeposit_frame (dt : Nat) (t : Fin 16) (s : State) :
    ∃ dev₁, execVeneerDeposit dt t s = .next { s with dev := dev₁ } ∧ Frame 0x10350000000000000000000000000000000000000000000000000000000000000000000000000000000000000000200c8000003 s.dev dev₁ := by
  unfold execVeneerDeposit
  refine State.act_frame rfl (fun d h => ?_)
  repeat' first
    | (with_reducible assumption)
    | (extract_lets +onlyGivenNames x; first | (refine Frame.cut x ?_ (fun _ => ?_); rotate_left; clear_value x; revert x; intro _ _; rotate_left; subst x) | (clear_value x; revert x; intro _) | (subst x))
    | ((with_reducible refine Frame.foldl ?_ (fun _ _ _ => ?_)))
    | ((with_reducible refine Frame.when (fun _ _ => ?_) ?_))
    | ((with_reducible apply Frame.step (Dev.modTile_frame ..)); case hw => rfl)
    | ((with_reducible apply Frame.step (Dev.depositAll_frame ..)); case hw => rfl)
    | ((with_reducible apply Frame.step (Dev.siteDeposit_frame ..)); case hw => rfl)
    | split

theorem execLineBufferEccError_frame (dt : Nat) (t : Fin 16) (s : State) :
    ∃ dev₁, execLineBufferEccError dt t s = .next { s with dev := dev₁ } ∧ Frame 0x19c0200000038000000080060880001008040000000000000000001de0000004001080000000807800000000000000000000400000000000000f8000040023c400000c4000000001108000c0300030c201410003680008a000000410600000000000002e3af639d33 s.dev dev₁ := by
  unfold execLineBufferEccError
  refine State.act_frame rfl (fun d h => ?_)
  repeat' first
    | (with_reducible assumption)
    | (extract_lets +onlyGivenNames x; first | (refine Frame.cut x ?_ (fun _ => ?_); rotate_left; clear_value x; revert x; intro _ _; rotate_left; subst x) | (clear_value x; revert x; intro _) | (subst x))
    | ((with_reducible apply Frame.step (Dev.blankTile_frame ..)); case hw => rfl)
    | ((with_reducible apply Frame.step (Dev.complete_frame ..)); case hw => rfl)
    | ((with_reducible apply Frame.step (Dev.modTile_frame ..)); case hw => rfl)
    | ((with_reducible apply Frame.step (Dev.unitFault_frame ..)); case hw => rfl)
    | split

theorem execTileLinkFault_frame (dt : Nat) (t : Fin 16) (s : State) :
    ∃ dev₁, execTileLinkFault dt t s = .next { s with dev := dev₁ } ∧ Frame 0x2000000000000000000608000000000000000000000000000000000000000000000000000000000000000000104002004000000000000000000000000000000000000000000000000000000030c201400000000008a0000000000000000000000000086029503 s.dev dev₁ := by
  unfold execTileLinkFault
  refine State.act_frame rfl (fun d h => ?_)
  repeat' first
    | (with_reducible assumption)
    | ((with_reducible refine Frame.when (fun _ _ => ?_) ?_))
    | ((with_reducible apply Frame.step (Dev.loseTileLink_frame ..)); case hw => rfl)

theorem execTileStatus_frame (dt : Nat) (t : Fin 16) (packet : List Byte) (s : State) :
    ∃ dev₁, execTileStatus dt t packet s = .next { s with dev := dev₁ } ∧ Frame 0x6080000000000000000000000000000000000000000000000000000000000000101ff0bc000440000000000000000000000000000000000000000000000000000000030c20140000000000020000000000000000000000000086009003 s.dev dev₁ := by
  unfold execTileStatus
  refine State.act_frame rfl (fun d h => ?_)
  repeat' first
    | (with_reducible assumption)
    | ((with_reducible refine Frame.onPacket ?hw (fun _ _ _ _ => ?_) ?_); case hw => rfl)
    | ((with_reducible apply Frame.step (Dev.goodStatus_frame ..)); case hw => rfl)

theorem execTileAlarm_frame (dt : Nat) (t : Fin 16) (packet : List Byte) (s : State) :
    ∃ dev₁, execTileAlarm dt t packet s = .next { s with dev := dev₁ } ∧ Frame 0x608000000000000000000000000000000000000000000000000000000000000010300080000000000000000000000000000000000000000000000000000000000000030c20140000000000020000000000000000000000000086009003 s.dev dev₁ := by
  unfold execTileAlarm
  refine State.act_frame rfl (fun d h => ?_)
  repeat' first
    | (with_reducible assumption)
    | (extract_lets +onlyGivenNames x; first | (refine Frame.cut x ?_ (fun _ => ?_); rotate_left; clear_value x; revert x; intro _ _; rotate_left; subst x) | (clear_value x; revert x; intro _) | (subst x))
    | ((with_reducible refine Frame.onPacket ?hw (fun _ _ _ _ => ?_) ?_); case hw => decide +kernel)
    | ((with_reducible apply Frame.step (Dev.bump_frame ..)); case hw => decide +kernel)
    | ((with_reducible apply Frame.step (Dev.put_frame ..)); case hw => decide +kernel)
    | ((with_reducible apply Frame.step (Dev.modTile_frame ..)); case hw => decide +kernel)
    | ((with_reducible apply Frame.step (Dev.occur_frame ..)); case hw => decide +kernel)
    | ((with_reducible apply Frame.step (Dev.tileRecord_frame ..)); case hw => decide +kernel)
    | ((with_reducible apply Frame.step (Dev.raise_frame ..)); case hw => decide +kernel)

theorem execTileVolt_frame (dt : Nat) (t : Fin 16) (packet : List Byte) (s : State) :
    ∃ dev₁, execTileVolt dt t packet s = .next { s with dev := dev₁ } ∧ Frame 0x608000000000000000000000000000000000000000000000000000000000000000180040000000000000000000000000000000000000000000000000000000000000030c20140000000000020000000000000000000000000086009003 s.dev dev₁ := by
  unfold execTileVolt
  refine State.act_frame rfl (fun d h => ?_)
  repeat' first
    | (with_reducible assumption)
    | ((with_reducible refine Frame.onPacket ?hw (fun _ _ _ _ => ?_) ?_); case hw => rfl)
    | ((with_reducible apply Frame.step (Dev.checkVolts_frame ..)); case hw => rfl)

theorem execProbeSweep_frame (dt : Nat) (t : Fin 16) (s : State) :
    ∃ dev₁, execProbeSweep dt t s = .next { s with dev := dev₁ } ∧ Frame 0x40000000000000000000000000000000000000000000000000000000000000000000000000000000000000000000000000000000000000080000007 s.dev dev₁ := by
  unfold execProbeSweep
  refine State.act_frame rfl (fun d h => ?_)
  repeat' first
    | (with_reducible assumption)
    | (extract_lets +onlyGivenNames x; first | (refine Frame.cut x ?_ (fun _ => ?_); rotate_left; clear_value x; revert x; intro _ _; rotate_left; subst x) | (subst x))
    | ((with_reducible refine Frame.when (fun _ _ => ?_) ?_))
    | ((with_reducible apply Frame.step (Dev.latchWhere_frame ..)); case hw => decide +kernel)
    | ((with_reducible apply Frame.step (Dev.bump_frame ..)); case hw => decide +kernel)
    | ((with_reducible apply Frame.step (Dev.modTile_frame ..)); case hw => decide +kernel)
    | ((with_reducible apply Frame.step (Dev.sendTile_frame ..)); case hw => decide +kernel)

theorem execProbeResult_frame (dt : Nat) (t : Fin 16) (packet : List Byte) (s : State) :
    ∃ dev₁, execProbeResult dt t packet s = .next { s with dev := dev₁ } ∧ Frame 0x200000000000000000060800000000000000000000000000000000000000000000000000000000000000f920400002004000000000000000000000000000000000000000000000000000000030c201400000000008a0000000000000000000000000086029503 s.dev dev₁ := by
  unfold execProbeResult
  refine State.act_frame rfl (fun d h => ?_)
  repeat' first
    | (with_reducible assumption)
    | ((with_reducible refine Frame.onPacket ?hw (fun _ _ _ _ => ?_) ?_); case hw => rfl)
    | ((with_reducible refine Frame.when (fun _ _ => ?_) ?_))
    | ((with_reducible apply Frame.step (Dev.modTile_frame ..)); case hw => rfl)
    | ((with_reducible apply Frame.step (Dev.probeStrings_frame ..)); case hw => rfl)

theorem execStopListClear_frame (dt : Nat) (t : Fin 16) (s : State) :
    ∃ dev₁, execStopListClear dt t s = .next { s with dev := dev₁ } ∧ Frame 0xf800600000000000000000000000000000000000000000000000000000000000000000000000000080000000000000000000000000000000000000007 s.dev dev₁ := by
  unfold execStopListClear
  refine State.act_frame rfl (fun d h => ?_)
  repeat' first
    | (with_reducible assumption)
    | ((with_reducible refine Frame.byFn ?hw (fun _ _ => ?_) ?_); case hw => rfl)
    | ((with_reducible apply Frame.step (Dev.clearStops_frame ..)); case hw => rfl)

/-! ### AxisCmds.lean -/

theorem execAxMove_frame (dt : Nat) (job : Nat) (s : State) :
    ∃ dev₁, execAxMove dt job s = .next { s with dev := dev₁ } ∧ Frame 0x2000000000000000000000000000000000000000000000000000000000000000000000000c2000000f0000000000000000000000000000000000000000000000000000000000000000000000000000000000000008a0000000000000000000000000100020503 s.dev dev₁ := by
  unfold execAxMove
  refine State.act_frame rfl (fun d h => ?_)
  repeat' first
    | (with_reducible assumption)
    | (extract_lets +onlyGivenNames x; first | (refine Frame.cut x ?_ (fun _ => ?_); rotate_left; clear_value x; revert x; intro _ _; rotate_left; subst x) | (subst x))
    | ((with_reducible refine Frame.axisJob ?hw (fun _ _ _ _ => ?_) ?_); case hw => decide +kernel)
    | ((with_reducible apply Frame.step (Dev.takeImm_frame ..)); case hw => decide +kernel)
    | ((with_reducible apply Frame.step (Dev.unlatch_frame ..)); case hw => decide +kernel)
    | ((with_reducible apply Frame.step (Dev.begin'_frame ..)); case hw => decide +kernel)
    | ((with_reducible apply Frame.step (Dev.runTo_frame ..)); case hw => decide +kernel)
    | ((with_reducible apply Frame.step (Dev.put_frame ..)); case hw => decide +kernel)
    | ((with_reducible apply Frame.step (Dev.modAxis_frame ..)); case hw => decide +kernel)
    | split

theorem execAxHome_frame (dt : Nat) (job : Nat) (s : State) :
    ∃ dev₁, execAxHome dt job s = .next { s with dev := dev₁ } ∧ Frame 0x2000000000000000000000000000000000000000000000000000000000000010000000000c6000000f0000000000000000000000000000000000000000000000000000000000000000000000000000000000000008a0000000000000000000000000100020503 s.dev dev₁ := by
  unfold execAxHome
  refine State.act_frame rfl (fun d h => ?_)
  repeat' first
    | (with_reducible assumption)
    | (extract_lets +onlyGivenNames x; first | (refine Frame.cut x ?_ (fun _ => ?_); rotate_left; clear_value x; revert x; intro _ _; rotate_left; subst x) | (clear_value x; revert x; intro _) | (subst x))
    | ((with_reducible refine Frame.axisJob ?hw (fun _ _ _ _ => ?_) ?_); case hw => decide +kernel)
    | ((with_reducible apply Frame.step (Dev.unhome_frame ..)); case hw => decide +kernel)
    | ((with_reducible apply Frame.step (Dev.unlatch_frame ..)); case hw => decide +kernel)
    | ((with_reducible apply Frame.step (Dev.begin'_frame ..)); case hw => decide +kernel)
    | ((with_reducible apply Frame.step (Dev.runTo_frame ..)); case hw => decide +kernel)
    | ((with_reducible apply Frame.step (Dev.put_frame ..)); case hw => decide +kernel)
    | ((with_reducible apply Frame.step (Dev.modAxis_frame ..)); case hw => decide +kernel)
    | split

theorem execAxStop_frame (dt : Nat) (job : Nat) (s : State) :
    ∃ dev₁, execAxStop dt job s = .next { s with dev := dev₁ } ∧ Frame 0x20000000000000000000000000000000000000000000000000000000000000000000000000000000000000000000000000000000000000000000000000000000000000000000000000000000000000000000000008a0000000000000000000000000100020503 s.dev dev₁ := by
  unfold execAxStop
  refine State.act_frame rfl (fun d h => ?_)
  repeat' first
    | (with_reducible assumption)
    | ((with_reducible refine Frame.axisJob ?hw (fun _ _ _ _ => ?_) ?_); case hw => rfl)
    | ((with_reducible apply Frame.step (Dev.takeImm_frame ..)); case hw => rfl)

theorem execAxLimits_frame (dt : Nat) (job : Nat) (s : State) :
    ∃ dev₁, execAxLimits dt job s = .next { s with dev := dev₁ } ∧ Frame 0x20000000000000000000000000000000000000000000000000000000000000000000000000000000000000000000000000000000000000000000000000000000000000000000000000000000000000000000000008a0000000000000000000000000100020503 s.dev dev₁ := by
  unfold execAxLimits
  refine State.act_frame rfl (fun d h => ?_)
  repeat' first
    | (with_reducible assumption)
    | ((with_reducible refine Frame.axisJob ?hw (fun _ _ _ _ => ?_) ?_); case hw => rfl)
    | ((with_reducible apply Frame.step (Dev.takeImm_frame ..)); case hw => rfl)

theorem execEncCmp_frame (dt : Nat) (job : Nat) (s : State) :
    ∃ dev₁, execEncCmp dt job s = .next { s with dev := dev₁ } ∧ Frame 0x20000000000000000000000000000000000000000000000000000000000000000000000000000000000000000000000000000000000000000000000000000000000000000000000000000000000000000000000008a0000000000000000000000000100020503 s.dev dev₁ := by
  unfold execEncCmp
  refine State.act_frame rfl (fun d h => ?_)
  repeat' first
    | (with_reducible assumption)
    | ((with_reducible refine Frame.axisJob ?hw (fun _ _ _ _ => ?_) ?_); case hw => rfl)
    | ((with_reducible apply Frame.step (Dev.takeImm_frame ..)); case hw => rfl)

theorem execEncCmpStop_frame (dt : Nat) (job : Nat) (s : State) :
    ∃ dev₁, execEncCmpStop dt job s = .next { s with dev := dev₁ } ∧ Frame 0x20000000000000000000000000000000000000000000000000000000000000000000000000000000000000000000000000000000000000000000000000000000000000000000000000000000000000000000000008a0000000000000000000000000100020503 s.dev dev₁ := by
  unfold execEncCmpStop
  refine State.act_frame rfl (fun d h => ?_)
  repeat' first
    | (with_reducible assumption)
    | ((with_reducible refine Frame.axisJob ?hw (fun _ _ _ _ => ?_) ?_); case hw => rfl)
    | ((with_reducible apply Frame.step (Dev.takeImm_frame ..)); case hw => rfl)

theorem execEncSync_frame (dt : Nat) (job : Nat) (s : State) :
    ∃ dev₁, execEncSync dt job s = .next { s with dev := dev₁ } ∧ Frame 0x20000000000000000000000000000000000000000000000000000000000000000000000000000000000000000000000000000000000000000000000000000000000000000000000000000000000000000000000008a0000000000000000000000000100020503 s.dev dev₁ := by
  unfold execEncSync
  refine State.act_frame rfl (fun d h => ?_)
  repeat' first
    | (with_reducible assumption)
    | ((with_reducible refine Frame.axisJob ?hw (fun _ _ _ _ => ?_) ?_); case hw => rfl)
    | ((with_reducible apply Frame.step (Dev.takeImm_frame ..)); case hw => rfl)

theorem execAxisTick_frame (dt : Nat) (s : State) :
    ∃ dev₁, execAxisTick dt s = .next { s with dev := dev₁ } ∧ Frame 0x20000000000000000000000000000000000000000000000000000000000000108c0c00000c3800000f0000000000000000000000000000000000000000000000000000000000000000000000000000000000000008a0000000000000000000000000300020503 s.dev dev₁ := by
  unfold execAxisTick
  refine State.act_frame rfl (fun d h => ?_)
  repeat' first
    | (with_reducible assumption)
    | ((with_reducible refine Frame.foldl ?_ (fun _ _ _ => ?_)))
    | ((with_reducible refine Frame.when (fun _ _ => ?_) ?_))
    | ((with_reducible apply Frame.step (Dev.tickAxis_frame ..)); case hw => rfl)

theorem execAxisMoveDone_frame (dt : Nat) (a : Fin 8) (s : State) :
    ∃ dev₁, execAxisMoveDone dt a s = .next { s with dev := dev₁ } ∧ Frame 0x20000000000000000000000000000000000000000000000000000000000000100000000000780000000000000000000000000000000000000000000000000000000000000000000000000000000000000000000008a0000000000000000000000000300020503 s.dev dev₁ := by
  unfold execAxisMoveDone
  refine State.act_frame rfl (fun d h => ?_)
  repeat' first
    | (with_reducible assumption)
    | ((with_reducible refine Frame.when (fun _ _ => ?_) ?_))
    | ((with_reducible apply Frame.step (Dev.moveDone_frame ..)); case hw => rfl)

theorem execHomePressDone_frame (dt : Nat) (a : Fin 8) (s : State) :
    ∃ dev₁, execHomePressDone dt a s = .next { s with dev := dev₁ } ∧ Frame 0x800000000000000000000000000000000000000000000000000000000000000000000000000000000000000000000000000000000000000000000000000100000003 s.dev dev₁ := by
  unfold execHomePressDone
  refine State.act_frame rfl (fun d h => ?_)
  repeat' first
    | (with_reducible assumption)
    | (extract_lets +onlyGivenNames x; first | (clear_value x; revert x; intro _) | (subst x))
    | ((with_reducible refine Frame.when (fun _ _ => ?_) ?_))
    | ((with_reducible apply Frame.step (Dev.modAxis_frame ..)); case hw => rfl)
    | ((with_reducible apply Frame.step (Dev.runTo_frame ..)); case hw => rfl)

theorem execHomeNoStop_frame (dt : Nat) (a : Fin 8) (s : State) :
    ∃ dev₁, execHomeNoStop dt a s = .next { s with dev := dev₁ } ∧ Frame 0x100000003 s.dev dev₁ := by
  unfold execHomeNoStop
  refine State.act_frame rfl (fun d h => ?_)
  repeat' first
    | (with_reducible assumption)
    | (extract_lets +onlyGivenNames x; first | (clear_value x; revert x; intro _) | (subst x))
    | ((with_reducible refine Frame.when (fun _ _ => ?_) ?_))
    | ((with_reducible apply Frame.step (Dev.modAxis_frame ..)); case hw => rfl)
    | ((with_reducible apply Frame.step (Dev.runStop_frame ..)); case hw => rfl)

theorem execHoldDelayExpire_frame (dt : Nat) (a : Fin 8) (s : State) :
    ∃ dev₁, execHoldDelayExpire dt a s = .next { s with dev := dev₁ } ∧ Frame 0x100000003 s.dev dev₁ := by
  unfold execHoldDelayExpire
  refine State.act_frame rfl (fun d h => ?_)
  repeat' first
    | (with_reducible assumption)
    | (extract_lets +onlyGivenNames x; first | (clear_value x; revert x; intro _) | (subst x))
    | ((with_reducible refine Frame.when (fun _ _ => ?_) ?_))
    | ((with_reducible apply Frame.step (Dev.modAxis_frame ..)); case hw => rfl)

theorem execStall_frame (dt : Nat) (a : Fin 8) (s : State) :
    ∃ dev₁, execStall dt a s = .next { s with dev := dev₁ } ∧ Frame 0x20000000000000000006080000000000000000000000000000000000000000100000000000f8000000000000000000000000000000000000000000000000000000000000000000000000000030c201400000000008a0000000000000000000000000106029503 s.dev dev₁ := by
  unfold execStall
  refine State.act_frame rfl (fun d h => ?_)
  repeat' first
    | (with_reducible assumption)
    | (extract_lets +onlyGivenNames x; first | (refine Frame.cut x ?_ (fun _ => ?_); rotate_left; clear_value x; revert x; intro _ _; rotate_left; subst x) | (clear_value x; revert x; intro _) | (subst x))
    | ((with_reducible refine Frame.when (fun _ _ => ?_) ?_))
    | ((with_reducible apply Frame.step (Dev.modAxis_frame ..)); case hw => decide +kernel)
    | ((with_reducible apply Frame.step (Dev.axisFreeze_frame ..)); case hw => decide +kernel)
    | ((with_reducible apply Frame.step (Dev.raise_frame ..)); case hw => decide +kernel)
    | ((with_reducible apply Frame.step (Dev.stallEffects_frame ..)); case hw => decide +kernel)
    | ((with_reducible apply Frame.step (Dev.occur_frame ..)); case hw => decide +kernel)
    | ((with_reducible apply Frame.step (Dev.axisRecord_frame ..)); case hw => decide +kernel)
    | split

theorem execCoilFault_frame (dt : Nat) (a : Fin 8) (overcurrent : Bool) (s : State) :
    ∃ dev₁, execCoilFault dt a overcurrent s = .next { s with dev := dev₁ } ∧ Frame 0x2000000000000000000608000000000000000000000000000000000000000010000000008378000000000000000000000000000000000000000000000000000000000000000000000000000030c201400000000008a0000000000000000000000000106029503 s.dev dev₁ := by
  unfold execCoilFault
  refine State.act_frame rfl (fun d h => ?_)
  repeat' first
    | (with_reducible assumption)
    | (extract_lets +onlyGivenNames x; first | (refine Frame.cut x ?_ (fun _ => ?_); rotate_left; clear_value x; revert x; intro _ _; rotate_left; subst x) | (clear_value x; revert x; intro _) | (subst x))
    | ((with_reducible refine Frame.when (fun _ _ => ?_) ?_))
    | ((with_reducible apply Frame.step (Dev.raise_frame ..)); case hw => first | decide +kernel | exact Within.refl | assumption | exact Reg.mask_within (by decide +kernel) _ | (repeat' first | exact Within.refl | decide +kernel | exact Reg.mask_within (by decide +kernel) _ | exact Within.or_right Within.refl | refine Within.or ?_ ?_ | exact Within.or_left (by decide +kernel) | exact Within.or_right (by decide +kernel)))
    | ((with_reducible apply Frame.step (Dev.brake_frame ..)); case hw => decide +kernel)
    | ((with_reducible apply Frame.step (Dev.endMoves_frame ..)); case hw => decide +kernel)
    | ((with_reducible apply Frame.step (Dev.occur_frame ..)); case hw => decide +kernel)
    | ((with_reducible apply Frame.step (Dev.axisRecord_frame ..)); case hw => decide +kernel)
    | split

theorem execAxisEnable_frame (dt : Nat) (a : Fin 8) (s : State) :
    ∃ dev₁, execAxisEnable dt a s = .next { s with dev := dev₁ } ∧ Frame 0x20000000020000000000000000000000000000000000000000000000000000000000000000000000000000000080000000000000000000000000000000100000003 s.dev dev₁ := by
  unfold execAxisEnable
  refine State.act_frame rfl (fun d h => ?_)
  repeat' first
    | (with_reducible assumption)
    | ((with_reducible refine Frame.byFn ?hw (fun _ _ => ?_) ?_); case hw => rfl)
    | ((with_reducible apply Frame.step (Dev.axisEnable_frame ..)); case hw => rfl)

theorem execAxisDisable_frame (dt : Nat) (a : Fin 8) (s : State) :
    ∃ dev₁, execAxisDisable dt a s = .next { s with dev := dev₁ } ∧ Frame 0x20000000000000000000000000000000000000000000000000000000000000100000000080780000000200000000000000000000000000000000000000000000000000000000000000000000000000000000800008a0000000000000000000000000100020503 s.dev dev₁ := by
  unfold execAxisDisable
  refine State.act_frame rfl (fun d h => ?_)
  repeat' first
    | (with_reducible assumption)
    | ((with_reducible refine Frame.byFn ?hw (fun _ _ => ?_) ?_); case hw => rfl)
    | ((with_reducible apply Frame.step (Dev.axisDisable_frame ..)); case hw => rfl)

theorem execCoilLoopPeriod_frame (dt : Nat) (a : Fin 8) (ia : Int) (ib : Int) (s : State) :
    ∃ dev₁, execCoilLoopPeriod dt a ia ib s = .next { s with dev := dev₁ } ∧ Frame 0xc00000000000000000000000000000000000000000000000000000000000000000000000000000000000000000000000000000000000000000000000000010000000b s.dev dev₁ := by
  unfold execCoilLoopPeriod
  refine State.act_frame rfl (fun d h => ?_)
  repeat' first
    | (with_reducible assumption)
    | (extract_lets +onlyGivenNames x; first | (clear_value x; revert x; intro _) | (subst x))
    | ((with_reducible refine Frame.when (fun _ _ => ?_) ?_))
    | ((with_reducible apply Frame.step (Dev.coilPeriod_frame ..)); case hw => rfl)

/-! ### EncCmds.lean -/

theorem execEncoderEdge_frame (dt : Nat) (e : Fin 8) (a : Bool) (b : Bool) (width : Nat) (s : State) :
    ∃ dev₁, execEncoderEdge dt e a b width s = .next { s with dev := dev₁ } ∧ Frame 0x2000000000000000000608000000000000000000000000000000000000000025bc3500000000000000000000000000000000000000000000000000000000000000000000000000000000000030c201400000000008a0000000000000000000000000206029503 s.dev dev₁ := by
  unfold execEncoderEdge
  refine State.act_frame rfl (fun d h => ?_)
  repeat' first
    | (with_reducible assumption)
    | ((with_reducible refine Frame.when (fun _ _ => ?_) ?_))
    | ((with_reducible apply Frame.step (Dev.bump_frame ..)); case hw => decide +kernel)
    | ((with_reducible apply Frame.step (Dev.encEdge_frame ..)); case hw => decide +kernel)
    | split

theorem execEncCmpPulseEnd_frame (dt : Nat) (e : Fin 8) (s : State) :
    ∃ dev₁, execEncCmpPulseEnd dt e s = .next { s with dev := dev₁ } ∧ Frame 0x200000003 s.dev dev₁ := by
  unfold execEncCmpPulseEnd
  refine State.act_frame rfl (fun d h => ?_)
  repeat' first
    | (with_reducible assumption)
    | (extract_lets +onlyGivenNames x; first | (clear_value x; revert x; intro _) | (subst x))
    | ((with_reducible refine Frame.when (fun _ _ => ?_) ?_))
    | ((with_reducible apply Frame.step (Dev.modEnc_frame ..)); case hw => rfl)

theorem execEncoderIndex_frame (dt : Nat) (e : Fin 8) (a : Bool) (b : Bool) (s : State) :
    ∃ dev₁, execEncoderIndex dt e a b s = .next { s with dev := dev₁ } ∧ Frame 0x60800000000000000000000000000000000000000000241c200000000000000000000000000000000000000000000000000000000000000000000000000000000000030c20140000000000020000000000000000000000000206009003 s.dev dev₁ := by
  unfold execEncoderIndex
  refine State.act_frame rfl (fun d h => ?_)
  repeat' first
    | (with_reducible assumption)
    | (extract_lets +onlyGivenNames x; first | (refine Frame.cut x ?_ (fun _ => ?_); rotate_left; clear_value x; revert x; intro _ _; rotate_left; subst x) | (clear_value x; revert x; intro _))
    | ((with_reducible refine Frame.when (fun _ _ => ?_) ?_))
    | ((with_reducible apply Frame.step (Dev.puts_frame ..)); case hw => decide +kernel)
    | ((with_reducible apply Frame.step (Dev.indexCheck_frame ..)); case hw => decide +kernel)
    | ((with_reducible apply Frame.step (Dev.modEnc_frame ..)); case hw => decide +kernel)
    | split

theorem execEncoderStandstill_frame (dt : Nat) (e : Fin 8) (s : State) :
    ∃ dev₁, execEncoderStandstill dt e s = .next { s with dev := dev₁ } ∧ Frame 0x608000000000000000000000000000000000000000020030100000000000000000000000000000000000000000000000000000000000000000000000000000000000030c20140000000000020000000000000000000000000206009003 s.dev dev₁ := by
  unfold execEncoderStandstill
  refine State.act_frame rfl (fun d h => ?_)
  repeat' first
    | (with_reducible assumption)
    | (extract_lets +onlyGivenNames x; first | (clear_value x; revert x; intro _) | (subst x))
    | ((with_reducible refine Frame.when (fun _ _ => ?_) ?_))
    | ((with_reducible apply Frame.step (Dev.applyPend_frame ..)); case hw => decide +kernel)
    | ((with_reducible apply Frame.step (Dev.raise_frame ..)); case hw => decide +kernel)

theorem execFollowError_frame (dt : Nat) (e : Fin 8) (s : State) :
    ∃ dev₁, execFollowError dt e s = .next { s with dev := dev₁ } ∧ Frame 0x2000000000000000000608000000000000000000000000000000000000000018000000000078000000000000000000000000000000000000000000000000000000000000000000000000000030c201400000000008a0000000000000000000000000306029503 s.dev dev₁ := by
  unfold execFollowError
  refine State.act_frame rfl (fun d h => ?_)
  repeat' first
    | (with_reducible assumption)
    | (extract_lets +onlyGivenNames x; first | (refine Frame.cut x ?_ (fun _ => ?_); rotate_left; clear_value x; revert x; intro _ _; rotate_left; subst x) | (clear_value x; revert x; intro _) | (subst x))
    | ((with_reducible refine Frame.when (fun _ _ => ?_) ?_))
    | ((with_reducible apply Frame.step (Dev.modEnc_frame ..)); case hw => decide +kernel)
    | ((with_reducible apply Frame.step (Dev.raise_frame ..)); case hw => decide +kernel)
    | ((with_reducible apply Frame.step (Dev.occur_frame ..)); case hw => decide +kernel)
    | ((with_reducible apply Frame.step (Dev.axisRecord_frame ..)); case hw => decide +kernel)
    | ((with_reducible apply Frame.step (Dev.stallEffects_frame ..)); case hw => decide +kernel)
    | split

theorem execEncoderEnable_frame (dt : Nat) (e : Fin 8) (s : State) :
    ∃ dev₁, execEncoderEnable dt e s = .next { s with dev := dev₁ } ∧ Frame 0x10000000000000000000000000000000000000000000000000000000000000000000000000000000000000000000080000000000000000000000000000000200000003 s.dev dev₁ := by
  unfold execEncoderEnable
  refine State.act_frame rfl (fun d h => ?_)
  repeat' first
    | (with_reducible assumption)
    | ((with_reducible refine Frame.byFn ?hw (fun _ _ => ?_) ?_); case hw => rfl)
    | ((with_reducible apply Frame.step (Dev.encEnable_frame ..)); case hw => rfl)

theorem execEncoderDisable_frame (dt : Nat) (e : Fin 8) (s : State) :
    ∃ dev₁, execEncoderDisable dt e s = .next { s with dev := dev₁ } ∧ Frame 0x20000000000000000000000000000000000000000000000000000000000000008100000100000000000000000000000000000000000000000000000000000000000000000000000000000000000000000000800008a0000000000000000000000000300020503 s.dev dev₁ := by
  unfold execEncoderDisable
  refine State.act_frame rfl (fun d h => ?_)
  repeat' first
    | (with_reducible assumption)
    | ((with_reducible refine Frame.byFn ?hw (fun _ _ => ?_) ?_); case hw => rfl)
    | ((with_reducible apply Frame.step (Dev.encDisable_frame ..)); case hw => rfl)

/-! ### TimeCmds.lean -/

theorem execTimPulse_frame (dt : Nat) (job : Nat) (s : State) :
    ∃ dev₁, execTimPulse dt job s = .next { s with dev := dev₁ } ∧ Frame 0x20000000000000000000000000000000000000000b00000000000000000000000000000000000000000000000000000000000000000000000000000000000000000000000000000000000000000000000000000008a0000000000000000000000000400020503 s.dev dev₁ := by
  unfold execTimPulse
  refine State.act_frame rfl (fun d h => ?_)
  repeat' first
    | (with_reducible assumption)
    | (extract_lets +onlyGivenNames x; first | (refine Frame.cut x ?_ (fun _ => ?_); rotate_left; clear_value x; revert x; intro _ _; rotate_left; subst x) | (clear_value x; revert x; intro _) | (subst x))
    | ((with_reducible refine Frame.withJob ?hw (fun _ _ _ => ?_) ?_); case hw => decide +kernel)
    | ((with_reducible apply Frame.step (Dev.put_frame ..)); case hw => decide +kernel)
    | ((with_reducible apply Frame.step (Dev.supersedePulse_frame ..)); case hw => decide +kernel)
    | ((with_reducible apply Frame.step (Dev.complete_frame ..)); case hw => decide +kernel)
    | ((with_reducible apply Frame.step (Dev.lower_frame ..)); case hw => decide +kernel)
    | ((with_reducible apply Frame.step (Dev.setPulse_frame ..)); case hw => decide +kernel)
    | ((with_reducible apply Frame.step (Dev.modPulse_frame ..)); case hw => decide +kernel)
    | ((with_reducible apply Frame.step (Dev.begin'_frame ..)); case hw => decide +kernel)
    | ((with_reducible apply Frame.step (Dev.raise_frame ..)); case hw => decide +kernel)
    | ((with_reducible apply Frame.step (Dev.skipPulse_frame ..)); case hw => decide +kernel)
    | split

theorem execTimepulseRise_frame (dt : Nat) (k : Fin 8) (s : State) :
    ∃ dev₁, execTimepulseRise dt k s = .next { s with dev := dev₁ } ∧ Frame 0x2000000000000000000000000000000000000000020000000000000000000000000000000000000000000000000000000000000000000000000000000000000000000000000000000000000030c001400000000008a0000000000000000000000000406021503 s.dev dev₁ := by
  unfold execTimepulseRise
  refine State.act_frame rfl (fun d h => ?_)
  repeat' first
    | (with_reducible assumption)
    | (extract_lets +onlyGivenNames x; first | (refine Frame.cut x ?_ (fun _ => ?_); rotate_left; clear_value x; revert x; intro _ _; rotate_left; subst x) | (clear_value x; revert x; intro _) | (subst x))
    | ((with_reducible refine Frame.when (fun _ _ => ?_) ?_))
    | ((with_reducible apply Frame.step (Dev.firePulse_frame ..)); case hw => decide +kernel)
    | ((with_reducible apply Frame.step (Dev.modPulse_frame ..)); case hw => decide +kernel)
    | ((with_reducible apply Frame.step (Dev.lower_frame ..)); case hw => decide +kernel)
    | ((with_reducible apply Frame.step (Dev.complete_frame ..)); case hw => decide +kernel)
    | split

theorem execTimepulseFall_frame (dt : Nat) (k : Fin 8) (s : State) :
    ∃ dev₁, execTimepulseFall dt k s = .next { s with dev := dev₁ } ∧ Frame 0x400000003 s.dev dev₁ := by
  unfold execTimepulseFall
  refine State.act_frame rfl (fun d h => ?_)
  repeat' first
    | (with_reducible assumption)
    | (extract_lets +onlyGivenNames x; first | (clear_value x; revert x; intro _) | (subst x))
    | ((with_reducible refine Frame.when (fun _ _ => ?_) ?_))
    | ((with_reducible apply Frame.step (Dev.modPulse_frame ..)); case hw => rfl)

theorem execTimCapture_frame (dt : Nat) (job : Nat) (s : State) :
    ∃ dev₁, execTimCapture dt job s = .next { s with dev := dev₁ } ∧ Frame 0x20000000000000000000000000000000000000000000000000000000000000000000000000000000000000000000000000000000000000000000000000000000000000000000000000000000000000000000000008a0000000000000000000000000800020503 s.dev dev₁ := by
  unfold execTimCapture
  refine State.act_frame rfl (fun d h => ?_)
  repeat' first
    | (with_reducible assumption)
    | (extract_lets +onlyGivenNames x; first | (refine Frame.cut x ?_ (fun _ => ?_); rotate_left; clear_value x; revert x; intro _ _; rotate_left; subst x) | (clear_value x; revert x; intro _) | (subst x))
    | ((with_reducible refine Frame.withJob ?hw (fun _ _ _ => ?_) ?_); case hw => rfl)
    | ((with_reducible apply Frame.step (Dev.complete_frame ..)); case hw => rfl)
    | ((with_reducible apply Frame.step (Dev.modCapt_frame ..)); case hw => rfl)
    | ((with_reducible apply Frame.step (Dev.begin'_frame ..)); case hw => rfl)
    | split

theorem execTimecaptureEdge_frame (dt : Nat) (i : Fin 4) (rising : Bool) (s : State) :
    ∃ dev₁, execTimecaptureEdge dt i rising s = .next { s with dev := dev₁ } ∧ Frame 0x2000000000000000000000000000000000000000300000000000000000000000000000000000000000000000000000000000000000000000000000000000000000000000000000000000000030c001400003680008a0000004000000000000000000806421513 s.dev dev₁ := by
  unfold execTimecaptureEdge
  refine State.act_frame rfl (fun d h => ?_)
  repeat' first
    | (with_reducible assumption)
    | (extract_lets +onlyGivenNames x; first | (refine Frame.cut x ?_ (fun _ => ?_); rotate_left; clear_value x; revert x; intro _ _; rotate_left; subst x) | (clear_value x; revert x; intro _) | (subst x))
    | ((with_reducible refine Frame.when (fun _ _ => ?_) ?_))
    | ((with_reducible apply Frame.step (Dev.bump_frame ..)); case hw => decide +kernel)
    | ((with_reducible apply Frame.step (Dev.modCapt_frame ..)); case hw => decide +kernel)
    | ((with_reducible apply Frame.step (Dev.occur_frame ..)); case hw => decide +kernel)
    | ((with_reducible apply Frame.step (Dev.jobWrite_frame ..)); case hw => decide +kernel)
    | ((with_reducible apply Frame.step (Dev.complete_frame ..)); case hw => decide +kernel)
    | split

theorem execTimSet_frame (dt : Nat) (job : Nat) (s : State) :
    ∃ dev₁, execTimSet dt job s = .next { s with dev := dev₁ } ∧ Frame 0x20000000000000000000000000000000000000000000000000000000000000000000000000000000000000000000000000000000000000000000000000000000000000000000000000000000000000000000000008a0000000000000000000000001000020503 s.dev dev₁ := by
  unfold execTimSet
  refine State.act_frame rfl (fun d h => ?_)
  repeat' first
    | (with_reducible assumption)
    | (extract_lets +onlyGivenNames x; first | (clear_value x; revert x; intro _) | (subst x))
    | ((with_reducible refine Frame.withJob ?hw (fun _ _ _ => ?_) ?_); case hw => rfl)
    | ((with_reducible apply Frame.step (Dev.complete_frame ..)); case hw => rfl)
    | ((with_reducible apply Frame.step (Dev.modTime_frame ..)); case hw => rfl)
    | ((with_reducible apply Frame.step (Dev.begin'_frame ..)); case hw => rfl)
    | split

theorem execPtpAnnounce_frame (dt : Nat) (p : Fin 4) (msg : List Byte) (s : State) :
    ∃ dev₁, execPtpAnnounce dt p msg s = .next { s with dev := dev₁ } ∧ Frame 0xc03100000000000000000000000000000000000000000000000000000000000000000000000000000000000000000000000000000000030c00140000000000020000000000000000000000001026001003 s.dev dev₁ := by
  unfold execPtpAnnounce
  refine State.act_frame rfl (fun d h => ?_)
  repeat' first
    | (with_reducible assumption)
    | (extract_lets +onlyGivenNames x; first | (refine Frame.cut x ?_ (fun _ => ?_); rotate_left; clear_value x; revert x; intro _ _; rotate_left; subst x) | (clear_value x; revert x; intro _) | (subst x))
    | ((with_reducible refine Frame.foldl ?_ (fun _ _ _ => ?_)))
    | ((with_reducible refine Frame.ptpTake ?hw (fun _ _ => ?_) ?_); case hw => rfl)
    | ((with_reducible apply Frame.step (Dev.selectMaster_frame ..)); case hw => rfl)
    | ((with_reducible apply Frame.step (Dev.hearAnnounce_frame ..)); case hw => rfl)
    | ((with_reducible apply Frame.step (Dev.ptpSend_frame ..)); case hw => rfl)
    | split

theorem execPtpSync_frame (dt : Nat) (p : Fin 4) (msg : List Byte) (s : State) :
    ∃ dev₁, execPtpSync dt p msg s = .next { s with dev := dev₁ } ∧ Frame 0x608000000000000000000001804300000000000000000000000000000000000000000000000000000000000000000000000000000000000000000000000000000000030c2014000000000002000000000000000000000000102600900b s.dev dev₁ := by
  unfold execPtpSync
  refine State.act_frame rfl (fun d h => ?_)
  repeat' first
    | (with_reducible assumption)
    | (extract_lets +onlyGivenNames x; first | (refine Frame.cut x ?_ (fun _ => ?_); rotate_left; clear_value x; revert x; intro _ _; rotate_left; subst x) | (clear_value x; revert x; intro _) | (subst x))
    | ((with_reducible refine Frame.foldl ?_ (fun _ _ _ => ?_)))
    | ((with_reducible refine Frame.ptpTake ?hw (fun _ _ => ?_) ?_); case hw => decide +kernel)
    | ((with_reducible apply Frame.step (Dev.modTime_frame ..)); case hw => decide +kernel)
    | ((with_reducible apply Frame.step (Dev.bump_frame ..)); case hw => decide +kernel)
    | ((with_reducible apply Frame.step (Dev.put_frame ..)); case hw => decide +kernel)
    | ((with_reducible apply Frame.step (Dev.servo_frame ..)); case hw => decide +kernel)
    | ((with_reducible apply Frame.step (Dev.relaySync_frame ..)); case hw => decide +kernel)
    | split

theorem execPtpSyncSend_frame (dt : Nat) (s : State) :
    ∃ dev₁, execPtpSyncSend dt s = .next { s with dev := dev₁ } ∧ Frame 0x1000000003 s.dev dev₁ := by
  unfold execPtpSyncSend
  refine State.act_frame rfl (fun d h => ?_)
  repeat' first
    | (with_reducible assumption)
    | (extract_lets +onlyGivenNames x; first | (refine Frame.cut x ?_ (fun _ => ?_); rotate_left; clear_value x; revert x; intro _ _; rotate_left; subst x) | (clear_value x; revert x; intro _) | (subst x))
    | ((with_reducible refine Frame.foldl ?_ (fun _ _ _ => ?_)))
    | ((with_reducible refine Frame.when (fun _ _ => ?_) ?_))
    | ((with_reducible apply Frame.step (Dev.modTime_frame ..)); case hw => rfl)
    | ((with_reducible apply Frame.step (Dev.ptpSend_frame ..)); case hw => rfl)

theorem execPtpAnnounceSend_frame (dt : Nat) (s : State) :
    ∃ dev₁, execPtpAnnounceSend dt s = .next { s with dev := dev₁ } ∧ Frame 0x1000000003 s.dev dev₁ := by
  unfold execPtpAnnounceSend
  refine State.act_frame rfl (fun d h => ?_)
  repeat' first
    | (with_reducible assumption)
    | (extract_lets +onlyGivenNames x; first | (refine Frame.cut x ?_ (fun _ => ?_); rotate_left; clear_value x; revert x; intro _ _; rotate_left; subst x) | (clear_value x; revert x; intro _) | (subst x))
    | ((with_reducible refine Frame.foldl ?_ (fun _ _ _ => ?_)))
    | ((with_reducible refine Frame.when (fun _ _ => ?_) ?_))
    | ((with_reducible apply Frame.step (Dev.modTime_frame ..)); case hw => rfl)
    | ((with_reducible apply Frame.step (Dev.ptpSend_frame ..)); case hw => rfl)

theorem execPtpPdelaySend_frame (dt : Nat) (p : Fin 4) (s : State) :
    ∃ dev₁, execPtpPdelaySend dt p s = .next { s with dev := dev₁ } ∧ Frame 0x1000000003 s.dev dev₁ := by
  unfold execPtpPdelaySend
  refine State.act_frame rfl (fun d h => ?_)
  repeat' first
    | (with_reducible assumption)
    | (extract_lets +onlyGivenNames x; first | (refine Frame.cut x ?_ (fun _ => ?_); rotate_left; clear_value x; revert x; intro _ _; rotate_left; subst x) | (clear_value x; revert x; intro _) | (subst x))
    | ((with_reducible refine Frame.when (fun _ _ => ?_) ?_))
    | ((with_reducible apply Frame.step (Dev.modPtp_frame ..)); case hw => rfl)
    | ((with_reducible apply Frame.step (Dev.ptpSend_frame ..)); case hw => rfl)

theorem execPtpPdelayReq_frame (dt : Nat) (p : Fin 4) (msg : List Byte) (s : State) :
    ∃ dev₁, execPtpPdelayReq dt p msg s = .next { s with dev := dev₁ } ∧ Frame 0x80000000000000000000000000000000000000000000000000000000000000000000000000000000000000000000000000000000000000000000000000000000000000000000000000000000102000000b s.dev dev₁ := by
  unfold execPtpPdelayReq
  refine State.act_frame rfl (fun d h => ?_)
  repeat' first
    | (with_reducible assumption)
    | (extract_lets +onlyGivenNames x; first | (clear_value x; revert x; intro _) | (subst x))
    | ((with_reducible refine Frame.ptpTake ?hw (fun _ _ => ?_) ?_); case hw => rfl)
    | ((with_reducible apply Frame.step (Dev.freeNext_frame ..)); case hw => rfl)
    | ((with_reducible apply Frame.step (Dev.ptpSend_frame ..)); case hw => rfl)

theorem execPtpPdelayResp_frame (dt : Nat) (p : Fin 4) (msg : List Byte) (s : State) :
    ∃ dev₁, execPtpPdelayResp dt p msg s = .next { s with dev := dev₁ } ∧ Frame 0xa00000000000000000000000000000000000000000000000000000000000000000000000000000000000000000000000000000000000000000000000000000000000000000000000000000001020000003 s.dev dev₁ := by
  unfold execPtpPdelayResp
  refine State.act_frame rfl (fun d h => ?_)
  repeat' first
    | (with_reducible assumption)
    | (extract_lets +onlyGivenNames x; first | (clear_value x; revert x; intro _) | (subst x))
    | ((with_reducible refine Frame.ptpTake ?hw (fun _ _ => ?_) ?_); case hw => decide +kernel)
    | ((with_reducible apply Frame.step (Dev.put_frame ..)); case hw => decide +kernel)
    | ((with_reducible apply Frame.step (Dev.modPtp_frame ..)); case hw => decide +kernel)
    | split

theorem execPtpAnnounceTimeout_frame (dt : Nat) (s : State) :
    ∃ dev₁, execPtpAnnounceTimeout dt s = .next { s with dev := dev₁ } ∧ Frame 0x608000000000000000000000403500000000000000000000000000000000000000000000000000000000000000000000000000000000000000000000000000000000030c20140000000000020000000000000000000000001006009003 s.dev dev₁ := by
  unfold execPtpAnnounceTimeout
  refine State.act_frame rfl (fun d h => ?_)
  repeat' first
    | (with_reducible assumption)
    | (extract_lets +onlyGivenNames x; first | (refine Frame.cut x ?_ (fun _ => ?_); rotate_left; clear_value x; revert x; intro _ _; rotate_left; subst x) | (clear_value x; revert x; intro _) | (subst x))
    | ((with_reducible refine Frame.when (fun _ _ => ?_) ?_))
    | ((with_reducible apply Frame.step (Dev.modPtp_frame ..)); case hw => decide +kernel)
    | ((with_reducible apply Frame.step (Dev.raise_frame ..)); case hw => decide +kernel)
    | ((with_reducible apply Frame.step (Dev.setTimeState_frame ..)); case hw => decide +kernel)
    | ((with_reducible apply Frame.step (Dev.modTime_frame ..)); case hw => decide +kernel)
    | ((with_reducible apply Frame.step (Dev.record_frame ..)); case hw => decide +kernel)
    | ((with_reducible apply Frame.step (Dev.showPorts_frame ..)); case hw => decide +kernel)
    | ((with_reducible apply Frame.step (Dev.selectMaster_frame ..)); case hw => decide +kernel)
    | split

/-! ### CamCmds.lean -/

theorem execCamCapture_frame (dt : Nat) (job : Nat) (s : State) :
    ∃ dev₁, execCamCapture dt job s = .next { s with dev := dev₁ } ∧ Frame 0x20000000000000000000000000000000000000000000000000002000000000000000000000000000000000000000000000000000000000000000000000000000000000000000000000000000000000000000000008a0000000000000000000000002000020503 s.dev dev₁ := by
  unfold execCamCapture
  refine State.act_frame (by decide +kernel) (fun d h => ?_)
  refine Frame.withJob (by decide +kernel) (fun d j h => ?_) h
  cases hc : d.captureCode j with
  | some c => exact Frame.step (Dev.complete_frame ..) (by decide +kernel) h
  | none =>
    refine Frame.ite h ?_
    exact Frame.step (Dev.raise_frame ..) (by decide +kernel) (Frame.step (Dev.modCam_frame ..) (by decide +kernel)
      (Frame.step (Dev.begin'_frame ..) (by decide +kernel) h))

theorem execCamTrigger_frame (dt : Nat) (x : Fin 16) (s : State) :
    ∃ dev₁, execCamTrigger dt x s = .next { s with dev := dev₁ } ∧ Frame 0x2000000000000000000000000000000000000000000000000000200000000000000000000000000000000000000000000000000000000000000000000000000000000000000000000000000030c001400000000008a0000000000000000000000002406021503 s.dev dev₁ := by
  unfold execCamTrigger
  refine State.act_frame rfl (fun d h => ?_)
  repeat' first
    | (with_reducible assumption)
    | (extract_lets +onlyGivenNames x; first | (refine Frame.cut x ?_ (fun _ => ?_); rotate_left; clear_value x; revert x; intro _ _; rotate_left; subst x) | (subst x))
    | ((with_reducible apply Frame.step (Dev.stopCapture_frame ..)); case hw => rfl)
    | ((with_reducible apply Frame.step (Dev.modCapture_frame ..)); case hw => rfl)
    | ((with_reducible apply Frame.step (Dev.firePulse_frame ..)); case hw => rfl)
    | split

theorem execCamStop_frame (dt : Nat) (job : Nat) (s : State) :
    ∃ dev₁, execCamStop dt job s = .next { s with dev := dev₁ } ∧ Frame 0x20000000000000000000000000000000000000000000000000002000000000000000000000000000000000000000000000000000000000000000000000000000000000000000000000000000000000000000000008a0000000000000000000000002000020503 s.dev dev₁ := by
  unfold execCamStop
  refine State.act_frame rfl (fun d h => ?_)
  repeat' first
    | (with_reducible assumption)
    | (extract_lets +onlyGivenNames x; first | (clear_value x; revert x; intro _) | (subst x))
    | ((with_reducible refine Frame.withJob ?hw (fun _ _ _ => ?_) ?_); case hw => rfl)
    | ((with_reducible apply Frame.step (Dev.complete_frame ..)); case hw => rfl)
    | ((with_reducible apply Frame.step (Dev.stopCapture_frame ..)); case hw => rfl)
    | ((with_reducible apply Frame.step (Dev.modCapture_frame ..)); case hw => rfl)

theorem execCamTable_frame (dt : Nat) (job : Nat) (s : State) :
    ∃ dev₁, execCamTable dt job s = .next { s with dev := dev₁ } ∧ Frame 0x2000000103 s.dev dev₁ := by
  unfold execCamTable
  refine State.act_frame rfl (fun d h => ?_)
  repeat' first
    | (with_reducible assumption)
    | ((with_reducible refine Frame.withJob ?hw (fun _ _ _ => ?_) ?_); case hw => rfl)
    | ((with_reducible apply Frame.step (Dev.modCam_frame ..)); case hw => rfl)
    | ((with_reducible apply Frame.step (Dev.begin'_frame ..)); case hw => rfl)

theorem execCsiFrameStart_frame (dt : Nat) (p : Fin 8) (vc : Fin 4) (s : State) :
    ∃ dev₁, execCsiFrameStart dt p vc s = .next { s with dev := dev₁ } ∧ Frame 0x200000000000000000060800000000000000000000000000001de0000007d000000000000000000000000000000000000000000000000000000000000000000000000000000000000000000030c201400003680008a000000400000000000000000e006429537 s.dev dev₁ := by
  unfold execCsiFrameStart
  refine State.act_frame rfl (fun d h => ?_)
  repeat' first
    | (with_reducible assumption)
    | (extract_lets +onlyGivenNames x; first | (refine Frame.cut x ?_ (fun _ => ?_); rotate_left; clear_value x; revert x; intro _ _; rotate_left; subst x) | (subst x))
    | ((with_reducible refine Frame.when (fun _ _ => ?_) ?_))
    | ((with_reducible apply Frame.step (Dev.closeAt_frame ..)); case hw => decide +kernel)
    | ((with_reducible apply Frame.step (Dev.openFrame_frame ..)); case hw => decide +kernel)
    | ((with_reducible apply Frame.step (Dev.bump_frame ..)); case hw => decide +kernel)
    | split

theorem execCsiLine_frame (dt : Nat) (p : Fin 8) (header : Word) (data : List Byte) (crc : BitVec 16) (s : State) :
    ∃ dev₁, execCsiLine dt p header data crc s = .next { s with dev := dev₁ } ∧ Frame 0x2e00000000000000000000000000000000000000000000000000000000000000000000000000000000000000000000000000000000000000000000000000000000000004000000023 s.dev dev₁ := by
  unfold execCsiLine
  refine State.act_frame rfl (fun d h => ?_)
  repeat' first
    | (with_reducible assumption)
    | (extract_lets +onlyGivenNames x; first | (refine Frame.cut x ?_ (fun _ => ?_); rotate_left; clear_value x; revert x; intro _ _; rotate_left; subst x) | (clear_value x; revert x; intro _) | (subst x))
    | ((with_reducible refine Frame.when (fun _ _ => ?_) ?_))
    | ((with_reducible apply Frame.step (Dev.bump_frame ..)); case hw => decide +kernel)
    | ((with_reducible apply Frame.step (Dev.takeLine_frame ..)); case hw => decide +kernel)
    | split

theorem execCsiFrameEnd_frame (dt : Nat) (p : Fin 8) (vc : Fin 4) (s : State) :
    ∃ dev₁, execCsiFrameEnd dt p vc s = .next { s with dev := dev₁ } ∧ Frame 0x200000000000000000060800000000000000000000000000001de00000078000000000000000000000000000000000000000000000000000000000000000000000000000000000000000000030c201400003680008a000000400000000000000000e006429537 s.dev dev₁ := by
  unfold execCsiFrameEnd
  refine State.act_frame rfl (fun d h => ?_)
  repeat' first
    | (with_reducible assumption)
    | ((with_reducible refine Frame.when (fun _ _ => ?_) ?_))
    | ((with_reducible apply Frame.step (Dev.closeAt_frame ..)); case hw => rfl)

theorem execCamFrameTimeout_frame (dt : Nat) (x : Fin 16) (s : State) :
    ∃ dev₁, execCamFrameTimeout dt x s = .next { s with dev := dev₁ } ∧ Frame 0x200000000000000000060800000000000000000000000000001de00000078000000000000000000000000000000000000000000000000000000000000000000000000000000000000000000030c201400003680008a000000400000000000000000e006429537 s.dev dev₁ := by
  unfold execCamFrameTimeout
  refine State.act_frame rfl (fun d h => ?_)
  repeat' first
    | (with_reducible assumption)
    | ((with_reducible apply Frame.step (Dev.frameTimeout_frame ..)); case hw => rfl)
    | split

theorem execCamPortReset_frame (dt : Nat) (p : Fin 8) (s : State) :
    ∃ dev₁, execCamPortReset dt p s = .next { s with dev := dev₁ } ∧ Frame 0x10c0200000000000000000060800000000000000000000000000001de00000078000000000000000000000000000000000000000000000000000000000000000000000000000000000000000000030c201400003680008a000000400000000000000000e006429537 s.dev dev₁ := by
  unfold execCamPortReset
  refine State.act_frame rfl (fun d h => ?_)
  repeat' first
    | (with_reducible assumption)
    | (extract_lets +onlyGivenNames x; first | (refine Frame.cut x ?_ (fun _ => ?_); rotate_left; clear_value x; revert x; intro _ _; rotate_left; subst x) | (clear_value x; revert x; intro _) | (subst x))
    | ((with_reducible refine Frame.foldl ?_ (fun _ _ _ => ?_)))
    | ((with_reducible refine Frame.when (fun _ _ => ?_) ?_))
    | ((with_reducible apply Frame.step (Dev.setCamPort_frame ..)); case hw => decide +kernel)
    | ((with_reducible apply Frame.step (Dev.closeFrame_frame ..)); case hw => decide +kernel)
    | ((with_reducible apply Frame.step (Dev.bump_frame ..)); case hw => decide +kernel)
    | ((with_reducible apply Frame.step (Dev.put_frame ..)); case hw => decide +kernel)
    | ((with_reducible apply Frame.step (Dev.occur_frame ..)); case hw => decide +kernel)
    | ((with_reducible apply Frame.step (Dev.record_frame ..)); case hw => decide +kernel)

theorem execCamReproc_frame (dt : Nat) (job : Nat) (s : State) :
    ∃ dev₁, execCamReproc dt job s = .next { s with dev := dev₁ } ∧ Frame 0x20000000000000000000000000000000000000000000000000000000000400000000000000000000000000000000000000000000000000000000000000000000000000000000000000000000000000000000000008a0000000000000000000000008000020503 s.dev dev₁ := by
  unfold execCamReproc
  refine State.act_frame rfl (fun d h => ?_)
  repeat' first
    | (with_reducible assumption)
    | ((with_reducible refine Frame.withJob ?hw (fun _ _ _ => ?_) ?_); case hw => rfl)
    | ((with_reducible apply Frame.step (Dev.complete_frame ..)); case hw => rfl)
    | ((with_reducible apply Frame.step (Dev.queueReproc_frame ..)); case hw => rfl)
    | ((with_reducible apply Frame.step (Dev.begin'_frame ..)); case hw => rfl)
    | split

theorem execPipelineEntryStart_frame (dt : Nat) (s : State) :
    ∃ dev₁, execPipelineEntryStart dt s = .next { s with dev := dev₁ } ∧ Frame 0x40000000000000000000000000000000000000000000000000000000000000000000000000000000000000000000000000000000000000000000000000000000000000008000000003 s.dev dev₁ := by
  unfold execPipelineEntryStart
  refine State.act_frame rfl (fun d h => ?_)
  repeat' first
    | (with_reducible assumption)
    | ((with_reducible refine Frame.when (fun _ _ => ?_) ?_))
    | ((with_reducible apply Frame.step (Dev.showQueue_frame ..)); case hw => rfl)
    | ((with_reducible apply Frame.step (Dev.modPipe_frame ..)); case hw => rfl)
    | split

theorem execPipelineFrameDone_frame (dt : Nat) (x : Fin 16) (s : State) :
    ∃ dev₁, execPipelineFrameDone dt x s = .next { s with dev := dev₁ } ∧ Frame 0x200000000000000000060800000000000000000000000000001de00000000000000000000000000000000000000000000000000000000000000000000000000000000000000000000000000030c201400003680008a000000400000000000000000a006429533 s.dev dev₁ := by
  unfold execPipelineFrameDone
  refine State.act_frame rfl (fun d h => ?_)
  repeat' first
    | (with_reducible assumption)
    | (extract_lets +onlyGivenNames x; first | (refine Frame.cut x ?_ (fun _ => ?_); rotate_left; clear_value x; revert x; intro _ _; rotate_left; subst x) | (subst x))
    | ((with_reducible refine Frame.when (fun _ _ => ?_) ?_))
    | ((with_reducible apply Frame.step (Dev.modPipe_frame ..)); case hw => rfl)
    | ((with_reducible apply Frame.step (Dev.resultDone_frame ..)); case hw => rfl)
    | ((with_reducible apply Frame.step (Dev.processFrame_frame ..)); case hw => rfl)
    | ((with_reducible apply Frame.step (Dev.reprocess_frame ..)); case hw => rfl)
    | split

theorem execCamInlineWrite_frame (dt : Nat) (value : Word) (s : State) :
    ∃ dev₁, execCamInlineWrite dt value s = .next { s with dev := dev₁ } ∧ Frame 0x38000000000000000000000000000000000000000000000000000000000000000000000000000000000000000000000000000000080000000000000000000000000000008000000007 s.dev dev₁ := by
  unfold execCamInlineWrite
  refine State.act_frame rfl (fun d h => ?_)
  repeat' first
    | (with_reducible assumption)
    | ((with_reducible refine Frame.byFn ?hw (fun _ _ => ?_) ?_); case hw => rfl)
    | ((with_reducible apply Frame.step (Dev.writeInline_frame ..)); case hw => rfl)

/-! ### Islands.lean -/

theorem execSysIslCfgWrite_frame (dt : Nat) (n : Fin 49) (value : Word) (s : State) :
    ∃ dev₁, execSysIslCfgWrite dt n value s = .next { s with dev := dev₁ } ∧ Frame 0x80000000000000142800000000000000000010003 s.dev dev₁ := by
  unfold execSysIslCfgWrite
  refine State.act_frame rfl (fun d h => ?_)
  repeat' first
    | (with_reducible assumption)
    | ((with_reducible refine Frame.byFn ?hw (fun _ _ => ?_) ?_); case hw => rfl)
    | ((with_reducible apply Frame.step (Dev.requestClock_frame ..)); case hw => rfl)

theorem execIslandRelockDone_frame (dt : Nat) (n : Fin 49) (s : State) :
    ∃ dev₁, execIslandRelockDone dt n s = .next { s with dev := dev₁ } ∧ Frame 0x5002000000000000000800000000000000000000000000000000000000000000000000000000000000000000000000000000000000000000002000000000000000000000000000000000000100030c001410000000008a0000001107000000000000000006031d03 s.dev dev₁ := by
  unfold execIslandRelockDone
  refine State.act_frame rfl (fun d h => ?_)
  repeat' first
    | (with_reducible assumption)
    | (extract_lets +onlyGivenNames x; first | (refine Frame.cut x ?_ (fun _ => ?_); rotate_left; clear_value x; revert x; intro _ _; rotate_left; subst x) | (clear_value x; revert x; intro _) | (subst x))
    | ((with_reducible refine Frame.when (fun _ _ => ?_) ?_))
    | ((with_reducible apply Frame.step (Dev.put_frame ..)); case hw => decide +kernel)
    | ((with_reducible apply Frame.step (Dev.lower_frame ..)); case hw => decide +kernel)
    | ((with_reducible apply Frame.step (Dev.setIsland_frame ..)); case hw => decide +kernel)
    | ((with_reducible apply Frame.step (Dev.windowEnd_frame ..)); case hw => decide +kernel)
    | ((with_reducible apply Frame.step (Dev.startRelock_frame ..)); case hw => decide +kernel)
    | split

theorem execDowelPulse_frame (dt : Nat) (offs : List (Fin 49 × Int)) (s : State) :
    ∃ dev₁, execDowelPulse dt offs s = .next { s with dev := dev₁ } ∧ Frame 0x19c0200c0003800000008006088000100804000000000f000800001de0000004001080000000807800000000000000000200400000000000000f8000040023c400000c4000000001508000c0300030c201410003680008a000000471e00000000000002ffaf639d3b s.dev dev₁ := by
  unfold execDowelPulse
  refine State.act_frame rfl (fun d h => ?_)
  repeat' first
    | (with_reducible assumption)
    | (extract_lets +onlyGivenNames x; first | (refine Frame.cut x ?_ (fun _ => ?_); rotate_left; clear_value x; revert x; intro _ _; rotate_left; subst x) | (subst x))
    | ((with_reducible refine Frame.foldl ?_ (fun _ _ _ => ?_)))
    | ((with_reducible refine Frame.when (fun _ _ => ?_) ?_))
    | ((with_reducible apply Frame.step (Dev.noticeFreeze_frame ..)); case hw => rfl)
    | ((with_reducible apply Frame.step (Dev.takeDowel_frame ..)); case hw => rfl)
    | ((with_reducible apply Frame.step (Dev.trimDowel_frame ..)); case hw => rfl)
    | ((with_reducible apply Frame.step (Dev.timeDowel_frame ..)); case hw => rfl)
    | split

theorem execHoldoverEntry_frame (dt : Nat) (n : Fin 49) (s : State) :
    ∃ dev₁, execHoldoverEntry dt n s = .next { s with dev := dev₁ } ∧ Frame 0x8000000000000000000000003 s.dev dev₁ := by
  unfold execHoldoverEntry
  refine State.act_frame rfl (fun d h => ?_)
  repeat' first
    | (with_reducible assumption)
    | ((with_reducible refine Frame.when (fun _ _ => ?_) ?_))
    | ((with_reducible apply Frame.step (Dev.raise_frame ..)); case hw => decide +kernel)

theorem execSysIslTofsRead_frame (dt : Nat) (n : Fin 49) (s : State) :
    ∃ dev₁, execSysIslTofsRead dt n s = .next { s with dev := dev₁ } ∧ Frame 0x400000000000000000000800003 s.dev dev₁ := by
  unfold execSysIslTofsRead
  refine State.act_frame rfl (fun d h => ?_)
  repeat' first
    | (with_reducible assumption)
    | (extract_lets +onlyGivenNames x; first | (refine Frame.cut x ?_ (fun _ => ?_); rotate_left; clear_value x; revert x; intro _ _; rotate_left; subst x) | (clear_value x; revert x; intro _))
    | ((with_reducible apply Frame.step (Dev.put_frame ..)); case hw => decide +kernel)
    | split
    | ((with_reducible refine Frame.mgmt_of ?hw ?_); case hw => rfl)

theorem execBridgeErr_frame (dt : Nat) (recv : Fin 49) (send : Fin 49) (s : State) :
    ∃ dev₁, execBridgeErr dt recv send s = .next { s with dev := dev₁ } ∧ Frame 0x19c0200000038000000080060880001008040000000000000000001de0000004001080000000807800000000000000000000400000000000000f8000040023c400000c4000000001108000c0300030c201410003680008a000000418600000000000002e3af639d33 s.dev dev₁ := by
  unfold execBridgeErr
  refine State.act_frame rfl (fun d h => ?_)
  repeat' first
    | (with_reducible assumption)
    | ((with_reducible apply Frame.step (Dev.unitFault_frame ..)); case hw => decide +kernel)
    | ((with_reducible apply Frame.step (Dev.raise_frame ..)); case hw => decide +kernel)

/-! ### Stops.lean -/

theorem execSafeStopAssert_frame (dt : Nat) (s : State) :
    ∃ dev₁, execSafeStopAssert dt s = .next { s with dev := dev₁ } ∧ Frame 0x20000000000000000006080000000004000000000000000000000000000000000000000000200000000000000000000040000000000000000000000023c400000c40000000015c800080100030c201400000000008a00000000000000000000000001af029503 s.dev dev₁ := by
  unfold execSafeStopAssert
  refine State.act_frame rfl (fun d h => ?_)
  repeat' first
    | (with_reducible assumption)
    | (extract_lets +onlyGivenNames x; first | (refine Frame.cut x ?_ (fun _ => ?_); rotate_left; clear_value x; revert x; intro _ _; rotate_left; subst x) | (clear_value x; revert x; intro _) | (subst x))
    | ((with_reducible refine Frame.foldl ?_ (fun _ _ _ => ?_)))
    | ((with_reducible refine Frame.when (fun _ _ => ?_) ?_))
    | ((with_reducible apply Frame.step (Dev.tickStop_frame ..)); case hw => decide +kernel)
    | ((with_reducible apply Frame.step (Dev.stopEngines_frame ..)); case hw => decide +kernel)
    | ((with_reducible apply Frame.step (Dev.absentEngines_frame ..)); case hw => decide +kernel)
    | ((with_reducible apply Frame.step (Dev.occur_frame ..)); case hw => decide +kernel)
    | ((with_reducible apply Frame.step (Dev.raise_frame ..)); case hw => decide +kernel)
    | ((with_reducible apply Frame.step (Dev.record_frame ..)); case hw => decide +kernel)
    | ((with_reducible apply Frame.step (Dev.emergencyStop_frame ..)); case hw => decide +kernel)
    | ((with_reducible apply Frame.step (Dev.stopTiles_frame ..)); case hw => decide +kernel)
    | split
    | ((with_reducible refine Frame.pins_of ?hw ?_); case hw => rfl)

theorem execSafeStopEnd_frame (dt : Nat) (s : State) :
    ∃ dev₁, execSafeStopEnd dt s = .next { s with dev := dev₁ } ∧ Frame 0x4000000000000000000000000000000000000000000000000000000001000003 s.dev dev₁ := by
  unfold execSafeStopEnd
  refine State.act_frame rfl (fun d h => ?_)
  repeat' first
    | (with_reducible assumption)
    | (extract_lets +onlyGivenNames x; first | (clear_value x; revert x; intro _) | (subst x))
    | ((with_reducible refine Frame.foldl ?_ (fun _ _ _ => ?_)))
    | ((with_reducible apply Frame.step (Dev.lower_frame ..)); case hw => decide +kernel)
    | split
    | ((with_reducible refine Frame.pins_of ?hw ?_); case hw => rfl)

theorem execGasOkLow_frame (dt : Nat) (s : State) :
    ∃ dev₁, execGasOkLow dt s = .next { s with dev := dev₁ } ∧ Frame 0x23c4400000000000000010000000100000000000000000000000000000000000000000000000001000003 s.dev dev₁ := by
  unfold execGasOkLow
  refine State.act_frame rfl (fun d h => ?_)
  repeat' first
    | (with_reducible assumption)
    | (extract_lets +onlyGivenNames x; first | (refine Frame.cut x ?_ (fun _ => ?_); rotate_left; clear_value x; revert x; intro _ _; rotate_left; subst x) | (subst x))
    | ((with_reducible refine Frame.foldl ?_ (fun _ _ _ => ?_)))
    | ((with_reducible apply Frame.step (Dev.setGas_frame ..)); case hw => rfl)
    | ((with_reducible apply Frame.step (Dev.showState_frame ..)); case hw => rfl)
    | ((with_reducible apply Frame.step (Dev.showKerf_frame ..)); case hw => rfl)

theorem execGasOkHigh_frame (dt : Nat) (s : State) :
    ∃ dev₁, execGasOkHigh dt s = .next { s with dev := dev₁ } ∧ Frame 0x400000000000000000000000000000000000000000000000000000000000000000000000001000003 s.dev dev₁ := by
  unfold execGasOkHigh
  refine State.act_frame rfl (fun d h => ?_)
  repeat' first
    | (with_reducible assumption)
    | ((with_reducible apply Frame.step (Dev.setGas_frame ..)); case hw => rfl)

theorem execFreezeGateTimeout_frame (dt : Nat) (fn : Fin 8) (s : State) :
    ∃ dev₁, execFreezeGateTimeout dt fn s = .next { s with dev := dev₁ } ∧ Frame 0x6080000000004000000000300000000002000000400008000000000200000000000000000020040000000000000000000000023c400000c400000000150800080100030c2014000000000002000000000000000000000000efae029403 s.dev dev₁ := by
  unfold execFreezeGateTimeout
  refine State.act_frame rfl (fun d h => ?_)
  repeat' first
    | (with_reducible assumption)
    | (extract_lets +onlyGivenNames x; first | (refine Frame.cut x ?_ (fun _ => ?_); rotate_left; clear_value x; revert x; intro _ _; rotate_left; subst x) | (clear_value x; revert x; intro _) | (subst x))
    | ((with_reducible refine Frame.foldl ?_ (fun _ _ _ => ?_)))
    | ((with_reducible refine Frame.when (fun _ _ => ?_) ?_))
    | ((with_reducible apply Frame.step (Dev.absentEngines_frame ..)); case hw => rfl)
    | ((with_reducible apply Frame.step (Dev.noticeFreeze_frame ..)); case hw => rfl)
    | ((with_reducible apply Frame.step (Dev.setFn_frame ..)); case hw => rfl)
    | ((with_reducible apply Frame.step (Dev.stopEngine_frame ..)); case hw => rfl)

theorem execFreezeSafe_frame (dt : Nat) (fn : Fin 8) (s : State) :
    ∃ dev₁, execFreezeSafe dt fn s = .next { s with dev := dev₁ } ∧ Frame 0x20000000000000000006080000000004000000000300000000002000000400008000000000200000000000000000020040000000000000000000000023c400000c40000000015080008010003ffffffc000038000fffffe00000000000000000000efae02b507 s.dev dev₁ := by
  unfold execFreezeSafe
  refine State.act_frame rfl (fun d h => ?_)
  repeat' first
    | (with_reducible assumption)
    | (extract_lets +onlyGivenNames x; first | (refine Frame.cut x ?_ (fun _ => ?_); rotate_left; clear_value x; revert x; intro _ _; rotate_left; subst x) | (clear_value x; revert x; intro _) | (subst x))
    | ((with_reducible apply Frame.step (Dev.noticeFreeze_frame ..)); case hw => decide +kernel)
    | ((with_reducible refine Frame.when (fun _ _ => ?_) ?_))
    | ((with_reducible apply Frame.step (Dev.absentEngines_frame ..)); case hw => decide +kernel)
    | ((with_reducible apply Frame.step (Dev.endFrozen_frame ..)); case hw => decide +kernel)
    | ((with_reducible apply Frame.step (Dev.raise_frame ..)); case hw => decide +kernel)
    | ((with_reducible apply Frame.step (Dev.record_frame ..)); case hw => decide +kernel)
    | ((with_reducible apply Frame.step (Dev.finishFlr_frame ..)); case hw => decide +kernel)
    | ((with_reducible apply Frame.step (Dev.occur_frame ..)); case hw => decide +kernel)
    | split

theorem execUnfreezeFunction_frame (dt : Nat) (fn : Fin 8) (s : State) :
    ∃ dev₁, execUnfreezeFunction dt fn s = .next { s with dev := dev₁ } ∧ Frame 0x1c06080801cb8000020440000000000000000000000000002403 s.dev dev₁ := by
  unfold execUnfreezeFunction
  refine State.act_frame rfl (fun d h => ?_)
  repeat' first
    | (with_reducible assumption)
    | ((with_reducible refine Frame.byFn ?hw (fun _ _ => ?_) ?_); case hw => rfl)
    | ((with_reducible apply Frame.step (Dev.releaseFn_frame ..)); case hw => rfl)

theorem execUnfreezePeer_frame (dt : Nat) (dev : Fin 1024) (s : State) :
    ∃ dev₁, execUnfreezePeer dt dev s = .next { s with dev := dev₁ } ∧ Frame 0x80080000000000000000000000000000000000000003 s.dev dev₁ := by
  unfold execUnfreezePeer
  refine State.act_frame rfl (fun d h => ?_)
  repeat' first
    | (with_reducible assumption)
    | ((with_reducible refine Frame.byFn ?hw (fun _ _ => ?_) ?_); case hw => decide +kernel)
    | ((with_reducible apply Frame.step (Dev.put_frame ..)); case hw => decide +kernel)

/-! ### Thermal.lean -/

theorem execThermalSample_frame (dt : Nat) (raw : List Int) (s : State) :
    ∃ dev₁, execThermalSample dt raw s = .next { s with dev := dev₁ } ∧ Frame 0x20030004075e00000006080002301800000000000000000000000000000000108000000080780000000000000000000040000000000000000000000023c4000004000000000150800080100030c201400000000008a00000000200000000000000203af3a9503 s.dev dev₁ := by
  unfold execThermalSample
  have hcov : Fld.covers (fun f => f == .CAL_SENSOR_OFFSET || f == .CAL_SENSOR_GAIN) 0x20030004075e00000006080002301800000000000000000000000000000000108000000080780000000000000000000040000000000000000000000023c4000004000000000150800080100030c201400000000008a00000000200000000000000203af3a9503 = true := by decide +kernel
  refine State.act_frame (by decide +kernel) (fun d h => ?_)
  extract_lets d1 raws all d2 d3 d4
  have h1 : Frame 0x20030004075e00000006080002301800000000000000000000000000000000108000000080780000000000000000000040000000000000000000000023c4000004000000000150800080100030c201400000000008a00000000200000000000000203af3a9503 s.dev d1 := Frame.bringFlds _ (fun _ hc => hc) hcov rfl h
  have h2 : Frame 0x20030004075e00000006080002301800000000000000000000000000000000108000000080780000000000000000000040000000000000000000000023c4000004000000000150800080100030c201400000000008a00000000200000000000000203af3a9503 s.dev d2 := Frame.foldl h1 (fun _ _ h => Frame.step (Dev.takeSample_frame ..) (by decide +kernel) h)
  have h3 : Frame 0x20030004075e00000006080002301800000000000000000000000000000000108000000080780000000000000000000040000000000000000000000023c4000004000000000150800080100030c201400000000008a00000000200000000000000203af3a9503 s.dev d3 := Frame.step (Dev.compareAll_frame ..) (by decide +kernel)
    (Frame.step (Dev.showThermal_frame ..) (by decide +kernel) h2)
  have h4 : Frame 0x20030004075e00000006080002301800000000000000000000000000000000108000000080780000000000000000000040000000000000000000000023c4000004000000000150800080100030c201400000000008a00000000200000000000000203af3a9503 s.dev d4 := Frame.foldl h3 (fun _ _ h => Frame.step (Dev.compensate_frame ..) (by decide +kernel) h)
  exact Frame.step (Dev.thermalState_frame ..) (by decide +kernel) h4

theorem execThermalGraceExpire_frame (dt : Nat) (s : State) :
    ∃ dev₁, execThermalGraceExpire dt s = .next { s with dev := dev₁ } ∧ Frame 0x820000000608000000000000000000000000000000000000000000000000000000000000000000000000000000000000000000000000000000000000000000000000000000000030c20140000000000020000000000000000000000000006009003 s.dev dev₁ := by
  unfold execThermalGraceExpire
  refine State.act_frame rfl (fun d h => ?_)
  repeat' first
    | (with_reducible assumption)
    | ((with_reducible refine Frame.when (fun _ _ => ?_) ?_))
    | ((with_reducible apply Frame.step (Dev.record_frame ..)); case hw => decide +kernel)
    | ((with_reducible apply Frame.step (Dev.bump_frame ..)); case hw => decide +kernel)
    | ((with_reducible apply Frame.step (Dev.put_frame ..)); case hw => decide +kernel)

theorem execThmRelease_frame (dt : Nat) (job : Nat) (s : State) :
    ∃ dev₁, execThmRelease dt job s = .next { s with dev := dev₁ } ∧ Frame 0x2000000000020000000608000000000000000000000000000000000000000000000000000000000000000000000000000000000000000000000000000000000000000000000000000000000030c201400000000008a0000000000000000000000000006029503 s.dev dev₁ := by
  unfold execThmRelease
  refine State.act_frame rfl (fun d h => ?_)
  repeat' first
    | (with_reducible assumption)
    | ((with_reducible refine Frame.withJob ?hw (fun _ _ _ => ?_) ?_); case hw => decide +kernel)
    | ((with_reducible apply Frame.step (Dev.complete_frame ..)); case hw => decide +kernel)
    | ((with_reducible apply Frame.step (Dev.record_frame ..)); case hw => decide +kernel)
    | ((with_reducible apply Frame.step (Dev.put_frame ..)); case hw => decide +kernel)
    | split

theorem execGovernorStep_frame (dt : Nat) (s : State) :
    ∃ dev₁, execGovernorStep dt s = .next { s with dev := dev₁ } ∧ Frame 0x10000000000608000000000000000000000000000000000000020000000000002000000000000000800000000000000000000000000000000000000000000000000000000000000030c20140000000000020000000000000000000000000006109003 s.dev dev₁ := by
  unfold execGovernorStep
  refine State.act_frame rfl (fun d h => ?_)
  repeat' first
    | (with_reducible assumption)
    | ((with_reducible refine Frame.foldl ?_ (fun _ _ _ => ?_)))
    | ((with_reducible apply Frame.step (Dev.governor_frame ..)); case hw => rfl)

/-! ### Dram.lean -/

theorem execDramRequest_frame (dt : Nat) (c : Fin 2) (write : Bool) (cls : Fin 5) (burst : Nat) (data : List Byte) (s : State) :
    ∃ dev₁, execDramRequest dt c write cls burst data s = .next { s with dev := dev₁ } ∧ Frame 0x40003 s.dev dev₁ := by
  unfold execDramRequest
  refine State.act_frame rfl (fun d h => ?_)
  repeat' first
    | (with_reducible assumption)
    | ((with_reducible apply Frame.step (Dev.dramEnter_frame ..)); case hw => rfl)

theorem execDramRequestServed_frame (dt : Nat) (c : Fin 2) (ecc : Fin 3) (s : State) :
    ∃ dev₁, execDramRequestServed dt c ecc s = .next { s with dev := dev₁ } ∧ Frame 0xe0000608000000000000000000000000000000000000000000000000000000000000000000000000000000000000000000000000000000000000000000000000000000000030c20140000000000020000000000000000000000000006049023 s.dev dev₁ := by
  unfold execDramRequestServed
  refine State.act_frame rfl (fun d h => ?_)
  repeat' first
    | (with_reducible assumption)
    | ((with_reducible refine Frame.when (fun _ _ => ?_) ?_))
    | ((with_reducible apply Frame.step (Dev.dramServe_frame ..)); case hw => rfl)

theorem execRefreshRateRead_frame (dt : Nat) (c : Fin 2) (sub : Fin 2) (code : Nat) (outOfRange : Bool) (drift : Nat) (s : State) :
    ∃ dev₁, execRefreshRateRead dt c sub code outOfRange drift s = .next { s with dev := dev₁ } ∧ Frame 0xa000608000000000000000000000000000000000000000000000000000000000000000000000000000000000000000000000000000000000000000000000000000000000030c20140000000000020000000000000000000000000006049003 s.dev dev₁ := by
  unfold execRefreshRateRead
  refine State.act_frame rfl (fun d h => ?_)
  repeat' first
    | (with_reducible assumption)
    | (extract_lets +onlyGivenNames x; first | (refine Frame.cut x ?_ (fun _ => ?_); rotate_left; clear_value x; revert x; intro _ _; rotate_left; subst x) | (subst x))
    | ((with_reducible apply Frame.step (Dev.modChan_frame ..)); case hw => decide +kernel)
    | ((with_reducible apply Frame.step (Dev.raise_frame ..)); case hw => decide +kernel)
    | ((with_reducible apply Frame.step (Dev.record_frame ..)); case hw => decide +kernel)
    | split

theorem execDramRefresh_frame (dt : Nat) (c : Fin 2) (sub : Fin 2) (bank : Fin 32) (s : State) :
    ∃ dev₁, execDramRefresh dt c sub bank s = .next { s with dev := dev₁ } ∧ Frame 0x10000000000000000000000000000000000000000000000000000000000000000000000000000000000000000000000000000000000000000000000000000000000000000000000000000000000000000000000000000000000000000040003 s.dev dev₁ := by
  unfold execDramRefresh
  refine State.act_frame rfl (fun d h => ?_)
  repeat' first
    | (with_reducible assumption)
    | (extract_lets +onlyGivenNames x; clear_value x; revert x; intro _)
    | ((with_reducible apply Frame.step (Dev.refreshAll_frame ..)); case hw => rfl)
    | ((with_reducible apply Frame.step (Dev.modChan_frame ..)); case hw => rfl)
    | split

theorem execPatrolScrub_frame (dt : Nat) (c : Fin 2) (ecc : Fin 3) (s : State) :
    ∃ dev₁, execPatrolScrub dt c ecc s = .next { s with dev := dev₁ } ∧ Frame 0xe0000608000000000000000000000000000000000000000000000000000000000000000000000000000000000000000000000000000000000000000000000000000000000030c20140000000000020000000000000000000000000006049003 s.dev dev₁ := by
  unfold execPatrolScrub
  refine State.act_frame rfl (fun d h => ?_)
  repeat' first
    | (with_reducible assumption)
    | (extract_lets +onlyGivenNames x; first | (clear_value x; revert x; intro _) | (subst x))
    | ((with_reducible refine Frame.when (fun _ _ => ?_) ?_))
    | ((with_reducible apply Frame.step (Dev.eccFound_frame ..)); case hw => rfl)
    | ((with_reducible apply Frame.step (Dev.modChan_frame ..)); case hw => rfl)

theorem execDramRetrainDone_frame (dt : Nat) (c : Fin 2) (ok : Bool) (s : State) :
    ∃ dev₁, execDramRetrainDone dt c ok s = .next { s with dev := dev₁ } ∧ Frame 0x5002000000000000005800608000000000000000000000000000000000000000000000000000000000000000000000000000000000000000002000000000000000000000000000000000000100030c201410000000008a0000001106000000000000000006079d03 s.dev dev₁ := by
  unfold execDramRetrainDone
  refine State.act_frame rfl (fun d h => ?_)
  repeat' first
    | (with_reducible assumption)
    | ((with_reducible apply Frame.step (Dev.retrainDone_frame ..)); case hw => rfl)
    | ((with_reducible apply Frame.step (Dev.dramReturn_frame ..)); case hw => rfl)
    | split

theorem execDramCmdTimeout_frame (dt : Nat) (c : Fin 2) (s : State) :
    ∃ dev₁, execDramCmdTimeout dt c s = .next { s with dev := dev₁ } ∧ Frame 0x19c0200000038000000180060880001008040000000000000000001de0000004001080000000807800000000000000000000400000000000000f8000040023c400000c4000000001108000c0300030c201410003680008a000000410600000000000002e3af639d33 s.dev dev₁ := by
  unfold execDramCmdTimeout
  refine State.act_frame rfl (fun d h => ?_)
  repeat' first
    | (with_reducible assumption)
    | (extract_lets +onlyGivenNames x; first | (clear_value x; revert x; intro _) | (subst x))
    | ((with_reducible refine Frame.when (fun _ _ => ?_) ?_))
    | ((with_reducible apply Frame.step (Dev.raise_frame ..)); case hw => decide +kernel)
    | ((with_reducible apply Frame.step (Dev.unitFault_frame ..)); case hw => decide +kernel)

/-! ### Calib.lean -/

theorem execCalRun_frame (dt : Nat) (job : Nat) (s : State) :
    ∃ dev₁, execCalRun dt job s = .next { s with dev := dev₁ } ∧ Frame 0x100200000020000000080060800000000040000000000000000000000000000000000000000000000000000000000000000000000000000000200000000000000000c400000000000000040100030c201410000000008a000000010600000000000000002e239d03 s.dev dev₁ := by
  unfold execCalRun
  refine State.act_frame rfl (fun d h => ?_)
  repeat' first
    | (with_reducible assumption)
    | (extract_lets +onlyGivenNames x; first | (refine Frame.cut x ?_ (fun _ => ?_); rotate_left; clear_value x; revert x; intro _ _; rotate_left; subst x) | (clear_value x; revert x; intro _) | (subst x))
    | ((with_reducible refine Frame.withJob ?hw (fun _ _ _ => ?_) ?_); case hw => rfl)
    | ((with_reducible apply Frame.step (Dev.complete_frame ..)); case hw => rfl)
    | ((with_reducible apply Frame.step (Dev.begin'_frame ..)); case hw => rfl)
    | ((with_reducible apply Frame.step (Dev.pumpCal_frame ..)); case hw => rfl)
    | ((with_reducible apply Frame.step (Dev.askCover_frame ..)); case hw => rfl)
    | split
    | ((with_reducible refine Frame.cal_of ?hw ?_); case hw => rfl)

theorem execCalSave_frame (dt : Nat) (job : Nat) (s : State) :
    ∃ dev₁, execCalSave dt job s = .next { s with dev := dev₁ } ∧ Frame 0x20000000000000000000000000000000000000000000000000000000000000000000000000000000000000000000000000000000000000000000000000000000000000000000000000000000000000000003680008a0000004000000000000000000000420513 s.dev dev₁ := by
  unfold execCalSave
  refine State.act_frame rfl (fun d h => ?_)
  repeat' first
    | (with_reducible assumption)
    | ((with_reducible refine Frame.withJob ?hw (fun _ _ _ => ?_) ?_); case hw => rfl)
    | ((with_reducible apply Frame.step (Dev.saveTo_frame ..)); case hw => rfl)

theorem execCalLoad_frame (dt : Nat) (job : Nat) (s : State) :
    ∃ dev₁, execCalLoad dt job s = .next { s with dev := dev₁ } ∧ Frame 0x200fffe0400000000000000000000000000000000000000000000000000000000000000000000000000000000000000000000000000000000000000000000000000000000000000000000000000000000000000008a0000000000000000000000000000220503 s.dev dev₁ := by
  unfold execCalLoad
  have hcov : Fld.covers (fun f => fldsCAL.contains f && f.acc == .rw) 0x200fffe0400000000000000000000000000000000000000000000000000000000000000000000000000000000000000000000000000000000000000000000000000000000000000000000000000000000000000008a0000000000000000000000000000220503 = true := by decide +kernel
  have hm : ∀ bs, ∀ x ∈ calFields bs, Within x.1.bit 0x200fffe0400000000000000000000000000000000000000000000000000000000000000000000000000000000000000000000000000000000000000000000000000000000000000000000000000000000000000008a0000000000000000000000000000220503 := by
    intro bs x hx
    obtain ⟨f, hf, hx⟩ := List.mem_flatMap.mp hx
    split at hx
    · simp at hx
    · rename_i hrw
      obtain ⟨i, _, hx⟩ := List.mem_flatMap.mp hx
      obtain ⟨j, _, rfl⟩ := List.mem_map.mp hx
      exact Fld.within hcov f (by simpa using ⟨hf, not_not.mp hrw⟩)
  refine State.act_frame (by decide +kernel) (fun d h => ?_)
  refine Frame.withJob (by decide +kernel) (fun d j h => ?_) h
  dsimp only
  split
  · exact Frame.step (Dev.complete_frame ..) (by decide +kernel) h
  · split
    · exact Frame.step (Dev.complete_frame ..) (by decide +kernel) h
    · refine Frame.step (Dev.complete_frame ..) (by decide +kernel) (Frame.foldl_mem h (fun _ x hx h => ?_))
      split
      · exact h.step' (Dev.put_frame ..) (hm _ x hx)
      · exact h.step' (Dev.newCal_frame ..) (Within.or (by decide +kernel) (hm _ x hx))

theorem execCoverCopyDone_frame (dt : Nat) (s' : Fin 2) (ok : Bool) (s : State) :
    ∃ dev₁, execCoverCopyDone dt s' ok s = .next { s with dev := dev₁ } ∧ Frame 0x200000000000000000000000000000000000000000000000000000000000000000000000000000000000000000000006f000000007fc003fec0000000001fffc000fc007800000fffc0000000000000000000000000000000000000000000008200007 s.dev dev₁ := by
  unfold execCoverCopyDone
  refine State.act_frame rfl (fun d h => ?_)
  repeat' first
    | (with_reducible assumption)
    | (extract_lets +onlyGivenNames x; first | (clear_value x; revert x; intro _) | (subst x))
    | ((with_reducible apply Frame.step (Dev.setCover_frame ..)); case hw => rfl)
    | ((with_reducible apply Frame.step (Dev.copyEngine_frame ..)); case hw => rfl)
    | ((with_reducible apply Frame.step (Dev.showCal_frame ..)); case hw => rfl)
    | ((with_reducible apply Frame.step (Dev.askCover_frame ..)); case hw => rfl)
    | split

theorem execCoverBegin_frame (dt : Nat) (s' : Fin 4) (s : State) :
    ∃ dev₁, execCoverBegin dt s' s = .next { s with dev := dev₁ } ∧ Frame 0x900000000018000000080060800000000040000000000000000000000000000000000000000000000000000000000000000000000000000000b8000040023c400000c4000000000100000c0300030c2014100000000002000000010600000000000000002e219c03 s.dev dev₁ := by
  unfold execCoverBegin
  refine State.act_frame rfl (fun d h => ?_)
  repeat' first
    | (with_reducible assumption)
    | (extract_lets +onlyGivenNames x; clear_value x; revert x; intro _)
    | ((with_reducible apply Frame.step (Dev.beginCover_frame ..)); case hw => rfl)
    | split

theorem execCoverEnd_frame (dt : Nat) (s' : Fin 4) (s : State) :
    ∃ dev₁, execCoverEnd dt s' s = .next { s with dev := dev₁ } ∧ Frame 0x900200000038000000080060800000000040000000000000000000000000000000000000000000000000000000000000000000000000000000b8000040023c400000c4000000000100000c0300030c201410000000008a000000010600000000000000002e239d03 s.dev dev₁ := by
  unfold execCoverEnd
  refine State.act_frame rfl (fun d h => ?_)
  repeat' first
    | (with_reducible assumption)
    | (extract_lets +onlyGivenNames x; clear_value x; revert x; intro _)
    | ((with_reducible apply Frame.step (Dev.coverDone_frame ..)); case hw => rfl)
    | split

theorem execCalibrationDone_frame (dt : Nat) (u : Fin 83) (ok : Bool) (measured : List Int) (s : State) :
    ∃ dev₁, execCalibrationDone dt u ok measured s = .next { s with dev := dev₁ } ∧ Frame 0x19c02000ffe38000000080060880001008040000000000000000001de0000004001080000000807800000000000000000000400000000000000f8000040023c400000c4000000003108000c030e030c201410003680008a000000410600000000000002e3bf639d33 s.dev dev₁ := by
  unfold execCalibrationDone
  refine State.act_frame rfl (fun d h => ?_)
  repeat' first
    | (with_reducible assumption)
    | (extract_lets +onlyGivenNames x; refine Frame.cut x ?_ (fun _ => ?_); rotate_left; clear_value x; revert x; intro _ _; rotate_left; subst x)
    | ((with_reducible apply Frame.step (Dev.pumpCal_frame ..)); case hw => rfl)
    | ((with_reducible apply Frame.step (Dev.calDone_frame ..)); case hw => rfl)
    | split

/-! ### LayerCmds.lean -/

theorem execBarrierReady_frame (dt : Nat) (dev : Fin 1024) (payload : List Gran) (s : State) :
    ∃ dev₁, execBarrierReady dt dev payload s = .next { s with dev := dev₁ } ∧ Frame 0x2000000000000000000608000000000000000000000000200000000000000000000000000000000000000000000000000000000008000000000000000002000004400000000000000000000030c201407800000008a000101100000000000000000102e029503 s.dev dev₁ := by
  unfold execBarrierReady
  refine State.act_frame rfl (fun d h => ?_)
  repeat' first
    | (with_reducible assumption)
    | (extract_lets +onlyGivenNames x; first | (clear_value x; revert x; intro _) | (subst x))
    | ((with_reducible refine Frame.granting ?hw (fun _ _ => ?_) ?_); case hw => rfl)
    | ((with_reducible apply Frame.step (Dev.recheckBarrier_frame ..)); case hw => rfl)
    | ((with_reducible apply Frame.step (Dev.holdReady_frame ..)); case hw => rfl)
    | ((with_reducible apply Frame.step (Dev.setMember_frame ..)); case hw => rfl)
    | split

theorem execBarrierRelease_frame (dt : Nat) (s : State) :
    ∃ dev₁, execBarrierRelease dt s = .next { s with dev := dev₁ } ∧ Frame 0x2000000000000000000000000000000000000000000000200000000000000000000000000000000000000000000000000000000000000000000000000000000000000000000000000000000030c001400000000008a0000001000000000000000001006021503 s.dev dev₁ := by
  unfold execBarrierRelease
  refine State.act_frame rfl (fun d h => ?_)
  repeat' first
    | (with_reducible assumption)
    | ((with_reducible apply Frame.step (Dev.releaseLayer_frame ..)); case hw => rfl)
    | split

theorem execBarrierWaitReminder_frame (dt : Nat) (s : State) :
    ∃ dev₁, execBarrierWaitReminder dt s = .next { s with dev := dev₁ } ∧ Frame 0x608000000000000000000000000000000000000000000000000000000000000000000000000000000000000000000000000000000000000000000000000000000000030c20140000000000020000000000000000000000000006029003 s.dev dev₁ := by
  unfold execBarrierWaitReminder
  refine State.act_frame rfl (fun d h => ?_)
  repeat' first
    | (with_reducible assumption)
    | ((with_reducible refine Frame.when (fun _ _ => ?_) ?_))
    | ((with_reducible apply Frame.step (Dev.record_frame ..)); case hw => rfl)
    | ((with_reducible apply Frame.step (Dev.modLayer_frame ..)); case hw => rfl)

theorem execLayerOpen_frame (dt : Nat) (job : Nat) (s : State) :
    ∃ dev₁, execLayerOpen dt job s = .next { s with dev := dev₁ } ∧ Frame 0x5002000000200000001800608000000000400000000000000000000000000000000000000000000000000000000000000300000001024100002003004003c0000000fc000000001c0060040100030c201410000000008a00013871060000000000000302fe279d07 s.dev dev₁ := by
  unfold execLayerOpen
  refine State.act_frame (by decide +kernel) (fun d h => ?_)
  refine Frame.withJob (by decide +kernel) (fun d j h => ?_) h
  cases hc : d.openCode j with
  | some c => exact Frame.step (Dev.complete_frame ..) (by decide +kernel) h
  | none =>
    refine Frame.ite h ?_
    refine Frame.step (Dev.windowEnd_frame ..) (by decide +kernel) (Frame.step (Dev.showReady_frame ..) (by decide +kernel)
      (Frame.step (Dev.openWindow_frame ..) (by decide +kernel) (Frame.fabric_of rfl ?_)))
    refine Frame.step (Dev.lower_frame ..) (by decide +kernel) (Frame.step (Dev.put_frame ..) (by decide +kernel)
      (Frame.step (Dev.modLayer_frame ..) (by decide +kernel) (Frame.step (Dev.put_frame ..) (by decide +kernel)
      (Frame.step (Dev.begin'_frame ..) (by decide +kernel) h))))

theorem execEpochSweepDone_frame (dt : Nat) (s : State) :
    ∃ dev₁, execEpochSweepDone dt s = .next { s with dev := dev₁ } ∧ Frame 0x5002000000000000000800608000000000000000000000000000000000000000000000000000000000000000000000000000000000000f00002000000000000000000000000000000000000100030c201410000000008a0000001106000000000000000046039d03 s.dev dev₁ := by
  unfold execEpochSweepDone
  refine State.act_frame rfl (fun d h => ?_)
  repeat' first
    | (with_reducible assumption)
    | (extract_lets +onlyGivenNames x; first | (refine Frame.cut x ?_ (fun _ => ?_); rotate_left; clear_value x; revert x; intro _ _; rotate_left; subst x) | (clear_value x; revert x; intro _) | (subst x))
    | ((with_reducible refine Frame.when (fun _ _ => ?_) ?_))
    | ((with_reducible apply Frame.step (Dev.lower_frame ..)); case hw => decide +kernel)
    | ((with_reducible apply Frame.step (Dev.modLayer_frame ..)); case hw => decide +kernel)
    | ((with_reducible apply Frame.step (Dev.windowEnd_frame ..)); case hw => decide +kernel)
    | ((with_reducible apply Frame.step (Dev.checkTable_frame ..)); case hw => decide +kernel)
    | split

theorem execLayerMark_frame (dt : Nat) (job : Nat) (s : State) :
    ∃ dev₁, execLayerMark dt job s = .next { s with dev := dev₁ } ∧ Frame 0x100200000020000000080060800000000040000000000000000000000000000000000000000000000000000000000000000000000000000000200000000000000000c400000000000000040100030c201410000000008a00000001060000000000000000ae239d03 s.dev dev₁ := by
  unfold execLayerMark
  refine State.act_frame rfl (fun d h => ?_)
  repeat' first
    | (with_reducible assumption)
    | (extract_lets +onlyGivenNames x; first | (refine Frame.cut x ?_ (fun _ => ?_); rotate_left; clear_value x; revert x; intro _ _; rotate_left; subst x) | (clear_value x; revert x; intro _) | (subst x))
    | ((with_reducible refine Frame.withJob ?hw (fun _ _ _ => ?_) ?_); case hw => rfl)
    | ((with_reducible apply Frame.step (Dev.complete_frame ..)); case hw => rfl)
    | ((with_reducible apply Frame.step (Dev.begin'_frame ..)); case hw => rfl)
    | ((with_reducible apply Frame.step (Dev.modLayer_frame ..)); case hw => rfl)
    | ((with_reducible apply Frame.step (Dev.modEng_frame ..)); case hw => rfl)
    | ((with_reducible apply Frame.step (Dev.pumpCal_frame ..)); case hw => rfl)
    | ((with_reducible apply Frame.step (Dev.settleMarks_frame ..)); case hw => rfl)
    | ((with_reducible apply Frame.step (Dev.discardDark_frame ..)); case hw => rfl)
    | split
    | ((with_reducible refine Frame.jobs_of ?hw ?_); case hw => rfl)

theorem execLayerClose_frame (dt : Nat) (job : Nat) (s : State) :
    ∃ dev₁, execLayerClose dt job s = .next { s with dev := dev₁ } ∧ Frame 0x20000000000000000000000000000000000000000000000000000000000000000000000000000000000000000000000000000000000000000000000000000000000000000000000000000000000000000000000008a0000000000000000000000000000020503 s.dev dev₁ := by
  unfold execLayerClose
  refine State.act_frame rfl (fun d h => ?_)
  repeat' first
    | (with_reducible assumption)
    | ((with_reducible refine Frame.withJob ?hw (fun _ _ _ => ?_) ?_); case hw => rfl)
    | ((with_reducible apply Frame.step (Dev.complete_frame ..)); case hw => rfl)
    | ((with_reducible apply Frame.step (Dev.modLayer_frame ..)); case hw => rfl)
    | ((with_reducible apply Frame.step (Dev.begin'_frame ..)); case hw => rfl)
    | split

theorem execLayerResume_frame (dt : Nat) (job : Nat) (s : State) :
    ∃ dev₁, execLayerResume dt job s = .next { s with dev := dev₁ } ∧ Frame 0x2000000000000000000000000000000000000000000000000000000000000000000000000000000000000000000000000000000000000000000000000000000000000000000000000000000030c001400000000008a000000700000000000000000008e021503 s.dev dev₁ := by
  unfold execLayerResume
  refine State.act_frame rfl (fun d h => ?_)
  repeat' first
    | (with_reducible assumption)
    | (extract_lets +onlyGivenNames x; first | (refine Frame.cut x ?_ (fun _ => ?_); rotate_left; clear_value x; revert x; intro _ _; rotate_left; subst x) | (clear_value x; revert x; intro _) | (subst x))
    | ((with_reducible refine Frame.withJob ?hw (fun _ _ _ => ?_) ?_); case hw => decide +kernel)
    | ((with_reducible apply Frame.step (Dev.complete_frame ..)); case hw => decide +kernel)
    | ((with_reducible apply Frame.step (Dev.lower_frame ..)); case hw => decide +kernel)
    | ((with_reducible apply Frame.step (Dev.repeatRecoat_frame ..)); case hw => decide +kernel)
    | ((with_reducible apply Frame.step (Dev.discardDark_frame ..)); case hw => decide +kernel)
    | ((with_reducible apply Frame.step (Dev.leaveCheck_frame ..)); case hw => decide +kernel)
    | ((with_reducible apply Frame.step (Dev.modLayer_frame ..)); case hw => decide +kernel)
    | split

theorem execPhaseEnd_frame (dt : Nat) (s : State) :
    ∃ dev₁, execPhaseEnd dt s = .next { s with dev := dev₁ } ∧ Frame 0x2000000000000000000608000000000000000000000000200000000000000000000000000000000000000000000000000000000000000000000000000000000004000000000000000000000030c201400000000008a000103700000000000000000300e029503 s.dev dev₁ := by
  unfold execPhaseEnd
  refine State.act_frame rfl (fun d h => ?_)
  repeat' first
    | (with_reducible assumption)
    | (extract_lets +onlyGivenNames x; first | (clear_value x; revert x; intro _) | (subst x))
    | ((with_reducible refine Frame.when (fun _ _ => ?_) ?_))
    | ((with_reducible apply Frame.step (Dev.endPhase_frame ..)); case hw => rfl)

theorem execExposeStart_frame (dt : Nat) (s : State) :
    ∃ dev₁, execExposeStart dt s = .next { s with dev := dev₁ } ∧ Frame 0x30c00140000000000020000001000000000000000020006001003 s.dev dev₁ := by
  unfold execExposeStart
  refine State.act_frame rfl (fun d h => ?_)
  repeat' first
    | (with_reducible assumption)
    | ((with_reducible refine Frame.when (fun _ _ => ?_) ?_))
    | ((with_reducible apply Frame.step (Dev.abandonCopy_frame ..)); case hw => rfl)
    | ((with_reducible apply Frame.step (Dev.enterState_frame ..)); case hw => rfl)

theorem execMidLayerRebase_frame (dt : Nat) (s : State) :
    ∃ dev₁, execMidLayerRebase dt s = .next { s with dev := dev₁ } ∧ Frame 0x608000000000000000000000000000000000000000000000000000000000000000000000000000000000000000000000000000000000000000000000000000000000030c20140000000000020000008000000000000000000006029003 s.dev dev₁ := by
  unfold execMidLayerRebase
  refine State.act_frame rfl (fun d h => ?_)
  repeat' first
    | (with_reducible assumption)
    | (extract_lets +onlyGivenNames x; first | (refine Frame.cut x ?_ (fun _ => ?_); rotate_left; clear_value x; revert x; intro _ _; rotate_left; subst x) | (subst x))
    | ((with_reducible refine Frame.when (fun _ _ => ?_) ?_))
    | ((with_reducible apply Frame.step (Dev.raise_frame ..)); case hw => decide +kernel)
    | ((with_reducible apply Frame.step (Dev.modLayer_frame ..)); case hw => decide +kernel)
    | ((with_reducible apply Frame.step (Dev.occur_frame ..)); case hw => decide +kernel)
    | ((with_reducible apply Frame.step (Dev.record_frame ..)); case hw => decide +kernel)

theorem execRebaseSweepStart_frame (dt : Nat) (s : State) :
    ∃ dev₁, execRebaseSweepStart dt s = .next { s with dev := dev₁ } ∧ Frame 0x1024100000000000000000000000000000000000000000000000000000000000000000000300000000000000000020040020003 s.dev dev₁ := by
  unfold execRebaseSweepStart
  refine State.act_frame rfl (fun d h => ?_)
  repeat' first
    | (with_reducible assumption)
    | (extract_lets +onlyGivenNames x; first | (refine Frame.cut x ?_ (fun _ => ?_); rotate_left; clear_value x; revert x; intro _ _; rotate_left; subst x) | (subst x))
    | ((with_reducible refine Frame.when (fun _ _ => ?_) ?_))
    | ((with_reducible apply Frame.step (Dev.sweepCells_frame ..)); case hw => decide +kernel)
    | ((with_reducible apply Frame.step (Dev.cellErrors_frame ..)); case hw => decide +kernel)
    | ((with_reducible apply Frame.step (Dev.raise_frame ..)); case hw => decide +kernel)
    | ((with_reducible apply Frame.step (Dev.modLayer_frame ..)); case hw => decide +kernel)
    | ((with_reducible apply Frame.step (Dev.put_frame ..)); case hw => decide +kernel)

/-! ### HingeCmds.lean -/

theorem execFenceInAssert_frame (dt : Nat) (s : State) :
    ∃ dev₁, execFenceInAssert dt s = .next { s with dev := dev₁ } ∧ Frame 0x20000000000000000000000000111800000000000000000000002000000400108000000080780000000000000000000000000000000000000000000023c40000000000000001108000800000000000000000000008a000000000000000000000002e3af020503 s.dev dev₁ := by
  unfold execFenceInAssert
  refine State.act_frame rfl (fun d h => ?_)
  repeat' first
    | (with_reducible assumption)
    | (extract_lets +onlyGivenNames x; first | (refine Frame.cut x ?_ (fun _ => ?_); rotate_left; clear_value x; revert x; intro _ _; rotate_left; subst x) | (clear_value x; revert x; intro _))
    | ((with_reducible apply Frame.step (Dev.lower_frame ..)); case hw => decide +kernel)
    | ((with_reducible apply Frame.step (Dev.enterFenced_frame ..)); case hw => decide +kernel)
    | split
    | ((with_reducible refine Frame.pins_of ?hw ?_); case hw => rfl)

theorem execFenceInRelease_frame (dt : Nat) (s : State) :
    ∃ dev₁, execFenceInRelease dt s = .next { s with dev := dev₁ } ∧ Frame 0x1080000000000000000000000000000000000000000000000000000000000000000000000000000000000000000000000000000000000000000000000000000000000000000000000000000000000000000000020001000003 s.dev dev₁ := by
  unfold execFenceInRelease
  refine State.act_frame rfl (fun d h => ?_)
  repeat' first
    | (with_reducible assumption)
    | (extract_lets +onlyGivenNames x; first | (refine Frame.cut x ?_ (fun _ => ?_); rotate_left; clear_value x; revert x; intro _ _; rotate_left; subst x) | (clear_value x; revert x; intro _) | (subst x))
    | ((with_reducible apply Frame.step (Dev.raise_frame ..)); case hw => decide +kernel)
    | ((with_reducible apply Frame.step (Dev.modHinge_frame ..)); case hw => decide +kernel)
    | ((with_reducible apply Frame.step (Dev.put_frame ..)); case hw => decide +kernel)
    | split
    | ((with_reducible refine Frame.pins_of ?hw ?_); case hw => rfl)

theorem execHingeStartupTimeout_frame (dt : Nat) (s : State) :
    ∃ dev₁, execHingeStartupTimeout dt s = .next { s with dev := dev₁ } ∧ Frame 0x80000000000000000000000000000000000000000000000000000000000000000000000000000000000000000000000000000000000000000000000000000000000000000000000000000000000000000000000001000003 s.dev dev₁ := by
  unfold execHingeStartupTimeout
  refine State.act_frame rfl (fun d h => ?_)
  repeat' first
    | (with_reducible assumption)
    | (extract_lets +onlyGivenNames x; first | (refine Frame.cut x ?_ (fun _ => ?_); rotate_left; clear_value x; revert x; intro _ _; rotate_left; subst x) | (clear_value x; revert x; intro _))
    | ((with_reducible refine Frame.when (fun _ _ => ?_) ?_))
    | ((with_reducible apply Frame.step (Dev.put_frame ..)); case hw => decide +kernel)
    | split
    | ((with_reducible refine Frame.pins_of ?hw ?_); case hw => rfl)

theorem execMirror_frame (dt : Nat) (pathB : Bool) (payload : List Gran) (s : State) :
    ∃ dev₁, execMirror dt pathB payload s = .next { s with dev := dev₁ } ∧ Frame 0x20000000000000000006080000185804000000000000000000000000000000108000000080780000000000000000000000000000000000008000000023c400000c4000000001328701abf01ff0c201420000000008a00000000000000000000000203bf229507 s.dev dev₁ := by
  unfold execMirror
  refine State.act_frame rfl (fun d h => ?_)
  repeat' first
    | (with_reducible assumption)
    | (extract_lets +onlyGivenNames x; first | (refine Frame.cut x ?_ (fun _ => ?_); rotate_left; clear_value x; revert x; intro _ _; rotate_left; subst x) | (clear_value x; revert x; intro _) | (subst x))
    | ((with_reducible refine Frame.pairIn ?hw (fun _ _ => ?_) ?_); case hw => rfl)
    | ((with_reducible apply Frame.step (Dev.hear_frame ..)); case hw => rfl)
    | ((with_reducible apply Frame.step (Dev.beatB_frame ..)); case hw => rfl)
    | ((with_reducible apply Frame.step (Dev.modHinge_frame ..)); case hw => rfl)
    | ((with_reducible apply Frame.step (Dev.checkPathB_frame ..)); case hw => rfl)
    | ((with_reducible apply Frame.step (Dev.adoptRecord_frame ..)); case hw => rfl)
    | ((with_reducible apply Frame.step (Dev.hearState_frame ..)); case hw => rfl)
    | split

theorem execHeartbeat_frame (dt : Nat) (payload : List Gran) (s : State) :
    ∃ dev₁, execHeartbeat dt payload s = .next { s with dev := dev₁ } ∧ Frame 0x20000000000000000006080000103800000000000000000000000000000000108000000080780000000000000000000000000000000000000000000023c4000000000000000110800000000030c201400000000008a00000000000000000000000203af229503 s.dev dev₁ := by
  unfold execHeartbeat
  refine State.act_frame rfl (fun d h => ?_)
  repeat' first
    | (with_reducible assumption)
    | ((with_reducible refine Frame.pairIn ?hw (fun _ _ => ?_) ?_); case hw => rfl)
    | ((with_reducible apply Frame.step (Dev.hearState_frame ..)); case hw => rfl)
    | ((with_reducible apply Frame.step (Dev.beatA_frame ..)); case hw => rfl)
    | ((with_reducible apply Frame.step (Dev.hear_frame ..)); case hw => rfl)
    | split

theorem execHingePathLost_frame (dt : Nat) (pathB : Bool) (s : State) :
    ∃ dev₁, execHingePathLost dt pathB s = .next { s with dev := dev₁ } ∧ Frame 0x608000000f80000000000000000000000000000000000000000000000000000000000000000000000000000000000000000000000000000000000000000000000000030c20140000000000020000000000000000000000020007209003 s.dev dev₁ := by
  unfold execHingePathLost
  refine State.act_frame rfl (fun d h => ?_)
  repeat' first
    | (with_reducible assumption)
    | (extract_lets +onlyGivenNames x; first | (clear_value x; revert x; intro _) | (subst x))
    | ((with_reducible refine Frame.when (fun _ _ => ?_) ?_))
    | ((with_reducible apply Frame.step (Dev.losePath_frame ..)); case hw => rfl)

theorem execSwitchoverOwnRaise_frame (dt : Nat) (ownInLow : Bool) (s : State) :
    ∃ dev₁, execSwitchoverOwnRaise dt ownInLow s = .next { s with dev := dev₁ } ∧ Frame 0x20000000000000000006083000060000000000000000002000000000000000000000000008000000000000000000000000000000000000000000000023c4000000000000000110800100100030c201400000000008a00010110000000000000000211af029503 s.dev dev₁ := by
  unfold execSwitchoverOwnRaise
  refine State.act_frame rfl (fun d h => ?_)
  repeat' first
    | (with_reducible assumption)
    | (extract_lets +onlyGivenNames x; first | (refine Frame.cut x ?_ (fun _ => ?_); rotate_left; clear_value x; revert x; intro _ _; rotate_left; subst x) | (clear_value x; revert x; intro _) | (subst x))
    | ((with_reducible refine Frame.when (fun _ _ => ?_) ?_))
    | ((with_reducible apply Frame.step (Dev.putB_frame ..)); case hw => decide +kernel)
    | ((with_reducible apply Frame.step (Dev.raise_frame ..)); case hw => decide +kernel)
    | ((with_reducible apply Frame.step (Dev.bump_frame ..)); case hw => decide +kernel)
    | ((with_reducible apply Frame.step (Dev.put_frame ..)); case hw => decide +kernel)
    | ((with_reducible apply Frame.step (Dev.occur_frame ..)); case hw => decide +kernel)
    | ((with_reducible apply Frame.step (Dev.record_frame ..)); case hw => decide +kernel)
    | ((with_reducible apply Frame.step (Dev.resumeAll_frame ..)); case hw => decide +kernel)
    | ((with_reducible apply Frame.step (Dev.modHinge_frame ..)); case hw => decide +kernel)
    | split
    | ((with_reducible refine Frame.pins_of ?hw ?_); case hw => rfl)

theorem execTakeover_frame (dt : Nat) (dev : Fin 1024) (payload : List Gran) (s : State) :
    ∃ dev₁, execTakeover dt dev payload s = .next { s with dev := dev₁ } ∧ Frame 0x40000000000000010000000000000000000000000000000000000000000000000000000000000000000000000020020003 s.dev dev₁ := by
  unfold execTakeover
  refine State.act_frame rfl (fun d h => ?_)
  repeat' first
    | (with_reducible assumption)
    | (extract_lets +onlyGivenNames x; first | (refine Frame.cut x ?_ (fun _ => ?_); rotate_left; clear_value x; revert x; intro _ _; rotate_left; subst x) | (subst x))
    | ((with_reducible refine Frame.fabricIn ?hw (fun _ _ => ?_) ?_); case hw => rfl)
    | ((with_reducible apply Frame.step (Dev.hear_frame ..)); case hw => rfl)
    | ((with_reducible apply Frame.step (Dev.setMember_frame ..)); case hw => rfl)
    | ((with_reducible apply Frame.step (Dev.replacePeer_frame ..)); case hw => rfl)
    | split

theorem execMirrorCapture_frame (dt : Nat) (s : State) :
    ∃ dev₁, execMirrorCapture dt s = .next { s with dev := dev₁ } ∧ Frame 0x80000000000000000000000000000000000000000000000000000000000000000000000000000001024000000000000000000000000000000000000000000000000000000000000000000000000000000000000000020046000003 s.dev dev₁ := by
  unfold execMirrorCapture
  refine State.act_frame rfl (fun d h => ?_)
  repeat' first
    | (with_reducible assumption)
    | (extract_lets +onlyGivenNames x; first | (refine Frame.cut x ?_ (fun _ => ?_); rotate_left; clear_value x; revert x; intro _ _; rotate_left; subst x) | (subst x))
    | ((with_reducible refine Frame.when (fun _ _ => ?_) ?_))
    | ((with_reducible apply Frame.step (Dev.bump_frame ..)); case hw => decide +kernel)
    | ((with_reducible apply Frame.step (Dev.startCopy_frame ..)); case hw => decide +kernel)
    | ((with_reducible apply Frame.step (Dev.sendRecord_frame ..)); case hw => decide +kernel)
    | split

theorem execHeartbeatSend_frame (dt : Nat) (s : State) :
    ∃ dev₁, execHeartbeatSend dt s = .next { s with dev := dev₁ } ∧ Frame 0x6000003 s.dev dev₁ := by
  unfold execHeartbeatSend
  refine State.act_frame rfl (fun d h => ?_)
  repeat' first
    | (with_reducible assumption)
    | ((with_reducible refine Frame.when (fun _ _ => ?_) ?_))
    | ((with_reducible apply Frame.step (Dev.fabUnicast_frame ..)); case hw => rfl)

theorem execHealthReport_frame (dt : Nat) (s : State) :
    ∃ dev₁, execHealthReport dt s = .next { s with dev := dev₁ } ∧ Frame 0x608000b20180000000000000000000000000000000000000000000000000000000000000000000000000000000000000000000000000000000000000000000000000030c20140000000000020000000000000000000000020007209003 s.dev dev₁ := by
  unfold execHealthReport
  refine State.act_frame rfl (fun d h => ?_)
  repeat' first
    | (with_reducible assumption)
    | (extract_lets +onlyGivenNames x; first | (refine Frame.cut x ?_ (fun _ => ?_); rotate_left; clear_value x; revert x; intro _ _; rotate_left; subst x) | (subst x))
    | ((with_reducible refine Frame.when (fun _ _ => ?_) ?_))
    | ((with_reducible apply Frame.step (Dev.showHealth_frame ..)); case hw => decide +kernel)
    | ((with_reducible apply Frame.step (Dev.modHinge_frame ..)); case hw => decide +kernel)
    | ((with_reducible apply Frame.step (Dev.putB_frame ..)); case hw => decide +kernel)
    | ((with_reducible apply Frame.step (Dev.put_frame ..)); case hw => decide +kernel)
    | ((with_reducible apply Frame.step (Dev.fabUnicast_frame ..)); case hw => decide +kernel)
    | ((with_reducible apply Frame.step (Dev.switchOver_frame ..)); case hw => decide +kernel)
    | split

theorem execHealth_frame (dt : Nat) (payload : List Gran) (s : State) :
    ∃ dev₁, execHealth dt payload s = .next { s with dev := dev₁ } ∧ Frame 0x7f000000000000000000000000000000000000000000000000000000000000000000000000000000000000000000000000000000000000000000000000000000000000000000000000000000000000000000000000000020000003 s.dev dev₁ := by
  unfold execHealth
  have hcov : Fld.covers (fun f => (Reg.fields .HNG_PEER_HEALTH).contains f) 0x7f000000000000000000000000000000000000000000000000000000000000000000000000000000000000000000000000000000000000000000000000000000000000000000000000000000000000000000000000000020000003 = true := by decide +kernel
  refine State.act_frame (by decide +kernel) (fun d h => ?_)
  split
  · refine Frame.fabricIn (by decide +kernel) (fun x h => Frame.foldl_mem ?_ (fun _ f hf h =>
      h.step' (Dev.put_frame ..) (Fld.within hcov f (by simpa using hf)))) h
    exact h.step' (Dev.hear_frame ..) (by decide +kernel)
  · exact h

theorem execStandbyBistDone_frame (dt : Nat) (n : Fin 49) (ok : Bool) (s : State) :
    ∃ dev₁, execStandbyBistDone dt n ok s = .next { s with dev := dev₁ } ∧ Frame 0x19c02000ffe3800000008006088006f018040000000000000000001de0000004001080000000807800000000000000000000400000000000000f8000040023c400000c4000000003108000c030e030c201410003680008a000000410600000000000002e3bf639d33 s.dev dev₁ := by
  unfold execStandbyBistDone
  refine State.act_frame rfl (fun d h => ?_)
  repeat' first
    | (with_reducible assumption)
    | (extract_lets +onlyGivenNames x; first | (refine Frame.cut x ?_ (fun _ => ?_); rotate_left; clear_value x; revert x; intro _ _; rotate_left; subst x) | (clear_value x; revert x; intro _) | (subst x))
    | ((with_reducible refine Frame.when (fun _ _ => ?_) ?_))
    | ((with_reducible apply Frame.step (Dev.put_frame ..)); case hw => decide +kernel)
    | ((with_reducible apply Frame.step (Dev.modHinge_frame ..)); case hw => decide +kernel)
    | ((with_reducible apply Frame.step (Dev.setIsland_frame ..)); case hw => decide +kernel)
    | ((with_reducible apply Frame.step (Dev.calDone_frame ..)); case hw => decide +kernel)
    | ((with_reducible apply Frame.step (Dev.unitFault_frame ..)); case hw => decide +kernel)
    | ((with_reducible apply Frame.step (Dev.record_frame ..)); case hw => decide +kernel)
    | ((with_reducible apply Frame.step (Dev.raise_frame ..)); case hw => decide +kernel)
    | ((with_reducible apply Frame.step (Dev.lower_frame ..)); case hw => decide +kernel)
    | ((with_reducible apply Frame.step (Dev.showHealth_frame ..)); case hw => decide +kernel)
    | split

theorem execSnapshot_frame (dt : Nat) (payload : List Gran) (s : State) :
    ∃ dev₁, execSnapshot dt payload s = .next { s with dev := dev₁ } ∧ Frame 0x1000010000004000000000f8004000000000000000000000008000000000000000000000000000000000000000000000000000000000000000000000000000000000202a8000007 s.dev dev₁ := by
  unfold execSnapshot
  refine State.act_frame rfl (fun d h => ?_)
  repeat' first
    | (with_reducible assumption)
    | ((with_reducible refine Frame.pairIn ?hw (fun _ _ => ?_) ?_); case hw => rfl)
    | ((with_reducible refine Frame.when (fun _ _ => ?_) ?_))
    | ((with_reducible apply Frame.step (Dev.takeSnapshot_frame ..)); case hw => rfl)
    | ((with_reducible apply Frame.step (Dev.hear_frame ..)); case hw => rfl)

theorem execGrainCopy_frame (dt : Nat) (payload : List Gran) (s : State) :
    ∃ dev₁, execGrainCopy dt payload s = .next { s with dev := dev₁ } ∧ Frame 0x80000000000000000000000000000000000000000000000000000000000000000000000000000000000000000000000000000000000000000000000000000000000000000000000000000000000000000000020060000003 s.dev dev₁ := by
  unfold execGrainCopy
  refine State.act_frame rfl (fun d h => ?_)
  repeat' first
    | (with_reducible assumption)
    | (extract_lets +onlyGivenNames x; first | (refine Frame.cut x ?_ (fun _ => ?_); rotate_left; clear_value x; revert x; intro _ _; rotate_left; subst x) | (clear_value x; revert x; intro _) | (subst x))
    | ((with_reducible refine Frame.when (fun _ _ => ?_) ?_))
    | ((with_reducible apply Frame.step (Dev.hear_frame ..)); case hw => decide +kernel)
    | ((with_reducible apply Frame.step (Dev.copyIn_frame ..)); case hw => decide +kernel)
    | ((with_reducible apply Frame.step (Dev.modHinge_frame ..)); case hw => decide +kernel)
    | ((with_reducible apply Frame.step (Dev.put_frame ..)); case hw => decide +kernel)
    | split

theorem execHngHandover_frame (dt : Nat) (job : Nat) (s : State) :
    ∃ dev₁, execHngHandover dt job s = .next { s with dev := dev₁ } ∧ Frame 0x20000000000000000000000000100800000000000000000000000000000000108000000080780000000000000000000000000000000000000000000023c40000000000000001108000000000000000000000000008a00000000000000000000000203af020503 s.dev dev₁ := by
  unfold execHngHandover
  refine State.act_frame rfl (fun d h => ?_)
  repeat' first
    | (with_reducible assumption)
    | ((with_reducible refine Frame.withJob ?hw (fun _ _ _ => ?_) ?_); case hw => rfl)
    | ((with_reducible apply Frame.step (Dev.complete_frame ..)); case hw => rfl)
    | ((with_reducible apply Frame.step (Dev.hingeFail_frame ..)); case hw => rfl)
    | ((with_reducible apply Frame.step (Dev.modHinge_frame ..)); case hw => rfl)
    | ((with_reducible apply Frame.step (Dev.begin'_frame ..)); case hw => rfl)
    | split

theorem execHngRelease_frame (dt : Nat) (job : Nat) (s : State) :
    ∃ dev₁, execHngRelease dt job s = .next { s with dev := dev₁ } ∧ Frame 0x20000000000000000000000000000000000000000000000000000000000000000000000000000000000000000000000000000000000000000000000000000000000000000000000000000000000000000000000008a0000000000000000000000000001020503 s.dev dev₁ := by
  unfold execHngRelease
  refine State.act_frame rfl (fun d h => ?_)
  repeat' first
    | (with_reducible assumption)
    | (extract_lets +onlyGivenNames x; first | (clear_value x; revert x; intro _) | (subst x))
    | ((with_reducible refine Frame.withJob ?hw (fun _ _ _ => ?_) ?_); case hw => rfl)
    | ((with_reducible apply Frame.step (Dev.complete_frame ..)); case hw => rfl)
    | split
    | ((with_reducible refine Frame.pins_of ?hw ?_); case hw => rfl)

/-! ### FabCmds.lean -/

theorem execFabricLaunch_frame (dt : Nat) (p : Fin 4) (s : State) :
    ∃ dev₁, execFabricLaunch dt p s = .next { s with dev := dev₁ } ∧ Frame 0x80000000000000000000000000000000000000000000000000000000000000000000001024000000000000000000000000000000000000000000000000000000000000000000000000000000000000000030046000003 s.dev dev₁ := by
  unfold execFabricLaunch
  refine State.act_frame rfl (fun d h => ?_)
  repeat' first
    | (with_reducible assumption)
    | (extract_lets +onlyGivenNames x; first | (refine Frame.cut x ?_ (fun _ => ?_); rotate_left; clear_value x; revert x; intro _ _; rotate_left; subst x) | (subst x))
    | ((with_reducible refine Frame.when (fun _ _ => ?_) ?_))
    | ((with_reducible apply Frame.step (Dev.dropStuck_frame ..)); case hw => rfl)
    | ((with_reducible apply Frame.step (Dev.sendFrame_frame ..)); case hw => rfl)
    | ((with_reducible apply Frame.step (Dev.copyOn_frame ..)); case hw => rfl)
    | ((with_reducible apply Frame.step (Dev.pumpBulk_frame ..)); case hw => rfl)
    | split

theorem execHello_frame (dt : Nat) (p : Fin 4) (payload : List Gran) (s : State) :
    ∃ dev₁, execHello dt p payload s = .next { s with dev := dev₁ } ∧ Frame 0x608000000001805802c00000000000000000000000000000000000000000000000000000000000000000000000000000000000000000000000000000000000000000030c20140000000000020000000000000000000000010027009003 s.dev dev₁ := by
  unfold execHello
  refine State.act_frame rfl (fun d h => ?_)
  repeat' first
    | (with_reducible assumption)
    | (extract_lets +onlyGivenNames x; first | (refine Frame.cut x ?_ (fun _ => ?_); rotate_left; clear_value x; revert x; intro _ _; rotate_left; subst x) | (clear_value x; revert x; intro _) | (subst x))
    | ((with_reducible refine Frame.fabricIn ?hw (fun _ _ => ?_) ?_); case hw => decide +kernel)
    | ((with_reducible apply Frame.step (Dev.modPort_frame ..)); case hw => decide +kernel)
    | ((with_reducible apply Frame.step (Dev.hear_frame ..)); case hw => decide +kernel)
    | ((with_reducible apply Frame.step (Dev.put_frame ..)); case hw => decide +kernel)
    | ((with_reducible apply Frame.step (Dev.recompute_frame ..)); case hw => decide +kernel)
    | ((with_reducible apply Frame.step (Dev.raise_frame ..)); case hw => decide +kernel)
    | ((with_reducible apply Frame.step (Dev.sameId_frame ..)); case hw => decide +kernel)
    | split

theorem execHelloSend_frame (dt : Nat) (p : Fin 4) (s : State) :
    ∃ dev₁, execHelloSend dt p s = .next { s with dev := dev₁ } ∧ Frame 0x10006000003 s.dev dev₁ := by
  unfold execHelloSend
  refine State.act_frame rfl (fun d h => ?_)
  repeat' first
    | (with_reducible assumption)
    | ((with_reducible refine Frame.when (fun _ _ => ?_) ?_))
    | ((with_reducible apply Frame.step (Dev.fabSend_frame ..)); case hw => rfl)
    | ((with_reducible apply Frame.step (Dev.modPort_frame ..)); case hw => rfl)

theorem execNeighbourLost_frame (dt : Nat) (p : Fin 4) (s : State) :
    ∃ dev₁, execNeighbourLost dt p s = .next { s with dev := dev₁ } ∧ Frame 0x1802802000000000000000000000000000000000000000000000000000000000000000000000000000000000000000000000000000000000000000000030c00140000000000020000000000000000000000010006001003 s.dev dev₁ := by
  unfold execNeighbourLost
  refine State.act_frame rfl (fun d h => ?_)
  repeat' first
    | (with_reducible assumption)
    | ((with_reducible refine Frame.when (fun _ _ => ?_) ?_))
    | ((with_reducible apply Frame.step (Dev.loseNeighbour_frame ..)); case hw => rfl)

theorem execBlockLockLost_frame (dt : Nat) (p : Fin 4) (s : State) :
    ∃ dev₁, execBlockLockLost dt p s = .next { s with dev := dev₁ } ∧ Frame 0x1813e02400000000000000000000000000000000000000000000000000000000000000000000000000000000000000000000000000000000000000000030c00140000000000020000000000000000000000010007001007 s.dev dev₁ := by
  unfold execBlockLockLost
  refine State.act_frame rfl (fun d h => ?_)
  repeat' first
    | (with_reducible assumption)
    | (extract_lets +onlyGivenNames x; first | (refine Frame.cut x ?_ (fun _ => ?_); rotate_left; clear_value x; revert x; intro _ _; rotate_left; subst x) | (subst x))
    | ((with_reducible refine Frame.when (fun _ _ => ?_) ?_))
    | ((with_reducible apply Frame.step (Dev.bump_frame ..)); case hw => decide +kernel)
    | ((with_reducible apply Frame.step (Dev.lower_frame ..)); case hw => decide +kernel)
    | ((with_reducible apply Frame.step (Dev.loseNeighbour_frame ..)); case hw => decide +kernel)
    | ((with_reducible apply Frame.step (Dev.latchWhere_frame ..)); case hw => decide +kernel)
    | ((with_reducible apply Frame.step (Dev.showHold_frame ..)); case hw => decide +kernel)
    | ((with_reducible apply Frame.step (Dev.recompute_frame ..)); case hw => decide +kernel)
    | ((with_reducible apply Frame.step (Dev.listen_frame ..)); case hw => decide +kernel)
    | split

theorem execBlockLockGained_frame (dt : Nat) (p : Fin 4) (s : State) :
    ∃ dev₁, execBlockLockGained dt p s = .next { s with dev := dev₁ } ∧ Frame 0x1600000000000000000000000000000000000000000000000000000000000000000000000000000000000000000000000000000000000000000000000000000000000000000000000000000000000000010001000007 s.dev dev₁ := by
  unfold execBlockLockGained
  refine State.act_frame rfl (fun d h => ?_)
  repeat' first
    | (with_reducible assumption)
    | (extract_lets +onlyGivenNames x; first | (refine Frame.cut x ?_ (fun _ => ?_); rotate_left; clear_value x; revert x; intro _ _; rotate_left; subst x) | (subst x))
    | ((with_reducible apply Frame.step (Dev.latchWhere_frame ..)); case hw => decide +kernel)
    | ((with_reducible refine Frame.when (fun _ _ => ?_) ?_))
    | ((with_reducible apply Frame.step (Dev.raise_frame ..)); case hw => decide +kernel)
    | ((with_reducible apply Frame.step (Dev.modFabric_frame ..)); case hw => decide +kernel)
    | ((with_reducible apply Frame.step (Dev.showHold_frame ..)); case hw => decide +kernel)
    | split

theorem execRoute_frame (dt : Nat) (p : Fin 4) (payload : List Gran) (s : State) :
    ∃ dev₁, execRoute dt p payload s = .next { s with dev := dev₁ } ∧ Frame 0x1800002000000000000000000000000000000000000000000000000000000000000000000000000000000000000000000000000000000000000000000000000000000000000000000000000000000000000010020000003 s.dev dev₁ := by
  unfold execRoute
  refine State.act_frame rfl (fun d h => ?_)
  repeat' first
    | (with_reducible assumption)
    | (extract_lets +onlyGivenNames x; first | (refine Frame.cut x ?_ (fun _ => ?_); rotate_left; clear_value x; revert x; intro _ _; rotate_left; subst x) | (clear_value x; revert x; intro _) | (subst x))
    | ((with_reducible refine Frame.foldl ?_ (fun _ _ _ => ?_)))
    | ((with_reducible refine Frame.fabricIn ?hw (fun _ _ => ?_) ?_); case hw => rfl)
    | ((with_reducible apply Frame.step (Dev.modPort_frame ..)); case hw => rfl)
    | ((with_reducible apply Frame.step (Dev.hearPort_frame ..)); case hw => rfl)
    | ((with_reducible apply Frame.step (Dev.modFabric_frame ..)); case hw => rfl)
    | ((with_reducible apply Frame.step (Dev.recompute_frame ..)); case hw => rfl)
    | split

theorem execRouteSend_frame (dt : Nat) (s : State) :
    ∃ dev₁, execRouteSend dt s = .next { s with dev := dev₁ } ∧ Frame 0x10006000003 s.dev dev₁ := by
  unfold execRouteSend
  refine State.act_frame rfl (fun d h => ?_)
  repeat' first
    | (with_reducible assumption)
    | ((with_reducible refine Frame.forAll (fun _ _ _ => ?_) ?_))
    | ((with_reducible refine Frame.when (fun _ _ => ?_) ?_))
    | ((with_reducible apply Frame.step (Dev.sendRoute_frame ..)); case hw => rfl)

theorem execRouteAgeOut_frame (dt : Nat) (p : Fin 4) (dev : Fin 1024) (s : State) :
    ∃ dev₁, execRouteAgeOut dt p dev s = .next { s with dev := dev₁ } ∧ Frame 0x1800002000000000000000000000000000000000000000000000000000000000000000000000000000000000000000000000000000000000000000000000000000000000000000000000000000000000000010000000003 s.dev dev₁ := by
  unfold execRouteAgeOut
  refine State.act_frame rfl (fun d h => ?_)
  repeat' first
    | (with_reducible assumption)
    | ((with_reducible refine Frame.when (fun _ _ => ?_) ?_))
    | ((with_reducible apply Frame.step (Dev.recompute_frame ..)); case hw => rfl)
    | ((with_reducible apply Frame.step (Dev.modPort_frame ..)); case hw => rfl)

theorem execJoinEnable_frame (dt : Nat) (value : Word) (s : State) :
    ∃ dev₁, execJoinEnable dt value s = .next { s with dev := dev₁ } ∧ Frame 0x608000000001801003403c300000000002000000400008000000000200000000000000000020040000000000000000000000023c4000004000000000150800080100030c201400003e800002000000400000000000000001efaf029403 s.dev dev₁ := by
  unfold execJoinEnable
  refine State.act_frame rfl (fun d h => ?_)
  repeat' first
    | (with_reducible assumption)
    | ((with_reducible refine Frame.byFn ?hw (fun _ _ => ?_) ?_); case hw => rfl)
    | ((with_reducible apply Frame.step (Dev.writeFabCfg_frame ..)); case hw => rfl)

theorem execClaimDone_frame (dt : Nat) (s : State) :
    ∃ dev₁, execClaimDone dt s = .next { s with dev := dev₁ } ∧ Frame 0x608000000001801002e00000000000000000000000000000000000000000000000000000000000000000000000000000000000000000000000000000000000000000030c20140000000000020000000000000000000000010007009003 s.dev dev₁ := by
  unfold execClaimDone
  refine State.act_frame rfl (fun d h => ?_)
  repeat' first
    | (with_reducible assumption)
    | (extract_lets +onlyGivenNames x; first | (clear_value x; revert x; intro _) | (subst x))
    | ((with_reducible refine Frame.when (fun _ _ => ?_) ?_))
    | ((with_reducible apply Frame.step (Dev.modFabric_frame ..)); case hw => rfl)
    | ((with_reducible apply Frame.step (Dev.conflict_frame ..)); case hw => rfl)
    | ((with_reducible apply Frame.step (Dev.joined_frame ..)); case hw => rfl)
    | split

theorem execBroadcastRepeat_frame (dt : Nat) (s : State) :
    ∃ dev₁, execBroadcastRepeat dt s = .next { s with dev := dev₁ } ∧ Frame 0x10006000003 s.dev dev₁ := by
  unfold execBroadcastRepeat
  refine State.act_frame rfl (fun d h => ?_)
  repeat' first
    | (with_reducible assumption)
    | (extract_lets +onlyGivenNames x; first | (clear_value x; revert x; intro _) | (subst x))
    | ((with_reducible refine Frame.when (fun _ _ => ?_) ?_))
    | ((with_reducible apply Frame.step (Dev.modFabric_frame ..)); case hw => rfl)
    | ((with_reducible apply Frame.step (Dev.fabBcast_frame ..)); case hw => rfl)

theorem execJoin_frame (dt : Nat) (dev : Fin 1024) (payload : List Gran) (s : State) :
    ∃ dev₁, execJoin dt dev payload s = .next { s with dev := dev₁ } ∧ Frame 0x608000000003a01002c00000000000000000000000000000000000000000000000000000000000000000000000000000000000000000000000000000000000000000030c20140000000000020001000000000000000000010027009003 s.dev dev₁ := by
  unfold execJoin
  refine State.act_frame rfl (fun d h => ?_)
  repeat' first
    | (with_reducible assumption)
    | (extract_lets +onlyGivenNames x; first | (refine Frame.cut x ?_ (fun _ => ?_); rotate_left; clear_value x; revert x; intro _ _; rotate_left; subst x) | (clear_value x; revert x; intro _) | (subst x))
    | ((with_reducible refine Frame.fabricIn ?hw (fun _ _ => ?_) ?_); case hw => decide +kernel)
    | ((with_reducible apply Frame.step (Dev.hear_frame ..)); case hw => decide +kernel)
    | ((with_reducible apply Frame.step (Dev.bump_frame ..)); case hw => decide +kernel)
    | ((with_reducible apply Frame.step (Dev.sameId_frame ..)); case hw => decide +kernel)
    | ((with_reducible apply Frame.step (Dev.lower_frame ..)); case hw => decide +kernel)
    | ((with_reducible apply Frame.step (Dev.modFabric_frame ..)); case hw => decide +kernel)
    | ((with_reducible apply Frame.step (Dev.showReady_frame ..)); case hw => decide +kernel)
    | split

theorem execLeave_frame (dt : Nat) (dev : Fin 1024) (s : State) :
    ∃ dev₁, execLeave dt dev s = .next { s with dev := dev₁ } ∧ Frame 0x2000000000000000000608000000002200000000000000200000000000000000000000000000000000000000000000000000000008000000000000000002000000000000000000000000000030c201400000000008a0001011000000000000000011026029503 s.dev dev₁ := by
  unfold execLeave
  refine State.act_frame rfl (fun d h => ?_)
  repeat' first
    | (with_reducible assumption)
    | ((with_reducible refine Frame.fabricIn ?hw (fun _ _ => ?_) ?_); case hw => decide +kernel)
    | ((with_reducible apply Frame.step (Dev.bump_frame ..)); case hw => decide +kernel)
    | ((with_reducible apply Frame.step (Dev.memberLeft_frame ..)); case hw => decide +kernel)
    | ((with_reducible apply Frame.step (Dev.hear_frame ..)); case hw => decide +kernel)
    | split

theorem execFabForward_frame (dt : Nat) (p : Fin 4) (header : Gran) (payload : List Gran) (s : State) :
    ∃ dev₁, execFabForward dt p header payload s = .next { s with dev := dev₁ } ∧ Frame 0x388000000000000000000000000000000000000000000000000000000000000000000000000000000000000000000000000000000000000000000000000000000000000000000000000000000000000000010022000003 s.dev dev₁ := by
  unfold execFabForward
  refine State.act_frame rfl (fun d h => ?_)
  repeat' first
    | (with_reducible assumption)
    | (extract_lets +onlyGivenNames x; first | (refine Frame.cut x ?_ (fun _ => ?_); rotate_left; clear_value x; revert x; intro _ _; rotate_left; subst x) | (refine Frame.cutFn x (fun _ _ => ?_) (fun _ => ?_); rotate_left; clear_value x; revert x; intro _ _; rotate_left; subst x) | (clear_value x; revert x; intro _) | (subst x))
    | ((with_reducible refine Frame.fabricIn ?hw (fun _ _ => ?_) ?_); case hw => decide +kernel)
    | ((with_reducible apply Frame.step (Dev.bump_frame ..)); case hw => decide +kernel)
    | ((with_reducible apply Frame.step (Dev.hear_frame ..)); case hw => decide +kernel)
    | ((with_reducible apply Frame.step (Dev.noteSeq_frame ..)); case hw => decide +kernel)
    | (with_reducible apply_assumption -exfalso -symm)
    | split
    | ((with_reducible refine Frame.fabOut_of ?hw ?_); case hw => rfl)

theorem execFabWrite_frame (dt : Nat) (job : Nat) (s : State) :
    ∃ dev₁, execFabWrite dt job s = .next { s with dev := dev₁ } ∧ Frame 0x20000000000000000000000000000000000000000000000000000000000000000000000000000000000000000000000000000000000000000000000000000000000000000000000000000000000000000000000008a0000000000000000000000010006020503 s.dev dev₁ := by
  unfold execFabWrite
  refine State.act_frame rfl (fun d h => ?_)
  repeat' first
    | (with_reducible assumption)
    | (extract_lets +onlyGivenNames x; first | (refine Frame.cut x ?_ (fun _ => ?_); rotate_left; clear_value x; revert x; intro _ _; rotate_left; subst x) | (clear_value x; revert x; intro _) | (subst x))
    | ((with_reducible refine Frame.withJob ?hw (fun _ _ _ => ?_) ?_); case hw => rfl)
    | ((with_reducible apply Frame.step (Dev.complete_frame ..)); case hw => rfl)
    | ((with_reducible apply Frame.step (Dev.begin'_frame ..)); case hw => rfl)
    | ((with_reducible apply Frame.step (Dev.pumpBulk_frame ..)); case hw => rfl)
    | ((with_reducible apply Frame.step (Dev.modFabric_frame ..)); case hw => rfl)
    | split
    | ((with_reducible refine Frame.fabSeq_of ?hw ?hx ?_); (case hw => (first | rfl | (simp))); (case hx => (intro hc; first | exact Tab.wf_set _ _ _ _ hc.fabSeq | exact Tab.wf_filter _ _ _ hc.fabSeq | exact Tab.wf_nil _)))

theorem execBulkWrite_frame (dt : Nat) (header : Gran) (payload : List Gran) (s : State) :
    ∃ dev₁, execBulkWrite dt header payload s = .next { s with dev := dev₁ } ∧ Frame 0x608000000000000000000000000000000000000000000000000000000000000000000000000000000000008000000000000000002000004400000000000000000000030c2014078000000002000000000000000000000001002e009023 s.dev dev₁ := by
  unfold execBulkWrite
  refine State.act_frame rfl (fun d h => ?_)
  repeat' first
    | (with_reducible assumption)
    | (extract_lets +onlyGivenNames x; first | (refine Frame.cut x ?_ (fun _ => ?_); rotate_left; clear_value x; revert x; intro _ _; rotate_left; subst x) | (refine Frame.cutFnR x (fun _ _ _ => ?_) (fun _ => ?_); rotate_left; clear_value x; revert x; intro _ _; rotate_left; subst x) | (clear_value x; revert x; intro _) | (subst x))
    | ((with_reducible refine Frame.granting ?hw (fun _ _ => ?_) ?_); case hw => rfl)
    | ((with_reducible apply Frame.step (Dev.dramWrite_frame ..)); case hw => rfl)
    | ((with_reducible apply Frame.step (Dev.modFabric_frame ..)); case hw => rfl)
    | ((with_reducible apply Frame.step (Dev.bulkAck_frame ..)); case hw => rfl)
    | (with_reducible apply_assumption -exfalso -symm)
    | split

theorem execBulkAck_frame (dt : Nat) (dev : Fin 1024) (payload : List Gran) (s : State) :
    ∃ dev₁, execBulkAck dt dev payload s = .next { s with dev := dev₁ } ∧ Frame 0x20000000000000000000000000000000000000000000000000000000000000000000000000000000000000000000000000000000000000000000000000000000000000000000000000000000000000000000000008a0000000000000000000000010022020503 s.dev dev₁ := by
  unfold execBulkAck
  refine State.act_frame rfl (fun d h => ?_)
  repeat' first
    | (with_reducible assumption)
    | (extract_lets +onlyGivenNames x; first | (refine Frame.cut x ?_ (fun _ => ?_); rotate_left; clear_value x; revert x; intro _ _; rotate_left; subst x) | (clear_value x; revert x; intro _) | (subst x))
    | ((with_reducible refine Frame.fabricIn ?hw (fun _ _ => ?_) ?_); case hw => rfl)
    | ((with_reducible apply Frame.step (Dev.hear_frame ..)); case hw => rfl)
    | ((with_reducible apply Frame.step (Dev.endBulk_frame ..)); case hw => rfl)
    | ((with_reducible apply Frame.step (Dev.pumpBulk_frame ..)); case hw => rfl)
    | ((with_reducible apply Frame.step (Dev.modFabric_frame ..)); case hw => rfl)
    | split

theorem execBulkResendTimeout_frame (dt : Nat) (job : Nat) (s : State) :
    ∃ dev₁, execBulkResendTimeout dt job s = .next { s with dev := dev₁ } ∧ Frame 0x20000000000000000000000000000000000000000000000000000000000000000000000000000000000000000000000000000000000000000000000000000000000000000000000000000000000000000000000008a0000000000000000000000010002020503 s.dev dev₁ := by
  unfold execBulkResendTimeout
  refine State.act_frame rfl (fun d h => ?_)
  repeat' first
    | (with_reducible assumption)
    | (extract_lets +onlyGivenNames x; first | (refine Frame.cut x ?_ (fun _ => ?_); rotate_left; clear_value x; revert x; intro _ _; rotate_left; subst x) | (clear_value x; revert x; intro _) | (subst x))
    | ((with_reducible refine Frame.when (fun _ _ => ?_) ?_))
    | ((with_reducible apply Frame.step (Dev.endBulk_frame ..)); case hw => rfl)
    | ((with_reducible apply Frame.step (Dev.pumpBulk_frame ..)); case hw => rfl)
    | ((with_reducible apply Frame.step (Dev.modFabric_frame ..)); case hw => rfl)
    | split
    | ((with_reducible refine Frame.fabOut_of ?hw ?_); case hw => rfl)

theorem execFabLeave_frame (dt : Nat) (job : Nat) (s : State) :
    ∃ dev₁, execFabLeave dt job s = .next { s with dev := dev₁ } ∧ Frame 0x20000000000000000000000000000000010004010000000000000000000000000000000000000000000000000000000000000000000000000000000000000000000000000000000000000000000000000000000008a0000000000000000000000010007020503 s.dev dev₁ := by
  unfold execFabLeave
  refine State.act_frame rfl (fun d h => ?_)
  repeat' first
    | (with_reducible assumption)
    | (extract_lets +onlyGivenNames x; first | (refine Frame.cut x ?_ (fun _ => ?_); rotate_left; clear_value x; revert x; intro _ _; rotate_left; subst x) | (subst x))
    | ((with_reducible refine Frame.withJob ?hw (fun _ _ _ => ?_) ?_); case hw => decide +kernel)
    | ((with_reducible apply Frame.step (Dev.begin'_frame ..)); case hw => decide +kernel)
    | ((with_reducible apply Frame.step (Dev.announce_frame ..)); case hw => decide +kernel)
    | ((with_reducible apply Frame.step (Dev.modFabric_frame ..)); case hw => decide +kernel)
    | ((with_reducible apply Frame.step (Dev.put_frame ..)); case hw => decide +kernel)
    | ((with_reducible apply Frame.step (Dev.lower_frame ..)); case hw => decide +kernel)
    | ((with_reducible apply Frame.step (Dev.complete_frame ..)); case hw => decide +kernel)
    | ((with_reducible apply Frame.step (Dev.showHold_frame ..)); case hw => decide +kernel)
    | split

theorem execLeaveDone_frame (dt : Nat) (s : State) :
    ∃ dev₁, execLeaveDone dt s = .next { s with dev := dev₁ } ∧ Frame 0x20000000000000000000000000000018010024010000000000000000000000000000000000000000000000000000000000000000000000000000000000000000000000000000000000000000000000000000000008a0000000000000000000000010003020503 s.dev dev₁ := by
  unfold execLeaveDone
  refine State.act_frame rfl (fun d h => ?_)
  repeat' first
    | (with_reducible assumption)
    | (extract_lets +onlyGivenNames x; first | (refine Frame.cut x ?_ (fun _ => ?_); rotate_left; clear_value x; revert x; intro _ _; rotate_left; subst x) | (clear_value x; revert x; intro _) | (subst x))
    | ((with_reducible refine Frame.foldl ?_ (fun _ _ _ => ?_)))
    | ((with_reducible refine Frame.when (fun _ _ => ?_) ?_))
    | ((with_reducible apply Frame.step (Dev.lower_frame ..)); case hw => decide +kernel)
    | ((with_reducible apply Frame.step (Dev.put_frame ..)); case hw => decide +kernel)
    | ((with_reducible apply Frame.step (Dev.modFabric_frame ..)); case hw => decide +kernel)
    | ((with_reducible apply Frame.step (Dev.complete_frame ..)); case hw => decide +kernel)
    | ((with_reducible apply Frame.step (Dev.recompute_frame ..)); case hw => decide +kernel)
    | ((with_reducible apply Frame.step (Dev.showHold_frame ..)); case hw => decide +kernel)
    | split
    | ((with_reducible refine Frame.fabOut_of ?hw ?_); case hw => rfl)

theorem execFabEvict_frame (dt : Nat) (job : Nat) (s : State) :
    ∃ dev₁, execFabEvict dt job s = .next { s with dev := dev₁ } ∧ Frame 0x2000000000000000000608000000002000000000000000200000000000000000000000000000000000000000000000000000000008000000000000000002000000000000000000000000000030c201400000000008a0001011000000000000000011026029503 s.dev dev₁ := by
  unfold execFabEvict
  refine State.act_frame rfl (fun d h => ?_)
  repeat' first
    | (with_reducible assumption)
    | (extract_lets +onlyGivenNames x; first | (clear_value x; revert x; intro _) | (subst x))
    | ((with_reducible refine Frame.withJob ?hw (fun _ _ _ => ?_) ?_); case hw => rfl)
    | ((with_reducible apply Frame.step (Dev.complete_frame ..)); case hw => rfl)
    | ((with_reducible apply Frame.step (Dev.memberLeft_frame ..)); case hw => rfl)
    | split

/-! ### Windows.lean -/

theorem execWinOwnWrite_frame (dt : Nat) (fn : Fin 8) (k : Fin 4) (value : Word) (s : State) :
    ∃ dev₁, execWinOwnWrite dt fn k value s = .next { s with dev := dev₁ } ∧ Frame 0x6080000000000000000000300000000002000000400008000000000200000000000000000020040000000000000000000000023c4000004000000000150800080100030c201408003e87c002000000400000000000000000efae029403 s.dev dev₁ := by
  unfold execWinOwnWrite
  refine State.act_frame rfl (fun d h => ?_)
  repeat' first
    | (with_reducible assumption)
    | ((with_reducible refine Frame.byFn ?hw (fun _ _ => ?_) ?_); case hw => rfl)
    | ((with_reducible apply Frame.step (Dev.writeOwn_frame ..)); case hw => rfl)

theorem execWinCfgWrite_frame (dt : Nat) (w : Fin 8) (fn : Fin 8) (win : Fin 16) (value : Word) (s : State) :
    ∃ dev₁, execWinCfgWrite dt w fn win value s = .next { s with dev := dev₁ } ∧ Frame 0x6080000000000000000000300000000002000000400008000000000200000000000000000020040000000000000000000000023c4000004000000000150800080100030c201408003e803c02000000400040000000000000efae029403 s.dev dev₁ := by
  unfold execWinCfgWrite
  refine State.act_frame rfl (fun d h => ?_)
  repeat' first
    | (with_reducible assumption)
    | ((with_reducible refine Frame.ownWrite ?hw (fun _ _ => ?_) ?_); case hw => decide +kernel)
    | ((with_reducible apply Frame.step (Dev.writeWindow_frame ..)); case hw => decide +kernel)

theorem execWinStageWrite_frame (dt : Nat) (fn : Fin 8) (value : Word) (s : State) :
    ∃ dev₁, execWinStageWrite dt fn value s = .next { s with dev := dev₁ } ∧ Frame 0x6080000000000000000000300000000002000000400008000000000200000000000000000020040000000000000000000000023c4000004000000000150800080100030c201408003e980002000000400000000000000000efae029403 s.dev dev₁ := by
  unfold execWinStageWrite
  refine State.act_frame rfl (fun d h => ?_)
  repeat' first
    | (with_reducible assumption)
    | ((with_reducible refine Frame.byFn ?hw (fun _ _ => ?_) ?_); case hw => rfl)
    | ((with_reducible apply Frame.step (Dev.writeStage_frame ..)); case hw => rfl)

theorem execMoverStart_frame (dt : Nat) (s : State) :
    ∃ dev₁, execMoverStart dt s = .next { s with dev := dev₁ } ∧ Frame 0x6080000000000000000000300000000002000000400008000000000200000000000000000020040000000000000000000000023c4000004000000000150800080100030c2014100036800002000000400000000000000000efae029d03 s.dev dev₁ := by
  unfold execMoverStart
  refine State.act_frame rfl (fun d h => ?_)
  repeat' first
    | (with_reducible assumption)
    | ((with_reducible refine Frame.when (fun _ _ => ?_) ?_))
    | ((with_reducible apply Frame.step (Dev.setMover_frame ..)); case hw => rfl)
    | ((with_reducible apply Frame.step (Dev.refuseRead_frame ..)); case hw => rfl)
    | split

/-! ### Rings.lean -/

theorem execSqEnable_frame (dt : Nat) (w : Fin 8) (fn : Fin 8) (r : Fin 64) (value : Word) (s : State) :
    ∃ dev₁, execSqEnable dt w fn r value s = .next { s with dev := dev₁ } ∧ Frame 0x1000080000060078000000400000000000000000000c03 s.dev dev₁ := by
  unfold execSqEnable
  refine State.act_frame rfl (fun d h => ?_)
  repeat' first
    | (with_reducible assumption)
    | ((with_reducible refine Frame.ownWrite ?hw (fun _ _ => ?_) ?_); case hw => rfl)
    | ((with_reducible apply Frame.step (Dev.writeSqCfg_frame ..)); case hw => rfl)

theorem execSqDisable_frame (dt : Nat) (w : Fin 8) (fn : Fin 8) (r : Fin 64) (s : State) :
    ∃ dev₁, execSqDisable dt w fn r s = .next { s with dev := dev₁ } ∧ Frame 0x1000080000060078000000400000000000000000000c03 s.dev dev₁ := by
  unfold execSqDisable
  refine State.act_frame rfl (fun d h => ?_)
  repeat' first
    | (with_reducible assumption)
    | ((with_reducible refine Frame.ownWrite ?hw (fun _ _ => ?_) ?_); case hw => rfl)
    | ((with_reducible apply Frame.step (Dev.writeSqCfg_frame ..)); case hw => rfl)

theorem execCqEnable_frame (dt : Nat) (w : Fin 8) (fn : Fin 8) (c : Fin 16) (value : Word) (s : State) :
    ∃ dev₁, execCqEnable dt w fn c value s = .next { s with dev := dev₁ } ∧ Frame 0x800000c0600000000400000000000000000000403 s.dev dev₁ := by
  unfold execCqEnable
  refine State.act_frame rfl (fun d h => ?_)
  repeat' first
    | (with_reducible assumption)
    | ((with_reducible refine Frame.ownWrite ?hw (fun _ _ => ?_) ?_); case hw => rfl)
    | ((with_reducible apply Frame.step (Dev.writeCqCfg_frame ..)); case hw => rfl)

theorem execCqDisable_frame (dt : Nat) (w : Fin 8) (fn : Fin 8) (c : Fin 16) (s : State) :
    ∃ dev₁, execCqDisable dt w fn c s = .next { s with dev := dev₁ } ∧ Frame 0x800000c0600000000400000000000000000000403 s.dev dev₁ := by
  unfold execCqDisable
  refine State.act_frame rfl (fun d h => ?_)
  repeat' first
    | (with_reducible assumption)
    | ((with_reducible refine Frame.ownWrite ?hw (fun _ _ => ?_) ?_); case hw => rfl)
    | ((with_reducible apply Frame.step (Dev.writeCqCfg_frame ..)); case hw => rfl)

theorem execEvqEnable_frame (dt : Nat) (w : Fin 8) (fn : Fin 8) (value : Word) (s : State) :
    ∃ dev₁, execEvqEnable dt w fn value s = .next { s with dev := dev₁ } ∧ Frame 0x13000000080000000000000000400000000000000000000403 s.dev dev₁ := by
  unfold execEvqEnable
  refine State.act_frame rfl (fun d h => ?_)
  repeat' first
    | (with_reducible assumption)
    | ((with_reducible refine Frame.ownWrite ?hw (fun _ _ => ?_) ?_); case hw => rfl)
    | ((with_reducible apply Frame.step (Dev.writeEvqCfg_frame ..)); case hw => rfl)

theorem execDbBaseWrite_frame (dt : Nat) (w : Fin 8) (fn : Fin 8) (hi : Bool) (value : Word) (s : State) :
    ∃ dev₁, execDbBaseWrite dt w fn hi value s = .next { s with dev := dev₁ } ∧ Frame 0x80000041800000000400000000000000000000003 s.dev dev₁ := by
  unfold execDbBaseWrite
  refine State.act_frame rfl (fun d h => ?_)
  repeat' first
    | (with_reducible assumption)
    | ((with_reducible refine Frame.ownWrite ?hw (fun _ _ => ?_) ?_); case hw => rfl)
    | ((with_reducible apply Frame.step (Dev.writeDbBase_frame ..)); case hw => rfl)

theorem execPollEnable_frame (dt : Nat) (w : Fin 8) (fn : Fin 8) (value : Word) (s : State) :
    ∃ dev₁, execPollEnable dt w fn value s = .next { s with dev := dev₁ } ∧ Frame 0x8000006e000000000400000000000000000000403 s.dev dev₁ := by
  unfold execPollEnable
  refine State.act_frame rfl (fun d h => ?_)
  repeat' first
    | (with_reducible assumption)
    | ((with_reducible refine Frame.ownWrite ?hw (fun _ _ => ?_) ?_); case hw => rfl)
    | ((with_reducible apply Frame.step (Dev.writePoll_frame ..)); case hw => rfl)

theorem execDoorbellPoll_frame (dt : Nat) (fn : Fin 8) (s : State) :
    ∃ dev₁, execDoorbellPoll dt fn s = .next { s with dev := dev₁ } ∧ Frame 0x6080000000000000000000300000000002000000400008000000000200000000000000000020040000000000000000000000023c4000004000000000150800080100030c2014000036800003000000400000000000000000efae429413 s.dev dev₁ := by
  unfold execDoorbellPoll
  refine State.act_frame rfl (fun d h => ?_)
  repeat' first
    | (with_reducible assumption)
    | (extract_lets +onlyGivenNames x; first | (refine Frame.cut x ?_ (fun _ => ?_); rotate_left; clear_value x; revert x; intro _ _; rotate_left; subst x) | (clear_value x; revert x; intro _) | (subst x))
    | ((with_reducible refine Frame.when (fun _ _ => ?_) ?_))
    | ((with_reducible apply Frame.step (Dev.freezeFn_frame ..)); case hw => decide +kernel)
    | ((with_reducible apply Frame.step (Dev.hostPut_frame ..)); case hw => decide +kernel)
    | ((with_reducible apply Frame.step (Dev.flushHeld_frame ..)); case hw => decide +kernel)
    | ((with_reducible apply Frame.step (Dev.put_frame ..)); case hw => decide +kernel)
    | ((with_reducible apply Frame.step (Dev.setFn_frame ..)); case hw => decide +kernel)
    | split

theorem execPollFailTimeout_frame (dt : Nat) (fn : Fin 8) (s : State) :
    ∃ dev₁, execPollFailTimeout dt fn s = .next { s with dev := dev₁ } ∧ Frame 0x19c0200000038000000080060880001008040000000000000000001de0000004001080000000807800000000000000000000400000000000000f8000040023c400000c4000000001108000c0300030c201410003680008a000000410600000000000002e3af639d33 s.dev dev₁ := by
  unfold execPollFailTimeout
  refine State.act_frame rfl (fun d h => ?_)
  repeat' first
    | (with_reducible assumption)
    | (extract_lets +onlyGivenNames x; first | (clear_value x; revert x; intro _) | (subst x))
    | ((with_reducible refine Frame.when (fun _ _ => ?_) ?_))
    | ((with_reducible apply Frame.step (Dev.unitFault_frame ..)); case hw => rfl)
    | ((with_reducible apply Frame.step (Dev.setFn_frame ..)); case hw => rfl)

theorem execDescriptorFetch_frame (dt : Nat) (fn : Fin 8) (head : Gran) (s : State) :
    ∃ dev₁, execDescriptorFetch dt fn head s = .next { s with dev := dev₁ } ∧ Frame 0x20000000000000000006080000000000000000000300000000002000000400008000000000200000000000000000020040000000000000000000000023c4000004000000000150800080100030c20140000368000ca004000400000000000000000efae029703 s.dev dev₁ := by
  unfold execDescriptorFetch
  refine State.act_frame rfl (fun d h => ?_)
  repeat' first
    | (with_reducible assumption)
    | (extract_lets +onlyGivenNames x; first | (refine Frame.cut x ?_ (fun _ => ?_); rotate_left; clear_value x; revert x; intro _ _; rotate_left; subst x) | (clear_value x; revert x; intro _) | (subst x))
    | ((with_reducible refine Frame.when (fun _ _ => ?_) ?_))
    | ((with_reducible apply Frame.step (Dev.freezeFn_frame ..)); case hw => decide +kernel)
    | ((with_reducible apply Frame.step (Dev.complete_frame ..)); case hw => decide +kernel)
    | ((with_reducible apply Frame.step (Dev.showFlight_frame ..)); case hw => decide +kernel)
    | ((with_reducible apply Frame.step (Dev.raise_frame ..)); case hw => decide +kernel)
    | ((with_reducible apply Frame.step (Dev.lower_frame ..)); case hw => decide +kernel)
    | ((with_reducible apply Frame.step (Dev.setSq_frame ..)); case hw => decide +kernel)
    | ((with_reducible apply Frame.step (Dev.noteTurn_frame ..)); case hw => decide +kernel)
    | split
    | refine Frame.jobs_nextJob_of rfl rfl ?_

theorem execSlotsStaged_frame (dt : Nat) (fn : Fin 8) (r : Fin 64) (slots : List Gran) (s : State) :
    ∃ dev₁, execSlotsStaged dt fn r slots s = .next { s with dev := dev₁ } ∧ Frame 0x6080000000000000000000300000000002000000400008000000000200000000000000000020040000000000000000000000023c4000004000000000150800080100030c2014100036800002000000400000000000000000efae429f13 s.dev dev₁ := by
  unfold execSlotsStaged
  refine State.act_frame rfl (fun d h => ?_)
  repeat' first
    | (with_reducible assumption)
    | (extract_lets +onlyGivenNames x; first | (refine Frame.cut x ?_ (fun _ => ?_); rotate_left; clear_value x; revert x; intro _ _; rotate_left; subst x) | (clear_value x; revert x; intro _))
    | ((with_reducible refine Frame.when (fun _ _ => ?_) ?_))
    | ((with_reducible apply Frame.step (Dev.freeMover_frame ..)); case hw => rfl)
    | ((with_reducible apply Frame.step (Dev.setSq_frame ..)); case hw => rfl)
    | ((with_reducible apply Frame.step (Dev.parseSlots_frame ..)); case hw => rfl)
    | ((with_reducible apply Frame.step (Dev.dbPut_frame ..)); case hw => rfl)
    | ((with_reducible apply Frame.step (Dev.showFlight_frame ..)); case hw => rfl)
    | split

theorem execPayloadStaged_frame (dt : Nat) (job : Nat) (data : List Gran) (s : State) :
    ∃ dev₁, execPayloadStaged dt job data s = .next { s with dev := dev₁ } ∧ Frame 0x1000000000000000000000000000000000000000000903 s.dev dev₁ := by
  unfold execPayloadStaged
  refine State.act_frame rfl (fun d h => ?_)
  repeat' first
    | (with_reducible assumption)
    | (extract_lets +onlyGivenNames x; first | (clear_value x; revert x; intro _) | (subst x))
    | ((with_reducible refine Frame.when (fun _ _ => ?_) ?_))
    | ((with_reducible apply Frame.step (Dev.modJob_frame ..)); case hw => rfl)
    | ((with_reducible apply Frame.step (Dev.freeMover_frame ..)); case hw => rfl)
    | split

theorem execDescriptorDispatch_frame (dt : Nat) (job : Nat) (s : State) :
    ∃ dev₁, execDescriptorDispatch dt job s = .next { s with dev := dev₁ } ∧ Frame 0x20000000000000000000000000000000000000000000000000000000000000000000000000000000000000000000000000000000000000000000000000000000000000000000000000000000000000000000000008a0000000000000000000000000000020503 s.dev dev₁ := by
  unfold execDescriptorDispatch
  refine State.act_frame rfl (fun d h => ?_)
  repeat' first
    | (with_reducible assumption)
    | (extract_lets +onlyGivenNames x; first | (clear_value x; revert x; intro _) | (subst x))
    | ((with_reducible refine Frame.when (fun _ _ => ?_) ?_))
    | ((with_reducible apply Frame.step (Dev.complete_frame ..)); case hw => rfl)
    | ((with_reducible apply Frame.step (Dev.modJob_frame ..)); case hw => rfl)
    | ((with_reducible apply Frame.step (Dev.takePlace_frame ..)); case hw => rfl)
    | split

theorem execDescriptorTake_frame (dt : Nat) (job : Nat) (s : State) :
    ∃ dev₁, execDescriptorTake dt job s = .next { s with dev := dev₁ } ∧ Frame 0x20000000000000000000000000000000000000000000000000000000000000000000000000000000000000000000000000000000000000000000000000000000000000000000000000000000000000000000000008a0000000000000000000000000000020503 s.dev dev₁ := by
  unfold execDescriptorTake
  refine State.act_frame rfl (fun d h => ?_)
  repeat' first
    | (with_reducible assumption)
    | (extract_lets +onlyGivenNames x; first | (clear_value x; revert x; intro _) | (subst x))
    | ((with_reducible refine Frame.when (fun _ _ => ?_) ?_))
    | ((with_reducible apply Frame.step (Dev.complete_frame ..)); case hw => rfl)
    | ((with_reducible apply Frame.step (Dev.modJob_frame ..)); case hw => rfl)
    | split

theorem execCompletionWrite_frame (dt : Nat) (fn : Fin 8) (s : State) :
    ∃ dev₁, execCompletionWrite dt fn s = .next { s with dev := dev₁ } ∧ Frame 0x6080000000000000000000300000000002000000400008000000000200000000000000000020040000000000000000000000023c4000004000000000150800080100030c201400003680008a000000400000000000000000efae429413 s.dev dev₁ := by
  unfold execCompletionWrite
  refine State.act_frame rfl (fun d h => ?_)
  repeat' first
    | (with_reducible assumption)
    | (extract_lets +onlyGivenNames x; first | (refine Frame.cut x ?_ (fun _ => ?_); rotate_left; clear_value x; revert x; intro _ _; rotate_left; subst x) | (clear_value x; revert x; intro _) | (subst x))
    | ((with_reducible refine Frame.when (fun _ _ => ?_) ?_))
    | ((with_reducible apply Frame.step (Dev.flushHeld_frame ..)); case hw => rfl)
    | ((with_reducible apply Frame.step (Dev.showHoldCq_frame ..)); case hw => rfl)
    | ((with_reducible apply Frame.step (Dev.freezeFn_frame ..)); case hw => rfl)
    | ((with_reducible apply Frame.step (Dev.setFn_frame ..)); case hw => rfl)
    | ((with_reducible apply Frame.step (Dev.hostPut_frame ..)); case hw => rfl)
    | ((with_reducible apply Frame.step (Dev.dbPut_frame ..)); case hw => rfl)
    | ((with_reducible apply Frame.step (Dev.setCq_frame ..)); case hw => rfl)
    | ((with_reducible apply Frame.step (Dev.freePlace_frame ..)); case hw => rfl)
    | ((with_reducible apply Frame.step (Dev.showFlight_frame ..)); case hw => rfl)
    | ((with_reducible apply Frame.step (Dev.occur_frame ..)); case hw => rfl)
    | split

theorem execBusMasterDisable_frame (dt : Nat) (fn : Fin 8) (s : State) :
    ∃ dev₁, execBusMasterDisable dt fn s = .next { s with dev := dev₁ } ∧ Frame 0x403 s.dev dev₁ := by
  unfold execBusMasterDisable
  refine State.act_frame rfl (fun d h => ?_)
  repeat' first
    | (with_reducible assumption)
    | (extract_lets +onlyGivenNames x; clear_value x; revert x; intro _)
    | ((with_reducible apply Frame.step (Dev.setFn_frame ..)); case hw => rfl)

theorem execBusMasterEnable_frame (dt : Nat) (fn : Fin 8) (s : State) :
    ∃ dev₁, execBusMasterEnable dt fn s = .next { s with dev := dev₁ } ∧ Frame 0x1000000000000000000800000000000000000000000000000000000000000000000000000000000000000000000000000000000000000000002000000000000000000000000000000000000100000000001000368000000000004106000000000000000000430c13 s.dev dev₁ := by
  unfold execBusMasterEnable
  refine State.act_frame rfl (fun d h => ?_)
  repeat' first
    | (with_reducible assumption)
    | (extract_lets +onlyGivenNames x; first | (refine Frame.cut x ?_ (fun _ => ?_); rotate_left; clear_value x; revert x; intro _ _; rotate_left; subst x) | (clear_value x; revert x; intro _) | (subst x))
    | ((with_reducible refine Frame.when (fun _ _ => ?_) ?_))
    | ((with_reducible apply Frame.step (Dev.setFn_frame ..)); case hw => rfl)
    | ((with_reducible apply Frame.step (Dev.flushHeld_frame ..)); case hw => rfl)
    | ((with_reducible apply Frame.step (Dev.setService_frame ..)); case hw => rfl)
    | split
    | ((with_reducible refine Frame.pcie_of ?hw ?_); case hw => rfl)

theorem execVfDisable_frame (dt : Nat) (s : State) :
    ∃ dev₁, execVfDisable dt s = .next { s with dev := dev₁ } ∧ Frame 0x6080000000000000000000300000000002000000400008000000000200000000000000000020040000000000000000000000023c4000004000000000150800080100030c2014000036800002000000400000000000000000efae429403 s.dev dev₁ := by
  unfold execVfDisable
  refine State.act_frame rfl (fun d h => ?_)
  repeat' first
    | (with_reducible assumption)
    | ((with_reducible apply Frame.step (Dev.vfDisable_frame ..)); case hw => rfl)

/-! ### Interrupts.lean -/

theorem execVectorEntry_frame (dt : Nat) (fn : Fin 8) (s : State) :
    ∃ dev₁, execVectorEntry dt fn s = .next { s with dev := dev₁ } ∧ Frame 0x6080000000000000000000300000000002000000400008000000000200000000000000000020040000000000000000000000023c4000004000000000150800080100033c2c1c000036800002000000400000000000000000efae42b413 s.dev dev₁ := by
  unfold execVectorEntry
  refine State.act_frame rfl (fun d h => ?_)
  repeat' first
    | (with_reducible assumption)
    | (extract_lets +onlyGivenNames x; first | (refine Frame.cut x ?_ (fun _ => ?_); rotate_left; clear_value x; revert x; intro _ _; rotate_left; subst x) | (clear_value x; revert x; intro _) | (subst x))
    | ((with_reducible refine Frame.foldl ?_ (fun _ _ _ => ?_)))
    | ((with_reducible refine Frame.when (fun _ _ => ?_) ?_))
    | ((with_reducible apply Frame.step (Dev.flushHeld_frame ..)); case hw => decide +kernel)
    | ((with_reducible apply Frame.step (Dev.setVec_frame ..)); case hw => decide +kernel)
    | ((with_reducible apply Frame.step (Dev.lower_frame ..)); case hw => decide +kernel)
    | ((with_reducible apply Frame.step (Dev.raise_frame ..)); case hw => decide +kernel)
    | ((with_reducible apply Frame.step (Dev.freezeFn_frame ..)); case hw => decide +kernel)
    | ((with_reducible apply Frame.step (Dev.enterVec_frame ..)); case hw => decide +kernel)
    | split

theorem execModerationExpire_frame (dt : Nat) (fn : Fin 8) (v : Fin 64) (s : State) :
    ∃ dev₁, execModerationExpire dt fn v s = .next { s with dev := dev₁ } ∧ Frame 0xc00000000000000000000000000000000000000000000000003 s.dev dev₁ := by
  unfold execModerationExpire
  refine State.act_frame rfl (fun d h => ?_)
  repeat' first
    | (with_reducible assumption)
    | ((with_reducible apply Frame.step (Dev.refreshVec_frame ..)); case hw => rfl)

theorem execIntHoldWrite_frame (dt : Nat) (fn : Fin 8) (hold : Bool) (s : State) :
    ∃ dev₁, execIntHoldWrite dt fn hold s = .next { s with dev := dev₁ } ∧ Frame 0x200000080000000000000000000000000000000000000003 s.dev dev₁ := by
  unfold execIntHoldWrite
  refine State.act_frame rfl (fun d h => ?_)
  repeat' first
    | (with_reducible assumption)
    | ((with_reducible refine Frame.byFn ?hw (fun _ _ => ?_) ?_); case hw => decide +kernel)
    | ((with_reducible apply Frame.step (Dev.putB_frame ..)); case hw => decide +kernel)

theorem execMsixUnmask_frame (dt : Nat) (fn : Fin 8) (v : Option (Fin 64)) (s : State) :
    ∃ dev₁, execMsixUnmask dt fn v s = .next { s with dev := dev₁ } ∧ Frame 0x80000000000000000000000000000000000006003 s.dev dev₁ := by
  unfold execMsixUnmask
  refine State.act_frame rfl (fun d h => ?_)
  repeat' first
    | (with_reducible assumption)
    | (extract_lets +onlyGivenNames x; first | (clear_value x; revert x; intro _) | (subst x))
    | ((with_reducible refine Frame.byFn ?hw (fun _ _ => ?_) ?_); case hw => rfl)
    | ((with_reducible apply Frame.step (Dev.setVec_frame ..)); case hw => rfl)
    | split
    | ((with_reducible refine Frame.fnMasked_of ?hw ?_); case hw => rfl)

theorem execIrqEvent_frame (dt : Nat) (dev : Fin 1024) (payload : List Gran) (s : State) :
    ∃ dev₁, execIrqEvent dt dev payload s = .next { s with dev := dev₁ } ∧ Frame 0x608000000000000000000000000000000000000000000000000000000000000000000000000000000000008000000000000000002000004400000000000000000000030c2014078000000002000000000000000000000000002e009003 s.dev dev₁ := by
  unfold execIrqEvent
  refine State.act_frame rfl (fun d h => ?_)
  repeat' first
    | (with_reducible assumption)
    | (extract_lets +onlyGivenNames x; first | (refine Frame.cut x ?_ (fun _ => ?_); rotate_left; clear_value x; revert x; intro _ _; rotate_left; subst x) | (clear_value x; revert x; intro _) | (subst x))
    | ((with_reducible refine Frame.granting ?hw (fun _ _ => ?_) ?_); case hw => rfl)
    | ((with_reducible apply Frame.step (Dev.setSrc_frame ..)); case hw => rfl)
    | ((with_reducible apply Frame.step (Dev.occur_frame ..)); case hw => rfl)
    | split

theorem execPollSnapshot_frame (dt : Nat) (fn : Fin 8) (page : Option (List Word)) (s : State) :
    ∃ dev₁, execPollSnapshot dt fn page s = .next { s with dev := dev₁ } ∧ Frame 0x6080000000000000000000300000000002000000400008000000000200000000000000000020040000000000000000000000023c4000004000000000150800080100031c641c00003680003a000000400000000000000000efae02b403 s.dev dev₁ := by
  unfold execPollSnapshot
  refine State.act_frame rfl (fun d h => ?_)
  repeat' first
    | (with_reducible assumption)
    | (extract_lets +onlyGivenNames x; first | (refine Frame.cut x ?_ (fun _ => ?_); rotate_left; clear_value x; revert x; intro _ _; rotate_left; subst x) | (clear_value x; revert x; intro _) | (subst x))
    | ((with_reducible refine Frame.when (fun _ _ => ?_) ?_))
    | ((with_reducible apply Frame.step (Dev.setFn_frame ..)); case hw => decide +kernel)
    | ((with_reducible apply Frame.step (Dev.record_frame ..)); case hw => decide +kernel)
    | ((with_reducible apply Frame.step (Dev.raise_frame ..)); case hw => decide +kernel)
    | ((with_reducible apply Frame.step (Dev.takePage_frame ..)); case hw => decide +kernel)
    | split

/-! ### Recorder.lean -/

theorem execLogRecordWrite_frame (dt : Nat) (ok : Bool) (s : State) :
    ∃ dev₁, execLogRecordWrite dt ok s = .next { s with dev := dev₁ } ∧ Frame 0x200000000000000000063d800000000000000000000000000000000000000000000000000000000000000000000000000000000000000000000000000000000000000000000000000000000030c201400000000008a000000000000000000000000000602958b s.dev dev₁ := by
  unfold execLogRecordWrite
  refine State.act_frame rfl (fun d h => ?_)
  repeat' first
    | (with_reducible assumption)
    | ((with_reducible apply Frame.step (Dev.settleClear_frame ..)); case hw => rfl)
    | ((with_reducible refine Frame.when (fun _ _ => ?_) ?_))
    | ((with_reducible apply Frame.step (Dev.showLog_frame ..)); case hw => rfl)
    | ((with_reducible apply Frame.step (Dev.writeFirst_frame ..)); case hw => rfl)

theorem execOpsecSave_frame (dt : Nat) (s : State) :
    ∃ dev₁, execOpsecSave dt s = .next { s with dev := dev₁ } ∧ Frame 0x8083 s.dev dev₁ := by
  unfold execOpsecSave
  refine State.act_frame rfl (fun d h => ?_)
  repeat' first
    | (with_reducible assumption)
    | (extract_lets +onlyGivenNames x; clear_value x; revert x; intro _)
    | split
    | refine Frame.mram_recorder_of rfl rfl ?_

theorem execLogScanDone_frame (dt : Nat) (s : State) :
    ∃ dev₁, execLogScanDone dt s = .next { s with dev := dev₁ } ∧ Frame 0x63f800000000000000000000000000000000000000000000000000000000000000000000000000000000000000000000000000000000000000000000000000000000030c2014000000000002000000000000000000000000000600908b s.dev dev₁ := by
  unfold execLogScanDone
  refine State.act_frame rfl (fun d h => ?_)
  repeat' first
    | (with_reducible assumption)
    | (extract_lets +onlyGivenNames x; first | (refine Frame.cut x ?_ (fun _ => ?_); rotate_left; clear_value x; revert x; intro _ _; rotate_left; subst x) | (subst x))
    | ((with_reducible refine Frame.when (fun _ _ => ?_) ?_))
    | ((with_reducible apply Frame.step (Dev.lower_frame ..)); case hw => decide +kernel)
    | ((with_reducible apply Frame.step (Dev.showLog_frame ..)); case hw => decide +kernel)
    | ((with_reducible apply Frame.step (Dev.degrade_frame ..)); case hw => decide +kernel)
    | ((with_reducible apply Frame.step (Dev.writeFirst_frame ..)); case hw => decide +kernel)
    | split

theorem execPeerLog_frame (dt : Nat) (dev : Fin 1024) (payload : List Gran) (s : State) :
    ∃ dev₁, execPeerLog dt dev payload s = .next { s with dev := dev₁ } ∧ Frame 0x1e3d000000000000000000000000000000000000000000000000000000000000000000000000000000000008000000000000000002000004400000000000000000000030c2014078000000002000000000000000000000000002e009083 s.dev dev₁ := by
  unfold execPeerLog
  refine State.act_frame rfl (fun d h => ?_)
  repeat' first
    | (with_reducible assumption)
    | (extract_lets +onlyGivenNames x; first | (refine Frame.cut x ?_ (fun _ => ?_); rotate_left; clear_value x; revert x; intro _ _; rotate_left; subst x) | (clear_value x; revert x; intro _) | (subst x))
    | ((with_reducible refine Frame.granting ?hw (fun _ _ => ?_) ?_); case hw => decide +kernel)
    | ((with_reducible apply Frame.step (Dev.queueRec_frame ..)); case hw => decide +kernel)
    | ((with_reducible apply Frame.step (Dev.showLog_frame ..)); case hw => decide +kernel)
    | ((with_reducible apply Frame.step (Dev.bump_frame ..)); case hw => decide +kernel)
    | ((with_reducible apply Frame.step (Dev.storeRec_frame ..)); case hw => decide +kernel)
    | ((with_reducible apply Frame.step (Dev.countDrop_frame ..)); case hw => decide +kernel)
    | split

theorem execRecRead_frame (dt : Nat) (job : Nat) (s : State) :
    ∃ dev₁, execRecRead dt job s = .next { s with dev := dev₁ } ∧ Frame 0x20000000000000000000000000000000000000000000000000000000000000000000000000000000000000000000000000000000000000000000000000000000000000000000000000000000000000000003680008a0000004000000000000000000000420513 s.dev dev₁ := by
  unfold execRecRead
  refine State.act_frame rfl (fun d h => ?_)
  repeat' first
    | (with_reducible assumption)
    | ((with_reducible refine Frame.withJob ?hw (fun _ _ _ => ?_) ?_); case hw => rfl)
    | ((with_reducible apply Frame.step (Dev.saveTo_frame ..)); case hw => rfl)

theorem execRecClear_frame (dt : Nat) (job : Nat) (s : State) :
    ∃ dev₁, execRecClear dt job s = .next { s with dev := dev₁ } ∧ Frame 0x200000000000000000063d000000000000000000000000000000000000000000000000000000000000000000000000000000000000000000000000000000000000000000000000000000000030c201400000000008a0000000000000000000000000006029583 s.dev dev₁ := by
  unfold execRecClear
  refine State.act_frame rfl (fun d h => ?_)
  repeat' first
    | (with_reducible assumption)
    | (extract_lets +onlyGivenNames x; first | (refine Frame.cut x.1 ?_ (fun _ => ?_); rotate_left; clear_value x; revert x; intro _ _; rotate_left; subst x) | (clear_value x; revert x; intro _) | (subst x))
    | ((with_reducible refine Frame.withJob ?hw (fun _ _ _ => ?_) ?_); case hw => rfl)
    | ((with_reducible apply Frame.step (Dev.clearRecs_frame ..)); case hw => rfl)
    | ((with_reducible apply Frame.step (Dev.settleClear_frame ..)); case hw => rfl)
    | ((with_reducible apply Frame.step (Dev.record_frame ..)); case hw => rfl)
    | ((with_reducible apply Frame.step (Dev.begin'_frame ..)); case hw => rfl)

/-! ### Boot.lean -/

theorem execPowerOnReset_frame (dt : Nat) (s : State) :
    ∃ dev₁, execPowerOnReset dt s = .next { s with dev := dev₁ } ∧ Frame 0x1ffffffffffffffffffffffffffffffffffffffffffffffffffffffffffffffffffffffffffffffffffffffffffffffffffffffffffffffffffffffffffffffffffffffffffffffffffffffffffffffffffffffffffffffffffffffffffffffff000003ffffffffff s.dev dev₁ := by
  unfold execPowerOnReset
  refine State.act_frame rfl (fun d h => ?_)
  repeat' first
    | (with_reducible assumption)
    | ((with_reducible apply Frame.step (Dev.wholeReset_frame ..)); case hw => rfl)

theorem execPinReset_frame (dt : Nat) (s : State) :
    ∃ dev₁, execPinReset dt s = .next { s with dev := dev₁ } ∧ Frame 0x1ffffffffffffffffffffffffffffffffffffffffffffffffffffffffffffffffffffffffffffffffffffffffffffffffffffffffffffffffffffffffffffffffffffffffffffffffffffffffffffffffffffffffffffffffffffffffffffffff000003ffffffffff s.dev dev₁ := by
  unfold execPinReset
  refine State.act_frame rfl (fun d h => ?_)
  repeat' first
    | (with_reducible assumption)
    | ((with_reducible apply Frame.step (Dev.wholeReset_frame ..)); case hw => rfl)

theorem execDeviceReset_frame (dt : Nat) (s : State) :
    ∃ dev₁, execDeviceReset dt s = .next { s with dev := dev₁ } ∧ Frame 0x1ffffffffffffffffffffffffffffffffffffffffffffffffffffffffffffffffffffffffffffffffffffffffffffffffffffffffffffffffffffffffffffffffffffffffffffffffffffffffffffffffffffffffffffffffffffffffffffffff000003ffffffffff s.dev dev₁ := by
  unfold execDeviceReset
  refine State.act_frame rfl (fun d h => ?_)
  repeat' first
    | (with_reducible assumption)
    | ((with_reducible refine Frame.when (fun _ _ => ?_) ?_))
    | ((with_reducible apply Frame.step (Dev.wholeReset_frame ..)); case hw => rfl)

theorem execPerstAssert_frame (dt : Nat) (s : State) :
    ∃ dev₁, execPerstAssert dt s = .next { s with dev := dev₁ } ∧ Frame 0x100200000000000000080000000000000000000000000000000000000000000000000000000000000000000000000000000000000000000000200000000000000000000000000000000000010003ffffffd000000000fffffe00010600000000000000000041fd07 s.dev dev₁ := by
  unfold execPerstAssert
  refine State.act_frame rfl (fun d h => ?_)
  repeat' first
    | (with_reducible assumption)
    | (extract_lets +onlyGivenNames x; first | (refine Frame.cut x ?_ (fun _ => ?_); rotate_left; clear_value x; revert x; intro _ _; rotate_left; subst x) | (clear_value x; revert x; intro _) | (subst x))
    | ((with_reducible refine Frame.foldl ?_ (fun _ _ _ => ?_)))
    | ((with_reducible apply Frame.step (Dev.setService_frame ..)); case hw => rfl)
    | ((with_reducible apply Frame.step (Dev.resetHost_frame ..)); case hw => rfl)
    | ((with_reducible apply Frame.step (Dev.setFn_frame ..)); case hw => rfl)
    | ((with_reducible apply Frame.step (Dev.resetSources_frame ..)); case hw => rfl)
    | split
    | refine Frame.fnMasked_pcie_of rfl rfl ?_

theorem execPerstRelease_frame (dt : Nat) (s : State) :
    ∃ dev₁, execPerstRelease dt s = .next { s with dev := dev₁ } ∧ Frame 0x400003 s.dev dev₁ := by
  unfold execPerstRelease
  refine State.act_frame rfl (fun d h => ?_)
  repeat' first
    | (with_reducible assumption)
    | (extract_lets +onlyGivenNames x; clear_value x; revert x; intro _)
    | split
    | ((with_reducible refine Frame.pcie_of ?hw ?_); case hw => rfl)

theorem execFunctionLevelReset_frame (dt : Nat) (fn : Fin 8) (s : State) :
    ∃ dev₁, execFunctionLevelReset dt fn s = .next { s with dev := dev₁ } ∧ Frame 0x20000000000000000006080000000000000000000300000000002000000400008000000000200000000000000000020040000000000000000000000023c400000400000000015080008010003ffffffc000378000fffffe00400000000000000000efae42b507 s.dev dev₁ := by
  unfold execFunctionLevelReset
  refine State.act_frame rfl (fun d h => ?_)
  repeat' first
    | (with_reducible assumption)
    | (extract_lets +onlyGivenNames x; first | (refine Frame.cut x ?_ (fun _ => ?_); rotate_left; clear_value x; revert x; intro _ _; rotate_left; subst x) | (clear_value x; revert x; intro _) | (subst x))
    | ((with_reducible refine Frame.foldl ?_ (fun _ _ _ => ?_)))
    | ((with_reducible apply Frame.step (Dev.flrOne_frame ..)); case hw => rfl)
    | ((with_reducible apply Frame.step (Dev.setFn_frame ..)); case hw => rfl)
    | split
    | ((with_reducible refine Frame.pcie_of ?hw ?_); case hw => rfl)

theorem execResetRelease_frame (dt : Nat) (straps : BitVec 3) (cal : List (List Int)) (dowels : List Int) (dramOk : List Bool) (s : State) :
    ∃ dev₁, execResetRelease dt straps cal dowels dramOk s = .next { s with dev := dev₁ } ∧ Frame 0x1ffffffffffffffffffffffffffffffffffffffffffffffffffffffffffffffffffffffffffffffffffffffffffffffffffffffffffffffffffffffffffffffffffffffffffffffffffffffffffffffffffffffffffffffffffffffffffffffff000002e3bfe79d3b s.dev dev₁ := by
  unfold execResetRelease
  refine State.act_frame rfl (fun d h => ?_)
  repeat' first
    | (with_reducible assumption)
    | ((with_reducible refine Frame.when (fun _ _ => ?_) ?_))
    | ((with_reducible apply Frame.step (Dev.boot_frame ..)); case hw => rfl)

/-! ### Recovery.lean -/

theorem execUnitFault_frame (dt : Nat) (u : Fin 83) (cause : Nat) (s : State) :
    ∃ dev₁, execUnitFault dt u cause s = .next { s with dev := dev₁ } ∧ Frame 0x19c0200000038000000180060880001008040000000000000000001de0000004001080000000807800000000000000000000400000000000000f8000040023c400000c4000000001108000c0300030c201410003680008a000000410600000000000002e3af639d33 s.dev dev₁ := by
  unfold execUnitFault
  refine State.act_frame rfl (fun d h => ?_)
  repeat' first
    | (with_reducible assumption)
    | ((with_reducible refine Frame.when (fun _ _ => ?_) ?_))
    | ((with_reducible apply Frame.step (Dev.faultUnit_frame ..)); case hw => rfl)

theorem execUnitSelfTestDone_frame (dt : Nat) (u : Fin 83) (ok : Bool) (s : State) :
    ∃ dev₁, execUnitSelfTestDone dt u ok s = .next { s with dev := dev₁ } ∧ Frame 0x500200000020000000580060800000000040000000000000000000000000000000000000000002000000000000000000040000000100400000200000400000000000c400000000000000000100030c201410000000008a00000001060000000000000000ae279d03 s.dev dev₁ := by
  unfold execUnitSelfTestDone
  refine State.act_frame rfl (fun d h => ?_)
  repeat' first
    | (with_reducible assumption)
    | (extract_lets +onlyGivenNames x; first | (refine Frame.cut x ?_ (fun _ => ?_); rotate_left; clear_value x; revert x; intro _ _; rotate_left; subst x) | (clear_value x; revert x; intro _) | (subst x))
    | ((with_reducible refine Frame.when (fun _ _ => ?_) ?_))
    | ((with_reducible apply Frame.step (Dev.dramReturn_frame ..)); case hw => decide +kernel)
    | ((with_reducible apply Frame.step (Dev.setIsland_frame ..)); case hw => decide +kernel)
    | ((with_reducible apply Frame.step (Dev.passed_frame ..)); case hw => decide +kernel)
    | ((with_reducible apply Frame.step (Dev.record_frame ..)); case hw => decide +kernel)
    | ((with_reducible apply Frame.step (Dev.raise_frame ..)); case hw => decide +kernel)
    | split

theorem execFetchTimeout_frame (dt : Nat) (job : Nat) (s : State) :
    ∃ dev₁, execFetchTimeout dt job s = .next { s with dev := dev₁ } ∧ Frame 0x19c0280000038000000080060880001008040000000000000000001de0000004001080000000807800000000000000000000400000000000000f8000040023c400000c4000000001108000c0300030c201410003680008a000000410600000000000002e3af639d33 s.dev dev₁ := by
  unfold execFetchTimeout
  refine State.act_frame rfl (fun d h => ?_)
  repeat' first
    | (with_reducible assumption)
    | (extract_lets +onlyGivenNames x; first | (refine Frame.cut x ?_ (fun _ => ?_); rotate_left; clear_value x; revert x; intro _ _; rotate_left; subst x) | (subst x))
    | ((with_reducible apply Frame.step (Dev.showFetch_frame ..)); case hw => rfl)
    | ((with_reducible refine Frame.when (fun _ _ => ?_) ?_))
    | ((with_reducible apply Frame.step (Dev.unitFault_frame ..)); case hw => rfl)
    | ((with_reducible apply Frame.step (Dev.complete_frame ..)); case hw => rfl)
    | split

theorem execVeneerDeadlineTimeout_frame (dt : Nat) (t : Fin 16) (s : State) :
    ∃ dev₁, execVeneerDeadlineTimeout dt t s = .next { s with dev := dev₁ } ∧ Frame 0x19c0200000038000000080060880001008040000000000000000001de0000004001080000000807800000000000000000000400000000000000f8000040023c400000c4000000001108000c0300030c201410003680008a000000410600000000000002e3af639d33 s.dev dev₁ := by
  unfold execVeneerDeadlineTimeout
  refine State.act_frame rfl (fun d h => ?_)
  repeat' first
    | (with_reducible assumption)
    | ((with_reducible refine Frame.when (fun _ _ => ?_) ?_))
    | ((with_reducible apply Frame.step (Dev.unitFault_frame ..)); case hw => rfl)

theorem execPcieCompletionTimeout_frame (dt : Nat) (job : Nat) (s : State) :
    ∃ dev₁, execPcieCompletionTimeout dt job s = .next { s with dev := dev₁ } ∧ Frame 0x20000000000000000000000000000000000000000000000000000000000000000000000000000000000000000000000000000000000000000000000000000000000000000000000000000000000000010000000008a0000000000000000000000000000020d03 s.dev dev₁ := by
  unfold execPcieCompletionTimeout
  refine State.act_frame rfl (fun d h => ?_)
  repeat' first
    | (with_reducible assumption)
    | (extract_lets +onlyGivenNames x; first | (clear_value x; revert x; intro _) | (subst x))
    | ((with_reducible refine Frame.when (fun _ _ => ?_) ?_))
    | ((with_reducible apply Frame.step (Dev.complete_frame ..)); case hw => rfl)
    | ((with_reducible apply Frame.step (Dev.freeMover_frame ..)); case hw => rfl)
    | split

theorem execMgmtWatchdogExpire_frame (dt : Nat) (controller : Fin 2) (otherSilent : Bool) (s : State) :
    ∃ dev₁, execMgmtWatchdogExpire dt controller otherSilent s = .next { s with dev := dev₁ } ∧ Frame 0x19c0240000038000000080060880001008040000000000000000001de0000004001080000000807800000000000000000000400000000000000f8000040023c400000c4000000001108000c0300030c201410003680008a000000410600000000000002e3afe39d33 s.dev dev₁ := by
  unfold execMgmtWatchdogExpire
  refine State.act_frame rfl (fun d h => ?_)
  repeat' first
    | (with_reducible assumption)
    | (extract_lets +onlyGivenNames x; first | (refine Frame.cut x ?_ (fun _ => ?_); rotate_left; clear_value x; revert x; intro _ _; rotate_left; subst x) | (subst x))
    | ((with_reducible apply Frame.step (Dev.endUpdate_frame ..)); case hw => rfl)
    | ((with_reducible apply Frame.step (Dev.unitFault_frame ..)); case hw => rfl)
    | ((with_reducible apply Frame.step (Dev.record_frame ..)); case hw => rfl)
    | split

theorem execMgtUnit_frame (dt : Nat) (job : Nat) (s : State) :
    ∃ dev₁, execMgtUnit dt job s = .next { s with dev := dev₁ } ∧ Frame 0xf00200000038000000580060800000000040000000000000000001de0000004001080000000807800000000000000000040400000100400000b8000040023c400000c4000000001108000c0300030c201410003680008a000000410600000000000000e3ae679d33 s.dev dev₁ := by
  unfold execMgtUnit
  refine State.act_frame rfl (fun d h => ?_)
  repeat' first
    | (with_reducible assumption)
    | (extract_lets +onlyGivenNames x; first | (clear_value x; revert x; intro _) | (subst x))
    | ((with_reducible refine Frame.withJob ?hw (fun _ _ _ => ?_) ?_); case hw => rfl)
    | ((with_reducible apply Frame.step (Dev.complete_frame ..)); case hw => rfl)
    | ((with_reducible apply Frame.step (Dev.takeOut_frame ..)); case hw => rfl)
    | ((with_reducible apply Frame.step (Dev.giveBack_frame ..)); case hw => rfl)
    | ((with_reducible apply Frame.step (Dev.begin'_frame ..)); case hw => rfl)
    | split

theorem execRailUndervolt_frame (dt : Nat) (rail : Nat) (s : State) :
    ∃ dev₁, execRailUndervolt dt rail s = .next { s with dev := dev₁ } ∧ Frame 0x1ffffffffffffffffffffffffffffffffffffffffffffffffffffffffffffffffffffffffffffffffffffffffffffffffffffffffffffffffffffffffffffffffffffffffffffffffffffffffffffffffffffffffffffffffffffffffffffffff000003ffffffffff s.dev dev₁ := by
  unfold execRailUndervolt
  refine State.act_frame rfl (fun d h => ?_)
  repeat' first
    | (with_reducible assumption)
    | ((with_reducible refine Frame.foldl ?_ (fun _ _ _ => ?_)))
    | ((with_reducible apply Frame.step (Dev.wholeReset_frame ..)); case hw => rfl)
    | ((with_reducible refine Frame.when (fun _ _ => ?_) ?_))
    | ((with_reducible apply Frame.step (Dev.faultUnit_frame ..)); case hw => rfl)
    | split

theorem execRefclkAbsent_frame (dt : Nat) (ref : Nat) (s : State) :
    ∃ dev₁, execRefclkAbsent dt ref s = .next { s with dev := dev₁ } ∧ Frame 0x1ffffffffffffffffffffffffffffffffffffffffffffffffffffffffffffffffffffffffffffffffffffffffffffffffffffffffffffffffffffffffffffffffffffffffffffffffffffffffffffffffffffffffffffffffffffffffffffffff000003ffffffffff s.dev dev₁ := by
  unfold execRefclkAbsent
  refine State.act_frame rfl (fun d h => ?_)
  repeat' first
    | (with_reducible assumption)
    | (extract_lets +onlyGivenNames x; first | (refine Frame.cut x ?_ (fun _ => ?_); rotate_left; clear_value x; revert x; intro _ _; rotate_left; subst x) | (clear_value x; revert x; intro _) | (subst x))
    | ((with_reducible refine Frame.foldl ?_ (fun _ _ _ => ?_)))
    | ((with_reducible refine Frame.when (fun _ _ => ?_) ?_))
    | ((with_reducible apply Frame.step (Dev.wholeReset_frame ..)); case hw => rfl)
    | ((with_reducible apply Frame.step (Dev.setService_frame ..)); case hw => rfl)
    | ((with_reducible apply Frame.step (Dev.channelFault_frame ..)); case hw => rfl)
    | ((with_reducible apply Frame.step (Dev.loseTileLink_frame ..)); case hw => rfl)
    | ((with_reducible apply Frame.step (Dev.losePath_frame ..)); case hw => rfl)
    | split
    | ((with_reducible refine Frame.mgmt_of ?hw ?_); case hw => rfl)

theorem execRefclkReturn_frame (dt : Nat) (ref : Nat) (s : State) :
    ∃ dev₁, execRefclkReturn dt ref s = .next { s with dev := dev₁ } ∧ Frame 0x1000000000000000000800000000000000000000000000000000000000000000000000000000000000000000000000000000000000000000002000000000000000000000000000000000000100000000001000000000000000000106000000000000000000810c03 s.dev dev₁ := by
  unfold execRefclkReturn
  refine State.act_frame rfl (fun d h => ?_)
  repeat' first
    | (with_reducible assumption)
    | (extract_lets +onlyGivenNames x; first | (refine Frame.cut x ?_ (fun _ => ?_); rotate_left; clear_value x; revert x; intro _ _; rotate_left; subst x) | (clear_value x; revert x; intro _) | (subst x))
    | ((with_reducible refine Frame.when (fun _ _ => ?_) ?_))
    | ((with_reducible apply Frame.step (Dev.setService_frame ..)); case hw => rfl)
    | split
    | ((with_reducible refine Frame.mgmt_of ?hw ?_); case hw => rfl)

/-! ### Firmware.lean -/

theorem execMgtFwUpdate_frame (dt : Nat) (job : Nat) (s : State) :
    ∃ dev₁, execMgtFwUpdate dt job s = .next { s with dev := dev₁ } ∧ Frame 0x3a4000000000000000000000000000000000000000000000000000000000000000000000000000000000000000000000000000000000000000000000000000000000000000000000000000000000000000000000008a0000000000000000000000000000820543 s.dev dev₁ := by
  unfold execMgtFwUpdate
  refine State.act_frame rfl (fun d h => ?_)
  repeat' first
    | (with_reducible assumption)
    | (extract_lets +onlyGivenNames x; first | (refine Frame.cut x ?_ (fun _ => ?_); rotate_left; clear_value x; revert x; intro _ _; rotate_left; subst x) | (clear_value x; revert x; intro _) | (subst x))
    | ((with_reducible refine Frame.withJob ?hw (fun _ _ _ => ?_) ?_); case hw => decide +kernel)
    | ((with_reducible apply Frame.step (Dev.complete_frame ..)); case hw => decide +kernel)
    | ((with_reducible apply Frame.step (Dev.raise_frame ..)); case hw => decide +kernel)
    | ((with_reducible apply Frame.step (Dev.begin'_frame ..)); case hw => decide +kernel)
    | ((with_reducible apply Frame.step (Dev.showSlotFw_frame ..)); case hw => decide +kernel)
    | ((with_reducible apply Frame.step (Dev.flashWrite_frame ..)); case hw => decide +kernel)
    | split
    | ((with_reducible refine Frame.mgmt_of ?hw ?_); case hw => rfl)

theorem execFwUpdateDone_frame (dt : Nat) (ok : Bool) (s : State) :
    ∃ dev₁, execFwUpdateDone dt ok s = .next { s with dev := dev₁ } ∧ Frame 0x3a400000000000000000608000000000000000000000000000000000000000000000000000000000000000000000000000000000000000000000000000000000000000000000000000000000030c201400000000008a0000000000000000000000000006829543 s.dev dev₁ := by
  unfold execFwUpdateDone
  refine State.act_frame rfl (fun d h => ?_)
  repeat' first
    | (with_reducible assumption)
    | (extract_lets +onlyGivenNames x; first | (refine Frame.cut x ?_ (fun _ => ?_); rotate_left; clear_value x; revert x; intro _ _; rotate_left; subst x) | (clear_value x; revert x; intro _) | (subst x))
    | ((with_reducible apply Frame.step (Dev.endUpdate_frame ..)); case hw => rfl)
    | ((with_reducible apply Frame.step (Dev.flashWrite_frame ..)); case hw => rfl)
    | ((with_reducible apply Frame.step (Dev.showSlotFw_frame ..)); case hw => rfl)
    | ((with_reducible apply Frame.step (Dev.record_frame ..)); case hw => rfl)
    | split

theorem execMgtFwSelect_frame (dt : Nat) (job : Nat) (s : State) :
    ∃ dev₁, execMgtFwSelect dt job s = .next { s with dev := dev₁ } ∧ Frame 0x3e1000000000000000000000000000000000000000000000000000000000000000000000000000000000000000000000000000000000000000000000000000000000000000000000000000000000000000000000008a0000000000000000000000000000020583 s.dev dev₁ := by
  unfold execMgtFwSelect
  refine State.act_frame rfl (fun d h => ?_)
  repeat' first
    | (with_reducible assumption)
    | ((with_reducible refine Frame.withJob ?hw (fun _ _ _ => ?_) ?_); case hw => rfl)
    | ((with_reducible apply Frame.step (Dev.complete_frame ..)); case hw => rfl)
    | ((with_reducible apply Frame.step (Dev.selectSlot_frame ..)); case hw => rfl)
    | split

theorem execWriteBootcfg_frame (dt : Nat) (cfg : BootCfg) (s : State) :
    ∃ dev₁, execWriteBootcfg dt cfg s = .next { s with dev := dev₁ } ∧ Frame 0x83 s.dev dev₁ := by
  unfold execWriteBootcfg
  refine State.act_frame rfl (fun d h => ?_)
  repeat' first
    | (with_reducible assumption)
    | ((with_reducible refine Frame.byPort ?hw (fun _ _ => ?_) ?_); case hw => rfl)
    | ((with_reducible apply Frame.step (Dev.writeBoot_frame ..)); case hw => rfl)

theorem execReleaseF0_frame (dt : Nat) (s : State) :
    ∃ dev₁, execReleaseF0 dt s = .next { s with dev := dev₁ } ∧ Frame 0x608000000000000000000000000000000000000000000000000000000000000000000000000000000000000000000000000000000000000000000000000000000000031c261c000003800002044000000000000000000000000600b403 s.dev dev₁ := by
  unfold execReleaseF0
  refine State.act_frame rfl (fun d h => ?_)
  repeat' first
    | (with_reducible assumption)
    | ((with_reducible refine Frame.byPort ?hw (fun _ _ => ?_) ?_); case hw => rfl)
    | ((with_reducible refine Frame.when (fun _ _ => ?_) ?_))
    | ((with_reducible apply Frame.step (Dev.record_frame ..)); case hw => rfl)
    | ((with_reducible apply Frame.step (Dev.unfreeze_frame ..)); case hw => rfl)

theorem execClearFatal_frame (dt : Nat) (s : State) :
    ∃ dev₁, execClearFatal dt s = .next { s with dev := dev₁ } ∧ Frame 0x3d000000000000000000000000000000000000000000000000000000000000000000000000000000000000000000000000000000000000000000000000000000000000000000000000000000000000000000000000000000000000083 s.dev dev₁ := by
  unfold execClearFatal
  refine State.act_frame rfl (fun d h => ?_)
  repeat' first
    | (with_reducible assumption)
    | ((with_reducible refine Frame.byPort ?hw (fun _ _ => ?_) ?_); case hw => rfl)
    | ((with_reducible apply Frame.step (Dev.clearRecs_frame ..)); case hw => rfl)

theorem execSlotWrite_frame (dt : Nat) (slot : Fin 2) (page : Nat) (data : List Byte) (s : State) :
    ∃ dev₁, execSlotWrite dt slot page data s = .next { s with dev := dev₁ } ∧ Frame 0x38000000000000000000000000000000000000000000000000000000000000000000000000000000000000000000000000000000000000000000000000000000000000000000000000000000000000000000000000000000000000000000000000000000000043 s.dev dev₁ := by
  unfold execSlotWrite
  refine State.act_frame rfl (fun d h => ?_)
  repeat' first
    | (with_reducible assumption)
    | ((with_reducible refine Frame.byPort ?hw (fun _ _ => ?_) ?_); case hw => rfl)
    | ((with_reducible refine Frame.when (fun _ _ => ?_) ?_))
    | ((with_reducible apply Frame.step (Dev.showSlotFw_frame ..)); case hw => rfl)
    | ((with_reducible apply Frame.step (Dev.flashWrite_frame ..)); case hw => rfl)

theorem execSlotSelect_frame (dt : Nat) (slot : Fin 2) (commit : Bool) (s : State) :
    ∃ dev₁, execSlotSelect dt slot commit s = .next { s with dev := dev₁ } ∧ Frame 0x3c100000000000000000000000000000000000000000000000000000000000000000000000000000000000000000000000000000000000000000000000000000000000000000000000000000000000000000000000000000000000000000000000000000000083 s.dev dev₁ := by
  unfold execSlotSelect
  refine State.act_frame rfl (fun d h => ?_)
  repeat' first
    | (with_reducible assumption)
    | ((with_reducible refine Frame.byPort ?hw (fun _ _ => ?_) ?_); case hw => rfl)
    | ((with_reducible refine Frame.when (fun _ _ => ?_) ?_))
    | ((with_reducible apply Frame.step (Dev.selectSlot_frame ..)); case hw => rfl)

/-! ### SysRegs.lean -/

theorem execRegisterWrite_frame (dt : Nat) (fn : Fin 8) (bar2 : Bool) (off : Nat) (size : Nat) (be : BitVec 8) (value : BitVec 64) (s : State) :
    ∃ dev₁, execRegisterWrite dt fn bar2 off size be value s = .next { s with dev := dev₁ } ∧ Frame 0x1ffffffffffffffffffffffffffffffffffffffffffffffffffffffffffffffffffffffffffffffffffffffffffffffffffffffffffffffffffffffffffffffffffffffffffffffffffffffffffffffffffffffffffffffffffffffffffffffff000003ffef2bbd07 s.dev dev₁ := by
  unfold execRegisterWrite
  refine State.act_frame rfl (fun d h => ?_)
  repeat' first
    | (with_reducible assumption)
    | (extract_lets +onlyGivenNames x; first | (refine Frame.cut x ?_ (fun _ => ?_); rotate_left; clear_value x; revert x; intro _ _; rotate_left; subst x) | (clear_value x; revert x; intro _) | (subst x))
    | ((with_reducible refine Frame.when (fun _ _ => ?_) ?_))
    | ((with_reducible refine Frame.byFn ?hw (fun _ _ => ?_) ?_); case hw => decide +kernel)
    | ((with_reducible apply Frame.step (Dev.bump_frame ..)); case hw => decide +kernel)
    | ((with_reducible apply Frame.step (Dev.write32_frame ..)); case hw => decide +kernel)
    | split

theorem execSysLockSet_frame (dt : Nat) (s : State) :
    ∃ dev₁, execSysLockSet dt s = .next { s with dev := dev₁ } ∧ Frame 0x80000000000000000020000000000000000000003 s.dev dev₁ := by
  unfold execSysLockSet
  refine State.act_frame rfl (fun d h => ?_)
  repeat' first
    | (with_reducible assumption)
    | ((with_reducible refine Frame.byFn ?hw (fun _ _ => ?_) ?_); case hw => rfl)
    | ((with_reducible apply Frame.step (Dev.setLock_frame ..)); case hw => rfl)

theorem execTimNowNsRead_frame (dt : Nat) (s : State) :
    ∃ dev₁, execTimNowNsRead dt s = .next { s with dev := dev₁ } ∧ Frame 0x8000000000000000000000000000000000000000000000000000000000000000000000000000000000000000000000000000000000000000400000000000000000000800003 s.dev dev₁ := by
  unfold execTimNowNsRead
  refine State.act_frame rfl (fun d h => ?_)
  repeat' first
    | (with_reducible assumption)
    | ((with_reducible apply Frame.step (Dev.readAt_frame ..)); case hw => rfl)

theorem execEncIdxErrRead_frame (dt : Nat) (e : Fin 8) (s : State) :
    ∃ dev₁, execEncIdxErrRead dt e s = .next { s with dev := dev₁ } ∧ Frame 0x8000000000000000000000000000000000000000000000000000000000000000000000000000000000000000000000000000000000000000400000000000000000000800003 s.dev dev₁ := by
  unfold execEncIdxErrRead
  refine State.act_frame rfl (fun d h => ?_)
  repeat' first
    | (with_reducible assumption)
    | ((with_reducible apply Frame.step (Dev.readAt_frame ..)); case hw => rfl)

theorem execRead_frame (dt : Nat) (addr : Nat) (s : State) :
    ∃ dev₁, execRead dt addr s = .next { s with dev := dev₁ } ∧ Frame 0x8000000000000000000000000000000000000000000000000000000000000000000000000000000000000000000000000000000000000000400000000000000000000800003 s.dev dev₁ := by
  unfold execRead
  refine State.act_frame rfl (fun d h => ?_)
  repeat' first
    | (with_reducible assumption)
    | ((with_reducible apply Frame.step (Dev.readAt_frame ..)); case hw => rfl)

end Sys2Proof.Machine
end

