-- ==== Sys2Proof/Laws/State.lean ====
section
/-! SUPPORT. One lemma for each part of the state under each primitive update: what was set reads back, everything else is as
before. -/

namespace Sys2Proof.Machine

open Sys2Proof

/-! ### The whole state -/

@[simp] theorem State.act_eq (s : State) (dt : Nat) (f : Dev → Dev) : s.act dt f = .next { s with dev := f (s.dev.elapse dt) } := rfl

@[simp] theorem Dev.when_true (d : Dev) (f : Dev → Dev) : d.when true f = f d := rfl

@[simp] theorem Dev.when_false (d : Dev) (f : Dev → Dev) : d.when false f = d := rfl

@[simp] theorem Dev.elapse_now (d : Dev) (dt : Nat) : (d.elapse dt).now = d.now + dt := rfl

@[simp] theorem Dev.elapse_run (d : Dev) (dt : Nat) : (d.elapse dt).run = d.run + d.rawTime dt := rfl

/-- Device time runs at the rate of the time that no correction changes, where none is in force (R28). -/
theorem Dev.rawTime_eq (d : Dev) (dt : Nat) (h : d.gets .TIM_RATE_PPB = 0) : d.rawTime dt = dt := by
  simp [Dev.rawTime, h]

/-! ### Register fields -/

@[simp] theorem Dev.get_raise_self (d : Dev) (f : Fld) (i j : Nat) : (d.raise f i j).get f i j = 1 % 2 ^ f.width :=
  Dev.get_put_self ..

@[simp] theorem Dev.get_lower_self (d : Dev) (f : Fld) (i j : Nat) : (d.lower f i j).get f i j = 0 := by
  simp [Dev.lower]

@[simp] theorem Dev.get_bump_self (d : Dev) (f : Fld) (k i j : Nat) :
    (d.bump f k i j).get f i j = satAdd f.width (d.get f i j) k % 2 ^ f.width := Dev.get_put_self ..

@[simp] theorem Dev.get_raise_ne (d : Dev) (f g : Fld) (i j k l : Nat) (h : g ≠ f) : (d.raise f i j).get g k l = d.get g k l :=
  Dev.get_put_ne _ _ _ _ _ _ _ _ h

@[simp] theorem Dev.get_lower_ne (d : Dev) (f g : Fld) (i j k l : Nat) (h : g ≠ f) : (d.lower f i j).get g k l = d.get g k l :=
  Dev.get_put_ne _ _ _ _ _ _ _ _ h

@[simp] theorem Dev.get_bump_ne (d : Dev) (f g : Fld) (n i j k l : Nat) (h : g ≠ f) : (d.bump f n i j).get g k l = d.get g k l :=
  Dev.get_put_ne _ _ _ _ _ _ _ _ h

@[simp] theorem Dev.get_putB_ne (d : Dev) (f g : Fld) (b : Bool) (i j k l : Nat) (h : g ≠ f) : (d.putB f b i j).get g k l = d.get g k l :=
  Dev.get_put_ne _ _ _ _ _ _ _ _ h

@[simp] theorem Dev.get_puts_ne (d : Dev) (f g : Fld) (v : Int) (i j k l : Nat) (h : g ≠ f) : (d.puts f v i j).get g k l = d.get g k l :=
  Dev.get_put_ne _ _ _ _ _ _ _ _ h

/-! `put` -/

@[simp] theorem Dev.fn_put (d : Dev) (f : Fld) (v : Nat) (i j k : Nat) : (d.put f v i j).fn k = d.fn k := rfl

@[simp] theorem Dev.src_put (d : Dev) (f : Fld) (v : Nat) (i j k : Nat) : (d.put f v i j).src k = d.src k := rfl

@[simp] theorem Dev.island_put (d : Dev) (f : Fld) (v : Nat) (i j k : Nat) : (d.put f v i j).island k = d.island k := rfl

@[simp] theorem Dev.chan_put (d : Dev) (f : Fld) (v : Nat) (i j k : Nat) : (d.put f v i j).chan k = d.chan k := rfl

@[simp] theorem Dev.sensor_put (d : Dev) (f : Fld) (v : Nat) (i j k : Nat) : (d.put f v i j).sensor k = d.sensor k := rfl

@[simp] theorem Dev.eng_put (d : Dev) (f : Fld) (v : Nat) (i j k : Nat) : (d.put f v i j).eng k = d.eng k := rfl

@[simp] theorem Dev.link_put (d : Dev) (f : Fld) (v : Nat) (i j k : Nat) : (d.put f v i j).link k = d.link k := rfl

@[simp] theorem Dev.tile_put (d : Dev) (f : Fld) (v : Nat) (i j k : Nat) : (d.put f v i j).tile k = d.tile k := rfl

@[simp] theorem Dev.axis_put (d : Dev) (f : Fld) (v : Nat) (i j k : Nat) : (d.put f v i j).axis k = d.axis k := rfl

@[simp] theorem Dev.enc_put (d : Dev) (f : Fld) (v : Nat) (i j k : Nat) : (d.put f v i j).enc k = d.enc k := rfl

@[simp] theorem Dev.cam_put (d : Dev) (f : Fld) (v : Nat) (i j k : Nat) : (d.put f v i j).cam k = d.cam k := rfl

@[simp] theorem Dev.camPort_put (d : Dev) (f : Fld) (v : Nat) (i j k : Nat) : (d.put f v i j).camPort k = d.camPort k := rfl

@[simp] theorem Dev.pulse_put (d : Dev) (f : Fld) (v : Nat) (i j k : Nat) : (d.put f v i j).pulse k = d.pulse k := rfl

@[simp] theorem Dev.capt_put (d : Dev) (f : Fld) (v : Nat) (i j k : Nat) : (d.put f v i j).capt k = d.capt k := rfl

@[simp] theorem Dev.put_now (d : Dev) (f : Fld) (v : Nat) (i j : Nat) : (d.put f v i j).now = d.now := rfl

@[simp] theorem Dev.put_run (d : Dev) (f : Fld) (v : Nat) (i j : Nat) : (d.put f v i j).run = d.run := rfl

@[simp] theorem Dev.put_jobs (d : Dev) (f : Fld) (v : Nat) (i j : Nat) : (d.put f v i j).jobs = d.jobs := rfl

@[simp] theorem Dev.put_pins (d : Dev) (f : Fld) (v : Nat) (i j : Nat) : (d.put f v i j).pins = d.pins := rfl

@[simp] theorem Dev.put_layer (d : Dev) (f : Fld) (v : Nat) (i j : Nat) : (d.put f v i j).layer = d.layer := rfl

@[simp] theorem Dev.put_host (d : Dev) (f : Fld) (v : Nat) (i j : Nat) : (d.put f v i j).host = d.host := rfl

@[simp] theorem Dev.put_dram (d : Dev) (f : Fld) (v : Nat) (i j : Nat) : (d.put f v i j).dram = d.dram := rfl

@[simp] theorem Dev.put_flash (d : Dev) (f : Fld) (v : Nat) (i j : Nat) : (d.put f v i j).flash = d.flash := rfl

@[simp] theorem Dev.put_mram (d : Dev) (f : Fld) (v : Nat) (i j : Nat) : (d.put f v i j).mram = d.mram := rfl

@[simp] theorem Dev.put_recorder (d : Dev) (f : Fld) (v : Nat) (i j : Nat) : (d.put f v i j).recorder = d.recorder := rfl

/-! `raise` -/

@[simp] theorem Dev.fn_raise (d : Dev) (f : Fld)  (i j k : Nat) : (d.raise f i j).fn k = d.fn k := rfl

@[simp] theorem Dev.src_raise (d : Dev) (f : Fld)  (i j k : Nat) : (d.raise f i j).src k = d.src k := rfl

@[simp] theorem Dev.island_raise (d : Dev) (f : Fld)  (i j k : Nat) : (d.raise f i j).island k = d.island k := rfl

@[simp] theorem Dev.chan_raise (d : Dev) (f : Fld)  (i j k : Nat) : (d.raise f i j).chan k = d.chan k := rfl

@[simp] theorem Dev.sensor_raise (d : Dev) (f : Fld)  (i j k : Nat) : (d.raise f i j).sensor k = d.sensor k := rfl

@[simp] theorem Dev.eng_raise (d : Dev) (f : Fld)  (i j k : Nat) : (d.raise f i j).eng k = d.eng k := rfl

@[simp] theorem Dev.link_raise (d : Dev) (f : Fld)  (i j k : Nat) : (d.raise f i j).link k = d.link k := rfl

@[simp] theorem Dev.tile_raise (d : Dev) (f : Fld)  (i j k : Nat) : (d.raise f i j).tile k = d.tile k := rfl

@[simp] theorem Dev.axis_raise (d : Dev) (f : Fld)  (i j k : Nat) : (d.raise f i j).axis k = d.axis k := rfl

@[simp] theorem Dev.enc_raise (d : Dev) (f : Fld)  (i j k : Nat) : (d.raise f i j).enc k = d.enc k := rfl

@[simp] theorem Dev.cam_raise (d : Dev) (f : Fld)  (i j k : Nat) : (d.raise f i j).cam k = d.cam k := rfl

@[simp] theorem Dev.camPort_raise (d : Dev) (f : Fld)  (i j k : Nat) : (d.raise f i j).camPort k = d.camPort k := rfl

@[simp] theorem Dev.pulse_raise (d : Dev) (f : Fld)  (i j k : Nat) : (d.raise f i j).pulse k = d.pulse k := rfl

@[simp] theorem Dev.capt_raise (d : Dev) (f : Fld)  (i j k : Nat) : (d.raise f i j).capt k = d.capt k := rfl

@[simp] theorem Dev.raise_now (d : Dev) (f : Fld)  (i j : Nat) : (d.raise f i j).now = d.now := rfl

@[simp] theorem Dev.raise_run (d : Dev) (f : Fld)  (i j : Nat) : (d.raise f i j).run = d.run := rfl

@[simp] theorem Dev.raise_jobs (d : Dev) (f : Fld)  (i j : Nat) : (d.raise f i j).jobs = d.jobs := rfl

@[simp] theorem Dev.raise_pins (d : Dev) (f : Fld)  (i j : Nat) : (d.raise f i j).pins = d.pins := rfl

@[simp] theorem Dev.raise_layer (d : Dev) (f : Fld)  (i j : Nat) : (d.raise f i j).layer = d.layer := rfl

@[simp] theorem Dev.raise_host (d : Dev) (f : Fld)  (i j : Nat) : (d.raise f i j).host = d.host := rfl

@[simp] theorem Dev.raise_dram (d : Dev) (f : Fld)  (i j : Nat) : (d.raise f i j).dram = d.dram := rfl

@[simp] theorem Dev.raise_flash (d : Dev) (f : Fld)  (i j : Nat) : (d.raise f i j).flash = d.flash := rfl

@[simp] theorem Dev.raise_mram (d : Dev) (f : Fld)  (i j : Nat) : (d.raise f i j).mram = d.mram := rfl

@[simp] theorem Dev.raise_recorder (d : Dev) (f : Fld)  (i j : Nat) : (d.raise f i j).recorder = d.recorder := rfl

/-! `lower` -/

@[simp] theorem Dev.fn_lower (d : Dev) (f : Fld)  (i j k : Nat) : (d.lower f i j).fn k = d.fn k := rfl

@[simp] theorem Dev.src_lower (d : Dev) (f : Fld)  (i j k : Nat) : (d.lower f i j).src k = d.src k := rfl

@[simp] theorem Dev.island_lower (d : Dev) (f : Fld)  (i j k : Nat) : (d.lower f i j).island k = d.island k := rfl

@[simp] theorem Dev.chan_lower (d : Dev) (f : Fld)  (i j k : Nat) : (d.lower f i j).chan k = d.chan k := rfl

@[simp] theorem Dev.sensor_lower (d : Dev) (f : Fld)  (i j k : Nat) : (d.lower f i j).sensor k = d.sensor k := rfl

@[simp] theorem Dev.eng_lower (d : Dev) (f : Fld)  (i j k : Nat) : (d.lower f i j).eng k = d.eng k := rfl

@[simp] theorem Dev.link_lower (d : Dev) (f : Fld)  (i j k : Nat) : (d.lower f i j).link k = d.link k := rfl

@[simp] theorem Dev.tile_lower (d : Dev) (f : Fld)  (i j k : Nat) : (d.lower f i j).tile k = d.tile k := rfl

@[simp] theorem Dev.axis_lower (d : Dev) (f : Fld)  (i j k : Nat) : (d.lower f i j).axis k = d.axis k := rfl

@[simp] theorem Dev.enc_lower (d : Dev) (f : Fld)  (i j k : Nat) : (d.lower f i j).enc k = d.enc k := rfl

@[simp] theorem Dev.cam_lower (d : Dev) (f : Fld)  (i j k : Nat) : (d.lower f i j).cam k = d.cam k := rfl

@[simp] theorem Dev.camPort_lower (d : Dev) (f : Fld)  (i j k : Nat) : (d.lower f i j).camPort k = d.camPort k := rfl

@[simp] theorem Dev.pulse_lower (d : Dev) (f : Fld)  (i j k : Nat) : (d.lower f i j).pulse k = d.pulse k := rfl

@[simp] theorem Dev.capt_lower (d : Dev) (f : Fld)  (i j k : Nat) : (d.lower f i j).capt k = d.capt k := rfl

@[simp] theorem Dev.lower_now (d : Dev) (f : Fld)  (i j : Nat) : (d.lower f i j).now = d.now := rfl

@[simp] theorem Dev.lower_run (d : Dev) (f : Fld)  (i j : Nat) : (d.lower f i j).run = d.run := rfl

@[simp] theorem Dev.lower_jobs (d : Dev) (f : Fld)  (i j : Nat) : (d.lower f i j).jobs = d.jobs := rfl

@[simp] theorem Dev.lower_pins (d : Dev) (f : Fld)  (i j : Nat) : (d.lower f i j).pins = d.pins := rfl

@[simp] theorem Dev.lower_layer (d : Dev) (f : Fld)  (i j : Nat) : (d.lower f i j).layer = d.layer := rfl

@[simp] theorem Dev.lower_host (d : Dev) (f : Fld)  (i j : Nat) : (d.lower f i j).host = d.host := rfl

@[simp] theorem Dev.lower_dram (d : Dev) (f : Fld)  (i j : Nat) : (d.lower f i j).dram = d.dram := rfl

@[simp] theorem Dev.lower_flash (d : Dev) (f : Fld)  (i j : Nat) : (d.lower f i j).flash = d.flash := rfl

@[simp] theorem Dev.lower_mram (d : Dev) (f : Fld)  (i j : Nat) : (d.lower f i j).mram = d.mram := rfl

@[simp] theorem Dev.lower_recorder (d : Dev) (f : Fld)  (i j : Nat) : (d.lower f i j).recorder = d.recorder := rfl

/-! `bump` -/

@[simp] theorem Dev.fn_bump (d : Dev) (f : Fld) (n : Nat) (i j k : Nat) : (d.bump f n i j).fn k = d.fn k := rfl

@[simp] theorem Dev.src_bump (d : Dev) (f : Fld) (n : Nat) (i j k : Nat) : (d.bump f n i j).src k = d.src k := rfl

@[simp] theorem Dev.island_bump (d : Dev) (f : Fld) (n : Nat) (i j k : Nat) : (d.bump f n i j).island k = d.island k := rfl

@[simp] theorem Dev.chan_bump (d : Dev) (f : Fld) (n : Nat) (i j k : Nat) : (d.bump f n i j).chan k = d.chan k := rfl

@[simp] theorem Dev.sensor_bump (d : Dev) (f : Fld) (n : Nat) (i j k : Nat) : (d.bump f n i j).sensor k = d.sensor k := rfl

@[simp] theorem Dev.eng_bump (d : Dev) (f : Fld) (n : Nat) (i j k : Nat) : (d.bump f n i j).eng k = d.eng k := rfl

@[simp] theorem Dev.link_bump (d : Dev) (f : Fld) (n : Nat) (i j k : Nat) : (d.bump f n i j).link k = d.link k := rfl

@[simp] theorem Dev.tile_bump (d : Dev) (f : Fld) (n : Nat) (i j k : Nat) : (d.bump f n i j).tile k = d.tile k := rfl

@[simp] theorem Dev.axis_bump (d : Dev) (f : Fld) (n : Nat) (i j k : Nat) : (d.bump f n i j).axis k = d.axis k := rfl

@[simp] theorem Dev.enc_bump (d : Dev) (f : Fld) (n : Nat) (i j k : Nat) : (d.bump f n i j).enc k = d.enc k := rfl

@[simp] theorem Dev.cam_bump (d : Dev) (f : Fld) (n : Nat) (i j k : Nat) : (d.bump f n i j).cam k = d.cam k := rfl

@[simp] theorem Dev.camPort_bump (d : Dev) (f : Fld) (n : Nat) (i j k : Nat) : (d.bump f n i j).camPort k = d.camPort k := rfl

@[simp] theorem Dev.pulse_bump (d : Dev) (f : Fld) (n : Nat) (i j k : Nat) : (d.bump f n i j).pulse k = d.pulse k := rfl

@[simp] theorem Dev.capt_bump (d : Dev) (f : Fld) (n : Nat) (i j k : Nat) : (d.bump f n i j).capt k = d.capt k := rfl

@[simp] theorem Dev.bump_now (d : Dev) (f : Fld) (n : Nat) (i j : Nat) : (d.bump f n i j).now = d.now := rfl

@[simp] theorem Dev.bump_run (d : Dev) (f : Fld) (n : Nat) (i j : Nat) : (d.bump f n i j).run = d.run := rfl

@[simp] theorem Dev.bump_jobs (d : Dev) (f : Fld) (n : Nat) (i j : Nat) : (d.bump f n i j).jobs = d.jobs := rfl

@[simp] theorem Dev.bump_pins (d : Dev) (f : Fld) (n : Nat) (i j : Nat) : (d.bump f n i j).pins = d.pins := rfl

@[simp] theorem Dev.bump_layer (d : Dev) (f : Fld) (n : Nat) (i j : Nat) : (d.bump f n i j).layer = d.layer := rfl

@[simp] theorem Dev.bump_host (d : Dev) (f : Fld) (n : Nat) (i j : Nat) : (d.bump f n i j).host = d.host := rfl

@[simp] theorem Dev.bump_dram (d : Dev) (f : Fld) (n : Nat) (i j : Nat) : (d.bump f n i j).dram = d.dram := rfl

@[simp] theorem Dev.bump_flash (d : Dev) (f : Fld) (n : Nat) (i j : Nat) : (d.bump f n i j).flash = d.flash := rfl

@[simp] theorem Dev.bump_mram (d : Dev) (f : Fld) (n : Nat) (i j : Nat) : (d.bump f n i j).mram = d.mram := rfl

@[simp] theorem Dev.bump_recorder (d : Dev) (f : Fld) (n : Nat) (i j : Nat) : (d.bump f n i j).recorder = d.recorder := rfl

/-! `putB` -/

@[simp] theorem Dev.fn_putB (d : Dev) (f : Fld) (b : Bool) (i j k : Nat) : (d.putB f b i j).fn k = d.fn k := rfl

@[simp] theorem Dev.src_putB (d : Dev) (f : Fld) (b : Bool) (i j k : Nat) : (d.putB f b i j).src k = d.src k := rfl

@[simp] theorem Dev.island_putB (d : Dev) (f : Fld) (b : Bool) (i j k : Nat) : (d.putB f b i j).island k = d.island k := rfl

@[simp] theorem Dev.chan_putB (d : Dev) (f : Fld) (b : Bool) (i j k : Nat) : (d.putB f b i j).chan k = d.chan k := rfl

@[simp] theorem Dev.sensor_putB (d : Dev) (f : Fld) (b : Bool) (i j k : Nat) : (d.putB f b i j).sensor k = d.sensor k := rfl

@[simp] theorem Dev.eng_putB (d : Dev) (f : Fld) (b : Bool) (i j k : Nat) : (d.putB f b i j).eng k = d.eng k := rfl

@[simp] theorem Dev.link_putB (d : Dev) (f : Fld) (b : Bool) (i j k : Nat) : (d.putB f b i j).link k = d.link k := rfl

@[simp] theorem Dev.tile_putB (d : Dev) (f : Fld) (b : Bool) (i j k : Nat) : (d.putB f b i j).tile k = d.tile k := rfl

@[simp] theorem Dev.axis_putB (d : Dev) (f : Fld) (b : Bool) (i j k : Nat) : (d.putB f b i j).axis k = d.axis k := rfl

@[simp] theorem Dev.enc_putB (d : Dev) (f : Fld) (b : Bool) (i j k : Nat) : (d.putB f b i j).enc k = d.enc k := rfl

@[simp] theorem Dev.cam_putB (d : Dev) (f : Fld) (b : Bool) (i j k : Nat) : (d.putB f b i j).cam k = d.cam k := rfl

@[simp] theorem Dev.camPort_putB (d : Dev) (f : Fld) (b : Bool) (i j k : Nat) : (d.putB f b i j).camPort k = d.camPort k := rfl

@[simp] theorem Dev.pulse_putB (d : Dev) (f : Fld) (b : Bool) (i j k : Nat) : (d.putB f b i j).pulse k = d.pulse k := rfl

@[simp] theorem Dev.capt_putB (d : Dev) (f : Fld) (b : Bool) (i j k : Nat) : (d.putB f b i j).capt k = d.capt k := rfl

@[simp] theorem Dev.putB_now (d : Dev) (f : Fld) (b : Bool) (i j : Nat) : (d.putB f b i j).now = d.now := rfl

@[simp] theorem Dev.putB_run (d : Dev) (f : Fld) (b : Bool) (i j : Nat) : (d.putB f b i j).run = d.run := rfl

@[simp] theorem Dev.putB_jobs (d : Dev) (f : Fld) (b : Bool) (i j : Nat) : (d.putB f b i j).jobs = d.jobs := rfl

@[simp] theorem Dev.putB_pins (d : Dev) (f : Fld) (b : Bool) (i j : Nat) : (d.putB f b i j).pins = d.pins := rfl

@[simp] theorem Dev.putB_layer (d : Dev) (f : Fld) (b : Bool) (i j : Nat) : (d.putB f b i j).layer = d.layer := rfl

@[simp] theorem Dev.putB_host (d : Dev) (f : Fld) (b : Bool) (i j : Nat) : (d.putB f b i j).host = d.host := rfl

@[simp] theorem Dev.putB_dram (d : Dev) (f : Fld) (b : Bool) (i j : Nat) : (d.putB f b i j).dram = d.dram := rfl

@[simp] theorem Dev.putB_flash (d : Dev) (f : Fld) (b : Bool) (i j : Nat) : (d.putB f b i j).flash = d.flash := rfl

@[simp] theorem Dev.putB_mram (d : Dev) (f : Fld) (b : Bool) (i j : Nat) : (d.putB f b i j).mram = d.mram := rfl

@[simp] theorem Dev.putB_recorder (d : Dev) (f : Fld) (b : Bool) (i j : Nat) : (d.putB f b i j).recorder = d.recorder := rfl

/-! `puts` -/

@[simp] theorem Dev.fn_puts (d : Dev) (f : Fld) (v : Int) (i j k : Nat) : (d.puts f v i j).fn k = d.fn k := rfl

@[simp] theorem Dev.src_puts (d : Dev) (f : Fld) (v : Int) (i j k : Nat) : (d.puts f v i j).src k = d.src k := rfl

@[simp] theorem Dev.island_puts (d : Dev) (f : Fld) (v : Int) (i j k : Nat) : (d.puts f v i j).island k = d.island k := rfl

@[simp] theorem Dev.chan_puts (d : Dev) (f : Fld) (v : Int) (i j k : Nat) : (d.puts f v i j).chan k = d.chan k := rfl

@[simp] theorem Dev.sensor_puts (d : Dev) (f : Fld) (v : Int) (i j k : Nat) : (d.puts f v i j).sensor k = d.sensor k := rfl

@[simp] theorem Dev.eng_puts (d : Dev) (f : Fld) (v : Int) (i j k : Nat) : (d.puts f v i j).eng k = d.eng k := rfl

@[simp] theorem Dev.link_puts (d : Dev) (f : Fld) (v : Int) (i j k : Nat) : (d.puts f v i j).link k = d.link k := rfl

@[simp] theorem Dev.tile_puts (d : Dev) (f : Fld) (v : Int) (i j k : Nat) : (d.puts f v i j).tile k = d.tile k := rfl

@[simp] theorem Dev.axis_puts (d : Dev) (f : Fld) (v : Int) (i j k : Nat) : (d.puts f v i j).axis k = d.axis k := rfl

@[simp] theorem Dev.enc_puts (d : Dev) (f : Fld) (v : Int) (i j k : Nat) : (d.puts f v i j).enc k = d.enc k := rfl

@[simp] theorem Dev.cam_puts (d : Dev) (f : Fld) (v : Int) (i j k : Nat) : (d.puts f v i j).cam k = d.cam k := rfl

@[simp] theorem Dev.camPort_puts (d : Dev) (f : Fld) (v : Int) (i j k : Nat) : (d.puts f v i j).camPort k = d.camPort k := rfl

@[simp] theorem Dev.pulse_puts (d : Dev) (f : Fld) (v : Int) (i j k : Nat) : (d.puts f v i j).pulse k = d.pulse k := rfl

@[simp] theorem Dev.capt_puts (d : Dev) (f : Fld) (v : Int) (i j k : Nat) : (d.puts f v i j).capt k = d.capt k := rfl

@[simp] theorem Dev.puts_now (d : Dev) (f : Fld) (v : Int) (i j : Nat) : (d.puts f v i j).now = d.now := rfl

@[simp] theorem Dev.puts_run (d : Dev) (f : Fld) (v : Int) (i j : Nat) : (d.puts f v i j).run = d.run := rfl

@[simp] theorem Dev.puts_jobs (d : Dev) (f : Fld) (v : Int) (i j : Nat) : (d.puts f v i j).jobs = d.jobs := rfl

@[simp] theorem Dev.puts_pins (d : Dev) (f : Fld) (v : Int) (i j : Nat) : (d.puts f v i j).pins = d.pins := rfl

@[simp] theorem Dev.puts_layer (d : Dev) (f : Fld) (v : Int) (i j : Nat) : (d.puts f v i j).layer = d.layer := rfl

@[simp] theorem Dev.puts_host (d : Dev) (f : Fld) (v : Int) (i j : Nat) : (d.puts f v i j).host = d.host := rfl

@[simp] theorem Dev.puts_dram (d : Dev) (f : Fld) (v : Int) (i j : Nat) : (d.puts f v i j).dram = d.dram := rfl

@[simp] theorem Dev.puts_flash (d : Dev) (f : Fld) (v : Int) (i j : Nat) : (d.puts f v i j).flash = d.flash := rfl

@[simp] theorem Dev.puts_mram (d : Dev) (f : Fld) (v : Int) (i j : Nat) : (d.puts f v i j).mram = d.mram := rfl

@[simp] theorem Dev.puts_recorder (d : Dev) (f : Fld) (v : Int) (i j : Nat) : (d.puts f v i j).recorder = d.recorder := rfl

/-! `latch` -/

@[simp] theorem Dev.fn_latch (d : Dev) (f : Fld)  (i j k : Nat) : (d.latch f i j).fn k = d.fn k := rfl

@[simp] theorem Dev.src_latch (d : Dev) (f : Fld)  (i j k : Nat) : (d.latch f i j).src k = d.src k := rfl

@[simp] theorem Dev.island_latch (d : Dev) (f : Fld)  (i j k : Nat) : (d.latch f i j).island k = d.island k := rfl

@[simp] theorem Dev.chan_latch (d : Dev) (f : Fld)  (i j k : Nat) : (d.latch f i j).chan k = d.chan k := rfl

@[simp] theorem Dev.sensor_latch (d : Dev) (f : Fld)  (i j k : Nat) : (d.latch f i j).sensor k = d.sensor k := rfl

@[simp] theorem Dev.eng_latch (d : Dev) (f : Fld)  (i j k : Nat) : (d.latch f i j).eng k = d.eng k := rfl

@[simp] theorem Dev.link_latch (d : Dev) (f : Fld)  (i j k : Nat) : (d.latch f i j).link k = d.link k := rfl

@[simp] theorem Dev.tile_latch (d : Dev) (f : Fld)  (i j k : Nat) : (d.latch f i j).tile k = d.tile k := rfl

@[simp] theorem Dev.axis_latch (d : Dev) (f : Fld)  (i j k : Nat) : (d.latch f i j).axis k = d.axis k := rfl

@[simp] theorem Dev.enc_latch (d : Dev) (f : Fld)  (i j k : Nat) : (d.latch f i j).enc k = d.enc k := rfl

@[simp] theorem Dev.cam_latch (d : Dev) (f : Fld)  (i j k : Nat) : (d.latch f i j).cam k = d.cam k := rfl

@[simp] theorem Dev.camPort_latch (d : Dev) (f : Fld)  (i j k : Nat) : (d.latch f i j).camPort k = d.camPort k := rfl

@[simp] theorem Dev.pulse_latch (d : Dev) (f : Fld)  (i j k : Nat) : (d.latch f i j).pulse k = d.pulse k := rfl

@[simp] theorem Dev.capt_latch (d : Dev) (f : Fld)  (i j k : Nat) : (d.latch f i j).capt k = d.capt k := rfl

@[simp] theorem Dev.latch_now (d : Dev) (f : Fld)  (i j : Nat) : (d.latch f i j).now = d.now := rfl

@[simp] theorem Dev.latch_run (d : Dev) (f : Fld)  (i j : Nat) : (d.latch f i j).run = d.run := rfl

@[simp] theorem Dev.latch_jobs (d : Dev) (f : Fld)  (i j : Nat) : (d.latch f i j).jobs = d.jobs := rfl

@[simp] theorem Dev.latch_pins (d : Dev) (f : Fld)  (i j : Nat) : (d.latch f i j).pins = d.pins := rfl

@[simp] theorem Dev.latch_layer (d : Dev) (f : Fld)  (i j : Nat) : (d.latch f i j).layer = d.layer := rfl

@[simp] theorem Dev.latch_host (d : Dev) (f : Fld)  (i j : Nat) : (d.latch f i j).host = d.host := rfl

@[simp] theorem Dev.latch_dram (d : Dev) (f : Fld)  (i j : Nat) : (d.latch f i j).dram = d.dram := rfl

@[simp] theorem Dev.latch_flash (d : Dev) (f : Fld)  (i j : Nat) : (d.latch f i j).flash = d.flash := rfl

@[simp] theorem Dev.latch_mram (d : Dev) (f : Fld)  (i j : Nat) : (d.latch f i j).mram = d.mram := rfl

@[simp] theorem Dev.latch_recorder (d : Dev) (f : Fld)  (i j : Nat) : (d.latch f i j).recorder = d.recorder := rfl

/-! ### Parts held by number -/

@[simp] theorem Dev.fn_setFn_self (d : Dev) (k : Nat) (x : HostFn) : (d.setFn k x).fn k = x := Tab.get_set_self ..

@[simp] theorem Dev.fn_setFn_ne (d : Dev) (k l : Nat) (x : HostFn) (h : l ≠ k) : (d.setFn k x).fn l = d.fn l :=
  Tab.get_set_ne _ _ _ _ _ h

@[simp] theorem Dev.get_setFn (d : Dev) (k : Nat) (x : HostFn) (f : Fld) (i j : Nat) : (d.setFn k x).get f i j = d.get f i j := rfl

@[simp] theorem Dev.src_setFn (d : Dev) (k l : Nat) (x : HostFn) : (d.setFn k x).src l = d.src l := rfl

@[simp] theorem Dev.island_setFn (d : Dev) (k l : Nat) (x : HostFn) : (d.setFn k x).island l = d.island l := rfl

@[simp] theorem Dev.chan_setFn (d : Dev) (k l : Nat) (x : HostFn) : (d.setFn k x).chan l = d.chan l := rfl

@[simp] theorem Dev.sensor_setFn (d : Dev) (k l : Nat) (x : HostFn) : (d.setFn k x).sensor l = d.sensor l := rfl

@[simp] theorem Dev.eng_setFn (d : Dev) (k l : Nat) (x : HostFn) : (d.setFn k x).eng l = d.eng l := rfl

@[simp] theorem Dev.link_setFn (d : Dev) (k l : Nat) (x : HostFn) : (d.setFn k x).link l = d.link l := rfl

@[simp] theorem Dev.tile_setFn (d : Dev) (k l : Nat) (x : HostFn) : (d.setFn k x).tile l = d.tile l := rfl

@[simp] theorem Dev.axis_setFn (d : Dev) (k l : Nat) (x : HostFn) : (d.setFn k x).axis l = d.axis l := rfl

@[simp] theorem Dev.enc_setFn (d : Dev) (k l : Nat) (x : HostFn) : (d.setFn k x).enc l = d.enc l := rfl

@[simp] theorem Dev.cam_setFn (d : Dev) (k l : Nat) (x : HostFn) : (d.setFn k x).cam l = d.cam l := rfl

@[simp] theorem Dev.camPort_setFn (d : Dev) (k l : Nat) (x : HostFn) : (d.setFn k x).camPort l = d.camPort l := rfl

@[simp] theorem Dev.pulse_setFn (d : Dev) (k l : Nat) (x : HostFn) : (d.setFn k x).pulse l = d.pulse l := rfl

@[simp] theorem Dev.capt_setFn (d : Dev) (k l : Nat) (x : HostFn) : (d.setFn k x).capt l = d.capt l := rfl

@[simp] theorem Dev.setFn_now (d : Dev) (k : Nat) (x : HostFn) : (d.setFn k x).now = d.now := rfl

@[simp] theorem Dev.setFn_run (d : Dev) (k : Nat) (x : HostFn) : (d.setFn k x).run = d.run := rfl

@[simp] theorem Dev.setFn_jobs (d : Dev) (k : Nat) (x : HostFn) : (d.setFn k x).jobs = d.jobs := rfl

@[simp] theorem Dev.setFn_pins (d : Dev) (k : Nat) (x : HostFn) : (d.setFn k x).pins = d.pins := rfl

@[simp] theorem Dev.setFn_layer (d : Dev) (k : Nat) (x : HostFn) : (d.setFn k x).layer = d.layer := rfl

@[simp] theorem Dev.src_setSrc_self (d : Dev) (k : Nat) (x : SrcState) : (d.setSrc k x).src k = x := Tab.get_set_self ..

@[simp] theorem Dev.src_setSrc_ne (d : Dev) (k l : Nat) (x : SrcState) (h : l ≠ k) : (d.setSrc k x).src l = d.src l :=
  Tab.get_set_ne _ _ _ _ _ h

@[simp] theorem Dev.get_setSrc (d : Dev) (k : Nat) (x : SrcState) (f : Fld) (i j : Nat) : (d.setSrc k x).get f i j = d.get f i j := rfl

@[simp] theorem Dev.fn_setSrc (d : Dev) (k l : Nat) (x : SrcState) : (d.setSrc k x).fn l = d.fn l := rfl

@[simp] theorem Dev.island_setSrc (d : Dev) (k l : Nat) (x : SrcState) : (d.setSrc k x).island l = d.island l := rfl

@[simp] theorem Dev.chan_setSrc (d : Dev) (k l : Nat) (x : SrcState) : (d.setSrc k x).chan l = d.chan l := rfl

@[simp] theorem Dev.sensor_setSrc (d : Dev) (k l : Nat) (x : SrcState) : (d.setSrc k x).sensor l = d.sensor l := rfl

@[simp] theorem Dev.eng_setSrc (d : Dev) (k l : Nat) (x : SrcState) : (d.setSrc k x).eng l = d.eng l := rfl

@[simp] theorem Dev.link_setSrc (d : Dev) (k l : Nat) (x : SrcState) : (d.setSrc k x).link l = d.link l := rfl

@[simp] theorem Dev.tile_setSrc (d : Dev) (k l : Nat) (x : SrcState) : (d.setSrc k x).tile l = d.tile l := rfl

@[simp] theorem Dev.axis_setSrc (d : Dev) (k l : Nat) (x : SrcState) : (d.setSrc k x).axis l = d.axis l := rfl

@[simp] theorem Dev.enc_setSrc (d : Dev) (k l : Nat) (x : SrcState) : (d.setSrc k x).enc l = d.enc l := rfl

@[simp] theorem Dev.cam_setSrc (d : Dev) (k l : Nat) (x : SrcState) : (d.setSrc k x).cam l = d.cam l := rfl

@[simp] theorem Dev.camPort_setSrc (d : Dev) (k l : Nat) (x : SrcState) : (d.setSrc k x).camPort l = d.camPort l := rfl

@[simp] theorem Dev.pulse_setSrc (d : Dev) (k l : Nat) (x : SrcState) : (d.setSrc k x).pulse l = d.pulse l := rfl

@[simp] theorem Dev.capt_setSrc (d : Dev) (k l : Nat) (x : SrcState) : (d.setSrc k x).capt l = d.capt l := rfl

@[simp] theorem Dev.setSrc_now (d : Dev) (k : Nat) (x : SrcState) : (d.setSrc k x).now = d.now := rfl

@[simp] theorem Dev.setSrc_run (d : Dev) (k : Nat) (x : SrcState) : (d.setSrc k x).run = d.run := rfl

@[simp] theorem Dev.setSrc_jobs (d : Dev) (k : Nat) (x : SrcState) : (d.setSrc k x).jobs = d.jobs := rfl

@[simp] theorem Dev.setSrc_pins (d : Dev) (k : Nat) (x : SrcState) : (d.setSrc k x).pins = d.pins := rfl

@[simp] theorem Dev.setSrc_layer (d : Dev) (k : Nat) (x : SrcState) : (d.setSrc k x).layer = d.layer := rfl

@[simp] theorem Dev.island_setIsland_self (d : Dev) (k : Nat) (x : Island) : (d.setIsland k x).island k = x := Tab.get_set_self ..

@[simp] theorem Dev.island_setIsland_ne (d : Dev) (k l : Nat) (x : Island) (h : l ≠ k) : (d.setIsland k x).island l = d.island l :=
  Tab.get_set_ne _ _ _ _ _ h

@[simp] theorem Dev.get_setIsland (d : Dev) (k : Nat) (x : Island) (f : Fld) (i j : Nat) : (d.setIsland k x).get f i j = d.get f i j := rfl

@[simp] theorem Dev.fn_setIsland (d : Dev) (k l : Nat) (x : Island) : (d.setIsland k x).fn l = d.fn l := rfl

@[simp] theorem Dev.src_setIsland (d : Dev) (k l : Nat) (x : Island) : (d.setIsland k x).src l = d.src l := rfl

@[simp] theorem Dev.chan_setIsland (d : Dev) (k l : Nat) (x : Island) : (d.setIsland k x).chan l = d.chan l := rfl

@[simp] theorem Dev.sensor_setIsland (d : Dev) (k l : Nat) (x : Island) : (d.setIsland k x).sensor l = d.sensor l := rfl

@[simp] theorem Dev.eng_setIsland (d : Dev) (k l : Nat) (x : Island) : (d.setIsland k x).eng l = d.eng l := rfl

@[simp] theorem Dev.link_setIsland (d : Dev) (k l : Nat) (x : Island) : (d.setIsland k x).link l = d.link l := rfl

@[simp] theorem Dev.tile_setIsland (d : Dev) (k l : Nat) (x : Island) : (d.setIsland k x).tile l = d.tile l := rfl

@[simp] theorem Dev.axis_setIsland (d : Dev) (k l : Nat) (x : Island) : (d.setIsland k x).axis l = d.axis l := rfl

@[simp] theorem Dev.enc_setIsland (d : Dev) (k l : Nat) (x : Island) : (d.setIsland k x).enc l = d.enc l := rfl

@[simp] theorem Dev.cam_setIsland (d : Dev) (k l : Nat) (x : Island) : (d.setIsland k x).cam l = d.cam l := rfl

@[simp] theorem Dev.camPort_setIsland (d : Dev) (k l : Nat) (x : Island) : (d.setIsland k x).camPort l = d.camPort l := rfl

@[simp] theorem Dev.pulse_setIsland (d : Dev) (k l : Nat) (x : Island) : (d.setIsland k x).pulse l = d.pulse l := rfl

@[simp] theorem Dev.capt_setIsland (d : Dev) (k l : Nat) (x : Island) : (d.setIsland k x).capt l = d.capt l := rfl

@[simp] theorem Dev.setIsland_now (d : Dev) (k : Nat) (x : Island) : (d.setIsland k x).now = d.now := rfl

@[simp] theorem Dev.setIsland_run (d : Dev) (k : Nat) (x : Island) : (d.setIsland k x).run = d.run := rfl

@[simp] theorem Dev.setIsland_jobs (d : Dev) (k : Nat) (x : Island) : (d.setIsland k x).jobs = d.jobs := rfl

@[simp] theorem Dev.setIsland_pins (d : Dev) (k : Nat) (x : Island) : (d.setIsland k x).pins = d.pins := rfl

@[simp] theorem Dev.setIsland_layer (d : Dev) (k : Nat) (x : Island) : (d.setIsland k x).layer = d.layer := rfl

@[simp] theorem Dev.chan_setChan_self (d : Dev) (k : Nat) (x : DramChan) : (d.setChan k x).chan k = x := Tab.get_set_self ..

@[simp] theorem Dev.chan_setChan_ne (d : Dev) (k l : Nat) (x : DramChan) (h : l ≠ k) : (d.setChan k x).chan l = d.chan l :=
  Tab.get_set_ne _ _ _ _ _ h

@[simp] theorem Dev.get_setChan (d : Dev) (k : Nat) (x : DramChan) (f : Fld) (i j : Nat) : (d.setChan k x).get f i j = d.get f i j := rfl

@[simp] theorem Dev.fn_setChan (d : Dev) (k l : Nat) (x : DramChan) : (d.setChan k x).fn l = d.fn l := rfl

@[simp] theorem Dev.src_setChan (d : Dev) (k l : Nat) (x : DramChan) : (d.setChan k x).src l = d.src l := rfl

@[simp] theorem Dev.island_setChan (d : Dev) (k l : Nat) (x : DramChan) : (d.setChan k x).island l = d.island l := rfl

@[simp] theorem Dev.sensor_setChan (d : Dev) (k l : Nat) (x : DramChan) : (d.setChan k x).sensor l = d.sensor l := rfl

@[simp] theorem Dev.eng_setChan (d : Dev) (k l : Nat) (x : DramChan) : (d.setChan k x).eng l = d.eng l := rfl

@[simp] theorem Dev.link_setChan (d : Dev) (k l : Nat) (x : DramChan) : (d.setChan k x).link l = d.link l := rfl

@[simp] theorem Dev.tile_setChan (d : Dev) (k l : Nat) (x : DramChan) : (d.setChan k x).tile l = d.tile l := rfl

@[simp] theorem Dev.axis_setChan (d : Dev) (k l : Nat) (x : DramChan) : (d.setChan k x).axis l = d.axis l := rfl

@[simp] theorem Dev.enc_setChan (d : Dev) (k l : Nat) (x : DramChan) : (d.setChan k x).enc l = d.enc l := rfl

@[simp] theorem Dev.cam_setChan (d : Dev) (k l : Nat) (x : DramChan) : (d.setChan k x).cam l = d.cam l := rfl

@[simp] theorem Dev.camPort_setChan (d : Dev) (k l : Nat) (x : DramChan) : (d.setChan k x).camPort l = d.camPort l := rfl

@[simp] theorem Dev.pulse_setChan (d : Dev) (k l : Nat) (x : DramChan) : (d.setChan k x).pulse l = d.pulse l := rfl

@[simp] theorem Dev.capt_setChan (d : Dev) (k l : Nat) (x : DramChan) : (d.setChan k x).capt l = d.capt l := rfl

@[simp] theorem Dev.setChan_now (d : Dev) (k : Nat) (x : DramChan) : (d.setChan k x).now = d.now := rfl

@[simp] theorem Dev.setChan_run (d : Dev) (k : Nat) (x : DramChan) : (d.setChan k x).run = d.run := rfl

@[simp] theorem Dev.setChan_jobs (d : Dev) (k : Nat) (x : DramChan) : (d.setChan k x).jobs = d.jobs := rfl

@[simp] theorem Dev.setChan_pins (d : Dev) (k : Nat) (x : DramChan) : (d.setChan k x).pins = d.pins := rfl

@[simp] theorem Dev.setChan_layer (d : Dev) (k : Nat) (x : DramChan) : (d.setChan k x).layer = d.layer := rfl

@[simp] theorem Dev.sensor_setSensor_self (d : Dev) (k : Nat) (x : Sensor) : (d.setSensor k x).sensor k = x := Tab.get_set_self ..

@[simp] theorem Dev.sensor_setSensor_ne (d : Dev) (k l : Nat) (x : Sensor) (h : l ≠ k) : (d.setSensor k x).sensor l = d.sensor l :=
  Tab.get_set_ne _ _ _ _ _ h

@[simp] theorem Dev.get_setSensor (d : Dev) (k : Nat) (x : Sensor) (f : Fld) (i j : Nat) : (d.setSensor k x).get f i j = d.get f i j := rfl

@[simp] theorem Dev.fn_setSensor (d : Dev) (k l : Nat) (x : Sensor) : (d.setSensor k x).fn l = d.fn l := rfl

@[simp] theorem Dev.src_setSensor (d : Dev) (k l : Nat) (x : Sensor) : (d.setSensor k x).src l = d.src l := rfl

@[simp] theorem Dev.island_setSensor (d : Dev) (k l : Nat) (x : Sensor) : (d.setSensor k x).island l = d.island l := rfl

@[simp] theorem Dev.chan_setSensor (d : Dev) (k l : Nat) (x : Sensor) : (d.setSensor k x).chan l = d.chan l := rfl

@[simp] theorem Dev.eng_setSensor (d : Dev) (k l : Nat) (x : Sensor) : (d.setSensor k x).eng l = d.eng l := rfl

@[simp] theorem Dev.link_setSensor (d : Dev) (k l : Nat) (x : Sensor) : (d.setSensor k x).link l = d.link l := rfl

@[simp] theorem Dev.tile_setSensor (d : Dev) (k l : Nat) (x : Sensor) : (d.setSensor k x).tile l = d.tile l := rfl

@[simp] theorem Dev.axis_setSensor (d : Dev) (k l : Nat) (x : Sensor) : (d.setSensor k x).axis l = d.axis l := rfl

@[simp] theorem Dev.enc_setSensor (d : Dev) (k l : Nat) (x : Sensor) : (d.setSensor k x).enc l = d.enc l := rfl

@[simp] theorem Dev.cam_setSensor (d : Dev) (k l : Nat) (x : Sensor) : (d.setSensor k x).cam l = d.cam l := rfl

@[simp] theorem Dev.camPort_setSensor (d : Dev) (k l : Nat) (x : Sensor) : (d.setSensor k x).camPort l = d.camPort l := rfl

@[simp] theorem Dev.pulse_setSensor (d : Dev) (k l : Nat) (x : Sensor) : (d.setSensor k x).pulse l = d.pulse l := rfl

@[simp] theorem Dev.capt_setSensor (d : Dev) (k l : Nat) (x : Sensor) : (d.setSensor k x).capt l = d.capt l := rfl

@[simp] theorem Dev.setSensor_now (d : Dev) (k : Nat) (x : Sensor) : (d.setSensor k x).now = d.now := rfl

@[simp] theorem Dev.setSensor_run (d : Dev) (k : Nat) (x : Sensor) : (d.setSensor k x).run = d.run := rfl

@[simp] theorem Dev.setSensor_jobs (d : Dev) (k : Nat) (x : Sensor) : (d.setSensor k x).jobs = d.jobs := rfl

@[simp] theorem Dev.setSensor_pins (d : Dev) (k : Nat) (x : Sensor) : (d.setSensor k x).pins = d.pins := rfl

@[simp] theorem Dev.setSensor_layer (d : Dev) (k : Nat) (x : Sensor) : (d.setSensor k x).layer = d.layer := rfl

@[simp] theorem Dev.eng_setEng_self (d : Dev) (k : Nat) (x : Engine) : (d.setEng k x).eng k = x := Tab.get_set_self ..

@[simp] theorem Dev.eng_setEng_ne (d : Dev) (k l : Nat) (x : Engine) (h : l ≠ k) : (d.setEng k x).eng l = d.eng l :=
  Tab.get_set_ne _ _ _ _ _ h

@[simp] theorem Dev.get_setEng (d : Dev) (k : Nat) (x : Engine) (f : Fld) (i j : Nat) : (d.setEng k x).get f i j = d.get f i j := rfl

@[simp] theorem Dev.fn_setEng (d : Dev) (k l : Nat) (x : Engine) : (d.setEng k x).fn l = d.fn l := rfl

@[simp] theorem Dev.src_setEng (d : Dev) (k l : Nat) (x : Engine) : (d.setEng k x).src l = d.src l := rfl

@[simp] theorem Dev.island_setEng (d : Dev) (k l : Nat) (x : Engine) : (d.setEng k x).island l = d.island l := rfl

@[simp] theorem Dev.chan_setEng (d : Dev) (k l : Nat) (x : Engine) : (d.setEng k x).chan l = d.chan l := rfl

@[simp] theorem Dev.sensor_setEng (d : Dev) (k l : Nat) (x : Engine) : (d.setEng k x).sensor l = d.sensor l := rfl

@[simp] theorem Dev.link_setEng (d : Dev) (k l : Nat) (x : Engine) : (d.setEng k x).link l = d.link l := rfl

@[simp] theorem Dev.tile_setEng (d : Dev) (k l : Nat) (x : Engine) : (d.setEng k x).tile l = d.tile l := rfl

@[simp] theorem Dev.axis_setEng (d : Dev) (k l : Nat) (x : Engine) : (d.setEng k x).axis l = d.axis l := rfl

@[simp] theorem Dev.enc_setEng (d : Dev) (k l : Nat) (x : Engine) : (d.setEng k x).enc l = d.enc l := rfl

@[simp] theorem Dev.cam_setEng (d : Dev) (k l : Nat) (x : Engine) : (d.setEng k x).cam l = d.cam l := rfl

@[simp] theorem Dev.camPort_setEng (d : Dev) (k l : Nat) (x : Engine) : (d.setEng k x).camPort l = d.camPort l := rfl

@[simp] theorem Dev.pulse_setEng (d : Dev) (k l : Nat) (x : Engine) : (d.setEng k x).pulse l = d.pulse l := rfl

@[simp] theorem Dev.capt_setEng (d : Dev) (k l : Nat) (x : Engine) : (d.setEng k x).capt l = d.capt l := rfl

@[simp] theorem Dev.setEng_now (d : Dev) (k : Nat) (x : Engine) : (d.setEng k x).now = d.now := rfl

@[simp] theorem Dev.setEng_run (d : Dev) (k : Nat) (x : Engine) : (d.setEng k x).run = d.run := rfl

@[simp] theorem Dev.setEng_jobs (d : Dev) (k : Nat) (x : Engine) : (d.setEng k x).jobs = d.jobs := rfl

@[simp] theorem Dev.setEng_pins (d : Dev) (k : Nat) (x : Engine) : (d.setEng k x).pins = d.pins := rfl

@[simp] theorem Dev.setEng_layer (d : Dev) (k : Nat) (x : Engine) : (d.setEng k x).layer = d.layer := rfl

@[simp] theorem Dev.link_setLink_self (d : Dev) (k : Nat) (x : ChLink) : (d.setLink k x).link k = x := Tab.get_set_self ..

@[simp] theorem Dev.link_setLink_ne (d : Dev) (k l : Nat) (x : ChLink) (h : l ≠ k) : (d.setLink k x).link l = d.link l :=
  Tab.get_set_ne _ _ _ _ _ h

@[simp] theorem Dev.get_setLink (d : Dev) (k : Nat) (x : ChLink) (f : Fld) (i j : Nat) : (d.setLink k x).get f i j = d.get f i j := rfl

@[simp] theorem Dev.fn_setLink (d : Dev) (k l : Nat) (x : ChLink) : (d.setLink k x).fn l = d.fn l := rfl

@[simp] theorem Dev.src_setLink (d : Dev) (k l : Nat) (x : ChLink) : (d.setLink k x).src l = d.src l := rfl

@[simp] theorem Dev.island_setLink (d : Dev) (k l : Nat) (x : ChLink) : (d.setLink k x).island l = d.island l := rfl

@[simp] theorem Dev.chan_setLink (d : Dev) (k l : Nat) (x : ChLink) : (d.setLink k x).chan l = d.chan l := rfl

@[simp] theorem Dev.sensor_setLink (d : Dev) (k l : Nat) (x : ChLink) : (d.setLink k x).sensor l = d.sensor l := rfl

@[simp] theorem Dev.eng_setLink (d : Dev) (k l : Nat) (x : ChLink) : (d.setLink k x).eng l = d.eng l := rfl

@[simp] theorem Dev.tile_setLink (d : Dev) (k l : Nat) (x : ChLink) : (d.setLink k x).tile l = d.tile l := rfl

@[simp] theorem Dev.axis_setLink (d : Dev) (k l : Nat) (x : ChLink) : (d.setLink k x).axis l = d.axis l := rfl

@[simp] theorem Dev.enc_setLink (d : Dev) (k l : Nat) (x : ChLink) : (d.setLink k x).enc l = d.enc l := rfl

@[simp] theorem Dev.cam_setLink (d : Dev) (k l : Nat) (x : ChLink) : (d.setLink k x).cam l = d.cam l := rfl

@[simp] theorem Dev.camPort_setLink (d : Dev) (k l : Nat) (x : ChLink) : (d.setLink k x).camPort l = d.camPort l := rfl

@[simp] theorem Dev.pulse_setLink (d : Dev) (k l : Nat) (x : ChLink) : (d.setLink k x).pulse l = d.pulse l := rfl

@[simp] theorem Dev.capt_setLink (d : Dev) (k l : Nat) (x : ChLink) : (d.setLink k x).capt l = d.capt l := rfl

@[simp] theorem Dev.setLink_now (d : Dev) (k : Nat) (x : ChLink) : (d.setLink k x).now = d.now := rfl

@[simp] theorem Dev.setLink_run (d : Dev) (k : Nat) (x : ChLink) : (d.setLink k x).run = d.run := rfl

@[simp] theorem Dev.setLink_jobs (d : Dev) (k : Nat) (x : ChLink) : (d.setLink k x).jobs = d.jobs := rfl

@[simp] theorem Dev.setLink_pins (d : Dev) (k : Nat) (x : ChLink) : (d.setLink k x).pins = d.pins := rfl

@[simp] theorem Dev.setLink_layer (d : Dev) (k : Nat) (x : ChLink) : (d.setLink k x).layer = d.layer := rfl

@[simp] theorem Dev.tile_setTile_self (d : Dev) (k : Nat) (x : Tile) : (d.setTile k x).tile k = x := Tab.get_set_self ..

@[simp] theorem Dev.tile_setTile_ne (d : Dev) (k l : Nat) (x : Tile) (h : l ≠ k) : (d.setTile k x).tile l = d.tile l :=
  Tab.get_set_ne _ _ _ _ _ h

@[simp] theorem Dev.get_setTile (d : Dev) (k : Nat) (x : Tile) (f : Fld) (i j : Nat) : (d.setTile k x).get f i j = d.get f i j := rfl

@[simp] theorem Dev.fn_setTile (d : Dev) (k l : Nat) (x : Tile) : (d.setTile k x).fn l = d.fn l := rfl

@[simp] theorem Dev.src_setTile (d : Dev) (k l : Nat) (x : Tile) : (d.setTile k x).src l = d.src l := rfl

@[simp] theorem Dev.island_setTile (d : Dev) (k l : Nat) (x : Tile) : (d.setTile k x).island l = d.island l := rfl

@[simp] theorem Dev.chan_setTile (d : Dev) (k l : Nat) (x : Tile) : (d.setTile k x).chan l = d.chan l := rfl

@[simp] theorem Dev.sensor_setTile (d : Dev) (k l : Nat) (x : Tile) : (d.setTile k x).sensor l = d.sensor l := rfl

@[simp] theorem Dev.eng_setTile (d : Dev) (k l : Nat) (x : Tile) : (d.setTile k x).eng l = d.eng l := rfl

@[simp] theorem Dev.link_setTile (d : Dev) (k l : Nat) (x : Tile) : (d.setTile k x).link l = d.link l := rfl

@[simp] theorem Dev.axis_setTile (d : Dev) (k l : Nat) (x : Tile) : (d.setTile k x).axis l = d.axis l := rfl

@[simp] theorem Dev.enc_setTile (d : Dev) (k l : Nat) (x : Tile) : (d.setTile k x).enc l = d.enc l := rfl

@[simp] theorem Dev.cam_setTile (d : Dev) (k l : Nat) (x : Tile) : (d.setTile k x).cam l = d.cam l := rfl

@[simp] theorem Dev.camPort_setTile (d : Dev) (k l : Nat) (x : Tile) : (d.setTile k x).camPort l = d.camPort l := rfl

@[simp] theorem Dev.pulse_setTile (d : Dev) (k l : Nat) (x : Tile) : (d.setTile k x).pulse l = d.pulse l := rfl

@[simp] theorem Dev.capt_setTile (d : Dev) (k l : Nat) (x : Tile) : (d.setTile k x).capt l = d.capt l := rfl

@[simp] theorem Dev.setTile_now (d : Dev) (k : Nat) (x : Tile) : (d.setTile k x).now = d.now := rfl

@[simp] theorem Dev.setTile_run (d : Dev) (k : Nat) (x : Tile) : (d.setTile k x).run = d.run := rfl

@[simp] theorem Dev.setTile_jobs (d : Dev) (k : Nat) (x : Tile) : (d.setTile k x).jobs = d.jobs := rfl

@[simp] theorem Dev.setTile_pins (d : Dev) (k : Nat) (x : Tile) : (d.setTile k x).pins = d.pins := rfl

@[simp] theorem Dev.setTile_layer (d : Dev) (k : Nat) (x : Tile) : (d.setTile k x).layer = d.layer := rfl

@[simp] theorem Dev.axis_setAxis_self (d : Dev) (k : Nat) (x : Axis) : (d.setAxis k x).axis k = x := Tab.get_set_self ..

@[simp] theorem Dev.axis_setAxis_ne (d : Dev) (k l : Nat) (x : Axis) (h : l ≠ k) : (d.setAxis k x).axis l = d.axis l :=
  Tab.get_set_ne _ _ _ _ _ h

@[simp] theorem Dev.get_setAxis (d : Dev) (k : Nat) (x : Axis) (f : Fld) (i j : Nat) : (d.setAxis k x).get f i j = d.get f i j := rfl

@[simp] theorem Dev.fn_setAxis (d : Dev) (k l : Nat) (x : Axis) : (d.setAxis k x).fn l = d.fn l := rfl

@[simp] theorem Dev.src_setAxis (d : Dev) (k l : Nat) (x : Axis) : (d.setAxis k x).src l = d.src l := rfl

@[simp] theorem Dev.island_setAxis (d : Dev) (k l : Nat) (x : Axis) : (d.setAxis k x).island l = d.island l := rfl

@[simp] theorem Dev.chan_setAxis (d : Dev) (k l : Nat) (x : Axis) : (d.setAxis k x).chan l = d.chan l := rfl

@[simp] theorem Dev.sensor_setAxis (d : Dev) (k l : Nat) (x : Axis) : (d.setAxis k x).sensor l = d.sensor l := rfl

@[simp] theorem Dev.eng_setAxis (d : Dev) (k l : Nat) (x : Axis) : (d.setAxis k x).eng l = d.eng l := rfl

@[simp] theorem Dev.link_setAxis (d : Dev) (k l : Nat) (x : Axis) : (d.setAxis k x).link l = d.link l := rfl

@[simp] theorem Dev.tile_setAxis (d : Dev) (k l : Nat) (x : Axis) : (d.setAxis k x).tile l = d.tile l := rfl

@[simp] theorem Dev.enc_setAxis (d : Dev) (k l : Nat) (x : Axis) : (d.setAxis k x).enc l = d.enc l := rfl

@[simp] theorem Dev.cam_setAxis (d : Dev) (k l : Nat) (x : Axis) : (d.setAxis k x).cam l = d.cam l := rfl

@[simp] theorem Dev.camPort_setAxis (d : Dev) (k l : Nat) (x : Axis) : (d.setAxis k x).camPort l = d.camPort l := rfl

@[simp] theorem Dev.pulse_setAxis (d : Dev) (k l : Nat) (x : Axis) : (d.setAxis k x).pulse l = d.pulse l := rfl

@[simp] theorem Dev.capt_setAxis (d : Dev) (k l : Nat) (x : Axis) : (d.setAxis k x).capt l = d.capt l := rfl

@[simp] theorem Dev.setAxis_now (d : Dev) (k : Nat) (x : Axis) : (d.setAxis k x).now = d.now := rfl

@[simp] theorem Dev.setAxis_run (d : Dev) (k : Nat) (x : Axis) : (d.setAxis k x).run = d.run := rfl

@[simp] theorem Dev.setAxis_jobs (d : Dev) (k : Nat) (x : Axis) : (d.setAxis k x).jobs = d.jobs := rfl

@[simp] theorem Dev.setAxis_pins (d : Dev) (k : Nat) (x : Axis) : (d.setAxis k x).pins = d.pins := rfl

@[simp] theorem Dev.setAxis_layer (d : Dev) (k : Nat) (x : Axis) : (d.setAxis k x).layer = d.layer := rfl

@[simp] theorem Dev.enc_setEnc_self (d : Dev) (k : Nat) (x : Enc) : (d.setEnc k x).enc k = x := Tab.get_set_self ..

@[simp] theorem Dev.enc_setEnc_ne (d : Dev) (k l : Nat) (x : Enc) (h : l ≠ k) : (d.setEnc k x).enc l = d.enc l :=
  Tab.get_set_ne _ _ _ _ _ h

@[simp] theorem Dev.get_setEnc (d : Dev) (k : Nat) (x : Enc) (f : Fld) (i j : Nat) : (d.setEnc k x).get f i j = d.get f i j := rfl

@[simp] theorem Dev.fn_setEnc (d : Dev) (k l : Nat) (x : Enc) : (d.setEnc k x).fn l = d.fn l := rfl

@[simp] theorem Dev.src_setEnc (d : Dev) (k l : Nat) (x : Enc) : (d.setEnc k x).src l = d.src l := rfl

@[simp] theorem Dev.island_setEnc (d : Dev) (k l : Nat) (x : Enc) : (d.setEnc k x).island l = d.island l := rfl

@[simp] theorem Dev.chan_setEnc (d : Dev) (k l : Nat) (x : Enc) : (d.setEnc k x).chan l = d.chan l := rfl

@[simp] theorem Dev.sensor_setEnc (d : Dev) (k l : Nat) (x : Enc) : (d.setEnc k x).sensor l = d.sensor l := rfl

@[simp] theorem Dev.eng_setEnc (d : Dev) (k l : Nat) (x : Enc) : (d.setEnc k x).eng l = d.eng l := rfl

@[simp] theorem Dev.link_setEnc (d : Dev) (k l : Nat) (x : Enc) : (d.setEnc k x).link l = d.link l := rfl

@[simp] theorem Dev.tile_setEnc (d : Dev) (k l : Nat) (x : Enc) : (d.setEnc k x).tile l = d.tile l := rfl

@[simp] theorem Dev.axis_setEnc (d : Dev) (k l : Nat) (x : Enc) : (d.setEnc k x).axis l = d.axis l := rfl

@[simp] theorem Dev.cam_setEnc (d : Dev) (k l : Nat) (x : Enc) : (d.setEnc k x).cam l = d.cam l := rfl

@[simp] theorem Dev.camPort_setEnc (d : Dev) (k l : Nat) (x : Enc) : (d.setEnc k x).camPort l = d.camPort l := rfl

@[simp] theorem Dev.pulse_setEnc (d : Dev) (k l : Nat) (x : Enc) : (d.setEnc k x).pulse l = d.pulse l := rfl

@[simp] theorem Dev.capt_setEnc (d : Dev) (k l : Nat) (x : Enc) : (d.setEnc k x).capt l = d.capt l := rfl

@[simp] theorem Dev.setEnc_now (d : Dev) (k : Nat) (x : Enc) : (d.setEnc k x).now = d.now := rfl

@[simp] theorem Dev.setEnc_run (d : Dev) (k : Nat) (x : Enc) : (d.setEnc k x).run = d.run := rfl

@[simp] theorem Dev.setEnc_jobs (d : Dev) (k : Nat) (x : Enc) : (d.setEnc k x).jobs = d.jobs := rfl

@[simp] theorem Dev.setEnc_pins (d : Dev) (k : Nat) (x : Enc) : (d.setEnc k x).pins = d.pins := rfl

@[simp] theorem Dev.setEnc_layer (d : Dev) (k : Nat) (x : Enc) : (d.setEnc k x).layer = d.layer := rfl

@[simp] theorem Dev.cam_setCam_self (d : Dev) (k : Nat) (x : Cam) : (d.setCam k x).cam k = x := Tab.get_set_self ..

@[simp] theorem Dev.cam_setCam_ne (d : Dev) (k l : Nat) (x : Cam) (h : l ≠ k) : (d.setCam k x).cam l = d.cam l :=
  Tab.get_set_ne _ _ _ _ _ h

@[simp] theorem Dev.get_setCam (d : Dev) (k : Nat) (x : Cam) (f : Fld) (i j : Nat) : (d.setCam k x).get f i j = d.get f i j := rfl

@[simp] theorem Dev.fn_setCam (d : Dev) (k l : Nat) (x : Cam) : (d.setCam k x).fn l = d.fn l := rfl

@[simp] theorem Dev.src_setCam (d : Dev) (k l : Nat) (x : Cam) : (d.setCam k x).src l = d.src l := rfl

@[simp] theorem Dev.island_setCam (d : Dev) (k l : Nat) (x : Cam) : (d.setCam k x).island l = d.island l := rfl

@[simp] theorem Dev.chan_setCam (d : Dev) (k l : Nat) (x : Cam) : (d.setCam k x).chan l = d.chan l := rfl

@[simp] theorem Dev.sensor_setCam (d : Dev) (k l : Nat) (x : Cam) : (d.setCam k x).sensor l = d.sensor l := rfl

@[simp] theorem Dev.eng_setCam (d : Dev) (k l : Nat) (x : Cam) : (d.setCam k x).eng l = d.eng l := rfl

@[simp] theorem Dev.link_setCam (d : Dev) (k l : Nat) (x : Cam) : (d.setCam k x).link l = d.link l := rfl

@[simp] theorem Dev.tile_setCam (d : Dev) (k l : Nat) (x : Cam) : (d.setCam k x).tile l = d.tile l := rfl

@[simp] theorem Dev.axis_setCam (d : Dev) (k l : Nat) (x : Cam) : (d.setCam k x).axis l = d.axis l := rfl

@[simp] theorem Dev.enc_setCam (d : Dev) (k l : Nat) (x : Cam) : (d.setCam k x).enc l = d.enc l := rfl

@[simp] theorem Dev.camPort_setCam (d : Dev) (k l : Nat) (x : Cam) : (d.setCam k x).camPort l = d.camPort l := rfl

@[simp] theorem Dev.pulse_setCam (d : Dev) (k l : Nat) (x : Cam) : (d.setCam k x).pulse l = d.pulse l := rfl

@[simp] theorem Dev.capt_setCam (d : Dev) (k l : Nat) (x : Cam) : (d.setCam k x).capt l = d.capt l := rfl

@[simp] theorem Dev.setCam_now (d : Dev) (k : Nat) (x : Cam) : (d.setCam k x).now = d.now := rfl

@[simp] theorem Dev.setCam_run (d : Dev) (k : Nat) (x : Cam) : (d.setCam k x).run = d.run := rfl

@[simp] theorem Dev.setCam_jobs (d : Dev) (k : Nat) (x : Cam) : (d.setCam k x).jobs = d.jobs := rfl

@[simp] theorem Dev.setCam_pins (d : Dev) (k : Nat) (x : Cam) : (d.setCam k x).pins = d.pins := rfl

@[simp] theorem Dev.setCam_layer (d : Dev) (k : Nat) (x : Cam) : (d.setCam k x).layer = d.layer := rfl

@[simp] theorem Dev.camPort_setCamPort_self (d : Dev) (k : Nat) (x : CamPort) : (d.setCamPort k x).camPort k = x := Tab.get_set_self ..

@[simp] theorem Dev.camPort_setCamPort_ne (d : Dev) (k l : Nat) (x : CamPort) (h : l ≠ k) : (d.setCamPort k x).camPort l = d.camPort l :=
  Tab.get_set_ne _ _ _ _ _ h

@[simp] theorem Dev.get_setCamPort (d : Dev) (k : Nat) (x : CamPort) (f : Fld) (i j : Nat) : (d.setCamPort k x).get f i j = d.get f i j := rfl

@[simp] theorem Dev.fn_setCamPort (d : Dev) (k l : Nat) (x : CamPort) : (d.setCamPort k x).fn l = d.fn l := rfl

@[simp] theorem Dev.src_setCamPort (d : Dev) (k l : Nat) (x : CamPort) : (d.setCamPort k x).src l = d.src l := rfl

@[simp] theorem Dev.island_setCamPort (d : Dev) (k l : Nat) (x : CamPort) : (d.setCamPort k x).island l = d.island l := rfl

@[simp] theorem Dev.chan_setCamPort (d : Dev) (k l : Nat) (x : CamPort) : (d.setCamPort k x).chan l = d.chan l := rfl

@[simp] theorem Dev.sensor_setCamPort (d : Dev) (k l : Nat) (x : CamPort) : (d.setCamPort k x).sensor l = d.sensor l := rfl

@[simp] theorem Dev.eng_setCamPort (d : Dev) (k l : Nat) (x : CamPort) : (d.setCamPort k x).eng l = d.eng l := rfl

@[simp] theorem Dev.link_setCamPort (d : Dev) (k l : Nat) (x : CamPort) : (d.setCamPort k x).link l = d.link l := rfl

@[simp] theorem Dev.tile_setCamPort (d : Dev) (k l : Nat) (x : CamPort) : (d.setCamPort k x).tile l = d.tile l := rfl

@[simp] theorem Dev.axis_setCamPort (d : Dev) (k l : Nat) (x : CamPort) : (d.setCamPort k x).axis l = d.axis l := rfl

@[simp] theorem Dev.enc_setCamPort (d : Dev) (k l : Nat) (x : CamPort) : (d.setCamPort k x).enc l = d.enc l := rfl

@[simp] theorem Dev.cam_setCamPort (d : Dev) (k l : Nat) (x : CamPort) : (d.setCamPort k x).cam l = d.cam l := rfl

@[simp] theorem Dev.pulse_setCamPort (d : Dev) (k l : Nat) (x : CamPort) : (d.setCamPort k x).pulse l = d.pulse l := rfl

@[simp] theorem Dev.capt_setCamPort (d : Dev) (k l : Nat) (x : CamPort) : (d.setCamPort k x).capt l = d.capt l := rfl

@[simp] theorem Dev.setCamPort_now (d : Dev) (k : Nat) (x : CamPort) : (d.setCamPort k x).now = d.now := rfl

@[simp] theorem Dev.setCamPort_run (d : Dev) (k : Nat) (x : CamPort) : (d.setCamPort k x).run = d.run := rfl

@[simp] theorem Dev.setCamPort_jobs (d : Dev) (k : Nat) (x : CamPort) : (d.setCamPort k x).jobs = d.jobs := rfl

@[simp] theorem Dev.setCamPort_pins (d : Dev) (k : Nat) (x : CamPort) : (d.setCamPort k x).pins = d.pins := rfl

@[simp] theorem Dev.setCamPort_layer (d : Dev) (k : Nat) (x : CamPort) : (d.setCamPort k x).layer = d.layer := rfl

@[simp] theorem Dev.pulse_setPulse_self (d : Dev) (k : Nat) (x : Pulse) : (d.setPulse k x).pulse k = x := Tab.get_set_self ..

@[simp] theorem Dev.pulse_setPulse_ne (d : Dev) (k l : Nat) (x : Pulse) (h : l ≠ k) : (d.setPulse k x).pulse l = d.pulse l :=
  Tab.get_set_ne _ _ _ _ _ h

@[simp] theorem Dev.get_setPulse (d : Dev) (k : Nat) (x : Pulse) (f : Fld) (i j : Nat) : (d.setPulse k x).get f i j = d.get f i j := rfl

@[simp] theorem Dev.fn_setPulse (d : Dev) (k l : Nat) (x : Pulse) : (d.setPulse k x).fn l = d.fn l := rfl

@[simp] theorem Dev.src_setPulse (d : Dev) (k l : Nat) (x : Pulse) : (d.setPulse k x).src l = d.src l := rfl

@[simp] theorem Dev.island_setPulse (d : Dev) (k l : Nat) (x : Pulse) : (d.setPulse k x).island l = d.island l := rfl

@[simp] theorem Dev.chan_setPulse (d : Dev) (k l : Nat) (x : Pulse) : (d.setPulse k x).chan l = d.chan l := rfl

@[simp] theorem Dev.sensor_setPulse (d : Dev) (k l : Nat) (x : Pulse) : (d.setPulse k x).sensor l = d.sensor l := rfl

@[simp] theorem Dev.eng_setPulse (d : Dev) (k l : Nat) (x : Pulse) : (d.setPulse k x).eng l = d.eng l := rfl

@[simp] theorem Dev.link_setPulse (d : Dev) (k l : Nat) (x : Pulse) : (d.setPulse k x).link l = d.link l := rfl

@[simp] theorem Dev.tile_setPulse (d : Dev) (k l : Nat) (x : Pulse) : (d.setPulse k x).tile l = d.tile l := rfl

@[simp] theorem Dev.axis_setPulse (d : Dev) (k l : Nat) (x : Pulse) : (d.setPulse k x).axis l = d.axis l := rfl

@[simp] theorem Dev.enc_setPulse (d : Dev) (k l : Nat) (x : Pulse) : (d.setPulse k x).enc l = d.enc l := rfl

@[simp] theorem Dev.cam_setPulse (d : Dev) (k l : Nat) (x : Pulse) : (d.setPulse k x).cam l = d.cam l := rfl

@[simp] theorem Dev.camPort_setPulse (d : Dev) (k l : Nat) (x : Pulse) : (d.setPulse k x).camPort l = d.camPort l := rfl

@[simp] theorem Dev.capt_setPulse (d : Dev) (k l : Nat) (x : Pulse) : (d.setPulse k x).capt l = d.capt l := rfl

@[simp] theorem Dev.setPulse_now (d : Dev) (k : Nat) (x : Pulse) : (d.setPulse k x).now = d.now := rfl

@[simp] theorem Dev.setPulse_run (d : Dev) (k : Nat) (x : Pulse) : (d.setPulse k x).run = d.run := rfl

@[simp] theorem Dev.setPulse_jobs (d : Dev) (k : Nat) (x : Pulse) : (d.setPulse k x).jobs = d.jobs := rfl

@[simp] theorem Dev.setPulse_pins (d : Dev) (k : Nat) (x : Pulse) : (d.setPulse k x).pins = d.pins := rfl

@[simp] theorem Dev.setPulse_layer (d : Dev) (k : Nat) (x : Pulse) : (d.setPulse k x).layer = d.layer := rfl

@[simp] theorem Dev.capt_setCapt_self (d : Dev) (k : Nat) (x : Capt) : (d.setCapt k x).capt k = x := Tab.get_set_self ..

@[simp] theorem Dev.capt_setCapt_ne (d : Dev) (k l : Nat) (x : Capt) (h : l ≠ k) : (d.setCapt k x).capt l = d.capt l :=
  Tab.get_set_ne _ _ _ _ _ h

@[simp] theorem Dev.get_setCapt (d : Dev) (k : Nat) (x : Capt) (f : Fld) (i j : Nat) : (d.setCapt k x).get f i j = d.get f i j := rfl

@[simp] theorem Dev.fn_setCapt (d : Dev) (k l : Nat) (x : Capt) : (d.setCapt k x).fn l = d.fn l := rfl

@[simp] theorem Dev.src_setCapt (d : Dev) (k l : Nat) (x : Capt) : (d.setCapt k x).src l = d.src l := rfl

@[simp] theorem Dev.island_setCapt (d : Dev) (k l : Nat) (x : Capt) : (d.setCapt k x).island l = d.island l := rfl

@[simp] theorem Dev.chan_setCapt (d : Dev) (k l : Nat) (x : Capt) : (d.setCapt k x).chan l = d.chan l := rfl

@[simp] theorem Dev.sensor_setCapt (d : Dev) (k l : Nat) (x : Capt) : (d.setCapt k x).sensor l = d.sensor l := rfl

@[simp] theorem Dev.eng_setCapt (d : Dev) (k l : Nat) (x : Capt) : (d.setCapt k x).eng l = d.eng l := rfl

@[simp] theorem Dev.link_setCapt (d : Dev) (k l : Nat) (x : Capt) : (d.setCapt k x).link l = d.link l := rfl

@[simp] theorem Dev.tile_setCapt (d : Dev) (k l : Nat) (x : Capt) : (d.setCapt k x).tile l = d.tile l := rfl

@[simp] theorem Dev.axis_setCapt (d : Dev) (k l : Nat) (x : Capt) : (d.setCapt k x).axis l = d.axis l := rfl

@[simp] theorem Dev.enc_setCapt (d : Dev) (k l : Nat) (x : Capt) : (d.setCapt k x).enc l = d.enc l := rfl

@[simp] theorem Dev.cam_setCapt (d : Dev) (k l : Nat) (x : Capt) : (d.setCapt k x).cam l = d.cam l := rfl

@[simp] theorem Dev.camPort_setCapt (d : Dev) (k l : Nat) (x : Capt) : (d.setCapt k x).camPort l = d.camPort l := rfl

@[simp] theorem Dev.pulse_setCapt (d : Dev) (k l : Nat) (x : Capt) : (d.setCapt k x).pulse l = d.pulse l := rfl

@[simp] theorem Dev.setCapt_now (d : Dev) (k : Nat) (x : Capt) : (d.setCapt k x).now = d.now := rfl

@[simp] theorem Dev.setCapt_run (d : Dev) (k : Nat) (x : Capt) : (d.setCapt k x).run = d.run := rfl

@[simp] theorem Dev.setCapt_jobs (d : Dev) (k : Nat) (x : Capt) : (d.setCapt k x).jobs = d.jobs := rfl

@[simp] theorem Dev.setCapt_pins (d : Dev) (k : Nat) (x : Capt) : (d.setCapt k x).pins = d.pins := rfl

@[simp] theorem Dev.setCapt_layer (d : Dev) (k : Nat) (x : Capt) : (d.setCapt k x).layer = d.layer := rfl

/-! ### Memories -/

/-- Host memory outside the bytes written. -/
theorem Dev.host_write_out (d : Dev) (f a c : Nat) (bs : List Byte) (h : c < a ∨ a + bs.length ≤ c) :
    (d.hostWrite f a bs).host.read c = d.host.read c := Bytes.read_writeList_out _ _ _ _ h

/-- Host memory at the bytes written. -/
theorem Dev.host_write_in (d : Dev) (f a k : Nat) (bs : List Byte) (h : k < bs.length) :
    (d.hostWrite f a bs).host.read (a + k) = bs.getD k 0#8 := Bytes.read_writeList_in _ _ _ _ h

/-- DRAM outside the bytes written. -/
theorem Dev.dram_write_out (d : Dev) (a c : Nat) (bs : List Byte) (h : c < a ∨ a + bs.length ≤ c) :
    (d.dramWrite a bs).dram.read c = d.dram.read c := Bytes.read_writeList_out _ _ _ _ h

/-- DRAM at the bytes written. -/
theorem Dev.dram_write_in (d : Dev) (a k : Nat) (bs : List Byte) (h : k < bs.length) :
    (d.dramWrite a bs).dram.read (a + k) = bs.getD k 0#8 := Bytes.read_writeList_in _ _ _ _ h

end Sys2Proof.Machine
end

