-- ==== Sys2Proof/Laws/Completion.lean ====
section
/-! SUPPORT. Completions (R80, R86): what ending a descriptor does to the descriptors held and to the entries that wait in HOST. -/

namespace Sys2Proof.Machine
open Sys2Proof

theorem mem_insertEntry (e x : CplEntry) (l : List CplEntry) : x ∈ insertEntry e l ↔ x = e ∨ x ∈ l := by
  induction l with
  | nil => simp [insertEntry]
  | cons y ys ih =>
    unfold insertEntry
    split
    · simp
    · simp [ih]; tauto

theorem Dev.fn_showFlight (d : Dev) (f g : Nat) : (d.showFlight f).fn g = d.fn g := rfl
theorem Dev.fn_showHoldCq (d : Dev) (f g : Nat) : (d.showHoldCq f).fn g = d.fn g := rfl
theorem Dev.jobs_showHoldCq (d : Dev) (f : Nat) : (d.showHoldCq f).jobs = d.jobs := rfl
theorem Dev.fn_modJob (d : Dev) (i : Nat) (h : Job → Job) (g : Nat) : (d.modJob i h).fn g = d.fn g := rfl
theorem Dev.fn_dropJob (d : Dev) (i : Nat) (g : Nat) : (d.dropJob i).fn g = d.fn g := rfl
theorem Dev.fn_takePlace (d : Dev) (i : Nat) (g : Nat) : (d.takePlace i).fn g = d.fn g := rfl
theorem Dev.fn_freePlace (d : Dev) (i : Nat) (g : Nat) : (d.freePlace i).fn g = d.fn g := rfl

theorem Dev.waiting_setFn (d : Dev) (k f : Nat) (x : HostFn) (e : CplEntry) (h : e ∈ (d.fn f).waiting)
    (hx : ∀ e ∈ (d.fn k).waiting, e ∈ x.waiting) : e ∈ ((d.setFn k x).fn f).waiting := by
  by_cases hf : f = k
  · subst hf; simpa using hx e h
  · simpa [hf] using h

/-- Ending one descriptor keeps every waiting completion entry of every function. -/
theorem Dev.finishJob_waiting (d : Dev) (id code time f : Nat) (e : CplEntry) (h : e ∈ (d.fn f).waiting) :
    e ∈ ((d.finishJob id code time).fn f).waiting := by
  unfold Dev.finishJob
  split
  · exact h
  · dsimp only
    rw [Dev.fn_showFlight]
    split_ifs <;> simp only [Dev.fn_modJob, Dev.fn_dropJob, Dev.fn_showHoldCq, Dev.fn_bump, Dev.fn_freePlace, Dev.fn_takePlace] <;>
      first
      | exact h
      | (refine Dev.waiting_setFn _ _ _ _ _ h (fun e h => ?_); simp [mem_insertEntry, Dev.fn_takePlace] at h ⊢; exact Or.inr h)

/-- Ending one descriptor brings back none that the device no longer holds. -/
theorem Dev.finishJob_gone (d : Dev) (id code time k : Nat) (h : d.job k = none) : (d.finishJob id code time).job k = none := by
  unfold Dev.finishJob
  split
  · exact h
  · dsimp only
    have hm : ∀ j ∈ d.jobs, j.id ≠ k := by simpa [Dev.job] using h
    split_ifs <;> simp only [Dev.job, Dev.showFlight, Dev.jobs_showHoldCq, Dev.putB, Dev.put, Dev.modJob, Dev.dropJob, Dev.bump, Dev.freePlace, Dev.takePlace, Dev.setFn] <;> simp <;> grind

theorem Dev.settleMarks_keeps (d : Dev) (time : Nat) (P : Dev → Prop) (h : P d)
    (hl : ∀ d l, P d → P { d with layer := l }) (hf : ∀ d id code, P d → P (d.finishJob id code time)) : P (d.settleMarks time) := by
  unfold Dev.settleMarks
  extract_lets ms
  clear_value ms
  induction ms generalizing d with
  | nil => exact h
  | cons m ms ih =>
    refine ih _ ?_
    dsimp only
    split
    · exact h
    · exact hf _ _ _ (hl _ _ h)

theorem Dev.settleMarks_waiting (d : Dev) (time f : Nat) (e : CplEntry) (h : e ∈ (d.fn f).waiting) :
    e ∈ ((d.settleMarks time).fn f).waiting :=
  d.settleMarks_keeps time (fun d => e ∈ (d.fn f).waiting) h (fun _ _ h => h) (fun d id code h => d.finishJob_waiting id code time f e h)

theorem Dev.settleMarks_gone (d : Dev) (time k : Nat) (h : d.job k = none) : (d.settleMarks time).job k = none :=
  d.settleMarks_keeps time (fun d => d.job k = none) h (fun _ _ h => h) (fun d id code h => d.finishJob_gone id code time k h)

theorem Dev.dropJob_gone (d : Dev) (k : Nat) : (d.dropJob k).job k = none := by
  simp [Dev.job, Dev.dropJob]

theorem Dev.job_id {d : Dev} {k : Nat} {j : Job} (h : d.job k = some j) : j.id = k := by
  have := List.find?_some h
  simpa using this

/-- A descriptor that ends with an entry of its own. -/
theorem Dev.finishJob_done (d : Dev) (j : Job) (code time : Nat) (h : d.job j.id = some j) (hc : j.code = none) (hr : j.replay = false)
    (ho : j.orphan = false) (hq : j.noCqeOk = false) (hk : d.replayKept j = false) : (d.finishJob j.id code time).Done j code := by
  have hcode : ((lowCode j.code (if code = 0 then none else some code)).getD 0) = code := by
    rw [hc]; by_cases h0 : code = 0 <;> simp [h0, lowCode]
  have hh : ∃ d₁ : Dev, d.finishJob j.id code time =
      (((d₁.setFn j.fn { d₁.fn j.fn with waiting := insertEntry (d₁.entryOf j code time) (d₁.fn j.fn).waiting }).showHoldCq j.fn |>.dropJob j.id).showFlight j.fn) := by
    refine ⟨if j.status = .staged then d.takePlace j.fn else d, ?_⟩
    unfold Dev.finishJob
    simp only [h, hcode, hr, ho, hq, hk, Bool.false_eq_true, if_false, and_false]
  obtain ⟨d₁, hd⟩ := hh
  rw [hd]
  refine ⟨?_, d₁.entryOf j code time, ?_, ?_⟩
  · change (((d₁.setFn _ _).showHoldCq j.fn).dropJob j.id).job j.id = none
    exact Dev.dropJob_gone _ _
  · rw [Dev.fn_showFlight, Dev.fn_dropJob, Dev.fn_showHoldCq, Dev.fn_setFn_self]
    exact (mem_insertEntry ..).mpr (Or.inl rfl)
  · simp [Dev.entryOf]

theorem Dev.Done.settle {d : Dev} {j : Job} {code : Nat} (h : d.Done j code) (time : Nat) : (d.settleMarks time).Done j code :=
  ⟨d.settleMarks_gone time _ h.gone, h.entry.imp fun e he => ⟨d.settleMarks_waiting time _ e he.1, he.2⟩⟩

theorem Dev.Done.finish {d : Dev} {j : Job} {code : Nat} (h : d.Done j code) (id c time : Nat) : (d.finishJob id c time).Done j code :=
  ⟨d.finishJob_gone _ _ _ _ h.gone, h.entry.imp fun e he => ⟨d.finishJob_waiting _ _ _ _ e he.1, he.2⟩⟩

theorem Dev.Done.completeAt {d : Dev} {j : Job} {code : Nat} (h : d.Done j code) (id c time : Nat) : (d.completeAt id c time).Done j code :=
  (h.finish _ _ _).settle _

theorem Dev.complete_done (d : Dev) (j : Job) (code : Nat) (h : d.job j.id = some j) (hc : j.code = none) (hr : j.replay = false)
    (ho : j.orphan = false) (hq : j.noCqeOk = false) (hk : d.replayKept j = false) : (d.complete j.id code).Done j code :=
  (d.finishJob_done j code d.now h hc hr ho hq hk).settle _

/-- `Done` looks only at the descriptors held and the functions' waiting entries. -/
theorem Dev.Done.of {d d' : Dev} {j : Job} {code : Nat} (h : d.Done j code) (hj : d'.jobs = d.jobs) (hf : d'.hostFns = d.hostFns) : d'.Done j code := by
  constructor
  · simpa [Dev.job, hj] using h.gone
  · simpa [Dev.fn, hf] using h.entry

theorem Dev.begin_begun (d : Dev) (j : Job) (h : d.job j.id = some j) : (d.begin' j).Begun j d.now := by
  unfold Dev.Begun Dev.begin' Dev.modJob Dev.job at *
  rw [List.find?_map]
  have : (fun x : Job => x.id == j.id) ∘ (fun x => if (x.id == j.id) = true then { x with status := .executing, started := d.now } else x)
      = fun x => x.id == j.id := by
    funext x; simp only [Function.comp]; split <;> simp_all
  simp only [this, h]
  simp

theorem Dev.withJob_takes {d : Dev} {id op : Nat} {j : Job} (h : d.Takes id op j) (f : Dev → Job → Dev) : d.withJob id op f = f d j := by
  simp [Dev.withJob, h.held, h.opcode, h.taken, h.live]

theorem Dev.Takes.id_eq {d : Dev} {id op : Nat} {j : Job} (h : d.Takes id op j) : j.id = id := Dev.job_id h.held
theorem Dev.Takes.self {d : Dev} {id op : Nat} {j : Job} (h : d.Takes id op j) : d.job j.id = some j := by rw [h.id_eq]; exact h.held

/-- Completion of a taken descriptor. -/
theorem Dev.Takes.complete {d e : Dev} {id op : Nat} {j : Job} (h : d.Takes id op j) (code : Nat) (hj : e.jobs = d.jobs)
    (hs : e.get .SYS_LAYER_STAT_STATE = d.get .SYS_LAYER_STAT_STATE) : (e.complete id code).Done j code := by
  rw [← h.id_eq]
  refine e.complete_done j code ?_ h.code h.replay h.orphan h.entry ?_
  · have := h.self; simpa [Dev.job, hj] using this
  · have := h.kept; simpa [Dev.replayKept, hs] using this

end Sys2Proof.Machine
end

