-- ==== Sys2Proof/Laws/Exec.lean ====
section
/-! SUPPORT. Every command at once: it answers a next state with the queue as it was, and what each can change. -/

namespace Sys2Proof

set_option Elab.async false

/-- The parts and register fields a command can change, as a mask of Laws/Frame.lean. -/
def Instr.mask : Instr → Nat
  | .registerWrite .. => 0x1ffffffffffffffffffffffffffffffffffffffffffffffffffffffffffffffffffffffffffffffffffffffffffffffffffffffffffffffffffffffffffffffffffffffffffffffffffffffffffffffffffffffffffffffffffffffffffffffff000003ffef2bbd07
  | .sysLockSet .. => 0x80000000000000000020000000000000000000003
  | .sysIslTofsRead .. => 0x400000000000000000000800003
  | .timNowNsRead .. => 0x8000000000000000000000000000000000000000000000000000000000000000000000000000000000000000000000000000000000000000400000000000000000000800003
  | .encIdxErrRead .. => 0x8000000000000000000000000000000000000000000000000000000000000000000000000000000000000000000000000000000000000000400000000000000000000800003
  | .sysIslCfgWrite .. => 0x80000000000000142800000000000000000010003
  | .islandRelockDone .. => 0x5002000000000000000800000000000000000000000000000000000000000000000000000000000000000000000000000000000000000000002000000000000000000000000000000000000100030c001410000000008a0000001107000000000000000006031d03
  | .dowelPulse .. => 0x19c0200c0003800000008006088000100804000000000f000800001de0000004001080000000807800000000000000000200400000000000000f8000040023c400000c4000000001508000c0300030c201410003680008a000000471e00000000000002ffaf639d3b
  | .holdoverEntry .. => 0x8000000000000000000000003
  | .bridgeErr .. => 0x19c0200000038000000080060880001008040000000000000000001de0000004001080000000807800000000000000000000400000000000000f8000040023c400000c4000000001108000c0300030c201410003680008a000000418600000000000002e3af639d33
  | .safeStopAssert .. => 0x20000000000000000006080000000004000000000000000000000000000000000000000000200000000000000000000040000000000000000000000023c400000c40000000015c800080100030c201400000000008a00000000000000000000000001af029503
  | .safeStopEnd .. => 0x4000000000000000000000000000000000000000000000000000000001000003
  | .gasOkLow .. => 0x23c4400000000000000010000000100000000000000000000000000000000000000000000000001000003
  | .gasOkHigh .. => 0x400000000000000000000000000000000000000000000000000000000000000000000000001000003
  | .layerOpen .. => 0x5002000000200000001800608000000000400000000000000000000000000000000000000000000000000000000000000300000001024100002003004003c0000000fc000000001c0060040100030c201410000000008a00013871060000000000000302fe279d07
  | .epochSweepDone .. => 0x5002000000000000000800608000000000000000000000000000000000000000000000000000000000000000000000000000000000000f00002000000000000000000000000000000000000100030c201410000000008a0000001106000000000000000046039d03
  | .layerMark .. => 0x100200000020000000080060800000000040000000000000000000000000000000000000000000000000000000000000000000000000000000200000000000000000c400000000000000040100030c201410000000008a00000001060000000000000000ae239d03
  | .phaseEnd .. => 0x2000000000000000000608000000000000000000000000200000000000000000000000000000000000000000000000000000000000000000000000000000000004000000000000000000000030c201400000000008a000103700000000000000000300e029503
  | .exposeStart .. => 0x30c00140000000000020000001000000000000000020006001003
  | .layerClose .. => 0x20000000000000000000000000000000000000000000000000000000000000000000000000000000000000000000000000000000000000000000000000000000000000000000000000000000000000000000000008a0000000000000000000000000000020503
  | .layerResume .. => 0x2000000000000000000000000000000000000000000000000000000000000000000000000000000000000000000000000000000000000000000000000000000000000000000000000000000030c001400000000008a000000700000000000000000008e021503
  | .barrierReady .. => 0x2000000000000000000608000000000000000000000000200000000000000000000000000000000000000000000000000000000008000000000000000002000004400000000000000000000030c201407800000008a000101100000000000000000102e029503
  | .barrierRelease .. => 0x2000000000000000000000000000000000000000000000200000000000000000000000000000000000000000000000000000000000000000000000000000000000000000000000000000000030c001400000000008a0000001000000000000000001006021503
  | .barrierWaitReminder .. => 0x608000000000000000000000000000000000000000000000000000000000000000000000000000000000000000000000000000000000000000000000000000000000030c20140000000000020000000000000000000000000006029003
  | .midLayerRebase .. => 0x608000000000000000000000000000000000000000000000000000000000000000000000000000000000000000000000000000000000000000000000000000000000030c20140000000000020000008000000000000000000006029003
  | .rebaseSweepStart .. => 0x1024100000000000000000000000000000000000000000000000000000000000000000000300000000000000000020040020003
  | .sqEnable .. => 0x1000080000060078000000400000000000000000000c03
  | .sqDisable .. => 0x1000080000060078000000400000000000000000000c03
  | .cqEnable .. => 0x800000c0600000000400000000000000000000403
  | .cqDisable .. => 0x800000c0600000000400000000000000000000403
  | .dbBaseWrite .. => 0x80000041800000000400000000000000000000003
  | .pollEnable .. => 0x8000006e000000000400000000000000000000403
  | .doorbellPoll .. => 0x6080000000000000000000300000000002000000400008000000000200000000000000000020040000000000000000000000023c4000004000000000150800080100030c2014000036800003000000400000000000000000efae429413
  | .pollSnapshot .. => 0x6080000000000000000000300000000002000000400008000000000200000000000000000020040000000000000000000000023c4000004000000000150800080100031c641c00003680003a000000400000000000000000efae02b403
  | .pollFailTimeout .. => 0x19c0200000038000000080060880001008040000000000000000001de0000004001080000000807800000000000000000000400000000000000f8000040023c400000c4000000001108000c0300030c201410003680008a000000410600000000000002e3af639d33
  | .descriptorFetch .. => 0x20000000000000000006080000000000000000000300000000002000000400008000000000200000000000000000020040000000000000000000000023c4000004000000000150800080100030c20140000368000ca004000400000000000000000efae029703
  | .slotsStaged .. => 0x6080000000000000000000300000000002000000400008000000000200000000000000000020040000000000000000000000023c4000004000000000150800080100030c2014100036800002000000400000000000000000efae429f13
  | .payloadStaged .. => 0x1000000000000000000000000000000000000000000903
  | .descriptorDispatch .. => 0x20000000000000000000000000000000000000000000000000000000000000000000000000000000000000000000000000000000000000000000000000000000000000000000000000000000000000000000000008a0000000000000000000000000000020503
  | .descriptorTake .. => 0x20000000000000000000000000000000000000000000000000000000000000000000000000000000000000000000000000000000000000000000000000000000000000000000000000000000000000000000000008a0000000000000000000000000000020503
  | .completionWrite .. => 0x6080000000000000000000300000000002000000400008000000000200000000000000000020040000000000000000000000023c4000004000000000150800080100030c201400003680008a000000400000000000000000efae429413
  | .busMasterDisable .. => 0x403
  | .busMasterEnable .. => 0x1000000000000000000800000000000000000000000000000000000000000000000000000000000000000000000000000000000000000000002000000000000000000000000000000000000100000000001000368000000000004106000000000000000000430c13
  | .vfDisable .. => 0x6080000000000000000000300000000002000000400008000000000200000000000000000020040000000000000000000000023c4000004000000000150800080100030c2014000036800002000000400000000000000000efae429403
  | .winOwnWrite .. => 0x6080000000000000000000300000000002000000400008000000000200000000000000000020040000000000000000000000023c4000004000000000150800080100030c201408003e87c002000000400000000000000000efae029403
  | .winCfgWrite .. => 0x6080000000000000000000300000000002000000400008000000000200000000000000000020040000000000000000000000023c4000004000000000150800080100030c201408003e803c02000000400040000000000000efae029403
  | .winStageWrite .. => 0x6080000000000000000000300000000002000000400008000000000200000000000000000020040000000000000000000000023c4000004000000000150800080100030c201408003e980002000000400000000000000000efae029403
  | .moverStart .. => 0x6080000000000000000000300000000002000000400008000000000200000000000000000020040000000000000000000000023c4000004000000000150800080100030c2014100036800002000000400000000000000000efae029d03
  | .fifoRefillDone .. => 0x80000000000000000000000000000000000000000000000000008000103
  | .freezeGateTimeout .. => 0x6080000000004000000000300000000002000000400008000000000200000000000000000020040000000000000000000000023c400000c400000000150800080100030c2014000000000002000000000000000000000000efae029403
  | .freezeSafe .. => 0x20000000000000000006080000000004000000000300000000002000000400008000000000200000000000000000020040000000000000000000000023c400000c40000000015080008010003ffffffc000038000fffffe00000000000000000000efae02b507
  | .unfreezeFunction .. => 0x1c06080801cb8000020440000000000000000000000000002403
  | .unfreezePeer .. => 0x80080000000000000000000000000000000000000003
  | .vecBlock .. => 0x20000000000000000000000000000000000000000000000000000000000000000000000000000000000000000000000000000000000000000000000000000000000000000000000000000000000000000000000008a0000000000000000000000000008020503
  | .vecInline .. => 0x20000000000000000000000000000000000000000000000000000000000000000000000000000000000000000000000000000000000000000000000000000000000000000000000000000000000000000000000008a0000000000000000000000000008020503
  | .engPark .. => 0x2000ffe000000000000000000000000000000000000000000000000000000000000000000000000000000000000000000000000000000000000004000000000000000000000200000000101fc00000000000000008a0000000000000000000000000008220507
  | .engLimits .. => 0x20000000000000000000000000000000000000000000000000000000000000000000000000000000000000000000000000000000000000000000000000000000000000000000000000000000000000000000000008a0000000000000000000000000008020503
  | .recordEnterLookahead .. => 0x2000ffe000000000000608000000000000000000000000000000000000000000000000000000000000000000000000000000000000000000000004000000000013000000080240000080101ff0c201400000000008a000000000000000000000000000e229507
  | .kerfRequest .. => 0x6080000000000000000000000000000000000000000000000000000000000000000000000000000000000000000000000000023c4000000400000000010000000100030c2014000000000002000000000000000000000000002e009003
  | .recordStart .. => 0x2000ffe000000000000000000000000000000000000000000000000000000000000000000000000000000000000000000000000000000000000004000000000000000000000342870118101ff0c001400000000008a000000000000000000000000000e221507
  | .recordEnd .. => 0x2000ffe0000000000006080000000004000000000000000000000000000000000000000000000000000000000000000000000000000000000000040023c400000c4000000003708501b3f01ff0c201420000000008a000000000000000000000000003e229507
  | .parkDone .. => 0x2000ffe000000000000000000000000000000000000000000000000000000000000000000000000000000000000000000000000000000000000004000000000000000000000200000000101fc00000000000000008a0000000000000000000000000008220507
  | .setpointFrame .. => 0xffe000000000000000000000000000000000000000000000000000000000000000000000000000000000000000000000000000000000000004000000000000000000100340841e10000000000000000000000000000000000000000000000000018200007
  | .returnFrame .. => 0x20000000000000000006080000000004000000000000000000000000000000000000000000000000000000000000000000000000000000000000000023c400000c40000000013080e0a3f00030c201400000000008a000000000000000000000000003e029503
  | .linkUpTimeout .. => 0x20000000000000000006080000000004000000000000000000000000000000000000000000000000000000000000000000000000000000000000000023c400000c4000000001308000a3f00030c201400000000008a000000000000000000000000003e029503
  | .linkLossFault .. => 0x20000000000000000006080000000004000000000000000000000000000000000000000000000000000000000000000000000000000000000000000023c400000c4000000001308000a3f00030c201400000000008a000000000000000000000000003e029503
  | .gateCompareHit .. => 0x6080000000000000000000000000000000000000000000000000000000000000000000000000000000000000000000000000000000000000000000001c3840010000030c2014000000000002000000000000000000000000000e009007
  | .gateMonFault .. => 0x20000000000000000006080000000004000000000000000000000000000000000000000000000000000000000000000000000000000000000000000023c400000c4000000001308000a3f00030c201400000000008a000000000000000000000000003e029503
  | .corLoad .. => 0x200000000000000000000000000000000000000000000000000000000000000000000000000000000000000000000000000000000000000000000000000000000000003f8600000000000000000000000000000008a0000000000000000000000000008020503
  | .corLoadDone .. => 0x5002000ffe0000000008006080000000000000000000000000000000000000000000000000000000000000000000000000000000000000000020000040023c400000000003fae0210000080101ff0c201410000000008a000000110600000000000000002e239d07
  | .corSwap .. => 0x200000000000000000000000000000000000000000000000000000000000000000000000000000000000000000000000000000000000000000000000000000000000003f8600000000000000000000000000000008a0000000000000000000000000008020503
  | .corBankSwap .. => 0x5002000ffe0000000008006080000000000000000000000000000000000000000000000000000000000000000000000000000000000000000020000040023c400000000003f8f0210000080101ff0c201410000000008a000000110600000000000000002e239d07
  | .corSave .. => 0x20000000000000000000000000000000000000000000000000000000000000000000000000000000000000000000000000000000000000000000000000000000000000000000000000000000000000000003680008a0000004000000000000000000000420513
  | .corEccError .. => 0x19c02000ffe38000000080060880001008040000000000000000001de0000004001080000000807800000000000000000000400000000000000f8000040023c400000c40003fce03108000c0301ff0c201410003680008a000000410600000000000002e3af639d37
  | .scarfYield .. => 0x6080000000004000000000000000000000000000000000000000000000000000000000000000000000000000000000000000023c400000cc00000000010000000100030c2014000000000002000000000000000000000000002e009003
  | .scarfNotice .. => 0x60800000000040000000000000000000000000000000000000000000000000000000000000000000000000800000000000000000200000c400000000000000000000030c2014078000000002000000000000000000000000002e009003
  | .takeoverPass .. => 0x608000000000000000000000000000000000000000000000000000000000000000000000000000000000000000000000000000000000004400000000000000000000030c2014000000000002000000000000000000000000000e009003
  | .scarfContactLoss .. => 0x608000000000000000000000000000000000000000000000000000000000000000000000000000000000000000000000000000000000024400000000000000000000030c2014000000000002000000000000000000000000002e009003
  | .kerfGrant .. => 0x27c4000000000000000010000000100000000000000000000000000000000000000000000000026000003
  | .requestStarving .. => 0x608000000000000000000000000000000000000000000000000000000000000000000000000000000000000000000000000002bc4000000000000000010000000000030c20140000000000020000000000000000000000000026009003
  | .reorderUnit .. => 0x37c400000000000000001000000010000000000000000000000000000000000000000000000002e000003
  | .kerfHaloSend .. => 0x6000003
  | .kerfHalo .. => 0x608000000000000000000000000000000000000000000000000000000000000000000000000000000000008000000000000002bce800004400000000010000000000030c2014078000000002000000000000000000000000002e009003
  | .grantArmed .. => 0x23c4000000000000000010000000000000000000000000000000000000000000000000000000020000003
  | .kerfPeerSilent .. => 0x608000000000000000000000000000000000000000000000000000000000000000000000000000000000000000000000000000002000000000000000000000000000030c20140000000000020000000000000000000000000006009003
  | .frozenClaimExpire .. => 0x20000003
  | .meltPoolTick .. => 0x608000000000000000000000000000000000000000000000000000000000000000000000000000000001035000000803f08000000000000000000000140840010000030c2014000000000002000000000000000000000002004e00900f
  | .feedbackLost .. => 0x608000000000000000000000000000000000000000000000000000000000000000000000000000000000000000000000034000000000000000000000000000000000030c2014000000000002000000000000000000000000000e009003
  | .intClr .. => 0x800000000000000000000000000000000000000000000000000080000000000000000000000000000000000000003
  | .grnGeomWrite .. => 0x800f00000000000000000000000000000000000000000000000000000080000000000000000000000000000000040000003
  | .grainHaloSend .. => 0x10a4000000000000000000000000000000000000000000000000000000000000000000000000000000000000000020046000003
  | .grainHalo .. => 0x60800000000000000000000000000000000000000000000000000000000000000000000000000000000107f000000000000000002000004400000000000000000000030c2014078000000002000000000000000000000002006e009003
  | .grainPeerSilent .. => 0x8000000000000000000000000000000000000000000000000000000000000000000000000000000000000000000000000003
  | .grnSave .. => 0x20000000000000000000000000000000000000000000000000000000000000000000000000000000000000000000000000000010240000000000000000000000000000000000000000000000000000000003680008a0000004000000000000000020040420513
  | .grnLoad .. => 0x20000000000000000000000000000000000000000000000000000000000000000000000000000000000000000000000000000000000000000000000000000000000000000000000000000000000000000000000008a0000000000000000000000020040020503
  | .vnrFrame .. => 0x20000000000000000000000000000000000000000000000000000000000000000000000000000000000000000000000000000000000000000000000000000000000000000000000000000000000000000000000008a0000000000000000000000000080020503
  | .vnrAttach .. => 0x20000000000000000006080000000000000000000000000000000000000000000000000000000000000100f0098002444000000000000000000000000000000000000000000000000000000030c201400000000008a0000000000000000000000000086029503
  | .vnrDetach .. => 0x20000000000000000000000000000000000000000000000000000000000000000000000000000000000000000000020040000000000000000000000000000000000000000000000000000000000000000000000008a0000000000000000000000000080020503
  | .veneerSlotStart .. => 0x200000000000000000060800000000000000000000000000000000000000000000000000000000000000000000000259c000000000000000000000000000000000000000000000000000000030c201400000000008a0000000000000000000000000086029503
  | .veneerLinePeriod .. => 0x200000000000000000000000000000000000000000000000000000000000000000000000000000000000000000000000000000080000003
  | .frameSendDone .. => 0x60800000000000000000000000000000000000000000000000000000000000000000000000008c000000000000000000000000000000000000000000000000000000030c20140000000000020000000000000000000000000086009003
  | .lineBufferEccError .. => 0x19c0200000038000000080060880001008040000000000000000001de0000004001080000000807800000000000000000000400000000000000f8000040023c400000c4000000001108000c0300030c201410003680008a000000410600000000000002e3af639d33
  | .tileStatus .. => 0x6080000000000000000000000000000000000000000000000000000000000000101ff0bc000440000000000000000000000000000000000000000000000000000000030c20140000000000020000000000000000000000000086009003
  | .tileLinkFault .. => 0x2000000000000000000608000000000000000000000000000000000000000000000000000000000000000000104002004000000000000000000000000000000000000000000000000000000030c201400000000008a0000000000000000000000000086029503
  | .tileAlarm .. => 0x608000000000000000000000000000000000000000000000000000000000000010300080000000000000000000000000000000000000000000000000000000000000030c20140000000000020000000000000000000000000086009003
  | .tileVolt .. => 0x608000000000000000000000000000000000000000000000000000000000000000180040000000000000000000000000000000000000000000000000000000000000030c20140000000000020000000000000000000000000086009003
  | .probeSweep .. => 0x40000000000000000000000000000000000000000000000000000000000000000000000000000000000000000000000000000000000000080000007
  | .probeResult .. => 0x200000000000000000060800000000000000000000000000000000000000000000000000000000000000f920400002004000000000000000000000000000000000000000000000000000000030c201400000000008a0000000000000000000000000086029503
  | .stopListClear .. => 0xf800600000000000000000000000000000000000000000000000000000000000000000000000000080000000000000000000000000000000000000007
  | .veneerDeposit .. => 0x10350000000000000000000000000000000000000000000000000000000000000000000000000000000000000000200c8000003
  | .axMove .. => 0x2000000000000000000000000000000000000000000000000000000000000000000000000c2000000f0000000000000000000000000000000000000000000000000000000000000000000000000000000000000008a0000000000000000000000000100020503
  | .axHome .. => 0x2000000000000000000000000000000000000000000000000000000000000010000000000c6000000f0000000000000000000000000000000000000000000000000000000000000000000000000000000000000008a0000000000000000000000000100020503
  | .axStop .. => 0x20000000000000000000000000000000000000000000000000000000000000000000000000000000000000000000000000000000000000000000000000000000000000000000000000000000000000000000000008a0000000000000000000000000100020503
  | .axLimits .. => 0x20000000000000000000000000000000000000000000000000000000000000000000000000000000000000000000000000000000000000000000000000000000000000000000000000000000000000000000000008a0000000000000000000000000100020503
  | .axisMoveDone .. => 0x20000000000000000000000000000000000000000000000000000000000000100000000000780000000000000000000000000000000000000000000000000000000000000000000000000000000000000000000008a0000000000000000000000000300020503
  | .stall .. => 0x20000000000000000006080000000000000000000000000000000000000000100000000000f8000000000000000000000000000000000000000000000000000000000000000000000000000030c201400000000008a0000000000000000000000000106029503
  | .coilFault .. => 0x2000000000000000000608000000000000000000000000000000000000000010000000008378000000000000000000000000000000000000000000000000000000000000000000000000000030c201400000000008a0000000000000000000000000106029503
  | .homePressDone .. => 0x800000000000000000000000000000000000000000000000000000000000000000000000000000000000000000000000000000000000000000000000000100000003
  | .homeNoStop .. => 0x100000003
  | .holdDelayExpire .. => 0x100000003
  | .axisEnable .. => 0x20000000020000000000000000000000000000000000000000000000000000000000000000000000000000000080000000000000000000000000000000100000003
  | .axisDisable .. => 0x20000000000000000000000000000000000000000000000000000000000000100000000080780000000200000000000000000000000000000000000000000000000000000000000000000000000000000000800008a0000000000000000000000000100020503
  | .encoderEdge .. => 0x2000000000000000000608000000000000000000000000000000000000000025bc3500000000000000000000000000000000000000000000000000000000000000000000000000000000000030c201400000000008a0000000000000000000000000206029503
  | .encCmpPulseEnd .. => 0x200000003
  | .encoderIndex .. => 0x60800000000000000000000000000000000000000000241c200000000000000000000000000000000000000000000000000000000000000000000000000000000000030c20140000000000020000000000000000000000000206009003
  | .encoderStandstill .. => 0x608000000000000000000000000000000000000000020030100000000000000000000000000000000000000000000000000000000000000000000000000000000000030c20140000000000020000000000000000000000000206009003
  | .followError .. => 0x2000000000000000000608000000000000000000000000000000000000000018000000000078000000000000000000000000000000000000000000000000000000000000000000000000000030c201400000000008a0000000000000000000000000306029503
  | .encCmp .. => 0x20000000000000000000000000000000000000000000000000000000000000000000000000000000000000000000000000000000000000000000000000000000000000000000000000000000000000000000000008a0000000000000000000000000100020503
  | .encCmpStop .. => 0x20000000000000000000000000000000000000000000000000000000000000000000000000000000000000000000000000000000000000000000000000000000000000000000000000000000000000000000000008a0000000000000000000000000100020503
  | .encSync .. => 0x20000000000000000000000000000000000000000000000000000000000000000000000000000000000000000000000000000000000000000000000000000000000000000000000000000000000000000000000008a0000000000000000000000000100020503
  | .encoderEnable .. => 0x10000000000000000000000000000000000000000000000000000000000000000000000000000000000000000000080000000000000000000000000000000200000003
  | .encoderDisable .. => 0x20000000000000000000000000000000000000000000000000000000000000008100000100000000000000000000000000000000000000000000000000000000000000000000000000000000000000000000800008a0000000000000000000000000300020503
  | .camCapture .. => 0x20000000000000000000000000000000000000000000000000002000000000000000000000000000000000000000000000000000000000000000000000000000000000000000000000000000000000000000000008a0000000000000000000000002000020503
  | .camReproc .. => 0x20000000000000000000000000000000000000000000000000000000000400000000000000000000000000000000000000000000000000000000000000000000000000000000000000000000000000000000000008a0000000000000000000000008000020503
  | .camTable .. => 0x2000000103
  | .camStop .. => 0x20000000000000000000000000000000000000000000000000002000000000000000000000000000000000000000000000000000000000000000000000000000000000000000000000000000000000000000000008a0000000000000000000000002000020503
  | .camTrigger .. => 0x2000000000000000000000000000000000000000000000000000200000000000000000000000000000000000000000000000000000000000000000000000000000000000000000000000000030c001400000000008a0000000000000000000000002406021503
  | .csiFrameStart .. => 0x200000000000000000060800000000000000000000000000001de0000007d000000000000000000000000000000000000000000000000000000000000000000000000000000000000000000030c201400003680008a000000400000000000000000e006429537
  | .csiLine .. => 0x2e00000000000000000000000000000000000000000000000000000000000000000000000000000000000000000000000000000000000000000000000000000000000004000000023
  | .csiFrameEnd .. => 0x200000000000000000060800000000000000000000000000001de00000078000000000000000000000000000000000000000000000000000000000000000000000000000000000000000000030c201400003680008a000000400000000000000000e006429537
  | .camFrameTimeout .. => 0x200000000000000000060800000000000000000000000000001de00000078000000000000000000000000000000000000000000000000000000000000000000000000000000000000000000030c201400003680008a000000400000000000000000e006429537
  | .camPortReset .. => 0x10c0200000000000000000060800000000000000000000000000001de00000078000000000000000000000000000000000000000000000000000000000000000000000000000000000000000000030c201400003680008a000000400000000000000000e006429537
  | .pipelineEntryStart .. => 0x40000000000000000000000000000000000000000000000000000000000000000000000000000000000000000000000000000000000000000000000000000000000000008000000003
  | .pipelineFrameDone .. => 0x200000000000000000060800000000000000000000000000001de00000000000000000000000000000000000000000000000000000000000000000000000000000000000000000000000000030c201400003680008a000000400000000000000000a006429533
  | .camInlineWrite .. => 0x38000000000000000000000000000000000000000000000000000000000000000000000000000000000000000000000000000000080000000000000000000000000000008000000007
  | .ptpSync .. => 0x608000000000000000000001804300000000000000000000000000000000000000000000000000000000000000000000000000000000000000000000000000000000030c2014000000000002000000000000000000000000102600900b
  | .ptpAnnounce .. => 0xc03100000000000000000000000000000000000000000000000000000000000000000000000000000000000000000000000000000000030c00140000000000020000000000000000000000001026001003
  | .ptpPdelayReq .. => 0x80000000000000000000000000000000000000000000000000000000000000000000000000000000000000000000000000000000000000000000000000000000000000000000000000000000102000000b
  | .ptpPdelayResp .. => 0xa00000000000000000000000000000000000000000000000000000000000000000000000000000000000000000000000000000000000000000000000000000000000000000000000000000001020000003
  | .ptpSyncSend .. => 0x1000000003
  | .ptpAnnounceSend .. => 0x1000000003
  | .ptpPdelaySend .. => 0x1000000003
  | .ptpAnnounceTimeout .. => 0x608000000000000000000000403500000000000000000000000000000000000000000000000000000000000000000000000000000000000000000000000000000000030c20140000000000020000000000000000000000001006009003
  | .timPulse .. => 0x20000000000000000000000000000000000000000b00000000000000000000000000000000000000000000000000000000000000000000000000000000000000000000000000000000000000000000000000000008a0000000000000000000000000400020503
  | .timCapture .. => 0x20000000000000000000000000000000000000000000000000000000000000000000000000000000000000000000000000000000000000000000000000000000000000000000000000000000000000000000000008a0000000000000000000000000800020503
  | .timSet .. => 0x20000000000000000000000000000000000000000000000000000000000000000000000000000000000000000000000000000000000000000000000000000000000000000000000000000000000000000000000008a0000000000000000000000001000020503
  | .timepulseRise .. => 0x2000000000000000000000000000000000000000020000000000000000000000000000000000000000000000000000000000000000000000000000000000000000000000000000000000000030c001400000000008a0000000000000000000000000406021503
  | .timepulseFall .. => 0x400000003
  | .timecaptureEdge .. => 0x2000000000000000000000000000000000000000300000000000000000000000000000000000000000000000000000000000000000000000000000000000000000000000000000000000000030c001400003680008a0000004000000000000000000806421513
  | .fabricLaunch .. => 0x80000000000000000000000000000000000000000000000000000000000000000000001024000000000000000000000000000000000000000000000000000000000000000000000000000000000000000030046000003
  | .hello .. => 0x608000000001805802c00000000000000000000000000000000000000000000000000000000000000000000000000000000000000000000000000000000000000000030c20140000000000020000000000000000000000010027009003
  | .helloSend .. => 0x10006000003
  | .neighbourLost .. => 0x1802802000000000000000000000000000000000000000000000000000000000000000000000000000000000000000000000000000000000000000000030c00140000000000020000000000000000000000010006001003
  | .blockLockLost .. => 0x1813e02400000000000000000000000000000000000000000000000000000000000000000000000000000000000000000000000000000000000000000030c00140000000000020000000000000000000000010007001007
  | .blockLockGained .. => 0x1600000000000000000000000000000000000000000000000000000000000000000000000000000000000000000000000000000000000000000000000000000000000000000000000000000000000000010001000007
  | .route .. => 0x1800002000000000000000000000000000000000000000000000000000000000000000000000000000000000000000000000000000000000000000000000000000000000000000000000000000000000000010020000003
  | .routeSend .. => 0x10006000003
  | .joinEnable .. => 0x608000000001801003403c300000000002000000400008000000000200000000000000000020040000000000000000000000023c4000004000000000150800080100030c201400003e800002000000400000000000000001efaf029403
  | .claimDone .. => 0x608000000001801002e00000000000000000000000000000000000000000000000000000000000000000000000000000000000000000000000000000000000000000030c20140000000000020000000000000000000000010007009003
  | .broadcastRepeat .. => 0x10006000003
  | .join .. => 0x608000000003a01002c00000000000000000000000000000000000000000000000000000000000000000000000000000000000000000000000000000000000000000030c20140000000000020001000000000000000000010027009003
  | .leave .. => 0x2000000000000000000608000000002200000000000000200000000000000000000000000000000000000000000000000000000008000000000000000002000000000000000000000000000030c201400000000008a0001011000000000000000011026029503
  | .fabForward .. => 0x388000000000000000000000000000000000000000000000000000000000000000000000000000000000000000000000000000000000000000000000000000000000000000000000000000000000000000010022000003
  | .fabWrite .. => 0x20000000000000000000000000000000000000000000000000000000000000000000000000000000000000000000000000000000000000000000000000000000000000000000000000000000000000000000000008a0000000000000000000000010006020503
  | .bulkWrite .. => 0x608000000000000000000000000000000000000000000000000000000000000000000000000000000000008000000000000000002000004400000000000000000000030c2014078000000002000000000000000000000001002e009023
  | .bulkAck .. => 0x20000000000000000000000000000000000000000000000000000000000000000000000000000000000000000000000000000000000000000000000000000000000000000000000000000000000000000000000008a0000000000000000000000010022020503
  | .bulkResendTimeout .. => 0x20000000000000000000000000000000000000000000000000000000000000000000000000000000000000000000000000000000000000000000000000000000000000000000000000000000000000000000000008a0000000000000000000000010002020503
  | .fabLeave .. => 0x20000000000000000000000000000000010004010000000000000000000000000000000000000000000000000000000000000000000000000000000000000000000000000000000000000000000000000000000008a0000000000000000000000010007020503
  | .leaveDone .. => 0x20000000000000000000000000000018010024010000000000000000000000000000000000000000000000000000000000000000000000000000000000000000000000000000000000000000000000000000000008a0000000000000000000000010003020503
  | .fabEvict .. => 0x2000000000000000000608000000002000000000000000200000000000000000000000000000000000000000000000000000000008000000000000000002000000000000000000000000000030c201400000000008a0001011000000000000000011026029503
  | .fenceInAssert .. => 0x20000000000000000000000000111800000000000000000000002000000400108000000080780000000000000000000000000000000000000000000023c40000000000000001108000800000000000000000000008a000000000000000000000002e3af020503
  | .fenceInRelease .. => 0x1080000000000000000000000000000000000000000000000000000000000000000000000000000000000000000000000000000000000000000000000000000000000000000000000000000000000000000000020001000003
  | .hingeStartupTimeout .. => 0x80000000000000000000000000000000000000000000000000000000000000000000000000000000000000000000000000000000000000000000000000000000000000000000000000000000000000000000000001000003
  | .mirrorCapture .. => 0x80000000000000000000000000000000000000000000000000000000000000000000000000000001024000000000000000000000000000000000000000000000000000000000000000000000000000000000000000020046000003
  | .heartbeatSend .. => 0x6000003
  | .mirror .. => 0x20000000000000000006080000185804000000000000000000000000000000108000000080780000000000000000000000000000000000008000000023c400000c4000000001328701abf01ff0c201420000000008a00000000000000000000000203bf229507
  | .heartbeat .. => 0x20000000000000000006080000103800000000000000000000000000000000108000000080780000000000000000000000000000000000000000000023c4000000000000000110800000000030c201400000000008a00000000000000000000000203af229503
  | .hingePathLost .. => 0x608000000f80000000000000000000000000000000000000000000000000000000000000000000000000000000000000000000000000000000000000000000000000030c20140000000000020000000000000000000000020007209003
  | .switchoverOwnRaise .. => 0x20000000000000000006083000060000000000000000002000000000000000000000000008000000000000000000000000000000000000000000000023c4000000000000000110800100100030c201400000000008a00010110000000000000000211af029503
  | .takeover .. => 0x40000000000000010000000000000000000000000000000000000000000000000000000000000000000000000020020003
  | .healthReport .. => 0x608000b20180000000000000000000000000000000000000000000000000000000000000000000000000000000000000000000000000000000000000000000000000030c20140000000000020000000000000000000000020007209003
  | .health .. => 0x7f000000000000000000000000000000000000000000000000000000000000000000000000000000000000000000000000000000000000000000000000000000000000000000000000000000000000000000000000000020000003
  | .standbyBistDone .. => 0x19c02000ffe3800000008006088006f018040000000000000000001de0000004001080000000807800000000000000000000400000000000000f8000040023c400000c4000000003108000c030e030c201410003680008a000000410600000000000002e3bf639d33
  | .snapshot .. => 0x1000010000004000000000f8004000000000000000000000008000000000000000000000000000000000000000000000000000000000000000000000000000000000202a8000007
  | .grainCopy .. => 0x80000000000000000000000000000000000000000000000000000000000000000000000000000000000000000000000000000000000000000000000000000000000000000000000000000000000000000000020060000003
  | .hngHandover .. => 0x20000000000000000000000000100800000000000000000000000000000000108000000080780000000000000000000000000000000000000000000023c40000000000000001108000000000000000000000000008a00000000000000000000000203af020503
  | .hngRelease .. => 0x20000000000000000000000000000000000000000000000000000000000000000000000000000000000000000000000000000000000000000000000000000000000000000000000000000000000000000000000008a0000000000000000000000000001020503
  | .vectorEntry .. => 0x6080000000000000000000300000000002000000400008000000000200000000000000000020040000000000000000000000023c4000004000000000150800080100033c2c1c000036800002000000400000000000000000efae42b413
  | .moderationExpire .. => 0xc00000000000000000000000000000000000000000000000003
  | .intHoldWrite .. => 0x200000080000000000000000000000000000000000000003
  | .msixUnmask .. => 0x80000000000000000000000000000000000006003
  | .evqEnable .. => 0x13000000080000000000000000400000000000000000000403
  | .irqEvent .. => 0x608000000000000000000000000000000000000000000000000000000000000000000000000000000000008000000000000000002000004400000000000000000000030c2014078000000002000000000000000000000000002e009003
  | .logRecordWrite .. => 0x200000000000000000063d800000000000000000000000000000000000000000000000000000000000000000000000000000000000000000000000000000000000000000000000000000000030c201400000000008a000000000000000000000000000602958b
  | .opsecSave .. => 0x8083
  | .logScanDone .. => 0x63f800000000000000000000000000000000000000000000000000000000000000000000000000000000000000000000000000000000000000000000000000000000030c2014000000000002000000000000000000000000000600908b
  | .peerLog .. => 0x1e3d000000000000000000000000000000000000000000000000000000000000000000000000000000000008000000000000000002000004400000000000000000000030c2014078000000002000000000000000000000000002e009083
  | .recRead .. => 0x20000000000000000000000000000000000000000000000000000000000000000000000000000000000000000000000000000000000000000000000000000000000000000000000000000000000000000003680008a0000004000000000000000000000420513
  | .recClear .. => 0x200000000000000000063d000000000000000000000000000000000000000000000000000000000000000000000000000000000000000000000000000000000000000000000000000000000030c201400000000008a0000000000000000000000000006029583
  | .dramRequest .. => 0x40003
  | .dramRequestServed .. => 0xe0000608000000000000000000000000000000000000000000000000000000000000000000000000000000000000000000000000000000000000000000000000000000000030c20140000000000020000000000000000000000000006049023
  | .refreshRateRead .. => 0xa000608000000000000000000000000000000000000000000000000000000000000000000000000000000000000000000000000000000000000000000000000000000000030c20140000000000020000000000000000000000000006049003
  | .dramRefresh .. => 0x10000000000000000000000000000000000000000000000000000000000000000000000000000000000000000000000000000000000000000000000000000000000000000000000000000000000000000000000000000000000000000040003
  | .patrolScrub .. => 0xe0000608000000000000000000000000000000000000000000000000000000000000000000000000000000000000000000000000000000000000000000000000000000000030c20140000000000020000000000000000000000000006049003
  | .dramRetrainDone .. => 0x5002000000000000005800608000000000000000000000000000000000000000000000000000000000000000000000000000000000000000002000000000000000000000000000000000000100030c201410000000008a0000001106000000000000000006079d03
  | .dramCmdTimeout .. => 0x19c0200000038000000180060880001008040000000000000000001de0000004001080000000807800000000000000000000400000000000000f8000040023c400000c4000000001108000c0300030c201410003680008a000000410600000000000002e3af639d33
  | .thermalSample .. => 0x20030004075e00000006080002301800000000000000000000000000000000108000000080780000000000000000000040000000000000000000000023c4000004000000000150800080100030c201400000000008a00000000200000000000000203af3a9503
  | .governorStep .. => 0x10000000000608000000000000000000000000000000000000020000000000002000000000000000800000000000000000000000000000000000000000000000000000000000000030c20140000000000020000000000000000000000000006109003
  | .thermalGraceExpire .. => 0x820000000608000000000000000000000000000000000000000000000000000000000000000000000000000000000000000000000000000000000000000000000000000000000030c20140000000000020000000000000000000000000006009003
  | .thmRelease .. => 0x2000000000020000000608000000000000000000000000000000000000000000000000000000000000000000000000000000000000000000000000000000000000000000000000000000000030c201400000000008a0000000000000000000000000006029503
  | .calRun .. => 0x100200000020000000080060800000000040000000000000000000000000000000000000000000000000000000000000000000000000000000200000000000000000c400000000000000040100030c201410000000008a000000010600000000000000002e239d03
  | .calSave .. => 0x20000000000000000000000000000000000000000000000000000000000000000000000000000000000000000000000000000000000000000000000000000000000000000000000000000000000000000003680008a0000004000000000000000000000420513
  | .calLoad .. => 0x200fffe0400000000000000000000000000000000000000000000000000000000000000000000000000000000000000000000000000000000000000000000000000000000000000000000000000000000000000008a0000000000000000000000000000220503
  | .coverCopyDone .. => 0x200000000000000000000000000000000000000000000000000000000000000000000000000000000000000000000006f000000007fc003fec0000000001fffc000fc007800000fffc0000000000000000000000000000000000000000000008200007
  | .coverBegin .. => 0x900000000018000000080060800000000040000000000000000000000000000000000000000000000000000000000000000000000000000000b8000040023c400000c4000000000100000c0300030c2014100000000002000000010600000000000000002e219c03
  | .calibrationDone .. => 0x19c02000ffe38000000080060880001008040000000000000000001de0000004001080000000807800000000000000000000400000000000000f8000040023c400000c4000000003108000c030e030c201410003680008a000000410600000000000002e3bf639d33
  | .coverEnd .. => 0x900200000038000000080060800000000040000000000000000000000000000000000000000000000000000000000000000000000000000000b8000040023c400000c4000000000100000c0300030c201410000000008a000000010600000000000000002e239d03
  | .powerOnReset .. => 0x1ffffffffffffffffffffffffffffffffffffffffffffffffffffffffffffffffffffffffffffffffffffffffffffffffffffffffffffffffffffffffffffffffffffffffffffffffffffffffffffffffffffffffffffffffffffffffffffffff000003ffffffffff
  | .pinReset .. => 0x1ffffffffffffffffffffffffffffffffffffffffffffffffffffffffffffffffffffffffffffffffffffffffffffffffffffffffffffffffffffffffffffffffffffffffffffffffffffffffffffffffffffffffffffffffffffffffffffffff000003ffffffffff
  | .perstAssert .. => 0x100200000000000000080000000000000000000000000000000000000000000000000000000000000000000000000000000000000000000000200000000000000000000000000000000000010003ffffffd000000000fffffe00010600000000000000000041fd07
  | .functionLevelReset .. => 0x20000000000000000006080000000000000000000300000000002000000400008000000000200000000000000000020040000000000000000000000023c400000400000000015080008010003ffffffc000378000fffffe00400000000000000000efae42b507
  | .unitFault .. => 0x19c0200000038000000180060880001008040000000000000000001de0000004001080000000807800000000000000000000400000000000000f8000040023c400000c4000000001108000c0300030c201410003680008a000000410600000000000002e3af639d33
  | .unitSelfTestDone .. => 0x500200000020000000580060800000000040000000000000000000000000000000000000000002000000000000000000040000000100400000200000400000000000c400000000000000000100030c201410000000008a00000001060000000000000000ae279d03
  | .fetchTimeout .. => 0x19c0280000038000000080060880001008040000000000000000001de0000004001080000000807800000000000000000000400000000000000f8000040023c400000c4000000001108000c0300030c201410003680008a000000410600000000000002e3af639d33
  | .engineProgressTimeout .. => 0x19c0200000038000000080060880001008040000000000000000001de0000004001080000000807800000000000000000000400000000000000f8000040023c400000c4000000001308000e3f00030c201410003680008a000000410600000000000002e3bf639d33
  | .veneerDeadlineTimeout .. => 0x19c0200000038000000080060880001008040000000000000000001de0000004001080000000807800000000000000000000400000000000000f8000040023c400000c4000000001108000c0300030c201410003680008a000000410600000000000002e3af639d33
  | .pcieCompletionTimeout .. => 0x20000000000000000000000000000000000000000000000000000000000000000000000000000000000000000000000000000000000000000000000000000000000000000000000000000000000000010000000008a0000000000000000000000000000020d03
  | .mgmtWatchdogExpire .. => 0x19c0240000038000000080060880001008040000000000000000001de0000004001080000000807800000000000000000000400000000000000f8000040023c400000c4000000001108000c0300030c201410003680008a000000410600000000000002e3afe39d33
  | .read .. => 0x8000000000000000000000000000000000000000000000000000000000000000000000000000000000000000000000000000000000000000400000000000000000000800003
  | .writeBootcfg .. => 0x83
  | .releaseF0 .. => 0x608000000000000000000000000000000000000000000000000000000000000000000000000000000000000000000000000000000000000000000000000000000000031c261c000003800002044000000000000000000000000600b403
  | .clearFatal .. => 0x3d000000000000000000000000000000000000000000000000000000000000000000000000000000000000000000000000000000000000000000000000000000000000000000000000000000000000000000000000000000000000083
  | .deviceReset .. => 0x1ffffffffffffffffffffffffffffffffffffffffffffffffffffffffffffffffffffffffffffffffffffffffffffffffffffffffffffffffffffffffffffffffffffffffffffffffffffffffffffffffffffffffffffffffffffffffffffffff000003ffffffffff
  | .slotWrite .. => 0x38000000000000000000000000000000000000000000000000000000000000000000000000000000000000000000000000000000000000000000000000000000000000000000000000000000000000000000000000000000000000000000000000000000000043
  | .slotSelect .. => 0x3c100000000000000000000000000000000000000000000000000000000000000000000000000000000000000000000000000000000000000000000000000000000000000000000000000000000000000000000000000000000000000000000000000000000083
  | .mgtFwUpdate .. => 0x3a4000000000000000000000000000000000000000000000000000000000000000000000000000000000000000000000000000000000000000000000000000000000000000000000000000000000000000000000008a0000000000000000000000000000820543
  | .fwUpdateDone .. => 0x3a400000000000000000608000000000000000000000000000000000000000000000000000000000000000000000000000000000000000000000000000000000000000000000000000000000030c201400000000008a0000000000000000000000000006829543
  | .mgtFwSelect .. => 0x3e1000000000000000000000000000000000000000000000000000000000000000000000000000000000000000000000000000000000000000000000000000000000000000000000000000000000000000000000008a0000000000000000000000000000020583
  | .mgtUnit .. => 0xf00200000038000000580060800000000040000000000000000001de0000004001080000000807800000000000000000040400000100400000b8000040023c400000c4000000001108000c0300030c201410003680008a000000410600000000000000e3ae679d33
  | .railUndervolt .. => 0x1ffffffffffffffffffffffffffffffffffffffffffffffffffffffffffffffffffffffffffffffffffffffffffffffffffffffffffffffffffffffffffffffffffffffffffffffffffffffffffffffffffffffffffffffffffffffffffffffff000003ffffffffff
  | .refclkAbsent .. => 0x1ffffffffffffffffffffffffffffffffffffffffffffffffffffffffffffffffffffffffffffffffffffffffffffffffffffffffffffffffffffffffffffffffffffffffffffffffffffffffffffffffffffffffffffffffffffffffffffffff000003ffffffffff
  | .refclkReturn .. => 0x1000000000000000000800000000000000000000000000000000000000000000000000000000000000000000000000000000000000000000002000000000000000000000000000000000000100000000001000000000000000000106000000000000000000810c03
  | .resetRelease .. => 0x1ffffffffffffffffffffffffffffffffffffffffffffffffffffffffffffffffffffffffffffffffffffffffffffffffffffffffffffffffffffffffffffffffffffffffffffffffffffffffffffffffffffffffffffffffffffffffffffffff000002e3bfe79d3b
  | .perstRelease .. => 0x400003
  | .axisTick .. => 0x20000000000000000000000000000000000000000000000000000000000000108c0c00000c3800000f0000000000000000000000000000000000000000000000000000000000000000000000000000000000000008a0000000000000000000000000300020503
  | .coilLoopPeriod .. => 0xc00000000000000000000000000000000000000000000000000000000000000000000000000000000000000000000000000000000000000000000000000010000000b
  | .attachLinkTimeout .. => 0x20000000000000000000000000000000000000000000000000000000000000000000000000000000000000000000020440000000000000000000000000000000000000000000000000000000000000000000000008a0000000000000000000000000080020503
  | .routeAgeOut .. => 0x1800002000000000000000000000000000000000000000000000000000000000000000000000000000000000000000000000000000000000000000000000000000000000000000000000000000000000000010000000003

namespace Machine

/-- What executing a command can do. -/
theorem exec_frame (c : Instr) (s : State) : ∃ dev₁, exec c s = .next { s with dev := dev₁ } ∧ Frame c.mask s.dev dev₁ :=
  match c with
  | .registerWrite .. => execRegisterWrite_frame ..
  | .sysLockSet .. => execSysLockSet_frame ..
  | .sysIslTofsRead .. => execSysIslTofsRead_frame ..
  | .timNowNsRead .. => execTimNowNsRead_frame ..
  | .encIdxErrRead .. => execEncIdxErrRead_frame ..
  | .sysIslCfgWrite .. => execSysIslCfgWrite_frame ..
  | .islandRelockDone .. => execIslandRelockDone_frame ..
  | .dowelPulse .. => execDowelPulse_frame ..
  | .holdoverEntry .. => execHoldoverEntry_frame ..
  | .bridgeErr .. => execBridgeErr_frame ..
  | .safeStopAssert .. => execSafeStopAssert_frame ..
  | .safeStopEnd .. => execSafeStopEnd_frame ..
  | .gasOkLow .. => execGasOkLow_frame ..
  | .gasOkHigh .. => execGasOkHigh_frame ..
  | .layerOpen .. => execLayerOpen_frame ..
  | .epochSweepDone .. => execEpochSweepDone_frame ..
  | .layerMark .. => execLayerMark_frame ..
  | .phaseEnd .. => execPhaseEnd_frame ..
  | .exposeStart .. => execExposeStart_frame ..
  | .layerClose .. => execLayerClose_frame ..
  | .layerResume .. => execLayerResume_frame ..
  | .barrierReady .. => execBarrierReady_frame ..
  | .barrierRelease .. => execBarrierRelease_frame ..
  | .barrierWaitReminder .. => execBarrierWaitReminder_frame ..
  | .midLayerRebase .. => execMidLayerRebase_frame ..
  | .rebaseSweepStart .. => execRebaseSweepStart_frame ..
  | .sqEnable .. => execSqEnable_frame ..
  | .sqDisable .. => execSqDisable_frame ..
  | .cqEnable .. => execCqEnable_frame ..
  | .cqDisable .. => execCqDisable_frame ..
  | .dbBaseWrite .. => execDbBaseWrite_frame ..
  | .pollEnable .. => execPollEnable_frame ..
  | .doorbellPoll .. => execDoorbellPoll_frame ..
  | .pollSnapshot .. => execPollSnapshot_frame ..
  | .pollFailTimeout .. => execPollFailTimeout_frame ..
  | .descriptorFetch .. => execDescriptorFetch_frame ..
  | .slotsStaged .. => execSlotsStaged_frame ..
  | .payloadStaged .. => execPayloadStaged_frame ..
  | .descriptorDispatch .. => execDescriptorDispatch_frame ..
  | .descriptorTake .. => execDescriptorTake_frame ..
  | .completionWrite .. => execCompletionWrite_frame ..
  | .busMasterDisable .. => execBusMasterDisable_frame ..
  | .busMasterEnable .. => execBusMasterEnable_frame ..
  | .vfDisable .. => execVfDisable_frame ..
  | .winOwnWrite .. => execWinOwnWrite_frame ..
  | .winCfgWrite .. => execWinCfgWrite_frame ..
  | .winStageWrite .. => execWinStageWrite_frame ..
  | .moverStart .. => execMoverStart_frame ..
  | .fifoRefillDone .. => execFifoRefillDone_frame ..
  | .freezeGateTimeout .. => execFreezeGateTimeout_frame ..
  | .freezeSafe .. => execFreezeSafe_frame ..
  | .unfreezeFunction .. => execUnfreezeFunction_frame ..
  | .unfreezePeer .. => execUnfreezePeer_frame ..
  | .vecBlock .. => execVecBlock_frame ..
  | .vecInline .. => execVecInline_frame ..
  | .engPark .. => execEngPark_frame ..
  | .engLimits .. => execEngLimits_frame ..
  | .recordEnterLookahead .. => execRecordEnterLookahead_frame ..
  | .kerfRequest .. => execKerfRequest_frame ..
  | .recordStart .. => execRecordStart_frame ..
  | .recordEnd .. => execRecordEnd_frame ..
  | .parkDone .. => execParkDone_frame ..
  | .setpointFrame .. => execSetpointFrame_frame ..
  | .returnFrame .. => execReturnFrame_frame ..
  | .linkUpTimeout .. => execLinkUpTimeout_frame ..
  | .linkLossFault .. => execLinkLossFault_frame ..
  | .gateCompareHit .. => execGateCompareHit_frame ..
  | .gateMonFault .. => execGateMonFault_frame ..
  | .corLoad .. => execCorLoad_frame ..
  | .corLoadDone .. => execCorLoadDone_frame ..
  | .corSwap .. => execCorSwap_frame ..
  | .corBankSwap .. => execCorBankSwap_frame ..
  | .corSave .. => execCorSave_frame ..
  | .corEccError .. => execCorEccError_frame ..
  | .scarfYield .. => execScarfYield_frame ..
  | .scarfNotice .. => execScarfNotice_frame ..
  | .takeoverPass .. => execTakeoverPass_frame ..
  | .scarfContactLoss .. => execScarfContactLoss_frame ..
  | .kerfGrant .. => execKerfGrant_frame ..
  | .requestStarving .. => execRequestStarving_frame ..
  | .reorderUnit .. => execReorderUnit_frame ..
  | .kerfHaloSend .. => execKerfHaloSend_frame ..
  | .kerfHalo .. => execKerfHalo_frame ..
  | .grantArmed .. => execGrantArmed_frame ..
  | .kerfPeerSilent .. => execKerfPeerSilent_frame ..
  | .frozenClaimExpire .. => execFrozenClaimExpire_frame ..
  | .meltPoolTick .. => execMeltPoolTick_frame ..
  | .feedbackLost .. => execFeedbackLost_frame ..
  | .intClr .. => execIntClr_frame ..
  | .grnGeomWrite .. => execGrnGeomWrite_frame ..
  | .grainHaloSend .. => execGrainHaloSend_frame ..
  | .grainHalo .. => execGrainHalo_frame ..
  | .grainPeerSilent .. => execGrainPeerSilent_frame ..
  | .grnSave .. => execGrnSave_frame ..
  | .grnLoad .. => execGrnLoad_frame ..
  | .vnrFrame .. => execVnrFrame_frame ..
  | .vnrAttach .. => execVnrAttach_frame ..
  | .vnrDetach .. => execVnrDetach_frame ..
  | .veneerSlotStart .. => execVeneerSlotStart_frame ..
  | .veneerLinePeriod .. => execVeneerLinePeriod_frame ..
  | .frameSendDone .. => execFrameSendDone_frame ..
  | .lineBufferEccError .. => execLineBufferEccError_frame ..
  | .tileStatus .. => execTileStatus_frame ..
  | .tileLinkFault .. => execTileLinkFault_frame ..
  | .tileAlarm .. => execTileAlarm_frame ..
  | .tileVolt .. => execTileVolt_frame ..
  | .probeSweep .. => execProbeSweep_frame ..
  | .probeResult .. => execProbeResult_frame ..
  | .stopListClear .. => execStopListClear_frame ..
  | .veneerDeposit .. => execVeneerDeposit_frame ..
  | .axMove .. => execAxMove_frame ..
  | .axHome .. => execAxHome_frame ..
  | .axStop .. => execAxStop_frame ..
  | .axLimits .. => execAxLimits_frame ..
  | .axisMoveDone .. => execAxisMoveDone_frame ..
  | .stall .. => execStall_frame ..
  | .coilFault .. => execCoilFault_frame ..
  | .homePressDone .. => execHomePressDone_frame ..
  | .homeNoStop .. => execHomeNoStop_frame ..
  | .holdDelayExpire .. => execHoldDelayExpire_frame ..
  | .axisEnable .. => execAxisEnable_frame ..
  | .axisDisable .. => execAxisDisable_frame ..
  | .encoderEdge .. => execEncoderEdge_frame ..
  | .encCmpPulseEnd .. => execEncCmpPulseEnd_frame ..
  | .encoderIndex .. => execEncoderIndex_frame ..
  | .encoderStandstill .. => execEncoderStandstill_frame ..
  | .followError .. => execFollowError_frame ..
  | .encCmp .. => execEncCmp_frame ..
  | .encCmpStop .. => execEncCmpStop_frame ..
  | .encSync .. => execEncSync_frame ..
  | .encoderEnable .. => execEncoderEnable_frame ..
  | .encoderDisable .. => execEncoderDisable_frame ..
  | .camCapture .. => execCamCapture_frame ..
  | .camReproc .. => execCamReproc_frame ..
  | .camTable .. => execCamTable_frame ..
  | .camStop .. => execCamStop_frame ..
  | .camTrigger .. => execCamTrigger_frame ..
  | .csiFrameStart .. => execCsiFrameStart_frame ..
  | .csiLine .. => execCsiLine_frame ..
  | .csiFrameEnd .. => execCsiFrameEnd_frame ..
  | .camFrameTimeout .. => execCamFrameTimeout_frame ..
  | .camPortReset .. => execCamPortReset_frame ..
  | .pipelineEntryStart .. => execPipelineEntryStart_frame ..
  | .pipelineFrameDone .. => execPipelineFrameDone_frame ..
  | .camInlineWrite .. => execCamInlineWrite_frame ..
  | .ptpSync .. => execPtpSync_frame ..
  | .ptpAnnounce .. => execPtpAnnounce_frame ..
  | .ptpPdelayReq .. => execPtpPdelayReq_frame ..
  | .ptpPdelayResp .. => execPtpPdelayResp_frame ..
  | .ptpSyncSend .. => execPtpSyncSend_frame ..
  | .ptpAnnounceSend .. => execPtpAnnounceSend_frame ..
  | .ptpPdelaySend .. => execPtpPdelaySend_frame ..
  | .ptpAnnounceTimeout .. => execPtpAnnounceTimeout_frame ..
  | .timPulse .. => execTimPulse_frame ..
  | .timCapture .. => execTimCapture_frame ..
  | .timSet .. => execTimSet_frame ..
  | .timepulseRise .. => execTimepulseRise_frame ..
  | .timepulseFall .. => execTimepulseFall_frame ..
  | .timecaptureEdge .. => execTimecaptureEdge_frame ..
  | .fabricLaunch .. => execFabricLaunch_frame ..
  | .hello .. => execHello_frame ..
  | .helloSend .. => execHelloSend_frame ..
  | .neighbourLost .. => execNeighbourLost_frame ..
  | .blockLockLost .. => execBlockLockLost_frame ..
  | .blockLockGained .. => execBlockLockGained_frame ..
  | .route .. => execRoute_frame ..
  | .routeSend .. => execRouteSend_frame ..
  | .joinEnable .. => execJoinEnable_frame ..
  | .claimDone .. => execClaimDone_frame ..
  | .broadcastRepeat .. => execBroadcastRepeat_frame ..
  | .join .. => execJoin_frame ..
  | .leave .. => execLeave_frame ..
  | .fabForward .. => execFabForward_frame ..
  | .fabWrite .. => execFabWrite_frame ..
  | .bulkWrite .. => execBulkWrite_frame ..
  | .bulkAck .. => execBulkAck_frame ..
  | .bulkResendTimeout .. => execBulkResendTimeout_frame ..
  | .fabLeave .. => execFabLeave_frame ..
  | .leaveDone .. => execLeaveDone_frame ..
  | .fabEvict .. => execFabEvict_frame ..
  | .fenceInAssert .. => execFenceInAssert_frame ..
  | .fenceInRelease .. => execFenceInRelease_frame ..
  | .hingeStartupTimeout .. => execHingeStartupTimeout_frame ..
  | .mirrorCapture .. => execMirrorCapture_frame ..
  | .heartbeatSend .. => execHeartbeatSend_frame ..
  | .mirror .. => execMirror_frame ..
  | .heartbeat .. => execHeartbeat_frame ..
  | .hingePathLost .. => execHingePathLost_frame ..
  | .switchoverOwnRaise .. => execSwitchoverOwnRaise_frame ..
  | .takeover .. => execTakeover_frame ..
  | .healthReport .. => execHealthReport_frame ..
  | .health .. => execHealth_frame ..
  | .standbyBistDone .. => execStandbyBistDone_frame ..
  | .snapshot .. => execSnapshot_frame ..
  | .grainCopy .. => execGrainCopy_frame ..
  | .hngHandover .. => execHngHandover_frame ..
  | .hngRelease .. => execHngRelease_frame ..
  | .vectorEntry .. => execVectorEntry_frame ..
  | .moderationExpire .. => execModerationExpire_frame ..
  | .intHoldWrite .. => execIntHoldWrite_frame ..
  | .msixUnmask .. => execMsixUnmask_frame ..
  | .evqEnable .. => execEvqEnable_frame ..
  | .irqEvent .. => execIrqEvent_frame ..
  | .logRecordWrite .. => execLogRecordWrite_frame ..
  | .opsecSave .. => execOpsecSave_frame ..
  | .logScanDone .. => execLogScanDone_frame ..
  | .peerLog .. => execPeerLog_frame ..
  | .recRead .. => execRecRead_frame ..
  | .recClear .. => execRecClear_frame ..
  | .dramRequest .. => execDramRequest_frame ..
  | .dramRequestServed .. => execDramRequestServed_frame ..
  | .refreshRateRead .. => execRefreshRateRead_frame ..
  | .dramRefresh .. => execDramRefresh_frame ..
  | .patrolScrub .. => execPatrolScrub_frame ..
  | .dramRetrainDone .. => execDramRetrainDone_frame ..
  | .dramCmdTimeout .. => execDramCmdTimeout_frame ..
  | .thermalSample .. => execThermalSample_frame ..
  | .governorStep .. => execGovernorStep_frame ..
  | .thermalGraceExpire .. => execThermalGraceExpire_frame ..
  | .thmRelease .. => execThmRelease_frame ..
  | .calRun .. => execCalRun_frame ..
  | .calSave .. => execCalSave_frame ..
  | .calLoad .. => execCalLoad_frame ..
  | .coverCopyDone .. => execCoverCopyDone_frame ..
  | .coverBegin .. => execCoverBegin_frame ..
  | .calibrationDone .. => execCalibrationDone_frame ..
  | .coverEnd .. => execCoverEnd_frame ..
  | .powerOnReset .. => execPowerOnReset_frame ..
  | .pinReset .. => execPinReset_frame ..
  | .perstAssert .. => execPerstAssert_frame ..
  | .functionLevelReset .. => execFunctionLevelReset_frame ..
  | .unitFault .. => execUnitFault_frame ..
  | .unitSelfTestDone .. => execUnitSelfTestDone_frame ..
  | .fetchTimeout .. => execFetchTimeout_frame ..
  | .engineProgressTimeout .. => execEngineProgressTimeout_frame ..
  | .veneerDeadlineTimeout .. => execVeneerDeadlineTimeout_frame ..
  | .pcieCompletionTimeout .. => execPcieCompletionTimeout_frame ..
  | .mgmtWatchdogExpire .. => execMgmtWatchdogExpire_frame ..
  | .read .. => execRead_frame ..
  | .writeBootcfg .. => execWriteBootcfg_frame ..
  | .releaseF0 .. => execReleaseF0_frame ..
  | .clearFatal .. => execClearFatal_frame ..
  | .deviceReset .. => execDeviceReset_frame ..
  | .slotWrite .. => execSlotWrite_frame ..
  | .slotSelect .. => execSlotSelect_frame ..
  | .mgtFwUpdate .. => execMgtFwUpdate_frame ..
  | .fwUpdateDone .. => execFwUpdateDone_frame ..
  | .mgtFwSelect .. => execMgtFwSelect_frame ..
  | .mgtUnit .. => execMgtUnit_frame ..
  | .railUndervolt .. => execRailUndervolt_frame ..
  | .refclkAbsent .. => execRefclkAbsent_frame ..
  | .refclkReturn .. => execRefclkReturn_frame ..
  | .resetRelease .. => execResetRelease_frame ..
  | .perstRelease .. => execPerstRelease_frame ..
  | .axisTick .. => execAxisTick_frame ..
  | .coilLoopPeriod .. => execCoilLoopPeriod_frame ..
  | .attachLinkTimeout .. => execAttachLinkTimeout_frame ..
  | .routeAgeOut .. => execRouteAgeOut_frame ..

/-- What a step can do: nothing with an empty queue, else what its front command can. -/
theorem step_frame (s t : State) (h : step s = .next t) :
    (s.pending = [] ∧ t = s) ∨ ∃ c rest, s.pending = c :: rest ∧ t.pending = rest ∧ Frame c.mask s.dev t.dev := by
  unfold step at h
  cases hp : s.pending with
  | nil => simp only [hp] at h; injection h with h; exact Or.inl ⟨rfl, h.symm⟩
  | cons c rest =>
    simp only [hp] at h
    obtain ⟨d, hd, hf⟩ := exec_frame c { s with pending := rest }
    rw [hd] at h
    injection h with h
    subst h
    exact Or.inr ⟨c, rest, rfl, rfl, hf⟩

end Machine

end Sys2Proof
end

