-- ==== Sys2Proof/Tests/Slice0.lean ====
section
/-! SUPPORT. Our own tests: the checks of well-formedness refuse ill-formed operands, a few values worked out by hand, and, for every
statement, a state and operands that meet its hypotheses together. -/

set_option Elab.async false
set_option linter.unusedVariables false
open Sys2Proof Sys2Proof.Machine
namespace Sys2Proof.Tests
def mk (d : Dev) : State := { pending := [], dev := d }
def dv : Dev := {}
/-- The seven virtual functions enabled (R89). -/
def vf (d : Dev) : Dev := { d with pcie := { d.pcie with vfEnable := true, numVfs := 7 } }
theorem takes_of {d : Dev} {id op : Nat} {j : Job} (h : d.job id = some j ∧ j.opcode = op ∧ j.status = .taken ∧ j.code = none ∧ j.replay = false
    ∧ j.orphan = false ∧ j.noCqeOk = false ∧ d.replayKept j = false ∧ d.frozen j.fn = false) : d.Takes id op j := by
  constructor <;> simp only [h]
theorem canonical_of {d : Dev} (h : (cellsWf d.regs ∧ cellsWf d.force ∧ Bytes.wf d.host ∧ Bytes.wf d.dram ∧ Bytes.wf d.flash ∧ Tab.wf {} d.hostFns
    ∧ Tab.wf none d.movers ∧ Tab.wf {} d.srcs ∧ Tab.wf {} d.vecs ∧ Tab.wf {} d.islands ∧ Tab.wf {} d.dramCh) ∧ (Tab.wf {} d.sensors ∧ Tab.wf 0 d.fabSeq
    ∧ Tab.wf {} d.engines ∧ Tab.wf {} d.links ∧ Tab.wf {} d.tiles ∧ Tab.wf {} d.axes ∧ Tab.wf {} d.encs ∧ Tab.wf {} d.pulses ∧ Tab.wf {} d.capts
    ∧ Tab.wf {} d.cams ∧ Tab.wf {} d.camPorts)) : d.canonical := by
  constructor <;> simp only [h]

/-! ### Operands that are ill formed are refused by the checks -/

theorem test_wf_write_ok : Instr.wellFormed (.registerWrite 0 1 false 0xfffc 4 0xf 7) = true := by decide +kernel
theorem test_wf_write_size : Instr.wellFormed (.registerWrite 0 1 false 0 0 0xf 7) = false := by decide +kernel
theorem test_wf_write_beyond_bar : Instr.wellFormed (.registerWrite 0 1 false 0x10000 4 0xf 7) = false := by decide +kernel
theorem test_wf_write_beyond_bar2 : Instr.wellFormed (.registerWrite 0 0 true 8192 4 0xf 7) = false := by decide +kernel
theorem test_wf_write_enables : Instr.wellFormed (.registerWrite 0 1 false 0 4 0x1f 7) = false := by decide +kernel
theorem test_wf_dowel : Instr.wellFormed (.dowelPulse 0 [(3, 0), (3, 1)]) = false := by decide +kernel
theorem test_wf_payload : Instr.wellFormed (.barrierReady 0 1 (List.replicate 93 0)) = false := by decide +kernel
theorem test_wf_writer : Instr.wellFormed (.sqEnable 0 1 2 0 0) = false := by decide +kernel
theorem test_wf_page : Instr.wellFormed (.pollSnapshot 0 1 (some [0])) = false := by decide +kernel
theorem test_wf_slots : Instr.wellFormed (.slotsStaged 0 0 0 [0, 0, 0]) = false := by decide +kernel
theorem test_wf_samples : Instr.wellFormed (.meltPoolTick 0 0 (List.replicate 19 0)) = false := by decide +kernel
theorem test_wf_dram_data : Instr.wellFormed (.dramRequest 0 0 true 0 0 []) = false := by decide +kernel
theorem test_wf_dram_burst : Instr.wellFormed (.dramRequest 0 0 false 0 (2 ^ 29) []) = false := by decide +kernel
theorem test_wf_sensors : Instr.wellFormed (.thermalSample 0 [1]) = false := by decide +kernel
theorem test_wf_slot_page : Instr.wellFormed (.slotWrite 0 0 32768 (List.replicate 256 0)) = false := by decide +kernel
theorem test_wf_slot_data : Instr.wellFormed (.slotWrite 0 0 0 []) = false := by decide +kernel
theorem test_wf_bootcfg : Instr.wellFormed (.writeBootcfg 0 { bootSlot := 2 }) = false := by decide +kernel
theorem test_wf_rail : Instr.wellFormed (.railUndervolt 0 11) = false := by decide +kernel
theorem test_wf_refclk_absent : Instr.wellFormed (.refclkAbsent 0 4) = false := by decide +kernel
theorem test_wf_refclk_return : Instr.wellFormed (.refclkReturn 0 4) = false := by decide +kernel
theorem test_wf_release : Instr.wellFormed (.resetRelease 0 0 [] [] []) = false := by decide +kernel
theorem test_wf_read : Instr.wellFormed (.read 0 2) = false := by decide +kernel
theorem test_wf_fault_low : Instr.wellFormed (.unitFault 0 0 0) = false := by decide +kernel
theorem test_wf_fault_high : Instr.wellFormed (.unitFault 0 0 7) = false := by decide +kernel

/-! ### Values worked out by hand from the spec, one step each -/

/-- One field after one step. -/
def after (c : Instr) (d : Dev) (f : Fld) (i : Nat) : Option Nat :=
  match step { pending := [c], dev := d } with
  | .next t => some (t.dev.get f i)
  | _ => none

theorem test_no_word : decodeTableWord 16 0xffff = none := by decide
/-- R455. -/
theorem test_lock_set : after (.sysLockSet 0) dv .SYS_LOCK_LOCK 0 = some 1 := by decide +kernel
/-- R455: a later write has no effect. -/
theorem test_lock_stays : after (.sysLockSet 0) (dv.put .SYS_LOCK_LOCK 1) .SYS_LOCK_LOCK 0 = some 1 := by decide +kernel
/-- R412: T_MAX is still at 103 °C = 1648/16 °C when the reset value of GRACE_DS, 2 s, has passed; one quantum earlier it is not due. -/
theorem test_grace : after (.thermalGraceExpire 512000000000) ((dv.put .THM_STAT_STATE 1).put .THM_STAT_T_MAX 1648) .THM_STAT_STATE 0 = some 2 := by
  decide +kernel
theorem test_grace_early : after (.thermalGraceExpire 511999999999) ((dv.put .THM_STAT_STATE 1).put .THM_STAT_T_MAX 1648) .THM_STAT_STATE 0 = some 1 := by
  decide +kernel
/-- An empty queue idles. -/
theorem test_idle : step State.reset = .next State.reset := rfl
/-- RFC 3720: the CRC-32C of 32 bytes of zero is 8A9136AAh. -/
theorem test_crc32c : crc32c (List.replicate 32 0#8) = 0x8a9136aa := by decide +kernel
/-- The published check values of the other codes over the bytes 31h to 39h. -/
theorem test_crc16 : crc16 ((List.range 9).map (fun k => BitVec.ofNat 8 (0x31 + k))) = 0x29b1 := by decide +kernel
theorem test_crc32 : crc32 ((List.range 9).map (0x31 + ·)) = 0xcbf43926 := by decide +kernel
/-- FIPS 180-4's example: the SHA-384 of abc begins CB00753F 45A35E8B. -/
theorem test_sha384 : (sha384 [0x61, 0x62, 0x63]).take 8 = [0xcb, 0x00, 0x75, 0x3f, 0x45, 0xa3, 0x5e, 0x8b] := by decide +kernel

/-! ### Witnesses: the hypotheses of each statement can be met -/

theorem step_answers {s : State} {c : Instr} {rest : List Instr} (h : s.pending = c :: rest) : ∃ t, step s = .next t := by
  obtain ⟨d, hd, -⟩ := exec_frame c { s with pending := rest }
  exact ⟨_, by simp only [step, h]; exact hd⟩

namespace W01
/-- A device with its lock set, and one command that resets nothing and writes no memory. -/
def locked : State := { pending := [.gasOkLow 1], dev := dv.put .SYS_LOCK_LOCK 1 }
theorem owned_reset : dv.ownedOnce := by
  intro F hF f g n hf hg h1 h2
  have z : ∀ F ∈ ownFields, ∀ f < 8, f ≠ 0 → dv.get F f = 0 := by decide +kernel
  have b : ∀ n, hasBit 0 n = false := by intro n; simp [hasBit]
  by_cases hf0 : f = 0
  · by_cases hg0 : g = 0
    · omega
    · rw [z F hF g hg hg0, b] at h2; cases h2
  · rw [z F hF f hf hf0, b] at h1; cases h1
theorem witness_step_runs_front_1 : ∃ (c : Instr) (rest : List Instr) (s : State), s.pending = c :: rest :=
  ⟨.gasOkLow 1, [.gasOkHigh 2], { pending := [.gasOkLow 1, .gasOkHigh 2], dev := dv }, rfl⟩
theorem witness_step_runs_front_2 : ∃ s : State, s.pending = [] := ⟨mk dv, rfl⟩
theorem witness_reset_owners_low : ∃ t : Nat, t ≤ 0x21 ∨ (0x40 ≤ t ∧ t ≤ 0x4f) ∨ (0x50 ≤ t ∧ t ≤ 0x57) ∨ (0x60 ≤ t ∧ t ≤ 0x6f) := ⟨0, by decide⟩
theorem witness_reset_owners_high : ∃ t : Nat, t ≤ 0x21 ∨ (0x40 ≤ t ∧ t ≤ 0x4f) ∨ (0x50 ≤ t ∧ t ≤ 0x57) ∨ (0x60 ≤ t ∧ t ≤ 0x6f) := ⟨0x6f, by decide⟩
theorem witness_reset_owners_others : ∃ f t : Nat, 1 ≤ f ∧ f < 8 ∧ t < 0x80 := ⟨7, 0x7f, by decide⟩
theorem witness_step_keeps_canonical : ∃ s t : State, s.canonical ∧ step s = .next t := by
  obtain ⟨t, ht⟩ := step_answers (s := locked) (c := .gasOkLow 1) (rest := []) rfl
  exact ⟨locked, t, canonical_of (by decide +kernel), ht⟩
theorem witness_step_keeps_owners_apart : ∃ s t : State, s.dev.ownedOnce ∧ step s = .next t := by
  obtain ⟨t, ht⟩ := step_answers (s := { pending := [.gasOkLow 1], dev := dv }) (c := .gasOkLow 1) (rest := []) rfl
  exact ⟨_, t, owned_reset, ht⟩
theorem witness_lock_holds_3 : ∃ s : State, s.dev.frozen 0 = false := ⟨mk dv, by decide +kernel⟩
theorem witness_lock_holds_4 : ∃ s : State, s.dev.frozen 0 = false ∧ s.dev.get .SYS_LOCK_LOCK = 1 := ⟨locked, by decide +kernel, by decide +kernel⟩
theorem witness_lock_holds_5 : ∃ (s t : State) (f : Fld), s.dev.get .SYS_LOCK_LOCK = 1 ∧ (∀ c ∈ s.pending.head?, c.resets = false) ∧ step s = .next t
    ∧ f.acc = .rwl := by
  obtain ⟨t, ht⟩ := step_answers (s := locked) (c := .gasOkLow 1) (rest := []) rfl
  exact ⟨locked, t, .SYS_LOCK_LOCK, by decide +kernel, by intro c hc; cases hc; rfl, ht, by decide +kernel⟩
theorem witness_memories_kept : ∃ s t : State, step s = .next t ∧ (∀ c ∈ s.pending.head?, c.writesFlash = false)
    ∧ (∀ c ∈ s.pending.head?, c.writesMram = false) ∧ (∀ c ∈ s.pending.head?, c.writesHost = false)
    ∧ (∀ c ∈ s.pending.head?, c.writesDram = false) := by
  obtain ⟨t, ht⟩ := step_answers (s := locked) (c := .gasOkLow 1) (rest := []) rfl
  exact ⟨locked, t, ht, by intro c hc; cases hc; rfl, by intro c hc; cases hc; rfl, by intro c hc; cases hc; rfl, by intro c hc; cases hc; rfl⟩
end W01

namespace W18
theorem witness_registers_kept : ∃ (c : Instr) (rest : List Instr) (s t : State) (f : Fld), s.pending = c :: rest ∧ step s = .next t
    ∧ c.anyRegister = false ∧ f.reg ∉ c.changes := by
  obtain ⟨t, ht⟩ := step_answers (s := W01.locked) (c := .gasOkLow 1) (rest := []) rfl
  exact ⟨_, _, _, t, .SYS_LOCK_LOCK, rfl, ht, rfl, by decide +kernel⟩
theorem witness_parts_kept : ∃ (c : Instr) (rest : List Instr) (s t : State) (p : Part), s.pending = c :: rest ∧ step s = .next t
    ∧ p ∉ c.moves := by
  obtain ⟨t, ht⟩ := step_answers (s := W01.locked) (c := .gasOkLow 1) (rest := []) rfl
  exact ⟨_, _, _, t, .mram, rfl, ht, by decide +kernel⟩
end W18

namespace W02

theorem witness_reads_4 : ∃ (s : State) (dt : Nat) (a : Nat), regAt a = none :=
  ⟨mk dv, 1, 0xfffffc, by decide +kernel⟩
theorem witness_reads_5 : ∃ (s : State) (dt : Nat) (a : Nat), regAt a = some (.TIM_NOW_SEC_LO, 0, 0) :=
  ⟨mk dv, 1, Reg.addr .TIM_NOW_SEC_LO 0 0, by decide +kernel⟩
theorem witness_reads_6 : ∃ (s : State) (dt : Nat) (a : Nat) (i : Nat) (j : Nat), regAt a = some (.SCF_ZONE_TIME, i, j) :=
  ⟨mk dv, 1, Reg.addr .SCF_ZONE_TIME 3 5, 3, 5, by decide +kernel⟩
theorem witness_reads_7 : ∃ (s : State) (dt : Nat) (a : Nat) (i : Nat) (j : Nat), regAt a = some (.MPL_STAT, i, j) :=
  ⟨mk (dv.put .ENG_STAT_BOUND_CH 4 3), 1, Reg.addr .MPL_STAT 3 0, 3, 0, by decide +kernel⟩
theorem witness_reads_8 : ∃ (s : State) (dt : Nat) (a : Nat) (r : Reg) (i : Nat) (j : Nat), regAt a = some (r, i, j) ∧ r ∉ specialReads ∧ unusedSet r j = false :=
  ⟨mk (dv.put .THM_CFG_GRACE_DS 77), 1, Reg.addr .THM_CFG 0 0, .THM_CFG, 0, 0, by decide +kernel⟩
theorem witness_register_writes_1 : ∃ (s : State) (dt : Nat) (fn : Fin 8) (bar2 : Bool) (off : Nat) (size : Nat) (be : BitVec 8) (value : BitVec 64), s.dev.vfOn fn = false :=
  ⟨mk dv, 1, 3, false, 0, 4, 15, 7, by decide +kernel⟩
theorem witness_register_writes_2 : ∃ (s : State) (dt : Nat) (fn : Fin 8) (bar2 : Bool) (off : Nat) (be : BitVec 8) (value : BitVec 64), s.dev.flag .MGT_STAT_RECOVERY = false ∧ s.dev.vfOn fn = true ∧ s.dev.frozen fn = true :=
  ⟨mk (vf <| dv.put .WIN_FRZ_STAT_FROZEN 1 3), 1, 3, false, 0, 15, 7, by decide +kernel⟩
theorem witness_register_writes_3 : ∃ (s : State) (dt : Nat) (fn : Fin 8) (bar2 : Bool) (off : Nat) (size : Nat) (be : BitVec 8) (value : BitVec 64), s.dev.flag .MGT_STAT_RECOVERY = false ∧ s.dev.vfOn fn = true ∧ s.dev.frozen fn = false ∧ ((size ≠ 8 ∧ (be.toNat % 16 ≠ 15 ∨ off % 4 ≠ 0) ∨ 8 < size)) :=
  ⟨mk (vf dv), 1, 3, false, 2, 4, 15, 7, by decide +kernel⟩
theorem witness_register_writes_4 : ∃ (s : State) (dt : Nat) (fn : Fin 8) (off : Nat) (value : BitVec 64), s.dev.flag .MGT_STAT_RECOVERY = false ∧ s.dev.vfOn fn = true ∧ s.dev.frozen fn = false ∧ off % 4 = 0 ∧ (barAddr fn off).bind regAt = none :=
  ⟨mk (vf dv), 1, 0, 0xfffffc, 7, by decide +kernel⟩
theorem witness_register_writes_5 : ∃ (s : State) (dt : Nat) (fn : Fin 8) (bar2 : Bool) (off : Nat) (size : Nat) (be : BitVec 8) (value : BitVec 64), s.dev.flag .MGT_STAT_RECOVERY = true :=
  ⟨mk (dv.put .MGT_STAT_RECOVERY 1), 1, 0, false, 0, 4, 15, 7, by decide +kernel⟩
theorem witness_register_writes_6 : ∃ (s : State) (dt : Nat) (off : Nat) (value : BitVec 64) (r : Reg) (i : Nat) (j : Nat), s.dev.flag .MGT_STAT_RECOVERY = false ∧ s.dev.frozen 0 = false ∧ off % 4 = 0 ∧ regAt off = some (r, i, j) ∧ r ∈ plainRegs :=
  ⟨mk dv, 1, Reg.addr .THM_CFG 0 0, 0x33, .THM_CFG, 0, 0, by decide +kernel⟩
end W02

namespace W03
/-- A device with function 0 open to the host and one large window. -/
def open0 : Dev :=
  let d := (((dv.put .WIN_CFG_ENABLE 1).put .WIN_CFG_SIZE_LOG2 40).put .WIN_CFG_R 1).put .WIN_CFG_W 1
  let d := (d.put .HIF_DB_BASE_LO_ADDR_LO 1)
  let d := (d.put .SYS_ISL_STAT_IN_SERVICE 1 34).put .SYS_ISL_STAT_IN_SERVICE 1 35
  d.setFn 0 { busMaster := true }
def jobA : Job := { id := 5, fn := 0, ring := 2, slot := 7, words := [0x2a0021#128, 0#128, 0#128, 0#128] }
def withJobs (d : Dev) (js : List Job) : Dev := { d with jobs := js }
def ent : CplEntry := { id := 5, cq := 3, ring := 2, slot := 7, sequence := 42, status := 0, opcode := 0x31, target := 1, irq := false, time := 1000 }

theorem witness_rings_start_and_stop_1 : ∃ (s : State) (dt : Nat) (w : Fin 8) (fn : Fin 8) (r : Fin 64) (value : Word), s.dev.writesFor w fn ∧ s.dev.get .HIF_SQ_CFG_ENABLE fn r = 0 ∧ 6 ≤ Fld.of .HIF_SQ_CFG_SIZE_LOG2 value.toNat ∧ Fld.of .HIF_SQ_CFG_SIZE_LOG2 value.toNat ≤ 16 ∧ s.dev.inWindow fn (s.dev.sqBase fn r) (64 * 2 ^ Fld.of .HIF_SQ_CFG_SIZE_LOG2 value.toNat) = true :=
  ⟨mk open0, 1, 0, 0, 3, 0x80002508#32, by unfold Dev.writesFor; decide +kernel, by decide +kernel⟩
theorem witness_rings_start_and_stop_2 : ∃ (s : State) (dt : Nat) (w : Fin 8) (fn : Fin 8) (r : Fin 64) (value : Word), s.dev.writesFor w fn ∧ s.dev.get .HIF_SQ_CFG_ENABLE fn r = 0 ∧ 6 ≤ Fld.of .HIF_SQ_CFG_SIZE_LOG2 value.toNat ∧ Fld.of .HIF_SQ_CFG_SIZE_LOG2 value.toNat ≤ 16 ∧ s.dev.inWindow fn (s.dev.sqBase fn r) (64 * 2 ^ Fld.of .HIF_SQ_CFG_SIZE_LOG2 value.toNat) = false :=
  ⟨mk dv, 1, 0, 1, 3, 0x2508#32, by unfold Dev.writesFor; decide +kernel, by decide +kernel⟩
theorem witness_rings_start_and_stop_3 : ∃ (s : State) (dt : Nat) (w : Fin 8) (fn : Fin 8) (r : Fin 64), s.canonical ∧ s.dev.writesFor w fn ∧ s.dev.get .HIF_SQ_CFG_ENABLE fn r = 1 :=
  ⟨mk (open0.put .HIF_SQ_CFG_ENABLE 1 0 63), 1, 0, 0, 63, canonical_of (by decide +kernel), by unfold Dev.writesFor; decide +kernel, by decide +kernel⟩
theorem witness_rings_start_and_stop_4 : ∃ (s : State) (dt : Nat) (w : Fin 8) (fn : Fin 8) (c : Fin 16) (value : Word), s.dev.writesFor w fn ∧ s.dev.get .HIF_CQ_CFG_ENABLE fn c = 0 ∧ 6 ≤ Fld.of .HIF_CQ_CFG_SIZE_LOG2 value.toNat ∧ Fld.of .HIF_CQ_CFG_SIZE_LOG2 value.toNat ≤ 16 ∧ s.dev.inWindow fn (s.dev.cqBase fn c) (16 * 2 ^ Fld.of .HIF_CQ_CFG_SIZE_LOG2 value.toNat) = true :=
  ⟨mk open0, 1, 0, 0, 15, 0x80000010#32, by unfold Dev.writesFor; decide +kernel, by decide +kernel⟩
theorem witness_rings_start_and_stop_5 : ∃ (s : State) (dt : Nat) (w : Fin 8) (fn : Fin 8) (c : Fin 16), s.canonical ∧ s.dev.writesFor w fn ∧ s.dev.get .HIF_CQ_CFG_ENABLE fn c = 1 :=
  ⟨mk ((open0.put .HIF_CQ_CFG_ENABLE 1 0 3).setFn 0 { waiting := [ent] }), 1, 0, 0, 3, canonical_of (by decide +kernel), by unfold Dev.writesFor; decide +kernel, by decide +kernel⟩
theorem witness_rings_start_and_stop_6 : ∃ (s : State) (dt : Nat) (w : Fin 8) (fn : Fin 8) (value : Word), s.dev.writesFor w fn ∧ s.dev.get .INT_EVQ_CFG_ENABLE fn = 0 ∧ 6 ≤ Fld.of .INT_EVQ_CFG_SIZE_LOG2 value.toNat ∧ Fld.of .INT_EVQ_CFG_SIZE_LOG2 value.toNat ≤ 16 ∧ s.dev.inWindow fn (s.dev.evqBase fn) (64 * 2 ^ Fld.of .INT_EVQ_CFG_SIZE_LOG2 value.toNat) = true :=
  ⟨mk open0, 1, 0, 0, 0x80000006#32, by unfold Dev.writesFor; decide +kernel, by decide +kernel⟩
theorem witness_doorbell_page_1 : ∃ (s : State) (dt : Nat) (w : Fin 8) (fn : Fin 8) (hi : Bool) (value : Word), s.dev.writesFor w fn ∧ ((∀ r < 64, s.dev.get .HIF_SQ_CFG_ENABLE fn r = 0)) ∧ ((∀ c < 16, s.dev.get .HIF_CQ_CFG_ENABLE fn c = 0)) ∧ s.dev.get .INT_EVQ_CFG_ENABLE fn = 0 :=
  ⟨mk open0, 1, 0, 0, false, 0xfffff123#32, by unfold Dev.writesFor; decide +kernel, by decide +kernel⟩
theorem witness_doorbell_page_2 : ∃ (s : State) (dt : Nat) (w : Fin 8) (fn : Fin 8) (hi : Bool) (value : Word), s.dev.writesFor w fn ∧ (((∃ r < 64, s.dev.get .HIF_SQ_CFG_ENABLE fn r = 1) ∨ (∃ c < 16, s.dev.get .HIF_CQ_CFG_ENABLE fn c = 1) ∨ s.dev.get .INT_EVQ_CFG_ENABLE fn = 1)) :=
  ⟨mk (open0.put .HIF_SQ_CFG_ENABLE 1 0 63), 1, 0, 0, true, 7#32, by unfold Dev.writesFor; decide +kernel, by decide +kernel⟩
theorem witness_doorbell_page_3 : ∃ (s : State) (dt : Nat) (w : Fin 8) (fn : Fin 8) (value : Word), s.dev.writesFor w fn ∧ 1 ≤ Fld.of .HIF_POLL_CFG_INTERVAL_US value.toNat ∧ Fld.of .HIF_POLL_CFG_INTERVAL_US value.toNat ≤ 1000 ∧ 1 ≤ Fld.of .HIF_POLL_CFG_SLEEP_US value.toNat ∧ Fld.of .HIF_POLL_CFG_SLEEP_US value.toNat ≤ 1000 ∧ s.dev.rangeCause fn (s.dev.dbBase fn) 4096 true true = none :=
  ⟨mk open0, 1, 0, 0, 0x80000801#32, by unfold Dev.writesFor; decide +kernel, by decide +kernel⟩
theorem witness_doorbell_page_4 : ∃ (s : State) (dt : Nat) (fn : Fin 8), s.dev.hostOpen fn = true ∧ s.dev.get .HIF_POLL_CFG_POLL_EN fn = 1 ∧ (s.dev.fn fn).polling = false ∧ (((s.dev.fn fn).lastPoll = 0 ∨ (s.dev.fn fn).lastPoll + s.dev.get .HIF_STAT_INTERVAL_NOW fn * qUs ≤ (s.dev.elapse dt).run)) ∧ s.dev.rangeCause fn (s.dev.dbBase fn) 4096 true true = none ∧ (s.dev.fn fn).held = [] :=
  ⟨mk ((open0.put .HIF_POLL_CFG_POLL_EN 1).put .HIF_POLL_CFG_INTERVAL_US 8), 5000000, 0, by decide +kernel⟩
theorem witness_doorbell_page_5 : ∃ (s : State) (dt : Nat) (fn : Fin 8), s.dev.logs ∧ (s.dev.fn fn).polling = true :=
  ⟨mk (open0.setFn 0 { polling := true }), 5, 0, by unfold Dev.logs; decide +kernel, by decide +kernel⟩
theorem witness_doorbell_page_6 : ∃ (s : State) (dt : Nat) (fn : Fin 8) (ws : List Word), (s.dev.fn fn).polling = true ∧ s.dev.frozen fn = false ∧ ((∀ r < 64, s.dev.get .HIF_SQ_CFG_ENABLE fn r = 1 → (ws.getD r 0#32).toNat % 2 ^ 16 < s.dev.sqSize fn r)) :=
  ⟨mk ((open0.put .HIF_SQ_CFG_ENABLE 1 0 63).setFn 0 { polling := true }), 5, 0, (List.range 192).map (fun n => BitVec.ofNat 32 (n % 64)), by decide +kernel⟩
theorem witness_descriptors_come_in_1 : ∃ (s : State) (dt : Nat) (fn : Fin 8) (head : Gran) (r : Nat), s.dev.hostOpen fn = true ∧ s.dev.inService 35 = true ∧ s.dev.stageSize fn ≠ 0 ∧ s.dev.ringTurn fn = some r ∧ s.dev.rangeCause fn (s.dev.sqBase fn r) (64 * s.dev.sqSize fn r) true false = none ∧ slotsFor (bitsOf head.toNat 47 40) < s.dev.sqSize fn r ∧ slotsFor (bitsOf head.toNat 47 40) ≤ s.dev.ringWork fn r ∧ (s.dev.fn fn).turn % 64 + slotsFor (bitsOf head.toNat 47 40) ≤ 64 ∧ s.dev.stageUsed fn + 64 * slotsFor (bitsOf head.toNat 47 40) ≤ s.dev.stageSize fn :=
  ⟨mk ((((open0.put .WIN_STAGE_SIZE_MB 4).put .HIF_SQ_CFG_ENABLE 1 0 2).put .WIN_CFG_R 1).setSq 0 2 { pi := 4 }), 5, 0, 0x20#128, 2, by decide +kernel⟩
theorem witness_descriptors_come_in_2 : ∃ (s : State) (dt : Nat) (fn : Fin 8) (r : Fin 64) (slots : List Gran), (s.dev.moverOf { fn := fn, ring := some r.val }).isSome = true ∧ s.dev.frozen fn = false ∧ slots.length = 4 ∧ bitsOf (slots.headD 0#128).toNat 47 40 ≤ 3 ∧ 1 ≤ (s.dev.sq fn r).outstanding ∧ (s.dev.stageCheck { id := s.dev.nextJob, fn := fn, ring := r, slot := (s.dev.sq fn r).fetch, words := slots, asked := (s.dev.elapse dt).run }).2 = none ∧ s.dev.rangeCause fn (s.dev.dbBase fn) 4096 true true = none ∧ s.dev.mayWrite fn = true ∧ (s.dev.fn fn).held = [] :=
  ⟨mk ((open0.setSq 0 2 { pi := 4, outstanding := 2, fetch := 1 }).setMover 3 (some { fn := 0, ring := some 2 })), 5, 0, 2, [0x8000000022#128, 0#128, 0#128, 0#128], by decide +kernel⟩
theorem witness_descriptors_come_in_3 : ∃ (s : State) (dt : Nat) (job : Nat) (data : List Gran) (j : Job), s.dev.job job = some j ∧ (s.dev.moverOf { fn := j.fn, job := j.id }).isSome = true ∧ ceilDiv (((s.dev.hostRange j).map (·.2.1)).getD 0) 16 = data.length ∧ j.opcode ≠ 0x30 :=
  ⟨mk ((withJobs open0 [{ jobA with words := [0x10000000034#128, 0x1000#128] }]).setMover 3 (some { fn := 0, job := 5 })), 5, 5, List.replicate (ceilDiv imageLen 16) 0#128, { jobA with words := [0x10000000034#128, 0x1000#128] }, by decide +kernel⟩
theorem witness_descriptors_come_in_4 : ∃ (s : State) (dt : Nat) (job : Nat) (j : Job), s.dev.job job = some j ∧ j.status = .staged ∧ j.code = none ∧ j.opcode ≠ 0x20 ∧ j.fence = false ∧ s.dev.frozen j.fn = false ∧ ((∀ x ∈ s.dev.jobs, x.fn = j.fn → x.ring = j.ring → x.id < j.id → x.status ≠ .staged)) ∧ ((s.dev.wantsData j = false ∨ j.opcode = 0x50)) ∧ s.dev.get .HIF_STAT_HOSTQ_USED j.fn < 4096 :=
  ⟨mk (withJobs open0 [jobA]), 5, 5, jobA, by decide +kernel⟩
theorem witness_descriptors_come_in_5 : ∃ (s : State) (dt : Nat) (job : Nat) (j : Job) (c : Nat), s.dev.job job = some j ∧ j.status = .staged ∧ j.code = some c ∧ c ≠ 0 ∧ j.opcode ≠ 0x20 ∧ j.fence = false ∧ s.dev.frozen j.fn = false ∧ ((∀ x ∈ s.dev.jobs, x.fn = j.fn → x.ring = j.ring → x.id < j.id → x.status ≠ .staged)) ∧ s.dev.get .HIF_STAT_HOSTQ_USED j.fn < 4096 ∧ j.replay = false ∧ j.orphan = false ∧ s.dev.replayKept j = false :=
  ⟨mk (withJobs open0 [{ jobA with code := some 0x101 }]), 5, 5, { jobA with code := some 0x101 }, 0x101, by decide +kernel⟩
theorem witness_descriptors_come_in_6 : ∃ (s : State) (dt : Nat) (job : Nat) (j : Job), s.dev.job job = some j ∧ j.status = .dispatched ∧ s.dev.frozen j.fn = false ∧ s.dev.heldBack j = false ∧ j.schedule = 0 ∧ (s.dev.elapse dt).notYet j = false ∧ (s.dev.elapse dt).resourceCode j = none :=
  ⟨mk (withJobs (open0.put .SYS_ISL_STAT_IN_SERVICE 1 0) [{ jobA with status := .dispatched }]), 5, 5, { jobA with status := .dispatched }, by decide +kernel⟩
theorem witness_completion_is_written_1 : ∃ (s : State) (dt : Nat) (fn : Fin 8) (n : CplEntry), s.dev.mayWrite fn = true ∧ (s.dev.fn fn).waiting.find? (fun e => !s.dev.cqBlocked fn e.cq) = some n ∧ n.irq = false ∧ 1 ≤ s.dev.get .HIF_STAT_HOSTQ_USED fn ∧ s.dev.get .HIF_STAT_HOSTQ_USED fn ≤ 4096 ∧ s.dev.rangeCause fn (s.dev.cqBase fn n.cq) (16 * s.dev.cqSize fn n.cq) false true = none ∧ s.dev.rangeCause fn (s.dev.dbBase fn) 4096 true true = none ∧ (s.dev.fn fn).held = [] :=
  ⟨mk (((open0.put .HIF_CQ_CFG_ENABLE 1 0 3).setFn 0 { busMaster := true, waiting := [ent], cq := [(3, { pos := 63, ci := 2 })] }).put .HIF_STAT_HOSTQ_USED 1), 5, 0, ent, by decide +kernel⟩
theorem witness_bus_mastering_2 : ∃ (s : State) (dt : Nat) (fn : Fin 8), s.dev.pcie.perst = false ∧ s.dev.mgmt.inReset = false ∧ ((fn.val ≠ 0 ∨ s.dev.pcie.configured = true)) ∧ (s.dev.fn fn).held = [] :=
  ⟨mk { open0 with mgmt := { inReset := false } }, 5, 3, by decide +kernel⟩
theorem witness_bus_mastering_3 : ∃ (s : State) (dt : Nat), s.dev.pcie.perst = false ∧ s.dev.mgmt.inReset = false ∧ s.dev.pcie.configured = false ∧ (s.dev.island 34).faulted = false ∧ s.dev.get .MGT_UNIT_OUT_HOST 34 = 0 ∧ (s.dev.fn 0).held = [] :=
  ⟨mk { dv with mgmt := { inReset := false } }, 5, by decide +kernel⟩
theorem witness_bus_mastering_4 : ∃ (s : State) (dt : Nat), s.dev.pcie.vfEnable = true ∧ s.dev.pcie.numVfs ≤ 7 :=
  ⟨mk { open0 with pcie := { vfEnable := true, numVfs := 7 } }, 5, by decide +kernel⟩
end W03

namespace W04
def openW : Dev :=
  let d := (((dv.put .WIN_CFG_ENABLE 1).put .WIN_CFG_SIZE_LOG2 40).put .WIN_CFG_R 1).put .WIN_CFG_W 1
  let d := (d.put .HIF_DB_BASE_LO_ADDR_LO 1).put .INT_EVQ_BASE_LO_ADDR 2
  let d := ((d.put .SYS_ISL_STAT_IN_SERVICE 1 34).put .SYS_ISL_STAT_IN_SERVICE 1 35).put .INT_EVQ_CFG_ENABLE 1
  d.setFn 0 { busMaster := true }
def fab : Dev := dv.put .SYS_ISL_STAT_IN_SERVICE 1 46
def frz : Dev := ((dv.put .WIN_FRZ_STAT_FROZEN 1 2).setFn 2 { noticed := true, frozenAt := 100 })
def pend7 : Dev := ((openW.put .INT_SRC_STAT_PENDING 1 7).put .INT_SRC_STAT_COUNT 3 7).setSrc 7 { first := 200, vector := 9 }

theorem witness_set_up_of_functions_1 : ∃ (s : State) (dt : Nat) (fn : Fin 8) (k : Fin 4) (value : Word), s.dev.frozen 0 = false ∧ s.dev.get .SYS_LOCK_LOCK = 0 ∧ ((∀ f ∈ (ownReg k).fields, ∀ g < 8, g ≠ fn.val → Nat.land (f.of value.toNat) (s.dev.get f g) = 0)) :=
  ⟨mk dv, 1, 0, 2, 0x00ff00ff#32, by decide +kernel⟩
theorem witness_set_up_of_functions_2 : ∃ (s : State) (dt : Nat) (fn : Fin 8) (k : Fin 4) (value : Word), s.dev.frozen 0 = false ∧ ((∃ f ∈ (ownReg k).fields, ∃ g < 8, g ≠ fn.val ∧ Nat.land (f.of value.toNat) (s.dev.get f g) ≠ 0)) :=
  ⟨mk dv, 1, 3, 1, 2#32, by decide +kernel⟩
theorem witness_set_up_of_functions_3 : ∃ (s : State) (dt : Nat) (fn : Fin 8) (k : Fin 4) (value : Word), s.dev.frozen 0 = false ∧ s.dev.get .SYS_LOCK_LOCK = 1 ∧ ((∀ f ∈ (ownReg k).fields, ∀ g < 8, g ≠ fn.val → Nat.land (f.of value.toNat) (s.dev.get f g) = 0)) ∧ ((∃ f ∈ (ownReg k).fields, f.of value.toNat ≠ s.dev.get f fn)) :=
  ⟨mk (dv.put .SYS_LOCK_LOCK 1), 1, 0, 3, 0xff00#32, by decide +kernel⟩
theorem witness_set_up_of_functions_4 : ∃ (s : State) (dt : Nat) (fn : Fin 8) (k : Fin 4) (value : Word), s.dev.frozen 0 = false ∧ s.dev.get .SYS_LOCK_LOCK = 1 ∧ ((∀ f ∈ (ownReg k).fields, ∀ g < 8, g ≠ fn.val → Nat.land (f.of value.toNat) (s.dev.get f g) = 0)) ∧ ((∀ f ∈ (ownReg k).fields, f.of value.toNat = s.dev.get f fn)) :=
  ⟨mk (dv.put .SYS_LOCK_LOCK 1), 1, 0, 3, 0xffff#32, by decide +kernel⟩
theorem witness_set_up_of_functions_5 : ∃ (s : State) (dt : Nat) (w : Fin 8) (fn : Fin 8) (win : Fin 16) (value : Word), s.dev.writesFor w fn ∧ s.dev.get .SYS_LOCK_LOCK = 0 ∧ 12 ≤ Fld.of .WIN_CFG_SIZE_LOG2 value.toNat ∧ Fld.of .WIN_CFG_SIZE_LOG2 value.toNat ≤ 46 ∧ ((s.dev.winBase fn win % 2 ^ Fld.of .WIN_CFG_SIZE_LOG2 value.toNat = 0 ∨ Fld.of .WIN_CFG_ENABLE value.toNat = 0)) :=
  ⟨mk (vf dv), 1, 3, 3, 15, 0x8000010c#32, by unfold Dev.writesFor; decide +kernel, by decide +kernel⟩
theorem witness_set_up_of_functions_6 : ∃ (s : State) (dt : Nat) (w : Fin 8) (fn : Fin 8) (win : Fin 16) (value : Word), s.dev.writesFor w fn ∧ s.dev.get .SYS_LOCK_LOCK = 0 ∧ 12 ≤ Fld.of .WIN_CFG_SIZE_LOG2 value.toNat ∧ Fld.of .WIN_CFG_SIZE_LOG2 value.toNat ≤ 46 ∧ s.dev.winBase fn win % 2 ^ Fld.of .WIN_CFG_SIZE_LOG2 value.toNat ≠ 0 ∧ Fld.of .WIN_CFG_ENABLE value.toNat = 1 :=
  ⟨mk (dv.put .WIN_BASE_LO_ADDR_LO 1 3 15), 1, 0, 3, 15, 0x8000010d#32, by unfold Dev.writesFor; decide +kernel, by decide +kernel⟩
theorem witness_set_up_of_functions_7 : ∃ (s : State) (dt : Nat) (w : Fin 8) (fn : Fin 8) (win : Fin 16) (value : Word), s.dev.writesFor w fn ∧ s.dev.get .SYS_LOCK_LOCK = 0 ∧ ((Fld.of .WIN_CFG_SIZE_LOG2 value.toNat < 12 ∨ 46 < Fld.of .WIN_CFG_SIZE_LOG2 value.toNat)) :=
  ⟨mk (vf dv), 1, 3, 3, 15, 0x8000010b#32, by unfold Dev.writesFor; decide +kernel, by decide +kernel⟩
theorem witness_set_up_of_functions_8 : ∃ (s : State) (dt : Nat) (w : Fin 8) (fn : Fin 8) (win : Fin 16) (value : Word), s.dev.writesFor w fn ∧ s.dev.get .SYS_LOCK_LOCK = 1 ∧ 12 ≤ Fld.of .WIN_CFG_SIZE_LOG2 value.toNat ∧ Fld.of .WIN_CFG_SIZE_LOG2 value.toNat ≤ 46 ∧ ((∃ f ∈ Reg.fields .WIN_CFG, f.of value.toNat ≠ s.dev.get f fn win)) :=
  ⟨mk ((vf dv).put .SYS_LOCK_LOCK 1), 1, 3, 3, 15, 0x8000010c#32, by unfold Dev.writesFor; decide +kernel, by decide +kernel⟩
theorem witness_set_up_of_functions_9 : ∃ (s : State) (dt : Nat) (fn : Fin 8) (value : Word), s.dev.frozen 0 = false ∧ s.dev.get .SYS_LOCK_LOCK = 0 ∧ ((Fld.of .WIN_STAGE_SIZE_MB value.toNat = 0 ∨ ((Fld.of .WIN_STAGE_BASE_MB value.toNat + Fld.of .WIN_STAGE_SIZE_MB value.toNat) * 2 ^ 20 ≤ s.dev.dramBytes ∧ ∀ g < 8, g ≠ fn.val → s.dev.get .WIN_STAGE_SIZE_MB g = 0 ∨ s.dev.get .WIN_STAGE_BASE_MB g + s.dev.get .WIN_STAGE_SIZE_MB g ≤ Fld.of .WIN_STAGE_BASE_MB value.toNat ∨ Fld.of .WIN_STAGE_BASE_MB value.toNat + Fld.of .WIN_STAGE_SIZE_MB value.toNat ≤ s.dev.get .WIN_STAGE_BASE_MB g))) :=
  ⟨mk ((dv.put .DRM_CFG_PRESENT 1).put .DRM_CFG_SIZE_GB 16), 1, 7, 0x00200001#32, by decide +kernel⟩
theorem witness_set_up_of_functions_10 : ∃ (s : State) (dt : Nat) (fn : Fin 8) (value : Word), s.dev.frozen 0 = false ∧ Fld.of .WIN_STAGE_SIZE_MB value.toNat ≠ 0 ∧ ((s.dev.dramBytes < (Fld.of .WIN_STAGE_BASE_MB value.toNat + Fld.of .WIN_STAGE_SIZE_MB value.toNat) * 2 ^ 20 ∨ ∃ g < 8, g ≠ fn.val ∧ s.dev.get .WIN_STAGE_SIZE_MB g ≠ 0 ∧ Fld.of .WIN_STAGE_BASE_MB value.toNat < s.dev.get .WIN_STAGE_BASE_MB g + s.dev.get .WIN_STAGE_SIZE_MB g ∧ s.dev.get .WIN_STAGE_BASE_MB g < Fld.of .WIN_STAGE_BASE_MB value.toNat + Fld.of .WIN_STAGE_SIZE_MB value.toNat)) :=
  ⟨mk (dv.put .WIN_STAGE_SIZE_MB 4 1), 1, 7, 0x00200001#32, by decide +kernel⟩
theorem witness_mover_takes_earliest_1 : ∃ (s : State) (dt : Nat) (m : Nat) (x : Mover), s.dev.inService 35 = true ∧ (List.range 8).find? (fun m => (s.dev.mover m).isNone) = some m ∧ (s.dev.elapse dt).earliest s.dev.requests = some x ∧ s.dev.rangeCause x.fn (s.dev.requestRange x).1 (s.dev.requestRange x).2 true false = none :=
  ⟨mk (((openW.put .HIF_SQ_CFG_ENABLE 1 0 2).setSq 0 2 { pi := 4, outstanding := 2, fetch := 1 }).setMover 0 (some { fn := 0, ring := some 3 })), 4, 1, { fn := 0, ring := some 2 }, by decide +kernel⟩
theorem witness_mover_takes_earliest_2 : ∃ (s : State) (dt : Nat) (m : Nat) (c : Nat) (x : Mover), s.dev.inService 35 = true ∧ (List.range 8).find? (fun m => (s.dev.mover m).isNone) = some m ∧ (s.dev.elapse dt).earliest s.dev.requests = some x ∧ s.dev.frozen x.fn = false ∧ s.dev.rangeCause x.fn (s.dev.requestRange x).1 (s.dev.requestRange x).2 true false = some c :=
  ⟨mk ((((openW.put .WIN_CFG_R 0).put .HIF_SQ_CFG_ENABLE 1 0 2).setSq 0 2 { pi := 4, outstanding := 2, fetch := 1 }).setMover 0 (some { fn := 0, ring := some 3 })), 4, 1, 2, { fn := 0, ring := some 2 }, by decide +kernel⟩
theorem witness_freeze_and_release_1 : ∃ (s : State) (dt : Nat) (fn : Fin 8), s.dev.get .WIN_FRZ_STAT_FROZEN fn = 1 ∧ s.dev.get .WIN_FRZ_STAT_SAFE fn = 0 ∧ (s.dev.fn fn).gatesForced = false ∧ (s.dev.fn fn).noticed = true ∧ (s.dev.fn fn).frozenAt + 10 * qUs ≤ (s.dev.elapse dt).run :=
  ⟨mk ((frz.put .WIN_OWN_ENG_LO_ENG 0x3 2).put .WIN_OWN_ENG_LO_ENG 0), 2560100, 2, by decide +kernel⟩
theorem witness_freeze_and_release_2 : ∃ (s : State) (dt : Nat) (fn : Fin 8), s.dev.logs ∧ s.dev.get .WIN_FRZ_STAT_FROZEN fn = 1 ∧ s.dev.get .WIN_FRZ_STAT_SAFE fn = 0 ∧ (s.dev.fn fn).noticed = true ∧ s.dev.allSafe fn = true ∧ (s.dev.fn fn).flr = false ∧ (((s.dev.fn fn).gatesForced = true ∨ s.dev.get .SYS_LAYER_STAT_STATE = 8)) :=
  ⟨mk frz, 1, 2, by unfold Dev.logs; decide +kernel, by decide +kernel⟩
theorem witness_freeze_and_release_3 : ∃ (s : State) (dt : Nat) (fn : Fin 8), s.dev.frozen 0 = false ∧ fn ≠ 0 ∧ s.dev.get .WIN_FRZ_STAT_FROZEN fn = 1 ∧ s.dev.get .WIN_FRZ_STAT_SAFE fn = 1 :=
  ⟨mk ((((frz.put .WIN_FRZ_STAT_SAFE 1 2).put .HIF_SQ_CFG_ENABLE 1 2 63).put .INT_SRC_STAT_ACTIVE 1 33).setSrc 33 { taker := 2 }), 1, 2, by decide +kernel⟩
theorem witness_freeze_and_release_4 : ∃ (s : State) (dt : Nat) (fn : Fin 8), s.dev.frozen 0 = false ∧ ((fn = 0 ∨ s.dev.get .WIN_FRZ_STAT_SAFE fn = 0)) :=
  ⟨mk frz, 1, 2, by decide +kernel⟩
theorem witness_freeze_and_release_5 : ∃ (s : State) (dt : Nat) (dev : Fin 1024), s.dev.frozen 0 = false :=
  ⟨mk (dv.put .WIN_PEER_FRZ_FROZEN 0xff 31), 1, 993, by decide +kernel⟩
theorem witness_vector_enters_1 : ∃ (s : State) (dt : Nat) (fn : Fin 8) (v : Nat), s.dev.mayWrite fn = true ∧ s.dev.get .INT_CTL_HOLD fn = 0 ∧ (s.dev.fn fn).held = [] ∧ (s.dev.elapse dt).firstVec fn (((List.range 64).filter (fun v => (s.dev.elapse dt).eligible fn v)).filter (fun v => !s.dev.vecMasked fn v)) = some v ∧ s.dev.evqRoom fn ((s.dev.entrySources fn v).foldl (fun n k => n + s.dev.recordsOf k) 0) = true ∧ s.dev.rangeCause fn (s.dev.evqBase fn) (64 * s.dev.evqSize fn) false true = none :=
  ⟨mk (pend7.setVec 0 9 { masked := false }), 1, 0, 9, by decide +kernel⟩
theorem witness_vector_enters_2 : ∃ (s : State) (dt : Nat) (fn : Fin 8) (v : Nat) (k : Nat), s.dev.mayWrite fn = true ∧ s.dev.get .INT_CTL_HOLD fn = 0 ∧ (s.dev.fn fn).held = [] ∧ (s.dev.elapse dt).firstVec fn (((List.range 64).filter (fun v => (s.dev.elapse dt).eligible fn v)).filter (fun v => !s.dev.vecMasked fn v)) = some v ∧ s.dev.entrySources fn v = [k] ∧ k ≠ 144 ∧ s.dev.evqRoom fn 1 = true ∧ s.dev.rangeCause fn (s.dev.evqBase fn) (64 * s.dev.evqSize fn) false true = none ∧ s.dev.rangeCause fn (s.dev.dbBase fn) 4096 true true = none :=
  ⟨mk (pend7.setVec 0 9 { masked := false }), 1, 0, 9, 7, by decide +kernel⟩
theorem witness_vectors_are_held_back_1 : ∃ (s : State) (dt : Nat) (fn : Fin 8) (v : Fin 64) (k : Nat), k ∈ s.dev.vecSources fn v ∧ (s.dev.src k).firstRun + (s.dev.vec fn v).minIntUs * qUs ≤ (s.dev.elapse dt).run ∧ (s.dev.vec fn v).lastMsg + (s.dev.vec fn v).minIntUs * qUs ≤ (s.dev.elapse dt).run :=
  ⟨mk ((pend7.setVec 0 9 { minIntUs := 5, countThr := 9 })), 1290000, 0, 9, 7, by decide +kernel⟩
theorem witness_vectors_are_held_back_2 : ∃ (s : State) (dt : Nat) (fn : Fin 8) (hold : Bool), s.dev.frozen 0 = false :=
  ⟨mk dv, 1, 7, true, by decide +kernel⟩
theorem witness_vectors_are_held_back_3 : ∃ (s : State) (dt : Nat) (fn : Fin 8) (v : Fin 64), s.dev.vfOn fn = true ∧ s.dev.frozen fn = false :=
  ⟨mk (vf dv), 1, 7, 63, by decide +kernel⟩
theorem witness_peer_event_arrives_1 : ∃ (s : State) (dt : Nat) (dev : Fin 1024) (payload : List Gran) (k : Nat), s.dev.inService 46 = true ∧ s.dev.peerFrozen dev = false ∧ s.dev.grantOk dev 6 none = true ∧ k < 8 ∧ s.dev.get .INT_PEER_ENABLE k = 1 ∧ s.dev.get .INT_PEER_PEER_ID k = dev.val ∧ ((∀ i < k, s.dev.get .INT_PEER_ENABLE i = 0 ∨ s.dev.get .INT_PEER_PEER_ID i ≠ dev.val)) ∧ s.dev.get .INT_SRC_CFG_EN (512 + k) = 1 ∧ s.dev.get .INT_SRC_STAT_PENDING (512 + k) = 0 :=
  ⟨mk ((((((fab.put .INT_PEER_ENABLE 1 2).put .INT_PEER_PEER_ID 77 2).put .INT_SRC_CFG_EN 1 514).put .WIN_GRANT_CFG_ENABLE 1 31).put .WIN_GRANT_CFG_CLASS 0x40 31).put .WIN_GRANT_ID_ID_HI 100 31), 1, 77, [300#128], 2, by decide +kernel⟩
theorem witness_peer_event_arrives_2 : ∃ (s : State) (dt : Nat) (dev : Fin 1024) (payload : List Gran), s.dev.inService 46 = true ∧ s.dev.peerFrozen dev = false ∧ s.dev.grantOk dev 6 none = false :=
  ⟨mk fab, 1, 77, [], by decide +kernel⟩
theorem witness_peer_event_arrives_3 : ∃ (s : State) (dt : Nat) (dev : Fin 1024) (payload : List Gran), s.dev.inService 46 = false :=
  ⟨mk dv, 1, 77, [], by decide +kernel⟩
end W04

namespace W05
def jx (op w1 tgt : Nat) : Job := { id := 5, fn := 0, ring := 2, slot := 7, words := [BitVec.ofNat 128 (op + 0x2a0000 + tgt * 2 ^ 32 + 2 ^ 40), BitVec.ofNat 128 w1, 0#128, 0#128], status := .taken }
def dj (d : Dev) (js : List Job) : Dev := { d with jobs := js }
def up : Dev := { dv with mgmt := { inReset := false } }

theorem witness_clock_requests_1 : ∃ (s : State) (dt : Nat) (n : Fin 49) (value : Word), s.dev.frozen 0 = false ∧ n.val < 34 ∧ 160 ≤ value.toNat % 256 ∧ value.toNat % 256 ≤ 250 ∧ s.dev.get .SYS_ISL_STAT_IN_SERVICE n = 1 :=
  ⟨mk (dv.put .SYS_ISL_STAT_IN_SERVICE 1 33), 1, 33, 250#32, by decide +kernel⟩
theorem witness_clock_requests_2 : ∃ (s : State) (dt : Nat) (n : Fin 49) (value : Word), s.dev.frozen 0 = false ∧ n.val < 34 ∧ 160 ≤ value.toNat % 256 ∧ value.toNat % 256 ≤ 250 ∧ s.dev.get .SYS_ISL_STAT_IN_SERVICE n = 0 ∧ s.dev.get .SYS_ISL_STAT_FREQ_MHZ n ≠ value.toNat % 256 ∧ s.dev.get .SYS_ISL_STAT_RELOCK n = 0 :=
  ⟨mk dv, 1, 33, 160#32, by decide +kernel⟩
theorem witness_clock_requests_3 : ∃ (s : State) (dt : Nat) (n : Fin 49) (value : Word), s.dev.frozen 0 = false ∧ n.val < 34 ∧ ((value.toNat % 256 < 160 ∨ 250 < value.toNat % 256)) :=
  ⟨mk dv, 1, 0, 159#32, by decide +kernel⟩
theorem witness_clock_requests_4 : ∃ (s : State) (dt : Nat) (n : Fin 49), s.dev.get .SYS_ISL_STAT_RELOCK n = 1 ∧ (s.dev.island n).pendingMhz < 256 ∧ s.dev.get .SYS_LAYER_STAT_STATE ≠ 9 ∧ (s.dev.island n).again = false :=
  ⟨mk ((dv.put .SYS_ISL_STAT_RELOCK 1 3).setIsland 3 { pendingMhz := 230 }), 1, 3, by decide +kernel⟩
theorem witness_clock_requests_5 : ∃ (s : State) (dt : Nat) (n : Fin 49), s.dev.get .SYS_ISL_STAT_RELOCK n = 1 ∧ (s.dev.island n).pendingMhz < 256 ∧ s.dev.get .SYS_LAYER_STAT_STATE ≠ 9 ∧ (s.dev.island n).again = true ∧ s.dev.get .SYS_ISL_CFG_FREQ_MHZ n ≠ (s.dev.island n).pendingMhz :=
  ⟨mk (((dv.put .SYS_ISL_STAT_RELOCK 1 3).setIsland 3 { pendingMhz := 230, again := true }).put .SYS_ISL_CFG_FREQ_MHZ 170 3), 1, 3, by decide +kernel⟩
theorem witness_dowels_and_bridges_1 : ∃ (s : State) (dt : Nat) (n : Fin 49) (off : Int), (s.dev.now + dt) % qUs = 0 ∧ s.dev.get .SYS_ISL_STAT_IN_SERVICE 45 = 1 ∧ -128 ≤ off ∧ off ≤ 128 :=
  ⟨mk (((dv.setIsland 48 { resync := true }).put .SYS_ISL_STAT_IN_SERVICE 1 45).put .SYS_ISL_STAT_HOLDOVER 1 48), 256000, 48, -128, by decide +kernel⟩
theorem witness_dowels_and_bridges_2 : ∃ (s : State) (dt : Nat) (n : Fin 49) (off : Int), s.dev.mayFault n ∧ (s.dev.now + dt) % qUs = 0 ∧ s.dev.get .SYS_ISL_STAT_IN_SERVICE 45 = 1 ∧ 128 < off.natAbs ∧ (s.dev.island n).resync = false :=
  ⟨mk ((dv.put .SYS_ISL_STAT_IN_SERVICE 1 45).put .SYS_ISL_STAT_IN_SERVICE 1 48), 256000, 48, 129, by unfold Dev.mayFault; decide +kernel, by decide +kernel⟩
theorem witness_dowels_and_bridges_3 : ∃ (s : State) (dt : Nat) (n : Fin 49), (((s.dev.island n).lastDowel + 3 * qUs ≤ (s.dev.elapse dt).run ∨ s.dev.get .SYS_ISL_STAT_IN_SERVICE 45 = 0)) :=
  ⟨mk dv, 768000, 0, by decide +kernel⟩
theorem witness_dowels_and_bridges_4 : ∃ (s : State) (dt : Nat) (recv : Fin 49) (send : Fin 49), s.dev.mayFault send :=
  ⟨mk dv, 1, 0, 34, by unfold Dev.mayFault; decide +kernel⟩
theorem witness_faults_take_units_out_1 : ∃ (s : State) (dt : Nat) (u : Fin 83) (cause : Nat), s.dev.mayFault u ∧ s.dev.mgmt.inReset = false :=
  ⟨mk up, 1, 41, 1, by unfold Dev.mayFault; decide +kernel, by decide +kernel⟩
theorem witness_faults_take_units_out_2 : ∃ (s : State) (dt : Nat) (n : Fin 34), s.dev.mayFault n :=
  ⟨mk dv, 1, 31, by unfold Dev.mayFault; decide +kernel⟩
theorem witness_faults_take_units_out_3 : ∃ (s : State) (dt : Nat) (t : Fin 16), s.dev.mayFault 42 :=
  ⟨mk dv, 1, 15, by unfold Dev.mayFault; decide +kernel⟩
theorem witness_faults_take_units_out_4 : ∃ (s : State) (dt : Nat) (c : Fin 2), s.dev.mayFault (36 + c) ∧ s.dev.chanServes c = true ∧ ((∃ r ∈ (s.dev.chan c).readQ ++ (s.dev.chan c).writeQ, r.at' + s.dev.get .DRM_TMO_CMD_US * qUs ≤ (s.dev.elapse dt).run)) :=
  ⟨mk (((dv.put .DRM_STAT_IN_SERVICE 1 1).put .SYS_ISL_STAT_IN_SERVICE 1 37).setChan 1 { readQ := [{ write := false, cls := 1, burst := 4 }] }), 2560000000, 1, by unfold Dev.mayFault; decide +kernel, by decide +kernel⟩
theorem witness_faults_take_units_out_5 : ∃ (s : State) (dt : Nat) (fn : Fin 8), s.dev.mayFault 34 ∧ s.dev.get .MGT_TMO_POLL_FAIL_MAX ≤ (s.dev.fn fn).pollFails :=
  ⟨mk (dv.setFn 7 { pollFails := 1000 }), 1, 7, by unfold Dev.mayFault; decide +kernel, by decide +kernel⟩
theorem witness_faults_take_units_out_6 : ∃ (s : State) (dt : Nat) (job : Nat) (j : Job), s.dev.mayFault 35 ∧ s.dev.job job = some j ∧ s.dev.wantsData j = true ∧ s.dev.inService 35 = true ∧ s.dev.hostOpen j.fn = true ∧ j.asked + s.dev.fetchLimit ≤ (s.dev.elapse dt).run ∧ j.replay = false ∧ j.orphan = false ∧ s.dev.replayKept j = false :=
  ⟨mk (dj (((dv.put .SYS_ISL_STAT_IN_SERVICE 1 34).put .SYS_ISL_STAT_IN_SERVICE 1 35).setFn 0 { busMaster := true }) [{ jx 0x34 0x1000 0 with status := .staged }]), 256000000000000, 5, { jx 0x34 0x1000 0 with status := .staged }, by unfold Dev.mayFault; decide +kernel, by decide +kernel⟩
theorem witness_faults_take_units_out_7 : ∃ (s : State) (dt : Nat) (n : Fin 34), s.dev.mayFault n ∧ (s.dev.elapse dt).advancing n = true ∧ (s.dev.eng n).advanced + qMs ≤ (s.dev.elapse dt).run :=
  ⟨mk ((((((((dv.put .SYS_ISL_STAT_IN_SERVICE 1 39).put .SYS_ISL_STAT_IN_SERVICE 1 40).put .SYS_LAYER_STAT_STATE 3).put .ENG_STAT_LINK_UP 1 0).put .SYS_ISL_STAT_IN_SERVICE 1 0).put .ENG_STAT_STATE 2 0).put .ENG_STAT_BOUND_CH 0 0).modEng 0 (fun e => { e with plans := [{ r := { ser := 1, job := 1, cls := 1, S := {}, E := {} }, tMove := 0, tBody := 0, tCommit := 0, started := true }] })), 256000000, 0, by unfold Dev.mayFault; decide +kernel, by decide +kernel⟩
theorem witness_faults_take_units_out_8 : ∃ (s : State) (dt : Nat) (t : Fin 16), s.dev.mayFault 42 ∧ s.dev.inService 42 = true ∧ s.dev.get .MGT_TMO_VNR_MISS_MAX ≤ (s.dev.tile t).missRun :=
  ⟨mk ((dv.put .SYS_ISL_STAT_IN_SERVICE 1 42).modTile 15 (fun x => { x with missRun := 1000 })), 1, 15, by unfold Dev.mayFault; decide +kernel, by decide +kernel⟩
theorem witness_faults_take_units_out_9 : ∃ (s : State) (dt : Nat) (c : Fin 2), s.dev.mayFault 48 :=
  ⟨mk dv, 1, 0, by unfold Dev.mayFault; decide +kernel⟩
theorem witness_errors_without_a_fault_1 : ∃ (s : State) (dt : Nat) (job : Nat) (j : Job), s.dev.job job = some j ∧ (s.dev.moverOf { fn := j.fn, job := j.id }).isSome = true ∧ j.code = none ∧ j.replay = false ∧ j.orphan = false ∧ s.dev.replayKept j = false :=
  ⟨mk ((dj dv [jx 0x34 0x1000 0]).setMover 3 (some { fn := 0, job := 5 })), 1, 5, jx 0x34 0x1000 0, by decide +kernel⟩
theorem witness_errors_without_a_fault_2 : ∃ (s : State) (dt : Nat) (c : Fin 2), s.dev.logs :=
  ⟨mk dv, 1, 1, by unfold Dev.logs; decide +kernel⟩
theorem witness_units_come_back_1 : ∃ (s : State) (dt : Nat) (u : Fin 83), 35 ≤ u.val ∧ u.val < 49 ∧ u.val ≠ 36 ∧ u.val ≠ 37 ∧ (s.dev.island u).testing = true ∧ (s.dev.island u).bistOk = true ∧ s.dev.mayServe u = true :=
  ⟨mk (dv.setIsland 48 { testing := true, faulted := true }), 1, 48, by decide +kernel⟩
theorem witness_units_come_back_2 : ∃ (s : State) (dt : Nat) (u : Fin 83), s.dev.logs ∧ u.val ≠ 36 ∧ u.val ≠ 37 ∧ (s.dev.island u).testing = true :=
  ⟨mk (dv.setIsland 82 { testing := true, faulted := true }), 1, 82, by unfold Dev.logs; decide +kernel, by decide +kernel⟩
theorem witness_units_come_back_3 : ∃ (s : State) (dt : Nat) (job : Nat) (j : Job), s.dev.Takes job 0x46 j ∧ j.bits 134 128 = 48 :=
  ⟨mk (dj dv [jx 0x46 48 0x80]), 1, 5, jx 0x46 48 0x80, takes_of (by decide +kernel), by decide +kernel⟩
theorem witness_units_come_back_4 : ∃ (s : State) (dt : Nat) (job : Nat) (j : Job) (u : Nat), s.dev.Takes job 0x46 j ∧ s.dev.mayFault u ∧ u = j.bits 134 128 ∧ u < 83 ∧ u ≠ 48 ∧ j.bits 135 135 = 0 :=
  ⟨mk (dj dv [jx 0x46 31 0x80]), 1, 5, jx 0x46 31 0x80, 31, takes_of (by decide +kernel), by unfold Dev.mayFault; decide +kernel, by decide +kernel⟩
theorem witness_units_come_back_5 : ∃ (s : State) (dt : Nat) (job : Nat) (j : Job) (u : Nat), s.dev.Takes job 0x46 j ∧ u = j.bits 134 128 ∧ 38 ≤ u ∧ u < 48 ∧ (u = 46 → 1 ∉ s.dev.mgmt.absent) ∧ j.bits 135 135 = 1 ∧ (s.dev.island u).faulted = true ∧ (s.dev.island u).testing = false ∧ s.dev.get .MGT_UNIT_TEST_FAIL u = 0 :=
  ⟨mk ((dj dv [jx 0x46 (42 + 128) 0x80]).setIsland 42 { faulted := true }), 1, 5, jx 0x46 (42 + 128) 0x80, 42, takes_of (by decide +kernel), by decide +kernel⟩
theorem witness_supplies_and_clocks_1 : ∃ (s : State) (dt : Nat) (rail : Nat), (rail = 0 ∨ rail = 1 ∨ rail = 10) :=
  ⟨mk dv, 1, 10, by decide +kernel⟩
theorem witness_supplies_and_clocks_2 : ∃ (s : State) (dt : Nat) (rail : Nat) (u : Nat), rail ≠ 0 ∧ rail ≠ 1 ∧ rail ≠ 10 ∧ s.dev.mgmt.inReset = false ∧ u ∈ railIslands rail ∧ 34 ≤ u ∧ (s.dev.island u).faulted = false :=
  ⟨mk up, 1, 6, 47, by decide +kernel⟩
theorem witness_supplies_and_clocks_3 : ∃ (s : State) (dt : Nat), 0 ∉ s.dev.mgmt.absent :=
  ⟨mk dv, 1, by decide +kernel⟩
theorem witness_supplies_and_clocks_4 : ∃ (s : State) (dt : Nat), 1 ∉ s.dev.mgmt.absent :=
  ⟨mk dv, 1, by decide +kernel⟩
theorem witness_supplies_and_clocks_5 : ∃ (s : State) (dt : Nat), 2 ∉ s.dev.mgmt.absent :=
  ⟨mk (dv.put .ENG_STAT_BOUND_CH 31 0), 1, by decide +kernel⟩
theorem witness_supplies_and_clocks_6 : ∃ (s : State) (dt : Nat), 3 ∉ s.dev.mgmt.absent :=
  ⟨mk dv, 1, by decide +kernel⟩
theorem witness_supplies_and_clocks_7 : ∃ (s : State) (dt : Nat), s.dev.mgmt.inReset = false ∧ s.dev.get .MGT_STAT_BOOT_DONE = 1 ∧ s.dev.get .MGT_UNIT_OUT_HOST 46 = 0 ∧ (s.dev.island 46).faulted = false :=
  ⟨mk ({ dv with mgmt := { inReset := false, absent := [1, 3] } }.put .MGT_STAT_BOOT_DONE 1), 1, by decide +kernel⟩
theorem witness_safety_inputs_1 : ∃ (s : State) (dt : Nat), s.dev.logs ∧ s.dev.pins.safeStop = false :=
  ⟨mk dv, 1, by unfold Dev.logs; decide +kernel, by decide +kernel⟩
end W05

namespace W06
def jx (op w1 tgt : Nat) : Job := { id := 5, fn := 0, ring := 2, slot := 7, words := [BitVec.ofNat 128 (op + 0x2a0000 + tgt * 2 ^ 32 + 2 ^ 40), BitVec.ofNat 128 w1, 0#128, 0#128], status := .taken }
def dj (d : Dev) (js : List Job) : Dev := { d with jobs := js }
def st (n : Nat) : Dev := dv.put .SYS_LAYER_STAT_STATE n
def lay (d : Dev) (l : Layer) : Dev := { d with layer := l }

theorem witness_layer_opens_1 : ∃ (s : State) (dt : Nat) (job : Nat) (j : Job), s.dev.Takes job 0x20 j ∧ s.dev.openCode j = none ∧ s.dev.layerOpen = false ∧ s.dev.inService 38 = true :=
  ⟨mk ((dj dv [jx 0x20 (7 + 5 * 2 ^ 32) 0x80]).put .SYS_ISL_STAT_IN_SERVICE 1 38), 70 * qSec, 5, jx 0x20 (7 + 5 * 2 ^ 32) 0x80, takes_of (by decide +kernel), by decide +kernel⟩
theorem witness_layer_opens_2 : ∃ (s : State) (dt : Nat) (job : Nat) (j : Job) (c : Nat), s.dev.Takes job 0x20 j ∧ s.dev.openCode j = some c :=
  ⟨mk (dj (st 3) [jx 0x20 (7 + 5 * 2 ^ 32) 0x80]), 70 * qSec, 5, jx 0x20 (7 + 5 * 2 ^ 32) 0x80, 0x0120, takes_of (by decide +kernel), by decide +kernel⟩
theorem witness_layer_opens_3 : ∃ (s : State) (dt : Nat) (job : Nat) (j : Job), s.dev.Takes job 0x20 j ∧ s.dev.openCode j = none ∧ s.dev.layerOpen = true :=
  ⟨mk (lay (dj (st 10) [jx 0x20 (1 + 5 * 2 ^ 32) 0x80]) { closeTaken := true }), 70 * qSec, 5, jx 0x20 (1 + 5 * 2 ^ 32) 0x80, takes_of (by decide +kernel), by decide +kernel⟩
theorem witness_layer_opens_4 : ∃ (s : State) (dt : Nat) (id : Nat) (j : Job), s.dev.layer.sweeping = true ∧ s.dev.get .SYS_LAYER_STAT_STATE = 9 ∧ s.dev.layer.epoch + 2097152 * qNs ≤ s.dev.now + dt ∧ s.dev.layer.retraining = 0 ∧ s.dev.relocking = false ∧ s.dev.correctionDue = false ∧ s.dev.layer.openJob = some id ∧ s.dev.job id = some j ∧ j.code = none ∧ j.replay = false ∧ j.orphan = false ∧ j.noCqeOk = false ∧ s.dev.replayKept j = false :=
  ⟨mk (lay (dj (st 9) [{ jx 0x20 7 0x80 with status := .executing }]) { sweeping := true, openJob := some 5 }), 2097152 * qNs, 5, { jx 0x20 7 0x80 with status := .executing }, by decide +kernel⟩
theorem witness_layer_opens_5 : ∃ (s : State) (dt : Nat), s.dev.layer.sweeping = false ∧ s.dev.layer.rebaseSweep = true ∧ s.dev.layer.epoch + 2097152 * qNs ≤ s.dev.now + dt :=
  ⟨mk (lay (st 3) { rebaseSweep := true }), 2097152 * qNs, by decide +kernel⟩
theorem witness_marks_assign_1 : ∃ (s : State) (dt : Nat) (job : Nat) (m : Job) (x : Job), s.dev.Takes job 0x21 m ∧ m.bits 130 128 ≤ 4 ∧ Tab.get 0 s.dev.layer.marksSet m.target ≤ m.bits 130 128 ∧ s.dev.layerOpen = true ∧ s.dev.layer.dark = false ∧ s.dev.job x.id = some x ∧ x.target = m.target ∧ x.id < m.id ∧ x.opcode ≠ 0x21 ∧ x.phase = none ∧ ((x.status = .dispatched ∨ x.status = .taken ∨ x.status = .executing)) :=
  ⟨mk (dj (st 0) [{ jx 0x31 0 3 with id := 2 }, jx 0x21 4 3]), 1, 5, jx 0x21 4 3, { jx 0x31 0 3 with id := 2 }, takes_of (by decide +kernel), by decide +kernel⟩
theorem witness_marks_assign_2 : ∃ (s : State) (dt : Nat) (job : Nat) (m : Job), s.dev.Takes job 0x21 m ∧ m.bits 130 128 ≤ 4 ∧ Tab.get 0 s.dev.layer.marksSet m.target ≤ m.bits 130 128 ∧ s.dev.layerOpen = true ∧ s.dev.layer.dark = false ∧ ((∀ x ∈ s.dev.jobs, x.target = m.target → x.id ≠ m.id → x.status = .replayable ∨ x.opcode = 0x21)) :=
  ⟨mk (dj (st 0) [jx 0x21 4 3]), 1, 5, jx 0x21 4 3, takes_of (by decide +kernel), by decide +kernel⟩
theorem witness_marks_assign_3 : ∃ (s : State) (dt : Nat) (job : Nat) (m : Job), s.dev.Takes job 0x21 m ∧ ((4 < m.bits 130 128 ∨ m.bits 130 128 < Tab.get 0 s.dev.layer.marksSet m.target)) :=
  ⟨mk (dj (st 0) [jx 0x21 5 3]), 1, 5, jx 0x21 5 3, takes_of (by decide +kernel), by decide +kernel⟩
theorem witness_marks_assign_4 : ∃ (s : State) (dt : Nat) (job : Nat) (m : Job), s.dev.Takes job 0x21 m ∧ m.bits 130 128 ≤ 4 ∧ Tab.get 0 s.dev.layer.marksSet m.target ≤ m.bits 130 128 ∧ s.dev.layerOpen = false :=
  ⟨mk (lay (dj (st 8) [jx 0x21 3 3]) { marksSet := [(3, 3)] }), 1, 5, jx 0x21 3 3, takes_of (by decide +kernel), by decide +kernel⟩
theorem witness_phases_follow_1 : ∃ (s : State) (dt : Nat), s.dev.get .SYS_LAYER_STAT_STATE = 0 ∧ (s.dev.elapse dt).phaseOver 0 = true :=
  ⟨mk (st 0), 1, by decide +kernel⟩
theorem witness_phases_follow_2 : ∃ (s : State) (dt : Nat), s.dev.get .SYS_LAYER_STAT_STATE = 1 ∧ (s.dev.elapse dt).phaseOver 1 = true ∧ s.dev.get .SYS_LAYER_STAT_HELD = 0 ∧ s.dev.checkFails = none :=
  ⟨mk (dj (st 1) [{ jx 0x60 0 0x60 with status := .replayable }]), 1, by decide +kernel⟩
theorem witness_phases_follow_3 : ∃ (s : State) (dt : Nat), s.dev.get .SYS_LAYER_STAT_STATE = 3 ∧ (s.dev.elapse dt).phaseOver 3 = true :=
  ⟨mk (lay (st 3) { engineMask := 1, marksTaken := [(0, 4)] }), 1, by decide +kernel⟩
theorem witness_phases_follow_4 : ∃ (s : State) (dt : Nat), s.dev.get .SYS_LAYER_STAT_STATE = 4 ∧ (s.dev.elapse dt).phaseOver 4 = true ∧ s.dev.layer.closeTaken = true ∧ s.dev.drives = true ∧ s.dev.layer.readySent = false ∧ s.dev.left s.dev.ownId = false ∧ ((∀ r ∈ s.dev.layer.ready, r.1 = s.dev.ownId → r.2.1 ≠ s.dev.get .SYS_LAYER_NUM_LAYER_NUM)) :=
  ⟨mk (lay (st 4) { closeTaken := true }), 1, by decide +kernel⟩
theorem witness_phases_follow_5 : ∃ (s : State) (dt : Nat), s.dev.get .SYS_LAYER_STAT_STATE = 2 ∧ (s.dev.elapse dt).phaseOver 2 = true ∧ s.dev.get .THM_STAT_STATE ≠ 2 ∧ ((s.dev.layer.everExposed = false ∨ s.dev.layer.exposeEnd + s.dev.layer.minDwellUs * qUs ≤ (s.dev.elapse dt).run)) :=
  ⟨mk (lay (st 2) { everExposed := true, minDwellUs := 3 }), 3 * qUs, by decide +kernel⟩
theorem witness_close_and_resume_1 : ∃ (s : State) (dt : Nat) (job : Nat) (j : Job), s.dev.Takes job 0x22 j ∧ s.dev.layerOpen = true ∧ s.dev.layer.closeTaken = false :=
  ⟨mk (dj (st 3) [jx 0x22 0 0x80]), 1, 5, jx 0x22 0 0x80, takes_of (by decide +kernel), by decide +kernel⟩
theorem witness_close_and_resume_2 : ∃ (s : State) (dt : Nat) (job : Nat) (j : Job), s.dev.Takes job 0x22 j ∧ (s.dev.layerOpen = false ∨ s.dev.layer.closeTaken = true) :=
  ⟨mk (dj (st 8) [jx 0x22 0 0x80]), 1, 5, jx 0x22 0 0x80, takes_of (by decide +kernel), by decide +kernel⟩
theorem witness_close_and_resume_3 : ∃ (s : State) (dt : Nat) (job : Nat) (j : Job), s.dev.Takes job 0x23 j ∧ s.dev.get .SYS_LAYER_STAT_HELD = 1 ∧ j.bits 129 128 = 0 :=
  ⟨mk (dj ((st 1).put .SYS_LAYER_STAT_HELD 1) [jx 0x23 0 0x80]), 1, 5, jx 0x23 0 0x80, takes_of (by decide +kernel), by decide +kernel⟩
theorem witness_close_and_resume_4 : ∃ (s : State) (dt : Nat) (job : Nat) (j : Job), s.dev.Takes job 0x23 j ∧ s.dev.get .SYS_LAYER_STAT_HELD = 1 ∧ j.bits 129 128 = 1 ∧ j.phase = none ∧ s.dev.get .SYS_LAYER_STAT_REPEATS < 7 :=
  ⟨mk (dj ((st 1).put .SYS_LAYER_STAT_HELD 1) [jx 0x23 1 0x80]), 1, 5, jx 0x23 1 0x80, takes_of (by decide +kernel), by decide +kernel⟩
theorem witness_close_and_resume_5 : ∃ (s : State) (dt : Nat) (job : Nat) (j : Job), s.dev.Takes job 0x23 j ∧ s.dev.get .SYS_LAYER_STAT_HELD = 1 ∧ j.bits 129 128 = 2 :=
  ⟨mk (dj ((st 1).put .SYS_LAYER_STAT_HELD 1) [jx 0x23 2 0x80]), 1, 5, jx 0x23 2 0x80, takes_of (by decide +kernel), by decide +kernel⟩
theorem witness_close_and_resume_6 : ∃ (s : State) (dt : Nat) (job : Nat) (j : Job), s.dev.Takes job 0x23 j ∧ (s.dev.get .SYS_LAYER_STAT_HELD = 0 ∨ j.bits 129 128 = 3) :=
  ⟨mk (dj (st 1) [jx 0x23 2 0x80]), 1, 5, jx 0x23 2 0x80, takes_of (by decide +kernel), by decide +kernel⟩
theorem witness_barrier_releases_1 : ∃ (s : State) (dt : Nat) (dev : Fin 1024) (g : Gran), s.dev.inService 46 = true ∧ s.dev.grantOk dev 3 none = true ∧ bitsOf g.toNat 103 96 = s.dev.get .FAB_GROUP_BARRIER_GRP ∧ s.dev.get .SYS_LAYER_STAT_STATE ≠ 10 ∧ ((∀ r ∈ s.dev.layer.ready, r.1 = dev.val → r.2.1 ≠ bitsOf g.toNat 31 0)) :=
  ⟨mk ((((dv.put .SYS_ISL_STAT_IN_SERVICE 1 46).put .WIN_GRANT_CFG_ENABLE 1 31).put .WIN_GRANT_CFG_CLASS 8 31).put .WIN_GRANT_ID_ID_HI 100 31), 1, 77, 300#128, by decide +kernel⟩
theorem witness_barrier_releases_2 : ∃ (s : State) (dt : Nat) (dev : Fin 1024) (g : Gran) (r : Nat × Nat × Nat) (n : Nat), s.dev.inService 46 = true ∧ s.dev.grantOk dev 3 none = true ∧ bitsOf g.toNat 103 96 = s.dev.get .FAB_GROUP_BARRIER_GRP ∧ s.dev.get .SYS_LAYER_STAT_STATE = 10 ∧ s.dev.layer.release = none ∧ bitsOf g.toNat 31 0 = s.dev.get .SYS_LAYER_NUM_LAYER_NUM ∧ s.dev.readyFor (s.dev.get .SYS_LAYER_NUM_LAYER_NUM) = [r] ∧ s.dev.readyNeeded = 2 ∧ s.dev.left dev = false ∧ ((∀ x ∈ s.dev.layer.ready, x.1 = dev.val → x.2.1 ≠ bitsOf g.toNat 31 0)) ∧ n = max r.2.2 (resolveTs64 (s.dev.now + dt) (bitsOf g.toNat 95 32)).toNat + s.dev.get .SYS_BARRIER_CFG_LEAD_US * qUs ∧ s.dev.now + dt ≤ n :=
  ⟨mk ((((lay ((st 10).put .SYS_ISL_STAT_IN_SERVICE 1 46) { ready := [(4, 0, 900)] }).put .SYS_BARRIER_CFG_GROUP_SIZE 2).put .WIN_GRANT_CFG_ENABLE 1 31).put .WIN_GRANT_CFG_CLASS 8 31 |>.put .WIN_GRANT_ID_ID_HI 100 31), 1, 77, BitVec.ofNat 128 (1000 * 2 ^ 32), (4, 0, 900), 256000 + (dv.get .SYS_BARRIER_CFG_LEAD_US) * qUs, by decide +kernel⟩
theorem witness_barrier_releases_3 : ∃ (s : State) (dt : Nat) (id : Nat) (j : Job) (t : Nat), s.dev.get .SYS_LAYER_STAT_STATE = 10 ∧ s.dev.layer.release = some t ∧ t ≤ s.dev.now + dt ∧ s.dev.layer.closeJob = some id ∧ s.dev.job id = some j ∧ j.code = none ∧ j.replay = false ∧ j.orphan = false ∧ j.noCqeOk = false ∧ s.dev.replayKept j = false :=
  ⟨mk (lay (dj (st 10) [{ jx 0x22 0 0x80 with status := .executing }]) { release := some 77, closeJob := some 5 }), 77, 5, { jx 0x22 0 0x80 with status := .executing }, 77, by decide +kernel⟩
theorem witness_barrier_releases_4 : ∃ (s : State) (dt : Nat), s.dev.logs ∧ s.dev.get .SYS_LAYER_STAT_STATE = 10 ∧ s.dev.layer.waitSince + (s.dev.layer.reminders + 1) * 10 * qSec ≤ s.dev.now + dt :=
  ⟨mk (st 10), 10 * qSec, by unfold Dev.logs; decide +kernel, by decide +kernel⟩
theorem witness_layer_rebases_1 : ∃ (s : State) (dt : Nat), s.dev.logs ∧ s.dev.layerOpen = true ∧ s.dev.get .SYS_LAYER_STAT_STATE ≠ 9 ∧ s.dev.layer.rebase = false ∧ s.dev.layer.rebaseSweep = false ∧ s.dev.layer.epoch + 64000 * qMs ≤ s.dev.now + dt :=
  ⟨mk (st 3), 64000 * qMs, by unfold Dev.logs; decide +kernel, by decide +kernel⟩
theorem witness_layer_rebases_2 : ∃ (s : State) (dt : Nat), s.dev.layer.rebase = true ∧ ((∀ n < 34, (s.dev.eng n).plans = [] ∧ (s.dev.eng n).gate.edges = [])) :=
  ⟨mk (lay (st 3) { rebase := true }), 70 * qSec, by decide +kernel⟩
end W06

namespace W07
def jx (op w1 tgt : Nat) : Job := { id := 5, fn := 0, ring := 2, slot := 7, words := [BitVec.ofNat 128 (op + 0x2a0000 + tgt * 2 ^ 32 + 2 ^ 40), BitVec.ofNat 128 w1, 0#128, 0#128], status := .taken }
def dj (d : Dev) (js : List Job) : Dev := { d with jobs := js }
def rc (n : Nat) (x : Int) : LRec := { ser := n, job := 5, cls := 1, S := {}, E := { x := x, y := 0, z := 0 }, power := 30, speed := 100, eob := true }
def pl : Plan := { r := rc 1 1000, tMove := 0, tBody := 0, tCommit := 0, started := true, blended := some false }
def pn : Plan := { r := rc 1 1000, tMove := 9, tBody := 20, tCommit := 1000000 }
def up (n : Nat) : Dev := ((((dv.put .SYS_ISL_STAT_IN_SERVICE 1 39).put .SYS_ISL_STAT_IN_SERVICE 1 40).put .SYS_LAYER_STAT_STATE 3).put .ENG_STAT_BOUND_CH 0 n).put .SYS_ISL_STAT_IN_SERVICE 1 n
def trn : Train := { ser := 1, mode := 2, cls := 1, t0 := 1000000, step := 100, next := 100, width := 2000, trace := [{ kind := .body, t0 := 1000000, dur := 10000000, p := {}, q := {} }] }
def frm (ch st : Nat) : Gran := BitVec.ofNat 128 (255 * 2 ^ 72 + st * 2 ^ 80 + ch * 2 ^ 96 + 77 * 2 ^ 112)

theorem witness_engine_streams_1 : ∃ (s : State) (dt : Nat) (job : Nat) (j : Job), s.dev.Takes job 0x30 j ∧ (s.dev.eng (s.dev.execEngine j.target)).discard = false ∧ s.dev.get .ENG_GATE_STAT_SAFE_STOP (s.dev.execEngine j.target) = 0 :=
  ⟨mk (dj dv [jx 0x30 9 3]), 1, 5, jx 0x30 9 3, takes_of (by decide +kernel), by decide +kernel⟩
theorem witness_engine_streams_2 : ∃ (s : State) (dt : Nat) (job : Nat) (j : Job), s.dev.Takes job 0x31 j ∧ (s.dev.eng (s.dev.execEngine j.target)).discard = false ∧ s.dev.get .ENG_GATE_STAT_SAFE_STOP (s.dev.execEngine j.target) = 0 :=
  ⟨mk (dj (dv.setCover 1 { phase := .active, req := some { kind := .fault, unit := 3 } }) [jx 0x31 9 3]), 1, 5, jx 0x31 9 3, takes_of (by decide +kernel), by decide +kernel⟩
theorem witness_engine_streams_3 : ∃ (s : State) (dt : Nat) (job : Nat) (j : Job), s.dev.Takes job 0x33 j ∧ (s.dev.eng (s.dev.execEngine j.target)).discard = false :=
  ⟨mk (dj dv [jx 0x33 9 3]), 1, 5, jx 0x33 9 3, takes_of (by decide +kernel), by decide +kernel⟩
theorem witness_engine_streams_4 : ∃ (s : State) (dt : Nat) (job : Nat) (j : Job), s.dev.Takes job 0x30 j ∧ (s.dev.eng (s.dev.execEngine j.target)).discard = true :=
  ⟨mk ((dj dv [jx 0x30 9 3]).modEng 3 (fun e => { e with discard := true })), 1, 5, jx 0x30 9 3, takes_of (by decide +kernel), by decide +kernel⟩
theorem witness_engine_streams_5 : ∃ (s : State) (dt : Nat) (job : Nat) (j : Job), s.dev.Takes job 0x31 j ∧ (s.dev.eng (s.dev.execEngine j.target)).discard = false ∧ s.dev.get .ENG_GATE_STAT_SAFE_STOP (s.dev.execEngine j.target) = 1 :=
  ⟨mk ((dj dv [jx 0x31 9 3]).put .ENG_GATE_STAT_SAFE_STOP 1 3), 1, 5, jx 0x31 9 3, takes_of (by decide +kernel), by decide +kernel⟩
theorem witness_engine_streams_6 : ∃ (s : State) (dt : Nat) (n : Fin 34) (id : Nat) (j : Job), s.dev.inService 35 = true ∧ (s.dev.eng n).stream = [id] ∧ s.dev.job id = some j ∧ j.vector = true ∧ fifoLevel (s.dev.eng n).fifo < s.dev.fifoLow n ∧ j.progress < j.records.length ∧ j.records.length - j.progress ≤ min 512 (3840 - fifoLevel (s.dev.eng n).fifo) :=
  ⟨mk ((dj ((dv.put .SYS_ISL_STAT_IN_SERVICE 1 35).put .WIN_OWN_ENG_LO_ENG 8 0) [{ jx 0x31 9 3 with status := .executing }]).modEng 3 (fun e => { e with stream := [5] })), 1, 3, 5, { jx 0x31 9 3 with status := .executing }, by decide +kernel⟩
theorem witness_engine_streams_7 : ∃ (s : State) (dt : Nat) (n : Fin 34) (id : Nat) (g : Gran) (rest : List EItem), (s.dev.eng n).fifo = .record id g :: rest ∧ recCls g.toNat = 6 ∧ (s.dev.eng n).plans ≠ [] ∧ (s.dev.eng n).look.length < 512 ∧ ((∀ b, s.dev.bankFor n = some b → b.valid = true)) :=
  ⟨mk (dv.modEng 3 (fun e => { e with corr := { e.corr with active := { e.corr.active with valid := true } }, fifo := [.record 5 (BitVec.ofNat 128 (6 * 2 ^ 112)), .swap 7], plans := [pl] })), 1, 3, 5, BitVec.ofNat 128 (6 * 2 ^ 112), [.swap 7], by decide +kernel⟩
theorem witness_engine_streams_8 : ∃ (s : State) (dt : Nat) (n : Fin 34) (id : Nat) (j : Job) (rest : List EItem), (s.dev.eng n).fifo = .limits id :: rest ∧ s.dev.job id = some j ∧ (s.dev.eng n).plans ≠ [] ∧ (s.dev.eng n).look.length < 512 :=
  ⟨mk ((dj dv [{ jx 0x33 77 3 with status := .executing }]).modEng 3 (fun e => { e with fifo := [.limits 5, .swap 7], plans := [pl] })), 1, 3, 5, { jx 0x33 77 3 with status := .executing }, [.swap 7], by decide +kernel⟩
theorem witness_engine_streams_9 : ∃ (s : State) (dt : Nat) (n : Fin 34) (id : Nat) (g : Gran) (rest : List EItem) (b : Bank), s.dev.logs ∧ (s.dev.eng n).fifo = .record id g :: rest ∧ recCls g.toNat ≠ 6 ∧ recCls g.toNat ≠ 7 ∧ (s.dev.eng n).plans ≠ [] ∧ (s.dev.eng n).look.length < 512 ∧ s.dev.bankFor n = some b ∧ b.valid = false :=
  ⟨mk (dv.modEng 3 (fun e => { e with fifo := [.record 5 (BitVec.ofNat 128 (2 ^ 96 + 2 ^ 112 + 1000)), .record 5 0#128, .swap 7], plans := [pl] })), 1, 3, 5, BitVec.ofNat 128 (2 ^ 96 + 2 ^ 112 + 1000), [.record 5 0#128, .swap 7], {}, by unfold Dev.logs; decide +kernel, by decide +kernel⟩
theorem witness_engine_streams_10 : ∃ (s : State) (dt : Nat) (job : Nat) (j : Job) (n : Nat), s.dev.Takes job 0x32 j ∧ s.dev.execEngine j.target = n ∧ n < 34 ∧ s.dev.earlierDone j = true ∧ (s.dev.elapse dt).atRest n = true ∧ (s.dev.eng n).parking = none ∧ (s.dev.eng n).newLims = [] ∧ (s.dev.eng n).outField = [] ∧ (s.dev.eng n).discard = false :=
  ⟨mk (dj dv [jx 0x32 9 3]), 1, 5, jx 0x32 9 3, 3, takes_of (by decide +kernel), by decide +kernel⟩
theorem witness_engine_streams_11 : ∃ (s : State) (dt : Nat) (n : Fin 34) (job : Nat) (j : Job), (s.dev.eng n).parking = some (some job) ∧ (s.dev.eng n).plans = [] ∧ endOf 0 (s.dev.eng n).moves ≤ s.dev.now + dt ∧ s.dev.get .ENG_STAT_STATE n = 4 ∧ s.dev.job job = some j ∧ j.code = none ∧ j.replay = false ∧ j.orphan = false ∧ j.noCqeOk = false ∧ s.dev.replayKept j = false :=
  ⟨mk ((dj (dv.put .ENG_STAT_STATE 4 3) [{ jx 0x32 9 3 with status := .executing }]).modEng 3 (fun e => { e with parking := some (some 5) })), 1, 3, 5, { jx 0x32 9 3 with status := .executing }, by decide +kernel⟩
theorem witness_records_play_1 : ∃ (s : State) (dt : Nat) (n : Fin 34) (r : LRec), s.dev.toRequest n = some r ∧ r.share = none ∧ r.clear = false ∧ s.dev.get .SYS_LAYER_STAT_STATE = 3 ∧ s.dev.get .ENG_STAT_STATE n ≠ 0 ∧ s.dev.get .ENG_STAT_STATE n ≠ 6 :=
  ⟨mk (((up 3).put .ENG_STAT_STATE 1 3).modEng 3 (fun e => { e with look := [rc 1 1000] })), 1, 3, rc 1 1000, by decide +kernel⟩
theorem witness_records_play_2 : ∃ (s : State) (dt : Nat) (n : Fin 34) (d : Dev) (p : Plan), d = (if ((s.dev.elapse dt).restActs n).atRest n then (((s.dev.elapse dt).restActs n).passHead n (s.dev.now + dt)).restActs n else (s.dev.elapse dt).restActs n).extendTo n (s.dev.now + dt) ∧ (d.eng n).plans.find? (fun q => !q.started) = some p ∧ p.tBody ≤ s.dev.now + dt ∧ p.lead = [] :=
  ⟨mk ((up 3).modEng 3 (fun e => { e with plans := [pn] })), 20, 3, ((((up 3).modEng 3 (fun e => { e with plans := [pn] })).elapse 20).restActs 3).extendTo 3 20, pn, by decide +kernel⟩
theorem witness_records_play_3 : ∃ (s : State) (dt : Nat) (n : Fin 34) (d : Dev) (p : Plan) (j : Job), d = ((s.dev.elapse dt).extendTo n (s.dev.now + dt)).flushGate n ∧ (d.eng n).plans.head? = some p ∧ p.started = true ∧ p.blended.isSome = true ∧ p.tEnd ≤ s.dev.now + dt ∧ (d.eng n).loop.bothFault = false ∧ p.r.eob = true ∧ d.job p.r.job = some j ∧ j.code = none ∧ j.replay = false ∧ j.orphan = false ∧ j.noCqeOk = false ∧ d.replayKept j = false :=
  ⟨mk ((dj (up 3) [{ jx 0x31 9 3 with status := .executing }]).modEng 3 (fun e => { e with plans := [pl] })), 900, 3, (((dj (up 3) [{ jx 0x31 9 3 with status := .executing }]).modEng 3 (fun e => { e with plans := [pl] })).elapse 900 |>.extendTo 3 900).flushGate 3, pl, { jx 0x31 9 3 with status := .executing }, by decide +kernel⟩
theorem witness_records_play_4 : ∃ (s : State) (dt : Nat) (n : Fin 34) (d : Dev) (tr : Train), d = (s.dev.elapse dt).extendTo n (s.dev.now + dt + s.dev.leadOf n) ∧ (d.eng n).gate.train = some tr ∧ (d.eng n).gate.olds = [] ∧ tr.mode ≠ 0 ∧ tr.hold = false ∧ tr.step ≠ 0 ∧ tr.next ≤ tr.known ∧ tr.tEnd = none ∧ tr.timeOf tr.next + tr.width ≤ endOf tr.t0 tr.trace ∧ (d.eng n).gate.early + tr.advOn ≤ tr.timeOf tr.next :=
  ⟨mk ((up 3).modGate 3 (fun g => { g with train := some trn })), 1, 3, (((up 3).modGate 3 (fun g => { g with train := some trn })).elapse 1).extendTo 3 (1 + ((up 3).modGate 3 (fun g => { g with train := some trn })).leadOf 3), trn, by decide +kernel⟩
theorem witness_records_play_5 : ∃ (s : State) (dt : Nat) (n : Fin 34) (d : Dev) (tr : Train), d = (s.dev.elapse dt).extendTo n (s.dev.now + dt + s.dev.leadOf n) ∧ (d.eng n).gate.train = some tr ∧ (d.eng n).gate.olds = [] ∧ tr.mode ≠ 0 ∧ tr.hold = false ∧ tr.step ≠ 0 ∧ tr.next ≤ tr.known ∧ tr.timeOf tr.next < (d.eng n).gate.early + tr.advOn ∧ tr.suppress = true :=
  ⟨mk ((up 3).modGate 3 (fun g => { g with train := some { trn with suppress := true }, early := 1200000 })), 1, 3, (((up 3).modGate 3 (fun g => { g with train := some { trn with suppress := true }, early := 1200000 })).elapse 1).extendTo 3 (1 + ((up 3).modGate 3 (fun g => { g with train := some { trn with suppress := true }, early := 1200000 })).leadOf 3), { trn with suppress := true }, by decide +kernel⟩
theorem witness_records_play_6 : ∃ (s : State) (dt : Nat) (n : Fin 34) (d : Dev) (tr : Train), d = (s.dev.elapse dt).extendTo n (s.dev.now + dt + s.dev.leadOf n) ∧ (d.eng n).gate.train = some tr ∧ (d.eng n).gate.olds = [] ∧ tr.mode ≠ 0 ∧ tr.hold = false ∧ tr.step ≠ 0 ∧ tr.next ≤ tr.known ∧ tr.tEnd = none ∧ tr.timeOf tr.next < (d.eng n).gate.early + tr.advOn ∧ tr.suppress = false ∧ (d.eng n).gate.early + tr.advOn ≤ endOf tr.t0 tr.trace :=
  ⟨mk ((up 3).modGate 3 (fun g => { g with train := some trn, early := 1200000 })), 1, 3, (((up 3).modGate 3 (fun g => { g with train := some trn, early := 1200000 })).elapse 1).extendTo 3 (1 + ((up 3).modGate 3 (fun g => { g with train := some trn, early := 1200000 })).leadOf 3), trn, by decide +kernel⟩
theorem witness_channel_links_1 : ∃ (s : State) (dt : Nat), (s.dev.now + dt) % (500 * qNs) = 0 ∧ s.dev.inService 40 = true ∧ s.dev.fenced = false :=
  ⟨mk (((up 3).setLink 9 { last := 2 ^ 127 + 77 + 2 ^ 80 })), 500 * qNs, by decide +kernel⟩
theorem witness_channel_links_2 : ∃ (s : State) (dt : Nat) (ch : Fin 32) (frame : Gran) (crc : BitVec 16) (n : Nat), s.dev.engineOf ch = some n ∧ crc16 (leBytes 16 frame.toNat) = crc.toNat ∧ bitsOf frame.toNat 101 96 = ch ∧ bitsOf frame.toNat 79 72 = ((s.dev.link ch).seq + 255) % 256 ∧ hasBit frame.toNat 83 = false ∧ hasBit frame.toNat 80 = true ∧ s.dev.get .ENG_STAT_LINK_UP n = 0 ∧ 15 ≤ (s.dev.link ch).good :=
  ⟨mk ((up 3).setLink 0 { good := 15, bad := 3 }), 1, 0, frm 0 3, BitVec.ofNat 16 (crc16 (leBytes 16 (frm 0 3).toNat)), 3, by decide +kernel⟩
theorem witness_channel_links_3 : ∃ (s : State) (dt : Nat) (ch : Fin 32) (frame : Gran) (crc : BitVec 16), crc16 (leBytes 16 frame.toNat) ≠ crc.toNat ∧ bitsOf frame.toNat 101 96 = ch :=
  ⟨mk (up 3), 1, 0, frm 0 3, BitVec.ofNat 16 (crc16 (leBytes 16 (frm 0 3).toNat) + 1), by decide +kernel⟩
theorem witness_channel_links_4 : ∃ (s : State) (dt : Nat) (ch : Fin 32) (frame : Gran) (crc : BitVec 16) (n : Nat), s.dev.engineOf ch = some n ∧ bitsOf frame.toNat 101 96 ≠ ch ∧ s.dev.get .ENG_STAT_LINK_UP n = 1 :=
  ⟨mk ((up 3).put .ENG_STAT_LINK_UP 1 3), 1, 0, frm 1 3, BitVec.ofNat 16 (crc16 (leBytes 16 (frm 1 3).toNat)), 3, by decide +kernel⟩
theorem witness_channel_links_5 : ∃ (s : State) (dt : Nat) (ch : Fin 32) (n : Nat), s.dev.engineOf ch = some n ∧ s.dev.get .ENG_STAT_LINK_UP n = 0 ∧ (s.dev.link ch).faulted = false ∧ (s.dev.link ch).since + 10 * qMs ≤ (s.dev.elapse dt).run :=
  ⟨mk (up 3), 10 * qMs, 0, 3, by decide +kernel⟩
theorem witness_channel_links_6 : ∃ (s : State) (dt : Nat) (ch : Fin 32) (n : Nat), s.dev.engineOf ch = some n ∧ s.dev.get .ENG_STAT_LINK_UP n = 1 ∧ s.dev.get .ENG_LINK_CFG_LOSS_FRAMES n ≤ (s.dev.link ch).bad :=
  ⟨mk (((up 3).put .ENG_STAT_LINK_UP 1 3).setLink 0 { bad := 20 }), 10 * qMs, 0, 3, by decide +kernel⟩
theorem witness_channel_links_7 : ∃ (s : State) (dt : Nat) (ch : Fin 32) (n : Nat), s.dev.engineOf ch = some n :=
  ⟨mk (((up 3).put .ENG_STAT_LINK_UP 1 3).put .ENG_GATE_STAT_GATE_NOW 1 3), 1, 0, 3, by decide +kernel⟩
end W07

namespace W08
def jx (op w1 tgt : Nat) : Job := { id := 5, fn := 0, ring := 2, slot := 7, words := [BitVec.ofNat 128 (op + 0x2a0000 + tgt * 2 ^ 32 + 2 ^ 40), BitVec.ofNat 128 w1, 0#128, 0#128], status := .taken }
def dj (d : Dev) (js : List Job) : Dev := { d with jobs := js }
def jex (op w1 w2 : Nat) (data : Option (List Gran)) : Job := { id := 5, fn := 0, ring := 2, slot := 7, words := [BitVec.ofNat 128 (op + 0x2a0000 + 3 * 2 ^ 32 + 2 ^ 40), BitVec.ofNat 128 w1, BitVec.ofNat 128 w2, 0#128], status := .executing, data := data }
/-- A flat image: pitch 100 µm, no residuals and a focus gain that makes its check word simple. -/
def flatHead : List Gran := [BitVec.ofNat 128 (100 * 2 ^ 64 + 100 * 2 ^ 80), 0#128, BitVec.ofNat 128 (887533749 * 2 ^ 64), BitVec.ofNat 128 (0xffffffff * 2 ^ 96)]
def flatData : List Gran := flatHead ++ List.replicate 1587 0#128
def flatBank : Bank := { image := (granBytes flatData).take imageLen, valid := true }

theorem granBytes_zeros (n : Nat) : granBytes (List.replicate n 0#128) = List.replicate (16 * n) 0#8 := by
  induction n with
  | zero => rfl
  | succ n ih =>
    have h : leBytes 16 (0#128 : Gran).toNat = List.replicate 16 0#8 := by decide +kernel
    have e : granBytes (List.replicate (n + 1) 0#128) = leBytes 16 (0#128 : Gran).toNat ++ granBytes (List.replicate n 0#128) := rfl
    rw [e, ih, h, List.replicate_append_replicate]
    congr 1
    omega

theorem crc_zeros (n : Nat) : (List.replicate n 0#8).foldl crc32cByte 0 = 0 := by
  induction n with
  | zero => rfl
  | succ n ih => rw [List.replicate_succ, List.foldl_cons, show crc32cByte 0 0#8 = 0 by decide +kernel, ih]

theorem ofLe_zeros (n : Nat) : ofLeBytes (List.replicate n 0#8) = 0 := by
  induction n with
  | zero => rfl
  | succ n ih => simp [List.replicate_succ, ofLeBytes, ih]

theorem flat_image : flatBank.image = granBytes flatHead ++ List.replicate 25392 0#8 := by
  have h : granBytes flatData = granBytes flatHead ++ granBytes (List.replicate 1587 0#128) := by
    unfold flatData granBytes
    exact List.flatMap_append
  have l : (granBytes flatHead).length = 64 := by decide +kernel
  have e : flatBank.image = (granBytes flatData).take imageLen := rfl
  rw [e, h, granBytes_zeros]
  apply List.take_of_length_le
  rw [List.length_append, List.length_replicate, l]
  decide

theorem flat_head_length : (granBytes flatHead).length = 64 := by decide +kernel

theorem flat_drop (k n : Nat) : (flatBank.image.drop (64 + k)).take n = List.replicate (min n (25392 - k)) 0#8 := by
  rw [flat_image, List.drop_append, List.drop_eq_nil_of_le (by rw [flat_head_length]; omega), flat_head_length, Nat.add_sub_cancel_left,
    List.nil_append, List.drop_replicate, List.take_replicate]

theorem flat_hdr (hi lo : Nat) : flatBank.hdr hi lo = bitsOf (ofLeBytes (granBytes flatHead)) hi lo := by
  unfold Bank.hdr
  rw [flat_image, ← flat_head_length, List.take_left']
  exact rfl

theorem flat_entry (k j i : Nat) : flatBank.entry k j i = 0 := by
  unfold Bank.entry
  rw [Nat.add_assoc, flat_drop, ofLe_zeros]
  decide +kernel

theorem flat_check : flatBank.check = none := by
  have hl : flatBank.image.length = imageLen := by rw [flat_image, List.length_append, List.length_replicate, flat_head_length]; decide
  have hc : crc32c (flatBank.image.take 60 ++ flatBank.image.drop 64) = flatBank.crc := by
    have h1 : flatBank.image.take 60 = (granBytes flatHead).take 60 := by
      rw [flat_image, List.take_append_of_le_length (by rw [flat_head_length]; omega)]
    have h2 : flatBank.image.drop 64 = List.replicate 25392 0#8 := by
      rw [flat_image, List.drop_left' flat_head_length]
    have h3 : ((granBytes flatHead).take 60).foldl crc32cByte 0xffffffff = 0 := by decide +kernel
    rw [h1, h2, Bank.crc, flat_hdr, crc32c, List.foldl_append, h3, crc_zeros]
    decide +kernel
  have hh : flatBank.headerOk = true := by
    unfold Bank.headerOk Bank.pitchX Bank.pitchY
    simp only [flat_hdr, Nat.add_assoc, flat_drop]
    decide +kernel
  have hn : flatBank.nodesOk = true := by
    have hs : ∀ j i, flatBank.setpoint (flatBank.node j i) = (0, 0, 0) := by
      intro j i
      have g : ∀ lo, lo = 128 ∨ lo = 160 ∨ lo = 192 ∨ lo = 224 → flatBank.hdrS lo = 0 := by
        rintro lo (rfl | rfl | rfl | rfl) <;> (unfold Bank.hdrS; rw [flat_hdr]; decide +kernel)
      have r : ∀ k j i fx fy, flatBank.res k j i fx fy = 0 := by
        intro k j i fx fy
        simp [Bank.res, flat_entry]
      have z1 : rndAway 0 (1000 * 2 ^ 32) = 0 := by decide +kernel
      have z2 : rndAway 0 (2 ^ 32) = 0 := by decide +kernel
      simp only [Bank.setpoint, r, g 128 (by simp), g 160 (by simp), g 192 (by simp), g 224 (by simp), Bank.node, Int.zero_mul, Int.mul_zero, Int.add_zero, z1, z2]
    have hd : inDefl 0 = true := by decide +kernel
    simp [Bank.nodesOk, hs, hd]
  unfold Bank.check
  simp [hl, hc, hh, hn]

def smallBank : Bank := { image := [1#8, 2#8, 3#8], valid := true }
def wnd (d : Dev) : Dev := (((d.put .WIN_CFG_ENABLE 1).put .WIN_CFG_SIZE_LOG2 40).put .WIN_CFG_R 1).put .WIN_CFG_W 1
def frc (d : Dev) (f : Fld) (v i j : Nat) : Dev := (d.put f v i j).latch f i j
def shr (z k : Nat) : Share := { zone := z, vidx := k, lo := 0, hi := 500, len := 1000, split := 500, feather := 0, near := true, miss := false }
def srec : LRec := { ser := 4, job := 5, cls := 7, S := {}, E := { x := 500, y := 0, z := 0 }, VS := {}, VE := { x := 1000, y := 0, z := 0 }, share := some (shr 2 9) }
def rq (n ser : Nat) : KReq := { eng := n, ser := ser, cls := 7, x0 := 0, y0 := 0, x1 := 500, y1 := 0, inst := 0 }
def scf (d : Dev) (role : Nat) : Dev := frc (frc (frc (frc (frc (frc d .SCF_ZONE_CFG_ENABLE 1 3 2) .SCF_ZONE_CFG_ROLE role 3 2) .SCF_ZONE_CFG_REMOTE 1 3 2) .SCF_ZONE_PART_PART_DEV 77 3 2) .SCF_ZONE_PART_PART_DEV_ALT 77 3 2) .SCF_ZONE_TIME_TAKEOVER_US 8 3 2
def grt (d : Dev) (c : Nat) : Dev := ((d.put .WIN_GRANT_CFG_ENABLE 1 31).put .WIN_GRANT_CFG_CLASS (2 ^ c) 31).put .WIN_GRANT_ID_ID_HI 100 31
def krf (d : Dev) (k : Kerf) : Dev := { d with kerf := k }
def k0 : Dev := ((dv.put .SYS_ISL_STAT_IN_SERVICE 1 46).put .SYS_ISL_STAT_IN_SERVICE 1 39).put .ENG_STAT_BOUND_CH 6 3
def wide (d : Dev) : Dev := frc (frc (frc (frc d .KRF_INNER_X0_EDGE (2 ^ 32 - 10 ^ 8) 0 0) .KRF_INNER_Y0_EDGE (2 ^ 32 - 10 ^ 8) 0 0) .KRF_INNER_X1_EDGE (10 ^ 8) 0 0) .KRF_INNER_Y1_EDGE (10 ^ 8) 0 0
def hst (d : Dev) : Dev := (d.put .SYS_ISL_STAT_IN_SERVICE 1 34).setFn 0 { busMaster := true }
def pr0 (d : Dev) : Dev := (d.put .KRF_PEER_ENABLE 1 5).put .KRF_PEER_PEER_ID 77 5
def note (d : Dev) (sig : Nat) : Gran := BitVec.ofNat 128 (2 ^ 32 + 2 * 2 ^ 54 + 6 * 2 ^ 48 + 11 * 2 ^ 64 + 400 * 2 ^ 80 + ((d.zoneSig 3 2) + sig) * 2 ^ 112)
def ns0 : Dev := (scf (grt (k0.put .SYS_LAYER_STAT_STATE 3) 2) 0)
def r0 (n c : Nat) (x y : Int) : LRec := { ser := n, job := 5, cls := c, S := {}, E := { x := x, y := y, z := 0 }, reord := c == 0 }

theorem witness_correction_banks_1 : ∃ (s : State) (dt : Nat) (job : Nat) (j : Job) (n : Nat), s.dev.Takes job 0x34 j ∧ s.dev.execEngine j.target = n ∧ n < 34 ∧ (s.dev.eng n).discard = false ∧ s.dev.corBusy n = false :=
  ⟨mk (dj dv [jx 0x34 0x1000 3]), 1, 5, jx 0x34 0x1000 3, 3, takes_of (by decide +kernel), by decide +kernel⟩
theorem witness_correction_banks_2 : ∃ (s : State) (dt : Nat) (job : Nat) (j : Job), s.dev.Takes job 0x34 j ∧ (s.dev.eng (s.dev.execEngine j.target)).discard = false ∧ s.dev.corBusy (s.dev.execEngine j.target) = true :=
  ⟨mk ((dj dv [jx 0x34 0x1000 3]).modCorr 3 (fun c => { c with loading := some 4 })), 1, 5, jx 0x34 0x1000 3, takes_of (by decide +kernel), by decide +kernel⟩
theorem witness_correction_banks_3 : ∃ (s : State) (dt : Nat) (n : Fin 34) (id : Nat) (j : Job) (b : Bank), b = { image := (granBytes (j.data.getD [])).take imageLen, valid := true } ∧ b.check = none ∧ (s.dev.eng n).corr.loading = some id ∧ s.dev.job id = some j ∧ j.bits 193 192 = 2 ∧ j.code = none ∧ j.replay = false ∧ j.orphan = false ∧ j.noCqeOk = false ∧ s.dev.replayKept j = false :=
  ⟨mk ((dj dv [jex 0x34 (2 ^ 65) 0 (some flatData)]).modCorr 3 (fun c => { c with loading := some 5 })), 1, 3, 5, jex 0x34 (2 ^ 65) 0 (some flatData), flatBank, rfl, flat_check, by decide +kernel⟩
theorem witness_correction_banks_4 : ∃ (s : State) (dt : Nat) (n : Fin 34) (id : Nat) (j : Job) (c : Nat), (s.dev.eng n).corr.loading = some id ∧ s.dev.job id = some j ∧ Bank.check { image := (granBytes (j.data.getD [])).take imageLen, valid := true } = some c ∧ j.code = none ∧ j.replay = false ∧ j.orphan = false ∧ j.noCqeOk = false ∧ s.dev.replayKept j = false :=
  ⟨mk ((dj dv [jex 0x34 0 2 (some [])]).modCorr 3 (fun c => { c with loading := some 5 })), 1, 3, 5, jex 0x34 0 2 (some []), 0x0171, by decide +kernel⟩
theorem witness_correction_banks_5 : ∃ (s : State) (dt : Nat) (job : Nat) (j : Job) (n : Nat), s.dev.Takes job 0x35 j ∧ s.dev.execEngine j.target = n ∧ n < 34 ∧ (s.dev.eng n).discard = false ∧ s.dev.corBusy n = false ∧ (s.dev.eng n).corr.shadow.valid = true :=
  ⟨mk ((dj dv [jx 0x35 0 3]).modCorr 3 (fun c => { c with shadow := smallBank })), 1, 5, jx 0x35 0 3, 3, takes_of (by decide +kernel), by decide +kernel⟩
theorem witness_correction_banks_6 : ∃ (s : State) (dt : Nat) (job : Nat) (j : Job) (n : Nat), s.dev.Takes job 0x35 j ∧ s.dev.execEngine j.target = n ∧ (s.dev.eng n).discard = false ∧ s.dev.corBusy n = false ∧ (s.dev.eng n).corr.shadow.valid = false :=
  ⟨mk (dj dv [jx 0x35 0 3]), 1, 5, jx 0x35 0 3, 3, takes_of (by decide +kernel), by decide +kernel⟩
theorem witness_correction_banks_7 : ∃ (s : State) (dt : Nat) (n : Fin 34) (id : Nat) (j : Job), (s.dev.elapse dt).swapDue n = true ∧ (s.dev.eng n).corr.pending = some id ∧ s.dev.job id = some j ∧ j.code = none ∧ j.replay = false ∧ j.orphan = false ∧ j.noCqeOk = false ∧ s.dev.replayKept j = false :=
  ⟨mk ((dj dv [jex 0x35 0 0 none]).modCorr 3 (fun c => { c with shadow := smallBank, pending := some 5, after := some 0 })), 1, 3, 5, jex 0x35 0 0 none, by decide +kernel⟩
theorem witness_correction_banks_8 : ∃ (s : State) (dt : Nat) (job : Nat) (j : Job) (b : Bank), s.dev.Takes job 0x36 j ∧ (s.dev.eng (s.dev.execEngine j.target)).discard = false ∧ (s.dev.eng (s.dev.execEngine j.target)).corr.active = b ∧ b.valid = true ∧ s.dev.rangeCause j.fn j.addr b.image.length false true = none ∧ s.dev.mayWrite j.fn = true ∧ (s.dev.fn j.fn).held = [] :=
  ⟨mk ((dj (hst (wnd dv)) [jx 0x36 0x1000 3]).modCorr 3 (fun c => { c with active := smallBank })), 1, 5, jx 0x36 0x1000 3, smallBank, takes_of (by decide +kernel), by decide +kernel⟩
theorem witness_correction_banks_9 : ∃ (s : State) (dt : Nat) (job : Nat) (j : Job), s.dev.Takes job 0x36 j ∧ (s.dev.eng (s.dev.execEngine j.target)).discard = false ∧ (s.dev.eng (s.dev.execEngine j.target)).corr.active.valid = false :=
  ⟨mk (dj dv [jx 0x36 0x1000 3]), 1, 5, jx 0x36 0x1000 3, takes_of (by decide +kernel), by decide +kernel⟩
theorem witness_correction_banks_10 : ∃ (s : State) (dt : Nat) (job : Nat) (j : Job) (op : Nat), s.dev.Takes job op j ∧ op ∈ [0x34, 0x35, 0x36] ∧ (s.dev.eng (s.dev.execEngine j.target)).discard = true :=
  ⟨mk ((dj dv [jx 0x35 0x1000 3]).modEng 3 (fun e => { e with discard := true })), 1, 5, jx 0x35 0x1000 3, 0x35, takes_of (by decide +kernel), by decide +kernel⟩
theorem witness_correction_banks_11 : ∃ (s : State) (dt : Nat) (n : Fin 34), (s.dev.eng n).corr.pending = none :=
  ⟨mk (dv.modCorr 3 (fun c => { c with shadow := smallBank })), 1, 3, by decide +kernel⟩
theorem witness_scarf_shares_1 : ∃ (s : State) (dt : Nat) (n : Fin 34) (q : KReq) (r : LRec) (h : Share), s.dev.waitingRec n = some (q, r) ∧ r.share = some h ∧ h.pass = false ∧ h.union = false ∧ s.dev.eff .SCF_ZONE_CFG_ROLE n h.zone = 1 ∧ s.dev.eff .SCF_ZONE_TIME_TAKEOVER_US n h.zone ≠ 0 ∧ s.dev.eff .SCF_ZONE_TIME_TAKEOVER_US n h.zone * qUs ≤ s.dev.now + dt - q.inst ∧ s.dev.eff .SCF_ZONE_CFG_REMOTE n h.zone = 1 :=
  ⟨mk (krf ((scf dv 1).modEng 3 (fun e => { e with look := [srec] })) { reqs := [rq 3 4] }), 8 * qUs, 3, rq 3 4, srec, shr 2 9, by decide +kernel⟩
theorem witness_scarf_shares_2 : ∃ (s : State) (dt : Nat) (dev : Fin 1024) (g : Gran) (n : Nat) (z : Nat), s.dev.peerFrozen dev = false ∧ s.dev.grantOk dev 2 none = true ∧ s.dev.inService 39 = true ∧ s.dev.engineOf (bitsOf g.toNat 53 48) = some n ∧ bitsOf g.toNat 59 54 = z ∧ s.dev.zoneOn n z = true ∧ s.dev.eff .SCF_ZONE_CFG_REMOTE n z = 1 ∧ s.dev.eff .SCF_ZONE_PART_PART_DEV n z = dev.val ∧ s.dev.eff .SCF_ZONE_CFG_PART_CH n z = bitsOf g.toNat 41 36 ∧ s.dev.eff .SCF_ZONE_CFG_PART_ZONE n z = bitsOf g.toNat 47 42 ∧ bitsOf g.toNat 31 0 = s.dev.get .SYS_LAYER_NUM_LAYER_NUM ∧ s.dev.get .SYS_LAYER_STAT_STATE ≠ 8 ∧ bitsOf g.toNat 127 112 = s.dev.zoneSig n z ∧ (s.dev.absence n z).lost = false ∧ bitsOf g.toNat 35 32 = 1 ∧ s.dev.inService 46 = true ∧ (s.dev.absence n z).from'.all (fun k => decide (bitsOf g.toNat 79 64 < k)) = true :=
  ⟨mk ns0, 1, 77, note ns0 0, 3, 2, by decide +kernel⟩
theorem witness_scarf_shares_3 : ∃ (s : State) (dt : Nat) (dev : Fin 1024) (g : Gran) (n : Nat) (z : Nat), s.dev.peerFrozen dev = false ∧ s.dev.grantOk dev 2 none = true ∧ s.dev.inService 39 = true ∧ s.dev.engineOf (bitsOf g.toNat 53 48) = some n ∧ bitsOf g.toNat 59 54 = z ∧ s.dev.zoneOn n z = true ∧ s.dev.eff .SCF_ZONE_CFG_REMOTE n z = 1 ∧ s.dev.eff .SCF_ZONE_PART_PART_DEV n z = dev.val ∧ s.dev.eff .SCF_ZONE_CFG_PART_CH n z = bitsOf g.toNat 41 36 ∧ s.dev.eff .SCF_ZONE_CFG_PART_ZONE n z = bitsOf g.toNat 47 42 ∧ bitsOf g.toNat 31 0 = s.dev.get .SYS_LAYER_NUM_LAYER_NUM ∧ s.dev.get .SYS_LAYER_STAT_STATE ≠ 8 ∧ bitsOf g.toNat 127 112 ≠ s.dev.zoneSig n z ∧ s.dev.inService 46 = true :=
  ⟨mk ns0, 1, 77, note ns0 1, 3, 2, by decide +kernel⟩
theorem witness_scarf_shares_4 : ∃ (s : State) (dt : Nat) (n : Fin 34) (p : Pass) (ps : List Pass) (h : ScarfRec), s.dev.passPoint n = true ∧ (s.dev.eng n).passes = p :: ps ∧ (s.dev.eng n).hist.find? (fun x => x.zone == p.zone && x.vidx == p.vidx) = some h :=
  ⟨mk ((scf (dv.put .SYS_LAYER_STAT_STATE 3) 0).modEng 3 (fun e => { e with passes := [{ zone := 2, vidx := 9, mark := 0xffffffff }], hist := [{ zone := 2, vidx := 9, VS := {}, VE := { x := 1000, y := 0, z := 0 }, power := 30, speed := 200, gate := 0, ff := false }] })), 1, 3, { zone := 2, vidx := 9, mark := 0xffffffff }, [], { zone := 2, vidx := 9, VS := {}, VE := { x := 1000, y := 0, z := 0 }, power := 30, speed := 200, gate := 0, ff := false }, by decide +kernel⟩
theorem witness_scarf_shares_5 : ∃ (s : State) (dt : Nat) (n : Fin 34) (z : Fin 64), s.dev.logs ∧ s.dev.zoneOn n z = true ∧ s.dev.eff .SCF_ZONE_CFG_REMOTE n z = 1 ∧ s.dev.get .SYS_LAYER_STAT_STATE ≠ 8 ∧ (s.dev.absence n z).lost = false ∧ s.dev.eff .SCF_ZONE_CFG_ROLE n z = 0 ∧ (s.dev.absence n z).from' = none ∧ (s.dev.elapse dt).lostDevice (s.dev.eff .SCF_ZONE_PART_PART_DEV n z) = true ∧ (s.dev.elapse dt).lostDevice (s.dev.eff .SCF_ZONE_PART_PART_DEV_ALT n z) = true :=
  ⟨mk (scf (dv.put .SYS_LAYER_STAT_STATE 3) 0), 2560000000, 3, 2, by unfold Dev.logs; decide +kernel, by decide +kernel⟩
theorem witness_kerf_arbiter_1 : ∃ (s : State) (dt : Nat) (n : Fin 34) (q : KReq), s.dev.waitingReq n = some q ∧ q.status = .pending ∧ s.dev.pins.gasOk = true ∧ s.dev.inService 39 = true ∧ (s.dev.elapse dt).blocker q = none ∧ s.dev.inBand q = false :=
  ⟨mk (krf (wide k0) { reqs := [rq 3 4] }), 1, 3, rq 3 4, by decide +kernel⟩
theorem witness_kerf_arbiter_2 : ∃ (s : State) (dt : Nat) (n : Fin 34) (q : KReq), s.dev.waitingReq n = some q ∧ q.status = .pending ∧ s.dev.pins.gasOk = true ∧ s.dev.inService 39 = true ∧ (s.dev.elapse dt).blocker q = none ∧ s.dev.inBand q = true ∧ s.dev.get .KRF_STAT_STALE = 0 :=
  ⟨mk (krf (pr0 k0) { reqs := [rq 3 4] }), 1, 3, rq 3 4, by decide +kernel⟩
theorem witness_kerf_arbiter_3 : ∃ (s : State) (dt : Nat) (n : Fin 34) (q : KReq), s.dev.waitingReq n = some q ∧ (q.status = .pending → s.dev.pins.gasOk = false) :=
  ⟨mk { krf k0 { reqs := [rq 3 4] } with pins := { gasOk := false } }, 1, 3, rq 3 4, by decide +kernel⟩
theorem witness_kerf_arbiter_4 : ∃ (s : State) (dt : Nat) (n : Fin 34) (q : KReq) (t : Nat), s.dev.waitingReq n = some q ∧ q.status = .arming t ∧ t ≤ s.dev.now + dt :=
  ⟨mk (krf k0 { reqs := [{ rq 3 4 with status := .arming 9 }] }), 9, 3, { rq 3 4 with status := .arming 9 }, 9, by decide +kernel⟩
theorem witness_kerf_arbiter_5 : ∃ (s : State) (dt : Nat) (n : Fin 34) (q : KReq), s.dev.waitingReq n = some q ∧ q.starving = false ∧ q.inst + s.dev.eff .KRF_CFG_MAX_HOLD_US * qUs ≤ s.dev.now + dt :=
  ⟨mk (krf k0 { reqs := [rq 3 4, { rq 5 1 with status := .granted }] }), (k0.eff .KRF_CFG_MAX_HOLD_US) * qUs, 3, rq 3 4, by decide +kernel⟩
theorem witness_kerf_arbiter_6 : ∃ (s : State) (dt : Nat) (n : Fin 34) (q : KReq) (x : KReq) (a : LRec) (h : LRec) (nx : LRec) (u : List LRec) (rest : List LRec), s.dev.waitingReq n = some q ∧ q.status = .pending ∧ s.dev.now + dt < q.inst + s.dev.eff .KRF_CFG_MAX_HOLD_US * qUs ∧ (s.dev.eng n).look = a :: h :: u ++ nx :: rest ∧ a.cls = 0 ∧ a.clear = false ∧ h.clear = false ∧ h.ser = q.ser ∧ a.ser ≠ q.ser ∧ unitAt (u ++ nx :: rest) = some u ∧ (u.head?.map (·.job)) = some h.job ∧ (s.dev.eng n).unitEnd = none ∧ s.dev.get .KRF_REORDER_REORDER_DELAY_US * qUs ≤ s.dev.now + dt - q.inst ∧ (s.dev.eng n).unitsOf q.ser < s.dev.get .KRF_REORDER_REORDER_MAX ∧ s.dev.pins.gasOk = true ∧ s.dev.inService 39 = true ∧ (s.dev.elapse dt).unitReq n u = some x ∧ ((s.dev.elapse dt).modReq n q.ser (fun r => { r with status := .suspended })).blocker x = none ∧ s.dev.inBand x = false ∧ x.ser ≠ q.ser ∧ s.dev.reqOf n x.ser = none :=
  ⟨mk ((krf (frc ((wide k0).put .KRF_REORDER_REORDER_MAX 2) .KRF_CFG_MAX_HOLD_US 10000 0 0) { reqs := [rq 3 2] }).modEng 3 (fun e => { e with look := [r0 1 0 10 10, r0 2 1 20 20, r0 3 0 30 30, r0 4 1 40 40, r0 5 0 50 50] })), 9 * qMs, 3, rq 3 2, { eng := 3, ser := 4, cls := 1, x0 := 0, y0 := 0, x1 := 40, y1 := 40, inst := 9 * qMs }, r0 1 0 10 10, r0 2 1 20 20, r0 5 0 50 50, [r0 3 0 30 30, r0 4 1 40 40], [], by decide +kernel⟩
theorem witness_kerf_arbiter_7 : ∃ (s : State) (dt : Nat), (s.dev.now + dt) % (10 * qUs) = 0 ∧ s.dev.drives = true :=
  ⟨mk (krf (pr0 dv) { reqs := [rq 3 4, { rq 5 1 with status := .granted }] }), 10 * qUs, by decide +kernel⟩
theorem witness_kerf_arbiter_8 : ∃ (s : State) (dt : Nat) (dev : Fin 1024) (a : Gran) (b : Gran) (k : Nat) (sent : Nat) (since : List HPath) (l : List HPath), s.dev.peerFrozen dev = false ∧ s.dev.grantOk dev 1 none = true ∧ s.dev.inService 46 = true ∧ s.dev.kerfPeerIx dev = some k ∧ nearestNs (s.dev.now + dt) (bitsOf b.toNat 95 64) = sent ∧ s.dev.now + dt ≤ sent + 10 * qUs ∧ bitsOf b.toNat 107 106 = 3 ∧ s.dev.kerf.halo.filter (fun h => h.dev == dev.val && decide (sent < h.sent)) = since ∧ s.dev.kerf.halo.filter (fun h => h.dev != dev.val) ++ ((s.dev.kerf.incoming.filter (fun h => h.dev == dev.val && h.sent == sent)).filter (fun h => !since.any (fun x => x.eng == h.eng && x.inst == h.inst)) ++ since) = l ∧ l.length ≤ 256 :=
  ⟨mk (krf (grt (pr0 (k0.put .KRF_STAT_STALE 255)) 1) { incoming := [haloPathOf 77 3 4 0], halo := [haloPathOf 77 9 9 0, haloPathOf 78 9 9 0, haloPathOf 77 9 8 1] }), 1, 77, 0#128, BitVec.ofNat 128 (3 * 2 ^ 106), 5, 0, [haloPathOf 77 9 8 1], [haloPathOf 78 9 9 0, haloPathOf 77 3 4 0, haloPathOf 77 9 8 1], by decide +kernel⟩
theorem witness_kerf_arbiter_9 : ∃ (s : State) (dt : Nat) (dev : Fin 1024) (a : Gran) (b : Gran) (k : Nat) (p : HPath), s.dev.peerFrozen dev = false ∧ s.dev.grantOk dev 1 none = true ∧ s.dev.inService 46 = true ∧ s.dev.kerfPeerIx dev = some k ∧ s.dev.now + dt ≤ nearestNs (s.dev.now + dt) (bitsOf b.toNat 95 64) + 10 * qUs ∧ bitsOf b.toNat 107 106 = 0 ∧ haloPathOf dev a.toNat b.toNat (nearestNs (s.dev.now + dt) (bitsOf b.toNat 95 64)) = p ∧ (putPath p s.dev.kerf.halo).length ≤ 256 :=
  ⟨mk (grt (pr0 k0) 1), 1, 77, 0#128, 0#128, 5, haloPathOf 77 0 0 0, by decide +kernel⟩
theorem witness_kerf_arbiter_10 : ∃ (s : State) (dt : Nat) (k : Fin 8), s.dev.logs ∧ s.dev.get .KRF_PEER_ENABLE k = 1 ∧ s.dev.peerFrozen (s.dev.get .KRF_PEER_PEER_ID k) = false ∧ s.dev.get .FAB_ROUTE_LEFT (s.dev.get .KRF_PEER_PEER_ID k) = 0 ∧ hasBit (s.dev.get .KRF_STAT_STALE) k = false ∧ Tab.get 0 s.dev.kerf.lastSet k + s.dev.eff .KRF_HALO_CFG_STALE_US * qUs ≤ (s.dev.elapse dt).run :=
  ⟨mk (pr0 k0), qSec, 5, by unfold Dev.logs; decide +kernel, by decide +kernel⟩
theorem witness_kerf_arbiter_11 : ∃ (s : State) (dt : Nat) (dev : Fin 1024) (n : Fin 34), s.dev.peerFrozen dev = true :=
  ⟨mk (krf (dv.put .WIN_PEER_FRZ_FROZEN (2 ^ 13) 2) { halo := [haloPathOf 77 0 0 0, haloPathOf 77 0 (5 * 2 ^ 96) 0] }), 10 * qMs, 77, 5, by decide +kernel⟩
end W08

namespace W09
def jx (op w1 tgt : Nat) : Job := { id := 5, fn := 0, ring := 2, slot := 7, words := [BitVec.ofNat 128 (op + 0x2a0000 + tgt * 2 ^ 32 + 2 ^ 40), BitVec.ofNat 128 w1, 0#128, 0#128], status := .taken }
def dj (d : Dev) (js : List Job) : Dev := { d with jobs := js }
def frc (d : Dev) (f : Fld) (v i j : Nat) : Dev := (d.put f v i j).latch f i j
def grt (d : Dev) (c : Nat) : Dev := (((d.put .SYS_ISL_STAT_IN_SERVICE 1 46).put .WIN_GRANT_CFG_ENABLE 1 31).put .WIN_GRANT_CFG_CLASS (2 ^ c) 31).put .WIN_GRANT_ID_ID_HI 100 31
def gpr (d : Dev) : Dev := ((d.put .GRN_PEER_ENABLE 1 5).put .GRN_PEER_PEER_ID 77 5).put .SYS_ISL_STAT_IN_SERVICE 1 38
def hst (d : Dev) : Dev := (d.put .SYS_ISL_STAT_IN_SERVICE 1 34).setFn 0 { busMaster := true }
def wnd (d : Dev) : Dev := (((d.put .WIN_CFG_ENABLE 1).put .WIN_CFG_SIZE_LOG2 40).put .WIN_CFG_R 1).put .WIN_CFG_W 1
def st (n : Nat) : Dev := dv.put .SYS_LAYER_STAT_STATE n
def gd (d : Dev) (g : Grain) : Dev := { d with grain := g }
def long : Plan := { r := { ser := 1, job := 5, cls := 1, S := {}, E := { x := 1000000, y := 0, z := 0 }, power := 30000, speed := 1000 }, tMove := 0, tBody := 0, tCommit := 2560000000, started := true, body := [{ kind := .body, t0 := 0, dur := 2560000000, p := {}, q := { x := 1000000, y := 0, z := 0 }, len := 1000000, v0 := 100, v1 := 100, ser := 1 }] }
def lit0 : Dev := frc ((dv.put .ENG_STAT_BOUND_CH 6 3).modEng 3 (fun e => { e with plans := [long], gate := { light := [{ rise := 0, fall := none, cls := 1 }] } })) .MPL_TARGET_LOOP_EN 1 3 1
def smp : List (BitVec 16) := List.replicate 20 4000#16
def lit1 : Dev := ((lit0.elapse 2560000).extendTo 3 (2560000 + lit0.leadOf 3)).flushGate 3

theorem witness_melt_pool_ticks_1 : ∃ (s : State) (dt : Nat) (n : Fin 34) (samples : List (BitVec 16)) (d : Dev) (k : TickClass) (c : Nat) (cl : Nat) (r : Int × Nat), (s.dev.now + dt) % qUs = 0 ∧ s.dev.get .ENG_STAT_BOUND_CH n < 32 ∧ (s.dev.eng n).loop.changed = 0 ∧ d = ((s.dev.elapse dt).extendTo n (s.dev.now + dt + s.dev.leadOf n)).flushGate n ∧ k = d.classify n samples ∧ k.valid = true ∧ d.tickClass n k = some c ∧ c ∈ [1, 2, 3, 4, 5, 7] ∧ (d.eng n).loop.missing = 0 ∧ (((d.eng n).loop.frames.find? (fun f => decide (f.1 < s.dev.now + dt) && f.2.2.1 == c && f.2.2.2 != 3)).map (·.2.2.2)).getD 0 = cl ∧ d.eff .MPL_TARGET_LOOP_EN n c = 1 ∧ d.eff .MPL_FB_LIM_FB_MIN n c ≤ 32768 ∧ 32768 ≤ d.eff .MPL_FB_LIM_FB_MAX n c ∧ d.eff .MPL_FB_LIM_FB_MAX n c ≤ 65535 ∧ r = fbStep (d.gets .MPL_INT_I n c) (d.eff .MPL_TARGET_TARGET n c : Nat) k.y (d.eff .MPL_GAIN_KP n c : Nat) (d.eff .MPL_GAIN_KI n c : Nat) (d.eff .MPL_FB_LIM_FB_MIN n c) (d.eff .MPL_FB_LIM_FB_MAX n c) (cl == 1) (cl == 2) :=
  ⟨mk lit0, 2560000, 3, smp, lit1, lit1.classify 3 smp, 1, 0, fbStep 0 (lit1.eff .MPL_TARGET_TARGET 3 1 : Nat) 4000 (lit1.eff .MPL_GAIN_KP 3 1 : Nat) (lit1.eff .MPL_GAIN_KI 3 1 : Nat) (lit1.eff .MPL_FB_LIM_FB_MIN 3 1) (lit1.eff .MPL_FB_LIM_FB_MAX 3 1) false false, by decide +kernel⟩
theorem witness_melt_pool_ticks_2 : ∃ (s : State) (dt : Nat) (n : Fin 34) (samples : List (BitVec 16)), (s.dev.now + dt) % qUs = 0 ∧ s.dev.get .ENG_STAT_BOUND_CH n < 32 ∧ (s.dev.eng n).plans = [] ∧ (s.dev.eng n).past = [] ∧ (s.dev.eng n).look = [] ∧ (s.dev.eng n).moves = [] :=
  ⟨mk (dv.put .ENG_STAT_BOUND_CH 6 3), 256000, 3, smp, by decide +kernel⟩
theorem witness_melt_pool_ticks_3 : ∃ (s : State) (dt : Nat) (n : Fin 34) (c : Nat), (s.dev.eng n).loop.missing = 0 ∧ s.dev.fbCause n = c ∧ c ≠ 0 :=
  ⟨mk (((dv.put .ENG_STAT_BOUND_CH 6 3).put .MPL_SLICE_STAT_IN_SERVICE 1 ((dv.get .MPL_SLICE_SLICE 6))).modEng 3 (fun e => { e with loop := { e.loop with satRun := 300 } })), 1, 3, 3, by decide +kernel⟩
theorem witness_melt_pool_ticks_4 : ∃ (s : State) (dt : Nat) (n : Fin 34), s.dev.frozen 0 = false :=
  ⟨mk (dv.put .MPL_INT_I 77 3 7), 1, 3, by decide +kernel⟩
theorem witness_grain_map_1 : ∃ (s : State) (dt : Nat) (k : Fin 3) (value : Word), s.dev.frozen 0 = false ∧ s.dev.get .SYS_LOCK_LOCK = 0 ∧ s.dev.get .SYS_LAYER_STAT_STATE = 8 ∧ ((∀ f ∈ (grnGeomReg k).fields, f.inRange (f.of value.toNat) = true)) :=
  ⟨mk (gd (st 8) { cells := [(3, 7)] }), 1, 0, 0xa00fa#32, by decide +kernel⟩
theorem witness_grain_map_2 : ∃ (s : State) (dt : Nat) (k : Fin 3) (value : Word), s.dev.frozen 0 = false ∧ s.dev.get .SYS_LAYER_STAT_STATE ≠ 8 :=
  ⟨mk (gd (st 3) { cells := [(3, 7)] }), 1, 0, 0xa00fa#32, by decide +kernel⟩
theorem witness_grain_map_3 : ∃ (s : State) (dt : Nat), (s.dev.now + dt) % (10 * qUs) = 0 ∧ s.dev.drives = true ∧ s.dev.inService 38 = true :=
  ⟨mk (gpr dv), 2560000, by decide +kernel⟩
theorem witness_grain_map_4 : ∃ (s : State) (dt : Nat) (dev : Fin 1024) (h : Gran) (g : Gran) (ix : Nat) (col : Nat) (row : Nat) (d : Dev), d = (if (s.dev.now + dt) % qUs = 0 then ((s.dev.elapse dt).hear dev).depositAll else (s.dev.elapse dt).hear dev) ∧ s.dev.inService 46 = true ∧ s.dev.peerFrozen dev = false ∧ s.dev.grantOk dev 0 none = true ∧ (List.range 8).find? (fun k => s.dev.flag .GRN_PEER_ENABLE k && s.dev.get .GRN_PEER_PEER_ID k == dev.val) = some ix ∧ s.dev.inService 38 = true ∧ s.dev.now + dt ≤ nearestNs (s.dev.now + dt) (bitsOf h.toNat 127 96) + 10 * qUs ∧ bitsOf h.toNat 73 72 = 0 ∧ bitsOf h.toNat 71 64 = 1 ∧ sInt 32 (bitsOf h.toNat 31 0) = s.dev.gets .GRN_ORIGIN_X_ORIGIN + (col * s.dev.grnPitch : Nat) ∧ sInt 32 (bitsOf h.toNat 63 32) = s.dev.gets .GRN_ORIGIN_Y_ORIGIN + (row * s.dev.grnPitch : Nat) ∧ s.dev.grnPitch ≠ 0 ∧ col < s.dev.grnCols ∧ row < s.dev.grnRows ∧ s.dev.inOwn (row * s.dev.grnCols + col) = false :=
  ⟨mk (grt (gpr dv) 0), 1, 77, BitVec.ofNat 128 (5 * 500000 + 7 * 500000 * 2 ^ 32 + 2 ^ 64), 0xf0010009#128, 5, 5, 7, ((grt (gpr dv) 0).elapse 1).hear 77, by decide +kernel⟩
theorem witness_grain_map_5 : ∃ (s : State) (dt : Nat) (dev : Fin 1024) (h : Gran) (ix : Nat) (d : Dev), d = (if (s.dev.now + dt) % qUs = 0 then ((s.dev.elapse dt).hear dev).depositAll else (s.dev.elapse dt).hear dev) ∧ s.dev.inService 46 = true ∧ s.dev.peerFrozen dev = false ∧ s.dev.grantOk dev 0 none = true ∧ (List.range 8).find? (fun k => s.dev.flag .GRN_PEER_ENABLE k && s.dev.get .GRN_PEER_PEER_ID k == dev.val) = some ix ∧ s.dev.inService 38 = true ∧ s.dev.now + dt ≤ nearestNs (s.dev.now + dt) (bitsOf h.toNat 127 96) + 10 * qUs ∧ bitsOf h.toNat 73 72 = 2 ∧ bitsOf h.toNat 71 64 = 0 :=
  ⟨mk (grt (gpr (dv.put .GRN_STAT_STALE 255)) 0), 9, 77, BitVec.ofNat 128 (2 * 2 ^ 72), 5, ((grt (gpr (dv.put .GRN_STAT_STALE 255)) 0).elapse 9).hear 77, by decide +kernel⟩
theorem witness_grain_map_6 : ∃ (s : State) (dt : Nat) (k : Fin 8), s.dev.get .GRN_PEER_ENABLE k = 1 ∧ s.dev.peerFrozen (s.dev.get .GRN_PEER_PEER_ID k) = false ∧ s.dev.get .FAB_ROUTE_LEFT (s.dev.get .GRN_PEER_PEER_ID k) = 0 ∧ Tab.get 0 s.dev.grain.lastEnd k + s.dev.get .GRN_HALO_CFG_STALE_US * qUs ≤ (s.dev.elapse dt).run :=
  ⟨mk (gpr dv), qSec, 5, by decide +kernel⟩
theorem witness_grain_map_7 : ∃ (s : State) (dt : Nat) (job : Nat) (j : Job) (k : Nat) (n : Nat), s.dev.Takes job 0x48 j ∧ s.dev.grnRange j = .ok (k, n) ∧ s.dev.grain.bad = [] ∧ s.dev.rangeCause j.fn j.addr (s.dev.savedCells k n).length false true = none ∧ s.dev.mayWrite j.fn = true ∧ (s.dev.fn j.fn).held = [] :=
  ⟨mk (gd (wnd (hst (gpr (dj dv [jx 0x48 (0x1000 + 2 ^ 64 + 2 ^ 80) 0x83])))) { cells := [(2049, 7)] }), 1, 5, jx 0x48 (0x1000 + 2 ^ 64 + 2 ^ 80) 0x83, 2048, 2048, takes_of (by decide +kernel), by decide +kernel⟩
theorem witness_grain_map_8 : ∃ (s : State) (dt : Nat) (job : Nat) (j : Job) (k : Nat) (n : Nat) (c : Nat), s.dev.Takes job 0x48 j ∧ s.dev.grnRange j = .ok (k, n) ∧ c ∈ s.dev.grain.bad ∧ k ≤ c ∧ c < k + n ∧ s.dev.rangeCause j.fn j.addr (s.dev.savedCells k n).length false true = none ∧ s.dev.mayWrite j.fn = true ∧ (s.dev.fn j.fn).held = [] :=
  ⟨mk (gd (wnd (hst (gpr (dj dv [jx 0x48 (0x1000 + 2 ^ 64 + 2 ^ 80) 0x83])))) { cells := [(2049, 7)], bad := [2049, 4095] }), 1, 5, jx 0x48 (0x1000 + 2 ^ 64 + 2 ^ 80) 0x83, 2048, 2048, 4095, takes_of (by decide +kernel), by decide +kernel⟩
theorem witness_grain_map_9 : ∃ (s : State) (dt : Nat) (job : Nat) (j : Job) (k : Nat) (n : Nat), s.dev.Takes job 0x49 j ∧ s.dev.grnRange j = .ok (k, n) ∧ s.dev.get .SYS_LAYER_STAT_STATE = 8 :=
  ⟨mk (gpr (dj (st 8) [{ jx 0x49 (0x1000 + 2 ^ 64 + 2 ^ 80) 0x83 with data := some [9#128, 0x300000000#128] }])), 1, 5, { jx 0x49 (0x1000 + 2 ^ 64 + 2 ^ 80) 0x83 with data := some [9#128, 0x300000000#128] }, 2048, 2048, takes_of (by decide +kernel), by decide +kernel⟩
theorem witness_grain_map_10 : ∃ (s : State) (dt : Nat) (job : Nat) (j : Job) (k : Nat) (n : Nat), s.dev.Takes job 0x49 j ∧ s.dev.grnRange j = .ok (k, n) ∧ s.dev.get .SYS_LAYER_STAT_STATE ≠ 8 :=
  ⟨mk (gpr (dj (st 3) [jx 0x49 (0x1000 + 2 ^ 64 + 2 ^ 80) 0x83])), 1, 5, jx 0x49 (0x1000 + 2 ^ 64 + 2 ^ 80) 0x83, 2048, 2048, takes_of (by decide +kernel), by decide +kernel⟩
end W09

namespace W10
def jx (op w1 tgt : Nat) : Job := { id := 5, fn := 0, ring := 2, slot := 7, words := [BitVec.ofNat 128 (op + 0x2a0000 + tgt * 2 ^ 32 + 2 ^ 40), BitVec.ofNat 128 w1, 0#128, 0#128], status := .taken }
def jr (op w1 tgt : Nat) : Job := { jx op w1 tgt with status := .executing }
def dj (d : Dev) (js : List Job) : Dev := { d with jobs := js }
def vs (n : Nat) : Dev := dv.put .VNR_STAT_STATE n 9
def til (d : Dev) (x : Tile) : Dev := d.setTile 9 x
def sd0 : SlotData := { job := 5, first := true, words := [], parts := [], emitting := false, sig := 77 }
def run0 (x : Tile) : Tile := { x with slot0 := some 0 }
def pkt (h : Nat) (p : List Byte) : List Byte := let b := leBytes 16 h ++ p; b ++ leBytes 4 (crc32 (b.map (·.toNat)))
def sts : Nat := 1 + 16 + ((dv.get .VNR_TILE_CFG_BANDS 9) * dv.spb 9) * 2 ^ 6 + (dv.get .VDR_CFG_STR_LEN 9) * 2 ^ 16 + (dv.get .VNR_TILE_CFG_BANDS 9) * 2 ^ 22 + 9 * 2 ^ 24
def sdw : SlotData := { sd0 with words := List.replicate 4096 100 }
def prb (c : Byte) : List Byte := leBytes 2 3 ++ (List.range 96).map (fun x => if x = 7 ∨ x = 55 then c else 255#8)

theorem witness_tile_slots_1 : ∃ (s : State) (dt : Nat) (job : Nat) (j : Job), s.dev.Takes job 0x50 j ∧ s.dev.frameCode (j.target - 0x40) = none :=
  ⟨mk (dj (vs 1) [jx 0x50 0 0x49]), 1, 5, jx 0x50 0 0x49, takes_of (by decide +kernel), by decide +kernel⟩
theorem witness_tile_slots_2 : ∃ (s : State) (dt : Nat) (job : Nat) (j : Job) (c : Nat), s.dev.Takes job 0x50 j ∧ s.dev.frameCode (j.target - 0x40) = some c :=
  ⟨mk (dj (vs 4) [jx 0x50 0 0x49]), 1, 5, jx 0x50 0 0x49, 0x02a1, takes_of (by decide +kernel), by decide +kernel⟩
theorem witness_tile_slots_3 : ∃ (s : State) (dt : Nat) (job : Nat) (j : Job) (t : Nat), s.dev.Takes job 0x51 j ∧ j.target = 0x40 + t ∧ t < 16 ∧ s.dev.attachErr t = 0 ∧ s.dev.get .VDR_STAT_LINK_UP t = 1 ∧ (s.dev.now + dt) % qTick = 0 :=
  ⟨mk (dj (((dv.put .VDR_STAT_LINK_UP 1 9).put .VNR_BAND_MAP_A 1 9)) [jx 0x51 0 0x49]), 1280, 5, jx 0x51 0 0x49, 9, takes_of (by decide +kernel), by decide +kernel⟩
theorem witness_tile_slots_4 : ∃ (s : State) (dt : Nat) (job : Nat) (j : Job) (t : Nat) (c : Nat), s.dev.Takes job 0x51 j ∧ j.target = 0x40 + t ∧ t < 16 ∧ s.dev.attachErr t = c ∧ c ≠ 0 ∧ c < 8 ∧ s.dev.attached t = false :=
  ⟨mk (dj (dv.put .VNR_BAND_MAP_A 3 9) [jx 0x51 0 0x49]), 1280, 5, jx 0x51 0 0x49, 9, 2, takes_of (by decide +kernel), by decide +kernel⟩
theorem witness_tile_slots_5 : ∃ (s : State) (dt : Nat) (t : Fin 16) (id : Nat) (j : Job), (s.dev.tile t).attachJob = some id ∧ (s.dev.tile t).slot0 = none ∧ s.dev.get .VDR_STAT_LINK_UP t = 0 ∧ (s.dev.tile t).attachAt + 10 * qMs ≤ (s.dev.elapse dt).run ∧ (s.dev.tile t).queue = [] ∧ (s.dev.tile t).detachJob = none ∧ s.dev.job id = some j ∧ j.code = none ∧ j.replay = false ∧ j.orphan = false ∧ j.noCqeOk = false ∧ s.dev.replayKept j = false :=
  ⟨mk (dj (til dv { attachJob := some 5 }) [jr 0x51 0 0x49]), 10 * qMs, 9, 5, jr 0x51 0 0x49, by decide +kernel⟩
theorem witness_tile_slots_6 : ∃ (s : State) (dt : Nat) (t : Fin 16) (id : Nat) (j : Job) (t0 : Nat), (s.dev.tile t).attachJob = some id ∧ (s.dev.tile t).slot0 = some t0 ∧ t0 ≤ (s.dev.elapse dt).run ∧ s.dev.job id = some j ∧ j.code = none ∧ j.replay = false ∧ j.orphan = false ∧ j.noCqeOk = false ∧ s.dev.replayKept j = false :=
  ⟨mk (dj (til dv { attachJob := some 5, slot0 := some 70 }) [jr 0x51 0 0x49]), 70, 9, 5, jr 0x51 0 0x49, 70, by decide +kernel⟩
theorem witness_tile_slots_7 : ∃ (s : State) (dt : Nat) (t : Fin 16) (t0 : Nat) (x : SlotData), (s.dev.tile t).attachJob = none ∧ (s.dev.tile t).slot0 = some t0 ∧ (s.dev.tile t).start + s.dev.slotQ t ≤ (s.dev.elapse dt).run ∧ (s.dev.tile t).detachJob = none ∧ (s.dev.tile t).next = some x ∧ x.checked = true ∧ (s.dev.tile t).left = none ∧ s.dev.get .VNR_STAT_STATE t ≠ 4 ∧ s.dev.tilesStopped = false ∧ s.dev.slotHeld t = false :=
  ⟨mk (dj (til (vs 1) (run0 { next := some { sd0 with checked := true }, queue := [5] })) [jr 0x50 0 0x49]), dv.slotQ 9, 9, 0, { sd0 with checked := true }, by decide +kernel⟩
theorem witness_tile_slots_8 : ∃ (s : State) (dt : Nat) (t : Fin 16) (t0 : Nat), (s.dev.tile t).attachJob = none ∧ (s.dev.tile t).slot0 = some t0 ∧ (s.dev.tile t).start + s.dev.slotQ t ≤ (s.dev.elapse dt).run ∧ (s.dev.tile t).detachJob = none ∧ (s.dev.tile t).next = none ∧ (s.dev.tile t).late = none ∧ (s.dev.tile t).queue = [] ∧ (s.dev.tile t).left = none ∧ s.dev.get .VNR_STAT_STATE t ≠ 4 ∧ s.dev.tilesStopped = false ∧ s.dev.slotHeld t = false :=
  ⟨mk (til (vs 1) (run0 {})), dv.slotQ 9, 9, 0, by decide +kernel⟩
theorem witness_tile_slots_9 : ∃ (s : State) (dt : Nat) (t : Fin 16), s.dev.slotRuns t = true ∧ (s.dev.tile t).cur = none ∧ (s.dev.tile t).line < (s.dev.timing t).fsync + (s.dev.timing t).fsettle + (s.dev.timing t).h ∧ (s.dev.tile t).start + (s.dev.tile t).line * s.dev.lineQ t ≤ (s.dev.elapse dt).run :=
  ⟨mk (til (vs 1) (run0 { line := 3 })), 3 * dv.lineQ 9, 9, by decide +kernel⟩
theorem witness_tile_slots_10 : ∃ (s : State) (dt : Nat) (t : Fin 16) (x : SlotData), s.dev.slotRuns t = true ∧ (s.dev.tile t).next = some x ∧ x.checked = false ∧ (s.dev.tile t).start + (s.dev.timing t).h * s.dev.lineQ t ≤ (s.dev.elapse dt).run ∧ (s.dev.tile t).lastSig = none ∧ s.dev.get .VNR_FRZ_STATIC_MAX t = 0 ∧ x.sig < 2 ^ 32 :=
  ⟨mk (til ((vs 1).put .VNR_FRZ_STATIC_MAX 0 9) (run0 { next := some sd0 })), qSec, 9, sd0, by decide +kernel⟩
theorem witness_tile_slots_11 : ∃ (s : State) (dt : Nat) (t : Fin 16) (x : SlotData) (j : Job), s.dev.logs ∧ s.dev.slotRuns t = true ∧ (s.dev.tile t).next = some x ∧ x.checked = false ∧ (s.dev.tile t).start + (s.dev.timing t).h * s.dev.lineQ t ≤ (s.dev.elapse dt).run ∧ (s.dev.tile t).lastSig = some x.sig ∧ x.first = true ∧ s.dev.job x.job = some j ∧ j.bits 208 208 = 1 ∧ s.dev.get .VNR_STAT_STATE t ≠ 4 :=
  ⟨mk (dj (til (vs 1) (run0 { next := some sd0, lastSig := some 77 })) [jr 0x50 (2 ^ 80) 0x49]), qSec, 9, sd0, jr 0x50 (2 ^ 80) 0x49, by unfold Dev.logs; decide +kernel, by decide +kernel⟩
theorem witness_tile_slots_12 : ∃ (s : State) (dt : Nat) (job : Nat) (j : Job) (t : Nat), s.dev.Takes job 0x52 j ∧ j.target = 0x40 + t ∧ t < 16 ∧ s.dev.earlierDone j = true ∧ s.dev.slotRuns t = false ∧ (s.dev.tile t).queue = [] :=
  ⟨mk (dj (vs 1) [jx 0x52 0 0x49]), 1, 5, jx 0x52 0 0x49, 9, takes_of (by decide +kernel), by decide +kernel⟩
theorem witness_tile_slots_13 : ∃ (s : State) (dt : Nat) (job : Nat) (j : Job) (t : Nat), s.dev.Takes job 0x52 j ∧ j.target = 0x40 + t ∧ s.dev.earlierDone j = true ∧ s.dev.slotRuns t = true :=
  ⟨mk (dj (til (vs 1) (run0 {})) [jx 0x52 0 0x49]), 1, 5, jx 0x52 0 0x49, 9, takes_of (by decide +kernel), by decide +kernel⟩
theorem witness_tile_slots_14 : ∃ (s : State) (dt : Nat) (job : Nat) (j : Job), s.dev.Takes job 0x52 j ∧ s.dev.earlierDone j = false :=
  ⟨mk (dj (til (vs 1) (run0 {})) [{ jx 0x50 0 0x49 with id := 3 }, jx 0x52 0 0x49]), 1, 5, jx 0x52 0 0x49, takes_of (by decide +kernel), by decide +kernel⟩
theorem witness_tile_slots_15 : ∃ (s : State) (dt : Nat) (t : Fin 16), s.dev.get .VDR_CFG_GRN_DEP t = 1 ∧ s.dev.get .GRN_CFG_ENABLE = 1 ∧ s.dev.get .VDR_CFG_DEP_SLOTS t ≤ (s.dev.tile t).shown ∧ s.dev.tilesStopped = false :=
  ⟨mk (til (((dv.put .VDR_CFG_GRN_DEP 1 9).put .GRN_CFG_ENABLE 1).put .SYS_ISL_STAT_IN_SERVICE 1 38) { shown := 20, energy := [(5, 1000)] }), 1, 9, by decide +kernel⟩
theorem witness_tile_links_1 : ∃ (s : State) (dt : Nat) (t : Fin 16) (packet : List Byte) (h : Nat) (p : List Byte), backPacket packet = some (h, p) ∧ h % 16 = 1 ∧ s.dev.statusFits t h = true ∧ hasBit h 4 = true ∧ bitsOf h 27 24 = t ∧ s.dev.get .VDR_STAT_LINK_UP t = 0 ∧ 15 ≤ (s.dev.tile t).good ∧ (s.dev.tile t).attachJob = none :=
  ⟨mk (til dv { good := 15 }), 1, 9, pkt sts [], sts, [], by decide +kernel⟩
theorem witness_tile_links_2 : ∃ (s : State) (dt : Nat) (t : Fin 16) (packet : List Byte), backPacket packet = none :=
  ⟨mk (til dv { good := 9 }), 1, 9, [1#8, 2#8], by decide +kernel⟩
theorem witness_tile_links_3 : ∃ (s : State) (dt : Nat) (t : Fin 16), s.dev.logs ∧ s.dev.get .VDR_STAT_LINK_UP t = 1 ∧ (s.dev.tile t).lastStatus + 20 * qUs ≤ (s.dev.elapse dt).run :=
  ⟨mk ((vs 2).put .VDR_STAT_LINK_UP 1 9), 20 * qUs, 9, by unfold Dev.logs; decide +kernel, by decide +kernel⟩
theorem witness_tile_links_4 : ∃ (s : State) (dt : Nat) (t : Fin 16) (packet : List Byte) (h : Nat) (p : List Byte), s.dev.logs ∧ backPacket packet = some (h, p) ∧ h % 16 = 2 ∧ bitsOf h 49 40 < 768 :=
  ⟨mk dv, 1, 9, pkt (2 + 767 * 2 ^ 40) [], 2 + 767 * 2 ^ 40, [], by unfold Dev.logs; decide +kernel, by decide +kernel⟩
theorem witness_tile_links_5 : ∃ (s : State) (dt : Nat) (t : Fin 16) (packet : List Byte) (h : Nat) (p : List Byte) (str : Nat) (lead : Nat) (on : Nat), s.dev.logs ∧ backPacket packet = some (h, p) ∧ h % 16 = 3 ∧ words16 p = [str, lead, on] ∧ s.dev.openNow t str ≠ [] ∧ ((∀ x ∈ s.dev.openNow t str, 80 ≤ x)) ∧ (s.dev.openNow t str).length * s.dev.eff .VDR_VF_VTOL t (str / max (s.dev.spb t) 1) < ((on : Int) - lead - (s.dev.openNow t str).length * s.dev.eff .VDR_VF_VF_RUN t (str / max (s.dev.spb t) 1)).natAbs :=
  ⟨mk (til (vs 2) (run0 { cur := some sdw, line := 17 })), 1, 9, pkt 3 (leBytes 2 0 ++ leBytes 2 3 ++ leBytes 2 4000), 3, leBytes 2 0 ++ leBytes 2 3 ++ leBytes 2 4000, 0, 3, 4000, by unfold Dev.logs; decide +kernel, by decide +kernel⟩
theorem witness_tile_links_6 : ∃ (s : State) (dt : Nat) (t : Fin 16), (s.dev.elapse dt).sweepDue t = true :=
  ⟨mk ((til (vs 2) (run0 { vdev := true })).put .VDR_VF_VTOL 99 9 2), 1, 9, by decide +kernel⟩
theorem witness_tile_links_7 : ∃ (s : State) (dt : Nat) (t : Fin 16) (packet : List Byte) (h : Nat) (p : List Byte) (str : Nat) (q : Nat) (i : Nat) (b : Nat) (c : Byte) (k : Nat), s.dev.logs ∧ backPacket packet = some (h, p) ∧ h % 16 = 4 ∧ (s.dev.tile t).sweeping = true ∧ str < 1024 ∧ q < s.dev.get .VDR_CFG_STR_LEN t ∧ (p = leBytes 2 str ++ (List.range (2 * s.dev.get .VDR_CFG_STR_LEN t)).map (fun x => if x = q ∨ x = s.dev.get .VDR_CFG_STR_LEN t + q then c else 255#8)) ∧ s.dev.emitterAt t str q = some (i, b) ∧ s.dev.attached t = true ∧ s.dev.stopped t str q = false ∧ s.dev.strFailed t str = false ∧ (s.dev.tile t).sweepSkip.contains str = false ∧ s.dev.suspectCode t b c.toNat = true ∧ s.dev.get .VDR_STAT_STOPPED t = k ∧ k < 64 :=
  ⟨mk (til (vs 2) (run0 { sweeping := true })), 1, 9, pkt 4 (prb 3#8), 4, prb 3#8, 3, 7, 151, 0, 3#8, 0, by unfold Dev.logs; decide +kernel, by decide +kernel⟩
theorem witness_tile_links_8 : ∃ (s : State) (dt : Nat) (t : Fin 16), s.dev.frozen 0 = false ∧ s.dev.attached t = false :=
  ⟨mk ((dv.put .VDR_STOP_VALID 1 9 63).put .VDR_STAT_STOPPED 1 9), 1, 9, by decide +kernel⟩
theorem witness_tile_links_9 : ∃ (s : State) (dt : Nat) (t : Fin 16), s.dev.frozen 0 = false ∧ s.dev.attached t = true :=
  ⟨mk (vs 1), 1, 9, by decide +kernel⟩
end W10

namespace W11
def jx (op w1 tgt : Nat) : Job := { id := 5, fn := 0, ring := 2, slot := 7, words := [BitVec.ofNat 128 (op + 0x2a0000 + tgt * 2 ^ 32 + 2 ^ 40), BitVec.ofNat 128 w1, 0#128, 0#128], status := .taken }
def jr (op w1 tgt : Nat) : Job := { jx op w1 tgt with status := .executing }
def dj (d : Dev) (js : List Job) : Dev := { d with jobs := js }
def axd : Dev := (((dv.put .SYS_ISL_STAT_IN_SERVICE 1 43).put .AX_CFG_ENABLE 1 2).put .AX_STAT_STATE 1 2).put .ENC_CFG_ENABLE 1 2
def hom : Dev := (axd.put .AX_SOFT_MAX_POS 100000 2)
def spd : Dev := axd.put .AX_HOME_SPD_HOME_SPEED 100000 2

theorem witness_axes_move_1 : ∃ (s : State) (dt : Nat) (job : Nat) (j : Job) (a : Nat), s.dev.Takes job 0x58 j ∧ j.target = 0x50 + a ∧ a < 8 ∧ s.dev.axisCode j = none ∧ j.bits 184 184 = 0 ∧ s.dev.moveFree a = true :=
  ⟨mk (dj hom [jx 0x58 900 0x52]), 1, 5, jx 0x58 900 0x52, 2, takes_of (by decide +kernel), by decide +kernel⟩
theorem witness_axes_move_2 : ∃ (s : State) (dt : Nat) (job : Nat) (j : Job) (c : Nat), s.dev.Takes job 0x58 j ∧ s.dev.axisCode j = some c :=
  ⟨mk (dj hom [jx 0x58 0x7fffffff 0x52]), 1, 5, jx 0x58 0x7fffffff 0x52, 0x01c0, takes_of (by decide +kernel), by decide +kernel⟩
theorem witness_axes_move_3 : ∃ (s : State) (dt : Nat) (job : Nat) (j : Job) (a : Nat), s.dev.Takes job 0x59 j ∧ j.target = 0x50 + a ∧ a < 8 ∧ s.dev.axisCode j = none ∧ s.dev.moveFree a = true :=
  ⟨mk (dj spd [jx 0x59 1 0x52]), 1, 5, jx 0x59 1 0x52, 2, takes_of (by decide +kernel), by decide +kernel⟩
theorem witness_axes_move_4 : ∃ (s : State) (dt : Nat) (job : Nat) (j : Job) (a : Nat), s.dev.Takes job 0x5a j ∧ j.target = 0x50 + a ∧ s.dev.axisCode j = none ∧ (s.dev.axis a).emergency = false :=
  ⟨mk (dj axd [jx 0x5a 0 0x52]), 1, 5, jx 0x5a 0 0x52, 2, takes_of (by decide +kernel), by decide +kernel⟩
theorem witness_axes_move_5 : ∃ (s : State) (dt : Nat) (job : Nat) (j : Job) (a : Nat), s.dev.Takes job 0x5a j ∧ j.target = 0x50 + a ∧ s.dev.axisCode j = none ∧ (s.dev.axis a).emergency = true :=
  ⟨mk ((dj axd [jx 0x5a 0 0x52]).modAxis 2 (fun x => { x with emergency := true })), 1, 5, jx 0x5a 0 0x52, 2, takes_of (by decide +kernel), by decide +kernel⟩
theorem witness_axes_move_6 : ∃ (s : State) (dt : Nat) (job : Nat) (j : Job) (a : Nat), s.dev.Takes job 0x58 j ∧ j.target = 0x50 + a ∧ s.dev.axisCode j = none ∧ j.bits 184 184 = 1 ∧ (s.dev.axis a).emergency = false ∧ (s.dev.axis a).home = .none ∧ s.dev.get .SYS_ISL_STAT_HOLDOVER 43 = 0 :=
  ⟨mk (dj hom [jx 0x58 (900 + 2 ^ 56) 0x52]), 1, 5, jx 0x58 (900 + 2 ^ 56) 0x52, 2, takes_of (by decide +kernel), by decide +kernel⟩
theorem witness_axes_move_7 : ∃ (s : State) (dt : Nat) (job : Nat) (j : Job), s.dev.Takes job 0x58 j ∧ s.dev.axisCode j = none ∧ s.dev.get .SYS_ISL_STAT_HOLDOVER 43 = 1 :=
  ⟨mk (dj (hom.put .SYS_ISL_STAT_HOLDOVER 1 43) [jx 0x58 900 0x52]), 1, 5, jx 0x58 900 0x52, takes_of (by decide +kernel), by decide +kernel⟩
theorem witness_axes_move_8 : ∃ (s : State) (dt : Nat) (job : Nat) (j : Job) (a : Nat), s.dev.Takes job 0x5b j ∧ j.target = 0x50 + a ∧ s.dev.axisCode j = none ∧ (s.dev.axis a).home = .none :=
  ⟨mk (dj axd [jx 0x5b 77 0x52]), 1, 5, jx 0x5b 77 0x52, 2, takes_of (by decide +kernel), by decide +kernel⟩
theorem witness_axes_move_9 : ∃ (s : State) (dt : Nat), (s.dev.now + dt) % (10000 * qNs) = 0 ∧ s.dev.inService 43 = true ∧ ((∀ a < 8, (s.dev.axis a).imm = [] ∧ (s.dev.axis a).fresh = none)) :=
  ⟨mk axd, 2560000, by decide +kernel⟩
theorem witness_axes_move_10 : ∃ (s : State) (dt : Nat) (a : Fin 8) (id : Nat) (j : Job), (s.dev.now + dt) % (10000 * qNs) = 0 ∧ s.dev.inService 43 = true ∧ (s.dev.axis a).imm = [id] ∧ ((∀ b < 8, b ≠ a.val → (s.dev.axis b).imm = [])) ∧ s.dev.job id = some j ∧ j.opcode = 0x5b ∧ (s.dev.axis a).segs = [] ∧ j.code = none ∧ j.replay = false ∧ j.orphan = false ∧ j.noCqeOk = false ∧ s.dev.replayKept j = false :=
  ⟨mk ((dj axd [jr 0x5b 77 0x52]).modAxis 2 (fun x => { x with imm := [5] })), 2560000, 2, 5, jr 0x5b 77 0x52, by decide +kernel⟩
theorem witness_axes_move_11 : ∃ (s : State) (dt : Nat) (a : Fin 8) (id : Nat) (j : Job), (s.dev.now + dt) % (10000 * qNs) = 0 ∧ (s.dev.elapse dt).axisRests a = true ∧ s.dev.get .AX_STAT_STATE a = 2 ∧ (s.dev.axis a).job = some id ∧ (s.dev.axis a).stopJob = none ∧ (s.dev.axis a).endCode = 0 ∧ s.dev.job id = some j ∧ j.code = none ∧ j.replay = false ∧ j.orphan = false ∧ j.noCqeOk = false ∧ s.dev.replayKept j = false :=
  ⟨mk ((dj (axd.put .AX_STAT_STATE 2 2) [jr 0x58 900 0x52]).modAxis 2 (fun x => { x with job := some 5 })), 2560000, 2, 5, jr 0x58 900 0x52, by decide +kernel⟩
theorem witness_axes_move_12 : ∃ (s : State) (dt : Nat) (a : Fin 8) (id : Nat) (j : Job), (s.dev.now + dt) % (10000 * qNs) = 0 ∧ (s.dev.elapse dt).axisRests a = true ∧ s.dev.get .AX_STAT_STATE a = 3 ∧ (s.dev.axis a).home = .backing ∧ (s.dev.axis a).job = some id ∧ s.dev.job id = some j ∧ j.code = none ∧ j.replay = false ∧ j.orphan = false ∧ j.noCqeOk = false ∧ s.dev.replayKept j = false :=
  ⟨mk ((dj ((axd.put .AX_STAT_STATE 3 2).put .AX_HOME_POS_VALUE 777 2) [jr 0x59 1 0x52]).modAxis 2 (fun x => { x with job := some 5, home := .backing })), 2560000, 2, 5, jr 0x59 1 0x52, by decide +kernel⟩
theorem witness_axes_move_13 : ∃ (s : State) (dt : Nat) (a : Fin 8) (id : Nat) (j : Job), s.dev.logs ∧ s.dev.get .AX_CFG_STALL_TICKS a ≤ (s.dev.axis a).stallRun ∧ s.dev.get .AX_STAT_STATE a = 2 ∧ (s.dev.axis a).job = some id ∧ (s.dev.axis a).stopJob = none ∧ (s.dev.axis a).imm = [] ∧ s.dev.job id = some j ∧ j.code = none ∧ j.replay = false ∧ j.orphan = false ∧ j.noCqeOk = false ∧ s.dev.replayKept j = false :=
  ⟨mk ((dj (axd.put .AX_STAT_STATE 2 2) [jr 0x58 900 0x52]).modAxis 2 (fun x => { x with job := some 5, stallRun := 255 })), 2560000, 2, 5, jr 0x58 900 0x52, by unfold Dev.logs; decide +kernel, by decide +kernel⟩
theorem witness_axes_move_14 : ∃ (s : State) (dt : Nat) (a : Fin 8), s.dev.get .AX_CFG_STALL_TICKS a ≤ (s.dev.axis a).stallRun ∧ s.dev.get .AX_STAT_STATE a = 3 ∧ (s.dev.axis a).home = .seeking :=
  ⟨mk ((axd.put .AX_STAT_STATE 3 2).modAxis 2 (fun x => { x with home := .seeking, stallRun := 255 })), 2560000, 2, by decide +kernel⟩
theorem witness_axes_move_15 : ∃ (s : State) (dt : Nat) (a : Fin 8), (s.dev.axis a).home = .pressing ∧ (s.dev.axis a).pressed + 20 * qMs ≤ (s.dev.elapse dt).run :=
  ⟨mk (spd.modAxis 2 (fun x => { x with home := .pressing, homeUp := true })), 20 * qMs, 2, by decide +kernel⟩
theorem witness_axes_move_16 : ∃ (s : State) (dt : Nat) (a : Fin 8), (s.dev.axis a).home = .seeking ∧ s.dev.get .AX_HOME_MAX_VALUE a ≠ 0 ∧ s.dev.get .AX_HOME_MAX_VALUE a * fineP.toNat ≤ (((s.dev.elapse dt).axisKin a).p - (s.dev.axis a).homeFrom * fineP).natAbs :=
  ⟨mk ((axd.put .AX_HOME_MAX_VALUE 3 2).modAxis 2 (fun x => { x with home := .seeking, p0 := 5 * fineP })), 1, 2, by decide +kernel⟩
theorem witness_axes_move_17 : ∃ (s : State) (dt : Nat) (a : Fin 8), (s.dev.elapse dt).axisRests a = true ∧ (s.dev.axis a).restSince + s.dev.get .AX_LA_HOLD_DELAY_MS a * qMs ≤ (s.dev.elapse dt).run :=
  ⟨mk axd, qSec, 2, by decide +kernel⟩
theorem witness_axes_move_18 : ∃ (s : State) (dt : Nat) (a : Fin 8), s.dev.frozen 0 = false ∧ s.dev.get .AX_CFG_ENABLE a = 0 :=
  ⟨mk dv, 1, 7, by decide +kernel⟩
theorem witness_axes_move_19 : ∃ (s : State) (dt : Nat) (a : Fin 8), s.dev.frozen 0 = false :=
  ⟨mk axd, 1, 2, by decide +kernel⟩
theorem witness_axes_move_20 : ∃ (s : State) (dt : Nat) (a : Fin 8) (o : Bool), s.dev.logs ∧ s.dev.drives = true ∧ s.dev.get .AX_STAT_STATE a ≠ 0 ∧ s.dev.get .AX_STAT_STATE a ≠ 6 ∧ s.dev.get .AX_CFG_MODE a = 0 ∧ (o = true → 2 ≤ (s.dev.axis a).overRun) :=
  ⟨mk axd, 1, 2, false, by unfold Dev.logs; decide +kernel, by decide +kernel⟩
theorem witness_axes_move_21 : ∃ (s : State) (dt : Nat) (a : Fin 8) (ia : Int) (ib : Int), s.dev.drives = true ∧ (s.dev.now + dt) % (20000 * qNs) = 0 ∧ s.dev.inService 43 = true ∧ s.dev.get .AX_STAT_STATE a ≠ 0 ∧ s.dev.get .AX_STAT_STATE a ≠ 6 ∧ s.dev.get .AX_CFG_MODE a = 0 ∧ (s.dev.gets .AX_VEL_VALUE a).natAbs < s.dev.get .AX_LA_VMIN_LA_VMIN a :=
  ⟨mk (axd.put .AX_LA_VMIN_LA_VMIN 5 2), 5120000, 2, 100, 50, by decide +kernel⟩
theorem witness_axes_move_22 : ∃ (s : State) (dt : Nat) (a : Fin 8) (ia : Int) (ib : Int), s.dev.drives = true ∧ (s.dev.now + dt) % (20000 * qNs) = 0 ∧ s.dev.inService 43 = true ∧ s.dev.get .AX_STAT_STATE a ≠ 0 ∧ s.dev.get .AX_STAT_STATE a ≠ 6 ∧ s.dev.get .AX_CFG_MODE a = 0 ∧ s.dev.get .AX_LA_VMIN_LA_VMIN a ≤ (s.dev.gets .AX_VEL_VALUE a).natAbs :=
  ⟨mk ((axd.put .AX_LA_VMIN_LA_VMIN 5 2).put .AX_VEL_VALUE 5 2), 5120000, 2, 100, 50, by decide +kernel⟩
theorem witness_encoders_count_1 : ∃ (s : State) (dt : Nat) (job : Nat) (j : Job) (a : Nat), s.dev.Takes job 0x5c j ∧ j.target = 0x50 + a ∧ s.dev.axisCode j = none ∧ (s.dev.axis a).home = .none :=
  ⟨mk (dj axd [jx 0x5c 77 0x52]), 1, 5, jx 0x5c 77 0x52, 2, takes_of (by decide +kernel), by decide +kernel⟩
theorem witness_encoders_count_2 : ∃ (s : State) (dt : Nat) (job : Nat) (j : Job) (a : Nat), s.dev.Takes job 0x5d j ∧ j.target = 0x50 + a ∧ s.dev.axisCode j = none ∧ (s.dev.axis a).home = .none :=
  ⟨mk (dj axd [jx 0x5d 77 0x52]), 1, 5, jx 0x5d 77 0x52, 2, takes_of (by decide +kernel), by decide +kernel⟩
theorem witness_encoders_count_3 : ∃ (s : State) (dt : Nat) (job : Nat) (j : Job) (a : Nat), s.dev.Takes job 0x5e j ∧ j.target = 0x50 + a ∧ s.dev.axisCode j = none ∧ (s.dev.axis a).home = .none :=
  ⟨mk (dj axd [jx 0x5e 77 0x52]), 1, 5, jx 0x5e 77 0x52, 2, takes_of (by decide +kernel), by decide +kernel⟩
theorem witness_encoders_count_4 : ∃ (s : State) (dt : Nat) (n : Fin 8) (a : Bool) (b : Bool) (width : Nat), s.dev.inService 43 = true ∧ s.dev.minEdge n ≤ width ∧ s.dev.get .ENC_CFG_ENABLE n = 1 ∧ (((s.dev.enc n).a = a ∧ (s.dev.enc n).b ≠ b ∨ (s.dev.enc n).a ≠ a ∧ (s.dev.enc n).b = b)) ∧ (s.dev.enc n).cmp = none :=
  ⟨mk axd, 1, 2, true, false, 1000, by decide +kernel⟩
theorem witness_encoders_count_5 : ∃ (s : State) (dt : Nat) (n : Fin 8) (a : Bool) (b : Bool) (width : Nat) (id : Nat) (j : Job) (c : Cmp), s.dev.inService 43 = true ∧ s.dev.minEdge n ≤ width ∧ s.dev.get .ENC_CFG_ENABLE n = 1 ∧ s.dev.get .ENC_CFG_INVERT_DIR n = 0 ∧ (s.dev.enc n).a = a ∧ (s.dev.enc n).b ≠ b ∧ (quadPhase a (s.dev.enc n).b + 1) % 4 = quadPhase a b ∧ (s.dev.enc n).cmp = some c ∧ c.rising = true ∧ c.value = sInt 32 (uInt 32 (s.dev.gets .ENC_COUNT_VALUE n + 1)) ∧ c.hits = some 1 ∧ c.job = id ∧ s.dev.job id = some j ∧ j.code = none ∧ j.replay = false ∧ j.orphan = false ∧ j.noCqeOk = false ∧ s.dev.replayKept j = false :=
  ⟨mk ((dj (axd.put .ENC_COUNT_VALUE 9 2) [jr 0x5c 10 0x52]).modEnc 2 (fun x => { x with a := true, cmp := some { job := 5, value := 10, spacing := 0, rising := true, hits := some 1 } })), 1, 2, true, true, 1000, 5, jr 0x5c 10 0x52, { job := 5, value := 10, spacing := 0, rising := true, hits := some 1 }, by decide +kernel⟩
theorem witness_encoders_count_6 : ∃ (s : State) (dt : Nat) (n : Fin 8) (a : Bool) (b : Bool) (width : Nat), s.dev.inService 43 = true ∧ s.dev.minEdge n ≤ width ∧ s.dev.get .ENC_CFG_ENABLE n = 1 ∧ (s.dev.enc n).a ≠ a ∧ (s.dev.enc n).b ≠ b :=
  ⟨mk axd, 1, 2, true, true, 1000, by decide +kernel⟩
theorem witness_encoders_count_7 : ∃ (s : State) (dt : Nat) (n : Fin 8) (a : Bool) (b : Bool) (width : Nat), s.dev.inService 43 = true ∧ width < s.dev.minEdge n :=
  ⟨mk axd, 1, 2, true, true, 3, by decide +kernel⟩
theorem witness_encoders_count_8 : ∃ (s : State) (dt : Nat) (n : Fin 8), (s.dev.enc n).cmpHigh = true ∧ (s.dev.enc n).cmpUntil ≤ (s.dev.elapse dt).run :=
  ⟨mk (axd.modEnc 2 (fun x => { x with cmpHigh := true })), 1, 2, by decide +kernel⟩
theorem witness_encoders_count_9 : ∃ (s : State) (dt : Nat) (n : Fin 8) (a : Bool) (b : Bool), s.dev.inService 43 = true ∧ s.dev.get .ENC_CFG_ENABLE n = 1 ∧ hasBit (s.dev.get .ENC_CFG_GATE n) 0 = a ∧ hasBit (s.dev.get .ENC_CFG_GATE n) 1 = b ∧ (s.dev.enc n).ref = none :=
  ⟨mk (axd.put .ENC_COUNT_VALUE 0x80000009 2), 1, 2, true, true, by decide +kernel⟩
theorem witness_encoders_count_10 : ∃ (s : State) (dt : Nat) (n : Fin 8) (p : Int), (s.dev.enc n).lastChange + s.dev.get .ENC_CFG_STILL_MS n * qMs ≤ (s.dev.elapse dt).run ∧ s.dev.get .AX_CFG_ENABLE n = 0 ∧ s.dev.get .ENC_CFG_IDX_CORR n = 1 ∧ s.dev.gets .ENC_CORR_PEND n = p ∧ p ≠ 0 :=
  ⟨mk ((dv.put .ENC_CFG_IDX_CORR 1 2).put .ENC_CORR_PEND 0xffff 2), qSec, 2, -1, by decide +kernel⟩
theorem witness_encoders_count_11 : ∃ (s : State) (dt : Nat) (n : Fin 8), (s.dev.enc n).lastChange + s.dev.get .ENC_CFG_STILL_MS n * qMs ≤ (s.dev.elapse dt).run ∧ s.dev.get .AX_STAT_STATE n = 1 ∧ s.dev.get .ENC_CORR_PEND n = 0 :=
  ⟨mk axd, qSec, 2, by decide +kernel⟩
theorem witness_encoders_count_12 : ∃ (s : State) (dt : Nat) (n : Fin 8), s.dev.logs ∧ s.dev.get .ENC_STAT_REF_VALID n = 1 ∧ s.dev.get .ENC_CFG_FOLLOW_EN n = 1 ∧ s.dev.get .ENC_CFG_FOLLOW_TICKS n ≤ (s.dev.enc n).followRun ∧ (s.dev.enc n).followRun < 1000 ∧ s.dev.get .ENC_CFG_FOLLOW_ACT n = 0 :=
  ⟨mk (((axd.put .ENC_STAT_REF_VALID 1 2).put .ENC_CFG_FOLLOW_EN 1 2).modEnc 2 (fun x => { x with followRun := 999 })), 1, 2, by unfold Dev.logs; decide +kernel, by decide +kernel⟩
theorem witness_encoders_count_13 : ∃ (s : State) (dt : Nat) (n : Fin 8), s.dev.frozen 0 = false ∧ s.dev.get .ENC_CFG_ENABLE n = 0 :=
  ⟨mk dv, 1, 7, by decide +kernel⟩
theorem witness_encoders_count_14 : ∃ (s : State) (dt : Nat) (n : Fin 8) (id : Nat) (j : Job) (c : Cmp), s.dev.frozen 0 = false ∧ (s.dev.enc n).cmp = some c ∧ c.job = id ∧ s.dev.job id = some j ∧ j.code = none ∧ j.replay = false ∧ j.orphan = false ∧ j.noCqeOk = false ∧ s.dev.replayKept j = false :=
  ⟨mk ((dj axd [jr 0x5c 10 0x52]).modEnc 2 (fun x => { x with cmp := some { job := 5, value := 10, spacing := 0, rising := true, hits := some 1 } })), 1, 2, 5, jr 0x5c 10 0x52, { job := 5, value := 10, spacing := 0, rising := true, hits := some 1 }, by decide +kernel⟩
end W11

namespace W12
def jw (op w1 w2 tgt : Nat) : Job := { id := 5, fn := 0, ring := 2, slot := 7, words := [BitVec.ofNat 128 (op + 0x2a0000 + tgt * 2 ^ 32 + 2 ^ 40), BitVec.ofNat 128 w1, BitVec.ofNat 128 w2, 0#128], status := .taken }
def je (op w1 w2 tgt : Nat) : Job := { jw op w1 w2 tgt with status := .executing }
def dj (d : Dev) (js : List Job) : Dev := { d with jobs := js }
def tms : Dev := dv.put .SYS_ISL_STAT_IN_SERVICE 1 45
def hst (d : Dev) : Dev := (d.put .SYS_ISL_STAT_IN_SERVICE 1 34).setFn 0 { busMaster := true }
def pls (k : Nat) : Dev := (tms.put .TIM_PULSE_STAT_ARMED 1 k).modPulse k (fun _ => { job := some 5, width := 100, left := some 1 })
def ptd : Dev := ((tms.put .SYS_ISL_STAT_IN_SERVICE 1 46).put .TIM_CTL_PTP_EN 1).put .TIM_PORT_CFG_PTP_PORT_EN 1 2
def pmsg (typ : Nat) (n : Nat) : List Byte := [BitVec.ofNat 8 typ, 2#8, 0#8, BitVec.ofNat 8 n] ++ List.replicate 16 0#8 ++ List.replicate 10 9#8 ++ List.replicate (n - 30) 0#8
def ptm : Dev := { (ptd.put .TIM_PORT_DELAY_PORT_STATE 3 2) with time := { ptd.time with master := some { prio1 := 0, cls := 0, accuracy := 0, variance := 0, prio2 := 0, gm := 0, steps := 0, sender := 42667970104045735577865 } } }
def gm1 : Dev := ((ptd.put .TIM_STAT_STATE 1).put .TIM_PORT_DELAY_PORT_STATE 2 2)
def cmd : Dev := dv.put .SYS_ISL_STAT_IN_SERVICE 1 44
def cap : Capture := { job := 5, host := 64, count := 1 }
def cset : CamSet := { w := 2, h := 1, dt := 0x2a, cfa := 0, outFmt := 0, rawKeep := true, black := [0, 0, 0, 0], ccm := [1, 0, 0, 0, 1, 0, 0, 0, 1], x0 := 0, x1 := 1, y0 := 0, y1 := 0, axis := false, half := 1, sw := 1, thr := 9, areaMin := 0, areaMax := 9, shading := [], defects := [] }
def cfr : CamFrame := { ctx := 4, port := 2, start := 0, number := 0, set := cset, buf := some 1 }
def frc (d : Dev) (f : Fld) (v i j : Nat) : Dev := (d.put f v i j).latch f i j
def wnd (d : Dev) : Dev := (((d.put .WIN_CFG_ENABLE 1).put .WIN_CFG_SIZE_LOG2 40).put .WIN_CFG_R 1).put .WIN_CFG_W 1
def prt : Dev := frc cmd .CAM_PORT_CFG_ENABLE 1 2 0
def frx : Dev := prt.setCamPort 2 { frames := [cfr] }
def arm : Dev := (prt.put .CAM_CTX_SRC_PORT 2 4).modCam 4 (fun x => { x with active := some { cap with armed := true } })
def tmo : Dev := (dj (hst (wnd cmd)) [{ je 0x60 0 0 0x64 with words := [BitVec.ofNat 128 (0x2a0060 + 0x64 * 2 ^ 32 + 2 ^ 40), 64#128, 0#128, 0#128] }]).modCam 4 (fun x => { x with active := some { cap with armed := true } })
def jcp : Job := { je 0x71 (2 ^ 64 + 3 * 2 ^ 82 + 2 ^ 80) 0 0 with words := [BitVec.ofNat 128 (0x2a0071 + 2 ^ 40), BitVec.ofNat 128 (2 ^ 64 + 3 * 2 ^ 82 + 2 ^ 80), 0#128, 0#128] }
def jt : Job := { je 0x60 0 0 0x64 with words := [BitVec.ofNat 128 (0x2a0060 + 0x64 * 2 ^ 32 + 2 ^ 40), 64#128, 0#128, 0#128] }

theorem witness_time_service_1 : ∃ (s : State) (dt : Nat) (job : Nat) (j : Job) (k : Nat), s.dev.Takes job 0x70 j ∧ j.bits 258 256 = k ∧ j.bits 260 259 = 1 ∧ (s.dev.pulse k).job = none ∧ ((s.dev.now + dt : Nat) : Int) ≤ resolveTs64 (s.dev.now + dt) (j.bits 191 128) :=
  ⟨mk (dj tms [jw 0x70 (5 * 2 ^ 32) (2 ^ 3 + 2) 0]), 1, 5, jw 0x70 (5 * 2 ^ 32) (2 ^ 3 + 2) 0, 2, takes_of (by decide +kernel), by decide +kernel⟩
theorem witness_time_service_2 : ∃ (s : State) (dt : Nat) (job : Nat) (j : Job) (k : Nat), s.dev.Takes job 0x70 j ∧ j.bits 258 256 = k ∧ j.bits 260 259 = 0 ∧ (s.dev.pulse k).job = none :=
  ⟨mk (dj tms [jw 0x70 (5 * 2 ^ 32) 2 0]), 1, 5, jw 0x70 (5 * 2 ^ 32) 2 0, 2, takes_of (by decide +kernel), by decide +kernel⟩
theorem witness_time_service_3 : ∃ (s : State) (dt : Nat) (job : Nat) (j : Job) (k : Nat), s.dev.Takes job 0x70 j ∧ j.bits 258 256 = k ∧ j.bits 260 259 = 1 ∧ (s.dev.pulse k).job = none ∧ resolveTs64 (s.dev.now + dt) (j.bits 191 128) < ((s.dev.now + dt : Nat) : Int) :=
  ⟨mk (dj tms [jw 0x70 0 (2 ^ 3 + 2) 0]), qSec, 5, jw 0x70 0 (2 ^ 3 + 2) 0, 2, takes_of (by decide +kernel), by decide +kernel⟩
theorem witness_time_service_4 : ∃ (s : State) (dt : Nat) (k : Fin 8) (id : Nat) (j : Job), s.dev.get .TIM_PULSE_STAT_ARMED k = 1 ∧ (s.dev.pulse k).target ≤ ((s.dev.now + dt : Nat) : Int) ∧ s.dev.inService 45 = true ∧ (s.dev.pulse k).left = some 1 ∧ (s.dev.pulse k).job = some id ∧ s.dev.job id = some j ∧ j.code = none ∧ j.replay = false ∧ j.orphan = false ∧ j.noCqeOk = false ∧ s.dev.replayKept j = false :=
  ⟨mk (dj (pls 2) [je 0x70 0 2 0]), 1, 2, 5, je 0x70 0 2 0, by decide +kernel⟩
theorem witness_time_service_5 : ∃ (s : State) (dt : Nat) (k : Fin 8), (s.dev.pulse k).high = true ∧ (s.dev.pulse k).fallAt ≤ (s.dev.elapse dt).run :=
  ⟨mk (tms.modPulse 2 (fun x => { x with high := true, fallAt := 7 })), 9, 2, by decide +kernel⟩
theorem witness_time_service_6 : ∃ (s : State) (dt : Nat) (job : Nat) (j : Job), s.dev.Takes job 0x71 j ∧ (s.dev.capt (j.bits 209 208)).job = none :=
  ⟨mk (dj tms [jw 0x71 (2 ^ 80 + 2 ^ 64) 0 0]), 1, 5, jw 0x71 (2 ^ 80 + 2 ^ 64) 0 0, takes_of (by decide +kernel), by decide +kernel⟩
theorem witness_time_service_7 : ∃ (s : State) (dt : Nat) (i : Fin 4) (r : Bool) (id : Nat) (j : Job), (s.dev.capt i).job = some id ∧ s.dev.job id = some j ∧ hasBit (j.bits 211 210) (if r then 0 else 1) = true ∧ s.dev.inService 45 = true ∧ (s.dev.capt i).last = none ∧ (s.dev.capt i).written + 1 = j.bits 207 192 ∧ s.dev.rangeCause j.fn (j.addr + 16 * (s.dev.capt i).written) 16 false true = none ∧ s.dev.mayWrite j.fn = true ∧ (s.dev.fn j.fn).held = [] ∧ j.code = none ∧ j.replay = false ∧ j.orphan = false ∧ j.noCqeOk = false ∧ s.dev.replayKept j = false :=
  ⟨mk ((dj (wnd (hst tms)) [jcp]).modCapt 1 (fun x => { x with job := some 5 })), 1, 1, true, 5, jcp, by decide +kernel⟩
theorem witness_time_service_8 : ∃ (s : State) (dt : Nat) (i : Fin 4) (r : Bool) (t0 : Nat), (s.dev.capt i).job = none ∧ s.dev.inService 45 = true ∧ (s.dev.capt i).last = some t0 ∧ (s.dev.elapse dt).run < t0 + 20 * qNs :=
  ⟨mk (tms.modCapt 1 (fun x => { x with last := some 3 })), 1, 1, false, 3, by decide +kernel⟩
theorem witness_time_service_9 : ∃ (s : State) (dt : Nat) (p : Fin 4) (msg : List Byte), s.dev.inService 46 = true ∧ s.dev.ptpOn p = true ∧ ptpGood msg 0 44 (s.dev.get .TIM_CTL_DOMAIN) = true ∧ s.dev.get .TIM_PORT_DELAY_PORT_STATE p = 3 ∧ s.dev.time.master.map (·.sender) = some (msgAt msg 20 10) :=
  ⟨mk ptm, 1, 2, pmsg 0 44, by decide +kernel⟩
theorem witness_time_service_10 : ∃ (s : State) (dt : Nat) (p : Fin 4) (msg : List Byte), s.dev.inService 46 = true ∧ s.dev.ptpOn p = true ∧ ptpGood msg 0 44 (s.dev.get .TIM_CTL_DOMAIN) = false :=
  ⟨mk ptm, 1, 2, pmsg 1 44, by decide +kernel⟩
theorem witness_time_service_11 : ∃ (s : State) (dt : Nat) (p : Fin 4) (msg : List Byte), s.dev.inService 46 = true ∧ s.dev.ptpOn p = true ∧ ptpGood msg 11 64 (s.dev.get .TIM_CTL_DOMAIN) = true ∧ (announceOf msg).sender / 65536 ≠ s.dev.clockId ∧ (announceOf msg).steps < 32 ∧ (s.dev.ptp p).heard = none :=
  ⟨mk ptd, 1, 2, pmsg 11 64, by decide +kernel⟩
theorem witness_time_service_12 : ∃ (s : State) (dt : Nat) (p : Fin 4) (msg : List Byte), s.dev.inService 46 = true ∧ s.dev.ptpOn p = true ∧ ptpGood msg 2 54 (s.dev.get .TIM_CTL_DOMAIN) = true :=
  ⟨mk ptd, 1, 2, pmsg 2 54, by decide +kernel⟩
theorem witness_time_service_13 : ∃ (s : State) (dt : Nat) (p : Fin 4) (msg : List Byte) (t1 : Int), s.dev.inService 46 = true ∧ s.dev.ptpOn p = true ∧ ptpGood msg 3 54 (s.dev.get .TIM_CTL_DOMAIN) = true ∧ (s.dev.ptp p).reqAt = some t1 ∧ msgAt msg 30 2 = (s.dev.ptp p).reqSeq ∧ msgAt msg 44 10 = s.dev.portId p :=
  ⟨mk (ptd.modPtp 2 (fun x => { x with reqAt := some 3 })), 1, 2, (pmsg 3 54).take 44 ++ [0#8, 0#8, 0#8, 0#8, 0#8, 0#8, 0#8, 0#8, 0#8, 3#8], 3, by decide +kernel⟩
theorem witness_time_service_14 : ∃ (s : State) (dt : Nat), s.dev.get .TIM_STAT_STATE = 1 ∧ s.dev.time.lastSyncSent + s.dev.syncInterval ≤ (s.dev.elapse dt).run :=
  ⟨mk gm1, 20 * qSec, by decide +kernel⟩
theorem witness_time_service_15 : ∃ (s : State) (dt : Nat), s.dev.get .TIM_STAT_STATE = 1 ∧ s.dev.time.lastAnnSent + s.dev.annInterval ≤ (s.dev.elapse dt).run :=
  ⟨mk gm1, 20 * qSec, by decide +kernel⟩
theorem witness_time_service_16 : ∃ (s : State) (dt : Nat) (p : Fin 4), s.dev.ptpOn p = true :=
  ⟨mk gm1, 1, 2, by decide +kernel⟩
theorem witness_time_service_17 : ∃ (s : State) (dt : Nat), s.dev.logs ∧ s.dev.get .TIM_CTL_PTP_EN = 1 ∧ s.dev.get .TIM_STAT_STATE = 3 ∧ s.dev.time.lastSync + 16 * s.dev.syncInterval ≤ (s.dev.elapse dt).run :=
  ⟨mk (ptd.put .TIM_STAT_STATE 3), 200 * qSec, by unfold Dev.logs; decide +kernel, by decide +kernel⟩
theorem witness_tim_set_applies_1 : ∃ (s : State) (dt : Nat) (job : Nat) (j : Job), s.dev.Takes job 0x72 j ∧ s.dev.get .TIM_STAT_STATE < 2 ∧ s.dev.get .SYS_LAYER_STAT_STATE = 8 ∧ s.dev.time.set = none :=
  ⟨mk (dj tms [jw 0x72 7 0 0]), 1, 5, jw 0x72 7 0 0, takes_of (by decide +kernel), by decide +kernel⟩
theorem witness_tim_set_applies_2 : ∃ (s : State) (dt : Nat) (job : Nat) (j : Job), s.dev.Takes job 0x72 j ∧ s.dev.get .TIM_STAT_STATE < 2 ∧ s.dev.get .SYS_LAYER_STAT_STATE ≠ 8 :=
  ⟨mk (dj (tms.put .SYS_LAYER_STAT_STATE 3) [jw 0x72 7 0 0]), 1, 5, jw 0x72 7 0 0, takes_of (by decide +kernel), by decide +kernel⟩
theorem witness_tim_set_applies_3 : ∃ (s : State) (dt : Nat) (job : Nat) (j : Job), s.dev.Takes job 0x72 j ∧ 2 ≤ s.dev.get .TIM_STAT_STATE :=
  ⟨mk (dj (tms.put .TIM_STAT_STATE 3) [jw 0x72 7 0 0]), 1, 5, jw 0x72 7 0 0, takes_of (by decide +kernel), by decide +kernel⟩
theorem witness_tim_set_applies_4 : ∃ (s : State) (dt : Nat) (id : Nat) (v : Nat) (due : Nat) (j : Job), s.dev.time.set = some (id, v, due) ∧ (s.dev.now + dt) % qUs = 0 ∧ s.dev.inService 45 = true ∧ due ≤ (s.dev.elapse dt).run ∧ s.dev.job id = some j ∧ j.code = none ∧ j.replay = false ∧ j.orphan = false ∧ j.noCqeOk = false ∧ s.dev.replayKept j = false :=
  ⟨mk { (dj tms [je 0x72 7 0 0]) with time := { tms.time with set := some (5, 777, 9) } }, qUs, 5, 777, 9, je 0x72 7 0 0, by decide +kernel⟩
theorem witness_tim_set_applies_5 : ∃ (s : State) (dt : Nat) (id : Nat) (v : Nat) (due : Nat), s.dev.time.set = some (id, v, due) ∧ s.dev.time.step = none ∧ (s.dev.elapse dt).run < due :=
  ⟨mk { (dj tms [je 0x72 7 0 0]) with time := { tms.time with set := some (5, 777, 2 * qUs) } }, qUs, 5, 777, 2 * qUs, by decide +kernel⟩
theorem witness_cameras_capture_1 : ∃ (s : State) (dt : Nat) (job : Nat) (j : Job) (x : Nat), s.dev.Takes job 0x60 j ∧ j.target - 0x60 = x ∧ x < 16 ∧ s.dev.captureCode j = none ∧ (s.dev.cam x).active = none ∧ s.dev.portTaken x = false ∧ s.dev.inService 44 = true ∧ j.bits 211 211 = 0 :=
  ⟨mk (dj (cmd.put .CAM_CTX_BUF_BUF_MB 200 4) [jw 0x60 (2 ^ 64) 0 0x64]), 1, 5, jw 0x60 (2 ^ 64) 0 0x64, 4, takes_of (by decide +kernel), by decide +kernel⟩
theorem witness_cameras_capture_2 : ∃ (s : State) (dt : Nat) (job : Nat) (j : Job) (c : Nat), s.dev.Takes job 0x60 j ∧ s.dev.captureCode j = some c :=
  ⟨mk (dj cmd [jw 0x60 (2 ^ 64) 0 0x64]), 1, 5, jw 0x60 (2 ^ 64) 0 0x64, 0x02d2, takes_of (by decide +kernel), by decide +kernel⟩
theorem witness_cameras_capture_3 : ∃ (s : State) (dt : Nat) (x : Fin 16) (a : Capture) (k : Nat) (t0 : Nat), (s.dev.cam x).active = some a ∧ a.trig = some (k, t0) ∧ t0 ≤ s.dev.now + dt ∧ s.dev.inService 44 = true ∧ s.dev.get .SYS_ISL_STAT_HOLDOVER 44 = 0 :=
  ⟨mk (cmd.modCam 4 (fun x => { x with active := some { cap with trig := some (1, 3) } })), 9, 4, { cap with trig := some (1, 3) }, 1, 3, by decide +kernel⟩
theorem witness_cameras_capture_4 : ∃ (s : State) (dt : Nat) (job : Nat) (j : Job), s.dev.Takes job 0x63 j ∧ (s.dev.cam (j.target - 0x60)).active.map (·.job) ≠ some job :=
  ⟨mk (dj cmd [jw 0x63 0 0 0x64]), 1, 5, jw 0x63 0 0 0x64, takes_of (by decide +kernel), by decide +kernel⟩
theorem witness_cameras_capture_5 : ∃ (s : State) (dt : Nat) (job : Nat) (j : Job), s.dev.Takes job 0x62 j :=
  ⟨mk (dj cmd [jw 0x62 0 0 0x64]), 1, 5, jw 0x62 0 0 0x64, takes_of (by decide +kernel)⟩
theorem witness_cameras_capture_6 : ∃ (s : State) (dt : Nat) (job : Nat) (j : Job), s.dev.Takes job 0x61 j ∧ s.dev.reprocCode j = none :=
  ⟨mk ((dj cmd [jw 0x61 (2 ^ 64 * 0x3fffffff + 2 ^ 104 * 4 + 2 ^ 96) 0 0x60]).modCam 4 (fun x => { x with bufs := Tab.set {} [] 1 { raw := true } })), 1, 5, jw 0x61 (2 ^ 64 * 0x3fffffff + 2 ^ 104 * 4 + 2 ^ 96) 0 0x60, takes_of (by decide +kernel), by decide +kernel⟩
theorem witness_cameras_capture_7 : ∃ (s : State) (dt : Nat) (job : Nat) (j : Job) (c : Nat), s.dev.Takes job 0x61 j ∧ s.dev.reprocCode j = some c :=
  ⟨mk (dj cmd [jw 0x61 0 0 0x60]), 1, 5, jw 0x61 0 0 0x60, 0x01d0, takes_of (by decide +kernel), by decide +kernel⟩
theorem witness_cameras_capture_8 : ∃ (s : State) (dt : Nat) (p : Fin 8) (vc : Fin 4) (x : Nat) (a : Capture), s.dev.eff .CAM_PORT_CFG_ENABLE p = 1 ∧ s.dev.inService 44 = true ∧ (s.dev.camPort p).frames.find? (fun f => f.vc == vc.val) = none ∧ s.dev.frameTaker p vc = some x ∧ (s.dev.cam x).tables = [] ∧ (s.dev.cam x).active = some a ∧ ((∀ k < 256, (Tab.get {} (s.dev.cam x).bufs k).busy = false)) :=
  ⟨mk arm, 1, 2, 0, 4, { cap with armed := true }, by decide +kernel⟩
theorem witness_cameras_capture_9 : ∃ (s : State) (dt : Nat) (p : Fin 8) (vc : Fin 4), s.dev.eff .CAM_PORT_CFG_ENABLE p = 1 ∧ s.dev.inService 44 = true ∧ (s.dev.camPort p).frames.find? (fun f => f.vc == vc.val) = none ∧ s.dev.frameTaker p vc = none :=
  ⟨mk prt, 1, 2, 0, by decide +kernel⟩
theorem witness_cameras_capture_10 : ∃ (s : State) (dt : Nat) (p : Fin 8) (hd : Word) (bs : List Byte) (crc : BitVec 16) (h : Nat) (f : CamFrame) (k : Nat) (line : List Nat), s.dev.eff .CAM_PORT_CFG_ENABLE p = 1 ∧ s.dev.inService 44 = true ∧ eccCheck hd.toNat = some (h, false) ∧ bitsOf h 25 24 = 0 ∧ 0x2a ≤ bitsOf h 5 0 ∧ bitsOf h 5 0 ≤ 0x2d ∧ csiCrc bs = crc.toNat ∧ (s.dev.camPort p).frames.find? (fun f => f.vc == bitsOf h 7 6) = some f ∧ f.dropped = false ∧ f.set.dt = bitsOf h 5 0 ∧ line = (pixelsOf (bitsOf h 5 0) (bs.take (bitsOf h 23 8))).take f.set.w ∧ line.length = f.set.w ∧ f.lines.length < f.set.h ∧ f.buf = some k ∧ f.stored = true :=
  ⟨mk frx, 1, 2, BitVec.ofNat 32 (0x22a + eccOf 0x22a * 2 ^ 26), [10#8, 20#8], BitVec.ofNat 16 (csiCrc [10#8, 20#8]), 0x22a, cfr, 1, (pixelsOf 0x2a [10#8, 20#8]).take 2, by decide +kernel⟩
theorem witness_cameras_capture_11 : ∃ (s : State) (dt : Nat) (p : Fin 8) (hd : Word) (bs : List Byte) (crc : BitVec 16), s.dev.eff .CAM_PORT_CFG_ENABLE p = 1 ∧ s.dev.inService 44 = true ∧ eccCheck hd.toNat = none :=
  ⟨mk frx, 1, 2, BitVec.ofNat 32 (0x22a + Nat.xor (eccOf 0x22a) 3 * 2 ^ 26), [10#8, 20#8], 0, by decide +kernel⟩
theorem witness_cameras_capture_12 : ∃ (s : State) (dt : Nat) (p : Fin 8) (vc : Fin 4) (f : CamFrame), s.dev.eff .CAM_PORT_CFG_ENABLE p = 1 ∧ s.dev.inService 44 = true ∧ (s.dev.camPort p).frames.find? (fun f => f.vc == vc.val) = some f ∧ f.dropped = false ∧ f.inl = false :=
  ⟨mk frx, 1, 2, 0, cfr, by decide +kernel⟩
theorem witness_cameras_capture_13 : ∃ (s : State) (dt : Nat) (x : Fin 16) (a : Capture) (j : Job) (f : CamFrame), (s.dev.cam x).active = some a ∧ a.armed = true ∧ a.opened = 0 ∧ a.results = 0 ∧ 0 < a.count ∧ a.code = none ∧ s.dev.receiving x = false ∧ a.since + s.dev.get .CAM_CTX_CFG_TIMEOUT_MS x * qMs ≤ (s.dev.elapse dt).run ∧ s.dev.job a.job = some j ∧ j.code = none ∧ j.replay = false ∧ j.orphan = false ∧ j.noCqeOk = false ∧ s.dev.replayKept j = false ∧ j.addr ≠ 0 ∧ f = ({ ctx := x, port := s.dev.get .CAM_CTX_SRC_PORT x, start := 0, number := (s.dev.cam x).frameNo, set := s.dev.camSet x, job := some a.job, timeout := true } : CamFrame) ∧ s.dev.rangeCause j.fn j.addr (f.emptyBlock 8).length false true = none ∧ s.dev.mayWrite j.fn = true ∧ (s.dev.fn j.fn).held = [] :=
  ⟨mk tmo, 70000 * qMs, 4, { cap with armed := true }, jt, ({ ctx := 4, port := tmo.get .CAM_CTX_SRC_PORT 4, start := 0, number := (tmo.cam 4).frameNo, set := tmo.camSet 4, job := some cap.job, timeout := true } : CamFrame), by decide +kernel⟩
theorem witness_cameras_capture_14 : ∃ (s : State) (dt : Nat) (p : Fin 8), s.dev.logs ∧ s.dev.get .MGT_TMO_CAM_TMO_MAX ≤ (s.dev.camPort p).timeouts ∧ (s.dev.camPort p).frames = [] :=
  ⟨mk (cmd.setCamPort 2 { timeouts := 9999 }), 1, 2, by unfold Dev.logs; decide +kernel, by decide +kernel⟩
theorem witness_cameras_capture_15 : ∃ (s : State) (dt : Nat) (f : CamFrame) (rest : List CamFrame), s.dev.pipe.busy = none ∧ s.dev.inService 44 = true ∧ s.dev.pipe.queue = f :: rest :=
  ⟨mk { cmd with pipe := { cmd.pipe with queue := [cfr, cfr] } }, 1, cfr, [cfr], by decide +kernel⟩
theorem witness_cameras_capture_16 : ∃ (s : State) (dt : Nat) (x : Fin 16) (f : CamFrame) (k : Nat) (p : Processed) (r : Result), s.dev.inService 44 = true ∧ s.dev.pipe.closed.find? (fun f => f.ctx == x.val) = none ∧ s.dev.pipe.busy = some f ∧ f.ctx = x.val ∧ f.reproc = false ∧ f.dropped = false ∧ f.job = none ∧ f.buf = some k ∧ p = f.set.process f.lines ∧ r = f.result p false :=
  ⟨mk { cmd with pipe := { cmd.pipe with busy := some { cfr with lines := [[3, 4]] } } }, 1, 4, { cfr with lines := [[3, 4]] }, 1, cset.process [[3, 4]], { cfr with lines := [[3, 4]] }.result (cset.process [[3, 4]]) false, by decide +kernel⟩
theorem witness_cameras_capture_17 : ∃ (s : State) (dt : Nat) (value : Word), s.dev.frozen 0 = false ∧ (s.dev.camPort (s.dev.get .CAM_INLINE_PORT)).frames = [] ∧ (s.dev.camPort (value.toNat % 8)).frames = [] :=
  ⟨mk cmd, 1, 0x83, by decide +kernel⟩
end W12

namespace W13
def jw (op w1 w2 : Nat) : Job := { id := 5, fn := 0, ring := 2, slot := 7, words := [BitVec.ofNat 128 (op + 0x2a0000 + 2 ^ 40), BitVec.ofNat 128 w1, BitVec.ofNat 128 w2, 0#128], status := .taken }
def je (op w1 w2 : Nat) : Job := { jw op w1 w2 with status := .executing }
def dj (d : Dev) (js : List Job) : Dev := { d with jobs := js }
def frc (d : Dev) (f : Fld) (v i j : Nat) : Dev := (d.put f v i j).latch f i j
def grt (d : Dev) (c : Nat) : Dev := (((d.put .WIN_GRANT_CFG_ENABLE 1 31).put .WIN_GRANT_CFG_CLASS (2 ^ c) 31).put .WIN_GRANT_ID_ID_HI 100 31).put .WIN_GRANT_DRAM_SIZE_MB 100 31
def lup : Dev := (((dv.put .FAB_PORT_STAT_LINK_UP 1 2).put .FAB_PORT_STAT_NBR_KNOWN 1 2).put .FAB_STAT_STATE 2).put .SYS_ISL_STAT_IN_SERVICE 1 46
def msg : FabMsg := { kind := 3, port := some 2, payload := [7#128] }
def drm : Dev := ((((dv.put .SYS_ISL_STAT_IN_SERVICE 1 46).put .DRM_CFG_PRESENT 1 0).put .DRM_CFG_SIZE_GB 16 0).put .FAB_ROUTE_DIST 3 9).put .FAB_ROUTE_MASK 4 9
def clm (h : List Nat) (r : Bool) : Dev := { ((dv.put .FAB_STAT_STATE 1).put .FAB_CFG_JOIN_EN 1) with fabric := { dv.fabric with claimAt := some 0, claimId := 77, heardIds := h, retried := r } }
def bx : BulkTx := { job := 5, dst := 9, loc := 64, remote := 128, bytes := 32, number := 3, first := 2, next := 1 }
def txd (x : BulkTx) : Dev := { (dj drm [je 0x78 0 0]) with fabric := { drm.fabric with txs := [x] } }
def hdr (hops : Nat) : Gran := BitVec.ofNat 128 (dv.fabHeader { kind := 0x10, dst := 9, src := some 4, hops := hops, seq := 8, payload := [7#128] })

theorem witness_fabric_members_1 : ∃ (s : State) (dt : Nat) (p : Fin 4) (m : FabMsg), s.dev.inService 46 = true ∧ s.dev.portUp p = true ∧ s.dev.fabState = 2 ∧ s.dev.fabOut = [m] ∧ m.port = some p.val ∧ m.bcast = false ∧ m.launch = 0 ∧ m.kind < 0x10 :=
  ⟨mk { lup with fabOut := [msg] }, 1, 2, msg, by decide +kernel⟩
theorem witness_fabric_members_2 : ∃ (s : State) (dt : Nat) (p : Fin 4) (m : FabMsg), s.dev.fabOut = [m] ∧ s.dev.now + dt < m.launch :=
  ⟨mk { lup with fabOut := [{ msg with launch := 90 }] }, 1, 2, { msg with launch := 90 }, by decide +kernel⟩
theorem witness_fabric_members_3 : ∃ (s : State) (dt : Nat) (p : Fin 4) (g : Gran) (rest : List Gran), s.dev.inService 46 = true ∧ (s.dev.port p).hellos = 2 ∧ hasBit g.toNat 12 = false :=
  ⟨mk ((dv.put .SYS_ISL_STAT_IN_SERVICE 1 46).modPort 2 (fun x => { x with hellos := 2 })), 1, 2, BitVec.ofNat 128 (2 ^ 64 * 5 + 7), [], by decide +kernel⟩
theorem witness_fabric_members_4 : ∃ (s : State) (dt : Nat) (p : Fin 4) (g : Gran) (rest : List Gran), s.dev.logs ∧ s.dev.inService 46 = true ∧ s.dev.fabState = 2 ∧ hasBit g.toNat 12 = true ∧ bitsOf g.toNat 9 0 = s.dev.ownId ∧ bitsOf g.toNat 127 64 < s.dev.mram.serial % 2 ^ 64 :=
  ⟨mk { lup with mram := { lup.mram with serial := 9 } }, 1, 2, BitVec.ofNat 128 (2 ^ 64 * 5 + 2 ^ 12), [], by unfold Dev.logs; decide +kernel, by decide +kernel⟩
theorem witness_fabric_members_5 : ∃ (s : State) (dt : Nat) (p : Fin 4), s.dev.portUp p = true ∧ (s.dev.port p).helloSent + s.dev.get .FAB_TIMER_HELLO_US * qUs ≤ (s.dev.elapse dt).run :=
  ⟨mk lup, qSec, 2, by decide +kernel⟩
theorem witness_fabric_members_6 : ∃ (s : State) (dt : Nat) (p : Fin 4), s.dev.get .FAB_PORT_STAT_NBR_KNOWN p = 1 ∧ (s.dev.port p).lastHello + s.dev.get .FAB_TIMER_KEEP_MISS * s.dev.get .FAB_TIMER_HELLO_US * qUs ≤ (s.dev.elapse dt).run :=
  ⟨mk lup, qSec, 2, by decide +kernel⟩
theorem witness_fabric_members_7 : ∃ (s : State) (dt : Nat) (p : Fin 4), s.dev.get .FAB_PORT_STAT_RX_LOCK p = 1 ∧ s.dev.fabState = 2 :=
  ⟨mk (((lup.put .FAB_PORT_STAT_RX_LOCK 1 2).put .FAB_PORT_STAT_RX_LOCK 1 1)), 1, 1, by decide +kernel⟩
theorem witness_fabric_members_8 : ∃ (s : State) (dt : Nat) (p : Fin 4), s.dev.eff .FAB_PORT_CFG_MODE p ≠ 0 ∧ s.dev.get .FAB_PORT_CFG_MODE p ≠ 0 ∧ s.dev.inService 46 = true :=
  ⟨mk ((frc dv .FAB_PORT_CFG_MODE 1 2 0).put .SYS_ISL_STAT_IN_SERVICE 1 46 |>.put .FAB_STAT_STATE 1), 1, 2, by decide +kernel⟩
theorem witness_fabric_members_9 : ∃ (s : State) (dt : Nat) (p : Fin 4) (payload : List Gran) (id : Nat) (dist : Nat), s.dev.inService 46 = true ∧ routeEntries payload = [(id, dist)] ∧ dist < 32 ∧ s.dev.known p = true ∧ ((∀ q < 4, q ≠ p.val → s.dev.known q = false)) ∧ s.dev.ownIs id = false :=
  ⟨mk lup, 1, 2, [1#128, BitVec.ofNat 128 (9 + 3 * 2 ^ 10)], 9, 3, by decide +kernel⟩
theorem witness_fabric_members_10 : ∃ (s : State) (dt : Nat) (p : Fin 4), s.dev.portUp p = true ∧ (s.dev.port p).lastRoute + s.dev.get .FAB_TIMER_ROUTE_MS * qMs ≤ (s.dev.elapse dt).run :=
  ⟨mk lup, qSec, 2, by decide +kernel⟩
theorem witness_fabric_members_11 : ∃ (s : State) (dt : Nat) (p : Fin 4) (dev : Fin 1024), s.dev.adv p dev < 33 ∧ Tab.get 0 (s.dev.port p).advAt dev + 3 * s.dev.get .FAB_TIMER_ROUTE_MS * qMs ≤ (s.dev.elapse dt).run ∧ ((∀ q < 4, q ≠ p.val → s.dev.known q = false)) ∧ s.dev.ownIs dev = false ∧ ((s.dev.get .FAB_ROUTE_DIST dev < 33 ∨ s.dev.get .FAB_ROUTE_MASK dev ≠ 0)) :=
  ⟨mk (drm.modPort 2 (fun x => { x with adv := [(9, 2)] })), qSec, 2, 9, by decide +kernel⟩
theorem witness_fabric_members_12 : ∃ (s : State) (dt : Nat) (value : Word), s.dev.frozen 0 = false ∧ s.dev.get .SYS_LOCK_LOCK = 0 ∧ s.dev.fabState = 0 ∧ s.dev.get .FAB_CFG_JOIN_EN = 0 ∧ bitsOf value.toNat 11 11 = 1 ∧ 1 ≤ bitsOf value.toNat 27 16 ∧ bitsOf value.toNat 27 16 ≤ 4094 :=
  ⟨mk dv, 1, BitVec.ofNat 32 (2 ^ 16 + 2 ^ 11 + 77), by decide +kernel⟩
theorem witness_fabric_members_13 : ∃ (s : State) (dt : Nat) (t0 : Nat), s.dev.fabState = 1 ∧ s.dev.get .FAB_CFG_JOIN_EN = 1 ∧ s.dev.fabric.claimAt = some t0 ∧ t0 + s.dev.get .FAB_TIMER_CLAIM_MS * qMs ≤ (s.dev.elapse dt).run ∧ s.dev.fabric.claimId ∉ s.dev.fabric.heardIds ∧ s.dev.fabric.claimId < 1024 :=
  ⟨mk (clm [3] false), 10 * qSec, 0, by decide +kernel⟩
theorem witness_fabric_members_14 : ∃ (s : State) (dt : Nat) (t0 : Nat), s.dev.logs ∧ s.dev.fabState = 1 ∧ s.dev.get .FAB_CFG_JOIN_EN = 1 ∧ s.dev.fabric.claimAt = some t0 ∧ t0 + s.dev.get .FAB_TIMER_CLAIM_MS * qMs ≤ (s.dev.elapse dt).run ∧ s.dev.fabric.claimId ∈ s.dev.fabric.heardIds ∧ s.dev.fabric.retried = true :=
  ⟨mk (clm [3, 77] true), 10 * qSec, 0, by unfold Dev.logs; decide +kernel, by decide +kernel⟩
theorem witness_fabric_members_15 : ∃ (s : State) (dt : Nat), 0 < s.dev.fabric.rebcasts ∧ s.dev.fabric.rebcastAt + qMs ≤ (s.dev.elapse dt).run :=
  ⟨mk { dv with fabric := { dv.fabric with rebcasts := 2 } }, qSec, by decide +kernel⟩
theorem witness_fabric_members_16 : ∃ (s : State) (dt : Nat) (dev : Fin 1024) (g : Gran) (rest : List Gran), s.dev.inService 46 = true ∧ s.dev.ownIs dev = false ∧ s.dev.get .FAB_ROUTE_LEFT dev = 1 :=
  ⟨mk ((dv.put .SYS_ISL_STAT_IN_SERVICE 1 46).put .FAB_ROUTE_LEFT 1 9), 1, 9, 7#128, [], by decide +kernel⟩
theorem witness_fabric_members_17 : ∃ (s : State) (dt : Nat) (dev : Fin 1024), s.dev.inService 46 = true ∧ s.dev.ownIs dev = false ∧ s.dev.layerState ≠ 10 :=
  ⟨mk (dv.put .SYS_ISL_STAT_IN_SERVICE 1 46), 1, 9, by decide +kernel⟩
theorem witness_fabric_members_18 : ∃ (s : State) (dt : Nat) (p : Fin 4) (header : Gran) (payload : List Gran) (q : Nat), s.dev.inService 46 = true ∧ headerOk header.toNat = true ∧ bitsOf header.toNat 71 64 = payload.length ∧ payload.length ≤ 92 ∧ s.dev.ownIs (bitsOf header.toNat 19 10) = false ∧ 3 ≤ bitsOf header.toNat 55 48 ∧ bitsOf header.toNat 55 48 ≠ 0x16 ∧ hasBit header.toNat 56 = false ∧ s.dev.ownIs (bitsOf header.toNat 9 0) = false ∧ s.dev.routePort (bitsOf header.toNat 9 0) = some q :=
  ⟨mk drm, 1, 3, hdr 5, [7#128], 2, by decide +kernel⟩
theorem witness_fabric_members_19 : ∃ (s : State) (dt : Nat) (p : Fin 4) (header : Gran) (payload : List Gran), s.dev.inService 46 = true ∧ headerOk header.toNat = false :=
  ⟨mk drm, 1, 3, 9#128, [7#128], by decide +kernel⟩
theorem witness_fabric_members_20 : ∃ (s : State) (dt : Nat) (job : Nat) (j : Job), s.dev.Takes job 0x78 j ∧ j.bits 175 128 % 16 = 0 ∧ j.bits 239 192 % 16 = 0 ∧ j.bits 287 256 % 16 = 0 ∧ 16 ≤ j.bits 287 256 ∧ j.bits 175 128 + j.bits 287 256 ≤ s.dev.dramBytes ∧ s.dev.ownIs (j.bits 185 176) = false ∧ s.dev.reachable (j.bits 185 176) = true ∧ s.dev.get .FAB_ROUTE_LEFT (j.bits 185 176) = 0 :=
  ⟨mk (dj drm [jw 0x78 (64 + 9 * 2 ^ 48 + 128 * 2 ^ 64) 32]), 1, 5, jw 0x78 (64 + 9 * 2 ^ 48 + 128 * 2 ^ 64) 32, takes_of (by decide +kernel), by decide +kernel⟩
theorem witness_fabric_members_21 : ∃ (s : State) (dt : Nat) (job : Nat) (j : Job), s.dev.Takes job 0x78 j ∧ j.bits 175 128 % 16 ≠ 0 :=
  ⟨mk (dj drm [jw 0x78 (65 + 9 * 2 ^ 48 + 128 * 2 ^ 64) 32]), 1, 5, jw 0x78 (65 + 9 * 2 ^ 48 + 128 * 2 ^ 64) 32, takes_of (by decide +kernel), by decide +kernel⟩
theorem witness_fabric_members_22 : ∃ (s : State) (dt : Nat) (header : Gran) (g : Gran) (data : List Gran), s.dev.inService 46 = true ∧ s.dev.peerFrozen (bitsOf header.toNat 19 10) = false ∧ s.dev.grantOk (bitsOf header.toNat 19 10) 5 (some (bitsOf g.toNat 47 0, 16 * data.length)) = true ∧ bitsOf g.toNat 47 0 + 16 * data.length ≤ s.dev.dramBytes :=
  ⟨mk { (grt drm 5) with fabric := { drm.fabric with rxs := Tab.set {} [] (4 + 1024 * 3) { next := some 8 } } }, 1, hdr 5, BitVec.ofNat 128 (64 + 3 * 2 ^ 64), [7#128, 8#128], by decide +kernel⟩
theorem witness_fabric_members_23 : ∃ (s : State) (dt : Nat) (dev : Fin 1024) (g : Gran) (rest : List Gran) (x : BulkTx) (j : Job), s.dev.inService 46 = true ∧ s.dev.fabric.txs = [x] ∧ x.dst = dev ∧ x.next = x.frames ∧ x.acked < x.frames ∧ bitsOf g.toNat 15 0 = (x.first + x.frames - 1) % 65536 ∧ x.frames - x.acked ≤ 65536 ∧ s.dev.job x.job = some j ∧ j.code = none ∧ j.replay = false ∧ j.orphan = false ∧ j.noCqeOk = false ∧ s.dev.replayKept j = false :=
  ⟨mk (txd bx), 1, 9, 2#128, [], bx, je 0x78 0 0, by decide +kernel⟩
theorem witness_fabric_members_24 : ∃ (s : State) (dt : Nat) (x : BulkTx), s.dev.fabric.txs = [x] ∧ x.resends < 8 ∧ x.progress + 100 * qUs ≤ (s.dev.elapse dt).run :=
  ⟨mk (txd bx), qSec, bx, by decide +kernel⟩
theorem witness_fabric_members_25 : ∃ (s : State) (dt : Nat) (x : BulkTx) (j : Job), s.dev.fabric.txs = [x] ∧ 8 ≤ x.resends ∧ x.progress + 100 * qUs ≤ (s.dev.elapse dt).run ∧ s.dev.job x.job = some j ∧ j.code = none ∧ j.replay = false ∧ j.orphan = false ∧ j.noCqeOk = false ∧ s.dev.replayKept j = false :=
  ⟨mk (txd { bx with resends := 8 }), qSec, { bx with resends := 8 }, je 0x78 0 0, by decide +kernel⟩
theorem witness_fabric_members_26 : ∃ (s : State) (dt : Nat) (job : Nat) (j : Job), s.dev.Takes job 0x79 j ∧ s.dev.fabState = 2 :=
  ⟨mk (dj lup [jw 0x79 0 0]), 1, 5, jw 0x79 0 0, takes_of (by decide +kernel), by decide +kernel⟩
theorem witness_fabric_members_27 : ∃ (s : State) (dt : Nat) (j : Job), s.dev.fabState = 3 ∧ s.dev.fabric.leaveAt + s.dev.get .FAB_SHAPE_LEAVE_US * qUs ≤ (s.dev.elapse dt).run ∧ s.dev.jobs = [j] ∧ j.opcode = 0x79 ∧ j.status = .executing ∧ j.code = none ∧ j.replay = false ∧ j.orphan = false ∧ j.noCqeOk = false ∧ s.dev.replayKept j = false :=
  ⟨mk (dj (lup.put .FAB_STAT_STATE 3) [je 0x79 0 0]), qSec, je 0x79 0 0, by decide +kernel⟩
theorem witness_fabric_members_28 : ∃ (s : State) (dt : Nat) (job : Nat) (j : Job), s.dev.Takes job 0x7a j ∧ s.dev.reachable (j.bits 137 128) = true :=
  ⟨mk (dj drm [jw 0x7a 9 0]), 1, 5, jw 0x7a 9 0, takes_of (by decide +kernel), by decide +kernel⟩
theorem witness_fabric_members_29 : ∃ (s : State) (dt : Nat) (job : Nat) (j : Job), s.dev.Takes job 0x7a j ∧ s.dev.reachable (j.bits 137 128) = false ∧ s.dev.layerState ≠ 10 :=
  ⟨mk (dj drm [jw 0x7a 10 0]), 1, 5, jw 0x7a 10 0, takes_of (by decide +kernel), by decide +kernel⟩
end W13

namespace W14
def jw (op w1 w2 : Nat) : Job := { id := 5, fn := 0, ring := 2, slot := 7, words := [BitVec.ofNat 128 (op + 0x2a0000 + 2 ^ 40), BitVec.ofNat 128 w1, BitVec.ofNat 128 w2, 0#128], status := .taken }
def dj (d : Dev) (js : List Job) : Dev := { d with jobs := js }
def pr (st : Nat) : Dev := (((((dv.put .SYS_ISL_STAT_IN_SERVICE 1 46).put .HNG_CFG_PAIR_EN 1).put .HNG_STAT_STATE st).put .SYS_ISL_STAT_IN_SERVICE 1 47).put .HNG_CFG_PARTNER_ID 9).put .FAB_STAT_ID 20
def hg (st : Nat) (g : Hinge → Hinge) : Dev := (pr st).modHinge g
def bt (st : Nat) : Gran := BitVec.ofNat 128 (st * 2 ^ 32 + 2 ^ 36 + 6 * 2 ^ 40)
def upp (st : Nat) : Dev := ((pr st).put .HNG_STAT_PATH_A_UP 1).put .HNG_STAT_PATH_B_UP 1

theorem witness_hinge_pair_1 : ∃ (s : State) (dt : Nat), s.dev.paired = true ∧ s.dev.hngState ≠ 5 :=
  ⟨mk (pr 1), 1, by decide +kernel⟩
theorem witness_hinge_pair_2 : ∃ (s : State) (dt : Nat), s.dev.paired = true ∧ s.dev.hngState = 5 :=
  ⟨mk (pr 5), 1, by decide +kernel⟩
theorem witness_hinge_pair_3 : ∃ (s : State) (dt : Nat), s.dev.paired = true ∧ s.dev.hngState = 3 ∧ s.dev.pins.fenceIn = false ∧ s.dev.hinge.since + 100 * qMs ≤ (s.dev.elapse dt).run ∧ s.dev.hinge.heardActive = none ∧ s.dev.hinge.heardAny = none :=
  ⟨mk (pr 3), qSec, by decide +kernel⟩
theorem witness_hinge_pair_4 : ∃ (s : State) (dt : Nat), s.dev.paired = true ∧ (s.dev.now + dt) % qUs = 0 ∧ s.dev.inService 47 = true ∧ s.dev.hinge.syncPeer = false :=
  ⟨mk (pr 1), qUs, by decide +kernel⟩
theorem witness_hinge_pair_5 : ∃ (s : State) (dt : Nat), s.dev.paired = true ∧ (s.dev.now + dt) % (10 * qUs) = 0 ∧ s.dev.inService 47 = true :=
  ⟨mk (pr 1), 10 * qUs, by decide +kernel⟩
theorem witness_hinge_pair_6 : ∃ (s : State) (dt : Nat) (g : Gran) (rest : List Gran), s.dev.paired = true ∧ s.dev.inService 46 = true ∧ s.dev.inService 47 = true ∧ s.dev.hngState = 2 ∧ bitsOf g.toNat 35 32 = 1 ∧ rest.length = 36 :=
  ⟨mk (pr 2), 1, bt 1, List.replicate 36 0#128, by decide +kernel⟩
theorem witness_hinge_pair_7 : ∃ (s : State) (dt : Nat) (g : Gran) (rest : List Gran), s.dev.paired = true ∧ s.dev.inService 47 = true ∧ s.dev.hngState ≠ 2 ∧ bitsOf g.toNat 35 32 = 3 ∧ s.dev.hinge.beatsB = 2 ∧ s.dev.hinge.beatIn ≠ some (hasBit g.toNat 36) ∧ s.dev.hinge.handover = none :=
  ⟨mk (hg 3 (fun h => { h with beatsB := 2 })), 1, bt 3, [], by decide +kernel⟩
theorem witness_hinge_pair_8 : ∃ (s : State) (dt : Nat) (g : Gran) (rest : List Gran), s.dev.paired = true ∧ s.dev.inService 46 = true ∧ s.dev.inService 47 = true ∧ s.dev.hngState = 2 ∧ s.dev.get .HNG_STAT_ELIGIBLE = 1 ∧ bitsOf g.toNat 35 32 = 4 :=
  ⟨mk ((pr 2).put .HNG_STAT_ELIGIBLE 1), 1, bt 4, [], by decide +kernel⟩
theorem witness_hinge_pair_9 : ∃ (s : State) (dt : Nat) (g : Gran) (rest : List Gran), s.dev.paired = true ∧ s.dev.inService 46 = true ∧ s.dev.inService 47 = true ∧ bitsOf g.toNat 35 32 = 2 ∧ s.dev.hinge.beatsA = 2 ∧ s.dev.hinge.handover = none :=
  ⟨mk (hg 3 (fun h => { h with beatsA := 2 })), 1, bt 2, [], by decide +kernel⟩
theorem witness_hinge_pair_10 : ∃ (s : State) (dt : Nat) (g : Gran) (rest : List Gran), s.dev.prefers = false ∧ s.dev.paired = true ∧ s.dev.inService 46 = true ∧ s.dev.inService 47 = true ∧ s.dev.hngState = 1 ∧ bitsOf g.toNat 35 32 = 1 ∧ s.dev.hinge.deciding = none :=
  ⟨mk (pr 1), 1, bt 1, [], by unfold Dev.prefers; generalize Config.partnerPrefers = b; cases b <;> decide +kernel, by decide +kernel⟩
theorem witness_hinge_pair_11 : ∃ (s : State) (dt : Nat) (pathB : Bool), s.dev.logs ∧ s.dev.paired = true ∧ s.dev.get (if pathB then .HNG_STAT_PATH_B_UP else .HNG_STAT_PATH_A_UP) = 1 ∧ s.dev.get (if pathB then .HNG_STAT_PATH_A_UP else .HNG_STAT_PATH_B_UP) = 1 ∧ (if pathB then s.dev.hinge.lastB + 3 * qUs else s.dev.hinge.lastA + 30 * qUs) < (s.dev.elapse dt).run :=
  ⟨mk (upp 2), qSec, true, by unfold Dev.logs; decide +kernel, by decide +kernel⟩
theorem witness_hinge_pair_12 : ∃ (s : State) (dt : Nat), s.dev.paired = true ∧ s.dev.get .HNG_STAT_PATH_B_UP = 1 ∧ s.dev.get .HNG_STAT_PATH_A_UP = 0 ∧ s.dev.hinge.lastB + 3 * qUs < (s.dev.elapse dt).run ∧ s.dev.hngState = 2 ∧ s.dev.get .HNG_STAT_ELIGIBLE = 1 :=
  ⟨mk (((upp 2).put .HNG_STAT_PATH_A_UP 0).put .HNG_STAT_ELIGIBLE 1), qSec, by decide +kernel⟩
theorem witness_hinge_pair_13 : ∃ (s : State) (dt : Nat) (ownInLow : Bool) (t0 : Nat), s.dev.logs ∧ s.dev.hinge.deciding = some t0 ∧ ((ownInLow = true ∨ t0 + 300 * qNs ≤ (s.dev.elapse dt).run)) :=
  ⟨mk (hg 1 (fun h => { h with deciding := some 0 })), 300 * qNs, false, 0, by unfold Dev.logs; decide +kernel, by decide +kernel⟩
theorem witness_hinge_pair_14 : ∃ (s : State) (dt : Nat) (dev : Fin 1024) (g : Gran) (rest : List Gran), s.dev.inService 46 = true :=
  ⟨mk ((pr 1).put .KRF_PEER_ENABLE 1 2 |>.put .KRF_PEER_PEER_ID 30 2), 1, 30, BitVec.ofNat 128 (30 + 31 * 2 ^ 16), [], by decide +kernel⟩
theorem witness_hinge_pair_15 : ∃ (s : State) (dt : Nat), s.dev.paired = true ∧ s.dev.inService 47 = true ∧ (s.dev.elapse dt).pathsLost = false ∧ s.dev.hinge.reportAt + 100 * qMs ≤ (s.dev.elapse dt).run :=
  ⟨mk (upp 2), qSec, by decide +kernel⟩
theorem witness_hinge_pair_16 : ∃ (s : State) (dt : Nat) (g : Gran) (rest : List Gran), s.dev.inService 46 = true :=
  ⟨mk (pr 2), 1, BitVec.ofNat 128 0x12345601, [], by decide +kernel⟩
theorem witness_hinge_pair_17 : ∃ (s : State) (dt : Nat) (n : Fin 49), s.dev.logs ∧ s.dev.paired = true ∧ s.dev.hngState = 2 ∧ 34 ≤ n.val :=
  ⟨mk (pr 2), 1, 40, by unfold Dev.logs; decide +kernel, by decide +kernel⟩
theorem witness_hinge_pair_18 : ∃ (s : State) (dt : Nat) (n : Fin 49), s.dev.paired = true ∧ s.dev.hngState = 2 ∧ n.val < 34 ∧ s.dev.hinge.bist = some n.val ∧ s.dev.cal.running.find? (fun r => r.unit == n.val) = none :=
  ⟨mk (hg 2 (fun h => { h with bist := some 3 })), 1, 3, by decide +kernel⟩
theorem witness_hinge_pair_19 : ∃ (s : State) (dt : Nat) (g : Gran) (rest : List Gran), s.dev.paired = true ∧ s.dev.inService 46 = true ∧ s.dev.inService 47 = true ∧ s.dev.hngState = 3 ∧ bitsOf g.toNat 7 0 = 0 :=
  ⟨mk ((pr 3).put .ENG_STAT_BOUND_CH 0 3), 1, 0#128, List.replicate 56 (BitVec.ofNat 128 (77 + 3 * 2 ^ 64 + 3 * 2 ^ 96)), by decide +kernel⟩
theorem witness_hinge_pair_20 : ∃ (s : State) (dt : Nat) (g : Gran) (rest : List Gran) (part : Nat), s.dev.paired = true ∧ s.dev.inService 46 = true ∧ s.dev.inService 47 = true ∧ s.dev.hngState = 3 ∧ part = bitsOf g.toNat 7 0 ∧ 1 ≤ part ∧ part ≤ 16 :=
  ⟨mk (pr 3), 1, 16#128, [77#128, 5#128], 16, by decide +kernel⟩
theorem witness_hinge_pair_21 : ∃ (s : State) (dt : Nat) (g : Gran) (gs : List Gran) (n : Nat), s.dev.paired = true ∧ s.dev.inService 46 = true ∧ s.dev.inService 47 = true ∧ s.dev.hngState = 3 ∧ s.dev.layerState = 0 ∧ n = min (bitsOf g.toNat 47 32) 364 :=
  ⟨mk (((pr 3).put .SYS_LAYER_STAT_STATE 0).modHinge (fun h => { h with snapped := true, copied := 2 ^ 21 })), 1, BitVec.ofNat 128 (64 + 2 * 2 ^ 32 + 2 ^ 49), [BitVec.ofNat 128 (7 * 2 ^ 32 + 4)], 2, by decide +kernel⟩
theorem witness_hinge_pair_22 : ∃ (s : State) (dt : Nat) (job : Nat) (j : Job), s.dev.Takes job 0x7c j ∧ s.dev.paired = true ∧ s.dev.hngState = 1 ∧ s.dev.hinge.peerState = 2 ∧ s.dev.get .HNG_PEER_HEALTH_HEALTH_OK = 1 :=
  ⟨mk ((dj (pr 1) [jw 0x7c 0 0]).put .HNG_PEER_HEALTH_HEALTH_OK 1 |>.modHinge (fun h => { h with peerState := 2 })), 1, 5, jw 0x7c 0 0, takes_of (by decide +kernel), by decide +kernel⟩
theorem witness_hinge_pair_23 : ∃ (s : State) (dt : Nat) (job : Nat) (j : Job), s.dev.Takes job 0x7c j ∧ s.dev.hinge.peerState ≠ 2 :=
  ⟨mk (dj (pr 1) [jw 0x7c 0 0]), 1, 5, jw 0x7c 0 0, takes_of (by decide +kernel), by decide +kernel⟩
theorem witness_hinge_pair_24 : ∃ (s : State) (dt : Nat) (job : Nat) (j : Job), s.dev.Takes job 0x7d j :=
  ⟨mk (dj (pr 1) [jw 0x7d 0 0]), 1, 5, jw 0x7d 0 0, takes_of (by decide +kernel)⟩
theorem witness_hinge_pair_25 : ∃ (s : State) (dt : Nat), s.dev.paired = true ∧ s.dev.inService 47 = true ∧ (s.dev.elapse dt).pathsLost = true ∧ s.dev.hngState = 2 ∧ s.dev.flag .HNG_HEALTH_BIST_FAIL = false ∧ s.dev.flag .HNG_HEALTH_SCRUB_UNCORR = false ∧ s.dev.flag .HNG_STAT_TIME_ERR = false ∧ s.dev.get .THM_STAT_STATE ≠ 3 ∧ s.dev.hinge.reportAt + 100 * qMs ≤ (s.dev.elapse dt).run :=
  ⟨mk (pr 2), qSec, by decide +kernel⟩
end W14

namespace W15
def jw (op w1 w2 : Nat) : Job := { id := 5, fn := 0, ring := 2, slot := 7, words := [BitVec.ofNat 128 (op + 0x2a0000 + 2 ^ 40), BitVec.ofNat 128 w1, BitVec.ofNat 128 w2, 0#128], status := .taken }
def dj (d : Dev) (js : List Job) : Dev := { d with jobs := js }
def wnd (d : Dev) : Dev := (((d.put .WIN_CFG_ENABLE 1).put .WIN_CFG_SIZE_LOG2 40).put .WIN_CFG_R 1).put .WIN_CFG_W 1
def grt (d : Dev) (c : Nat) : Dev := ((d.put .WIN_GRANT_CFG_ENABLE 1 31).put .WIN_GRANT_CFG_CLASS (2 ^ c) 31).put .WIN_GRANT_ID_ID_HI 100 31
def hst (d : Dev) : Dev := (d.put .SYS_ISL_STAT_IN_SERVICE 1 34).setFn 0 { busMaster := true }
def r0 : Rec := { code := 0x0c01, sev := 3, source := 7 }
def mg : Dev := (dv.put .SYS_ISL_STAT_IN_SERVICE 1 46).put .SYS_ISL_STAT_IN_SERVICE 1 48
def rq (d : Dev) (q : List Rec) : Dev := { d with recorder := { d.recorder with queue := q } }
def ff : Nat := 2 ^ 48 - 1
def allBad (d : Dev) : Dev := { d with mram := { d.mram with badA := ff } }
def ch (c : Nat) : Dev := ((dv.put .DRM_STAT_IN_SERVICE 1 c).put .SYS_ISL_STAT_IN_SERVICE 1 (36 + c)).put .DRM_CFG_SIZE_GB 16 c |>.put .DRM_CFG_PRESENT 1 c
def rd : DramReq := { write := false, cls := 2, burst := 9 }
def wr : DramReq := { write := true, cls := 2, burst := 9, data := [1#8, 2#8] }

theorem witness_recorder_log_1 : ∃ (s : State) (dt : Nat) (r : Rec) (q : List Rec) (k : Nat), s.dev.inService 48 = true ∧ s.dev.get .REC_STAT_SCANNING = 0 ∧ s.dev.get .REC_STAT_LOG_DEGRADED = 0 ∧ s.dev.recorder.queue = r :: q ∧ s.dev.placeFor r.sev = some k :=
  ⟨mk (rq mg [r0]), 1, r0, [], 0, by decide +kernel⟩
theorem witness_recorder_log_2 : ∃ (s : State) (dt : Nat) (ok : Bool) (r : Rec) (q : List Rec), s.dev.inService 48 = true ∧ s.dev.get .REC_STAT_SCANNING = 0 ∧ s.dev.get .REC_STAT_LOG_DEGRADED = 0 ∧ s.dev.recorder.queue = r :: q ∧ s.dev.placeFor r.sev = none :=
  ⟨mk (allBad (rq mg [r0])), 1, true, r0, [], by decide +kernel⟩
theorem witness_recorder_log_3 : ∃ (s : State) (dt : Nat) (r : Rec) (q : List Rec) (k : Nat), s.dev.inService 48 = true ∧ s.dev.get .REC_STAT_SCANNING = 0 ∧ s.dev.get .REC_STAT_LOG_DEGRADED = 0 ∧ s.dev.recorder.queue = r :: q ∧ s.dev.placeFor r.sev = some k ∧ q.length < 255 ∧ s.dev.mram.badA = 0 ∧ s.dev.mram.badB = 0 ∧ k < 49152 :=
  ⟨mk (rq mg [r0]), 1, r0, [], 0, by decide +kernel⟩
theorem witness_recorder_log_5 : ∃ (s : State) (dt : Nat) (r : Rec) (q : List Rec) (k : Nat), s.dev.get .REC_STAT_SCANNING = 1 ∧ s.dev.mram.bad 7 = false ∧ s.dev.recorder.queue = r :: q ∧ s.dev.placeFor r.sev = some k :=
  ⟨mk (rq (mg.put .REC_STAT_SCANNING 1) [r0]), 1, r0, [], 0, by decide +kernel⟩
theorem witness_recorder_log_6 : ∃ (s : State) (dt : Nat), s.dev.get .REC_STAT_SCANNING = 1 ∧ s.dev.get .REC_STAT_LOG_DEGRADED = 0 ∧ ((∀ b < 48, s.dev.mram.bad b = true)) :=
  ⟨mk (allBad (rq (mg.put .REC_STAT_SCANNING 1) [r0])), 1, by decide +kernel⟩
theorem witness_recorder_log_7 : ∃ (s : State) (dt : Nat) (dev : Fin 1024) (g : Gran) (h : Gran) (k : Nat), s.dev.inService 46 = true ∧ s.dev.peerFrozen dev = false ∧ s.dev.grantOk dev 4 none = true ∧ s.dev.get .REC_CFG_PEER_ACCEPT = 1 ∧ s.dev.inService 48 = true ∧ s.dev.get .REC_STAT_LOG_DEGRADED = 0 ∧ s.dev.get .REC_STAT_SCANNING = 0 ∧ s.dev.placeFor (recSev (g.toNat + h.toNat * 2 ^ 128)) = some k :=
  ⟨mk ((grt mg 4).put .REC_CFG_PEER_ACCEPT 1), 1, 9, 0x30001#128, 7#128, 0, by decide +kernel⟩
theorem witness_recorder_log_8 : ∃ (s : State) (dt : Nat) (dev : Fin 1024) (payload : List Gran), s.dev.inService 46 = true ∧ s.dev.peerFrozen dev = false ∧ s.dev.grantOk dev 4 none = true ∧ s.dev.get .REC_CFG_PEER_ACCEPT = 0 :=
  ⟨mk (grt mg 4), 1, 9, [0x30001#128, 7#128], by decide +kernel⟩
theorem witness_recorder_log_9 : ∃ (s : State) (dt : Nat) (job : Nat) (j : Job) (bs : List Byte), s.dev.Takes job 0x7e j ∧ bs = s.dev.recImage (j.bits 224 224 == 1) (j.bits 207 192) (j.bits 223 208) ∧ s.dev.rangeCause j.fn j.addr bs.length false true = none ∧ s.dev.mayWrite j.fn = true ∧ (s.dev.fn j.fn).held = [] :=
  ⟨mk (dj (hst (wnd mg)) [jw 0x7e (2 * 2 ^ 80 + 64) 0]), 1, 5, jw 0x7e (2 * 2 ^ 80 + 64) 0, mg.recImage false 0 2, takes_of (by decide +kernel), by decide +kernel⟩
theorem witness_recorder_log_10 : ∃ (s : State) (dt : Nat) (job : Nat) (j : Job), s.dev.Takes job 0x7f j ∧ s.dev.logs :=
  ⟨mk (dj mg [jw 0x7f 3 0]), 1, 5, jw 0x7f 3 0, takes_of (by decide +kernel), by unfold Dev.logs; decide +kernel⟩
theorem witness_dram_channels_1 : ∃ (s : State) (dt : Nat) (c : Fin 2) (write : Bool) (cls : Fin 5) (burst : Nat) (bs : List Byte), s.dev.chanServes c = true ∧ (s.dev.chan c).writeQ.find? (fun w => w.burst == burst) = none ∧ (s.dev.chan c).writeQ.length < 64 ∧ (s.dev.chan c).readQ.length < 64 :=
  ⟨mk (ch 1), 1, 1, true, 2, 9, [1#8], by decide +kernel⟩
theorem witness_dram_channels_2 : ∃ (s : State) (dt : Nat) (c : Fin 2) (cls : Fin 5) (burst : Nat) (bs : List Byte) (w : DramReq), s.dev.chanServes c = true ∧ (s.dev.chan c).writeQ.find? (fun w => w.burst == burst) = some w :=
  ⟨mk ((ch 1).modChan 1 (fun x => { x with writeQ := [wr] })), 1, 1, 2, 9, [], wr, by decide +kernel⟩
theorem witness_dram_channels_3 : ∃ (s : State) (dt : Nat) (c : Fin 2) (ecc : Fin 3) (r : DramReq), s.dev.logs ∧ s.dev.chanServes c = true ∧ (s.dev.elapse dt).servesWrite c = false ∧ (s.dev.elapse dt).firstReq c (s.dev.chan c).readQ = some r ∧ r.write = false :=
  ⟨mk ((ch 1).modChan 1 (fun x => { x with readQ := [rd] })), 1, 1, 2, rd, by unfold Dev.logs; decide +kernel, by decide +kernel⟩
theorem witness_dram_channels_4 : ∃ (s : State) (dt : Nat) (c : Fin 2) (ecc : Fin 3) (r : DramReq), s.dev.chanServes c = true ∧ (s.dev.elapse dt).servesWrite c = true ∧ (s.dev.elapse dt).firstReq c (s.dev.chan c).writeQ = some r ∧ r.write = true :=
  ⟨mk ((ch 0).modChan 0 (fun x => { x with writeQ := [wr] })), 1, 0, 0, wr, by decide +kernel⟩
theorem witness_dram_channels_5 : ∃ (s : State) (dt : Nat) (c : Fin 2) (sub : Fin 2) (code : Nat) (out : Bool) (drift : Nat), s.dev.logs :=
  ⟨mk (ch 1), 1, 1, 1, 3, true, 99, by unfold Dev.logs; decide +kernel⟩
theorem witness_dram_channels_6 : ∃ (s : State) (dt : Nat) (c : Fin 2) (sub : Fin 2) (bank : Fin 32) (p : Nat), p = Tab.get 0 (s.dev.chan c).postponed (bankIx sub bank) ∧ s.dev.bankBusy c sub bank = false :=
  ⟨mk ((ch 1).modChan 1 (fun x => { x with postponed := [(35, 2)], openRow := [(35, 4)] })), 1, 1, 1, 3, 2, by decide +kernel⟩
theorem witness_dram_channels_7 : ∃ (s : State) (dt : Nat) (c : Fin 2) (sub : Fin 2) (bank : Fin 32) (p : Nat), p = Tab.get 0 (s.dev.chan c).postponed (bankIx sub bank) ∧ s.dev.bankBusy c sub bank = true :=
  ⟨mk ((ch 1).modChan 1 (fun x => { x with readQ := [rd], postponed := [(32, 2)] })), 1, 1, 1, 0, 2, by decide +kernel⟩
theorem witness_dram_channels_8 : ∃ (s : State) (dt : Nat) (c : Fin 2) (ecc : Fin 3), s.dev.chanServes c = true ∧ (s.dev.chan c).readQ = [] ∧ (s.dev.chan c).draining = false :=
  ⟨mk (ch 1), 1, 1, 1, by decide +kernel⟩
theorem witness_dram_channels_9 : ∃ (s : State) (dt : Nat) (ok : Bool), s.dev.logs ∧ s.dev.layer.retraining = 3 ∧ s.dev.get .DRM_STAT_TRAINING 0 = 1 :=
  ⟨mk { ((ch 0).put .DRM_STAT_TRAINING 1 0) with layer := { dv.layer with retraining := 3 } }, 1, true, by unfold Dev.logs; decide +kernel, by decide +kernel⟩
theorem witness_dram_channels_10 : ∃ (s : State) (dt : Nat) (c : Fin 2), s.dev.logs ∧ s.dev.layer.retraining = 0 ∧ (s.dev.island (36 + c)).testing = true ∧ s.dev.get .MGT_UNIT_OUT_HOST (36 + c) = 0 :=
  ⟨mk (dv.setIsland 37 { dv.island 37 with testing := true }), 1, 1, by unfold Dev.logs; decide +kernel, by decide +kernel⟩
theorem witness_dram_channels_11 : ∃ (s : State) (dt : Nat) (c : Fin 2), s.dev.logs ∧ s.dev.layer.retraining = 0 ∧ (s.dev.island (36 + c)).testing = true :=
  ⟨mk (dv.setIsland 37 { dv.island 37 with testing := true }), 1, 1, by unfold Dev.logs; decide +kernel, by decide +kernel⟩
end W15

namespace W16
def jw (op w1 w2 : Nat) : Job := { id := 5, fn := 0, ring := 2, slot := 7, words := [BitVec.ofNat 128 (op + 0x2a0000 + 2 ^ 40), BitVec.ofNat 128 w1, BitVec.ofNat 128 w2, 0#128], status := .taken }
def je (op w1 w2 : Nat) : Job := { jw op w1 w2 with status := .executing }
def dj (d : Dev) (js : List Job) : Dev := { d with jobs := js }
def wnd (d : Dev) : Dev := (((d.put .WIN_CFG_ENABLE 1).put .WIN_CFG_SIZE_LOG2 40).put .WIN_CFG_R 1).put .WIN_CFG_W 1
def hst (d : Dev) : Dev := (d.put .SYS_ISL_STAT_IN_SERVICE 1 34).setFn 0 { busMaster := true }
def fr (d : Dev) : Dev := (d.elapse 1).bringFresh (fun c => c.fld == .CAL_SENSOR_OFFSET || c.fld == .CAL_SENSOR_GAIN)
def hot : Dev := (dv.put .CAL_SENSOR_GAIN 32768 3).put .CAL_SENSOR_OFFSET 0 3 |>.setSensor 3 { dv.sensor 3 with reading := 1800 }
def raws (n : Int) : List Int := [0, 0, 0, n] ++ List.replicate 60 0
def cr (k : CalKind) (u : Nat) : CalReq := { kind := k, unit := u, job := some 5 }
def cvr (p : CoverPhase) (k : CalKind) (u ch : Nat) : Cover := { phase := p, req := some (cr k u), ch := ch }
def eng (n c : Nat) : Dev := (dv.put .ENG_STAT_BOUND_CH c n).put .MGT_UNIT_IN_SERVICE 1 n
def spr (d : Dev) : Dev := (d.put .MGT_UNIT_IN_SERVICE 1 32).put .SYS_ISL_STAT_IN_SERVICE 1 32
def run (d : Dev) (rs : List CalReq) : Dev := { d with cal := { d.cal with running := rs } }
def jd (ds : List Gran) : Job := { jw 0x4f 0 0 with data := some ds }

theorem witness_thermal_control_1 : ∃ (s : State) (dt : Nat) (raw : List Int) (d : Dev), raw.length = 64 ∧ d = (s.dev.elapse dt).bringFresh (fun c => c.fld == .CAL_SENSOR_OFFSET || c.fld == .CAL_SENSOR_GAIN) :=
  ⟨mk dv, 1, raws 3000, fr dv, by decide +kernel⟩
theorem witness_thermal_control_2 : ∃ (s : State) (dt : Nat) (raw : List Int) (d : Dev) (t : Int) (k : Fin 64), raw.length = 64 ∧ d = (s.dev.elapse dt).bringFresh (fun c => c.fld == .CAL_SENSOR_OFFSET || c.fld == .CAL_SENSOR_GAIN) ∧ t = d.trimmed k (raw.getD k 0) ∧ 1840 ≤ t ∧ t ≤ 2400 ∧ s.dev.get .THM_TEMP_BROKEN k = 0 ∧ (t - (s.dev.sensor k).reading).natAbs ≤ 80 ∧ (s.dev.sensor k).same < 255 ∧ s.dev.get .THM_STAT_STATE ≠ 3 :=
  ⟨mk hot, 1, raws 1860, fr hot, 1860, 3, by decide +kernel⟩
theorem witness_thermal_control_3 : ∃ (s : State) (dt : Nat), ((∀ i ∈ governed, s.dev.get .THM_GOV_LEVEL i ≤ 16)) ∧ s.dev.get .THM_GOV_FLOOR 43 ≤ 256 :=
  ⟨mk dv, 1, by decide +kernel⟩
theorem witness_thermal_control_4 : ∃ (s : State) (dt : Nat), s.dev.logs ∧ s.dev.get .THM_STAT_STATE = 1 ∧ 1648 ≤ s.dev.gets .THM_STAT_T_MAX ∧ s.dev.therm.slowSince + s.dev.get .THM_CFG_GRACE_DS * 100 * qMs ≤ (s.dev.elapse dt).run :=
  ⟨mk ((dv.put .THM_STAT_STATE 1).put .THM_STAT_T_MAX 1700), 1000 * qSec, by unfold Dev.logs; decide +kernel, by decide +kernel⟩
theorem witness_thermal_control_5 : ∃ (s : State) (dt : Nat) (job : Nat) (j : Job), s.dev.Takes job 0x4c j ∧ 1520 ≤ s.dev.gets .THM_STAT_T_MAX :=
  ⟨mk (dj (dv.put .THM_STAT_T_MAX 1700) [jw 0x4c 0 0]), 1, 5, jw 0x4c 0 0, takes_of (by decide +kernel), by decide +kernel⟩
theorem witness_thermal_control_6 : ∃ (s : State) (dt : Nat) (job : Nat) (j : Job), s.dev.Takes job 0x4c j ∧ s.dev.logs ∧ s.dev.gets .THM_STAT_T_MAX < 1520 ∧ s.dev.get .THM_STAT_STATE = 3 :=
  ⟨mk (dj ((dv.put .THM_STAT_T_MAX 1500).put .THM_STAT_STATE 3) [jw 0x4c 0 0]), 1, 5, jw 0x4c 0 0, takes_of (by decide +kernel), by unfold Dev.logs; decide +kernel, by decide +kernel⟩
theorem witness_calibration_cover_1 : ∃ (s : State) (dt : Nat) (job : Nat) (j : Job), s.dev.Takes job 0x4d j ∧ j.calReq.kind = .lag ∧ ((s.dev.layerOpen = true ∨ s.dev.get .ENG_STAT_BOUND_CH j.calReq.unit = 63)) :=
  ⟨mk (dj dv [jw 0x4d (3 + 7 * 2 ^ 4) 0]), 1, 5, jw 0x4d (3 + 7 * 2 ^ 4) 0, takes_of (by decide +kernel), by decide +kernel⟩
theorem witness_calibration_cover_2 : ∃ (s : State) (dt : Nat) (job : Nat) (j : Job), s.dev.Takes job 0x4d j ∧ j.calReq.kind = .lag ∧ s.dev.layerOpen = false ∧ s.dev.get .ENG_STAT_BOUND_CH j.calReq.unit ≠ 63 :=
  ⟨mk (dj ((eng 7 7).put .SYS_LAYER_STAT_STATE 8) [jw 0x4d (3 + 7 * 2 ^ 4) 0]), 1, 5, jw 0x4d (3 + 7 * 2 ^ 4) 0, takes_of (by decide +kernel), by decide +kernel⟩
theorem witness_calibration_cover_3 : ∃ (s : State) (dt : Nat) (job : Nat) (j : Job), s.dev.Takes job 0x4d j ∧ j.calReq.kind ≠ .lag ∧ s.dev.cal.waiting = [] ∧ s.dev.serves j.calReq.unit j.calReq.kind = false :=
  ⟨mk (dj dv [jw 0x4d (1 + 7 * 2 ^ 4) 0]), 1, 5, jw 0x4d (1 + 7 * 2 ^ 4) 0, takes_of (by decide +kernel), by decide +kernel⟩
theorem witness_calibration_cover_4 : ∃ (s : State) (dt : Nat) (job : Nat) (j : Job) (k : Nat), s.dev.Takes job 0x4d j ∧ j.calReq.kind ≠ .lag ∧ s.dev.cal.waiting = [] ∧ s.dev.serves j.calReq.unit j.calReq.kind = true ∧ s.dev.freeCover j.calReq.unit = some k :=
  ⟨mk (dj (spr (eng 7 7)) [jw 0x4d (7 * 2 ^ 4) 0]), 1, 5, jw 0x4d (7 * 2 ^ 4) 0, 0, takes_of (by decide +kernel), by decide +kernel⟩
theorem witness_calibration_cover_5 : ∃ (s : State) (dt : Nat) (job : Nat) (j : Job), s.dev.Takes job 0x4e j ∧ s.dev.rangeCause j.fn j.addr (s.dev.elapse dt).calImage.length false true = none ∧ s.dev.mayWrite j.fn = true ∧ (s.dev.fn j.fn).held = [] :=
  ⟨mk (dj (hst (wnd dv)) [jw 0x4e 64 0]), 1, 5, jw 0x4e 64 0, takes_of (by decide +kernel), by decide +kernel⟩
theorem witness_calibration_cover_6 : ∃ (s : State) (dt : Nat) (job : Nat) (j : Job) (bs : List Byte), s.dev.Takes job 0x4f j ∧ bs = (granBytes (j.data.getD [])).take 8192 ∧ crc32c (bs.take 8188) ≠ imageWord bs 2047 :=
  ⟨mk (dj dv [jd [7#128]]), 1, 5, jd [7#128], (granBytes [7#128]).take 8192, takes_of (by decide +kernel), by decide +kernel⟩
theorem witness_calibration_cover_7 : ∃ (s : State) (dt : Nat) (job : Nat) (j : Job) (bs : List Byte), s.dev.Takes job 0x4f j ∧ bs = (granBytes (j.data.getD [])).take 8192 ∧ crc32c (bs.take 8188) = imageWord bs 2047 ∧ imageWord bs 2 = s.dev.get .CAL_SERIAL_LO_SERIAL ∧ imageWord bs 3 = s.dev.get .CAL_SERIAL_HI_SERIAL :=
  ⟨mk (dj (eng 7 7) [jd []]), 1, 5, jd [], [], takes_of (by decide +kernel), by decide +kernel⟩
theorem witness_calibration_cover_8 : ∃ (s : State) (dt : Nat) (k : Fin 2) (r : CalReq), (s.dev.cover k).phase = .copying ∧ (s.dev.cover k).req = some r :=
  ⟨mk ((eng 7 7).setCover 1 (cvr .copying .taps 7 7)), 1, 1, cr .taps 7, by decide +kernel⟩
theorem witness_calibration_cover_9 : ∃ (s : State) (dt : Nat) (k : Fin 2) (r : CalReq), (s.dev.cover k).phase = .copying ∧ (s.dev.cover k).req = some r :=
  ⟨mk ((eng 7 7).setCover 1 (cvr .copying .taps 7 7)), 1, 1, cr .taps 7, by decide +kernel⟩
theorem witness_calibration_cover_10 : ∃ (s : State) (dt : Nat) (r : CalReq), (s.dev.cover 0).phase = .ready ∧ (s.dev.cover 0).req = some r ∧ (s.dev.elapse dt).channelRests (s.dev.cover 0).ch = true ∧ r.kind ≠ .fault ∧ r.unit < 32 ∧ s.dev.get .ENG_STAT_BOUND_CH r.unit = (s.dev.cover 0).ch ∧ (s.dev.cover 0).ch < 32 :=
  ⟨mk ((spr (eng 7 9)).setCover 0 (cvr .ready .taps 7 9)), 1, cr .taps 7, by decide +kernel⟩
theorem witness_calibration_cover_11 : ∃ (s : State) (dt : Nat) (u : Fin 83) (r : CalReq), s.dev.logs ∧ s.dev.cal.waiting = [] ∧ s.dev.cal.running = [r] ∧ r.unit = u ∧ r.kind = .bist ∧ s.dev.coverOf u = none :=
  ⟨mk (run (eng 7 9) [cr .bist 7]), 1, 7, cr .bist 7, by unfold Dev.logs; decide +kernel, by decide +kernel⟩
theorem witness_calibration_cover_12 : ∃ (s : State) (dt : Nat) (u : Fin 83) (ms : List Int) (r : CalReq) (id : Nat) (j : Job), s.dev.logs ∧ s.dev.cal.waiting = [] ∧ s.dev.cal.running = [r] ∧ s.dev.cal.ending = [] ∧ r.unit = u ∧ r.kind = .lag ∧ r.job = some id ∧ s.dev.job id = some j ∧ j.code = none ∧ j.replay = false ∧ j.orphan = false ∧ j.noCqeOk = false ∧ s.dev.replayKept j = false :=
  ⟨mk (dj (run (eng 7 9) [cr .lag 7]) [je 0x4d 0 0]), 1, 7, [4000, 90000, 3], cr .lag 7, 5, je 0x4d 0 0, by unfold Dev.logs; decide +kernel, by decide +kernel⟩
theorem witness_calibration_cover_13 : ∃ (s : State) (dt : Nat) (u : Fin 83) (ms : List Int) (r : CalReq) (id : Nat) (j : Job), s.dev.logs ∧ s.dev.cal.waiting = [] ∧ s.dev.cal.running = [r] ∧ s.dev.cal.ending = [] ∧ r.unit = u ∧ r.kind = .lag ∧ r.job = some id ∧ s.dev.job id = some j ∧ j.code = none ∧ j.replay = false ∧ j.orphan = false ∧ j.noCqeOk = false ∧ s.dev.replayKept j = false :=
  ⟨mk (dj (run (eng 7 9) [cr .lag 7]) [je 0x4d 0 0]), 1, 7, [4000, 90000, 3], cr .lag 7, 5, je 0x4d 0 0, by unfold Dev.logs; decide +kernel, by decide +kernel⟩
theorem witness_calibration_cover_14 : ∃ (s : State) (dt : Nat) (r : CalReq), (s.dev.cover 0).phase = .active ∧ (s.dev.cover 0).req = some r ∧ r.kind ≠ .fault ∧ r.unit < 32 ∧ s.dev.cal.waiting = [] ∧ ((∃ x ∈ s.dev.cal.ending, x.unit = r.unit)) ∧ (s.dev.elapse dt).channelRests (s.dev.cover 0).ch = true ∧ s.dev.get .ENG_STAT_BOUND_CH 32 < 32 :=
  ⟨mk { (((spr dv).put .ENG_STAT_BOUND_CH 9 32).setCover 0 (cvr .active .taps 7 9)) with cal := { (((spr dv).put .ENG_STAT_BOUND_CH 9 32).setCover 0 (cvr .active .taps 7 9)).cal with ending := [cr .taps 7] } }, 1, cr .taps 7, by decide +kernel⟩
end W16

namespace W17
def jw (op w1 w2 : Nat) : Job := { id := 5, fn := 0, ring := 2, slot := 7, words := [BitVec.ofNat 128 (op + 0x2a0000 + 2 ^ 40), BitVec.ofNat 128 w1, BitVec.ofNat 128 w2, 0#128], status := .taken }
def dj (d : Dev) (js : List Job) : Dev := { d with jobs := js }
def mgd : Dev := (dv.put .SYS_ISL_STAT_IN_SERVICE 1 48).put .SYS_LAYER_STAT_STATE 3
def frz (d : Dev) (f : Nat) : Dev := (d.put .WIN_FRZ_STAT_FROZEN 1 f).put .WIN_FRZ_STAT_SAFE 1 f
def rcv : Dev := mgd.put .MGT_STAT_RECOVERY 1
def fwd : List Gran := BitVec.ofNat 128 (0x53465649 + 4096 * 2 ^ 64) :: List.replicate 9 0#128
def fwj : Job := { jw 0x44 (8192 * 2 ^ 64) 0 with data := some fwd }
def fwx : Job := { fwj with status := .executing }
def upd (j : Job) : Dev := { (dj (mgd.put .MGT_STAT_UPD_BUSY 1) [j]) with mgmt := { mgd.mgmt with update := some 5 } }

theorem witness_resets_and_firmware_3 : ∃ (s : State) (dt : Nat), s.dev.mgmt.mgmtEn = true :=
  ⟨mk (rcv.hostWrite 0 5 [1#8]), 1, by decide +kernel⟩
theorem witness_resets_and_firmware_6 : ∃ (s : State) (dt : Nat) (fn : Fin 8), fn.val ≠ 0 ∧ s.dev.frozen fn = false :=
  ⟨mk rcv, 1, 3, by decide +kernel⟩
theorem witness_resets_and_firmware_7 : ∃ (s : State) (dt : Nat), ((∀ f < 8, s.dev.frozen f = false)) :=
  ⟨mk rcv, 1, by decide +kernel⟩
theorem witness_resets_and_firmware_8 : ∃ (s : State) (dt : Nat) (fn : Fin 8), fn.val ≠ 0 ∧ s.dev.frozen fn = true ∧ s.dev.get .WIN_FRZ_STAT_SAFE fn = 1 ∧ (s.dev.fn fn).byViolation = false :=
  ⟨mk (frz (rcv.put .HIF_SQ_CFG_ENABLE 1 3 9) 3), 1, 3, by decide +kernel⟩
theorem witness_resets_and_firmware_9 : ∃ (s : State) (dt : Nat) (straps : BitVec 3) (cal : List (List Int)) (dowels : List Int) (dramOk : List Bool), s.dev.logs ∧ s.dev.mgmt.inReset = true ∧ 0 ∉ s.dev.mgmt.absent ∧ ((s.dev.mgmt.resetCause ≠ 3 ∨ s.dev.mgmt.sysBack + qMs ≤ (s.dev.elapse dt).run)) ∧ hasBit straps.toNat 1 = true ∧ s.dev.recorder.queue.length < 255 :=
  ⟨mk dv, 1, 2#3, [], [], [], by unfold Dev.logs; decide +kernel, by decide +kernel⟩
theorem witness_resets_and_firmware_10 : ∃ (s : State) (dt : Nat) (straps : BitVec 3) (cal : List (List Int)) (dowels : List Int) (dramOk : List Bool), s.dev.mgmt.inReset = true ∧ 0 ∉ s.dev.mgmt.absent ∧ ((s.dev.mgmt.resetCause ≠ 3 ∨ s.dev.mgmt.sysBack + qMs ≤ (s.dev.elapse dt).run)) ∧ hasBit straps.toNat 1 = false :=
  ⟨mk dv, 1, 0#3, [], [], [], by decide +kernel⟩
theorem witness_resets_and_firmware_11 : ∃ (s : State) (dt : Nat) (cfg : BootCfg), s.dev.mgmt.mgmtEn = true ∧ s.dev.inService 48 = true :=
  ⟨mk mgd, 1, { bootSlot := 1 }, by decide +kernel⟩
theorem witness_resets_and_firmware_12 : ∃ (s : State) (dt : Nat), s.dev.logs ∧ s.dev.mgmt.mgmtEn = true ∧ s.dev.inService 48 = true ∧ s.dev.frozen 0 = true ∧ s.dev.get .WIN_FRZ_STAT_SAFE 0 = 1 :=
  ⟨mk (frz (mgd.put .HIF_SQ_CFG_ENABLE 1 0 9) 0), 1, by unfold Dev.logs; decide +kernel, by decide +kernel⟩
theorem witness_resets_and_firmware_13 : ∃ (s : State) (dt : Nat), s.dev.mgmt.mgmtEn = true ∧ s.dev.inService 48 = true :=
  ⟨mk mgd, 1, by decide +kernel⟩
theorem witness_resets_and_firmware_14 : ∃ (s : State) (dt : Nat) (slot : Fin 2) (page : Nat) (bs : List Byte), s.dev.mgmt.mgmtEn = true ∧ s.dev.inService 48 = true ∧ s.dev.get .MGT_STAT_RECOVERY = 1 ∧ page < 32768 ∧ bs.length = 256 :=
  ⟨mk rcv, 1, 1, 32767, List.replicate 256 7#8, by decide +kernel⟩
theorem witness_resets_and_firmware_15 : ∃ (s : State) (dt : Nat) (slot : Fin 2) (page : Nat) (bs : List Byte), s.dev.get .MGT_STAT_RECOVERY = 0 :=
  ⟨mk mgd, 1, 1, 32767, List.replicate 256 7#8, by decide +kernel⟩
theorem witness_resets_and_firmware_16 : ∃ (s : State) (dt : Nat) (slot : Fin 2) (commit : Bool), s.dev.mgmt.mgmtEn = true ∧ s.dev.inService 48 = true ∧ s.dev.get .MGT_STAT_RECOVERY = 1 :=
  ⟨mk rcv, 1, 1, true, by decide +kernel⟩
theorem witness_resets_and_firmware_17 : ∃ (s : State) (dt : Nat) (job : Nat) (j : Job) (k : Nat), s.dev.Takes job 0x44 j ∧ headerFits (j.fwBytes.take 160) = true ∧ 4096 + hdrNum (j.fwBytes.take 160) 8 4 ≤ j.bits 223 192 ∧ s.dev.mgmt.update = none ∧ k = 1 - s.dev.get .MGT_STAT_SLOT_NOW :=
  ⟨mk (dj mgd [fwj]), 1, 5, fwj, 1, takes_of (by decide +kernel), by decide +kernel⟩
theorem witness_resets_and_firmware_18 : ∃ (s : State) (dt : Nat) (job : Nat) (j : Job), s.dev.Takes job 0x44 j ∧ headerFits (j.fwBytes.take 160) = false :=
  ⟨mk (dj mgd [jw 0x44 0 0]), 1, 5, jw 0x44 0 0, takes_of (by decide +kernel), by decide +kernel⟩
theorem witness_resets_and_firmware_19 : ∃ (s : State) (dt : Nat) (id : Nat) (j : Job), s.dev.mgmt.update = some id ∧ s.dev.job id = some j ∧ j.code = none ∧ j.replay = false ∧ j.orphan = false ∧ j.noCqeOk = false ∧ s.dev.replayKept j = false :=
  ⟨mk (upd fwx), 1, 5, fwx, by decide +kernel⟩
theorem witness_resets_and_firmware_20 : ∃ (s : State) (dt : Nat) (id : Nat) (j : Job) (h : List Byte) (image : List Byte) (k : Nat), s.dev.mgmt.update = some id ∧ s.dev.job id = some j ∧ j.code = none ∧ j.replay = false ∧ j.orphan = false ∧ j.noCqeOk = false ∧ s.dev.replayKept j = false ∧ h = j.fwBytes.take 160 ∧ image = (j.fwBytes.drop 4096).take (hdrNum h 8 4) ∧ k = 1 - s.dev.get .MGT_STAT_SLOT_NOW :=
  ⟨mk (upd fwx), 1, 5, fwx, fwx.fwBytes.take 160, (fwx.fwBytes.drop 4096).take (hdrNum (fwx.fwBytes.take 160) 8 4), 1, by decide +kernel⟩
theorem witness_resets_and_firmware_21 : ∃ (s : State) (dt : Nat) (job : Nat) (j : Job), s.dev.Takes job 0x45 j :=
  ⟨mk (dj mgd [jw 0x45 1 0]), 1, 5, jw 0x45 1 0, takes_of (by decide +kernel)⟩
end W17


end Sys2Proof.Tests
end

section
/-! SUPPORT. Frames and register writes in the words of the statements. -/

namespace Sys2Proof.Machine

open Sys2Proof

/-! ### Answers -/

/-- A meaning that is an action answers the device it makes. -/
theorem Answers.of_act {c : Instr} {s : State} {dt : Nat} {f : Dev → Dev} {P : Dev → Prop} (h : exec c s = s.act dt f)
    (hp : P (f (s.dev.elapse dt))) : Answers c s P := ⟨_, h, rfl, hp⟩

/-! ### What a frame says of memories and registers -/

theorem Frame.sameMem {w : Nat} {d e : Dev} (h : Frame w d e) (hh : w.testBit 4 = false := by decide +kernel) (hd : w.testBit 5 = false := by decide +kernel)
    (hf : w.testBit 6 = false := by decide +kernel) : d.SameMem e :=
  fun a => by rw [h.host hh, h.dram hd, h.flash hf]; exact ⟨rfl, rfl, rfl⟩

theorem Dev.SameMem.refl {d : Dev} : d.SameMem d := fun _ => ⟨rfl, rfl, rfl⟩

theorem Dev.SameMem.trans {d e f : Dev} (h : d.SameMem e) (k : e.SameMem f) : d.SameMem f := fun a => by
  obtain ⟨h₁, h₂, h₃⟩ := h a
  obtain ⟨k₁, k₂, k₃⟩ := k a
  exact ⟨k₁.trans h₁, k₂.trans h₂, k₃.trans h₃⟩

/-- Whether every register field that a frame's mask names belongs to one of some registers. -/
def maskIn (rs : List Reg) (w : Nat) : Bool := (List.range 769).all (fun n => !w.testBit (64 + n) || rs.contains (Fld.ofNat n).reg)

theorem maskIn_spec {rs : List Reg} {w : Nat} (h : maskIn rs w = true) (f : Fld) (hf : f.reg ∉ rs) : w.testBit (64 + f.ctorIdx) = false := by
  have := List.all_eq_true.mp h f.ctorIdx (List.mem_range.mpr f.lt)
  simpa [Fld.ofNat_ctorIdx, hf] using this

theorem Frame.onlyIn {w : Nat} {d e : Dev} {rs : List Reg} (h : Frame w d e) (hw : maskIn rs w = true) : d.OnlyIn e rs :=
  fun f i j hf => h.get f i j (maskIn_spec hw f hf)

theorem Frame.onlyAt {w : Nat} {d e : Dev} {fs : List (Fld × Nat × Nat)} (h : Frame w d e) (hw : maskIn [] w = true) : d.OnlyAt e fs :=
  fun f i j _ => h.get f i j (maskIn_spec hw f (by simp))

theorem Dev.OnlyIn.refl {d : Dev} {rs : List Reg} : d.OnlyIn d rs := fun _ _ _ _ => rfl

theorem Dev.OnlyIn.trans {d e f : Dev} {rs : List Reg} (h : d.OnlyIn e rs) (k : e.OnlyIn f rs) : d.OnlyIn f rs :=
  fun g i j hg => (k g i j hg).trans (h g i j hg)

theorem Dev.OnlyAt.refl {d : Dev} {fs : List (Fld × Nat × Nat)} : d.OnlyAt d fs := fun _ _ _ _ => rfl

theorem Dev.OnlyAt.trans {d e f : Dev} {fs : List (Fld × Nat × Nat)} (h : d.OnlyAt e fs) (k : e.OnlyAt f fs) : d.OnlyAt f fs :=
  fun g i j hg => (k g i j hg).trans (h g i j hg)

/-- Setting a named field. -/
theorem Dev.OnlyAt.put {d e : Dev} {fs : List (Fld × Nat × Nat)} {f : Fld} {v i j : Nat} (h : d.OnlyAt e fs) (hm : (f, i, j) ∈ fs) :
    d.OnlyAt (e.put f v i j) fs := fun g k l hg =>
  (e.get_put_of_ne f g v i j k l (fun x => hg (by obtain ⟨rfl, rfl, rfl⟩ := x; exact hm))).trans (h g k l hg)

/-- A change that sets no register field. -/
theorem Dev.OnlyAt.of_regs {d e f : Dev} {fs : List (Fld × Nat × Nat)} (h : d.OnlyAt e fs) (hr : f.regs = e.regs) : d.OnlyAt f fs :=
  fun g i j hg => by rw [← h g i j hg]; exact congrArg (fun r => cellsGet r g i j) hr

theorem Dev.elapse_onlyAt {d : Dev} {dt : Nat} {fs : List (Fld × Nat × Nat)} : d.OnlyAt (d.elapse dt) fs := fun _ _ _ _ => rfl

@[simp] theorem Dev.get_elapse (d : Dev) (dt : Nat) (f : Fld) (i j : Nat) : (d.elapse dt).get f i j = d.get f i j := rfl

theorem Dev.elapse_onlyIn {d : Dev} {dt : Nat} {rs : List Reg} : d.OnlyIn (d.elapse dt) rs := fun _ _ _ _ => rfl

theorem Dev.elapse_sameMem {d : Dev} {dt : Nat} : d.SameMem (d.elapse dt) := (d.elapse_frame dt).sameMem

/-! ### Folds -/

/-- What every step of a fold keeps, the fold keeps. -/
theorem foldl_keep {ι σ : Type} {P : σ → Prop} {g : σ → ι → σ} {x : σ} (h : P x) (keep : ∀ x b, P x → P (g x b)) (l : List ι) : P (l.foldl g x) := by
  induction l generalizing x with
  | nil => exact h
  | cons b l ih => exact ih (keep x b h)

/-- A fold that meets an element which brings about what every step keeps. -/
theorem foldl_reach {ι σ : Type} {P : σ → Prop} {g : σ → ι → σ} {l : List ι} {a : ι} (ha : a ∈ l) (hit : ∀ x, P (g x a))
    (keep : ∀ x b, P x → P (g x b)) (x : σ) : P (l.foldl g x) := by
  induction l generalizing x with
  | nil => simp at ha
  | cons b l ih =>
    rcases List.mem_cons.mp ha with rfl | ha
    · exact foldl_keep (hit x) keep l
    · exact ih ha _

/-! ### Fields set and read back -/

theorem Dev.get_put_of_lt {d : Dev} {f : Fld} {v i j : Nat} (h : v < 2 ^ f.width) : (d.put f v i j).get f i j = v := by
  rw [Dev.get_put_self, Nat.mod_eq_of_lt h]

theorem Dev.get_raise {d : Dev} {f : Fld} {i j : Nat} (h : 1 < 2 ^ f.width := by decide) : (d.raise f i j).get f i j = 1 :=
  Dev.get_put_of_lt h

/-- Setting a field at one index leaves it at the others. -/
theorem Dev.get_put_inst {d : Dev} {f : Fld} {v i j k l : Nat} (h : k ≠ i) : (d.put f v i j).get f k l = d.get f k l :=
  d.get_put_of_ne _ _ _ _ _ _ _ (fun x => h x.2.1)

/-! ### Flags -/

theorem Dev.flag_true {d : Dev} {f : Fld} {i j : Nat} (h : d.get f i j = 1) : d.flag f i j = true := by rw [Dev.flag, h]; rfl

theorem Dev.flag_false {d : Dev} {f : Fld} {i j : Nat} (h : d.get f i j = 0) : d.flag f i j = false := by rw [Dev.flag, h]; rfl

/-- Function 0 writes when it is not frozen. -/
theorem Dev.byFn_zero {d : Dev} (h : d.frozen 0 = false) (g : Dev → Dev) : d.byFn 0 g = g d := by
  simp [Dev.byFn, Dev.vfOn, h]

/-! ### Bits of a mask -/

theorem hasBit_eq_testBit (x k : Nat) : hasBit x k = x.testBit k := by
  rw [hasBit, Nat.testBit_eq_decide_div_mod_eq, beq_eq_decide]

/-- A mask cut to its width keeps the bits within it. -/
theorem hasBit_mod_two_pow (x : Nat) {k w : Nat} (h : k < w) : hasBit (x % 2 ^ w) k = hasBit x k := by
  simp [hasBit_eq_testBit, Nat.testBit_mod_two_pow, h]

/-- Adding a clear bit changes no higher bit. -/
theorem div_two_pow_add_clear {x k m : Nat} (h : x / 2 ^ k % 2 = 0) (hm : k < m) : (x + 2 ^ k) / 2 ^ m = x / 2 ^ m := by
  obtain ⟨n, rfl⟩ := Nat.exists_eq_add_of_lt hm
  have hp : 2 ^ (k + n + 1) = 2 ^ k * 2 * 2 ^ n := by rw [Nat.add_right_comm, pow_add, pow_succ]
  rw [hp, ← Nat.div_div_eq_div_mul, ← Nat.div_div_eq_div_mul, ← Nat.div_div_eq_div_mul, ← Nat.div_div_eq_div_mul,
    Nat.add_div_right x (Nat.two_pow_pos k)]
  congr 1
  omega

/-- The bits of a mask with one set. -/
theorem hasBit_setBit (x k m : Nat) : hasBit (setBit x k) m = (hasBit x m || m == k) := by
  unfold setBit
  split
  · rename_i h
    by_cases hm : m = k
    · subst hm; simp [h]
    · simp [hm]
  · rename_i h
    have h0 : x / 2 ^ k % 2 = 0 := by simp only [hasBit, beq_iff_eq] at h; omega
    rcases lt_trichotomy m k with hm | rfl | hm
    · rw [Nat.add_comm, hasBit_eq_testBit, hasBit_eq_testBit, Nat.testBit_two_pow_add_gt hm]
      simp [hm.ne]
    · rw [Nat.add_comm, hasBit_eq_testBit, Nat.testBit_two_pow_add_eq, ← hasBit_eq_testBit]
      simp [h]
    · rw [hasBit, div_two_pow_add_clear h0 hm]
      simp [hasBit, hm.ne']

theorem hasBit_clearBit_self (x k : Nat) : hasBit (clearBit x k) k = false := by
  unfold clearBit
  split
  · rename_i h
    have hle : 2 ^ k ≤ x := by
      by_contra hlt
      simp [hasBit, Nat.div_eq_of_lt (Nat.lt_of_not_le hlt)] at h
    rw [hasBit_eq_testBit, ← Nat.sub_add_cancel hle, Nat.add_comm, Nat.testBit_two_pow_add_eq] at h
    rw [hasBit_eq_testBit]
    simpa using h
  · rename_i h
    simpa using h

end Sys2Proof.Machine
end

section
/-! Events of peers (O23). -/

namespace Sys2Proof.Machine
open Sys2Proof

/-! ### Occurrences of event sources (R369, R370) -/

theorem Frame.src {w : Nat} {d e : Dev} (h : Frame w d e) (k : Nat) (hw : w.testBit 12 = false := by decide +kernel) : e.src k = d.src k := by
  rw [Dev.src, h.srcs hw, Dev.src]

/-- A source that is not pending becomes pending at the present instant, with one occurrence (R370). -/
theorem Dev.pendSrc_idle {d : Dev} {s : Nat} (h : d.get .INT_SRC_STAT_PENDING s = 0) :
    (d.pendSrc s).get .INT_SRC_STAT_PENDING s = 1 ∧ (d.pendSrc s).get .INT_SRC_STAT_COUNT s = 1
      ∧ ((d.pendSrc s).src s).first = d.now ∧ ((d.pendSrc s).src s).detail = (d.src s).detail := by
  have hp : d.flag .INT_SRC_STAT_PENDING s = false := Dev.flag_false h
  have hw : Fld.width .INT_SRC_STAT_PENDING = 1 ∧ Fld.width .INT_SRC_STAT_COUNT = 8 := ⟨rfl, rfl⟩
  simp only [Dev.pendSrc, hp]
  simp [hw]

/-- The first occurrence of an enabled source. -/
theorem Dev.occur_idle {d : Dev} {s : Nat} (he : d.get .INT_SRC_CFG_EN s = 1) (hp : d.get .INT_SRC_STAT_PENDING s = 0) :
    (d.occur s).get .INT_SRC_STAT_PENDING s = 1 ∧ (d.occur s).get .INT_SRC_STAT_COUNT s = 1
      ∧ ((d.occur s).src s).first = d.now ∧ ((d.occur s).src s).detail = (d.src s).detail := by
  have hf := d.forwardSrc_frame s
  have hi := Dev.pendSrc_idle (d := d.forwardSrc s) (s := s) ((hf.get _ _ _ rfl).trans hp)
  rw [hf.now rfl, hf.src s] at hi
  simp only [Dev.occur, Dev.flag_true he, if_true]
  split
  · rename_i f _
    have hs := ((d.forwardSrc s).pendSrc s).refreshVec_frame f (((d.forwardSrc s).pendSrc s).src s).vector
    have ht := (((d.forwardSrc s).pendSrc s).refreshVec f (((d.forwardSrc s).pendSrc s).src s).vector).showFlight_frame f
    rwa [ht.get _ _ _ rfl, hs.get _ _ _ rfl, ht.get _ _ _ rfl, hs.get _ _ _ rfl, ht.src, hs.src]
  · exact hi

/-- What the first violation by a peer changes after its cause is shown. -/
def peerFreezeMask : Nat :=
  0x608000000000000000000000000000000000000000000000000000000000000000000000000000000000008000000000000000002000004400000000000000000000030c2014000000000002000000000000000000000000002e009000

/-! ### Messages of peers (R111, R114, R115) -/

/-- A granted message of a peer that is not frozen is taken. -/
theorem Dev.granting_granted {d : Dev} {p cls : Nat} {range : Option (Nat × Nat)} {f : Dev → Dev} (hs : d.inService 46 = true)
    (hp : d.peerFrozen p = false) (hg : d.grantOk p cls range = true) : d.granting p cls range f = f (d.hear p) := by
  have hp' : (d.hear p).peerFrozen p = false := hp
  have hg' : (d.hear p).grantOk p cls range = true := hg
  simp [Dev.granting, Dev.fabricIn, hs, hp', hg']

/-- A message outside every grant freezes the peer. -/
theorem Dev.granting_refused {d : Dev} {p cls : Nat} {range : Option (Nat × Nat)} {f : Dev → Dev} (hs : d.inService 46 = true)
    (hp : d.peerFrozen p = false) (hg : d.grantOk p cls range = false) : d.granting p cls range f = (d.hear p).freezePeer p cls := by
  have hp' : (d.hear p).peerFrozen p = false := hp
  have hg' : (d.hear p).grantOk p cls range = false := hg
  simp [Dev.granting, Dev.fabricIn, hs, hp', hg']

/-- No message is taken while FABRIC is out of service (R37). -/
theorem Dev.granting_out {d : Dev} {p cls : Nat} {range : Option (Nat × Nat)} {f : Dev → Dev} (hs : d.inService 46 = false) :
    d.granting p cls range f = d := by
  simp [Dev.granting, Dev.fabricIn, hs]

/-- A violation by a peer is shown with its kind, and what follows from it changes neither (R115). -/
theorem Dev.freezePeer_shows (d : Dev) (p cls : Nat) (hp : p < 1024) (hc : cls < 256) :
    (d.freezePeer p cls).peerFrozen p = true ∧ (d.freezePeer p cls).get .WIN_PEER_CAUSE_PEER_ID = p
      ∧ (d.freezePeer p cls).get .WIN_PEER_CAUSE_KIND = cls := by
  unfold Dev.freezePeer
  extract_lets first d₁ d₂
  have hd₂ : d₂.peerFrozen p = true ∧ d₂.get .WIN_PEER_CAUSE_PEER_ID = p ∧ d₂.get .WIN_PEER_CAUSE_KIND = cls := by
    have hb : hasBit (setBit (d.get .WIN_PEER_FRZ_FROZEN (p / 32)) (p % 32) % 2 ^ 32) (p % 32) = true := by
      rw [hasBit_mod_two_pow _ (Nat.mod_lt _ (by decide)), hasBit_setBit]; simp
    have hw : Fld.width .WIN_PEER_FRZ_FROZEN = 32 ∧ Fld.width .WIN_PEER_CAUSE_PEER_ID = 10 ∧ Fld.width .WIN_PEER_CAUSE_KIND = 8 :=
      ⟨rfl, rfl, rfl⟩
    simpa [d₂, d₁, Dev.peerFrozen, hw, Nat.mod_eq_of_lt hp, Nat.mod_eq_of_lt hc] using hb
  have keep : ∀ e, Frame peerFreezeMask d₂ e →
      e.peerFrozen p = true ∧ e.get .WIN_PEER_CAUSE_PEER_ID = p ∧ e.get .WIN_PEER_CAUSE_KIND = cls := fun e h => by
    rw [Dev.peerFrozen, h.get .WIN_PEER_FRZ_FROZEN _ _ rfl, h.get .WIN_PEER_CAUSE_PEER_ID _ _ rfl, h.get .WIN_PEER_CAUSE_KIND _ _ rfl]
    exact hd₂
  split
  · refine keep _ (Frame.foldl ?_ fun x n hx => Frame.foldl hx fun y z hy => hy.step' (Dev.partnerAbsent_frame ..) (by decide +kernel))
    exact (Frame.kerf_of rfl ((Dev.record_frame ..).mono (by decide +kernel))).step' (Dev.notSilent_frame ..) (by decide +kernel)
  · exact keep _ Frame.refl

/-- A message of a peer that a slot enables is an occurrence of the slot's source (R377, R380). -/
theorem Dev.find_slot {d : Dev} {p k : Nat} (hk : k < 8) (hen : d.get .INT_PEER_ENABLE k = 1) (hid : d.get .INT_PEER_PEER_ID k = p)
    (hfirst : ∀ i < k, d.get .INT_PEER_ENABLE i = 0 ∨ d.get .INT_PEER_PEER_ID i ≠ p) :
    (List.range 8).find? (fun k => d.flag .INT_PEER_ENABLE k && d.get .INT_PEER_PEER_ID k == p) = some k := by
  refine List.find?_range_eq_some.mpr ⟨by simp [Dev.flag, hen, hid], List.mem_range.mpr hk, fun i hi => ?_⟩
  rcases hfirst i hi with h | h <;> simp [Dev.flag, h]

/-- Settles O23. -/
theorem peerEventArrives : Obligations.PeerEventArrives := by
  refine ⟨?taken, ?refused, ?out⟩
  case taken =>
    intro s dt dev payload k hs hp hg hk hen hid hfirst hcfg hpend
    refine Answers.of_act (show _ = execIrqEvent _ _ _ _ from rfl) ?_
    have hslot := Dev.find_slot (d := (s.dev.elapse dt).hear dev) hk hen hid hfirst
    rw [Dev.granting_granted (d := s.dev.elapse dt) (cls := 6) (range := none) hs hp hg]
    simp only [hslot]
    have hidle : ((s.dev.elapse dt).hear dev).flag .INT_SRC_STAT_PENDING (512 + k) = false := Dev.flag_false hpend
    simp only [hidle, Bool.false_eq_true, if_false]
    generalize hd : ((s.dev.elapse dt).hear dev).setSrc (512 + k) _ = d
    have hf : Frame 0x20001003 s.dev d := by
      rw [← hd]
      exact (((Dev.elapse_frame ..).mono rfl).step' (Dev.hear_frame ..) rfl).step' (Dev.setSrc_frame ..) rfl
    obtain ⟨h₁, h₂, h₃, h₄⟩ := Dev.occur_idle (d := d) (s := 512 + k) (by rw [hf.get _ _ _ rfl, hcfg]) (by rw [hf.get _ _ _ rfl, hpend])
    have ho := d.occur_frame (512 + k)
    refine ⟨h₁, h₂, ?_, ?_, (hf.onlyIn (by decide +kernel)).trans (ho.onlyIn (by decide +kernel)), hf.sameMem.trans ho.sameMem⟩
    · rw [h₃, ← hd]; rfl
    · rw [h₄, ← hd]; simp
  case refused =>
    intro s dt dev payload hs hp hg
    refine Answers.of_act (show _ = execIrqEvent _ _ _ _ from rfl) ?_
    rw [Dev.granting_refused (d := s.dev.elapse dt) (cls := 6) (range := none) hs hp hg]
    obtain ⟨h₁, h₂, h₃⟩ := Dev.freezePeer_shows ((s.dev.elapse dt).hear dev) dev 6 dev.isLt (by decide)
    exact ⟨h₁, h₂, h₃, (Dev.elapse_sameMem.trans (Dev.hear_frame ..).sameMem).trans (Dev.freezePeer_frame ..).sameMem⟩
  case out =>
    intro s dt dev payload hs
    refine Answers.of_act (show _ = execIrqEvent _ _ _ _ from rfl) ?_
    rw [Dev.granting_out (d := s.dev.elapse dt) hs]
    exact ⟨Dev.elapse_onlyAt, Dev.elapse_sameMem⟩

end Sys2Proof.Machine
end

section
/-! Clock requests (O24). -/

namespace Sys2Proof.Machine
open Sys2Proof

/-! ### Relocking (R18) -/

theorem Frame.island {w : Nat} {d e : Dev} (h : Frame w d e) (k : Nat) (hw : w.testBit 16 = false := by decide +kernel) : e.island k = d.island k := by
  rw [Dev.island, h.islands hw, Dev.island]

/-- A clock differing from the one in force begins to relock where no relock is under way. -/
theorem Dev.startRelock_idle {d : Dev} {n : Nat} (hr : d.get .SYS_ISL_STAT_RELOCK n = 0)
    (hf : d.get .SYS_ISL_CFG_FREQ_MHZ n ≠ d.get .SYS_ISL_STAT_FREQ_MHZ n) :
    (d.startRelock n).get .SYS_ISL_STAT_RELOCK n = 1
      ∧ (d.startRelock n).island n = { d.island n with pendingMhz := d.get .SYS_ISL_CFG_FREQ_MHZ n } := by
  have hr' : d.flag .SYS_ISL_STAT_RELOCK n = false := Dev.flag_false hr
  simp only [Dev.startRelock, hr', hf]
  simp [show Fld.width .SYS_ISL_STAT_RELOCK = 1 from rfl]

/-- Outside the boundary window no window ends. -/
theorem Dev.windowEnd_outside {d : Dev} (h : d.get .SYS_LAYER_STAT_STATE ≠ 9) : d.windowEnd = d := by
  simp [Dev.windowEnd, Dev.layerState, h]

/-- A request in range is kept, and an island out of service begins to relock. -/
theorem Dev.requestClock_inRange {d : Dev} {n v : Nat} (hn : n < 34) (hlo : 160 ≤ v % 256) (hhi : v % 256 ≤ 250) :
    d.requestClock n v = if d.flag .SYS_ISL_STAT_IN_SERVICE n then d.put .SYS_ISL_CFG_FREQ_MHZ (v % 256) n
      else (d.put .SYS_ISL_CFG_FREQ_MHZ (v % 256) n).startRelock n := by
  rw [Dev.requestClock, if_neg (by omega), if_neg (by omega)]
  simp [Dev.flag]

theorem Dev.requestClock_outOfRange {d : Dev} {n v : Nat} (hn : n < 34) (h : v % 256 < 160 ∨ 250 < v % 256) :
    d.requestClock n v = d.raise .SYS_ISL_STAT_CFG_REJ n := by
  rw [Dev.requestClock, if_neg (by omega), if_pos h]
  rfl

/-- The device once the clock that an island relocked to is in force (R18). -/
def Dev.clockSet (d : Dev) (n : Nat) : Dev :=
  let f := (d.island n).pendingMhz
  (((d.put .SYS_ISL_STAT_FREQ_MHZ f n).put .SYS_ISL_STAT_VOLT (supplyOf f) n).setIsland n
    { d.island n with pendingMhz := 0, again := false }).lower .SYS_ISL_STAT_RELOCK n

theorem supplyOf_lt (f : Nat) : supplyOf f < 2 ^ Fld.width .SYS_ISL_STAT_VOLT := by
  have hw : Fld.width .SYS_ISL_STAT_VOLT = 8 := rfl
  rw [hw]
  unfold supplyOf
  split_ifs <;> decide

/-- The clock in force and its supply, read back; the requested clock and the layer's state are as before. -/
theorem Dev.clockSet_shows (d : Dev) (n : Nat) (h : (d.island n).pendingMhz < 256) :
    (d.clockSet n).get .SYS_ISL_STAT_FREQ_MHZ n = (d.island n).pendingMhz
      ∧ (d.clockSet n).get .SYS_ISL_STAT_VOLT n = supplyOf (d.island n).pendingMhz
      ∧ (d.clockSet n).get .SYS_ISL_STAT_RELOCK n = 0
      ∧ (d.clockSet n).island n = { d.island n with pendingMhz := 0, again := false } := by
  have hw : Fld.width .SYS_ISL_STAT_FREQ_MHZ = 8 := rfl
  have hv := Nat.mod_eq_of_lt (supplyOf_lt (d.island n).pendingMhz)
  simp [Dev.clockSet, hw, hv, h]

theorem Dev.clockSet_frame (d : Dev) (n : Nat) : Frame 0x103000000000000000000010000 d (d.clockSet n) :=
  ((((Dev.put_frame ..).mono (by decide +kernel)).step' (Dev.put_frame ..) (by decide +kernel)).step' (Dev.setIsland_frame ..) rfl).step'
    (Dev.lower_frame ..) (by decide +kernel)

/-- ISLAND_RELOCK_DONE of an island that relocks. -/
theorem execIslandRelockDone_relocking {s : State} {dt : Nat} {n : Fin 49} {P : Dev → Prop} (h : s.dev.get .SYS_ISL_STAT_RELOCK n = 1)
    (hp : P (if (s.dev.island n).again = true then ((s.dev.elapse dt).clockSet n).startRelock n else (s.dev.elapse dt).clockSet n).windowEnd) :
    Answers (.islandRelockDone dt n) s P := by
  refine Answers.of_act (show _ = execIslandRelockDone _ _ _ from rfl) ?_
  have hf : (s.dev.elapse dt).flag .SYS_ISL_STAT_RELOCK n = true := Dev.flag_true h
  rw [hf, Dev.when_true]
  exact hp

/-- Settles O24: a request is put or rejected, and a relock that ends puts its clock and may begin the next one. -/
theorem clockRequests : Obligations.ClockRequests := by
  refine ⟨?kept, ?relocks, ?rejected, ?done, ?again⟩
  case kept =>
    intro s dt n value h0 hn hlo hhi hs
    refine Answers.of_act (show _ = execSysIslCfgWrite _ _ _ _ from rfl) ?_
    rw [Dev.byFn_zero (d := s.dev.elapse dt) h0, Dev.requestClock_inRange hn hlo hhi, if_pos (show (s.dev.elapse dt).flag .SYS_ISL_STAT_IN_SERVICE n = true from Dev.flag_true hs)]
    refine ⟨Dev.get_put_of_lt (Nat.mod_lt _ (by decide)), Dev.elapse_onlyAt.put (by simp), rfl, fun _ => ⟨rfl, rfl, rfl⟩⟩
  case relocks =>
    intro s dt n value h0 hn hlo hhi hs hd hr
    refine Answers.of_act (show _ = execSysIslCfgWrite _ _ _ _ from rfl) ?_
    have hs' : (s.dev.elapse dt).flag .SYS_ISL_STAT_IN_SERVICE n = false := Dev.flag_false hs
    rw [Dev.byFn_zero (d := s.dev.elapse dt) h0, Dev.requestClock_inRange hn hlo hhi, if_neg (by simp [hs'])]
    have hput : Frame (Fld.bit .SYS_ISL_CFG_FREQ_MHZ) (s.dev.elapse dt) ((s.dev.elapse dt).put .SYS_ISL_CFG_FREQ_MHZ (value.toNat % 256) n) :=
      Dev.put_frame ..
    have hcfg : ((s.dev.elapse dt).put .SYS_ISL_CFG_FREQ_MHZ (value.toNat % 256) n).get .SYS_ISL_CFG_FREQ_MHZ n = value.toNat % 256 :=
      Dev.get_put_of_lt (Nat.mod_lt _ (by decide))
    generalize (s.dev.elapse dt).put .SYS_ISL_CFG_FREQ_MHZ (value.toNat % 256) n = d at hput hcfg ⊢
    have hf : Frame 0x102000000000000000000010000 d (d.startRelock n) := Dev.startRelock_frame ..
    obtain ⟨h₁, h₂⟩ := Dev.startRelock_idle (d := d) (n := n) ((hput.get _ _ _ rfl).trans hr)
      (by rw [hcfg, hput.get _ _ _ rfl]; exact Ne.symm hd)
    refine ⟨(hf.get _ _ _ rfl).trans hcfg, h₁, by rw [h₂, hcfg], ?_, ?_⟩
    · exact Dev.elapse_onlyIn.trans ((hput.onlyIn (by decide +kernel)).trans (hf.onlyIn (by decide +kernel)))
    · exact Dev.elapse_sameMem.trans (hput.sameMem.trans hf.sameMem)
  case rejected =>
    intro s dt n value h0 hn hr
    refine Answers.of_act (show _ = execSysIslCfgWrite _ _ _ _ from rfl) ?_
    rw [Dev.byFn_zero (d := s.dev.elapse dt) h0, Dev.requestClock_outOfRange hn hr]
    exact ⟨Dev.get_raise, Dev.elapse_onlyAt.put (by simp), fun _ => ⟨rfl, rfl, rfl⟩⟩
  case done =>
    intro s dt n hr hm hl ha
    refine execIslandRelockDone_relocking hr ?_
    have hf : Frame 0x103000000000000000000010000 (s.dev.elapse dt) ((s.dev.elapse dt).clockSet n) := Dev.clockSet_frame ..
    obtain ⟨h₁, h₂, h₃, -⟩ := Dev.clockSet_shows (s.dev.elapse dt) n hm
    rw [ha, if_neg (by decide), Dev.windowEnd_outside (by rw [hf.get _ _ _ rfl]; exact hl)]
    exact ⟨h₁, h₂, h₃, Dev.elapse_onlyIn.trans (hf.onlyIn (by decide +kernel)), Dev.elapse_sameMem.trans hf.sameMem⟩
  case again =>
    intro s dt n hr hm hl ha hd
    refine execIslandRelockDone_relocking hr ?_
    have hf : Frame 0x103000000000000000000010000 (s.dev.elapse dt) ((s.dev.elapse dt).clockSet n) := Dev.clockSet_frame ..
    obtain ⟨h₁, -, h₃, h₄⟩ := Dev.clockSet_shows (s.dev.elapse dt) n hm
    generalize (s.dev.elapse dt).clockSet n = d at hf h₁ h₃ h₄ ⊢
    have hcfg : d.get .SYS_ISL_CFG_FREQ_MHZ n = s.dev.get .SYS_ISL_CFG_FREQ_MHZ n := hf.get _ _ _ rfl
    have hg : Frame 0x102000000000000000000010000 d (d.startRelock n) := Dev.startRelock_frame ..
    obtain ⟨k₁, k₂⟩ := Dev.startRelock_idle h₃ (by rw [hcfg, h₁]; exact hd)
    rw [if_pos ha, Dev.windowEnd_outside (by rw [hg.get _ _ _ rfl, hf.get _ _ _ rfl]; exact hl)]
    refine ⟨(hg.get _ _ _ rfl).trans h₁, k₁, by rw [k₂, hcfg], by rw [k₂, h₄], ?_, ?_⟩
    · exact Dev.elapse_onlyIn.trans ((hf.onlyIn (by decide +kernel)).trans (hg.onlyIn (by decide +kernel)))
    · exact Dev.elapse_sameMem.trans (hf.sameMem.trans hg.sameMem)

end Sys2Proof.Machine
end

section
/-! Replicas of device time, and what a unit's fault shows (O25). -/

namespace Sys2Proof.Machine
open Sys2Proof

/-! ### A unit that a fault has taken out (R438) -/

/-- A unit is out of service by a fault and in its self-test. -/
structure Dev.UnitDown (d : Dev) (u : Nat) : Prop where
  service : d.get .MGT_UNIT_IN_SERVICE u = 0
  faulted : (d.island u).faulted = true
  testing : (d.island u).testing = true

theorem Dev.UnitDown.frame {w : Nat} {d e : Dev} {u : Nat} (hf : Frame w d e) (h : d.UnitDown u)
    (hs : w.testBit (64 + Fld.ctorIdx .MGT_UNIT_IN_SERVICE) = false := by decide +kernel) (hi : w.testBit 16 = false := by decide +kernel) : e.UnitDown u :=
  ⟨(hf.get _ _ _ hs).trans h.service, by rw [hf.island u hi]; exact h.faulted, by rw [hf.island u hi]; exact h.testing⟩

/-- A change of an island that keeps its fault and its test. -/
theorem Dev.UnitDown.setIsland {d : Dev} {u : Nat} (h : d.UnitDown u) (n : Nat) {x : Island} (hf : x.faulted = (d.island n).faulted)
    (ht : x.testing = (d.island n).testing) : (d.setIsland n x).UnitDown u := by
  by_cases hn : u = n
  · subst hn
    exact ⟨h.service, by simpa [hf] using h.faulted, by simpa [ht] using h.testing⟩
  · exact ⟨h.service, by simpa [hn] using h.faulted, by simpa [hn] using h.testing⟩

theorem Dev.UnitDown.startRelock {d : Dev} {u : Nat} (h : d.UnitDown u) (n : Nat) : (d.startRelock n).UnitDown u := by
  unfold Dev.startRelock
  simp only []
  split_ifs
  · exact h.setIsland n rfl rfl
  · exact h
  · exact .frame (Dev.raise_frame ..) (.setIsland (.frame (Dev.put_frame ..) h) n rfl rfl)

theorem Dev.UnitDown.foldl {ι : Type} {d : Dev} {u : Nat} {l : List ι} {g : Dev → ι → Dev} (h : d.UnitDown u)
    (hg : ∀ x a, x.UnitDown u → (g x a).UnitDown u) : (l.foldl g d).UnitDown u :=
  foldl_keep (P := (Dev.UnitDown · u)) h hg l

/-- No unit comes back into service when another, or the same, is put out. -/
theorem Dev.UnitDown.setService {d : Dev} {u : Nat} (h : d.UnitDown u) (v : Nat) : (d.setService v false).UnitDown u := by
  have h₁ : (d.putB .MGT_UNIT_IN_SERVICE false v).UnitDown u := by
    refine ⟨?_, h.faulted, h.testing⟩
    by_cases hv : u = v
    · subst hv; exact Dev.get_put_of_lt (by decide)
    · exact (Dev.get_put_inst hv).trans h.service
  unfold Dev.setService
  simp only [Bool.false_eq_true, if_false, and_true]
  generalize d.putB .MGT_UNIT_IN_SERVICE false v = e at h₁ ⊢
  have h₂ : (e.putB .SYS_ISL_STAT_IN_SERVICE false v).UnitDown u := .frame (Dev.putB_frame ..) h₁
  generalize e.putB .SYS_ISL_STAT_IN_SERVICE false v = f at h₂ ⊢
  have h₃ := h₂.setIsland v (x := { f.island v with resync := true }) rfl rfl
  generalize f.setIsland v _ = g at h₃ ⊢
  have h₄ : ({ g.put .WIN_MOVER_STAT_BUSY 0 with movers := [] } : Dev).UnitDown u :=
    .frame (Frame.movers_of (w := 0x800) rfl (fun _ => rfl) Frame.refl) (.frame (Dev.put_frame ..) h₃)
  split_ifs
  · exact .startRelock (.frame (Dev.put_frame ..) h₃) v
  · exact .frame (Dev.putB_frame ..) h₃
  · exact .foldl h₄ fun _ _ hx => .frame (Dev.setFn_frame ..) hx
  · exact h₄
  · exact h₃
  · exact .frame (Dev.putB_frame ..) h₁

/-! ### Requests for cover put no unit in (R421 to R423) -/

theorem Dev.UnitDown.serveReq {d : Dev} {u : Nat} (h : d.UnitDown u) (r : CalReq) : (d.serveReq r).UnitDown u := by
  have hdrop : ({ d with cal := { d.cal with waiting := d.cal.waiting.erase r } } : Dev).UnitDown u :=
    .frame (Frame.cal_of (w := 0x200000) rfl Frame.refl) h
  have hstart : ∀ {x : Dev}, x.UnitDown u → (x.startCal r).UnitDown u := fun {x} hx =>
    .frame (Frame.cal_of (w := 0x200000) rfl Frame.refl) (.setService (.frame (x.unbind_frame r.unit) hx) r.unit)
  unfold Dev.serveReq
  simp only []
  split
  · split
    · exact hdrop
    · exact hstart hdrop
  · split
    · exact .frame (Dev.setCover_frame ..) hdrop
    · split
      · exact hstart hdrop
      · exact h

theorem Dev.UnitDown.pumpCal {d : Dev} {u : Nat} (h : d.UnitDown u) : d.pumpCal.UnitDown u :=
  .frame (Dev.showCal_frame ..) (.foldl h fun _ r hx => hx.serveReq r)

theorem Dev.UnitDown.coverFault {d : Dev} {u : Nat} (h : d.UnitDown u) (v : Nat) : (d.coverFault v).UnitDown u := by
  unfold Dev.coverFault
  simp only []
  split
  · exact .foldl (.frame (Dev.setCover_frame ..) h) fun _ _ hx => .frame (Dev.complete_frame ..) hx
  · refine .pumpCal (.frame (Dev.askCover_frame ..) (.foldl ?_ fun _ _ hx => .frame (Dev.complete_frame ..) hx))
    exact .frame (Frame.cal_of (w := 0x200000) rfl Frame.refl) h

/-- A unit that covers no other takes only its own calibrations with it (R426). -/
theorem Dev.calFault_own {d : Dev} {u : Nat} (h32 : u ≠ 32) (h33 : u ≠ 33) (h81 : u ≠ 81) (h82 : u ≠ 82) :
    d.calFault u = d.endCals u 0x03f8 := by
  simp [Dev.calFault, h32, h33, h81, h82]

/-! ### The fault (R438) -/

/-- What a change of service touches beside the unit's own register. -/
def serviceMask : Nat :=
  0x800000000000000000000000000000000000000000000000000000000000000000000000000000000000000000000002000000000000000000000000000000000000100000000001000000000000000000106000000000000000000010c00

/-- Beside the unit's own register, a change of service touches no unit's. -/
theorem Dev.setService_after (d : Dev) (u : Nat) (on : Bool) :
    Frame serviceMask (d.putB .MGT_UNIT_IN_SERVICE on u) (d.setService u on) := by
  unfold Dev.setService
  simp only []
  generalize d.putB .MGT_UNIT_IN_SERVICE on u = e
  refine Frame.ite ?island ((Dev.putB_frame ..).mono (by decide +kernel))
  have hin : Frame serviceMask e (e.putB .SYS_ISL_STAT_IN_SERVICE on u) := (Dev.putB_frame ..).mono (by decide +kernel)
  have hisl := Frame.ite (c := on = true) hin (hin.step' (Dev.setIsland_frame _ u
    { (e.putB .SYS_ISL_STAT_IN_SERVICE on u).island u with resync := true }) (by decide +kernel))
  generalize (if on = true then _ else _ : Dev) = g at hisl ⊢
  have hmov : Frame serviceMask e { g.put .WIN_MOVER_STAT_BUSY 0 with movers := [] } :=
    Frame.movers_of (by decide +kernel) (fun _ => rfl) (hisl.step' (Dev.put_frame ..) (by decide +kernel))
  exact .ite ((hisl.step' (Dev.put_frame ..) (by decide +kernel)).step' (Dev.startRelock_frame ..) (by decide +kernel))
    (.ite (hisl.step' (Dev.putB_frame ..) (by decide +kernel))
      (.ite (.ite (.foldl hmov fun _ _ hx => hx.step' (Dev.setFn_frame ..) (by decide +kernel)) hmov) hisl))

/-- A unit that goes out by a fault is down. -/
theorem Dev.unitOut_down (d : Dev) (u status : Nat) (h32 : u ≠ 32) (h33 : u ≠ 33) (h81 : u ≠ 81) (h82 : u ≠ 82) :
    (d.unitOut u status true).UnitDown u := by
  have hservice : ∀ x : Dev, (x.setService u false).get .MGT_UNIT_IN_SERVICE u = 0 := fun x =>
    ((x.setService_after u false).get _ _ _ (by decide +kernel)).trans (Dev.get_put_of_lt (by decide))
  have hlast : ∀ z : Dev, z.UnitDown u →
      (if u < 34 ∧ (z.coverOf u).isNone = true then z.put .ENG_STAT_BOUND_CH 63 u else z).UnitDown u := fun z hz => by
    split
    · exact .frame (Dev.put_frame ..) hz
    · exact hz
  unfold Dev.unitOut
  simp only [Dev.calFault_own h32 h33 h81 h82]
  generalize (if u < 34 then _ else _ : Dev) = x
  have h₁ : (((x.setService u false).endUnitJobs u status).setIsland u { ((x.setService u false).endUnitJobs u status).island u with
      faulted := true, testing := true, bistOk := true }).UnitDown u :=
    ⟨((Dev.endUnitJobs_frame ..).get _ _ _ (by decide +kernel)).trans (hservice x), by simp, by simp⟩
  generalize ((x.setService u false).endUnitJobs u status).setIsland u _ = y at h₁ ⊢
  have h₂ : (y.endCals u 0x03f8).UnitDown u := .frame (Dev.endCals_frame ..) h₁
  split
  · exact hlast _ (.coverFault h₂ u)
  · exact hlast _ h₂

/-- What a fault touches after its count and its report. -/
def faultMask : Nat :=
  0x900200000038000000080060880001008040000000000000000001de0000004001080000000807800000000000000000000400000000000000f8000040023c400000c4000000001108000c0300030c201410003680008a000000410600000000000002e3af639d30

/-- What a fault touches once its unit is out. -/
def faultEndMask : Nat :=
  0x20000000000000000006088000100800000000000000000000000000000000108000000080780000000000000000000000000000000000040000000023c4000000000000000110800000000030c201400000000008a00000000000000000000000203af029500

/-- What the fault of a unit shows (R438, R441). -/
theorem Dev.unitFault_taken {d : Dev} {u kind : Nat} (cause status : Nat) (hu : d.mayFault u) (hw : u < 128) (hk : kind < 16) :
    d.FaultTaken (d.unitFault u cause kind status) u kind := by
  obtain ⟨hf, h32, h33, h81, h82⟩ := hu
  have hend : ∀ x y : Dev, Frame faultMask x y → x.get .MGT_UNIT_FAULTS u = min (d.get .MGT_UNIT_FAULTS u + 1) (2 ^ 16 - 1) →
      x.get .MGT_LAST_UNIT = u → x.get .MGT_LAST_KIND = kind → y.UnitDown u → d.FaultTaken y u kind := fun x y hxy hc hl hlk hy =>
    ⟨hy.service, hy.faulted, hy.testing, (hxy.get _ _ _ (by decide +kernel)).trans hc, (hxy.get _ _ _ (by decide +kernel)).trans hl,
      (hxy.get _ _ _ (by decide +kernel)).trans hlk⟩
  unfold Dev.unitFault
  simp only [hf, Bool.false_eq_true, if_false]
  have hc : (((d.bump .MGT_UNIT_FAULTS 1 u).put .MGT_LAST_UNIT u).put .MGT_LAST_KIND kind).get .MGT_UNIT_FAULTS u
      = min (d.get .MGT_UNIT_FAULTS u + 1) (2 ^ 16 - 1) := by
    have hw : Fld.width .MGT_UNIT_FAULTS = 16 := rfl
    simp only [ne_eq, reduceCtorEq, not_false_eq_true, Dev.get_put_ne, Dev.get_bump_self, hw, satAdd]
    omega
  have hl : (((d.bump .MGT_UNIT_FAULTS 1 u).put .MGT_LAST_UNIT u).put .MGT_LAST_KIND kind).get .MGT_LAST_UNIT = u := by
    rw [Dev.get_put_ne _ _ _ _ _ _ _ _ (by decide)]
    exact Dev.get_put_of_lt hw
  have hlk : (((d.bump .MGT_UNIT_FAULTS 1 u).put .MGT_LAST_UNIT u).put .MGT_LAST_KIND kind).get .MGT_LAST_KIND = kind :=
    Dev.get_put_of_lt hk
  generalize ((d.bump .MGT_UNIT_FAULTS 1 u).put .MGT_LAST_UNIT u).put .MGT_LAST_KIND kind = e at hc hl hlk ⊢
  have hrec : Frame faultMask e (if kind = 0 then e.record 0x0d01 4 (recSource 48 63) u cause else e.record 0x0d02 4 (recSource 48 63) u kind) :=
    .ite ((Dev.record_frame ..).mono (by decide +kernel)) ((Dev.record_frame ..).mono (by decide +kernel))
  generalize (if kind = 0 then _ else _ : Dev) = r at hrec ⊢
  have hout := (hrec.step' (Dev.occur_frame _ 451) (by decide +kernel)).step' (Dev.unitOut_frame _ u status true) (by decide +kernel)
  have hdown := (r.occur 451).unitOut_down u status h32 h33 h81 h82
  generalize (r.occur 451).unitOut u status true = o at hout hdown ⊢
  have hslice : Frame faultEndMask o (if 49 ≤ u then o.raise .MPL_SLICE_STAT_FAULT (u - 49) else o) :=
    .ite ((Dev.raise_frame ..).mono (by decide +kernel)) .refl
  have hdegr := Frame.ite (c := u = 48) (hslice.step' (Dev.degrade_frame _ []) (by decide +kernel)) hslice
  have hz := fun c : Bool => Frame.ite (c := c = true) hdegr (hdegr.step' (Dev.hingeFail_frame _ (if kind = 9 then 4 else 3)) (by decide +kernel))
  exact hend _ _ (hout.step' (hz _) (by decide +kernel)) hc hl hlk (.frame (hz _) hdown)

/-! ### The dowel pulse (R26 to R30, R38) -/

/-- What a pulse brings before it reaches the islands: freeze notices still to go out, adjusted master time, trimmed delays. -/
def Dev.dowelStart (d : Dev) : Dev :=
  ((List.range 8).foldl (fun d f => if d.frozen f then d.noticeFreeze f else d) d).timeDowel.trimDowel

/-- What the start of a pulse touches. -/
def dowelStartMask : Nat :=
  0x200c0000000000000006080000000000000000000f00080000002000000400008000000000200000000000000000020040000000000000000000000023c4000004000000000150800080100030c201400000000008a000000000000000000000000ffae229501

theorem Dev.dowelStart_frame (d : Dev) : Frame dowelStartMask d d.dowelStart :=
  ((Frame.foldl .refl fun _ _ hx => .ite (hx.step' (Dev.noticeFreeze_frame ..) (by decide +kernel)) hx).step' (Dev.timeDowel_frame ..)
    (by decide +kernel)).step' (Dev.trimDowel_frame ..) (by decide +kernel)

/-- An island measures the offset of a pulse and corrects its replica. -/
def Dev.measureDowel (d : Dev) (n : Nat) (off : Int) : Dev :=
  let d := d.put .SYS_ISL_TOFS_OFFSET (satS 16 off) n
  let d := d.put .SYS_ISL_TOFS_PEAK (max (d.get .SYS_ISL_TOFS_PEAK n) (min off.natAbs 255)) n
  d.correctReplica n

theorem Dev.takeDowel_near {d : Dev} {n : Nat} {off : Int} (h : off.natAbs ≤ 128) : d.takeDowel n off =
    ((d.measureDowel n off).setIsland n { (d.measureDowel n off).island n with
      resync := ((d.measureDowel n off).island n).resync && !(d.measureDowel n off).flag .SYS_ISL_STAT_IN_SERVICE n }).lower
        .SYS_ISL_STAT_HOLDOVER n := if_pos h

theorem Dev.takeDowel_far {d : Dev} {n : Nat} {off : Int} (h : ¬ off.natAbs ≤ 128) (hr : ((d.measureDowel n off).island n).resync = false) :
    d.takeDowel n off = ((d.measureDowel n off).raise .SYS_ISL_STAT_REPLICA_ERR n).unitFault n 3 0 :=
  (if_neg h).trans (if_neg (ne_true_of_eq_false hr))

theorem Dev.measureDowel_frame (d : Dev) (n : Nat) (off : Int) :
    Frame 0x600000000000000000000010008 d (d.measureDowel n off) :=
  (((Dev.put_frame ..).mono (by decide +kernel)).step' (Dev.put_frame ..) (by decide +kernel)).step' (Dev.correctReplica_frame ..) (by decide +kernel)

/-- Corrected, an island keeps its flags and has its pulse at the present instant. -/
theorem Dev.measureDowel_island (d : Dev) (n : Nat) (off : Int) :
    ((d.measureDowel n off).island n).lastDowel = d.run ∧ ((d.measureDowel n off).island n).resync = (d.island n).resync
      ∧ ((d.measureDowel n off).island n).faulted = (d.island n).faulted := by
  have hi : ∀ e : Dev, e.freeNext.island n = e.island n := fun _ => rfl
  simp [Dev.measureDowel, Dev.correctReplica, hi]

/-- A small number written as sixteen bits reads back. -/
theorem sInt_satS_of_near {x : Int} (h : x.natAbs ≤ 128) : sInt 16 (satS 16 x % 2 ^ 16) = x := by
  simp only [satS, clampI, uInt, sInt]
  omega

/-- The offset of a pulse and its peak read back (R27). -/
theorem Dev.measureDowel_shows {d : Dev} {n : Nat} {off : Int} (h : off.natAbs ≤ 128) :
    (d.measureDowel n off).gets .SYS_ISL_TOFS_OFFSET n = off
      ∧ (d.measureDowel n off).get .SYS_ISL_TOFS_PEAK n = max (d.get .SYS_ISL_TOFS_PEAK n) off.natAbs % 256 := by
  have hget : ∀ (e : Dev) (f : Fld) (i j : Nat), (e.correctReplica n).get f i j = e.get f i j := fun e f i j => rfl
  have hw : Fld.width .SYS_ISL_TOFS_OFFSET = 16 ∧ Fld.width .SYS_ISL_TOFS_PEAK = 8 := ⟨rfl, rfl⟩
  have hm : min off.natAbs 255 = off.natAbs := by omega
  simp [Dev.measureDowel, Dev.gets, hget, hw, hm]
  exact sInt_satS_of_near h

/-- A pulse that one island receives. -/
theorem execDowelPulse_one {s : State} {dt : Nat} {n : Fin 49} {off : Int} {P : Dev → Prop} (ht : (s.dev.now + dt) % qUs = 0)
    (hs : s.dev.get .SYS_ISL_STAT_IN_SERVICE 45 = 1) (hp : P ((s.dev.elapse dt).dowelStart.takeDowel n off)) :
    Answers (.dowelPulse dt [(n, off)]) s P := by
  refine Answers.of_act (show _ = execDowelPulse _ _ _ from rfl) ?_
  have hf : (s.dev.elapse dt).flag .SYS_ISL_STAT_IN_SERVICE 45 = true := Dev.flag_true hs
  rw [hf, Dev.elapse_now, ht]
  exact hp

/-- Settles O25: the pulse is measured first, and a fault, of a late island or of the sender on a bridge, then shows as R438 says. -/
theorem dowelsAndBridges : Obligations.DowelsAndBridges := by
  refine ⟨?near, ?far, ?holdover, ?bridge⟩
  case near =>
    intro s dt n off ht hs hlo hhi
    refine execDowelPulse_one ht hs ?_
    have h0 := (s.dev.elapse dt).dowelStart_frame
    generalize (s.dev.elapse dt).dowelStart = d at h0 ⊢
    have hoff : off.natAbs ≤ 128 := by omega
    have hm := d.measureDowel_frame n off
    obtain ⟨h₁, h₂⟩ := Dev.measureDowel_shows (d := d) (n := n) hoff
    obtain ⟨h₃, h₄, -⟩ := d.measureDowel_island n off
    rw [Dev.takeDowel_near hoff]
    generalize d.measureDowel n off = e at hm h₁ h₂ h₃ h₄ ⊢
    have hl : Frame (Fld.bit .SYS_ISL_STAT_HOLDOVER ||| 0x10000) e ((e.setIsland n { e.island n with
        resync := (e.island n).resync && !e.flag .SYS_ISL_STAT_IN_SERVICE n }).lower .SYS_ISL_STAT_HOLDOVER n) :=
      ((Dev.setIsland_frame ..).mono (by decide +kernel)).step' (Dev.lower_frame ..) (by decide +kernel)
    refine ⟨?_, Dev.get_lower_self .., ?_, ?_, fun hin => ?_, ?_⟩
    · rw [Dev.gets, hl.get _ _ _ (by decide +kernel)]; exact h₁
    · rw [hl.get _ _ _ (by decide +kernel), h₂, h0.get _ _ _ (by decide +kernel), Dev.get_elapse]
    · simp [h₃, h0.run (by decide +kernel)]
    · have hin' : e.flag .SYS_ISL_STAT_IN_SERVICE n = true :=
        Dev.flag_true (by rw [hm.get _ _ _ (by decide +kernel), h0.get _ _ _ (by decide +kernel)]; exact hin)
      simp [hin']
    · exact (Dev.elapse_sameMem.trans h0.sameMem).trans (hm.sameMem.trans hl.sameMem)
  case far =>
    intro s dt n off ht hs hoff hr hu
    refine execDowelPulse_one ht hs ?_
    have h0 := (s.dev.elapse dt).dowelStart_frame
    generalize (s.dev.elapse dt).dowelStart = d at h0 ⊢
    have hm := d.measureDowel_frame n off
    obtain ⟨-, h₁, h₂⟩ := d.measureDowel_island n off
    rw [h0.island n (by decide +kernel)] at h₁ h₂
    rw [Dev.takeDowel_far (by omega) (h₁.trans hr)]
    generalize d.measureDowel n off = e at hm h₁ h₂ ⊢
    have hc : (e.raise .SYS_ISL_STAT_REPLICA_ERR n).get .MGT_UNIT_FAULTS n = s.dev.get .MGT_UNIT_FAULTS n := by
      rw [Dev.get_raise_ne _ _ _ _ _ _ _ (by decide), hm.get _ _ _ (by decide +kernel), h0.get _ _ _ (by decide +kernel), Dev.get_elapse]
    refine ⟨((Dev.unitFault_frame ..).get _ _ _ (by decide +kernel)).trans Dev.get_raise, ?_⟩
    have ht := Dev.unitFault_taken (d := e.raise .SYS_ISL_STAT_REPLICA_ERR n) (u := n) (kind := 0) 3 0x0503 ⟨h₂.trans hu.1, hu.2⟩ (by omega) (by decide)
    rwa [Dev.FaultTaken, hc] at ht
  case holdover =>
    intro s dt n h
    refine Answers.of_act (show _ = execHoldoverEntry _ _ _ from rfl) ?_
    have hc : (decide (((s.dev.elapse dt).island n).lastDowel + 3 * qUs ≤ (s.dev.elapse dt).run)
        || !(s.dev.elapse dt).flag .SYS_ISL_STAT_IN_SERVICE 45) = true := by
      rcases h with h | h
      · rw [Bool.or_eq_true]; exact Or.inl (decide_eq_true h)
      · have hf : (s.dev.elapse dt).flag .SYS_ISL_STAT_IN_SERVICE 45 = false := Dev.flag_false h
        simp [hf]
    rw [hc, Dev.when_true]
    exact ⟨Dev.get_raise, Dev.elapse_onlyAt.put (by simp), fun _ => ⟨rfl, rfl, rfl⟩⟩
  case bridge =>
    intro s dt recv send hu
    refine Answers.of_act (show _ = execBridgeErr _ _ _ _ from rfl) ?_
    refine ⟨((Dev.unitFault_frame ..).get _ _ _ (by decide +kernel)).trans Dev.get_raise, ?_⟩
    have hc : ((s.dev.elapse dt).raise .SYS_ISL_STAT_BRIDGE_ERR recv).get .MGT_UNIT_FAULTS send = s.dev.get .MGT_UNIT_FAULTS send :=
      Dev.get_raise_ne _ _ _ _ _ _ _ (by decide)
    have ht := Dev.unitFault_taken (d := (s.dev.elapse dt).raise .SYS_ISL_STAT_BRIDGE_ERR recv) (u := send) (kind := 0) 2 0x0503 hu
      (by omega) (by decide)
    rwa [Dev.FaultTaken, hc] at ht

end Sys2Proof.Machine
end

section
/-! What the recorder's queue takes (R387). -/

namespace Sys2Proof.Machine
open Sys2Proof

/-- A record of severity `sev` enters the queue: the log is not degraded, and the queue has room or a record of lower severity. -/
structure Dev.Accepts (d : Dev) (sev : Nat) : Prop where
  intact : d.get .REC_STAT_LOG_DEGRADED = 0
  room : d.recorder.queue.length < 256 ∨ ∃ r ∈ d.recorder.queue, r.sev < sev

theorem Dev.logs.accepts {d : Dev} (h : d.logs) (sev : Nat) : d.Accepts sev := ⟨h.1, .inl h.2⟩

theorem Dev.Accepts.frame {w : Nat} {d e : Dev} {sev : Nat} (hf : Frame w d e) (h : d.Accepts sev)
    (hl : w.testBit (64 + Fld.ctorIdx .REC_STAT_LOG_DEGRADED) = false := by decide +kernel) (hr : w.testBit 15 = false := by decide +kernel) : e.Accepts sev :=
  ⟨(hf.get _ _ _ hl).trans h.intact, by rw [hf.recorder hr]; exact h.room⟩

theorem Dev.logs.frame {w : Nat} {d e : Dev} (hf : Frame w d e) (h : d.logs)
    (hl : w.testBit (64 + Fld.ctorIdx .REC_STAT_LOG_DEGRADED) = false := by decide +kernel) (hr : w.testBit 15 = false := by decide +kernel) : e.logs :=
  ⟨(hf.get _ _ _ hl).trans h.1, by rw [hf.recorder hr]; exact h.2⟩

theorem Dev.Recorded.frame {w : Nat} {d e : Dev} {code sev : Nat} (hf : Frame w d e) (h : d.Recorded code sev)
    (hr : w.testBit 15 = false := by decide +kernel) : e.Recorded code sev := by unfold Dev.Recorded; rw [hf.recorder hr]; exact h

/-- The lowest severity of a queue is at most that of each of its records. -/
theorem foldl_min_sev_le (q : List Rec) (m : Nat) : q.foldl (fun m x => min m x.sev) m ≤ m ∧ ∀ r ∈ q, q.foldl (fun m x => min m x.sev) m ≤ r.sev := by
  induction q generalizing m with
  | nil => simp
  | cons x q ih =>
    obtain ⟨h₁, h₂⟩ := ih (min m x.sev)
    simp only [List.foldl_cons, List.mem_cons, forall_eq_or_imp]
    exact ⟨by omega, by omega, h₂⟩

@[simp] theorem Dev.countDrop_recorder (d : Dev) (sev : Nat) : (d.countDrop sev).recorder = d.recorder := by
  unfold Dev.countDrop; split <;> rfl

/-- A record at the queue: it enters, or the full queue stays as it is and holds no record of lower severity. -/
theorem Dev.queueRec_cases (d : Dev) (r : Rec) : r ∈ (d.queueRec r).recorder.queue
    ∨ (d.queueRec r).recorder.queue = d.recorder.queue ∧ 256 ≤ d.recorder.queue.length ∧ ∀ x ∈ d.recorder.queue, r.sev ≤ x.sev := by
  unfold Dev.queueRec
  simp only [Dev.put_recorder]
  split_ifs with hr hl
  · exact .inl (by simp)
  · exact .inl (by simp)
  · refine .inr ⟨by simp, by omega, fun x hx => ?_⟩
    have := (foldl_min_sev_le d.recorder.queue 7).2 x hx
    omega

theorem Dev.queueRec_accepted {d : Dev} {r : Rec} (h : d.Accepts r.sev) : r ∈ (d.queueRec r).recorder.queue := by
  refine (d.queueRec_cases r).resolve_right fun ⟨_, hfull, hlow⟩ => ?_
  rcases h.room with hr | ⟨x, hx, hs⟩
  · omega
  · exact absurd (hlow x hx) (by omega)

@[simp] theorem Dev.mirrorRec_queue (d : Dev) (w : Nat) : (d.mirrorRec w).recorder.queue = d.recorder.queue := by
  unfold Dev.mirrorRec
  simp only []
  rw [(Dev.occur_frame _ _).recorder rfl]
  split <;> rfl

/-- The queue and the state of the log after a record. -/
theorem Dev.record_queue {d : Dev} (h : d.get .REC_STAT_LOG_DEGRADED = 0) (code sev source p0 p1 p2 p3 : Nat) :
    ∃ r : Rec, r.code = code ∧ r.sev = sev ∧ (d.record code sev source p0 p1 p2 p3).recorder.queue = (d.queueRec r).recorder.queue := by
  refine ⟨{ code := code, sev := sev, source := source, opSec := d.opTime / qSec, pcyc := d.get .REC_PCYC_PCYC,
            subsec := d.opTime % qSec * 256 / qSec, p0 := p0, p1 := p1, p2 := p2, p3 := p3 }, rfl, rfl, ?_⟩
  unfold Dev.record
  simp only [Dev.flag_false h, Bool.false_eq_true, if_false]
  split
  · exact Dev.mirrorRec_queue ..
  · rfl

theorem Dev.Accepts.recorded {d : Dev} {code sev : Nat} (h : d.Accepts sev) (source : Nat) (p0 p1 p2 p3 : Nat) :
    (d.record code sev source p0 p1 p2 p3).Recorded code sev := by
  obtain ⟨r, rfl, rfl, hq⟩ := Dev.record_queue h.intact code sev source p0 p1 p2 p3
  exact ⟨r, by rw [hq]; exact Dev.queueRec_accepted h, rfl, rfl⟩

/-- A record of lower severity leaves the queue ready for one of a higher. -/
theorem Dev.Accepts.record {d : Dev} {sev s' : Nat} (h : d.Accepts sev) (hs : s' < sev) (code source : Nat) (p0 p1 p2 p3 : Nat) :
    (d.record code s' source p0 p1 p2 p3).Accepts sev := by
  refine ⟨((Dev.record_frame ..).get _ _ _ (by decide +kernel)).trans h.intact, ?_⟩
  obtain ⟨r, -, rfl, hq⟩ := Dev.record_queue h.intact code s' source p0 p1 p2 p3
  rw [hq]
  rcases d.queueRec_cases r with hr | ⟨hr, -, -⟩
  · exact .inr ⟨r, hr, hs⟩
  · rw [hr]; exact h.room

theorem Dev.Accepts.ite {d e : Dev} {sev : Nat} {c : Prop} [Decidable c] (h : d.Accepts sev) (k : e.Accepts sev) :
    (if c then d else e).Accepts sev := by split <;> assumption

theorem Dev.Accepts.foldl {ι : Type} {d : Dev} {sev : Nat} {l : List ι} {g : Dev → ι → Dev} (h : d.Accepts sev)
    (hg : ∀ x a, x.Accepts sev → (g x a).Accepts sev) : (l.foldl g d).Accepts sev :=
  foldl_keep (P := (Dev.Accepts · sev)) h hg l

end Sys2Proof.Machine
end

section
/-! The safety inputs (O30). -/

namespace Sys2Proof.Machine
open Sys2Proof

/-! ### GAS_OK (R35, R171) -/

/-- The gas hold of one engine is what its own requests and the pin give; that of others stays. -/
theorem Dev.showGas_holds {d : Dev} (n : Nat) {k : Nat} (hg : d.pins.gasOk = false) (hw : (d.waitingReq k).isSome)
    (h : k = n ∨ d.get .ENG_GATE_STAT_GAS_HOLD k = 1) : (d.showGas n).get .ENG_GATE_STAT_GAS_HOLD k = 1 := by
  by_cases hk : k = n
  · subst hk
    simp only [Dev.showGas, hg, Option.isNone_eq_false_iff.mpr hw, Bool.false_eq_true, if_false]
    exact Dev.get_raise
  · have := h.resolve_left hk
    unfold Dev.showGas
    split_ifs
    · exact (Dev.get_put_inst hk).trans this
    · exact this
    · exact (Dev.get_put_inst hk).trans this

/-- KERF_ENG_STAT brought up to date with GAS_OK low: every engine named, or held before, whose request waits is held. -/
theorem Dev.showKerf_holds {d : Dev} (n : Nat) {k : Nat} (hg : d.pins.gasOk = false) (hw : (d.waitingReq k).isSome)
    (h : k = n ∨ d.get .ENG_GATE_STAT_GAS_HOLD k = 1) : (d.showKerf n).get .ENG_GATE_STAT_GAS_HOLD k = 1 := by
  have hs : ((d.put .KRF_STAT_STARVING (d.kerf.reqs.filter (fun r => r.starving && r.waits)).length).showGas n).get .ENG_GATE_STAT_GAS_HOLD k = 1 :=
    Dev.showGas_holds n hg hw (h.imp_right (by simp))
  unfold Dev.showKerf
  generalize Dev.showGas _ n = e at hs ⊢
  simp only []
  split
  · simpa using hs
  · simpa using hs

/-- The engines of a list of waiting requests shown with GAS_OK low. -/
theorem Dev.showReqs_holds (l : List KReq) (d : Dev) (hg : d.pins.gasOk = false) {k : Nat} (hw : (d.waitingReq k).isSome)
    (h : k ∈ l.map KReq.eng ∨ d.get .ENG_GATE_STAT_GAS_HOLD k = 1) :
    (l.foldl (fun d r => (d.showKerf r.eng).showState r.eng) d).get .ENG_GATE_STAT_GAS_HOLD k = 1 := by
  induction l generalizing d with
  | nil => exact h.resolve_left (by simp)
  | cons r l ih =>
    have hf := ((Dev.showKerf_frame d r.eng).mono (w := 0x23c4000000000000000010000000100000000000000000000000000000000000000000000000000000000) (by decide +kernel)).step'
      (Dev.showState_frame (d.showKerf r.eng) r.eng) (by decide +kernel)
    rw [List.foldl_cons]
    refine ih _ (by rw [hf.pins rfl]; exact hg) (by unfold Dev.waitingReq; rw [hf.kerf rfl]; exact hw) ?_
    by_cases hl : k ∈ l.map KReq.eng
    · exact .inl hl
    · refine .inr (((Dev.showState_frame _ _).get _ _ _ (by decide +kernel)).trans (Dev.showKerf_holds _ hg hw (h.imp_left fun hk => ?_)))
      simpa [hl] using hk

theorem execGasOkLow_shows (s : State) (dt : Nat) :
    Answers (.gasOkLow dt) s (fun e => e.pins.gasOk = false
        ∧ (∀ r ∈ s.dev.kerf.reqs, r.waits = true → e.get .ENG_GATE_STAT_GAS_HOLD r.eng = 1)
        ∧ e.get .KRF_STAT_GAS_BLOCK = 1 ∧ s.dev.OnlyIn e [.ENG_GATE_STAT, .ENG_STAT, .KRF_STAT, .KRF_ENG_STAT, .KRF_CNT_B] ∧ e.kerf = s.dev.kerf ∧ s.dev.SameMem e) := by
  have hf := execGasOkLow_frame dt s
  refine Answers.of_act (show _ = execGasOkLow dt s from rfl) ?_
  obtain ⟨e, he, hf⟩ := hf
  obtain rfl : e = _ := congrArg State.dev (Host.Outcome.next.inj he).symm
  set x := (s.dev.elapse dt).setGas false with hx
  have hs : Frame 0x23c4000000000000000010000000100000000000000000000000000000000000000000000000000000000 x
      ((x.kerf.reqs.filter KReq.waits).foldl (fun d r => (d.showKerf r.eng).showState r.eng) x) :=
    Frame.foldl .refl fun _ _ h => (h.step' (Dev.showKerf_frame ..) (by decide +kernel)).step' (Dev.showState_frame ..) (by decide +kernel)
  refine ⟨by rw [hs.pins rfl]; rfl, fun r hr hw => ?_, ?_, hf.onlyIn (by decide +kernel), hf.kerf rfl, hf.sameMem⟩
  · refine Dev.showReqs_holds _ x rfl ?_ (.inl (List.mem_map_of_mem (List.mem_filter.mpr ⟨hr, hw⟩)))
    exact List.find?_isSome.mpr ⟨r, hr, by simp [hw]⟩
  · rw [hs.get _ _ _ (by decide +kernel)]
    exact Dev.get_put_of_lt (by decide)

theorem execGasOkHigh_shows (s : State) (dt : Nat) :
    Answers (.gasOkHigh dt) s (fun e => e.pins = { s.dev.pins with gasOk := true } ∧ e.get .KRF_STAT_GAS_BLOCK = 0
        ∧ s.dev.OnlyAt e [(.KRF_STAT_GAS_BLOCK, 0, 0)] ∧ s.dev.SameMem e) :=
  Answers.of_act (show _ = execGasOkHigh dt s from rfl)
    ⟨rfl, Dev.get_put_of_lt (by decide), .put (.of_regs (e := s.dev.elapse dt) Dev.elapse_onlyAt rfl) (by simp), fun _ => ⟨rfl, rfl, rfl⟩⟩

/-! ### The end of SAFE_STOP (R170) -/

theorem Dev.lowerAll_get (f : Fld) {l : List Nat} {k : Nat} (hk : k ∈ l) (d : Dev) : (l.foldl (fun d n => d.lower f n) d).get f k = 0 := by
  refine foldl_reach (P := fun d => d.get f k = 0) (g := fun d n => d.lower f n) hk (fun x => Dev.get_put_of_lt (Nat.two_pow_pos _)) (fun x n h => ?_) d
  by_cases hn : k = n
  · subst hn; exact Dev.get_put_of_lt (Nat.two_pow_pos _)
  · exact (Dev.get_put_inst hn).trans h

theorem execSafeStopEnd_shows (s : State) (dt : Nat) :
    Answers (.safeStopEnd dt) s (fun e => e.pins.safeStop = false ∧ (∀ n < 34, e.get .ENG_GATE_STAT_SAFE_STOP n = 0)
        ∧ s.dev.OnlyIn e [.ENG_GATE_STAT] ∧ e.engines = s.dev.engines ∧ s.dev.SameMem e) := by
  refine Answers.of_act (show _ = execSafeStopEnd dt s from rfl) ?_
  have hf : Frame (2 ^ (64 + Fld.ctorIdx .ENG_GATE_STAT_SAFE_STOP)) _ ((List.range 34).foldl (fun d n => d.lower .ENG_GATE_STAT_SAFE_STOP n)
      { (s.dev.elapse dt) with pins := { (s.dev.elapse dt).pins with safeStop := false } }) :=
    Frame.foldl .refl fun _ _ h => h.step' (Dev.lower_frame ..) (by decide +kernel)
  refine ⟨by rw [hf.pins (by decide +kernel)], fun n hn => Dev.lowerAll_get _ (List.mem_range.mpr hn) _,
    Dev.OnlyIn.trans (e := { (s.dev.elapse dt) with pins := { (s.dev.elapse dt).pins with safeStop := false } }) (fun _ _ _ _ => rfl) (hf.onlyIn (by decide +kernel)), by rw [hf.engines (by decide +kernel)]; rfl,
    Dev.SameMem.trans (e := { (s.dev.elapse dt) with pins := { (s.dev.elapse dt).pins with safeStop := false } }) (fun _ => ⟨rfl, rfl, rfl⟩) hf.sameMem⟩

/-! ### SAFE_STOP: records on the way leave room for the last one (R35, R368) -/

theorem Dev.uncovered_accepts {d : Dev} (h : d.Accepts 6) (n : Nat) (p : Pass) : (d.uncovered n p).Accepts 6 :=
  .frame (Dev.occur_frame ..) (.record (.frame (Dev.bump_frame ..) h) (by decide) ..)

theorem Dev.noteBoth_accepts {d : Dev} (h : d.Accepts 6) (n z : Nat) : (d.noteBoth n z).Accepts 6 := by
  unfold Dev.noteBoth
  simp only []
  split
  · split_ifs
    · exact h
    · exact .record (.frame (Dev.setAbsence_frame ..) h) (by decide) ..
  · exact h

theorem Dev.redoShare_accepts {d : Dev} (h : d.Accepts 6) (n : Nat) (r : LRec) (sh : Share) : (d.redoShare n r sh).Accepts 6 := by
  have hm (g : Engine → Engine) : (d.modEng n g).Accepts 6 := .frame (Dev.modEng_frame ..) h
  unfold Dev.redoShare
  simp only []
  split
  · exact .record (.frame (Dev.bump_frame ..) (.frame (Dev.modReq_frame ..) (.frame (Dev.releaseReq_frame ..) (hm _)))) (by decide) ..
  · exact hm _

theorem Dev.coverVector_accepts {d : Dev} (h : d.Accepts 6) (n z k mark : Nat) : (d.coverVector n z k mark).Accepts 6 := by
  unfold Dev.coverVector
  simp only []
  split
  · split
    · split_ifs
      · exact h
      · exact Dev.redoShare_accepts h ..
    · exact h
  · split
    · split_ifs
      · exact .frame (Dev.owePass_frame ..) h
      · exact h
    · split_ifs
      · exact Dev.uncovered_accepts h ..
      · exact h

theorem Dev.partnerAbsent_accepts {d : Dev} (h : d.Accepts 6) (n z vidx mark : Nat) (one : Bool) :
    (d.partnerAbsent n z vidx mark one).Accepts 6 := by
  have hs (a : Absence) : (d.setAbsence n z a).Accepts 6 := .frame (Dev.setAbsence_frame ..) h
  unfold Dev.partnerAbsent
  simp only []
  split_ifs
  · exact h
  · exact .foldl (hs _) fun _ _ hx => Dev.coverVector_accepts hx ..
  · exact .foldl (Dev.noteBoth_accepts (hs _) ..) fun _ _ hx => Dev.coverVector_accepts hx ..

theorem Dev.takeNotice_accepts {d : Dev} (h : d.Accepts 6) (src g : Nat) : (d.takeNotice src g).Accepts 6 := by
  have hb {e : Dev} (he : e.Accepts 6) : (e.bump .FAB_DROP_NOTICE_DISC).Accepts 6 := .frame (Dev.bump_frame ..) he
  unfold Dev.takeNotice
  simp only []
  split
  · exact hb h
  · exact .ite (hb h) (.ite (hb (.frame (Dev.raise_frame ..) h)) (.ite (.record h (by decide) ..)
      (.ite (Dev.partnerAbsent_accepts h ..) (.ite (Dev.partnerAbsent_accepts h ..) h))))

theorem Dev.sendNotice_accepts {d : Dev} (h : d.Accepts 6) (n z kind vidx mark : Nat) : (d.sendNotice n z kind vidx mark).Accepts 6 := by
  have hs (m m' : FabMsg) : ((d.fabSend m).fabSend m').Accepts 6 := .frame (Dev.fabSend_frame ..) (.frame (Dev.fabSend_frame ..) h)
  unfold Dev.sendNotice Dev.kerfNotice
  simp only []
  split_ifs
  · exact .frame (Dev.fabSend_frame ..) h
  · exact hs ..
  · exact Dev.takeNotice_accepts h ..
  · exact ⟨h.intact, h.room⟩

theorem Dev.goAbsent_accepts {d : Dev} (h : d.Accepts 6) (n : Nat) : (d.goAbsent n).Accepts 6 := by
  unfold Dev.goAbsent Dev.selfAbsent
  split_ifs
  · exact h
  · exact .foldl h fun _ _ hx => Dev.sendNotice_accepts (Dev.noteBoth_accepts (.frame (Dev.setAbsence_frame ..) hx) ..) ..

theorem Dev.absentEngines_accepts {d : Dev} (h : d.Accepts 6) (ns : List Nat) : (d.absentEngines ns).Accepts 6 :=
  .foldl h fun _ _ hx => Dev.goAbsent_accepts (.frame (Dev.forceGate_frame ..) hx) _

theorem Dev.dropPasses_accepts {d : Dev} (h : d.Accepts 6) (n : Nat) (lit : Bool) : (d.dropPasses n lit).Accepts 6 := by
  unfold Dev.dropPasses
  exact .frame (Dev.modEng_frame ..) (.foldl h fun _ _ hx => Dev.uncovered_accepts hx ..)

/-! ### A gate held low (R170) -/

/-- A gate is low and has no edge planned. -/
structure Dev.GateDown (d : Dev) (n : Nat) : Prop where
  low : d.get .ENG_GATE_STAT_GATE_NOW n = 0
  forced : (d.eng n).gate.forced = true
  edges : (d.eng n).gate.edges = []

theorem Frame.eng {w : Nat} {d e : Dev} (h : Frame w d e) (n : Nat) (hw : w.testBit 27 = false) : e.eng n = d.eng n := by
  unfold Dev.eng; rw [h.engines hw]

theorem Dev.GateDown.frame {w : Nat} {d e : Dev} {n : Nat} (hf : Frame w d e) (h : d.GateDown n)
    (hl : w.testBit (64 + Fld.ctorIdx .ENG_GATE_STAT_GATE_NOW) = false := by decide +kernel) (he : w.testBit 27 = false := by decide +kernel) : e.GateDown n :=
  ⟨(hf.get _ _ _ hl).trans h.low, by rw [hf.eng n he]; exact h.forced, by rw [hf.eng n he]; exact h.edges⟩

theorem Dev.GateDown.foldl {ι : Type} {d : Dev} {n : Nat} {l : List ι} {g : Dev → ι → Dev} (h : d.GateDown n)
    (hg : ∀ x a, x.GateDown n → (g x a).GateDown n) : (l.foldl g d).GateDown n :=
  foldl_keep (P := (Dev.GateDown · n)) h hg l

/-- A change of an engine beside its gate. -/
theorem Dev.GateDown.modEng {d : Dev} {n : Nat} (h : d.GateDown n) (m : Nat) {g : Engine → Engine} (hg : (g (d.eng m)).gate = (d.eng m).gate) :
    (d.modEng m g).GateDown n := by
  by_cases hn : n = m
  · subst hn
    exact ⟨h.low, by simpa [Dev.modEng, hg] using h.forced, by simpa [Dev.modEng, hg] using h.edges⟩
  · exact ⟨h.low, by simpa [Dev.modEng, hn] using h.forced, by simpa [Dev.modEng, hn] using h.edges⟩

/-- Of the registers and engines, forcing a gate changes its own alone. -/
theorem Dev.forceGate_other (d : Dev) {m n : Nat} (h : n ≠ m) :
    (d.forceGate m).get .ENG_GATE_STAT_GATE_NOW n = d.get .ENG_GATE_STAT_GATE_NOW n ∧ (d.forceGate m).eng n = d.eng n := by
  have hflush (e : Dev) : (e.flushGate m).get .ENG_GATE_STAT_GATE_NOW n = e.get .ENG_GATE_STAT_GATE_NOW n ∧ (e.flushGate m).eng n = e.eng n := by
    unfold Dev.flushGate
    simp only []
    split <;> split_ifs <;> simp [Dev.modGate, Dev.modEng, Dev.putB, Dev.get_put_inst h, h]
  unfold Dev.forceGate
  simp only []
  constructor
  · exact (Dev.get_put_inst h).trans (hflush _).1
  · simp only [Dev.eng_lower, Dev.modGate, Dev.modEng, Dev.eng_setEng_ne _ _ _ _ h]
    rw [(hflush _).2]
    simp [h]

theorem Dev.forceGate_down (d : Dev) (n : Nat) : (d.forceGate n).GateDown n := by
  unfold Dev.forceGate
  simp only []
  exact ⟨Dev.get_put_of_lt (by decide), by simp [Dev.modGate, Dev.modEng], by simp [Dev.modGate, Dev.modEng]⟩

theorem Dev.GateDown.forceGate {d : Dev} {n : Nat} (h : d.GateDown n) (m : Nat) : (d.forceGate m).GateDown n := by
  by_cases hn : n = m
  · subst hn; exact d.forceGate_down n
  · obtain ⟨hg, he⟩ := d.forceGate_other hn
    exact ⟨hg.trans h.low, by rw [he]; exact h.forced, by rw [he]; exact h.edges⟩

/-! ### Stopping an engine dark keeps every gate that is low -/

section Keep
variable {d : Dev} {k : Nat} (h : d.GateDown k)
include h

theorem Dev.GateDown.discardRecs (n : Nat) (which : Nat → Bool) : (d.discardRecs n which).GateDown k := by
  unfold Dev.discardRecs
  refine .modEng (.foldl h fun x g hx => ?_) _ rfl
  unfold Dev.countScarf
  simp only []
  split_ifs
  · exact hx.modEng _ rfl
  · exact hx

theorem Dev.GateDown.clearStream (n : Nat) : (d.clearStream n).GateDown k :=
  .frame (Dev.put_frame ..) (h.modEng _ rfl)

theorem Dev.GateDown.discardWork (n : Nat) (kept : List Plan) (lit : List Nat) : (d.discardWork n kept lit).GateDown k := by
  unfold Dev.discardWork
  refine .frame (Dev.put_frame ..) (.modEng (.discardRecs (.foldl h fun _ _ hx => hx.frame (Dev.endClaim_frame ..)) ..) _ rfl)

theorem Dev.GateDown.beginPark (n : Nat) (job : Option Nat) : (d.beginPark n job).GateDown k := by
  unfold Dev.beginPark
  exact .frame (Dev.put_frame ..) (h.modEng _ rfl)

theorem Dev.GateDown.dropPasses (n : Nat) (lit : Bool) : (d.dropPasses n lit).GateDown k := by
  unfold Dev.dropPasses
  exact .modEng (.foldl h fun _ _ hx => hx.frame (Dev.uncovered_frame ..)) _ rfl

theorem Dev.GateDown.endClaims (n : Nat) : (d.endClaims n).GateDown k := h.frame (Dev.endClaims_frame ..)

end Keep

/-- An engine stopped dark: what holds once its gate is down and its claims and passes are gone, and what a discard of its work and
a park keep, holds at the end. -/
theorem Dev.stopEngine_keeps {P : Dev → Prop} {d : Dev} (n : Nat) (h : P (((d.forceGate n).endClaims n).dropPasses n false))
    (hout : ∀ x, P x → P (((x.endClaims n).discardRecs n (fun _ => true)).clearStream n))
    (hwork : ∀ x kept, P x → P (x.discardWork n kept []))
    (hmove : ∀ x dest, P x → P (x.modEng n (fun e => { e with parking := some none, tail := dest })))
    (hpark : ∀ x, P x → P (x.beginPark n none)) : P (d.stopEngine n true) := by
  unfold Dev.stopEngine
  simp only [if_true, Bool.not_true, Bool.false_and, Bool.false_eq_true, if_false]
  generalize Dev.dropPasses _ n false = x at h ⊢
  split
  · exact hout x h
  · split
    · exact h
    · generalize (x.eng n).plans = ps
      cases ps with
      | nil =>
        have hw := hwork x [] h
        simp only []
        split
        · exact hw
        · exact hpark _ hw
      | cons p ps =>
        simp only []
        split
        · exact hmove _ _ (hwork _ _ h)
        · exact hpark _ (hwork x [] h)

theorem Dev.stopEngine_down {d : Dev} {k n : Nat} (h : k = n ∨ d.GateDown k) : (d.stopEngine n true).GateDown k := by
  refine Dev.stopEngine_keeps (P := (Dev.GateDown · k)) n (.dropPasses (.endClaims ?_ n) n false) (fun x hx => .clearStream (.discardRecs (hx.endClaims n) ..) n)
    (fun x kept hx => hx.discardWork ..) (fun x dest hx => hx.modEng n rfl) (fun x hx => hx.beginPark ..)
  rcases h with rfl | h
  · exact d.forceGate_down k
  · exact h.forceGate n

theorem Dev.stopEngine_accepts {d : Dev} (h : d.Accepts 6) (n : Nat) : (d.stopEngine n true).Accepts 6 :=
  Dev.stopEngine_keeps (P := (Dev.Accepts · 6)) n (Dev.dropPasses_accepts (.frame (Dev.endClaims_frame ..) (.frame (Dev.forceGate_frame ..) h)) n false)
    (fun _ hx => .frame (Dev.clearStream_frame ..) (.frame (Dev.discardRecs_frame ..) (.frame (Dev.endClaims_frame ..) hx)))
    (fun _ _ hx => .frame (Dev.discardWork_frame ..) hx) (fun _ _ hx => .frame (Dev.modEng_frame ..) hx) (fun _ hx => .frame (Dev.beginPark_frame ..) hx)

/-- All light stopped: every gate named is down. -/
theorem Dev.stopEngines_down (d : Dev) (code : Nat) {k : Nat} (hk : k < 34) : (d.stopEngines code).GateDown k :=
  foldl_reach (P := (Dev.GateDown · k)) (g := fun d n => (d.stopEngine n true).endVecs n code) (List.mem_range.mpr hk) (fun _ => .frame (Dev.endVecs_frame ..) (Dev.stopEngine_down (.inl rfl)))
    (fun _ _ h => .frame (Dev.endVecs_frame ..) (Dev.stopEngine_down (.inr h))) d

theorem Dev.stopEngines_accepts {d : Dev} (h : d.Accepts 6) (code : Nat) : (d.stopEngines code).Accepts 6 :=
  .foldl h fun _ _ hx => .frame (Dev.endVecs_frame ..) (Dev.stopEngine_accepts hx _)

/-! ### The state that SAFE_STOP shows on every engine (R170) -/

/-- SAFE_STOP of one engine with its error source. -/
def Dev.showSafeStop (d : Dev) (n : Nat) : Dev :=
  ((d.raise .ENG_GATE_STAT_SAFE_STOP n).raise .ENG_GATE_STAT_SAFE_STOP_SEEN n).occur (193 + 2 * n)

theorem Dev.showSafeStop_frame (d : Dev) (n : Nat) :
    Frame 0xc000000000030c00140000000000020000000000000000000000000006001000 d (d.showSafeStop n) :=
  ((((Dev.raise_frame d .ENG_GATE_STAT_SAFE_STOP n 0).mono (by decide +kernel)).step' (Dev.raise_frame ..) (by decide +kernel))).step' (Dev.occur_frame ..) (by decide +kernel)

theorem Dev.showSafeStop_self (d : Dev) (k : Nat) :
    (d.showSafeStop k).get .ENG_GATE_STAT_SAFE_STOP k = 1 ∧ (d.showSafeStop k).get .ENG_GATE_STAT_SAFE_STOP_SEEN k = 1 := by
  unfold Dev.showSafeStop
  rw [(Dev.occur_frame ..).get _ _ _ (by decide +kernel), (Dev.occur_frame ..).get _ _ _ (by decide +kernel)]
  exact ⟨(Dev.get_raise_ne _ _ _ _ _ _ _ (by decide)).trans Dev.get_raise, Dev.get_raise⟩

theorem Dev.showSafeStop_other (d : Dev) {k n : Nat} (hn : k ≠ n) :
    (d.showSafeStop n).get .ENG_GATE_STAT_SAFE_STOP k = d.get .ENG_GATE_STAT_SAFE_STOP k
      ∧ (d.showSafeStop n).get .ENG_GATE_STAT_SAFE_STOP_SEEN k = d.get .ENG_GATE_STAT_SAFE_STOP_SEEN k := by
  unfold Dev.showSafeStop
  rw [(Dev.occur_frame ..).get _ _ _ (by decide +kernel), (Dev.occur_frame ..).get _ _ _ (by decide +kernel)]
  exact ⟨(Dev.get_raise_ne _ _ _ _ _ _ _ (by decide)).trans (Dev.get_put_inst hn),
    (Dev.get_put_inst hn).trans (Dev.get_raise_ne _ _ _ _ _ _ _ (by decide))⟩

theorem Dev.showSafeStops_shows {l : List Nat} {k : Nat} (hk : k ∈ l) (d : Dev) :
    (l.foldl Dev.showSafeStop d).get .ENG_GATE_STAT_SAFE_STOP k = 1 ∧ (l.foldl Dev.showSafeStop d).get .ENG_GATE_STAT_SAFE_STOP_SEEN k = 1 := by
  refine foldl_reach (P := fun d => d.get .ENG_GATE_STAT_SAFE_STOP k = 1 ∧ d.get .ENG_GATE_STAT_SAFE_STOP_SEEN k = 1) hk
    (fun x => x.showSafeStop_self k) (fun x n h => ?_) d
  by_cases hn : k = n
  · subst hn; exact x.showSafeStop_self k
  · obtain ⟨h₁, h₂⟩ := x.showSafeStop_other hn
    exact ⟨h₁.trans h.1, h₂.trans h.2⟩

/-- What follows SAFE_STOP_n low, in order: channels absent, engines stopped, the state shown, tiles and axes stopped, the record. -/
def Dev.safeStopped (d : Dev) : Dev :=
  ((((List.range 34).foldl Dev.showSafeStop ((d.absentEngines (List.range 34)).stopEngines 0x0360).tickStop).stopTiles 0x03a1).emergencyStop
    0x03c1).record 0x0303 6 (recSource 40 63)

/-- What comes after the engines have been stopped. -/
theorem Dev.afterStop_frame (d : Dev) :
    Frame 0x2000000000000000000000000000000000000000000000000000000000000000000000000020000000000000000000004000000000000000000000000000000000000000000000000000000030c001400000000008a0000000000000000000000000186021500 (((List.range 34).foldl Dev.showSafeStop d.tickStop))
      ((((List.range 34).foldl Dev.showSafeStop d.tickStop).stopTiles 0x03a1).emergencyStop 0x03c1) :=
  ((Dev.stopTiles_frame _ 0x03a1).mono (by decide +kernel)).step' (Dev.emergencyStop_frame ..) (by decide +kernel)

theorem Dev.showSafeStops_frame (d : Dev) : Frame 0xc000000000030c00140000000000020000000000000000000000000006001400 d ((List.range 34).foldl Dev.showSafeStop d.tickStop) :=
  Frame.foldl ((Dev.tickStop_frame d).mono (by decide +kernel)) fun _ _ h => h.step' (Dev.showSafeStop_frame ..) (by decide +kernel)

theorem Dev.safeStopped_pins (d : Dev) : d.safeStopped.pins = d.pins := by
  rw [Dev.safeStopped, (Dev.record_frame ..).pins rfl, (Dev.afterStop_frame _).pins rfl, (Dev.showSafeStops_frame _).pins rfl,
    (Dev.stopEngines_frame ..).pins rfl, (Dev.absentEngines_frame ..).pins rfl]

theorem Dev.safeStopped_shows {d : Dev} (h : d.Accepts 6) : d.safeStopped.Recorded 0x0303 6
    ∧ ∀ n < 34, d.safeStopped.get .ENG_GATE_STAT_SAFE_STOP n = 1 ∧ d.safeStopped.get .ENG_GATE_STAT_SAFE_STOP_SEEN n = 1 ∧ d.safeStopped.GateDown n := by
  have ha : ((d.absentEngines (List.range 34)).stopEngines 0x0360).Accepts 6 := Dev.stopEngines_accepts (Dev.absentEngines_accepts h _) _
  have hd (n : Nat) (hn : n < 34) : ((d.absentEngines (List.range 34)).stopEngines 0x0360).GateDown n := Dev.stopEngines_down _ _ hn
  unfold Dev.safeStopped
  generalize Dev.stopEngines _ _ = x at ha hd ⊢
  have hx := x.showSafeStops_frame
  have hs (n : Nat) (hn : n < 34) := Dev.showSafeStops_shows (List.mem_range.mpr hn) x.tickStop
  have hy := x.afterStop_frame
  generalize List.foldl _ _ _ = y at hx hs hy ⊢
  generalize Dev.emergencyStop _ _ = z at hy ⊢
  have hz := Dev.record_frame z 0x0303 6 (recSource 40 63)
  refine ⟨((ha.frame hx).frame hy).recorded _ _ _ _ _, fun n hn => ⟨?_, ?_, (((hd n hn).frame hx).frame hy).frame (hz ..)⟩⟩
  · rw [(hz ..).get _ _ _ (by decide +kernel), hy.get _ _ _ (by decide +kernel), (hs n hn).1]
  · rw [(hz ..).get _ _ _ (by decide +kernel), hy.get _ _ _ (by decide +kernel), (hs n hn).2]

theorem execSafeStopAssert_shows (s : State) (dt : Nat) (hp : s.dev.pins.safeStop = false) (hl : s.dev.logs) :
    Answers (.safeStopAssert dt) s (fun e => e.pins.safeStop = true ∧ e.Recorded 0x0303 6
        ∧ (∀ n < 34, e.get .ENG_GATE_STAT_SAFE_STOP n = 1 ∧ e.get .ENG_GATE_STAT_SAFE_STOP_SEEN n = 1
          ∧ e.get .ENG_GATE_STAT_GATE_NOW n = 0 ∧ (e.eng n).gate.forced = true ∧ (e.eng n).gate.edges = []) ∧ s.dev.SameMem e) := by
  obtain ⟨e, he, hf⟩ := execSafeStopAssert_frame dt s
  have hact : execSafeStopAssert dt s = s.act dt (fun d => d.when (!d.pins.safeStop)
      (fun d => Dev.safeStopped { d with pins := { d.pins with safeStop := true } })) := by
    unfold execSafeStopAssert Dev.safeStopped Dev.showSafeStop
    rfl
  have hx : e = Dev.safeStopped { (s.dev.elapse dt) with pins := { (s.dev.elapse dt).pins with safeStop := true } } := by
    refine (congrArg State.dev (Host.Outcome.next.inj (hact.symm.trans he))).symm.trans ?_
    exact if_pos (congrArg not hp)
  have hall : e.pins.safeStop = true ∧ e.Recorded 0x0303 6
      ∧ ∀ n < 34, e.get .ENG_GATE_STAT_SAFE_STOP n = 1 ∧ e.get .ENG_GATE_STAT_SAFE_STOP_SEEN n = 1 ∧ e.GateDown n := by
    rw [hx]
    exact ⟨congrArg Pins.safeStop (Dev.safeStopped_pins _), Dev.safeStopped_shows ⟨hl.1, .inl hl.2⟩⟩
  obtain ⟨hpins, hrec, hall⟩ := hall
  refine ⟨_, he, rfl, hpins, hrec, fun n hn => ?_, hf.sameMem⟩
  obtain ⟨h₁, h₂, hdown⟩ := hall n hn
  exact ⟨h₁, h₂, hdown.low, hdown.forced, hdown.edges⟩

/-- Settles O30: SAFE_STOP forces every gate low through whatever an engine was doing, and the records on the way, all of lower
severity, leave room for the one of severity 6. -/
theorem safetyInputs : Obligations.SafetyInputs :=
  ⟨execSafeStopAssert_shows, execSafeStopEnd_shows, execGasOkLow_shows, execGasOkHigh_shows⟩

end Sys2Proof.Machine
end

section
/-! The grain map (O44). -/

namespace Sys2Proof.Machine
open Sys2Proof

/-! ### What windows and functions allow, through a frame -/

/-- Whether a frame's mask leaves out some register fields. -/
def maskOut (fs : List Fld) (w : Nat) : Bool := fs.all (fun f => !w.testBit (64 + f.ctorIdx))

theorem Frame.get_out {w : Nat} {d e : Dev} {fs : List Fld} (h : Frame w d e) (hw : maskOut fs w = true) {f : Fld} (hf : f ∈ fs) (i j : Nat) :
    e.get f i j = d.get f i j := h.get f i j (by simpa using List.all_eq_true.mp hw f hf)

/-- The fields that a window check reads (R96). -/
def windowFlds : List Fld := [.WIN_CFG_ENABLE, .WIN_CFG_SIZE_LOG2, .WIN_BASE_LO_ADDR_LO, .WIN_BASE_HI_ADDR_HI, .WIN_CFG_R, .WIN_CFG_W]

theorem Frame.rangeCause {w : Nat} {d e : Dev} (h : Frame w d e) (hw : maskOut windowFlds w = true) (f a n : Nat) (rd wr : Bool) :
    e.rangeCause f a n rd wr = d.rangeCause f a n rd wr := by
  have hg (x : Fld) (hx : x ∈ windowFlds) (i j : Nat) : e.get x i j = d.get x i j := h.get_out hw hx i j
  have hwin (k : Nat) : e.winHas f k a n = d.winHas f k a n := by
    unfold Dev.winHas Dev.winBase Dev.flag
    rw [hg .WIN_CFG_ENABLE (by decide), hg .WIN_CFG_SIZE_LOG2 (by decide), hg .WIN_BASE_LO_ADDR_LO (by decide), hg .WIN_BASE_HI_ADDR_HI (by decide)]
  have hperm (k : Nat) : e.flag .WIN_CFG_R f k = d.flag .WIN_CFG_R f k ∧ e.flag .WIN_CFG_W f k = d.flag .WIN_CFG_W f k := by
    unfold Dev.flag
    rw [hg .WIN_CFG_R (by decide), hg .WIN_CFG_W (by decide)]
    exact ⟨rfl, rfl⟩
  unfold Dev.rangeCause
  simp [hwin, hperm]

theorem Frame.fn {w : Nat} {d e : Dev} (h : Frame w d e) (k : Nat) (hw : w.testBit 10 = false := by decide +kernel) : e.fn k = d.fn k := by
  rw [Dev.fn, h.hostFns hw, Dev.fn]

theorem Frame.inService {w : Nat} {d e : Dev} (h : Frame w d e) (u : Nat) (hi : w.testBit 16 = false := by decide +kernel)
    (hs : w.testBit (64 + Fld.ctorIdx .SYS_ISL_STAT_IN_SERVICE) = false := by decide +kernel) : e.inService u = d.inService u := by
  rw [Dev.inService, Dev.flag, h.get _ _ _ hs, h.island u hi, Dev.inService, Dev.flag]

theorem Frame.mayWrite {w : Nat} {d e : Dev} (h : Frame w d e) (f : Nat) (hi : w.testBit 16 = false := by decide +kernel)
    (hs : w.testBit (64 + Fld.ctorIdx .SYS_ISL_STAT_IN_SERVICE) = false := by decide +kernel) (hf : w.testBit 10 = false := by decide +kernel)
    (hp : w.testBit 22 = false := by decide +kernel) : e.mayWrite f = d.mayWrite f := by
  rw [Dev.mayWrite, h.inService 34 hi hs, h.fn f hf, Dev.vfOn, h.pcie hp, Dev.mayWrite, Dev.vfOn]

/-! ### The geometry (R223) -/

theorem Fld.of_lt (f : Fld) (value : Nat) : f.of value < 2 ^ f.width := Nat.mod_lt _ (Nat.two_pow_pos _)

/-- A plain field takes a value in its range. -/
theorem Dev.writeField_inRange {d : Dev} {f : Fld} {value i j : Nat} (ha : f.acc = .rw) (hk : f.keeps j (f.of value) = f.of value)
    (hr : f.inRange (f.of value) = true) : d.writeField f value i j = d.put f (f.of value) i j := by
  simp [Dev.writeField, ha, hk, hr]

/-- Plain fields written in turn with values in their ranges: each takes its own, no other field reads differently. -/
theorem Dev.writeFields_inRange {fs : List Fld} {value : Nat} (hn : fs.Nodup)
    (hf : ∀ f ∈ fs, f.acc = .rw ∧ f.keeps 0 (f.of value) = f.of value ∧ f.inRange (f.of value) = true) (d : Dev) :
    (∀ f ∈ fs, (fs.foldl (fun d f => d.writeField f value 0 0) d).get f = f.of value)
      ∧ ∀ g i j, g ∉ fs → (fs.foldl (fun d f => d.writeField f value 0 0) d).get g i j = d.get g i j := by
  induction fs generalizing d with
  | nil => simp
  | cons f fs ih =>
    obtain ⟨hnf, hn⟩ := List.nodup_cons.mp hn
    obtain ⟨⟨ha, hk, hr⟩, hf⟩ := List.forall_mem_cons.mp hf
    obtain ⟨hin, hout⟩ := ih hn hf (d.writeField f value 0 0)
    rw [List.foldl_cons]
    rw [Dev.writeField_inRange ha hk hr] at hin hout ⊢
    refine ⟨List.forall_mem_cons.mpr ⟨?_, hin⟩, fun g i j hg => ?_⟩
    · rw [hout f 0 0 hnf, Dev.get_put_of_lt (f.of_lt value)]
    · obtain ⟨hne, hg⟩ := not_or.mp (mt List.mem_cons.mpr hg)
      rw [hout g i j hg, Dev.get_put_ne _ _ _ _ _ _ _ _ hne]

/-- The fields of the geometry: plain, each once, and of their own register. -/
theorem grnGeomReg_fields (k : Fin 3) : (grnGeomReg k).fields.Nodup ∧ (grnGeomReg k).fields ≠ []
    ∧ ∀ f ∈ (grnGeomReg k).fields, f.acc = .rw ∧ f.reg = grnGeomReg k ∧ f ≠ .WIN_GRANT_CFG_CLASS ∧ f ≠ .CAM_CTX_CCM_C_HI := by
  revert k; decide +kernel

/-- A geometry in range is kept (R223). -/
theorem Dev.writeReg_geom {k : Fin 3} {value : Nat} (hr : ∀ f ∈ (grnGeomReg k).fields, f.inRange (f.of value) = true) (d : Dev) :
    (∀ f ∈ (grnGeomReg k).fields, (d.writeReg (grnGeomReg k) 0 0 value).get f = f.of value)
      ∧ d.OnlyIn (d.writeReg (grnGeomReg k) 0 0 value) [grnGeomReg k] := by
  obtain ⟨hn, -, hf⟩ := grnGeomReg_fields k
  obtain ⟨hin, hout⟩ := Dev.writeFields_inRange hn (value := value) (fun f hm => by
    obtain ⟨ha, -, h₁, h₂⟩ := hf f hm
    exact ⟨ha, by simp [Fld.keeps, h₁, h₂], hr f hm⟩) d
  refine ⟨hin, fun g i j hg => hout g i j fun hm => hg ?_⟩
  simp [(hf g hm).2.1]

theorem execGrnGeomWrite_taken (s : State) (dt : Nat) (k : Fin 3) (value : Word) (hz : s.dev.frozen 0 = false)
    (hs : s.dev.get .SYS_LAYER_STAT_STATE = 8) (hr : ∀ f ∈ (grnGeomReg k).fields, f.inRange (f.of value.toNat) = true) :
    Answers (.grnGeomWrite dt k value) s (fun e => (∀ f ∈ (grnGeomReg k).fields, e.get f = f.of value.toNat) ∧ e.grain.cells = []
        ∧ s.dev.OnlyIn e [grnGeomReg k] ∧ s.dev.SameMem e) := by
  refine Answers.of_act (show _ = execGrnGeomWrite dt k value s from rfl) ?_
  obtain ⟨-, hne, -⟩ := grnGeomReg_fields k
  have hany : (grnGeomReg k).fields.any (fun f => f.inRange (f.of value.toNat)) = true := by
    obtain ⟨f, hf⟩ := List.exists_mem_of_ne_nil _ hne
    exact List.any_eq_true.mpr ⟨f, hf, hr f hf⟩
  obtain ⟨hin, hout⟩ := Dev.writeReg_geom hr (s.dev.elapse dt)
  have hw := (s.dev.elapse dt).writeReg_frame (grnGeomReg k) 0 0 value.toNat
  have hmask : (grnGeomReg k).mask.testBit 4 = false ∧ (grnGeomReg k).mask.testBit 5 = false ∧ (grnGeomReg k).mask.testBit 6 = false := by
    clear hr hne hany hin hout hw; revert k; decide +kernel
  rw [Dev.byFn_zero (d := s.dev.elapse dt) hz, Dev.writeGeom, if_neg (by rw [Dev.get_elapse, hs]; decide)]
  simp only [hany, if_true]
  exact ⟨hin, trivial, hout, (hw.sameMem hmask.1 hmask.2.1 hmask.2.2).trans fun _ => ⟨rfl, rfl, rfl⟩⟩

theorem execGrnGeomWrite_rejected (s : State) (dt : Nat) (k : Fin 3) (value : Word) (hz : s.dev.frozen 0 = false)
    (hs : s.dev.get .SYS_LAYER_STAT_STATE ≠ 8) :
    Answers (.grnGeomWrite dt k value) s (fun e => e.get .GRN_STAT_CFG_REJ = 1 ∧ e.grain = s.dev.grain
        ∧ s.dev.OnlyAt e [(.GRN_STAT_CFG_REJ, 0, 0)] ∧ s.dev.SameMem e) := by
  refine Answers.of_act (show _ = execGrnGeomWrite dt k value s from rfl) ?_
  have hflag : (grnGeomReg k).rejFlag 0 = some (.GRN_STAT_CFG_REJ, 0) := by revert k; decide +kernel
  rw [Dev.byFn_zero (d := s.dev.elapse dt) hz, Dev.writeGeom, if_pos (show (s.dev.elapse dt).get .SYS_LAYER_STAT_STATE ≠ 8 from hs), Dev.reject, hflag]
  exact ⟨Dev.get_raise, rfl, .put Dev.elapse_onlyAt (by simp), fun _ => ⟨rfl, rfl, rfl⟩⟩

/-! ### Silent peers (R235) -/

theorem execGrainPeerSilent_shows (s : State) (dt : Nat) (k : Fin 8) (he : s.dev.get .GRN_PEER_ENABLE k = 1)
    (hp : s.dev.peerFrozen (s.dev.get .GRN_PEER_PEER_ID k) = false) (hl : s.dev.get .FAB_ROUTE_LEFT (s.dev.get .GRN_PEER_PEER_ID k) = 0)
    (ht : Tab.get 0 s.dev.grain.lastEnd k + s.dev.get .GRN_HALO_CFG_STALE_US * qUs ≤ (s.dev.elapse dt).run) :
    Answers (.grainPeerSilent dt k) s (fun e => hasBit (e.get .GRN_STAT_STALE) k = true ∧ s.dev.OnlyAt e [(.GRN_STAT_STALE, 0, 0)]
        ∧ s.dev.SameMem e) := by
  refine Answers.of_act (show _ = execGrainPeerSilent dt k s from rfl) ?_
  have hc : ((s.dev.elapse dt).flag .GRN_PEER_ENABLE k && !(s.dev.elapse dt).peerFrozen ((s.dev.elapse dt).get .GRN_PEER_PEER_ID k)
      && !(s.dev.elapse dt).flag .FAB_ROUTE_LEFT ((s.dev.elapse dt).get .GRN_PEER_PEER_ID k)
      && decide (Tab.get 0 (s.dev.elapse dt).grain.lastEnd k + (s.dev.elapse dt).get .GRN_HALO_CFG_STALE_US * qUs ≤ (s.dev.elapse dt).run)) = true := by
    simp only [Bool.and_eq_true, Bool.not_eq_true', decide_eq_true_eq]
    exact ⟨⟨⟨Dev.flag_true he, hp⟩, Dev.flag_false hl⟩, ht⟩
  simp only [hc, Dev.when_true]
  refine ⟨?_, .put Dev.elapse_onlyAt (by simp), fun _ => ⟨rfl, rfl, rfl⟩⟩
  rw [Dev.get_put_self, hasBit_mod_two_pow _ (by exact k.isLt), hasBit_setBit]
  simp

/-! ### A message that a peer's halo brings (R114, R235) -/

/-- The device that the runs of a message meet: deposits of the same instant come first. -/
def Dev.depositsFirst (d : Dev) : Dev := if d.now % qUs = 0 then d.depositAll else d

theorem Dev.depositsFirst_frame (d : Dev) : Frame 0x1035000000000000000000000000000000000000000000000000000000000000000000000000000000000000000020048000000 d d.depositsFirst := by
  unfold Dev.depositsFirst
  split
  · exact d.depositAll_frame
  · exact .refl

/-- A granted message of an enabled grain peer plays its runs. -/
theorem execGrainHalo_runs (s : State) (dt : Nat) (dev : Fin 1024) (payload : List Gran) {ix : Nat} (hs : s.dev.inService 46 = true)
    (hp : s.dev.peerFrozen dev = false) (hg : s.dev.grantOk dev 0 none = true)
    (hix : (List.range 8).find? (fun k => s.dev.flag .GRN_PEER_ENABLE k && s.dev.get .GRN_PEER_PEER_ID k == dev.val) = some ix)
    (h38 : s.dev.inService 38 = true) :
    execGrainHalo dt dev payload s
      = s.act dt (fun _ => ((s.dev.elapse dt).hear dev).depositsFirst.haloRuns ix (payload.length + 1) payload) := by
  unfold execGrainHalo State.act
  refine congrArg (fun d => Host.Outcome.next { s with dev := d }) ((Dev.granting_granted (d := s.dev.elapse dt) (cls := 0) (range := none) hs hp hg).trans ?_)
  have hix' : (List.range 8).find? (fun k => ((s.dev.elapse dt).hear dev).flag .GRN_PEER_ENABLE k
      && ((s.dev.elapse dt).hear dev).get .GRN_PEER_PEER_ID k == dev.val) = some ix := hix
  have h38' : ((s.dev.elapse dt).hear dev).inService 38 = true := h38
  simp only [hix', h38', Dev.when_true]
  rfl

/-- A message of one run and its words. -/
theorem Dev.haloRuns_one (d : Dev) (ix : Nat) (h : Gran) (ws : List Gran) (n : Nat) (hw : ceilDiv (bitsOf h.toNat 71 64) 4 = ws.length) :
    d.haloRuns ix (n + 1) (h :: ws) = d.haloRun ix h.toNat (runWords ws) := by
  rw [Dev.haloRuns, hw, List.take_length, List.drop_length]
  cases n <;> rfl

/-- A cell of a SET run outside the own box (R235). -/
theorem Dev.haloCell_set {d : Dev} {col row : Nat} (v tick : Nat) (hc : col < d.grnCols) (hr : row < d.grnRows)
    (ho : d.inOwn (row * d.grnCols + col) = false) : d.haloCell 0 col row v tick = d.setCell (row * d.grnCols + col) (cellWord v tick) := by
  unfold Dev.haloCell
  simp [hc, hr, ho]

theorem cellWord_mod (v tick : Nat) : cellWord (v % 65536) tick = cellWord v tick := by simp [cellWord]

@[simp] theorem Dev.cell_setCell_self (d : Dev) (k v : Nat) : (d.setCell k v).cell k = v := Tab.get_set_self ..

theorem Dev.cell_setCell_ne (d : Dev) {k l : Nat} (v : Nat) (h : l ≠ k) : (d.setCell k v).cell l = d.cell l := Tab.get_set_ne _ _ _ _ _ h

/-- What a frame without the map's registers says of its geometry. -/
theorem Frame.geometry {w : Nat} {d e : Dev} (h : Frame w d e) (hw : maskOut [.GRN_GEOM_COLS_LOG2, .GRN_GEOM_PITCH_UM, .GRN_ORIGIN_X_ORIGIN, .GRN_ORIGIN_Y_ORIGIN] w = true)
    (hf : w.testBit 2 = false) : e.grnCols = d.grnCols ∧ e.grnRows = d.grnRows ∧ e.grnPitch = d.grnPitch
      ∧ e.gets .GRN_ORIGIN_X_ORIGIN = d.gets .GRN_ORIGIN_X_ORIGIN ∧ e.gets .GRN_ORIGIN_Y_ORIGIN = d.gets .GRN_ORIGIN_Y_ORIGIN ∧ e.inOwn = d.inOwn := by
  have hc := h.get_out hw (f := .GRN_GEOM_COLS_LOG2) (by decide) 0 0
  have hp := h.get_out hw (f := .GRN_GEOM_PITCH_UM) (by decide) 0 0
  have hx := h.get_out hw (f := .GRN_ORIGIN_X_ORIGIN) (by decide) 0 0
  have hy := h.get_out hw (f := .GRN_ORIGIN_Y_ORIGIN) (by decide) 0 0
  have hfo := h.force hf
  refine ⟨?_, ?_, ?_, ?_, ?_, funext fun k => ?_⟩
  · rw [Dev.grnCols, hc, Dev.grnCols]
  · rw [Dev.grnRows, hc, Dev.grnRows]
  · rw [Dev.grnPitch, hp, Dev.grnPitch]
  · rw [Dev.gets, hx, Dev.gets]
  · rw [Dev.gets, hy, Dev.gets]
  · unfold Dev.inOwn Dev.cellCorner Dev.effs Dev.eff Dev.gets Dev.grnCols Dev.grnPitch
    rw [hc, hp, hx, hy, hfo]

/-- A SET run of one word at a cell outside the own box (R234, R235). -/
theorem Dev.haloRun_set {d : Dev} {ix col row : Nat} {h g : Gran} (hlate : d.now ≤ nearestNs d.now (bitsOf h.toNat 127 96) + 10 * qUs)
    (hkind : bitsOf h.toNat 73 72 = 0) (hlen : bitsOf h.toNat 71 64 = 1)
    (hx : sInt 32 (bitsOf h.toNat 31 0) = d.gets .GRN_ORIGIN_X_ORIGIN + (col * d.grnPitch : Nat))
    (hy : sInt 32 (bitsOf h.toNat 63 32) = d.gets .GRN_ORIGIN_Y_ORIGIN + (row * d.grnPitch : Nat)) (hpitch : d.grnPitch ≠ 0)
    (hcol : col < d.grnCols) (hrow : row < d.grnRows) (hown : d.inOwn (row * d.grnCols + col) = false) :
    d.haloRun ix h.toNat (runWords [g])
      = d.setCell (row * d.grnCols + col) (cellWord (bitsOf g.toNat 31 0) (d.grnTick (nearestNs d.now (bitsOf h.toNat 127 96)))) := by
  have hdiv (a : Nat) : ((a * d.grnPitch : Nat) : Int) / (d.grnPitch : Int) = a := by
    rw [Nat.cast_mul]; exact Int.mul_ediv_cancel _ (by exact_mod_cast hpitch)
  have hmod (a : Nat) : ((a * d.grnPitch : Nat) : Int) % (d.grnPitch : Int) = 0 := by
    rw [Nat.cast_mul]; exact Int.mul_emod_left ..
  have hrow' : sInt 32 (bitsOf h.toNat 63 32) - d.gets .GRN_ORIGIN_Y_ORIGIN = (row * d.grnPitch : Nat) := by rw [hy]; omega
  have hcol' : sInt 32 (bitsOf h.toNat 31 0) - d.gets .GRN_ORIGIN_X_ORIGIN = (col * d.grnPitch : Nat) := by rw [hx]; omega
  have hws : (runWords [g]).take 1 = [bitsOf g.toNat 31 0] := rfl
  unfold Dev.haloRun
  simp only [hkind, hlen, hrow', hcol', hdiv, hmod, hws, Nat.not_lt.mpr hlate, if_false, ne_eq, not_true, or_self,
    show ¬ (0 = 2) by decide, Dev.haloCells]
  rw [Dev.haloCell_set _ _ hcol hrow hown, cellWord_mod]

theorem execGrainHalo_set (s : State) (dt : Nat) (dev : Fin 1024) (h g : Gran) (ix col row : Nat) (hs : s.dev.inService 46 = true)
    (hp : s.dev.peerFrozen dev = false) (hg : s.dev.grantOk dev 0 none = true)
    (hix : (List.range 8).find? (fun k => s.dev.flag .GRN_PEER_ENABLE k && s.dev.get .GRN_PEER_PEER_ID k == dev.val) = some ix)
    (h38 : s.dev.inService 38 = true) (hlate : s.dev.now + dt ≤ nearestNs (s.dev.now + dt) (bitsOf h.toNat 127 96) + 10 * qUs)
    (hkind : bitsOf h.toNat 73 72 = 0) (hlen : bitsOf h.toNat 71 64 = 1)
    (hx : sInt 32 (bitsOf h.toNat 31 0) = s.dev.gets .GRN_ORIGIN_X_ORIGIN + (col * s.dev.grnPitch : Nat))
    (hy : sInt 32 (bitsOf h.toNat 63 32) = s.dev.gets .GRN_ORIGIN_Y_ORIGIN + (row * s.dev.grnPitch : Nat)) (hpitch : s.dev.grnPitch ≠ 0)
    (hcol : col < s.dev.grnCols) (hrow : row < s.dev.grnRows) (hown : s.dev.inOwn (row * s.dev.grnCols + col) = false) :
    Answers (.grainHalo dt dev [h, g]) s (fun e =>
        e.cell (row * s.dev.grnCols + col) = cellWord (bitsOf g.toNat 31 0) (s.dev.grnTick (nearestNs (s.dev.now + dt) (bitsOf h.toNat 127 96)))
          ∧ (∀ k, k ≠ row * s.dev.grnCols + col → e.cell k = ((s.dev.elapse dt).hear dev).depositsFirst.cell k)
          ∧ ((s.dev.elapse dt).hear dev).depositsFirst.OnlyAt e [] ∧ s.dev.SameMem e) := by
  refine Answers.of_act (show _ = s.act dt _ from execGrainHalo_runs s dt dev [h, g] hs hp hg hix h38) ?_
  have hf := ((s.dev.elapse dt).hear dev).depositsFirst_frame
  rw [Dev.haloRuns_one _ _ _ _ _ (by rw [hlen]; rfl)]
  have hmem : s.dev.SameMem ((s.dev.elapse dt).hear dev).depositsFirst := .trans (e := (s.dev.elapse dt).hear dev) (fun _ => ⟨rfl, rfl, rfl⟩) hf.sameMem
  generalize ((s.dev.elapse dt).hear dev).depositsFirst = d at hf hmem ⊢
  obtain ⟨hcols, hrows, hpit, hox, hoy, hin⟩ := hf.geometry (by decide +kernel) (by decide +kernel)
  have hnow : d.now = s.dev.now + dt := hf.now (by decide +kernel)
  have htick (t : Nat) : d.grnTick t = s.dev.grnTick t := by rw [Dev.grnTick, hf.layer (by decide +kernel)]; rfl
  have hcols' : d.grnCols = s.dev.grnCols := hcols
  have hpit' : d.grnPitch = s.dev.grnPitch := hpit
  rw [Dev.haloRun_set (col := col) (row := row) (by rw [hnow]; exact hlate) hkind hlen (by rw [hpit', hox]; exact hx) (by rw [hpit', hoy]; exact hy)
    (by rw [hpit']; exact hpitch) (by rw [hcols']; exact hcol) (by rw [hrows]; exact hrow) (by rw [hcols', hin]; exact hown), hcols', hnow, htick]
  exact ⟨Dev.cell_setCell_self .., fun k hk => Dev.cell_setCell_ne _ _ hk, (Dev.setCell_frame ..).onlyAt (by decide +kernel),
    hmem.trans (Dev.setCell_frame ..).sameMem⟩

theorem execGrainHalo_end (s : State) (dt : Nat) (dev : Fin 1024) (h : Gran) (ix : Nat) (hs : s.dev.inService 46 = true)
    (hp : s.dev.peerFrozen dev = false) (hg : s.dev.grantOk dev 0 none = true)
    (hix : (List.range 8).find? (fun k => s.dev.flag .GRN_PEER_ENABLE k && s.dev.get .GRN_PEER_PEER_ID k == dev.val) = some ix)
    (h38 : s.dev.inService 38 = true) (hlate : s.dev.now + dt ≤ nearestNs (s.dev.now + dt) (bitsOf h.toNat 127 96) + 10 * qUs)
    (hkind : bitsOf h.toNat 73 72 = 2) (hlen : bitsOf h.toNat 71 64 = 0) :
    Answers (.grainHalo dt dev [h]) s (fun e => hasBit (e.get .GRN_STAT_STALE) ix = false ∧ Tab.get 0 e.grain.lastEnd ix = (s.dev.elapse dt).run
        ∧ e.grain.cells = ((s.dev.elapse dt).hear dev).depositsFirst.grain.cells
        ∧ ((s.dev.elapse dt).hear dev).depositsFirst.OnlyAt e [(.GRN_STAT_STALE, 0, 0)] ∧ s.dev.SameMem e) := by
  refine Answers.of_act (show _ = s.act dt _ from execGrainHalo_runs s dt dev [h] hs hp hg hix h38) ?_
  have hf := ((s.dev.elapse dt).hear dev).depositsFirst_frame
  rw [Dev.haloRuns_one _ _ _ _ _ (by rw [hlen]; rfl)]
  have hmem : s.dev.SameMem ((s.dev.elapse dt).hear dev).depositsFirst := .trans (e := (s.dev.elapse dt).hear dev) (fun _ => ⟨rfl, rfl, rfl⟩) hf.sameMem
  generalize ((s.dev.elapse dt).hear dev).depositsFirst = d at hf hmem ⊢
  have hnow : d.now = s.dev.now + dt := hf.now (by decide +kernel)
  have hlt : ix < 8 := List.mem_range.mp (List.mem_of_find?_eq_some hix)
  have hrun : d.haloRun ix h.toNat (runWords []) = ({ d with grain := { d.grain with lastEnd := Tab.set 0 d.grain.lastEnd ix d.run } }).put .GRN_STAT_STALE
      (clearBit (d.get .GRN_STAT_STALE) ix) := by
    unfold Dev.haloRun
    simp only [hnow, hkind, Nat.not_lt.mpr hlate, if_false, if_true]
  rw [hrun]
  refine ⟨?_, (Tab.get_set_self ..).trans (hf.run (by decide +kernel)), rfl, .put (.of_regs .refl rfl) (by simp), hmem.trans fun _ => ⟨rfl, rfl, rfl⟩⟩
  rw [Dev.get_put_self, hasBit_mod_two_pow _ (by exact hlt), hasBit_clearBit_self]

end Sys2Proof.Machine
end

section
/-! The grain map: what is sent, saved and loaded (O44). -/

namespace Sys2Proof.Machine
open Sys2Proof

/-! ### The halo set (R233) -/

/-- A message of a kind with a payload waits to be sent to a device. -/
def Dev.Sends (d : Dev) (kind dst : Nat) (payload : List Gran) : Prop := ∃ m ∈ d.fabOut, m.kind = kind ∧ m.dst = dst ∧ m.payload = payload

theorem Dev.Sends.fabSend {d : Dev} {kind dst : Nat} {payload : List Gran} (h : d.Sends kind dst payload) (m : FabMsg) :
    (d.fabSend m).Sends kind dst payload := by
  obtain ⟨x, hx, h⟩ := h
  exact ⟨x, List.mem_append_left _ hx, h⟩

theorem Dev.fabSend_sends (d : Dev) (m : FabMsg) : (d.fabSend m).Sends m.kind m.dst m.payload :=
  ⟨_, List.mem_append_right _ (List.mem_singleton.mpr rfl), rfl, rfl, rfl⟩

/-- Every peer is sent every run. -/
theorem Dev.sendRuns_sends {peers : List Nat} {set : List (List Gran)} {p : Nat} {g : List Gran} (hp : p ∈ peers) (hg : g ∈ set) (d : Dev) :
    (peers.foldl (fun d p => set.foldl (fun d g => d.fabSend { kind := 0x13, dst := p, payload := g }) d) d).Sends 0x13 p g :=
  foldl_reach (P := (Dev.Sends · 0x13 p g)) hp
    (fun x => foldl_reach (P := (Dev.Sends · 0x13 p g)) hg (fun y => y.fabSend_sends _) (fun _ _ h => h.fabSend _) x)
    (fun _ _ h => foldl_keep (P := (Dev.Sends · 0x13 p g)) h (fun _ _ h => h.fabSend _) _) d

/-- The END run closes every halo set. -/
theorem Dev.grainSet_end (d : Dev) : [BitVec.ofNat 128 (2 * 2 ^ 72 + nsOf d.now * 2 ^ 96)] ∈ d.grainSet.1 := by
  have hrun : d.runOf 2 0 [] = [BitVec.ofNat 128 (2 * 2 ^ 72 + nsOf d.now * 2 ^ 96)] := by simp [Dev.runOf, runGranules, uInt]
  rw [← hrun]
  exact List.mem_append_right _ (List.mem_singleton.mpr rfl)

theorem Dev.cellErrors_none {d : Dev} (h : d.grain.bad = []) (p : Nat → Bool) : d.cellErrors p = d := by
  rw [Dev.cellErrors, h]; rfl

/-- With no cell in error a halo set reads the cells and changes none. -/
theorem Dev.grainSet_clean {d : Dev} (h : d.grain.bad = []) : d.grainSet.2.grain.cells = d.grain.cells ∧ d.OnlyAt d.grainSet.2 [(.GRN_HALO_CNT_DEFER, 0, 0)] := by
  unfold Dev.grainSet
  simp only [Dev.cellErrors_none h]
  exact ⟨rfl, .put (.of_regs .refl rfl) (by simp)⟩

/-- The halo set sent to every peer. -/
def Dev.sendHalo (d : Dev) : Dev :=
  d.grainPeers.foldl (fun x p => d.grainSet.1.foldl (fun x g => x.fabSend { kind := 0x13, dst := p, payload := g }) x) d.grainSet.2

theorem Dev.sendHalo_frame (d : Dev) : Frame 0x6000000 d.grainSet.2 d.sendHalo :=
  Frame.foldl .refl fun _ _ h => Frame.foldl h fun _ _ h => h.step' (Dev.fabSend_frame ..) (by decide +kernel)

theorem execGrainHaloSend_shows (s : State) (dt : Nat) (ht : (s.dev.now + dt) % (10 * qUs) = 0) (hd : s.dev.drives = true) (hs : s.dev.inService 38 = true) :
    Answers (.grainHaloSend dt) s (fun e => (∀ p ∈ s.dev.grainPeers, ∃ m ∈ e.fabOut, m.kind = 0x13 ∧ m.dst = p
        ∧ m.payload = [BitVec.ofNat 128 (2 * 2 ^ 72 + nsOf (s.dev.now + dt) * 2 ^ 96)]) ∧ (s.dev.grain.bad = [] → e.grain.cells = s.dev.grain.cells
          ∧ s.dev.OnlyAt e [(.GRN_HALO_CNT_DEFER, 0, 0)]) ∧ s.dev.OnlyIn e [.GRN_HALO_CNT, .GRN_STAT, .GRN_CNT, .GRN_LOST] ∧ s.dev.SameMem e) := by
  obtain ⟨e, he, hf⟩ := execGrainHaloSend_frame dt s
  refine ⟨_, he, rfl, ?_⟩
  have hgo : ((s.dev.elapse dt).now % (10 * qUs) == 0 && (s.dev.elapse dt).sendsHalo && (s.dev.elapse dt).inService 38) = true := by
    simp only [Bool.and_eq_true, beq_iff_eq]
    exact ⟨⟨ht, hd⟩, hs⟩
  have heq : e = (s.dev.elapse dt).when (!(s.dev.elapse dt).grainPeers.isEmpty) Dev.sendHalo := by
    refine (congrArg State.dev (Host.Outcome.next.inj he)).symm.trans (congrArg (fun c => (s.dev.elapse dt).when c Dev.sendHalo) ?_)
    rw [hgo, Bool.true_and]
  refine ⟨fun p hp => ?_, fun hb => ?_, hf.onlyIn (by decide +kernel), hf.sameMem⟩
  · have hp' : p ∈ (s.dev.elapse dt).grainPeers := hp
    have hne : (!(s.dev.elapse dt).grainPeers.isEmpty) = true := by
      simpa using List.ne_nil_of_mem hp'
    rw [heq, hne, Dev.when_true]
    exact Dev.sendRuns_sends hp' (s.dev.elapse dt).grainSet_end _
  · obtain ⟨hc, ho⟩ := Dev.grainSet_clean (d := s.dev.elapse dt) hb
    rw [heq]
    unfold Dev.when
    split
    · have hsend := (s.dev.elapse dt).sendHalo_frame
      exact ⟨(congrArg Grain.cells (hsend.grain rfl)).trans hc, Dev.OnlyAt.trans ho (hsend.onlyAt (by decide +kernel))⟩
    · exact ⟨rfl, Dev.elapse_onlyAt⟩

/-! ### Descriptors and the bytes they write (R80, R97) -/

theorem Dev.Takes.elapse {d : Dev} {id op : Nat} {j : Job} (h : d.Takes id op j) (dt : Nat) : (d.elapse dt).Takes id op j :=
  ⟨h.held, h.opcode, h.taken, h.code, h.replay, h.orphan, h.entry, h.kept, h.live⟩

theorem Bytes.wrote_writeList (m : Bytes) (a : Nat) (bs : List Byte) : (m.writeList a bs).Wrote m a bs := fun x => by
  split
  · rename_i hx
    obtain ⟨k, rfl⟩ := Nat.exists_eq_add_of_le hx.1
    rw [Bytes.read_writeList_in _ _ _ _ (by omega)]
    congr 1; omega
  · exact Bytes.read_writeList_out _ _ _ _ (by omega)

/-- A function that may write, with nothing held back, writes a range of its window and its descriptor completes. -/
theorem Dev.saveTo_writes {d : Dev} {j : Job} {a : Nat} {bs : List Byte} (code : Nat) (hr : d.rangeCause j.fn a bs.length false true = none)
    (hw : d.mayWrite j.fn = true) (hh : (d.fn j.fn).held = []) : d.saveTo j a bs code = (d.hostWrite j.fn a bs).complete j.id code := by
  simp [Dev.saveTo, Dev.jobWrite, Dev.hostOut, hr, hw, hh]

/-- What such a descriptor leaves: the bytes in host memory, its completion, and what neither touches. -/
theorem Dev.Takes.saved {d e : Dev} {id op : Nat} {j : Job} {a : Nat} {bs : List Byte} (h : d.Takes id op j) (code : Nat) (hj : e.jobs = d.jobs)
    (hs : e.get .SYS_LAYER_STAT_STATE = d.get .SYS_LAYER_STAT_STATE) (hr : e.rangeCause j.fn a bs.length false true = none)
    (hw : e.mayWrite j.fn = true) (hh : (e.fn j.fn).held = []) :
    (e.saveTo j a bs code).host.Wrote e.host a bs ∧ (e.saveTo j a bs code).Done j code ∧ (e.saveTo j a bs code).dram = e.dram
      ∧ (e.saveTo j a bs code).flash = e.flash := by
  rw [Dev.saveTo_writes code hr hw hh, h.id_eq]
  have hf := Dev.complete_frame (e.hostWrite j.fn a bs) id code
  refine ⟨?_, h.complete (e := e.hostWrite j.fn a bs) code hj hs, hf.dram rfl, hf.flash rfl⟩
  rw [hf.host rfl]
  exact Bytes.wrote_writeList e.host a bs

/-! ### Cells in error (R232) -/

@[simp] theorem Dev.cell_noteCell (d : Dev) (k : Nat) : (d.noteCell k).cell = d.cell := by
  unfold Dev.noteCell; split <;> rfl

@[simp] theorem Dev.bad_noteCell (d : Dev) (k : Nat) : (d.noteCell k).grain.bad = d.grain.bad := by
  unfold Dev.noteCell; split <;> rfl

theorem Dev.cell_cellError (d : Dev) (k l : Nat) : (d.cellError k).cell l = if l = k then cellWord 0 (d.grnTick d.now) else d.cell l := by
  rw [Dev.cellError, Dev.cell_noteCell]
  split
  · subst l; exact Dev.cell_setCell_self ..
  · rename_i h; exact Dev.cell_setCell_ne _ _ h

theorem Dev.bad_cellError (d : Dev) (k : Nat) : (d.cellError k).grain.bad = d.grain.bad.filter (· != k) := by
  rw [Dev.cellError, Dev.bad_noteCell]; rfl

/-- The lost tiles after a cell's error: those lost before, and its own. -/
theorem Dev.isLost_cellError (d : Dev) (k l : Nat) (h : l = k ∨ d.isLost l = true) : (d.cellError k).isLost l = true := by
  have hf := d.cellError_frame k
  obtain ⟨hcols, hrows, -⟩ := hf.geometry (by decide +kernel) (by decide +kernel)
  have htile : (d.cellError k).tileBit l = d.tileBit l := by rw [Dev.tileBit, hcols, hrows, Dev.tileBit]
  have hlt : (d.tileBit l).2 < 32 := Nat.mod_lt _ (by decide)
  have hget (i : Nat) : (d.cellError k).get .GRN_LOST_TILES i = (d.loseTile k).get .GRN_LOST_TILES i := by
    rw [Dev.cellError, (Dev.noteCell_frame ..).get _ _ _ (by decide +kernel), (Dev.setCell_frame ..).get _ _ _ (by decide +kernel),
      (Dev.bump_frame ..).get _ _ _ (by decide +kernel)]
  rw [Dev.isLost, htile, hget, Dev.loseTile, Dev.get_raise_ne _ _ _ _ _ _ _ (by decide)]
  by_cases hi : (d.tileBit l).1 = (d.tileBit k).1
  · rw [hi, Dev.get_put_self, hasBit_mod_two_pow _ (by exact hlt), hasBit_setBit]
    rcases h with rfl | h
    · simp
    · rw [Dev.isLost, hi] at h
      simp [h]
  · rcases h with rfl | h
    · exact absurd rfl hi
    · rw [Dev.get_put_inst hi]; exact h

theorem Frame.isLost {w : Nat} {d e : Dev} (h : Frame w d e) (hw : maskOut [.GRN_LOST_TILES, .GRN_GEOM_COLS_LOG2] w = true) (k : Nat) :
    e.isLost k = d.isLost k := by
  have hc := h.get_out hw (f := .GRN_GEOM_COLS_LOG2) (by decide) 0 0
  have ht := h.get_out hw (f := .GRN_LOST_TILES) (by decide)
  unfold Dev.isLost Dev.tileBit Dev.grnCols Dev.grnRows
  rw [hc]
  simp only [ht]

/-- A cell whose error has been found. -/
structure Dev.CellLost (d : Dev) (c : Nat) : Prop where
  cell : d.cell c = cellWord 0 (d.grnTick d.now)
  lost : d.isLost c = true
  good : c ∉ d.grain.bad

theorem Dev.cellError_lost (d : Dev) (k c : Nat) (h : c = k ∨ d.CellLost c) : (d.cellError k).CellLost c := by
  have hf := d.cellError_frame k
  refine ⟨?_, d.isLost_cellError k c (h.imp_right (·.lost)), ?_⟩
  · have htick : (d.cellError k).grnTick (d.cellError k).now = d.grnTick d.now := by
      rw [Dev.grnTick, hf.now (by decide +kernel), hf.layer (by decide +kernel), Dev.grnTick]
    rw [Dev.cell_cellError, htick]
    split
    · rfl
    · rename_i hne; exact (h.resolve_left hne).cell
  · rw [Dev.bad_cellError]
    rcases h with rfl | h
    · simp
    · simp [h.good]

theorem Dev.cellErrors_lost {d : Dev} {p : Nat → Bool} {c : Nat} (hc : c ∈ d.grain.bad) (hp : p c = true) : (d.cellErrors p).CellLost c :=
  foldl_reach (P := (Dev.CellLost · c)) (List.mem_filter.mpr ⟨hc, hp⟩) (fun x => x.cellError_lost c c (.inl rfl))
    (fun x k h => x.cellError_lost k c (.inr h)) d

/-! ### Saving and loading (R238) -/

/-- Cells loaded hold the words read. -/
theorem Dev.loadCells_cell (d : Dev) (f : Nat → Nat) {l : List Nat} {k : Nat} (hk : k ∈ l) :
    (l.foldl (fun d k => (d.setCell k (f k)).noteCell k) d).cell k = f k := by
  refine foldl_reach (P := fun d => d.cell k = f k) hk (fun x => ?_) (fun x b h => ?_) d
  · rw [Dev.cell_noteCell, Dev.cell_setCell_self]
  · rw [Dev.cell_noteCell]
    by_cases hb : k = b
    · subst hb; exact Dev.cell_setCell_self ..
    · rw [Dev.cell_setCell_ne _ _ hb]; exact h

theorem mem_rangeFrom {a n k : Nat} : k ∈ rangeFrom a n ↔ a ≤ k ∧ k < a + n := by
  simp only [rangeFrom, List.mem_map, List.mem_range]
  exact ⟨by rintro ⟨i, hi, rfl⟩; omega, fun h => ⟨k - a, by omega, by omega⟩⟩

/-- What GRN_SAVE of rows that the map holds does. -/
theorem execGrnSave_saves {s : State} {dt job : Nat} {j : Job} {k n : Nat} (h : s.dev.Takes job 0x48 j) (hk : s.dev.grnRange j = .ok (k, n)) :
    execGrnSave dt job s = s.act dt (fun d => (d.cellErrors (fun c => decide (k ≤ c ∧ c < k + n))).saveTo j j.addr (s.dev.savedCells k n)
      (if d.grain.bad.any (fun c => decide (k ≤ c ∧ c < k + n)) then 0x0591 else 0)) := by
  have hk' : (s.dev.elapse dt).grnRange j = .ok (k, n) := hk
  unfold execGrnSave State.act
  refine congrArg (fun d => Host.Outcome.next { s with dev := d }) ((Dev.withJob_takes (h.elapse dt) _).trans ?_)
  simp only [hk']
  rfl

theorem execGrnSave_clean (s : State) (dt job : Nat) (j : Job) (k n : Nat) (h : s.dev.Takes job 0x48 j) (hk : s.dev.grnRange j = .ok (k, n))
    (hb : s.dev.grain.bad = []) (hr : s.dev.rangeCause j.fn j.addr (s.dev.savedCells k n).length false true = none)
    (hw : s.dev.mayWrite j.fn = true) (hh : (s.dev.fn j.fn).held = []) :
    Answers (.grnSave dt job) s (fun e => e.host.Wrote s.dev.host j.addr (s.dev.savedCells k n) ∧ e.Done j 0
        ∧ e.grain.cells = s.dev.grain.cells ∧ e.dram = s.dev.dram ∧ e.flash = s.dev.flash) := by
  refine Answers.of_act (show _ = s.act dt _ from execGrnSave_saves h hk) ?_
  have hb' : (s.dev.elapse dt).grain.bad = [] := hb
  rw [Dev.cellErrors_none hb', hb']
  obtain ⟨hwrote, hdone, hdram, hflash⟩ := (h.elapse dt).saved (e := s.dev.elapse dt) (bs := s.dev.savedCells k n) 0 rfl rfl hr hw hh
  exact ⟨hwrote, hdone, congrArg Grain.cells ((Dev.saveTo_frame ..).grain (by decide +kernel)), hdram, hflash⟩

theorem execGrnSave_lost (s : State) (dt job : Nat) (j : Job) (k n c : Nat) (h : s.dev.Takes job 0x48 j) (hk : s.dev.grnRange j = .ok (k, n))
    (hc : c ∈ s.dev.grain.bad) (hlo : k ≤ c) (hhi : c < k + n)
    (hr : s.dev.rangeCause j.fn j.addr (s.dev.savedCells k n).length false true = none)
    (hw : s.dev.mayWrite j.fn = true) (hh : (s.dev.fn j.fn).held = []) :
    Answers (.grnSave dt job) s (fun e => e.host.Wrote s.dev.host j.addr (s.dev.savedCells k n) ∧ e.Done j 0x0591
        ∧ e.cell c = cellWord 0 (s.dev.grnTick (s.dev.now + dt)) ∧ e.isLost c = true ∧ c ∉ e.grain.bad
        ∧ e.dram = s.dev.dram ∧ e.flash = s.dev.flash) := by
  refine Answers.of_act (show _ = s.act dt _ from execGrnSave_saves h hk) ?_
  have hp : decide (k ≤ c ∧ c < k + n) = true := by simp [hlo, hhi]
  have hany : (s.dev.elapse dt).grain.bad.any (fun c => decide (k ≤ c ∧ c < k + n)) = true := List.any_eq_true.mpr ⟨c, hc, hp⟩
  have hlost := Dev.cellErrors_lost (d := s.dev.elapse dt) (p := fun c => decide (k ≤ c ∧ c < k + n)) hc hp
  have hf := Dev.cellErrors_frame (s.dev.elapse dt) (fun c => decide (k ≤ c ∧ c < k + n))
  rw [hany]
  simp only [if_true]
  generalize (s.dev.elapse dt).cellErrors _ = x at hlost hf ⊢
  obtain ⟨hwrote, hdone, hdram, hflash⟩ := (h.elapse dt).saved (e := x) (bs := s.dev.savedCells k n) 0x0591 (hf.jobs (by decide +kernel))
    (hf.get _ _ _ (by decide +kernel)) (by rw [hf.rangeCause (by decide +kernel)]; exact hr) (by rw [hf.mayWrite]; exact hw)
    (by rw [hf.fn]; exact hh)
  have hs := Dev.saveTo_frame x j j.addr (s.dev.savedCells k n) 0x0591
  have hgrain : (x.saveTo j j.addr (s.dev.savedCells k n) 0x0591).grain = x.grain := hs.grain (by decide +kernel)
  have htick : x.grnTick x.now = s.dev.grnTick (s.dev.now + dt) := by
    rw [Dev.grnTick, hf.now (by decide +kernel), hf.layer (by decide +kernel)]; rfl
  have hwrote' : (x.saveTo j j.addr (s.dev.savedCells k n) 0x0591).host.Wrote s.dev.host j.addr (s.dev.savedCells k n) := by
    rw [hf.host (by decide +kernel)] at hwrote; exact hwrote
  refine ⟨hwrote', hdone, ?_, (hs.isLost (by decide +kernel) c).trans hlost.lost, ?_, hdram.trans (hf.dram (by decide +kernel)),
    hflash.trans (hf.flash (by decide +kernel))⟩
  · rw [Dev.cell, hgrain, ← htick]; exact hlost.cell
  · rw [hgrain]; exact hlost.good

/-- Cells loaded change the map, and nothing beside it but what the partner is sent again. -/
theorem Dev.loadCells_frame (d : Dev) (f : Nat → Nat) (l : List Nat) : Frame 0x20040000000 d (l.foldl (fun d k => (d.setCell k (f k)).noteCell k) d) :=
  Frame.foldl .refl fun _ _ h => (h.step' (Dev.setCell_frame ..) (by decide +kernel)).step' (Dev.noteCell_frame ..) (by decide +kernel)

theorem execGrnLoad_loads (s : State) (dt job : Nat) (j : Job) (k n : Nat) (h : s.dev.Takes job 0x49 j) (hk : s.dev.grnRange j = .ok (k, n))
    (hs : s.dev.get .SYS_LAYER_STAT_STATE = 8) :
    Answers (.grnLoad dt job) s (fun e => (∀ i < n, e.cell (k + i) = (runWords (j.data.getD [])).getD i 0) ∧ e.Done j 0 ∧ s.dev.SameMem e) := by
  refine Answers.of_act (show _ = execGrnLoad dt job s from rfl) ?_
  have hk' : (s.dev.elapse dt).grnRange j = .ok (k, n) := hk
  rw [Dev.withJob_takes (h.elapse dt)]
  simp only [hk', Dev.get_elapse, hs, ne_eq, not_true, if_false]
  have hf := (s.dev.elapse dt).loadCells_frame (fun c => (runWords (j.data.getD [])).getD (c - k) 0) (rangeFrom k n)
  have hcell (i : Nat) (hi : i < n) := (s.dev.elapse dt).loadCells_cell (fun c => (runWords (j.data.getD [])).getD (c - k) 0)
    (mem_rangeFrom.mpr ⟨Nat.le_add_right k i, Nat.add_lt_add_left hi k⟩)
  generalize List.foldl _ _ _ = x at hf hcell ⊢
  have hc := Dev.complete_frame x j.id 0
  refine ⟨fun i hi => ?_, ?_, Dev.elapse_sameMem.trans (hf.sameMem.trans hc.sameMem)⟩
  · rw [Dev.cell, hc.grain (by decide +kernel)]
    exact (hcell i hi).trans (by rw [Nat.add_sub_cancel_left])
  · rw [h.id_eq]
    exact (h.elapse dt).complete 0 (hf.jobs (by decide +kernel)) (hf.get _ _ _ (by decide +kernel))

theorem execGrnLoad_refused (s : State) (dt job : Nat) (j : Job) (k n : Nat) (h : s.dev.Takes job 0x49 j) (hk : s.dev.grnRange j = .ok (k, n))
    (hs : s.dev.get .SYS_LAYER_STAT_STATE ≠ 8) :
    Answers (.grnLoad dt job) s (fun e => e.Done j 0x0390 ∧ e.grain = s.dev.grain ∧ s.dev.SameMem e) := by
  refine Answers.of_act (show _ = execGrnLoad dt job s from rfl) ?_
  have hk' : (s.dev.elapse dt).grnRange j = .ok (k, n) := hk
  rw [Dev.withJob_takes (h.elapse dt)]
  simp only [hk', Dev.get_elapse, hs, ne_eq, not_false_eq_true, if_true]
  have hc := Dev.complete_frame (s.dev.elapse dt) j.id 0x0390
  refine ⟨?_, hc.grain (by decide +kernel), Dev.elapse_sameMem.trans hc.sameMem⟩
  rw [h.id_eq]
  exact (h.elapse dt).complete 0x0390 rfl rfl

/-- Settles O44: geometry, halo, silence, save and load, a clause each. -/
theorem grainMap : Obligations.GrainMap := by
  refine ⟨fun s dt k value hz _ hs hr => execGrnGeomWrite_taken s dt k value hz hs hr, execGrnGeomWrite_rejected, execGrainHaloSend_shows,
    ?_, ?_, execGrainPeerSilent_shows, execGrnSave_clean, execGrnSave_lost, execGrnLoad_loads, execGrnLoad_refused⟩
  · rintro s dt dev h g ix col row d rfl h46 hp hg hix h38 hlate hkind hlen hx hy hpitch hcol hrow hown
    exact execGrainHalo_set s dt dev h g ix col row h46 hp hg hix h38 hlate hkind hlen hx hy hpitch hcol hrow hown
  · rintro s dt dev h ix d rfl h46 hp hg hix h38 hlate hkind hlen
    exact execGrainHalo_end s dt dev h ix h46 hp hg hix h38 hlate hkind hlen

end Sys2Proof.Machine
end

section
/-! Axes: what their operations do to an axis, and what an axis takes (O47). -/

namespace Sys2Proof.Machine
open Sys2Proof

/-! ### One axis and the others -/

theorem Frame.axis {w : Nat} {d e : Dev} (h : Frame w d e) (a : Nat) (hw : w.testBit 32 = false := by decide +kernel) : e.axis a = d.axis a := by
  rw [Dev.axis, h.axes hw, Dev.axis]

@[simp] theorem Dev.axis_modAxis_self (d : Dev) (a : Nat) (g : Axis → Axis) : (d.modAxis a g).axis a = g (d.axis a) := Dev.axis_setAxis_self ..

theorem Dev.axis_modAxis_ne (d : Dev) {a b : Nat} (g : Axis → Axis) (h : b ≠ a) : (d.modAxis a g).axis b = d.axis b := Dev.axis_setAxis_ne _ _ _ _ h

/-- What a new profile changes of an axis: where it starts, when, its stretches and its target. -/
def Axis.Profiled (x y : Axis) (t0 : Nat) (target : Int) : Prop :=
  ∃ p v acc segs fin vlim, y = { x with p0 := p, v0 := v, a0 := acc, t0 := t0, segs := segs, finalAt := fin, target := target, holding := false, vlim := vlim }

theorem Dev.setProfile_profiled (d : Dev) (a : Nat) (segs : List (Nat × Int)) (fin : Nat) (target : Int) :
    (d.axis a).Profiled ((d.setProfile a segs fin target).axis a) d.run target :=
  ⟨_, _, _, _, _, _, Dev.axis_modAxis_self ..⟩

theorem Dev.runTo_profiled (d : Dev) (a : Nat) (target : Int) (vlim : Nat) : (d.axis a).Profiled ((d.runTo a target vlim).axis a) d.run target := by
  have h (e : Dev) (he : e.axis a = d.axis a) (hr : e.run = d.run) (segs : List (Nat × Int)) (fin : Nat) :
      (d.axis a).Profiled (((e.setProfile a segs fin target).modAxis a (fun x => { x with vlim := vlim })).axis a) d.run target := by
    obtain ⟨p, v, acc, segs, fin, vl, hx⟩ := e.setProfile_profiled a segs fin target
    rw [Dev.axis_modAxis_self, hx, he, hr]
    exact ⟨_, _, _, _, _, _, rfl⟩
  unfold Dev.runTo
  simp only []
  split
  · exact h _ rfl rfl _ _
  · exact h d rfl rfl _ _

/-! ### Descriptors that begin -/

theorem Dev.Begun.of_jobs {d e : Dev} {j : Job} {t : Nat} (h : d.Begun j t) (hj : e.jobs = d.jobs) : e.Begun j t := by
  unfold Dev.Begun Dev.job at *; rw [hj]; exact h

/-- A taken descriptor begins at the present instant. -/
theorem Dev.Takes.begun {d : Dev} {id op : Nat} {j : Job} (h : d.Takes id op j) : (d.begin' j).Begun j d.now := d.begin_begun j h.self

/-! ### What an axis takes (R282, R283) -/

theorem Dev.axisJob_taken {d : Dev} {job op : Nat} {j : Job} {a : Nat} (h : d.Takes job op j) (hc : d.axisCode j = none) (ht : j.target = 0x50 + a)
    (f : Dev → Job → Nat → Dev) : d.axisJob job op f = f d j a := by
  rw [Dev.axisJob, Dev.withJob_takes h]
  simp only [hc, ht, Nat.add_sub_cancel_left]

theorem Dev.axisJob_refused {d : Dev} {job op c : Nat} {j : Job} (h : d.Takes job op j) (hc : d.axisCode j = some c) (f : Dev → Job → Nat → Dev) :
    d.axisJob job op f = d.complete job c := by
  rw [Dev.axisJob, Dev.withJob_takes h]
  simp only [hc]

/-- One that waits changes nothing. -/
theorem Dev.axisJob_idle {d : Dev} {job op : Nat} {j : Job} (h : d.Takes job op j) (hc : d.axisCode j = none) (f : Dev → Job → Nat → Dev)
    (hf : f d j (j.target - 0x50) = d) : d.axisJob job op f = d := by
  rw [Dev.axisJob, Dev.withJob_takes h]
  simp only [hc, hf]

/-- An immediate descriptor that nothing holds back is taken. -/
theorem Dev.takeImm_taken {d : Dev} {j : Job} {a : Nat}
    (h : ¬ (((d.axis a).home ≠ .none ∧ j.opcode ≠ 0x5a) ∨ d.moveHeld j = true ∨ ((d.axis a).emergency = true ∧ j.motion = true))) :
    d.takeImm j a = (d.begin' j).modAxis a (fun x => { x with imm := x.imm ++ [j.id] }) := if_neg h

/-- What the taking of an immediate descriptor shows. -/
theorem Dev.Takes.imm {d : Dev} {job op : Nat} {j : Job} (h : d.Takes job op j) (a : Nat) :
    (((d.begin' j).modAxis a (fun x => { x with imm := x.imm ++ [j.id] })).axis a).imm = (d.axis a).imm ++ [job]
      ∧ ((d.begin' j).modAxis a (fun x => { x with imm := x.imm ++ [j.id] })).Begun j d.now
      ∧ d.OnlyAt ((d.begin' j).modAxis a (fun x => { x with imm := x.imm ++ [j.id] })) []
      ∧ d.SameMem ((d.begin' j).modAxis a (fun x => { x with imm := x.imm ++ [j.id] })) := by
  have hf := ((Dev.begin'_frame d j).mono (w := 0x100000100) (by decide +kernel)).step'
    (Dev.modAxis_frame (d.begin' j) a (fun x => { x with imm := x.imm ++ [j.id] })) (by decide +kernel)
  refine ⟨?_, h.begun.of_jobs rfl, hf.onlyAt (by decide +kernel), hf.sameMem⟩
  rw [Dev.axis_modAxis_self, (Dev.begin'_frame d j).axis a, h.id_eq]

/-- What a beginning changes before its profile: the descriptor, latched limits, and what a homing clears. -/
def axisBeginMask : Nat :=
  0x1000000000044000000f000000000000000000000000000000000000000000000000000000000000000000000000000000000000000000000000000000000000000000100000100

section Take
variable {s : State} {dt job : Nat} {j : Job} {a : Nat}

/-- A descriptor that an axis takes for the next tick. -/
theorem answers_takeImm {c : Instr} {op : Nat} (hx : exec c s = s.act dt (fun d => d.axisJob job op (fun d j a => d.takeImm j a)))
    (h : s.dev.Takes job op j) (ht : j.target = 0x50 + a) (hc : s.dev.axisCode j = none)
    (hn : ¬ (((s.dev.axis a).home ≠ .none ∧ j.opcode ≠ 0x5a) ∨ s.dev.moveHeld j = true ∨ ((s.dev.axis a).emergency = true ∧ j.motion = true))) :
    Answers c s (fun e => (e.axis a).imm = (s.dev.axis a).imm ++ [job] ∧ e.Begun j (s.dev.now + dt) ∧ s.dev.OnlyAt e [] ∧ s.dev.SameMem e) := by
  refine Answers.of_act hx ?_
  rw [Dev.axisJob_taken (h.elapse dt) hc ht, Dev.takeImm_taken (d := s.dev.elapse dt) hn]
  exact (h.elapse dt).imm a

theorem execAxStop_taken (h : s.dev.Takes job 0x5a j) (ht : j.target = 0x50 + a) (hc : s.dev.axisCode j = none) (he : (s.dev.axis a).emergency = false) :
    Answers (.axStop dt job) s (fun e => (e.axis a).imm = (s.dev.axis a).imm ++ [job] ∧ e.Begun j (s.dev.now + dt) ∧ s.dev.OnlyAt e []
        ∧ s.dev.SameMem e) :=
  answers_takeImm rfl h ht hc (by simp [Dev.moveHeld, h.opcode, he])

theorem execAxLimits_taken (h : s.dev.Takes job 0x5b j) (ht : j.target = 0x50 + a) (hc : s.dev.axisCode j = none) (hh : (s.dev.axis a).home = .none) :
    Answers (.axLimits dt job) s (fun e => (e.axis a).imm = (s.dev.axis a).imm ++ [job] ∧ e.Begun j (s.dev.now + dt) ∧ s.dev.OnlyAt e []
        ∧ s.dev.SameMem e) :=
  answers_takeImm rfl h ht hc (by simp [Dev.moveHeld, Job.motion, h.opcode, hh])

theorem execAxStop_waits (h : s.dev.Takes job 0x5a j) (ht : j.target = 0x50 + a) (hc : s.dev.axisCode j = none) (he : (s.dev.axis a).emergency = true) :
    Answers (.axStop dt job) s (fun e => e.jobs = s.dev.jobs ∧ e.axes = s.dev.axes ∧ s.dev.OnlyAt e [] ∧ s.dev.SameMem e) := by
  refine Answers.of_act (show _ = execAxStop dt job s from rfl) ?_
  have he' : ((s.dev.elapse dt).axis a).emergency = true := he
  rw [Dev.axisJob_taken (h.elapse dt) hc ht, Dev.takeImm, if_pos (by simp [Job.motion, h.opcode, he'])]
  exact ⟨rfl, rfl, Dev.elapse_onlyAt, Dev.elapse_sameMem⟩

theorem execAxMove_retarget (h : s.dev.Takes job 0x58 j) (ht : j.target = 0x50 + a) (hc : s.dev.axisCode j = none) (hi : j.bits 184 184 = 1)
    (he : (s.dev.axis a).emergency = false) (hh : (s.dev.axis a).home = .none) (ho : s.dev.get .SYS_ISL_STAT_HOLDOVER 43 = 0) :
    Answers (.axMove dt job) s (fun e => (e.axis a).imm = (s.dev.axis a).imm ++ [job] ∧ e.Begun j (s.dev.now + dt) ∧ s.dev.OnlyAt e []
        ∧ s.dev.SameMem e) := by
  refine Answers.of_act (show _ = execAxMove dt job s from rfl) ?_
  have hn : ¬ ((((s.dev.elapse dt).axis a).home ≠ .none ∧ j.opcode ≠ 0x5a) ∨ (s.dev.elapse dt).moveHeld j = true
      ∨ (((s.dev.elapse dt).axis a).emergency = true ∧ j.motion = true)) := by
    have he' : ((s.dev.elapse dt).axis a).emergency = false := he
    have hh' : ((s.dev.elapse dt).axis a).home = .none := hh
    simp [Dev.moveHeld, Dev.flag, ho, he', hh']
  rw [Dev.axisJob_taken (h.elapse dt) hc ht, if_pos hi, Dev.takeImm_taken hn]
  exact (h.elapse dt).imm a

theorem execAxMove_refused {c : Nat} (h : s.dev.Takes job 0x58 j) (hc : s.dev.axisCode j = some c) :
    Answers (.axMove dt job) s (fun e => e.Done j c ∧ e.axes = s.dev.axes ∧ s.dev.SameMem e) := by
  refine Answers.of_act (show _ = execAxMove dt job s from rfl) ?_
  rw [Dev.axisJob_refused (h.elapse dt) hc]
  have hf := Dev.complete_frame (s.dev.elapse dt) job c
  exact ⟨(h.elapse dt).complete c rfl rfl, hf.axes (by decide +kernel), Dev.elapse_sameMem.trans hf.sameMem⟩

/-- In holdover no move begins, at once or at a tick (R30). -/
theorem execAxMove_waits (h : s.dev.Takes job 0x58 j) (hc : s.dev.axisCode j = none) (ho : s.dev.get .SYS_ISL_STAT_HOLDOVER 43 = 1) :
    Answers (.axMove dt job) s (fun e => e.jobs = s.dev.jobs ∧ e.axes = s.dev.axes ∧ s.dev.OnlyAt e [] ∧ s.dev.SameMem e) := by
  refine Answers.of_act (show _ = execAxMove dt job s from rfl) ?_
  have hheld : (s.dev.elapse dt).moveHeld j = true := by simp [Dev.moveHeld, Dev.flag, ho, h.opcode]
  have hfree (b : Nat) : (s.dev.elapse dt).moveFree b = false := by simp [Dev.moveFree, Dev.flag, ho]
  rw [Dev.axisJob_idle (h.elapse dt) hc _ (by simp [Dev.takeImm, hheld, hfree])]
  exact ⟨rfl, rfl, Dev.elapse_onlyAt, Dev.elapse_sameMem⟩

theorem execAxMove_starts (h : s.dev.Takes job 0x58 j) (ht : j.target = 0x50 + a) (hc : s.dev.axisCode j = none) (hi : j.bits 184 184 = 0)
    (hm : s.dev.moveFree a = true) :
    Answers (.axMove dt job) s (fun e => e.get .AX_STAT_STATE a = 2 ∧ (e.axis a).job = some job ∧ (e.axis a).target = sInt 32 (j.bits 159 128)
        ∧ (e.axis a).t0 = (s.dev.elapse dt).run ∧ e.Begun j (s.dev.now + dt) ∧ s.dev.SameMem e) := by
  refine Answers.of_act (show _ = execAxMove dt job s from rfl) ?_
  rw [Dev.axisJob_taken (h.elapse dt) hc ht, if_neg (by rw [hi]; decide), if_pos (show (s.dev.elapse dt).moveFree a = true from hm)]
  have hf := ((Dev.begin'_frame (s.dev.elapse dt) j).mono (w := axisBeginMask) (by decide +kernel)).step' (Dev.unlatch_frame _ a) (by decide +kernel)
  have hb := (h.elapse dt).begun.of_jobs ((Dev.unlatch_frame ((s.dev.elapse dt).begin' j) a).jobs (by decide +kernel))
  simp only []
  generalize ((s.dev.elapse dt).begin' j).unlatch a = x at hf hb ⊢
  have hr := Dev.runTo_frame x a (sInt 32 (j.bits 159 128)) (j.bits 183 160)
  obtain ⟨p, v, acc, segs, fin, vl, hp⟩ := x.runTo_profiled a (sInt 32 (j.bits 159 128)) (j.bits 183 160)
  generalize x.runTo a _ _ = y at hr hp ⊢
  refine ⟨Dev.get_put_of_lt (by decide), ?_, ?_, ?_, hb.of_jobs (hr.jobs (by decide +kernel)), ?_⟩
  · rw [Dev.axis_put, Dev.axis_modAxis_self]
  · rw [Dev.axis_put, Dev.axis_modAxis_self, hp]
  · rw [Dev.axis_put, Dev.axis_modAxis_self, hp]
    exact hf.run (by decide +kernel)
  · exact Dev.elapse_sameMem.trans (hf.sameMem.trans (hr.sameMem.trans ((Dev.modAxis_frame ..).sameMem.trans (Dev.put_frame ..).sameMem)))

theorem execAxHome_starts (h : s.dev.Takes job 0x59 j) (ht : j.target = 0x50 + a) (hc : s.dev.axisCode j = none) (hm : s.dev.moveFree a = true) :
    Answers (.axHome dt job) s (fun e => e.get .AX_STAT_STATE a = 3 ∧ e.get .AX_STAT_HOMED a = 0 ∧ (e.axis a).home = .seeking
        ∧ (e.axis a).job = some job ∧ (e.axis a).homeUp = (j.bits 128 128 == 1) ∧ e.Begun j (s.dev.now + dt) ∧ s.dev.SameMem e) := by
  refine Answers.of_act (show _ = execAxHome dt job s from rfl) ?_
  rw [Dev.axisJob_taken (h.elapse dt) hc ht, if_pos (show (s.dev.elapse dt).moveFree a = true from hm)]
  have hf := (((Dev.begin'_frame (s.dev.elapse dt) j).mono (w := axisBeginMask) (by decide +kernel)).step' (Dev.unlatch_frame _ a) (by decide +kernel)).step'
    (Dev.unhome_frame _ a) (by decide +kernel)
  have hb := ((h.elapse dt).begun.of_jobs ((Dev.unlatch_frame ((s.dev.elapse dt).begin' j) a).jobs (by decide +kernel))).of_jobs
    ((Dev.unhome_frame (((s.dev.elapse dt).begin' j).unlatch a) a).jobs (by decide +kernel))
  have hhomed : ((((s.dev.elapse dt).begin' j).unlatch a).unhome a).get .AX_STAT_HOMED a = 0 :=
    (Dev.get_put_ne _ _ _ _ _ _ _ _ (by decide)).trans (Dev.get_put_of_lt (by decide))
  simp only []
  generalize (((s.dev.elapse dt).begin' j).unlatch a).unhome a = x at hf hb hhomed ⊢
  have hr := Dev.runTo_frame x a (if (j.bits 128 128 == 1) = true then microsteps (x.axisKin a).p + 2 ^ 40 else microsteps (x.axisKin a).p - 2 ^ 40)
    (x.get .AX_HOME_SPD_HOME_SPEED a)
  generalize x.runTo a _ _ = y at hr ⊢
  refine ⟨Dev.get_put_of_lt (by decide), ?_, ?_, ?_, ?_, hb.of_jobs (hr.jobs (by decide +kernel)), ?_⟩
  · rw [Dev.get_put_ne _ _ _ _ _ _ _ _ (by decide), (Dev.modAxis_frame ..).get _ _ _ (by decide +kernel), hr.get _ _ _ (by decide +kernel), hhomed]
  · rw [Dev.axis_put, Dev.axis_modAxis_self]
  · rw [Dev.axis_put, Dev.axis_modAxis_self]
  · rw [Dev.axis_put, Dev.axis_modAxis_self]
  · exact Dev.elapse_sameMem.trans (hf.sameMem.trans (hr.sameMem.trans ((Dev.modAxis_frame ..).sameMem.trans (Dev.put_frame ..).sameMem)))

end Take

end Sys2Proof.Machine
end

section
/-! Axes: how moves and homings end, stalls, faults and the coil loop (O47). -/

namespace Sys2Proof.Machine
open Sys2Proof

/-! ### A descriptor that its completion ends (R80, R86) -/

/-- A descriptor that is held and whose completion has an entry of its own. -/
structure Dev.Ends (d : Dev) (id : Nat) (j : Job) : Prop where
  held : d.job id = some j
  code : j.code = none
  replay : j.replay = false
  orphan : j.orphan = false
  entry : j.noCqeOk = false
  kept : d.replayKept j = false

theorem Dev.Ends.frame {w : Nat} {d e : Dev} {id : Nat} {j : Job} (hf : Frame w d e) (h : d.Ends id j) (hj : w.testBit 8 = false := by decide +kernel)
    (hs : w.testBit (64 + Fld.ctorIdx .SYS_LAYER_STAT_STATE) = false := by decide +kernel) : e.Ends id j := by
  refine ⟨?_, h.code, h.replay, h.orphan, h.entry, ?_⟩
  · rw [Dev.job, hf.jobs hj]; exact h.held
  · rw [Dev.replayKept, hf.get _ _ _ hs]; exact h.kept

theorem Dev.Ends.complete {d : Dev} {id : Nat} {j : Job} (h : d.Ends id j) (code : Nat) : (d.complete id code).Done j code := by
  obtain rfl := Dev.job_id h.held
  exact d.complete_done j code h.held h.code h.replay h.orphan h.entry h.kept

theorem Dev.Done.frame {w : Nat} {d e : Dev} {j : Job} {code : Nat} (hf : Frame w d e) (h : d.Done j code) (hj : w.testBit 8 = false := by decide +kernel)
    (hh : w.testBit 10 = false := by decide +kernel) : e.Done j code := h.of (hf.jobs hj) (hf.hostFns hh)

/-! ### Words of a sign -/

theorem uInt_sInt (w x : Nat) : uInt w (sInt w x) = x % 2 ^ w := by
  have hx : x % 2 ^ w < 2 ^ w := Nat.mod_lt _ (Nat.two_pow_pos w)
  have hemod : ((x % 2 ^ w : Nat) : Int) % (2 ^ w : Nat) = (x % 2 ^ w : Nat) := Int.emod_eq_of_lt (by omega) (by exact_mod_cast hx)
  unfold uInt sInt
  split
  · rw [hemod]; rfl
  · rw [show ((x % 2 ^ w : Nat) : Int) - 2 ^ w = (x % 2 ^ w : Nat) - (2 ^ w : Nat) by push_cast; rfl, Int.sub_emod_right, hemod]; rfl

theorem uInt_lt (w : Nat) (v : Int) : uInt w v < 2 ^ w := by
  have h := Int.emod_lt_of_pos v (show (0 : Int) < (2 ^ w : Nat) by exact_mod_cast Nat.two_pow_pos w)
  have h0 := Int.emod_nonneg v (show ((2 ^ w : Nat) : Int) ≠ 0 by exact_mod_cast (Nat.two_pow_pos w).ne')
  unfold uInt
  omega

/-- A signed field set. -/
theorem Dev.get_puts_self (d : Dev) (f : Fld) (v : Int) (i j : Nat) : (d.puts f v i j).get f i j = uInt f.width v :=
  Dev.get_put_of_lt (uInt_lt ..)

/-! ### The end of a move or a homing (R281, R292) -/

theorem Dev.standstill_shows (d : Dev) (a : Nat) : (d.standstill a).get .AX_STAT_STATE a = 1 ∧ (d.standstill a).get .AX_VEL_VALUE a = 0
    ∧ ((d.standstill a).axis a).job = none ∧ ((d.standstill a).axis a).restSince = d.run := by
  unfold Dev.standstill
  simp only []
  refine ⟨Dev.get_put_of_lt (by decide), ?_, ?_, ?_⟩
  · rw [Dev.get_put_ne _ _ _ _ _ _ _ _ (by decide), Dev.get_put_of_lt (Nat.two_pow_pos _)]
  · rw [Dev.axis_put, Dev.axis_put, Dev.axis_puts, Dev.axis_modAxis_self]
  · rw [Dev.axis_put, Dev.axis_put, Dev.axis_puts, Dev.axis_modAxis_self]

/-- A move at rest completes with the code that waits for it. -/
theorem Dev.moveDone_move {d : Dev} {a id : Nat} (hr : d.axisRests a = true) (hs : d.get .AX_STAT_STATE a = 2) (hj : (d.axis a).job = some id)
    (hn : (d.axis a).stopJob = none) : d.moveDone a = (d.standstill a).complete id (d.axis a).endCode := by
  simp only [Dev.moveDone, hr, hs, hj, hn, Bool.true_eq_false, if_false, if_true]

/-- A homing that has backed off completes at its home position. -/
theorem Dev.moveDone_homed {d : Dev} {a id : Nat} (hr : d.axisRests a = true) (hs : d.get .AX_STAT_STATE a = 3) (hh : (d.axis a).home = .backing)
    (hj : (d.axis a).job = some id) : d.moveDone a = ((d.standstill a).homed a).complete id 0 := by
  simp [Dev.moveDone, hr, hs, hj, hh]

theorem Dev.homed_shows (d : Dev) (a : Nat) : (d.homed a).get .AX_STAT_HOMED a = 1 ∧ (d.homed a).get .AX_POS_VALUE a = d.get .AX_HOME_POS_VALUE a % 2 ^ 32
    ∧ (d.homed a).get .ENC_STAT_REF_VALID a = 1 := by
  unfold Dev.homed Dev.takeRef
  simp only []
  refine ⟨?_, ?_, Dev.get_raise⟩
  · rw [Dev.get_raise_ne _ _ _ _ _ _ _ (by decide), (Dev.modEnc_frame ..).get _ _ _ (by decide +kernel), Dev.get_raise]
  · rw [Dev.get_raise_ne _ _ _ _ _ _ _ (by decide), (Dev.modEnc_frame ..).get _ _ _ (by decide +kernel), Dev.get_raise_ne _ _ _ _ _ _ _ (by decide),
      Dev.get_puts_self]
    exact uInt_sInt 32 _

section Cmd
variable {s : State} {dt : Nat} {a : Fin 8} {id : Nat} {j : Job}

theorem Dev.Ends.elapse {d : Dev} (h : d.Ends id j) (dt : Nat) : (d.elapse dt).Ends id j := ⟨h.held, h.code, h.replay, h.orphan, h.entry, h.kept⟩

theorem execAxisMoveDone_move (ht : (s.dev.now + dt) % (10000 * qNs) = 0) (hr : (s.dev.elapse dt).axisRests a = true)
    (hs : s.dev.get .AX_STAT_STATE a = 2) (hj : (s.dev.axis a).job = some id) (hn : (s.dev.axis a).stopJob = none) (hc : (s.dev.axis a).endCode = 0)
    (h : s.dev.Ends id j) :
    Answers (.axisMoveDone dt a) s (fun e => e.get .AX_STAT_STATE a = 1 ∧ e.get .AX_VEL_VALUE a = 0 ∧ (e.axis a).job = none ∧ e.Done j 0
        ∧ (e.axis a).restSince = (s.dev.elapse dt).run ∧ s.dev.SameMem e) := by
  refine Answers.of_act (show _ = execAxisMoveDone dt a s from rfl) ?_
  rw [show (s.dev.elapse dt).atTick 10000 = true from beq_iff_eq.mpr ht, Dev.when_true, Dev.moveDone_move hr hs hj hn,
    show ((s.dev.elapse dt).axis a).endCode = 0 from hc]
  obtain ⟨hst, hv, hjob, hrest⟩ := (s.dev.elapse dt).standstill_shows a
  have hf := (s.dev.elapse dt).standstill_frame a
  have hends := (h.elapse dt).frame hf
  generalize (s.dev.elapse dt).standstill a = x at hst hv hjob hrest hf hends ⊢
  have hcf := Dev.complete_frame x id 0
  exact ⟨(hcf.get _ _ _ (by decide +kernel)).trans hst, (hcf.get _ _ _ (by decide +kernel)).trans hv, by rw [hcf.axis a]; exact hjob,
    hends.complete 0, by rw [hcf.axis a]; exact hrest, Dev.elapse_sameMem.trans (hf.sameMem.trans hcf.sameMem)⟩

theorem execAxisMoveDone_homed (ht : (s.dev.now + dt) % (10000 * qNs) = 0) (hr : (s.dev.elapse dt).axisRests a = true)
    (hs : s.dev.get .AX_STAT_STATE a = 3) (hh : (s.dev.axis a).home = .backing) (hj : (s.dev.axis a).job = some id) (h : s.dev.Ends id j) :
    Answers (.axisMoveDone dt a) s (fun e => e.get .AX_STAT_STATE a = 1 ∧ e.get .AX_STAT_HOMED a = 1
        ∧ e.get .AX_POS_VALUE a = s.dev.get .AX_HOME_POS_VALUE a % 2 ^ 32 ∧ e.get .ENC_STAT_REF_VALID a = 1 ∧ e.Done j 0 ∧ s.dev.SameMem e) := by
  refine Answers.of_act (show _ = execAxisMoveDone dt a s from rfl) ?_
  rw [show (s.dev.elapse dt).atTick 10000 = true from beq_iff_eq.mpr ht, Dev.when_true, Dev.moveDone_homed hr hs hh hj]
  obtain ⟨hst, -⟩ := (s.dev.elapse dt).standstill_shows a
  have hf := (s.dev.elapse dt).standstill_frame a
  generalize (s.dev.elapse dt).standstill a = x at hst hf ⊢
  obtain ⟨hhomed, hpos, href⟩ := x.homed_shows a
  have hg := x.homed_frame a
  have hends := ((h.elapse dt).frame hf).frame hg
  generalize x.homed a = y at hhomed hpos href hg hends ⊢
  have hcf := Dev.complete_frame y id 0
  refine ⟨?_, (hcf.get _ _ _ (by decide +kernel)).trans hhomed, ?_, (hcf.get _ _ _ (by decide +kernel)).trans href, hends.complete 0,
    Dev.elapse_sameMem.trans (hf.sameMem.trans (hg.sameMem.trans hcf.sameMem))⟩
  · rw [hcf.get _ _ _ (by decide +kernel), hg.get _ _ _ (by decide +kernel), hst]
  · rw [hcf.get _ _ _ (by decide +kernel), hpos, hf.get _ _ _ (by decide +kernel)]; rfl

/-! ### Homing against the stop (R292) -/

theorem execHomePressDone_backs (hh : (s.dev.axis a).home = .pressing) (hp : (s.dev.axis a).pressed + 20 * qMs ≤ (s.dev.elapse dt).run) :
    Answers (.homePressDone dt a) s (fun e => (e.axis a).home = .backing ∧ (e.axis a).target = microsteps ((s.dev.elapse dt).axisKin a).p
          + (if (s.dev.axis a).homeUp = true then -(s.dev.get .AX_HOME_BACK_BACKOFF a : Int) else s.dev.get .AX_HOME_BACK_BACKOFF a)
        ∧ s.dev.OnlyIn e [.AX_STAT] ∧ s.dev.SameMem e) := by
  refine Answers.of_act (show _ = execHomePressDone dt a s from rfl) ?_
  have hgo : decide (((s.dev.elapse dt).axis a).home = .pressing ∧ ((s.dev.elapse dt).axis a).pressed + 20 * qMs ≤ (s.dev.elapse dt).run) = true :=
    decide_eq_true ⟨hh, hp⟩
  simp only [hgo, Dev.when_true]
  generalize htgt : (if ((s.dev.elapse dt).axis a).homeUp = true then _ else _ : Int) = t
  have hf := Dev.runTo_frame (s.dev.elapse dt) a t ((s.dev.elapse dt).get .AX_HOME_SPD_HOME_SPEED a)
  obtain ⟨p, v, acc, segs, fin, vl, hx⟩ := (s.dev.elapse dt).runTo_profiled a t ((s.dev.elapse dt).get .AX_HOME_SPD_HOME_SPEED a)
  generalize (s.dev.elapse dt).runTo a _ _ = x at hf hx ⊢
  have hm := hf.step' (Dev.modAxis_frame x a (fun x => { x with home := .backing })) (by decide +kernel)
  refine ⟨by rw [Dev.axis_modAxis_self], ?_, Dev.elapse_onlyIn.trans (hm.onlyIn (by decide +kernel)), Dev.elapse_sameMem.trans hm.sameMem⟩
  rw [Dev.axis_modAxis_self, hx]
  show t = _
  rw [← htgt]
  show (if (s.dev.axis a).homeUp = true then _ else _ : Int) = _
  split <;> rfl

theorem execHomeNoStop_ends (hh : (s.dev.axis a).home = .seeking) (hm : s.dev.get .AX_HOME_MAX_VALUE a ≠ 0)
    (hw : s.dev.get .AX_HOME_MAX_VALUE a * fineP.toNat ≤ (((s.dev.elapse dt).axisKin a).p - (s.dev.axis a).homeFrom * fineP).natAbs) :
    Answers (.homeNoStop dt a) s (fun e => (e.axis a).home = .ending ∧ s.dev.OnlyAt e [] ∧ s.dev.SameMem e) := by
  refine Answers.of_act (show _ = execHomeNoStop dt a s from rfl) ?_
  have hgo : decide (((s.dev.elapse dt).axis a).home = .seeking ∧ (s.dev.elapse dt).get .AX_HOME_MAX_VALUE a ≠ 0
      ∧ (s.dev.elapse dt).get .AX_HOME_MAX_VALUE a * fineP.toNat
        ≤ (((s.dev.elapse dt).axisKin a).p - ((s.dev.elapse dt).axis a).homeFrom * fineP).natAbs) = true := decide_eq_true ⟨hh, hm, hw⟩
  simp only [hgo, Dev.when_true]
  have hf := ((Dev.runStop_frame (s.dev.elapse dt) a).mono (w := 0x100000000) (by decide +kernel)).step'
    (Dev.modAxis_frame ((s.dev.elapse dt).runStop a) a (fun x => { x with home := .ending })) (by decide +kernel)
  exact ⟨by rw [Dev.axis_modAxis_self], Dev.elapse_onlyAt.trans (hf.onlyAt (by decide +kernel)), Dev.elapse_sameMem.trans hf.sameMem⟩

theorem execHoldDelayExpire_holds (hr : (s.dev.elapse dt).axisRests a = true)
    (hw : (s.dev.axis a).restSince + s.dev.get .AX_LA_HOLD_DELAY_MS a * qMs ≤ (s.dev.elapse dt).run) :
    Answers (.holdDelayExpire dt a) s (fun e => (e.axis a).holding = true ∧ s.dev.OnlyAt e [] ∧ s.dev.SameMem e) := by
  refine Answers.of_act (show _ = execHoldDelayExpire dt a s from rfl) ?_
  have hgo : decide (((s.dev.elapse dt).axis a).restSince + (s.dev.elapse dt).get .AX_LA_HOLD_DELAY_MS a * qMs ≤ (s.dev.elapse dt).run) = true :=
    decide_eq_true hw
  simp only [hr, hgo, Bool.and_self, Dev.when_true]
  have hf := Dev.modAxis_frame (s.dev.elapse dt) a (fun x => { x with holding := true })
  exact ⟨by rw [Dev.axis_modAxis_self], Dev.elapse_onlyAt.trans (hf.onlyAt (by decide +kernel)), Dev.elapse_sameMem.trans hf.sameMem⟩

/-! ### Enabling, disabling and faults (R283, R289) -/

theorem execAxisEnable_enables (hz : s.dev.frozen 0 = false) (he : s.dev.get .AX_CFG_ENABLE a = 0) :
    Answers (.axisEnable dt a) s (fun e => e.get .AX_CFG_ENABLE a = 1 ∧ e.get .AX_STAT_STATE a = 1 ∧ (e.axis a).restSince = (s.dev.elapse dt).run
        ∧ s.dev.OnlyAt e [(.AX_CFG_ENABLE, a, 0), (.AX_STAT_STATE, a, 0)] ∧ s.dev.SameMem e) := by
  refine Answers.of_act (show _ = execAxisEnable dt a s from rfl) ?_
  rw [Dev.byFn_zero (d := s.dev.elapse dt) hz, Dev.axisEnable,
    if_neg (by rw [Dev.flag_false (d := s.dev.elapse dt) he]; decide)]
  have hf := (((Dev.raise_frame (s.dev.elapse dt) .AX_CFG_ENABLE a 0).mono (w := Fld.bit .AX_CFG_ENABLE ||| Fld.bit .AX_STAT_STATE) (by decide +kernel)).step'
    (Dev.put_frame _ .AX_STAT_STATE 1 a 0) (by decide +kernel))
  have hat : s.dev.OnlyAt (((s.dev.elapse dt).raise .AX_CFG_ENABLE a).put .AX_STAT_STATE 1 a) [(.AX_CFG_ENABLE, a, 0), (.AX_STAT_STATE, a, 0)] :=
    .put (.put Dev.elapse_onlyAt (by simp)) (by simp)
  have hen : (((s.dev.elapse dt).raise .AX_CFG_ENABLE a).put .AX_STAT_STATE 1 a).get .AX_CFG_ENABLE a = 1 :=
    (Dev.get_put_ne _ _ _ _ _ _ _ _ (by decide)).trans Dev.get_raise
  have hst : (((s.dev.elapse dt).raise .AX_CFG_ENABLE a).put .AX_STAT_STATE 1 a).get .AX_STAT_STATE a = 1 := Dev.get_put_of_lt (by decide)
  have hrun : (((s.dev.elapse dt).raise .AX_CFG_ENABLE a).put .AX_STAT_STATE 1 a).run = (s.dev.elapse dt).run := rfl
  simp only []
  generalize ((s.dev.elapse dt).raise .AX_CFG_ENABLE a).put .AX_STAT_STATE 1 a = x at hat hen hst hrun hf ⊢
  have hm := Dev.modAxis_frame x a (fun y => { y with restSince := x.run, holding := false })
  exact ⟨(hm.get _ _ _ (by decide +kernel)).trans hen, (hm.get _ _ _ (by decide +kernel)).trans hst, by rw [Dev.axis_modAxis_self, hrun],
    hat.trans (hm.onlyAt (by decide +kernel)), Dev.elapse_sameMem.trans (hf.sameMem.trans hm.sameMem)⟩

theorem Dev.endMoves_axis (d : Dev) (n code imm : Nat) : (d.endMoves n code imm).axis n
    = { d.axis n with job := none, stopJob := none, imm := [], home := .none, endCode := 0 } := by
  have hfold (l : List Nat) (c : Nat) (x : Dev) : (l.foldl (fun d id => d.complete id c) x).axis n = x.axis n :=
    foldl_keep (P := fun y => y.axis n = x.axis n) rfl (fun y b h => ((Dev.complete_frame y b c).axis n).trans h) l
  unfold Dev.endMoves
  simp only [hfold, Dev.axis_modAxis_self]

/-- What the brake leaves of an axis (R289). -/
theorem Dev.brake_shows (d : Dev) (n : Nat) {st : Nat} (hst : st < 8) : (d.brake n st).get .AX_STAT_STATE n = st ∧ (d.brake n st).get .AX_STAT_HOMED n = 0
    ∧ (d.brake n st).get .AX_ELEC_I_NOW n = 0 ∧ ((d.brake n st).axis n).dutyA = 0 ∧ ((d.brake n st).axis n).job = (d.axis n).job
    ∧ ((d.brake n st).axis n).imm = (d.axis n).imm := by
  have hax : ((d.brake n st).axis n) = { (d.axisFreeze n).axis n with home := .none, intA := 0, intB := 0, dutyA := 0, dutyB := 0, stallRun := 0, overRun := 0 } := by
    unfold Dev.brake
    rw [Dev.axis_put, Dev.axis_put, Dev.axis_modAxis_self, (Dev.unhome_frame ..).axis n]
  have hfr : ((d.axisFreeze n).axis n).job = (d.axis n).job ∧ ((d.axisFreeze n).axis n).imm = (d.axis n).imm := by
    unfold Dev.axisFreeze
    simp only []
    rw [Dev.axis_put, Dev.axis_puts, Dev.axis_modAxis_self]
    exact ⟨rfl, rfl⟩
  have hw : Fld.width .AX_STAT_STATE = 3 := rfl
  refine ⟨?_, ?_, Dev.get_put_of_lt (Nat.two_pow_pos _), by rw [hax], by rw [hax]; exact hfr.1, by rw [hax]; exact hfr.2⟩
  · exact (Dev.get_put_ne _ _ _ _ _ _ _ _ (by decide)).trans (Dev.get_put_of_lt (by rw [hw]; exact hst))
  · refine (Dev.get_put_ne _ _ _ _ _ _ _ _ (by decide)).trans ((Dev.get_put_ne _ _ _ _ _ _ _ _ (by decide)).trans ?_)
    rw [(Dev.modAxis_frame ..).get _ _ _ (by decide +kernel)]
    exact (Dev.get_put_ne _ _ _ _ _ _ _ _ (by decide)).trans (Dev.get_put_of_lt (by decide))

theorem execAxisDisable_disables (hz : s.dev.frozen 0 = false) :
    Answers (.axisDisable dt a) s (fun e => e.get .AX_CFG_ENABLE a = 0 ∧ e.get .AX_STAT_STATE a = 0 ∧ e.get .AX_STAT_HOMED a = 0
        ∧ e.get .AX_ELEC_I_NOW a = 0 ∧ (e.axis a).job = none ∧ (e.axis a).imm = [] ∧ s.dev.SameMem e) := by
  refine Answers.of_act (show _ = execAxisDisable dt a s from rfl) ?_
  rw [Dev.byFn_zero (d := s.dev.elapse dt) hz, Dev.axisDisable]
  have hen : ((s.dev.elapse dt).lower .AX_CFG_ENABLE a).get .AX_CFG_ENABLE a = 0 := Dev.get_put_of_lt (Nat.two_pow_pos _)
  have hl := Dev.lower_frame (s.dev.elapse dt) .AX_CFG_ENABLE a 0
  generalize (s.dev.elapse dt).lower .AX_CFG_ENABLE a = x at hen hl ⊢
  have hm := x.endMoves_frame a 0x02c1 0x02c1
  have hax := x.endMoves_axis a 0x02c1 0x02c1
  generalize x.endMoves a _ _ = y at hm hax ⊢
  obtain ⟨hst, hhomed, hi, -, hjob, himm⟩ := y.brake_shows a (st := 0) (by decide)
  have hb := y.brake_frame a 0
  exact ⟨by rw [hb.get _ _ _ (by decide +kernel), hm.get _ _ _ (by decide +kernel), hen], hst, hhomed, hi, by rw [hjob, hax], by rw [himm, hax],
    Dev.elapse_sameMem.trans (hl.sameMem.trans (hm.sameMem.trans hb.sameMem))⟩

/-- What follows the fault of an axis: its record and its event (R289, R291). -/
theorem Dev.axisEvent_frame (d : Dev) (n : Nat) (what : Int) (kind src : Nat) :
    Frame 0x608000000000000000000000000000000000000000000000000000000000000000000000000000000000000000000000000000000000000000000000000000000000030c20140000000000020000000000000000000000000006009000 d ((d.axisRecord n what kind).occur src) :=
  ((Dev.axisRecord_frame d n what kind).mono (by decide +kernel)).step' (Dev.occur_frame ..) (by decide +kernel)

theorem Dev.axisEvent_recorded {d : Dev} (h : d.logs) (n : Nat) (what : Int) (kind src : Nat) :
    ((d.axisRecord n what kind).occur src).Recorded 0x0701 4 :=
  ((h.accepts 4).recorded ..).frame (Dev.occur_frame ..)

theorem execCoilFault_faults {o : Bool} (hd : s.dev.drives = true) (h0 : s.dev.get .AX_STAT_STATE a ≠ 0) (h6 : s.dev.get .AX_STAT_STATE a ≠ 6)
    (hm : s.dev.get .AX_CFG_MODE a = 0) (ho : o = true → 2 ≤ (s.dev.axis a).overRun) (hl : s.dev.logs) :
    Answers (.coilFault dt a o) s (fun e => e.get .AX_STAT_STATE a = 6 ∧ e.get (if o then .AX_STAT_OVERCUR else .AX_STAT_SD_FAULT) a = 1
        ∧ e.get .AX_STAT_HOMED a = 0 ∧ e.get .AX_ELEC_I_NOW a = 0 ∧ (e.axis a).dutyA = 0 ∧ (e.axis a).job = none ∧ e.Recorded 0x0701 4
        ∧ s.dev.SameMem e) := by
  refine Answers.of_act (show _ = execCoilFault dt a o s from rfl) ?_
  have hgo : ((s.dev.elapse dt).drives && (s.dev.elapse dt).get .AX_STAT_STATE a != 0 && (s.dev.elapse dt).get .AX_STAT_STATE a != 6
      && !(s.dev.elapse dt).flag .AX_CFG_MODE a && (!o || decide (2 ≤ ((s.dev.elapse dt).axis a).overRun))) = true := by
    simp only [Bool.and_eq_true, bne_iff_ne, Bool.not_eq_true', Bool.or_eq_true, decide_eq_true_eq]
    refine ⟨⟨⟨⟨hd, h0⟩, h6⟩, Dev.flag_false hm⟩, ?_⟩
    cases o with
    | false => exact .inl rfl
    | true => exact .inr (ho rfl)
  simp only [hgo, Dev.when_true]
  have hflag : (if o = true then Fld.AX_STAT_OVERCUR else .AX_STAT_SD_FAULT) = .AX_STAT_OVERCUR
      ∨ (if o = true then Fld.AX_STAT_OVERCUR else .AX_STAT_SD_FAULT) = .AX_STAT_SD_FAULT := by cases o <;> simp
  generalize (if o = true then Fld.AX_STAT_OVERCUR else .AX_STAT_SD_FAULT) = f at hflag ⊢
  have hset : ((s.dev.elapse dt).raise f a).get f a = 1 := Dev.get_put_of_lt (by rcases hflag with rfl | rfl <;> decide)
  have hr : Frame (Fld.bit .AX_STAT_OVERCUR ||| Fld.bit .AX_STAT_SD_FAULT) (s.dev.elapse dt) ((s.dev.elapse dt).raise f a) := by
    rcases hflag with rfl | rfl
    · exact (Dev.raise_frame ..).mono (by decide +kernel)
    · exact (Dev.raise_frame ..).mono (by decide +kernel)
  have hlr : ((s.dev.elapse dt).raise f a).logs := Dev.logs.frame hr hl
  generalize (s.dev.elapse dt).raise f a = x at hset hr hlr ⊢
  have hmv := x.endMoves_frame a 0x05c1 0x02c1
  have hax := x.endMoves_axis a 0x05c1 0x02c1
  generalize x.endMoves a _ _ = y at hmv hax ⊢
  obtain ⟨hst, hhomed, hi, hduty, hjob, -⟩ := y.brake_shows a (st := 6) (by decide)
  have hb := y.brake_frame a 6
  have hlb : (y.brake a 6).logs := Dev.logs.frame hb (Dev.logs.frame hmv hlr)
  generalize y.brake a 6 = z at hst hhomed hi hduty hjob hb hlb ⊢
  have he := z.axisEvent_frame a 0 2 (320 + 4 * a)
  have hkeep : ((z.axisRecord a 0 2).occur (320 + 4 * a)).get f a = 1 := by
    rcases hflag with rfl | rfl
    · rw [he.get _ _ _ (by decide +kernel), hb.get _ _ _ (by decide +kernel), hmv.get _ _ _ (by decide +kernel), hset]
    · rw [he.get _ _ _ (by decide +kernel), hb.get _ _ _ (by decide +kernel), hmv.get _ _ _ (by decide +kernel), hset]
  exact ⟨(he.get _ _ _ (by decide +kernel)).trans hst, hkeep, (he.get _ _ _ (by decide +kernel)).trans hhomed,
    (he.get _ _ _ (by decide +kernel)).trans hi, by rw [he.axis a]; exact hduty, by rw [he.axis a, hjob, hax], Dev.axisEvent_recorded hlb ..,
    Dev.elapse_sameMem.trans (hr.sameMem.trans (hmv.sameMem.trans (hb.sameMem.trans he.sameMem)))⟩

/-! ### Stalls (R291, R292) -/

theorem execStall_presses (hn : s.dev.get .AX_CFG_STALL_TICKS a ≤ (s.dev.axis a).stallRun) (hs : s.dev.get .AX_STAT_STATE a = 3)
    (hh : (s.dev.axis a).home = .seeking) :
    Answers (.stall dt a) s (fun e => (e.axis a).home = .pressing ∧ (e.axis a).pressed = (s.dev.elapse dt).run ∧ e.get .AX_STAT_STATE a = 3
        ∧ s.dev.OnlyIn e [.AX_POS, .AX_VEL] ∧ s.dev.SameMem e) := by
  refine Answers.of_act (show _ = execStall dt a s from rfl) ?_
  have hgo : decide ((s.dev.elapse dt).get .AX_CFG_STALL_TICKS a ≤ ((s.dev.elapse dt).axis a).stallRun) = true := decide_eq_true hn
  have hh' : ((s.dev.elapse dt).axis a).home = .seeking := hh
  simp only [hgo, Dev.when_true]
  simp only [Dev.get_elapse, hs, hh', and_self, if_true]
  have hf := (Dev.axisFreeze_frame (s.dev.elapse dt) a).step' (Dev.modAxis_frame ((s.dev.elapse dt).axisFreeze a) a (fun x =>
    { x with home := .pressing, pressed := (s.dev.elapse dt).run, stallRun := 0 })) (by decide +kernel)
  exact ⟨by rw [Dev.axis_modAxis_self], by rw [Dev.axis_modAxis_self], (hf.get _ _ _ (by decide +kernel)).trans hs,
    Dev.elapse_onlyIn.trans (hf.onlyIn (by decide +kernel)), Dev.elapse_sameMem.trans hf.sameMem⟩

/-- An axis that a stall has put out of its move, before what was in execution completes (R291). -/
def Dev.stalled (d : Dev) (n : Nat) : Dev :=
  (((d.axisFreeze n).unhome n).modAxis n (fun x => { x with
    job := none, stopJob := none, endCode := 0, home := .none, stallRun := 0,
    imm := x.imm.filter (fun id => !((d.job id).map (fun j => j.opcode == 0x58)).getD false) })).put .AX_STAT_STATE 5 n

theorem Dev.stalled_frame (d : Dev) (n : Nat) :
    Frame 0x10000000000078000000000000000000000000000000000000000000000000000000000000000000000000000000000000000000000000000000000000000000000000100000000 d (d.stalled n) :=
  ((((Dev.axisFreeze_frame d n).mono (by decide +kernel)).step' (Dev.unhome_frame ..) (by decide +kernel)).step' (Dev.modAxis_frame ..)
    (by decide +kernel)).step' (Dev.put_frame ..) (by decide +kernel)

theorem Dev.stalled_shows (d : Dev) (n : Nat) : (d.stalled n).get .AX_STAT_STATE n = 5 ∧ (d.stalled n).get .AX_STAT_HOMED n = 0
    ∧ (d.stalled n).get .AX_VEL_VALUE n = 0 := by
  unfold Dev.stalled
  refine ⟨Dev.get_put_of_lt (by decide), ?_, ?_⟩
  · rw [Dev.get_put_ne _ _ _ _ _ _ _ _ (by decide), (Dev.modAxis_frame ..).get _ _ _ (by decide +kernel)]
    exact (Dev.get_put_ne _ _ _ _ _ _ _ _ (by decide)).trans (Dev.get_put_of_lt (by decide))
  · rw [Dev.get_put_ne _ _ _ _ _ _ _ _ (by decide), (Dev.modAxis_frame ..).get _ _ _ (by decide +kernel), (Dev.unhome_frame ..).get _ _ _ (by decide +kernel)]
    exact Dev.get_put_of_lt (Nat.two_pow_pos _)

/-- A stall of a lone move ends it. -/
theorem Dev.stallEffects_move {d : Dev} {n id : Nat} (hj : (d.axis n).job = some id) (hs : (d.axis n).stopJob = none) (hi : (d.axis n).imm = [])
    (code : Nat) : d.stallEffects n code = (d.stalled n).complete id code := by
  simp only [Dev.stallEffects, hj, hs, hi]
  rfl

theorem execStall_stalls (hn : s.dev.get .AX_CFG_STALL_TICKS a ≤ (s.dev.axis a).stallRun) (hs : s.dev.get .AX_STAT_STATE a = 2)
    (hj : (s.dev.axis a).job = some id) (hno : (s.dev.axis a).stopJob = none) (hi : (s.dev.axis a).imm = []) (h : s.dev.Ends id j) (hl : s.dev.logs) :
    Answers (.stall dt a) s (fun e => e.get .AX_STAT_STATE a = 5 ∧ e.get .AX_STAT_STALL a = 1 ∧ e.get .AX_STAT_HOMED a = 0
        ∧ e.get .AX_VEL_VALUE a = 0 ∧ e.Done j 0x05c0 ∧ e.Recorded 0x0701 4 ∧ s.dev.SameMem e) := by
  refine Answers.of_act (show _ = execStall dt a s from rfl) ?_
  have hgo : decide ((s.dev.elapse dt).get .AX_CFG_STALL_TICKS a ≤ ((s.dev.elapse dt).axis a).stallRun) = true := decide_eq_true hn
  simp only [hgo, Dev.when_true]
  simp only [Dev.get_elapse, hs, show ¬ (2 = 3) by decide, false_and, if_false, true_or, if_true]
  rw [Dev.stallEffects_move (d := s.dev.elapse dt) hj hno hi]
  obtain ⟨hst, hhomed, hv⟩ := (s.dev.elapse dt).stalled_shows a
  have hf := (s.dev.elapse dt).stalled_frame a
  have hends := (h.elapse dt).frame hf
  generalize (s.dev.elapse dt).stalled a = x at hst hhomed hv hf hends ⊢
  have hcf := Dev.complete_frame x id 0x05c0
  have hdone := hends.complete 0x05c0
  generalize x.complete id 0x05c0 = y at hcf hdone ⊢
  have hr := Dev.raise_frame y .AX_STAT_STALL a 0
  have hset : (y.raise .AX_STAT_STALL a).get .AX_STAT_STALL a = 1 := Dev.get_raise
  generalize y.raise .AX_STAT_STALL a = z at hr hset ⊢
  have hlz : z.logs := Dev.logs.frame hr (Dev.logs.frame hcf (Dev.logs.frame hf hl))
  have he := z.axisEvent_frame a ((s.dev.elapse dt).gets .AX_ELEC_DELTA a) 1 (320 + 4 * a)
  refine ⟨?_, (he.get _ _ _ (by decide +kernel)).trans hset, ?_, ?_, (hdone.frame hr).frame he, Dev.axisEvent_recorded hlz ..,
    Dev.elapse_sameMem.trans (hf.sameMem.trans (hcf.sameMem.trans (hr.sameMem.trans he.sameMem)))⟩
  · rw [he.get _ _ _ (by decide +kernel), hr.get _ _ _ (by decide +kernel), hcf.get _ _ _ (by decide +kernel), hst]
  · rw [he.get _ _ _ (by decide +kernel), hr.get _ _ _ (by decide +kernel), hcf.get _ _ _ (by decide +kernel), hhomed]
  · rw [he.get _ _ _ (by decide +kernel), hr.get _ _ _ (by decide +kernel), hcf.get _ _ _ (by decide +kernel), hv]

end Cmd

end Sys2Proof.Machine
end

section
/-! Axes: ticks and the coil loop (O47). -/

namespace Sys2Proof.Machine
open Sys2Proof

/-! ### What is an axis's own -/

/-- The fields that a tick shows of an axis, or takes from its limits. -/
def axisFlds : List Fld := [.AX_POS_VALUE, .AX_STAT_STATE, .AX_VMAX_V_MAX, .AX_ACCEL_VALUE, .AX_DECEL_VALUE, .AX_JERK_VALUE]

/-- An axis and its fields are as they were. -/
structure Dev.AxisKept (d e : Dev) (b : Nat) : Prop where
  axis : e.axis b = d.axis b
  flds : ∀ f ∈ axisFlds, e.get f b = d.get f b

theorem Dev.AxisKept.refl {d : Dev} {b : Nat} : d.AxisKept d b := ⟨rfl, fun _ _ => rfl⟩

theorem Dev.AxisKept.trans {d e f : Dev} {b : Nat} (h : d.AxisKept e b) (k : e.AxisKept f b) : d.AxisKept f b :=
  ⟨k.axis.trans h.axis, fun x hx => (k.flds x hx).trans (h.flds x hx)⟩

theorem Dev.AxisKept.frame {w : Nat} {d e f : Dev} {b : Nat} (hf : Frame w e f) (h : d.AxisKept e b) (hm : maskOut axisFlds w = true := by decide +kernel)
    (ha : w.testBit 32 = false := by decide +kernel) : d.AxisKept f b :=
  h.trans ⟨hf.axis b ha, fun _ hx => hf.get_out hm hx ..⟩

section Other
variable {d e : Dev} {b n : Nat} (hb : b ≠ n) (h : d.AxisKept e b)
include hb h

theorem Dev.AxisKept.modAxis (g : Axis → Axis) : d.AxisKept (e.modAxis n g) b := h.trans ⟨e.axis_modAxis_ne g hb, fun _ _ => rfl⟩

theorem Dev.AxisKept.put (f : Fld) (v : Nat) : d.AxisKept (e.put f v n) b := 
  h.trans ⟨rfl, fun _ _ => Dev.get_put_of_ne _ _ _ _ _ _ _ _ (fun x => hb x.2.1)⟩

theorem Dev.AxisKept.putLims (l : AxLims) : d.AxisKept (e.putLims n l) b := (((h.put hb _ _).put hb _ _).put hb _ _).put hb _ _

theorem Dev.AxisKept.runTo (t : Int) (v : Nat) : d.AxisKept (e.runTo n t v) b := by
  unfold Dev.runTo Dev.setProfile
  simp only []
  split
  · exact .modAxis hb (.modAxis hb (.put hb h ..) _) _
  · exact .modAxis hb (.modAxis hb h _) _

theorem Dev.AxisKept.newAxisLims : d.AxisKept (e.newAxisLims n) b := by
  unfold Dev.newAxisLims
  simp only []
  split
  · exact h
  · have hm := h.modAxis hb (fun x => { x with fresh := none })
    generalize e.modAxis n _ = x at hm ⊢
    split_ifs
    · exact hm.putLims hb _
    · exact (hm.modAxis hb _).put hb _ _
    · exact (hm.modAxis hb _).put hb _ _
    · exact (hm.putLims hb _).runTo hb _ _

theorem Dev.AxisKept.showAxis : d.AxisKept (e.showAxis n) b := by
  unfold Dev.showAxis
  simp only []
  have hp := (h.put hb .AX_POS_VALUE (uInt 32 (microsteps (e.axisKin n).p))).put hb .AX_VEL_VALUE
    (uInt (Fld.width .AX_VEL_VALUE) (roundHalfUp (e.axisKin n).v fineV.toNat))
  split
  · exact hp.modAxis hb _
  · exact hp

end Other

/-- What a tick of an axis with nothing to act on changes. -/
def axisTickMask : Nat := 0x800000038000000000000000000000000000000000000000000000000000000000000000000000000000000000000000000000000000000000000000000000000300000000

/-- What a tick of an axis that new limits may wait for changes. -/
def axisLimsMask : Nat := 0x800000c3800000f000000000000000000000000000000000000000000000000000000000000000000000000000000000000000000000000000000000000000000300000000

/-! ### The end of an axis's tick (R279, R286, R300) -/

/-- What a tick does to an axis after its immediate descriptors and its limits. -/
def Dev.endTick (d : Dev) (n : Nat) : Dev :=
  let d := d.showAxis n
  let d :=
    if d.get .AX_STAT_STATE n = 4 ∧ d.axisRests n = true then
      (d.modAxis n (fun x => { x with emergency := false, restSince := d.run, holding := true })).put .AX_STAT_STATE 1 n
    else d
  d.followTick n

theorem Dev.endTick_frame (d : Dev) (n : Nat) : Frame axisTickMask d (d.endTick n) := by
  have hs := (Dev.showAxis_frame d n).mono (w := axisTickMask) (by decide +kernel)
  unfold Dev.endTick
  refine .step' (.ite ?_ hs) (Dev.followTick_frame ..) (by decide +kernel)
  exact (hs.step' (Dev.modAxis_frame ..) (by decide +kernel)).step' (Dev.put_frame ..) (by decide +kernel)

theorem Dev.AxisKept.endTick {d e : Dev} {b n : Nat} (hb : b ≠ n) (h : d.AxisKept e b) : d.AxisKept (e.endTick n) b := by
  have hs := h.showAxis hb
  unfold Dev.endTick
  refine .frame (Dev.followTick_frame ..) ?_
  split
  · exact (hs.modAxis hb _).put hb _ _
  · exact hs

theorem Dev.showAxis_shows (d : Dev) (n : Nat) : (d.showAxis n).get .AX_POS_VALUE n = uInt 32 (microsteps (d.axisKin n).p)
    ∧ ((d.showAxis n).axis n).imm = (d.axis n).imm := by
  have hpos : ((d.puts .AX_POS_VALUE (microsteps (d.axisKin n).p) n).puts .AX_VEL_VALUE (roundHalfUp (d.axisKin n).v fineV.toNat) n).get .AX_POS_VALUE n
      = uInt 32 (microsteps (d.axisKin n).p) := (Dev.get_puts_ne _ _ _ _ _ _ _ _ (by decide)).trans (Dev.get_puts_self ..)
  unfold Dev.showAxis
  simp only []
  split
  · exact ⟨((Dev.modAxis_frame ..).get _ _ _ (by decide +kernel)).trans hpos, by rw [Dev.axis_modAxis_self]; rfl⟩
  · exact ⟨hpos, rfl⟩

theorem Dev.endTick_shows (d : Dev) (n : Nat) : (d.endTick n).gets .AX_POS_VALUE n = sInt 32 (uInt 32 (microsteps (d.axisKin n).p))
    ∧ (d.get .AX_STAT_STATE n ≠ 4 → (d.endTick n).get .AX_STAT_STATE n = d.get .AX_STAT_STATE n) ∧ ((d.endTick n).axis n).imm = (d.axis n).imm := by
  obtain ⟨hp, hi⟩ := d.showAxis_shows n
  have hs := (Dev.showAxis_frame d n).get .AX_STAT_STATE n 0 (by decide +kernel)
  have hf (x : Dev) := Dev.followTick_frame x n
  unfold Dev.endTick
  generalize d.showAxis n = x at hp hi hs ⊢
  simp only []
  refine ⟨?_, fun h4 => ?_, ?_⟩
  · rw [Dev.gets, (hf _).get _ _ _ (by decide +kernel)]
    have hpos : (if x.get .AX_STAT_STATE n = 4 ∧ x.axisRests n = true then (x.modAxis n (fun y => { y with
        emergency := false, restSince := x.run, holding := true })).put .AX_STAT_STATE 1 n else x).get .AX_POS_VALUE n = x.get .AX_POS_VALUE n := by
      split
      · exact (Dev.get_put_ne _ _ _ _ _ _ _ _ (by decide)).trans ((Dev.modAxis_frame ..).get _ _ _ (by decide +kernel))
      · rfl
    rw [hpos, hp]
    rfl
  · rw [(hf _).get _ _ _ (by decide +kernel), if_neg (fun h => h4 (hs.symm.trans h.1)), hs]
  · rw [(hf _).axis n]
    split
    · rw [Dev.axis_put, Dev.axis_modAxis_self]; exact hi
    · exact hi

/-! ### A tick of an axis with nothing to act on -/

theorem Dev.tickAxis_idle {d : Dev} {n : Nat} (hi : (d.axis n).imm = []) :
    d.tickAxis n = ((d.modAxis n (fun x => { x with imm := [] })).newAxisLims n).endTick n := by
  unfold Dev.tickAxis
  simp only [hi, List.filterMap_nil, List.filter_nil, List.map_nil, Dev.actImms]
  rfl

theorem Dev.AxisKept.tickAxis_idle {d : Dev} {b n : Nat} (hb : b ≠ n) (hi : (d.axis n).imm = []) : d.AxisKept (d.tickAxis n) b := by
  rw [Dev.tickAxis_idle hi]
  exact ((Dev.AxisKept.refl.modAxis hb _).newAxisLims hb).endTick hb

theorem Dev.tickAxis_idle_frame {d : Dev} {n : Nat} (hi : (d.axis n).imm = []) : Frame axisLimsMask d (d.tickAxis n) := by
  rw [Dev.tickAxis_idle hi]
  exact (((Dev.modAxis_frame ..).mono (by decide +kernel)).step' (Dev.newAxisLims_frame ..) (by decide +kernel)).step' (Dev.endTick_frame ..) (by decide +kernel)

/-- With no new limits either, the axis is shown as it stands. -/
theorem Dev.tickAxis_calm {d : Dev} {n : Nat} (hi : (d.axis n).imm = []) (hf : (d.axis n).fresh = none) :
    d.tickAxis n = (d.modAxis n (fun x => { x with imm := [] })).endTick n := by
  have hn : (d.modAxis n (fun x => { x with imm := [] })).newAxisLims n = d.modAxis n (fun x => { x with imm := [] }) := by
    unfold Dev.newAxisLims
    simp only [Dev.axis_modAxis_self, hf]
  rw [Dev.tickAxis_idle hi, hn]

theorem Dev.tickAxis_calm_frame {d : Dev} {n : Nat} (hi : (d.axis n).imm = []) (hf : (d.axis n).fresh = none) : Frame axisTickMask d (d.tickAxis n) := by
  rw [Dev.tickAxis_calm hi hf]
  exact ((Dev.modAxis_frame ..).mono (by decide +kernel)).step' (Dev.endTick_frame ..) (by decide +kernel)

/-- Axes of a kind ticked in turn: an axis that is not among them is as it was. -/
theorem Dev.tickAxes_keep {w : Nat} {P : Axis → Prop} (hP : ∀ x n, P (Dev.axis x n) → Frame w x (x.tickAxis n) ∧ ∀ b, b ≠ n → x.AxisKept (x.tickAxis n) b)
    {l : List Nat} (hn : l.Nodup) {d : Dev} (hd : ∀ m ∈ l, P (d.axis m)) :
    Frame w d (l.foldl Dev.tickAxis d) ∧ ∀ b, b ∉ l → d.AxisKept (l.foldl Dev.tickAxis d) b := by
  induction l generalizing d with
  | nil => exact ⟨.refl, fun _ _ => .refl⟩
  | cons n l ih =>
    obtain ⟨hnl, hn⟩ := List.nodup_cons.mp hn
    obtain ⟨hpn, hd⟩ := List.forall_mem_cons.mp hd
    obtain ⟨hf, hk⟩ := hP d n hpn
    obtain ⟨hf', hk'⟩ := ih hn (d := d.tickAxis n) (fun m hm => by
      rw [(hk m (by rintro rfl; exact hnl hm)).axis]; exact hd m hm)
    rw [List.foldl_cons]
    exact ⟨hf.trans hf', fun b hb => by
      obtain ⟨hbn, hbl⟩ := not_or.mp (mt List.mem_cons.mpr hb)
      exact (hk b hbn).trans (hk' b hbl)⟩

theorem Dev.axisKin_of {d e : Dev} {n : Nat} (hr : e.run = d.run) (hx : e.axis n = d.axis n) : e.axisKin n = d.axisKin n := by
  unfold Dev.axisKin Dev.axisTime
  rw [hr, hx]

theorem Axis.imm_nil {x : Axis} (h : x.imm = []) : { x with imm := [] } = x := by cases x; subst h; rfl

/-- One calm axis among calm ones: shown as it stood (R279). -/
theorem Dev.tickAxes_calm {l : List Nat} (hn : l.Nodup) {d : Dev} (hd : ∀ m ∈ l, (d.axis m).imm = [] ∧ (d.axis m).fresh = none) {a : Nat} (ha : a ∈ l) :
    (l.foldl Dev.tickAxis d).gets .AX_POS_VALUE a = sInt 32 (uInt 32 (microsteps (d.axisKin a).p))
      ∧ (d.get .AX_STAT_STATE a ≠ 4 → (l.foldl Dev.tickAxis d).get .AX_STAT_STATE a = d.get .AX_STAT_STATE a) := by
  have hP (x : Dev) (n : Nat) (h : (x.axis n).imm = [] ∧ (x.axis n).fresh = none) :=
    And.intro (Dev.tickAxis_calm_frame h.1 h.2) (fun b (hb : b ≠ n) => Dev.AxisKept.tickAxis_idle hb h.1)
  obtain ⟨pre, post, rfl⟩ := List.append_of_mem ha
  obtain ⟨hnpre, hncons, hdisj⟩ := List.nodup_append.mp hn
  obtain ⟨hapost, hnpost⟩ := List.nodup_cons.mp hncons
  have hapre : a ∉ pre := fun h => hdisj a h a (by simp) rfl
  obtain ⟨hf, hk⟩ := Dev.tickAxes_keep (P := fun x => x.imm = [] ∧ x.fresh = none) hP hnpre (d := d) (fun m hm => hd m (by simp [hm]))
  rw [List.foldl_append, List.foldl_cons]
  have hkept (m : Nat) (hm : m ∈ post) := hk m (fun h => hdisj m h m (by simp [hm]) rfl)
  have hka := hk a hapre
  generalize pre.foldl Dev.tickAxis d = x at hf hka hkept ⊢
  obtain ⟨hia, hfa⟩ := hd a ha
  have hxa : (x.axis a).imm = [] ∧ (x.axis a).fresh = none := by rw [hka.axis]; exact ⟨hia, hfa⟩
  obtain ⟨-, hk'⟩ := Dev.tickAxes_keep (P := fun x => x.imm = [] ∧ x.fresh = none) hP hnpost (d := x.tickAxis a) (fun m hm => by
    rw [((hP x a hxa).2 m (by rintro rfl; exact hapost hm)).axis, (hkept m hm).axis]; exact hd m (by simp [hm]))
  have hka' := hk' a hapost
  rw [Dev.tickAxis_calm hxa.1 hxa.2] at hka' ⊢
  have hsame : (x.modAxis a (fun x => { x with imm := [] })).axis a = d.axis a := by rw [Dev.axis_modAxis_self, Axis.imm_nil hxa.1, hka.axis]
  obtain ⟨hp, hs, -⟩ := (x.modAxis a (fun x => { x with imm := [] })).endTick_shows a
  have hst : (x.modAxis a (fun x => { x with imm := [] })).get .AX_STAT_STATE a = d.get .AX_STAT_STATE a :=
    ((Dev.modAxis_frame ..).get _ _ _ (by decide +kernel)).trans (hka.flds _ (by decide))
  refine ⟨?_, fun h4 => ?_⟩
  · rw [Dev.gets, hka'.flds _ (by decide)]
    refine hp.trans ?_
    rw [Dev.axisKin_of (e := x.modAxis a (fun x => { x with imm := [] })) (hf.run (by decide +kernel)) hsame]
  · rw [hka'.flds _ (by decide), hs (by rw [hst]; exact h4), hst]

section Cmd
variable {s : State} {dt : Nat}

theorem execAxisTick_ticks (ht : (s.dev.now + dt) % (10000 * qNs) = 0) (hs : s.dev.inService 43 = true) {P : Dev → Prop}
    (h : P ((List.range 8).foldl Dev.tickAxis (s.dev.elapse dt))) : Answers (.axisTick dt) s P := by
  refine Answers.of_act (show _ = execAxisTick dt s from rfl) ?_
  have hgo : ((s.dev.elapse dt).atTick 10000 && (s.dev.elapse dt).inService 43) = true := by
    rw [show (s.dev.elapse dt).atTick 10000 = true from beq_iff_eq.mpr ht, Bool.true_and]; exact hs
  rw [hgo, Dev.when_true]
  exact h

theorem execAxisTick_calm (ht : (s.dev.now + dt) % (10000 * qNs) = 0) (hs : s.dev.inService 43 = true)
    (hd : ∀ a < 8, (s.dev.axis a).imm = [] ∧ (s.dev.axis a).fresh = none) :
    Answers (.axisTick dt) s (fun e => (∀ a < 8, e.gets .AX_POS_VALUE a = sInt 32 (uInt 32 (microsteps ((s.dev.elapse dt).axisKin a).p)))
        ∧ (∀ a < 8, s.dev.get .AX_STAT_STATE a ≠ 4 → e.get .AX_STAT_STATE a = s.dev.get .AX_STAT_STATE a) ∧ e.jobs = s.dev.jobs
        ∧ s.dev.OnlyIn e [.AX_POS, .AX_VEL, .AX_STAT, .ENC_DEV] ∧ s.dev.SameMem e) := by
  have hd' : ∀ m ∈ List.range 8, ((s.dev.elapse dt).axis m).imm = [] ∧ ((s.dev.elapse dt).axis m).fresh = none :=
    fun m hm => hd m (List.mem_range.mp hm)
  obtain ⟨hf, -⟩ := Dev.tickAxes_keep (P := fun x => x.imm = [] ∧ x.fresh = none)
    (fun x n h => ⟨Dev.tickAxis_calm_frame h.1 h.2, fun b hb => Dev.AxisKept.tickAxis_idle hb h.1⟩) List.nodup_range hd'
  have hshow (a : Nat) (ha : a < 8) := Dev.tickAxes_calm List.nodup_range hd' (List.mem_range.mpr ha)
  exact execAxisTick_ticks ht hs ⟨fun a ha => (hshow a ha).1, fun a ha => (hshow a ha).2, hf.jobs (by decide +kernel),
    Dev.elapse_onlyIn.trans (hf.onlyIn (by decide +kernel)), Dev.elapse_sameMem.trans hf.sameMem⟩

end Cmd

end Sys2Proof.Machine
end

section
/-! Axes: new limits at a tick, and the coil loop (O47). -/

namespace Sys2Proof.Machine
open Sys2Proof

/-! ### New limits (R281, R285) -/

theorem Dev.putLims_shows (d : Dev) (n : Nat) (l : AxLims) : (d.putLims n l).get .AX_VMAX_V_MAX n = l.vmax % 2 ^ Fld.width .AX_VMAX_V_MAX
    ∧ (d.putLims n l).get .AX_ACCEL_VALUE n = l.accel % 2 ^ 32 ∧ (d.putLims n l).get .AX_DECEL_VALUE n = l.decel % 2 ^ 32
    ∧ (d.putLims n l).get .AX_JERK_VALUE n = l.jerk % 2 ^ 32 := by
  unfold Dev.putLims
  refine ⟨?_, ?_, ?_, Dev.get_put_self ..⟩
  · rw [Dev.get_put_ne _ _ _ _ _ _ _ _ (by decide), Dev.get_put_ne _ _ _ _ _ _ _ _ (by decide), Dev.get_put_ne _ _ _ _ _ _ _ _ (by decide), Dev.get_put_self]
  · rw [Dev.get_put_ne _ _ _ _ _ _ _ _ (by decide), Dev.get_put_ne _ _ _ _ _ _ _ _ (by decide)]
    exact Dev.get_put_self ..
  · rw [Dev.get_put_ne _ _ _ _ _ _ _ _ (by decide)]
    exact Dev.get_put_self ..

/-- The limits that a descriptor asks for rest on the axis's own. -/
theorem Dev.limitsOf_kept {d e : Dev} {n : Nat} (h : d.AxisKept e n) (j : Job) : e.limitsOf n j = d.limitsOf n j := by
  have hl : e.axLims n = d.axLims n := by
    unfold Dev.axLims
    rw [h.flds .AX_VMAX_V_MAX (by decide), h.flds .AX_ACCEL_VALUE (by decide), h.flds .AX_DECEL_VALUE (by decide), h.flds .AX_JERK_VALUE (by decide)]
  unfold Dev.limitsOf Dev.nextLims
  rw [h.axis, hl]

/-- An AX_LIMITS at a tick of an axis at rest: it completes, and its limits come into force. -/
theorem Dev.tickAxis_limits {d : Dev} {n id : Nat} {j : Job} (hi : (d.axis n).imm = [id]) (hj : d.job id = some j) (ho : j.opcode = 0x5b)
    (hs : (d.axis n).segs = []) : ∃ x : Dev, Frame 0x100000000 d x ∧ (∀ b, b ≠ n → d.AxisKept x b) ∧ (x.axis n).imm = []
      ∧ d.tickAxis n = (((x.complete id 0).modAxis n (fun x => { x with fresh := none })).putLims n (d.limitsOf n j)).endTick n := by
  have hheld : d.moveHeld j = false := by simp [Dev.moveHeld, ho]
  have hheld' (g : Axis → Axis) : (d.modAxis n g).moveHeld j = false := by simp [Dev.moveHeld, ho]
  refine ⟨(d.modAxis n (fun x => { x with imm := [] })).modAxis n (fun x => { x with fresh := some (d.limitsOf n j) }), ?_, fun b hb => ?_, ?_, ?_⟩
  · exact (Dev.modAxis_frame ..).trans (Dev.modAxis_frame ..)
  · exact (Dev.AxisKept.refl.modAxis hb _).modAxis hb _
  · rw [Dev.axis_modAxis_self, Dev.axis_modAxis_self]
  · have hl : (d.modAxis n (fun x => { x with imm := [] })).limitsOf n j = d.limitsOf n j := by
      unfold Dev.limitsOf Dev.nextLims
      rw [Dev.axis_modAxis_self]
      rfl
    have hact : (d.modAxis n (fun x => { x with imm := [] })).actImms n [j]
        = ((d.modAxis n (fun x => { x with imm := [] })).modAxis n (fun x => { x with fresh := some (d.limitsOf n j) })).complete id 0 := by
      simp [Dev.actImms, Dev.actImm, ho, hl, Dev.job_id hj]
    unfold Dev.tickAxis
    simp only [hi, List.filterMap_cons, hj, List.filterMap_nil, List.filter_cons, hheld, hheld', List.filter_nil, List.map_nil, Bool.false_eq_true, if_false,
      Bool.not_false, if_true, hact]
    have hax := (Dev.complete_frame ((d.modAxis n (fun x => { x with imm := [] })).modAxis n (fun x => { x with fresh := some (d.limitsOf n j) })) id 0).axis n
    rw [Dev.axis_modAxis_self, Dev.axis_modAxis_self] at hax
    generalize Dev.complete _ id 0 = y at hax ⊢
    have hnew : y.newAxisLims n = (y.modAxis n (fun x => { x with fresh := none })).putLims n (d.limitsOf n j) := by
      unfold Dev.newAxisLims
      simp [hax, hs]
    rw [hnew]
    rfl

/-- What such a tick shows of the axis, of its descriptor and of the other axes. -/
theorem Dev.tickAxis_limits_shows {d : Dev} {n id : Nat} {j : Job} (hi : (d.axis n).imm = [id]) (h : d.Ends id j) (ho : j.opcode = 0x5b)
    (hs : (d.axis n).segs = []) : (d.tickAxis n).get .AX_VMAX_V_MAX n = (d.limitsOf n j).vmax % 2 ^ Fld.width .AX_VMAX_V_MAX
      ∧ (d.tickAxis n).get .AX_ACCEL_VALUE n = (d.limitsOf n j).accel % 2 ^ 32 ∧ (d.tickAxis n).get .AX_DECEL_VALUE n = (d.limitsOf n j).decel % 2 ^ 32
      ∧ (d.tickAxis n).get .AX_JERK_VALUE n = (d.limitsOf n j).jerk % 2 ^ 32 ∧ (d.tickAxis n).Done j 0 ∧ ((d.tickAxis n).axis n).imm = []
      ∧ (∀ b, b ≠ n → d.AxisKept (d.tickAxis n) b) ∧ d.SameMem (d.tickAxis n) := by
  obtain ⟨x, hf, hk, himm, htick⟩ := Dev.tickAxis_limits hi h.held ho hs
  have hmem := (Dev.tickAxis_frame d n).sameMem
  rw [htick] at hmem ⊢
  have hcf := Dev.complete_frame x id 0
  have hdone := (h.frame hf).complete 0
  have hkc (b : Nat) (hb : b ≠ n) := (hk b hb).frame hcf
  have hci : ((x.complete id 0).axis n).imm = [] := by rw [hcf.axis n]; exact himm
  generalize x.complete id 0 = y at hdone hkc hci hmem ⊢
  have hmf := (Dev.modAxis_frame y n (fun x => { x with fresh := none }))
  have hmi : ((y.modAxis n (fun x => { x with fresh := none })).axis n).imm = [] := by rw [Dev.axis_modAxis_self]; exact hci
  have hkm (b : Nat) (hb : b ≠ n) := (hkc b hb).modAxis hb (fun x => { x with fresh := none })
  have hdm := hdone.frame hmf
  generalize y.modAxis n _ = z at hmi hkm hdm hmem ⊢
  obtain ⟨hv, ha, hd, hj⟩ := z.putLims_shows n (d.limitsOf n j)
  have hpf := z.putLims_frame n (d.limitsOf n j)
  have hkp (b : Nat) (hb : b ≠ n) := (hkm b hb).putLims hb (d.limitsOf n j)
  have hpi : ((z.putLims n (d.limitsOf n j)).axis n).imm = [] := by rw [hpf.axis n]; exact hmi
  have hdp := hdm.frame hpf
  generalize z.putLims n _ = u at hv ha hd hj hkp hpi hdp hmem ⊢
  have hef := u.endTick_frame n
  exact ⟨(hef.get _ _ _ (by decide +kernel)).trans hv, (hef.get _ _ _ (by decide +kernel)).trans ha, (hef.get _ _ _ (by decide +kernel)).trans hd,
    (hef.get _ _ _ (by decide +kernel)).trans hj, hdp.frame hef, (u.endTick_shows n).2.2.trans hpi, fun b hb => (hkp b hb).endTick hb, hmem⟩

section Cmd
variable {s : State} {dt : Nat} {a : Fin 8} {id : Nat} {j : Job}

theorem execAxisTick_limits (ht : (s.dev.now + dt) % (10000 * qNs) = 0) (hs : s.dev.inService 43 = true) (hi : (s.dev.axis a).imm = [id])
    (hb : ∀ b < 8, b ≠ a.val → (s.dev.axis b).imm = []) (h : s.dev.Ends id j) (ho : j.opcode = 0x5b) (hseg : (s.dev.axis a).segs = []) :
    Answers (.axisTick dt) s (fun e => e.get .AX_VMAX_V_MAX a = (s.dev.limitsOf a j).vmax % 2 ^ Fld.width .AX_VMAX_V_MAX
        ∧ e.get .AX_ACCEL_VALUE a = (s.dev.limitsOf a j).accel % 2 ^ 32 ∧ e.get .AX_DECEL_VALUE a = (s.dev.limitsOf a j).decel % 2 ^ 32
        ∧ e.get .AX_JERK_VALUE a = (s.dev.limitsOf a j).jerk % 2 ^ 32
        ∧ e.Done j 0 ∧ (e.axis a).imm = [] ∧ s.dev.SameMem e) := by
  refine execAxisTick_ticks ht hs ?_
  have hP (x : Dev) (n : Nat) (h : (x.axis n).imm = []) :=
    And.intro (Dev.tickAxis_idle_frame h) (fun b (hb : b ≠ n) => Dev.AxisKept.tickAxis_idle hb h)
  obtain ⟨pre, post, hsplit⟩ := List.append_of_mem (List.mem_range.mpr a.isLt)
  have hn : (pre ++ a.val :: post).Nodup := hsplit ▸ List.nodup_range
  have hlt (m : Nat) (hm : m ∈ pre ++ a.val :: post) : m < 8 := List.mem_range.mp (hsplit ▸ hm)
  rw [hsplit, List.foldl_append, List.foldl_cons]
  obtain ⟨hnpre, hncons, hdisj⟩ := List.nodup_append.mp hn
  obtain ⟨hapost, hnpost⟩ := List.nodup_cons.mp hncons
  have hapre : a.val ∉ pre := fun h => hdisj a h a (by simp) rfl
  obtain ⟨hf, hk⟩ := Dev.tickAxes_keep (P := fun x => x.imm = []) hP hnpre (d := s.dev.elapse dt)
    (fun m hm => hb m (hlt m (by simp [hm])) (by rintro rfl; exact hapre hm))
  have hka := hk a hapre
  have hkept (m : Nat) (hm : m ∈ post) := hk m (fun h => hdisj m h m (by simp [hm]) rfl)
  have hends := (h.elapse dt).frame hf
  generalize pre.foldl Dev.tickAxis (s.dev.elapse dt) = x at hf hka hkept hends ⊢
  obtain ⟨hv, ha, hd, hj, hdone, himm, hother, hmem⟩ := Dev.tickAxis_limits_shows (by rw [hka.axis]; exact hi) hends ho (by rw [hka.axis]; exact hseg)
  rw [Dev.limitsOf_kept hka] at hv ha hd hj
  have hpost (m : Nat) (hm : m ∈ post) : ((x.tickAxis a).axis m).imm = [] := by
    have hma : m ≠ a.val := by rintro rfl; exact hapost hm
    rw [(hother m hma).axis, (hkept m hm).axis]
    exact hb m (hlt m (by simp [hm])) hma
  generalize x.tickAxis a = y at hv ha hd hj hdone himm hmem hpost ⊢
  obtain ⟨hf', hk'⟩ := Dev.tickAxes_keep (P := fun x => x.imm = []) hP hnpost (d := y) hpost
  have hka' := hk' a hapost
  exact ⟨(hka'.flds _ (by decide)).trans hv, (hka'.flds _ (by decide)).trans ha, (hka'.flds _ (by decide)).trans hd, (hka'.flds _ (by decide)).trans hj,
    hdone.frame hf', by rw [hka'.axis]; exact himm, Dev.elapse_sameMem.trans (hf.sameMem.trans (hmem.trans hf'.sameMem))⟩

/-! ### The coil loop (R287, R290) -/

/-- A period at low speed shows no load angle. -/
theorem Dev.coilPeriod_slow {d : Dev} {n : Nat} (ia ib : Int) (hv : (d.gets .AX_VEL_VALUE n).natAbs < d.get .AX_LA_VMIN_LA_VMIN n) :
    ∃ delta g, d.coilPeriod n ia ib = (((d.freeNext.put .AX_ELEC_DELTA 0x8000 n).put .AX_ELEC_I_NOW
      (((d.freeNext.put .AX_ELEC_DELTA 0x8000 n).get .AX_ELEC_I_NOW n : Int)
        + clampI (-((d.freeNext.put .AX_ELEC_DELTA 0x8000 n).get .AX_SLEW_I_SLEW n : Int)) ((d.freeNext.put .AX_ELEC_DELTA 0x8000 n).get .AX_SLEW_I_SLEW n)
          (((d.freeNext.put .AX_ELEC_DELTA 0x8000 n).currentTarget n delta false : Nat) - (d.freeNext.put .AX_ELEC_DELTA 0x8000 n).get .AX_ELEC_I_NOW n)).toNat n).modAxis n g) := by
  have hfast : decide (d.get .AX_LA_VMIN_LA_VMIN n ≤ (d.gets .AX_VEL_VALUE n).natAbs) = false := decide_eq_false (Nat.not_le.mpr hv)
  refine ⟨((d.freeBits 16 % 46081 : Nat) : Int) - 23040, ?_⟩
  unfold Dev.coilPeriod
  simp only [hfast, Bool.false_eq_true, if_false]
  exact ⟨_, rfl⟩

/-- A period at speed shows a load angle of the range. -/
theorem Dev.coilPeriod_fast {d : Dev} {n : Nat} (ia ib : Int) (hv : d.get .AX_LA_VMIN_LA_VMIN n ≤ (d.gets .AX_VEL_VALUE n).natAbs) :
    ∃ delta i g, -23040 ≤ delta ∧ delta ≤ 23040 ∧ d.coilPeriod n ia ib = ((d.freeNext.puts .AX_ELEC_DELTA delta n).put .AX_ELEC_I_NOW i n).modAxis n g := by
  have hfast : decide (d.get .AX_LA_VMIN_LA_VMIN n ≤ (d.gets .AX_VEL_VALUE n).natAbs) = true := decide_eq_true hv
  have hlt : d.freeBits 16 % 46081 < 46081 := Nat.mod_lt _ (by decide)
  refine ⟨((d.freeBits 16 % 46081 : Nat) : Int) - 23040, ?_⟩
  unfold Dev.coilPeriod
  simp only [hfast, if_true]
  exact ⟨_, _, by omega, by omega, rfl⟩

/-- At low speed the target rests on no load angle. -/
theorem Dev.currentTarget_slow (d : Dev) (n : Nat) (delta : Int) (v : Nat) :
    (d.freeNext.put .AX_ELEC_DELTA v n).currentTarget n delta false = d.currentTarget n 0 false := by
  have hg (f : Fld) (hf : f ≠ .AX_ELEC_DELTA) : (d.freeNext.put .AX_ELEC_DELTA v n).get f n = d.get f n := Dev.get_put_ne _ _ _ _ _ _ _ _ hf
  have hr : (d.freeNext.put .AX_ELEC_DELTA v n).axisRests n = d.axisRests n := rfl
  have hx : (d.freeNext.put .AX_ELEC_DELTA v n).axis n = d.axis n := rfl
  unfold Dev.currentTarget Dev.ceiling
  simp only [hg _ (show Fld.AX_CUR_I_CEIL ≠ .AX_ELEC_DELTA by decide), hg _ (show Fld.AX_STAT_GOV ≠ .AX_ELEC_DELTA by decide),
    hg _ (show Fld.AX_CUR_I_BASE ≠ .AX_ELEC_DELTA by decide), hg _ (show Fld.AX_CUR2_I_HOME ≠ .AX_ELEC_DELTA by decide),
    hg _ (show Fld.AX_CUR2_I_HOLD ≠ .AX_ELEC_DELTA by decide), hr, hx, Bool.and_false, Bool.false_eq_true, if_false]

theorem execCoilLoopPeriod_runs (ia ib : Int) (hd : s.dev.drives = true) (ht : (s.dev.now + dt) % (20000 * qNs) = 0) (hs : s.dev.inService 43 = true)
    (h0 : s.dev.get .AX_STAT_STATE a ≠ 0) (h6 : s.dev.get .AX_STAT_STATE a ≠ 6) (hm : s.dev.get .AX_CFG_MODE a = 0) {P : Dev → Prop}
    (h : P ((s.dev.elapse dt).coilPeriod a ia ib)) : Answers (.coilLoopPeriod dt a ia ib) s P := by
  refine Answers.of_act (show _ = execCoilLoopPeriod dt a ia ib s from rfl) ?_
  have hgo : ((s.dev.elapse dt).drives && (s.dev.elapse dt).atTick 20000 && (s.dev.elapse dt).inService 43 && (s.dev.elapse dt).get .AX_STAT_STATE a != 0
      && (s.dev.elapse dt).get .AX_STAT_STATE a != 6 && !(s.dev.elapse dt).flag .AX_CFG_MODE a) = true := by
    simp only [Bool.and_eq_true, bne_iff_ne, Bool.not_eq_true']
    exact ⟨⟨⟨⟨⟨hd, beq_iff_eq.mpr ht⟩, hs⟩, h0⟩, h6⟩, Dev.flag_false hm⟩
  simp only [hgo, Dev.when_true]
  exact h

theorem execCoilLoopPeriod_slow (ia ib : Int) (hd : s.dev.drives = true) (ht : (s.dev.now + dt) % (20000 * qNs) = 0) (hs : s.dev.inService 43 = true)
    (h0 : s.dev.get .AX_STAT_STATE a ≠ 0) (h6 : s.dev.get .AX_STAT_STATE a ≠ 6) (hm : s.dev.get .AX_CFG_MODE a = 0)
    (hv : (s.dev.gets .AX_VEL_VALUE a).natAbs < s.dev.get .AX_LA_VMIN_LA_VMIN a) :
    Answers (.coilLoopPeriod dt a ia ib) s (fun e => e.get .AX_ELEC_DELTA a = 0x8000
        ∧ e.get .AX_ELEC_I_NOW a = ((s.dev.get .AX_ELEC_I_NOW a : Int) + clampI (-(s.dev.get .AX_SLEW_I_SLEW a : Int)) (s.dev.get .AX_SLEW_I_SLEW a)
            ((s.dev.elapse dt).currentTarget a 0 false - s.dev.get .AX_ELEC_I_NOW a)).toNat % 2 ^ Fld.width .AX_ELEC_I_NOW
        ∧ s.dev.OnlyAt e [(.AX_ELEC_DELTA, a, 0), (.AX_ELEC_I_NOW, a, 0)] ∧ s.dev.SameMem e) := by
  refine execCoilLoopPeriod_runs ia ib hd ht hs h0 h6 hm ?_
  have hmem := ((s.dev.elapse dt).coilPeriod_frame a ia ib).sameMem
  obtain ⟨delta, g, he⟩ := Dev.coilPeriod_slow (d := s.dev.elapse dt) ia ib hv
  have hg (f : Fld) (hf : f ≠ .AX_ELEC_DELTA) : ((s.dev.elapse dt).freeNext.put .AX_ELEC_DELTA 0x8000 a).get f a = s.dev.get f a :=
    Dev.get_put_ne _ _ _ _ _ _ _ _ hf
  rw [Dev.currentTarget_slow, hg _ (by decide), hg _ (by decide)] at he
  rw [he] at hmem ⊢
  generalize Int.toNat _ = i at hmem ⊢
  have hat : s.dev.OnlyAt (((s.dev.elapse dt).freeNext.put .AX_ELEC_DELTA 0x8000 a).put .AX_ELEC_I_NOW i a) [(.AX_ELEC_DELTA, a, 0), (.AX_ELEC_I_NOW, a, 0)] :=
    .put (.put (.of_regs (e := s.dev.elapse dt) Dev.elapse_onlyAt rfl) (by simp)) (by simp)
  have hdel : (((s.dev.elapse dt).freeNext.put .AX_ELEC_DELTA 0x8000 a).put .AX_ELEC_I_NOW i a).get .AX_ELEC_DELTA a = 0x8000 :=
    (Dev.get_put_ne _ _ _ _ _ _ _ _ (by decide)).trans (Dev.get_put_of_lt (by decide))
  have hi := Dev.get_put_self ((s.dev.elapse dt).freeNext.put .AX_ELEC_DELTA 0x8000 a) .AX_ELEC_I_NOW i a 0
  generalize Dev.put _ .AX_ELEC_I_NOW i a = x at hat hdel hi hmem ⊢
  have hf := Dev.modAxis_frame x a g
  exact ⟨(hf.get _ _ _ (by decide +kernel)).trans hdel, (hf.get _ _ _ (by decide +kernel)).trans hi, hat.trans (hf.onlyAt (by decide +kernel)),
    Dev.elapse_sameMem.trans hmem⟩

/-- A load angle is a word of the register. -/
theorem sInt_uInt_angle {v : Int} (hlo : -23040 ≤ v) (hhi : v ≤ 23040) : sInt 16 (uInt 16 v) = v := by
  unfold sInt uInt
  split <;> omega

theorem execCoilLoopPeriod_fast (ia ib : Int) (hd : s.dev.drives = true) (ht : (s.dev.now + dt) % (20000 * qNs) = 0) (hs : s.dev.inService 43 = true)
    (h0 : s.dev.get .AX_STAT_STATE a ≠ 0) (h6 : s.dev.get .AX_STAT_STATE a ≠ 6) (hm : s.dev.get .AX_CFG_MODE a = 0)
    (hv : s.dev.get .AX_LA_VMIN_LA_VMIN a ≤ (s.dev.gets .AX_VEL_VALUE a).natAbs) :
    Answers (.coilLoopPeriod dt a ia ib) s (fun e => -23040 ≤ e.gets .AX_ELEC_DELTA a ∧ e.gets .AX_ELEC_DELTA a ≤ 23040
        ∧ s.dev.OnlyAt e [(.AX_ELEC_DELTA, a, 0), (.AX_ELEC_I_NOW, a, 0)] ∧ s.dev.SameMem e) := by
  refine execCoilLoopPeriod_runs ia ib hd ht hs h0 h6 hm ?_
  have hmem := ((s.dev.elapse dt).coilPeriod_frame a ia ib).sameMem
  obtain ⟨delta, i, g, hlo, hhi, he⟩ := Dev.coilPeriod_fast (d := s.dev.elapse dt) ia ib hv
  rw [he] at hmem ⊢
  have hat : s.dev.OnlyAt (((s.dev.elapse dt).freeNext.puts .AX_ELEC_DELTA delta a).put .AX_ELEC_I_NOW i a) [(.AX_ELEC_DELTA, a, 0), (.AX_ELEC_I_NOW, a, 0)] :=
    .put (.put (.of_regs (e := s.dev.elapse dt) Dev.elapse_onlyAt rfl) (by simp)) (by simp)
  have hdel : (((s.dev.elapse dt).freeNext.puts .AX_ELEC_DELTA delta a).put .AX_ELEC_I_NOW i a).get .AX_ELEC_DELTA a = uInt 16 delta :=
    (Dev.get_put_ne _ _ _ _ _ _ _ _ (by decide)).trans (Dev.get_puts_self ..)
  generalize Dev.put _ .AX_ELEC_I_NOW i a = x at hat hdel hmem ⊢
  have hf := Dev.modAxis_frame x a g
  have hshow : (x.modAxis a g).gets .AX_ELEC_DELTA a = delta := by
    rw [Dev.gets, hf.get _ _ _ (by decide +kernel), hdel]
    exact sInt_uInt_angle hlo hhi
  rw [hshow]
  exact ⟨hlo, hhi, hat.trans (hf.onlyAt (by decide +kernel)), Dev.elapse_sameMem.trans hmem⟩

end Cmd

/-- Settles O47: an axis command is taken, waits or is turned away; a tick acts on each axis as its own; and every end of a motion
completes what was in execution. -/
theorem axesMove : Obligations.AxesMove :=
  ⟨fun _ _ _ _ _ h ht _ hc hi hm => execAxMove_starts h ht hc hi hm,
   fun _ _ _ _ _ h hc => execAxMove_refused h hc,
   fun _ _ _ _ _ h ht _ hc hm => execAxHome_starts h ht hc hm,
   fun _ _ _ _ _ h ht hc he => execAxStop_taken h ht hc he,
   fun _ _ _ _ _ h ht hc he => execAxStop_waits h ht hc he,
   fun _ _ _ _ _ h ht hc hi he hh ho => execAxMove_retarget h ht hc hi he hh ho,
   fun _ _ _ _ h hc ho => execAxMove_waits h hc ho,
   fun _ _ _ _ _ h ht hc hh => execAxLimits_taken h ht hc hh,
   fun _ _ ht hs hd => execAxisTick_calm ht hs hd,
   fun _ _ _ _ _ ht hs hi hb hj ho hseg h₁ h₂ h₃ h₄ h₅ => execAxisTick_limits ht hs hi hb ⟨hj, h₁, h₂, h₃, h₄, h₅⟩ ho hseg,
   fun _ _ _ _ _ ht hr hs hj hn hc hd h₁ h₂ h₃ h₄ h₅ => execAxisMoveDone_move ht hr hs hj hn hc ⟨hd, h₁, h₂, h₃, h₄, h₅⟩,
   fun _ _ _ _ _ ht hr hs hh hj hd h₁ h₂ h₃ h₄ h₅ => execAxisMoveDone_homed ht hr hs hh hj ⟨hd, h₁, h₂, h₃, h₄, h₅⟩,
   fun _ _ _ _ _ hn hs hj hno hi hd h₁ h₂ h₃ h₄ h₅ hl => execStall_stalls hn hs hj hno hi ⟨hd, h₁, h₂, h₃, h₄, h₅⟩ hl,
   fun _ _ _ hn hs hh => execStall_presses hn hs hh,
   fun _ _ _ hh hp => execHomePressDone_backs hh hp,
   fun _ _ _ hh hm hw => execHomeNoStop_ends hh hm hw,
   fun _ _ _ hr hw => execHoldDelayExpire_holds hr hw,
   fun _ _ _ hz he => execAxisEnable_enables hz he,
   fun _ _ _ hz => execAxisDisable_disables hz,
   fun _ _ _ _ hd h0 h6 hm ho hl => execCoilFault_faults hd h0 h6 hm ho hl,
   fun _ _ _ ia ib hd ht hs h0 h6 hm hv => execCoilLoopPeriod_slow ia ib hd ht hs h0 h6 hm hv,
   fun _ _ _ ia ib hd ht hs h0 h6 hm hv => execCoilLoopPeriod_fast ia ib hd ht hs h0 h6 hm hv⟩

end Sys2Proof.Machine
end

section
/-! The layer cycle: what its operations keep (O31 to O36). -/

set_option Elab.async false
namespace Sys2Proof.Machine
open Sys2Proof

/-! ### Answers within the frame of a command -/

/-- A meaning that is an action answers the device it makes, and that device lies in the command's frame. -/
theorem Answers.of_framed {c : Instr} {s : State} {dt w : Nat} {f : Dev → Dev} {P : Dev → Prop} (hx : exec c s = s.act dt f)
    (hf : ∃ e, exec c s = .next { s with dev := e } ∧ Frame w s.dev e) (hp : Frame w s.dev (f (s.dev.elapse dt)) → P (f (s.dev.elapse dt))) :
    Answers c s P := by
  obtain ⟨e, he, hf⟩ := hf
  obtain rfl : f (s.dev.elapse dt) = e := congrArg State.dev (Host.Outcome.next.inj (hx.symm.trans he))
  exact Answers.of_act hx (hp hf)

/-- An event whose condition holds. -/
theorem Answers.of_when {c : Instr} {s : State} {dt w : Nat} {g : Dev → Bool} {f : Dev → Dev} {P : Dev → Prop}
    (hx : exec c s = s.act dt (fun d => d.when (g d) f)) (hf : ∃ e, exec c s = .next { s with dev := e } ∧ Frame w s.dev e)
    (hg : g (s.dev.elapse dt) = true) (hp : Frame w s.dev (f (s.dev.elapse dt)) → P (f (s.dev.elapse dt))) : Answers c s P := by
  refine Answers.of_framed hx hf fun h => ?_
  rw [hg, Dev.when_true] at h ⊢
  exact hp h

/-! ### The layer through operations that take marks or retrain -/

/-- The layer is as it was, but for the marks taken and the retraining under way. -/
def Dev.LayerKept (d e : Dev) : Prop := ∃ m r, e.layer = { d.layer with marksTaken := m, retraining := r }

theorem Dev.LayerKept.refl {d : Dev} : d.LayerKept d := ⟨_, _, rfl⟩

theorem Dev.LayerKept.trans {d e f : Dev} (h : d.LayerKept e) (k : e.LayerKept f) : d.LayerKept f := by
  obtain ⟨m, r, h⟩ := h
  obtain ⟨m', r', k⟩ := k
  exact ⟨m', r', by rw [k, h]⟩

theorem Dev.LayerKept.frame {w : Nat} {d e f : Dev} (hf : Frame w e f) (h : d.LayerKept e)
    (hl : w.testBit 17 = false := by decide +kernel) : d.LayerKept f := by
  unfold Dev.LayerKept; rw [hf.layer hl]; exact h

theorem Dev.LayerKept.foldl {ι : Type} {d e : Dev} {l : List ι} {g : Dev → ι → Dev} (h : d.LayerKept e)
    (hg : ∀ x a, d.LayerKept x → d.LayerKept (g x a)) : d.LayerKept (l.foldl g e) :=
  foldl_keep h hg l

theorem Dev.LayerKept.settleMarks {d e : Dev} (h : d.LayerKept e) (t : Nat) : d.LayerKept (e.settleMarks t) := by
  unfold Dev.settleMarks
  refine h.foldl fun x m hx => ?_
  simp only []
  split
  · exact hx
  · exact .frame (Dev.finishJob_frame ..) (hx.trans ⟨_, _, rfl⟩)

theorem Dev.LayerKept.completeAt {d e : Dev} (h : d.LayerKept e) (id code t : Nat) : d.LayerKept (e.completeAt id code t) :=
  .settleMarks (.frame (Dev.finishJob_frame ..) h) t

theorem Dev.LayerKept.complete {d e : Dev} (h : d.LayerKept e) (id code : Nat) : d.LayerKept (e.complete id code) :=
  h.completeAt id code _

/-- A descriptor held completes at an instant of its own. -/
theorem Dev.Ends.completeAt {d : Dev} {id : Nat} {j : Job} (h : d.Ends id j) (code t : Nat) : (d.completeAt id code t).Done j code := by
  obtain rfl := Dev.job_id h.held
  exact (d.finishJob_done j code t h.held h.code h.replay h.orphan h.entry h.kept).settle t

/-! ### Registers of the layer (R39, R49) -/

theorem Dev.OnlyAt.mono {d e : Dev} {fs gs : List (Fld × Nat × Nat)} (h : d.OnlyAt e fs) (hs : fs ⊆ gs) : d.OnlyAt e gs :=
  fun f i j hg => h f i j (fun hm => hg (hs hm))

@[simp] theorem Dev.get_modLayer (d : Dev) (g : Layer → Layer) (f : Fld) (i j : Nat) : (d.modLayer g).get f i j = d.get f i j := rfl

theorem nsOf_lt (t : Nat) : nsOf t < 2 ^ 32 := by
  have h : t % qSec < qSec := Nat.mod_lt _ (by decide)
  unfold nsOf
  rw [Nat.div_lt_iff_lt_mul (by decide)]
  exact h.trans_le (by decide)

/-- A new epoch as its registers show it (R49). -/
def Dev.showEpoch (d : Dev) (t : Nat) : Dev := (d.put .SYS_LAYER_EPOCH_LO_NS (nsOf t)).put .SYS_LAYER_EPOCH_HI_SEC (secOf t % 2 ^ 32)

theorem Dev.showEpoch_shows (d : Dev) (t : Nat) : (d.showEpoch t).get .SYS_LAYER_EPOCH_LO_NS = nsOf t
    ∧ (d.showEpoch t).get .SYS_LAYER_EPOCH_HI_SEC = secOf t % 2 ^ 32 :=
  ⟨(Dev.get_put_ne _ _ _ _ _ _ _ _ (by decide)).trans (Dev.get_put_of_lt (nsOf_lt t)), Dev.get_put_of_lt (Nat.mod_lt _ (by decide))⟩

theorem Dev.showEpoch_frame (d : Dev) (t : Nat) : Frame (Fld.bit .SYS_LAYER_EPOCH_LO_NS ||| Fld.bit .SYS_LAYER_EPOCH_HI_SEC) d (d.showEpoch t) :=
  ((Dev.put_frame ..).mono (by decide +kernel)).step' (Dev.put_frame ..) (by decide +kernel)

theorem Dev.enterState_state (d : Dev) {st : Nat} (h : st < 16) : (d.enterState st).get .SYS_LAYER_STAT_STATE = st :=
  ((Dev.occur_frame ..).get _ _ _ (by decide +kernel)).trans (Dev.get_put_of_lt h)

end Sys2Proof.Machine
end

section
/-! The mid-layer rebase (O36). -/

set_option Elab.async false
namespace Sys2Proof.Machine
open Sys2Proof

section Cmd
variable {s : State} {dt : Nat}

theorem execMidLayerRebase_requests (ho : s.dev.layerOpen = true) (h9 : s.dev.get .SYS_LAYER_STAT_STATE ≠ 9) (hr : s.dev.layer.rebase = false)
    (hw : s.dev.layer.rebaseSweep = false) (ht : s.dev.layer.epoch + 64000 * qMs ≤ s.dev.now + dt) (hl : s.dev.logs) :
    Answers (.midLayerRebase dt) s (fun e => e.get .SYS_LAYER_STAT_REBASE = 1 ∧ e.layer = { s.dev.layer with rebase := true }
      ∧ e.Recorded 0x0110 2 ∧ s.dev.SameMem e) := by
  refine Answers.of_when (show _ = execMidLayerRebase dt s from rfl) (execMidLayerRebase_frame dt s) ?_ fun hf => ?_
  · have h9' : ((s.dev.elapse dt).layerState != 9) = true := bne_iff_ne.mpr h9
    have ht' := decide_eq_true ht
    rw [show (s.dev.elapse dt).layerOpen = true from ho, h9', show (s.dev.elapse dt).layer = s.dev.layer from rfl, hr, hw, Dev.elapse_now, ht']
    rfl
  have hset : (((s.dev.elapse dt).modLayer (fun l => { l with rebase := true })).raise .SYS_LAYER_STAT_REBASE).get .SYS_LAYER_STAT_REBASE = 1 :=
    Dev.get_raise
  have hlog : (((s.dev.elapse dt).modLayer (fun l => { l with rebase := true })).raise .SYS_LAYER_STAT_REBASE).logs :=
    .frame (Dev.raise_frame ..) (.frame (Dev.modLayer_frame (s.dev.elapse dt) _) hl)
  have hlay : (((s.dev.elapse dt).modLayer (fun l => { l with rebase := true })).raise .SYS_LAYER_STAT_REBASE).layer
      = { s.dev.layer with rebase := true } := rfl
  simp only [] at hf ⊢
  generalize Dev.raise _ _ = x at hset hlog hlay hf ⊢
  have hrec := (hlog.accepts 2).recorded (code := 0x0110) (recSource 35 63) (x.get .SYS_LAYER_NUM_LAYER_NUM) 0 0 0
  have hy := (Dev.record_frame x 0x0110 2 (recSource 35 63) (x.get .SYS_LAYER_NUM_LAYER_NUM) 0 0 0).step' (Dev.occur_frame _ 404) (by decide +kernel)
  exact ⟨(hy.get _ _ _ (by decide +kernel)).trans hset, (hy.layer (by decide +kernel)).trans hlay, .frame (Dev.occur_frame ..) hrec, hf.sameMem⟩

/-- The cells swept at a present instant, their errors found first. -/
def Dev.rebaseSwept (d : Dev) : Dev := (d.when (d.inService 38) (fun d => d.cellErrors (fun _ => true))).sweepCells d.now

theorem Dev.rebaseSwept_frame (d : Dev) : Frame 0x1024000000000000000000000000000000000000000000000000000000000000000000000000000000000000000020040000000 d d.rebaseSwept :=
  .step' (Frame.when (fun _ _ => Dev.cellErrors_frame ..) .refl) (Dev.sweepCells_frame ..) (by decide +kernel)

/-- A clean map is swept without a register changed. -/
theorem Dev.rebaseSwept_clean {d : Dev} (h : d.grain.bad = []) : d.OnlyAt d.rebaseSwept [] := by
  rw [Dev.rebaseSwept, Dev.when, Dev.cellErrors_none h, ite_self]
  exact (Dev.sweepCells_frame ..).onlyAt (by decide +kernel)

/-- The sweep of a rebase runs, its start the epoch. -/
def Dev.rebaseBegun (d : Dev) : Dev :=
  ((d.raise .GRN_STAT_SWEEP).modLayer (fun l => { l with rebase := false, rebaseSweep := true, epoch := d.now })).showEpoch d.now

theorem Dev.rebaseBegun_shows (d : Dev) : d.rebaseBegun.get .GRN_STAT_SWEEP = 1 ∧ d.rebaseBegun.get .SYS_LAYER_EPOCH_LO_NS = nsOf d.now
    ∧ d.rebaseBegun.get .SYS_LAYER_EPOCH_HI_SEC = secOf d.now % 2 ^ 32
    ∧ d.rebaseBegun.layer = { d.layer with rebase := false, rebaseSweep := true, epoch := d.now } := by
  unfold Dev.rebaseBegun
  have hx : ((d.raise .GRN_STAT_SWEEP).modLayer (fun l => { l with rebase := false, rebaseSweep := true, epoch := d.now })).get .GRN_STAT_SWEEP = 1 :=
    (Dev.get_modLayer ..).trans Dev.get_raise
  obtain ⟨hlo, hhi⟩ := ((d.raise .GRN_STAT_SWEEP).modLayer (fun l => { l with rebase := false, rebaseSweep := true, epoch := d.now })).showEpoch_shows d.now
  exact ⟨((Dev.showEpoch_frame ..).get _ _ _ (by decide +kernel)).trans hx, hlo, hhi, rfl⟩

theorem Dev.rebaseBegun_onlyAt {d e : Dev} (h : d.OnlyAt e []) :
    d.OnlyAt e.rebaseBegun [(.GRN_STAT_SWEEP, 0, 0), (.SYS_LAYER_EPOCH_LO_NS, 0, 0), (.SYS_LAYER_EPOCH_HI_SEC, 0, 0)] := by
  have hsweep := (h.mono (List.nil_subset [(.GRN_STAT_SWEEP, 0, 0), (.SYS_LAYER_EPOCH_LO_NS, 0, 0), (.SYS_LAYER_EPOCH_HI_SEC, 0, 0)])).put
    (f := .GRN_STAT_SWEEP) (v := 1) (i := 0) (j := 0) (by simp)
  exact ((hsweep.of_regs (f := (e.raise .GRN_STAT_SWEEP).modLayer (fun l => { l with rebase := false, rebaseSweep := true, epoch := e.now })) rfl).put
    (by simp)).put (by simp)

theorem execRebaseSweepStart_sweeps (hr : s.dev.layer.rebase = true)
    (hg : ∀ n < 34, (s.dev.eng n).plans = [] ∧ (s.dev.eng n).gate.edges = []) :
    Answers (.rebaseSweepStart dt) s (fun e => e.get .GRN_STAT_SWEEP = 1 ∧ e.layer.rebase = false ∧ e.layer.rebaseSweep = true
        ∧ e.layer.epoch = s.dev.now + dt ∧ e.get .SYS_LAYER_EPOCH_LO_NS = nsOf (s.dev.now + dt)
        ∧ e.get .SYS_LAYER_EPOCH_HI_SEC = secOf (s.dev.now + dt) % 2 ^ 32
        ∧ s.dev.OnlyIn e [.GRN_STAT, .GRN_CNT, .GRN_LOST, .SYS_LAYER_EPOCH_LO, .SYS_LAYER_EPOCH_HI] ∧ (s.dev.grain.bad = [] →
          s.dev.OnlyAt e [(.GRN_STAT_SWEEP, 0, 0), (.SYS_LAYER_EPOCH_LO_NS, 0, 0), (.SYS_LAYER_EPOCH_HI_SEC, 0, 0)]) ∧ s.dev.SameMem e) := by
  refine Answers.of_when (f := fun d => d.rebaseSwept.rebaseBegun) (show _ = execRebaseSweepStart dt s from rfl) (execRebaseSweepStart_frame dt s) ?_ fun hf => ?_
  · refine Bool.and_eq_true_iff.mpr ⟨hr, List.all_eq_true.mpr fun n hn => ?_⟩
    obtain ⟨hp, he⟩ := hg n (List.mem_range.mp hn)
    have hp' : ((s.dev.elapse dt).eng n).plans = [] := hp
    have he' : ((s.dev.elapse dt).eng n).gate.edges = [] := he
    simp [Engine.current, hp', he']
  have hclean := Dev.rebaseSwept_clean (d := s.dev.elapse dt)
  have hnow : (s.dev.elapse dt).rebaseSwept.now = s.dev.now + dt := (s.dev.elapse dt).rebaseSwept_frame.now (by decide +kernel)
  obtain ⟨hsweep, hlo, hhi, hlay⟩ := (s.dev.elapse dt).rebaseSwept.rebaseBegun_shows
  rw [hnow] at hlo hhi hlay
  exact ⟨hsweep, by rw [hlay], by rw [hlay], by rw [hlay], hlo, hhi, hf.onlyIn (by decide +kernel),
    fun hb => Dev.elapse_onlyAt.trans (Dev.rebaseBegun_onlyAt (hclean hb)), hf.sameMem⟩

end Cmd

/-- Settles O36: the request sets REBASE and is recorded; the sweep that follows shows its start as the epoch. -/
theorem layerRebases : Obligations.LayerRebases :=
  ⟨fun _ _ ho h9 hr hw ht hl => execMidLayerRebase_requests ho h9 hr hw ht hl, fun _ _ hr hg => execRebaseSweepStart_sweeps hr hg⟩

end Sys2Proof.Machine
end

section
/-! The barrier (O35). -/

set_option Elab.async false
namespace Sys2Proof.Machine
open Sys2Proof

/-! ### Ready messages held (R57, R349) -/

theorem Dev.holdReady_new {d : Dev} {dev num : Nat} (inst : Nat) (h : ∀ r ∈ d.layer.ready, r.1 = dev → r.2.1 ≠ num) :
    (d.holdReady dev num inst).layer = { d.layer with ready := d.layer.ready ++ [(dev, num, inst)] } := by
  have hany : d.layer.ready.any (fun r => r.1 == dev && r.2.1 == num) = false := by simpa [List.any_eq_false] using h
  simp only [Dev.holdReady, Dev.modLayer, hany, Bool.false_eq_true, if_false]

theorem Frame.left {w : Nat} {d e : Dev} (h : Frame w d e) (id : Nat)
    (hl : w.testBit (64 + Fld.ctorIdx .FAB_ROUTE_LEFT) = false := by decide +kernel) (hf : w.testBit 40 = false := by decide +kernel) :
    e.left id = d.left id := by
  rw [Dev.left, Dev.flag, h.get _ _ _ hl, h.fabric hf, Dev.left, Dev.flag]

theorem Frame.readyFor {w : Nat} {d e : Dev} (h : Frame w d e) (num : Nat)
    (hl : w.testBit (64 + Fld.ctorIdx .FAB_ROUTE_LEFT) = false := by decide +kernel) (hf : w.testBit 40 = false := by decide +kernel)
    (hy : w.testBit 17 = false := by decide +kernel) : e.readyFor num = d.readyFor num := by
  simp only [Dev.readyFor, h.layer hy, h.left _ hl hf]

/-- One more message of a layer counts, unless its device has left. -/
theorem Dev.readyFor_append {d e : Dev} {r : Nat × Nat × Nat} {num : Nat} (hr : e.layer.ready = d.layer.ready ++ [r])
    (hl : ∀ id, e.left id = d.left id) (hn : r.2.1 = num) (hm : d.left r.1 = false) : e.readyFor num = d.readyFor num ++ [r] := by
  simp [Dev.readyFor, hr, hl, hn, hm]

/-- The count that READY_COUNT shows. -/
theorem Dev.showReady_get (d : Dev) : d.showReady.get .SYS_BARRIER_STAT_READY_COUNT
    = (d.readyFor (d.get .SYS_LAYER_NUM_LAYER_NUM)).length % 2 ^ 11 := Dev.get_put_self ..

/-! ### Members that have left (R59, R351) -/

/-- Cells of one field changed leave what a reading of the cells of others finds. -/
theorem filterMap_cellsSet {α : Type} (p : RegCell → Option α) (cs : List RegCell) {f : Fld} (v i j : Nat) (hp : ∀ c, c.fld = f → p c = none) :
    (cellsSet cs f v i j).filterMap p = cs.filterMap p := by
  have herase : (cellsErase f i j cs).filterMap p = cs.filterMap p := by
    rw [cellsErase, List.filterMap_filter]
    refine List.filterMap_congr fun c _ => ?_
    by_cases hc : c.isAt f i j = true
    · rw [hp c (by simp only [RegCell.isAt, decide_eq_true_eq] at hc; exact hc.1)]; simp
    · simp [hc]
  have hinsert (c : RegCell) (hc : c.fld = f) (l : List RegCell) : (cellsInsert c l).filterMap p = l.filterMap p := by
    induction l with
    | nil => simp [cellsInsert, hp c hc]
    | cons x l ih =>
      unfold cellsInsert
      split
      · simp [hp c hc]
      · simp [List.filterMap_cons, ih]
  unfold cellsSet
  split
  · exact herase
  · rw [hinsert ⟨f, i, j, _⟩ rfl, herase]

/-- The members marked as having left. -/
def Dev.leavers (d : Dev) : List Nat :=
  d.regs.filterMap (fun c => if c.fld = .FAB_ROUTE_LEFT ∧ c.val = 1 then some c.i else none) ++ d.fabric.joinedLate

theorem Dev.leftCount_eq (d : Dev) : d.leftCount = (d.leavers.filter d.memberAlone).length := rfl

theorem Dev.showReady_leavers (d : Dev) : d.showReady.leavers = d.leavers := by
  unfold Dev.leavers Dev.showReady Dev.put
  rw [filterMap_cellsSet _ _ _ _ _ (fun c hc => by simp [hc])]

theorem Dev.showReady_needed (d : Dev) : d.showReady.readyNeeded = d.readyNeeded := by
  have hm : d.showReady.memberAlone = d.memberAlone := funext fun id => by
    simp [Dev.memberAlone, Dev.flag, Dev.showReady]
  have hg : d.showReady.get .SYS_BARRIER_CFG_GROUP_SIZE = d.get .SYS_BARRIER_CFG_GROUP_SIZE := Dev.get_put_ne _ _ _ _ _ _ _ _ (by decide)
  rw [Dev.readyNeeded, Dev.leftCount_eq, d.showReady_leavers, hm, hg]
  rfl

/-- A device that counts as a member by itself lets no more messages be needed. -/
theorem Dev.setMember_needed (d : Dev) (dev : Nat) : (d.setMember dev true).readyNeeded ≤ d.readyNeeded := by
  have hle : d.leftCount ≤ (d.setMember dev true).leftCount := by
    refine (List.monotone_filter_right d.leavers fun id h => ?_).length_le
    have hpair : (d.setMember dev true).flag .HNG_CFG_PAIR_EN = d.flag .HNG_CFG_PAIR_EN
        ∧ (d.setMember dev true).get .HNG_CFG_PARTNER_ID = d.get .HNG_CFG_PARTNER_ID := ⟨rfl, rfl⟩
    have hothers : (d.setMember dev true).layer.others = d.layer.others.filter (· != dev) := rfl
    simp only [Dev.memberAlone, hpair, hothers, Bool.and_eq_true, Bool.not_eq_true', List.contains_eq_mem, decide_eq_false_iff_not,
      List.mem_filter] at h ⊢
    exact ⟨fun hm => h.1 hm.1, h.2⟩
  have hg : (d.setMember dev true).get .SYS_BARRIER_CFG_GROUP_SIZE = d.get .SYS_BARRIER_CFG_GROUP_SIZE := rfl
  rw [Dev.readyNeeded, Dev.readyNeeded, hg]
  omega

/-! ### The count looked at again (R57, R58) -/

/-- The release that the ready messages held set (R57). -/
def Dev.releaseAt (d : Dev) : Nat :=
  (d.readyFor (d.get .SYS_LAYER_NUM_LAYER_NUM)).foldl (fun m r => max m r.2.2) 0 + d.get .SYS_BARRIER_CFG_LEAD_US * qUs

/-- The count is shown; in the barrier wait the last message sets the release, or releases at once where it has passed. -/
theorem Dev.recheckBarrier_eq (d : Dev) : d.recheckBarrier =
    if d.get .SYS_LAYER_STAT_STATE = 10 ∧ d.layer.release = none ∧ d.readyNeeded ≤ (d.readyFor (d.get .SYS_LAYER_NUM_LAYER_NUM)).length then
      if d.releaseAt < d.now then d.showReady.lateRelease else d.showReady.modLayer (fun l => { l with release := some d.releaseAt })
    else d.showReady := by
  have hf := d.showReady_frame
  have hnum : d.showReady.get .SYS_LAYER_NUM_LAYER_NUM = d.get .SYS_LAYER_NUM_LAYER_NUM := hf.get _ _ _ (by decide +kernel)
  have hlead : d.showReady.get .SYS_BARRIER_CFG_LEAD_US = d.get .SYS_BARRIER_CFG_LEAD_US := hf.get _ _ _ (by decide +kernel)
  have hst : d.showReady.layerState = d.get .SYS_LAYER_STAT_STATE := hf.get _ _ _ (by decide +kernel)
  unfold Dev.recheckBarrier
  simp only [hnum, hlead, hst, d.showReady_needed, hf.readyFor, hf.layer (by decide +kernel), hf.now (by decide +kernel), Dev.releaseAt]
  rfl

/-! ### A ready message arrives (R57) -/

/-- A granted barrier-ready message is taken, also from a frozen peer (R111). -/
theorem Dev.granting_ready {d : Dev} {p : Nat} {f : Dev → Dev} (hs : d.inService 46 = true) (hg : d.grantOk p 3 none = true) :
    d.granting p 3 none f = f (d.hear p) := by
  have hg' : (d.hear p).grantOk p 3 none = true := hg
  simp [Dev.granting, Dev.fabricIn, hs, hg']

/-- The device that holds a ready message of its group, before the count is looked at again. -/
def Dev.readyHeld (d : Dev) (dev num inst : Nat) : Dev := ((d.hear dev).setMember dev true).holdReady dev num inst

theorem Dev.readyHeld_frame (d : Dev) (dev num inst : Nat) : Frame 0x20020000 d (d.readyHeld dev num inst) :=
  (((Dev.hear_frame ..).mono (by decide +kernel)).step' (Dev.setMember_frame ..) (by decide +kernel)).step' (Dev.holdReady_frame ..) (by decide +kernel)

theorem Dev.readyHeld_layer {d : Dev} {dev num : Nat} (inst : Nat) (h : ∀ r ∈ d.layer.ready, r.1 = dev → r.2.1 ≠ num) :
    (d.readyHeld dev num inst).layer
      = { d.layer with others := d.layer.others.filter (· != dev), ready := d.layer.ready ++ [(dev, num, inst)] } :=
  Dev.holdReady_new (d := (d.hear dev).setMember dev true) inst h

theorem Dev.readyHeld_needed (d : Dev) (dev num inst : Nat) : (d.readyHeld dev num inst).readyNeeded ≤ d.readyNeeded := by
  refine le_trans (le_of_eq ?_) ((d.hear dev).setMember_needed dev)
  unfold Dev.readyHeld Dev.holdReady
  generalize (d.hear dev).setMember dev true = x
  have hm : (fun id => (x.modLayer (fun l => if l.ready.any (fun r => r.1 == dev && r.2.1 == num) then l
      else { l with ready := l.ready ++ [(dev, num, inst)] })).memberAlone id) = x.memberAlone := funext fun id => by
    unfold Dev.memberAlone Dev.modLayer
    simp only []
    split <;> rfl
  unfold Dev.readyNeeded Dev.leftCount
  rw [show (x.modLayer _).memberAlone = x.memberAlone from hm]
  rfl

section Cmd
variable {s : State} {dt : Nat} {dev : Fin 1024} {g : Gran}

theorem execBarrierReady_holds (hs : s.dev.inService 46 = true) (hg : s.dev.grantOk dev 3 none = true)
    (hb : bitsOf g.toNat 103 96 = s.dev.get .FAB_GROUP_BARRIER_GRP) :
    execBarrierReady dt dev [g] s = s.act dt (fun d =>
      (d.readyHeld dev (bitsOf g.toNat 31 0) (resolveTs64 d.now (bitsOf g.toNat 95 32)).toNat).recheckBarrier) := by
  unfold execBarrierReady State.act
  refine congrArg (fun d => Host.Outcome.next { s with dev := d }) ((Dev.granting_ready (d := s.dev.elapse dt) hs hg).trans ?_)
  exact if_pos hb

theorem execBarrierReady_outside (hs : s.dev.inService 46 = true) (hg : s.dev.grantOk dev 3 none = true)
    (hb : bitsOf g.toNat 103 96 = s.dev.get .FAB_GROUP_BARRIER_GRP) (hst : s.dev.get .SYS_LAYER_STAT_STATE ≠ 10)
    (hnew : ∀ r ∈ s.dev.layer.ready, r.1 = dev.val → r.2.1 ≠ bitsOf g.toNat 31 0) :
    Answers (.barrierReady dt dev [g]) s (fun e =>
        (dev.val, bitsOf g.toNat 31 0, (resolveTs64 (s.dev.now + dt) (bitsOf g.toNat 95 32)).toNat) ∈ e.layer.ready
          ∧ s.dev.OnlyIn e [.SYS_BARRIER_STAT] ∧ s.dev.SameMem e) := by
  refine Answers.of_framed (show _ = s.act dt _ from execBarrierReady_holds hs hg hb) (execBarrierReady_frame dt dev [g] s) fun hf => ?_
  have hmem := hf.sameMem
  have hh := (s.dev.elapse dt).readyHeld_frame dev (bitsOf g.toNat 31 0) (resolveTs64 (s.dev.now + dt) (bitsOf g.toNat 95 32)).toNat
  have hr := Dev.readyHeld_layer (d := s.dev.elapse dt) (resolveTs64 (s.dev.now + dt) (bitsOf g.toNat 95 32)).toNat hnew
  rw [Dev.elapse_now] at hmem ⊢
  generalize Dev.readyHeld _ _ _ _ = x at hmem hh hr ⊢
  have hst' : ¬ x.get .SYS_LAYER_STAT_STATE = 10 := by rwa [hh.get _ _ _ (by decide +kernel)]
  rw [x.recheckBarrier_eq, if_neg (by simp [hst'])] at hmem ⊢
  refine ⟨?_, Dev.elapse_onlyIn.trans ((hh.onlyIn (by decide +kernel)).trans (x.showReady_frame.onlyIn (by decide +kernel))), hmem⟩
  rw [x.showReady_frame.layer (by decide +kernel), hr]
  simp

theorem execBarrierReady_last {r : Nat × Nat × Nat} {n : Nat} (hs : s.dev.inService 46 = true) (hg : s.dev.grantOk dev 3 none = true)
    (hb : bitsOf g.toNat 103 96 = s.dev.get .FAB_GROUP_BARRIER_GRP) (hst : s.dev.get .SYS_LAYER_STAT_STATE = 10) (hrel : s.dev.layer.release = none)
    (hnum : bitsOf g.toNat 31 0 = s.dev.get .SYS_LAYER_NUM_LAYER_NUM) (hone : s.dev.readyFor (s.dev.get .SYS_LAYER_NUM_LAYER_NUM) = [r])
    (hneed : s.dev.readyNeeded = 2) (hleft : s.dev.left dev = false) (hnew : ∀ r ∈ s.dev.layer.ready, r.1 = dev.val → r.2.1 ≠ bitsOf g.toNat 31 0)
    (hn : n = max r.2.2 (resolveTs64 (s.dev.now + dt) (bitsOf g.toNat 95 32)).toNat + s.dev.get .SYS_BARRIER_CFG_LEAD_US * qUs)
    (hlate : s.dev.now + dt ≤ n) :
    Answers (.barrierReady dt dev [g]) s (fun e => e.layer.release = some n ∧ e.get .SYS_BARRIER_STAT_READY_COUNT = 2
        ∧ s.dev.OnlyAt e [(.SYS_BARRIER_STAT_READY_COUNT, 0, 0)] ∧ s.dev.SameMem e) := by
  refine Answers.of_framed (show _ = s.act dt _ from execBarrierReady_holds hs hg hb) (execBarrierReady_frame dt dev [g] s) fun hf => ?_
  have hmem := hf.sameMem
  rw [Dev.elapse_now] at hmem ⊢
  generalize (resolveTs64 (s.dev.now + dt) (bitsOf g.toNat 95 32)).toNat = inst at hn hmem ⊢
  have hh := (s.dev.elapse dt).readyHeld_frame dev (bitsOf g.toNat 31 0) inst
  have hr := Dev.readyHeld_layer (d := s.dev.elapse dt) inst hnew
  have hneed' := (s.dev.elapse dt).readyHeld_needed dev (bitsOf g.toNat 31 0) inst
  generalize Dev.readyHeld _ _ _ _ = x at hmem hh hr hneed' ⊢
  have hrel' : x.layer.release = none := (congrArg Layer.release hr).trans hrel
  have hst' : x.get .SYS_LAYER_STAT_STATE = 10 := (hh.get _ _ _ (by decide +kernel)).trans hst
  have hnum' : x.get .SYS_LAYER_NUM_LAYER_NUM = s.dev.get .SYS_LAYER_NUM_LAYER_NUM := hh.get _ _ _ (by decide +kernel)
  have hready : x.readyFor (x.get .SYS_LAYER_NUM_LAYER_NUM) = [r, (dev.val, bitsOf g.toNat 31 0, inst)] := by
    rw [hnum', Dev.readyFor_append (congrArg Layer.ready hr) (fun id => hh.left id) hnum hleft]
    exact congrArg (· ++ _) hone
  have hat : x.releaseAt = n := by
    rw [Dev.releaseAt, hready, hh.get .SYS_BARRIER_CFG_LEAD_US _ _ (by decide +kernel), hn]
    simp
  have hnow : x.now = s.dev.now + dt := hh.now (by decide +kernel)
  rw [x.recheckBarrier_eq, if_pos ⟨hst', hrel', by rw [hready]; exact hneed'.trans hneed.le⟩, if_neg (by rw [hat, hnow]; omega), hat] at hmem ⊢
  refine ⟨rfl, ?_, ?_, hmem⟩
  · rw [Dev.get_modLayer, x.showReady_get, hready]
    rfl
  · exact .of_regs (.put (Dev.elapse_onlyAt.trans (hh.onlyAt (by decide +kernel))) (by simp)) rfl

/-! ### The release (R46, R57) and the reminder (R59) -/

/-- The layer as the release of the barrier leaves it, before LAYER_CLOSE completes. -/
def Dev.layerReleased (d : Dev) (t : Nat) : Dev :=
  d.modLayer (fun l => { l with
    closeJob := none, release := none, released := t, ownerFrozen := false, rebase := false, readySent := false,
    marksSet := [], ready := l.ready.filter (fun r => r.2.1 != d.get .SYS_LAYER_NUM_LAYER_NUM) })

theorem Dev.releaseLayer_eq {d : Dev} {id : Nat} (t : Nat) (h : d.layer.closeJob = some id) :
    d.releaseLayer t = (((d.layerReleased t).completeAt id 0 t).enterState 8).timeIdle := by
  simp only [Dev.releaseLayer, h]
  rfl

/-- What ends a layer after its LAYER_CLOSE has completed. -/
theorem Dev.layerEnds_frame (d : Dev) : Frame 0x200000000000000000000000000000000000000000000000000000000000000000000000000000000000000000000000000000000030c00140000000000020000001000000000000000001006001000 d (d.enterState 8).timeIdle :=
  ((Dev.enterState_frame ..).mono (by decide +kernel)).step' (Dev.timeIdle_frame ..) (by decide +kernel)

theorem execBarrierRelease_releases {id t : Nat} {j : Job} (hst : s.dev.get .SYS_LAYER_STAT_STATE = 10) (hrel : s.dev.layer.release = some t)
    (ht : t ≤ s.dev.now + dt) (hid : s.dev.layer.closeJob = some id) (h : s.dev.Ends id j) :
    Answers (.barrierRelease dt) s (fun e => e.get .SYS_LAYER_STAT_STATE = 8 ∧ e.layer.closeJob = none ∧ e.layer.release = none
        ∧ e.layer.released = t ∧ e.Done j 0 ∧ s.dev.SameMem e) := by
  refine Answers.of_framed (show _ = execBarrierRelease dt s from rfl) (execBarrierRelease_frame dt s) fun hf => ?_
  have hmem := hf.sameMem
  have hrel' : (s.dev.elapse dt).layer.release = some t := hrel
  simp only [hrel', Dev.layerState, Dev.get_elapse, hst, Dev.elapse_now, ht, and_self, if_true] at hmem ⊢
  rw [Dev.releaseLayer_eq (d := s.dev.elapse dt) t hid] at hmem ⊢
  have hends : ((s.dev.elapse dt).layerReleased t).Ends id j := (h.elapse dt).frame (Dev.modLayer_frame ..)
  have hdone := hends.completeAt 0 t
  have hkept := (Dev.LayerKept.refl (d := (s.dev.elapse dt).layerReleased t)).completeAt id 0 t
  generalize Dev.completeAt _ id 0 t = x at hmem hdone hkept ⊢
  obtain ⟨m, r, hlay⟩ := hkept
  have he := x.layerEnds_frame
  have hl : (x.enterState 8).timeIdle.layer = x.layer := he.layer (by decide +kernel)
  rw [hl, hlay]
  exact ⟨((Dev.timeIdle_frame _).get _ _ _ (by decide +kernel)).trans (x.enterState_state (by decide)), rfl, rfl, rfl, hdone.frame he, hmem⟩

theorem execBarrierWaitReminder_reminds (hst : s.dev.get .SYS_LAYER_STAT_STATE = 10) (hl : s.dev.logs)
    (ht : s.dev.layer.waitSince + (s.dev.layer.reminders + 1) * 10 * qSec ≤ s.dev.now + dt) :
    Answers (.barrierWaitReminder dt) s (fun e => e.layer.reminders = s.dev.layer.reminders + 1 ∧ e.Recorded 0x0113 3
        ∧ e.get .SYS_LAYER_STAT_STATE = 10 ∧ s.dev.SameMem e) := by
  refine Answers.of_when (show _ = execBarrierWaitReminder dt s from rfl) (execBarrierWaitReminder_frame dt s) ?_ fun hf => ?_
  · exact Bool.and_eq_true_iff.mpr ⟨beq_iff_eq.mpr hst, decide_eq_true ht⟩
  have hlog : ((s.dev.elapse dt).modLayer (fun l => { l with reminders := l.reminders + 1 })).logs := hl
  have hrec := Dev.record_frame ((s.dev.elapse dt).modLayer (fun l => { l with reminders := l.reminders + 1 })) 0x0113 3 (recSource 35 63)
    (s.dev.get .SYS_LAYER_NUM_LAYER_NUM) (s.dev.get .SYS_BARRIER_STAT_READY_COUNT) 0 0
  exact ⟨congrArg Layer.reminders (hrec.layer (by decide +kernel)), (hlog.accepts 3).recorded .., (hrec.get _ _ _ (by decide +kernel)).trans hst, hf.sameMem⟩

end Cmd

/-- Settles O35: a message held, the last message, the release, and the reminder, a clause each. -/
theorem barrierReleases : Obligations.BarrierReleases :=
  ⟨fun _ _ _ _ hs hg hb hst hnew => execBarrierReady_outside hs hg hb hst hnew,
   fun _ _ _ _ _ _ hs hg hb hst hrel hnum hone hneed hleft hnew hn hlate =>
     execBarrierReady_last hs hg hb hst hrel hnum hone hneed hleft hnew hn hlate,
   fun _ _ _ _ _ hst hrel ht hid hj hc hr ho hq hk => execBarrierRelease_releases hst hrel ht hid ⟨hj, hc, hr, ho, hq, hk⟩,
   fun _ _ hst hl ht => execBarrierWaitReminder_reminds hst hl ht⟩

end Sys2Proof.Machine
end

section
/-! The phases of a layer (O33). -/

set_option Elab.async false
namespace Sys2Proof.Machine
open Sys2Proof

/-! ### The end of a phase -/

theorem Dev.endPhase_recoat {d : Dev} (h : d.get .SYS_LAYER_STAT_STATE = 0) : d.endPhase.get .SYS_LAYER_STAT_STATE = 1 := by
  simp only [Dev.endPhase, Dev.layerState, h, if_true]
  exact Dev.enterState_state _ (by decide)

theorem Dev.endPhase_check {d : Dev} (h : d.get .SYS_LAYER_STAT_STATE = 1) (hh : d.get .SYS_LAYER_STAT_HELD = 0) (hc : d.checkFails = none) :
    d.endPhase = d.leaveCheck := by
  simp [Dev.endPhase, Dev.layerState, h, Dev.flag_false hh, Dev.powderCheck, hc]

/-- POWDER_CHECK left: PREHEAT, with no descriptor kept for a replay. -/
theorem Dev.leaveCheck_shows (d : Dev) : d.leaveCheck.get .SYS_LAYER_STAT_STATE = 2 ∧ d.leaveCheck.get .SYS_LAYER_STAT_HELD = 0
    ∧ d.leaveCheck.jobs = d.jobs.filter (fun j => j.status != .replayable) ∧ d.leaveCheck.layer = d.layer := by
  refine ⟨Dev.enterState_state _ (by decide), ?_, (Dev.enterState_frame ..).jobs (by decide +kernel), (Dev.enterState_frame ..).layer (by decide +kernel)⟩
  have hl : (d.lower .SYS_LAYER_STAT_HELD).get .SYS_LAYER_STAT_HELD = 0 := Dev.get_lower_self ..
  exact ((Dev.enterState_frame ..).get _ _ _ (by decide +kernel)).trans hl

/-- EXPOSE ends: the passes left are dropped, and the instant is kept (R56, R194). -/
theorem Dev.endPhase_expose {d : Dev} (h : d.get .SYS_LAYER_STAT_STATE = 3) :
    d.endPhase.get .SYS_LAYER_STAT_STATE = 4 ∧ d.endPhase.layer.exposeEnd = d.run ∧ d.endPhase.layer.everExposed = true := by
  have hf : Frame 0x608000000000000000000000000000000000000000000000000000000000000000000000000000000000000000000000000000000000004000000000000000000000030c2014000000000002000000000000000000000000000e009000 d
      (forAll (List.range 34) (fun d n => d.dropPasses n false) d) := Frame.forAll (fun _ _ hx => hx.trans (Dev.dropPasses_frame ..)) .refl
  simp only [Dev.endPhase, Dev.layerState, h, show ¬ (3 = 0) by decide, show ¬ (3 = 1) by decide, if_false, if_true]
  generalize forAll _ _ d = x at hf ⊢
  have hl : ((x.modLayer (fun l => { l with exposeEnd := x.run, everExposed := true })).enterState 4).layer
      = { x.layer with exposeEnd := x.run, everExposed := true } := (Dev.enterState_frame ..).layer (by decide +kernel)
  rw [hl]
  exact ⟨Dev.enterState_state _ (by decide), hf.run (by decide +kernel), rfl⟩

theorem Dev.endPhase_postImage {d : Dev} (h : d.get .SYS_LAYER_STAT_STATE = 4) (hc : d.layer.closeTaken = true) : d.endPhase = d.enterBarrier := by
  simp [Dev.endPhase, Dev.layerState, h, hc]

/-! ### Entry to the barrier wait (R57) -/

/-- The barrier wait begins, with no release set. -/
def Dev.waitBegun (d : Dev) : Dev := (d.modLayer (fun l => { l with waitSince := d.now, reminders := 0, release := none })).enterState 10

/-- The device's own ready message of a layer, sent to every member and held (R57). -/
def Dev.sendReady (d : Dev) (num : Nat) : Dev :=
  (d.fabBcast 0x10 [BitVec.ofNat 128 (num + ts64 d.now * 2 ^ 32 + d.get .FAB_GROUP_BARRIER_GRP * 2 ^ 96)]).holdReady d.ownId num d.now

theorem Dev.waitBegun_frame (d : Dev) : Frame 0x30c00140000000000020000001000000000000000000006021000 d d.waitBegun :=
  ((Dev.modLayer_frame ..).mono (by decide +kernel)).step' (Dev.enterState_frame ..) (by decide +kernel)

theorem Dev.waitBegun_layer (d : Dev) : d.waitBegun.layer = { d.layer with waitSince := d.now, reminders := 0, release := none } :=
  (Dev.enterState_frame ..).layer (by decide +kernel)

theorem Dev.sendReady_frame (d : Dev) (num : Nat) : Frame 0x6020000 d (d.sendReady num) :=
  ((Dev.fabBcast_frame ..).mono (by decide +kernel)).step' (Dev.holdReady_frame ..) (by decide +kernel)

theorem Dev.sendReady_layer {d : Dev} {num : Nat} (h : ∀ r ∈ d.layer.ready, r.1 = d.ownId → r.2.1 ≠ num) :
    (d.sendReady num).layer = { d.layer with ready := d.layer.ready ++ [(d.ownId, num, d.now)] } :=
  Dev.holdReady_new (d := d.fabBcast _ _) d.now h

theorem Dev.sendReady_bcast (d : Dev) (num : Nat) : ∃ m ∈ (d.sendReady num).fabOut, m.kind = 0x10 ∧ m.bcast = true := by
  rw [Dev.sendReady, (Dev.holdReady_frame ..).fabOut (by decide +kernel)]
  exact ⟨_, List.mem_append_right _ (List.mem_singleton.mpr rfl), rfl, rfl⟩

theorem Frame.drives {w : Nat} {d e : Dev} (h : Frame w d e) (hw : maskOut [.HNG_CFG_PAIR_EN, .HNG_STAT_STATE] w = true := by decide +kernel)
    (hh : w.testBit 41 = false := by decide +kernel) : e.drives = d.drives := by
  unfold Dev.drives Dev.flag
  rw [h.get_out hw (by decide), h.get_out hw (by decide), h.hinge hh]

/-- A device that drives and whose pair has sent none sends its ready message. -/
theorem Dev.enterBarrier_sends {d : Dev} (hd : d.drives = true) (hr : d.layer.readySent = false) :
    d.enterBarrier = (d.waitBegun.sendReady (d.get .SYS_LAYER_NUM_LAYER_NUM)).recheckBarrier := by
  have hd' : d.waitBegun.drives = true := d.waitBegun_frame.drives.trans hd
  have hr' : d.waitBegun.layer.readySent = false := (congrArg Layer.readySent d.waitBegun_layer).trans hr
  have hgo : (d.waitBegun.drives && !d.waitBegun.layer.readySent) = true := by rw [hd', hr']; rfl
  unfold Dev.enterBarrier
  exact congrArg Dev.recheckBarrier (if_pos hgo)

/-- A ready message that counts keeps the release from lying before it. -/
theorem Dev.le_releaseAt {d : Dev} {r : Nat × Nat × Nat} (h : r ∈ d.readyFor (d.get .SYS_LAYER_NUM_LAYER_NUM)) : r.2.2 ≤ d.releaseAt :=
  (foldl_reach (P := (r.2.2 ≤ ·)) h (fun _ => le_max_right ..) (fun _ _ hx => le_max_of_le_left hx) 0).trans (Nat.le_add_right ..)

/-- A count looked at again whose release has not passed changes at most READY_COUNT and the release. -/
theorem Dev.recheckBarrier_timely {d : Dev} (h : d.now ≤ d.releaseAt) :
    ∃ r, d.recheckBarrier = d.showReady.modLayer (fun l => { l with release := r }) := by
  rw [d.recheckBarrier_eq]
  split_ifs with hgo hlate
  · exact absurd hlate (Nat.not_lt.mpr h)
  · exact ⟨_, rfl⟩
  · exact ⟨d.showReady.layer.release, rfl⟩

/-- Entry to the barrier wait of a device that drives: its own message is sent and held, and no release has passed (R57). -/
theorem Dev.enterBarrier_shows {d : Dev} (hd : d.drives = true) (hr : d.layer.readySent = false) (hl : d.left d.ownId = false)
    (hnew : ∀ r ∈ d.layer.ready, r.1 = d.ownId → r.2.1 ≠ d.get .SYS_LAYER_NUM_LAYER_NUM) :
    d.enterBarrier.get .SYS_LAYER_STAT_STATE = 10 ∧ d.enterBarrier.layer.waitSince = d.now
      ∧ (d.ownId, d.get .SYS_LAYER_NUM_LAYER_NUM, d.now) ∈ d.enterBarrier.layer.ready
      ∧ ∃ m ∈ d.enterBarrier.fabOut, m.kind = 0x10 ∧ m.bcast = true := by
  rw [Dev.enterBarrier_sends hd hr]
  have hw := d.waitBegun_frame
  have hst : d.waitBegun.get .SYS_LAYER_STAT_STATE = 10 := Dev.enterState_state _ (by decide)
  have hown : d.waitBegun.ownId = d.ownId := hw.get _ _ _ (by decide +kernel)
  have hs := Dev.sendReady_layer (d := d.waitBegun) (num := d.get .SYS_LAYER_NUM_LAYER_NUM) (by rw [d.waitBegun_layer, hown]; exact hnew)
  have hsf := d.waitBegun.sendReady_frame (d.get .SYS_LAYER_NUM_LAYER_NUM)
  have hsent := d.waitBegun.sendReady_bcast (d.get .SYS_LAYER_NUM_LAYER_NUM)
  rw [d.waitBegun_layer, hown, hw.now (by decide +kernel)] at hs
  generalize d.waitBegun.sendReady _ = x at hs hsf hsent ⊢
  have hmem : (d.ownId, d.get .SYS_LAYER_NUM_LAYER_NUM, d.now) ∈ x.readyFor (x.get .SYS_LAYER_NUM_LAYER_NUM) := by
    rw [hsf.get _ _ _ (by decide +kernel), hw.get _ _ _ (by decide +kernel)]
    refine List.mem_filter.mpr ⟨by rw [hs]; simp, ?_⟩
    simp [hsf.left, hw.left, hl]
  have hnow : x.now = d.now := (hsf.now (by decide +kernel)).trans (hw.now (by decide +kernel))
  obtain ⟨rel, hx⟩ := Dev.recheckBarrier_timely (d := x) (hnow.trans_le (Dev.le_releaseAt hmem))
  have hlay : x.recheckBarrier.layer = { x.layer with release := rel } := by rw [hx]; rfl
  have hf := x.showReady_frame
  rw [hlay, hs]
  refine ⟨?_, rfl, by simp, ?_⟩
  · rw [hx, Dev.get_modLayer, hf.get _ _ _ (by decide +kernel), hsf.get _ _ _ (by decide +kernel), hst]
  · rw [hx, show (x.showReady.modLayer _).fabOut = x.fabOut from rfl]
    exact hsent

/-! ### PHASE_END and EXPOSE_START -/

section Cmd
variable {s : State} {dt : Nat}

/-- PHASE_END of a work phase that has ended. -/
theorem execPhaseEnd_ends {p : Nat} {P : Dev → Prop} (hst : s.dev.get .SYS_LAYER_STAT_STATE = p) (hp : p = 0 ∨ p = 1 ∨ p = 3 ∨ p = 4)
    (ho : (s.dev.elapse dt).phaseOver p = true) (h : s.dev.SameMem (s.dev.elapse dt).endPhase → P (s.dev.elapse dt).endPhase) :
    Answers (.phaseEnd dt) s P := by
  refine Answers.of_when (f := Dev.endPhase) (show _ = execPhaseEnd dt s from rfl) (execPhaseEnd_frame dt s) ?_ fun hf => h hf.sameMem
  subst hst
  refine Bool.and_eq_true_iff.mpr ⟨?_, ho⟩
  simpa [Dev.layerState, or_assoc] using hp

theorem execExposeStart_begins (hst : s.dev.get .SYS_LAYER_STAT_STATE = 2) (ho : (s.dev.elapse dt).phaseOver 2 = true)
    (ht : s.dev.get .THM_STAT_STATE ≠ 2)
    (hd : s.dev.layer.everExposed = false ∨ s.dev.layer.exposeEnd + s.dev.layer.minDwellUs * qUs ≤ (s.dev.elapse dt).run) :
    Answers (.exposeStart dt) s (fun e => e.get .SYS_LAYER_STAT_STATE = 3 ∧ e.jobs = s.dev.jobs ∧ s.dev.SameMem e) := by
  refine Answers.of_when (show _ = execExposeStart dt s from rfl) (execExposeStart_frame dt s) ?_ fun hf => ?_
  · have hst' : ((s.dev.elapse dt).layerState == 2) = true := beq_iff_eq.mpr hst
    have ht' : ((s.dev.elapse dt).get .THM_STAT_STATE != 2) = true := bne_iff_ne.mpr ht
    rw [hst', ho, ht']
    exact Bool.or_eq_true_iff.mpr (hd.imp (congrArg not) decide_eq_true)
  have ha := Dev.abandonCopy_frame ((s.dev.elapse dt).enterState 3)
  exact ⟨(ha.get _ _ _ (by decide +kernel)).trans (Dev.enterState_state _ (by decide)), hf.jobs (by decide +kernel), hf.sameMem⟩

end Cmd

/-- Settles O33: what the end of each phase enters, and the three conditions of EXPOSE together. -/
theorem phasesFollow : Obligations.PhasesFollow := by
  refine ⟨?recoat, ?check, ?expose, ?postImage, fun s dt hst ho ht hd => execExposeStart_begins hst ho ht hd⟩
  case recoat =>
    exact fun s dt hst ho => execPhaseEnd_ends hst (by simp) ho fun hm => ⟨Dev.endPhase_recoat hst, hm⟩
  case check =>
    intro s dt hst ho hh hc
    refine execPhaseEnd_ends hst (by simp) ho fun hm => ?_
    rw [Dev.endPhase_check (d := s.dev.elapse dt) hst hh hc] at hm ⊢
    obtain ⟨h₁, -, hjobs, -⟩ := (s.dev.elapse dt).leaveCheck_shows
    exact ⟨h₁, fun j hj => by rw [hjobs] at hj; simpa using (List.mem_filter.mp hj).2, hm⟩
  case expose =>
    intro s dt hst ho
    obtain ⟨h₁, h₂, h₃⟩ := Dev.endPhase_expose (d := s.dev.elapse dt) hst
    exact execPhaseEnd_ends hst (by simp) ho fun hm => ⟨h₁, h₂, h₃, hm⟩
  case postImage =>
    intro s dt hst ho hc hd hr hl hnew
    refine execPhaseEnd_ends hst (by simp) ho fun hm => ?_
    rw [Dev.endPhase_postImage (d := s.dev.elapse dt) hst hc] at hm ⊢
    obtain ⟨h₁, h₂, h₃, h₄⟩ := Dev.enterBarrier_shows (d := s.dev.elapse dt) hd hr hl hnew
    exact ⟨h₁, h₂, h₃, h₄, hm⟩

end Sys2Proof.Machine
end

section
/-! The boundary window of a layer (O31). -/

set_option Elab.async false
namespace Sys2Proof.Machine
open Sys2Proof

/-! ### Units that come back end only MGT_UNIT descriptors (R439, R446) -/

theorem Dev.LayerKept.settleUnit {d e : Dev} (h : d.LayerKept e) (u : Nat) : d.LayerKept (e.settleUnit u) := by
  unfold Dev.settleUnit
  split
  · exact h.foldl fun _ _ hx => hx.complete _ _
  · exact h

theorem Dev.LayerKept.faultOver {d e : Dev} (h : d.LayerKept e) (u : Nat) : d.LayerKept (e.faultOver u) := by
  unfold Dev.faultOver
  refine .settleUnit (.frame (Dev.record_frame ..) (.frame (Dev.setIsland_frame ..) (.frame (Dev.showCal_frame ..) ?_))) u
  exact .frame (Frame.cal_of (w := 0x200000) rfl .refl) h

theorem Dev.LayerKept.returnEngine {d e : Dev} (h : d.LayerKept e) (u : Nat) : d.LayerKept (e.returnEngine u) := by
  unfold Dev.returnEngine
  simp only []
  split
  · exact .faultOver (.frame (Dev.rebind_frame ..) (.frame (Dev.put_frame ..) (.frame (Dev.setService_frame ..) h))) u
  · exact h

theorem Dev.LayerKept.returnSlice {d e : Dev} (h : d.LayerKept e) (u : Nat) : d.LayerKept (e.returnSlice u) := by
  unfold Dev.returnSlice
  simp only []
  split
  · exact .faultOver (.frame (Dev.sliceServes_frame ..) (.frame (Dev.setService_frame ..) h)) u
  · exact h

theorem Dev.LayerKept.beginRetrain {d e : Dev} (h : d.LayerKept e) : d.LayerKept e.beginRetrain := by
  unfold Dev.beginRetrain
  extract_lets d₁ mask d₂
  have hchan : d.LayerKept d₁ := .frame (w := 0x40000) (Frame.foldl .refl fun _ _ hx => hx.trans (Dev.modChan_frame ..)) h
  have hmask : d.LayerKept d₂ := hchan.trans ⟨_, _, rfl⟩
  split_ifs
  · exact .frame (Dev.startRetrain_frame ..) hmask
  · exact .frame (Dev.startRetrain_frame ..) hmask
  · exact hmask

/-! ### The work of the window (R49) -/

/-- What the window's work, begun side by side, can change beside the epoch, the sweep and the state in force. -/
def windowMask : Nat :=
  0x1002000000200000001800608000000000400000000000000000000000000000000000000000000000000000000000000300000001024000002003004003c0000000fc000000001c0060040100030c201410000000008a00000001060000000000000202fe279d04

/-- A device within the work of a boundary window: the epoch, the sweep and the layer stand as they were. -/
structure Dev.InWindow (d e : Dev) : Prop where
  frame : Frame windowMask d e
  layer : d.LayerKept e

theorem Dev.InWindow.step {v : Nat} {d e f : Dev} (k : Frame v e f) (h : d.InWindow e) (hw : Within v windowMask := by decide +kernel)
    (hl : v.testBit 17 = false := by decide +kernel) : d.InWindow f := ⟨h.frame.step' k hw, h.layer.frame k hl⟩

theorem Dev.InWindow.forAll {ι : Type} {d e : Dev} {l : List ι} {g : Dev → ι → Dev} (h : d.InWindow e)
    (hg : ∀ x a, d.InWindow x → d.InWindow (g x a)) : d.InWindow (forAll l g e) := foldl_keep h hg l

/-- An engine at the start of a layer. -/
theorem Dev.InWindow.engine {d e : Dev} (h : d.InWindow e) (n : Nat) : d.InWindow (((e.layerEngine n).returnChannel n).returnEngine n) :=
  have hx : d.InWindow ((e.layerEngine n).returnChannel n) := (h.step (Dev.layerEngine_frame ..)).step (Dev.returnChannel_frame ..)
  ⟨hx.frame.step' (Dev.returnEngine_frame ..) (by decide +kernel), hx.layer.returnEngine n⟩

theorem Dev.InWindow.slice {d e : Dev} (h : d.InWindow e) (u : Nat) : d.InWindow (e.returnSlice u) :=
  ⟨h.frame.step' (Dev.returnSlice_frame ..) (by decide +kernel), h.layer.returnSlice u⟩

/-- Values written for the new layer in force, its counters at 0. -/
theorem Dev.InWindow.latched {d : Dev} : d.InWindow (((d.latchWhere (fun c => boundaryRegs.contains c.fld.reg)).resetWhere
    (fun c => layerCounts.contains c.fld.reg)).lower .GRN_STAT_LOST_ANY) := by
  have hcov : Fld.covers (fun f => layerCounts.contains f.reg) windowMask = true := by decide +kernel
  have hlatch : d.LayerKept (d.latchWhere (fun c => boundaryRegs.contains c.fld.reg)) := .frame (Dev.latchWhere_frame ..) .refl
  exact .step (Dev.lower_frame ..) ⟨Frame.resetFlds (fun f => layerCounts.contains f.reg) (fun _ hc => hc) hcov (by decide +kernel)
    ((Dev.latchWhere_frame ..).mono (by decide +kernel)), hlatch⟩

/-- The sweep begins, its instant the epoch (R49). -/
def Dev.windowEpoch (d : Dev) : Dev :=
  let x := (d.sweepCells d.now).putB .GRN_STAT_SWEEP (d.inService 38)
  (x.modLayer (fun l => { l with epoch := x.now, sweeping := x.inService 38 })).showEpoch x.now

theorem Dev.windowEpoch_shows {d : Dev} (h : d.inService 38 = true) : d.windowEpoch.get .GRN_STAT_SWEEP = 1
    ∧ d.windowEpoch.get .SYS_LAYER_EPOCH_LO_NS = nsOf d.now ∧ d.windowEpoch.get .SYS_LAYER_EPOCH_HI_SEC = secOf d.now % 2 ^ 32
    ∧ d.windowEpoch.layer = { d.layer with epoch := d.now, sweeping := true } := by
  unfold Dev.windowEpoch
  have hx : Frame (Fld.bit .GRN_STAT_SWEEP ||| 0x40000000) d ((d.sweepCells d.now).putB .GRN_STAT_SWEEP (d.inService 38)) :=
    ((Dev.sweepCells_frame ..).mono (by decide +kernel)).step' (Dev.putB_frame ..) (by decide +kernel)
  have hsweep : ((d.sweepCells d.now).putB .GRN_STAT_SWEEP (d.inService 38)).get .GRN_STAT_SWEEP = 1 := by
    rw [h]; exact Dev.get_put_of_lt (by decide)
  have hin := (hx.inService 38).trans h
  have hnow := hx.now (by decide +kernel)
  have hlay := hx.layer (by decide +kernel)
  simp only []
  generalize Dev.putB _ _ _ = x at hsweep hin hnow hlay ⊢
  obtain ⟨hlo, hhi⟩ := (x.modLayer (fun l => { l with epoch := x.now, sweeping := x.inService 38 })).showEpoch_shows x.now
  refine ⟨((Dev.showEpoch_frame ..).get _ _ _ (by decide +kernel)).trans hsweep, by rw [hlo, hnow], by rw [hhi, hnow], ?_⟩
  rw [(Dev.showEpoch_frame ..).layer (by decide +kernel), ← hlay, ← hnow, ← hin]
  rfl

/-- The window's work is done between its epoch and its state. -/
theorem Dev.openWindow_works (d : Dev) : ∃ x, d.windowEpoch.InWindow x ∧ d.openWindow = (x.enterState 9).tellAbsent := by
  unfold Dev.openWindow
  extract_lets _ _ d₃ d₄ d₅ d₆ d₇ d₈ d₉ d₁₀ d₁₁ d₁₂
  refine ⟨_, ?_, rfl⟩
  have h₃ : d.windowEpoch = d₃ := rfl
  have h₅ : d.windowEpoch.InWindow d₅ := h₃ ▸ .latched
  have h₆ : d.windowEpoch.InWindow d₆ := by
    simp only [d₆, Dev.when]
    split
    · exact h₅.step (Dev.cellErrors_frame ..)
    · exact h₅
  have h₈ : d.windowEpoch.InWindow d₈ := (h₆.forAll fun _ _ hx => hx.engine _).forAll fun _ _ hx => hx.slice _
  have h₁₀ : d.windowEpoch.InWindow d₁₀ := (h₈.forAll fun _ _ hx => hx.step (Dev.modTile_frame ..)).forAll fun _ _ hx => hx.step (Dev.modEnc_frame ..)
  have h₁₂ : d.windowEpoch.InWindow d₁₂ := (h₁₀.forAll fun _ _ hx => hx.step (Dev.retest_frame ..)).forAll fun _ _ hx => hx.step (Dev.startRelock_frame ..)
  have hretrain : d.windowEpoch.InWindow d₁₂.beginRetrain :=
    ⟨h₁₂.frame.step' (Dev.beginRetrain_frame ..) (by decide +kernel), h₁₂.layer.beginRetrain⟩
  exact ((hretrain.step (Dev.askBist_frame ..)).step (Dev.pumpCal_frame ..)).step (Dev.sendSnapshot_frame ..)

/-- A boundary window opened with GRAIN in service: its instant is the epoch, the sweep runs, and the layer's numbers stand (R49). -/
theorem Dev.openWindow_shows {d : Dev} (h : d.inService 38 = true) : d.openWindow.get .SYS_LAYER_STAT_STATE = 9 ∧ d.openWindow.get .GRN_STAT_SWEEP = 1
    ∧ d.openWindow.get .SYS_LAYER_EPOCH_LO_NS = nsOf d.now ∧ d.openWindow.get .SYS_LAYER_EPOCH_HI_SEC = secOf d.now % 2 ^ 32
    ∧ ∃ m r, d.openWindow.layer = { d.layer with epoch := d.now, sweeping := true, marksTaken := m, retraining := r } := by
  obtain ⟨hsweep, hlo, hhi, hlay⟩ := Dev.windowEpoch_shows h
  obtain ⟨x, ⟨hx, m, r, hk⟩, he⟩ := d.openWindow_works
  have ht := (x.enterState 9).tellAbsent_frame
  have hs := x.enterState_frame 9
  rw [he]
  refine ⟨(ht.get _ _ _ (by decide +kernel)).trans (x.enterState_state (by decide)), ?_, ?_, ?_, m, r, ?_⟩
  · rw [ht.get _ _ _ (by decide +kernel), hs.get _ _ _ (by decide +kernel), hx.get _ _ _ (by decide +kernel), hsweep]
  · rw [ht.get _ _ _ (by decide +kernel), hs.get _ _ _ (by decide +kernel), hx.get _ _ _ (by decide +kernel), hlo]
  · rw [ht.get _ _ _ (by decide +kernel), hs.get _ _ _ (by decide +kernel), hx.get _ _ _ (by decide +kernel), hhi]
  · rw [ht.layer (by decide +kernel), hs.layer (by decide +kernel), hk, hlay]

/-- A window does not end while its sweep runs. -/
theorem Dev.windowEnd_sweeping {d : Dev} (h : d.layer.sweeping = true) : d.windowEnd = d := by simp [Dev.windowEnd, h]

/-! ### The end of the window (R44, R49) -/

/-- A channel that failed its retraining goes out of service with no descriptor ended. -/
theorem Dev.failedChannel_keeps (d : Dev) {c : Nat} (h : c < 2) : (d.failedChannel c).jobs = d.jobs ∧ (d.failedChannel c).hostFns = d.hostFns := by
  unfold Dev.failedChannel
  split
  · obtain rfl | rfl : c = 0 ∨ c = 1 := by omega
    · exact ⟨rfl, rfl⟩
    · exact ⟨rfl, rfl⟩
  · exact ⟨rfl, rfl⟩

/-- A window whose work is done: LAYER_OPEN completes and RECOAT begins. -/
theorem Dev.windowEnd_ends {d : Dev} {id : Nat} {j : Job} (hst : d.get .SYS_LAYER_STAT_STATE = 9) (hs : d.layer.sweeping = false)
    (hr : d.layer.retraining = 0) (hl : d.relocking = false) (hc : d.correctionDue = false) (ho : d.layer.openJob = some id) (h : d.Ends id j) :
    d.windowEnd.get .SYS_LAYER_STAT_STATE = 0 ∧ d.windowEnd.layer.sweeping = false ∧ d.windowEnd.layer.openJob = none ∧ d.windowEnd.Done j 0 := by
  have hgo : d.layerState = 9 ∧ d.layer.sweeping = false ∧ d.layer.retraining = 0 ∧ d.relocking = false ∧ d.correctionDue = false :=
    ⟨hst, hs, hr, hl, hc⟩
  have hends : (d.modLayer (fun l => { l with openJob := none })).Ends id j := h.frame (Dev.modLayer_frame ..)
  have hdone := hends.complete 0
  obtain ⟨m, r, hk⟩ := (Dev.LayerKept.refl (d := d.modLayer (fun l => { l with openJob := none }))).complete id 0
  rw [Dev.windowEnd, if_pos hgo]
  simp only [ho, List.foldl_cons, List.foldl_nil]
  generalize Dev.complete _ id 0 = x at hdone hk ⊢
  have hdone₀ := hdone.of (x.failedChannel_keeps (by decide : 0 < 2)).1 (x.failedChannel_keeps (by decide : 0 < 2)).2
  have hdone₁ := hdone₀.of ((x.failedChannel 0).failedChannel_keeps (by decide : 1 < 2)).1 ((x.failedChannel 0).failedChannel_keeps (by decide : 1 < 2)).2
  have hy := ((x.failedChannel_frame 0).trans ((x.failedChannel 0).failedChannel_frame 1)).layer (by decide +kernel)
  generalize (x.failedChannel 0).failedChannel 1 = y at hdone₁ hy ⊢
  have he := y.enterState_frame 0
  have hlay : (y.enterState 0).layer = x.layer := (he.layer (by decide +kernel)).trans hy
  rw [hlay, hk]
  exact ⟨y.enterState_state (by decide), hs, rfl, hdone₁.frame he⟩

/-! ### LAYER_OPEN (R43, R44, R48) -/

/-- The number, the masks and the limits of a LAYER_OPEN taken. -/
def Dev.layerTaken (d : Dev) (j : Job) : Dev :=
  let d := ((d.begin' j).put .SYS_LAYER_NUM_LAYER_NUM (j.bits 159 128)).modLayer j.layer
  let d := (d.put .SYS_LAYER_STAT_REPEATS 0).lower .SYS_LAYER_STAT_HELD
  { d with fabric := { d.fabric with joinedLate := [] } }

theorem Dev.layerTaken_frame (d : Dev) (j : Job) : Frame (0x10000020100 ||| Fld.bit .SYS_LAYER_NUM_LAYER_NUM ||| Fld.bit .SYS_LAYER_STAT_REPEATS
    ||| Fld.bit .SYS_LAYER_STAT_HELD) d (d.layerTaken j) :=
  Frame.fabric_of (by decide +kernel) <| (((((Dev.begin'_frame ..).mono (by decide +kernel)).step' (Dev.put_frame ..) (by decide +kernel)).step'
    (Dev.modLayer_frame ..) (by decide +kernel)).step' (Dev.put_frame ..) (by decide +kernel)).step' (Dev.lower_frame ..) (by decide +kernel)

theorem Job.bits_lt (j : Job) (hi lo : Nat) : j.bits hi lo < 2 ^ (hi + 1 - lo) := Nat.mod_lt _ (Nat.two_pow_pos _)

theorem Dev.get_withFabric (d : Dev) (x : Fabric) (f : Fld) : ({ d with fabric := x } : Dev).get f = d.get f := rfl

theorem Dev.layer_withFabric (d : Dev) (x : Fabric) : ({ d with fabric := x } : Dev).layer = d.layer := rfl

theorem Dev.layer_modLayer (d : Dev) (g : Layer → Layer) : (d.modLayer g).layer = g d.layer := rfl

theorem Dev.layerTaken_layer (d : Dev) (j : Job) : (d.layerTaken j).layer = j.layer d.layer := by
  have hbegin : (d.begin' j).layer = d.layer := (Dev.begin'_frame ..).layer (by decide +kernel)
  have hput : ((d.begin' j).put .SYS_LAYER_NUM_LAYER_NUM (j.bits 159 128)).layer = d.layer := ((Dev.put_frame ..).layer (by decide +kernel)).trans hbegin
  unfold Dev.layerTaken
  generalize Dev.put _ _ (j.bits 159 128) = x at hput ⊢
  have hcount : (((x.modLayer j.layer).put .SYS_LAYER_STAT_REPEATS 0).lower .SYS_LAYER_STAT_HELD).layer = (x.modLayer j.layer).layer :=
    ((Dev.lower_frame ..).layer (by decide +kernel)).trans ((Dev.put_frame ..).layer (by decide +kernel))
  exact (Dev.layer_withFabric ..).trans (hcount.trans ((x.layer_modLayer j.layer).trans (congrArg _ hput)))

theorem Dev.layerTaken_shows (d : Dev) (j : Job) : (d.layerTaken j).get .SYS_LAYER_NUM_LAYER_NUM = j.bits 159 128
    ∧ (d.layerTaken j).get .SYS_LAYER_STAT_REPEATS = 0 ∧ (d.layerTaken j).get .SYS_LAYER_STAT_HELD = 0 := by
  have hb : j.bits 159 128 < 2 ^ Fld.width .SYS_LAYER_NUM_LAYER_NUM := (j.bits_lt 159 128).trans_eq (by decide)
  unfold Dev.layerTaken
  generalize j.bits 159 128 = num at hb ⊢
  refine ⟨(Dev.get_withFabric ..).trans ?_, (Dev.get_withFabric ..).trans ?_, (Dev.get_withFabric ..).trans (Dev.get_lower_self ..)⟩
  · exact (Dev.get_lower_ne _ _ _ _ _ _ _ (by decide)).trans ((Dev.get_put_ne _ _ _ _ _ _ _ _ (by decide)).trans (Dev.get_put_of_lt hb))
  · exact (Dev.get_lower_ne _ _ _ _ _ _ _ (by decide)).trans (Dev.get_put_of_lt (by decide))

section Cmd
variable {s : State} {dt job : Nat} {j : Job}

theorem execLayerOpen_taken {P : Dev → Prop} (h : s.dev.Takes job 0x20 j) (hc : s.dev.openCode j = none) (hl : s.dev.layerOpen = false)
    (hp : s.dev.SameMem ((s.dev.elapse dt).layerTaken j).openWindow.showReady.windowEnd →
      P ((s.dev.elapse dt).layerTaken j).openWindow.showReady.windowEnd) : Answers (.layerOpen dt job) s P := by
  refine Answers.of_framed (show _ = execLayerOpen dt job s from rfl) (execLayerOpen_frame dt job s) fun hf => ?_
  have hc' : (s.dev.elapse dt).openCode j = none := hc
  have hl' : (s.dev.elapse dt).layerOpen = false := hl
  rw [Dev.withJob_takes (h.elapse dt)] at hf ⊢
  simp only [hc', hl', Bool.false_eq_true, if_false] at hf ⊢
  exact hp hf.sameMem

theorem execLayerOpen_opens (h : s.dev.Takes job 0x20 j) (hc : s.dev.openCode j = none) (hl : s.dev.layerOpen = false)
    (hs : s.dev.inService 38 = true) :
    Answers (.layerOpen dt job) s (fun e => e.get .SYS_LAYER_STAT_STATE = 9 ∧ e.get .SYS_LAYER_NUM_LAYER_NUM = j.bits 159 128
        ∧ e.get .SYS_LAYER_EPOCH_LO_NS = nsOf (s.dev.now + dt) ∧ e.get .SYS_LAYER_EPOCH_HI_SEC = secOf (s.dev.now + dt) % 2 ^ 32
        ∧ e.layer.epoch = s.dev.now + dt ∧ e.layer.sweeping = true ∧ e.layer.openJob = some job
        ∧ e.layer.minDwellUs = j.bits 191 160 ∧ e.layer.replayAxes = j.bits 199 192 ∧ e.layer.repeatMax = j.bits 202 200
        ∧ e.layer.streakLimit = j.bits 223 208 ∧ e.layer.streakCtx = j.bits 239 224 ∧ e.layer.tileMask = j.bits 255 240
        ∧ e.layer.engineMask = j.bits 289 256 ∧ e.layer.axisMask = j.bits 297 290 ∧ e.layer.ctxMask = j.bits 313 298
        ∧ e.get .SYS_LAYER_STAT_REPEATS = 0 ∧ e.get .SYS_LAYER_STAT_HELD = 0 ∧ e.get .GRN_STAT_SWEEP = 1 ∧ s.dev.SameMem e) := by
  refine execLayerOpen_taken h hc hl fun hm => ?_
  obtain ⟨hnum, hrep, hheld⟩ := (s.dev.elapse dt).layerTaken_shows j
  have hlay := (s.dev.elapse dt).layerTaken_layer j
  have ht := (s.dev.elapse dt).layerTaken_frame j
  have hnow : ((s.dev.elapse dt).layerTaken j).now = s.dev.now + dt := ht.now (by decide +kernel)
  have hin : ((s.dev.elapse dt).layerTaken j).inService 38 = true := (ht.inService 38).trans hs
  generalize (s.dev.elapse dt).layerTaken j = x at hnum hrep hheld hlay hnow hin hm ⊢
  obtain ⟨hst, hsweep, hlo, hhi, m, r, hk⟩ := Dev.openWindow_shows hin
  have hw := x.openWindow_frame
  generalize x.openWindow = y at hst hsweep hlo hhi hk hw hm ⊢
  have hf := y.showReady_frame
  have hky : y.showReady.layer = { j.layer s.dev.layer with epoch := s.dev.now + dt, sweeping := true, marksTaken := m, retraining := r } := by
    rw [hf.layer (by decide +kernel), hk, hlay, hnow]; rfl
  rw [Dev.windowEnd_sweeping (by rw [hky])] at hm ⊢
  rw [hky]
  refine ⟨?_, ?_, ?_, ?_, rfl, rfl, congrArg some h.id_eq, rfl, rfl, rfl, rfl, rfl, rfl, rfl, rfl, rfl, ?_, ?_, ?_, hm⟩
  · exact (hf.get _ _ _ (by decide +kernel)).trans hst
  · rw [hf.get _ _ _ (by decide +kernel), hw.get _ _ _ (by decide +kernel), hnum]
  · rw [hf.get _ _ _ (by decide +kernel), hlo, hnow]
  · rw [hf.get _ _ _ (by decide +kernel), hhi, hnow]
  · rw [hf.get _ _ _ (by decide +kernel), hw.get _ _ _ (by decide +kernel), hrep]
  · rw [hf.get _ _ _ (by decide +kernel), hw.get _ _ _ (by decide +kernel), hheld]
  · exact (hf.get _ _ _ (by decide +kernel)).trans hsweep

theorem execLayerOpen_refused {c : Nat} (h : s.dev.Takes job 0x20 j) (hc : s.dev.openCode j = some c) :
    Answers (.layerOpen dt job) s (fun e => e.Done j c ∧ e.get .SYS_LAYER_STAT_STATE = s.dev.get .SYS_LAYER_STAT_STATE
        ∧ e.get .SYS_LAYER_NUM_LAYER_NUM = s.dev.get .SYS_LAYER_NUM_LAYER_NUM ∧ s.dev.SameMem e) := by
  refine Answers.of_act (show _ = execLayerOpen dt job s from rfl) ?_
  have hc' : (s.dev.elapse dt).openCode j = some c := hc
  rw [Dev.withJob_takes (h.elapse dt)]
  simp only [hc', h.id_eq]
  have hf := Dev.complete_frame (s.dev.elapse dt) job c
  exact ⟨(h.elapse dt).complete c rfl rfl, hf.get _ _ _ (by decide +kernel), hf.get _ _ _ (by decide +kernel), Dev.elapse_sameMem.trans hf.sameMem⟩

theorem execLayerOpen_waits (h : s.dev.Takes job 0x20 j) (hc : s.dev.openCode j = none) (hl : s.dev.layerOpen = true) :
    Answers (.layerOpen dt job) s (fun e => e.job job = some j ∧ e.layer = s.dev.layer ∧ s.dev.OnlyAt e [] ∧ s.dev.SameMem e) := by
  refine Answers.of_act (show _ = execLayerOpen dt job s from rfl) ?_
  have hc' : (s.dev.elapse dt).openCode j = none := hc
  rw [Dev.withJob_takes (h.elapse dt)]
  simp only [hc', show (s.dev.elapse dt).layerOpen = true from hl, if_true]
  exact ⟨h.held, rfl, Dev.elapse_onlyAt, Dev.elapse_sameMem⟩

/-! ### The end of the epoch sweep (R49, R51) -/

/-- The sweep is over. -/
def Dev.sweepOver (d : Dev) : Dev := (d.modLayer (fun l => { l with sweeping := false, rebaseSweep := false })).lower .GRN_STAT_SWEEP

/-- EPOCH_SWEEP_DONE of a sweep that has taken its time. -/
theorem execEpochSweepDone_over {P : Dev → Prop} (ht : s.dev.layer.epoch + 2097152 * qNs ≤ s.dev.now + dt)
    (hw : s.dev.layer.sweeping = true ∨ s.dev.layer.rebaseSweep = true)
    (hp : s.dev.SameMem (if s.dev.layer.sweeping = true then (s.dev.elapse dt).sweepOver.checkTable.windowEnd else (s.dev.elapse dt).sweepOver) →
      P (if s.dev.layer.sweeping = true then (s.dev.elapse dt).sweepOver.checkTable.windowEnd else (s.dev.elapse dt).sweepOver)) :
    Answers (.epochSweepDone dt) s P := by
  refine Answers.of_when (show _ = execEpochSweepDone dt s from rfl) (execEpochSweepDone_frame dt s) ?_ fun hf => hp hf.sameMem
  exact Bool.and_eq_true_iff.mpr ⟨decide_eq_true ht, Bool.or_eq_true_iff.mpr hw⟩

theorem Dev.sweepOver_frame (d : Dev) : Frame (Fld.bit .GRN_STAT_SWEEP ||| 0x20000) d d.sweepOver :=
  ((Dev.modLayer_frame ..).mono (by decide +kernel)).step' (Dev.lower_frame ..) (by decide +kernel)

theorem Frame.relocking {w : Nat} {d e : Dev} (h : Frame w d e) (hw : maskOut [.SYS_ISL_STAT_RELOCK, .ENG_STAT_BOUND_CH] w = true := by decide +kernel) :
    e.relocking = d.relocking := by
  unfold Dev.relocking Dev.flag
  simp only [h.get_out hw (f := .SYS_ISL_STAT_RELOCK) (by decide), h.get_out hw (f := .ENG_STAT_BOUND_CH) (by decide)]

/-- A correction due looks at the engines, the descriptors held and the epoch. -/
theorem Dev.correctionDue_of {d e : Dev} (he : e.engines = d.engines) (hj : e.jobs = d.jobs) (hl : e.layer.epoch = d.layer.epoch) :
    e.correctionDue = d.correctionDue := by
  unfold Dev.correctionDue Dev.eng Dev.job
  rw [he, hj, hl]

theorem execEpochSweepDone_window {id : Nat} (hs : s.dev.layer.sweeping = true) (hst : s.dev.get .SYS_LAYER_STAT_STATE = 9)
    (ht : s.dev.layer.epoch + 2097152 * qNs ≤ s.dev.now + dt) (hr : s.dev.layer.retraining = 0) (hl : s.dev.relocking = false)
    (hc : s.dev.correctionDue = false) (ho : s.dev.layer.openJob = some id) (h : s.dev.Ends id j) :
    Answers (.epochSweepDone dt) s (fun e => e.get .SYS_LAYER_STAT_STATE = 0 ∧ e.layer.sweeping = false ∧ e.layer.openJob = none
        ∧ e.get .GRN_STAT_SWEEP = 0 ∧ e.Done j 0 ∧ s.dev.SameMem e) := by
  refine execEpochSweepDone_over ht (.inl hs) fun hm => ?_
  rw [if_pos hs] at hm ⊢
  have hsweep : (s.dev.elapse dt).sweepOver.get .GRN_STAT_SWEEP = 0 := Dev.get_lower_self ..
  have hlay : (s.dev.elapse dt).sweepOver.layer = { s.dev.layer with sweeping := false, rebaseSweep := false } := rfl
  have hx := (s.dev.elapse dt).sweepOver_frame
  have hy := Dev.checkTable_frame (s.dev.elapse dt).sweepOver
  have hends := ((h.elapse dt).frame hx).frame hy
  rw [← hy.get _ _ _ (by decide +kernel)] at hsweep
  rw [← hy.layer (by decide +kernel)] at hlay
  have hcor : (s.dev.elapse dt).sweepOver.checkTable.correctionDue = false :=
    (Dev.correctionDue_of ((hy.engines (by decide +kernel)).trans (hx.engines (by decide +kernel))) ((hy.jobs (by decide +kernel)).trans
      (hx.jobs (by decide +kernel))) (by rw [hlay]) (d := s.dev)).trans hc
  have hrel : (s.dev.elapse dt).sweepOver.checkTable.relocking = false := hy.relocking.trans (hx.relocking.trans hl)
  have hst' : (s.dev.elapse dt).sweepOver.checkTable.get .SYS_LAYER_STAT_STATE = 9 :=
    (hy.get _ _ _ (by decide +kernel)).trans ((hx.get _ _ _ (by decide +kernel)).trans hst)
  generalize (s.dev.elapse dt).sweepOver.checkTable = y at hm hsweep hlay hends hcor hrel hst' ⊢
  obtain ⟨h₁, h₂, h₃, h₄⟩ := Dev.windowEnd_ends hst' (congrArg Layer.sweeping hlay) ((congrArg Layer.retraining hlay).trans hr) hrel hcor
    ((congrArg Layer.openJob hlay).trans ho) hends
  exact ⟨h₁, h₂, h₃, (y.windowEnd_frame.get _ _ _ (by decide +kernel)).trans hsweep, h₄, hm⟩

theorem execEpochSweepDone_rebase (hs : s.dev.layer.sweeping = false) (hw : s.dev.layer.rebaseSweep = true)
    (ht : s.dev.layer.epoch + 2097152 * qNs ≤ s.dev.now + dt) :
    Answers (.epochSweepDone dt) s (fun e => e.layer.rebaseSweep = false ∧ e.get .GRN_STAT_SWEEP = 0
        ∧ s.dev.OnlyAt e [(.GRN_STAT_SWEEP, 0, 0)] ∧ s.dev.SameMem e) := by
  refine execEpochSweepDone_over ht (.inr hw) fun hm => ?_
  rw [if_neg (by simp [hs])] at hm ⊢
  exact ⟨rfl, Dev.get_lower_self .., .put (.of_regs (e := s.dev.elapse dt) Dev.elapse_onlyAt rfl) (by simp), hm⟩

end Cmd

/-- Settles O31: a LAYER_OPEN taken, refused and waiting, and the end of its window's sweep and of a rebase's. -/
theorem layerOpens : Obligations.LayerOpens :=
  ⟨fun _ _ _ _ h hc hl hs => execLayerOpen_opens h hc hl hs,
   fun _ _ _ _ _ h hc => execLayerOpen_refused h hc,
   fun _ _ _ _ h hc hl => execLayerOpen_waits h hc hl,
   fun _ _ _ _ hs hst ht hr hl hc ho hj h₁ h₂ h₃ h₄ h₅ => execEpochSweepDone_window hs hst ht hr hl hc ho ⟨hj, h₁, h₂, h₃, h₄, h₅⟩,
   fun _ _ hs hw ht => execEpochSweepDone_rebase hs hw ht⟩

end Sys2Proof.Machine
end

section
/-! Two descriptors held under one serial number (O32, O34). The device hands out each number once; the statements take any state. -/

set_option Elab.async false
namespace Sys2Proof.Machine
open Sys2Proof

/-- What a command that is an act answers holds of the act's own result. -/
theorem Answers.act {c : Instr} {s : State} {dt : Nat} {f : Dev → Dev} {P : Dev → Prop} (h : Answers c s P) (he : exec c s = s.act dt f) :
    P (f (s.dev.elapse dt)) := by
  obtain ⟨t, ht, -, hp⟩ := h
  cases ht.symm.trans he
  exact hp

/-- A taken descriptor of function 0 with a serial number, an opcode, a target and the low bits of its second word. -/
def sharedJob (id op tgt w1 : Nat) : Job :=
  { id, fn := 0, ring := 2, slot := 7, words := [BitVec.ofNat 128 (op + tgt * 2 ^ 32 + 2 ^ 40), BitVec.ofNat 128 w1, 0, 0], status := .taken }

/-! ### A mark on another target shares the number of the descriptor to be assigned (R45) -/

def unmarkedJob : Job := { sharedJob 1 0x31 3 0 with status := .dispatched }

def markJob : Job := sharedJob 2 0x21 3 3

/-- Layer open in EXPOSE; a mark in execution on target 5 holds the number of the unassigned descriptor on target 3. -/
def sharedMark : State :=
  { pending := [], dev := { ({} : Dev).put .SYS_LAYER_STAT_STATE 3 with jobs := [unmarkedJob, { sharedJob 1 0x21 5 0 with status := .executing }, markJob] } }

theorem sharedMark_takes : sharedMark.dev.Takes 2 0x21 markJob :=
  ⟨by decide +kernel, by decide +kernel, rfl, rfl, rfl, rfl, by decide +kernel, by decide +kernel, by decide +kernel⟩

/-- The mark of target 5 has nothing before it and completes; the descriptor that goes with its number is the one just assigned. -/
theorem sharedMark_drops {P : Dev → Prop} (h : Answers (.layerMark 0 2) sharedMark P) : ∃ e, P e ∧ e.job 1 = none :=
  ⟨_, h.act (show _ = execLayerMark 0 2 sharedMark from rfl), by decide +kernel⟩

/-- Refutes O32: where two held descriptors share a serial number, the assigned one is ended in the name of the other. -/
theorem not_marksAssign : ¬ Obligations.MarksAssign := by
  intro ⟨hassign, _⟩
  have hans := hassign sharedMark 0 2 markJob unmarkedJob sharedMark_takes (by decide +kernel) (by decide +kernel) (by decide +kernel) rfl
    (by decide +kernel) (by decide +kernel) (by decide +kernel) (by decide +kernel) rfl (.inl rfl)
  obtain ⟨e, ⟨hheld, -⟩, hgone⟩ := sharedMark_drops hans
  exact absurd (hheld.symm.trans hgone) (Option.some_ne_none _)

/-! ### Dark work shares the number of the LAYER_RESUME that ends the layer dark (R55) -/

def resumeJob : Job := sharedJob 5 0x23 0x80 2

/-- Layer held in POWDER_CHECK; a frame for tile 0 that waits for EXPOSE holds the number of the LAYER_RESUME. -/
def sharedResume : State :=
  { pending := [], dev := { (({} : Dev).put .SYS_LAYER_STAT_STATE 1).put .SYS_LAYER_STAT_HELD 1 with
      jobs := [resumeJob, { sharedJob 5 0x50 0x40 0 with phase := some 2 }], layer := { tileMask := 1 } } }

theorem sharedResume_takes : sharedResume.dev.Takes 5 0x23 resumeJob :=
  ⟨by decide +kernel, by decide +kernel, rfl, rfl, rfl, rfl, by decide +kernel, by decide +kernel, by decide +kernel⟩

/-- The frame is discarded with 0x0330, and the LAYER_RESUME ends with that code; nothing is left to complete with 0. -/
theorem sharedResume_discards {P : Dev → Prop} (h : Answers (.layerResume 0 5) sharedResume P) : ∃ e, P e ∧ ∀ x ∈ (e.fn 0).waiting, x.status ≠ 0 :=
  ⟨_, h.act (show _ = execLayerResume 0 5 sharedResume from rfl), by decide +kernel⟩

/-- Refutes O34: where discarded dark work shares the LAYER_RESUME's serial number, the LAYER_RESUME completes with 0x0330. -/
theorem not_closeAndResume : ¬ Obligations.CloseAndResume := by
  intro ⟨_, _, _, _, hdark, _⟩
  have hans := hdark sharedResume 0 5 resumeJob sharedResume_takes (by decide +kernel) (by decide +kernel)
  obtain ⟨e, ⟨-, -, -, hdone, -⟩, hno⟩ := sharedResume_discards hans
  obtain ⟨x, hx, -, -, -, hzero, -⟩ := hdone.entry
  exact hno x hx hzero

end Sys2Proof.Machine
end

section
/-! Rings start and stop (O13). -/

set_option Elab.async false
namespace Sys2Proof.Machine
open Sys2Proof

/-! ### Parts of a host function -/

@[simp] theorem Dev.sq_setSq_self (d : Dev) (f r : Nat) (x : SqState) : (d.setSq f r x).sq f r = x := by
  simp [Dev.sq, Dev.setSq]

@[simp] theorem Dev.cq_setCq_self (d : Dev) (f c : Nat) (x : CqState) : (d.setCq f c x).cq f c = x := by
  simp [Dev.cq, Dev.setCq]

theorem Frame.sq {w : Nat} {d e : Dev} (h : Frame w d e) (f r : Nat) (hw : w.testBit 10 = false := by decide +kernel) : e.sq f r = d.sq f r := by
  rw [Dev.sq, h.fn f hw, Dev.sq]

theorem Frame.cq {w : Nat} {d e : Dev} (h : Frame w d e) (f c : Nat) (hw : w.testBit 10 = false := by decide +kernel) : e.cq f c = d.cq f c := by
  rw [Dev.cq, h.fn f hw, Dev.cq]

/-! ### Who writes, and what lies inside a window (R61, R452) -/

/-- A write that is acted on. -/
theorem Dev.writesFor.ownWrite {d : Dev} {w fn : Nat} (h : d.writesFor w fn) (g : Dev → Dev) : d.ownWrite w fn g = g d := by
  obtain ⟨hon, hfree, hown⟩ := h
  simp [Dev.ownWrite, Dev.byFn, hon, hfree, hown]

theorem Frame.inWindow {w : Nat} {d e : Dev} (h : Frame w d e) (hw : maskOut windowFlds w = true) (f a n : Nat) :
    e.inWindow f a n = d.inWindow f a n := by
  have hg (x : Fld) (hx : x ∈ windowFlds) (i j : Nat) : e.get x i j = d.get x i j := h.get_out hw hx i j
  unfold Dev.inWindow Dev.winHas Dev.winBase Dev.flag
  simp only [hg .WIN_CFG_ENABLE (by decide), hg .WIN_CFG_SIZE_LOG2 (by decide), hg .WIN_BASE_LO_ADDR_LO (by decide),
    hg .WIN_BASE_HI_ADDR_HI (by decide)]

/-! ### Words written -/

/-- The fields below ENABLE keep the bits of a word written with ENABLE set. -/
theorem Fld.of_enabling {f : Fld} (h : f.lo + f.width ≤ 31) (v : Nat) : f.of (v % 2 ^ 31 + 2 ^ 31) = f.of v := by
  obtain ⟨k, hk⟩ := Nat.exists_eq_add_of_le h
  have hp : 2 ^ 31 = 2 ^ f.lo * (2 ^ f.width * 2 ^ k) := by rw [← pow_add, ← pow_add, ← Nat.add_assoc, ← hk]
  unfold Fld.of
  rw [hp, Nat.add_mul_div_left _ _ (Nat.two_pow_pos _), Nat.mod_mul_right_div_self, Nat.add_mul_mod_self_left, Nat.mod_mul_right_mod]

/-- Fields written with values in their ranges are set to them. -/
theorem Dev.writeFields_eq_puts {fs : List Fld} {value i j : Nat}
    (hf : ∀ f ∈ fs, f.acc = .rw ∧ f.keeps j (f.of value) = f.of value ∧ f.inRange (f.of value) = true) (d : Dev) :
    fs.foldl (fun d f => d.writeField f value i j) d = fs.foldl (fun d f => d.put f (f.of value) i j) d := by
  induction fs generalizing d with
  | nil => rfl
  | cons f fs ih =>
    obtain ⟨⟨ha, hk, hr⟩, hf⟩ := List.forall_mem_cons.mp hf
    rw [List.foldl_cons, List.foldl_cons, Dev.writeField_inRange ha hk hr, ih hf]

/-- A register field within its width: a value kept in canonical form, or a reset value. -/
theorem Dev.canonical.get_lt {d : Dev} (h : d.canonical) {f : Fld} (hf : ∀ i j, f.resetAt i j < 2 ^ f.width) (i j : Nat) :
    d.get f i j < 2 ^ f.width := by
  have hc := ((cellsWf_iff d.regs).mp h.regs).2
  unfold Dev.get
  generalize d.regs = cs at hc
  induction cs with
  | nil => exact hf i j
  | cons c cs ih =>
    unfold cellsGet
    split
    · rename_i hat
      obtain ⟨rfl, -, -⟩ := (RegCell.isAt_iff ..).mp hat
      exact (hc c (by simp)).2
    · exact ih fun c hm => hc c (by simp [hm])

/-- A register of plain fields as it reads (R4). -/
theorem Dev.word_plain {d : Dev} {r : Reg} {i j : Nat} (h : ∀ x ∈ r.fields, x.acc = .rw) :
    d.word r i j = (r.fields.map (fun x => d.get x i j * 2 ^ x.lo)).sum := by
  rw [Dev.word, List.sum_eq_foldl, List.foldl_map]
  exact List.foldl_ext _ _ _ fun w x hx => by rw [h x hx]; rfl

theorem sum_map_two (g : Fld → Nat) (a b : Fld) : ([a, b].map g).sum = g a + g b := by simp

theorem sum_map_four (g : Fld → Nat) (a b c e : Fld) : ([a, b, c, e].map g).sum = g a + (g b + (g c + g e)) := by simp

/-! ### A ring's CFG register (R61, R62) -/

/-- The CFG registers of rings, each with its ENABLE. -/
def ringRegs : List (Reg × Fld) := [(.HIF_SQ_CFG, .HIF_SQ_CFG_ENABLE), (.HIF_CQ_CFG, .HIF_CQ_CFG_ENABLE), (.INT_EVQ_CFG, .INT_EVQ_CFG_ENABLE)]

/-- The fields of a ring's CFG register beside ENABLE. -/
def cfgFields (r : Reg) (en : Fld) : List Fld := r.fields.filter (fun x => x != en)

/-- ENABLE is the highest bit; the fields below it are plain. -/
theorem ringRegs_plain : ∀ p ∈ ringRegs, (p.2 ∈ p.1.fields ∧ p.2.lo = 31 ∧ p.2.width = 1) ∧ (cfgFields p.1 p.2).Nodup
    ∧ ∀ x ∈ cfgFields p.1 p.2, x.lo + x.width ≤ 31 ∧ x.acc = .rw ∧ x ≠ .WIN_GRANT_CFG_CLASS ∧ x ≠ .CAM_CTX_CCM_C_HI := by decide +kernel

/-- The fields of a ring's CFG register, beside ENABLE, set to a written word. -/
def Dev.putCfg (d : Dev) (r : Reg) (en : Fld) (f i value : Nat) : Dev := (cfgFields r en).foldl (fun d x => d.put x (x.of value) f i) d

theorem Dev.putCfg_frame (d : Dev) (r : Reg) (en : Fld) (f i value : Nat) : Frame r.mask d (d.putCfg r en f i value) :=
  Frame.foldl_mem .refl fun _ _ hx h => h.step' (Dev.put_frame ..) (Reg.mask_mem _ _ _ (List.mem_filter.mp hx).1)

/-- Fields set in turn: each reads its own value, any other as before. -/
theorem Dev.foldl_put_get {fs : List Fld} (hn : fs.Nodup) (value i j : Nat) (d : Dev) :
    (∀ x ∈ fs, (fs.foldl (fun d x => d.put x (x.of value) i j) d).get x i j = x.of value)
      ∧ ∀ g, g ∉ fs → (fs.foldl (fun d x => d.put x (x.of value) i j) d).get g i j = d.get g i j := by
  induction fs generalizing d with
  | nil => simp
  | cons x fs ih =>
    obtain ⟨hx, hn⟩ := List.nodup_cons.mp hn
    obtain ⟨hin, hout⟩ := ih hn (d.put x (x.of value) i j)
    refine ⟨List.forall_mem_cons.mpr ⟨?_, hin⟩, fun g hg => ?_⟩
    · rw [List.foldl_cons, hout x hx, Dev.get_put_of_lt (x.of_lt value)]
    · obtain ⟨hne, hg⟩ := not_or.mp (mt List.mem_cons.mpr hg)
      rw [List.foldl_cons, hout g hg, Dev.get_put_ne _ _ _ _ _ _ _ _ hne]

/-- Setting a field of a named register. -/
theorem Dev.OnlyIn.put {d e : Dev} {rs : List Reg} {f : Fld} {v i j : Nat} (h : d.OnlyIn e rs) (hm : f.reg ∈ rs) : d.OnlyIn (e.put f v i j) rs :=
  fun g k l hg => (e.get_put_ne f g v i j k l (by rintro rfl; exact hg hm)).trans (h g k l hg)

theorem Dev.putCfg_onlyIn (d : Dev) (r : Reg) (en : Fld) (f i value : Nat) : d.OnlyIn (d.putCfg r en f i value) [r] := by
  have hreg : ∀ x ∈ cfgFields r en, x.reg = r := fun x hx => r.fields_reg x (List.mem_filter.mp hx).1
  exact List.foldlRecOn (motive := fun e => d.OnlyIn e [r]) _ _ (fun _ _ _ _ => rfl) fun _ he x hx => Dev.OnlyIn.put he (by simp [hreg x hx])

theorem Dev.putCfg_get {d : Dev} {r : Reg} {en x : Fld} {f i value : Nat} (hp : (r, en) ∈ ringRegs) (hx : x ∈ cfgFields r en) :
    (d.putCfg r en f i value).get x f i = x.of value := (Dev.foldl_put_get (ringRegs_plain _ hp).2.1 ..).1 x hx

section Cfg
variable {d : Dev} {r : Reg} {en : Fld} {f i value : Nat} {fits : Dev → Bool} {start : Dev → Dev}

/-- ENABLE written to a disabled ring: the other fields take their values, and the ring starts if it fits. -/
theorem Dev.ringCfg_enabling (hp : (r, en) ∈ ringRegs) (he : d.get en f i = 0) (hr : ∀ x ∈ cfgFields r en, x.inRange (x.of value) = true) :
    d.ringCfg r en f i (value % 2 ^ 31 + 2 ^ 31) fits start = if fits (d.putCfg r en f i value) then start ((d.putCfg r en f i value).raise en f i)
      else (d.putCfg r en f i value).reject r f := by
  obtain ⟨⟨-, hlo, hwid⟩, -, hplain⟩ := ringRegs_plain _ hp
  have hof (x : Fld) (hx : x ∈ cfgFields r en) : x.of (value % 2 ^ 31 + 2 ^ 31) = x.of value := Fld.of_enabling (hplain x hx).1 value
  have hwant : en.of (value % 2 ^ 31 + 2 ^ 31) = 1 := by simp only [Fld.of, hlo, hwid]; omega
  have hputs : (cfgFields r en).foldl (fun d x => d.writeField x (value % 2 ^ 31 + 2 ^ 31) f i) d = d.putCfg r en f i value := by
    rw [Dev.writeFields_eq_puts fun x hx => ?_, Dev.putCfg]
    · exact List.foldl_ext _ _ _ fun d x hx => by rw [hof x hx]
    · obtain ⟨-, hacc, hclass, hccm⟩ := hplain x hx
      exact ⟨hacc, by simp [Fld.keeps, hclass, hccm], by rw [hof x hx]; exact hr x hx⟩
  simp only [Dev.ringCfg, Dev.flag_false he, hwant, Bool.false_eq_true, if_false, beq_self_eq_true, if_true]
  rw [show List.filter (fun x => x != en) r.fields = cfgFields r en from rfl, hputs]

/-- A disabled ring that fits starts, with its fields as written. -/
theorem Dev.ringCfg_starts (hp : (r, en) ∈ ringRegs) (he : d.get en f i = 0) (hr : ∀ x ∈ cfgFields r en, x.inRange (x.of value) = true)
    (hfit : fits (d.putCfg r en f i value) = true) : ∃ g, d.ringCfg r en f i (value % 2 ^ 31 + 2 ^ 31) fits start = start g
      ∧ Frame r.mask d g ∧ d.OnlyIn g [r] ∧ g.get en f i = 1 ∧ ∀ x ∈ cfgFields r en, g.get x f i = x.of value := by
  obtain ⟨⟨hen, hlo, hwid⟩, -⟩ := ringRegs_plain _ hp
  refine ⟨_, by rw [Dev.ringCfg_enabling hp he hr, if_pos hfit], (d.putCfg_frame ..).step' (Dev.raise_frame ..) (Reg.mask_mem _ _ _ hen),
    Dev.OnlyIn.put (d.putCfg_onlyIn r en f i value) (by simp [r.fields_reg en hen]), Dev.get_raise (by rw [hwid]; decide), fun x hx => ?_⟩
  rw [Dev.get_raise_ne _ _ _ _ _ _ _ (by simpa using (List.mem_filter.mp hx).2), Dev.putCfg_get hp hx]

/-- A disabled ring that does not fit stays disabled. -/
theorem Dev.ringCfg_refused (hp : (r, en) ∈ ringRegs) (he : d.get en f i = 0) (hr : ∀ x ∈ cfgFields r en, x.inRange (x.of value) = true)
    (hfit : fits (d.putCfg r en f i value) = false) : ∃ g, d.ringCfg r en f i (value % 2 ^ 31 + 2 ^ 31) fits start = g.reject r f
      ∧ Frame r.mask d g ∧ g.get en f i = 0 := by
  obtain ⟨-, hnodup, -⟩ := ringRegs_plain _ hp
  refine ⟨_, by rw [Dev.ringCfg_enabling hp he hr, if_neg (by simp [hfit])], d.putCfg_frame .., ?_⟩
  rw [Dev.putCfg, (Dev.foldl_put_get hnodup ..).2 en (by simp [cfgFields]), he]

/-- ENABLE cleared at an enabled ring, the other fields written as they are. -/
theorem Dev.ringCfg_stops (he : d.get en f i = 1) (hv : en.of value = 0) (hf : ∀ x ∈ cfgFields r en, x.of value = d.get x f i) :
    d.ringCfg r en f i value fits start = d.lower en f i := by
  have hsame : (cfgFields r en).any (fun x => x.acc == .rw && x.of value != d.get x f i) = false := by
    simpa using fun x hx _ => hf x hx
  simp only [Dev.ringCfg, Dev.flag_true he, hv, if_true]
  rw [show List.filter (fun x => x != en) r.fields = cfgFields r en from rfl, hsame]
  simp

end Cfg

/-! ### Submission rings (R61 to R63) -/

theorem cfgFields_sq : cfgFields .HIF_SQ_CFG .HIF_SQ_CFG_ENABLE = [.HIF_SQ_CFG_SIZE_LOG2, .HIF_SQ_CFG_CQ, .HIF_SQ_CFG_PRIO] := by decide +kernel

theorem cfgFields_cq : cfgFields .HIF_CQ_CFG .HIF_CQ_CFG_ENABLE = [.HIF_CQ_CFG_SIZE_LOG2] := by decide +kernel

theorem cfgFields_evq : cfgFields .INT_EVQ_CFG .INT_EVQ_CFG_ENABLE = [.INT_EVQ_CFG_SIZE_LOG2] := by decide +kernel

theorem Fld.inRange_of {f : Fld} {lo hi v : Nat} (h : f.range = some (lo, hi)) (hlo : lo ≤ v) (hhi : v ≤ hi) : f.inRange v = true := by
  simp [Fld.inRange, h, hlo, hhi]

theorem inRange_sqCfg {value : Nat} (hlo : 6 ≤ Fld.of .HIF_SQ_CFG_SIZE_LOG2 value) (hhi : Fld.of .HIF_SQ_CFG_SIZE_LOG2 value ≤ 16) :
    ∀ x ∈ cfgFields .HIF_SQ_CFG .HIF_SQ_CFG_ENABLE, x.inRange (x.of value) = true := by
  simp only [cfgFields_sq, List.forall_mem_cons]
  exact ⟨Fld.inRange_of rfl hlo hhi, rfl, rfl, fun _ h => absurd h List.not_mem_nil⟩

/-- Whether a submission ring fits is decided by the size being written. -/
theorem Dev.putCfg_sqFits (d : Dev) (f r value : Nat) :
    let x := d.putCfg .HIF_SQ_CFG .HIF_SQ_CFG_ENABLE f r value
    x.inWindow f (x.sqBase f r) (64 * x.sqSize f r) = d.inWindow f (d.sqBase f r) (64 * 2 ^ Fld.of .HIF_SQ_CFG_SIZE_LOG2 value) := by
  intro x
  have hf : Frame _ d x := d.putCfg_frame ..
  have hsize : x.get .HIF_SQ_CFG_SIZE_LOG2 f r = Fld.of .HIF_SQ_CFG_SIZE_LOG2 value := Dev.putCfg_get (by decide) (by rw [cfgFields_sq]; simp)
  rw [hf.inWindow (by decide +kernel), Dev.sqBase, Dev.sqSize, hsize, hf.get _ _ _ (by decide +kernel), hf.get _ _ _ (by decide +kernel), Dev.sqBase]

/-- Places of the fields of HIF_SQ_CFG. -/
theorem sqCfg_places : (Fld.lo .HIF_SQ_CFG_SIZE_LOG2 = 0 ∧ Fld.width .HIF_SQ_CFG_SIZE_LOG2 = 5) ∧ (Fld.lo .HIF_SQ_CFG_CQ = 8 ∧ Fld.width .HIF_SQ_CFG_CQ = 4)
    ∧ (Fld.lo .HIF_SQ_CFG_PRIO = 12 ∧ Fld.width .HIF_SQ_CFG_PRIO = 2) ∧ Fld.lo .HIF_SQ_CFG_ENABLE = 31 ∧ Fld.width .HIF_SQ_CFG_ENABLE = 1 := by
  decide +kernel

theorem fields_sq : Reg.fields .HIF_SQ_CFG = [.HIF_SQ_CFG_SIZE_LOG2, .HIF_SQ_CFG_CQ, .HIF_SQ_CFG_PRIO, .HIF_SQ_CFG_ENABLE] := by decide +kernel

/-- HIF_SQ_CFG as it reads (R4). -/
theorem Dev.word_sq (d : Dev) (f r : Nat) : d.word .HIF_SQ_CFG f r = d.get .HIF_SQ_CFG_SIZE_LOG2 f r * 2 ^ 0 + (d.get .HIF_SQ_CFG_CQ f r * 2 ^ 8
    + (d.get .HIF_SQ_CFG_PRIO f r * 2 ^ 12 + d.get .HIF_SQ_CFG_ENABLE f r * 2 ^ 31)) := by
  obtain ⟨⟨h₁, -⟩, ⟨h₂, -⟩, ⟨h₃, -⟩, h₄, -⟩ := sqCfg_places
  rw [Dev.word_plain (by rw [fields_sq]; decide), fields_sq, sum_map_four, h₁, h₂, h₃, h₄]

/-- ENABLE written to 0 with the other fields as they read. -/
theorem Dev.canonical.sqDisabling {d : Dev} (h : d.canonical) (f r : Nat) : Fld.of .HIF_SQ_CFG_ENABLE (d.word .HIF_SQ_CFG f r % 2 ^ 31) = 0
    ∧ ∀ x ∈ cfgFields .HIF_SQ_CFG .HIF_SQ_CFG_ENABLE, x.of (d.word .HIF_SQ_CFG f r % 2 ^ 31) = d.get x f r := by
  have hsize := h.get_lt (f := .HIF_SQ_CFG_SIZE_LOG2) (fun _ _ => show 6 < 2 ^ 5 by decide) f r
  have hcq := h.get_lt (f := .HIF_SQ_CFG_CQ) (fun _ _ => show 0 < 2 ^ 4 by decide) f r
  have hprio := h.get_lt (f := .HIF_SQ_CFG_PRIO) (fun _ _ => show 0 < 2 ^ 2 by decide) f r
  obtain ⟨⟨l₁, w₁⟩, ⟨l₂, w₂⟩, ⟨l₃, w₃⟩, l₄, w₄⟩ := sqCfg_places
  simp only [cfgFields_sq, List.forall_mem_cons, Fld.of, d.word_sq, l₁, w₁, l₂, w₂, l₃, w₃, l₄, w₄] at hsize hcq hprio ⊢
  exact ⟨by omega, by omega, by omega, by omega, by simp⟩

/-! ### Fetching stops (R63) -/

theorem Dev.stopFetch_enabled {d : Dev} {f r : Nat} (h : d.get .HIF_SQ_CFG_ENABLE f r = 1) : d.stopFetch f r = d := by
  rw [Dev.stopFetch, if_pos (Dev.flag_true h)]

/-- Slots asked for from a disabled ring are let go; what was fetched and its indices stay. -/
theorem Dev.stopFetch_sq {d : Dev} {f r : Nat} (h : d.get .HIF_SQ_CFG_ENABLE f r = 0) :
    (d.stopFetch f r).sq f r = { d.sq f r with outstanding := 0 } := by
  rw [Dev.stopFetch, if_neg (by simp [Dev.flag_false h]), (Dev.freeMover_frame ..).sq, Dev.sq_setSq_self]

/-- A mover freed shows in BUSY alone. -/
theorem Dev.freeMover_onlyAt {d : Dev} {x : Mover} {fs : List (Fld × Nat × Nat)} (hm : (.WIN_MOVER_STAT_BUSY, 0, 0) ∈ fs) :
    d.OnlyAt (d.freeMover x) fs := by
  unfold Dev.freeMover
  split
  · exact .of_regs (.put .refl hm) rfl
  · exact .refl

theorem Dev.stopFetch_onlyAt {d : Dev} {f r : Nat} {fs : List (Fld × Nat × Nat)} (hm : (.WIN_MOVER_STAT_BUSY, 0, 0) ∈ fs) :
    d.OnlyAt (d.stopFetch f r) fs := by
  unfold Dev.stopFetch
  split
  · exact .refl
  · exact fun g i j hg => Dev.freeMover_onlyAt hm g i j hg

section Sq
variable {s : State} {dt : Nat} {w fn : Fin 8} {r : Fin 64} {value : Word}

theorem execSqEnable_starts (hw : s.dev.writesFor w fn) (he : s.dev.get .HIF_SQ_CFG_ENABLE fn r = 0)
    (hlo : 6 ≤ Fld.of .HIF_SQ_CFG_SIZE_LOG2 value.toNat) (hhi : Fld.of .HIF_SQ_CFG_SIZE_LOG2 value.toNat ≤ 16)
    (hin : s.dev.inWindow fn (s.dev.sqBase fn r) (64 * 2 ^ Fld.of .HIF_SQ_CFG_SIZE_LOG2 value.toNat) = true) :
    Answers (.sqEnable dt w fn r value) s (fun e => e.get .HIF_SQ_CFG_ENABLE fn r = 1
        ∧ e.get .HIF_SQ_CFG_SIZE_LOG2 fn r = Fld.of .HIF_SQ_CFG_SIZE_LOG2 value.toNat
        ∧ e.get .HIF_SQ_CFG_CQ fn r = Fld.of .HIF_SQ_CFG_CQ value.toNat ∧ e.get .HIF_SQ_CFG_PRIO fn r = Fld.of .HIF_SQ_CFG_PRIO value.toNat
        ∧ e.sq fn r = { fetch := 0, pi := 0 } ∧ e.jobs = s.dev.jobs ∧ s.dev.OnlyIn e [.HIF_SQ_CFG, .HIF_STAT] ∧ s.dev.SameMem e) := by
  refine Answers.of_framed (show _ = execSqEnable dt w fn r value s from rfl) (execSqEnable_frame ..) fun hmem => ?_
  have hw' : (s.dev.elapse dt).writesFor w fn := hw
  rw [hw'.ownWrite] at hmem ⊢
  obtain ⟨g, hg, hf, -, hen, hfld⟩ := Dev.ringCfg_starts (d := s.dev.elapse dt) (r := .HIF_SQ_CFG) (f := fn) (i := r)
    (fits := fun d => d.inWindow fn (d.sqBase fn r) (64 * d.sqSize fn r)) (start := fun d => d.setSq fn r {}) (by decide) he (inRange_sqCfg hlo hhi) (((s.dev.elapse dt).putCfg_sqFits ..).trans hin)
  have hx : (s.dev.elapse dt).writeSqCfg fn r (value.toNat % 2 ^ 31 + 2 ^ 31) = (g.setSq fn r {}).showFlight fn := by
    rw [Dev.writeSqCfg, hg, Dev.stopFetch_enabled (d := g.setSq fn r {}) hen]
  rw [hx] at hmem ⊢
  have hs : Frame 0x400 g (g.setSq fn r {}) := Dev.setSq_frame ..
  have hv := (g.setSq fn r {}).showFlight_frame fn
  rw [cfgFields_sq] at hfld
  refine ⟨(hv.get _ _ _ (by decide +kernel)).trans hen, (hv.get _ _ _ (by decide +kernel)).trans (hfld _ (by simp)),
    (hv.get _ _ _ (by decide +kernel)).trans (hfld .HIF_SQ_CFG_CQ (by simp)),
    (hv.get _ _ _ (by decide +kernel)).trans (hfld .HIF_SQ_CFG_PRIO (by simp)), ?_, hf.jobs (by decide +kernel), ?_, hmem.sameMem⟩
  · rw [hv.sq, Dev.sq_setSq_self]
  · exact ((Dev.elapse_onlyIn.trans (hf.onlyIn (by decide +kernel))).trans (hs.onlyIn (by decide +kernel))).trans (hv.onlyIn (by decide +kernel))

theorem execSqEnable_refused (hw : s.dev.writesFor w fn) (he : s.dev.get .HIF_SQ_CFG_ENABLE fn r = 0)
    (hlo : 6 ≤ Fld.of .HIF_SQ_CFG_SIZE_LOG2 value.toNat) (hhi : Fld.of .HIF_SQ_CFG_SIZE_LOG2 value.toNat ≤ 16)
    (hin : s.dev.inWindow fn (s.dev.sqBase fn r) (64 * 2 ^ Fld.of .HIF_SQ_CFG_SIZE_LOG2 value.toNat) = false) :
    Answers (.sqEnable dt w fn r value) s (fun e => e.get .HIF_SQ_CFG_ENABLE fn r = 0 ∧ e.get .HIF_STAT_CFG_REJ fn = 1
        ∧ e.sq fn r = { s.dev.sq fn r with outstanding := 0 } ∧ s.dev.OnlyIn e [.HIF_SQ_CFG, .HIF_STAT, .WIN_MOVER_STAT] ∧ s.dev.SameMem e) := by
  refine Answers.of_framed (show _ = execSqEnable dt w fn r value s from rfl) (execSqEnable_frame ..) fun hmem => ?_
  have hw' : (s.dev.elapse dt).writesFor w fn := hw
  rw [hw'.ownWrite] at hmem ⊢
  obtain ⟨g, hg, hf, hen⟩ := Dev.ringCfg_refused (d := s.dev.elapse dt) (r := .HIF_SQ_CFG) (f := fn) (i := r)
    (fits := fun d => d.inWindow fn (d.sqBase fn r) (64 * d.sqSize fn r)) (start := fun d => d.setSq fn r {}) (by decide) he
    (inRange_sqCfg hlo hhi) (((s.dev.elapse dt).putCfg_sqFits ..).trans hin)
  have hx : (s.dev.elapse dt).writeSqCfg fn r (value.toNat % 2 ^ 31 + 2 ^ 31) = ((g.raise .HIF_STAT_CFG_REJ fn).stopFetch fn r).showFlight fn := by
    rw [Dev.writeSqCfg, hg]; rfl
  rw [hx] at hmem ⊢
  have hen' : (g.raise .HIF_STAT_CFG_REJ fn).get .HIF_SQ_CFG_ENABLE fn r = 0 := by rw [Dev.get_raise_ne _ _ _ _ _ _ _ (by decide), hen]
  have hr := g.raise_frame .HIF_STAT_CFG_REJ fn 0
  have hs := (g.raise .HIF_STAT_CFG_REJ fn).stopFetch_frame fn r
  have hv := ((g.raise .HIF_STAT_CFG_REJ fn).stopFetch fn r).showFlight_frame fn
  refine ⟨?_, ?_, ?_, ?_, hmem.sameMem⟩
  · rw [hv.get _ _ _ (by decide +kernel), hs.get _ _ _ (by decide +kernel), hen']
  · rw [hv.get _ _ _ (by decide +kernel), hs.get _ _ _ (by decide +kernel), Dev.get_raise]
  · rw [hv.sq, Dev.stopFetch_sq hen', hr.sq, hf.sq]; rfl
  · exact (((Dev.elapse_onlyIn.trans (hf.onlyIn (by decide +kernel))).trans (hr.onlyIn (by decide +kernel))).trans
      (hs.onlyIn (by decide +kernel))).trans (hv.onlyIn (by decide +kernel))

theorem execSqDisable_stops (hc : s.canonical) (hw : s.dev.writesFor w fn) (he : s.dev.get .HIF_SQ_CFG_ENABLE fn r = 1) :
    Answers (.sqDisable dt w fn r) s (fun e => e.get .HIF_SQ_CFG_ENABLE fn r = 0 ∧ e.jobs = s.dev.jobs
        ∧ e.sq fn r = { s.dev.sq fn r with outstanding := 0 }
        ∧ s.dev.OnlyAt e [(.HIF_SQ_CFG_ENABLE, fn, r), (.HIF_STAT_IN_FLIGHT, fn, 0), (.WIN_MOVER_STAT_BUSY, 0, 0)] ∧ s.dev.SameMem e) := by
  refine Answers.of_framed (show _ = execSqDisable dt w fn r s from rfl) (execSqDisable_frame ..) fun hmem => ?_
  have hw' : (s.dev.elapse dt).writesFor w fn := hw
  obtain ⟨hoff, hsame⟩ := ((Dev.elapse_frame s.dev dt).canon hc).sqDisabling fn r
  rw [hw'.ownWrite, Dev.writeSqCfg, Dev.ringCfg_stops (d := s.dev.elapse dt) he hoff hsame] at hmem ⊢
  have hen : ((s.dev.elapse dt).lower .HIF_SQ_CFG_ENABLE fn r).get .HIF_SQ_CFG_ENABLE fn r = 0 := Dev.get_lower_self ..
  have hs := ((s.dev.elapse dt).lower .HIF_SQ_CFG_ENABLE fn r).stopFetch_frame fn r
  have hv := (((s.dev.elapse dt).lower .HIF_SQ_CFG_ENABLE fn r).stopFetch fn r).showFlight_frame fn
  refine ⟨?_, ?_, ?_, ?_, hmem.sameMem⟩
  · rw [hv.get _ _ _ (by decide +kernel), hs.get _ _ _ (by decide +kernel), hen]
  · rw [hv.jobs (by decide +kernel), hs.jobs (by decide +kernel)]; rfl
  · rw [hv.sq, Dev.stopFetch_sq hen]; rfl
  · exact .put (((Dev.elapse_onlyAt.put (by simp)).trans (Dev.stopFetch_onlyAt (by simp)))) (by simp)

end Sq

/-! ### Completion rings and the event ring (R62, R84, R376) -/

theorem inRange_cqCfg {value : Nat} (hlo : 6 ≤ Fld.of .HIF_CQ_CFG_SIZE_LOG2 value) (hhi : Fld.of .HIF_CQ_CFG_SIZE_LOG2 value ≤ 16) :
    ∀ x ∈ cfgFields .HIF_CQ_CFG .HIF_CQ_CFG_ENABLE, x.inRange (x.of value) = true := by
  simp only [cfgFields_cq, List.forall_mem_cons]
  exact ⟨Fld.inRange_of rfl hlo hhi, fun _ h => absurd h List.not_mem_nil⟩

theorem inRange_evqCfg {value : Nat} (hlo : 6 ≤ Fld.of .INT_EVQ_CFG_SIZE_LOG2 value) (hhi : Fld.of .INT_EVQ_CFG_SIZE_LOG2 value ≤ 16) :
    ∀ x ∈ cfgFields .INT_EVQ_CFG .INT_EVQ_CFG_ENABLE, x.inRange (x.of value) = true := by
  simp only [cfgFields_evq, List.forall_mem_cons]
  exact ⟨Fld.inRange_of rfl hlo hhi, fun _ h => absurd h List.not_mem_nil⟩

theorem Dev.putCfg_cqFits (d : Dev) (f c value : Nat) :
    let x := d.putCfg .HIF_CQ_CFG .HIF_CQ_CFG_ENABLE f c value
    x.inWindow f (x.cqBase f c) (16 * x.cqSize f c) = d.inWindow f (d.cqBase f c) (16 * 2 ^ Fld.of .HIF_CQ_CFG_SIZE_LOG2 value) := by
  intro x
  have hf : Frame _ d x := d.putCfg_frame ..
  have hsize : x.get .HIF_CQ_CFG_SIZE_LOG2 f c = Fld.of .HIF_CQ_CFG_SIZE_LOG2 value := Dev.putCfg_get (by decide) (by rw [cfgFields_cq]; simp)
  rw [hf.inWindow (by decide +kernel), Dev.cqBase, Dev.cqSize, hsize, hf.get _ _ _ (by decide +kernel), hf.get _ _ _ (by decide +kernel), Dev.cqBase]

theorem Dev.putCfg_evqFits (d : Dev) (f value : Nat) :
    let x := d.putCfg .INT_EVQ_CFG .INT_EVQ_CFG_ENABLE f 0 value
    x.inWindow f (x.evqBase f) (64 * x.evqSize f) = d.inWindow f (d.evqBase f) (64 * 2 ^ Fld.of .INT_EVQ_CFG_SIZE_LOG2 value) := by
  intro x
  have hf : Frame _ d x := d.putCfg_frame ..
  have hsize : x.get .INT_EVQ_CFG_SIZE_LOG2 f 0 = Fld.of .INT_EVQ_CFG_SIZE_LOG2 value := Dev.putCfg_get (by decide) (by rw [cfgFields_evq]; simp)
  rw [hf.inWindow (by decide +kernel), Dev.evqBase, Dev.evqSize, hsize, hf.get _ _ _ (by decide +kernel), hf.get _ _ _ (by decide +kernel), Dev.evqBase]

theorem cqCfg_places : (Fld.lo .HIF_CQ_CFG_SIZE_LOG2 = 0 ∧ Fld.width .HIF_CQ_CFG_SIZE_LOG2 = 5) ∧ Fld.lo .HIF_CQ_CFG_ENABLE = 31
    ∧ Fld.width .HIF_CQ_CFG_ENABLE = 1 := by decide +kernel

theorem fields_cq : Reg.fields .HIF_CQ_CFG = [.HIF_CQ_CFG_SIZE_LOG2, .HIF_CQ_CFG_ENABLE] := by decide +kernel

/-- HIF_CQ_CFG as it reads (R4). -/
theorem Dev.word_cq (d : Dev) (f c : Nat) : d.word .HIF_CQ_CFG f c = d.get .HIF_CQ_CFG_SIZE_LOG2 f c * 2 ^ 0
    + d.get .HIF_CQ_CFG_ENABLE f c * 2 ^ 31 := by
  obtain ⟨⟨h₁, -⟩, h₂, -⟩ := cqCfg_places
  rw [Dev.word_plain (by rw [fields_cq]; decide), fields_cq, sum_map_two, h₁, h₂]

/-- ENABLE written to 0 with the size as it reads. -/
theorem Dev.canonical.cqDisabling {d : Dev} (h : d.canonical) (f c : Nat) : Fld.of .HIF_CQ_CFG_ENABLE (d.word .HIF_CQ_CFG f c % 2 ^ 31) = 0
    ∧ ∀ x ∈ cfgFields .HIF_CQ_CFG .HIF_CQ_CFG_ENABLE, x.of (d.word .HIF_CQ_CFG f c % 2 ^ 31) = d.get x f c := by
  have hsize := h.get_lt (f := .HIF_CQ_CFG_SIZE_LOG2) (fun _ _ => show 6 < 2 ^ 5 by decide) f c
  obtain ⟨⟨l₁, w₁⟩, l₂, w₂⟩ := cqCfg_places
  simp only [cfgFields_cq, List.forall_mem_cons, Fld.of, d.word_cq, l₁, w₁, l₂, w₂] at hsize ⊢
  exact ⟨by omega, by omega, by simp⟩

section Cq
variable {s : State} {dt : Nat} {w fn : Fin 8} {c : Fin 16} {value : Word}

theorem execCqEnable_starts (hw : s.dev.writesFor w fn) (he : s.dev.get .HIF_CQ_CFG_ENABLE fn c = 0)
    (hlo : 6 ≤ Fld.of .HIF_CQ_CFG_SIZE_LOG2 value.toNat) (hhi : Fld.of .HIF_CQ_CFG_SIZE_LOG2 value.toNat ≤ 16)
    (hin : s.dev.inWindow fn (s.dev.cqBase fn c) (16 * 2 ^ Fld.of .HIF_CQ_CFG_SIZE_LOG2 value.toNat) = true) :
    Answers (.cqEnable dt w fn c value) s (fun e => e.get .HIF_CQ_CFG_ENABLE fn c = 1
        ∧ e.get .HIF_CQ_CFG_SIZE_LOG2 fn c = Fld.of .HIF_CQ_CFG_SIZE_LOG2 value.toNat ∧ (e.cq fn c).pos = 0 ∧ (e.cq fn c).phase = true
        ∧ (e.fn fn).waiting = (s.dev.fn fn).waiting ∧ s.dev.OnlyIn e [.HIF_CQ_CFG, .HIF_STAT] ∧ s.dev.SameMem e) := by
  refine Answers.of_framed (show _ = execCqEnable dt w fn c value s from rfl) (execCqEnable_frame ..) fun hmem => ?_
  have hw' : (s.dev.elapse dt).writesFor w fn := hw
  rw [hw'.ownWrite] at hmem ⊢
  obtain ⟨g, hg, hf, -, hen, hfld⟩ := Dev.ringCfg_starts (d := s.dev.elapse dt) (r := .HIF_CQ_CFG) (f := fn) (i := c)
    (fits := fun d => d.inWindow fn (d.cqBase fn c) (16 * d.cqSize fn c)) (start := fun d => d.setCq fn c {}) (by decide) he
    (inRange_cqCfg hlo hhi) (((s.dev.elapse dt).putCfg_cqFits ..).trans hin)
  rw [Dev.writeCqCfg, hg] at hmem ⊢
  have hs : Frame 0x400 g (g.setCq fn c {}) := Dev.setCq_frame ..
  have hv := (g.setCq fn c {}).showHoldCq_frame fn
  rw [cfgFields_cq] at hfld
  have hcq : ((g.setCq fn c {}).showHoldCq fn).cq fn c = {} := by rw [hv.cq, Dev.cq_setCq_self]
  refine ⟨(hv.get _ _ _ (by decide +kernel)).trans hen, (hv.get _ _ _ (by decide +kernel)).trans (hfld _ (by simp)), by rw [hcq], by rw [hcq], ?_, ?_,
    hmem.sameMem⟩
  · rw [hv.fn, Dev.setCq, Dev.fn_setFn_self, hf.fn]; rfl
  · exact ((Dev.elapse_onlyIn.trans (hf.onlyIn (by decide +kernel))).trans (hs.onlyIn (by decide +kernel))).trans (hv.onlyIn (by decide +kernel))

theorem execCqDisable_stops (hc : s.canonical) (hw : s.dev.writesFor w fn) (he : s.dev.get .HIF_CQ_CFG_ENABLE fn c = 1) :
    Answers (.cqDisable dt w fn c) s (fun e => e.get .HIF_CQ_CFG_ENABLE fn c = 0 ∧ e.cq fn c = s.dev.cq fn c
        ∧ (e.fn fn).waiting = (s.dev.fn fn).waiting
        ∧ s.dev.OnlyAt e [(.HIF_CQ_CFG_ENABLE, fn, c), (.HIF_STAT_CQ_HOLD, fn, 0)] ∧ s.dev.SameMem e) := by
  refine Answers.of_framed (show _ = execCqDisable dt w fn c s from rfl) (execCqDisable_frame ..) fun hmem => ?_
  have hw' : (s.dev.elapse dt).writesFor w fn := hw
  obtain ⟨hoff, hsame⟩ := ((Dev.elapse_frame s.dev dt).canon hc).cqDisabling fn c
  rw [hw'.ownWrite, Dev.writeCqCfg, Dev.ringCfg_stops (d := s.dev.elapse dt) he hoff hsame] at hmem ⊢
  have hv := ((s.dev.elapse dt).lower .HIF_CQ_CFG_ENABLE fn c).showHoldCq_frame fn
  refine ⟨?_, hv.cq .., congrArg HostFn.waiting (hv.fn ..), .put (.put Dev.elapse_onlyAt (by simp)) (by simp), hmem.sameMem⟩
  rw [hv.get _ _ _ (by decide +kernel), Dev.get_lower_self]

theorem execEvqEnable_starts (hw : s.dev.writesFor w fn) (he : s.dev.get .INT_EVQ_CFG_ENABLE fn = 0)
    (hlo : 6 ≤ Fld.of .INT_EVQ_CFG_SIZE_LOG2 value.toNat) (hhi : Fld.of .INT_EVQ_CFG_SIZE_LOG2 value.toNat ≤ 16)
    (hin : s.dev.inWindow fn (s.dev.evqBase fn) (64 * 2 ^ Fld.of .INT_EVQ_CFG_SIZE_LOG2 value.toNat) = true) :
    Answers (.evqEnable dt w fn value) s (fun e => e.get .INT_EVQ_CFG_ENABLE fn = 1
        ∧ e.get .INT_EVQ_CFG_SIZE_LOG2 fn = Fld.of .INT_EVQ_CFG_SIZE_LOG2 value.toNat ∧ (e.fn fn).evq.pos = 0 ∧ (e.fn fn).evq.phase = true
        ∧ s.dev.OnlyIn e [.INT_EVQ_CFG] ∧ s.dev.SameMem e) := by
  refine Answers.of_framed (show _ = execEvqEnable dt w fn value s from rfl) (execEvqEnable_frame ..) fun hmem => ?_
  have hw' : (s.dev.elapse dt).writesFor w fn := hw
  rw [hw'.ownWrite] at hmem ⊢
  obtain ⟨g, hg, -, honly, hen, hfld⟩ := Dev.ringCfg_starts (d := s.dev.elapse dt) (r := .INT_EVQ_CFG) (f := fn) (i := 0)
    (fits := fun d => d.inWindow fn (d.evqBase fn) (64 * d.evqSize fn)) (start := fun d => d.setFn fn { d.fn fn with evq := {} }) (by decide) he
    (inRange_evqCfg hlo hhi) (((s.dev.elapse dt).putCfg_evqFits ..).trans hin)
  rw [Dev.writeEvqCfg, hg] at hmem ⊢
  rw [cfgFields_evq] at hfld
  rw [Dev.fn_setFn_self]
  exact ⟨hen, hfld .INT_EVQ_CFG_SIZE_LOG2 (by simp), rfl, rfl, honly, hmem.sameMem⟩

end Cq

/-- Settles O13: a ring enabled, refused and disabled, a clause each. -/
theorem ringsStartAndStop : Obligations.RingsStartAndStop :=
  ⟨fun _ _ _ _ _ _ hw he hlo hhi hin => execSqEnable_starts hw he hlo hhi hin,
   fun _ _ _ _ _ _ hw he hlo hhi hin => execSqEnable_refused hw he hlo hhi hin,
   fun _ _ _ _ _ hc hw he => execSqDisable_stops hc hw he,
   fun _ _ _ _ _ _ hw he hlo hhi hin => execCqEnable_starts hw he hlo hhi hin,
   fun _ _ _ _ _ hc hw he => execCqDisable_stops hc hw he,
   fun _ _ _ _ _ hw he hlo hhi hin => execEvqEnable_starts hw he hlo hhi hin⟩

end Sys2Proof.Machine
end

section
/-! The doorbell page (O14). -/

set_option Elab.async false
namespace Sys2Proof.Machine
open Sys2Proof

/-! ### The base of the page (R64) -/

/-- A write of a register of one plain field. -/
theorem Dev.writeReg_single {d : Dev} {r : Reg} {x : Fld} {i value : Nat} (hr : r.fields = [x]) (ha : x.acc = .rw)
    (hk : x.keeps 0 (x.of value) = x.of value) (hv : x.inRange (x.of value) = true) : d.writeReg r i 0 value = d.put x (x.of value) i := by
  rw [Dev.writeReg, hr, List.foldl_cons, List.foldl_nil, Dev.writeField_inRange ha hk hv]

/-- The field of each half of the base. -/
def dbField (hi : Bool) : Fld := if hi then .HIF_DB_BASE_HI_ADDR_HI else .HIF_DB_BASE_LO_ADDR_LO

theorem dbBase_places (hi : Bool) : (if hi then Reg.HIF_DB_BASE_HI else .HIF_DB_BASE_LO).fields = [dbField hi] ∧ (dbField hi).acc = .rw
    ∧ (dbField hi).range = none ∧ (dbField hi).lo = (if hi then 0 else 12) ∧ (dbField hi).width = (if hi then 32 else 20) := by
  cases hi <;> decide +kernel

theorem dbField_keeps (hi : Bool) (v : Nat) : (dbField hi).keeps 0 v = v := by cases hi <;> rfl

theorem dbField_of (hi : Bool) (value : Word) : (dbField hi).of value.toNat = if hi then value.toNat else value.toNat / 2 ^ 12 := by
  obtain ⟨-, -, -, hlo, hwid⟩ := dbBase_places hi
  have := value.isLt
  simp only [Fld.of, hlo, hwid]
  cases hi
  · simp only [Bool.false_eq_true, if_false]; omega
  · simp only [if_true]; omega

/-- Whether a ring of a function is enabled. -/
def Dev.anyRing (d : Dev) (f : Nat) : Bool :=
  (List.range 64).any (fun i => d.flag .HIF_SQ_CFG_ENABLE f i) || (List.range 16).any (fun i => d.flag .HIF_CQ_CFG_ENABLE f i) || d.flag .INT_EVQ_CFG_ENABLE f

theorem Dev.anyRing_false {d : Dev} {f : Nat} (hs : ∀ r < 64, d.get .HIF_SQ_CFG_ENABLE f r = 0) (hc : ∀ c < 16, d.get .HIF_CQ_CFG_ENABLE f c = 0)
    (he : d.get .INT_EVQ_CFG_ENABLE f = 0) : d.anyRing f = false := by
  simp only [Dev.anyRing, Bool.or_eq_false_iff, List.any_eq_false, List.mem_range, Bool.not_eq_true]
  exact ⟨⟨fun r hr => Dev.flag_false (hs r hr), fun c hc' => Dev.flag_false (hc c hc')⟩, Dev.flag_false he⟩

theorem Dev.anyRing_true {d : Dev} {f : Nat} (h : (∃ r < 64, d.get .HIF_SQ_CFG_ENABLE f r = 1) ∨ (∃ c < 16, d.get .HIF_CQ_CFG_ENABLE f c = 1)
    ∨ d.get .INT_EVQ_CFG_ENABLE f = 1) : d.anyRing f = true := by
  simp only [Dev.anyRing, Bool.or_eq_true, List.any_eq_true, List.mem_range]
  exact h.elim (fun ⟨r, hr, h⟩ => .inl (.inl ⟨r, hr, Dev.flag_true h⟩)) (fun h => h.elim (fun ⟨c, hc, h⟩ => .inl (.inr ⟨c, hc, Dev.flag_true h⟩))
    fun h => .inr (Dev.flag_true h))

theorem Dev.writeDbBase_free {d : Dev} {f : Nat} {hi : Bool} {value : Word} (h : d.anyRing f = false) :
    d.writeDbBase f hi value.toNat = d.put (dbField hi) (if hi then value.toNat else value.toNat / 2 ^ 12) f := by
  obtain ⟨hf, hacc, hrange, -⟩ := dbBase_places hi
  rw [Dev.writeDbBase, if_neg (by rw [← Dev.anyRing, h]; simp), Dev.writeReg_single hf hacc (dbField_keeps ..) (by rw [Fld.inRange, hrange]), dbField_of]

theorem Dev.writeDbBase_refused {d : Dev} {f : Nat} {hi : Bool} {value : Nat} (h : d.anyRing f = true) :
    d.writeDbBase f hi value = d.raise .HIF_STAT_CFG_REJ f := by
  rw [Dev.writeDbBase, if_pos (by rw [← Dev.anyRing, h])]
  cases hi <;> rfl

section Base
variable {s : State} {dt : Nat} {w fn : Fin 8} {hi : Bool} {value : Word}

theorem execDbBaseWrite_sets (hw : s.dev.writesFor w fn) (hs : ∀ r < 64, s.dev.get .HIF_SQ_CFG_ENABLE fn r = 0)
    (hc : ∀ c < 16, s.dev.get .HIF_CQ_CFG_ENABLE fn c = 0) (he : s.dev.get .INT_EVQ_CFG_ENABLE fn = 0) :
    Answers (.dbBaseWrite dt w fn hi value) s (fun e =>
      (if hi then e.get .HIF_DB_BASE_HI_ADDR_HI fn = value.toNat else e.get .HIF_DB_BASE_LO_ADDR_LO fn = value.toNat / 2 ^ 12)
        ∧ s.dev.OnlyAt e [(if hi then .HIF_DB_BASE_HI_ADDR_HI else .HIF_DB_BASE_LO_ADDR_LO, fn, 0)] ∧ s.dev.SameMem e) := by
  refine Answers.of_framed (show _ = execDbBaseWrite dt w fn hi value s from rfl) (execDbBaseWrite_frame ..) fun hmem => ?_
  have hw' : (s.dev.elapse dt).writesFor w fn := hw
  rw [hw'.ownWrite, Dev.writeDbBase_free (Dev.anyRing_false (d := s.dev.elapse dt) hs hc he)] at hmem ⊢
  have hval : ((s.dev.elapse dt).put (dbField hi) (if hi then value.toNat else value.toNat / 2 ^ 12) fn).get (dbField hi) fn
      = if hi then value.toNat else value.toNat / 2 ^ 12 := Dev.get_put_of_lt (by rw [← dbField_of]; exact Fld.of_lt ..)
  refine ⟨?_, .put Dev.elapse_onlyAt (by simp [dbField]), hmem.sameMem⟩
  cases hi <;> exact hval

theorem execDbBaseWrite_refused (hw : s.dev.writesFor w fn) (h : (∃ r < 64, s.dev.get .HIF_SQ_CFG_ENABLE fn r = 1)
      ∨ (∃ c < 16, s.dev.get .HIF_CQ_CFG_ENABLE fn c = 1) ∨ s.dev.get .INT_EVQ_CFG_ENABLE fn = 1) :
    Answers (.dbBaseWrite dt w fn hi value) s (fun e => e.get .HIF_STAT_CFG_REJ fn = 1 ∧ s.dev.OnlyAt e [(.HIF_STAT_CFG_REJ, fn, 0)]
      ∧ s.dev.SameMem e) := by
  refine Answers.of_framed (show _ = execDbBaseWrite dt w fn hi value s from rfl) (execDbBaseWrite_frame ..) fun hmem => ?_
  have hw' : (s.dev.elapse dt).writesFor w fn := hw
  rw [hw'.ownWrite, Dev.writeDbBase_refused (Dev.anyRing_true (d := s.dev.elapse dt) h)] at hmem ⊢
  exact ⟨Dev.get_raise, .put Dev.elapse_onlyAt (by simp), hmem.sameMem⟩

end Base

/-! ### Polling enabled (R68) -/

theorem pollCfg_places : (Fld.lo .HIF_POLL_CFG_INTERVAL_US + Fld.width .HIF_POLL_CFG_INTERVAL_US ≤ 31 ∧ 1000 < 2 ^ Fld.width .HIF_POLL_CFG_INTERVAL_US)
    ∧ (Fld.lo .HIF_POLL_CFG_SLEEP_US + Fld.width .HIF_POLL_CFG_SLEEP_US ≤ 31 ∧ 1000 < 2 ^ Fld.width .HIF_POLL_CFG_SLEEP_US)
    ∧ Fld.lo .HIF_POLL_CFG_POLL_EN = 31 ∧ Fld.width .HIF_POLL_CFG_POLL_EN = 1 := by decide +kernel

/-- The fields that the check of the doorbell page reads. -/
def pageFlds : List Fld := [.HIF_DB_BASE_LO_ADDR_LO, .HIF_DB_BASE_HI_ADDR_HI] ++ windowFlds

theorem Frame.dbBase {w : Nat} {d e : Dev} (h : Frame w d e) (f : Nat) (hw : maskOut pageFlds w = true := by decide +kernel) : e.dbBase f = d.dbBase f := by
  rw [Dev.dbBase, h.get_out hw (by simp [pageFlds]), h.get_out hw (by simp [pageFlds]), Dev.dbBase]

theorem Frame.pageCause {w : Nat} {d e : Dev} (h : Frame w d e) (f : Nat) (hw : maskOut pageFlds w = true := by decide +kernel) :
    e.rangeCause f (e.dbBase f) 4096 true true = d.rangeCause f (d.dbBase f) 4096 true true := by
  rw [h.dbBase f hw, h.rangeCause (List.all_eq_true.mpr fun x hx => List.all_eq_true.mp hw x (List.mem_append_right _ hx))]

/-- The intervals of a write of HIF_POLL_CFG. -/
def Dev.putIntervals (d : Dev) (f a b : Nat) : Dev := (d.put .HIF_POLL_CFG_INTERVAL_US a f).put .HIF_POLL_CFG_SLEEP_US b f

theorem Dev.putIntervals_frame (d : Dev) (f a b : Nat) : Frame (Reg.mask .HIF_POLL_CFG) d (d.putIntervals f a b) :=
  ((Dev.put_frame ..).mono (by decide +kernel)).step' (Dev.put_frame ..) (by decide +kernel)

theorem Dev.putIntervals_get (d : Dev) {f a b : Nat} (ha : a ≤ 1000) (hb : b ≤ 1000) :
    (d.putIntervals f a b).get .HIF_POLL_CFG_INTERVAL_US f = a ∧ (d.putIntervals f a b).get .HIF_POLL_CFG_SLEEP_US f = b := by
  obtain ⟨⟨-, hwa⟩, ⟨-, hwb⟩, -⟩ := pollCfg_places
  refine ⟨?_, Dev.get_put_of_lt (by omega)⟩
  rw [Dev.putIntervals, Dev.get_put_ne _ _ _ _ _ _ _ _ (by decide), Dev.get_put_of_lt (by omega)]

theorem Dev.OnlyAt.onlyIn {d e : Dev} {fs : List (Fld × Nat × Nat)} {rs : List Reg} (h : d.OnlyAt e fs) (hr : ∀ p ∈ fs, p.1.reg ∈ rs) : d.OnlyIn e rs :=
  fun f i j hf => h f i j fun hm => hf (hr _ hm)

/-- Polling as it stands, or enabled anew. -/
def Dev.startPolls (d : Dev) (f : Nat) (was : Bool) : Dev :=
  if was then d else (d.raise .HIF_POLL_CFG_POLL_EN f).setFn f { d.fn f with lastPoll := 0 }

theorem Dev.startPolls_onlyAt (d : Dev) (f : Nat) (was : Bool) : d.OnlyAt (d.startPolls f was) [(.HIF_POLL_CFG_POLL_EN, f, 0)] := by
  unfold Dev.startPolls
  split
  · exact .refl
  · exact .of_regs (e := d.raise .HIF_POLL_CFG_POLL_EN f) (.put .refl (by simp)) rfl

theorem Dev.startPolls_get {d : Dev} {f : Nat} {was : Bool} (h : was = d.flag .HIF_POLL_CFG_POLL_EN f) :
    (d.startPolls f was).get .HIF_POLL_CFG_POLL_EN f = 1 := by
  unfold Dev.startPolls
  split
  · rename_i hw
    rw [h] at hw
    simpa [Dev.flag] using hw
  · exact Dev.get_raise (f := .HIF_POLL_CFG_POLL_EN)

/-- Intervals in range and POLL_EN written with a page that passes. -/
theorem Dev.writePoll_enabling {d : Dev} {f value : Nat} (ha : 1 ≤ Fld.of .HIF_POLL_CFG_INTERVAL_US value ∧ Fld.of .HIF_POLL_CFG_INTERVAL_US value ≤ 1000)
    (hb : 1 ≤ Fld.of .HIF_POLL_CFG_SLEEP_US value ∧ Fld.of .HIF_POLL_CFG_SLEEP_US value ≤ 1000)
    (hr : d.rangeCause f (d.dbBase f) 4096 true true = none) :
    d.writePoll f (value % 2 ^ 31 + 2 ^ 31) = ((d.putIntervals f (Fld.of .HIF_POLL_CFG_INTERVAL_US value) (Fld.of .HIF_POLL_CFG_SLEEP_US value)).startPolls f
      (d.flag .HIF_POLL_CFG_POLL_EN f)).showFlight f := by
  obtain ⟨⟨hia, -⟩, ⟨hib, -⟩, hlo, hwid⟩ := pollCfg_places
  have hen : Fld.of .HIF_POLL_CFG_POLL_EN (value % 2 ^ 31 + 2 ^ 31) = 1 := by simp only [Fld.of, hlo, hwid]; omega
  simp only [Dev.writePoll, Fld.of_enabling hia, Fld.of_enabling hib, hen]
  generalize Fld.of .HIF_POLL_CFG_INTERVAL_US value = a at ha ⊢
  generalize Fld.of .HIF_POLL_CFG_SLEEP_US value = b at hb ⊢
  have hf := d.putIntervals_frame f a b
  have hpass : (d.putIntervals f a b).rangeCause f ((d.putIntervals f a b).dbBase f) 4096 true true = none := by
    rw [hf.pageCause f, hr]
  rw [if_neg (by omega), if_neg (by decide), ← Dev.putIntervals, hpass]
  rfl

theorem execPollEnable_enables {s : State} {dt : Nat} {w fn : Fin 8} {value : Word} (hw : s.dev.writesFor w fn)
    (ha : 1 ≤ Fld.of .HIF_POLL_CFG_INTERVAL_US value.toNat ∧ Fld.of .HIF_POLL_CFG_INTERVAL_US value.toNat ≤ 1000)
    (hb : 1 ≤ Fld.of .HIF_POLL_CFG_SLEEP_US value.toNat ∧ Fld.of .HIF_POLL_CFG_SLEEP_US value.toNat ≤ 1000)
    (hr : s.dev.rangeCause fn (s.dev.dbBase fn) 4096 true true = none) :
    Answers (.pollEnable dt w fn value) s (fun e => e.get .HIF_POLL_CFG_POLL_EN fn = 1
      ∧ e.get .HIF_POLL_CFG_INTERVAL_US fn = Fld.of .HIF_POLL_CFG_INTERVAL_US value.toNat
      ∧ e.get .HIF_POLL_CFG_SLEEP_US fn = Fld.of .HIF_POLL_CFG_SLEEP_US value.toNat
      ∧ s.dev.OnlyIn e [.HIF_POLL_CFG, .HIF_STAT] ∧ s.dev.SameMem e) := by
  refine Answers.of_framed (show _ = execPollEnable dt w fn value s from rfl) (execPollEnable_frame ..) fun hmem => ?_
  have hw' : (s.dev.elapse dt).writesFor w fn := hw
  rw [hw'.ownWrite, Dev.writePoll_enabling (d := s.dev.elapse dt) ha hb hr] at hmem ⊢
  generalize ha' : Fld.of .HIF_POLL_CFG_INTERVAL_US value.toNat = a at ha hmem ⊢
  generalize hb' : Fld.of .HIF_POLL_CFG_SLEEP_US value.toNat = b at hb hmem ⊢
  obtain ⟨hga, hgb⟩ := (s.dev.elapse dt).putIntervals_get (f := fn) ha.2 hb.2
  have hf := (s.dev.elapse dt).putIntervals_frame fn a b
  have hon := ((s.dev.elapse dt).putIntervals fn a b).startPolls_onlyAt fn ((s.dev.elapse dt).flag .HIF_POLL_CFG_POLL_EN fn)
  have hv := (((s.dev.elapse dt).putIntervals fn a b).startPolls fn ((s.dev.elapse dt).flag .HIF_POLL_CFG_POLL_EN fn)).showFlight_frame fn
  refine ⟨?_, ?_, ?_, ?_, hmem.sameMem⟩
  · rw [hv.get _ _ _ (by decide +kernel), Dev.startPolls_get (by rw [Dev.flag, Dev.flag, Dev.putIntervals, Dev.get_put_ne _ _ _ _ _ _ _ _ (by decide), Dev.get_put_ne _ _ _ _ _ _ _ _ (by decide)])]
  · rw [hv.get _ _ _ (by decide +kernel), hon _ _ _ (by simp), hga]
  · rw [hv.get _ _ _ (by decide +kernel), hon _ _ _ (by simp), hgb]
  · have hreg : Fld.reg .HIF_POLL_CFG_POLL_EN ∈ [Reg.HIF_POLL_CFG, .HIF_STAT] := by decide +kernel
    exact (Dev.elapse_onlyIn.trans (hf.onlyIn (by decide +kernel))).trans
      ((hon.onlyIn fun p hp => by rw [List.mem_singleton.mp hp]; exact hreg).trans (hv.onlyIn (by decide +kernel)))

/-! ### A poll (R64, R68, R69) -/

theorem Dev.hostOpen.mayWrite {d : Dev} {f : Nat} (h : d.hostOpen f = true) : d.mayWrite f = true := by
  simp only [Dev.hostOpen, Bool.and_eq_true] at h
  obtain ⟨⟨⟨hin, hbus⟩, -⟩, hvf⟩ := h
  simp [Dev.mayWrite, hin, hbus, hvf]

/-- With no write waiting there is nothing to send. -/
theorem Dev.flushHeld_nil {d : Dev} {f : Nat} (hw : d.mayWrite f = true) (hh : (d.fn f).held = []) : d.flushHeld f = d.setFn f (d.fn f) := by
  rw [Dev.flushHeld, if_pos hw, hh, List.foldl_nil, ← hh]

theorem Dev.fn_hostPut (d : Dev) (f a n v k : Nat) : (d.hostPut f a n v).fn k = d.fn k := rfl

/-- The interval of a function's state is not read from its polls, nor from host memory. -/
theorem Dev.pollUs_hostPut (d : Dev) (f a n v : Nat) : ((d.setFn f (d.fn f)).hostPut f a n v).pollUs f = d.pollUs f := by
  show (d.setFn f (d.fn f)).pollUs f = d.pollUs f
  simp only [Dev.pollUs, Dev.flight, Dev.sq, Dev.fn_setFn_self]
  rfl

theorem Dev.pollUs_elapse (d : Dev) (dt f : Nat) : (d.elapse dt).pollUs f = d.pollUs f := rfl

/-- A poll of a page that passes, with no write waiting. -/
theorem execDoorbellPoll_polls {s : State} {dt : Nat} {fn : Fin 8} (ho : s.dev.hostOpen fn = true) (he : s.dev.get .HIF_POLL_CFG_POLL_EN fn = 1)
    (hp : (s.dev.fn fn).polling = false)
    (ht : (s.dev.fn fn).lastPoll = 0 ∨ (s.dev.fn fn).lastPoll + s.dev.get .HIF_STAT_INTERVAL_NOW fn * qUs ≤ (s.dev.elapse dt).run)
    (hr : s.dev.rangeCause fn (s.dev.dbBase fn) 4096 true true = none) (hh : (s.dev.fn fn).held = []) :
    Answers (.doorbellPoll dt fn) s (fun e =>
      e.host.Wrote s.dev.host (s.dev.dbBase fn + 0xd48) (leBytes 8 (ts64 (s.dev.now + dt))) ∧ e.dram = s.dev.dram
        ∧ (e.fn fn).polling = true ∧ (e.fn fn).lastPoll = (s.dev.elapse dt).run
        ∧ (e.fn fn).pollReads = pollPieces (s.dev.dbBase fn) (s.dev.fn fn).maxReadReq
        ∧ e.get .HIF_STAT_INTERVAL_NOW fn = s.dev.pollUs fn % 2 ^ Fld.width .HIF_STAT_INTERVAL_NOW
        ∧ s.dev.OnlyAt e [(.HIF_STAT_INTERVAL_NOW, fn, 0)]) := by
  refine Answers.of_when (show _ = execDoorbellPoll dt fn s from rfl) (execDoorbellPoll_frame ..) ?_ fun hmem => ?_
  · have hdue : ((s.dev.fn fn).lastPoll == 0 || decide ((s.dev.fn fn).lastPoll + s.dev.get .HIF_STAT_INTERVAL_NOW fn * qUs ≤ (s.dev.elapse dt).run)) = true := by
      rwa [Bool.or_eq_true, beq_iff_eq, decide_eq_true_iff]
    have hopen : (s.dev.elapse dt).hostOpen fn = true := ho
    have hfn : (s.dev.elapse dt).fn fn = s.dev.fn fn := rfl
    rw [hopen, Dev.flag_true (d := s.dev.elapse dt) he, hfn, hp, Dev.get_elapse, hdue]
    rfl
  · have hpass : (s.dev.elapse dt).rangeCause fn ((s.dev.elapse dt).dbBase fn) 4096 true true = none := hr
    have hflush : (s.dev.elapse dt).flushHeld fn = (s.dev.elapse dt).setFn fn ((s.dev.elapse dt).fn fn) :=
      Dev.flushHeld_nil (Dev.hostOpen.mayWrite (d := s.dev.elapse dt) ho) hh
    simp only [hpass, hflush]
    have hfn : (((s.dev.elapse dt).setFn fn ((s.dev.elapse dt).fn fn)).hostPut fn ((s.dev.elapse dt).dbBase fn + 0xd48) 8 (ts64 (s.dev.elapse dt).now)).fn fn
        = s.dev.fn fn := by rw [Dev.fn_hostPut, Dev.fn_setFn_self]; rfl
    have hus := (s.dev.elapse dt).pollUs_hostPut fn ((s.dev.elapse dt).dbBase fn + 0xd48) 8 (ts64 (s.dev.elapse dt).now)
    have hset (d : Dev) (x : HostFn) (v : Nat) : ((d.setFn fn x).put .HIF_STAT_INTERVAL_NOW v fn).fn fn = x := Dev.fn_setFn_self ..
    refine ⟨Bytes.wrote_writeList _ _ _, rfl, by rw [hset], by rw [hset]; rfl, by rw [hset, hfn]; rfl, ?_, .put (.of_regs .refl rfl) (by simp)⟩
    rw [Dev.get_put_self, hus, Dev.pollUs_elapse]

/-! ### The data of a poll (R65 to R68, R71) -/

/-- A poll at its end. -/
def Dev.endPoll (d : Dev) (f fails : Nat) : Dev := d.setFn f { d.fn f with polling := false, pollReads := [], pollFails := fails }

theorem Dev.endPoll_frame (d : Dev) (f fails : Nat) : Frame 0x400 d (d.endPoll f fails) := Dev.setFn_frame ..

theorem Dev.fn_endPoll (d : Dev) (f fails : Nat) : (d.endPoll f fails).fn f = { d.fn f with polling := false, pollReads := [], pollFails := fails } :=
  Dev.fn_setFn_self ..

/-- A poll that fails. -/
theorem execPollSnapshot_fails {s : State} {dt : Nat} {fn : Fin 8} (hp : (s.dev.fn fn).polling = true) (hl : s.dev.logs) :
    Answers (.pollSnapshot dt fn none) s (fun e => e.get .HIF_STAT_POLL_ERR fn = 1 ∧ (e.fn fn).polling = false
      ∧ (e.fn fn).pollFails = (s.dev.fn fn).pollFails + 1 ∧ e.Recorded 0x0201 3 ∧ s.dev.SameMem e) := by
  refine Answers.of_when (show _ = execPollSnapshot dt fn none s from rfl) (execPollSnapshot_frame dt fn none s) hp fun hmem => ?_
  change Frame _ _ ((((s.dev.elapse dt).endPoll fn ((s.dev.fn fn).pollFails + 1)).raise .HIF_STAT_POLL_ERR fn).record 0x0201 3 (recSource 34 63) fn) at hmem
  have hend := (s.dev.elapse dt).endPoll_frame fn ((s.dev.fn fn).pollFails + 1)
  have hfn := (s.dev.elapse dt).fn_endPoll fn ((s.dev.fn fn).pollFails + 1)
  have hlogs : ((s.dev.elapse dt).endPoll fn ((s.dev.fn fn).pollFails + 1)).logs := Dev.logs.frame hend hl
  have herr := ((s.dev.elapse dt).endPoll fn ((s.dev.fn fn).pollFails + 1)).raise_frame .HIF_STAT_POLL_ERR fn 0
  have hrec := Dev.record_frame (((s.dev.elapse dt).endPoll fn ((s.dev.fn fn).pollFails + 1)).raise .HIF_STAT_POLL_ERR fn) 0x0201 3 (recSource 34 63) fn 0 0 0
  refine ⟨(hrec.get _ _ _ (by decide +kernel)).trans Dev.get_raise, ?_, ?_, ((hlogs.frame herr).accepts 3).recorded .., hmem.sameMem⟩
  · exact congrArg HostFn.polling ((hrec.fn fn).trans ((herr.fn fn).trans hfn))
  · exact congrArg HostFn.pollFails ((hrec.fn fn).trans ((herr.fn fn).trans hfn))

theorem Dev.sq_setSq_ne (d : Dev) (f r k : Nat) (x : SqState) (h : k ≠ r) : (d.setSq f r x).sq f k = d.sq f k := by
  rw [Dev.sq, Dev.setSq, Dev.fn_setFn_self, Tab.get_set_ne _ _ _ _ _ h, Dev.sq]

theorem Dev.cq_setCq_ne (d : Dev) (f c k : Nat) (x : CqState) (h : k ≠ c) : (d.setCq f c x).cq f k = d.cq f k := by
  rw [Dev.cq, Dev.setCq, Dev.fn_setFn_self, Tab.get_set_ne _ _ _ _ _ h, Dev.cq]

/-- The words of a page for each vector, ring and producer, taken in turn, and the vectors shown after. -/
def Dev.takeAcks (d : Dev) (f : Nat) (g : Nat → Nat) : Dev := (List.range 64).foldl (fun d v => d.takeAck f v (g v)) d
def Dev.takeCis (d : Dev) (f : Nat) (g : Nat → Nat) (n : Nat) : Dev := (List.range n).foldl (fun d c => d.setCq f c { d.cq f c with ci := g c % 2 ^ 16 }) d
def Dev.takePis (d : Dev) (f : Nat) (g : Nat → Nat) (n : Nat) : Dev := (List.range n).foldl (fun d r => d.takePi f r (g r)) d
def Dev.showVecs (d : Dev) (f : Nat) : Dev :=
  (List.range 64).foldl (fun d v => if d.flag .INT_VEC_STAT_PENDING f v then d.refreshVec f v else d) d

/-- The word of a page at an offset of four times `k`. -/
def pageWord (ws : List Word) (k : Nat) : Nat := (ws.getD k 0#32).toNat

/-- A page taken as far as its consumer indices. -/
def Dev.takeFirst (d : Dev) (f : Nat) (ws : List Word) : Dev :=
  ((d.takeHostState f (pageWord ws 81)).takeAcks f fun v => pageWord ws (128 + v)).takeCis f (fun c => pageWord ws (64 + c)) 16

/-- The page's indices of the event ring, and where the next fetch begins. -/
def Dev.takeEvqCi (d : Dev) (f ci : Nat) : Dev := d.setFn f { d.fn f with evq := { (d.fn f).evq with ci := ci % 2 ^ 16 } }
def Dev.newTurn (d : Dev) (f : Nat) : Dev := d.setFn f { d.fn f with turn := 64 }

theorem Dev.takePage_eq (d : Dev) (f : Nat) (ws : List Word) :
    d.takePage f ws = ((((((d.takeFirst f ws).takeEvqCi f (pageWord ws 80)).takePis f (pageWord ws) 64).newTurn f).showVecs f).showHoldCq f).showFlight f := by
  simp only [Dev.takePage, Dev.takeFirst, Dev.takeAcks, Dev.takeCis, Dev.takeEvqCi, Dev.takePis, Dev.newTurn, Dev.showVecs, pageWord]

theorem Dev.takeHostState_fn (d : Dev) (f w : Nat) : ∃ x, (d.takeHostState f w).fn f = { d.fn f with hostState := x } := by
  unfold Dev.takeHostState
  split <;> exact ⟨_, Dev.fn_setFn_self ..⟩

theorem Dev.takeAck_fn (d : Dev) (f v w : Nat) : ∃ a, (d.takeAck f v w).fn f = { d.fn f with ack := a } := by
  unfold Dev.takeAck
  split
  · exact ⟨_, rfl⟩
  · refine ⟨Tab.set 0 (d.fn f).ack v w, ?_⟩
    dsimp only
    split
    · rw [(Dev.exitVec_frame ..).fn, Dev.fn_setFn_self]
    · rw [(Dev.bump_frame ..).fn, Dev.fn_setFn_self]

theorem Dev.takeAcks_fn (d : Dev) (f : Nat) (g : Nat → Nat) : ∃ a, (d.takeAcks f g).fn f = { d.fn f with ack := a } :=
  foldl_keep (P := fun e : Dev => ∃ a, e.fn f = { d.fn f with ack := a }) ⟨_, rfl⟩ (fun e v ⟨_, ha⟩ => by
    obtain ⟨b, hb⟩ := e.takeAck_fn f v (g v)
    exact ⟨b, by rw [hb, ha]⟩) _

/-- Each completion ring's consumer index, and nothing else. -/
theorem Dev.takeCis_spec (d : Dev) (f : Nat) (g : Nat → Nat) (n : Nat) : Frame 0x400 d (d.takeCis f g n)
    ∧ (∃ q, (d.takeCis f g n).fn f = { d.fn f with cq := q }) ∧ ∀ c < n, ((d.takeCis f g n).cq f c).ci = g c % 2 ^ 16 := by
  induction n with
  | zero => exact ⟨.refl, ⟨_, rfl⟩, fun _ h => absurd h (Nat.not_lt_zero _)⟩
  | succ n ih =>
    have hs : d.takeCis f g (n + 1) = (d.takeCis f g n).setCq f n { (d.takeCis f g n).cq f n with ci := g n % 2 ^ 16 } := by
      simp only [Dev.takeCis, List.range_succ, List.foldl_append, List.foldl_cons, List.foldl_nil]
    rw [hs]
    obtain ⟨hf, ⟨q, hq⟩, hci⟩ := ih
    refine ⟨hf.trans (Dev.setCq_frame ..), ⟨_, by rw [Dev.setCq, Dev.fn_setFn_self, hq]⟩, fun c hc => ?_⟩
    rcases Nat.lt_succ_iff_lt_or_eq.mp hc with hlt | rfl
    · rw [Dev.cq_setCq_ne _ _ _ _ _ (Nat.ne_of_lt hlt), hci c hlt]
    · rw [Dev.cq_setCq_self]

/-- A producer index that lies inside its ring. -/
theorem Dev.takePi_inside {d : Dev} {f r w : Nat} (hf : d.frozen f = false) (hpi : d.get .HIF_SQ_CFG_ENABLE f r = 1 → w % 2 ^ 16 < d.sqSize f r) :
    d.takePi f r w = if d.get .HIF_SQ_CFG_ENABLE f r = 1 then d.setSq f r { d.sq f r with pi := w % 2 ^ 16 } else d := by
  by_cases hen : d.get .HIF_SQ_CFG_ENABLE f r = 1
  · simp only [Dev.takePi, Dev.flag_true hen, hf, if_pos hen]
    rw [if_neg (by decide), if_neg (Nat.not_le.mpr (hpi hen))]
  · have hoff : d.flag .HIF_SQ_CFG_ENABLE f r = false := by simpa [Dev.flag] using hen
    simp only [Dev.takePi, hoff, true_or, if_true, if_neg hen]

/-- Each enabled submission ring's producer index, and nothing else. -/
theorem Dev.takePis_spec {d : Dev} {f : Nat} {g : Nat → Nat} {n : Nat} (hf : d.frozen f = false)
    (hpi : ∀ r < n, d.get .HIF_SQ_CFG_ENABLE f r = 1 → g r % 2 ^ 16 < d.sqSize f r) : Frame 0x400 d (d.takePis f g n)
    ∧ (∃ q, (d.takePis f g n).fn f = { d.fn f with sq := q })
    ∧ ∀ r < n, d.get .HIF_SQ_CFG_ENABLE f r = 1 → ((d.takePis f g n).sq f r).pi = g r % 2 ^ 16 := by
  induction n with
  | zero => exact ⟨.refl, ⟨_, rfl⟩, fun _ h => absurd h (Nat.not_lt_zero _)⟩
  | succ n ih =>
    obtain ⟨hfr, ⟨q, hq⟩, hdone⟩ := ih fun r hr => hpi r (Nat.lt_succ_of_lt hr)
    have hget (x : Fld) (i j : Nat) : (d.takePis f g n).get x i j = d.get x i j := hfr.onlyIn (rs := []) (by decide +kernel) x i j List.not_mem_nil
    have hs : d.takePis f g (n + 1) = if d.get .HIF_SQ_CFG_ENABLE f n = 1
        then (d.takePis f g n).setSq f n { (d.takePis f g n).sq f n with pi := g n % 2 ^ 16 } else d.takePis f g n := by
      rw [← hget, ← Dev.takePi_inside (by rw [Dev.frozen, Dev.flag, hget]; exact hf)
        (by rw [hget, Dev.sqSize, hget]; exact hpi n (Nat.lt_succ_self n))]
      simp only [Dev.takePis, List.range_succ, List.foldl_append, List.foldl_cons, List.foldl_nil]
    rw [hs]
    split
    · refine ⟨hfr.trans (Dev.setSq_frame ..), ⟨_, by rw [Dev.setSq, Dev.fn_setFn_self, hq]⟩, fun r hr he => ?_⟩
      rcases Nat.lt_succ_iff_lt_or_eq.mp hr with hlt | rfl
      · rw [Dev.sq_setSq_ne _ _ _ _ _ (Nat.ne_of_lt hlt), hdone r hlt he]
      · rw [Dev.sq_setSq_self]
    · rename_i hoff
      refine ⟨hfr, ⟨q, hq⟩, fun r hr he => ?_⟩
      rcases Nat.lt_succ_iff_lt_or_eq.mp hr with hlt | rfl
      · exact hdone r hlt he
      · exact absurd he hoff

/-- What a page changes up to its consumer indices: nothing that the producer indices are checked against. -/
theorem Dev.takeFirst_spec (d : Dev) (f : Nat) (ws : List Word) :
    (∃ x a q, (d.takeFirst f ws).fn f = { d.fn f with hostState := x, ack := a, cq := q })
      ∧ (∀ c < 16, ((d.takeFirst f ws).cq f c).ci = pageWord ws (64 + c) % 2 ^ 16)
      ∧ Frame 0x1c44080000000000200000000000000000000000000000002400 d (d.takeFirst f ws) := by
  obtain ⟨x, hx⟩ := d.takeHostState_fn f (pageWord ws 81)
  obtain ⟨a, ha⟩ := (d.takeHostState f (pageWord ws 81)).takeAcks_fn f fun v => pageWord ws (128 + v)
  obtain ⟨hf, ⟨q, hq⟩, hci⟩ := ((d.takeHostState f (pageWord ws 81)).takeAcks f fun v => pageWord ws (128 + v)).takeCis_spec f (fun c => pageWord ws (64 + c)) 16
  refine ⟨⟨x, a, q, by rw [Dev.takeFirst, hq, ha, hx]⟩, hci, ?_⟩
  have hstate : Frame 0x1c44080000000000200000000000000000000000000000002400 d (d.takeHostState f (pageWord ws 81)) :=
    (Dev.takeHostState_frame ..).mono (by decide +kernel)
  have hacks := hstate.foldl (l := List.range 64) (g := fun d v => d.takeAck f v (pageWord ws (128 + v))) fun _ _ h =>
    h.step' (Dev.takeAck_frame ..) (by decide +kernel)
  exact hacks.step' hf (by decide +kernel)

/-- What a page changes after its producer indices: no part of a function beside where the next fetch begins. -/
theorem Dev.takeLast_fn (d : Dev) (f k : Nat) : ((((d.newTurn f).showVecs f).showHoldCq f).showFlight f).fn k = (d.newTurn f).fn k := by
  have hvecs : Frame 0xc00000000000000000000000000000000000000000000000000 (d.newTurn f) ((d.newTurn f).showVecs f) :=
    Frame.refl.foldl fun _ _ h => (h.step' (Dev.refreshVec_frame ..) Within.refl).ite h
  rw [(Dev.showFlight_frame ..).fn, (Dev.showHoldCq_frame ..).fn, hvecs.fn]

/-- A page whose producer indices lie inside their rings. -/
theorem Dev.takePage_inside {d : Dev} {f : Nat} {ws : List Word} (hf : d.frozen f = false)
    (hpi : ∀ r < 64, d.get .HIF_SQ_CFG_ENABLE f r = 1 → pageWord ws r % 2 ^ 16 < d.sqSize f r) :
    let e := d.takePage f ws
    (∃ x a q c v, e.fn f = { d.fn f with hostState := x, ack := a, sq := q, cq := c, evq := v, turn := 64 })
      ∧ (∀ r < 64, d.get .HIF_SQ_CFG_ENABLE f r = 1 → (e.sq f r).pi = pageWord ws r % 2 ^ 16)
      ∧ ∀ c < 16, (e.cq f c).ci = pageWord ws (64 + c) % 2 ^ 16 := by
  obtain ⟨⟨x, a, q, hfn⟩, hci, hfirst⟩ := d.takeFirst_spec f ws
  have hevq : ((d.takeFirst f ws).takeEvqCi f (pageWord ws 80)).fn f = { (d.takeFirst f ws).fn f with
      evq := { ((d.takeFirst f ws).fn f).evq with ci := pageWord ws 80 % 2 ^ 16 } } := Dev.fn_setFn_self ..
  have hbefore : Frame 0x1c44080000000000200000000000000000000000000000002400 d ((d.takeFirst f ws).takeEvqCi f (pageWord ws 80)) :=
    hfirst.step' (Dev.setFn_frame ..) (by decide +kernel)
  have hlast : (d.takePage f ws).fn f = { (((d.takeFirst f ws).takeEvqCi f (pageWord ws 80)).takePis f (pageWord ws) 64).fn f with turn := 64 } := by
    rw [Dev.takePage_eq, Dev.takeLast_fn, Dev.newTurn, Dev.fn_setFn_self]
  generalize (d.takeFirst f ws).takeEvqCi f (pageWord ws 80) = g at hevq hbefore hlast
  have hsq (r : Nat) : g.get .HIF_SQ_CFG_ENABLE f r = d.get .HIF_SQ_CFG_ENABLE f r ∧ g.sqSize f r = d.sqSize f r :=
    ⟨hbefore.get _ _ _ (by decide +kernel), by rw [Dev.sqSize, hbefore.get _ _ _ (by decide +kernel), Dev.sqSize]⟩
  obtain ⟨-, ⟨p, hp⟩, hpis⟩ := Dev.takePis_spec (d := g) (f := f) (g := pageWord ws) (n := 64)
    (by rw [Dev.frozen, Dev.flag, hbefore.get _ _ _ (by decide +kernel)]; exact hf) fun r hr he => by
      rw [(hsq r).2]; exact hpi r hr ((hsq r).1 ▸ he)
  refine ⟨⟨x, a, p, q, _, by rw [hlast, hp, hevq, hfn]⟩, fun r hr he => ?_, fun c hc => ?_⟩
  · rw [Dev.sq, hlast, ← Dev.sq, hpis r hr ((hsq r).1.trans he)]
  · rw [Dev.cq, hlast, hp, hevq, ← Dev.cq, hci c hc]

/-- The data of a poll whose producer indices lie inside their rings. -/
theorem execPollSnapshot_takes {s : State} {dt : Nat} {fn : Fin 8} {ws : List Word} (hp : (s.dev.fn fn).polling = true) (hf : s.dev.frozen fn = false)
    (hpi : ∀ r < 64, s.dev.get .HIF_SQ_CFG_ENABLE fn r = 1 → (ws.getD r 0#32).toNat % 2 ^ 16 < s.dev.sqSize fn r) :
    Answers (.pollSnapshot dt fn (some ws)) s (fun e => (e.fn fn).polling = false ∧ (e.fn fn).pollFails = 0
      ∧ (∀ r < 64, s.dev.get .HIF_SQ_CFG_ENABLE fn r = 1 → (e.sq fn r).pi = (ws.getD r 0#32).toNat % 2 ^ 16)
      ∧ (∀ c < 16, (e.cq fn c).ci = (ws.getD (64 + c) 0#32).toNat % 2 ^ 16) ∧ s.dev.SameMem e) := by
  refine Answers.of_when (show _ = execPollSnapshot dt fn (some ws) s from rfl) (execPollSnapshot_frame dt fn (some ws) s) hp fun hmem => ?_
  change Frame _ _ (((s.dev.elapse dt).endPoll fn 0).takePage fn ws) at hmem
  obtain ⟨⟨x, a, q, c, v, hfn⟩, hpis, hcis⟩ := Dev.takePage_inside (d := (s.dev.elapse dt).endPoll fn 0) (f := fn) (ws := ws) hf hpi
  refine ⟨?_, ?_, hpis, hcis, hmem.sameMem⟩
  · exact congrArg HostFn.polling (hfn.trans (by rw [Dev.fn_endPoll]))
  · exact congrArg HostFn.pollFails (hfn.trans (by rw [Dev.fn_endPoll]))

/-- Settles O14: the page's base written and refused, polling enabled, a poll, and the end of a poll that fails or brings its page. -/
theorem doorbellPage : Obligations.DoorbellPage :=
  ⟨fun _ _ _ _ _ _ hw hs hc he => execDbBaseWrite_sets hw hs hc he,
   fun _ _ _ _ _ _ hw h => execDbBaseWrite_refused hw h,
   fun _ _ _ _ _ hw ha₁ ha₂ hb₁ hb₂ hr => execPollEnable_enables hw ⟨ha₁, ha₂⟩ ⟨hb₁, hb₂⟩ hr,
   fun _ _ _ ho he hp ht hr hh => execDoorbellPoll_polls ho he hp ht hr hh,
   fun _ _ _ hp hl => execPollSnapshot_fails hp hl,
   fun _ _ _ _ hp hf hpi => execPollSnapshot_takes hp hf hpi⟩

end Sys2Proof.Machine
end

section
/-! Completion entries written (O16). -/

set_option Elab.async false
namespace Sys2Proof.Machine
open Sys2Proof

/-! ### Words of the doorbell page that the device writes (R64, R97) -/

/-- A page that passes, with no write waiting, takes the word. -/
theorem Dev.dbPut_writes {d : Dev} {f : Nat} (hr : d.rangeCause f (d.dbBase f) 4096 true true = none) (hw : d.mayWrite f = true)
    (hh : (d.fn f).held = []) (off v : Nat) : d.dbPut f off v = d.hostWrite f (d.dbBase f + off) (leBytes 4 v) := by
  simp [Dev.dbPut, hr, Dev.hostOut, hw, hh]

theorem Dev.mayWrite_setFn {d : Dev} {f : Nat} {x : HostFn} (h : x.busMaster = (d.fn f).busMaster) : (d.setFn f x).mayWrite f = d.mayWrite f := by
  rw [Dev.mayWrite, Dev.mayWrite, Dev.fn_setFn_self, h]
  rfl

theorem Dev.mayWrite_hostPut (d : Dev) (f a n v k : Nat) : (d.hostPut f a n v).mayWrite k = d.mayWrite k := rfl

theorem Dev.fn_hostWrite (d : Dev) (f a : Nat) (bs : List Byte) (k : Nat) : (d.hostWrite f a bs).fn k = d.fn k := rfl

theorem Bytes.wrote2_writeList (m : Bytes) (a : Nat) (as : List Byte) (b : Nat) (bs : List Byte) : ((m.writeList a as).writeList b bs).Wrote2 m a as b bs :=
  fun x => by rw [Bytes.wrote_writeList, Bytes.wrote_writeList]

/-! ### An entry leaves HOST (R80 to R84) -/

/-- An entry and its ring's next position, in host memory. -/
def Dev.entryOut (d : Dev) (f : Nat) (e : CplEntry) : Dev :=
  ((d.setFn f { d.fn f with waiting := (d.fn f).waiting.erase e }).hostPut f (d.cqBase f e.cq + 16 * (d.cq f e.cq).pos) 16
    (e.encode (d.cq f e.cq).phase)).dbPut f (0xd00 + 4 * e.cq) (((d.cq f e.cq).pos + 1) % d.cqSize f e.cq)

/-- The ring of an entry after it, with the place in HOST free. -/
def Dev.ringOn (d : Dev) (f c : Nat) (x : CqState) : Dev := (((d.setCq f c x).freePlace f).showHoldCq f).showFlight f

/-- A ring's state after one more entry. -/
def CqState.next (x : CqState) (n : Nat) : CqState :=
  { x with pos := (x.pos + 1) % n, phase := if (x.pos + 1) % n = 0 then !x.phase else x.phase }

section Entry
variable {d : Dev} {f : Nat} {e : CplEntry}

theorem Dev.entryOut_eq (hw : d.mayWrite f = true) (hr : d.rangeCause f (d.dbBase f) 4096 true true = none) (hh : (d.fn f).held = []) :
    d.entryOut f e = ((d.setFn f { d.fn f with waiting := (d.fn f).waiting.erase e }).hostPut f (d.cqBase f e.cq + 16 * (d.cq f e.cq).pos) 16
      (e.encode (d.cq f e.cq).phase)).hostWrite f (d.dbBase f + (0xd00 + 4 * e.cq)) (leBytes 4 (((d.cq f e.cq).pos + 1) % d.cqSize f e.cq)) := by
  have hs := d.setFn_frame f { d.fn f with waiting := (d.fn f).waiting.erase e }
  have hp := Dev.hostPut_frame (d.setFn f { d.fn f with waiting := (d.fn f).waiting.erase e }) f (d.cqBase f e.cq + 16 * (d.cq f e.cq).pos) 16
    (e.encode (d.cq f e.cq).phase)
  rw [Dev.entryOut, Dev.dbPut_writes, hp.dbBase f, hs.dbBase f]
  · rw [hp.pageCause f, hs.pageCause f, hr]
  · rw [Dev.mayWrite_hostPut]
    refine (Dev.mayWrite_setFn ?_).trans hw
    rfl
  · rw [Dev.fn_hostPut, Dev.fn_setFn_self, hh]

theorem Dev.entryOut_frame : Frame 0x400410 d (d.entryOut f e) :=
  (((Dev.setFn_frame ..).mono (by decide +kernel)).step' (Dev.hostPut_frame ..) (by decide +kernel)).step' (Dev.dbPut_frame ..) Within.refl

theorem Dev.entryOut_spec (hw : d.mayWrite f = true) (hr : d.rangeCause f (d.dbBase f) 4096 true true = none) (hh : (d.fn f).held = []) :
    (d.entryOut f e).host.Wrote2 d.host (d.cqBase f e.cq + 16 * (d.cq f e.cq).pos) (leBytes 16 (e.encode (d.cq f e.cq).phase))
        (d.dbBase f + (0xd00 + 4 * e.cq)) (leBytes 4 (((d.cq f e.cq).pos + 1) % d.cqSize f e.cq))
      ∧ (d.entryOut f e).fn f = { d.fn f with waiting := (d.fn f).waiting.erase e } := by
  rw [Dev.entryOut_eq hw hr hh]
  refine ⟨Bytes.wrote2_writeList _ _ _ _ _, ?_⟩
  rw [Dev.fn_hostWrite, Dev.fn_hostPut, Dev.fn_setFn_self]

theorem Dev.ringOn_spec {c : Nat} {x : CqState} : (d.ringOn f c x).cq f c = x ∧ ((d.ringOn f c x).fn f).waiting = (d.fn f).waiting
    ∧ (d.get .HIF_STAT_HOSTQ_USED f ≤ 4096 → (d.ringOn f c x).get .HIF_STAT_HOSTQ_USED f = d.get .HIF_STAT_HOSTQ_USED f - 1)
    ∧ Frame 0x8a0000000000000000000000000000000400 d (d.ringOn f c x) := by
  have hset := d.setCq_frame f c x
  have hfree := (d.setCq f c x).freePlace_frame f
  have hhold := ((d.setCq f c x).freePlace f).showHoldCq_frame f
  have hshow := (((d.setCq f c x).freePlace f).showHoldCq f).showFlight_frame f
  refine ⟨?_, ?_, fun hle => ?_, ?_⟩
  · rw [Dev.ringOn, hshow.cq, hhold.cq, hfree.cq, Dev.cq_setCq_self]
  · rw [Dev.ringOn, hshow.fn, hhold.fn, hfree.fn, Dev.setCq, Dev.fn_setFn_self]
  · have hwid : 4096 < 2 ^ Fld.width .HIF_STAT_HOSTQ_USED := by decide +kernel
    rw [Dev.ringOn, hshow.get _ _ _ (by decide +kernel), hhold.get _ _ _ (by decide +kernel), Dev.freePlace, hset.get _ _ _ (by decide +kernel),
      Dev.get_put_of_lt (by omega)]
  · exact (((hset.mono (by decide +kernel)).step' hfree (by decide +kernel)).step' hhold (by decide +kernel)).step' hshow (by decide +kernel)

end Entry

theorem Dev.cqBlocked_setFn (d : Dev) (f c : Nat) : (d.setFn f (d.fn f)).cqBlocked f c = d.cqBlocked f c := by
  simp only [Dev.cqBlocked, Dev.cqFull, Dev.cq, Dev.fn_setFn_self]
  rfl

theorem Dev.cqBase_setFn (d : Dev) (k : Nat) (x : HostFn) (f c : Nat) : (d.setFn k x).cqBase f c = d.cqBase f c := rfl

/-- An entry written: it leaves HOST, and its ring goes on. -/
def Dev.writeEntry (d : Dev) (f : Nat) (e : CplEntry) : Dev := (d.entryOut f e).ringOn f e.cq ((d.cq f e.cq).next (d.cqSize f e.cq))

/-- The first waiting entry whose ring has room leaves HOST. -/
theorem execCompletionWrite_eq {s : State} {dt : Nat} {fn : Fin 8} {n : CplEntry} (hw : s.dev.mayWrite fn = true)
    (hn : (s.dev.fn fn).waiting.find? (fun e => !s.dev.cqBlocked fn e.cq) = some n) (hi : n.irq = false)
    (hr : s.dev.rangeCause fn (s.dev.cqBase fn n.cq) (16 * s.dev.cqSize fn n.cq) false true = none) (hh : (s.dev.fn fn).held = []) :
    execCompletionWrite dt fn s = s.act dt (fun d => (d.setFn fn (d.fn fn)).writeEntry fn n) := by
  have hw' : (s.dev.elapse dt).mayWrite fn = true := hw
  have hflush : (s.dev.elapse dt).flushHeld fn = (s.dev.elapse dt).setFn fn ((s.dev.elapse dt).fn fn) := Dev.flushHeld_nil hw' hh
  have hfind : (((s.dev.elapse dt).setFn fn ((s.dev.elapse dt).fn fn)).fn fn).waiting.find?
      (fun e => !((s.dev.elapse dt).setFn fn ((s.dev.elapse dt).fn fn)).cqBlocked fn e.cq) = some n := by
    simp only [Dev.fn_setFn_self, Dev.cqBlocked_setFn]
    exact hn
  have hcause : ((s.dev.elapse dt).setFn fn ((s.dev.elapse dt).fn fn)).rangeCause fn (((s.dev.elapse dt).setFn fn ((s.dev.elapse dt).fn fn)).cqBase fn n.cq)
      (16 * ((s.dev.elapse dt).setFn fn ((s.dev.elapse dt).fn fn)).cqSize fn n.cq) false true = none := hr
  simp only [execCompletionWrite, State.act, hw', Dev.when_true, hflush, hfind, hcause, hi, Bool.false_eq_true, if_false, Dev.writeEntry, Dev.entryOut,
    Dev.ringOn, CqState.next]
  simp only [Dev.cqBase_setFn]

/-- The first waiting entry whose ring has room, written. -/
theorem execCompletionWrite_writes {s : State} {dt : Nat} {fn : Fin 8} {n : CplEntry} (hw : s.dev.mayWrite fn = true)
    (hn : (s.dev.fn fn).waiting.find? (fun e => !s.dev.cqBlocked fn e.cq) = some n) (hi : n.irq = false)
    (hu : s.dev.get .HIF_STAT_HOSTQ_USED fn ≤ 4096)
    (hr : s.dev.rangeCause fn (s.dev.cqBase fn n.cq) (16 * s.dev.cqSize fn n.cq) false true = none)
    (hp : s.dev.rangeCause fn (s.dev.dbBase fn) 4096 true true = none) (hh : (s.dev.fn fn).held = []) :
    Answers (.completionWrite dt fn) s (fun e =>
      e.host.Wrote2 s.dev.host (s.dev.cqBase fn n.cq + 16 * (s.dev.cq fn n.cq).pos) (leBytes 16 (n.encode (s.dev.cq fn n.cq).phase))
          (s.dev.dbBase fn + (0xd00 + 4 * n.cq)) (leBytes 4 (((s.dev.cq fn n.cq).pos + 1) % s.dev.cqSize fn n.cq))
        ∧ (e.cq fn n.cq).pos = ((s.dev.cq fn n.cq).pos + 1) % s.dev.cqSize fn n.cq
        ∧ (e.cq fn n.cq).phase = (if ((s.dev.cq fn n.cq).pos + 1) % s.dev.cqSize fn n.cq = 0 then !(s.dev.cq fn n.cq).phase
            else (s.dev.cq fn n.cq).phase)
        ∧ (e.fn fn).waiting = (s.dev.fn fn).waiting.erase n
        ∧ e.get .HIF_STAT_HOSTQ_USED fn = s.dev.get .HIF_STAT_HOSTQ_USED fn - 1
        ∧ e.dram = s.dev.dram ∧ e.jobs = s.dev.jobs ∧ s.dev.OnlyIn e [.HIF_STAT]) := by
  refine Answers.of_act (execCompletionWrite_eq hw hn hi hr hh) ?_
  have hfn : ((s.dev.elapse dt).setFn fn ((s.dev.elapse dt).fn fn)).fn fn = s.dev.fn fn := Dev.fn_setFn_self ..
  have hg : Frame 0x403 s.dev ((s.dev.elapse dt).setFn fn ((s.dev.elapse dt).fn fn)) :=
    ((Dev.elapse_frame s.dev dt).mono (by decide +kernel)).step' (Dev.setFn_frame ..) (by decide +kernel)
  have hgw : ((s.dev.elapse dt).setFn fn ((s.dev.elapse dt).fn fn)).mayWrite fn = true := (Dev.mayWrite_setFn rfl).trans hw
  generalize (s.dev.elapse dt).setFn fn ((s.dev.elapse dt).fn fn) = g at hfn hg hgw
  have hcq : g.cq fn n.cq = s.dev.cq fn n.cq := by rw [Dev.cq, hfn, Dev.cq]
  have hsize : g.cqSize fn n.cq = s.dev.cqSize fn n.cq := by rw [Dev.cqSize, hg.get _ _ _ (by decide +kernel), Dev.cqSize]
  have hbase : g.cqBase fn n.cq = s.dev.cqBase fn n.cq := by
    rw [Dev.cqBase, hg.get _ _ _ (by decide +kernel), hg.get _ _ _ (by decide +kernel), Dev.cqBase]
  have hout : Frame 0x400410 g (g.entryOut fn n) := Dev.entryOut_frame
  obtain ⟨hhost, hofn⟩ := Dev.entryOut_spec (e := n) hgw ((hg.pageCause fn).trans hp) (by rw [hfn, hh])
  obtain ⟨hring, hwait, hused, hon⟩ := Dev.ringOn_spec (d := g.entryOut fn n) (f := fn) (c := n.cq) (x := (g.cq fn n.cq).next (g.cqSize fn n.cq))
  rw [hbase, hcq, hsize, hg.dbBase fn, hg.host (by decide +kernel)] at hhost
  have hplace : (g.entryOut fn n).get .HIF_STAT_HOSTQ_USED fn = s.dev.get .HIF_STAT_HOSTQ_USED fn := by
    rw [hout.get _ _ _ (by decide +kernel), hg.get _ _ _ (by decide +kernel)]
  refine ⟨?_, ?_, ?_, ?_, ?_, ?_, ?_, ?_⟩
  · rw [Dev.writeEntry, hon.host (by decide +kernel)]
    exact hhost
  · rw [Dev.writeEntry, hring, hcq, hsize, CqState.next]
  · rw [Dev.writeEntry, hring, hcq, hsize, CqState.next]
  · rw [Dev.writeEntry, hwait, hofn, hfn]
  · rw [Dev.writeEntry, hused (hplace ▸ hu), hplace]
  · rw [Dev.writeEntry, hon.dram (by decide +kernel), hout.dram (by decide +kernel), hg.dram (by decide +kernel)]
  · rw [Dev.writeEntry, hon.jobs (by decide +kernel), hout.jobs (by decide +kernel), hg.jobs (by decide +kernel)]
  · exact ((hg.onlyIn (by decide +kernel)).trans (hout.onlyIn (by decide +kernel))).trans (hon.onlyIn (by decide +kernel))

/-- Settles O16: the first waiting entry whose ring has room is written, and nothing else. -/
theorem completionIsWritten : Obligations.CompletionIsWritten :=
  fun _ _ _ _ hw hn hi _ hu hr hp hh => execCompletionWrite_writes hw hn hi hu hr hp hh

end Sys2Proof.Machine
end

section
/-! Descriptors come in (O15). -/

set_option Elab.async false
namespace Sys2Proof.Machine
open Sys2Proof

/-! ### Slots asked for (R75, R79, R100) -/

/-- Slots of a ring asked for, in its turn. -/
def Dev.askSlots (d : Dev) (f r n : Nat) : Dev :=
  ((d.setSq f r { d.sq f r with
    outstanding := (d.sq f r).outstanding + n, asked := if (d.sq f r).outstanding = 0 then d.run else (d.sq f r).asked }).noteTurn f r n).showFlight f

theorem Dev.sq_noteTurn (d : Dev) (f r n : Nat) : (d.noteTurn f r n).sq f r = d.sq f r := by
  rw [Dev.sq, Dev.noteTurn, Dev.fn_setFn_self, Dev.sq]

theorem Dev.askSlots_frame (d : Dev) (f r n : Nat) : Frame 0x20000000000000000000000000000000400 d (d.askSlots f r n) :=
  (((Dev.setSq_frame ..).mono (by decide +kernel)).step' (Dev.noteTurn_frame ..) (by decide +kernel)).step' (Dev.showFlight_frame ..) (by decide +kernel)

theorem Dev.sq_askSlots (d : Dev) (f r n : Nat) : (d.askSlots f r n).sq f r = { d.sq f r with
    outstanding := (d.sq f r).outstanding + n, asked := if (d.sq f r).outstanding = 0 then d.run else (d.sq f r).asked } := by
  rw [Dev.askSlots, (Dev.showFlight_frame ..).sq, Dev.sq_noteTurn, Dev.sq_setSq_self]

/-- The slots of the ring whose turn it is, asked for. -/
theorem execDescriptorFetch_asks {s : State} {dt : Nat} {fn : Fin 8} {head : Gran} {r n : Nat} (hn : slotsFor (bitsOf head.toNat 47 40) = n)
    (ho : s.dev.hostOpen fn = true) (hi : s.dev.inService 35 = true) (hs : s.dev.stageSize fn ≠ 0) (ht : s.dev.ringTurn fn = some r)
    (hr : s.dev.rangeCause fn (s.dev.sqBase fn r) (64 * s.dev.sqSize fn r) true false = none) (hsize : n < s.dev.sqSize fn r)
    (hwork : n ≤ s.dev.ringWork fn r) (hturn : (s.dev.fn fn).turn % 64 + n ≤ 64) (hroom : s.dev.stageUsed fn + 64 * n ≤ s.dev.stageSize fn) :
    Answers (.descriptorFetch dt fn head) s (fun e => (e.sq fn r).outstanding = (s.dev.sq fn r).outstanding + n
      ∧ (e.sq fn r).fetch = (s.dev.sq fn r).fetch ∧ e.jobs = s.dev.jobs ∧ s.dev.OnlyIn e [.HIF_STAT] ∧ s.dev.SameMem e) := by
  have heq : execDescriptorFetch dt fn head s = s.act dt (fun d => d.askSlots fn r n) := by
    have hopen : ((s.dev.elapse dt).hostOpen fn && (s.dev.elapse dt).inService 35 && (s.dev.elapse dt).stageSize fn != 0) = true := by
      rw [Bool.and_eq_true, Bool.and_eq_true, bne_iff_ne]; exact ⟨⟨ho, hi⟩, hs⟩
    have ht' : (s.dev.elapse dt).ringTurn fn = some r := ht
    have hr' : (s.dev.elapse dt).rangeCause fn ((s.dev.elapse dt).sqBase fn r) (64 * (s.dev.elapse dt).sqSize fn r) true false = none := hr
    have hbig : ¬ (s.dev.elapse dt).sqSize fn r - 1 < n := Nat.not_lt.mpr (Nat.le_sub_one_of_lt hsize)
    have hshort : ¬ (s.dev.elapse dt).ringWork fn r < n := Nat.not_lt.mpr hwork
    have hlong : ¬ 64 < (if Tab.get 63 ((s.dev.elapse dt).fn fn).lastRing ((s.dev.elapse dt).get .HIF_SQ_CFG_PRIO fn r) = r
        then ((s.dev.elapse dt).fn fn).turn % 64 else 0) + n := by
      have hturn' : ((s.dev.elapse dt).fn fn).turn % 64 + n ≤ 64 := hturn
      split <;> omega
    have hfull : ¬ (s.dev.elapse dt).stageSize fn < (s.dev.elapse dt).stageUsed fn + 64 * n := Nat.not_lt.mpr hroom
    simp only [execDescriptorFetch, State.act, hopen, Dev.when_true, ht', hr', hn, if_neg hbig, if_neg hshort, if_neg hlong, if_neg hfull]
    rfl
  refine Answers.of_act heq ?_
  have hsq := (s.dev.elapse dt).sq_askSlots fn r n
  have hask : Frame 0x20000000000000000000000000000000403 s.dev ((s.dev.elapse dt).askSlots fn r n) :=
    ((Dev.elapse_frame ..).mono (by decide +kernel)).step' (Dev.askSlots_frame ..) (by decide +kernel)
  exact ⟨by rw [hsq]; rfl, by rw [hsq]; rfl, hask.jobs (by decide +kernel), hask.onlyIn (by decide +kernel), hask.sameMem⟩

/-! ### What the check at staging reads (R42, R93, R97, R104) -/

section Check
variable {d e : Dev} (hget : d.OnlyIn e [.WIN_MOVER_STAT])
include hget

theorem Dev.OnlyIn.flag (f : Fld) (i j : Nat) (h : f.reg ∉ [Reg.WIN_MOVER_STAT]) : e.flag f i j = d.flag f i j := by rw [Dev.flag, hget f i j h, Dev.flag]

theorem Dev.OnlyIn.hostRange (j : Job) : e.hostRange j = d.hostRange j := by
  have htim (t : Nat) : e.timing t = d.timing t := by
    unfold Dev.timing
    rw [Dev.OnlyIn.flag hget _ _ _ (by decide), Dev.OnlyIn.flag hget _ _ _ (by decide), hget _ _ _ (by decide), hget _ _ _ (by decide), hget _ _ _ (by decide),
      hget _ _ _ (by decide), hget _ _ _ (by decide), hget _ _ _ (by decide), hget _ _ _ (by decide), hget _ _ _ (by decide)]
  have hcols : e.grnCols = d.grnCols := by rw [Dev.grnCols, hget _ _ _ (by decide), Dev.grnCols]
  have hframe (t : Nat) : e.frameBytes t = d.frameBytes t := by
    rw [Dev.frameBytes, Dev.stride, htim, hget _ _ _ (by decide), Dev.frameBytes, Dev.stride]
  unfold Dev.hostRange
  simp only [hcols, hframe]

theorem Dev.OnlyIn.ownsTarget (hcal : e.cal = d.cal) (f t : Nat) : e.ownsTarget f t = d.ownsTarget f t := by
  have hcov (n : Nat) : e.coveredEngine n = d.coveredEngine n := by simp only [Dev.coveredEngine, Dev.cover, hcal]
  simp only [Dev.ownsTarget, hcov, Dev.ownsEngine, hget .WIN_OWN_ENG_LO_ENG _ _ (by decide), hget .WIN_OWN_ENG_HI_ENG _ _ (by decide),
    hget .WIN_OWN_IO_TILE _ _ (by decide), hget .WIN_OWN_IO_AXIS _ _ (by decide), hget .WIN_OWN_CTX_CTX _ _ (by decide)]

end Check

/-- The check reads registers and covers only. -/
theorem Frame.stageCheck {w : Nat} {d e : Dev} (h : Frame w d e) (j : Job) (hm : maskIn [.WIN_MOVER_STAT] w = true := by decide +kernel)
    (hx : maskOut windowFlds w = true := by decide +kernel) (hc : w.testBit 21 = false := by decide +kernel) : e.stageCheck j = d.stageCheck j := by
  have hget : d.OnlyIn e [.WIN_MOVER_STAT] := h.onlyIn hm
  have hown : e.notOwned j = d.notOwned j := by
    simp only [Dev.notOwned, Dev.OnlyIn.ownsTarget hget (h.cal hc), hget .TIM_IO_OWN_FUNC _ _ (by decide), hget .TIM_IO_OWN2_FUNC _ _ (by decide)]
  have hfrozen : e.frozen j.fn = d.frozen j.fn := Dev.OnlyIn.flag hget _ _ _ (by decide)
  have hsize : e.stageSize j.fn = d.stageSize j.fn := by rw [Dev.stageSize, hget _ _ _ (by decide), Dev.stageSize]
  unfold Dev.stageCheck
  rw [hown, Dev.OnlyIn.hostRange hget, hsize, hfrozen, hget _ _ _ (by decide)]
  simp only [h.rangeCause hx]

/-! ### Slots that arrive (R100) -/

/-- The descriptor of the slots that arrive next from a ring. -/
def Dev.slotJob (d : Dev) (f r : Nat) (words : List Gran) : Job :=
  { id := d.nextJob, fn := f, ring := r, slot := (d.sq f r).fetch, words := words, asked := d.run }

/-- That descriptor held, and the ring's fetch index past its one slot. -/
def Dev.stageJob (d : Dev) (f r : Nat) (words : List Gran) : Dev :=
  { d with jobs := d.jobs ++ [d.slotJob f r words], nextJob := d.nextJob + 1 }.setSq f r
    { d.sq f r with fetch := ((d.sq f r).fetch + 1) % d.sqSize f r, outstanding := (d.sq f r).outstanding - 1 }

theorem Dev.parseSlots_nil (d : Dev) (f r n : Nat) : d.parseSlots f r n [] = d := by cases n <;> rfl

/-- One slot's words make one descriptor. -/
theorem Dev.parseSlots_one {d : Dev} {f r n : Nat} {ws : List Gran} (hl : ws.length = 4) (hb : bitsOf (ws.headD 0#128).toNat 47 40 ≤ 3)
    (ho : 1 ≤ (d.sq f r).outstanding) : d.parseSlots f r (n + 1) ws = (d.stageJob f r ws).checkJob (d.slotJob f r ws) := by
  match ws, hl, hb with
  | h :: gs, hl, hb =>
    have hk : slotsFor (bitsOf h.toNat 47 40) = 1 := if_pos hb
    have htake : (h :: gs).take (4 * 1) = h :: gs := List.take_of_length_le (by omega)
    have hdrop : (h :: gs).drop (4 * 1) = [] := List.drop_of_length_le (by omega)
    simp only [Dev.parseSlots, hk, htake, hdrop, Dev.parseSlots_nil]
    rw [if_neg (by omega)]
    rfl

/-- A descriptor with a code of its own, or a lower one (R86). -/
def Job.withCode (c : Option Nat) (j : Job) : Job := { j with code := lowCode j.code c }

/-- A descriptor that violates nothing keeps the check's code. -/
theorem Dev.checkJob_code {d : Dev} {j : Job} (h : (d.stageCheck j).2 = none) :
    d.checkJob j = d.modJob j.id (Job.withCode (d.stageCheck j).1) := by
  simp only [Dev.checkJob, h]
  rfl

section Slots
variable {d : Dev} {f r : Nat} {ws : List Gran}

theorem Dev.stageJob_frame : Frame 0x700 d (d.stageJob f r ws) :=
  (Frame.jobs_nextJob_of (by decide) (by decide) .refl).step' (Dev.setSq_frame ..) (by decide +kernel)

theorem Dev.sq_stageJob : (d.stageJob f r ws).sq f r =
    { d.sq f r with fetch := ((d.sq f r).fetch + 1) % d.sqSize f r, outstanding := (d.sq f r).outstanding - 1 } := Dev.sq_setSq_self ..

theorem Dev.mayWrite_stageJob : (d.stageJob f r ws).mayWrite f = d.mayWrite f :=
  Dev.mayWrite_setFn (d := { d with jobs := d.jobs ++ [d.slotJob f r ws], nextJob := d.nextJob + 1 }) rfl

theorem Dev.held_stageJob : ((d.stageJob f r ws).fn f).held = (d.fn f).held := by
  rw [Dev.stageJob, Dev.setSq, Dev.fn_setFn_self]
  rfl

/-- The descriptor is among those held, with its code. -/
theorem Dev.mem_checkJob (c : Job → Job) : c (d.slotJob f r ws) ∈ ((d.stageJob f r ws).modJob (d.slotJob f r ws).id c).jobs := by
  refine List.mem_map.mpr ⟨d.slotJob f r ws, List.mem_append_right _ (List.mem_singleton.mpr rfl), ?_⟩
  rw [if_pos (beq_self_eq_true _)]

/-- The descriptor of the slots, checked, and the ring's index in the doorbell page. -/
def Dev.slotsIn (d : Dev) (f r : Nat) (ws : List Gran) : Dev :=
  (((d.stageJob f r ws).checkJob (d.slotJob f r ws)).dbPut f (0xc00 + 4 * r) ((((d.stageJob f r ws).checkJob (d.slotJob f r ws))).sq f r).fetch).showFlight f

/-- Slots of one descriptor that violates nothing. -/
theorem Dev.slotsIn_spec (hc : (d.stageCheck (d.slotJob f r ws)).2 = none) (hp : d.rangeCause f (d.dbBase f) 4096 true true = none)
    (hw : d.mayWrite f = true) (hh : (d.fn f).held = []) :
    (∃ c, { d.slotJob f r ws with code := c } ∈ (d.slotsIn f r ws).jobs) ∧ (d.slotsIn f r ws).nextJob = d.nextJob + 1
      ∧ (d.slotsIn f r ws).sq f r = { d.sq f r with fetch := ((d.sq f r).fetch + 1) % d.sqSize f r, outstanding := (d.sq f r).outstanding - 1 }
      ∧ d.OnlyIn (d.slotsIn f r ws) [.HIF_STAT]
      ∧ (d.slotsIn f r ws).host = d.host.writeList (d.dbBase f + (0xc00 + 4 * r)) (leBytes 4 (((d.sq f r).fetch + 1) % d.sqSize f r)) := by
  have hstage : Frame 0x700 d (d.stageJob f r ws) := Dev.stageJob_frame
  have hsame : (d.stageJob f r ws).stageCheck (d.slotJob f r ws) = d.stageCheck (d.slotJob f r ws) := hstage.stageCheck _
  have hcheck := Dev.checkJob_code (d := d.stageJob f r ws) (hsame ▸ hc)
  have hmod := (d.stageJob f r ws).modJob_frame (d.slotJob f r ws).id (Job.withCode ((d.stageJob f r ws).stageCheck (d.slotJob f r ws)).1)
  have hmem := Dev.mem_checkJob (d := d) (f := f) (r := r) (ws := ws) (Job.withCode ((d.stageJob f r ws).stageCheck (d.slotJob f r ws)).1)
  rw [← hcheck] at hmod hmem
  have hsq : ((d.stageJob f r ws).checkJob (d.slotJob f r ws)).sq f r = _ := (hmod.sq f r).trans Dev.sq_stageJob
  have hnext : ((d.stageJob f r ws).checkJob (d.slotJob f r ws)).nextJob = d.nextJob + 1 := hmod.nextJob (by decide)
  have hg : Frame 0x700 d ((d.stageJob f r ws).checkJob (d.slotJob f r ws)) := hstage.step' hmod (by decide +kernel)
  have hput := Dev.dbPut_writes ((hg.pageCause f).trans hp) ((hmod.mayWrite f).trans (Dev.mayWrite_stageJob.trans hw))
    ((congrArg HostFn.held (hmod.fn f)).trans (Dev.held_stageJob.trans hh))
  rw [Dev.slotsIn, hput, hsq, hg.dbBase f]
  generalize (d.stageJob f r ws).checkJob (d.slotJob f r ws) = g at hmem hsq hnext hg
  have hshow := (g.hostWrite f (d.dbBase f + (0xc00 + 4 * r)) (leBytes 4 (((d.sq f r).fetch + 1) % d.sqSize f r))).showFlight_frame f
  refine ⟨⟨_, (hshow.jobs (by decide +kernel)).symm ▸ hmem⟩, (hshow.nextJob (by decide +kernel)).trans hnext, (hshow.sq f r).trans hsq,
    (Dev.OnlyIn.trans (hg.onlyIn (by decide +kernel)) fun _ _ _ _ => rfl).trans (hshow.onlyIn (by decide +kernel)), ?_⟩
  rw [hshow.host (by decide +kernel), ← hg.host (by decide)]
  rfl

end Slots

/-- The slots of one descriptor, of a function that is not frozen. -/
theorem execSlotsStaged_eq {s : State} {dt : Nat} {fn : Fin 8} {r : Fin 64} {ws : List Gran} (hm : (s.dev.moverOf { fn := fn, ring := some r.val }).isSome = true)
    (hf : s.dev.frozen fn = false) (hl : ws.length = 4) (hb : bitsOf (ws.headD 0#128).toNat 47 40 ≤ 3) (ho : 1 ≤ (s.dev.sq fn r).outstanding) :
    execSlotsStaged dt fn r ws s = s.act dt (fun d => (d.freeMover { fn := fn, ring := some r.val }).slotsIn fn r ws) := by
  have hfree := (s.dev.elapse dt).freeMover_frame { fn := fn, ring := some r.val }
  have hm' : ((s.dev.elapse dt).moverOf { fn := fn, ring := some r.val }).isSome = true := hm
  have hfrozen : ((s.dev.elapse dt).freeMover { fn := fn, ring := some r.val }).frozen fn = false := by
    rw [Dev.frozen, Dev.flag, hfree.get _ _ _ (by decide +kernel)]; exact hf
  have hout : 1 ≤ (((s.dev.elapse dt).freeMover { fn := fn, ring := some r.val }).sq fn r).outstanding := by rw [hfree.sq]; exact ho
  simp only [execSlotsStaged, State.act, hm', Dev.when_true, hfrozen, Bool.false_eq_true, if_false, Dev.parseSlots_one hl hb hout]
  rfl

/-- The slots of one descriptor that violates nothing. -/
theorem execSlotsStaged_stages {s : State} {dt : Nat} {fn : Fin 8} {r : Fin 64} {ws : List Gran} (hm : (s.dev.moverOf { fn := fn, ring := some r.val }).isSome = true)
    (hf : s.dev.frozen fn = false) (hl : ws.length = 4) (hb : bitsOf (ws.headD 0#128).toNat 47 40 ≤ 3) (ho : 1 ≤ (s.dev.sq fn r).outstanding)
    (hc : (s.dev.stageCheck { id := s.dev.nextJob, fn := fn, ring := r, slot := (s.dev.sq fn r).fetch, words := ws, asked := (s.dev.elapse dt).run }).2 = none)
    (hp : s.dev.rangeCause fn (s.dev.dbBase fn) 4096 true true = none) (hw : s.dev.mayWrite fn = true) (hh : (s.dev.fn fn).held = []) :
    Answers (.slotsStaged dt fn r ws) s (fun e =>
      (∃ j ∈ e.jobs, j.id = s.dev.nextJob ∧ j.fn = fn ∧ j.ring = r ∧ j.slot = (s.dev.sq fn r).fetch ∧ j.words = ws ∧ j.status = .staged)
        ∧ e.nextJob = s.dev.nextJob + 1 ∧ (e.sq fn r).fetch = ((s.dev.sq fn r).fetch + 1) % s.dev.sqSize fn r
        ∧ (e.sq fn r).outstanding = (s.dev.sq fn r).outstanding - 1 ∧ s.dev.OnlyIn e [.WIN_MOVER_STAT, .HIF_STAT]
        ∧ e.host.Wrote s.dev.host (s.dev.dbBase fn + (0xc00 + 4 * r)) (leBytes 4 (((s.dev.sq fn r).fetch + 1) % s.dev.sqSize fn r))) := by
  refine Answers.of_act (execSlotsStaged_eq hm hf hl hb ho) ?_
  have hfree : Frame 0x1000000000000000000000000000000000000000000803 s.dev ((s.dev.elapse dt).freeMover { fn := fn, ring := some r.val }) :=
    ((Dev.elapse_frame ..).mono (by decide +kernel)).step' (Dev.freeMover_frame ..) (by decide +kernel)
  have hrun : ((s.dev.elapse dt).freeMover { fn := fn, ring := some r.val }).run = (s.dev.elapse dt).run := ((s.dev.elapse dt).freeMover_frame _).run (by decide +kernel)
  generalize (s.dev.elapse dt).freeMover { fn := fn, ring := some r.val } = g at hfree hrun
  have hsq := hfree.sq fn r
  have hsize : g.sqSize fn r = s.dev.sqSize fn r := by rw [Dev.sqSize, hfree.get _ _ _ (by decide +kernel), Dev.sqSize]
  have hjob : g.slotJob fn r ws = { id := s.dev.nextJob, fn := fn, ring := r, slot := (s.dev.sq fn r).fetch, words := ws, asked := (s.dev.elapse dt).run } := by
    rw [Dev.slotJob, hsq, hrun, hfree.nextJob (by decide)]
  obtain ⟨⟨c, hmem⟩, hnext, hring, hin, hhost⟩ := Dev.slotsIn_spec (d := g) (f := fn) (r := r) (ws := ws)
    (by rw [hfree.stageCheck, hjob, hc]) ((hfree.pageCause fn).trans hp) ((hfree.mayWrite fn).trans hw)
    (by rw [hfree.fn, hh])
  rw [hsq, hsize] at hring hhost
  rw [hfree.host (by decide +kernel), hfree.dbBase fn] at hhost
  rw [hfree.nextJob (by decide +kernel)] at hnext
  rw [hjob] at hmem
  refine ⟨⟨_, hmem, rfl, rfl, rfl, rfl, rfl, rfl⟩, hnext, by rw [hring], by rw [hring], ?_, ?_⟩
  · exact (hfree.onlyIn (by decide +kernel)).trans fun f i j hf => hin f i j fun hm => hf (List.mem_cons_of_mem _ hm)
  · rw [hhost]
    exact Bytes.wrote_writeList _ _ _

/-! ### Pointed data, dispatch and taking (R76 to R78, R84, R100) -/

theorem Dev.job_modJob {d : Dev} {k : Nat} {j : Job} {g : Job → Job} (h : d.job k = some j) (hg : ∀ x, (g x).id = x.id) :
    (d.modJob k g).job k = some (g j) := by
  have hid : (fun x : Job => x.id == k) ∘ (fun x => if x.id == k then g x else x) = fun x => x.id == k := by
    funext x
    simp only [Function.comp]
    split
    · rw [hg]
    · rfl
  have hfind : d.jobs.find? (fun x => x.id == k) = some j := h
  rw [Dev.job, Dev.modJob, List.find?_map, hid, hfind, Option.map_some, if_pos (by rw [Dev.job_id h, beq_self_eq_true])]

@[simp] theorem lowCode_none_right (a : Option Nat) : lowCode a none = a := by cases a <;> rfl

/-- Pointed data of a descriptor that is no block of records. -/
theorem execPayloadStaged_stages {s : State} {dt job : Nat} {data : List Gran} {j : Job} (hj : s.dev.job job = some j)
    (hm : (s.dev.moverOf { fn := j.fn, job := j.id }).isSome = true) (hn : ceilDiv (((s.dev.hostRange j).map (·.2.1)).getD 0) 16 = data.length)
    (hop : j.opcode ≠ 0x30) :
    Answers (.payloadStaged dt job data) s (fun e => e.job job = some { j with data := some data } ∧ s.dev.OnlyIn e [.WIN_MOVER_STAT]
      ∧ s.dev.SameMem e) := by
  refine Answers.of_framed (show _ = execPayloadStaged dt job data s from rfl) (execPayloadStaged_frame dt job data s) fun hmem => ?_
  refine ⟨?_, hmem.onlyIn (by decide +kernel), hmem.sameMem⟩
  have hj' : (s.dev.elapse dt).job job = some j := hj
  have hm' : ((s.dev.elapse dt).moverOf { fn := j.fn, job := j.id }).isSome = true := hm
  have hn' : ceilDiv ((((s.dev.elapse dt).hostRange j).map (·.2.1)).getD 0) 16 = data.length := hn
  simp only [hj', hm', hn', le_refl, decide_true, Bool.and_self, Dev.when_true, List.take_length, if_neg hop, lowCode_none_right]
  have hfree := (s.dev.elapse dt).freeMover_frame { fn := j.fn, job := j.id }
  have hj'' : ((s.dev.elapse dt).freeMover { fn := j.fn, job := j.id }).job job = some j := by rw [Dev.job, hfree.jobs (by decide +kernel)]; exact hj
  exact Dev.job_modJob hj'' fun _ => rfl

/-- A staged descriptor at its dispatch: its place in HOST taken, or completed with its code. -/
def Dev.dispatch (d : Dev) (job : Nat) (j : Job) : Dev :=
  match j.code with
  | some c => d.complete job c
  | none => (d.takePlace j.fn).modJob job (fun x => { x with status := .dispatched })

/-- A staged descriptor that nothing before it on its ring, nor data still to come, holds up. -/
theorem execDescriptorDispatch_eq {s : State} {dt job : Nat} {j : Job} (hj : s.dev.job job = some j) (hst : j.status = .staged)
    (hop : j.opcode ≠ 0x20) (hfe : j.fence = false) (hf : s.dev.frozen j.fn = false)
    (hb : ∀ x ∈ s.dev.jobs, x.fn = j.fn → x.ring = j.ring → x.id < j.id → x.status ≠ .staged) (hd : s.dev.wantsData j = false ∨ j.opcode = 0x50)
    (hu : s.dev.get .HIF_STAT_HOSTQ_USED j.fn < 4096) : execDescriptorDispatch dt job s = s.act dt (fun d => d.dispatch job j) := by
  have hj' : (s.dev.elapse dt).job job = some j := hj
  have hf' : (s.dev.elapse dt).frozen j.fn = false := hf
  have hbefore : (s.dev.elapse dt).jobs.any (fun x => x.fn == j.fn && x.ring == j.ring && decide (x.id < j.id) && x.status == .staged) = false := by
    simp only [List.any_eq_false, Bool.and_eq_true, beq_iff_eq, decide_eq_true_iff]
    exact fun x hx ⟨⟨⟨hfn, hring⟩, hid⟩, hs⟩ => hb x hx hfn hring hid hs
  have hdata : ((s.dev.elapse dt).wantsData j && j.opcode != 0x50) = false := by
    rcases hd with hd | hd
    · have hd' : (s.dev.elapse dt).wantsData j = false := hd
      rw [hd', Bool.false_and]
    · rw [hd]; exact Bool.and_false _
  have hu' : decide ((s.dev.elapse dt).get .HIF_STAT_HOSTQ_USED j.fn < 4096) = true := decide_eq_true hu
  simp only [execDescriptorDispatch, State.act, hj', hst, hf', hbefore, hdata, hfe, hu', Bool.false_and, Bool.or_self, beq_self_eq_true, Bool.not_false,
    Bool.and_self, Dev.when_true, if_neg hop, lowCode_none_right]
  rfl

/-- A descriptor without an error, dispatched with its place in HOST. -/
theorem execDescriptorDispatch_dispatches {s : State} {dt job : Nat} {j : Job} (hj : s.dev.job job = some j) (hst : j.status = .staged)
    (hc : j.code = none) (hop : j.opcode ≠ 0x20) (hfe : j.fence = false) (hf : s.dev.frozen j.fn = false)
    (hb : ∀ x ∈ s.dev.jobs, x.fn = j.fn → x.ring = j.ring → x.id < j.id → x.status ≠ .staged) (hd : s.dev.wantsData j = false ∨ j.opcode = 0x50)
    (hu : s.dev.get .HIF_STAT_HOSTQ_USED j.fn < 4096) :
    Answers (.descriptorDispatch dt job) s (fun e => e.job job = some { j with status := .dispatched }
      ∧ e.get .HIF_STAT_HOSTQ_USED j.fn = s.dev.get .HIF_STAT_HOSTQ_USED j.fn + 1 ∧ s.dev.OnlyAt e [(.HIF_STAT_HOSTQ_USED, j.fn, 0)]
      ∧ s.dev.SameMem e) := by
  refine Answers.of_framed (execDescriptorDispatch_eq hj hst hop hfe hf hb hd hu) (execDescriptorDispatch_frame dt job s) fun hmem => ?_
  have hdis : (s.dev.elapse dt).dispatch job j = ((s.dev.elapse dt).takePlace j.fn).modJob job (fun x => { x with status := .dispatched }) := by
    rw [Dev.dispatch, hc]
  have hused : s.dev.get .HIF_STAT_HOSTQ_USED j.fn + 1 < 2 ^ Fld.width .HIF_STAT_HOSTQ_USED := lt_of_le_of_lt hu (by decide +kernel)
  rw [hdis] at hmem ⊢
  refine ⟨Dev.job_modJob (d := (s.dev.elapse dt).takePlace j.fn) hj fun _ => rfl, ?_, .of_regs (.put Dev.elapse_onlyAt (by simp)) rfl, hmem.sameMem⟩
  show ((s.dev.elapse dt).takePlace j.fn).get _ _ = _
  rw [Dev.takePlace, Dev.get_elapse, Nat.min_eq_left hu, Dev.get_put_of_lt hused]

/-- A descriptor with a code completes with it, and an entry of its own. -/
theorem Dev.finishJob_coded {d : Dev} {j : Job} {c : Nat} (h : d.job j.id = some j) (hc : j.code = some c) (h0 : c ≠ 0) (hr : j.replay = false)
    (ho : j.orphan = false) (hk : d.replayKept j = false) (time : Nat) : (d.finishJob j.id c time).Done j c := by
  have hcode : (lowCode j.code (if c = 0 then none else some c)).getD 0 = c := by rw [hc, if_neg h0]; exact Nat.min_self c
  obtain ⟨g, hg⟩ : ∃ g : Dev, d.finishJob j.id c time =
      (((g.setFn j.fn { g.fn j.fn with waiting := insertEntry (g.entryOf j c time) (g.fn j.fn).waiting }).showHoldCq j.fn).dropJob j.id).showFlight j.fn := by
    refine ⟨if j.status = .staged then d.takePlace j.fn else d, ?_⟩
    simp only [Dev.finishJob, h, hcode, hr, ho, hk, Bool.false_eq_true, if_false]
    rw [if_neg fun hs => h0 hs.1]
  rw [hg]
  refine ⟨Dev.dropJob_gone _ _, g.entryOf j c time, ?_, rfl, rfl, rfl, rfl, rfl, rfl⟩
  rw [Dev.fn_showFlight, Dev.fn_dropJob, Dev.fn_showHoldCq, Dev.fn_setFn_self]
  exact (mem_insertEntry ..).mpr (.inl rfl)

theorem execDescriptorDispatch_completes {s : State} {dt job c : Nat} {j : Job} (hj : s.dev.job job = some j) (hst : j.status = .staged)
    (hc : j.code = some c) (h0 : c ≠ 0) (hop : j.opcode ≠ 0x20) (hfe : j.fence = false) (hf : s.dev.frozen j.fn = false)
    (hb : ∀ x ∈ s.dev.jobs, x.fn = j.fn → x.ring = j.ring → x.id < j.id → x.status ≠ .staged)
    (hu : s.dev.get .HIF_STAT_HOSTQ_USED j.fn < 4096) (hr : j.replay = false) (ho : j.orphan = false) (hk : s.dev.replayKept j = false) :
    Answers (.descriptorDispatch dt job) s (fun e => e.Done j c ∧ s.dev.SameMem e) := by
  have hd : s.dev.wantsData j = false := by rw [Dev.wantsData, hc, Option.isNone_some, Bool.and_false, Bool.false_and, Bool.false_and]
  refine Answers.of_framed (execDescriptorDispatch_eq hj hst hop hfe hf hb (.inl hd) hu) (execDescriptorDispatch_frame dt job s) fun hmem => ⟨?_, hmem.sameMem⟩
  obtain rfl := Dev.job_id hj
  have hdis : (s.dev.elapse dt).dispatch j.id j = ((s.dev.elapse dt).finishJob j.id c (s.dev.elapse dt).now).settleMarks (s.dev.elapse dt).now := by
    rw [Dev.dispatch, hc]
    rfl
  rw [hdis]
  exact (Dev.finishJob_coded (d := s.dev.elapse dt) hj hc h0 hr ho hk _).settle _

/-- A dispatched descriptor whose turn has come and that its target accepts. -/
theorem execDescriptorTake_takes {s : State} {dt job : Nat} {j : Job} (hj : s.dev.job job = some j) (hst : j.status = .dispatched)
    (hf : s.dev.frozen j.fn = false) (hb : s.dev.heldBack j = false) (hs : j.schedule = 0) (hn : (s.dev.elapse dt).notYet j = false)
    (hc : (s.dev.elapse dt).resourceCode j = none) :
    Answers (.descriptorTake dt job) s (fun e => e.job job = some { j with status := .taken } ∧ s.dev.OnlyAt e [] ∧ s.dev.SameMem e) := by
  have heq : execDescriptorTake dt job s = s.act dt (fun d => d.modJob job (fun x => { x with status := .taken })) := by
    have hj' : (s.dev.elapse dt).job job = some j := hj
    have hf' : (s.dev.elapse dt).frozen j.fn = false := hf
    have hb' : (s.dev.elapse dt).heldBack j = false := hb
    have hlate : (s.dev.elapse dt).lateCode j = none := if_pos hs
    simp only [execDescriptorTake, State.act, hj', hst, hf', hb', hn, beq_self_eq_true, Bool.not_false, Bool.and_self, Dev.when_true, hlate, hc,
      ite_self, lowCode_none_right]
  refine Answers.of_framed heq (execDescriptorTake_frame dt job s) fun hmem => ⟨?_, fun _ _ _ _ => rfl, hmem.sameMem⟩
  exact Dev.job_modJob (d := s.dev.elapse dt) hj fun _ => rfl

/-- Settles O15: slots asked for and arrived, pointed data arrived, a dispatch with and without an error, and a descriptor taken. -/
theorem descriptorsComeIn : Obligations.DescriptorsComeIn :=
  ⟨fun _ _ _ _ _ ho hi hs ht hr hsize hwork hturn hroom => execDescriptorFetch_asks rfl ho hi hs ht hr hsize hwork hturn hroom,
   fun _ _ _ _ _ hm hf hl hb ho hc hp hw hh => execSlotsStaged_stages hm hf hl hb ho hc hp hw hh,
   fun _ _ _ _ _ hj hm hn hop => execPayloadStaged_stages hj hm hn hop,
   fun _ _ _ _ hj hst hc hop hfe hf hb hd hu => execDescriptorDispatch_dispatches hj hst hc hop hfe hf hb hd hu,
   fun _ _ _ _ _ hj hst hc h0 hop hfe hf hb hu hr ho hk => execDescriptorDispatch_completes hj hst hc h0 hop hfe hf hb hu hr ho hk,
   fun _ _ _ _ hj hst hf hb hs hn hc => execDescriptorTake_takes hj hst hf hb hs hn hc⟩

end Sys2Proof.Machine
end

section
/-! Owners apart (O6, O8): after reset, and under every step. -/

set_option Elab.async false
namespace Sys2Proof.Machine
open Sys2Proof

/-! ### Which changes keep the owners apart -/

/-- The mask that names every part and register field but the ownership fields of R92. -/
def ownFree : Nat := 2 ^ 833 - 1 - 31 * 2 ^ 150

theorem ownFree_own {F : Fld} (h : F ∈ ownFields) : ownFree.testBit (64 + F.ctorIdx) = false := by
  have h' := List.all_eq_true.mp (show ownFields.all (fun F => !ownFree.testBit (64 + F.ctorIdx)) = true by decide +kernel) F h
  simpa using h'

/-- What leaves the ownership fields leaves the owners apart. -/
theorem Frame.ownedOnce {d e : Dev} (h : Frame ownFree d e) (k : d.ownedOnce) : e.ownedOnce := by
  intro F hF f g n hf hg hfn hgn
  rw [h.get F _ _ (ownFree_own hF)] at hfn hgn
  exact k F hF f g n hf hg hfn hgn

/-- With every register at its reset value only function 0 owns anything. -/
theorem Dev.ownedOnce_of_regs {d : Dev} (h : d.regs = []) : d.ownedOnce := by
  have h0 : ∀ F ∈ ownFields, ∀ f : Fin 8, f ≠ 0 → cellsGet [] F f 0 = 0 := by decide +kernel
  have one : ∀ F ∈ ownFields, ∀ f < 8, ∀ n, hasBit (d.get F f) n = true → f = 0 := by
    intro F hF f hf n hb
    by_contra hne
    rw [Dev.get, h, h0 F hF ⟨f, hf⟩ (by simpa [Fin.ext_iff] using hne)] at hb
    simp [hasBit] at hb
  intro F hF f g n hf hg hfn hgn
  rw [one F hF f hf n hfn, one F hF g hg n hgn]

/-- Settles O6: every field reads as it is reset, and the targets of each kind are few. -/
theorem resetOwners : Obligations.ResetOwners := by
  have owner : ∀ t : Fin 0x80, t.val ≤ 0x21 ∨ (0x40 ≤ t.val ∧ t.val ≤ 0x4f) ∨ (0x50 ≤ t.val ∧ t.val ≤ 0x57) ∨ (0x60 ≤ t.val ∧ t.val ≤ 0x6f) →
      State.reset.dev.ownerOf t = some 0 := by decide +kernel
  have none : ∀ f : Fin 8, ∀ t : Fin 0x80, f ≠ 0 → State.reset.dev.ownsTarget f t = false := by decide +kernel
  refine ⟨Dev.ownedOnce_of_regs rfl, fun t ht => owner ⟨t, by omega⟩ ht, fun f t h1 h8 ht => ?_⟩
  exact none ⟨f, h8⟩ ⟨t, ht⟩ (by simp [Fin.ext_iff]; omega)
/-! ### Set-up registers (R92, R95, R99, R455) -/

def ownRegs : List Reg := [.WIN_OWN_ENG_LO, .WIN_OWN_ENG_HI, .WIN_OWN_IO, .WIN_OWN_CTX]

/-- The registers that set functions up, beside the windows' bases. -/
def setupRegs : List Reg := ownRegs ++ [.WIN_CFG, .WIN_STAGE]

/-- Their fields are locked ones, each named once. -/
theorem setupRegs_locked : ∀ r ∈ setupRegs, r.fields.Nodup
    ∧ ∀ f ∈ r.fields, f.acc = .rwl ∧ f ≠ .SYS_LOCK_LOCK ∧ f ≠ .WIN_GRANT_CFG_CLASS ∧ f ≠ .CAM_CTX_CCM_C_HI := by decide +kernel

theorem ownReg_mem (k : Nat) : ownReg k ∈ ownRegs := by
  unfold ownReg
  split_ifs <;> decide

theorem ownReg_setup (k : Nat) : ownReg k ∈ setupRegs := List.mem_append_left _ (ownReg_mem k)

/-- A refused write of a set-up register sets WIN_STAT.CFG_REJ. -/
theorem Dev.reject_setup {r : Reg} (hr : r ∈ setupRegs) (d : Dev) (i : Nat) : d.reject r i = d.raise .WIN_STAT_CFG_REJ := by
  have h : r.rejFlag i = some (.WIN_STAT_CFG_REJ, 0) := by
    simp only [setupRegs, ownRegs, List.cons_append, List.nil_append, List.mem_cons, List.not_mem_nil, or_false] at hr
    rcases hr with rfl | rfl | rfl | rfl | rfl | rfl <;> rfl
  rw [Dev.reject, h]

/-- Under the lock a write leaves a set-up register as it is. -/
theorem Dev.writeReg_locked {d : Dev} {r : Reg} (hr : r ∈ setupRegs) (hl : d.locked = true) (i j value : Nat) :
    d.writeReg r i j value = d :=
  List.foldlRecOn (motive := fun e => e = d) _ _ rfl fun e he f hf => by
    simp [he, Dev.writeField, ((setupRegs_locked r hr).2 f hf).1, hl]

/-- With the lock clear a set-up register takes values in range. -/
theorem Dev.writeReg_unlocked {d : Dev} {r : Reg} {i j value : Nat} (hr : r ∈ setupRegs) (hl : d.locked = false)
    (hv : ∀ f ∈ r.fields, f.inRange (f.of value) = true) :
    d.writeReg r i j value = r.fields.foldl (fun d f => d.put f (f.of value) i j) d := by
  have hf := (setupRegs_locked r hr).2
  unfold Dev.writeReg
  generalize r.fields = fs at hf hv
  induction fs generalizing d with
  | nil => rfl
  | cons f fs ih =>
    obtain ⟨⟨hacc, hlock, hclass, hccm⟩, hf⟩ := List.forall_mem_cons.mp hf
    obtain ⟨hvf, hv⟩ := List.forall_mem_cons.mp hv
    have hput : d.writeField f value i j = d.put f (f.of value) i j := by simp [Dev.writeField, hacc, hl, Fld.keeps, hclass, hccm, hvf]
    rw [List.foldl_cons, List.foldl_cons, hput]
    exact ih (by rw [Dev.locked, Dev.flag, Dev.get_put_ne _ _ _ _ _ _ _ _ (Ne.symm hlock)]; exact hl) hf hv

/-! ### The ownership registers (R92) -/

/-- An ownership register takes any value: its fields are ownership fields, and none has a range. -/
theorem ownReg_fields (k : Nat) : (∀ f ∈ (ownReg k).fields, f ∈ ownFields ∧ ∀ v, f.inRange v = true) := by
  have h : ∀ r ∈ ownRegs, ∀ f ∈ r.fields, f ∈ ownFields ∧ f.range = none := by decide +kernel
  intro f hf
  obtain ⟨hown, hrange⟩ := h (ownReg k) (ownReg_mem k) f hf
  exact ⟨hown, fun v => by rw [Fld.inRange, hrange]⟩

/-- A mask that shares no bit with the other functions' keeps the owners apart. -/
theorem Dev.ownedOnce.put {d : Dev} (h : d.ownedOnce) {F : Fld} {v i : Nat} (hv : ∀ g < 8, g ≠ i → Nat.land v (d.get F g) = 0) :
    (d.put F v i).ownedOnce := by
  have apart : ∀ g < 8, g ≠ i → ∀ n, hasBit (v % 2 ^ F.width) n = true → hasBit (d.get F g) n = true → False := by
    intro g hg hgi n hn hgn
    have hz : (v &&& d.get F g).testBit n = false := by rw [show v &&& d.get F g = 0 from hv g hg hgi, Nat.zero_testBit]
    rw [hasBit_eq_testBit, Nat.testBit_mod_two_pow, Bool.and_eq_true] at hn
    rw [hasBit_eq_testBit] at hgn
    simp [Nat.testBit_and, hn.2, hgn] at hz
  intro G hG f g n hf hg hfn hgn
  by_cases hGF : G = F
  · subst hGF
    by_cases hfi : f = i <;> by_cases hgi : g = i
    · rw [hfi, hgi]
    · subst hfi
      rw [Dev.get_put_self] at hfn
      rw [Dev.get_put_inst hgi] at hgn
      exact (apart g hg hgi n hfn hgn).elim
    · subst hgi
      rw [Dev.get_put_self] at hgn
      rw [Dev.get_put_inst hfi] at hfn
      exact (apart f hf hfi n hgn hfn).elim
    · rw [Dev.get_put_inst hfi] at hfn
      rw [Dev.get_put_inst hgi] at hgn
      exact h G hG f g n hf hg hfn hgn
  · rw [Dev.get_put_ne _ _ _ _ _ _ _ _ hGF] at hfn hgn
    exact h G hG f g n hf hg hfn hgn

theorem Dev.ownedOnce.foldl_put {fs : List Fld} (hn : fs.Nodup) {d : Dev} (h : d.ownedOnce) {value i : Nat}
    (hv : ∀ F ∈ fs, ∀ g < 8, g ≠ i → Nat.land (F.of value) (d.get F g) = 0) :
    (fs.foldl (fun d F => d.put F (F.of value) i) d).ownedOnce := by
  induction fs generalizing d with
  | nil => exact h
  | cons F fs ih =>
    obtain ⟨hF, hn⟩ := List.nodup_cons.mp hn
    obtain ⟨hvF, hv⟩ := List.forall_mem_cons.mp hv
    refine ih hn (h.put hvF) fun G hG g hg hgi => ?_
    rw [Dev.get_put_ne _ _ _ _ _ _ _ _ (by rintro rfl; exact hF hG)]
    exact hv G hG g hg hgi

/-- What a clash is. -/
theorem Dev.ownClash_iff {d : Dev} {f k value : Nat} :
    d.ownClash f k value = true ↔ ∃ x ∈ (ownReg k).fields, ∃ g < 8, g ≠ f ∧ Nat.land (x.of value) (d.get x g) ≠ 0 := by
  have hown : (ownReg k).fields.filter (fun x => ownFields.contains x) = (ownReg k).fields :=
    List.filter_eq_self.mpr fun x hx => by simpa using ((ownReg_fields k) x hx).1
  rw [Dev.ownClash, hown]
  simp

theorem Dev.ownClash_false {d : Dev} {f k value : Nat} :
    d.ownClash f k value = false ↔ ∀ x ∈ (ownReg k).fields, ∀ g < 8, g ≠ f → Nat.land (x.of value) (d.get x g) = 0 := by
  rw [← Bool.not_eq_true, Dev.ownClash_iff]
  push Not
  rfl

/-- A write of an ownership register keeps the owners apart: what would give a resource to a second function is refused. -/
theorem Dev.ownedOnce.writeOwn {d : Dev} (h : d.ownedOnce) (fn f k value : Nat) : (d.writeOwn fn f k value).ownedOnce := by
  unfold Dev.writeOwn
  dsimp only
  split
  · rw [Dev.reject_setup (ownReg_setup k)]
    exact Frame.ownedOnce ((Dev.raise_frame ..).mono (by decide +kernel)) h
  · rename_i hc
    have hw : (d.writeReg (ownReg k) f 0 value).ownedOnce := by
      cases hl : d.locked
      · rw [Dev.writeReg_unlocked (ownReg_setup k) hl fun x hx => (ownReg_fields k x hx).2 _]
        exact h.foldl_put (setupRegs_locked _ (ownReg_setup k)).1 (Dev.ownClash_false.mp (by simpa using hc))
      · rw [Dev.writeReg_locked (ownReg_setup k) hl]
        exact h
    unfold Dev.lockChecked
    split
    · exact Frame.ownedOnce ((Dev.freezeFn_frame ..).mono (by decide +kernel)) hw
    · exact hw

/-! ### Writes of other registers -/

theorem Reg.rejFlag_own {r : Reg} {x : Fld × Nat} (h : r.rejFlag 0 = some x) : x.1 ∉ ownFields := by
  have hall : (r.rejFlag 0).all (fun x => !ownFields.contains x.1) = true := by
    simp [Reg.rejFlag, apply_ite (Option.all _), ownFields]
  simpa [h] using hall

/-- The fields that a write of any other register sets, and the flag of its refusal, are not of ownership. -/
theorem Reg.mask_ownFree {r : Reg} (hr : r ∉ ownRegs) : Within r.mask ownFree := by
  have hcov : Fld.covers (fun f => !ownFields.contains f) ownFree = true := by decide +kernel
  have hreg : ∀ f ∈ ownFields, f.reg ∈ ownRegs := by decide +kernel
  refine Within.foldl ?_ fun f hf => Fld.within hcov f ?_
  · cases h : r.rejFlag 0 with
    | none => simp only [Option.elim, Within, Nat.zero_or]
    | some x => exact Fld.within hcov x.1 (by simpa using Reg.rejFlag_own h)
  · have hf' : f ∉ ownFields := fun hown => hr (r.fields_reg f hf ▸ hreg f hown)
    simpa using hf'

section
variable {d : Dev} {fn i j value : Nat} {r : Reg}

theorem Dev.writeFields_ownFree (hr : r ∉ ownRegs) : Frame ownFree d (d.writeFields r i j value) :=
  (Dev.writeFields_frame ..).mono (Reg.mask_ownFree hr)

theorem Dev.reject_ownFree (hr : r ∉ ownRegs) : Frame ownFree d (d.reject r i) := (Dev.reject_frame ..).mono (Reg.mask_ownFree hr)

theorem Dev.storePlain_ownFree (hr : r ∉ ownRegs) : Frame ownFree d (d.storePlain fn r i j value) := by
  have hw := Dev.writeFields_ownFree (d := d) (i := i) (j := j) (value := value) hr
  have hrej := Dev.reject_ownFree (d := d) (i := i) hr
  unfold Dev.storePlain
  split
  · exact .refl
  split
  · exact .ite hrej hw
  split
  · exact .ite hrej hw
  split
  · exact hw.step' (Dev.restLatch_frame ..) (by decide +kernel)
  split
  · exact (Dev.writeCal_frame ..).mono (.or (by decide +kernel) (Reg.mask_ownFree hr))
  · exact .lockChecked (by decide +kernel) (fun _ h => h.trans (Dev.writeFields_ownFree hr)) .refl

theorem Dev.storeSite_ownFree (hr : r ∉ ownRegs) : Frame ownFree d (d.storeSite fn r i j value) := by
  have hw := Dev.writeFields_ownFree (d := d) (i := i) (j := j) (value := value) hr
  unfold Dev.storeSite
  split
  · exact (Dev.writeInline_frame ..).mono (by decide +kernel)
  · exact hw.step' (Dev.settlePorts_frame ..) (by decide +kernel)
  · exact .ite (Dev.reject_ownFree hr) hw
  · exact hw.step' (Dev.selectMaster_frame ..) (by decide +kernel)
  · exact hw.step' (Dev.selectMaster_frame ..) (by decide +kernel)
  · exact (Dev.writeFabCfg_frame ..).mono (by decide +kernel)
  · exact (Dev.writePortCfg_frame ..).mono (by decide +kernel)
  · exact (Dev.writeHngCfg_frame ..).mono (by decide +kernel)
  · exact (Dev.writeTemp_frame ..).mono (by decide +kernel)
  · exact .ite hw .refl
  · exact hw.step' (Dev.showFetch_frame ..) (by decide +kernel)
  · exact Dev.storePlain_ownFree hr

theorem Dev.storeWork_ownFree (hr : r ∉ ownRegs) : Frame ownFree d (d.storeWork fn r i j value) := by
  have hw := Dev.writeFields_ownFree (d := d) (i := i) (j := j) (value := value) hr
  have hrest : Frame ownFree d ((d.writeFields r i j value).restLatch i) := hw.step' (Dev.restLatch_frame ..) (by decide +kernel)
  unfold Dev.storeWork
  split
  · exact .ite (hrest.step' (Dev.clearIntegrators_frame ..) (by decide +kernel)) hrest
  · exact (Dev.writeGeom_frame ..).mono (.or (by decide +kernel) (Reg.mask_ownFree hr))
  · exact (Dev.writeGeom_frame ..).mono (.or (by decide +kernel) (Reg.mask_ownFree hr))
  · exact (Dev.writeGeom_frame ..).mono (.or (by decide +kernel) (Reg.mask_ownFree hr))
  · exact hw.grain_of (by decide +kernel)
  · exact (Dev.writeGrnStep_frame ..).mono (by decide +kernel)
  · exact .ite (Dev.reject_ownFree hr) hw
  · exact .ite ((Dev.clearStops_frame ..).mono (by decide +kernel)) .refl
  · exact (Dev.writeAxCfg_frame ..).mono (by decide +kernel)
  · exact (Dev.writeLimit_frame ..).mono (.or (by decide +kernel) (Reg.mask_ownFree hr))
  · exact (Dev.writeLimit_frame ..).mono (.or (by decide +kernel) (Reg.mask_ownFree hr))
  · exact (Dev.writeLimit_frame ..).mono (.or (by decide +kernel) (Reg.mask_ownFree hr))
  · exact (Dev.writeLimit_frame ..).mono (.or (by decide +kernel) (Reg.mask_ownFree hr))
  · exact .ite (Dev.reject_ownFree hr) hw
  · exact .ite (Dev.reject_ownFree hr) hw
  · exact (Dev.writeEncCfg_frame ..).mono (by decide +kernel)
  · exact Dev.storeSite_ownFree hr

end

/-- A write of one register keeps the owners apart. -/
theorem Dev.ownedOnce.storeReg {d : Dev} (h : d.ownedOnce) (fn : Nat) (r : Reg) (i j value : Nat) : (d.storeReg fn r i j value).ownedOnce := by
  by_cases hr : r ∈ ownRegs
  · simp only [ownRegs, List.mem_cons, List.not_mem_nil, or_false] at hr
    rcases hr with rfl | rfl | rfl | rfl
    · exact h.writeOwn fn i 0 value
    · exact h.writeOwn fn i 1 value
    · exact h.writeOwn fn i 2 value
    · exact h.writeOwn fn i 3 value
  · refine Frame.ownedOnce ?_ h
    unfold Dev.storeReg
    split
    · exact .ite ((Dev.setLock_frame ..).mono (by decide +kernel)) .refl
    · exact (Dev.requestClock_frame ..).mono (by decide +kernel)
    · exact (Dev.writeRingBase_frame ..).mono (Reg.mask_ownFree hr)
    · exact (Dev.writeRingBase_frame ..).mono (Reg.mask_ownFree hr)
    · exact (Dev.writeRingBase_frame ..).mono (Reg.mask_ownFree hr)
    · exact (Dev.writeRingBase_frame ..).mono (Reg.mask_ownFree hr)
    · exact (Dev.writeRingBase_frame ..).mono (Reg.mask_ownFree hr)
    · exact (Dev.writeRingBase_frame ..).mono (Reg.mask_ownFree hr)
    · exact (Dev.writeSqCfg_frame ..).mono (by decide +kernel)
    · exact (Dev.writeCqCfg_frame ..).mono (by decide +kernel)
    · exact (Dev.writeEvqCfg_frame ..).mono (by decide +kernel)
    · exact (Dev.writeDbBase_frame ..).mono (by decide +kernel)
    · exact (Dev.writeDbBase_frame ..).mono (by decide +kernel)
    · exact (Dev.writePoll_frame ..).mono (by decide +kernel)
    · exact (Dev.writeWindow_frame ..).mono (.or (by decide +kernel) (Reg.mask_ownFree hr))
    · exact (Dev.writeWindow_frame ..).mono (.or (by decide +kernel) (Reg.mask_ownFree hr))
    · exact (Dev.writeWindow_frame ..).mono (.or (by decide +kernel) (Reg.mask_ownFree hr))
    · exact absurd (by decide) hr
    · exact absurd (by decide) hr
    · exact absurd (by decide) hr
    · exact absurd (by decide) hr
    · exact (Dev.writeStage_frame ..).mono (by decide +kernel)
    · exact (Dev.writeFrzCtl_frame ..).mono (by decide +kernel)
    · exact (Dev.writeVecCfg_frame ..).mono (by decide +kernel)
    · exact (Dev.storePlain_ownFree hr).step' (Dev.recheckBarrier_frame ..) (by decide +kernel)
    · exact Dev.storeWork_ownFree hr

theorem Dev.ownedOnce.byFn {d : Dev} (h : d.ownedOnce) (f : Nat) {g : Dev → Dev} (hg : ∀ x : Dev, x.ownedOnce → (g x).ownedOnce) :
    (d.byFn f g).ownedOnce := by
  unfold Dev.byFn
  split
  · exact h
  split
  · exact Frame.ownedOnce ((Dev.bump_frame ..).mono (by decide +kernel)) h
  · exact hg d h

theorem Dev.ownedOnce.when {d : Dev} (h : d.ownedOnce) {c : Bool} {g : Dev → Dev} (hg : ∀ x : Dev, x.ownedOnce → (g x).ownedOnce) :
    (d.when c g).ownedOnce := by
  unfold Dev.when
  split
  · exact hg d h
  · exact h

theorem Dev.ownedOnce.write32 {d : Dev} (h : d.ownedOnce) (fn : Nat) (bar2 : Bool) (off be value : Nat) :
    (d.write32 fn bar2 off be value).ownedOnce := by
  have bump (x : Dev) (hx : x.ownedOnce) (F : Fld) (hF : Within F.bit ownFree) : (x.bump F 1 fn).ownedOnce :=
    Frame.ownedOnce ((Dev.bump_frame ..).mono hF) hx
  refine h.byFn fn fun x hx => ?_
  split
  · exact bump x hx _ (by decide +kernel)
  split
  · exact Frame.ownedOnce ((Dev.writeTable_frame ..).mono (by decide +kernel)) hx
  split
  · rename_i r i j _
    exact hx.storeReg fn r i j value
  · exact bump x hx _ (by decide +kernel)

/-! ### Resets and boot -/

theorem Dev.ownedOnce_wholeReset (d : Dev) (cause : Nat) : (d.wholeReset cause).ownedOnce := Dev.ownedOnce_of_regs rfl

/-- A boot sets no ownership register: the fresh values that it brings into force are calibrations. -/
theorem Dev.bootFrom_ownFree (d : Dev) (k : Nat) (cal : List (List Int)) (dowels : List Int) (dramOk : List Bool) :
    Frame ownFree d (d.bootFrom k cal dowels dramOk) := by
  have fall (x : Dev) : Frame ownFree x (if k = x.get .MGT_STAT_BOOT_SLOT then x
      else (x.raise .MGT_STAT_FALLBACK).record 0x0d05 5 (recSource 48 63) k) :=
    .ite .refl (((Dev.raise_frame ..).mono (by decide +kernel)).step' (Dev.record_frame ..) (by decide +kernel))
  have geom (x : Dev) (c : Nat) (here : Bool) (dev : Nat) : Frame ownFree x (x.bootGeom c here dev) := (Dev.bootGeom_frame ..).mono (by decide +kernel)
  have units (x : Dev) : Frame ownFree x (x.bootUnits cal dowels) := (Dev.bootUnits_frame ..).mono (by decide +kernel)
  have fresh (x : Dev) : Frame ownFree x (x.bringFresh (fun c => fldsCAL.contains c.fld)) :=
    .bringFlds fldsCAL.contains (fun _ h => h) (by decide +kernel) (by decide +kernel) .refl
  have train (x : Dev) (c : Nat) (ok : Bool) : Frame ownFree x (x.bootTrain c ok) := (Dev.bootTrain_frame ..).mono (by decide +kernel)
  have done (x : Dev) : Frame ownFree x (x.raise .MGT_STAT_BOOT_DONE) := (Dev.raise_frame ..).mono (by decide +kernel)
  have slot : Frame ownFree d (d.put .MGT_STAT_SLOT_NOW k) := (Dev.put_frame ..).mono (by decide +kernel)
  exact slot.trans <| (fall _).trans <| (geom ..).trans <| (geom ..).trans <| (units _).trans <| (fresh _).trans <| (train ..).trans <|
    (train ..).trans (done _)

theorem Dev.boot_ownFree (d : Dev) (straps : BitVec 3) (cal : List (List Int)) (dowels : List Int) (dramOk : List Bool) :
    Frame ownFree d (d.boot straps cal dowels dramOk) := by
  unfold Dev.boot
  extract_lets p m d₁ d₂ d₃ pick d₄ d₅
  have h₁ : Frame ownFree d d₁ := .pcie_mgmt_of (by decide +kernel) (by decide +kernel) .refl
  have h₂ : Frame ownFree d d₂ := ((h₁.step' (Dev.bootIdentity_frame ..) (by decide +kernel)).step' (Dev.setService_frame ..) (by decide +kernel)).step'
    (Dev.raise_frame ..) (by decide +kernel)
  have h₃ : Frame ownFree d d₃ := h₂.step' (Dev.showLog_frame ..) (by decide +kernel)
  have h₄ : Frame ownFree d d₄ := h₃.step' (Dev.record_frame ..) (by decide +kernel)
  have h₅ : Frame ownFree d d₅ := (h₄.step' (Dev.showSlotFw_frame ..) (by decide +kernel)).step' (Dev.showSlotFw_frame ..) (by decide +kernel)
  split
  · exact h₅.step' (Dev.enterRecovery_frame ..) (by decide +kernel)
  · exact h₅.trans (Dev.bootFrom_ownFree ..)

theorem Dev.faultUnits_ownFree (us : List Nat) (cause : Nat) (d : Dev) : Frame ownFree d (us.foldl (fun d u => d.faultUnit u cause) d) :=
  .foldl .refl fun _ _ h => h.step' (Dev.faultUnit_frame ..) (by decide +kernel)

/-- With LINK_REFCLK gone every channel and every tile loses its link. -/
theorem Dev.linksLost_ownFree (d : Dev) : Frame ownFree d ((List.range 16).foldl (fun d t => if d.flag .VDR_STAT_LINK_UP t then d.loseTileLink t else d)
    ((List.range 34).foldl (fun d n => if d.get .ENG_STAT_BOUND_CH n < 32 then d.channelFault n 1 0x0550 else d) d)) :=
  .foldl (.foldl .refl fun _ _ h => .ite (h.step' (Dev.channelFault_frame ..) (by decide +kernel)) h)
    fun _ _ h => .ite (h.step' (Dev.loseTileLink_frame ..) (by decide +kernel)) h

/-! ### Every command (O8) -/

/-- The commands that can set an ownership register: writes, and resets of the whole device. -/
def setsOwners : Instr → Bool
  | .registerWrite .. | .winOwnWrite .. | .powerOnReset .. | .pinReset .. | .deviceReset .. | .railUndervolt .. | .refclkAbsent ..
  | .resetRelease .. => true
  | _ => false

/-- No other command names an ownership field. -/
theorem mask_ownFree {c : Instr} (h : setsOwners c = false) : Within c.mask ownFree := by
  cases c
  case registerWrite | winOwnWrite | powerOnReset | pinReset | deviceReset | railUndervolt | refclkAbsent | resetRelease => cases h
  all_goals (dsimp only [Instr.mask]; decide +kernel)

theorem execRegisterWrite_ownedOnce (s : State) (h : s.dev.ownedOnce) (dt : Nat) (fn : Fin 8) (bar2 : Bool) (off size : Nat) (be : BitVec 8)
    (value : BitVec 64) : Answers (.registerWrite dt fn bar2 off size be value) s Dev.ownedOnce := by
  refine Answers.of_act (show _ = execRegisterWrite dt fn bar2 off size be value s from rfl) ?_
  refine Dev.ownedOnce.when (show (s.dev.elapse dt).ownedOnce from h) fun x hx => ?_
  split
  · exact hx.byFn _ fun y hy => Frame.ownedOnce ((Dev.bump_frame ..).mono (by decide +kernel)) hy
  · extract_lets lo hi y
    have hy : y.ownedOnce := hx.write32 _ _ _ _ _
    split
    · exact hy.write32 _ _ _ _ _
    · exact hy

theorem execRefclkAbsent_ownedOnce (s : State) (h : s.dev.ownedOnce) (dt ref : Nat) : Answers (.refclkAbsent dt ref) s Dev.ownedOnce := by
  refine Answers.of_act (show _ = execRefclkAbsent dt ref s from rfl) ?_
  refine Dev.ownedOnce.when (show (s.dev.elapse dt).ownedOnce from h) fun d hd => ?_
  extract_lets m x y z
  have hx : x.ownedOnce := hd
  clear_value x
  split
  · exact Dev.ownedOnce_wholeReset _ _
  split
  · exact Frame.ownedOnce ((Dev.setService_frame ..).mono (by decide +kernel)) hx
  split
  · exact Frame.ownedOnce ((Dev.setService_frame ..).mono (by decide +kernel)) hx
  have hz : z.ownedOnce := Frame.ownedOnce x.linksLost_ownFree hx
  split
  · exact Frame.ownedOnce ((Dev.losePath_frame ..).mono (by decide +kernel)) hz
  · exact hz

theorem execRailUndervolt_ownedOnce (s : State) (h : s.dev.ownedOnce) (dt rail : Nat) : Answers (.railUndervolt dt rail) s Dev.ownedOnce := by
  refine Answers.of_act (show _ = execRailUndervolt dt rail s from rfl) ?_
  have he : (s.dev.elapse dt).ownedOnce := h
  split
  · exact Dev.ownedOnce_wholeReset _ _
  · exact he.when fun _ hx => (Dev.faultUnits_ownFree ..).ownedOnce hx

/-- No command gives a resource a second owner. -/
theorem exec_ownedOnce (c : Instr) (s : State) (h : s.dev.ownedOnce) : Answers c s Dev.ownedOnce := by
  have he (dt : Nat) : (s.dev.elapse dt).ownedOnce := h
  by_cases hc : setsOwners c = false
  · obtain ⟨e, hx, hf⟩ := exec_frame c s
    exact ⟨_, hx, rfl, (hf.mono (mask_ownFree hc)).ownedOnce h⟩
  cases c
  case registerWrite dt fn bar2 off size be value => exact execRegisterWrite_ownedOnce s h dt fn bar2 off size be value
  case winOwnWrite dt fn k value =>
    exact Answers.of_act (show _ = execWinOwnWrite dt fn k value s from rfl) ((he dt).byFn 0 fun x hx => hx.writeOwn 0 fn k value.toNat)
  case powerOnReset dt => exact Answers.of_act (show _ = execPowerOnReset dt s from rfl) (Dev.ownedOnce_wholeReset _ _)
  case pinReset dt => exact Answers.of_act (show _ = execPinReset dt s from rfl) (Dev.ownedOnce_wholeReset _ _)
  case deviceReset dt =>
    exact Answers.of_act (show _ = execDeviceReset dt s from rfl) ((he dt).when fun _ _ => Dev.ownedOnce_wholeReset _ _)
  case railUndervolt dt rail => exact execRailUndervolt_ownedOnce s h dt rail
  case refclkAbsent dt ref => exact execRefclkAbsent_ownedOnce s h dt ref
  case resetRelease dt straps cal dowels dramOk =>
    exact Answers.of_act (show _ = execResetRelease dt straps cal dowels dramOk s from rfl)
      ((he dt).when fun _ hx => (Dev.boot_ownFree ..).ownedOnce hx)
  all_goals exact absurd rfl hc

/-- Settles O8: a write of an ownership register that would give a resource to a second function is refused, a reset of the device gives
everything to function 0, and no other command sets an ownership field. -/
theorem stepKeepsOwnersApart : Obligations.StepKeepsOwnersApart := by
  intro s t h hst
  unfold step at hst
  split at hst
  · cases hst; exact h
  · rename_i c rest _
    obtain ⟨t', ht', -, howned⟩ := exec_ownedOnce c { s with pending := rest } h
    rw [ht'] at hst
    cases hst
    exact howned

end Sys2Proof.Machine
end

section
/-! Set up of functions (O18). -/

set_option Elab.async false
namespace Sys2Proof.Machine
open Sys2Proof

/-! ### A freeze (R105) -/

/-- A function frozen now shows it with its cause. -/
theorem Dev.freezeFn_shows {d : Dev} {f cause : Nat} (h : d.frozen f = false) (hc : cause < 16) (addr : Nat) (o : Option Nat) :
    (d.freezeFn f cause addr o).get .WIN_FRZ_STAT_FROZEN f = 1 ∧ (d.freezeFn f cause addr o).get .WIN_FRZ_STAT_CAUSE f = cause := by
  have hfree : d.flag .WIN_FRZ_STAT_FROZEN f = false := h
  rw [Dev.freezeFn, h, if_neg Bool.false_ne_true, (Dev.noticeFreeze_frame ..).get _ _ _ (by decide +kernel), (Dev.noticeFreeze_frame ..).get _ _ _ (by decide +kernel),
    Dev.freeze, hfree, if_neg Bool.false_ne_true]
  dsimp only
  rw [(Dev.freezeLayer_frame ..).get _ _ _ (by decide +kernel), (Dev.freezeLayer_frame ..).get _ _ _ (by decide +kernel)]
  refine ⟨?_, ?_⟩
  · rw [(Dev.setFn_frame ..).get _ _ _ (by decide +kernel), Dev.get_put_ne _ _ _ _ _ _ _ _ (by decide), Dev.get_put_ne _ _ _ _ _ _ _ _ (by decide),
      Dev.get_put_ne _ _ _ _ _ _ _ _ (by decide), Dev.get_raise]
  · rw [(Dev.setFn_frame ..).get _ _ _ (by decide +kernel), Dev.get_put_ne _ _ _ _ _ _ _ _ (by decide), Dev.get_put_ne _ _ _ _ _ _ _ _ (by decide),
      Dev.get_put_of_lt hc]

/-! ### Set-up registers under and without the lock (R455, R456) -/

theorem Dev.locked_true {d : Dev} (h : d.get .SYS_LOCK_LOCK = 1) : d.locked = true := Dev.flag_true h

theorem Dev.locked_false {d : Dev} (h : d.get .SYS_LOCK_LOCK = 0) : d.locked = false := Dev.flag_false h

/-- A write of a set-up register by a function (R455, R456). -/
def Dev.setUp (d : Dev) (fn : Nat) (r : Reg) (i j value : Nat) : Dev := d.lockChecked fn r i j value (fun d => d.writeReg r i j value)

/-- The instances of a register's fields. -/
def Reg.at (r : Reg) (i j : Nat) : List (Fld × Nat × Nat) := r.fields.map (fun f => (f, i, j))

theorem Reg.mem_at {r : Reg} {i j : Nat} {f : Fld} (h : f ∈ r.fields) : (f, i, j) ∈ r.at i j := List.mem_map_of_mem h

section
variable {d : Dev} {r : Reg} {fn i j value : Nat}

theorem Dev.setUp_unlocked (hl : d.locked = false) : d.setUp fn r i j value = d.writeReg r i j value := by
  simp [Dev.setUp, Dev.lockChecked, Dev.breaksLock, hl]

/-- With the lock clear values in range are taken. -/
theorem Dev.setUp_taken (hr : r ∈ setupRegs) (hl : d.locked = false) (hv : ∀ f ∈ r.fields, f.inRange (f.of value) = true) :
    (∀ f ∈ r.fields, (d.setUp fn r i j value).get f i j = f.of value) ∧ d.OnlyAt (d.setUp fn r i j value) (r.at i j)
      ∧ d.SameMem (d.setUp fn r i j value) := by
  rw [Dev.setUp_unlocked hl]
  refine ⟨?_, ?_, ?_⟩
  · rw [Dev.writeReg_unlocked hr hl hv]
    exact (Dev.foldl_put_get (setupRegs_locked r hr).1 ..).1
  · rw [Dev.writeReg_unlocked hr hl hv]
    exact List.foldlRecOn (motive := fun e => d.OnlyAt e (r.at i j)) _ _ .refl fun _ he f hf => he.put (Reg.mem_at hf)
  · rw [Dev.writeReg_unlocked hr hl hv]
    exact List.foldlRecOn (motive := fun e => d.SameMem e) _ _ .refl fun _ he _ _ => he.trans fun _ => ⟨rfl, rfl, rfl⟩

/-- Whether a write under the lock would change a field. -/
theorem Dev.breaksLock_iff (hr : r ∈ setupRegs) (hl : d.locked = true) (hv : ∀ f ∈ r.fields, f.inRange (f.of value) = true) :
    d.breaksLock r i j value = true ↔ ∃ f ∈ r.fields, f.of value ≠ d.get f i j := by
  have hacc := (setupRegs_locked r hr).2
  simp only [Dev.breaksLock, hl, Bool.true_and, List.any_eq_true, Bool.and_eq_true, beq_iff_eq, bne_iff_ne]
  exact exists_congr fun f => and_congr_right fun hf => ⟨fun h => h.2, fun h => ⟨⟨(hacc f hf).1, hv f hf⟩, h⟩⟩

/-- Under the lock a write that would change a field leaves every field and freezes its writer. -/
theorem Dev.setUp_freezes (hr : r ∈ setupRegs) (hl : d.locked = true) (hv : ∀ f ∈ r.fields, f.inRange (f.of value) = true)
    (hfr : d.frozen fn = false) (h : ∃ f ∈ r.fields, f.of value ≠ d.get f i j) :
    (∀ f ∈ r.fields, (d.setUp fn r i j value).get f i j = d.get f i j) ∧ (d.setUp fn r i j value).get .WIN_FRZ_STAT_FROZEN fn = 1
      ∧ (d.setUp fn r i j value).get .WIN_FRZ_STAT_CAUSE fn = 6 := by
  have heq : d.setUp fn r i j value = d.freezeFn fn 6 (r.addr i j) := by
    rw [Dev.setUp, Dev.lockChecked, if_pos ((Dev.breaksLock_iff hr hl hv).mpr h)]
    exact congrArg (fun e : Dev => e.freezeFn fn 6 (r.addr i j)) (Dev.writeReg_locked hr hl ..)
  rw [heq]
  exact ⟨fun f hf => (Dev.freezeFn_frame ..).get_out (fs := setupRegs.flatMap Reg.fields) (by decide +kernel) (List.mem_flatMap.mpr ⟨r, hr, hf⟩) i j,
    Dev.freezeFn_shows hfr (by decide) ..⟩

/-- One that would change none does nothing. -/
theorem Dev.setUp_kept (hr : r ∈ setupRegs) (hl : d.locked = true) (hv : ∀ f ∈ r.fields, f.inRange (f.of value) = true)
    (h : ∀ f ∈ r.fields, f.of value = d.get f i j) : d.setUp fn r i j value = d := by
  have hkeep : d.breaksLock r i j value = false := by
    rw [← Bool.not_eq_true, Dev.breaksLock_iff hr hl hv]
    rintro ⟨f, hf, hne⟩
    exact hne (h f hf)
  rw [Dev.setUp, Dev.lockChecked, hkeep, if_neg Bool.false_ne_true]
  exact Dev.writeReg_locked hr hl ..

end

/-- A refusal is the flag alone. -/
theorem Dev.rejects (d : Dev) : (d.raise .WIN_STAT_CFG_REJ).get .WIN_STAT_CFG_REJ = 1 ∧ d.OnlyAt (d.raise .WIN_STAT_CFG_REJ) [(.WIN_STAT_CFG_REJ, 0, 0)]
    ∧ d.SameMem (d.raise .WIN_STAT_CFG_REJ) :=
  ⟨Dev.get_raise, Dev.OnlyAt.refl.put (by simp), (Dev.raise_frame ..).sameMem⟩

/-! ### Ownership (R92) -/

section
variable {s : State} {dt : Nat} {fn : Fin 8} {k : Fin 4} {value : Word}

theorem winOwnWrite_answers {P : Dev → Prop} (hz : s.dev.frozen 0 = false) (h : P ((s.dev.elapse dt).writeOwn 0 fn k value.toNat)) :
    Answers (.winOwnWrite dt fn k value) s P := by
  refine Answers.of_act (show _ = execWinOwnWrite dt fn k value s from rfl) ?_
  rw [Dev.byFn_zero (show (s.dev.elapse dt).frozen 0 = false from hz)]
  exact h

theorem Dev.writeOwn_setUp {d : Dev} {f k value : Nat} (h : ∀ x ∈ (ownReg k).fields, ∀ g < 8, g ≠ f → Nat.land (x.of value) (d.get x g) = 0) :
    d.writeOwn 0 f k value = d.setUp 0 (ownReg k) f 0 value := by
  simp only [Dev.writeOwn, Dev.ownClash_false.mpr h, Bool.false_eq_true, if_false]
  rfl

theorem ownReg_inRange (k value : Nat) : ∀ f ∈ (ownReg k).fields, f.inRange (f.of value) = true := fun f hf => (ownReg_fields k f hf).2 _

theorem Dev.writeOwn_clash {d : Dev} {f k value : Nat} (h : ∃ x ∈ (ownReg k).fields, ∃ g < 8, g ≠ f ∧ Nat.land (x.of value) (d.get x g) ≠ 0) :
    d.writeOwn 0 f k value = d.raise .WIN_STAT_CFG_REJ := by
  rw [Dev.writeOwn, if_pos (Dev.ownClash_iff.mpr h), Dev.reject_setup (ownReg_setup k)]

end

/-! ### Windows (R95) -/

/-- The check of a window's alignment: the window stays as it is, or is disabled with CFG_REJ. -/
theorem Dev.settleWindow_cases {P : Dev → Prop} {d : Dev} {f w : Nat} (h : P d) (hoff : P ((d.lower .WIN_CFG_ENABLE f w).raise .WIN_STAT_CFG_REJ)) :
    P (d.settleWindow f w) := by
  unfold Dev.settleWindow
  split
  · rw [Dev.reject_setup (r := .WIN_CFG) (by decide)]
    exact hoff
  · exact h

/-- A window that is aligned or disabled stays as it is. -/
theorem Dev.settleWindow_aligned {d : Dev} {f w : Nat} (h : d.winBase f w % 2 ^ d.get .WIN_CFG_SIZE_LOG2 f w = 0 ∨ d.get .WIN_CFG_ENABLE f w = 0) :
    d.settleWindow f w = d := by
  rw [Dev.settleWindow, if_neg]
  rintro ⟨hon, hoff⟩
  rcases h with h | h
  · exact hoff h
  · simp [Dev.flag_false h] at hon

/-- One that is enabled off its size is disabled. -/
theorem Dev.settleWindow_off {d : Dev} {f w : Nat} (h : d.winBase f w % 2 ^ d.get .WIN_CFG_SIZE_LOG2 f w ≠ 0) (he : d.get .WIN_CFG_ENABLE f w = 1) :
    d.settleWindow f w = (d.lower .WIN_CFG_ENABLE f w).raise .WIN_STAT_CFG_REJ := by
  have hon : d.flag .WIN_CFG_ENABLE f w = true := Dev.flag_true he
  rw [Dev.settleWindow, if_pos ⟨hon, h⟩, Dev.reject_setup (r := .WIN_CFG) (by decide)]

/-- Only SIZE_LOG2 has a range. -/
theorem winCfg_ranges : ∀ f ∈ Reg.fields .WIN_CFG, f.range = none ∨ f = .WIN_CFG_SIZE_LOG2 := by decide +kernel

theorem winCfg_inRange {value : Nat} (h12 : 12 ≤ Fld.of .WIN_CFG_SIZE_LOG2 value) (h46 : Fld.of .WIN_CFG_SIZE_LOG2 value ≤ 46) :
    ∀ f ∈ Reg.fields .WIN_CFG, f.inRange (f.of value) = true := by
  intro f hf
  rcases winCfg_ranges f hf with h | rfl
  · rw [Fld.inRange, h]
  · exact decide_eq_true (p := _ ∧ _) ⟨h12, h46⟩

theorem winCfgWrite_answers {s : State} {dt : Nat} {w fn : Fin 8} {win : Fin 16} {value : Word} {P : Dev → Prop} (h : s.dev.writesFor w fn)
    (hp : P ((s.dev.elapse dt).writeWindow w .WIN_CFG fn win value.toNat)) : Answers (.winCfgWrite dt w fn win value) s P := by
  refine Answers.of_act (show _ = execWinCfgWrite dt w fn win value s from rfl) ?_
  rw [Dev.writesFor.ownWrite (show (s.dev.elapse dt).writesFor w fn from h)]
  exact hp

section
variable {d : Dev} {fn f w value : Nat}

theorem Dev.writeWindow_unlocked (hl : d.locked = false) :
    d.writeWindow fn .WIN_CFG f w value = (d.setUp fn .WIN_CFG f w value).settleWindow f w := by
  simp [Dev.writeWindow, Dev.when, hl, Dev.setUp]

theorem Dev.writeWindow_locked (hl : d.locked = true) : d.writeWindow fn .WIN_CFG f w value = d.setUp fn .WIN_CFG f w value := by
  simp [Dev.writeWindow, Dev.when, hl, Dev.setUp]

/-- A write of WIN_CFG leaves the window's base. -/
theorem Dev.OnlyAt.winBase {e : Dev} {fs : List (Fld × Nat × Nat)} (h : d.OnlyAt e fs) (hfs : ∀ x ∈ fs, x.1.reg = .WIN_CFG) (f w : Nat) :
    e.winBase f w = d.winBase f w := by
  unfold Dev.winBase
  rw [h .WIN_BASE_LO_ADDR_LO f w fun hm => absurd (hfs _ hm) (by rintro ⟨⟩), h .WIN_BASE_HI_ADDR_HI f w fun hm => absurd (hfs _ hm) (by rintro ⟨⟩)]

theorem Reg.at_reg {r : Reg} {i j : Nat} {x : Fld × Nat × Nat} (h : x ∈ r.at i j) : x.1.reg = r := by
  obtain ⟨f, hf, rfl⟩ := List.mem_map.mp h
  exact r.fields_reg f hf

end

/-- A size out of range keeps the old one with CFG_REJ; the other fields take their values (R95, R478). -/
theorem Dev.writeReg_badSize {d : Dev} {f w value : Nat} (hl : d.locked = false) (hs : Fld.inRange .WIN_CFG_SIZE_LOG2 (Fld.of .WIN_CFG_SIZE_LOG2 value) = false) :
    d.writeReg .WIN_CFG f w value = (((d.raise .WIN_STAT_CFG_REJ).put .WIN_CFG_R (Fld.of .WIN_CFG_R value) f w).put .WIN_CFG_W
      (Fld.of .WIN_CFG_W value) f w).put .WIN_CFG_ENABLE (Fld.of .WIN_CFG_ENABLE value) f w := by
  have hfields : Reg.fields .WIN_CFG = [.WIN_CFG_SIZE_LOG2, .WIN_CFG_R, .WIN_CFG_W, .WIN_CFG_ENABLE] := by decide +kernel
  have unlocked (x : Dev) (F : Fld) (v i j : Nat) (hx : x.locked = false) (hF : Fld.SYS_LOCK_LOCK ≠ F) : (x.put F v i j).locked = false := by
    rw [Dev.locked, Dev.flag, Dev.get_put_ne _ _ _ _ _ _ _ _ hF]
    exact hx
  have plain (x : Dev) (hx : x.locked = false) (F : Fld) (hF : F ∈ [Fld.WIN_CFG_R, .WIN_CFG_W, .WIN_CFG_ENABLE]) :
      x.writeField F value f w = x.put F (F.of value) f w := by
    simp only [List.mem_cons, List.not_mem_nil, or_false] at hF
    rcases hF with rfl | rfl | rfl <;> exact if_neg (by simp [hx])
  have hsize : d.writeField .WIN_CFG_SIZE_LOG2 value f w = d.raise .WIN_STAT_CFG_REJ := by
    have hset : d.writeField .WIN_CFG_SIZE_LOG2 value f w = d.reject .WIN_CFG f := by
      simp [Dev.writeField, show Fld.acc .WIN_CFG_SIZE_LOG2 = .rwl from rfl, hl, Fld.keeps, hs, show Fld.reg .WIN_CFG_SIZE_LOG2 = .WIN_CFG from rfl]
    rw [hset, Dev.reject_setup (r := .WIN_CFG) (by decide)]
  have h₁ : (d.raise .WIN_STAT_CFG_REJ).locked = false := unlocked d .WIN_STAT_CFG_REJ 1 0 0 hl (by decide)
  have h₂ := unlocked _ .WIN_CFG_R (Fld.of .WIN_CFG_R value) f w h₁ (by decide)
  have h₃ := unlocked _ .WIN_CFG_W (Fld.of .WIN_CFG_W value) f w h₂ (by decide)
  rw [Dev.writeReg, hfields, List.foldl_cons, List.foldl_cons, List.foldl_cons, List.foldl_cons, List.foldl_nil, hsize, plain _ h₁ _ (by decide),
    plain _ h₂ _ (by decide), plain _ h₃ _ (by decide)]

theorem Dev.writeWindow_badSize {d : Dev} {fn f w value : Nat} (hl : d.locked = false)
    (hs : Fld.of .WIN_CFG_SIZE_LOG2 value < 12 ∨ 46 < Fld.of .WIN_CFG_SIZE_LOG2 value) :
    (d.writeWindow fn .WIN_CFG f w value).get .WIN_CFG_SIZE_LOG2 f w = d.get .WIN_CFG_SIZE_LOG2 f w
      ∧ (d.writeWindow fn .WIN_CFG f w value).get .WIN_STAT_CFG_REJ = 1
      ∧ d.OnlyAt (d.writeWindow fn .WIN_CFG f w value) ((.WIN_STAT_CFG_REJ, 0, 0) :: Reg.at .WIN_CFG f w) ∧ d.SameMem (d.writeWindow fn .WIN_CFG f w value) := by
  have hbad : Fld.inRange .WIN_CFG_SIZE_LOG2 (Fld.of .WIN_CFG_SIZE_LOG2 value) = false := decide_eq_false (p := _ ∧ _) (by omega)
  have hmem (F : Fld) (hF : F ∈ Reg.fields .WIN_CFG) : (F, f, w) ∈ (Fld.WIN_STAT_CFG_REJ, 0, 0) :: Reg.at .WIN_CFG f w :=
    List.mem_cons_of_mem _ (Reg.mem_at hF)
  rw [Dev.writeWindow_unlocked hl, Dev.setUp_unlocked hl, Dev.writeReg_badSize hl hbad]
  have honly := ((((Dev.OnlyAt.refl (d := d)).put (v := 1) (List.mem_cons_self ..)).put (v := Fld.of .WIN_CFG_R value) (hmem .WIN_CFG_R (by decide +kernel))).put
    (v := Fld.of .WIN_CFG_W value) (hmem .WIN_CFG_W (by decide +kernel))).put (v := Fld.of .WIN_CFG_ENABLE value) (hmem .WIN_CFG_ENABLE (by decide +kernel))
  have hrej := List.mem_cons_self (a := (Fld.WIN_STAT_CFG_REJ, 0, 0)) (l := Reg.at .WIN_CFG f w)
  refine ⟨?_, ?_, Dev.settleWindow_cases (P := fun e => d.OnlyAt e _) honly ((honly.put (hmem .WIN_CFG_ENABLE (by decide +kernel))).put hrej),
    Dev.settleWindow_cases (P := fun e => d.SameMem e) (fun _ => ⟨rfl, rfl, rfl⟩) fun _ => ⟨rfl, rfl, rfl⟩⟩
  · refine Dev.settleWindow_cases (P := fun e => e.get .WIN_CFG_SIZE_LOG2 f w = _) ?_ ?_
    · simp [Dev.raise]
    · simp [Dev.raise, Dev.lower]
  · refine Dev.settleWindow_cases (P := fun e => e.get .WIN_STAT_CFG_REJ = 1) ?_ Dev.get_raise
    simp [Dev.raise, show Fld.width .WIN_STAT_CFG_REJ = 1 from rfl]

section
variable {d : Dev} {fn f w value : Nat} (hl : d.locked = false) (h12 : 12 ≤ Fld.of .WIN_CFG_SIZE_LOG2 value)
  (h46 : Fld.of .WIN_CFG_SIZE_LOG2 value ≤ 46)
include hl h12 h46

/-- A window that stays aligned takes what is written. -/
theorem Dev.writeWindow_aligned (hb : d.winBase f w % 2 ^ Fld.of .WIN_CFG_SIZE_LOG2 value = 0 ∨ Fld.of .WIN_CFG_ENABLE value = 0) :
    (∀ x ∈ Reg.fields .WIN_CFG, (d.writeWindow fn .WIN_CFG f w value).get x f w = x.of value)
      ∧ d.OnlyAt (d.writeWindow fn .WIN_CFG f w value) (Reg.at .WIN_CFG f w) ∧ d.SameMem (d.writeWindow fn .WIN_CFG f w value) := by
  have htaken := Dev.setUp_taken (d := d) (fn := fn) (i := f) (j := w) (r := .WIN_CFG) (by decide) hl (winCfg_inRange h12 h46)
  obtain ⟨hget, honly, -⟩ := id htaken
  rw [Dev.writeWindow_unlocked hl, Dev.settleWindow_aligned]
  · exact htaken
  · rw [hget _ (by decide +kernel), hget .WIN_CFG_ENABLE (by decide +kernel), honly.winBase (fun _ => Reg.at_reg)]
    exact hb

/-- A window enabled off its size stays disabled, with CFG_REJ. -/
theorem Dev.writeWindow_off (hb : d.winBase f w % 2 ^ Fld.of .WIN_CFG_SIZE_LOG2 value ≠ 0) (he : Fld.of .WIN_CFG_ENABLE value = 1) :
    (d.writeWindow fn .WIN_CFG f w value).get .WIN_CFG_ENABLE f w = 0 ∧ (d.writeWindow fn .WIN_CFG f w value).get .WIN_STAT_CFG_REJ = 1
      ∧ d.OnlyAt (d.writeWindow fn .WIN_CFG f w value) ((.WIN_STAT_CFG_REJ, 0, 0) :: Reg.at .WIN_CFG f w)
      ∧ d.SameMem (d.writeWindow fn .WIN_CFG f w value) := by
  obtain ⟨hget, honly, hmem⟩ := Dev.setUp_taken (d := d) (fn := fn) (i := f) (j := w) (r := .WIN_CFG) (by decide) hl (winCfg_inRange h12 h46)
  have hmore : d.OnlyAt (d.setUp fn .WIN_CFG f w value) ((.WIN_STAT_CFG_REJ, 0, 0) :: Reg.at .WIN_CFG f w) :=
    honly.mono fun _ => List.mem_cons_of_mem _
  rw [Dev.writeWindow_unlocked hl, Dev.settleWindow_off]
  · refine ⟨?_, Dev.get_raise, (hmore.put (List.mem_cons_of_mem _ (Reg.mem_at (by decide +kernel)))).put (List.mem_cons_self ..), hmem.trans fun _ => ⟨rfl, rfl, rfl⟩⟩
    rw [Dev.raise, Dev.get_put_ne _ _ _ _ _ _ _ _ (by decide), Dev.lower, Dev.get_put_of_lt (by decide)]
  · rw [hget _ (by decide +kernel), honly.winBase (fun _ => Reg.at_reg)]
    exact hb
  · rw [hget _ (by decide +kernel)]
    exact he

end

/-! ### Staging areas (R99) -/

/-- What makes a staging area bad. -/
theorem Dev.stageBad_iff {d : Dev} {f value : Nat} : d.stageBad f value = true ↔ Fld.of .WIN_STAGE_SIZE_MB value ≠ 0
    ∧ (d.dramBytes < (Fld.of .WIN_STAGE_BASE_MB value + Fld.of .WIN_STAGE_SIZE_MB value) * 2 ^ 20
      ∨ ∃ g < 8, g ≠ f ∧ d.get .WIN_STAGE_SIZE_MB g ≠ 0
        ∧ Fld.of .WIN_STAGE_BASE_MB value < d.get .WIN_STAGE_BASE_MB g + d.get .WIN_STAGE_SIZE_MB g
        ∧ d.get .WIN_STAGE_BASE_MB g < Fld.of .WIN_STAGE_BASE_MB value + Fld.of .WIN_STAGE_SIZE_MB value) := by
  have hne (n : Nat) : n * 2 ^ 20 ≠ 0 ↔ n ≠ 0 := by omega
  have hlt (a b : Nat) : a * 2 ^ 20 < b * 2 ^ 20 ↔ a < b := Nat.mul_lt_mul_right (Nat.two_pow_pos 20)
  simp only [Dev.stageBad, Dev.stageLo, Dev.stageSize, Bool.and_eq_true, bne_iff_ne, Bool.or_eq_true, decide_eq_true_eq, List.any_eq_true,
    List.mem_range, ← Nat.add_mul, and_assoc, hne, hlt]

theorem winStageWrite_answers {s : State} {dt : Nat} {fn : Fin 8} {value : Word} {P : Dev → Prop} (hz : s.dev.frozen 0 = false)
    (h : P ((s.dev.elapse dt).writeStage 0 fn value.toNat)) : Answers (.winStageWrite dt fn value) s P := by
  refine Answers.of_act (show _ = execWinStageWrite dt fn value s from rfl) ?_
  rw [Dev.byFn_zero (show (s.dev.elapse dt).frozen 0 = false from hz)]
  exact h

theorem Dev.writeStage_bad {d : Dev} {f value : Nat} (h : d.stageBad f value = true) : d.writeStage 0 f value = d.raise .WIN_STAT_CFG_REJ := by
  rw [Dev.writeStage, if_pos h, Dev.reject_setup (r := .WIN_STAGE) (by decide)]

theorem Dev.writeStage_good {d : Dev} {f value : Nat} (h : d.stageBad f value = false) : d.writeStage 0 f value = d.setUp 0 .WIN_STAGE f 0 value := by
  rw [Dev.writeStage, h, if_neg Bool.false_ne_true]
  rfl

theorem stage_inRange (value : Nat) : ∀ f ∈ Reg.fields .WIN_STAGE, f.inRange (f.of value) = true := by
  have h : ∀ f ∈ Reg.fields .WIN_STAGE, f.range = none := by decide +kernel
  exact fun f hf => by rw [Fld.inRange, h f hf]

/-- Settles O18: a write of a set-up register takes its values, leaves everything under the lock, or is refused with the flag alone. -/
theorem setUpOfFunctions : Obligations.SetUpOfFunctions := by
  refine ⟨fun s dt fn k value hz hl hc => winOwnWrite_answers hz ?_, fun s dt fn k value hz hc => winOwnWrite_answers hz ?_,
    fun s dt fn k value hz hl hc hd => winOwnWrite_answers hz ?_, fun s dt fn k value hz hl hc hd => winOwnWrite_answers hz ?_,
    fun s dt w fn win value hw hl h12 h46 hb => winCfgWrite_answers hw (Dev.writeWindow_aligned (Dev.locked_false hl) h12 h46 hb),
    fun s dt w fn win value hw hl h12 h46 hb he => winCfgWrite_answers hw (Dev.writeWindow_off (Dev.locked_false hl) h12 h46 hb he),
    fun s dt w fn win value hw hl hbad => winCfgWrite_answers hw (Dev.writeWindow_badSize (Dev.locked_false hl) hbad),
    fun s dt w fn win value hw hl h12 h46 hd => winCfgWrite_answers hw ?_,
    fun s dt fn value hz hl hok => winStageWrite_answers hz ?_, fun s dt fn value hz hsize hbad => winStageWrite_answers hz ?_⟩
  · rw [Dev.writeOwn_setUp (d := s.dev.elapse dt) hc]
    exact Dev.setUp_taken (ownReg_setup k) (Dev.locked_false hl) (ownReg_inRange _ _)
  · rw [Dev.writeOwn_clash (d := s.dev.elapse dt) hc]
    exact Dev.rejects _
  · rw [Dev.writeOwn_setUp (d := s.dev.elapse dt) hc]
    exact Dev.setUp_freezes (ownReg_setup k) (Dev.locked_true hl) (ownReg_inRange _ _) hz hd
  · rw [Dev.writeOwn_setUp (d := s.dev.elapse dt) hc, Dev.setUp_kept (d := s.dev.elapse dt) (ownReg_setup k) (Dev.locked_true hl) (ownReg_inRange _ _) hd]
    exact ⟨Dev.elapse_onlyAt, Dev.elapse_sameMem⟩
  · rw [Dev.writeWindow_locked (d := s.dev.elapse dt) (Dev.locked_true hl)]
    exact Dev.setUp_freezes (by decide) (Dev.locked_true hl) (winCfg_inRange h12 h46) hw.2.1 hd
  · rw [Dev.writeStage_good (d := s.dev.elapse dt)]
    · exact Dev.setUp_taken (by decide) (Dev.locked_false hl) (stage_inRange _)
    · rw [← Bool.not_eq_true, Dev.stageBad_iff]
      rintro ⟨hsize, hbig | ⟨g, hg, hne, hgs, hlo, hhi⟩⟩
      · exact absurd (hok.resolve_left hsize).1 (Nat.not_le.mpr hbig)
      · rcases (hok.resolve_left hsize).2 g hg hne with h | h | h
        · exact hgs h
        · exact absurd h (Nat.not_le.mpr hlo)
        · exact absurd h (Nat.not_le.mpr hhi)
  · rw [Dev.writeStage_bad (d := s.dev.elapse dt) (Dev.stageBad_iff.mpr ⟨hsize, hbad⟩)]
    exact Dev.rejects _

end Sys2Proof.Machine
end

section
/-! The movers (O19). -/

set_option Elab.async false
namespace Sys2Proof.Machine
open Sys2Proof

/-! ### A mover takes a request (R102) -/

@[simp] theorem Dev.mover_setMover_self (d : Dev) (m : Nat) (x : Option Mover) : (d.setMover m x).mover m = x := Tab.get_set_self ..

theorem Dev.mover_setMover_ne (d : Dev) {m k : Nat} (x : Option Mover) (h : k ≠ m) : (d.setMover m x).mover k = d.mover k := Tab.get_set_ne _ _ _ _ _ h

/-- BUSY shows a mover that has a request. -/
theorem Dev.setMover_busy (d : Dev) {m : Nat} (x : Mover) (hm : m < 8) : hasBit ((d.setMover m (some x)).get .WIN_MOVER_STAT_BUSY) m = true := by
  have hget : (d.setMover m (some x)).get .WIN_MOVER_STAT_BUSY = setBit (d.get .WIN_MOVER_STAT_BUSY) m % 2 ^ 8 := Dev.get_put_self ..
  rw [hget, hasBit_mod_two_pow _ hm, hasBit_setBit]
  simp

/-- A cause of a failed window check. -/
theorem Dev.rangeCause_lt {d : Dev} {f a n c : Nat} {rd wr : Bool} (h : d.rangeCause f a n rd wr = some c) : c < 16 := by
  unfold Dev.rangeCause at h
  dsimp only at h
  split at h
  · cases h; decide
  split at h
  · cases h
  · cases h; decide

/-- A read that is refused freezes its function and takes no mover (R97). -/
theorem Dev.refuseRead_shows {d : Dev} {x : Mover} {c : Nat} (h : d.frozen x.fn = false) (hc : c < 16) :
    (d.refuseRead x c).get .WIN_FRZ_STAT_FROZEN x.fn = 1 ∧ (d.refuseRead x c).get .WIN_FRZ_STAT_CAUSE x.fn = c
      ∧ (d.refuseRead x c).movers = d.movers ∧ d.SameMem (d.refuseRead x c) := by
  have shows (y : Dev) (hy : Frame 0x100 d y) (o : Option Nat) : (y.freezeFn x.fn c (d.requestRange x).1 o).get .WIN_FRZ_STAT_FROZEN x.fn = 1
      ∧ (y.freezeFn x.fn c (d.requestRange x).1 o).get .WIN_FRZ_STAT_CAUSE x.fn = c
      ∧ (y.freezeFn x.fn c (d.requestRange x).1 o).movers = d.movers ∧ d.SameMem (y.freezeFn x.fn c (d.requestRange x).1 o) := by
    have hfree : y.frozen x.fn = false := by rw [Dev.frozen, Dev.flag, hy.get _ _ _ (by decide +kernel)]; exact h
    obtain ⟨hf, hcause⟩ := Dev.freezeFn_shows hfree hc (d.requestRange x).1 o
    exact ⟨hf, hcause, ((Dev.freezeFn_frame ..).movers (by decide +kernel)).trans (hy.movers (by decide +kernel)), hy.sameMem.trans (Dev.freezeFn_frame ..).sameMem⟩
  unfold Dev.refuseRead
  dsimp only
  split
  · exact shows d .refl none
  · exact shows _ ((Dev.modJob_frame ..).mono (by decide +kernel)) _

/-- MOVER_START with a free mover and a request. -/
theorem execMoverStart_answers {s : State} {dt m : Nat} {x : Mover} {P : Dev → Prop} (hs : s.dev.inService 35 = true)
    (hm : (List.range 8).find? (fun m => (s.dev.mover m).isNone) = some m) (hx : (s.dev.elapse dt).earliest s.dev.requests = some x)
    (h : P (match s.dev.rangeCause x.fn (s.dev.requestRange x).1 (s.dev.requestRange x).2 true false with
      | none => (s.dev.elapse dt).setMover m (some (s.dev.issueReads x))
      | some c => (s.dev.elapse dt).refuseRead x c)) : Answers (.moverStart dt) s P := by
  refine Answers.of_act (show _ = execMoverStart dt s from rfl) ?_
  have hs' : (s.dev.elapse dt).inService 35 = true := hs
  have hm' : (List.range 8).find? (fun m => ((s.dev.elapse dt).mover m).isNone) = some m := hm
  have hx' : (s.dev.elapse dt).earliest (s.dev.elapse dt).requests = some x := hx
  simp only [Dev.when, hs', if_true, hm', hx']
  exact h

/-- Settles O19: the lowest free mover carries the request that comes first, or the request's window check freezes its function. -/
theorem moverTakesEarliest : Obligations.MoverTakesEarliest := by
  refine ⟨fun s dt m x hs hm hx hr => execMoverStart_answers hs hm hx ?_, fun s dt m c x hs hm hx hf hr => execMoverStart_answers hs hm hx ?_⟩
  · rw [hr]
    have hlt : m < 8 := List.mem_range.mp (List.mem_of_find?_eq_some hm)
    exact ⟨Dev.mover_setMover_self .., fun k _ hk => Dev.mover_setMover_ne _ _ hk, Dev.setMover_busy _ _ hlt, rfl,
      (Dev.elapse_onlyAt.put (List.mem_singleton_self _)).of_regs rfl, fun _ => ⟨rfl, rfl, rfl⟩⟩
  · rw [hr]
    exact Dev.refuseRead_shows (d := s.dev.elapse dt) hf (Dev.rangeCause_lt hr)

end Sys2Proof.Machine
end

section
/-! A freeze and its end (O20). -/

set_option Elab.async false
namespace Sys2Proof.Machine
open Sys2Proof

/-! ### A freeze whose notice has gone out (R106) -/

theorem Dev.noticeFreeze_noticed {d : Dev} {f : Nat} (h : (d.fn f).noticed = true) : d.noticeFreeze f = d := by
  rw [Dev.noticeFreeze, if_pos h]

/-- The engines of a function, through a frame that keeps ownership and cover. -/
theorem Frame.enginesOf {w : Nat} {d e : Dev} (h : Frame w d e) (hw : maskOut ownFields w = true) (hc : w.testBit 21 = false) (f : Nat) :
    e.enginesOf f = d.enginesOf f := by
  have hown (k : Nat) : e.ownsEngine f k = d.ownsEngine f k := by
    unfold Dev.ownsEngine
    rw [h.get_out hw (f := .WIN_OWN_ENG_LO_ENG) (by decide), h.get_out hw (f := .WIN_OWN_ENG_HI_ENG) (by decide)]
  have hcov (n : Nat) : e.coveredEngine n = d.coveredEngine n := by
    simp only [Dev.coveredEngine, Dev.cover, h.cal hc]
  simp only [Dev.enginesOf, hown, hcov]

/-! ### Gates low (R106 step 3) -/

/-- Engines stopped dark one after another: every gate of theirs is down. -/
theorem Dev.stopAll_down (ns : List Nat) (d : Dev) {n : Nat} (hn : n ∈ ns) : (ns.foldl (fun d n => d.stopEngine n true) d).GateDown n :=
  foldl_reach (P := (Dev.GateDown · n)) (g := fun d n => d.stopEngine n true) hn (fun _ => Dev.stopEngine_down (.inl rfl))
    (fun _ _ h => Dev.stopEngine_down (.inr h)) d

theorem Dev.stopAll_frame (ns : List Nat) (d : Dev) :
    Frame 0x6080000000000000000000000000000000000000000000000000000000000000000000000000000000000000000000000000023c4000004000000000150800080100030c2014000000000002000000000000000000000000002e009000
      d (ns.foldl (fun d n => d.stopEngine n true) d) :=
  .foldl .refl fun _ _ h => h.trans (Dev.stopEngine_frame ..)

theorem execFreezeGateTimeout_lowers (s : State) (dt : Nat) (fn : Fin 8) (hf : s.dev.get .WIN_FRZ_STAT_FROZEN fn = 1)
    (hs : s.dev.get .WIN_FRZ_STAT_SAFE fn = 0) (hg : (s.dev.fn fn).gatesForced = false) (hn : (s.dev.fn fn).noticed = true)
    (ht : (s.dev.fn fn).frozenAt + 10 * qUs ≤ (s.dev.elapse dt).run) :
    Answers (.freezeGateTimeout dt fn) s (fun e => (e.fn fn).gatesForced = true
        ∧ (∀ n ∈ s.dev.enginesOf fn, (e.eng n).gate.forced = true ∧ (e.eng n).gate.edges = [] ∧ e.get .ENG_GATE_STAT_GATE_NOW n = 0)
        ∧ e.jobs = s.dev.jobs ∧ s.dev.SameMem e) := by
  refine Answers.of_act (show _ = execFreezeGateTimeout dt fn s from rfl) ?_
  have hdue : ((s.dev.elapse dt).frozen fn && !(s.dev.elapse dt).flag .WIN_FRZ_STAT_SAFE fn && !((s.dev.elapse dt).fn fn).gatesForced
      && decide (((s.dev.elapse dt).fn fn).frozenAt + 10 * qUs ≤ (s.dev.elapse dt).run)) = true := by
    simp only [Dev.frozen, Dev.flag_true (show (s.dev.elapse dt).get .WIN_FRZ_STAT_FROZEN fn = 1 from hf),
      Dev.flag_false (show (s.dev.elapse dt).get .WIN_FRZ_STAT_SAFE fn = 0 from hs), show ((s.dev.elapse dt).fn fn).gatesForced = false from hg,
      decide_eq_true (show ((s.dev.elapse dt).fn fn).frozenAt + 10 * qUs ≤ (s.dev.elapse dt).run from ht)]
    rfl
  dsimp only
  rw [Dev.when, hdue, if_pos rfl]
  set x := (s.dev.elapse dt).setFn fn { (s.dev.elapse dt).fn fn with gatesForced := true } with hx
  have hxn : (x.fn fn).noticed = true := by rw [hx, Dev.fn_setFn_self]; exact hn
  have hxg : (x.fn fn).gatesForced = true := by rw [hx, Dev.fn_setFn_self]
  rw [Dev.noticeFreeze_noticed hxn]
  have hframe : Frame 0x403 s.dev x := ((Dev.elapse_frame ..).mono (by decide +kernel)).step' (Dev.setFn_frame ..) (by decide +kernel)
  have habs : Frame 0x60800000000040000000000000000000000000000000000000000000000000000000000000000000000000000000000000000000000000c400000000100800000000030c2014000000000002000000000000000000000000002e009403 s.dev
      (x.absentEngines ((s.dev.elapse dt).enginesOf fn)) := (hframe.mono (by decide +kernel)).step' (Dev.absentEngines_frame ..) (by decide +kernel)
  have hxa : ((x.absentEngines ((s.dev.elapse dt).enginesOf fn)).fn fn).gatesForced = true := by
    rw [(Dev.absentEngines_frame ..).fn fn]
    exact hxg
  generalize x.absentEngines ((s.dev.elapse dt).enginesOf fn) = y at habs hxa
  have hstop := Dev.stopAll_frame (y.enginesOf fn) y
  refine ⟨by rw [hstop.fn fn]; exact hxa, fun k hk => ?_, (hstop.jobs rfl).trans (habs.jobs rfl), habs.sameMem.trans hstop.sameMem⟩
  obtain ⟨hlow, hforced, hedges⟩ := Dev.stopAll_down (y.enginesOf fn) y (n := k) (by rw [habs.enginesOf (by decide +kernel) rfl]; exact hk)
  exact ⟨hforced, hedges, hlow⟩

/-! ### SAFE (R106 step 8, R107, R368) -/

/-- With no layer open going absent is silent: only gates are forced. -/
theorem Dev.absentEngines_idle {d : Dev} (h : d.get .SYS_LAYER_STAT_STATE = 8) (ns : List Nat) :
    Frame 0x100800000000000000000000000000000000000000000000000000000008000000 d (d.absentEngines ns) := by
  refine foldl_keep (P := fun e => Frame 0x100800000000000000000000000000000000000000000000000000000008000000 d e) .refl (fun x n hx => ?_) _
  have hf := hx.trans (Dev.forceGate_frame x n)
  rw [Dev.goAbsent, if_pos ((hf.get _ _ _ (by decide +kernel)).trans h)]
  exact hf

/-- A part of a function's state in HOST that a change of the state leaves alone. -/
theorem Dev.fn_setFn_keeps {α : Type} (π : HostFn → α) {d : Dev} {k : Nat} {x : HostFn} (h : π x = π (d.fn k)) (f : Nat) :
    π ((d.setFn k x).fn f) = π (d.fn f) := by
  by_cases hk : f = k
  · subst hk; rw [Dev.fn_setFn_self, h]
  · rw [Dev.fn_setFn_ne _ _ _ _ hk]

/-- Of a function's state in HOST the end of a descriptor sets only the entries that wait. -/
theorem Dev.finishJob_flr (d : Dev) (id code time f : Nat) : ((d.finishJob id code time).fn f).flr = (d.fn f).flr := by
  unfold Dev.finishJob
  split
  · rfl
  · dsimp only
    rw [Dev.fn_showFlight]
    have hset (x : Dev) (k : Nat) (ws : List CplEntry) : ((x.setFn k { x.fn k with waiting := ws }).fn f).flr = (x.fn f).flr :=
      Dev.fn_setFn_keeps HostFn.flr (by rfl) f
    simp only [apply_ite (fun x : Dev => (x.fn f).flr), Dev.fn_modJob, Dev.fn_dropJob, Dev.fn_showHoldCq, hset]
    split_ifs <;> rfl

theorem Dev.complete_flr (d : Dev) (id code f : Nat) : ((d.complete id code).fn f).flr = (d.fn f).flr :=
  (d.finishJob id code d.now).settleMarks_keeps d.now (fun e : Dev => (e.fn f).flr = (d.fn f).flr) (d.finishJob_flr id code d.now f) (fun _ _ h => h)
    fun x i c h => (x.finishJob_flr i c d.now f).trans h

theorem Dev.endFrozen_flr (d : Dev) (f : Nat) : ((d.endFrozen f).fn f).flr = (d.fn f).flr := by
  refine foldl_keep (P := fun e : Dev => (e.fn f).flr = (d.fn f).flr) rfl (fun x j hx => ?_) _
  split_ifs
  · exact hx
  all_goals exact (Dev.complete_flr ..).trans hx

/-- An axis that has come to rest stays so as time passes. -/
theorem Dev.allSafe.elapse {d : Dev} {f : Nat} (h : d.allSafe f = true) (dt : Nat) : (d.elapse dt).allSafe f = true := by
  have hrest (a : Nat) (ha : d.axisRests a = true) : (d.elapse dt).axisRests a = true := by
    have hle : segsTime (d.axis a).segs ≤ (d.run - (d.axis a).t0) / qNs := of_decide_eq_true ha
    have hrun : d.run ≤ (d.elapse dt).run := Nat.le_add_right ..
    exact decide_eq_true (hle.trans (Nat.div_le_div_right (Nat.sub_le_sub_right hrun _)))
  unfold Dev.allSafe at h ⊢
  simp only [Bool.and_eq_true] at h ⊢
  obtain ⟨⟨⟨heng, htile⟩, haxis⟩, hctx⟩ := h
  exact ⟨⟨⟨heng, htile⟩, List.all_eq_true.mpr fun a ha => hrest a (List.all_eq_true.mp haxis a ha)⟩, hctx⟩

/-- A function found safe: SAFE, the ends of its descriptors, the record and the sources; no function-level reset waits for it. -/
theorem Dev.safe_shows {d : Dev} {f : Nat} (hf : d.get .WIN_FRZ_STAT_FROZEN f = 1) (hl : d.logs) (hflr : (d.fn f).flr = false)
    (sev source p0 p1 p2 p3 a b : Nat) {e : Dev}
    (he : e = (((((d.raise .WIN_FRZ_STAT_SAFE f).endFrozen f).record 0x0210 sev source p0 p1 p2 p3).occur a).occur b).finishFlr f) :
    e.get .WIN_FRZ_STAT_SAFE f = 1 ∧ e.get .WIN_FRZ_STAT_FROZEN f = 1 ∧ e.Recorded 0x0210 sev ∧ d.SameMem e := by
  have hdx := Dev.raise_frame d .WIN_FRZ_STAT_SAFE f 0
  have hxflr : ((d.raise .WIN_FRZ_STAT_SAFE f).fn f).flr = false := hflr
  have hxs : (d.raise .WIN_FRZ_STAT_SAFE f).get .WIN_FRZ_STAT_SAFE f = 1 := Dev.get_raise
  generalize d.raise .WIN_FRZ_STAT_SAFE f = x at *
  have hxy := x.endFrozen_frame f
  have hyflr : ((x.endFrozen f).fn f).flr = false := (x.endFrozen_flr f).trans hxflr
  generalize x.endFrozen f = y at *
  have hyz := Dev.record_frame y 0x0210 sev source p0 p1 p2 p3
  have hrec := (((hl.frame hdx).frame hxy).accepts sev).recorded (code := 0x0210) source p0 p1 p2 p3
  generalize y.record 0x0210 sev source p0 p1 p2 p3 = z at *
  have hze := (Dev.occur_frame z a).trans (Dev.occur_frame _ b)
  generalize (z.occur a).occur b = u at *
  have huflr : (u.fn f).flr = false := by rw [hze.fn f, hyz.fn f]; exact hyflr
  have hyu := hyz.step' hze (by decide +kernel)
  obtain rfl : e = u := by rw [he, Dev.finishFlr]; simp [huflr]
  refine ⟨?_, ?_, hrec.frame hze, (hdx.sameMem.trans hxy.sameMem).trans hyu.sameMem⟩
  · rw [hyu.get _ _ _ (by decide +kernel), hxy.get _ _ _ (by decide +kernel), hxs]
  · rw [hyu.get _ _ _ (by decide +kernel), hxy.get _ _ _ (by decide +kernel), hdx.get _ _ _ (by decide +kernel), hf]

theorem execFreezeSafe_shows (s : State) (dt : Nat) (fn : Fin 8) (hf : s.dev.get .WIN_FRZ_STAT_FROZEN fn = 1) (hs : s.dev.get .WIN_FRZ_STAT_SAFE fn = 0)
    (hn : (s.dev.fn fn).noticed = true) (hsafe : s.dev.allSafe fn = true) (hflr : (s.dev.fn fn).flr = false) (hl : s.dev.logs)
    (hg : (s.dev.fn fn).gatesForced = true ∨ s.dev.get .SYS_LAYER_STAT_STATE = 8) :
    Answers (.freezeSafe dt fn) s (fun e => e.get .WIN_FRZ_STAT_SAFE fn = 1 ∧ e.get .WIN_FRZ_STAT_FROZEN fn = 1
        ∧ e.Recorded 0x0210 (if s.dev.get .WIN_FRZ_STAT_CAUSE fn = 8 ∨ s.dev.get .WIN_FRZ_STAT_CAUSE fn = 9 then 2 else 5) ∧ s.dev.SameMem e) := by
  refine Answers.of_act (show _ = execFreezeSafe dt fn s from rfl) ?_
  set x := s.dev.elapse dt with hx
  have hfz : x.frozen fn = true := Dev.flag_true hf
  have hdue : (x.frozen fn && !x.flag .WIN_FRZ_STAT_SAFE fn && x.allSafe fn) = true := by
    rw [hfz, Dev.flag_false (show x.get .WIN_FRZ_STAT_SAFE fn = 0 from hs), Dev.allSafe.elapse hsafe]
    rfl
  have hgates : Frame 0x100800000000000000000000000000000000000000000000000000000008000000 x
      (if (x.fn fn).gatesForced then x else x.absentEngines (x.enginesOf fn)) := by
    split
    · exact .refl
    · rename_i hng
      exact Dev.absentEngines_idle (d := x) (hg.resolve_left hng) _
  dsimp only
  rw [if_pos hfz, Dev.noticeFreeze_noticed (show (x.fn fn).noticed = true from hn), hdue, Dev.when_true]
  generalize (if (x.fn fn).gatesForced then x else x.absentEngines (x.enginesOf fn)) = y at hgates ⊢
  have hcause : y.get .WIN_FRZ_STAT_CAUSE fn = s.dev.get .WIN_FRZ_STAT_CAUSE fn := hgates.get _ _ _ (by decide +kernel)
  obtain ⟨h₁, h₂, h₃, h₄⟩ := Dev.safe_shows (d := y) (f := fn) ((hgates.get _ _ _ (by decide +kernel)).trans hf) (Dev.logs.frame hgates hl)
    (by rw [hgates.fn fn]; exact hflr) _ _ _ _ _ _ _ _ rfl
  exact ⟨h₁, h₂, by rw [← hcause]; exact h₃, Dev.elapse_sameMem.trans (hgates.sameMem.trans h₄)⟩

/-! ### Release (R112, R113) -/

theorem execUnfreezeFunction_refuses (s : State) (dt : Nat) (fn : Fin 8) (hz : s.dev.frozen 0 = false) (h : fn = 0 ∨ s.dev.get .WIN_FRZ_STAT_SAFE fn = 0) :
    Answers (.unfreezeFunction dt fn) s (fun e => e.get .WIN_STAT_CFG_REJ = 1 ∧ s.dev.OnlyAt e [(.WIN_STAT_CFG_REJ, 0, 0)]) := by
  refine Answers.of_act (show _ = execUnfreezeFunction dt fn s from rfl) ?_
  have hno : ¬(fn.val ≠ 0 ∧ (s.dev.elapse dt).flag .WIN_FRZ_STAT_SAFE fn = true) := by
    rintro ⟨hne, hsafe⟩
    rcases h with rfl | h
    · exact hne rfl
    · rw [Dev.flag_false (show (s.dev.elapse dt).get .WIN_FRZ_STAT_SAFE fn = 0 from h)] at hsafe
      cases hsafe
  rw [Dev.byFn_zero (show (s.dev.elapse dt).frozen 0 = false from hz), Dev.releaseFn, if_neg hno]
  exact ⟨Dev.get_raise, Dev.elapse_onlyAt.put (List.mem_singleton_self _)⟩

theorem execUnfreezePeer_releases (s : State) (dt : Nat) (dev : Fin 1024) (hz : s.dev.frozen 0 = false) :
    Answers (.unfreezePeer dt dev) s (fun e => e.peerFrozen dev = false ∧ s.dev.OnlyAt e [(.WIN_PEER_FRZ_FROZEN, dev / 32, 0)] ∧ s.dev.SameMem e) := by
  refine Answers.of_act (show _ = execUnfreezePeer dt dev s from rfl) ?_
  rw [Dev.byFn_zero (show (s.dev.elapse dt).frozen 0 = false from hz)]
  refine ⟨?_, Dev.elapse_onlyAt.put (List.mem_singleton_self _), fun _ => ⟨rfl, rfl, rfl⟩⟩
  have hbit : dev.val % 32 < Fld.width .WIN_PEER_FRZ_FROZEN := Nat.mod_lt _ (by decide)
  rw [Dev.peerFrozen, Dev.get_put_self, hasBit_mod_two_pow _ hbit, hasBit_clearBit_self]

/-- A bit lowered at every index of a range. -/
theorem Dev.lowerRange_get (F : Fld) (f : Nat) (g : Dev → Nat → Dev) (hself : ∀ x r, (g x r).get F f r = 0)
    (hother : ∀ x r k, k ≠ r → (g x r).get F f k = x.get F f k) {n r : Nat} (hr : r < n) (d : Dev) : ((List.range n).foldl g d).get F f r = 0 := by
  refine foldl_reach (P := fun x => x.get F f r = 0) (List.mem_range.mpr hr) (fun x => hself x r) (fun x k hx => ?_) d
  by_cases hk : r = k
  · subst hk; exact hself x r
  · exact (hother x k r hk).trans hx

/-- A function released: no freeze, no ring enabled (R113). -/
theorem Dev.unfreeze_shows (d : Dev) (f : Nat) : (d.unfreeze f).get .WIN_FRZ_STAT_FROZEN f = 0 ∧ (d.unfreeze f).get .WIN_FRZ_STAT_SAFE f = 0
    ∧ (∀ r < 64, (d.unfreeze f).get .HIF_SQ_CFG_ENABLE f r = 0) ∧ (∀ c < 16, (d.unfreeze f).get .HIF_CQ_CFG_ENABLE f c = 0)
    ∧ (d.unfreeze f).get .INT_EVQ_CFG_ENABLE f = 0 := by
  unfold Dev.unfreeze
  extract_lets d₁ d₂ d₃ d₄ d₅
  have h₁ : d₁.get .WIN_FRZ_STAT_FROZEN f = 0 ∧ d₁.get .WIN_FRZ_STAT_SAFE f = 0 :=
    ⟨(Dev.get_put_ne _ _ _ _ _ _ _ _ (by decide)).trans (Dev.get_put_of_lt (by decide)), Dev.get_put_of_lt (by decide)⟩
  have h₁₂ : Frame (Fld.bit .WIN_FRZ_STAT_CAUSE) d₁ d₂ := Dev.put_frame ..
  have h₂₃ : Frame (0x400 ||| Fld.bit .HIF_SQ_CFG_ENABLE) d₂ d₃ :=
    .foldl .refl fun _ _ h => (h.step' (Dev.lower_frame ..) (by decide +kernel)).step' (Dev.setSq_frame ..) (by decide +kernel)
  have h₃ : ∀ r < 64, d₃.get .HIF_SQ_CFG_ENABLE f r = 0 := fun r hr =>
    Dev.lowerRange_get _ _ _ (fun _ _ => ((Dev.setSq_frame ..).get _ _ _ (by decide +kernel)).trans (Dev.get_put_of_lt (by decide)))
      (fun x r k hk => ((Dev.setSq_frame ..).get _ _ _ (by decide +kernel)).trans (Dev.get_put_of_ne _ _ _ _ _ _ _ _ fun h => hk h.2.2)) hr d₂
  have h₃₄ : Frame (Fld.bit .HIF_CQ_CFG_ENABLE) d₃ d₄ := .foldl .refl fun _ _ h => h.step' (Dev.lower_frame ..) (by decide +kernel)
  have h₄ : ∀ c < 16, d₄.get .HIF_CQ_CFG_ENABLE f c = 0 := fun c hc =>
    Dev.lowerRange_get _ _ _ (fun _ _ => Dev.get_put_of_lt (by decide)) (fun x r k hk => Dev.get_put_of_ne _ _ _ _ _ _ _ _ fun h => hk h.2.2) hc d₃
  have h₅ : (d₄.lower .INT_EVQ_CFG_ENABLE f).get .INT_EVQ_CFG_ENABLE f = 0 := Dev.get_put_of_lt (by decide)
  have h₄₅ : Frame (Fld.bit .INT_EVQ_CFG_ENABLE) d₄ (d₄.lower .INT_EVQ_CFG_ENABLE f) := Dev.lower_frame ..
  have hrest : Frame (0x1c04080000000000000000000000000000000000000000002400 ||| 0x20000000000000000000000000000000000) (d₄.lower .INT_EVQ_CFG_ENABLE f)
      ((d₅.setFn f { d₅.fn f with offender := none, gatesForced := false, byViolation := false }).showFlight f) :=
    (((Dev.leaveActive_frame _ f).mono (by decide +kernel)).step' (Dev.setFn_frame ..) (by decide +kernel)).step' (Dev.showFlight_frame ..) (by decide +kernel)
  clear_value d₁ d₂ d₃ d₄
  generalize Dev.showFlight _ f = e at hrest ⊢
  have h₄ₑ := (h₄₅.mono (w := 0x1c04080000000000000000000000000000000000000000002400 ||| 0x20000000000000000000000000000000000 ||| Fld.bit .INT_EVQ_CFG_ENABLE)
    (by decide +kernel)).step' hrest (by decide +kernel)
  have hstat (F : Fld) (hF : F = .WIN_FRZ_STAT_FROZEN ∨ F = .WIN_FRZ_STAT_SAFE) (h₀ : d₁.get F f = 0) : e.get F f = 0 := by
    rcases hF with rfl | rfl
    all_goals rw [h₄ₑ.get _ _ _ (by decide +kernel), h₃₄.get _ _ _ (by decide +kernel), h₂₃.get _ _ _ (by decide +kernel), h₁₂.get _ _ _ (by decide +kernel), h₀]
  refine ⟨hstat _ (.inl rfl) h₁.1, hstat _ (.inr rfl) h₁.2, fun r hr => ?_, fun c hc => ?_, ?_⟩
  · rw [h₄ₑ.get _ _ _ (by decide +kernel), h₃₄.get _ _ _ (by decide +kernel), h₃ r hr]
  · rw [h₄ₑ.get _ _ _ (by decide +kernel), h₄ c hc]
  · rw [hrest.get _ _ _ (by decide +kernel), h₅]

theorem execUnfreezeFunction_releases (s : State) (dt : Nat) (fn : Fin 8) (hz : s.dev.frozen 0 = false) (hne : fn ≠ 0)
    (hs : s.dev.get .WIN_FRZ_STAT_SAFE fn = 1) :
    Answers (.unfreezeFunction dt fn) s (fun e => e.get .WIN_FRZ_STAT_FROZEN fn = 0 ∧ e.get .WIN_FRZ_STAT_SAFE fn = 0
        ∧ (∀ r < 64, e.get .HIF_SQ_CFG_ENABLE fn r = 0) ∧ (∀ c < 16, e.get .HIF_CQ_CFG_ENABLE fn c = 0)
        ∧ e.get .INT_EVQ_CFG_ENABLE fn = 0
        ∧ s.dev.OnlyIn e [.WIN_FRZ_STAT, .HIF_SQ_CFG, .HIF_CQ_CFG, .HIF_STAT, .INT_EVQ_CFG, .INT_SRC_STAT, .INT_VEC_STAT, .INT_STAT]
        ∧ e.jobs = s.dev.jobs ∧ s.dev.SameMem e) := by
  refine Answers.of_act (show _ = execUnfreezeFunction dt fn s from rfl) ?_
  have hok : fn.val ≠ 0 ∧ (s.dev.elapse dt).flag .WIN_FRZ_STAT_SAFE fn = true :=
    ⟨fun h => hne (Fin.ext h), Dev.flag_true (show (s.dev.elapse dt).get .WIN_FRZ_STAT_SAFE fn = 1 from hs)⟩
  rw [Dev.byFn_zero (show (s.dev.elapse dt).frozen 0 = false from hz), Dev.releaseFn, if_pos hok]
  obtain ⟨h₁, h₂, h₃, h₄, h₅⟩ := (s.dev.elapse dt).unfreeze_shows fn
  exact ⟨h₁, h₂, h₃, h₄, h₅, Dev.elapse_onlyIn.trans ((Dev.unfreeze_frame ..).onlyIn (by decide +kernel)), (Dev.unfreeze_frame ..).jobs rfl,
    Dev.elapse_sameMem.trans (Dev.unfreeze_frame ..).sameMem⟩

/-- Settles O20: the gates of a frozen function's engines come down, SAFE is told with its record, and a write of function 0 ends a freeze
that is safe. -/
theorem freezeAndRelease : Obligations.FreezeAndRelease :=
  ⟨execFreezeGateTimeout_lowers, execFreezeSafe_shows, fun s dt fn hz hne _ hs => execUnfreezeFunction_releases s dt fn hz hne hs, execUnfreezeFunction_refuses, execUnfreezePeer_releases⟩

end Sys2Proof.Machine
end

section
/-! Bus mastering (O17). -/

set_option Elab.async false
namespace Sys2Proof.Machine
open Sys2Proof

/-! ### What a freeze leaves (R105, R106) -/

/-- A freeze's notice changes no function's state in HOST but that it has gone out. -/
theorem Dev.noticeFreeze_busMaster (d : Dev) (f g : Nat) : ((d.noticeFreeze f).fn g).busMaster = (d.fn g).busMaster := by
  unfold Dev.noticeFreeze
  split
  · rfl
  · extract_lets y x₁ x₂ x₃ x₄ x₅
    have hrest : Frame 0x6080000000000000000000300000000002000000400008000000000200000000000000000020040000000000000000000000023c4000004000000000150800080100030c2014000000000002000000000000000000000000efae029000
        x₁ (x₅.freezeTime f) := by
      refine .step (Dev.freezeTime_frame ..) rfl (.foldl (.foldl (.foldl (.foldl .refl ?_) ?_) ?_) ?_)
      · exact fun _ _ h => h.step' (Dev.freezeEngine_frame ..) rfl
      · exact fun _ _ h => h.step' (Dev.freezeTile_frame ..) rfl
      · exact fun _ _ h => (h.step' (Dev.freezeAxis_frame ..) rfl).step' (Dev.marksWaived_frame ..) rfl
      · exact fun _ _ h => (h.step' (Dev.freezeContext_frame ..) rfl).step' (Dev.marksWaived_frame ..) rfl
    rw [hrest.fn g]
    exact Dev.fn_setFn_keeps HostFn.busMaster (d := d) (k := f) (by rfl) g

theorem Dev.freezeFn_busMaster (d : Dev) (f cause addr g : Nat) : ((d.freezeFn f cause addr).fn g).busMaster = (d.fn g).busMaster := by
  have hfreeze : ((d.freeze f cause addr).fn g).busMaster = (d.fn g).busMaster := by
    unfold Dev.freeze
    split
    · split
      · exact congrArg HostFn.busMaster ((Dev.bump_frame ..).fn g (by decide +kernel))
      · rfl
    · dsimp only
      rw [(Dev.freezeLayer_frame ..).fn g]
      exact Dev.fn_setFn_keeps HostFn.busMaster (d := (((d.raise .WIN_FRZ_STAT_FROZEN f).put .WIN_FRZ_STAT_CAUSE cause f).put .WIN_FRZ_ADDR_LO_ADDR
        (addr % 2 ^ 32) f).put .WIN_FRZ_ADDR_HI_ADDR (addr / 2 ^ 32) f) (k := f) (by rfl) g
  unfold Dev.freezeFn
  split
  · exact hfreeze
  · exact (Dev.noticeFreeze_busMaster ..).trans hfreeze

/-- A freeze with cause 8 of a function that is frozen already changes nothing. -/
theorem Dev.freezeFn_again {d : Dev} {f : Nat} (h : d.frozen f = true) : d.freezeFn f 8 0 = d := by
  have hf : d.flag .WIN_FRZ_STAT_FROZEN f = true := h
  rw [Dev.freezeFn, if_pos h, Dev.freeze, if_pos hf, if_neg (by decide)]

/-- The freeze of one function does not show on another. -/
theorem Dev.freezeFn_other {d : Dev} {f g cause addr : Nat} (h : g ≠ f) {F : Fld} (hF : F = .WIN_FRZ_STAT_FROZEN ∨ F = .WIN_FRZ_STAT_CAUSE)
    (hc : 7 < cause) : (d.freezeFn f cause addr).get F g = d.get F g := by
  have hfreeze : (d.freeze f cause addr).get F g = d.get F g := by
    unfold Dev.freeze
    split
    · rw [if_neg (Nat.not_le.mpr hc)]
    · dsimp only
      have hput (x : Dev) (G : Fld) (v : Nat) : (x.put G v f).get F g = x.get F g := Dev.get_put_of_ne _ _ _ _ _ _ _ _ fun e => h e.2.1
      rw [(Dev.freezeLayer_frame ..).get _ _ _ (by rcases hF with rfl | rfl <;> decide +kernel), Dev.get_setFn,
        hput, hput, hput, Dev.raise, hput]
  unfold Dev.freezeFn
  split
  · exact hfreeze
  · rcases hF with rfl | rfl
    all_goals exact ((Dev.noticeFreeze_frame ..).get _ _ _ (by decide +kernel)).trans hfreeze

/-! ### VF Enable cleared (R91, R104) -/

/-- What VF Enable cleared does to one function. -/
def Dev.freezeVf (d : Dev) (f : Nat) : Dev := (d.setFn f { d.fn f with busMaster := false }).freezeFn f 8 0

/-- A function that VF Enable cleared has reached, its freeze not known before where `c` is false. -/
structure Dev.VfFrozen (d : Dev) (f : Nat) (c : Bool) : Prop where
  still : (d.fn f).busMaster = false
  frozen : d.get .WIN_FRZ_STAT_FROZEN f = 1
  cause : c = true → d.get .WIN_FRZ_STAT_CAUSE f = 8

theorem Dev.freezeVf_self (d : Dev) (f : Nat) : (d.freezeVf f).VfFrozen f (d.get .WIN_FRZ_STAT_FROZEN f == 0) := by
  have hstill : ((d.freezeVf f).fn f).busMaster = false := by
    rw [Dev.freezeVf, Dev.freezeFn_busMaster, Dev.fn_setFn_self]
  cases hf : d.frozen f
  · obtain ⟨h₁, h₂⟩ := Dev.freezeFn_shows (d := d.setFn f { d.fn f with busMaster := false }) (f := f) hf (cause := 8) (by decide) 0 none
    exact ⟨hstill, h₁, fun _ => h₂⟩
  · have hsame : d.freezeVf f = d.setFn f { d.fn f with busMaster := false } := Dev.freezeFn_again (d := d.setFn f { d.fn f with busMaster := false }) hf
    have hget : d.get .WIN_FRZ_STAT_FROZEN f = 1 := beq_iff_eq.mp hf
    exact ⟨hstill, by rw [hsame]; exact hget, fun h => by simp [hget] at h⟩

theorem Dev.freezeVf_other (d : Dev) {f g : Nat} (h : g ≠ f) : ((d.freezeVf f).fn g).busMaster = (d.fn g).busMaster
    ∧ (d.freezeVf f).get .WIN_FRZ_STAT_FROZEN g = d.get .WIN_FRZ_STAT_FROZEN g ∧ (d.freezeVf f).get .WIN_FRZ_STAT_CAUSE g = d.get .WIN_FRZ_STAT_CAUSE g := by
  refine ⟨?_, Dev.freezeFn_other h (.inl rfl) (by decide), Dev.freezeFn_other h (.inr rfl) (by decide)⟩
  rw [Dev.freezeVf, Dev.freezeFn_busMaster, Dev.fn_setFn_ne _ _ _ _ h]

theorem Dev.VfFrozen.freezeVf {d : Dev} {g : Nat} {c : Bool} (h : d.VfFrozen g c) (f : Nat) : (d.freezeVf f).VfFrozen g c := by
  by_cases hg : g = f
  · subst hg
    have hself := d.freezeVf_self g
    have hsame : d.freezeVf g = d.setFn g { d.fn g with busMaster := false } :=
      Dev.freezeFn_again (d := d.setFn g { d.fn g with busMaster := false }) (Dev.flag_true h.frozen)
    exact ⟨hself.still, hself.frozen, fun hc => by rw [hsame]; exact h.cause hc⟩
  · obtain ⟨h₁, h₂, h₃⟩ := d.freezeVf_other hg
    exact ⟨h₁.trans h.still, h₂.trans h.frozen, fun hc => h₃.trans (h.cause hc)⟩

/-- One after another: every function named is reached. -/
theorem Dev.freezeVfs_reach (fs : List Nat) (d : Dev) {g : Nat} (hg : g ∈ fs) :
    (fs.foldl Dev.freezeVf d).VfFrozen g (d.get .WIN_FRZ_STAT_FROZEN g == 0) := by
  induction fs generalizing d with
  | nil => cases hg
  | cons f fs ih =>
    by_cases hgf : g = f
    · subst hgf
      exact foldl_keep (P := (Dev.VfFrozen · g _)) (d.freezeVf_self g) (fun x k hx => hx.freezeVf k) fs
    · have := ih (d.freezeVf f) ((List.mem_cons.mp hg).resolve_left hgf)
      rwa [(d.freezeVf_other hgf).2.1] at this

/-! ### Bus Master Enable (R91, R431) -/

/-- HOST back in service: two flags, and no function's state in HOST. -/
theorem Dev.setService_host (d : Dev) : d.setService 34 true = (d.put .MGT_UNIT_IN_SERVICE 1 34).put .SYS_ISL_STAT_IN_SERVICE 1 34 := by
  simp [Dev.setService, Dev.putB]

/-- With no write waiting there is nothing to flush. -/
theorem Dev.flushHeld_none {d : Dev} {f : Nat} (hh : (d.fn f).held = []) :
    (d.flushHeld f).regs = d.regs ∧ (d.flushHeld f).pcie = d.pcie ∧ (∀ g, (d.flushHeld f).fn g = d.fn g) ∧ d.SameMem (d.flushHeld f) := by
  cases hw : d.mayWrite f
  · rw [Dev.flushHeld, hw, if_neg Bool.false_ne_true]
    exact ⟨rfl, rfl, fun _ => rfl, .refl⟩
  · rw [Dev.flushHeld_nil hw hh]
    refine ⟨rfl, rfl, fun g => ?_, fun _ => ⟨rfl, rfl, rfl⟩⟩
    exact Dev.fn_setFn_keeps id (by rfl) g

/-- Bus Master Enable set: the function masters, and the host has configured what the write shows. -/
def Dev.mastering (d : Dev) (fn : Fin 8) : Dev :=
  let d := { d with pcie := { d.pcie with
    vfEnable := d.pcie.vfEnable || fn.val != 0, configured := d.pcie.configured || fn.val == 0,
    numVfs := if d.pcie.vfEnable then max d.pcie.numVfs fn else fn } }
  d.setFn fn { d.fn fn with busMaster := true }

/-- Whether the write of function 0 brings HOST back (R431). -/
def Dev.hostBack (d : Dev) (fn : Fin 8) : Bool :=
  fn.val == 0 && !d.pcie.configured && !(d.island 34).faulted && !d.flag .MGT_UNIT_OUT_HOST 34

theorem execBusMasterEnable_answers {s : State} {dt : Nat} {fn : Fin 8} {P : Dev → Prop} (hp : s.dev.pcie.perst = false) (hr : s.dev.mgmt.inReset = false)
    (h : P ((if s.dev.hostBack fn then ((s.dev.elapse dt).mastering fn).setService 34 true else (s.dev.elapse dt).mastering fn).flushHeld fn)) :
    Answers (.busMasterEnable dt fn) s P := by
  refine Answers.of_act (show _ = execBusMasterEnable dt fn s from rfl) ?_
  have hon : (!(s.dev.elapse dt).pcie.perst && !(s.dev.elapse dt).mgmt.inReset) = true := by
    rw [show (s.dev.elapse dt).pcie.perst = false from hp, show (s.dev.elapse dt).mgmt.inReset = false from hr]; rfl
  rw [hon]
  exact h

theorem Dev.mastering_busMaster (d : Dev) (fn : Fin 8) : ((d.mastering fn).fn fn).busMaster = true := by rw [Dev.mastering, Dev.fn_setFn_self]

theorem Dev.mastering_held {d : Dev} {fn : Fin 8} (h : (d.fn fn).held = []) : ((d.mastering fn).fn fn).held = [] := by
  rw [Dev.mastering, Dev.fn_setFn_self]
  exact h

theorem execBusMasterEnable_resumes (s : State) (dt : Nat) (fn : Fin 8) (hp : s.dev.pcie.perst = false) (hr : s.dev.mgmt.inReset = false)
    (hc : fn.val ≠ 0 ∨ s.dev.pcie.configured = true) (hh : (s.dev.fn fn).held = []) :
    Answers (.busMasterEnable dt fn) s (fun e => (e.fn fn).busMaster = true ∧ e.pcie.configured = (s.dev.pcie.configured || fn.val == 0)
      ∧ s.dev.OnlyAt e [] ∧ s.dev.SameMem e) := by
  have hback : s.dev.hostBack fn = false := by rcases hc with hc | hc <;> simp [Dev.hostBack, hc]
  refine execBusMasterEnable_answers hp hr ?_
  rw [hback, if_neg Bool.false_ne_true]
  obtain ⟨hregs, hpcie, hfn, hmem⟩ := Dev.flushHeld_none (Dev.mastering_held (d := s.dev.elapse dt) (fn := fn) hh)
  exact ⟨by rw [hfn]; exact Dev.mastering_busMaster .., by rw [hpcie]; rfl, Dev.OnlyAt.refl.of_regs hregs, Dev.SameMem.trans (fun _ => ⟨rfl, rfl, rfl⟩) hmem⟩

theorem execBusMasterEnable_returns (s : State) (dt : Nat) (hp : s.dev.pcie.perst = false) (hr : s.dev.mgmt.inReset = false)
    (hc : s.dev.pcie.configured = false) (hf : (s.dev.island 34).faulted = false) (ho : s.dev.get .MGT_UNIT_OUT_HOST 34 = 0) (hh : (s.dev.fn 0).held = []) :
    Answers (.busMasterEnable dt 0) s (fun e => (e.fn 0).busMaster = true ∧ e.pcie.configured = true
        ∧ e.get .SYS_ISL_STAT_IN_SERVICE 34 = 1 ∧ e.get .MGT_UNIT_IN_SERVICE 34 = 1
        ∧ s.dev.OnlyAt e [(.SYS_ISL_STAT_IN_SERVICE, 34, 0), (.MGT_UNIT_IN_SERVICE, 34, 0)] ∧ s.dev.SameMem e) := by
  have hback : s.dev.hostBack 0 = true := by simp [Dev.hostBack, hc, hf, Dev.flag_false ho]
  refine execBusMasterEnable_answers hp hr ?_
  rw [hback, if_pos rfl, Dev.setService_host]
  set x := (s.dev.elapse dt).mastering 0 with hx
  obtain ⟨hregs, hpcie, hfn, hmem⟩ := Dev.flushHeld_none (d := (x.put .MGT_UNIT_IN_SERVICE 1 34).put .SYS_ISL_STAT_IN_SERVICE 1 34) (f := (0 : Fin 8))
    (Dev.mastering_held (d := s.dev.elapse dt) (fn := 0) hh)
  have honly : s.dev.OnlyAt ((x.put .MGT_UNIT_IN_SERVICE 1 34).put .SYS_ISL_STAT_IN_SERVICE 1 34)
      [(.SYS_ISL_STAT_IN_SERVICE, 34, 0), (.MGT_UNIT_IN_SERVICE, 34, 0)] :=
    ((Dev.OnlyAt.refl.of_regs (f := x) rfl).put (by simp)).put (by simp)
  have hget (F : Fld) (i : Nat) : (((x.put .MGT_UNIT_IN_SERVICE 1 34).put .SYS_ISL_STAT_IN_SERVICE 1 34).flushHeld (0 : Fin 8)).get F i
      = ((x.put .MGT_UNIT_IN_SERVICE 1 34).put .SYS_ISL_STAT_IN_SERVICE 1 34).get F i := by rw [Dev.get, hregs, Dev.get]
  refine ⟨?_, ?_, ?_, ?_, honly.of_regs hregs, Dev.SameMem.trans (fun _ => ⟨rfl, rfl, rfl⟩) hmem⟩
  · exact (congrArg HostFn.busMaster (hfn 0)).trans (Dev.mastering_busMaster (s.dev.elapse dt) 0)
  · rw [hpcie]
    exact Bool.or_true _
  · rw [hget]
    exact Dev.get_put_of_lt (by decide)
  · rw [hget, Dev.get_put_ne _ _ _ _ _ _ _ _ (by decide), Dev.get_put_of_lt (by decide)]

/-- Settles O17: Bus Master Enable is one flag of a function and what waits for it, and VF Enable cleared freezes every virtual function in turn. -/
theorem busMastering : Obligations.BusMastering := by
  refine ⟨fun s dt fn => Answers.of_act (show _ = execBusMasterDisable dt fn s from rfl) ?_, execBusMasterEnable_resumes, execBusMasterEnable_returns,
    fun s dt hv hn => Answers.of_act (show _ = execVfDisable dt s from rfl) ?_⟩
  · rw [Dev.fn_setFn_self]
    exact ⟨rfl, rfl, rfl, rfl, Dev.OnlyAt.refl.of_regs rfl, fun _ => ⟨rfl, rfl, rfl⟩⟩
  · have heq : (s.dev.elapse dt).vfDisable = (rangeFrom 1 (min totalVfs s.dev.pcie.numVfs)).foldl Dev.freezeVf
        { (s.dev.elapse dt) with pcie := { (s.dev.elapse dt).pcie with vfEnable := false } } := if_pos hv
    rw [heq]
    refine ⟨?_, fun f h1 hf => ?_⟩
    · exact foldl_keep (P := fun e : Dev => e.pcie.vfEnable = false) rfl (fun x f hx => by rw [Dev.freezeVf, (Dev.freezeFn_frame ..).pcie rfl]; exact hx) _
    · obtain ⟨h₁, h₂, h₃⟩ := Dev.freezeVfs_reach (rangeFrom 1 (min totalVfs s.dev.pcie.numVfs))
        { (s.dev.elapse dt) with pcie := { (s.dev.elapse dt).pcie with vfEnable := false } } (g := f)
        (mem_rangeFrom.mpr ⟨h1, by rw [totalVfs, Nat.min_eq_right hn]; omega⟩)
      exact ⟨h₁, h₂, fun h0 => h₃ (beq_iff_eq.mpr h0)⟩

end Sys2Proof.Machine
end

section
/-! Engine streams (O37). -/

set_option Elab.async false

namespace Sys2Proof.Machine
open Sys2Proof

/-! ### A change of one engine -/

@[simp] theorem Dev.eng_modEng_self (d : Dev) (n : Nat) (g : Engine → Engine) : (d.modEng n g).eng n = g (d.eng n) := Dev.eng_setEng_self ..

theorem Dev.eng_modEng_twice (d : Dev) (n : Nat) (g k : Engine → Engine) : ((d.modEng n g).modEng n k).eng n = k (g (d.eng n)) := by
  rw [Dev.eng_modEng_self, Dev.eng_modEng_self]

/-! ### Descriptors that join the stream (R123, R124, R126) -/

section
variable {s : State} {dt : Nat} {job op : Nat} {j : Job}

/-- An engine that has not stopped takes the descriptor: it begins, and is the last of the stream. -/
theorem Dev.joinStream_joins {d : Dev} (h : d.Takes job op j) (hs : d.stopCode j = none) :
    let e := d.withJob job op (fun d j => d.engJob j (fun d => d.joinStream j))
    (e.eng (d.execEngine j.target)).stream = (d.eng (d.execEngine j.target)).stream ++ [job] ∧ e.Begun j d.now ∧ d.OnlyAt e [] ∧ d.SameMem e := by
  have heq : d.withJob job op (fun d j => d.engJob j (fun d => d.joinStream j)) = d.joinStream j := by
    rw [Dev.withJob_takes h, Dev.engJob, hs]
  rw [heq, Dev.joinStream]
  refine ⟨?_, h.begun.of_jobs rfl, Dev.OnlyAt.refl.of_regs rfl, fun _ => ⟨rfl, rfl, rfl⟩⟩
  rw [Dev.eng_modEng_self, h.id_eq]
  rfl

/-- An engine that has stopped ends it with the code of its stop. -/
theorem Dev.engJob_stopped {d : Dev} {c : Nat} (h : d.Takes job op j) (hs : d.stopCode j = some c) (f : Dev → Job → Dev → Dev) :
    let e := d.withJob job op (fun d j => d.engJob j (f d j))
    e.Done j c ∧ e.engines = d.engines ∧ d.SameMem e := by
  have heq : d.withJob job op (fun d j => d.engJob j (f d j)) = d.complete j.id c := by
    rw [Dev.withJob_takes h, Dev.engJob, hs]
  rw [heq]
  exact ⟨d.complete_done j c h.self h.code h.replay h.orphan h.entry h.kept, (Dev.complete_frame ..).engines rfl, (Dev.complete_frame ..).sameMem⟩

theorem Dev.stopCode_none {d : Dev} {j : Job} (hd : (d.eng (d.execEngine j.target)).discard = false)
    (hs : j.vector = false ∨ d.get .ENG_GATE_STAT_SAFE_STOP (d.execEngine j.target) = 0) : d.stopCode j = none := by
  rcases hs with hs | hs
  · simp [Dev.stopCode, hd, hs]
  · simp [Dev.stopCode, hd, Dev.flag_false hs]

end

/-! ### A refill block (R101) -/

theorem fifoLevel_append (a b : List EItem) : fifoLevel (a ++ b) = fifoLevel a + fifoLevel b := by
  simp [fifoLevel]

theorem fifoLevel_records (id : Nat) (gs : List Gran) : fifoLevel (gs.map (EItem.record id)) = gs.length := by
  simp [fifoLevel, List.filter_map, Function.comp_def]

/-- What the last descriptor of a stream has left, where a block has room for it: its records go into the FIFO, and the stream is empty. -/
theorem Dev.refillStep_last {d : Dev} {n id room : Nat} {j : Job} (hs : (d.eng n).stream = [id]) (hj : d.job id = some j) (hv : j.vector = true)
    (hp : j.progress < j.records.length) (hr : j.records.length - j.progress ≤ room) :
    ∃ e, d.refillStep n room = (room - (j.records.length - j.progress), e) ∧ e.regs = d.regs
      ∧ e.eng n = { d.eng n with fifo := (d.eng n).fifo ++ (j.records.drop j.progress).map (EItem.record id), stream := [] } := by
  have htake : (j.records.drop j.progress).take room = j.records.drop j.progress := List.take_of_length_le (by simpa using hr)
  have hlen : (j.records.drop j.progress).length = j.records.length - j.progress := List.length_drop
  have hall : j.progress + (j.records.length - j.progress) = j.records.length := Nat.add_sub_of_le hp.le
  refine ⟨((d.modEng n (fun e => { e with fifo := e.fifo ++ (j.records.drop j.progress).map (.record id) })).modEng n (fun e => { e with stream := [] })).modJob id
    (fun j' => { j' with progress := j.records.length, data := j'.data.map (fun _ => []) }), ?_, rfl, ?_⟩
  · unfold Dev.refillStep
    simp only [hs, hj, hv, if_true, htake, hlen, hall]
  · exact ((Dev.modJob_frame ..).eng n rfl).trans (Dev.eng_modEng_twice ..)

theorem Dev.refillStep_empty {d : Dev} {n : Nat} (hs : (d.eng n).stream = []) (room : Nat) : d.refillStep n room = (room, d) := by
  unfold Dev.refillStep
  simp only [hs]

/-- A block stays below the FIFO's 3,840 records. -/
theorem block_fits {a c : Nat} (h0 : 0 < c) (h : c ≤ min 512 (3840 - a)) : a + c < 2 ^ 12 := by omega

theorem Dev.refill_last {d : Dev} {n id : Nat} {j : Job} (hs : (d.eng n).stream = [id]) (hj : d.job id = some j) (hv : j.vector = true)
    (hp : j.progress < j.records.length) (hr : j.records.length - j.progress ≤ min 512 (3840 - fifoLevel (d.eng n).fifo)) :
    ((d.refill n).eng n).fifo = (d.eng n).fifo ++ (j.records.drop j.progress).map (EItem.record id) ∧ ((d.refill n).eng n).stream = []
      ∧ (d.refill n).get .ENG_FIFO_LEVEL n = fifoLevel (d.eng n).fifo + (j.records.length - j.progress)
      ∧ d.OnlyAt (d.refill n) [(.ENG_FIFO_LEVEL, n, 0)] := by
  obtain ⟨x, hstep, hregs, heng⟩ := Dev.refillStep_last hs hj hv hp hr
  have hrefill : d.refill n = (x.put .ENG_FIFO_LEVEL (fifoLevel (x.eng n).fifo) n).modEng n (fun e => { e with dry := false }) := by
    have hempty := Dev.refillStep_empty (d := x) (n := n) (by rw [heng])
    have hroom : min 512 (3840 - fifoLevel (d.eng n).fifo) ≠ 0 := Nat.ne_of_gt (lt_of_lt_of_le (Nat.sub_pos_of_lt hp) hr)
    have hpasses : List.range ((d.eng n).stream.length + 1) = [0, 1] := by rw [hs]; rfl
    unfold Dev.refill
    rw [hpasses]
    simp only [List.foldl_cons, List.foldl_nil, if_neg hroom, hstep, hempty, ite_self]
  have hlevel : fifoLevel (x.eng n).fifo = fifoLevel (d.eng n).fifo + (j.records.length - j.progress) := by
    rw [heng, fifoLevel_append, fifoLevel_records, List.length_drop]
  have hwidth : fifoLevel (x.eng n).fifo < 2 ^ Fld.width .ENG_FIFO_LEVEL := by
    rw [hlevel, show Fld.width .ENG_FIFO_LEVEL = 12 from rfl]
    exact block_fits (Nat.sub_pos_of_lt hp) hr
  have honly : d.OnlyAt (x.put .ENG_FIFO_LEVEL (fifoLevel (x.eng n).fifo) n) [(.ENG_FIFO_LEVEL, n, 0)] :=
    Dev.OnlyAt.put (Dev.OnlyAt.of_regs .refl hregs) (List.mem_singleton_self _)
  rw [hrefill]
  refine ⟨by rw [Dev.eng_modEng_self, Dev.eng_put, heng], by rw [Dev.eng_modEng_self, Dev.eng_put, heng], ?_, honly.of_regs rfl⟩
  exact (Dev.get_put_of_lt hwidth).trans hlevel


/-! ### Entering the look-ahead (R131) -/

theorem Dev.atRest_busy {d : Dev} {n : Nat} (h : (d.eng n).plans ≠ []) : d.atRest n = false := by
  simp [Dev.atRest, h]

/-- Nothing comes into force for an engine that has something planned. -/
theorem Dev.restActs_busy {d : Dev} {n : Nat} (h : (d.eng n).plans ≠ []) : d.restActs n = d := by
  simp [Dev.restActs, Dev.atRest_busy h]

/-- The head of an engine's FIFO is taken. -/
def Dev.popFifo (d : Dev) (n : Nat) (rest : List EItem) : Dev :=
  (d.modEng n (fun e => { e with fifo := rest })).put .ENG_FIFO_LEVEL (fifoLevel rest) n

@[simp] theorem Dev.eng_popFifo (d : Dev) (n : Nat) (rest : List EItem) : (d.popFifo n rest).eng n = { d.eng n with fifo := rest } := by
  rw [Dev.popFifo, Dev.eng_put, Dev.eng_modEng_self]

theorem Dev.popFifo_frame (d : Dev) (n : Nat) (rest : List EItem) :
    Frame 0x80000000000000000000000000000000000000000000000000008000000 d (d.popFifo n rest) :=
  ((Dev.modEng_frame ..).mono (by decide +kernel)).step' (Dev.put_frame ..) (by decide +kernel)

theorem Dev.popFifo_level (d : Dev) (n : Nat) (rest : List EItem) : (d.popFifo n rest).get .ENG_FIFO_LEVEL n = fifoLevel rest % 4096 :=
  Dev.get_put_self ..

theorem Dev.enterNext_record {d : Dev} {n id : Nat} {g : Gran} {rest : List EItem} (h : (d.eng n).fifo = .record id g :: rest) :
    d.enterNext n = (d.popFifo n rest).enterRecord n id g := by
  unfold Dev.enterNext
  rw [h]
  rfl

theorem Dev.enterNext_limits {d : Dev} {n id : Nat} {j : Job} {rest : List EItem} (h : (d.eng n).fifo = .limits id :: rest) (hj : d.job id = some j) :
    d.enterNext n = (d.popFifo n rest).modEng n (fun e => { e with newLims := e.newLims ++ [(id, j.lims)] }) := by
  unfold Dev.enterNext
  rw [h]
  simp only []
  rw [show ((d.modEng n (fun e => { e with fifo := rest })).put .ENG_FIFO_LEVEL (fifoLevel rest) n).job id = some j from hj]
  rfl

theorem Dev.enterShown_frame (d : Dev) (n : Nat) :
    Frame 0x2000ffe000000000000608000000000000000000000000000000000000000000000000000000000000000000000000000000000000000000000004000000000013000000080240000080101ff0c201400000000008a000000000000000000000000000e229504 d
      ((((d.restActs n).enterNext n).restActs n).showState n) :=
  ((((Dev.restActs_frame d n).mono (by decide +kernel)).step' (Dev.enterNext_frame ..) (by decide +kernel)).step' (Dev.restActs_frame ..)
    (by decide +kernel)).step' (Dev.showState_frame ..) (by decide +kernel)

/-- An engine with something planned takes the head of its FIFO. -/
theorem Dev.recordEnters {s : State} {dt : Nat} {n : Fin 34} {P : Dev → Prop} (hp : (s.dev.eng n).plans ≠ []) (hl : (s.dev.eng n).look.length < 512)
    (hk : ((s.dev.elapse dt).enterNext n |>.eng n).plans ≠ [])
    (h : ∀ e, Frame 0x100000000000000000000000000000000000000000000000000000000 ((s.dev.elapse dt).enterNext n) e → s.dev.SameMem e → P e) :
    Answers (.recordEnterLookahead dt n) s P := by
  refine Answers.of_act (show _ = execRecordEnterLookahead dt n s from rfl) ?_
  have hmem := ((s.dev.elapse dt).enterShown_frame n).sameMem
  have hl' : ((s.dev.elapse dt).eng n).look.length < 512 := hl
  rw [Dev.when, if_pos (decide_eq_true hl')]
  rw [Dev.restActs_busy (d := s.dev.elapse dt) hp, Dev.restActs_busy hk] at hmem ⊢
  exact h _ (Dev.showState_frame ..) hmem

/-- What planning the last record again keeps of an engine. -/
structure Engine.Kept (a b : Engine) : Prop where
  fifo : b.fifo = a.fifo
  look : b.look = a.look
  nextSer : b.nextSer = a.nextSer
  plans : a.plans ≠ [] → b.plans ≠ []

theorem Engine.Kept.refl {a : Engine} : a.Kept a := ⟨rfl, rfl, rfl, id⟩

theorem Engine.Kept.modEng {a : Engine} {d : Dev} {n : Nat} {g : Engine → Engine} (h : a.Kept (d.eng n)) (hg : (d.eng n).Kept (g (d.eng n))) :
    a.Kept ((d.modEng n g).eng n) := by
  rw [Dev.eng_modEng_self]
  exact ⟨hg.fifo.trans h.fifo, hg.look.trans h.look, hg.nextSer.trans h.nextSer, fun hp => hg.plans (h.plans hp)⟩

theorem Engine.Kept.modGate {a : Engine} {d : Dev} {n : Nat} {g : Gate → Gate} (h : a.Kept (d.eng n)) : a.Kept ((d.modGate n g).eng n) :=
  h.modEng ⟨rfl, rfl, rfl, id⟩

theorem Engine.Kept.closeTrain {a : Engine} {d : Dev} {n : Nat} (h : a.Kept (d.eng n)) (t : Nat) : a.Kept ((d.closeTrain n t).eng n) := by
  unfold Dev.closeTrain
  simp only []
  split
  · split_ifs
    · exact h
    · exact h.modGate.modGate
    · exact h.modGate
    · rw [(Dev.bump_frame ..).eng n (by decide +kernel)]
      exact h.modGate
    · exact h.modGate
  · exact h

theorem Dev.replan_kept (d : Dev) (n : Nat) : (d.eng n).Kept ((d.replan n).eng n) := by
  unfold Dev.replan
  simp only []
  split
  · split_ifs
    · exact (Engine.Kept.refl.modEng ⟨rfl, rfl, rfl, fun _ => by simp⟩).modGate.closeTrain _
    · exact (Engine.Kept.refl.modEng ⟨rfl, rfl, rfl, fun _ => by simp⟩).modGate
    · exact Engine.Kept.refl.modEng ⟨rfl, rfl, rfl, fun _ => by simp⟩
    · exact .refl
    · exact .refl
  · exact .refl

/-! ### A marker (R131) -/

/-- A record that the field check does not see passes where its bank is valid. -/
theorem Dev.enterRecord_marker {d : Dev} {n id : Nat} {g : Gran} (hc : recCls g.toNat = 6) (hb : ∀ b, d.bankFor n = some b → b.valid = true) :
    let e := d.enterRecord n id g
    (d.eng n).fifo = (e.eng n).fifo ∧ (e.eng n).look.map (·.ser) = (d.eng n).look.map (·.ser) ++ [(d.eng n).nextSer]
      ∧ (e.eng n).nextSer = (d.eng n).nextSer + 1 ∧ ((d.eng n).plans ≠ [] → (e.eng n).plans ≠ [])
      ∧ e.get .ENG_FIFO_LEVEL n = d.get .ENG_FIFO_LEVEL n := by
  have hcls : (d.parseRec n id g.toNat).cls = 6 := hc
  have hcount : d.countScarf n g = d := by
    unfold Dev.countScarf
    exact if_neg (by rw [show bitsOf g.toNat 115 112 = 6 from hc]; decide)
  have hpath (p : Pt) (r : LRec) (l : Lims) (hr : r.cls = 6) : recordPath p r l = [] := by simp [recordPath, LRec.clear, hr]
  have hbank : ((d.bankFor n).any fun b => !b.polyOk []) = false := by
    cases h : d.bankFor n with
    | none => rfl
    | some b => simp [Bank.polyOk, hb b h]
  unfold Dev.enterRecord
  simp only [hcls, hcount, show ¬ ((6 : Nat) = 7) by decide, false_and, if_false]
  rw [hpath, hbank]
  rotate_left
  · exact rfl
  simp only [Bool.false_eq_true, if_false]
  generalize hx : d.modEng n _ = x
  have heng : x.eng n = { d.eng n with look := (x.eng n).look, nextSer := (d.eng n).nextSer + 1, tail := (x.eng n).tail } := by
    rw [← hx, Dev.eng_modEng_self]
  have hlook : (x.eng n).look.map (·.ser) = (d.eng n).look.map (·.ser) ++ [(d.eng n).nextSer] := by
    rw [← hx, Dev.eng_modEng_self]; simp [Dev.parseRec]
  have hreg : x.regs = d.regs := by rw [← hx]; rfl
  have hk := x.replan_kept n
  refine ⟨?_, ?_, ?_, fun hp => hk.plans ?_, ?_⟩
  · rw [hk.fifo, heng]
  · rw [hk.look, hlook]
  · rw [hk.nextSer, heng]
  · rwa [heng]
  · rw [(Dev.replan_frame ..).get _ _ _ (by decide +kernel)]
    simp only [Dev.get, hreg]


/-! ### A record that the correction bank cannot place (R177) -/

/-- An invalid bank passes no path. -/
theorem Bank.polyOk_invalid {b : Bank} (h : b.valid = false) : ∀ ps, b.polyOk ps = false
  | [] => h
  | [_] => by simp [Bank.polyOk, Bank.lineOk, h]
  | _ :: _ :: _ => by simp [Bank.polyOk, Bank.lineOk, h]

theorem Dev.enterRecord_invalid {d : Dev} {n id : Nat} {g : Gran} {b : Bank} (hc : recCls g.toNat ≠ 7) (hb : d.bankFor n = some b)
    (hv : b.valid = false) : ∃ r p, r.job = id ∧ d.enterRecord n id g = d.outOfField n r p := by
  have hcls : (d.parseRec n id g.toNat).cls ≠ 7 := hc
  have hcount : d.countScarf n g = d := if_neg (show bitsOf g.toNat 115 112 ≠ 7 from hc)
  refine ⟨d.parseRec n id g.toNat, ?_⟩
  unfold Dev.enterRecord
  simp only [hcls, hcount, hb, false_and, if_false, Option.any_some, Bank.polyOk_invalid hv, Bool.not_false, if_true]
  exact ⟨_, rfl, rfl⟩

/-- The end of the motion before a failing record: what was planned stays planned, and no record leaves the look-ahead. -/
theorem Engine.endsHere_keeps (e : Engine) (before : LRec → Bool) :
    (e.endsHere before).look.map (·.ser) = e.look.map (·.ser) ∧ (e.endsHere before).fifo = e.fifo
      ∧ (e.plans ≠ [] → (e.endsHere before).plans ≠ []) := by
  unfold Engine.endsHere
  split
  · refine ⟨?_, rfl, id⟩
    simp only [List.map_map]
    exact List.map_congr_left fun r _ => by simp only [Function.comp]; split <;> rfl
  · split
    · exact ⟨rfl, rfl, fun _ => by simp⟩
    · exact ⟨rfl, rfl, id⟩

theorem Dev.countScarf_eng (d : Dev) (n : Nat) (g : Gran) : ∃ v, (d.countScarf n g).eng n = { d.eng n with vidx := v } := by
  unfold Dev.countScarf
  simp only []
  split
  · exact ⟨_, Dev.eng_modEng_self ..⟩
  · exact ⟨(d.eng n).vidx, rfl⟩

theorem Dev.countScarfs_eng (d : Dev) (n : Nat) (gs : List Gran) :
    ∃ v, (gs.foldl (fun d g => d.countScarf n g) d).eng n = { d.eng n with vidx := v } :=
  foldl_keep (P := fun x : Dev => ∃ v, x.eng n = { d.eng n with vidx := v }) ⟨(d.eng n).vidx, rfl⟩ (fun x g ⟨v, hv⟩ => by
    obtain ⟨u, hu⟩ := x.countScarf_eng n g
    exact ⟨u, by rw [hu, hv]⟩) gs

theorem self_mem_insertOnce (k : Nat) (l : List Nat) : k ∈ insertOnce k l := by
  induction l with
  | nil => simp [insertOnce]
  | cons x xs ih =>
    simp only [insertOnce]
    split_ifs with hlt heq
    · simp
    · simp [heq]
    · simp [ih]

/-- What of an engine's FIFO is not of a descriptor. -/
def fifoWithout (id : Nat) (l : List EItem) : List EItem := l.filter (fun x => match x with | .record k _ => k != id | _ => true)

theorem Dev.discardRest_eng (d : Dev) (n id : Nat) :
    ((d.discardRest n id).eng n).fifo = fifoWithout id (d.eng n).fifo ∧ ((d.discardRest n id).eng n).look = (d.eng n).look
      ∧ ((d.discardRest n id).eng n).plans = (d.eng n).plans ∧ id ∈ ((d.discardRest n id).eng n).outField := by
  obtain ⟨v, hv⟩ := d.countScarfs_eng n (d.recsAhead n (· == id))
  unfold Dev.discardRest Dev.discardRecs
  generalize ((d.recsAhead n (· == id)).foldl (fun d g => d.countScarf n g) d) = x at hv ⊢
  simp only [Dev.eng_put, Dev.eng_modEng_self, hv]
  exact ⟨rfl, trivial, trivial, self_mem_insertOnce ..⟩

theorem Dev.outOfField_busy {d : Dev} {n : Nat} {r : LRec} (p : Pt) (hp : (d.eng n).plans ≠ []) (hl : d.logs) :
    let e := d.outOfField n r p
    e.get .COR_STAT_OUT_FIELD n = 1 ∧ e.Recorded 0x0304 4 ∧ r.job ∈ (e.eng n).outField
      ∧ (e.eng n).look.map (·.ser) = (d.eng n).look.map (·.ser) ∧ (e.eng n).fifo = fifoWithout r.job (d.eng n).fifo ∧ (e.eng n).plans ≠ [] := by
  unfold Dev.outOfField
  simp only []
  have hrec : ((d.raise .COR_STAT_OUT_FIELD n).record 0x0304 4 (recSource n 0) 0 (p32 p.x) (p32 p.y)).Recorded 0x0304 4 :=
    (hl.frame (Dev.raise_frame ..)).accepts 4 |>.recorded ..
  have hraised : ((d.raise .COR_STAT_OUT_FIELD n).record 0x0304 4 (recSource n 0) 0 (p32 p.x) (p32 p.y)).get .COR_STAT_OUT_FIELD n = 1 :=
    ((Dev.record_frame ..).get _ _ _ (by decide +kernel)).trans Dev.get_raise
  have heng : ((d.raise .COR_STAT_OUT_FIELD n).record 0x0304 4 (recSource n 0) 0 (p32 p.x) (p32 p.y)).eng n = d.eng n :=
    ((Dev.record_frame ..).eng n rfl).trans rfl
  generalize (d.raise .COR_STAT_OUT_FIELD n).record _ _ _ _ _ _ = x at hrec hraised heng ⊢
  have hends := (x.eng n).endsHere_keeps (fun y => decide (y.ser < r.ser))
  have hy : (x.modEng n (fun e => e.endsHere (fun y => decide (y.ser < r.ser)))).eng n = (x.eng n).endsHere (fun y => decide (y.ser < r.ser)) :=
    Dev.eng_modEng_self ..
  have hrec' : (x.modEng n (fun e => e.endsHere (fun y => decide (y.ser < r.ser)))).Recorded 0x0304 4 := hrec
  have hraised' : (x.modEng n (fun e => e.endsHere (fun y => decide (y.ser < r.ser)))).get .COR_STAT_OUT_FIELD n = 1 := hraised
  generalize x.modEng n _ = y at hy hrec' hraised' ⊢
  rw [heng] at hends hy
  obtain ⟨hlook, hfifo, hplans⟩ := hends
  obtain ⟨hf, hlk, hpl, hout⟩ := y.discardRest_eng n r.job
  have hbusy : ((y.discardRest n r.job).eng n).plans ≠ [] := by rw [hpl, hy]; exact hplans hp
  simp only [Dev.atRest_busy hbusy, Bool.false_eq_true, if_false]
  refine ⟨((Dev.discardRest_frame ..).get _ _ _ (by decide +kernel)).trans hraised', hrec'.frame (Dev.discardRest_frame ..), hout, ?_, ?_, hbusy⟩
  · rw [hlk, hy, hlook]
  · rw [hf, hy, hfifo]


/-! ### What an engine rest leaves of an engine (R137) -/

/-- What registers and calibration values that come into force at a rest keep of an engine. -/
structure Engine.Latched (a b : Engine) : Prop where
  look : b.look = a.look
  tail : b.tail = a.tail
  parking : b.parking = a.parking
  moves : b.moves = a.moves
  newLims : b.newLims = a.newLims
  outField : b.outField = a.outField

theorem Engine.Latched.refl {a : Engine} : a.Latched a := ⟨rfl, rfl, rfl, rfl, rfl, rfl⟩

theorem Engine.Latched.trans {a b c : Engine} (h : a.Latched b) (k : b.Latched c) : a.Latched c :=
  ⟨k.look.trans h.look, k.tail.trans h.tail, k.parking.trans h.parking, k.moves.trans h.moves, k.newLims.trans h.newLims, k.outField.trans h.outField⟩

theorem Dev.latched_modEng {d : Dev} {n : Nat} {g : Engine → Engine} (h : (d.eng n).Latched (g (d.eng n))) : (d.eng n).Latched ((d.modEng n g).eng n) := by
  rwa [Dev.eng_modEng_self]

theorem Dev.latched_of_engines {d e : Dev} (h : e.engines = d.engines) (n : Nat) : (d.eng n).Latched (e.eng n) := by
  rw [Dev.eng, Dev.eng, h]; exact .refl

theorem Dev.bringFresh_engines (d : Dev) (p : RegCell → Bool) : (d.bringFresh p).engines = d.engines := by
  unfold Dev.bringFresh
  have hput (x : Dev) (c : RegCell) (hx : x.engines = d.engines) : (x.put c.fld c.val c.i c.j).engines = d.engines := hx
  refine foldl_keep (P := fun x : Dev => x.engines = d.engines) ?_ hput _
  rfl

theorem Dev.sliceChanged_latched (d : Dev) (n : Nat) : (d.eng n).Latched ((d.sliceChanged n).eng n) := by
  unfold Dev.sliceChanged
  simp only []
  refine .trans (Dev.latched_of_engines ?_ n) (Dev.latched_modEng ⟨rfl, rfl, rfl, rfl, rfl, rfl⟩)
  split <;> rfl

theorem Dev.restSlice_latched (d : Dev) (n : Nat) : (d.eng n).Latched ((d.restSlice n).eng n) := by
  unfold Dev.restSlice
  simp only []
  split
  · exact .trans (Dev.latched_of_engines (d.bringFresh_engines _) n) (Dev.sliceChanged_latched ..)
  · exact .refl

theorem Dev.restLatch_latched (d : Dev) (n : Nat) : (d.eng n).Latched ((d.restLatch n).eng n) := by
  unfold Dev.restLatch
  simp only []
  split
  · refine .trans (.trans ?_ (Dev.latched_of_engines ((Dev.bringFresh_engines ..).trans ((Dev.latchWhere_frame ..).engines rfl)) n)) (Dev.restSlice_latched ..)
    exact Dev.latched_modEng ⟨rfl, rfl, rfl, rfl, rfl, rfl⟩
  · exact Dev.latched_modEng ⟨rfl, rfl, rfl, rfl, rfl, rfl⟩

theorem Dev.endCut_nil {d : Dev} {n : Nat} (h : (d.eng n).outField = []) (t : Nat) : d.endCut n t = d := by
  unfold Dev.endCut
  simp [h]

/-- At a rest with no descriptor cut short and no limits waiting, registers come into force and nothing else happens. -/
theorem Dev.restActs_still {d : Dev} {n : Nat} (h : d.atRest n = true) (hl : (d.eng n).newLims = []) (ho : (d.eng n).outField = []) :
    d.restActs n = d.restLatch n := by
  have hk := d.restLatch_latched n
  unfold Dev.restActs
  rw [if_pos h]
  simp only []
  rw [Dev.endCut_nil (hk.outField.trans ho), hk.newLims.trans hl]
  simp

/-! ### Parking (R125) -/

theorem execEngPark_parks {s : State} {dt job n : Nat} {j : Job} (h : s.dev.Takes job 0x32 j) (hn : s.dev.execEngine j.target = n)
    (he : s.dev.earlierDone j = true) (hr : (s.dev.elapse dt).atRest n = true) (hp : (s.dev.eng n).parking = none)
    (hl : (s.dev.eng n).newLims = []) (ho : (s.dev.eng n).outField = []) (hd : (s.dev.eng n).discard = false) :
    Answers (.engPark dt job) s (fun e => e.get .ENG_STAT_STATE n = 4 ∧ (e.eng n).parking = some (some job) ∧ e.Begun j (s.dev.now + dt)
      ∧ (e.eng n).look = (s.dev.eng n).look ∧ (e.eng n).tail = (s.dev.eng n).tail ∧ s.dev.SameMem e) := by
  refine Answers.of_act (show _ = execEngPark dt job s from rfl) ?_
  have ht := h.elapse dt
  have hstop : (s.dev.elapse dt).stopCode j = none := Dev.stopCode_none (show (s.dev.eng (s.dev.execEngine j.target)).discard = false by rw [hn]; exact hd)
    (.inl (by simp [Job.vector, h.opcode]))
  have hcond : ((s.dev.elapse dt).earlierDone j && (s.dev.elapse dt).atRest n && ((s.dev.elapse dt).eng n).parking.isNone) = true := by
    rw [hr, show (s.dev.elapse dt).earlierDone j = true from he, show ((s.dev.elapse dt).eng n).parking = none from hp]; rfl
  have heng : (s.dev.elapse dt).execEngine j.target = n := hn
  simp only [Dev.withJob_takes ht, Dev.engJob, hstop, heng, hcond, if_true]
  rw [Dev.restActs_still hr hl ho]
  have hk : (s.dev.eng n).Latched (((s.dev.elapse dt).restLatch n).eng n) := (s.dev.elapse dt).restLatch_latched n
  have hf := (s.dev.elapse dt).restLatch_frame n
  generalize (s.dev.elapse dt).restLatch n = x at hk hf
  have hbegun : (x.begin' j).Begun j (s.dev.now + dt) := by
    rw [show s.dev.now + dt = x.now from (hf.now rfl).symm]
    exact x.begin_begun j (by rw [Dev.job, hf.jobs rfl]; exact ht.self)
  unfold Dev.beginPark
  refine ⟨Dev.get_put_of_lt (by decide), ?_, hbegun.of_jobs rfl, ?_, ?_, ?_⟩
  · rw [Dev.eng_put, Dev.eng_modEng_self, ht.id_eq]
  · rw [Dev.eng_put, Dev.eng_modEng_self]; exact hk.look
  · rw [Dev.eng_put, Dev.eng_modEng_self]; exact hk.tail
  · exact hf.sameMem

/-! ### The park position reached (R125) -/

/-- What happens at a rest keeps an engine's park order and its moves. -/
structure Dev.Parks (d : Dev) (n : Nat) (p : Option (Option Nat)) (ms : List Piece) : Prop where
  parking : (d.eng n).parking = p
  moves : (d.eng n).moves = ms

/-- A rest keeps what every frame beside engines, held descriptors and rings keeps, and what completions and changes of an engine's stream keep. -/
theorem Dev.restActs_keeps {P : Dev → Prop} {d : Dev} (n : Nat) (h : P d) (hlatch : ∀ x, P x → P (x.restLatch n))
    (hmod : ∀ x g, (∀ e : Engine, (g e).parking = e.parking ∧ (g e).moves = e.moves) → P x → P (x.modEng n g))
    (hwrite : ∀ x l, P x → P (x.writeLims n l)) (hdone : ∀ x id c t, P x → P (x.completeAt id c t)) : P (d.restActs n) := by
  have hcuts (x : Dev) (t : Nat) (hx : P x) : P (x.endCut n t) := by
    unfold Dev.endCut
    simp only []
    split
    · exact hx
    · refine foldl_keep ?_ (fun y _ hy => hdone y _ _ _ hy) _
      exact hmod _ _ (fun _ => ⟨rfl, rfl⟩) hx
  have hlims (x : Dev) (id : Nat) (hx : P x) : P (x.applyLims n id) := by
    unfold Dev.applyLims
    refine foldl_keep ?_ (fun y _ hy => hdone _ _ _ _ (hwrite y _ hy)) _
    exact hmod _ _ (fun _ => ⟨rfl, rfl⟩) hx
  unfold Dev.restActs
  split
  · simp only []
    split
    · split
      · exact hlims _ _ (hcuts _ _ (hlatch _ h))
      · exact hcuts _ _ (hlatch _ h)
    · exact hcuts _ _ (hlatch _ h)
  · exact h

theorem Dev.restActs_parks {d : Dev} {n : Nat} {p : Option (Option Nat)} {ms : List Piece} (h : d.Parks n p ms) : (d.restActs n).Parks n p ms := by
  refine Dev.restActs_keeps (P := (Dev.Parks · n p ms)) n h (fun x hx => ?_) (fun x g hg hx => ?_) (fun x l hx => ?_) (fun x id c t hx => ?_)
  · exact ⟨(x.restLatch_latched n).parking.trans hx.parking, (x.restLatch_latched n).moves.trans hx.moves⟩
  · obtain ⟨hpk, hmv⟩ := hg (x.eng n)
    exact ⟨by rw [Dev.eng_modEng_self, hpk, hx.parking], by rw [Dev.eng_modEng_self, hmv, hx.moves]⟩
  · have he := (Dev.writeLims_frame x n l).eng n (by decide +kernel)
    exact ⟨by rw [he]; exact hx.parking, by rw [he]; exact hx.moves⟩
  · have he := (Dev.completeAt_frame x id c t).eng n (by decide +kernel)
    exact ⟨by rw [he]; exact hx.parking, by rw [he]; exact hx.moves⟩

theorem Dev.restActs_done {d : Dev} {n : Nat} {j : Job} {code : Nat} (h : d.Done j code) : (d.restActs n).Done j code :=
  Dev.restActs_keeps (P := (Dev.Done · j code)) n h (fun _ hx => hx.frame (Dev.restLatch_frame ..)) (fun _ _ _ hx => hx.of rfl rfl)
    (fun _ _ hx => hx.frame (Dev.writeLims_frame ..)) (fun _ id c t hx => hx.completeAt id c t)

theorem execParkDone_parked {s : State} {dt job : Nat} {n : Fin 34} {j : Job} (hp : (s.dev.eng n).parking = some (some job))
    (hplans : (s.dev.eng n).plans = []) (hm : endOf 0 (s.dev.eng n).moves ≤ s.dev.now + dt) (hst : s.dev.get .ENG_STAT_STATE n = 4) (h : s.dev.Ends job j) :
    Answers (.parkDone dt n) s (fun e => e.get .ENG_STAT_STATE n = 5 ∧ (e.eng n).parking = none ∧ (e.eng n).moves = [] ∧ e.Done j 0
      ∧ s.dev.SameMem e) := by
  refine Answers.of_act (show _ = execParkDone dt n s from rfl) ?_
  have hp' : ((s.dev.elapse dt).eng n).parking = some (some job) := hp
  have hcond : endOf 0 ((s.dev.elapse dt).eng n).moves ≤ (s.dev.elapse dt).now ∧ ((s.dev.elapse dt).eng n).plans.isEmpty = true :=
    ⟨hm, by rw [show ((s.dev.elapse dt).eng n).plans = [] from hplans]; rfl⟩
  simp only [hp', if_pos hcond, Dev.parked]
  generalize hx : (s.dev.elapse dt).modEng n _ = x
  have heng : x.Parks n none [] := by rw [← hx]; exact ⟨by rw [Dev.eng_modEng_self], by rw [Dev.eng_modEng_self]⟩
  have hends : x.Ends job j := by rw [← hx]; exact (h.elapse dt).frame (Dev.modEng_frame ..)
  have hstate : x.get .ENG_STAT_STATE n = 4 := by rw [← hx]; exact hst
  have hsame : s.dev.SameMem x := by rw [← hx]; exact fun _ => ⟨rfl, rfl, rfl⟩
  rw [if_pos hstate]
  have hput : (x.put .ENG_STAT_STATE 5 n).get .ENG_STAT_STATE n = 5 := Dev.get_put_of_lt (by decide)
  have heng' : (x.put .ENG_STAT_STATE 5 n).Parks n none [] := ⟨heng.parking, heng.moves⟩
  have hends' : (x.put .ENG_STAT_STATE 5 n).Ends job j := hends.frame (Dev.put_frame ..)
  have hsame' : s.dev.SameMem (x.put .ENG_STAT_STATE 5 n) := hsame
  generalize x.put .ENG_STAT_STATE 5 n = y at hput heng' hends' hsame'
  have hf := y.completeAt_frame job 0 (endOf 0 ((s.dev.elapse dt).eng n).moves)
  have hdone := hends'.completeAt 0 (endOf 0 ((s.dev.elapse dt).eng n).moves)
  have hz : (y.completeAt job 0 (endOf 0 ((s.dev.elapse dt).eng n).moves)).Parks n none [] :=
    ⟨by rw [hf.eng n (by decide +kernel)]; exact heng'.parking, by rw [hf.eng n (by decide +kernel)]; exact heng'.moves⟩
  have hput' := (hf.get .ENG_STAT_STATE n 0 (by decide +kernel)).trans hput
  have hsz := hsame'.trans hf.sameMem
  generalize y.completeAt job 0 _ = z at hdone hz hput' hsz ⊢
  obtain ⟨hpk, hmv⟩ := Dev.restActs_parks hz
  exact ⟨((Dev.restActs_frame ..).get _ _ _ (by decide +kernel)).trans hput', hpk, hmv, Dev.restActs_done hdone, hsz.trans (Dev.restActs_frame z n).sameMem⟩


/-! ### The commands of the stream -/

section Cmd
variable {s : State} {dt : Nat} {n : Fin 34} {id : Nat}

theorem execFifoRefillDone_last {j : Job} (hu : s.dev.inService 35 = true) (hs : (s.dev.eng n).stream = [id]) (hj : s.dev.job id = some j)
    (hv : j.vector = true) (hlow : fifoLevel (s.dev.eng n).fifo < s.dev.fifoLow n) (hp : j.progress < j.records.length)
    (hr : j.records.length - j.progress ≤ min 512 (3840 - fifoLevel (s.dev.eng n).fifo)) :
    Answers (.fifoRefillDone dt n) s (fun e =>
      (e.eng n).fifo = (s.dev.eng n).fifo ++ (j.records.drop j.progress).map (EItem.record id) ∧ (e.eng n).stream = []
        ∧ e.get .ENG_FIFO_LEVEL n = fifoLevel (s.dev.eng n).fifo + (j.records.length - j.progress)
        ∧ s.dev.OnlyAt e [(.ENG_FIFO_LEVEL, n, 0)] ∧ s.dev.SameMem e) := by
  refine Answers.of_act (show _ = execFifoRefillDone dt n s from rfl) ?_
  have hcond : ((s.dev.elapse dt).inService 35 && decide (fifoLevel ((s.dev.elapse dt).eng n).fifo < (s.dev.elapse dt).fifoLow n)
      && !((s.dev.elapse dt).eng n).stream.isEmpty) = true := by
    rw [show (s.dev.elapse dt).inService 35 = true from hu, show ((s.dev.elapse dt).eng n).stream = [id] from hs,
      decide_eq_true (show fifoLevel ((s.dev.elapse dt).eng n).fifo < (s.dev.elapse dt).fifoLow n from hlow)]
    rfl
  rw [Dev.when, if_pos hcond]
  obtain ⟨hfifo, hstream, hlevel, honly⟩ := Dev.refill_last (d := s.dev.elapse dt) hs hj hv hp hr
  have hmem := ((s.dev.elapse dt).refill_frame n).sameMem
  exact ⟨hfifo, hstream, hlevel, honly, hmem⟩

theorem execRecordEnter_marker {g : Gran} {rest : List EItem} (h : (s.dev.eng n).fifo = .record id g :: rest) (hc : recCls g.toNat = 6)
    (hp : (s.dev.eng n).plans ≠ []) (hl : (s.dev.eng n).look.length < 512) (hb : ∀ b, s.dev.bankFor n = some b → b.valid = true) :
    Answers (.recordEnterLookahead dt n) s (fun e => (e.eng n).fifo = rest ∧ e.get .ENG_FIFO_LEVEL n = fifoLevel rest % 4096
      ∧ (e.eng n).look.map (·.ser) = (s.dev.eng n).look.map (·.ser) ++ [(s.dev.eng n).nextSer]
      ∧ (e.eng n).nextSer = (s.dev.eng n).nextSer + 1 ∧ s.dev.SameMem e) := by
  have hpop : ((s.dev.elapse dt).popFifo n rest).eng n = { s.dev.eng n with fifo := rest } := Dev.eng_popFifo ..
  have hbank : ((s.dev.elapse dt).popFifo n rest).bankFor n = s.dev.bankFor n := by
    unfold Dev.bankFor; rw [hpop]
  obtain ⟨hfifo, hlook, hser, hplans, hlevel⟩ := Dev.enterRecord_marker (d := (s.dev.elapse dt).popFifo n rest) (n := n) (id := id) hc (by rwa [hbank])
  have henter := Dev.enterNext_record (d := s.dev.elapse dt) h
  rw [← henter] at hfifo hlook hser hplans hlevel
  rw [hpop] at hfifo hlook hser hplans
  refine Dev.recordEnters hp hl (hplans hp) fun e hf hmem => ?_
  have he := hf.eng n (by decide +kernel)
  exact ⟨by rw [he]; exact hfifo.symm, ((hf.get _ _ _ (by decide +kernel)).trans hlevel).trans (Dev.popFifo_level ..), by rw [he]; exact hlook,
    by rw [he]; exact hser, hmem⟩

theorem execRecordEnter_limits {j : Job} {rest : List EItem} (h : (s.dev.eng n).fifo = .limits id :: rest) (hj : s.dev.job id = some j)
    (hp : (s.dev.eng n).plans ≠ []) (hl : (s.dev.eng n).look.length < 512) :
    Answers (.recordEnterLookahead dt n) s (fun e => (e.eng n).fifo = rest ∧ (e.eng n).newLims = (s.dev.eng n).newLims ++ [(id, j.lims)]
      ∧ (e.eng n).look = (s.dev.eng n).look ∧ s.dev.SameMem e) := by
  have heng : ((s.dev.elapse dt).enterNext n).eng n = { s.dev.eng n with fifo := rest, newLims := (s.dev.eng n).newLims ++ [(id, j.lims)] } := by
    rw [Dev.enterNext_limits (d := s.dev.elapse dt) h hj, Dev.eng_modEng_self, Dev.eng_popFifo]
    rfl
  refine Dev.recordEnters hp hl (by rw [heng]; exact hp) fun e hf hmem => ?_
  rw [hf.eng n (by decide +kernel), heng]
  exact ⟨rfl, rfl, rfl, hmem⟩

theorem execRecordEnter_outOfField {g : Gran} {rest : List EItem} {b : Bank} (h : (s.dev.eng n).fifo = .record id g :: rest)
    (hc : recCls g.toNat ≠ 7) (hp : (s.dev.eng n).plans ≠ []) (hl : (s.dev.eng n).look.length < 512) (hb : s.dev.bankFor n = some b)
    (hv : b.valid = false) (hlogs : s.dev.logs) :
    Answers (.recordEnterLookahead dt n) s (fun e => e.get .COR_STAT_OUT_FIELD n = 1 ∧ e.Recorded 0x0304 4 ∧ id ∈ (e.eng n).outField
      ∧ (e.eng n).look.map (·.ser) = (s.dev.eng n).look.map (·.ser) ∧ (e.eng n).fifo = fifoWithout id rest ∧ s.dev.SameMem e) := by
  have hpop : ((s.dev.elapse dt).popFifo n rest).eng n = { s.dev.eng n with fifo := rest } := Dev.eng_popFifo ..
  have hbank : ((s.dev.elapse dt).popFifo n rest).bankFor n = some b := by
    unfold Dev.bankFor; rw [hpop]; exact hb
  have hlogs' : ((s.dev.elapse dt).popFifo n rest).logs :=
    Dev.logs.frame (Dev.popFifo_frame (s.dev.elapse dt) n rest) hlogs
  obtain ⟨r, p, rfl, henter⟩ := Dev.enterRecord_invalid (n := n) (id := id) hc hbank hv
  rw [← Dev.enterNext_record (d := s.dev.elapse dt) h] at henter
  have hx : (((s.dev.elapse dt).popFifo n rest).eng n).plans ≠ [] := by rw [hpop]; exact hp
  obtain ⟨hout, hrec, hin, hlook, hfifo, hplans⟩ := Dev.outOfField_busy (r := r) p hx hlogs'
  rw [← henter] at hout hrec hin hlook hfifo hplans
  rw [hpop] at hlook hfifo
  refine Dev.recordEnters hp hl hplans fun e hf hmem => ?_
  have he := hf.eng n (by decide +kernel)
  exact ⟨(hf.get _ _ _ (by decide +kernel)).trans hout, hrec.frame hf, by rw [he]; exact hin, by rw [he]; exact hlook, by rw [he]; exact hfifo, hmem⟩

end Cmd

/-- Settles O37: the descriptors, the refill, the entries of an engine with something planned, and the park order, each by its lemma. -/
theorem engineStreams : Obligations.EngineStreams := by
  unfold Obligations.EngineStreams
  refine ⟨fun s dt job j h hd hs => ?_, fun s dt job j h hd hs => ?_, fun s dt job j h hd => ?_, fun s dt job j h hd => ?_, fun s dt job j h hd hs => ?_,
    fun s dt n id j hu hs hj hv hlow hp hr => execFifoRefillDone_last hu hs hj hv hlow hp hr,
    fun s dt n id g rest h hc hp hl hb => execRecordEnter_marker h hc hp hl hb,
    fun s dt n id j rest h hj hp hl => execRecordEnter_limits h hj hp hl,
    fun s dt n id g rest b h _ hc hp hl hb hv hlogs => execRecordEnter_outOfField h hc hp hl hb hv hlogs,
    fun s dt job j n h hn _ he hr hp hl ho hd => execEngPark_parks h hn he hr hp hl ho hd,
    fun s dt n job j hp hpl hm hst hj hc hr ho hq hk => execParkDone_parked hp hpl hm hst ⟨hj, hc, hr, ho, hq, hk⟩⟩
  · exact Answers.of_act (show _ = execVecBlock dt job s from rfl) (Dev.joinStream_joins (h.elapse dt) (Dev.stopCode_none hd (.inr hs)))
  · exact Answers.of_act (show _ = execVecInline dt job s from rfl) (Dev.joinStream_joins (h.elapse dt) (Dev.stopCode_none hd (.inr hs)))
  · exact Answers.of_act (show _ = execEngLimits dt job s from rfl)
      (Dev.joinStream_joins (h.elapse dt) (Dev.stopCode_none hd (.inl (by simp [Job.vector, h.opcode]))))
  · have hstop : (s.dev.elapse dt).stopCode j = some 0x0251 := if_pos hd
    exact Answers.of_act (show _ = execVecBlock dt job s from rfl) (Dev.engJob_stopped (h.elapse dt) hstop _)
  · have hstop : (s.dev.elapse dt).stopCode j = some 0x0260 := by
      have hf : (s.dev.elapse dt).flag .ENG_GATE_STAT_SAFE_STOP ((s.dev.elapse dt).execEngine j.target) = true := Dev.flag_true hs
      have hd' : ((s.dev.elapse dt).eng ((s.dev.elapse dt).execEngine j.target)).discard = false := hd
      simp [Dev.stopCode, hd', hf, Job.vector, h.opcode]
    exact Answers.of_act (show _ = execVecInline dt job s from rfl) (Dev.engJob_stopped (h.elapse dt) hstop _)

end Sys2Proof.Machine
end

section
/-! Fabric members (O52). -/

set_option Elab.async false
namespace Sys2Proof.Machine
open Sys2Proof

/-- A port with MODE 1 in force whose written MODE is a cell of value 4, more than the field's two bits hold. No step makes such a cell
from a device in canonical form; the statement does not take the device in that form, so it speaks of this state too. -/
def wideMode : State :=
  let d := ({} : Dev).put .SYS_ISL_STAT_IN_SERVICE 1 46
  { pending := [], dev := { d with regs := d.regs ++ [⟨.FAB_PORT_CFG_MODE, 0, 0, 4⟩], force := [⟨.FAB_PORT_CFG_MODE, 0, 0, 1⟩] } }

/-- The configuration that takes effect at the lock turns the port off, which then shows no lock. -/
theorem wideMode_noLock {P : Dev → Prop} (h : Answers (.blockLockGained 0 0) wideMode P) : ∃ e, P e ∧ e.get .FAB_PORT_STAT_RX_LOCK = 0 :=
  ⟨_, h.act (show _ = execBlockLockGained 0 0 wideMode from rfl), by decide +kernel⟩

/-- Refutes O52: where a written MODE is wider than its field, it comes into force as 0, and block lock gained raises neither RX_LOCK
nor LINK_UP. -/
theorem not_fabricMembers : ¬ Obligations.FabricMembers := by
  intro ⟨_, _, _, _, _, _, _, hgained, _⟩
  have hans := hgained wideMode 0 0 (by decide +kernel) (by decide +kernel) (by decide +kernel)
  obtain ⟨e, ⟨hlock, -⟩, hnone⟩ := wideMode_noLock hans
  exact absurd (hnone.symm.trans hlock) (by decide)

end Sys2Proof.Machine
end

section
/-! Channel links (O39). -/

set_option Elab.async false
namespace Sys2Proof.Machine
open Sys2Proof

/-- The takeover pass over a vector, as it stands in the look-ahead once it is no longer among the passes owed (R194). -/
def passRec : LRec :=
  { ser := 1, job := 1, cls := 7, S := {}, E := { x := 1000 },
    share := some { zone := 0, vidx := 0, lo := 0, hi := 1000, len := 1000, split := 500, feather := 0, pass := true } }

/-- Engine 0 on channel 0 with a takeover pass in its look-ahead and none among those it owes, and the recorder's queue one short of full. -/
def passAhead : State :=
  let d : Dev := { recorder := { queue := List.replicate 255 { code := 0x0311, sev := 4, source := 0 } } }
  { pending := [], dev := (d.put .ENG_STAT_BOUND_CH 0 0).modEng 0 (fun e => { e with look := [passRec] }) }

/-- The pass is dropped with a record of its own (R197), which takes the last place in the queue: the fault's record finds none. -/
theorem passAhead_unrecorded {P : Dev → Prop} (h : Answers (.gateMonFault 0 0) passAhead P) : ∃ e, P e ∧ ¬ e.Recorded 0x0301 4 := by
  refine ⟨_, h.act (show _ = execGateMonFault 0 0 passAhead from rfl), ?_⟩
  unfold Dev.Recorded
  decide +kernel

/-- Refutes O39: an engine that shares no zone and owes no pass still makes a record for a takeover pass in its look-ahead, and where that
fills the recorder's queue, the wrong gate level that faults the channel is not recorded. -/
theorem not_channelLinks : ¬ Obligations.ChannelLinks := by
  intro ⟨_, _, _, _, _, _, hmon⟩
  have hans := hmon passAhead 0 0 0 (by decide +kernel)
  obtain ⟨e, ⟨⟨_, _, _, _, _, _, _, _, hrec⟩, -⟩, hnone⟩ := passAhead_unrecorded hans
  exact hnone (hrec (by unfold Dev.logs; decide +kernel) (by decide +kernel) (by decide +kernel))

end Sys2Proof.Machine
end

section
/-! What an engine's rests, markers and limits leave of the engine (O38, O40). -/

set_option Elab.async false
namespace Sys2Proof.Machine
open Sys2Proof

/-- What of a plan stays: the serial number of its record, and whether it has started. -/
def Plan.mark (p : Plan) : Nat × Bool := (p.r.ser, p.started)

/-- What rests, markers, limits and records that fail the field check keep of an engine: which records are planned and which of them have
started, the spot, the correction banks, the code its descriptor is to end with, and whether both melt-pool inputs are missing. -/
structure Engine.Steady (a b : Engine) : Prop where
  plans : b.plans.map Plan.mark = a.plans.map Plan.mark
  spot : b.spot = a.spot
  corr : b.corr = a.corr
  endCode : b.endCode = a.endCode
  bothFault : b.loop.bothFault = a.loop.bothFault

theorem Engine.Steady.refl {a : Engine} : a.Steady a := ⟨rfl, rfl, rfl, rfl, rfl⟩

theorem Engine.Steady.trans {a b c : Engine} (h : a.Steady b) (k : b.Steady c) : a.Steady c :=
  ⟨k.plans.trans h.plans, k.spot.trans h.spot, k.corr.trans h.corr, k.endCode.trans h.endCode, k.bothFault.trans h.bothFault⟩

theorem Engine.Steady.frame {a : Engine} {w n : Nat} {d e : Dev} (hf : Frame w d e) (h : a.Steady (d.eng n))
    (he : w.testBit 27 = false := by decide +kernel) : a.Steady (e.eng n) := by rw [hf.eng n he]; exact h

theorem Engine.Steady.modEng {a : Engine} {d : Dev} {n : Nat} {g : Engine → Engine} (h : a.Steady (d.eng n))
    (hg : (d.eng n).Steady (g (d.eng n))) : a.Steady ((d.modEng n g).eng n) := by rw [Dev.eng_modEng_self]; exact h.trans hg

theorem Engine.Steady.foldl {ι : Type} {a : Engine} {d : Dev} {n : Nat} {l : List ι} {g : Dev → ι → Dev} (h : a.Steady (d.eng n))
    (hg : ∀ x b, a.Steady (x.eng n) → a.Steady ((g x b).eng n)) : a.Steady ((l.foldl g d).eng n) :=
  foldl_keep (P := fun x : Dev => a.Steady (x.eng n)) h hg l

/-- The serial numbers of the records planned. -/
theorem Engine.Steady.sers {a b : Engine} (h : a.Steady b) : b.plans.map (·.r.ser) = a.plans.map (·.r.ser) := by
  have := congrArg (List.map Prod.fst) h.plans
  rwa [List.map_map, List.map_map] at this

/-- What holds of a device, and what the steps of passing a marker keep, holds when it has been passed. -/
theorem Dev.passClear_keeps {P : Dev → Prop} {d : Dev} (n : Nat) (r : LRec) (t : Nat) (h : P d) (hput : ∀ x f v, P x → P (x.put f v n))
    (hoccur : ∀ x k, P x → P (x.occur k)) (hlims : ∀ x id, P x → P (x.applyLims n id)) (hdone : ∀ x id c t, P x → P (x.completeAt id c t)) :
    P (d.passClear n r t) := by
  unfold Dev.passClear
  extract_lets d₁ d₂ d₃
  have h₂ : P d₂ := by
    simp only [d₂]
    split
    · exact hoccur _ _ (hput _ _ _ (hput _ _ _ h))
    · exact hput _ _ _ h
  have h₃ : P d₃ := by
    simp only [d₃]
    split
    · split
      · exact hlims _ _ h₂
      · exact h₂
    · exact h₂
  split
  · exact hdone _ _ _ _ h₃
  · exact h₃

section
variable {a : Engine} {d : Dev} {n : Nat} (h : a.Steady (d.eng n))
include h

theorem Engine.Steady.completeAt (id c t : Nat) : a.Steady ((d.completeAt id c t).eng n) := h.frame (Dev.completeAt_frame ..)

theorem Engine.Steady.sliceChanged : a.Steady ((d.sliceChanged n).eng n) := by
  unfold Dev.sliceChanged
  simp only []
  refine .modEng ?_ ⟨rfl, rfl, rfl, rfl, rfl⟩
  split
  · exact h
  · exact h

theorem Engine.Steady.restLatch : a.Steady ((d.restLatch n).eng n) := by
  have hbring (x : Dev) (p : RegCell → Bool) (hx : a.Steady (x.eng n)) : a.Steady ((x.bringFresh p).eng n) := by
    rw [Dev.eng, Dev.bringFresh_engines]; exact hx
  have hlooked : a.Steady ((d.modEng n (fun e => { e with looked := max e.looked d.now })).eng n) := h.modEng ⟨rfl, rfl, rfl, rfl, rfl⟩
  unfold Dev.restLatch
  simp only []
  split
  · have hx := fun p => hbring _ (tapElement n) (hlooked.frame (Dev.latchWhere_frame _ p))
    unfold Dev.restSlice
    simp only []
    split
    · exact (hbring _ _ (hx _)).sliceChanged
    · exact hx _
  · exact hlooked

theorem Engine.Steady.applyLims (id : Nat) : a.Steady ((d.applyLims n id).eng n) := by
  unfold Dev.applyLims
  exact .foldl (h.modEng ⟨rfl, rfl, rfl, rfl, rfl⟩) fun x l hx => .frame (Dev.complete_frame ..) (hx.frame (Dev.writeLims_frame ..))

theorem Engine.Steady.endCut (t : Nat) : a.Steady ((d.endCut n t).eng n) := by
  unfold Dev.endCut
  simp only []
  split
  · exact h
  · exact .foldl (h.modEng ⟨rfl, rfl, rfl, rfl, rfl⟩) fun x j hx => hx.completeAt ..

theorem Engine.Steady.restActs : a.Steady ((d.restActs n).eng n) := by
  unfold Dev.restActs
  split
  · simp only []
    have hcut := fun t => h.restLatch.endCut t
    split
    · split
      · exact (hcut _).applyLims _
      · exact hcut _
    · exact hcut _
  · exact h

theorem Engine.Steady.passClear (r : LRec) (t : Nat) : a.Steady ((d.passClear n r t).eng n) :=
  Dev.passClear_keeps (P := fun x : Dev => a.Steady (x.eng n)) n r t h (fun _ _ _ hx => hx) (fun _ _ hx => hx.frame (Dev.occur_frame ..))
    (fun _ id hx => hx.applyLims id) fun _ _ _ _ hx => hx.completeAt ..

theorem Engine.Steady.passHead (t : Nat) : a.Steady ((d.passHead n t).eng n) := by
  unfold Dev.passHead
  simp only []
  split
  · exact h
  · exact .foldl (h.modEng ⟨rfl, rfl, rfl, rfl, rfl⟩) fun x r hx => hx.passClear r t

theorem Engine.Steady.passLead (p : Plan) (t : Nat) : a.Steady ((d.passLead n p t).eng n) := by
  unfold Dev.passLead
  simp only []
  split
  · exact h
  · refine .modEng (.foldl h fun x r hx => hx.passClear r t) ⟨?_, rfl, rfl, rfl, rfl⟩
    rw [List.map_map]
    refine List.map_congr_left fun q _ => ?_
    simp only [Function.comp, Plan.mark]
    split <;> rfl

end

/-! ### Descriptors that have ended stay ended -/

theorem Dev.Done.applyLims {d : Dev} {j : Job} {code : Nat} (h : d.Done j code) (n id : Nat) : (d.applyLims n id).Done j code := by
  unfold Dev.applyLims
  refine foldl_keep (P := (Dev.Done · j code)) ?_ (fun x l hx => .completeAt (hx.frame (Dev.writeLims_frame ..)) ..) _
  exact h.of rfl rfl

theorem Dev.Done.passClear {d : Dev} {j : Job} {code : Nat} (h : d.Done j code) (n : Nat) (r : LRec) (t : Nat) : (d.passClear n r t).Done j code :=
  Dev.passClear_keeps (P := (Dev.Done · j code)) n r t h (fun _ _ _ hx => hx.of rfl rfl) (fun _ _ hx => hx.frame (Dev.occur_frame ..))
    (fun _ id hx => hx.applyLims n id) fun _ _ _ _ hx => hx.completeAt ..

theorem Dev.Done.passHead {d : Dev} {j : Job} {code : Nat} (h : d.Done j code) (n t : Nat) : (d.passHead n t).Done j code := by
  unfold Dev.passHead
  simp only []
  split
  · exact h
  · refine foldl_keep (P := (Dev.Done · j code)) ?_ (fun x r hx => hx.passClear n r t) _
    exact h.of rfl rfl

theorem Dev.Done.passLead {d : Dev} {j : Job} {code : Nat} (h : d.Done j code) (n : Nat) (p : Plan) (t : Nat) : (d.passLead n p t).Done j code := by
  unfold Dev.passLead
  simp only []
  split
  · exact h
  · have hpassed := foldl_keep (P := (Dev.Done · j code)) h (fun x r hx => hx.passClear n r t) p.lead
    exact hpassed.of rfl rfl

end Sys2Proof.Machine
end

section
/-! Records play (O38). -/

set_option Elab.async false
namespace Sys2Proof.Machine
open Sys2Proof

/-! ### A request (R171, R202) -/

theorem Dev.showKerf_kerf (d : Dev) (n : Nat) : (d.showKerf n).kerf = d.kerf := (Dev.showKerf_frame ..).kerf (by decide +kernel)

/-- An engine with a request that waits shows GAS_HOLD while GAS_OK is low. -/
theorem Dev.showKerf_gasHold {d : Dev} {n : Nat} (hg : d.pins.gasOk = false) (hw : (d.waitingReq n).isSome) :
    (d.showKerf n).get .ENG_GATE_STAT_GAS_HOLD n = 1 := by
  unfold Dev.showKerf
  simp only []
  have hx := Dev.showGas_holds (d := d.put .KRF_STAT_STARVING (d.kerf.reqs.filter (fun r => r.starving && r.waits)).length) n hg hw (.inl rfl)
  generalize Dev.showGas _ n = x at hx ⊢
  split
  · simp [hx]
  · simp [hx]

/-- The request of a record that is no share (R202). -/
def LRec.request (r : LRec) (n inst : Nat) : KReq :=
  { eng := n, ser := r.ser, cls := r.cls, x0 := r.S.x, y0 := r.S.y, x1 := r.E.x, y1 := r.E.y, inst := inst }

theorem Dev.makeRequest_unshared {d : Dev} {r : LRec} (n : Nat) (hs : r.share = none) (hc : r.clear = false) :
    ∃ x : Dev, d.makeRequest n r = ((x.setReqs (d.kerf.reqs ++ [r.request n d.now])).showKerf n).showState n ∧ x.pins = d.pins := by
  unfold Dev.makeRequest
  simp only [hs, hc, Bool.false_eq_true, if_false]
  exact ⟨_, rfl, rfl⟩

theorem execKerfRequest_requests {s : State} {dt : Nat} {n : Fin 34} {r : LRec} (hr : s.dev.toRequest n = some r) (hs : r.share = none)
    (hc : r.clear = false) (hl : s.dev.get .SYS_LAYER_STAT_STATE = 3) (h0 : s.dev.get .ENG_STAT_STATE n ≠ 0) (h6 : s.dev.get .ENG_STAT_STATE n ≠ 6) :
    Answers (.kerfRequest dt n) s (fun e => r.request n (s.dev.now + dt) ∈ e.kerf.reqs
      ∧ (s.dev.pins.gasOk = false → e.get .ENG_GATE_STAT_GAS_HOLD n = 1) ∧ s.dev.SameMem e) := by
  refine Answers.of_framed (show _ = execKerfRequest dt n s from rfl) (execKerfRequest_frame dt n s) fun hf => ?_
  have hr' : (s.dev.elapse dt).toRequest n = some r := hr
  have hgo : ((s.dev.elapse dt).get .SYS_LAYER_STAT_STATE == 3
      && decide ((s.dev.elapse dt).get .ENG_STAT_STATE n ≠ 0 ∧ (s.dev.elapse dt).get .ENG_STAT_STATE n ≠ 6)) = true := by
    simp [hl, h0, h6]
  have hsame := hf.sameMem
  obtain ⟨x, hx, hpins⟩ := (s.dev.elapse dt).makeRequest_unshared n hs hc
  simp only [hr', hgo, Dev.when_true, hx] at hsame ⊢
  have hmem : r.request n (s.dev.elapse dt).now ∈ (s.dev.elapse dt).kerf.reqs ++ [r.request n (s.dev.elapse dt).now] := by simp
  refine ⟨?_, fun hg => ?_, hsame⟩
  · rw [(Dev.showState_frame ..).kerf (by decide +kernel), Dev.showKerf_kerf]
    exact hmem
  · rw [(Dev.showState_frame ..).get .ENG_GATE_STAT_GAS_HOLD _ _ (by decide +kernel)]
    refine Dev.showKerf_gasHold (hpins ▸ hg) ?_
    exact List.find?_isSome.mpr ⟨_, hmem, by simp [LRec.request, KReq.waits]⟩

/-! ### Pin edges that have come by (R150) -/

/-- A gate once the pin edges up to an instant have come by. -/
def Gate.flushed (g : Gate) (now : Nat) : Gate :=
  { g with
    edges := g.edges.filter (fun e => decide (now < e.1))
    light := g.light.filter (fun l => l.fresh now) ++ (g.light.filter (fun l => !l.fresh now)).take 1 }

theorem Dev.flushGate_eng (d : Dev) (n : Nat) : (d.flushGate n).eng n = { d.eng n with gate := (d.eng n).gate.flushed d.now } := by
  unfold Dev.flushGate
  extract_lets g past d₁ rises d₂
  have h₁ : d₁.eng n = { d.eng n with gate := (d.eng n).gate.flushed d.now } := Dev.eng_modEng_self ..
  have h₂ : d₂.eng n = d₁.eng n := by
    simp only [d₂]
    split <;> rfl
  rw [← h₁, ← h₂]
  split <;> rfl

theorem Gate.mem_of_mem_flushed {g : Gate} {now : Nat} {l : Light} (h : l ∈ (g.flushed now).light) : l ∈ g.light := by
  rcases List.mem_append.mp h with h | h
  · exact List.mem_of_mem_filter h
  · exact List.mem_of_mem_filter (List.mem_of_mem_take h)

/-- The newest light is kept, however long ago it ended. -/
theorem Gate.newest_mem_flushed {g : Gate} {l : Light} {ls : List Light} (h : g.light = l :: ls) (now : Nat) : l ∈ (g.flushed now).light := by
  refine List.mem_append.mpr ?_
  rw [h]
  by_cases hl : l.fresh now = true
  · exact .inl (by simp [hl])
  · exact .inr (by simp [hl])

/-! ### A record starts (R129, R135) -/

/-- The plan of a record marked as started. -/
def Plan.startIf (ser : Nat) (q : Plan) : Plan := if q.r.ser == ser then { q with started := true } else q

theorem Dev.markScarf_steady {a : Engine} {d : Dev} {n : Nat} (h : a.Steady (d.eng n)) (r : LRec) : a.Steady ((d.markScarf n r).eng n) := by
  unfold Dev.markScarf
  split
  · split
    · exact h
    · exact h.modEng ⟨rfl, rfl, rfl, rfl, rfl⟩
  · exact h

theorem Plan.mark_startIf (ser : Nat) (q : Plan) : (Plan.startIf ser q).mark = (q.r.ser, q.started || q.r.ser == ser) := by
  unfold Plan.startIf Plan.mark
  split
  · rename_i h; simp [h]
  · rename_i h; simp [h]

/-- With the first record that has not started marked, the one at the head has started, and the record is among the plans. -/
theorem Plan.started_head {ps qs : List Plan} {p : Plan} (h : ps.find? (fun q => !q.started) = some p) (hq : qs.map Plan.mark = ps.map Plan.mark) :
    (∃ q ∈ qs.map (Plan.startIf p.r.ser), q.r.ser = p.r.ser ∧ q.started = true)
      ∧ ∃ q, (qs.map (Plan.startIf p.r.ser)).head? = some q ∧ q.started = true := by
  have hmem : p.mark ∈ qs.map Plan.mark := hq ▸ List.mem_map_of_mem (List.mem_of_find?_eq_some h)
  obtain ⟨q, hqs, hqm⟩ := List.mem_map.mp hmem
  have hser : q.r.ser = p.r.ser := congrArg Prod.fst hqm
  refine ⟨⟨_, List.mem_map_of_mem hqs, ?_⟩, ?_⟩
  · simp [Plan.startIf, hser]
  · cases ps with
    | nil => simp at h
    | cons a as =>
      cases qs with
      | nil => simp at hq
      | cons b bs =>
        obtain ⟨hab, -⟩ := List.cons.inj hq
        have hs : b.started = a.started := congrArg Prod.snd hab
        have hr : b.r.ser = a.r.ser := congrArg Prod.fst hab
        refine ⟨_, rfl, ?_⟩
        have hm := congrArg Prod.snd (Plan.mark_startIf p.r.ser b)
        refine hm.trans ?_
        cases ha : a.started with
        | true => simp [hs, ha]
        | false =>
          simp only [List.find?_cons, ha, Bool.not_false, Option.some.injEq] at h
          simp [hr, h]

/-- What the start of a record can change between its count and its mark. -/
def startMask : Nat :=
  Fld.bit .ENG_STAT_VCLAMP ||| 0x2000000000000000000000000000000000000000000000000000000000000000000000000000000000000000000000000000000000000000000000000000000000000000000000000000001fc00000000000000008a0000000000000000000000000008020504

/-- A record with no marker before it starts: the engine runs, and the record counts. -/
theorem Dev.startPlan_shows {d : Dev} {n : Nat} {p : Plan} (hp : p.lead = []) (hf : (d.eng n).plans.find? (fun q => !q.started) = some p) :
    let e := d.startPlan n p
    e.get .ENG_STAT_STATE n = 2 ∧ e.get .ENG_REC_SEQ_SEQ n = (d.get .ENG_REC_SEQ_SEQ n + 1) % 2 ^ 32
      ∧ (∃ q ∈ (e.eng n).plans, q.r.ser = p.r.ser ∧ q.started = true) ∧ (e.eng n).advanced = d.run
      ∧ ∀ t, ((e.eng n).current t).isSome = true := by
  have hlead : (d.passLead n p p.tMove).get .ENG_REC_SEQ_SEQ n = d.get .ENG_REC_SEQ_SEQ n := by
    unfold Dev.passLead
    rw [hp]
    split <;> rfl
  have hseq₁ := ((Dev.countJunction_frame (d.passLead n p p.tMove) n p).get .ENG_REC_SEQ_SEQ n 0 (by decide +kernel)).trans hlead
  have hrun₁ := ((Dev.countJunction_frame (d.passLead n p p.tMove) n p).run (by decide +kernel)).trans ((Dev.passLead_frame d n p p.tMove).run (by decide +kernel))
  have hst₁ : (d.eng n).Steady (((d.passLead n p p.tMove).countJunction n p).eng n) := (Engine.Steady.refl.passLead p p.tMove).frame (Dev.countJunction_frame ..)
  unfold Dev.startPlan
  extract_lets d₁ d₂ clamped d₃ d₄ d₅ d₆ d₇
  have h₃ : Frame startMask d₂ d₃ ∧ (d.eng n).Steady (d₃.eng n) := by
    simp only [d₃]
    split
    · exact ⟨(Dev.raise_frame ..).mono (by decide +kernel), hst₁⟩
    · exact ⟨.refl, hst₁⟩
  have h₄ : Frame startMask d₂ d₄ ∧ (d.eng n).Steady (d₄.eng n) := by
    simp only [d₄]
    split
    · split
      · exact ⟨h₃.1.step' (Dev.applyLims_frame ..) (by decide +kernel), h₃.2.applyLims _⟩
      · exact h₃
    · exact h₃
  have h₅ : Frame startMask d₂ d₅ ∧ (d.eng n).Steady (d₅.eng n) :=
    ⟨(h₄.1.step' (Dev.markScarf_frame ..) (by decide +kernel)).step' (Dev.modJob_frame ..) (by decide +kernel), Dev.markScarf_steady h₄.2 p.r⟩
  obtain ⟨hf₅, hst₅⟩ := h₅
  have hrun₅ : d₅.run = d.run := (hf₅.run (by decide +kernel)).trans hrun₁
  have heng₇ : d₇.eng n = d₆.eng n := by
    simp only [d₇]
    split <;> rfl
  have hseq₇ : d₇.get .ENG_REC_SEQ_SEQ n = d₅.get .ENG_REC_SEQ_SEQ n := by
    simp only [d₇]
    split
    · exact Dev.get_put_ne _ _ _ _ _ _ _ _ (by decide)
    · rfl
  have heng₆ : d₆.eng n = { d₅.eng n with
      plans := (d₅.eng n).plans.map (Plan.startIf p.r.ser), advanced := d₅.run, gate := { (d₅.eng n).gate with forced := false } } := Dev.eng_modEng_self ..
  obtain ⟨hmem, q, hq, hstarted⟩ := Plan.started_head hf hst₅.plans
  refine ⟨Dev.get_put_of_lt (by decide), ?_, ?_, ?_, fun t => ?_⟩
  · rw [Dev.get_put_ne _ _ _ _ _ _ _ _ (by decide), hseq₇, hf₅.get _ _ _ (by decide +kernel), ← hseq₁]
    exact Dev.get_put_self ..
  · rw [Dev.eng_put, heng₇, heng₆]; exact hmem
  · rw [Dev.eng_put, heng₇, heng₆]; exact hrun₅
  · rw [Dev.eng_put, heng₇, heng₆]
    simp [Engine.current, hq, Plan.begun, hstarted]

/-- An engine with a record in progress shows RUN. -/
theorem Dev.showState_running {d : Dev} {n : Nat} (hs : d.get .ENG_STAT_STATE n = 2) (hc : ((d.eng n).current d.now).isSome = true) :
    (d.showState n).get .ENG_STAT_STATE n = 2 := by
  unfold Dev.showState
  simp only [hs, hc, if_true]
  exact Dev.get_put_of_lt (by decide)

/-- An engine as a start finds it: its rest and the markers before its next record done, and its path final up to an instant. -/
def Dev.readied (d : Dev) (n t : Nat) : Dev :=
  (if (d.restActs n).atRest n then ((d.restActs n).passHead n t).restActs n else d.restActs n).extendTo n t

/-- What the rest, the markers and the plan before a start can change. -/
def readiedMask : Nat :=
  0x2000ffe000000000000000000000000000000000000000000000000000000000000000000000000000000000000000000000000000000000000004000000000000000000000242070118101ff0c001400000000008a000000000000000000000000000e221504

theorem Dev.readied_frame (d : Dev) (n t : Nat) :
    Frame readiedMask d (d.readied n t) := by
  have hrest := (Dev.restActs_frame d n).mono (w := readiedMask) (by decide +kernel)
  unfold Dev.readied
  refine Frame.step' ?_ (Dev.extendTo_frame ..) (by decide +kernel)
  split
  · exact (hrest.step' (Dev.passHead_frame ..) (by decide +kernel)).step' (Dev.restActs_frame ..) (by decide +kernel)
  · exact hrest

theorem Dev.startNext_readied {d : Dev} {n : Nat} {p : Plan} (hf : ((d.readied n d.now).eng n).plans.find? (fun q => !q.started) = some p)
    (ht : p.tBody ≤ d.now) : d.startNext n = (d.readied n d.now).startPlan n p := by
  have hrest : (d.restActs n).now = d.now := (Dev.restActs_frame ..).now (by decide +kernel)
  have hready : (d.readied n d.now).now = d.now := (Dev.readied_frame ..).now (by decide +kernel)
  have hopened (t : Nat) : (if (d.restActs n).atRest n then ((d.restActs n).passHead n t).restActs n else d.restActs n).now = d.now :=
    ((Dev.extendTo_frame _ n t).now (by decide +kernel)).symm.trans ((Dev.readied_frame d n t).now (by decide +kernel))
  unfold Dev.readied at hf hready ⊢
  unfold Dev.startNext
  simp only [hrest, hopened, hf, hready, if_pos ht]

theorem execRecordStart_starts {s : State} {dt : Nat} {n : Fin 34} {d : Dev} {p : Plan} (hd : d = (s.dev.elapse dt).readied n (s.dev.now + dt))
    (hf : (d.eng n).plans.find? (fun q => !q.started) = some p) (ht : p.tBody ≤ s.dev.now + dt) (hp : p.lead = []) :
    Answers (.recordStart dt n) s (fun e => e.get .ENG_STAT_STATE n = 2 ∧ e.get .ENG_REC_SEQ_SEQ n = (d.get .ENG_REC_SEQ_SEQ n + 1) % 2 ^ 32
      ∧ (∃ q ∈ (e.eng n).plans, q.r.ser = p.r.ser ∧ q.started = true) ∧ (e.eng n).advanced = (s.dev.elapse dt).run ∧ s.dev.SameMem e) := by
  refine Answers.of_framed (show _ = execRecordStart dt n s from rfl) (execRecordStart_frame dt n s) fun hframe => ?_
  have hsame := hframe.sameMem
  have hrun : d.run = (s.dev.elapse dt).run := by rw [hd]; exact (Dev.readied_frame ..).run (by decide +kernel)
  have hstart : (s.dev.elapse dt).startNext n = d.startPlan n p := by
    subst hd
    exact Dev.startNext_readied hf ht
  obtain ⟨hstate, hseq, hmem, hadv, hcur⟩ := Dev.startPlan_shows hp hf
  rw [hstart] at hsame ⊢
  generalize d.startPlan n p = x at hstate hseq hmem hadv hcur hsame ⊢
  have hx := x.flushGate_eng n
  have hflush := x.flushGate_frame n
  generalize x.flushGate n = y at hx hflush hsame ⊢
  have hshow := y.showState_frame n
  have hy : (y.showState n).eng n = { x.eng n with gate := (x.eng n).gate.flushed x.now } := (hshow.eng n (by decide +kernel)).trans hx
  refine ⟨Dev.showState_running ((hflush.get _ _ _ (by decide +kernel)).trans hstate) ?_, ?_, ?_, ?_, hsame⟩
  · rw [hx]; exact hcur _
  · rw [hshow.get _ _ _ (by decide +kernel), hflush.get _ _ _ (by decide +kernel), hseq]
  · rw [hy]; exact hmem
  · rw [hy, ← hrun]; exact hadv

/-! ### A record ends (R124, R201) -/

/-- A claim that has ended leaves no request of its record. -/
theorem Dev.endClaim_gone (d : Dev) (n ser : Nat) : ∀ r ∈ (d.endClaim n ser).kerf.reqs, r.eng = n → r.ser ≠ ser := by
  unfold Dev.endClaim
  split
  · rw [Dev.showKerf_kerf]
    intro r hr hn hs
    have := (List.mem_filter.mp hr).2
    simp [hn, hs] at this
  · rename_i hnone
    intro r hr hn hs
    have := List.find?_eq_none.mp hnone r hr
    simp [hn, hs] at this

theorem Dev.endUnit_gone {d : Dev} {n ser : Nat} (m k : Nat) (h : ∀ r ∈ d.kerf.reqs, r.eng = n → r.ser ≠ ser) :
    ∀ r ∈ (d.endUnit m k).kerf.reqs, r.eng = n → r.ser ≠ ser := by
  unfold Dev.endUnit
  split
  · intro r hr
    obtain ⟨q, hq, rfl⟩ := List.mem_map.mp hr
    have := h q hq
    split
    · exact this
    · exact this
  · exact h

theorem Dev.endUnit_steady {a : Engine} {d : Dev} {n : Nat} (h : a.Steady (d.eng n)) (k : Nat) : a.Steady ((d.endUnit n k).eng n) := by
  unfold Dev.endUnit
  split
  · have hmod : a.Steady ((d.modEng n (fun e => { e with unitEnd := none })).eng n) := h.modEng ⟨rfl, rfl, rfl, rfl, rfl⟩
    exact hmod
  · exact h

theorem Dev.underrun_steady {a : Engine} {d : Dev} {n : Nat} (h : a.Steady (d.eng n)) : a.Steady ((d.underrun n).eng n) := by
  unfold Dev.underrun
  simp only []
  split
  · refine Engine.Steady.modEng (.frame (Dev.record_frame ..) ?_) ⟨rfl, rfl, rfl, rfl, rfl⟩
    exact h
  · exact h

/-- What the end of a record with no fault to follow leaves. -/
theorem Dev.endPlan_shows {d : Dev} {n : Nat} {p : Plan} {j : Job} (hb : (d.eng n).loop.bothFault = false) (he : p.r.eob = true)
    (hj : d.Ends p.r.job j) :
    let e := d.endPlan n p
    (e.eng n).plans.map (·.r.ser) = ((d.eng n).plans.drop 1).map (·.r.ser) ∧ (∀ r ∈ e.kerf.reqs, r.eng = n → r.ser ≠ p.r.ser)
      ∧ e.Done j ((d.eng n).endCode.getD 0) ∧ (e.eng n).spot = posAt p.r.S p.pieces p.tDone := by
  unfold Dev.endPlan
  extract_lets t d₁ d₂ d₃ code d₄ d₅ e
  have h₁ : d₁.eng n = { d.eng n with
      plans := (d.eng n).plans.drop 1, past := p :: (d.eng n).past.take 7, moves := if p.blends then [] else p.out,
      spot := posAt p.r.S p.pieces p.tDone, restAt := p.tDone, advanced := d.run } := Dev.eng_modEng_self ..
  have hs₂ : (d₁.eng n).Steady (d₂.eng n) := Dev.endUnit_steady (.frame (Dev.endClaim_frame ..) .refl) p.r.ser
  have hs₃ : (d₁.eng n).Steady (d₃.eng n) := (Dev.underrun_steady hs₂).modEng ⟨rfl, rfl, rfl, rfl, rfl⟩
  have hk₂ : ∀ r ∈ d₂.kerf.reqs, r.eng = n → r.ser ≠ p.r.ser := Dev.endUnit_gone n p.r.ser (Dev.endClaim_gone d₁ n p.r.ser)
  have hk₃ : d₃.kerf = d₂.kerf := (Dev.underrun_frame d₂ n).kerf (by decide +kernel)
  have hends₃ : d₃.Ends p.r.job j :=
    (((hj.frame (Dev.modEng_frame ..)).frame (Dev.endClaim_frame d₁ n p.r.ser)).frame (Dev.endUnit_frame ..)).frame (Dev.underrun_frame d₂ n) |>.frame (Dev.modEng_frame ..)
  have hcode : code = (d.eng n).endCode.getD 0 := by
    simp only [code]
    rw [hs₃.endCode, h₁]
  have h₄ : d₄ = d₃.completeAt p.r.job code t := if_pos he
  have hs₄ : (d₁.eng n).Steady (d₄.eng n) := h₄ ▸ hs₃.completeAt ..
  have hk₄ : d₄.kerf = d₃.kerf := h₄ ▸ (Dev.completeAt_frame ..).kerf (by decide +kernel)
  have hd₄ : d₄.Done j code := h₄ ▸ hends₃.completeAt code t
  have h₅ : (d₁.eng n).Steady (d₅.eng n) ∧ d₅.kerf = d₄.kerf ∧ d₅.Done j code := by
    simp only [d₅]
    split
    · exact ⟨hs₄.passLead .., (Dev.passLead_frame ..).kerf (by decide +kernel), hd₄.passLead ..⟩
    · exact ⟨hs₄.passHead .., (Dev.passHead_frame ..).kerf (by decide +kernel), hd₄.passHead ..⟩
  obtain ⟨hs₅, hk₅, hd₅⟩ := h₅
  have hnone : (d₅.eng n).loop.bothFault = false := by rw [hs₅.bothFault, h₁]; exact hb
  have hlast : e = d₅ := if_neg (by simp [hnone])
  rw [hlast]
  refine ⟨?_, ?_, hcode ▸ hd₅, ?_⟩
  · rw [hs₅.sers, h₁]
  · rw [hk₅, hk₄, hk₃]; exact hk₂
  · rw [hs₅.spot, h₁]

theorem execRecordEnd_ends {s : State} {dt : Nat} {n : Fin 34} {d : Dev} {p : Plan} {j : Job}
    (hd : d = ((s.dev.elapse dt).extendTo n (s.dev.now + dt)).flushGate n) (hh : (d.eng n).plans.head? = some p) (hs : p.started = true)
    (hbl : p.blended.isSome = true) (ht : p.tEnd ≤ s.dev.now + dt) (hb : (d.eng n).loop.bothFault = false) (he : p.r.eob = true) (hj : d.Ends p.r.job j) :
    Answers (.recordEnd dt n) s (fun e => (e.eng n).plans.map (·.r.ser) = ((d.eng n).plans.drop 1).map (·.r.ser)
      ∧ (∀ r ∈ e.kerf.reqs, r.eng = n.val → r.ser ≠ p.r.ser) ∧ e.Done j ((d.eng n).endCode.getD 0)
      ∧ (e.eng n).spot = posAt p.r.S p.pieces p.tDone ∧ s.dev.SameMem e) := by
  refine Answers.of_framed (show _ = execRecordEnd dt n s from rfl) (execRecordEnd_frame dt n s) fun hframe => ?_
  have hsame := hframe.sameMem
  have hnow : d.now = s.dev.now + dt := by
    rw [hd]; exact ((Dev.flushGate_frame ..).now (by decide +kernel)).trans ((Dev.extendTo_frame ..).now (by decide +kernel))
  have hd' : d = ((s.dev.elapse dt).extendTo n (s.dev.elapse dt).now).flushGate n := hd
  simp only [← hd', hh, if_pos (show p.started = true ∧ p.blended.isSome = true ∧ p.tEnd ≤ d.now from ⟨hs, hbl, hnow ▸ ht⟩)] at hsame ⊢
  obtain ⟨hser, hgone, hdone, hspot⟩ := Dev.endPlan_shows hb he hj
  generalize d.endPlan n p = x at hser hgone hdone hspot hsame ⊢
  have hx : (x.eng n).Steady ((x.restActs n).eng n) := Engine.Steady.refl.restActs
  have hf := x.restActs_frame n
  have hrest := x.restActs_frame n
  have hdone' : (x.restActs n).Done j ((d.eng n).endCode.getD 0) := Dev.restActs_done hdone
  generalize x.restActs n = y at hx hf hrest hdone' hsame ⊢
  have hshow := y.showState_frame n
  have hy : (x.eng n).Steady ((y.showState n).eng n) := hx.frame hshow
  refine ⟨?_, ?_, hdone'.frame hshow, ?_, hsame⟩
  · rw [hy.sers, hser]
  · rw [hshow.kerf (by decide +kernel), hrest.kerf (by decide +kernel)]; exact hgone
  · rw [hy.spot, hspot]

/-! ### The compare unit (R160 to R163) -/

/-- With no train before it, a pulsed train has its turn, and nothing is to be done for it. -/
theorem Dev.turnTrains_alone {d : Dev} {n : Nat} {tr : Train} (ht : (d.eng n).gate.train = some tr) (ho : (d.eng n).gate.olds = []) (hm : tr.mode ≠ 0) :
    (d.turnTrains n).eng n = d.eng n := by
  have hhead : (d.eng n).gate.headTrain = some tr := by simp [Gate.headTrain, ho, ht]
  have hturn : (d.turnTrain n).eng n = d.eng n := by
    unfold Dev.turnTrain
    simp only [hhead, hm, false_and, if_false, Dev.modGate, Dev.eng_modEng_self, ho]
  have honce : List.range ((d.eng n).gate.olds.length + 1) = [0] := by rw [ho]; rfl
  rw [Dev.turnTrains, honce]
  exact hturn

section
variable {d : Dev} {n : Nat} {tr : Train} (ht : (d.eng n).gate.train = some tr) (ho : (d.eng n).gate.olds = []) (hm : tr.mode ≠ 0)
  (hh : tr.hold = false) (hs : tr.step ≠ 0) (hk : tr.next ≤ tr.known)
include ht ho hm hh hs hk

/-- A position that is not behind, with its pulse on the path that is planned, is fired. -/
theorem Dev.compareHit_ahead (he : tr.tEnd = none) (hp : tr.timeOf tr.next + tr.width ≤ endOf tr.t0 tr.trace)
    (hb : (d.eng n).gate.early + tr.advOn ≤ tr.timeOf tr.next) : d.compareHit n = (d.pulseFire n tr).turnTrains n := by
  have hhead : (d.eng n).gate.headTrain = some tr := by simp [Gate.headTrain, ho, ht]
  unfold Dev.compareHit
  simp only [hhead, Gate.lightFrom, hm, hh, hs, he, Nat.not_lt.mpr hk, Nat.not_lt.mpr hp, Nat.not_lt.mpr hb, decide_false, Bool.and_false,
    Bool.false_eq_true, or_self, if_false]

/-- A position that is behind is not fired, where the train is suppressed or the path is planned to where it goes on. -/
theorem Dev.compareHit_behind (hb : tr.timeOf tr.next < (d.eng n).gate.early + tr.advOn)
    (hp : tr.suppress = true ∨ (d.eng n).gate.early + tr.advOn ≤ endOf tr.t0 tr.trace) : d.compareHit n = (d.pulseBehind n tr).turnTrains n := by
  have hhead : (d.eng n).gate.headTrain = some tr := by simp [Gate.headTrain, ho, ht]
  unfold Dev.compareHit
  have hplanned : (tr.tEnd.isNone && decide (endOf tr.t0 tr.trace < if tr.suppress then 0 else (d.eng n).gate.early + tr.advOn)) = false := by
    rcases hp with hp | hp
    · simp [hp]
    · have hle : (if tr.suppress then 0 else (d.eng n).gate.early + tr.advOn) ≤ endOf tr.t0 tr.trace := by split <;> omega
      simp [Nat.not_lt.mpr hle]
  simp only [hhead, Gate.lightFrom, hm, hh, hs, Nat.not_lt.mpr hk, hb, hplanned, decide_true, Bool.false_eq_true, or_self, if_true, if_false]

end

/-- A pulse whose train goes on beyond it: its light, and the next position. -/
theorem Dev.pulseFire_gate {d : Dev} {n : Nat} {tr : Train} (ho : (d.eng n).gate.olds = []) (he : tr.tEnd = none) :
    let g := ((d.pulseFire n tr).eng n).gate
    g.train = some { tr with next := tr.next + tr.step } ∧ g.olds = [] ∧ ∃ l ls, g.light = l :: ls ∧ l.rise = tr.timeOf tr.next
      ∧ l.fall = some (tr.timeOf tr.next + tr.width) ∧ l.cls = tr.cls := by
  unfold Dev.pulseFire
  simp only [he, Bool.false_and, Bool.false_eq_true, if_false, Dev.modGate, Dev.eng_modEng_self, Gate.putTrain, Gate.rise, Gate.fall, ho]
  exact ⟨trivial, trivial, _, _, rfl, rfl, rfl, rfl⟩

/-- A gate that has noted the first position found behind in its layer (R162). -/
def Gate.seen (g : Gate) : Gate := { g with behindSeen := true }

/-- A position found behind: the flag is up, and the gate is as it was but for the note that the layer has had one. -/
theorem Dev.pulseBehind_flags (d : Dev) (n : Nat) (tr : Train) :
    ∃ x : Dev, x.get .ENG_GATE_STAT_COMPARE_BEHIND n = 1 ∧ x.get .ENG_GATE_SKIP_BEHIND n = d.get .ENG_GATE_SKIP_BEHIND n
      ∧ (x.eng n).gate = (d.eng n).gate.seen
      ∧ d.pulseBehind n tr = if tr.suppress then
          ((x.bump .ENG_GATE_SKIP_BEHIND (if tr.tEnd.isSome then tr.left else 0) n).raise .ENG_GATE_STAT_BEHIND_HOLD n).modGate n
            (fun g => g.putTrain { tr with hold := true })
        else
          (x.bump .ENG_GATE_SKIP_BEHIND (if tr.tEnd.isSome then min (tr.skips ((d.eng n).gate.lightFrom tr)) tr.left
            else tr.skips ((d.eng n).gate.lightFrom tr)) n).modGate n
            (fun g => g.putTrain { tr with next := tr.next + tr.skips ((d.eng n).gate.lightFrom tr) * tr.step }) := by
  unfold Dev.pulseBehind
  extract_lets g where' d₁ d₂ d₃
  have hgate₂ : (d₂.eng n).gate = (d.eng n).gate := by
    simp only [d₂]
    split
    · rfl
    · rw [(Dev.record_frame ..).eng n (by decide +kernel)]; rfl
  have hbehind₂ : d₂.get .ENG_GATE_STAT_COMPARE_BEHIND n = 1 := by
    simp only [d₂]
    split
    · exact Dev.get_raise
    · exact ((Dev.record_frame ..).get _ _ _ (by decide +kernel)).trans Dev.get_raise
  have hskip₂ : d₂.get .ENG_GATE_SKIP_BEHIND n = d.get .ENG_GATE_SKIP_BEHIND n := by
    simp only [d₂]
    split
    · exact Dev.get_put_ne _ _ _ _ _ _ _ _ (by decide)
    · exact ((Dev.record_frame ..).get _ _ _ (by decide +kernel)).trans (Dev.get_put_ne _ _ _ _ _ _ _ _ (by decide))
  have hgate₃ : (d₃.eng n).gate = (d₂.eng n).gate.seen := congrArg Engine.gate (Dev.eng_modEng_self ..)
  exact ⟨d₃, hbehind₂, hskip₂, hgate₃.trans (congrArg Gate.seen hgate₂), rfl⟩

theorem satAdd_lt (w a b : Nat) : satAdd w a b < 2 ^ w := by
  have := Nat.two_pow_pos w
  unfold satAdd
  omega

theorem Dev.get_bump (d : Dev) (f : Fld) (k i j : Nat) : (d.bump f k i j).get f i j = satAdd f.width (d.get f i j) k :=
  Dev.get_put_of_lt (satAdd_lt ..)

theorem Dev.get_modGate (d : Dev) (n : Nat) (g : Gate → Gate) (f : Fld) (i j : Nat) : (d.modGate n g).get f i j = d.get f i j := rfl

theorem Dev.gate_modGate (d : Dev) (n : Nat) (g : Gate → Gate) : ((d.modGate n g).eng n).gate = g (d.eng n).gate :=
  congrArg Engine.gate (Dev.eng_modEng_self ..)

theorem Gate.putTrain_alone {g : Gate} (ho : g.olds = []) (tr : Train) : g.putTrain tr = { g with train := some tr } := by
  simp only [Gate.putTrain, ho]

/-- What a compare that has found its position behind shows, a train that holds at it. -/
theorem Dev.pulseBehind_holds {d : Dev} {n : Nat} {tr : Train} (ho : (d.eng n).gate.olds = []) (hs : tr.suppress = true) :
    let e := d.pulseBehind n tr
    e.get .ENG_GATE_STAT_COMPARE_BEHIND n = 1 ∧ e.get .ENG_GATE_STAT_BEHIND_HOLD n = 1
      ∧ e.get .ENG_GATE_SKIP_BEHIND n = satAdd (Fld.width .ENG_GATE_SKIP_BEHIND) (d.get .ENG_GATE_SKIP_BEHIND n) (if tr.tEnd.isSome then tr.left else 0)
      ∧ (e.eng n).gate = { (d.eng n).gate.seen with train := some { tr with hold := true } } := by
  obtain ⟨x, hbehind, hskip, hgate, heq⟩ := d.pulseBehind_flags n tr
  rw [heq, if_pos hs]
  generalize (if tr.tEnd.isSome then tr.left else 0) = k
  simp only [Dev.get_modGate, Dev.gate_modGate]
  refine ⟨?_, Dev.get_raise, ?_, ?_⟩
  · rw [Dev.get_raise_ne _ _ _ _ _ _ _ (by decide), Dev.get_bump_ne _ _ _ _ _ _ _ _ (by decide)]
    exact hbehind
  · rw [Dev.get_raise_ne _ _ _ _ _ _ _ (by decide), Dev.get_bump, hskip]
  · rw [Dev.eng_raise, Dev.eng_bump, hgate]
    exact Gate.putTrain_alone (g := (d.eng n).gate.seen) ho _

/-- What a compare that has found its position behind shows, a train that goes on beyond it. -/
theorem Dev.pulseBehind_skips {d : Dev} {n : Nat} {tr : Train} (ho : (d.eng n).gate.olds = []) (hs : tr.suppress = false) (he : tr.tEnd = none) :
    let e := d.pulseBehind n tr
    let k := tr.skips ((d.eng n).gate.early + tr.advOn)
    e.get .ENG_GATE_STAT_COMPARE_BEHIND n = 1
      ∧ e.get .ENG_GATE_SKIP_BEHIND n = satAdd (Fld.width .ENG_GATE_SKIP_BEHIND) (d.get .ENG_GATE_SKIP_BEHIND n) k
      ∧ (e.eng n).gate = { (d.eng n).gate.seen with train := some { tr with next := tr.next + k * tr.step } } := by
  obtain ⟨x, hbehind, hskip, hgate, heq⟩ := d.pulseBehind_flags n tr
  rw [heq, if_neg (by simp [hs])]
  simp only [he, Option.isSome_none, Bool.false_eq_true, if_false, Gate.lightFrom, Dev.get_modGate, Dev.gate_modGate]
  generalize tr.skips ((d.eng n).gate.early + tr.advOn) = k
  refine ⟨?_, ?_, ?_⟩
  · rw [Dev.get_bump_ne _ _ _ _ _ _ _ _ (by decide)]
    exact hbehind
  · rw [Dev.get_bump, hskip]
  · rw [Dev.eng_bump, hgate]
    exact Gate.putTrain_alone (g := (d.eng n).gate.seen) ho _

/-- What holds of the gate and of the counts after the compare unit has acted on its one train holds at the end of the command: the train keeps
its turn, and the edges that have come by take no light away but what is old. -/
theorem gateCompareHit_answers {s : State} {dt : Nat} {n : Fin 34} {d x : Dev} {tr : Train} {P : Dev → Prop}
    (hd : d = (s.dev.elapse dt).extendTo n (s.dev.now + dt + s.dev.leadOf n)) (hx : d.compareHit n = x.turnTrains n)
    (ht : (x.eng n).gate.train = some tr) (ho : (x.eng n).gate.olds = []) (hm : tr.mode ≠ 0)
    (h : ∀ e now, (e.eng n).gate = (x.eng n).gate.flushed now → e.get .ENG_GATE_STAT_COMPARE_BEHIND n = x.get .ENG_GATE_STAT_COMPARE_BEHIND n
      → e.get .ENG_GATE_STAT_BEHIND_HOLD n = x.get .ENG_GATE_STAT_BEHIND_HOLD n → e.get .ENG_GATE_SKIP_BEHIND n = x.get .ENG_GATE_SKIP_BEHIND n
      → s.dev.SameMem e → P e) :
    Answers (.gateCompareHit dt n) s P := by
  refine Answers.of_framed (show _ = execGateCompareHit dt n s from rfl) (execGateCompareHit_frame dt n s) fun hframe => ?_
  have hsame := hframe.sameMem
  have hd' : d = (s.dev.elapse dt).extendTo n ((s.dev.elapse dt).now + (s.dev.elapse dt).leadOf n) := hd
  rw [← hd', hx] at hsame ⊢
  have hf : Frame (Fld.bit .ENG_GATE_STAT_GATE_NOW ||| Fld.bit .ENG_GATE_PULSES_RISES ||| 0x8000000) x ((x.turnTrains n).flushGate n) :=
    ((Dev.turnTrains_frame x n).mono (by decide +kernel)).step' (Dev.flushGate_frame _ n) (by decide +kernel)
  refine h _ (x.turnTrains n).now ?_ (hf.get _ _ _ (by decide +kernel)) (hf.get _ _ _ (by decide +kernel)) (hf.get _ _ _ (by decide +kernel)) hsame
  rw [Dev.flushGate_eng, Dev.turnTrains_alone ht ho hm]

section
variable {s : State} {dt : Nat} {n : Fin 34} {d : Dev} {tr : Train}
  (hd : d = (s.dev.elapse dt).extendTo n (s.dev.now + dt + s.dev.leadOf n)) (ht : (d.eng n).gate.train = some tr)
  (ho : (d.eng n).gate.olds = []) (hm : tr.mode ≠ 0) (hh : tr.hold = false) (hs : tr.step ≠ 0) (hk : tr.next ≤ tr.known)
include hd ht ho hm hh hs hk

/-- A position that is not behind gets its pulse (R160, R161). -/
theorem execGateCompareHit_fires (he : tr.tEnd = none) (hp : tr.timeOf tr.next + tr.width ≤ endOf tr.t0 tr.trace)
    (hb : (d.eng n).gate.early + tr.advOn ≤ tr.timeOf tr.next) :
    Answers (.gateCompareHit dt n) s (fun e =>
      (∃ l ∈ (e.eng n).gate.light, l.rise = tr.timeOf tr.next ∧ l.fall = some (tr.timeOf tr.next + tr.width) ∧ l.cls = tr.cls)
        ∧ (e.eng n).gate.train = some { tr with next := tr.next + tr.step } ∧ s.dev.SameMem e) := by
  obtain ⟨htrain, holds, l, ls, hlight, hl⟩ := Dev.pulseFire_gate (d := d) (n := n) ho he
  refine gateCompareHit_answers hd (Dev.compareHit_ahead ht ho hm hh hs hk he hp hb) htrain holds hm fun e now hgate _ _ _ hsame => ?_
  rw [hgate]
  exact ⟨⟨l, Gate.newest_mem_flushed hlight now, hl⟩, htrain, hsame⟩

/-- A position that is behind stops a train that suppresses what is left of it (R162). -/
theorem execGateCompareHit_holds (hb : tr.timeOf tr.next < (d.eng n).gate.early + tr.advOn) (hp : tr.suppress = true) :
    Answers (.gateCompareHit dt n) s (fun e => e.get .ENG_GATE_STAT_COMPARE_BEHIND n = 1 ∧ e.get .ENG_GATE_STAT_BEHIND_HOLD n = 1
      ∧ e.get .ENG_GATE_SKIP_BEHIND n
          = min (d.get .ENG_GATE_SKIP_BEHIND n + (if tr.tEnd.isSome then tr.left else 0)) (2 ^ Fld.width .ENG_GATE_SKIP_BEHIND - 1)
      ∧ (∀ l ∈ (e.eng n).gate.light, l ∈ (d.eng n).gate.light) ∧ (e.eng n).gate.train = some { tr with hold := true } ∧ s.dev.SameMem e) := by
  obtain ⟨hbehind, hhold, hskip, hgate⟩ := Dev.pulseBehind_holds (d := d) (n := n) ho hp
  refine gateCompareHit_answers hd (Dev.compareHit_behind ht ho hm hh hs hk hb (.inl hp)) (tr := { tr with hold := true }) (by rw [hgate])
    (by rw [hgate]; exact ho) hm fun e now hflushed hb' hh' hs' hsame => ?_
  refine ⟨hb'.trans hbehind, hh'.trans hhold, hs'.trans hskip, fun l hl => ?_, ?_, hsame⟩
  · rw [hflushed, hgate] at hl
    exact Gate.mem_of_mem_flushed hl
  · rw [hflushed, hgate]
    rfl

/-- A position that is behind sends a train that goes on to the first one that is not (R163). -/
theorem execGateCompareHit_skips (he : tr.tEnd = none) (hb : tr.timeOf tr.next < (d.eng n).gate.early + tr.advOn) (hp : tr.suppress = false)
    (hl : (d.eng n).gate.early + tr.advOn ≤ endOf tr.t0 tr.trace) :
    Answers (.gateCompareHit dt n) s (fun e => e.get .ENG_GATE_STAT_COMPARE_BEHIND n = 1
      ∧ e.get .ENG_GATE_SKIP_BEHIND n
          = min (d.get .ENG_GATE_SKIP_BEHIND n + tr.skips ((d.eng n).gate.early + tr.advOn)) (2 ^ Fld.width .ENG_GATE_SKIP_BEHIND - 1)
      ∧ (∀ l ∈ (e.eng n).gate.light, l ∈ (d.eng n).gate.light)
      ∧ (e.eng n).gate.train = some { tr with next := tr.next + tr.skips ((d.eng n).gate.early + tr.advOn) * tr.step }
      ∧ s.dev.SameMem e) := by
  obtain ⟨hbehind, hskip, hgate⟩ := Dev.pulseBehind_skips (d := d) (n := n) ho hp he
  refine gateCompareHit_answers hd (Dev.compareHit_behind ht ho hm hh hs hk hb (.inr hl)) (by rw [hgate])
    (by rw [hgate]; exact ho) (by exact hm) fun e now hflushed hb' _ hs' hsame => ?_
  refine ⟨hb'.trans hbehind, hs'.trans hskip, fun l hl => ?_, ?_, hsame⟩
  · rw [hflushed, hgate] at hl
    exact Gate.mem_of_mem_flushed hl
  · rw [hflushed, hgate]
    rfl

end

/-- Settles O38: a request, a start, an end and the three outcomes of a compare, each by what its step leaves of the engine. -/
theorem recordsPlay : Obligations.RecordsPlay :=
  ⟨fun _ _ _ _ hr hs hc hl h0 h6 => execKerfRequest_requests hr hs hc hl h0 h6,
    fun _ _ _ _ _ hd hf ht hp => execRecordStart_starts hd hf ht hp,
    fun _ _ _ _ _ _ hd hh hs hbl ht hb he hj hcode hreplay horphan hok hkept =>
      execRecordEnd_ends hd hh hs hbl ht hb he ⟨hj, hcode, hreplay, horphan, hok, hkept⟩,
    fun _ _ _ _ _ hd ht ho hm hh hs hk he hp hb => execGateCompareHit_fires hd ht ho hm hh hs hk he hp hb,
    fun _ _ _ _ _ hd ht ho hm hh hs hk hb hp => execGateCompareHit_holds hd ht ho hm hh hs hk hb hp,
    fun _ _ _ _ _ hd ht ho hm hh hs hk he hb hp hl => execGateCompareHit_skips hd ht ho hm hh hs hk he hb hp hl⟩

end Sys2Proof.Machine
end

section
/-! Correction banks (O40). -/

set_option Elab.async false
namespace Sys2Proof.Machine
open Sys2Proof

/-! ### The registers of the banks (R481) -/

theorem Dev.get_putB_self (d : Dev) {f : Fld} (b : Bool) {i j : Nat} (h : f.width = 1 := by decide) : (d.putB f b i j).get f i j = b.toNat :=
  Dev.get_put_of_lt (h ▸ Bool.toNat_lt b)

theorem Bank.crc_lt (b : Bank) : b.crc < 2 ^ 32 := Nat.mod_lt _ (by decide)

/-- The registers show whether the shadow bank is valid, whether a swap is pending, and the shadow bank's CRC. -/
theorem Dev.showCorr_shows (d : Dev) (n : Nat) :
    let c := (d.eng n).corr
    let e := d.showCorr n
    e.get .COR_STAT_SHADOW_VALID n = c.shadow.valid.toNat ∧ e.get .COR_STAT_SWAP_PENDING n = c.pending.isSome.toNat
      ∧ (c.shadow.valid = true → e.get .COR_SHD_CRC_CRC n = c.shadow.crc) := by
  unfold Dev.showCorr
  extract_lets c d₁ d₂ d₃ a dv dz e
  have hshows : d₃.get .COR_STAT_SHADOW_VALID n = c.shadow.valid.toNat ∧ d₃.get .COR_STAT_SWAP_PENDING n = c.pending.isSome.toNat
      ∧ (c.shadow.valid = true → d₃.get .COR_SHD_CRC_CRC n = c.shadow.crc) := by
    refine ⟨?_, ?_, fun hv => ?_⟩
    · simpa [d₃, d₂, d₁] using Dev.get_putB_self d (f := .COR_STAT_SHADOW_VALID) (i := n) c.shadow.valid
    · simpa [d₃] using Dev.get_putB_self d₁ (f := .COR_STAT_SWAP_PENDING) (i := n) c.pending.isSome
    · simp only [d₃, if_pos hv]
      exact Dev.get_put_of_lt c.shadow.crc_lt
  by_cases ha : a.valid = true
  · simpa [e, dv, if_pos ha] using hshows
  · simpa [e, dz, if_neg ha] using hshows

/-! ### Checking the look-ahead again leaves the banks, and what has ended (R177) -/

theorem Engine.endsHere_steady (e : Engine) (before : LRec → Bool) : e.Steady (e.endsHere before) := by
  unfold Engine.endsHere
  split
  · exact ⟨rfl, rfl, rfl, rfl, rfl⟩
  · split
    · rename_i p hp
      refine ⟨?_, rfl, rfl, rfl, rfl⟩
      have hplans : e.plans = e.plans.dropLast ++ [p] := (List.dropLast_append_getLast? p hp).symm
      rw [hplans, List.dropLast_concat, List.map_append, List.map_append]
      refine congrArg _ ?_
      simp only [List.map_cons, List.map_nil, List.cons.injEq, and_true]
      split <;> rfl
    · exact .refl

theorem Engine.Steady.discardRest {a : Engine} {d : Dev} {n : Nat} (h : a.Steady (d.eng n)) (job : Nat) : a.Steady ((d.discardRest n job).eng n) := by
  obtain ⟨v, hv⟩ := d.countScarfs_eng n (d.recsAhead n (· == job))
  unfold Dev.discardRest Dev.discardRecs
  simp only [Dev.eng_put, Dev.eng_modEng_self, hv]
  exact h.trans ⟨rfl, rfl, rfl, rfl, rfl⟩

theorem Engine.Steady.outOfField {a : Engine} {d : Dev} {n : Nat} (h : a.Steady (d.eng n)) (r : LRec) (p : Pt) :
    a.Steady ((d.outOfField n r p).eng n) := by
  have hrec : a.Steady (((d.raise .COR_STAT_OUT_FIELD n).record 0x0304 4 (recSource n 0) 0 (p32 p.x) (p32 p.y)).eng n) :=
    .frame (Dev.record_frame ..) h
  unfold Dev.outOfField
  extract_lets d₁ d₂ d₃
  have h₃ : a.Steady (d₃.eng n) := (hrec.modEng (Engine.endsHere_steady ..)).discardRest r.job
  split
  · exact (h₃.endCut _).restActs
  · exact h₃

theorem Engine.Steady.recheck {a : Engine} {d : Dev} {n : Nat} (h : a.Steady (d.eng n)) (b : Bank) (which : LRec → Bool) :
    a.Steady ((d.recheck n b which).eng n) := by
  unfold Dev.recheck
  refine .modEng (.foldl h fun x _ hx => ?_) ⟨rfl, rfl, rfl, rfl, rfl⟩
  unfold Dev.recheck1
  extract_lets e start pathOf
  split
  · extract_lets gone d₁ d₂
    have h₁ : a.Steady (d₁.eng n) := .foldl hx fun y r hy => .frame (Dev.endClaim_frame ..) hy
    exact (h₁.modEng ⟨rfl, rfl, rfl, rfl, rfl⟩).outOfField ..
  · exact hx

theorem Dev.Done.endCut {d : Dev} {j : Job} {code : Nat} (h : d.Done j code) (n t : Nat) : (d.endCut n t).Done j code := by
  unfold Dev.endCut
  simp only []
  split
  · exact h
  · refine foldl_keep (P := (Dev.Done · j code)) ?_ (fun x k hx => hx.completeAt ..) _
    exact h.of rfl rfl

theorem Dev.Done.outOfField {d : Dev} {j : Job} {code : Nat} (h : d.Done j code) (n : Nat) (r : LRec) (p : Pt) : (d.outOfField n r p).Done j code := by
  have hrec : ((d.raise .COR_STAT_OUT_FIELD n).record 0x0304 4 (recSource n 0) 0 (p32 p.x) (p32 p.y)).Done j code :=
    .frame (Dev.record_frame ..) (h.of rfl rfl)
  unfold Dev.outOfField
  extract_lets d₁ d₂ d₃
  have h₃ : d₃.Done j code := .frame (Dev.discardRest_frame ..) (hrec.frame (Dev.modEng_frame ..))
  split
  · exact Dev.restActs_done (h₃.endCut n _)
  · exact h₃

theorem Dev.Done.recheck {d : Dev} {j : Job} {code : Nat} (h : d.Done j code) (n : Nat) (b : Bank) (which : LRec → Bool) :
    (d.recheck n b which).Done j code := by
  unfold Dev.recheck
  refine Dev.Done.frame (Dev.modEng_frame ..) (foldl_keep (P := (Dev.Done · j code)) h (fun x _ hx => ?_) _)
  unfold Dev.recheck1
  extract_lets e start pathOf
  split
  · extract_lets gone d₁ d₂
    have h₁ : d₁.Done j code := foldl_keep (P := (Dev.Done · j code)) hx (fun y r hy => .frame (Dev.endClaim_frame ..) hy) _
    exact (h₁.frame (Dev.modEng_frame ..)).outOfField ..
  · exact hx

theorem Dev.Done.windowEnd {d : Dev} {j : Job} {code : Nat} (h : d.Done j code) : d.windowEnd.Done j code := by
  unfold Dev.windowEnd
  split
  · extract_lets x
    have hx : x.Done j code := by
      simp only [x]
      split
      · exact (h.frame (Dev.modLayer_frame ..)).completeAt ..
      · exact h
    have hx₀ := x.failedChannel_keeps (by decide : 0 < 2)
    have hx₁ := (x.failedChannel 0).failedChannel_keeps (by decide : 1 < 2)
    exact .frame (Dev.enterState_frame ..) ((hx.of hx₀.1 hx₀.2).of hx₁.1 hx₁.2)
  · exact h

/-! ### After a bank has changed (R49, R177, R179) -/

/-- What a completion, a check of the look-ahead and the end of a boundary window can change. -/
def bankMask : Nat :=
  0x5002000ffe0000000008006080000000000000000000000000000000000000000000000000000000000000000000000000000000000000000020000040023c4000000000000080210000080101ff0c201410000000008a000000110600000000000000002e239d04

/-- What a change of an engine's banks comes to: its banks, its descriptor's end, and what else may have changed. -/
structure Dev.Settled (d e : Dev) (n : Nat) (j : Job) (code : Nat) : Prop where
  steady : (d.eng n).Steady (e.eng n)
  done : e.Done j code
  frame : Frame bankMask d e

section
variable {d e : Dev} {n code : Nat} {j : Job}

theorem Dev.Ends.settled {id : Nat} (h : d.Ends id j) (n code : Nat) : d.Settled (d.complete id code) n j code :=
  ⟨.frame (Dev.complete_frame ..) .refl, h.complete code, (Dev.complete_frame ..).mono (by decide +kernel)⟩

theorem Dev.Settled.recheck (h : d.Settled e n j code) (b : Bank) (which : LRec → Bool) : d.Settled (e.recheck n b which) n j code :=
  ⟨h.steady.recheck b which, h.done.recheck n b which, h.frame.step' (Dev.recheck_frame ..) (by decide +kernel)⟩

theorem Dev.Settled.windowEnd (h : d.Settled e n j code) : d.Settled e.windowEnd n j code :=
  ⟨h.steady.frame (Dev.windowEnd_frame e), h.done.windowEnd, h.frame.step' (Dev.windowEnd_frame e) (by decide +kernel)⟩

end

/-! ### What an engine that has not stopped takes -/

theorem Dev.stopCode_corr {d : Dev} {job op : Nat} {j : Job} (h : d.Takes job op j) (ho : op ∈ [0x34, 0x35, 0x36])
    (hd : (d.eng (d.execEngine j.target)).discard = false) : d.stopCode j = none := by
  have hvector : j.vector = false := by
    simp only [List.mem_cons, List.not_mem_nil, or_false] at ho
    simp only [Job.vector, h.opcode]
    rcases ho with rfl | rfl | rfl <;> decide
  exact Dev.stopCode_none hd (.inl hvector)

section
variable {s : State} {dt job : Nat} {j : Job}

/-! ### Loading (R175, R180) -/

/-- A load that begins takes the shadow bank; its swap, if it asks for one, is pending. -/
theorem execCorLoad_loads {n : Nat} (h : s.dev.Takes job 0x34 j) (hn : s.dev.execEngine j.target = n) (hd : (s.dev.eng n).discard = false)
    (hb : s.dev.corBusy n = false) :
    Answers (.corLoad dt job) s (fun e => (e.eng n).corr.loading = some job ∧ (e.eng n).corr.shadow = {}
      ∧ (e.eng n).corr.active = (s.dev.eng n).corr.active ∧ e.get .COR_STAT_SHADOW_VALID n = 0
      ∧ e.get .COR_STAT_SWAP_PENDING n = (if j.bits 193 192 = 2 then 0 else 1)
      ∧ (e.eng n).stream = (s.dev.eng n).stream ++ (if j.bits 193 192 = 0 then [job] else []) ∧ e.Begun j (s.dev.now + dt)
      ∧ s.dev.OnlyIn e [.COR_STAT, .COR_SHD_CRC, .COR_ACT_X0, .COR_ACT_Y0, .COR_ACT_PITCH, .COR_ACT_CRC] ∧ s.dev.SameMem e) := by
  refine Answers.of_framed (show _ = execCorLoad dt job s from rfl) (execCorLoad_frame dt job s) fun hframe => ?_
  have hsame := hframe.sameMem
  have ht := h.elapse dt
  have hn' : (s.dev.elapse dt).execEngine j.target = n := hn
  have hb' : (s.dev.elapse dt).corBusy n = false := hb
  have hstop : (s.dev.elapse dt).stopCode j = none := Dev.stopCode_corr ht (by decide) (by rw [hn']; exact hd)
  simp only [Dev.withJob_takes ht, Dev.engJob, hstop, hn', hb', Bool.false_eq_true, if_false] at hsame ⊢
  have hbegun := ht.begun
  generalize hx : (if j.bits 193 192 = 0 then _ else _ : Dev) = x at hsame ⊢
  have hload : (x.eng n).corr = { ((s.dev.elapse dt).eng n).corr with
        shadow := {}, loading := some j.id, pending := if j.bits 193 192 = 2 then none else some j.id, boundary := j.bits 193 192 == 1, after := none }
      ∧ (x.eng n).stream = (s.dev.eng n).stream ++ (if j.bits 193 192 = 0 then [job] else [])
      ∧ x.jobs = ((s.dev.elapse dt).begin' j).jobs ∧ x.regs = s.dev.regs := by
    rw [← hx]
    split
    · simp only [Dev.modCorr, Dev.eng_modEng_self, h.id_eq]
      exact ⟨rfl, rfl, rfl, rfl⟩
    · simp only [Dev.modCorr, Dev.eng_modEng_self, List.append_nil]
      exact ⟨rfl, rfl, rfl, rfl⟩
  obtain ⟨hcorr, hstream, hjobs, hregs⟩ := hload
  obtain ⟨hvalid, hpend, -⟩ := x.showCorr_shows n
  have hf := x.showCorr_frame n
  have heng : (x.showCorr n).eng n = x.eng n := hf.eng n (by decide +kernel)
  refine ⟨?_, ?_, ?_, ?_, ?_, ?_, ?_, ?_, hsame⟩
  · rw [heng, hcorr, h.id_eq]
  · rw [heng, hcorr]
  · rw [heng, hcorr]; rfl
  · rw [hvalid, hcorr]; rfl
  · rw [hpend, hcorr]
    split <;> rfl
  · rw [heng, hstream]
  · exact hbegun.of_jobs ((hf.jobs (by decide +kernel)).trans hjobs)
  · have hread : s.dev.OnlyIn x [.COR_STAT, .COR_SHD_CRC, .COR_ACT_X0, .COR_ACT_Y0, .COR_ACT_PITCH, .COR_ACT_CRC] :=
      fun f i k _ => by rw [Dev.get, hregs, Dev.get]
    exact hread.trans (hf.onlyIn (by decide +kernel))

/-- A load waits while another, or a swap, is under way. -/
theorem execCorLoad_waits (h : s.dev.Takes job 0x34 j) (hd : (s.dev.eng (s.dev.execEngine j.target)).discard = false)
    (hb : s.dev.corBusy (s.dev.execEngine j.target) = true) :
    Answers (.corLoad dt job) s (fun e => e.jobs = s.dev.jobs ∧ e.engines = s.dev.engines ∧ s.dev.OnlyAt e [] ∧ s.dev.SameMem e) := by
  refine Answers.of_act (show _ = execCorLoad dt job s from rfl) ?_
  have hb' : (s.dev.elapse dt).corBusy ((s.dev.elapse dt).execEngine j.target) = true := hb
  have hstop : (s.dev.elapse dt).stopCode j = none := Dev.stopCode_corr (h.elapse dt) (by decide) hd
  simp only [Dev.withJob_takes (h.elapse dt), Dev.engJob, hstop, if_pos hb']
  exact ⟨rfl, rfl, Dev.OnlyAt.refl.of_regs rfl, Dev.elapse_sameMem⟩

/-- An image that passes every check makes the shadow bank valid. -/
theorem execCorLoadDone_passes {n : Fin 34} {id : Nat} {b : Bank} (hl : (s.dev.eng n).corr.loading = some id) (h : s.dev.Ends id j)
    (hb : b = { image := (granBytes (j.data.getD [])).take imageLen, valid := true }) (hc : b.check = none) (hw : j.bits 193 192 = 2) :
    Answers (.corLoadDone dt n) s (fun e => (e.eng n).corr.shadow = b ∧ (e.eng n).corr.loading = none
      ∧ e.get .COR_STAT_SHADOW_VALID n = 1 ∧ e.get .COR_SHD_CRC_CRC n = b.crc ∧ e.Done j 0 ∧ s.dev.SameMem e) := by
  refine Answers.of_framed (show _ = execCorLoadDone dt n s from rfl) (execCorLoadDone_frame dt n s) fun hframe => ?_
  have hsame := hframe.sameMem
  have hl' : ((s.dev.elapse dt).eng n).corr.loading = some id := hl
  have hj' : (s.dev.elapse dt).job id = some j := h.held
  have hv : b.valid = true := by rw [hb]
  simp only [hl', Dev.loadDone, hj', ← hb, hc, if_pos hw] at hsame ⊢
  generalize hx : (s.dev.elapse dt).modCorr n (fun c => { c with shadow := b, loading := none }) = x at hsame ⊢
  have hcorr : (x.eng n).corr = { (s.dev.eng n).corr with shadow := b, loading := none } := by
    rw [← hx]; exact congrArg Engine.corr (Dev.eng_modEng_self ..)
  have hends : (x.showCorr n).Ends id j := ((h.elapse dt).frame (hx ▸ Dev.modCorr_frame ..)).frame (Dev.showCorr_frame ..)
  obtain ⟨hvalid, -, hcrc⟩ := x.showCorr_shows n
  have hkeep : ((x.showCorr n).eng n).corr = (x.eng n).corr := by rw [(x.showCorr_frame n).eng n (by decide +kernel)]
  obtain ⟨hst, hdone, hf⟩ := (hends.settled n 0).windowEnd
  have hbank := hst.corr
  rw [hkeep, hcorr] at hbank
  rw [hcorr] at hvalid hcrc
  refine ⟨by rw [hbank], by rw [hbank], ?_, ?_, hdone, hsame⟩
  · rw [hf.get _ _ _ (by decide +kernel), hvalid, hv]; rfl
  · rw [hf.get _ _ _ (by decide +kernel), hcrc hv]

/-- An image that fails a check leaves no valid shadow bank, and its descriptor ends with the check's code. -/
theorem execCorLoadDone_fails {n : Fin 34} {id c : Nat} (hl : (s.dev.eng n).corr.loading = some id) (h : s.dev.Ends id j)
    (hc : Bank.check { image := (granBytes (j.data.getD [])).take imageLen, valid := true } = some c) :
    Answers (.corLoadDone dt n) s (fun e => e.get .COR_STAT_LOAD_ERR n = 1 ∧ e.get .COR_STAT_SHADOW_VALID n = 0
      ∧ (e.eng n).corr.loading = none ∧ e.Done j c ∧ s.dev.SameMem e) := by
  refine Answers.of_framed (show _ = execCorLoadDone dt n s from rfl) (execCorLoadDone_frame dt n s) fun hframe => ?_
  have hsame := hframe.sameMem
  have hl' : ((s.dev.elapse dt).eng n).corr.loading = some id := hl
  have hj' : (s.dev.elapse dt).job id = some j := h.held
  simp only [hl', Dev.loadDone, hj', hc, Dev.checkWaiting] at hsame ⊢
  generalize hx : (s.dev.elapse dt).modCorr n _ = x at hsame ⊢
  have hcorr : (x.eng n).corr.loading = none ∧ (x.eng n).corr.shadow.valid = false := by
    rw [← hx]; simp only [Dev.modCorr, Dev.eng_modEng_self, and_self]
  have hends : ((x.raise .COR_STAT_LOAD_ERR n).showCorr n).Ends id j :=
    (((h.elapse dt).frame (hx ▸ Dev.modCorr_frame ..)).frame (Dev.raise_frame ..)).frame (Dev.showCorr_frame ..)
  obtain ⟨hvalid, -, -⟩ := (x.raise .COR_STAT_LOAD_ERR n).showCorr_shows n
  have hshow := (x.raise .COR_STAT_LOAD_ERR n).showCorr_frame n
  have hkeep : (((x.raise .COR_STAT_LOAD_ERR n).showCorr n).eng n).corr = (x.eng n).corr := by
    rw [hshow.eng n (by decide +kernel)]; rfl
  obtain ⟨hst, hdone, hf⟩ := ((hends.settled n c).recheck (x.eng n).corr.active (fun r => !r.checked)).windowEnd
  have hbank := hst.corr
  rw [hkeep] at hbank
  rw [Dev.eng_raise, hcorr.2] at hvalid
  refine ⟨?_, ?_, by rw [hbank]; exact hcorr.1, hdone, hsame⟩
  · rw [hf.get _ _ _ (by decide +kernel), hshow.get _ _ _ (by decide +kernel)]
    exact Dev.get_raise
  · rw [hf.get _ _ _ (by decide +kernel), hvalid]; rfl

/-! ### Swapping (R179, R180) -/

/-- A swap with a valid shadow bank joins the stream and is pending. -/
theorem execCorSwap_joins {n : Nat} (h : s.dev.Takes job 0x35 j) (hn : s.dev.execEngine j.target = n) (hd : (s.dev.eng n).discard = false)
    (hb : s.dev.corBusy n = false) (hv : (s.dev.eng n).corr.shadow.valid = true) :
    Answers (.corSwap dt job) s (fun e => (e.eng n).corr.pending = some job ∧ (e.eng n).stream = (s.dev.eng n).stream ++ [job]
      ∧ e.get .COR_STAT_SWAP_PENDING n = 1 ∧ e.Begun j (s.dev.now + dt) ∧ s.dev.SameMem e) := by
  refine Answers.of_framed (show _ = execCorSwap dt job s from rfl) (execCorSwap_frame dt job s) fun hframe => ?_
  have hsame := hframe.sameMem
  have ht := h.elapse dt
  have hn' : (s.dev.elapse dt).execEngine j.target = n := hn
  have hb' : (s.dev.elapse dt).corBusy n = false := hb
  have hv' : ((s.dev.elapse dt).eng n).corr.shadow.valid = true := hv
  have hstop : (s.dev.elapse dt).stopCode j = none := Dev.stopCode_corr ht (by decide) (by rw [hn']; exact hd)
  simp only [Dev.withJob_takes ht, Dev.engJob, hstop, hn', hb', hv', Bool.false_eq_true, if_false, if_true, Dev.joinStream] at hsame ⊢
  have hbegun := ht.begun
  generalize hx : Dev.modCorr _ n _ = x at hsame ⊢
  have hjoin : (x.eng n).corr.pending = some job ∧ (x.eng n).stream = (s.dev.eng n).stream ++ [job] := by
    rw [← hx, h.id_eq]
    simp only [Dev.modCorr, Dev.eng_modEng_self]
    exact ⟨trivial, rfl⟩
  have hjobs : x.jobs = ((s.dev.elapse dt).begin' j).jobs := by rw [← hx]; rfl
  obtain ⟨-, hpend, -⟩ := x.showCorr_shows n
  have hf := x.showCorr_frame n
  have heng : (x.showCorr n).eng n = x.eng n := hf.eng n (by decide +kernel)
  refine ⟨by rw [heng]; exact hjoin.1, by rw [heng]; exact hjoin.2, ?_, hbegun.of_jobs ((hf.jobs (by decide +kernel)).trans hjobs), hsame⟩
  rw [hpend, hjoin.1]; rfl

/-- A swap with no valid shadow bank completes and does nothing. -/
theorem execCorSwap_refused (h : s.dev.Takes job 0x35 j) (hd : (s.dev.eng (s.dev.execEngine j.target)).discard = false)
    (hb : s.dev.corBusy (s.dev.execEngine j.target) = false) (hv : (s.dev.eng (s.dev.execEngine j.target)).corr.shadow.valid = false) :
    Answers (.corSwap dt job) s (fun e => e.Done j 0x0271 ∧ e.engines = s.dev.engines ∧ s.dev.SameMem e) := by
  refine Answers.of_framed (show _ = execCorSwap dt job s from rfl) (execCorSwap_frame dt job s) fun hframe => ?_
  have hsame := hframe.sameMem
  have ht := h.elapse dt
  have hb' : (s.dev.elapse dt).corBusy ((s.dev.elapse dt).execEngine j.target) = false := hb
  have hv' : ((s.dev.elapse dt).eng ((s.dev.elapse dt).execEngine j.target)).corr.shadow.valid = false := hv
  have hstop : (s.dev.elapse dt).stopCode j = none := Dev.stopCode_corr ht (by decide) hd
  simp only [Dev.withJob_takes ht, Dev.engJob, hstop, hb', hv', Bool.false_eq_true, if_false] at hsame ⊢
  rw [h.id_eq] at hsame ⊢
  exact ⟨ht.complete 0x0271 rfl rfl, (Dev.complete_frame ..).engines (by decide +kernel), hsame⟩

/-- A swap at its point exchanges the banks and completes. -/
theorem execCorBankSwap_swaps {n : Fin 34} {id : Nat} (hdue : (s.dev.elapse dt).swapDue n = true) (hp : (s.dev.eng n).corr.pending = some id)
    (h : s.dev.Ends id j) :
    Answers (.corBankSwap dt n) s (fun e => (e.eng n).corr.active = (s.dev.eng n).corr.shadow
      ∧ (e.eng n).corr.shadow = (s.dev.eng n).corr.active ∧ (e.eng n).corr.pending = none ∧ e.get .COR_STAT_SWAP_PENDING n = 0
      ∧ e.get .COR_STAT_ACTIVE_BANK n = 1 - s.dev.get .COR_STAT_ACTIVE_BANK n ∧ e.Done j 0 ∧ s.dev.SameMem e) := by
  refine Answers.of_when (show _ = execCorBankSwap dt n s from rfl) (execCorBankSwap_frame dt n s) hdue fun hframe => ?_
  have hsame := hframe.sameMem
  have hp' : ((s.dev.elapse dt).eng n).corr.pending = some id := hp
  simp only [Dev.swapBanks, hp'] at hsame ⊢
  generalize hx : (s.dev.elapse dt).modCorr n _ = x at hsame ⊢
  have hcorr : (x.eng n).corr = { (s.dev.eng n).corr with
      active := (s.dev.eng n).corr.shadow, shadow := (s.dev.eng n).corr.active, pending := none, after := none, boundary := false } := by
    rw [← hx]; exact congrArg Engine.corr (Dev.eng_modEng_self ..)
  have hbit : x.get .COR_STAT_ACTIVE_BANK n = s.dev.get .COR_STAT_ACTIVE_BANK n := by rw [← hx]; rfl
  generalize hy : x.put .COR_STAT_ACTIVE_BANK (1 - x.get .COR_STAT_ACTIVE_BANK n) n = y at hsame ⊢
  have hy' : y.get .COR_STAT_ACTIVE_BANK n = 1 - x.get .COR_STAT_ACTIVE_BANK n := by
    rw [← hy]; exact Dev.get_put_of_lt (Nat.lt_of_le_of_lt (Nat.sub_le ..) (by decide))
  have hyeng : (y.eng n).corr = (x.eng n).corr := by rw [← hy]; rfl
  have hends : (y.showCorr n).Ends id j :=
    (((h.elapse dt).frame (hx ▸ Dev.modCorr_frame ..)).frame (hy ▸ Dev.put_frame ..)).frame (Dev.showCorr_frame ..)
  obtain ⟨-, hpend, -⟩ := y.showCorr_shows n
  have hshow := y.showCorr_frame n
  have hkeep : ((y.showCorr n).eng n).corr = (x.eng n).corr := by rw [hshow.eng n (by decide +kernel), hyeng]
  obtain ⟨hst, hdone, hf⟩ := ((hends.settled n 0).recheck (((y.showCorr n).complete id 0).eng n).corr.active (fun _ => true)).windowEnd
  have hbank := hst.corr
  rw [hkeep, hcorr] at hbank
  rw [hyeng, hcorr] at hpend
  refine ⟨by rw [hbank], by rw [hbank], by rw [hbank], ?_, ?_, hdone, hsame⟩
  · rw [hf.get _ _ _ (by decide +kernel), hpend]; rfl
  · rw [hf.get _ _ _ (by decide +kernel), hshow.get _ _ _ (by decide +kernel), hy', hbit]

/-! ### Saving, and an engine that has stopped (R148, R180, R481) -/

/-- A save writes the image of a valid active bank. -/
theorem execCorSave_saves {b : Bank} (h : s.dev.Takes job 0x36 j) (hd : (s.dev.eng (s.dev.execEngine j.target)).discard = false)
    (hb : (s.dev.eng (s.dev.execEngine j.target)).corr.active = b) (hv : b.valid = true)
    (hr : s.dev.rangeCause j.fn j.addr b.image.length false true = none) (hw : s.dev.mayWrite j.fn = true) (hh : (s.dev.fn j.fn).held = []) :
    Answers (.corSave dt job) s (fun e => e.host.Wrote s.dev.host j.addr b.image ∧ e.Done j 0 ∧ e.dram = s.dev.dram ∧ e.flash = s.dev.flash) := by
  refine Answers.of_act (show _ = execCorSave dt job s from rfl) ?_
  have ht := h.elapse dt
  have hb' : ((s.dev.elapse dt).eng ((s.dev.elapse dt).execEngine j.target)).corr.active = b := hb
  have hstop : (s.dev.elapse dt).stopCode j = none := Dev.stopCode_corr ht (by decide) hd
  simp only [Dev.withJob_takes ht, Dev.engJob, hstop, hb', if_pos hv]
  exact ht.saved 0 rfl rfl hr hw hh

/-- A save with no valid active bank completes and writes nothing. -/
theorem execCorSave_refused (h : s.dev.Takes job 0x36 j) (hd : (s.dev.eng (s.dev.execEngine j.target)).discard = false)
    (hv : (s.dev.eng (s.dev.execEngine j.target)).corr.active.valid = false) :
    Answers (.corSave dt job) s (fun e => e.Done j 0x0272 ∧ s.dev.SameMem e) := by
  refine Answers.of_act (show _ = execCorSave dt job s from rfl) ?_
  have ht := h.elapse dt
  have hv' : ((s.dev.elapse dt).eng ((s.dev.elapse dt).execEngine j.target)).corr.active.valid = false := hv
  have hstop : (s.dev.elapse dt).stopCode j = none := Dev.stopCode_corr ht (by decide) hd
  simp only [Dev.withJob_takes ht, Dev.engJob, hstop, hv', Bool.false_eq_true, if_false]
  rw [h.id_eq]
  exact ⟨ht.complete 0x0272 rfl rfl, Dev.elapse_sameMem.trans (Dev.complete_frame ..).sameMem⟩

/-- An engine that a channel fault has stopped ends each of its correction descriptors. -/
theorem corr_stopped {op : Nat} (ho : op ∈ [0x34, 0x35, 0x36]) (h : s.dev.Takes job op j)
    (hd : (s.dev.eng (s.dev.execEngine j.target)).discard = true) :
    Answers (if op = 0x34 then .corLoad dt job else if op = 0x35 then .corSwap dt job else .corSave dt job) s
      (fun e => e.Done j 0x0251 ∧ e.engines = s.dev.engines ∧ s.dev.SameMem e) := by
  have hd' : ((s.dev.elapse dt).eng ((s.dev.elapse dt).execEngine j.target)).discard = true := hd
  have hstop : (s.dev.elapse dt).stopCode j = some 0x0251 := by simp [Dev.stopCode, hd']
  have hends (f : Dev → Job → Dev → Dev) := Dev.engJob_stopped (h.elapse dt) hstop f
  have hstopped (c : Instr) (f : Dev → Job → Dev → Dev) (hc : exec c s = s.act dt (fun d => d.withJob job op (fun d j => d.engJob j (f d j)))) :
      Answers c s (fun e => e.Done j 0x0251 ∧ e.engines = s.dev.engines ∧ s.dev.SameMem e) :=
    Answers.of_act hc ⟨(hends f).1, (hends f).2.1, Dev.elapse_sameMem.trans (hends f).2.2⟩
  simp only [List.mem_cons, List.not_mem_nil, or_false] at ho
  rcases ho with rfl | rfl | rfl
  · exact hstopped (.corLoad dt job) _ (show _ = execCorLoad dt job s from rfl)
  · exact hstopped (.corSwap dt job) _ (show _ = execCorSwap dt job s from rfl)
  · exact hstopped (.corSave dt job) _ (show _ = execCorSave dt job s from rfl)

/-! ### An error of the shadow bank (R181) -/

theorem execCorEccError_shadow {n : Fin 34} (hp : (s.dev.eng n).corr.pending = none) :
    Answers (.corEccError dt n false) s (fun e => (e.eng n).corr.shadow.valid = false ∧ e.get .COR_STAT_ECC_ERR n = 1
      ∧ e.get .COR_STAT_SHADOW_VALID n = 0 ∧ (e.eng n).corr.active = (s.dev.eng n).corr.active ∧ s.dev.SameMem e) := by
  refine Answers.of_act (show _ = execCorEccError dt n false s from rfl) ?_
  have hp' : (if ((s.dev.elapse dt).eng n).corr.loading.isNone then ((s.dev.elapse dt).eng n).corr.pending else none) = none := by
    split
    · exact hp
    · rfl
  simp only [Bool.false_eq_true, if_false, hp']
  generalize hx : Dev.raise _ .COR_STAT_ECC_ERR n = x
  have hcorr : (x.eng n).corr.shadow.valid = false ∧ (x.eng n).corr.active = (s.dev.eng n).corr.active := by
    rw [← hx, Dev.eng_raise]
    simp only [Dev.modCorr, Dev.eng_modEng_self]
    exact ⟨trivial, rfl⟩
  obtain ⟨hvalid, -, -⟩ := x.showCorr_shows n
  have hf := x.showCorr_frame n
  have heng : (x.showCorr n).eng n = x.eng n := hf.eng n (by decide +kernel)
  have hsame : s.dev.SameMem x := hx ▸ (Dev.elapse_sameMem.trans (Dev.modCorr_frame ..).sameMem).trans (Dev.raise_frame ..).sameMem
  refine ⟨by rw [heng]; exact hcorr.1, ?_, ?_, by rw [heng]; exact hcorr.2, hsame.trans hf.sameMem⟩
  · rw [hf.get _ _ _ (by decide +kernel), ← hx]
    exact Dev.get_raise
  · rw [hvalid, hcorr.1]; rfl

end

/-- Settles O40: each correction descriptor by what it leaves of the engine's banks, and each change of a bank by what its completion, the check
of the look-ahead and the end of a boundary window keep. -/
theorem correctionBanks : Obligations.CorrectionBanks :=
  ⟨fun _ _ _ _ _ h hn _ hd hb => execCorLoad_loads h hn hd hb,
    fun _ _ _ _ h hd hb => execCorLoad_waits h hd hb,
    fun _ _ _ _ _ _ hl hj hb hc hw hcode hreplay horphan hok hkept =>
      execCorLoadDone_passes hl ⟨hj, hcode, hreplay, horphan, hok, hkept⟩ hb hc hw,
    fun _ _ _ _ _ _ hl hj hc hcode hreplay horphan hok hkept => execCorLoadDone_fails hl ⟨hj, hcode, hreplay, horphan, hok, hkept⟩ hc,
    fun _ _ _ _ _ h hn _ hd hb hv => execCorSwap_joins h hn hd hb hv,
    fun _ _ _ _ _ h hn hd hb hv => by
      subst hn
      exact execCorSwap_refused h hd hb hv,
    fun _ _ _ _ _ hdue hp hj hcode hreplay horphan hok hkept => execCorBankSwap_swaps hdue hp ⟨hj, hcode, hreplay, horphan, hok, hkept⟩,
    fun _ _ _ _ _ h hd hb hv hr hw hh => execCorSave_saves h hd hb hv hr hw hh,
    fun _ _ _ _ h hd hv => execCorSave_refused h hd hv,
    fun _ _ _ _ _ ho h hd => corr_stopped ho h hd,
    fun _ _ _ hp => execCorEccError_shadow hp⟩

end Sys2Proof.Machine
end
